-- ==== Sys2Proof/Word.lean ====
section
/-!
DEFINITION. Word.lean: the word types and their plainest arithmetic: octets, bit fields of a number (bit 0 the least
significant, R5), signed readings and serial comparison (R528). Values a register or a structure holds as bits are
numbers below a power of two; the Tablature accumulator is a 32-bit vector.
-/
namespace Sys2Proof

/-- One octet. -/
abbrev Byte := BitVec 8

/-- A 32-bit word. -/
abbrev Word := BitVec 32

/-- One 64-octet Fretboard word or cell: octet `i` is bits `8i+7 : 8i`. -/
abbrev Line := BitVec 512

/-- Bits `lo + w - 1 : lo` of `v`. -/
def bits (v lo w : Nat) : Nat := v / 2 ^ lo % 2 ^ w

/-- Bit `i` of `v`. -/
def bitAt (v i : Nat) : Bool := v / 2 ^ i % 2 == 1

/-- 1 for true, 0 for false. -/
def b2n (b : Bool) : Nat := if b then 1 else 0

/-- `v` with bits `lo + w - 1 : lo` replaced by the low `w` bits of `x`. -/
def setBits (v lo w x : Nat) : Nat :=
  v - bits v lo w * 2 ^ lo + x % 2 ^ w * 2 ^ lo

/-- `v` with bit `i` set to `b`. -/
def setBit (v i : Nat) (b : Bool) : Nat := setBits v i 1 (b2n b)

/-- The two's complement reading of the low `w` bits of `v`. -/
def toSigned (w v : Nat) : Int :=
  if v % 2 ^ w < 2 ^ (w - 1) then ((v % 2 ^ w : Nat) : Int) else ((v % 2 ^ w : Nat) : Int) - ((2 ^ w : Nat) : Int)

/-- The `w`-bit two's complement encoding of `x`. -/
def ofSigned (w : Nat) (x : Int) : Nat := (x % ((2 ^ w : Nat) : Int)).toNat

/-- Serial arithmetic on `n`-bit values (R528): `b` is newer than `a`. -/
def newer (n b a : Nat) : Bool :=
  let d := (b % 2 ^ n + 2 ^ n - a % 2 ^ n) % 2 ^ n
  decide (1 ≤ d ∧ d ≤ 2 ^ (n - 1) - 1)

/-- A counter one higher that stays at `m` (saturates). -/
def satInc (m v : Nat) : Nat := if v < m then v + 1 else m

/-- A sum that stays at `m` (saturates). -/
def satAdd (m v d : Nat) : Nat := if v + d < m then v + d else m

/-- A value clipped into the signed range of `w` bits. -/
def clampSigned (w : Nat) (x : Int) : Int :=
  max (-((2 ^ (w - 1) : Nat) : Int)) (min x (((2 ^ (w - 1) : Nat) : Int) - 1))

/-- The number of set bits among the low `n` bits of `v`. -/
def popCount : Nat → Nat → Nat
  | 0, _ => 0
  | n + 1, v => v % 2 + popCount n (v / 2)

/-- Octets `o` to `o + n - 1` of a line, the lowest least significant (R6). -/
def Line.field (d : Line) (o n : Nat) : Nat := bits d.toNat (8 * o) (8 * n)

/-- The little-endian octets of `v`, `n` of them. -/
def octetsLE : Nat → Nat → List Byte
  | 0, _ => []
  | n + 1, v => BitVec.ofNat 8 v :: octetsLE n (v / 256)

/-- The number whose little-endian octets are `l`. -/
def ofOctetsLE : List Byte → Nat
  | [] => 0
  | b :: l => b.toNat + 256 * ofOctetsLE l

/-- The number whose big-endian octets are `l`. -/
def ofOctetsBE (l : List Byte) : Nat := l.foldl (fun a b => a * 256 + b.toNat) 0

end Sys2Proof
end

