-- ==== Sys2Proof/Syntax.lean ====
section
/-!
DEFINITION. Syntax.lean: the commands. `Instr` has one constructor per row of spec/opcode_table.json, with the operands
the row's event carries: the requester of a register access, the words, frames and messages that arrive, the quantities
measured at the moment (a time that has passed, a voltage, a sample), which the spec's rules judge.
-/
namespace Sys2Proof

/-- One word on the Fretboard with its sideband (spec/01, the table before R16). -/
structure FWord where
  dest   : BitVec 5
  src    : BitVec 5
  kind   : BitVec 3
  tag    : BitVec 8
  last   : Bool
  valid  : BitVec 6
  poison : BitVec 16
  data   : Line
  deriving DecidableEq, Repr

/-- The header sector of a Primer bank (R91). -/
structure PrimerHdr where
  magic    : BitVec 32
  format   : BitVec 16
  hdrLen   : BitVec 16
  sequence : BitVec 32
  bodyLen  : BitVec 32
  cabinet  : BitVec 32
  keyId    : BitVec 16
  hash     : BitVec 384
  sig      : BitVec 768
  deriving DecidableEq, Repr

/-- A configuration body as the model holds it (assumption 6): the values of the P fields, by field key, and the octets
it loads into system SRAM, by address. -/
structure CfgBody where
  pvals : List (Nat × Nat)
  mem   : List (Nat × Byte)
  /-- The scan program's retain initialisation section (R291): octets of retain RAM by offset, and the length in use. -/
  retain    : List (Nat × Byte)
  retainLen : Nat
  /-- The calendar, as octets; empty: none. -/
  calendar  : List Byte
  /-- The admitted nodes: slot, EUI-64, group and multicast bits. -/
  nodes     : List (Nat × Nat × Nat × Nat)
  /-- The queues it names (R110): queue, PROFILE, CONSUMER, NOTIFY_EN. -/
  queues    : List (Nat × Nat × Nat × Bool)
  /-- The learned baselines of Sounding (R270), by 4 × feeder + 2 × kind + state: their octets. -/
  baselines : List (Nat × List Byte)
  deriving DecidableEq, Repr

/-- One Primer bank: its header sector (none: erased) and its body. -/
structure PrimerBank where
  hdr  : Option PrimerHdr
  body : CfgBody
  deriving DecidableEq, Repr

/-- The Primer device of the slot (R62, R63): what its identification and its tables say, and its two banks. -/
structure PrimerDev where
  jedec    : BitVec 24
  sfdp     : Bool
  sfdpHdr  : List Word
  bfpt     : List Word
  fourBA   : List Word
  revB     : Bool
  density  : Nat
  erase4k  : Bool
  read114  : Bool
  bank0    : PrimerBank
  bank1    : PrimerBank
  deriving DecidableEq, Repr

/-- The slot's side of J8 when PRESENT_N mates: the address straps, the lever, the Primer. -/
structure SlotSide where
  straps      : BitVec 6
  leverClosed : Bool
  primer      : Option PrimerDev
  deriving DecidableEq, Repr

/-- Causes of a module reset (R84, SYS_RESET_CAUSE). -/
inductive ResetCause where
  | sysRestart | eject | watchdog | activation
  deriving DecidableEq, Repr

/-- Why a slot bus frame is discarded (R69). -/
inductive FrameError where
  | crc | sof | len
  deriving DecidableEq, Repr

/-- Causes of a domain fault (R430). -/
inductive FaultCause where
  | supply | selfTest | timing
  deriving DecidableEq, Repr

/-- A tag error met when a cell's tag is read (R113). -/
inductive TagError where
  | none | single | double
  deriving DecidableEq, Repr

/-- What the model holds of a PTP message (R396): its fields as the spec's rules use them. `corr` is the correctionField
and `time` the message's timestamp, both in 2⁻¹⁶ ns; `source` and `asker` are the port identities that send it and, in a
Delay_Resp, that it answers; `an` and `pn` the SecTAG it comes or goes under on a ring port (R338). -/
structure PtpMsg where
  version  : BitVec 4
  minorVer : BitVec 4
  majorSdo : BitVec 4
  minorSdo : BitVec 8
  domain   : Byte
  seq      : BitVec 16
  twoStep  : Bool
  gm       : BitVec 64
  corr     : Int
  time     : Int
  source   : BitVec 80
  asker    : BitVec 80
  an       : BitVec 2
  pn       : BitVec 64
  deriving DecidableEq, Repr

/-- The fields of an Announce (R396, R403). -/
structure PtpAnnounce where
  prio1     : Byte
  clockClass : Byte
  accuracy  : Byte
  variance  : BitVec 16
  prio2     : Byte
  ptpTimescale : Bool
  utcOffset : BitVec 16
  utcValid  : Bool
  leap61    : Bool
  leap59    : Bool
  deriving DecidableEq, Repr

/-- A MAC frame of the field network (R157, R158): its header and security fields in the clear, its payload decrypted. -/
structure FieldFrame where
  typ     : BitVec 3
  sec     : Bool
  ackReq  : Bool
  more    : Bool
  exp     : Bool
  up      : Bool
  ver     : BitVec 4
  seq     : Byte
  modId   : BitVec 14
  slot    : BitVec 14
  flow    : BitVec 6
  fcnt    : Word
  keyIdx  : Byte
  payload : List Byte
  deriving DecidableEq, Repr

/-- An allocation entry of a beacon (R162). -/
structure Alloc where
  first : BitVec 7
  len   : BitVec 3
  up    : Bool
  wake  : Bool
  slot  : BitVec 14
  deriving DecidableEq, Repr

/-- What a receiver measured of what a node sent: its start less its nominal start in ns with the PHY delay removed (R173),
link quality and RSSI. -/
structure RxInfo where
  measured : Int
  lqi      : Byte
  rssi     : Byte
  deriving DecidableEq, Repr

/-- A node's frame as received: on carrier the PHY header's bits (R145); the octets of the MAC frame and its FCS; the payload that
CCM* opens under the frame's key, none where the MIC fails (R158); what was measured of it, and the tone map that the module
computes from the channel where it sets one anew (R145): whether from the node, its index and the codes of the 742 carriers. -/
structure FieldRx where
  phy      : BitVec 64
  octets   : List Byte
  clear    : Option (List Byte)
  info     : RxInfo
  tone     : Option (Bool × BitVec 3 × List (BitVec 4))
  deriving DecidableEq, Repr

/-- What the converters deliver for one sample (R232), by list index: the low-gain code of each of the 32 channels, the high-gain
code of channels 4 to 19; and the channels of 0 to 2 whose half cycle ends with it (R255). -/
structure GaugeSample where
  lo   : List Int
  hi   : List Int
  half : List Nat
  deriving DecidableEq, Repr

/-- The angles measured over a line cycle (R255), in 0.01°: of L2 and L3 after L1, and of each feeder from its PHASE. -/
structure LineCycle where
  angL2   : Nat
  angL3   : Nat
  feedAng : List Nat
  deriving DecidableEq, Repr

/-- A ring frame: AN and packet number of its SecTAG (R338), the EtherType of its secure data (R339), its header fields and
its payload (R340). -/
structure RingFrame where
  an      : BitVec 2
  pn      : BitVec 64
  ethType : BitVec 16
  typ     : BitVec 4
  tc      : BitVec 2
  path    : Bool
  bcast   : Bool
  dst     : BitVec 14
  src     : BitVec 14
  seq     : Word
  hops    : Byte
  epoch   : Byte
  queueOfs : BitVec 12
  payload : List Byte
  deriving DecidableEq, Repr

/-- The inputs of the tamper monitor (R460). -/
inductive TamperKind where
  | lid | mesh | door
  deriving DecidableEq, Repr

/-- The J7 inputs and the door input as the IO block holds them at a local latch (R283): DI_0 to DI_31, AI_0 and AI_1 in mV,
the door closed. -/
structure IoPins where
  di   : BitVec 32
  ai0  : BitVec 16
  ai1  : BitVec 16
  door : Bool
  deriving DecidableEq, Repr

/-- What names an HCP request at the module that executes it: session slot, transaction ID, and whether it came from the
gateway on the ring or from an association of this module's own port (R367, R383). -/
structure HcpHdr where
  session : Fin 4
  tid     : BitVec 16
  ring    : Bool
  deriving DecidableEq, Repr

/-- A control-transfer segment (R374). -/
structure CtSeg where
  ctId  : BitVec 16
  kind  : Byte
  flags : Byte
  ofs   : BitVec 32
  total : BitVec 32
  crc   : BitVec 32
  data  : List Byte
  deriving DecidableEq, Repr

/-- What the lamp drive measured over a frame: mean V_OUT in 10 mV and current in mA by string, the highest row current in
mA. -/
structure LampMeas where
  strings : List (BitVec 16 × BitVec 16)
  rowMa   : BitVec 16
  deriving DecidableEq, Repr

/-- What a word on the Fretboard names at its destination (R529, R34): an address of R33, a unit of R14 by its power domain, or
nothing that tells one unit of the port from another. -/
inductive WordTarget where
  | none
  | addr (a : BitVec 40)
  | unit (d : Fin 50)
  deriving DecidableEq, Repr

/-- The commands: one constructor per row of spec/opcode_table.json, in the table's order. -/
inductive Instr where
  /-- REGISTER_WRITE (R41): A write of `size` octets by requester `req` (0 to 31 a Fretboard source port, 32 to 35 an HCP session). -/
  | registerWrite (req : Fin 36) (addr : BitVec 40) (size : Fin 65) (value : BitVec 32)
  /-- LOW_WORD_READ (R38): A read of the low word of a 64-bit register pair. -/
  | lowWordRead (req : Fin 36) (addr : BitVec 40)
  /-- WORD_CROSSING (R16): The source puts `offered`, where given, at the end of its lane, and the lane's first word crosses; `names` is what it names there; `cyclePs` and `load` are the 1 ms means measured at the crossing. -/
  | wordCrossing (src dst : Fin 32) (offered : Option FWord) (names : WordTarget) (cyclePs : BitVec 16) (load : BitVec 8)
  /-- FRET_PORT_CLEAR (R17): A write of CLEAR to FRET_PORT_STAT[port]. -/
  | fretPortClear (req : Fin 36) (port : Fin 32)
  /-- LOGIC_POWER_TRIM (R29): The 10 ms mean logic power, in 10 mW. -/
  | logicPowerTrim (mean10mW : BitVec 16)
  /-- TRIM_END (R29): The 10 ms mean, below 60.0 W for `belowMs`. -/
  | trimEnd (mean10mW : BitVec 16) (belowMs : Nat)
  /-- SUPPLY_MATE (R75): The J1 supply pins mate. -/
  | supplyMate
  /-- PRESENT_MATE (R75): PRESENT_N mates with the slot described by `side`. -/
  | presentMate (side : SlotSide)
  /-- RESET_RELEASE (R75): PRESENT_N and LEVER_N have both been low for `lowMs`. -/
  | resetRelease (lowMs : Nat)
  /-- POWER_ON_RESET (R84): A power-on reset. -/
  | powerOnReset
  /-- MODULE_RESET (R84): A module reset for `cause`. -/
  | moduleReset (cause : ResetCause)
  /-- FIRMWARE_RESTART (R84): A firmware restart. -/
  | firmwareRestart (byWatchdog : Bool)
  /-- ISLAND_LOSS (R84): The coin cell and the logic supply are both absent. -/
  | islandLoss
  /-- SYS_RESTART_FIRMWARE (R84): A write of KEY and KIND 0x1 to SYS_RESTART. -/
  | sysRestartFirmware (req : Fin 36) (key : BitVec 16)
  /-- SYS_RESTART_MODULE (R84): A write of KEY and KIND 0x2 to SYS_RESTART. -/
  | sysRestartModule (req : Fin 36) (key : BitVec 16)
  /-- WATCHDOG_KICK (R85): A write of `value` to SYS_WDOG. -/
  | watchdogKick (req : Fin 36) (value : BitVec 16)
  /-- WATCHDOG_EXPIRY (R85): `sinceKickMs` have passed without a kick. -/
  | watchdogExpiry (sinceKickMs : Nat)
  /-- BOOT_LIMIT_EXPIRY (R85): `sinceReleaseMs` have passed since reset release without a first kick. -/
  | bootLimitExpiry (sinceReleaseMs : Nat)
  /-- COLD_START (R88): The steps of R88 up to the configuration load; PD49 has been OFF for `offPeriods` periods of the island's 32.768 kHz clock; Course 0 or system SRAM fails its self-test `selfTestFailures` times; whether the supervisor sections of slots A and B verify; the Primer read lasts `primerUs`, and where not `readDone` it is still under way in step 6. -/
  | coldStart (offPeriods selfTestFailures : Nat) (okA okB : Bool) (primerUs : BitVec 32) (readDone : Bool)
  /-- SURVIVAL_SET_REACHED (R90): Step 8 of R88 completes `ms` after reset release. -/
  | survivalSetReached (ms : BitVec 16)
  /-- FULL_SERVICE_BRINGUP (R99): The rows of R99; the units of the domains `failed` fail their self-test. -/
  | fullServiceBringup (failed : List (Fin 50))
  /-- FULL_SERVICE_REACHED (R100): Every row of R99 is complete `ms` after reset release. -/
  | fullServiceReached (ms : BitVec 16)
  /-- PRIMER_READ (R63): The read of R63, or the rest of one under way, lasting `us`; where not `done` it is still under way in step 6. -/
  | primerRead (us : BitVec 32) (done : Bool)
  /-- SETTINGS_COPY_WRITE (R94): The supervisor writes the settings-region copy. -/
  | settingsCopyWrite
  /-- PRIMER_WRITE_BACK (R65): The accepted write-back goes on by up to `pages` programmed pages. -/
  | primerWriteBack (pages : Nat)
  /-- PRIMER_WB_COMPLETE (R65): The write-back ends. -/
  | primerWbComplete (compareOk : Bool)
  /-- PING (R71): A PING request to slot address `addr`; here and in every slot bus frame below, `quietUs` of quiet lie between the last transition before it, the module's own included, and its first. -/
  | ping (addr : BitVec 6) (quietUs : Nat)
  /-- WAKE (R73): A WAKE request; `inWindow` when it arrives in a domain's entry window. -/
  | wake (addr : BitVec 6) (level : Byte) (inWindow : Bool) (quietUs : Nat)
  /-- STATUS (R71): A STATUS request. -/
  | status (addr : BitVec 6) (quietUs : Nat)
  /-- SLOT_BAD_REQUEST (R71): A request with an unknown CMD, a reserved payload or a wrong LEN. -/
  | slotBadRequest (addr : BitVec 6) (cmd : Byte) (payload : List Byte) (quietUs : Nat)
  /-- SLOT_FRAME_DISCARD (R69): A frame with a wrong CRC, SOF or LEN. -/
  | slotFrameDiscard (why : FrameError) (quietUs : Nat)
  /-- SLOT_RESPONSE_SEND (R72): The response that is due is sent. -/
  | slotResponseSend
  /-- SLOT_BUS_COLLISION (R534): A wire moves against the module while it sends. -/
  | slotBusCollision
  /-- SLOT_FRAME_TIMEOUT (R74): A frame has not ended `periods` periods of the 32.768 kHz clock after it began, `quietUs` after the last frame ended. -/
  | slotFrameTimeout (periods quietUs : Nat)
  /-- IDLE_PATTERN (R74): `transitions` alternating transitions followed by `quietUs` of quiet. -/
  | idlePattern (transitions quietUs : Nat)
  /-- LOOP_TEST_START (R76): The loop test of ring A (0) or B (1) starts. -/
  | loopTestStart (ring : Fin 2)
  /-- LOOP_TEST_END (R76): The test ends after `ms`; each port held block lock with no errored block or did not. -/
  | loopTestEnd (ring : Fin 2) (eastOk westOk : Bool) (ms : Nat)
  /-- LOOP_TEST_RETRY (R77): `sinceMs` have passed since the last failed test. -/
  | loopTestRetry (ring : Fin 2) (sinceMs : Nat)
  /-- SLOT_BYPASS_CTRL (R76): A write of HOLD_EN_A and HOLD_EN_B. -/
  | slotBypassCtrl (req : Fin 36) (holdA holdB : Bool)
  /-- BYPASS_STATE_MISMATCH (R78): BYPASS_STATE has read `level` against BYPASS_HOLD for `ms`. -/
  | bypassStateMismatch (ring : Fin 2) (level : Bool) (ms : Nat)
  /-- EJECT_PREPARATION (R80): LEVER_N has been high for `highUs`; preparation takes `prepUs`. -/
  | ejectPreparation (highUs prepUs : Nat)
  /-- PRESENCE_LOSS (R81): PRESENT_N has been high for `highUs` with the lever closed. -/
  | presenceLoss (highUs prepUs : Nat)
  /-- PRESENCE_RETURN (R81): PRESENT_N returns after a presence loss. -/
  | presenceReturn
  /-- EJECT_RESTART (R82): PRESENT_N and LEVER_N have both been low for `lowMs`. -/
  | ejectRestart (lowMs : Nat)
  /-- OPEN (R115): A write word reaching Pegbox port 16 + `k` on an idle context; `upsets`: cells whose tags have been upset. -/
  | pegOpen (k : Fin 4) (w : FWord) (upsets : List (BitVec 19 × TagError))
  /-- PEG_DATA_WORD (R116): A write word of an open or discarding context; `upsets` as for OPEN. -/
  | pegDataWord (w : FWord) (upsets : List (BitVec 19 × TagError))
  /-- PEG_COMMIT (R117): The bank group acknowledges the cell of the LAST word of a context. -/
  | pegCommit (port : Fin 32) (tag : Byte)
  /-- CTX_TIMEOUT (R119): The idle limit of an open context. -/
  | ctxTimeout (port : Fin 32) (tag : Byte)
  /-- DISCARD_TIMEOUT (R119): The idle limit of a context in discard. -/
  | discardTimeout (port : Fin 32) (tag : Byte)
  /-- ABORT (R120): An ABORT command word at Pegbox port 16 + `k`. -/
  | pegAbort (k : Fin 4) (w : FWord)
  /-- FLUSH (R129): A FLUSH command word at Pegbox port 16 + `k`. -/
  | pegFlushCmd (k : Fin 4) (w : FWord)
  /-- PEG_FLUSH (R129): A write to PEG_FLUSH. -/
  | pegFlush (req : Fin 36) (queue : BitVec 20)
  /-- PUSH_CLAIM (R123): The Pegbox looks at pushing a claim of the queue. -/
  | pushClaim (queue : BitVec 20)
  /-- DEQUEUE (R123): A DEQUEUE read request at Pegbox port 16 + `k`. -/
  | dequeue (k : Fin 4) (w : FWord)
  /-- CHAIN_READ (R125): A CHAIN_READ at bank group `grp`, of which at most `cells` cells are delivered before the next command; `parity`: the lanes that fail parity, by word index; `upsets` as for OPEN. -/
  | chainRead (grp : Fin 4) (w : FWord) (cells : Nat) (parity : List (Nat × BitVec 16)) (upsets : List (BitVec 19 × TagError))
  /-- RELEASE (R127): A RELEASE command word at Pegbox port 16 + `k`. -/
  | pegRelease (k : Fin 4) (w : FWord)
  /-- CLAIM_TIMEOUT (R128): The claim limit of the queue's claim. -/
  | claimTimeout (queue : BitVec 20)
  /-- PEG_QCFG (R532): A write to PEG_QCFG. -/
  | pegQcfg (req : Fin 36) (value : BitVec 32)
  /-- PEG_PROFILE (R532): A write to PEG_PROFILE_A[n], or with `b` to PEG_PROFILE_B[n]. -/
  | pegProfile (req : Fin 36) (b : Bool) (n : Fin 16) (value : BitVec 32)
  /-- PEG_QSTAT_READ (R109): A read of PEG_QSTAT word 0. -/
  | pegQstatRead (req : Fin 36)
  /-- PEG_FREE_MIN_CLEAR (R135): A write of CLEAR to PEG_FREE_MIN. -/
  | pegFreeMinClear (req : Fin 36)
  /-- PEG_AUDIT_SNAP (R136): A write of SNAP to PEG_AUDIT_CTRL. -/
  | pegAuditSnap (req : Fin 36)
  /-- CARRIER_SUPERFRAME_BOUNDARY (R153): A carrier superframe begins, with the allocations its beacons name on each feeder, and the nodes whose flow-4 packets read poisoned or flushed. -/
  | carrierBoundary (allocs : List (Fin 12 × Alloc)) (poisoned : List (BitVec 14))
  /-- RADIO_SUPERFRAME_BOUNDARY (R155): A radio superframe begins, with the allocations of each radio's beacon; the mean PHY rate measured on each feeder in the last second; the nodes whose flow-4 packets read poisoned or flushed. -/
  | radioBoundary (allocs : List (Fin 4 × Alloc)) (phyMbps : List (Fin 12 × Byte)) (poisoned : List (BitVec 14))
  /-- SUPERFRAME_START (R161): PD31 and PD45 have both been ON for `sinceOnMs`; TB0 has read VALID 1 for `validMs`. -/
  | superframeStart (sinceOnMs validMs : Nat)
  /-- AIRTIME_RECORD (R168): `sinceS` seconds of the reference tick have passed since the last airtime record. -/
  | airtimeRecord (sinceS : Nat)
  /-- FRAME_TRANSMIT (R156): An allocation comes for the packet under claim toward `target`; its worst-case airtime, the slot it starts in, whether the claim read ended poisoned or flushed. -/
  | frameTransmit (target : BitVec 14) (flow : Fin 32) (airUs : BitVec 32) (slotNo : Fin 80) (poison : Bool)
  /-- END_OF_TRANSMISSION (R166): The oldest transmission reserved on a radio ends after `actualUs`. -/
  | endOfTransmission (radio : Fin 4) (actualUs : BitVec 32)
  /-- AIRTIME_BUCKET_AGE (R166): One second passes for the airtime books. -/
  | bucketAge
  /-- FRAD_SUBBAND_CFG (R167): A write to FRAD_SUBBAND_CFG. -/
  | fradSubbandCfg (req : Fin 36) (band : Fin 5) (prioPct : Byte) (dutyCent : BitVec 16)
  /-- FRAD_AUDIT_SNAP (R165): A write of SNAP to FRAD_AUDIT_CTRL. -/
  | fradAuditSnap (req : Fin 36)
  /-- ACK_RECEIVED (R140): An ACK frame arrives from a node. -/
  | ackReceived (medium : Byte) (rx : FieldRx)
  /-- ACK_TIMEOUT (R156): No ACK came for the frame in flight to `node`; the airtime and slot of its repeat. -/
  | ackTimeout (node : BitVec 14) (airUs : BitVec 32) (slotNo : Fin 80)
  /-- DATA_FRAME_RECEIVED (R142): A data frame arrives from a node; `expected` in a listen window of R174; the airtime of its ACK and the slot. -/
  | dataFrameReceived (medium : Byte) (rx : FieldRx) (expected : Bool) (ackUs : BitVec 32) (slotNo : Fin 80)
  /-- EXPECTED_FRAME_MISSED (R174): A listen window of `node` ends without its frame. -/
  | expectedFrameMissed (node : BitVec 14)
  /-- IMAGE_ENTRY_RECEIVED (R204): An input image arrives: on carrier a burst in a slot on a comb, on radio an image frame in a micro-slot; its octets with their check; the image that CCM* opens, none where the MIC fails. -/
  | imageEntryReceived (medium : Byte) (slotNo : Fin 80) (comb : Fin 8) (octets : List Byte) (clear : Option (BitVec 96)) (info : RxInfo)
  /-- JOIN_REQ (R182): A JOIN_REQ; the image service the module means to give the node. -/
  | joinReq (medium : Byte) (rx : FieldRx) (k : BitVec 4) (imgIn imgOut : Bool)
  /-- SLEEP (R171): A command frame other than JOIN_REQ arrives from a node. -/
  | nodeSleep (medium : Byte) (rx : FieldRx) (ackUs : BitVec 32) (slotNo : Fin 80)
  /-- FLOOR_RECORD_WRITTEN (R160): The floor record due for a counter of a node or group record is in flash. -/
  | floorRecordWritten (node : BitVec 14) (up : Bool) (role : Fin 4)
  /-- NODE_LOST (R183): The supervisor looks at a node not heard. -/
  | nodeLost (node : BitVec 14)
  /-- ADMIT (R181): NODE_ADMIN OP 0x1. -/
  | nodeAdmit (req : Fin 36) (group : Fin 32)
  /-- EVICT (R181): NODE_ADMIN OP 0x2. -/
  | evict (req : Fin 36)
  /-- SET_GROUP (R181): NODE_ADMIN OP 0x3. -/
  | setGroup (req : Fin 36) (group : Fin 32)
  /-- RESEND_PROFILE (R181): NODE_ADMIN OP 0x4. -/
  | resendProfile (req : Fin 36)
  /-- CALENDAR_EVALUATION (R199): The supervisor evaluates the calendar. -/
  | calendarEvaluation
  /-- PROFILE_SEND (R192): The module looks whether `node` is due its PROFILE. -/
  | profileSend (node : BitVec 14)
  /-- STATUS_PROCESS (R208): The Suaraip Course that holds the claim of flow 36 of `node` takes its packet; whether its read ended poisoned. -/
  | statusProcess (node : BitVec 14) (poison : Bool)
  /-- ALARM_PROCESS (R195): The Suaraip Course that holds the claim of flow 32 of `node` takes its packet; whether its read ended poisoned. -/
  | alarmProcess (node : BitVec 14) (poison : Bool)
  /-- ESTIMATE_UPDATE (R254): The Gauge Course that holds the claim of flow 33 of `node` takes its packet. -/
  | estimateUpdate (node : BitVec 14) (poison : Bool)
  /-- SYM_EVENT (R218): Sympath takes the event under claim of flow 34 of `node`; whether its read ended poisoned or flushed; the response latency measured. -/
  | symEvent (node : BitVec 14) (poison : Bool) (latencyNs : BitVec 16)
  /-- SYM_COMMAND_RESULT (R224): The result word of command `k` of the present event arrives. -/
  | symCommandResult (k : Fin 32)
  /-- GRAPH_LOAD (R217): The graph image assembled at `addr` in bulk memory is checked and, where it passes, its load starts. -/
  | graphLoad (addr : BitVec 40)
  /-- GRAPH_LOADED (R217): The copy of the image ends after `us`. -/
  | graphLoaded (us : BitVec 32)
  /-- SYM_STAMP_REFRESH (R510): Sympath looks at every presence record's stamp. -/
  | symStampRefresh
  /-- GAUGE_SAMPLE (R243): One sample of 31.25 µs. -/
  | gaugeSample (x : GaugeSample)
  /-- LINE_CYCLE_BOUNDARY (R247): A line-cycle boundary of TB1: the cycle's last sample, and what was measured over the cycle. -/
  | lineCycleBoundary (x : GaugeSample) (c : LineCycle)
  /-- FORCE_LATCH (R247): A write of FORCE_LATCH to GAUGE_CTRL. -/
  | forceLatch (req : Fin 36)
  /-- LATCH_STORE (R250): `sinceMin` minutes have passed since the last store. -/
  | latchStore (sinceMin : Nat)
  /-- GAUGE_STOP (R256): A write of ENABLE 0 to GAUGE_CTRL. -/
  | gaugeStop (req : Fin 36)
  /-- S0_OUTPUT_PULSE (R251): `sinceMs` have passed since S0 output `k` began its last pulse. -/
  | s0OutputPulse (k : Fin 4) (sinceMs : Nat)
  /-- S0_INPUT_EDGE (R252): S0 input `k` becomes active or inactive; the phase that ends lasted `phaseMs`. -/
  | s0InputEdge (k : Fin 4) (active : Bool) (phaseMs : Nat)
  /-- PULSE_STUCK (R252): S0 input `k` has been active for `activeMs`. -/
  | pulseStuck (k : Fin 4) (activeMs : Nat)
  /-- DEVIATION_WINDOW (R253): The Gauge Courses look whether the window has ended. -/
  | deviationWindow
  /-- GAUGE_AUDIT_SNAP (R245): A write of SNAP to GAUGE_AUDIT_CTRL. -/
  | gaugeAuditSnap (req : Fin 36)
  /-- GAUGE_Q_READ (R245): A read of word 0 of GAUGE_Q[q]. -/
  | gaugeQRead (req : Fin 36) (q : Fin 128)
  /-- CAPTURE_COMPLETE (R259): The capture of a probe under way on feeder `f` ends, with its samples and those of its reference; COIL_f has stood as it is for `coilMs`, coil and voltage have disagreed for `mismatchS`; whether it overlaps a chirp elsewhere, carries poison, was cut off. -/
  | captureComplete (f : Fin 12) (chirp : Bool) (samples ref : List Int) (coilMs mismatchS : Nat) (crosstalk poison cutOff : Bool)
  /-- CHIRP (R261): The quiet window of feeder `f` comes. -/
  | chirp (f : Fin 12)
  /-- CAPTURE_CORRELATE (R265): The Sounding Course of feeder `f` takes its oldest capture. -/
  | captureCorrelate (f : Fin 12)
  /-- REFLECTOGRAM_PERIOD_END (R267): A REFL_S period ends after `sinceS` for a feeder, kind and state. -/
  | reflectogramPeriodEnd (f : Fin 12) (chirp deEnergised : Bool) (sinceS : Nat)
  /-- LEARN (R269): SOUND_CMD LEARN. -/
  | soundLearn (req : Fin 36) (f : Fin 12) (chirp deEnergised : Bool)
  /-- DISCARD (R270): SOUND_CMD DISCARD. -/
  | soundDiscard (req : Fin 36) (f : Fin 12) (chirp deEnergised : Bool)
  /-- ACCEPT (R270): SOUND_CMD ACCEPT. -/
  | soundAccept (req : Fin 36) (entry : Fin 32)
  /-- BASELINE_STORE (R270): The supervisor writes a learned baseline to the settings region. -/
  | baselineStore (f : Fin 12) (chirp deEnergised : Bool)
  /-- TASK_START (R279): The engine, idle in RUN, takes the highest-priority due task; the inputs stand at `io`. -/
  | taskStart (io : IoPins)
  /-- NODE_LATCH_WAIT_END (R282): The task held back before a carrier boundary starts its latch; the inputs stand at `io`. -/
  | nodeLatchWaitEnd (io : IoPins)
  /-- TASK_OVERRUN (R294): The next due start of ordinary task `n` arrives before its cycle has ended. -/
  | taskOverrun (n : Fin 16)
  /-- SCAN_WATCHDOG_TRIP (R294): The next due start of guarded task `n` arrives before its cycle has ended. -/
  | scanWatchdogTrip (n : Fin 16)
  /-- HOLD_LIMIT_EXPIRY (R293): HOLD has lasted `heldS` seconds. -/
  | holdLimitExpiry (heldS : Nat)
  /-- RUN (R289): SCAN_CMD OP 0x1. -/
  | scanRun (req : Fin 36) (key : BitVec 16)
  /-- STOP (R289): SCAN_CMD OP 0x2. -/
  | scanStop (req : Fin 36) (key : BitVec 16)
  /-- HOLD (R289): SCAN_CMD OP 0x3. -/
  | scanHold (req : Fin 36) (key : BitVec 16)
  /-- RESUME (R289): SCAN_CMD OP 0x4. -/
  | scanResume (req : Fin 36) (key : BitVec 16)
  /-- STEP (R289): SCAN_CMD OP 0x5. -/
  | scanStep (req : Fin 36) (key : BitVec 16)
  /-- CLEAR_FAULT (R289): SCAN_CMD OP 0x6. -/
  | clearFault (req : Fin 36) (key : BitVec 16)
  /-- CHECK_PROGRAM (R290): SCAN_CMD OP 0x7. -/
  | checkProgram (req : Fin 36) (key : BitVec 16)
  /-- NOP (R303): The running task's next instruction word is NOP with operand bits `opd`. -/
  | tabNop (opd : BitVec 24)
  /-- BLD (R304): The running task's next instruction word is BLD with operand bits `opd`. -/
  | tabBld (opd : BitVec 24)
  /-- BLDN (R304): The running task's next instruction word is BLDN with operand bits `opd`. -/
  | tabBldn (opd : BitVec 24)
  /-- BAND (R304): The running task's next instruction word is BAND with operand bits `opd`. -/
  | tabBand (opd : BitVec 24)
  /-- BANDN (R304): The running task's next instruction word is BANDN with operand bits `opd`. -/
  | tabBandn (opd : BitVec 24)
  /-- BOR (R304): The running task's next instruction word is BOR with operand bits `opd`. -/
  | tabBor (opd : BitVec 24)
  /-- BORN (R304): The running task's next instruction word is BORN with operand bits `opd`. -/
  | tabBorn (opd : BitVec 24)
  /-- BXOR (R304): The running task's next instruction word is BXOR with operand bits `opd`. -/
  | tabBxor (opd : BitVec 24)
  /-- BXORN (R304): The running task's next instruction word is BXORN with operand bits `opd`. -/
  | tabBxorn (opd : BitVec 24)
  /-- BST (R304): The running task's next instruction word is BST with operand bits `opd`. -/
  | tabBst (opd : BitVec 24)
  /-- BSTN (R304): The running task's next instruction word is BSTN with operand bits `opd`. -/
  | tabBstn (opd : BitVec 24)
  /-- BSET (R304): The running task's next instruction word is BSET with operand bits `opd`. -/
  | tabBset (opd : BitVec 24)
  /-- BCLR (R304): The running task's next instruction word is BCLR with operand bits `opd`. -/
  | tabBclr (opd : BitVec 24)
  /-- BRISE (R304): The running task's next instruction word is BRISE with operand bits `opd`. -/
  | tabBrise (opd : BitVec 24)
  /-- BFALL (R304): The running task's next instruction word is BFALL with operand bits `opd`. -/
  | tabBfall (opd : BitVec 24)
  /-- BPUSH (R305): The running task's next instruction word is BPUSH with operand bits `opd`. -/
  | tabBpush (opd : BitVec 24)
  /-- BPOPA (R305): The running task's next instruction word is BPOPA with operand bits `opd`. -/
  | tabBpopa (opd : BitVec 24)
  /-- BPOPO (R305): The running task's next instruction word is BPOPO with operand bits `opd`. -/
  | tabBpopo (opd : BitVec 24)
  /-- BPOPX (R305): The running task's next instruction word is BPOPX with operand bits `opd`. -/
  | tabBpopx (opd : BitVec 24)
  /-- BNOT (R303): The running task's next instruction word is BNOT with operand bits `opd`. -/
  | tabBnot (opd : BitVec 24)
  /-- BONE (R303): The running task's next instruction word is BONE with operand bits `opd`. -/
  | tabBone (opd : BitVec 24)
  /-- BZERO (R303): The running task's next instruction word is BZERO with operand bits `opd`. -/
  | tabBzero (opd : BitVec 24)
  /-- BLDOV (R303): The running task's next instruction word is BLDOV with operand bits `opd`. -/
  | tabBldov (opd : BitVec 24)
  /-- OVCLR (R306): The running task's next instruction word is OVCLR with operand bits `opd`. -/
  | tabOvclr (opd : BitVec 24)
  /-- WLD (R303): The running task's next instruction word is WLD with operand bits `opd`. -/
  | tabWld (opd : BitVec 24)
  /-- WST (R303): The running task's next instruction word is WST with operand bits `opd`. -/
  | tabWst (opd : BitVec 24)
  /-- WADD (R306): The running task's next instruction word is WADD with operand bits `opd`. -/
  | tabWadd (opd : BitVec 24)
  /-- WSUB (R306): The running task's next instruction word is WSUB with operand bits `opd`. -/
  | tabWsub (opd : BitVec 24)
  /-- WMUL (R306): The running task's next instruction word is WMUL with operand bits `opd`. -/
  | tabWmul (opd : BitVec 24)
  /-- WDIV (R306): The running task's next instruction word is WDIV with operand bits `opd`. -/
  | tabWdiv (opd : BitVec 24)
  /-- WMOD (R306): The running task's next instruction word is WMOD with operand bits `opd`. -/
  | tabWmod (opd : BitVec 24)
  /-- WAND (R303): The running task's next instruction word is WAND with operand bits `opd`. -/
  | tabWand (opd : BitVec 24)
  /-- WOR (R303): The running task's next instruction word is WOR with operand bits `opd`. -/
  | tabWor (opd : BitVec 24)
  /-- WXOR (R303): The running task's next instruction word is WXOR with operand bits `opd`. -/
  | tabWxor (opd : BitVec 24)
  /-- WMIN (R303): The running task's next instruction word is WMIN with operand bits `opd`. -/
  | tabWmin (opd : BitVec 24)
  /-- WMAX (R303): The running task's next instruction word is WMAX with operand bits `opd`. -/
  | tabWmax (opd : BitVec 24)
  /-- WEQ (R307): The running task's next instruction word is WEQ with operand bits `opd`. -/
  | tabWeq (opd : BitVec 24)
  /-- WNE (R307): The running task's next instruction word is WNE with operand bits `opd`. -/
  | tabWne (opd : BitVec 24)
  /-- WGT (R307): The running task's next instruction word is WGT with operand bits `opd`. -/
  | tabWgt (opd : BitVec 24)
  /-- WGE (R307): The running task's next instruction word is WGE with operand bits `opd`. -/
  | tabWge (opd : BitVec 24)
  /-- WLT (R307): The running task's next instruction word is WLT with operand bits `opd`. -/
  | tabWlt (opd : BitVec 24)
  /-- WLE (R307): The running task's next instruction word is WLE with operand bits `opd`. -/
  | tabWle (opd : BitVec 24)
  /-- KEQ (R307): The running task's next instruction word is KEQ with operand bits `opd`. -/
  | tabKeq (opd : BitVec 24)
  /-- KNE (R307): The running task's next instruction word is KNE with operand bits `opd`. -/
  | tabKne (opd : BitVec 24)
  /-- KGT (R307): The running task's next instruction word is KGT with operand bits `opd`. -/
  | tabKgt (opd : BitVec 24)
  /-- KGE (R307): The running task's next instruction word is KGE with operand bits `opd`. -/
  | tabKge (opd : BitVec 24)
  /-- KLT (R307): The running task's next instruction word is KLT with operand bits `opd`. -/
  | tabKlt (opd : BitVec 24)
  /-- KLE (R307): The running task's next instruction word is KLE with operand bits `opd`. -/
  | tabKle (opd : BitVec 24)
  /-- KLD (R303): The running task's next instruction word is KLD with operand bits `opd`. -/
  | tabKld (opd : BitVec 24)
  /-- KLDH (R303): The running task's next instruction word is KLDH with operand bits `opd`. -/
  | tabKldh (opd : BitVec 24)
  /-- KADD (R306): The running task's next instruction word is KADD with operand bits `opd`. -/
  | tabKadd (opd : BitVec 24)
  /-- WSHL (R303): The running task's next instruction word is WSHL with operand bits `opd`. -/
  | tabWshl (opd : BitVec 24)
  /-- WSHR (R303): The running task's next instruction word is WSHR with operand bits `opd`. -/
  | tabWshr (opd : BitVec 24)
  /-- WSAR (R303): The running task's next instruction word is WSAR with operand bits `opd`. -/
  | tabWsar (opd : BitVec 24)
  /-- WINV (R303): The running task's next instruction word is WINV with operand bits `opd`. -/
  | tabWinv (opd : BitVec 24)
  /-- PSET (R303): The running task's next instruction word is PSET with operand bits `opd`. -/
  | tabPset (opd : BitVec 24)
  /-- PGET (R303): The running task's next instruction word is PGET with operand bits `opd`. -/
  | tabPget (opd : BitVec 24)
  /-- JMP (R308): The running task's next instruction word is JMP with operand bits `opd`. -/
  | tabJmp (opd : BitVec 24)
  /-- JMPT (R308): The running task's next instruction word is JMPT with operand bits `opd`. -/
  | tabJmpt (opd : BitVec 24)
  /-- JMPF (R308): The running task's next instruction word is JMPF with operand bits `opd`. -/
  | tabJmpf (opd : BitVec 24)
  /-- JMPZ (R308): The running task's next instruction word is JMPZ with operand bits `opd`. -/
  | tabJmpz (opd : BitVec 24)
  /-- JMPNZ (R308): The running task's next instruction word is JMPNZ with operand bits `opd`. -/
  | tabJmpnz (opd : BitVec 24)
  /-- TON (R309): The running task's next instruction word is TON with operand bits `opd`. -/
  | tabTon (opd : BitVec 24)
  /-- TOF (R309): The running task's next instruction word is TOF with operand bits `opd`. -/
  | tabTof (opd : BitVec 24)
  /-- TP (R309): The running task's next instruction word is TP with operand bits `opd`. -/
  | tabTp (opd : BitVec 24)
  /-- CTU (R310): The running task's next instruction word is CTU with operand bits `opd`. -/
  | tabCtu (opd : BitVec 24)
  /-- CTD (R310): The running task's next instruction word is CTD with operand bits `opd`. -/
  | tabCtd (opd : BitVec 24)
  /-- CLOAD (R310): The running task's next instruction word is CLOAD with operand bits `opd`. -/
  | tabCload (opd : BitVec 24)
  /-- CRESET (R310): The running task's next instruction word is CRESET with operand bits `opd`. -/
  | tabCreset (opd : BitVec 24)
  /-- SND (R312): The running task's next instruction word is SND with operand bits `opd`. -/
  | tabSnd (opd : BitVec 24)
  /-- NST (R311): The running task's next instruction word is NST with operand bits `opd`. -/
  | tabNst (opd : BitVec 24)
  /-- END (R308): The running task's next instruction word is END with operand bits `opd`. -/
  | tabEnd (opd : BitVec 24)
  /-- LAMP_FRAME_START (R316): A stipple frame starts; the loss of the last 100 ms in 10 mW and LED_IN in 10 mV. -/
  | lampFrameStart (lossMean ledIn : BitVec 16)
  /-- LAMP_FRAME_END (R332): The frame ends with what was measured over it. -/
  | lampFrameEnd (m : LampMeas)
  /-- LAMP_MEASURE (R324): A lit lamp or element is measured: a string lamp's tap-to-tap voltage in 10 mV, 131 ticks after its shunt opened; whether an element's sink holds its current and its column stands within 1.0 V of the row. -/
  | lampMeasure (id : BitVec 10) (volt : BitVec 16) (holds nearRow : Bool)
  /-- LAMP_OPEN_DETECT (R324): The lamp voltages of a string in 10 mV; `clamp` while V_OUT stands at 58 V. -/
  | lampOpenDetect (s : Fin 6) (volts : List (BitVec 16)) (clamp : Bool)
  /-- CLAMP_PERSIST (R324): The clamp still stands `sinceUs` after a shunt was closed. -/
  | clampPersist (s : Fin 6) (volts : List (BitVec 16)) (sinceUs : Nat)
  /-- STRING_OVERCURRENT (R325): The string current has stood at `mA` for `us`. -/
  | stringOvercurrent (s : Fin 6) (mA us : Nat)
  /-- OVERCURRENT_RESTART (R325): `sinceMs` have passed since the buck was switched off. -/
  | overcurrentRestart (s : Fin 6) (sinceMs : Nat)
  /-- ROW_OVERCURRENT (R326): A row current has stood at `mA` for `us`. -/
  | rowOvercurrent (mA us : Nat)
  /-- LED_SUPPLY_LOW (R327): LED_IN in 10 mV. -/
  | ledSupplyLow (volt : BitVec 16)
  /-- LED_SUPPLY_RESUME (R327): LED_IN, in 10 mV, for `ms`. -/
  | ledSupplyResume (volt : BitVec 16) (ms : Nat)
  /-- NTC_READ (R328): An NTC input is read: its resistance, or none where it is open or short. -/
  | ntcRead (n : Fin 6) (ohms : Option Nat)
  /-- CLEAR_LAMP (R331): LAMP_CMD OP 0x1. -/
  | clearLamp (req : Fin 36)
  /-- CLEAR_STRING (R331): LAMP_CMD OP 0x2. -/
  | clearString (req : Fin 36) (arg : Fin 8)
  /-- CLEAR_MATRIX (R331): LAMP_CMD OP 0x3. -/
  | clearMatrix (req : Fin 36)
  /-- CLEAR_AON (R331): LAMP_CMD OP 0x4. -/
  | clearAon (req : Fin 36) (arg : Fin 8)
  /-- LAMP_COUNTER_STORE (R332): `sinceMin` minutes have passed since the counters were stored. -/
  | lampCounterStore (sinceMin : Nat)
  /-- LAMP_AUDIT_SNAP (R332): A write of SNAP to LAMP_AUDIT_CTRL. -/
  | lampAuditSnap (req : Fin 36)
  /-- RING_CYCLE_BOUNDARY (R356): A ring cycle of 125 µs ends. -/
  | ringCycleBoundary
  /-- CONTINUITY_RECEIVED (R351): A valid CONTINUITY arrives at ring port `p` at TB0 `rxNs`. -/
  | continuityReceived (p : Fin 4) (f : RingFrame) (rxNs : BitVec 64)
  /-- CONTINUITY_MISS (R351): The receive timer of ring port `p` expires, `sinceUs` after the last valid CONTINUITY; a takeover it starts lasts `takeTenthUs`. -/
  | continuityMiss (p : Fin 4) (sinceUs : BitVec 16) (takeTenthUs : BitVec 16)
  /-- RING_DATA_RECEIVED (R343): A DATA frame arrives on path A (0) or B (1). -/
  | ringDataReceived (path : Fin 2) (f : RingFrame) (icvOk : Bool)
  /-- RING_TRANSMIT (R342): The outgoing port of the active path serves class `tc`: a frame waiting in the transit buffer, or one the module originates. -/
  | ringTransmit (tc : Fin 4) (transit : Bool)
  /-- CREDIT_RECEIVED (R348): A CREDIT arrives on a path. -/
  | creditReceived (path : Fin 2) (f : RingFrame)
  /-- PROBE_SEND (R352): 1 ms has passed: the probes are sent. -/
  | probeSend
  /-- PROBE_RECEIVED (R352): A PROBE arrives on a path; `rttTenthUs` is its round trip where it is the module's own. -/
  | probeReceived (path : Fin 2) (f : RingFrame) (rttTenthUs : BitVec 16)
  /-- ANNOUNCE_RECEIVED (R357): An ANNOUNCE arrives at ring port `p`; a takeover it starts lasts `takeTenthUs`. -/
  | announceReceived (p : Fin 4) (f : RingFrame) (takeTenthUs : BitVec 16)
  /-- JOIN_RECEIVED (R361): A JOIN with DUP 0 arrives at ring port `p`. -/
  | joinReceived (p : Fin 4) (f : RingFrame)
  /-- PATH_JOIN (R361): The module joins a path after its loop test. -/
  | pathJoin (path : Fin 2)
  /-- JOIN_DUP_RECEIVED (R361): A JOIN with DUP 1 for this module arrives on a path. -/
  | joinDupReceived (path : Fin 2)
  /-- JOIN_CONFIRM (R361): `ms` have passed since the JOIN without DUP. -/
  | joinConfirm (path : Fin 2) (ms : Nat)
  /-- ACTIVE_PATH_SEARCH_END (R361): `ms` have passed since the links of the path came up. -/
  | activePathSearchEnd (path : Fin 2) (ms : Nat)
  /-- REVERT (R362): The PREFER path has met the condition of R362 for `sinceS` seconds. -/
  | revert (sinceS : Nat) (takeTenthUs : BitVec 16)
  /-- SWITCH_TO_A (R362): CAPO_CMD OP 0x1. -/
  | switchToA (req : Fin 36) (key : BitVec 16) (takeTenthUs : BitVec 16)
  /-- SWITCH_TO_B (R362): CAPO_CMD OP 0x2. -/
  | switchToB (req : Fin 36) (key : BitVec 16) (takeTenthUs : BitVec 16)
  /-- RETRY_GRANT (R355): CAPO_CMD OP 0x3; `follows` when the line follows the request. -/
  | retryGrant (req : Fin 36) (key : BitVec 16) (follows : Bool)
  /-- CAPO_STUCK (R355): A commanded change has not appeared for, or both rails have read equal for, so many 0.1 µs. -/
  | capoStuck (notSeenTenthUs equalTenthUs : Nat)
  /-- CAPO_REGRANT (R355): The grant is requested again; `follows` when the line follows. -/
  | capoRegrant (sinceMs : Nat) (follows : Bool)
  /-- RING_CTRL_EN (R364): A write to RING_A_CTRL or RING_B_CTRL. -/
  | ringCtrlEn (req : Fin 36) (path : Fin 2) (value : BitVec 32)
  /-- RING_AUDIT_SNAP (R349): A write of SNAP to RING_A_AUDIT_CTRL or RING_B_AUDIT_CTRL. -/
  | ringAuditSnap (req : Fin 36) (path : Fin 2)
  /-- HELLO (R369): A HELLO request. -/
  | hcpHello (h : HcpHdr) (clearTid : Bool)
  /-- HCP_RESET (R377): A RESET request. -/
  | hcpReset (h : HcpHdr)
  /-- REG_READ (R372): A REG_READ request: its items. -/
  | hcpRegRead (h : HcpHdr) (addrs : List (BitVec 32))
  /-- REG_WRITE (R372): A REG_WRITE request: address and value of its items. -/
  | hcpRegWrite (h : HcpHdr) (items : List (BitVec 32 × BitVec 32))
  /-- BLOCK_READ (R372): A BLOCK_READ request. -/
  | hcpBlockRead (h : HcpHdr) (addr : BitVec 64) (count : BitVec 16)
  /-- BLOCK_WRITE (R372): A BLOCK_WRITE request. -/
  | hcpBlockWrite (h : HcpHdr) (addr : BitVec 64) (data : List Byte)
  /-- CT_SEGMENT (R374): A CT_SEGMENT request. -/
  | ctSegment (h : HcpHdr) (g : CtSeg)
  /-- CT_ABORT (R368): A CT_ABORT request. -/
  | ctAbort (h : HcpHdr) (ctId : BitVec 16)
  /-- EVENT_ACK (R382): An EVENT_ACK request. -/
  | eventAck (h : HcpHdr) (ackSeq : BitVec 32)
  /-- PRIMER_DIGEST (R380): A PRIMER_DIGEST request. -/
  | primerDigest (h : HcpHdr)
  /-- PRIMER_WB (R380): A PRIMER_WB request. -/
  | primerWb (h : HcpHdr) (hdr : PrimerHdr)
  /-- HCP_BAD_MESSAGE (R368): A message with its TYPE, its RESP, and whether its LEN agrees. -/
  | hcpBadMessage (h : HcpHdr) (typ : Byte) (resp lenOk : Bool)
  /-- DTLS_HANDSHAKE (R366): A DTLS handshake on the head-end port, over IPv4 or IPv6, with the client certificate `cert`. -/
  | dtlsHandshake (ipv4 : Bool) (cert : Nat)
  /-- REQUEST_FORWARD (R383): A request at the gateway for module `target`. -/
  | requestForward (h : HcpHdr) (target : BitVec 14) (typ : Byte) (payload : List Byte)
  /-- FORWARDED_RESPONSE (R383): A response of module `target` reaches the gateway. -/
  | forwardedResponse (session : Fin 4) (tid : BitVec 16) (target : BitVec 14) (typ status : Byte) (dup : Bool) (payload : List Byte)
  /-- FORWARD_TIMEOUT (R383): A forwarded request has waited `sinceMs`. -/
  | forwardTimeout (session : Fin 4) (tid : BitVec 16) (sinceMs : Nat)
  /-- HEAD_END_LINK_LOSS (R377): How long the head-end link has been down, and CAPO_GATEWAY.VALID 0. -/
  | headEndLinkLoss (downMs noGatewayMs : Nat)
  /-- STAGING_RESET_FRAME (R377): The flooded reset arrives. -/
  | stagingResetFrame
  /-- EVENT_RESEND (R382): `sinceMs` have passed since the oldest event was sent. -/
  | eventResend (sinceMs : Nat)
  /-- HCP_CTRL_EN (R365): A write to HCP_CTRL. -/
  | hcpCtrlEn (req : Fin 36) (value : BitVec 32)
  /-- PTP_SYNC_RECEIVED (R400): A Sync arrives at port `p` (0 to 3 the ring ports, 4 the head-end port) at `t2`; `residence` is the time in 2⁻¹⁶ ns to its egress where it is forwarded. -/
  | ptpSyncReceived (p : Fin 5) (m : PtpMsg) (icvOk : Bool) (t2 : Int) (residence : Nat)
  /-- FOLLOW_UP_RECEIVED (R400): A Follow_Up arrives; `m.time` is its preciseOriginTimestamp. -/
  | followUpReceived (p : Fin 5) (m : PtpMsg)
  /-- FOLLOW_UP_MISSING (R400): `ms` have passed since a two-step Sync without its Follow_Up. -/
  | followUpMissing (ms : Nat)
  /-- DELAY_REQ_SEND (R400): `sinceUs` have passed since the last Delay_Req; `t3` is the moment of transmission. -/
  | delayReqSend (sinceUs : Nat) (t3 : Int)
  /-- DELAY_REQ_RECEIVED (R396): A Delay_Req arrives at `rx`. -/
  | delayReqReceived (p : Fin 5) (m : PtpMsg) (icvOk : Bool) (rx : Int) (residence : Nat)
  /-- DELAY_RESP_RECEIVED (R400): A Delay_Resp arrives; `m.time` is its receiveTimestamp. -/
  | delayRespReceived (p : Fin 5) (m : PtpMsg) (icvOk : Bool)
  /-- PTP_ANNOUNCE_RECEIVED (R396): An Announce arrives. -/
  | ptpAnnounceReceived (p : Fin 5) (m : PtpMsg) (a : PtpAnnounce) (icvOk : Bool)
  /-- MASTER_LOST (R401): Times since the last Announce of the master and since the last accepted Sync. -/
  | masterLost (sinceAnnounceMs sinceSyncMs : Nat)
  /-- PTP_SYNC_SEND (R396): `sinceUs` have passed since the last Sync sent. -/
  | ptpSyncSend (sinceUs : Nat)
  /-- LOCAL_GM_TAKEOVER (R397): No master has been selected for `sinceMs`. -/
  | localGmTakeover (sinceMs : Nat)
  /-- HOLDOVER_EXPIRY (R392): Holdover has lasted `s` seconds. -/
  | holdoverExpiry (s : Nat)
  /-- ZERO_CROSSING (R388): A positive-going crossing of the source in use, `offsetNs` after TB1's boundary; the phase voltages in 0.1 V and the frequency in mHz. -/
  | zeroCrossing (u1 u2 u3 : BitVec 16) (offsetNs : Int) (freqMHz : BitVec 24)
  /-- TB2_UPDATE (R391): 10 ms have passed. -/
  | tb2Update
  /-- SET (R395): A write of KEY and OP SET to TIME_TB0_CMD. -/
  | tb0Set (req : Fin 36) (key : BitVec 16)
  /-- ADJUST (R395): A write of KEY and OP ADJUST to TIME_TB0_CMD. -/
  | tb0Adjust (req : Fin 36) (key : BitVec 16)
  /-- TB0_SUB_READ (R385): A read of TIME_TB0_SUB. -/
  | tb0SubRead (req : Fin 36)
  /-- TIME_PTP_CFG_EN (R410): A write to TIME_PTP_CFG. -/
  | timePtpCfgEn (req : Fin 36) (value : BitVec 32)
  /-- RTC_HALT_WRITE (R406): A write to RTC_CTRL. -/
  | rtcHaltWrite (req : Fin 36) (halt : Bool)
  /-- HALT_TIMEOUT (R406): `ticks` of the 32.768 kHz clock pass with HALT 1. -/
  | haltTimeout (ticks : Nat)
  /-- OSCILLATOR_STOP (R407): The 32.768 kHz oscillator misses `missed` periods, or the island supply falls below its retention level. -/
  | oscillatorStop (missed : Nat) (supplyLow : Bool)
  /-- RTC_DISCIPLINE (R408): `sinceS` seconds have passed since the last discipline of the RTC. -/
  | rtcDiscipline (sinceS : Nat)
  /-- RTC_SET_AFTER_STEP (R408): The supervisor sets the RTC after a step of TB0. -/
  | rtcSetAfterStep
  /-- START (R412): MOVER_CH_CTRL OP 0x1. -/
  | moverStart (req : Fin 36) (c : Fin 32)
  /-- MOVER_ABORT (R422): MOVER_CH_CTRL OP 0x2. -/
  | moverAbort (req : Fin 36) (c : Fin 32)
  /-- CONTINUE (R413): MOVER_CH_CTRL OP 0x3. -/
  | moverContinue (req : Fin 36) (c : Fin 32)
  /-- DESCRIPTOR_FETCHED (R412): The descriptor read of channel `c` is answered. -/
  | descriptorFetched (c : Fin 32) (poison : Bool)
  /-- MOVER_ACCESS_RESPONSE (R418): The next data access of channel `c` is answered. -/
  | moverAccessResponse (c : Fin 32) (poison : Bool)
  /-- MOVER_ACCESS_TIMEOUT (R417): An access of channel `c` has waited `ticks` reference ticks. -/
  | moverAccessTimeout (c : Fin 32) (ticks : Nat)
  /-- DESCRIPTOR_WRITE_BACK (R412): The write-back of channel `c` is answered. -/
  | descriptorWriteBack (c : Fin 32)
  /-- REQUEST_LINE (R421): A request on a line; for a queue watch, the queue of the packet committed. -/
  | requestLine (line : Fin 32) (queue : BitVec 20)
  /-- MOVER_CTRL_EN (R422): A write to MOVER_CTRL. -/
  | moverCtrlEn (req : Fin 36) (en : Bool)
  /-- PWR_DOM_REQ (R428): A write to PWR_DOM_REQ[d]. -/
  | pwrDomReq (req : Fin 36) (d : Fin 50) (state : BitVec 2)
  /-- DOMAIN_CHANGE_COMPLETE (R428): The state change of domain `d` completes. -/
  | domainChangeComplete (d : Fin 50)
  /-- DOMAIN_FAULT (R430): Domain `d` faults. -/
  | domainFault (d : Fin 50) (cause : FaultCause)
  /-- REDUCED (R433): PWR_CMD REDUCED. -/
  | reduced (req : Fin 36) (key : BitVec 16)
  /-- FULL (R433): PWR_CMD FULL. -/
  | full (req : Fin 36) (key : BitVec 16)
  /-- PARK (R434): PWR_CMD PARK. -/
  | park (req : Fin 36) (key : BitVec 16)
  /-- AUTO_ENTER (R433): The PWR_AUTO input has stood at `level` for `s` seconds. -/
  | autoEnter (level : Bool) (s : Nat)
  /-- AUTO_LEAVE (R433): The PWR_AUTO input has stood at `level` for `s` seconds. -/
  | autoLeave (level : Bool) (s : Nat)
  /-- PWR_ALARM_MATCH (R436): RTC SEC stands at or beyond PWR_ALARM. -/
  | pwrAlarmMatch
  /-- PARKED_SUPPLY_RETURN (R434): The logic supply returns with the park latch set. -/
  | parkedSupplyReturn
  /-- OPERATING_SECOND (R438): One second of the RTC oscillator passes. -/
  | operatingSecond
  /-- VBAT_MEASURE (R437): The coin cell reads `mV`. -/
  | vbatMeasure (mV : BitVec 16)
  /-- LOGIC_SUPPLY_DROP (R514): LOGIC_IN at `mV` for `us`. -/
  | logicSupplyDrop (mV us : Nat)
  /-- LOGIC_SUPPLY_RETURN (R514): LOGIC_IN at `mV` for `us`. -/
  | logicSupplyReturn (mV us : Nat)
  /-- TUNE_MEASURE (R440): The slacks of domain `d`, signed ps. -/
  | tuneMeasure (d : Fin 50) (floor timing : BitVec 16)
  /-- REPLAN_SETTLED (R440): The slacks measured 50 µs after a supply step. -/
  | replanSettled (d : Fin 50) (floor timing : BitVec 16)
  /-- AGEING_MEASURE (R442): AGE_PS and the forecast in days. -/
  | ageingMeasure (d : Fin 50) (agePs : BitVec 8) (forecastD : BitVec 16)
  /-- PLAN_STORE (R441): The supervisor stores the plans. -/
  | planStore
  /-- PROVISION (R451): KEY_CMD PROVISION. -/
  | keyProvision (req : Fin 36) (key : BitVec 16)
  /-- FIELD (R458): KEY_CMD FIELD. -/
  | keyField (req : Fin 36) (key : BitVec 16)
  /-- RETURN (R458): KEY_CMD RETURN. -/
  | keyReturn (req : Fin 36) (key : BitVec 16)
  /-- SCRAP (R458): KEY_CMD SCRAP. -/
  | keyScrap (req : Fin 36) (key : BitVec 16)
  /-- DEBUG_OPEN (R459): KEY_CMD DEBUG_OPEN. -/
  | debugOpen (req : Fin 36) (key : BitVec 16)
  /-- DEBUG_CLOSE (R459): KEY_CMD DEBUG_CLOSE. -/
  | debugClose (req : Fin 36) (key : BitVec 16)
  /-- DEBUG_EXPIRY (R459): The operating seconds have reached the end of the debug token. -/
  | debugExpiry
  /-- REPLACE (R454): KEY_CMD REPLACE with ARG `slot`. -/
  | keyReplace (req : Fin 36) (key : BitVec 16) (slot : Fin 64)
  /-- MOVE (R456): KEY_CMD MOVE with ARG `slot`. -/
  | keyMove (req : Fin 36) (key : BitVec 16) (slot : Fin 64)
  /-- REFURBISH (R458): KEY_CMD REFURBISH. -/
  | keyRefurbish (req : Fin 36) (key : BitVec 16)
  /-- KEY_STAGE_DATA (R450): A write to KEY_STAGE_DATA. -/
  | keyStageData (req : Fin 36) (data : BitVec 32)
  /-- KEY_CHECK_RECEIVED (R455): A KEY_CHECK for a path from the member at `pos`. -/
  | keyCheckReceived (path : Fin 2) (pos : Fin 64) (gen : BitVec 16) (kcv : BitVec 64)
  /-- KEY_CHECK_RESEND (R454): `sinceMs` have passed since the last KEY_CHECK of the slot. -/
  | keyCheckResend (slot : Fin 64) (sinceMs : Nat)
  /-- REPLACE_COMPLETE (R454): Whether both ports of the slot's path have sent and received under the new key for 1 s is looked at. -/
  | replaceComplete (slot : Fin 64)
  /-- REPLACE_TIMEOUT (R454): `s` seconds have passed since REPLACE of the slot. -/
  | replaceTimeout (slot : Fin 64) (s : Nat)
  /-- MOVE_RETRY (R456): `sinceS` seconds have passed since the node's move failed. -/
  | moveRetry (node : BitVec 14) (sinceS : Nat)
  /-- TAMPER_EVENT (R460): A tamper event of the monitor. -/
  | tamperEvent (kind : TamperKind)
  /-- ARM (R474): RESTR_CMD ARM. -/
  | restrArm (req : Fin 36) (key : BitVec 16)
  /-- DISARM (R474): RESTR_CMD DISARM. -/
  | restrDisarm (req : Fin 36) (key : BitVec 16)
  /-- CONFIRM (R479): RESTR_CMD CONFIRM. -/
  | restrConfirm (req : Fin 36) (key : BitVec 16)
  /-- VERIFY (R469): RESTR_CMD VERIFY. -/
  | restrVerify (req : Fin 36) (key : BitVec 16)
  /-- ERASE (R466): RESTR_CMD ERASE. -/
  | restrErase (req : Fin 36) (key : BitVec 16)
  /-- RESTR_FEED_CTRL (R469): A write to RESTR_FEED_CTRL. -/
  | restrFeedCtrl (req : Fin 36) (target : Fin 32) (block : BitVec 16)
  /-- RESTR_FEED_DATA (R469): A write to RESTR_FEED_DATA; where it ends a block, the flash write of the block fails `flashFails` times. -/
  | restrFeedData (req : Fin 36) (data : BitVec 32) (flashFails : Nat)
  /-- FRAGMENT (R470): A FRAGMENT of a feed from the module `source`. -/
  | restrFragment (source : BitVec 14) (target : Fin 17) (block : BitVec 16) (imageId : BitVec 32) (frag : Fin 8) (data : List Byte) (flashFails : Nat)
  /-- WANT (R471): A WANT from module `src`. -/
  | restrWant (src : BitVec 14) (target : Fin 17) (imageId : BitVec 32) (blocks : List (BitVec 16))
  /-- WANT_SEND (R471): `sinceMs` have passed since the target's last WANT. -/
  | restrWantSend (target : Fin 17) (sinceMs : Nat)
  /-- PARTIAL_BLOCK_DISCARD (R471): A partial block has been left for `idleS` seconds. -/
  | partialBlockDiscard (target : Fin 17) (block : BitVec 16) (idleS : Nat)
  /-- ACTIVATION (R475): The supervisor looks at the armed slot. -/
  | activation
  /-- CONFIRM_WINDOW_CLOSE (R479): `minutes` have passed since the confirm window opened. -/
  | confirmWindowClose (minutes : Nat)
  /-- NIMG_START (R483): RESTR_NIMG_CMD START. -/
  | nimgStart (req : Fin 36) (entry : Fin 16) (target : BitVec 14)
  /-- NIMG_ABORT (R483): RESTR_NIMG_CMD ABORT. -/
  | nimgAbort (req : Fin 36) (entry : Fin 16)
  /-- NIMG_ERASE (R480): RESTR_NIMG_CMD ERASE. -/
  | nimgErase (req : Fin 36) (entry : Fin 16)
  /-- DISTRIBUTION_ROUND_END (R483): `waitS` seconds have passed since the round's last OFFER. -/
  | distributionRoundEnd (waitS : Nat)
  /-- IMG_STATUS (R481): A node's IMG_STATUS. -/
  | imgStatus (node : BitVec 14) (state : Byte) (imageId : BitVec 32) (have_ firstMissing : BitVec 16) (bitmap : BitVec 256)
  /-- REC_SAMPLE (R489): `sinceMs` have passed since binding `k` was sampled. -/
  | recSample (k : Fin 16) (sinceMs : Nat)
  /-- REC_TRIGGER (R494): A unit delivers a trigger with its VALUE and DATA. -/
  | recTrigger (code : BitVec 16) (value : BitVec 32) (data : List Byte)
  /-- SNAPSHOT_WRITE (R496): The snapshot at the head is programmed; `failures` of its programs fail. -/
  | snapshotWrite (failures : Nat)
  /-- PAGE_SEAL (R493): The recorder looks at the live page of binding `k`. -/
  | pageSeal (k : Fin 16) (failures : Nat)
  /-- SEAL (R493): REC_CTRL OP 0x1. -/
  | recSeal (req : Fin 36) (k : Fin 16)
  /-- SEAL_ALL (R493): REC_CTRL OP 0x2. -/
  | recSealAll (req : Fin 36)
  /-- REC_FETCH (R500): A write to REC_FETCH. -/
  | recFetch (req : Fin 36) (live : Bool) (k : Fin 16) (u : BitVec 19)
  /-- LEDGER_SNAP (R504): A write to LEDGER_SNAP. -/
  | ledgerSnap (req : Fin 36) (mask : BitVec 7)
  /-- LEDGER_COPY (R504): The LEDGER block looks whether ledger `i` can be copied for requester `req`. -/
  | ledgerCopy (req : Fin 36) (i : Fin 7)
  /-- LEDGER_CHECK (R506): `sinceS` seconds have passed since the last check. -/
  | ledgerCheck (sinceS : Nat)
  /-- DO_SHORT (R527): DO_n is shorted. -/
  | doShort (n : Fin 16)
  /-- DO_SHORT_RETRY (R527): The retry of DO_n, `sinceMs` after it switched off. -/
  | doShortRetry (n : Fin 16) (stillShort : Bool) (sinceMs : Nat)
  /-- COIL_OVERCURRENT (R527): The current of COIL_f. -/
  | coilOvercurrent (f : Fin 12) (mA : Nat)
  /-- LOGIC_OVERVOLTAGE (R527): LOGIC_IN at `mV` for `us`. -/
  | logicOvervoltage (mV us : Nat)
  /-- REFERENCE_TICK (R36): `n` ticks of the 1 µs reference tick pass. -/
  | referenceTick (n : Nat)
  /-- FRAME_FOR_OTHER_SLOT (R70): A valid frame for another slot, or a response frame of another module. -/
  | frameForOtherSlot (addr : BitVec 6) (resp : Bool) (quietUs : Nat)
  /-- PRESENT_N_BREAK (R94): PRESENT_N goes high. -/
  | presentNBreak
  /-- HEAD_END_LINK_UP (R363): Auto-negotiation completes at RATE `rate` of HCP_PORT_STAT. -/
  | headEndLinkUp (rate : Fin 5)
  /-- DTLS_ALERT (R377): A DTLS alert closes the association of a session slot. -/
  | dtlsAlert (session : Fin 4)
  /-- FORWARDED_EVENT (R383): An EVENT of another member arrives at the gateway. -/
  | forwardedEvent (source : BitVec 14) (lost : Bool) (payload : List Byte)
  /-- PTP_ANNOUNCE_SEND (R396): `sinceMs` have passed since the last Announce sent. -/
  | ptpAnnounceSend (sinceMs : Nat)
  /-- RESERVED_OPCODE (R302): The running task's next instruction word is `word`, whose OP is reserved. -/
  | reservedOpcode (word : BitVec 32)
  /-- FETCH_BEYOND_PROG_LEN (R308): The running task's next instruction lies at or above PROG_LEN. -/
  | fetchBeyondProgLen
  deriving DecidableEq, Repr

end Sys2Proof
end

