-- ==== Sys2Proof/Decode.lean ====
section
/-!
DEFINITION. Decode.lean: the command a word of spec/opcode_table.json spells. The table gives none of its rows bits, so no
word spells a command.
-/
namespace Sys2Proof

/-- The command that the word `w` of `nbits` bits spells. -/
def decodeTableWord (_nbits _w : Nat) : Option Instr := none

end Sys2Proof
end

