-- ==== Sys2Proof/Config.lean ====
section
/-!
DEFINITION. Config.lean: what is fixed for the machine: constants of the spec's tables, and the free values (opaque
constants without a body, so that no proof can see what they are): values the spec leaves open, and the cryptographic
functions, of which the spec gives the use and not the arithmetic.
-/
namespace Sys2Proof.Config

/-- The duty limit of EU sub-band `b` (EU-A = 0 to EU-E = 4) in units of 0.01 % (R147). -/
def dutyLimitCent (b : Nat) : Nat :=
  match b with
  | 0 => 10
  | 1 => 100
  | 2 => 100
  | 3 => 10
  | 4 => 1000
  | _ => 0

/-- A free value: the `n`-th value drawn from State.freeCtr. -/
opaque free : Nat → Nat

/-- The EUI-64 the module names in a JOIN (R341), which the spec does not give. -/
opaque moduleEui : Nat

/-- HMAC-SHA-256 of a message under a key (R447, R455). -/
opaque hmacSha256 : List Byte → List Byte → BitVec 256

/-- Z of the ECDH between a public point and the factory identity (R450): none for a point that is not on the curve. -/
opaque ecdhFactory : List Byte → Option Nat

/-- FACTORY_SERIAL (R445). -/
opaque factorySerial : Nat

/-- AES-256-GCM opened (R450): key, IV, additional data, ciphertext, tag; none for a bad tag. -/
opaque gcmOpen : Nat → Nat → List Byte → List Byte → List Byte → Option (List Byte)

/-- AES-128-CCM* with L = 2 (R158, R164): octet `i` of the key stream under a key and nonce, and the MIC of M octets over the
additional data and the plaintext. -/
opaque ccmStream : Nat → List Byte → Nat → Byte
opaque ccmMic : Nat → Nat → List Byte → List Byte → List Byte → Nat

/-- The LDPC code of ITU-T G.9960 at a rate (0: 1/2, 1: 2/3, 2: 5/6) (R143). -/
opaque ldpc : Nat → List Bool → List Bool

/-- RATE, and the short guard, that a frame on tone map 1 to 7 uses (R145): the spec leaves both to the sender. -/
opaque toneRate : Nat → Nat
opaque toneShort : Nat → Bool

/-- The bits on the air of a radio frame: PHR, whitening and modulation of IEEE 802.15.4g, by mode, FEC and frame with its FCS
(R146). -/
opaque radioAir : Nat → Bool → List Byte → List Bool

/-- Whether the contention period of a superframe of a medium is open (beacon FLAGS[0], R162): the spec does not say when it is
not. -/
opaque contentionOpen : Nat → Nat → Bool

/-- The signature check of a debug token (R459): its octets, and the challenge. -/
opaque tokenOk : List Byte → List Nat → Bool

/-- The test root of R459, the SHA-256 of a fixed string. -/
opaque testRoot : Nat

/-- SHA-384 of octets. -/
opaque sha384 : List Byte → Nat

/-- The signature of a firmware manifest under the Llynler firmware key (R467). -/
opaque manifestSigOk : List Byte → Bool

/-- A head-end client's X.509 certificate `cert` verifies under the public key of an anchor (R365, R446). -/
opaque certOk : Nat → Nat → Bool

/-- What a node image's manifest block says (R480), whose layout the spec does not give: both signatures verify under the
public key of an anchor; node type, firmware version, image length, image ID, number of blocks, the SHA-384 of a block, the
octets of IMAGE_HASH and IMAGE_SIG. -/
opaque nimgOk : Nat → List Byte → Bool
opaque nimgType : List Byte → Nat
opaque nimgVersion : List Byte → Nat
opaque nimgLen : List Byte → Nat
opaque nimgId : List Byte → Nat
opaque nimgBlocks : List Byte → Nat
opaque nimgHash : List Byte → Nat → Nat
opaque nimgOfferTail : List Byte → List Byte

/-- The filters of the Gauge whose corner, gain or delay the spec gives and not the arithmetic (R233, R238), each from its own state
and an input to its new state and output: DC blocking from a converter code to 2⁻¹⁶ code; the compensation of the Rogowski
integrator at a line frequency in mHz; the fractional delay by CH_CAL.PHASE; the Hilbert filter. -/
opaque dcBlock : Int → Int → Int × Int
opaque rogowski : Nat → Int → Int → Int × Int
opaque fracDelay : Int → Int → Int → Int × Int
opaque hilbert : Int → Int → Int × Int

/-- Steps 1 to 4 of R265 on a capture and its reference, within the carriers or the bands of the probe: the response at delay
sample `d` of 4 ns as a reflection coefficient in 2⁻³⁰. How much later the features of a stretch of a reflectogram arrive than those
of its baseline's, by cross-correlation, in 1/16 bin (R273). -/
opaque response : Bool → List Nat → List (Nat × Nat) → List Int → List Int → Nat → Int
opaque featureShift : List Int → List Int → Int

/-- The airtime in µs of a command frame of so many octets in a radio's beacon mode (R146): the spec gives no bit rates of
the OFDM modes. -/
opaque cmdAirUs : Nat → Nat → Nat

/-- The travel time in µs over a distance (0.1 m) at speed 0, which only a rule with no speed configured can give: the spec
states no result (R221, R223). -/
opaque symTravel : Nat → Nat

/-- The temperature in 0.1 °C of an NTC of resistance R at 25 °C (10 Ω) and B value, from its resistance in Ω: the spec
names the two parameters and not the curve (R328). -/
opaque ntcTemp : Nat → Nat → Nat → Int

/-- The octets of a configuration body of a format: the spec gives the header of a bank and not the layout of its body (R91). -/
opaque bodyOctets : Nat → CfgBody → List Byte

/-- The signature of octets 0 to 71 of a Primer header verifies under a public key, X × 2^384 + Y (R91). -/
opaque primerSigOk : Nat → List Byte → Nat → Bool

end Sys2Proof.Config
end

