-- ==== Sys2Proof/Machine/RegTypes.lean ====
section
/-!
DEFINITION. Machine/RegTypes.lean: what a register table of the spec says of a field (R8, R9, R10): its place, its reset
value, its Access and Commit columns, and the values its table or chapter refuses (R12, R41).
-/
namespace Sys2Proof.Machine

/-- One field of one register: the register's address, the field's lowest bit, its width and its Reset value. -/
structure Fld where
  addr  : Nat
  lo    : Nat
  width : Nat
  reset : Nat
  deriving DecidableEq, Repr

/-- The key a field is stored under: its register's address and its lowest bit. -/
def Fld.key (f : Fld) : Nat := f.addr * 32 + f.lo

/-- The Access column (R8). -/
inductive Acc where
  | rw | ro | rov | w1c | w1s | wo
  deriving DecidableEq, Repr

/-- The Commit column (R10): static, shadowed, live. -/
inductive Tag where
  | s | h | l
  deriving DecidableEq, Repr

/-- The Reset column (R9): a number, P (from the configuration) or B (battery-backed). -/
inductive Src where
  | num | p | b
  deriving DecidableEq, Repr

/-- How a Reset value is given: a number, or by index in a rule (R147, R261, R439). -/
inductive Rst where
  | zero
  | num (v : Nat)
  | duty | phase33 | floorPs | hasFloor
  deriving DecidableEq, Repr

/-- What a field's table refuses: an encoding it marks reserved (reason 0x2) or a value outside a stated limit or a wrong
KEY (reason 0x3). -/
inductive Chk where
  | any
  /-- encodings allowed; every other one is reserved -/
  | enc (ok : List Nat)
  /-- encodings 0 to `m` allowed; every higher one is reserved -/
  | encMax (m : Nat)
  /-- limits of an unsigned value -/
  | range (a b : Nat)
  /-- limits of a signed value -/
  | srange (a b : Int)
  | oneOf (ok : List Nat)
  | mult (m : Nat)
  | key (k : Nat)
  deriving DecidableEq, Repr

/-- One field of a register's table. -/
structure FieldDef where
  name   : String
  lo     : Nat
  width  : Nat
  reset  : Rst
  acc    : Acc
  tag    : Tag
  src    : Src
  perReq : Bool
  chk    : Chk
  deriving DecidableEq, Repr

/-- One register or register array: its offset in its block, (stride, count) per index, its fields. -/
structure RegDef where
  name : String
  off  : Nat
  dims : List (Nat × Nat)
  flds : List FieldDef
  deriving DecidableEq, Repr

/-- The duty limit of EU sub-band `b` in units of 0.01 % (R147). -/
def dutyOf (b : Nat) : Nat := Config.dutyLimitCent b

/-- FLOOR_PS of domain `d` (R439): 0 for a domain without a floor. -/
def floorPsOf (d : Nat) : Nat :=
  if d = 16 ∨ d = 17 then 640
  else if 18 ≤ d ∧ d ≤ 23 then 160
  else if d = 39 then 5000
  else if d = 25 ∨ d = 26 then 1250
  else 0

/-- HAS_FLOOR of domain `d` (R439). -/
def hasFloorOf (d : Nat) : Nat := if floorPsOf d = 0 then 0 else 1

/-- The Reset value of a field of array element `i`. -/
def Rst.at (r : Rst) (i : Nat) : Nat :=
  match r with
  | .zero => 0
  | .num v => v
  | .duty => dutyOf i
  | .phase33 => 33 * i
  | .floorPs => floorPsOf i
  | .hasFloor => hasFloorOf i

end Sys2Proof.Machine
end

