-- ==== Sys2Proof/Machine/Fields.lean ====
section
/-!
DEFINITION. Machine/Fields.lean: every field of every register the spec describes (spec/03 to spec/22), named
`<register>_<field>`, as the address of its register, its lowest bit, its width and its Reset value (R9; a field
marked P or B in the Reset column holds 0 here, and R88, R9 or R407 say what loads it). An array is a function of its
index. The four common registers of R40 take the block's number (their first argument) in the order of R36; the RING
registers take the path, 0 for RING_A and 1 for RING_B, which holds the same registers (spec/14).
-/
namespace Sys2Proof.Machine.F

/-- SYS_ID — SYS + 0x0000, [31:16] RO L. -/
def SYS_ID_PART : Fld := ⟨0x40000000, 16, 16, 29718⟩
/-- SYS_ID — SYS + 0x0000, [15:0] RO L. -/
def SYS_ID_STEP : Fld := ⟨0x40000000, 0, 16, 2⟩
/-- FRET_CYCLE — FRET + 0x0000, [15:0] RO/V L. -/
def FRET_CYCLE_CYCLE_PS : Fld := ⟨0x40030000, 0, 16, 0⟩
/-- FRET_POISON_CNT — FRET + 0x0004, [31:0] RO/V L. -/
def FRET_POISON_CNT_COUNT : Fld := ⟨0x40030004, 0, 32, 0⟩
/-- FRET_CFG_REJECT — FRET + 0x0008, [31:0] RO/V L. -/
def FRET_CFG_REJECT_COUNT : Fld := ⟨0x40030008, 0, 32, 0⟩
/-- FRET_PORT_STAT[n] — FRET + 0x0100 + 4 × n, n = 0 to 31, [31] WO L. -/
def FRET_PORT_STAT_CLEAR (i : Nat) : Fld := ⟨0x40030100 + 4 * i, 31, 1, 0⟩
/-- FRET_PORT_STAT[n] — FRET + 0x0100 + 4 × n, n = 0 to 31, [23:16] RO/V L. -/
def FRET_PORT_STAT_NACK_CNT (i : Nat) : Fld := ⟨0x40030100 + 4 * i, 16, 8, 0⟩
/-- FRET_PORT_STAT[n] — FRET + 0x0100 + 4 × n, n = 0 to 31, [15:8] RO/V L. -/
def FRET_PORT_STAT_PEAK (i : Nat) : Fld := ⟨0x40030100 + 4 * i, 8, 8, 0⟩
/-- FRET_PORT_STAT[n] — FRET + 0x0100 + 4 × n, n = 0 to 31, [7:0] RO/V L. -/
def FRET_PORT_STAT_LOAD (i : Nat) : Fld := ⟨0x40030100 + 4 * i, 0, 8, 0⟩
/-- SYS_COURSE_ROLE[n] — SYS + 0x0040 + 4 × n, n = 0 to 15, [8] RO/V L. -/
def SYS_COURSE_ROLE_ON (i : Nat) : Fld := ⟨0x40000040 + 4 * i, 8, 1, 0⟩
/-- SYS_COURSE_ROLE[n] — SYS + 0x0040 + 4 × n, n = 0 to 15, [3:0] RO/V L. -/
def SYS_COURSE_ROLE_ROLE (i : Nat) : Fld := ⟨0x40000040 + 4 * i, 0, 4, 0⟩
/-- SYS_PWR_LOGIC — SYS + 0x0080, [16] RO/V L. -/
def SYS_PWR_LOGIC_TRIM_ACTIVE : Fld := ⟨0x40000080, 16, 1, 0⟩
/-- SYS_PWR_LOGIC — SYS + 0x0080, [15:0] RO/V L. -/
def SYS_PWR_LOGIC_POWER : Fld := ⟨0x40000080, 0, 16, 0⟩
/-- <BLOCK>_STATE — <BLOCK> + 0xFF00, [0] RO/V L. -/
def STATE_RUN (blk : Nat) : Fld := ⟨0x40000000 + 0x10000 * blk + 0xFF00, 0, 1, 0⟩
/-- <BLOCK>_SHADOW — <BLOCK> + 0xFF04, [31:16] RO/V L. -/
def SHADOW_COMMIT_CNT (blk : Nat) : Fld := ⟨0x40000000 + 0x10000 * blk + 0xFF04, 16, 16, 0⟩
/-- <BLOCK>_SHADOW — <BLOCK> + 0xFF04, [8] RO/V L. -/
def SHADOW_PENDING (blk : Nat) : Fld := ⟨0x40000000 + 0x10000 * blk + 0xFF04, 8, 1, 0⟩
/-- <BLOCK>_SHADOW — <BLOCK> + 0xFF04, [1] RW L. -/
def SHADOW_VIEW (blk : Nat) : Fld := ⟨0x40000000 + 0x10000 * blk + 0xFF04, 1, 1, 0⟩
/-- <BLOCK>_SHADOW — <BLOCK> + 0xFF04, [0] RW L. -/
def SHADOW_HOLD (blk : Nat) : Fld := ⟨0x40000000 + 0x10000 * blk + 0xFF04, 0, 1, 0⟩
/-- <BLOCK>_REJECT_LAST — <BLOCK> + 0xFF08, [19:16] RO/V L. -/
def REJECT_LAST_REASON (blk : Nat) : Fld := ⟨0x40000000 + 0x10000 * blk + 0xFF08, 16, 4, 0⟩
/-- <BLOCK>_REJECT_LAST — <BLOCK> + 0xFF08, [15:0] RO/V L. -/
def REJECT_LAST_OFFSET (blk : Nat) : Fld := ⟨0x40000000 + 0x10000 * blk + 0xFF08, 0, 16, 0⟩
/-- <BLOCK>_CFG_REJECT — <BLOCK> + 0xFF0C, [31:0] RO/V L. -/
def CFG_REJECT_COUNT (blk : Nat) : Fld := ⟨0x40000000 + 0x10000 * blk + 0xFF0C, 0, 32, 0⟩
/-- SLOT_STATUS — SLOT + 0x0000, [21] RO/V L. -/
def SLOT_STATUS_EJECT_PREP : Fld := ⟨0x40190000, 21, 1, 0⟩
/-- SLOT_STATUS — SLOT + 0x0000, [20] RO/V L. -/
def SLOT_STATUS_EJECT_ACTIVE : Fld := ⟨0x40190000, 20, 1, 0⟩
/-- SLOT_STATUS — SLOT + 0x0000, [17] RO/V L. -/
def SLOT_STATUS_BYPASS_STATE_B : Fld := ⟨0x40190000, 17, 1, 0⟩
/-- SLOT_STATUS — SLOT + 0x0000, [16] RO/V L. -/
def SLOT_STATUS_BYPASS_STATE_A : Fld := ⟨0x40190000, 16, 1, 0⟩
/-- SLOT_STATUS — SLOT + 0x0000, [13] RO/V L. -/
def SLOT_STATUS_HOLD_B : Fld := ⟨0x40190000, 13, 1, 0⟩
/-- SLOT_STATUS — SLOT + 0x0000, [12] RO/V L. -/
def SLOT_STATUS_HOLD_A : Fld := ⟨0x40190000, 12, 1, 0⟩
/-- SLOT_STATUS — SLOT + 0x0000, [9] RO/V L. -/
def SLOT_STATUS_LEVER : Fld := ⟨0x40190000, 9, 1, 0⟩
/-- SLOT_STATUS — SLOT + 0x0000, [8] RO/V L. -/
def SLOT_STATUS_PRESENT : Fld := ⟨0x40190000, 8, 1, 0⟩
/-- SLOT_STATUS — SLOT + 0x0000, [5:0] RO/V L. -/
def SLOT_STATUS_ADDR : Fld := ⟨0x40190000, 0, 6, 63⟩
/-- SLOT_BYPASS_CTRL — SLOT + 0x0004, [1] RW L. -/
def SLOT_BYPASS_CTRL_HOLD_EN_B : Fld := ⟨0x40190004, 1, 1, 1⟩
/-- SLOT_BYPASS_CTRL — SLOT + 0x0004, [0] RW L. -/
def SLOT_BYPASS_CTRL_HOLD_EN_A : Fld := ⟨0x40190004, 0, 1, 1⟩
/-- SLOT_LOOPBACK — SLOT + 0x0008, [31:24] RO/V L. -/
def SLOT_LOOPBACK_RETRY_B : Fld := ⟨0x40190008, 24, 8, 0⟩
/-- SLOT_LOOPBACK — SLOT + 0x0008, [23:16] RO/V L. -/
def SLOT_LOOPBACK_RETRY_A : Fld := ⟨0x40190008, 16, 8, 0⟩
/-- SLOT_LOOPBACK — SLOT + 0x0008, [11:8] RO/V L. -/
def SLOT_LOOPBACK_PORT_OK : Fld := ⟨0x40190008, 8, 4, 0⟩
/-- SLOT_LOOPBACK — SLOT + 0x0008, [3:2] RO/V L. -/
def SLOT_LOOPBACK_RESULT_B : Fld := ⟨0x40190008, 2, 2, 0⟩
/-- SLOT_LOOPBACK — SLOT + 0x0008, [1:0] RO/V L. -/
def SLOT_LOOPBACK_RESULT_A : Fld := ⟨0x40190008, 0, 2, 0⟩
/-- SLOT_BUS_STAT — SLOT + 0x000C, [15:8] RO/V L. -/
def SLOT_BUS_STAT_COLLISIONS : Fld := ⟨0x4019000C, 8, 8, 0⟩
/-- SLOT_BUS_STAT — SLOT + 0x000C, [1] RO/V L. -/
def SLOT_BUS_STAT_IGNORING : Fld := ⟨0x4019000C, 1, 1, 0⟩
/-- SLOT_BUS_STAT — SLOT + 0x000C, [0] W1C L. -/
def SLOT_BUS_STAT_SB_FAULT : Fld := ⟨0x4019000C, 0, 1, 0⟩
/-- SLOT_BUS_CNT — SLOT + 0x0010, [31:16] RO/V L. -/
def SLOT_BUS_CNT_GOOD : Fld := ⟨0x40190010, 16, 16, 0⟩
/-- SLOT_BUS_CNT — SLOT + 0x0010, [15:8] RO/V L. -/
def SLOT_BUS_CNT_CRC_ERR : Fld := ⟨0x40190010, 8, 8, 0⟩
/-- SLOT_BUS_CNT — SLOT + 0x0010, [7:0] RO/V L. -/
def SLOT_BUS_CNT_TIMEOUT : Fld := ⟨0x40190010, 0, 8, 0⟩
/-- SLOT_BUS_CFG — SLOT + 0x0014, [0] RW H. -/
def SLOT_BUS_CFG_ENABLE : Fld := ⟨0x40190014, 0, 1, 1⟩
/-- SLOT_WAKE_CNT — SLOT + 0x0018, [31:16] RO/V L. -/
def SLOT_WAKE_CNT_WAKES : Fld := ⟨0x40190018, 16, 16, 0⟩
/-- SLOT_WAKE_CNT — SLOT + 0x0018, [15:0] RO/V L. -/
def SLOT_WAKE_CNT_REPEATS : Fld := ⟨0x40190018, 0, 16, 0⟩
/-- SLOT_PRIMER_STAT — SLOT + 0x001C, [19:16] RO/V L. -/
def SLOT_PRIMER_STAT_MODE : Fld := ⟨0x4019001C, 16, 4, 0⟩
/-- SLOT_PRIMER_STAT — SLOT + 0x001C, [7:0] RO/V L. -/
def SLOT_PRIMER_STAT_STATE : Fld := ⟨0x4019001C, 0, 8, 0⟩
/-- SLOT_PRIMER_TIME — SLOT + 0x0020, [31:0] RO/V L. -/
def SLOT_PRIMER_TIME_DURATION_US : Fld := ⟨0x40190020, 0, 32, 0⟩
/-- SLOT_PRIMER_ID — SLOT + 0x0024, [23:0] RO/V L. -/
def SLOT_PRIMER_ID_JEDEC_ID : Fld := ⟨0x40190024, 0, 24, 0⟩
/-- SLOT_PRIMER_WB — SLOT + 0x0028, [31:28] RO/V L. -/
def SLOT_PRIMER_WB_STATE : Fld := ⟨0x40190028, 28, 4, 0⟩
/-- SLOT_PRIMER_WB — SLOT + 0x0028, [27:24] RO/V L. -/
def SLOT_PRIMER_WB_BANK : Fld := ⟨0x40190028, 24, 4, 0⟩
/-- SLOT_PRIMER_WB — SLOT + 0x0028, [23:0] RO/V L. -/
def SLOT_PRIMER_WB_PAGES : Fld := ⟨0x40190028, 0, 24, 0⟩
/-- SLOT_EJECT_CNT — SLOT + 0x002C, [31:16] RO/V L. -/
def SLOT_EJECT_CNT_ABORTS : Fld := ⟨0x4019002C, 16, 16, 0⟩
/-- SLOT_EJECT_CNT — SLOT + 0x002C, [15:0] RO/V L. -/
def SLOT_EJECT_CNT_GLITCHES : Fld := ⟨0x4019002C, 0, 16, 0⟩
/-- SLOT_EJECT_TIME — SLOT + 0x0030, [15:0] RO/V L. -/
def SLOT_EJECT_TIME_PREP_US : Fld := ⟨0x40190030, 0, 16, 0⟩
/-- SLOT_SB_LAST[n] — SLOT + 0x0040 + 4 × n, n = 0 to 9, [31:0] RO/V L. -/
def SLOT_SB_LAST_OCTETS (i : Nat) : Fld := ⟨0x40190040 + 4 * i, 0, 32, 0⟩
/-- SLOT_SFDP_HDR[n] — SLOT + 0x0080 + 4 × n, n = 0 to 3, [31:0] RO/V L. -/
def SLOT_SFDP_HDR_DWORD (i : Nat) : Fld := ⟨0x40190080 + 4 * i, 0, 32, 0⟩
/-- SLOT_BFPT[n] — SLOT + 0x0090 + 4 × n, n = 0 to 22, [31:0] RO/V L. -/
def SLOT_BFPT_DWORD (i : Nat) : Fld := ⟨0x40190090 + 4 * i, 0, 32, 0⟩
/-- SLOT_SFDP_4BA[n] — SLOT + 0x00F0 + 4 × n, n = 0 to 1, [31:0] RO/V L. -/
def SLOT_SFDP_4BA_DWORD (i : Nat) : Fld := ⟨0x401900F0 + 4 * i, 0, 32, 0⟩
/-- SYS_START_STAT — SYS + 0x00C0, [20] RO/V L. -/
def SYS_START_STAT_FW_SLOT : Fld := ⟨0x400000C0, 20, 1, 0⟩
/-- SYS_START_STAT — SYS + 0x00C0, [3:0] RO/V L. -/
def SYS_START_STAT_PHASE : Fld := ⟨0x400000C0, 0, 4, 0⟩
/-- SYS_START_TIME — SYS + 0x00C4, [31:16] RO/V L. -/
def SYS_START_TIME_FULL_MS : Fld := ⟨0x400000C4, 16, 16, 0⟩
/-- SYS_START_TIME — SYS + 0x00C4, [15:0] RO/V L. -/
def SYS_START_TIME_SURVIVAL_MS : Fld := ⟨0x400000C4, 0, 16, 0⟩
/-- SYS_RESET_CAUSE — SYS + 0x00C8, [23:16] RO/V L. -/
def SYS_RESET_CAUSE_FW_RESTARTS : Fld := ⟨0x400000C8, 16, 8, 0⟩
/-- SYS_RESET_CAUSE — SYS + 0x00C8, [11:8] RO/V L. -/
def SYS_RESET_CAUSE_PREV : Fld := ⟨0x400000C8, 8, 4, 0⟩
/-- SYS_RESET_CAUSE — SYS + 0x00C8, [3:0] RO/V L. -/
def SYS_RESET_CAUSE_CAUSE : Fld := ⟨0x400000C8, 0, 4, 0⟩
/-- SYS_CONFIG_SRC — SYS + 0x00CC, [31:24] RO/V L. -/
def SYS_CONFIG_SRC_FORMAT : Fld := ⟨0x400000CC, 24, 8, 0⟩
/-- SYS_CONFIG_SRC — SYS + 0x00CC, [19:16] RO/V L. -/
def SYS_CONFIG_SRC_BANK1_STATE : Fld := ⟨0x400000CC, 16, 4, 0⟩
/-- SYS_CONFIG_SRC — SYS + 0x00CC, [15:12] RO/V L. -/
def SYS_CONFIG_SRC_BANK0_STATE : Fld := ⟨0x400000CC, 12, 4, 0⟩
/-- SYS_CONFIG_SRC — SYS + 0x00CC, [8] RO/V L. -/
def SYS_CONFIG_SRC_SEATED : Fld := ⟨0x400000CC, 8, 1, 0⟩
/-- SYS_CONFIG_SRC — SYS + 0x00CC, [3:0] RO/V L. -/
def SYS_CONFIG_SRC_SOURCE : Fld := ⟨0x400000CC, 0, 4, 0⟩
/-- SYS_CONFIG_SEQ — SYS + 0x00D0, [31:0] RO/V L. -/
def SYS_CONFIG_SEQ_SEQUENCE : Fld := ⟨0x400000D0, 0, 32, 0⟩
/-- SYS_RESTART — SYS + 0x00D4, [31:16] WO L. -/
def SYS_RESTART_KEY : Fld := ⟨0x400000D4, 16, 16, 0⟩
/-- SYS_RESTART — SYS + 0x00D4, [1:0] WO L. -/
def SYS_RESTART_KIND : Fld := ⟨0x400000D4, 0, 2, 0⟩
/-- SYS_WDOG — SYS + 0x00D8, [15:0] WO L. -/
def SYS_WDOG_KICK : Fld := ⟨0x400000D8, 0, 16, 0⟩
/-- PEG_FLUSH — PEG + 0x0000, [19:0] WO L. -/
def PEG_FLUSH_QUEUE : Fld := ⟨0x40040000, 0, 20, 0⟩
/-- PEG_QSEL — PEG + 0x0004, [19:0] RW L. -/
def PEG_QSEL_QUEUE : Fld := ⟨0x40040004, 0, 20, 0⟩
/-- PEG_QCFG — PEG + 0x0008, [12] W1C L. -/
def PEG_QCFG_POISON_SEEN : Fld := ⟨0x40040008, 12, 1, 0⟩
/-- PEG_QCFG — PEG + 0x0008, [11] W1C L. -/
def PEG_QCFG_DROP_SEEN : Fld := ⟨0x40040008, 11, 1, 0⟩
/-- PEG_QCFG — PEG + 0x0008, [10:7] RW H. -/
def PEG_QCFG_PROFILE : Fld := ⟨0x40040008, 7, 4, 0⟩
/-- PEG_QCFG — PEG + 0x0008, [6:2] RW H. -/
def PEG_QCFG_CONSUMER : Fld := ⟨0x40040008, 2, 5, 0⟩
/-- PEG_QCFG — PEG + 0x0008, [1] RW H. -/
def PEG_QCFG_NOTIFY_EN : Fld := ⟨0x40040008, 1, 1, 0⟩
/-- PEG_QCFG — PEG + 0x0008, [0] RW L. -/
def PEG_QCFG_ENABLE : Fld := ⟨0x40040008, 0, 1, 0⟩
/-- PEG_QSTAT[n] — PEG + 0x0010 + 4 × n, n = 0 to 3, [31:0] RO/V L. -/
def PEG_QSTAT_WORD (i : Nat) : Fld := ⟨0x40040010 + 4 * i, 0, 32, 0⟩
/-- PEG_CTX_TIMEOUT — PEG + 0x0020, [15:0] RW L. -/
def PEG_CTX_TIMEOUT_MS : Fld := ⟨0x40040020, 0, 16, 10⟩
/-- PEG_CLAIM_TIMEOUT — PEG + 0x0024, [15:0] RW L. -/
def PEG_CLAIM_TIMEOUT_MS : Fld := ⟨0x40040024, 0, 16, 100⟩
/-- PEG_ERR — PEG + 0x0028, [3] W1C L. -/
def PEG_ERR_QUARANTINE : Fld := ⟨0x40040028, 3, 1, 0⟩
/-- PEG_ERR — PEG + 0x0028, [2] W1C L. -/
def PEG_ERR_FREE_LOW : Fld := ⟨0x40040028, 2, 1, 0⟩
/-- PEG_ERR — PEG + 0x0028, [1] W1C L. -/
def PEG_ERR_TAG_UNCORR : Fld := ⟨0x40040028, 1, 1, 0⟩
/-- PEG_ERR — PEG + 0x0028, [0] W1C L. -/
def PEG_ERR_TAG_CORR : Fld := ⟨0x40040028, 0, 1, 0⟩
/-- PEG_ERR_QUEUE — PEG + 0x002C, [19:0] RO/V L. -/
def PEG_ERR_QUEUE_QUEUE : Fld := ⟨0x4004002C, 0, 20, 0⟩
/-- PEG_ERR_CELL — PEG + 0x0030, [18:0] RO/V L. -/
def PEG_ERR_CELL_CELL : Fld := ⟨0x40040030, 0, 19, 0⟩
/-- PEG_CELL_FREE — PEG + 0x0034, [19:0] RO/V L. -/
def PEG_CELL_FREE_FREE : Fld := ⟨0x40040034, 0, 20, 0⟩
/-- PEG_FREE_WARN — PEG + 0x0038, [19:0] RW L. -/
def PEG_FREE_WARN_LEVEL : Fld := ⟨0x40040038, 0, 20, 16384⟩
/-- PEG_FREE_MIN — PEG + 0x003C, [31] WO L. -/
def PEG_FREE_MIN_CLEAR : Fld := ⟨0x4004003C, 31, 1, 0⟩
/-- PEG_FREE_MIN — PEG + 0x003C, [19:0] RO/V L. -/
def PEG_FREE_MIN_MIN : Fld := ⟨0x4004003C, 0, 20, 524288⟩
/-- PEG_LIMITS — PEG + 0x0040, [31:28] RO L. -/
def PEG_LIMITS_PORTS : Fld := ⟨0x40040040, 28, 4, 4⟩
/-- PEG_LIMITS — PEG + 0x0040, [27:20] RO L. -/
def PEG_LIMITS_PKT_CELLS : Fld := ⟨0x40040040, 20, 8, 144⟩
/-- PEG_LIMITS — PEG + 0x0040, [19:0] RO L. -/
def PEG_LIMITS_CELLS : Fld := ⟨0x40040040, 0, 20, 524288⟩
/-- PEG_AUDIT_CTRL — PEG + 0x0044, [31:16] RO/V L. -/
def PEG_AUDIT_CTRL_SNAP_CNT : Fld := ⟨0x40040044, 16, 16, 0⟩
/-- PEG_AUDIT_CTRL — PEG + 0x0044, [8] RO/V L. -/
def PEG_AUDIT_CTRL_VALID : Fld := ⟨0x40040044, 8, 1, 0⟩
/-- PEG_AUDIT_CTRL — PEG + 0x0044, [0] WO L. -/
def PEG_AUDIT_CTRL_SNAP : Fld := ⟨0x40040044, 0, 1, 0⟩
/-- PEG_AUDIT[n] — PEG + 0x0048 + 4 × n, n = 0 to 5, [19:0] RO/V L. -/
def PEG_AUDIT_VALUE (i : Nat) : Fld := ⟨0x40040048 + 4 * i, 0, 20, 0⟩
/-- PEG_CTX_SEL — PEG + 0x0060, [4:0] RW L. -/
def PEG_CTX_SEL_PORT : Fld := ⟨0x40040060, 0, 5, 0⟩
/-- PEG_CTX_BITMAP[n] — PEG + 0x0064 + 4 × n, n = 0 to 7, [31:0] RO/V L. -/
def PEG_CTX_BITMAP_BUSY (i : Nat) : Fld := ⟨0x40040064 + 4 * i, 0, 32, 0⟩
/-- PEG_PROFILE_A[n] — PEG + 0x0100 + 4 × n, n = 0 to 15, [27] RW H. -/
def PEG_PROFILE_A_EXP_ALLOW (i : Nat) : Fld := ⟨0x40040100 + 4 * i, 27, 1, 1⟩
/-- PEG_PROFILE_A[n] — PEG + 0x0100 + 4 × n, n = 0 to 15, [26:19] RW H. -/
def PEG_PROFILE_A_MAX_PKT_CELLS (i : Nat) : Fld := ⟨0x40040100 + 4 * i, 19, 8, 144⟩
/-- PEG_PROFILE_A[n] — PEG + 0x0100 + 4 × n, n = 0 to 15, [18:0] RW H. -/
def PEG_PROFILE_A_MAX_CELLS (i : Nat) : Fld := ⟨0x40040100 + 4 * i, 0, 19, 4096⟩
/-- PEG_PROFILE_B[n] — PEG + 0x0140 + 4 × n, n = 0 to 15, [15:0] RW H. -/
def PEG_PROFILE_B_MAX_PKTS (i : Nat) : Fld := ⟨0x40040140 + 4 * i, 0, 16, 1024⟩
/-- PEG_CREDIT[n] — PEG + 0x0200 + 4 × n, n = 0 to 31, [31:16] RW L. -/
def PEG_CREDIT_CAP (i : Nat) : Fld := ⟨0x40040200 + 4 * i, 16, 16, 32768⟩
/-- PEG_CREDIT[n] — PEG + 0x0200 + 4 × n, n = 0 to 31, [15:0] RW L. -/
def PEG_CREDIT_RESERVE (i : Nat) : Fld := ⟨0x40040200 + 4 * i, 0, 16, 10⟩
/-- PEG_CREDIT_USE[n] — PEG + 0x0280 + 4 × n, n = 0 to 31, [19:0] RO/V L. -/
def PEG_CREDIT_USE_USE (i : Nat) : Fld := ⟨0x40040280 + 4 * i, 0, 20, 0⟩
/-- PEG_CLAIM_MAX[n] — PEG + 0x0300 + 4 × n, n = 0 to 31, [12:0] RW L. -/
def PEG_CLAIM_MAX_MAX (i : Nat) : Fld := ⟨0x40040300 + 4 * i, 0, 13, 512⟩
/-- PEG_CLAIM_USE[n] — PEG + 0x0380 + 4 × n, n = 0 to 31, [12:0] RO/V L. -/
def PEG_CLAIM_USE_USE (i : Nat) : Fld := ⟨0x40040380 + 4 * i, 0, 13, 0⟩
/-- PEG_PCNT[n][m] — PEG + 0x0400 + 64 × n, n = 0 to 3 + 4 × m, m = 0 to 15, [31:0] RO/V L. -/
def PEG_PCNT_COUNT (i j : Nat) : Fld := ⟨0x40040400 + 64 * i + 4 * j, 0, 32, 0⟩
/-- FPLC_FEEDER_EN — FPLC + 0x0000, [11:0] RW H. -/
def FPLC_FEEDER_EN_EN : Fld := ⟨0x40060000, 0, 12, 0⟩
/-- FPLC_SF_CFG — FPLC + 0x0004, [13:8] RW H. -/
def FPLC_SF_CFG_CONT_LEN : Fld := ⟨0x40060004, 8, 6, 16⟩
/-- FPLC_SF_CFG — FPLC + 0x0004, [5:0] RW H. -/
def FPLC_SF_CFG_CIP_LEN : Fld := ⟨0x40060004, 0, 6, 32⟩
/-- FPLC_RETRY — FPLC + 0x0008, [3:0] RW L. -/
def FPLC_RETRY_LIMIT : Fld := ⟨0x40060008, 0, 4, 3⟩
/-- FPLC_SFN_LO — FPLC + 0x0010, [31:0] RO/V L. -/
def FPLC_SFN_LO_SFN : Fld := ⟨0x40060010, 0, 32, 0⟩
/-- FPLC_SFN_HI — FPLC + 0x0014, [15:0] RO/V L. -/
def FPLC_SFN_HI_SFN : Fld := ⟨0x40060014, 0, 16, 0⟩
/-- FPLC_TX_ATTEN[n] — FPLC + 0x0020 + 4 × n, n = 0 to 11, [4:0] RW H. -/
def FPLC_TX_ATTEN_DB (i : Nat) : Fld := ⟨0x40060020 + 4 * i, 0, 5, 0⟩
/-- FPLC_NOTCH_EXTRA[n] — FPLC + 0x0060 + 4 × n, n = 0 to 15, [31] RW H. -/
def FPLC_NOTCH_EXTRA_EN (i : Nat) : Fld := ⟨0x40060060 + 4 * i, 31, 1, 0⟩
/-- FPLC_NOTCH_EXTRA[n] — FPLC + 0x0060 + 4 × n, n = 0 to 15, [19:10] RW H. -/
def FPLC_NOTCH_EXTRA_LAST (i : Nat) : Fld := ⟨0x40060060 + 4 * i, 10, 10, 0⟩
/-- FPLC_NOTCH_EXTRA[n] — FPLC + 0x0060 + 4 × n, n = 0 to 15, [9:0] RW H. -/
def FPLC_NOTCH_EXTRA_FIRST (i : Nat) : Fld := ⟨0x40060060 + 4 * i, 0, 10, 0⟩
/-- FPLC_FEEDER_STAT[n] — FPLC + 0x00A0 + 4 × n, n = 0 to 11, [31:16] RO/V L. -/
def FPLC_FEEDER_STAT_NODES (i : Nat) : Fld := ⟨0x400600A0 + 4 * i, 16, 16, 0⟩
/-- FPLC_FEEDER_STAT[n] — FPLC + 0x00A0 + 4 × n, n = 0 to 11, [7:0] RO/V L. -/
def FPLC_FEEDER_STAT_PHY_MBPS (i : Nat) : Fld := ⟨0x400600A0 + 4 * i, 0, 8, 0⟩
/-- FPLC_CNT[n][m] — FPLC + 0x0100 + 32 × n, n = 0 to 11 + 4 × m, m = 0 to 7, [31:0] RO/V L. -/
def FPLC_CNT_COUNT (i j : Nat) : Fld := ⟨0x40060100 + 32 * i + 4 * j, 0, 32, 0⟩
/-- FRAD_RADIO_CFG[n] — FRAD + 0x0000 + 4 × n, n = 0 to 3, [31] RW H. -/
def FRAD_RADIO_CFG_EN (i : Nat) : Fld := ⟨0x40070000 + 4 * i, 31, 1, 0⟩
/-- FRAD_RADIO_CFG[n] — FRAD + 0x0000 + 4 × n, n = 0 to 3, [30:27] RW S. -/
def FRAD_RADIO_CFG_PLAN (i : Nat) : Fld := ⟨0x40070000 + 4 * i, 27, 4, 0⟩
/-- FRAD_RADIO_CFG[n] — FRAD + 0x0000 + 4 × n, n = 0 to 3, [26:23] RW S. -/
def FRAD_RADIO_CFG_MODE (i : Nat) : Fld := ⟨0x40070000 + 4 * i, 23, 4, 0⟩
/-- FRAD_RADIO_CFG[n] — FRAD + 0x0000 + 4 × n, n = 0 to 3, [22:16] RW S. -/
def FRAD_RADIO_CFG_STEP (i : Nat) : Fld := ⟨0x40070000 + 4 * i, 16, 7, 0⟩
/-- FRAD_RADIO_CFG[n] — FRAD + 0x0000 + 4 × n, n = 0 to 3, [15:9] RW H. -/
def FRAD_RADIO_CFG_OFFSET (i : Nat) : Fld := ⟨0x40070000 + 4 * i, 9, 7, 0⟩
/-- FRAD_RADIO_CFG[n] — FRAD + 0x0000 + 4 × n, n = 0 to 3, [8:5] RW L. -/
def FRAD_RADIO_CFG_RETRY (i : Nat) : Fld := ⟨0x40070000 + 4 * i, 5, 4, 2⟩
/-- FRAD_RADIO_CFG[n] — FRAD + 0x0000 + 4 × n, n = 0 to 3, [4:0] RW H. -/
def FRAD_RADIO_CFG_PWR (i : Nat) : Fld := ⟨0x40070000 + 4 * i, 0, 5, 0⟩
/-- FRAD_ANT_GAIN[n] — FRAD + 0x0010 + 4 × n, n = 0 to 3, [7:0] RW S. -/
def FRAD_ANT_GAIN_HALF_DB (i : Nat) : Fld := ⟨0x40070010 + 4 * i, 0, 8, 0⟩
/-- FRAD_SUBBAND_CFG[n] — FRAD + 0x0020 + 4 × n, n = 0 to 4, [23:16] RW L. -/
def FRAD_SUBBAND_CFG_PRIO_PCT (i : Nat) : Fld := ⟨0x40070020 + 4 * i, 16, 8, 5⟩
/-- FRAD_SUBBAND_CFG[n] — FRAD + 0x0020 + 4 × n, n = 0 to 4, [15:0] RW L. -/
def FRAD_SUBBAND_CFG_DUTY_CENT (i : Nat) : Fld := ⟨0x40070020 + 4 * i, 0, 16, (dutyOf i)⟩
/-- FRAD_TOKEN[n][m] — FRAD + 0x0040 + 16 × n, n = 0 to 6 + 4 × m, m = 0 to 3, [31:0] RO/V L. -/
def FRAD_TOKEN_VALUE (i j : Nat) : Fld := ⟨0x40070040 + 16 * i + 4 * j, 0, 32, 0⟩
/-- FRAD_AUDIT_CTRL — FRAD + 0x00C0, [31:16] RO/V L. -/
def FRAD_AUDIT_CTRL_SNAP_CNT : Fld := ⟨0x400700C0, 16, 16, 0⟩
/-- FRAD_AUDIT_CTRL — FRAD + 0x00C0, [0] WO L. -/
def FRAD_AUDIT_CTRL_SNAP : Fld := ⟨0x400700C0, 0, 1, 0⟩
/-- FRAD_DWELL_MAX[n] — FRAD + 0x00D0 + 4 × n, n = 0 to 3, [31:0] RO/V L. -/
def FRAD_DWELL_MAX_US (i : Nat) : Fld := ⟨0x400700D0 + 4 * i, 0, 32, 0⟩
/-- FRAD_CNT[n][m] — FRAD + 0x0100 + 32 × n, n = 0 to 3 + 4 × m, m = 0 to 7, [31:0] RO/V L. -/
def FRAD_CNT_COUNT (i j : Nat) : Fld := ⟨0x40070100 + 32 * i + 4 * j, 0, 32, 0⟩
/-- NODE_DRIFT_CFG — NODE + 0x0000, [31:24] RW H. -/
def NODE_DRIFT_CFG_U_INIT : Fld := ⟨0x40080000, 24, 8, 20⟩
/-- NODE_DRIFT_CFG — NODE + 0x0000, [23:16] RW H. -/
def NODE_DRIFT_CFG_U_TRACK : Fld := ⟨0x40080000, 16, 8, 20⟩
/-- NODE_DRIFT_CFG — NODE + 0x0000, [15:0] RW H. -/
def NODE_DRIFT_CFG_GUARD_US : Fld := ⟨0x40080000, 0, 16, 500⟩
/-- NODE_WAKE_CFG — NODE + 0x0004, [31:26] RW H. -/
def NODE_WAKE_CFG_EU_CH : Fld := ⟨0x40080004, 26, 6, 32⟩
/-- NODE_WAKE_CFG — NODE + 0x0004, [25:16] RW H. -/
def NODE_WAKE_CFG_HOLD_100MS : Fld := ⟨0x40080004, 16, 10, 20⟩
/-- NODE_WAKE_CFG — NODE + 0x0004, [15:8] RW H. -/
def NODE_WAKE_CFG_T_WAKE_MS : Fld := ⟨0x40080004, 8, 8, 20⟩
/-- NODE_WAKE_CFG — NODE + 0x0004, [2:0] RW H. -/
def NODE_WAKE_CFG_REPS : Fld := ⟨0x40080004, 0, 3, 2⟩
/-- NODE_SEL — NODE + 0x0010, [13:0] RW L. -/
def NODE_SEL_SLOT : Fld := ⟨0x40080010, 0, 14, 0⟩
/-- NODE_EUI_LO — NODE + 0x0014, [31:0] RW L. -/
def NODE_EUI_LO_EUI : Fld := ⟨0x40080014, 0, 32, 0⟩
/-- NODE_EUI_HI — NODE + 0x0018, [31:0] RW L. -/
def NODE_EUI_HI_EUI : Fld := ⟨0x40080018, 0, 32, 0⟩
/-- NODE_ADMIN — NODE + 0x001C, [31:28] WO L. -/
def NODE_ADMIN_OP : Fld := ⟨0x4008001C, 28, 4, 0⟩
/-- NODE_ADMIN — NODE + 0x001C, [20:16] WO L. -/
def NODE_ADMIN_GROUP : Fld := ⟨0x4008001C, 16, 5, 0⟩
/-- NODE_ADMIN_STAT — NODE + 0x0020, [15:8] RO/V L. -/
def NODE_ADMIN_STAT_STATUS : Fld := ⟨0x40080020, 8, 8, 0⟩
/-- NODE_ADMIN_STAT — NODE + 0x0020, [3:0] RO/V L. -/
def NODE_ADMIN_STAT_OP : Fld := ⟨0x40080020, 0, 4, 0⟩
/-- NODE_COUNT — NODE + 0x0024, [29:16] RO/V L. -/
def NODE_COUNT_LOST : Fld := ⟨0x40080024, 16, 14, 0⟩
/-- NODE_COUNT — NODE + 0x0024, [13:0] RO/V L. -/
def NODE_COUNT_JOINED : Fld := ⟨0x40080024, 0, 14, 0⟩
/-- NODE_IMG_PUB_C — NODE + 0x0028, [31:0] RO/V L. -/
def NODE_IMG_PUB_C_P : Fld := ⟨0x40080028, 0, 32, 0⟩
/-- NODE_IMG_PUB_R — NODE + 0x002C, [31:0] RO/V L. -/
def NODE_IMG_PUB_R_P : Fld := ⟨0x4008002C, 0, 32, 0⟩
/-- NODE_ORPHAN_CFG — NODE + 0x0030, [31:16] RW H. -/
def NODE_ORPHAN_CFG_LOST_S : Fld := ⟨0x40080030, 16, 16, 600⟩
/-- NODE_ORPHAN_CFG — NODE + 0x0030, [15:0] RW H. -/
def NODE_ORPHAN_CFG_ORPHAN_S : Fld := ⟨0x40080030, 0, 16, 60⟩
/-- NODE_CAL_CFG — NODE + 0x0034, [31:16] RW H. -/
def NODE_CAL_CFG_LEAD_RADIO_S : Fld := ⟨0x40080034, 16, 16, 300⟩
/-- NODE_CAL_CFG — NODE + 0x0034, [15:0] RW H. -/
def NODE_CAL_CFG_LEAD_CARRIER_S : Fld := ⟨0x40080034, 0, 16, 60⟩
/-- NODE_CAL_CFG2 — NODE + 0x0038, [18:16] RW H. -/
def NODE_CAL_CFG2_MCAST_REPS : Fld := ⟨0x40080038, 16, 3, 3⟩
/-- NODE_CAL_CFG2 — NODE + 0x0038, [15:0] RW H. -/
def NODE_CAL_CFG2_REJOIN_FADE : Fld := ⟨0x40080038, 0, 16, 300⟩
/-- NODE_CAL_STAT — NODE + 0x003C, [31:16] RO/V L. -/
def NODE_CAL_STAT_ISSUED : Fld := ⟨0x4008003C, 16, 16, 0⟩
/-- NODE_CAL_STAT — NODE + 0x003C, [15:0] RO/V L. -/
def NODE_CAL_STAT_SUPPRESSED : Fld := ⟨0x4008003C, 0, 16, 0⟩
/-- NODE_CAL_LAST[n] — NODE + 0x0100 + 4 × n, n = 0 to 31, [31:0] RO/V L. -/
def NODE_CAL_LAST_KEY (i : Nat) : Fld := ⟨0x40080100 + 4 * i, 0, 32, 0⟩
/-- NODE_FEEDER_GROUP[n] — NODE + 0x0180 + 4 × n, n = 0 to 11, [8] RW H. -/
def NODE_FEEDER_GROUP_EN (i : Nat) : Fld := ⟨0x40080180 + 4 * i, 8, 1, 0⟩
/-- NODE_FEEDER_GROUP[n] — NODE + 0x0180 + 4 × n, n = 0 to 11, [4:0] RW H. -/
def NODE_FEEDER_GROUP_GROUP (i : Nat) : Fld := ⟨0x40080180 + 4 * i, 0, 5, 0⟩
/-- NODE_CNT[n] — NODE + 0x0200 + 4 × n, n = 0 to 7, [31:0] RO/V L. -/
def NODE_CNT_COUNT (i : Nat) : Fld := ⟨0x40080200 + 4 * i, 0, 32, 0⟩
/-- SYM_CTRL — SYM + 0x0000, [8] RO/V L. -/
def SYM_CTRL_LOADING : Fld := ⟨0x40090000, 8, 1, 0⟩
/-- SYM_CTRL — SYM + 0x0000, [0] RW L. -/
def SYM_CTRL_ENABLE : Fld := ⟨0x40090000, 0, 1, 0⟩
/-- SYM_GRAPH_ID — SYM + 0x0004, [31:0] RO/V L. -/
def SYM_GRAPH_ID_ID : Fld := ⟨0x40090004, 0, 32, 0⟩
/-- SYM_GRAPH_STAT — SYM + 0x0008, [19:16] RO/V L. -/
def SYM_GRAPH_STAT_STATE : Fld := ⟨0x40090008, 16, 4, 0⟩
/-- SYM_GRAPH_STAT — SYM + 0x0008, [14:0] RO/V L. -/
def SYM_GRAPH_STAT_N_VERTICES : Fld := ⟨0x40090008, 0, 15, 0⟩
/-- SYM_WALK_CFG — SYM + 0x000C, [22:16] RW H. -/
def SYM_WALK_CFG_MAX_VISIT : Fld := ⟨0x4009000C, 16, 7, 64⟩
/-- SYM_WALK_CFG — SYM + 0x000C, [15:8] RW H. -/
def SYM_WALK_CFG_TURN_TOL : Fld := ⟨0x4009000C, 8, 8, 100⟩
/-- SYM_WALK_CFG — SYM + 0x000C, [7:0] RW H. -/
def SYM_WALK_CFG_HEADING_TOL : Fld := ⟨0x4009000C, 0, 8, 45⟩
/-- SYM_AGE_CFG — SYM + 0x0010, [31:16] RW H. -/
def SYM_AGE_CFG_DUP_MS : Fld := ⟨0x40090010, 16, 16, 1000⟩
/-- SYM_AGE_CFG — SYM + 0x0010, [15:0] RW H. -/
def SYM_AGE_CFG_MAX_AGE_MS : Fld := ⟨0x40090010, 0, 16, 3000⟩
/-- SYM_PRES_CFG — SYM + 0x0014, [31:16] RW H. -/
def SYM_PRES_CFG_BUSY : Fld := ⟨0x40090014, 16, 16, 32768⟩
/-- SYM_PRES_CFG — SYM + 0x0014, [15:0] RW H. -/
def SYM_PRES_CFG_STEP : Fld := ⟨0x40090014, 0, 16, 4096⟩
/-- SYM_PRES_TIME — SYM + 0x0018, [31:16] RW H. -/
def SYM_PRES_TIME_DECAY : Fld := ⟨0x40090018, 16, 16, 256⟩
/-- SYM_PRES_TIME — SYM + 0x0018, [15:0] RW H. -/
def SYM_PRES_TIME_LINGER_S : Fld := ⟨0x40090018, 0, 16, 60⟩
/-- SYM_REFRESH — SYM + 0x001C, [15:0] RW H. -/
def SYM_REFRESH_MS : Fld := ⟨0x4009001C, 0, 16, 1000⟩
/-- SYM_LATENCY — SYM + 0x0020, [31:16] RO/V L. -/
def SYM_LATENCY_MAX_NS : Fld := ⟨0x40090020, 16, 16, 0⟩
/-- SYM_LATENCY — SYM + 0x0020, [15:0] RO/V L. -/
def SYM_LATENCY_LAST_NS : Fld := ⟨0x40090020, 0, 16, 0⟩
/-- SYM_EVENT_ID — SYM + 0x0024, [31:0] RO/V L. -/
def SYM_EVENT_ID_NEXT : Fld := ⟨0x40090024, 0, 32, 0⟩
/-- SYM_LOAD_TIME — SYM + 0x0028, [31:0] RO/V L. -/
def SYM_LOAD_TIME_US : Fld := ⟨0x40090028, 0, 32, 0⟩
/-- SYM_VSEL — SYM + 0x002C, [13:0] RW L. -/
def SYM_VSEL_VERTEX : Fld := ⟨0x4009002C, 0, 14, 0⟩
/-- SYM_VSTAT[n] — SYM + 0x0030 + 4 × n, n = 0 to 3, [31:0] RO/V L. -/
def SYM_VSTAT_WORD (i : Nat) : Fld := ⟨0x40090030 + 4 * i, 0, 32, 0⟩
/-- SYM_CNT[n] — SYM + 0x0040 + 4 × n, n = 0 to 19, [31:0] RO/V L. -/
def SYM_CNT_COUNT (i : Nat) : Fld := ⟨0x40090040 + 4 * i, 0, 32, 0⟩
/-- SYM_LAST_EVT[n] — SYM + 0x0090 + 4 × n, n = 0 to 5, [31:0] RO/V L. -/
def SYM_LAST_EVT_WORD (i : Nat) : Fld := ⟨0x40090090 + 4 * i, 0, 32, 0⟩
/-- SYM_KIND_CFG[n] — SYM + 0x00B0 + 4 × n, n = 0 to 3, [8] RW H. -/
def SYM_KIND_CFG_EN (i : Nat) : Fld := ⟨0x400900B0 + 4 * i, 8, 1, 0⟩
/-- SYM_KIND_CFG[n] — SYM + 0x00B0 + 4 × n, n = 0 to 3, [7:0] RW H. -/
def SYM_KIND_CFG_CONF_MIN (i : Nat) : Fld := ⟨0x400900B0 + 4 * i, 0, 8, 0⟩
/-- SYM_GROUP[n] — SYM + 0x0100 + 4 × n, n = 0 to 31, [31:16] RO/V L. -/
def SYM_GROUP_BASE (i : Nat) : Fld := ⟨0x40090100 + 4 * i, 16, 16, 0⟩
/-- SYM_GROUP[n] — SYM + 0x0100 + 4 × n, n = 0 to 31, [4] RW L. -/
def SYM_GROUP_ARM_SCAN (i : Nat) : Fld := ⟨0x40090100 + 4 * i, 4, 1, 0⟩
/-- SYM_GROUP[n] — SYM + 0x0100 + 4 × n, n = 0 to 31, [3] RO/V L. -/
def SYM_GROUP_ARMED (i : Nat) : Fld := ⟨0x40090100 + 4 * i, 3, 1, 0⟩
/-- SYM_GROUP[n] — SYM + 0x0100 + 4 × n, n = 0 to 31, [2] RW L. -/
def SYM_GROUP_INHIBIT (i : Nat) : Fld := ⟨0x40090100 + 4 * i, 2, 1, 0⟩
/-- SYM_GROUP[n] — SYM + 0x0100 + 4 × n, n = 0 to 31, [1:0] RW H. -/
def SYM_GROUP_ARM_MODE (i : Nat) : Fld := ⟨0x40090100 + 4 * i, 0, 2, 0⟩
/-- SYM_RULE_A[n] — SYM + 0x0200 + 4 × n, n = 0 to 31, [31:16] RW H. -/
def SYM_RULE_A_FADE_UP (i : Nat) : Fld := ⟨0x40090200 + 4 * i, 16, 16, 0⟩
/-- SYM_RULE_A[n] — SYM + 0x0200 + 4 × n, n = 0 to 31, [15:0] RW H. -/
def SYM_RULE_A_LEVEL (i : Nat) : Fld := ⟨0x40090200 + 4 * i, 0, 16, 0⟩
/-- SYM_RULE_B[n] — SYM + 0x0280 + 4 × n, n = 0 to 31, [31] RW H. -/
def SYM_RULE_B_CURVE (i : Nat) : Fld := ⟨0x40090280 + 4 * i, 31, 1, 0⟩
/-- SYM_RULE_B[n] — SYM + 0x0280 + 4 × n, n = 0 to 31, [30] RW H. -/
def SYM_RULE_B_BOTH_WAYS (i : Nat) : Fld := ⟨0x40090280 + 4 * i, 30, 1, 0⟩
/-- SYM_RULE_B[n] — SYM + 0x0280 + 4 × n, n = 0 to 31, [29] RW H. -/
def SYM_RULE_B_CONTRAFLOW (i : Nat) : Fld := ⟨0x40090280 + 4 * i, 29, 1, 0⟩
/-- SYM_RULE_B[n] — SYM + 0x0280 + 4 × n, n = 0 to 31, [28] RW H. -/
def SYM_RULE_B_FOLLOW (i : Nat) : Fld := ⟨0x40090280 + 4 * i, 28, 1, 0⟩
/-- SYM_RULE_B[n] — SYM + 0x0280 + 4 × n, n = 0 to 31, [27:16] RW H. -/
def SYM_RULE_B_LOOKAHEAD_M (i : Nat) : Fld := ⟨0x40090280 + 4 * i, 16, 12, 0⟩
/-- SYM_RULE_B[n] — SYM + 0x0280 + 4 × n, n = 0 to 31, [15:0] RW H. -/
def SYM_RULE_B_FADE_DOWN (i : Nat) : Fld := ⟨0x40090280 + 4 * i, 0, 16, 0⟩
/-- SYM_RULE_C[n] — SYM + 0x0300 + 4 × n, n = 0 to 31, [31:16] RW H. -/
def SYM_RULE_C_LINGER (i : Nat) : Fld := ⟨0x40090300 + 4 * i, 16, 16, 0⟩
/-- SYM_RULE_C[n] — SYM + 0x0300 + 4 × n, n = 0 to 31, [15:0] RW H. -/
def SYM_RULE_C_LEAD (i : Nat) : Fld := ⟨0x40090300 + 4 * i, 0, 16, 0⟩
/-- SYM_RULE_D[n] — SYM + 0x0380 + 4 × n, n = 0 to 31, [31:16] RW H. -/
def SYM_RULE_D_SPEED_MIN (i : Nat) : Fld := ⟨0x40090380 + 4 * i, 16, 16, 0⟩
/-- SYM_RULE_D[n] — SYM + 0x0380 + 4 × n, n = 0 to 31, [15:0] RW H. -/
def SYM_RULE_D_SPEED_DEFAULT (i : Nat) : Fld := ⟨0x40090380 + 4 * i, 0, 16, 0⟩
/-- GAUGE_CTRL — GAUGE + 0x0000, [1] WO L. -/
def GAUGE_CTRL_FORCE_LATCH : Fld := ⟨0x400A0000, 1, 1, 0⟩
/-- GAUGE_CTRL — GAUGE + 0x0000, [0] RW L. -/
def GAUGE_CTRL_ENABLE : Fld := ⟨0x400A0000, 0, 1, 0⟩
/-- GAUGE_NOMINAL — GAUGE + 0x0004, [23:16] RW S. -/
def GAUGE_NOMINAL_FN : Fld := ⟨0x400A0004, 16, 8, 0⟩
/-- GAUGE_NOMINAL — GAUGE + 0x0004, [15:0] RW S. -/
def GAUGE_NOMINAL_UN_DV : Fld := ⟨0x400A0004, 0, 16, 0⟩
/-- GAUGE_LATCH_CFG — GAUGE + 0x000C, [26:16] RW H. -/
def GAUGE_LATCH_CFG_STORE_MIN : Fld := ⟨0x400A000C, 16, 11, 15⟩
/-- GAUGE_LATCH_CFG — GAUGE + 0x000C, [15:0] RW H. -/
def GAUGE_LATCH_CFG_N : Fld := ⟨0x400A000C, 0, 16, 0⟩
/-- GAUGE_LATCH_SEQ_LO — GAUGE + 0x0010, [31:0] RO/V L. -/
def GAUGE_LATCH_SEQ_LO_SEQ : Fld := ⟨0x400A0010, 0, 32, 0⟩
/-- GAUGE_LATCH_SEQ_HI — GAUGE + 0x0014, [31:0] RO/V L. -/
def GAUGE_LATCH_SEQ_HI_SEQ : Fld := ⟨0x400A0014, 0, 32, 0⟩
/-- GAUGE_EVT_CFG_A — GAUGE + 0x0018, [27:20] RW H. -/
def GAUGE_EVT_CFG_A_NPE_V : Fld := ⟨0x400A0018, 20, 8, 30⟩
/-- GAUGE_EVT_CFG_A — GAUGE + 0x0018, [19:16] RW H. -/
def GAUGE_EVT_CFG_A_HYST_PCT : Fld := ⟨0x400A0018, 16, 4, 2⟩
/-- GAUGE_EVT_CFG_A — GAUGE + 0x0018, [15:8] RW H. -/
def GAUGE_EVT_CFG_A_SWELL_PCT : Fld := ⟨0x400A0018, 8, 8, 110⟩
/-- GAUGE_EVT_CFG_A — GAUGE + 0x0018, [7:0] RW H. -/
def GAUGE_EVT_CFG_A_SAG_PCT : Fld := ⟨0x400A0018, 0, 8, 90⟩
/-- GAUGE_EVT_CFG_B — GAUGE + 0x001C, [31:24] RW H. -/
def GAUGE_EVT_CFG_B_DEV_WIN : Fld := ⟨0x400A001C, 24, 8, 60⟩
/-- GAUGE_EVT_CFG_B — GAUGE + 0x001C, [23:16] RW H. -/
def GAUGE_EVT_CFG_B_DEV_PCT : Fld := ⟨0x400A001C, 16, 8, 20⟩
/-- GAUGE_EVT_CFG_B — GAUGE + 0x001C, [15:0] RW H. -/
def GAUGE_EVT_CFG_B_CONTRA_W : Fld := ⟨0x400A001C, 0, 16, 200⟩
/-- GAUGE_AUDIT_CTRL — GAUGE + 0x0020, [31:16] RO/V L. -/
def GAUGE_AUDIT_CTRL_SNAP_CNT : Fld := ⟨0x400A0020, 16, 16, 0⟩
/-- GAUGE_AUDIT_CTRL — GAUGE + 0x0020, [8] WO L. -/
def GAUGE_AUDIT_CTRL_SNAP : Fld := ⟨0x400A0020, 8, 1, 0⟩
/-- GAUGE_AUDIT_CTRL — GAUGE + 0x0020, [6:0] RW L. -/
def GAUGE_AUDIT_CTRL_Q : Fld := ⟨0x400A0020, 0, 7, 0⟩
/-- GAUGE_AUDIT[n] — GAUGE + 0x0024 + 4 × n, n = 0 to 10, [31:0] RO/V L. -/
def GAUGE_AUDIT_WORD (i : Nat) : Fld := ⟨0x400A0024 + 4 * i, 0, 32, 0⟩
/-- GAUGE_CH_CFG[n] — GAUGE + 0x0100 + 4 × n, n = 0 to 31, [5] RW H. -/
def GAUGE_CH_CFG_INVERT (i : Nat) : Fld := ⟨0x400A0100 + 4 * i, 5, 1, 0⟩
/-- GAUGE_CH_CFG[n] — GAUGE + 0x0100 + 4 × n, n = 0 to 31, [4] RW H. -/
def GAUGE_CH_CFG_VSRC (i : Nat) : Fld := ⟨0x400A0100 + 4 * i, 4, 1, 0⟩
/-- GAUGE_CH_CFG[n] — GAUGE + 0x0100 + 4 × n, n = 0 to 31, [3:2] RW H. -/
def GAUGE_CH_CFG_PHASE (i : Nat) : Fld := ⟨0x400A0100 + 4 * i, 2, 2, 0⟩
/-- GAUGE_CH_CFG[n] — GAUGE + 0x0100 + 4 × n, n = 0 to 31, [1] RW S. -/
def GAUGE_CH_CFG_SENSOR (i : Nat) : Fld := ⟨0x400A0100 + 4 * i, 1, 1, 0⟩
/-- GAUGE_CH_CFG[n] — GAUGE + 0x0100 + 4 × n, n = 0 to 31, [0] RW S. -/
def GAUGE_CH_CFG_EN (i : Nat) : Fld := ⟨0x400A0100 + 4 * i, 0, 1, 0⟩
/-- GAUGE_CH_SCALE[n] — GAUGE + 0x0180 + 4 × n, n = 0 to 31, [31:0] RW S; RO for the voltage channels. -/
def GAUGE_CH_SCALE_PEAK (i : Nat) : Fld := ⟨0x400A0180 + 4 * i, 0, 32, if 4 ≤ i ∧ i ≤ 19 then 0 else 620000⟩
/-- GAUGE_CH_CAL[n] — GAUGE + 0x0200 + 4 × n, n = 0 to 31, [31:14] RW H. -/
def GAUGE_CH_CAL_GAIN (i : Nat) : Fld := ⟨0x400A0200 + 4 * i, 14, 18, 0⟩
/-- GAUGE_CH_CAL[n] — GAUGE + 0x0200 + 4 × n, n = 0 to 31, [13:0] RW H. -/
def GAUGE_CH_CAL_PHASE (i : Nat) : Fld := ⟨0x400A0200 + 4 * i, 0, 14, 0⟩
/-- GAUGE_CH_MATCH[n] — GAUGE + 0x0280 + 4 × n, n = 0 to 15, [17:16] RW H. -/
def GAUGE_CH_MATCH_FORCE (i : Nat) : Fld := ⟨0x400A0280 + 4 * i, 16, 2, 0⟩
/-- GAUGE_CH_MATCH[n] — GAUGE + 0x0280 + 4 × n, n = 0 to 15, [15:0] RW H. -/
def GAUGE_CH_MATCH_HI_PPM (i : Nat) : Fld := ⟨0x400A0280 + 4 * i, 0, 16, 0⟩
/-- GAUGE_CH_RMS[n] — GAUGE + 0x0300 + 4 × n, n = 0 to 31, [31] RO/V L. -/
def GAUGE_CH_RMS_LOW_GAIN (i : Nat) : Fld := ⟨0x400A0300 + 4 * i, 31, 1, 0⟩
/-- GAUGE_CH_RMS[n] — GAUGE + 0x0300 + 4 × n, n = 0 to 31, [30] RO/V L. -/
def GAUGE_CH_RMS_CLIP (i : Nat) : Fld := ⟨0x400A0300 + 4 * i, 30, 1, 0⟩
/-- GAUGE_CH_RMS[n] — GAUGE + 0x0300 + 4 × n, n = 0 to 31, [29:0] RO/V L. -/
def GAUGE_CH_RMS_RMS (i : Nat) : Fld := ⟨0x400A0300 + 4 * i, 0, 30, 0⟩
/-- GAUGE_PT_CFG[n] — GAUGE + 0x0400 + 4 × n, n = 0 to 15, [31:16] RW H. -/
def GAUGE_PT_CFG_START_MA (i : Nat) : Fld := ⟨0x400A0400 + 4 * i, 16, 16, 0⟩
/-- GAUGE_PT_CFG[n] — GAUGE + 0x0400 + 4 × n, n = 0 to 15, [7:4] RO/V L. -/
def GAUGE_PT_CFG_EPOCH (i : Nat) : Fld := ⟨0x400A0400 + 4 * i, 4, 4, 0⟩
/-- GAUGE_PT_CFG[n] — GAUGE + 0x0400 + 4 × n, n = 0 to 15, [3] RW H. -/
def GAUGE_PT_CFG_SPILL_EN (i : Nat) : Fld := ⟨0x400A0400 + 4 * i, 3, 1, 0⟩
/-- GAUGE_PT_CFG[n] — GAUGE + 0x0400 + 4 × n, n = 0 to 15, [2:0] RW H. -/
def GAUGE_PT_CFG_EQ_EXP (i : Nat) : Fld := ⟨0x400A0400 + 4 * i, 0, 3, 0⟩
/-- GAUGE_PT_PC_LO[n] — GAUGE + 0x0440 + 8 × n, n = 0 to 15, [31:0] RW H. -/
def GAUGE_PT_PC_LO_PC (i : Nat) : Fld := ⟨0x400A0440 + 8 * i, 0, 32, 0⟩
/-- GAUGE_PT_PC_HI[n] — GAUGE + 0x0444 + 8 × n, n = 0 to 15, [31:0] RW H. -/
def GAUGE_PT_PC_HI_PC (i : Nat) : Fld := ⟨0x400A0444 + 8 * i, 0, 32, 0⟩
/-- GAUGE_PT_FLAGS[n] — GAUGE + 0x0500 + 4 × n, n = 0 to 15, [9:4] RO/V L. -/
def GAUGE_PT_FLAGS_ACTIVE (i : Nat) : Fld := ⟨0x400A0500 + 4 * i, 4, 6, 0⟩
/-- GAUGE_PT_FLAGS[n] — GAUGE + 0x0500 + 4 × n, n = 0 to 15, [3] RO/V L. -/
def GAUGE_PT_FLAGS_GUARD_USE (i : Nat) : Fld := ⟨0x400A0500 + 4 * i, 3, 1, 0⟩
/-- GAUGE_PT_FLAGS[n] — GAUGE + 0x0500 + 4 × n, n = 0 to 15, [2] W1C L. -/
def GAUGE_PT_FLAGS_GUARD_OVF (i : Nat) : Fld := ⟨0x400A0500 + 4 * i, 2, 1, 0⟩
/-- GAUGE_PT_FLAGS[n] — GAUGE + 0x0500 + 4 × n, n = 0 to 15, [1] RO/V L. -/
def GAUGE_PT_FLAGS_OVERRANGE (i : Nat) : Fld := ⟨0x400A0500 + 4 * i, 1, 1, 0⟩
/-- GAUGE_PT_FLAGS[n] — GAUGE + 0x0500 + 4 × n, n = 0 to 15, [0] RO/V L. -/
def GAUGE_PT_FLAGS_INCOMPLETE (i : Nat) : Fld := ⟨0x400A0500 + 4 * i, 0, 1, 0⟩
/-- GAUGE_PT_EST_LO[n] — GAUGE + 0x0540 + 8 × n, n = 0 to 15, [31:0] RO/V L. -/
def GAUGE_PT_EST_LO_ESTIMATE (i : Nat) : Fld := ⟨0x400A0540 + 8 * i, 0, 32, 0⟩
/-- GAUGE_PT_EST_HI[n] — GAUGE + 0x0544 + 8 × n, n = 0 to 15, [31:0] RO/V L. -/
def GAUGE_PT_EST_HI_ESTIMATE (i : Nat) : Fld := ⟨0x400A0544 + 8 * i, 0, 32, 0⟩
/-- GAUGE_PT_POWER[n][m] — GAUGE + 0x0600 + 16 × n, n = 0 to 15 + 4 × m, m = 0 to 2, [31:0] RO/V L. -/
def GAUGE_PT_POWER_VALUE (i j : Nat) : Fld := ⟨0x400A0600 + 16 * i + 4 * j, 0, 32, 0⟩
/-- GAUGE_S0OUT_CFG[n] — GAUGE + 0x0700 + 4 × n, n = 0 to 3, [31] RW H. -/
def GAUGE_S0OUT_CFG_EN (i : Nat) : Fld := ⟨0x400A0700 + 4 * i, 31, 1, 0⟩
/-- GAUGE_S0OUT_CFG[n] — GAUGE + 0x0700 + 4 × n, n = 0 to 3, [22:16] RW H. -/
def GAUGE_S0OUT_CFG_Q (i : Nat) : Fld := ⟨0x400A0700 + 4 * i, 16, 7, 0⟩
/-- GAUGE_S0OUT_CFG[n] — GAUGE + 0x0700 + 4 × n, n = 0 to 3, [15:8] RW H. -/
def GAUGE_S0OUT_CFG_OFF_MS (i : Nat) : Fld := ⟨0x400A0700 + 4 * i, 8, 8, 30⟩
/-- GAUGE_S0OUT_CFG[n] — GAUGE + 0x0700 + 4 × n, n = 0 to 3, [7:0] RW H. -/
def GAUGE_S0OUT_CFG_ON_MS (i : Nat) : Fld := ⟨0x400A0700 + 4 * i, 0, 8, 30⟩
/-- GAUGE_S0OUT_BACKLOG[n] — GAUGE + 0x0710 + 4 × n, n = 0 to 3, [31] W1C L. -/
def GAUGE_S0OUT_BACKLOG_OVF (i : Nat) : Fld := ⟨0x400A0710 + 4 * i, 31, 1, 0⟩
/-- GAUGE_S0OUT_BACKLOG[n] — GAUGE + 0x0710 + 4 × n, n = 0 to 3, [15:0] RO/V L. -/
def GAUGE_S0OUT_BACKLOG_PENDING (i : Nat) : Fld := ⟨0x400A0710 + 4 * i, 0, 16, 0⟩
/-- GAUGE_S0IN_CFG[n] — GAUGE + 0x0720 + 4 × n, n = 0 to 3, [31:16] RW H. -/
def GAUGE_S0IN_CFG_WEIGHT (i : Nat) : Fld := ⟨0x400A0720 + 4 * i, 16, 16, 0⟩
/-- GAUGE_S0IN_CFG[n] — GAUGE + 0x0720 + 4 × n, n = 0 to 3, [15] RW H. -/
def GAUGE_S0IN_CFG_EN (i : Nat) : Fld := ⟨0x400A0720 + 4 * i, 15, 1, 0⟩
/-- GAUGE_S0IN_CFG[n] — GAUGE + 0x0720 + 4 × n, n = 0 to 3, [6:0] RW H. -/
def GAUGE_S0IN_CFG_Q (i : Nat) : Fld := ⟨0x400A0720 + 4 * i, 0, 7, 0⟩
/-- GAUGE_S0IN_CNT_LO[n] — GAUGE + 0x0740 + 8 × n, n = 0 to 3, [31:0] RO/V L. -/
def GAUGE_S0IN_CNT_LO_COUNT (i : Nat) : Fld := ⟨0x400A0740 + 8 * i, 0, 32, 0⟩
/-- GAUGE_S0IN_CNT_HI[n] — GAUGE + 0x0744 + 8 × n, n = 0 to 3, [31:0] RO/V L. -/
def GAUGE_S0IN_CNT_HI_COUNT (i : Nat) : Fld := ⟨0x400A0744 + 8 * i, 0, 32, 0⟩
/-- GAUGE_S0IN_STAT[n] — GAUGE + 0x0760 + 4 × n, n = 0 to 3, [31:16] RO/V L. -/
def GAUGE_S0IN_STAT_DEV (i : Nat) : Fld := ⟨0x400A0760 + 4 * i, 16, 16, 0⟩
/-- GAUGE_S0IN_STAT[n] — GAUGE + 0x0760 + 4 × n, n = 0 to 3, [2] RO/V L. -/
def GAUGE_S0IN_STAT_LEVEL_LOW (i : Nat) : Fld := ⟨0x400A0760 + 4 * i, 2, 1, 0⟩
/-- GAUGE_S0IN_STAT[n] — GAUGE + 0x0760 + 4 × n, n = 0 to 3, [1] W1C L. -/
def GAUGE_S0IN_STAT_DEVIATION (i : Nat) : Fld := ⟨0x400A0760 + 4 * i, 1, 1, 0⟩
/-- GAUGE_S0IN_STAT[n] — GAUGE + 0x0760 + 4 × n, n = 0 to 3, [0] W1C L. -/
def GAUGE_S0IN_STAT_PULSE_STUCK (i : Nat) : Fld := ⟨0x400A0760 + 4 * i, 0, 1, 0⟩
/-- GAUGE_EVT_CNT[n] — GAUGE + 0x0800 + 4 × n, n = 0 to 11, [31:0] RO/V L. -/
def GAUGE_EVT_CNT_COUNT (i : Nat) : Fld := ⟨0x400A0800 + 4 * i, 0, 32, 0⟩
/-- GAUGE_Q[n][m] — GAUGE + 0x1000 + 16 × n, n = 0 to 127 + 4 × m, m = 0 to 3, [31:0] RO/V L. -/
def GAUGE_Q_WORD (i j : Nat) : Fld := ⟨0x400A1000 + 16 * i + 4 * j, 0, 32, 0⟩
/-- SOUND_CTRL — SOUND + 0x0000, [0] RW L. -/
def SOUND_CTRL_ENABLE : Fld := ⟨0x400B0000, 0, 1, 0⟩
/-- SOUND_PERIOD — SOUND + 0x0004, [31:24] RW H. -/
def SOUND_PERIOD_MIN_CHIRPS : Fld := ⟨0x400B0004, 24, 8, 4⟩
/-- SOUND_PERIOD — SOUND + 0x0004, [23:12] RW H. -/
def SOUND_PERIOD_MIN_PROBES : Fld := ⟨0x400B0004, 12, 12, 64⟩
/-- SOUND_PERIOD — SOUND + 0x0004, [11:0] RW H. -/
def SOUND_PERIOD_REFL_S : Fld := ⟨0x400B0004, 0, 12, 60⟩
/-- SOUND_QUIET — SOUND + 0x0008, [31:16] RW H. -/
def SOUND_QUIET_EVERY : Fld := ⟨0x400B0008, 16, 16, 400⟩
/-- SOUND_QUIET — SOUND + 0x0008, [10:8] RW H. -/
def SOUND_QUIET_LEN : Fld := ⟨0x400B0008, 8, 3, 2⟩
/-- SOUND_QUIET — SOUND + 0x0008, [6:0] RW H. -/
def SOUND_QUIET_FIRST_SLOT : Fld := ⟨0x400B0008, 0, 7, 62⟩
/-- SOUND_DETECT — SOUND + 0x000C, [31:28] RW H. -/
def SOUND_DETECT_CONFIRM : Fld := ⟨0x400B000C, 28, 4, 3⟩
/-- SOUND_DETECT — SOUND + 0x000C, [27:16] RW H. -/
def SOUND_DETECT_START_BIN : Fld := ⟨0x400B000C, 16, 12, 16⟩
/-- SOUND_DETECT — SOUND + 0x000C, [15:8] RW H. -/
def SOUND_DETECT_K_SIGMA : Fld := ⟨0x400B000C, 8, 8, 50⟩
/-- SOUND_DETECT — SOUND + 0x000C, [7:0] RW H. -/
def SOUND_DETECT_FLOOR : Fld := ⟨0x400B000C, 0, 8, 64⟩
/-- SOUND_CLASS_A — SOUND + 0x0010, [31:16] RW H. -/
def SOUND_CLASS_A_SHORT_RHO : Fld := ⟨0x400B0010, 16, 16, 8192⟩
/-- SOUND_CLASS_A — SOUND + 0x0010, [15:0] RW H. -/
def SOUND_CLASS_A_OPEN_RHO : Fld := ⟨0x400B0010, 0, 16, 8192⟩
/-- SOUND_CLASS_B — SOUND + 0x0014, [31:16] RW H. -/
def SOUND_CLASS_B_INSUL_RHO : Fld := ⟨0x400B0014, 16, 16, 3277⟩
/-- SOUND_CLASS_B — SOUND + 0x0014, [15:8] RW H. -/
def SOUND_CLASS_B_SHIFT_MIN : Fld := ⟨0x400B0014, 8, 8, 4⟩
/-- SOUND_CLASS_B — SOUND + 0x0014, [7:0] RW H. -/
def SOUND_CLASS_B_WATER_BINS : Fld := ⟨0x400B0014, 0, 8, 6⟩
/-- SOUND_CMD — SOUND + 0x0018, [31:28] WO L. -/
def SOUND_CMD_OP : Fld := ⟨0x400B0018, 28, 4, 0⟩
/-- SOUND_CMD — SOUND + 0x0018, [12:8] WO L. -/
def SOUND_CMD_ENTRY : Fld := ⟨0x400B0018, 8, 5, 0⟩
/-- SOUND_CMD — SOUND + 0x0018, [5] WO L. -/
def SOUND_CMD_STATE : Fld := ⟨0x400B0018, 5, 1, 0⟩
/-- SOUND_CMD — SOUND + 0x0018, [4] WO L. -/
def SOUND_CMD_KIND : Fld := ⟨0x400B0018, 4, 1, 0⟩
/-- SOUND_CMD — SOUND + 0x0018, [3:0] WO L. -/
def SOUND_CMD_FEEDER : Fld := ⟨0x400B0018, 0, 4, 0⟩
/-- SOUND_CMD_STAT — SOUND + 0x001C, [16] W1C L. -/
def SOUND_CMD_STAT_TABLE_FULL : Fld := ⟨0x400B001C, 16, 1, 0⟩
/-- SOUND_CMD_STAT — SOUND + 0x001C, [15:8] RO/V L. -/
def SOUND_CMD_STAT_STATUS : Fld := ⟨0x400B001C, 8, 8, 0⟩
/-- SOUND_CMD_STAT — SOUND + 0x001C, [3:0] RO/V L. -/
def SOUND_CMD_STAT_OP : Fld := ⟨0x400B001C, 0, 4, 0⟩
/-- SOUND_CHIRP_NOTCH[n] — SOUND + 0x0020 + 4 × n, n = 0 to 1, [31] RW H. -/
def SOUND_CHIRP_NOTCH_EN (i : Nat) : Fld := ⟨0x400B0020 + 4 * i, 31, 1, 0⟩
/-- SOUND_CHIRP_NOTCH[n] — SOUND + 0x0020 + 4 × n, n = 0 to 1, [19:10] RW H. -/
def SOUND_CHIRP_NOTCH_LAST (i : Nat) : Fld := ⟨0x400B0020 + 4 * i, 10, 10, 0⟩
/-- SOUND_CHIRP_NOTCH[n] — SOUND + 0x0020 + 4 × n, n = 0 to 1, [9:0] RW H. -/
def SOUND_CHIRP_NOTCH_FIRST (i : Nat) : Fld := ⟨0x400B0020 + 4 * i, 0, 10, 0⟩
/-- SOUND_FDR_CFG[n] — SOUND + 0x0100 + 4 × n, n = 0 to 11, [31:17] RW H. -/
def SOUND_FDR_CFG_PHASE (i : Nat) : Fld := ⟨0x400B0100 + 4 * i, 17, 15, (33 * i)⟩
/-- SOUND_FDR_CFG[n] — SOUND + 0x0100 + 4 × n, n = 0 to 11, [16] RW H. -/
def SOUND_FDR_CFG_EN (i : Nat) : Fld := ⟨0x400B0100 + 4 * i, 16, 1, 0⟩
/-- SOUND_FDR_CFG[n] — SOUND + 0x0100 + 4 × n, n = 0 to 11, [15:11] RW H. -/
def SOUND_FDR_CFG_ATTEN_DB (i : Nat) : Fld := ⟨0x400B0100 + 4 * i, 11, 5, 0⟩
/-- SOUND_FDR_CFG[n] — SOUND + 0x0100 + 4 × n, n = 0 to 11, [10] RW H. -/
def SOUND_FDR_CFG_CHIRP_EN (i : Nat) : Fld := ⟨0x400B0100 + 4 * i, 10, 1, 0⟩
/-- SOUND_FDR_CFG[n] — SOUND + 0x0100 + 4 × n, n = 0 to 11, [9:0] RW S. -/
def SOUND_FDR_CFG_VF_REF (i : Nat) : Fld := ⟨0x400B0100 + 4 * i, 0, 10, 0⟩
/-- SOUND_FDR_STAT[n] — SOUND + 0x0140 + 4 × n, n = 0 to 11, [23:16] RO/V L. -/
def SOUND_FDR_STAT_QUEUED (i : Nat) : Fld := ⟨0x400B0140 + 4 * i, 16, 8, 0⟩
/-- SOUND_FDR_STAT[n] — SOUND + 0x0140 + 4 × n, n = 0 to 11, [15:8] RO/V L. -/
def SOUND_FDR_STAT_ACTIVE (i : Nat) : Fld := ⟨0x400B0140 + 4 * i, 8, 8, 0⟩
/-- SOUND_FDR_STAT[n] — SOUND + 0x0140 + 4 × n, n = 0 to 11, [3] RO/V L. -/
def SOUND_FDR_STAT_WINDOW_SUSPENDED (i : Nat) : Fld := ⟨0x400B0140 + 4 * i, 3, 1, 0⟩
/-- SOUND_FDR_STAT[n] — SOUND + 0x0140 + 4 × n, n = 0 to 11, [2] RO/V L. -/
def SOUND_FDR_STAT_UNSERVED (i : Nat) : Fld := ⟨0x400B0140 + 4 * i, 2, 1, 0⟩
/-- SOUND_FDR_STAT[n] — SOUND + 0x0140 + 4 × n, n = 0 to 11, [1:0] RO/V L. -/
def SOUND_FDR_STAT_STATE (i : Nat) : Fld := ⟨0x400B0140 + 4 * i, 0, 2, 2⟩
/-- SOUND_MAP_ID[n] — SOUND + 0x0180 + 4 × n, n = 0 to 11, [31:0] RO/V L. -/
def SOUND_MAP_ID_MAP_ID (i : Nat) : Fld := ⟨0x400B0180 + 4 * i, 0, 32, 0⟩
/-- SOUND_BASE_STAT[n] — SOUND + 0x01C0 + 4 × n, n = 0 to 11, [31:24] RO/V L. -/
def SOUND_BASE_STAT_CHIRP_D (i : Nat) : Fld := ⟨0x400B01C0 + 4 * i, 24, 8, 0⟩
/-- SOUND_BASE_STAT[n] — SOUND + 0x01C0 + 4 × n, n = 0 to 11, [23:16] RO/V L. -/
def SOUND_BASE_STAT_CHIRP_E (i : Nat) : Fld := ⟨0x400B01C0 + 4 * i, 16, 8, 0⟩
/-- SOUND_BASE_STAT[n] — SOUND + 0x01C0 + 4 × n, n = 0 to 11, [15:8] RO/V L. -/
def SOUND_BASE_STAT_CARRIER_D (i : Nat) : Fld := ⟨0x400B01C0 + 4 * i, 8, 8, 0⟩
/-- SOUND_BASE_STAT[n] — SOUND + 0x01C0 + 4 × n, n = 0 to 11, [7:0] RO/V L. -/
def SOUND_BASE_STAT_CARRIER_E (i : Nat) : Fld := ⟨0x400B01C0 + 4 * i, 0, 8, 0⟩
/-- SOUND_REFL_SEQ[n][m] — SOUND + 0x0200 + 8 × n, n = 0 to 11 + 4 × m, m = 0 to 1, [31:0] RO/V L. -/
def SOUND_REFL_SEQ_SEQ (i j : Nat) : Fld := ⟨0x400B0200 + 8 * i + 4 * j, 0, 32, 0⟩
/-- SOUND_CNT[n][m] — SOUND + 0x0300 + 32 × n, n = 0 to 11 + 4 × m, m = 0 to 7, [31:0] RO/V L. -/
def SOUND_CNT_COUNT (i j : Nat) : Fld := ⟨0x400B0300 + 32 * i + 4 * j, 0, 32, 0⟩
/-- SOUND_CHG[n][m] — SOUND + 0x0800 + 16 × n, n = 0 to 31 + 4 × m, m = 0 to 3, [31:0] RO/V L. -/
def SOUND_CHG_WORD (i j : Nat) : Fld := ⟨0x400B0800 + 16 * i + 4 * j, 0, 32, 0⟩
/-- SCAN_CTRL — SCAN + 0x0000, [2] RW H. -/
def SCAN_CTRL_STOP_OUT : Fld := ⟨0x400C0000, 2, 1, 0⟩
/-- SCAN_CTRL — SCAN + 0x0000, [1] RW S. -/
def SCAN_CTRL_HOLD_EN : Fld := ⟨0x400C0000, 1, 1, 0⟩
/-- SCAN_MODE — SCAN + 0x0004, [2:0] RO/V L. -/
def SCAN_MODE_MODE : Fld := ⟨0x400C0004, 0, 3, 0⟩
/-- SCAN_CMD — SCAN + 0x0008, [31:16] WO L. -/
def SCAN_CMD_KEY : Fld := ⟨0x400C0008, 16, 16, 0⟩
/-- SCAN_CMD — SCAN + 0x0008, [3:0] WO L. -/
def SCAN_CMD_OP : Fld := ⟨0x400C0008, 0, 4, 0⟩
/-- SCAN_CMD_STAT — SCAN + 0x000C, [16] RO/V L. -/
def SCAN_CMD_STAT_PROG_OK : Fld := ⟨0x400C000C, 16, 1, 0⟩
/-- SCAN_CMD_STAT — SCAN + 0x000C, [15:8] RO/V L. -/
def SCAN_CMD_STAT_STATUS : Fld := ⟨0x400C000C, 8, 8, 0⟩
/-- SCAN_CMD_STAT — SCAN + 0x000C, [3:0] RO/V L. -/
def SCAN_CMD_STAT_OP : Fld := ⟨0x400C000C, 0, 4, 0⟩
/-- SCAN_PROG_ID — SCAN + 0x0010, [31:0] RW S. -/
def SCAN_PROG_ID_ID : Fld := ⟨0x400C0010, 0, 32, 0⟩
/-- SCAN_PROG_LEN — SCAN + 0x0014, [18:0] RW S. -/
def SCAN_PROG_LEN_LEN : Fld := ⟨0x400C0014, 0, 19, 0⟩
/-- SCAN_PROG_CRC — SCAN + 0x0018, [31:0] RW S. -/
def SCAN_PROG_CRC_CRC : Fld := ⟨0x400C0018, 0, 32, 0⟩
/-- SCAN_FAULT — SCAN + 0x001C, [31:24] RO/V L. -/
def SCAN_FAULT_TRIPS : Fld := ⟨0x400C001C, 24, 8, 0⟩
/-- SCAN_FAULT — SCAN + 0x001C, [7:4] RO/V L. -/
def SCAN_FAULT_CAUSE : Fld := ⟨0x400C001C, 4, 4, 0⟩
/-- SCAN_FAULT — SCAN + 0x001C, [3:0] RO/V L. -/
def SCAN_FAULT_TASK : Fld := ⟨0x400C001C, 0, 4, 0⟩
/-- SCAN_OUT_EN — SCAN + 0x0020, [29] RW S. -/
def SCAN_OUT_EN_ARM : Fld := ⟨0x400C0020, 29, 1, 0⟩
/-- SCAN_OUT_EN — SCAN + 0x0020, [28] RW S. -/
def SCAN_OUT_EN_LAMP : Fld := ⟨0x400C0020, 28, 1, 0⟩
/-- SCAN_OUT_EN — SCAN + 0x0020, [27:16] RW S. -/
def SCAN_OUT_EN_COIL : Fld := ⟨0x400C0020, 16, 12, 0⟩
/-- SCAN_OUT_EN — SCAN + 0x0020, [15:0] RW S. -/
def SCAN_OUT_EN_DO : Fld := ⟨0x400C0020, 0, 16, 0⟩
/-- SCAN_OWN_DO[n] — SCAN + 0x0024 + 4 × n, n = 0 to 1, [31:0] RW S. -/
def SCAN_OWN_DO_TASK (i : Nat) : Fld := ⟨0x400C0024 + 4 * i, 0, 32, 0⟩
/-- SCAN_OWN_COIL[n] — SCAN + 0x002C + 4 × n, n = 0 to 1, [31:0] RW S. -/
def SCAN_OWN_COIL_TASK (i : Nat) : Fld := ⟨0x400C002C + 4 * i, 0, if i = 1 then 16 else 32, 0⟩
/-- SCAN_OWN_MISC — SCAN + 0x0034, [7:4] RW S. -/
def SCAN_OWN_MISC_ARM : Fld := ⟨0x400C0034, 4, 4, 0⟩
/-- SCAN_OWN_MISC — SCAN + 0x0034, [3:0] RW S. -/
def SCAN_OWN_MISC_LAMP : Fld := ⟨0x400C0034, 0, 4, 0⟩
/-- SCAN_SAFE — SCAN + 0x0038, [29] RW H. -/
def SCAN_SAFE_NODE : Fld := ⟨0x400C0038, 29, 1, 0⟩
/-- SCAN_SAFE — SCAN + 0x0038, [28] RW H. -/
def SCAN_SAFE_LAMP : Fld := ⟨0x400C0038, 28, 1, 0⟩
/-- SCAN_SAFE — SCAN + 0x0038, [27:16] RW H. -/
def SCAN_SAFE_COIL : Fld := ⟨0x400C0038, 16, 12, 0⟩
/-- SCAN_SAFE — SCAN + 0x0038, [15:0] RW H. -/
def SCAN_SAFE_DO : Fld := ⟨0x400C0038, 0, 16, 0⟩
/-- SCAN_NODE_CFG — SCAN + 0x003C, [31:16] RO/V L. -/
def SCAN_NODE_CFG_LATCHED : Fld := ⟨0x400C003C, 16, 16, 0⟩
/-- SCAN_NODE_CFG — SCAN + 0x003C, [3:0] RW H. -/
def SCAN_NODE_CFG_MISS_TOL : Fld := ⟨0x400C003C, 0, 4, 1⟩
/-- SCAN_HOLD_LIMIT — SCAN + 0x0040, [15:0] RW L. -/
def SCAN_HOLD_LIMIT_S : Fld := ⟨0x400C0040, 0, 16, 300⟩
/-- SCAN_HOLD_STAT — SCAN + 0x0044, [27:24] RO/V L. -/
def SCAN_HOLD_STAT_BP : Fld := ⟨0x400C0044, 24, 4, 0⟩
/-- SCAN_HOLD_STAT — SCAN + 0x0044, [23:20] RO/V L. -/
def SCAN_HOLD_STAT_TASK : Fld := ⟨0x400C0044, 20, 4, 0⟩
/-- SCAN_HOLD_STAT — SCAN + 0x0044, [17:0] RO/V L. -/
def SCAN_HOLD_STAT_ADDR : Fld := ⟨0x400C0044, 0, 18, 0⟩
/-- SCAN_BP[n] — SCAN + 0x0050 + 4 × n, n = 0 to 7, [31] RW L. -/
def SCAN_BP_EN (i : Nat) : Fld := ⟨0x400C0050 + 4 * i, 31, 1, 0⟩
/-- SCAN_BP[n] — SCAN + 0x0050 + 4 × n, n = 0 to 7, [24] RW L. -/
def SCAN_BP_ANY_TASK (i : Nat) : Fld := ⟨0x400C0050 + 4 * i, 24, 1, 0⟩
/-- SCAN_BP[n] — SCAN + 0x0050 + 4 × n, n = 0 to 7, [23:20] RW L. -/
def SCAN_BP_TASK (i : Nat) : Fld := ⟨0x400C0050 + 4 * i, 20, 4, 0⟩
/-- SCAN_BP[n] — SCAN + 0x0050 + 4 × n, n = 0 to 7, [17:0] RW L. -/
def SCAN_BP_ADDR (i : Nat) : Fld := ⟨0x400C0050 + 4 * i, 0, 18, 0⟩
/-- SCAN_TASK_CFG[n] — SCAN + 0x0100 + 4 × n, n = 0 to 15, [31] RW S. -/
def SCAN_TASK_CFG_EN (i : Nat) : Fld := ⟨0x400C0100 + 4 * i, 31, 1, 0⟩
/-- SCAN_TASK_CFG[n] — SCAN + 0x0100 + 4 × n, n = 0 to 15, [30] RW S. -/
def SCAN_TASK_CFG_GUARDED (i : Nat) : Fld := ⟨0x400C0100 + 4 * i, 30, 1, 0⟩
/-- SCAN_TASK_CFG[n] — SCAN + 0x0100 + 4 × n, n = 0 to 15, [29:28] RW S. -/
def SCAN_TASK_CFG_ALIGN (i : Nat) : Fld := ⟨0x400C0100 + 4 * i, 28, 2, 0⟩
/-- SCAN_TASK_CFG[n] — SCAN + 0x0100 + 4 × n, n = 0 to 15, [17:0] RW S. -/
def SCAN_TASK_CFG_ENTRY (i : Nat) : Fld := ⟨0x400C0100 + 4 * i, 0, 18, 0⟩
/-- SCAN_TASK_TIME[n] — SCAN + 0x0140 + 4 × n, n = 0 to 15, [31:16] RW S. -/
def SCAN_TASK_TIME_PERIOD_MS (i : Nat) : Fld := ⟨0x400C0140 + 4 * i, 16, 16, 0⟩
/-- SCAN_TASK_TIME[n] — SCAN + 0x0140 + 4 × n, n = 0 to 15, [15:0] RW S. -/
def SCAN_TASK_TIME_PHASE (i : Nat) : Fld := ⟨0x400C0140 + 4 * i, 0, 16, 0⟩
/-- SCAN_TASK_START[n] — SCAN + 0x0180 + 4 × n, n = 0 to 15, [12:0] RW S. -/
def SCAN_TASK_START_START_US (i : Nat) : Fld := ⟨0x400C0180 + 4 * i, 0, 13, 100⟩
/-- SCAN_TASK_STAT[n] — SCAN + 0x0200 + 4 × n, n = 0 to 15, [31:16] RO/V L. -/
def SCAN_TASK_STAT_OVERRUNS (i : Nat) : Fld := ⟨0x400C0200 + 4 * i, 16, 16, 0⟩
/-- SCAN_TASK_STAT[n] — SCAN + 0x0200 + 4 × n, n = 0 to 15, [15:8] RO/V L. -/
def SCAN_TASK_STAT_ERRORS (i : Nat) : Fld := ⟨0x400C0200 + 4 * i, 8, 8, 0⟩
/-- SCAN_TASK_STAT[n] — SCAN + 0x0200 + 4 × n, n = 0 to 15, [1] W1C L. -/
def SCAN_TASK_STAT_ERR (i : Nat) : Fld := ⟨0x400C0200 + 4 * i, 1, 1, 0⟩
/-- SCAN_TASK_STAT[n] — SCAN + 0x0200 + 4 × n, n = 0 to 15, [0] W1C L. -/
def SCAN_TASK_STAT_OVR (i : Nat) : Fld := ⟨0x400C0200 + 4 * i, 0, 1, 0⟩
/-- SCAN_TASK_CNT[n] — SCAN + 0x0240 + 4 × n, n = 0 to 15, [31:0] RO/V L. -/
def SCAN_TASK_CNT_CYCLES (i : Nat) : Fld := ⟨0x400C0240 + 4 * i, 0, 32, 0⟩
/-- SCAN_TASK_EXEC[n] — SCAN + 0x0280 + 4 × n, n = 0 to 15, [31:16] RO/V L. -/
def SCAN_TASK_EXEC_MAX (i : Nat) : Fld := ⟨0x400C0280 + 4 * i, 16, 16, 0⟩
/-- SCAN_TASK_EXEC[n] — SCAN + 0x0280 + 4 × n, n = 0 to 15, [15:0] RO/V L. -/
def SCAN_TASK_EXEC_LAST (i : Nat) : Fld := ⟨0x400C0280 + 4 * i, 0, 16, 0⟩
/-- SCAN_TASK_DELAY[n] — SCAN + 0x02C0 + 4 × n, n = 0 to 15, [31:16] RO/V L. -/
def SCAN_TASK_DELAY_MAX (i : Nat) : Fld := ⟨0x400C02C0 + 4 * i, 16, 16, 0⟩
/-- SCAN_TASK_DELAY[n] — SCAN + 0x02C0 + 4 × n, n = 0 to 15, [15:0] RO/V L. -/
def SCAN_TASK_DELAY_LAST (i : Nat) : Fld := ⟨0x400C02C0 + 4 * i, 0, 16, 0⟩
/-- SCAN_EXEC_ERR — SCAN + 0x0048, [31:28] RO/V L. -/
def SCAN_EXEC_ERR_CODE : Fld := ⟨0x400C0048, 28, 4, 0⟩
/-- SCAN_EXEC_ERR — SCAN + 0x0048, [27:24] RO/V L. -/
def SCAN_EXEC_ERR_TASK : Fld := ⟨0x400C0048, 24, 4, 0⟩
/-- SCAN_EXEC_ERR — SCAN + 0x0048, [17:0] RO/V L. -/
def SCAN_EXEC_ERR_ADDR : Fld := ⟨0x400C0048, 0, 18, 0⟩
/-- SCAN_HOLD_ACC — SCAN + 0x0400, [31:0] RO/V L. -/
def SCAN_HOLD_ACC_ACC : Fld := ⟨0x400C0400, 0, 32, 0⟩
/-- SCAN_HOLD_P — SCAN + 0x0404, [31:0] RO/V L. -/
def SCAN_HOLD_P_P : Fld := ⟨0x400C0404, 0, 32, 0⟩
/-- SCAN_HOLD_LOGIC — SCAN + 0x0408, [15:8] RO/V L. -/
def SCAN_HOLD_LOGIC_STACK : Fld := ⟨0x400C0408, 8, 8, 0⟩
/-- SCAN_HOLD_LOGIC — SCAN + 0x0408, [7:4] RO/V L. -/
def SCAN_HOLD_LOGIC_DEPTH : Fld := ⟨0x400C0408, 4, 4, 0⟩
/-- SCAN_HOLD_LOGIC — SCAN + 0x0408, [1] RO/V L. -/
def SCAN_HOLD_LOGIC_OV : Fld := ⟨0x400C0408, 1, 1, 0⟩
/-- SCAN_HOLD_LOGIC — SCAN + 0x0408, [0] RO/V L. -/
def SCAN_HOLD_LOGIC_C : Fld := ⟨0x400C0408, 0, 1, 0⟩
/-- LAMP_CTRL — LAMP + 0x0000, [16] RW S. -/
def LAMP_CTRL_MTX_EN : Fld := ⟨0x400D0000, 16, 1, 0⟩
/-- LAMP_CTRL — LAMP + 0x0000, [13:8] RW S. -/
def LAMP_CTRL_STR_EN : Fld := ⟨0x400D0000, 8, 6, 0⟩
/-- LAMP_CTRL — LAMP + 0x0000, [0] RW L. -/
def LAMP_CTRL_ENABLE : Fld := ⟨0x400D0000, 0, 1, 0⟩
/-- LAMP_STATUS — LAMP + 0x0004, [20] RO/V L. -/
def LAMP_STATUS_EJECT_ACTIVE : Fld := ⟨0x400D0004, 20, 1, 0⟩
/-- LAMP_STATUS — LAMP + 0x0004, [15:8] RO/V L. -/
def LAMP_STATUS_AON_TRIP : Fld := ⟨0x400D0004, 8, 8, 0⟩
/-- LAMP_STATUS — LAMP + 0x0004, [2] RO/V L. -/
def LAMP_STATUS_MATRIX_FAULT : Fld := ⟨0x400D0004, 2, 1, 0⟩
/-- LAMP_STATUS — LAMP + 0x0004, [1] RO/V L. -/
def LAMP_STATUS_LOSS_LIMIT : Fld := ⟨0x400D0004, 1, 1, 0⟩
/-- LAMP_STATUS — LAMP + 0x0004, [0] RO/V L. -/
def LAMP_STATUS_SUPPLY_LOW : Fld := ⟨0x400D0004, 0, 1, 0⟩
/-- LAMP_SUPPLY — LAMP + 0x0008, [31:16] RO/V L. -/
def LAMP_SUPPLY_LOSS : Fld := ⟨0x400D0008, 16, 16, 0⟩
/-- LAMP_SUPPLY — LAMP + 0x0008, [15:0] RO/V L. -/
def LAMP_SUPPLY_LED_IN : Fld := ⟨0x400D0008, 0, 16, 0⟩
/-- LAMP_FLASH — LAMP + 0x000C, [15:8] RW H. -/
def LAMP_FLASH_OFF_10MS : Fld := ⟨0x400D000C, 8, 8, 0⟩
/-- LAMP_FLASH — LAMP + 0x000C, [7:0] RW H. -/
def LAMP_FLASH_ON_10MS : Fld := ⟨0x400D000C, 0, 8, 0⟩
/-- LAMP_CMD — LAMP + 0x0010, [31:28] WO L. -/
def LAMP_CMD_OP : Fld := ⟨0x400D0010, 28, 4, 0⟩
/-- LAMP_CMD — LAMP + 0x0010, [2:0] WO L. -/
def LAMP_CMD_ARG : Fld := ⟨0x400D0010, 0, 3, 0⟩
/-- LAMP_CMD_STAT — LAMP + 0x0014, [15:8] RO/V L. -/
def LAMP_CMD_STAT_STATUS : Fld := ⟨0x400D0014, 8, 8, 0⟩
/-- LAMP_CMD_STAT — LAMP + 0x0014, [3:0] RO/V L. -/
def LAMP_CMD_STAT_OP : Fld := ⟨0x400D0014, 0, 4, 0⟩
/-- LAMP_MTX_CFG — LAMP + 0x0018, [30:28] RW H. -/
def LAMP_MTX_CFG_NTC : Fld := ⟨0x400D0018, 28, 3, 0⟩
/-- LAMP_MTX_CFG — LAMP + 0x0018, [27:16] RW H. -/
def LAMP_MTX_CFG_BLANK : Fld := ⟨0x400D0018, 16, 12, 0⟩
/-- LAMP_MTX_CFG — LAMP + 0x0018, [9:8] RW S. -/
def LAMP_MTX_CFG_MSPREAD : Fld := ⟨0x400D0018, 8, 2, 0⟩
/-- LAMP_MTX_CFG — LAMP + 0x0018, [4:0] RW S. -/
def LAMP_MTX_CFG_N_ROWS : Fld := ⟨0x400D0018, 0, 5, 0⟩
/-- LAMP_MTX_STAT — LAMP + 0x001C, [31:16] RO/V L. -/
def LAMP_MTX_STAT_ROW_MA : Fld := ⟨0x400D001C, 16, 16, 0⟩
/-- LAMP_MTX_STAT — LAMP + 0x001C, [9:0] RO/V L. -/
def LAMP_MTX_STAT_FAULTED : Fld := ⟨0x400D001C, 0, 10, 0⟩
/-- LAMP_LSEL — LAMP + 0x0020, [9:0] RW L. -/
def LAMP_LSEL_ID : Fld := ⟨0x400D0020, 0, 10, 0⟩
/-- LAMP_MCFG — LAMP + 0x0024, [15:8] RW H. -/
def LAMP_MCFG_WEIGHT : Fld := ⟨0x400D0024, 8, 8, 0⟩
/-- LAMP_MCFG — LAMP + 0x0024, [7] RW H. -/
def LAMP_MCFG_EN : Fld := ⟨0x400D0024, 7, 1, 0⟩
/-- LAMP_MCFG — LAMP + 0x0024, [4:0] RW H. -/
def LAMP_MCFG_FUNC : Fld := ⟨0x400D0024, 0, 5, 0⟩
/-- LAMP_LSTAT[n] — LAMP + 0x0028 + 4 × n, n = 0 to 3, [31:0] RO/V L. -/
def LAMP_LSTAT_WORD (i : Nat) : Fld := ⟨0x400D0028 + 4 * i, 0, 32, 0⟩
/-- LAMP_AUDIT_CTRL — LAMP + 0x0038, [31:16] RO/V L. -/
def LAMP_AUDIT_CTRL_SNAP_CNT : Fld := ⟨0x400D0038, 16, 16, 0⟩
/-- LAMP_AUDIT_CTRL — LAMP + 0x0038, [15:8] RO/V L. -/
def LAMP_AUDIT_CTRL_RESTORES : Fld := ⟨0x400D0038, 8, 8, 0⟩
/-- LAMP_AUDIT_CTRL — LAMP + 0x0038, [0] WO L. -/
def LAMP_AUDIT_CTRL_SNAP : Fld := ⟨0x400D0038, 0, 1, 0⟩
/-- LAMP_AUDIT[n] — LAMP + 0x003C + 4 × n, n = 0 to 4, [31:0] RO/V L. -/
def LAMP_AUDIT_WORD (i : Nat) : Fld := ⟨0x400D003C + 4 * i, 0, 32, 0⟩
/-- LAMP_STR_CFG[n] — LAMP + 0x0100 + 4 × n, n = 0 to 5, [30:28] RW H. -/
def LAMP_STR_CFG_NTC (i : Nat) : Fld := ⟨0x400D0100 + 4 * i, 28, 3, 0⟩
/-- LAMP_STR_CFG[n] — LAMP + 0x0100 + 4 × n, n = 0 to 5, [18:16] RW H. -/
def LAMP_STR_CFG_SPREAD (i : Nat) : Fld := ⟨0x400D0100 + 4 * i, 16, 3, 0⟩
/-- LAMP_STR_CFG[n] — LAMP + 0x0100 + 4 × n, n = 0 to 5, [9:0] RW H. -/
def LAMP_STR_CFG_I_SET (i : Nat) : Fld := ⟨0x400D0100 + 4 * i, 0, 10, 0⟩
/-- LAMP_STR_VWIN[n] — LAMP + 0x0120 + 4 × n, n = 0 to 5, [31:16] RW H. -/
def LAMP_STR_VWIN_V_MAX (i : Nat) : Fld := ⟨0x400D0120 + 4 * i, 16, 16, 0⟩
/-- LAMP_STR_VWIN[n] — LAMP + 0x0120 + 4 × n, n = 0 to 5, [15:0] RW H. -/
def LAMP_STR_VWIN_V_MIN (i : Nat) : Fld := ⟨0x400D0120 + 4 * i, 0, 16, 0⟩
/-- LAMP_STR_MEAS[n] — LAMP + 0x0140 + 4 × n, n = 0 to 5, [31:16] RO/V L. -/
def LAMP_STR_MEAS_V_OUT (i : Nat) : Fld := ⟨0x400D0140 + 4 * i, 16, 16, 0⟩
/-- LAMP_STR_MEAS[n] — LAMP + 0x0140 + 4 × n, n = 0 to 5, [15:0] RO/V L. -/
def LAMP_STR_MEAS_I_MA (i : Nat) : Fld := ⟨0x400D0140 + 4 * i, 0, 16, 0⟩
/-- LAMP_STR_STAT[n] — LAMP + 0x0160 + 4 × n, n = 0 to 5, [31:16] RO/V L. -/
def LAMP_STR_STAT_ROUTED (i : Nat) : Fld := ⟨0x400D0160 + 4 * i, 16, 16, 0⟩
/-- LAMP_STR_STAT[n] — LAMP + 0x0160 + 4 × n, n = 0 to 5, [5:4] RO/V L. -/
def LAMP_STR_STAT_RESTARTS (i : Nat) : Fld := ⟨0x400D0160 + 4 * i, 4, 2, 0⟩
/-- LAMP_STR_STAT[n] — LAMP + 0x0160 + 4 × n, n = 0 to 5, [3] RO/V L. -/
def LAMP_STR_STAT_UNDERCURRENT (i : Nat) : Fld := ⟨0x400D0160 + 4 * i, 3, 1, 0⟩
/-- LAMP_STR_STAT[n] — LAMP + 0x0160 + 4 × n, n = 0 to 5, [2] RO/V L. -/
def LAMP_STR_STAT_STRING_OPEN (i : Nat) : Fld := ⟨0x400D0160 + 4 * i, 2, 1, 0⟩
/-- LAMP_STR_STAT[n] — LAMP + 0x0160 + 4 × n, n = 0 to 5, [1] RO/V L. -/
def LAMP_STR_STAT_OVERCURRENT (i : Nat) : Fld := ⟨0x400D0160 + 4 * i, 1, 1, 0⟩
/-- LAMP_STR_STAT[n] — LAMP + 0x0160 + 4 × n, n = 0 to 5, [0] RO/V L. -/
def LAMP_STR_STAT_RUNNING (i : Nat) : Fld := ⟨0x400D0160 + 4 * i, 0, 1, 0⟩
/-- LAMP_NTC_A[n] — LAMP + 0x0200 + 4 × n, n = 0 to 5, [31:16] RW S. -/
def LAMP_NTC_A_RES_25 (i : Nat) : Fld := ⟨0x400D0200 + 4 * i, 16, 16, 0⟩
/-- LAMP_NTC_A[n] — LAMP + 0x0200 + 4 × n, n = 0 to 5, [15:0] RW S. -/
def LAMP_NTC_A_B (i : Nat) : Fld := ⟨0x400D0200 + 4 * i, 0, 16, 0⟩
/-- LAMP_NTC_B[n] — LAMP + 0x0220 + 4 × n, n = 0 to 5, [30:24] RW H. -/
def LAMP_NTC_B_MIN_PCT (i : Nat) : Fld := ⟨0x400D0220 + 4 * i, 24, 7, 0⟩
/-- LAMP_NTC_B[n] — LAMP + 0x0220 + 4 × n, n = 0 to 5, [23:16] RW H. -/
def LAMP_NTC_B_T_SHUT (i : Nat) : Fld := ⟨0x400D0220 + 4 * i, 16, 8, 0⟩
/-- LAMP_NTC_B[n] — LAMP + 0x0220 + 4 × n, n = 0 to 5, [15:8] RW H. -/
def LAMP_NTC_B_T_STOP (i : Nat) : Fld := ⟨0x400D0220 + 4 * i, 8, 8, 0⟩
/-- LAMP_NTC_B[n] — LAMP + 0x0220 + 4 × n, n = 0 to 5, [7:0] RW H. -/
def LAMP_NTC_B_T_START (i : Nat) : Fld := ⟨0x400D0220 + 4 * i, 0, 8, 0⟩
/-- LAMP_NTC_STAT[n] — LAMP + 0x0240 + 4 × n, n = 0 to 5, [25] RO/V L. -/
def LAMP_NTC_STAT_THERMAL (i : Nat) : Fld := ⟨0x400D0240 + 4 * i, 25, 1, 0⟩
/-- LAMP_NTC_STAT[n] — LAMP + 0x0240 + 4 × n, n = 0 to 5, [24] RO/V L. -/
def LAMP_NTC_STAT_NTC_FAULT (i : Nat) : Fld := ⟨0x400D0240 + 4 * i, 24, 1, 0⟩
/-- LAMP_NTC_STAT[n] — LAMP + 0x0240 + 4 × n, n = 0 to 5, [23:16] RO/V L. -/
def LAMP_NTC_STAT_SCALE (i : Nat) : Fld := ⟨0x400D0240 + 4 * i, 16, 8, 100⟩
/-- LAMP_NTC_STAT[n] — LAMP + 0x0240 + 4 × n, n = 0 to 5, [15:0] RO/V L. -/
def LAMP_NTC_STAT_TEMP (i : Nat) : Fld := ⟨0x400D0240 + 4 * i, 0, 16, 0⟩
/-- LAMP_MTX_COL[n] — LAMP + 0x0300 + 4 × n, n = 0 to 47, [7:0] RW H. -/
def LAMP_MTX_COL_I_COL (i : Nat) : Fld := ⟨0x400D0300 + 4 * i, 0, 8, 0⟩
/-- LAMP_FUNC_CFG[n] — LAMP + 0x0400 + 4 × n, n = 0 to 31, [6:4] RW H. -/
def LAMP_FUNC_CFG_AON_GROUP (i : Nat) : Fld := ⟨0x400D0400 + 4 * i, 4, 3, 0⟩
/-- LAMP_FUNC_CFG[n] — LAMP + 0x0400 + 4 × n, n = 0 to 31, [2:1] RW H. -/
def LAMP_FUNC_CFG_FLASH (i : Nat) : Fld := ⟨0x400D0400 + 4 * i, 1, 2, 0⟩
/-- LAMP_FUNC_CFG[n] — LAMP + 0x0400 + 4 × n, n = 0 to 31, [0] RW H. -/
def LAMP_FUNC_CFG_CURVE (i : Nat) : Fld := ⟨0x400D0400 + 4 * i, 0, 1, 0⟩
/-- LAMP_FUNC_STAT[n] — LAMP + 0x0480 + 4 × n, n = 0 to 31, [18] RO/V L. -/
def LAMP_FUNC_STAT_FADING (i : Nat) : Fld := ⟨0x400D0480 + 4 * i, 18, 1, 0⟩
/-- LAMP_FUNC_STAT[n] — LAMP + 0x0480 + 4 × n, n = 0 to 31, [17] RO/V L. -/
def LAMP_FUNC_STAT_MEMBER_FAULT (i : Nat) : Fld := ⟨0x400D0480 + 4 * i, 17, 1, 0⟩
/-- LAMP_FUNC_STAT[n] — LAMP + 0x0480 + 4 × n, n = 0 to 31, [16] RO/V L. -/
def LAMP_FUNC_STAT_AON_TRIP (i : Nat) : Fld := ⟨0x400D0480 + 4 * i, 16, 1, 0⟩
/-- LAMP_FUNC_STAT[n] — LAMP + 0x0480 + 4 × n, n = 0 to 31, [15:0] RO/V L. -/
def LAMP_FUNC_STAT_OUT (i : Nat) : Fld := ⟨0x400D0480 + 4 * i, 0, 16, 0⟩
/-- LAMP_SL_CFG[n][m] — LAMP + 0x0600 + 64 × n, n = 0 to 5 + 4 × m, m = 0 to 15, [15:8] RW H. -/
def LAMP_SL_CFG_WEIGHT (i j : Nat) : Fld := ⟨0x400D0600 + 64 * i + 4 * j, 8, 8, 0⟩
/-- LAMP_SL_CFG[n][m] — LAMP + 0x0600 + 64 × n, n = 0 to 5 + 4 × m, m = 0 to 15, [7] RW H. -/
def LAMP_SL_CFG_EN (i j : Nat) : Fld := ⟨0x400D0600 + 64 * i + 4 * j, 7, 1, 0⟩
/-- LAMP_SL_CFG[n][m] — LAMP + 0x0600 + 64 × n, n = 0 to 5 + 4 × m, m = 0 to 15, [4:0] RW H. -/
def LAMP_SL_CFG_FUNC (i j : Nat) : Fld := ⟨0x400D0600 + 64 * i + 4 * j, 0, 5, 0⟩
/-- LAMP_CNT[n][m] — LAMP + 0x0800 + 32 × n, n = 0 to 6 + 4 × m, m = 0 to 7, [31:0] RO/V L. -/
def LAMP_CNT_COUNT (i j : Nat) : Fld := ⟨0x400D0800 + 32 * i + 4 * j, 0, 32, 0⟩
/-- CAPO_RING_ID — CAPO + 0x0000, [13:6] RW S. -/
def CAPO_RING_ID_RING : Fld := ⟨0x40100000, 6, 8, 0⟩
/-- CAPO_RING_ID — CAPO + 0x0000, [5:0] RW S. -/
def CAPO_RING_ID_POSITION : Fld := ⟨0x40100000, 0, 6, 0⟩
/-- CAPO_CFG — CAPO + 0x0004, [31:16] RW H. -/
def CAPO_CFG_REVERT_S : Fld := ⟨0x40100004, 16, 16, 300⟩
/-- CAPO_CFG — CAPO + 0x0004, [15:8] RW H. -/
def CAPO_CFG_PROBE_10US : Fld := ⟨0x40100004, 8, 8, 100⟩
/-- CAPO_CFG — CAPO + 0x0004, [1] RW H. -/
def CAPO_CFG_REVERT : Fld := ⟨0x40100004, 1, 1, 0⟩
/-- CAPO_CFG — CAPO + 0x0004, [0] RW H. -/
def CAPO_CFG_PREFER : Fld := ⟨0x40100004, 0, 1, 0⟩
/-- CAPO_STAT — CAPO + 0x0008, [31:16] RO/V L. -/
def CAPO_STAT_SWITCH_EPOCH : Fld := ⟨0x40100008, 16, 16, 0⟩
/-- CAPO_STAT — CAPO + 0x0008, [9] RO/V L. -/
def CAPO_STAT_CAPO_STUCK : Fld := ⟨0x40100008, 9, 1, 0⟩
/-- CAPO_STAT — CAPO + 0x0008, [8] RO/V L. -/
def CAPO_STAT_STANDBY_READY : Fld := ⟨0x40100008, 8, 1, 0⟩
/-- CAPO_STAT — CAPO + 0x0008, [5:4] RO/V L. -/
def CAPO_STAT_GRANT : Fld := ⟨0x40100008, 4, 2, 0⟩
/-- CAPO_STAT — CAPO + 0x0008, [2:0] RO/V L. -/
def CAPO_STAT_STATE : Fld := ⟨0x40100008, 0, 3, 0⟩
/-- CAPO_CMD — CAPO + 0x000C, [31:16] WO L. -/
def CAPO_CMD_KEY : Fld := ⟨0x4010000C, 16, 16, 0⟩
/-- CAPO_CMD — CAPO + 0x000C, [1:0] WO L. -/
def CAPO_CMD_OP : Fld := ⟨0x4010000C, 0, 2, 0⟩
/-- CAPO_SWITCH — CAPO + 0x0010, [31:28] RO/V L. -/
def CAPO_SWITCH_CAUSE : Fld := ⟨0x40100010, 28, 4, 0⟩
/-- CAPO_SWITCH — CAPO + 0x0010, [27] RO/V L. -/
def CAPO_SWITCH_BY_ANNOUNCE : Fld := ⟨0x40100010, 27, 1, 0⟩
/-- CAPO_SWITCH — CAPO + 0x0010, [15:0] RO/V L. -/
def CAPO_SWITCH_DETECT_US : Fld := ⟨0x40100010, 0, 16, 0⟩
/-- CAPO_TAKEOVER — CAPO + 0x0014, [31:24] RO/V L. -/
def CAPO_TAKEOVER_CMD_STATUS : Fld := ⟨0x40100014, 24, 8, 0⟩
/-- CAPO_TAKEOVER — CAPO + 0x0014, [15:0] RO/V L. -/
def CAPO_TAKEOVER_TIME : Fld := ⟨0x40100014, 0, 16, 0⟩
/-- CAPO_MEMBERS_LO — CAPO + 0x0018, [31:0] RO/V L. -/
def CAPO_MEMBERS_LO_BITS : Fld := ⟨0x40100018, 0, 32, 0⟩
/-- CAPO_MEMBERS_HI — CAPO + 0x001C, [31:0] RO/V L. -/
def CAPO_MEMBERS_HI_BITS : Fld := ⟨0x4010001C, 0, 32, 0⟩
/-- CAPO_GATEWAY — CAPO + 0x0020, [31] RO/V L. -/
def CAPO_GATEWAY_VALID : Fld := ⟨0x40100020, 31, 1, 0⟩
/-- CAPO_GATEWAY — CAPO + 0x0020, [5:0] RO/V L. -/
def CAPO_GATEWAY_POSITION : Fld := ⟨0x40100020, 0, 6, 0⟩
/-- CAPO_SMEMBERS_LO — CAPO + 0x0024, [31:0] RO/V L. -/
def CAPO_SMEMBERS_LO_BITS : Fld := ⟨0x40100024, 0, 32, 0⟩
/-- CAPO_SMEMBERS_HI — CAPO + 0x0028, [31:0] RO/V L. -/
def CAPO_SMEMBERS_HI_BITS : Fld := ⟨0x40100028, 0, 32, 0⟩
/-- CAPO_ANNOUNCE_LAST — CAPO + 0x002C, [31:16] RO/V L. -/
def CAPO_ANNOUNCE_LAST_EPOCH : Fld := ⟨0x4010002C, 16, 16, 0⟩
/-- CAPO_ANNOUNCE_LAST — CAPO + 0x002C, [15] RO/V L. -/
def CAPO_ANNOUNCE_LAST_TARGET : Fld := ⟨0x4010002C, 15, 1, 0⟩
/-- CAPO_ANNOUNCE_LAST — CAPO + 0x002C, [13:0] RO/V L. -/
def CAPO_ANNOUNCE_LAST_REPORTER : Fld := ⟨0x4010002C, 0, 14, 0⟩
/-- CAPO_CNT[n] — CAPO + 0x0040 + 4 × n, n = 0 to 7, [31:0] RO/V L. -/
def CAPO_CNT_COUNT (i : Nat) : Fld := ⟨0x40100040 + 4 * i, 0, 32, 0⟩
/-- RING_A_CTRL — RING_A + 0x0000, [3:2] RW S. -/
def RING_CTRL_FEC (x : Nat) : Fld := ⟨0x400E0000 + 0x10000 * x, 2, 2, 0⟩
/-- RING_A_CTRL — RING_A + 0x0000, [0] RW H. -/
def RING_CTRL_EN (x : Nat) : Fld := ⟨0x400E0000 + 0x10000 * x, 0, 1, 0⟩
/-- RING_A_PORT_STAT[n] — RING_A + 0x0010 + 4 × n, n = 0 to 1, [31:16] RO/V L. -/
def RING_PORT_STAT_LINK_EPOCH (x i : Nat) : Fld := ⟨0x400E0010 + 0x10000 * x + 4 * i, 16, 16, 0⟩
/-- RING_A_PORT_STAT[n] — RING_A + 0x0010 + 4 × n, n = 0 to 1, [15:10] RO/V L. -/
def RING_PORT_STAT_NEIGHBOUR (x i : Nat) : Fld := ⟨0x400E0010 + 0x10000 * x + 4 * i, 10, 6, 0⟩
/-- RING_A_PORT_STAT[n] — RING_A + 0x0010 + 4 × n, n = 0 to 1, [5:4] RO/V L. -/
def RING_PORT_STAT_MISSES (x i : Nat) : Fld := ⟨0x400E0010 + 0x10000 * x + 4 * i, 4, 2, 0⟩
/-- RING_A_PORT_STAT[n] — RING_A + 0x0010 + 4 × n, n = 0 to 1, [3] RO/V L. -/
def RING_PORT_STAT_SA_OK (x i : Nat) : Fld := ⟨0x400E0010 + 0x10000 * x + 4 * i, 3, 1, 0⟩
/-- RING_A_PORT_STAT[n] — RING_A + 0x0010 + 4 × n, n = 0 to 1, [2] RO/V L. -/
def RING_PORT_STAT_BLOCK_LOCK (x i : Nat) : Fld := ⟨0x400E0010 + 0x10000 * x + 4 * i, 2, 1, 0⟩
/-- RING_A_PORT_STAT[n] — RING_A + 0x0010 + 4 × n, n = 0 to 1, [1] RO/V L. -/
def RING_PORT_STAT_FAULT (x i : Nat) : Fld := ⟨0x400E0010 + 0x10000 * x + 4 * i, 1, 1, 0⟩
/-- RING_A_PORT_STAT[n] — RING_A + 0x0010 + 4 × n, n = 0 to 1, [0] RO/V L. -/
def RING_PORT_STAT_UP (x i : Nat) : Fld := ⟨0x400E0010 + 0x10000 * x + 4 * i, 0, 1, 0⟩
/-- RING_A_PORT_DELAY[n] — RING_A + 0x0018 + 4 × n, n = 0 to 1, [31:0] RO/V L. -/
def RING_PORT_DELAY_NS (x i : Nat) : Fld := ⟨0x400E0018 + 0x10000 * x + 4 * i, 0, 32, 0⟩
/-- RING_A_PATH_STAT — RING_A + 0x0020, [31] RO/V L. -/
def RING_PATH_STAT_WHOLE (x : Nat) : Fld := ⟨0x400E0020 + 0x10000 * x, 31, 1, 0⟩
/-- RING_A_PATH_STAT — RING_A + 0x0020, [30] RO/V L. -/
def RING_PATH_STAT_LONG_PATH (x : Nat) : Fld := ⟨0x400E0020 + 0x10000 * x, 30, 1, 0⟩
/-- RING_A_PATH_STAT — RING_A + 0x0020, [15:0] RO/V L. -/
def RING_PATH_STAT_RTT (x : Nat) : Fld := ⟨0x400E0020 + 0x10000 * x, 0, 16, 0⟩
/-- RING_A_CLASS_CELLS[n] — RING_A + 0x0030 + 4 × n, n = 0 to 3, [12:0] RW S. -/
def RING_CLASS_CELLS_ALLOT (x i : Nat) : Fld := ⟨0x400E0030 + 0x10000 * x + 4 * i, 0, 13, 0⟩
/-- RING_A_CREDIT[n] — RING_A + 0x0040 + 4 × n, n = 0 to 3, [31:16] RO/V L. -/
def RING_CREDIT_HELD (x i : Nat) : Fld := ⟨0x400E0040 + 0x10000 * x + 4 * i, 16, 16, 0⟩
/-- RING_A_CREDIT[n] — RING_A + 0x0040 + 4 × n, n = 0 to 3, [15:0] RO/V L. -/
def RING_CREDIT_AVAILABLE (x i : Nat) : Fld := ⟨0x400E0040 + 0x10000 * x + 4 * i, 0, 16, 0⟩
/-- RING_A_AUDIT_CTRL — RING_A + 0x0050, [31:16] RO/V L. -/
def RING_AUDIT_CTRL_SNAP_CNT (x : Nat) : Fld := ⟨0x400E0050 + 0x10000 * x, 16, 16, 0⟩
/-- RING_A_AUDIT_CTRL — RING_A + 0x0050, [0] WO L. -/
def RING_AUDIT_CTRL_SNAP (x : Nat) : Fld := ⟨0x400E0050 + 0x10000 * x, 0, 1, 0⟩
/-- RING_A_AUDIT[n] — RING_A + 0x0054 + 4 × n, n = 0 to 23, [31:0] RO/V L. -/
def RING_AUDIT_VALUE (x i : Nat) : Fld := ⟨0x400E0054 + 0x10000 * x + 4 * i, 0, 32, 0⟩
/-- RING_A_CNT[n] — RING_A + 0x0100 + 4 × n, n = 0 to 15, [31:0] RO/V L. -/
def RING_CNT_COUNT (x i : Nat) : Fld := ⟨0x400E0100 + 0x10000 * x + 4 * i, 0, 32, 0⟩
/-- HCP_CTRL — HCP + 0x0000, [1] RW S. -/
def HCP_CTRL_IPV4 : Fld := ⟨0x40110000, 1, 1, 0⟩
/-- HCP_CTRL — HCP + 0x0000, [0] RW H. -/
def HCP_CTRL_EN : Fld := ⟨0x40110000, 0, 1, 0⟩
/-- HCP_PORT_STAT — HCP + 0x0004, [3:1] RO/V L. -/
def HCP_PORT_STAT_RATE : Fld := ⟨0x40110004, 1, 3, 0⟩
/-- HCP_PORT_STAT — HCP + 0x0004, [0] RO/V L. -/
def HCP_PORT_STAT_GATEWAY : Fld := ⟨0x40110004, 0, 1, 0⟩
/-- HCP_FWD_CFG — HCP + 0x0008, [15:0] RW H. -/
def HCP_FWD_CFG_FWD_MS : Fld := ⟨0x40110008, 0, 16, 20⟩
/-- HCP_EVT_CFG — HCP + 0x000C, [17:16] RW H. -/
def HCP_EVT_CFG_SESSION : Fld := ⟨0x4011000C, 16, 2, 0⟩
/-- HCP_EVT_CFG — HCP + 0x000C, [15:0] RW H. -/
def HCP_EVT_CFG_RESEND_MS : Fld := ⟨0x4011000C, 0, 16, 1000⟩
/-- HCP_EVT_STAT — HCP + 0x0010, [31:16] RO/V L. -/
def HCP_EVT_STAT_DROPPED : Fld := ⟨0x40110010, 16, 16, 0⟩
/-- HCP_EVT_STAT — HCP + 0x0010, [10:0] RO/V L. -/
def HCP_EVT_STAT_PENDING : Fld := ⟨0x40110010, 0, 11, 0⟩
/-- HCP_SESSION_STAT[n] — HCP + 0x0020 + 4 × n, n = 0 to 3, [31:16] RO/V L. -/
def HCP_SESSION_STAT_LAST_TID (i : Nat) : Fld := ⟨0x40110020 + 4 * i, 16, 16, 0⟩
/-- HCP_SESSION_STAT[n] — HCP + 0x0020 + 4 × n, n = 0 to 3, [15:8] RO/V L. -/
def HCP_SESSION_STAT_STAGED_PCT (i : Nat) : Fld := ⟨0x40110020 + 4 * i, 8, 8, 0⟩
/-- HCP_SESSION_STAT[n] — HCP + 0x0020 + 4 × n, n = 0 to 3, [0] RO/V L. -/
def HCP_SESSION_STAT_BOUND (i : Nat) : Fld := ⟨0x40110020 + 4 * i, 0, 1, 0⟩
/-- HCP_LAST_COMMIT[n] — HCP + 0x0040 + 8 × n, n = 0 to 3, [31:16] RO/V L. -/
def HCP_LAST_COMMIT_CT_ID (i : Nat) : Fld := ⟨0x40110040 + 8 * i, 16, 16, 0⟩
/-- HCP_LAST_COMMIT[n] — HCP + 0x0040 + 8 × n, n = 0 to 3, [15:0] RO/V L. -/
def HCP_LAST_COMMIT_TID (i : Nat) : Fld := ⟨0x40110040 + 8 * i, 0, 16, 0⟩
/-- HCP_LAST_COMMIT_STAT[n] — HCP + 0x0044 + 8 × n, n = 0 to 3, [31:16] RO/V L. -/
def HCP_LAST_COMMIT_STAT_COMMITS (i : Nat) : Fld := ⟨0x40110044 + 8 * i, 16, 16, 0⟩
/-- HCP_LAST_COMMIT_STAT[n] — HCP + 0x0044 + 8 × n, n = 0 to 3, [15:8] RO/V L. -/
def HCP_LAST_COMMIT_STAT_STATUS (i : Nat) : Fld := ⟨0x40110044 + 8 * i, 8, 8, 0⟩
/-- HCP_LAST_COMMIT_STAT[n] — HCP + 0x0044 + 8 × n, n = 0 to 3, [7:0] RO/V L. -/
def HCP_LAST_COMMIT_STAT_KIND (i : Nat) : Fld := ⟨0x40110044 + 8 * i, 0, 8, 0⟩
/-- HCP_CNT[n] — HCP + 0x0100 + 4 × n, n = 0 to 7, [31:0] RO/V L. -/
def HCP_CNT_COUNT (i : Nat) : Fld := ⟨0x40110100 + 4 * i, 0, 32, 0⟩
/-- TIME_TB0_SUB — TIME + 0x0000, [23:16] RO/V L. -/
def TIME_TB0_SUB_EPOCH : Fld := ⟨0x40120000, 16, 8, 0⟩
/-- TIME_TB0_SUB — TIME + 0x0000, [15:0] RO/V L. -/
def TIME_TB0_SUB_FRAC : Fld := ⟨0x40120000, 0, 16, 0⟩
/-- TIME_TB0_NS — TIME + 0x0004, [31:0] RO/V L. -/
def TIME_TB0_NS_NS : Fld := ⟨0x40120004, 0, 32, 0⟩
/-- TIME_TB0_S_LO — TIME + 0x0008, [31:0] RO/V L. -/
def TIME_TB0_S_LO_SEC : Fld := ⟨0x40120008, 0, 32, 0⟩
/-- TIME_TB0_S_HI — TIME + 0x000C, [31:0] RO/V L. -/
def TIME_TB0_S_HI_SEC : Fld := ⟨0x4012000C, 0, 32, 0⟩
/-- TIME_TB0_STAT — TIME + 0x0010, [6] RO/V L. -/
def TIME_TB0_STAT_STEP_HELD : Fld := ⟨0x40120010, 6, 1, 0⟩
/-- TIME_TB0_STAT — TIME + 0x0010, [5] RO/V L. -/
def TIME_TB0_STAT_HOLDOVER : Fld := ⟨0x40120010, 5, 1, 0⟩
/-- TIME_TB0_STAT — TIME + 0x0010, [4] RO/V L. -/
def TIME_TB0_STAT_LOCKED : Fld := ⟨0x40120010, 4, 1, 0⟩
/-- TIME_TB0_STAT — TIME + 0x0010, [3] RO/V L. -/
def TIME_TB0_STAT_VALID : Fld := ⟨0x40120010, 3, 1, 0⟩
/-- TIME_TB0_STAT — TIME + 0x0010, [2:0] RO/V L. -/
def TIME_TB0_STAT_SOURCE : Fld := ⟨0x40120010, 0, 3, 0⟩
/-- TIME_TB0_OFFSET — TIME + 0x0014, [31:0] RO/V L. -/
def TIME_TB0_OFFSET_NS : Fld := ⟨0x40120014, 0, 32, 0⟩
/-- TIME_TB0_ADJ — TIME + 0x0018, [31:0] RO/V L. -/
def TIME_TB0_ADJ_ADJ : Fld := ⟨0x40120018, 0, 32, 0⟩
/-- TIME_STEP_CFG — TIME + 0x001C, [31] RW H. -/
def TIME_STEP_CFG_POLICY : Fld := ⟨0x4012001C, 31, 1, 0⟩
/-- TIME_STEP_CFG — TIME + 0x001C, [23:16] RW H. -/
def TIME_STEP_CFG_CONFIRM : Fld := ⟨0x4012001C, 16, 8, 128⟩
/-- TIME_STEP_CFG — TIME + 0x001C, [15:0] RW H. -/
def TIME_STEP_CFG_STEP_US : Fld := ⟨0x4012001C, 0, 16, 1000⟩
/-- TIME_STEP_LAST — TIME + 0x0020, [31:0] RO/V L. -/
def TIME_STEP_LAST_MS : Fld := ⟨0x40120020, 0, 32, 0⟩
/-- TIME_STEP_CNT — TIME + 0x0024, [31:16] RO/V L. -/
def TIME_STEP_CNT_BACKWARD : Fld := ⟨0x40120024, 16, 16, 0⟩
/-- TIME_STEP_CNT — TIME + 0x0024, [15:0] RO/V L. -/
def TIME_STEP_CNT_FORWARD : Fld := ⟨0x40120024, 0, 16, 0⟩
/-- TIME_SERVO_CFG[n] — TIME + 0x0030 + 4 × n, n = 0 to 2, [31:16] RW H. -/
def TIME_SERVO_CFG_KP (i : Nat) : Fld := ⟨0x40120030 + 4 * i, 16, 16, 0⟩
/-- TIME_SERVO_CFG[n] — TIME + 0x0030 + 4 × n, n = 0 to 2, [15:0] RW H. -/
def TIME_SERVO_CFG_KI (i : Nat) : Fld := ⟨0x40120030 + 4 * i, 0, 16, 0⟩
/-- TIME_SERVO_LIM — TIME + 0x003C, [7:0] RW H. -/
def TIME_SERVO_LIM_MAX_PPM : Fld := ⟨0x4012003C, 0, 8, 50⟩
/-- TIME_LOCK_CFG — TIME + 0x0040, [31:16] RW H. -/
def TIME_LOCK_CFG_HOLDOVER_S : Fld := ⟨0x40120040, 16, 16, 60⟩
/-- TIME_LOCK_CFG — TIME + 0x0040, [15:0] RW H. -/
def TIME_LOCK_CFG_LOCK_NS : Fld := ⟨0x40120040, 0, 16, 50⟩
/-- TIME_TB0_CMD — TIME + 0x0044, [31:16] WO L. -/
def TIME_TB0_CMD_KEY : Fld := ⟨0x40120044, 16, 16, 0⟩
/-- TIME_TB0_CMD — TIME + 0x0044, [1:0] WO L. -/
def TIME_TB0_CMD_OP : Fld := ⟨0x40120044, 0, 2, 0⟩
/-- TIME_TB0_SET_NS — TIME + 0x0048, [31:0] RW L. -/
def TIME_TB0_SET_NS_VALUE : Fld := ⟨0x40120048, 0, 32, 0⟩
/-- TIME_TB0_SET_S_LO — TIME + 0x004C, [31:0] RW L. -/
def TIME_TB0_SET_S_LO_VALUE : Fld := ⟨0x4012004C, 0, 32, 0⟩
/-- TIME_TB0_SET_S_HI — TIME + 0x0050, [31:0] RW L. -/
def TIME_TB0_SET_S_HI_VALUE : Fld := ⟨0x40120050, 0, 32, 0⟩
/-- TIME_TB1_CYCLE — TIME + 0x0060, [31:0] RO/V L. -/
def TIME_TB1_CYCLE_COUNT : Fld := ⟨0x40120060, 0, 32, 0⟩
/-- TIME_TB1_STAT — TIME + 0x0064, [31:16] RO/V L. -/
def TIME_TB1_STAT_PHASE : Fld := ⟨0x40120064, 16, 16, 0⟩
/-- TIME_TB1_STAT — TIME + 0x0064, [15:14] RO/V L. -/
def TIME_TB1_STAT_SOURCE : Fld := ⟨0x40120064, 14, 2, 0⟩
/-- TIME_TB1_STAT — TIME + 0x0064, [13] RO/V L. -/
def TIME_TB1_STAT_LOCKED : Fld := ⟨0x40120064, 13, 1, 0⟩
/-- TIME_TB1_STAT — TIME + 0x0064, [12] RO/V L. -/
def TIME_TB1_STAT_HOLDOVER : Fld := ⟨0x40120064, 12, 1, 1⟩
/-- TIME_TB1_FREQ — TIME + 0x0068, [15:0] RO/V L. -/
def TIME_TB1_FREQ_MHZ : Fld := ⟨0x40120068, 0, 16, 0⟩
/-- TIME_TB2_STAT — TIME + 0x0070, [31] RO/V L. -/
def TIME_TB2_STAT_SLEW : Fld := ⟨0x40120070, 31, 1, 0⟩
/-- TIME_TB2_STAT — TIME + 0x0070, [19:0] RO/V L. -/
def TIME_TB2_STAT_ALIGN_US : Fld := ⟨0x40120070, 0, 20, 0⟩
/-- TIME_TB3_LO — TIME + 0x0078, [31:0] RO/V L. -/
def TIME_TB3_LO_US : Fld := ⟨0x40120078, 0, 32, 0⟩
/-- TIME_TB3_HI — TIME + 0x007C, [31:0] RO/V L. -/
def TIME_TB3_HI_US : Fld := ⟨0x4012007C, 0, 32, 0⟩
/-- TIME_PTP_CFG — TIME + 0x0080, [31] RW H. -/
def TIME_PTP_CFG_EN : Fld := ⟨0x40120080, 31, 1, 0⟩
/-- TIME_PTP_CFG — TIME + 0x0080, [30] RW H. -/
def TIME_PTP_CFG_LOCAL_GM : Fld := ⟨0x40120080, 30, 1, 0⟩
/-- TIME_PTP_CFG — TIME + 0x0080, [26:24] RW H. -/
def TIME_PTP_CFG_LOG_DREQ : Fld := ⟨0x40120080, 24, 3, 4⟩
/-- TIME_PTP_CFG — TIME + 0x0080, [15:8] RW S. -/
def TIME_PTP_CFG_DOMAIN : Fld := ⟨0x40120080, 8, 8, 0⟩
/-- TIME_PTP_STAT — TIME + 0x0084, [31:24] RO/V L. -/
def TIME_PTP_STAT_GM_CLASS : Fld := ⟨0x40120084, 24, 8, 0⟩
/-- TIME_PTP_STAT — TIME + 0x0084, [7:5] RO/V L. -/
def TIME_PTP_STAT_SLAVE_PORT : Fld := ⟨0x40120084, 5, 3, 7⟩
/-- TIME_PTP_STAT — TIME + 0x0084, [4] RO/V L. -/
def TIME_PTP_STAT_BC : Fld := ⟨0x40120084, 4, 1, 0⟩
/-- TIME_PTP_STAT — TIME + 0x0084, [3:0] RO/V L. -/
def TIME_PTP_STAT_STATE : Fld := ⟨0x40120084, 0, 4, 1⟩
/-- TIME_PTP_GM_LO — TIME + 0x0088, [31:0] RO/V L. -/
def TIME_PTP_GM_LO_ID : Fld := ⟨0x40120088, 0, 32, 0⟩
/-- TIME_PTP_GM_HI — TIME + 0x008C, [31:0] RO/V L. -/
def TIME_PTP_GM_HI_ID : Fld := ⟨0x4012008C, 0, 32, 0⟩
/-- TIME_PTP_UTC — TIME + 0x0090, [18] RO/V L. -/
def TIME_PTP_UTC_VALID : Fld := ⟨0x40120090, 18, 1, 0⟩
/-- TIME_PTP_UTC — TIME + 0x0090, [17] RO/V L. -/
def TIME_PTP_UTC_LEAP61 : Fld := ⟨0x40120090, 17, 1, 0⟩
/-- TIME_PTP_UTC — TIME + 0x0090, [16] RO/V L. -/
def TIME_PTP_UTC_LEAP59 : Fld := ⟨0x40120090, 16, 1, 0⟩
/-- TIME_PTP_UTC — TIME + 0x0090, [15:0] RO/V L. -/
def TIME_PTP_UTC_OFFSET_S : Fld := ⟨0x40120090, 0, 16, 0⟩
/-- TIME_PTP_DELAY — TIME + 0x0094, [31:0] RO/V L. -/
def TIME_PTP_DELAY_NS : Fld := ⟨0x40120094, 0, 32, 0⟩
/-- TIME_PORT_ASYM[n] — TIME + 0x00A0 + 4 × n, n = 0 to 4, [31:0] RW H. -/
def TIME_PORT_ASYM_PS (i : Nat) : Fld := ⟨0x401200A0 + 4 * i, 0, 32, 0⟩
/-- TIME_PTP_CNT[n] — TIME + 0x0100 + 4 × n, n = 0 to 7, [31:0] RO/V L. -/
def TIME_PTP_CNT_COUNT (i : Nat) : Fld := ⟨0x40120100 + 4 * i, 0, 32, 0⟩
/-- RTC_TIME_LO — RTC + 0x0000, [31:16] RW L. -/
def RTC_TIME_LO_SEC : Fld := ⟨0x40130000, 16, 16, 0⟩
/-- RTC_TIME_LO — RTC + 0x0000, [15:0] RW L. -/
def RTC_TIME_LO_FRAC : Fld := ⟨0x40130000, 0, 16, 0⟩
/-- RTC_TIME_HI — RTC + 0x0004, [31:0] RW L. -/
def RTC_TIME_HI_SEC : Fld := ⟨0x40130004, 0, 32, 0⟩
/-- RTC_CTRL — RTC + 0x0008, [0] RW L. -/
def RTC_CTRL_HALT : Fld := ⟨0x40130008, 0, 1, 0⟩
/-- RTC_STAT — RTC + 0x000C, [31:16] RO/V L. -/
def RTC_STAT_PENDING : Fld := ⟨0x4013000C, 16, 16, 0⟩
/-- RTC_STAT — RTC + 0x000C, [1] W1C L. -/
def RTC_STAT_HALT_TIMEOUT : Fld := ⟨0x4013000C, 1, 1, 0⟩
/-- RTC_STAT — RTC + 0x000C, [0] RO/V L. -/
def RTC_STAT_OSF : Fld := ⟨0x4013000C, 0, 1, 0⟩
/-- RTC_TRIM — RTC + 0x0010, [13:0] RW L. -/
def RTC_TRIM_TRIM : Fld := ⟨0x40130010, 0, 14, 0⟩
/-- RTC_VBAT — RTC + 0x0014, [15:0] RO/V L. -/
def RTC_VBAT_MV : Fld := ⟨0x40130014, 0, 16, 0⟩
/-- RTC_CNT — RTC + 0x0018, [31:16] RO/V L. -/
def RTC_CNT_SETS : Fld := ⟨0x40130018, 16, 16, 0⟩
/-- RTC_CNT — RTC + 0x0018, [15:0] RO/V L. -/
def RTC_CNT_STOPS : Fld := ⟨0x40130018, 0, 16, 0⟩
/-- MOVER_CTRL — MOVER + 0x0000, [0] RW L. -/
def MOVER_CTRL_EN : Fld := ⟨0x40050000, 0, 1, 1⟩
/-- MOVER_ERR — MOVER + 0x0004, [3] W1C L. -/
def MOVER_ERR_BUS : Fld := ⟨0x40050004, 3, 1, 0⟩
/-- MOVER_ERR — MOVER + 0x0004, [2] W1C L. -/
def MOVER_ERR_LOOP : Fld := ⟨0x40050004, 2, 1, 0⟩
/-- MOVER_ERR — MOVER + 0x0004, [1] W1C L. -/
def MOVER_ERR_FETCH : Fld := ⟨0x40050004, 1, 1, 0⟩
/-- MOVER_ERR — MOVER + 0x0004, [0] W1C L. -/
def MOVER_ERR_ALIGN : Fld := ⟨0x40050004, 0, 1, 0⟩
/-- MOVER_QWATCH[n] — MOVER + 0x0010 + 4 × n, n = 0 to 3, [31] RW H. -/
def MOVER_QWATCH_EN (i : Nat) : Fld := ⟨0x40050010 + 4 * i, 31, 1, 0⟩
/-- MOVER_QWATCH[n] — MOVER + 0x0010 + 4 × n, n = 0 to 3, [19:0] RW H. -/
def MOVER_QWATCH_QUEUE (i : Nat) : Fld := ⟨0x40050010 + 4 * i, 0, 20, 0⟩
/-- MOVER_CH_HEAD_LO[n] — MOVER + 0x0100 + 32 × n, n = 0 to 31, [31:0] RW L. -/
def MOVER_CH_HEAD_LO_ADDR (i : Nat) : Fld := ⟨0x40050100 + 32 * i, 0, 32, 0⟩
/-- MOVER_CH_HEAD_HI[n] — MOVER + 0x0104 + 32 × n, n = 0 to 31, [7:0] RW L. -/
def MOVER_CH_HEAD_HI_ADDR (i : Nat) : Fld := ⟨0x40050104 + 32 * i, 0, 8, 0⟩
/-- MOVER_CH_CTRL[n] — MOVER + 0x0108 + 32 × n, n = 0 to 31, [31:28] WO L. -/
def MOVER_CH_CTRL_OP (i : Nat) : Fld := ⟨0x40050108 + 32 * i, 28, 4, 0⟩
/-- MOVER_CH_STAT[n] — MOVER + 0x010C + 32 × n, n = 0 to 31, [31:16] RO/V L. -/
def MOVER_CH_STAT_SEQ (i : Nat) : Fld := ⟨0x4005010C + 32 * i, 16, 16, 0⟩
/-- MOVER_CH_STAT[n] — MOVER + 0x010C + 32 × n, n = 0 to 31, [15:8] RO/V L. -/
def MOVER_CH_STAT_HALT_STATUS (i : Nat) : Fld := ⟨0x4005010C + 32 * i, 8, 8, 0⟩
/-- MOVER_CH_STAT[n] — MOVER + 0x010C + 32 × n, n = 0 to 31, [5] W1C L. -/
def MOVER_CH_STAT_REQ_OVF (i : Nat) : Fld := ⟨0x4005010C + 32 * i, 5, 1, 0⟩
/-- MOVER_CH_STAT[n] — MOVER + 0x010C + 32 × n, n = 0 to 31, [4] W1C L. -/
def MOVER_CH_STAT_EVT (i : Nat) : Fld := ⟨0x4005010C + 32 * i, 4, 1, 0⟩
/-- MOVER_CH_STAT[n] — MOVER + 0x010C + 32 × n, n = 0 to 31, [3] W1C L. -/
def MOVER_CH_STAT_BAD_SEEN (i : Nat) : Fld := ⟨0x4005010C + 32 * i, 3, 1, 0⟩
/-- MOVER_CH_STAT[n] — MOVER + 0x010C + 32 × n, n = 0 to 31, [1:0] RO/V L. -/
def MOVER_CH_STAT_STATE (i : Nat) : Fld := ⟨0x4005010C + 32 * i, 0, 2, 0⟩
/-- MOVER_CH_CUR_LO[n] — MOVER + 0x0110 + 32 × n, n = 0 to 31, [31:0] RO/V L. -/
def MOVER_CH_CUR_LO_ADDR (i : Nat) : Fld := ⟨0x40050110 + 32 * i, 0, 32, 0⟩
/-- MOVER_CH_CUR_HI[n] — MOVER + 0x0114 + 32 × n, n = 0 to 31, [31:0] RO/V L. -/
def MOVER_CH_CUR_HI_ADDR (i : Nat) : Fld := ⟨0x40050114 + 32 * i, 0, 32, 0⟩
/-- MOVER_CH_LIMIT[n] — MOVER + 0x0118 + 32 × n, n = 0 to 31, [31:16] RO/V L. -/
def MOVER_CH_LIMIT_PENDING (i : Nat) : Fld := ⟨0x40050118 + 32 * i, 16, 16, 0⟩
/-- MOVER_CH_LIMIT[n] — MOVER + 0x0118 + 32 × n, n = 0 to 31, [15:0] RW H. -/
def MOVER_CH_LIMIT_LIMIT (i : Nat) : Fld := ⟨0x40050118 + 32 * i, 0, 16, 4096⟩
/-- MOVER_CH_COUNT[n] — MOVER + 0x011C + 32 × n, n = 0 to 31, [31:16] RO/V L. -/
def MOVER_CH_COUNT_BAD (i : Nat) : Fld := ⟨0x4005011C + 32 * i, 16, 16, 0⟩
/-- MOVER_CH_COUNT[n] — MOVER + 0x011C + 32 × n, n = 0 to 31, [15:0] RO/V L. -/
def MOVER_CH_COUNT_FETCHED (i : Nat) : Fld := ⟨0x4005011C + 32 * i, 0, 16, 0⟩
/-- PWR_DOM_STATE[n] — PWR + 0x0000 + 4 × n, n = 0 to 49, [15:8] RO/V L. -/
def PWR_DOM_STATE_LAST_STATUS (i : Nat) : Fld := ⟨0x40010000 + 4 * i, 8, 8, 0⟩
/-- PWR_DOM_STATE[n] — PWR + 0x0000 + 4 × n, n = 0 to 49, [7] RO/V L. -/
def PWR_DOM_STATE_FAULT (i : Nat) : Fld := ⟨0x40010000 + 4 * i, 7, 1, 0⟩
/-- PWR_DOM_STATE[n] — PWR + 0x0000 + 4 × n, n = 0 to 49, [6] RO/V L. -/
def PWR_DOM_STATE_PEND_VALID (i : Nat) : Fld := ⟨0x40010000 + 4 * i, 6, 1, 0⟩
/-- PWR_DOM_STATE[n] — PWR + 0x0000 + 4 × n, n = 0 to 49, [5:4] RO/V L. -/
def PWR_DOM_STATE_PENDING (i : Nat) : Fld := ⟨0x40010000 + 4 * i, 4, 2, 0⟩
/-- PWR_DOM_STATE[n] — PWR + 0x0000 + 4 × n, n = 0 to 49, [3:2] RO/V L. -/
def PWR_DOM_STATE_TARGET (i : Nat) : Fld := ⟨0x40010000 + 4 * i, 2, 2, 0⟩
/-- PWR_DOM_STATE[n] — PWR + 0x0000 + 4 × n, n = 0 to 49, [1:0] RO/V L. -/
def PWR_DOM_STATE_STATE (i : Nat) : Fld := ⟨0x40010000 + 4 * i, 0, 2, 0⟩
/-- PWR_DOM_REQ[n] — PWR + 0x0100 + 4 × n, n = 0 to 49, [1:0] WO L. -/
def PWR_DOM_REQ_STATE (i : Nat) : Fld := ⟨0x40010100 + 4 * i, 0, 2, 0⟩
/-- PWR_DOM_CFG[n] — PWR + 0x0200 + 4 × n, n = 0 to 49, [3:2] RW H. -/
def PWR_DOM_CFG_PLAN_RED (i : Nat) : Fld := ⟨0x40010200 + 4 * i, 2, 2, 0⟩
/-- PWR_DOM_CFG[n] — PWR + 0x0200 + 4 × n, n = 0 to 49, [1:0] RW H. -/
def PWR_DOM_CFG_PLAN_FULL (i : Nat) : Fld := ⟨0x40010200 + 4 * i, 0, 2, 0⟩
/-- PWR_MODE — PWR + 0x0400, [2:0] RO/V L. -/
def PWR_MODE_MODE : Fld := ⟨0x40010400, 0, 3, 0⟩
/-- PWR_CMD — PWR + 0x0404, [31:16] WO L. -/
def PWR_CMD_KEY : Fld := ⟨0x40010404, 16, 16, 0⟩
/-- PWR_CMD — PWR + 0x0404, [1:0] WO L. -/
def PWR_CMD_OP : Fld := ⟨0x40010404, 0, 2, 0⟩
/-- PWR_AUTO — PWR + 0x0408, [31] RW L. -/
def PWR_AUTO_EN : Fld := ⟨0x40010408, 31, 1, 0⟩
/-- PWR_AUTO — PWR + 0x0408, [20:16] RW L. -/
def PWR_AUTO_DI : Fld := ⟨0x40010408, 16, 5, 0⟩
/-- PWR_AUTO — PWR + 0x0408, [15:8] RW L. -/
def PWR_AUTO_LEAVE_S : Fld := ⟨0x40010408, 8, 8, 60⟩
/-- PWR_AUTO — PWR + 0x0408, [7:0] RW L. -/
def PWR_AUTO_ENTER_S : Fld := ⟨0x40010408, 0, 8, 5⟩
/-- PWR_ALARM_LO — PWR + 0x040C, [31:0] RW L. -/
def PWR_ALARM_LO_ALARM : Fld := ⟨0x4001040C, 0, 32, 0⟩
/-- PWR_ALARM_HI — PWR + 0x0410, [15:0] RW L. -/
def PWR_ALARM_HI_ALARM : Fld := ⟨0x40010410, 0, 16, 0⟩
/-- PWR_WAKE_CNT — PWR + 0x0414, [31:16] RO/V L. -/
def PWR_WAKE_CNT_EDGE_IN : Fld := ⟨0x40010414, 16, 16, 0⟩
/-- PWR_WAKE_CNT — PWR + 0x0414, [15:0] RO/V L. -/
def PWR_WAKE_CNT_EDGE_TAKEN : Fld := ⟨0x40010414, 0, 16, 0⟩
/-- PWR_PSC_CNT — PWR + 0x0418, [31:16] RO/V L. -/
def PWR_PSC_CNT_SUPERSEDED : Fld := ⟨0x40010418, 16, 16, 0⟩
/-- PWR_PSC_CNT — PWR + 0x0418, [15:0] RO/V L. -/
def PWR_PSC_CNT_REFUSED : Fld := ⟨0x40010418, 0, 16, 0⟩
/-- PWR_ISLAND_STAT — PWR + 0x041C, [1] RO/V L. -/
def PWR_ISLAND_STAT_VBAT_LOW : Fld := ⟨0x4001041C, 1, 1, 0⟩
/-- PWR_ISLAND_STAT — PWR + 0x041C, [0] RO/V L. -/
def PWR_ISLAND_STAT_ON_CELL : Fld := ⟨0x4001041C, 0, 1, 0⟩
/-- PWR_OPSEC_LO — PWR + 0x0420, [31:0] RO/V L. -/
def PWR_OPSEC_LO_SEC : Fld := ⟨0x40010420, 0, 32, 0⟩
/-- PWR_OPSEC_HI — PWR + 0x0424, [7:0] RO/V L. -/
def PWR_OPSEC_HI_SEC : Fld := ⟨0x40010424, 0, 8, 0⟩
/-- PWR_CYCLES — PWR + 0x0428, [31:0] RO/V L. -/
def PWR_CYCLES_COUNT : Fld := ⟨0x40010428, 0, 32, 0⟩
/-- TUNE_CTRL — TUNE + 0x0000, [31:16] RO/V L. -/
def TUNE_CTRL_ALARMS : Fld := ⟨0x40020000, 16, 16, 0⟩
/-- TUNE_CTRL — TUNE + 0x0000, [0] RW L. -/
def TUNE_CTRL_EN : Fld := ⟨0x40020000, 0, 1, 1⟩
/-- TUNE_CFG — TUNE + 0x0004, [31:24] RW H. -/
def TUNE_CFG_GUARD_HI_PS : Fld := ⟨0x40020004, 24, 8, 60⟩
/-- TUNE_CFG — TUNE + 0x0004, [23:16] RW H. -/
def TUNE_CFG_GUARD_LO_PS : Fld := ⟨0x40020004, 16, 8, 25⟩
/-- TUNE_CFG — TUNE + 0x0004, [15:0] RW H. -/
def TUNE_CFG_MEAS_MS : Fld := ⟨0x40020004, 0, 16, 100⟩
/-- TUNE_TAP_CFG — TUNE + 0x0008, [15:8] RW H. -/
def TUNE_TAP_CFG_TAP_HI_PS : Fld := ⟨0x40020008, 8, 8, 40⟩
/-- TUNE_TAP_CFG — TUNE + 0x0008, [7:0] RW H. -/
def TUNE_TAP_CFG_TAP_LO_PS : Fld := ⟨0x40020008, 0, 8, 15⟩
/-- TUNE_DOM_PLAN[n] — TUNE + 0x0100 + 4 × n, n = 0 to 49, [31:16] RO L. -/
def TUNE_DOM_PLAN_FLOOR_PS (i : Nat) : Fld := ⟨0x40020100 + 4 * i, 16, 16, (floorPsOf i)⟩
/-- TUNE_DOM_PLAN[n] — TUNE + 0x0100 + 4 × n, n = 0 to 49, [13:8] RO/V L. -/
def TUNE_DOM_PLAN_TAPS (i : Nat) : Fld := ⟨0x40020100 + 4 * i, 8, 6, 63⟩
/-- TUNE_DOM_PLAN[n] — TUNE + 0x0100 + 4 × n, n = 0 to 49, [7:0] RO/V L. -/
def TUNE_DOM_PLAN_SUPPLY (i : Nat) : Fld := ⟨0x40020100 + 4 * i, 0, 8, 160⟩
/-- TUNE_DOM_SLACK[n] — TUNE + 0x0200 + 4 × n, n = 0 to 49, [31:16] RO/V L. -/
def TUNE_DOM_SLACK_FLOOR (i : Nat) : Fld := ⟨0x40020200 + 4 * i, 16, 16, 32768⟩
/-- TUNE_DOM_SLACK[n] — TUNE + 0x0200 + 4 × n, n = 0 to 49, [15:0] RO/V L. -/
def TUNE_DOM_SLACK_TIMING (i : Nat) : Fld := ⟨0x40020200 + 4 * i, 0, 16, 32768⟩
/-- TUNE_DOM_STAT[n] — TUNE + 0x0300 + 4 × n, n = 0 to 49, [31:16] RO/V L. -/
def TUNE_DOM_STAT_FORECAST_D (i : Nat) : Fld := ⟨0x40020300 + 4 * i, 16, 16, 65535⟩
/-- TUNE_DOM_STAT[n] — TUNE + 0x0300 + 4 × n, n = 0 to 49, [15:8] RO/V L. -/
def TUNE_DOM_STAT_AGE_PS (i : Nat) : Fld := ⟨0x40020300 + 4 * i, 8, 8, 0⟩
/-- TUNE_DOM_STAT[n] — TUNE + 0x0300 + 4 × n, n = 0 to 49, [4] RO/V L. -/
def TUNE_DOM_STAT_WARN (i : Nat) : Fld := ⟨0x40020300 + 4 * i, 4, 1, 0⟩
/-- TUNE_DOM_STAT[n] — TUNE + 0x0300 + 4 × n, n = 0 to 49, [3] RO/V L. -/
def TUNE_DOM_STAT_FLOOR_ALARM (i : Nat) : Fld := ⟨0x40020300 + 4 * i, 3, 1, 0⟩
/-- TUNE_DOM_STAT[n] — TUNE + 0x0300 + 4 × n, n = 0 to 49, [2] RO/V L. -/
def TUNE_DOM_STAT_TIMING_ALARM (i : Nat) : Fld := ⟨0x40020300 + 4 * i, 2, 1, 0⟩
/-- TUNE_DOM_STAT[n] — TUNE + 0x0300 + 4 × n, n = 0 to 49, [1] RO/V L. -/
def TUNE_DOM_STAT_REPLANNING (i : Nat) : Fld := ⟨0x40020300 + 4 * i, 1, 1, 0⟩
/-- TUNE_DOM_STAT[n] — TUNE + 0x0300 + 4 × n, n = 0 to 49, [0] RO L. -/
def TUNE_DOM_STAT_HAS_FLOOR (i : Nat) : Fld := ⟨0x40020300 + 4 * i, 0, 1, (hasFloorOf i)⟩
/-- KEY_LC — KEY + 0x0000, [9:8] RO/V L. -/
def KEY_LC_REFURB : Fld := ⟨0x40140000, 8, 2, 0⟩
/-- KEY_LC — KEY + 0x0000, [6] RO/V L. -/
def KEY_LC_TEST_ROOT : Fld := ⟨0x40140000, 6, 1, 0⟩
/-- KEY_LC — KEY + 0x0000, [5] RO/V L. -/
def KEY_LC_ROOT_PRESENT : Fld := ⟨0x40140000, 5, 1, 0⟩
/-- KEY_LC — KEY + 0x0000, [4] RO/V L. -/
def KEY_LC_DEBUG_OPEN : Fld := ⟨0x40140000, 4, 1, 0⟩
/-- KEY_LC — KEY + 0x0000, [2:0] RO/V L. -/
def KEY_LC_STATE : Fld := ⟨0x40140000, 0, 3, 0⟩
/-- KEY_CMD — KEY + 0x0004, [31:16] WO L. -/
def KEY_CMD_KEY : Fld := ⟨0x40140004, 16, 16, 0⟩
/-- KEY_CMD — KEY + 0x0004, [13:8] WO L. -/
def KEY_CMD_ARG : Fld := ⟨0x40140004, 8, 6, 0⟩
/-- KEY_CMD — KEY + 0x0004, [3:0] WO L. -/
def KEY_CMD_OP : Fld := ⟨0x40140004, 0, 4, 0⟩
/-- KEY_CMD_STAT — KEY + 0x0008, [15:8] RO/V L. -/
def KEY_CMD_STAT_STATUS : Fld := ⟨0x40140008, 8, 8, 0⟩
/-- KEY_CMD_STAT — KEY + 0x0008, [3:0] RO/V L. -/
def KEY_CMD_STAT_OP : Fld := ⟨0x40140008, 0, 4, 0⟩
/-- KEY_TAMPER — KEY + 0x000C, [3] W1C L. -/
def KEY_TAMPER_ZEROISED : Fld := ⟨0x4014000C, 3, 1, 0⟩
/-- KEY_TAMPER — KEY + 0x000C, [2] W1C L. -/
def KEY_TAMPER_DOOR : Fld := ⟨0x4014000C, 2, 1, 0⟩
/-- KEY_TAMPER — KEY + 0x000C, [1] W1C L. -/
def KEY_TAMPER_MESH : Fld := ⟨0x4014000C, 1, 1, 0⟩
/-- KEY_TAMPER — KEY + 0x000C, [0] W1C L. -/
def KEY_TAMPER_LID : Fld := ⟨0x4014000C, 0, 1, 0⟩
/-- KEY_TAMPER_CFG — KEY + 0x0010, [0] RW L. -/
def KEY_TAMPER_CFG_DOOR_ACTION : Fld := ⟨0x40140010, 0, 1, 0⟩
/-- KEY_TAMPER_CNT — KEY + 0x0014, [31:24] RO/V L. -/
def KEY_TAMPER_CNT_ZEROISE : Fld := ⟨0x40140014, 24, 8, 0⟩
/-- KEY_TAMPER_CNT — KEY + 0x0014, [23:16] RO/V L. -/
def KEY_TAMPER_CNT_DOOR : Fld := ⟨0x40140014, 16, 8, 0⟩
/-- KEY_TAMPER_CNT — KEY + 0x0014, [15:8] RO/V L. -/
def KEY_TAMPER_CNT_MESH : Fld := ⟨0x40140014, 8, 8, 0⟩
/-- KEY_TAMPER_CNT — KEY + 0x0014, [7:0] RO/V L. -/
def KEY_TAMPER_CNT_LID : Fld := ⟨0x40140014, 0, 8, 0⟩
/-- KEY_STAGE_PTR — KEY + 0x0018, [9:0] RW L. -/
def KEY_STAGE_PTR_OFFSET : Fld := ⟨0x40140018, 0, 10, 0⟩
/-- KEY_STAGE_DATA — KEY + 0x001C, [31:0] WO L. -/
def KEY_STAGE_DATA_DATA : Fld := ⟨0x4014001C, 0, 32, 0⟩
/-- KEY_CNT[n] — KEY + 0x0020 + 4 × n, n = 0 to 3, [31:0] RO/V L. -/
def KEY_CNT_COUNT (i : Nat) : Fld := ⟨0x40140020 + 4 * i, 0, 32, 0⟩
/-- KEY_CHAL[n] — KEY + 0x0040 + 4 × n, n = 0 to 7, [31:0] RO/V L. -/
def KEY_CHAL_NONCE (i : Nat) : Fld := ⟨0x40140040 + 4 * i, 0, 32, 0⟩
/-- KEY_ANCHOR_STAT[n] — KEY + 0x0060 + 4 × n, n = 0 to 7, [23:16] RO/V L. -/
def KEY_ANCHOR_STAT_USE (i : Nat) : Fld := ⟨0x40140060 + 4 * i, 16, 8, 0⟩
/-- KEY_ANCHOR_STAT[n] — KEY + 0x0060 + 4 × n, n = 0 to 7, [15:0] RO/V L. -/
def KEY_ANCHOR_STAT_ID (i : Nat) : Fld := ⟨0x40140060 + 4 * i, 0, 16, 0⟩
/-- KEY_SLOT_CFG[n] — KEY + 0x0100 + 4 × n, n = 0 to 63, [31:16] RW L. -/
def KEY_SLOT_CFG_CTX (i : Nat) : Fld := ⟨0x40140100 + 4 * i, 16, 16, 0⟩
/-- KEY_SLOT_CFG[n] — KEY + 0x0100 + 4 × n, n = 0 to 63, [13:8] RW L. -/
def KEY_SLOT_CFG_NEXT (i : Nat) : Fld := ⟨0x40140100 + 4 * i, 8, 6, 0⟩
/-- KEY_SLOT_CFG[n] — KEY + 0x0100 + 4 × n, n = 0 to 63, [3:0] RW L. -/
def KEY_SLOT_CFG_KIND (i : Nat) : Fld := ⟨0x40140100 + 4 * i, 0, 4, 0⟩
/-- KEY_SLOT_STAT[n] — KEY + 0x0200 + 4 × n, n = 0 to 63, [31:16] RO/V L. -/
def KEY_SLOT_STAT_GEN (i : Nat) : Fld := ⟨0x40140200 + 4 * i, 16, 16, 0⟩
/-- KEY_SLOT_STAT[n] — KEY + 0x0200 + 4 × n, n = 0 to 63, [1:0] RO/V L. -/
def KEY_SLOT_STAT_STATE (i : Nat) : Fld := ⟨0x40140200 + 4 * i, 0, 2, 0⟩
/-- RESTR_SLOT_STAT[n] — RESTR + 0x0000 + 4 × n, n = 0 to 1, [31:16] RO/V L. -/
def RESTR_SLOT_STAT_GEN (i : Nat) : Fld := ⟨0x40150000 + 4 * i, 16, 16, 0⟩
/-- RESTR_SLOT_STAT[n] — RESTR + 0x0000 + 4 × n, n = 0 to 1, [5] RO/V L. -/
def RESTR_SLOT_STAT_TRIED (i : Nat) : Fld := ⟨0x40150000 + 4 * i, 5, 1, 0⟩
/-- RESTR_SLOT_STAT[n] — RESTR + 0x0000 + 4 × n, n = 0 to 1, [4] RO/V L. -/
def RESTR_SLOT_STAT_RUNNING (i : Nat) : Fld := ⟨0x40150000 + 4 * i, 4, 1, 0⟩
/-- RESTR_SLOT_STAT[n] — RESTR + 0x0000 + 4 × n, n = 0 to 1, [3:0] RO/V L. -/
def RESTR_SLOT_STAT_STATE (i : Nat) : Fld := ⟨0x40150000 + 4 * i, 0, 4, 0⟩
/-- RESTR_SLOT_ID[n] — RESTR + 0x0008 + 4 × n, n = 0 to 1, [31:0] RO/V L. -/
def RESTR_SLOT_ID_IMAGE_ID (i : Nat) : Fld := ⟨0x40150008 + 4 * i, 0, 32, 0⟩
/-- RESTR_CMD — RESTR + 0x0010, [31:16] WO L. -/
def RESTR_CMD_KEY : Fld := ⟨0x40150010, 16, 16, 0⟩
/-- RESTR_CMD — RESTR + 0x0010, [3:0] WO L. -/
def RESTR_CMD_OP : Fld := ⟨0x40150010, 0, 4, 0⟩
/-- RESTR_CMD_STAT — RESTR + 0x0014, [15:8] RO/V L. -/
def RESTR_CMD_STAT_STATUS : Fld := ⟨0x40150014, 8, 8, 0⟩
/-- RESTR_CMD_STAT — RESTR + 0x0014, [3:0] RO/V L. -/
def RESTR_CMD_STAT_OP : Fld := ⟨0x40150014, 0, 4, 0⟩
/-- RESTR_ACT_TIME_LO — RESTR + 0x0018, [31:0] RW L. -/
def RESTR_ACT_TIME_LO_SEC : Fld := ⟨0x40150018, 0, 32, 0⟩
/-- RESTR_ACT_TIME_HI — RESTR + 0x001C, [31:0] RW L. -/
def RESTR_ACT_TIME_HI_SEC : Fld := ⟨0x4015001C, 0, 32, 0⟩
/-- RESTR_CONFIRM — RESTR + 0x0020, [26:16] RO/V L. -/
def RESTR_CONFIRM_LEFT_MIN : Fld := ⟨0x40150020, 16, 11, 0⟩
/-- RESTR_CONFIRM — RESTR + 0x0020, [10:0] RW L. -/
def RESTR_CONFIRM_CONFIRM_MIN : Fld := ⟨0x40150020, 0, 11, 60⟩
/-- RESTR_FALLBACK — RESTR + 0x0024, [31:24] RO/V L. -/
def RESTR_FALLBACK_COUNT : Fld := ⟨0x40150024, 24, 8, 0⟩
/-- RESTR_FALLBACK — RESTR + 0x0024, [3:0] RO/V L. -/
def RESTR_FALLBACK_REASON : Fld := ⟨0x40150024, 0, 4, 0⟩
/-- RESTR_FEED_CTRL — RESTR + 0x0028, [31:16] WO L. -/
def RESTR_FEED_CTRL_BLOCK : Fld := ⟨0x40150028, 16, 16, 0⟩
/-- RESTR_FEED_CTRL — RESTR + 0x0028, [4:0] WO L. -/
def RESTR_FEED_CTRL_TARGET : Fld := ⟨0x40150028, 0, 5, 0⟩
/-- RESTR_FEED_DATA — RESTR + 0x002C, [31:0] WO L. -/
def RESTR_FEED_DATA_DATA : Fld := ⟨0x4015002C, 0, 32, 0⟩
/-- RESTR_FEED_STAT — RESTR + 0x0030, [31:24] RO/V L. -/
def RESTR_FEED_STAT_STATUS : Fld := ⟨0x40150030, 24, 8, 0⟩
/-- RESTR_FEED_STAT — RESTR + 0x0030, [16:0] RO/V L. -/
def RESTR_FEED_STAT_OCTETS : Fld := ⟨0x40150030, 0, 17, 0⟩
/-- RESTR_NIMG_CMD — RESTR + 0x0034, [31:28] WO L. -/
def RESTR_NIMG_CMD_OP : Fld := ⟨0x40150034, 28, 4, 0⟩
/-- RESTR_NIMG_CMD — RESTR + 0x0034, [27:24] WO L. -/
def RESTR_NIMG_CMD_ENTRY : Fld := ⟨0x40150034, 24, 4, 0⟩
/-- RESTR_NIMG_CMD — RESTR + 0x0034, [13:0] WO L. -/
def RESTR_NIMG_CMD_TARGET : Fld := ⟨0x40150034, 0, 14, 0⟩
/-- RESTR_NIMG_SEL — RESTR + 0x0038, [3:0] RW L. -/
def RESTR_NIMG_SEL_ENTRY : Fld := ⟨0x40150038, 0, 4, 0⟩
/-- RESTR_NIMG_STAT — RESTR + 0x003C, [31:18] RO/V L. -/
def RESTR_NIMG_STAT_DONE : Fld := ⟨0x4015003C, 18, 14, 0⟩
/-- RESTR_NIMG_STAT — RESTR + 0x003C, [15:8] RO/V L. -/
def RESTR_NIMG_STAT_ROUND : Fld := ⟨0x4015003C, 8, 8, 0⟩
/-- RESTR_NIMG_STAT — RESTR + 0x003C, [3:0] RO/V L. -/
def RESTR_NIMG_STAT_STATE : Fld := ⟨0x4015003C, 0, 4, 0⟩
/-- RESTR_AUDIT_CTRL — RESTR + 0x0040, [31:16] RO/V L. -/
def RESTR_AUDIT_CTRL_SNAP_CNT : Fld := ⟨0x40150040, 16, 16, 0⟩
/-- RESTR_AUDIT_CTRL — RESTR + 0x0040, [12:8] RW L. -/
def RESTR_AUDIT_CTRL_TARGET : Fld := ⟨0x40150040, 8, 5, 0⟩
/-- RESTR_AUDIT_CTRL — RESTR + 0x0040, [0] WO L. -/
def RESTR_AUDIT_CTRL_SNAP : Fld := ⟨0x40150040, 0, 1, 0⟩
/-- RESTR_AUDIT[n] — RESTR + 0x0044 + 4 × n, n = 0 to 4, [31:0] RO/V L. -/
def RESTR_AUDIT_VALUE (i : Nat) : Fld := ⟨0x40150044 + 4 * i, 0, 32, 0⟩
/-- RESTR_BITMAP[n] — RESTR + 0x0100 + 4 × n, n = 0 to 63, [31:0] RO/V L. -/
def RESTR_BITMAP_VERIFIED (i : Nat) : Fld := ⟨0x40150100 + 4 * i, 0, 32, 0⟩
/-- REC_CTRL — REC + 0x0000, [31:28] WO L. -/
def REC_CTRL_OP : Fld := ⟨0x40160000, 28, 4, 0⟩
/-- REC_CTRL — REC + 0x0000, [3:0] WO L. -/
def REC_CTRL_BIND : Fld := ⟨0x40160000, 0, 4, 0⟩
/-- REC_STAT — REC + 0x0004, [2] RO/V L. -/
def REC_STAT_FULL : Fld := ⟨0x40160004, 2, 1, 0⟩
/-- REC_STAT — REC + 0x0004, [1] RO/V L. -/
def REC_STAT_LOW : Fld := ⟨0x40160004, 1, 1, 0⟩
/-- REC_STAT — REC + 0x0004, [0] RO/V L. -/
def REC_STAT_READY : Fld := ⟨0x40160004, 0, 1, 0⟩
/-- REC_SNAP_POS — REC + 0x0008, [31] RO/V L. -/
def REC_SNAP_POS_OPEN : Fld := ⟨0x40160008, 31, 1, 0⟩
/-- REC_SNAP_POS — REC + 0x0008, [18:3] RO/V L. -/
def REC_SNAP_POS_BLOCK : Fld := ⟨0x40160008, 3, 16, 0⟩
/-- REC_SNAP_POS — REC + 0x0008, [2:0] RO/V L. -/
def REC_SNAP_POS_SLOTS : Fld := ⟨0x40160008, 0, 3, 0⟩
/-- REC_SEQ — REC + 0x000C, [31:0] RO/V L. -/
def REC_SEQ_NEXT : Fld := ⟨0x4016000C, 0, 32, 0⟩
/-- REC_FREE — REC + 0x0010, [16:0] RO/V L. -/
def REC_FREE_BLOCKS : Fld := ⟨0x40160010, 0, 17, 0⟩
/-- REC_RESERVE — REC + 0x0014, [12:0] RW L. -/
def REC_RESERVE_BLOCKS : Fld := ⟨0x40160014, 0, 13, 256⟩
/-- REC_HOLDOFF — REC + 0x0018, [11:0] RW L. -/
def REC_HOLDOFF_S : Fld := ⟨0x40160018, 0, 12, 60⟩
/-- REC_SNAP_LIST — REC + 0x001C, [5:0] RO/V L. -/
def REC_SNAP_LIST_N_REGS : Fld := ⟨0x4016001C, 0, 6, 0⟩
/-- REC_FETCH — REC + 0x0020, [31] WO L. -/
def REC_FETCH_LIVE : Fld := ⟨0x40160020, 31, 1, 0⟩
/-- REC_FETCH — REC + 0x0020, [27:24] WO L. -/
def REC_FETCH_BIND : Fld := ⟨0x40160020, 24, 4, 0⟩
/-- REC_FETCH — REC + 0x0020, [18:0] WO L. -/
def REC_FETCH_UNIT : Fld := ⟨0x40160020, 0, 19, 0⟩
/-- REC_FETCH_STAT — REC + 0x0024, [31:24] RO/V L. -/
def REC_FETCH_STAT_STATUS : Fld := ⟨0x40160024, 24, 8, 0⟩
/-- REC_FETCH_STAT — REC + 0x0024, [20:19] RO/V L. -/
def REC_FETCH_STAT_KIND : Fld := ⟨0x40160024, 19, 2, 0⟩
/-- REC_FETCH_STAT — REC + 0x0024, [18:0] RO/V L. -/
def REC_FETCH_STAT_NEXT_UNIT : Fld := ⟨0x40160024, 0, 19, 0⟩
/-- REC_CNT[n] — REC + 0x0040 + 4 × n, n = 0 to 15, [31:0] RO/V L. -/
def REC_CNT_COUNT (i : Nat) : Fld := ⟨0x40160040 + 4 * i, 0, 32, 0⟩
/-- REC_BIND_CFG[n] — REC + 0x0100 + 4 × n, n = 0 to 15, [31] RW H. -/
def REC_BIND_CFG_EN (i : Nat) : Fld := ⟨0x40160100 + 4 * i, 31, 1, 0⟩
/-- REC_BIND_CFG[n] — REC + 0x0100 + 4 × n, n = 0 to 15, [30:29] RW H. -/
def REC_BIND_CFG_MODE (i : Nat) : Fld := ⟨0x40160100 + 4 * i, 29, 2, 0⟩
/-- REC_BIND_CFG[n] — REC + 0x0100 + 4 × n, n = 0 to 15, [28:16] RW H. -/
def REC_BIND_CFG_PERIOD_H (i : Nat) : Fld := ⟨0x40160100 + 4 * i, 16, 13, 0⟩
/-- REC_BIND_CFG[n] — REC + 0x0100 + 4 × n, n = 0 to 15, [15:0] RW H. -/
def REC_BIND_CFG_CODE (i : Nat) : Fld := ⟨0x40160100 + 4 * i, 0, 16, 0⟩
/-- REC_BIND_ARG[n] — REC + 0x0140 + 4 × n, n = 0 to 15, [31:20] RW H. -/
def REC_BIND_ARG_SAMPLE (i : Nat) : Fld := ⟨0x40160140 + 4 * i, 20, 12, 0⟩
/-- REC_BIND_ARG[n] — REC + 0x0140 + 4 × n, n = 0 to 15, [19:0] RW H. -/
def REC_BIND_ARG_ARG (i : Nat) : Fld := ⟨0x40160140 + 4 * i, 0, 20, 0⟩
/-- REC_BIND_LOW[n] — REC + 0x0180 + 4 × n, n = 0 to 15, [31:0] RW H. -/
def REC_BIND_LOW_LOW (i : Nat) : Fld := ⟨0x40160180 + 4 * i, 0, 32, 0⟩
/-- REC_BIND_BINS[n] — REC + 0x01C0 + 4 × n, n = 0 to 15, [31:16] RW H. -/
def REC_BIND_BINS_WIDTH (i : Nat) : Fld := ⟨0x401601C0 + 4 * i, 16, 16, 0⟩
/-- REC_BIND_BINS[n] — REC + 0x01C0 + 4 × n, n = 0 to 15, [15:0] RW H. -/
def REC_BIND_BINS_N_BINS (i : Nat) : Fld := ⟨0x401601C0 + 4 * i, 0, 16, 0⟩
/-- REC_BIND_STAT[n] — REC + 0x0200 + 4 × n, n = 0 to 15, [31:16] RO/V L. -/
def REC_BIND_STAT_PAGES (i : Nat) : Fld := ⟨0x40160200 + 4 * i, 16, 16, 0⟩
/-- REC_BIND_STAT[n] — REC + 0x0200 + 4 × n, n = 0 to 15, [2] RO/V L. -/
def REC_BIND_STAT_FALLBACK (i : Nat) : Fld := ⟨0x40160200 + 4 * i, 2, 1, 0⟩
/-- REC_BIND_STAT[n] — REC + 0x0200 + 4 × n, n = 0 to 15, [1] RO/V L. -/
def REC_BIND_STAT_SATURATED (i : Nat) : Fld := ⟨0x40160200 + 4 * i, 1, 1, 0⟩
/-- REC_BIND_STAT[n] — REC + 0x0200 + 4 × n, n = 0 to 15, [0] RO/V L. -/
def REC_BIND_STAT_LIVE (i : Nat) : Fld := ⟨0x40160200 + 4 * i, 0, 1, 0⟩
/-- LEDGER_SNAP — LEDGER + 0x0000, [6:0] WO L. -/
def LEDGER_SNAP_MASK : Fld := ⟨0x40170000, 0, 7, 0⟩
/-- LEDGER_SEL — LEDGER + 0x0004, [12:8] RW L. -/
def LEDGER_SEL_TARGET : Fld := ⟨0x40170004, 8, 5, 0⟩
/-- LEDGER_SEL — LEDGER + 0x0004, [6:0] RW L. -/
def LEDGER_SEL_Q : Fld := ⟨0x40170004, 0, 7, 0⟩
/-- LEDGER_RING_AT_LO — LEDGER + 0x0008, [31:0] RW L. -/
def LEDGER_RING_AT_LO_CYCLE : Fld := ⟨0x40170008, 0, 32, 0⟩
/-- LEDGER_RING_AT_HI — LEDGER + 0x000C, [31:0] RW L. -/
def LEDGER_RING_AT_HI_CYCLE : Fld := ⟨0x4017000C, 0, 32, 0⟩
/-- LEDGER_STAT — LEDGER + 0x0010, [22:16] RO/V L. -/
def LEDGER_STAT_BAL : Fld := ⟨0x40170010, 16, 7, 0⟩
/-- LEDGER_STAT — LEDGER + 0x0010, [14:8] W1C L. -/
def LEDGER_STAT_IMBAL : Fld := ⟨0x40170010, 8, 7, 0⟩
/-- LEDGER_STAT — LEDGER + 0x0010, [7] RO/V L. -/
def LEDGER_STAT_UNSYNC : Fld := ⟨0x40170010, 7, 1, 0⟩
/-- LEDGER_STAT — LEDGER + 0x0010, [6:0] RO/V L. -/
def LEDGER_STAT_DONE : Fld := ⟨0x40170010, 0, 7, 0⟩
/-- LEDGER_CHECK_CFG — LEDGER + 0x0014, [15:0] RW L. -/
def LEDGER_CHECK_CFG_CHECK_S : Fld := ⟨0x40170014, 0, 16, 60⟩
/-- LEDGER_IMBAL_CNT[n] — LEDGER + 0x0020 + 4 × n, n = 0 to 6, [31:0] RO/V L. -/
def LEDGER_IMBAL_CNT_COUNT (i : Nat) : Fld := ⟨0x40170020 + 4 * i, 0, 32, 0⟩
/-- LEDGER_TERM[n] — LEDGER + 0x0100 + 4 × n, n = 0 to 102, [31:0] RO/V L. -/
def LEDGER_TERM_WORD (i : Nat) : Fld := ⟨0x40170100 + 4 * i, 0, 32, 0⟩

end Sys2Proof.Machine.F
end

