-- ==== Sys2Proof/Machine/RegMap.lean ====
section
/-!
DEFINITION. Machine/RegMap.lean: the register map of spec/03 to spec/22 block by block: each row a register (or register
array) with its offset, its index strides and counts, and its fields with Access, Commit and Reset marks (R8, R9, R10), whether
the field is kept per requester, and the limit or the reserved encodings its table states (R12, R41).
-/
namespace Sys2Proof.Machine

/-- The four common registers of every block (R40). -/
def regsCommon : List RegDef := [
  ⟨"STATE", 0xFF00, [], [
    ⟨"RUN", 0, 1, .zero, .rov, .l, .num, false, .any⟩]⟩,
  ⟨"SHADOW", 0xFF04, [], [
    ⟨"COMMIT_CNT", 16, 16, .zero, .rov, .l, .num, false, .any⟩,
    ⟨"PENDING", 8, 1, .zero, .rov, .l, .num, false, .any⟩,
    ⟨"VIEW", 1, 1, .zero, .rw, .l, .num, true, .any⟩,
    ⟨"HOLD", 0, 1, .zero, .rw, .l, .num, false, .any⟩]⟩,
  ⟨"REJECT_LAST", 0xFF08, [], [
    ⟨"REASON", 16, 4, .zero, .rov, .l, .num, false, .any⟩,
    ⟨"OFFSET", 0, 16, .zero, .rov, .l, .num, false, .any⟩]⟩,
  ⟨"CFG_REJECT", 0xFF0C, [], [
    ⟨"COUNT", 0, 32, .zero, .rov, .l, .num, false, .any⟩]⟩]

/-- The registers of block SYS. -/
def regsSys : List RegDef := [
  ⟨"SYS_ID", 0x0000, [], [
    ⟨"PART", 16, 16, (.num 29718), .ro, .l, .num, false, .any⟩,
    ⟨"STEP", 0, 16, (.num 2), .ro, .l, .num, false, .any⟩]⟩,
  ⟨"SYS_COURSE_ROLE", 0x0040, [(4, 16)], [
    ⟨"ON", 8, 1, .zero, .rov, .l, .num, false, .any⟩,
    ⟨"ROLE", 0, 4, .zero, .rov, .l, .num, false, .any⟩]⟩,
  ⟨"SYS_PWR_LOGIC", 0x0080, [], [
    ⟨"TRIM_ACTIVE", 16, 1, .zero, .rov, .l, .num, false, .any⟩,
    ⟨"POWER", 0, 16, .zero, .rov, .l, .num, false, .any⟩]⟩,
  ⟨"SYS_START_STAT", 0x00C0, [], [
    ⟨"FW_SLOT", 20, 1, .zero, .rov, .l, .num, false, .any⟩,
    ⟨"PHASE", 0, 4, .zero, .rov, .l, .num, false, .any⟩]⟩,
  ⟨"SYS_START_TIME", 0x00C4, [], [
    ⟨"FULL_MS", 16, 16, .zero, .rov, .l, .num, false, .any⟩,
    ⟨"SURVIVAL_MS", 0, 16, .zero, .rov, .l, .num, false, .any⟩]⟩,
  ⟨"SYS_RESET_CAUSE", 0x00C8, [], [
    ⟨"FW_RESTARTS", 16, 8, .zero, .rov, .l, .num, false, .any⟩,
    ⟨"PREV", 8, 4, .zero, .rov, .l, .num, false, .any⟩,
    ⟨"CAUSE", 0, 4, .zero, .rov, .l, .num, false, .any⟩]⟩,
  ⟨"SYS_CONFIG_SRC", 0x00CC, [], [
    ⟨"FORMAT", 24, 8, .zero, .rov, .l, .num, false, .any⟩,
    ⟨"BANK1_STATE", 16, 4, .zero, .rov, .l, .num, false, .any⟩,
    ⟨"BANK0_STATE", 12, 4, .zero, .rov, .l, .num, false, .any⟩,
    ⟨"SEATED", 8, 1, .zero, .rov, .l, .num, false, .any⟩,
    ⟨"SOURCE", 0, 4, .zero, .rov, .l, .num, false, .any⟩]⟩,
  ⟨"SYS_CONFIG_SEQ", 0x00D0, [], [
    ⟨"SEQUENCE", 0, 32, .zero, .rov, .l, .num, false, .any⟩]⟩,
  ⟨"SYS_RESTART", 0x00D4, [], [
    ⟨"KEY", 16, 16, .zero, .wo, .l, .num, false, (.key 0xA5C3)⟩,
    ⟨"KIND", 0, 2, .zero, .wo, .l, .num, false, (.enc [1, 2])⟩]⟩,
  ⟨"SYS_WDOG", 0x00D8, [], [
    ⟨"KICK", 0, 16, .zero, .wo, .l, .num, false, .any⟩]⟩]

/-- The registers of block PWR. -/
def regsPwr : List RegDef := [
  ⟨"PWR_DOM_STATE", 0x0000, [(4, 50)], [
    ⟨"LAST_STATUS", 8, 8, .zero, .rov, .l, .num, false, .any⟩,
    ⟨"FAULT", 7, 1, .zero, .rov, .l, .num, false, .any⟩,
    ⟨"PEND_VALID", 6, 1, .zero, .rov, .l, .num, false, .any⟩,
    ⟨"PENDING", 4, 2, .zero, .rov, .l, .num, false, .any⟩,
    ⟨"TARGET", 2, 2, .zero, .rov, .l, .num, false, .any⟩,
    ⟨"STATE", 0, 2, .zero, .rov, .l, .num, false, .any⟩]⟩,
  ⟨"PWR_DOM_REQ", 0x0100, [(4, 50)], [
    ⟨"STATE", 0, 2, .zero, .wo, .l, .num, false, (.encMax 2)⟩]⟩,
  ⟨"PWR_DOM_CFG", 0x0200, [(4, 50)], [
    ⟨"PLAN_RED", 2, 2, .zero, .rw, .h, .p, false, (.encMax 2)⟩,
    ⟨"PLAN_FULL", 0, 2, .zero, .rw, .h, .p, false, (.encMax 2)⟩]⟩,
  ⟨"PWR_MODE", 0x0400, [], [
    ⟨"MODE", 0, 3, .zero, .rov, .l, .num, false, .any⟩]⟩,
  ⟨"PWR_CMD", 0x0404, [], [
    ⟨"KEY", 16, 16, .zero, .wo, .l, .num, false, (.key 0x6D2E)⟩,
    ⟨"OP", 0, 2, .zero, .wo, .l, .num, false, (.enc [1, 2, 3])⟩]⟩,
  ⟨"PWR_AUTO", 0x0408, [], [
    ⟨"EN", 31, 1, .zero, .rw, .l, .p, false, .any⟩,
    ⟨"DI", 16, 5, .zero, .rw, .l, .p, false, .any⟩,
    ⟨"LEAVE_S", 8, 8, (.num 60), .rw, .l, .num, false, (.range 1 255)⟩,
    ⟨"ENTER_S", 0, 8, (.num 5), .rw, .l, .num, false, (.range 1 255)⟩]⟩,
  ⟨"PWR_ALARM_LO", 0x040C, [], [
    ⟨"ALARM", 0, 32, .zero, .rw, .l, .b, false, .any⟩]⟩,
  ⟨"PWR_ALARM_HI", 0x0410, [], [
    ⟨"ALARM", 0, 16, .zero, .rw, .l, .b, false, .any⟩]⟩,
  ⟨"PWR_WAKE_CNT", 0x0414, [], [
    ⟨"EDGE_IN", 16, 16, .zero, .rov, .l, .b, false, .any⟩,
    ⟨"EDGE_TAKEN", 0, 16, .zero, .rov, .l, .b, false, .any⟩]⟩,
  ⟨"PWR_PSC_CNT", 0x0418, [], [
    ⟨"SUPERSEDED", 16, 16, .zero, .rov, .l, .num, false, .any⟩,
    ⟨"REFUSED", 0, 16, .zero, .rov, .l, .num, false, .any⟩]⟩,
  ⟨"PWR_ISLAND_STAT", 0x041C, [], [
    ⟨"VBAT_LOW", 1, 1, .zero, .rov, .l, .num, false, .any⟩,
    ⟨"ON_CELL", 0, 1, .zero, .rov, .l, .num, false, .any⟩]⟩,
  ⟨"PWR_OPSEC_LO", 0x0420, [], [
    ⟨"SEC", 0, 32, .zero, .rov, .l, .b, false, .any⟩]⟩,
  ⟨"PWR_OPSEC_HI", 0x0424, [], [
    ⟨"SEC", 0, 8, .zero, .rov, .l, .b, false, .any⟩]⟩,
  ⟨"PWR_CYCLES", 0x0428, [], [
    ⟨"COUNT", 0, 32, .zero, .rov, .l, .b, false, .any⟩]⟩]

/-- The registers of block TUNE. -/
def regsTune : List RegDef := [
  ⟨"TUNE_CTRL", 0x0000, [], [
    ⟨"ALARMS", 16, 16, .zero, .rov, .l, .num, false, .any⟩,
    ⟨"EN", 0, 1, (.num 1), .rw, .l, .num, false, .any⟩]⟩,
  ⟨"TUNE_CFG", 0x0004, [], [
    ⟨"GUARD_HI_PS", 24, 8, (.num 60), .rw, .h, .num, false, .any⟩,
    ⟨"GUARD_LO_PS", 16, 8, (.num 25), .rw, .h, .num, false, (.range 10 100)⟩,
    ⟨"MEAS_MS", 0, 16, (.num 100), .rw, .h, .num, false, (.range 10 1000)⟩]⟩,
  ⟨"TUNE_TAP_CFG", 0x0008, [], [
    ⟨"TAP_HI_PS", 8, 8, (.num 40), .rw, .h, .num, false, .any⟩,
    ⟨"TAP_LO_PS", 0, 8, (.num 15), .rw, .h, .num, false, (.range 10 100)⟩]⟩,
  ⟨"TUNE_DOM_PLAN", 0x0100, [(4, 50)], [
    ⟨"FLOOR_PS", 16, 16, .floorPs, .ro, .l, .num, false, .any⟩,
    ⟨"TAPS", 8, 6, (.num 63), .rov, .l, .num, false, .any⟩,
    ⟨"SUPPLY", 0, 8, (.num 160), .rov, .l, .num, false, .any⟩]⟩,
  ⟨"TUNE_DOM_SLACK", 0x0200, [(4, 50)], [
    ⟨"FLOOR", 16, 16, (.num 32768), .rov, .l, .num, false, .any⟩,
    ⟨"TIMING", 0, 16, (.num 32768), .rov, .l, .num, false, .any⟩]⟩,
  ⟨"TUNE_DOM_STAT", 0x0300, [(4, 50)], [
    ⟨"FORECAST_D", 16, 16, (.num 65535), .rov, .l, .num, false, .any⟩,
    ⟨"AGE_PS", 8, 8, .zero, .rov, .l, .num, false, .any⟩,
    ⟨"WARN", 4, 1, .zero, .rov, .l, .num, false, .any⟩,
    ⟨"FLOOR_ALARM", 3, 1, .zero, .rov, .l, .num, false, .any⟩,
    ⟨"TIMING_ALARM", 2, 1, .zero, .rov, .l, .num, false, .any⟩,
    ⟨"REPLANNING", 1, 1, .zero, .rov, .l, .num, false, .any⟩,
    ⟨"HAS_FLOOR", 0, 1, .hasFloor, .ro, .l, .num, false, .any⟩]⟩]

/-- The registers of block FRET. -/
def regsFret : List RegDef := [
  ⟨"FRET_CYCLE", 0x0000, [], [
    ⟨"CYCLE_PS", 0, 16, .zero, .rov, .l, .num, false, .any⟩]⟩,
  ⟨"FRET_POISON_CNT", 0x0004, [], [
    ⟨"COUNT", 0, 32, .zero, .rov, .l, .num, false, .any⟩]⟩,
  ⟨"FRET_CFG_REJECT", 0x0008, [], [
    ⟨"COUNT", 0, 32, .zero, .rov, .l, .num, false, .any⟩]⟩,
  ⟨"FRET_PORT_STAT", 0x0100, [(4, 32)], [
    ⟨"CLEAR", 31, 1, .zero, .wo, .l, .num, false, .any⟩,
    ⟨"NACK_CNT", 16, 8, .zero, .rov, .l, .num, false, .any⟩,
    ⟨"PEAK", 8, 8, .zero, .rov, .l, .num, false, .any⟩,
    ⟨"LOAD", 0, 8, .zero, .rov, .l, .num, false, .any⟩]⟩]

/-- The registers of block PEG. Part 1. -/
def regsPeg1 : List RegDef := [
  ⟨"PEG_FLUSH", 0x0000, [], [
    ⟨"QUEUE", 0, 20, .zero, .wo, .l, .num, false, .any⟩]⟩,
  ⟨"PEG_QSEL", 0x0004, [], [
    ⟨"QUEUE", 0, 20, .zero, .rw, .l, .num, true, .any⟩]⟩,
  ⟨"PEG_QCFG", 0x0008, [], [
    ⟨"POISON_SEEN", 12, 1, .zero, .w1c, .l, .num, false, .any⟩,
    ⟨"DROP_SEEN", 11, 1, .zero, .w1c, .l, .num, false, .any⟩,
    ⟨"PROFILE", 7, 4, .zero, .rw, .h, .num, false, .any⟩,
    ⟨"CONSUMER", 2, 5, .zero, .rw, .h, .num, false, .any⟩,
    ⟨"NOTIFY_EN", 1, 1, .zero, .rw, .h, .num, false, .any⟩,
    ⟨"ENABLE", 0, 1, .zero, .rw, .l, .num, false, .any⟩]⟩,
  ⟨"PEG_QSTAT", 0x0010, [(4, 4)], [
    ⟨"WORD", 0, 32, .zero, .rov, .l, .num, false, .any⟩]⟩,
  ⟨"PEG_CTX_TIMEOUT", 0x0020, [], [
    ⟨"MS", 0, 16, (.num 10), .rw, .l, .num, false, (.range 1 65535)⟩]⟩,
  ⟨"PEG_CLAIM_TIMEOUT", 0x0024, [], [
    ⟨"MS", 0, 16, (.num 100), .rw, .l, .num, false, (.range 1 65535)⟩]⟩,
  ⟨"PEG_ERR", 0x0028, [], [
    ⟨"QUARANTINE", 3, 1, .zero, .w1c, .l, .num, false, .any⟩,
    ⟨"FREE_LOW", 2, 1, .zero, .w1c, .l, .num, false, .any⟩,
    ⟨"TAG_UNCORR", 1, 1, .zero, .w1c, .l, .num, false, .any⟩,
    ⟨"TAG_CORR", 0, 1, .zero, .w1c, .l, .num, false, .any⟩]⟩,
  ⟨"PEG_ERR_QUEUE", 0x002C, [], [
    ⟨"QUEUE", 0, 20, .zero, .rov, .l, .num, false, .any⟩]⟩,
  ⟨"PEG_ERR_CELL", 0x0030, [], [
    ⟨"CELL", 0, 19, .zero, .rov, .l, .num, false, .any⟩]⟩,
  ⟨"PEG_CELL_FREE", 0x0034, [], [
    ⟨"FREE", 0, 20, .zero, .rov, .l, .num, false, .any⟩]⟩,
  ⟨"PEG_FREE_WARN", 0x0038, [], [
    ⟨"LEVEL", 0, 20, (.num 16384), .rw, .l, .num, false, .any⟩]⟩,
  ⟨"PEG_FREE_MIN", 0x003C, [], [
    ⟨"CLEAR", 31, 1, .zero, .wo, .l, .num, false, .any⟩,
    ⟨"MIN", 0, 20, (.num 524288), .rov, .l, .num, false, .any⟩]⟩,
  ⟨"PEG_LIMITS", 0x0040, [], [
    ⟨"PORTS", 28, 4, (.num 4), .ro, .l, .num, false, .any⟩,
    ⟨"PKT_CELLS", 20, 8, (.num 144), .ro, .l, .num, false, .any⟩,
    ⟨"CELLS", 0, 20, (.num 524288), .ro, .l, .num, false, .any⟩]⟩,
  ⟨"PEG_AUDIT_CTRL", 0x0044, [], [
    ⟨"SNAP_CNT", 16, 16, .zero, .rov, .l, .num, false, .any⟩,
    ⟨"VALID", 8, 1, .zero, .rov, .l, .num, false, .any⟩,
    ⟨"SNAP", 0, 1, .zero, .wo, .l, .num, false, .any⟩]⟩,
  ⟨"PEG_AUDIT", 0x0048, [(4, 6)], [
    ⟨"VALUE", 0, 20, .zero, .rov, .l, .num, false, .any⟩]⟩,
  ⟨"PEG_CTX_SEL", 0x0060, [], [
    ⟨"PORT", 0, 5, .zero, .rw, .l, .num, true, .any⟩]⟩,
  ⟨"PEG_CTX_BITMAP", 0x0064, [(4, 8)], [
    ⟨"BUSY", 0, 32, .zero, .rov, .l, .num, false, .any⟩]⟩,
  ⟨"PEG_PROFILE_A", 0x0100, [(4, 16)], [
    ⟨"EXP_ALLOW", 27, 1, (.num 1), .rw, .h, .num, false, .any⟩,
    ⟨"MAX_PKT_CELLS", 19, 8, (.num 144), .rw, .h, .num, false, (.range 1 144)⟩,
    ⟨"MAX_CELLS", 0, 19, (.num 4096), .rw, .h, .num, false, .any⟩]⟩,
  ⟨"PEG_PROFILE_B", 0x0140, [(4, 16)], [
    ⟨"MAX_PKTS", 0, 16, (.num 1024), .rw, .h, .num, false, .any⟩]⟩,
  ⟨"PEG_CREDIT", 0x0200, [(4, 32)], [
    ⟨"CAP", 16, 16, (.num 32768), .rw, .l, .num, false, .any⟩,
    ⟨"RESERVE", 0, 16, (.num 10), .rw, .l, .num, false, .any⟩]⟩]

/-- The registers of block PEG. Part 2. -/
def regsPeg2 : List RegDef := [
  ⟨"PEG_CREDIT_USE", 0x0280, [(4, 32)], [
    ⟨"USE", 0, 20, .zero, .rov, .l, .num, false, .any⟩]⟩,
  ⟨"PEG_CLAIM_MAX", 0x0300, [(4, 32)], [
    ⟨"MAX", 0, 13, (.num 512), .rw, .l, .num, false, (.range 0 4096)⟩]⟩,
  ⟨"PEG_CLAIM_USE", 0x0380, [(4, 32)], [
    ⟨"USE", 0, 13, .zero, .rov, .l, .num, false, .any⟩]⟩,
  ⟨"PEG_PCNT", 0x0400, [(64, 4), (4, 16)], [
    ⟨"COUNT", 0, 32, .zero, .rov, .l, .num, false, .any⟩]⟩]

/-- The registers of block PEG. -/
def regsPeg : List RegDef := regsPeg1 ++ regsPeg2

/-- The registers of block MOVER. -/
def regsMover : List RegDef := [
  ⟨"MOVER_CTRL", 0x0000, [], [
    ⟨"EN", 0, 1, (.num 1), .rw, .l, .num, false, .any⟩]⟩,
  ⟨"MOVER_ERR", 0x0004, [], [
    ⟨"BUS", 3, 1, .zero, .w1c, .l, .num, false, .any⟩,
    ⟨"LOOP", 2, 1, .zero, .w1c, .l, .num, false, .any⟩,
    ⟨"FETCH", 1, 1, .zero, .w1c, .l, .num, false, .any⟩,
    ⟨"ALIGN", 0, 1, .zero, .w1c, .l, .num, false, .any⟩]⟩,
  ⟨"MOVER_QWATCH", 0x0010, [(4, 4)], [
    ⟨"EN", 31, 1, .zero, .rw, .h, .num, false, .any⟩,
    ⟨"QUEUE", 0, 20, .zero, .rw, .h, .num, false, .any⟩]⟩,
  ⟨"MOVER_CH_HEAD_LO", 0x0100, [(32, 32)], [
    ⟨"ADDR", 0, 32, .zero, .rw, .l, .num, false, .any⟩]⟩,
  ⟨"MOVER_CH_HEAD_HI", 0x0104, [(32, 32)], [
    ⟨"ADDR", 0, 8, .zero, .rw, .l, .num, false, .any⟩]⟩,
  ⟨"MOVER_CH_CTRL", 0x0108, [(32, 32)], [
    ⟨"OP", 28, 4, .zero, .wo, .l, .num, false, (.enc [1, 2, 3])⟩]⟩,
  ⟨"MOVER_CH_STAT", 0x010C, [(32, 32)], [
    ⟨"SEQ", 16, 16, .zero, .rov, .l, .num, false, .any⟩,
    ⟨"HALT_STATUS", 8, 8, .zero, .rov, .l, .num, false, .any⟩,
    ⟨"REQ_OVF", 5, 1, .zero, .w1c, .l, .num, false, .any⟩,
    ⟨"EVT", 4, 1, .zero, .w1c, .l, .num, false, .any⟩,
    ⟨"BAD_SEEN", 3, 1, .zero, .w1c, .l, .num, false, .any⟩,
    ⟨"STATE", 0, 2, .zero, .rov, .l, .num, false, .any⟩]⟩,
  ⟨"MOVER_CH_CUR_LO", 0x0110, [(32, 32)], [
    ⟨"ADDR", 0, 32, .zero, .rov, .l, .num, false, .any⟩]⟩,
  ⟨"MOVER_CH_CUR_HI", 0x0114, [(32, 32)], [
    ⟨"ADDR", 0, 32, .zero, .rov, .l, .num, false, .any⟩]⟩,
  ⟨"MOVER_CH_LIMIT", 0x0118, [(32, 32)], [
    ⟨"PENDING", 16, 16, .zero, .rov, .l, .num, false, .any⟩,
    ⟨"LIMIT", 0, 16, (.num 4096), .rw, .h, .num, false, (.range 1 65535)⟩]⟩,
  ⟨"MOVER_CH_COUNT", 0x011C, [(32, 32)], [
    ⟨"BAD", 16, 16, .zero, .rov, .l, .num, false, .any⟩,
    ⟨"FETCHED", 0, 16, .zero, .rov, .l, .num, false, .any⟩]⟩]

/-- The registers of block FPLC. -/
def regsFplc : List RegDef := [
  ⟨"FPLC_FEEDER_EN", 0x0000, [], [
    ⟨"EN", 0, 12, .zero, .rw, .h, .p, false, .any⟩]⟩,
  ⟨"FPLC_SF_CFG", 0x0004, [], [
    ⟨"CONT_LEN", 8, 6, (.num 16), .rw, .h, .num, false, (.range 4 32)⟩,
    ⟨"CIP_LEN", 0, 6, (.num 32), .rw, .h, .num, false, (.range 1 48)⟩]⟩,
  ⟨"FPLC_RETRY", 0x0008, [], [
    ⟨"LIMIT", 0, 4, (.num 3), .rw, .l, .num, false, .any⟩]⟩,
  ⟨"FPLC_SFN_LO", 0x0010, [], [
    ⟨"SFN", 0, 32, .zero, .rov, .l, .num, false, .any⟩]⟩,
  ⟨"FPLC_SFN_HI", 0x0014, [], [
    ⟨"SFN", 0, 16, .zero, .rov, .l, .num, false, .any⟩]⟩,
  ⟨"FPLC_TX_ATTEN", 0x0020, [(4, 12)], [
    ⟨"DB", 0, 5, .zero, .rw, .h, .p, false, (.range 0 30)⟩]⟩,
  ⟨"FPLC_NOTCH_EXTRA", 0x0060, [(4, 16)], [
    ⟨"EN", 31, 1, .zero, .rw, .h, .p, false, .any⟩,
    ⟨"LAST", 10, 10, .zero, .rw, .h, .p, false, (.range 59 917)⟩,
    ⟨"FIRST", 0, 10, .zero, .rw, .h, .p, false, (.range 59 917)⟩]⟩,
  ⟨"FPLC_FEEDER_STAT", 0x00A0, [(4, 12)], [
    ⟨"NODES", 16, 16, .zero, .rov, .l, .num, false, .any⟩,
    ⟨"PHY_MBPS", 0, 8, .zero, .rov, .l, .num, false, .any⟩]⟩,
  ⟨"FPLC_CNT", 0x0100, [(32, 12), (4, 8)], [
    ⟨"COUNT", 0, 32, .zero, .rov, .l, .num, false, .any⟩]⟩]

/-- The registers of block FRAD. -/
def regsFrad : List RegDef := [
  ⟨"FRAD_RADIO_CFG", 0x0000, [(4, 4)], [
    ⟨"EN", 31, 1, .zero, .rw, .h, .p, false, .any⟩,
    ⟨"PLAN", 27, 4, .zero, .rw, .s, .p, false, (.encMax 2)⟩,
    ⟨"MODE", 23, 4, .zero, .rw, .s, .p, false, (.encMax 4)⟩,
    ⟨"STEP", 16, 7, .zero, .rw, .s, .p, false, .any⟩,
    ⟨"OFFSET", 9, 7, .zero, .rw, .h, .p, false, .any⟩,
    ⟨"RETRY", 5, 4, (.num 2), .rw, .l, .num, false, .any⟩,
    ⟨"PWR", 0, 5, .zero, .rw, .h, .p, false, (.range 0 27)⟩]⟩,
  ⟨"FRAD_ANT_GAIN", 0x0010, [(4, 4)], [
    ⟨"HALF_DB", 0, 8, .zero, .rw, .s, .p, false, .any⟩]⟩,
  ⟨"FRAD_SUBBAND_CFG", 0x0020, [(4, 5)], [
    ⟨"PRIO_PCT", 16, 8, (.num 5), .rw, .l, .num, false, (.range 0 50)⟩,
    ⟨"DUTY_CENT", 0, 16, .duty, .rw, .l, .num, false, .any⟩]⟩,
  ⟨"FRAD_TOKEN", 0x0040, [(16, 7), (4, 4)], [
    ⟨"VALUE", 0, 32, .zero, .rov, .l, .num, false, .any⟩]⟩,
  ⟨"FRAD_AUDIT_CTRL", 0x00C0, [], [
    ⟨"SNAP_CNT", 16, 16, .zero, .rov, .l, .num, false, .any⟩,
    ⟨"SNAP", 0, 1, .zero, .wo, .l, .num, false, .any⟩]⟩,
  ⟨"FRAD_DWELL_MAX", 0x00D0, [(4, 4)], [
    ⟨"US", 0, 32, .zero, .rov, .l, .num, false, .any⟩]⟩,
  ⟨"FRAD_CNT", 0x0100, [(32, 4), (4, 8)], [
    ⟨"COUNT", 0, 32, .zero, .rov, .l, .num, false, .any⟩]⟩]

/-- The registers of block NODE. -/
def regsNode : List RegDef := [
  ⟨"NODE_DRIFT_CFG", 0x0000, [], [
    ⟨"U_INIT", 24, 8, (.num 20), .rw, .h, .num, false, .any⟩,
    ⟨"U_TRACK", 16, 8, (.num 20), .rw, .h, .num, false, .any⟩,
    ⟨"GUARD_US", 0, 16, (.num 500), .rw, .h, .num, false, .any⟩]⟩,
  ⟨"NODE_WAKE_CFG", 0x0004, [], [
    ⟨"EU_CH", 26, 6, (.num 32), .rw, .h, .num, false, .any⟩,
    ⟨"HOLD_100MS", 16, 10, (.num 20), .rw, .h, .num, false, .any⟩,
    ⟨"T_WAKE_MS", 8, 8, (.num 20), .rw, .h, .num, false, .any⟩,
    ⟨"REPS", 0, 3, (.num 2), .rw, .h, .num, false, (.range 1 7)⟩]⟩,
  ⟨"NODE_SEL", 0x0010, [], [
    ⟨"SLOT", 0, 14, .zero, .rw, .l, .num, true, .any⟩]⟩,
  ⟨"NODE_EUI_LO", 0x0014, [], [
    ⟨"EUI", 0, 32, .zero, .rw, .l, .num, true, .any⟩]⟩,
  ⟨"NODE_EUI_HI", 0x0018, [], [
    ⟨"EUI", 0, 32, .zero, .rw, .l, .num, true, .any⟩]⟩,
  ⟨"NODE_ADMIN", 0x001C, [], [
    ⟨"OP", 28, 4, .zero, .wo, .l, .num, false, (.enc [1, 2, 3, 4])⟩,
    ⟨"GROUP", 16, 5, .zero, .wo, .l, .num, false, .any⟩]⟩,
  ⟨"NODE_ADMIN_STAT", 0x0020, [], [
    ⟨"STATUS", 8, 8, .zero, .rov, .l, .num, false, .any⟩,
    ⟨"OP", 0, 4, .zero, .rov, .l, .num, false, .any⟩]⟩,
  ⟨"NODE_COUNT", 0x0024, [], [
    ⟨"LOST", 16, 14, .zero, .rov, .l, .num, false, .any⟩,
    ⟨"JOINED", 0, 14, .zero, .rov, .l, .num, false, .any⟩]⟩,
  ⟨"NODE_IMG_PUB_C", 0x0028, [], [
    ⟨"P", 0, 32, .zero, .rov, .l, .num, false, .any⟩]⟩,
  ⟨"NODE_IMG_PUB_R", 0x002C, [], [
    ⟨"P", 0, 32, .zero, .rov, .l, .num, false, .any⟩]⟩,
  ⟨"NODE_ORPHAN_CFG", 0x0030, [], [
    ⟨"LOST_S", 16, 16, (.num 600), .rw, .h, .num, false, (.range 10 65535)⟩,
    ⟨"ORPHAN_S", 0, 16, (.num 60), .rw, .h, .num, false, .any⟩]⟩,
  ⟨"NODE_CAL_CFG", 0x0034, [], [
    ⟨"LEAD_RADIO_S", 16, 16, (.num 300), .rw, .h, .num, false, (.range 1 3600)⟩,
    ⟨"LEAD_CARRIER_S", 0, 16, (.num 60), .rw, .h, .num, false, (.range 1 3600)⟩]⟩,
  ⟨"NODE_CAL_CFG2", 0x0038, [], [
    ⟨"MCAST_REPS", 16, 3, (.num 3), .rw, .h, .num, false, .any⟩,
    ⟨"REJOIN_FADE", 0, 16, (.num 300), .rw, .h, .num, false, .any⟩]⟩,
  ⟨"NODE_CAL_STAT", 0x003C, [], [
    ⟨"ISSUED", 16, 16, .zero, .rov, .l, .num, false, .any⟩,
    ⟨"SUPPRESSED", 0, 16, .zero, .rov, .l, .num, false, .any⟩]⟩,
  ⟨"NODE_CAL_LAST", 0x0100, [(4, 32)], [
    ⟨"KEY", 0, 32, .zero, .rov, .l, .num, false, .any⟩]⟩,
  ⟨"NODE_FEEDER_GROUP", 0x0180, [(4, 12)], [
    ⟨"EN", 8, 1, .zero, .rw, .h, .p, false, .any⟩,
    ⟨"GROUP", 0, 5, .zero, .rw, .h, .p, false, .any⟩]⟩,
  ⟨"NODE_CNT", 0x0200, [(4, 8)], [
    ⟨"COUNT", 0, 32, .zero, .rov, .l, .num, false, .any⟩]⟩]

/-- The registers of block SYM. Part 1. -/
def regsSym1 : List RegDef := [
  ⟨"SYM_CTRL", 0x0000, [], [
    ⟨"LOADING", 8, 1, .zero, .rov, .l, .num, false, .any⟩,
    ⟨"ENABLE", 0, 1, .zero, .rw, .l, .p, false, .any⟩]⟩,
  ⟨"SYM_GRAPH_ID", 0x0004, [], [
    ⟨"ID", 0, 32, .zero, .rov, .l, .num, false, .any⟩]⟩,
  ⟨"SYM_GRAPH_STAT", 0x0008, [], [
    ⟨"STATE", 16, 4, .zero, .rov, .l, .num, false, .any⟩,
    ⟨"N_VERTICES", 0, 15, .zero, .rov, .l, .num, false, .any⟩]⟩,
  ⟨"SYM_WALK_CFG", 0x000C, [], [
    ⟨"MAX_VISIT", 16, 7, (.num 64), .rw, .h, .num, false, (.range 1 64)⟩,
    ⟨"TURN_TOL", 8, 8, (.num 100), .rw, .h, .num, false, (.range 0 180)⟩,
    ⟨"HEADING_TOL", 0, 8, (.num 45), .rw, .h, .num, false, (.range 0 180)⟩]⟩,
  ⟨"SYM_AGE_CFG", 0x0010, [], [
    ⟨"DUP_MS", 16, 16, (.num 1000), .rw, .h, .num, false, .any⟩,
    ⟨"MAX_AGE_MS", 0, 16, (.num 3000), .rw, .h, .num, false, .any⟩]⟩,
  ⟨"SYM_PRES_CFG", 0x0014, [], [
    ⟨"BUSY", 16, 16, (.num 32768), .rw, .h, .num, false, .any⟩,
    ⟨"STEP", 0, 16, (.num 4096), .rw, .h, .num, false, .any⟩]⟩,
  ⟨"SYM_PRES_TIME", 0x0018, [], [
    ⟨"DECAY", 16, 16, (.num 256), .rw, .h, .num, false, .any⟩,
    ⟨"LINGER_S", 0, 16, (.num 60), .rw, .h, .num, false, .any⟩]⟩,
  ⟨"SYM_REFRESH", 0x001C, [], [
    ⟨"MS", 0, 16, (.num 1000), .rw, .h, .num, false, .any⟩]⟩,
  ⟨"SYM_LATENCY", 0x0020, [], [
    ⟨"MAX_NS", 16, 16, .zero, .rov, .l, .num, false, .any⟩,
    ⟨"LAST_NS", 0, 16, .zero, .rov, .l, .num, false, .any⟩]⟩,
  ⟨"SYM_EVENT_ID", 0x0024, [], [
    ⟨"NEXT", 0, 32, .zero, .rov, .l, .num, false, .any⟩]⟩,
  ⟨"SYM_LOAD_TIME", 0x0028, [], [
    ⟨"US", 0, 32, .zero, .rov, .l, .num, false, .any⟩]⟩,
  ⟨"SYM_VSEL", 0x002C, [], [
    ⟨"VERTEX", 0, 14, .zero, .rw, .l, .num, true, .any⟩]⟩,
  ⟨"SYM_VSTAT", 0x0030, [(4, 4)], [
    ⟨"WORD", 0, 32, .zero, .rov, .l, .num, false, .any⟩]⟩,
  ⟨"SYM_CNT", 0x0040, [(4, 20)], [
    ⟨"COUNT", 0, 32, .zero, .rov, .l, .num, false, .any⟩]⟩,
  ⟨"SYM_LAST_EVT", 0x0090, [(4, 6)], [
    ⟨"WORD", 0, 32, .zero, .rov, .l, .num, false, .any⟩]⟩,
  ⟨"SYM_KIND_CFG", 0x00B0, [(4, 4)], [
    ⟨"EN", 8, 1, .zero, .rw, .h, .p, false, .any⟩,
    ⟨"CONF_MIN", 0, 8, .zero, .rw, .h, .p, false, (.range 0 100)⟩]⟩,
  ⟨"SYM_GROUP", 0x0100, [(4, 32)], [
    ⟨"BASE", 16, 16, .zero, .rov, .l, .num, false, .any⟩,
    ⟨"ARM_SCAN", 4, 1, .zero, .rw, .l, .num, false, .any⟩,
    ⟨"ARMED", 3, 1, .zero, .rov, .l, .num, false, .any⟩,
    ⟨"INHIBIT", 2, 1, .zero, .rw, .l, .num, false, .any⟩,
    ⟨"ARM_MODE", 0, 2, .zero, .rw, .h, .p, false, .any⟩]⟩,
  ⟨"SYM_RULE_A", 0x0200, [(4, 32)], [
    ⟨"FADE_UP", 16, 16, .zero, .rw, .h, .p, false, .any⟩,
    ⟨"LEVEL", 0, 16, .zero, .rw, .h, .p, false, .any⟩]⟩,
  ⟨"SYM_RULE_B", 0x0280, [(4, 32)], [
    ⟨"CURVE", 31, 1, .zero, .rw, .h, .p, false, .any⟩,
    ⟨"BOTH_WAYS", 30, 1, .zero, .rw, .h, .p, false, .any⟩,
    ⟨"CONTRAFLOW", 29, 1, .zero, .rw, .h, .p, false, .any⟩,
    ⟨"FOLLOW", 28, 1, .zero, .rw, .h, .p, false, .any⟩,
    ⟨"LOOKAHEAD_M", 16, 12, .zero, .rw, .h, .p, false, .any⟩,
    ⟨"FADE_DOWN", 0, 16, .zero, .rw, .h, .p, false, .any⟩]⟩,
  ⟨"SYM_RULE_C", 0x0300, [(4, 32)], [
    ⟨"LINGER", 16, 16, .zero, .rw, .h, .p, false, .any⟩,
    ⟨"LEAD", 0, 16, .zero, .rw, .h, .p, false, .any⟩]⟩]

/-- The registers of block SYM. Part 2. -/
def regsSym2 : List RegDef := [
  ⟨"SYM_RULE_D", 0x0380, [(4, 32)], [
    ⟨"SPEED_MIN", 16, 16, .zero, .rw, .h, .p, false, (.range 1 65535)⟩,
    ⟨"SPEED_DEFAULT", 0, 16, .zero, .rw, .h, .p, false, (.range 1 65535)⟩]⟩]

/-- The registers of block SYM. -/
def regsSym : List RegDef := regsSym1 ++ regsSym2

/-- The registers of block GAUGE. Part 1. -/
def regsGauge1 : List RegDef := [
  ⟨"GAUGE_CTRL", 0x0000, [], [
    ⟨"FORCE_LATCH", 1, 1, .zero, .wo, .l, .num, false, .any⟩,
    ⟨"ENABLE", 0, 1, .zero, .rw, .l, .p, false, .any⟩]⟩,
  ⟨"GAUGE_NOMINAL", 0x0004, [], [
    ⟨"FN", 16, 8, .zero, .rw, .s, .p, false, (.oneOf [50, 60])⟩,
    ⟨"UN_DV", 0, 16, .zero, .rw, .s, .p, false, (.range 1000 3000)⟩]⟩,
  ⟨"GAUGE_LATCH_CFG", 0x000C, [], [
    ⟨"STORE_MIN", 16, 11, (.num 15), .rw, .h, .num, false, (.range 1 1440)⟩,
    ⟨"N", 0, 16, .zero, .rw, .h, .p, false, (.range 1 65535)⟩]⟩,
  ⟨"GAUGE_LATCH_SEQ_LO", 0x0010, [], [
    ⟨"SEQ", 0, 32, .zero, .rov, .l, .num, false, .any⟩]⟩,
  ⟨"GAUGE_LATCH_SEQ_HI", 0x0014, [], [
    ⟨"SEQ", 0, 32, .zero, .rov, .l, .num, false, .any⟩]⟩,
  ⟨"GAUGE_EVT_CFG_A", 0x0018, [], [
    ⟨"NPE_V", 20, 8, (.num 30), .rw, .h, .num, false, (.range 5 255)⟩,
    ⟨"HYST_PCT", 16, 4, (.num 2), .rw, .h, .num, false, (.range 1 10)⟩,
    ⟨"SWELL_PCT", 8, 8, (.num 110), .rw, .h, .num, false, (.range 105 150)⟩,
    ⟨"SAG_PCT", 0, 8, (.num 90), .rw, .h, .num, false, (.range 50 95)⟩]⟩,
  ⟨"GAUGE_EVT_CFG_B", 0x001C, [], [
    ⟨"DEV_WIN", 24, 8, (.num 60), .rw, .h, .num, false, (.range 1 255)⟩,
    ⟨"DEV_PCT", 16, 8, (.num 20), .rw, .h, .num, false, .any⟩,
    ⟨"CONTRA_W", 0, 16, (.num 200), .rw, .h, .num, false, .any⟩]⟩,
  ⟨"GAUGE_AUDIT_CTRL", 0x0020, [], [
    ⟨"SNAP_CNT", 16, 16, .zero, .rov, .l, .num, false, .any⟩,
    ⟨"SNAP", 8, 1, .zero, .wo, .l, .num, false, .any⟩,
    ⟨"Q", 0, 7, .zero, .rw, .l, .num, true, .any⟩]⟩,
  ⟨"GAUGE_AUDIT", 0x0024, [(4, 11)], [
    ⟨"WORD", 0, 32, .zero, .rov, .l, .num, false, .any⟩]⟩,
  ⟨"GAUGE_CH_CFG", 0x0100, [(4, 4)], [
    ⟨"INVERT", 5, 1, .zero, .rw, .h, .p, false, .any⟩,
    ⟨"EN", 0, 1, .zero, .rw, .s, .p, false, .any⟩]⟩,
  ⟨"GAUGE_CH_CFG", 0x0110, [(4, 4)], [
    ⟨"INVERT", 5, 1, .zero, .rw, .h, .p, false, .any⟩,
    ⟨"SENSOR", 1, 1, .zero, .rw, .s, .p, false, .any⟩,
    ⟨"EN", 0, 1, .zero, .rw, .s, .p, false, .any⟩]⟩,
  ⟨"GAUGE_CH_CFG", 0x0120, [(4, 12)], [
    ⟨"INVERT", 5, 1, .zero, .rw, .h, .p, false, .any⟩,
    ⟨"VSRC", 4, 1, .zero, .rw, .h, .p, false, .any⟩,
    ⟨"PHASE", 2, 2, .zero, .rw, .h, .p, false, (.encMax 2)⟩,
    ⟨"SENSOR", 1, 1, .zero, .rw, .s, .p, false, .any⟩,
    ⟨"EN", 0, 1, .zero, .rw, .s, .p, false, .any⟩]⟩,
  ⟨"GAUGE_CH_CFG", 0x0150, [(4, 12)], [
    ⟨"INVERT", 5, 1, .zero, .rw, .h, .p, false, .any⟩,
    ⟨"PHASE", 2, 2, .zero, .rw, .h, .p, false, (.encMax 2)⟩,
    ⟨"EN", 0, 1, .zero, .rw, .s, .p, false, .any⟩]⟩,
  ⟨"GAUGE_CH_SCALE", 0x0180, [(4, 4)], [
    ⟨"PEAK", 0, 32, (.num 620000), .ro, .s, .num, false, .any⟩]⟩,
  ⟨"GAUGE_CH_SCALE", 0x0190, [(4, 16)], [
    ⟨"PEAK", 0, 32, .zero, .rw, .s, .p, false, .any⟩]⟩,
  ⟨"GAUGE_CH_SCALE", 0x01D0, [(4, 12)], [
    ⟨"PEAK", 0, 32, (.num 620000), .ro, .s, .num, false, .any⟩]⟩,
  ⟨"GAUGE_CH_CAL", 0x0200, [(4, 32)], [
    ⟨"GAIN", 14, 18, .zero, .rw, .h, .p, false, (.range 65536 196607)⟩,
    ⟨"PHASE", 0, 14, .zero, .rw, .h, .p, false, .any⟩]⟩,
  ⟨"GAUGE_CH_MATCH", 0x0280, [(4, 16)], [
    ⟨"FORCE", 16, 2, .zero, .rw, .h, .num, false, (.encMax 2)⟩,
    ⟨"HI_PPM", 0, 16, .zero, .rw, .h, .p, false, .any⟩]⟩,
  ⟨"GAUGE_CH_RMS", 0x0300, [(4, 32)], [
    ⟨"LOW_GAIN", 31, 1, .zero, .rov, .l, .num, false, .any⟩,
    ⟨"CLIP", 30, 1, .zero, .rov, .l, .num, false, .any⟩,
    ⟨"RMS", 0, 30, .zero, .rov, .l, .num, false, .any⟩]⟩,
  ⟨"GAUGE_PT_CFG", 0x0400, [(4, 16)], [
    ⟨"START_MA", 16, 16, .zero, .rw, .h, .p, false, .any⟩,
    ⟨"EPOCH", 4, 4, .zero, .rov, .l, .num, false, .any⟩,
    ⟨"SPILL_EN", 3, 1, .zero, .rw, .h, .p, false, .any⟩,
    ⟨"EQ_EXP", 0, 3, .zero, .rw, .h, .p, false, (.encMax 6)⟩]⟩,
  ⟨"GAUGE_PT_PC_LO", 0x0440, [(8, 16)], [
    ⟨"PC", 0, 32, .zero, .rw, .h, .p, false, .any⟩]⟩,
  ⟨"GAUGE_PT_PC_HI", 0x0444, [(8, 16)], [
    ⟨"PC", 0, 32, .zero, .rw, .h, .p, false, .any⟩]⟩,
  ⟨"GAUGE_PT_FLAGS", 0x0500, [(4, 16)], [
    ⟨"ACTIVE", 4, 6, .zero, .rov, .l, .num, false, .any⟩,
    ⟨"GUARD_USE", 3, 1, .zero, .rov, .l, .num, false, .any⟩,
    ⟨"GUARD_OVF", 2, 1, .zero, .w1c, .l, .num, false, .any⟩,
    ⟨"OVERRANGE", 1, 1, .zero, .rov, .l, .num, false, .any⟩,
    ⟨"INCOMPLETE", 0, 1, .zero, .rov, .l, .num, false, .any⟩]⟩,
  ⟨"GAUGE_PT_EST_LO", 0x0540, [(8, 16)], [
    ⟨"ESTIMATE", 0, 32, .zero, .rov, .l, .num, false, .any⟩]⟩,
  ⟨"GAUGE_PT_EST_HI", 0x0544, [(8, 16)], [
    ⟨"ESTIMATE", 0, 32, .zero, .rov, .l, .num, false, .any⟩]⟩]

/-- The registers of block GAUGE. Part 2. -/
def regsGauge2 : List RegDef := [
  ⟨"GAUGE_PT_POWER", 0x0600, [(16, 16), (4, 3)], [
    ⟨"VALUE", 0, 32, .zero, .rov, .l, .num, false, .any⟩]⟩,
  ⟨"GAUGE_S0OUT_CFG", 0x0700, [(4, 4)], [
    ⟨"EN", 31, 1, .zero, .rw, .h, .p, false, .any⟩,
    ⟨"Q", 16, 7, .zero, .rw, .h, .p, false, .any⟩,
    ⟨"OFF_MS", 8, 8, (.num 30), .rw, .h, .num, false, (.range 30 255)⟩,
    ⟨"ON_MS", 0, 8, (.num 30), .rw, .h, .num, false, (.range 30 255)⟩]⟩,
  ⟨"GAUGE_S0OUT_BACKLOG", 0x0710, [(4, 4)], [
    ⟨"OVF", 31, 1, .zero, .w1c, .l, .num, false, .any⟩,
    ⟨"PENDING", 0, 16, .zero, .rov, .l, .num, false, .any⟩]⟩,
  ⟨"GAUGE_S0IN_CFG", 0x0720, [(4, 4)], [
    ⟨"WEIGHT", 16, 16, .zero, .rw, .h, .p, false, (.range 1 65535)⟩,
    ⟨"EN", 15, 1, .zero, .rw, .h, .p, false, .any⟩,
    ⟨"Q", 0, 7, .zero, .rw, .h, .p, false, .any⟩]⟩,
  ⟨"GAUGE_S0IN_CNT_LO", 0x0740, [(8, 4)], [
    ⟨"COUNT", 0, 32, .zero, .rov, .l, .num, false, .any⟩]⟩,
  ⟨"GAUGE_S0IN_CNT_HI", 0x0744, [(8, 4)], [
    ⟨"COUNT", 0, 32, .zero, .rov, .l, .num, false, .any⟩]⟩,
  ⟨"GAUGE_S0IN_STAT", 0x0760, [(4, 4)], [
    ⟨"DEV", 16, 16, .zero, .rov, .l, .num, false, .any⟩,
    ⟨"LEVEL_LOW", 2, 1, .zero, .rov, .l, .num, false, .any⟩,
    ⟨"DEVIATION", 1, 1, .zero, .w1c, .l, .num, false, .any⟩,
    ⟨"PULSE_STUCK", 0, 1, .zero, .w1c, .l, .num, false, .any⟩]⟩,
  ⟨"GAUGE_EVT_CNT", 0x0800, [(4, 12)], [
    ⟨"COUNT", 0, 32, .zero, .rov, .l, .num, false, .any⟩]⟩,
  ⟨"GAUGE_Q", 0x1000, [(16, 128), (4, 4)], [
    ⟨"WORD", 0, 32, .zero, .rov, .l, .num, false, .any⟩]⟩]

/-- The registers of block GAUGE. -/
def regsGauge : List RegDef := regsGauge1 ++ regsGauge2

/-- The registers of block SOUND. -/
def regsSound : List RegDef := [
  ⟨"SOUND_CTRL", 0x0000, [], [
    ⟨"ENABLE", 0, 1, .zero, .rw, .l, .p, false, .any⟩]⟩,
  ⟨"SOUND_PERIOD", 0x0004, [], [
    ⟨"MIN_CHIRPS", 24, 8, (.num 4), .rw, .h, .num, false, (.range 1 255)⟩,
    ⟨"MIN_PROBES", 12, 12, (.num 64), .rw, .h, .num, false, (.range 1 4095)⟩,
    ⟨"REFL_S", 0, 12, (.num 60), .rw, .h, .num, false, (.range 10 3600)⟩]⟩,
  ⟨"SOUND_QUIET", 0x0008, [], [
    ⟨"EVERY", 16, 16, (.num 400), .rw, .h, .num, false, (.range 3 32768)⟩,
    ⟨"LEN", 8, 3, (.num 2), .rw, .h, .num, false, (.range 2 4)⟩,
    ⟨"FIRST_SLOT", 0, 7, (.num 62), .rw, .h, .num, false, .any⟩]⟩,
  ⟨"SOUND_DETECT", 0x000C, [], [
    ⟨"CONFIRM", 28, 4, (.num 3), .rw, .h, .num, false, (.range 1 15)⟩,
    ⟨"START_BIN", 16, 12, (.num 16), .rw, .h, .num, false, .any⟩,
    ⟨"K_SIGMA", 8, 8, (.num 50), .rw, .h, .num, false, (.range 10 255)⟩,
    ⟨"FLOOR", 0, 8, (.num 64), .rw, .h, .num, false, .any⟩]⟩,
  ⟨"SOUND_CLASS_A", 0x0010, [], [
    ⟨"SHORT_RHO", 16, 16, (.num 8192), .rw, .h, .num, false, .any⟩,
    ⟨"OPEN_RHO", 0, 16, (.num 8192), .rw, .h, .num, false, .any⟩]⟩,
  ⟨"SOUND_CLASS_B", 0x0014, [], [
    ⟨"INSUL_RHO", 16, 16, (.num 3277), .rw, .h, .num, false, .any⟩,
    ⟨"SHIFT_MIN", 8, 8, (.num 4), .rw, .h, .num, false, .any⟩,
    ⟨"WATER_BINS", 0, 8, (.num 6), .rw, .h, .num, false, (.range 2 255)⟩]⟩,
  ⟨"SOUND_CMD", 0x0018, [], [
    ⟨"OP", 28, 4, .zero, .wo, .l, .num, false, (.enc [1, 2, 3])⟩,
    ⟨"ENTRY", 8, 5, .zero, .wo, .l, .num, false, .any⟩,
    ⟨"STATE", 5, 1, .zero, .wo, .l, .num, false, .any⟩,
    ⟨"KIND", 4, 1, .zero, .wo, .l, .num, false, .any⟩,
    ⟨"FEEDER", 0, 4, .zero, .wo, .l, .num, false, (.range 0 11)⟩]⟩,
  ⟨"SOUND_CMD_STAT", 0x001C, [], [
    ⟨"TABLE_FULL", 16, 1, .zero, .w1c, .l, .num, false, .any⟩,
    ⟨"STATUS", 8, 8, .zero, .rov, .l, .num, false, .any⟩,
    ⟨"OP", 0, 4, .zero, .rov, .l, .num, false, .any⟩]⟩,
  ⟨"SOUND_CHIRP_NOTCH", 0x0020, [(4, 2)], [
    ⟨"EN", 31, 1, .zero, .rw, .h, .p, false, .any⟩,
    ⟨"LAST", 10, 10, .zero, .rw, .h, .p, false, (.range 280 800)⟩,
    ⟨"FIRST", 0, 10, .zero, .rw, .h, .p, false, (.range 280 800)⟩]⟩,
  ⟨"SOUND_FDR_CFG", 0x0100, [(4, 12)], [
    ⟨"PHASE", 17, 15, .phase33, .rw, .h, .num, false, .any⟩,
    ⟨"EN", 16, 1, .zero, .rw, .h, .p, false, .any⟩,
    ⟨"ATTEN_DB", 11, 5, .zero, .rw, .h, .num, false, (.range 0 30)⟩,
    ⟨"CHIRP_EN", 10, 1, .zero, .rw, .h, .p, false, .any⟩,
    ⟨"VF_REF", 0, 10, .zero, .rw, .s, .p, false, (.range 450 990)⟩]⟩,
  ⟨"SOUND_FDR_STAT", 0x0140, [(4, 12)], [
    ⟨"QUEUED", 16, 8, .zero, .rov, .l, .num, false, .any⟩,
    ⟨"ACTIVE", 8, 8, .zero, .rov, .l, .num, false, .any⟩,
    ⟨"WINDOW_SUSPENDED", 3, 1, .zero, .rov, .l, .num, false, .any⟩,
    ⟨"UNSERVED", 2, 1, .zero, .rov, .l, .num, false, .any⟩,
    ⟨"STATE", 0, 2, (.num 2), .rov, .l, .num, false, .any⟩]⟩,
  ⟨"SOUND_MAP_ID", 0x0180, [(4, 12)], [
    ⟨"MAP_ID", 0, 32, .zero, .rov, .l, .num, false, .any⟩]⟩,
  ⟨"SOUND_BASE_STAT", 0x01C0, [(4, 12)], [
    ⟨"CHIRP_D", 24, 8, .zero, .rov, .l, .num, false, .any⟩,
    ⟨"CHIRP_E", 16, 8, .zero, .rov, .l, .num, false, .any⟩,
    ⟨"CARRIER_D", 8, 8, .zero, .rov, .l, .num, false, .any⟩,
    ⟨"CARRIER_E", 0, 8, .zero, .rov, .l, .num, false, .any⟩]⟩,
  ⟨"SOUND_REFL_SEQ", 0x0200, [(8, 12), (4, 2)], [
    ⟨"SEQ", 0, 32, .zero, .rov, .l, .num, false, .any⟩]⟩,
  ⟨"SOUND_CNT", 0x0300, [(32, 12), (4, 8)], [
    ⟨"COUNT", 0, 32, .zero, .rov, .l, .num, false, .any⟩]⟩,
  ⟨"SOUND_CHG", 0x0800, [(16, 32), (4, 4)], [
    ⟨"WORD", 0, 32, .zero, .rov, .l, .num, false, .any⟩]⟩]

/-- The registers of block SCAN. Part 1. -/
def regsScan1 : List RegDef := [
  ⟨"SCAN_CTRL", 0x0000, [], [
    ⟨"STOP_OUT", 2, 1, .zero, .rw, .h, .p, false, .any⟩,
    ⟨"HOLD_EN", 1, 1, .zero, .rw, .s, .p, false, .any⟩]⟩,
  ⟨"SCAN_MODE", 0x0004, [], [
    ⟨"MODE", 0, 3, .zero, .rov, .l, .num, false, .any⟩]⟩,
  ⟨"SCAN_CMD", 0x0008, [], [
    ⟨"KEY", 16, 16, .zero, .wo, .l, .num, false, (.key 0x3C96)⟩,
    ⟨"OP", 0, 4, .zero, .wo, .l, .num, false, (.enc [1, 2, 3, 4, 5, 6, 7])⟩]⟩,
  ⟨"SCAN_CMD_STAT", 0x000C, [], [
    ⟨"PROG_OK", 16, 1, .zero, .rov, .l, .num, false, .any⟩,
    ⟨"STATUS", 8, 8, .zero, .rov, .l, .num, false, .any⟩,
    ⟨"OP", 0, 4, .zero, .rov, .l, .num, false, .any⟩]⟩,
  ⟨"SCAN_PROG_ID", 0x0010, [], [
    ⟨"ID", 0, 32, .zero, .rw, .s, .p, false, .any⟩]⟩,
  ⟨"SCAN_PROG_LEN", 0x0014, [], [
    ⟨"LEN", 0, 19, .zero, .rw, .s, .p, false, (.range 1 262144)⟩]⟩,
  ⟨"SCAN_PROG_CRC", 0x0018, [], [
    ⟨"CRC", 0, 32, .zero, .rw, .s, .p, false, .any⟩]⟩,
  ⟨"SCAN_FAULT", 0x001C, [], [
    ⟨"TRIPS", 24, 8, .zero, .rov, .l, .num, false, .any⟩,
    ⟨"CAUSE", 4, 4, .zero, .rov, .l, .num, false, .any⟩,
    ⟨"TASK", 0, 4, .zero, .rov, .l, .num, false, .any⟩]⟩,
  ⟨"SCAN_OUT_EN", 0x0020, [], [
    ⟨"ARM", 29, 1, .zero, .rw, .s, .p, false, .any⟩,
    ⟨"LAMP", 28, 1, .zero, .rw, .s, .p, false, .any⟩,
    ⟨"COIL", 16, 12, .zero, .rw, .s, .p, false, .any⟩,
    ⟨"DO", 0, 16, .zero, .rw, .s, .p, false, .any⟩]⟩,
  ⟨"SCAN_OWN_DO", 0x0024, [(4, 2)], [
    ⟨"TASK", 0, 32, .zero, .rw, .s, .p, false, .any⟩]⟩,
  ⟨"SCAN_OWN_COIL", 0x002C, [], [
    ⟨"TASK", 0, 32, .zero, .rw, .s, .p, false, .any⟩]⟩,
  ⟨"SCAN_OWN_COIL", 0x0030, [], [
    ⟨"TASK", 0, 16, .zero, .rw, .s, .p, false, .any⟩]⟩,
  ⟨"SCAN_OWN_MISC", 0x0034, [], [
    ⟨"ARM", 4, 4, .zero, .rw, .s, .p, false, .any⟩,
    ⟨"LAMP", 0, 4, .zero, .rw, .s, .p, false, .any⟩]⟩,
  ⟨"SCAN_SAFE", 0x0038, [], [
    ⟨"NODE", 29, 1, .zero, .rw, .h, .p, false, .any⟩,
    ⟨"LAMP", 28, 1, .zero, .rw, .h, .p, false, .any⟩,
    ⟨"COIL", 16, 12, .zero, .rw, .h, .p, false, .any⟩,
    ⟨"DO", 0, 16, .zero, .rw, .h, .p, false, .any⟩]⟩,
  ⟨"SCAN_NODE_CFG", 0x003C, [], [
    ⟨"LATCHED", 16, 16, .zero, .rov, .l, .num, false, .any⟩,
    ⟨"MISS_TOL", 0, 4, (.num 1), .rw, .h, .num, false, .any⟩]⟩,
  ⟨"SCAN_HOLD_LIMIT", 0x0040, [], [
    ⟨"S", 0, 16, (.num 300), .rw, .l, .num, false, (.range 10 3600)⟩]⟩,
  ⟨"SCAN_HOLD_STAT", 0x0044, [], [
    ⟨"BP", 24, 4, .zero, .rov, .l, .num, false, .any⟩,
    ⟨"TASK", 20, 4, .zero, .rov, .l, .num, false, .any⟩,
    ⟨"ADDR", 0, 18, .zero, .rov, .l, .num, false, .any⟩]⟩,
  ⟨"SCAN_BP", 0x0050, [(4, 8)], [
    ⟨"EN", 31, 1, .zero, .rw, .l, .num, false, .any⟩,
    ⟨"ANY_TASK", 24, 1, .zero, .rw, .l, .num, false, .any⟩,
    ⟨"TASK", 20, 4, .zero, .rw, .l, .num, false, .any⟩,
    ⟨"ADDR", 0, 18, .zero, .rw, .l, .num, false, .any⟩]⟩,
  ⟨"SCAN_TASK_CFG", 0x0100, [(4, 16)], [
    ⟨"EN", 31, 1, .zero, .rw, .s, .p, false, .any⟩,
    ⟨"GUARDED", 30, 1, .zero, .rw, .s, .p, false, .any⟩,
    ⟨"ALIGN", 28, 2, .zero, .rw, .s, .p, false, (.encMax 2)⟩,
    ⟨"ENTRY", 0, 18, .zero, .rw, .s, .p, false, .any⟩]⟩,
  ⟨"SCAN_TASK_TIME", 0x0140, [(4, 16)], [
    ⟨"PERIOD_MS", 16, 16, .zero, .rw, .s, .p, false, (.range 1 60000)⟩,
    ⟨"PHASE", 0, 16, .zero, .rw, .s, .p, false, .any⟩]⟩,
  ⟨"SCAN_TASK_START", 0x0180, [(4, 16)], [
    ⟨"START_US", 0, 13, (.num 100), .rw, .s, .num, false, (.range 60 5000)⟩]⟩]

/-- The registers of block SCAN. Part 2. -/
def regsScan2 : List RegDef := [
  ⟨"SCAN_TASK_STAT", 0x0200, [(4, 16)], [
    ⟨"OVERRUNS", 16, 16, .zero, .rov, .l, .num, false, .any⟩,
    ⟨"ERRORS", 8, 8, .zero, .rov, .l, .num, false, .any⟩,
    ⟨"ERR", 1, 1, .zero, .w1c, .l, .num, false, .any⟩,
    ⟨"OVR", 0, 1, .zero, .w1c, .l, .num, false, .any⟩]⟩,
  ⟨"SCAN_TASK_CNT", 0x0240, [(4, 16)], [
    ⟨"CYCLES", 0, 32, .zero, .rov, .l, .num, false, .any⟩]⟩,
  ⟨"SCAN_TASK_EXEC", 0x0280, [(4, 16)], [
    ⟨"MAX", 16, 16, .zero, .rov, .l, .num, false, .any⟩,
    ⟨"LAST", 0, 16, .zero, .rov, .l, .num, false, .any⟩]⟩,
  ⟨"SCAN_TASK_DELAY", 0x02C0, [(4, 16)], [
    ⟨"MAX", 16, 16, .zero, .rov, .l, .num, false, .any⟩,
    ⟨"LAST", 0, 16, .zero, .rov, .l, .num, false, .any⟩]⟩,
  ⟨"SCAN_EXEC_ERR", 0x0048, [], [
    ⟨"CODE", 28, 4, .zero, .rov, .l, .num, false, .any⟩,
    ⟨"TASK", 24, 4, .zero, .rov, .l, .num, false, .any⟩,
    ⟨"ADDR", 0, 18, .zero, .rov, .l, .num, false, .any⟩]⟩,
  ⟨"SCAN_HOLD_ACC", 0x0400, [], [
    ⟨"ACC", 0, 32, .zero, .rov, .l, .num, false, .any⟩]⟩,
  ⟨"SCAN_HOLD_P", 0x0404, [], [
    ⟨"P", 0, 32, .zero, .rov, .l, .num, false, .any⟩]⟩,
  ⟨"SCAN_HOLD_LOGIC", 0x0408, [], [
    ⟨"STACK", 8, 8, .zero, .rov, .l, .num, false, .any⟩,
    ⟨"DEPTH", 4, 4, .zero, .rov, .l, .num, false, .any⟩,
    ⟨"OV", 1, 1, .zero, .rov, .l, .num, false, .any⟩,
    ⟨"C", 0, 1, .zero, .rov, .l, .num, false, .any⟩]⟩]

/-- The registers of block SCAN. -/
def regsScan : List RegDef := regsScan1 ++ regsScan2

/-- The registers of block LAMP. Part 1. -/
def regsLamp1 : List RegDef := [
  ⟨"LAMP_CTRL", 0x0000, [], [
    ⟨"MTX_EN", 16, 1, .zero, .rw, .s, .p, false, .any⟩,
    ⟨"STR_EN", 8, 6, .zero, .rw, .s, .p, false, .any⟩,
    ⟨"ENABLE", 0, 1, .zero, .rw, .l, .p, false, .any⟩]⟩,
  ⟨"LAMP_STATUS", 0x0004, [], [
    ⟨"EJECT_ACTIVE", 20, 1, .zero, .rov, .l, .num, false, .any⟩,
    ⟨"AON_TRIP", 8, 8, .zero, .rov, .l, .num, false, .any⟩,
    ⟨"MATRIX_FAULT", 2, 1, .zero, .rov, .l, .num, false, .any⟩,
    ⟨"LOSS_LIMIT", 1, 1, .zero, .rov, .l, .num, false, .any⟩,
    ⟨"SUPPLY_LOW", 0, 1, .zero, .rov, .l, .num, false, .any⟩]⟩,
  ⟨"LAMP_SUPPLY", 0x0008, [], [
    ⟨"LOSS", 16, 16, .zero, .rov, .l, .num, false, .any⟩,
    ⟨"LED_IN", 0, 16, .zero, .rov, .l, .num, false, .any⟩]⟩,
  ⟨"LAMP_FLASH", 0x000C, [], [
    ⟨"OFF_10MS", 8, 8, .zero, .rw, .h, .p, false, (.range 1 255)⟩,
    ⟨"ON_10MS", 0, 8, .zero, .rw, .h, .p, false, (.range 1 255)⟩]⟩,
  ⟨"LAMP_CMD", 0x0010, [], [
    ⟨"OP", 28, 4, .zero, .wo, .l, .num, false, (.enc [1, 2, 3, 4])⟩,
    ⟨"ARG", 0, 3, .zero, .wo, .l, .num, false, .any⟩]⟩,
  ⟨"LAMP_CMD_STAT", 0x0014, [], [
    ⟨"STATUS", 8, 8, .zero, .rov, .l, .num, false, .any⟩,
    ⟨"OP", 0, 4, .zero, .rov, .l, .num, false, .any⟩]⟩,
  ⟨"LAMP_MTX_CFG", 0x0018, [], [
    ⟨"NTC", 28, 3, .zero, .rw, .h, .p, false, (.enc [0, 1, 2, 3, 4, 5, 7])⟩,
    ⟨"BLANK", 16, 12, .zero, .rw, .h, .p, false, .any⟩,
    ⟨"MSPREAD", 8, 2, .zero, .rw, .s, .p, false, .any⟩,
    ⟨"N_ROWS", 0, 5, .zero, .rw, .s, .p, false, (.range 1 16)⟩]⟩,
  ⟨"LAMP_MTX_STAT", 0x001C, [], [
    ⟨"ROW_MA", 16, 16, .zero, .rov, .l, .num, false, .any⟩,
    ⟨"FAULTED", 0, 10, .zero, .rov, .l, .num, false, .any⟩]⟩,
  ⟨"LAMP_LSEL", 0x0020, [], [
    ⟨"ID", 0, 10, .zero, .rw, .l, .num, true, .any⟩]⟩,
  ⟨"LAMP_MCFG", 0x0024, [], [
    ⟨"WEIGHT", 8, 8, .zero, .rw, .h, .p, false, .any⟩,
    ⟨"EN", 7, 1, .zero, .rw, .h, .p, false, .any⟩,
    ⟨"FUNC", 0, 5, .zero, .rw, .h, .p, false, .any⟩]⟩,
  ⟨"LAMP_LSTAT", 0x0028, [(4, 4)], [
    ⟨"WORD", 0, 32, .zero, .rov, .l, .num, false, .any⟩]⟩,
  ⟨"LAMP_AUDIT_CTRL", 0x0038, [], [
    ⟨"SNAP_CNT", 16, 16, .zero, .rov, .l, .num, false, .any⟩,
    ⟨"RESTORES", 8, 8, .zero, .rov, .l, .num, false, .any⟩,
    ⟨"SNAP", 0, 1, .zero, .wo, .l, .num, false, .any⟩]⟩,
  ⟨"LAMP_AUDIT", 0x003C, [(4, 5)], [
    ⟨"WORD", 0, 32, .zero, .rov, .l, .num, false, .any⟩]⟩,
  ⟨"LAMP_STR_CFG", 0x0100, [(4, 6)], [
    ⟨"NTC", 28, 3, .zero, .rw, .h, .p, false, (.enc [0, 1, 2, 3, 4, 5, 7])⟩,
    ⟨"SPREAD", 16, 3, .zero, .rw, .h, .p, false, (.range 0 6)⟩,
    ⟨"I_SET", 0, 10, .zero, .rw, .h, .p, false, (.range 50 1000)⟩]⟩,
  ⟨"LAMP_STR_VWIN", 0x0120, [(4, 6)], [
    ⟨"V_MAX", 16, 16, .zero, .rw, .h, .p, false, .any⟩,
    ⟨"V_MIN", 0, 16, .zero, .rw, .h, .p, false, .any⟩]⟩,
  ⟨"LAMP_STR_MEAS", 0x0140, [(4, 6)], [
    ⟨"V_OUT", 16, 16, .zero, .rov, .l, .num, false, .any⟩,
    ⟨"I_MA", 0, 16, .zero, .rov, .l, .num, false, .any⟩]⟩,
  ⟨"LAMP_STR_STAT", 0x0160, [(4, 6)], [
    ⟨"ROUTED", 16, 16, .zero, .rov, .l, .num, false, .any⟩,
    ⟨"RESTARTS", 4, 2, .zero, .rov, .l, .num, false, .any⟩,
    ⟨"UNDERCURRENT", 3, 1, .zero, .rov, .l, .num, false, .any⟩,
    ⟨"STRING_OPEN", 2, 1, .zero, .rov, .l, .num, false, .any⟩,
    ⟨"OVERCURRENT", 1, 1, .zero, .rov, .l, .num, false, .any⟩,
    ⟨"RUNNING", 0, 1, .zero, .rov, .l, .num, false, .any⟩]⟩,
  ⟨"LAMP_NTC_A", 0x0200, [(4, 6)], [
    ⟨"RES_25", 16, 16, .zero, .rw, .s, .p, false, .any⟩,
    ⟨"B", 0, 16, .zero, .rw, .s, .p, false, .any⟩]⟩,
  ⟨"LAMP_NTC_B", 0x0220, [(4, 6)], [
    ⟨"MIN_PCT", 24, 7, .zero, .rw, .h, .p, false, (.range 0 100)⟩,
    ⟨"T_SHUT", 16, 8, .zero, .rw, .h, .p, false, .any⟩,
    ⟨"T_STOP", 8, 8, .zero, .rw, .h, .p, false, .any⟩,
    ⟨"T_START", 0, 8, .zero, .rw, .h, .p, false, .any⟩]⟩,
  ⟨"LAMP_NTC_STAT", 0x0240, [(4, 6)], [
    ⟨"THERMAL", 25, 1, .zero, .rov, .l, .num, false, .any⟩,
    ⟨"NTC_FAULT", 24, 1, .zero, .rov, .l, .num, false, .any⟩,
    ⟨"SCALE", 16, 8, (.num 100), .rov, .l, .num, false, .any⟩,
    ⟨"TEMP", 0, 16, .zero, .rov, .l, .num, false, .any⟩]⟩]

/-- The registers of block LAMP. Part 2. -/
def regsLamp2 : List RegDef := [
  ⟨"LAMP_MTX_COL", 0x0300, [(4, 48)], [
    ⟨"I_COL", 0, 8, .zero, .rw, .h, .p, false, (.range 0 160)⟩]⟩,
  ⟨"LAMP_FUNC_CFG", 0x0400, [(4, 32)], [
    ⟨"AON_GROUP", 4, 3, .zero, .rw, .h, .p, false, .any⟩,
    ⟨"FLASH", 1, 2, .zero, .rw, .h, .p, false, (.encMax 2)⟩,
    ⟨"CURVE", 0, 1, .zero, .rw, .h, .p, false, .any⟩]⟩,
  ⟨"LAMP_FUNC_STAT", 0x0480, [(4, 32)], [
    ⟨"FADING", 18, 1, .zero, .rov, .l, .num, false, .any⟩,
    ⟨"MEMBER_FAULT", 17, 1, .zero, .rov, .l, .num, false, .any⟩,
    ⟨"AON_TRIP", 16, 1, .zero, .rov, .l, .num, false, .any⟩,
    ⟨"OUT", 0, 16, .zero, .rov, .l, .num, false, .any⟩]⟩,
  ⟨"LAMP_SL_CFG", 0x0600, [(64, 6), (4, 16)], [
    ⟨"WEIGHT", 8, 8, .zero, .rw, .h, .p, false, .any⟩,
    ⟨"EN", 7, 1, .zero, .rw, .h, .p, false, .any⟩,
    ⟨"FUNC", 0, 5, .zero, .rw, .h, .p, false, .any⟩]⟩,
  ⟨"LAMP_CNT", 0x0800, [(32, 7), (4, 8)], [
    ⟨"COUNT", 0, 32, .zero, .rov, .l, .num, false, .any⟩]⟩]

/-- The registers of block LAMP. -/
def regsLamp : List RegDef := regsLamp1 ++ regsLamp2

/-- The registers of block RING_A. -/
def regsRingA : List RegDef := [
  ⟨"RING_A_CTRL", 0x0000, [], [
    ⟨"FEC", 2, 2, .zero, .rw, .s, .p, false, (.encMax 2)⟩,
    ⟨"EN", 0, 1, .zero, .rw, .h, .p, false, .any⟩]⟩,
  ⟨"RING_A_PORT_STAT", 0x0010, [(4, 2)], [
    ⟨"LINK_EPOCH", 16, 16, .zero, .rov, .l, .num, false, .any⟩,
    ⟨"NEIGHBOUR", 10, 6, .zero, .rov, .l, .num, false, .any⟩,
    ⟨"MISSES", 4, 2, .zero, .rov, .l, .num, false, .any⟩,
    ⟨"SA_OK", 3, 1, .zero, .rov, .l, .num, false, .any⟩,
    ⟨"BLOCK_LOCK", 2, 1, .zero, .rov, .l, .num, false, .any⟩,
    ⟨"FAULT", 1, 1, .zero, .rov, .l, .num, false, .any⟩,
    ⟨"UP", 0, 1, .zero, .rov, .l, .num, false, .any⟩]⟩,
  ⟨"RING_A_PORT_DELAY", 0x0018, [(4, 2)], [
    ⟨"NS", 0, 32, .zero, .rov, .l, .num, false, .any⟩]⟩,
  ⟨"RING_A_PATH_STAT", 0x0020, [], [
    ⟨"WHOLE", 31, 1, .zero, .rov, .l, .num, false, .any⟩,
    ⟨"LONG_PATH", 30, 1, .zero, .rov, .l, .num, false, .any⟩,
    ⟨"RTT", 0, 16, .zero, .rov, .l, .num, false, .any⟩]⟩,
  ⟨"RING_A_CLASS_CELLS", 0x0030, [(4, 4)], [
    ⟨"ALLOT", 0, 13, .zero, .rw, .s, .p, false, .any⟩]⟩,
  ⟨"RING_A_CREDIT", 0x0040, [(4, 4)], [
    ⟨"HELD", 16, 16, .zero, .rov, .l, .num, false, .any⟩,
    ⟨"AVAILABLE", 0, 16, .zero, .rov, .l, .num, false, .any⟩]⟩,
  ⟨"RING_A_AUDIT_CTRL", 0x0050, [], [
    ⟨"SNAP_CNT", 16, 16, .zero, .rov, .l, .num, false, .any⟩,
    ⟨"SNAP", 0, 1, .zero, .wo, .l, .num, false, .any⟩]⟩,
  ⟨"RING_A_AUDIT", 0x0054, [(4, 24)], [
    ⟨"VALUE", 0, 32, .zero, .rov, .l, .num, false, .any⟩]⟩,
  ⟨"RING_A_CNT", 0x0100, [(4, 16)], [
    ⟨"COUNT", 0, 32, .zero, .rov, .l, .num, false, .any⟩]⟩]

/-- The registers of block CAPO. -/
def regsCapo : List RegDef := [
  ⟨"CAPO_RING_ID", 0x0000, [], [
    ⟨"RING", 6, 8, .zero, .rw, .s, .p, false, .any⟩,
    ⟨"POSITION", 0, 6, .zero, .rw, .s, .p, false, .any⟩]⟩,
  ⟨"CAPO_CFG", 0x0004, [], [
    ⟨"REVERT_S", 16, 16, (.num 300), .rw, .h, .num, false, (.range 10 65535)⟩,
    ⟨"PROBE_10US", 8, 8, (.num 100), .rw, .h, .num, false, (.range 10 255)⟩,
    ⟨"REVERT", 1, 1, .zero, .rw, .h, .num, false, .any⟩,
    ⟨"PREFER", 0, 1, .zero, .rw, .h, .p, false, .any⟩]⟩,
  ⟨"CAPO_STAT", 0x0008, [], [
    ⟨"SWITCH_EPOCH", 16, 16, .zero, .rov, .l, .num, false, .any⟩,
    ⟨"CAPO_STUCK", 9, 1, .zero, .rov, .l, .num, false, .any⟩,
    ⟨"STANDBY_READY", 8, 1, .zero, .rov, .l, .num, false, .any⟩,
    ⟨"GRANT", 4, 2, .zero, .rov, .l, .num, false, .any⟩,
    ⟨"STATE", 0, 3, .zero, .rov, .l, .num, false, .any⟩]⟩,
  ⟨"CAPO_CMD", 0x000C, [], [
    ⟨"KEY", 16, 16, .zero, .wo, .l, .num, false, (.key 0x5AC3)⟩,
    ⟨"OP", 0, 2, .zero, .wo, .l, .num, false, (.enc [1, 2, 3])⟩]⟩,
  ⟨"CAPO_SWITCH", 0x0010, [], [
    ⟨"CAUSE", 28, 4, .zero, .rov, .l, .num, false, .any⟩,
    ⟨"BY_ANNOUNCE", 27, 1, .zero, .rov, .l, .num, false, .any⟩,
    ⟨"DETECT_US", 0, 16, .zero, .rov, .l, .num, false, .any⟩]⟩,
  ⟨"CAPO_TAKEOVER", 0x0014, [], [
    ⟨"CMD_STATUS", 24, 8, .zero, .rov, .l, .num, false, .any⟩,
    ⟨"TIME", 0, 16, .zero, .rov, .l, .num, false, .any⟩]⟩,
  ⟨"CAPO_MEMBERS_LO", 0x0018, [], [
    ⟨"BITS", 0, 32, .zero, .rov, .l, .num, false, .any⟩]⟩,
  ⟨"CAPO_MEMBERS_HI", 0x001C, [], [
    ⟨"BITS", 0, 32, .zero, .rov, .l, .num, false, .any⟩]⟩,
  ⟨"CAPO_GATEWAY", 0x0020, [], [
    ⟨"VALID", 31, 1, .zero, .rov, .l, .num, false, .any⟩,
    ⟨"POSITION", 0, 6, .zero, .rov, .l, .num, false, .any⟩]⟩,
  ⟨"CAPO_SMEMBERS_LO", 0x0024, [], [
    ⟨"BITS", 0, 32, .zero, .rov, .l, .num, false, .any⟩]⟩,
  ⟨"CAPO_SMEMBERS_HI", 0x0028, [], [
    ⟨"BITS", 0, 32, .zero, .rov, .l, .num, false, .any⟩]⟩,
  ⟨"CAPO_ANNOUNCE_LAST", 0x002C, [], [
    ⟨"EPOCH", 16, 16, .zero, .rov, .l, .num, false, .any⟩,
    ⟨"TARGET", 15, 1, .zero, .rov, .l, .num, false, .any⟩,
    ⟨"REPORTER", 0, 14, .zero, .rov, .l, .num, false, .any⟩]⟩,
  ⟨"CAPO_CNT", 0x0040, [(4, 8)], [
    ⟨"COUNT", 0, 32, .zero, .rov, .l, .num, false, .any⟩]⟩]

/-- The registers of block HCP. -/
def regsHcp : List RegDef := [
  ⟨"HCP_CTRL", 0x0000, [], [
    ⟨"IPV4", 1, 1, .zero, .rw, .s, .p, false, .any⟩,
    ⟨"EN", 0, 1, .zero, .rw, .h, .p, false, .any⟩]⟩,
  ⟨"HCP_PORT_STAT", 0x0004, [], [
    ⟨"RATE", 1, 3, .zero, .rov, .l, .num, false, .any⟩,
    ⟨"GATEWAY", 0, 1, .zero, .rov, .l, .num, false, .any⟩]⟩,
  ⟨"HCP_FWD_CFG", 0x0008, [], [
    ⟨"FWD_MS", 0, 16, (.num 20), .rw, .h, .num, false, (.range 2 1000)⟩]⟩,
  ⟨"HCP_EVT_CFG", 0x000C, [], [
    ⟨"SESSION", 16, 2, .zero, .rw, .h, .num, false, .any⟩,
    ⟨"RESEND_MS", 0, 16, (.num 1000), .rw, .h, .num, false, (.range 100 60000)⟩]⟩,
  ⟨"HCP_EVT_STAT", 0x0010, [], [
    ⟨"DROPPED", 16, 16, .zero, .rov, .l, .num, false, .any⟩,
    ⟨"PENDING", 0, 11, .zero, .rov, .l, .num, false, .any⟩]⟩,
  ⟨"HCP_SESSION_STAT", 0x0020, [(4, 4)], [
    ⟨"LAST_TID", 16, 16, .zero, .rov, .l, .num, false, .any⟩,
    ⟨"STAGED_PCT", 8, 8, .zero, .rov, .l, .num, false, .any⟩,
    ⟨"BOUND", 0, 1, .zero, .rov, .l, .num, false, .any⟩]⟩,
  ⟨"HCP_LAST_COMMIT", 0x0040, [(8, 4)], [
    ⟨"CT_ID", 16, 16, .zero, .rov, .l, .num, false, .any⟩,
    ⟨"TID", 0, 16, .zero, .rov, .l, .num, false, .any⟩]⟩,
  ⟨"HCP_LAST_COMMIT_STAT", 0x0044, [(8, 4)], [
    ⟨"COMMITS", 16, 16, .zero, .rov, .l, .num, false, .any⟩,
    ⟨"STATUS", 8, 8, .zero, .rov, .l, .num, false, .any⟩,
    ⟨"KIND", 0, 8, .zero, .rov, .l, .num, false, .any⟩]⟩,
  ⟨"HCP_CNT", 0x0100, [(4, 8)], [
    ⟨"COUNT", 0, 32, .zero, .rov, .l, .num, false, .any⟩]⟩]

/-- The registers of block TIME. Part 1. -/
def regsTime1 : List RegDef := [
  ⟨"TIME_TB0_SUB", 0x0000, [], [
    ⟨"EPOCH", 16, 8, .zero, .rov, .l, .num, false, .any⟩,
    ⟨"FRAC", 0, 16, .zero, .rov, .l, .num, false, .any⟩]⟩,
  ⟨"TIME_TB0_NS", 0x0004, [], [
    ⟨"NS", 0, 32, .zero, .rov, .l, .num, false, .any⟩]⟩,
  ⟨"TIME_TB0_S_LO", 0x0008, [], [
    ⟨"SEC", 0, 32, .zero, .rov, .l, .num, false, .any⟩]⟩,
  ⟨"TIME_TB0_S_HI", 0x000C, [], [
    ⟨"SEC", 0, 32, .zero, .rov, .l, .num, false, .any⟩]⟩,
  ⟨"TIME_TB0_STAT", 0x0010, [], [
    ⟨"STEP_HELD", 6, 1, .zero, .rov, .l, .num, false, .any⟩,
    ⟨"HOLDOVER", 5, 1, .zero, .rov, .l, .num, false, .any⟩,
    ⟨"LOCKED", 4, 1, .zero, .rov, .l, .num, false, .any⟩,
    ⟨"VALID", 3, 1, .zero, .rov, .l, .num, false, .any⟩,
    ⟨"SOURCE", 0, 3, .zero, .rov, .l, .num, false, .any⟩]⟩,
  ⟨"TIME_TB0_OFFSET", 0x0014, [], [
    ⟨"NS", 0, 32, .zero, .rov, .l, .num, false, .any⟩]⟩,
  ⟨"TIME_TB0_ADJ", 0x0018, [], [
    ⟨"ADJ", 0, 32, .zero, .rov, .l, .num, false, .any⟩]⟩,
  ⟨"TIME_STEP_CFG", 0x001C, [], [
    ⟨"POLICY", 31, 1, .zero, .rw, .h, .p, false, .any⟩,
    ⟨"CONFIRM", 16, 8, (.num 128), .rw, .h, .num, false, (.range 1 255)⟩,
    ⟨"STEP_US", 0, 16, (.num 1000), .rw, .h, .num, false, (.range 10 65535)⟩]⟩,
  ⟨"TIME_STEP_LAST", 0x0020, [], [
    ⟨"MS", 0, 32, .zero, .rov, .l, .num, false, .any⟩]⟩,
  ⟨"TIME_STEP_CNT", 0x0024, [], [
    ⟨"BACKWARD", 16, 16, .zero, .rov, .l, .num, false, .any⟩,
    ⟨"FORWARD", 0, 16, .zero, .rov, .l, .num, false, .any⟩]⟩,
  ⟨"TIME_SERVO_CFG", 0x0030, [(4, 3)], [
    ⟨"KP", 16, 16, .zero, .rw, .h, .p, false, .any⟩,
    ⟨"KI", 0, 16, .zero, .rw, .h, .p, false, .any⟩]⟩,
  ⟨"TIME_SERVO_LIM", 0x003C, [], [
    ⟨"MAX_PPM", 0, 8, (.num 50), .rw, .h, .num, false, (.range 1 200)⟩]⟩,
  ⟨"TIME_LOCK_CFG", 0x0040, [], [
    ⟨"HOLDOVER_S", 16, 16, (.num 60), .rw, .h, .num, false, (.range 1 65535)⟩,
    ⟨"LOCK_NS", 0, 16, (.num 50), .rw, .h, .num, false, (.range 10 65535)⟩]⟩,
  ⟨"TIME_TB0_CMD", 0x0044, [], [
    ⟨"KEY", 16, 16, .zero, .wo, .l, .num, false, (.key 0x7A51)⟩,
    ⟨"OP", 0, 2, .zero, .wo, .l, .num, false, (.enc [1, 2])⟩]⟩,
  ⟨"TIME_TB0_SET_NS", 0x0048, [], [
    ⟨"VALUE", 0, 32, .zero, .rw, .l, .num, true, .any⟩]⟩,
  ⟨"TIME_TB0_SET_S_LO", 0x004C, [], [
    ⟨"VALUE", 0, 32, .zero, .rw, .l, .num, true, .any⟩]⟩,
  ⟨"TIME_TB0_SET_S_HI", 0x0050, [], [
    ⟨"VALUE", 0, 32, .zero, .rw, .l, .num, true, .any⟩]⟩,
  ⟨"TIME_TB1_CYCLE", 0x0060, [], [
    ⟨"COUNT", 0, 32, .zero, .rov, .l, .num, false, .any⟩]⟩,
  ⟨"TIME_TB1_STAT", 0x0064, [], [
    ⟨"PHASE", 16, 16, .zero, .rov, .l, .num, false, .any⟩,
    ⟨"SOURCE", 14, 2, .zero, .rov, .l, .num, false, .any⟩,
    ⟨"LOCKED", 13, 1, .zero, .rov, .l, .num, false, .any⟩,
    ⟨"HOLDOVER", 12, 1, (.num 1), .rov, .l, .num, false, .any⟩]⟩,
  ⟨"TIME_TB1_FREQ", 0x0068, [], [
    ⟨"MHZ", 0, 16, .zero, .rov, .l, .num, false, .any⟩]⟩]

/-- The registers of block TIME. Part 2. -/
def regsTime2 : List RegDef := [
  ⟨"TIME_TB2_STAT", 0x0070, [], [
    ⟨"SLEW", 31, 1, .zero, .rov, .l, .num, false, .any⟩,
    ⟨"ALIGN_US", 0, 20, .zero, .rov, .l, .num, false, .any⟩]⟩,
  ⟨"TIME_TB3_LO", 0x0078, [], [
    ⟨"US", 0, 32, .zero, .rov, .l, .num, false, .any⟩]⟩,
  ⟨"TIME_TB3_HI", 0x007C, [], [
    ⟨"US", 0, 32, .zero, .rov, .l, .num, false, .any⟩]⟩,
  ⟨"TIME_PTP_CFG", 0x0080, [], [
    ⟨"EN", 31, 1, .zero, .rw, .h, .p, false, .any⟩,
    ⟨"LOCAL_GM", 30, 1, .zero, .rw, .h, .p, false, .any⟩,
    ⟨"LOG_DREQ", 24, 3, (.num 4), .rw, .h, .num, false, (.range 0 7)⟩,
    ⟨"DOMAIN", 8, 8, .zero, .rw, .s, .p, false, (.range 0 127)⟩]⟩,
  ⟨"TIME_PTP_STAT", 0x0084, [], [
    ⟨"GM_CLASS", 24, 8, .zero, .rov, .l, .num, false, .any⟩,
    ⟨"SLAVE_PORT", 5, 3, (.num 7), .rov, .l, .num, false, .any⟩,
    ⟨"BC", 4, 1, .zero, .rov, .l, .num, false, .any⟩,
    ⟨"STATE", 0, 4, (.num 1), .rov, .l, .num, false, .any⟩]⟩,
  ⟨"TIME_PTP_GM_LO", 0x0088, [], [
    ⟨"ID", 0, 32, .zero, .rov, .l, .num, false, .any⟩]⟩,
  ⟨"TIME_PTP_GM_HI", 0x008C, [], [
    ⟨"ID", 0, 32, .zero, .rov, .l, .num, false, .any⟩]⟩,
  ⟨"TIME_PTP_UTC", 0x0090, [], [
    ⟨"VALID", 18, 1, .zero, .rov, .l, .num, false, .any⟩,
    ⟨"LEAP61", 17, 1, .zero, .rov, .l, .num, false, .any⟩,
    ⟨"LEAP59", 16, 1, .zero, .rov, .l, .num, false, .any⟩,
    ⟨"OFFSET_S", 0, 16, .zero, .rov, .l, .num, false, .any⟩]⟩,
  ⟨"TIME_PTP_DELAY", 0x0094, [], [
    ⟨"NS", 0, 32, .zero, .rov, .l, .num, false, .any⟩]⟩,
  ⟨"TIME_PORT_ASYM", 0x00A0, [(4, 5)], [
    ⟨"PS", 0, 32, .zero, .rw, .h, .p, false, .any⟩]⟩,
  ⟨"TIME_PTP_CNT", 0x0100, [(4, 8)], [
    ⟨"COUNT", 0, 32, .zero, .rov, .l, .num, false, .any⟩]⟩]

/-- The registers of block TIME. -/
def regsTime : List RegDef := regsTime1 ++ regsTime2

/-- The registers of block RTC. -/
def regsRtc : List RegDef := [
  ⟨"RTC_TIME_LO", 0x0000, [], [
    ⟨"SEC", 16, 16, .zero, .rw, .l, .b, false, .any⟩,
    ⟨"FRAC", 0, 16, .zero, .rw, .l, .b, false, .any⟩]⟩,
  ⟨"RTC_TIME_HI", 0x0004, [], [
    ⟨"SEC", 0, 32, .zero, .rw, .l, .b, false, .any⟩]⟩,
  ⟨"RTC_CTRL", 0x0008, [], [
    ⟨"HALT", 0, 1, .zero, .rw, .l, .b, false, .any⟩]⟩,
  ⟨"RTC_STAT", 0x000C, [], [
    ⟨"PENDING", 16, 16, .zero, .rov, .l, .num, false, .any⟩,
    ⟨"HALT_TIMEOUT", 1, 1, .zero, .w1c, .l, .num, false, .any⟩,
    ⟨"OSF", 0, 1, .zero, .rov, .l, .b, false, .any⟩]⟩,
  ⟨"RTC_TRIM", 0x0010, [], [
    ⟨"TRIM", 0, 14, .zero, .rw, .l, .b, false, (.srange (-8191) 8191)⟩]⟩,
  ⟨"RTC_VBAT", 0x0014, [], [
    ⟨"MV", 0, 16, .zero, .rov, .l, .num, false, .any⟩]⟩,
  ⟨"RTC_CNT", 0x0018, [], [
    ⟨"SETS", 16, 16, .zero, .rov, .l, .b, false, .any⟩,
    ⟨"STOPS", 0, 16, .zero, .rov, .l, .b, false, .any⟩]⟩]

/-- The registers of block KEY. -/
def regsKey : List RegDef := [
  ⟨"KEY_LC", 0x0000, [], [
    ⟨"REFURB", 8, 2, .zero, .rov, .l, .b, false, .any⟩,
    ⟨"TEST_ROOT", 6, 1, .zero, .rov, .l, .num, false, .any⟩,
    ⟨"ROOT_PRESENT", 5, 1, .zero, .rov, .l, .b, false, .any⟩,
    ⟨"DEBUG_OPEN", 4, 1, .zero, .rov, .l, .num, false, .any⟩,
    ⟨"STATE", 0, 3, .zero, .rov, .l, .b, false, .any⟩]⟩,
  ⟨"KEY_CMD", 0x0004, [], [
    ⟨"KEY", 16, 16, .zero, .wo, .l, .num, false, (.key 0x4B45)⟩,
    ⟨"ARG", 8, 6, .zero, .wo, .l, .num, false, .any⟩,
    ⟨"OP", 0, 4, .zero, .wo, .l, .num, false, (.enc [1, 2, 3, 4, 5, 6, 7, 8, 9])⟩]⟩,
  ⟨"KEY_CMD_STAT", 0x0008, [], [
    ⟨"STATUS", 8, 8, .zero, .rov, .l, .num, false, .any⟩,
    ⟨"OP", 0, 4, .zero, .rov, .l, .num, false, .any⟩]⟩,
  ⟨"KEY_TAMPER", 0x000C, [], [
    ⟨"ZEROISED", 3, 1, .zero, .w1c, .l, .b, false, .any⟩,
    ⟨"DOOR", 2, 1, .zero, .w1c, .l, .b, false, .any⟩,
    ⟨"MESH", 1, 1, .zero, .w1c, .l, .b, false, .any⟩,
    ⟨"LID", 0, 1, .zero, .w1c, .l, .b, false, .any⟩]⟩,
  ⟨"KEY_TAMPER_CFG", 0x0010, [], [
    ⟨"DOOR_ACTION", 0, 1, .zero, .rw, .l, .p, false, .any⟩]⟩,
  ⟨"KEY_TAMPER_CNT", 0x0014, [], [
    ⟨"ZEROISE", 24, 8, .zero, .rov, .l, .b, false, .any⟩,
    ⟨"DOOR", 16, 8, .zero, .rov, .l, .b, false, .any⟩,
    ⟨"MESH", 8, 8, .zero, .rov, .l, .b, false, .any⟩,
    ⟨"LID", 0, 8, .zero, .rov, .l, .b, false, .any⟩]⟩,
  ⟨"KEY_STAGE_PTR", 0x0018, [], [
    ⟨"OFFSET", 0, 10, .zero, .rw, .l, .num, false, (.mult 4)⟩]⟩,
  ⟨"KEY_STAGE_DATA", 0x001C, [], [
    ⟨"DATA", 0, 32, .zero, .wo, .l, .num, false, .any⟩]⟩,
  ⟨"KEY_CNT", 0x0020, [(4, 4)], [
    ⟨"COUNT", 0, 32, .zero, .rov, .l, .num, false, .any⟩]⟩,
  ⟨"KEY_CHAL", 0x0040, [(4, 8)], [
    ⟨"NONCE", 0, 32, .zero, .rov, .l, .num, false, .any⟩]⟩,
  ⟨"KEY_ANCHOR_STAT", 0x0060, [(4, 8)], [
    ⟨"USE", 16, 8, .zero, .rov, .l, .b, false, .any⟩,
    ⟨"ID", 0, 16, .zero, .rov, .l, .b, false, .any⟩]⟩,
  ⟨"KEY_SLOT_CFG", 0x0100, [(4, 64)], [
    ⟨"CTX", 16, 16, .zero, .rw, .l, .p, false, .any⟩,
    ⟨"NEXT", 8, 6, .zero, .rw, .l, .p, false, .any⟩,
    ⟨"KIND", 0, 4, .zero, .rw, .l, .p, false, (.encMax 2)⟩]⟩,
  ⟨"KEY_SLOT_STAT", 0x0200, [(4, 64)], [
    ⟨"GEN", 16, 16, .zero, .rov, .l, .b, false, .any⟩,
    ⟨"STATE", 0, 2, .zero, .rov, .l, .b, false, .any⟩]⟩]

/-- The registers of block RESTR. -/
def regsRestr : List RegDef := [
  ⟨"RESTR_SLOT_STAT", 0x0000, [(4, 2)], [
    ⟨"GEN", 16, 16, .zero, .rov, .l, .num, false, .any⟩,
    ⟨"TRIED", 5, 1, .zero, .rov, .l, .num, false, .any⟩,
    ⟨"RUNNING", 4, 1, .zero, .rov, .l, .num, false, .any⟩,
    ⟨"STATE", 0, 4, .zero, .rov, .l, .num, false, .any⟩]⟩,
  ⟨"RESTR_SLOT_ID", 0x0008, [(4, 2)], [
    ⟨"IMAGE_ID", 0, 32, .zero, .rov, .l, .num, false, .any⟩]⟩,
  ⟨"RESTR_CMD", 0x0010, [], [
    ⟨"KEY", 16, 16, .zero, .wo, .l, .num, false, (.key 0x5253)⟩,
    ⟨"OP", 0, 4, .zero, .wo, .l, .num, false, (.enc [1, 2, 3, 4, 5])⟩]⟩,
  ⟨"RESTR_CMD_STAT", 0x0014, [], [
    ⟨"STATUS", 8, 8, .zero, .rov, .l, .num, false, .any⟩,
    ⟨"OP", 0, 4, .zero, .rov, .l, .num, false, .any⟩]⟩,
  ⟨"RESTR_ACT_TIME_LO", 0x0018, [], [
    ⟨"SEC", 0, 32, .zero, .rw, .l, .num, false, .any⟩]⟩,
  ⟨"RESTR_ACT_TIME_HI", 0x001C, [], [
    ⟨"SEC", 0, 32, .zero, .rw, .l, .num, false, .any⟩]⟩,
  ⟨"RESTR_CONFIRM", 0x0020, [], [
    ⟨"LEFT_MIN", 16, 11, .zero, .rov, .l, .num, false, .any⟩,
    ⟨"CONFIRM_MIN", 0, 11, (.num 60), .rw, .l, .num, false, (.range 1 1440)⟩]⟩,
  ⟨"RESTR_FALLBACK", 0x0024, [], [
    ⟨"COUNT", 24, 8, .zero, .rov, .l, .num, false, .any⟩,
    ⟨"REASON", 0, 4, .zero, .rov, .l, .num, false, .any⟩]⟩,
  ⟨"RESTR_FEED_CTRL", 0x0028, [], [
    ⟨"BLOCK", 16, 16, .zero, .wo, .l, .num, false, .any⟩,
    ⟨"TARGET", 0, 5, .zero, .wo, .l, .num, false, (.encMax 16)⟩]⟩,
  ⟨"RESTR_FEED_DATA", 0x002C, [], [
    ⟨"DATA", 0, 32, .zero, .wo, .l, .num, false, .any⟩]⟩,
  ⟨"RESTR_FEED_STAT", 0x0030, [], [
    ⟨"STATUS", 24, 8, .zero, .rov, .l, .num, false, .any⟩,
    ⟨"OCTETS", 0, 17, .zero, .rov, .l, .num, false, .any⟩]⟩,
  ⟨"RESTR_NIMG_CMD", 0x0034, [], [
    ⟨"OP", 28, 4, .zero, .wo, .l, .num, false, (.enc [1, 2, 3])⟩,
    ⟨"ENTRY", 24, 4, .zero, .wo, .l, .num, false, .any⟩,
    ⟨"TARGET", 0, 14, .zero, .wo, .l, .num, false, .any⟩]⟩,
  ⟨"RESTR_NIMG_SEL", 0x0038, [], [
    ⟨"ENTRY", 0, 4, .zero, .rw, .l, .num, true, .any⟩]⟩,
  ⟨"RESTR_NIMG_STAT", 0x003C, [], [
    ⟨"DONE", 18, 14, .zero, .rov, .l, .num, false, .any⟩,
    ⟨"ROUND", 8, 8, .zero, .rov, .l, .num, false, .any⟩,
    ⟨"STATE", 0, 4, .zero, .rov, .l, .num, false, .any⟩]⟩,
  ⟨"RESTR_AUDIT_CTRL", 0x0040, [], [
    ⟨"SNAP_CNT", 16, 16, .zero, .rov, .l, .num, false, .any⟩,
    ⟨"TARGET", 8, 5, .zero, .rw, .l, .num, true, (.encMax 16)⟩,
    ⟨"SNAP", 0, 1, .zero, .wo, .l, .num, false, .any⟩]⟩,
  ⟨"RESTR_AUDIT", 0x0044, [(4, 5)], [
    ⟨"VALUE", 0, 32, .zero, .rov, .l, .num, false, .any⟩]⟩,
  ⟨"RESTR_BITMAP", 0x0100, [(4, 64)], [
    ⟨"VERIFIED", 0, 32, .zero, .rov, .l, .num, false, .any⟩]⟩]

/-- The registers of block REC. -/
def regsRec : List RegDef := [
  ⟨"REC_CTRL", 0x0000, [], [
    ⟨"OP", 28, 4, .zero, .wo, .l, .num, false, (.enc [1, 2])⟩,
    ⟨"BIND", 0, 4, .zero, .wo, .l, .num, false, .any⟩]⟩,
  ⟨"REC_STAT", 0x0004, [], [
    ⟨"FULL", 2, 1, .zero, .rov, .l, .num, false, .any⟩,
    ⟨"LOW", 1, 1, .zero, .rov, .l, .num, false, .any⟩,
    ⟨"READY", 0, 1, .zero, .rov, .l, .num, false, .any⟩]⟩,
  ⟨"REC_SNAP_POS", 0x0008, [], [
    ⟨"OPEN", 31, 1, .zero, .rov, .l, .num, false, .any⟩,
    ⟨"BLOCK", 3, 16, .zero, .rov, .l, .num, false, .any⟩,
    ⟨"SLOTS", 0, 3, .zero, .rov, .l, .num, false, .any⟩]⟩,
  ⟨"REC_SEQ", 0x000C, [], [
    ⟨"NEXT", 0, 32, .zero, .rov, .l, .num, false, .any⟩]⟩,
  ⟨"REC_FREE", 0x0010, [], [
    ⟨"BLOCKS", 0, 17, .zero, .rov, .l, .num, false, .any⟩]⟩,
  ⟨"REC_RESERVE", 0x0014, [], [
    ⟨"BLOCKS", 0, 13, (.num 256), .rw, .l, .num, false, (.range 16 4096)⟩]⟩,
  ⟨"REC_HOLDOFF", 0x0018, [], [
    ⟨"S", 0, 12, (.num 60), .rw, .l, .num, false, (.range 1 3600)⟩]⟩,
  ⟨"REC_SNAP_LIST", 0x001C, [], [
    ⟨"N_REGS", 0, 6, .zero, .rov, .l, .num, false, .any⟩]⟩,
  ⟨"REC_FETCH", 0x0020, [], [
    ⟨"LIVE", 31, 1, .zero, .wo, .l, .num, false, .any⟩,
    ⟨"BIND", 24, 4, .zero, .wo, .l, .num, false, .any⟩,
    ⟨"UNIT", 0, 19, .zero, .wo, .l, .num, false, .any⟩]⟩,
  ⟨"REC_FETCH_STAT", 0x0024, [], [
    ⟨"STATUS", 24, 8, .zero, .rov, .l, .num, false, .any⟩,
    ⟨"KIND", 19, 2, .zero, .rov, .l, .num, false, .any⟩,
    ⟨"NEXT_UNIT", 0, 19, .zero, .rov, .l, .num, false, .any⟩]⟩,
  ⟨"REC_CNT", 0x0040, [(4, 16)], [
    ⟨"COUNT", 0, 32, .zero, .rov, .l, .num, false, .any⟩]⟩,
  ⟨"REC_BIND_CFG", 0x0100, [(4, 16)], [
    ⟨"EN", 31, 1, .zero, .rw, .h, .p, false, .any⟩,
    ⟨"MODE", 29, 2, .zero, .rw, .h, .p, false, (.encMax 2)⟩,
    ⟨"PERIOD_H", 16, 13, .zero, .rw, .h, .p, false, .any⟩,
    ⟨"CODE", 0, 16, .zero, .rw, .h, .p, false, .any⟩]⟩,
  ⟨"REC_BIND_ARG", 0x0140, [(4, 16)], [
    ⟨"SAMPLE", 20, 12, .zero, .rw, .h, .p, false, .any⟩,
    ⟨"ARG", 0, 20, .zero, .rw, .h, .p, false, .any⟩]⟩,
  ⟨"REC_BIND_LOW", 0x0180, [(4, 16)], [
    ⟨"LOW", 0, 32, .zero, .rw, .h, .p, false, .any⟩]⟩,
  ⟨"REC_BIND_BINS", 0x01C0, [(4, 16)], [
    ⟨"WIDTH", 16, 16, .zero, .rw, .h, .p, false, .any⟩,
    ⟨"N_BINS", 0, 16, .zero, .rw, .h, .p, false, (.range 1 989)⟩]⟩,
  ⟨"REC_BIND_STAT", 0x0200, [(4, 16)], [
    ⟨"PAGES", 16, 16, .zero, .rov, .l, .num, false, .any⟩,
    ⟨"FALLBACK", 2, 1, .zero, .rov, .l, .num, false, .any⟩,
    ⟨"SATURATED", 1, 1, .zero, .rov, .l, .num, false, .any⟩,
    ⟨"LIVE", 0, 1, .zero, .rov, .l, .num, false, .any⟩]⟩]

/-- The registers of block LEDGER. -/
def regsLedger : List RegDef := [
  ⟨"LEDGER_SNAP", 0x0000, [], [
    ⟨"MASK", 0, 7, .zero, .wo, .l, .num, false, .any⟩]⟩,
  ⟨"LEDGER_SEL", 0x0004, [], [
    ⟨"TARGET", 8, 5, .zero, .rw, .l, .num, true, (.encMax 16)⟩,
    ⟨"Q", 0, 7, .zero, .rw, .l, .num, true, .any⟩]⟩,
  ⟨"LEDGER_RING_AT_LO", 0x0008, [], [
    ⟨"CYCLE", 0, 32, .zero, .rw, .l, .num, false, .any⟩]⟩,
  ⟨"LEDGER_RING_AT_HI", 0x000C, [], [
    ⟨"CYCLE", 0, 32, .zero, .rw, .l, .num, false, .any⟩]⟩,
  ⟨"LEDGER_STAT", 0x0010, [], [
    ⟨"BAL", 16, 7, .zero, .rov, .l, .num, false, .any⟩,
    ⟨"IMBAL", 8, 7, .zero, .w1c, .l, .num, false, .any⟩,
    ⟨"UNSYNC", 7, 1, .zero, .rov, .l, .num, false, .any⟩,
    ⟨"DONE", 0, 7, .zero, .rov, .l, .num, false, .any⟩]⟩,
  ⟨"LEDGER_CHECK_CFG", 0x0014, [], [
    ⟨"CHECK_S", 0, 16, (.num 60), .rw, .l, .num, false, .any⟩]⟩,
  ⟨"LEDGER_IMBAL_CNT", 0x0020, [(4, 7)], [
    ⟨"COUNT", 0, 32, .zero, .rov, .l, .num, false, .any⟩]⟩,
  ⟨"LEDGER_TERM", 0x0100, [(4, 103)], [
    ⟨"WORD", 0, 32, .zero, .rov, .l, .num, false, .any⟩]⟩]

/-- The registers of block SLOT. -/
def regsSlot : List RegDef := [
  ⟨"SLOT_STATUS", 0x0000, [], [
    ⟨"EJECT_PREP", 21, 1, .zero, .rov, .l, .num, false, .any⟩,
    ⟨"EJECT_ACTIVE", 20, 1, .zero, .rov, .l, .num, false, .any⟩,
    ⟨"BYPASS_STATE_B", 17, 1, .zero, .rov, .l, .num, false, .any⟩,
    ⟨"BYPASS_STATE_A", 16, 1, .zero, .rov, .l, .num, false, .any⟩,
    ⟨"HOLD_B", 13, 1, .zero, .rov, .l, .num, false, .any⟩,
    ⟨"HOLD_A", 12, 1, .zero, .rov, .l, .num, false, .any⟩,
    ⟨"LEVER", 9, 1, .zero, .rov, .l, .num, false, .any⟩,
    ⟨"PRESENT", 8, 1, .zero, .rov, .l, .num, false, .any⟩,
    ⟨"ADDR", 0, 6, (.num 63), .rov, .l, .num, false, .any⟩]⟩,
  ⟨"SLOT_BYPASS_CTRL", 0x0004, [], [
    ⟨"HOLD_EN_B", 1, 1, (.num 1), .rw, .l, .num, false, .any⟩,
    ⟨"HOLD_EN_A", 0, 1, (.num 1), .rw, .l, .num, false, .any⟩]⟩,
  ⟨"SLOT_LOOPBACK", 0x0008, [], [
    ⟨"RETRY_B", 24, 8, .zero, .rov, .l, .num, false, .any⟩,
    ⟨"RETRY_A", 16, 8, .zero, .rov, .l, .num, false, .any⟩,
    ⟨"PORT_OK", 8, 4, .zero, .rov, .l, .num, false, .any⟩,
    ⟨"RESULT_B", 2, 2, .zero, .rov, .l, .num, false, .any⟩,
    ⟨"RESULT_A", 0, 2, .zero, .rov, .l, .num, false, .any⟩]⟩,
  ⟨"SLOT_BUS_STAT", 0x000C, [], [
    ⟨"COLLISIONS", 8, 8, .zero, .rov, .l, .num, false, .any⟩,
    ⟨"IGNORING", 1, 1, .zero, .rov, .l, .num, false, .any⟩,
    ⟨"SB_FAULT", 0, 1, .zero, .w1c, .l, .num, false, .any⟩]⟩,
  ⟨"SLOT_BUS_CNT", 0x0010, [], [
    ⟨"GOOD", 16, 16, .zero, .rov, .l, .num, false, .any⟩,
    ⟨"CRC_ERR", 8, 8, .zero, .rov, .l, .num, false, .any⟩,
    ⟨"TIMEOUT", 0, 8, .zero, .rov, .l, .num, false, .any⟩]⟩,
  ⟨"SLOT_BUS_CFG", 0x0014, [], [
    ⟨"ENABLE", 0, 1, (.num 1), .rw, .h, .num, false, .any⟩]⟩,
  ⟨"SLOT_WAKE_CNT", 0x0018, [], [
    ⟨"WAKES", 16, 16, .zero, .rov, .l, .num, false, .any⟩,
    ⟨"REPEATS", 0, 16, .zero, .rov, .l, .num, false, .any⟩]⟩,
  ⟨"SLOT_PRIMER_STAT", 0x001C, [], [
    ⟨"MODE", 16, 4, .zero, .rov, .l, .num, false, .any⟩,
    ⟨"STATE", 0, 8, .zero, .rov, .l, .num, false, .any⟩]⟩,
  ⟨"SLOT_PRIMER_TIME", 0x0020, [], [
    ⟨"DURATION_US", 0, 32, .zero, .rov, .l, .num, false, .any⟩]⟩,
  ⟨"SLOT_PRIMER_ID", 0x0024, [], [
    ⟨"JEDEC_ID", 0, 24, .zero, .rov, .l, .num, false, .any⟩]⟩,
  ⟨"SLOT_PRIMER_WB", 0x0028, [], [
    ⟨"STATE", 28, 4, .zero, .rov, .l, .num, false, .any⟩,
    ⟨"BANK", 24, 4, .zero, .rov, .l, .num, false, .any⟩,
    ⟨"PAGES", 0, 24, .zero, .rov, .l, .num, false, .any⟩]⟩,
  ⟨"SLOT_EJECT_CNT", 0x002C, [], [
    ⟨"ABORTS", 16, 16, .zero, .rov, .l, .num, false, .any⟩,
    ⟨"GLITCHES", 0, 16, .zero, .rov, .l, .num, false, .any⟩]⟩,
  ⟨"SLOT_EJECT_TIME", 0x0030, [], [
    ⟨"PREP_US", 0, 16, .zero, .rov, .l, .num, false, .any⟩]⟩,
  ⟨"SLOT_SB_LAST", 0x0040, [(4, 10)], [
    ⟨"OCTETS", 0, 32, .zero, .rov, .l, .num, false, .any⟩]⟩,
  ⟨"SLOT_SFDP_HDR", 0x0080, [(4, 4)], [
    ⟨"DWORD", 0, 32, .zero, .rov, .l, .num, false, .any⟩]⟩,
  ⟨"SLOT_BFPT", 0x0090, [(4, 23)], [
    ⟨"DWORD", 0, 32, .zero, .rov, .l, .num, false, .any⟩]⟩,
  ⟨"SLOT_SFDP_4BA", 0x00F0, [(4, 2)], [
    ⟨"DWORD", 0, 32, .zero, .rov, .l, .num, false, .any⟩]⟩]

/-- The registers of block number `b`, in the order of R36. The spec describes no register of block 24 (IO) beyond
the common four, and RING_B (block 15) holds the registers of RING_A (spec/14). -/
def blockRegs (b : Nat) : List RegDef :=
  match b with
  | 0 => regsSys
  | 1 => regsPwr
  | 2 => regsTune
  | 3 => regsFret
  | 4 => regsPeg
  | 5 => regsMover
  | 6 => regsFplc
  | 7 => regsFrad
  | 8 => regsNode
  | 9 => regsSym
  | 10 => regsGauge
  | 11 => regsSound
  | 12 => regsScan
  | 13 => regsLamp
  | 14 => regsRingA
  | 15 => regsRingA
  | 16 => regsCapo
  | 17 => regsHcp
  | 18 => regsTime
  | 19 => regsRtc
  | 20 => regsKey
  | 21 => regsRestr
  | 22 => regsRec
  | 23 => regsLedger
  | 25 => regsSlot
  | _ => []

end Sys2Proof.Machine
end

