-- ==== Sys2Proof/Machine/Store.lean ====
section
/-!
DEFINITION. Machine/Store.lean: the two sparse stores of the model as plain data. A map is a list of (key, value) pairs
with keys strictly rising; the memory is a list of (address, octet) pairs in one canonical form: addresses strictly
rising, and no entry equal to what an unlisted address reads as.
-/
namespace Sys2Proof.Machine

/-- A sparse map from numbers, keys strictly rising. -/
abbrev AMap (α : Type) := List (Nat × α)

/-- The value stored under `k`. -/
def AMap.find {α : Type} : AMap α → Nat → Option α
  | [], _ => none
  | (k, v) :: m, a => if a = k then some v else AMap.find m a

/-- The value stored under `k`, or `d`. -/
def AMap.get {α : Type} (m : AMap α) (k : Nat) (d : α) : α := (m.find k).getD d

/-- `m` with `v` stored under `k`. -/
def AMap.set {α : Type} : AMap α → Nat → α → AMap α
  | [], k, v => [(k, v)]
  | (k', v') :: m, k, v =>
    if k = k' then (k, v) :: m
    else if k < k' then (k, v) :: (k', v') :: m
    else (k', v') :: AMap.set m k v

/-- `m` without an entry under `k`. -/
def AMap.erase {α : Type} (m : AMap α) (k : Nat) : AMap α := m.filter (fun e => e.1 ≠ k)

/-- `m` without the entries whose key satisfies `p`. -/
def AMap.drop {α : Type} (m : AMap α) (p : Nat → Bool) : AMap α := m.filter (fun e => !p e.1)

/-- Every entry of `n` stored into `m`. -/
def AMap.merge {α : Type} (m n : AMap α) : AMap α := n.foldl (fun a e => a.set e.1 e.2) m

/-- Keys strictly rising, every one above `lo` where `lo` is given. -/
def AMap.rising {α : Type} : Option Nat → AMap α → Bool
  | _, [] => true
  | none, (k, _) :: m => AMap.rising (some k) m
  | some l, (k, _) :: m => decide (l < k) && AMap.rising (some k) m

/-- The memory: octets at 40-bit physical addresses (R33). -/
abbrev Memory := List Host.Cell

/-- What an address nothing has written reads as: 0xFF in the module flash and Primer windows, whose erased state is all
ones, and 0x00 in every other store. DESIGN CHOICE (assumption 5): the spec gives no contents of RAM after power-on. -/
def memDefault (a : Nat) : Byte :=
  if (0x80000000 ≤ a ∧ a < 0x100000000) ∨ (0x70000000 ≤ a ∧ a < 0x72000000) then 0xFF else 0

/-- The octet at `a`. -/
def Memory.read (m : Memory) (a : Nat) : Byte := (AMap.find m a).getD (memDefault a)

/-- `m` with octet `b` at `a`, in the canonical form. -/
def Memory.write (m : Memory) (a : Nat) (b : Byte) : Memory :=
  if b = memDefault a then AMap.erase m a else AMap.set m a b

/-- The `n` octets from `a` up. -/
def Memory.readN (m : Memory) (a : Nat) : Nat → List Byte
  | 0 => []
  | n + 1 => m.read a :: Memory.readN m (a + 1) n

/-- The octets of `l` written from `a` up. -/
def Memory.writeL (m : Memory) (a : Nat) : List Byte → Memory
  | [] => m
  | b :: l => Memory.writeL (m.write a b) (a + 1) l

/-- The little-endian number of `n` octets at `a` (R6). -/
def Memory.readLE (m : Memory) (a n : Nat) : Nat := ofOctetsLE (m.readN a n)

/-- `v` written as `n` little-endian octets at `a` (R6). -/
def Memory.writeLE (m : Memory) (a n v : Nat) : Memory := m.writeL a (octetsLE n v)

/-- `m` with every octet of `a` to `a + n - 1` at its unlisted value. -/
def Memory.clear (m : Memory) (a n : Nat) : Memory := AMap.drop m (fun k => decide (a ≤ k ∧ k < a + n))

/-- The canonical form: addresses strictly rising, no entry at its unlisted value. -/
def Memory.wf (m : Memory) : Bool :=
  AMap.rising none m && m.all (fun e => decide (e.2 ≠ memDefault e.1))

end Sys2Proof.Machine
end

