-- ==== Sys2Proof/Machine/State.lean ====
section
/-!
DEFINITION. Machine/State.lean: the state of the machine as plain data, its faults and refusals, and the state after
reset. A register's value has one home: `regs` (or, for a register kept per requester, `reqRegs`), under the field's key;
what the spec keeps outside a register is held by unit.
-/
namespace Sys2Proof.Machine

/-- Faults that stop the machine. No command of this block stops: an access the spec refuses is NACKed and the machine
goes on (R17, R34). The type is kept with the one reason the interface asks a name for. -/
inductive Fault where
  /-- Raised by no command. Safe: a stop claims nothing. -/
  | none
  deriving DecidableEq, Repr

/-- Reasons to refuse a command. -/
inductive Refusal where
  /-- The command has no meaning in the model yet; raised by its arm of Machine/Dispatch.lean. Safe. -/
  | notModelled (mnemonic : String)
  deriving DecidableEq, Repr

/-- An HCP event of R381 in the store of R382. -/
structure Evt where
  seq   : Nat
  cls   : Nat
  unit  : Nat
  opSec : Nat
  data  : List Byte
  deriving DecidableEq, Repr

/-- A carrier frame on its feeder (R143, R145): the PHY header's 64 bits, the load code of each of the 742 used carriers, guard and
rate, and the bits on the air of header and payload. -/
structure CarrierTx where
  header : Nat
  loads  : List Nat
  short  : Bool
  rate   : Nat
  head   : List Bool
  body   : List Bool
  deriving DecidableEq, Repr

/-- A radio frame on its channel (R146): the mode, the octets of preamble before the SFD, FEC, the octets of frame and FCS, the bits on
the air. -/
structure RadioTx where
  mode     : Nat
  preamble : Nat
  fec      : Bool
  psdu     : List Byte
  air      : List Bool
  deriving DecidableEq, Repr

/-- How a frame of the field network goes out. -/
inductive FieldTx where
  | carrier (x : CarrierTx)
  | radio (x : RadioTx)
  deriving DecidableEq, Repr

/-- What leaves the module or a unit: the model's own record, newest first (assumption 3). -/
inductive Output where
  /-- A word delivered by the Fretboard. -/
  | word (w : FWord)
  /-- The answer to a register access: requester, address, status of R50, value. -/
  | access (req addr status value : Nat)
  /-- A slot bus response frame: its octets (R68), and the levels of SB_D and SB_S after each of its bits (R66). -/
  | slotFrame (octets : List Byte) (levels : List (Bool × Bool))
  /-- A PTP message sent at a port: messageType of IEEE 1588, the message, the Announce's fields where it is one. -/
  | ptp (port typ : Nat) (m : PtpMsg) (a : Option PtpAnnounce)
  /-- A PTP message that failed its ICV, sent on at a ring port with the outgoing ICV inverted (R346, R399). -/
  | ptpBad (port : Nat)
  /-- A frame of the field network sent on a medium of R138: radio channel and conducted output in dBm (R148, R149), or 0 and
less the attenuation in dB on carrier; the frame in the clear, its octets (R157, R158), and how it goes out. -/
  | field (medium chan : Nat) (pwr : Int) (f : FieldFrame) (octets : List Byte) (tx : FieldTx)
  /-- An image aggregate sent on a medium: channel and output as for a frame; its entries, each node slot and its 12-octet
output image (R203); its octets, check included; the bits on the air. -/
  | aggregate (medium chan : Nat) (pwr : Int) (entries : List (Nat × Nat)) (octets : List Byte) (air : List Bool)
  /-- A chirp sent on feeder `f` (R261, R263): its PSD limits in dBm/Hz below 30 MHz, above, and inside a notch, each lowered by ATTEN_DB;
  the notches, as carrier indices and as bands in 0.1 MHz. -/
  | chirp (f : Nat) (low high notched : Int) (carriers : List (Nat × Nat)) (bands : List (Nat × Nat))
  /-- A frame of the lamp drive (R321 to R323): for each lamp or element lit, when its segments start and how many ticks each lasts; the
current set of each string in mA, 0 where its buck is off; the sink of each column in 0.0025 mA. -/
  | light (segs : List (Nat × List (Nat × Nat))) (strings columns : List Nat)
  /-- A pulse of S0 output `k` (R251). -/
  | s0 (k onMs : Nat)
  /-- Wake patterns sent on a medium (R169, R170): frequency in Hz, on radio the output in 0.01 dBm and on carrier less the
attenuation in dB, the 40 bits, the chips of one pattern, how often. -/
  | wake (medium hz : Nat) (pwr : Int) (pattern : Nat) (chips : List Bool) (reps : Nat)
  /-- A ring frame sent at ring port 0 to 3 under the port's SCI and SSCI (R336, R338); `bad` with its ICV inverted (R346). -/
  | ring (port sci ssci : Nat) (f : RingFrame) (bad : Bool)
  /-- An HCP response sent to an association of this module's port: session, TID, TYPE, STATUS, DUP, payload (R367). -/
  | hcp (session tid typ status : Nat) (dup : Bool) (payload : List Byte)
  /-- An HCP event of the module `source` sent to a session, with LOST (R381). -/
  | hcpEvent (session source : Nat) (lost : Bool) (payload : List Byte)
  deriving DecidableEq, Repr

/-- The settings-region copy of R94. -/
structure SettingsCopy where
  hdr  : PrimerHdr
  body : CfgBody
  slot : Nat
  deriving DecidableEq, Repr

/-- J7 and the IO block: input levels as last latched, output levels driven. -/
structure IoState where
  di      : Nat
  ai0     : Nat
  ai1     : Nat
  door    : Bool
  doOut   : Nat
  coilOut : Nat
  /-- DO outputs switched off by a short (R527). -/
  doOff   : Nat
  /-- Coil drivers switched off by an overcurrent until the next write (R527). -/
  coilOff : Nat
  /-- The couplers are driven; else they stand at high impedance (R60). -/
  couplers : Bool
  deriving DecidableEq, Repr

/-- A slot bus response that waits: CMD, address, payload. -/
structure SlotResp where
  addr    : Nat
  cmd     : Nat
  payload : List Byte
  deriving DecidableEq, Repr

/-- The Primer write-back of R65 while it runs: the frozen image, its pages programmed so far. -/
structure WriteBack where
  hdr   : PrimerHdr
  body  : CfgBody
  pages : Nat
  total : Nat
  deriving DecidableEq, Repr

/-- A queue descriptor (R109). -/
structure Desc where
  expHead   : Nat
  expTail   : Nat
  ordHead   : Nat
  ordTail   : Nat
  pktCnt    : Nat
  cellCnt   : Nat
  enable    : Bool
  flush     : Bool
  expNE     : Bool
  ordNE     : Bool
  claimed   : Bool
  notifyEn  : Bool
  consumer  : Nat
  profile   : Nat
  dropSeen  : Bool
  poisonSeen : Bool
  deriving DecidableEq, Repr

/-- A cell's tag (R111). -/
structure CellTag where
  next    : Nat
  eop     : Bool
  vb      : Nat
  claimed : Bool
  port    : Nat
  /-- A bit error that stands in the tag (R113). -/
  err     : TagError
  deriving DecidableEq, Repr

/-- What a busy writer context is doing (R114, R119). -/
inductive CtxMode where
  /-- taking data words -/
  | open
  /-- its LAST word is written; the commit waits for the bank group -/
  | closing
  /-- discarding words up to LAST -/
  | discard
  deriving DecidableEq, Repr

/-- A busy writer context (R114). -/
structure Ctx where
  mode    : CtxMode
  /-- Pegbox port index the packet was opened at. -/
  k       : Nat
  queue   : Nat
  exp     : Bool
  first   : Nat
  lastC   : Nat
  cells   : Nat
  vb      : Nat
  doomed  : Bool
  /-- Status and reason of a result still due in discard. -/
  due     : Option (Nat × Nat × Nat)
  /-- Reference tick of its last word. -/
  stamp   : Nat
  deriving DecidableEq, Repr

/-- A claim (R122, R124): open, or revoked by a flush (R130). -/
structure Claim where
  queue  : Nat
  id     : Nat
  port   : Nat
  exp    : Bool
  first  : Nat
  lastC  : Nat
  cells  : Nat
  len    : Nat
  /-- Reference tick of its issue. -/
  stamp  : Nat
  /-- Of a revoked claim: its cells are on the free list again. -/
  pushed : Bool
  deriving DecidableEq, Repr

/-- A chain read in progress (R125, R127): its TAG, the claim, the next cell and its index, the lanes that fail parity by word
index, and the TAG of a RELEASE that waits for its end. -/
structure ChainRead where
  tag     : Nat
  claim   : Claim
  cell    : Nat
  idx     : Nat
  parity  : List (Nat × BitVec 16)
  release : Option Nat
  deriving DecidableEq, Repr

/-- An entry of the queue shadow of R532. -/
structure QShadow where
  profile  : Nat
  consumer : Nat
  notifyEn : Bool
  deriving DecidableEq, Repr

/-- The Pegbox (spec/05). FREE, USE and CLAIM_USE stand in their registers. -/
structure PegState where
  descs    : AMap Desc
  tags     : AMap CellTag
  freeHead : Nat
  /-- Busy contexts, by 256 × port + TAG. -/
  ctxs     : AMap Ctx
  /-- Open claims, by queue. -/
  claims   : AMap Claim
  revoked  : List Claim
  /-- Chain reads in progress, oldest first. -/
  reads    : List ChainRead
  /-- Next CLAIM_ID of each Pegbox port. -/
  claimIds : List Nat
  quarantine : Nat
  qshadow  : AMap QShadow
  deriving DecidableEq, Repr

/-- The Pegbox as it starts running: every descriptor zero, every cell free (R110). -/
def PegState.start : PegState :=
  { descs := [], tags := [], freeHead := 0, ctxs := [], claims := [], revoked := [], reads := [], claimIds := [0, 0, 0, 0],
    quarantine := 0, qshadow := [] }

/-- A snapshot waiting to be written (R495, R496). -/
structure Snap where
  code   : Nat
  value  : Int
  data   : List Byte
  opSec  : Nat
  cycles : Nat
  regs   : List (Nat × Nat)
  deriving DecidableEq, Repr

/-- The event recorder (spec/21) outside its registers, live pages and flash. -/
structure RecState where
  /-- Snapshots waiting, head first (R496). -/
  queue    : List Snap
  /-- Operating seconds of the last held-off snapshot, by trigger code (R494). -/
  holdoff  : AMap Nat
  deriving DecidableEq, Repr

/-- The slot, its bus and start-up (spec/03, spec/04). -/
structure SlotState where
  /-- The logic supply is present. -/
  logicOn    : Bool
  /-- The coin cell is fitted. -/
  cellFitted : Bool
  /-- Reset is released (step 5 of R75). -/
  released   : Bool
  straps     : Nat
  primer     : Option PrimerDev
  /-- The Primer's supply is switched on (R59, R63). -/
  primVcc    : Bool
  /-- How the Primer is addressed with 4 octets (step 5 of R63): 0 not chosen, 1 by the read command of its 4-byte address
  instruction table, 2 by the entry method of its basic table. -/
  prim4      : Nat
  /-- The levels of SB_D and SB_S after the last transition (R66). -/
  sbD        : Bool
  sbS        : Bool
  /-- The response due to be sent, and the one held behind it (R72). -/
  respDue    : Option SlotResp
  respHeld   : Option SlotResp
  /-- The decoder takes no transition as a frame until it has seen quiet (R69, R534). -/
  quietWait  : Bool
  /-- The payloads of the WAKEs being carried out (R73). -/
  wakeRun    : List Nat
  /-- A loop test of the ring runs (R76). -/
  loopRun    : List Bool
  /-- Failures so far in the ring's present series (R77). -/
  loopSeries : List Nat
  /-- The lever was the cause of the eject preparation (R82). -/
  ejectByLever : Bool
  /-- A presence loss under R81 whose return has not come. -/
  presenceLost : Bool
  /-- Flash and Primer writes have stopped (R80, R514). -/
  noFlashWrite : Bool
  writeBack  : Option WriteBack
  deriving DecidableEq, Repr

/-- Start-up, the configuration in use and what the settings region keeps of it (spec/04). -/
structure SysState where
  /-- The reference tick counter of R531, 64 bits. -/
  refTick    : Nat
  /-- The first kick has come since reset release (R85). -/
  kicked     : Bool
  /-- Consecutive expiries of the boot limit (R85). -/
  bootFails  : Nat
  /-- Step 6 of R88 is under way. -/
  readDue    : Bool
  /-- The supervisor owes a module reset with CAUSE 0x3 (R137). -/
  resetDue   : Bool
  /-- Reference tick of the last firmware restart by the watchdog (R84). -/
  lastFwRestart : Option Nat
  /-- The park latch of R434, held in the island. -/
  parkLatch  : Bool
  /-- The configuration body in use, after conversion. -/
  cfg        : Option CfgBody
  /-- The header of the configuration in use. -/
  cfgHdr     : Option PrimerHdr
  /-- The settings-region copy (R94), in module flash. -/
  copy       : Option SettingsCopy
  /-- The supervisor's trim of R29: 0 none, 1 the Sounding Courses, 2 the spare Courses as well. -/
  trim       : Nat
  /-- Service-level requests not yet issued (R432): domain and state, in order. -/
  levelQ     : List (Nat × Nat)
  /-- The domain whose change the next of them waits for. -/
  levelWait  : Option Nat
  /-- The service level being entered, with its MODE code (R432). -/
  levelTo    : Option Nat
  /-- State each changing domain comes from. -/
  domFrom    : AMap Nat
  /-- The island has lost its supply since the last start (R87). -/
  islandLost : Bool
  /-- Stored plans of R441 (settings region): taps and supply by domain. -/
  plans      : List (Nat × Nat × Nat)
  /-- The reference tick since which the slack that lets a domain's supply fall has been above its band (R440). -/
  slackHigh  : AMap Nat
  /-- A re-plan that raised a supply is not stored yet (R441). -/
  planDirty  : Bool
  /-- Spare Courses in place of failed ones (R21), by failed Course. -/
  subst      : AMap Nat
  deriving DecidableEq, Repr

/-- What the domain sequencer keeps of TB0 in the always-on island (R386). -/
structure Tb0Kept where
  /-- TB0 in 2⁻¹⁶ ns. -/
  value : Nat
  epoch : Nat
  valid : Bool
  /-- The reference tick count at that moment. -/
  tick  : Nat
  deriving DecidableEq, Repr

/-- The selected PTP master (R396, R400): its identity and data set, and the port it is heard on. -/
structure PtpMaster where
  gm    : Nat
  ann   : PtpAnnounce
  port  : Nat
  deriving DecidableEq, Repr

/-- A two-step Sync waiting for its Follow_Up (R400). -/
structure PendingSync where
  seq  : Nat
  gm   : Nat
  t2   : Int
  corr : Int
  port : Nat
  deriving DecidableEq, Repr

/-- The timebase unit outside its registers (spec/16). Integrals and adjustments are in 2⁻¹⁶ ppb, times in 2⁻¹⁶ ns. -/
structure TimeState where
  kept     : Option Tb0Kept
  /-- The TB2 count; a radio superframe boundary is each whole second of it, a carrier boundary each 10 ms. -/
  tb2      : Nat
  /-- TB2 and the reference tick when PD45 left ON (R409). -/
  tb2Kept  : Option (Nat × Nat)
  /-- The total pull of TB2 so far, as a magnitude (R152). -/
  slewDone : Nat
  integ    : List Int
  adj      : List Int
  /-- Remainders of the advance of TB0, TB2, TB3 and the phase of TB1. -/
  rems     : List Int
  /-- Slew of ADJUST still outstanding (R395). -/
  slewLeft : Int
  /-- Consecutive updates over the threshold, their sign and their grandmaster (R393). -/
  overCnt  : Nat
  overNeg  : Bool
  overGm   : Nat
  /-- Consecutive updates within LOCK_NS, and beyond 4 × LOCK_NS (R392). -/
  lockCnt  : Nat
  unlockCnt : Nat
  /-- The last delay measurements, newest first, and how many there are since the last reset of the filter (R400). -/
  filter   : List Int
  dCount   : Nat
  /-- t2 − t1 − cs of the last Sync. -/
  lastSync : Option Int
  twoStep  : Option PendingSync
  /-- The Delay_Req in flight: its sequence number and t3. -/
  dreq     : Option (Nat × Int)
  dreqSeq  : Nat
  syncSeq  : Nat
  annSeq   : Nat
  master   : Option PtpMaster
  /-- The module serves the ring from its own TB0 (R397). -/
  localGm  : Bool
  /-- Consecutive good crossings of TB1, and its last locked frequency in mHz (R387). -/
  tb1Good  : Nat
  tb1Freq  : Option Nat
  /-- A step of TB0 after which the RTC is not set yet (R408). -/
  rtcDue   : Bool
  /-- A TB0 step or a change of zone offset after which the profiles are not sent yet (R192). -/
  profileDue : Bool
  /-- RTC − TB0 at the last discipline, in 2⁻¹⁶ s (R408). -/
  rtcDiff  : Option Int
  /-- The time registers written since HALT was set (R407). -/
  rtcLoSet : Bool
  rtcHiSet : Bool
  /-- The part of TRIM not yet added, in 2⁻²⁶ s (R404). -/
  trimAcc  : Int
  deriving DecidableEq, Repr

/-- What an engine keeps of sequence numbers (R344, R356): the next TX SEQ by 4 × DST + TC, and the last accepted EPOCH
and SEQ by 4 × SRC + TC. -/
structure RingSeqs where
  tx : AMap Nat
  rx : AMap (Nat × Nat)
  deriving DecidableEq, Repr

/-- The association of the next AN (R338, R454): the reference tick at which the port began to send under it, its next packet
number; the lowest number accepted under it, the reference tick of the first frame that came under it. -/
structure NextSa where
  txSince : Option Nat
  txPn    : Nat
  rxPn    : Nat
  rxSince : Option Nat
  deriving DecidableEq, Repr

/-- An association under which nothing has been sent or received. -/
def NextSa.start : NextSa := ⟨none, 1, 1, none⟩

/-- One ring port (R351): consecutive valid CONTINUITY frames, TX_TIME last received and when, what the neighbour said
of the active path and its SWITCH_EPOCH. -/
structure RingPortState where
  good     : Nat
  echo     : Option (Nat × Nat)
  said     : Option (Nat × Nat)
  /-- The association in use (R338): its AN, the next packet number sent, the lowest one accepted. -/
  an       : Nat
  txPn     : Nat
  rxPn     : Nat
  /-- The association of the next AN, while a key replacement is pending (R454). -/
  next     : Option NextSa
  deriving DecidableEq, Repr

/-- A port nothing has happened on. -/
def RingPortState.start : RingPortState :=
  { good := 0, echo := none, said := none, an := 0, txPn := 1, rxPn := 1, next := none }

/-- One path and its engine (spec/14) outside the registers. -/
structure RingPathState where
  seqs     : RingSeqs
  /-- Cumulative counts by class: sent, RET_CUM received, received, RET_CUM sent (R348, R349). -/
  sent     : List Nat
  retRcvd  : List Nat
  rcvd     : List Nat
  retSent  : List Nat
  /-- Cells freed since the last CREDIT, by class. -/
  freed    : List Nat
  /-- Frames in the transit buffer, oldest first. -/
  transit  : List RingFrame
  /-- Sources of probes passed, by position: the reference tick and FLAGS. -/
  seen     : AMap (Nat × Nat)
  probeSeq : Nat
  /-- The last probe returned in time; the one before did. -/
  returned : Bool
  prevOk   : Bool
  /-- Joining (R361): 0 out, 1 JOIN sent, 2 joined. -/
  join     : Nat
  /-- Step 4 of R361 is due on this path. -/
  joinAnnounce : Bool
  /-- SNAP is due at the next ring cycle boundary. -/
  auditDue : Bool
  /-- Whether the frame last sent of each class was a transit frame (R345). -/
  lastTransit : List Bool
  deriving DecidableEq, Repr

/-- A path nothing has happened on. -/
def RingPathState.start : RingPathState :=
  { seqs := ⟨[], []⟩, sent := [0, 0, 0, 0], retRcvd := [0, 0, 0, 0], rcvd := [0, 0, 0, 0], retSent := [0, 0, 0, 0],
    freed := [0, 0, 0, 0], transit := [], seen := [], probeSeq := 0, returned := false, prevOk := false, join := 0,
    joinAnnounce := false, auditDue := false,
    lastTransit := [false, false, false, false] }

/-- The rings (spec/14) outside their registers. -/
structure RingState where
  a      : RingPathState
  b      : RingPathState
  ports  : List RingPortState
  /-- The path whose grant was last commanded (R355). -/
  want   : Option Nat
  /-- Ring cycles since the last completed state copy (R356). -/
  copyAge : Nat
  /-- The head-end port carries an HCP-ready link (R363). -/
  heUp   : Bool
  /-- The ring cycle whose boundary was the last (R356), and the reference tick of the last probes sent (R352). -/
  cycle   : Option Nat
  probeAt : Option Nat
  deriving DecidableEq, Repr

/-- The rings as nothing has happened. -/
def RingState.start : RingState :=
  { a := RingPathState.start, b := RingPathState.start, ports := List.replicate 4 RingPortState.start, want := none,
    copyAge := 255, heUp := false, cycle := none, probeAt := none }

/-- A key replacement that is pending (R454): the path, whether each port (East, West) has verified its partner. -/
structure KeyReplace where
  path : Nat
  east : Bool
  west : Bool
  deriving DecidableEq, Repr

/-- The keystore (spec/19) outside its registers. -/
structure KeyState where
  root     : Option Nat
  /-- Public keys of the anchor table by anchor, X × 2^384 + Y. -/
  anchors  : AMap Nat
  /-- Staged words by offset. -/
  stage    : AMap Nat
  /-- Slots whose keys the crypto engine holds. -/
  derived  : List Nat
  replaces : AMap KeyReplace
  /-- Node moves of R456: 0 running, 1 waiting for its retry. -/
  moves    : AMap Nat
  /-- Operating second at which debug closes. -/
  debugEnd : Option Nat
  deriving DecidableEq, Repr

/-- A firmware slot's header (R465). -/
structure SlotHdr where
  copySeq  : Nat
  state    : Nat
  tried    : Nat
  gen      : Nat
  imageId  : Nat
  fwVersion : Nat
  area     : Nat
  actSec   : Nat
  hash     : Nat
  deriving DecidableEq, Repr

/-- A block being assembled from fragments (R471): its fragments by number. -/
structure Partial where
  block : Nat
  frags : AMap (List Byte)
  deriving DecidableEq, Repr

/-- What is stored of a target of R469: 0 the inactive firmware slot, 1 + e node image entry e. -/
structure FeedTarget where
  /-- 0 empty, 1 loading, 2 complete. -/
  state    : Nat
  imageId  : Nat
  /-- Manifest blocks stored: bit 0 M0, bit 1 M1. -/
  manifest : Nat
  /-- The manifest has verified. -/
  ok       : Bool
  /-- Blocks stored, one bit each. -/
  blocks   : Nat
  partials : List Partial
  forwarded : Nat
  deriving DecidableEq, Repr

/-- A target with nothing stored. -/
def FeedTarget.empty : FeedTarget := ⟨0, 0, 0, false, 0, [], 0⟩

/-- What a settings area holds (R463): the configuration copy of R94, the Tuning plans of R441, the Sounding baselines of
R270. -/
structure SettingsArea where
  copy      : Option SettingsCopy
  plans     : List (Nat × Nat × Nat)
  baselines : AMap (List Byte)
  deriving DecidableEq, Repr

/-- A feed through RESTR_FEED_DATA (R469): its octets so far, last first. -/
structure Feed where
  target : Nat
  block  : Nat
  octets : List Byte
  deriving DecidableEq, Repr

/-- A distribution of a node image (R483). -/
structure Dist where
  entry   : Nat
  target  : Nat
  round   : Nat
  /-- Chunks still to be sent in this round, each for the target or (in the unicast tries) for one node. -/
  toSend  : List (Nat × Nat)
  /-- The POLL offer of the round is still to be sent. -/
  poll    : Bool
  /-- Missing chunks reported, by node. -/
  missing : AMap (List Nat)
  /-- Nodes that reported STATE 2 or 4. -/
  done    : List Nat
  /-- Unicast tries made. -/
  tries   : Nat
  deriving DecidableEq, Repr

/-- Restringing (spec/20) outside its registers. -/
structure RestrState where
  hdrs    : List SlotHdr
  running : Nat
  targets : AMap FeedTarget
  feed    : Option Feed
  /-- The confirm window: the operating seconds at which it opened, and its minutes. -/
  window  : Option (Nat × Nat)
  /-- STATE of RESTR_NIMG_STAT by entry where it is not that of the store: 3 distributing, 4 done, 5 aborted. -/
  nimg    : AMap Nat
  dist    : Option Dist
  /-- The last distribution of an entry: ROUND and DONE. -/
  distLast : AMap (Nat × Nat)
  /-- The settings area in use (R463): its contents are the settings-region copy, the plans and the baselines that State holds
  beside this. -/
  area     : Nat
  /-- What the other area holds. -/
  kept     : SettingsArea
  deriving DecidableEq, Repr

/-- Slot A holds the firmware in force and slot B is empty (DESIGN CHOICE, assumption 11: the spec gives no factory
content of the flash). -/
def RestrState.start : RestrState :=
  { hdrs := [⟨1, 5, 0, 1, 1, 0, 0, 0, 0⟩, ⟨0, 0, 0, 0, 0, 0, 0, 0, 0⟩], running := 0, targets := [], feed := none,
    window := none, nimg := [], dist := none, distLast := [], area := 0, kept := ⟨none, [], []⟩ }

/-- One airtime book of R165, in tokens of 1 µs: its one-second buckets by second of the reference tick. -/
structure Book where
  budget   : Nat
  avail    : Int
  reserved : Nat
  spent    : Nat
  buckets  : AMap Nat
  deriving DecidableEq, Repr

/-- Tokens reserved for a transmission of a radio (R166): book and tokens, for the frame and for a wake pattern. -/
structure Resv where
  radio  : Nat
  book   : Nat
  tokens : Nat
  deriving DecidableEq, Repr

/-- A frame in flight to a node (R140, R156): the queue, the CLAIM_ID and the first cell of its packet, the repeats sent, the key
slot it went out under and whether it is the first frame of a move (R456). -/
structure Tx where
  queue  : Nat
  claim  : Nat
  first  : Nat
  frame  : FieldFrame
  medium : Nat
  tries  : Nat
  moving : Bool
  deriving DecidableEq, Repr

/-- A command frame to a node that waits to be sent (R163): its medium, node slot and EUI-64, the role of its key, the payload;
for an unsolicited JOIN_RSP the image parameters it gives (R202), for a TONEMAP the map it sets. -/
structure CmdDue where
  medium  : Nat
  node    : Nat
  eui     : Nat
  role    : Nat
  payload : List Byte
  img     : Option (Nat × Nat)
  tone    : Option (Bool × Nat × List Nat)
  deriving DecidableEq, Repr

/-- An airtime record of R168: the RTC second and, by EU book, tokens with their age in seconds at the record. -/
structure AirRec where
  rtc  : Nat
  toks : List (Nat × Nat × Nat)
  deriving DecidableEq, Repr

/-- The field network (spec/06) outside registers and node table. -/
structure FieldState where
  /-- EU books 0 to 4; 8 + channel for US-200, 200 + channel for US-400. -/
  books    : AMap Book
  resv     : List Resv
  /-- Frames in flight, by node slot. -/
  txs      : AMap Tx
  /-- Superframes run (R161), and the radio SFN. -/
  started  : Bool
  sfnR     : Nat
  /-- Nodes whose last expected frame was missed (R174). -/
  missed   : List Nat
  /-- TimeState.slewDone at a node's last frame (R152). -/
  slewAt   : AMap Nat
  /-- Floor records being written: node × 16 + direction × 4 + role, with the multiple of 2¹⁶ (R160). -/
  floorDue : AMap Nat
  /-- FCNT of role 3 toward a node, and the last accepted from it. -/
  joinFcnt : AMap Nat
  joinUp   : AMap Nat
  /-- The last uplink FCNT accepted under the NEXT slot of a node that moves (R456). -/
  nextUp   : AMap Nat
  /-- Nodes of which no frame has been accepted since their uplink counter started at its floor (R160). -/
  upFloor  : List Nat
  /-- Reference tick of the last reset release (R150). -/
  relTick  : Nat
  /-- Nodes whose first frame under the old slot sets their uplink counter (R457). -/
  replUp   : List Nat
  /-- Nodes moved to another group whose next issue is unicast (R209). -/
  regrouped : List Nat
  /-- Image parameters sent in an unsolicited JOIN_RSP (R202): its SEQ, K, position, and whether its ACK has come. -/
  imgNew   : AMap (Nat × Nat × Nat × Bool)
  /-- TB2 in whole superframe lengths at the start of the present superframe: carrier in 10 ms, radio in 1 s (R151). -/
  cAt      : Nat
  rAt      : Nat
  /-- The allocations the present superframe's beacons name, by medium (R162). -/
  allocs   : List (Nat × Alloc)
  /-- TB2 in ns at the end of the last wake pattern sent to a carrier node (R171). -/
  woken    : AMap Nat
  /-- The wake timer a node named in its last SLEEP, in ms (R163). -/
  wakeMs   : AMap Nat
  /-- Packets whose frame was ACKed after their claim had been requeued: queue and first cell (R140). -/
  acked    : List (Nat × Nat)
  /-- The queue and status of the last packet discarded under R141. -/
  lastDrop : Nat × Nat
  /-- Command frames that wait to be sent, oldest first. -/
  cmds     : List CmdDue
  /-- Tone maps 1 to 7 by node × 16 + direction × 8 + index: the codes of the 742 carriers (R145). -/
  tones    : AMap (List Nat)
  deriving DecidableEq, Repr

/-- A field network in which nothing has happened. -/
def FieldState.start : FieldState :=
  { books := [], resv := [], txs := [], started := false, sfnR := 0, missed := [], slewAt := [], floorDue := [],
    joinFcnt := [], joinUp := [], nextUp := [], upFloor := [], relTick := 0, replUp := [], regrouped := [], imgNew := [], cAt := 0, rAt := 0
    allocs := [], woken := [], wakeMs := [], acked := [], lastDrop := (0, 0), cmds := [], tones := [] }

/-- The books of one Gauge quantity (R243), with the fraction carried into its next increment (R242). -/
structure GQty where
  acc    : Nat
  pulses : Nat
  ovf    : Nat
  total  : Nat
  frac   : Nat
  deriving DecidableEq, Repr

/-- The journal of the settings region (R463): records by (CABINET_ID × 64 + slot address): radio SFN (R161), airtime
(R168), counter floors (R160) by that × 2^20 + node × 16 + direction × 4 + role. -/
structure Journal where
  sfn    : AMap Nat
  air    : AMap AirRec
  floors : AMap Nat
  /-- The newest stored latch set (R250): LATCH_SEQ, N, and the books it holds. -/
  gauge  : Option (Nat × Nat × AMap GQty)
  deriving DecidableEq, Repr

/-- The calendar and the supervisor's work with it (R196 to R200). -/
structure CalState where
  /-- The calendar in force, as it arrived; empty: none. -/
  octets  : List Byte
  /-- LEVEL of the last issued step of a group. -/
  level   : AMap Nat
  /-- The highest key seen due at the last evaluation of a group. -/
  seen    : AMap Nat
  /-- Schedule inputs as last offered: levels and valid bits by feeder (R98, R200). -/
  sched   : Nat
  valid   : Nat
  /-- VERSION of the last PROFILE made for a group, with the steps it carried (R192). -/
  profVer : AMap (Nat × List Byte)
  /-- Civil-day key of a node's last PROFILE. -/
  profDay : AMap Nat
  /-- Nodes sent their PROFILE since the last step of TB0 or change of zone offset. -/
  profDone : List Nat
  /-- Nodes whose ALARM 0x0009 has come and whose STATUS after it has not (R208). -/
  left    : List Nat
  /-- Zone offset in minutes at the last look, DST included. -/
  zone    : Option Int
  deriving DecidableEq, Repr

/-- A BOOST whose result is due (R224): its command number, target vertex, hold end and LEVEL, the Pegbox's answer. -/
structure BoostCmd where
  k      : Nat
  vertex : Nat
  endT   : Nat
  level  : Nat
  status : Nat
  deriving DecidableEq, Repr

/-- Sympath (spec/08) outside registers and memory. -/
structure SymState where
  /-- Its copy of TB2 carrier time in µs as last set, and the reference tick then (R219). -/
  time    : Nat
  stamp   : Nat
  /-- Commands of the present event whose results are due. -/
  cmds    : List BoostCmd
  /-- Queue and CLAIM_ID of the present event. -/
  evt     : Option (Nat × Nat)
  /-- The image being loaded (R217): its GRAPH_ID, N_VERTICES and address. -/
  loading : Option (Nat × Nat × Nat)
  /-- The graph in use as the settings region keeps it (R99): GRAPH_ID, N_VERTICES, the octets of Sympath memory by offset. -/
  graph   : Option (Nat × Nat × Memory)
  deriving DecidableEq, Repr

/-- A Gauge event being judged (R255): consecutive cycles that met and did not meet it, whether it is declared, the line
cycle that first met it, the extreme value seen, its half cycles. -/
structure GEvt where
  met    : Nat
  clear  : Nat
  active : Bool
  first  : Nat
  extreme : Int
  halves : Nat
  deriving DecidableEq, Repr

/-- The filters of one path of a Gauge channel (R233): the states of DC blocking, of the Rogowski compensation and of the fractional
delay, and the integrator in 2⁻¹⁶ code. -/
structure PathState where
  dc   : Int
  rog  : Int
  comp : Int
  dly  : Int
  deriving DecidableEq, Repr

/-- A Gauge channel: the filters of its low-gain and high-gain paths and its Hilbert filter, and its metered values of one line
cycle, newest first: a voltage in 2⁻¹⁶ code and its value shifted by +90°, a current in 2⁻¹⁶ low-gain code over 16,000,000. -/
structure ChanState where
  lo   : PathState
  hi   : PathState
  hil  : Int
  v    : List Int
  perp : List Int
  deriving DecidableEq, Repr

/-- A channel at a start: filters and window at 0. -/
def ChanState.start : ChanState := ⟨⟨0, 0, 0, 0⟩, ⟨0, 0, 0, 0⟩, 0, [], []⟩

/-- The converter codes of a current channel over the present line cycle (R255 index 4): samples, the sums of both paths, of
(high − 16 × low)² and of low². -/
structure PathSum where
  n   : Nat
  lo  : Int
  hi  : Int
  d2  : Nat
  lo2 : Nat
  deriving DecidableEq, Repr

/-- The window means of a point at a sample (R238): P and Q in µW and µvar, S in µVA. -/
structure Pwr where
  p : Int
  q : Int
  s : Nat
  deriving DecidableEq, Repr

/-- The Gauge (spec/09) outside registers and latch banks. Lists of 16 are by current channel less 4, or by point. -/
structure GaugeState where
  q       : AMap GQty
  /-- The channels converted, and the converter codes of the present line cycle by current channel. -/
  chan    : AMap ChanState
  sums    : AMap PathSum
  /-- Peak of |low-gain value| in this line cycle and in the one before, and of |high-gain value|, in 2⁻¹⁶ code. -/
  lowPk   : List Nat
  prevPk  : List Nat
  hiPk    : List Nat
  /-- Channels clipped in this line cycle. -/
  clip    : List Nat
  /-- Line cycles since RUN became 1. -/
  cycles  : Nat
  force   : Bool
  first   : Bool
  /-- Marks of the present interval: points INCOMPLETE and OVERRANGE, quantities with GUARD_OVF. -/
  incPts  : List Nat
  overPts : List Nat
  govfQ   : List Nat
  evs     : AMap GEvt
  /-- The books as last latched. -/
  latched : AMap GQty
  /-- The books at the last audit snapshot. -/
  snap    : AMap GQty
  /-- Last E_ACT and P_MEAN reported by a node (R254), and the nodes on mains. -/
  reports : AMap (Nat × Nat)
  mains   : List Nat
  /-- Falls of E_ACT without FLAGS[1] (R254). -/
  falls   : Nat
  /-- S0 inputs whose last inactive phase lasted 10 ms. -/
  s0Ready : List Nat
  /-- Window of R253: input counts and books at its start; points marked INCOMPLETE or re-based and inputs stuck in it. -/
  winIn   : List Nat
  winQ    : AMap GQty
  winBad  : List Nat
  winStuck : List Nat
  /-- The reference tick at which the window began. -/
  winAt   : Nat
  /-- Samples of the window and the sum of P_f in µW, by feeder (R255 index 5). -/
  winP    : AMap (Nat × Int)
  /-- Inputs held active since PULSE_STUCK. -/
  stuck   : List Nat
  deriving DecidableEq, Repr

/-- A Gauge that has measured nothing. -/
def GaugeState.start : GaugeState :=
  { q := [], chan := [], sums := [], lowPk := List.replicate 16 0, prevPk := List.replicate 16 0, hiPk := List.replicate 16 0, clip := [],
    cycles := 0, force := false, first := true, incPts := [], overPts := [], govfQ := [], evs := [], latched := [],
    snap := [], reports := [], mains := [], falls := 0, s0Ready := [], winIn := [0, 0, 0, 0], winQ := [], winBad := [],
    winStuck := [], winAt := 0, winP := [], stuck := [] }

/-- A capture waiting in a feeder's ring (R260): its probe's kind (0 carrier frame, 1 chirp), feeder state (0 E, 1 D) and
superframe. -/
structure Capture where
  kind  : Nat
  state : Nat
  sfn   : Nat
  samples : List Int
  ref     : List Int
  deriving DecidableEq, Repr

/-- Responses averaged in a period (R265): how many, the superframe of the last probe, the sum at each of 16,384 delay samples. -/
structure Probes where
  n    : Nat
  sfn  : Nat
  sums : List Int
  deriving DecidableEq, Repr

/-- A tracked change (R271 to R273). -/
structure Change where
  feeder  : Nat
  kind    : Nat
  state   : Nat
  id      : Nat
  confirmed : Bool
  cls     : Nat
  seen    : Nat
  missed  : Nat
  first   : Nat
  last    : Nat
  locate  : Nat
  peak    : Nat
  rho     : Int
  /-- PEAK_RHO in the first reflectogram that showed it. -/
  rho0    : Int
  /-- A farther positive change appeared with it and is merged. -/
  branch  : Bool
  beyond  : Int
  deriving DecidableEq, Repr

/-- A baseline being learned (R269): reflectograms taken, sums and sums of squares by bin. -/
structure Learning where
  count : Nat
  sums  : List Int
  sqs   : List Int
  deriving DecidableEq, Repr

/-- Sounding (spec/10) outside registers and bulk memory. Baselines are keyed 4 × feeder + 2 × kind + state. -/
structure SoundState where
  rings    : AMap (List Capture)
  /-- Feeders whose chirp is being captured, and, for each carrier frame being captured, its feeder (R259). -/
  capturing : List Nat
  carrying  : List Nat
  /-- The carrier superframe of the last chirp: one feeder at most chirps in any (R261). -/
  chirped  : Option Nat
  /-- Probes averaged in this period, by baseline key. -/
  probes   : AMap Probes
  /-- SEQ of the latest reflectogram, by 2 × feeder + kind. -/
  seqs     : AMap Nat
  /-- Tracked changes, by SOUND_CHG entry. -/
  chg      : AMap Change
  nextId   : Nat
  learning : AMap Learning
  /-- Baselines learned, and those not yet stored. -/
  learned  : List Nat
  unsaved  : List Nat
  /-- Baselines in the settings region: their octets. -/
  stored   : AMap (List Byte)
  /-- Reports the Pegbox refused, with their feeder (R276). -/
  retry    : List (Nat × List Byte)
  deriving DecidableEq, Repr

/-- Sounding as nothing has happened. -/
def SoundState.start : SoundState :=
  { rings := [], capturing := [], carrying := [], chirped := none, probes := [], seqs := [], chg := [], nextId := 0, learning := [], learned := [],
    unsaved := [], stored := [], retry := [] }

/-- How a task is paced (R280, R281): 0 reference tick, 1 TB3, 2 carrier, 3 radio superframes; the last due start handled, as
scan ms or as SFN; a due start that waits; and the reference tick of the last due start handled. -/
structure TaskPace where
  pace    : Nat
  seen    : Int
  waiting : Option Int
  tick    : Nat
  /-- Set by RESUME until the task's next due start (R293). -/
  fresh   : Bool
  deriving DecidableEq, Repr

/-- A task cycle that runs or is frozen, with its execution state (R298): the stack newest first, the staged sends with
their records' addresses, in reverse order. -/
structure Cycle where
  task   : Nat
  c      : Bool
  acc    : Word
  ov     : Bool
  p      : Word
  stack  : List Bool
  pc     : Nat
  /-- T_START of R285 in µs, and the reference tick of the start. -/
  tStart : Nat
  begun  : Nat
  sends  : List (Nat × List Byte)
  /-- The matched instruction of a breakpoint is to execute now. -/
  skipBp : Bool
  /-- END has executed while stepping. -/
  ended  : Bool
  deriving DecidableEq, Repr

/-- The scan engine (spec/11, spec/12) outside registers and memory. -/
structure ScanState where
  paces    : AMap TaskPace
  cyc      : Option Cycle
  /-- The task held back under R282, and its due time on the reference tick. -/
  latch    : Option (Nat × Nat)
  stopReq  : Bool
  /-- Tasks that have run since RUN. -/
  ran      : List Nat
  /-- Last image committed since RUN, by node slot. -/
  lastImg  : AMap Nat
  /-- CMD_ID counter of overrides (R313). -/
  ovId     : Nat
  /-- Operating seconds of the last overrun event, by task. -/
  evtAt    : AMap Nat
  deriving DecidableEq, Repr

/-- A scan engine in which nothing has happened. -/
def ScanState.start : ScanState :=
  { paces := [], cyc := none, latch := none, stopReq := false, ran := [], lastImg := [], ovId := 0, evtAt := [] }

/-- A lamp function (R319): target, FADE in 10 ms, its output before flash and force, and the fade in progress: output at its
start, frames passed, frames in all. -/
structure LampFunc where
  target : Nat
  fade   : Nat
  out    : Nat
  base   : Nat
  t      : Nat
  len    : Nat
  deriving DecidableEq, Repr

/-- A string lamp or matrix element (R324, R326, R332): faults, last voltage in 10 mV, ON_FRAMES, faults declared, runs of
SHORT, DEGRADED and OPEN readings, frame of its last measurement. -/
structure LampRec where
  opn      : Bool
  short    : Bool
  degraded : Bool
  routed   : Bool
  volt     : Nat
  onFrames : Nat
  declared : Nat
  shortRun : Nat
  degRun   : Nat
  openRun  : Nat
  lastMeas : Nat
  deriving DecidableEq, Repr

/-- A lamp nothing is known of. -/
def LampRec.none : LampRec := ⟨false, false, false, false, 0, 0, 0, 0, 0, 0, 0⟩

/-- A string (R321, R325): frames without a lit lamp, runs of low and of good frames, and whether a restart is due. -/
structure LampStr where
  idle    : Nat
  low     : Nat
  good    : Nat
  restart : Bool
  deriving DecidableEq, Repr

/-- The lamp drive (spec/13) outside registers. Lamps and elements are keyed by their ID of LAMP_LSEL. -/
structure LampState where
  /-- The lamp section to be taken at the next frame start, and whether every function goes to 0 there without a fade. -/
  sect     : Option (List Byte)
  off      : Bool
  funcs    : AMap LampFunc
  recs     : AMap LampRec
  strs     : AMap LampStr
  /-- Levels above 0 of lamps and elements lit in this frame. -/
  lit      : AMap Nat
  /-- Those lit at its start, also where a fault has darkened them since (R332). -/
  shone    : List Nat
  /-- String lamps measured in this frame. -/
  measured : List Nat
  /-- Frames since RUN became 1. -/
  frame    : Nat
  /-- The flash clock: its phase and the frames left of it. -/
  flashOn  : Bool
  flashLeft : Nat
  /-- The loss scale in %, and the frames for which the mean has been below 12.0 W. -/
  lossScale : Nat
  lossLow  : Nat
  /-- LED_IN has been back for 100 ms. -/
  resume   : Bool
  /-- Groups whose functions restart from 0 at the next frame start. -/
  restarts : List Nat
  total    : Nat
  /-- ON_FRAMES as stored in the settings region. -/
  stored   : AMap Nat
  deriving DecidableEq, Repr

/-- A lamp drive in which nothing has happened. -/
def LampState.start : LampState :=
  { sect := none, off := false, funcs := [], recs := [], strs := [], lit := [], shone := [], measured := [], frame := 0,
    flashOn := true, flashLeft := 0, lossScale := 100, lossLow := 0, resume := false, restarts := [], total := 0,
    stored := [] }

/-- The TID window of a session (R370): the last accepted TID, and STATUS by recorded TID. -/
structure TidWindow where
  last : Nat
  recs : AMap Nat
  deriving DecidableEq, Repr

/-- An open control transfer (R374): its octets so far, by offset. -/
structure Transfer where
  ctId  : Nat
  kind  : Nat
  feeder : Nat
  total : Nat
  crc   : Nat
  data  : AMap Byte
  deriving DecidableEq, Repr

/-- HCP (spec/15) outside registers and event store. -/
structure HcpState where
  /-- Associations by session slot; whether HELLO has come. -/
  assoc : AMap Bool
  wins  : AMap TidWindow
  xfers : AMap Transfer
  /-- Forwarded requests not yet answered: session, TID, module, TYPE. -/
  fwd   : List (Nat × Nat × Nat × Nat)
  /-- EVT_SEQ of the event last sent. -/
  sent  : Nat
  deriving DecidableEq, Repr

/-- What a mover channel is doing: nothing, fetching the descriptor at CUR, moving data, waiting for a request, or writing
back STATUS and REASON; halted. -/
inductive MoverPhase where
  | idle
  | fetch
  | run
  | wait
  | wb (status reason : Nat)
  | halted
  deriving DecidableEq, Repr

/-- A mover channel (spec/17): its descriptor as fetched, octets moved, octets left of the present burst, and the request
line it is set to. -/
structure MoverChan where
  phase : MoverPhase
  desc  : Nat
  moved : Nat
  burst : Nat
  line  : Option Nat
  deriving DecidableEq, Repr

/-- The mover's round robin (R422): the channel served last, and the one whose burst is under way. -/
structure MoverTurn where
  last : Nat
  held : Option Nat
  deriving DecidableEq, Repr

/-- The whole machine. -/
structure State where
  /-- Commands that wait, first in, first out. -/
  pending : List Instr
  /-- Values of register fields that differ from reset or were written, by field key. -/
  regs    : AMap Nat
  /-- Shadow copies of H fields with a write not yet applied (R43), by field key. -/
  shadow  : AMap Nat
  /-- Fields kept per requester: key `req * 2^48 + field key`. -/
  reqRegs : AMap Nat
  /-- The latches of R38 and of the multi-word reads, per requester: key `req * 2^48 + address`. -/
  latches : AMap Nat
  /-- The record of P values in system SRAM (R46), by field key. -/
  pRec    : AMap Nat
  /-- The addressed stores of R33. -/
  mem     : Memory
  /-- Output lanes of the Fretboard (R16): key `src * 32 + dst`, oldest word first. -/
  lanes   : AMap (List FWord)
  /-- What has left, newest first. -/
  out     : List Output
  /-- Free values drawn so far (the model's own counter). -/
  freeCtr : Nat
  /-- The event store of R382, oldest first, the next EVT_SEQ, and whether an event was dropped since the last one sent. -/
  evts    : List Evt
  evtSeq  : Nat
  evtLost : Bool
  io      : IoState
  peg     : PegState
  recd    : RecState
  slot    : SlotState
  sys     : SysState
  /-- The timebase unit and the RTC outside their registers. -/
  time : TimeState
  /-- The rings outside their registers. -/
  ring : RingState
  /-- The keystore outside its registers. -/
  key : KeyState
  /-- Restringing outside its registers. -/
  restr : RestrState
  /-- The field network outside registers and node table. -/
  field : FieldState
  /-- The journal of the settings region, in module flash. -/
  jrn : Journal
  /-- The calendar. -/
  cal : CalState
  /-- Sympath outside registers and memory. -/
  sym : SymState
  /-- The Gauge outside registers and latch banks. -/
  gauge : GaugeState
  /-- Sounding outside registers and bulk memory. -/
  sound : SoundState
  /-- The scan engine outside registers and memory. -/
  scan : ScanState
  /-- The lamp drive outside registers. -/
  lamp : LampState
  /-- HCP outside registers and event store. -/
  hcp : HcpState
  /-- Mover channels that have been started. -/
  mover : AMap MoverChan
  /-- Whose turn it is among the mover's channels. -/
  mvTurn : MoverTurn
  /-- Ledger snapshots to be copied, by 8 × requester + ledger: SNAP_CNT when the snapshot was asked for (R504). -/
  ledgerDue : AMap Nat
  deriving DecidableEq, Repr

/-- The machine right after reset: every register at its Reset column, every switched domain OFF, every output as R60;
the island is powered, so PWR, RTC and KEY run. -/
def State.reset : State :=
  { pending := [], regs := [(0x4001FF00 * 32, 1), (0x4013FF00 * 32, 1), (0x4014FF00 * 32, 1)],
    shadow := [], reqRegs := [], latches := [], pRec := [], mem := [], lanes := [],
    out := [], freeCtr := 0, evts := [], evtSeq := 1, evtLost := false,
    io := { di := 0, ai0 := 0, ai1 := 0, door := true, doOut := 0, coilOut := 0, doOff := 0, coilOff := 0, couplers := false },
    peg := PegState.start,
    recd := { queue := [], holdoff := [] },
    slot := { logicOn := true, cellFitted := true, released := false, straps := 63, primer := none,
              primVcc := false, prim4 := 0, sbD := true, sbS := true,
              respDue := none, respHeld := none, quietWait := false, wakeRun := [],
              loopRun := [false, false], loopSeries := [0, 0], ejectByLever := false,
              presenceLost := false, noFlashWrite := false, writeBack := none },
    sys := { refTick := 0, kicked := false, bootFails := 0, readDue := false, resetDue := false, lastFwRestart := none, parkLatch := false, cfg := none,
             cfgHdr := none, copy := none, trim := 0, levelQ := [], levelWait := none, levelTo := none, domFrom := [],
             islandLost := false, plans := [], slackHigh := [], planDirty := false, subst := [] },
    time := { kept := none, tb2 := 0, tb2Kept := none, slewDone := 0, integ := [0, 0, 0], adj := [0, 0, 0],
              rems := [0, 0, 0, 0], slewLeft := 0, overCnt := 0, overNeg := false, overGm := 0, lockCnt := 0,
              unlockCnt := 0, filter := [], dCount := 0, lastSync := none, twoStep := none, dreq := none,
              dreqSeq := 0, syncSeq := 0, annSeq := 0, master := none, localGm := false, tb1Good := 0,
              tb1Freq := none, rtcDue := false, profileDue := false, rtcDiff := none, rtcLoSet := false,
              rtcHiSet := false, trimAcc := 0 },
    ring := RingState.start,
    key := { root := none, anchors := [], stage := [], derived := [], replaces := [], moves := [], debugEnd := none },
    restr := RestrState.start,
    field := FieldState.start,
    jrn := { sfn := [], air := [], floors := [], gauge := none },
    cal := { octets := [], level := [], seen := [], sched := 0, valid := 0, profVer := [], profDay := [], profDone := [], left := [],
             zone := none },
    sym := { time := 0, stamp := 0, cmds := [], evt := none, loading := none, graph := none },
    gauge := GaugeState.start,
    sound := SoundState.start,
    scan := ScanState.start,
    lamp := LampState.start,
    hcp := { assoc := [], wins := [], xfers := [], fwd := [], sent := 0 },
    mover := [],
    mvTurn := ⟨31, none⟩,
    ledgerDue := [] }

end Sys2Proof.Machine
end

