-- ==== Sys2Proof/Machine/Ops.lean ====
section
/-!
DEFINITION. Machine/Ops.lean: the named operations over the state that every unit's meaning is written in: register
fields, counters, shadow copies and commit points, domains, memory, events, lanes, free values, record of what leaves.
-/
namespace Sys2Proof.Machine

/-! ## Register fields -/

/-- The active value of field `f`: what was last stored, or its Reset value. -/
def State.rd (s : State) (f : Fld) : Nat := s.regs.get f.key f.reset

/-- Field `f` set to `v`, cut to its width. -/
def State.wr (s : State) (f : Fld) (v : Nat) : State := { s with regs := s.regs.set f.key (v % 2 ^ f.width) }

/-- Field `f` is not 0. -/
def State.isSet (s : State) (f : Fld) : Bool := s.rd f != 0

/-- Field `f` set to 1 or 0. -/
def State.wrB (s : State) (f : Fld) (b : Bool) : State := s.wr f (b2n b)

/-- Field `f` one higher, wrapping at its width. -/
def State.inc (s : State) (f : Fld) : State := s.wr f (s.rd f + 1)

/-- Field `f` one higher, saturating at all ones. -/
def State.incSat (s : State) (f : Fld) : State := s.wr f (satInc (2 ^ f.width - 1) (s.rd f))

/-- Field `f` higher by `n`, wrapping at its width. -/
def State.add (s : State) (f : Fld) (n : Nat) : State := s.wr f (s.rd f + n)

/-- Field `f` read as two's complement. -/
def State.rdS (s : State) (f : Fld) : Int := toSigned f.width (s.rd f)

/-- A 64-bit value in two fields, low word and high word (R38). -/
def State.rd64 (s : State) (lo hi : Fld) : Nat := s.rd lo + s.rd hi * 2 ^ 32

/-- A 64-bit value stored in two fields. -/
def State.wr64 (s : State) (lo hi : Fld) (v : Nat) : State := (s.wr lo v).wr hi (v / 2 ^ 32)

/-- The key of a value kept per requester. -/
def reqKey (req k : Nat) : Nat := req * 2 ^ 48 + k

/-- Field `f` as kept for requester `req`. -/
def State.rdReq (s : State) (req : Nat) (f : Fld) : Nat := s.reqRegs.get (reqKey req f.key) f.reset

/-- Field `f` of requester `req` set to `v`. -/
def State.wrReq (s : State) (req : Nat) (f : Fld) (v : Nat) : State :=
  { s with reqRegs := s.reqRegs.set (reqKey req f.key) (v % 2 ^ f.width) }

def State.setField (s : State) (f : FieldState) : State := { s with field := f }

/-! ## Outputs, free values -/

/-- `o` recorded as having left. -/
def State.emit (s : State) (o : Output) : State := { s with out := o :: s.out }

/-- A fresh free value, and the state after the draw (assumption 4). -/
def State.fresh (s : State) : Nat × State := (Config.free s.freeCtr, { s with freeCtr := s.freeCtr + 1 })

/-! ## Memory -/

def State.rd8 (s : State) (a : Nat) : Nat := (s.mem.read a).toNat
/-- The little-endian number of `n` octets at `a`. -/
def State.rdMem (s : State) (a n : Nat) : Nat := s.mem.readLE a n
/-- `v` written as `n` little-endian octets at `a`. -/
def State.wrMem (s : State) (a n v : Nat) : State := { s with mem := s.mem.writeLE a n v }
/-- Octets written from `a` up. -/
def State.wrOctets (s : State) (a : Nat) (l : List Byte) : State := { s with mem := s.mem.writeL a l }

/-! ## Domains (R424) -/

/-- The codes of PWR_DOM_STATE.STATE. -/
def domOff : Nat := 0
def domRet : Nat := 1
def domOn : Nat := 2
def domChanging : Nat := 3

/-- STATE of domain `d`. -/
def State.dom (s : State) (d : Nat) : Nat := s.rd (F.PWR_DOM_STATE_STATE d)

/-- Domain `d` is ON. -/
def State.isOn (s : State) (d : Nat) : Bool := s.dom d == domOn

/-- Every domain of `l` is ON. -/
def State.allOn (s : State) (l : List Nat) : Bool := l.all s.isOn

/-- The survival set domains (R427). -/
def survivalSet : List Nat := [0, 16, 17, 41, 44, 47, 49]

/-- Number of the block whose registers start at `base`, in the order of R36. -/
def blockNo (base : Nat) : Nat := (base - 0x40000000) / 0x10000

def bSYS : Nat := blockNo 0x40000000
def bPWR : Nat := blockNo 0x40010000
def bTUNE : Nat := blockNo 0x40020000
def bFRET : Nat := blockNo 0x40030000
def bPEG : Nat := blockNo 0x40040000
def bMOVER : Nat := blockNo 0x40050000
def bFPLC : Nat := blockNo 0x40060000
def bFRAD : Nat := blockNo 0x40070000
def bNODE : Nat := blockNo 0x40080000
def bSYM : Nat := blockNo 0x40090000
def bGAUGE : Nat := blockNo 0x400A0000
def bSOUND : Nat := blockNo 0x400B0000
def bSCAN : Nat := blockNo 0x400C0000
def bLAMP : Nat := blockNo 0x400D0000
def bRINGA : Nat := blockNo 0x400E0000
def bRINGB : Nat := blockNo 0x400F0000
def bCAPO : Nat := blockNo 0x40100000
def bHCP : Nat := blockNo 0x40110000
def bTIME : Nat := blockNo 0x40120000
def bRTC : Nat := blockNo 0x40130000
def bKEY : Nat := blockNo 0x40140000
def bRESTR : Nat := blockNo 0x40150000
def bREC : Nat := blockNo 0x40160000
def bLEDGER : Nat := blockNo 0x40170000
def bIO : Nat := blockNo 0x40180000
def bSLOT : Nat := blockNo 0x40190000

/-- Base address of block `b` (R36). -/
def blockBase (b : Nat) : Nat := 0x40000000 + 0x10000 * b

/-- The owning domain of block `b` is ON (R34, R36, R529). Blocks behind port 31 need PD49 as well, which holds the
system port bridge; a block of the always-on island needs PD49 alone. -/
def State.blockOn (s : State) (b : Nat) : Bool :=
  match b with
  | 0 => s.isOn 49
  | 1 => s.isOn 49
  | 2 => s.allOn [49, 46]
  | 3 => s.allOn [16, 17]
  | 4 => s.allOn [18, 19]
  | 5 => s.isOn 40
  | 6 => s.isOn 31
  | 7 => s.isOn 31 && [32, 33, 34, 35].any s.isOn
  | 8 => s.isOn 31
  | 9 => s.isOn 39
  | 10 => s.isOn 36
  | 11 => s.isOn 37 || s.isOn 38
  | 12 => s.allOn [49, 41]
  | 13 => s.allOn [49, 42]
  | 14 => s.isOn 25
  | 15 => s.isOn 26
  | 16 => s.isOn 25 || s.isOn 26
  | 17 => s.allOn [49, 43]
  | 18 => s.allOn [49, 45]
  | 19 => s.isOn 49
  | 20 => s.isOn 49
  | 21 => s.allOn [49, 44]
  | 22 => s.allOn [49, 44]
  | 23 => s.isOn 49
  | 24 => s.isOn 49
  | 25 => s.isOn 49
  | _ => false

/-- Field `f` of block `b` as configured: as it reads, or, while the owning domain is not ON, from the record of P values (R46). -/
def State.cfgVal (s : State) (b : Nat) (f : Fld) : Nat := if s.blockOn b then s.rd f else s.pRec.get f.key (s.rd f)

/-- RUN of block `b` (R39). -/
def State.run (s : State) (b : Nat) : Bool := s.isSet (F.STATE_RUN b)

/-- The ranges of R33, in its order. -/
inductive Region where
  | sysSram | course | sympath | pathA | pathB | fieldBuf | frontLo | frontHi | retain | regs | queues | cells | primer | flash
  | bulk
  deriving DecidableEq, Repr

/-- First address and first address beyond each range (R33). -/
def regionMap : List (Nat × Nat × Region) :=
  [(0, 0x00800000, .sysSram), (0x01000000, 0x01800000, .course), (0x02000000, 0x02200000, .sympath),
   (0x03000000, 0x03080000, .pathA), (0x03080000, 0x03100000, .pathB), (0x04000000, 0x04080000, .fieldBuf),
   (0x04080000, 0x040C0000, .frontLo), (0x040C0000, 0x04100000, .frontHi), (0x08000000, 0x08010000, .retain),
   (0x40000000, 0x401A0000, .regs), (0x50000000, 0x51000000, .queues), (0x60000000, 0x62000000, .cells),
   (0x70000000, 0x72000000, .primer), (0x80000000, 0x100000000, .flash), (0x100000000, 0x300000000, .bulk)]

/-- The range that address `a` falls in: none where it is not mapped. -/
def regionOf (a : Nat) : Option Region := (regionMap.find? (fun r => decide (r.1 ≤ a ∧ a < r.2.1))).map (·.2.2)

/-- Address `a` is mapped (R33). -/
def mapped (a : Nat) : Bool := (regionOf a).isSome

/-- The owning domain of the range of address `a` is ON (R33, R34). -/
def State.regionUp (s : State) (a : Nat) : Region → Bool
  | .sysSram => s.isOn 47
  | .course => s.isOn ((a - 0x01000000) / 0x80000)
  | .sympath => s.isOn 39
  | .pathA => s.isOn 25
  | .pathB => s.isOn 26
  | .fieldBuf => s.isOn 31
  | .frontLo => s.isOn 37
  | .frontHi => s.isOn 38
  | .retain => s.isOn 49
  | .regs => s.blockOn ((a - 0x40000000) / 0x10000)
  | .queues => s.isOn (18 + bits ((a - 0x50000000) / 16) 19 1)
  | .cells => s.isOn (20 + (a - 0x60000000) / 0x800000)
  | .primer => s.isOn 49
  | .flash => s.allOn [49, 44]
  | .bulk => s.isOn 24

/-- The store or block at physical address `a` is mapped (R33) and its owning domain ON (R34). -/
def State.addrUp (s : State) (a : Nat) : Bool :=
  match regionOf a with
  | some r => s.regionUp a r
  | none => false

/-! ## The register map -/

/-- The element of a register array that offset `d` from its base names: the flattened index of the first dimension and
whether the offset falls on an element. -/
def dimsIndex : List (Nat × Nat) → Nat → Option (List Nat)
  | [], d => if d = 0 then some [] else none
  | (st, c) :: rest, d =>
    let i := d / st
    if i < c then (dimsIndex rest (d % st)).map (fun l => i :: l) else none

/-- The register of `defs` that offset `off` names, with its indices. -/
def findReg : List RegDef → Nat → Option (RegDef × List Nat)
  | [], _ => none
  | r :: rs, off =>
    if r.off ≤ off then
      match dimsIndex r.dims (off - r.off) with
      | some ix => some (r, ix)
      | none => findReg rs off
    else findReg rs off

/-- Block number and offset of an address inside the register blocks. -/
def regBlock (a : Nat) : Option (Nat × Nat) :=
  if 0x40000000 ≤ a ∧ a < 0x40000000 + 26 * 0x10000 then some ((a - 0x40000000) / 0x10000, a % 0x10000) else none

/-- The register at address `a`, with its indices. -/
def lookupReg (a : Nat) : Option (RegDef × List Nat) :=
  match regBlock a with
  | none => none
  | some (b, off) => if 0xFF00 ≤ off then findReg regsCommon off else findReg (blockRegs b) off

/-- The field of a register element. -/
def FieldDef.at (f : FieldDef) (a : Nat) (ix : List Nat) : Fld := ⟨a, f.lo, f.width, f.reset.at (ix.headD 0)⟩

/-- The definition of the field stored under `key`. -/
def lookupField (key : Nat) : Option FieldDef :=
  match lookupReg (key / 32) with
  | none => none
  | some (r, _) => r.flds.find? (fun f => f.lo == key % 32)

/-- The fields of LAMP_MCFG of element `id` (R318), kept under addresses of their own in the LAMP block's range. -/
def mcfgAddr (id : Nat) : Nat := 0x400D2000 + 4 * id
def mcfgWeight (id : Nat) : Fld := ⟨mcfgAddr id, 8, 8, 0⟩
def mcfgEn (id : Nat) : Fld := ⟨mcfgAddr id, 7, 1, 0⟩
def mcfgFunc (id : Nat) : Fld := ⟨mcfgAddr id, 0, 5, 0⟩

/-- The field stored under `key` carries the Reset mark P. -/
def isPField (key : Nat) : Bool :=
  match lookupField key with
  | some f => f.src == .p
  | none => decide (0x400D2400 ≤ key / 32 ∧ key / 32 < 0x400D3000)

/-! ## Shadow copies and commit points (R43 to R46) -/

/-- `key` is a field of block `b`. -/
def inBlock (b key : Nat) : Bool := decide (blockBase b ≤ key / 32 ∧ key / 32 < blockBase b + 0x10000)

/-- Block `b` holds shadowed writes not yet applied: PENDING. -/
def State.pendingIn (s : State) (b : Nat) : Bool := s.shadow.any (fun e => inBlock b e.1)

/-- One shadowed value applied: the active value, and the record of P values (R46). -/
def State.applyShadow (s : State) (e : Nat × Nat) : State :=
  { s with
    regs := s.regs.set e.1 e.2
    shadow := s.shadow.erase e.1
    pRec := if isPField e.1 then s.pRec.set e.1 e.2 else s.pRec }

/-- A commit point of block `b` for the fields `sel` picks (R43): with HOLD 0 and a shadowed write among them, every one
is applied together and COMMIT_CNT increments; else nothing happens. -/
def State.commitSel (s : State) (b : Nat) (sel : Nat → Bool) : State :=
  let due := s.shadow.filter (fun e => inBlock b e.1 && sel e.1)
  if s.isSet (F.SHADOW_HOLD b) ∨ due = [] then s
  else (due.foldl State.applyShadow s).inc (F.SHADOW_COMMIT_CNT b)

/-- A commit point of every shadowed field of block `b`. -/
def State.commit (s : State) (b : Nat) : State := s.commitSel b (fun _ => true)

/-! ## Rejected writes (R41) -/

/-- A write to block `b` at `off` rejected for `reason`: CFG_REJECT and REJECT_LAST. FRET_CFG_REJECT is the FRET block's
count (R40). -/
def State.reject (s : State) (b off reason : Nat) : State :=
  let s := if b = bFRET then s.incSat F.FRET_CFG_REJECT_COUNT else s.incSat (F.CFG_REJECT_COUNT b)
  (s.wr (F.REJECT_LAST_REASON b) reason).wr (F.REJECT_LAST_OFFSET b) off

/-! ## Status codes (R50) -/

def stOK : Nat := 0x00
def stFETCH : Nat := 0x05
def stLOOP : Nat := 0x04
def stTIMEOUT : Nat := 0x07
def stPOISON : Nat := 0x02
def stFLUSHED : Nat := 0x03
def stBAD : Nat := 0x01
def stCFG : Nat := 0x06
def stOVERRANGE : Nat := 0x09
def stINCOMPLETE : Nat := 0x08

/-- No code of R50: the NACK that a Fretboard source gets in place of an answer (R17, R34). -/
def stNACK : Nat := 0x100

/-- What an access to an address that is unmapped or whose owner is not ON answers: a NACK to a Fretboard source, BAD over HCP
(R34). -/
def refusedAs (req : Nat) : Nat := if req < 32 then stNACK else stBAD

/-! ## HCP events (R381, R382) -/

/-- The operating-seconds counter, 40 bits (R438). -/
def State.opSec (s : State) : Nat := s.rd64 F.PWR_OPSEC_LO_SEC F.PWR_OPSEC_HI_SEC

/-- The UNIT octet of register block `b` (R381). -/
def unitOf (b : Nat) : Nat := 0x40 + b

/-- An event of class `cls` raised by `unit`: numbered by EVT_SEQ and stored; a full store drops its oldest event,
counts it in DROPPED and marks the next event sent LOST. -/
def State.raiseEvent (s : State) (cls unit : Nat) (data : List Byte) : State :=
  let e : Evt := ⟨s.evtSeq % 2 ^ 32, cls, unit, s.opSec, data.take 64⟩
  let full := decide (1024 ≤ s.evts.length)
  let s := if full then s.incSat F.HCP_EVT_STAT_DROPPED else s
  let l := (if full then s.evts.drop 1 else s.evts) ++ [e]
  let s := s.wr F.HCP_EVT_STAT_PENDING l.length
  { s with
    evts := l
    evtLost := s.evtLost || full
    evtSeq := (s.evtSeq + 1) % 2 ^ 32 }

/-- One octet. -/
def o1 (n : Nat) : List Byte := octetsLE 1 n

/-- The big-endian octets of `v`, `n` of them. -/
def octetsBE (n v : Nat) : List Byte := (octetsLE n v).reverse

/-- Event DATA of several numbers, each (octets, value), most significant octet first as in every HCP payload (R7). -/
def evtData (l : List (Nat × Nat)) : List Byte := l.flatMap (fun p => octetsBE p.1 p.2)

/-- Fields of a structure in memory, each (octets, value), little-endian (R6). -/
def memFields (l : List (Nat × Nat)) : List Byte := l.flatMap (fun p => octetsLE p.1 p.2)

/-! ## Outputs -/

/-- The module switches no output: with configuration source none every one stays as R60 gives until a configuration has
arrived and a module reset has followed (R96). -/
def State.outputsHeld (s : State) : Bool := s.rd F.SYS_START_STAT_PHASE == 5

/-! ## Lanes of the Fretboard (R16) -/

/-- The lane from `src` to `dst`. -/
def State.lane (s : State) (src dst : Nat) : List FWord := s.lanes.get (src * 32 + dst) []

/-- The lane from `src` to `dst` set to `l`. -/
def State.setLane (s : State) (src dst : Nat) (l : List FWord) : State :=
  { s with lanes := if l = [] then s.lanes.erase (src * 32 + dst) else s.lanes.set (src * 32 + dst) l }

/-- Word `w` put at the end of its source's lane to its destination. -/
def State.send (s : State) (w : FWord) : State :=
  s.setLane w.src.toNat w.dest.toNat (s.lane w.src.toNat w.dest.toNat ++ [w])

/-- The KIND codes of the sideband. -/
def kWrite : Nat := 0
def kReadReq : Nat := 1
def kReadRsp : Nat := 2
def kNotify : Nat := 3
def kAck : Nat := 4
def kNack : Nat := 5

/-- A word from its sideband numbers and its octets. -/
def mkWord (dest src kind tag : Nat) (last : Bool) (valid poison data : Nat) : FWord :=
  ⟨.ofNat 5 dest, .ofNat 5 src, .ofNat 3 kind, .ofNat 8 tag, last, .ofNat 6 valid, .ofNat 16 poison, .ofNat 512 data⟩

/-! ## Answers to register accesses -/

/-- The answer to a register access recorded. -/
def State.answer (s : State) (req addr status value : Nat) : State := s.emit (.access req addr status value)

/-! ## The node table (R177, R178) -/

/-- `n` octets at offset `o` of entry `e`. -/
def State.nd (s : State) (e o n : Nat) : Nat := s.rdMem (256 * e + o) n

/-- The same octets set to `v`. -/
def State.setNd (s : State) (e o n v : Nat) : State := s.wrMem (256 * e + o) n v

/-- Entry counter CNT[i] one higher. -/
def State.ndCnt (s : State) (e i : Nat) : State := s.setNd e (128 + 4 * i) 4 (s.nd e (128 + 4 * i) 4 + 1)

/-- Bit `i` of FLAGS of entry `e` set to `b`. -/
def State.ndFlag (s : State) (e i : Nat) (b : Bool) : State := s.setNd e 17 1 (setBit (s.nd e 17 1) i b)

def State.ndState (s : State) (e : Nat) : Nat := s.nd e 9 1
def State.ndMedium (s : State) (e : Nat) : Nat := s.nd e 8 1

/-- Node slots in a STATE other than free. -/
def State.nodeSlots (s : State) : List Nat :=
  s.mem.filterMap (fun c => if c.1 < 256 * 16320 ∧ c.1 % 256 = 9 then some (c.1 / 256) else none)

/-- A node joined or lost. -/
def State.ndLive (s : State) (e : Nat) : Bool := s.ndState e == 2 || s.ndState e == 3

end Sys2Proof.Machine
end

