-- ==== Sys2Proof/Machine/Trigger.lean ====
section
/-!
DEFINITION. Machine/Trigger.lean: what any unit does to the event recorder: a value counted into a live page (R490,
R491) and a trigger delivered (R494 to R496, R499).
-/
namespace Sys2Proof.Machine

/-- The stored value of the register at `a`: its readable fields put together, without the side effects of a read.
SHADOW.PENDING follows the shadow copies (R40). -/
def State.word (s : State) (a : Nat) : Nat :=
  match lookupReg a with
  | none => 0
  | some (r, ix) =>
    let v := r.flds.foldl (fun v f => if f.acc = .wo then v else setBits v f.lo f.width (s.rd (f.at a ix))) 0
    if a % 0x10000 = 0xFF04 then setBit v 8 (s.pendingIn ((a - 0x40000000) / 0x10000)) else v

/-- The live page of binding `k` (R488). -/
def pageAddr (k : Nat) : Nat := 0x00780000 + 0x1000 * k

/-- REC_CNT index `i` one higher. -/
def State.recCnt (s : State) (i : Nat) : State := s.inc (F.REC_CNT_COUNT i)

/-- One update of a live page as R491 gives: GEN odd, `f`, GEN even; GEN ends two higher. -/
def State.pageUpdate (s : State) (k : Nat) (f : State → State) : State :=
  let g := s.rdMem (pageAddr k + 32) 4
  let s := f (s.wrMem (pageAddr k + 32) 4 (g + 1))
  s.wrMem (pageAddr k + 32) 4 (g + 2)

/-- The bin of value `v` (R490). -/
def binOf (v low : Int) (width nbins : Nat) : Nat :=
  if v < low then 0
  else
    let i := 1 + ((v - low) / (width : Int)).toNat
    if nbins < i then nbins + 1 else i

/-- One bin of page `k` one higher, saturating with FLAGS[2]. -/
def State.binInc (s : State) (k i : Nat) : State :=
  let a := pageAddr k + 128 + 4 * i
  let n := s.rdMem a 4
  if n = 0xFFFFFFFF then
    let fl := s.rdMem (pageAddr k + 48) 2
    ((s.wrMem (pageAddr k + 48) 2 (setBit fl 2 true)).wr (F.REC_BIND_STAT_SATURATED k) 1).recCnt 13
  else s.wrMem a 4 (n + 1)

/-- Value `v` counted into the histogram page of binding `k`: its bin and SAMPLES, as one update. -/
def State.pageCount (s : State) (k : Nat) (v : Int) : State :=
  s.pageUpdate k (fun s =>
    let low := toSigned 32 (s.rdMem (pageAddr k + 40) 4)
    let width := s.rdMem (pageAddr k + 44) 2
    let nb := s.rdMem (pageAddr k + 46) 2
    let s := s.binInc k (binOf v low width nb)
    s.wrMem (pageAddr k + 64) 8 (s.rdMem (pageAddr k + 64) 8 + 1))

/-- A trigger code that only writes snapshots (R494). -/
def snapshotOnly (code : Nat) : Bool := decide (1 ≤ code ∧ code ≤ 6)

/-- The binding with a live MODE 0x1 page of `code`. -/
def State.boundTo (s : State) (code : Nat) : Option Nat :=
  (List.range 16).find? (fun k =>
    s.isSet (F.REC_BIND_CFG_EN k) && s.rd (F.REC_BIND_CFG_MODE k) == 1 && s.rd (F.REC_BIND_CFG_CODE k) == code &&
    s.isSet (F.REC_BIND_STAT_LIVE k))

/-- The domain state that says whether the register at `a` can be read for a snapshot (R495). -/
def State.addrOn (s : State) (a : Nat) : Bool :=
  match regBlock a with
  | some (b, _) => s.blockOn b
  | none => false

/-- The registers of the snapshot list at 0x0079_4000, read now (R495): a register whose domain is not ON is stored with
ADDR[31] set and value 0. -/
def State.snapRegs (s : State) : List (Nat × Nat) :=
  (List.range (min 55 (s.rdMem 0x00794000 4))).map (fun i =>
    let a := s.rdMem (0x00794004 + 4 * i) 4
    if s.addrOn a then (a, s.word a) else (setBit a 31 true, 0))

/-- A snapshot of trigger `code` queued (R496): dropped when 16 wait, the eject trigger at the head. -/
def State.queueSnap (s : State) (code : Nat) (val : Int) (data : List Byte) : State :=
  if 16 ≤ s.recd.queue.length then s.recCnt 5
  else
    let n : Snap := ⟨code, val, data.take 24, s.opSec, s.rd F.PWR_CYCLES_COUNT, s.snapRegs⟩
    { s with recd := { s.recd with queue := if code = 1 then n :: s.recd.queue else s.recd.queue ++ [n] } }

/-- A trigger delivered (R494): counted into a bound live page, else a snapshot; a bindable code writes at most one
snapshot per HOLDOFF seconds; below the reserve only snapshot-only triggers are written, and none once full (R499). -/
def State.recTrigger (s : State) (code : Nat) (val : Int) (data : List Byte) : State :=
  if ¬ (s.isOn 44 ∧ s.isSet F.REC_STAT_READY) then s
  else if snapshotOnly code then
    if s.isSet F.REC_STAT_FULL then s.recCnt 7 else s.queueSnap code val data
  else
    match s.boundTo code with
    | some k => (s.pageCount k val).recCnt 3
    | none =>
      let held := match s.recd.holdoff.find code with
        | some t => decide (s.opSec < t + s.rd F.REC_HOLDOFF_S)
        | none => false
      if held then s.recCnt 4
      else if s.isSet F.REC_STAT_FULL then s.recCnt 7
      else if s.isSet F.REC_STAT_LOW then s.recCnt 6
      else
        let s := { s with recd := { s.recd with holdoff := s.recd.holdoff.set code s.opSec } }
        s.queueSnap code val data

end Sys2Proof.Machine
end

