-- ==== Sys2Proof/Machine/Time.lean ====
section
/-!
DEFINITION. Machine/Time.lean: the timebases TB0 to TB3, their servo, steps and the epoch (R384 to R395), the reference
tick (R531) and the real-time clock (R404 to R408). Times are in 2⁻¹⁶ ns, adjustments in 2⁻¹⁶ ppb.
-/
namespace Sys2Proof.Machine

/-- One second in 2⁻¹⁶ ns. -/
def secFrac : Nat := 1000000000 * 65536

/-- `x` held within ±`lim`. -/
def clampTo (lim : Nat) (x : Int) : Int := max (-(lim : Int)) (min x (lim : Int))

/-! ## TB0 -/

/-- TB0 as one number, in 2⁻¹⁶ ns. -/
def State.tb0 (s : State) : Nat :=
  s.rd64 F.TIME_TB0_S_LO_SEC F.TIME_TB0_S_HI_SEC * secFrac + s.rd F.TIME_TB0_NS_NS * 65536 + s.rd F.TIME_TB0_SUB_FRAC

/-- TB0 set to `v`. -/
def State.setTb0 (s : State) (v : Nat) : State :=
  ((s.wr64 F.TIME_TB0_S_LO_SEC F.TIME_TB0_S_HI_SEC (v / secFrac % 2 ^ 64)).wr F.TIME_TB0_NS_NS (v % secFrac / 65536)).wr
    F.TIME_TB0_SUB_FRAC (v % 65536)

/-- Whole seconds of TB0. -/
def State.tb0Sec (s : State) : Nat := s.rd64 F.TIME_TB0_S_LO_SEC F.TIME_TB0_S_HI_SEC

/-- TB0 is there and VALID. -/
def State.tb0Valid (s : State) : Bool := s.isOn 45 && s.isSet F.TIME_TB0_STAT_VALID

/-- TB0 ns, the low 64 bits of the count. -/
def State.tb0Ns (s : State) : Nat := s.tb0 / 65536 % 2 ^ 64

/-- What a step of TB0 from `old` to `v` records (R394): EPOCH when backward, STEP_LAST, STEP_CNT, the recorder's
trigger, and what the supervisor owes the RTC and the profiles. Equal values are no step. -/
def State.stepRecord (s : State) (old v : Nat) : State :=
  if old = v then s
  else
    let ms := clampSigned 32 (((v : Int) - (old : Int)) / (65536 * 1000000))
    let s := if v < old then (s.inc F.TIME_TB0_SUB_EPOCH).inc F.TIME_STEP_CNT_BACKWARD else s.inc F.TIME_STEP_CNT_FORWARD
    let s := s.wr F.TIME_STEP_LAST_MS (ofSigned 32 ms)
    let s := { s with time := { s.time with rtcDue := true, profileDue := true }, cal := { s.cal with profDone := [] } }
    s.recTrigger 0x0070 ms []

/-- TB0 steps to `v` (R394). -/
def State.tb0Step (s : State) (v : Nat) : State := (s.stepRecord s.tb0 v).setTb0 v

/-- The RTC as one number, in 2⁻¹⁶ s. -/
def State.rtc (s : State) : Nat :=
  (s.rd F.RTC_TIME_HI_SEC * 65536 + s.rd F.RTC_TIME_LO_SEC) * 65536 + s.rd F.RTC_TIME_LO_FRAC

/-- The RTC set to `v`. -/
def State.setRtc (s : State) (v : Nat) : State :=
  ((s.wr F.RTC_TIME_HI_SEC (v / 2 ^ 32)).wr F.RTC_TIME_LO_SEC (v / 2 ^ 16)).wr F.RTC_TIME_LO_FRAC v

/-- Whole seconds of the RTC. -/
def State.rtcSec (s : State) : Nat := s.rtc / 65536

/-- The last acts of the domain sequencer before PD45 leaves ON (R386, R390, R409): TB3 is copied into the reference tick
counter, which never decreases (R531); TB0, EPOCH, VALID and TB2 are kept with the tick count. -/
def State.timeKeep (s : State) : State :=
  let tick := max s.sys.refTick (s.rd64 F.TIME_TB3_LO_US F.TIME_TB3_HI_US)
  { s with
    sys := { s.sys with refTick := tick }
    time := { s.time with
      kept := some ⟨s.tb0, s.rd F.TIME_TB0_SUB_EPOCH, s.isSet F.TIME_TB0_STAT_VALID, tick⟩
      tb2Kept := some (s.time.tb2, tick) } }

/-- What is lost of the timebase unit with PD45: everything but what is kept. -/
def TimeState.lost (t : TimeState) : TimeState :=
  { t with integ := [0, 0, 0], adj := [0, 0, 0], rems := [0, 0, 0, 0], slewLeft := 0, overCnt := 0, lockCnt := 0,
           unlockCnt := 0, filter := [], dCount := 0, lastSync := none, twoStep := none, dreq := none, master := none,
           localGm := false, tb1Good := 0, tb1Freq := none }

/-- PD45 comes ON (R386, R390, R409): TB0 is loaded from the RTC and compared with the kept value, TB3 from the reference
tick counter, TB2 resumes across the gap. -/
def State.timeLoad (s : State) : State :=
  let v := s.rtc * 1000000000
  let s := { s with time := s.time.lost }
  let s := match s.time.kept with
    | none => s.wr F.TIME_TB0_SUB_EPOCH 0
    | some k =>
      let s := s.wr F.TIME_TB0_SUB_EPOCH k.epoch
      if k.valid then s.stepRecord (k.value + (s.sys.refTick - k.tick) * 65536000) v else s
  let s := match s.time.tb2Kept with
    | none => s
    | some (b, tick) => { s with time := { s.time with tb2 := b + (s.sys.refTick - tick) * 65536000 } }
  let s := s.setTb0 v
  let s := (s.wr F.TIME_TB0_STAT_SOURCE 1).wrB F.TIME_TB0_STAT_VALID (!s.isSet F.RTC_STAT_OSF)
  (s.wr64 F.TIME_TB3_LO_US F.TIME_TB3_HI_US s.sys.refTick).wr (F.STATE_RUN bTIME) 1

/-! ## The servo (R391) -/

/-- The limit of timebase `t` in ppb. -/
def State.servoLimit (s : State) (t : Nat) : Nat := if t = 2 then 50000 else s.rd F.TIME_SERVO_LIM_MAX_PPM * 1000

/-- 0.5° per cycle (R388), in 2⁻¹⁶ ppb. -/
def tb1Pull : Nat := 65536 * 1000000000 / 720

/-- One update of timebase `t` with offset `o` in ns. -/
def State.servo (s : State) (t : Nat) (o : Int) : State :=
  let lim := s.servoLimit t * 65536
  let integ := clampTo lim (s.time.integ.getD t 0 + (s.rd (F.TIME_SERVO_CFG_KI t) : Int) * o)
  let adj := clampTo (if t = 1 then min lim tb1Pull else lim) (-((s.rd (F.TIME_SERVO_CFG_KP t) : Int) * 16 * o + integ))
  let s := { s with time := { s.time with integ := s.time.integ.set t integ, adj := s.time.adj.set t adj } }
  if t = 0 then s.wr F.TIME_TB0_ADJ_ADJ (ofSigned 32 (adj / 256)) else s

/-- The keys of the shadowed TIME fields of timebase `t`: its servo; the limit for TB0 and TB1; step, lock, asymmetry
and PTP settings for TB0. -/
def timeKeys (t : Nat) (k : Nat) : Bool :=
  decide (k / 32 = (F.TIME_SERVO_CFG_KP t).addr) ||
  (t != 2 && decide (k / 32 = F.TIME_SERVO_LIM_MAX_PPM.addr)) ||
  (t == 0 && (decide (k / 32 = F.TIME_STEP_CFG_POLICY.addr) || decide (k / 32 = F.TIME_LOCK_CFG_LOCK_NS.addr) ||
    decide (k / 32 = F.TIME_PTP_CFG_EN.addr) ||
    decide ((F.TIME_PORT_ASYM_PS 0).addr ≤ k / 32 ∧ k / 32 ≤ (F.TIME_PORT_ASYM_PS 4).addr)))

/-- The TIME commit point of timebase `t`: its next update. -/
def State.timeCommit (s : State) (t : Nat) : State := s.commitSel bTIME (timeKeys t)

/-! ## The reference tick (R25, R531) -/

/-- How far TB0 moves in `n` µs: the clock, the servo and the ADJUST slew at the limit of R391 (R395). -/
def State.tb0Advance (s : State) (n : Nat) : Int × Int × Int :=
  let x := (n : Int) * s.time.adj.getD 0 0 + s.time.rems.getD 0 0
  let slew := clampTo (n * s.rd F.TIME_SERVO_LIM_MAX_PPM * 65536 / 1000) s.time.slewLeft
  ((n : Int) * 65536000 + x / 1000000 + slew, x % 1000000, slew)

/-- `n` ticks of the timebase unit: TB0 and TB2 at TB0's rate, TB2 with its pull (R389), TB3 at the oscillator rate,
corrected by TB0's integral term while TB0 is LOCKED (R390), the phase of TB1 up to its boundary, at its frequency and its
adj (R391), in holdover at the frequency alone. -/
def State.timeTick (s : State) (n : Nat) : State :=
  let (d0, r0, slew) := s.tb0Advance n
  let x2 := (n : Int) * s.time.adj.getD 2 0 + s.time.rems.getD 1 0
  let x3 := (if s.isSet F.TIME_TB0_STAT_LOCKED then -(clampTo (200000 * 65536) (s.time.integ.getD 0 0)) * (n : Int) else 0)
    + s.time.rems.getD 2 0
  let unit3 : Int := 65536 * 1000000000
  let f := s.time.tb1Freq.getD (s.rd F.GAUGE_NOMINAL_FN * 1000)
  let pull1 := if s.isSet F.TIME_TB1_STAT_HOLDOVER then 0 else s.time.adj.getD 1 0
  let unit1 : Int := 1000000000 * 1000000000
  let x1 := (n : Int) * (f : Int) * (65536 * 1000000000 + pull1) + s.time.rems.getD 3 0
  let s1 := s.setTb0 ((s.tb0 : Int) + d0).toNat
  let s2 := s1.wr64 F.TIME_TB3_LO_US F.TIME_TB3_HI_US
    ((s.rd64 F.TIME_TB3_LO_US F.TIME_TB3_HI_US : Int) + n + x3 / unit3).toNat
  let s3 := s2.wr F.TIME_TB1_STAT_PHASE (min 65535 (s.rd F.TIME_TB1_STAT_PHASE + (x1 / unit1).toNat))
  { s3 with time := { s3.time with
      tb2 := ((s.time.tb2 : Int) + d0 + x2 / 1000000).toNat
      slewDone := s.time.slewDone + (x2 / 1000000).natAbs
      slewLeft := s.time.slewLeft - slew
      rems := [r0, x2 % 1000000, x3 % unit3, x1 % unit1] } }

/-- `n` reference ticks: the counter while PD49 is ON, and the timebases while PD45 is. -/
def State.refTicks (s : State) (n : Nat) : State :=
  let s := { s with sys := { s.sys with refTick := (s.sys.refTick + n) % 2 ^ 64 } }
  if s.isOn 45 then s.timeTick n else s

/-! ## TB1 and TB2 -/

/-- The source of TB1 among the phase voltages in 0.1 V (R387): the first at or above 20 % of UN; 0 for none. -/
def State.tb1Source (s : State) (u1 u2 u3 : Nat) : Nat :=
  let un := s.rd F.GAUGE_NOMINAL_UN_DV
  if un ≤ 5 * u1 then 1 else if un ≤ 5 * u2 then 2 else if un ≤ 5 * u3 then 3 else 0

/-- TB1 goes into holdover (R387): it runs on at its last locked frequency, or at FN. -/
def State.tb1Holdover (s : State) : State :=
  let s := ((s.wr F.TIME_TB1_STAT_HOLDOVER 1).wr F.TIME_TB1_STAT_LOCKED 0).wr F.TIME_TB1_FREQ_MHZ
    (s.time.tb1Freq.getD (s.rd F.GAUGE_NOMINAL_FN * 1000))
  { s with time := { s.time with tb1Good := 0 } }

/-- ZERO_CROSSING (R387, R388, R391): the crossing is `offsetNs` after TB1's boundary, on the source the levels pick; the
crossing of L2 or L3 is taken one or two thirds of a cycle earlier. -/
def State.zeroCrossing (s : State) (u1 u2 u3 : Nat) (offsetNs : Int) (freqMHz : Nat) : State :=
  if ¬ s.isOn 45 then s
  else
    let src := s.tb1Source u1 u2 u3
    if src = 0 ∨ ¬ s.isOn 36 ∨ freqMHz < 45000 ∨ 65000 < freqMHz then
      (s.wr F.TIME_TB1_STAT_SOURCE (if s.isOn 36 then src else 0)).tb1Holdover
    else
      let s := s.timeCommit 1
      let changed := src != s.rd F.TIME_TB1_STAT_SOURCE
      let period := 1000000000000 / freqMHz
      let o := offsetNs - ((src - 1 : Nat) : Int) * (period : Int) / 3
      let s := (s.wr F.TIME_TB1_STAT_SOURCE src).wr F.TIME_TB1_STAT_HOLDOVER 0
      let s := (s.wr F.TIME_TB1_FREQ_MHZ freqMHz).servo 1 o
      let good := decide (o.natAbs * 180 ≤ period)
      let n := if changed then (if good then 1 else 0) else if good then s.time.tb1Good + 1 else 0
      let locked := decide (10 ≤ n) || (s.isSet F.TIME_TB1_STAT_LOCKED && !changed)
      let s := s.wrB F.TIME_TB1_STAT_LOCKED locked
      { s with time := { s.time with
          tb1Good := min n 10
          tb1Freq := if locked then some freqMHz else s.time.tb1Freq } }

/-- ALIGN of R389 in 2⁻¹⁶ ns: the nearest whole second of TB0 minus TB2's boundary, the later one when halfway. -/
def State.alignOf (s : State) : Int :=
  let b := (s.tb0 + secFrac - s.time.tb2 % secFrac) % secFrac
  if 2 * b < secFrac then -(b : Int) else (secFrac : Int) - (b : Int)

/-- TB2_UPDATE (R389, R391, R152). -/
def State.tb2Update (s : State) : State :=
  if ¬ s.isOn 45 then s
  else
    let s := s.timeCommit 2
    let a := s.alignOf / 65536
    let s := s.servo 2 a
    (s.wr F.TIME_TB2_STAT_ALIGN_US (ofSigned 20 (a / 1000))).wrB F.TIME_TB2_STAT_SLEW (decide (10000 < a.natAbs))

/-! ## TIME_TB0_CMD (R395) and the read of R385 -/

/-- SET: TB0 steps to the value of the requester. BAD while SOURCE is PTP. -/
def State.tb0Set (s : State) (req : Nat) : Nat × State :=
  if s.rd F.TIME_TB0_STAT_SOURCE = 3 then (stBAD, s)
  else
    let sec := s.rdReq req F.TIME_TB0_SET_S_LO_VALUE + s.rdReq req F.TIME_TB0_SET_S_HI_VALUE * 2 ^ 32
    let s := s.tb0Step (sec * secFrac + s.rdReq req F.TIME_TB0_SET_NS_VALUE * 65536)
    let s := ((s.wr F.TIME_TB0_STAT_SOURCE 2).wr F.TIME_TB0_STAT_VALID 1).wr F.TIME_TB0_STAT_LOCKED 0
    (stOK, { s with time := { s.time with slewLeft := 0 } })

/-- ADJUST: the signed ns added to the slew outstanding. BAD while SOURCE is PTP. -/
def State.tb0Adjust (s : State) (req : Nat) : Nat × State :=
  if s.rd F.TIME_TB0_STAT_SOURCE = 3 then (stBAD, s)
  else
    let d := toSigned 32 (s.rdReq req F.TIME_TB0_SET_NS_VALUE) * 65536
    (stOK, { s with time := { s.time with slewLeft := s.time.slewLeft + d } })

/-! ## The real-time clock -/

/-- The RTC runs: its island is powered. -/
def State.rtcUp (s : State) : Bool := s.slot.logicOn || s.slot.cellFitted

/-- HALT released: the ticks counted are added (R406). -/
def State.rtcRelease (s : State) (ticks : Nat) : State :=
  ((s.setRtc ((s.rtc + 2 * ticks) % 2 ^ 64)).wr F.RTC_STAT_PENDING 0).wr F.RTC_CTRL_HALT 0

/-- `n` ticks of the 32.768 kHz clock (R404, R406): counted in PENDING while HALT is 1, up to the release at 65,535. -/
def State.rtcTicks (s : State) (n : Nat) : State :=
  if s.isSet F.RTC_CTRL_HALT then
    let p := s.rd F.RTC_STAT_PENDING + n
    if 65535 ≤ p then (s.rtcRelease p).wr F.RTC_STAT_HALT_TIMEOUT 1 else s.wr F.RTC_STAT_PENDING p
  else
    let x := s.time.trimAcc + s.rdS F.RTC_TRIM_TRIM * (n : Int)
    let unit : Int := 32768 * 1024
    let s := s.setRtc (((s.rtc : Int) + 2 * (n : Int) + x / unit).toNat % 2 ^ 64)
    { s with time := { s.time with trimAcc := x % unit } }

/-- A write of RTC_CTRL.HALT (R406, R407). -/
def State.rtcHalt (s : State) (halt : Bool) : State :=
  if halt then
    if s.isSet F.RTC_CTRL_HALT then s
    else { s.wr F.RTC_CTRL_HALT 1 with time := { s.time with rtcLoSet := false, rtcHiSet := false } }
  else if s.isSet F.RTC_CTRL_HALT then
    let s := (s.rtcRelease (s.rd F.RTC_STAT_PENDING)).inc F.RTC_CNT_SETS
    if s.time.rtcLoSet ∧ s.time.rtcHiSet then s.wr F.RTC_STAT_OSF 0 else s
  else s

/-- HALT_TIMEOUT (R406): ticks pass with HALT 1. -/
def State.haltTimeout (s : State) (ticks : Nat) : State :=
  if s.rtcUp ∧ s.isSet F.RTC_CTRL_HALT then s.rtcTicks ticks else s

/-- The oscillator-stopped flag set (R407). -/
def State.setOsf (s : State) : State := (s.wr F.RTC_STAT_OSF 1).incSat F.RTC_CNT_STOPS

/-- OSCILLATOR_STOP (R407). -/
def State.oscStop (s : State) (missed : Nat) (supplyLow : Bool) : State :=
  if s.rtcUp ∧ (4 ≤ missed ∨ supplyLow) then s.setOsf else s

/-- TB0 in 2⁻¹⁶ s. -/
def State.tb0Units (s : State) : Nat := s.tb0 / 1000000000

/-- The supervisor keeps the RTC (R408). -/
def State.rtcKept (s : State) : Bool :=
  s.allOn [0, 45, 49] && (s.isSet F.TIME_TB0_STAT_LOCKED ||
    (s.rd F.TIME_TB0_STAT_SOURCE == 2 && s.isSet F.TIME_TB0_STAT_VALID)) && s.isSet F.TIME_TB0_STAT_VALID

/-- The supervisor sets the RTC from TB0 under R406: halt, both time registers, release. -/
def State.rtcFromTb0 (s : State) : State :=
  let s := s.rtcHalt true
  let s := (s.wr F.RTC_STAT_PENDING 0).setRtc (s.tb0Units % 2 ^ 64)
  let s := { s with time := { s.time with rtcLoSet := true, rtcHiSet := true, rtcDue := false, rtcDiff := some 0 } }
  s.rtcHalt false

/-- TRIM from the drift of RTC − TB0 over the interval that ends (R408). -/
def State.rtcTrim (s : State) (diff : Int) : State :=
  let s := match s.time.rtcDiff with
    | some d => s.wr F.RTC_TRIM_TRIM (ofSigned 14 (clampTo 8191 (s.rdS F.RTC_TRIM_TRIM - (diff - d))))
    | none => s
  { s with time := { s.time with rtcDiff := some diff } }

/-- RTC_DISCIPLINE (R408): every 1,024 s TRIM from the drift over the interval; the RTC is set whenever it is more than 100 ms
off. -/
def State.rtcDiscipline (s : State) (sinceS : Nat) : State :=
  if s.rtcKept then
    let diff := (s.rtc : Int) - (s.tb0Units : Int)
    let s := if 1024 ≤ sinceS then s.rtcTrim diff else s
    if 65536 < 10 * diff.natAbs then s.rtcFromTb0 else s
  else s

/-- RTC_SET_AFTER_STEP (R408). -/
def State.rtcAfterStep (s : State) : State := if s.rtcKept ∧ s.time.rtcDue then s.rtcFromTb0 else s

end Sys2Proof.Machine
end

