-- ==== Sys2Proof/Machine/Macsec.lean ====
section
/-!
DEFINITION. Machine/Macsec.lean: the protection of the ring links (R336, R338): the secure association of each ring port, its
packet numbers, the association of the next AN during a key replacement (R454), and what a port sends.
-/
namespace Sys2Proof.Machine

def State.portSt (s : State) (p : Nat) : RingPortState := s.ring.ports.getD p RingPortState.start

def State.setPortSt (s : State) (p : Nat) (r : RingPortState) : State :=
  { s with ring := { s.ring with ports := s.ring.ports.set p r } }

/-- The domain of the engine of path `x`, and of ring port `p`. -/
def engDom (x : Nat) : Nat := 25 + x
def portDom (p : Nat) : Nat := 27 + p

/-- The keystore slot whose key serves path `x` (R448): the lowest of KIND RING whose context names the path and which holds
a key. -/
def State.saSlot (s : State) (x : Nat) : Option Nat :=
  (List.range 64).find? (fun k =>
    s.rd (F.KEY_SLOT_CFG_KIND k) == 2 && bits (s.rd (F.KEY_SLOT_CFG_CTX k)) 0 1 == x && s.rd (F.KEY_SLOT_STAT_STATE k) != 0)

/-- Port `p` holds its secure association. -/
def State.saOk (s : State) (p : Nat) : Bool := s.isSet (F.RING_PORT_STAT_SA_OK (p / 2) (p % 2))

/-- SA_OK of the four ports brought up to date: an association stays while the engine is ON and the key exists, and a new one
is installed while the crypto engine is ON (R445, assumption 87). -/
def State.showSa (s : State) : State :=
  (List.range 4).foldl (fun s p =>
    s.wrB (F.RING_PORT_STAT_SA_OK (p / 2) (p % 2))
      (s.isOn (engDom (p / 2)) && (s.saSlot (p / 2)).isSome && (s.saOk p || s.isOn 48))) s

/-- The SAK of the next generation installed as the receive association of the next AN on both ports of path `x` (R454), or
given up. -/
def State.setNext (s : State) (x : Nat) (n : Option NextSa) : State :=
  let s := s.setPortSt (2 * x) { s.portSt (2 * x) with next := n }
  s.setPortSt (2 * x + 1) { s.portSt (2 * x + 1) with next := n }

/-- The AN and the packet number of the next frame port `p` sends. -/
def State.txTag (s : State) (p : Nat) : Nat × Nat :=
  let r := s.portSt p
  match r.next with
  | some n => if n.txSince.isSome then ((r.an + 1) % 4, n.txPn) else (r.an, r.txPn)
  | none => (r.an, r.txPn)

/-- That packet number used. -/
def State.drawPn (s : State) (p : Nat) : State :=
  let r := s.portSt p
  match r.next with
  | some n =>
    if n.txSince.isSome then s.setPortSt p { r with next := some { n with txPn := n.txPn + 1 } }
    else s.setPortSt p { r with txPn := r.txPn + 1 }
  | none => s.setPortSt p { r with txPn := r.txPn + 1 }

/-- A frame of number `pn` under `an` at port `p` passes replay protection with window 0 (R338): an association is installed,
and the number is not below the lowest acceptable one. The present AN is accepted until 1 s after the first frame under the
next one. -/
def State.secOk (s : State) (p an pn : Nat) : Bool :=
  let r := s.portSt p
  let present := decide (an = r.an ∧ r.rxPn ≤ pn)
  s.saOk p && match r.next with
    | none => present
    | some n =>
      (present && (match n.rxSince with
        | some t => decide (s.sys.refTick ≤ t + 1000000)
        | none => true)) || decide (an = (r.an + 1) % 4 ∧ n.rxPn ≤ pn)

/-- What accepting that frame leaves: the lowest acceptable number is the one after it. -/
def State.secTook (s : State) (p an pn : Nat) : State :=
  let r := s.portSt p
  if an = r.an then s.setPortSt p { r with rxPn := pn + 1 }
  else match r.next with
    | some n => s.setPortSt p { r with next := some { n with rxPn := pn + 1, rxSince := some (n.rxSince.getD s.sys.refTick) } }
    | none => s

/-- The replacement of path `x` done: the next association of both ports is the present one. -/
def State.nextAn (s : State) (x : Nat) : State :=
  let one (s : State) (p : Nat) : State :=
    let r := s.portSt p
    match r.next with
    | some n => s.setPortSt p { r with an := (r.an + 1) % 4, txPn := n.txPn, rxPn := n.rxPn, next := none }
    | none => s
  one (one s (2 * x)) (2 * x + 1)

/-- Both ports of path `x` have sent and received under the next AN for 1 s (step 4 of R454). -/
def State.nextProven (s : State) (x : Nat) : Bool :=
  let old (t : Option Nat) : Bool := match t with
    | some t => decide (t + 1000000 ≤ s.sys.refTick)
    | none => false
  let one (p : Nat) : Bool := match (s.portSt p).next with
    | some n => old n.txSince && old n.rxSince
    | none => false
  one (2 * x) && one (2 * x + 1)

/-- The MAC address of ring port `p` (R336): 02-00-00-RR-PP-0p. -/
def State.ringMac (s : State) (p : Nat) : Nat :=
  0x020000000000 + s.rd F.CAPO_RING_ID_RING * 65536 + s.rd F.CAPO_RING_ID_POSITION * 256 + p

/-- The SCI of port `p`'s channel and the SSCI of its nonces (R338). -/
def State.secSci (s : State) (p : Nat) : Nat := s.ringMac p * 65536 + 1
def State.secSsci (s : State) (p : Nat) : Nat := 4 * s.rd F.CAPO_RING_ID_POSITION + p + 1

end Sys2Proof.Machine
end

