-- ==== Sys2Proof/Machine/Ptp.lean ====
section
/-!
DEFINITION. Machine/Ptp.lean: PTP (R396 to R403, R410): the slave's measurements and TB0's update, steps by policy (R393),
lock and holdover (R392, R401), the transparent clock's forwarding, and the messages of a master.
-/
namespace Sys2Proof.Machine

/-! ## Where the module stands in the ring -/

/-- The path the module's grant is on: 0 A, 1 B (R354, R355). -/
def State.activePath (s : State) : Option Nat :=
  match s.rd F.CAPO_STAT_GRANT with
  | 1 => some 0
  | 2 => some 1
  | _ => none

/-- Ring port number (R336) of side `w` (0 East, 1 West) of path `x`. -/
def ringPort (x w : Nat) : Nat := 2 * x + w

/-- Ring port `p` belongs to the active path. -/
def State.onActive (s : State) (p : Nat) : Bool := p < 4 && s.activePath == some (p / 2)

/-- The module is the gateway (R363). -/
def State.isGateway (s : State) : Bool :=
  s.isSet F.CAPO_GATEWAY_VALID && s.rd F.CAPO_GATEWAY_POSITION == s.rd F.CAPO_RING_ID_POSITION

/-- Members passed from `pos` going East (rising positions, round the ring) before `dst`. -/
def membersEast (bits64 : Nat) : Nat → Nat → Nat → Nat
  | 0, _, _ => 0
  | fuel + 1, pos, dst =>
    let p := (pos + 1) % 64
    if p = dst then 0 else (if bitAt bits64 p then 1 else 0) + membersEast bits64 fuel p dst

/-- The ring port a slave listens on (R398): the side from which the gateway is reached over fewer members, West on
ties. DEDUCED: positions rise toward the East. -/
def State.slavePort (s : State) : Nat :=
  match s.activePath with
  | none => 7
  | some x =>
    let m := s.rd64 F.CAPO_MEMBERS_LO_BITS F.CAPO_MEMBERS_HI_BITS
    let me := s.rd F.CAPO_RING_ID_POSITION
    let g := s.rd F.CAPO_GATEWAY_POSITION
    let east := membersEast m 64 me g
    let west := membersEast m 64 g me
    ringPort x (if east < west then 0 else 1)

/-- The port PTP is listened to: the head-end port at the gateway, the slave port elsewhere. -/
def State.ptpPort (s : State) : Nat := if s.isGateway then 4 else if s.isSet F.CAPO_GATEWAY_VALID then s.slavePort else 7

def State.ptpCnt (s : State) (i : Nat) : State := s.inc (F.TIME_PTP_CNT_COUNT i)

def State.setTime (s : State) (t : TimeState) : State := { s with time := t }

/-! ## The delay filter and TB0's update -/

/-- The delay filter reset (R401); updates resume after 8 exchanges, and the count of R393 starts again (R409). -/
def State.filterReset (s : State) : State :=
  s.setTime { s.time with filter := [], dCount := 0, lastSync := none, dreq := none, overCnt := 0 }

/-- The mean of the delay measurements, in 2⁻¹⁶ ns. -/
def meanDelay (l : List Int) : Int := if l = [] then 0 else l.sum / (l.length : Int)

/-- TB0 goes into holdover (R392, R401): adj keeps the integral term. -/
def State.tb0Holdover (s : State) : State :=
  let s := s.wr F.TIME_TB0_STAT_HOLDOVER 1
  let adj := clampTo (s.servoLimit 0 * 65536) (-(s.time.integ.getD 0 0))
  (s.setTime { s.time with adj := s.time.adj.set 0 adj }).wr F.TIME_TB0_ADJ_ADJ (ofSigned 32 (adj / 256))

/-- SOURCE becomes PTP: any outstanding slew is abandoned (R395). -/
def State.sourcePtp (s : State) : State :=
  if s.rd F.TIME_TB0_STAT_SOURCE = 3 then s
  else (s.setTime { s.time with slewLeft := 0 }).wr F.TIME_TB0_STAT_SOURCE 3

/-- TB0 steps to the master's time: `o` ns less (R393). -/
def State.ptpStep (s : State) (o : Int) : State :=
  let s := s.tb0Step ((s.tb0 : Int) - o * 65536).toNat
  let s := s.setTime { s.time with overCnt := 0 }
  (s.sourcePtp).wr F.TIME_TB0_STAT_VALID 1

/-- STEP_HELD set (R393): the event and the recorder entry at its setting. -/
def State.stepHeld (s : State) (o : Int) : State :=
  if s.isSet F.TIME_TB0_STAT_STEP_HELD then s
  else ((s.wr F.TIME_TB0_STAT_STEP_HELD 1).raiseEvent 0x00F0 (unitOf bTIME) (o1 (unitOf bTIME))).recTrigger 0x0006
    (clampSigned 32 (o / 1000000)) []

/-- LOCKED after an update with offset `o` (R392). -/
def State.lockCount (s : State) (o : Int) : State :=
  let lock := s.rd F.TIME_LOCK_CFG_LOCK_NS
  let a := o.natAbs
  let n := if a ≤ lock then min 64 (s.time.lockCnt + 1) else 0
  let m := if 4 * lock < a then min 16 (s.time.unlockCnt + 1) else 0
  let s := s.setTime { s.time with lockCnt := n, unlockCnt := m }
  if n = 64 then ((s.sourcePtp).wr F.TIME_TB0_STAT_LOCKED 1).wr F.TIME_TB0_STAT_VALID 1
  else if m = 16 then s.wr F.TIME_TB0_STAT_LOCKED 0
  else s

/-- update(tb0, o) with the rules of R393, for a Sync of grandmaster `gm`. -/
def State.tb0Update (s : State) (o : Int) (gm : Nat) : State :=
  let s := (s.wr F.TIME_TB0_OFFSET_NS (ofSigned 32 (clampSigned 32 o))).wr F.TIME_TB0_STAT_HOLDOVER 0
  let thr := s.rd F.TIME_STEP_CFG_STEP_US * 1000
  let beyond := decide (thr < o.natAbs)
  let neg := decide (o < 0)
  let s := if o.natAbs < thr then s.wr F.TIME_TB0_STAT_STEP_HELD 0 else s
  if beyond then
    if ¬ s.isSet F.TIME_TB0_STAT_VALID then s.ptpStep o
    else
      let n := if 0 < s.time.overCnt ∧ s.time.overNeg = neg ∧ s.time.overGm = gm then s.time.overCnt + 1 else 1
      let s := s.setTime { s.time with overCnt := n, overNeg := neg, overGm := gm }
      if s.rd F.TIME_STEP_CFG_CONFIRM ≤ n then
        if s.isSet F.TIME_STEP_CFG_POLICY then s.ptpStep o else ((s.stepHeld o).servo 0 o).lockCount o
      else (s.servo 0 o).lockCount o
  else ((s.setTime { s.time with overCnt := 0 }).servo 0 o).lockCount o

/-- A Sync's measurement taken (R400): `x` is t2 − t1 − cs in 2⁻¹⁶ ns. It is kept for the next Delay_Resp, and updates
TB0 once 8 delays are in. -/
def State.syncMeasured (s : State) (x : Int) (gm : Nat) : State :=
  let s := (s.setTime { s.time with lastSync := some x }).ptpCnt 0
  if s.time.dCount < 8 then s else s.tb0Update ((x - meanDelay s.time.filter) / 65536) gm

/-! ## Receiving -/

/-- A PTP message this module accepts (R396): version, SDO and domain. -/
def State.ptpFits (s : State) (m : PtpMsg) : Bool :=
  m.version == 2 && decide (m.minorVer.toNat ≤ 1) && m.majorSdo == 0 && m.minorSdo == 0 && m.domain.toNat == s.rd F.TIME_PTP_CFG_DOMAIN

/-- The asymmetry of port `p` in 2⁻¹⁶ ns (R399). -/
def State.asym (s : State) (p : Nat) : Int := toSigned 32 (s.rd (F.TIME_PORT_ASYM_PS p)) * 65536 / 1000

/-- PTP is running: PD45 ON and EN 1. -/
def State.ptpOn (s : State) : Bool := s.isOn 45 && s.isSet F.TIME_PTP_CFG_EN

/-- Whether a PTP message on port `p` is taken up at all: a ring port of the active path, or the gateway's head-end
port; the standby path's messages are discarded (R398). -/
def State.ptpArrives (s : State) (p : Nat) : Bool := s.onActive p || (p == 4 && s.isGateway)

/-- The other port of the path of ring port `p`. -/
def otherPort (p : Nat) : Nat := if p % 2 = 0 then p + 1 else p - 1

/-- A frame whose ICV fails is never consumed, and is handled under R346 (R399): the failure is counted by the path it came
on, and a frame that goes on does so with its ICV inverted. -/
def State.ptpBadIcv (s : State) (p : Nat) : State :=
  let s := s.ptpCnt 4
  if p < 4 then
    let s := s.inc (F.RING_CNT_COUNT (p / 2) 5)
    if s.isGateway then s else (s.emit (.ptpBad (otherPort p))).inc (F.RING_CNT_COUNT (p / 2) 6)
  else s

/-- The message as it arrives passes MACsec on a ring port (R338). -/
def State.ptpSecOk (s : State) (p : Nat) (m : PtpMsg) : Bool := decide (4 ≤ p) || s.secOk p m.an.toNat m.pn.toNat

def State.ptpTook (s : State) (p : Nat) (m : PtpMsg) : State := if 4 ≤ p then s else s.secTook p m.an.toNat m.pn.toNat

/-- The message judged before anything else: an ICV failure, a frame replay protection refuses, and a misfit are discarded
and counted. -/
def State.ptpJudge (s : State) (p : Nat) (m : PtpMsg) (icvOk : Bool) (act : State → State) : State :=
  if ¬ (s.ptpOn ∧ s.ptpArrives p) then s
  else if ¬ (icvOk ∧ s.ptpSecOk p m) then s.ptpBadIcv p
  else
    let s := s.ptpTook p m
    if ¬ s.ptpFits m then s.ptpCnt 4 else act s

/-- A PTP message sent at port `p`: on a ring port under the port's association, with none nothing is sent (R338, R396). -/
def State.ptpSend (s : State) (p typ : Nat) (m : PtpMsg) (a : Option PtpAnnounce) : State :=
  if 4 ≤ p then s.emit (.ptp p typ m a)
  else if s.saOk p then
    let (an, pn) := s.txTag p
    (s.drawPn p).emit (.ptp p typ { m with an := .ofNat 2 an, pn := .ofNat 64 pn } a)
  else s

/-- A message forwarded by the other port of the path, where this module is no gateway (R398, R399). -/
def State.ptpForward (s : State) (p typ : Nat) (m : PtpMsg) (a : Option PtpAnnounce) (add : Int) (cnt : Option Nat) :
    State :=
  if p < 4 ∧ ¬ s.isGateway then
    let s := s.ptpSend (otherPort p) typ { m with corr := m.corr + add } a
    match cnt with
    | some i => s.ptpCnt i
    | none => s
  else s

/-- The stop of PTP at a TB0 update (TIME_PTP_CFG.EN 0). -/
def State.ptpStop (s : State) : State :=
  let s := (s.setTime { s.time with master := none, twoStep := none, dreq := none, localGm := false }).tb0Holdover
  let s := if s.rd F.TIME_TB0_STAT_SOURCE = 3 then s.wr F.TIME_TB0_STAT_SOURCE 0 else s
  s.wr F.TIME_PTP_STAT_SLAVE_PORT 7

/-- The TB0 commit point at a Sync; PTP stops there when EN has become 0, and its filter restarts when EN has become 1
(R410). -/
def State.ptpCommit (s : State) : State :=
  let was := s.isSet F.TIME_PTP_CFG_EN
  let s := s.timeCommit 0
  let now := s.isSet F.TIME_PTP_CFG_EN
  if was ∧ ¬ now then s.ptpStop else if now ∧ ¬ was then s.filterReset else s

/-- The port the slave listens on has changed, its master with it: the delay filter restarts (R398, R401). -/
def State.slaveMoved (s : State) (ms : PtpMaster) (p : Nat) : State :=
  if ms.port = p then s
  else (s.filterReset.setTime { s.filterReset.time with master := some { ms with port := p }, twoStep := none }).wr
    F.TIME_PTP_STAT_SLAVE_PORT p

/-- PTP_SYNC_RECEIVED (R398 to R400). -/
def State.ptpSync (s : State) (p : Nat) (m : PtpMsg) (icvOk : Bool) (t2 : Int) (residence : Nat) : State :=
  if ¬ s.isOn 45 then s
  else
    let s := s.ptpCommit
    s.ptpJudge p m icvOk (fun s =>
      if m.twoStep ∧ p < 4 then s.ptpCnt 4
      else
        let s := s.ptpForward p 0 m none (s.asym p + residence) (some 1)
        if p ≠ s.ptpPort then s
        else
          match s.time.master with
          | none => s
          | some ms =>
            let s := s.slaveMoved ms p
            if ms.gm ≠ m.gm.toNat then s
            else if m.twoStep then
              s.setTime { s.time with twoStep := some ⟨m.seq.toNat, m.gm.toNat, t2, m.corr + s.asym p, p⟩ }
            else s.syncMeasured (t2 - m.time - (m.corr + s.asym p)) m.gm.toNat)

/-- FOLLOW_UP_RECEIVED (R400). -/
def State.followUp (s : State) (p : Nat) (m : PtpMsg) : State :=
  s.ptpJudge p m true (fun s =>
    match s.time.twoStep with
    | some w =>
      if w.seq = m.seq.toNat ∧ w.port = p then
        (s.setTime { s.time with twoStep := none }).syncMeasured (w.t2 - m.time - (w.corr + m.corr)) w.gm
      else s
    | none => s)

/-- FOLLOW_UP_MISSING (R400). -/
def State.followUpMissing (s : State) (ms : Nat) : State :=
  match s.time.twoStep with
  | some _ => if s.isOn 45 ∧ 100 ≤ ms then (s.setTime { s.time with twoStep := none }).ptpCnt 5 else s
  | none => s

/-- The clockIdentity of R396: 02-00-00-FF-FE-RR-PP-00. -/
def State.clockId (s : State) : Nat :=
  0x020000FFFE000000 + s.rd F.CAPO_RING_ID_RING * 65536 + s.rd F.CAPO_RING_ID_POSITION * 256

/-- The identity of this module's PTP port at `p` (R396): portNumber p + 1, 5 for the head-end port. -/
def State.portId (s : State) (p : Nat) : BitVec 80 := .ofNat 80 (s.clockId * 65536 + p + 1)

/-- This module's PTP message with sequence number `seq`, sent by port `p`. -/
def State.ownPtp (s : State) (p seq : Nat) (time corr : Int) (gm : Nat) : PtpMsg :=
  ⟨2, 1, 0, 0, .ofNat 8 (s.rd F.TIME_PTP_CFG_DOMAIN), .ofNat 16 seq, false, .ofNat 64 gm, corr, time, s.portId p, 0, 0, 0⟩

/-- DELAY_REQ_SEND (R396, R398, R400): on the port the slave listens on. -/
def State.delayReqSend (s : State) (sinceUs : Nat) (t3 : Int) : State :=
  if s.ptpOn ∧ s.time.master ≠ none ∧ s.ptpPort ≠ 7 ∧ 1000000 / 2 ^ s.rd F.TIME_PTP_CFG_LOG_DREQ ≤ sinceUs then
    let p := s.ptpPort
    let q := s.time.dreqSeq
    (s.setTime { s.time with dreq := some (q, t3), dreqSeq := (q + 1) % 65536 }).ptpSend p 1
      (s.ownPtp p q 0 (-(s.asym p)) 0) none
  else s

/-- The module answers Delay_Req on its ring ports: as boundary clock, or serving from its own TB0 (R397). -/
def State.ptpMaster (s : State) : Bool := s.ptpOn && s.isGateway && (s.time.master.isSome || s.time.localGm)

/-- DELAY_REQ_RECEIVED (R396, R398, R399). -/
def State.delayReq (s : State) (p : Nat) (m : PtpMsg) (icvOk : Bool) (rx : Int) (residence : Nat) : State :=
  s.ptpJudge p m icvOk (fun s =>
    if p < 4 ∧ s.isGateway then
      if s.ptpMaster then s.ptpSend p 9 { m with time := rx, source := s.portId p, asker := m.source } none else s
    else s.ptpForward p 1 m none ((residence : Int) - s.asym (otherPort p)) (some 2))

/-- DELAY_RESP_RECEIVED (R400). -/
def State.delayResp (s : State) (p : Nat) (m : PtpMsg) (icvOk : Bool) : State :=
  s.ptpJudge p m icvOk (fun s =>
    let s := s.ptpForward p 9 m none 0 none
    if m.asker ≠ s.portId p ∨ p ≠ s.ptpPort then s
    else
      match s.time.dreq, s.time.lastSync with
      | some (q, t3), some x =>
        if q = m.seq.toNat then
          let d := (x + (m.time - t3 - m.corr)) / 2
          let filter := (d :: s.time.filter).take 16
          ((s.setTime { s.time with filter := filter, dCount := min 16 (s.time.dCount + 1), dreq := none }).ptpCnt 3).wr
            F.TIME_PTP_DELAY_NS (ofSigned 32 (meanDelay filter / 65536))
        else s
      | _, _ => s)

/-! ## Master selection -/

/-- The order of the default BMCA over announced data sets (PRESUMED: the data set comparison of IEEE 1588-2019 by
priority1, clockClass, clockAccuracy, offsetScaledLogVariance, priority2, identity; smaller is better). -/
def annKey (a : PtpAnnounce) (gm : Nat) : List Nat :=
  [a.prio1.toNat, a.clockClass.toNat, a.accuracy.toNat, a.variance.toNat, a.prio2.toNat, gm]

/-- Lexicographic order. -/
def lexLt : List Nat → List Nat → Bool
  | x :: xs, y :: ys => decide (x < y) || (x == y && lexLt xs ys)
  | [], _ :: _ => true
  | _, [] => false

/-- The fields of the registers that follow the selected master (R403). -/
def State.showMaster (s : State) (m : PtpMaster) : State :=
  let s := (s.wr F.TIME_PTP_STAT_GM_CLASS m.ann.clockClass.toNat).wr F.TIME_PTP_STAT_SLAVE_PORT m.port
  let s := s.wr64 F.TIME_PTP_GM_LO_ID F.TIME_PTP_GM_HI_ID m.gm
  let s := (s.wr F.TIME_PTP_UTC_OFFSET_S m.ann.utcOffset.toNat).wrB F.TIME_PTP_UTC_VALID m.ann.utcValid
  let s := (s.wrB F.TIME_PTP_UTC_LEAP61 m.ann.leap61).wrB F.TIME_PTP_UTC_LEAP59 m.ann.leap59
  (s.wrB F.TIME_PTP_STAT_BC s.isGateway).wr F.TIME_PTP_STAT_STATE 9

/-- PTP_ANNOUNCE_RECEIVED (R396, R397, R401, R403). A change of master or of slave port resets the delay filter. -/
def State.ptpAnnounce (s : State) (p : Nat) (m : PtpMsg) (a : PtpAnnounce) (icvOk : Bool) : State :=
  s.ptpJudge p m icvOk (fun s =>
    let s := s.ptpForward p 11 m (some a) 0 none
    if p ≠ s.ptpPort ∨ ¬ a.ptpTimescale then s
    else
      let new : PtpMaster := ⟨m.gm.toNat, a, p⟩
      let take := match s.time.master with
        | none => true
        | some old => old.gm == new.gm || old.port != p || lexLt (annKey a new.gm) (annKey old.ann old.gm)
      if take then
        let same := match s.time.master with
          | some old => old.gm == new.gm && old.port == p
          | none => false
        let s := s.setTime { s.time with master := some new, localGm := false }
        (if same then s else s.filterReset).showMaster new
      else s)

/-- MASTER_LOST (R401): TB0 enters holdover, and SOURCE PTP ends (R386). -/
def State.masterLost (s : State) (annMs syncMs : Nat) : State :=
  match s.time.master with
  | none => s
  | some _ =>
    if s.ptpOn ∧ (3000 ≤ annMs ∨ 1000 ≤ syncMs) then
      let s := (s.setTime { s.time with master := none, twoStep := none }).ptpCnt 6
      let s := (s.filterReset).tb0Holdover
      let s := if s.rd F.TIME_TB0_STAT_SOURCE = 3 then s.wr F.TIME_TB0_STAT_SOURCE 0 else s
      ((s.wr F.TIME_PTP_STAT_SLAVE_PORT 7).wr F.TIME_PTP_STAT_GM_CLASS 0).wr F.TIME_PTP_STAT_STATE 4
    else s

/-- HOLDOVER_EXPIRY (R392). -/
def State.holdoverExpiry (s : State) (sec : Nat) : State :=
  if s.isOn 45 ∧ s.isSet F.TIME_TB0_STAT_HOLDOVER ∧ s.rd F.TIME_LOCK_CFG_HOLDOVER_S ≤ sec then
    (s.wr F.TIME_TB0_STAT_LOCKED 0).setTime { s.time with lockCnt := 0 }
  else s

/-- LOCAL_GM_TAKEOVER (R397): no master for 3 Announce intervals. -/
def State.localGmTakeover (s : State) (sinceMs : Nat) : State :=
  if s.ptpOn ∧ s.isGateway ∧ s.isSet F.TIME_PTP_CFG_LOCAL_GM ∧ s.time.master = none ∧ 3000 ≤ sinceMs then
    (s.setTime { s.time with localGm := true }).wr F.TIME_PTP_STAT_BC 1
  else s

/-! ## Sending as a master -/

/-- The grandmaster this module names: its master's, or itself. -/
def State.ownGm (s : State) : Nat :=
  match s.time.master with
  | some m => m.gm
  | none => s.clockId

/-- The Announce fields this module sends: its master's, or clockClass 248 from its own TB0 (R397). -/
def State.ownAnn (s : State) : PtpAnnounce :=
  match s.time.master with
  | some m => m.ann
  | none => ⟨128, 248, 0xFE, 0xFFFF, 128, true, .ofNat 16 (s.rd F.TIME_PTP_UTC_OFFSET_S), s.isSet F.TIME_PTP_UTC_VALID,
      s.isSet F.TIME_PTP_UTC_LEAP61, s.isSet F.TIME_PTP_UTC_LEAP59⟩

/-- PTP_SYNC_SEND (R396): 128 per second on both ports of the active path, one-step. A clock that serves TB0 takes its
commit point here. -/
def State.ptpSyncSend (s : State) (sinceUs : Nat) : State :=
  match s.activePath with
  | none => s
  | some x =>
    if ¬ (s.ptpMaster ∧ 1000000 / 128 ≤ sinceUs) then s
    else
      let s := s.ptpCommit
      if ¬ s.ptpMaster then s
      else
      let m (p : Nat) : PtpMsg := s.ownPtp p s.time.syncSeq (s.tb0 : Int) 0 s.ownGm
      let (e, w) := (ringPort x 0, ringPort x 1)
      let s := s.setTime { s.time with syncSeq := (s.time.syncSeq + 1) % 65536 }
      (((s.ptpSend e 0 (m e) none).ptpCnt 7).ptpSend w 0 (m w) none).ptpCnt 7

/-- PTP_ANNOUNCE_SEND (R396): once per second on both ports of the active path. -/
def State.ptpAnnounceSend (s : State) (sinceMs : Nat) : State :=
  match s.activePath with
  | none => s
  | some x =>
    if s.ptpMaster ∧ 1000 ≤ sinceMs then
      let m (p : Nat) : PtpMsg := s.ownPtp p s.time.annSeq 0 0 s.ownGm
      let (e, w) := (ringPort x 0, ringPort x 1)
      let a := some s.ownAnn
      let s := s.setTime { s.time with annSeq := (s.time.annSeq + 1) % 65536 }
      (s.ptpSend e 11 (m e) a).ptpSend w 11 (m w) a
    else s

end Sys2Proof.Machine
end

