-- ==== Sys2Proof/Machine/Pegbox.lean ====
section
/-!
DEFINITION. Machine/Pegbox.lean: the Pegbox (spec/05): descriptors, tags and the free list, writing a packet, rewinds,
claims and reading, flush, credits, the cell ledger.
-/
namespace Sys2Proof.Machine

/-! ## Descriptors, tags, free list -/

/-- The number of cells (R106). -/
def nCells : Nat := 524288

/-- A descriptor of zeros (R110). -/
def Desc.zero : Desc :=
  ⟨0, 0, 0, 0, 0, 0, false, false, false, false, false, false, 0, 0, false, false⟩

/-- The descriptor of queue `q`. -/
def State.desc (s : State) (q : Nat) : Desc := s.peg.descs.get q Desc.zero

def State.setDesc (s : State) (q : Nat) (d : Desc) : State :=
  { s with peg := { s.peg with descs := s.peg.descs.set q d } }

/-- The tag of cell `c`; a cell never used holds the link of the initial free list, in rising order (assumption 7). -/
def State.tag (s : State) (c : Nat) : CellTag := s.peg.tags.get c ⟨(c + 1) % nCells, false, 0, false, 0, .none⟩

def State.setTag (s : State) (c : Nat) (t : CellTag) : State :=
  { s with peg := { s.peg with tags := s.peg.tags.set c t } }

/-- Bit errors that have come up in the tags of these cells. -/
def State.upset (s : State) (l : List (Nat × TagError)) : State :=
  l.foldl (fun s e => s.setTag e.1 { s.tag e.1 with err := e.2 }) s

/-- NEXT of cell `c` set to `n`. -/
def State.link (s : State) (c n : Nat) : State := s.setTag c { s.tag c with next := n }

/-- The 128 bits of a descriptor (R109). -/
def Desc.word128 (d : Desc) : Nat :=
  d.expHead + d.expTail * 2 ^ 19 + d.ordHead * 2 ^ 38 + d.ordTail * 2 ^ 57 + d.pktCnt * 2 ^ 76 + d.cellCnt * 2 ^ 92
  + b2n d.enable * 2 ^ 111 + b2n d.flush * 2 ^ 112 + b2n d.expNE * 2 ^ 113 + b2n d.ordNE * 2 ^ 114
  + b2n d.claimed * 2 ^ 115 + b2n d.notifyEn * 2 ^ 116 + d.consumer * 2 ^ 117 + d.profile * 2 ^ 122
  + b2n d.dropSeen * 2 ^ 126 + b2n d.poisonSeen * 2 ^ 127

/-- Pegbox port index of queue `q` (R19). -/
def qPort (q : Nat) : Nat := bits q 6 2

/-- The Pegbox runs: its domains are ON and RUN is 1. -/
def State.pegRuns (s : State) : Bool := s.allOn [18, 19, 20, 21, 22, 23] && s.run bPEG

/-- PEG_PCNT[k][i] one higher. -/
def State.pcnt (s : State) (k i : Nat) : State := s.inc (F.PEG_PCNT_COUNT k i)

/-- A chain of `n` cells from `first` to `lastC` pushed on the free list as one act (R112). -/
def State.pushChain (s : State) (first lastC n : Nat) : State :=
  if n = 0 then s
  else
    let s := s.link lastC s.peg.freeHead
    ({ s with peg := { s.peg with freeHead := first } }).add F.PEG_CELL_FREE_FREE n

/-- USE of port `p`. -/
def State.use (s : State) (p : Nat) : Nat := s.rd (F.PEG_CREDIT_USE_USE p)

/-- The unused reserve of port `p`, in cells. -/
def State.unusedReserve (s : State) (p : Nat) : Nat := 16 * s.rd (F.PEG_CREDIT_RESERVE p) - s.use p

/-- The sum over every port of the unused reserves. -/
def State.reservesLeft (s : State) : Nat := (List.range 32).foldl (fun a p => a + s.unusedReserve p) 0

/-- The Pegbox grants port `p` a pop (R134). -/
def State.popGranted (s : State) (p : Nat) : Bool :=
  let free := s.rd F.PEG_CELL_FREE_FREE
  decide (0 < free) &&
  (decide (s.use p < 16 * s.rd (F.PEG_CREDIT_RESERVE p)) ||
   (decide (s.use p < 16 * s.rd (F.PEG_CREDIT_CAP p)) && decide (s.reservesLeft ≤ free - 1)))

/-- FREE_LOW and PEG_FREE_MIN after the free count fell from `before` (R135). -/
def State.freeFell (s : State) (before : Nat) : State :=
  let free := s.rd F.PEG_CELL_FREE_FREE
  let s := if free < s.rd F.PEG_FREE_MIN_MIN then s.wr F.PEG_FREE_MIN_MIN free else s
  let lvl := s.rd F.PEG_FREE_WARN_LEVEL
  if free < lvl ∧ lvl ≤ before then
    ((s.wr F.PEG_ERR_FREE_LOW 1).raiseEvent 0x0020 (unitOf bPEG) []).recTrigger 0x0050 (free : Int) []
  else s

/-- A tag error of cell `c` met while working for queue `q` recorded (R113). -/
def State.tagErrorAt (s : State) (q c : Nat) : State :=
  (s.wr F.PEG_ERR_QUEUE_QUEUE q).wr F.PEG_ERR_CELL_CELL c

/-- A single-bit tag error corrected, its corrected tag written back, counted once at Pegbox port `k`. -/
def State.tagCorrected (s : State) (k q c : Nat) : State :=
  (((s.setTag c { s.tag c with err := .none }).tagErrorAt q c).wr F.PEG_ERR_TAG_CORR 1).pcnt k 15

/-- The tag of cell `c` is read at Pegbox port `k` for queue `q`: a single-bit error is corrected. -/
def State.tagRead (s : State) (k q c : Nat) : State := if (s.tag c).err = .single then s.tagCorrected k q c else s

/-- `n` cells moved to quarantine. -/
def State.quarantineCells (s : State) (n : Nat) : State :=
  if n = 0 then s
  else ({ s with peg := { s.peg with quarantine := s.peg.quarantine + n } }).wr F.PEG_ERR_QUARANTINE 1

/-- One cell popped for port `p` at Pegbox port `k` (R112): the head cell, its USE counted. A single-bit tag error is
corrected; a double-bit error cuts off the rest of the free list (R113), and the supervisor owes a module reset (R137). -/
def State.pop (s : State) (k p : Nat) : Nat × State :=
  let c := s.peg.freeHead
  let before := s.rd F.PEG_CELL_FREE_FREE
  let s := { s with peg := { s.peg with freeHead := (s.tag c).next } }
  let s := (s.wr F.PEG_CELL_FREE_FREE (before - 1)).add (F.PEG_CREDIT_USE_USE p) 1
  let s := match (s.tag c).err with
    | .none => s
    | .single => s.tagCorrected k 0xFFFFF c
    | .double =>
      let s := (s.tagErrorAt 0xFFFFF c).wr F.PEG_ERR_TAG_UNCORR 1
      let s := { s with sys := { s.sys with resetDue := true } }
      (s.quarantineCells (before - 1)).wr F.PEG_CELL_FREE_FREE 0
  (c, s.freeFell before)

/-! ## Contexts and results -/

def ctxKey (p t : Nat) : Nat := 256 * p + t

def State.ctx (s : State) (p t : Nat) : Option Ctx := s.peg.ctxs.find (ctxKey p t)

def State.setCtx (s : State) (p t : Nat) (c : Ctx) : State :=
  { s with peg := { s.peg with ctxs := s.peg.ctxs.set (ctxKey p t) c } }

/-- The context returned to idle. -/
def State.idleCtx (s : State) (p t : Nat) : State :=
  { s with peg := { s.peg with ctxs := s.peg.ctxs.erase (ctxKey p t) } }

/-- The result word of R118, sent by Pegbox port `k` to port `p` with TAG `t`. -/
def resultWord (k p t status reason q cells : Nat) : FWord :=
  mkWord p (16 + k) (if status = stOK then kAck else kNack) t true 0 0
    (0x30 + status * 2 ^ 8 + reason * 2 ^ 16 + q * 2 ^ 20 + cells * 2 ^ 40)

/-- A result word sent. -/
def State.result (s : State) (k p t status reason q cells : Nat) : State :=
  s.send (resultWord k p t status reason q cells)

/-- STATUS of a rewind reason (R119). -/
def reasonStatus (r : Nat) : Nat :=
  if r = 0x2 then stPOISON else if r = 0x7 then stFLUSHED else if r = 0x8 then stTIMEOUT else stBAD

/-- The PEG_PCNT index of a rewind reason. -/
def reasonCnt (r : Nat) : Nat :=
  match r with
  | 0x1 => 3
  | 0x2 => 4
  | 0x3 => 5
  | 0x4 => 6
  | 0x5 => 7
  | 0x7 => 9
  | 0x8 => 10
  | _ => 8

/-- The sticky descriptor bits of a rewind: DROP_SEEN for LENGTH, NO_CELL and QUEUE_FULL, POISON_SEEN for INPUT_POISON. -/
def State.markDesc (s : State) (q r : Nat) : State :=
  let d := s.desc q
  if r = 0x3 ∨ r = 0x4 ∨ r = 0x5 then s.setDesc q { d with dropSeen := true }
  else if r = 0x2 then s.setDesc q { d with poisonSeen := true }
  else s

/-- The cells of context `c` of port `p` given back: pushed as one chain, the credit released, the rewind counted. -/
def State.rewindCells (s : State) (p r : Nat) (c : Ctx) : State :=
  let s := s.pushChain c.first c.lastC c.cells
  let s := s.wr (F.PEG_CREDIT_USE_USE p) (s.use p - c.cells)
  (s.markDesc c.queue r).pcnt c.k (reasonCnt r)

/-- A packet rewound for reason `r` (R119): `atOnce` sends the result now and, unless the LAST word has come, leaves the
context in discard without a result due; otherwise the result goes at LAST. -/
def State.rewind (s : State) (p t r : Nat) (c : Ctx) (atOnce lastSeen : Bool) : State :=
  let s := s.rewindCells p r c
  if atOnce || lastSeen then
    let s := s.result c.k p t (reasonStatus r) r c.queue c.cells
    if lastSeen then s.idleCtx p t
    else s.setCtx p t { c with mode := .discard, cells := 0, due := none, stamp := s.sys.refTick }
  else
    s.setCtx p t { c with mode := .discard, cells := 0, due := some (reasonStatus r, r, c.cells), stamp := s.sys.refTick }

/-! ## Packet boundaries (R532) -/

/-- The queue entry of `q` applied. -/
def State.applyQ (s : State) (q : Nat) (e : QShadow) : State :=
  let d := s.desc q
  let s := s.setDesc q { d with profile := e.profile, consumer := e.consumer, notifyEn := e.notifyEn }
  ({ s with peg := { s.peg with qshadow := s.peg.qshadow.erase q } }).inc (F.SHADOW_COMMIT_CNT bPEG)

/-- A packet boundary of queue `q`: with HOLD 0 its queue entry, and the profile shadow, are applied. -/
def State.boundary (s : State) (q : Nat) : State :=
  if s.isSet (F.SHADOW_HOLD bPEG) then s
  else
    let s := match s.peg.qshadow.find q with
      | some e => s.applyQ q e
      | none => s
    s.commit bPEG

/-! ## Commit -/

/-- The commit would break the queue's profile (QUEUE_FULL). -/
def State.queueFull (s : State) (q cells : Nat) : Bool :=
  let d := s.desc q
  decide (s.rd (F.PEG_PROFILE_A_MAX_CELLS d.profile) < d.cellCnt + cells) ||
  decide (s.rd (F.PEG_PROFILE_B_MAX_PKTS d.profile) < d.pktCnt + 1)

/-- A packet linked behind the tail of its level, and counted (R117). -/
def State.linkTail (s : State) (q : Nat) (exp : Bool) (first lastC cells : Nat) : State :=
  let d := s.desc q
  let s := if exp then (if d.expNE then s.link d.expTail first else s)
           else (if d.ordNE then s.link d.ordTail first else s)
  let d := if exp then
      { d with expHead := if d.expNE then d.expHead else first, expTail := lastC, expNE := true }
    else
      { d with ordHead := if d.ordNE then d.ordHead else first, ordTail := lastC, ordNE := true }
  s.setDesc q { d with pktCnt := (d.pktCnt + 1) % 2 ^ 16, cellCnt := (d.cellCnt + cells) % 2 ^ 19 }

/-- The reason the commit of context `c` fails, where it does: doomed, disabled, full; a queue both disabled and full answers
DISABLED (DESIGN CHOICE, assumption 80). -/
def State.commitReason (s : State) (c : Ctx) : Option Nat :=
  if c.doomed then some 0x7
  else if ¬ (s.desc c.queue).enable then some 0x6
  else if s.queueFull c.queue c.cells then some 0x5
  else none

/-- The commit act on context `c` of port `p`: the packet linked, EOP and VB set, the credit released, or its rewind;
the outcome is (status, reason). No result word is sent here. A commit that fails is a packet boundary too (DESIGN CHOICE,
assumption 80). -/
def State.commitAct (s : State) (p : Nat) (c : Ctx) : (Nat × Nat) × State :=
  match s.commitReason c with
  | some r => ((reasonStatus r, r), (s.rewindCells p r c).boundary c.queue)
  | none =>
    let s := s.setTag c.lastC { s.tag c.lastC with eop := true, vb := c.vb }
    let s := s.linkTail c.queue c.exp c.first c.lastC c.cells
    let s := s.wr (F.PEG_CREDIT_USE_USE p) (s.use p - c.cells)
    ((stOK, 0), (s.pcnt c.k 0).boundary c.queue)

/-- PEG_COMMIT: the commit of a context whose LAST word is acknowledged. -/
def State.pegCommit (s : State) (p t : Nat) : State :=
  match s.ctx p t with
  | some c =>
    if c.mode = .closing then
      let (r, s) := s.commitAct p c
      (s.result c.k p t r.1 r.2 c.queue c.cells).idleCtx p t
    else s
  | none => s

/-! ## Writing a packet -/

/-- A data line stored in cell `c`. -/
def State.storeCell (s : State) (c data : Nat) : State := s.wrMem (0x60000000 + 64 * c) 64 data

/-- A cell popped for context `c`, written with `data` and chained (R116). -/
def State.takeCell (s : State) (p : Nat) (c : Ctx) (data : Nat) : Ctx × State :=
  let (cell, s) := s.pop c.k p
  let s := s.storeCell cell data
  let s := s.setTag cell ⟨(s.tag cell).next, false, 0, false, 0, .none⟩
  let s := if c.cells = 0 then s else s.link c.lastC cell
  ({ c with first := if c.cells = 0 then cell else c.first, lastC := cell, cells := c.cells + 1,
            stamp := s.sys.refTick }, s)

/-- The first reason that refuses an OPEN, in the order of R119: INPUT_POISON, WRONG_PORT, DISABLED, EXP_REFUSED,
LENGTH of an inline packet. -/
def State.openReason (s : State) (k q : Nat) (exp : Bool) (w : FWord) : Option Nat :=
  if w.poison ≠ 0 then some 0x2
  else if qPort q ≠ k then some 0xA
  else if ¬ (s.desc q).enable then some 0x6
  else if exp ∧ s.rd (F.PEG_PROFILE_A_EXP_ALLOW (s.desc q).profile) = 0 then some 0x9
  else if w.last ∧ w.valid.toNat ≠ 0 ∧ w.valid.toNat ≤ 8 then some 0x3
  else none

/-- The most cells a packet of queue `q` may hold (R116). -/
def State.maxPktCells (s : State) (q : Nat) : Nat := min 144 (s.rd (F.PEG_PROFILE_A_MAX_PKT_CELLS (s.desc q).profile))

/-- PEG_DATA_WORD (R116, R119): a write word of a busy context. A word beyond the limit that has no credit either is LENGTH, and
every discarded word starts the discard's idle limit again (DESIGN CHOICE, assumption 80). -/
def State.pegData (s : State) (w : FWord) : State :=
  let p := w.src.toNat
  let t := w.tag.toNat
  match s.ctx p t with
  | none => s
  | some c =>
    match c.mode with
    | .closing => s
    | .discard =>
      if w.last then
        let s := match c.due with
          | some (st, r, n) => s.result c.k p t st r c.queue n
          | none => s
        s.idleCtx p t
      else s.setCtx p t { c with stamp := s.sys.refTick }
    | .open =>
      if w.poison ≠ 0 then s.rewind p t 0x2 c false w.last
      else if s.maxPktCells c.queue < c.cells + 1 then s.rewind p t 0x3 c false w.last
      else if ¬ s.popGranted p then s.rewind p t 0x4 c false w.last
      else
        let (c, s) := s.takeCell p c w.data.toNat
        if w.last then s.setCtx p t { c with mode := .closing, vb := w.valid.toNat }
        else s.setCtx p t c

/-- OPEN (R115): a write word on an idle context; on a busy one it is a word of that packet. An inline packet is committed in the
same act, with no acknowledgement between (DESIGN CHOICE, assumption 80). -/
def State.pegOpen (s : State) (k : Nat) (w : FWord) : State :=
  let p := w.src.toNat
  let t := w.tag.toNat
  let v := w.data.toNat
  let q := bits v 8 20
  let exp := bitAt v 28
  let c : Ctx := ⟨.open, k, q, exp, 0, 0, 0, 0, false, none, s.sys.refTick⟩
  if (s.ctx p t).isSome then s.pegData w
  else if w.poison = 0 ∧ bits v 0 8 ≠ 1 then (s.result k p t stBAD 0xB q 0).pcnt k 8
  else
    match s.openReason k q exp w with
    | some r => s.rewind p t r c false w.last
    | none =>
      if w.last then
        if s.popGranted p then
          let len := (if w.valid.toNat = 0 then 64 else w.valid.toNat) - 8
          let (c, s) := s.takeCell p c (bits v 64 (8 * len))
          let (r, s) := s.commitAct p { c with vb := len % 64 }
          s.result k p t r.1 r.2 q 1
        else s.rewind p t 0x4 c false true
      else s.setCtx p t c

/-- The context idle limit has passed since `stamp` (timed on the reference tick). -/
def State.ctxExpired (s : State) (stamp : Nat) : Bool :=
  decide (1000 * s.rd F.PEG_CTX_TIMEOUT_MS ≤ s.sys.refTick - stamp)

/-- CTX_TIMEOUT (R119). -/
def State.ctxTimeout (s : State) (p t : Nat) : State :=
  match s.ctx p t with
  | some c => if c.mode = .open ∧ s.ctxExpired c.stamp then s.rewind p t 0x8 c true false else s
  | none => s

/-- DISCARD_TIMEOUT (R119): back to idle without a further result. -/
def State.discardTimeout (s : State) (p t : Nat) : State :=
  match s.ctx p t with
  | some c => if c.mode = .discard ∧ s.ctxExpired c.stamp then s.idleCtx p t else s
  | none => s

/-- An ABORT for context `t` of port `p` arriving at Pegbox port `k` (R120). -/
def State.pegAbort (s : State) (k p t : Nat) : State :=
  match s.ctx p t with
  | none => s.result k p t stBAD 0 0 0
  | some c =>
    match c.mode with
    | .discard =>
      let s := match c.due with
        | some (st, r, n) => s.result c.k p t st r c.queue n
        | none => s.result k p t stBAD 0x1 c.queue 0
      s.idleCtx p t
    | _ => s.rewind p t 0x1 c true true

/-- Every busy context of port `p` rewound without a result (R121). -/
def State.rewindPort (s : State) (p : Nat) : State :=
  (s.peg.ctxs.filter (fun e => e.1 / 256 == p)).foldl (fun s e =>
    let s := match e.2.mode with
      | .discard => s
      | _ => s.rewindCells p 0x1 e.2
    s.idleCtx p (e.1 % 256)) s

/-! ## Claims and reading -/

/-- From cell `c`, the last cell of its packet and the cells up to it, at most `fuel + 1`. -/
def State.walk (s : State) : Nat → Nat → Nat → Nat × Nat
  | 0, c, n => (c, n)
  | fuel + 1, c, n => if (s.tag c).eop then (c, n) else State.walk s fuel (s.tag c).next (n + 1)

/-- The tags of a chain of `n` cells from `c` read at Pegbox port `k`. -/
def State.tagsRead (s : State) (k q : Nat) : Nat → Nat → State
  | 0, _ => s
  | n + 1, c => (s.tagRead k q c).tagsRead k q n (s.tag c).next

/-- Packet length in bytes of `n` cells whose last holds `vb` valid bytes. -/
def pktLen (n vb : Nat) : Nat := 64 * (n - 1) + (if vb = 0 then 64 else vb)

/-- The claim word of R124. -/
def claimWord (kind dest k tag status q exp first cells len id : Nat) : FWord :=
  mkWord dest (16 + k) kind tag true 0 0
    (0x10 + status * 2 ^ 8 + q * 2 ^ 16 + exp * 2 ^ 36 + first * 2 ^ 38 + cells * 2 ^ 57 + len * 2 ^ 65 + id * 2 ^ 96)

/-- The claim of the head packet of queue `q` for port `p`, in one act (R122, R123). -/
def State.claim (s : State) (q p : Nat) : Claim × State :=
  let d := s.desc q
  let k := qPort q
  let first := if d.expNE then d.expHead else d.ordHead
  let (lastC, n) := s.walk 143 first 1
  let len := pktLen n (s.tag lastC).vb
  let id := s.peg.claimIds.getD k 0
  let nxt := (s.tag lastC).next
  let s := s.tagsRead k q n first
  let d' := if d.expNE then
      (if lastC = d.expTail then { d with expNE := false } else { d with expHead := nxt })
    else (if lastC = d.ordTail then { d with ordNE := false } else { d with ordHead := nxt })
  let s := s.setDesc q { d' with pktCnt := d.pktCnt - 1, cellCnt := d.cellCnt - n, claimed := true }
  let s := s.setTag first { s.tag first with claimed := true, port := p }
  let cl : Claim := ⟨q, id, p, d.expNE, first, lastC, n, len, s.sys.refTick, false⟩
  let s := { s with peg := { s.peg with
    claims := s.peg.claims.set q cl
    claimIds := s.peg.claimIds.set k ((id + 1) % 65536) } }
  (cl, ((s.inc (F.PEG_CLAIM_USE_USE p)).pcnt k 1).boundary q)

/-- Queue `q` holds a packet. -/
def State.hasPacket (s : State) (q : Nat) : Bool := (s.desc q).expNE || (s.desc q).ordNE

/-- CLAIM_USE of port `p` is below its CLAIM_MAX. -/
def State.claimRoom (s : State) (p : Nat) : Bool :=
  decide (s.rd (F.PEG_CLAIM_USE_USE p) < s.rd (F.PEG_CLAIM_MAX_MAX p))

/-- A push claim of `q` is due (R123). -/
def State.pushDue (s : State) (q : Nat) : Bool :=
  let d := s.desc q
  d.notifyEn && !d.claimed && s.hasPacket q && s.claimRoom d.consumer

/-- PUSH_CLAIM (R123): the claim word, with TAG 0 (DESIGN CHOICE, assumption 80). -/
def State.pushClaim (s : State) (q : Nat) : State :=
  if s.pushDue q then
    let p := (s.desc q).consumer
    let (c, s) := s.claim q p
    s.send (claimWord kNotify p (qPort q) 0 stOK q (b2n c.exp) c.first c.cells c.len c.id)
  else s

/-- DEQUEUE (R123): a pull claim, or an answer of an empty queue, or BAD, which an empty queue gets too where a claim is open or
CLAIM_MAX is reached; a poisoned request is answered POISON (R18) (DESIGN CHOICE, assumption 80). -/
def State.dequeue (s : State) (k : Nat) (w : FWord) : State :=
  let p := w.src.toNat
  let t := w.tag.toNat
  let q := bits w.data.toNat 8 20
  if w.poison ≠ 0 then s.send (claimWord kReadRsp p k t stPOISON q 0 0 0 0 0)
  else if qPort q ≠ k then s.result k p t stBAD 0xA q 0
  else if (s.desc q).claimed ∨ ¬ s.claimRoom p then s.send (claimWord kReadRsp p k t stBAD q 0 0 0 0 0)
  else if ¬ s.hasPacket q then s.send (claimWord kReadRsp p k t stOK q 0 0 0 0 0)
  else
    let (c, s) := s.claim q p
    s.send (claimWord kReadRsp p k t stOK q (b2n c.exp) c.first c.cells c.len c.id)

/-- The word that ends a chain read early (R126). -/
def readEnd (dest src tag status bytes : Nat) : FWord :=
  mkWord dest src kNack tag true 0 0 (0x31 + status * 2 ^ 8 + bytes * 2 ^ 16)

/-- Two claims are one. -/
def sameClaim (a b : Claim) : Bool := a.queue == b.queue && a.id == b.id

/-- Chain reads of claim `cl` in progress. -/
def State.readsOf (s : State) (cl : Claim) : List ChainRead := s.peg.reads.filter (fun r => sameClaim r.claim cl)

def State.setReads (s : State) (l : List ChainRead) : State := { s with peg := { s.peg with reads := l } }

/-- The chain reads of claim `cl` end at a cell boundary with `status` (R126), each at the bank group of its next cell. -/
def State.stopReads (s : State) (cl : Claim) (status : Nat) : State :=
  let l := s.readsOf cl
  let s := s.setReads (s.peg.reads.filter (fun r => !sameClaim r.claim cl))
  l.foldl (fun s r => s.send (readEnd cl.port (20 + bits r.cell 17 2) r.tag status (64 * r.idx))) s

/-- The TAG of a RELEASE that waits for the chain reads of claim `cl` (R127). -/
def State.waitingRelease (s : State) (cl : Claim) : Option Nat := ((s.readsOf cl).findSome? (·.release))

/-- The claim of `cl` ended: CLAIMED cleared, CLAIM_USE lower. -/
def State.endClaim (s : State) (cl : Claim) : State :=
  let s := s.setDesc cl.queue { s.desc cl.queue with claimed := false }
  let s := s.setTag cl.first { s.tag cl.first with claimed := false }
  let s := { s with peg := { s.peg with claims := s.peg.claims.erase cl.queue, reads := s.peg.reads.filter (fun r => !sameClaim r.claim cl) } }
  s.wr (F.PEG_CLAIM_USE_USE cl.port) (s.rd (F.PEG_CLAIM_USE_USE cl.port) - 1)

/-- Revoked claim `cl` pushed onto the free list, where it is not yet (R130). -/
def State.pushRevoked (s : State) (cl : Claim) : State :=
  if cl.pushed then s
  else
    let s := s.setTag cl.first { s.tag cl.first with claimed := false }
    let s := s.pushChain cl.first cl.lastC cl.cells
    let s := s.wr (F.PEG_CLAIM_USE_USE cl.port) (s.rd (F.PEG_CLAIM_USE_USE cl.port) - 1)
    { s with peg := { s.peg with revoked := s.peg.revoked.map (fun r =>
        if r.queue = cl.queue ∧ r.id = cl.id then { r with pushed := true } else r) } }

/-- Revoked claim forgotten. -/
def State.forget (s : State) (cl : Claim) : State :=
  { s with peg := { s.peg with revoked := s.peg.revoked.filter (fun r => ¬ (r.queue = cl.queue ∧ r.id = cl.id)) } }

/-- The open claim of `q` released: its cells pushed, CLAIMED cleared, CLAIM_USE lower (R127). -/
def State.releaseClaim (s : State) (cl : Claim) : State :=
  (((s.endClaim cl).pushChain cl.first cl.lastC cl.cells).pcnt (qPort cl.queue) 2).boundary cl.queue

/-- A claim released for the RELEASE with TAG `t`, and its answer. -/
def State.releaseFor (s : State) (cl : Claim) (t : Nat) : State :=
  (s.releaseClaim cl).result (qPort cl.queue) cl.port t stOK 0 cl.queue cl.cells

/-- Read `r` has ended; a RELEASE that waited takes effect once no other read of the claim runs (R127). -/
def State.readEnded (s : State) (r : ChainRead) : State :=
  match r.release with
  | some t => if s.readsOf r.claim = [] then s.releaseFor r.claim t else s
  | none => s

/-- The next cell of chain read `r` (R125, R126, R133): its word, or the end of the read; what is left of the read. -/
def State.readCell (s : State) (r : ChainRead) : Option ChainRead × State :=
  let cl := r.claim
  let c := r.cell
  let k := qPort cl.queue
  let src := 20 + bits c 17 2
  let tg := s.tag c
  if tg.err = .double then
    let s := (s.tagErrorAt cl.queue c).wr F.PEG_ERR_TAG_UNCORR 1
    let s := (s.send (readEnd cl.port src r.tag stPOISON (64 * r.idx))).stopReads cl stPOISON
    let s := s.quarantineCells (cl.cells - (r.idx + 1))
    let s := (s.endClaim cl).setTag c { s.tag c with err := .none }
    let s := ((s.pushChain cl.first c (r.idx + 1)).pcnt k 2).boundary cl.queue
    (none, match r.release with
      | some t => s.result k cl.port t stOK 0 cl.queue (r.idx + 1)
      | none => s)
  else
    let s := s.tagRead k cl.queue c
    let lanes := (r.parity.lookup r.idx).getD 0
    let s := if lanes = 0 then s
      else (s.setDesc cl.queue { s.desc cl.queue with poisonSeen := true }).pcnt k 14
    let s := s.send (mkWord cl.port src kReadRsp r.tag tg.eop (if tg.eop then tg.vb else 0) lanes.toNat
      (s.rdMem (0x60000000 + 64 * c) 64))
    if tg.eop then (none, s.readEnded r) else (some { r with cell := tg.next, idx := r.idx + 1 }, s)

/-- A unit's own read of the packet under claim `cl` met a word that fails parity (R133): counted once, POISON_SEEN. -/
def State.poisonedRead (s : State) (cl : Claim) : State :=
  (s.setDesc cl.queue { s.desc cl.queue with poisonSeen := true }).pcnt (qPort cl.queue) 14

/-- At most so many cells of chain read `r`; what is left of it stays in progress. -/
def State.readRun (s : State) (r : ChainRead) : Nat → State
  | 0 => s.setReads (s.peg.reads ++ [r])
  | n + 1 =>
    match s.readCell r with
    | (some r, s) => State.readRun s r n
    | (none, s) => s

/-- The bank groups go on with the oldest chain read in progress (assumption 81). -/
def State.chainsRun (s : State) : State :=
  match s.peg.reads with
  | [] => s
  | r :: rest => (s.setReads rest).readRun r 144

/-- CHAIN_READ at bank group `grp` (R125, R130), at most `cells` cells before the next command; a poisoned request is answered
POISON (R18). -/
def State.chainRead (s : State) (grp : Nat) (w : FWord) (cells : Nat) (parity : List (Nat × BitVec 16)) : State :=
  let p := w.src.toNat
  let t := w.tag.toNat
  let c := bits w.data.toNat 8 19
  let away := match s.peg.revoked.find? (fun r => r.first = c ∧ r.port = p) with
    | some r => (s.send (readEnd p (20 + grp) t stFLUSHED 0)).pushRevoked r
    | none => s.send (readEnd p (20 + grp) t stBAD 0)
  if w.poison ≠ 0 then s.send (readEnd p (20 + grp) t stPOISON 0)
  else match s.peg.claims.find? (fun e => e.2.first = c) with
  | some (_, cl) =>
    if bits c 17 2 = grp ∧ (s.tag c).claimed ∧ (s.tag c).port = p then
      s.readRun ⟨t, cl, c, 0, parity, none⟩ (min cells 144)
    else away
  | none => away

/-- RELEASE (R127, R105): of an open claim, once its chain reads have ended; of a revoked one, answered FLUSHED. -/
def State.pegRelease (s : State) (k : Nat) (w : FWord) : State :=
  let p := w.src.toNat
  let t := w.tag.toNat
  let q := bits w.data.toNat 8 20
  let id := bits w.data.toNat 32 16
  let revoked := match s.peg.revoked.find? (fun r => r.queue = q ∧ r.id = id ∧ r.port = p) with
    | some r => ((s.pushRevoked r).forget r).result k p t stFLUSHED 0 q r.cells
    | none => s.result k p t stBAD 0 q 0
  if qPort q ≠ k then s.result k p t stBAD 0xA q 0
  else
    match s.peg.claims.find q with
    | some cl =>
      if cl.id = id ∧ cl.port = p then
        if s.readsOf cl = [] then s.releaseFor cl t
        else s.setReads (s.peg.reads.map (fun r => if sameClaim r.claim cl then { r with release := some t } else r))
      else revoked
    | none => revoked

/-- Claim `cl` requeued in front of the head of its own level, its chain reads ended with TIMEOUT (R128); a RELEASE that waited
for those takes effect instead (R127). -/
def State.requeue (s : State) (cl : Claim) : State :=
  let waiting := s.waitingRelease cl
  let s := s.stopReads cl stTIMEOUT
  match waiting with
  | some t => s.releaseFor cl t
  | none =>
    let s := s.endClaim cl
    let d := s.desc cl.queue
    let s := if cl.exp then (if d.expNE then s.link cl.lastC d.expHead else s)
             else (if d.ordNE then s.link cl.lastC d.ordHead else s)
    let d := if cl.exp then
        { d with expHead := cl.first, expTail := if d.expNE then d.expTail else cl.lastC, expNE := true }
      else { d with ordHead := cl.first, ordTail := if d.ordNE then d.ordTail else cl.lastC, ordNE := true }
    let s := s.setDesc cl.queue { d with pktCnt := (d.pktCnt + 1) % 2 ^ 16, cellCnt := (d.cellCnt + cl.cells) % 2 ^ 19 }
    (s.pcnt (qPort cl.queue) 13).boundary cl.queue

/-- The claim limit has passed since `stamp`. -/
def State.claimExpired (s : State) (stamp : Nat) : Bool :=
  decide (1000 * s.rd F.PEG_CLAIM_TIMEOUT_MS ≤ s.sys.refTick - stamp)

/-- The domains of the units behind Fretboard port `p` (R14, R529). -/
def portDoms (p : Nat) : List Nat :=
  if p < 16 then [p]
  else
    match p with
    | 16 | 17 | 18 | 19 => [18, 19]
    | 20 => [20]
    | 21 => [21]
    | 22 => [22]
    | 23 => [23]
    | 24 => [24]
    | 25 => [25]
    | 26 => [26]
    | 27 => [31]
    | 28 => [36]
    | 29 => [39]
    | 30 => [40]
    | _ => [49]

/-- CLAIM_TIMEOUT of queue `q` (R128, R130): an open claim past its limit, or whose holder is not ON, is requeued; the cells of
a revoked one are then pushed, and past its limit it is forgotten. -/
def State.claimTimeout (s : State) (q : Nat) : State :=
  let s := match s.peg.claims.find q with
    | some cl => if s.claimExpired cl.stamp ∨ ¬ s.allOn (portDoms cl.port) then s.requeue cl else s
    | none => s
  (s.peg.revoked.filter (fun r => r.queue == q)).foldl (fun s r =>
    if s.claimExpired r.stamp then (s.pushRevoked r).forget r
    else if ¬ s.allOn (portDoms r.port) then s.pushRevoked r else s) s

/-- Every claim of port `p` requeued, and the cells of every revoked claim of it pushed: its domain leaves ON. -/
def State.portClaimsLost (s : State) (p : Nat) : State :=
  let s := (s.peg.claims.filter (fun e => e.2.port == p)).foldl (fun s e => s.requeue e.2) s
  (s.peg.revoked.filter (fun r => r.port == p)).foldl State.pushRevoked s

/-! ## Flush (R129) -/

/-- A claim revoked by a flush (R130): its chain reads end with FLUSHED, and its cells are then pushed; where none ran they stay
claimed. A RELEASE that waited is answered FLUSHED, and the claim forgotten. -/
def State.revoke (s : State) (cl : Claim) : State :=
  let waiting := s.waitingRelease cl
  let ran := s.readsOf cl != []
  let s := s.stopReads cl stFLUSHED
  let s := { s with peg := { s.peg with claims := s.peg.claims.erase cl.queue, revoked := s.peg.revoked ++ [cl] } }
  let s := s.pcnt (qPort cl.queue) 12
  let s := if ran then s.pushRevoked cl else s
  match waiting with
  | some t => (s.forget cl).result (qPort cl.queue) cl.port t stFLUSHED 0 cl.queue cl.cells
  | none => s

/-- The flush act on queue `q`: both levels go to the free list, the expedited one first (DESIGN CHOICE, assumption 80), as one
chain where both hold packets. -/
def State.flushQueue (s : State) (q : Nat) : State :=
  let d := s.desc q
  let s := if d.expNE ∧ d.ordNE then
      let s := s.link d.expTail d.ordHead
      s.pushChain d.expHead d.ordTail d.cellCnt
    else if d.expNE then s.pushChain d.expHead d.expTail d.cellCnt
    else if d.ordNE then s.pushChain d.ordHead d.ordTail d.cellCnt
    else s
  let s := s.setDesc q { d with pktCnt := 0, cellCnt := 0, expNE := false, ordNE := false, claimed := false }
  let s := match s.peg.claims.find q with
    | some cl => s.revoke cl
    | none => s
  let s := { s with peg := { s.peg with ctxs := s.peg.ctxs.map (fun (e : Nat × Ctx) =>
      if e.2.queue = q ∧ e.2.mode ≠ CtxMode.discard then (e.1, { e.2 with doomed := true }) else e) } }
  let s := s.setField { s.field with acked := s.field.acked.filter (fun x => x.1 != q) }
  (s.pcnt (qPort q) 11).boundary q

/-- FLUSH command word (R120). -/
def State.pegFlushWord (s : State) (k : Nat) (w : FWord) : State :=
  let p := w.src.toNat
  let t := w.tag.toNat
  let q := bits w.data.toNat 8 20
  if qPort q ≠ k then s.result k p t stBAD 0xA q 0
  else (s.flushQueue q).result k p t stOK 0 q 0

/-- A control command word at Pegbox port `k` (R120): ABORT, FLUSH or RELEASE by its OP, any other OP BAD; a poisoned word is
answered POISON and does nothing (R18). -/
def State.pegControl (s : State) (k : Nat) (w : FWord) : State :=
  let p := w.src.toNat
  let t := w.tag.toNat
  if w.poison ≠ 0 then s.result k p t stPOISON 0x2 0 0
  else
    match bits w.data.toNat 0 8 with
    | 2 => s.pegAbort k p t
    | 3 => s.pegFlushWord k w
    | 4 => s.pegRelease k w
    | _ => s.result k p t stBAD 0 0 0

/-! ## The ledger and the registers -/

/-- The six terms of R136: FREE, QUEUED, OPEN, CLAIMED, TRANSIT, QUARANTINE. Between two commands no cell is in transit. -/
def State.cellTerms (s : State) : List Nat :=
  [ s.rd F.PEG_CELL_FREE_FREE,
    s.peg.descs.foldl (fun a e => a + e.2.cellCnt) 0,
    s.peg.ctxs.foldl (fun a e => a + (if e.2.mode = .discard then 0 else e.2.cells)) 0,
    s.peg.claims.foldl (fun a e => a + e.2.cells) 0 + s.peg.revoked.foldl (fun a r => a + (if r.pushed then 0 else r.cells)) 0,
    0,
    s.peg.quarantine ]

/-- PEG_AUDIT_CTRL.SNAP (R136). -/
def State.pegAudit (s : State) : State :=
  let t := s.cellTerms
  let s := (List.range 6).foldl (fun s i => s.wr (F.PEG_AUDIT_VALUE i) (t.getD i 0)) s
  (s.wr F.PEG_AUDIT_CTRL_VALID 1).inc F.PEG_AUDIT_CTRL_SNAP_CNT

/-- The Pegbox starts running with its domains ON and every cell free (R110, R137). -/
def State.pegStart (s : State) : State :=
  if s.allOn [18, 19, 20, 21, 22, 23] ∧ ¬ s.run bPEG then
    let s := { s with peg := PegState.start, mem := s.mem.clear 0x60000000 0x2000000 }
    ((s.wr (F.STATE_RUN bPEG) 1).wr F.PEG_CELL_FREE_FREE nCells).wr F.PEG_FREE_MIN_MIN nCells
  else s

/-- The supervisor enables the queues that the configuration names (R110). -/
def State.enableQueues (s : State) : State :=
  match s.sys.cfg with
  | some b => b.queues.foldl (fun s e =>
      s.setDesc e.1 { s.desc e.1 with enable := true, profile := e.2.1 % 16, consumer := e.2.2.1 % 32, notifyEn := e.2.2.2 }) s
  | none => s

/-- A domain of PD18 to PD23 leaves ON: RUN becomes 0 and the queues are lost (R137). -/
def State.pegLost (s : State) : State :=
  let s := { s with peg := PegState.start, mem := s.mem.clear 0x60000000 0x2000000 }
  let s := (s.wr (F.STATE_RUN bPEG) 0).wr F.PEG_CELL_FREE_FREE 0
  (List.range 32).foldl (fun s p => (s.wr (F.PEG_CREDIT_USE_USE p) 0).wr (F.PEG_CLAIM_USE_USE p) 0) s

/-- Queue `q` has no packet, no open packet and no claim (R532). -/
def State.queueQuiet (s : State) (q : Nat) : Bool :=
  !s.hasPacket q && !(s.desc q).claimed && !s.peg.ctxs.any (fun e => e.2.queue == q && e.2.mode != .discard)

/-- A write to PEG_QCFG for the queue `q` the writer selects (R532): the W1C bits clear, ENABLE takes effect at once, the
H fields go to the queue shadow or, where the queue is quiet or the block does not run, take effect. False: rejected. -/
def State.qcfgWrite (s : State) (q v : Nat) : Bool × State :=
  let e : QShadow := ⟨bits v 7 4, bits v 2 5, bitAt v 1⟩
  let d := s.desc q
  let d' := { d with poisonSeen := d.poisonSeen && !bitAt v 12, dropSeen := d.dropSeen && !bitAt v 11, enable := bitAt v 0 }
  if ¬ s.run bPEG then
    (true, s.setDesc q { d' with profile := e.profile, consumer := e.consumer, notifyEn := e.notifyEn })
  else if s.peg.qshadow.find q = none ∧ 64 ≤ s.peg.qshadow.length ∧
      ¬ (s.queueQuiet q ∧ ¬ s.isSet (F.SHADOW_HOLD bPEG)) then (false, s)
  else
    let s := s.setDesc q d'
    let s := { s with peg := { s.peg with qshadow := s.peg.qshadow.set q e } }
    (true, if s.queueQuiet q then s.boundary q else s)

/-! ## Packets of the module's own units -/

/-- A packet's octets split into lines of 64. -/
def lines : Nat → List Byte → List (Nat × Nat)
  | 0, _ => []
  | fuel + 1, l =>
    if l.length ≤ 64 then [(ofOctetsLE l, l.length % 64)]
    else (ofOctetsLE (l.take 64), 0) :: lines fuel (l.drop 64)

/-- The lines of a packet taken into context `c` of port `p`, until a pop is refused. -/
def State.takeLines (s : State) (p : Nat) (c : Ctx) : List (Nat × Nat) → Bool × Ctx × State
  | [] => (true, c, s)
  | (v, vb) :: rest =>
    if s.popGranted p then
      let (c, s) := s.takeCell p c v
      State.takeLines s p { c with vb := vb } rest
    else (false, c, s)

/-- A packet of `pkt` put by a unit of port `p` on queue `q`: the same acts as an OPEN, its data words and its commit,
without the words between unit and Pegbox. Answers (status, reason). -/
def State.pegPut (s : State) (p q : Nat) (exp : Bool) (pkt : List Byte) : (Nat × Nat) × State :=
  let k := qPort q
  if ¬ s.pegRuns then ((stBAD, 0), s)
  else
    let c : Ctx := ⟨.open, k, q, exp, 0, 0, 0, 0, false, none, s.sys.refTick⟩
    if ¬ (s.desc q).enable then ((stBAD, 0x6), s.pcnt k 8)
    else if exp ∧ s.rd (F.PEG_PROFILE_A_EXP_ALLOW (s.desc q).profile) = 0 then ((stBAD, 0x9), s.pcnt k 8)
    else if pkt = [] ∨ 64 * s.maxPktCells q < pkt.length then ((stBAD, 0x3), (s.markDesc q 0x3).pcnt k 5)
    else
      match s.takeLines p c (lines 144 pkt) with
      | (false, c, s) => ((stBAD, 0x4), s.rewindCells p 0x4 c)
      | (true, c, s) => s.commitAct p c

/-- The octets of the packet under claim `cl`. -/
def State.claimOctets (s : State) (cl : Claim) : List Byte :=
  ((List.range (cl.cells - 1)).foldl (fun (a : Nat × List Byte) _ =>
      ((s.tag a.1).next, a.2 ++ s.mem.readN (0x60000000 + 64 * (s.tag a.1).next) 64))
    (cl.first, s.mem.readN (0x60000000 + 64 * cl.first) 64)).2.take cl.len

/-- The claim of queue `q` held by port `p`. -/
def State.heldClaim (s : State) (p q : Nat) : Option Claim :=
  match s.peg.claims.find q with
  | some cl => if cl.port = p then some cl else none
  | none => none

end Sys2Proof.Machine
end

