-- ==== Sys2Proof/Machine/Slot.lean ====
section
/-!
DEFINITION. Machine/Slot.lean: the slot bus (R66 to R74, R534), fibre bypass and loop tests (R76 to R78), connector
faults (R527). What a WAKE switches on is in Machine/Power.lean.
-/
namespace Sys2Proof.Machine

/-! ## The slot bus -/

/-- The always-on island is powered: by the logic supply or the coin cell (R437). -/
def State.islandOn (s : State) : Bool := s.slot.logicOn || s.slot.cellFitted

/-- The CRC-16 of R69: polynomial 0x1021, initial value 0xFFFF, not reflected, no final XOR. -/
def crc16Bits : Nat → Nat → Nat
  | 0, c => c
  | n + 1, c => crc16Bits n (if c / 0x8000 % 2 = 1 then (c * 2 % 0x10000) ^^^ 0x1021 else c * 2 % 0x10000)

/-- The CRC-16 over octets. -/
def crc16 (l : List Byte) : Nat := l.foldl (fun c b => crc16Bits 8 (c ^^^ (b.toNat * 256))) 0xFFFF

/-- The octets of a slot bus frame (R68). -/
def slotFrameOctets (addr cmd : Nat) (resp : Bool) (payload : List Byte) : List Byte :=
  let l := octetsLE 1 0xD3 ++ octetsLE 1 (addr + 64 * b2n resp) ++ octetsLE 1 cmd ++ octetsLE 1 payload.length ++ payload
  l ++ octetsLE 2 (crc16 l)

/-- The bits of octets in the order they are sent: the least significant of each first (R66). -/
def sbBits (l : List Byte) : List Bool := l.flatMap (fun b => (List.range 8).map (bitAt b.toNat))

/-- The levels of SB_D and SB_S after bit `b` is sent from levels `w`: SB_D toggles where the bit differs from its level, else
SB_S (R66). -/
def sbNext (w : Bool × Bool) (b : Bool) : Bool × Bool := if b = w.1 then (w.1, !w.2) else (b, w.2)

/-- The levels after each of the bits sent from levels `w`. -/
def sbLevels : Bool × Bool → List Bool → List (Bool × Bool)
  | _, [] => []
  | w, b :: l => sbNext w b :: sbLevels (sbNext w b) l

/-- What the decoder reads of transitions: the level of SB_D after each (R66). -/
def sbRead (l : List (Bool × Bool)) : List Bool := l.map (·.1)

/-- The octets of bits that came least significant first. -/
def sbOctets : Nat → List Bool → List Byte
  | 0, _ => []
  | n + 1, l => BitVec.ofNat 8 (((List.range 8).map (fun i => b2n (l.getD i false) * 2 ^ i)).sum) :: sbOctets n (l.drop 8)

/-- The wires after the octets of a frame have been sent on them. -/
def State.sbCarry (s : State) (l : List Byte) : State :=
  let w := (sbLevels (s.slot.sbD, s.slot.sbS) (sbBits l)).getLastD (s.slot.sbD, s.slot.sbS)
  { s with slot := { s.slot with sbD := w.1, sbS := w.2 } }

/-- The wires after transitions that no frame of R68 describes: their levels are free (assumption 75). -/
def State.sbFree (s : State) : State :=
  let (v, s) := s.fresh
  { s with slot := { s.slot with sbD := bitAt v 0, sbS := bitAt v 1 } }

/-- The decoder takes frames: the island is powered and the decoder does not ignore. -/
def State.busUp (s : State) : Bool := s.islandOn && !s.isSet F.SLOT_BUS_STAT_IGNORING

/-- A transition `quietUs` after the last one begins a frame: the decoder sees the quiet of R67 as 8 periods of its clock, 244 µs;
after a wrong SOF or LEN (R69) or a collision (R534) it waits for 250 µs. -/
def State.frameBegins (s : State) (quietUs : Nat) : Bool :=
  decide ((if s.slot.quietWait then 250 else 244) ≤ quietUs)

/-- The module acts on a request to `addr` (R70): its own address, or broadcast, with ENABLE 1. -/
def State.actsOn (s : State) (addr : Nat) : Bool :=
  s.isSet F.SLOT_BUS_CFG_ENABLE && (addr == 63 || addr == s.rd F.SLOT_STATUS_ADDR)

/-- SLOT_SB_LAST takes the octets of the frame acted on. -/
def State.sbLast (s : State) (l : List Byte) : State :=
  (List.range 10).foldl (fun s i => s.wr (F.SLOT_SB_LAST_OCTETS i) (ofOctetsLE ((l.drop (4 * i)).take 4))) s

/-- A response held for sending: one due, one behind it, any further one dropped (R72). A broadcast is not answered. -/
def State.respond (s : State) (addr cmd : Nat) (payload : List Byte) : State :=
  if addr = 63 then s
  else
    let r : SlotResp := ⟨s.rd F.SLOT_STATUS_ADDR, cmd, payload⟩
    match s.slot.respDue, s.slot.respHeld with
    | none, _ => { s with slot := { s.slot with respDue := some r } }
    | some _, none => { s with slot := { s.slot with respHeld := some r } }
    | some _, some _ => s

/-- A valid frame of these octets, whose first transition follows `quietUs` of quiet: where that begins a frame it is counted in
GOOD, acted on by `act` when `mine`, and its end is the SLOT commit point. -/
def State.validFrame (s : State) (l : List Byte) (quietUs : Nat) (mine : Bool) (act : State → State) : State :=
  if s.busUp ∧ s.frameBegins quietUs then
    let s := { s with slot := { s.slot with quietWait := false } }
    let s := (s.sbCarry l).inc F.SLOT_BUS_CNT_GOOD
    (if mine then act (s.sbLast l) else s).commit bSLOT
  else s

/-- A valid request frame (R68). -/
def State.slotFrame (s : State) (addr cmd : Nat) (payload : List Byte) (quietUs : Nat) (act : State → State) : State :=
  s.validFrame (slotFrameOctets addr cmd false payload) quietUs (s.actsOn addr) act

/-- PING (R71). -/
def State.slotPing (s : State) (addr quietUs : Nat) : State :=
  s.slotFrame addr 0x01 [] quietUs (fun s => s.respond addr 0x81 [])

/-- The module ID, 0x3FFF while unknown (R71): RING and POSITION of CAPO_RING_ID from the record of P values,
with a configuration in use. -/
def State.moduleId (s : State) : Nat :=
  match s.sys.cfg, s.pRec.find (F.CAPO_RING_ID_RING).key, s.pRec.find (F.CAPO_RING_ID_POSITION).key with
  | some _, some r, some p => r * 64 + p
  | _, _, _ => 0x3FFF

/-- A margin alarm stands (STATUS flag bit 2, R443). -/
def State.marginStands (s : State) : Bool :=
  (List.range 50).any (fun d => s.isSet (F.TUNE_DOM_STAT_FLOOR_ALARM d) || s.isSet (F.TUNE_DOM_STAT_TIMING_ALARM d))

/-- The power state of a STATUS response (R71, R431). -/
def State.powerState (s : State) : Nat :=
  if ¬ s.slot.logicOn then 0x00
  else
    match s.rd F.PWR_MODE_MODE with
    | 0 => 0x04
    | 1 => 0x01
    | 2 => 0x02
    | 3 => 0x03
    | _ => 0x00

/-- STATUS (R71). -/
def State.slotStatus (s : State) (addr quietUs : Nat) : State :=
  s.slotFrame addr 0x03 [] quietUs (fun s =>
    let flags := b2n (s.rd F.SLOT_PRIMER_STAT_STATE == 0x02) + 2 * b2n (s.isSet F.SLOT_STATUS_EJECT_PREP)
      + 4 * b2n s.marginStands
    s.respond addr 0x83 (octetsLE 4 0x74160002 ++ octetsLE 1 s.powerState ++ octetsLE 2 s.moduleId ++ octetsLE 1 flags))

/-- SLOT_FRAME_DISCARD (R69). -/
def State.slotDiscard (s : State) (why : FrameError) (quietUs : Nat) : State :=
  if s.busUp ∧ s.frameBegins quietUs then
    let s := s.sbFree.incSat F.SLOT_BUS_CNT_CRC_ERR
    let s := { s with slot := { s.slot with quietWait := (match why with | .crc => false | _ => true) } }
    s.commit bSLOT
  else s

/-- A request that is none of the table of R71: answered BAD under CMD 0xFF. -/
def State.slotRefuse (s : State) (addr cmd : Nat) (payload : List Byte) (quietUs : Nat) : State :=
  s.slotFrame addr cmd payload quietUs (fun s => s.respond addr 0xFF (o1 stBAD))

/-- FRAME_FOR_OTHER_SLOT (R70): counted, no action; also a response frame. The frame's CMD and payload are not given, so the
wires' levels after it are free. -/
def State.slotOther (s : State) (addr : Nat) (resp : Bool) (quietUs : Nat) : State :=
  if (resp ∨ ¬ (addr = 63 ∨ addr = s.rd F.SLOT_STATUS_ADDR)) ∧ s.busUp ∧ s.frameBegins quietUs then
    ({ s with slot := { s.slot with quietWait := false } }.sbFree.inc F.SLOT_BUS_CNT_GOOD).commit bSLOT
  else s

/-- SLOT_RESPONSE_SEND (R72): the response due goes out, from the wires' present levels; one held behind it becomes due. -/
def State.slotSend (s : State) : State :=
  match s.slot.respDue with
  | some r =>
    let l := slotFrameOctets r.addr r.cmd true r.payload
    let levels := sbLevels (s.slot.sbD, s.slot.sbS) (sbBits l)
    let s := s.sbCarry l
    ({ s with slot := { s.slot with respDue := s.slot.respHeld, respHeld := none } }).emit (.slotFrame l levels)
  | none => s

/-- SLOT_BUS_COLLISION (R534): both wires released, the response being sent abandoned. -/
def State.slotCollision (s : State) : State :=
  match s.slot.respDue with
  | some _ =>
    let s := s.sbFree
    ({ s with slot := { s.slot with respDue := s.slot.respHeld, respHeld := none, quietWait := true } }).incSat
      F.SLOT_BUS_STAT_COLLISIONS
  | none => s

/-- SLOT_FRAME_TIMEOUT (R74): 66 periods of the island's clock after a frame has begun, which a frame ended by its SOF or LEN does
not (R69). -/
def State.slotTimeout (s : State) (periods quietUs : Nat) : State :=
  if s.busUp ∧ s.frameBegins quietUs ∧ 66 ≤ periods then
    let s := { s.sbFree with slot := { s.sbFree.slot with quietWait := false } }
    ((s.wr F.SLOT_BUS_STAT_SB_FAULT 1).wr F.SLOT_BUS_STAT_IGNORING 1).incSat F.SLOT_BUS_CNT_TIMEOUT
  else s

/-- IDLE_PATTERN (R74): as many transitions of each wire, in pairs, leave the levels as they were. -/
def State.slotIdle (s : State) (transitions quietUs : Nat) : State :=
  if s.islandOn ∧ 16 ≤ transitions ∧ 250 ≤ quietUs then
    let s := if transitions % 4 = 0 then s else s.sbFree
    ({ s with slot := { s.slot with quietWait := false } }).wr F.SLOT_BUS_STAT_IGNORING 0
  else s

/-! ## Bypass and loop tests, by ring: 0 A, 1 B -/

def fHold (r : Nat) : Fld := if r = 0 then F.SLOT_STATUS_HOLD_A else F.SLOT_STATUS_HOLD_B
def fBypass (r : Nat) : Fld := if r = 0 then F.SLOT_STATUS_BYPASS_STATE_A else F.SLOT_STATUS_BYPASS_STATE_B
def fHoldEn (r : Nat) : Fld := if r = 0 then F.SLOT_BYPASS_CTRL_HOLD_EN_A else F.SLOT_BYPASS_CTRL_HOLD_EN_B
def fResult (r : Nat) : Fld := if r = 0 then F.SLOT_LOOPBACK_RESULT_A else F.SLOT_LOOPBACK_RESULT_B
def fRetry (r : Nat) : Fld := if r = 0 then F.SLOT_LOOPBACK_RETRY_A else F.SLOT_LOOPBACK_RETRY_B

/-- The domains a ring's loop test uses (R76): its path engine and its two ports. -/
def ringDoms (r : Nat) : List Nat := if r = 0 then [25, 27, 28] else [26, 29, 30]

/-- BYPASS_HOLD of ring `r` driven to `b`; the bypass unit of R78 follows (assumption 9). -/
def State.setHold (s : State) (r : Nat) (b : Bool) : State :=
  let b := b && !s.outputsHeld
  (s.wrB (fHold r) b).wrB (fBypass r) b

def State.setLoopRun (s : State) (r : Nat) (b : Bool) : State :=
  { s with slot := { s.slot with loopRun := s.slot.loopRun.set r b } }

def State.setLoopSeries (s : State) (r n : Nat) : State :=
  { s with slot := { s.slot with loopSeries := s.slot.loopSeries.set r n } }

/-- A loop test of ring `r` begins: RESULT testing. -/
def State.loopBegin (s : State) (r : Nat) : State := (s.wr (fResult r) 1).setLoopRun r true

/-- A loop test may start: its domains are ON, the bypass closed, no test runs, no eject preparation. -/
def State.loopReady (s : State) (r : Nat) : Bool :=
  s.allOn (ringDoms r) && !s.isSet (fHold r) && s.rd (fResult r) != 1 && !s.isSet F.SLOT_STATUS_EJECT_ACTIVE

/-- LOOP_TEST_START (R76). -/
def State.loopStart (s : State) (r : Nat) : State := if s.loopReady r then s.loopBegin r else s

/-- A failed loop test of ring `r` (R77): the bypass stays closed, the first failure of a series raises the event. -/
def State.loopFail (s : State) (r : Nat) : State :=
  let n := s.slot.loopSeries.getD r 0
  let s := ((s.wr (fResult r) 3).setLoopRun r false).setHold r false
  let s := if n = 0 then s.raiseEvent 0x0010 (unitOf bSLOT) (evtData [(1, r)]) else s
  s.setLoopSeries r (n + 1)

/-- LOOP_TEST_END (R76, R77); `joinable` is false in a life-cycle state that forbids the ring (R461). -/
def State.loopEnd (s : State) (r : Nat) (eastOk westOk : Bool) (ms : Nat) (joinable : Bool) : State :=
  if s.rd (fResult r) = 1 ∧ 10 ≤ ms then
    let ok := s.rd F.SLOT_LOOPBACK_PORT_OK
    let s := s.wr F.SLOT_LOOPBACK_PORT_OK (setBit (setBit ok (2 * r) eastOk) (2 * r + 1) westOk)
    if eastOk ∧ westOk then
      let s := ((s.wr (fResult r) 2).setLoopRun r false).setLoopSeries r 0
      if s.isSet (fHoldEn r) ∧ joinable ∧ ¬ s.isSet F.SLOT_STATUS_EJECT_ACTIVE ∧ ¬ s.outputsHeld then s.setHold r true else s
    else s.loopFail r
  else s

/-- LOOP_TEST_RETRY (R77): 1 s after each of the first two failures of a series, then 10 s. -/
def State.loopRetry (s : State) (r sinceMs : Nat) : State :=
  let n := s.slot.loopSeries.getD r 0
  if s.rd (fResult r) = 3 ∧ s.loopReady r ∧ (if n ≤ 2 then 1000 else 10000) ≤ sinceMs then
    (s.loopBegin r).incSat (fRetry r)
  else s

/-- A loop test of ring `r` abandoned (R76): RESULT 0, no event, the series over. -/
def State.loopAbandon (s : State) (r : Nat) : State :=
  if s.rd (fResult r) = 1 then ((s.wr (fResult r) 0).setLoopRun r false).setLoopSeries r 0 else s

/-- What a write of SLOT_BYPASS_CTRL does beyond its fields: HOLD_EN 0 lowers the ring's line at once. -/
def State.bypassWritten (s : State) (r : Nat) : State := if s.isSet (fHoldEn r) then s else s.setHold r false

/-- BYPASS_STATE_MISMATCH (R78). -/
def State.bypassMismatch (s : State) (r : Nat) (level : Bool) (ms : Nat) : State :=
  let s := s.wrB (fBypass r) level
  if level ≠ s.isSet (fHold r) ∧ 20 < ms then
    let s := s.loopFail r
    s.wrB (fBypass r) level
  else s

/-! ## Connector faults (R527) -/

/-- The event of a connector fault: class 0x00F0 naming the IO block. -/
def State.ioFaultEvent (s : State) : State :=
  if s.allOn [0, 49] then s.raiseEvent 0x00F0 (unitOf bIO) (o1 (unitOf bIO)) else s

/-- DO_SHORT: the output limits and switches off. -/
def State.doShort (s : State) (n : Nat) : State :=
  if s.isOn 49 ∧ bitAt s.io.doOut n ∧ ¬ bitAt s.io.doOff n then
    ({ s with io := { s.io with doOff := setBit s.io.doOff n true } }).ioFaultEvent
  else s

/-- DO_SHORT_RETRY: every 1 s; the output stays off while the short remains. -/
def State.doRetry (s : State) (n : Nat) (stillShort : Bool) (sinceMs : Nat) : State :=
  if s.isOn 49 ∧ bitAt s.io.doOff n ∧ 1000 ≤ sinceMs ∧ ¬ stillShort then
    { s with io := { s.io with doOff := setBit s.io.doOff n false } }
  else s

/-- COIL_OVERCURRENT: above 3 A the driver switches off until the next write of the output. -/
def State.coilOver (s : State) (f mA : Nat) : State :=
  if s.isOn 49 ∧ bitAt s.io.coilOut f ∧ 3000 < mA then
    ({ s with io := { s.io with coilOff := setBit s.io.coilOff f true } }).ioFaultEvent
  else s

end Sys2Proof.Machine
end

