-- ==== Sys2Proof/Machine/Ring.lean ====
section
/-!
DEFINITION. Machine/Ring.lean: rings and path redundancy (R334 to R364): ring frames, credit, continuity, probes, the
CAPO grant, switchover, joining and the gateway. Path 0 is A, path 1 is B; ring port 2x + 0 is East, 2x + 1 West.
-/
namespace Sys2Proof.Machine

/-! ## Access -/

def State.path (s : State) (x : Nat) : RingPathState := if x = 0 then s.ring.a else s.ring.b

def State.setPath (s : State) (x : Nat) (r : RingPathState) : State :=
  if x = 0 then { s with ring := { s.ring with a := r } } else { s with ring := { s.ring with b := r } }

/-- Block number of the engine of path `x`. -/
def ringBlk (x : Nat) : Nat := bRINGA + x

/-- The Fretboard port of the engine of path `x`. -/
def engPort (x : Nat) : Nat := 25 + x

/-- The engine of path `x` runs. -/
def State.engRuns (s : State) (x : Nat) : Bool := s.isOn (engDom x) && s.run (ringBlk x)

def State.ringCnt (s : State) (x i : Nat) : State := s.inc (F.RING_CNT_COUNT x i)
def State.capoCnt (s : State) (i : Nat) : State := s.inc (F.CAPO_CNT_COUNT i)

/-- Entry `i` of a list of four set. -/
def bump (l : List Nat) (i d : Nat) : List Nat := l.set i ((l.getD i 0 + d) % 2 ^ 32)

/-- The port data leaves by, and the one it arrives at, on path `x` (R334). -/
def txPort (x : Nat) : Nat := if x = 0 then 0 else 3
def rxPort (x : Nat) : Nat := if x = 0 then 1 else 2

/-- The module ID in CAPO_RING_ID. -/
def State.ringId (s : State) : Nat := s.rd F.CAPO_RING_ID_RING * 64 + s.rd F.CAPO_RING_ID_POSITION

/-- The module belongs to a ring (R335). -/
def State.hasRing (s : State) : Bool := s.ringId != 0x3FFF && s.sys.cfg.isSome

/-! ## Frames -/

/-- Octets `o` to `o + n - 1` of a payload, most significant first. -/
def beAt (l : List Byte) (o n : Nat) : Nat := ofOctetsBE ((l.drop o).take n)

/-- The EtherType of a ring frame's secure data (R339); those of PTP and of PAUSE and PFC. -/
def ringType : BitVec 16 := 0x88B5
def ptpType : BitVec 16 := 0x88F7
def macCtlType : BitVec 16 := 0x8808

/-- LEN of a ring frame, and the cells it holds (R340, R347). -/
def ringLen (f : RingFrame) : Nat := 16 + f.payload.length
def ringCells (f : RingFrame) : Nat := (ringLen f + 63) / 64

/-- The octets of a ring frame (R340). -/
def ringOctets (f : RingFrame) : List Byte :=
  octetsBE 1 (16 + f.typ.toNat) ++ octetsBE 1 (f.tc.toNat * 64 + b2n f.path * 32 + b2n f.bcast * 16) ++
  octetsBE 2 f.dst.toNat ++ octetsBE 2 f.src.toNat ++ octetsBE 2 (ringLen f) ++ octetsBE 4 f.seq.toNat ++
  [f.hops, f.epoch] ++ octetsBE 2 f.queueOfs.toNat ++ f.payload

/-- A control frame of this module on path `x` (R341). -/
def State.ctlFrame (s : State) (x typ : Nat) (payload : List Byte) : RingFrame :=
  ⟨0, 0, ringType, .ofNat 4 typ, 0, x == 1, typ != 2 && typ != 3, 0x3FFF, .ofNat 14 s.ringId, 0, 0,
    .ofNat 8 (s.rd F.CAPO_STAT_SWITCH_EPOCH), 0, payload⟩

/-- A frame sent at ring port `p`, while its domain is ON and it holds an association (R338). -/
def State.ringSend (s : State) (p : Nat) (f : RingFrame) (bad : Bool) : State :=
  if s.isOn (portDom p) ∧ s.saOk p then
    let (an, pn) := s.txTag p
    (s.drawPn p).emit (.ring p (s.secSci p) (s.secSsci p) { f with an := .ofNat 2 an, pn := .ofNat 64 pn } bad)
  else s

/-- A control frame of TYPE `typ` taken at ring port `p` (R337 to R340): its domain is ON, MACsec accepts it, and its secure
data begins with the EtherType of ring frames. -/
def State.ctlOk (s : State) (p typ : Nat) (f : RingFrame) : Bool :=
  s.isOn (portDom p) && s.secOk p f.an.toNat f.pn.toNat && f.ethType == ringType && f.typ.toNat == typ

/-- The state once that frame is taken. -/
def State.ctlTook (s : State) (p : Nat) (f : RingFrame) : State := s.secTook p f.an.toNat f.pn.toNat

/-- A control frame sent on both ports of path `x`. -/
def State.flood (s : State) (x typ : Nat) (payload : List Byte) : State :=
  let f := s.ctlFrame x typ payload
  (s.ringSend (ringPort x 0) f false).ringSend (ringPort x 1) f false

/-- The class-0x0010 event of a ring, with its kind in DATA (assumption 8): 0 loop test, 1 duplicate ID, 2 SEGMENTED,
3 CAPO stuck, 4 LONG_PATH, 5 no ring ID. -/
def State.ringEvent (s : State) (x kind : Nat) : State :=
  s.raiseEvent 0x0010 (unitOf (if kind = 1 ∨ kind = 4 then ringBlk x else bCAPO)) (evtData [(1, x), (1, kind)])

/-! ## Credit (R347 to R350) -/

/-- CREDIT sent to the upstream neighbour of path `x`. -/
def State.sendCredit (s : State) (x : Nat) (reset : Bool) : State :=
  let r := s.path x
  let pl := octetsBE 1 (b2n reset) ++ octetsBE 2 (s.rd (F.RING_PORT_STAT_LINK_EPOCH x (rxPort x % 2))) ++
    r.retSent.flatMap (octetsBE 4)
  (s.setPath x { r with freed := [0, 0, 0, 0] }).ringSend (rxPort x) (s.ctlFrame x 3 pl) false

/-- `n` cells of class `c` freed on path `x`: they return as credit; a CREDIT goes at once when 144 are due. -/
def State.freeCells (s : State) (x c n : Nat) : State :=
  let r := s.path x
  let s := s.wr (F.RING_CREDIT_HELD x c) (s.rd (F.RING_CREDIT_HELD x c) - n)
  let s := s.setPath x { r with retSent := bump r.retSent c n, freed := bump r.freed c n }
  if 144 ≤ (s.path x).freed.getD c 0 then s.sendCredit x false else s

/-- Credit of path `x` covers `n` cells of class `c`, and the port may send. -/
def State.covers (s : State) (x c n : Nat) : Bool :=
  decide (n ≤ s.rd (F.RING_CREDIT_AVAILABLE x c)) && s.isSet (F.RING_PORT_STAT_UP x (txPort x % 2))

/-- A data frame sent by the engine of path `x`, its cells drawn from the credit; `bad` with its ICV inverted. -/
def State.sendData (s : State) (x : Nat) (f : RingFrame) (bad : Bool) : State :=
  let c := f.tc.toNat
  let s := s.wr (F.RING_CREDIT_AVAILABLE x c) (s.rd (F.RING_CREDIT_AVAILABLE x c) - ringCells f)
  let s := s.setPath x { s.path x with sent := bump (s.path x).sent c (ringCells f) }
  s.ringSend (txPort x) f bad

/-- The engine of path `x` may send DATA: it runs, holds the grant, and CAPO is not stuck (R354, R355). -/
def State.mayData (s : State) (x : Nat) : Bool :=
  s.engRuns x && s.activePath == some x && !s.isSet F.CAPO_STAT_CAPO_STUCK

/-- The engine of path `x` may send on what another member sent: it may send DATA, and the module has joined the path
(step 3 of R361). -/
def State.fwdData (s : State) (x : Nat) : Bool := s.mayData x && (s.path x).join == 2

/-- CREDIT_RECEIVED (R348, R350). -/
def State.creditReceived (s : State) (x : Nat) (f : RingFrame) : State :=
  if ¬ (s.engRuns x ∧ s.ctlOk (txPort x) 3 f) then s
  else
    let s := s.ctlTook (txPort x) f
    let reset := bitAt (beAt f.payload 0 1) 0
    let cum (c : Nat) : Nat := beAt f.payload (3 + 4 * c) 4
    let r := s.path x
    if reset then
      let s := (List.range 4).foldl (fun s c =>
        s.wr (F.RING_CREDIT_AVAILABLE x c) (s.rd (F.RING_CLASS_CELLS_ALLOT x c))) s
      (s.setPath x { r with sent := [0, 0, 0, 0], retRcvd := (List.range 4).map cum }).ringCnt x 12
    else
      let s := (List.range 4).foldl (fun s c =>
        s.wr (F.RING_CREDIT_AVAILABLE x c) (s.rd (F.RING_CREDIT_AVAILABLE x c) +
          (cum c + 2 ^ 32 - r.retRcvd.getD c 0) % 2 ^ 32)) s
      s.setPath x { r with retRcvd := (List.range 4).map cum }

/-! ## Data (R342 to R346) -/

/-- Whether a frame for this module is new by EPOCH and SEQ (R344), with the SEQs missed and the engine's new record. -/
def RingSeqs.accept (q : RingSeqs) (f : RingFrame) : Option (Nat × RingSeqs) :=
  let k := 4 * f.src.toNat + f.tc.toNat
  let put : RingSeqs := { q with rx := q.rx.set k (f.epoch.toNat, f.seq.toNat) }
  match q.rx.find k with
  | none => some (0, put)
  | some (e, n) =>
    if newer 8 f.epoch.toNat e then some (0, put)
    else if e = f.epoch.toNat ∧ newer 32 f.seq.toNat n then some ((f.seq.toNat + 2 ^ 32 - n) % 2 ^ 32 - 1, put)
    else none

/-- Delivery (R343, R344): the whole ring frame as one packet on queue 1,044,480 + QUEUE_OFS. -/
def State.ringDeliver (s : State) (x : Nat) (f : RingFrame) : State :=
  let r := s.path x
  match r.seqs.accept f with
  | none => s.ringCnt x 8
  | some (missed, q) =>
    let s := (s.setPath x { r with seqs := q }).add (F.RING_CNT_COUNT x 7) missed
    let (res, s) := s.pegPut (engPort x) (1044480 + f.queueOfs.toNat) false (ringOctets f)
    if res.1 = stOK then s.ringCnt x 2 else s.ringCnt x 9

/-- The claim the engine of path `x` works on for class `c`: the one it holds, else a new one (at most 8). -/
def State.ringClaim (s : State) (x c : Nat) : Option Claim × State :=
  let q := 1046528 + c
  match s.heldClaim (engPort x) q with
  | some cl => (some cl, s)
  | none =>
    if s.pegRuns ∧ ¬ (s.desc q).claimed ∧ s.hasPacket q ∧ s.claimRoom (engPort x) ∧
        s.rd (F.PEG_CLAIM_USE_USE (engPort x)) < 8 then
      let (cl, s) := s.claim q (engPort x)
      (some cl, s)
    else (none, s)

/-- A transit frame of class `c` waits on path `x` and could go, and so a frame of this module's own. -/
def State.transitReady (s : State) (x c : Nat) : Bool :=
  match (s.path x).transit.find? (fun g => g.tc.toNat == c) with
  | some f => (s.path x).join == 2 && s.covers x c (ringCells f)
  | none => false
def State.ownReady (s : State) (x c : Nat) : Bool :=
  match (s.ringClaim x c).1 with
  | some cl => s.covers x c ((cl.len + 63) / 64)
  | none => false

/-- The outgoing port's order (R345): no class below `c` has a frame that could go, and within the class transit frames and
own frames alternate. -/
def State.ringTurn (s : State) (x c : Nat) (transit : Bool) : Bool :=
  (List.range c).all (fun c => !s.transitReady x c && !s.ownReady x c) &&
    !((s.path x).lastTransit.getD c false == transit && (if transit then s.ownReady x c else s.transitReady x c))

/-- The frame sent last of class `c` was a transit frame, or an own one. -/
def State.ringServed (s : State) (x c : Nat) (transit : Bool) : State :=
  s.setPath x { s.path x with lastTransit := (s.path x).lastTransit.set c transit }

/-- Forwarding (R343, R345): at once when no frame of the class waits and credit covers it, else through the transit buffer. -/
def State.ringForward (s : State) (x : Nat) (f : RingFrame) : State :=
  let f := { f with hops := f.hops - 1 }
  let r := s.path x
  let c := f.tc.toNat
  if s.fwdData x ∧ ¬ r.transit.any (fun g => g.tc == f.tc) ∧ ¬ s.ownReady x c ∧ s.covers x c (ringCells f) then
    (((s.sendData x f false).ringServed x c true).ringCnt x 1).freeCells x c (ringCells f)
  else (s.setPath x { r with transit := r.transit ++ [f] }).ringCnt x 13

/-- A frame that fails its ICV or FCS (R346). -/
def State.ringBad (s : State) (x : Nat) (f : RingFrame) (fwd : Bool) : State :=
  let s := s.ringCnt x 5
  let s := if fwd ∧ s.fwdData x then
      (s.sendData x { f with hops := f.hops - 1 } true).ringCnt x 6 else s
  s.freeCells x f.tc.toNat (ringCells f)

/-- RING_DATA_RECEIVED (R337 to R347): the first condition that applies. A frame that replay protection refuses is handled as
one whose ICV fails (assumption 87). -/
def State.ringData (s : State) (x : Nat) (f : RingFrame) (icvOk : Bool) : State :=
  let p := rxPort x
  let ok := icvOk && s.secOk p f.an.toNat f.pn.toNat
  if ¬ (s.engRuns x ∧ s.isOn (portDom p)) then s
  else if f.ethType = macCtlType then s.ringCnt x 14
  else if ok ∧ f.ethType = ptpType then s.ctlTook p f
  else if ok ∧ f.ethType ≠ ringType then (s.ctlTook p f).ringCnt x 14
  else if ok ∧ f.typ ≠ 1 then s.ctlTook p f
  else
    let s := if ok then s.ctlTook p f else s
    let c := f.tc.toNat
    let n := (ringCells f)
    let r := s.path x
    let s := (s.setPath x { r with rcvd := bump r.rcvd c n }).wr (F.RING_CREDIT_HELD x c)
      (s.rd (F.RING_CREDIT_HELD x c) + n)
    let id := s.ringId
    let ours := decide (f.dst.toNat / 64 = s.rd F.CAPO_RING_ID_RING) || f.bcast
    let fwd := ours && f.src.toNat != id && f.dst.toNat != id && (f.bcast || f.hops != 0)
    if ¬ ok then s.ringBad x f fwd
    else if ¬ ours ∨ 9216 < ringLen f then (s.ringCnt x 4).freeCells x c n
    else if f.src.toNat = id then (s.ringCnt x 3).freeCells x c n
    else if f.dst.toNat = id ∧ ¬ f.bcast then (s.ringDeliver x f).freeCells x c n
    else if f.bcast then (s.ringDeliver x f).ringForward x f
    else if f.hops = 0 then (s.ringCnt x 4).freeCells x c n
    else s.ringForward x f

/-- A frame the module originates from the packet `o` of a producer (R342): the engine sets VER, TYPE, PATH, SRC, SEQ,
EPOCH and HOPS. -/
def State.ringOwn (s : State) (x c seq : Nat) (o : List Byte) : RingFrame :=
  ⟨0, 0, ringType, 1, .ofNat 2 c, x == 1, bitAt (beAt o 1 1) 4, .ofNat 14 (beAt o 2 2), .ofNat 14 s.ringId, .ofNat 32 seq, 63,
    .ofNat 8 (s.rd F.CAPO_STAT_SWITCH_EPOCH), .ofNat 12 (beAt o 14 2), o.drop 16⟩

/-- RING_TRANSMIT (R342, R345, R348). -/
def State.ringTransmit (s : State) (c : Nat) (transit : Bool) : State :=
  match s.activePath with
  | none => s
  | some x =>
    if ¬ s.mayData x then s
    else if transit then
      let r := s.path x
      match r.transit.find? (fun g => g.tc.toNat == c) with
      | none => s
      | some f =>
        if s.transitReady x c ∧ s.ringTurn x c true then
          let s := (s.setPath x { r with transit := r.transit.erase f }).ringServed x c true
          ((s.sendData x f false).ringCnt x 1).freeCells x c (ringCells f)
        else s
    else
      match s.ringClaim x c with
      | (none, s) => s
      | (some cl, s) =>
        let o := s.claimOctets cl
        let dst := beAt o 2 2 % 2 ^ 14
        let r := s.path x
        let key := 4 * dst + c
        let seq := r.seqs.tx.get key 0
        let f := s.ringOwn x c seq o
        if cl.len < 16 ∨ beAt o 6 2 ≠ cl.len ∨ (¬ f.bcast ∧ dst / 64 ≠ s.rd F.CAPO_RING_ID_RING) then
          (s.releaseClaim cl).ringCnt x 4
        else if s.covers x c (ringCells f) ∧ s.ringTurn x c false then
          let s := (s.setPath x { r with seqs := { r.seqs with tx := r.seqs.tx.set key ((seq + 1) % 2 ^ 32) } }).ringServed x c false
          ((s.sendData x f false).releaseClaim cl).ringCnt x 0
        else s

/-! ## Paths, members and the gateway (R352, R363) -/

/-- Path `x` is whole (R352). -/
def State.whole (s : State) (x : Nat) : Bool := s.isSet (F.RING_PATH_STAT_WHOLE x)

/-- Position bits of the members of path `x`: the sources whose probes passed within 2 ms, and the module itself while
joined. -/
def State.memberBits (s : State) (x : Nat) : Nat :=
  let r := s.path x
  let m := r.seen.foldl (fun m e => if s.sys.refTick ≤ e.2.1 + 2000 then setBit m e.1 true else m) 0
  if r.join = 2 then setBit m (s.rd F.CAPO_RING_ID_POSITION) true else m

/-- The active path, or A where there is none. -/
def State.actPath (s : State) : Nat := s.activePath.getD 0

/-- The lowest set bit of `m` below 64. -/
def lowestBit (m : Nat) : Option Nat := (List.range 64).find? (fun p => bitAt m p)

/-- The module is the lowest-positioned member of the set `m`. -/
def State.isLowest (s : State) (m : Nat) : Bool := lowestBit m == some (s.rd F.CAPO_RING_ID_POSITION)

/-- Positions with HE_UP among the members of path `x`, the module itself included. -/
def State.heBits (s : State) (x : Nat) : Nat :=
  let m := (s.path x).seen.foldl (fun m e =>
    if s.sys.refTick ≤ e.2.1 + 2000 ∧ bitAt e.2.2 0 then setBit m e.1 true else m) 0
  if s.ring.heUp ∧ s.hasRing then setBit m (s.rd F.CAPO_RING_ID_POSITION) true else m

/-- CAPO_MEMBERS, CAPO_SMEMBERS and CAPO_GATEWAY brought up to date. -/
def State.showMembers (s : State) : State :=
  let x := s.actPath
  let s := (s.wr64 F.CAPO_MEMBERS_LO_BITS F.CAPO_MEMBERS_HI_BITS (s.memberBits x)).wr64 F.CAPO_SMEMBERS_LO_BITS
    F.CAPO_SMEMBERS_HI_BITS (s.memberBits (1 - x))
  match lowestBit (s.heBits x) with
  | some p => (s.wr F.CAPO_GATEWAY_POSITION p).wr F.CAPO_GATEWAY_VALID 1
  | none => s.wr F.CAPO_GATEWAY_VALID 0

/-- Path `x` carries every member of the active path (R362). -/
def State.carriesAll (s : State) (x : Nat) : Bool :=
  let m := s.memberBits s.actPath
  (m &&& s.memberBits x) == m

/-! ## Switchover (R357 to R360, R362) -/

/-- The claims of R342 that the engine of path `x` releases unsent (R358). -/
def State.releaseUnsent (s : State) (x : Nat) : State :=
  (List.range 4).foldl (fun s c =>
    match s.heldClaim (engPort x) (1046528 + c) with
    | some cl => ((s.releaseClaim cl).ringCnt x 15).capoCnt 6
    | none => s) s

/-- The transit buffer of path `x` emptied, its cells returned as credit. -/
def State.dropTransit (s : State) (x : Nat) : State :=
  let r := s.path x
  r.transit.foldl (fun s f => s.freeCells x f.tc.toNat (ringCells f)) (s.setPath x { r with transit := [] })

/-- The gateway forwarding state of the four HCP sessions lost (R356, R358): no request is outstanding, and an association
that stands is no longer bound. -/
def State.forgetSessions (s : State) : State :=
  let s := { s with hcp := { s.hcp with fwd := [], assoc := s.hcp.assoc.map (fun e => (e.1, false)) } }
  (List.range 4).foldl (fun s k => s.wr (F.HCP_SESSION_STAT_BOUND k) 0) s

/-- Takeover by the engine of path `x` (step 3 of R357, R358). -/
def State.takeover (s : State) (x cause : Nat) (byAnnounce : Bool) (detectUs takeTenthUs : Nat) : State :=
  let s := match s.activePath with
    | some old => if old = x then s else (s.releaseUnsent old).dropTransit old
    | none => s
  let r := s.path x
  let moved := s.activePath != some x
  let s := if moved ∧ ¬ s.isSet F.CAPO_STAT_STANDBY_READY then
      (s.setPath x { r with seqs := ⟨[], []⟩ }).forgetSessions else s
  let s := { s with ring := { s.ring with want := some x } }
  let s := (s.wr F.CAPO_STAT_GRANT (x + 1)).wr F.CAPO_STAT_STATE (x + 1)
  let s := ((s.wr F.CAPO_SWITCH_CAUSE cause).wrB F.CAPO_SWITCH_BY_ANNOUNCE byAnnounce).wr F.CAPO_SWITCH_DETECT_US
    (if byAnnounce then 0 else detectUs)
  let s := (s.wr F.CAPO_TAKEOVER_TIME takeTenthUs).capoCnt 0
  ((s.recTrigger 0x0060 (takeTenthUs : Int) []).filterReset).showMembers

/-- SEGMENTED (R360). -/
def State.segmented (s : State) (x : Nat) : State :=
  if s.rd F.CAPO_STAT_STATE = 3 then s else ((s.wr F.CAPO_STAT_STATE 3).capoCnt 4).ringEvent x 2

/-- ANNOUNCE originated toward path `x` (R341, R357): SWITCH_EPOCH advances and the frame is flooded. -/
def State.announce (s : State) (x cause : Nat) : State :=
  let s := (s.inc F.CAPO_STAT_SWITCH_EPOCH).capoCnt 1
  s.flood x 5 (octetsBE 1 x ++ octetsBE 2 (s.rd F.CAPO_STAT_SWITCH_EPOCH) ++ octetsBE 1 cause ++ octetsBE 2 s.ringId)

/-- The ring is moved to path `x` by this module. -/
def State.switchTo (s : State) (x cause detectUs takeTenthUs : Nat) : State :=
  (s.announce x cause).takeover x cause false detectUs takeTenthUs

/-- A switchover with CAUSE 1, 2 or 3 is allowed to path `x` (R362). -/
def State.maySwitch (s : State) (x : Nat) : Bool :=
  s.whole x && s.carriesAll x && !s.isSet F.CAPO_STAT_CAPO_STUCK && s.activePath.isSome

/-- A link fault of ring port `p` declared (R350, R351, R357). Misses do not say whether block lock went with them:
BLOCK_LOCK is then a free value (assumption 4). -/
def State.linkFault (s : State) (p detectUs takeTenthUs : Nat) : State :=
  let x := p / 2
  let w := p % 2
  let s := (s.wr (F.RING_PORT_STAT_FAULT x w) 1).wr (F.RING_PORT_STAT_UP x w) 0
  let s := (s.inc (F.RING_PORT_STAT_LINK_EPOCH x w)).ringCnt x 11
  let (lock, s) := s.fresh
  let s := s.wr (F.RING_PORT_STAT_BLOCK_LOCK x w) lock
  let s := if p = txPort x then
      (List.range 4).foldl (fun s c => s.wr (F.RING_CREDIT_AVAILABLE x c) 0) s
    else
      let s := s.setPath x { s.path x with transit := [] }
      (List.range 4).foldl (fun s c => s.wr (F.RING_CREDIT_HELD x c) 0) s
  let s := s.wr (F.RING_PATH_STAT_WHOLE x) 0
  let s := s.setPath x { s.path x with returned := false, prevOk := false }
  if s.activePath = some x then
    let s := s.capoCnt 3
    if s.isSet F.CAPO_STAT_CAPO_STUCK then s
    else if s.whole (1 - x) then s.switchTo (1 - x) 0 detectUs takeTenthUs
    else s.segmented x
  else s.raiseEvent 0x00F0 (unitOf (ringBlk x)) (o1 (unitOf (ringBlk x)))

/-- CONTINUITY_MISS (R351): the receive timer has run out once more since the last valid CONTINUITY. -/
def State.contMiss (s : State) (p sinceUs takeTenthUs : Nat) : State :=
  let x := p / 2
  let w := p % 2
  let n := s.rd (F.RING_PORT_STAT_MISSES x w)
  if s.isOn (portDom p) ∧ 125 * (n + 1) ≤ sinceUs then
    let s := (s.setPortSt p { s.portSt p with good := 0 }).ringCnt x 10
    let s := s.wr (F.RING_PORT_STAT_MISSES x w) (min 3 (n + 1))
    if n = 2 then s.linkFault p sinceUs takeTenthUs else s
  else s

/-- A link restored (R338, R350, R351): LINK_EPOCH advances, the lowest packet number accepted is 1 again, and the receiver's CREDIT resets the sender's count. -/
def State.linkUp (s : State) (p : Nat) : State :=
  let x := p / 2
  let w := p % 2
  let s := ((s.wr (F.RING_PORT_STAT_UP x w) 1).wr (F.RING_PORT_STAT_FAULT x w) 0).inc
    (F.RING_PORT_STAT_LINK_EPOCH x w)
  let r := s.portSt p
  let s := s.setPortSt p { r with rxPn := 1, next := r.next.map (fun n => { n with rxPn := 1 }) }
  if p = rxPort x then
    let s := s.setPath x { s.path x with rcvd := [0, 0, 0, 0], retSent := [0, 0, 0, 0] }
    s.sendCredit x true
  else s

/-- CONTINUITY_RECEIVED (R341, R351): payload LINK_EPOCH, TX_TIME, ECHO_TIME, ECHO_DELAY, STATE, SWITCH_EPOCH. -/
def State.contReceived (s : State) (p : Nat) (f : RingFrame) (rxNs : Nat) : State :=
  if ¬ s.ctlOk p 2 f then s
  else
    let s := s.ctlTook p f
    let x := p / 2
    let w := p % 2
    let pl := f.payload
    let echo := beAt pl 10 8
    let n := min 8 ((s.portSt p).good + 1)
    let said := bits (beAt pl 22 1) 0 2
    let heard := if said = 1 ∨ said = 2 then some (said - 1, beAt pl 23 2) else none
    let s := s.setPortSt p { s.portSt p with good := n, echo := some (beAt pl 2 8, rxNs), said := heard }
    let s := (s.wr (F.RING_PORT_STAT_MISSES x w) 0).wr (F.RING_PORT_STAT_NEIGHBOUR x w) (bits f.src.toNat 0 6)
    let s := s.wr (F.RING_PORT_STAT_BLOCK_LOCK x w) 1
    let s := if echo = 0 then s else s.wr (F.RING_PORT_DELAY_NS x w) ((rxNs - echo - beAt pl 18 4) / 2)
    if n = 8 ∧ ¬ s.isSet (F.RING_PORT_STAT_UP x w) then s.linkUp p else s

/-! ## Probes -/

/-- What follows when path `x` is whole: the lowest SEGMENTED member restores the ring (R360); a module that has joined
the standby path moves the ring there (step 4 of R361). -/
def State.wholeNow (s : State) (x : Nat) : State :=
  if ¬ s.whole x ∨ s.isSet F.CAPO_STAT_CAPO_STUCK then s
  else if s.rd F.CAPO_STAT_STATE = 3 ∧ s.isLowest (s.memberBits x) then s.switchTo x 4 0 0
  else if (s.path x).joinAnnounce ∧ s.activePath = some (1 - x) ∧ s.maySwitch x then
    (s.setPath x { s.path x with joinAnnounce := false }).switchTo x 1 0 0
  else s

/-- 1 ms has passed since the probes before (R352). -/
def State.probeDue (s : State) : Bool :=
  match s.ring.probeAt with
  | some t => decide (t + 1000 ≤ s.sys.refTick)
  | none => true

/-- PROBE_SEND (R352): the outcome of the probe before is judged, and the next goes out on each joined path. -/
def State.probeSend (s : State) : State :=
  if ¬ s.probeDue then s else
  let s := { s with ring := { s.ring with probeAt := some s.sys.refTick } }
  let one (s : State) (x : Nat) : State :=
    let r := s.path x
    let ok := r.returned && r.prevOk && s.engRuns x
    let s := s.wrB (F.RING_PATH_STAT_WHOLE x) ok
    let s := s.setPath x { r with prevOk := r.returned, returned := false, probeSeq := (r.probeSeq + 1) % 2 ^ 32 }
    if r.join = 2 ∧ s.engRuns x then
      s.ringSend (txPort x) (s.ctlFrame x 4 (octetsBE 4 (s.path x).probeSeq ++
        octetsBE 1 (b2n s.ring.heUp + 2 * b2n ((s.path (1 - x)).join == 2)))) false
    else s
  (one (one s 0) 1).showMembers

/-- PROBE_RECEIVED (R352, R353). -/
def State.probeReceived (s : State) (x : Nat) (f : RingFrame) (rtt : Nat) : State :=
  if ¬ s.ctlOk (rxPort x) 4 f then s
  else
    let s := s.ctlTook (rxPort x) f
    let r := s.path x
    if f.src.toNat = s.ringId then
      if beAt f.payload 0 4 = r.probeSeq then
        let good := decide (rtt ≤ 100 * s.rd F.CAPO_CFG_PROBE_10US)
        let s := (s.wr (F.RING_PATH_STAT_RTT x) rtt).setPath x { r with returned := good }
        let long := decide (5450 < rtt)
        let s := if long ∧ ¬ s.isSet (F.RING_PATH_STAT_LONG_PATH x) then s.ringEvent x 4 else s
        let s := s.wrB (F.RING_PATH_STAT_LONG_PATH x) long
        let s := s.wrB (F.RING_PATH_STAT_WHOLE x) (good && r.prevOk && s.engRuns x)
        (s.showMembers).wholeNow x
      else s
    else if f.src.toNat / 64 = s.rd F.CAPO_RING_ID_RING then
      let s := s.setPath x { r with seen := r.seen.set (f.src.toNat % 64) (s.sys.refTick, beAt f.payload 4 1) }
      (if r.join = 2 then s.ringSend (txPort x) f false else s).showMembers
    else s

/-! ## ANNOUNCE, CAPO_CMD and the grant -/

/-- ANNOUNCE_RECEIVED (R357, R360, R364). -/
def State.announceReceived (s : State) (p : Nat) (f : RingFrame) (takeTenthUs : Nat) : State :=
  if ¬ s.ctlOk p 5 f then s
  else
    let s := s.ctlTook p f
    let x := bits (beAt f.payload 0 1) 0 1
    let e := beAt f.payload 1 2
    let cause := beAt f.payload 3 1
    if newer 16 e (s.rd F.CAPO_STAT_SWITCH_EPOCH) then
      let s := s.wr F.CAPO_STAT_SWITCH_EPOCH e
      let s := ((s.wr F.CAPO_ANNOUNCE_LAST_EPOCH e).wr F.CAPO_ANNOUNCE_LAST_TARGET x).wr F.CAPO_ANNOUNCE_LAST_REPORTER
        (beAt f.payload 4 2)
      let s := s.ringSend (otherPort p) f false
      if s.isSet F.CAPO_STAT_CAPO_STUCK then s
      else if s.whole x then s.takeover x cause true 0 takeTenthUs
      else s.segmented x
    else s.capoCnt 2

/-- REVERT (R362). -/
def State.ringRevert (s : State) (sinceS takeTenthUs : Nat) : State :=
  let x := s.rd F.CAPO_CFG_PREFER
  if s.isSet F.CAPO_CFG_REVERT ∧ s.activePath = some (1 - x) ∧ s.isLowest (s.memberBits (1 - x)) ∧ s.maySwitch x ∧
      s.rd F.CAPO_CFG_REVERT_S ≤ sinceS then s.switchTo x 2 0 takeTenthUs
  else s

/-- CAPO_CMD to path `x` (R362): BAD when the condition fails; a ring already there stays. -/
def State.capoSwitch (s : State) (x takeTenthUs : Nat) : Nat × State :=
  if s.activePath = some x ∧ s.rd F.CAPO_STAT_STATE = x + 1 then (stOK, s.wr F.CAPO_TAKEOVER_CMD_STATUS stOK)
  else if s.maySwitch x then (stOK, (s.switchTo x 3 0 takeTenthUs).wr F.CAPO_TAKEOVER_CMD_STATUS stOK)
  else (stBAD, s.wr F.CAPO_TAKEOVER_CMD_STATUS stBAD)

/-- The grant line follows the request: the last commanded path holds the grant again. -/
def State.grantFollows (s : State) : State :=
  match s.ring.want with
  | some x => ((s.wr F.CAPO_STAT_GRANT (x + 1)).wr F.CAPO_STAT_STATE (x + 1)).wr F.CAPO_STAT_CAPO_STUCK 0
  | none => s

/-- RETRY_GRANT (R355). -/
def State.retryGrant (s : State) (follows : Bool) : Nat × State :=
  let s := if s.isSet F.CAPO_STAT_CAPO_STUCK ∧ follows then s.grantFollows else s
  (stOK, s.wr F.CAPO_TAKEOVER_CMD_STATUS stOK)

/-- CAPO_STUCK (R355). -/
def State.capoStuck (s : State) (notSeen equal : Nat) : State :=
  if s.isOn 49 ∧ s.ring.want ≠ none ∧ ¬ s.isSet F.CAPO_STAT_CAPO_STUCK ∧ (20 ≤ notSeen ∨ 10 ≤ equal) then
    let s := (s.wr F.CAPO_STAT_CAPO_STUCK 1).wr F.CAPO_STAT_STATE 4
    let s := if 10 ≤ equal then s.wr F.CAPO_STAT_GRANT 3 else s
    (s.capoCnt 5).ringEvent 0 3
  else s

/-- CAPO_REGRANT (R355). -/
def State.capoRegrant (s : State) (sinceMs : Nat) (follows : Bool) : State :=
  if s.isOn 49 ∧ s.isSet F.CAPO_STAT_CAPO_STUCK ∧ 1000 ≤ sinceMs ∧ follows then s.grantFollows else s

/-! ## Joining (R361) -/

/-- PATH_JOIN: after the loop test BYPASS_HOLD is raised and JOIN flooded. -/
def State.pathJoin (s : State) (x : Nat) : State :=
  if s.hasRing ∧ s.allOn (ringDoms x) ∧ s.rd (fResult x) = 2 ∧ s.isSet (fHoldEn x) ∧ s.isSet F.KEY_LC_ROOT_PRESENT ∧
      (s.path x).join = 0 ∧ ¬ s.isSet F.SLOT_STATUS_EJECT_ACTIVE then
    ((s.setHold x true).setPath x { s.path x with join := 1 }).flood x 6 (octetsBE 8 (Config.moduleEui % 2 ^ 64) ++ o1 0)
  else s

/-- JOIN_RECEIVED: a member that holds the ID named answers with DUP 1, and takes an answer that comes back to it; any
other JOIN goes on by the other port. -/
def State.joinReceived (s : State) (p : Nat) (f : RingFrame) : State :=
  if ¬ s.ctlOk p 6 f then s
  else if f.src.toNat = s.ringId ∧ (s.path (p / 2)).join = 2 ∧ ¬ bitAt (beAt f.payload 8 1) 0 then
    (s.ctlTook p f).flood (p / 2) 6 (octetsBE 8 (Config.moduleEui % 2 ^ 64) ++ o1 1)
  else if f.src.toNat = s.ringId then s.ctlTook p f
  else (s.ctlTook p f).ringSend (otherPort p) f false

/-- JOIN_DUP_RECEIVED: the joiner lowers BYPASS_HOLD and tries again later. -/
def State.joinDup (s : State) (x : Nat) : State :=
  if (s.path x).join = 1 then
    let s := (s.setHold x false).setPath x { s.path x with join := 0 }
    let s := ((s.wr (fResult x) 3).setLoopSeries x (s.slot.loopSeries.getD x 0 + 1)).capoCnt 7
    s.ringEvent x 1
  else s

/-- JOIN_CONFIRM: 10 ms without DUP. -/
def State.joinConfirm (s : State) (x ms : Nat) : State :=
  if (s.path x).join = 1 ∧ 10 ≤ ms then
    let first := (s.path (1 - x)).join != 2
    (s.setPath x { s.path x with join := 2, joinAnnounce := first && s.activePath == some (1 - x) }).showMembers
  else s

/-- What the neighbours on path `x` say: the report with the newer SWITCH_EPOCH, path A between equal ones. -/
def State.saidActive (s : State) (x : Nat) : Option (Nat × Nat) :=
  match (s.portSt (2 * x)).said, (s.portSt (2 * x + 1)).said with
  | none, r => r
  | r, none => r
  | some (pa, ea), some (pb, eb) =>
    if newer 16 eb ea then some (pb, eb) else if ea = eb ∧ pb = 0 then some (pb, eb) else some (pa, ea)

/-- The grant taken to path `x` outside a switchover (R361). -/
def State.grantTo (s : State) (x : Nat) : State :=
  let s := { s with ring := { s.ring with want := some x } }
  ((s.wr F.CAPO_STAT_GRANT (x + 1)).wr F.CAPO_STAT_STATE (x + 1)).showMembers

/-- ACTIVE_PATH_SEARCH_END (R361): the active path a neighbour names is taken; with none within 20 ms, `x` becomes
active. -/
def State.searchEnd (s : State) (x ms : Nat) : State :=
  if s.activePath = none ∧ 0 < (s.path x).join ∧ s.engRuns x ∧ ¬ s.isSet F.CAPO_STAT_CAPO_STUCK then
    match s.saidActive x with
    | some (y, e) => (s.wr F.CAPO_STAT_SWITCH_EPOCH e).grantTo y
    | none => if 20 ≤ ms then s.grantTo x else s
  else s

/-! ## The ring cycle (R341, R348, R356) -/

/-- CONTINUITY sent at ring port `p`. -/
def State.sendContinuity (s : State) (p : Nat) : State :=
  let x := p / 2
  let (et, ed) := match (s.portSt p).echo with
    | some (t, rx) => (t, s.tb0Ns - rx)
    | none => (0, 0)
  let act := match s.activePath with
    | some y => y + 1
    | none => 0
  let st := act + 4 * b2n (s.rd F.CAPO_STAT_STATE == 3)
  s.ringSend p (s.ctlFrame x 2 (octetsBE 2 (s.rd (F.RING_PORT_STAT_LINK_EPOCH x (p % 2))) ++ octetsBE 8 s.tb0Ns ++
    octetsBE 8 et ++ octetsBE 4 ed ++ octetsBE 1 st ++ octetsBE 2 (s.rd F.CAPO_STAT_SWITCH_EPOCH))) false

/-- RUN of the engine of path `x` follows its domain and EN; an engine that stops leaves its path not whole. -/
def State.ringRunSet (s : State) (x : Nat) : State :=
  let on := s.isOn (engDom x) && s.isSet (F.RING_CTRL_EN x)
  let s := s.wrB (F.STATE_RUN (ringBlk x)) on
  let s := if on then s else s.wr (F.RING_PATH_STAT_WHOLE x) 0
  s.wrB (F.STATE_RUN bCAPO) (s.run bRINGA || s.run bRINGB)

/-- The 24 audit terms of path `x` latched (R349). -/
def State.ringAudit (s : State) (x : Nat) : State :=
  let r := s.path x
  let s := (List.range 4).foldl (fun s c =>
    let w (s : State) (i v : Nat) : State := s.wr (F.RING_AUDIT_VALUE x (6 * c + i)) v
    w (w (w (w (w (w s 0 (s.rd (F.RING_CREDIT_AVAILABLE x c))) 1 (r.sent.getD c 0)) 2 (r.retRcvd.getD c 0)) 3
      (s.rd (F.RING_CREDIT_HELD x c))) 4 (r.rcvd.getD c 0)) 5 (r.retSent.getD c 0)) s
  (s.setPath x { r with auditDue := false }).inc (F.RING_AUDIT_CTRL_SNAP_CNT x)

/-- A due audit at a ring cycle boundary (R505): with LEDGER_RING_AT 0 here; else at the boundary it names, or here with
UNSYNC where TB0 is not LOCKED or that boundary is past. -/
def State.ringAuditAt (s : State) (x : Nat) : State :=
  let n := s.rd64 F.LEDGER_RING_AT_LO_CYCLE F.LEDGER_RING_AT_HI_CYCLE
  let now := s.tb0Ns / 125000
  if n = 0 ∨ (s.isSet F.TIME_TB0_STAT_LOCKED ∧ now = n) then (s.wr F.LEDGER_STAT_UNSYNC 0).ringAudit x
  else if s.isSet F.TIME_TB0_STAT_LOCKED ∧ now < n then s
  else (s.wr F.LEDGER_STAT_UNSYNC 1).ringAudit x

/-- The end of a ring cycle for path `x`: commit point, CONTINUITY on its ports, CREDIT, a due audit. -/
def State.cyclePath (s : State) (x : Nat) : State :=
  if ¬ s.isOn (engDom x) then s
  else
    let s := (s.commit (ringBlk x)).ringRunSet x
    let s := (s.sendContinuity (2 * x)).sendContinuity (2 * x + 1)
    let s := if s.run (ringBlk x) then s.sendCredit x false else s
    if (s.path x).auditDue then s.ringAuditAt x else s

/-- The state copy of R356: the engine of the active path to the standby engine. -/
def State.stateCopy (s : State) : State :=
  match s.activePath with
  | none => s.wr F.CAPO_STAT_STANDBY_READY 0
  | some x =>
    let y := 1 - x
    if s.engRuns x ∧ s.engRuns y then
      let s := s.setPath y { s.path y with seqs := (s.path x).seqs }
      ({ s with ring := { s.ring with copyAge := 0 } }).wr F.CAPO_STAT_STANDBY_READY 1
    else
      let n := s.ring.copyAge + 1
      ({ s with ring := { s.ring with copyAge := min 255 n } }).wrB F.CAPO_STAT_STANDBY_READY (decide (n < 2))

/-- The number of the ring cycle now (R356): a TB0 multiple of 125 µs while TB0 is locked, else one of the reference tick. -/
def State.cycleNo (s : State) : Nat :=
  if s.isSet F.TIME_TB0_STAT_LOCKED then 2 * (s.tb0Ns / 125000) + 1 else 2 * (s.sys.refTick / 125)

/-- RING_CYCLE_BOUNDARY: once in each ring cycle. -/
def State.ringCycle (s : State) : State :=
  if s.ring.cycle = some s.cycleNo then s else
  let s := { s with ring := { s.ring with cycle := some s.cycleNo } }
  let s := if s.isOn 25 ∨ s.isOn 26 then s.commit bCAPO else s
  (((s.cyclePath 0).cyclePath 1).stateCopy).showMembers

/-- What a write of EN 0 to the control register of path `x` does first where the path is active: the ring is switched to
the other path with CAUSE 3; false where that is refused. -/
def State.ringLeave (s : State) (x : Nat) : Bool × State :=
  if s.activePath = some x then
    if s.maySwitch (1 - x) then (true, s.switchTo (1 - x) 3 0 0) else (false, s)
  else (true, s)

/-- The engine of path `x` is ON: its SAKs are derived (R445), those of a pending replacement too. -/
def State.ringKeys (s : State) (x : Nat) : State :=
  let s := s.showSa
  if (s.key.replaces.any (fun e => e.2.path == x)) then s.setNext x (some NextSa.start) else s

/-- The engine of path `x` has left ON: its credit, transit buffer, joining and SAKs are lost. -/
def State.ringLost (s : State) (x : Nat) : State :=
  let s := ((s.setPath x RingPathState.start).setPortSt (2 * x) RingPortState.start).setPortSt (2 * x + 1) RingPortState.start
  let s := s.showSa
  let s := if s.activePath = some x then
      (if s.whole (1 - x) ∧ ¬ s.isSet F.CAPO_STAT_CAPO_STUCK then s.switchTo (1 - x) 0 0 0 else s.segmented x) else s
  s.showMembers

end Sys2Proof.Machine
end

