-- ==== Sys2Proof/Machine/Key.lean ====
section
/-!
DEFINITION. Machine/Key.lean: the keystore and the life cycle (R445 to R462): provisioning, ring key replacement, node
moves, debug, tamper. The cryptographic functions are opaque constants of Config.
-/
namespace Sys2Proof.Machine

def State.setKey (s : State) (k : KeyState) : State := { s with key := k }

/-- Life-cycle states (KEY_LC). -/
def lcBlank : Nat := 0
def lcProvisioned : Nat := 1
def lcFielded : Nat := 2
def lcReturned : Nat := 3
def lcScrapped : Nat := 4

def State.lc (s : State) : Nat := s.rd F.KEY_LC_STATE

def State.rootPresent (s : State) : Bool := s.isSet F.KEY_LC_ROOT_PRESENT

def State.keyCnt (s : State) (i n : Nat) : State := s.add (F.KEY_CNT_COUNT i) n

def State.slotKind (s : State) (k : Nat) : Nat := s.rd (F.KEY_SLOT_CFG_KIND k)

/-- Whether the module may join rings: it has a root (R461). -/
def State.joinable (s : State) : Bool := s.rootPresent

/-- The event of the KEY block. -/
def State.keyEvent (s : State) : State := s.raiseEvent 0x00F0 (unitOf bKEY) (o1 (unitOf bKEY))

/-! ## Derivation (R447, R448, R450, R451) -/

/-- The octets of an ASCII text. -/
def ascii (t : String) : List Byte := t.toList.map (fun c => BitVec.ofNat 8 c.toNat)

/-- The input of block `i` of a derivation (R447): counter, Label, 0x00, Context, L. -/
def kdfInput (i : Nat) (label : String) (context : List Byte) (bitsL : Nat) : List Byte :=
  octetsBE 4 i ++ ascii label ++ o1 0 ++ context ++ octetsBE 4 bitsL

/-- The KDF of R447: the first `bitsL` bits of the blocks, most significant first, as a number. -/
def kdf (key : List Byte) (label : String) (context : List Byte) (bitsL : Nat) : Nat :=
  let n := (bitsL + 255) / 256
  let out := (List.range n).foldl (fun a i => a * 2 ^ 256 + (Config.hmacSha256 key (kdfInput (i + 1) label context bitsL)).toNat) 0
  out / 2 ^ (256 * n - bitsL)

/-- The key of slot `k` at generation `gen` (R448): family key F of a FIELD slot, SAK and salt of a RING slot. The octets of a
Context of several are most significant first (assumption 83). -/
def State.slotKey (s : State) (k gen : Nat) : Nat :=
  let root := octetsBE 32 (s.key.root.getD 0)
  let ctx := s.rd (F.KEY_SLOT_CFG_CTX k)
  match s.slotKind k with
  | 1 => kdf root "VN-FIELD" (octetsBE 2 ctx) 256
  | 2 => kdf root "VN-RING" (o1 (s.rd F.CAPO_RING_ID_RING) ++ o1 (bits ctx 0 1) ++ octetsBE 2 gen) 352
  | _ => 0

/-- F of FIELD slot `k`, as octets. -/
def State.familyKey (s : State) (k : Nat) : List Byte := octetsBE 32 (s.slotKey k (s.rd (F.KEY_SLOT_STAT_GEN k)))

/-- The AES-128 keys of R158 under FIELD slot `k` (R448): unicast of an EUI-64 and a role, multicast group, beacon. -/
def State.nodeKey (s : State) (k eui role : Nat) : Nat := kdf (s.familyKey k) "VN-NODE" (octetsBE 8 eui ++ o1 role) 128
def State.groupKey (s : State) (k g : Nat) : Nat := kdf (s.familyKey k) "VN-GROUP" (octetsBE 2 s.moduleId ++ o1 g) 128
def State.beaconKey (s : State) (k : Nat) : Nat := kdf (s.familyKey k) "VN-BEACON" (octetsBE 2 s.moduleId) 128

/-- What unwrapping a provisioning blob gives (R450): Z, then KEK and IV, then the root; none for a bad tag or point. -/
def State.unwrapRoot (s : State) (blob : List Byte) : Option Nat :=
  (Config.ecdhFactory (blob.take 97)).bind (fun z =>
    let chal := (List.range 8).flatMap (fun i => octetsLE 4 (s.rd (F.KEY_CHAL_NONCE i)))
    let out := kdf (octetsBE 48 z) "VN-PROV" (octetsBE 8 Config.factorySerial ++ chal) 352
    (Config.gcmOpen (out / 2 ^ 96) (out % 2 ^ 96) (blob.take 100 ++ blob.drop 148) ((blob.drop 100).take 32)
      ((blob.drop 132).take 16)).map ofOctetsBE)

/-- Slots of a KIND other than NONE. -/
def State.keyedSlots (s : State) : List Nat := (List.range 64).filter (fun k => s.slotKind k != 0)

/-- Every slot's state after derivation: ACTIVE with a KIND and a root, else EMPTY (R453); the engine holds the keys while
PD48 is ON. -/
def State.deriveAll (s : State) : State :=
  if s.rootPresent then
    let l := s.keyedSlots
    let s := (List.range 64).foldl (fun s k => s.wr (F.KEY_SLOT_STAT_STATE k) (if l.contains k then 1 else 0)) s
    (if s.isOn 48 then (s.setKey { s.key with derived := l }).keyCnt 0 l.length else s).showSa
  else s

/-- Derived keys and pending replacements erased (R458). -/
def State.eraseDerived (s : State) : State :=
  let s := s.key.replaces.foldl (fun s e => (s.wr (F.KEY_SLOT_STAT_STATE e.1) 1).setNext e.2.path none) s
  s.setKey { s.key with derived := [], replaces := [] }

/-- A slot's key derived when its configuration is written with a root present (R453). -/
def State.slotWritten (s : State) (k : Nat) : State :=
  if s.slotKind k = 0 then (s.wr (F.KEY_SLOT_STAT_STATE k) 0).showSa
  else if s.rootPresent ∧ s.rd (F.KEY_SLOT_STAT_STATE k) = 0 then
    let s := s.wr (F.KEY_SLOT_STAT_STATE k) 1
    (if s.isOn 48 then (s.setKey { s.key with derived := s.key.derived ++ [k] }).keyCnt 0 1 else s).showSa
  else s

/-- The root destroyed: every slot EMPTY, no derived key, no association of a ring. -/
def State.destroyRoot (s : State) : State :=
  let s := s.eraseDerived
  let s := (s.setKey { s.key with root := none, moves := [] }).wr F.KEY_LC_ROOT_PRESENT 0
  (List.range 64).foldl (fun s k => s.wr (F.KEY_SLOT_STAT_STATE k) 0) s

/-- Without a root both BYPASS_HOLD lines are low and no SA is installed (R461). -/
def State.ringsOut (s : State) : State :=
  let one (s : State) (x : Nat) : State := (s.setHold x false).setPath x { s.path x with join := 0 }
  (one (one s 0) 1).showSa

/-- A fresh challenge (R451): eight free words. -/
def State.refreshChal (s : State) : State :=
  (List.range 8).foldl (fun s i => let (v, s) := s.fresh; s.wr (F.KEY_CHAL_NONCE i) v) s

def State.chal (s : State) : List Nat := (List.range 8).map (fun i => s.rd (F.KEY_CHAL_NONCE i))

/-- The staged octets, the first `n`. -/
def State.staged (s : State) (n : Nat) : List Byte :=
  ((List.range 256).flatMap (fun i => octetsLE 4 (s.key.stage.get (4 * i) 0))).take n

/-- The staging erased after a command that reads it. -/
def State.eraseStage (s : State) : State := s.setKey { s.key with stage := [] }

/-- The anchor table replaced by the anchors of a blob (R450, R451). -/
def State.setAnchors (s : State) (blob : List Byte) (n : Nat) : State :=
  (List.range 8).foldl (fun s a =>
    let o := 148 + 100 * a
    if a < n then
      let s := (s.wr (F.KEY_ANCHOR_STAT_ID a) (ofOctetsLE ((blob.drop o).take 2))).wr (F.KEY_ANCHOR_STAT_USE a)
        (ofOctetsLE ((blob.drop (o + 2)).take 1))
      s.setKey { s.key with anchors := s.key.anchors.set a (ofOctetsBE ((blob.drop (o + 4)).take 96)) }
    else
      let s := (s.wr (F.KEY_ANCHOR_STAT_ID a) 0).wr (F.KEY_ANCHOR_STAT_USE a) 0
      s.setKey { s.key with anchors := s.key.anchors.erase a }) s

/-- The public keys of the anchors of this USE (R446). -/
def State.anchorsOf (s : State) (use : Nat) : List Nat :=
  ((List.range 8).filter (fun a => s.rd (F.KEY_ANCHOR_STAT_USE a) == use)).filterMap (fun a => s.key.anchors.find a)

/-! ## Commands -/

/-- A command's outcome shown in KEY_CMD_STAT. -/
def State.keyDone (s : State) (op st : Nat) : Nat × State :=
  (st, (s.wr F.KEY_CMD_STAT_OP op).wr F.KEY_CMD_STAT_STATUS st)

/-- The root `r` installed. -/
def State.installRoot (s : State) (r : Nat) : State :=
  (s.setKey { s.key with root := some r }).wr F.KEY_LC_ROOT_PRESENT 1

/-- PROVISION (R450, R451, R458). -/
def State.keyProvision (s : State) : Nat × State :=
  let blob := s.staged 948
  let n := ofOctetsLE ((blob.drop 97).take 1)
  let allowed := s.lc == lcBlank || ((s.lc == lcProvisioned || s.lc == lcFielded) && !s.rootPresent)
  if ¬ allowed then (s.eraseStage).keyDone 0x1 stBAD
  else
    let got := if n ≤ 8 then s.unwrapRoot (blob.take (148 + 100 * n)) else none
    let s := (s.eraseStage).refreshChal
    match got with
    | none => s.keyDone 0x1 stBAD
    | some r =>
      let s := (((s.eraseDerived).installRoot r).wr F.KEY_LC_TEST_ROOT 0).setAnchors blob n
      let s := if s.lc = lcBlank then s.wr F.KEY_LC_STATE lcProvisioned else s
      (s.deriveAll).keyDone 0x1 stOK

/-- FIELD (R458). -/
def State.keyField (s : State) : Nat × State :=
  if s.lc = lcProvisioned then ((s.wr F.KEY_LC_STATE lcFielded).eraseDerived.deriveAll).keyDone 0x2 stOK
  else s.keyDone 0x2 stBAD

/-- RETURN (R458). -/
def State.keyReturn (s : State) : Nat × State :=
  if s.lc = lcProvisioned ∨ s.lc = lcFielded then
    ((s.wr F.KEY_LC_STATE lcReturned).destroyRoot.ringsOut).keyDone 0x3 stOK
  else s.keyDone 0x3 stBAD

/-- SCRAP (R458). -/
def State.keyScrap (s : State) : Nat × State :=
  if s.lc = lcScrapped then s.keyDone 0x4 stBAD
  else ((s.wr F.KEY_LC_STATE lcScrapped).destroyRoot.ringsOut).keyDone 0x4 stOK

/-- The staged debug token (R459): SCOPE, MAX_S and the signature's check. -/
def State.token (s : State) : Nat × Nat × Bool :=
  let t := s.staged 104
  (ofOctetsLE (t.take 4), ofOctetsLE ((t.drop 4).take 4), Config.tokenOk t s.chal)

/-- Debug closed (R459): every derived key and the test root are gone; a root provisioned meanwhile stays. -/
def State.closeDebug (s : State) : State :=
  let s := if s.isSet F.KEY_LC_TEST_ROOT then s.destroyRoot else s.eraseDerived
  ((s.wr F.KEY_LC_DEBUG_OPEN 0).wr F.KEY_LC_TEST_ROOT 0).setKey { s.key with debugEnd := none }

/-- DEBUG_OPEN (R459). -/
def State.debugOpen (s : State) : Nat × State :=
  let (_, maxS, ok) := s.token
  let s := s.eraseStage
  if (s.lc = lcBlank ∨ s.lc = lcReturned) ∧ ¬ s.isSet F.KEY_LC_DEBUG_OPEN ∧ ok then
    let s := (s.eraseDerived).installRoot Config.testRoot
    let s := (s.wr F.KEY_LC_DEBUG_OPEN 1).wr F.KEY_LC_TEST_ROOT 1
    ((s.setKey { s.key with debugEnd := some (s.opSec + maxS) }).deriveAll).keyDone 0x5 stOK
  else s.keyDone 0x5 stBAD

/-- DEBUG_CLOSE (R459). -/
def State.debugClose (s : State) : Nat × State :=
  if s.isSet F.KEY_LC_DEBUG_OPEN then (s.closeDebug).keyDone 0x6 stOK else s.keyDone 0x6 stBAD

/-- DEBUG_EXPIRY (R459). -/
def State.debugExpiry (s : State) : State :=
  match s.key.debugEnd with
  | some t => if s.isSet F.KEY_LC_DEBUG_OPEN ∧ t ≤ s.opSec then s.closeDebug else s
  | none => s

/-- REFURBISH (R458, R459): a token of SCOPE 0x2. -/
def State.keyRefurbish (s : State) : Nat × State :=
  let (scope, _, ok) := s.token
  let s := s.eraseStage
  if s.lc = lcReturned ∧ ok ∧ scope = 2 ∧ s.rd F.KEY_LC_REFURB < 3 then
    let s := ((s.wr F.KEY_LC_STATE lcBlank).inc F.KEY_LC_REFURB).eraseDerived
    (s.setAnchors [] 0).keyDone 0x9 stOK
  else s.keyDone 0x9 stBAD

/-! ## Ring key replacement (R454, R455) -/

/-- The KCV of RING slot `k` at generation `gen` (R455): the first 8 octets of the HMAC under the SAK, the first 256 bits of the
slot's key (R448). -/
def State.kcvOf (s : State) (k gen : Nat) : Nat :=
  (Config.hmacSha256 (octetsBE 32 (s.slotKey k gen / 2 ^ 96)) (ascii "VN-KCV" ++ octetsBE 2 gen)).toNat / 2 ^ 192

/-- A KEY_CHECK of slot `k` sent to the link partner at port `w` of path `x`. -/
def State.sendKeyCheck (s : State) (k x w : Nat) : State :=
  let gen := (s.rd (F.KEY_SLOT_STAT_GEN k) + 1) % 65536
  let dst := s.rd F.CAPO_RING_ID_RING * 64 + s.rd (F.RING_PORT_STAT_NEIGHBOUR x w)
  let pl := o1 0x50 ++ o1 x ++ octetsBE 2 gen ++ octetsBE 8 (s.kcvOf k gen)
  let f : RingFrame := ⟨0, 0, ringType, 1, 0, x == 1, false, .ofNat 14 dst, 0, 0, 0, 0, 2688, pl⟩
  (s.pegPut 0 1046528 false (ringOctets f)).2

/-- KEY_CHECKs to the partners that have not verified. -/
def State.sendChecks (s : State) (k : Nat) (r : KeyReplace) : State :=
  let s := if r.east then s else s.sendKeyCheck k r.path 0
  if r.west then s else s.sendKeyCheck k r.path 1

/-- Port `p` sends under the next AN from now on (step 3 of R454). -/
def State.sendNext (s : State) (p : Nat) : State :=
  let r := s.portSt p
  match r.next with
  | some n => s.setPortSt p { r with next := some { n with txSince := some (n.txSince.getD s.sys.refTick) } }
  | none => s

/-- REPLACE (R454, R462): RING slots in ACTIVE only. -/
def State.keyReplace (s : State) (k : Nat) : Nat × State :=
  if s.slotKind k = 2 ∧ s.rd (F.KEY_SLOT_STAT_STATE k) = 1 then
    let r : KeyReplace := ⟨bits (s.rd (F.KEY_SLOT_CFG_CTX k)) 0 1, false, false⟩
    let s := (s.wr (F.KEY_SLOT_STAT_STATE k) 2).setKey { s.key with replaces := s.key.replaces.set k r }
    (((s.setNext r.path (some NextSa.start)).keyCnt 0 1).sendChecks k r).keyDone 0x7 stOK
  else s.keyDone 0x7 stBAD

/-- KEY_CHECK_RECEIVED (R454, R455): a check of a GEN that is not pending is discarded. -/
def State.keyCheck (s : State) (x pos gen kcv : Nat) : State :=
  match s.key.replaces.find? (fun e => e.2.path == x) with
  | none => s
  | some (k, r) =>
    let pend := (s.rd (F.KEY_SLOT_STAT_GEN k) + 1) % 65536
    if gen ≠ pend ∨ kcv ≠ s.kcvOf k pend then s
    else
      let e := r.east || s.rd (F.RING_PORT_STAT_NEIGHBOUR x 0) == pos
      let w := r.west || s.rd (F.RING_PORT_STAT_NEIGHBOUR x 1) == pos
      let n := b2n (e && !r.east) + b2n (w && !r.west)
      let s := if e then s.sendNext (2 * x) else s
      let s := if w then s.sendNext (2 * x + 1) else s
      (s.setKey { s.key with replaces := s.key.replaces.set k { r with east := e, west := w } }).keyCnt 1 n

/-- KEY_CHECK_RESEND (R454). -/
def State.keyResend (s : State) (k sinceMs : Nat) : State :=
  match s.key.replaces.find k with
  | some r => if 1000 ≤ sinceMs then s.sendChecks k r else s
  | none => s

/-- REPLACE_COMPLETE (R454): both ports have transmitted and received under the new key for 1 s. -/
def State.replaceComplete (s : State) (k : Nat) : State :=
  match s.key.replaces.find k with
  | some r =>
    if r.east ∧ r.west ∧ s.nextProven r.path then
      (((s.nextAn r.path).inc (F.KEY_SLOT_STAT_GEN k)).wr (F.KEY_SLOT_STAT_STATE k) 1).setKey
        { s.key with replaces := s.key.replaces.erase k }
    else s
  | none => s

/-- REPLACE_TIMEOUT (R454). -/
def State.replaceTimeout (s : State) (k sec : Nat) : State :=
  match s.key.replaces.find k with
  | some r =>
    if 60 ≤ sec ∧ ¬ (r.east ∧ r.west) then
      ((((s.setNext r.path none).wr (F.KEY_SLOT_STAT_STATE k) 1).setKey
        { s.key with replaces := s.key.replaces.erase k }).keyCnt 2 1).keyEvent
    else s
  | none => s

/-! ## Staging and tamper -/

/-- KEY_STAGE_DATA (R450). -/
def State.keyStage (s : State) (v : Nat) : State :=
  let o := s.rd F.KEY_STAGE_PTR_OFFSET
  (s.setKey { s.key with stage := s.key.stage.set o v }).wr F.KEY_STAGE_PTR_OFFSET (o + 4)

/-- Zeroisation (R460): the root and the slot table overwritten, the engines' keys erased; a REPLACE under way ends BAD
(R462). -/
def State.zeroise (s : State) : State :=
  let s := if s.key.replaces ≠ [] ∧ s.rd F.KEY_CMD_STAT_OP = 7 then s.wr F.KEY_CMD_STAT_STATUS stBAD else s
  let s := s.destroyRoot.ringsOut
  let s := (List.range 64).foldl (fun s k =>
    (((s.wr (F.KEY_SLOT_CFG_KIND k) 0).wr (F.KEY_SLOT_CFG_CTX k) 0).wr (F.KEY_SLOT_CFG_NEXT k) 0).wr
      (F.KEY_SLOT_STAT_GEN k) 0) s
  ((s.wr F.KEY_TAMPER_ZEROISED 1).incSat F.KEY_TAMPER_CNT_ZEROISE).keyEvent

/-- TAMPER_EVENT (R460). -/
def State.tamper (s : State) (k : TamperKind) : State :=
  if ¬ s.islandOn then s
  else
    let s := match k with
      | .lid => (s.wr F.KEY_TAMPER_LID 1).incSat F.KEY_TAMPER_CNT_LID
      | .mesh => (s.wr F.KEY_TAMPER_MESH 1).incSat F.KEY_TAMPER_CNT_MESH
      | .door => (s.wr F.KEY_TAMPER_DOOR 1).incSat F.KEY_TAMPER_CNT_DOOR
    let hard := match k with
      | .door => s.lc == lcFielded && s.isSet F.KEY_TAMPER_CFG_DOOR_ACTION
      | _ => s.lc == lcProvisioned || s.lc == lcFielded
    let s := if hard then s.zeroise else s
    s.recTrigger 0x0005 (s.word F.KEY_TAMPER_LID.addr : Int) []

/-- PD48 leaves ON: the engine's keys are erased (R462). -/
def State.cryptoLost (s : State) : State := s.setKey { s.key with derived := [] }

/-- PD48 is ON again: the keys are derived anew. -/
def State.cryptoBack (s : State) : State :=
  if s.rootPresent then
    let l := s.keyedSlots
    ((s.setKey { s.key with derived := l }).keyCnt 0 l.length).showSa
  else s

/-- What a reset does to the keystore (R451, R459, R462). -/
def State.keyReset (s : State) : State :=
  let s := if s.isSet F.KEY_LC_DEBUG_OPEN then s.closeDebug else s
  (s.setKey { s.key with derived := [], stage := [] }).refreshChal

end Sys2Proof.Machine
end

