-- ==== Sys2Proof/Machine/Restr.lean ====
section
/-!
DEFINITION. Machine/Restr.lean: restringing (R463 to R485): slot headers, feeding and forwarding of image blocks, arming,
the trial, and node images. The module resets these lead to are in Machine/Start.lean.
-/
namespace Sys2Proof.Machine

def State.setRestr (s : State) (r : RestrState) : State := { s with restr := r }

/-! ## Slot headers (R463 to R466) -/

def slotBase (k : Nat) : Nat := 0x80000000 + 0x08000000 * k

def SlotHdr.zero : SlotHdr := ⟨0, 0, 0, 0, 0, 0, 0, 0, 0⟩

def State.hdr (s : State) (k : Nat) : SlotHdr := s.restr.hdrs.getD k SlotHdr.zero

/-- The inactive slot: the one that does not hold the running firmware. -/
def State.inactive (s : State) : Nat := 1 - s.restr.running

/-- One octet of the CRC-32 of IEEE 802.3, reflected. -/
def crc32Bits : Nat → Nat → Nat
  | 0, c => c
  | n + 1, c => crc32Bits n (if c % 2 = 1 then (c / 2) ^^^ 0xEDB88320 else c / 2)

/-- The CRC-32 of R143. -/
def crc32 (l : List Byte) : Nat := (l.foldl (fun c b => crc32Bits 8 (c ^^^ b.toNat)) 0xFFFFFFFF) ^^^ 0xFFFFFFFF

/-- The 88 octets of a header (R465). -/
def hdrOctets (h : SlotHdr) : List Byte :=
  let l := octetsLE 4 0x52545352 ++ octetsLE 4 h.copySeq ++ o1 h.state ++ o1 h.tried ++ octetsLE 2 0 ++ octetsLE 4 h.gen ++
    octetsLE 4 h.imageId ++ octetsLE 4 h.fwVersion ++ o1 h.area ++ octetsLE 3 0 ++ octetsLE 8 h.actSec ++ octetsBE 48 h.hash
  l ++ octetsLE 4 (crc32 l)

/-- The slot registers brought up to date with the headers. -/
def State.showSlots (s : State) : State :=
  (List.range 2).foldl (fun s k =>
    let h := s.hdr k
    let s := (s.wr (F.RESTR_SLOT_STAT_GEN k) h.gen).wr (F.RESTR_SLOT_STAT_TRIED k) h.tried
    let s := (s.wrB (F.RESTR_SLOT_STAT_RUNNING k) (s.restr.running == k)).wr (F.RESTR_SLOT_STAT_STATE k) h.state
    s.wr (F.RESTR_SLOT_ID_IMAGE_ID k) (if h.state = 0 then 0 else h.imageId)) s

/-- A header rewritten (R465): the copy with the lower COPY_SEQ takes the next one. -/
def State.wrHdr (s : State) (k : Nat) (h : SlotHdr) : State :=
  let h := { h with copySeq := (s.hdr k).copySeq + 1 }
  let s := s.wrOctets (slotBase k + 0x1000 * (h.copySeq % 2)) (hdrOctets h)
  (s.setRestr { s.restr with hdrs := s.restr.hdrs.set k h }).showSlots

/-- The state of slot `k` rewritten. -/
def State.wrSlotState (s : State) (k st : Nat) : State := s.wrHdr k { s.hdr k with state := st }

/-- The flash can be written: PD44 is ON and no eject preparation or supply stop forbids it (R80, R514). -/
def State.flashOn (s : State) : Bool := s.isOn 44 && !s.slot.noFlashWrite

/-! ## Blocks -/

/-- Base address of what target `t` stores: the inactive slot, or a node image entry (R463). -/
def State.targetBase (s : State) (t : Nat) : Nat :=
  if t = 0 then slotBase s.inactive else 0x90000000 + 0x04000000 * (t - 1)

/-- Address of block `b` of target `t` (R464; a node image holds its manifest block first, R480). -/
def State.blockAddr (s : State) (t b : Nat) : Nat :=
  if t = 0 then
    if b = 0xFFFE then s.targetBase 0 + 0x10000
    else if b = 0xFFFF then s.targetBase 0 + 0x20000
    else s.targetBase 0 + 0x30000 + 0x10000 * b
  else if b = 0xFFFF then s.targetBase t
  else s.targetBase t + 0x10000 * (b + 1)

def State.tgt (s : State) (t : Nat) : FeedTarget := s.restr.targets.get t FeedTarget.empty

def State.setTgt (s : State) (t : Nat) (x : FeedTarget) : State :=
  s.setRestr { s.restr with targets := s.restr.targets.set t x }

/-- The manifest octets stored of target `t`. -/
def State.manifest (s : State) (t : Nat) : List Byte :=
  if t = 0 then s.mem.readN (s.blockAddr 0 0xFFFE) 131072 else s.mem.readN (s.blockAddr t 0xFFFF) 65536

/-- The manifest octets that slot `k` holds (R464). -/
def State.slotManifest (s : State) (k : Nat) : List Byte := s.mem.readN (slotBase k + 0x10000) 131072

/-- Little-endian field of a manifest. -/
def mf (m : List Byte) (o n : Nat) : Nat := ofOctetsLE ((m.drop o).take n)

/-- A firmware manifest verifies (R467). -/
def manifestOk (m : List Byte) : Bool :=
  let n := mf m 6 2
  mf m 0 4 == 0x54534E4D && mf m 4 2 == 1 && decide (1 ≤ n ∧ n ≤ 2045) && mf m 8 4 != 0 &&
  decide (mf m 16 4 ≤ 65536 * n) && decide (mf m 28 4 ≤ 393216) && Config.manifestSigOk m

/-- Number of blocks of target `t`: 0 before the manifest verifies (R473). -/
def State.nBlocks (s : State) (t : Nat) : Nat :=
  if (s.tgt t).ok then (if t = 0 then mf (s.manifest 0) 6 2 else min 1023 (Config.nimgBlocks (s.manifest t))) else 0

/-- Length of the image of target `t`. -/
def State.imageLen (s : State) (t : Nat) : Nat :=
  if t = 0 then mf (s.manifest 0) 16 4 else Config.nimgLen (s.manifest t)

/-- Length of block `b` of target `t`: the last image block holds what remains. -/
def State.blockLen (s : State) (t b : Nat) : Nat :=
  if 0xFFFE ≤ b then 65536
  else
    let n := s.nBlocks t
    if b + 1 = n then s.imageLen t - 65536 * (n - 1) else 65536

/-- The SHA-384 the manifest gives block `b`. -/
def State.blockHash (s : State) (t b : Nat) : Nat :=
  if t = 0 then ofOctetsBE ((s.manifest 0).drop (256 + 48 * b) |>.take 48) else Config.nimgHash (s.manifest t) b

/-- State of target `t`'s firmware slot, or 1 for an entry that loads. -/
def State.tgtState (s : State) (t : Nat) : Nat := if t = 0 then (s.hdr s.inactive).state else (s.tgt t).state

/-- Target `t` erased. -/
def State.eraseTgt (s : State) (t : Nat) : State :=
  let n := if t = 0 then 0x08000000 else 0x04000000
  let s := { s with mem := s.mem.clear (s.targetBase t) n }
  let s := s.setTgt t { FeedTarget.empty with forwarded := (s.tgt t).forwarded }
  if t = 0 then s.wrHdr s.inactive { SlotHdr.zero with copySeq := (s.hdr s.inactive).copySeq } else s

/-- Target `t` loads image `id` from now on: another image is erased first (R469). -/
def State.beginLoad (s : State) (t id : Nat) : State :=
  let s := if s.tgtState t ≠ 0 ∧ (s.tgt t).imageId ≠ id then s.eraseTgt t else s
  let s := s.setTgt t { s.tgt t with state := 1, imageId := id }
  if t = 0 ∧ s.tgtState 0 ≠ 1 then s.wrSlotState s.inactive 1 else s

/-- Every block of target `t` is stored: COMPLETE, and the header takes what the manifest says (R468). -/
def State.completeTgt (s : State) (t : Nat) : State :=
  let n := s.nBlocks t
  if 0 < n ∧ (s.tgt t).blocks % 2 ^ n = 2 ^ n - 1 then
    let s := s.setTgt t { s.tgt t with state := 2 }
    if t = 0 then
      let m := s.manifest 0
      s.wrHdr s.inactive { s.hdr s.inactive with
        state := 2, imageId := mf m 8 4, fwVersion := mf m 12 4, hash := Config.sha384 m }
    else s
  else s

/-- The event of a block that could not be written (R484). -/
def State.flashEvent (s : State) : State := s.raiseEvent 0x00F0 (unitOf bRESTR) (o1 (unitOf bRESTR))

/-- A fragment frame of 8,192 octets at most (R470), sent to the next member of the active path through class 3. -/
def State.sendFragment (s : State) (dst t b id frag : Nat) (data : List Byte) : State :=
  let pl := o1 0x70 ++ o1 t ++ octetsBE 2 b ++ octetsBE 4 id ++ o1 frag ++ octetsBE 3 0 ++ octetsBE 4 data.length ++ data
  let f : RingFrame := ⟨0, 0, ringType, 1, 3, false, false, .ofNat 14 dst, 0, 0, 0, 0, 2624, pl⟩
  (s.pegPut 31 1046531 false (ringOctets f)).2

/-- The module ID of the next member in the data direction, and of the previous one. -/
def State.nextMember (s : State) : Option Nat :=
  s.activePath.map (fun x => s.rd F.CAPO_RING_ID_RING * 64 + s.rd (F.RING_PORT_STAT_NEIGHBOUR x (txPort x % 2)))
def State.prevMember (s : State) : Option Nat :=
  s.activePath.map (fun x => s.rd F.CAPO_RING_ID_RING * 64 + s.rd (F.RING_PORT_STAT_NEIGHBOUR x (rxPort x % 2)))

/-- A block sent as 8 fragments to module `dst`. -/
def State.sendBlock (s : State) (dst t b id : Nat) (data : List Byte) : State :=
  (List.range 8).foldl (fun s i => s.sendFragment dst t b id i ((data.drop (8192 * i)).take 8192)) s

/-- A stored block forwarded to the next member, unless that is the feed's source (R470). -/
def State.forwardBlock (s : State) (source t b id : Nat) (data : List Byte) : State :=
  match s.nextMember with
  | some d =>
    if d = source ∨ d = s.ringId then s
    else (s.sendBlock d t b id data).setTgt t { s.tgt t with forwarded := ((s.tgt t).forwarded + 1) % 2 ^ 32 }
  | none => s

/-- The manifest of a node image verifies under an anchor of USE 0x3 (R446, R480). -/
def State.nimgVerifies (s : State) (m : List Byte) : Bool := (s.anchorsOf 3).any (fun a => Config.nimgOk a m)

/-- A whole block `b` of target `t` checked and stored (R468, R480); `source` fed it. Answers OK or BAD. -/
def State.storeBlock (s : State) (source t b : Nat) (data : List Byte) (flashFails : Nat) : Nat × State :=
  if ¬ s.flashOn then (stBAD, s)
  else if 3 ≤ flashFails then (stBAD, s.flashEvent)
  else if t = 0 ∧ 0xFFFE ≤ b then
    let s := if b = 0xFFFE then s.beginLoad 0 (mf data 8 4) else s.beginLoad 0 (s.tgt 0).imageId
    let s := s.wrOctets (s.blockAddr 0 b) data
    let s := s.setTgt 0 { s.tgt 0 with manifest := setBit (s.tgt 0).manifest (b - 0xFFFE) true }
    if (s.tgt 0).manifest = 3 ∧ ¬ (s.tgt 0).ok then
      if manifestOk (s.manifest 0) then
        (stOK, (s.setTgt 0 { s.tgt 0 with ok := true, blocks := 0 }).forwardBlock source 0 b (s.tgt 0).imageId data)
      else (stBAD, s.setTgt 0 { s.tgt 0 with manifest := 0 })
    else (stOK, s.forwardBlock source 0 b (s.tgt 0).imageId data)
  else if 0 < t ∧ b = 0xFFFF then
    if s.nimgVerifies data then
      let s := s.beginLoad t (Config.nimgId data)
      let s := (s.wrOctets (s.blockAddr t b) data).setTgt t { s.tgt t with manifest := 3, ok := true }
      (stOK, s.forwardBlock source t b (s.tgt t).imageId data)
    else (stBAD, s)
  else if (s.tgt t).ok ∧ b < s.nBlocks t ∧ Config.sha384 data = s.blockHash t b then
    let s := s.wrOctets (s.blockAddr t b) data
    let s := s.setTgt t { s.tgt t with blocks := setBit (s.tgt t).blocks b true }
    let s := s.forwardBlock source t b (s.tgt t).imageId data
    (stOK, if s.tgtState t = 1 then s.completeTgt t else s)
  else (stBAD, s)

/-! ## Feeding through HCP (R469) -/

/-- A feed into target `t` is allowed: an entry, or a slot in a state R469 lists. -/
def State.feedAllowed (s : State) (t : Nat) : Bool :=
  if t = 0 then [0, 1, 2, 6, 7, 8].contains (s.tgtState 0) else true

/-- RESTR_FEED_CTRL. -/
def State.feedCtrl (s : State) (t b : Nat) : Nat × State :=
  let s := s.wr F.RESTR_FEED_STAT_OCTETS 0
  if s.feedAllowed t then (stOK, (s.setRestr { s.restr with feed := some ⟨t, b, []⟩ }).wr F.RESTR_FEED_STAT_STATUS stOK)
  else (stBAD, (s.setRestr { s.restr with feed := none }).wr F.RESTR_FEED_STAT_STATUS stBAD)

/-- RESTR_FEED_DATA: four octets; the block ends at 65,536 or at the last block's length. -/
def State.feedData (s : State) (v flashFails : Nat) : State :=
  match s.restr.feed with
  | none => s
  | some fd =>
    let fd := { fd with octets := (octetsLE 4 v).reverse ++ fd.octets }
    let len := s.blockLen fd.target fd.block
    let n := fd.octets.length
    let s := s.wr F.RESTR_FEED_STAT_OCTETS n
    if len ≤ n then
      let s := s.setRestr { s.restr with feed := none }
      let (st, s) := s.storeBlock s.ringId fd.target fd.block (fd.octets.reverse.take len) flashFails
      s.wr F.RESTR_FEED_STAT_STATUS st
    else s.setRestr { s.restr with feed := some fd }

/-! ## The ring (R470 to R472) -/

/-- Target `t` takes up image `id` from a fragment: it loads it, or loads nothing yet and may begin (R472). -/
def State.fragWanted (s : State) (t id : Nat) : Bool :=
  let st := s.tgtState t
  let x := s.tgt t
  if st = 1 then x.imageId == id
  else if t = 0 then [0, 2, 6, 7, 8].contains st && (st == 0 || x.imageId != id)
  else st == 0 || x.imageId != id

/-- The block is stored already. -/
def State.hasBlock (s : State) (t b : Nat) : Bool :=
  if 0xFFFE ≤ b then bitAt (s.tgt t).manifest (b - 0xFFFE) else bitAt (s.tgt t).blocks b

/-- A fragment put into its block: at most 4 blocks are assembled at once (R471). -/
def addFrag (l : List Partial) (b i : Nat) (data : List Byte) : List Partial :=
  if l.any (fun p => p.block == b) then
    l.map (fun p => if p.block = b then { p with frags := p.frags.set i data } else p)
  else if l.length < 4 then l ++ [⟨b, [(i, data)]⟩]
  else l

/-- FRAGMENT (R470 to R472): forwarded to the next member unless that is the source, and assembled; a whole block is
checked and stored. -/
def State.fragment (s : State) (source t b id i : Nat) (data : List Byte) (flashFails : Nat) : State :=
  if ¬ s.isOn 44 then s
  else
    let want := s.fragWanted t id && (0xFFFE ≤ b || ((s.tgt t).ok && (s.tgt t).imageId == id))
    let s := match s.nextMember with
      | some d => if d = source ∨ want then s else s.sendFragment d t b id i data
      | none => s
    if ¬ want ∨ (s.hasBlock t b ∧ (s.tgt t).imageId = id) then s
    else
      let s := if s.tgtState t = 1 then s else s.beginLoad t id
      let s := s.setTgt t { s.tgt t with partials := addFrag (s.tgt t).partials b i data }
      match (s.tgt t).partials.find? (fun p => p.block == b) with
      | none => s
      | some p =>
        let whole := (p.frags.map (fun e => e.2)).flatten
        if p.frags.length = 8 ∨ s.blockLen t b ≤ whole.length then
          let s := s.setTgt t { s.tgt t with partials := (s.tgt t).partials.filter (fun q => q.block != b) }
          (s.storeBlock source t b whole flashFails).2
        else s

/-- The slot whose blocks answer a WANT for image `id` (R472). -/
def State.wantSlot (s : State) (id : Nat) : Option Nat :=
  (List.range 2).find? (fun k => [2, 3, 4, 5, 7, 8].contains (s.hdr k).state && (s.hdr k).imageId == id)

/-- Block `b` of the image that slot `k` holds whole. -/
def State.slotBlock (s : State) (k b : Nat) : Option (List Byte) :=
  let m := s.slotManifest k
  let n := mf m 6 2
  if b = 0xFFFE then some (m.take 65536)
  else if b = 0xFFFF then some (m.drop 65536)
  else if b < n then
    some (s.mem.readN (slotBase k + 0x30000 + 0x10000 * b) (if b + 1 = n then mf m 16 4 - 65536 * (n - 1) else 65536))
  else none

/-- Block `b` of target `t`'s image `id` as this member holds it, from a slot or an entry that R472 lets answer. -/
def State.wanted (s : State) (t id b : Nat) : Option (List Byte) :=
  if t = 0 then
    match s.wantSlot id with
    | some k => s.slotBlock k b
    | none => none
  else if (s.tgt t).state = 2 ∧ (s.tgt t).imageId = id ∧ s.hasBlock t b then
    some (s.mem.readN (s.blockAddr t b) (s.blockLen t b))
  else none

/-- WANT (R471, R472): every named block this member holds is sent. -/
def State.want (s : State) (src t id : Nat) (blocks : List Nat) : State :=
  if s.isOn 44 then
    (blocks.take 32).foldl (fun s b =>
      match s.wanted t id b with
      | some l => s.sendBlock src t b id l
      | none => s) s
  else s

/-- The missing blocks of target `t`, the manifest first, at most 32. -/
def State.missing (s : State) (t : Nat) : List Nat :=
  let m := (if t = 0 then [0xFFFE, 0xFFFF] else [0xFFFF]).filter (fun b => !s.hasBlock t b)
  (m ++ (List.range (s.nBlocks t)).filter (fun b => !s.hasBlock t b)).take 32

/-- WANT_SEND (R471). -/
def State.wantSend (s : State) (t sinceMs : Nat) : State :=
  match s.prevMember with
  | none => s
  | some d =>
    let l := s.missing t
    if s.isOn 44 ∧ s.tgtState t = 1 ∧ 2000 ≤ sinceMs ∧ l ≠ [] then
      let pl := o1 0x71 ++ o1 t ++ octetsBE 2 0 ++ octetsBE 4 (s.tgt t).imageId ++ o1 l.length ++ octetsBE 3 0 ++
        octetsBE 4 0 ++ l.flatMap (octetsBE 2)
      let f : RingFrame := ⟨0, 0, ringType, 1, 3, false, false, .ofNat 14 d, 0, 0, 0, 0, 2624, pl⟩
      (s.pegPut 31 1046531 false (ringOctets f)).2
    else s

/-- PARTIAL_BLOCK_DISCARD (R471). -/
def State.partialDiscard (s : State) (t b idleS : Nat) : State :=
  if 10 ≤ idleS then s.setTgt t { s.tgt t with partials := (s.tgt t).partials.filter (fun p => p.block != b) } else s

/-! ## The ledger of blocks (R473) -/

/-- N_BLOCKS, VERIFIED, ASSEMBLING, MISSING, blocks forwarded. -/
def State.restrTerms (s : State) (t : Nat) : List Nat :=
  let n := s.nBlocks t
  let x := s.tgt t
  let v := popCount n x.blocks
  let a := if n = 0 then 0 else (x.partials.filter (fun p => decide (p.block < n) && !bitAt x.blocks p.block)).length
  [n, v, a, n - v - a, x.forwarded]

/-- The terms of target `t` latched for the requester. -/
def State.restrAuditOf (s : State) (req t : Nat) : State :=
  let l := s.restrTerms t
  ((List.range 5).foldl (fun s i => s.wrReq req (F.RESTR_AUDIT_VALUE i) (l.getD i 0)) s).inc F.RESTR_AUDIT_CTRL_SNAP_CNT

/-- RESTR_AUDIT_CTRL.SNAP. -/
def State.restrAudit (s : State) (req : Nat) : State := s.restrAuditOf req (s.rdReq req F.RESTR_AUDIT_CTRL_TARGET)

/-- RESTR_BITMAP word `w` for the requester. -/
def State.restrBitmap (s : State) (req w : Nat) : Nat :=
  let t := s.rdReq req F.RESTR_AUDIT_CTRL_TARGET
  bits ((s.tgt t).blocks % 2 ^ s.nBlocks t) (32 * w) 32

/-! ## RESTR_CMD (R474 to R479) -/

def State.restrDone (s : State) (op st : Nat) : Nat × State :=
  (st, (s.wr F.RESTR_CMD_STAT_OP op).wr F.RESTR_CMD_STAT_STATUS st)

/-- The slot in STATE CONFIRMED. -/
def State.confirmedSlot (s : State) : Option Nat := (List.range 2).find? (fun k => (s.hdr k).state == 5)

/-- ARM (R474). -/
def State.restrArm (s : State) : Nat × State :=
  let k := s.inactive
  if s.flashOn ∧ [2, 7, 8].contains (s.hdr k).state then
    let area := match s.confirmedSlot with
      | some c => 1 - (s.hdr c).area
      | none => 0
    (s.wrHdr k { s.hdr k with
      state := 3, area := area, actSec := s.rd64 F.RESTR_ACT_TIME_LO_SEC F.RESTR_ACT_TIME_HI_SEC }).restrDone 0x1 stOK
  else s.restrDone 0x1 stBAD

/-- DISARM (R474). -/
def State.restrDisarm (s : State) : Nat × State :=
  if s.flashOn ∧ (s.hdr s.inactive).state = 3 then (s.wrSlotState s.inactive 2).restrDone 0x2 stOK
  else s.restrDone 0x2 stBAD

/-- CONFIRM (R479): the version pointer switch. -/
def State.restrConfirm (s : State) : Nat × State :=
  let k := s.restr.running
  if s.flashOn ∧ (s.hdr k).state = 4 then
    let prev := s.confirmedSlot
    let gen := match prev with
      | some c => (s.hdr c).gen + 1
      | none => 1
    let s := s.wrHdr k { s.hdr k with state := 5, gen := gen }
    let s := match prev with
      | some c => s.wrSlotState c 6
      | none => s
    ((s.setRestr { s.restr with window := none }).wr F.RESTR_CONFIRM_LEFT_MIN 0).restrDone 0x3 stOK
  else s.restrDone 0x3 stBAD

/-- Every block of the inactive slot matches its manifest. -/
def State.allBlocksOk (s : State) : Bool :=
  let m := s.manifest 0
  let n := mf m 6 2
  let len := mf m 16 4
  (List.range n).all (fun b =>
    let l := if b + 1 = n then len - 65536 * (n - 1) else 65536
    Config.sha384 (s.mem.readN (s.blockAddr 0 b) l) == ofOctetsBE ((m.drop (256 + 48 * b)).take 48))

/-- VERIFY (R469). -/
def State.restrVerify (s : State) : Nat × State :=
  if s.flashOn ∧ [1, 2, 6, 7, 8].contains (s.tgtState 0) then
    let m := s.manifest 0
    if manifestOk m ∧ s.allBlocksOk then
      let n := mf m 6 2
      let s := s.setTgt 0 { s.tgt 0 with state := 1, imageId := mf m 8 4, manifest := 3, ok := true, blocks := 2 ^ n - 1 }
      let s := if s.tgtState 0 = 1 then s.completeTgt 0 else s.setTgt 0 { s.tgt 0 with state := 2 }
      s.restrDone 0x4 stOK
    else (if s.tgtState 0 = 1 then s else s.wrSlotState s.inactive 1).restrDone 0x4 stBAD
  else s.restrDone 0x4 stBAD

/-- ERASE (R466, R484): the inactive slot, unless it holds the confirmed firmware of a trial. -/
def State.restrErase (s : State) : Nat × State :=
  if s.flashOn ∧ (s.hdr s.inactive).state ≠ 5 then (s.eraseTgt 0).restrDone 0x5 stOK
  else s.restrDone 0x5 stBAD

/-- The end of a trial recorded in RESTR_FALLBACK and by the recorder's trigger. -/
def State.trialEnded (s : State) (reason : Nat) : State :=
  ((s.incSat F.RESTR_FALLBACK_COUNT).wr F.RESTR_FALLBACK_REASON reason).recTrigger 0x0080 (reason : Int) []

/-- The activation of the armed slot fires now (R474). -/
def State.activationDue (s : State) : Bool :=
  (s.hdr s.inactive).state == 3 && s.rd F.SYS_START_STAT_PHASE == 4 && s.tb0Valid &&
  decide ((s.hdr s.inactive).actSec ≤ s.tb0Sec) && !s.isSet F.SLOT_STATUS_EJECT_ACTIVE && s.flashOn

/-- The slot the boot code names (R476): a TRIAL slot with TRIED 0, rewritten with TRIED 1; a TRIAL slot with TRIED 1 is
rewritten as UNCONFIRMED; else the CONFIRMED slot. A named slot that fails its check gives way to the other one; none is
left when both fail. -/
def State.bootSelect (s : State) (okA okB : Bool) : Option Nat × State :=
  let pass (k : Nat) : Bool := if k = 0 then okA else okB
  let s := (List.range 2).foldl (fun s k =>
    let h := s.hdr k
    if h.state = 4 ∧ h.tried = 1 then (s.wrSlotState k 8).trialEnded 3 else s) s
  let trial := (List.range 2).find? (fun k => (s.hdr k).state == 4 && (s.hdr k).tried == 0)
  let s := match trial with
    | some k => s.wrHdr k { s.hdr k with tried := 1 }
    | none => s
  let named := match trial with
    | some k => some k
    | none => s.confirmedSlot
  match named with
  | none => (none, s)
  | some k =>
    if pass k then (some k, s)
    else
      let s := if (s.hdr k).state = 4 then (s.wrSlotState k 8).trialEnded 4 else s
      if pass (1 - k) ∧ (s.hdr (1 - k)).state ≠ 0 then (some (1 - k), s) else (none, s)

/-- What target 0 holds when slot `k` becomes the inactive one: the blocks of the image its header names. -/
def State.slotTarget (s : State) (k : Nat) : FeedTarget :=
  let h := s.hdr k
  let fresh : FeedTarget := { FeedTarget.empty with forwarded := (s.tgt 0).forwarded }
  if h.state ≤ 1 then { fresh with state := h.state }
  else { fresh with state := 2, imageId := h.imageId, manifest := 3, ok := true,
                    blocks := 2 ^ mf (s.slotManifest k) 6 2 - 1 }

/-- The contents of the settings area in use. -/
def State.areaNow (s : State) : SettingsArea := ⟨s.sys.copy, s.sys.plans, s.sound.stored⟩

/-- Settings area `a` in use (R463). -/
def State.useArea (s : State) (a : Nat) : State :=
  if a = s.restr.area then s
  else
    let k := s.restr.kept
    { s with
      restr := { s.restr with area := a, kept := s.areaNow }
      sys := { s.sys with copy := k.copy, plans := k.plans }
      sound := { s.sound with stored := k.baselines } }

/-- The end of migrate() (R477): the converted settings are in the running slot's own area, and the other area keeps the settings
they came from. -/
def State.migrated (s : State) : State :=
  let a := (s.hdr s.restr.running).area
  if a = s.restr.area then s else s.setRestr { s.restr with area := a, kept := s.areaNow }

/-- The settings area the firmware of slot `k` starts from: its own, and in a trial that of the confirmed slot (R474, R477). -/
def State.startArea (s : State) (k : Nat) : Nat :=
  if (s.hdr k).state = 4 then (match s.confirmedSlot with
    | some c => (s.hdr c).area
    | none => s.restr.area)
  else (s.hdr k).area

/-- The firmware of slot `k` runs from its settings; the other slot is the inactive one. -/
def State.startSlot (s : State) (k : Nat) : State :=
  let s := if s.restr.running = k then s else s.setTgt 0 (s.slotTarget (1 - k))
  let s := s.useArea (s.startArea k)
  ((s.setRestr { s.restr with running := k }).wr F.SYS_START_STAT_FW_SLOT k).showSlots

/-- The confirm window opens when a trial start reaches full service (R479), for as long as CONFIRM_MIN says then. -/
def State.openWindow (s : State) : State :=
  if (s.hdr s.restr.running).state = 4 then
    let m := s.rd F.RESTR_CONFIRM_CONFIRM_MIN
    (s.setRestr { s.restr with window := some (s.opSec, m) }).wr F.RESTR_CONFIRM_LEFT_MIN m
  else s

/-- LEFT_MIN follows the operating seconds while the window is open. -/
def State.windowTick (s : State) : State :=
  match s.restr.window with
  | some (t, m) => s.wr F.RESTR_CONFIRM_LEFT_MIN (m - (s.opSec - t) / 60)
  | none => s

/-! ## Node images (R480 to R483) -/

/-- The STATE of entry `e` as RESTR_NIMG_STAT shows it. -/
def State.nimgState (s : State) (e : Nat) : Nat := s.restr.nimg.get e (s.tgt (e + 1)).state

def State.setNimg (s : State) (e st : Nat) : State := s.setRestr { s.restr with nimg := s.restr.nimg.set e st }

/-- The queue of flow `f` toward target `t`: a node slot, a group or broadcast (R180). -/
def downQueue (t f : Nat) : Nat :=
  if t < 16320 then 64 * t + f
  else if t = 16383 then 1048512 + f
  else 1044480 + 64 * (t - 16320) + f

/-- Number of chunks of entry `e`. -/
def State.nChunks (s : State) (e : Nat) : Nat := (s.imageLen (e + 1) + 1023) / 1024

/-- The OFFER packet (R481). -/
def State.offer (s : State) (e : Nat) (poll : Bool) : List Byte :=
  let m := s.manifest (e + 1)
  o1 0x60 ++ o1 (b2n poll) ++ octetsLE 2 (Config.nimgType m) ++ octetsLE 4 (Config.nimgId m) ++
  octetsLE 4 (Config.nimgVersion m) ++ octetsLE 4 (Config.nimgLen m) ++ octetsLE 2 (s.nChunks e) ++ o1 0 ++ o1 0 ++
  octetsLE 4 0 ++ ((Config.nimgOfferTail m) ++ List.replicate 144 0).take 144

/-- A CHUNK packet (R481). -/
def State.chunk (s : State) (e c : Nat) : List Byte :=
  let len := min 1024 (s.imageLen (e + 1) - 1024 * c)
  o1 0x61 ++ o1 0 ++ octetsLE 2 c ++ octetsLE 4 (s.tgt (e + 1)).imageId ++
  s.mem.readN (s.targetBase (e + 1) + 0x10000 + 1024 * c) len

/-- The chunks still to be sent put into the Pegbox until one is refused, then the POLL offer. -/
def State.distSend : Nat → State → Dist → State
  | 0, s, d => s.setRestr { s.restr with dist := some d }
  | fuel + 1, s, d =>
    match d.toSend with
    | (n, c) :: rest =>
      let (r, s') := s.pegPut 0 (downQueue n 17) false (s.chunk d.entry c)
      if r.1 = stOK then State.distSend fuel s' { d with toSend := rest }
      else s'.setRestr { s'.restr with dist := some d }
    | [] =>
      if d.poll then
        let (r, s') := s.pegPut 0 (downQueue d.target 16) false (s.offer d.entry true)
        s'.setRestr { s'.restr with dist := some { d with poll := decide (r.1 ≠ stOK) } }
      else s.setRestr { s.restr with dist := some d }

/-- Steps of one sending: every chunk and the offer. -/
def distFuel (d : Dist) : Nat := d.toSend.length + 1

/-- NIMG_START (R483, R484): one distribution at a time, of a complete entry. -/
def State.nimgStart (s : State) (e t : Nat) : Nat × State :=
  if s.isOn 44 ∧ s.restr.dist = none ∧ (s.tgt (e + 1)).state = 2 then
    let s := (s.pegPut 0 (downQueue t 16) false (s.offer e false)).2
    let d : Dist := ⟨e, t, 0, (List.range (s.nChunks e)).map (fun c => (t, c)), true, [], [], 0⟩
    (stOK, State.distSend (distFuel d) (s.setNimg e 3) d)
  else (stBAD, s)

/-- NIMG_ABORT (R483). -/
def State.nimgAbort (s : State) (e : Nat) : Nat × State :=
  match s.restr.dist with
  | some d =>
    if d.entry = e then
      (stOK, (s.setNimg e 5).setRestr { (s.setNimg e 5).restr with
        dist := none, distLast := s.restr.distLast.set e (d.round, d.done.length) })
    else (stBAD, s)
  | none => (stBAD, s)

/-- NIMG_ERASE (R480): not while the entry distributes. -/
def State.nimgErase (s : State) (e : Nat) : Nat × State :=
  let busy : Bool := match s.restr.dist with
    | some d => d.entry == e
    | none => false
  if s.flashOn ∧ ¬ busy then
    let s := s.eraseTgt (e + 1)
    (stOK, s.setRestr { s.restr with nimg := s.restr.nimg.erase e, distLast := s.restr.distLast.erase e })
  else (stBAD, s)

/-- Node slot `n` belongs to target `t` of a distribution: the slot, a member of the group, or a node at all (R180, R483). -/
def State.inTarget (s : State) (t n : Nat) : Bool :=
  if t < 16320 then n == t
  else s.ndLive n && (t == 16383 || bitAt (s.nd n 20 4) (t - 16320))

/-- IMG_STATUS (R481, R483): the missing chunks a target node of the right NODE_TYPE reports, and a target node's DONE. -/
def State.imgStatus (s : State) (node st id first bitmap : Nat) : State :=
  match s.restr.dist with
  | none => s
  | some d =>
    if (s.tgt (d.entry + 1)).imageId ≠ id ∨ ¬ s.inTarget d.target node then s
    else
      let ok := st == 2 || st == 4
      let l := if ok ∨ s.nd node 10 2 ≠ Config.nimgType (s.manifest (d.entry + 1)) then [] else
        ((List.range 256).filter (fun i => bitAt bitmap i && decide (first + i < s.nChunks d.entry))).map (fun i => first + i)
      let d := { d with
        missing := if l = [] then d.missing.erase node else d.missing.set node l
        done := if ok ∧ ¬ d.done.contains node then d.done ++ [node] else d.done }
      s.setRestr { s.restr with dist := some d }

/-- The distribution ends: DONE. -/
def State.distEnd (s : State) (d : Dist) : State :=
  let s := s.setNimg d.entry 4
  s.setRestr { s.restr with dist := none, distLast := s.restr.distLast.set d.entry (d.round, d.done.length) }

/-- DISTRIBUTION_ROUND_END (R483): what is left to send goes on first; then the missing chunks reported make the next
round, of four at most; then each node's own chunks are sent to it, up to 3 tries. -/
def State.roundEnd (s : State) (waitS : Nat) : State :=
  match s.restr.dist with
  | none => s
  | some d =>
    if d.toSend ≠ [] ∨ d.poll then State.distSend (distFuel d) s d
    else
      let radio := decide (s.rd8 (256 * d.target + 8) ≥ 0x10 ∧ d.target < 16320)
      if waitS < (if radio then 120 else 20) then s
      else
        let union := (d.missing.flatMap (fun e => e.2)).dedup
        let round := d.round + 1
        if union = [] then s.distEnd { d with round := round }
        else if round < 4 then
          let d := { d with round := round, toSend := union.map (fun c => (d.target, c)), poll := true, missing := [] }
          State.distSend (distFuel d) s d
        else if d.tries < 3 then
          let d := { d with
            tries := d.tries + 1, toSend := d.missing.flatMap (fun e => e.2.map (fun c => (e.1, c))), poll := true, missing := [] }
          State.distSend (distFuel d) s d
        else s.distEnd d

/-- PD44 leaves ON: partial blocks and the feed are lost (R484). -/
def State.restrLost (s : State) : State :=
  s.setRestr { s.restr with
    feed := none, targets := s.restr.targets.map (fun e => (e.1, { e.2 with partials := [] })) }

end Sys2Proof.Machine
end

