-- ==== Sys2Proof/Machine/Phy.lean ====
section
/-!
DEFINITION. Machine/Phy.lean: what the field network puts on its media and takes from them: carriers and tone maps, the PHY
header, scrambler and FCS (R143 to R146), the octets of MAC frames and their protection (R157, R158, R164), wake patterns
(R169).
-/
namespace Sys2Proof.Machine

/-! ## Bits and checks -/

/-- The bits of octets, the least significant of each first. -/
def octetBits (l : List Byte) : List Bool := sbBits l

/-- The CRC-8 of R145 and R169: polynomial 0x07, initial value 0x00, each octet most significant bit first (assumption 84). -/
def crc8Bits : Nat → Nat → Nat
  | 0, c => c
  | n + 1, c => crc8Bits n (if c / 0x80 % 2 = 1 then (c * 2 % 0x100) ^^^ 0x07 else c * 2 % 0x100)
def crc8 (l : List Byte) : Nat := l.foldl (fun c b => crc8Bits 8 (c ^^^ b.toNat)) 0

/-- `bits` scrambled by x²³ + x¹⁸ + 1 from register `r`, whose bit 0 is the newest (R143). -/
def scramble : Nat → List Bool → List Bool
  | _, [] => []
  | r, b :: l =>
    let k := bitAt r 22 != bitAt r 17
    (b != k) :: scramble ((2 * r + b2n k) % 2 ^ 23) l

/-- The scrambler seeded with all ones. -/
def scrambled (l : List Bool) : List Bool := scramble (2 ^ 23 - 1) l

/-! ## Carriers (R143, R144) -/

/-- The permanent mask of R144. -/
def permanentMask : List (Nat × Nat) :=
  [(59, 68), (112, 134), (227, 239), (328, 335), (456, 473), (589, 598), (685, 706), (813, 822), (915, 917)]

/-- The carriers used: indices 59 to 917 outside the permanent mask. -/
def usedCarriers : List Nat :=
  (List.range 918).filter (fun c => decide (59 ≤ c) && !permanentMask.any (fun r => decide (r.1 ≤ c ∧ c ≤ r.2)))

/-- The used-carrier positions of the pilots. -/
def pilots : List Nat := [0, 148, 296, 444, 592, 740]

/-- A notch of FPLC_NOTCH_EXTRA covers carrier `c`. -/
def State.extraNotch (s : State) (c : Nat) : Bool :=
  (List.range 16).any (fun n => s.isSet (F.FPLC_NOTCH_EXTRA_EN n) &&
    decide (s.rd (F.FPLC_NOTCH_EXTRA_FIRST n) ≤ c ∧ c ≤ s.rd (F.FPLC_NOTCH_EXTRA_LAST n)))

/-- What each of the used carriers bears where the data carriers bear `code` of their position: pilots BPSK, nothing within an
extra notch. -/
def State.loads (s : State) (code : Nat → Nat) : List Nat :=
  (List.range 742).map (fun i => if s.extraNotch (usedCarriers.getD i 0) then 0 else if pilots.contains i then 1 else code i)

/-- The loads of comb `c` of an image burst (R154): QPSK on the carriers whose index is `c` modulo 8. -/
def State.combLoads (s : State) (c : Nat) : List Nat :=
  (List.range 742).map (fun i => if i % 8 = c ∧ ¬ s.extraNotch (usedCarriers.getD i 0) then 2 else 0)

/-- The convolutional code of image bursts (R143): rate 1/2, constraint length 7, generators 133 and 171 octal, from a register of
zeros, the output of 133 first (assumption 84). -/
def burstCode : Nat → List Bool → List Bool
  | _, [] => []
  | r, b :: l =>
    let r := (2 * r + b2n b) % 128
    let parity (g : Nat) : Bool := (List.range 7).foldl (fun p i => p != (bitAt g i && bitAt r (6 - i))) false
    parity 0o133 :: parity 0o171 :: burstCode r l

/-! ## The PHY header (R145) -/

/-- The 64 bits of a PHY header. -/
def phyHeader (len tmi : Nat) (long : Bool) (rate feeder : Nat) : Nat :=
  let l := octetsLE 7 (len % 2 ^ 16 + tmi * 2 ^ 16 + b2n long * 2 ^ 19 + rate * 2 ^ 20 + feeder * 2 ^ 24)
  ofOctetsLE l + crc8 l * 2 ^ 56

/-- HCRC of received header bits passes. -/
def hcrcOk (h : Nat) : Bool := crc8 (octetsLE 7 h) == bits h 56 8

/-! ## MAC frames (R157, R158) -/

/-- The 8 octets of a MAC header. -/
def macHeader (f : FieldFrame) : List Byte :=
  o1 (f.typ.toNat + 8 * b2n f.sec + 16 * b2n f.ackReq + 32 * b2n f.more + 64 * b2n f.exp + 128 * b2n f.up) ++
    o1 f.ver.toNat ++ [f.seq] ++ octetsLE 4 (f.modId.toNat * 2 ^ 14 + f.slot.toNat) ++ o1 f.flow.toNat

/-- CCM* over a plaintext: ciphertext and MIC of `m` octets. -/
def ccmSeal (key m : Nat) (nonce aad plain : List Byte) : List Byte :=
  (List.range plain.length).map (fun i => plain.getD i 0 ^^^ Config.ccmStream key nonce i) ++
    octetsLE m (Config.ccmMic key m nonce aad plain)

/-- The nonce of R158. -/
def fieldNonce (addr : Nat) (up : Bool) (typ fcnt keyIdx : Nat) : List Byte :=
  octetsLE 4 addr ++ o1 (b2n up + 2 * typ) ++ octetsLE 4 fcnt ++ o1 keyIdx ++ octetsLE 3 0

/-- The octets of a frame from header to MIC under a key. -/
def frameOctets (key : Nat) (f : FieldFrame) : List Byte :=
  let h := macHeader f
  if f.sec then
    let aad := h ++ octetsLE 4 f.fcnt.toNat ++ [f.keyIdx]
    aad ++ ccmSeal key 8 (fieldNonce (f.modId.toNat * 2 ^ 14 + f.slot.toNat) f.up f.typ.toNat f.fcnt.toNat f.keyIdx.toNat) aad
      f.payload
  else h ++ f.payload

/-- The frame that received octets carry, from header to MIC: with SEC, the payload is what CCM* opened. -/
def readFrame (l : List Byte) (clear : Option (List Byte)) : Option FieldFrame :=
  let a := ofOctetsLE (l.take 2)
  let addr := ofOctetsLE ((l.drop 3).take 4)
  let sec := bitAt a 3
  if l.length < (if sec then 21 else 8) then none
  else
    some ⟨.ofNat 3 a, sec, bitAt a 4, bitAt a 5, bitAt a 6, bitAt a 7, .ofNat 4 (a / 256), l.getD 2 0, .ofNat 14 (addr / 2 ^ 14),
      .ofNat 14 addr, .ofNat 6 (l.getD 7 0).toNat, if sec then .ofNat 32 (ofOctetsLE ((l.drop 8).take 4)) else 0,
      if sec then l.getD 12 0 else 0, if sec then clear.getD [] else l.drop 8⟩

/-- The key of a frame from the module (R448): by its role and, for role 0, a group's or a node's. A broadcast packet goes under
group 63 (assumption 83). -/
def State.frameKey (s : State) (f : FieldFrame) : Nat :=
  let k := bits f.keyIdx.toNat 0 6
  let role := bits f.keyIdx.toNat 6 2
  let e := f.slot.toNat
  if role = 2 then s.beaconKey k
  else if 16320 ≤ e then s.groupKey k (e - 16320)
  else s.nodeKey k (s.rdMem (256 * e) 8) role

/-- The PSDU: the frame's octets and the FCS, the CRC-32 of IEEE 802.3 on carrier (R143) and, of the 4 octets that R146 gives
without a polynomial, on radio (assumption 84). -/
def psdu (l : List Byte) : List Byte := l ++ octetsLE 4 (crc32 l)

/-- The tone map index of a frame from the module on a feeder: that of the node's entry; 0 for groups, beacons and JOIN_RSP. -/
def State.toneOf (s : State) (f : FieldFrame) : Nat :=
  let e := f.slot.toNat
  if e < 16320 ∧ f.keyIdx.toNat < 64 then bits (s.rdMem (256 * e + 162) 1) 0 3 else 0

/-- A carrier frame of octets `l` on feeder `m` under tone map `t` of node `e` (R143, R145). -/
def State.carrierTx (s : State) (m e t : Nat) (l : List Byte) : CarrierTx :=
  let p := psdu l
  let map := s.field.tones.get (16 * e + t) []
  let short := t != 0 && Config.toneShort t
  let rate := if t = 0 then 0 else Config.toneRate t % 3
  let h := phyHeader p.length t (!short) rate m
  ⟨h, s.loads (fun i => if t = 0 then 2 else map.getD i 0), short, rate, Config.ldpc 0 (scrambled (octetBits (octetsLE 8 h))),
    Config.ldpc rate (scrambled (octetBits p))⟩

/-- A radio frame of octets `l` on radio `r`: the module sends in the beacon mode, with 8 octets of preamble and without FEC
(assumption 84). -/
def State.radioTx (s : State) (r : Nat) (l : List Byte) : RadioTx :=
  let mode := s.rd (F.FRAD_RADIO_CFG_MODE r)
  ⟨mode, 8, false, psdu l, Config.radioAir mode false (psdu l)⟩

/-! ## Reception -/

/-- FCS and, on carrier, HCRC and LEN of what came pass (R143, R145, R175). -/
def rxGood (m : Nat) (rx : FieldRx) : Bool :=
  let n := rx.octets.length
  decide (4 ≤ n) && ofOctetsLE (rx.octets.drop (n - 4)) == crc32 (rx.octets.take (n - 4)) &&
    (decide (12 ≤ m) || (hcrcOk rx.phy.toNat && bits rx.phy.toNat 0 16 == n))

/-- The frame that came. -/
def rxFrame (rx : FieldRx) : Option FieldFrame := readFrame (rx.octets.take (rx.octets.length - 4)) rx.clear

/-! ## Wake patterns (R169) -/

/-- The 40 bits of a wake pattern to `slot`. -/
def State.wakePattern (s : State) (slot : Nat) : Nat :=
  let w := 0xB4 + slot % 2 ^ 14 * 2 ^ 8 + s.moduleId % 2 ^ 10 * 2 ^ 22
  w + crc8 (octetsLE 4 w) * 2 ^ 32

/-- Its chips: each bit, the least significant first, Manchester coded, 1 as on-off. -/
def wakeChips (w : Nat) : List Bool := (List.range 40).flatMap (fun i => [bitAt w i, !bitAt w i])

/-! ## Image entries (R163, R164, R203) -/

/-- An entry of an image aggregate: NODE_SLOT, ciphertext and MIC under the node's image key; the nonce takes SFN[31:0] for FCNT, and
there is no additional data (assumption 84). -/
def State.imageOctets (s : State) (e sfn img : Nat) : List Byte :=
  let k := bits (s.rdMem (256 * e + 19) 1) 0 6
  octetsLE 2 e ++ ccmSeal (s.nodeKey k (s.rdMem (256 * e) 8) 1) 4
    (fieldNonce (s.moduleId * 2 ^ 14 + e) false 4 (sfn % 2 ^ 32) (k + 64)) [] (octetsLE 12 img)

end Sys2Proof.Machine
end

