-- ==== Sys2Proof/Machine/Field.lean ====
section
/-!
DEFINITION. Machine/Field.lean: the field network (spec/06): node table access, airtime books, superframe start and
journal, frames to and from nodes, counters and their floors, drift, node key moves. Joins, groups, calendar and the
superframe boundaries are in Machine/Node.lean.
-/
namespace Sys2Proof.Machine

/-! ## The node table (R177, R178) -/

def State.nodeCnt (s : State) (i : Nat) : State := if s.isOn 31 then s.inc (F.NODE_CNT_COUNT i) else s

/-- The group record's entry of group `g` (R180). -/
def groupEntry (g : Nat) : Nat := 16320 + g

/-- A radio's index, for a medium of R138 that is one. -/
def mediumRadio (m : Nat) : Option Nat := if 0x10 ≤ m ∧ m ≤ 0x13 then some (m - 0x10) else none

/-- FPLC_CNT or FRAD_CNT index `i` of medium `m`. -/
def State.medCnt (s : State) (m i : Nat) : State :=
  if m < 12 then s.inc (F.FPLC_CNT_COUNT m i)
  else
    match mediumRadio m with
    | some r => s.inc (F.FRAD_CNT_COUNT r i)
    | none => s

/-- Medium `m` carries frames: its feeder or radio is enabled and ON (R175). -/
def State.mediumUp (s : State) (m : Nat) : Bool :=
  s.isOn 31 && !s.isSet F.SLOT_STATUS_EJECT_ACTIVE && !s.outputsHeld &&
  (if m < 12 then bitAt (s.rd F.FPLC_FEEDER_EN_EN) m
   else
     match mediumRadio m with
     | some r => s.isOn (32 + r) && s.isSet (F.FRAD_RADIO_CFG_EN r)
     | none => false)

/-- Radio `r` is ON and enabled. -/
def State.radioOn (s : State) (r : Nat) : Bool := s.isOn (32 + r) && s.isSet (F.FRAD_RADIO_CFG_EN r)

/-- RUN of the three blocks follows what they run on (spec/06, after R176). -/
def State.showFieldRun (s : State) : State :=
  let c := s.isOn 31 && s.rd F.FPLC_FEEDER_EN_EN != 0
  let r := s.isOn 31 && (List.range 4).any s.radioOn
  ((s.wrB (F.STATE_RUN bFPLC) c).wrB (F.STATE_RUN bFRAD) r).wrB (F.STATE_RUN bNODE) (s.field.started && (c || r))

/-! ## Time of the superframes -/

/-- TB2 in ns. -/
def State.tb2Ns (s : State) : Nat := s.time.tb2 / 65536

/-- TB2 in ms, low 32 bits. -/
def State.tb2Ms (s : State) : Nat := s.tb2Ns / 1000000 % 2 ^ 32

def State.sfnC (s : State) : Nat := s.rd64 F.FPLC_SFN_LO_SFN F.FPLC_SFN_HI_SFN

/-- The present SFN of medium `m`. -/
def State.sfnOf (s : State) (m : Nat) : Nat := if m < 12 then s.sfnC else s.field.sfnR

/-- The length of a superframe of medium `m` in ns, and of one of its slots (R151, R153, R155). -/
def sfNs (m : Nat) : Nat := if m < 12 then 10000000 else 1000000000
def slotNs (m : Nat) : Nat := if m < 12 then 125000 else 62500000

/-- TB2 in ns at the start of the present superframe of medium `m`, and of its slot `i`. -/
def State.sfStart (s : State) (m : Nat) : Nat := (if m < 12 then s.field.cAt else s.field.rAt) * sfNs m
def State.slotStart (s : State) (m i : Nat) : Nat := s.sfStart m + i * slotNs m

/-- TB2 time in ns at which SFN `x` of medium `m` starts. -/
def State.sfnStart (s : State) (m x : Nat) : Nat :=
  ((s.sfStart m : Int) + ((x : Int) - (s.sfnOf m : Int)) * (sfNs m : Int)).toNat

/-- How long before and after a frame its allocation lasts at least, and how long after a frame its ACK begins, in ns (R156). -/
def marginNs (m : Nat) : Nat := if m < 12 then 100000 else 1000000
def turnNs (m : Nat) : Nat := if m < 12 then 30000 else 5000000

/-! ## Airtime books (R147, R149, R165 to R168) -/

/-- The EU sub-band of channel `ch`. -/
def subBand (ch : Nat) : Option Nat :=
  if ch ≤ 8 then some 0
  else if 10 ≤ ch ∧ ch ≤ 23 then some 1
  else if ch = 25 ∨ ch = 26 then some 2
  else if ch = 29 then some 3
  else if ch = 32 then some 4
  else none

/-- The number of channels of a plan. -/
def planChannels (plan : Nat) : Nat := if plan = 1 then 127 else if plan = 2 then 61 else 34

/-- The channel radio `r` uses in radio slot `i` (R147, R149). -/
def State.channel (s : State) (r i : Nat) : Nat :=
  let plan := s.rd (F.FRAD_RADIO_CFG_PLAN r)
  let off := s.rd (F.FRAD_RADIO_CFG_OFFSET r)
  if plan = 0 then off else (off + i * s.rd (F.FRAD_RADIO_CFG_STEP r)) % planChannels plan

/-- The book of radio `r` in radio slot `i`. -/
def State.bookOf (s : State) (r i : Nat) : Option Nat :=
  match s.rd (F.FRAD_RADIO_CFG_PLAN r) with
  | 0 => subBand (s.channel r i)
  | 1 => some (8 + s.channel r i)
  | _ => some (200 + s.channel r i)

/-- BUDGET of book `b`. -/
def State.bookBudget (s : State) (b : Nat) : Nat := if b < 5 then s.rd (F.FRAD_SUBBAND_CFG_DUTY_CENT b) * 360000 else 400000

/-- The window of book `b` in seconds. -/
def bookWindow (b : Nat) : Nat := if b < 5 then 3600 else if b < 200 then 20 else 10

def State.book (s : State) (b : Nat) : Book :=
  s.field.books.get b ⟨s.bookBudget b, (s.bookBudget b : Int), 0, 0, []⟩

/-- The second of the reference tick that dates a bucket; the offset leaves room for buckets from before a reset. -/
def State.bucketSec (s : State) : Nat := s.sys.refTick / 1000000 + 4000

/-- FRAD_TOKEN row of book `b`: its own for EU, the sum over the plan's channels for US. -/
def State.showBook (s : State) (b : Nat) : State :=
  let row := if b < 5 then b else if b < 200 then 5 else 6
  let l := if b < 5 then [s.book b]
    else if b < 200 then (List.range 127).map (fun c => s.book (8 + c)) else (List.range 61).map (fun c => s.book (200 + c))
  let s := s.wr (F.FRAD_TOKEN_VALUE row 0) (l.map (·.budget)).sum
  let s := s.wr (F.FRAD_TOKEN_VALUE row 1) (ofSigned 32 (l.map (·.avail)).sum)
  let s := s.wr (F.FRAD_TOKEN_VALUE row 2) (l.map (·.reserved)).sum
  s.wr (F.FRAD_TOKEN_VALUE row 3) (l.map (·.spent)).sum

def State.setBook (s : State) (b : Nat) (k : Book) : State :=
  (s.setField { s.field with books := s.field.books.set b k }).showBook b

/-- The part of BUDGET that only flow 0 may draw (R166). -/
def State.bookFloor (s : State) (b : Nat) (k : Book) (flow0 : Bool) : Int :=
  if flow0 ∨ 5 ≤ b then 0 else ((k.budget * s.rd (F.FRAD_SUBBAND_CFG_PRIO_PCT b) / 100 : Nat) : Int)

/-- Book `b` covers `t` tokens. -/
def State.bookCovers (s : State) (b t : Nat) (flow0 : Bool) : Bool :=
  let k := s.book b
  decide (s.bookFloor b k flow0 ≤ k.avail - (t : Int))

/-- `t` tokens of book `b` reserved for radio `r` (R166). -/
def State.reserve (s : State) (r b t : Nat) : State :=
  let k := s.book b
  let s := s.setBook b { k with avail := k.avail - (t : Int), reserved := k.reserved + t }
  s.setField { s.field with resv := s.field.resv ++ [⟨r, b, t⟩] }

/-- Every (book, tokens) of `l` reserved for radio `r`, each draw seeing those before it; none where one cannot be
covered: the frame is deferred (R166, R171). -/
def State.reserveAll (s : State) (r : Nat) (flow0 : Bool) : List (Nat × Nat) → Option State
  | [] => some s
  | (b, t) :: l => if s.bookCovers b t flow0 then (s.reserve r b t).reserveAll r flow0 l else none

/-- END_OF_TRANSMISSION (R166): the oldest reservation of radio `r` settled. -/
def State.endTx (s : State) (r actual : Nat) : State :=
  match s.field.resv.find? (fun x => x.radio == r) with
  | none => s
  | some x =>
    let k := s.book x.book
    let now := s.bucketSec
    let k' : Book := ⟨k.budget, k.avail + (x.tokens : Int) - (actual : Int), k.reserved - x.tokens, k.spent + actual,
      k.buckets.set now (k.buckets.get now 0 + actual)⟩
    let s := s.setField { s.field with resv := s.field.resv.erase x }
    let s := s.setBook x.book k'
    if 5 ≤ x.book then s.wr (F.FRAD_DWELL_MAX_US r) (max (s.rd (F.FRAD_DWELL_MAX_US r)) k'.spent) else s

/-- The buckets of book `b` that have left its window return their tokens. -/
def State.ageBook (s : State) (b : Nat) : State :=
  let k := s.book b
  let old := k.buckets.filter (fun e => decide (e.1 + bookWindow b ≤ s.bucketSec))
  if old = [] then s
  else
    let t : Nat := (old.map (·.2)).sum
    s.setBook b { k with spent := k.spent - t, avail := k.avail + (t : Int),
                         buckets := k.buckets.drop (fun d => decide (d + bookWindow b ≤ s.bucketSec)) }

/-- AIRTIME_BUCKET_AGE (R166). -/
def State.bucketAge (s : State) : State :=
  if s.isOn 31 then s.field.books.foldl (fun s e => s.ageBook e.1) s else s

/-- A write of DUTY_CENT has been stored (R167): BUDGET and AVAILABLE of the sub-band. -/
def State.dutyWritten (s : State) (b : Nat) : State :=
  let k := s.book b
  let n := s.bookBudget b
  s.setBook b { k with budget := n, avail := (n : Int) - (k.reserved : Int) - (k.spent : Int) }

/-- FRAD_AUDIT_CTRL.SNAP (R165): FRAD_TOKEN frozen for requester `req`. -/
def State.fradSnap (s : State) (req : Nat) : State :=
  let l : List Fld := (List.range 7).flatMap (fun b => (List.range 4).map (fun t => F.FRAD_TOKEN_VALUE b t))
  let s := { s with latches := l.foldl (fun m (f : Fld) => m.set (reqKey req f.addr) (s.rd f)) s.latches }
  s.inc F.FRAD_AUDIT_CTRL_SNAP_CNT

/-! ## The journal (R160, R161, R168, R92) -/

/-- The key of journal records for the present CABINET_ID and slot address; none with configuration source none. -/
def State.jid (s : State) : Option Nat := s.sys.cfgHdr.map (fun h => h.cabinet.toNat * 64 + s.rd F.SLOT_STATUS_ADDR)

/-- The supervisor can write the journal. -/
def State.jrnUp (s : State) : Bool := s.allOn [0, 44] && !s.slot.noFlashWrite

/-- The EU buckets summed per minute of age, with the RTC time. -/
def State.airRec (s : State) : AirRec :=
  ⟨s.rtcSec, (List.range 5).flatMap (fun b =>
    let k := s.book b
    (List.range 60).filterMap (fun m =>
      let t := ((k.buckets.filter (fun e => (s.bucketSec - e.1) / 60 == m)).map (·.2)).sum
      if t = 0 then none else some (b, 60 * m, t)))⟩

/-- The airtime record written. -/
def State.jrnAir (s : State) : State :=
  match s.jid with
  | some j => if s.jrnUp then { s with jrn := { s.jrn with air := s.jrn.air.set j s.airRec } } else s
  | none => s

/-- The superframe record written (R161). -/
def State.jrnSfn (s : State) : State :=
  match s.jid with
  | some j => if s.jrnUp then { s with jrn := { s.jrn with sfn := s.jrn.sfn.set j s.field.sfnR } } else s
  | none => s

/-- AIRTIME_RECORD (R168): while no superframe runs, every 60 s. -/
def State.airtimeRecord (s : State) (sinceS : Nat) : State := if ¬ s.field.started ∧ 60 ≤ sinceS then s.jrnAir else s

/-- The books restored after a reset (R168): the record's tokens at their age, and one synthetic bucket at the record's
time; a record older than 3,600 s by the RTC is ignored, and with OSF set it is of the present moment. -/
def State.restoreBooks (s : State) : State :=
  let s := s.setField { s.field with books := [], resv := [] }
  let s := (List.range 5).foldl State.showBook s
  match s.jid.bind (fun j => s.jrn.air.find j) with
  | none => s
  | some a =>
    let age := if s.isSet F.RTC_STAT_OSF then 0 else s.rtcSec - a.rtc
    if 3600 < age then s
    else
      (List.range 5).foldl (fun s b =>
        let radios := ((List.range 4).filter (fun r => s.cfgVal bFRAD (F.FRAD_RADIO_CFG_PLAN r) == 0 &&
          subBand (s.cfgVal bFRAD (F.FRAD_RADIO_CFG_OFFSET r)) == some b)).length
        let budget := s.bookBudget b
        let synth := (0, min budget (60000000 * radios))
        let l := ((a.toks.filter (fun t => t.1 == b)).map (fun t => (t.2.1, t.2.2)) ++ [synth]).filter
          (fun e => decide (e.1 + age < 3600) && e.2 != 0)
        let bk := l.foldl (fun (m : AMap Nat) e =>
          let d := s.bucketSec - (e.1 + age)
          m.set d (m.get d 0 + e.2)) []
        let spent : Nat := (l.map (·.2)).sum
        s.setBook b ⟨budget, (budget : Int) - (spent : Int), 0, spent, bk⟩) s

/-- The module may transmit under the present radio SFN (R161): the journal holds a record of it less 60 or later. -/
def State.mayTransmit (s : State) : Bool :=
  s.field.started &&
  match s.jid.bind (fun j => s.jrn.sfn.find j) with
  | some x => decide (s.field.sfnR ≤ x + 60)
  | none => false

/-! ## Counter floors (R160) -/

/-- The key of a counter's floor: entry, direction (1 up), role. -/
def floorKey (e : Nat) (up : Bool) (role : Nat) : Nat := 16 * e + 4 * b2n up + role

/-- The newest floor of a counter in the journal. -/
def State.floor (s : State) (e : Nat) (up : Bool) (role : Nat) : Nat :=
  match s.jid with
  | some j => s.jrn.floors.get (j * 2 ^ 20 + floorKey e up role) 0
  | none => 0

/-- The journal holds a floor record for the present CABINET_ID and slot address. -/
def State.hasFloors (s : State) : Bool :=
  match s.jid with
  | some j => s.jrn.floors.any (fun e => e.1 / 2 ^ 20 == j)
  | none => false

/-- A floor record falls due. -/
def State.dueFloor (s : State) (e : Nat) (up : Bool) (role m : Nat) : State :=
  s.setField { s.field with floorDue := s.field.floorDue.set (floorKey e up role) m }

/-- The floors of entry `e` for role 0 are 0 again: its counters start under another key (R160, R456). -/
def State.zeroFloors (s : State) (e : Nat) : State :=
  match s.jid with
  | some j => { s with jrn := { s.jrn with
      floors := (s.jrn.floors.set (j * 2 ^ 20 + floorKey e false 0) 0).set (j * 2 ^ 20 + floorKey e true 0) 0 } }
  | none => s

/-- Group or broadcast record `e` moves to slot `k` (R456, R457). -/
def State.recordMoves (s : State) (e k : Nat) : State := ((s.setNd e 6 1 k).setNd e 8 4 0).zeroFloors e

/-- FLOOR_RECORD_WRITTEN (R160). -/
def State.floorWritten (s : State) (e : Nat) (up : Bool) (role : Nat) : State :=
  match s.field.floorDue.find (floorKey e up role), s.jid with
  | some m, some j =>
    if s.jrnUp then
      let s := { s with jrn := { s.jrn with floors := s.jrn.floors.set (j * 2 ^ 20 + floorKey e up role) m } }
      s.setField { s.field with floorDue := s.field.floorDue.erase (floorKey e up role) }
    else s
  | _, _ => s

/-- The counters of entry `e` after a reset (R160): the next downlink value is the newest floor plus 2¹⁶, the uplink
counter its newest floor, of which no frame has been accepted yet. Entries whose counters have been used keep them. -/
def State.startCounters (s : State) (e : Nat) : State :=
  if e < 16320 then
    let s := if s.nd e 60 4 = 0 then s.setNd e 60 4 (s.floor e false 0 + 65535) else s
    if s.nd e 64 4 = 0 then
      (s.setNd e 64 4 (s.floor e true 0)).setField { s.field with upFloor := (e :: s.field.upFloor).dedup }
    else s
  else if s.nd e 8 4 = 0 then s.setNd e 8 4 (s.floor e false 0 + 65535) else s

/-! ## Keys and downlink counters (R158, R159, R456) -/

/-- Key slot `k` can be used: it holds a key and the crypto engine has derived it. -/
def State.keyUp (s : State) (k : Nat) : Bool := s.rd (F.KEY_SLOT_STAT_STATE k) != 0 && s.key.derived.contains k

/-- The NEXT of key slot `k`, where it names another slot that holds a key (R456). -/
def State.nextSlot (s : State) (k : Nat) : Option Nat :=
  let n := s.rd (F.KEY_SLOT_CFG_NEXT k)
  if n ≠ k ∧ s.rd (F.KEY_SLOT_STAT_STATE n) ≠ 0 then some n else none

/-- KEY_DATA of node `e`. -/
def State.keyData (s : State) (e : Nat) : Nat := bits (s.nd e 18 1) 0 6

/-- A move of node `e` starts, where its slot has a NEXT; where not, the KEY block raises its event (R456, R457). -/
def State.startMove (s : State) (e : Nat) : State :=
  if s.key.moves.find e ≠ none then s
  else
    match s.nextSlot (s.keyData e) with
    | some _ => s.setKey { s.key with moves := s.key.moves.set e 0 }
    | none => s

/-- A move runs (beacon FLAGS[1]). -/
def State.moving (s : State) : Bool := s.key.moves.any (fun e => e.2 == 0)

/-- Counter value `f` of entry `e` and a role may be sent (R159, R160): none where it exceeds 0xFFFF_FFF0 or its floor record is not
in flash yet, which then falls due. -/
def State.fcntOk (s : State) (e role f : Nat) : Option Nat × State :=
  let m := f / 65536 * 65536
  if 0xFFFFFFF0 < f then (none, s)
  else if s.floor e false role < m then (none, s.dueFloor e false role m)
  else (some f, s)

/-- The FCNT of the next role 0 frame to node `e` under its present slot. A counter that reaches 2³¹ starts the node's move. -/
def State.nextFcnt (s : State) (e : Nat) : Option Nat × State :=
  let f := s.nd e 60 4 + 1
  match s.fcntOk e 0 f with
  | (none, s) => (none, s)
  | (some _, s) =>
    let s := s.setNd e 60 4 f
    (some f, if 2 ^ 31 ≤ f then s.startMove e else s)

/-- The same for a group record or the broadcast record, whose FCNT_DN lies at octet 8. -/
def State.nextGroupFcnt (s : State) (e : Nat) : Option Nat × State :=
  let f := s.nd e 8 4 + 1
  match s.fcntOk e 0 f with
  | (none, s) => (none, s)
  | (some _, s) => (some f, s.setNd e 8 4 f)

/-- The same for role 3 toward node `e` (JOIN_RSP). -/
def State.nextJoinFcnt (s : State) (e : Nat) : Option Nat × State :=
  let f := s.field.joinFcnt.get e (s.floor e false 3 + 65535) + 1
  match s.fcntOk e 3 f with
  | (none, s) => (none, s)
  | (some _, s) => (some f, s.setField { s.field with joinFcnt := s.field.joinFcnt.set e f })

/-! ## The drift record (R172 to R174) -/

/-- The age in ms of the drift record of node `e` at TB2 time `t` in ms. -/
def State.driftAge (s : State) (e t : Nat) : Nat := (t + 2 ^ 32 - s.nd e 40 4) % 2 ^ 32

/-- A drift record that is too old is reset (R174). -/
def State.driftLook (s : State) (e : Nat) : State :=
  if 2 ^ 31 < s.driftAge e s.tb2Ms then ((s.setNd e 32 4 0).setNd e 36 4 0).setNd e 44 1 0 else s

/-- The widest offset in ns at which the engine listens at TB2 time `t` in ms for a frame of node `e` that it expects, around its
prediction. -/
def State.windowAt (s : State) (e t : Nat) : Int × Int :=
  let dt := s.driftAge e t
  let base : Int := if bitAt (s.nd e 45 1) 0 then 0 else toSigned 32 (s.nd e 32 4)
  let psi := toSigned 32 (s.nd e 36 4)
  let nupd := s.nd e 44 1
  let pred := if 2 ^ 31 < dt then 0 else base + psi * (dt : Int) / 1000
  let init := decide (nupd < 2) || s.field.missed.contains e || decide (2 ^ 31 < dt)
  let u10 := if init then 10 * s.rd F.NODE_DRIFT_CFG_U_INIT else s.rd F.NODE_DRIFT_CFG_U_TRACK
  let slew := (s.time.slewDone - s.field.slewAt.get e s.time.slewDone) / 65536
  (pred, ((s.rd F.NODE_DRIFT_CFG_GUARD_US * 1000 + u10 * dt / 10 + slew : Nat) : Int))

def State.window (s : State) (e : Nat) : Int × Int := s.windowAt e s.tb2Ms

/-- A quotient rounded to the nearest integer, halves up. -/
def roundDiv (a : Int) (b : Nat) : Int := (2 * a + (b : Int)) / (2 * (b : Int))

/-- The drift record of node `e` updated by a frame that started `measured` ns from its nominal start (R173). -/
def State.drift (s : State) (e : Nat) (measured : Int) (ackSync : Bool) : State :=
  let dt := s.driftAge e s.tb2Ms
  let reset := decide (2 ^ 31 < dt)
  let theta : Int := if reset then 0 else toSigned 32 (s.nd e 32 4)
  let psi : Int := if reset then 0 else toSigned 32 (s.nd e 36 4)
  let nupd := if reset then 0 else s.nd e 44 1
  let base : Int := if bitAt (s.nd e 45 1) 0 then 0 else theta
  let psi' := if 1000 ≤ dt then
      clampTo 200000 (roundDiv (4 * (dt : Int) * psi + 1000 * (measured - base) - psi * (dt : Int)) (4 * dt)) else psi
  let s := s.setNd e 32 4 (ofSigned 32 measured)
  let s := s.setNd e 36 4 (ofSigned 32 psi')
  let s := s.setNd e 40 4 s.tb2Ms
  let s := s.setNd e 44 1 (if 1000 ≤ dt then satInc 255 nupd else nupd)
  let s := s.setNd e 45 1 (b2n ackSync)
  s.setField { s.field with slewAt := s.field.slewAt.set e s.time.slewDone, missed := s.field.missed.filter (· ≠ e) }

/-! ## Allocations (R153, R155, R156, R162, R174) -/

/-- Repetitions of a wake pattern, and its airtime on radio in µs (R169, R171). -/
def State.wakeReps (s : State) : Nat := s.rd F.NODE_WAKE_CFG_REPS
def State.wakeUs (s : State) : Nat := s.wakeReps * 20000 + (s.wakeReps - 1) * 2000

/-- The last slot of an allocation. -/
def allocLast (a : Alloc) : Nat := a.first.toNat + a.len.toNat

/-- The engine can name allocation `a` on medium `m`: it lies in the scheduled slots, a radio one has at most 6 (R156), one for wake
patterns has as many as R171 says. -/
def State.allocOk (s : State) (m : Nat) (a : Alloc) : Bool :=
  let f := a.first.toNat
  let n := a.len.toNat + 1
  if m < 12 then
    decide (4 + s.rd F.FPLC_SF_CFG_CIP_LEN ≤ f ∧ allocLast a + s.rd F.FPLC_SF_CFG_CONT_LEN < 80) &&
      (!a.wake || (!a.up && n == s.wakeReps))
  else decide (5 ≤ f ∧ allocLast a ≤ 13 ∧ n ≤ 6) && (!a.wake || (!a.up && decide (2 ≤ n)))

/-- The slots an allocation takes: for a frame from a node, every slot that one starting anywhere in the window would touch
(R174). -/
def State.span (s : State) (m : Nat) (a : Alloc) : Int × Int :=
  if a.up then
    let (pred, w) := s.windowAt a.slot.toNat (s.slotStart m a.first.toNat / 1000000 % 2 ^ 32)
    let n0 : Int := (a.first.toNat * slotNs m : Nat)
    let dur : Nat := (a.len.toNat + 1) * slotNs m - 2 * marginNs m
    ((n0 + pred - w) / (slotNs m : Int), (n0 + pred + w + (dur : Int)) / (slotNs m : Int))
  else ((a.first.toNat : Int), (allocLast a : Int))

/-- Two spans have no slot in common. -/
def apart (x y : Int × Int) : Bool := decide (x.2 < y.1 ∨ y.2 < x.1)

/-- The allocations of a beacon of medium `m`: those the engine can name, none in a slot that one before it takes, as many as the
beacon holds. -/
def State.plan (s : State) (m : Nat) (l : List Alloc) : List Alloc :=
  (l.foldl (fun acc a => if s.allocOk m a && acc.all (fun b => apart (s.span m a) (s.span m b)) then acc ++ [a] else acc) []).take
    (if m < 12 then 64 else 16)

/-- The allocation on medium `m` for a frame to `e` that slot `i` lies in. -/
def State.allocOf (s : State) (m e i : Nat) : Option Alloc :=
  (s.field.allocs.find? (fun x => x.1 == m && !x.2.up && x.2.slot.toNat == e && decide (x.2.first.toNat ≤ i ∧ i ≤ allocLast x.2))).map (·.2)

/-- The first allocation on medium `m` for a frame to group record `e`. -/
def State.allocFor (s : State) (m e : Nat) : Option Alloc :=
  (s.field.allocs.find? (fun x => x.1 == m && !x.2.up && x.2.slot.toNat == e)).map (·.2)

/-- Where in an allocation a frame that begins in its slot `i` starts, in ns after the slot's start (R156). -/
def allocStart (a : Alloc) (m i : Nat) : Nat := if i = a.first.toNat then marginNs m else 0

/-- A frame of `us`, its ACK included, that begins in slot `i` of an allocation ends in time (R156). -/
def allocHolds (a : Alloc) (m i us : Nat) : Bool :=
  decide (allocStart a m i + us * 1000 + marginNs m ≤ (allocLast a + 1 - i) * slotNs m)

/-! ## Transmission -/

/-- The ERP ceiling plus 2.15 dB of EU channel `ch`, and the antenna gain of radio `r`, in hundredths of a dB (R147, R148). -/
def euCeiling (ch : Nat) : Int := if subBand ch = some 4 then 2913 else 1612
def State.antGain (s : State) (r : Nat) : Int := 50 * s.rdS (F.FRAD_ANT_GAIN_HALF_DB r)

/-- The output cap of radio `r` in hundredths of a dBm (R148, R149): ERP ceiling + 2.15 dB − gain in EU, 27 dBm in US. -/
def State.pwrCap (s : State) (r : Nat) : Int :=
  if s.rd (F.FRAD_RADIO_CFG_PLAN r) = 0 then euCeiling (s.rd (F.FRAD_RADIO_CFG_OFFSET r)) - s.antGain r else 2700

/-- The output of medium `m`: on radio in dBm, at most the cap; on carrier less the attenuation in dB. -/
def State.outPwr (s : State) (m : Nat) : Int :=
  match mediumRadio m with
  | some r => min (s.rd (F.FRAD_RADIO_CFG_PWR r) : Int) (s.pwrCap r / 100)
  | none => -(s.rd (F.FPLC_TX_ATTEN_DB m) : Int)

/-- Radio slot number of slot `i` of the present superframe (R149). -/
def State.radioSlot (s : State) (i : Nat) : Nat := s.field.sfnR * 16 + i

/-- The channel medium `m` uses in slot `i` of the present superframe; 0 on carrier. -/
def State.chanOf (s : State) (m i : Nat) : Nat :=
  match mediumRadio m with
  | some r => s.channel r (s.radioSlot i)
  | none => 0

/-- A transmission on medium `m` is the first write of the couplers, where it is on carrier (R61). -/
def State.couple (s : State) (m : Nat) : State :=
  if m < 12 then { s with io := { s.io with couplers := true } } else s

/-- A carrier frame leaves on feeder `m`: Sounding, where it captures there, begins its capture (R259). -/
def State.probeStart (s : State) (m : Nat) : State :=
  if m < 12 ∧ s.run bSOUND ∧ s.isSet (F.SOUND_FDR_CFG_EN m) ∧ s.isOn (if m < 6 then 37 else 38) then
    { s with sound := { s.sound with carrying := s.sound.carrying ++ [m] } }
  else s

/-- A frame leaves on medium `m` in an allocation that begins in slot `i`. -/
def State.putFrame (s : State) (m i : Nat) (f : FieldFrame) : State :=
  let l := frameOctets (s.frameKey f) f
  let tx := match mediumRadio m with
    | some r => FieldTx.radio (s.radioTx r l)
    | none => FieldTx.carrier (s.carrierTx m f.slot.toNat (s.toneOf f) l)
  (((s.medCnt m 0).couple m).probeStart m).emit (.field m (s.chanOf m i) (s.outPwr m) f l tx)

/-- HOLD and T_WAKE of node `e` in ns (R171). -/
def State.holdNs (s : State) (e : Nat) : Nat :=
  let h := bits (s.nd e 30 2) 0 10
  (if h = 0 then s.rd F.NODE_WAKE_CFG_HOLD_100MS else h) * 100000000
def State.tWakeNs (s : State) (e : Nat) : Nat :=
  (if s.nd e 28 1 = 0 then s.rd F.NODE_WAKE_CFG_T_WAKE_MS else s.nd e 28 1) * 1000000

/-- Node `e` sleeps at TB2 time `t` in ns: a sleeper whose AWAKE_UNTIL lies before it (R171). -/
def State.asleep (s : State) (e t : Nat) : Bool := bitAt (s.nd e 17 1) 0 && decide (s.nd e 48 8 < t)

/-- The airtime in µs of a radio frame of `n` octets, header to MIC, in the beacon mode (R146), and 0 on carrier. -/
def State.cmdUs (s : State) (m n : Nat) : Nat :=
  match mediumRadio m with
  | some r =>
    let b := 8 * (n + 16)
    match s.rd (F.FRAD_RADIO_CFG_MODE r) with
    | 0 => b * 20
    | 1 => b * 10
    | 2 => (b * 20 + 2) / 3
    | mode => Config.cmdAirUs mode n
  | none => 0

/-- What medium `m` draws for a frame of `airUs` that begins in slot `i`, with a wake pattern where `wake`: (book, tokens); none
where the channel belongs to no book. On carrier, and for a US wake pattern, nothing (R170, R171). -/
def State.drawn (s : State) (m i airUs : Nat) (wake : Bool) : Option (List (Nat × Nat)) :=
  match mediumRadio m with
  | none => some []
  | some r =>
    match s.bookOf r (s.radioSlot i) with
    | none => none
    | some b =>
      let eu := s.rd (F.FRAD_RADIO_CFG_PLAN r) == 0
      let w := if wake ∧ eu then
          match subBand (s.rd F.NODE_WAKE_CFG_EU_CH) with
          | some wb => [(wb, s.wakeUs)]
          | none => []
        else []
      some (w ++ [(b, airUs)])

/-- Airtime reserved on medium `m` for `n` equal transmissions; none: deferred. A US radio sends nothing in the first
20 s after reset release (R150). -/
def State.airtime (s : State) (m i airUs : Nat) (wake flow0 : Bool) (n : Nat) : Option State :=
  match mediumRadio m with
  | none => some s
  | some r =>
    if s.rd (F.FRAD_RADIO_CFG_PLAN r) ≠ 0 ∧ s.sys.refTick < s.field.relTick + 20000000 then none
    else
      match s.drawn m i airUs wake with
      | none => none
      | some l => s.reserveAll r flow0 (List.replicate n l).flatten

/-- A deferred frame counted (R175). -/
def State.defer (s : State) (m : Nat) : State :=
  match mediumRadio m with
  | some r => s.inc (F.FRAD_CNT_COUNT r 4)
  | none => s

/-- A secured frame of this module to a node slot, group or all (R157, R158). -/
def State.frameTo (s : State) (typ slot flow : Nat) (ackReq more exp : Bool) (seq fcnt key : Nat) (payload : List Byte) :
    FieldFrame :=
  ⟨.ofNat 3 typ, true, ackReq, more, exp, false, 1, .ofNat 8 seq, .ofNat 14 s.moduleId, .ofNat 14 slot, .ofNat 6 flow,
   .ofNat 32 fcnt, .ofNat 8 key, payload⟩

/-- A packet's CMD_ID taken from the target's next one where a flow-1 packet carries 0 (R224); the target's record of the
last CMD_ID and level sent follows. `cmdOff`, `lvlOff`: where the entry keeps them. -/
def State.stampCmd (s : State) (e flow : Nat) (pkt : List Byte) : List Byte × State :=
  let node := decide (e < 16320)
  let cmdOff := if node then 124 else 18
  let lvlOff := if node then 120 else 16
  if flow ≤ 1 ∧ 6 ≤ pkt.length then
    let id := ofOctetsLE ((pkt.drop 2).take 2)
    let id' := if flow = 1 ∧ id = 0 then (s.nd e cmdOff 2 + 1) % 65536 else id
    let s := s.setNd e cmdOff 2 id'
    let s := if flow = 1 ∧ pkt.take 1 = o1 0x10 then s.setNd e lvlOff 2 (ofOctetsLE ((pkt.drop 8).take 2)) else s
    (pkt.take 2 ++ octetsLE 2 id' ++ pkt.drop 4, s)
  else (pkt, s)

/-- Frequency in Hz and output of a wake pattern on medium `m` (R170): in the EU plan the wake channel, at the ceiling of its own
sub-band; in the US plans 903.0 MHz at most 0.75 mW EIRP, −1.25 dBm; on carrier index 200. -/
def State.wakeAt (s : State) (m : Nat) : Nat × Int :=
  match mediumRadio m with
  | some r =>
    let p : Int := 100 * (s.rd (F.FRAD_RADIO_CFG_PWR r) : Int)
    if s.rd (F.FRAD_RADIO_CFG_PLAN r) = 0 then
      let ch := s.rd F.NODE_WAKE_CFG_EU_CH
      (863125000 + 200000 * ch, min p (euCeiling ch - s.antGain r))
    else (903000000, min p (-125 - s.antGain r))
  | none => (6103515, -(s.rd (F.FPLC_TX_ATTEN_DB m) : Int))

/-- `n` wake patterns to `slot` on medium `m` (R169, R170). -/
def State.sendWake (s : State) (m slot n : Nat) : State :=
  let w := s.wakePattern slot
  (s.couple m).emit (.wake m (s.wakeAt m).1 (s.wakeAt m).2 w (wakeChips w) n)

/-- The wake patterns of a carrier allocation with WAKE, one in each of its slots, 10 µs after its start (R171): the node is woken
at the end of the last. -/
def State.wakeSlots (s : State) (m : Nat) (a : Alloc) : State :=
  let e := a.slot.toNat
  if a.wake ∧ s.asleep e (s.slotStart m a.first.toNat) then
    let n := a.len.toNat + 1
    let s := (s.sendWake m e n).setNd e 148 4 (s.nd e 148 4 + n)
    s.setField { s.field with woken := s.field.woken.set e (s.slotStart m (allocLast a) + 110000) }
  else s

/-- The wake patterns for a frame to `e` that begins in slot `i` of allocation `a` end T_WAKE before it: on radio at the head of that
allocation, on carrier in an earlier one (R171). -/
def State.wakeReady (s : State) (m e : Nat) (a : Alloc) (i : Nat) : Bool :=
  if m < 12 then
    match s.field.woken.find e with
    | some t => decide (t + s.tWakeNs e ≤ s.slotStart m i)
    | none => false
  else a.wake && decide (s.slotStart m a.first.toNat + s.wakeUs * 1000 + s.tWakeNs e ≤ s.slotStart m i)

/-- A packet under claim goes no further (R141): counted at medium `m`, released, with its status. -/
def State.dropClaim (s : State) (cl : Claim) (m st : Nat) : State :=
  let s := if st = stPOISON then s.poisonedRead cl else s
  let s := (s.medCnt m 7).releaseClaim cl
  s.setField { s.field with lastDrop := (cl.queue, st) }

/-- Further packets wait for node `e` (MORE). -/
def State.moreFor (s : State) (e flow : Nat) : Bool :=
  (List.range 32).any (fun f => f != flow && (s.hasPacket (64 * e + f) || (s.desc (64 * e + f)).claimed)) ||
  s.hasPacket (64 * e + flow)

/-- A frame to node `e` sent once in slot `i` of allocation `a`, after its wake patterns where `wake`; AWAKE_UNTIL follows (R171). -/
def State.sendToNode (s : State) (e m : Nat) (a : Alloc) (i airUs : Nat) (wake : Bool) (f : FieldFrame) : State :=
  let s := if wake ∧ 12 ≤ m then (s.sendWake m e s.wakeReps).setNd e 148 4 (s.nd e 148 4 + s.wakeReps) else s
  let s := (s.putFrame m a.first.toNat f).ndCnt e 0
  if wake then
    let s := s.setField { s.field with woken := s.field.woken.erase e }
    s.setNd e 48 8 (s.slotStart m i + allocStart a m i + airUs * 1000 + s.holdNs e)
  else if bitAt (s.nd e 17 1) 0 ∧ f.more then s.setNd e 48 8 (s.nd e 48 8 + s.holdNs e)
  else s

/-- The packet under claim `cl` sent to node `e` in slot `i` (R140, R156, R159, R171, R456). -/
def State.transmitNode (s : State) (cl : Claim) (e flow airUs i : Nat) : State :=
  let m := s.ndMedium e
  let moving := s.key.moves.find e == some 0 && s.nextSlot (s.keyData e) != none
  let k := if moving then (s.nextSlot (s.keyData e)).getD 0 else s.keyData e
  match s.allocOf m e i with
  | none => s
  | some a =>
    let wake := s.asleep e (s.slotStart m a.first.toNat)
    if ¬ s.keyUp k ∨ (s.field.txs.find e).isSome ∨ ¬ allocHolds a m i airUs ∨ (wake ∧ ¬ s.wakeReady m e a i) then s
    else
      match s.airtime m a.first.toNat airUs wake (flow == 0) 1 with
      | none => s.defer m
      | some s' =>
        let (fc, s'') := if moving then (some 1, s') else s'.nextFcnt e
        match fc with
        | none => s.setField { s.field with floorDue := s''.field.floorDue }
        | some fc =>
          let (pkt, s) := s''.stampCmd e flow (s.claimOctets cl)
          let seq := s.nd e 56 1
          let f := s.frameTo 1 e flow true (s.moreFor e flow) cl.exp seq fc k pkt
          let s := s.setNd e 56 1 (seq + 1)
          let s := s.sendToNode e m a i airUs wake f
          s.setField { s.field with txs := s.field.txs.set e ⟨cl.queue, cl.id, cl.first, f, m, 0, moving⟩ }

/-- The media of R138 that MEDIA of a group record names (R180). -/
def mediaList (bitsM : Nat) : List Nat :=
  (List.range 16).filterMap (fun b => if bitAt bitsM b then some (if b < 12 then b else 0x10 + (b - 12)) else none)

/-- A member of group record `e` on medium `m` sleeps through its own timer. -/
def State.sleepersOn (s : State) (e m : Nat) : Bool :=
  s.nodeSlots.any (fun n => s.ndLive n && s.ndMedium n == m && bitAt (s.nd n 17 1) 0 &&
    (e == 16383 || bitAt (s.nd n 20 4) (e - 16320)))

/-- Copies of one group frame on one medium, each with its wake pattern. -/
def State.sendCopies (s : State) (m i : Nat) (wake : Bool) (f : FieldFrame) : Nat → State
  | 0 => s
  | n + 1 => State.sendCopies ((if wake then s.sendWake m 16383 s.wakeReps else s).putFrame m i f) m i wake f n

/-- The packet under claim `cl` sent to a group or broadcast record `e` in the allocation each medium's beacon names for it (R200):
once and MCAST_REPS repeats on each medium, without ACK; the claim is then released. -/
def State.transmitGroup (s : State) (cl : Claim) (e flow airUs : Nat) : State :=
  let media := (mediaList (s.nd e 4 2)).filter s.mediumUp
  let slotOf (m : Nat) : Nat := ((s.allocFor m e).map (·.first.toNat)).getD 0
  let n := 1 + s.rd F.NODE_CAL_CFG2_MCAST_REPS
  let k := bits (s.nd e 6 1) 0 6
  if media = [] ∨ ¬ s.keyUp k ∨ media.any (fun m => (s.allocFor m e).isNone) then s
  else
    let go := media.foldl (fun (o : Option State) m =>
      o.bind (fun s => s.airtime m (slotOf m) airUs (s.sleepersOn e m) (flow == 0) n)) (some s)
    match go with
    | none => media.foldl State.defer s
    | some s' =>
      let (fc, s'') := s'.nextGroupFcnt e
      match fc with
      | none => s.setField { s.field with floorDue := s''.field.floorDue }
      | some fc =>
        let (pkt, s) := s''.stampCmd e flow (s.claimOctets cl)
        let seq := s.nd e 12 1
        let f := s.frameTo 1 e flow false false cl.exp seq fc k pkt
        let s := s.setNd e 12 1 (seq + 1)
        let s := media.foldl (fun s m =>
          let s := s.sendCopies m (slotOf m) (s.sleepersOn e m) f n
          (List.range (n - 1)).foldl (fun s _ => s.medCnt m 5) s) s
        s.releaseClaim cl

/-- The order in which the flows of a node are served (R139). -/
def flowRank (flow : Nat) : Nat :=
  if flow ≤ 1 then flow else if flow = 4 then 2 else if flow ≤ 3 then 3 else if flow ≤ 15 then 4 else 5

/-- A flow served before `flow` still has a packet for `t`. Packets on flow 4 of a node with image-out service go with the
aggregate (R205). -/
def State.servedFirst (s : State) (t flow : Nat) : Bool :=
  (List.range 32).any (fun f => decide (flowRank f < flowRank flow) && !(f == 4 && decide (t < 16320) && bitAt (s.nd t 17 1) 2) &&
    (s.hasPacket (downQueue t f) || (s.heldClaim 27 (downQueue t f)).isSome))

/-- The packet under claim `cl` has been ACKed under an earlier claim: it is released (R140). -/
def State.ackedBefore (s : State) (cl : Claim) : State :=
  (s.releaseClaim cl).setField { s.field with acked := s.field.acked.erase (cl.queue, cl.first) }

/-- FRAME_TRANSMIT: the packet that port 27 holds under claim for `t` on `flow` goes out, is discarded under R141, or
stays (R139 to R141, R156, R161, R166, R171, R200). -/
def State.frameTransmit (s : State) (t flow airUs i : Nat) (poison : Bool) : State :=
  match s.heldClaim 27 (downQueue t flow) with
  | none => s
  | some cl =>
    let m := if t < 16320 then s.ndMedium t else ((mediaList (s.nd t 4 2)).head?).getD 0xFF
    if poison then s.dropClaim cl m stPOISON
    else if 2027 < cl.len then s.dropClaim cl m stBAD
    else if s.field.acked.contains (cl.queue, cl.first) then s.ackedBefore cl
    else if ¬ s.mayTransmit ∨ s.servedFirst t flow ∨ (flow = 4 ∧ t < 16320 ∧ bitAt (s.nd t 17 1) 2) then s
    else if t < 16320 then
      if s.ndState t = 2 ∧ s.mediumUp m then s.transmitNode cl t flow airUs i else s
    else s.transmitGroup cl t flow airUs

/-! ## Command frames to nodes (R145, R163, R181, R182) -/

/-- A command frame sent in the contention period, where its medium carries frames and its airtime, key and counter allow it;
false: it waits. -/
def State.cmdSend (s : State) (c : CmdDue) : Bool × State :=
  let e := c.node
  let m := c.medium
  if ¬ (s.mayTransmit ∧ s.mediumUp m ∧ s.keyUp (s.keyData e)) then (false, s)
  else
    match s.airtime m 14 (s.cmdUs m (21 + c.payload.length)) false false 1 with
    | none => (false, s.defer m)
    | some s' =>
      match (if c.role = 3 then s'.nextJoinFcnt e else s'.nextFcnt e) with
      | (none, t) => (false, s.setField { s.field with floorDue := t.field.floorDue })
      | (some fc, s) =>
        let seq := s.nd e 56 1
        let f := s.frameTo 3 e 0 (c.role == 3 || c.tone != none) false false seq fc (s.keyData e + 64 * c.role) c.payload
        let s := ((s.setNd e 56 1 (seq + 1)).putFrame m 14 f).ndCnt e 0
        let s := match c.img with
          | some (k, pos) => s.setField { s.field with imgNew := s.field.imgNew.set e (seq, k, pos, false) }
          | none => s
        (true, match c.tone with
          | some (up, i, codes) =>
            let o := s.nd e 162 1
            let s := s.setNd e 162 1 (if up then bits o 0 4 + 16 * i else i + 16 * bits o 4 4)
            s.setField { s.field with tones := s.field.tones.set (16 * e + 8 * b2n up + i) codes }
          | none => s)

/-- A command frame sent now, or put behind those that wait. -/
def State.cmdPost (s : State) (c : CmdDue) : State :=
  match s.cmdSend c with
  | (true, s) => s
  | (false, s) => s.setField { s.field with cmds := s.field.cmds ++ [c] }

/-- The command frames that wait for medium `m` tried again at its superframe's start; one whose slot has gone to another node
is dropped. -/
def State.sendCmds (s : State) (m : Nat) : State :=
  (s.field.cmds.filter (fun c => c.medium == m)).foldl (fun s c =>
    if s.nd c.node 0 8 ≠ c.eui then s.setField { s.field with cmds := s.field.cmds.erase c }
    else
      match s.cmdSend c with
      | (true, s) => s.setField { s.field with cmds := s.field.cmds.erase c }
      | (false, s) => s) s

/-- TONEMAP to node `e` (R145, R163): DIRECTION 0 to the node, 1 from it. -/
def State.sendTone (s : State) (e m : Nat) (t : Bool × BitVec 3 × List (BitVec 4)) : State :=
  let codes := t.2.2.map (·.toNat)
  let octets := (List.range 371).map (fun i => BitVec.ofNat 8 (codes.getD (2 * i) 0 + 16 * codes.getD (2 * i + 1) 0))
  if m < 12 ∧ t.2.1 ≠ 0 then
    s.cmdPost ⟨m, e, s.nd e 0 8, 0, o1 0x04 ++ o1 (b2n t.1) ++ o1 t.2.1.toNat ++ octets, none, some (t.1, t.2.1.toNat, codes)⟩
  else s

/-! ## Group records (R180) and NODE_COUNT -/

/-- MEMBERS and MEDIA over the node slots `l`. -/
def State.groupSums (s : State) (l : List Nat) : Nat × Nat :=
  (l.length, l.foldl (fun a n =>
    let m := s.ndMedium n
    let b := if m < 12 then some m else (mediumRadio m).map (· + 12)
    match b with
    | some b => setBit a b true
    | none => a) 0)

/-- Every group record and NODE_COUNT brought up to date. -/
def State.showGroups (s : State) : State :=
  let live := s.nodeSlots.filter s.ndLive
  let put (s : State) (e : Nat) (l : List Nat) : State :=
    let (n, md) := s.groupSums l
    (s.setNd e 0 4 n).setNd e 4 2 md
  let s := (List.range 32).foldl (fun s g => put s (groupEntry g) (live.filter (fun n => bitAt (s.nd n 20 4) g))) s
  let s := put s 16383 live
  (s.wr F.NODE_COUNT_JOINED (live.filter (fun n => s.ndState n == 2)).length).wr F.NODE_COUNT_LOST
    (live.filter (fun n => s.ndState n == 3)).length

/-! ## Image positions (R201) -/

/-- Node `n` takes part in image exchange on medium `m` by FLAGS bit `i`. -/
def State.imageNode (s : State) (m n i : Nat) : Bool :=
  s.ndLive n && s.ndMedium n == m && bitAt (s.nd n 17 1) i && decide (s.nd n 24 1 ≤ 10)

/-- Node `e` is due in superframe `x`: the phases of its image period and its slot agree (R201). -/
def State.imagePhase (s : State) (x e : Nat) : Bool := x % 2 ^ s.nd e 24 1 == e % 2 ^ s.nd e 24 1

/-- The node whose input image comes at position `p` of medium `m` in the present superframe (R201). -/
def State.imageAt (s : State) (m p : Nat) : Option Nat :=
  s.nodeSlots.find? (fun e => s.imageNode m e 1 && bits (s.nd e 26 2) 0 9 == p && s.imagePhase (s.sfnOf m) e)

/-! ## Reception -/

/-- What reception makes of a node's frame. -/
inductive RxKind where
  | dropped | repeated | fresh
  deriving DecidableEq, Repr

/-- The key slot a frame of node `e` under key `k` belongs to: its present slot, or NEXT while it moves (R456). -/
def State.rxKey (s : State) (e k : Nat) : Bool :=
  k == s.keyData e || (s.key.moves.find e != none && s.nextSlot (s.keyData e) == some k)

/-- The last FCNT accepted from node `e` under key slot `k`, and whether a frame has been accepted since it started (R159, R160). -/
def State.rxLast (s : State) (e k : Nat) : Nat × Bool :=
  if k = s.keyData e then (s.nd e 64 4, !s.field.upFloor.contains e)
  else (s.field.nextUp.get e 0, (s.field.nextUp.find e).isSome)

/-- MIC, key and counter of a frame from a node judged (R158, R159, R175). Nothing is written but counts. -/
def State.rxJudge (s : State) (m : Nat) (f : FieldFrame) (rx : FieldRx) : RxKind × State :=
  let e := f.slot.toNat
  let k := bits f.keyIdx.toNat 0 6
  let fc := f.fcnt.toNat
  let bad := (s.medCnt m 3)
  if ¬ (e < 16320 ∧ s.ndLive e) then (.dropped, bad)
  else if ¬ (f.sec ∧ rx.clear.isSome ∧ bits f.keyIdx.toNat 6 2 = 0 ∧ s.rxKey e k ∧ s.keyUp k) then (.dropped, bad.ndCnt e 4)
  else if k = s.keyData e ∧ s.field.replUp.contains e then (.fresh, s)
  else
    let (last, began) := s.rxLast e k
    if fc = last ∧ began then (.repeated, s)
    else if fc ≤ last then (.dropped, bad.ndCnt e 4)
    else (.fresh, s)

/-- A frame of TYPE `typ` received from a node of this module on medium `m`: counted and discarded, or acted on as it is judged
(R157, R175). -/
def State.received (s : State) (m typ : Nat) (rx : FieldRx) (act : FieldFrame → RxKind → State → State) : State :=
  if ¬ s.mediumUp m then s
  else if ¬ rxGood m rx then s.medCnt m 2
  else
    match rxFrame rx with
    | none => s
    | some f =>
      if f.up ∧ f.ver = 1 ∧ f.modId.toNat = s.moduleId ∧ f.typ.toNat = typ then
        let (k, s) := s.rxJudge m f rx
        act f k s
      else s

/-- A node's frame accepted: counts, uplink counter with its floor, LAST_HEARD, LQI, RSSI, SEQ_UP; a lost node is joined
again (R183). A counter that reaches 2³¹ starts the node's move. -/
def State.rxAccept (s : State) (m : Nat) (f : FieldFrame) (rx : FieldRx) : State :=
  let e := f.slot.toNat
  let fc := f.fcnt.toNat
  let old := s.nd e 64 4
  let s := (s.medCnt m 1).ndCnt e 1
  let s := if bits f.keyIdx.toNat 0 6 = s.keyData e then
      let s := s.setNd e 64 4 fc
      let s := if old / 65536 < fc / 65536 then s.dueFloor e true 0 (fc / 65536 * 65536) else s
      let s := s.setField { s.field with
        replUp := s.field.replUp.filter (· ≠ e), upFloor := s.field.upFloor.filter (· ≠ e) }
      if 2 ^ 31 ≤ fc then s.startMove e else s
    else s.setField { s.field with nextUp := s.field.nextUp.set e fc }
  let s := ((s.setNd e 72 4 s.tb2Ms).setNd e 160 1 rx.info.lqi.toNat).setNd e 161 1 rx.info.rssi.toNat
  let s := s.setNd e 57 1 f.seq.toNat
  if s.ndState e = 3 then (s.setNd e 9 1 2).showGroups else s

/-- The ACK of a node's frame with STATUS `st` (R163), and whether it was sent: it draws airtime and a downlink counter like any
frame, and names the time of its own start, which lies R156's turn after the frame's end. -/
def State.sendAck (s : State) (m : Nat) (f : FieldFrame) (st lqi ackUs i : Nat) : Bool × State :=
  let e := f.slot.toNat
  if ¬ (f.ackReq ∧ s.mayTransmit ∧ s.keyUp (s.keyData e)) then (false, s)
  else
    match s.airtime m i ackUs false false 1 with
    | none => (false, s.defer m)
    | some s' =>
      match s'.nextFcnt e with
      | (none, t) => (false, s.setField { s.field with floorDue := t.field.floorDue })
      | (some fc, s) =>
        let pl := o1 st ++ octetsLE 2 (s.sfnOf m) ++ octetsLE 4 (s.tb2Ns + turnNs m - s.sfStart m) ++ o1 lqi
        (true, s.putFrame m i (s.frameTo 2 e 0 false false false f.seq.toNat fc (s.keyData e) pl))

/-- The input image of node `e` written for superframe `x` (R204). -/
def State.writeImage (s : State) (e x img : Nat) : State :=
  let s0 := s.nd e 100 4
  let s1 := s.nd e 116 4
  let b := if s0 = x then 88 else if s1 = x then 104 else if newer 32 s0 s1 then 104 else 88
  (s.setNd e b 12 img).setNd e (b + 12) 4 x

/-- The uplink packet of a fresh data frame taken: an input image into the node table, anything else into its flow
(R142). False: no ACK. -/
def State.takeData (s : State) (m : Nat) (f : FieldFrame) : Bool × State :=
  let e := f.slot.toNat
  let flow := f.flow.toNat
  if flow = 35 then
    if f.payload.length = 12 then (true, s.writeImage e (s.sfnOf m % 2 ^ 32) (ofOctetsLE f.payload))
    else (true, s.nodeCnt 5)
  else if flow < 32 then (true, s.nodeCnt 5)
  else
    let (r, s) := s.pegPut 27 (64 * e + flow) f.exp f.payload
    (r.1 == stOK, s)

/-- A repeat of an accepted frame: measured with ACK_SYNC as the earlier ACK left it, which is then cleared; ACKed again (R159,
R173). -/
def State.rxRepeat (s : State) (m : Nat) (f : FieldFrame) (rx : FieldRx) (st ackUs i : Nat) : State :=
  let e := f.slot.toNat
  let s := s.drift e rx.info.measured (bitAt (s.nd e 45 1) 0)
  ((s.sendAck m f st rx.info.lqi.toNat ackUs i).2).setNd e 45 1 0

/-- DATA_FRAME_RECEIVED (R142, R159, R173, R175). -/
def State.dataFrame (s : State) (m : Nat) (rx : FieldRx) (expected : Bool) (ackUs i : Nat) : State :=
  let t := rx.info.measured
  s.received m 1 rx (fun f k s' =>
    let e := f.slot.toNat
    let w := s.window e
    if expected ∧ ¬ (w.1 - w.2 ≤ t ∧ t ≤ w.1 + w.2) then s
    else
      match k with
      | .dropped => s'
      | .repeated => s'.rxRepeat m f rx stOK ackUs i
      | .fresh =>
        match s'.takeData m f with
        | (false, s) => s.drift e t false
        | (true, s) =>
          let s := s.rxAccept m f rx
          let s := s.drift e t false
          let (sent, s) := s.sendAck m f stOK rx.info.lqi.toNat ackUs i
          let s := s.setNd e 45 1 (b2n sent)
          match rx.tone with
          | some tone => s.sendTone e m tone
          | none => s)

/-- A command frame from a node other than JOIN_REQ (R163, R171): SLEEP sets AWAKE_UNTIL to the start of the SFN the node names;
any other CMD draws BAD. -/
def State.nodeSleep (s : State) (m : Nat) (rx : FieldRx) (ackUs i : Nat) : State :=
  s.received m 3 rx (fun f k s =>
    let e := f.slot.toNat
    let sleep := f.payload.take 1 == o1 0x03 && f.payload.length == 11
    let st := if sleep then stOK else stBAD
    match k with
    | .dropped => s
    | .repeated => s.rxRepeat m f rx st ackUs i
    | .fresh =>
      let s := s.rxAccept m f rx
      let s := s.drift e rx.info.measured false
      let s := if sleep then
          let s := (s.setNd e 48 8 (s.sfnStart m (ofOctetsLE ((f.payload.drop 1).take 6)))).ndFlag e 0 true
          s.setField { s.field with wakeMs := s.field.wakeMs.set e (ofOctetsLE (f.payload.drop 7)) }
        else s
      let (sent, s) := s.sendAck m f st rx.info.lqi.toNat ackUs i
      s.setNd e 45 1 (b2n sent))

/-- An input image of node `e` in the present superframe whose check has passed (R164, R173, R175, R204). On carrier a burst that
passes its CRC updates the drift record even where its MIC fails (R173, assumption 85). -/
def State.imageTaken (s : State) (m e : Nat) (clear : Option (BitVec 96)) (rx : RxInfo) : State :=
  let x := s.sfnOf m % 2 ^ 32
  let last := s.nd e 68 4
  let s' := s.drift e rx.measured false
  match clear with
  | some img =>
    if s.keyUp (bits (s.nd e 19 1) 0 6) ∧ (last = 0 ∨ newer 32 x last) then
      let s := ((s'.medCnt m 1).ndCnt e 1).nodeCnt 2
      let s := ((s.setNd e 68 4 x).setNd e 72 4 s.tb2Ms).setNd e 160 1 rx.lqi.toNat
      let s := (s.setNd e 161 1 rx.rssi.toNat).writeImage e x img.toNat
      if s.ndState e = 3 then (s.setNd e 9 1 2).showGroups else s
    else ((if m < 12 then s' else s).medCnt m 3).ndCnt e 4
  | none => ((if m < 12 then s' else s).medCnt m 3).ndCnt e 4

/-- A carrier image burst's CRC-16 passes (R164). -/
def burstOk (l : List Byte) : Bool := l.length == 18 && ofOctetsLE (l.drop 16) == crc16 (l.take 16)

/-- The node slot of a radio image frame of this module, which holds one entry (R163). -/
def State.imageFrame (s : State) (l : List Byte) : Option Nat :=
  match readFrame (l.take 26) none with
  | some f => if f.typ = 4 ∧ ¬ f.sec ∧ f.up ∧ f.ver = 1 ∧ f.modId.toNat = s.moduleId ∧ l.length = 30 then
      some (ofOctetsLE (f.payload.take 2) % 2 ^ 14) else none
  | none => none

/-- IMAGE_ENTRY_RECEIVED (R154, R155, R164, R201): on carrier slot and comb identify the node, on radio its entry and the
micro-slot; only a node due there in the present superframe is accepted. -/
def State.imageEntry (s : State) (m i c : Nat) (l : List Byte) (clear : Option (BitVec 96)) (rx : RxInfo) : State :=
  if ¬ s.mediumUp m then s
  else if m < 12 then
    if ¬ burstOk l then s.medCnt m 2
    else
      match (if 5 ≤ i then s.imageAt m (8 * (i - 5) + c) else none) with
      | some e => s.imageTaken m e clear rx
      | none => s.medCnt m 3
  else if ¬ (4 ≤ l.length ∧ ofOctetsLE (l.drop (l.length - 4)) = crc32 (l.take (l.length - 4))) then s.medCnt m 2
  else
    match s.imageFrame l with
    | some e => if s.imageAt m i = some e then s.imageTaken m e clear rx else s.medCnt m 3
    | none => s

/-- EXPECTED_FRAME_MISSED (R174). -/
def State.frameMissed (s : State) (e : Nat) : State :=
  if s.ndLive e ∧ ¬ s.field.missed.contains e then s.setField { s.field with missed := s.field.missed ++ [e] } else s

/-! ## ACKs and time-outs (R140, R156, R456) -/

/-- Port 27 holds the packet of frame `x` under claim, the one it went out under or a later one (R140). -/
def State.txClaim (s : State) (x : Tx) : Option Claim :=
  match s.heldClaim 27 x.queue with
  | some cl => if cl.first = x.first then some cl else none
  | none => none

/-- The frame in flight to node `e` is over: its packet is released, or, where its claim has been requeued meanwhile, at its next
claim (R140). -/
def State.txDone (s : State) (e : Nat) (x : Tx) : State :=
  let s := s.setField { s.field with txs := s.field.txs.erase e }
  match s.txClaim x with
  | some cl => s.releaseClaim cl
  | none => s.setField { s.field with acked := s.field.acked ++ [(x.queue, x.first)] }

/-- The group and broadcast records whose slot no joined member names any more move to NEXT (R456). -/
def State.groupMoves (s : State) : State :=
  let live := s.nodeSlots.filter s.ndLive
  (((List.range 32).map groupEntry) ++ [16383]).foldl (fun s e =>
    let k := bits (s.nd e 6 1) 0 6
    let mem := live.filter (fun n => e == 16383 || bitAt (s.nd n 20 4) (e - 16320))
    if mem ≠ [] ∧ ¬ mem.any (fun n => s.keyData n == k) then
      match s.nextSlot k with
      | some n => s.recordMoves e n
      | none => s
    else s) s

/-- The move of node `e` completes (R456): KEY_DATA and KEY_IMAGE take their slots' NEXT and the counters restart. -/
def State.moveDone (s : State) (e fcUp : Nat) : State :=
  let kd := s.keyData e
  let ki := bits (s.nd e 19 1) 0 6
  let s := s.setNd e 18 1 (s.rd (F.KEY_SLOT_CFG_NEXT kd))
  let s := s.setNd e 19 1 ((s.nextSlot ki).getD ki)
  let s := ((s.setNd e 60 4 1).setNd e 64 4 fcUp).zeroFloors e
  let s := s.setField { s.field with nextUp := s.field.nextUp.erase e }
  let s := (s.setKey { s.key with moves := s.key.moves.erase e }).keyCnt 3 1
  s.groupMoves

/-- ACK_RECEIVED (R140, R156, R173, R202, R456). -/
def State.ackReceived (s : State) (m : Nat) (rx : FieldRx) : State :=
  s.received m 2 rx (fun f k s =>
    let e := f.slot.toNat
    match k with
    | .dropped => s
    | .repeated => s.drift e rx.info.measured (bitAt (s.nd e 45 1) 0)
    | .fresh =>
      let old := s.keyData e
      let s := s.rxAccept m f rx
      let s := s.drift e rx.info.measured false
      let s := match s.field.imgNew.find e with
        | some (q, k, pos, _) =>
          if q = f.seq.toNat then s.setField { s.field with imgNew := s.field.imgNew.set e (q, k, pos, true) } else s
        | none => s
      match s.field.txs.find e with
      | some x =>
        if x.frame.seq = f.seq then
          let s := s.txDone e x
          if x.moving ∧ bits f.keyIdx.toNat 0 6 ≠ old then s.moveDone e f.fcnt.toNat else s
        else s
      | none => s)

/-- The repeats a frame on medium `m` gets. -/
def State.retryLimit (s : State) (m : Nat) : Nat :=
  match mediumRadio m with
  | some r => s.rd (F.FRAD_RADIO_CFG_RETRY r)
  | none => s.rd F.FPLC_RETRY_LIMIT

/-- The repeat of the frame in flight to node `e`, in an allocation for it; a node that sleeps is woken again (R171). -/
def State.repeatFrame (s : State) (e : Nat) (x : Tx) (airUs i : Nat) : State :=
  let wake := bitAt (s.nd e 17 1) 0
  match s.allocOf x.medium e i with
  | none => s
  | some a =>
    if ¬ s.mediumUp x.medium ∨ ¬ s.mayTransmit ∨ ¬ allocHolds a x.medium i airUs ∨ (wake ∧ ¬ s.wakeReady x.medium e a i) then s
    else
      match s.airtime x.medium a.first.toNat airUs wake (x.frame.flow == 0) 1 with
      | none => s.defer x.medium
      | some s =>
        let s := ((s.sendToNode e x.medium a i airUs wake x.frame).medCnt x.medium 5).ndCnt e 2
        s.setField { s.field with txs := s.field.txs.set e { x with tries := x.tries + 1 } }

/-- ACK_TIMEOUT (R140, R156, R171, R456): the repeat; past the limit a frame of a move goes out once more under the old slot and
the move waits, any other packet is dropped. A packet whose claim has been requeued waits for its next one. -/
def State.ackTimeout (s : State) (e airUs i : Nat) : State :=
  match s.field.txs.find e with
  | none => s
  | some x =>
    match s.txClaim x with
    | none => s.setField { s.field with txs := s.field.txs.erase e }
    | some cl =>
      if x.tries < s.retryLimit x.medium then s.repeatFrame e x airUs i
      else if x.moving then
        let s := (s.setKey { s.key with moves := s.key.moves.set e 1 }).keyCnt 2 1
        let s := s.setField { s.field with txs := s.field.txs.erase e }
        s.transmitNode cl e x.frame.flow.toNat airUs i
      else ((s.medCnt x.medium 6).ndCnt e 3).txDone e x

/-! ## Node moves commanded (R456) -/

/-- KEY_CMD MOVE: every node whose KEY_DATA names slot `k`. -/
def State.keyMove (s : State) (k : Nat) : Nat × State :=
  match s.nextSlot k with
  | none => s.keyDone 0x8 stBAD
  | some _ =>
    let l := s.nodeSlots.filter (fun n => s.ndLive n && s.keyData n == k)
    (l.foldl State.startMove s).keyDone 0x8 stOK

/-- MOVE_RETRY: no earlier than 3,600 s after the move failed. -/
def State.moveRetry (s : State) (e sinceS : Nat) : State :=
  if s.key.moves.find e = some 1 ∧ 3600 ≤ sinceS then s.setKey { s.key with moves := s.key.moves.set e 0 } else s

end Sys2Proof.Machine
end

