-- ==== Sys2Proof/Machine/Node.lean ====
section
/-!
DEFINITION. Machine/Node.lean: nodes (spec/07): joins and image service, NODE_ADMIN, group traffic, the calendar, profiles,
reports taken by the Suaraip Courses, beacons and image aggregates.
-/
namespace Sys2Proof.Machine

def State.setCal (s : State) (c : CalState) : State := { s with cal := c }

/-! ## Descriptors of a node's flows (R139, R210, R533) -/

/-- Courses holding role `r`, in rising order. -/
def State.courses (s : State) (r : Nat) : List Nat := (List.range 16).filter (fun n => s.rd (F.SYS_COURSE_ROLE_ROLE n) == r)

/-- The port that serves node slot `e` for role `r`; none while no Course holds it. -/
def State.servant (s : State) (r e : Nat) : Option Nat :=
  let l := s.courses r
  if l = [] then none else l[e % l.length]?

/-- CONSUMER, NOTIFY_EN and ENABLE of queue `q` written by the supervisor, under R532. -/
def State.setQueue (s : State) (q consumer : Nat) (notifyOn enable : Bool) : State :=
  (s.qcfgWrite q (b2n enable + 2 * b2n notifyOn + 4 * consumer + 128 * (s.desc q).profile)).2

/-- The descriptors of flows 32 to 36 of node slot `e` (R533). -/
def State.setUpQueues (s : State) (e : Nat) : State :=
  let put (s : State) (flow : Nat) (p : Option Nat) : State :=
    match p with
    | some p => s.setQueue (64 * e + flow) p true true
    | none => s.setQueue (64 * e + flow) (s.desc (64 * e + flow)).consumer false true
  let s := put s 32 (s.servant 3 e)
  let s := put s 36 (s.servant 3 e)
  let s := put s 33 (s.servant 4 e)
  let s := put s 34 (some 29)
  s.setQueue (64 * e + 35) 27 false false

/-- Every descriptor of node slot `e` that the supervisor sets when it joins. -/
def State.setNodeQueues (s : State) (e : Nat) : State :=
  let s := (List.range 32).foldl (fun s f => s.setQueue (64 * e + f) 27 true true) s
  s.setUpQueues e

/-- The queues of every joined or lost node brought to the Courses as they now hold the roles (R533). -/
def State.reassignQueues (s : State) : State := (s.nodeSlots.filter s.ndLive).foldl State.setUpQueues s

/-! ## Image service (R201, R202) -/

/-- Two image periods at two slots fall in a common superframe. -/
def sharesSf (a ka b kb : Nat) : Bool := a % 2 ^ min ka kb == b % 2 ^ min ka kb

/-- The number of image positions of medium `m` (R201). -/
def State.positions (s : State) (m : Nat) : Nat := if m < 12 then 8 * (s.rd F.FPLC_SF_CFG_CIP_LEN - 1) else 24

/-- The image parameters, exponent and position, of node `n`: those of its entry and those offered to it and not yet in force. -/
def State.imgParams (s : State) (n : Nat) : List (Nat × Nat) :=
  (s.nd n 24 1, bits (s.nd n 26 2) 0 9) :: ((s.field.imgNew.find n).map (fun x => (x.2.1, x.2.2.1))).toList ++
    s.field.cmds.filterMap (fun c => if c.node = n then c.img else none)

/-- The first position of medium `m` that node `e` can take at exponent `k`, the output limit allowing (R202). -/
def State.imageFit (s : State) (e m k : Nat) (imgIn imgOut : Bool) : Option Nat :=
  let others := s.nodeSlots.filter (· ≠ e)
  let free (p : Nat) : Bool := !others.any (fun n =>
    s.imageNode m n 1 && (s.imgParams n).any (fun x => x.2 == p && decide (x.1 ≤ 10) && sharesSf e k n x.1))
  let outs := others.filter (fun n => s.imageNode m n 2)
  let limit := if m < 12 then 4 else 16
  let full := (List.range 1024).any (fun x => x % 2 ^ k == e % 2 ^ k &&
    decide (limit ≤ (outs.filter (fun n => (s.imgParams n).any (fun q => decide (q.1 ≤ 10) && x % 2 ^ q.1 == n % 2 ^ q.1))).length))
  if 10 < k ∨ (imgOut ∧ full) then none
  else if imgIn then (List.range (s.positions m)).find? free
  else some 0

/-- The JOIN_RSP of node `e` with its image parameters (R163, R201); `img`: those it gives a joined node anew (R202). -/
def State.joinRsp (s : State) (e k pos : Nat) (img : Option (Nat × Nat)) : State :=
  s.cmdPost ⟨s.ndMedium e, e, s.nd e 0 8, 3, o1 0x02 ++ o1 stOK ++ o1 (k + 16 * bits pos 8 1) ++ o1 pos, img, none⟩

/-- Command frames to node `e` under the join key, and offers of image parameters, that have not been taken are dropped. -/
def State.dropOffers (s : State) (e : Nat) : State :=
  s.setField { s.field with
    cmds := s.field.cmds.filter (fun c => !(c.node == e && c.role == 3))
    imgNew := s.field.imgNew.erase e }

/-- Packets of node `e` under claim for its old medium go back to their queues (R182). -/
def State.requeueNode (s : State) (e : Nat) : State :=
  let s := s.setField { s.field with txs := s.field.txs.erase e }
  (List.range 32).foldl (fun s f =>
    match s.heldClaim 27 (64 * e + f) with
    | some cl => s.requeue cl
    | none => s) s

/-- The join of node `e` on medium `m` (R182, R202): `typ` and `fw` as its JOIN_REQ gives them, image service as configured for it. -/
def State.join (s : State) (e m typ fw k : Nat) (imgIn imgOut : Bool) : State :=
  let s := if s.ndLive e ∧ s.ndMedium e ≠ m then s.requeueNode e else s
  let s := s.dropOffers e
  let fit := if imgIn ∨ imgOut then s.imageFit e m k imgIn imgOut else none
  let s := if (imgIn ∨ imgOut) ∧ k ≤ 10 ∧ fit = none then
      s.raiseEvent 0x0031 (unitOf bNODE) (evtData [(2, e)]) else s
  let k' := if fit = none then 0xF else k
  let pos := fit.getD 0
  let s := ((s.setNd e 8 1 m).setNd e 9 1 2).setNd e 10 2 typ
  let s := (((s.setNd e 12 4 fw).setNd e 24 1 k').setNd e 26 2 pos).setNd e 162 1 0
  let s := ((s.ndFlag e 0 false).ndFlag e 1 (imgIn && fit != none)).ndFlag e 2 (imgOut && fit != none)
  let s := { s with gauge := { s.gauge with reports := s.gauge.reports.erase e } }
  (((s.nodeCnt 0).joinRsp e k' pos none).setNodeQueues e).showGroups

/-- JOIN_REQ (R159, R160, R173, R182): a command frame of role 3 from slot 16,383 that names an admitted node's EUI-64. A replay is
discarded, a repeat writes nothing. -/
def State.joinReq (s : State) (m : Nat) (rx : FieldRx) (k : Nat) (imgIn imgOut : Bool) : State :=
  if ¬ s.mediumUp m then s
  else if ¬ rxGood m rx then s.medCnt m 2
  else
    match rxFrame rx with
    | none => s
    | some f =>
      let b (o n : Nat) : Nat := ofOctetsLE ((f.payload.drop o).take n)
      let fc := f.fcnt.toNat
      if ¬ (f.up ∧ f.ver = 1 ∧ f.modId.toNat = s.moduleId ∧ f.typ = 3 ∧ f.slot = 16383 ∧ f.sec ∧ bits f.keyIdx.toNat 6 2 = 3) then s
      else if rx.clear = none then s.nodeCnt 1
      else if ¬ (f.payload.length = 15 ∧ b 0 1 = 0x01) then s
      else
        match s.nodeSlots.find? (fun n => s.nd n 0 8 == b 1 8) with
        | none => s.nodeCnt 1
        | some e =>
          if ¬ (bits f.keyIdx.toNat 0 6 = s.keyData e ∧ s.keyUp (s.keyData e)) then s.nodeCnt 1
          else
            let last := s.field.joinUp.get e (s.floor e true 3)
            let s' := s.drift e rx.info.measured false
            if fc = last ∧ s.field.joinUp.find e ≠ none then s'
            else if fc ≤ last then s.medCnt m 3
            else
              let s := s'.setField { s'.field with joinUp := s'.field.joinUp.set e fc }
              let s := if last / 65536 < fc / 65536 then s.dueFloor e true 3 (fc / 65536 * 65536) else s
              let s := ((s.medCnt m 1).ndCnt e 1).setNd e 57 1 f.seq.toNat
              let s := ((s.setNd e 72 4 s.tb2Ms).setNd e 160 1 rx.info.lqi.toNat).setNd e 161 1 rx.info.rssi.toNat
              s.join e m (b 9 2) (b 11 4) k imgIn imgOut

/-- After a change of CIP_LEN: each carrier node whose position falls outside gets new parameters (R202), by an offer that replaces
any earlier one. -/
def State.cipChanged (s : State) : State :=
  (s.nodeSlots.filter (fun n => s.ndMedium n < 12 && s.imageNode (s.ndMedium n) n 1 &&
      decide (s.positions (s.ndMedium n) ≤ bits (s.nd n 26 2) 0 9))).foldl (fun s n =>
    let s := s.dropOffers n
    let fit := s.imageFit n (s.ndMedium n) (s.nd n 24 1) true (bitAt (s.nd n 17 1) 2)
    let s := if fit = none then s.raiseEvent 0x0031 (unitOf bNODE) (evtData [(2, n)]) else s
    let k := if fit = none then 0xF else s.nd n 24 1
    s.joinRsp n k (fit.getD 0) (some (k, fit.getD 0))) s

/-- New image parameters whose ACK has come apply from this superframe. -/
def State.applyImgNew (s : State) : State :=
  s.field.imgNew.foldl (fun s x =>
    if x.2.2.2.2 then
      let s := (s.setNd x.1 24 1 x.2.2.1).setNd x.1 26 2 x.2.2.2.1
      s.setField { s.field with imgNew := s.field.imgNew.erase x.1 }
    else s) s

/-- NODE_LOST (R183). -/
def State.nodeLost (s : State) (e : Nat) : State :=
  let dt := (s.tb2Ms + 2 ^ 32 - s.nd e 72 4) % 2 ^ 32
  if e < 16320 ∧ s.ndState e = 2 ∧ 1000 * s.rd F.NODE_ORPHAN_CFG_LOST_S ≤ dt then (s.setNd e 9 1 3).showGroups else s

/-! ## NODE_ADMIN (R181) -/

/-- The outcome of a NODE_ADMIN command shown. -/
def State.adminDone (s : State) (op st : Nat) : State := (s.wr F.NODE_ADMIN_STAT_OP op).wr F.NODE_ADMIN_STAT_STATUS st

/-- MCAST of entry `e` with the bit of its old GROUP cleared and of `g` set, and GROUP `g` (OP 0x3). -/
def State.regroup (s : State) (e g : Nat) : State :=
  let old := s.nd e 16 1
  let mc := setBit (setBit (s.nd e 20 4) old false) g true
  let s := (s.setNd e 20 4 mc).setNd e 16 1 g
  let s := if old ≠ g ∧ s.ndLive e ∧ ¬ s.field.regrouped.contains e then
      s.setField { s.field with regrouped := s.field.regrouped ++ [e] } else s
  s.showGroups

/-- Node slot `e` admitted (R181), its counters started (R160). -/
def State.admitSlot (s : State) (e eui g mcast : Nat) : State :=
  let s := ((s.setNd e 0 8 eui).setNd e 16 1 g).setNd e 20 4 (setBit mcast g true)
  let s := if s.ndMedium e = 0 ∧ s.nd e 10 2 = 0 then s.setNd e 8 1 0xFF else s
  (s.setNd e 9 1 1).startCounters e

/-- A CFG_SET packet for node `e` with ORPHAN_S and MCAST (R193). -/
def State.cfgSet (s : State) (e : Nat) : State :=
  match s.servant 3 e with
  | none => s
  | some p =>
    let id := (s.nd e 124 2 + 1) % 65536
    let s := s.setNd e 124 2 id
    let pl := o1 0x30 ++ octetsLE 2 id ++ o1 0x01 ++ o1 2 ++ octetsLE 2 (s.rd F.NODE_ORPHAN_CFG_ORPHAN_S) ++
      o1 0x06 ++ o1 4 ++ octetsLE 4 (s.nd e 20 4)
    (s.pegPut p (64 * e + 3) false pl).2

/-- ADMIT: NODE_ADMIN OP 0x1 for the slot and EUI-64 that requester `req` has selected. -/
def State.nodeAdmit (s : State) (req g : Nat) : State :=
  let e := s.rdReq req F.NODE_SEL_SLOT
  let eui := s.rdReq req F.NODE_EUI_LO_EUI + s.rdReq req F.NODE_EUI_HI_EUI * 2 ^ 32
  if 16320 ≤ e then s.adminDone 1 stBAD
  else if s.ndState e ≠ 0 ∧ s.nd e 0 8 = eui then
    let moved := s.nd e 16 1 ≠ g ∧ s.ndLive e
    let s := s.regroup e g
    (if moved then s.cfgSet e else s).adminDone 1 stOK
  else if s.ndState e ≠ 0 then s.adminDone 1 stBAD
  else if s.nodeSlots.any (fun n => s.nd n 0 8 == eui) then s.adminDone 1 stBAD
  else (s.admitSlot e eui g 0).adminDone 1 stOK

/-- The LEAVE of a joined node (R163, R181): sent, or put behind the command frames that wait. -/
def State.sendLeave (s : State) (e reason : Nat) : State :=
  if s.ndLive e then s.cmdPost ⟨s.ndMedium e, e, s.nd e 0 8, 0, o1 0x05 ++ o1 reason, none, none⟩ else s

/-- EVICT: NODE_ADMIN OP 0x2. -/
def State.evict (s : State) (req : Nat) : State :=
  let e := s.rdReq req F.NODE_SEL_SLOT
  if 16320 ≤ e then s.adminDone 2 stBAD
  else if s.ndState e = 0 then s.adminDone 2 stOK
  else
    let s := s.setField { s.field with
      txs := s.field.txs.erase e, imgNew := s.field.imgNew.erase e, cmds := s.field.cmds.filter (fun c => c.node != e) }
    let s := s.sendLeave e 1
    let s := if s.pegRuns then (List.range 32).foldl (fun s f => s.flushQueue (64 * e + f)) s else s
    let s := s.setKey { s.key with moves := s.key.moves.erase e }
    ((s.setNd e 9 1 0).showGroups).adminDone 2 stOK

/-- SET_GROUP: NODE_ADMIN OP 0x3 (R181, R209). -/
def State.setGroup (s : State) (req g : Nat) : State :=
  let e := s.rdReq req F.NODE_SEL_SLOT
  if 16320 ≤ e ∨ s.ndState e = 0 then s.adminDone 3 stBAD
  else
    let s := s.regroup e g
    (if s.ndLive e then s.cfgSet e else s).adminDone 3 stOK

/-! ## Civil time (R196, R197, R98) -/

/-- `n` octets at `o` of the calendar in force. -/
def State.calB (s : State) (o n : Nat) : Nat := ofOctetsLE ((s.cal.octets.drop o).take n)

/-- A calendar's counts and sizes agree (R196). -/
def calendarOk (l : List Byte) : Bool :=
  let b (o n : Nat) : Nat := ofOctetsLE ((l.drop o).take n)
  let ng := b 2 1
  let np := b 3 1
  let nr := b 4 2
  decide (1 ≤ ng ∧ ng ≤ 32) && decide (1 ≤ np ∧ np ≤ 64) && decide (1 ≤ nr ∧ nr ≤ 1024) &&
  decide (l.length = 1560 + 392 * np + 16 * nr) &&
  (List.range np).all (fun p => decide (b (1560 + 392 * p) 1 ≤ 48) &&
    (List.range (b (1560 + 392 * p) 1)).all (fun i => bits (b (1560 + 392 * p + 8 + 8 * i) 1) 1 2 != 3)) &&
  (List.range nr).all (fun r => decide (b (1560 + 392 * np + 16 * r + 14) 1 < np))

/-- A calendar taken, or refused with event 0x0003 (R196). -/
def State.loadCalendar (s : State) (l : List Byte) : Nat × State :=
  if calendarOk l then (stOK, s.setCal { s.cal with octets := l })
  else (stBAD, s.raiseEvent 0x0003 (unitOf bNODE) (o1 0x01))

/-- A calendar is in force. -/
def State.hasCal (s : State) : Bool := s.cal.octets != []

/-- Wall time is valid (R98). -/
def State.wallValid (s : State) : Bool :=
  !s.isSet F.RTC_STAT_OSF || (s.tb0Valid && (s.rd F.TIME_TB0_STAT_SOURCE == 2 || s.rd F.TIME_TB0_STAT_SOURCE == 3))

/-- TAI seconds: TB0 while it is valid, else the RTC (R27, R98). -/
def State.taiSec (s : State) : Nat := if s.tb0Valid then s.tb0Sec else s.rtcSec

/-- TAI − UTC in seconds (R197). -/
def State.utcOffset (s : State) : Int :=
  match s.time.master with
  | some m => if m.ann.utcValid then toSigned 16 m.ann.utcOffset.toNat else (s.calB 8 1 : Int)
  | none => (s.calB 8 1 : Int)

/-- Seconds from 1970-01-01 to 2000-01-01. -/
def epoch2000 : Int := 946684800

/-- UTC seconds since 2000 of a TAI second. -/
def State.utcOf (s : State) (tai : Int) : Int := tai - s.utcOffset - epoch2000

/-- A UTC second lies in a DST period. -/
def State.inDst (s : State) (u : Int) : Bool :=
  (List.range 8).any (fun k => decide ((s.calB (16 + 8 * k) 4 : Int) ≤ u ∧ u < (s.calB (20 + 8 * k) 4 : Int)))

def State.zoneMin (s : State) : Int := toSigned 16 (s.calB 6 2)
def State.dstMin (s : State) : Int := toSigned 16 (s.calB 10 2)

/-- The offset of local time from UTC at a UTC second, in minutes. -/
def State.zoneAt (s : State) (u : Int) : Int := s.zoneMin + (if s.inDst u then s.dstMin else 0)

/-- Local seconds since 2000-01-01 00:00. -/
def State.localSec (s : State) : Int :=
  let u := s.utcOf (s.taiSec : Int)
  u + 60 * s.zoneAt u

/-- The UTC second of a local second; in the repeated hour, the one in DST where there is one. -/
def State.utcOfLocal (s : State) (l : Int) : Int :=
  let u := l - 60 * (s.zoneMin + s.dstMin)
  if s.inDst u then u else l - 60 * s.zoneMin

/-- Month and day of the civil-day key `d`, from days since 0000-03-01. -/
def monthDay (d : Nat) : Nat × Nat :=
  let doe := (d + 730425) % 146097
  let yoe := (doe - doe / 1460 + doe / 36524 - doe / 146096) / 365
  let doy := doe - (365 * yoe + yoe / 4 - yoe / 100)
  let mp := (5 * doy + 2) / 153
  (if mp < 10 then mp + 3 else mp - 9, doy - (153 * mp + 2) / 5 + 1)

/-- The solar table's index of a day: that of its date in a leap year (R196). -/
def solarIndex (d : Nat) : Nat :=
  let (m, day) := monthDay d
  [0, 31, 60, 91, 121, 152, 182, 213, 244, 274, 305, 335].getD (m - 1) 0 + day - 1

/-! ## Steps (R198) -/

/-- A resolved step: minute of the day, LEVEL, FADE, CURVE. -/
structure CalStep where
  minute : Nat
  level  : Nat
  fade   : Nat
  curve  : Nat
  deriving DecidableEq, Repr

/-- Address in the calendar of rule `r`. -/
def State.ruleAt (s : State) (r : Nat) : Nat := 1560 + 392 * s.calB 3 1 + 16 * r

/-- The rule that wins for group `g` on day `d`. -/
def State.winningRule (s : State) (g d : Nat) : Option Nat :=
  ((List.range (s.calB 4 2)).filter (fun r =>
    let o := s.ruleAt r
    decide (s.calB o 4 ≤ d ∧ d ≤ s.calB (o + 4) 4) && bitAt (s.calB (o + 8) 4) g && bitAt (s.calB (o + 12) 1) ((d + 5) % 7))).foldl
    (fun best r => match best with
      | none => some r
      | some b => if s.calB (s.ruleAt b + 13) 1 < s.calB (s.ruleAt r + 13) 1 then some r else some b) none

/-- `x` put behind every step of a lower or equal minute. -/
def insertStep (x : CalStep) : List CalStep → List CalStep
  | [] => [x]
  | y :: l => if x.minute < y.minute then x :: y :: l else y :: insertStep x l

/-- The steps of group `g` on day `d`, resolved and sorted. A step outside the day is taken at its first or last minute;
sun anchors move with DST where the day's local noon lies in a DST period. -/
def State.steps (s : State) (g d : Nat) : List CalStep :=
  match s.winningRule g d with
  | none => []
  | some r =>
    let p := 1560 + 392 * s.calB (s.ruleAt r + 14) 1
    let sun := 96 + 4 * solarIndex d
    let noon : Int := (d : Int) * 86400 + 43200 - 60 * s.zoneMin
    let shift : Int := if s.inDst noon then s.dstMin else 0
    (List.range (s.calB p 1)).foldl (fun l i =>
      let o := p + 2 + 8 * i
      let fl := s.calB (o + 6) 1
      let t := toSigned 16 (s.calB o 2)
      let m : Int := match bits fl 1 2 with
        | 0 => t
        | 1 => t + (s.calB (sun + 2) 2 : Int) + shift
        | _ => t + (s.calB sun 2 : Int) + shift
      insertStep ⟨(max 0 (min 1439 m)).toNat, s.calB (o + 2) 2, s.calB (o + 4) 2, bits fl 0 1⟩ l) []

/-- The keys of group `g` whose step time less `lead` is reached by local second `l`, highest first, at most two, searched
from day `d` down: (key, local second of the step, step). -/
def State.dueKeys (s : State) (g : Nat) (l lead : Int) : Nat → Nat → List (Nat × Int × CalStep)
  | 0, _ => []
  | fuel + 1, d =>
    let st := s.steps g d
    let here := ((List.range st.length).filterMap (fun i =>
      match st[i]? with
      | some x =>
        let t : Int := (d : Int) * 86400 + 60 * (x.minute : Int)
        if t - lead ≤ l then some (64 * d + i, t, x) else none
      | none => none)).reverse
    if 2 ≤ here.length then here.take 2
    else
      match d with
      | 0 => here
      | d + 1 => (here ++ State.dueKeys s g l lead fuel d).take 2

/-- The lead of group `g` in seconds (R199). -/
def State.calLead (s : State) (g : Nat) : Nat :=
  let media := s.nd (groupEntry g) 4 2
  s.cfgVal bNODE (if bits media 12 4 = 0 then F.NODE_CAL_CFG_LEAD_CARRIER_S else F.NODE_CAL_CFG_LEAD_RADIO_S)

/-- Due keys of group `g` now: from tomorrow's down to a year back. -/
def State.dueNow (s : State) (g lead : Nat) : List (Nat × Int × CalStep) :=
  let l := s.localSec
  if l < 0 then [] else s.dueKeys g l (lead : Int) 368 ((l / 86400).toNat + 1)

/-- The carrier SFN[31:0] at a local second, through the present offset of TB0 and TB2 (R199). -/
def State.execT (s : State) (l : Int) : Nat :=
  if s.field.started ∧ s.tb0Valid then
    let tai := s.utcOfLocal l + epoch2000 + s.utcOffset
    let d : Int := tai * 1000000000 - (s.tb0Ns : Int)
    ofSigned 32 ((s.sfnC : Int) + (((s.tb2Ns : Int) - (s.sfStart 0 : Int)) + d) / 10000000)
  else 0xFFFFFFFF

/-- A DIM packet (R187), CMD_ID 0. -/
def dimPacket (curve source execT level fade : Nat) : List Byte :=
  o1 0x10 ++ o1 (curve + 2 * source) ++ octetsLE 2 0 ++ octetsLE 4 execT ++ octetsLE 2 level ++ octetsLE 2 fade

/-- Whether group `g` of SYM is armed (R228), shown in ARMED. -/
def State.groupArmed (s : State) (g : Nat) : Bool :=
  match s.rd (F.SYM_GROUP_ARM_MODE g) with
  | 0 => false
  | 1 => true
  | 2 => s.rd (F.SYM_GROUP_BASE g) != 0
  | _ => s.isSet (F.SYM_GROUP_ARM_SCAN g)

def State.showArmed (s : State) (g : Nat) : State := s.wrB (F.SYM_GROUP_ARMED g) (s.groupArmed g)

/-- A step of group `g` issued (R199, R200, R209, R228). -/
def State.issueStep (s : State) (g key : Nat) (t : Int) (x : CalStep) (several : Bool) : State :=
  let et := if several then 0xFFFFFFFF else s.execT t
  let s := (s.wr (F.NODE_CAL_LAST_KEY g) key).inc F.NODE_CAL_STAT_ISSUED
  let s := s.setCal { s.cal with level := s.cal.level.set g x.level }
  let s := if s.isOn 39 then (s.wr (F.SYM_GROUP_BASE g) x.level).showArmed g else s
  let pkt := dimPacket x.curve 0 et x.level x.fade
  let s := (s.pegPut 0 (downQueue (groupEntry g) 1) false pkt).2
  let l := s.field.regrouped.filter (fun n => s.nd n 16 1 == g)
  let s := l.foldl (fun s n => (s.pegPut 0 (64 * n + 1) false pkt).2) s
  s.setField { s.field with regrouped := s.field.regrouped.filter (fun n => ¬ l.contains n) }

/-- A DIM of the calendar can be issued: the NODE block and the Pegbox serve it. Before that, and after a reset until then, the
step in force is issued once both are back (R199). -/
def State.calServed (s : State) : Bool := s.isOn 31 && s.pegRuns

/-- One group evaluated. -/
def State.evalGroup (s : State) (g : Nat) : State :=
  match s.dueNow g (s.calLead g) with
  | [] => s
  | (key, t, x) :: rest =>
    let last := s.rd (F.NODE_CAL_LAST_KEY g)
    let fresh := match s.cal.seen.find g with
      | some k => decide (k < key)
      | none => false
    let s := s.setCal { s.cal with seen := s.cal.seen.set g key }
    if ¬ s.calServed then s.setCal { s.cal with level := s.cal.level.set g x.level }
    else if key ≤ last then (if fresh then s.inc F.NODE_CAL_STAT_SUPPRESSED else s)
    else
      let several := match rest with
        | (k2, _, _) :: _ => decide (last < k2)
        | [] => false
      s.issueStep g key t x several

/-- The schedule inputs offered to the scan engine, with their valid bits (R98, R200). -/
def State.offerSched (s : State) : State :=
  let on := (List.range 12).filter (fun f => s.cfgVal bNODE (F.NODE_FEEDER_GROUP_EN f) != 0)
  let lv := on.foldl (fun a f => if s.cal.level.get (s.cfgVal bNODE (F.NODE_FEEDER_GROUP_GROUP f)) 0 = 0 then a else setBit a f true) 0
  let vd := if s.wallValid then on.foldl (fun a f => setBit a f true) 0 else 0
  s.setCal { s.cal with sched := lv, valid := vd }

/-- A change of the zone offset in force makes every profile due (R192). -/
def State.zoneLook (s : State) : State :=
  let z := s.zoneAt (s.utcOf (s.taiSec : Int))
  let changed := match s.cal.zone with
    | some o => decide (o ≠ z)
    | none => false
  let s := s.setCal { s.cal with zone := some z, profDone := if changed then [] else s.cal.profDone }
  if changed then { s with time := { s.time with profileDue := true } } else s

/-- CALENDAR_EVALUATION (R98, R199). -/
def State.calendarEval (s : State) : State :=
  if ¬ s.allOn [0, 47, 49] then s
  else if s.wallValid ∧ s.hasCal then
    (((List.range (s.calB 2 1)).foldl State.evalGroup s).zoneLook).offerSched
  else s.offerSched

/-! ## PROFILE (R192) -/

/-- The step octets of a PROFILE of group `g` on day `d`. -/
def State.profSteps (s : State) (g d : Nat) : List Byte :=
  (s.steps g d).flatMap (fun x => octetsLE 2 x.minute ++ octetsLE 2 x.level ++ octetsLE 2 x.fade ++ o1 x.curve ++ o1 0)

/-- The next start or end of a DST period after UTC second `u`: the second and the minutes added from it. -/
def State.nextDst (s : State) (u : Int) : Option (Int × Int) :=
  ((List.range 8).flatMap (fun k =>
    let a : Int := (s.calB (16 + 8 * k) 4 : Int)
    let b : Int := (s.calB (20 + 8 * k) 4 : Int)
    if a < b then [(a, s.dstMin), (b, -s.dstMin)] else [])).foldl (fun best x =>
      if x.1 ≤ u then best
      else match best with
        | none => some x
        | some y => if x.1 < y.1 then some x else some y) none

/-- The PROFILE of group `g`, and the state that remembers its VERSION. -/
def State.profile (s : State) (g d : Nat) : List Byte × State :=
  let st := s.profSteps g d
  let (v, old) := s.cal.profVer.get g (0, [])
  let v := if old = st then v else (v + 1) % 65536
  let s := s.setCal { s.cal with profVer := s.cal.profVer.set g (v, st) }
  let u := s.utcOf (s.taiSec : Int)
  let (dsfn, dmin) := match s.nextDst u with
    | some (t, m) => (((s.sfnC : Int) + (t - u) * 100).toNat, m)
    | none => (0, 0)
  (o1 0x20 ++ o1 (st.length / 8) ++ octetsLE 2 v ++ octetsLE 6 s.sfnC ++ octetsLE 4 (ofSigned 32 s.localSec) ++
    octetsLE 6 dsfn ++ octetsLE 2 (ofSigned 16 dmin) ++ octetsLE 2 65535 ++ st, s)

/-- The PROFILE of node `e` sent, where its group has steps today. -/
def State.sendProfile (s : State) (e : Nat) : State :=
  let d := (s.localSec / 86400).toNat
  match s.servant 3 e with
  | none => s
  | some p =>
    if ¬ s.hasCal ∨ s.steps (s.nd e 16 1) d = [] then s
    else
      let (pkt, s) := s.profile (s.nd e 16 1) d
      let (r, s) := s.pegPut p (64 * e + 2) false pkt
      if r.1 = stOK then
        s.setCal { s.cal with
          profDay := s.cal.profDay.set e d, profDone := if s.time.profileDue then s.cal.profDone ++ [e] else s.cal.profDone }
      else s

/-- PROFILE_SEND: node `e` is due its profile between 12:00 and 13:00 once per civil day, and after a step of TB0, a change
of zone offset or a replacement start (R192, R457). -/
def State.profileSend (s : State) (e : Nat) : State :=
  let l := s.localSec
  let d := (l / 86400).toNat
  let noon := decide (43200 ≤ l % 86400 ∧ l % 86400 < 46800) && s.cal.profDay.find e != some d
  let due := s.time.profileDue && !s.cal.profDone.contains e
  if e < 16320 ∧ s.ndLive e ∧ s.wallValid ∧ (noon ∨ due) then
    let s := s.sendProfile e
    if s.time.profileDue ∧ (s.nodeSlots.filter s.ndLive).all (fun n => s.cal.profDone.contains n) then
      { s with time := { s.time with profileDue := false }, cal := { s.cal with profDone := [] } }
    else s
  else s

/-- RESEND_PROFILE: NODE_ADMIN OP 0x4. -/
def State.resendProfile (s : State) (req : Nat) : State :=
  let e := s.rdReq req F.NODE_SEL_SLOT
  if 16320 ≤ e ∨ s.ndState e = 0 then s.adminDone 4 stBAD
  else ((s.sendProfile e).cfgSet e).adminDone 4 stOK

/-! ## Reports (R194, R195, R208) -/

/-- The packet of queue `q` under claim by one of the Courses `l`: its octets; the claim is released. A read that meets poison is
counted (R133). -/
def State.takePacket (s : State) (l : List Nat) (q : Nat) (poison : Bool) : Option (List Byte × State) :=
  match s.peg.claims.find q with
  | some cl =>
    if l.contains cl.port ∧ s.isOn cl.port then
      some (s.claimOctets cl, (if poison then s.poisonedRead cl else s).releaseClaim cl)
    else none
  | none => none

/-- The rejoin DIM of node `e` (R208): its group's step in force. -/
def State.rejoinDim (s : State) (e : Nat) : State :=
  match s.servant 3 e, s.dueNow (s.nd e 16 1) 0 with
  | some p, (_, _, x) :: _ =>
    ((s.pegPut p (64 * e + 1) false (dimPacket x.curve 3 0xFFFFFFFF x.level (s.rd F.NODE_CAL_CFG2_REJOIN_FADE))).2).nodeCnt 7
  | _, _ => s

/-- STATUS_PROCESS (R185, R194, R208). A poisoned packet is discarded (R18). -/
def State.statusProcess (s : State) (e : Nat) (poison : Bool) : State :=
  match s.takePacket (s.courses 3) (64 * e + 36) poison with
  | none => s
  | some (p, s) =>
    if poison then s
    else if ¬ (p.length = 20 ∧ p.take 1 = o1 0x83) then s.nodeCnt 5
    else
      let b (o n : Nat) : Nat := ofOctetsLE ((p.drop o).take n)
      let fl := b 1 1
      let was := bitAt (s.nd e 17 1) 3
      let now := bitAt fl 0
      let s := ((s.ndFlag e 3 now).ndFlag e 5 (bitAt fl 3)).ndFlag e 4 (bitAt fl 4)
      let s := ((s.setNd e 122 2 (b 2 2)).setNd e 126 2 (b 4 2)).setNd e 12 4 (b 8 4)
      let off := s.gauge.mains.filter (· ≠ e)
      let s := { s with gauge := { s.gauge with mains := if bitAt fl 2 then e :: off else off } }
      let s := if now ∧ ¬ was then (s.nodeCnt 6).ndCnt e 6 else s
      if ¬ now ∧ (was ∨ s.cal.left.contains e) then
        (s.setCal { s.cal with left := s.cal.left.filter (· ≠ e) }).rejoinDim e
      else s

/-- ALARM_PROCESS (R185, R195, R208): the STATUS after an ALARM 0x0009 is that on which the node has left orphan mode. -/
def State.alarmProcess (s : State) (e : Nat) (poison : Bool) : State :=
  match s.takePacket (s.courses 3) (64 * e + 32) poison with
  | none => s
  | some (p, s) =>
    if poison then s
    else if ¬ (p.length = 12 ∧ p.take 1 = o1 0x80) then s.nodeCnt 5
    else
      let s := if (p.drop 1).take 3 = o1 1 ++ octetsLE 2 0x0009 then
          s.setCal { s.cal with left := (e :: s.cal.left).dedup } else s
      s.raiseEvent 0x0030 (unitOf bNODE) (octetsBE 2 e ++ p)

/-! ## Beacons and images at a superframe boundary (R162, R203 to R205) -/

/-- An allocation entry's 32 bits. -/
def allocWord (a : Alloc) : Nat :=
  a.first.toNat + a.len.toNat * 2 ^ 7 + b2n a.up * 2 ^ 10 + b2n a.wake * 2 ^ 11 + a.slot.toNat * 2 ^ 12

/-- The allocations of medium `m` in the present superframe are those of `l`. -/
def State.setAllocs (s : State) (m : Nat) (l : List Alloc) : State :=
  s.setField { s.field with allocs := s.field.allocs.filter (fun x => x.1 ≠ m) ++ l.map (fun a => (m, a)) }

/-- The beacon of medium `m` with the allocations `l` (R162), and the wake patterns of those with WAKE (R171). A radio beacon draws
its airtime first; without a beacon nothing is allocated (R166). -/
def State.beacon (s : State) (m : Nat) (l : List Alloc) : State :=
  let k := bits (s.nd 16383 6 1) 0 6
  let l := s.plan m l
  if ¬ (s.mediumUp m ∧ s.mayTransmit ∧ s.keyUp k) then s.setAllocs m []
  else
    match s.airtime m 0 (s.cmdUs m (29 + 4 * l.length)) false false 1 with
    | none => (s.defer m).setAllocs m []
    | some s =>
      let sfn := s.sfnOf m
      let fl := b2n (Config.contentionOpen m sfn) + 2 * b2n s.moving + 4 * s.rd F.TIME_TB2_STAT_SLEW
      let pl := octetsLE 6 sfn ++ o1 fl ++ o1 l.length ++ l.flatMap (fun a => octetsLE 4 (allocWord a))
      let s := s.putFrame m 0 (s.frameTo 0 16383 0 false false false 0 (sfn % 2 ^ 32) (k + 0x80) pl)
      let s := s.setAllocs m l
      if m < 12 then l.foldl (fun s a => s.wakeSlots m a) s else s

/-- Every flow-4 packet of node `e` committed before the boundary claimed; the last one's 12 octets become IMG_OUT, the
others count in NODE_CNT[4], and all are released (R205, R209). A packet that reads poisoned goes no further (R141). -/
def State.takeOutputs (s : State) (e m : Nat) (poison : Bool) : Nat → Bool → State
  | 0, _ => s
  | fuel + 1, had =>
    let q := 64 * e + 4
    let next : Option (Claim × State) := match s.heldClaim 27 q with
      | some cl => some (cl, s)
      | none => if ¬ (s.desc q).claimed ∧ s.hasPacket q then some (s.claim q 27) else none
    match next with
    | none => s
    | some (cl, s) =>
      if poison then State.takeOutputs (s.dropClaim cl m stPOISON) e m poison fuel had
      else
        let p := s.claimOctets cl
        let s := s.releaseClaim cl
        if p.length = 12 then
          let s := if had then s.nodeCnt 4 else s
          State.takeOutputs (s.setNd e 76 12 (ofOctetsLE p)) e m poison fuel true
        else State.takeOutputs (s.nodeCnt 5) e m poison fuel had

/-- Node `e` is due an output image in SFN `x` of its medium. -/
def State.outputDue (s : State) (m x e : Nat) : Bool :=
  s.imageNode m e 2 && s.ndState e == 2 && s.imagePhase x e && s.keyUp (bits (s.nd e 19 1) 0 6)

/-- The image aggregate of medium `m` (R203, R205): header, an entry for each due node and the check; on carrier a burst with the
code of R143 over all used carriers, on radio a frame in the beacon mode. -/
def State.aggregate (s : State) (poisoned : List Nat) (m : Nat) : State :=
  let x := s.sfnOf m
  let due := (s.nodeSlots.filter (s.outputDue m x)).take (if m < 12 then 4 else 16)
  if due = [] ∨ ¬ s.mediumUp m ∨ ¬ s.mayTransmit then s
  else
    match s.airtime m 1 (s.cmdUs m (8 + 18 * due.length)) false false 1 with
    | none => s.defer m
    | some s =>
      let s := due.foldl (fun s e =>
        s.takeOutputs e m (poisoned.contains e) ((s.desc (64 * e + 4)).pktCnt + 2) false) s
      let h := macHeader ⟨4, false, false, false, false, false, 1, 0, .ofNat 14 s.moduleId, 16383, 0, 0, 0, []⟩
      let l := psdu (h ++ due.flatMap (fun e => s.imageOctets e x (s.nd e 76 12)))
      let air := match mediumRadio m with
        | some r => Config.radioAir (s.rd (F.FRAD_RADIO_CFG_MODE r)) false l
        | none => burstCode 0 (scrambled (octetBits l))
      (((s.medCnt m 0).couple m).probeStart m).emit (.aggregate m (s.chanOf m 1) (s.outPwr m) (due.map (fun e => (e, s.nd e 76 12))) l air)

/-- Input images of medium `m` due in SFN `x` that did not come (R209). -/
def State.missedImages (s : State) (m x : Nat) : State :=
  (s.nodeSlots.filter (fun e => s.imageNode m e 1 && s.ndState e == 2 && s.imagePhase x e &&
      s.nd e 100 4 != x % 2 ^ 32 && s.nd e 116 4 != x % 2 ^ 32)).foldl (fun s e => (s.ndCnt e 7).nodeCnt 3) s

end Sys2Proof.Machine
end

