-- ==== Sys2Proof/Machine/Sym.lean ====
section
/-!
DEFINITION. Machine/Sym.lean: Sympath (spec/08): its memory, the street graph, events, the walk, commands and results.
-/
namespace Sys2Proof.Machine

def State.setSym (s : State) (x : SymState) : State := { s with sym := x }

def State.symCnt (s : State) (i : Nat) : State := s.inc (F.SYM_CNT_COUNT i)

/-! ## Sympath memory (R211 to R215) -/

/-- `n` octets at octet `o` of vertex header `v`. -/
def State.vtx (s : State) (v o n : Nat) : Nat := s.rdMem (0x02000000 + 16 * v + o) n
/-- Bits of edge `j` of vertex `v`. -/
def State.edge (s : State) (v j lo w : Nat) : Nat := bits (s.rdMem (0x02040000 + 64 * v + 8 * j) 8) lo w
/-- The address of a presence record and of a detector map entry. -/
def presAt (v : Nat) : Nat := 0x02140000 + 16 * v
def detAt (n : Nat) : Nat := 0x02180000 + 16 * n

/-- A presence record is read as 16 octets and written as one act (R215). -/
def State.pres (s : State) (v lo w : Nat) : Nat := bits (s.rdMem (presAt v) 16) lo w
def State.setPres (s : State) (v lo w x : Nat) : State := s.wrMem (presAt v) 16 (setBits (s.rdMem (presAt v) 16) lo w x)

/-! ## RUN and commit (R230) -/

/-- RUN as it follows its conditions; SYM_LATENCY.MAX_NS counts from its rise (R226). -/
def State.showSymRun (s : State) : State :=
  let up := s.isOn 39 && s.isSet F.SYM_CTRL_ENABLE && s.rd F.SYM_GRAPH_STAT_N_VERTICES != 0
  (if up ∧ ¬ s.run bSYM then s.wr F.SYM_LATENCY_MAX_NS 0 else s).wrB (F.STATE_RUN bSYM) up

/-- Sympath is idle: no event in progress. -/
def State.symIdle (s : State) : Bool := s.sym.evt.isNone

/-- The SYM commit point: after an event's last result, and at once while idle; ARMED follows ARM_MODE and its inputs. -/
def State.symCommit (s : State) : State :=
  (List.range 32).foldl State.showArmed (if s.symIdle then s.commit bSYM else s)

/-! ## Graph loading (R216, R217) -/

/-- The four tables of an image at `a`, by table: address. -/
def imgTable (a k : Nat) : Nat := a + 4096 + (match k with | 0 => 0 | 1 => 0x40000 | 2 => 0x140000 | _ => 0x180000)

/-- The checks of R216 on the image at `a`. -/
def State.graphOk (s : State) (a : Nat) : Bool :=
  let n := s.rdMem (a + 12) 2
  let lampOk (x : Nat) : Bool := x == 0x3FFF || decide (x < 16320)
  s.rdMem a 4 == 0x50594D53 && s.rdMem (a + 4) 2 == 1 && decide (1 ≤ n ∧ n ≤ 16384) &&
  Config.sha384 (s.mem.readN (a + 4096) 0x1C0000) == ofOctetsBE (s.mem.readN (a + 16) 48) &&
  (List.range n).all (fun v =>
    let h := imgTable a 0 + 16 * v
    let ne := s.rd8 (h + 4)
    decide (ne ≤ 8) && lampOk (bits (s.rdMem h 2) 0 14) && lampOk (bits (s.rdMem (h + 2) 2) 0 14) &&
    (List.range ne).all (fun j =>
      let e := s.rdMem (imgTable a 1 + 64 * v + 8 * j) 8
      decide (bits e 0 14 < n) && bits e 48 16 != 0 && bits e 14 2 != 3))

/-- GRAPH_LOAD (R216, R217): refused with its event, or LOADING while the bulk mover copies. -/
def State.graphLoad (s : State) (a : Nat) : State :=
  if ¬ s.isOn 39 ∨ s.isSet F.SYM_CTRL_LOADING then s
  else if s.graphOk a then
    (s.setSym { s.sym with loading := some (s.rdMem (a + 8) 4, s.rdMem (a + 12) 2, a) }).wr F.SYM_CTRL_LOADING 1
  else (s.wr F.SYM_GRAPH_STAT_STATE 2).raiseEvent 0x0003 (unitOf bSYM) (o1 0x02)

/-- Memory of `n` octets at `src` copied to `dst`. Where an unlisted octet of the source reads as 0, as one of Sympath
memory does, the listed octets alone are copied. -/
def copyMem (m : Memory) (src dst n : Nat) : Memory :=
  if src + n ≤ 0x70000000 ∨ (0x72000000 ≤ src ∧ src + n ≤ 0x80000000) ∨ 0x100000000 ≤ src then
    (m.filter (fun c => decide (src ≤ c.1 ∧ c.1 < src + n))).foldl (fun m c => m.write (dst + (c.1 - src)) c.2)
      (m.clear dst n)
  else m.writeL dst (m.readN src n)

/-- A graph is in use: its registers. -/
def State.graphUsed (s : State) (id n : Nat) : State :=
  ((s.wr F.SYM_GRAPH_ID_ID id).wr F.SYM_GRAPH_STAT_STATE 1).wr F.SYM_GRAPH_STAT_N_VERTICES n

/-- The graph that the settings region keeps loaded into Sympath memory as PD39 comes ON from OFF (R99, assumption 86). -/
def State.graphBack (s : State) : State :=
  match s.sym.graph with
  | some (id, n, l) =>
    if s.isOn 44 then
      ({ s with mem := l.foldl (fun (m : Memory) (c : Host.Cell) => m.write (0x02000000 + c.1) c.2) (s.mem.clear 0x02000000 0x200000) }).graphUsed id n
    else s
  | none => s

/-- GRAPH_LOADED (R212, R217): no event in progress; the tables and header are in place, vertices from N_VERTICES up and presence
are zero. The settings region keeps the graph (assumption 86). -/
def State.graphLoaded (s : State) (us : Nat) : State :=
  match s.sym.loading with
  | none => s
  | some (id, n, a) =>
    if ¬ s.symIdle then s
    else
      let m := copyMem (copyMem s.mem (a + 4096) 0x02000000 0x1C0000) a 0x021C0000 4096
      let m := (m.clear (0x02000000 + 16 * n) (0x40000 - 16 * n)).clear (0x02040000 + 64 * n) (0x100000 - 64 * n)
      let m := m.clear 0x02140000 0x40000
      let s := ({ s with mem := m }).graphUsed id n
      let s := ((s.wr F.SYM_CTRL_LOADING 0).wr F.SYM_LOAD_TIME_US us).symCnt 19
      let kept := (m.filter (fun c => decide (0x02000000 ≤ c.1 ∧ c.1 < 0x02200000))).map (fun c => (⟨c.1 - 0x02000000, c.2⟩ : Host.Cell))
      (s.setSym { s.sym with loading := none, graph := some (id, n, kept) }).showSymRun

/-! ## Time (R219) -/

/-- Now, in µs on the carrier axis. -/
def State.symNow (s : State) : Nat := s.sym.time + (s.sys.refTick - s.sym.stamp)

/-- The copy set at a carrier superframe boundary. -/
def State.symTimeSet (s : State) : State :=
  if s.allOn [39, 45] then s.setSym { s.sym with time := s.sfnC * 10000, stamp := s.sys.refTick } else s

/-- Signed distance from `a` to `b` of 32-bit values by serial arithmetic. -/
def serialDiff (b a : Nat) : Int := toSigned 32 ((b % 2 ^ 32 + 2 ^ 32 - a % 2 ^ 32) % 2 ^ 32)

/-! ## Rules (R221, R222) -/

/-- A rule's fields: rule 4 × CLASS + KIND. -/
structure SymRule where
  level : Nat
  fadeUp : Nat
  curve : Nat
  bothWays : Nat
  contraflow : Nat
  follow : Nat
  lookahead : Nat
  fadeDown : Nat
  linger : Nat
  lead : Nat
  speedMin : Nat
  speedDefault : Nat

def State.symRule (s : State) (cls kind : Nat) : SymRule :=
  let n := 4 * cls + kind
  { level := s.rd (F.SYM_RULE_A_LEVEL n), fadeUp := s.rd (F.SYM_RULE_A_FADE_UP n), curve := s.rd (F.SYM_RULE_B_CURVE n),
    bothWays := s.rd (F.SYM_RULE_B_BOTH_WAYS n), contraflow := s.rd (F.SYM_RULE_B_CONTRAFLOW n),
    follow := s.rd (F.SYM_RULE_B_FOLLOW n), lookahead := s.rd (F.SYM_RULE_B_LOOKAHEAD_M n),
    fadeDown := s.rd (F.SYM_RULE_B_FADE_DOWN n), linger := s.rd (F.SYM_RULE_C_LINGER n), lead := s.rd (F.SYM_RULE_C_LEAD n),
    speedMin := s.rd (F.SYM_RULE_D_SPEED_MIN n), speedDefault := s.rd (F.SYM_RULE_D_SPEED_DEFAULT n) }

/-- The angle between two directions in 0.01°. -/
def angle (a b : Nat) : Nat := let d := (a - b) + (b - a); min d (36000 - d)

/-- The event the walk works for: its detection time in µs, kind, heading, speed in use, origin vertex, EVENT_ID, busy. -/
structure SymEv where
  det     : Nat
  kind    : Nat
  heading : Nat
  speed   : Nat
  v0      : Nat
  id      : Nat
  busy    : Bool
  now     : Nat

/-- An entry of the heap: distance, push order, vertex, CLASS and BEARING of the edge it was reached by. -/
structure HeapEnt where
  d     : Nat
  order : Nat
  v     : Nat
  inE   : Option (Nat × Nat)
  deriving DecidableEq

/-- Edge `j` of vertex `v` is followable (R222); `inB` the bearing of the edge `v` was reached by. -/
def State.followable (s : State) (e : SymEv) (o : SymRule) (v j : Nat) (inB : Option Nat) : Bool :=
  let r := s.symRule (s.edge v j 16 3) e.kind
  let dir := s.edge v j 14 2
  let b := s.edge v j 32 16
  r.follow == 1 && (dir == 0 || (dir == 1 && r.contraflow == 1)) &&
  match inB with
  | none => e.heading == 0xFFFF || o.bothWays == 1 ||
      decide (angle b e.heading ≤ 100 * s.rd F.SYM_WALK_CFG_HEADING_TOL)
  | some i => decide (angle b i ≤ 100 * s.rd F.SYM_WALK_CFG_TURN_TOL)

/-- The first entry of smallest distance. -/
def heapMin : List HeapEnt → Option HeapEnt
  | [] => none
  | x :: l =>
    match heapMin l with
    | none => some x
    | some y => if y.d < x.d ∨ (y.d = x.d ∧ y.order < x.order) then some y else some x

/-- The entry of greatest distance, pushed last among equals. -/
def heapMax : List HeapEnt → Option HeapEnt
  | [] => none
  | x :: l =>
    match heapMax l with
    | none => some x
    | some y => if x.d < y.d ∨ (x.d = y.d ∧ x.order < y.order) then some y else some x

/-- A push (R221): (heap, drops). -/
def heapPush (h : List HeapEnt) (x : HeapEnt) : List HeapEnt × Nat :=
  let h := h ++ [x]
  if h.length ≤ 64 then (h, 0)
  else
    match heapMax h with
    | some m => (h.erase m, 1)
    | none => (h, 0)

/-- What the walk carries. -/
structure Walk where
  heap    : List HeapEnt
  seen    : List Nat
  pushed  : Nat
  visited : Nat
  sent    : Nat
  skipped : Nat
  dropped : Nat

/-- The time in µs the road user needs to distance `d`. -/
def travelUs (e : SymEv) (d : Nat) : Nat := if e.speed = 0 then Config.symTravel d else 3600000 * d / e.speed

/-- The BOOST packet of a lantern (R188, R223). -/
def boostPacket (e : SymEv) (r : SymRule) (arr : Nat) : List Byte :=
  let hold := min 65535 ((if e.busy then 2 else 1) * (r.lead + r.linger))
  let start : Int := (arr : Int) - 10000 * ((r.lead + r.fadeUp : Nat) : Int)
  o1 0x11 ++ o1 r.curve ++ octetsLE 2 0 ++ octetsLE 4 (ofSigned 32 (start / 10000)) ++ octetsLE 2 r.level ++
  octetsLE 2 r.fadeUp ++ octetsLE 2 hold ++ octetsLE 2 r.fadeDown ++ octetsLE 4 e.id ++ octetsLE 2 e.v0 ++ octetsLE 2 0

/-- Lantern `lamp` at vertex `v`, distance `d`, evaluated under rule `r` (R223). -/
def State.evalLamp (s : State) (e : SymEv) (w : Walk) (lamp v d : Nat) (r : SymRule) : Walk × State :=
  if lamp = 0x3FFF ∨ 32 ≤ w.sent then (w, s)
  else
    let arr := e.det + travelUs e d
    let endUs := arr + 10000 * r.linger
    let endMs := endUs / 1000
    let g := s.vtx v 6 1 % 32
    let skip (i : Nat) : Walk × State := ({ w with skipped := w.skipped + 1 }, s.symCnt i)
    if endUs < e.now then skip 13
    else if ¬ s.groupArmed g ∨ s.isSet (F.SYM_GROUP_INHIBIT g) then skip 14
    else if r.level ≤ s.rd (F.SYM_GROUP_BASE g) then skip 11
    else if 0 ≤ serialDiff (s.pres v 64 32) (endMs + 2 ^ 32 - s.rd F.SYM_REFRESH_MS) ∧ r.level ≤ s.pres v 96 16 then skip 12
    else
      let (res, s) := s.pegPut 29 (64 * lamp + 1) true (boostPacket e r arr)
      let c : BoostCmd := ⟨w.sent, v, endMs % 2 ^ 32, r.level, res.1⟩
      ({ w with sent := w.sent + 1 }, s.setSym { s.sym with cmds := s.sym.cmds ++ [c] })

/-- The edges of vertex `v` pushed. -/
def State.pushEdges (s : State) (e : SymEv) (o : SymRule) (w : Walk) (x : HeapEnt) : Walk :=
  (List.range (s.vtx x.v 4 1)).foldl (fun w j =>
    let d := x.d + s.edge x.v j 48 16
    if s.followable e o x.v j (x.inE.map (·.2)) ∧ d ≤ o.lookahead * 10 then
      let (h, n) := heapPush w.heap ⟨d, w.pushed, s.edge x.v j 0 14, some (s.edge x.v j 16 3, s.edge x.v j 32 16)⟩
      { w with heap := h, pushed := w.pushed + 1, dropped := w.dropped + n }
    else w) w

/-- The walk (R221). Every entry is pushed from a visited vertex, at most 8 each, so `fuel` of 1,024 suffices. -/
def State.symWalk (s : State) (e : SymEv) (o : SymRule) : Nat → Walk → Walk × State
  | 0, w => (w, s)
  | fuel + 1, w =>
    if s.rd F.SYM_WALK_CFG_MAX_VISIT ≤ w.visited ∨ 32 ≤ w.sent then (w, s)
    else
      match heapMin w.heap with
      | none => (w, s)
      | some x =>
        let w := { w with heap := w.heap.erase x }
        if w.seen.contains x.v then State.symWalk s e o fuel w
        else
          let w := { w with visited := w.visited + 1, seen := x.v :: w.seen }
          let r := match x.inE with
            | none => o
            | some (c, _) => s.symRule c e.kind
          let (w, s) := s.evalLamp e w (bits (s.vtx x.v 0 2) 0 14) x.v x.d r
          let (w, s) := s.evalLamp e w (bits (s.vtx x.v 2 2) 0 14) x.v x.d r
          State.symWalk s e o fuel (s.pushEdges e o w x)

/-! ## Events (R218, R220, R224) -/

/-- The claim of port 29 on `q` that Sympath has not released, and whether a flush has revoked it (R130, R218). -/
def State.symClaim (s : State) (q : Nat) : Option (Claim × Bool) :=
  match s.heldClaim 29 q with
  | some cl => some (cl, false)
  | none => (s.peg.revoked.find? (fun r => r.queue == q && r.port == 29)).map (fun r => (r, true))

/-- Claim `id` of port 29 on `q` released, where it still stands (R127, R130, R224). -/
def State.symRelease (s : State) (q id : Nat) : State :=
  match s.heldClaim 29 q with
  | some cl => if cl.id = id then s.releaseClaim cl else s
  | none =>
    match s.peg.revoked.find? (fun r => r.queue == q && r.port == 29 && r.id == id) with
    | some r => (s.pushRevoked r).forget r
    | none => s

/-- The event over: its claim released, commit point. -/
def State.symEnd (s : State) : State :=
  let s := match s.sym.evt with
    | some (q, id) => s.symRelease q id
    | none => s
  (s.setSym { s.sym with evt := none, cmds := [] }).symCommit

/-- The detection time of an event in µs on the carrier axis, T placed by serial arithmetic. -/
def State.detUs (s : State) (t tUs : Nat) : Nat :=
  let sfn := s.symNow / 10000
  (((sfn : Int) + serialDiff t sfn) * 10000 + (tUs : Int)).toNat

/-- The SYM_CNT index of the first check of R218 that fails. -/
def State.symCheck (s : State) (node : Nat) (p : List Byte) (poison : Bool) : Option Nat :=
  let b (o n : Nat) : Nat := ofOctetsLE ((p.drop o).take n)
  let det := s.detUs (b 8 4) (b 12 2)
  let m := detAt node
  let zone := b 6 1
  if poison then some 3
  else if ¬ (p.length = 16 ∧ b 0 1 = 0x82) then some 2
  else if 3 < b 1 1 ∨ ¬ s.isSet (F.SYM_KIND_CFG_EN (b 1 1)) ∨ b 7 1 < s.rd (F.SYM_KIND_CFG_CONF_MIN (b 1 1)) then some 6
  else if det + 1000 * s.rd F.SYM_AGE_CFG_MAX_AGE_MS < s.symNow then some 4
  else if b 14 2 = s.rdMem (m + 8) 2 ∧
      (serialDiff (det / 1000) (s.rdMem (m + 12) 4)).natAbs ≤ s.rd F.SYM_AGE_CFG_DUP_MS then some 5
  else if 3 < zone ∨ ¬ bitAt (s.rdMem (m + 2 * zone) 2) 15 then some 7
  else none

/-- Presence at the origin (R220): busy, and the state. -/
def State.presence (s : State) (v kind : Nat) : Bool × State :=
  let now := s.symNow / 1000
  let e := serialDiff now (s.pres v 0 32)
  let linger : Int := (s.rd F.SYM_PRES_TIME_LINGER_S : Int) * 1000
  let p : Int := (s.pres v 32 16 : Int)
  let p := if linger < e then max 0 (p - (s.rd F.SYM_PRES_TIME_DECAY : Int) * (e - linger) / 1000) else p
  let n := min 65535 (p.toNat + s.rd F.SYM_PRES_CFG_STEP)
  let s := (s.setPres v 0 32 now).setPres v 32 16 n
  let s := (s.setPres v 48 4 (setBit (s.pres v 48 4) kind true)).setPres v 112 16 (s.pres v 112 16 + 1)
  let busy := decide (s.rd F.SYM_PRES_CFG_BUSY ≤ n)
  (busy, if busy then s.symCnt 8 else s)

/-- An accepted event acted on: EVENT_ID, detector map, presence, walk, SYM_LAST_EVT. -/
def State.symAct (s : State) (node : Nat) (p : List Byte) (latency : Nat) : State :=
  let b (o n : Nat) : Nat := ofOctetsLE ((p.drop o).take n)
  let det := s.detUs (b 8 4) (b 12 2)
  let kind := b 1 1
  let v0 := bits (s.rdMem (detAt node + 2 * b 6 1) 2) 0 14
  let id := s.rd F.SYM_EVENT_ID_NEXT
  let s := s.inc F.SYM_EVENT_ID_NEXT
  let s := ((s.wrMem (detAt node + 8) 2 (b 14 2)).wrMem (detAt node + 12) 4 (det / 1000)).symCnt 1
  let (busy, s) := s.presence v0 kind
  let o := s.symRule (s.vtx v0 5 1 % 8) kind
  let raw := b 4 2
  let s := if raw = 0xFFFF then s.symCnt 17 else s
  let s := if b 2 2 = 0xFFFF then s.symCnt 18 else s
  let speed := max (if raw = 0xFFFF ∨ raw = 0 then o.speedDefault else raw) o.speedMin
  let e : SymEv := ⟨det, kind, b 2 2, speed, v0, id, busy, s.symNow⟩
  let (w, s) := s.symWalk e o 1024 ⟨[⟨0, 0, v0, none⟩], [], 1, 0, 0, 0, 0⟩
  let s := if 32 ≤ w.sent then s.symCnt 16
    else if w.heap ≠ [] ∧ s.rd F.SYM_WALK_CFG_MAX_VISIT ≤ w.visited then s.symCnt 15 else s
  let s := (List.range 4).foldl (fun s i => s.wr (F.SYM_LAST_EVT_WORD i) (b (4 * i) 4)) s
  let s := s.wr (F.SYM_LAST_EVT_WORD 4) (node + v0 * 2 ^ 16)
  let s := s.wr (F.SYM_LAST_EVT_WORD 5) (w.sent + w.skipped * 2 ^ 8 + w.visited * 2 ^ 16 + min 255 w.dropped * 2 ^ 24)
  if w.sent = 0 then s.symEnd
  else (s.wr F.SYM_LATENCY_LAST_NS latency).wr F.SYM_LATENCY_MAX_NS (max latency (s.rd F.SYM_LATENCY_MAX_NS))

/-- A check of R218 failed: counted, and in NODE_CNT[5] as well where it is OP or length (R185). -/
def State.symDiscard (s : State) (i : Nat) : State := ((if i = 2 then s.nodeCnt 5 else s).symCnt i).symEnd

/-- SYM_EVENT: the event of node slot `node` under claim of port 29 taken, where Sympath is idle and no graph loads (R217,
R218, R230). -/
def State.symEvent (s : State) (node : Nat) (poison : Bool) (latency : Nat) : State :=
  let q := 64 * node + 34
  if ¬ s.isOn 39 ∨ s.isSet F.SYM_CTRL_LOADING ∨ ¬ s.symIdle then s
  else
    match s.symClaim q with
    | none => s
    | some (cl, flushed) =>
      let s := (s.symCnt 0).setSym { s.sym with evt := some (q, cl.id) }
      let s := if poison ∧ ¬ flushed ∧ s.run bSYM then s.poisonedRead cl else s
      if ¬ s.run bSYM then s.symEnd
      else
        let p := s.claimOctets cl
        match s.symCheck node p (poison || flushed) with
        | some i => s.symDiscard i
        | none => s.symAct node p latency

/-- SYM_COMMAND_RESULT (R224). -/
def State.symResult (s : State) (k : Nat) : State :=
  match s.sym.cmds.find? (fun c => c.k == k) with
  | none => s
  | some c =>
    let s := if c.status = stOK then ((s.setPres c.vertex 64 32 c.endT).setPres c.vertex 96 16 c.level).symCnt 9
      else s.symCnt 10
    let s := s.setSym { s.sym with cmds := s.sym.cmds.filter (fun x => x.k != k) }
    if s.sym.cmds = [] then s.symEnd else s

/-- SYM_STAMP_REFRESH (R510): between events, records whose stamp lies more than 2³⁰ ms behind now. -/
def State.symRefresh (s : State) : State :=
  if ¬ s.isOn 39 ∨ ¬ s.symIdle then s
  else
    let now := s.symNow / 1000 % 2 ^ 32
    let old (t : Nat) : Bool := decide ((2 ^ 30 : Int) < serialDiff now t)
    let s := (List.range 16384).foldl (fun s v =>
      if old (s.pres v 0 32) then
        (((s.setPres v 32 16 0).setPres v 96 16 0).setPres v 0 32 now).setPres v 64 32 now
      else s) s
    (List.range 16320).foldl (fun s n =>
      if old (s.rdMem (detAt n + 12) 4) then s.wrMem (detAt n + 12) 4 now else s) s

/-- SYM_VSTAT (registers of spec/08): word `i` of the selected record; a read of word 0 latches all four. -/
def State.symVstat (s : State) (req i : Nat) : Nat × State :=
  let key (k : Nat) : Nat := reqKey req (F.SYM_VSTAT_WORD k).addr
  if i = 0 then
    let v := s.rdReq req F.SYM_VSEL_VERTEX
    let s := { s with latches := (List.range 4).foldl (fun m k => m.set (key k) (s.rdMem (presAt v + 4 * k) 4)) s.latches }
    (s.latches.get (key 0) 0, s)
  else (s.latches.get (key i) (s.rdMem (presAt (s.rdReq req F.SYM_VSEL_VERTEX) + 4 * i) 4), s)

/-- PD39 leaves ON: the event in progress is lost, its claim requeued with the port's (R230). -/
def State.symLost (s : State) : State :=
  ((s.setSym { s.sym with evt := none, cmds := [], loading := none }).wr F.SYM_CTRL_LOADING 0).wr (F.STATE_RUN bSYM) 0

end Sys2Proof.Machine
end

