-- ==== Sys2Proof/Machine/Gauge.lean ====
section
/-!
DEFINITION. Machine/Gauge.lean: the Gauge (spec/09): ranges, quantities, accumulation and spill, latches, S0 outputs and
inputs, the estimate, events.
-/
namespace Sys2Proof.Machine

def State.setGauge (s : State) (g : GaugeState) : State := { s with gauge := g }

/-- The Gauge integrates: PD36 ON and ENABLE 1. -/
def State.gaugeRuns (s : State) : Bool := s.isOn 36 && s.isSet F.GAUGE_CTRL_ENABLE

/-! ## Channels and points (R231 to R236) -/

def State.chEn (s : State) (c : Nat) : Bool := s.isSet (F.GAUGE_CH_CFG_EN c)

/-- A square root rounded down. -/
def isqrt (n : Nat) : Nat := Nat.sqrt n

/-- Codes at which a channel clips, leaves the high-gain path, and may return to it (R234, R235). -/
def clipCode : Nat := 8380000
def hiCode : Nat := 7340032
def loCode : Nat := 293601

/-- The parts of a code in which values are held after DC blocking (assumption 40). -/
def codePart : Nat := 65536

/-- The channels with two paths. -/
def isCurrent (c : Nat) : Bool := decide (4 ≤ c ∧ c < 20)

def State.gchan (s : State) (c : Nat) : ChanState := s.gauge.chan.get c ChanState.start

/-- The line frequency in mHz that TB1 gives (R387); before TB1 has run, GAUGE_NOMINAL.FN. -/
def State.lineMHz (s : State) : Nat :=
  let f := s.rd F.TIME_TB1_FREQ_MHZ
  if f = 0 then max 1 (1000 * s.rd F.GAUGE_NOMINAL_FN) else f

/-- The window of exactly one line cycle, 32,000 / f samples, in 2⁻¹⁶ sample (R238). -/
def State.window1 (s : State) : Nat := (32000000 * 65536 + s.lineMHz / 2) / s.lineMHz

/-- Steps 2 to 5 of R233 on one path of channel `c`: DC blocking, the integrator of a Rogowski channel with its compensation, the
gain, the fractional delay. -/
def State.chain (s : State) (c : Nat) (p : PathState) (code : Int) : PathState × Int :=
  let (dc, x) := Config.dcBlock p.dc code
  let coil := isCurrent c && s.isSet (F.GAUGE_CH_CFG_SENSOR c)
  let rog := if coil then p.rog - p.rog / 16384 + x else p.rog
  let (comp, y) := if coil then Config.rogowski s.lineMHz p.comp rog else (p.comp, x)
  let (dly, z) := Config.fracDelay (toSigned 14 (s.rd (F.GAUGE_CH_CAL_PHASE c))) p.dly
    (y * (s.rd (F.GAUGE_CH_CAL_GAIN c) : Int) / 131072)
  (⟨dc, rog, comp, dly⟩, z)

/-- The range of current channel `c` after a sample whose high-gain value is `hi` (R234). -/
def State.rangeSample (s : State) (c hi : Nat) : State :=
  match s.rd (F.GAUGE_CH_MATCH_FORCE (c - 4)) with
  | 1 => s.wr (F.GAUGE_CH_RMS_LOW_GAIN c) 0
  | 2 => s.wr (F.GAUGE_CH_RMS_LOW_GAIN c) 1
  | _ => if hiCode * codePart ≤ hi then s.wr (F.GAUGE_CH_RMS_LOW_GAIN c) 1 else s

/-- The metered value of current channel `c` from the value of its path in use (R234), in 2⁻¹⁶ low-gain code over 16,000,000: the
high-gain path has 16 times the gain, corrected by HI_PPM. -/
def State.currentOf (s : State) (c : Nat) (lo hi : Int) : Int :=
  if s.isSet (F.GAUGE_CH_RMS_LOW_GAIN c) then 16000000 * lo
  else (1000000 + toSigned 16 (s.rd (F.GAUGE_CH_MATCH_HI_PPM (c - 4)))) * hi

/-- A value put in front of a window of `n` samples. -/
def pushWin (n : Nat) (v : Int) (l : List Int) : List Int := (v :: l).take n

/-- Channel `c` takes sample `x` (R232 to R235): its filters, its range, its metered value with INVERT, its clip and peaks. A channel
not converted holds nothing. -/
def State.sampleChan (s : State) (x : GaugeSample) (c : Nat) : State :=
  if ¬ s.chEn c then s.setGauge { s.gauge with chan := s.gauge.chan.erase c }
  else
    let st := s.gchan c
    let n := s.window1 / 65536 + 1
    let code := x.lo.getD c 0
    let (lo, a) := s.chain c st.lo code
    let sign (v : Int) : Int := if s.isSet (F.GAUGE_CH_CFG_INVERT c) then -v else v
    let s := if clipCode ≤ code.natAbs ∧ ¬ s.gauge.clip.contains c then s.setGauge { s.gauge with clip := s.gauge.clip ++ [c] } else s
    if isCurrent c then
      let m := c - 4
      let codeH := x.hi.getD m 0
      let (hi, b) := s.chain c st.hi codeH
      let s := s.rangeSample c b.natAbs
      let u := s.gauge.sums.get m ⟨0, 0, 0, 0, 0⟩
      let d := codeH - 16 * code
      s.setGauge { s.gauge with
        chan := s.gauge.chan.set c { st with lo := lo, hi := hi, v := pushWin n (sign (s.currentOf c a b)) st.v }
        sums := s.gauge.sums.set m ⟨u.n + 1, u.lo + code, u.hi + codeH, u.d2 + (d * d).toNat, u.lo2 + (code * code).toNat⟩
        lowPk := s.gauge.lowPk.set m (max (s.gauge.lowPk.getD m 0) a.natAbs)
        hiPk := s.gauge.hiPk.set m (max (s.gauge.hiPk.getD m 0) b.natAbs) }
    else
      let v := sign a
      let (hil, w) := Config.hilbert st.hil v
      s.setGauge { s.gauge with
        chan := s.gauge.chan.set c { st with lo := lo, hil := hil, v := pushWin n v st.v, perp := pushWin n w st.perp } }

/-- Every channel takes sample `x`. -/
def State.channels (s : State) (x : GaugeSample) : State := (List.range 32).foldl (fun s c => s.sampleChan x c) s

/-- Channels back on the high-gain path at a line-cycle boundary (R234), and the cycle's peaks, sums and clips begun anew. -/
def State.rangeCycle (s : State) : State :=
  let g := s.gauge
  let s := ((List.range 16).map (· + 4)).foldl (fun s c =>
    if s.rd (F.GAUGE_CH_MATCH_FORCE (c - 4)) = 0 ∧ g.lowPk.getD (c - 4) 0 ≤ loCode * codePart ∧
        g.prevPk.getD (c - 4) 0 ≤ loCode * codePart then
      s.wr (F.GAUGE_CH_RMS_LOW_GAIN c) 0
    else s) s
  s.setGauge { s.gauge with prevPk := g.lowPk, lowPk := List.replicate 16 0, hiPk := List.replicate 16 0, clip := [], sums := [] }

/-- The sum over a window of `n` 2⁻¹⁶ samples that ends at the newest value, its oldest value in part; a value before the start counts
as 0. -/
def windowSum (n : Nat) (l : List Int) : Int :=
  65536 * (l.take (n / 65536)).sum + ((n % 65536 : Nat) : Int) * l.getD (n / 65536) 0

/-- The products of two windows. -/
def products (a b : List Int) : List Int := List.zipWith (· * ·) a b

/-- The parts of a full-scale value: a voltage of 620,000 mV and a current of CH_SCALE mA are 2²³ codes of `codePart`; a current in
1/16,000,000 of one (assumption 40). -/
def voltParts : Nat := 2 ^ 39
def ampParts : Nat := 2 ^ 39 * 16000000

def State.peak (s : State) (c : Nat) : Nat := s.rd (F.GAUGE_CH_SCALE_PEAK c)

/-- The parts of full scale of channel `c`'s values. -/
def chParts (c : Nat) : Nat := if isCurrent c then ampParts else voltParts

/-- A rms value times `k` of values in `parts` of full scale `peak`, over a window of `n`. -/
def rmsOf (n parts peak k : Nat) (l : List Int) : Nat :=
  isqrt ((windowSum n (products l l)).toNat * (peak * k) ^ 2 / (n * parts ^ 2))

/-- The rms of channel `c` over the last line cycle (R238), times `k`: in mV or mA for 1, in µA for 1,000. -/
def State.chRms (s : State) (c k : Nat) : Nat := rmsOf s.window1 (chParts c) (s.peak c) k (s.gchan c).v

/-- The channels of point `p` (R236), p = 1 to 15: voltage, current. -/
def State.ptChans (s : State) (p : Nat) : Nat × Nat :=
  if p < 4 then (p - 1, p + 3)
  else
    let f := p - 4
    (if s.isSet (F.GAUGE_CH_CFG_VSRC (8 + f)) then s.rd (F.GAUGE_CH_CFG_PHASE (8 + f)) else 20 + f, 8 + f)

/-- P_f, Q_f and S_f of a voltage and a current channel (R238), in µW, µvar and µVA towards zero. -/
def State.pairPwr (s : State) (v i : Nat) : Pwr :=
  let n := s.window1
  let a := s.gchan v
  let b := s.gchan i
  let k := s.peak v * s.peak i
  let den : Int := (n * voltParts * ampParts : Nat)
  let squares (l : List Int) : Nat := (windowSum n (products l l)).toNat
  ⟨(windowSum n (products a.v b.v) * (k : Int)).tdiv den, (windowSum n (products a.perp b.v) * (k : Int)).tdiv den,
   isqrt (squares a.v * squares b.v * k ^ 2 / (n * voltParts * ampParts) ^ 2)⟩

/-- The power of point `p` (R236, R238): point 0 the sums over the three phases. -/
def State.power (s : State) (p : Nat) : Pwr :=
  if p = 0 then
    let a := s.pairPwr 0 4
    let b := s.pairPwr 1 5
    let c := s.pairPwr 2 6
    ⟨a.p + b.p + c.p, a.q + b.q + c.q, a.s + b.s + c.s⟩
  else s.pairPwr (s.ptChans p).1 (s.ptChans p).2

/-- The rms current in µA that R240 compares for point `p`. -/
def State.creepRms (s : State) (p : Nat) : Nat :=
  if p = 0 then max (s.chRms 4 1000) (max (s.chRms 5 1000) (s.chRms 6 1000)) else s.chRms (s.ptChans p).2 1000

/-- The kinds a sample adds to, with the power each integrates (R239, R240). -/
def State.kinds (s : State) (p : Nat) : List (Nat × Nat) :=
  if s.creepRms p < 1000 * s.rd (F.GAUGE_PT_CFG_START_MA p) then []
  else
    let w := s.power p
    let quad := if 0 ≤ w.p then (if 0 ≤ w.q then 2 else 5) else (if 0 ≤ w.q then 3 else 4)
    [(if 0 ≤ w.p then 0 else 1, w.p.natAbs), (quad, w.q.natAbs), (6, w.s)]

/-! ## Accumulation and spill (R242 to R245) -/

def GQty.zero : GQty := ⟨0, 0, 0, 0, 0⟩

def State.gq (s : State) (q : Nat) : GQty := s.gauge.q.get q GQty.zero

def State.setGq (s : State) (q : Nat) (x : GQty) : State := s.setGauge { s.gauge with q := s.gauge.q.set q x }

/-- PC of point `p`. -/
def State.ptPc (s : State) (p : Nat) : Nat := s.rd64 (F.GAUGE_PT_PC_LO_PC p) (F.GAUGE_PT_PC_HI_PC p)

/-- The denominator of an increment at EQ_EXP `e`: units of 2⁻²⁴ EQ per µW and sample are 2²⁴ × 3125 over it. -/
def incDen (e : Nat) : Nat := 100000000000 * 3600 * 10 ^ e

/-- Spilled pulses of quantity `q` put on the S0 outputs routed to it (R251). -/
def State.backlog (s : State) (q n : Nat) : State :=
  (List.range 4).foldl (fun s k =>
    if s.isSet (F.GAUGE_S0OUT_CFG_EN k) ∧ s.rd (F.GAUGE_S0OUT_CFG_Q k) = q then
      let b := s.rd (F.GAUGE_S0OUT_BACKLOG_PENDING k) + n
      let s := if 65535 < b then s.wr (F.GAUGE_S0OUT_BACKLOG_OVF k) 1 else s
      s.wr (F.GAUGE_S0OUT_BACKLOG_PENDING k) (min 65535 b)
    else s) s

/-- One act of R243 on quantity `q` of point `p` with `power` in µW; whether ACC overflowed. -/
def State.accumulate (s : State) (p q power : Nat) : Bool × State :=
  let x := s.gq q
  let num := power * 3125 * 2 ^ 24 + x.frac
  let den := incDen (s.rd (F.GAUGE_PT_CFG_EQ_EXP p))
  let inc := num / den
  let unit := s.ptPc p * 2 ^ 24
  let a := x.acc + inc
  let n := if s.isSet (F.GAUGE_PT_CFG_SPILL_EN p) ∧ 0 < unit then a / unit else 0
  let a := a - n * unit
  let spilt := decide (2 ^ 72 ≤ a)
  let x' : GQty := ⟨if spilt then a - 2 ^ 72 else a, (x.pulses + n) % 2 ^ 64, (x.ovf + b2n spilt) % 2 ^ 64,
    (x.total + inc) % 2 ^ 96, num % den⟩
  let s := s.setGq q x'
  (spilt, if n = 0 then s else s.backlog q n)

/-- GUARD_USE of point `p`. -/
def State.showGuard (s : State) (p : Nat) : State :=
  s.wrB (F.GAUGE_PT_FLAGS_GUARD_USE p) ((List.range 7).any (fun k => decide (2 ^ 64 ≤ (s.gq (8 * p + k)).acc)))

/-! ## Events (R255 to R257) -/

def gKey (i subj : Nat) : Nat := 64 * i + subj

def State.gev (s : State) (i subj : Nat) : GEvt := s.gauge.evs.get (gKey i subj) ⟨0, 0, false, 0, 0, 0⟩

def State.setGev (s : State) (i subj : Nat) (e : GEvt) : State :=
  s.setGauge { s.gauge with evs := s.gauge.evs.set (gKey i subj) e }

/-- TB1's line-cycle count. -/
def State.lineCycle (s : State) : Nat := s.rd F.TIME_TB1_CYCLE_COUNT

/-- A declaration or clearance sent by the Gauge Courses as HCP event and recorder trigger (R257, assumption 8). -/
def State.gaugeReport (s : State) (i subj : Nat) (declared : Bool) (e : GEvt) : State :=
  let s := if declared then s.inc (F.GAUGE_EVT_CNT_COUNT i) else s
  if s.courses 4 = [] then s
  else
    let tail := if i = 6 ∨ i = 7 then [(4, ofSigned 32 e.extreme), (4, e.halves)] else []
    let data := evtData ([(1, i), (1, subj), (1, b2n declared), (4, s.lineCycle), (4, e.first), (4, ofSigned 32 e.extreme)] ++ tail)
    (s.raiseEvent 0x0040 (unitOf bGAUGE) data).recTrigger ((if declared then 0x0010 else 0x0020) + i) e.extreme data

/-- One judgement of event `i` at `subj`: `need` consecutive meetings declare it, `clr` misses clear it; the extreme value
is the least for the voltage dips, else the greatest. -/
def State.judge (s : State) (i subj : Nat) (cond : Bool) (need clr : Nat) (v : Int) : State :=
  let e := s.gev i subj
  if cond then
    let fresh := e.met == 0 && !e.active
    let ext := if fresh then v else if i = 2 ∨ i = 3 ∨ i = 6 then min e.extreme v else max e.extreme v
    let e' : GEvt := ⟨e.met + 1, 0, e.active || decide (need ≤ e.met + 1), if fresh then s.lineCycle else e.first, ext,
      if fresh then 1 else e.halves + 1⟩
    let s := s.setGev i subj e'
    if e'.active ∧ ¬ e.active then s.gaugeReport i subj true e' else s
  else
    let e' : GEvt := { e with met := 0, clear := e.clear + 1 }
    if e.active ∧ clr ≤ e'.clear then (s.setGev i subj { e' with active := false, clear := 0 }).gaugeReport i subj false e'
    else if e.active then s.setGev i subj e'
    else if e.met = 0 then s
    else s.setGev i subj ⟨0, 0, false, 0, 0, 0⟩

/-- The feeders whose PHASE is `x`. -/
def State.feedersOf (s : State) (x : Nat) : List Nat :=
  (List.range 12).filter (fun f => s.rd (F.GAUGE_CH_CFG_PHASE (8 + f)) == x)

/-- The points event `i` at `subj` bears on (R255). -/
def State.evtPoints (s : State) (i subj : Nat) : List Nat :=
  match i with
  | 0 => if subj = 0 then [0, 1, 2, 3] else [subj]
  | 1 => [0, 1, 2, 3]
  | 2 => [0, subj + 1] ++ (s.feedersOf subj).map (· + 4)
  | 3 => [0, subj + 1]
  | 4 => if subj < 7 then [0, subj - 3] else if subj = 7 then [] else [subj - 4]
  | 5 => [subj]
  | _ => []

/-- PT_FLAGS.ACTIVE, INCOMPLETE and OVERRANGE shown. -/
def State.showPoints (s : State) : State :=
  (List.range 16).foldl (fun s p =>
    let act := (List.range 6).foldl (fun a i =>
      if s.gauge.evs.any (fun e => e.2.active && e.1 / 64 == i && (s.evtPoints i (e.1 % 64)).contains p) then setBit a i true
      else a) 0
    let s := s.wr (F.GAUGE_PT_FLAGS_ACTIVE p) act
    let s := s.wrB (F.GAUGE_PT_FLAGS_INCOMPLETE p) (s.gauge.first || s.gauge.incPts.contains p)
    s.wrB (F.GAUGE_PT_FLAGS_OVERRANGE p) (s.gauge.overPts.contains p)) s

/-- Points marked INCOMPLETE for the present interval. -/
def State.markInc (s : State) (l : List Nat) : State :=
  s.setGauge { s.gauge with incPts := (s.gauge.incPts ++ l).dedup, winBad := (s.gauge.winBad ++ l).dedup }

/-- Points marked OVERRANGE for the present interval. -/
def State.markOver (s : State) (l : List Nat) : State :=
  s.setGauge { s.gauge with overPts := (s.gauge.overPts ++ l).dedup }

/-- The points that use channel `c` (R256). -/
def State.chPoints (s : State) (c : Nat) : List Nat :=
  (List.range 16).filter (fun p =>
    if p = 0 then decide (c < 3) || decide (4 ≤ c ∧ c ≤ 6)
    else (s.ptChans p).1 == c || (s.ptChans p).2 == c)

/-- SAG and SWELL at the end of a half cycle (R255): Urms(½) of channel `c` in mV. -/
def State.judgeHalf (s : State) (c u : Nat) : State :=
  let un := 100 * s.rd F.GAUGE_NOMINAL_UN_DV
  let sag := s.rd F.GAUGE_EVT_CFG_A_SAG_PCT
  let swell := s.rd F.GAUGE_EVT_CFG_A_SWELL_PCT
  let hyst := s.rd F.GAUGE_EVT_CFG_A_HYST_PCT
  let inSag := if (s.gev 6 c).active then decide (100 * u < (sag + hyst) * un) else decide (100 * u < sag * un)
  let inSwell := if (s.gev 7 c).active then decide ((swell - hyst) * un < 100 * u) else decide (swell * un < 100 * u)
  (s.judge 6 c inSag 1 1 (u : Int)).judge 7 c inSwell 1 1 (u : Int)

/-- The rms in mA of i₁ + i₂ + i₃ + i_N (R255 index 4). -/
def State.sumRms (s : State) : Nat :=
  let i (c : Nat) : List Int := (s.gchan c).v.map (· * (s.peak c : Int))
  let add := List.zipWith (· + ·)
  rmsOf s.window1 ampParts 1 1 (add (add (i 4) (i 5)) (add (i 6) (i 7)))

/-- The two paths of a channel disagree over a line cycle (R255 index 4): their means by more than 1 % of low-gain full scale, or the
rms of hi / 16 − lo by more than 0.5 % of it plus 2 % of the low-gain rms. -/
def PathSum.unequal (u : PathSum) : Bool :=
  decide (0 < u.n) &&
    (decide (2 ^ 23 * 16 * u.n < 100 * (u.hi - 16 * u.lo).natAbs) ||
     decide (5 * 2 ^ 23 * 16 + 20 * isqrt (256 * u.lo2 / u.n) < 1000 * isqrt (u.d2 / u.n)))

/-- The criteria judged once per line cycle: (index, subject, met, cycles to declare, cycles to clear, value). -/
def State.criteria (s : State) (c : LineCycle) : List (Nat × Nat × Bool × Nat × Nat × Int) :=
  let un := 100 * s.rd F.GAUGE_NOMINAL_UN_DV
  let u (ch : Nat) : Nat := s.chRms ch 1
  let there (ch : Nat) : Bool := decide (80 * un ≤ 100 * u ch)
  let low (ch : Nat) : Bool := decide (100 * u ch < 20 * un)
  let feeder (f : Nat) : Bool := s.chEn (20 + f) && there (20 + f)
  let anyFeeder (x : Nat) : Bool := (s.feedersOf x).any feeder
  let hiU := max (u 0) (max (u 1) (u 2))
  let loU := min (u 0) (min (u 1) (u 2))
  let lowN := ([0, 1, 2].filter low).length
  let anyThere := [0, 1, 2].any there
  let seq := [0, 1, 2].all there && decide (22000 ≤ c.angL2 ∧ c.angL2 ≤ 26000 ∧ 10000 ≤ c.angL3 ∧ c.angL3 ≤ 14000)
  let e0 := (0, 0, seq, 10, 10, (c.angL2 : Int)) :: (List.range 12).map (fun f =>
    (0, 4 + f, feeder f && decide (2000 < c.feedAng.getD f 0), 10, 10, (c.feedAng.getD f 0 : Int)))
  let e1 := [(1, 0, decide (1000 * s.rd F.GAUGE_EVT_CFG_A_NPE_V ≤ u 3) && decide (110 * un ≤ 100 * hiU) &&
    decide (100 * loU ≤ 90 * un), 5, 50, (u 3 : Int))]
  let e2 := [0, 1, 2].map (fun x => (2, x, low x && decide (lowN < 3) && anyThere && !anyFeeder x, 3, 10, (u x : Int)))
  let e3 := [0, 1, 2].map (fun x => (3, x, low x && anyFeeder x, 3, 10, (u x : Int)))
  let maxI := max (u 4) (max (u 5) (u 6))
  let sumBad := decide (20 * 500 + maxI < 20 * s.sumRms)
  let e4 := (List.range 16).map (fun m =>
    let dual := !s.gauge.clip.contains (m + 4) && decide (s.gauge.hiPk.getD m 0 < hiCode * codePart) &&
      decide (16 * s.gauge.lowPk.getD m 0 < hiCode * codePart) && (s.gauge.sums.get m ⟨0, 0, 0, 0, 0⟩).unequal
    (4, m + 4, (s.chEn (m + 4) && dual) || (decide (m < 4) && sumBad), 25, 10, (s.chRms (m + 4) 1 : Int)))
  let e8 := (List.range 32).map (fun ch => (8, ch, s.gauge.clip.contains ch, 5, 10, (u ch : Int)))
  let e10 := (List.range 4).map (fun k =>
    (10, k, s.gauge.stuck.contains k && s.isSet (F.GAUGE_S0IN_STAT_LEVEL_LOW k), 1, 10, (k : Int)))
  e0 ++ e1 ++ e2 ++ e3 ++ e4 ++ e8 ++ e10

/-- Every criterion of a line cycle judged, and the interval's marks (R255, R256). -/
def State.judgeCycle (s : State) (c : LineCycle) : State :=
  let l := s.criteria c
  let s := l.foldl (fun s x =>
    let (i, subj, cond, need, clr, v) := x
    let s := if cond ∧ 1 ≤ i ∧ i ≤ 4 then s.markInc (s.evtPoints i subj) else s
    let s := if cond ∧ i = 8 then s.markOver (s.chPoints subj) else s
    if i = 10 ∧ ¬ (s.gev 10 subj).active then s else s.judge i subj cond need clr v) s
  let s := (s.gauge.evs.filter (fun e => e.1 / 64 == 5 && decide (0 < e.2.met))).foldl (fun s e => s.markInc [e.1 % 64]) s
  s.showPoints

/-! ## Samples -/

/-- The integration of one sample (R239, R240, R243). -/
def State.integrate (s : State) (x : GaugeSample) : State :=
  let s := s.channels x
  let s := (List.range 16).foldl (fun s p =>
    let s := (s.kinds p).foldl (fun s kp =>
      let (spilt, s) := s.accumulate p (8 * p + kp.1) kp.2
      if spilt then
        let s := (s.wr (F.GAUGE_PT_FLAGS_GUARD_OVF p) 1).setGauge { s.gauge with govfQ := (8 * p + kp.1) :: s.gauge.govfQ }
        s.gaugeReport 9 p true ⟨1, 0, false, s.lineCycle, 1, 0⟩
      else s) s
    s.showGuard p) s
  let s := s.setGauge { s.gauge with
    winP := (List.range 12).foldl (fun m f =>
      let (n, e) := m.get f (0, 0)
      m.set f (n + 1, e + (s.power (4 + f)).p)) s.gauge.winP }
  x.half.foldl (fun s c => s.judgeHalf c (s.chRms c 1)) s

/-- GAUGE_SAMPLE. -/
def State.gaugeSample (s : State) (x : GaugeSample) : State := if s.gaugeRuns then s.integrate x else s

/-! ## Latches (R247 to R250) -/

/-- FLAGS of entry `q` for the interval that closes. -/
def State.entryFlags (s : State) (q : Nat) : Nat :=
  b2n (s.gauge.first || s.gauge.incPts.contains (q / 8)) + 2 * b2n (s.gauge.overPts.contains (q / 8)) +
  4 * b2n (s.gauge.govfQ.contains q) + 8 * b2n (decide (2 ^ 64 ≤ (s.gq q).acc))

/-- The octets of a latch set. -/
def State.latchSet (s : State) (seq n : Nat) (forced : Bool) : List Byte :=
  let fl := b2n s.tb0Valid + 2 * b2n s.gauge.first + 4 * b2n forced
  octetsLE 8 seq ++ octetsLE 4 s.lineCycle ++ octetsLE 2 n ++ o1 (s.rd F.TIME_TB0_SUB_EPOCH) ++ o1 fl ++
  octetsLE 8 s.tb0Sec ++ octetsLE 4 (s.tb0Ns % 1000000000) ++ octetsLE 8 s.opSec ++ octetsLE 4 (s.rd F.PWR_CYCLES_COUNT) ++
  List.replicate 24 0 ++
  (List.range 16).flatMap (fun p => octetsLE 8 (s.rd64 (F.GAUGE_PT_EST_LO_ESTIMATE p) (F.GAUGE_PT_EST_HI_ESTIMATE p))) ++
  (List.range 128).flatMap (fun q =>
    let x := s.gq q
    octetsLE 8 x.pulses ++ octetsLE 9 x.acc ++ o1 (s.entryFlags q) ++ o1 (s.rd (F.GAUGE_PT_CFG_EPOCH (q / 8))) ++
    List.replicate 5 0 ++ octetsLE 8 x.ovf) ++
  octetsLE 8 seq

/-- GAUGE_LATCH (R248): the set goes into the bank that is not the latest, and GAUGE_LATCH_SEQ advances. -/
def State.gaugeLatch (s : State) (forced : Bool) : State :=
  let seq := (s.rd64 F.GAUGE_LATCH_SEQ_LO_SEQ F.GAUGE_LATCH_SEQ_HI_SEQ + 1) % 2 ^ 64
  let l := s.latchSet seq (s.rd F.GAUGE_LATCH_CFG_N) forced
  let s := s.wrOctets (0x007E0000 + 0x2000 * (seq % 2)) l
  let s := s.wr64 F.GAUGE_LATCH_SEQ_LO_SEQ F.GAUGE_LATCH_SEQ_HI_SEQ seq
  (s.setGauge { s.gauge with latched := s.gauge.q, first := false, incPts := [], overPts := [], govfQ := [] }).showPoints

/-- Points whose shadow changes EQ_EXP or PC (R246). -/
def State.rebased (s : State) : List Nat :=
  (List.range 16).filter (fun p =>
    [F.GAUGE_PT_CFG_EQ_EXP p, F.GAUGE_PT_PC_LO_PC p, F.GAUGE_PT_PC_HI_PC p].any (fun f =>
      match s.shadow.find f.key with
      | some v => v != s.rd f
      | none => false))

/-- The GAUGE commit point with R246: forced latch under the old values, the points' books zeroed, the shadow applied,
EPOCH incremented. -/
def State.gaugeCommit (s : State) : State :=
  let l := if s.isSet (F.SHADOW_HOLD bGAUGE) then [] else s.rebased
  if l = [] then s.commit bGAUGE
  else
    let s := s.gaugeLatch true
    let s := l.foldl (fun s p => (List.range 8).foldl (fun s k => s.setGq (8 * p + k) GQty.zero) s) s
    let s := s.commit bGAUGE
    let s := s.setGauge { s.gauge with winBad := (s.gauge.winBad ++ l).dedup }
    l.foldl (fun s p => s.inc (F.GAUGE_PT_CFG_EPOCH p)) s

/-- The line cycle's measurements shown. -/
def State.showCycle (s : State) : State :=
  let s := (List.range 32).foldl (fun s ch =>
    (s.wr (F.GAUGE_CH_RMS_RMS ch) (s.chRms ch 1)).wrB (F.GAUGE_CH_RMS_CLIP ch) (s.gauge.clip.contains ch)) s
  (List.range 16).foldl (fun s p =>
    let w := s.power p
    ((s.wr (F.GAUGE_PT_POWER_VALUE p 0) (ofSigned 32 (w.p.tdiv 100000))).wr (F.GAUGE_PT_POWER_VALUE p 1)
      (ofSigned 32 (w.q.tdiv 100000))).wr (F.GAUGE_PT_POWER_VALUE p 2) (w.s / 100000)) s

/-- LINE_CYCLE_BOUNDARY (R247): TB1 counts the cycle; the last sample, the judgements of the cycle, a latch that is due,
the shadow, and the next cycle's ranges. -/
def State.lineCycleBoundary (s : State) (x : GaugeSample) (c : LineCycle) : State :=
  let s := if s.isOn 45 then (s.inc F.TIME_TB1_CYCLE_COUNT).wr F.TIME_TB1_STAT_PHASE 0 else s
  if ¬ s.gaugeRuns then (if s.isOn 36 then s.gaugeCommit else s)
  else
    let s := s.integrate x
    let s := s.showCycle.judgeCycle c
    let n := s.gauge.cycles + 1
    let s := s.setGauge { s.gauge with cycles := n }
    let due := decide (n % max 1 (s.rd F.GAUGE_LATCH_CFG_N) = 0)
    let s := if due then s.gaugeLatch false else if s.gauge.force then s.gaugeLatch true else s
    let s := s.setGauge { s.gauge with force := false }
    s.gaugeCommit.rangeCycle

/-- The immediate forced latch of eject preparation (R247, R250). -/
def State.ejectLatch (s : State) : State := if s.gaugeRuns then s.gaugeLatch true else s

/-- FORCE_LATCH: at the next line-cycle boundary. -/
def State.forceLatch (s : State) : State := s.setGauge { s.gauge with force := true }

/-- The latest latch set written to the settings region (R250). -/
def State.storeLatch (s : State) : State :=
  if s.isOn 36 ∧ s.jrnUp then
    { s with jrn := { s.jrn with
      gauge := some (s.rd64 F.GAUGE_LATCH_SEQ_LO_SEQ F.GAUGE_LATCH_SEQ_HI_SEQ, s.rd F.GAUGE_LATCH_CFG_N, s.gauge.latched) } }
  else s

/-- LATCH_STORE. -/
def State.latchStore (s : State) (sinceMin : Nat) : State :=
  if s.rd F.GAUGE_LATCH_CFG_STORE_MIN ≤ sinceMin then s.storeLatch else s

/-- A comparison window begins (R253): the books and counts it starts from; marks and stuck inputs that stand reach into it. -/
def State.windowStart (s : State) : State :=
  s.setGauge { s.gauge with
    winAt := s.sys.refTick
    winIn := (List.range 4).map (fun k => s.rd64 (F.GAUGE_S0IN_CNT_LO_COUNT k) (F.GAUGE_S0IN_CNT_HI_COUNT k))
    winQ := s.gauge.q, winBad := if s.gauge.first then List.range 16 else s.gauge.incPts, winStuck := s.gauge.stuck, winP := [] }

/-- RUN follows PD36 and ENABLE; a start begins the latch schedule and a first set. -/
def State.gaugeStart (s : State) : State :=
  if s.gaugeRuns ∧ ¬ s.run bGAUGE then
    ((s.setGauge { s.gauge with cycles := 0, first := true }).windowStart.wr (F.STATE_RUN bGAUGE) 1).showPoints
  else s

/-- The Gauge restored after a reset, or when PD36 returns, from the newest stored set (R250). -/
def State.gaugeRestore (s : State) : State :=
  let s := s.setGauge GaugeState.start
  match s.jrn.gauge with
  | none => s.gaugeStart
  | some (seq, n, l) =>
    let n := max 1 n
    let q := l.map (fun e =>
      let pc := s.ptPc (e.1 / 8)
      (e.1, { e.2 with total := (e.2.pulses * pc * 2 ^ 24 + e.2.acc + e.2.ovf * 2 ^ 72) % 2 ^ 96, frac := 0 }))
    let s := s.setGauge { s.gauge with q := q, latched := q }
    (s.wr64 F.GAUGE_LATCH_SEQ_LO_SEQ F.GAUGE_LATCH_SEQ_HI_SEQ
      (seq + (s.rd F.GAUGE_LATCH_CFG_STORE_MIN * 3900 + n - 1) / n)).gaugeStart

/-- GAUGE_STOP (R256): after the present sample; every quantity INCOMPLETE in the interval that holds the stop. -/
def State.gaugeStop (s : State) : State :=
  ((s.markInc (List.range 16)).wr (F.STATE_RUN bGAUGE) 0).showPoints

/-- PD36 leaves ON. -/
def State.gaugeLost (s : State) : State := s.wr (F.STATE_RUN bGAUGE) 0

/-! ## S0 (R251, R252) -/

/-- S0_OUTPUT_PULSE: a pulse ON for ON_MS then OFF for at least OFF_MS. -/
def State.s0Pulse (s : State) (k sinceMs : Nat) : State :=
  let onMs := s.rd (F.GAUGE_S0OUT_CFG_ON_MS k)
  let n := s.rd (F.GAUGE_S0OUT_BACKLOG_PENDING k)
  if s.isOn 36 ∧ ¬ s.outputsHeld ∧ s.isSet (F.GAUGE_S0OUT_CFG_EN k) ∧ 0 < n ∧ onMs + s.rd (F.GAUGE_S0OUT_CFG_OFF_MS k) ≤ sinceMs then
    (s.wr (F.GAUGE_S0OUT_BACKLOG_PENDING k) (n - 1)).emit (.s0 k onMs)
  else s

/-- S0_INPUT_EDGE: a pulse is counted at the end of an active phase of at least 10 ms that follows an inactive one of at
least 10 ms. -/
def State.s0Edge (s : State) (k : Nat) (active : Bool) (phaseMs : Nat) : State :=
  if ¬ s.isOn 36 ∨ s.isSet (F.GAUGE_S0IN_STAT_LEVEL_LOW k) = active then s
  else
    let s := s.wrB (F.GAUGE_S0IN_STAT_LEVEL_LOW k) active
    let without := s.gauge.s0Ready.filter (· ≠ k)
    if active then s.setGauge { s.gauge with s0Ready := if 10 ≤ phaseMs then k :: without else without }
    else
      let ready := s.gauge.s0Ready.contains k
      let s := s.setGauge { s.gauge with s0Ready := without, stuck := s.gauge.stuck.filter (· ≠ k) }
      if ready ∧ 10 ≤ phaseMs ∧ s.isSet (F.GAUGE_S0IN_CFG_EN k) then
        s.wr64 (F.GAUGE_S0IN_CNT_LO_COUNT k) (F.GAUGE_S0IN_CNT_HI_COUNT k)
          (s.rd64 (F.GAUGE_S0IN_CNT_LO_COUNT k) (F.GAUGE_S0IN_CNT_HI_COUNT k) + 1)
      else s

/-- PULSE_STUCK: more than 2 s active. -/
def State.pulseStuck (s : State) (k activeMs : Nat) : State :=
  if s.isOn 36 ∧ s.isSet (F.GAUGE_S0IN_STAT_LEVEL_LOW k) ∧ 2000 < activeMs ∧ ¬ s.gauge.stuck.contains k then
    let s := s.wr (F.GAUGE_S0IN_STAT_PULSE_STUCK k) 1
    let s := s.setGauge { s.gauge with stuck := k :: s.gauge.stuck, winStuck := k :: s.gauge.winStuck }
    s.judge 10 k true 1 10 (k : Int)
  else s

/-! ## Deviation and the estimate (R253, R254) -/

/-- The growth of the books of quantity `q` over the window, in units of 2⁻²⁴ EQ. -/
def State.growth (s : State) (q : Nat) : Int :=
  let a := s.gq q
  let b := s.gauge.winQ.get q GQty.zero
  let pc : Int := (s.ptPc (q / 8) : Int) * 2 ^ 24
  ((a.pulses : Int) - (b.pulses : Int)) * pc + (a.acc : Int) - (b.acc : Int)

/-- The comparison of input `k` at a window's end. -/
def State.compareInput (s : State) (k : Nat) : State :=
  let q := s.rd (F.GAUGE_S0IN_CFG_Q k)
  let p := q / 8
  let w := s.rd (F.GAUGE_S0IN_CFG_WEIGHT k)
  let scale : Int := (100 * 2 ^ 24 : Nat)
  let n := s.rd64 (F.GAUGE_S0IN_CNT_LO_COUNT k) (F.GAUGE_S0IN_CNT_HI_COUNT k) - s.gauge.winIn.getD k 0
  let eIn : Int := (n * w : Nat) * scale
  let eOwn : Int := s.growth q * ((10 ^ s.rd (F.GAUGE_PT_CFG_EQ_EXP p) : Nat) : Int)
  if ¬ s.isSet (F.GAUGE_S0IN_CFG_EN k) ∨ s.gauge.winStuck.contains k ∨ s.gauge.winBad.contains p ∨
      eOwn < 100 * (w : Int) * scale ∨ eOwn ≤ 0 then s
  else
    let d := (eIn - eOwn) * 1000 / eOwn
    let s := s.wr (F.GAUGE_S0IN_STAT_DEV k) (ofSigned 16 (clampSigned 16 d))
    let diff := (eIn - eOwn).natAbs
    let bad := decide ((s.rd F.GAUGE_EVT_CFG_B_DEV_PCT : Int) * eOwn < (diff : Int) * 1000) &&
      decide (2 * (w : Int) * scale < (diff : Int))
    let s := if bad then s.wr (F.GAUGE_S0IN_STAT_DEVIATION k) 1 else s
    s.judge 11 k bad 1 1 d

/-- CONTRA at a window's end for feeder `f` (R255): its mean P over the window, in 0.1 W, against what its nodes on mains report. -/
def State.judgeContra (s : State) (f : Nat) : State :=
  let (n, e) := s.gauge.winP.get f (0, 0)
  let meanP := e.tdiv ((max 1 n * 100000 : Nat) : Int)
  let un := 100 * s.rd F.GAUGE_NOMINAL_UN_DV
  let there := s.chEn (20 + f) && decide (80 * un ≤ 100 * s.rd (F.GAUGE_CH_RMS_RMS (20 + f)))
  let sum := ((s.gauge.reports.filter (fun e => s.ndMedium e.1 == f && s.gauge.mains.contains e.1)).map (fun e => e.2.2)).sum
  let bad := there && decide (10 * s.rd F.GAUGE_EVT_CFG_B_CONTRA_W < sum) && decide (10 * meanP < (sum : Int))
  s.judge 5 (4 + f) bad 2 1 (sum : Int)

/-- DEVIATION_WINDOW (R253, R255): by the Gauge Courses. -/
def State.deviationWindow (s : State) : State :=
  if s.run bGAUGE ∧ s.courses 4 ≠ [] ∧ s.gauge.winAt + 60000000 * s.rd F.GAUGE_EVT_CFG_B_DEV_WIN ≤ s.sys.refTick then
    let s := (List.range 4).foldl State.compareInput s
    let s := (List.range 12).foldl State.judgeContra s
    s.windowStart.showPoints
  else s

def State.est (s : State) (p : Nat) : Nat := s.rd64 (F.GAUGE_PT_EST_LO_ESTIMATE p) (F.GAUGE_PT_EST_HI_ESTIMATE p)
def State.setEst (s : State) (p v : Nat) : State := s.wr64 (F.GAUGE_PT_EST_LO_ESTIMATE p) (F.GAUGE_PT_EST_HI_ESTIMATE p) v

/-- The feeder points a node's reports belong to. -/
def State.estPoints (s : State) (e : Nat) : List Nat :=
  let m := s.ndMedium e
  if m < 12 then [4 + m]
  else
    ((List.range 12).filter (fun f => s.isSet (F.NODE_FEEDER_GROUP_EN f) &&
      s.rd (F.NODE_FEEDER_GROUP_GROUP f) == s.nd e 16 1)).map (· + 4)

/-- Supply points as the sums of their feeders. -/
def State.sumEst (s : State) : State :=
  let s := [0, 1, 2].foldl (fun s x => s.setEst (x + 1) (((s.feedersOf x).map (fun f => s.est (4 + f))).sum)) s
  s.setEst 0 (s.est 1 + s.est 2 + s.est 3)

/-- ESTIMATE_UPDATE (R185, R254): a METER report taken by its Gauge Course. -/
def State.estimateUpdate (s : State) (e : Nat) (poison : Bool) : State :=
  match s.takePacket (s.courses 4) (64 * e + 33) poison with
  | none => s
  | some (p, s) =>
    if poison then s
    else if ¬ (p.length = 24 ∧ p.take 1 = o1 0x81) then s.nodeCnt 5
    else
      let b (o n : Nat) : Nat := ofOctetsLE ((p.drop o).take n)
      let act := b 8 4
      let old := s.gauge.reports.find e
      let add : Option Nat := match old with
        | none => some 0
        | some (a, _) => if bitAt (b 1 1) 1 then some act else if a ≤ act then some (act - a) else none
      let s := s.setGauge { s.gauge with
        reports := s.gauge.reports.set e (act, b 16 2)
        falls := if add = none then s.gauge.falls + 1 else s.gauge.falls }
      match add with
      | some n => ((s.estPoints e).foldl (fun s p => s.setEst p (s.est p + n)) s).sumEst
      | none => s

/-! ## Reads (R245 and the register tables) -/

/-- GAUGE_AUDIT_CTRL.SNAP: between two acts PENDING is 0. -/
def State.gaugeSnap (s : State) : State :=
  (s.setGauge { s.gauge with snap := s.gauge.q }).inc F.GAUGE_AUDIT_CTRL_SNAP_CNT

/-- GAUGE_AUDIT word `n` of quantity `q` at the last snapshot. -/
def State.gaugeAuditOf (s : State) (q n : Nat) : Nat :=
  let x := s.gauge.snap.get q GQty.zero
  match n with
  | 0 => bits x.total 0 32
  | 1 => bits x.total 32 32
  | 2 => bits x.total 64 32
  | 3 => bits x.pulses 0 32
  | 4 => bits x.pulses 32 32
  | 5 => bits x.acc 0 32
  | 6 => bits x.acc 32 32
  | 7 => bits x.acc 64 8
  | 8 => bits x.ovf 0 32
  | 9 => bits x.ovf 32 32
  | _ => 0

/-- GAUGE_AUDIT word `n` for the quantity requester `req` selects. -/
def State.gaugeAudit (s : State) (req n : Nat) : Nat := s.gaugeAuditOf (s.rdReq req F.GAUGE_AUDIT_CTRL_Q) n

/-- Word `w` of GAUGE_Q[q]. -/
def State.gaugeQWord (s : State) (q w : Nat) : Nat :=
  let x := s.gq q
  if q % 8 = 7 then 0
  else
    match w with
    | 0 => bits x.pulses 0 32
    | 1 => bits x.pulses 32 32
    | 2 => bits x.acc 24 32
    | _ => bits x.acc 56 16 + s.entryFlags q * 2 ^ 16

/-- GAUGE_Q_READ: word 0, and words 1 to 3 latched for the requester; with no latch yet, the present word. -/
def State.gaugeQRead (s : State) (req q w : Nat) : Nat × State :=
  let key (k : Nat) : Nat := reqKey req (F.GAUGE_Q_WORD q k).addr
  if w = 0 then
    (s.gaugeQWord q 0,
     { s with latches := [1, 2, 3].foldl (fun m k => m.set (key k) (s.gaugeQWord q k)) s.latches })
  else (s.latches.get (key w) (s.gaugeQWord q w), s)

/-- One sample of point `p` at full scale stays within 2³² − 1 units (R242): the peaks of its channels in mA, EQ_EXP. -/
def State.fullScaleOk (s : State) (p e : Nat) (peak : Nat → Nat) : Bool :=
  let i := if p = 0 then peak 4 + peak 5 + peak 6 else peak (s.ptChans p).2
  decide (620000 * i * 3125 * 2 ^ 24 / incDen e ≤ 2 ^ 32 - 1)

end Sys2Proof.Machine
end

