-- ==== Sys2Proof/Machine/Sound.lean ====
section
/-!
DEFINITION. Machine/Sound.lean: Sounding (spec/10): captures and chirps, reflectograms, baselines, changes and their
classes, cable maps and reports.
-/
namespace Sys2Proof.Machine

def State.setSound (s : State) (x : SoundState) : State := { s with sound := x }

def State.soundCnt (s : State) (f i : Nat) : State := s.inc (F.SOUND_CNT_COUNT f i)

/-- The front end of feeder `f` is ON. -/
def State.frontOn (s : State) (f : Nat) : Bool := s.isOn (if f < 6 then 37 else 38)

/-- SOUND_STATE.RUN. -/
def State.showSoundRun (s : State) : State :=
  s.wrB (F.STATE_RUN bSOUND) ((s.isOn 37 || s.isOn 38) && s.isSet F.SOUND_CTRL_ENABLE)

/-- The Course that serves feeder `f` (R20, R21): Course f / 2 + 1, or the spare in its place. -/
def State.soundCourse (s : State) (f : Nat) : Option Nat :=
  let k := f / 2 + 1
  let c := s.sys.subst.get k k
  if s.rd (F.SYS_COURSE_ROLE_ROLE c) = 2 ∧ s.isOn c then some c else none

/-- UNSERVED, QUEUED and ACTIVE of feeder `f`. -/
def State.showFeeder (s : State) (f : Nat) : State :=
  let s := s.wrB (F.SOUND_FDR_STAT_UNSERVED f) (s.soundCourse f).isNone
  let s := s.wr (F.SOUND_FDR_STAT_QUEUED f) (s.sound.rings.get f []).length
  s.wr (F.SOUND_FDR_STAT_ACTIVE f) (s.sound.chg.filter (fun e => e.2.feeder == f && e.2.confirmed)).length

/-! ## Commit point (R36, R276) -/

/-- The fields of feeder `f`, or fields all feeders share. -/
def soundKeys (f : Nat) (k : Nat) : Bool :=
  decide (k / 32 = (F.SOUND_FDR_CFG_EN f).addr) || !decide ((F.SOUND_FDR_CFG_EN 0).addr ≤ k / 32 ∧ k / 32 ≤ (F.SOUND_FDR_CFG_EN 11).addr)

/-- The SOUND commit point: the end of a capture of feeder `f`. -/
def State.soundCommit (s : State) (f : Nat) : State := s.commitSel bSOUND (soundKeys f)

/-- After a write: fields of idle feeders apply at once. -/
def State.soundWritten (s : State) : State :=
  let busy := s.sound.capturing ++ s.sound.carrying
  if busy = [] then s.commit bSOUND
  else s.commitSel bSOUND (fun k => (List.range 12).any (fun f =>
    decide (k / 32 = (F.SOUND_FDR_CFG_EN f).addr) && !busy.contains f))

/-! ## Quiet windows (R261, R262) -/

/-- The window lies within the scheduled period of R153. -/
def State.windowFits (s : State) : Bool :=
  let a := s.rd F.SOUND_QUIET_FIRST_SLOT
  decide (4 + s.rd F.FPLC_SF_CFG_CIP_LEN ≤ a ∧ a + s.rd F.SOUND_QUIET_LEN ≤ 80 - s.rd F.FPLC_SF_CFG_CONT_LEN)

/-- WINDOW_SUSPENDED of every chirping feeder brought up to date. -/
def State.showWindows (s : State) : State :=
  (List.range 12).foldl (fun s f =>
    s.wrB (F.SOUND_FDR_STAT_WINDOW_SUSPENDED f) (s.isSet (F.SOUND_FDR_CFG_CHIRP_EN f) && !s.windowFits)) s

/-- Feeder `f` has its quiet window in carrier superframe `x`. -/
def State.quietIn (s : State) (f x : Nat) : Bool :=
  s.run bSOUND && s.isSet (F.SOUND_FDR_CFG_CHIRP_EN f) && x % max 1 (s.rd F.SOUND_QUIET_EVERY) == s.rd (F.SOUND_FDR_CFG_PHASE f)

/-- Suspended windows of superframe `x` counted. -/
def State.countSuspended (s : State) (x : Nat) : State :=
  if s.windowFits then s
  else (List.range 12).foldl (fun s f => if s.quietIn f x then s.soundCnt f 5 else s) s

/-- The allocations of feeder `f`'s beacon that keep out of its quiet window. -/
def State.keepQuiet (s : State) (f : Nat) (l : List Alloc) : List Alloc :=
  if s.quietIn f s.sfnC ∧ s.windowFits then
    let a := s.rd F.SOUND_QUIET_FIRST_SLOT
    let b := a + s.rd F.SOUND_QUIET_LEN
    l.filter (fun x => decide (x.first.toNat + x.len.toNat + 1 ≤ a) || decide (b ≤ x.first.toNat))
  else l

/-- The notches of the chirp spectrum (R263): the mask and the active FPLC_NOTCH_EXTRA entries, as carrier indices; the fixed bands and
the active SOUND_CHIRP_NOTCH entries, in 0.1 MHz. -/
def State.chirpCarriers (s : State) : List (Nat × Nat) :=
  permanentMask ++ ((List.range 16).filter (fun n => s.isSet (F.FPLC_NOTCH_EXTRA_EN n))).map (fun n =>
    (s.rd (F.FPLC_NOTCH_EXTRA_FIRST n), s.rd (F.FPLC_NOTCH_EXTRA_LAST n)))
def State.chirpBands (s : State) : List (Nat × Nat) :=
  [(500, 540), (699, 705)] ++ ((List.range 2).filter (fun n => s.isSet (F.SOUND_CHIRP_NOTCH_EN n))).map (fun n =>
    (s.rd (F.SOUND_CHIRP_NOTCH_FIRST n), s.rd (F.SOUND_CHIRP_NOTCH_LAST n)))

/-- The chirp as it leaves feeder `f` (R263). -/
def State.chirpOut (s : State) (f : Nat) : Output :=
  let att : Int := s.rd (F.SOUND_FDR_CFG_ATTEN_DB f)
  .chirp f (-80 - att) (-90 - att) (-110 - att) s.chirpCarriers s.chirpBands

/-- CHIRP (R261). -/
def State.chirp (s : State) (f : Nat) : State :=
  if s.quietIn f s.sfnC ∧ s.windowFits ∧ s.frontOn f ∧ s.mediumUp f ∧ ¬ s.sound.capturing.contains f ∧
      s.sound.chirped ≠ some s.sfnC then
    let s := ((s.soundCnt f 4).couple f).emit (s.chirpOut f)
    s.setSound { s.sound with capturing := s.sound.capturing ++ [f], chirped := some s.sfnC }
  else s

/-! ## Captures (R259, R260, R264, R265) -/

/-- The state of feeder `f` (R264): 0 E, 1 D, 2 Transition, 3 Mismatch. -/
def State.feederState (s : State) (f coilMs mismatchS : Nat) : Nat :=
  let on := bitAt s.io.coilOut f && !bitAt s.io.coilOff f
  let un := 100 * s.rd F.GAUGE_NOMINAL_UN_DV
  let u := s.rd (F.GAUGE_CH_RMS_RMS (20 + f))
  let g := s.run bGAUGE
  if on ∧ 200 ≤ coilMs ∧ (¬ g ∨ 50 * un ≤ 100 * u) then 0
  else if ¬ on ∧ 200 ≤ coilMs ∧ (¬ g ∨ 100 * u < 10 * un) then 1
  else if 10 < mismatchS then 3 else 2

/-- A probe of a kind is being captured on feeder `f`. -/
def State.capturingOf (s : State) (f kind : Nat) : Bool :=
  if kind = 1 then s.sound.capturing.contains f else s.sound.carrying.contains f

/-- CAPTURE_COMPLETE (R259, R260, R264, R276). -/
def State.captureComplete (s : State) (f kind : Nat) (samples ref : List Int) (coilMs mismatchS : Nat)
    (crosstalk poison cutOff : Bool) : State :=
  if ¬ s.capturingOf f kind then s
  else
    let s := if kind = 1 then s.setSound { s.sound with capturing := s.sound.capturing.erase f }
      else s.setSound { s.sound with carrying := s.sound.carrying.erase f }
    let st := s.feederState f coilMs mismatchS
    if ¬ (s.run bSOUND ∧ s.frontOn f) then s
    else
      let s := s.wr (F.SOUND_FDR_STAT_STATE f) st
      let ring := s.sound.rings.get f []
      let s :=
        if cutOff then s
        else if 2 ≤ st then s.soundCnt f 1
        else if poison ∨ (crosstalk ∧ kind = 0) then s.soundCnt f 2
        else if (s.soundCourse f).isNone ∨ ¬ s.isOn 24 then s.soundCnt f 3
        else if 64 ≤ ring.length then s.soundCnt f 3
        else (s.soundCnt f 0).setSound { s.sound with rings := s.sound.rings.set f (ring ++ [⟨kind, st, s.sfnC, samples, ref⟩]) }
      (s.soundCommit f).showFeeder f

def baseKey (f kind st : Nat) : Nat := 4 * f + 2 * kind + st

/-- Responses averaged so far under baseline key `k`. -/
def State.probesOf (s : State) (k : Nat) : Probes := s.sound.probes.get k ⟨0, 0, []⟩

/-- The response of a capture at delay sample `d` (R265): within the used carriers for a carrier frame, within the chirp band outside the
notches for a chirp. -/
def State.responseAt (s : State) (c : Capture) (d : Nat) : Int :=
  if c.kind = 0 then Config.response false (usedCarriers.filter (fun c => !s.extraNotch c)) [] c.samples c.ref d
  else Config.response true ((List.range 918).filter (fun c => s.chirpCarriers.any (fun r => decide (r.1 ≤ c ∧ c ≤ r.2))))
    s.chirpBands c.samples c.ref d

/-- CAPTURE_CORRELATE (R265): the oldest capture averaged in. -/
def State.captureCorrelate (s : State) (f : Nat) : State :=
  match s.sound.rings.get f [] with
  | [] => s
  | c :: rest =>
    if (s.soundCourse f).isNone then s
    else
      let k := baseKey f c.kind c.state
      let p := s.probesOf k
      let p : Probes := ⟨p.n + 1, c.sfn, (List.range 16384).map (fun d => p.sums.getD d 0 + s.responseAt c d)⟩
      (s.setSound { s.sound with
        rings := s.sound.rings.set f rest, probes := s.sound.probes.set k p }).showFeeder f

/-- RHO of bin `b` from averaged responses (R266): at the round-trip delay of b × 1 m at VF_REF `vf`, interpolated linearly between
delay samples of 4 ns, in 2⁻¹⁵. -/
def binRho (vf : Nat) (p : Probes) (b : Nat) : Int :=
  let num := b * 250000000000
  let den := max 1 vf * 299792458
  let i := num / den
  let r := num % den
  clampSigned 16 (roundDiv (p.sums.getD i 0 * ((den - r : Nat) : Int) + p.sums.getD (i + 1) 0 * (r : Int)) (p.n * den * 32768))

/-! ## Baselines (R269, R270) -/

def baseAddr (k : Nat) : Nat := 0x28D000000 + 0x10000 * k

/-- The octet of SOUND_BASE_STAT for baseline `k`: CARRIER_E, CARRIER_D, CHIRP_E, CHIRP_D. -/
def baseField (k : Nat) : Fld :=
  let f := k / 4
  match k % 4 with
  | 0 => F.SOUND_BASE_STAT_CARRIER_E f
  | 1 => F.SOUND_BASE_STAT_CARRIER_D f
  | 2 => F.SOUND_BASE_STAT_CHIRP_E f
  | _ => F.SOUND_BASE_STAT_CHIRP_D f

def State.showBase (s : State) (k : Nat) : State :=
  match s.sound.learning.find k with
  | some l => s.wr (baseField k) (4 * l.count + 1)
  | none => if s.sound.learned.contains k then s.wr (baseField k) (4 * 32 + 2) else s.wr (baseField k) 0

/-- Baseline `k` set to none. -/
def State.dropBase (s : State) (k : Nat) : State :=
  (s.setSound { s.sound with
    learning := s.sound.learning.erase k, learned := s.sound.learned.filter (· ≠ k),
    unsaved := s.sound.unsaved.filter (· ≠ k), stored := s.sound.stored.erase k }).showBase k

/-- Learning of baseline `k` starts. -/
def State.startLearning (s : State) (k : Nat) : State :=
  (s.setSound { s.sound with
    learning := s.sound.learning.set k ⟨0, [], []⟩, learned := s.sound.learned.filter (· ≠ k),
    unsaved := s.sound.unsaved.filter (· ≠ k) }).showBase k

/-- A reflectogram taken by a baseline that is learning; the 32nd completes it: MEAN and SPREAD by bin, as mean and
standard deviation of the 32, at least 1. -/
def State.learnFrom (s : State) (k seq : Nat) (rho : List Int) : State :=
  match s.sound.learning.find k with
  | none => s
  | some l =>
    let sums := (List.range 8192).map (fun b => l.sums.getD b 0 + rho.getD b 0)
    let sqs := (List.range 8192).map (fun b => l.sqs.getD b 0 + rho.getD b 0 * rho.getD b 0)
    if l.count < 31 then
      (s.setSound { s.sound with learning := s.sound.learning.set k ⟨l.count + 1, sums, sqs⟩ }).showBase k
    else
      let bins := (List.range 8192).flatMap (fun b =>
        let x := sums.getD b 0
        let var := (32 * sqs.getD b 0 - x * x) / 1024
        octetsLE 2 (ofSigned 16 (roundDiv x 32)) ++ octetsLE 2 (max 1 (isqrt var.toNat)))
      let hdr := octetsLE 8 seq ++ o1 32 ++ octetsLE 2 (s.rd (F.SOUND_FDR_CFG_VF_REF (k / 4))) ++ List.replicate 53 0
      let s := s.wrOctets (baseAddr k) (hdr ++ bins)
      (s.setSound { s.sound with
        learning := s.sound.learning.erase k, learned := s.sound.learned ++ [k], unsaved := s.sound.unsaved ++ [k] }).showBase k

/-- MEAN and SPREAD of bin `b` of baseline `k`. -/
def State.mean (s : State) (k b : Nat) : Int := toSigned 16 (s.rdMem (baseAddr k + 64 + 4 * b) 2)
def State.spread (s : State) (k b : Nat) : Nat := s.rdMem (baseAddr k + 66 + 4 * b) 2

/-- BASELINE_STORE (R270). -/
def State.baselineStore (s : State) (k : Nat) : State :=
  if s.sound.unsaved.contains k ∧ s.jrnUp ∧ s.isOn 24 then
    s.setSound { s.sound with
      unsaved := s.sound.unsaved.filter (· ≠ k)
      stored := s.sound.stored.set k (s.mem.readN (baseAddr k) 32832) }
  else s

/-- PD24 is ON again: the stored baselines are restored (R270). -/
def State.baselinesBack (s : State) : State :=
  s.sound.stored.foldl (fun s e =>
    let s := s.wrOctets (baseAddr e.1) e.2
    (s.setSound { s.sound with learned := e.1 :: s.sound.learned.filter (· ≠ e.1) }).showBase e.1) s

/-- PD24 leaves ON (R276): captures, learning, maps and baselines in bulk memory are lost. -/
def State.soundMemLost (s : State) : State :=
  let s := s.setSound { s.sound with rings := [], probes := [], learning := [], learned := [], unsaved := [] }
  let s := (List.range 48).foldl State.showBase s
  (List.range 12).foldl (fun s f => (s.wr (F.SOUND_MAP_ID_MAP_ID f) 0).showFeeder f) s

/-- PD37 or PD38 leaves ON (R276): pending counts of its feeders restart. -/
def State.frontLost (s : State) (half : Nat) : State :=
  let mine (f : Nat) : Bool := f / 6 == half
  (s.setSound { s.sound with
    capturing := s.sound.capturing.filter (fun f => !mine f)
    carrying := s.sound.carrying.filter (fun f => !mine f)
    chg := s.sound.chg.map (fun e => if mine e.2.feeder ∧ ¬ e.2.confirmed then (e.1, { e.2 with seen := 0 }) else e) }).showSoundRun

/-! ## Reports (R274, R275) -/

def mapAddr (f : Nat) : Nat := 0x28E000000 + 0x10000 * f

/-- A cable map's rules (R274). -/
def cableMapOk (l : List Byte) : Bool :=
  let b (o n : Nat) : Nat := ofOctetsLE ((l.drop o).take n)
  let n := b 4 2
  decide (1 ≤ n ∧ n ≤ 1024) && decide (16 + 16 * n ≤ l.length) &&
  (List.range n).all (fun i =>
    let o := 16 + 16 * i
    (decide (b o 2 < i) || b o 2 == 0xFFFF) && decide (1 ≤ b (o + 2) 4) &&
    decide (300 ≤ b (o + 6) 2 ∧ b (o + 6) 2 ≤ 990) && b (o + 8) 4 != 0 &&
    (b (o + 12) 2 == 0x3FFF || decide (b (o + 12) 2 < 16320)))

/-- A cable map for feeder `f` taken, or refused with its event. -/
def State.loadCableMap (s : State) (f : Nat) (l : List Byte) : Nat × State :=
  if cableMapOk l ∧ s.isOn 24 then
    (stOK, (s.wrOctets (mapAddr f) l).wr (F.SOUND_MAP_ID_MAP_ID f) (ofOctetsLE (l.take 4)))
  else (stBAD, s.raiseEvent 0x0003 (unitOf bSOUND) (o1 0x03))

def State.mapB (s : State) (f i o n : Nat) : Nat := s.rdMem (mapAddr f + 16 + 16 * i + o) n

/-- Where entry `i` of feeder `f`'s map starts and ends at the reference velocity, in m (R275). Parents are earlier. -/
def State.mapEnds (s : State) (f : Nat) : List (Rat × Rat) :=
  let vf : Rat := s.rd (F.SOUND_FDR_CFG_VF_REF f)
  (List.range (s.rdMem (mapAddr f + 4) 2)).foldl (fun l i =>
    let p := s.mapB f i 0 2
    let st : Rat := if p = 0xFFFF then 0 else (l.getD p (0, 0)).2
    let len : Rat := (s.mapB f i 2 4 : Rat) / 10
    l ++ [(st, st + len * vf / (s.mapB f i 6 2 : Rat))]) []

/-- POLE_ID of point `i` of the map, or of the cabinet. -/
def State.poleId (s : State) (f i : Nat) : Nat := if i = 0xFFFF then 0 else s.mapB f i 8 4

/-- A distance in m as a signed count of 0.1 m, rounded and saturating at 16 bits. -/
def deciM (x : Rat) : Int := clampSigned 16 ((x * 10 + 1 / 2).floor)

/-- The candidates for reference distance `d` in m: (POLE_ID, offset in 0.1 m), and whether `d` lies beyond the map. -/
def State.candidates (s : State) (f : Nat) (d : Rat) : List (Nat × Rat) × Bool :=
  let ends := s.mapEnds f
  let vf : Rat := s.rd (F.SOUND_FDR_CFG_VF_REF f)
  let l := (List.range ends.length).filterMap (fun i =>
    let (a, b) := ends.getD i (0, 0)
    if a ≤ d ∧ d < b then
      let x := (d - a) * (s.mapB f i 6 2 : Rat) / vf
      let len : Rat := (s.mapB f i 2 4 : Rat) / 10
      some (if x ≤ len - x then (s.poleId f (s.mapB f i 0 2), x) else (s.poleId f i, -(len - x)))
    else none)
  if l ≠ [] ∨ ends = [] then (l, false)
  else
    let far := (List.range ends.length).foldl (fun (best : Nat) i =>
      if (ends.getD best (0, 0)).2 < (ends.getD i (0, 0)).2 then i else best) 0
    ([(s.poleId f far, d - (ends.getD far (0, 0)).2)], true)

/-- Candidates in order of rising |offset|. -/
def insertCand (x : Nat × Rat) : List (Nat × Rat) → List (Nat × Rat)
  | [] => [x]
  | y :: l => if |x.2| < |y.2| then x :: y :: l else y :: insertCand x l

/-- The report of change `c` (R275). -/
def State.changeReport (s : State) (c : Change) (event seq : Nat) : List Byte :=
  let noMap := s.rd (F.SOUND_MAP_ID_MAP_ID c.feeder) = 0
  let (l, beyondMap) := if noMap then ([], false) else s.candidates c.feeder ((c.locate : Rat) / 2)
  let l := l.foldl (fun a x => insertCand x a) []
  let fl := b2n (decide (4 < l.length)) + 2 * b2n beyondMap + 4 * b2n (decide noMap)
  let cand := (l.take 4).flatMap (fun x => octetsLE 4 x.1 ++ octetsLE 2 (ofSigned 16 (deciM x.2)))
  o1 0x40 ++ o1 event ++ o1 c.feeder ++ o1 c.cls ++ o1 c.kind ++ o1 c.state ++ octetsLE 2 c.id ++ octetsLE 8 seq ++
  octetsLE 2 c.first ++ octetsLE 2 c.locate ++ octetsLE 2 c.peak ++ octetsLE 2 c.last ++ octetsLE 2 (ofSigned 16 c.rho) ++
  octetsLE 2 (ofSigned 16 c.beyond) ++ octetsLE 4 (5 * c.locate) ++ o1 (min 4 l.length) ++ o1 fl ++ octetsLE 2 0 ++
  (cand ++ List.replicate 28 0).take 28

/-- A report written to its queue; the supervisor takes it from there and forwards it as HCP event and recorder trigger.
One the Pegbox refuses is kept. -/
def State.putReport (s : State) (f : Nat) (pkt : List Byte) : State :=
  let q := 1047040
  let (r, s') := s.pegPut ((s.soundCourse f).getD 0) q false pkt
  if r.1 = stOK then
    let s := if s'.isOn 0 ∧ ¬ (s'.desc q).claimed then
        let (cl, t) := s'.claim q 0
        t.releaseClaim cl
      else s'
    (s.raiseEvent 0x0050 (unitOf bSOUND) pkt).recTrigger 0x0030 (toSigned 16 (ofOctetsLE ((pkt.drop 24).take 2))) pkt
  else s'.setSound { s'.sound with retry := s'.sound.retry ++ [(f, pkt)] }

/-- Reports of feeder `f` refused before, tried again. -/
def State.retryReports (s : State) (f : Nat) : State :=
  let l := s.sound.retry.filter (fun x => x.1 == f)
  let s := s.setSound { s.sound with retry := s.sound.retry.filter (fun x => x.1 != f) }
  l.foldl (fun s x => s.putReport x.1 x.2) s

/-- The report of a change sent. -/
def State.report (s : State) (c : Change) (event : Nat) : State :=
  s.putReport c.feeder (s.changeReport c event (s.sound.seqs.get (2 * c.feeder + c.kind) 0))

/-! ## SOUND_CHG -/

/-- The four words of entry `n`. -/
def State.showChange (s : State) (n : Nat) : State :=
  let w (i v : Nat) (s : State) : State := s.wr (F.SOUND_CHG_WORD n i) v
  match s.sound.chg.find n with
  | none => w 3 0 (w 2 0 (w 1 0 (w 0 0 s)))
  | some c =>
    let v := c.feeder + c.kind * 2 ^ 4 + c.state * 2 ^ 5 + c.cls * 2 ^ 6 + (if c.confirmed then 2 else 1) * 2 ^ 9 +
      min 31 c.seen * 2 ^ 11 + c.id * 2 ^ 16
    w 3 (5 * c.locate) (w 2 (c.locate + ofSigned 16 c.rho * 2 ^ 16) (w 1 (c.first + c.last * 2 ^ 16) (w 0 v s)))

def State.setChange (s : State) (n : Nat) (c : Change) : State :=
  (s.setSound { s.sound with chg := s.sound.chg.set n c }).showChange n

def State.freeChange (s : State) (n : Nat) : State :=
  (s.setSound { s.sound with chg := s.sound.chg.erase n }).showChange n

/-- Every tracked change of a feeder, kind and state cleared with report EVENT `ev`; pending ones go without. -/
def State.clearChanges (s : State) (f kind st ev : Nat) : State :=
  (s.sound.chg.filter (fun e => e.2.feeder == f && e.2.kind == kind && e.2.state == st)).foldl (fun s e =>
    let s := s.freeChange e.1
    if e.2.confirmed then s.report e.2 ev else s) s

/-! ## Detection (R271 to R273) -/

/-- A change found in one reflectogram. -/
structure Found where
  first  : Nat
  last   : Nat
  peak   : Nat
  rho    : Int
  locate : Nat
  deriving DecidableEq

/-- Bins grouped where at most 2 bins lie between neighbours. -/
def groups : List Nat → List (List Nat)
  | [] => []
  | b :: l =>
    match groups l with
    | [] => [[b]]
    | g :: gs =>
      match g with
      | [] => [b] :: gs
      | c :: _ => if c ≤ b + 3 then (b :: g) :: gs else [b] :: g :: gs

/-- The changes of a reflectogram against baseline `k`. -/
def State.findChanges (s : State) (k : Nat) (rho : List Int) : List Found :=
  let d (b : Nat) : Int := rho.getD b 0 - s.mean k b
  let sig := ((List.range 8192).drop (s.rd F.SOUND_DETECT_START_BIN)).filter (fun b =>
    decide (s.rd F.SOUND_DETECT_K_SIGMA * s.spread k b + 10 * s.rd F.SOUND_DETECT_FLOOR < 10 * (d b).natAbs))
  (groups sig).map (fun g =>
    let a := g.headD 0
    let z := (g.getLast?).getD a
    let p := g.foldl (fun p b => if (d p).natAbs < (d b).natAbs then b else p) a
    let loc := (g.find? (fun b => decide ((d p).natAbs ≤ 2 * (d b).natAbs))).getD a
    ⟨a, z, p, d p, loc⟩)

/-- BEYOND_LOSS in 0.1 % beyond bin `last` (R273): a free value where the baseline holds nothing there. -/
def State.beyondLoss (s : State) (k last : Nat) (rho : List Int) : Int × State :=
  let bins := (List.range 8192).drop (last + 8)
  let r := (bins.map (fun b => (rho.getD b 0).natAbs)).sum
  let m := (bins.map (fun b => (s.mean k b).natAbs)).sum
  if m = 0 then
    let (v, s) := s.fresh
    (((v % 1001 : Nat) : Int), s)
  else ((((m : Int) - (r : Int)) * 1000) / (m : Int), s)

/-- How much later the baseline features beyond bin `last` arrive, in 1/16 bin (R273): over bins LAST + 8 to LAST + 1,032. -/
def State.shiftBeyond (s : State) (k last : Nat) (rho : List Int) : Int :=
  let bins := ((List.range 8192).drop (last + 8)).take 1025
  Config.featureShift (bins.map (fun b => rho.getD b 0)) (bins.map (s.mean k))

/-- The class of change `c` in reflectogram `rho` (R273). -/
def State.classOf (s : State) (c : Change) (rho : List Int) : Nat :=
  let width := c.last - c.first + 1
  let shift := s.shiftBeyond (baseKey c.feeder c.kind c.state) c.last rho
  let sudden := decide (3 * c.rho.natAbs ≤ 4 * c.rho0.natAbs)
  if (s.rd F.SOUND_CLASS_A_OPEN_RHO : Int) ≤ c.rho ∧ 500 ≤ c.beyond then 1
  else if c.rho ≤ -(s.rd F.SOUND_CLASS_A_SHORT_RHO : Int) ∧ 500 ≤ c.beyond then 2
  else if c.rho < 0 ∧ sudden ∧ c.branch then 3
  else if c.rho < 0 ∧ s.rd F.SOUND_CLASS_B_WATER_BINS ≤ width ∧ (s.rd F.SOUND_CLASS_B_SHIFT_MIN : Int) ≤ shift then 4
  else if c.rho < 0 ∧ c.rho.natAbs ≤ s.rd F.SOUND_CLASS_B_INSUL_RHO ∧ width < s.rd F.SOUND_CLASS_B_WATER_BINS then 5
  else 0

/-- A found change matches a tracked one. -/
def matches_ (c : Change) (x : Found) : Bool := decide (c.first ≤ x.last + 4 ∧ x.first ≤ c.last + 4)

/-- A tracked change seen again: `x` the first match, `last` its outer bin with merged matches. -/
def State.seenAgain (s : State) (n k : Nat) (c : Change) (x : Found) (last : Nat) (rho : List Int) : State :=
  let (b, s) := s.beyondLoss k last rho
  let c := { c with seen := c.seen + 1, missed := 0, first := x.first, last := last, locate := x.locate, peak := x.peak,
                    rho := x.rho, beyond := b }
  let cls := s.classOf c rho
  if c.confirmed then
    let s := s.setChange n { c with cls := cls }
    if cls ≠ c.cls then s.report { c with cls := cls } 1 else s
  else if s.rd F.SOUND_DETECT_CONFIRM ≤ c.seen then
    let c := { c with confirmed := true, cls := cls }
    (s.setChange n c).report c 0
  else s.setChange n c

/-- A tracked change absent from a reflectogram. -/
def State.notSeen (s : State) (n : Nat) (c : Change) : State :=
  if ¬ c.confirmed then s.freeChange n
  else if s.rd F.SOUND_DETECT_CONFIRM ≤ c.missed + 1 then (s.freeChange n).report c 2
  else s.setChange n { c with missed := c.missed + 1 }

/-- A new change takes a free entry as pending; a farther new change of positive PEAK_RHO is merged into a negative one. -/
def State.newChange (s : State) (f kind st k : Nat) (x : Found) (far : Option Found) (rho : List Int) : State :=
  match (List.range 32).find? (fun n => (s.sound.chg.find n).isNone) with
  | none => s.wr F.SOUND_CMD_STAT_TABLE_FULL 1
  | some n =>
    let last := match far with
      | some y => y.last
      | none => x.last
    let (b, s) := s.beyondLoss k last rho
    let c : Change := ⟨f, kind, st, s.sound.nextId, false, 0, 1, 0, x.first, last, x.locate, x.peak, x.rho, x.rho,
      far.isSome, b⟩
    let s := s.setSound { s.sound with nextId := (s.sound.nextId + 1) % 65536 }
    if s.rd F.SOUND_DETECT_CONFIRM ≤ 1 then
      let c := { c with confirmed := true, cls := s.classOf c rho }
      (s.setChange n c).report c 0
    else s.setChange n c

/-- The new changes of a reflectogram in rising order, with merges. -/
def State.newChanges (s : State) (f kind st k : Nat) (rho : List Int) : Nat → List Found → State
  | 0, _ => s
  | _, [] => s
  | fuel + 1, x :: l =>
    let far := if x.rho < 0 then l.find? (fun y => decide (0 < y.rho)) else none
    let rest := match far with
      | some y => l.filter (fun z => decide (z ≠ y))
      | none => l
    State.newChanges (s.newChange f kind st k x far rho) f kind st k rho fuel rest

/-- A reflectogram with STATUS OK compared with its learned baseline. -/
def State.detect (s : State) (f kind st : Nat) (rho : List Int) : State :=
  let k := baseKey f kind st
  let found := s.findChanges k rho
  let tracked := s.sound.chg.filter (fun e => e.2.feeder == f && e.2.kind == kind && e.2.state == st)
  let fresh := found.filter (fun x => !tracked.any (fun e => matches_ e.2 x))
  let s := tracked.foldl (fun s e =>
    match found.filter (matches_ e.2) with
    | [] => s.notSeen e.1 e.2
    | x :: l =>
      let last := if e.2.branch then l.foldl (fun a y => max a y.last) x.last else x.last
      s.seenAgain e.1 k e.2 x last rho) s
  s.newChanges f kind st k rho (fresh.length + 1) fresh

/-- REFLECTOGRAM_PERIOD_END (R267, R268, R271). -/
def State.periodEnd (s : State) (f kind st sinceS : Nat) : State :=
  let k := baseKey f kind st
  let p := s.probesOf k
  let n := p.n
  let rho := (List.range 8192).map (binRho (s.rd (F.SOUND_FDR_CFG_VF_REF f)) p)
  if n = 0 ∨ sinceS < s.rd F.SOUND_PERIOD_REFL_S ∨ (s.soundCourse f).isNone ∨ ¬ s.isOn 24 then s
  else
    let need := if kind = 0 then s.rd F.SOUND_PERIOD_MIN_PROBES else s.rd F.SOUND_PERIOD_MIN_CHIRPS
    let ok := decide (need ≤ n)
    let seq := s.sound.seqs.get (2 * f + kind) 0 + 1
    let rec_ := octetsLE 8 seq ++ o1 f ++ o1 kind ++ o1 st ++ o1 (if ok then stOK else stINCOMPLETE) ++ octetsLE 4 n ++
      octetsLE 2 (s.rd (F.SOUND_FDR_CFG_VF_REF f)) ++ o1 (s.rd F.TIME_TB0_SUB_EPOCH) ++ o1 (b2n s.tb0Valid) ++
      octetsLE 8 s.tb0Sec ++ octetsLE 4 (s.tb0Ns % 1000000000) ++ octetsLE 4 p.sfn ++ List.replicate 28 0 ++
      (List.range 8192).flatMap (fun b => octetsLE 2 (ofSigned 16 (rho.getD b 0))) ++ octetsLE 8 seq
    let s := s.wrOctets (0x28C000000 + 0x10000 * (4 * f + 2 * kind + seq % 2)) rec_
    let s := s.setSound { s.sound with probes := s.sound.probes.erase k, seqs := s.sound.seqs.set (2 * f + kind) seq }
    let s := (s.wr (F.SOUND_REFL_SEQ_SEQ f kind) seq).soundCnt f (if ok then 6 else 7)
    let s := s.retryReports f
    let s := if ¬ ok then s
      else if (s.sound.learning.find k).isSome then s.learnFrom k seq rho
      else if s.sound.learned.contains k then s.detect f kind st rho
      else s
    s.showFeeder f

/-! ## SOUND_CMD (R269, R270) -/

def State.soundDone (s : State) (op st : Nat) : State := (s.wr F.SOUND_CMD_STAT_OP op).wr F.SOUND_CMD_STAT_STATUS st

/-- LEARN: tracked changes are cleared with EVENT 2 when learning starts. -/
def State.soundLearn (s : State) (f kind st : Nat) : State :=
  (((s.clearChanges f kind st 2).startLearning (baseKey f kind st)).showFeeder f).soundDone 1 stOK

/-- DISCARD. -/
def State.soundDiscard (s : State) (f kind st : Nat) : State := (s.dropBase (baseKey f kind st)).soundDone 2 stOK

/-- ACCEPT of an entry: BAD for a free one. -/
def State.soundAccept (s : State) (n : Nat) : State :=
  match s.sound.chg.find n with
  | none => s.soundDone 3 stBAD
  | some c =>
    (((s.clearChanges c.feeder c.kind c.state 3).startLearning (baseKey c.feeder c.kind c.state)).showFeeder c.feeder).soundDone
      3 stOK

/-- VF_REF of feeder `f` written: its four baselines go. -/
def State.vfWritten (s : State) (f : Nat) : State := (List.range 4).foldl (fun s i => s.dropBase (4 * f + i)) s

end Sys2Proof.Machine
end

