-- ==== Sys2Proof/Machine/Boundary.lean ====
section
/-!
DEFINITION. Machine/Boundary.lean: the superframe boundaries of both media and the start of the superframes (R151, R161,
R203 to R205, R457).
-/
namespace Sys2Proof.Machine

/-- R510: at SFN 2³¹ and again 2²⁴ superframes before the low word wraps, the broadcast record and every carrier node move
(R456), so that no key sees the wrap. -/
def State.sfnMoves (s : State) : State :=
  if s.sfnC % 2 ^ 32 = 2 ^ 31 ∨ s.sfnC % 2 ^ 32 = 2 ^ 32 - 2 ^ 24 then
    let l := s.nodeSlots.filter (fun e => s.ndLive e && decide (s.ndMedium e < 12))
    l.foldl State.startMove
      (match s.nextSlot (bits (s.nd 16383 6 1) 0 6) with
        | some k => s.recordMoves 16383 k
        | none => s)
  else s

/-- One carrier superframe: the count, the FPLC and NODE commit points, publication of P, the beacons with their allocations, image
aggregates, command frames that wait. -/
def State.carrierFrame (s : State) (allocs : List (Nat × Alloc)) (poisoned : List Nat) : State :=
  let x := s.sfnC
  let s := s.wr64 F.FPLC_SFN_LO_SFN F.FPLC_SFN_HI_SFN ((x + 1) % 2 ^ 48)
  let s := s.setField { s.field with cAt := s.field.cAt + 1 }
  if ¬ s.isOn 31 then s
  else
    let s := (List.range 12).foldl (fun s f => s.missedImages f x) s
    let cip := s.rd F.FPLC_SF_CFG_CIP_LEN
    let s := ((s.sfnMoves).commit bFPLC).commit bNODE
    let s := if s.rd F.FPLC_SF_CFG_CIP_LEN ≠ cip then s.cipChanged else s
    let s := (s.applyImgNew.showWindows).showFieldRun
    let s := s.wr F.NODE_IMG_PUB_C_P (s.sfnC % 2 ^ 32)
    let s := (List.range 12).foldl (fun s f =>
      s.beacon f (s.keepQuiet f ((allocs.filter (fun a => a.1 == f)).map (·.2)))) s
    let s := (List.range 12).foldl (State.aggregate · poisoned) s
    let s := (List.range 12).foldl State.sendCmds s
    s.countSuspended s.sfnC

/-- CARRIER_SUPERFRAME_BOUNDARY (R151, R153): each 10 ms of TB2; where a radio superframe begins too, its boundary comes first. -/
def State.carrierBoundary (s : State) (allocs : List (Nat × Alloc)) (poisoned : List Nat) : State :=
  if s.field.started ∧ s.isOn 45 ∧ s.field.cAt < s.tb2Ns / 10000000 ∧ s.field.cAt < 100 * s.field.rAt + 99 then
    (s.carrierFrame allocs poisoned).symTimeSet
  else s

/-- FPLC_FEEDER_STAT of feeder `f`: joined nodes heard in the last 60 s, and the mean PHY rate of the last second. -/
def State.showHeard (s : State) (f mbps : Nat) : State :=
  let now := s.tb2Ms
  let n := (s.nodeSlots.filter (fun e => s.ndState e == 2 && s.ndMedium e == f &&
    decide ((now + 2 ^ 32 - s.nd e 72 4) % 2 ^ 32 ≤ 60000))).length
  (s.wr (F.FPLC_FEEDER_STAT_NODES f) n).wr (F.FPLC_FEEDER_STAT_PHY_MBPS f) mbps

/-- RADIO_SUPERFRAME_BOUNDARY (R151, R155, R161, R168): each second of TB2, together with every hundredth carrier boundary. The shadow
of FRAD waits while its radios' domains keep it in RETENTION (R46). -/
def State.radioBoundary (s : State) (allocs : List (Nat × Alloc)) (mbps : List (Nat × Nat)) (poisoned : List Nat) : State :=
  if ¬ (s.field.started ∧ s.isOn 45 ∧ s.field.rAt < s.tb2Ns / 1000000000 ∧ s.field.cAt = 100 * s.field.rAt + 99) then s
  else
    let x := s.field.sfnR
    let s := s.setField { s.field with sfnR := (x + 1) % 2 ^ 48, rAt := s.field.rAt + 1 }
    let s := if s.field.sfnR % 60 = 0 then s.jrnSfn.jrnAir else s
    if ¬ s.isOn 31 then s
    else
      let media := (List.range 4).map (16 + ·)
      let s := media.foldl (fun s m => s.missedImages m x) s
      let s := (if s.blockOn bFRAD then s.commit bFRAD else s).showFieldRun
      let s := s.nodeSlots.foldl State.driftLook s
      let s := s.wr F.NODE_IMG_PUB_R_P (s.field.sfnR % 2 ^ 32)
      let s := media.foldl (fun s m => s.beacon m ((allocs.filter (fun a => 16 + a.1 == m)).map (·.2))) s
      let s := media.foldl (State.aggregate · poisoned) s
      let s := media.foldl State.sendCmds s
      (List.range 12).foldl (fun s f => s.showHeard f (((mbps.find? (fun p => p.1 == f)).map (·.2)).getD 0)) s

/-- The radio SFN of the newest journal record plus 61 (R161). -/
def State.journalSfn (s : State) : Option Nat := (s.jid.bind (fun j => s.jrn.sfn.find j)).map (· + 61)

/-- Group and broadcast records of the node table. -/
def sharedEntries : List Nat := (List.range 32).map groupEntry ++ [16383]

/-- The start as a replacement (R457): group and broadcast records move to NEXT, every node in the table is moved at its
first frame, its first frame under the old slot sets its uplink counter, each gets its PROFILE. Where a slot has no NEXT
its counter goes to the end of its range, so that nothing is sent under it, and the KEY block raises its event. -/
def State.replacementStart (s : State) : State :=
  let bad := (sharedEntries.any (fun e => s.nextSlot (bits (s.nd e 6 1) 0 6) == none)) ||
    s.nodeSlots.any (fun e => s.nextSlot (s.keyData e) == none)
  let s := sharedEntries.foldl (fun s e =>
    match s.nextSlot (bits (s.nd e 6 1) 0 6) with
    | some k => s.recordMoves e k
    | none => s.setNd e 8 4 0xFFFFFFF0) s
  let l := s.nodeSlots
  let s := l.foldl (fun s e =>
    if s.nextSlot (s.keyData e) = none then s.setNd e 60 4 0xFFFFFFF0 else s.startMove e) s
  let s := s.setField { s.field with replUp := l }
  let s := { s with time := { s.time with profileDue := true } }
  if bad then s.keyEvent else s

/-- The radio SFN that the superframes can start with now (R161): at a whole second of TB0 while it is valid, the greater of its
seconds and what the journal allows; else what the journal allows. Without a record TB0 must have been valid for 1 ms. -/
def State.startSfn (s : State) (validMs : Nat) : Option Nat :=
  if s.tb0Valid then
    if 1000 ≤ s.tb0Ns % 1000000000 then none
    else
      match s.journalSfn with
      | some j => some (max s.tb0Sec j)
      | none => if validMs = 0 then none else some s.tb0Sec
  else s.journalSfn

/-- SUPERFRAME_START (R160, R161). -/
def State.superframeStart (s : State) (sinceOnMs validMs : Nat) : State :=
  if s.field.started ∨ ¬ s.allOn [31, 45] ∨ sinceOnMs = 0 then s
  else
    match s.startSfn validMs with
    | none => s
    | some r =>
      let frac := if s.tb0Valid then s.tb0 % (1000000000 * 65536) else 0
      let s := { s with time := { s.time with tb2 := frac } }
      let s := if s.tb0Valid then s.wr F.TIME_TB2_STAT_ALIGN_US 0 else s
      let s := s.setField { s.field with started := true, sfnR := r % 2 ^ 48, cAt := 0, rAt := 0 }
      let s := s.wr64 F.FPLC_SFN_LO_SFN F.FPLC_SFN_HI_SFN (100 * r % 2 ^ 48)
      let s := if r % 60 = 0 then s.jrnSfn.jrnAir else s
      let s := (s.wr F.NODE_IMG_PUB_C_P s.sfnC).wr F.NODE_IMG_PUB_R_P r
      let s := if s.hasFloors then (s.nodeSlots ++ sharedEntries).foldl State.startCounters s else s.replacementStart
      let s := (s.commit bFPLC).commit bNODE
      (if s.blockOn bFRAD then s.commit bFRAD else s).showFieldRun

end Sys2Proof.Machine
end

