-- ==== Sys2Proof/Machine/Scan.lean ====
section
/-!
DEFINITION. Machine/Scan.lean: the scan engine (spec/11): pacing, the input latch, output write, modes, commands, program
check, retain RAM, overruns and the scan watchdog. Its instructions are in Machine/Tab.lean.
-/
namespace Sys2Proof.Machine

def State.setScan (s : State) (x : ScanState) : State := { s with scan := x }

/-! ## Modes (R288) -/

def mStop : Nat := 0
def mRun : Nat := 1
def mHold : Nat := 2
def mFault : Nat := 3

def State.scanMode (s : State) : Nat := s.rd F.SCAN_MODE_MODE

/-- The HOLD view: the execution state of the frozen task, 0 outside HOLD. -/
def State.showHold (s : State) : State :=
  let (acc, p, l, d, ov, c) : Nat × Nat × Nat × Nat × Bool × Bool := match s.scan.cyc with
    | some y =>
      if s.scanMode = mHold then
        (y.acc.toNat, y.p.toNat, y.stack.foldl (fun a b => a * 2 + b2n b) 0, y.stack.length, y.ov, y.c)
      else (0, 0, 0, 0, false, false)
    | none => (0, 0, 0, 0, false, false)
  let s := (s.wr F.SCAN_HOLD_ACC_ACC acc).wr F.SCAN_HOLD_P_P p
  let s := (s.wr F.SCAN_HOLD_LOGIC_STACK l).wr F.SCAN_HOLD_LOGIC_DEPTH d
  (s.wrB F.SCAN_HOLD_LOGIC_OV ov).wrB F.SCAN_HOLD_LOGIC_C c

/-- The mode set, with RUN 1 in RUN and HOLD. -/
def State.setScanMode (s : State) (m : Nat) : State :=
  ((s.wr F.SCAN_MODE_MODE m).wrB (F.STATE_RUN bSCAN) (m == mRun || m == mHold)).showHold

/-! ## Pacing (R280, R281, R27) -/

/-- Scan time in µs: TB3, or the reference tick while PD45 is not ON. -/
def State.scanUs (s : State) : Nat := if s.isOn 45 then s.rd64 F.TIME_TB3_LO_US F.TIME_TB3_HI_US else s.sys.refTick

/-- The superframes run. -/
def State.sfRun (s : State) : Bool := s.field.started && s.allOn [31, 45]

/-- The latest due start of a task at this moment: how it is paced, its key, the keys between due starts, µs per key, and
the time since. -/
structure Due where
  pace : Nat
  last : Int
  step : Int
  unitUs : Int
  wait : Int
  deriving DecidableEq, Repr

/-- The latest due start of task `n`, where it is enabled with a period. -/
def State.dueOf (s : State) (n : Nat) : Option Due :=
  let per := s.rd (F.SCAN_TASK_TIME_PERIOD_MS n)
  let al := s.rd (F.SCAN_TASK_CFG_ALIGN n)
  let ph : Int := (s.rd (F.SCAN_TASK_TIME_PHASE n) : Int)
  if ¬ s.isSet (F.SCAN_TASK_CFG_EN n) ∨ per = 0 then none
  else if (al = 1 ∨ al = 2) ∧ s.sfRun then
    let p : Nat := if al = 1 then 10000 else 1000000
    let x0 : Int := (s.sfnOf (if al = 1 then 0 else 16) : Int)
    let off : Int := ((s.tb2Ns / 1000 % p : Nat) : Int)
    let start : Int := (s.rd (F.SCAN_TASK_START_START_US n) : Int)
    let ratio : Int := ((max 1 (per * 1000 / p) : Nat) : Int)
    let x := if start ≤ off then x0 else x0 - 1
    let last := x - (x - ph) % ratio
    some ⟨al + 1, last, ratio, (p : Int), off + (x0 - last) * (p : Int) - start⟩
  else
    let t : Int := (s.scanUs : Int)
    let ms := t / 1000
    let last := ms - (ms - (if al = 0 then ph else 0)) % (per : Int)
    some ⟨b2n (s.isOn 45), last, (per : Int), 1000, t - last * 1000⟩

/-- The due start of task `n` that waits, if one does: its key and how long. -/
def State.firstDue (s : State) (n : Nat) : Option (Int × Int) :=
  match s.dueOf n, s.scan.paces.find n with
  | some d, some r =>
    if r.pace = d.pace then
      match r.waiting with
      | some k => some (k, d.wait + (d.last - k) * d.unitUs)
      | none => if r.seen < d.last then some (r.seen + d.step, d.wait + (d.last - r.seen - d.step) * d.unitUs) else none
    else if (r.tick : Int) + d.wait < (s.sys.refTick : Int) then some (d.last, d.wait) else none
  | _, _ => none

/-- Every task starts at its next due time: the present latest due starts count as handled (R289, R293). -/
def State.rephase (s : State) (fresh : Bool) : State :=
  s.setScan { s.scan with paces := (List.range 16).filterMap (fun n =>
    (s.dueOf n).map (fun d => (n, ⟨d.pace, d.last, none, s.sys.refTick, fresh⟩))) }

/-- Task `n` runs, or is held back before its latch. -/
def State.taskBusy (s : State) (n : Nat) : Bool :=
  (match s.scan.cyc with | some y => y.task == n | none => false) ||
  (match s.scan.latch with | some (m, _) => m == n | none => false)

/-- The record of task `n` once its next due start has come before its cycle has ended (R294), if it has. -/
def State.skipDue (s : State) (n : Nat) : Option TaskPace :=
  match s.dueOf n, s.scan.paces.find n with
  | some d, some r =>
    if r.pace = d.pace then
      if s.taskBusy n ∨ r.waiting ≠ none then
        let k := r.seen + (if r.fresh ∧ s.taskBusy n then 2 * d.step else d.step)
        if k ≤ d.last then some { r with seen := k, fresh := false, tick := s.sys.refTick } else none
      else if r.seen + 2 * d.step ≤ d.last then
        some { r with waiting := some (r.seen + d.step), seen := r.seen + 2 * d.step, fresh := false,
                      tick := s.sys.refTick }
      else none
    else if s.taskBusy n ∧ (r.tick : Int) + d.wait < (s.sys.refTick : Int) then
      some ⟨d.pace, d.last, none, s.sys.refTick, false⟩
    else none
  | _, _ => none

/-! ## Input latch (R282 to R285) -/

/-- The image buffer of node `e` with the greatest SFN below `p`: its address in the entry. -/
def State.imageBuf (s : State) (e p : Nat) : Option Nat :=
  let s0 := s.nd e 100 4
  let s1 := s.nd e 116 4
  let ok0 := newer 32 p s0
  let ok1 := newer 32 p s1
  if ok0 ∧ ok1 then some (if newer 32 s1 s0 then 104 else 88)
  else if ok0 then some 88 else if ok1 then some 104 else none

/-- The node input entry of slot `e` latched; `never` under R281. -/
def State.latchNode (s : State) (never : Bool) (e : Nat) : State :=
  let a := 0x00501000 + 16 * e
  let radio := decide (12 ≤ s.ndMedium e)
  let p := if radio then s.rd F.NODE_IMG_PUB_R_P else s.rd F.NODE_IMG_PUB_C_P
  if s.ndState e = 0 ∨ ¬ bitAt (s.nd e 17 1) 1 then s.wrOctets a (List.replicate 14 0 ++ o1 4 ++ o1 0)
  else
    match s.imageBuf e p with
    | none => s.wrOctets (a + 12) (octetsLE 2 0xFFFF ++ o1 (4 + 2 * b2n radio) ++ o1 0)
    | some b =>
      if never ∨ 10 < s.nd e 24 1 then s.wrOctets (a + 12) (octetsLE 2 0xFFFF ++ o1 (4 + 2 * b2n radio) ++ o1 0)
      else
        let age := min 0xFFFE ((p + 2 ^ 32 - s.nd e (b + 12) 4) % 2 ^ 32)
        let ok := decide (age ≤ 2 ^ s.nd e 24 1 * (1 + s.rd F.SCAN_NODE_CFG_MISS_TOL))
        (s.wrMem a 12 (s.nd e b 12)).wrOctets (a + 12) (octetsLE 2 age ++ o1 (b2n ok + 2 * b2n radio) ++ o1 0)

/-- Node slots whose input entry is not empty. -/
def State.inputEntries (s : State) : List Nat :=
  s.mem.filterMap (fun c => if 0x00501000 ≤ c.1 ∧ c.1 < 0x00541000 ∧ c.1 % 16 = 14 then some ((c.1 - 0x00501000) / 16) else none)

/-- PT_FLAGS of point `p` as the image gives them: while PD36 is not ON every quantity is INCOMPLETE (R101, R256). -/
def State.ptFlags (s : State) (p : Nat) : Nat := if s.isOn 36 then s.word (0x400A0500 + 4 * p) else 1

/-- The input latch of task `n` at scan time `t`. -/
def State.latchInputs (s : State) (n t : Nat) : State :=
  let fl := b2n s.io.door + 2 * s.rd F.RTC_STAT_OSF + 4 * b2n (s.isOn 45 && s.isSet F.TIME_TB0_STAT_LOCKED) +
    8 * b2n (!s.scan.ran.contains n) + 16 * b2n (s.run bGAUGE) + 32 * b2n (s.run bNODE)
  let l := s.localSec
  let loc := if s.cal.valid = 0 then 0 else ofSigned 32 l
  let img := octetsLE 4 s.io.di ++ octetsLE 2 (min 10000 s.io.ai0) ++ octetsLE 2 (min 10000 s.io.ai1) ++
    octetsLE 2 s.cal.sched ++ octetsLE 2 s.cal.valid ++ o1 fl ++ List.replicate 3 0 ++ octetsLE 8 t ++ octetsLE 4 loc ++
    octetsLE 4 (ofSigned 32 (l / 86400)) ++ (List.range 16).flatMap (fun p => octetsLE 2 (s.ptFlags p)) ++
    List.replicate 192 0
  let s := s.wrOctets 0x00500000 img
  let never := decide (s.rd (F.SCAN_TASK_CFG_ALIGN n) ≠ 0) && !s.sfRun
  let nodes := s.nodeSlots
  let s := (s.inputEntries.filter (fun e => !nodes.contains e) ++ nodes).foldl (State.latchNode · never) s
  s.wr F.SCAN_NODE_CFG_LATCHED (nodes.filter (fun e => bitAt (s.nd e 17 1) 1)).length

/-! ## Output write (R286, R287, R313) -/

/-- DO_n or COIL_f driven; a write of a coil ends what an overcurrent switched off (R527). -/
def State.setDo (s : State) (n : Nat) (b : Bool) : State :=
  if s.outputsHeld then s else { s with io := { s.io with doOut := setBit s.io.doOut n b } }
def State.setCoil (s : State) (f : Nat) (b : Bool) : State :=
  if s.outputsHeld then s else { s with io := { s.io with coilOut := setBit s.io.coilOut f b, coilOff := setBit s.io.coilOff f false } }

/-- Owner of DO_n and of COIL_f. -/
def State.ownDo (s : State) (n : Nat) : Nat := bits (s.rd (F.SCAN_OWN_DO_TASK (n / 8))) (4 * (n % 8)) 4
def State.ownCoil (s : State) (f : Nat) : Nat := bits (s.rd (F.SCAN_OWN_COIL_TASK (f / 8))) (4 * (f % 8)) 4

/-- The ARM word written to SYM (R286). -/
def State.writeArm (s : State) (w : Nat) : State :=
  if s.isOn 39 then
    (List.range 32).foldl (fun s g => (s.wrB (F.SYM_GROUP_ARM_SCAN g) (bitAt w g)).showArmed g) s
  else s

/-- One output image of slot `e` committed to flow 4, with its STATUS; one that draws another result than OK stays pending (R287). -/
def State.putImage (s : State) (e img : Nat) : State :=
  let ((st, _), s) := s.pegPut 31 (64 * e + 4) false (octetsLE 12 img)
  let s := s.wrMem (0x00541000 + 16 * e + 13) 1 st
  s.setScan { s.scan with lastImg := if st = stOK then s.scan.lastImg.set e img else s.scan.lastImg.erase e }

/-- Node slots whose output entry has EN 1, with the owner. -/
def State.outputEntries (s : State) : List (Nat × Nat) :=
  s.mem.filterMap (fun c =>
    if 0x00541000 ≤ c.1 ∧ c.1 < 0x00581000 - 0x400 ∧ c.1 % 16 = 12 ∧ bitAt c.2.toNat 7 then
      some ((c.1 - 0x00541000) / 16, bits c.2.toNat 0 4)
    else none)

/-- The node outputs of task `n` (R287). -/
def State.nodeOutputs (s : State) (n : Nat) : State :=
  (s.outputEntries.filter (fun x => x.2 == n)).foldl (fun s x =>
    let e := x.1
    let img := s.rdMem (0x00541000 + 16 * e) 12
    if s.ndState e ≠ 0 ∧ bitAt (s.nd e 17 1) 2 ∧ s.scan.lastImg.find e ≠ some img then s.putImage e img else s) s

/-- The packet of a staged send record of task `n` (R313), its flow and level; an override takes the next CMD_ID. -/
def State.sendPacket (s : State) (n : Nat) (r : List Byte) : (List Byte × Nat × Bool) × State :=
  let b (o k : Nat) : Nat := ofOctetsLE ((r.drop o).take k)
  let curve := bits (b 1 1) 0 1
  if b 0 1 = 0x10 then
    ((dimPacket curve 1 (if bitAt (b 1 1) 1 then b 4 4 else 0xFFFFFFFF) (b 8 2) (b 10 2), 1, false), s)
  else
    let id := if s.scan.ovId = 65535 then 1 else s.scan.ovId + 1
    let s := s.setScan { s.scan with ovId := id }
    let hd := o1 (b 0 1) ++ o1 curve ++ octetsLE 2 id
    let p := if b 0 1 = 0x01 then hd ++ octetsLE 2 (b 8 2) ++ octetsLE 2 (b 10 2) ++ octetsLE 2 (b 12 2) ++ octetsLE 2 (0x100 + n)
      else hd ++ octetsLE 2 (b 10 2)
    ((p, 0, true), s)

/-- STATUS of a send record at `a` (R313). -/
def State.sendStatus (s : State) (a st : Nat) : State := if s.addrUp a then s.wrMem (a + 14) 1 st else s

/-- One staged send of task `n` committed. -/
def State.commitSend (s : State) (n : Nat) (x : Nat × List Byte) : State :=
  let t := ofOctetsLE ((x.2.drop 2).take 2) % 2 ^ 14
  if t < 16320 ∧ s.ndState t = 0 then s.sendStatus x.1 stBAD
  else
    let ((pkt, flow, exp), s) := s.sendPacket n x.2
    let ((st, _), s) := s.pegPut 31 (64 * t + flow) exp pkt
    s.sendStatus x.1 st

/-- The output write of task `n`: local outputs, lamp section and ARM, node outputs, sends. -/
def State.writeOutputs (s : State) (n : Nat) (sends : List (Nat × List Byte)) : State :=
  let dw := s.rdMem 0x00500100 2
  let cw := s.rdMem 0x00500102 2
  let s := (List.range 16).foldl (fun s i =>
    if bitAt (s.rd F.SCAN_OUT_EN_DO) i ∧ s.ownDo i = n then s.setDo i (bitAt dw i) else s) s
  let s := (List.range 12).foldl (fun s f =>
    if bitAt (s.rd F.SCAN_OUT_EN_COIL) f ∧ s.ownCoil f = n then s.setCoil f (bitAt cw f) else s) s
  let s := if s.isSet F.SCAN_OUT_EN_LAMP ∧ s.rd F.SCAN_OWN_MISC_LAMP = n then
      { s with lamp := { s.lamp with sect := some (s.mem.readN 0x00500180 128), off := false } } else s
  let s := if s.isSet F.SCAN_OUT_EN_ARM ∧ s.rd F.SCAN_OWN_MISC_ARM = n then s.writeArm (s.rdMem 0x00500104 4) else s
  let s := s.nodeOutputs n
  sends.reverse.foldl (State.commitSend · n) s

/-! ## Safe outputs (R294, R296, R317) -/

/-- DO and COIL enabled in SCAN_OUT_EN at their safe bits. -/
def State.safePins (s : State) : State :=
  let s := (List.range 16).foldl (fun s i =>
    if bitAt (s.rd F.SCAN_OUT_EN_DO) i then s.setDo i (bitAt (s.rd F.SCAN_SAFE_DO) i) else s) s
  (List.range 12).foldl (fun s f =>
    if bitAt (s.rd F.SCAN_OUT_EN_COIL) f then s.setCoil f (bitAt (s.rd F.SCAN_SAFE_COIL) f) else s) s

/-- Every enabled output at SCAN_SAFE. -/
def State.driveSafe (s : State) : State :=
  let s := s.safePins
  let s := if s.isSet F.SCAN_OUT_EN_LAMP ∧ ¬ s.isSet F.SCAN_SAFE_LAMP then
      { s with lamp := { s.lamp with off := true, sect := none } } else s
  let s := if s.isSet F.SCAN_OUT_EN_ARM then s.writeArm 0 else s
  if s.isSet F.SCAN_SAFE_NODE then s.outputEntries.foldl (fun s x => s.putImage x.1 0) s else s

/-! ## Entering and leaving modes -/

/-- No cycle runs or waits. -/
def State.dropCycle (s : State) : State :=
  s.setScan { s.scan with cyc := none, latch := none, stopReq := false }

/-- STOP taken (R288, R289). -/
def State.stopNow (s : State) : State :=
  let s := s.dropCycle.setScanMode mStop
  if s.isSet F.SCAN_CTRL_STOP_OUT then s.driveSafe else s

/-- FAULT entered for task `n` with `cause` (R294). -/
def State.scanTrip (s : State) (n cause : Nat) : State :=
  let s := s.dropCycle.setScanMode mFault
  let s := ((s.incSat F.SCAN_FAULT_TRIPS).wr F.SCAN_FAULT_CAUSE cause).wr F.SCAN_FAULT_TASK n
  let s := s.driveSafe
  let d := o1 n ++ o1 cause
  (s.recTrigger 0x0002 (n : Int) d).raiseEvent 0x0060 (unitOf bSCAN) d

/-- HOLD entered with BP `bp` (R293). -/
def State.enterHold (s : State) (bp : Nat) : State :=
  let (t, a) := match s.scan.cyc with | some y => (y.task, y.pc) | none => (0, 0)
  let s := ((s.wr F.SCAN_HOLD_STAT_BP bp).wr F.SCAN_HOLD_STAT_TASK t).wr F.SCAN_HOLD_STAT_ADDR a
  (s.setScan { s.scan with latch := none }).setScanMode mHold

/-! ## Retain RAM and RUN (R291, R299) -/

/-- The retain header is checked, and the retentive variables initialised where it fails (R95, R291). -/
def State.retainCheck (s : State) : State :=
  let a := 0x08000000
  let cab := match s.sys.cfgHdr with | some h => h.cabinet.toNat | none => 0
  let id := s.rd F.SCAN_PROG_ID_ID
  if s.rdMem a 4 = 0x4E544552 ∧ crc32 (s.mem.readN a 20) = s.rdMem (a + 20) 4 ∧ s.rdMem (a + 4) 4 = cab ∧
      s.rdMem (a + 8) 4 = id then s
  else
    let cnt := (s.rdMem (a + 16) 4 + 1) % 2 ^ 32
    let (vars, len) := match s.sys.cfg with | some c => (c.retain, c.retainLen) | none => ([], 0)
    let s := { s with mem := s.mem.clear (a + 256) 65280 }
    let s := vars.foldl (fun s v => if 256 ≤ v.1 ∧ v.1 < 65536 then s.wrOctets (a + v.1) [v.2] else s) s
    let h := octetsLE 4 0x4E544552 ++ octetsLE 4 cab ++ octetsLE 4 id ++ octetsLE 4 len ++ octetsLE 4 cnt
    s.wrOctets a (h ++ octetsLE 4 (crc32 h))

/-- RUN entered from STOP. -/
def State.enterScanRun (s : State) : State :=
  let s := s.retainCheck
  let s := { s with mem := s.mem.clear 0x00581000 520192 }
  let s := s.setScan { ScanState.start with ovId := s.scan.ovId, evtAt := s.scan.evtAt }
  let s := (List.range 16).foldl (fun s n => (s.wr (F.SCAN_TASK_EXEC_MAX n) 0).wr (F.SCAN_TASK_DELAY_MAX n) 0) s
  (s.setScanMode mRun).rephase false

/-- The program check of R290. -/
def State.checkProgram (s : State) : State :=
  let n := s.rd F.SCAN_PROG_LEN_LEN
  s.wrB F.SCAN_CMD_STAT_PROG_OK
    (decide (1 ≤ n ∧ n ≤ 262144) && crc32 (s.mem.readN 0x00400000 (4 * n)) == s.rd F.SCAN_PROG_CRC_CRC)

/-- A write that touches `n` octets at `a`, or PROG_LEN or PROG_CRC, clears PROG_OK (R290). -/
def State.progTouched (s : State) (a n : Nat) : State :=
  if (a < 0x00500000 ∧ 0x00400000 < a + n) ∨ a = 0x400C0014 ∨ a = 0x400C0018 then s.wr F.SCAN_CMD_STAT_PROG_OK 0 else s

/-- SCAN after the configuration is in place (R88 steps 7 and 8, R290). -/
def State.scanStart (s : State) : State :=
  let s := s.checkProgram
  if s.isSet F.SCAN_CMD_STAT_PROG_OK then s.enterScanRun
  else s.raiseEvent 0x00F0 (unitOf bSCAN) (o1 (unitOf bSCAN))

/-! ## Task starts (R278, R279, R282) -/

/-- LAST and MAX of a time register pair. -/
def State.wrTime (s : State) (last maxF : Fld) (v : Nat) : State :=
  let v := min v 65535
  (s.wr last v).wr maxF (max v (s.rd maxF))

/-- The input pins as the IO block holds them. -/
def State.sampleIo (s : State) (io : IoPins) : State :=
  { s with io := { s.io with di := io.di.toNat, ai0 := io.ai0.toNat, ai1 := io.ai1.toNat, door := io.door } }

/-- The cycle of task `n`, due at reference tick `due`, begins; the inputs stand at `io`. -/
def State.beginCycle (s : State) (n due : Nat) (io : IoPins) : State :=
  let s := s.wrTime (F.SCAN_TASK_DELAY_LAST n) (F.SCAN_TASK_DELAY_MAX n) (s.sys.refTick - due)
  let t := s.scanUs
  let s := (s.sampleIo io).latchInputs n t
  let y : Cycle := ⟨n, false, 0, false, 0, [], s.rd (F.SCAN_TASK_CFG_ENTRY n), t, s.sys.refTick, [], false, false⟩
  s.setScan { s.scan with cyc := some y, latch := none,
                          ran := if s.scan.ran.contains n then s.scan.ran else n :: s.scan.ran }

/-- At least 500 µs remain before the next carrier superframe boundary. -/
def State.latchTime (s : State) : Bool := !s.sfRun || decide (500000 ≤ 10000000 - s.tb2Ns % 10000000)

/-- TASK_START: the highest-priority due task is taken. -/
def State.taskStart (s : State) (io : IoPins) : State :=
  if s.scanMode ≠ mRun ∨ s.scan.cyc ≠ none ∨ s.scan.latch ≠ none then s
  else
    match (List.range 16).findSome? (fun n => (s.firstDue n).map (fun x => (n, x))) with
    | none => s
    | some (n, k, wait) =>
      match s.dueOf n, s.scan.paces.find n with
      | some d, some r =>
        let due := ((s.sys.refTick : Int) - wait).toNat
        let seen := if r.pace = d.pace then max r.seen k else k
        let s := s.setScan { s.scan with paces := s.scan.paces.set n ⟨d.pace, seen, none, due, false⟩ }
        if s.latchTime then s.beginCycle n due io else s.setScan { s.scan with latch := some (n, due) }
      | _, _ => s

/-- NODE_LATCH_WAIT_END (R282): 60 µs after the boundary. -/
def State.latchWaitEnd (s : State) (io : IoPins) : State :=
  match s.scan.latch with
  | none => s
  | some (n, due) =>
    if s.scanMode = mRun ∧ (¬ s.sfRun ∨ (60000 ≤ s.tb2Ns % 10000000 ∧ s.latchTime)) then s.beginCycle n due io else s

/-! ## Overrun and the scan watchdog (R294) -/

/-- TASK_OVERRUN of an ordinary task: the due start is skipped; at most one event per task per minute. -/
def State.taskOverrun (s : State) (n : Nat) : State :=
  if s.scanMode ≠ mRun ∨ s.isSet (F.SCAN_TASK_CFG_GUARDED n) then s
  else
    match s.skipDue n with
    | none => s
    | some r =>
      let s := s.setScan { s.scan with paces := s.scan.paces.set n r }
      let s := (s.inc (F.SCAN_TASK_STAT_OVERRUNS n)).wr (F.SCAN_TASK_STAT_OVR n) 1
      let d := o1 n ++ o1 0
      let s := s.recTrigger (0x0040 + n) (s.rd (F.SCAN_TASK_DELAY_LAST n) : Int) d
      let due := match s.scan.evtAt.find n with | some t => decide (t + 60 ≤ s.opSec) | none => true
      if due then
        (s.setScan { s.scan with evtAt := s.scan.evtAt.set n s.opSec }).raiseEvent 0x0060 (unitOf bSCAN) d
      else s

/-- SCAN_WATCHDOG_TRIP of a guarded task. -/
def State.watchdogTrip (s : State) (n : Nat) : State :=
  if s.scanMode = mRun ∧ s.isSet (F.SCAN_TASK_CFG_GUARDED n) ∧ s.skipDue n ≠ none then s.scanTrip n 1 else s

/-- HOLD_LIMIT_EXPIRY (R293). -/
def State.holdLimit (s : State) (heldS : Nat) : State :=
  if s.scanMode = mHold ∧ s.rd F.SCAN_HOLD_LIMIT_S ≤ heldS then
    s.scanTrip (match s.scan.cyc with | some y => y.task | none => 0) 2
  else s

/-! ## The end of a cycle (R279, R295) -/

/-- END has executed in RUN, or RESUME comes after it: output write, commit point, count; then a STOP that waits. -/
def State.endCycle (s : State) : State :=
  match s.scan.cyc with
  | none => s
  | some y =>
    let n := y.task
    let s := s.writeOutputs n y.sends
    let s := s.wrTime (F.SCAN_TASK_EXEC_LAST n) (F.SCAN_TASK_EXEC_MAX n) ((s.sys.refTick - y.begun) / 10)
    let s := (s.commit bSCAN).inc (F.SCAN_TASK_CNT_CYCLES n)
    let stop := s.scan.stopReq
    let s := s.setScan { s.scan with cyc := none }
    if stop then s.stopNow else s

/-- An execution error `code` at index `pc` (R295, R314). -/
def State.execError (s : State) (code pc : Nat) : State :=
  match s.scan.cyc with
  | none => s
  | some y =>
    let n := y.task
    let s := ((s.wr F.SCAN_EXEC_ERR_CODE code).wr F.SCAN_EXEC_ERR_TASK n).wr F.SCAN_EXEC_ERR_ADDR pc
    if s.isSet (F.SCAN_TASK_CFG_GUARDED n) then s.scanTrip n 3
    else
      let s := (s.incSat (F.SCAN_TASK_STAT_ERRORS n)).wr (F.SCAN_TASK_STAT_ERR n) 1
      let stop := s.scan.stopReq
      let s := s.setScan { s.scan with cyc := none }
      if s.scanMode = mHold then s.showHold
      else
        let s := s.commit bSCAN
        if stop then s.stopNow else s

/-! ## Commands (R289) -/

/-- The result of a command in SCAN_CMD_STAT. -/
def State.scanDone (s : State) (op st : Nat) : State := (s.wr F.SCAN_CMD_STAT_OP op).wr F.SCAN_CMD_STAT_STATUS st

def State.cmdRun (s : State) : State :=
  if s.scanMode = mStop ∧ s.isSet F.SCAN_CMD_STAT_PROG_OK then s.enterScanRun.scanDone 1 stOK else s.scanDone 1 stBAD

def State.cmdStop (s : State) : State :=
  if s.scanMode = mRun then
    if s.scan.cyc = none then s.stopNow.scanDone 2 stOK
    else (s.setScan { s.scan with stopReq := true }).scanDone 2 stOK
  else if s.scanMode = mHold then s.stopNow.scanDone 2 stOK
  else s.scanDone 2 stBAD

def State.cmdHold (s : State) : State :=
  if s.scanMode = mRun ∧ s.isSet F.SCAN_CTRL_HOLD_EN then (s.enterHold 0xF).scanDone 3 stOK else s.scanDone 3 stBAD

def State.cmdResume (s : State) : State :=
  if s.scanMode ≠ mHold then s.scanDone 4 stBAD
  else
    let s := (s.setScanMode mRun).rephase true
    match s.scan.cyc with
    | none => s.scanDone 4 stOK
    | some y =>
      if y.ended then s.endCycle.scanDone 4 stOK
      else
        (s.setScan { s.scan with cyc := some { y with skipBp := decide (s.rd F.SCAN_HOLD_STAT_BP ≠ 0xF) } }).scanDone 4 stOK

def State.cmdClearFault (s : State) : State :=
  if s.scanMode = mFault then (s.setScanMode mStop).scanDone 6 stOK else s.scanDone 6 stBAD

def State.cmdCheck (s : State) : State :=
  if s.scanMode = mStop ∨ s.scanMode = mFault then s.checkProgram.scanDone 7 stOK else s.scanDone 7 stBAD

/-- PD41 leaves ON (R296): in RUN or HOLD the IO block drives DO and COIL to SCAN_SAFE; what the engine was doing is lost. -/
def State.scanLost (s : State) : State :=
  let s := if s.isOn 49 ∧ (s.scanMode = mRun ∨ s.scanMode = mHold) then s.safePins else s
  (s.setScan { ScanState.start with evtAt := s.scan.evtAt, ovId := s.scan.ovId }).setScanMode mStop

end Sys2Proof.Machine
end

