-- ==== Sys2Proof/Machine/Lamp.lean ====
section
/-!
DEFINITION. Machine/Lamp.lean: the lamp drive (spec/13): frames, fades and flashing, levels of string lamps and matrix
elements, faults and routing, derating, all-or-nothing groups, on-time counters.
-/
namespace Sys2Proof.Machine

def State.setLamp (s : State) (x : LampState) : State := { s with lamp := x }

def State.lampRec (s : State) (id : Nat) : LampRec := s.lamp.recs.get id LampRec.none
def State.setLampRec (s : State) (id : Nat) (r : LampRec) : State := s.setLamp { s.lamp with recs := s.lamp.recs.set id r }
def State.lampStr (s : State) (k : Nat) : LampStr := s.lamp.strs.get k ⟨0, 0, 0, false⟩
def State.setLampStr (s : State) (k : Nat) (r : LampStr) : State := s.setLamp { s.lamp with strs := s.lamp.strs.set k r }

/-- LAMP_CNT index `i` of unit `u`: strings 0 to 5, matrix 6. -/
def State.lampCnt (s : State) (u i : Nat) : State := s.inc (F.LAMP_CNT_COUNT u i)

/-- The unit a lamp ID lies in. -/
def lampUnit (id : Nat) : Nat := if id < 256 then id / 16 else 6

/-! ## Curves (R191, R319) -/

/-- The greatest `x` below 2 ^ `k` added to `a` whose cube is at most `n`, bit by bit from the top. -/
def cbrtFrom : Nat → Nat → Nat → Nat
  | 0, a, _ => a
  | k + 1, a, n => let b := a + 2 ^ k; cbrtFrom k (if b * b * b ≤ n then b else a) n

/-- L* of LEVEL `l`, in units of 2⁻³². -/
def lstar (l : Nat) : Nat :=
  if 8856 * 65535 < l * 1000000 then 116 * cbrtFrom 34 0 (l * 2 ^ 96 / 65535) - 16 * 2 ^ 32
  else 9033 * l * 2 ^ 32 / (10 * 65535)

/-- LEVEL at L* `x`, to the nearest. -/
def levelOf (x : Nat) : Nat :=
  if 79996248 * 2 ^ 32 < x * 10000000 then
    let d := (116 * 2 ^ 32) ^ 3
    (2 * 65535 * (x + 16 * 2 ^ 32) ^ 3 + d) / (2 * d)
  else (2 * x * 10 * 65535 + 9033 * 2 ^ 32) / (2 * 9033 * 2 ^ 32)

/-- The point `t` of `n` of the way from `a` to `b`. -/
def lerp (a b t n : Nat) : Nat := (2 * (a * (n - t) + b * t) + n) / (2 * n)

/-- OUT `t` frames into a fade of `n` frames, linear in LEVEL or in L*. -/
def fadeOut (curve : Bool) (a b t n : Nat) : Nat :=
  if n ≤ t then b
  else if curve then
    let x := lstar a * (n - t) + lstar b * t
    levelOf (x / n)
  else lerp a b t n

/-! ## Spreading (R322, R323) -/

/-- The number of segments for `l` ticks of light: 2 ^ `spread`, halved while a segment would be below 256 ticks. -/
def segments (l : Nat) : Nat → Nat
  | 0 => 1
  | k + 1 => if l / 2 ^ (k + 1) < 256 then segments l k else 2 ^ (k + 1)

/-- The `n` low bits of `j` reversed. -/
def bitrev : Nat → Nat → Nat
  | 0, _ => 0
  | n + 1, j => j % 2 * 2 ^ n + bitrev n (j / 2)

/-- On-times of the segments of a frame: where each starts, and its ticks. -/
def spreadTicks (l spread : Nat) : List (Nat × Nat) :=
  let s := segments l spread
  (List.range s).map (fun j => (j * 65536 / s, l / s + (if bitrev (Nat.log2 s) j < l % s then 1 else 0)))

/-- Usable ticks of a line slot. -/
def usableTicks (rows mspread blank : Nat) : Nat := 65536 / (max 1 rows * 2 ^ mspread) - blank

/-- Ticks per frame of an element at level `l`. -/
def State.elementTicks (s : State) (l : Nat) : Nat :=
  let sp := s.rd F.LAMP_MTX_CFG_MSPREAD
  l * usableTicks (s.rd F.LAMP_MTX_CFG_N_ROWS) sp (s.rd F.LAMP_MTX_CFG_BLANK) * 2 ^ sp / 65536

/-- On-times of an element of row `r` lit for `t` ticks a frame (R323): in each scan its row's slot, from the end of the blank. -/
def State.elementSegs (s : State) (r t : Nat) : List (Nat × Nat) :=
  let sp := s.rd F.LAMP_MTX_CFG_MSPREAD
  let rows := max 1 (s.rd F.LAMP_MTX_CFG_N_ROWS)
  let slot := 65536 / (rows * 2 ^ sp)
  (List.range (2 ^ sp)).map (fun j =>
    ((j * rows + r) * slot + s.rd F.LAMP_MTX_CFG_BLANK, t / 2 ^ sp + (if bitrev sp j < t % 2 ^ sp then 1 else 0)))

/-! ## Members (R318) -/

/-- Mapped lamps and elements: ID, function, WEIGHT. -/
def State.lampMembers (s : State) : List (Nat × Nat × Nat) :=
  s.regs.filterMap (fun e =>
    let a := e.1 / 32
    if e.1 % 32 ≠ 7 ∨ e.2 = 0 then none
    else if 0x400D0600 ≤ a ∧ a < 0x400D0780 then
      let id := (a - 0x400D0600) / 4
      some (id, s.rd (F.LAMP_SL_CFG_FUNC (id / 16) (id % 16)), s.rd (F.LAMP_SL_CFG_WEIGHT (id / 16) (id % 16)))
    else if 0x400D2400 ≤ a ∧ a < 0x400D3000 then
      let id := (a - 0x400D2000) / 4
      some (id, s.rd (mcfgFunc id), s.rd (mcfgWeight id))
    else none)

/-- SCALE of NTC `n` in %; 7 names none. -/
def State.ntcScale (s : State) (n : Nat) : Nat := if n < 6 then s.rd (F.LAMP_NTC_STAT_SCALE n) else 100

/-- The NTC named for unit `u`. -/
def State.unitNtc (s : State) (u : Nat) : Nat := if u < 6 then s.rd (F.LAMP_STR_CFG_NTC u) else s.rd F.LAMP_MTX_CFG_NTC

/-- The current of string `k` in mA as set: I_SET times the two scales (R321). -/
def State.strCurrent (s : State) (k : Nat) : Nat :=
  s.rd (F.LAMP_STR_CFG_I_SET k) * s.ntcScale (s.unitNtc k) * s.lamp.lossScale / 10000

/-- A fault of unit `u` that counts against its members (R330). -/
def State.unitFault (s : State) (u : Nat) : Bool :=
  (decide (s.unitNtc u < 6) && s.isSet (F.LAMP_NTC_STAT_THERMAL (s.unitNtc u))) ||
  (if u < 6 then s.isSet (F.LAMP_STR_STAT_OVERCURRENT u) || s.isSet (F.LAMP_STR_STAT_STRING_OPEN u) ||
      s.isSet (F.LAMP_STR_STAT_UNDERCURRENT u)
   else s.isSet F.LAMP_STATUS_MATRIX_FAULT)

/-- Member `id` holds a fault of R330. -/
def State.memberFault (s : State) (id : Nat) : Bool :=
  (s.lampRec id).opn || (s.lampRec id).short || s.unitFault (lampUnit id)

/-- AON_GROUP of function `f`. -/
def State.aonGroup (s : State) (f : Nat) : Nat := s.rd (F.LAMP_FUNC_CFG_AON_GROUP f)

/-- The faulted member of group `g`, if there is one. -/
def State.groupFault (s : State) (g : Nat) : Option Nat :=
  ((s.lampMembers.filter (fun m => s.aonGroup m.2.1 == g)).find? (fun m => s.memberFault m.1)).map (·.1)

/-! ## RUN -/

/-- RUN follows PD42 and ENABLE (R316); on starting, every function stands at 0 and the flash clock begins (R317, R320); on
stopping, nothing is lit. -/
def State.showLampRun (s : State) : State :=
  let r := s.isOn 42 && s.isSet F.LAMP_CTRL_ENABLE
  if r = s.run bLAMP then s
  else
    let s := s.wrB (F.STATE_RUN bLAMP) r
    let s := (List.range 6).foldl (fun s k => s.wr (F.LAMP_STR_STAT_RUNNING k) 0) s
    s.setLamp { s.lamp with funcs := [], lit := [], shone := [], strs := [], frame := 0, flashOn := true,
                            flashLeft := 10 * s.rd F.LAMP_FLASH_ON_10MS, measured := [],
                            recs := s.lamp.recs.map (fun e => (e.1, { e.2 with lastMeas := 0 })) }

/-- String `k` is off: its buck does not run and its lamps are dark. -/
def State.stringOff (s : State) (k : Nat) : State :=
  (s.wr (F.LAMP_STR_STAT_RUNNING k) 0).setLamp { s.lamp with lit := s.lamp.lit.drop (fun id => id / 16 == k) }

/-- The matrix is off. -/
def State.matrixOff (s : State) : State := s.setLamp { s.lamp with lit := s.lamp.lit.drop (fun id => decide (256 ≤ id)) }

/-- String `k` may run. -/
def State.stringUsable (s : State) (k : Nat) : Bool :=
  bitAt (s.rd F.LAMP_CTRL_STR_EN) k && !s.isSet (F.LAMP_STR_STAT_OVERCURRENT k) &&
  !s.isSet (F.LAMP_STR_STAT_STRING_OPEN k) && !(s.lampStr k).restart

/-- Currents may flow at all. -/
def State.lampSupply (s : State) : Bool := !s.isSet F.LAMP_STATUS_SUPPLY_LOW && !s.isSet F.LAMP_STATUS_EJECT_ACTIVE

/-! ## Frame start (R316 to R321, R329, R330) -/

def State.lampFunc (s : State) (f : Nat) : LampFunc := s.lamp.funcs.get f ⟨0, 0, 0, 0, 0, 0⟩

/-- A fade of function `f` one frame further. -/
def State.fadeStep (s : State) (f : Nat) : State :=
  let x := s.lampFunc f
  if x.t < x.len then
    let t := x.t + 1
    let o := fadeOut (s.isSet (F.LAMP_FUNC_CFG_CURVE f)) x.base x.target t x.len
    s.setLamp { s.lamp with funcs := s.lamp.funcs.set f { x with t := t, out := o } }
  else s

/-- A fade from `base` to `target` begun. -/
def fadeFrom (base target fade : Nat) : LampFunc :=
  if fade = 0 then ⟨target, 0, target, base, 0, 0⟩ else ⟨target, fade, base, base, 0, 10 * fade⟩

/-- The lamp section taken: a LEVEL that differs from the present target starts a fade (R317, R319). -/
def State.takeSection (s : State) : State :=
  if s.lamp.off then s.setLamp { s.lamp with off := false, sect := none, funcs := [] }
  else
    match s.lamp.sect with
    | none => s
    | some l =>
      let s := (List.range 32).foldl (fun s f =>
        let lev := ofOctetsLE ((l.drop (2 * f)).take 2)
        let fd := ofOctetsLE ((l.drop (64 + 2 * f)).take 2)
        let x := s.lampFunc f
        let y := if lev = x.target then { x with fade := fd } else fadeFrom x.out lev fd
        s.setLamp { s.lamp with funcs := s.lamp.funcs.set f y }) s
      s.setLamp { s.lamp with sect := none }

/-- Functions of a group cleared by CLEAR_AON start from 0 with their present FADE (R331). -/
def State.restartGroups (s : State) : State :=
  let s := (List.range 32).foldl (fun s f =>
    if s.lamp.restarts.contains (s.aonGroup f) then
      let x := s.lampFunc f
      s.setLamp { s.lamp with funcs := s.lamp.funcs.set f (fadeFrom 0 x.target x.fade) }
    else s) s
  s.setLamp { s.lamp with restarts := [] }

/-- The flash clock one frame further (R320). -/
def State.flashStep (s : State) : State :=
  let l := s.lamp
  if l.frame = 0 then s
  else if 1 < l.flashLeft then s.setLamp { l with flashLeft := l.flashLeft - 1 }
  else
    let n := if l.flashOn then s.rd F.LAMP_FLASH_OFF_10MS else s.rd F.LAMP_FLASH_ON_10MS
    s.setLamp { l with flashOn := !l.flashOn, flashLeft := 10 * n }

/-- Forced-off decisions: a group with a faulted member trips (R330). -/
def State.aonDecide (s : State) (g : Nat) : State :=
  if bitAt (s.rd F.LAMP_STATUS_AON_TRIP) g then s
  else
    match s.groupFault g with
    | none => s
    | some id =>
      let s := (s.wr F.LAMP_STATUS_AON_TRIP (setBit (s.rd F.LAMP_STATUS_AON_TRIP) g true)).lampCnt (lampUnit id) 7
      (s.recTrigger 0x0003 (g : Int) (o1 g)).raiseEvent 0x0070 (unitOf bLAMP) (o1 g)

/-- OUT of function `f` in this frame, and FUNC_STAT. -/
def State.showFunc (s : State) (f : Nat) : State :=
  let x := s.lampFunc f
  let trip := bitAt (s.rd F.LAMP_STATUS_AON_TRIP) (s.aonGroup f)
  let fl := s.rd (F.LAMP_FUNC_CFG_FLASH f)
  let dark := trip || (fl == 1 && !s.lamp.flashOn) || (fl == 2 && s.lamp.flashOn)
  let s := (s.wr (F.LAMP_FUNC_STAT_OUT f) (if dark then 0 else x.out)).wrB (F.LAMP_FUNC_STAT_AON_TRIP f) trip
  let s := s.wrB (F.LAMP_FUNC_STAT_FADING f) (decide (x.t < x.len))
  s.wrB (F.LAMP_FUNC_STAT_MEMBER_FAULT f) ((s.lampMembers.filter (fun m => m.2.1 == f)).any (fun m => s.memberFault m.1))

/-- The loss limit by the mean of the last 100 ms (R329). -/
def State.lossStep (s : State) (loss : Nat) : State :=
  let l := s.lamp
  if 1400 < loss then
    (s.setLamp { l with lossScale := l.lossScale - 1, lossLow := 0 }).wr F.LAMP_STATUS_LOSS_LIMIT 1
  else if loss < 1200 then
    let s := s.setLamp { l with lossLow := l.lossLow + 1 }
    if 1000 ≤ l.lossLow + 1 ∧ l.lossScale < 100 then
      let s := s.setLamp { s.lamp with lossScale := l.lossScale + 1 }
      s.wrB F.LAMP_STATUS_LOSS_LIMIT (decide (l.lossScale + 1 < 100))
    else s
  else s.setLamp { l with lossLow := 0 }

/-- Levels of this frame: every mapped lamp that is lit (R318, R322, R323). -/
def State.lightUp (s : State) : State :=
  let l := s.lampMembers.filterMap (fun (id, f, w) =>
    let lev := s.rd (F.LAMP_FUNC_STAT_OUT f) * w / 255
    if ¬ s.lampSupply ∨ s.outputsHeld then none
    else if id < 256 then
      if s.stringUsable (id / 16) ∧ ¬ (s.lampRec id).routed ∧ 0 < lev then some (id, lev) else none
    else
      let t := s.elementTicks lev
      if s.isSet F.LAMP_CTRL_MTX_EN ∧ ¬ s.isSet F.LAMP_STATUS_MATRIX_FAULT ∧ 0 < t then some (id, t) else none)
  let m : AMap Nat := l.foldl (fun m x => m.set x.1 x.2) []
  s.setLamp { s.lamp with lit := m, shone := m.map (·.1), measured := [] }

/-- What the strings and the matrix show in this frame. -/
def State.lightOut (s : State) : Output :=
  .light (s.lamp.lit.map (fun e =>
      (e.1, if e.1 < 256 then spreadTicks e.2 (s.rd (F.LAMP_STR_CFG_SPREAD (e.1 / 16))) else s.elementSegs ((e.1 - 256) / 48) e.2)))
    ((List.range 6).map (fun k => if s.isSet (F.LAMP_STR_STAT_RUNNING k) then s.strCurrent k else 0))
    ((List.range 48).map (fun c => s.rd (F.LAMP_MTX_COL_I_COL c) * s.ntcScale (s.unitNtc 6) * s.lamp.lossScale / 100))

/-- The buck of string `k` (R321): it runs while a lamp is lit and for 100 frames after. -/
def State.buckStep (s : State) (k : Nat) : State :=
  let x := s.lampStr k
  if ¬ (s.stringUsable k ∧ s.lampSupply) then s.wr (F.LAMP_STR_STAT_RUNNING k) 0
  else if s.lamp.lit.any (fun e => e.1 / 16 == k) then
    (s.setLampStr k { x with idle := 0 }).wr (F.LAMP_STR_STAT_RUNNING k) 1
  else if x.idle < 100 then s.setLampStr k { x with idle := x.idle + 1 }
  else s.wr (F.LAMP_STR_STAT_RUNNING k) 0

/-- LAMP_FRAME_START (R316). -/
def State.lampFrameStart (s : State) (loss ledIn : Nat) : State :=
  if ¬ s.run bLAMP then s
  else
    let s := (s.wr F.LAMP_SUPPLY_LOSS loss).wr F.LAMP_SUPPLY_LED_IN ledIn
    let s := if s.lamp.resume then (s.wr F.LAMP_STATUS_SUPPLY_LOW 0).setLamp { s.lamp with resume := false } else s
    let s := (s.commit bLAMP).flashStep
    let s := (List.range 32).foldl State.fadeStep s
    let s := s.takeSection.restartGroups
    let s := [1, 2, 3, 4, 5, 6, 7].foldl State.aonDecide s
    let s := (List.range 32).foldl State.showFunc s
    let s := (s.lossStep loss).lightUp
    let s := (List.range 6).foldl State.buckStep s
    (s.setLamp { s.lamp with frame := s.lamp.frame + 1 }).emit s.lightOut

/-! ## Frame end (R325, R332) -/

/-- UNDERCURRENT of string `k` by the frame's mean current. -/
def State.underStep (s : State) (k mA : Nat) : State :=
  let x := s.lampStr k
  let low := decide (100 * mA < 90 * s.strCurrent k) && s.lamp.lit.any (fun e => e.1 / 16 == k)
  let x := { x with low := if low then x.low + 1 else 0, good := if low then 0 else x.good + 1 }
  let s := s.setLampStr k x
  if 10 ≤ x.low ∧ ¬ s.isSet (F.LAMP_STR_STAT_UNDERCURRENT k) then (s.wr (F.LAMP_STR_STAT_UNDERCURRENT k) 1).lampCnt k 5
  else if 10 ≤ x.good then s.wr (F.LAMP_STR_STAT_UNDERCURRENT k) 0
  else s

/-- LAMP_FRAME_END. -/
def State.lampFrameEnd (s : State) (strings : List (Nat × Nat)) (rowMa : Nat) : State :=
  if ¬ s.run bLAMP then s
  else
    let s := s.lamp.shone.foldl (fun s id =>
      let r := s.lampRec id
      s.setLampRec id { r with onFrames := r.onFrames + 1 }) s
    let s := s.setLamp { s.lamp with total := s.lamp.total + s.lamp.shone.length, shone := [] }
    let s := (List.range 6).foldl (fun s k =>
      let (v, i) := strings.getD k (0, 0)
      let s := (s.wr (F.LAMP_STR_MEAS_V_OUT k) v).wr (F.LAMP_STR_MEAS_I_MA k) i
      if s.isSet (F.LAMP_STR_STAT_RUNNING k) then (s.lampCnt k 0).underStep k i else s) s
    let s := s.wr F.LAMP_MTX_STAT_ROW_MA rowMa
    if s.isSet F.LAMP_CTRL_MTX_EN ∧ ¬ s.isSet F.LAMP_STATUS_MATRIX_FAULT then s.lampCnt 6 0 else s

/-! ## Faults (R324 to R326) -/

/-- The shunt of lamp `id` closed and held. -/
def State.routeLamp (s : State) (id : Nat) : State :=
  let k := id / 16
  let s := s.wr (F.LAMP_STR_STAT_ROUTED k) (setBit (s.rd (F.LAMP_STR_STAT_ROUTED k)) (id % 16) true)
  s.setLamp { s.lamp with lit := s.lamp.lit.erase id }

/-- FAULTED of the matrix. -/
def State.showFaulted (s : State) : State :=
  s.wr F.LAMP_MTX_STAT_FAULTED (s.lamp.recs.filter (fun e => decide (256 ≤ e.1) && (e.2.opn || e.2.short))).length

/-- A declared fault of lamp or element `id` counted: LAMP_CNT index `i`. -/
def State.lampDeclared (s : State) (id i : Nat) (r : LampRec) : State :=
  ((s.setLampRec id { r with declared := satInc (2 ^ 32 - 1) r.declared }).lampCnt (lampUnit id) i).showFaulted

/-- SHORT of a string lamp by its reading: below 1.0 V in 3 consecutive measured frames. -/
def State.judgeShort (s : State) (id volt : Nat) : State :=
  let r := s.lampRec id
  if 100 ≤ volt then s.setLampRec id { r with shortRun := 0 }
  else if r.shortRun + 1 < 3 ∨ r.short then s.setLampRec id { r with shortRun := r.shortRun + 1 }
  else (s.lampDeclared id 2 { r with shortRun := 3, short := true, routed := true }).routeLamp id

/-- DEGRADED by its reading: outside the window in 100 consecutive measured frames. -/
def State.judgeDegraded (s : State) (id volt : Nat) : State :=
  let r := s.lampRec id
  let k := id / 16
  if s.rd (F.LAMP_STR_VWIN_V_MIN k) ≤ volt ∧ volt ≤ s.rd (F.LAMP_STR_VWIN_V_MAX k) then
    s.setLampRec id { r with degRun := 0, degraded := false }
  else if r.degRun + 1 < 100 ∨ r.degraded then s.setLampRec id { r with degRun := r.degRun + 1 }
  else s.lampDeclared id 3 { r with degRun := 100, degraded := true }

/-- OPEN and SHORT of an element: 3 consecutive frames in which it is lit (R326). -/
def State.judgeElement (s : State) (id : Nat) (holds nearRow : Bool) : State :=
  let r := s.lampRec id
  let r := { r with openRun := if holds then 0 else r.openRun + 1, shortRun := if nearRow then r.shortRun + 1 else 0 }
  let s := s.setLampRec id r
  let s := if 3 ≤ r.openRun ∧ ¬ r.opn then s.lampDeclared id 1 { r with opn := true } else s
  let r := s.lampRec id
  if 3 ≤ r.shortRun ∧ ¬ r.short then s.lampDeclared id 2 { r with short := true } else s

/-- LAMP_MEASURE: one reading a frame of a lit lamp whose first segment lasts at least 256 ticks, or of a lit element. -/
def State.lampMeasure (s : State) (id volt : Nat) (holds nearRow : Bool) : State :=
  match s.lamp.lit.find id with
  | none => s
  | some l =>
    if ¬ s.run bLAMP ∨ s.lamp.measured.contains id then s
    else
      let s := s.setLamp { s.lamp with measured := id :: s.lamp.measured }
      if 256 ≤ id then s.judgeElement id holds nearRow
      else
        match spreadTicks l (s.rd (F.LAMP_STR_CFG_SPREAD (id / 16))) with
        | (_, n) :: _ =>
          if n < 256 ∨ ¬ s.isSet (F.LAMP_STR_STAT_RUNNING (id / 16)) then s
          else
            let s := s.setLampRec id { s.lampRec id with volt := volt, lastMeas := s.lamp.frame }
            (s.judgeShort id volt).judgeDegraded id volt
        | [] => s

/-- STRING_OPEN of string `k`: the buck stops and the fault latches. -/
def State.stringOpen (s : State) (k : Nat) : State := (s.wr (F.LAMP_STR_STAT_STRING_OPEN k) 1).stringOff k

/-- The lit lamp of string `k` with the highest of `volts`. -/
def State.highestLamp (s : State) (k : Nat) (volts : List Nat) : Option Nat :=
  ((List.range 16).filter (fun i => (s.lamp.lit.find (16 * k + i)).isSome)).foldl (fun b i =>
    match b with
    | none => some i
    | some j => if volts.getD j 0 < volts.getD i 0 then some i else b) none

/-- OPEN of lamp `i` of string `k`: routed (R324). -/
def State.lampOpen (s : State) (k i : Nat) : State :=
  let id := 16 * k + i
  (s.lampDeclared id 1 { s.lampRec id with opn := true, routed := true }).routeLamp id

/-- LAMP_OPEN_DETECT: a lit lamp above V_MAX + 4.0 V, or the clamp. -/
def State.lampOpenDetect (s : State) (k : Nat) (volts : List Nat) (clamp : Bool) : State :=
  if ¬ (s.run bLAMP ∧ s.isSet (F.LAMP_STR_STAT_RUNNING k)) then s
  else
    let lim := s.rd (F.LAMP_STR_VWIN_V_MAX k) + 400
    let crit := clamp || (List.range 16).any (fun i => (s.lamp.lit.find (16 * k + i)).isSome && decide (lim < volts.getD i 0))
    if ¬ crit then s
    else
      match s.highestLamp k volts with
      | some i => s.lampOpen k i
      | none => if clamp then s.stringOpen k else s

/-- CLAMP_PERSIST: 100 µs after a routing the next lamp is routed; with none left the string is open. -/
def State.clampPersist (s : State) (k : Nat) (volts : List Nat) (sinceUs : Nat) : State :=
  if ¬ (s.run bLAMP ∧ s.isSet (F.LAMP_STR_STAT_RUNNING k) ∧ s.rd (F.LAMP_STR_STAT_ROUTED k) ≠ 0 ∧ 100 ≤ sinceUs) then s
  else
    match s.highestLamp k volts with
    | some i => s.lampOpen k i
    | none => s.stringOpen k

/-- STRING_OVERCURRENT: above 120 % of the scaled setting for 10 µs; after three restarts the fault latches. -/
def State.stringOver (s : State) (k mA us : Nat) : State :=
  if s.run bLAMP ∧ s.isSet (F.LAMP_STR_STAT_RUNNING k) ∧ 120 * s.strCurrent k < 100 * mA ∧ 10 ≤ us then
    let s := (s.lampCnt k 4).stringOff k
    if s.rd (F.LAMP_STR_STAT_RESTARTS k) < 3 then s.setLampStr k { s.lampStr k with restart := true }
    else s.wr (F.LAMP_STR_STAT_OVERCURRENT k) 1
  else s

/-- OVERCURRENT_RESTART: 1 s after. -/
def State.overRestart (s : State) (k sinceMs : Nat) : State :=
  if (s.lampStr k).restart ∧ 1000 ≤ sinceMs then
    (s.setLampStr k { s.lampStr k with restart := false, idle := 0 }).inc (F.LAMP_STR_STAT_RESTARTS k)
  else s

/-- ROW_OVERCURRENT: above 2.2 A for 10 µs. -/
def State.rowOver (s : State) (mA us : Nat) : State :=
  if s.run bLAMP ∧ s.isSet F.LAMP_CTRL_MTX_EN ∧ ¬ s.isSet F.LAMP_STATUS_MATRIX_FAULT ∧ 2200 < mA ∧ 10 ≤ us then
    ((s.wr F.LAMP_STATUS_MATRIX_FAULT 1).lampCnt 6 4).matrixOff
  else s

/-- LED_SUPPLY_LOW: below 22.0 V. -/
def State.ledLow (s : State) (volt : Nat) : State :=
  if ¬ s.isOn 42 then s
  else
    let s := s.wr F.LAMP_SUPPLY_LED_IN volt
    if volt < 2200 then
      let s := (List.range 6).foldl State.stringOff s
      ((s.wr F.LAMP_STATUS_SUPPLY_LOW 1).matrixOff).setLamp { s.matrixOff.lamp with resume := false }
    else s

/-- LED_SUPPLY_RESUME: above 23.0 V for 100 ms; output resumes at the next frame start. -/
def State.ledResume (s : State) (volt ms : Nat) : State :=
  if s.isOn 42 ∧ s.isSet F.LAMP_STATUS_SUPPLY_LOW ∧ 2300 < volt ∧ 100 ≤ ms then
    (s.wr F.LAMP_SUPPLY_LED_IN volt).setLamp { s.lamp with resume := true }
  else s

/-! ## Derating (R328) -/

/-- SCALE at temperature `t`, in 0.1 °C. -/
def State.scaleAt (s : State) (n : Nat) (t : Int) : Nat :=
  let a := 10 * toSigned 8 (s.rd (F.LAMP_NTC_B_T_START n))
  let b := 10 * toSigned 8 (s.rd (F.LAMP_NTC_B_T_STOP n))
  let c := 10 * toSigned 8 (s.rd (F.LAMP_NTC_B_T_SHUT n))
  let m := s.rd (F.LAMP_NTC_B_MIN_PCT n)
  if c ≤ t then 0
  else if t ≤ a then 100
  else if b ≤ t then m
  else
    let d := ((100 - m : Nat) : Int) * (t - a)
    (100 - (2 * d + (b - a)) / (2 * (b - a))).toNat

/-- NTC_READ. -/
def State.ntcRead (s : State) (n : Nat) (ohms : Option Nat) : State :=
  if ¬ s.run bLAMP then s
  else
    match ohms with
    | none => (s.wr (F.LAMP_NTC_STAT_NTC_FAULT n) 1).wr (F.LAMP_NTC_STAT_SCALE n) (s.rd (F.LAMP_NTC_B_MIN_PCT n))
    | some r =>
      let t := Config.ntcTemp (s.rd (F.LAMP_NTC_A_RES_25 n)) (s.rd (F.LAMP_NTC_A_B n)) r
      let shut := 10 * toSigned 8 (s.rd (F.LAMP_NTC_B_T_SHUT n))
      let was := s.isSet (F.LAMP_NTC_STAT_THERMAL n)
      let th := decide (shut ≤ t) || (was && decide (shut - 50 < t))
      let s := ((s.wr (F.LAMP_NTC_STAT_NTC_FAULT n) 0).wr (F.LAMP_NTC_STAT_TEMP n) (ofSigned 16 t)).wr
        (F.LAMP_NTC_STAT_SCALE n) (s.scaleAt n t)
      let s := s.wrB (F.LAMP_NTC_STAT_THERMAL n) th
      if th ∧ ¬ was then (List.range 7).foldl (fun s u => if s.unitNtc u = n then s.lampCnt u 6 else s) s else s

/-! ## Commands (R331) -/

def State.lampDone (s : State) (op st : Nat) : State := (s.wr F.LAMP_CMD_STAT_OP op).wr F.LAMP_CMD_STAT_STATUS st

/-- A lamp or element is at ID `id`. -/
def lampId (id : Nat) : Bool := decide (id < 96) || decide (256 ≤ id)

def State.clearLamp (s : State) (req : Nat) : State :=
  let id := s.rdReq req F.LAMP_LSEL_ID
  if ¬ lampId id then s.lampDone 1 stBAD
  else
    let r := s.lampRec id
    let s := s.setLampRec id { r with opn := false, short := false, degraded := false, routed := false, shortRun := 0,
                                      degRun := 0, openRun := 0 }
    let s := if id < 256 then
        s.wr (F.LAMP_STR_STAT_ROUTED (id / 16)) (setBit (s.rd (F.LAMP_STR_STAT_ROUTED (id / 16))) (id % 16) false)
      else s.showFaulted
    s.lampDone 1 stOK

def State.clearString (s : State) (k : Nat) : State :=
  if 6 ≤ k then s.lampDone 2 stBAD
  else
    let s := ((s.wr (F.LAMP_STR_STAT_OVERCURRENT k) 0).wr (F.LAMP_STR_STAT_STRING_OPEN k) 0).wr (F.LAMP_STR_STAT_RESTARTS k) 0
    let s := (s.wr (F.LAMP_STR_STAT_UNDERCURRENT k) 0).setLampStr k ⟨0, 0, 0, false⟩
    s.lampDone 2 stOK

def State.clearMatrix (s : State) : State := (s.wr F.LAMP_STATUS_MATRIX_FAULT 0).lampDone 3 stOK

def State.clearAon (s : State) (g : Nat) : State :=
  if g = 0 ∨ 7 < g ∨ (s.groupFault g).isSome then s.lampDone 4 stBAD
  else
    let s := s.wr F.LAMP_STATUS_AON_TRIP (setBit (s.rd F.LAMP_STATUS_AON_TRIP) g false)
    (s.setLamp { s.lamp with restarts := g :: s.lamp.restarts }).lampDone 4 stOK

/-! ## On-time counters (R332) -/

/-- SUM over every ON_FRAMES. -/
def State.lampSum (s : State) : Nat := (s.lamp.recs.map (fun e => e.2.onFrames)).sum

/-- The counters stored in the settings region. -/
def State.storeLamps (s : State) : State :=
  s.setLamp { s.lamp with stored := s.lamp.recs.filterMap (fun e => if e.2.onFrames = 0 then none else some (e.1, e.2.onFrames)) }

/-- LAMP_COUNTER_STORE: every 15 minutes. -/
def State.lampCounterStore (s : State) (sinceMin : Nat) : State :=
  if 15 ≤ sinceMin ∧ s.allOn [0, 42, 44] ∧ ¬ s.slot.noFlashWrite then s.storeLamps else s

/-- PD42 leaves ON: the drive is dark and what it kept is lost (R333). -/
def State.lampLost (s : State) : State := s.setLamp { LampState.start with stored := s.lamp.stored }

/-- The counters restored when the drive comes back (R332). -/
def State.restoreLamps (s : State) : State :=
  let s := s.setLamp { s.lamp with recs := s.lamp.stored.map (fun e => (e.1, { LampRec.none with onFrames := e.2 })),
                                   total := (s.lamp.stored.map (·.2)).sum }
  s.incSat F.LAMP_AUDIT_CTRL_RESTORES

/-- LAMP_AUDIT_SNAP: SUM, TOTAL and PENDING latched; a frame-end update is one act, so PENDING is 0. -/
def State.lampSnap (s : State) : State :=
  let s := (s.wr (F.LAMP_AUDIT_WORD 0) (s.lampSum % 2 ^ 32)).wr (F.LAMP_AUDIT_WORD 1) (s.lampSum / 2 ^ 32)
  let s := (s.wr (F.LAMP_AUDIT_WORD 2) (s.lamp.total % 2 ^ 32)).wr (F.LAMP_AUDIT_WORD 3) (s.lamp.total / 2 ^ 32)
  (s.wr (F.LAMP_AUDIT_WORD 4) 0).inc F.LAMP_AUDIT_CTRL_SNAP_CNT

/-- LAMP_LSTAT word `n` of lamp or element `id`. -/
def State.lstatWord (s : State) (id n : Nat) : Nat :=
  if ¬ lampId id then 0
  else
    let r := s.lampRec id
    let mapped := s.lampMembers.any (fun m => m.1 == id)
    match n with
    | 0 => b2n r.opn + 2 * b2n r.short + 4 * b2n r.degraded + 8 * b2n r.routed +
        16 * b2n (decide (id < 256) && mapped && decide (60000 ≤ s.lamp.frame - r.lastMeas)) + r.volt * 65536
    | 1 => r.onFrames % 2 ^ 32
    | 2 => r.onFrames / 2 ^ 32 % 2 ^ 32
    | _ => r.declared

end Sys2Proof.Machine
end

