-- ==== Sys2Proof/Machine/Ledger.lean ====
section
/-!
DEFINITION. Machine/Ledger.lean: the LEDGER block (spec/22): audits started in the ledgers' own blocks, their terms copied,
and the supervisor's check.
-/
namespace Sys2Proof.Machine

/-- SNAP_CNT and block of ledger `i`: 0 cells, 1 airtime, 2 energy, 3 lamp, 4 restringing, 5 ring A, 6 ring B. -/
def ledgerCnt (i : Nat) : Fld :=
  match i with
  | 0 => F.PEG_AUDIT_CTRL_SNAP_CNT
  | 1 => F.FRAD_AUDIT_CTRL_SNAP_CNT
  | 2 => F.GAUGE_AUDIT_CTRL_SNAP_CNT
  | 3 => F.LAMP_AUDIT_CTRL_SNAP_CNT
  | 4 => F.RESTR_AUDIT_CTRL_SNAP_CNT
  | 5 => F.RING_AUDIT_CTRL_SNAP_CNT 0
  | _ => F.RING_AUDIT_CTRL_SNAP_CNT 1

def ledgerBlock (i : Nat) : Nat :=
  match i with
  | 0 => bPEG
  | 1 => bFRAD
  | 2 => bGAUGE
  | 3 => bLAMP
  | 4 => bRESTR
  | 5 => bRINGA
  | _ => bRINGB

/-- SNAP of a ring's audit: latched at a ring cycle boundary (R349, R505). -/
def State.ringSnap (s : State) (x : Nat) : State := s.setPath x { s.path x with auditDue := true }

/-- The snapshot of ledger `i` started in its own block for requester `req`, where that block is ON (R504). -/
def State.ledgerStart (s : State) (req i : Nat) : State :=
  if ¬ s.blockOn (ledgerBlock i) then s
  else
    let s := { s with ledgerDue := s.ledgerDue.set (8 * req + i) (s.rd (ledgerCnt i)) }
    match i with
    | 0 => s.pegAudit
    | 1 => s.fradSnap req
    | 2 => s.gaugeSnap
    | 3 => s.lampSnap
    | 4 => s.restrAuditOf req (s.rdReq req F.LEDGER_SEL_TARGET)
    | 5 => s.ringSnap 0
    | _ => s.ringSnap 1

/-- A write of LEDGER_SNAP (R504): the requester's DONE bits clear. -/
def State.ledgerSnap (s : State) (req mask : Nat) : State :=
  if ¬ s.isOn 49 then s
  else
    let s := s.wrReq req F.LEDGER_STAT_DONE 0
    (List.range 7).foldl (fun s i => if bitAt mask i then s.ledgerStart req i else s) s

/-- The words of ledger `i` as copied for requester `req`: the first LEDGER_TERM and the words. -/
def State.ledgerWords (s : State) (req i : Nat) : Nat × List Nat :=
  match i with
  | 0 => (0, (List.range 6).map (fun n => s.rd (F.PEG_AUDIT_VALUE n)))
  | 1 => (6, (List.range 28).map (fun n => s.latches.get (reqKey req (F.FRAD_TOKEN_VALUE (n / 4) (n % 4)).addr) 0))
  | 2 => (34, (List.range 11).map (fun n => s.gaugeAuditOf (s.rdReq req F.LEDGER_SEL_Q) n))
  | 3 => (45, (List.range 5).map (fun n => s.rd (F.LAMP_AUDIT_WORD n)))
  | 4 => (50, (List.range 5).map (fun n => s.rdReq req (F.RESTR_AUDIT_VALUE n)))
  | 5 => (55, (List.range 24).map (fun n => s.rd (F.RING_AUDIT_VALUE 0 n)))
  | _ => (79, (List.range 24).map (fun n => s.rd (F.RING_AUDIT_VALUE 1 n)))

/-- LEDGER_COPY (R504): once the block's SNAP_CNT has advanced, its terms are copied for the requester and DONE set. -/
def State.ledgerCopy (s : State) (req i : Nat) : State :=
  match s.ledgerDue.find (8 * req + i) with
  | none => s
  | some n =>
    if ¬ s.isOn 49 ∨ ¬ s.blockOn (ledgerBlock i) ∨ s.rd (ledgerCnt i) = n then s
    else
      let (base, l) := s.ledgerWords req i
      let s := (List.range l.length).foldl (fun s k => s.wrReq req (F.LEDGER_TERM_WORD (base + k)) (l.getD k 0)) s
      let s := s.wrReq req F.LEDGER_STAT_DONE (setBit (s.rdReq req F.LEDGER_STAT_DONE) i true)
      { s with ledgerDue := s.ledgerDue.erase (8 * req + i) }

/-- The local equation of ledger `i` holds (R502, R506); for a ring, AVAILABLE and HELD lie within ALLOT. -/
def State.ledgerOk (s : State) (i : Nat) : Bool :=
  match i with
  | 0 => s.cellTerms.sum == nCells
  | 1 => s.field.books.all (fun e => decide ((e.2.budget : Int) = e.2.avail + (e.2.reserved : Int) + (e.2.spent : Int)))
  | 2 => s.gauge.q.all (fun e =>
      e.2.total == (e.2.pulses * s.ptPc (e.1 / 8) * 2 ^ 24 + e.2.acc + e.2.ovf * 2 ^ 72) % 2 ^ 96)
  | 3 => s.lampSum == s.lamp.total
  | 4 => (List.range 17).all (fun t =>
      let l := s.restrTerms t
      decide (l.getD 0 0 = l.getD 1 0 + l.getD 2 0 + l.getD 3 0 ∧ l.getD 2 0 ≤ 4))
  | _ => (List.range 4).all (fun c =>
      let x := i - 5
      decide (s.rd (F.RING_CREDIT_AVAILABLE x c) ≤ s.rd (F.RING_CLASS_CELLS_ALLOT x c) ∧
        s.rd (F.RING_CREDIT_HELD x c) ≤ s.rd (F.RING_CLASS_CELLS_ALLOT x c)))

/-- One ledger checked: BAL, and at an imbalance IMBAL, its count and an event (R506). -/
def State.ledgerCheckOne (s : State) (i : Nat) : State :=
  if ¬ s.blockOn (ledgerBlock i) then s
  else if s.ledgerOk i then s.wr F.LEDGER_STAT_BAL (setBit (s.rd F.LEDGER_STAT_BAL) i true)
  else
    let s := s.wr F.LEDGER_STAT_BAL (setBit (s.rd F.LEDGER_STAT_BAL) i false)
    let s := s.wr F.LEDGER_STAT_IMBAL (setBit (s.rd F.LEDGER_STAT_IMBAL) i true)
    (s.incSat (F.LEDGER_IMBAL_CNT_COUNT i)).raiseEvent 0x00F0 (unitOf bLEDGER) (evtData [(1, unitOf bLEDGER), (1, i)])

/-- LEDGER_CHECK (R506). -/
def State.ledgerCheck (s : State) (sinceS : Nat) : State :=
  let n := s.rd F.LEDGER_CHECK_CFG_CHECK_S
  if n = 0 ∨ sinceS < n ∨ ¬ s.allOn [0, 49] then s else (List.range 7).foldl State.ledgerCheckOne s

end Sys2Proof.Machine
end

