-- ==== Sys2Proof/Machine/Mover.lean ====
section
/-!
DEFINITION. Machine/Mover.lean: the bulk mover's channels (spec/17): descriptors, their checks and write-backs, pacing and
commands. The data accesses are in Machine/MoverData.lean.
-/
namespace Sys2Proof.Machine

/-- The mover runs (R423). -/
def State.moverRuns (s : State) : Bool := s.isOn 40 && s.isSet F.MOVER_CTRL_EN

/-- Channel `c`. -/
def State.chan (s : State) (c : Nat) : MoverChan := s.mover.get c ⟨.idle, 0, 0, 0, none⟩

/-- STATE code of a phase. -/
def MoverPhase.code : MoverPhase → Nat
  | .idle => 0
  | .fetch => 1
  | .run => 1
  | .wait => 2
  | .wb _ _ => 1
  | .halted => 3

/-- Channel `c` set; a turn ends where it no longer moves data. -/
def State.setChan (s : State) (c : Nat) (x : MoverChan) : State :=
  let turn := if x.phase ≠ .run ∧ s.mvTurn.held = some c then { s.mvTurn with held := none } else s.mvTurn
  ({ s with mover := s.mover.set c x, mvTurn := turn }).wr (F.MOVER_CH_STAT_STATE c) x.phase.code

/-- The channel whose turn it is (R422): the one whose burst is under way, else the next with a burst ready, in round-robin
order of channel number. -/
def State.moverNext (s : State) : Option Nat :=
  match s.mvTurn.held with
  | some c => some c
  | none => ((List.range 32).map (fun i => (s.mvTurn.last + 1 + i) % 32)).find? (fun c => (s.chan c).phase == .run)

/-- Channel `c` in another phase. -/
def State.setPhase (s : State) (c : Nat) (p : MoverPhase) : State := s.setChan c { s.chan c with phase := p }

/-- CUR of channel `c`. -/
def State.moverCur (s : State) (c : Nat) : Nat := s.rd64 (F.MOVER_CH_CUR_LO_ADDR c) (F.MOVER_CH_CUR_HI_ADDR c)

/-- The channel halts with a status of R50 (R413, R414). -/
def State.moverHalt (s : State) (c st : Nat) : State :=
  let s := if st = stLOOP then s.wr F.MOVER_ERR_LOOP 1 else s.wr F.MOVER_ERR_FETCH 1
  (s.wr (F.MOVER_CH_STAT_HALT_STATUS c) st).setPhase c .halted

/-- The fields applied at a descriptor fetch of channel `c`: its LIMIT, and the queue watches, which no channel owns. -/
def moverFields (c key : Nat) : Bool :=
  key == (F.MOVER_CH_LIMIT_LIMIT c).key || decide ((F.MOVER_QWATCH_EN 0).addr ≤ key / 32 ∧ key / 32 ≤ (F.MOVER_QWATCH_EN 3).addr)

/-- The channel goes on to fetch the descriptor at CUR (R413, R414). -/
def State.moverFetch (s : State) (c : Nat) : State :=
  let s := s.commitSel bMOVER (moverFields c)
  if s.rd (F.MOVER_CH_LIMIT_LIMIT c) ≤ s.rd (F.MOVER_CH_COUNT_FETCHED c) then s.moverHalt c stLOOP
  else if s.moverCur c % 64 ≠ 0 then s.moverHalt c stFETCH
  else s.setPhase c .fetch

/-- START (R412, R413): from HEAD, while the channel is neither active nor waiting. -/
def State.moverStart (s : State) (c : Nat) : State :=
  let p := (s.chan c).phase
  if s.moverRuns ∧ (p = .idle ∨ p = .halted) then
    let head := s.rd64 (F.MOVER_CH_HEAD_LO_ADDR c) (F.MOVER_CH_HEAD_HI_ADDR c)
    ((s.wr64 (F.MOVER_CH_CUR_LO_ADDR c) (F.MOVER_CH_CUR_HI_ADDR c) head).wr (F.MOVER_CH_COUNT_FETCHED c) 0).moverFetch c
  else s

/-- CONTINUE (R413): from CUR, after a halt. -/
def State.moverContinue (s : State) (c : Nat) : State :=
  if s.moverRuns ∧ (s.chan c).phase = .halted then (s.wr (F.MOVER_CH_COUNT_FETCHED c) 0).moverFetch c else s

/-! ## Descriptor fields (R411) -/

namespace MvDesc

def typ (d : Nat) : Nat := bits d 0 4
def funnel (d : Nat) : Bool := bitAt d 4
def width (d : Nat) : Nat := if bitAt d 5 then 4 else 64
def evt (d : Nat) : Bool := bitAt d 6
def req (d : Nat) : Nat := bits d 8 8
def burst (d : Nat) : Nat := bits d 16 7
def exp (d : Nat) : Bool := bitAt d 23
def esize (d : Nat) : Nat := 2 ^ bits d 24 3
def len (d : Nat) : Nat := bits d 32 32
def src (d : Nat) : Nat := bits d 64 40
def dst (d : Nat) : Nat := bits d 128 40
def next (d : Nat) : Nat := bits d 192 40
def index (d : Nat) : Nat := bits d 256 40

/-- TYPE codes. -/
def tCopy : Nat := 0
def tGather : Nat := 1
def tToQueue : Nat := 2
def tFromQueue : Nat := 3

/-- No reserved encoding and no reserved bit set (R411, R421); a queue descriptor may hold any BURST (R420). -/
def legal (d : Nat) : Bool :=
  decide (typ d ≤ 3 ∧ bits d 7 1 = 0 ∧ bits d 27 5 = 0 ∧ (req d < 20 ∨ req d = 0xFF) ∧ (2 ≤ typ d ∨ 1 ≤ burst d ∧ burst d ≤ 64) ∧
    bits d 24 3 ≠ 7 ∧ bits d 104 24 = 0 ∧ bits d 168 24 = 0 ∧ bits d 232 24 = 0 ∧ bits d 296 24 = 0)

end MvDesc

/-- `n` octets from `a` up touch a register block. -/
def inRegBlocks (a n : Nat) : Bool := decide (a < 0x401A0000 ∧ 0x40000000 < a + n)

/-- What ends a fetched descriptor before it moves anything: its STATUS and REASON (R411, R415, R416, R419). -/
def moverCheck (d : Nat) : Option (Nat × Nat) :=
  let t := MvDesc.typ d
  let l := MvDesc.len d
  let w := MvDesc.width d
  let srcMem := t == MvDesc.tCopy || t == MvDesc.tToQueue
  let dstMem := t != MvDesc.tToQueue
  if l = 0 ∨ (t = MvDesc.tToQueue ∧ 9216 < l) then some (stBAD, 0x8)
  else if t = MvDesc.tGather ∧ l % MvDesc.esize d ≠ 0 then some (stBAD, 0x8)
  else if MvDesc.funnel d then
    if (srcMem ∧ inRegBlocks (MvDesc.src d) l) ∨ (dstMem ∧ inRegBlocks (MvDesc.dst d) l) then some (stBAD, 0xA) else none
  else if t = MvDesc.tGather then
    if MvDesc.dst d % MvDesc.esize d ≠ 0 ∨ MvDesc.index d % 4 ≠ 0 then some (stBAD, 0x1) else none
  else if (srcMem ∧ MvDesc.src d % w ≠ 0) ∨ (dstMem ∧ MvDesc.dst d % w ≠ 0) ∨ l % w ≠ 0 then some (stBAD, 0x1)
  else none

/-- The descriptor of channel `c` ends with STATUS and REASON; its write-back follows (R415, R418). -/
def State.moverEnd (s : State) (c st reason : Nat) : State :=
  let s := if reason = 0x1 then (s.wr F.MOVER_ERR_ALIGN 1).raiseEvent 0x00F0 (unitOf bMOVER) (o1 c) else s
  let s := if 0x2 ≤ reason ∧ reason ≤ 0x5 then s.wr F.MOVER_ERR_BUS 1 else s
  s.setPhase c (.wb st reason)

/-- The next burst of channel `c` made ready: at once without a request line, else by a counted request (R421). A queue packet
is one burst (R420). -/
def State.moverBurst (s : State) (c : Nat) : State :=
  let x := s.chan c
  let t := MvDesc.typ x.desc
  let whole := MvDesc.len x.desc
  let n := if t = MvDesc.tToQueue ∨ t = MvDesc.tFromQueue then whole else 64 * MvDesc.burst x.desc
  if MvDesc.req x.desc = 0xFF then s.setChan c { x with phase := .run, burst := n }
  else
    let p := s.rd (F.MOVER_CH_LIMIT_PENDING c)
    if p = 0 then s.setChan c { x with phase := .wait, burst := 0 }
    else (s.wr (F.MOVER_CH_LIMIT_PENDING c) (p - 1)).setChan c { x with phase := .run, burst := n }

/-- The windows that accept reads only: queue store, Primer, module flash (R35, R110). -/
def readOnlyWindow (a : Nat) : Bool :=
  decide ((0x50000000 ≤ a ∧ a < 0x51000000) ∨ (0x70000000 ≤ a ∧ a < 0x72000000) ∨ (0x80000000 ≤ a ∧ a < 0x100000000))

/-- DESCRIPTOR_FETCHED (R412, R414). -/
def State.descriptorFetched (s : State) (c : Nat) (d : Nat) (poison : Bool) : State :=
  if ¬ s.moverRuns ∨ (s.chan c).phase ≠ .fetch then s
  else
    let a := s.moverCur c
    if poison ∨ ¬ s.addrUp a ∨ inRegBlocks a 64 then s.moverHalt c stFETCH
    else
      let s := s.inc (F.MOVER_CH_COUNT_FETCHED c)
      if ¬ MvDesc.legal d then s.moverHalt c stFETCH
      else
        let r := MvDesc.req d
        let x := s.chan c
        let s := if r ≠ 0xFF ∧ x.line ≠ some r then s.wr (F.MOVER_CH_LIMIT_PENDING c) 0 else s
        let s := s.setChan c { x with desc := d, moved := 0, burst := 0, line := if r = 0xFF then x.line else some r }
        match moverCheck d with
        | some (st, reason) => s.moverEnd c st reason
        | none => s.moverBurst c

/-- Octets 40 to 47 of the descriptor at CUR written in one write (R412); false: it drew no good answer. -/
def State.moverWriteBack (s : State) (c st reason : Nat) : Bool × State :=
  let a := s.moverCur c
  if ¬ s.addrUp a ∨ inRegBlocks a 64 ∨ readOnlyWindow a then (false, s)
  else
    let x := s.chan c
    let seq := (s.rd (F.MOVER_CH_STAT_SEQ c) + 1) % 65536
    let s := s.wrMem (a + 40) 8 (st + reason * 2 ^ 8 + seq * 2 ^ 16 + x.moved * 2 ^ 32)
    let s := s.wr (F.MOVER_CH_STAT_SEQ c) seq
    let s := if MvDesc.evt x.desc then s.wr (F.MOVER_CH_STAT_EVT c) 1 else s
    (true, if st = stOK then s else (s.wr (F.MOVER_CH_STAT_BAD_SEEN c) 1).incSat (F.MOVER_CH_COUNT_BAD c))

/-- DESCRIPTOR_WRITE_BACK (R412): the chain goes on with NEXT, or ends. -/
def State.descriptorWriteBack (s : State) (c : Nat) : State :=
  match (s.chan c).phase with
  | .wb st reason =>
    if ¬ s.moverRuns then s
    else
      let next := MvDesc.next (s.chan c).desc
      match s.moverWriteBack c st reason with
      | (false, s) => s.moverHalt c stFETCH
      | (true, s) =>
        if next = 0 then s.setPhase c .idle
        else (s.wr64 (F.MOVER_CH_CUR_LO_ADDR c) (F.MOVER_CH_CUR_HI_ADDR c) next).moverFetch c
  | _ => s

/-- ABORT (R422). -/
def State.moverAbort (s : State) (c : Nat) : State :=
  let done (s : State) : State := (s.wr (F.MOVER_CH_LIMIT_PENDING c) 0).setPhase c .idle
  let back (s : State) (st reason : Nat) : State :=
    match s.moverWriteBack c st reason with
    | (false, s) => (s.wr (F.MOVER_CH_LIMIT_PENDING c) 0).moverHalt c stFETCH
    | (true, s) => done s
  if ¬ s.isOn 40 then s
  else match (s.chan c).phase with
    | .idle => s
    | .fetch => done s
    | .run => back s stBAD 0x9
    | .wait => back s stBAD 0x9
    | .wb st reason => back s st reason
    | .halted => done s

/-- MOVER_CTRL.EN set to `en`: 0 aborts every channel (R422, R423). -/
def State.moverEnable (s : State) (en : Bool) : State :=
  if ¬ s.isOn 40 then s
  else
    let s := if en then s else (List.range 32).foldl State.moverAbort s
    (s.wrB F.MOVER_CTRL_EN en).wrB (F.STATE_RUN bMOVER) en

/-- MOVER_ACCESS_TIMEOUT (R417): a time-out of a data access is a bus error, of a descriptor access a halt. -/
def State.moverTimeout (s : State) (c ticks : Nat) : State :=
  if ¬ s.moverRuns ∨ ticks < 11 then s
  else match (s.chan c).phase with
    | .fetch => s.moverHalt c stFETCH
    | .wb _ _ => s.moverHalt c stFETCH
    | .run => s.moverEnd c stTIMEOUT 0x4
    | _ => s

/-- One request of its line counted by channel `c`; a waiting channel takes it (R421). -/
def State.moverRequest (s : State) (c : Nat) : State :=
  let p := s.rd (F.MOVER_CH_LIMIT_PENDING c)
  let s := if p < 255 then s.wr (F.MOVER_CH_LIMIT_PENDING c) (p + 1) else s.wr (F.MOVER_CH_STAT_REQ_OVF c) 1
  if (s.chan c).phase = .wait then s.moverBurst c else s

/-- REQUEST_LINE (R421). -/
def State.requestLine (s : State) (line queue : Nat) : State :=
  let n := line - 16
  let counted := decide (line < 16) ||
    (decide (16 ≤ line ∧ line < 20) && s.isSet (F.MOVER_QWATCH_EN n) && s.rd (F.MOVER_QWATCH_QUEUE n) == queue)
  if ¬ s.moverRuns ∨ ¬ counted then s
  else (List.range 32).foldl (fun s c => if (s.chan c).line = some line then s.moverRequest c else s) s

/-- PD40 leaves ON: every channel is lost (R423). -/
def State.moverLost (s : State) : State := ({ s with mover := [], mvTurn := ⟨31, none⟩ }).wr (F.STATE_RUN bMOVER) 0

/-- PD40 is ON: RUN follows EN. -/
def State.moverBack (s : State) : State := s.wr (F.STATE_RUN bMOVER) (s.rd F.MOVER_CTRL_EN)

end Sys2Proof.Machine
end

