-- ==== Sys2Proof/Machine/Rec.lean ====
section
/-!
DEFINITION. Machine/Rec.lean: the event recorder (spec/21): records in flash, live pages and their sealing, samples,
snapshots, fetching, and the search for the front. Triggers and counts into live pages are in Machine/Trigger.lean.
-/
namespace Sys2Proof.Machine

/-! ## The region (R485 to R487) -/

/-- The address of unit `u`. -/
def unitAddr (u : Nat) : Nat := 0xD0000000 + 512 * u

/-- `l` cut or filled with zero octets to `n`. -/
def padTo (n : Nat) (l : List Byte) : List Byte := (l ++ List.replicate (n - l.length) 0).take n

def recMagic : Nat := 0xEC5A
def recValid : Nat := 0x5AA5C33C

/-- A record without its VALID: header of R486 with its CRC, and the body from octet 32 up to the mark. -/
def recOctets (kind seq opSec cycles len source : Nat) (body : List Byte) : List Byte :=
  let h := memFields [(2, recMagic), (1, kind), (1, 1), (4, seq), (8, opSec % 2 ^ 40), (4, cycles), (2, len), (2, source)]
  let b := octetsLE 4 0 ++ padTo (len - 36) body
  h ++ octetsLE 4 (crc32 (h ++ b)) ++ b

/-- The front: the first block not taken. -/
def State.recFront (s : State) : Nat := 65536 - s.rd F.REC_FREE_BLOCKS

/-- LOW and FULL as the free blocks and the open snapshot block stand (R499). -/
def State.recLevels (s : State) : State :=
  let free := s.rd F.REC_FREE_BLOCKS
  let s :=
    if free ≤ s.rd F.REC_RESERVE_BLOCKS ∧ ¬ s.isSet F.REC_STAT_LOW then
      (s.wr F.REC_STAT_LOW 1).raiseEvent 0x00F0 (unitOf bREC) (o1 (unitOf bREC))
    else s
  if free = 0 ∧ ¬ s.isSet F.REC_SNAP_POS_OPEN then s.wr F.REC_STAT_FULL 1 else s

/-- One record programmed at unit `u` with the next SEQ, VALID last, and read back (R487): torn where the program
fails. -/
def State.recProgram (s : State) (u kind opSec cycles len source : Nat) (body : List Byte) (fails : Bool) : State :=
  let l := recOctets kind (s.rd F.REC_SEQ_NEXT) opSec cycles len source body
  let s := s.inc F.REC_SEQ_NEXT
  if fails then (s.wrOctets (unitAddr u) l).recCnt 10
  else (s.wrOctets (unitAddr u) (l ++ octetsLE 4 recValid)).recCnt 0

/-- The next block taken: its number. -/
def State.recTake (s : State) : Nat × State :=
  (s.recFront, s.wr F.REC_FREE_BLOCKS (s.rd F.REC_FREE_BLOCKS - 1))

/-! ## Live pages (R488, R490) -/

/-- The live page of binding `k` opened by its active fields. Opening is one more update under R491: GEN goes on. -/
def State.openPage (s : State) (k : Nat) : State :=
  let a := pageAddr k
  let g := s.rdMem (a + 32) 4
  let mode := s.rd (F.REC_BIND_CFG_MODE k)
  let ext := mode == 2
  let s := { s with mem := s.mem.clear a 4096 }
  let head := memFields [(2, recMagic), (1, if ext then 2 else 1), (1, 1), (4, 0), (8, 0), (4, 0), (2, 4096), (2, k), (8, 0)]
  let flds := memFields [(4, g + 2), (2, k), (2, s.rd (F.REC_BIND_CFG_CODE k)),
    (4, if ext then 0 else s.rd (F.REC_BIND_LOW_LOW k)), (2, if ext then 0 else s.rd (F.REC_BIND_BINS_WIDTH k)),
    (2, if ext then 0 else s.rd (F.REC_BIND_BINS_N_BINS k)), (4, 0), (8, s.opSec), (4, s.rd F.PWR_CYCLES_COUNT)]
  let s := s.wrOctets a (head ++ flds)
  let s := if ext then
      (List.range (min 165 (s.rd (F.REC_BIND_ARG_ARG k)))).foldl
        (fun s j => s.wrMem (a + 128 + 24 * j) 2 (s.rd (F.REC_BIND_CFG_CODE k) + j)) s
    else s
  ((s.wr (F.REC_BIND_STAT_LIVE k) 1).wr (F.REC_BIND_STAT_SATURATED k) 0).wr (F.REC_BIND_STAT_FALLBACK k) 0

/-- The fields of binding `k`. -/
def inBinding (k key : Nat) : Bool :=
  [(F.REC_BIND_CFG_CODE k).addr, (F.REC_BIND_ARG_ARG k).addr, (F.REC_BIND_LOW_LOW k).addr,
    (F.REC_BIND_BINS_WIDTH k).addr].contains (key / 32)

/-- The page in system SRAM at `k` programmed into the next block, once more in the one after where that fails (R496). -/
def State.programPage (s : State) (k failures : Nat) : State :=
  let kind := s.rdMem (pageAddr k + 2) 1
  let body := s.mem.readN (pageAddr k + 32) 4060
  let put (s : State) (fails : Bool) : State :=
    let (b, s) := s.recTake
    (s.recProgram (8 * b) kind s.opSec (s.rd F.PWR_CYCLES_COUNT) 4096 k body fails).recLevels
  let s := put s (failures != 0)
  if failures = 0 ∨ s.rd F.REC_FREE_BLOCKS = 0 then s else put s (1 < failures)

/-- The live page of binding `k` sealed (R493), `early` at an announced stop (R497): written, its binding's shadow
applied, and a successor opened; refused at the reserve (R499). -/
def State.sealPage (s : State) (k : Nat) (early : Bool) (failures : Nat) : State :=
  if ¬ (s.isOn 44 ∧ s.isSet F.REC_STAT_READY) ∨ s.slot.noFlashWrite then s
  else if ¬ s.isSet (F.REC_BIND_STAT_LIVE k) then
    -- A binding with PERIOD_H 0 that was sealed opens no page until the next start of the recorder (R493).
    if early then s
    else
      let once := s.isSet (F.REC_BIND_CFG_EN k) && s.rd (F.REC_BIND_CFG_PERIOD_H k) == 0
      let s := s.commitSel bREC (inBinding k)
      if once then s
      else if s.isSet (F.REC_BIND_CFG_EN k) ∧ ¬ s.isSet F.REC_STAT_LOW ∧ ¬ s.isSet F.REC_STAT_FULL then s.openPage k
      else s
  else if s.isSet F.REC_STAT_LOW ∨ s.isSet F.REC_STAT_FULL then
    ((s.wr (F.REC_BIND_STAT_LIVE k) 0).wr (F.REC_BIND_STAT_FALLBACK k) 1).recCnt 6
  else
    let a := pageAddr k + 48
    let fl := setBit (s.rdMem a 2) 0 true
    let s := s.wrMem a 2 (if early then setBit fl 1 true else fl)
    let s := s.programPage k failures
    let s := (s.recCnt 1).inc (F.REC_BIND_STAT_PAGES k)
    let s := if early then s.recCnt 12 else s
    let once := s.rd (F.REC_BIND_CFG_PERIOD_H k) == 0
    let s := (s.wr (F.REC_BIND_STAT_LIVE k) 0).commitSel bREC (inBinding k)
    if s.isSet F.REC_STAT_LOW then s.wr (F.REC_BIND_STAT_FALLBACK k) 1
    else if s.isSet (F.REC_BIND_CFG_EN k) ∧ ¬ once then s.openPage k
    else s

/-- Every live page sealed at an announced stop, in binding order (R497). -/
def State.sealEarly (s : State) : State := (List.range 16).foldl (fun s k => s.sealPage k true 0) s

/-- SEAL_ALL (R493). -/
def State.sealAll (s : State) : State :=
  (List.range 16).foldl (fun s k => if s.isSet (F.REC_BIND_STAT_LIVE k) then s.sealPage k false 0 else s) s

/-- The recorder looks whether binding `k`'s period has passed (R493). -/
def State.pageSeal (s : State) (k failures : Nat) : State :=
  let per := s.rd (F.REC_BIND_CFG_PERIOD_H k)
  if s.isSet (F.REC_BIND_STAT_LIVE k) ∧ per ≠ 0 ∧ s.rdMem (pageAddr k + 52) 8 + 3600 * per ≤ s.opSec then
    s.sealPage k false failures
  else s

/-! ## Samples (R489) -/

/-- The quantity codes of R489. -/
def quantityCode (code : Nat) : Bool :=
  decide (code < 32 ∨ (0x0100 ≤ code ∧ code < 0x0110) ∨ (0x0200 ≤ code ∧ code < 0x0206) ∨
    (0x0300 ≤ code ∧ code < 0x0332) ∨ (0x0340 ≤ code ∧ code < 0x0372) ∨ code = 0x0400 ∨ code = 0x0410 ∨ code = 0x0500 ∨
    (0x0600 ≤ code ∧ code < 0x0620) ∨ code = 0x0700 ∨ (0x0800 ≤ code ∧ code < 0x0810) ∨ code = 0x0900)

/-- The bindable trigger codes of R494. -/
def bindableCode (code : Nat) : Bool :=
  decide ((0x0010 ≤ code ∧ code < 0x0030) ∨ code = 0x0030 ∨ (0x0040 ≤ code ∧ code < 0x0050) ∨ code = 0x0050 ∨
    code = 0x0060 ∨ code = 0x0070 ∨ code = 0x0080 ∨ code = 0x0090)

/-- The present value of a quantity: none where its source's domain is not ON or a slack reads 0x8000. -/
def State.quantity (s : State) (code arg : Nat) : Option Int :=
  let i := code % 0x100
  let nat (b : Nat) (f : Fld) : Option Int := if s.blockOn b then some (s.rd f : Int) else none
  let sgn (b : Nat) (f : Fld) : Option Int := if s.blockOn b then some (s.rdS f) else none
  let slack (f : Fld) : Option Int := if s.blockOn bTUNE ∧ s.rd f ≠ 0x8000 then some (s.rdS f) else none
  if ¬ quantityCode code then none
  else if code < 0x0100 then nat bGAUGE (F.GAUGE_CH_RMS_RMS i)
  else if code < 0x0200 then sgn bGAUGE (F.GAUGE_PT_POWER_VALUE i 0)
  else if code < 0x0300 then sgn bLAMP (F.LAMP_NTC_STAT_TEMP i)
  else if code < 0x0340 then slack (F.TUNE_DOM_SLACK_FLOOR i)
  else if code < 0x0400 then slack (F.TUNE_DOM_SLACK_TIMING (code - 0x0340))
  else if code = 0x0400 then nat bPEG F.PEG_CELL_FREE_FREE
  else if code = 0x0410 then
    if s.blockOn bPEG then some (((s.peg.descs.find arg).map (fun d => (d.cellCnt : Int))).getD 0) else none
  else if code = 0x0500 then nat bSYS F.SYS_PWR_LOGIC_POWER
  else if code < 0x0700 then nat bFRET (F.FRET_PORT_STAT_LOAD i)
  else if code < 0x0800 then nat bSYM F.SYM_LATENCY_LAST_NS
  else if code < 0x0900 then nat bSCAN (F.SCAN_TASK_EXEC_LAST i)
  else nat bRTC F.RTC_VBAT_MV

/-- One value put into entry `j` of the extreme page of binding `k` (R490). -/
def State.extreme (s : State) (k j : Nat) (v : Int) : State :=
  let e := pageAddr k + 128 + 24 * j
  let fl := s.rdMem (e + 2) 2
  let first := !bitAt fl 0
  let s := s.wrMem (e + 2) 2 (setBit fl 0 true)
  let s := if first ∨ v < toSigned 32 (s.rdMem (e + 4) 4) then (s.wrMem (e + 4) 4 (ofSigned 32 v)).wrMem (e + 12) 6 s.opSec
    else s
  if first ∨ toSigned 32 (s.rdMem (e + 8) 4) < v then (s.wrMem (e + 8) 4 (ofSigned 32 v)).wrMem (e + 18) 6 s.opSec else s

/-- The sample of binding `k` is taken where it is due (R489, R491). -/
def State.recSample (s : State) (k sinceMs : Nat) : State :=
  let per := s.rd (F.REC_BIND_ARG_SAMPLE k)
  let code := s.rd (F.REC_BIND_CFG_CODE k)
  let arg := s.rd (F.REC_BIND_ARG_ARG k)
  if ¬ (s.isOn 44 ∧ s.isSet (F.REC_BIND_STAT_LIVE k)) ∨ per = 0 ∨ sinceMs < 100 * per then s
  else if s.rd (F.REC_BIND_CFG_MODE k) = 0 then
    match s.quantity code arg with
    | some v => s.pageCount k v
    | none => s.recCnt 14
  else if s.rd (F.REC_BIND_CFG_MODE k) = 2 then
    let vals := (List.range (min 165 arg)).map (fun j => (j, if code + j = 0x0410 then none else s.quantity (code + j) 0))
    let s := s.pageUpdate k (fun s => vals.foldl (fun s p => match p.2 with
      | some v => s.extreme k p.1 v
      | none => s) s)
    vals.foldl (fun s p => if p.2 = none then s.recCnt 14 else s) s
  else s

/-! ## Snapshots (R495, R496) -/

/-- The octets of a snapshot from octet 32 up. -/
def Snap.body (n : Snap) : List Byte :=
  memFields [(2, n.code), (2, 0), (4, ofSigned 32 n.value)] ++ padTo 24 n.data ++ memFields [(2, n.regs.length), (2, 0)] ++
    n.regs.flatMap (fun r => memFields [(4, r.1), (4, r.2)])

/-- One snapshot programmed into the next slot of the open snapshot block, or of a new block. -/
def State.programSnap (s : State) (n : Snap) (fails : Bool) : State :=
  let s := if s.isSet F.REC_SNAP_POS_OPEN then s
    else
      let (b, s) := s.recTake
      ((s.wr F.REC_SNAP_POS_OPEN 1).wr F.REC_SNAP_POS_BLOCK b).wr F.REC_SNAP_POS_SLOTS 0
  let b := s.rd F.REC_SNAP_POS_BLOCK
  let slot := s.rd F.REC_SNAP_POS_SLOTS
  let s := s.recProgram (8 * b + slot) 3 n.opSec n.cycles 512 n.code n.body fails
  let s := if slot = 7 then (s.wr F.REC_SNAP_POS_OPEN 0).wr F.REC_SNAP_POS_SLOTS 0 else s.wr F.REC_SNAP_POS_SLOTS (slot + 1)
  s.recLevels

/-- A free unit for a snapshot exists. -/
def State.unitFree (s : State) : Bool := s.isSet F.REC_SNAP_POS_OPEN || s.rd F.REC_FREE_BLOCKS != 0

/-- The snapshot at the head of the queue programmed, once more where that fails (R496). -/
def State.snapshotWrite (s : State) (failures : Nat) : State :=
  if ¬ (s.isOn 44 ∧ s.isSet F.REC_STAT_READY) ∨ s.slot.noFlashWrite then s
  else match s.recd.queue with
    | [] => s
    | n :: rest =>
      let s := { s with recd := { s.recd with queue := rest } }
      if s.isSet F.REC_STAT_FULL then s.recCnt 7
      else
        let below := s.isSet F.REC_STAT_LOW && snapshotOnly n.code
        let s := s.programSnap n (failures != 0)
        let s := if failures = 0 ∨ ¬ s.unitFree then s else s.programSnap n (1 < failures)
        if failures ≤ 1 then
          let s := s.recCnt 2
          if below then s.recCnt 15 else s
        else s

/-! ## Reading records (R500) -/

/-- The first 16 octets of unit `u` are erased. -/
def State.unitErased (s : State) (u : Nat) : Bool := (s.mem.readN (unitAddr u) 16).all (· == 0xFF)

/-- LENGTH of the record at unit `u` where its header has the magic and a length of R486. -/
def State.recLen (s : State) (u : Nat) : Option Nat :=
  let a := unitAddr u
  let len := s.rdMem (a + 20) 2
  if s.rdMem a 2 ≠ recMagic then none
  else if len = 512 ∨ (len = 4096 ∧ u % 8 = 0) then some len
  else none

/-- VALID of a record of `len` octets at unit `u` reads as R486 gives. -/
def State.recMarked (s : State) (u len : Nat) : Bool := s.rdMem (unitAddr u + len - 4) 4 == recValid

/-- The CRC of a record of `len` octets at unit `u` matches. -/
def State.recCrcOk (s : State) (u len : Nat) : Bool :=
  let a := unitAddr u
  s.rdMem (a + 24) 4 == crc32 (s.mem.readN a 24 ++ s.mem.readN (a + 28) (len - 32))

/-- A write to REC_FETCH by requester `req` (R500): only an HCP session has a fetch buffer. -/
def State.recFetch (s : State) (req : Nat) (live : Bool) (k u : Nat) : State :=
  if req < 32 ∨ ¬ s.allOn [44, 47] then s
  else
    let buf := 0x00790000 + 0x1000 * (req - 32)
    let stat (s : State) (status kind next : Nat) : State :=
      ((s.wrReq req F.REC_FETCH_STAT_STATUS status).wrReq req F.REC_FETCH_STAT_KIND kind).wrReq req
        F.REC_FETCH_STAT_NEXT_UNIT next
    let s := s.recCnt 11
    if live then
      if s.isSet (F.REC_BIND_STAT_LIVE k) then
        stat (s.wrOctets buf (s.mem.readN (pageAddr k) 4096)) stOK (s.rdMem (pageAddr k + 2) 1) 0
      else stat s stBAD 0 0
    else
      let kind := s.rdMem (unitAddr u + 2) 1
      let nextBlock := 8 * (u / 8 + 1)
      let nextSlot := if u % 8 < 7 ∧ ¬ s.unitErased (u + 1) then u + 1 else nextBlock
      if 8 * s.recFront ≤ u ∨ s.unitErased u then stat s stBAD 0 nextBlock
      else match s.recLen u with
        | none => stat s stBAD kind nextSlot
        | some len =>
          let next := if len = 4096 then nextBlock else nextSlot
          let copy (s : State) : State := s.wrOctets buf (s.mem.readN (unitAddr u) len)
          if ¬ s.recMarked u len then stat (copy s) stINCOMPLETE kind next
          else if s.recCrcOk u len then stat (copy s) stOK kind next
          else stat s stBAD kind next

/-! ## Start (R498) -/

/-- The binary search of R498 over `n` halvings: the first block from `lo` up to `hi` whose first octets are erased. -/
def State.frontFrom (s : State) : Nat → Nat → Nat → Nat
  | 0, lo, _ => lo
  | n + 1, lo, hi =>
    if hi ≤ lo then lo
    else
      let mid := (lo + hi) / 2
      if s.unitErased (8 * mid) then State.frontFrom s n lo mid else State.frontFrom s n (mid + 1) hi

/-- Units of the taken blocks that hold a record's header. -/
def State.recUnits (s : State) (front : Nat) : List Nat :=
  (List.range front).flatMap (fun b =>
    match s.recLen (8 * b) with
    | some 4096 => [8 * b]
    | _ => ((List.range 8).map (fun i => 8 * b + i)).filter (fun u => s.recLen u != none))

/-- The record of greatest SEQ among `us`: its unit. -/
def State.recGreatest (s : State) (us : List Nat) : Option Nat :=
  us.foldl (fun m u => match m with
    | none => some u
    | some v => if s.rdMem (unitAddr v + 4) 4 < s.rdMem (unitAddr u + 4) 4 then some u else some v) none

/-- The recorder finds the front, resumes SEQ after the record of greatest SEQ and opens the enabled bindings' pages. -/
def State.frontSearch (s : State) : State :=
  let front := s.frontFrom 17 0 65536
  let us := s.recUnits front
  let seq := match s.recGreatest us with
    | some u => s.rdMem (unitAddr u + 4) 4 + 1
    | none => 0
  let lastSnap := (us.filter (fun u => s.rdMem (unitAddr u + 2) 1 == 3)).getLast?.map (· / 8)
  let torn := us.filter (fun u => (u / 8 == front - 1 || some (u / 8) == lastSnap) &&
    !(s.recMarked u ((s.recLen u).getD 512)))
  let left := match lastSnap with
    | some b => ((List.range 8).filter (fun i => s.unitErased (8 * b + i))).length
    | none => 0
  let s := { s with recd := { queue := [], holdoff := [] } }
  let s := (s.wr F.REC_FREE_BLOCKS (65536 - front)).wr F.REC_SEQ_NEXT seq
  let s := ((s.wr F.REC_SNAP_POS_OPEN 0).wr F.REC_SNAP_POS_BLOCK 0).wr F.REC_SNAP_POS_SLOTS 0
  let s := ((s.wr F.REC_STAT_LOW 0).wr F.REC_STAT_FULL 0).wr F.REC_STAT_READY 1
  let s := (s.add (F.REC_CNT_COUNT 8) torn.length).add (F.REC_CNT_COUNT 9) left
  let s := (s.wr (F.STATE_RUN bREC) 1).recLevels
  if s.isSet F.REC_STAT_LOW then s
  else (List.range 16).foldl (fun s k => if s.isSet (F.REC_BIND_CFG_EN k) then s.openPage k else s) s

/-- The highest operating seconds and power cycles that the headers in the region hold, those of torn records among them; a
value that reads as erased was not programmed (R87). -/
def State.recHighest (s : State) : Nat × Nat :=
  (s.recUnits (s.frontFrom 17 0 65536)).foldl (fun m u =>
    let op := s.rdMem (unitAddr u + 8) 8
    let cyc := s.rdMem (unitAddr u + 16) 4
    (if op < 2 ^ 40 - 1 then max m.1 op else m.1, if cyc < 2 ^ 32 - 1 then max m.2 cyc else m.2)) (0, 0)

/-- The live pages are lost (R497). -/
def State.pagesLost (s : State) : State := (List.range 16).foldl (fun s k => s.wr (F.REC_BIND_STAT_LIVE k) 0) s

/-- PD44 leaves ON: the recorder stops, its queue and live pages' counts are lost (R497). -/
def State.recLost (s : State) : State :=
  let s := ((s.wr (F.STATE_RUN bREC) 0).wr F.REC_STAT_READY 0).wr F.REC_SNAP_POS_OPEN 0
  { s with recd := { queue := [], holdoff := [] } }.pagesLost

end Sys2Proof.Machine
end

