-- ==== Sys2Proof/Machine/Tune.lean ====
section
/-!
DEFINITION. Machine/Tune.lean: the Tuning engine (R439 to R444): measurement, re-plan, ageing, margin alarms, stored
plans. A re-plan that raises a supply stops at the settling of the step and goes on at REPLAN_SETTLED.
-/
namespace Sys2Proof.Machine

/-- The highest supply, 0.90 V in 5 mV. -/
def supplyMax : Nat := 180

/-- The margin alarm kinds as octet 1 of the event's DATA (assumption 8). -/
def alarmFloor : Nat := 0
def alarmTiming : Nat := 1
def alarmForecast : Nat := 2

/-- A margin alarm of domain `d` raised (R443): counted, event 0x0002, recorder snapshot. -/
def State.marginAlarm (s : State) (d kind : Nat) : State :=
  let s := s.incSat F.TUNE_CTRL_ALARMS
  let s := if kind = alarmFloor then s.wr (F.TUNE_DOM_STAT_FLOOR_ALARM d) 1 else s.wr (F.TUNE_DOM_STAT_TIMING_ALARM d) 1
  (s.raiseEvent 0x0002 (unitOf bTUNE) (evtData [(1, d), (1, kind)])).recTrigger 0x0004 (d : Int) (evtData [(1, d), (1, kind)])

/-- The outcome of a re-plan pass. -/
inductive ReplanOut where
  /-- The re-plan has ended. -/
  | done
  /-- A supply step was made; the domain settles. -/
  | settling
  /-- A timing alarm was raised. -/
  | timingAlarm
  deriving DecidableEq, Repr

/-- Taps lengthened while TIMING is below TAP_LO (R440): (taps, timing), each tap adding 6 ps. -/
def lengthen : Nat → Nat → Int → Int → Nat × Int
  | 0, taps, timing, _ => (taps, timing)
  | fuel + 1, taps, timing, lo =>
    if timing < lo ∧ taps < 63 then lengthen fuel (taps + 1) (timing + 6) lo else (taps, timing)

/-- The domain carries a floor. -/
def State.floored (s : State) (d : Nat) : Bool := s.isSet (F.TUNE_DOM_STAT_HAS_FLOOR d)

/-- FLOOR slack less AGE_PS. -/
def State.floorMargin (s : State) (d : Nat) : Int :=
  s.rdS (F.TUNE_DOM_SLACK_FLOOR d) - (s.rd (F.TUNE_DOM_STAT_AGE_PS d) : Int)

/-- The slack that lets the supply of domain `d` fall is above its band (R440): FLOOR slack less AGE_PS, or without a floor
TIMING slack. -/
def State.slackAbove (s : State) (d : Nat) : Bool :=
  if s.floored d then decide ((s.rd F.TUNE_CFG_GUARD_HI_PS : Int) < s.floorMargin d)
  else decide ((s.rd F.TUNE_TAP_CFG_TAP_HI_PS : Int) < s.rdS (F.TUNE_DOM_SLACK_TIMING d))

/-- The moment since which it is, kept from one measurement to the next. -/
def State.noteSlack (s : State) (d : Nat) : State :=
  let m := s.sys.slackHigh
  let m := if s.slackAbove d then m.set d (m.get d s.sys.refTick) else m.erase d
  { s with sys := { s.sys with slackHigh := m } }

/-- It has been for 3,600 s. -/
def State.slackHeld (s : State) (d : Nat) : Bool :=
  match s.sys.slackHigh.find d with
  | some t => decide (t + 3600000000 ≤ s.sys.refTick)
  | none => false

/-- One pass of replan(d) (R440) on the slacks just measured. -/
def State.replan (s : State) (d : Nat) : ReplanOut × State :=
  let high := s.slackHeld d
  let lo : Int := (s.rd F.TUNE_TAP_CFG_TAP_LO_PS : Int)
  let hi : Int := (s.rd F.TUNE_TAP_CFG_TAP_HI_PS : Int)
  let glo : Int := (s.rd F.TUNE_CFG_GUARD_LO_PS : Int)
  let ghi : Int := (s.rd F.TUNE_CFG_GUARD_HI_PS : Int)
  let (taps, timing) := lengthen 63 (s.rd (F.TUNE_DOM_PLAN_TAPS d)) (s.rdS (F.TUNE_DOM_SLACK_TIMING d)) lo
  let s := s.wr (F.TUNE_DOM_PLAN_TAPS d) taps
  let v := s.rd (F.TUNE_DOM_PLAN_SUPPLY d)
  let floor := s.floorMargin d
  let raised (s : State) : ReplanOut × State :=
    let s := (s.wr (F.TUNE_DOM_PLAN_SUPPLY d) (v + 1)).wr (F.TUNE_DOM_STAT_REPLANNING d) 1
    (.settling, { s with sys := { s.sys with planDirty := true } })
  if s.floored d ∧ floor < glo ∧ v < supplyMax then raised s
  else
    let s := if s.floored d ∧ floor < glo then
        (if s.isSet (F.TUNE_DOM_STAT_FLOOR_ALARM d) then s else s.marginAlarm d alarmFloor)
      else s.wr (F.TUNE_DOM_STAT_FLOOR_ALARM d) 0
    if timing < lo ∧ v < supplyMax then raised s
    else if timing < lo then (.timingAlarm, (s.marginAlarm d alarmTiming).wr (F.TUNE_DOM_STAT_REPLANNING d) 0)
    else
      let s := (s.wr (F.TUNE_DOM_STAT_TIMING_ALARM d) 0).wr (F.TUNE_DOM_STAT_REPLANNING d) 0
      let s := if hi < timing ∧ 0 < taps ∧ (¬ s.floored d ∨ glo ≤ floor - 6) then
          s.wr (F.TUNE_DOM_PLAN_TAPS d) (taps - 1) else s
      let s := if high ∧ s.floored d ∧ ghi < floor ∧ 144 < v then s.wr (F.TUNE_DOM_PLAN_SUPPLY d) (v - 1)
        else if high ∧ ¬ s.floored d ∧ hi < timing ∧ 150 < v then s.wr (F.TUNE_DOM_PLAN_SUPPLY d) (v - 1)
        else s
      (.done, s)

/-- A slack of domain `d` lies outside its band (R440). -/
def State.outOfBand (s : State) (d : Nat) : Bool :=
  let t := s.rdS (F.TUNE_DOM_SLACK_TIMING d)
  decide (t < (s.rd F.TUNE_TAP_CFG_TAP_LO_PS : Int)) || decide ((s.rd F.TUNE_TAP_CFG_TAP_HI_PS : Int) < t) ||
  (s.floored d && (decide (s.floorMargin d < (s.rd F.TUNE_CFG_GUARD_LO_PS : Int)) ||
    decide ((s.rd F.TUNE_CFG_GUARD_HI_PS : Int) < s.floorMargin d)))

/-- The measured slacks of domain `d` stored; a domain without a floor shows 0x8000 (R439). -/
def State.storeSlack (s : State) (d floor timing : Nat) : State :=
  ((s.wr (F.TUNE_DOM_SLACK_FLOOR d) (if s.floored d then floor else 0x8000)).wr (F.TUNE_DOM_SLACK_TIMING d) timing).noteSlack d

/-- TUNE_MEASURE up to the outcome of its re-plan (R440, R441, R444): a domain not ON, or changing, is not measured; with
EN 0 the plans stay. The TUNE commit point is the start of the re-plan. -/
def State.tuneMeasure (s : State) (d floor timing : Nat) : ReplanOut × State :=
  if s.blockOn bTUNE ∧ s.isOn d then
    let s := s.storeSlack d floor timing
    if s.isSet F.TUNE_CTRL_EN ∧ ¬ s.isSet (F.TUNE_DOM_STAT_REPLANNING d) ∧ s.outOfBand d then
      (s.commit bTUNE).replan d
    else (.done, s)
  else (.done, s)

/-- REPLAN_SETTLED (R440). -/
def State.replanSettled (s : State) (d floor timing : Nat) : ReplanOut × State :=
  if s.blockOn bTUNE ∧ s.isOn d ∧ s.isSet (F.TUNE_DOM_STAT_REPLANNING d) then
    (s.storeSlack d floor timing).replan d
  else (.done, s)

/-- AGEING_MEASURE (R440, R442): AGE_PS and FORECAST_D, WARN with its event, and the re-plan the new age may call for. -/
def State.ageing (s : State) (d agePs forecastD : Nat) : ReplanOut × State :=
  if s.blockOn bTUNE ∧ s.isOn d then
    let s := ((s.wr (F.TUNE_DOM_STAT_AGE_PS d) agePs).wr (F.TUNE_DOM_STAT_FORECAST_D d) forecastD).noteSlack d
    let warn := s.floored d && decide (forecastD ≤ 365)
    let s := if warn ∧ ¬ s.isSet (F.TUNE_DOM_STAT_WARN d) then
        s.raiseEvent 0x0002 (unitOf bTUNE) (evtData [(1, d), (1, alarmForecast)]) else s
    let s := s.wrB (F.TUNE_DOM_STAT_WARN d) warn
    let measured := s.rd (F.TUNE_DOM_SLACK_TIMING d) != 0x8000
    if s.isSet F.TUNE_CTRL_EN ∧ measured ∧ ¬ s.isSet (F.TUNE_DOM_STAT_REPLANNING d) ∧ s.outOfBand d then
      (s.commit bTUNE).replan d
    else (.done, s)
  else (.done, s)

/-- PLAN_STORE (R441): every plan written to the settings region. -/
def State.planStore (s : State) : State :=
  if s.blockOn bTUNE ∧ s.allOn [0, 44] ∧ ¬ s.slot.noFlashWrite then
    { s with sys := { s.sys with
      plans := (List.range 50).map (fun d => (d, s.rd (F.TUNE_DOM_PLAN_TAPS d), s.rd (F.TUNE_DOM_PLAN_SUPPLY d)))
      planDirty := false } }
  else s

/-- The stored plans loaded when PD46 comes ON (R441): every domain holds the plan it started at. -/
def State.loadPlans (s : State) : State :=
  s.sys.plans.foldl (fun s p => (s.wr (F.TUNE_DOM_PLAN_TAPS p.1) p.2.1).wr (F.TUNE_DOM_PLAN_SUPPLY p.1) p.2.2) s

end Sys2Proof.Machine
end

