-- ==== Sys2Proof/Machine/Power.lean ====
section
/-!
DEFINITION. Machine/Power.lean: the domain sequencer (spec/18): state changes and their requests, service levels, domain
faults, and what each unit does as its domain leaves ON, goes OFF and comes ON again (R46, R424 to R434, R444), as the units'
chapters give it.
-/
namespace Sys2Proof.Machine

/-! ## Parents (R426) and owners (R36) -/

def domParents (d : Nat) : List Nat :=
  if d < 16 then [16]
  else if (18 ≤ d ∧ d ≤ 26) ∨ d = 31 ∨ (36 ≤ d ∧ d ≤ 40) then [17]
  else if 41 ≤ d ∧ d ≤ 48 then [17, 49]
  else if d = 27 ∨ d = 28 then [25]
  else if d = 29 ∨ d = 30 then [26]
  else if 32 ≤ d ∧ d ≤ 35 then [31]
  else []

def domChildren (d : Nat) : List Nat := (List.range 50).filter (fun c => (domParents c).contains d)

/-- The domains that hold the registers of block `b`, outside the always-on island (R14, R36). -/
def blockOwners (b : Nat) : List Nat :=
  match b with
  | 2 => [46]
  | 3 => [16, 17]
  | 4 => [18, 19]
  | 5 => [40]
  | 6 => [31]
  | 7 => [32, 33, 34, 35]
  | 8 => [31]
  | 9 => [39]
  | 10 => [36]
  | 11 => [37, 38]
  | 12 => [41]
  | 13 => [42]
  | 14 => [25]
  | 15 => [26]
  | 16 => [25, 26]
  | 17 => [43]
  | 18 => [45]
  | 21 => [44]
  | 22 => [44]
  | 0 => [49]
  | 23 => [49]
  | 24 => [49]
  | 25 => [49]
  | _ => []

/-- The blocks whose registers stand in domain `d`. -/
def domBlocks (d : Nat) : List Nat := (List.range 26).filter (fun b => (blockOwners b).contains d)

/-- The stores of R33 that lose their content with domain `d`: address and length. -/
def domStores (d : Nat) : List (Nat × Nat) :=
  if d < 16 then [(0x01000000 + 0x80000 * d, 0x80000)]
  else match d with
    | 24 => [(0x100000000, 0x200000000)]
    | 25 => [(0x03000000, 0x80000)]
    | 26 => [(0x03080000, 0x80000)]
    | 31 => [(0x04000000, 0x80000)]
    | 37 => [(0x04080000, 0x40000)]
    | 38 => [(0x040C0000, 0x40000)]
    | 39 => [(0x02000000, 0x200000)]
    | 47 => [(0, 0x800000)]
    | _ => []

/-- Every value kept under a key that `p` picks is lost: registers, shadows, values kept per requester, latches. -/
def State.dropFields (s : State) (p : Nat → Bool) : State :=
  { s with
    regs := s.regs.drop p
    shadow := s.shadow.drop p
    reqRegs := s.reqRegs.drop (fun k => p (k % 2 ^ 48))
    latches := s.latches.drop (fun k => p (k % 2 ^ 48 * 32)) }

/-! ## A unit's domain leaves ON -/

/-- The claims and open packets of port `p` end with its domain (R121, R128). -/
def State.portLost (s : State) (p : Nat) : State := (s.rewindPort p).portClaimsLost p

/-- Every frame in flight that `p` picks is given up and its packet requeued (R175). -/
def State.framesLost (s : State) (p : Tx → Bool) : State :=
  let l := s.field.txs.filter (fun e => p e.2)
  let s := l.foldl (fun s e => match s.heldClaim 27 e.2.queue with
    | some cl => s.requeue cl
    | none => s) s
  s.setField { s.field with txs := s.field.txs.filter (fun e => !p e.2) }

/-- Every transmission of radio `r` is cut off; its tokens are spent. -/
def State.radioCut (s : State) (r : Nat) : State :=
  (s.field.resv.filter (fun x => x.radio == r)).foldl (fun s x => s.endTx r x.tokens) s

/-- The head-end port's link is down with its domain (R366, R377): its associations, the transfers in staging and the
requests outstanding end. The windows of R370 stay while the domain keeps its contents. -/
def State.hcpLost (s : State) : State :=
  let s := { s with hcp := { s.hcp with assoc := [], xfers := [], fwd := [] }, ring := { s.ring with heUp := false } }
  let s := (List.range 4).foldl (fun s k =>
    (s.wr (F.HCP_SESSION_STAT_BOUND k) 0).wr (F.HCP_SESSION_STAT_STAGED_PCT k) 0) s
  let s := if s.blockOn bCAPO then s.showMembers else s
  (s.wr F.HCP_PORT_STAT_RATE 0).wr (F.STATE_RUN bHCP) 0

/-- What happens as domain `d` leaves ON, its change having begun. -/
def State.leaveOn (s : State) (d : Nat) : State :=
  if d < 16 then (s.portLost d).wr (F.SYS_COURSE_ROLE_ON d) 0
  else if 18 ≤ d ∧ d ≤ 23 then s.pegLost
  else match d with
    | 24 => { (s.soundMemLost.portLost 24) with mem := s.mem.clear 0x100000000 0x200000000 }
    | 25 => (((s.ringLost 0).ringRunSet 0).portLost 25).loopAbandon 0
    | 26 => (((s.ringLost 1).ringRunSet 1).portLost 26).loopAbandon 1
    | 27 => (s.linkFault 0 0 0).loopAbandon 0
    | 28 => (s.linkFault 1 0 0).loopAbandon 0
    | 29 => (s.linkFault 2 0 0).loopAbandon 1
    | 30 => (s.linkFault 3 0 0).loopAbandon 1
    | 31 =>
      let s := (List.range 4).foldl State.radioCut s
      ((s.framesLost (fun _ => true)).portLost 27).showFieldRun
    | 32 => ((s.radioCut 0).framesLost (fun t => t.medium == 0x10)).showFieldRun
    | 33 => ((s.radioCut 1).framesLost (fun t => t.medium == 0x11)).showFieldRun
    | 34 => ((s.radioCut 2).framesLost (fun t => t.medium == 0x12)).showFieldRun
    | 35 => ((s.radioCut 3).framesLost (fun t => t.medium == 0x13)).showFieldRun
    | 36 => (if s.isOn 45 then s.gaugeLost.tb1Holdover else s.gaugeLost).portLost 28
    | 37 => (s.frontLost 0).rewindPort 28
    | 38 => (s.frontLost 1).rewindPort 28
    | 39 => s.symLost.portLost 29
    | 40 => s.moverLost.portLost 30
    | 41 => s.scanLost.portLost 31
    | 42 => ((s.lampLost).wr (F.STATE_RUN bLAMP) 0)
    | 43 => s.hcpLost.portLost 31
    | 44 => (s.recLost.restrLost.wr (F.STATE_RUN bRESTR) 0).portLost 31
    | 45 => s.timeKeep.wr (F.STATE_RUN bTIME) 0
    | 46 =>
      let s := (List.range 50).foldl (fun s d => s.wr (F.TUNE_DOM_STAT_REPLANNING d) 0) s
      { s.wr (F.STATE_RUN bTUNE) 0 with sys := { s.sys with slackHigh := [] } }
    | 48 => s.cryptoLost
    | _ => s

/-! ## OFF and ON again (R46) -/

/-- Fields that outlive PD31: the SFN counts, which the superframe timing goes on counting (R409). -/
def keptOf31 (key : Nat) : Bool := key / 32 == 0x40060010 || key / 32 == 0x40060014

/-- Registers that outlive every switched domain: those of the PWR, RTC and KEY blocks, the SLOT registers of R530, the slot
address and SLOT's RUN, and what the island and the pins keep. -/
def islandKey (key : Nat) : Bool :=
  let a := key / 32
  inBlock bPWR key || inBlock bRTC key || inBlock bKEY key ||
    [0x4019000C, 0x40190010, 0x40190014, 0x40190018, 0x4019002C, 0x40190030, 0x400000C8].contains a ||
    [F.SYS_CONFIG_SRC_SEATED.key, F.SLOT_STATUS_PRESENT.key, F.SLOT_STATUS_LEVER.key, F.SLOT_STATUS_ADDR.key,
      (F.STATE_RUN bSLOT).key].contains key

/-- Domain `d` has reached OFF: the registers of every block whose domains are all OFF and its stores are lost. -/
def State.goneOff (s : State) (d : Nat) : State :=
  let bs := (domBlocks d).filter (fun b => (blockOwners b).all (fun o => s.dom o == domOff))
  let s := s.dropFields (fun k => bs.any (fun b => inBlock b k) && !keptOf31 k && !islandKey k)
  let s := { s with mem := (domStores d).foldl (fun m e => Memory.clear m e.1 e.2) s.mem }
  match d with
  | 31 => s.setField { s.field with books := [], resv := [] }
  | 36 => s.setGauge GaugeState.start
  | 43 => { s with hcp := { s.hcp with wins := [] } }
  | 45 => { s with time := s.time.lost }
  | _ => s

/-- The P fields of the blocks of domain `d` that hold nothing, reloaded from the record (R46). -/
def State.reloadP (s : State) (d : Nat) : State :=
  (domBlocks d).foldl (fun s b =>
    (s.pRec.filter (fun e => inBlock b e.1)).foldl (fun s e =>
      match AMap.find s.regs e.1 with
      | some _ => s
      | none => { s with regs := s.regs.set e.1 e.2 }) s) s

/-- The SFNs go on across the time PD45 was not ON (R409): by the whole superframes TB2 has passed since the present ones began. -/
def State.sfnAcross (s : State) : State :=
  if s.field.started then
    let n := s.time.tb2 / 65536
    let r := n / 1000000000
    let c := n / 10000000
    let dc := c - s.field.cAt
    let s := s.setField { s.field with sfnR := (s.field.sfnR + (r - s.field.rAt)) % 2 ^ 48, cAt := c, rAt := r, allocs := [] }
    s.wr64 F.FPLC_SFN_LO_SFN F.FPLC_SFN_HI_SFN ((s.rd64 F.FPLC_SFN_LO_SFN F.FPLC_SFN_HI_SFN + dc) % 2 ^ 48)
  else s

/-- Domain `d` is ON, its unit starts; `off`: it comes from OFF. -/
def State.enterOn (s : State) (d : Nat) (off : Bool) : State :=
  let s := if off then s.reloadP d else s
  if d < 16 then s.wr (F.SYS_COURSE_ROLE_ON d) 1
  else if 18 ≤ d ∧ d ≤ 23 then
    let up := s.run bPEG
    let s := s.pegStart
    if s.run bPEG ∧ ¬ up then (s.nodeSlots.filter s.ndLive).foldl State.setNodeQueues s.enableQueues else s
  else match d with
    | 24 => s.baselinesBack
    | 25 => (s.ringRunSet 0).ringKeys 0
    | 26 => (s.ringRunSet 1).ringKeys 1
    | 31 => (if off then s.restoreBooks else s).showFieldRun
    | 32 => s.showFieldRun
    | 33 => s.showFieldRun
    | 34 => s.showFieldRun
    | 35 => s.showFieldRun
    | 36 => if off then s.gaugeRestore else s.gaugeStart
    | 37 => s.showSoundRun
    | 38 => s.showSoundRun
    | 39 => ((if off then s.graphBack else s).showSymRun).symCommit
    | 40 => s.moverBack
    | 42 => s.restoreLamps.showLampRun
    | 43 => (s.wr (F.STATE_RUN bHCP) (s.rd F.HCP_CTRL_EN)).wr F.HCP_EVT_STAT_PENDING s.evts.length
    | 44 => s.frontSearch.wr (F.STATE_RUN bRESTR) 1
    | 45 => s.timeLoad.sfnAcross
    | 46 => s.loadPlans.wr (F.STATE_RUN bTUNE) (s.rd F.TUNE_CTRL_EN)
    | 48 => s.cryptoBack
    | 49 => ((s.wr (F.STATE_RUN bSYS) 1).wr (F.STATE_RUN bIO) 1).wr (F.STATE_RUN bLEDGER) 1
    | 16 => s.wrB (F.STATE_RUN bFRET) (s.allOn [16, 17])
    | 17 => s.wrB (F.STATE_RUN bFRET) (s.allOn [16, 17])
    | _ => s

/-! ## Changes and requests (R425 to R430) -/

/-- The least and the greatest state that domain `d` counts as: a changing domain stands between where it comes from and
where it goes. -/
def State.domLow (s : State) (d : Nat) : Nat :=
  if s.dom d = domChanging then min (s.sys.domFrom.get d 0) (s.rd (F.PWR_DOM_STATE_TARGET d)) else s.dom d
def State.domHigh (s : State) (d : Nat) : Nat :=
  if s.dom d = domChanging then max (s.sys.domFrom.get d 0) (s.rd (F.PWR_DOM_STATE_TARGET d)) else s.dom d

/-- The request to take `d` to `t` breaks R425, R426 or, through PWR_DOM_REQ, R427. -/
def State.reqBad (s : State) (d t : Nat) (byReg : Bool) : Bool :=
  (s.dom d == domOff && t == domRet) ||
  (domParents d).any (fun p => decide (s.domLow p < t)) ||
  (domChildren d).any (fun c => decide (t < s.domHigh c)) ||
  (byReg && survivalSet.contains d && t != domOn)

/-- LAST_STATUS of domain `d`; a BAD counts in REFUSED. -/
def State.domStatus (s : State) (d st : Nat) : State :=
  let s := s.wr (F.PWR_DOM_STATE_LAST_STATUS d) st
  if st = stBAD then s.inc F.PWR_PSC_CNT_REFUSED else s

/-- The change of domain `d` to `t` begins (R425). -/
def State.beginChange (s : State) (d t : Nat) : State :=
  let was := s.dom d
  let s := { s with sys := { s.sys with domFrom := s.sys.domFrom.set d was } }
  let s := (s.wr (F.PWR_DOM_STATE_TARGET d) t).wr (F.PWR_DOM_STATE_STATE d) domChanging
  let s := if t = domOn then s.wr (F.PWR_DOM_STATE_FAULT d) 0 else s
  if was = domOn then (s.wr (F.TUNE_DOM_STAT_REPLANNING d) 0).leaveOn d else s

/-- A request of R428. -/
def State.domRequest (s : State) (d t : Nat) (byReg : Bool) : State :=
  if s.dom d = domChanging then
    let s := if s.isSet (F.PWR_DOM_STATE_PEND_VALID d) then s.inc F.PWR_PSC_CNT_SUPERSEDED else s
    (s.wr (F.PWR_DOM_STATE_PENDING d) t).wr (F.PWR_DOM_STATE_PEND_VALID d) 1
  else if t = s.dom d then s.domStatus d stOK
  else if s.reqBad d t byReg then s.domStatus d stBAD
  else (s.domStatus d stOK).beginChange d t

/-- The keys of PWR_DOM_CFG of domain `d`, the fields the completion of its change commits. -/
def domCfgKey (d key : Nat) : Bool := key / 32 == (F.PWR_DOM_CFG_PLAN_FULL d).addr

/-- Domain `d` has reached its target. -/
def State.endChange (s : State) (d : Nat) : State :=
  let t := s.rd (F.PWR_DOM_STATE_TARGET d)
  let was := s.sys.domFrom.get d 0
  let s := { s with sys := { s.sys with domFrom := s.sys.domFrom.erase d } }
  let s := s.wr (F.PWR_DOM_STATE_STATE d) t
  let s := s.commitSel bPWR (domCfgKey d)
  if t = domOn then s.enterOn d (was == domOff) else if t = domOff then s.goneOff d else s

/-- The change of `d` from its present state to `t` done at once. -/
def State.forceDom (s : State) (d t : Nat) : State := if s.dom d = t then s else (s.beginChange d t).endChange d

/-! ## The whole machine leaves ON: resets, PARK, HALTED -/

/-- Addresses whose octets outlive every switched domain: the retain RAM and the module flash. -/
def islandMem (a : Nat) : Bool := decide ((0x08000000 ≤ a ∧ a < 0x08010000) ∨ (0x80000000 ≤ a ∧ a < 0x100000000))

/-- Every switched domain OFF and what each kept lost; every output as R60. What stays: the island, the module flash, what
the slot bus decoder holds. -/
def State.allOff (s : State) : State :=
  let s := if s.isOn 45 then s.timeKeep else s
  let t : State := { State.reset with
    pending := s.pending
    regs := s.regs.filter (fun e => islandKey e.1)
    reqRegs := s.reqRegs.filter (fun e => islandKey (e.1 % 2 ^ 48))
    mem := s.mem.filter (fun e => islandMem e.1)
    out := s.out
    freeCtr := s.freeCtr
    io := { s.io with doOut := 0, coilOut := 0, doOff := 0, coilOff := 0, couplers := false }
    slot := { State.reset.slot with
      logicOn := s.slot.logicOn, cellFitted := s.slot.cellFitted, released := s.slot.released, straps := s.slot.straps,
      primer := s.slot.primer, sbD := s.slot.sbD, sbS := s.slot.sbS, respDue := s.slot.respDue, respHeld := s.slot.respHeld, quietWait := s.slot.quietWait,
      wakeRun := s.slot.wakeRun, noFlashWrite := s.slot.noFlashWrite, ejectByLever := s.slot.ejectByLever,
      presenceLost := s.slot.presenceLost }
    sys := { State.reset.sys with
      refTick := s.sys.refTick, kicked := s.sys.kicked, bootFails := s.sys.bootFails, parkLatch := s.sys.parkLatch,
      copy := s.sys.copy, islandLost := s.sys.islandLost, plans := s.sys.plans, levelTo := s.sys.levelTo }
    time := { s.time.lost with tb2Kept := none, rtcDiff := none, profileDue := false, rtcDue := false }
    key := s.key
    restr := { s.restr with feed := none, window := none, nimg := [], dist := none, distLast := []
                            targets := s.restr.targets.map (fun e => (e.1, { e.2 with partials := [] })) }
    field := { FieldState.start with relTick := s.field.relTick }
    jrn := s.jrn
    sound := { SoundState.start with stored := s.sound.stored }
    lamp := { LampState.start with stored := s.lamp.stored } }
  let t := (List.range 50).foldl (fun t d =>
    (((t.wr (F.PWR_DOM_STATE_STATE d) domOff).wr (F.PWR_DOM_STATE_TARGET d) domOff).wr
      (F.PWR_DOM_STATE_PEND_VALID d) 0).wr (F.PWR_DOM_STATE_PENDING d) 0) t
  t.setKey { t.key with derived := [] }

/-- HALTED (R103). -/
def State.halt (s : State) : State :=
  let s := s.allOff
  { (s.wr F.PWR_MODE_MODE 5) with sys := { s.sys with levelTo := none }, slot := { s.slot with wakeRun := [] } }

/-! ## Service levels (R431 to R434) -/

/-- The order of R88 and then R99 in which domains are raised. -/
def riseOrder : List Nat :=
  [49, 16, 17, 47, 0, 44, 41, 24, 46, 1, 2, 3, 4, 5, 6, 7, 8, 9, 10, 11, 12, 13, 14, 15, 18, 19, 20, 21, 22, 23, 40, 45, 48,
   36, 42, 39, 25, 26, 27, 28, 29, 30, 43, 31, 32, 33, 34, 35, 37, 38]

/-- Domain `d` is a spare Course without a role (R432). -/
def State.idleSpare (s : State) (d : Nat) : Bool := (d == 14 || d == 15) && [0, 5].contains (s.rd (F.SYS_COURSE_ROLE_ROLE d))

/-- The Course whose role spare `d` has taken, else `d`: its plan holds for the spare. -/
def State.planOf (s : State) (d : Nat) : Nat := ((s.sys.subst.find? (fun e => e.2 == d)).map (·.1)).getD d

/-- The state level `m` plans for domain `d`. -/
def State.planned (s : State) (m d : Nat) : Nat :=
  match m with
  | 1 => if survivalSet.contains d then domOn else domOff
  | 2 => s.rd (F.PWR_DOM_CFG_PLAN_FULL (s.planOf d))
  | 3 => s.rd (F.PWR_DOM_CFG_PLAN_RED (s.planOf d))
  | _ => domOff

/-- The requests of a change to level `m` in the order of R432. -/
def State.levelReqs (s : State) (m : Nat) : List (Nat × Nat) :=
  let due := riseOrder.filter (fun d => !(s.idleSpare d && m != 4) && s.planned m d != s.dom d)
  let down := due.reverse.filter (fun d => decide (s.planned m d < 2))
  let up := due.filter (fun d => decide (s.planned m d = 2))
  (down ++ up).map (fun d => (d, s.planned m d))

/-- The module leaves the parked level for level `l` of a WAKE (R436): the steps of R88 come next. -/
def State.wakeParked (s : State) (l : Nat) : State :=
  { (s.wr F.PWR_MODE_MODE 0) with
    sys := { s.sys with parkLatch := false, kicked := false, levelTo := some (if l = 0 then 1 else 2) }
    slot := { s.slot with wakeRun := [l] } }

/-- The WAKEs carried out once PWR_MODE reads `m`: payload 0x00 for 1, 0x01 for 2 (R73). -/
def State.wakesReached (s : State) (m : Nat) : State :=
  { s with slot := { s.slot with wakeRun := s.slot.wakeRun.filter (fun l => l + 1 != m) } }

/-- RTC SEC stands at or beyond a PWR_ALARM that is not 0 (R436). -/
def State.alarmReached (s : State) : Bool :=
  let a := s.rd F.PWR_ALARM_LO_ALARM + s.rd F.PWR_ALARM_HI_ALARM * 2 ^ 32
  a != 0 && decide (a ≤ s.rtcSec)

/-- The level is reached: MODE shows it. The parked level leaves nothing ON (R434); a WAKE that came in meanwhile is carried
out then (R444). -/
def State.levelReached (s : State) : State :=
  match s.sys.levelTo with
  | none => s
  | some 4 =>
    let s := s.allOff.wr F.PWR_MODE_MODE 4
    let s := { s with sys := { s.sys with parkLatch := true, levelTo := none, levelWait := none } }
    match s.slot.wakeRun with
    | [] => s
    | l => s.wakeParked (if l.contains 1 then 1 else 0)
  | some m =>
    let s := s.wr F.PWR_MODE_MODE m
    { s with sys := { s.sys with levelTo := none, levelWait := none } }.wakesReached m

/-- The requests of a level change issued until one starts a change (R432); at the end of the list the level is reached. -/
def State.levelIssue (s : State) : Nat → State
  | 0 => s
  | fuel + 1 =>
    match s.sys.levelQ with
    | [] => s.levelReached
    | (d, t) :: rest =>
      let s := { s with sys := { s.sys with levelQ := rest } }
      let s := s.domRequest d t false
      if s.dom d = domChanging then { s with sys := { s.sys with levelWait := some d } } else State.levelIssue s fuel

/-- A change to level `m` is ordered (R432). -/
def State.enterLevel (s : State) (m : Nat) : State :=
  let s := { s with sys := { s.sys with levelTo := some m, levelQ := s.levelReqs m, levelWait := none } }
  State.levelIssue s (s.sys.levelQ.length + 1)

/-- The requests of a level change go on where the change they waited for has ended (R432). -/
def State.levelGoesOn (s : State) : State :=
  match s.sys.levelWait with
  | some w =>
    if s.dom w ≠ domChanging then
      let s := { s with sys := { s.sys with levelWait := none } }
      State.levelIssue s (s.sys.levelQ.length + 1)
    else s
  | none => s

/-- DOMAIN_CHANGE_COMPLETE (R428). -/
def State.changeComplete (s : State) (d : Nat) : State :=
  if s.dom d ≠ domChanging then s
  else
    let s := s.endChange d
    let p := s.rd (F.PWR_DOM_STATE_PENDING d)
    let s := if s.isSet (F.PWR_DOM_STATE_PEND_VALID d) ∧ p ≠ s.dom d then
        s.domRequest d p (s.sys.levelTo != some 4) else s
    ((s.wr (F.PWR_DOM_STATE_PEND_VALID d) 0).wr (F.PWR_DOM_STATE_PENDING d) 0).levelGoesOn

/-! ## Domain faults (R21, R430, R443) -/

/-- Domains below `d` under R426, deepest first. -/
def below (d : Nat) : List Nat := ((domChildren d).flatMap domChildren ++ domChildren d).dedup

/-- The spare Course that can take a role: unused, and not failed itself, whatever state its domain is in. -/
def State.spareCourse (s : State) : Option Nat :=
  [14, 15].find? (fun n => s.rd (F.SYS_COURSE_ROLE_ROLE n) == 5 && !s.isSet (F.PWR_DOM_STATE_FAULT n))

/-- R21: the role of the failed Course `c` moves to a spare, which is switched ON; without one it stays unserved and the
supervisor raises an event. Either way the consumers of its queues are set anew (R533). A spare that held no role has none to
move. -/
def State.substitute (s : State) (c : Nat) : State :=
  let role := s.rd (F.SYS_COURSE_ROLE_ROLE c)
  let s := s.wr (F.SYS_COURSE_ROLE_ROLE c) 0
  if role = 0 ∨ role = 5 then s
  else
    match s.spareCourse with
    | some n =>
      let s := s.wr (F.SYS_COURSE_ROLE_ROLE n) role
      let s := { s with sys := { s.sys with subst := s.sys.subst.set (s.planOf c) n } }
      (s.domRequest n domOn false).reassignQueues
    | none => s.reassignQueues.raiseEvent 0x0001 (unitOf bSYS) (evtData [(1, c), (1, role)])

/-- What a fault switches OFF, at once. -/
def State.faultOff (s : State) (d : Nat) : State :=
  let s := if s.dom d = domOn then (s.wr (F.PWR_DOM_STATE_STATE d) domChanging).leaveOn d else s
  let s := { s with sys := { s.sys with domFrom := s.sys.domFrom.erase d } }
  let s := ((s.wr (F.PWR_DOM_STATE_STATE d) domOff).wr (F.PWR_DOM_STATE_TARGET d) domOff).wr (F.PWR_DOM_STATE_PEND_VALID d) 0
  let s := s.commitSel bPWR (domCfgKey d)
  s.goneOff d

/-- A domain fault (R430) with its cause code. A timing alarm has raised its own event (R443). -/
def State.domFault (s : State) (d cause : Nat) : State :=
  if s.dom d = domOff then s
  else
    let lost := (below d).filter (fun c => s.dom c != domOff)
    let mask := lost.foldl (fun m c => m + 2 ^ c) 0
    let fatal := survivalSet.contains d || (below d).any (fun c => survivalSet.contains c)
    let s := s.raiseEvent 0x0001 (unitOf bPWR) (evtData [(1, d), (1, cause), (8, mask)])
    let s := s.recTrigger 0x0090 (d : Int) []
    if fatal then (s.wr (F.PWR_DOM_STATE_FAULT d) 1).halt
    else
      let s := lost.foldl State.faultOff s
      let s := (s.faultOff d).wr (F.PWR_DOM_STATE_FAULT d) 1
      let s := if d = 36 then s.markInc (List.range 16) else s
      let s := if 1 ≤ d ∧ d ≤ 15 then s.substitute d else s
      s.levelGoesOn

def faultCode : FaultCause → Nat
  | .supply => 1
  | .selfTest => 2
  | .timing => 3

/-- DOMAIN_FAULT: a timing fault is a timing margin alarm that could not be cured, which raises its own event (R443). -/
def State.domainFault (s : State) (d : Nat) (c : FaultCause) : State :=
  if c = .timing ∧ s.isOn d then (s.marginAlarm d alarmTiming).domFault d 3 else s.domFault d (faultCode c)

/-- What the Tuning engine's outcome asks of the sequencer (R443): a timing alarm is a domain fault. -/
def State.replanEnd (o : ReplanOut × State) (d : Nat) : State :=
  match o.1 with
  | .timingAlarm => o.2.domFault d 3
  | _ => o.2

end Sys2Proof.Machine
end

