-- ==== Sys2Proof/Machine/RegCheck.lean ====
section
/-!
DEFINITION. Machine/RegCheck.lean: the limits that bind a register's fields to one another or to other registers (R41, reason
0x3), judged on the values as they will stand once every shadowed write has been applied, and the check of a whole
configuration body against the field tables and these limits (R9, R91).
-/
namespace Sys2Proof.Machine

/-- The state with every shadowed value of block `b` taken as applied. -/
def State.ahead (s : State) (b : Nat) : State :=
  { s with regs := s.regs.merge (s.shadow.filter (fun e => inBlock b e.1)) }

/-- Value `v` of field `f` of element `i` meets its own table: (reserved encoding, outside its limit). -/
def chkField (c : Chk) (w v : Nat) : Bool × Bool :=
  match c with
  | .any => (true, true)
  | .enc ok => (ok.contains v, true)
  | .encMax m => (decide (v ≤ m), true)
  | .range a b => (true, decide (a ≤ v ∧ v ≤ b))
  | .srange a b => (true, decide (a ≤ toSigned w v ∧ toSigned w v ≤ b))
  | .oneOf ok => (true, ok.contains v)
  | .mult m => (true, decide (v % m = 0))
  | .key k => (true, decide (v = k))

/-- R146, R149: mode, hop step and offset of radio `r` suit its plan. -/
def State.radioOk (v : State) (r : Nat) : Bool :=
  let plan := v.rd (F.FRAD_RADIO_CFG_PLAN r)
  let mode := v.rd (F.FRAD_RADIO_CFG_MODE r)
  let off := v.rd (F.FRAD_RADIO_CFG_OFFSET r)
  let step := v.rd (F.FRAD_RADIO_CFG_STEP r)
  let n := planChannels plan
  (match plan with
   | 0 => [0, 1, 3].contains mode && (subBand off).isSome
   | 1 => [0, 3].contains mode && decide (off < n ∧ 1 ≤ step ∧ step < n)
   | _ => [2, 4].contains mode && decide (off < n ∧ 1 ≤ step ∧ step < n))

/-- R262. -/
def State.quietOk (v : State) : Bool :=
  let every := v.rd F.SOUND_QUIET_EVERY
  let ph := fun f => v.rd (F.SOUND_FDR_CFG_PHASE f)
  let on := (List.range 12).filter (fun f => v.isSet (F.SOUND_FDR_CFG_CHIRP_EN f))
  decide (10 * v.rd F.SOUND_QUIET_LEN ≤ 8 * every) &&
    (List.range 12).all (fun f => decide (ph f < every)) && decide ((on.map ph).Nodup)

/-- The bounds of R280 of task `n`: a period in whole superframes and a phase below it. -/
def State.taskOk (v : State) (n : Nat) : Bool :=
  let p := v.rd (F.SCAN_TASK_TIME_PERIOD_MS n)
  let ph := v.rd (F.SCAN_TASK_TIME_PHASE n)
  match v.rd (F.SCAN_TASK_CFG_ALIGN n) with
  | 0 => decide (p = 0 ∨ ph < p)
  | a => let u := if a = 1 then 10 else 1000; decide (p % u = 0 ∧ (p = 0 ∨ ph < p / u))

/-- The fields of REC_BIND_CFG, REC_BIND_ARG and REC_BIND_BINS of page `k` that their MODE binds (spec/21, the register
tables): no snapshot-only code, a sample period, ARG as the mode reads it, a bin width. -/
def State.bindCodeOk (v : State) (k : Nat) : Bool := !snapshotOnly (v.rd (F.REC_BIND_CFG_CODE k))
def State.bindArgOk (v : State) (k : Nat) : Bool :=
  let m := v.rd (F.REC_BIND_CFG_MODE k)
  let arg := v.rd (F.REC_BIND_ARG_ARG k)
  (m == 1 || v.rd (F.REC_BIND_ARG_SAMPLE k) != 0) &&
    (if m = 2 then decide (1 ≤ arg ∧ arg ≤ 165)
     else v.rd (F.REC_BIND_CFG_CODE k) == 0x0410 || arg == 0)
def State.bindBinsOk (v : State) (k : Nat) : Bool :=
  v.rd (F.REC_BIND_CFG_MODE k) == 2 || v.rd (F.REC_BIND_BINS_WIDTH k) != 0

/-- CODE of binding `k` names a quantity of R489 or a trigger of R494. -/
def State.bindCodeKnown (v : State) (k : Nat) : Bool :=
  let c := v.rd (F.REC_BIND_CFG_CODE k)
  if v.rd (F.REC_BIND_CFG_MODE k) = 1 then bindableCode c || snapshotOnly c else quantityCode c || snapshotOnly c

/-- Ticks of a line slot of R323 left after the blank. -/
def State.usableOk (v : State) : Bool :=
  let n := v.rd F.LAMP_MTX_CFG_N_ROWS * 2 ^ v.rd F.LAMP_MTX_CFG_MSPREAD
  n == 0 || decide (256 ≤ 65536 / n - v.rd F.LAMP_MTX_CFG_BLANK)

/-- The peak of channel `c` in mA (R242). -/
def State.peakOf (v : State) (c : Nat) : Nat := v.rd (F.GAUGE_CH_SCALE_PEAK c)

/-- The limits, stated by no single field's table, of the register of block `b` whose array stands at `off`, element `i`. `v`
is the state with every value in question taken as applied, `s` the present one. -/
def State.limits (s v : State) (b off i : Nat) : Bool :=
  let at1 := fun (x y : Nat) => b == x && off == y
  if at1 bSYS 0x00D4 then s.rd F.PWR_MODE_MODE != 0
  else if at1 bPWR 0x0200 then
    !survivalSet.contains i || (v.rd (F.PWR_DOM_CFG_PLAN_RED i) == domOn && v.rd (F.PWR_DOM_CFG_PLAN_FULL i) == domOn)
  else if at1 bPWR 0x0404 then [1, 2, 3].contains (s.rd F.PWR_MODE_MODE)
  else if at1 bTUNE 0x0004 then decide (v.rd F.TUNE_CFG_GUARD_LO_PS + 10 < v.rd F.TUNE_CFG_GUARD_HI_PS)
  else if at1 bTUNE 0x0008 then decide (v.rd F.TUNE_TAP_CFG_TAP_LO_PS + 12 ≤ v.rd F.TUNE_TAP_CFG_TAP_HI_PS)
  else if at1 bPEG 0x0200 then
    decide (v.rd (F.PEG_CREDIT_RESERVE i) ≤ v.rd (F.PEG_CREDIT_CAP i)) &&
      decide (((List.range 32).map (fun p => 16 * v.rd (F.PEG_CREDIT_RESERVE p))).sum ≤ 262144)
  else if at1 bMOVER 0x0100 || at1 bMOVER 0x0104 then s.rd (F.MOVER_CH_STAT_STATE i) == 0
  else if at1 bFPLC 0x0004 then decide (v.rd F.FPLC_SF_CFG_CIP_LEN + v.rd F.FPLC_SF_CFG_CONT_LEN + 12 ≤ 80)
  else if at1 bFPLC 0x0060 then
    let a := v.rd (F.FPLC_NOTCH_EXTRA_FIRST i)
    let z := v.rd (F.FPLC_NOTCH_EXTRA_LAST i)
    decide (a ≤ z ∧ ¬ (a ≤ 200 ∧ 200 ≤ z))
  else if at1 bFRAD 0x0000 then v.radioOk i
  else if at1 bFRAD 0x0020 then decide (v.rd (F.FRAD_SUBBAND_CFG_DUTY_CENT i) ≤ dutyOf i)
  else if at1 bNODE 0x0004 then (subBand (v.rd F.NODE_WAKE_CFG_EU_CH)).isSome
  else if at1 bNODE 0x0030 then
    decide (10 ≤ v.rd F.NODE_ORPHAN_CFG_ORPHAN_S ∧ v.rd F.NODE_ORPHAN_CFG_ORPHAN_S ≤ 3600)
  else if at1 bGAUGE 0x0190 then
    (List.range 16).all (fun p => (p != 0 || !(i == 0 || i == 1 || i == 2)) && (p == 0 || (v.ptChans p).2 != i + 4) ||
      v.fullScaleOk p (v.rd (F.GAUGE_PT_CFG_EQ_EXP p)) v.peakOf)
  else if at1 bGAUGE 0x0400 then v.fullScaleOk i (v.rd (F.GAUGE_PT_CFG_EQ_EXP i)) v.peakOf
  else if at1 bGAUGE 0x0440 || at1 bGAUGE 0x0444 then v.ptPc i != 0
  else if at1 bSOUND 0x0008 || at1 bSOUND 0x0100 then v.quietOk
  else if at1 bSOUND 0x0020 then decide (v.rd (F.SOUND_CHIRP_NOTCH_FIRST i) ≤ v.rd (F.SOUND_CHIRP_NOTCH_LAST i))
  else if at1 bSCAN 0x0050 then !v.isSet (F.SCAN_BP_EN i) || v.isSet F.SCAN_CTRL_HOLD_EN
  else if at1 bSCAN 0x0100 then
    v.taskOk i && decide (((List.range 16).filter (fun n => v.isSet (F.SCAN_TASK_CFG_GUARDED n))).length ≤ 4)
  else if at1 bSCAN 0x0140 then v.taskOk i
  else if at1 bLAMP 0x0018 then v.usableOk
  else if at1 bLAMP 0x0120 then decide (v.rd (F.LAMP_STR_VWIN_V_MIN i) ≤ v.rd (F.LAMP_STR_VWIN_V_MAX i))
  else if at1 bLAMP 0x0220 then
    decide (v.rdS (F.LAMP_NTC_B_T_START i) < v.rdS (F.LAMP_NTC_B_T_STOP i) ∧
      v.rdS (F.LAMP_NTC_B_T_STOP i) ≤ v.rdS (F.LAMP_NTC_B_T_SHUT i))
  else if (b = bRINGA ∨ b = bRINGB) ∧ off = 0x0030 then
    let x := b - bRINGA
    decide (144 ≤ v.rd (F.RING_CLASS_CELLS_ALLOT x i)) &&
      decide (((List.range 4).map (fun c => v.rd (F.RING_CLASS_CELLS_ALLOT x c))).sum ≤ 6144)
  else if at1 bRTC 0x0000 || at1 bRTC 0x0004 then s.isSet F.RTC_CTRL_HALT
  else if at1 bKEY 0x0100 then
    s.rd (F.KEY_SLOT_STAT_STATE i) == 0 ||
      (v.rd (F.KEY_SLOT_CFG_KIND i) == s.rd (F.KEY_SLOT_CFG_KIND i) && v.rd (F.KEY_SLOT_CFG_CTX i) == s.rd (F.KEY_SLOT_CFG_CTX i))
  else if at1 bREC 0x0100 then v.bindCodeOk i
  else if at1 bREC 0x0140 then v.bindArgOk i
  else if at1 bREC 0x01C0 then v.bindBinsOk i
  else true

/-! ## The content of a configuration body (R9, R91) -/

/-- The indices of a register array, last index fastest. -/
def dimIndices : List (Nat × Nat) → List (List Nat)
  | [] => [[]]
  | (_, c) :: rest => (List.range c).flatMap (fun i => (dimIndices rest).map (i :: ·))

/-- The offset of an element. -/
def dimOffset : List (Nat × Nat) → List Nat → Nat
  | (st, _) :: rest, i :: ix => st * i + dimOffset rest ix
  | _, _ => 0

/-- The P fields of a field list. -/
def pFields (l : List FieldDef) : List FieldDef := l.filter (fun f => f.src == .p)

/-- Every register element that holds a P field: block, array offset, indices, address, P fields. LAMP_MCFG is left out: it
stands for the elements of `mcfgAddr`. -/
def pElements : List (Nat × Nat × List Nat × Nat × List FieldDef) :=
  (List.range 26).flatMap (fun b =>
    ((blockRegs b).filter (fun r => pFields r.flds != [] && !(b == bLAMP && r.off == 0x0024))).flatMap (fun r =>
      (dimIndices r.dims).map (fun ix => (b, r.off, ix, blockBase b + r.off + dimOffset r.dims ix, pFields r.flds))))

/-- The keys of every P field of the module, the 768 elements of LAMP_MCFG with it (R318). -/
def pKeys : List Nat :=
  pElements.flatMap (fun e => e.2.2.2.2.map (fun f => e.2.2.2.1 * 32 + f.lo)) ++
    (List.range 768).flatMap (fun n => [(mcfgWeight (256 + n)).key, (mcfgEn (256 + n)).key, (mcfgFunc (256 + n)).key])

/-- The values of a body, taken as the registers of a machine that holds nothing else. -/
def bodyView (vals : List (Nat × Nat)) : State :=
  { State.reset with regs := vals.foldl (fun m e => AMap.set m e.1 e.2) [] }

/-- R9: the body gives every P field a value that its table and its block's chapter accept. -/
def bodyOk (vals : List (Nat × Nat)) : Bool :=
  let v := bodyView vals
  pKeys.all (fun k => (AMap.find v.regs k).isSome) &&
    pElements.all (fun e =>
      e.2.2.2.2.all (fun f =>
        let x := AMap.get v.regs (e.2.2.2.1 * 32 + f.lo) 0
        let c := chkField f.chk f.width x
        decide (x < 2 ^ f.width) && c.1 && c.2) &&
      State.limits v v e.1 e.2.1 (e.2.2.1.headD 0) &&
      (!(e.1 == bREC && e.2.1 == 0x0100) || v.bindCodeKnown (e.2.2.1.headD 0)))

end Sys2Proof.Machine
end

