-- ==== Sys2Proof/Machine/Start.lean ====
section
/-!
DEFINITION. Machine/Start.lean: the kinds of reset, insertion and removal, the steps from reset release to full service, the
choice and the loading of a configuration, wake-up, and the trial of a firmware slot (spec/03, spec/04, spec/18, R473 to
R479, R514).
-/
namespace Sys2Proof.Machine

/-! ## Outputs and causes -/

def State.present (s : State) : Bool := s.isSet F.SLOT_STATUS_PRESENT
def State.leverShut (s : State) : Bool := s.isSet F.SLOT_STATUS_LEVER
def State.mode (s : State) : Nat := s.rd F.PWR_MODE_MODE
def State.phase (s : State) : Nat := s.rd F.SYS_START_STAT_PHASE
def State.ejecting (s : State) : Bool := s.isSet F.SLOT_STATUS_EJECT_ACTIVE

def State.setSlot (s : State) (x : SlotState) : State := { s with slot := x }
def State.setSys (s : State) (x : SysState) : State := { s with sys := x }

/-- SYS_RESET_CAUSE takes cause `c`. -/
def State.setCause (s : State) (c : Nat) : State :=
  (s.wr F.SYS_RESET_CAUSE_PREV (s.rd F.SYS_RESET_CAUSE_CAUSE)).wr F.SYS_RESET_CAUSE_CAUSE c

/-- Both BYPASS_HOLD lines low. -/
def State.holdsLow (s : State) : State := (s.setHold 0 false).setHold 1 false

/-! ## Resets (R84 to R87) -/

/-- Entry of a power-on or module reset for cause `c`: every switched domain OFF, the registers outside the island at their
Reset column, MODE 0. -/
def State.resetEntry (s : State) (c : Nat) : State :=
  let s := s.allOff.keyReset
  let s := (s.wr F.SLOT_STATUS_ADDR 63).wr F.PWR_MODE_MODE 0
  let s := (s.setCause c).wr F.SYS_RESET_CAUSE_FW_RESTARTS 0
  let s := s.setSlot { s.slot with
    released := false, wakeRun := [], noFlashWrite := false, ejectByLever := false, presenceLost := false
    primVcc := false, prim4 := 0, respDue := none, respHeld := none, sbD := true, sbS := true }
  s.setSys { s.sys with levelTo := none, kicked := false }

/-- Reset is released (step 5 of R75): the slot address is sampled, SLOT and the island's blocks run, the level to start to
is full service. -/
def State.release (s : State) : State :=
  let s := s.setSlot { s.slot with released := true }
  let s := s.wr F.SLOT_STATUS_ADDR s.slot.straps
  let s := [bSLOT, bPWR, bRTC, bKEY].foldl (fun s b => s.wr (F.STATE_RUN b) 1) s
  let s := s.setField { s.field with relTick := s.sys.refTick }
  s.setSys { s.sys with kicked := false, levelTo := some 2 }

/-- POWER_ON_RESET: insertion under R75 has completed, so the lever is shut. -/
def State.powerOnReset (s : State) : State :=
  if s.slot.logicOn ∧ s.present ∧ ¬ s.sys.parkLatch ∧ ¬ s.slot.released then
    ((s.wr F.SLOT_STATUS_LEVER 1).resetEntry (if s.sys.islandLost then 2 else 1)).inc F.PWR_CYCLES_COUNT
  else s

/-- RESET_RELEASE (R75): the lever, closed after the mate where it was open, has been shut for the 100 ms. -/
def State.resetRelease (s : State) (lowMs : Nat) : State :=
  if s.slot.logicOn ∧ s.present ∧ ¬ s.sys.parkLatch ∧ ¬ s.slot.released ∧ 100 ≤ lowMs then
    (s.wr F.SLOT_STATUS_LEVER 1).release
  else s

/-- A module reset for cause `c`; the logic supply stays, and reset is released again at once. -/
def State.moduleReset (s : State) (c : Nat) : State := (s.resetEntry c).release

/-- A module reset ordered where one can be: not parked, not HALTED (R103, R434), and out of reset. -/
def State.moduleResetIf (s : State) (c : Nat) : State :=
  if s.slot.released ∧ s.slot.logicOn ∧ s.mode ≠ 4 ∧ s.mode ≠ 5 then s.moduleReset c else s

/-- MODULE_RESET with the causes of SYS_RESET_CAUSE; SYS_RESTART is an announced stop of the recorder (R497). -/
def State.moduleResetFor (s : State) (c : ResetCause) : State :=
  match c with
  | .sysRestart => s.sealEarly.moduleResetIf 3
  | .eject => s.moduleResetIf 4
  | .watchdog => s.moduleResetIf 5
  | .activation => s.moduleResetIf 6

/-- Course `d` starts again after a firmware restart: it is ON or in RETENTION, or on its way to one of them (assumption 76). -/
def State.restarts (s : State) (d : Nat) : Bool :=
  if s.dom d = domChanging then s.rd (F.PWR_DOM_STATE_TARGET d) != domOff else s.dom d != domOff

/-- REFERENCE_TICK: the IO commit point; the module reset the supervisor owes after a double-bit tag error (R137) comes with it
(DESIGN CHOICE, assumption 82). -/
def State.referenceTick (s : State) (n : Nat) : State :=
  let s := (s.refTicks n).commit bIO
  if s.sys.resetDue ∧ s.isOn 0 then s.moduleResetFor .sysRestart else s

/-- A firmware restart with cause `c` (R84, R86): PD00 to PD15 go OFF and start again; a change of level that waited for one of
them goes on; a restart by the watchdog is remembered (R84); a trial ends (R476). -/
def State.firmwareRestart (s : State) (c : Nat) : State :=
  if ¬ s.isOn 0 then s
  else
    let l := (List.range 16).filter s.restarts
    let s := (List.range 16).foldl (fun s d => s.forceDom d domOff) s
    let s := l.foldl (fun s d => s.forceDom d domOn) s
    let s := s.levelGoesOn
    let s := (s.setCause c).incSat F.SYS_RESET_CAUSE_FW_RESTARTS
    let s := if c = 8 then s.setSys { s.sys with lastFwRestart := some s.sys.refTick } else s
    if (s.hdr s.restr.running).state = 4 then
      let (k, s) := s.bootSelect true true
      match k with
      | some k => ((s.setRestr { s.restr with window := none }).wr F.RESTR_CONFIRM_LEFT_MIN 0).startSlot k
      | none => s.halt
    else s

/-- ISLAND_LOSS (R84, R86, R445): nothing is left but fuses, module flash and the pins. -/
def State.islandLoss (s : State) : State :=
  let p := s.rd F.SLOT_STATUS_PRESENT
  let l := s.rd F.SLOT_STATUS_LEVER
  let keep := fun (k : Nat) => [F.KEY_LC_STATE.key].contains k
  let s := s.allOff
  let s := { s with
    regs := s.regs.filter (fun e => keep e.1)
    reqRegs := []
    mem := s.mem.filter (fun e => decide (0x80000000 ≤ e.1))
    key := State.reset.key
    time := State.reset.time
    field := FieldState.start
    slot := { s.slot with logicOn := false, released := false, respDue := none, respHeld := none, quietWait := false,
                          sbD := true, sbS := true, wakeRun := [], noFlashWrite := false, ejectByLever := false, presenceLost := false }
    sys := { s.sys with refTick := 0, parkLatch := false, islandLost := true, levelTo := none, kicked := false,
                        lastFwRestart := none } }
  ((s.wr F.SLOT_STATUS_PRESENT p).wr F.SLOT_STATUS_LEVER l).setOsf

/-! ## The watchdog (R85) -/

/-- A kick of the supervisor: the kick value restarts the watchdog, and a first kick ends the count of boot limits. -/
def State.kick (s : State) (v : Nat) : State :=
  if v = 0x4B1C then s.setSys { s.sys with kicked := true, bootFails := 0 } else s

/-- WATCHDOG_EXPIRY: a second one within 600 s of the firmware restart that the one before caused is a module reset (assumption
76). -/
def State.watchdogExpiry (s : State) (sinceMs : Nat) : State :=
  if 1000 ≤ sinceMs ∧ s.sys.kicked ∧ s.isOn 0 then
    match s.sys.lastFwRestart with
    | some t => if s.sys.refTick - t < 600000000 then s.moduleResetIf 5 else s.firmwareRestart 8
    | none => s.firmwareRestart 8
  else s

/-- BOOT_LIMIT_EXPIRY: the third in a row enters HALTED. The count lasts until a first kick, through a power cycle or an island
loss as well (DESIGN CHOICE, assumption 77). -/
def State.bootLimit (s : State) (sinceMs : Nat) : State :=
  if 2000 ≤ sinceMs ∧ ¬ s.sys.kicked ∧ s.slot.released ∧ s.mode ≠ 4 ∧ s.mode ≠ 5 then
    let n := s.sys.bootFails + 1
    let s := s.setSys { s.sys with bootFails := n }
    if 3 ≤ n then (s.setCause 5).halt else s.moduleReset 5
  else s

/-! ## The Primer (R62 to R65, R91 to R96) -/

/-- STATE of the read steps 1 to 5 of R63 (R64). -/
def primerState (p : Option PrimerDev) : Nat :=
  match p with
  | none => 3
  | some d =>
    if d.jedec = 0 ∨ d.jedec = 0xFFFFFF then 3
    else if ¬ d.sfdp then 4
    else if ¬ d.revB ∨ d.density < 256 ∨ ¬ d.erase4k then 5
    else 2

/-- STATE of the read with PRIM_VCC as R64 leaves it: on while the read goes on, off after a fault. -/
def State.primerShow (s : State) (st : Nat) : State :=
  (s.wr F.SLOT_PRIMER_STAT_STATE st).setSlot { s.slot with primVcc := st == 1 || st == 2 }

/-- Steps 1 to 5 of R63: PRIM_VCC on, the JEDEC ID, the SFDP header, the tables, 4-byte addressing; then the read is under way in
step 6, or has ended with a fault of R64. With no Primer fitted the ID reads all ones (DESIGN CHOICE, assumption 78). -/
def State.primerBegin (s : State) : State :=
  let st := primerState s.slot.primer
  match s.slot.primer with
  | none => (s.wr F.SLOT_PRIMER_ID_JEDEC_ID 0xFFFFFF).primerShow 3
  | some d =>
    let s := s.wr F.SLOT_PRIMER_ID_JEDEC_ID d.jedec.toNat
    let s := if st = 3 then s
      else (List.range 4).foldl (fun s i => s.wr (F.SLOT_SFDP_HDR_DWORD i) (d.sfdpHdr.getD i 0).toNat) s
    let s := if st = 2 ∨ st = 5 then
        let s := (List.range 23).foldl (fun s i => s.wr (F.SLOT_BFPT_DWORD i) (d.bfpt.getD i 0).toNat) s
        (List.range 2).foldl (fun s i => s.wr (F.SLOT_SFDP_4BA_DWORD i) (d.fourBA.getD i 0).toNat) s
      else s
    if st = 2 then
      let s := s.setSlot { s.slot with prim4 := if d.fourBA = [] then 2 else 1 }
      (s.wr F.SLOT_PRIMER_STAT_MODE (if d.read114 then 2 else 1)).primerShow 1
    else s.primerShow st

/-- The read of R63 under way ends after `us` in all. -/
def State.primerEnd (s : State) (us : Nat) : State :=
  if s.rd F.SLOT_PRIMER_STAT_STATE = 1 then (s.wr F.SLOT_PRIMER_TIME_DURATION_US us).primerShow 2 else s

/-- The read of R63, or the rest of one under way; not `done`, it is still in step 6. -/
def State.primerGo (s : State) (us : Nat) (done : Bool) : State :=
  if ¬ s.isOn 49 then s
  else if s.ejecting then s.primerShow 6
  else
    let s := if s.rd F.SLOT_PRIMER_STAT_STATE = 1 then s else s.primerBegin
    if done then s.primerEnd us else s

/-- Octets 0 to 71 of a Primer header (R91). -/
def primerHead (h : PrimerHdr) : List Byte :=
  octetsLE 4 h.magic.toNat ++ octetsLE 2 h.format.toNat ++ octetsLE 2 h.hdrLen.toNat ++ octetsLE 4 h.sequence.toNat ++
    octetsLE 4 h.bodyLen.toNat ++ octetsLE 4 h.cabinet.toNat ++ octetsLE 2 h.keyId.toNat ++ octetsLE 2 0 ++
    octetsBE 48 h.hash.toNat

/-- The octets of a body of format `f`. -/
def bodyBytes (f : Nat) (b : CfgBody) : List Byte := Config.bodyOctets f b

/-- The public key of the anchor for Primer images whose ID is `id` (R446). -/
def State.cfgKey (s : State) (id : Nat) : Option Nat :=
  ((List.range 8).find? (fun a => s.rd (F.KEY_ANCHOR_STAT_USE a) == 1 && s.rd (F.KEY_ANCHOR_STAT_ID a) == id)).bind
    (fun a => s.key.anchors.find a)

/-- The state a bank's header gives it: 0 where it passes every check of R91 on the header. -/
def State.bankHead (s : State) (h : Option PrimerHdr) : Nat :=
  match h with
  | none => 3
  | some h =>
    if h.magic ≠ 0x4D495250 then 3
    else if h.format.toNat = 0 ∨ 3 < h.format.toNat then 4
    else if h.bodyLen.toNat = 0 ∨ 16773120 < h.bodyLen.toNat then 5
    else
      match s.cfgKey h.keyId.toNat with
      | none => 6
      | some k => if Config.primerSigOk k (primerHead h) h.sig.toNat then 0 else 7

/-- The default plan of R433. -/
def planFull (d : Nat) : Nat := if d = 14 ∨ d = 15 then domOff else domOn
def planRed (d : Nat) : Nat :=
  if survivalSet.contains d ∨ (18 ≤ d ∧ d ≤ 23) ∨ [25, 27, 28, 36, 42, 43, 45, 48].contains d then domOn else domOff

def planVals (m : AMap Nat) : AMap Nat :=
  (List.range 50).foldl (fun m d =>
    (AMap.set m (F.PWR_DOM_CFG_PLAN_FULL d).key (planFull d)).set (F.PWR_DOM_CFG_PLAN_RED d).key (planRed d)) m

/-- The built-in values of R9 for configuration source none. -/
def builtIn : AMap Nat :=
  let m : AMap Nat := pKeys.foldl (fun m k => AMap.set m k 0) []
  let m := planVals m
  ((m.set F.HCP_CTRL_EN.key 1).set F.GAUGE_NOMINAL_FN.key 50).set F.GAUGE_NOMINAL_UN_DV.key 2300

/-- R478: what a body of an older format lacks, supplied; a P field it neither holds nor is given stands at 0. -/
def convert (format : Nat) (vals : AMap Nat) : AMap Nat :=
  let m1 := fun (m : AMap Nat) =>
    let radios : List Nat := [1, 2, 3].flatMap (fun r =>
      [(F.FRAD_RADIO_CFG_PLAN r).key, (F.FRAD_RADIO_CFG_MODE r).key, (F.FRAD_RADIO_CFG_STEP r).key,
       (F.FRAD_RADIO_CFG_OFFSET r).key, (F.FRAD_RADIO_CFG_PWR r).key, (F.FRAD_ANT_GAIN_HALF_DB r).key])
    let m := radios.foldl (fun m k => m.set k (m.get k 0)) m
    let m := [1, 2, 3].foldl (fun m r => AMap.set m (F.FRAD_RADIO_CFG_EN r).key 0) m
    m.set F.SYM_CTRL_ENABLE.key 0
  let m2 := fun (m : AMap Nat) => planVals (AMap.set m F.SOUND_CTRL_ENABLE.key 0)
  match format with
  | 1 => m2 (m1 vals)
  | 2 => m2 vals
  | _ => vals

/-- The values of a body of a format, converted where it is older (R93); a body gives values to P fields alone (R9). -/
def bodyVals (format : Nat) (b : CfgBody) : AMap Nat :=
  convert format ((b.pvals.filter (fun e => isPField e.1)).foldl (fun m e => AMap.set m e.1 e.2) [])

/-- The state a bank's body gives it (R91, R477): 0 where it is taken. -/
def bodyState (h : PrimerHdr) (b : CfgBody) : Nat :=
  let f := h.format.toNat
  let v := bodyVals f b
  if Config.sha384 (bodyBytes f b) ≠ h.hash.toNat then 8
  else if bodyOk v then 0
  else if f < 3 ∧ pKeys.all (fun k => (v.find k).isSome) then 4
  else 9

/-- The order in which banks with valid headers are tried (R92). -/
def bankOrder (h0 h1 : Option PrimerHdr) (s0 s1 : Nat) : List Nat :=
  match s0, s1, h0, h1 with
  | 0, 0, some a, some b => if newer 32 b.sequence.toNat a.sequence.toNat then [1, 0] else [0, 1]
  | 0, _, _, _ => [0]
  | _, 0, _, _ => [1]
  | _, _, _, _ => []

def fBank (k : Nat) : Fld := if k = 0 then F.SYS_CONFIG_SRC_BANK0_STATE else F.SYS_CONFIG_SRC_BANK1_STATE

def PrimerBank.of (d : PrimerDev) (k : Nat) : PrimerBank := if k = 0 then d.bank0 else d.bank1

/-- The banks tried in order: the one taken, with BANK states written. -/
def State.tryBanks (s : State) (d : PrimerDev) : List Nat → Option (Nat × PrimerHdr × CfgBody) × State
  | [] => (none, s)
  | k :: rest =>
    let b := PrimerBank.of d k
    match b.hdr with
    | none => State.tryBanks s d rest
    | some h =>
      let st := bodyState h b.body
      if st = 0 then
        let s := s.wr (fBank k) 1
        (some (k, h, b.body), rest.foldl (fun s j => s.wr (fBank j) 2) s)
      else State.tryBanks (s.wr (fBank k) st) d rest

/-- Steps 6 and 7 of R88: a Primer bank, the settings-region copy, or nothing: (SOURCE, header, body). -/
def State.chooseCfg (s : State) : Option (Nat × PrimerHdr × CfgBody) × State :=
  let (o, s) :=
    match s.slot.primer with
    | some d =>
      if s.rd F.SLOT_PRIMER_STAT_STATE = 2 then
        let s0 := s.bankHead d.bank0.hdr
        let s1 := s.bankHead d.bank1.hdr
        let s := (s.wr (fBank 0) s0).wr (fBank 1) s1
        s.tryBanks d (bankOrder d.bank0.hdr d.bank1.hdr s0 s1)
      else (none, s)
    | none => (none, s)
  match o with
  | some (k, h, b) => (some (k + 1, h, b), s)
  | none =>
    match s.sys.copy with
    | some c =>
      if s.isSet F.SYS_CONFIG_SRC_SEATED ∧ c.slot = s.rd F.SLOT_STATUS_ADDR then (some (3, c.hdr, c.body), s) else (none, s)
    | none => (none, s)

/-- Every P field loaded: the record of R46, and the registers of the blocks that are ON and of the island; a block whose
domain comes ON later takes them from the record. -/
def State.loadP (s : State) (vals : AMap Nat) : State :=
  let s := { s with pRec := vals }
  vals.foldl (fun s e =>
    if inBlock bPWR e.1 || inBlock bRTC e.1 || inBlock bKEY e.1 ||
        (List.range 26).any (fun b => inBlock b e.1 && s.blockOn b) then
      { s with regs := s.regs.set e.1 e.2 }
    else s) s

/-- A configuration loaded (step 7 of R88): P fields, scan program and settings in system SRAM beside the node table, calendar,
admitted nodes. -/
def State.loadCfg (s : State) (src : Nat) (h : PrimerHdr) (b : CfgBody) : State :=
  let s := s.setSys { s.sys with cfg := some b, cfgHdr := some h }
  let s := s.loadP (bodyVals h.format.toNat b)
  let s := (s.wr F.SYS_CONFIG_SRC_SOURCE src).wr F.SYS_CONFIG_SRC_FORMAT h.format.toNat
  let s := s.wr F.SYS_CONFIG_SEQ_SEQUENCE h.sequence.toNat
  let cells := b.mem.filter (fun e => decide (0x00400000 ≤ e.1 ∧ e.1 < 0x00800000))
  let s := { s with mem := cells.foldl (fun (m : Memory) (e : Host.Cell) => m.write e.1 e.2) s.mem }
  let s := if b.calendar = [] then s else (s.loadCalendar b.calendar).2
  let s := b.nodes.foldl (fun s n => s.admitSlot n.1 n.2.1 n.2.2.1 n.2.2.2) s
  let s := s.setSound { s.sound with stored := b.baselines.foldl (fun m e => m.set e.1 e.2) s.sound.stored }
  let s := if s.isOn 24 then s.baselinesBack else s
  let s := (List.range 64).foldl State.slotWritten s
  if s.ringId = 0x3FFF then s.ringEvent 0 5 else s

/-- Configuration source none (R96): the module proceeds to full service, whatever level it was woken to. -/
def State.noCfg (s : State) : State :=
  let s := (s.loadP builtIn).wr F.SYS_START_STAT_PHASE 5
  let s := s.setSys { s.sys with levelTo := some 2 }
  let s := (List.range 64).foldl State.slotWritten s
  s.ringEvent 0 5

/-! ## From release to full service (R88 to R102) -/

/-- Roles of R20. -/
def courseRole (n : Nat) : Nat :=
  if n = 0 then 1 else if n ≤ 6 then 2 else if n ≤ 11 then 3 else if n ≤ 13 then 4 else 5

/-- R87: after island loss the counters go on from the recorder's highest. -/
def State.islandCounters (s : State) : State :=
  if s.sys.islandLost then
    let (op, cyc) := s.recHighest
    let s := s.wr64 F.PWR_OPSEC_LO_SEC F.PWR_OPSEC_HI_SEC op
    let s := s.wr F.PWR_CYCLES_COUNT (cyc + 1)
    s.setSys { s.sys with islandLost := false }
  else s

/-- Step 7 of R88, once step 6 has ended: the configuration that is chosen is loaded. -/
def State.cfgStep (s : State) : State :=
  if s.rd F.SLOT_PRIMER_STAT_STATE = 1 ∨ s.rd F.SLOT_PRIMER_STAT_STATE = 6 then s
  else
    match (s.setSys { s.sys with readDue := false }).chooseCfg with
    | (some (src, h, b), s) => s.loadCfg src h b
    | (none, s) => s.noCfg

/-- PRIMER_READ (R63); one that ends step 6 of R88 goes on to step 7. -/
def State.primerRead (s : State) (us : Nat) (done : Bool) : State :=
  let s := s.primerGo us done
  if s.sys.readDue then s.cfgStep else s

/-- The reference tick counter goes on from what the island kept, by the time PD49 was OFF as so many periods of the 32.768 kHz
clock (R531). -/
def State.tickResume (s : State) (periods : Nat) : State :=
  s.setSys { s.sys with refTick := (s.sys.refTick + periods * 1000000 / 32768) % 2 ^ 64 }

/-- COLD_START: steps 1 to 7 of R88, up to step 6 where the Primer read does not end. -/
def State.coldStart (s : State) (offPeriods selfTestFailures : Nat) (okA okB : Bool) (us : Nat) (readDone : Bool) : State :=
  if ¬ s.slot.released ∨ ¬ s.slot.logicOn ∨ s.mode ≠ 0 ∨ s.phase ≠ 0 then s
  else
    let s := s.tickResume offPeriods
    let s := (List.range 16).foldl (fun s n => s.wr (F.SYS_COURSE_ROLE_ROLE n) (courseRole n)) s
    let s := [49, 16, 17, 47, 0, 44].foldl (fun s d => s.forceDom d domOn) s
    let s := s.wr F.SYS_START_STAT_PHASE 1
    if 3 ≤ selfTestFailures then s.halt
    else
      match s.bootSelect okA okB with
      | (none, s) => s.halt
      | (some k, s) =>
        let s := (s.startSlot k).islandCounters.kick 0x4B1C
        let s := (s.wr F.SYS_START_STAT_PHASE 2).setSys { s.sys with readDue := true }
        s.primerRead us readDone

/-- SURVIVAL_SET_REACHED: step 8 of R88 and R90. -/
def State.survivalReached (s : State) (ms : Nat) : State :=
  if s.mode ≠ 0 ∨ s.phase ≠ 2 ∨ s.sys.readDue then s
  else
    let s := (s.forceDom 41 domOn).scanStart.calendarEval
    let s := ((s.wr F.SYS_START_STAT_PHASE 3).wr F.SYS_START_TIME_SURVIVAL_MS ms).wr F.PWR_MODE_MODE 1
    let s := s.wakesReached 1
    if s.sys.levelTo = some 1 then s.setSys { s.sys with levelTo := none } else s

/-- The settings format of slot `k`'s firmware: its manifest's, or 3 where the flash holds no manifest for it. -/
def State.settingsFormat (s : State) (k : Nat) : Nat :=
  let m := s.mem.readN (slotBase k + 0x10000) 24
  if mf m 0 4 = 0x54534E4D then mf m 20 1 else 3

/-- The migration of R477 cannot be done: the confirmed slot's settings format lies outside what the trial firmware takes, or
a Primer body could not be converted. -/
def State.migrationFails (s : State) : Bool :=
  let k := s.restr.running
  let m := s.mem.readN (slotBase k + 0x10000) 24
  let old := fun (b : Nat) => s.rd (fBank b) == 4 &&
    (match s.slot.primer with
     | some d => (match (PrimerBank.of d b).hdr with
       | some h => h.format.toNat == 1 || h.format.toNat == 2
       | none => false)
     | none => false)
  (match s.confirmedSlot with
   | some c => let f := s.settingsFormat c; mf m 0 4 == 0x54534E4D && decide (f < mf m 21 1 ∨ mf m 20 1 < f)
   | none => false) || old 0 || old 1

/-- One domain of R99 brought up; where its unit fails its self-test, that is a domain fault (R101). -/
def State.bringUp (s : State) (failed : List Nat) (d : Nat) : State :=
  if s.planned 2 d ≠ domOn ∨ s.idleSpare d ∨ (domParents d).any (fun p => !s.isOn p) then s
  else
    let s := s.forceDom d domOn
    if failed.contains d then
      let s := s.domFault d 2
      [14, 15].foldl (fun s n => if s.dom n = domChanging then s.endChange n else s) s
    else s

/-- FULL_SERVICE_BRINGUP (R99, R101, R477). -/
def State.fullBringup (s : State) (failed : List Nat) : State :=
  if s.sys.levelTo ≠ some 2 ∨ ¬ ((s.mode = 1 ∧ s.phase = 3) ∨ (s.mode = 0 ∧ s.phase = 5)) then s
  else if (s.hdr s.restr.running).state = 4 ∧ s.migrationFails then
    ((s.wrSlotState s.restr.running 7).trialEnded 1).moduleReset 6
  else
    let s := if (s.hdr s.restr.running).state = 4 then s.migrated else s
    (riseOrder.filter (fun d => s.dom d == domOff)).foldl (fun s d => s.bringUp failed d) s

/-- Every domain that full service plans is ON, but those that have faulted or whose Course a spare replaces, and their blocks run
(R100): the other blocks' RUN follows domain and enable by itself. -/
def State.fullUp (s : State) : Bool :=
  (List.range 50).all (fun d => s.planned 2 d != domOn || s.isOn d || s.idleSpare d ||
    s.isSet (F.PWR_DOM_STATE_FAULT d) || (domParents d).any (fun p => !s.isOn p)) &&
  (!s.allOn [18, 19, 20, 21, 22, 23] || s.pegRuns) && (!(s.isOn 39 && s.isSet F.SYM_CTRL_ENABLE) || s.run bSYM)

/-- FULL_SERVICE_REACHED (R100). Without a configuration PHASE stays 0x5 (R96). -/
def State.fullReached (s : State) (ms : Nat) : State :=
  if ¬ s.fullUp ∨ ¬ ((s.sys.levelTo = some 2 ∧ s.mode ≤ 1) ∨ (s.sys.levelTo = none ∧ s.mode = 2)) ∨
      (s.phase ≠ 3 ∧ s.phase ≠ 5) ∨ s.rd F.SYS_START_TIME_FULL_MS ≠ 0 then s
  else
    let s := (s.wr F.SYS_START_TIME_FULL_MS ms).wr F.PWR_MODE_MODE 2
    let s := (s.setSys { s.sys with levelTo := none }).wakesReached 2
    if s.phase = 5 then s else (s.wr F.SYS_START_STAT_PHASE 4).openWindow

/-- SETTINGS_COPY_WRITE (R94). -/
def State.settingsCopy (s : State) : State :=
  let src := s.rd F.SYS_CONFIG_SRC_SOURCE
  if s.phase ≠ 4 ∨ ¬ s.allOn [0, 44] ∨ s.slot.noFlashWrite ∨ ¬ (src = 1 ∨ src = 2) then s
  else
    match s.sys.cfgHdr, s.slot.primer with
    | some h, some d =>
      let stale := match s.sys.copy with
        | some c => c.hdr.sequence != h.sequence || c.hdr.cabinet != h.cabinet
        | none => true
      if stale then
        let s := s.setSys { s.sys with copy := some ⟨h, (PrimerBank.of d (src - 1)).body, s.rd F.SLOT_STATUS_ADDR⟩ }
        s.wr F.SYS_CONFIG_SRC_SEATED 1
      else s
    | _, _ => s

/-! ## The Primer write-back (R65) -/

/-- Bank `k` of the Primer set to `b`. -/
def State.setBank (s : State) (k : Nat) (b : PrimerBank) : State :=
  match s.slot.primer with
  | some d => s.setSlot { s.slot with primer := some (if k = 0 then { d with bank0 := b } else { d with bank1 := b }) }
  | none => s

/-- A write-back that has been accepted begins: the target's header sector is erased. -/
def State.beginWriteBack (s : State) (bank : Nat) (h : PrimerHdr) (b : CfgBody) : State :=
  let s := s.setBank bank ⟨none, b⟩
  let s := s.setSlot { s.slot with writeBack := some ⟨h, b, 0, (h.bodyLen.toNat + 255) / 256⟩ }
  ((s.wr F.SLOT_PRIMER_WB_STATE 1).wr F.SLOT_PRIMER_WB_BANK bank).wr F.SLOT_PRIMER_WB_PAGES 0

/-- PRIMER_WRITE_BACK: up to `n` further pages are programmed. -/
def State.writeBackPages (s : State) (n : Nat) : State :=
  match s.slot.writeBack with
  | some w =>
    if s.slot.noFlashWrite ∨ ¬ s.leverShut then s
    else
      let p := min w.total (w.pages + n)
      let s := s.setSlot { s.slot with writeBack := some { w with pages := p } }
      (s.wr F.SLOT_PRIMER_WB_STATE 2).wr F.SLOT_PRIMER_WB_PAGES p
  | none => s

/-- PRIMER_WB_COMPLETE: with every page programmed, the compare decides whether the header, the last page, is programmed. -/
def State.writeBackEnd (s : State) (compareOk : Bool) : State :=
  match s.slot.writeBack with
  | some w =>
    if w.pages < w.total ∨ s.slot.noFlashWrite then s
    else
      let s' := s.setSlot { s.slot with writeBack := none }
      if compareOk then
        let s' := s'.setBank (s.rd F.SLOT_PRIMER_WB_BANK) ⟨some w.hdr, w.body⟩
        (s'.wr F.SLOT_PRIMER_WB_PAGES (w.total + 1)).wr F.SLOT_PRIMER_WB_STATE 3
      else s'.wr F.SLOT_PRIMER_WB_STATE 5
  | none => s

/-! ## Insertion and removal (R75, R80 to R82, R94) -/

/-- SUPPLY_MATE (R75). -/
def State.supplyMate (s : State) : State :=
  let s := s.setSlot { s.slot with logicOn := true }
  let s := s.wr F.PWR_ISLAND_STAT_ON_CELL 0
  [bPWR, bRTC, bKEY].foldl (fun s b => s.wr (F.STATE_RUN b) 1) s

/-- PRESENT_MATE (R75). -/
def State.presentMate (s : State) (x : SlotSide) : State :=
  let s := s.setSlot { s.slot with straps := x.straps.toNat, primer := x.primer }
  (s.wr F.SLOT_STATUS_PRESENT 1).wrB F.SLOT_STATUS_LEVER x.leverClosed

/-- A write-back under way is stopped (R80). -/
def State.stopWriteBack (s : State) : State :=
  match s.slot.writeBack with
  | some _ => (s.setSlot { s.slot with writeBack := none }).wr F.SLOT_PRIMER_WB_STATE 4
  | none => s

/-- The lamps and the Gauge at eject preparation (R80): dark, counters and latch stored. -/
def State.ejectStore (s : State) : State :=
  let s := s.setLamp { s.lamp with lit := [] }
  let s := if s.isOn 42 then (s.wr F.LAMP_STATUS_EJECT_ACTIVE 1).storeLamps else s
  s.ejectLatch.storeLatch

/-- The actions of R80, complete after `prepUs`. -/
def State.ejectActions (s : State) (prepUs : Nat) : State :=
  if s.ejecting ∨ ¬ s.slot.released ∨ ¬ s.slot.logicOn then s
  else
    let s := (s.wr F.SLOT_STATUS_EJECT_ACTIVE 1).holdsLow
    let s := (List.range 4).foldl State.radioCut s
    let s := s.ejectStore
    let s := { s with io := { s.io with couplers := false } }
    let s := (if s.rd F.SLOT_PRIMER_STAT_STATE = 1 then s.primerShow 6 else s).stopWriteBack
    let s := (s.recTrigger 0x0001 0 []).snapshotWrite 0
    let s := s.sealEarly
    let s := s.setSlot { s.slot with noFlashWrite := true }
    (s.wr F.SLOT_STATUS_EJECT_PREP 1).wr F.SLOT_EJECT_TIME_PREP_US (min prepUs 65535)

/-- EJECT_PREPARATION (R80). -/
def State.ejectPrep (s : State) (highUs prepUs : Nat) : State :=
  let s := s.wr F.SLOT_STATUS_LEVER 0
  if 1000 ≤ highUs then
    let first := !s.ejecting
    let s := s.ejectActions prepUs
    if first ∧ s.ejecting then s.setSlot { s.slot with ejectByLever := true } else s
  else s

/-- PRESENT_N goes high (R94). -/
def State.presentBreak (s : State) : State := (s.wr F.SLOT_STATUS_PRESENT 0).wr F.SYS_CONFIG_SRC_SEATED 0

/-- PRESENCE_LOSS (R81). -/
def State.presenceLoss (s : State) (highUs prepUs : Nat) : State :=
  let s := s.presentBreak
  if 200 ≤ highUs ∧ s.leverShut ∧ s.slot.logicOn then
    let s := s.ejectActions prepUs
    s.setSlot { s.slot with presenceLost := true }
  else s

/-- PRESENCE_RETURN (R81). -/
def State.presenceReturn (s : State) : State :=
  let s := s.wr F.SLOT_STATUS_PRESENT 1
  if s.slot.presenceLost then
    (s.setSlot { s.slot with presenceLost := false }).incSat F.SLOT_EJECT_CNT_GLITCHES
  else s

/-- EJECT_RESTART (R82). HALTED is left by a power cycle alone (R103), and a parked module, whose registers start again, stays
parked (R434). -/
def State.ejectRestart (s : State) (lowMs : Nat) : State :=
  let s := (s.wr F.SLOT_STATUS_LEVER 1).wr F.SLOT_STATUS_PRESENT 1
  if 100 ≤ lowMs ∧ s.isSet F.SLOT_STATUS_EJECT_PREP ∧ s.slot.logicOn ∧ s.mode ≠ 5 then
    let parked := s.mode == 4
    let s := if s.slot.ejectByLever then s.incSat F.SLOT_EJECT_CNT_ABORTS else s
    let s := s.moduleReset 4
    if parked then (s.wr F.PWR_MODE_MODE 4).setSys { s.sys with levelTo := none } else s
  else s

/-! ## The logic supply (R434, R514, R527) -/

/-- The module stops: the last acts of R386 and R531, every output as R60, and the island on the coin cell. Without a cell
that is an island loss. -/
def State.supplyStop (s : State) : State :=
  let s := s.allOff
  let s := s.setSlot { s.slot with
    logicOn := false, released := false, wakeRun := [], noFlashWrite := false, primVcc := false, prim4 := 0, respDue := none
    respHeld := none
    sbD := true, sbS := true }
  let s := s.setSys { s.sys with levelTo := none }
  if s.slot.cellFitted then
    ((s.wr F.PWR_ISLAND_STAT_ON_CELL 1).wr (F.STATE_RUN bSLOT) 0).wr F.PWR_MODE_MODE (if s.sys.parkLatch then 4 else 0)
  else s.islandLoss

/-- LOGIC_SUPPLY_DROP: below 33 V for 10 ms. -/
def State.supplyDrop (s : State) (mV us : Nat) : State :=
  if s.slot.logicOn ∧ mV < 33000 ∧ 10000 ≤ us then s.supplyStop else s

/-- LOGIC_OVERVOLTAGE: above 66 V for 1 ms the input is disconnected. -/
def State.overvoltage (s : State) (mV us : Nat) : State :=
  if s.slot.logicOn ∧ 66000 < mV ∧ 1000 ≤ us then s.supplyStop else s

/-- The logic supply returns to a parked module (R434): it stays parked. -/
def State.parkedReturn (s : State) : State :=
  if s.sys.parkLatch then
    let s := s.supplyMate
    let s := (s.inc F.PWR_CYCLES_COUNT).setCause 1
    let s := (s.wr F.SYS_RESET_CAUSE_FW_RESTARTS 0).wr F.PWR_MODE_MODE 4
    (s.setSlot { s.slot with released := true }).wr (F.STATE_RUN bSLOT) 1
  else s

/-- LOGIC_SUPPLY_RETURN: above 35 V for 20 ms. A power-on reset follows where the module sits in its slot. -/
def State.supplyReturn (s : State) (mV us : Nat) : State :=
  if s.slot.logicOn ∨ mV ≤ 35000 ∨ us < 20000 then s
  else if s.sys.parkLatch then s.parkedReturn
  else
    let s := s.supplyMate
    if s.present ∧ s.leverShut then s.powerOnReset.release else s

/-! ## PARK and wake-up (R433 to R436) -/

/-- PARK (R434): the recorder's announced stop, both holds low, every output as R60, then every switched domain OFF. -/
def State.park (s : State) : State :=
  let s := s.sealEarly.holdsLow
  let s := (s.setScan { ScanState.start with ovId := s.scan.ovId, evtAt := s.scan.evtAt }).setScanMode mStop
  let s := { s with io := { s.io with doOut := 0, coilOut := 0, doOff := 0, coilOff := 0, couplers := false } }
  let s := s.setLamp { s.lamp with lit := [] }
  s.enterLevel 4

/-- A WAKE of level `l` is being carried out from now on (R73). -/
def State.wakeBegins (s : State) (l : Nat) : State := s.setSlot { s.slot with wakeRun := s.slot.wakeRun ++ [l] }

/-- What a WAKE of level `l` that the sequencer has taken does, and its answer (R73, R436). In HALTED, in eject preparation or
without the logic supply every one is answered BAD (R80, R436); then come the repeats of R73. -/
def State.wakeTaken (s : State) (l : Nat) : Nat × State :=
  let s := s.inc F.PWR_WAKE_CNT_EDGE_TAKEN
  if s.mode = 5 ∨ s.ejecting ∨ ¬ s.slot.logicOn then (stBAD, s.inc F.SLOT_WAKE_CNT_WAKES)
  else if s.slot.wakeRun.contains l then (stOK, s.inc F.SLOT_WAKE_CNT_REPEATS)
  else
    let s := s.inc F.SLOT_WAKE_CNT_WAKES
    if s.sys.levelTo = some 4 then (stOK, s.wakeBegins l)
    else
      match s.mode with
      | 4 => (stOK, s.wakeParked l)
      | 0 => (stOK, (if l = 1 then s.setSys { s.sys with levelTo := some 2 } else s).wakeBegins l)
      | 2 => (stOK, s)
      | _ =>
        if l ≠ 1 then (stOK, s)
        else if s.sys.levelTo = some 2 then (stOK, s.wakeBegins 1)
        else (stOK, (s.wakeBegins 1).enterLevel 2)

/-- A WAKE request of level 0 or 1 (R71, R73, R435). -/
def State.wakeRequest (s : State) (addr level : Nat) (inWindow : Bool) (quietUs : Nat) : State :=
  s.slotFrame addr 0x02 (o1 level) quietUs (fun s =>
    let s := s.inc F.PWR_WAKE_CNT_EDGE_IN
    if inWindow then s
    else
      let (st, s) := s.wakeTaken level
      s.respond addr 0x82 (o1 st))

/-- A request by its CMD and payload (R71); LEN above 32 makes it no frame (R69). -/
def State.slotRequest (s : State) (addr cmd : Nat) (payload : List Byte) (inWindow : Bool) (quietUs : Nat) : State :=
  if 32 < payload.length then s.slotDiscard .len quietUs
  else
    match cmd, payload with
    | 1, [] => s.slotPing addr quietUs
    | 2, [l] => if l.toNat ≤ 1 then s.wakeRequest addr l.toNat inWindow quietUs else s.slotRefuse addr cmd payload quietUs
    | 3, [] => s.slotStatus addr quietUs
    | _, _ => s.slotRefuse addr cmd payload quietUs

/-- WAKE (R71, R73, R435). -/
def State.slotWake (s : State) (addr level : Nat) (inWindow : Bool) (quietUs : Nat) : State :=
  s.slotRequest addr 0x02 (o1 level) inWindow quietUs

/-- SLOT_BAD_REQUEST (R71): a request that turns out to be one of the table is that. -/
def State.slotBad (s : State) (addr cmd : Nat) (payload : List Byte) (quietUs : Nat) : State :=
  s.slotRequest addr cmd payload false quietUs

/-- PWR_ALARM_MATCH (R436). -/
def State.alarmMatch (s : State) : State :=
  if s.mode = 4 ∧ s.alarmReached ∧ s.slot.logicOn then
    ((s.wakeParked 1).wr F.PWR_ALARM_LO_ALARM 0).wr F.PWR_ALARM_HI_ALARM 0
  else s

/-- AUTO_ENTER and AUTO_LEAVE (R433). -/
def State.autoEnter (s : State) (level : Bool) (sec : Nat) : State :=
  if s.isSet F.PWR_AUTO_EN ∧ s.mode = 2 ∧ s.isOn 49 ∧ level ∧ s.rd F.PWR_AUTO_ENTER_S ≤ sec ∧ s.sys.levelTo = none then
    s.enterLevel 3
  else s
def State.autoLeave (s : State) (level : Bool) (sec : Nat) : State :=
  if s.isSet F.PWR_AUTO_EN ∧ s.mode = 3 ∧ s.isOn 49 ∧ ¬ level ∧ s.rd F.PWR_AUTO_LEAVE_S ≤ sec ∧ s.sys.levelTo = none then
    s.enterLevel 2
  else s

/-- OPERATING_SECOND (R438): one second of the RTC oscillator. -/
def State.operatingSecond (s : State) : State :=
  if ¬ s.rtcUp then s
  else
    let s := s.rtcTicks 32768
    if s.slot.logicOn then
      (s.wr64 F.PWR_OPSEC_LO_SEC F.PWR_OPSEC_HI_SEC ((s.opSec + 1) % 2 ^ 40)).windowTick
    else s

/-- VBAT_MEASURE (R437). -/
def State.vbat (s : State) (mV : Nat) : State :=
  let low := decide (mV < 2600)
  let was := s.isSet F.PWR_ISLAND_STAT_VBAT_LOW
  let s := (s.wr F.RTC_VBAT_MV mV).wrB F.PWR_ISLAND_STAT_VBAT_LOW low
  if low ∧ ¬ was then s.raiseEvent 0x00F0 (unitOf bPWR) (o1 (unitOf bPWR)) else s

/-! ## The trial (R474, R475, R479) -/

/-- ACTIVATION (R475). -/
def State.activation (s : State) : State :=
  if s.activationDue then
    let s := s.ejectLatch.storeLatch
    let s := s.storeLamps.sealEarly
    let s := s.wrHdr s.inactive { s.hdr s.inactive with state := 4, tried := 0 }
    s.moduleReset 6
  else s

/-- CONFIRM_WINDOW_CLOSE (R479). -/
def State.confirmClose (s : State) (minutes : Nat) : State :=
  match s.restr.window with
  | some (_, m) =>
    if (s.hdr s.restr.running).state = 4 ∧ m ≤ minutes then
      ((s.wrSlotState s.restr.running 8).trialEnded 2).moduleReset 6
    else s
  | none => s

end Sys2Proof.Machine
end

