-- ==== Sys2Proof/Machine/Tab.lean ====
section
/-!
DEFINITION. Machine/Tab.lean: Tablature (spec/12): operand areas and formats, the meaning of each instruction on the
cycle's execution state, and the fetch that runs one instruction of the running task (R298 to R314). Each of
Machine/ExecTab.lean's meanings runs one of these.
-/
namespace Sys2Proof.Machine

/-! ## Errors (R314) -/

def xILLEGAL : Nat := 1
def xADDR : Nat := 2
def xALIGN : Nat := 3
def xDIV0 : Nat := 4
def xSTACK_OVF : Nat := 5
def xSTACK_UNF : Nat := 6
def xSTACK_OPEN : Nat := 7
def xFETCH : Nat := 8
def xRANGE : Nat := 9

/-- What an instruction does to the cycle and the machine: an execution error, or both after it. -/
abbrev TabRes := Except Nat (Cycle × State)

/-- An instruction: from its operand bits, the cycle with PC already at the next instruction, and the machine. -/
abbrev TabFn := Nat → Cycle → State → TabRes

/-! ## Operand areas (R300, R301) -/

/-- Base and size of areas 0 to 6. -/
def tabArea (a : Nat) : Nat × Nat :=
  match a with
  | 0 => (0x00500000, 256)
  | 1 => (0x00500100, 256)
  | 2 => (0x00501000, 261120)
  | 3 => (0x00541000, 261120)
  | 4 => (0x00581000, 262144)
  | 5 => (0x005C1000, 258048)
  | _ => (0x08000100, 65280)

/-- Octet `o` of area `a` may be written. -/
def tabWritable (a o : Nat) : Bool :=
  match a with
  | 0 => false
  | 1 => decide (o < 8) || decide (128 ≤ o)
  | 2 => false
  | 3 => decide (o % 16 ≤ 12)
  | _ => true

/-- The area and offset of `n` octets at OFFSET `off` of AREA `a`; PR lies at P + OFFSET. -/
def tabPlace (y : Cycle) (a off n : Nat) : Option (Nat × Nat) :=
  if a < 7 then (if off + n ≤ (tabArea a).2 then some (a, off) else none)
  else
    let x := y.p.toNat + off
    ((List.range 7).find? (fun b => decide ((tabArea b).1 ≤ x ∧ x + n ≤ (tabArea b).1 + (tabArea b).2))).map
      (fun b => (b, x - (tabArea b).1))

/-- The physical address of an operand of `n` octets of which octets `lo` to `hi - 1` are written, aligned to `al`: ADDR
outside its area or its Writes column, ALIGN where it is not aligned. -/
def tabAddr (y : Cycle) (a off n al lo hi : Nat) : Except Nat Nat :=
  match tabPlace y a off n with
  | none => .error xADDR
  | some (b, o) =>
    if (List.range hi).any (fun i => decide (lo ≤ i) && !tabWritable b (o + i)) then .error xADDR
    else if ((tabArea b).1 + o) % al ≠ 0 then .error xALIGN
    else .ok ((tabArea b).1 + o)

/-! ## Formats -/

/-- Format N: the operand bits are 0 (R302). -/
def tabN (f : Cycle → State → TabRes) : TabFn := fun w y s => if w = 0 then f y s else .error xILLEGAL

/-- A change of the cycle alone. -/
def tabCyc (f : Cycle → Cycle) : TabFn := tabN (fun y s => .ok (f y, s))

/-- Format B: the operand's bit is read; `wr` says whether the instruction is one that writes it; `f` gives C and the
bit, none where it is not written (R304). -/
def tabBit (wr : Bool) (f : Bool → Bool → Bool × Option Bool) : TabFn := fun w y s =>
  match tabAddr y (bits w 21 3) (bits w 3 18) 1 1 0 (b2n wr) with
  | .error e => .error e
  | .ok a =>
    let v := s.rd8 a
    let i := bits w 0 3
    let (c, b) := f y.c (bitAt v i)
    .ok ({ y with c := c }, match b with | some b => s.wrMem a 1 (setBit v i b) | none => s)

/-- Octets of WIDTH, and whether it is signed. -/
def tabWidth (w : Nat) : Nat × Bool :=
  match w with
  | 0 => (1, false)
  | 1 => (1, true)
  | 2 => (2, false)
  | 3 => (2, true)
  | _ => (4, true)

/-- Format W: the operand's value, signed or not by WIDTH, given to `f`. -/
def tabWord (f : Int → Cycle → Except Nat Cycle) : TabFn := fun w y s =>
  if 4 < bits w 0 3 then .error xILLEGAL
  else
    let (n, sg) := tabWidth (bits w 0 3)
    match tabAddr y (bits w 21 3) (bits w 3 18) n n 0 0 with
    | .error e => .error e
    | .ok a =>
      let v := s.rdMem a n
      match f (if sg then toSigned (8 * n) v else (v : Int)) y with
      | .error e => .error e
      | .ok y => .ok (y, s)

/-- Format K: the sign-extended immediate given to `f`. -/
def tabImm (f : Int → Cycle → Cycle) : TabFn := fun w y s => .ok (f (toSigned 24 w) y, s)

/-- A shift: IMM[23:5] are 0. -/
def tabShift (f : Word → Nat → Word) : TabFn := fun w y s =>
  if w < 32 then .ok ({ y with acc := f y.acc w }, s) else .error xILLEGAL

/-- Format J: the jump is taken when `p` holds (R308). -/
def tabJump (p : Cycle → Bool) : TabFn := fun w y s =>
  if bits w 18 6 ≠ 0 then .error xILLEGAL
  else .ok (if p y then { y with pc := bits w 0 18 } else y, s)

/-- Format T: the address of the record, of which octets `lo` to `hi - 1` are written, given to `f` (R302). -/
def tabRec (lo hi : Nat) (f : Nat → Cycle → State → TabRes) : TabFn := fun w y s =>
  if bits w 21 3 < 4 ∨ bits w 3 18 % 16 ≠ 0 ∨ bits w 0 3 ≠ 0 then .error xILLEGAL
  else
    match tabAddr y (bits w 21 3) (bits w 3 18) 16 4 lo hi with
    | .error e => .error e
    | .ok a => f a y s

/-! ## Bit logic and the branch stack (R304, R305) -/

def tBld : TabFn := tabBit false (fun _ b => (b, none))
def tBldn : TabFn := tabBit false (fun _ b => (!b, none))
def tBand : TabFn := tabBit false (fun c b => (c && b, none))
def tBandn : TabFn := tabBit false (fun c b => (c && !b, none))
def tBor : TabFn := tabBit false (fun c b => (c || b, none))
def tBorn : TabFn := tabBit false (fun c b => (c || !b, none))
def tBxor : TabFn := tabBit false (fun c b => (xor c b, none))
def tBxorn : TabFn := tabBit false (fun c b => (xor c (!b), none))
def tBst : TabFn := tabBit true (fun c _ => (c, some c))
def tBstn : TabFn := tabBit true (fun c _ => (c, some (!c)))
def tBset : TabFn := tabBit true (fun c _ => (c, if c then some true else none))
def tBclr : TabFn := tabBit true (fun c _ => (c, if c then some false else none))
def tBrise : TabFn := tabBit true (fun c m => (c && !m, some c))
def tBfall : TabFn := tabBit true (fun c m => (!c && m, some c))

def tBpush : TabFn := tabN (fun y s => if 8 ≤ y.stack.length then .error xSTACK_OVF else .ok ({ y with stack := y.c :: y.stack }, s))

/-- A pop that combines the popped bit with C. -/
def tabPop (f : Bool → Bool → Bool) : TabFn := tabN (fun y s =>
  match y.stack with
  | [] => .error xSTACK_UNF
  | b :: l => .ok ({ y with c := f b y.c, stack := l }, s))

def tBpopa : TabFn := tabPop (· && ·)
def tBpopo : TabFn := tabPop (· || ·)
def tBpopx : TabFn := tabPop xor
def tBnot : TabFn := tabCyc (fun y => { y with c := !y.c })
def tBone : TabFn := tabCyc (fun y => { y with c := true })
def tBzero : TabFn := tabCyc (fun y => { y with c := false })
def tBldov : TabFn := tabCyc (fun y => { y with c := y.ov })
def tOvclr : TabFn := tabCyc (fun y => { y with ov := false })
def tNop : TabFn := tabCyc id

/-! ## Words (R306) -/

/-- ACC taken as signed. -/
def Cycle.accS (y : Cycle) : Int := y.acc.toInt

/-- A result into ACC modulo 2³². -/
def Cycle.setAcc (y : Cycle) (x : Int) : Cycle := { y with acc := BitVec.ofInt 32 x }

/-- A signed result: ACC wraps, OV is set where the true result lies outside 32 bits. -/
def Cycle.arith (y : Cycle) (x : Int) : Cycle :=
  { y.setAcc x with ov := y.ov || decide (x < -2147483648 ∨ 2147483647 < x) }

def tWld : TabFn := tabWord (fun x y => .ok (y.setAcc x))
def tWst : TabFn := fun w y s =>
  if 4 < bits w 0 3 then .error xILLEGAL
  else
    let n := (tabWidth (bits w 0 3)).1
    match tabAddr y (bits w 21 3) (bits w 3 18) n n 0 n with
    | .error e => .error e
    | .ok a => .ok (y, s.wrMem a n y.acc.toNat)
def tWadd : TabFn := tabWord (fun x y => .ok (y.arith (y.accS + x)))
def tWsub : TabFn := tabWord (fun x y => .ok (y.arith (y.accS - x)))
def tWmul : TabFn := tabWord (fun x y => .ok (y.arith (y.accS * x)))
def tWdiv : TabFn := tabWord (fun x y => if x = 0 then .error xDIV0 else .ok (y.arith (y.accS.tdiv x)))
def tWmod : TabFn := tabWord (fun x y => if x = 0 then .error xDIV0 else .ok (y.setAcc (y.accS.tmod x)))
def tWand : TabFn := tabWord (fun x y => .ok { y with acc := y.acc &&& BitVec.ofInt 32 x })
def tWor : TabFn := tabWord (fun x y => .ok { y with acc := y.acc ||| BitVec.ofInt 32 x })
def tWxor : TabFn := tabWord (fun x y => .ok { y with acc := y.acc ^^^ BitVec.ofInt 32 x })
def tWmin : TabFn := tabWord (fun x y => .ok (y.setAcc (min y.accS x)))
def tWmax : TabFn := tabWord (fun x y => .ok (y.setAcc (max y.accS x)))

/-! ## Compares (R307) -/

/-- C loaded with the truth of ACC related to the operand. -/
def tabCmpW (r : Int → Int → Bool) : TabFn := tabWord (fun x y => .ok { y with c := r y.accS x })
def tabCmpK (r : Int → Int → Bool) : TabFn := tabImm (fun x y => { y with c := r y.accS x })

def tWeq : TabFn := tabCmpW (fun a b => decide (a = b))
def tWne : TabFn := tabCmpW (fun a b => decide (a ≠ b))
def tWgt : TabFn := tabCmpW (fun a b => decide (b < a))
def tWge : TabFn := tabCmpW (fun a b => decide (b ≤ a))
def tWlt : TabFn := tabCmpW (fun a b => decide (a < b))
def tWle : TabFn := tabCmpW (fun a b => decide (a ≤ b))
def tKeq : TabFn := tabCmpK (fun a b => decide (a = b))
def tKne : TabFn := tabCmpK (fun a b => decide (a ≠ b))
def tKgt : TabFn := tabCmpK (fun a b => decide (b < a))
def tKge : TabFn := tabCmpK (fun a b => decide (b ≤ a))
def tKlt : TabFn := tabCmpK (fun a b => decide (a < b))
def tKle : TabFn := tabCmpK (fun a b => decide (a ≤ b))

/-! ## Immediates, shifts, pointer -/

def tKld : TabFn := tabImm (fun x y => y.setAcc x)
def tKldh : TabFn := fun w y s =>
  if 65536 ≤ w then .error xILLEGAL
  else .ok ({ y with acc := BitVec.ofNat 32 (w * 65536 + y.acc.toNat % 65536) }, s)
def tKadd : TabFn := tabImm (fun x y => y.arith (y.accS + x))
def tWshl : TabFn := tabShift (fun a n => a <<< n)
def tWshr : TabFn := tabShift (fun a n => a >>> n)
def tWsar : TabFn := tabShift (fun a n => a.sshiftRight n)
def tWinv : TabFn := tabCyc (fun y => { y with acc := ~~~ y.acc })
def tPset : TabFn := tabCyc (fun y => { y with p := y.acc })
def tPget : TabFn := tabCyc (fun y => { y with acc := y.p })

/-! ## Jumps (R308) -/

def tJmp : TabFn := tabJump (fun _ => true)
def tJmpt : TabFn := tabJump (fun y => y.c)
def tJmpf : TabFn := tabJump (fun y => !y.c)
def tJmpz : TabFn := tabJump (fun y => y.acc == 0)
def tJmpnz : TabFn := tabJump (fun y => y.acc != 0)

/-! ## Timers (R309) -/

/-- A timer record's working values. -/
structure Timer where
  et    : Nat
  start : Nat
  q     : Bool
  run   : Bool
  deriving DecidableEq, Repr

/-- Elapsed time, limited to PT. -/
def timerElapsed (now start pt : Nat) : Nat := min ((now + 2 ^ 32 - start) % 2 ^ 32) pt

/-- ET from START; at PT, `q` and RUNNING as given. -/
def Timer.tick (t : Timer) (now pt : Nat) (f : Timer → Timer) : Timer :=
  let e := timerElapsed now t.start pt
  if e = pt then f { t with et := e } else { t with et := e }

/-- The rules of TON, TOF and TP: NOW, PT, IN, last input. -/
def timerOn (now pt : Nat) (i _last : Bool) (t : Timer) : Timer :=
  if i then
    let t := if t.run then t else { t with start := now, run := true }
    { t with q := false }.tick now pt (fun t => { t with q := true })
  else { t with run := false, et := 0, q := false }
def timerOff (now pt : Nat) (i last : Bool) (t : Timer) : Timer :=
  if i then { t with q := true, run := false, et := 0 }
  else
    let t := if last then { t with start := now, run := true } else t
    if t.run then t.tick now pt (fun t => { t with q := false, run := false }) else t
def timerPulse (now pt : Nat) (i last : Bool) (t : Timer) : Timer :=
  let t := if i ∧ ¬ last ∧ ¬ t.run then { t with start := now, run := true, q := true } else t
  let t := if t.run then t.tick now pt (fun t => { t with q := false, run := false }) else t
  if t.run ∨ i then t else { t with et := 0 }

/-- One timer instruction. -/
def tabTimer (f : Nat → Nat → Bool → Bool → Timer → Timer) : TabFn := tabRec 4 13 (fun a y s =>
  let pt := toSigned 32 (s.rdMem a 4)
  if pt < 0 then .error xRANGE
  else
    let fl := s.rd8 (a + 12)
    let now := y.tStart / 1000 % 2 ^ 32
    let t := f now pt.toNat y.c (bitAt fl 2) ⟨s.rdMem (a + 4) 4, s.rdMem (a + 8) 4, bitAt fl 0, bitAt fl 1⟩
    let fl := setBits fl 0 3 (b2n t.q + 2 * b2n t.run + 4 * b2n y.c)
    .ok ({ y with c := t.q }, ((s.wrMem (a + 4) 4 t.et).wrMem (a + 8) 4 t.start).wrMem (a + 12) 1 fl))

def tTon : TabFn := tabTimer timerOn
def tTof : TabFn := tabTimer timerOff
def tTp : TabFn := tabTimer timerPulse

/-! ## Counters (R310) -/

/-- One counter instruction: from PV, CV, C and last input, the new CV, Q and whether C and the last-input flag follow. -/
def tabCounter (f : Int → Int → Bool → Bool → Int × Bool) (follow : Bool) : TabFn := tabRec 4 9 (fun a y s =>
  let fl := s.rd8 (a + 8)
  let (cv, q) := f (toSigned 32 (s.rdMem a 4)) (toSigned 32 (s.rdMem (a + 4) 4)) y.c (bitAt fl 1)
  let fl := if follow then setBits fl 0 2 (b2n q + 2 * b2n y.c) else setBit fl 0 q
  .ok (if follow then { y with c := q } else y, (s.wrMem (a + 4) 4 (ofSigned 32 cv)).wrMem (a + 8) 1 fl))

def tCtu : TabFn := tabCounter (fun pv cv c l =>
  let cv := if c ∧ ¬ l then min (cv + 1) 2147483647 else cv
  (cv, decide (pv ≤ cv))) true
def tCtd : TabFn := tabCounter (fun _ cv c l =>
  let cv := if c ∧ ¬ l then max (cv - 1) (-2147483648) else cv
  (cv, decide (cv ≤ 0))) true
def tCload : TabFn := tabCounter (fun pv cv c _ =>
  let cv := if c then pv else cv
  (cv, decide (pv ≤ cv))) false
def tCreset : TabFn := tabCounter (fun pv cv c _ =>
  let cv := if c then 0 else cv
  (cv, decide (pv ≤ cv))) false

/-! ## Node operations (R311, R312) -/

/-- Offset and octets in the node table entry of an NST selector. -/
def nstField (sel : Nat) : Nat × Nat :=
  match sel with
  | 0 => (9, 1)
  | 1 => (8, 1)
  | 2 => (122, 2)
  | 3 => (120, 2)
  | 4 => (72, 4)
  | 5 => (17, 1)
  | 6 => (160, 1)
  | _ => (16, 1)

def tNst : TabFn := fun w y s =>
  if 8 ≤ bits w 0 4 then .error xILLEGAL
  else if 16 ≤ w ∨ 16320 ≤ y.acc.toNat then .error xADDR
  else
    let (o, n) := nstField (bits w 0 4)
    .ok ({ y with acc := BitVec.ofNat 32 (s.nd y.acc.toNat o n) }, s)

def tSnd : TabFn := tabRec 14 15 (fun a y s =>
  if ¬ y.c then .ok (y, s)
  else
    let k := s.rd8 a
    let t := s.rdMem (a + 2) 2 % 2 ^ 14
    if (k = 0x01 ∨ k = 0x02 ∨ k = 0x10) ∧ (t < 16352 ∨ t = 16383) ∧ y.sends.length < 32 then
      .ok ({ y with sends := (a, s.mem.readN a 16) :: y.sends }, s.wrMem (a + 14) 1 0xFF)
    else .ok ({ y with c := false }, s.wrMem (a + 14) 1 stBAD))

/-- END with an empty stack ends the cycle (R305, R308). -/
def tEnd : TabFn := tabN (fun y s => if y.stack = [] then .ok ({ y with ended := true }, s) else .error xSTACK_OPEN)

/-! ## The opcode map (R303) -/

/-- The instruction of OP, none where it is reserved. -/
def tabOp (op : Nat) : Option TabFn :=
  match op with
  | 0x00 => some tNop
  | 0x10 => some tBld
  | 0x11 => some tBldn
  | 0x12 => some tBand
  | 0x13 => some tBandn
  | 0x14 => some tBor
  | 0x15 => some tBorn
  | 0x16 => some tBxor
  | 0x17 => some tBxorn
  | 0x18 => some tBst
  | 0x19 => some tBstn
  | 0x1A => some tBset
  | 0x1B => some tBclr
  | 0x1C => some tBrise
  | 0x1D => some tBfall
  | 0x20 => some tBpush
  | 0x21 => some tBpopa
  | 0x22 => some tBpopo
  | 0x23 => some tBpopx
  | 0x24 => some tBnot
  | 0x25 => some tBone
  | 0x26 => some tBzero
  | 0x27 => some tBldov
  | 0x28 => some tOvclr
  | 0x30 => some tWld
  | 0x31 => some tWst
  | 0x32 => some tWadd
  | 0x33 => some tWsub
  | 0x34 => some tWmul
  | 0x35 => some tWdiv
  | 0x36 => some tWmod
  | 0x37 => some tWand
  | 0x38 => some tWor
  | 0x39 => some tWxor
  | 0x3A => some tWmin
  | 0x3B => some tWmax
  | 0x40 => some tWeq
  | 0x41 => some tWne
  | 0x42 => some tWgt
  | 0x43 => some tWge
  | 0x44 => some tWlt
  | 0x45 => some tWle
  | 0x48 => some tKeq
  | 0x49 => some tKne
  | 0x4A => some tKgt
  | 0x4B => some tKge
  | 0x4C => some tKlt
  | 0x4D => some tKle
  | 0x50 => some tKld
  | 0x51 => some tKldh
  | 0x52 => some tKadd
  | 0x53 => some tWshl
  | 0x54 => some tWshr
  | 0x55 => some tWsar
  | 0x56 => some tWinv
  | 0x57 => some tPset
  | 0x58 => some tPget
  | 0x60 => some tJmp
  | 0x61 => some tJmpt
  | 0x62 => some tJmpf
  | 0x63 => some tJmpz
  | 0x64 => some tJmpnz
  | 0x70 => some tTon
  | 0x71 => some tTof
  | 0x72 => some tTp
  | 0x73 => some tCtu
  | 0x74 => some tCtd
  | 0x75 => some tCload
  | 0x76 => some tCreset
  | 0x78 => some tSnd
  | 0x79 => some tNst
  | 0xFF => some tEnd
  | _ => none

/-! ## Running one instruction (R293, R308) -/

/-- The word at index `pc` of the scan program. -/
def State.tabWordAt (s : State) (pc : Nat) : Nat := s.rdMem (0x00400000 + 4 * pc) 4

/-- The breakpoint that matches index `pc` in task `n`. -/
def State.breakpoint (s : State) (n pc : Nat) : Option Nat :=
  if ¬ s.isSet F.SCAN_CTRL_HOLD_EN then none
  else (List.range 8).find? (fun i => s.isSet (F.SCAN_BP_EN i) && s.rd (F.SCAN_BP_ADDR i) == pc &&
    (s.isSet (F.SCAN_BP_ANY_TASK i) || s.rd (F.SCAN_BP_TASK i) == n))

/-- Instruction `f` with operand bits `w` executed on cycle `y`: PC moves on first; an error ends the cycle; END in RUN goes
to the output write. -/
def State.tabExec (s : State) (y : Cycle) (f : TabFn) (w : Nat) : State :=
  match f w { y with pc := (y.pc + 1) % 2 ^ 18, skipBp := false } s with
  | .error e => s.execError e y.pc
  | .ok (y', s) =>
    let s := s.setScan { s.scan with cyc := some y' }
    if y'.ended ∧ s.scanMode = mRun then s.endCycle else s

/-- The cycle that runs in RUN. -/
def State.running (s : State) : Option Cycle := if s.scanMode = mRun then s.scan.cyc else none

/-- The running task's next instruction, where it is the word (OP, `w`): a matching breakpoint enters HOLD before it. -/
def State.tabRun (s : State) (op : Nat) (f : TabFn) (w : Nat) : State :=
  match s.running with
  | none => s
  | some y =>
    if s.rd F.SCAN_PROG_LEN_LEN ≤ y.pc ∨ s.tabWordAt y.pc ≠ op * 2 ^ 24 + w then s
    else
      match (if y.skipBp then none else s.breakpoint y.task y.pc) with
      | some b => s.enterHold b
      | none => s.tabExec y f w

/-- The next instruction of cycle `y`, whatever it is: FETCH, ILLEGAL or its meaning. -/
def State.tabNext (s : State) (y : Cycle) : State :=
  if s.rd F.SCAN_PROG_LEN_LEN ≤ y.pc then s.execError xFETCH y.pc
  else
    let w := s.tabWordAt y.pc
    match tabOp (w / 2 ^ 24) with
    | none => s.execError xILLEGAL y.pc
    | some f => s.tabExec y f (w % 2 ^ 24)

/-- SCAN_CMD STEP: one instruction of the frozen task; the engine stays in HOLD (R289). -/
def State.cmdStep (s : State) : State :=
  if s.scanMode ≠ mHold then s.scanDone 5 stBAD
  else
    match s.scan.cyc with
    | none => s.scanDone 5 stOK
    | some y =>
      if y.ended then s.scanDone 5 stOK
      else
        let s := s.tabNext y
        let s := if s.scanMode = mHold then s.enterHold 0xF else s
        s.scanDone 5 stOK

/-- RESERVED_OPCODE: the next word is `w`, whose OP is reserved. -/
def State.reservedOpcode (s : State) (w : Nat) : State :=
  match s.running with
  | none => s
  | some y =>
    if s.rd F.SCAN_PROG_LEN_LEN ≤ y.pc ∨ s.tabWordAt y.pc ≠ w ∨ (tabOp (w / 2 ^ 24)).isSome then s
    else
      match (if y.skipBp then none else s.breakpoint y.task y.pc) with
      | some b => s.enterHold b
      | none => s.execError xILLEGAL y.pc

/-- FETCH_BEYOND_PROG_LEN: PC stands at or above PROG_LEN. -/
def State.fetchBeyond (s : State) : State :=
  match s.running with
  | none => s
  | some y =>
    if y.pc < s.rd F.SCAN_PROG_LEN_LEN then s
    else
      match (if y.skipBp then none else s.breakpoint y.task y.pc) with
      | some b => s.enterHold b
      | none => s.execError xFETCH y.pc

end Sys2Proof.Machine
end

