-- ==== Sys2Proof/Machine/RegWrite.lean ====
section
/-!
DEFINITION. Machine/RegWrite.lean: a register write as one atomic act (R13, R34, R37, R41 to R45): the checks of every
field, the fields taking effect as their tags state, and what a written word orders of its unit.
-/
namespace Sys2Proof.Machine

/-- What a command carries beside the written word: a count its row states (flash programs that fail, 0.1 µs of a
takeover), and whether the CAPO line follows. -/
structure WriteMore where
  n : Nat
  follows : Bool
  deriving DecidableEq, Repr

/-- Nothing beside the word. -/
def WriteMore.none : WriteMore := ⟨0, true⟩

/-- The field that field `f` of the register at `a` is for requester `req`: LAMP_MCFG stands for the element LAMP_LSEL
selects (R318). -/
def State.fieldFor (s : State) (req a : Nat) (ix : List Nat) (f : FieldDef) : Fld :=
  if a = 0x400D0024 then
    let id := s.rdReq req F.LAMP_LSEL_ID
    if f.lo = 8 then mcfgWeight id else if f.lo = 7 then mcfgEn id else mcfgFunc id
  else f.at a ix

/-- The S fields of the register at offset `off`, element `i`, cannot change now: RUN, but for the registers judged by a
radio's EN (R176) or by PTP's (R410). -/
def State.staticNow (s : State) (b off i : Nat) : Bool :=
  if b = bFRAD ∧ off < 0x0020 then s.isSet (F.FRAD_RADIO_CFG_EN i)
  else if b = bTIME ∧ off = 0x0080 then s.isSet F.TIME_PTP_CFG_EN
  else s.run b

/-- The fields of a register that a write sets or acts on. -/
def RegDef.written (r : RegDef) : List FieldDef := r.flds.filter (fun f => f.acc == .rw || f.acc == .wo)

/-- The limits that rest on the requester's selection or on the unit's present state. -/
def State.ownLimit (s : State) (req b off v : Nat) : Bool :=
  if b = bLAMP ∧ off = 0x0024 then decide (256 ≤ s.rdReq req F.LAMP_LSEL_ID)
  else if b = bLAMP ∧ off = 0x0010 then
    let arg := bits v 0 3
    (bits v 28 4 != 2 || decide (arg ≤ 5)) && (bits v 28 4 != 4 || arg != 0)
  else if (b = bRINGA ∨ b = bRINGB) ∧ off = 0x0000 then bitAt v 0 || (s.ringLeave (b - bRINGA)).1
  else true

/-- The first reason of R41 to reject a write of `v` to register `r` at `a`; 0 where there is none. -/
def State.writeReason (s : State) (req a b : Nat) (r : RegDef) (ix : List Nat) (v : Nat) : Nat :=
  let i := ix.headD 0
  let x (f : FieldDef) : Nat := bits v f.lo f.width
  let chk (f : FieldDef) : Bool × Bool := chkField f.chk f.width (x f)
  let t := r.flds.foldl (fun (t : State) f =>
    if f.acc = .rw ∧ ¬ f.perReq then t.wr (s.fieldFor req a ix f) (x f) else t) (s.ahead b)
  if r.written.any (fun f => f.tag == .s && s.staticNow b r.off i && x f != s.rd (s.fieldFor req a ix f)) then 1
  else if r.written.any (fun f => !(chk f).1) || (b == bREC && r.off == 0x0100 && !t.bindCodeKnown i) then 2
  else if r.written.any (fun f => !(chk f).2) || !State.limits s t b r.off i || !s.ownLimit req b r.off v then 3
  else 0

/-- A P value recorded as it takes effect (R46). -/
def State.recordP (s : State) (f : FieldDef) (k x : Nat) : State :=
  if f.src = .p then { s with pRec := s.pRec.set k x } else s

/-- Field `f` of block `b` takes the written value `x` (R8, R42, R43, R47). -/
def State.putField (s : State) (req b : Nat) (g : Fld) (f : FieldDef) (x : Nat) : State :=
  match f.acc with
  | .rw =>
    if f.perReq then s.wrReq req g x
    else if f.tag = .h ∧ s.run b then { s with shadow := s.shadow.set g.key x }
    else ({ s with shadow := s.shadow.erase g.key }.wr g x).recordP f g.key x
  | .w1c => s.wr g (s.rd g - (s.rd g &&& x))
  | .w1s => s.wr g (s.rd g ||| x)
  | .ro => s
  | .rov => s
  | .wo => s

/-- Every field of register `r` at `a` takes its part of `v`. -/
def State.putFields (s : State) (req a b : Nat) (r : RegDef) (ix : List Nat) (v : Nat) : State :=
  r.flds.foldl (fun (t : State) f => t.putField req b (s.fieldFor req a ix f) f (bits v f.lo f.width)) s

/-- What follows for the unit of block `b` from the fields of the register at `off`, element `i`, as now written; `was` is
the state before. -/
def State.afterWrite (s was : State) (req b off i : Nat) : State :=
  if b = bPWR then
    s.commitSel bPWR (fun k => (List.range 50).any (fun d => domCfgKey d k && s.dom d != domChanging))
  else if b = bMOVER then (if off = 0 then s.moverEnable (s.isSet F.MOVER_CTRL_EN) else s)
  else if b = bFPLC then
    (if s.rd F.FPLC_SF_CFG_CIP_LEN ≠ was.rd F.FPLC_SF_CFG_CIP_LEN then s.cipChanged else s).showFieldRun
  else if b = bFRAD then (if off = 0x0020 then s.dutyWritten i else s).showFieldRun
  else if b = bSYM then s.symCommit.showSymRun
  else if b = bGAUGE then
    if off ≠ 0 then s
    else if s.isSet F.GAUGE_CTRL_ENABLE then s.gaugeStart
    else if s.run bGAUGE then s.gaugeStop else s
  else if b = bSOUND then
    let s := s.soundWritten
    let s := if off = 0x0100 ∧ s.rd (F.SOUND_FDR_CFG_VF_REF i) ≠ was.rd (F.SOUND_FDR_CFG_VF_REF i) then s.vfWritten i else s
    s.showSoundRun.showWindows
  else if b = bSCAN then s.progTouched (blockBase bSCAN + off) 4
  else if b = bLAMP then (if off = 0 then s.showLampRun else s)
  else if b = bRINGA then (if off = 0 ∧ ¬ s.run b then s.ringRunSet 0 else s)
  else if b = bRINGB then (if off = 0 ∧ ¬ s.run b then s.ringRunSet 1 else s)
  else if b = bHCP then
    let s := if req < 32 then s.commit bHCP else s
    s.wrB (F.STATE_RUN bHCP) (s.isOn 43 && s.isSet F.HCP_CTRL_EN)
  else if b = bRTC then
    if off = 0 then { s with time := { s.time with rtcLoSet := true } }
    else if off = 4 then { s with time := { s.time with rtcHiSet := true } }
    else s
  else if b = bKEY then (if off = 0x0100 then s.slotWritten i else s)
  else if b = bSLOT then
    let s := s.commit bSLOT
    if off = 4 then (s.bypassWritten 0).bypassWritten 1 else s
  else s

/-- The status of a command whose unit answers none. -/
def acted (s : State) : Nat × State := (stOK, s)

/-- KEY_CMD by its OP. -/
def State.keyCmd (s : State) (op arg : Nat) : Nat × State :=
  match op with
  | 1 => s.keyProvision
  | 2 => s.keyField
  | 3 => s.keyReturn
  | 4 => s.keyScrap
  | 5 => s.debugOpen
  | 6 => s.debugClose
  | 7 => s.keyReplace arg
  | 8 => s.keyMove arg
  | _ => s.keyRefurbish

/-- SCAN_CMD by its OP. -/
def State.scanCmd (s : State) (op : Nat) : State :=
  match op with
  | 1 => s.cmdRun
  | 2 => s.cmdStop
  | 3 => s.cmdHold
  | 4 => s.cmdResume
  | 5 => s.cmdStep
  | 6 => s.cmdClearFault
  | _ => s.cmdCheck

/-- RESTR_CMD by its OP. -/
def State.restrCmd (s : State) (op : Nat) : Nat × State :=
  match op with
  | 1 => s.restrArm
  | 2 => s.restrDisarm
  | 3 => s.restrConfirm
  | 4 => s.restrVerify
  | _ => s.restrErase

/-- PWR_CMD by its OP (R433, R434). -/
def State.pwrCmd (s : State) (op : Nat) : State :=
  match op with
  | 1 => s.enterLevel 3
  | 2 => s.enterLevel 2
  | _ => s.park

/-- PWR_DOM_REQ (R428): answered BAD where the request is. -/
def State.pwrReq (s : State) (d t : Nat) : Nat × State :=
  (if s.dom d ≠ domChanging ∧ t ≠ s.dom d ∧ s.reqBad d t true then stBAD else stOK, s.domRequest d t true)

/-- What the written word `v` orders of the unit of block `b`: the WO fields of the register at `off`, element `i`. -/
def State.regAct (s : State) (req b off i v : Nat) (x : WriteMore) : Nat × State :=
  let at1 (n m : Nat) : Bool := b == n && off == m
  if at1 bSYS 0x00D4 then
    acted (if bits v 0 2 = 1 then s.firmwareRestart 7 else s.moduleResetFor .sysRestart)
  else if at1 bSYS 0x00D8 then acted (s.kick (bits v 0 16))
  else if at1 bPWR 0x0100 then s.pwrReq i (bits v 0 2)
  else if at1 bPWR 0x0404 then acted (s.pwrCmd (bits v 0 2))
  else if at1 bFRET 0x0100 then
    acted (if bitAt v 31 then (s.wr (F.FRET_PORT_STAT_PEAK i) 0).wr (F.FRET_PORT_STAT_NACK_CNT i) 0 else s)
  else if at1 bPEG 0x0000 then acted (s.flushQueue (bits v 0 20))
  else if at1 bPEG 0x003C then
    acted (if bitAt v 31 then s.wr F.PEG_FREE_MIN_MIN (s.rd F.PEG_CELL_FREE_FREE) else s)
  else if at1 bPEG 0x0044 then acted (if bitAt v 0 then s.pegAudit else s)
  else if at1 bMOVER 0x0108 then
    acted (match bits v 28 4 with | 1 => s.moverStart i | 2 => s.moverAbort i | _ => s.moverContinue i)
  else if at1 bFRAD 0x00C0 then acted (if bitAt v 0 then s.fradSnap req else s)
  else if at1 bNODE 0x001C then
    let g := bits v 16 5
    acted (match bits v 28 4 with
      | 1 => s.nodeAdmit req g | 2 => s.evict req | 3 => s.setGroup req g | _ => s.resendProfile req)
  else if at1 bGAUGE 0x0000 then acted (if bitAt v 1 then s.forceLatch else s)
  else if at1 bGAUGE 0x0020 then acted (if bitAt v 8 then s.gaugeSnap else s)
  else if at1 bSOUND 0x0018 then
    let f := bits v 0 4
    acted (match bits v 28 4 with
      | 1 => s.soundLearn f (bits v 4 1) (bits v 5 1)
      | 2 => s.soundDiscard f (bits v 4 1) (bits v 5 1)
      | _ => s.soundAccept (bits v 8 5))
  else if at1 bSCAN 0x0008 then acted (s.scanCmd (bits v 0 4))
  else if at1 bLAMP 0x0010 then
    acted (match bits v 28 4 with
      | 1 => s.clearLamp req | 2 => s.clearString (bits v 0 3) | 3 => s.clearMatrix | _ => s.clearAon (bits v 0 3))
  else if at1 bLAMP 0x0038 then acted (if bitAt v 0 then s.lampSnap else s)
  else if at1 bRINGA 0x0050 then acted (if bitAt v 0 then s.ringSnap 0 else s)
  else if at1 bRINGB 0x0050 then acted (if bitAt v 0 then s.ringSnap 1 else s)
  else if at1 bCAPO 0x000C then
    (match bits v 0 2 with
      | 1 => s.capoSwitch 0 x.n | 2 => s.capoSwitch 1 x.n | _ => s.retryGrant x.follows)
  else if at1 bTIME 0x0044 then (if bits v 0 2 = 1 then s.tb0Set req else s.tb0Adjust req)
  else if at1 bKEY 0x0004 then s.keyCmd (bits v 0 4) (bits v 8 6)
  else if at1 bKEY 0x001C then acted (s.keyStage v)
  else if at1 bRESTR 0x0010 then s.restrCmd (bits v 0 4)
  else if at1 bRESTR 0x0028 then s.feedCtrl (bits v 0 5) (bits v 16 16)
  else if at1 bRESTR 0x002C then acted (s.feedData v x.n)
  else if at1 bRESTR 0x0034 then
    (match bits v 28 4 with
      | 1 => s.nimgStart (bits v 24 4) (bits v 0 14) | 2 => s.nimgAbort (bits v 24 4) | _ => s.nimgErase (bits v 24 4))
  else if at1 bRESTR 0x0040 then acted (if bitAt v 0 then s.restrAudit req else s)
  else if at1 bREC 0x0000 then
    acted (if bits v 28 4 = 1 then s.sealPage (bits v 0 4) false 0 else s.sealAll)
  else if at1 bREC 0x0020 then acted (s.recFetch req (bitAt v 31) (bits v 24 4) (bits v 0 19))
  else if at1 bLEDGER 0x0000 then acted (s.ledgerSnap req (bits v 0 7))
  else acted s

/-- HCP_CTRL.EN is set to 1 again by the supervisor alone, which is port 0 (HCP_CTRL). -/
def State.hcpEnWord (s : State) (req a v : Nat) : Nat :=
  if a = 0x40110000 ∧ req ≠ 0 ∧ ¬ s.isSet F.HCP_CTRL_EN then setBit v 0 false else v

/-- An accepted write of `v` to register `r` at `a`: its fields, then what it orders. A register that acts as a whole
(PEG_QCFG, RTC_CTRL) has an operation of its own. -/
def State.applyWrite (s : State) (req a b : Nat) (r : RegDef) (ix : List Nat) (v : Nat) (x : WriteMore) : Nat × State :=
  let i := ix.headD 0
  if b = bRTC ∧ r.off = 0x0008 then acted (s.rtcHalt (bitAt v 0))
  else
    let t := if (b = bRINGA ∨ b = bRINGB) ∧ r.off = 0 ∧ ¬ bitAt v 0 then (s.ringLeave (b - bRINGA)).2 else s
    let t := t.putFields req a b r ix (t.hcpEnWord req a v)
    (t.afterWrite s req b r.off i).regAct req b r.off i v x

/-- A write of the 32-bit word `v` to address `a` by requester `req`: the status of R50 and the state after it (R13, R34,
R37, R41). An address that names no register is answered BAD over HCP alone. -/
def State.regWrite (s : State) (req a v : Nat) (x : WriteMore) : Nat × State :=
  if ¬ s.addrUp a then (refusedAs req, s)
  else if a % 4 ≠ 0 then (stBAD, s)
  else
    match regBlock a, lookupReg a with
    | some (b, off), some (r, ix) =>
      if b = bPEG ∧ off = 0x0008 then
        match s.qcfgWrite (s.rdReq req F.PEG_QSEL_QUEUE) v with
        | (true, t) => (stOK, t)
        | (false, _) => (stCFG, s.reject b off 3)
      else
        match s.writeReason req a b r ix v with
        | 0 => s.applyWrite req a b r ix v x
        | n => (stCFG, s.reject b off n)
    | some _, none => (if req < 32 then stOK else stBAD, s)
    | none, _ => (stBAD, s)

/-- A write of `size` octets (R37): other than 4, BAD with no effect. -/
def State.regWriteSized (s : State) (req a size v : Nat) (x : WriteMore) : Nat × State :=
  if ¬ s.addrUp a then (refusedAs req, s) else if size = 4 then s.regWrite req a v x else (stBAD, s)

/-- A write of `size` octets, its answer recorded. -/
def State.sizedWrite (s : State) (req a size v : Nat) : State :=
  match s.regWriteSized req a size v WriteMore.none with
  | (st, t) => t.answer req a st 0

/-- A register write of a command row, its answer recorded. -/
def State.rowWrite (s : State) (req a v : Nat) (x : WriteMore) : State :=
  match s.regWrite req a v x with
  | (st, t) => t.answer req a st 0

end Sys2Proof.Machine
end

