-- ==== Sys2Proof/Machine/Settle.lean ====
section
/-!
DEFINITION. Machine/Settle.lean: how a command ends. RUN of every block reads what its chapter says it reads, and the queue
of waiting commands is not the command's to change.
-/
namespace Sys2Proof.Machine

/-- RUN of block `b` as its chapter gives it: a block whose domain is not ON never runs (R39). FRET, SYS and IO have no
sentence of their own and run while their domains are ON (assumption 12). PEG and SLOT start and stop by an act of their
own (R137, spec/03) and SCAN by its mode (R288). -/
def State.runsAs (s : State) (b : Nat) : Bool :=
  match b with
  | 0 => s.isOn 49
  | 1 => s.islandOn
  | 2 => s.isOn 46 && s.isSet F.TUNE_CTRL_EN
  | 3 => s.isOn 16 && s.isOn 17
  | 4 => s.run 4 && s.allOn [18, 19, 20, 21, 22, 23]
  | 5 => s.isOn 40 && s.isSet F.MOVER_CTRL_EN
  | 6 => s.isOn 31 && s.isSet F.FPLC_FEEDER_EN_EN
  | 7 => s.isOn 31 && (List.range 4).any s.radioOn
  | 8 => s.field.started && s.isOn 31 && (s.isSet F.FPLC_FEEDER_EN_EN || (List.range 4).any s.radioOn)
  | 9 => s.isOn 39 && s.isSet F.SYM_CTRL_ENABLE && s.isSet F.SYM_GRAPH_STAT_N_VERTICES
  | 10 => s.isOn 36 && s.isSet F.GAUGE_CTRL_ENABLE
  | 11 => (s.isOn 37 || s.isOn 38) && s.isSet F.SOUND_CTRL_ENABLE
  | 12 => s.isOn 41 && (s.rd F.SCAN_MODE_MODE == 1 || s.rd F.SCAN_MODE_MODE == 2)
  | 13 => s.isOn 42 && s.isSet F.LAMP_CTRL_ENABLE
  | 14 => s.isOn 25 && s.isSet (F.RING_CTRL_EN 0)
  | 15 => s.isOn 26 && s.isSet (F.RING_CTRL_EN 1)
  | 16 => (s.isOn 25 && s.isSet (F.RING_CTRL_EN 0)) || (s.isOn 26 && s.isSet (F.RING_CTRL_EN 1))
  | 17 => s.isOn 43 && s.isSet F.HCP_CTRL_EN
  | 18 => s.isOn 45
  | 19 => s.islandOn
  | 20 => s.islandOn
  | 21 => s.isOn 44
  | 22 => s.isOn 44
  | 23 => s.isOn 49
  | 24 => s.isOn 49
  | _ => s.run b

/-- RUN of block `b` brought to what its chapter says. -/
def State.settleRun (s : State) (b : Nat) : State :=
  if s.run b = s.runsAs b then s else s.wrB (F.STATE_RUN b) (s.runsAs b)

/-- RUN of every block brought to what its chapter says. -/
def State.settle (s : State) : State := (List.range 26).foldl State.settleRun s

/-- The outcome of a command at `s` whose effect is `t`: the blocks settle, and the queue is as it was. -/
def finish (s t : State) : Host.Outcome State Fault Refusal := .next { t.settle with pending := s.pending }

end Sys2Proof.Machine
end

