-- ==== Sys2Proof/Machine/ExecField.lean ====
section
/-!
DEFINITION. Machine/ExecField.lean: the meanings of the commands of
the field network. Each is one act of its unit with the command's
operands; `finish` ends it.
-/
namespace Sys2Proof.Machine

/-- CARRIER_SUPERFRAME_BOUNDARY (R153). -/
def execCarrierBoundary (allocs : List (Fin 12 × Alloc)) (poisoned : List (BitVec 14))
    (s : State) : Host.Outcome State Fault Refusal :=
  finish s (s.carrierBoundary (allocs.map (fun a => (a.1.val, a.2))) (poisoned.map (·.toNat)))

/-- RADIO_SUPERFRAME_BOUNDARY (R155). -/
def execRadioBoundary (allocs : List (Fin 4 × Alloc)) (phyMbps : List (Fin 12 × Byte)) (poisoned : List (BitVec 14))
    (s : State) : Host.Outcome State Fault Refusal :=
  finish s (s.radioBoundary (allocs.map (fun a => (a.1.val, a.2))) (phyMbps.map (fun a => (a.1.val, a.2.toNat)))
    (poisoned.map (·.toNat)))

/-- SUPERFRAME_START (R161). -/
def execSuperframeStart (sinceOnMs : Nat) (validMs : Nat) (s : State) : Host.Outcome State Fault Refusal :=
  finish s (s.superframeStart sinceOnMs validMs)

/-- AIRTIME_RECORD (R168). -/
def execAirtimeRecord (sinceS : Nat) (s : State) : Host.Outcome State Fault Refusal :=
  finish s (s.airtimeRecord sinceS)

/-- FRAME_TRANSMIT (R156). -/
def execFrameTransmit (target : BitVec 14) (flow : Fin 32) (airUs : BitVec 32) (slotNo : Fin 80) (poison : Bool)
    (s : State) : Host.Outcome State Fault Refusal :=
  finish s (s.frameTransmit target.toNat flow.val airUs.toNat slotNo.val poison)

/-- END_OF_TRANSMISSION (R166). -/
def execEndOfTransmission (radio : Fin 4) (actualUs : BitVec 32) (s : State) : Host.Outcome State Fault Refusal :=
  finish s (s.endTx radio.val actualUs.toNat)

/-- AIRTIME_BUCKET_AGE (R166). -/
def execBucketAge (s : State) : Host.Outcome State Fault Refusal :=
  finish s s.bucketAge

/-- FRAD_SUBBAND_CFG (R167). -/
def execFradSubbandCfg (req : Fin 36) (band : Fin 5) (prioPct : Byte) (dutyCent : BitVec 16)
    (s : State) : Host.Outcome State Fault Refusal :=
  finish s (s.rowWrite req.val (0x40070020 + 4 * band.val) (prioPct.toNat * 2 ^ 16 + dutyCent.toNat) WriteMore.none)

/-- FRAD_AUDIT_SNAP (R165). -/
def execFradAuditSnap (req : Fin 36) (s : State) : Host.Outcome State Fault Refusal :=
  finish s (s.rowWrite req.val 0x400700C0 1 WriteMore.none)

/-- ACK_RECEIVED (R140). -/
def execAckReceived (medium : Byte) (rx : FieldRx) (s : State) : Host.Outcome State Fault Refusal :=
  finish s (s.ackReceived medium.toNat rx)

/-- ACK_TIMEOUT (R156). -/
def execAckTimeout (node : BitVec 14) (airUs : BitVec 32) (slotNo : Fin 80)
    (s : State) : Host.Outcome State Fault Refusal :=
  finish s (s.ackTimeout node.toNat airUs.toNat slotNo.val)

/-- DATA_FRAME_RECEIVED (R142). -/
def execDataFrameReceived (medium : Byte) (rx : FieldRx) (expected : Bool) (ackUs : BitVec 32) (slotNo : Fin 80)
    (s : State) : Host.Outcome State Fault Refusal :=
  finish s (s.dataFrame medium.toNat rx expected ackUs.toNat slotNo.val)

/-- EXPECTED_FRAME_MISSED (R174). -/
def execExpectedFrameMissed (node : BitVec 14) (s : State) : Host.Outcome State Fault Refusal :=
  finish s (s.frameMissed node.toNat)

/-- IMAGE_ENTRY_RECEIVED (R204). -/
def execImageEntryReceived (medium : Byte) (slotNo : Fin 80) (comb : Fin 8) (octets : List Byte) (clear : Option
    (BitVec 96)) (info : RxInfo) (s : State) : Host.Outcome State Fault Refusal :=
  finish s (s.imageEntry medium.toNat slotNo.val comb.val octets clear info)

/-- SLEEP (R171). -/
def execNodeSleep (medium : Byte) (rx : FieldRx) (ackUs : BitVec 32) (slotNo : Fin 80)
    (s : State) : Host.Outcome State Fault Refusal :=
  finish s (s.nodeSleep medium.toNat rx ackUs.toNat slotNo.val)

/-- FLOOR_RECORD_WRITTEN (R160). -/
def execFloorRecordWritten (node : BitVec 14) (up : Bool) (role : Fin 4)
    (s : State) : Host.Outcome State Fault Refusal :=
  finish s (s.floorWritten node.toNat up role.val)

/-- MOVE_RETRY (R456). -/
def execMoveRetry (node : BitVec 14) (sinceS : Nat) (s : State) : Host.Outcome State Fault Refusal :=
  finish s (s.moveRetry node.toNat sinceS)

end Sys2Proof.Machine
end

