-- ==== Sys2Proof/Machine/RegRead.lean ====
section
/-!
DEFINITION. Machine/RegRead.lean: a register read (R8, R13, R34, R37, R38, R40): fields kept per requester, the VIEW of a
shadow, and the registers whose words a unit keeps elsewhere or latches for the requester.
-/
namespace Sys2Proof.Machine

/-- The registers that hold a 64-bit value (R38): block, offset of the low word, stride, elements. -/
def pairs64 : List (Nat × Nat × Nat × Nat) :=
  [(bPWR, 0x040C, 8, 1), (bPWR, 0x0420, 8, 1), (bMOVER, 0x0100, 32, 32), (bMOVER, 0x0110, 32, 32), (bFPLC, 0x0010, 8, 1),
   (bGAUGE, 0x0010, 8, 1), (bGAUGE, 0x0440, 8, 16), (bGAUGE, 0x0540, 8, 16), (bGAUGE, 0x0740, 8, 4), (bCAPO, 0x0018, 8, 1),
   (bCAPO, 0x0024, 8, 1), (bTIME, 0x0078, 8, 1), (bTIME, 0x0088, 8, 1), (bRTC, 0x0000, 8, 1), (bRESTR, 0x0018, 8, 1),
   (bLEDGER, 0x0008, 8, 1)]

/-- Offset `off` of block `b` is the low word of such a pair. -/
def pairLow (b off : Nat) : Bool :=
  pairs64.any (fun p => p.1 == b && decide (p.2.1 ≤ off) && (off - p.2.1) % p.2.2.1 == 0 &&
    decide ((off - p.2.1) / p.2.2.1 < p.2.2.2))

/-- Offset `off` of block `b` is the high word of such a pair. -/
def pairHigh (b off : Nat) : Bool := decide (4 ≤ off) && pairLow b (off - 4)

/-- Words latched for requester `req`, each under its register's address. -/
def State.latch (s : State) (req : Nat) (l : List (Nat × Nat)) : State :=
  { s with latches := l.foldl (fun m e => m.set (reqKey req e.1) e.2) s.latches }

/-- What is latched for requester `req` under address `a`; `now` where nothing is. -/
def State.latched (s : State) (req a now : Nat) : Nat := s.latches.get (reqKey req a) now

/-- Read-only fields a unit keeps per requester. -/
def statPerReq (b off lo : Nat) : Bool :=
  (b == bRESTR && off == 0x0044) || (b == bREC && off == 0x0024) || (b == bLEDGER && (off == 0x0100 || (off == 0x0010 && lo == 0)))

/-- The value of one field as requester `req` reads it. -/
def State.fieldValue (s : State) (req a b off : Nat) (ix : List Nat) (f : FieldDef) : Nat :=
  let g := s.fieldFor req a ix f
  if f.acc = .wo then 0
  else if f.perReq || statPerReq b off f.lo then s.rdReq req g
  else if f.tag = .h ∧ s.rdReq req (F.SHADOW_VIEW b) ≠ 0 then s.shadow.get g.key (s.rd g)
  else s.rd g

/-- The fields of register `r` put together. -/
def State.plainWord (s : State) (req a b : Nat) (r : RegDef) (ix : List Nat) : Nat :=
  r.flds.foldl (fun v f => setBits v f.lo f.width (s.fieldValue req a b r.off ix f)) 0

/-- PEG_QCFG of the queue requester `req` selects; under VIEW, its shadow entry (R532). -/
def State.qcfgWord (s : State) (req : Nat) : Nat :=
  let q := s.rdReq req F.PEG_QSEL_QUEUE
  let d := s.desc q
  let e : QShadow := match s.peg.qshadow.find q with
    | some e => if s.rdReq req (F.SHADOW_VIEW bPEG) ≠ 0 then e else ⟨d.profile, d.consumer, d.notifyEn⟩
    | none => ⟨d.profile, d.consumer, d.notifyEn⟩
  b2n d.poisonSeen * 2 ^ 12 + b2n d.dropSeen * 2 ^ 11 + e.profile % 16 * 2 ^ 7 + e.consumer % 32 * 4 + b2n e.notifyEn * 2 +
    b2n d.enable

/-- PEG_CTX_BITMAP word `w` of the port requester `req` selects. -/
def State.ctxBitmap (s : State) (req w : Nat) : Nat :=
  let p := s.rdReq req F.PEG_CTX_SEL_PORT
  ((List.range 32).map (fun i => b2n (s.ctx p (32 * w + i)).isSome * 2 ^ i)).sum

/-- RESTR_NIMG_STAT of the entry requester `req` selects. -/
def State.nimgWord (s : State) (req : Nat) : Nat :=
  let e := s.rdReq req F.RESTR_NIMG_SEL_ENTRY
  let (round, done) := match s.restr.dist with
    | some d => if d.entry = e then (d.round, d.done.length) else s.restr.distLast.get e (0, 0)
    | none => s.restr.distLast.get e (0, 0)
  s.nimgState e + round % 256 * 2 ^ 8 + done % 2 ^ 14 * 2 ^ 18

/-- The word of register `r` at `a` as requester `req` reads it, and the latches the read sets. -/
def State.readWord (s : State) (req a b off : Nat) (r : RegDef) (ix : List Nat) : Nat × State :=
  let i := ix.headD 0
  let j := ix.getD 1 0
  let w := s.plainWord req a b r ix
  let at1 (n m : Nat) : Bool := b == n && r.off == m
  if off = 0xFF04 then
    (setBit w 8 (s.pendingIn b || (b == bPEG && s.peg.qshadow != [])), s)
  else if at1 bFRET 0xFF0C then (s.rd F.FRET_CFG_REJECT_COUNT, s)
  else if at1 bPEG 0x0008 then (s.qcfgWord req, s)
  else if at1 bPEG 0x0010 then
    let d := (s.desc (s.rdReq req F.PEG_QSEL_QUEUE)).word128
    if i = 0 then (bits d 0 32, s.latch req ([1, 2, 3].map (fun k => (a + 4 * k, bits d (32 * k) 32))))
    else (s.latched req a (bits d (32 * i) 32), s)
  else if at1 bPEG 0x0064 then (s.ctxBitmap req i, s)
  else if at1 bFRAD 0x0040 then (s.latched req a w, s)
  else if at1 bSYM 0x0030 then s.symVstat req i
  else if at1 bGAUGE 0x0024 then (s.gaugeAudit req i, s)
  else if at1 bGAUGE 0x1000 then s.gaugeQRead req i j
  else if at1 bSOUND 0x0800 then
    if j = 0 then (w, s.latch req ([1, 2, 3].map (fun k => (a + 4 * k, s.word (a + 4 * k)))))
    else (s.latched req a w, s)
  else if at1 bLAMP 0x0028 then
    let id := s.rdReq req F.LAMP_LSEL_ID
    if i = 0 then (s.lstatWord id 0, s.latch req ([1, 2, 3].map (fun k => (a + 4 * k, s.lstatWord id k))))
    else (s.latched req a (s.lstatWord id i), s)
  else if at1 bTIME 0x0000 then
    (w, s.latch req ([4, 8, 12].map (fun k => (a + k, s.word (a + k)))))
  else if at1 bTIME 0x0004 then (s.latched req a w, s)
  else if at1 bTIME 0x0008 then
    match s.latches.find (reqKey req a) with
    | some v => (v, s)
    | none => (w, s.latch req [(a + 4, s.word (a + 4))])
  else if at1 bTIME 0x000C then (s.latched req a w, s)
  else if at1 bHCP 0x0004 then (setBit w 0 s.isGateway, s)
  else if at1 bRESTR 0x003C then (s.nimgWord req, s)
  else if at1 bRESTR 0x0100 then (s.restrBitmap req i, s)
  else if at1 bREC 0x001C then (min 55 (s.rdMem 0x00794000 4), s)
  else if pairLow b off then (w, s.latch req [(a + 4, s.word (a + 4))])
  else if pairHigh b off then (s.latched req a w, s)
  else (w, s)

/-- A read of address `a` by requester `req`: status of R50, value, and the state after it. -/
def State.regRead (s : State) (req a : Nat) : Nat × Nat × State :=
  if ¬ s.addrUp a then (refusedAs req, 0, s)
  else if a % 4 ≠ 0 then (stBAD, 0, s)
  else
    match regBlock a, lookupReg a with
    | some (b, off), some (r, ix) =>
      match s.readWord req a b off r ix with
      | (v, t) => (stOK, v, t)
    | some _, none => (if req < 32 then stOK else stBAD, 0, s)
    | none, _ => (stBAD, 0, s)

/-- A register read of a command row, its answer recorded. -/
def State.rowRead (s : State) (req a : Nat) : State :=
  match s.regRead req a with
  | (st, v, t) => t.answer req a st v

end Sys2Proof.Machine
end

