-- ==== Sys2Proof/Machine/ExecGauge.lean ====
section
/-!
DEFINITION. Machine/ExecGauge.lean: the meanings of the commands of
the Gauge. Each is one act of its unit with the command's
operands; `finish` ends it.
-/
namespace Sys2Proof.Machine

/-- ESTIMATE_UPDATE (R254). -/
def execEstimateUpdate (node : BitVec 14) (poison : Bool) (s : State) : Host.Outcome State Fault Refusal :=
  finish s (s.estimateUpdate node.toNat poison)

/-- GAUGE_SAMPLE (R243). -/
def execGaugeSample (x : GaugeSample) (s : State) : Host.Outcome State Fault Refusal :=
  finish s (s.gaugeSample x)

/-- LINE_CYCLE_BOUNDARY (R247). -/
def execLineCycleBoundary (x : GaugeSample) (c : LineCycle) (s : State) : Host.Outcome State Fault Refusal :=
  finish s (s.lineCycleBoundary x c)

/-- FORCE_LATCH (R247). -/
def execForceLatch (req : Fin 36) (s : State) : Host.Outcome State Fault Refusal :=
  finish s (s.rowWrite req.val 0x400A0000 (2 + s.rd F.GAUGE_CTRL_ENABLE) WriteMore.none)

/-- LATCH_STORE (R250). -/
def execLatchStore (sinceMin : Nat) (s : State) : Host.Outcome State Fault Refusal :=
  finish s (s.latchStore sinceMin)

/-- GAUGE_STOP (R256). -/
def execGaugeStop (req : Fin 36) (s : State) : Host.Outcome State Fault Refusal :=
  finish s (s.rowWrite req.val 0x400A0000 0 WriteMore.none)

/-- S0_OUTPUT_PULSE (R251). -/
def execS0OutputPulse (k : Fin 4) (sinceMs : Nat) (s : State) : Host.Outcome State Fault Refusal :=
  finish s (s.s0Pulse k.val sinceMs)

/-- S0_INPUT_EDGE (R252). -/
def execS0InputEdge (k : Fin 4) (active : Bool) (phaseMs : Nat) (s : State) : Host.Outcome State Fault Refusal :=
  finish s (s.s0Edge k.val active phaseMs)

/-- PULSE_STUCK (R252). -/
def execPulseStuck (k : Fin 4) (activeMs : Nat) (s : State) : Host.Outcome State Fault Refusal :=
  finish s (s.pulseStuck k.val activeMs)

/-- DEVIATION_WINDOW (R253). -/
def execDeviationWindow (s : State) : Host.Outcome State Fault Refusal :=
  finish s s.deviationWindow

/-- GAUGE_AUDIT_SNAP (R245). -/
def execGaugeAuditSnap (req : Fin 36) (s : State) : Host.Outcome State Fault Refusal :=
  finish s (s.rowWrite req.val 0x400A0020 (2 ^ 8 + s.rdReq req.val F.GAUGE_AUDIT_CTRL_Q) WriteMore.none)

/-- GAUGE_Q_READ (R245). -/
def execGaugeQRead (req : Fin 36) (q : Fin 128) (s : State) : Host.Outcome State Fault Refusal :=
  finish s (s.rowRead req.val (0x400A1000 + 16 * q.val))

end Sys2Proof.Machine
end

