-- ==== Sys2Proof/Machine/MoverData.lean ====
section
/-!
DEFINITION. Machine/MoverData.lean: the bulk mover's accesses to the address space (R415 to R420): what a Fretboard source
reads and writes at an address, one write unit of a COPY or GATHER at a time, and queue packets as one burst.
-/
namespace Sys2Proof.Machine

/-! ## The address space as a Fretboard source meets it -/

/-- The address lies in a range of R33. -/
def inMap (a : Nat) : Bool :=
  [(0x00000000, 0x00800000), (0x01000000, 0x01800000), (0x02000000, 0x02200000), (0x03000000, 0x03100000),
   (0x04000000, 0x04100000), (0x08000000, 0x08010000), (0x40000000, 0x401A0000), (0x50000000, 0x51000000),
   (0x60000000, 0x62000000), (0x70000000, 0x72000000), (0x80000000, 0x100000000), (0x100000000, 0x300000000)].any
    (fun r => decide (r.1 ≤ a ∧ a < r.2))

/-- Octet `o` of Primer bank `k`: header sector and body (R91); what is not programmed reads 0xFF. -/
def State.primerOctet (s : State) (k o : Nat) : Byte :=
  match s.slot.primer with
  | none => 0xFF
  | some d =>
    let b := PrimerBank.of d k
    match b.hdr with
    | none => 0xFF
    | some h =>
      if o < 4096 then (primerHead h ++ octetsBE 96 h.sig.toNat).getD o 0xFF
      else (bodyBytes h.format.toNat b.body).getD (o - 4096) 0xFF

/-- `n` octets from `a` up, as a read returns them: descriptors in the queue store window, the Primer's octets in its
window, else the memory. -/
def State.busOctets (s : State) (a n : Nat) : List Byte :=
  if 0x50000000 ≤ a ∧ a < 0x51000000 then
    (List.range n).map (fun i =>
      let o := a + i - 0x50000000
      BitVec.ofNat 8 (bits (s.desc (o / 16)).word128 (8 * (o % 16)) 8))
  else if 0x70000000 ≤ a ∧ a < 0x72000000 then
    (List.range n).map (fun i =>
      let o := a + i - 0x70000000
      s.primerOctet (o / 0x1000000) (o % 0x1000000))
  else s.mem.readN a n

/-- Both ends of an access are reached (R34). -/
def State.reached (s : State) (a n : Nat) : Bool := s.addrUp a && s.addrUp (a + n - 1)

/-- A read of `n` octets at `a` by the mover: its REASON of R418, 0 where it is good. -/
def State.busGet (s : State) (a n : Nat) : Nat × List Byte × State :=
  if ¬ s.reached a n then (0x2, [], s)
  else if inRegBlocks a n then
    if n ≠ 4 then (0x3, [], s)
    else match s.regRead 30 a with
      | (st, v, t) => (if st = stBAD then 0x3 else 0, octetsLE 4 v, t)
  else (0, s.busOctets a n, s)

/-- A write of the octets `l` at `a` by the mover: its REASON of R418, 0 where it is acknowledged. The node table is read only to a
Fretboard source (R179). -/
def State.busPut (s : State) (a : Nat) (l : List Byte) : Nat × State :=
  if ¬ inMap a then (0x3, s)
  else if ¬ s.reached a l.length then (0x2, s)
  else if inRegBlocks a l.length then
    if l.length ≠ 4 then (0x3, s)
    else match s.regWrite 30 a (ofOctetsLE l) WriteMore.none with
      | (st, t) => (if st = stBAD then 0x3 else 0, t)
  else if readOnlyWindow a ∨ a < 0x400000 then (0x3, s)
  else (0, (s.wrOctets a l).progTouched a l.length)

/-! ## Write units (R415, R416) -/

/-- The largest naturally aligned write at `a` of at most `left` octets: a whole word, or 32 to 1. -/
def naturalUnit (a left : Nat) : Nat :=
  if a % 64 = 0 ∧ 64 ≤ left then 64
  else ([32, 16, 8, 4, 2].find? (fun w => decide (a % w = 0 ∧ w ≤ left))).getD 1

/-- The size of the next write at `a` of descriptor `d` with `left` octets to go. -/
def unitSize (d a left : Nat) : Nat :=
  if MvDesc.typ d = MvDesc.tGather then MvDesc.esize d
  else if MvDesc.funnel d then naturalUnit a left
  else min left (MvDesc.width d)

/-- Octets written from `a` up in the units of descriptor `d`, until one draws a bad answer: REASON and octets written. -/
def State.putUnits (s : State) (d : Nat) : Nat → Nat → List Byte → Nat → Nat × Nat × State
  | 0, _, _, n => (0, n, s)
  | fuel + 1, a, l, n =>
    if l = [] then (0, n, s)
    else
      let w := unitSize d a l.length
      match s.busPut a (l.take w) with
      | (0, t) => State.putUnits t d fuel (a + w) (l.drop w) (n + w)
      | (r, t) => (r, n, t)

/-- Octets read from `a` up in accesses of `w` octets, until one draws a bad answer. -/
def State.getUnits (s : State) (w : Nat) : Nat → Nat → Nat → List Byte → Nat × List Byte × State
  | 0, _, _, acc => (0, acc, s)
  | fuel + 1, a, left, acc =>
    if left = 0 then (0, acc, s)
    else
      let n := min left (if inRegBlocks a 1 then w else 64 - a % 64)
      match s.busGet a n with
      | (0, l, t) => State.getUnits t w fuel (a + n) (left - n) (acc ++ l)
      | (r, _, t) => (r, [], t)

/-! ## The next access of a channel -/

/-- The bus error of R418 with this REASON. -/
def State.moverError (s : State) (c reason : Nat) : State :=
  s.moverEnd c (if reason = 0x4 then stTIMEOUT else if reason = 0x5 then stPOISON else stBAD) reason

/-- TO_QUEUE: the source as one packet (R420). -/
def State.toQueue (s : State) (c d : Nat) (poison : Bool) : State :=
  let n := MvDesc.len d
  match s.getUnits (MvDesc.width d) n (MvDesc.src d) n [] with
  | (0, l, s) =>
    if poison then s.moverError c 0x5
    else
      match s.pegPut 30 (MvDesc.dst d % 2 ^ 20) (MvDesc.exp d) l with
      | ((st, _), s) =>
        if st = stOK then (s.setChan c { s.chan c with moved := n }).moverEnd c stOK 0 else s.moverEnd c st 0x6
  | (r, _, s) => s.moverError c r

/-- FROM_QUEUE: the head packet claimed, written, released (R420). -/
def State.fromQueue (s : State) (c d : Nat) (poison : Bool) : State :=
  let q := MvDesc.src d % 2 ^ 20
  let n := MvDesc.len d
  if ¬ s.pegRuns then s.moverError c 0x2
  else if (s.desc q).claimed ∨ ¬ s.claimRoom 30 then s.moverEnd c stBAD 0x6
  else if ¬ s.hasPacket q then s.moverEnd c stOK 0
  else
    match s.claim q 30 with
    | (cl, s) =>
      if poison then ((s.poisonedRead cl).releaseClaim cl).moverError c 0x5
      else
        let l := s.claimOctets cl
        match s.putUnits d (l.length + 1) (MvDesc.dst d) (l.take n) 0 with
        | (r, m, s) =>
          let s := (s.releaseClaim cl).setChan c { s.chan c with moved := m }
          if r ≠ 0 then s.moverError c r
          else if n < cl.len then s.moverEnd c stBAD 0x8
          else s.moverEnd c stOK 0

/-- The address the next element or octets come from: for a GATHER, its offset read from INDEX (R419). -/
def State.moverFrom (s : State) (d moved : Nat) : Nat × Nat × State :=
  if MvDesc.typ d = MvDesc.tGather then
    match s.busGet (MvDesc.index d + 4 * (moved / MvDesc.esize d)) 4 with
    | (r, l, t) => (r, MvDesc.src d + ofOctetsLE l, t)
  else (0, MvDesc.src d + moved, s)

/-- COPY and GATHER: one write unit (R415, R416, R419). -/
def State.moveUnit (s : State) (c d : Nat) (poison : Bool) : State :=
  let x := s.chan c
  let dst := MvDesc.dst d + x.moved
  let n := unitSize d dst (min (MvDesc.len d - x.moved) x.burst)
  match s.moverFrom d x.moved with
  | (0, src, s) =>
    if MvDesc.typ d = MvDesc.tGather ∧ ¬ MvDesc.funnel d ∧ src % n ≠ 0 then s.moverEnd c stBAD 0x1
    else if MvDesc.funnel d ∧ inRegBlocks src n then s.moverEnd c stBAD 0xA
    else
      match s.busGet src n with
      | (0, l, s) =>
        if poison then s.moverError c 0x5
        else
          match s.busPut dst l with
          | (0, s) =>
            let x := { s.chan c with moved := x.moved + n, burst := x.burst - n }
            let s := s.setChan c x
            if MvDesc.len d ≤ x.moved then s.moverEnd c stOK 0
            else if x.burst = 0 then s.moverBurst c
            else { s with mvTurn := ⟨c, some c⟩ }
          | (r, s) => s.moverError c r
      | (r, _, s) => s.moverError c r
  | (r, _, s) => s.moverError c r

/-- MOVER_ACCESS_RESPONSE: the next access of channel `c` answered; `poison` where its data carried a POISON bit (R418). Only the
channel whose turn it is has an access out (R422). -/
def State.moverAccess (s : State) (c : Nat) (poison : Bool) : State :=
  if ¬ s.moverRuns ∨ (s.chan c).phase ≠ .run ∨ s.moverNext ≠ some c then s
  else
    let s := { s with mvTurn := ⟨c, none⟩ }
    let d := (s.chan c).desc
    if MvDesc.typ d = MvDesc.tToQueue then s.toQueue c d poison
    else if MvDesc.typ d = MvDesc.tFromQueue then s.fromQueue c d poison
    else s.moveUnit c d poison

/-- DESCRIPTOR_FETCHED: the 64 octets at CUR (R412). -/
def State.moverFetched (s : State) (c : Nat) (poison : Bool) : State :=
  s.descriptorFetched c (ofOctetsLE (s.busOctets (s.moverCur c) 64)) poison

end Sys2Proof.Machine
end

