-- ==== Sys2Proof/Machine/Hcp.lean ====
section
/-!
DEFINITION. Machine/Hcp.lean: the Head-end Control Protocol (R365 to R383): sessions and transaction IDs, register and
block access, control transfers, Primer write-back, events, forwarding at the gateway, link loss.
-/
namespace Sys2Proof.Machine

def State.setHcp (s : State) (h : HcpState) : State := { s with hcp := h }
def State.hcpCnt (s : State) (i : Nat) : State := s.inc (F.HCP_CNT_COUNT i)

/-! ## Messages (R367, R368) -/

/-- The TYPE codes of R368. -/
def tHELLO : Nat := 0x01
def tRESET : Nat := 0x02
def tREG_READ : Nat := 0x03
def tREG_WRITE : Nat := 0x04
def tBLOCK_READ : Nat := 0x05
def tBLOCK_WRITE : Nat := 0x06
def tCT_SEGMENT : Nat := 0x07
def tCT_ABORT : Nat := 0x08
def tEVENT : Nat := 0x09
def tEVENT_ACK : Nat := 0x0A
def tPRIMER_DIGEST : Nat := 0x0B
def tPRIMER_WB : Nat := 0x0C

/-- The octets of a message: its header of 12 octets and its payload (R367). -/
def hcpOctets (resp dup lost : Bool) (typ tid module session status : Nat) (payload : List Byte) : List Byte :=
  octetsBE 1 (16 + b2n resp * 8 + b2n dup * 4 + b2n lost * 2) ++ octetsBE 1 typ ++ octetsBE 2 tid ++ octetsBE 2 module ++
    octetsBE 1 session ++ octetsBE 1 status ++ octetsBE 2 payload.length ++ octetsBE 2 0 ++ payload

/-- A message put on the TC 1 queue of the ring for module `dst`, to its queue 1,044,480 + `ofs` (R383). -/
def State.hcpRing (s : State) (dst : Nat) (bcast : Bool) (ofs : Nat) (m : List Byte) : State :=
  (s.pegPut 31 1046529 false (ringOctets ⟨0, 0, ringType, 1, 1, false, bcast, .ofNat 14 dst, 0, 0, 0, 0, .ofNat 12 ofs, m⟩)).2

/-- The module ID of the gateway, where the ring has one. -/
def State.gatewayId (s : State) : Option Nat :=
  if s.isSet F.CAPO_GATEWAY_VALID then some (s.moduleId / 64 * 64 + s.rd F.CAPO_GATEWAY_POSITION) else none

/-- A response sent where the request came from: the association, or the gateway's queue 1,046,593. -/
def State.hcpAnswer (s : State) (h : HcpHdr) (typ status : Nat) (dup : Bool) (payload : List Byte) : State :=
  if h.ring then
    match s.gatewayId with
    | some g => s.hcpRing g false 2113 (hcpOctets true dup false typ h.tid.toNat s.moduleId h.session.val status payload)
    | none => s
  else s.emit (.hcp h.session.val h.tid.toNat typ status dup payload)

/-- The packet at the head of HCP queue `q` taken by port 31. -/
def State.takeQueued (s : State) (q : Nat) : State :=
  match s.heldClaim 31 q with
  | some cl => s.releaseClaim cl
  | none =>
    if s.pegRuns ∧ ¬ (s.desc q).claimed ∧ s.hasPacket q ∧ s.claimRoom 31 then
      match s.claim q 31 with
      | (cl, s) => s.releaseClaim cl
    else s

/-- Precedence of a status code (R50). -/
def precedence (st : Nat) : Nat := [5, 4, 7, 2, 3, 1, 6, 9, 8].findIdx (· == st)

/-- The code with the lowest precedence number; OK for none. -/
def worst (l : List Nat) : Nat := l.foldl (fun a b => if precedence b < precedence a then b else a) stOK

/-! ## Transaction IDs (R370) -/

/-- What the window says of a request. -/
inductive TidVerdict where
  | run
  | dup (status : Nat)
  | stale
  deriving DecidableEq, Repr

/-- The requests that execute again. -/
def reExecutes (typ : Nat) : Bool := typ == tREG_READ || typ == tBLOCK_READ || typ == tPRIMER_DIGEST

/-- TID `t` of session `k` judged against its window. -/
def State.tidJudge (s : State) (k typ t : Nat) : TidVerdict :=
  match s.hcp.wins.find k with
  | none => .run
  | some w =>
    if newer 16 t w.last then .run
    else if (w.last + 65536 - t) % 65536 < 256 then
      match w.recs.find t with
      | some st => if reExecutes typ then .run else .dup st
      | none => .stale
    else .stale

/-- `t` accepted: it becomes the last accepted TID where it is newer. -/
def State.tidAccept (s : State) (k t : Nat) : State :=
  let isNew := match s.hcp.wins.find k with
    | some w => newer 16 t w.last
    | none => true
  if isNew then
    let recs := match s.hcp.wins.find k with
      | some w => w.recs.drop (fun u => decide (256 ≤ (t + 65536 - u) % 65536))
      | none => []
    (s.setHcp { s.hcp with wins := s.hcp.wins.set k ⟨t, recs⟩ }).wr (F.HCP_SESSION_STAT_LAST_TID k) t
  else s

/-- The STATUS of `t` recorded. -/
def State.tidRecord (s : State) (k t status : Nat) : State :=
  match s.hcp.wins.find k with
  | some w => s.setHcp { s.hcp with wins := s.hcp.wins.set k { w with recs := w.recs.set t status } }
  | none => s

/-! ## Serving (R369, R371, R452) -/

/-- The end of a request: the commit point of R36, and RUN. -/
def State.hcpEnd (s : State) : State :=
  if s.isOn 43 then
    let s := s.commit bHCP
    s.wrB (F.STATE_RUN bHCP) (s.isSet F.HCP_CTRL_EN)
  else s

/-- The request can still be answered: HCP runs, and its association stands. -/
def State.hcpOpen (s : State) (h : HcpHdr) : Bool :=
  s.run bHCP && (h.ring || (s.hcp.assoc.find h.session.val).isSome)

/-- A request executed by `act` (status, payload, state after), counted, recorded where it has a TID to record, and
answered. -/
def State.hcpRun (s : State) (h : HcpHdr) (typ : Nat) (act : State → Nat × List Byte × State) : State :=
  match act (s.hcpCnt 0) with
  | (st, pl, t) =>
    if t.hcpOpen h then
      (if typ = tHELLO then t else t.tidRecord h.session.val h.tid.toNat st).hcpAnswer h typ st false pl
    else t

/-- A request of TYPE `typ` served; `ok` where its payload has the form of R368. -/
def State.hcpServe (s : State) (h : HcpHdr) (typ : Nat) (ok : Bool) (act : State → Nat × List Byte × State) : State :=
  if ¬ s.hcpOpen h then s
  else
    let k := h.session.val
    let t := h.tid.toNat
    let s := if h.ring then s.takeQueued 1046592 else s
    let first := !h.ring && !(s.hcp.assoc.get k false) && typ != tHELLO
    let noRoot := !s.rootPresent && typ != tHELLO && typ != tREG_READ && typ != tREG_WRITE
    let s :=
      if ¬ ok ∨ first ∨ noRoot then s.hcpAnswer h typ stBAD false []
      else if typ = tHELLO then s.hcpRun h typ act
      else
        match s.tidJudge k typ t with
        | .run => (s.tidAccept k t).hcpRun h typ act
        | .dup st => (s.hcpCnt 1).hcpAnswer h typ st true []
        | .stale => (s.hcpCnt 2).hcpAnswer h typ stBAD false []
    s.hcpEnd

/-- HELLO (R369). -/
def State.hcpHello (s : State) (h : HcpHdr) (clearTid : Bool) : State :=
  let k := h.session.val
  s.hcpServe h tHELLO true (fun s =>
    let s := if clearTid then s.setHcp { s.hcp with wins := s.hcp.wins.erase k } else s
    let s := if h.ring then s
      else (s.setHcp { s.hcp with assoc := s.hcp.assoc.set k true }).wr (F.HCP_SESSION_STAT_BOUND k) 1
    (stOK, octetsBE 2 (s.rd F.SYS_ID_PART) ++ octetsBE 2 (s.rd F.SYS_ID_STEP) ++ octetsBE 2 s.moduleId ++
      octetsBE 2 (s.rd (F.HCP_SESSION_STAT_LAST_TID k)), s))

/-! ## Register and block access (R48, R372) -/

/-- An address of the KEY block. -/
def keyAddr (a : Nat) : Bool := decide (blockBase bKEY ≤ a ∧ a < blockBase bKEY + 0x10000)

/-- REG_READ (R372): its items in order; each gives VALUE, STATUS and three octets of 0. -/
def State.hcpRegRead (s : State) (h : HcpHdr) (addrs : List Nat) : State :=
  s.hcpServe h tREG_READ (decide (1 ≤ addrs.length ∧ addrs.length ≤ 64)) (fun s =>
    let one := fun (r : List Nat × List Byte × State) (a : Nat) =>
      match r with
      | (sts, pl, s) =>
        match s.regRead (32 + h.session.val) a with
        | (st, v, s) => (sts ++ [st], pl ++ octetsBE 4 v ++ octetsBE 1 st ++ octetsBE 3 0, s)
    match addrs.foldl one ([], [], s) with
    | (sts, pl, s) => (worst sts, pl, s))

/-- REG_WRITE (R372); while no root is present, items outside the KEY block are BAD (R452). -/
def State.hcpRegWrite (s : State) (h : HcpHdr) (items : List (Nat × Nat)) : State :=
  s.hcpServe h tREG_WRITE (decide (1 ≤ items.length ∧ items.length ≤ 64)) (fun s =>
    let one := fun (r : List Nat × State) (i : Nat × Nat) =>
      match r with
      | (sts, s) =>
        if ¬ s.rootPresent ∧ ¬ keyAddr i.1 then (sts ++ [stBAD], s)
        else match s.regWrite (32 + h.session.val) i.1 i.2 WriteMore.none with
          | (st, s) => (sts ++ [st], s)
    match items.foldl one ([], s) with
    | (sts, s) => (worst sts, sts.flatMap (octetsBE 1), s))

/-- The ranges HCP block reads reach (R48). -/
def blockReadable (a n : Nat) : Bool :=
  [(0x00000000, 0x00800000), (0x08000000, 0x08010000), (0x02000000, 0x02200000), (0x100000000, 0x300000000)].any
    (fun r => decide (r.1 ≤ a ∧ a + n ≤ r.2))

/-- BLOCK_READ (R48, R372). -/
def State.hcpBlockRead (s : State) (h : HcpHdr) (addr count : Nat) : State :=
  s.hcpServe h tBLOCK_READ (decide (1 ≤ count ∧ count ≤ 1024)) (fun s =>
    let a := addr % 2 ^ 40
    if blockReadable a count ∧ s.reached a count then (stOK, s.busOctets a count, s) else (stBAD, [], s))

/-- BLOCK_WRITE (R48, R372): the scan program and scan data areas, while SCAN_STATE.RUN is 0. -/
def State.hcpBlockWrite (s : State) (h : HcpHdr) (addr : Nat) (data : List Byte) : State :=
  s.hcpServe h tBLOCK_WRITE (decide (1 ≤ data.length ∧ data.length ≤ 1024)) (fun s =>
    let a := addr % 2 ^ 40
    if 0x400000 ≤ a ∧ a + data.length ≤ 0x600000 ∧ s.reached a data.length ∧ ¬ s.run bSCAN then
      (stOK, [], (s.wrOctets a data).progTouched a data.length)
    else (stBAD, [], s))

/-! ## Control transfers (R373 to R376) -/

/-- The session's area of bulk memory (R373). -/
def sessionArea (k : Nat) : Nat := 0x2F0000000 + 0x400000 * k

/-- The open transfer of session `k` set, STAGED_PCT with it. -/
def State.setXfer (s : State) (k : Nat) (x : Option Transfer) : State :=
  match x with
  | some t =>
    (s.setHcp { s.hcp with xfers := s.hcp.xfers.set k t }).wr (F.HCP_SESSION_STAT_STAGED_PCT k)
      (100 * t.data.length / t.total)
  | none => (s.setHcp { s.hcp with xfers := s.hcp.xfers.erase k }).wr (F.HCP_SESSION_STAT_STAGED_PCT k) 0

/-- The items of a REG_BATCH: address and value (R375). -/
def batchItems : Nat → List Byte → List (Nat × Nat)
  | 0, _ => []
  | n + 1, l => (beAt l 0 4, beAt l 4 4) :: batchItems n (l.drop 8)

/-- What a register write by session `k` would be answered, against the present state (R375). -/
def State.wouldAnswer (s : State) (k a v : Nat) : Nat :=
  if ¬ s.addrUp a ∨ a % 4 ≠ 0 then stBAD
  else
    match regBlock a, lookupReg a with
    | some (b, _), some (r, ix) =>
      if b = bPEG ∧ r.off = 0x0008 then
        (if (s.qcfgWrite (s.rdReq (32 + k) F.PEG_QSEL_QUEUE) v).1 then stOK else stCFG)
      else if s.writeReason (32 + k) a b r ix v = 0 then stOK else stCFG
    | _, _ => stBAD

/-- The items of a batch written in order until a block rejects one: status and index of that item. -/
def State.batchWrite (s : State) (k : Nat) : Nat → List (Nat × Nat) → (Nat × Nat) × State
  | _, [] => ((stOK, 0xFFFF), s)
  | i, (a, v) :: rest =>
    match s.regWrite (32 + k) a v WriteMore.none with
    | (st, t) => if st = stOK then State.batchWrite t k (i + 1) rest else ((st, i), t)

/-- REG_BATCH (R375): status, item index, whether the transfer is committed. -/
def State.regBatch (s : State) (k : Nat) (l : List Byte) : (Nat × Nat × Bool) × State :=
  if l.length % 8 ≠ 0 then ((stBAD, 0xFFFF, false), s)
  else
    let items := batchItems (l.length / 8) l
    let codes := items.map (fun e => s.wouldAnswer k e.1 e.2)
    match codes.findIdx? (· != stOK) with
    | some i => ((codes.getD i stBAD, i, false), s)
    | none =>
      let blocks := (List.range 26).filter (fun b => items.any (fun e => (regBlock e.1).any (fun p => p.1 == b)))
      let s := blocks.foldl (fun s b => s.wr (F.SHADOW_HOLD b) 1) s
      match s.batchWrite k 0 items with
      | ((st, i), t) =>
        ((st, i, true), blocks.foldl (fun u b => State.afterWrite (u.wr (F.SHADOW_HOLD b) 0) u (32 + k) b 0xFF04 0) t)

/-- LEGACY_BLOCK (R379): one image block into the inactive slot, which stands at LOADING from then on. -/
def State.legacyBlock (s : State) (l : List Byte) : Nat × State :=
  let ofs := beAt l 0 4
  let d := l.drop 4
  if 512 ≤ l.length ∧ l.length ≤ 4096 ∧ ofs % 512 = 0 ∧ 0x10000 ≤ ofs ∧ ofs + d.length ≤ 0x08000000 ∧ s.flashOn ∧
      s.feedAllowed 0 then
    let s := s.wrOctets (slotBase s.inactive + ofs) d
    let s := s.setTgt 0 { FeedTarget.empty with state := 1, forwarded := (s.tgt 0).forwarded }
    (stOK, if s.tgtState 0 = 1 then s else s.wrSlotState s.inactive 1)
  else (stBAD, s)

/-- SYM_GRAPH (R216, R217), from the session's area. -/
def State.graphTransfer (s : State) (k : Nat) (x : Transfer) : Nat × State :=
  if x.total ≤ 65536 then (stBAD, s.raiseEvent 0x0003 (unitOf bSYM) (o1 0x02))
  else
    let a := sessionArea k
    (if s.isOn 39 ∧ ¬ s.isSet F.SYM_CTRL_LOADING ∧ s.graphOk a then stOK else stBAD, s.graphLoad a)

/-- A complete transfer checked and applied by its KIND: status, item index, whether it is committed (R375). -/
def State.applyTransfer (s : State) (k : Nat) (x : Transfer) : (Nat × Nat × Bool) × State :=
  let l := x.data.map (·.2)
  let simple := fun (r : Nat × State) => ((r.1, 0xFFFF, r.1 == stOK), r.2)
  if crc32 l ≠ x.crc then ((stBAD, 0xFFFF, false), s)
  else
    match x.kind with
    | 1 => simple (s.loadCalendar l)
    | 2 => simple (s.graphTransfer k x)
    | 3 => simple (if x.feeder < 12 then s.loadCableMap x.feeder l else (stBAD, s))
    | 4 => s.regBatch k l
    | _ => simple (s.legacyBlock l)

/-- The commit of a complete transfer, recorded under R378 before the response is sent. COMMIT_ID is a free value: the
spec names it and gives it no content. -/
def State.commitTransfer (s : State) (k tid : Nat) (x : Transfer) : Nat × List Byte × State :=
  match (s.setXfer k none).applyTransfer k x with
  | ((st, i, done), s) =>
    let s := (s.wr (F.HCP_LAST_COMMIT_CT_ID k) x.ctId).wr (F.HCP_LAST_COMMIT_TID k) tid
    let s := (s.wr (F.HCP_LAST_COMMIT_STAT_STATUS k) st).wr (F.HCP_LAST_COMMIT_STAT_KIND k) x.kind
    let s := if done then (s.inc (F.HCP_LAST_COMMIT_STAT_COMMITS k)).hcpCnt 5 else s
    match s.fresh with
    | (c, s) => (st, octetsBE 2 c ++ octetsBE 2 i, s)

/-- The transfer that segment `g` belongs to: the open one, or a new one where its CT_ID differs. -/
def State.segXfer (s : State) (k : Nat) (g : CtSeg) : Transfer :=
  let fresh : Transfer := ⟨g.ctId.toNat, g.kind.toNat, bits g.flags.toNat 1 4, g.total.toNat, g.crc.toNat, []⟩
  match s.hcp.xfers.find k with
  | some x => if x.ctId = g.ctId.toNat then x else fresh
  | none => fresh

/-- Octets stored by offset from `o` up. -/
def stage (m : AMap Byte) (o : Nat) : List Byte → AMap Byte
  | [] => m
  | b :: l => stage (m.set o b) (o + 1) l

/-- CT_SEGMENT (R374, R375). -/
def State.ctSegment (s : State) (h : HcpHdr) (g : CtSeg) : State :=
  let k := h.session.val
  s.hcpServe h tCT_SEGMENT (decide (g.data.length ≤ 1024)) (fun s =>
    let x := s.segXfer k g
    let n := g.total.toNat
    if g.kind.toNat = 0 ∨ 5 < g.kind.toNat ∨ n = 0 ∨ 4194304 < n then (stBAD, [], s.setXfer k none)
    else if x.kind ≠ g.kind.toNat ∨ x.total ≠ n ∨ x.crc ≠ g.crc.toNat ∨ n < g.ofs.toNat + g.data.length then
      (stBAD, [], s.setXfer k none)
    else if 65536 < n ∧ ¬ s.isOn 24 then (stBAD, [], s)
    else
      let x := { x with data := stage x.data g.ofs.toNat g.data }
      let s := s.setXfer k (some x)
      let s := if 65536 < n then s.wrOctets (sessionArea k + g.ofs.toNat) g.data else s
      if ¬ bitAt g.flags.toNat 0 then (stOK, [], s)
      else if x.data.length < n then (stBAD, [], s)
      else s.commitTransfer k h.tid.toNat { x with feeder := bits g.flags.toNat 1 4 })

/-- CT_ABORT (R368, R374): the session's open transfer discarded; BAD where none has that CT_ID. -/
def State.ctAbort (s : State) (h : HcpHdr) (ctId : Nat) : State :=
  let k := h.session.val
  s.hcpServe h tCT_ABORT true (fun s =>
    match s.hcp.xfers.find k with
    | some x => if x.ctId = ctId then (stOK, [], s.setXfer k none) else (stBAD, [], s)
    | none => (stBAD, [], s))

/-! ## Link loss and RESET (R377) -/

/-- Every transfer in staging and every read in flight ended. -/
def State.discardStaging (s : State) : State :=
  let s := (List.range 4).foldl (fun s k => s.setXfer k none) s
  (s.setHcp { s.hcp with fwd := s.hcp.fwd.filter (fun f => !reExecutes f.2.2.2) }).hcpCnt 6

/-- The gateway's flood to the HCP request queue of every member. -/
def State.floodReset (s : State) : State :=
  if s.isGateway then s.hcpRing 0x3FFF true 2112 (hcpOctets false false false tRESET 0 0x3FFF 0 0 []) else s

/-- RESET (R377). -/
def State.hcpReset (s : State) (h : HcpHdr) : State :=
  s.hcpServe h tRESET true (fun s => (stOK, [], s.floodReset.discardStaging))

/-- HEAD_END_LINK_LOSS: the link down for `downMs`, no gateway for `noGatewayMs`. -/
def State.headEndLoss (s : State) (downMs noGatewayMs : Nat) : State :=
  let ends := decide (10 < downMs) || (decide (10 ≤ noGatewayMs) && !s.isSet F.CAPO_GATEWAY_VALID)
  let s := if ends ∧ s.isOn 43 then (if 10 < downMs then s.floodReset else s).discardStaging else s
  if downMs = 0 then s
  else
    let s := if s.isOn 43 then s.wr F.HCP_PORT_STAT_RATE 0 else s
    let s := { s with ring := { s.ring with heUp := false } }
    if s.blockOn bCAPO then s.showMembers else s

/-- STAGING_RESET_FRAME: the flooded RESET at a member. -/
def State.stagingReset (s : State) : State :=
  if s.run bHCP then ((s.takeQueued 1046592).discardStaging).hcpEnd else s

/-- HEAD_END_LINK_UP (R363). -/
def State.headEndUp (s : State) (rate : Nat) : State :=
  if ¬ s.isOn 43 then s
  else
    let s := s.wr F.HCP_PORT_STAT_RATE rate
    let s := { s with ring := { s.ring with heUp := decide (rate ≠ 0) } }
    if s.blockOn bCAPO then s.showMembers else s

/-- The handshake may go on: over IPv4 only with HCP_CTRL.IPV4, and with a client certificate under an anchor of USE 0x2, or
any certificate while no root is present (R365, R446, R452). -/
def State.dtlsOk (s : State) (ipv4 : Bool) (cert : Nat) : Bool :=
  (!ipv4 || s.isSet F.HCP_CTRL_IPV4) && (!s.rootPresent || (s.anchorsOf 2).any (fun a => Config.certOk a cert))

/-- DTLS_HANDSHAKE (R366): the lowest free session slot, or a refusal. -/
def State.dtlsHandshake (s : State) (ipv4 : Bool) (cert : Nat) : State :=
  if ¬ s.run bHCP ∨ s.rd F.HCP_PORT_STAT_RATE = 0 ∨ ¬ s.dtlsOk ipv4 cert then s
  else
    match (List.range 4).find? (fun k => (s.hcp.assoc.find k).isNone) with
    | some k => s.setHcp { s.hcp with assoc := s.hcp.assoc.set k false }
    | none => s.hcpCnt 7

/-- DTLS_ALERT (R377): one association closed, its staging alone discarded. -/
def State.dtlsAlert (s : State) (k : Nat) : State :=
  match s.hcp.assoc.find k with
  | none => s
  | some _ =>
    let s := if (s.hcp.xfers.find k).isSome then (s.setXfer k none).hcpCnt 6 else s
    (s.setHcp { s.hcp with assoc := s.hcp.assoc.erase k, fwd := s.hcp.fwd.filter (fun f => f.1 != k) }).wr
      (F.HCP_SESSION_STAT_BOUND k) 0

/-! ## Primer write-back (R65, R380) -/

/-- The format-3 body the module would write from its present settings: the record of P values (R46), the scan program and
the other octets the configuration loads as they now stand, the calendar, the admitted nodes. -/
def State.bodyNow (s : State) : CfgBody :=
  let prog := s.mem.filter (fun c => decide (0x00400000 ≤ c.1 ∧ c.1 < 0x00500000))
  let rest := fun (c : CfgBody) =>
    (c.mem.filter (fun e => decide (¬ (0x00400000 ≤ e.1 ∧ e.1 < 0x00500000)))).map (fun e => (e.1, s.mem.read e.1))
  let nodes := s.nodeSlots.map (fun e => (e, s.nd e 0 8, s.nd e 16 1, s.nd e 20 4))
  let base := s.sound.learned.map (fun k => (k, s.mem.readN (baseAddr k) 32832))
  match s.sys.cfg with
  | some c => ⟨s.pRec, prog ++ rest c, c.retain, c.retainLen, s.cal.octets, nodes, c.queues, base⟩
  | none => ⟨s.pRec, prog, [], 0, s.cal.octets, nodes, [], base⟩

/-- SEQUENCE, BODY_LEN and BODY_HASH of that body. -/
def State.digest (s : State) : Nat × Nat × Nat :=
  let o := bodyBytes 3 s.bodyNow
  ((s.rd F.SYS_CONFIG_SEQ_SEQUENCE + 1) % 2 ^ 32, o.length, Config.sha384 o)

/-- PRIMER_DIGEST (R380). -/
def State.hcpDigest (s : State) (h : HcpHdr) : State :=
  s.hcpServe h tPRIMER_DIGEST true (fun s =>
    match s.digest with
    | (q, n, x) => (stOK, octetsBE 4 q ++ octetsBE 4 n ++ octetsBE 48 x, s))

/-- The target bank of a write-back (R65); none where no Primer answered at start. -/
def State.wbTarget (s : State) : Option Nat :=
  if s.slot.primer.isNone ∨ s.rd F.SLOT_PRIMER_STAT_STATE ≠ 2 then none
  else some (if s.rd F.SYS_CONFIG_SRC_SOURCE = 1 then 1 else 0)

/-- PRIMER_WB (R380, R479): the status, and the bank where the write-back begins. -/
def State.wbJudge (s : State) (p : PrimerHdr) : Nat × Option Nat :=
  match s.digest with
  | (q, n, x) =>
    let trial := (List.range 2).any (fun k => (s.hdr k).state == 4)
    if s.bankHead (some p) ≠ 0 ∨ p.format.toNat ≠ 3 ∨ p.sequence.toNat ≠ q ∨ p.bodyLen.toNat ≠ n ∨
        s.slot.writeBack.isSome ∨ ¬ s.leverShut ∨ s.slot.noFlashWrite ∨ trial then (stBAD, none)
    else
      match s.wbTarget with
      | none => (stBAD, none)
      | some b => if p.hash.toNat = x then (stOK, some b) else (stCFG, none)

/-- PRIMER_WB (R380). -/
def State.hcpPrimerWb (s : State) (h : HcpHdr) (p : PrimerHdr) : State :=
  s.hcpServe h tPRIMER_WB true (fun s =>
    match s.wbJudge p with
    | (st, some b) => (st, [], s.beginWriteBack b p s.bodyNow)
    | (st, none) => (st, [], s))

/-! ## Events (R381, R382) -/

/-- The payload of an EVENT. -/
def evtOctets (e : Evt) : List Byte :=
  octetsBE 4 e.seq ++ octetsBE 2 e.cls ++ octetsBE 1 e.unit ++ octetsBE 1 0 ++ octetsBE 8 e.opSec ++ e.data

/-- An event sent to the session HCP_EVT_CFG names at this gateway. -/
def State.hcpEventOut (s : State) (source : Nat) (lost : Bool) (payload : List Byte) : State :=
  let k := s.rd F.HCP_EVT_CFG_SESSION
  if s.hcp.assoc.get k false then s.emit (.hcpEvent k source lost payload) else s

/-- EVENT_RESEND: the oldest event sent, for the first time or `sinceMs` after it was last sent. -/
def State.eventResend (s : State) (sinceMs : Nat) : State :=
  match s.evts.head? with
  | none => s
  | some e =>
    if ¬ s.run bHCP ∨ (s.hcp.sent = e.seq ∧ sinceMs < s.rd F.HCP_EVT_CFG_RESEND_MS) then s
    else
      let lost := s.evtLost
      let sentNow := fun (s : State) => { s.setHcp { s.hcp with sent := e.seq } with evtLost := false }
      if s.isGateway ∨ (¬ s.hasRing ∧ s.ring.heUp) then
        (if s.hcp.assoc.get (s.rd F.HCP_EVT_CFG_SESSION) false then
          sentNow (s.hcpEventOut s.moduleId lost (evtOctets e)) else s)
      else
        match s.gatewayId with
        | some g => sentNow (s.hcpRing g false 2113 (hcpOctets false false lost tEVENT 0 s.moduleId 0 0 (evtOctets e)))
        | none => s

/-- EVENT_ACK (R382). -/
def State.eventAck (s : State) (h : HcpHdr) (ack : Nat) : State :=
  s.hcpServe h tEVENT_ACK true (fun s =>
    let l := s.evts.filter (fun e => newer 32 e.seq ack)
    (stOK, [], { s with evts := l }.wr F.HCP_EVT_STAT_PENDING l.length))

/-- FORWARDED_EVENT (R383). -/
def State.forwardedEvent (s : State) (source : Nat) (lost : Bool) (payload : List Byte) : State :=
  if s.run bHCP ∧ s.isGateway then (s.takeQueued 1046593).hcpEventOut source lost payload else s

/-! ## Gateway forwarding (R383) -/

/-- REQUEST_FORWARD: a request of this port's association for another module. -/
def State.requestForward (s : State) (h : HcpHdr) (target typ : Nat) (payload : List Byte) : State :=
  let k := h.session.val
  if ¬ s.run bHCP ∨ h.ring ∨ target = s.moduleId then s
  else
    match s.hcp.assoc.find k with
    | none => s
    | some bound =>
      let out := (s.hcp.fwd.filter (fun f => f.1 == k)).length
      if (¬ bound ∧ typ ≠ tHELLO) ∨ ¬ s.isGateway ∨ target / 64 ≠ s.moduleId / 64 ∨ 64 ≤ out then
        (s.hcpAnswer h typ stBAD false []).hcpEnd
      else
        let s := if typ = tHELLO then
            (s.setHcp { s.hcp with assoc := s.hcp.assoc.set k true }).wr (F.HCP_SESSION_STAT_BOUND k) 1 else s
        let s := s.hcpRing target false 2112 (hcpOctets false false false typ h.tid.toNat target k 0 payload)
        ((s.setHcp { s.hcp with fwd := s.hcp.fwd ++ [(k, h.tid.toNat, target, typ)] }).hcpCnt 3).hcpEnd

/-- FORWARDED_RESPONSE: sent on to its session where the request is outstanding, else discarded. -/
def State.forwardedResponse (s : State) (k tid target typ status : Nat) (dup : Bool) (payload : List Byte) : State :=
  if ¬ s.run bHCP then s
  else
    let s := s.takeQueued 1046593
    let f := (k, tid, target, typ)
    if s.hcp.fwd.contains f then
      (s.setHcp { s.hcp with fwd := s.hcp.fwd.erase f }).emit (.hcp k tid typ status dup payload)
    else s

/-- FORWARD_TIMEOUT: a request of session `k` with this TID has waited `sinceMs`. -/
def State.forwardTimeout (s : State) (k tid sinceMs : Nat) : State :=
  match s.hcp.fwd.find? (fun f => f.1 == k && f.2.1 == tid) with
  | none => s
  | some f =>
    if s.run bHCP ∧ s.rd F.HCP_FWD_CFG_FWD_MS ≤ sinceMs then
      ((s.setHcp { s.hcp with fwd := s.hcp.fwd.erase f }).hcpCnt 4).emit (.hcp k tid f.2.2.2 stTIMEOUT false [])
    else s

/-- HCP_BAD_MESSAGE (R368): a TYPE the table does not give (EVENT is none the module is sent), RESP 1, or a wrong LEN. -/
def State.hcpBad (s : State) (h : HcpHdr) (typ : Nat) (resp lenOk : Bool) : State :=
  if resp ∨ ¬ lenOk ∨ typ = 0 ∨ typ = tEVENT ∨ tPRIMER_WB < typ then s.hcpServe h typ false (fun s => (stBAD, [], s)) else s

end Sys2Proof.Machine
end

