-- ==== Sys2Proof/Machine/ExecHcp.lean ====
section
/-!
DEFINITION. Machine/ExecHcp.lean: the meanings of the commands of
the Head-end Control Protocol. Each is one act of its unit with the command's
operands; `finish` ends it.
-/
namespace Sys2Proof.Machine

/-- HELLO (R369). -/
def execHcpHello (h : HcpHdr) (clearTid : Bool) (s : State) : Host.Outcome State Fault Refusal :=
  finish s (s.hcpHello h clearTid)

/-- HCP_RESET (R377). -/
def execHcpReset (h : HcpHdr) (s : State) : Host.Outcome State Fault Refusal :=
  finish s (s.hcpReset h)

/-- REG_READ (R372). -/
def execHcpRegRead (h : HcpHdr) (addrs : List (BitVec 32)) (s : State) : Host.Outcome State Fault Refusal :=
  finish s (s.hcpRegRead h (addrs.map (·.toNat)))

/-- REG_WRITE (R372). -/
def execHcpRegWrite (h : HcpHdr) (items : List (BitVec 32 × BitVec 32))
    (s : State) : Host.Outcome State Fault Refusal :=
  finish s (s.hcpRegWrite h (items.map (fun i => (i.1.toNat, i.2.toNat))))

/-- BLOCK_READ (R372). -/
def execHcpBlockRead (h : HcpHdr) (addr : BitVec 64) (count : BitVec 16)
    (s : State) : Host.Outcome State Fault Refusal :=
  finish s (s.hcpBlockRead h addr.toNat count.toNat)

/-- BLOCK_WRITE (R372). -/
def execHcpBlockWrite (h : HcpHdr) (addr : BitVec 64) (data : List Byte)
    (s : State) : Host.Outcome State Fault Refusal :=
  finish s (s.hcpBlockWrite h addr.toNat data)

/-- CT_SEGMENT (R374). -/
def execCtSegment (h : HcpHdr) (g : CtSeg) (s : State) : Host.Outcome State Fault Refusal :=
  finish s (s.ctSegment h g)

/-- CT_ABORT (R368). -/
def execCtAbort (h : HcpHdr) (ctId : BitVec 16) (s : State) : Host.Outcome State Fault Refusal :=
  finish s (s.ctAbort h ctId.toNat)

/-- EVENT_ACK (R382). -/
def execEventAck (h : HcpHdr) (ackSeq : BitVec 32) (s : State) : Host.Outcome State Fault Refusal :=
  finish s (s.eventAck h ackSeq.toNat)

/-- PRIMER_DIGEST (R380). -/
def execPrimerDigest (h : HcpHdr) (s : State) : Host.Outcome State Fault Refusal :=
  finish s (s.hcpDigest h)

/-- PRIMER_WB (R380). -/
def execPrimerWb (h : HcpHdr) (hdr : PrimerHdr) (s : State) : Host.Outcome State Fault Refusal :=
  finish s (s.hcpPrimerWb h hdr)

/-- HCP_BAD_MESSAGE (R368). -/
def execHcpBadMessage (h : HcpHdr) (typ : Byte) (resp : Bool) (lenOk : Bool)
    (s : State) : Host.Outcome State Fault Refusal :=
  finish s (s.hcpBad h typ.toNat resp lenOk)

/-- DTLS_HANDSHAKE (R366). -/
def execDtlsHandshake (ipv4 : Bool) (cert : Nat) (s : State) : Host.Outcome State Fault Refusal :=
  finish s (s.dtlsHandshake ipv4 cert)

/-- REQUEST_FORWARD (R383). -/
def execRequestForward (h : HcpHdr) (target : BitVec 14) (typ : Byte) (payload : List Byte)
    (s : State) : Host.Outcome State Fault Refusal :=
  finish s (s.requestForward h target.toNat typ.toNat payload)

/-- FORWARDED_RESPONSE (R383). -/
def execForwardedResponse (session : Fin 4) (tid : BitVec 16) (target : BitVec 14) (typ : Byte) (status : Byte)
    (dup : Bool) (payload : List Byte) (s : State) : Host.Outcome State Fault Refusal :=
  finish s (s.forwardedResponse session.val tid.toNat target.toNat typ.toNat status.toNat dup payload)

/-- FORWARD_TIMEOUT (R383). -/
def execForwardTimeout (session : Fin 4) (tid : BitVec 16) (sinceMs : Nat)
    (s : State) : Host.Outcome State Fault Refusal :=
  finish s (s.forwardTimeout session.val tid.toNat sinceMs)

/-- HEAD_END_LINK_LOSS (R377). -/
def execHeadEndLinkLoss (downMs : Nat) (noGatewayMs : Nat) (s : State) : Host.Outcome State Fault Refusal :=
  finish s (s.headEndLoss downMs noGatewayMs)

/-- STAGING_RESET_FRAME (R377). -/
def execStagingResetFrame (s : State) : Host.Outcome State Fault Refusal :=
  finish s s.stagingReset

/-- EVENT_RESEND (R382). -/
def execEventResend (sinceMs : Nat) (s : State) : Host.Outcome State Fault Refusal :=
  finish s (s.eventResend sinceMs)

/-- HCP_CTRL_EN (R365). -/
def execHcpCtrlEn (req : Fin 36) (value : BitVec 32) (s : State) : Host.Outcome State Fault Refusal :=
  finish s (s.rowWrite req.val 0x40110000 value.toNat WriteMore.none)

/-- HEAD_END_LINK_UP (R363). -/
def execHeadEndLinkUp (rate : Fin 5) (s : State) : Host.Outcome State Fault Refusal :=
  finish s (s.headEndUp rate.val)

/-- DTLS_ALERT (R377). -/
def execDtlsAlert (session : Fin 4) (s : State) : Host.Outcome State Fault Refusal :=
  finish s (s.dtlsAlert session.val)

/-- FORWARDED_EVENT (R383). -/
def execForwardedEvent (source : BitVec 14) (lost : Bool) (payload : List Byte)
    (s : State) : Host.Outcome State Fault Refusal :=
  finish s (s.forwardedEvent source.toNat lost payload)

end Sys2Proof.Machine
end

