-- ==== Sys2Proof/Machine/ExecKey.lean ====
section
/-!
DEFINITION. Machine/ExecKey.lean: the meanings of the commands of
the keystore and life cycle. Each is one act of its unit with the command's
operands; `finish` ends it.
-/
namespace Sys2Proof.Machine

/-- PROVISION (R451). -/
def execKeyProvision (req : Fin 36) (key : BitVec 16) (s : State) : Host.Outcome State Fault Refusal :=
  finish s (s.rowWrite req.val 0x40140004 (key.toNat * 2 ^ 16 + 1) WriteMore.none)

/-- FIELD (R458). -/
def execKeyField (req : Fin 36) (key : BitVec 16) (s : State) : Host.Outcome State Fault Refusal :=
  finish s (s.rowWrite req.val 0x40140004 (key.toNat * 2 ^ 16 + 2) WriteMore.none)

/-- RETURN (R458). -/
def execKeyReturn (req : Fin 36) (key : BitVec 16) (s : State) : Host.Outcome State Fault Refusal :=
  finish s (s.rowWrite req.val 0x40140004 (key.toNat * 2 ^ 16 + 3) WriteMore.none)

/-- SCRAP (R458). -/
def execKeyScrap (req : Fin 36) (key : BitVec 16) (s : State) : Host.Outcome State Fault Refusal :=
  finish s (s.rowWrite req.val 0x40140004 (key.toNat * 2 ^ 16 + 4) WriteMore.none)

/-- DEBUG_OPEN (R459). -/
def execDebugOpen (req : Fin 36) (key : BitVec 16) (s : State) : Host.Outcome State Fault Refusal :=
  finish s (s.rowWrite req.val 0x40140004 (key.toNat * 2 ^ 16 + 5) WriteMore.none)

/-- DEBUG_CLOSE (R459). -/
def execDebugClose (req : Fin 36) (key : BitVec 16) (s : State) : Host.Outcome State Fault Refusal :=
  finish s (s.rowWrite req.val 0x40140004 (key.toNat * 2 ^ 16 + 6) WriteMore.none)

/-- DEBUG_EXPIRY (R459). -/
def execDebugExpiry (s : State) : Host.Outcome State Fault Refusal :=
  finish s s.debugExpiry

/-- REPLACE (R454). -/
def execKeyReplace (req : Fin 36) (key : BitVec 16) (slot : Fin 64) (s : State) : Host.Outcome State Fault Refusal :=
  finish s (s.rowWrite req.val 0x40140004 (key.toNat * 2 ^ 16 + slot.val * 2 ^ 8 + 7) WriteMore.none)

/-- MOVE (R456). -/
def execKeyMove (req : Fin 36) (key : BitVec 16) (slot : Fin 64) (s : State) : Host.Outcome State Fault Refusal :=
  finish s (s.rowWrite req.val 0x40140004 (key.toNat * 2 ^ 16 + slot.val * 2 ^ 8 + 8) WriteMore.none)

/-- REFURBISH (R458). -/
def execKeyRefurbish (req : Fin 36) (key : BitVec 16) (s : State) : Host.Outcome State Fault Refusal :=
  finish s (s.rowWrite req.val 0x40140004 (key.toNat * 2 ^ 16 + 9) WriteMore.none)

/-- KEY_STAGE_DATA (R450). -/
def execKeyStageData (req : Fin 36) (data : BitVec 32) (s : State) : Host.Outcome State Fault Refusal :=
  finish s (s.rowWrite req.val 0x4014001C data.toNat WriteMore.none)

/-- KEY_CHECK_RECEIVED (R455). -/
def execKeyCheckReceived (path : Fin 2) (pos : Fin 64) (gen : BitVec 16) (kcv : BitVec 64)
    (s : State) : Host.Outcome State Fault Refusal :=
  finish s (s.keyCheck path.val pos.val gen.toNat kcv.toNat)

/-- KEY_CHECK_RESEND (R454). -/
def execKeyCheckResend (slot : Fin 64) (sinceMs : Nat) (s : State) : Host.Outcome State Fault Refusal :=
  finish s (s.keyResend slot.val sinceMs)

/-- REPLACE_COMPLETE (R454). -/
def execReplaceComplete (slot : Fin 64) (s : State) : Host.Outcome State Fault Refusal :=
  finish s (s.replaceComplete slot.val)

/-- REPLACE_TIMEOUT (R454). -/
def execReplaceTimeout (slot : Fin 64) (sec : Nat) (s : State) : Host.Outcome State Fault Refusal :=
  finish s (s.replaceTimeout slot.val sec)

/-- TAMPER_EVENT (R460). -/
def execTamperEvent (kind : TamperKind) (s : State) : Host.Outcome State Fault Refusal :=
  finish s (s.tamper kind)

end Sys2Proof.Machine
end

