-- ==== Sys2Proof/Machine/ExecLamp.lean ====
section
/-!
DEFINITION. Machine/ExecLamp.lean: the meanings of the commands of
the lamp drive. Each is one act of its unit with the command's
operands; `finish` ends it.
-/
namespace Sys2Proof.Machine

/-- LAMP_FRAME_START (R316). -/
def execLampFrameStart (lossMean : BitVec 16) (ledIn : BitVec 16) (s : State) : Host.Outcome State Fault Refusal :=
  finish s (s.lampFrameStart lossMean.toNat ledIn.toNat)

/-- LAMP_FRAME_END (R332). -/
def execLampFrameEnd (m : LampMeas) (s : State) : Host.Outcome State Fault Refusal :=
  finish s (s.lampFrameEnd (m.strings.map (fun x => (x.1.toNat, x.2.toNat))) m.rowMa.toNat)

/-- LAMP_MEASURE (R324). -/
def execLampMeasure (id : BitVec 10) (volt : BitVec 16) (holds : Bool) (nearRow : Bool)
    (s : State) : Host.Outcome State Fault Refusal :=
  finish s (s.lampMeasure id.toNat volt.toNat holds nearRow)

/-- LAMP_OPEN_DETECT (R324). -/
def execLampOpenDetect (k : Fin 6) (volts : List (BitVec 16)) (clamp : Bool)
    (s : State) : Host.Outcome State Fault Refusal :=
  finish s (s.lampOpenDetect k.val (volts.map (·.toNat)) clamp)

/-- CLAMP_PERSIST (R324). -/
def execClampPersist (k : Fin 6) (volts : List (BitVec 16)) (sinceUs : Nat)
    (s : State) : Host.Outcome State Fault Refusal :=
  finish s (s.clampPersist k.val (volts.map (·.toNat)) sinceUs)

/-- STRING_OVERCURRENT (R325). -/
def execStringOvercurrent (k : Fin 6) (mA : Nat) (us : Nat) (s : State) : Host.Outcome State Fault Refusal :=
  finish s (s.stringOver k.val mA us)

/-- OVERCURRENT_RESTART (R325). -/
def execOvercurrentRestart (k : Fin 6) (sinceMs : Nat) (s : State) : Host.Outcome State Fault Refusal :=
  finish s (s.overRestart k.val sinceMs)

/-- ROW_OVERCURRENT (R326). -/
def execRowOvercurrent (mA : Nat) (us : Nat) (s : State) : Host.Outcome State Fault Refusal :=
  finish s (s.rowOver mA us)

/-- LED_SUPPLY_LOW (R327). -/
def execLedSupplyLow (volt : BitVec 16) (s : State) : Host.Outcome State Fault Refusal :=
  finish s (s.ledLow volt.toNat)

/-- LED_SUPPLY_RESUME (R327). -/
def execLedSupplyResume (volt : BitVec 16) (ms : Nat) (s : State) : Host.Outcome State Fault Refusal :=
  finish s (s.ledResume volt.toNat ms)

/-- NTC_READ (R328). -/
def execNtcRead (n : Fin 6) (ohms : Option Nat) (s : State) : Host.Outcome State Fault Refusal :=
  finish s (s.ntcRead n.val ohms)

/-- CLEAR_LAMP (R331). -/
def execClearLamp (req : Fin 36) (s : State) : Host.Outcome State Fault Refusal :=
  finish s (s.rowWrite req.val 0x400D0010 (1 * 2 ^ 28) WriteMore.none)

/-- CLEAR_STRING (R331). -/
def execClearString (req : Fin 36) (arg : Fin 8) (s : State) : Host.Outcome State Fault Refusal :=
  finish s (s.rowWrite req.val 0x400D0010 (2 * 2 ^ 28 + arg.val) WriteMore.none)

/-- CLEAR_MATRIX (R331). -/
def execClearMatrix (req : Fin 36) (s : State) : Host.Outcome State Fault Refusal :=
  finish s (s.rowWrite req.val 0x400D0010 (3 * 2 ^ 28) WriteMore.none)

/-- CLEAR_AON (R331). -/
def execClearAon (req : Fin 36) (arg : Fin 8) (s : State) : Host.Outcome State Fault Refusal :=
  finish s (s.rowWrite req.val 0x400D0010 (4 * 2 ^ 28 + arg.val) WriteMore.none)

/-- LAMP_COUNTER_STORE (R332). -/
def execLampCounterStore (sinceMin : Nat) (s : State) : Host.Outcome State Fault Refusal :=
  finish s (s.lampCounterStore sinceMin)

/-- LAMP_AUDIT_SNAP (R332). -/
def execLampAuditSnap (req : Fin 36) (s : State) : Host.Outcome State Fault Refusal :=
  finish s (s.rowWrite req.val 0x400D0038 1 WriteMore.none)

end Sys2Proof.Machine
end

