-- ==== Sys2Proof/Machine/ExecMover.lean ====
section
/-!
DEFINITION. Machine/ExecMover.lean: the meanings of the commands of
the bulk mover. Each is one act of its unit with the command's
operands; `finish` ends it.
-/
namespace Sys2Proof.Machine

/-- START (R412). -/
def execMoverStart (req : Fin 36) (c : Fin 32) (s : State) : Host.Outcome State Fault Refusal :=
  finish s (s.rowWrite req.val (0x40050108 + 32 * c.val) (1 * 2 ^ 28) WriteMore.none)

/-- MOVER_ABORT (R422). -/
def execMoverAbort (req : Fin 36) (c : Fin 32) (s : State) : Host.Outcome State Fault Refusal :=
  finish s (s.rowWrite req.val (0x40050108 + 32 * c.val) (2 * 2 ^ 28) WriteMore.none)

/-- CONTINUE (R413). -/
def execMoverContinue (req : Fin 36) (c : Fin 32) (s : State) : Host.Outcome State Fault Refusal :=
  finish s (s.rowWrite req.val (0x40050108 + 32 * c.val) (3 * 2 ^ 28) WriteMore.none)

/-- DESCRIPTOR_FETCHED (R412). -/
def execDescriptorFetched (c : Fin 32) (poison : Bool) (s : State) : Host.Outcome State Fault Refusal :=
  finish s (s.moverFetched c.val poison)

/-- MOVER_ACCESS_RESPONSE (R418). -/
def execMoverAccessResponse (c : Fin 32) (poison : Bool) (s : State) : Host.Outcome State Fault Refusal :=
  finish s (s.moverAccess c.val poison)

/-- MOVER_ACCESS_TIMEOUT (R417). -/
def execMoverAccessTimeout (c : Fin 32) (ticks : Nat) (s : State) : Host.Outcome State Fault Refusal :=
  finish s (s.moverTimeout c.val ticks)

/-- DESCRIPTOR_WRITE_BACK (R412). -/
def execDescriptorWriteBack (c : Fin 32) (s : State) : Host.Outcome State Fault Refusal :=
  finish s (s.descriptorWriteBack c.val)

/-- REQUEST_LINE (R421). -/
def execRequestLine (line : Fin 32) (queue : BitVec 20) (s : State) : Host.Outcome State Fault Refusal :=
  finish s (s.requestLine line.val queue.toNat)

/-- MOVER_CTRL_EN (R422). -/
def execMoverCtrlEn (req : Fin 36) (en : Bool) (s : State) : Host.Outcome State Fault Refusal :=
  finish s (s.rowWrite req.val 0x40050000 (b2n en) WriteMore.none)

end Sys2Proof.Machine
end

