-- ==== Sys2Proof/Machine/ExecNode.lean ====
section
/-!
DEFINITION. Machine/ExecNode.lean: the meanings of the commands of
the Suaraip nodes, calendar and profiles. Each is one act of its unit with the command's
operands; `finish` ends it.
-/
namespace Sys2Proof.Machine

/-- JOIN_REQ (R182). -/
def execJoinReq (medium : Byte) (rx : FieldRx) (k : BitVec 4) (imgIn : Bool) (imgOut : Bool)
    (s : State) : Host.Outcome State Fault Refusal :=
  finish s (s.joinReq medium.toNat rx k.toNat imgIn imgOut)

/-- NODE_LOST (R183). -/
def execNodeLost (node : BitVec 14) (s : State) : Host.Outcome State Fault Refusal :=
  finish s (s.nodeLost node.toNat)

/-- ADMIT (R181). -/
def execAdmit (req : Fin 36) (group : Fin 32) (s : State) : Host.Outcome State Fault Refusal :=
  finish s (s.rowWrite req.val 0x4008001C (1 * 2 ^ 28 + group.val * 2 ^ 16) WriteMore.none)

/-- EVICT (R181). -/
def execEvict (req : Fin 36) (s : State) : Host.Outcome State Fault Refusal :=
  finish s (s.rowWrite req.val 0x4008001C (2 * 2 ^ 28) WriteMore.none)

/-- SET_GROUP (R181). -/
def execSetGroup (req : Fin 36) (group : Fin 32) (s : State) : Host.Outcome State Fault Refusal :=
  finish s (s.rowWrite req.val 0x4008001C (3 * 2 ^ 28 + group.val * 2 ^ 16) WriteMore.none)

/-- RESEND_PROFILE (R181). -/
def execResendProfile (req : Fin 36) (s : State) : Host.Outcome State Fault Refusal :=
  finish s (s.rowWrite req.val 0x4008001C (4 * 2 ^ 28) WriteMore.none)

/-- CALENDAR_EVALUATION (R199). -/
def execCalendarEvaluation (s : State) : Host.Outcome State Fault Refusal :=
  finish s s.calendarEval

/-- PROFILE_SEND (R192). -/
def execProfileSend (node : BitVec 14) (s : State) : Host.Outcome State Fault Refusal :=
  finish s (s.profileSend node.toNat)

/-- STATUS_PROCESS (R208). -/
def execStatusProcess (node : BitVec 14) (poison : Bool) (s : State) : Host.Outcome State Fault Refusal :=
  finish s (s.statusProcess node.toNat poison)

/-- ALARM_PROCESS (R195). -/
def execAlarmProcess (node : BitVec 14) (poison : Bool) (s : State) : Host.Outcome State Fault Refusal :=
  finish s (s.alarmProcess node.toNat poison)

end Sys2Proof.Machine
end

