-- ==== Sys2Proof/Machine/ExecPeg.lean ====
section
/-!
DEFINITION. Machine/ExecPeg.lean: the meanings of the commands of
the Pegbox. Each is one act of its unit with the command's
operands; `finish` ends it.
-/
namespace Sys2Proof.Machine

/-- OPEN (R115). -/
def execPegOpen (k : Fin 4) (w : FWord) (upsets : List (BitVec 19 × TagError))
    (s : State) : Host.Outcome State Fault Refusal :=
  finish s ((s.upset (upsets.map (fun e => (e.1.toNat, e.2)))).pegOpen k.val w)

/-- PEG_DATA_WORD (R116). -/
def execPegDataWord (w : FWord) (upsets : List (BitVec 19 × TagError)) (s : State) : Host.Outcome State Fault Refusal :=
  finish s ((s.upset (upsets.map (fun e => (e.1.toNat, e.2)))).pegData w)

/-- PEG_COMMIT (R117). -/
def execPegCommit (port : Fin 32) (tag : Byte) (s : State) : Host.Outcome State Fault Refusal :=
  finish s (s.pegCommit port.val tag.toNat)

/-- CTX_TIMEOUT (R119). -/
def execCtxTimeout (port : Fin 32) (tag : Byte) (s : State) : Host.Outcome State Fault Refusal :=
  finish s (s.ctxTimeout port.val tag.toNat)

/-- DISCARD_TIMEOUT (R119). -/
def execDiscardTimeout (port : Fin 32) (tag : Byte) (s : State) : Host.Outcome State Fault Refusal :=
  finish s (s.discardTimeout port.val tag.toNat)

/-- ABORT (R120). -/
def execPegAbort (k : Fin 4) (w : FWord) (s : State) : Host.Outcome State Fault Refusal :=
  finish s (s.pegControl k.val w)

/-- FLUSH (R129). -/
def execPegFlushCmd (k : Fin 4) (w : FWord) (s : State) : Host.Outcome State Fault Refusal :=
  finish s (s.pegControl k.val w)

/-- PEG_FLUSH (R129). -/
def execPegFlush (req : Fin 36) (queue : BitVec 20) (s : State) : Host.Outcome State Fault Refusal :=
  finish s (s.rowWrite req.val 0x40040000 queue.toNat WriteMore.none)

/-- PUSH_CLAIM (R123). -/
def execPushClaim (queue : BitVec 20) (s : State) : Host.Outcome State Fault Refusal :=
  finish s (s.pushClaim queue.toNat)

/-- DEQUEUE (R123). -/
def execDequeue (k : Fin 4) (w : FWord) (s : State) : Host.Outcome State Fault Refusal :=
  finish s (s.dequeue k.val w)

/-- CHAIN_READ (R125). -/
def execChainRead (grp : Fin 4) (w : FWord) (cells : Nat) (parity : List (Nat × BitVec 16)) (upsets : List
    (BitVec 19 × TagError)) (s : State) : Host.Outcome State Fault Refusal :=
  finish s ((s.upset (upsets.map (fun e => (e.1.toNat, e.2)))).chainRead grp.val w cells parity)

/-- RELEASE (R127). -/
def execPegRelease (k : Fin 4) (w : FWord) (s : State) : Host.Outcome State Fault Refusal :=
  finish s (s.pegControl k.val w)

/-- CLAIM_TIMEOUT (R128). -/
def execClaimTimeout (queue : BitVec 20) (s : State) : Host.Outcome State Fault Refusal :=
  finish s (s.claimTimeout queue.toNat)

/-- PEG_QCFG (R532). -/
def execPegQcfg (req : Fin 36) (value : BitVec 32) (s : State) : Host.Outcome State Fault Refusal :=
  finish s (s.rowWrite req.val 0x40040008 value.toNat WriteMore.none)

/-- PEG_PROFILE (R532). -/
def execPegProfile (req : Fin 36) (b : Bool) (n : Fin 16) (value : BitVec 32)
    (s : State) : Host.Outcome State Fault Refusal :=
  finish s (s.rowWrite req.val ((if b then 0x40040140 else 0x40040100) + 4 * n.val) value.toNat WriteMore.none)

/-- PEG_QSTAT_READ (R109). -/
def execPegQstatRead (req : Fin 36) (s : State) : Host.Outcome State Fault Refusal :=
  finish s (s.rowRead req.val 0x40040010)

/-- PEG_FREE_MIN_CLEAR (R135). -/
def execPegFreeMinClear (req : Fin 36) (s : State) : Host.Outcome State Fault Refusal :=
  finish s (s.rowWrite req.val 0x4004003C (2 ^ 31) WriteMore.none)

/-- PEG_AUDIT_SNAP (R136). -/
def execPegAuditSnap (req : Fin 36) (s : State) : Host.Outcome State Fault Refusal :=
  finish s (s.rowWrite req.val 0x40040044 1 WriteMore.none)

end Sys2Proof.Machine
end

