-- ==== Sys2Proof/Machine/ExecPower.lean ====
section
/-!
DEFINITION. Machine/ExecPower.lean: the meanings of the commands of
power domains, levels, supply and the Tuning engine. Each is one act of its unit with the command's
operands; `finish` ends it.
-/
namespace Sys2Proof.Machine

/-- PWR_DOM_REQ (R428). -/
def execPwrDomReq (req : Fin 36) (d : Fin 50) (state : BitVec 2) (s : State) : Host.Outcome State Fault Refusal :=
  finish s (s.rowWrite req.val (0x40010100 + 4 * d.val) state.toNat WriteMore.none)

/-- DOMAIN_CHANGE_COMPLETE (R428). -/
def execDomainChangeComplete (d : Fin 50) (s : State) : Host.Outcome State Fault Refusal :=
  finish s (s.changeComplete d.val)

/-- DOMAIN_FAULT (R430). -/
def execDomainFault (d : Fin 50) (cause : FaultCause) (s : State) : Host.Outcome State Fault Refusal :=
  finish s (s.domainFault d.val cause)

/-- REDUCED (R433). -/
def execReduced (req : Fin 36) (key : BitVec 16) (s : State) : Host.Outcome State Fault Refusal :=
  finish s (s.rowWrite req.val 0x40010404 (key.toNat * 2 ^ 16 + 1) WriteMore.none)

/-- FULL (R433). -/
def execFull (req : Fin 36) (key : BitVec 16) (s : State) : Host.Outcome State Fault Refusal :=
  finish s (s.rowWrite req.val 0x40010404 (key.toNat * 2 ^ 16 + 2) WriteMore.none)

/-- PARK (R434). -/
def execPark (req : Fin 36) (key : BitVec 16) (s : State) : Host.Outcome State Fault Refusal :=
  finish s (s.rowWrite req.val 0x40010404 (key.toNat * 2 ^ 16 + 3) WriteMore.none)

/-- AUTO_ENTER (R433). -/
def execAutoEnter (level : Bool) (sec : Nat) (s : State) : Host.Outcome State Fault Refusal :=
  finish s (s.autoEnter level sec)

/-- AUTO_LEAVE (R433). -/
def execAutoLeave (level : Bool) (sec : Nat) (s : State) : Host.Outcome State Fault Refusal :=
  finish s (s.autoLeave level sec)

/-- PWR_ALARM_MATCH (R436). -/
def execPwrAlarmMatch (s : State) : Host.Outcome State Fault Refusal :=
  finish s s.alarmMatch

/-- PARKED_SUPPLY_RETURN (R434). -/
def execParkedSupplyReturn (s : State) : Host.Outcome State Fault Refusal :=
  finish s s.parkedReturn

/-- OPERATING_SECOND (R438). -/
def execOperatingSecond (s : State) : Host.Outcome State Fault Refusal :=
  finish s s.operatingSecond

/-- VBAT_MEASURE (R437). -/
def execVbatMeasure (mV : BitVec 16) (s : State) : Host.Outcome State Fault Refusal :=
  finish s (s.vbat mV.toNat)

/-- LOGIC_SUPPLY_DROP (R514). -/
def execLogicSupplyDrop (mV : Nat) (us : Nat) (s : State) : Host.Outcome State Fault Refusal :=
  finish s (s.supplyDrop mV us)

/-- LOGIC_SUPPLY_RETURN (R514). -/
def execLogicSupplyReturn (mV : Nat) (us : Nat) (s : State) : Host.Outcome State Fault Refusal :=
  finish s (s.supplyReturn mV us)

/-- TUNE_MEASURE (R440). -/
def execTuneMeasure (d : Fin 50) (floor : BitVec 16) (timing : BitVec 16)
    (s : State) : Host.Outcome State Fault Refusal :=
  finish s (State.replanEnd (s.tuneMeasure d.val floor.toNat timing.toNat) d.val)

/-- REPLAN_SETTLED (R440). -/
def execReplanSettled (d : Fin 50) (floor : BitVec 16) (timing : BitVec 16)
    (s : State) : Host.Outcome State Fault Refusal :=
  finish s (State.replanEnd (s.replanSettled d.val floor.toNat timing.toNat) d.val)

/-- AGEING_MEASURE (R442). -/
def execAgeingMeasure (d : Fin 50) (agePs : BitVec 8) (forecastD : BitVec 16)
    (s : State) : Host.Outcome State Fault Refusal :=
  finish s (State.replanEnd (s.ageing d.val agePs.toNat forecastD.toNat) d.val)

/-- PLAN_STORE (R441). -/
def execPlanStore (s : State) : Host.Outcome State Fault Refusal :=
  finish s s.planStore

/-- LOGIC_OVERVOLTAGE (R527). -/
def execLogicOvervoltage (mV : Nat) (us : Nat) (s : State) : Host.Outcome State Fault Refusal :=
  finish s (s.overvoltage mV us)

end Sys2Proof.Machine
end

