-- ==== Sys2Proof/Machine/ExecRec.lean ====
section
/-!
DEFINITION. Machine/ExecRec.lean: the meanings of the commands of
the event recorder and the ledgers. Each is one act of its unit with the command's
operands; `finish` ends it.
-/
namespace Sys2Proof.Machine

/-- REC_SAMPLE (R489). -/
def execRecSample (k : Fin 16) (sinceMs : Nat) (s : State) : Host.Outcome State Fault Refusal :=
  finish s (s.recSample k.val sinceMs)

/-- REC_TRIGGER (R494). -/
def execRecTrigger (code : BitVec 16) (value : BitVec 32) (data : List Byte)
    (s : State) : Host.Outcome State Fault Refusal :=
  finish s (s.recTrigger code.toNat (toSigned 32 value.toNat) data)

/-- SNAPSHOT_WRITE (R496). -/
def execSnapshotWrite (failures : Nat) (s : State) : Host.Outcome State Fault Refusal :=
  finish s (s.snapshotWrite failures)

/-- PAGE_SEAL (R493). -/
def execPageSeal (k : Fin 16) (failures : Nat) (s : State) : Host.Outcome State Fault Refusal :=
  finish s (s.pageSeal k.val failures)

/-- SEAL (R493). -/
def execRecSeal (req : Fin 36) (k : Fin 16) (s : State) : Host.Outcome State Fault Refusal :=
  finish s (s.rowWrite req.val 0x40160000 (1 * 2 ^ 28 + k.val) WriteMore.none)

/-- SEAL_ALL (R493). -/
def execRecSealAll (req : Fin 36) (s : State) : Host.Outcome State Fault Refusal :=
  finish s (s.rowWrite req.val 0x40160000 (2 * 2 ^ 28) WriteMore.none)

/-- REC_FETCH (R500). -/
def execRecFetch (req : Fin 36) (live : Bool) (k : Fin 16) (u : BitVec 19)
    (s : State) : Host.Outcome State Fault Refusal :=
  finish s (s.rowWrite req.val 0x40160020 (b2n live * 2 ^ 31 + k.val * 2 ^ 24 + u.toNat) WriteMore.none)

/-- LEDGER_SNAP (R504). -/
def execLedgerSnap (req : Fin 36) (mask : BitVec 7) (s : State) : Host.Outcome State Fault Refusal :=
  finish s (s.rowWrite req.val 0x40170000 mask.toNat WriteMore.none)

/-- LEDGER_COPY (R504). -/
def execLedgerCopy (req : Fin 36) (led : Fin 7) (s : State) : Host.Outcome State Fault Refusal :=
  finish s (s.ledgerCopy req.val led.val)

/-- LEDGER_CHECK (R506). -/
def execLedgerCheck (sinceS : Nat) (s : State) : Host.Outcome State Fault Refusal :=
  finish s (s.ledgerCheck sinceS)

end Sys2Proof.Machine
end

