-- ==== Sys2Proof/Machine/Fretboard.lean ====
section
/-!
DEFINITION. Machine/Fretboard.lean: word crossings, refusals and port statistics of the Fretboard (R16 to R18, R529), and
the logic power trim (R29).
-/
namespace Sys2Proof.Machine

/-- The domain of the Fretboard half that holds port `p` (R14). -/
def halfDom (p : Nat) : Nat := if p < 16 then 16 else 17

/-- The unit that a word to port `p` names is ON (R34, R529): the owner of its address, or its power domain. A word to port 28
that names no unit is judged by PD36, and one to another port by the port alone (DESIGN CHOICE, assumption 74). -/
def State.namedUp (s : State) (p : Nat) (names : WordTarget) : Bool :=
  match names with
  | .addr a => s.addrUp a.toNat
  | .unit d => s.isOn d.val
  | .none => p != 28 || s.isOn 36

/-- Port `p` counts as ON for a word that names `names` (R17, R529): its half is ON, its units' domains are ON (port 28 has no
domain of all its units), and the unit the word names is ON. -/
def State.portUp (s : State) (p : Nat) (names : WordTarget) : Bool :=
  s.isOn (halfDom p) && (p == 28 || s.allOn (portDoms p)) && s.namedUp p names

/-- The NACK word the Fretboard returns for `w` (R17). -/
def nackOf (w : FWord) : FWord := ⟨w.src, w.dest, 5, w.tag, true, 0, 0, 0⟩

/-- The 1 ms means measured at a crossing: CYCLE_PS once both halves are ON, LOAD and PEAK of the source port. -/
def State.portMeans (s : State) (src cyclePs load : Nat) : State :=
  let s := if s.allOn [16, 17] then s.wr F.FRET_CYCLE_CYCLE_PS cyclePs else s
  let s := s.wr (F.FRET_PORT_STAT_LOAD src) load
  s.wr (F.FRET_PORT_STAT_PEAK src) (max load (s.rd (F.FRET_PORT_STAT_PEAK src)))

/-- The word names an address of no range of R33: no counter of any block changes at its NACK (R34). -/
def unmappedTarget : WordTarget → Bool
  | .addr a => !mapped a.toNat
  | _ => false

/-- A word delivered, or refused with a NACK to its source (R17, R34); a poisoned word that crosses is counted. -/
def State.deliver (s : State) (w : FWord) (names : WordTarget) : State :=
  if s.portUp w.dest.toNat names then
    let s := if w.poison ≠ 0 then s.incSat F.FRET_POISON_CNT_COUNT else s
    s.emit (.word w)
  else
    let s := if unmappedTarget names then s else s.incSat (F.FRET_PORT_STAT_NACK_CNT w.dest.toNat)
    s.emit (.word (nackOf w))

/-- WORD_CROSSING (R16): `offered` joins the end of its lane and the lane's first word crosses. -/
def State.wordCrossing (s : State) (src dst : Nat) (offered : Option FWord) (names : WordTarget) (cyclePs load : Nat) :
    State :=
  match s.lane src dst ++ offered.toList with
  | [] => s
  | w :: rest => (((s.setLane src dst rest).portMeans src cyclePs load).deliver w names)

/-- LOGIC_POWER_TRIM (R29). -/
def State.powerTrim (s : State) (mean : Nat) : State :=
  if s.allOn [0, 49] then
    let s := s.wr F.SYS_PWR_LOGIC_POWER mean
    if 6150 ≤ mean then
      ({ s with sys := { s.sys with trim := min 2 (s.sys.trim + 1) } }).wr F.SYS_PWR_LOGIC_TRIM_ACTIVE 1
    else s
  else s

/-- TRIM_END (R29). -/
def State.trimEnd (s : State) (mean belowMs : Nat) : State :=
  if s.allOn [0, 49] then
    let s := s.wr F.SYS_PWR_LOGIC_POWER mean
    if mean < 6000 ∧ 100 ≤ belowMs then
      ({ s with sys := { s.sys with trim := 0 } }).wr F.SYS_PWR_LOGIC_TRIM_ACTIVE 0
    else s
  else s

end Sys2Proof.Machine
end

