-- ==== Sys2Proof/Machine/ExecReg.lean ====
section
/-!
DEFINITION. Machine/ExecReg.lean: the meanings of the commands of
register accesses, the Fretboard and the trim of the logic power. Each is one act of its unit with the command's
operands; `finish` ends it.
-/
namespace Sys2Proof.Machine

/-- REGISTER_WRITE (R41). -/
def execRegisterWrite (req : Fin 36) (addr : BitVec 40) (size : Fin 65) (value : BitVec 32)
    (s : State) : Host.Outcome State Fault Refusal :=
  finish s (s.sizedWrite req.val addr.toNat size.val value.toNat)

/-- LOW_WORD_READ (R38). -/
def execLowWordRead (req : Fin 36) (addr : BitVec 40) (s : State) : Host.Outcome State Fault Refusal :=
  finish s (s.rowRead req.val addr.toNat)

/-- WORD_CROSSING (R16). -/
def execWordCrossing (src : Fin 32) (dst : Fin 32) (offered : Option FWord) (names : WordTarget)
    (cyclePs : BitVec 16) (load : BitVec 8) (s : State) : Host.Outcome State Fault Refusal :=
  finish s (s.wordCrossing src.val dst.val offered names cyclePs.toNat load.toNat)

/-- FRET_PORT_CLEAR (R17). -/
def execFretPortClear (req : Fin 36) (port : Fin 32) (s : State) : Host.Outcome State Fault Refusal :=
  finish s (s.rowWrite req.val (0x40030100 + 4 * port.val) (2 ^ 31) WriteMore.none)

/-- LOGIC_POWER_TRIM (R29). -/
def execLogicPowerTrim (mean10mW : BitVec 16) (s : State) : Host.Outcome State Fault Refusal :=
  finish s (s.powerTrim mean10mW.toNat)

/-- TRIM_END (R29). -/
def execTrimEnd (mean10mW : BitVec 16) (belowMs : Nat) (s : State) : Host.Outcome State Fault Refusal :=
  finish s (s.trimEnd mean10mW.toNat belowMs)

end Sys2Proof.Machine
end

