-- ==== Sys2Proof/Machine/ExecRestr.lean ====
section
/-!
DEFINITION. Machine/ExecRestr.lean: the meanings of the commands of
restringing. Each is one act of its unit with the command's
operands; `finish` ends it.
-/
namespace Sys2Proof.Machine

/-- ARM (R474). -/
def execRestrArm (req : Fin 36) (key : BitVec 16) (s : State) : Host.Outcome State Fault Refusal :=
  finish s (s.rowWrite req.val 0x40150010 (key.toNat * 2 ^ 16 + 1) WriteMore.none)

/-- DISARM (R474). -/
def execRestrDisarm (req : Fin 36) (key : BitVec 16) (s : State) : Host.Outcome State Fault Refusal :=
  finish s (s.rowWrite req.val 0x40150010 (key.toNat * 2 ^ 16 + 2) WriteMore.none)

/-- CONFIRM (R479). -/
def execRestrConfirm (req : Fin 36) (key : BitVec 16) (s : State) : Host.Outcome State Fault Refusal :=
  finish s (s.rowWrite req.val 0x40150010 (key.toNat * 2 ^ 16 + 3) WriteMore.none)

/-- VERIFY (R469). -/
def execRestrVerify (req : Fin 36) (key : BitVec 16) (s : State) : Host.Outcome State Fault Refusal :=
  finish s (s.rowWrite req.val 0x40150010 (key.toNat * 2 ^ 16 + 4) WriteMore.none)

/-- ERASE (R466). -/
def execRestrErase (req : Fin 36) (key : BitVec 16) (s : State) : Host.Outcome State Fault Refusal :=
  finish s (s.rowWrite req.val 0x40150010 (key.toNat * 2 ^ 16 + 5) WriteMore.none)

/-- RESTR_FEED_CTRL (R469). -/
def execRestrFeedCtrl (req : Fin 36) (target : Fin 32) (block : BitVec 16)
    (s : State) : Host.Outcome State Fault Refusal :=
  finish s (s.rowWrite req.val 0x40150028 (block.toNat * 2 ^ 16 + target.val) WriteMore.none)

/-- RESTR_FEED_DATA (R469). -/
def execRestrFeedData (req : Fin 36) (data : BitVec 32) (flashFails : Nat)
    (s : State) : Host.Outcome State Fault Refusal :=
  finish s (s.rowWrite req.val 0x4015002C data.toNat ⟨flashFails, true⟩)

/-- FRAGMENT (R470). -/
def execRestrFragment (source : BitVec 14) (target : Fin 17) (block : BitVec 16) (imageId : BitVec 32)
    (frag : Fin 8) (data : List Byte) (flashFails : Nat) (s : State) : Host.Outcome State Fault Refusal :=
  finish s (s.fragment source.toNat target.val block.toNat imageId.toNat frag.val data flashFails)

/-- WANT (R471). -/
def execRestrWant (src : BitVec 14) (target : Fin 17) (imageId : BitVec 32) (blocks : List (BitVec 16))
    (s : State) : Host.Outcome State Fault Refusal :=
  finish s (s.want src.toNat target.val imageId.toNat (blocks.map (·.toNat)))

/-- WANT_SEND (R471). -/
def execRestrWantSend (target : Fin 17) (sinceMs : Nat) (s : State) : Host.Outcome State Fault Refusal :=
  finish s (s.wantSend target.val sinceMs)

/-- PARTIAL_BLOCK_DISCARD (R471). -/
def execPartialBlockDiscard (target : Fin 17) (block : BitVec 16) (idleS : Nat)
    (s : State) : Host.Outcome State Fault Refusal :=
  finish s (s.partialDiscard target.val block.toNat idleS)

/-- ACTIVATION (R475). -/
def execActivation (s : State) : Host.Outcome State Fault Refusal :=
  finish s s.activation

/-- CONFIRM_WINDOW_CLOSE (R479). -/
def execConfirmWindowClose (minutes : Nat) (s : State) : Host.Outcome State Fault Refusal :=
  finish s (s.confirmClose minutes)

/-- NIMG_START (R483). -/
def execNimgStart (req : Fin 36) (entry : Fin 16) (target : BitVec 14) (s : State) : Host.Outcome State Fault Refusal :=
  finish s (s.rowWrite req.val 0x40150034 (1 * 2 ^ 28 + entry.val * 2 ^ 24 + target.toNat) WriteMore.none)

/-- NIMG_ABORT (R483). -/
def execNimgAbort (req : Fin 36) (entry : Fin 16) (s : State) : Host.Outcome State Fault Refusal :=
  finish s (s.rowWrite req.val 0x40150034 (2 * 2 ^ 28 + entry.val * 2 ^ 24) WriteMore.none)

/-- NIMG_ERASE (R480). -/
def execNimgErase (req : Fin 36) (entry : Fin 16) (s : State) : Host.Outcome State Fault Refusal :=
  finish s (s.rowWrite req.val 0x40150034 (3 * 2 ^ 28 + entry.val * 2 ^ 24) WriteMore.none)

/-- DISTRIBUTION_ROUND_END (R483). -/
def execDistributionRoundEnd (waitS : Nat) (s : State) : Host.Outcome State Fault Refusal :=
  finish s (s.roundEnd waitS)

/-- IMG_STATUS (R481). -/
def execImgStatus (node : BitVec 14) (state : Byte) (imageId : BitVec 32) (_have_ : BitVec 16)
    (firstMissing : BitVec 16) (bitmap : BitVec 256) (s : State) : Host.Outcome State Fault Refusal :=
  finish s (s.imgStatus node.toNat state.toNat imageId.toNat firstMissing.toNat bitmap.toNat)

end Sys2Proof.Machine
end

