-- ==== Sys2Proof/Machine/ExecRing.lean ====
section
/-!
DEFINITION. Machine/ExecRing.lean: the meanings of the commands of
rings and path redundancy. Each is one act of its unit with the command's
operands; `finish` ends it.
-/
namespace Sys2Proof.Machine

/-- RING_CYCLE_BOUNDARY (R356). -/
def execRingCycleBoundary (s : State) : Host.Outcome State Fault Refusal :=
  finish s s.ringCycle

/-- CONTINUITY_RECEIVED (R351). -/
def execContinuityReceived (p : Fin 4) (f : RingFrame) (rxNs : BitVec 64)
    (s : State) : Host.Outcome State Fault Refusal :=
  finish s (s.contReceived p.val f rxNs.toNat)

/-- CONTINUITY_MISS (R351). -/
def execContinuityMiss (p : Fin 4) (sinceUs : BitVec 16) (takeTenthUs : BitVec 16)
    (s : State) : Host.Outcome State Fault Refusal :=
  finish s (s.contMiss p.val sinceUs.toNat takeTenthUs.toNat)

/-- RING_DATA_RECEIVED (R343). -/
def execRingDataReceived (path : Fin 2) (f : RingFrame) (icvOk : Bool) (s : State) : Host.Outcome State Fault Refusal :=
  finish s (s.ringData path.val f icvOk)

/-- RING_TRANSMIT (R342). -/
def execRingTransmit (tc : Fin 4) (transit : Bool) (s : State) : Host.Outcome State Fault Refusal :=
  finish s (s.ringTransmit tc.val transit)

/-- CREDIT_RECEIVED (R348). -/
def execCreditReceived (path : Fin 2) (f : RingFrame) (s : State) : Host.Outcome State Fault Refusal :=
  finish s (s.creditReceived path.val f)

/-- PROBE_SEND (R352). -/
def execProbeSend (s : State) : Host.Outcome State Fault Refusal :=
  finish s s.probeSend

/-- PROBE_RECEIVED (R352). -/
def execProbeReceived (path : Fin 2) (f : RingFrame) (rttTenthUs : BitVec 16)
    (s : State) : Host.Outcome State Fault Refusal :=
  finish s (s.probeReceived path.val f rttTenthUs.toNat)

/-- ANNOUNCE_RECEIVED (R357). -/
def execAnnounceReceived (p : Fin 4) (f : RingFrame) (takeTenthUs : BitVec 16)
    (s : State) : Host.Outcome State Fault Refusal :=
  finish s (s.announceReceived p.val f takeTenthUs.toNat)

/-- JOIN_RECEIVED (R361). -/
def execJoinReceived (p : Fin 4) (f : RingFrame) (s : State) : Host.Outcome State Fault Refusal :=
  finish s (s.joinReceived p.val f)

/-- PATH_JOIN (R361). -/
def execPathJoin (path : Fin 2) (s : State) : Host.Outcome State Fault Refusal :=
  finish s (s.pathJoin path.val)

/-- JOIN_DUP_RECEIVED (R361). -/
def execJoinDupReceived (path : Fin 2) (s : State) : Host.Outcome State Fault Refusal :=
  finish s (s.joinDup path.val)

/-- JOIN_CONFIRM (R361). -/
def execJoinConfirm (path : Fin 2) (ms : Nat) (s : State) : Host.Outcome State Fault Refusal :=
  finish s (s.joinConfirm path.val ms)

/-- ACTIVE_PATH_SEARCH_END (R361). -/
def execActivePathSearchEnd (path : Fin 2) (ms : Nat) (s : State) : Host.Outcome State Fault Refusal :=
  finish s (s.searchEnd path.val ms)

/-- REVERT (R362). -/
def execRevert (sinceS : Nat) (takeTenthUs : BitVec 16) (s : State) : Host.Outcome State Fault Refusal :=
  finish s (s.ringRevert sinceS takeTenthUs.toNat)

/-- SWITCH_TO_A (R362). -/
def execSwitchToA (req : Fin 36) (key : BitVec 16) (takeTenthUs : BitVec 16)
    (s : State) : Host.Outcome State Fault Refusal :=
  finish s (s.rowWrite req.val 0x4010000C (key.toNat * 2 ^ 16 + 1) ⟨takeTenthUs.toNat, true⟩)

/-- SWITCH_TO_B (R362). -/
def execSwitchToB (req : Fin 36) (key : BitVec 16) (takeTenthUs : BitVec 16)
    (s : State) : Host.Outcome State Fault Refusal :=
  finish s (s.rowWrite req.val 0x4010000C (key.toNat * 2 ^ 16 + 2) ⟨takeTenthUs.toNat, true⟩)

/-- RETRY_GRANT (R355). -/
def execRetryGrant (req : Fin 36) (key : BitVec 16) (follows : Bool) (s : State) : Host.Outcome State Fault Refusal :=
  finish s (s.rowWrite req.val 0x4010000C (key.toNat * 2 ^ 16 + 3) ⟨0, follows⟩)

/-- CAPO_STUCK (R355). -/
def execCapoStuck (notSeenTenthUs : Nat) (equalTenthUs : Nat) (s : State) : Host.Outcome State Fault Refusal :=
  finish s (s.capoStuck notSeenTenthUs equalTenthUs)

/-- CAPO_REGRANT (R355). -/
def execCapoRegrant (sinceMs : Nat) (follows : Bool) (s : State) : Host.Outcome State Fault Refusal :=
  finish s (s.capoRegrant sinceMs follows)

/-- RING_CTRL_EN (R364). -/
def execRingCtrlEn (req : Fin 36) (path : Fin 2) (value : BitVec 32) (s : State) : Host.Outcome State Fault Refusal :=
  finish s (s.rowWrite req.val (0x400E0000 + 0x10000 * path.val) value.toNat WriteMore.none)

/-- RING_AUDIT_SNAP (R349). -/
def execRingAuditSnap (req : Fin 36) (path : Fin 2) (s : State) : Host.Outcome State Fault Refusal :=
  finish s (s.rowWrite req.val (0x400E0050 + 0x10000 * path.val) 1 WriteMore.none)

end Sys2Proof.Machine
end

