-- ==== Sys2Proof/Machine/ExecScan.lean ====
section
/-!
DEFINITION. Machine/ExecScan.lean: the meanings of the commands of
the scan engine. Each is one act of its unit with the command's
operands; `finish` ends it.
-/
namespace Sys2Proof.Machine

/-- TASK_START (R279). -/
def execTaskStart (io : IoPins) (s : State) : Host.Outcome State Fault Refusal :=
  finish s (s.taskStart io)

/-- NODE_LATCH_WAIT_END (R282). -/
def execNodeLatchWaitEnd (io : IoPins) (s : State) : Host.Outcome State Fault Refusal :=
  finish s (s.latchWaitEnd io)

/-- TASK_OVERRUN (R294). -/
def execTaskOverrun (n : Fin 16) (s : State) : Host.Outcome State Fault Refusal :=
  finish s (s.taskOverrun n.val)

/-- SCAN_WATCHDOG_TRIP (R294). -/
def execScanWatchdogTrip (n : Fin 16) (s : State) : Host.Outcome State Fault Refusal :=
  finish s (s.watchdogTrip n.val)

/-- HOLD_LIMIT_EXPIRY (R293). -/
def execHoldLimitExpiry (heldS : Nat) (s : State) : Host.Outcome State Fault Refusal :=
  finish s (s.holdLimit heldS)

/-- RUN (R289). -/
def execScanRun (req : Fin 36) (key : BitVec 16) (s : State) : Host.Outcome State Fault Refusal :=
  finish s (s.rowWrite req.val 0x400C0008 (key.toNat * 2 ^ 16 + 1) WriteMore.none)

/-- STOP (R289). -/
def execScanStop (req : Fin 36) (key : BitVec 16) (s : State) : Host.Outcome State Fault Refusal :=
  finish s (s.rowWrite req.val 0x400C0008 (key.toNat * 2 ^ 16 + 2) WriteMore.none)

/-- HOLD (R289). -/
def execScanHold (req : Fin 36) (key : BitVec 16) (s : State) : Host.Outcome State Fault Refusal :=
  finish s (s.rowWrite req.val 0x400C0008 (key.toNat * 2 ^ 16 + 3) WriteMore.none)

/-- RESUME (R289). -/
def execScanResume (req : Fin 36) (key : BitVec 16) (s : State) : Host.Outcome State Fault Refusal :=
  finish s (s.rowWrite req.val 0x400C0008 (key.toNat * 2 ^ 16 + 4) WriteMore.none)

/-- STEP (R289). -/
def execScanStep (req : Fin 36) (key : BitVec 16) (s : State) : Host.Outcome State Fault Refusal :=
  finish s (s.rowWrite req.val 0x400C0008 (key.toNat * 2 ^ 16 + 5) WriteMore.none)

/-- CLEAR_FAULT (R289). -/
def execClearFault (req : Fin 36) (key : BitVec 16) (s : State) : Host.Outcome State Fault Refusal :=
  finish s (s.rowWrite req.val 0x400C0008 (key.toNat * 2 ^ 16 + 6) WriteMore.none)

/-- CHECK_PROGRAM (R290). -/
def execCheckProgram (req : Fin 36) (key : BitVec 16) (s : State) : Host.Outcome State Fault Refusal :=
  finish s (s.rowWrite req.val 0x400C0008 (key.toNat * 2 ^ 16 + 7) WriteMore.none)

/-- RESERVED_OPCODE (R302). -/
def execReservedOpcode (word : BitVec 32) (s : State) : Host.Outcome State Fault Refusal :=
  finish s (s.reservedOpcode word.toNat)

/-- FETCH_BEYOND_PROG_LEN (R308). -/
def execFetchBeyondProgLen (s : State) : Host.Outcome State Fault Refusal :=
  finish s s.fetchBeyond

end Sys2Proof.Machine
end

