-- ==== Sys2Proof/Machine/ExecSlot.lean ====
section
/-!
DEFINITION. Machine/ExecSlot.lean: the meanings of the commands of
the slot bus, the loop test and bypass, the outputs of J7. Each is one act of its unit with the command's
operands; `finish` ends it.
-/
namespace Sys2Proof.Machine

/-- PING (R71). -/
def execPing (addr : BitVec 6) (quietUs : Nat) (s : State) : Host.Outcome State Fault Refusal :=
  finish s (s.slotPing addr.toNat quietUs)

/-- WAKE (R73). -/
def execWake (addr : BitVec 6) (level : Byte) (inWindow : Bool) (quietUs : Nat)
    (s : State) : Host.Outcome State Fault Refusal :=
  finish s (s.slotWake addr.toNat level.toNat inWindow quietUs)

/-- STATUS (R71). -/
def execStatus (addr : BitVec 6) (quietUs : Nat) (s : State) : Host.Outcome State Fault Refusal :=
  finish s (s.slotStatus addr.toNat quietUs)

/-- SLOT_BAD_REQUEST (R71). -/
def execSlotBadRequest (addr : BitVec 6) (cmd : Byte) (payload : List Byte) (quietUs : Nat)
    (s : State) : Host.Outcome State Fault Refusal :=
  finish s (s.slotBad addr.toNat cmd.toNat payload quietUs)

/-- SLOT_FRAME_DISCARD (R69). -/
def execSlotFrameDiscard (why : FrameError) (quietUs : Nat) (s : State) : Host.Outcome State Fault Refusal :=
  finish s (s.slotDiscard why quietUs)

/-- SLOT_RESPONSE_SEND (R72). -/
def execSlotResponseSend (s : State) : Host.Outcome State Fault Refusal :=
  finish s s.slotSend

/-- SLOT_BUS_COLLISION (R534). -/
def execSlotBusCollision (s : State) : Host.Outcome State Fault Refusal :=
  finish s s.slotCollision

/-- SLOT_FRAME_TIMEOUT (R74). -/
def execSlotFrameTimeout (periods : Nat) (quietUs : Nat) (s : State) : Host.Outcome State Fault Refusal :=
  finish s (s.slotTimeout periods quietUs)

/-- IDLE_PATTERN (R74). -/
def execIdlePattern (transitions : Nat) (quietUs : Nat) (s : State) : Host.Outcome State Fault Refusal :=
  finish s (s.slotIdle transitions quietUs)

/-- LOOP_TEST_START (R76). -/
def execLoopTestStart (ring : Fin 2) (s : State) : Host.Outcome State Fault Refusal :=
  finish s (s.loopStart ring.val)

/-- LOOP_TEST_END (R76). -/
def execLoopTestEnd (ring : Fin 2) (eastOk : Bool) (westOk : Bool) (ms : Nat)
    (s : State) : Host.Outcome State Fault Refusal :=
  finish s (s.loopEnd ring.val eastOk westOk ms s.joinable)

/-- LOOP_TEST_RETRY (R77). -/
def execLoopTestRetry (ring : Fin 2) (sinceMs : Nat) (s : State) : Host.Outcome State Fault Refusal :=
  finish s (s.loopRetry ring.val sinceMs)

/-- SLOT_BYPASS_CTRL (R76). -/
def execSlotBypassCtrl (req : Fin 36) (holdA : Bool) (holdB : Bool) (s : State) : Host.Outcome State Fault Refusal :=
  finish s (s.rowWrite req.val 0x40190004 (b2n holdB * 2 + b2n holdA) WriteMore.none)

/-- BYPASS_STATE_MISMATCH (R78). -/
def execBypassStateMismatch (ring : Fin 2) (level : Bool) (ms : Nat) (s : State) : Host.Outcome State Fault Refusal :=
  finish s (s.bypassMismatch ring.val level ms)

/-- DO_SHORT (R527). -/
def execDoShort (n : Fin 16) (s : State) : Host.Outcome State Fault Refusal :=
  finish s (s.doShort n.val)

/-- DO_SHORT_RETRY (R527). -/
def execDoShortRetry (n : Fin 16) (stillShort : Bool) (sinceMs : Nat) (s : State) : Host.Outcome State Fault Refusal :=
  finish s (s.doRetry n.val stillShort sinceMs)

/-- COIL_OVERCURRENT (R527). -/
def execCoilOvercurrent (f : Fin 12) (mA : Nat) (s : State) : Host.Outcome State Fault Refusal :=
  finish s (s.coilOver f.val mA)

/-- FRAME_FOR_OTHER_SLOT (R70). -/
def execFrameForOtherSlot (addr : BitVec 6) (resp : Bool) (quietUs : Nat)
    (s : State) : Host.Outcome State Fault Refusal :=
  finish s (s.slotOther addr.toNat resp quietUs)

end Sys2Proof.Machine
end

