-- ==== Sys2Proof/Machine/ExecSound.lean ====
section
/-!
DEFINITION. Machine/ExecSound.lean: the meanings of the commands of
Sounding. Each is one act of its unit with the command's
operands; `finish` ends it.
-/
namespace Sys2Proof.Machine

/-- CAPTURE_COMPLETE (R259). -/
def execCaptureComplete (f : Fin 12) (chirp : Bool) (samples : List Int) (ref : List Int) (coilMs : Nat)
    (mismatchS : Nat) (crosstalk : Bool) (poison : Bool) (cutOff : Bool) (s : State) : Host.Outcome State Fault Refusal :=
  finish s (s.captureComplete f.val (b2n chirp) samples ref coilMs mismatchS crosstalk poison cutOff)

/-- CHIRP (R261). -/
def execChirp (f : Fin 12) (s : State) : Host.Outcome State Fault Refusal :=
  finish s (s.chirp f.val)

/-- CAPTURE_CORRELATE (R265). -/
def execCaptureCorrelate (f : Fin 12) (s : State) : Host.Outcome State Fault Refusal :=
  finish s (s.captureCorrelate f.val)

/-- REFLECTOGRAM_PERIOD_END (R267). -/
def execReflectogramPeriodEnd (f : Fin 12) (chirp : Bool) (deEnergised : Bool) (sinceS : Nat)
    (s : State) : Host.Outcome State Fault Refusal :=
  finish s (s.periodEnd f.val (b2n chirp) (b2n deEnergised) sinceS)

/-- LEARN (R269). -/
def execSoundLearn (req : Fin 36) (f : Fin 12) (chirp : Bool) (deEnergised : Bool)
    (s : State) : Host.Outcome State Fault Refusal :=
  finish s (s.rowWrite req.val 0x400B0018
    (1 * 2 ^ 28 + b2n deEnergised * 2 ^ 5 + b2n chirp * 2 ^ 4 + f.val) WriteMore.none)

/-- DISCARD (R270). -/
def execSoundDiscard (req : Fin 36) (f : Fin 12) (chirp : Bool) (deEnergised : Bool)
    (s : State) : Host.Outcome State Fault Refusal :=
  finish s (s.rowWrite req.val 0x400B0018
    (2 * 2 ^ 28 + b2n deEnergised * 2 ^ 5 + b2n chirp * 2 ^ 4 + f.val) WriteMore.none)

/-- ACCEPT (R270). -/
def execSoundAccept (req : Fin 36) (entry : Fin 32) (s : State) : Host.Outcome State Fault Refusal :=
  finish s (s.rowWrite req.val 0x400B0018 (3 * 2 ^ 28 + entry.val * 2 ^ 8) WriteMore.none)

/-- BASELINE_STORE (R270). -/
def execBaselineStore (f : Fin 12) (chirp : Bool) (deEnergised : Bool) (s : State) : Host.Outcome State Fault Refusal :=
  finish s (s.baselineStore (4 * f.val + 2 * b2n chirp + b2n deEnergised))

end Sys2Proof.Machine
end

