-- ==== Sys2Proof/Machine/ExecStart.lean ====
section
/-!
DEFINITION. Machine/ExecStart.lean: the meanings of the commands of
resets, start-up, the Primer, insertion and removal. Each is one act of its unit with the command's
operands; `finish` ends it.
-/
namespace Sys2Proof.Machine

/-- SUPPLY_MATE (R75). -/
def execSupplyMate (s : State) : Host.Outcome State Fault Refusal :=
  finish s s.supplyMate

/-- PRESENT_MATE (R75). -/
def execPresentMate (side : SlotSide) (s : State) : Host.Outcome State Fault Refusal :=
  finish s (s.presentMate side)

/-- RESET_RELEASE (R75). -/
def execResetRelease (lowMs : Nat) (s : State) : Host.Outcome State Fault Refusal :=
  finish s (s.resetRelease lowMs)

/-- POWER_ON_RESET (R84). -/
def execPowerOnReset (s : State) : Host.Outcome State Fault Refusal :=
  finish s s.powerOnReset

/-- MODULE_RESET (R84). -/
def execModuleReset (cause : ResetCause) (s : State) : Host.Outcome State Fault Refusal :=
  finish s (s.moduleResetFor cause)

/-- FIRMWARE_RESTART (R84). -/
def execFirmwareRestart (byWatchdog : Bool) (s : State) : Host.Outcome State Fault Refusal :=
  finish s (s.firmwareRestart (if byWatchdog then 8 else 7))

/-- ISLAND_LOSS (R84). -/
def execIslandLoss (s : State) : Host.Outcome State Fault Refusal :=
  finish s s.islandLoss

/-- SYS_RESTART_FIRMWARE (R84). -/
def execSysRestartFirmware (req : Fin 36) (key : BitVec 16) (s : State) : Host.Outcome State Fault Refusal :=
  finish s (s.rowWrite req.val 0x400000D4 (key.toNat * 2 ^ 16 + 1) WriteMore.none)

/-- SYS_RESTART_MODULE (R84). -/
def execSysRestartModule (req : Fin 36) (key : BitVec 16) (s : State) : Host.Outcome State Fault Refusal :=
  finish s (s.rowWrite req.val 0x400000D4 (key.toNat * 2 ^ 16 + 2) WriteMore.none)

/-- WATCHDOG_KICK (R85). -/
def execWatchdogKick (req : Fin 36) (value : BitVec 16) (s : State) : Host.Outcome State Fault Refusal :=
  finish s (s.rowWrite req.val 0x400000D8 value.toNat WriteMore.none)

/-- WATCHDOG_EXPIRY (R85). -/
def execWatchdogExpiry (sinceKickMs : Nat) (s : State) : Host.Outcome State Fault Refusal :=
  finish s (s.watchdogExpiry sinceKickMs)

/-- BOOT_LIMIT_EXPIRY (R85). -/
def execBootLimitExpiry (sinceReleaseMs : Nat) (s : State) : Host.Outcome State Fault Refusal :=
  finish s (s.bootLimit sinceReleaseMs)

/-- COLD_START (R88). -/
def execColdStart (offPeriods : Nat) (selfTestFailures : Nat) (okA : Bool) (okB : Bool) (primerUs : BitVec 32)
    (readDone : Bool) (s : State) : Host.Outcome State Fault Refusal :=
  finish s (s.coldStart offPeriods selfTestFailures okA okB primerUs.toNat readDone)

/-- SURVIVAL_SET_REACHED (R90). -/
def execSurvivalSetReached (ms : BitVec 16) (s : State) : Host.Outcome State Fault Refusal :=
  finish s (s.survivalReached ms.toNat)

/-- FULL_SERVICE_BRINGUP (R99). -/
def execFullServiceBringup (failed : List (Fin 50)) (s : State) : Host.Outcome State Fault Refusal :=
  finish s (s.fullBringup (failed.map (·.val)))

/-- FULL_SERVICE_REACHED (R100). -/
def execFullServiceReached (ms : BitVec 16) (s : State) : Host.Outcome State Fault Refusal :=
  finish s (s.fullReached ms.toNat)

/-- PRIMER_READ (R63). -/
def execPrimerRead (us : BitVec 32) (done : Bool) (s : State) : Host.Outcome State Fault Refusal :=
  finish s (s.primerRead us.toNat done)

/-- SETTINGS_COPY_WRITE (R94). -/
def execSettingsCopyWrite (s : State) : Host.Outcome State Fault Refusal :=
  finish s s.settingsCopy

/-- PRIMER_WRITE_BACK (R65). -/
def execPrimerWriteBack (pages : Nat) (s : State) : Host.Outcome State Fault Refusal :=
  finish s (s.writeBackPages pages)

/-- PRIMER_WB_COMPLETE (R65). -/
def execPrimerWbComplete (compareOk : Bool) (s : State) : Host.Outcome State Fault Refusal :=
  finish s (s.writeBackEnd compareOk)

/-- EJECT_PREPARATION (R80). -/
def execEjectPreparation (highUs : Nat) (prepUs : Nat) (s : State) : Host.Outcome State Fault Refusal :=
  finish s (s.ejectPrep highUs prepUs)

/-- PRESENCE_LOSS (R81). -/
def execPresenceLoss (highUs : Nat) (prepUs : Nat) (s : State) : Host.Outcome State Fault Refusal :=
  finish s (s.presenceLoss highUs prepUs)

/-- PRESENCE_RETURN (R81). -/
def execPresenceReturn (s : State) : Host.Outcome State Fault Refusal :=
  finish s s.presenceReturn

/-- EJECT_RESTART (R82). -/
def execEjectRestart (lowMs : Nat) (s : State) : Host.Outcome State Fault Refusal :=
  finish s (s.ejectRestart lowMs)

/-- PRESENT_N_BREAK (R94). -/
def execPresentNBreak (s : State) : Host.Outcome State Fault Refusal :=
  finish s s.presentBreak

end Sys2Proof.Machine
end

