-- ==== Sys2Proof/Machine/ExecSym.lean ====
section
/-!
DEFINITION. Machine/ExecSym.lean: the meanings of the commands of
Sympath. Each is one act of its unit with the command's
operands; `finish` ends it.
-/
namespace Sys2Proof.Machine

/-- SYM_EVENT (R218). -/
def execSymEvent (node : BitVec 14) (poison : Bool) (latencyNs : BitVec 16)
    (s : State) : Host.Outcome State Fault Refusal :=
  finish s (s.symEvent node.toNat poison latencyNs.toNat)

/-- SYM_COMMAND_RESULT (R224). -/
def execSymCommandResult (k : Fin 32) (s : State) : Host.Outcome State Fault Refusal :=
  finish s (s.symResult k.val)

/-- GRAPH_LOAD (R217). -/
def execGraphLoad (addr : BitVec 40) (s : State) : Host.Outcome State Fault Refusal :=
  finish s (s.graphLoad addr.toNat)

/-- GRAPH_LOADED (R217). -/
def execGraphLoaded (us : BitVec 32) (s : State) : Host.Outcome State Fault Refusal :=
  finish s (s.graphLoaded us.toNat)

/-- SYM_STAMP_REFRESH (R510). -/
def execSymStampRefresh (s : State) : Host.Outcome State Fault Refusal :=
  finish s s.symRefresh

end Sys2Proof.Machine
end

