-- ==== Sys2Proof/Machine/ExecTab.lean ====
section
/-!
DEFINITION. Machine/ExecTab.lean: the meanings of the commands of
the instructions of Tablature. Each is one act of its unit with the command's
operands; `finish` ends it.
-/
namespace Sys2Proof.Machine

/-- NOP (R303). -/
def execTabNop (opd : BitVec 24) (s : State) : Host.Outcome State Fault Refusal :=
  finish s (s.tabRun 0x00 tNop opd.toNat)

/-- BLD (R304). -/
def execTabBld (opd : BitVec 24) (s : State) : Host.Outcome State Fault Refusal :=
  finish s (s.tabRun 0x10 tBld opd.toNat)

/-- BLDN (R304). -/
def execTabBldn (opd : BitVec 24) (s : State) : Host.Outcome State Fault Refusal :=
  finish s (s.tabRun 0x11 tBldn opd.toNat)

/-- BAND (R304). -/
def execTabBand (opd : BitVec 24) (s : State) : Host.Outcome State Fault Refusal :=
  finish s (s.tabRun 0x12 tBand opd.toNat)

/-- BANDN (R304). -/
def execTabBandn (opd : BitVec 24) (s : State) : Host.Outcome State Fault Refusal :=
  finish s (s.tabRun 0x13 tBandn opd.toNat)

/-- BOR (R304). -/
def execTabBor (opd : BitVec 24) (s : State) : Host.Outcome State Fault Refusal :=
  finish s (s.tabRun 0x14 tBor opd.toNat)

/-- BORN (R304). -/
def execTabBorn (opd : BitVec 24) (s : State) : Host.Outcome State Fault Refusal :=
  finish s (s.tabRun 0x15 tBorn opd.toNat)

/-- BXOR (R304). -/
def execTabBxor (opd : BitVec 24) (s : State) : Host.Outcome State Fault Refusal :=
  finish s (s.tabRun 0x16 tBxor opd.toNat)

/-- BXORN (R304). -/
def execTabBxorn (opd : BitVec 24) (s : State) : Host.Outcome State Fault Refusal :=
  finish s (s.tabRun 0x17 tBxorn opd.toNat)

/-- BST (R304). -/
def execTabBst (opd : BitVec 24) (s : State) : Host.Outcome State Fault Refusal :=
  finish s (s.tabRun 0x18 tBst opd.toNat)

/-- BSTN (R304). -/
def execTabBstn (opd : BitVec 24) (s : State) : Host.Outcome State Fault Refusal :=
  finish s (s.tabRun 0x19 tBstn opd.toNat)

/-- BSET (R304). -/
def execTabBset (opd : BitVec 24) (s : State) : Host.Outcome State Fault Refusal :=
  finish s (s.tabRun 0x1A tBset opd.toNat)

/-- BCLR (R304). -/
def execTabBclr (opd : BitVec 24) (s : State) : Host.Outcome State Fault Refusal :=
  finish s (s.tabRun 0x1B tBclr opd.toNat)

/-- BRISE (R304). -/
def execTabBrise (opd : BitVec 24) (s : State) : Host.Outcome State Fault Refusal :=
  finish s (s.tabRun 0x1C tBrise opd.toNat)

/-- BFALL (R304). -/
def execTabBfall (opd : BitVec 24) (s : State) : Host.Outcome State Fault Refusal :=
  finish s (s.tabRun 0x1D tBfall opd.toNat)

/-- BPUSH (R305). -/
def execTabBpush (opd : BitVec 24) (s : State) : Host.Outcome State Fault Refusal :=
  finish s (s.tabRun 0x20 tBpush opd.toNat)

/-- BPOPA (R305). -/
def execTabBpopa (opd : BitVec 24) (s : State) : Host.Outcome State Fault Refusal :=
  finish s (s.tabRun 0x21 tBpopa opd.toNat)

/-- BPOPO (R305). -/
def execTabBpopo (opd : BitVec 24) (s : State) : Host.Outcome State Fault Refusal :=
  finish s (s.tabRun 0x22 tBpopo opd.toNat)

/-- BPOPX (R305). -/
def execTabBpopx (opd : BitVec 24) (s : State) : Host.Outcome State Fault Refusal :=
  finish s (s.tabRun 0x23 tBpopx opd.toNat)

/-- BNOT (R303). -/
def execTabBnot (opd : BitVec 24) (s : State) : Host.Outcome State Fault Refusal :=
  finish s (s.tabRun 0x24 tBnot opd.toNat)

/-- BONE (R303). -/
def execTabBone (opd : BitVec 24) (s : State) : Host.Outcome State Fault Refusal :=
  finish s (s.tabRun 0x25 tBone opd.toNat)

/-- BZERO (R303). -/
def execTabBzero (opd : BitVec 24) (s : State) : Host.Outcome State Fault Refusal :=
  finish s (s.tabRun 0x26 tBzero opd.toNat)

/-- BLDOV (R303). -/
def execTabBldov (opd : BitVec 24) (s : State) : Host.Outcome State Fault Refusal :=
  finish s (s.tabRun 0x27 tBldov opd.toNat)

/-- OVCLR (R306). -/
def execTabOvclr (opd : BitVec 24) (s : State) : Host.Outcome State Fault Refusal :=
  finish s (s.tabRun 0x28 tOvclr opd.toNat)

/-- WLD (R303). -/
def execTabWld (opd : BitVec 24) (s : State) : Host.Outcome State Fault Refusal :=
  finish s (s.tabRun 0x30 tWld opd.toNat)

/-- WST (R303). -/
def execTabWst (opd : BitVec 24) (s : State) : Host.Outcome State Fault Refusal :=
  finish s (s.tabRun 0x31 tWst opd.toNat)

/-- WADD (R306). -/
def execTabWadd (opd : BitVec 24) (s : State) : Host.Outcome State Fault Refusal :=
  finish s (s.tabRun 0x32 tWadd opd.toNat)

/-- WSUB (R306). -/
def execTabWsub (opd : BitVec 24) (s : State) : Host.Outcome State Fault Refusal :=
  finish s (s.tabRun 0x33 tWsub opd.toNat)

/-- WMUL (R306). -/
def execTabWmul (opd : BitVec 24) (s : State) : Host.Outcome State Fault Refusal :=
  finish s (s.tabRun 0x34 tWmul opd.toNat)

/-- WDIV (R306). -/
def execTabWdiv (opd : BitVec 24) (s : State) : Host.Outcome State Fault Refusal :=
  finish s (s.tabRun 0x35 tWdiv opd.toNat)

/-- WMOD (R306). -/
def execTabWmod (opd : BitVec 24) (s : State) : Host.Outcome State Fault Refusal :=
  finish s (s.tabRun 0x36 tWmod opd.toNat)

/-- WAND (R303). -/
def execTabWand (opd : BitVec 24) (s : State) : Host.Outcome State Fault Refusal :=
  finish s (s.tabRun 0x37 tWand opd.toNat)

/-- WOR (R303). -/
def execTabWor (opd : BitVec 24) (s : State) : Host.Outcome State Fault Refusal :=
  finish s (s.tabRun 0x38 tWor opd.toNat)

/-- WXOR (R303). -/
def execTabWxor (opd : BitVec 24) (s : State) : Host.Outcome State Fault Refusal :=
  finish s (s.tabRun 0x39 tWxor opd.toNat)

/-- WMIN (R303). -/
def execTabWmin (opd : BitVec 24) (s : State) : Host.Outcome State Fault Refusal :=
  finish s (s.tabRun 0x3A tWmin opd.toNat)

/-- WMAX (R303). -/
def execTabWmax (opd : BitVec 24) (s : State) : Host.Outcome State Fault Refusal :=
  finish s (s.tabRun 0x3B tWmax opd.toNat)

/-- WEQ (R307). -/
def execTabWeq (opd : BitVec 24) (s : State) : Host.Outcome State Fault Refusal :=
  finish s (s.tabRun 0x40 tWeq opd.toNat)

/-- WNE (R307). -/
def execTabWne (opd : BitVec 24) (s : State) : Host.Outcome State Fault Refusal :=
  finish s (s.tabRun 0x41 tWne opd.toNat)

/-- WGT (R307). -/
def execTabWgt (opd : BitVec 24) (s : State) : Host.Outcome State Fault Refusal :=
  finish s (s.tabRun 0x42 tWgt opd.toNat)

/-- WGE (R307). -/
def execTabWge (opd : BitVec 24) (s : State) : Host.Outcome State Fault Refusal :=
  finish s (s.tabRun 0x43 tWge opd.toNat)

/-- WLT (R307). -/
def execTabWlt (opd : BitVec 24) (s : State) : Host.Outcome State Fault Refusal :=
  finish s (s.tabRun 0x44 tWlt opd.toNat)

/-- WLE (R307). -/
def execTabWle (opd : BitVec 24) (s : State) : Host.Outcome State Fault Refusal :=
  finish s (s.tabRun 0x45 tWle opd.toNat)

/-- KEQ (R307). -/
def execTabKeq (opd : BitVec 24) (s : State) : Host.Outcome State Fault Refusal :=
  finish s (s.tabRun 0x48 tKeq opd.toNat)

/-- KNE (R307). -/
def execTabKne (opd : BitVec 24) (s : State) : Host.Outcome State Fault Refusal :=
  finish s (s.tabRun 0x49 tKne opd.toNat)

/-- KGT (R307). -/
def execTabKgt (opd : BitVec 24) (s : State) : Host.Outcome State Fault Refusal :=
  finish s (s.tabRun 0x4A tKgt opd.toNat)

/-- KGE (R307). -/
def execTabKge (opd : BitVec 24) (s : State) : Host.Outcome State Fault Refusal :=
  finish s (s.tabRun 0x4B tKge opd.toNat)

/-- KLT (R307). -/
def execTabKlt (opd : BitVec 24) (s : State) : Host.Outcome State Fault Refusal :=
  finish s (s.tabRun 0x4C tKlt opd.toNat)

/-- KLE (R307). -/
def execTabKle (opd : BitVec 24) (s : State) : Host.Outcome State Fault Refusal :=
  finish s (s.tabRun 0x4D tKle opd.toNat)

/-- KLD (R303). -/
def execTabKld (opd : BitVec 24) (s : State) : Host.Outcome State Fault Refusal :=
  finish s (s.tabRun 0x50 tKld opd.toNat)

/-- KLDH (R303). -/
def execTabKldh (opd : BitVec 24) (s : State) : Host.Outcome State Fault Refusal :=
  finish s (s.tabRun 0x51 tKldh opd.toNat)

/-- KADD (R306). -/
def execTabKadd (opd : BitVec 24) (s : State) : Host.Outcome State Fault Refusal :=
  finish s (s.tabRun 0x52 tKadd opd.toNat)

/-- WSHL (R303). -/
def execTabWshl (opd : BitVec 24) (s : State) : Host.Outcome State Fault Refusal :=
  finish s (s.tabRun 0x53 tWshl opd.toNat)

/-- WSHR (R303). -/
def execTabWshr (opd : BitVec 24) (s : State) : Host.Outcome State Fault Refusal :=
  finish s (s.tabRun 0x54 tWshr opd.toNat)

/-- WSAR (R303). -/
def execTabWsar (opd : BitVec 24) (s : State) : Host.Outcome State Fault Refusal :=
  finish s (s.tabRun 0x55 tWsar opd.toNat)

/-- WINV (R303). -/
def execTabWinv (opd : BitVec 24) (s : State) : Host.Outcome State Fault Refusal :=
  finish s (s.tabRun 0x56 tWinv opd.toNat)

/-- PSET (R303). -/
def execTabPset (opd : BitVec 24) (s : State) : Host.Outcome State Fault Refusal :=
  finish s (s.tabRun 0x57 tPset opd.toNat)

/-- PGET (R303). -/
def execTabPget (opd : BitVec 24) (s : State) : Host.Outcome State Fault Refusal :=
  finish s (s.tabRun 0x58 tPget opd.toNat)

/-- JMP (R308). -/
def execTabJmp (opd : BitVec 24) (s : State) : Host.Outcome State Fault Refusal :=
  finish s (s.tabRun 0x60 tJmp opd.toNat)

/-- JMPT (R308). -/
def execTabJmpt (opd : BitVec 24) (s : State) : Host.Outcome State Fault Refusal :=
  finish s (s.tabRun 0x61 tJmpt opd.toNat)

/-- JMPF (R308). -/
def execTabJmpf (opd : BitVec 24) (s : State) : Host.Outcome State Fault Refusal :=
  finish s (s.tabRun 0x62 tJmpf opd.toNat)

/-- JMPZ (R308). -/
def execTabJmpz (opd : BitVec 24) (s : State) : Host.Outcome State Fault Refusal :=
  finish s (s.tabRun 0x63 tJmpz opd.toNat)

/-- JMPNZ (R308). -/
def execTabJmpnz (opd : BitVec 24) (s : State) : Host.Outcome State Fault Refusal :=
  finish s (s.tabRun 0x64 tJmpnz opd.toNat)

/-- TON (R309). -/
def execTabTon (opd : BitVec 24) (s : State) : Host.Outcome State Fault Refusal :=
  finish s (s.tabRun 0x70 tTon opd.toNat)

/-- TOF (R309). -/
def execTabTof (opd : BitVec 24) (s : State) : Host.Outcome State Fault Refusal :=
  finish s (s.tabRun 0x71 tTof opd.toNat)

/-- TP (R309). -/
def execTabTp (opd : BitVec 24) (s : State) : Host.Outcome State Fault Refusal :=
  finish s (s.tabRun 0x72 tTp opd.toNat)

/-- CTU (R310). -/
def execTabCtu (opd : BitVec 24) (s : State) : Host.Outcome State Fault Refusal :=
  finish s (s.tabRun 0x73 tCtu opd.toNat)

/-- CTD (R310). -/
def execTabCtd (opd : BitVec 24) (s : State) : Host.Outcome State Fault Refusal :=
  finish s (s.tabRun 0x74 tCtd opd.toNat)

/-- CLOAD (R310). -/
def execTabCload (opd : BitVec 24) (s : State) : Host.Outcome State Fault Refusal :=
  finish s (s.tabRun 0x75 tCload opd.toNat)

/-- CRESET (R310). -/
def execTabCreset (opd : BitVec 24) (s : State) : Host.Outcome State Fault Refusal :=
  finish s (s.tabRun 0x76 tCreset opd.toNat)

/-- SND (R312). -/
def execTabSnd (opd : BitVec 24) (s : State) : Host.Outcome State Fault Refusal :=
  finish s (s.tabRun 0x78 tSnd opd.toNat)

/-- NST (R311). -/
def execTabNst (opd : BitVec 24) (s : State) : Host.Outcome State Fault Refusal :=
  finish s (s.tabRun 0x79 tNst opd.toNat)

/-- END (R308). -/
def execTabEnd (opd : BitVec 24) (s : State) : Host.Outcome State Fault Refusal :=
  finish s (s.tabRun 0xFF tEnd opd.toNat)

end Sys2Proof.Machine
end

