-- ==== Sys2Proof/Machine/ExecTime.lean ====
section
/-!
DEFINITION. Machine/ExecTime.lean: the meanings of the commands of
timebases, PTP and the RTC. Each is one act of its unit with the command's
operands; `finish` ends it.
-/
namespace Sys2Proof.Machine

/-- PTP_SYNC_RECEIVED (R400). -/
def execPtpSyncReceived (p : Fin 5) (m : PtpMsg) (icvOk : Bool) (t2 : Int) (residence : Nat)
    (s : State) : Host.Outcome State Fault Refusal :=
  finish s (s.ptpSync p.val m icvOk t2 residence)

/-- FOLLOW_UP_RECEIVED (R400). -/
def execFollowUpReceived (p : Fin 5) (m : PtpMsg) (s : State) : Host.Outcome State Fault Refusal :=
  finish s (s.followUp p.val m)

/-- FOLLOW_UP_MISSING (R400). -/
def execFollowUpMissing (ms : Nat) (s : State) : Host.Outcome State Fault Refusal :=
  finish s (s.followUpMissing ms)

/-- DELAY_REQ_SEND (R400). -/
def execDelayReqSend (sinceUs : Nat) (t3 : Int) (s : State) : Host.Outcome State Fault Refusal :=
  finish s (s.delayReqSend sinceUs t3)

/-- DELAY_REQ_RECEIVED (R396). -/
def execDelayReqReceived (p : Fin 5) (m : PtpMsg) (icvOk : Bool) (rx : Int) (residence : Nat)
    (s : State) : Host.Outcome State Fault Refusal :=
  finish s (s.delayReq p.val m icvOk rx residence)

/-- DELAY_RESP_RECEIVED (R400). -/
def execDelayRespReceived (p : Fin 5) (m : PtpMsg) (icvOk : Bool) (s : State) : Host.Outcome State Fault Refusal :=
  finish s (s.delayResp p.val m icvOk)

/-- PTP_ANNOUNCE_RECEIVED (R396). -/
def execPtpAnnounceReceived (p : Fin 5) (m : PtpMsg) (a : PtpAnnounce) (icvOk : Bool)
    (s : State) : Host.Outcome State Fault Refusal :=
  finish s (s.ptpAnnounce p.val m a icvOk)

/-- MASTER_LOST (R401). -/
def execMasterLost (sinceAnnounceMs : Nat) (sinceSyncMs : Nat) (s : State) : Host.Outcome State Fault Refusal :=
  finish s (s.masterLost sinceAnnounceMs sinceSyncMs)

/-- PTP_SYNC_SEND (R396). -/
def execPtpSyncSend (sinceUs : Nat) (s : State) : Host.Outcome State Fault Refusal :=
  finish s (s.ptpSyncSend sinceUs)

/-- LOCAL_GM_TAKEOVER (R397). -/
def execLocalGmTakeover (sinceMs : Nat) (s : State) : Host.Outcome State Fault Refusal :=
  finish s (s.localGmTakeover sinceMs)

/-- HOLDOVER_EXPIRY (R392). -/
def execHoldoverExpiry (sec : Nat) (s : State) : Host.Outcome State Fault Refusal :=
  finish s (s.holdoverExpiry sec)

/-- ZERO_CROSSING (R388). -/
def execZeroCrossing (u1 : BitVec 16) (u2 : BitVec 16) (u3 : BitVec 16) (offsetNs : Int) (freqMHz : BitVec 24)
    (s : State) : Host.Outcome State Fault Refusal :=
  finish s (s.zeroCrossing u1.toNat u2.toNat u3.toNat offsetNs freqMHz.toNat)

/-- TB2_UPDATE (R391). -/
def execTb2Update (s : State) : Host.Outcome State Fault Refusal :=
  finish s s.tb2Update

/-- SET (R395). -/
def execTb0Set (req : Fin 36) (key : BitVec 16) (s : State) : Host.Outcome State Fault Refusal :=
  finish s (s.rowWrite req.val 0x40120044 (key.toNat * 2 ^ 16 + 1) WriteMore.none)

/-- ADJUST (R395). -/
def execTb0Adjust (req : Fin 36) (key : BitVec 16) (s : State) : Host.Outcome State Fault Refusal :=
  finish s (s.rowWrite req.val 0x40120044 (key.toNat * 2 ^ 16 + 2) WriteMore.none)

/-- TB0_SUB_READ (R385). -/
def execTb0SubRead (req : Fin 36) (s : State) : Host.Outcome State Fault Refusal :=
  finish s (s.rowRead req.val 0x40120000)

/-- TIME_PTP_CFG_EN (R410). -/
def execTimePtpCfgEn (req : Fin 36) (value : BitVec 32) (s : State) : Host.Outcome State Fault Refusal :=
  finish s (s.rowWrite req.val 0x40120080 value.toNat WriteMore.none)

/-- RTC_HALT_WRITE (R406). -/
def execRtcHaltWrite (req : Fin 36) (halt : Bool) (s : State) : Host.Outcome State Fault Refusal :=
  finish s (s.rowWrite req.val 0x40130008 (b2n halt) WriteMore.none)

/-- HALT_TIMEOUT (R406). -/
def execHaltTimeout (ticks : Nat) (s : State) : Host.Outcome State Fault Refusal :=
  finish s (s.haltTimeout ticks)

/-- OSCILLATOR_STOP (R407). -/
def execOscillatorStop (missed : Nat) (supplyLow : Bool) (s : State) : Host.Outcome State Fault Refusal :=
  finish s (s.oscStop missed supplyLow)

/-- RTC_DISCIPLINE (R408). -/
def execRtcDiscipline (sinceS : Nat) (s : State) : Host.Outcome State Fault Refusal :=
  finish s (s.rtcDiscipline sinceS)

/-- RTC_SET_AFTER_STEP (R408). -/
def execRtcSetAfterStep (s : State) : Host.Outcome State Fault Refusal :=
  finish s s.rtcAfterStep

/-- REFERENCE_TICK (R36). -/
def execReferenceTick (n : Nat) (s : State) : Host.Outcome State Fault Refusal :=
  finish s (s.referenceTick n)

/-- PTP_ANNOUNCE_SEND (R396). -/
def execPtpAnnounceSend (sinceMs : Nat) (s : State) : Host.Outcome State Fault Refusal :=
  finish s (s.ptpAnnounceSend sinceMs)

end Sys2Proof.Machine
end

