-- ==== Sys2Proof/Machine/Dispatch.lean ====
section
/-!
DEFINITION. Machine/Dispatch.lean: one arm per command of spec/opcode_table.json, in the table's order.
-/
namespace Sys2Proof.Machine

def exec (i : Instr) (s : State) : Host.Outcome State Fault Refusal :=
  match i with
  | .registerWrite req addr size value => Sys2Proof.Machine.execRegisterWrite req addr size value s
  | .lowWordRead req addr => Sys2Proof.Machine.execLowWordRead req addr s
  | .wordCrossing src dst offered names cyclePs load => Sys2Proof.Machine.execWordCrossing src dst offered names cyclePs load s
  | .fretPortClear req port => Sys2Proof.Machine.execFretPortClear req port s
  | .logicPowerTrim mean10mW => Sys2Proof.Machine.execLogicPowerTrim mean10mW s
  | .trimEnd mean10mW belowMs => Sys2Proof.Machine.execTrimEnd mean10mW belowMs s
  | .supplyMate => Sys2Proof.Machine.execSupplyMate s
  | .presentMate side => Sys2Proof.Machine.execPresentMate side s
  | .resetRelease lowMs => Sys2Proof.Machine.execResetRelease lowMs s
  | .powerOnReset => Sys2Proof.Machine.execPowerOnReset s
  | .moduleReset cause => Sys2Proof.Machine.execModuleReset cause s
  | .firmwareRestart byWatchdog => Sys2Proof.Machine.execFirmwareRestart byWatchdog s
  | .islandLoss => Sys2Proof.Machine.execIslandLoss s
  | .sysRestartFirmware req key => Sys2Proof.Machine.execSysRestartFirmware req key s
  | .sysRestartModule req key => Sys2Proof.Machine.execSysRestartModule req key s
  | .watchdogKick req value => Sys2Proof.Machine.execWatchdogKick req value s
  | .watchdogExpiry sinceKickMs => Sys2Proof.Machine.execWatchdogExpiry sinceKickMs s
  | .bootLimitExpiry sinceReleaseMs => Sys2Proof.Machine.execBootLimitExpiry sinceReleaseMs s
  | .coldStart offPeriods selfTestFailures okA okB primerUs readDone => Sys2Proof.Machine.execColdStart offPeriods selfTestFailures okA okB primerUs readDone s
  | .survivalSetReached ms => Sys2Proof.Machine.execSurvivalSetReached ms s
  | .fullServiceBringup failed => Sys2Proof.Machine.execFullServiceBringup failed s
  | .fullServiceReached ms => Sys2Proof.Machine.execFullServiceReached ms s
  | .primerRead us done => Sys2Proof.Machine.execPrimerRead us done s
  | .settingsCopyWrite => Sys2Proof.Machine.execSettingsCopyWrite s
  | .primerWriteBack pages => Sys2Proof.Machine.execPrimerWriteBack pages s
  | .primerWbComplete compareOk => Sys2Proof.Machine.execPrimerWbComplete compareOk s
  | .ping addr quietUs => Sys2Proof.Machine.execPing addr quietUs s
  | .wake addr level inWindow quietUs => Sys2Proof.Machine.execWake addr level inWindow quietUs s
  | .status addr quietUs => Sys2Proof.Machine.execStatus addr quietUs s
  | .slotBadRequest addr cmd payload quietUs => Sys2Proof.Machine.execSlotBadRequest addr cmd payload quietUs s
  | .slotFrameDiscard why quietUs => Sys2Proof.Machine.execSlotFrameDiscard why quietUs s
  | .slotResponseSend => Sys2Proof.Machine.execSlotResponseSend s
  | .slotBusCollision => Sys2Proof.Machine.execSlotBusCollision s
  | .slotFrameTimeout periods quietUs => Sys2Proof.Machine.execSlotFrameTimeout periods quietUs s
  | .idlePattern transitions quietUs => Sys2Proof.Machine.execIdlePattern transitions quietUs s
  | .loopTestStart ring => Sys2Proof.Machine.execLoopTestStart ring s
  | .loopTestEnd ring eastOk westOk ms => Sys2Proof.Machine.execLoopTestEnd ring eastOk westOk ms s
  | .loopTestRetry ring sinceMs => Sys2Proof.Machine.execLoopTestRetry ring sinceMs s
  | .slotBypassCtrl req holdA holdB => Sys2Proof.Machine.execSlotBypassCtrl req holdA holdB s
  | .bypassStateMismatch ring level ms => Sys2Proof.Machine.execBypassStateMismatch ring level ms s
  | .ejectPreparation highUs prepUs => Sys2Proof.Machine.execEjectPreparation highUs prepUs s
  | .presenceLoss highUs prepUs => Sys2Proof.Machine.execPresenceLoss highUs prepUs s
  | .presenceReturn => Sys2Proof.Machine.execPresenceReturn s
  | .ejectRestart lowMs => Sys2Proof.Machine.execEjectRestart lowMs s
  | .pegOpen k w upsets => Sys2Proof.Machine.execPegOpen k w upsets s
  | .pegDataWord w upsets => Sys2Proof.Machine.execPegDataWord w upsets s
  | .pegCommit port tag => Sys2Proof.Machine.execPegCommit port tag s
  | .ctxTimeout port tag => Sys2Proof.Machine.execCtxTimeout port tag s
  | .discardTimeout port tag => Sys2Proof.Machine.execDiscardTimeout port tag s
  | .pegAbort k w => Sys2Proof.Machine.execPegAbort k w s
  | .pegFlushCmd k w => Sys2Proof.Machine.execPegFlushCmd k w s
  | .pegFlush req queue => Sys2Proof.Machine.execPegFlush req queue s
  | .pushClaim queue => Sys2Proof.Machine.execPushClaim queue s
  | .dequeue k w => Sys2Proof.Machine.execDequeue k w s
  | .chainRead grp w cells parity upsets => Sys2Proof.Machine.execChainRead grp w cells parity upsets s
  | .pegRelease k w => Sys2Proof.Machine.execPegRelease k w s
  | .claimTimeout queue => Sys2Proof.Machine.execClaimTimeout queue s
  | .pegQcfg req value => Sys2Proof.Machine.execPegQcfg req value s
  | .pegProfile req b n value => Sys2Proof.Machine.execPegProfile req b n value s
  | .pegQstatRead req => Sys2Proof.Machine.execPegQstatRead req s
  | .pegFreeMinClear req => Sys2Proof.Machine.execPegFreeMinClear req s
  | .pegAuditSnap req => Sys2Proof.Machine.execPegAuditSnap req s
  | .carrierBoundary allocs poisoned => Sys2Proof.Machine.execCarrierBoundary allocs poisoned s
  | .radioBoundary allocs phyMbps poisoned => Sys2Proof.Machine.execRadioBoundary allocs phyMbps poisoned s
  | .superframeStart sinceOnMs validMs => Sys2Proof.Machine.execSuperframeStart sinceOnMs validMs s
  | .airtimeRecord sinceS => Sys2Proof.Machine.execAirtimeRecord sinceS s
  | .frameTransmit target flow airUs slotNo poison => Sys2Proof.Machine.execFrameTransmit target flow airUs slotNo poison s
  | .endOfTransmission radio actualUs => Sys2Proof.Machine.execEndOfTransmission radio actualUs s
  | .bucketAge => Sys2Proof.Machine.execBucketAge s
  | .fradSubbandCfg req band prioPct dutyCent => Sys2Proof.Machine.execFradSubbandCfg req band prioPct dutyCent s
  | .fradAuditSnap req => Sys2Proof.Machine.execFradAuditSnap req s
  | .ackReceived medium rx => Sys2Proof.Machine.execAckReceived medium rx s
  | .ackTimeout node airUs slotNo => Sys2Proof.Machine.execAckTimeout node airUs slotNo s
  | .dataFrameReceived medium rx expected ackUs slotNo => Sys2Proof.Machine.execDataFrameReceived medium rx expected ackUs slotNo s
  | .expectedFrameMissed node => Sys2Proof.Machine.execExpectedFrameMissed node s
  | .imageEntryReceived medium slotNo comb octets clear info => Sys2Proof.Machine.execImageEntryReceived medium slotNo comb octets clear info s
  | .joinReq medium rx k imgIn imgOut => Sys2Proof.Machine.execJoinReq medium rx k imgIn imgOut s
  | .nodeSleep medium rx ackUs slotNo => Sys2Proof.Machine.execNodeSleep medium rx ackUs slotNo s
  | .floorRecordWritten node up role => Sys2Proof.Machine.execFloorRecordWritten node up role s
  | .nodeLost node => Sys2Proof.Machine.execNodeLost node s
  | .nodeAdmit req group => Sys2Proof.Machine.execAdmit req group s
  | .evict req => Sys2Proof.Machine.execEvict req s
  | .setGroup req group => Sys2Proof.Machine.execSetGroup req group s
  | .resendProfile req => Sys2Proof.Machine.execResendProfile req s
  | .calendarEvaluation => Sys2Proof.Machine.execCalendarEvaluation s
  | .profileSend node => Sys2Proof.Machine.execProfileSend node s
  | .statusProcess node poison => Sys2Proof.Machine.execStatusProcess node poison s
  | .alarmProcess node poison => Sys2Proof.Machine.execAlarmProcess node poison s
  | .estimateUpdate node poison => Sys2Proof.Machine.execEstimateUpdate node poison s
  | .symEvent node poison latencyNs => Sys2Proof.Machine.execSymEvent node poison latencyNs s
  | .symCommandResult k => Sys2Proof.Machine.execSymCommandResult k s
  | .graphLoad addr => Sys2Proof.Machine.execGraphLoad addr s
  | .graphLoaded us => Sys2Proof.Machine.execGraphLoaded us s
  | .symStampRefresh => Sys2Proof.Machine.execSymStampRefresh s
  | .gaugeSample x => Sys2Proof.Machine.execGaugeSample x s
  | .lineCycleBoundary x c => Sys2Proof.Machine.execLineCycleBoundary x c s
  | .forceLatch req => Sys2Proof.Machine.execForceLatch req s
  | .latchStore sinceMin => Sys2Proof.Machine.execLatchStore sinceMin s
  | .gaugeStop req => Sys2Proof.Machine.execGaugeStop req s
  | .s0OutputPulse k sinceMs => Sys2Proof.Machine.execS0OutputPulse k sinceMs s
  | .s0InputEdge k active phaseMs => Sys2Proof.Machine.execS0InputEdge k active phaseMs s
  | .pulseStuck k activeMs => Sys2Proof.Machine.execPulseStuck k activeMs s
  | .deviationWindow => Sys2Proof.Machine.execDeviationWindow s
  | .gaugeAuditSnap req => Sys2Proof.Machine.execGaugeAuditSnap req s
  | .gaugeQRead req q => Sys2Proof.Machine.execGaugeQRead req q s
  | .captureComplete f chirp samples ref coilMs mismatchS crosstalk poison cutOff => Sys2Proof.Machine.execCaptureComplete f chirp samples ref coilMs mismatchS crosstalk poison cutOff s
  | .chirp f => Sys2Proof.Machine.execChirp f s
  | .captureCorrelate f => Sys2Proof.Machine.execCaptureCorrelate f s
  | .reflectogramPeriodEnd f chirp deEnergised sinceS => Sys2Proof.Machine.execReflectogramPeriodEnd f chirp deEnergised sinceS s
  | .soundLearn req f chirp deEnergised => Sys2Proof.Machine.execSoundLearn req f chirp deEnergised s
  | .soundDiscard req f chirp deEnergised => Sys2Proof.Machine.execSoundDiscard req f chirp deEnergised s
  | .soundAccept req entry => Sys2Proof.Machine.execSoundAccept req entry s
  | .baselineStore f chirp deEnergised => Sys2Proof.Machine.execBaselineStore f chirp deEnergised s
  | .taskStart io => Sys2Proof.Machine.execTaskStart io s
  | .nodeLatchWaitEnd io => Sys2Proof.Machine.execNodeLatchWaitEnd io s
  | .taskOverrun n => Sys2Proof.Machine.execTaskOverrun n s
  | .scanWatchdogTrip n => Sys2Proof.Machine.execScanWatchdogTrip n s
  | .holdLimitExpiry heldS => Sys2Proof.Machine.execHoldLimitExpiry heldS s
  | .scanRun req key => Sys2Proof.Machine.execScanRun req key s
  | .scanStop req key => Sys2Proof.Machine.execScanStop req key s
  | .scanHold req key => Sys2Proof.Machine.execScanHold req key s
  | .scanResume req key => Sys2Proof.Machine.execScanResume req key s
  | .scanStep req key => Sys2Proof.Machine.execScanStep req key s
  | .clearFault req key => Sys2Proof.Machine.execClearFault req key s
  | .checkProgram req key => Sys2Proof.Machine.execCheckProgram req key s
  | .tabNop opd => Sys2Proof.Machine.execTabNop opd s
  | .tabBld opd => Sys2Proof.Machine.execTabBld opd s
  | .tabBldn opd => Sys2Proof.Machine.execTabBldn opd s
  | .tabBand opd => Sys2Proof.Machine.execTabBand opd s
  | .tabBandn opd => Sys2Proof.Machine.execTabBandn opd s
  | .tabBor opd => Sys2Proof.Machine.execTabBor opd s
  | .tabBorn opd => Sys2Proof.Machine.execTabBorn opd s
  | .tabBxor opd => Sys2Proof.Machine.execTabBxor opd s
  | .tabBxorn opd => Sys2Proof.Machine.execTabBxorn opd s
  | .tabBst opd => Sys2Proof.Machine.execTabBst opd s
  | .tabBstn opd => Sys2Proof.Machine.execTabBstn opd s
  | .tabBset opd => Sys2Proof.Machine.execTabBset opd s
  | .tabBclr opd => Sys2Proof.Machine.execTabBclr opd s
  | .tabBrise opd => Sys2Proof.Machine.execTabBrise opd s
  | .tabBfall opd => Sys2Proof.Machine.execTabBfall opd s
  | .tabBpush opd => Sys2Proof.Machine.execTabBpush opd s
  | .tabBpopa opd => Sys2Proof.Machine.execTabBpopa opd s
  | .tabBpopo opd => Sys2Proof.Machine.execTabBpopo opd s
  | .tabBpopx opd => Sys2Proof.Machine.execTabBpopx opd s
  | .tabBnot opd => Sys2Proof.Machine.execTabBnot opd s
  | .tabBone opd => Sys2Proof.Machine.execTabBone opd s
  | .tabBzero opd => Sys2Proof.Machine.execTabBzero opd s
  | .tabBldov opd => Sys2Proof.Machine.execTabBldov opd s
  | .tabOvclr opd => Sys2Proof.Machine.execTabOvclr opd s
  | .tabWld opd => Sys2Proof.Machine.execTabWld opd s
  | .tabWst opd => Sys2Proof.Machine.execTabWst opd s
  | .tabWadd opd => Sys2Proof.Machine.execTabWadd opd s
  | .tabWsub opd => Sys2Proof.Machine.execTabWsub opd s
  | .tabWmul opd => Sys2Proof.Machine.execTabWmul opd s
  | .tabWdiv opd => Sys2Proof.Machine.execTabWdiv opd s
  | .tabWmod opd => Sys2Proof.Machine.execTabWmod opd s
  | .tabWand opd => Sys2Proof.Machine.execTabWand opd s
  | .tabWor opd => Sys2Proof.Machine.execTabWor opd s
  | .tabWxor opd => Sys2Proof.Machine.execTabWxor opd s
  | .tabWmin opd => Sys2Proof.Machine.execTabWmin opd s
  | .tabWmax opd => Sys2Proof.Machine.execTabWmax opd s
  | .tabWeq opd => Sys2Proof.Machine.execTabWeq opd s
  | .tabWne opd => Sys2Proof.Machine.execTabWne opd s
  | .tabWgt opd => Sys2Proof.Machine.execTabWgt opd s
  | .tabWge opd => Sys2Proof.Machine.execTabWge opd s
  | .tabWlt opd => Sys2Proof.Machine.execTabWlt opd s
  | .tabWle opd => Sys2Proof.Machine.execTabWle opd s
  | .tabKeq opd => Sys2Proof.Machine.execTabKeq opd s
  | .tabKne opd => Sys2Proof.Machine.execTabKne opd s
  | .tabKgt opd => Sys2Proof.Machine.execTabKgt opd s
  | .tabKge opd => Sys2Proof.Machine.execTabKge opd s
  | .tabKlt opd => Sys2Proof.Machine.execTabKlt opd s
  | .tabKle opd => Sys2Proof.Machine.execTabKle opd s
  | .tabKld opd => Sys2Proof.Machine.execTabKld opd s
  | .tabKldh opd => Sys2Proof.Machine.execTabKldh opd s
  | .tabKadd opd => Sys2Proof.Machine.execTabKadd opd s
  | .tabWshl opd => Sys2Proof.Machine.execTabWshl opd s
  | .tabWshr opd => Sys2Proof.Machine.execTabWshr opd s
  | .tabWsar opd => Sys2Proof.Machine.execTabWsar opd s
  | .tabWinv opd => Sys2Proof.Machine.execTabWinv opd s
  | .tabPset opd => Sys2Proof.Machine.execTabPset opd s
  | .tabPget opd => Sys2Proof.Machine.execTabPget opd s
  | .tabJmp opd => Sys2Proof.Machine.execTabJmp opd s
  | .tabJmpt opd => Sys2Proof.Machine.execTabJmpt opd s
  | .tabJmpf opd => Sys2Proof.Machine.execTabJmpf opd s
  | .tabJmpz opd => Sys2Proof.Machine.execTabJmpz opd s
  | .tabJmpnz opd => Sys2Proof.Machine.execTabJmpnz opd s
  | .tabTon opd => Sys2Proof.Machine.execTabTon opd s
  | .tabTof opd => Sys2Proof.Machine.execTabTof opd s
  | .tabTp opd => Sys2Proof.Machine.execTabTp opd s
  | .tabCtu opd => Sys2Proof.Machine.execTabCtu opd s
  | .tabCtd opd => Sys2Proof.Machine.execTabCtd opd s
  | .tabCload opd => Sys2Proof.Machine.execTabCload opd s
  | .tabCreset opd => Sys2Proof.Machine.execTabCreset opd s
  | .tabSnd opd => Sys2Proof.Machine.execTabSnd opd s
  | .tabNst opd => Sys2Proof.Machine.execTabNst opd s
  | .tabEnd opd => Sys2Proof.Machine.execTabEnd opd s
  | .lampFrameStart lossMean ledIn => Sys2Proof.Machine.execLampFrameStart lossMean ledIn s
  | .lampFrameEnd m => Sys2Proof.Machine.execLampFrameEnd m s
  | .lampMeasure id volt holds nearRow => Sys2Proof.Machine.execLampMeasure id volt holds nearRow s
  | .lampOpenDetect k volts clamp => Sys2Proof.Machine.execLampOpenDetect k volts clamp s
  | .clampPersist k volts sinceUs => Sys2Proof.Machine.execClampPersist k volts sinceUs s
  | .stringOvercurrent k mA us => Sys2Proof.Machine.execStringOvercurrent k mA us s
  | .overcurrentRestart k sinceMs => Sys2Proof.Machine.execOvercurrentRestart k sinceMs s
  | .rowOvercurrent mA us => Sys2Proof.Machine.execRowOvercurrent mA us s
  | .ledSupplyLow volt => Sys2Proof.Machine.execLedSupplyLow volt s
  | .ledSupplyResume volt ms => Sys2Proof.Machine.execLedSupplyResume volt ms s
  | .ntcRead n ohms => Sys2Proof.Machine.execNtcRead n ohms s
  | .clearLamp req => Sys2Proof.Machine.execClearLamp req s
  | .clearString req arg => Sys2Proof.Machine.execClearString req arg s
  | .clearMatrix req => Sys2Proof.Machine.execClearMatrix req s
  | .clearAon req arg => Sys2Proof.Machine.execClearAon req arg s
  | .lampCounterStore sinceMin => Sys2Proof.Machine.execLampCounterStore sinceMin s
  | .lampAuditSnap req => Sys2Proof.Machine.execLampAuditSnap req s
  | .ringCycleBoundary => Sys2Proof.Machine.execRingCycleBoundary s
  | .continuityReceived p f rxNs => Sys2Proof.Machine.execContinuityReceived p f rxNs s
  | .continuityMiss p sinceUs takeTenthUs => Sys2Proof.Machine.execContinuityMiss p sinceUs takeTenthUs s
  | .ringDataReceived path f icvOk => Sys2Proof.Machine.execRingDataReceived path f icvOk s
  | .ringTransmit tc transit => Sys2Proof.Machine.execRingTransmit tc transit s
  | .creditReceived path f => Sys2Proof.Machine.execCreditReceived path f s
  | .probeSend => Sys2Proof.Machine.execProbeSend s
  | .probeReceived path f rttTenthUs => Sys2Proof.Machine.execProbeReceived path f rttTenthUs s
  | .announceReceived p f takeTenthUs => Sys2Proof.Machine.execAnnounceReceived p f takeTenthUs s
  | .joinReceived p f => Sys2Proof.Machine.execJoinReceived p f s
  | .pathJoin path => Sys2Proof.Machine.execPathJoin path s
  | .joinDupReceived path => Sys2Proof.Machine.execJoinDupReceived path s
  | .joinConfirm path ms => Sys2Proof.Machine.execJoinConfirm path ms s
  | .activePathSearchEnd path ms => Sys2Proof.Machine.execActivePathSearchEnd path ms s
  | .revert sinceS takeTenthUs => Sys2Proof.Machine.execRevert sinceS takeTenthUs s
  | .switchToA req key takeTenthUs => Sys2Proof.Machine.execSwitchToA req key takeTenthUs s
  | .switchToB req key takeTenthUs => Sys2Proof.Machine.execSwitchToB req key takeTenthUs s
  | .retryGrant req key follows => Sys2Proof.Machine.execRetryGrant req key follows s
  | .capoStuck notSeenTenthUs equalTenthUs => Sys2Proof.Machine.execCapoStuck notSeenTenthUs equalTenthUs s
  | .capoRegrant sinceMs follows => Sys2Proof.Machine.execCapoRegrant sinceMs follows s
  | .ringCtrlEn req path value => Sys2Proof.Machine.execRingCtrlEn req path value s
  | .ringAuditSnap req path => Sys2Proof.Machine.execRingAuditSnap req path s
  | .hcpHello h clearTid => Sys2Proof.Machine.execHcpHello h clearTid s
  | .hcpReset h => Sys2Proof.Machine.execHcpReset h s
  | .hcpRegRead h addrs => Sys2Proof.Machine.execHcpRegRead h addrs s
  | .hcpRegWrite h items => Sys2Proof.Machine.execHcpRegWrite h items s
  | .hcpBlockRead h addr count => Sys2Proof.Machine.execHcpBlockRead h addr count s
  | .hcpBlockWrite h addr data => Sys2Proof.Machine.execHcpBlockWrite h addr data s
  | .ctSegment h g => Sys2Proof.Machine.execCtSegment h g s
  | .ctAbort h ctId => Sys2Proof.Machine.execCtAbort h ctId s
  | .eventAck h ackSeq => Sys2Proof.Machine.execEventAck h ackSeq s
  | .primerDigest h => Sys2Proof.Machine.execPrimerDigest h s
  | .primerWb h hdr => Sys2Proof.Machine.execPrimerWb h hdr s
  | .hcpBadMessage h typ resp lenOk => Sys2Proof.Machine.execHcpBadMessage h typ resp lenOk s
  | .dtlsHandshake ipv4 cert => Sys2Proof.Machine.execDtlsHandshake ipv4 cert s
  | .requestForward h target typ payload => Sys2Proof.Machine.execRequestForward h target typ payload s
  | .forwardedResponse session tid target typ status dup payload => Sys2Proof.Machine.execForwardedResponse session tid target typ status dup payload s
  | .forwardTimeout session tid sinceMs => Sys2Proof.Machine.execForwardTimeout session tid sinceMs s
  | .headEndLinkLoss downMs noGatewayMs => Sys2Proof.Machine.execHeadEndLinkLoss downMs noGatewayMs s
  | .stagingResetFrame => Sys2Proof.Machine.execStagingResetFrame s
  | .eventResend sinceMs => Sys2Proof.Machine.execEventResend sinceMs s
  | .hcpCtrlEn req value => Sys2Proof.Machine.execHcpCtrlEn req value s
  | .ptpSyncReceived p m icvOk t2 residence => Sys2Proof.Machine.execPtpSyncReceived p m icvOk t2 residence s
  | .followUpReceived p m => Sys2Proof.Machine.execFollowUpReceived p m s
  | .followUpMissing ms => Sys2Proof.Machine.execFollowUpMissing ms s
  | .delayReqSend sinceUs t3 => Sys2Proof.Machine.execDelayReqSend sinceUs t3 s
  | .delayReqReceived p m icvOk rx residence => Sys2Proof.Machine.execDelayReqReceived p m icvOk rx residence s
  | .delayRespReceived p m icvOk => Sys2Proof.Machine.execDelayRespReceived p m icvOk s
  | .ptpAnnounceReceived p m a icvOk => Sys2Proof.Machine.execPtpAnnounceReceived p m a icvOk s
  | .masterLost sinceAnnounceMs sinceSyncMs => Sys2Proof.Machine.execMasterLost sinceAnnounceMs sinceSyncMs s
  | .ptpSyncSend sinceUs => Sys2Proof.Machine.execPtpSyncSend sinceUs s
  | .localGmTakeover sinceMs => Sys2Proof.Machine.execLocalGmTakeover sinceMs s
  | .holdoverExpiry sec => Sys2Proof.Machine.execHoldoverExpiry sec s
  | .zeroCrossing u1 u2 u3 offsetNs freqMHz => Sys2Proof.Machine.execZeroCrossing u1 u2 u3 offsetNs freqMHz s
  | .tb2Update => Sys2Proof.Machine.execTb2Update s
  | .tb0Set req key => Sys2Proof.Machine.execTb0Set req key s
  | .tb0Adjust req key => Sys2Proof.Machine.execTb0Adjust req key s
  | .tb0SubRead req => Sys2Proof.Machine.execTb0SubRead req s
  | .timePtpCfgEn req value => Sys2Proof.Machine.execTimePtpCfgEn req value s
  | .rtcHaltWrite req halt => Sys2Proof.Machine.execRtcHaltWrite req halt s
  | .haltTimeout ticks => Sys2Proof.Machine.execHaltTimeout ticks s
  | .oscillatorStop missed supplyLow => Sys2Proof.Machine.execOscillatorStop missed supplyLow s
  | .rtcDiscipline sinceS => Sys2Proof.Machine.execRtcDiscipline sinceS s
  | .rtcSetAfterStep => Sys2Proof.Machine.execRtcSetAfterStep s
  | .moverStart req c => Sys2Proof.Machine.execMoverStart req c s
  | .moverAbort req c => Sys2Proof.Machine.execMoverAbort req c s
  | .moverContinue req c => Sys2Proof.Machine.execMoverContinue req c s
  | .descriptorFetched c poison => Sys2Proof.Machine.execDescriptorFetched c poison s
  | .moverAccessResponse c poison => Sys2Proof.Machine.execMoverAccessResponse c poison s
  | .moverAccessTimeout c ticks => Sys2Proof.Machine.execMoverAccessTimeout c ticks s
  | .descriptorWriteBack c => Sys2Proof.Machine.execDescriptorWriteBack c s
  | .requestLine line queue => Sys2Proof.Machine.execRequestLine line queue s
  | .moverCtrlEn req en => Sys2Proof.Machine.execMoverCtrlEn req en s
  | .pwrDomReq req d state => Sys2Proof.Machine.execPwrDomReq req d state s
  | .domainChangeComplete d => Sys2Proof.Machine.execDomainChangeComplete d s
  | .domainFault d cause => Sys2Proof.Machine.execDomainFault d cause s
  | .reduced req key => Sys2Proof.Machine.execReduced req key s
  | .full req key => Sys2Proof.Machine.execFull req key s
  | .park req key => Sys2Proof.Machine.execPark req key s
  | .autoEnter level sec => Sys2Proof.Machine.execAutoEnter level sec s
  | .autoLeave level sec => Sys2Proof.Machine.execAutoLeave level sec s
  | .pwrAlarmMatch => Sys2Proof.Machine.execPwrAlarmMatch s
  | .parkedSupplyReturn => Sys2Proof.Machine.execParkedSupplyReturn s
  | .operatingSecond => Sys2Proof.Machine.execOperatingSecond s
  | .vbatMeasure mV => Sys2Proof.Machine.execVbatMeasure mV s
  | .logicSupplyDrop mV us => Sys2Proof.Machine.execLogicSupplyDrop mV us s
  | .logicSupplyReturn mV us => Sys2Proof.Machine.execLogicSupplyReturn mV us s
  | .tuneMeasure d floor timing => Sys2Proof.Machine.execTuneMeasure d floor timing s
  | .replanSettled d floor timing => Sys2Proof.Machine.execReplanSettled d floor timing s
  | .ageingMeasure d agePs forecastD => Sys2Proof.Machine.execAgeingMeasure d agePs forecastD s
  | .planStore => Sys2Proof.Machine.execPlanStore s
  | .keyProvision req key => Sys2Proof.Machine.execKeyProvision req key s
  | .keyField req key => Sys2Proof.Machine.execKeyField req key s
  | .keyReturn req key => Sys2Proof.Machine.execKeyReturn req key s
  | .keyScrap req key => Sys2Proof.Machine.execKeyScrap req key s
  | .debugOpen req key => Sys2Proof.Machine.execDebugOpen req key s
  | .debugClose req key => Sys2Proof.Machine.execDebugClose req key s
  | .debugExpiry => Sys2Proof.Machine.execDebugExpiry s
  | .keyReplace req key slot => Sys2Proof.Machine.execKeyReplace req key slot s
  | .keyMove req key slot => Sys2Proof.Machine.execKeyMove req key slot s
  | .keyRefurbish req key => Sys2Proof.Machine.execKeyRefurbish req key s
  | .keyStageData req data => Sys2Proof.Machine.execKeyStageData req data s
  | .keyCheckReceived path pos gen kcv => Sys2Proof.Machine.execKeyCheckReceived path pos gen kcv s
  | .keyCheckResend slot sinceMs => Sys2Proof.Machine.execKeyCheckResend slot sinceMs s
  | .replaceComplete slot => Sys2Proof.Machine.execReplaceComplete slot s
  | .replaceTimeout slot sec => Sys2Proof.Machine.execReplaceTimeout slot sec s
  | .moveRetry node sinceS => Sys2Proof.Machine.execMoveRetry node sinceS s
  | .tamperEvent kind => Sys2Proof.Machine.execTamperEvent kind s
  | .restrArm req key => Sys2Proof.Machine.execRestrArm req key s
  | .restrDisarm req key => Sys2Proof.Machine.execRestrDisarm req key s
  | .restrConfirm req key => Sys2Proof.Machine.execRestrConfirm req key s
  | .restrVerify req key => Sys2Proof.Machine.execRestrVerify req key s
  | .restrErase req key => Sys2Proof.Machine.execRestrErase req key s
  | .restrFeedCtrl req target block => Sys2Proof.Machine.execRestrFeedCtrl req target block s
  | .restrFeedData req data flashFails => Sys2Proof.Machine.execRestrFeedData req data flashFails s
  | .restrFragment source target block imageId frag data flashFails => Sys2Proof.Machine.execRestrFragment source target block imageId frag data flashFails s
  | .restrWant src target imageId blocks => Sys2Proof.Machine.execRestrWant src target imageId blocks s
  | .restrWantSend target sinceMs => Sys2Proof.Machine.execRestrWantSend target sinceMs s
  | .partialBlockDiscard target block idleS => Sys2Proof.Machine.execPartialBlockDiscard target block idleS s
  | .activation => Sys2Proof.Machine.execActivation s
  | .confirmWindowClose minutes => Sys2Proof.Machine.execConfirmWindowClose minutes s
  | .nimgStart req entry target => Sys2Proof.Machine.execNimgStart req entry target s
  | .nimgAbort req entry => Sys2Proof.Machine.execNimgAbort req entry s
  | .nimgErase req entry => Sys2Proof.Machine.execNimgErase req entry s
  | .distributionRoundEnd waitS => Sys2Proof.Machine.execDistributionRoundEnd waitS s
  | .imgStatus node state imageId have_ firstMissing bitmap => Sys2Proof.Machine.execImgStatus node state imageId have_ firstMissing bitmap s
  | .recSample k sinceMs => Sys2Proof.Machine.execRecSample k sinceMs s
  | .recTrigger code value data => Sys2Proof.Machine.execRecTrigger code value data s
  | .snapshotWrite failures => Sys2Proof.Machine.execSnapshotWrite failures s
  | .pageSeal k failures => Sys2Proof.Machine.execPageSeal k failures s
  | .recSeal req k => Sys2Proof.Machine.execRecSeal req k s
  | .recSealAll req => Sys2Proof.Machine.execRecSealAll req s
  | .recFetch req live k u => Sys2Proof.Machine.execRecFetch req live k u s
  | .ledgerSnap req mask => Sys2Proof.Machine.execLedgerSnap req mask s
  | .ledgerCopy req led => Sys2Proof.Machine.execLedgerCopy req led s
  | .ledgerCheck sinceS => Sys2Proof.Machine.execLedgerCheck sinceS s
  | .doShort n => Sys2Proof.Machine.execDoShort n s
  | .doShortRetry n stillShort sinceMs => Sys2Proof.Machine.execDoShortRetry n stillShort sinceMs s
  | .coilOvercurrent f mA => Sys2Proof.Machine.execCoilOvercurrent f mA s
  | .logicOvervoltage mV us => Sys2Proof.Machine.execLogicOvervoltage mV us s
  | .referenceTick n => Sys2Proof.Machine.execReferenceTick n s
  | .frameForOtherSlot addr resp quietUs => Sys2Proof.Machine.execFrameForOtherSlot addr resp quietUs s
  | .presentNBreak => Sys2Proof.Machine.execPresentNBreak s
  | .headEndLinkUp rate => Sys2Proof.Machine.execHeadEndLinkUp rate s
  | .dtlsAlert session => Sys2Proof.Machine.execDtlsAlert session s
  | .forwardedEvent source lost payload => Sys2Proof.Machine.execForwardedEvent source lost payload s
  | .ptpAnnounceSend sinceMs => Sys2Proof.Machine.execPtpAnnounceSend sinceMs s
  | .reservedOpcode word => Sys2Proof.Machine.execReservedOpcode word s
  | .fetchBeyondProgLen => Sys2Proof.Machine.execFetchBeyondProgLen s

end Sys2Proof.Machine
end

