-- ==== Sys2Proof/Machine/Step.lean ====
section
/-!
DEFINITION. Machine/Step.lean: one step of the block, and the placing of a command a word spells.
-/
namespace Sys2Proof.Machine

/-- The command at the front of the queue is taken and executed on the state with the queue's rest; on an empty queue the
block idles (assumption 1), but that a chain read in progress goes on (assumption 81). -/
def step (s : State) : Host.Outcome State Fault Refusal :=
  match s.pending with
  | [] => .next s.chainsRun
  | c :: rest => exec c { s with pending := rest }

/-- `s` with the command that word `w` spells put at the front of its queue; the table gives no row bits, so no word spells
a command. -/
def State.withFetchWord (s : State) (nbits w : Nat) : State :=
  match Sys2Proof.decodeTableWord nbits w with
  | some c => { s with pending := c :: s.pending }
  | none => s

end Sys2Proof.Machine
end

