-- ==== Sys2Proof/WellFormed.lean ====
section
/-!
DEFINITION. WellFormed.lean: which commands are events the spec can bring. What the operand types leave open is checked
here: lengths of messages, of frames and of measured lists, and encodings that a bit vector is wider than. `exec` is total
on ill-formed commands too; the statements about a command say where they ask for more.
-/
namespace Sys2Proof

/-- A word on the Fretboard: KIND 0x0 to 0x5 (the table before R16). -/
def FWord.wf (w : FWord) : Bool := decide (w.kind.toNat ≤ 5)

/-- A Primer device: its density in octets below the 40 bits of an address. -/
def PrimerDev.wf (d : PrimerDev) : Bool := decide (d.density < 2 ^ 40)

/-- A field frame as received: at most 2,048 octets from header to MIC (R141) and 4 of FCS. -/
def FieldRx.wf (r : FieldRx) : Bool :=
  decide (r.octets.length ≤ 2052) && (match r.tone with | some t => decide (t.2.2.length = 742) | none => true)

/-- A ring frame: at most 9,216 octets, its header of 16 among them (R340). -/
def RingFrame.wf (f : RingFrame) : Bool := decide (f.payload.length ≤ 9200)

/-- What the Gauge's converters deliver: 24-bit codes of 32 channels and 16 currents (R231, R232). -/
def GaugeSample.wf (x : GaugeSample) : Bool :=
  decide (x.lo.length = 32) && decide (x.hi.length = 16) &&
    (x.lo ++ x.hi).all (fun v => decide (-8388608 ≤ v ∧ v ≤ 8388607)) && x.half.all (fun c => decide (c < 3))

/-- The angles of a line cycle: 12 feeders. -/
def LineCycle.wf (c : LineCycle) : Bool := decide (c.feedAng.length = 12)

/-- Six strings (R315). -/
def LampMeas.wf (m : LampMeas) : Bool := decide (m.strings.length = 6)

/-- A control-transfer segment: as much data as an HCP message leaves it (R367, R374); more than 1,024 octets are BAD, not
impossible. -/
def CtSeg.wf (g : CtSeg) : Bool := decide (g.data.length ≤ 1124)

/-- The command is an event that can come. -/
def Instr.wf (i : Instr) : Bool :=
  match i with
  | .wordCrossing src _ (some w) _ _ _ => w.wf && decide (w.src.toNat = src.val)
  | .presentMate side => (match side.primer with | some d => d.wf | none => true)
  | .slotBadRequest _ _ payload _ => decide (payload.length ≤ 32)
  | .pegOpen _ w _ => w.wf && decide (w.kind = 0)
  | .pegDataWord w _ => w.wf && decide (w.kind = 0)
  | .pegAbort _ w => w.wf && decide (w.kind = 3) && w.last
  | .pegFlushCmd _ w => w.wf && decide (w.kind = 3) && w.last
  | .dequeue _ w => w.wf && decide (w.kind = 1) && decide (bits w.data.toNat 0 8 = 0x05)
  | .chainRead _ w _ _ _ => w.wf && decide (w.kind = 1) && decide (bits w.data.toNat 0 8 = 0x20)
  | .pegRelease _ w => w.wf && decide (w.kind = 3) && w.last
  | .ackReceived _ r => r.wf
  | .dataFrameReceived _ r _ _ _ => r.wf
  | .nodeSleep _ r _ _ => r.wf
  | .joinReq _ r _ _ _ => r.wf
  | .imageEntryReceived _ _ _ l _ _ => decide (l.length ≤ 32)
  | .gaugeSample x => x.wf
  | .lineCycleBoundary x c => x.wf && c.wf
  | .deviationWindow => true
  | .captureComplete _ ch a b _ _ _ _ _ => decide (a.length ≤ (if ch then 32768 else 37888) ∧ b.length ≤ 37888)
  | .reflectogramPeriodEnd _ _ _ _ => true
  | .lampFrameEnd m => m.wf
  | .continuityReceived _ f _ => f.wf
  | .ringDataReceived _ f _ => f.wf
  | .creditReceived _ f => f.wf
  | .probeReceived _ f _ => f.wf
  | .announceReceived _ f _ => f.wf
  | .joinReceived _ f => f.wf
  | .hcpRegRead _ l => decide (4 * l.length ≤ 1140)
  | .hcpRegWrite _ l => decide (8 * l.length ≤ 1140)
  | .hcpBlockWrite _ _ data => decide (data.length ≤ 1132)
  | .ctSegment _ g => g.wf
  | .requestForward _ _ _ p => decide (p.length ≤ 1140)
  | .forwardedResponse _ _ _ _ _ _ p => decide (p.length ≤ 1140)
  | .forwardedEvent _ _ p => decide (p.length ≤ 1140)
  | .restrFragment _ _ _ _ _ data _ => decide (data.length ≤ 8192)
  | .restrWant _ _ _ blocks => decide (blocks.length ≤ 32)
  | .recTrigger _ _ data => decide (data.length ≤ 64)
  | _ => true

end Sys2Proof
end

