-- ==== Sys2Proof/Safety.lean ====
section
/-!
DEFINITION. Safety.lean: the terms the statements are written in: what a state that a run may reach looks like, and what
a command leaves as it was.
-/
namespace Sys2Proof.Machine

/-- `k` is the key of no RUN bit. -/
def notRun (k : Nat) : Prop := ∀ b, b < 26 → k ≠ (F.STATE_RUN b).key

/-- RUN of every block reads what its chapter says it reads: it is never 1 for a block whose domain is not ON (R39). -/
def RunsAsSaid (s : State) : Prop := ∀ b, b < 26 → s.run b = s.runsAs b

/-- The domains that hold block `b` are ON; the blocks of the always-on island and SLOT have no switched domain (R36,
R424). -/
def State.homeOn (s : State) (b : Nat) : Bool :=
  match b with
  | 0 => s.isOn 49
  | 2 => s.isOn 46
  | 3 => s.isOn 16 && s.isOn 17
  | 4 => s.allOn [18, 19, 20, 21, 22, 23]
  | 5 => s.isOn 40
  | 6 => s.isOn 31
  | 7 => s.isOn 31 && [32, 33, 34, 35].any s.isOn
  | 8 => s.isOn 31
  | 9 => s.isOn 39
  | 10 => s.isOn 36
  | 11 => s.isOn 37 || s.isOn 38
  | 12 => s.isOn 41
  | 13 => s.isOn 42
  | 14 => s.isOn 25
  | 15 => s.isOn 26
  | 16 => s.isOn 25 || s.isOn 26
  | 17 => s.isOn 43
  | 18 => s.isOn 45
  | 21 => s.isOn 44
  | 22 => s.isOn 44
  | 23 => s.isOn 49
  | 24 => s.isOn 49
  | _ => true

/-- The memory stands in its one canonical form. -/
def MemCanonical (s : State) : Prop := s.mem.wf = true

/-- Every register field reads in `t` as in `s`, but those of `l` and the RUN bits. -/
def RegsKept (l : List Fld) (s t : State) : Prop :=
  ∀ g : Fld, notRun g.key → (∀ f ∈ l, g.key ≠ f.key) → t.rd g = s.rd g

/-- Every register field outside the blocks `bs` reads in `t` as in `s`, but for the RUN bits. -/
def BlocksKept (bs : List Nat) (s t : State) : Prop :=
  ∀ g : Fld, notRun g.key → (∀ b ∈ bs, inBlock b g.key = false) → t.rd g = s.rd g

/-- Every octet of memory reads in `t` as in `s`. -/
def MemKept (s t : State) : Prop := ∀ a, t.rd8 a = s.rd8 a

end Sys2Proof.Machine
end

