-- ==== Sys2Proof/Certificates/Slice0/Obligations.lean ====
section
/-!
DEFINITION. Certificates/Slice0/Obligations.lean: the statements for the provers, by family of commands. A statement of what a
command does says what `exec` answers under hypotheses on the state and the operands alone, and, where it says RegsKept,
BlocksKept or MemKept, what the command leaves as it was.
-/
open Sys2Proof Sys2Proof.Machine
/-! ## The queue and the whole machine -/

/-- A step takes the command at the front of the queue and executes it with the queue's rest. -/
def Obligations.StepRunsFront : Prop :=
  ∀ (c : Instr) (rest : List Instr) (s : State), s.pending = c :: rest → step s = exec c { s with pending := rest }

/-- On an empty queue the block idles (the model's choice, assumption 1), but that a chain read in progress goes on
(assumption 81), which leaves the queue empty; and no command changes the queue of those that wait, nor stops the machine. -/
def Obligations.QueueIsKept : Prop :=
  (∀ s : State, s.pending = [] → step s = .next s.chainsRun ∧ s.chainsRun.pending = [] ∧
    (s.peg.reads = [] → step s = .next s)) ∧
    ∀ (c : Instr) (s : State), ∃ t, exec c s = .next t ∧ t.pending = s.pending

/-- What reset leaves: every switched domain OFF, every register field at its Reset value but for RUN of the island's
blocks, nothing in memory, no command waiting, no output driven. -/
def Obligations.ResetLeaves : Prop :=
  (∀ g : Fld, notRun g.key → State.reset.rd g = g.reset) ∧ (∀ d, d < 50 → State.reset.isOn d = false) ∧
    State.reset.mem = [] ∧ State.reset.pending = [] ∧ State.reset.out = [] ∧ State.reset.evts = [] ∧
    State.reset.io.doOut = 0 ∧ State.reset.io.coilOut = 0 ∧
    ∀ b, b < 26 → (State.reset.run b = true ↔ b = bPWR ∨ b = bRTC ∨ b = bKEY)

/-- The invariants hold of the machine after reset. -/
def Obligations.ResetInvariants : Prop := RunsAsSaid State.reset ∧ MemCanonical State.reset

/-- R39: RUN of every block reads what its chapter says, so that a block whose domain is not ON is never running. Every
step keeps it. -/
def Obligations.StepKeepsRuns : Prop :=
  ∀ s t : State, RunsAsSaid s → step s = .next t →
    RunsAsSaid t ∧ ∀ b, b < 26 → t.run b = true → b ≠ bPWR → b ≠ bRTC → b ≠ bKEY → b ≠ bSLOT → t.homeOn b = true

/-! ## Register accesses -/

/-- R13: a read of an address inside a register block that names no register returns 0, and a write to it has no effect;
over HCP both are answered BAD. -/
def Obligations.UnnamedAddress : Prop :=
  ∀ (req : Fin 36) (addr : BitVec 40) (v : BitVec 32) (s : State), s.addrUp addr.toNat = true → addr.toNat % 4 = 0 →
      (regBlock addr.toNat).isSome = true → lookupReg addr.toNat = none →
    (∃ t, exec (.lowWordRead req addr) s = .next t ∧
      t.out = .access req addr.toNat (if req.val < 32 then stOK else stBAD) 0 :: s.out ∧ t.latches = s.latches ∧
      RegsKept [] s t ∧ MemKept s t) ∧
    (∃ t, exec (.registerWrite req addr 4 v) s = .next t ∧
      t.out = .access req addr.toNat (if req.val < 32 then stOK else stBAD) 0 :: s.out ∧ t.shadow = s.shadow ∧
      t.reqRegs = s.reqRegs ∧ t.peg = s.peg ∧ RegsKept [] s t ∧ MemKept s t)

/-- R37: an access that is not 32 bits wide or not at a multiple of 4 is answered BAD and has no effect; the mover's
accesses, whose width its descriptor gives, among them. A register read of a requester is 32 bits wide by its row. -/
def Obligations.OddAccessIsBad : Prop :=
  ∀ (req : Fin 36) (addr : BitVec 40) (size : Fin 65) (v : BitVec 32) (s : State),
    (size.val ≠ 4 ∨ addr.toNat % 4 ≠ 0 →
      ∃ t, exec (.registerWrite req addr size v) s = .next t ∧
        t.out = .access req addr.toNat (if s.addrUp addr.toNat then stBAD else refusedAs req) 0 :: s.out ∧
        RegsKept [] s t ∧ MemKept s t ∧ t.shadow = s.shadow ∧ t.reqRegs = s.reqRegs ∧ t.peg = s.peg) ∧
    (addr.toNat % 4 ≠ 0 →
      ∃ t, exec (.lowWordRead req addr) s = .next t ∧
        t.out = .access req addr.toNat (if s.addrUp addr.toNat then stBAD else refusedAs req) 0 :: s.out ∧
        RegsKept [] s t ∧ MemKept s t ∧ t.latches = s.latches) ∧
    (∀ a n, inRegBlocks a n = true → n ≠ 4 ∨ a % 4 ≠ 0 → ∃ r l, r ≠ 0 ∧ s.busGet a n = (r, l, s)) ∧
    (∀ a l, inRegBlocks a (List.length l) = true → l.length ≠ 4 ∨ a % 4 ≠ 0 → ∃ r, r ≠ 0 ∧ s.busPut a l = (r, s))

/-- R41: a write with a field that would be rejected changes no field: CFG_REJECT counts it, REJECT_LAST records the
offset and the first reason, and the answer is CFG_REJECT. A static field that cannot change now is reason 0x1, whatever
else is wrong. -/
def Obligations.RejectedWriteDoesNothing : Prop :=
  ∀ (req : Fin 36) (addr : BitVec 40) (v : BitVec 32) (s : State) (b off : Nat) (r : RegDef) (ix : List Nat),
    s.addrUp addr.toNat = true → addr.toNat % 4 = 0 → regBlock addr.toNat = some (b, off) →
    lookupReg addr.toNat = some (r, ix) → ¬ (b = bPEG ∧ off = 8) →
    s.writeReason req addr.toNat b r ix v.toNat ≠ 0 →
    (∃ t, exec (.registerWrite req addr 4 v) s = .next t ∧ t.out = .access req addr.toNat stCFG 0 :: s.out ∧
      t.rd (F.REJECT_LAST_REASON b) = s.writeReason req addr.toNat b r ix v.toNat ∧ t.rd (F.REJECT_LAST_OFFSET b) = off ∧
      (b = bFRET → t.rd F.FRET_CFG_REJECT_COUNT = satInc (2 ^ 32 - 1) (s.rd F.FRET_CFG_REJECT_COUNT)) ∧
      (b ≠ bFRET → t.rd (F.CFG_REJECT_COUNT b) = satInc (2 ^ 32 - 1) (s.rd (F.CFG_REJECT_COUNT b))) ∧
      RegsKept [F.FRET_CFG_REJECT_COUNT, F.CFG_REJECT_COUNT b, F.REJECT_LAST_REASON b, F.REJECT_LAST_OFFSET b] s t ∧
      MemKept s t ∧ t.shadow = s.shadow ∧ t.reqRegs = s.reqRegs) ∧
    ((∃ f ∈ r.written, f.tag = .s ∧ s.staticNow b r.off (ix.headD 0) = true ∧
        bits v.toNat f.lo f.width ≠ s.rd (s.fieldFor req addr.toNat ix f)) →
      s.writeReason req addr.toNat b r ix v.toNat = 1)

/-- R42, R43: an accepted write takes effect as each field's tag states: while RUN is 1 an H field goes to the shadow
copy and its active copy stays; any other RW field, and an H field while RUN is 0, is written at once; a field kept per
requester is the requester's. No field of another register changes. Said of the blocks whose chapters add nothing to a
write of a register without WO fields. -/
def Obligations.AcceptedWriteTakesEffect : Prop :=
  ∀ (req : Fin 36) (addr : BitVec 40) (v : BitVec 32) (s : State) (b off : Nat) (r : RegDef) (ix : List Nat),
    b ∈ [bSYS, bTUNE, bPEG, bNODE, bCAPO, bTIME, bRESTR, bREC, bLEDGER, bIO] →
    s.addrUp addr.toNat = true → addr.toNat % 4 = 0 → regBlock addr.toNat = some (b, off) →
    lookupReg addr.toNat = some (r, ix) → ¬ (b = bPEG ∧ off = 8) → r.flds.all (fun f => f.acc != .wo) = true →
    s.writeReason req addr.toNat b r ix v.toNat = 0 →
    ∃ t, exec (.registerWrite req addr 4 v) s = .next t ∧ t.out = .access req addr.toNat stOK 0 :: s.out ∧
      (∀ f ∈ r.flds, f.acc = .rw →
        (f.perReq = true → t.rdReq req (f.at addr.toNat ix) = bits v.toNat f.lo f.width) ∧
        (f.perReq = false → f.tag = .h → s.run b = true →
          t.shadow.find (f.at addr.toNat ix).key = some (bits v.toNat f.lo f.width) ∧
          t.rd (f.at addr.toNat ix) = s.rd (f.at addr.toNat ix)) ∧
        (f.perReq = false → f.tag ≠ .h ∨ s.run b = false →
          t.rd (f.at addr.toNat ix) = bits v.toNat f.lo f.width ∧ t.shadow.find (f.at addr.toNat ix).key = none)) ∧
      RegsKept (r.flds.map (fun f => f.at addr.toNat ix)) s t ∧ MemKept s t

/-- R38: a read of the low word answers it and copies the high word into the requester's own latch; a read of the high word
returns the latch, or without one the present high word. A read of a word that belongs to no 64-bit value answers the word and
latches nothing. -/
def Obligations.HighWordIsLatched : Prop :=
  (∀ (req : Fin 36) (b off : Nat) (s : State), b < 26 → pairLow b off = true → s.blockOn b = true →
    (∃ t r ix, exec (.lowWordRead req (.ofNat 40 (blockBase b + off))) s = .next t ∧
      lookupReg (blockBase b + off) = some (r, ix) ∧
      t.out = .access req (blockBase b + off) stOK (s.plainWord req (blockBase b + off) b r ix) :: s.out ∧
      t.latches.find (reqKey req (blockBase b + off + 4)) = some (s.word (blockBase b + off + 4)) ∧
      (∀ k, k ≠ reqKey req (blockBase b + off + 4) → t.latches.find k = s.latches.find k) ∧
      RegsKept [] s t ∧ MemKept s t) ∧
    (∀ v, s.latches.find (reqKey req (blockBase b + off + 4)) = some v →
      ∃ t, exec (.lowWordRead req (.ofNat 40 (blockBase b + off + 4))) s = .next t ∧
        t.out = .access req (blockBase b + off + 4) stOK v :: s.out ∧ RegsKept [] s t) ∧
    (s.latches.find (reqKey req (blockBase b + off + 4)) = none →
      ∃ t r ix, exec (.lowWordRead req (.ofNat 40 (blockBase b + off + 4))) s = .next t ∧
        lookupReg (blockBase b + off + 4) = some (r, ix) ∧
        t.out = .access req (blockBase b + off + 4) stOK (s.plainWord req (blockBase b + off + 4) b r ix) :: s.out)) ∧
  ∀ (req : Fin 36) (addr : BitVec 40) (s : State) (b off : Nat) (r : RegDef) (ix : List Nat),
    b ∈ [bSYS, bPWR, bTUNE, bMOVER, bFPLC, bNODE, bSCAN, bRINGA, bRINGB, bCAPO, bRTC, bKEY, bSLOT, bLEDGER, bIO] →
    s.addrUp addr.toNat = true → addr.toNat % 4 = 0 → regBlock addr.toNat = some (b, off) →
    lookupReg addr.toNat = some (r, ix) → off ≠ 0xFF04 → pairLow b off = false → pairHigh b off = false →
    ∃ t, exec (.lowWordRead req addr) s = .next t ∧
      t.out = .access req addr.toNat stOK (s.plainWord req addr.toNat b r ix) :: s.out ∧ t.latches = s.latches ∧
      RegsKept [] s t ∧ MemKept s t

/-! ## The Fretboard -/

/-- R16, R17, R29, R34: a word that is first in its lane leaves the lane and is delivered to a port that is ON, or NACKed to
its source and counted; CLEAR zeroes a port's PEAK and NACK count; the trim of the logic power begins at 61.5 W and ends
once the mean has stayed below 60.0 W for 100 ms. -/
def Obligations.FretboardCommands : Prop :=
  (∀ (src dst : Fin 32) (o : Option FWord) (a : WordTarget) (ps : BitVec 16) (ld : BitVec 8) (s : State)
      (w : FWord) (rest : List FWord), s.lane src dst ++ o.toList = w :: rest →
    ∃ t, exec (.wordCrossing src dst o a ps ld) s = .next t ∧ t.lane src dst = rest ∧ MemKept s t ∧
      (s.portUp w.dest.toNat a = true → t.out = .word w :: s.out ∧
        RegsKept [F.FRET_CYCLE_CYCLE_PS, F.FRET_PORT_STAT_LOAD src, F.FRET_PORT_STAT_PEAK src, F.FRET_POISON_CNT_COUNT] s t) ∧
      (s.portUp w.dest.toNat a = false → t.out = .word (nackOf w) :: s.out ∧
        t.rd (F.FRET_PORT_STAT_NACK_CNT w.dest.toNat) = (if unmappedTarget a then s.rd (F.FRET_PORT_STAT_NACK_CNT w.dest.toNat)
          else satInc 255 (s.rd (F.FRET_PORT_STAT_NACK_CNT w.dest.toNat))) ∧
        RegsKept [F.FRET_CYCLE_CYCLE_PS, F.FRET_PORT_STAT_LOAD src, F.FRET_PORT_STAT_PEAK src,
          F.FRET_PORT_STAT_NACK_CNT w.dest.toNat] s t)) ∧
  (∀ (req : Fin 36) (p : Fin 32) (s : State), s.blockOn bFRET = true →
    ∃ t, exec (.fretPortClear req p) s = .next t ∧ t.rd (F.FRET_PORT_STAT_PEAK p) = 0 ∧
      t.rd (F.FRET_PORT_STAT_NACK_CNT p) = 0 ∧ RegsKept [F.FRET_PORT_STAT_PEAK p, F.FRET_PORT_STAT_NACK_CNT p] s t ∧
      MemKept s t) ∧
  (∀ (m : BitVec 16) (s : State), s.allOn [0, 49] = true → 6150 ≤ m.toNat →
    ∃ t, exec (.logicPowerTrim m) s = .next t ∧ t.rd F.SYS_PWR_LOGIC_POWER = m.toNat ∧
      t.rd F.SYS_PWR_LOGIC_TRIM_ACTIVE = 1 ∧ 1 ≤ t.sys.trim ∧
      RegsKept [F.SYS_PWR_LOGIC_POWER, F.SYS_PWR_LOGIC_TRIM_ACTIVE] s t ∧ MemKept s t) ∧
  (∀ (m : BitVec 16) (ms : Nat) (s : State), s.allOn [0, 49] = true → m.toNat < 6000 → 100 ≤ ms →
    ∃ t, exec (.trimEnd m ms) s = .next t ∧ t.rd F.SYS_PWR_LOGIC_POWER = m.toNat ∧
      t.rd F.SYS_PWR_LOGIC_TRIM_ACTIVE = 0 ∧ t.sys.trim = 0 ∧
      RegsKept [F.SYS_PWR_LOGIC_POWER, F.SYS_PWR_LOGIC_TRIM_ACTIVE] s t ∧ MemKept s t)

/-! ## Insertion, resets, start-up -/

/-- R75, R80 to R82, R94: the supply and PRESENT_N mate; reset is released once both pins have been low for 100 ms, with the slot
address sampled; a power-on reset finds every switched domain OFF and counts a cycle; PRESENT_N going high clears SEATED;
the lever high for 1 ms, or PRESENT_N high for 200 µs, prepares for ejection; PRESENT_N's return is a glitch counted; both
low again for 100 ms after a preparation is a module reset with cause 4. -/
def Obligations.InsertionCommands : Prop :=
  (∀ s : State, ∃ t, exec .supplyMate s = .next t ∧ t.slot.logicOn = true ∧ t.rd F.PWR_ISLAND_STAT_ON_CELL = 0 ∧
      t.run bPWR = true ∧ t.run bRTC = true ∧ t.run bKEY = true ∧ RegsKept [F.PWR_ISLAND_STAT_ON_CELL] s t ∧ MemKept s t) ∧
  (∀ (x : SlotSide) (s : State), ∃ t, exec (.presentMate x) s = .next t ∧ t.slot.straps = x.straps.toNat ∧
      t.slot.primer = x.primer ∧ t.rd F.SLOT_STATUS_PRESENT = 1 ∧ t.rd F.SLOT_STATUS_LEVER = b2n x.leverClosed ∧
      RegsKept [F.SLOT_STATUS_PRESENT, F.SLOT_STATUS_LEVER] s t ∧ MemKept s t) ∧
  (∀ (ms : Nat) (s : State), s.slot.logicOn = true → s.present = true → s.sys.parkLatch = false →
      s.slot.released = false → 100 ≤ ms →
    ∃ t, exec (.resetRelease ms) s = .next t ∧ t.slot.released = true ∧
      t.rd F.SLOT_STATUS_ADDR = s.slot.straps % 64 ∧ t.rd F.SLOT_STATUS_LEVER = 1 ∧ t.sys.levelTo = some 2 ∧
      RegsKept [F.SLOT_STATUS_ADDR, F.SLOT_STATUS_LEVER] s t ∧ MemKept s t) ∧
  (∀ s : State, s.slot.logicOn = true → s.present = true → s.sys.parkLatch = false → s.slot.released = false →
    ∃ t, exec .powerOnReset s = .next t ∧ (∀ d, d < 50 → t.isOn d = false) ∧ t.mode = 0 ∧
      t.rd F.SLOT_STATUS_ADDR = 63 ∧ t.rd F.SYS_RESET_CAUSE_CAUSE = (if s.sys.islandLost then 2 else 1) ∧
      t.rd F.SYS_RESET_CAUSE_FW_RESTARTS = 0 ∧ t.rd F.PWR_CYCLES_COUNT = (s.rd F.PWR_CYCLES_COUNT + 1) % 2 ^ 32) ∧
  (∀ s : State, ∃ t, exec .presentNBreak s = .next t ∧ t.rd F.SLOT_STATUS_PRESENT = 0 ∧ t.rd F.SYS_CONFIG_SRC_SEATED = 0 ∧
      RegsKept [F.SLOT_STATUS_PRESENT, F.SYS_CONFIG_SRC_SEATED] s t ∧ MemKept s t) ∧
  (∀ (us prep : Nat) (s : State), 1000 ≤ us → s.ejecting = false → s.slot.released = true → s.slot.logicOn = true →
    ∃ t, exec (.ejectPreparation us prep) s = .next t ∧ t.rd F.SLOT_STATUS_EJECT_PREP = 1 ∧
      t.rd F.SLOT_EJECT_TIME_PREP_US = min prep 65535 ∧ t.slot.noFlashWrite = true) ∧
  (∀ (us prep : Nat) (s : State), 200 ≤ us → s.leverShut = true → s.ejecting = false → s.slot.released = true →
      s.slot.logicOn = true →
    ∃ t, exec (.presenceLoss us prep) s = .next t ∧ t.rd F.SLOT_STATUS_EJECT_PREP = 1 ∧
      t.rd F.SLOT_EJECT_TIME_PREP_US = min prep 65535 ∧ t.slot.noFlashWrite = true ∧ t.slot.presenceLost = true) ∧
  (∀ s : State, s.slot.presenceLost = true →
    ∃ t, exec .presenceReturn s = .next t ∧ t.rd F.SLOT_STATUS_PRESENT = 1 ∧
      t.rd F.SLOT_EJECT_CNT_GLITCHES = satInc 65535 (s.rd F.SLOT_EJECT_CNT_GLITCHES) ∧ t.slot.presenceLost = false ∧
      RegsKept [F.SLOT_STATUS_PRESENT, F.SLOT_EJECT_CNT_GLITCHES] s t ∧ MemKept s t) ∧
  (∀ (ms : Nat) (s : State), 100 ≤ ms → s.isSet F.SLOT_STATUS_EJECT_PREP = true → s.slot.logicOn = true → s.mode ≠ 4 →
      s.mode ≠ 5 →
    ∃ t, exec (.ejectRestart ms) s = .next t ∧ t.rd F.SYS_RESET_CAUSE_CAUSE = 4 ∧ t.slot.released = true ∧ t.mode = 0 ∧
      t.sys.levelTo = some 2 ∧ ∀ d, d < 50 → t.isOn d = false)

/-- R84, R85, R86: a reset of the module leaves its cause in SYS_RESET_CAUSE with the one before as PREV, every switched domain
OFF, every register outside the island at its Reset column, the module flash as it was but for the recorder's region; a firmware
restart counts in FW_RESTARTS, shows its cause, starts the Courses again and changes no other domain; an island loss leaves the fuses and the module flash; the kick; a second
watchdog expiry within 600 s of a firmware restart is a module reset, and the third boot limit in a row enters HALTED. -/
def Obligations.ResetCommands : Prop :=
  (∀ (c : ResetCause) (s : State), s.slot.released = true → s.slot.logicOn = true → s.mode ≠ 4 → s.mode ≠ 5 →
    ∃ t, exec (.moduleReset c) s = .next t ∧ t.mode = 0 ∧ t.slot.released = true ∧ (∀ d, d < 50 → t.isOn d = false) ∧
      t.rd F.SYS_RESET_CAUSE_CAUSE =
        (match c with | .sysRestart => 3 | .eject => 4 | .watchdog => 5 | .activation => 6) ∧
      t.rd F.SYS_RESET_CAUSE_PREV = s.rd F.SYS_RESET_CAUSE_CAUSE ∧ t.rd F.SYS_RESET_CAUSE_FW_RESTARTS = 0 ∧
      t.rd F.SLOT_STATUS_ADDR = s.slot.straps % 64 ∧ t.sys.levelTo = some 2 ∧
      (∀ g, notRun g.key → islandKey g.key = false → t.rd g = g.reset) ∧
      ∀ a, 0x80000000 ≤ a → a < 0x100000000 → a < 0xD0000000 ∨ 0xE0000000 ≤ a → t.rd8 a = s.rd8 a) ∧
  (∀ (w : Bool) (s : State), s.isOn 0 = true → (s.hdr s.restr.running).state ≠ 4 → s.sys.levelWait = none →
    ∃ t, exec (.firmwareRestart w) s = .next t ∧ t.rd F.SYS_RESET_CAUSE_CAUSE = (if w then 8 else 7) ∧
      t.rd F.SYS_RESET_CAUSE_PREV = s.rd F.SYS_RESET_CAUSE_CAUSE ∧
      t.rd F.SYS_RESET_CAUSE_FW_RESTARTS = satInc 255 (s.rd F.SYS_RESET_CAUSE_FW_RESTARTS) ∧
      (∀ d, d < 16 → s.isOn d = true → t.isOn d = true) ∧ (∀ d, 16 ≤ d → d < 50 → t.dom d = s.dom d) ∧
      t.sys.lastFwRestart = (if w then some s.sys.refTick else s.sys.lastFwRestart)) ∧
  (∀ s : State, ∃ t, exec .islandLoss s = .next t ∧ t.sys.refTick = 0 ∧ t.sys.islandLost = true ∧
      t.sys.parkLatch = false ∧ t.slot.logicOn = false ∧ t.key.root = none ∧ t.rd F.KEY_LC_STATE = s.rd F.KEY_LC_STATE ∧
      (∀ d, d < 50 → t.isOn d = false) ∧ t.rd F.RTC_STAT_OSF = 1 ∧
      (∀ g, notRun g.key → g.key ∉ [F.KEY_LC_STATE.key, F.SLOT_STATUS_PRESENT.key, F.SLOT_STATUS_LEVER.key,
        F.RTC_STAT_OSF.key, F.RTC_CNT_STOPS.key] → t.rd g = g.reset) ∧
      ∀ a, 0x80000000 ≤ a → a < 0x100000000 → t.rd8 a = s.rd8 a) ∧
  (∀ (req : Fin 36) (s : State), s.isOn 49 = true → s.mode ≠ 0 → s.isOn 0 = true → (s.hdr s.restr.running).state ≠ 4 →
      s.sys.levelWait = none →
    ∃ t, exec (.sysRestartFirmware req 0xA5C3) s = .next t ∧ t.rd F.SYS_RESET_CAUSE_CAUSE = 7 ∧
      t.out = .access req 0x400000D4 stOK 0 :: s.out ∧
      t.rd F.SYS_RESET_CAUSE_FW_RESTARTS = satInc 255 (s.rd F.SYS_RESET_CAUSE_FW_RESTARTS) ∧
      (∀ d, d < 16 → s.isOn d = true → t.isOn d = true) ∧ (∀ d, 16 ≤ d → d < 50 → t.dom d = s.dom d)) ∧
  (∀ (req : Fin 36) (s : State), s.isOn 49 = true → s.mode ≠ 0 → s.mode ≠ 4 → s.mode ≠ 5 → s.slot.released = true →
      s.slot.logicOn = true →
    ∃ t, exec (.sysRestartModule req 0xA5C3) s = .next t ∧ t.rd F.SYS_RESET_CAUSE_CAUSE = 3 ∧ t.mode = 0 ∧
      ∀ d, d < 50 → t.isOn d = false) ∧
  (∀ (req : Fin 36) (s : State), s.isOn 49 = true →
    ∃ t, exec (.watchdogKick req 0x4B1C) s = .next t ∧ t.sys.kicked = true ∧ t.sys.bootFails = 0 ∧ RegsKept [] s t ∧
      MemKept s t) ∧
  (∀ (ms : Nat) (s : State), 1000 ≤ ms → s.sys.kicked = true → s.isOn 0 = true →
    (s.sys.lastFwRestart = none → (s.hdr s.restr.running).state ≠ 4 →
      ∃ t, exec (.watchdogExpiry ms) s = .next t ∧ t.rd F.SYS_RESET_CAUSE_CAUSE = 8) ∧
    (∀ tk, s.sys.lastFwRestart = some tk → s.sys.refTick - tk < 600000000 → s.slot.released = true →
        s.slot.logicOn = true → s.mode ≠ 4 → s.mode ≠ 5 →
      ∃ t, exec (.watchdogExpiry ms) s = .next t ∧ t.rd F.SYS_RESET_CAUSE_CAUSE = 5 ∧ t.mode = 0)) ∧
  (∀ (ms : Nat) (s : State), 2000 ≤ ms → s.sys.kicked = false → s.slot.released = true → s.mode ≠ 4 → s.mode ≠ 5 →
    (s.sys.bootFails < 2 → ∃ t, exec (.bootLimitExpiry ms) s = .next t ∧ t.rd F.SYS_RESET_CAUSE_CAUSE = 5 ∧ t.mode = 0 ∧
      t.sys.bootFails = s.sys.bootFails + 1) ∧
    (2 ≤ s.sys.bootFails → ∃ t, exec (.bootLimitExpiry ms) s = .next t ∧ t.mode = 5 ∧ ∀ d, d < 50 → t.isOn d = false))

/-- R63 to R65, R88 to R100: three failed self-tests enter HALTED; else a cold start loads the built-in values or the
configuration chosen, waits for a Primer read that goes on, or is HALTED; the survival set and full service show in PHASE, in MODE and in the two times; what a
read of the Primer, its write-back and the settings copy leave. -/
def Obligations.StartUpCommands : Prop :=
  (∀ (o n : Nat) (us : BitVec 32) (a b dn : Bool) (s : State), s.slot.released = true → s.slot.logicOn = true → s.mode = 0 →
      s.phase = 0 →
    ∃ t, exec (.coldStart o n a b us dn) s = .next t ∧ (3 ≤ n → t.mode = 5 ∧ ∀ d, d < 50 → t.isOn d = false) ∧
      (n < 3 → t.mode = 5 ∨ t.pRec = builtIn ∨ (t.sys.readDue = true ∧ t.phase = 2) ∨
        ∃ h c, t.pRec = bodyVals h.format.toNat c ∧ t.sys.cfg = some c ∧ t.sys.cfgHdr = some h)) ∧
  (∀ (ms : BitVec 16) (s : State), s.mode = 0 → s.phase = 2 → s.sys.readDue = false →
    ∃ t, exec (.survivalSetReached ms) s = .next t ∧ t.phase = 3 ∧ t.mode = 1 ∧
      t.rd F.SYS_START_TIME_SURVIVAL_MS = ms.toNat) ∧
  (∀ (l : List (Fin 50)) (s : State), s.sys.levelTo = some 2 → s.mode = 1 → s.phase = 3 →
    ((s.hdr s.restr.running).state = 4 → s.migrationFails = true →
      ∃ t, exec (.fullServiceBringup l) s = .next t ∧ t.rd F.SYS_RESET_CAUSE_CAUSE = 6 ∧ t.mode = 0) ∧
    (∀ d, (s.hdr s.restr.running).state ≠ 4 → riseOrder.filter (fun d => s.dom d == domOff) = [d] → l = [] →
        s.planned 2 d = domOn → s.idleSpare d = false → (∀ p ∈ domParents d, s.isOn p = true) →
      ∃ t, exec (.fullServiceBringup l) s = .next t ∧ t.isOn d = true)) ∧
  (∀ (ms : BitVec 16) (s : State), s.fullUp = true → s.sys.levelTo = some 2 → s.mode = 1 → s.phase = 3 →
      s.rd F.SYS_START_TIME_FULL_MS = 0 →
    ∃ t, exec (.fullServiceReached ms) s = .next t ∧ t.mode = 2 ∧ t.phase = 4 ∧ t.rd F.SYS_START_TIME_FULL_MS = ms.toNat ∧
      t.sys.levelTo = none) ∧
  (∀ (us : BitVec 32) (dn : Bool) (s : State), s.isOn 49 = true → s.ejecting = false → s.sys.readDue = false →
      s.rd F.SLOT_PRIMER_STAT_STATE ≠ 1 →
    ∃ t, exec (.primerRead us dn) s = .next t ∧
      t.rd F.SLOT_PRIMER_STAT_STATE =
        (if primerState s.slot.primer = 2 ∧ dn = false then 1 else primerState s.slot.primer) ∧
      t.slot.primVcc = decide (primerState s.slot.primer = 2) ∧
      (primerState s.slot.primer = 2 → dn = true → t.rd F.SLOT_PRIMER_TIME_DURATION_US = us.toNat) ∧
      BlocksKept [bSLOT] s t ∧ MemKept s t) ∧
  (∀ (h : PrimerHdr) (d : PrimerDev) (s : State), s.phase = 4 → s.allOn [0, 44] = true → s.slot.noFlashWrite = false →
      (s.rd F.SYS_CONFIG_SRC_SOURCE = 1 ∨ s.rd F.SYS_CONFIG_SRC_SOURCE = 2) → s.sys.cfgHdr = some h →
      s.slot.primer = some d → s.sys.copy = none →
    ∃ t c, exec .settingsCopyWrite s = .next t ∧ t.sys.copy = some c ∧ c.hdr = h ∧ c.slot = s.rd F.SLOT_STATUS_ADDR ∧
      t.rd F.SYS_CONFIG_SRC_SEATED = 1 ∧ RegsKept [F.SYS_CONFIG_SRC_SEATED] s t ∧ MemKept s t) ∧
  (∀ (n : Nat) (w : WriteBack) (s : State), s.slot.writeBack = some w → s.slot.noFlashWrite = false →
      s.leverShut = true →
    ∃ t, exec (.primerWriteBack n) s = .next t ∧ t.slot.writeBack = some { w with pages := min w.total (w.pages + n) } ∧
      t.rd F.SLOT_PRIMER_WB_STATE = 2 ∧ t.rd F.SLOT_PRIMER_WB_PAGES = min w.total (w.pages + n) % 2 ^ 24 ∧
      RegsKept [F.SLOT_PRIMER_WB_STATE, F.SLOT_PRIMER_WB_PAGES] s t ∧ MemKept s t) ∧
  (∀ (ok : Bool) (w : WriteBack) (s : State), s.slot.writeBack = some w → w.total ≤ w.pages →
      s.slot.noFlashWrite = false →
    ∃ t, exec (.primerWbComplete ok) s = .next t ∧ t.slot.writeBack = none ∧
      t.rd F.SLOT_PRIMER_WB_STATE = (if ok then 3 else 5) ∧
      RegsKept [F.SLOT_PRIMER_WB_STATE, F.SLOT_PRIMER_WB_PAGES] s t ∧ MemKept s t)

/-! ## The slot bus, the bypass, the connector -/

/-- R66 to R74, R534: what a frame, a response and a fault of the bus leave. A frame that follows enough quiet and asks the
module's own address is counted, its octets kept, and answered; a frame for another slot is counted alone; a frame that comes
too soon is none. What the wires carry of octets reads back as those octets. -/
def Obligations.SlotBusCommands : Prop :=
  (∀ (w : Bool × Bool) (l : List Byte), sbOctets l.length (sbRead (sbLevels w (sbBits l))) = l ∧
    ∀ i, i < 8 * l.length → ∀ x y, (w :: sbLevels w (sbBits l))[i]? = some x → (w :: sbLevels w (sbBits l))[i + 1]? = some y →
      (x.1 ≠ y.1 ↔ x.2 = y.2)) ∧
  (∀ (a : BitVec 6) (q : Nat) (s : State), s.frameBegins q = false →
    (∃ t, exec (.ping a q) s = .next t ∧ t.slot = s.slot ∧ RegsKept [] s t ∧ MemKept s t) ∧
    (∃ t, exec (.status a q) s = .next t ∧ t.slot = s.slot ∧ RegsKept [] s t ∧ MemKept s t)) ∧
  (∀ (a : BitVec 6) (q : Nat) (s : State), s.busUp = true → s.frameBegins q = true → s.isSet F.SLOT_BUS_CFG_ENABLE = true →
      a.toNat = s.rd F.SLOT_STATUS_ADDR → a ≠ 63 → s.slot.respDue = none → s.pendingIn bSLOT = false →
    (∃ t, exec (.ping a q) s = .next t ∧ t.slot.respDue = some ⟨a.toNat, 0x81, []⟩ ∧
      t.rd F.SLOT_BUS_CNT_GOOD = (s.rd F.SLOT_BUS_CNT_GOOD + 1) % 2 ^ 16 ∧
      t.rd (F.SLOT_SB_LAST_OCTETS 0) = ofOctetsLE ((slotFrameOctets a.toNat 1 false []).take 4) ∧
      RegsKept (F.SLOT_BUS_CNT_GOOD :: (List.range 10).map F.SLOT_SB_LAST_OCTETS) s t ∧ MemKept s t) ∧
    (∃ t p, exec (.status a q) s = .next t ∧ t.slot.respDue = some ⟨a.toNat, 0x83, p⟩ ∧ p.length = 8) ∧
    (∀ (cmd : Byte) (payload : List Byte), payload.length ≤ 32 → (cmd ≠ 1 ∧ cmd ≠ 3 ∨ payload ≠ []) →
        (cmd ≠ 2 ∨ ∀ l, payload = [l] → 1 < l.toNat) → ∃ t, exec (.slotBadRequest a cmd payload q) s = .next t ∧
      t.slot.respDue = some ⟨a.toNat, 0xFF, o1 stBAD⟩) ∧
    (∀ l : Byte, l.toNat ≤ 1 → s.slot.wakeRun = [] → s.mode = 4 → s.ejecting = false → s.slot.logicOn = true →
        s.sys.levelTo = none →
      ∃ t, exec (.wake a l false q) s = .next t ∧ t.slot.respDue = some ⟨a.toNat, 0x82, o1 stOK⟩ ∧
        t.slot.wakeRun = [l.toNat] ∧ t.sys.parkLatch = false ∧ t.mode = 0 ∧
        t.sys.levelTo = some (if l = 0 then 1 else 2))) ∧
  (∀ (why : FrameError) (q : Nat) (s : State), s.busUp = true → s.frameBegins q = true → s.pendingIn bSLOT = false →
    ∃ t, exec (.slotFrameDiscard why q) s = .next t ∧
      t.rd F.SLOT_BUS_CNT_CRC_ERR = satInc 255 (s.rd F.SLOT_BUS_CNT_CRC_ERR) ∧ RegsKept [F.SLOT_BUS_CNT_CRC_ERR] s t ∧
      t.slot.quietWait = (match why with | .crc => false | _ => true) ∧ t.slot.respDue = s.slot.respDue ∧ MemKept s t) ∧
  (∀ (r : SlotResp) (s : State), s.slot.respDue = some r →
    (∃ t, exec .slotResponseSend s = .next t ∧
      t.out = .slotFrame (slotFrameOctets r.addr r.cmd true r.payload)
        (sbLevels (s.slot.sbD, s.slot.sbS) (sbBits (slotFrameOctets r.addr r.cmd true r.payload))) :: s.out ∧
      t.slot.respDue = s.slot.respHeld ∧ t.slot.respHeld = none ∧ RegsKept [] s t ∧ MemKept s t) ∧
    (∃ t, exec .slotBusCollision s = .next t ∧ t.out = s.out ∧ t.slot.respDue = s.slot.respHeld ∧
      t.slot.respHeld = none ∧ t.slot.quietWait = true ∧
      t.rd F.SLOT_BUS_STAT_COLLISIONS = satInc 255 (s.rd F.SLOT_BUS_STAT_COLLISIONS) ∧
      RegsKept [F.SLOT_BUS_STAT_COLLISIONS] s t ∧ MemKept s t)) ∧
  (∀ (n q : Nat) (s : State), s.busUp = true → s.frameBegins q = true → 66 ≤ n →
    ∃ t, exec (.slotFrameTimeout n q) s = .next t ∧ t.rd F.SLOT_BUS_STAT_SB_FAULT = 1 ∧ t.rd F.SLOT_BUS_STAT_IGNORING = 1 ∧
      RegsKept [F.SLOT_BUS_STAT_SB_FAULT, F.SLOT_BUS_STAT_IGNORING, F.SLOT_BUS_CNT_TIMEOUT] s t ∧ MemKept s t) ∧
  (∀ (n us : Nat) (s : State), s.islandOn = true → 16 ≤ n → 250 ≤ us →
    ∃ t, exec (.idlePattern n us) s = .next t ∧ t.rd F.SLOT_BUS_STAT_IGNORING = 0 ∧ t.slot.quietWait = false ∧
      RegsKept [F.SLOT_BUS_STAT_IGNORING] s t ∧ MemKept s t) ∧
  (∀ (a : BitVec 6) (q : Nat) (s : State), s.busUp = true → s.frameBegins q = true → a ≠ 63 →
      a.toNat ≠ s.rd F.SLOT_STATUS_ADDR → s.pendingIn bSLOT = false →
    ∃ t, exec (.frameForOtherSlot a false q) s = .next t ∧
      t.rd F.SLOT_BUS_CNT_GOOD = (s.rd F.SLOT_BUS_CNT_GOOD + 1) % 2 ^ 16 ∧ RegsKept [F.SLOT_BUS_CNT_GOOD] s t ∧
      t.slot.quietWait = false ∧ t.slot.respDue = s.slot.respDue ∧
      t.out = s.out ∧ MemKept s t)

/-- R76 to R78, R527: a loop test starts only where it may, passes when both ports hold, and raises BYPASS_HOLD where
HOLD_EN allows; a failed one keeps the bypass closed, and is tried again; HOLD_EN 0 lowers the line at once; a bypass
contact that disagrees for more than 20 ms is a failed test; a short and an overcurrent switch their output off. -/
def Obligations.BypassAndConnectorCommands : Prop :=
  (∀ (r : Fin 2) (s : State), s.loopReady r = true →
    ∃ t, exec (.loopTestStart r) s = .next t ∧ t.rd (fResult r) = 1 ∧ RegsKept [fResult r] s t ∧ MemKept s t) ∧
  (∀ (r : Fin 2) (ms : Nat) (s : State), s.rd (fResult r) = 1 → 10 ≤ ms →
    (∃ t, exec (.loopTestEnd r true true ms) s = .next t ∧ t.rd (fResult r) = 2 ∧
      (s.isSet (fHoldEn r) = true → s.joinable = true → s.ejecting = false → t.rd (fHold r) = 1) ∧
      RegsKept [fResult r, F.SLOT_LOOPBACK_PORT_OK, fHold r, fBypass r] s t ∧ MemKept s t) ∧
    (∀ e w : Bool, (e && w) = false → ∃ t, exec (.loopTestEnd r e w ms) s = .next t ∧ t.rd (fResult r) = 3 ∧
      t.rd (fHold r) = 0 ∧ RegsKept [fResult r, F.SLOT_LOOPBACK_PORT_OK, fHold r, fBypass r, F.HCP_EVT_STAT_DROPPED,
        F.HCP_EVT_STAT_PENDING] s t ∧ MemKept s t)) ∧
  (∀ (r : Fin 2) (ms : Nat) (s : State), s.rd (fResult r) = 3 → s.loopReady r = true → 10000 ≤ ms →
    ∃ t, exec (.loopTestRetry r ms) s = .next t ∧ t.rd (fResult r) = 1 ∧
      t.rd (fRetry r) = satInc 255 (s.rd (fRetry r)) ∧ RegsKept [fResult r, fRetry r] s t ∧ MemKept s t) ∧
  (∀ (req : Fin 36) (a b : Bool) (s : State), s.isOn 49 = true → s.pendingIn bSLOT = false →
    ∃ t, exec (.slotBypassCtrl req a b) s = .next t ∧ t.rd F.SLOT_BYPASS_CTRL_HOLD_EN_A = b2n a ∧
      t.rd F.SLOT_BYPASS_CTRL_HOLD_EN_B = b2n b ∧ (a = false → t.rd F.SLOT_STATUS_HOLD_A = 0) ∧
      (b = false → t.rd F.SLOT_STATUS_HOLD_B = 0) ∧ MemKept s t) ∧
  (∀ (r : Fin 2) (l : Bool) (ms : Nat) (s : State), b2n l ≠ s.rd (fHold r) → s.rd (fHold r) ≤ 1 → 20 < ms →
    ∃ t, exec (.bypassStateMismatch r l ms) s = .next t ∧ t.rd (fResult r) = 3 ∧ t.rd (fHold r) = 0 ∧
      t.rd (fBypass r) = b2n l ∧ MemKept s t) ∧
  (∀ (n : Fin 16) (s : State), s.isOn 49 = true → bitAt s.io.doOut n = true → bitAt s.io.doOff n = false →
    ∃ t, exec (.doShort n) s = .next t ∧ bitAt t.io.doOff n = true ∧ t.io.doOut = s.io.doOut ∧
      RegsKept [F.HCP_EVT_STAT_DROPPED, F.HCP_EVT_STAT_PENDING] s t ∧ MemKept s t) ∧
  (∀ (n : Fin 16) (ms : Nat) (s : State), s.isOn 49 = true → bitAt s.io.doOff n = true → 1000 ≤ ms →
    (∃ t, exec (.doShortRetry n false ms) s = .next t ∧ bitAt t.io.doOff n = false ∧ RegsKept [] s t ∧ MemKept s t) ∧
    (∃ t, exec (.doShortRetry n true ms) s = .next t ∧ bitAt t.io.doOff n = true ∧ RegsKept [] s t ∧ MemKept s t)) ∧
  (∀ (f : Fin 12) (mA : Nat) (s : State), s.isOn 49 = true → bitAt s.io.coilOut f = true → 3000 < mA →
    ∃ t, exec (.coilOvercurrent f mA) s = .next t ∧ bitAt t.io.coilOff f = true ∧
      RegsKept [F.HCP_EVT_STAT_DROPPED, F.HCP_EVT_STAT_PENDING] s t ∧ MemKept s t)

/-! ## Domains, service levels, the Tuning engine -/

/-- R425 to R430: a request that breaks no rule begins its change, one that does is answered BAD and counted, one that
comes during a change waits; a change ends in its target; a fault of a survival domain enters HALTED, any other shows in
FAULT with the domain not ON. -/
def Obligations.DomainCommands : Prop :=
  (∀ (req : Fin 36) (d : Fin 50) (x : BitVec 2) (s : State), s.isOn 49 = true → x.toNat ≤ 2 → s.pendingIn bPWR = false →
    (s.dom d ≠ domChanging → x.toNat ≠ s.dom d → s.reqBad d x.toNat true = false →
      ∃ t, exec (.pwrDomReq req d x) s = .next t ∧ t.dom d = domChanging ∧
        t.rd (F.PWR_DOM_STATE_TARGET d) = x.toNat ∧ t.rd (F.PWR_DOM_STATE_LAST_STATUS d) = stOK) ∧
    (s.dom d ≠ domChanging → x.toNat ≠ s.dom d → s.reqBad d x.toNat true = true →
      ∃ t, exec (.pwrDomReq req d x) s = .next t ∧ t.dom d = s.dom d ∧
        t.rd (F.PWR_DOM_STATE_LAST_STATUS d) = stBAD ∧
        t.rd F.PWR_PSC_CNT_REFUSED = (s.rd F.PWR_PSC_CNT_REFUSED + 1) % 2 ^ 16 ∧
        t.out = .access req (0x40010100 + 4 * d) stBAD 0 :: s.out ∧
        RegsKept [F.PWR_DOM_STATE_LAST_STATUS d, F.PWR_PSC_CNT_REFUSED] s t ∧ MemKept s t) ∧
    (s.dom d = domChanging → ∃ t, exec (.pwrDomReq req d x) s = .next t ∧ t.dom d = domChanging ∧
      t.rd (F.PWR_DOM_STATE_PENDING d) = x.toNat ∧ t.rd (F.PWR_DOM_STATE_PEND_VALID d) = 1 ∧ MemKept s t)) ∧
  (∀ (d : Fin 50) (s : State), s.dom d = domChanging → s.rd (F.PWR_DOM_STATE_TARGET d) ≤ 2 →
      s.isSet (F.PWR_DOM_STATE_PEND_VALID d) = false → s.sys.levelWait ≠ some d.val → s.pendingIn bPWR = false →
    ∃ t, exec (.domainChangeComplete d) s = .next t ∧ t.dom d = s.rd (F.PWR_DOM_STATE_TARGET d)) ∧
  (∀ (d : Fin 50) (c : FaultCause) (s : State), s.dom d ≠ domOff →
    (survivalSet.contains d.val = true → ∃ t, exec (.domainFault d c) s = .next t ∧ t.mode = 5 ∧
      ∀ e, e < 50 → t.isOn e = false) ∧
    (survivalSet.contains d.val = false → (∀ e ∈ below d, survivalSet.contains e = false) → s.sys.levelWait = none →
        s.pendingIn bPWR = false →
      ∃ t, exec (.domainFault d c) s = .next t ∧ t.rd (F.PWR_DOM_STATE_FAULT d) = 1 ∧ t.dom d = domOff))

/-- R431 to R438, R514, R527: a command to a level reaches it or goes on toward it; the automatic level changes; the
alarm and the return of the supply of a parked module; the operating seconds; the cell's voltage; the supply dropping,
returning and standing too high. -/
def Obligations.PowerCommands : Prop :=
  (∀ (req : Fin 36) (s : State), s.isOn 49 = true → (s.mode = 1 ∨ s.mode = 2 ∨ s.mode = 3) → s.pendingIn bPWR = false →
    (∃ t, exec (.reduced req 0x6D2E) s = .next t ∧ (t.sys.levelTo = some 3 ∨ t.mode = 3)) ∧
    (∃ t, exec (.full req 0x6D2E) s = .next t ∧ (t.sys.levelTo = some 2 ∨ t.mode = 2)) ∧
    (s.slot.wakeRun = [] → ∃ t, exec (.park req 0x6D2E) s = .next t ∧ (t.sys.levelTo = some 4 ∨
      (t.mode = 4 ∧ t.sys.parkLatch = true ∧ ∀ d, d < 50 → t.isOn d = false)))) ∧
  (∀ (n : Nat) (s : State), s.isSet F.PWR_AUTO_EN = true → s.isOn 49 = true → s.sys.levelTo = none →
    (s.mode = 2 → s.rd F.PWR_AUTO_ENTER_S ≤ n →
      ∃ t, exec (.autoEnter true n) s = .next t ∧ (t.sys.levelTo = some 3 ∨ t.mode = 3)) ∧
    (s.mode = 3 → s.rd F.PWR_AUTO_LEAVE_S ≤ n →
      ∃ t, exec (.autoLeave false n) s = .next t ∧ (t.sys.levelTo = some 2 ∨ t.mode = 2))) ∧
  (∀ s : State, s.mode = 4 → s.alarmReached = true → s.slot.logicOn = true →
    ∃ t, exec .pwrAlarmMatch s = .next t ∧ t.mode = 0 ∧ t.sys.parkLatch = false ∧ t.slot.wakeRun = [1] ∧
      t.sys.levelTo = some 2 ∧ RegsKept [F.PWR_MODE_MODE, F.PWR_ALARM_LO_ALARM, F.PWR_ALARM_HI_ALARM] s t ∧ MemKept s t) ∧
  (∀ s : State, s.sys.parkLatch = true →
    ∃ t, exec .parkedSupplyReturn s = .next t ∧ t.mode = 4 ∧ t.slot.logicOn = true ∧ t.sys.parkLatch = true ∧
      t.rd F.SYS_RESET_CAUSE_CAUSE = 1 ∧ t.rd F.PWR_CYCLES_COUNT = (s.rd F.PWR_CYCLES_COUNT + 1) % 2 ^ 32 ∧ MemKept s t) ∧
  (∀ s : State, s.rtcUp = true → s.slot.logicOn = true →
    ∃ t, exec .operatingSecond s = .next t ∧ t.opSec = (s.opSec + 1) % 2 ^ 40 ∧ MemKept s t) ∧
  (∀ (mV : BitVec 16) (s : State),
    ∃ t, exec (.vbatMeasure mV) s = .next t ∧ t.rd F.RTC_VBAT_MV = mV.toNat ∧
      t.isSet F.PWR_ISLAND_STAT_VBAT_LOW = decide (mV.toNat < 2600) ∧
      RegsKept [F.RTC_VBAT_MV, F.PWR_ISLAND_STAT_VBAT_LOW, F.HCP_EVT_STAT_DROPPED, F.HCP_EVT_STAT_PENDING] s t ∧ MemKept s t) ∧
  (∀ (mV us : Nat) (s : State), s.slot.logicOn = true → s.slot.cellFitted = true →
    (mV < 33000 → 10000 ≤ us → ∃ t, exec (.logicSupplyDrop mV us) s = .next t ∧ t.slot.logicOn = false ∧
      t.slot.released = false ∧ t.rd F.PWR_ISLAND_STAT_ON_CELL = 1 ∧ ∀ d, d < 50 → t.isOn d = false) ∧
    (66000 < mV → 1000 ≤ us → ∃ t, exec (.logicOvervoltage mV us) s = .next t ∧ t.slot.logicOn = false ∧
      t.slot.released = false ∧ t.rd F.PWR_ISLAND_STAT_ON_CELL = 1 ∧ ∀ d, d < 50 → t.isOn d = false)) ∧
  (∀ (mV us : Nat) (s : State), s.slot.logicOn = false → 35000 < mV → 20000 ≤ us → s.sys.parkLatch = false →
      s.present = true → s.leverShut = true → s.slot.released = false →
    ∃ t, exec (.logicSupplyReturn mV us) s = .next t ∧ t.slot.logicOn = true ∧ t.slot.released = true ∧
      t.rd F.PWR_CYCLES_COUNT = (s.rd F.PWR_CYCLES_COUNT + 1) % 2 ^ 32 ∧ t.mode = 0 ∧ t.sys.levelTo = some 2)

/-- R439 to R443: what a measurement stores; a floor slack below the guard band raises the supply by one step while one is
left; the age and the forecast with WARN at a year; the plans stored. -/
def Obligations.TuningCommands : Prop :=
  (∀ (d : Fin 50) (fl ti : BitVec 16) (s : State), s.blockOn bTUNE = true → s.isOn d = true →
      s.isSet F.TUNE_CTRL_EN = false →
    ∃ t, exec (.tuneMeasure d fl ti) s = .next t ∧ t.rd (F.TUNE_DOM_SLACK_TIMING d) = ti.toNat ∧
      t.rd (F.TUNE_DOM_SLACK_FLOOR d) = (if s.floored d then fl.toNat else 0x8000) ∧
      RegsKept [F.TUNE_DOM_SLACK_FLOOR d, F.TUNE_DOM_SLACK_TIMING d] s t ∧ MemKept s t) ∧
  (∀ (d : Fin 50) (fl ti : BitVec 16) (s : State), s.blockOn bTUNE = true → s.isOn d = true →
      s.isSet (F.TUNE_DOM_STAT_REPLANNING d) = true → s.floored d = true →
      toSigned 16 fl.toNat - (s.rd (F.TUNE_DOM_STAT_AGE_PS d) : Int) < (s.rd F.TUNE_CFG_GUARD_LO_PS : Int) →
      s.rd (F.TUNE_DOM_PLAN_SUPPLY d) < supplyMax →
    ∃ t, exec (.replanSettled d fl ti) s = .next t ∧
      t.rd (F.TUNE_DOM_PLAN_SUPPLY d) = s.rd (F.TUNE_DOM_PLAN_SUPPLY d) + 1 ∧
      t.rd (F.TUNE_DOM_STAT_REPLANNING d) = 1 ∧ t.sys.planDirty = true ∧
      RegsKept [F.TUNE_DOM_SLACK_FLOOR d, F.TUNE_DOM_SLACK_TIMING d, F.TUNE_DOM_PLAN_TAPS d, F.TUNE_DOM_PLAN_SUPPLY d,
        F.TUNE_DOM_STAT_REPLANNING d] s t ∧ MemKept s t) ∧
  (∀ (d : Fin 50) (a : BitVec 8) (f : BitVec 16) (s : State), s.blockOn bTUNE = true → s.isOn d = true →
      s.isSet F.TUNE_CTRL_EN = false →
    ∃ t, exec (.ageingMeasure d a f) s = .next t ∧ t.rd (F.TUNE_DOM_STAT_AGE_PS d) = a.toNat ∧
      t.rd (F.TUNE_DOM_STAT_FORECAST_D d) = f.toNat ∧
      t.isSet (F.TUNE_DOM_STAT_WARN d) = (s.floored d && decide (f.toNat ≤ 365)) ∧
      RegsKept [F.TUNE_DOM_STAT_AGE_PS d, F.TUNE_DOM_STAT_FORECAST_D d, F.TUNE_DOM_STAT_WARN d, F.HCP_EVT_STAT_DROPPED,
        F.HCP_EVT_STAT_PENDING] s t ∧ MemKept s t) ∧
  (∀ s : State, s.blockOn bTUNE = true → s.allOn [0, 44] = true → s.slot.noFlashWrite = false →
    ∃ t, exec .planStore s = .next t ∧ t.sys.planDirty = false ∧
      t.sys.plans = (List.range 50).map
        (fun d => (d, s.rd (F.TUNE_DOM_PLAN_TAPS d), s.rd (F.TUNE_DOM_PLAN_SUPPLY d))) ∧
      RegsKept [] s t ∧ MemKept s t)

/-! ## The Pegbox -/

/-- R115 to R121: an OPEN that nothing refuses opens its context, one that is refused at its LAST word is answered; a data
word goes to the cell at the head of the free list, byte for byte, and to no other place; a commit links the packet,
answers OK and frees the context; a context left idle is answered TIMEOUT and discards, then ends; ABORT rewinds. -/
def Obligations.PegboxWriting : Prop :=
  (∀ (k : Fin 4) (w : FWord) (u : List (BitVec 19 × TagError)) (s : State), s.ctx w.src.toNat w.tag.toNat = none →
      w.poison = 0 → bits w.data.toNat 0 8 = 1 → w.last = false →
      s.openReason k (bits w.data.toNat 8 20) (bitAt w.data.toNat 28) w = none →
    ∃ t, exec (.pegOpen k w u) s = .next t ∧ RegsKept [] s t ∧ MemKept s t ∧ t.lanes = s.lanes ∧
      t.ctx w.src.toNat w.tag.toNat =
        some ⟨.open, k, bits w.data.toNat 8 20, bitAt w.data.toNat 28, 0, 0, 0, 0, false, none, s.sys.refTick⟩) ∧
  (∀ (k : Fin 4) (w : FWord) (u : List (BitVec 19 × TagError)) (r : Nat) (s : State), s.ctx w.src.toNat w.tag.toNat = none →
      (w.poison ≠ 0 ∨ bits w.data.toNat 0 8 = 1) → w.last = true →
      s.openReason k (bits w.data.toNat 8 20) (bitAt w.data.toNat 28) w = some r →
    ∃ t, exec (.pegOpen k w u) s = .next t ∧ BlocksKept [bPEG] s t ∧ MemKept s t ∧ t.ctx w.src.toNat w.tag.toNat = none ∧
      t.lane (16 + k) w.src.toNat = s.lane (16 + k) w.src.toNat ++
        [resultWord k w.src.toNat w.tag.toNat (reasonStatus r) r (bits w.data.toNat 8 20) 0]) ∧
  (∀ (w : FWord) (c : Ctx) (s : State), s.ctx w.src.toNat w.tag.toNat = some c → c.mode = .open → w.poison = 0 →
      (s.tag s.peg.freeHead).err ≠ .double → c.cells + 1 ≤ s.maxPktCells c.queue → s.popGranted w.src.toNat = true →
      ¬ (s.rd F.PEG_CELL_FREE_FREE - 1 < s.rd F.PEG_FREE_WARN_LEVEL ∧
        s.rd F.PEG_FREE_WARN_LEVEL ≤ s.rd F.PEG_CELL_FREE_FREE) → s.rd F.PEG_CELL_FREE_FREE ≤ nCells →
    ∃ t c', exec (.pegDataWord w []) s = .next t ∧ t.ctx w.src.toNat w.tag.toNat = some c' ∧
      c'.cells = c.cells + 1 ∧ c'.lastC = s.peg.freeHead ∧ c'.mode = (if w.last then .closing else .open) ∧
      t.rd F.PEG_CELL_FREE_FREE = s.rd F.PEG_CELL_FREE_FREE - 1 ∧ BlocksKept [bPEG] s t ∧
      (∀ i, i < 64 → t.rd8 (0x60000000 + 64 * s.peg.freeHead + i) = bits w.data.toNat (8 * i) 8) ∧
      (∀ a, a < 0x60000000 + 64 * s.peg.freeHead ∨ 0x60000000 + 64 * s.peg.freeHead + 64 ≤ a → t.rd8 a = s.rd8 a)) ∧
  (∀ (p : Fin 32) (tg : Byte) (c : Ctx) (s : State), s.ctx p tg.toNat = some c → c.mode = .closing → c.k < 4 →
      s.commitReason c = none →
    ∃ t, exec (.pegCommit p tg) s = .next t ∧ t.ctx p tg.toNat = none ∧
      (t.desc c.queue).pktCnt = ((s.desc c.queue).pktCnt + 1) % 2 ^ 16 ∧
      (t.desc c.queue).cellCnt = ((s.desc c.queue).cellCnt + c.cells) % 2 ^ 19 ∧
      t.lane (16 + c.k) p = s.lane (16 + c.k) p ++ [resultWord c.k p tg.toNat stOK 0 c.queue c.cells] ∧
      BlocksKept [bPEG] s t ∧ MemKept s t) ∧
  (∀ (p : Fin 32) (tg : Byte) (c : Ctx) (s : State), s.ctx p tg.toNat = some c → s.ctxExpired c.stamp = true → c.k < 4 →
    (c.mode = .open → ∃ t, exec (.ctxTimeout p tg) s = .next t ∧
      t.ctx p tg.toNat = some { c with mode := .discard, cells := 0, due := none, stamp := s.sys.refTick } ∧
      t.lane (16 + c.k) p = s.lane (16 + c.k) p ++ [resultWord c.k p tg.toNat stTIMEOUT 8 c.queue c.cells] ∧
      BlocksKept [bPEG] s t ∧ MemKept s t) ∧
    (c.mode = .discard → ∃ t, exec (.discardTimeout p tg) s = .next t ∧ t.ctx p tg.toNat = none ∧ t.lanes = s.lanes ∧
      RegsKept [] s t ∧ MemKept s t)) ∧
  (∀ (k : Fin 4) (w : FWord) (c : Ctx) (s : State), s.ctx w.src.toNat w.tag.toNat = some c → c.mode = .open → c.k < 4 →
      w.poison = 0 → bits w.data.toNat 0 8 = 2 →
    ∃ t, exec (.pegAbort k w) s = .next t ∧ t.ctx w.src.toNat w.tag.toNat = none ∧
      t.lane (16 + c.k) w.src.toNat = s.lane (16 + c.k) w.src.toNat ++
        [resultWord c.k w.src.toNat w.tag.toNat stBAD 1 c.queue c.cells] ∧ BlocksKept [bPEG] s t ∧ MemKept s t)

/-- R122 to R130: a claim is issued by push or by DEQUEUE to a port with room, on a queue with a packet and without a claim;
a DEQUEUE of an empty queue is answered with an empty claim word; a chain read of a one-cell packet returns its line with
its valid octets; RELEASE and the claim's time limit end the claim, a RELEASE while the packet is read waiting for the reads' end;
a flush empties the queue. R18, R120: a poisoned word is answered POISON, a control word of no OP BAD; neither does more. -/
def Obligations.PegboxClaims : Prop :=
  (∀ (q : BitVec 20) (s : State), s.pushDue q.toNat = true →
    ∃ t cl, exec (.pushClaim q) s = .next t ∧ t.peg.claims.find q.toNat = some cl ∧
      cl.port = (s.desc q.toNat).consumer ∧ (t.desc q.toNat).claimed = true ∧
      (t.desc q.toNat).pktCnt = (s.desc q.toNat).pktCnt - 1 ∧ BlocksKept [bPEG] s t ∧ MemKept s t) ∧
  (∀ (k : Fin 4) (w : FWord) (s : State), qPort (bits w.data.toNat 8 20) = k →
      (s.desc (bits w.data.toNat 8 20)).claimed = false → s.claimRoom w.src.toNat = true → w.poison = 0 →
    (s.hasPacket (bits w.data.toNat 8 20) = true →
      ∃ t cl, exec (.dequeue k w) s = .next t ∧ t.peg.claims.find (bits w.data.toNat 8 20) = some cl ∧
        cl.port = w.src.toNat ∧ (t.desc (bits w.data.toNat 8 20)).claimed = true ∧ BlocksKept [bPEG] s t ∧ MemKept s t) ∧
    (s.hasPacket (bits w.data.toNat 8 20) = false →
      ∃ t, exec (.dequeue k w) s = .next t ∧ t.peg = s.peg ∧ RegsKept [] s t ∧ MemKept s t ∧
        t.lane (16 + k) w.src.toNat = s.lane (16 + k) w.src.toNat ++
          [claimWord kReadRsp w.src.toNat k w.tag.toNat stOK (bits w.data.toNat 8 20) 0 0 0 0 0])) ∧
  (∀ (g : Fin 4) (w : FWord) (n q : Nat) (cl : Claim) (s : State), s.peg.revoked = [] →
      s.peg.claims.find? (fun e => e.2.first == bits w.data.toNat 8 19) = some (q, cl) →
      bits (bits w.data.toNat 8 19) 17 2 = g → (s.tag (bits w.data.toNat 8 19)).claimed = true →
      (s.tag (bits w.data.toNat 8 19)).port = w.src.toNat → (s.tag (bits w.data.toNat 8 19)).eop = true →
      (s.tag (bits w.data.toNat 8 19)).err = .none → w.poison = 0 → 1 ≤ n →
    ∃ t, exec (.chainRead g w n [] []) s = .next t ∧ t.peg = s.peg ∧ RegsKept [] s t ∧ MemKept s t ∧
      t.lane (20 + g) w.src.toNat = s.lane (20 + g) w.src.toNat ++
        [mkWord w.src.toNat (20 + g) kReadRsp w.tag.toNat true (s.tag (bits w.data.toNat 8 19)).vb 0
          (s.rdMem (0x60000000 + 64 * bits w.data.toNat 8 19) 64)]) ∧
  (∀ (k : Fin 4) (w : FWord) (cl : Claim) (s : State), qPort (bits w.data.toNat 8 20) = k →
      s.peg.claims.find (bits w.data.toNat 8 20) = some cl → cl.queue = bits w.data.toNat 8 20 →
      cl.id = bits w.data.toNat 32 16 → cl.port = w.src.toNat → 0 < cl.cells → s.pendingIn bPEG = false → s.peg.reads = [] →
      w.poison = 0 → bits w.data.toNat 0 8 = 4 →
    ∃ t, exec (.pegRelease k w) s = .next t ∧ t.peg.claims.find (bits w.data.toNat 8 20) = none ∧
      (t.desc (bits w.data.toNat 8 20)).claimed = false ∧
      t.rd F.PEG_CELL_FREE_FREE = (s.rd F.PEG_CELL_FREE_FREE + cl.cells) % 2 ^ 20 ∧ t.peg.freeHead = cl.first ∧
      t.lane (16 + k) w.src.toNat = s.lane (16 + k) w.src.toNat ++
        [resultWord k w.src.toNat w.tag.toNat stOK 0 (bits w.data.toNat 8 20) cl.cells] ∧
      BlocksKept [bPEG] s t ∧ MemKept s t) ∧
  (∀ (q : BitVec 20) (cl : Claim) (s : State), s.peg.claims.find q.toNat = some cl → cl.queue = q.toNat →
      s.claimExpired cl.stamp = true → s.peg.revoked = [] → s.peg.reads = [] →
    ∃ t, exec (.claimTimeout q) s = .next t ∧ t.peg.claims.find q.toNat = none ∧ (t.desc q.toNat).claimed = false ∧
      (t.desc q.toNat).pktCnt = ((s.desc q.toNat).pktCnt + 1) % 2 ^ 16 ∧
      (cl.exp = true → (t.desc q.toNat).expHead = cl.first ∧ (t.desc q.toNat).expNE = true) ∧
      (cl.exp = false → (t.desc q.toNat).ordHead = cl.first ∧ (t.desc q.toNat).ordNE = true) ∧
      BlocksKept [bPEG] s t ∧ MemKept s t) ∧
  (∀ (k : Fin 4) (w : FWord) (s : State), qPort (bits w.data.toNat 8 20) = k → w.poison = 0 →
      bits w.data.toNat 0 8 = 3 → s.peg.reads = [] →
    ∃ t, exec (.pegFlushCmd k w) s = .next t ∧ (t.desc (bits w.data.toNat 8 20)).pktCnt = 0 ∧
      (t.desc (bits w.data.toNat 8 20)).cellCnt = 0 ∧ t.hasPacket (bits w.data.toNat 8 20) = false ∧
      (t.desc (bits w.data.toNat 8 20)).claimed = false ∧
      t.lane (16 + k) w.src.toNat = s.lane (16 + k) w.src.toNat ++
        [resultWord k w.src.toNat w.tag.toNat stOK 0 (bits w.data.toNat 8 20) 0] ∧ BlocksKept [bPEG] s t ∧ MemKept s t) ∧
  (∀ (req : Fin 36) (q : BitVec 20) (s : State), s.blockOn bPEG = true →
    ∃ t, exec (.pegFlush req q) s = .next t ∧ (t.desc q.toNat).pktCnt = 0 ∧ (t.desc q.toNat).cellCnt = 0 ∧
      t.hasPacket q.toNat = false ∧ (t.desc q.toNat).claimed = false ∧ BlocksKept [bPEG] s t ∧ MemKept s t) ∧
  (∀ (k : Fin 4) (w : FWord) (cl : Claim) (s : State), qPort (bits w.data.toNat 8 20) = k →
      s.peg.claims.find (bits w.data.toNat 8 20) = some cl → cl.id = bits w.data.toNat 32 16 → cl.port = w.src.toNat →
      s.readsOf cl ≠ [] → w.poison = 0 → bits w.data.toNat 0 8 = 4 →
    ∃ t, exec (.pegRelease k w) s = .next t ∧ t.peg.claims = s.peg.claims ∧ t.lanes = s.lanes ∧
      (∀ r ∈ t.readsOf cl, r.release = some w.tag.toNat) ∧ RegsKept [] s t ∧ MemKept s t) ∧
  (∀ (k : Fin 4) (w : FWord) (s : State), w.poison ≠ 0 →
    (∃ t, exec (.pegFlushCmd k w) s = .next t ∧ t.peg = s.peg ∧ t.lane (16 + k) w.src.toNat = s.lane (16 + k) w.src.toNat ++
      [resultWord k w.src.toNat w.tag.toNat stPOISON 2 0 0] ∧ RegsKept [] s t ∧ MemKept s t) ∧
    (∃ t, exec (.dequeue k w) s = .next t ∧ t.peg = s.peg ∧ t.lane (16 + k) w.src.toNat = s.lane (16 + k) w.src.toNat ++
      [claimWord kReadRsp w.src.toNat k w.tag.toNat stPOISON (bits w.data.toNat 8 20) 0 0 0 0 0] ∧ RegsKept [] s t ∧
      MemKept s t) ∧
    (∃ t, exec (.chainRead k w 144 [] []) s = .next t ∧ t.peg = s.peg ∧
      t.lane (20 + k) w.src.toNat = s.lane (20 + k) w.src.toNat ++
        [readEnd w.src.toNat (20 + k) w.tag.toNat stPOISON 0] ∧ RegsKept [] s t ∧ MemKept s t)) ∧
  (∀ (k : Fin 4) (w : FWord) (s : State), w.poison = 0 → bits w.data.toNat 0 8 < 2 ∨ 4 < bits w.data.toNat 0 8 →
    ∃ t, exec (.pegFlushCmd k w) s = .next t ∧ t.peg = s.peg ∧ t.lane (16 + k) w.src.toNat = s.lane (16 + k) w.src.toNat ++
      [resultWord k w.src.toNat w.tag.toNat stBAD 0 0 0] ∧ RegsKept [] s t ∧ MemKept s t)

/-- R109, R135, R136, R532: PEG_QCFG takes effect at once while the Pegbox does not run, and at the queue's next boundary,
which a quiet queue reaches at once, while it runs; a profile goes to its shadow while RUN is 1; the descriptor read; the
low-water mark and the ledger of cells. -/
def Obligations.PegboxRegisters : Prop :=
  (∀ (req : Fin 36) (v : BitVec 32) (s : State), s.blockOn bPEG = true →
    (s.run bPEG = false → ∃ t, exec (.pegQcfg req v) s = .next t ∧
      (t.desc (s.rdReq req F.PEG_QSEL_QUEUE)).enable = bitAt v.toNat 0 ∧
      (t.desc (s.rdReq req F.PEG_QSEL_QUEUE)).notifyEn = bitAt v.toNat 1 ∧
      (t.desc (s.rdReq req F.PEG_QSEL_QUEUE)).consumer = bits v.toNat 2 5 ∧
      (t.desc (s.rdReq req F.PEG_QSEL_QUEUE)).profile = bits v.toNat 7 4 ∧
      (∀ q, q ≠ s.rdReq req F.PEG_QSEL_QUEUE → t.desc q = s.desc q) ∧ RegsKept [] s t ∧ MemKept s t) ∧
    (s.run bPEG = true → s.queueQuiet (s.rdReq req F.PEG_QSEL_QUEUE) = true → s.isSet (F.SHADOW_HOLD bPEG) = false →
      ∃ t, exec (.pegQcfg req v) s = .next t ∧
        (t.desc (s.rdReq req F.PEG_QSEL_QUEUE)).enable = bitAt v.toNat 0 ∧
        (t.desc (s.rdReq req F.PEG_QSEL_QUEUE)).profile = bits v.toNat 7 4 ∧
        t.peg.qshadow.find (s.rdReq req F.PEG_QSEL_QUEUE) = none ∧ BlocksKept [bPEG] s t ∧ MemKept s t) ∧
    (s.run bPEG = true → s.queueQuiet (s.rdReq req F.PEG_QSEL_QUEUE) = false → s.peg.qshadow.length < 64 →
      ∃ t, exec (.pegQcfg req v) s = .next t ∧
        (t.desc (s.rdReq req F.PEG_QSEL_QUEUE)).enable = bitAt v.toNat 0 ∧
        (t.desc (s.rdReq req F.PEG_QSEL_QUEUE)).profile = (s.desc (s.rdReq req F.PEG_QSEL_QUEUE)).profile ∧
        t.peg.qshadow.find (s.rdReq req F.PEG_QSEL_QUEUE) =
          some ⟨bits v.toNat 7 4, bits v.toNat 2 5, bitAt v.toNat 1⟩ ∧ RegsKept [] s t ∧ MemKept s t)) ∧
  (∀ (req : Fin 36) (n : Fin 16) (v : BitVec 32) (s : State), s.blockOn bPEG = true → 1 ≤ bits v.toNat 19 8 →
      bits v.toNat 19 8 ≤ 144 →
    (s.run bPEG = false → ∃ t, exec (.pegProfile req false n v) s = .next t ∧
      t.rd (F.PEG_PROFILE_A_MAX_CELLS n) = bits v.toNat 0 19 ∧ t.rd (F.PEG_PROFILE_A_MAX_PKT_CELLS n) = bits v.toNat 19 8 ∧
      RegsKept [F.PEG_PROFILE_A_MAX_CELLS n, F.PEG_PROFILE_A_MAX_PKT_CELLS n, F.PEG_PROFILE_A_EXP_ALLOW n] s t ∧ MemKept s t) ∧
    (s.run bPEG = true → ∃ t, exec (.pegProfile req true n v) s = .next t ∧ RegsKept [] s t ∧ MemKept s t ∧
      t.shadow.find (F.PEG_PROFILE_B_MAX_PKTS n).key = some (bits v.toNat 0 16))) ∧
  (∀ (req : Fin 36) (s : State), s.blockOn bPEG = true →
    (∃ t, exec (.pegQstatRead req) s = .next t ∧ RegsKept [] s t ∧ MemKept s t ∧
      t.out = .access req 0x40040010 stOK (bits (s.desc (s.rdReq req F.PEG_QSEL_QUEUE)).word128 0 32) :: s.out ∧
      ∀ i, 1 ≤ i → i ≤ 3 → t.latches.find (reqKey req (0x40040010 + 4 * i)) =
        some (bits (s.desc (s.rdReq req F.PEG_QSEL_QUEUE)).word128 (32 * i) 32)) ∧
    (∃ t, exec (.pegFreeMinClear req) s = .next t ∧ t.rd F.PEG_FREE_MIN_MIN = s.rd F.PEG_CELL_FREE_FREE % 2 ^ 20 ∧
      RegsKept [F.PEG_FREE_MIN_MIN] s t ∧ MemKept s t) ∧
    (∃ t, exec (.pegAuditSnap req) s = .next t ∧ t.rd F.PEG_AUDIT_CTRL_VALID = 1 ∧
      (∀ i, i < 6 → t.rd (F.PEG_AUDIT_VALUE i) = s.cellTerms.getD i 0 % 2 ^ 20) ∧
      t.rd F.PEG_AUDIT_CTRL_SNAP_CNT = (s.rd F.PEG_AUDIT_CTRL_SNAP_CNT + 1) % 2 ^ 16 ∧
      RegsKept (F.PEG_AUDIT_CTRL_VALID :: F.PEG_AUDIT_CTRL_SNAP_CNT :: (List.range 6).map F.PEG_AUDIT_VALUE) s t ∧
      MemKept s t))

/-! ## The field network -/

/-- Everything but the 256 octets of node table entry `e` stays in memory. -/
def EntryAlone (e : Nat) (s t : State) : Prop := ∀ a, (a < 256 * e ∨ 256 * e + 256 ≤ a) → t.rd8 a = s.rd8 a

/-- What came on medium `m` is the good frame `f` of TYPE `ty` of a joined node of this module under the node's present key: HCRC,
FCS and MIC pass (R145, R157, R158). -/
def FrameFrom (s : State) (m : Byte) (ty : BitVec 3) (rx : FieldRx) (f : FieldFrame) : Prop :=
  s.mediumUp m.toNat = true ∧ rxGood m.toNat rx = true ∧ rxFrame rx = some f ∧ rx.clear.isSome = true ∧ f.up = true ∧
    f.ver = 1 ∧ f.modId.toNat = s.moduleId ∧ f.typ = ty ∧ f.sec = true ∧ bits f.keyIdx.toNat 6 2 = 0 ∧
    f.slot.toNat < 16320 ∧ s.ndState f.slot.toNat = 2 ∧ bits f.keyIdx.toNat 0 6 = s.keyData f.slot.toNat ∧
    s.keyUp (s.keyData f.slot.toNat) = true

/-- What came on medium `m` is a good JOIN_REQ to this module, and `f` its frame (R182). -/
def JoinFrom (s : State) (m : Byte) (rx : FieldRx) (f : FieldFrame) : Prop :=
  s.mediumUp m.toNat = true ∧ rxGood m.toNat rx = true ∧ rxFrame rx = some f ∧ rx.clear.isSome = true ∧ f.up = true ∧
    f.ver = 1 ∧ f.modId.toNat = s.moduleId ∧ f.typ = 3 ∧ f.sec = true ∧ f.slot = 16383 ∧ bits f.keyIdx.toNat 6 2 = 3 ∧
    f.payload.length = 15 ∧ f.payload.take 1 = o1 1

/-- R153 to R155, R161, R165 to R168: with superframes started, each boundary counts its SFN and publishes it; the start sets the
radio SFN from TB0's second, the journal's record plus 61 or the later of both, the carrier SFN 100 times that; the end of a
transmission settles its reservation; buckets that leave the window return their tokens; a duty written shows in its book;
the snapshot counts; the airtime record. -/
def Obligations.SuperframeAndAirtimeCommands : Prop :=
  (∀ (l : List (Fin 12 × Alloc)) (ps : List (BitVec 14)) (s : State), s.field.started = true → s.isOn 45 = true →
      s.field.cAt < s.tb2Ns / 10000000 → s.field.cAt < 100 * s.field.rAt + 99 → s.pendingIn bFPLC = false →
      s.pendingIn bNODE = false →
    ∃ t, exec (.carrierBoundary l ps) s = .next t ∧ t.field.cAt = s.field.cAt + 1 ∧ t.sfnC = (s.sfnC + 1) % 2 ^ 48 ∧
      (s.isOn 31 = true → t.rd F.NODE_IMG_PUB_C_P = (s.sfnC + 1) % 2 ^ 32)) ∧
  (∀ (l : List (Fin 4 × Alloc)) (m : List (Fin 12 × Byte)) (ps : List (BitVec 14)) (s : State), s.field.started = true →
      s.isOn 45 = true → s.field.rAt < s.tb2Ns / 1000000000 → s.field.cAt = 100 * s.field.rAt + 99 → s.pendingIn bFRAD = false →
    ∃ t, exec (.radioBoundary l m ps) s = .next t ∧ t.field.rAt = s.field.rAt + 1 ∧ t.field.sfnR = (s.field.sfnR + 1) % 2 ^ 48 ∧
      (s.isOn 31 = true → t.rd F.NODE_IMG_PUB_R_P = (s.field.sfnR + 1) % 2 ^ 48 % 2 ^ 32)) ∧
  (∀ (n v r : Nat) (s : State), s.field.started = false → s.allOn [31, 45] = true → n ≠ 0 →
      s.pendingIn bFPLC = false → s.pendingIn bNODE = false → s.pendingIn bFRAD = false →
      ((s.tb0Valid = true ∧ s.tb0Ns % 1000000000 < 1000 ∧ s.journalSfn = none ∧ v ≠ 0 ∧ r = s.tb0Sec) ∨
       (s.tb0Valid = true ∧ s.tb0Ns % 1000000000 < 1000 ∧ ∃ b, s.journalSfn = some b ∧ r = max s.tb0Sec b) ∨
       (s.tb0Valid = false ∧ s.journalSfn = some r)) →
    ∃ t, exec (.superframeStart n v) s = .next t ∧ t.field.started = true ∧ t.field.sfnR = r % 2 ^ 48 ∧
      t.sfnC = 100 * r % 2 ^ 48 ∧ t.time.tb2 = (if s.tb0Valid then s.tb0 % (1000000000 * 65536) else 0) ∧
      (s.tb0Valid = true → t.rd F.TIME_TB2_STAT_ALIGN_US = 0)) ∧
  (∀ (n j : Nat) (s : State), s.field.started = false → 60 ≤ n → s.jid = some j → s.jrnUp = true →
    ∃ t, exec (.airtimeRecord n) s = .next t ∧ t.jrn.air.find j = some s.airRec ∧ RegsKept [] s t ∧ MemKept s t) ∧
  (∀ (r : Fin 4) (us : BitVec 32) (x : Resv) (s : State), s.field.resv.find? (fun y => y.radio == r.val) = some x →
    ∃ t, exec (.endOfTransmission r us) s = .next t ∧ t.field.resv = s.field.resv.erase x ∧
      (t.book x.book).avail = (s.book x.book).avail + (x.tokens : Int) - (us.toNat : Int) ∧
      (t.book x.book).reserved = (s.book x.book).reserved - x.tokens ∧
      (t.book x.book).spent = (s.book x.book).spent + us.toNat ∧
      (∀ b, b ≠ x.book → t.book b = s.book b) ∧ BlocksKept [bFRAD] s t ∧ MemKept s t) ∧
  (∀ (s : State), s.isOn 31 = true →
    ∃ t, exec .bucketAge s = .next t ∧ BlocksKept [bFRAD] s t ∧ MemKept s t ∧
      ∀ b, (∀ e ∈ (t.book b).buckets, s.bucketSec < e.1 + bookWindow b) ∧
        (t.book b).avail = (s.book b).avail +
          ((((s.book b).buckets.filter (fun e => decide (e.1 + bookWindow b ≤ s.bucketSec))).map (·.2)).sum : Nat)) ∧
  (∀ (req : Fin 36) (b : Fin 5) (p : Byte) (d : BitVec 16) (s : State), s.blockOn bFRAD = true → p.toNat ≤ 50 →
      d.toNat ≤ dutyOf b.val →
    ∃ t, exec (.fradSubbandCfg req b p d) s = .next t ∧ t.rd (F.FRAD_SUBBAND_CFG_PRIO_PCT b) = p.toNat ∧
      t.rd (F.FRAD_SUBBAND_CFG_DUTY_CENT b) = d.toNat ∧ (t.book b).budget = d.toNat * 360000 ∧
      (t.book b).reserved = (s.book b).reserved ∧ (t.book b).spent = (s.book b).spent ∧
      (t.book b).avail = (d.toNat : Int) * 360000 - ((s.book b).reserved : Int) - ((s.book b).spent : Int) ∧
      BlocksKept [bFRAD] s t ∧ MemKept s t) ∧
  (∀ (req : Fin 36) (s : State), s.blockOn bFRAD = true →
    ∃ t, exec (.fradAuditSnap req) s = .next t ∧
      t.rd F.FRAD_AUDIT_CTRL_SNAP_CNT = (s.rd F.FRAD_AUDIT_CTRL_SNAP_CNT + 1) % 2 ^ 16 ∧
      (∀ b i, b < 7 → i < 4 → t.latches.find (reqKey req (F.FRAD_TOKEN_VALUE b i).addr) = some (s.rd (F.FRAD_TOKEN_VALUE b i))) ∧
      RegsKept [F.FRAD_AUDIT_CTRL_SNAP_CNT] s t ∧ MemKept s t)

/-- R139 to R141, R156 to R159, R171: a poisoned packet's claim is released; a packet for a joined carrier node goes out in its
allocation with the next counter, its octets sealed under the node's key, and waits for its ACK; the ACK releases its claim; a
time-out repeats it, past the limit drops it, and ends it where its claim has been requeued. -/
def Obligations.DownlinkCommands : Prop :=
  (∀ (e : BitVec 14) (fl : Fin 32) (us : BitVec 32) (i : Fin 80) (p : Bool) (cl : Claim) (s : State),
      s.heldClaim 27 (downQueue e.toNat fl) = some cl → cl.queue = downQueue e.toNat fl →
    (p = true ∨ 2027 < cl.len → ∃ t, exec (.frameTransmit e fl us i p) s = .next t ∧
      t.heldClaim 27 (downQueue e.toNat fl) = none ∧
      t.field = { s.field with lastDrop := (cl.queue, if p then stPOISON else stBAD) } ∧ MemKept s t) ∧
    (∀ a, p = false → cl.len ≤ 2027 → s.mayTransmit = true → e.toNat < 16320 → s.ndState e.toNat = 2 →
        s.ndMedium e.toNat < 12 → s.mediumUp (s.ndMedium e.toNat) = true → s.keyUp (s.keyData e.toNat) = true →
        s.field.acked.contains (cl.queue, cl.first) = false → s.servedFirst e.toNat fl = false →
        (fl.val = 4 → bitAt (s.nd e.toNat 17 1) 2 = false) →
        s.allocOf (s.ndMedium e.toNat) e.toNat i = some a → allocHolds a (s.ndMedium e.toNat) i us.toNat = true →
        s.asleep e.toNat (s.slotStart (s.ndMedium e.toNat) a.first.toNat) = false →
        s.key.moves.find e.toNat = none → s.field.txs.find e.toNat = none →
        s.nd e.toNat 60 4 < 0xFFFFFFF0 → (s.nd e.toNat 60 4 + 1) / 65536 * 65536 ≤ s.floor e.toNat false 0 → 2 ≤ fl.val →
      ∃ t f l x, exec (.frameTransmit e fl us i p) s = .next t ∧
        t.out = .field (s.ndMedium e.toNat) 0 (-(s.rd (F.FPLC_TX_ATTEN_DB (s.ndMedium e.toNat)) : Int)) f l
          (.carrier (s.carrierTx (s.ndMedium e.toNat) e.toNat (s.toneOf f) l)) :: s.out ∧
        l = frameOctets (s.frameKey f) f ∧ f.modId.toNat = s.moduleId % 2 ^ 14 ∧ f.ver = 1 ∧ f.up = false ∧ f.sec = true ∧
        f.keyIdx.toNat = s.keyData e.toNat ∧ f.slot.toNat = e.toNat ∧ f.flow.toNat = fl.val ∧
        f.fcnt.toNat = s.nd e.toNat 60 4 + 1 ∧ f.ackReq = true ∧
        f.payload = s.claimOctets cl ∧ t.nd e.toNat 60 4 = s.nd e.toNat 60 4 + 1 ∧
        t.field.txs.find e.toNat = some x ∧ x.queue = cl.queue ∧ x.claim = cl.id ∧ x.frame = f ∧ x.tries = 0 ∧
        BlocksKept [bFPLC] s t ∧ EntryAlone e.toNat s t)) ∧
  (∀ (m : Byte) (rx : FieldRx) (f : FieldFrame) (x : Tx) (cl : Claim) (s : State), FrameFrom s m 2 rx f →
      s.nd f.slot.toNat 64 4 < f.fcnt.toNat → s.field.txs.find f.slot.toNat = some x → x.frame.seq = f.seq →
      x.moving = false → s.txClaim x = some cl → cl.queue = x.queue →
    ∃ t, exec (.ackReceived m rx) s = .next t ∧ t.field.txs.find f.slot.toNat = none ∧
      t.heldClaim 27 x.queue = none ∧ t.nd f.slot.toNat 64 4 = f.fcnt.toNat ∧ EntryAlone f.slot.toNat s t) ∧
  (∀ (e : BitVec 14) (us : BitVec 32) (i : Fin 80) (x : Tx) (s : State), s.field.txs.find e.toNat = some x →
      x.medium < 12 →
    (∀ cl a, s.txClaim x = some cl → x.tries < s.rd F.FPLC_RETRY_LIMIT → s.mediumUp x.medium = true → s.mayTransmit = true →
        bitAt (s.nd e.toNat 17 1) 0 = false → s.allocOf x.medium e.toNat i = some a → allocHolds a x.medium i us.toNat = true →
      ∃ t l, exec (.ackTimeout e us i) s = .next t ∧
        t.out = .field x.medium 0 (-(s.rd (F.FPLC_TX_ATTEN_DB x.medium) : Int)) x.frame l
          (.carrier (s.carrierTx x.medium x.frame.slot.toNat (s.toneOf x.frame) l)) :: s.out ∧
        l = frameOctets (s.frameKey x.frame) x.frame ∧
        t.field.txs.find e.toNat = some { x with tries := x.tries + 1 } ∧
        t.nd e.toNat 136 4 = (s.nd e.toNat 136 4 + 1) % 2 ^ 32 ∧ BlocksKept [bFPLC] s t ∧ EntryAlone e.toNat s t) ∧
    (∀ cl, s.txClaim x = some cl → s.rd F.FPLC_RETRY_LIMIT ≤ x.tries → x.moving = false →
      ∃ t, exec (.ackTimeout e us i) s = .next t ∧ t.field.txs.find e.toNat = none ∧
        t.rd (F.FPLC_CNT_COUNT x.medium 6) = (s.rd (F.FPLC_CNT_COUNT x.medium 6) + 1) % 2 ^ 32 ∧
        t.nd e.toNat 140 4 = (s.nd e.toNat 140 4 + 1) % 2 ^ 32 ∧ EntryAlone e.toNat s t) ∧
    (s.txClaim x = none → ∃ t, exec (.ackTimeout e us i) s = .next t ∧ t.field.txs.find e.toNat = none ∧ t.out = s.out ∧
      RegsKept [] s t ∧ MemKept s t)) ∧
  (∀ (e : BitVec 14) (up : Bool) (r : Fin 4) (m j : Nat) (s : State),
      s.field.floorDue.find (floorKey e.toNat up r) = some m → s.jid = some j → s.jrnUp = true →
    ∃ t, exec (.floorRecordWritten e up r) s = .next t ∧ t.floor e.toNat up r = m ∧
      t.field.floorDue.find (floorKey e.toNat up r) = none ∧ RegsKept [] s t ∧ MemKept s t) ∧
  (∀ (e : BitVec 14) (n : Nat) (s : State), s.key.moves.find e.toNat = some 1 → 3600 ≤ n →
    ∃ t, exec (.moveRetry e n) s = .next t ∧ t.key.moves.find e.toNat = some 0 ∧ RegsKept [] s t ∧ MemKept s t)

/-- R142, R154, R155, R164, R171 to R174, R201, R204: a fresh input image, by itself or in an entry of its node's position, takes
its counter or SFN and one of the two image copies; SLEEP sets AWAKE_UNTIL to the start of the SFN it names; an expected frame
that did not come widens the next window. -/
def Obligations.UplinkCommands : Prop :=
  (∀ (m : Byte) (rx : FieldRx) (f : FieldFrame) (us : BitVec 32) (i : Fin 80) (s : State),
      s.nd f.slot.toNat 64 4 < f.fcnt.toNat →
    (FrameFrom s m 1 rx f → f.flow = 35 → f.payload.length = 12 →
      ∃ t b, exec (.dataFrameReceived m rx false us i) s = .next t ∧ (b = 88 ∨ b = 104) ∧
        t.nd f.slot.toNat b 12 = ofOctetsLE f.payload ∧ t.nd f.slot.toNat (b + 12) 4 = s.sfnOf m.toNat % 2 ^ 32 ∧
        t.nd f.slot.toNat 64 4 = f.fcnt.toNat ∧ t.nd f.slot.toNat 72 4 = s.tb2Ms ∧ EntryAlone f.slot.toNat s t) ∧
    (FrameFrom s m 3 rx f → f.payload.length = 11 → f.payload.take 1 = o1 3 →
      ∃ t, exec (.nodeSleep m rx us i) s = .next t ∧ bitAt (t.nd f.slot.toNat 17 1) 0 = true ∧
        t.nd f.slot.toNat 48 8 = s.sfnStart m.toNat (ofOctetsLE ((f.payload.drop 1).take 6)) % 2 ^ 64 ∧
        t.nd f.slot.toNat 64 4 = f.fcnt.toNat ∧ EntryAlone f.slot.toNat s t)) ∧
  (∀ (e : BitVec 14) (s : State), s.ndLive e.toNat = true → s.field.missed.contains e.toNat = false →
    ∃ t, exec (.expectedFrameMissed e) s = .next t ∧ t.field.missed = s.field.missed ++ [e.toNat] ∧ RegsKept [] s t ∧
      MemKept s t) ∧
  (∀ (m : Byte) (i : Fin 80) (c : Fin 8) (l : List Byte) (img : BitVec 96) (rx : RxInfo) (e : Nat) (s : State),
      s.mediumUp m.toNat = true →
      ((m.toNat < 12 ∧ burstOk l = true ∧ 5 ≤ i.val ∧ s.imageAt m.toNat (8 * (i.val - 5) + c.val) = some e) ∨
        (12 ≤ m.toNat ∧ 4 ≤ l.length ∧ ofOctetsLE (l.drop (l.length - 4)) = crc32 (l.take (l.length - 4)) ∧
          s.imageFrame l = some e ∧ s.imageAt m.toNat i = some e)) →
      s.ndState e = 2 → s.keyUp (bits (s.nd e 19 1) 0 6) = true →
      (s.nd e 68 4 = 0 ∨ newer 32 (s.sfnOf m.toNat % 2 ^ 32) (s.nd e 68 4) = true) →
    ∃ t b, exec (.imageEntryReceived m i c l (some img) rx) s = .next t ∧ (b = 88 ∨ b = 104) ∧ t.nd e b 12 = img.toNat ∧
      t.nd e (b + 12) 4 = s.sfnOf m.toNat % 2 ^ 32 ∧ t.nd e 68 4 = s.sfnOf m.toNat % 2 ^ 32 ∧ t.nd e 72 4 = s.tb2Ms ∧
      t.rd (F.NODE_CNT_COUNT 2) = (s.rd (F.NODE_CNT_COUNT 2) + 1) % 2 ^ 32 ∧ EntryAlone e s t)

/-! ## Nodes, calendar, profiles -/

/-- R159, R181 to R183, R202, R209: a JOIN_REQ of an unknown EUI-64 is counted; a fresh one of an admitted node joins it on the
medium it came by, a replay does nothing; a node not heard for LOST_S is lost; the four NODE_ADMIN commands and the status each leaves. -/
def Obligations.NodeCommands : Prop :=
  (∀ (m : Byte) (rx : FieldRx) (f : FieldFrame) (k : BitVec 4) (a b : Bool) (s : State), JoinFrom s m rx f →
    (s.nodeSlots.find? (fun n => s.nd n 0 8 == ofOctetsLE ((f.payload.drop 1).take 8)) = none →
      ∃ t, exec (.joinReq m rx k a b) s = .next t ∧
        t.rd (F.NODE_CNT_COUNT 1) = (s.rd (F.NODE_CNT_COUNT 1) + 1) % 2 ^ 32 ∧ RegsKept [F.NODE_CNT_COUNT 1] s t ∧
        MemKept s t) ∧
    (∀ e, s.nodeSlots.find? (fun n => s.nd n 0 8 == ofOctetsLE ((f.payload.drop 1).take 8)) = some e →
        bits f.keyIdx.toNat 0 6 = s.keyData e → s.keyUp (s.keyData e) = true →
      (s.field.joinUp.get e (s.floor e true 3) < f.fcnt.toNat →
        ∃ t, exec (.joinReq m rx k a b) s = .next t ∧ t.ndState e = 2 ∧ t.ndMedium e = m.toNat ∧
          t.nd e 10 2 = ofOctetsLE ((f.payload.drop 9).take 2) ∧ t.nd e 12 4 = ofOctetsLE ((f.payload.drop 11).take 4) ∧
          (a = false → b = false → t.nd e 24 1 = 15) ∧
          t.rd (F.NODE_CNT_COUNT 0) = (s.rd (F.NODE_CNT_COUNT 0) + 1) % 2 ^ 32) ∧
      (f.fcnt.toNat < s.field.joinUp.get e (s.floor e true 3) →
        ∃ t, exec (.joinReq m rx k a b) s = .next t ∧ t.field = s.field ∧ t.out = s.out ∧ MemKept s t))) ∧
  (∀ (e : BitVec 14) (s : State), e.toNat < 16320 → s.ndState e.toNat = 2 →
      1000 * s.rd F.NODE_ORPHAN_CFG_LOST_S ≤ (s.tb2Ms + 2 ^ 32 - s.nd e.toNat 72 4) % 2 ^ 32 →
    ∃ t, exec (.nodeLost e) s = .next t ∧ t.ndState e.toNat = 3 ∧ BlocksKept [bNODE] s t) ∧
  (∀ (req : Fin 36) (g : Fin 32) (e : Nat) (s : State), s.blockOn bNODE = true → s.rdReq req F.NODE_SEL_SLOT = e →
      e < 16320 →
    (∀ eui, s.rdReq req F.NODE_EUI_LO_EUI + s.rdReq req F.NODE_EUI_HI_EUI * 2 ^ 32 = eui → s.ndState e = 0 →
        s.nodeSlots.any (fun n => s.nd n 0 8 == eui) = false →
      ∃ t, exec (.nodeAdmit req g) s = .next t ∧ t.rd F.NODE_ADMIN_STAT_OP = 1 ∧ t.rd F.NODE_ADMIN_STAT_STATUS = stOK ∧
        t.ndState e = 1 ∧ t.nd e 0 8 = eui % 2 ^ 64 ∧ t.nd e 16 1 = g.val ∧
        RegsKept [F.NODE_ADMIN_STAT_OP, F.NODE_ADMIN_STAT_STATUS] s t ∧ EntryAlone e s t) ∧
    (s.ndState e ≠ 0 → ∃ t, exec (.evict req) s = .next t ∧ t.rd F.NODE_ADMIN_STAT_OP = 2 ∧
      t.rd F.NODE_ADMIN_STAT_STATUS = stOK ∧ t.ndState e = 0 ∧ t.field.txs.find e = none) ∧
    (s.ndState e ≠ 0 → ∃ t, exec (.setGroup req g) s = .next t ∧ t.rd F.NODE_ADMIN_STAT_OP = 3 ∧
      t.rd F.NODE_ADMIN_STAT_STATUS = stOK ∧ t.nd e 16 1 = g.val ∧ bitAt (t.nd e 20 4) g = true) ∧
    (s.ndState e ≠ 0 → ∃ t, exec (.resendProfile req) s = .next t ∧ t.rd F.NODE_ADMIN_STAT_OP = 4 ∧
      t.rd F.NODE_ADMIN_STAT_STATUS = stOK ∧
      (∀ p, s.servant 3 e = some p → t.nd e 124 2 = (s.nd e 124 2 + 1) % 65536)) ∧
    (s.ndState e = 0 → ∃ t, exec (.setGroup req g) s = .next t ∧ t.rd F.NODE_ADMIN_STAT_STATUS = stBAD ∧
      RegsKept [F.NODE_ADMIN_STAT_OP, F.NODE_ADMIN_STAT_STATUS] s t ∧ MemKept s t))

/-- R98, R192, R194, R195, R199, R208: an evaluation of the calendar issues the newest due step of a group that has not been
issued, where the field is served, and keeps the schedule inputs invalid without wall time; a profile sent; a STATUS and an ALARM taken. -/
def Obligations.CalendarCommands : Prop :=
  (∀ s : State, s.allOn [0, 47, 49] = true →
    (s.wallValid = false → ∃ t, exec .calendarEvaluation s = .next t ∧ t.cal.valid = 0 ∧ RegsKept [] s t ∧ MemKept s t) ∧
    (∀ g key tm x rest, s.wallValid = true → s.hasCal = true → g < s.calB 2 1 → s.calB 2 1 ≤ 32 →
        s.dueNow g (s.calLead g) = (key, tm, x) :: rest → s.rd (F.NODE_CAL_LAST_KEY g) < key → key < 2 ^ 32 →
      ∃ t, exec .calendarEvaluation s = .next t ∧ t.cal.level.get g 0 = x.level ∧
        t.rd (F.NODE_CAL_LAST_KEY g) = (if s.calServed then key else s.rd (F.NODE_CAL_LAST_KEY g)))) ∧
  (∀ (e : BitVec 14) (p d : Nat) (s : State), e.toNat < 16320 → s.ndState e.toNat = 2 → s.wallValid = true →
      s.hasCal = true → s.localSec / 86400 = (d : Int) → 43200 ≤ s.localSec % 86400 → s.localSec % 86400 < 46800 →
      s.cal.profDay.find e.toNat ≠ some d → s.servant 3 e.toNat = some p → s.steps (s.nd e.toNat 16 1) d ≠ [] →
      ((s.profile (s.nd e.toNat 16 1) d).2.pegPut p (64 * e.toNat + 2) false (s.profile (s.nd e.toNat 16 1) d).1).1.1 = stOK →
    ∃ t, exec (.profileSend e) s = .next t ∧ t.cal.profDay.find e.toNat = some d) ∧
  (∀ (e : BitVec 14) (cl : Claim) (s : State), s.peg.claims.find (64 * e.toNat + 36) = some cl →
      cl.queue = 64 * e.toNat + 36 → (s.courses 3).contains cl.port = true → s.isOn cl.port = true →
      (s.claimOctets cl).length = 20 → (s.claimOctets cl).take 1 = o1 0x83 →
    ∃ t, exec (.statusProcess e false) s = .next t ∧ t.peg.claims.find (64 * e.toNat + 36) = none ∧
      t.nd e.toNat 122 2 = ofOctetsLE (((s.claimOctets cl).drop 2).take 2) ∧
      t.nd e.toNat 126 2 = ofOctetsLE (((s.claimOctets cl).drop 4).take 2) ∧
      bitAt (t.nd e.toNat 17 1) 3 = bitAt (ofOctetsLE (((s.claimOctets cl).drop 1).take 1)) 0) ∧
  (∀ (e : BitVec 14) (cl : Claim) (s : State), s.peg.claims.find (64 * e.toNat + 32) = some cl →
      cl.queue = 64 * e.toNat + 32 → (s.courses 3).contains cl.port = true → s.isOn cl.port = true →
      (s.claimOctets cl).length = 12 → (s.claimOctets cl).take 1 = o1 0x80 →
    ∃ t v, exec (.alarmProcess e false) s = .next t ∧ t.evts.getLast? = some v ∧ v.cls = 0x0030 ∧
      v.data = octetsBE 2 e.toNat ++ s.claimOctets cl ∧ t.peg.claims.find (64 * e.toNat + 32) = none ∧ MemKept s t)

/-! ## Sympath -/

/-- R217, R218, R220, R224, R510: an event taken while Sympath is not running is counted and its claim released; one that
fails a check is counted by that check; one that passes takes the next EVENT_ID and leaves its DET_SEQ and its words; an OK
result writes BOOST_END and BOOST_LEVEL; a graph image refused, loading, loaded; stale stamps are brought to now. -/
def Obligations.SympathCommands : Prop :=
  (∀ (e : BitVec 14) (p : Bool) (ns : BitVec 16) (cl : Claim) (s : State), s.isOn 39 = true →
      s.isSet F.SYM_CTRL_LOADING = false → s.symIdle = true → s.heldClaim 29 (64 * e.toNat + 34) = some cl →
      cl.queue = 64 * e.toNat + 34 → s.pendingIn bSYM = false →
    (s.run bSYM = false → ∃ t, exec (.symEvent e p ns) s = .next t ∧ t.sym.evt = none ∧
      t.heldClaim 29 (64 * e.toNat + 34) = none ∧
      t.rd (F.SYM_CNT_COUNT 0) = (s.rd (F.SYM_CNT_COUNT 0) + 1) % 2 ^ 32 ∧ MemKept s t) ∧
    (∀ i, s.run bSYM = true → s.symCheck e.toNat (s.claimOctets cl) p = some i →
      ∃ t, exec (.symEvent e p ns) s = .next t ∧ t.sym.evt = none ∧ t.heldClaim 29 (64 * e.toNat + 34) = none ∧
        t.rd (F.SYM_CNT_COUNT i) = (s.rd (F.SYM_CNT_COUNT i) + 1) % 2 ^ 32 ∧ MemKept s t) ∧
    (s.run bSYM = true → s.symCheck e.toNat (s.claimOctets cl) p = none →
      ∃ t, exec (.symEvent e p ns) s = .next t ∧
        t.rd (F.SYM_CNT_COUNT 1) = (s.rd (F.SYM_CNT_COUNT 1) + 1) % 2 ^ 32 ∧
        t.rd F.SYM_EVENT_ID_NEXT = (s.rd F.SYM_EVENT_ID_NEXT + 1) % 2 ^ 32 ∧
        t.rdMem (detAt e.toNat + 8) 2 = ofOctetsLE (((s.claimOctets cl).drop 14).take 2) ∧
        ∀ i, i < 4 → t.rd (F.SYM_LAST_EVT_WORD i) = ofOctetsLE (((s.claimOctets cl).drop (4 * i)).take 4))) ∧
  (∀ (k : Fin 32) (c : BoostCmd) (s : State), s.sym.cmds.find? (fun c => c.k == k.val) = some c → s.pendingIn bSYM = false →
    (c.status = stOK → ∃ t, exec (.symCommandResult k) s = .next t ∧ t.pres c.vertex 64 32 = c.endT % 2 ^ 32 ∧
      t.pres c.vertex 96 16 = c.level % 2 ^ 16 ∧ t.rd (F.SYM_CNT_COUNT 9) = (s.rd (F.SYM_CNT_COUNT 9) + 1) % 2 ^ 32 ∧
      t.sym.cmds = s.sym.cmds.filter (fun x => x.k != k.val)) ∧
    (c.status ≠ stOK → ∃ t, exec (.symCommandResult k) s = .next t ∧ MemKept s t ∧
      t.rd (F.SYM_CNT_COUNT 10) = (s.rd (F.SYM_CNT_COUNT 10) + 1) % 2 ^ 32 ∧
      t.sym.cmds = s.sym.cmds.filter (fun x => x.k != k.val))) ∧
  (∀ (a : BitVec 40) (s : State), s.isOn 39 = true → s.isSet F.SYM_CTRL_LOADING = false →
    ∃ t, exec (.graphLoad a) s = .next t ∧ MemKept s t ∧
      (s.graphOk a.toNat = true → t.rd F.SYM_CTRL_LOADING = 1 ∧
        t.sym.loading = some (s.rdMem (a.toNat + 8) 4, s.rdMem (a.toNat + 12) 2, a.toNat) ∧
        RegsKept [F.SYM_CTRL_LOADING] s t) ∧
      (s.graphOk a.toNat = false → t.rd F.SYM_GRAPH_STAT_STATE = 2 ∧ t.sym = s.sym ∧
        (∃ v, t.evts.getLast? = some v ∧ v.cls = 0x0003) ∧
        RegsKept [F.SYM_GRAPH_STAT_STATE, F.HCP_EVT_STAT_PENDING, F.HCP_EVT_STAT_DROPPED] s t)) ∧
  (∀ (us : BitVec 32) (id n a : Nat) (s : State), s.sym.loading = some (id, n, a) → s.symIdle = true → MemCanonical s →
    ∃ t, exec (.graphLoaded us) s = .next t ∧ t.rd F.SYM_GRAPH_ID_ID = id % 2 ^ 32 ∧ t.rd F.SYM_GRAPH_STAT_STATE = 1 ∧
      t.rd F.SYM_GRAPH_STAT_N_VERTICES = n % 2 ^ 15 ∧ t.rd F.SYM_CTRL_LOADING = 0 ∧ t.sym.loading = none ∧
      t.rd F.SYM_LOAD_TIME_US = us.toNat ∧ BlocksKept [bSYM] s t ∧
      (∀ i, i < 0x140000 → t.rd8 (0x02000000 + i) = s.rd8 (a + 4096 + i)) ∧
      (∀ i, i < 0x40000 → t.rd8 (0x02140000 + i) = 0) ∧
      ∀ x, x < 0x02000000 ∨ 0x021C1000 ≤ x → t.rd8 x = s.rd8 x) ∧
  (∀ s : State, s.isOn 39 = true → s.symIdle = true →
    ∃ t, exec .symStampRefresh s = .next t ∧ RegsKept [] s t ∧
      (∀ v, v < 16384 → (2 ^ 30 : Int) < serialDiff (s.symNow / 1000 % 2 ^ 32) (s.pres v 0 32) →
        t.pres v 0 32 = s.symNow / 1000 % 2 ^ 32 ∧ t.pres v 32 16 = 0 ∧ t.pres v 96 16 = 0) ∧
      ∀ v, v < 16384 → serialDiff (s.symNow / 1000 % 2 ^ 32) (s.pres v 0 32) ≤ (2 ^ 30 : Int) →
        t.pres v 0 128 = s.pres v 0 128)

/-! ## The Gauge -/

/-- R243, R247, R248, R250, R256: every quantity a sample bears on grows by the increment of its power at its EQ_EXP, with the
remainder kept, and no other quantity changes; a line cycle counts, latches where a latch is due or forced, and not else; a
forced latch waits for the boundary; a store; a stop marks every point INCOMPLETE. -/
def Obligations.GaugeIntegratesAndLatches : Prop :=
  (∀ (x : GaugeSample) (s : State), s.gaugeRuns = true →
      ∃ t, exec (.gaugeSample x) s = .next t ∧
        (∀ p k w, p < 16 → (k, w) ∈ (s.channels x).kinds p →
          (t.gq (8 * p + k)).total = ((s.gq (8 * p + k)).total +
            (w * 3125 * 2 ^ 24 + (s.gq (8 * p + k)).frac) / incDen (s.rd (F.GAUGE_PT_CFG_EQ_EXP p))) % 2 ^ 96 ∧
          (t.gq (8 * p + k)).frac =
            (w * 3125 * 2 ^ 24 + (s.gq (8 * p + k)).frac) % incDen (s.rd (F.GAUGE_PT_CFG_EQ_EXP p))) ∧
        (∀ q, (∀ p k w, p < 16 → (k, w) ∈ (s.channels x).kinds p → q ≠ 8 * p + k) → t.gq q = s.gq q)) ∧
  (∀ (x : GaugeSample) (c : LineCycle) (s : State), s.isOn 45 = true → s.gaugeRuns = true → s.pendingIn bGAUGE = false →
    ∃ t, exec (.lineCycleBoundary x c) s = .next t ∧
      t.rd F.TIME_TB1_CYCLE_COUNT = (s.rd F.TIME_TB1_CYCLE_COUNT + 1) % 2 ^ 32 ∧ t.gauge.cycles = s.gauge.cycles + 1 ∧
      t.gauge.force = false ∧
      t.rd64 F.GAUGE_LATCH_SEQ_LO_SEQ F.GAUGE_LATCH_SEQ_HI_SEQ =
        (if (s.gauge.cycles + 1) % max 1 (s.rd F.GAUGE_LATCH_CFG_N) = 0 ∨ s.gauge.force = true then
          (s.rd64 F.GAUGE_LATCH_SEQ_LO_SEQ F.GAUGE_LATCH_SEQ_HI_SEQ + 1) % 2 ^ 64
         else s.rd64 F.GAUGE_LATCH_SEQ_LO_SEQ F.GAUGE_LATCH_SEQ_HI_SEQ)) ∧
  (∀ (req : Fin 36) (s : State), s.blockOn bGAUGE = true → s.rd F.GAUGE_CTRL_ENABLE = 1 → s.run bGAUGE = true →
    ∃ t, exec (.forceLatch req) s = .next t ∧ t.gauge = { s.gauge with force := true } ∧ RegsKept [] s t ∧ MemKept s t) ∧
  (∀ (n : Nat) (s : State), s.rd F.GAUGE_LATCH_CFG_STORE_MIN ≤ n → s.isOn 36 = true → s.jrnUp = true →
    ∃ t, exec (.latchStore n) s = .next t ∧ RegsKept [] s t ∧ MemKept s t ∧
      t.jrn.gauge = some (s.rd64 F.GAUGE_LATCH_SEQ_LO_SEQ F.GAUGE_LATCH_SEQ_HI_SEQ, s.rd F.GAUGE_LATCH_CFG_N,
        s.gauge.latched)) ∧
  (∀ (req : Fin 36) (s : State), s.blockOn bGAUGE = true → s.run bGAUGE = true →
    ∃ t, exec (.gaugeStop req) s = .next t ∧ t.rd F.GAUGE_CTRL_ENABLE = 0 ∧ t.run bGAUGE = false ∧
      (∀ p, p < 16 → t.rd (F.GAUGE_PT_FLAGS_INCOMPLETE p) = 1) ∧ t.gauge.q = s.gauge.q ∧ BlocksKept [bGAUGE] s t ∧
      MemKept s t)

/-- R245, R251 to R254: an S0 output pulse leaves and its backlog falls; an S0 input counts a pulse at the end of an active
phase; PULSE_STUCK; the deviation window begins anew; a METER report adds what its counter grew by; the two reads. -/
def Obligations.GaugeCommands : Prop :=
  (∀ (k : Fin 4) (ms : Nat) (s : State), s.isOn 36 = true → s.isSet (F.GAUGE_S0OUT_CFG_EN k) = true →
      0 < s.rd (F.GAUGE_S0OUT_BACKLOG_PENDING k) → s.rd (F.GAUGE_S0OUT_BACKLOG_PENDING k) < 2 ^ 16 →
      s.rd (F.GAUGE_S0OUT_CFG_ON_MS k) + s.rd (F.GAUGE_S0OUT_CFG_OFF_MS k) ≤ ms →
    ∃ t, exec (.s0OutputPulse k ms) s = .next t ∧ t.out = .s0 k (s.rd (F.GAUGE_S0OUT_CFG_ON_MS k)) :: s.out ∧
      t.rd (F.GAUGE_S0OUT_BACKLOG_PENDING k) = s.rd (F.GAUGE_S0OUT_BACKLOG_PENDING k) - 1 ∧
      RegsKept [F.GAUGE_S0OUT_BACKLOG_PENDING k] s t ∧ MemKept s t) ∧
  (∀ (k : Fin 4) (ms : Nat) (s : State), s.isOn 36 = true → 10 ≤ ms →
    (s.isSet (F.GAUGE_S0IN_STAT_LEVEL_LOW k) = false → ∃ t, exec (.s0InputEdge k true ms) s = .next t ∧
      t.rd (F.GAUGE_S0IN_STAT_LEVEL_LOW k) = 1 ∧ t.gauge.s0Ready.contains k.val = true ∧
      RegsKept [F.GAUGE_S0IN_STAT_LEVEL_LOW k] s t ∧ MemKept s t) ∧
    (s.isSet (F.GAUGE_S0IN_STAT_LEVEL_LOW k) = true → s.gauge.s0Ready.contains k.val = true →
        s.isSet (F.GAUGE_S0IN_CFG_EN k) = true →
      ∃ t, exec (.s0InputEdge k false ms) s = .next t ∧ t.rd (F.GAUGE_S0IN_STAT_LEVEL_LOW k) = 0 ∧
        t.rd64 (F.GAUGE_S0IN_CNT_LO_COUNT k) (F.GAUGE_S0IN_CNT_HI_COUNT k) =
          (s.rd64 (F.GAUGE_S0IN_CNT_LO_COUNT k) (F.GAUGE_S0IN_CNT_HI_COUNT k) + 1) % 2 ^ 64 ∧
        RegsKept [F.GAUGE_S0IN_STAT_LEVEL_LOW k, F.GAUGE_S0IN_CNT_LO_COUNT k, F.GAUGE_S0IN_CNT_HI_COUNT k] s t ∧
        MemKept s t)) ∧
  (∀ (k : Fin 4) (ms : Nat) (s : State), s.isOn 36 = true → s.isSet (F.GAUGE_S0IN_STAT_LEVEL_LOW k) = true → 2000 < ms →
      s.gauge.stuck.contains k.val = false →
    ∃ t, exec (.pulseStuck k ms) s = .next t ∧ t.rd (F.GAUGE_S0IN_STAT_PULSE_STUCK k) = 1 ∧
      t.gauge.stuck = k.val :: s.gauge.stuck) ∧
  (∀ s : State, s.run bGAUGE = true → s.courses 4 ≠ [] →
      s.gauge.winAt + 60000000 * s.rd F.GAUGE_EVT_CFG_B_DEV_WIN ≤ s.sys.refTick →
    ∃ t, exec .deviationWindow s = .next t ∧ t.gauge.winAt = s.sys.refTick ∧ t.gauge.winQ = s.gauge.q ∧
      t.gauge.q = s.gauge.q ∧ t.gauge.winP = [] ∧ t.gauge.winStuck = s.gauge.stuck) ∧
  (∀ (e : BitVec 14) (cl : Claim) (s : State), s.peg.claims.find (64 * e.toNat + 33) = some cl →
      cl.queue = 64 * e.toNat + 33 → (s.courses 4).contains cl.port = true → s.isOn cl.port = true →
      (s.claimOctets cl).length = 24 → (s.claimOctets cl).take 1 = o1 0x81 →
    ∃ t, exec (.estimateUpdate e false) s = .next t ∧ t.peg.claims.find (64 * e.toNat + 33) = none ∧
      t.gauge.reports.find e.toNat =
        some (ofOctetsLE (((s.claimOctets cl).drop 8).take 4), ofOctetsLE (((s.claimOctets cl).drop 16).take 2)) ∧
      (∀ a w, s.gauge.reports.find e.toNat = some (a, w) → a ≤ ofOctetsLE (((s.claimOctets cl).drop 8).take 4) →
        bitAt (ofOctetsLE (((s.claimOctets cl).drop 1).take 1)) 1 = false → s.ndMedium e.toNat < 12 →
        t.est (4 + s.ndMedium e.toNat) = (s.est (4 + s.ndMedium e.toNat) +
          (ofOctetsLE (((s.claimOctets cl).drop 8).take 4) - a)) % 2 ^ 64)) ∧
  (∀ (req : Fin 36) (s : State), s.blockOn bGAUGE = true → s.rdReq req F.GAUGE_AUDIT_CTRL_Q < 128 →
    ∃ t, exec (.gaugeAuditSnap req) s = .next t ∧ t.gauge = { s.gauge with snap := s.gauge.q } ∧
      t.rd F.GAUGE_AUDIT_CTRL_SNAP_CNT = (s.rd F.GAUGE_AUDIT_CTRL_SNAP_CNT + 1) % 2 ^ 16 ∧
      RegsKept [F.GAUGE_AUDIT_CTRL_SNAP_CNT] s t ∧ MemKept s t) ∧
  (∀ (req : Fin 36) (q : Fin 128) (s : State), s.blockOn bGAUGE = true →
    ∃ t, exec (.gaugeQRead req q) s = .next t ∧
      t.out = .access req (0x400A1000 + 16 * q.val) stOK (s.gaugeQWord q 0) :: s.out ∧
      (∀ w, 1 ≤ w → w ≤ 3 → t.latches.find (reqKey req (F.GAUGE_Q_WORD q w).addr) = some (s.gaugeQWord q w)) ∧
      t.gauge = s.gauge ∧ RegsKept [] s t ∧ MemKept s t)

/-! ## Sounding -/

/-- R259 to R270: a good capture joins its feeder's ring, one in Transition or Mismatch is counted; a chirp leaves; a
capture averaged in; the end of a period writes its reflectogram and counts it; LEARN, DISCARD and ACCEPT with their
answers; a learned baseline stored. -/
def Obligations.SoundingCommands : Prop :=
  (∀ (f : Fin 12) (ch : Bool) (x y : List Int) (coil mis : Nat) (s : State), s.run bSOUND = true → s.frontOn f = true →
      s.pendingIn bSOUND = false → s.capturingOf f (b2n ch) = true →
    (s.feederState f coil mis < 2 → (s.soundCourse f).isSome = true → s.isOn 24 = true →
        (s.sound.rings.get f []).length < 64 →
      ∃ t, exec (.captureComplete f ch x y coil mis false false false) s = .next t ∧
        t.sound.rings.get f [] = s.sound.rings.get f [] ++ [⟨b2n ch, s.feederState f coil mis, s.sfnC, x, y⟩] ∧
        t.rd (F.SOUND_FDR_STAT_STATE f) = s.feederState f coil mis ∧
        t.rd (F.SOUND_CNT_COUNT f 0) = (s.rd (F.SOUND_CNT_COUNT f 0) + 1) % 2 ^ 32 ∧ BlocksKept [bSOUND] s t ∧ MemKept s t) ∧
    (2 ≤ s.feederState f coil mis →
      ∃ t, exec (.captureComplete f ch x y coil mis false false false) s = .next t ∧ t.sound.rings = s.sound.rings ∧
        t.rd (F.SOUND_CNT_COUNT f 1) = (s.rd (F.SOUND_CNT_COUNT f 1) + 1) % 2 ^ 32 ∧ BlocksKept [bSOUND] s t ∧
        MemKept s t)) ∧
  (∀ (f : Fin 12) (s : State), s.quietIn f s.sfnC = true → s.windowFits = true → s.frontOn f = true →
      s.mediumUp f = true → s.sound.capturing.contains f.val = false → s.sound.chirped ≠ some s.sfnC →
    ∃ t, exec (.chirp f) s = .next t ∧ t.out = s.chirpOut f :: s.out ∧ t.sound.capturing = s.sound.capturing ++ [f.val] ∧
      t.sound.chirped = some s.sfnC ∧
      t.rd (F.SOUND_CNT_COUNT f 4) = (s.rd (F.SOUND_CNT_COUNT f 4) + 1) % 2 ^ 32 ∧
      RegsKept [F.SOUND_CNT_COUNT f 4] s t ∧ MemKept s t) ∧
  (∀ (f : Fin 12) (c : Capture) (rest : List Capture) (s : State), s.sound.rings.get f [] = c :: rest →
      (s.soundCourse f).isSome = true →
    ∃ t, exec (.captureCorrelate f) s = .next t ∧ t.sound.rings.get f [] = rest ∧
      (∃ p, t.sound.probes.find (baseKey f c.kind c.state) = some p ∧
        p.n = (s.probesOf (baseKey f c.kind c.state)).n + 1 ∧ p.sfn = c.sfn ∧
        ∀ d, d < 16384 → p.sums.getD d 0 = (s.probesOf (baseKey f c.kind c.state)).sums.getD d 0 + s.responseAt c d) ∧
      BlocksKept [bSOUND] s t ∧ MemKept s t) ∧
  (∀ (f : Fin 12) (ch d : Bool) (n since : Nat) (s : State),
      (s.probesOf (baseKey f (b2n ch) (b2n d))).n = n → 0 < n → s.rd F.SOUND_PERIOD_REFL_S ≤ since →
      (s.soundCourse f).isSome = true → s.isOn 24 = true → s.sound.retry = [] →
      s.sound.learned.contains (baseKey f (b2n ch) (b2n d)) = false →
    ∃ t, exec (.reflectogramPeriodEnd f ch d since) s = .next t ∧
      t.sound.probes.find (baseKey f (b2n ch) (b2n d)) = none ∧
      t.rd (F.SOUND_REFL_SEQ_SEQ f (b2n ch)) = (s.sound.seqs.get (2 * f + b2n ch) 0 + 1) % 2 ^ 32 ∧
      t.sound.seqs.find (2 * f + b2n ch) = some (s.sound.seqs.get (2 * f + b2n ch) 0 + 1) ∧
      ((if ch then s.rd F.SOUND_PERIOD_MIN_CHIRPS else s.rd F.SOUND_PERIOD_MIN_PROBES) ≤ n →
        t.rd (F.SOUND_CNT_COUNT f 6) = (s.rd (F.SOUND_CNT_COUNT f 6) + 1) % 2 ^ 32 ∧
        ∀ l, s.sound.learning.find (baseKey f (b2n ch) (b2n d)) = some l → l.count < 31 →
          ∃ l', t.sound.learning.find (baseKey f (b2n ch) (b2n d)) = some l' ∧ l'.count = l.count + 1) ∧
      (n < (if ch then s.rd F.SOUND_PERIOD_MIN_CHIRPS else s.rd F.SOUND_PERIOD_MIN_PROBES) →
        t.rd (F.SOUND_CNT_COUNT f 7) = (s.rd (F.SOUND_CNT_COUNT f 7) + 1) % 2 ^ 32 ∧ t.sound.learning = s.sound.learning) ∧
      BlocksKept [bSOUND] s t) ∧
  (∀ (req : Fin 36) (f : Fin 12) (ch d : Bool) (s : State), s.blockOn bSOUND = true →
    (∃ t, exec (.soundLearn req f ch d) s = .next t ∧ t.rd F.SOUND_CMD_STAT_OP = 1 ∧ t.rd F.SOUND_CMD_STAT_STATUS = stOK ∧
      t.sound.learning.find (baseKey f (b2n ch) (b2n d)) = some ⟨0, [], []⟩ ∧
      t.sound.learned.contains (baseKey f (b2n ch) (b2n d)) = false) ∧
    (∃ t, exec (.soundDiscard req f ch d) s = .next t ∧ t.rd F.SOUND_CMD_STAT_OP = 2 ∧ t.rd F.SOUND_CMD_STAT_STATUS = stOK ∧
      t.sound.learning.find (baseKey f (b2n ch) (b2n d)) = none ∧
      t.sound.stored.find (baseKey f (b2n ch) (b2n d)) = none ∧
      t.sound.learned.contains (baseKey f (b2n ch) (b2n d)) = false ∧ BlocksKept [bSOUND] s t ∧ MemKept s t)) ∧
  (∀ (req : Fin 36) (n : Fin 32) (s : State), s.blockOn bSOUND = true →
    (s.sound.chg.find n = none → ∃ t, exec (.soundAccept req n) s = .next t ∧ t.rd F.SOUND_CMD_STAT_OP = 3 ∧
      t.rd F.SOUND_CMD_STAT_STATUS = stBAD ∧ t.sound = s.sound ∧ BlocksKept [bSOUND] s t ∧ MemKept s t) ∧
    (∀ c, s.sound.chg.find n = some c → ∃ t, exec (.soundAccept req n) s = .next t ∧ t.rd F.SOUND_CMD_STAT_OP = 3 ∧
      t.rd F.SOUND_CMD_STAT_STATUS = stOK ∧ t.sound.chg.find n = none ∧
      t.sound.learning.find (baseKey c.feeder c.kind c.state) = some ⟨0, [], []⟩)) ∧
  (∀ (f : Fin 12) (ch d : Bool) (s : State), s.sound.unsaved.contains (4 * f.val + 2 * b2n ch + b2n d) = true →
      s.jrnUp = true → s.isOn 24 = true →
    ∃ t, exec (.baselineStore f ch d) s = .next t ∧
      t.sound.stored.find (4 * f.val + 2 * b2n ch + b2n d) =
        some (s.mem.readN (baseAddr (4 * f.val + 2 * b2n ch + b2n d)) 32832) ∧
      t.sound.unsaved.contains (4 * f.val + 2 * b2n ch + b2n d) = false ∧ RegsKept [] s t ∧ MemKept s t)

/-! ## The scan engine -/

/-- R279, R282, R293, R294: the task chosen begins its cycle, with cleared execution state at its entry, or waits for the
node latch and begins it after; a skipped start of an ordinary task is counted; of a guarded one it trips to FAULT with
cause 1; a HOLD that outlasts its limit trips with cause 2. -/
def Obligations.ScanCyclesAndTrips : Prop :=
  (∀ (io : IoPins) (n : Nat) (k w : Int) (d : Due) (r : TaskPace) (s : State), s.scanMode = mRun → s.scan.cyc = none →
      s.scan.latch = none → (List.range 16).findSome? (fun n => (s.firstDue n).map (fun x => (n, x))) = some (n, (k, w)) →
      s.dueOf n = some d → s.scan.paces.find n = some r →
    (s.latchTime = true → ∃ t y, exec (.taskStart io) s = .next t ∧ t.scan.cyc = some y ∧ y.task = n ∧
      y.pc = s.rd (F.SCAN_TASK_CFG_ENTRY n) ∧ y.acc = 0 ∧ y.c = false ∧ y.ov = false ∧ y.p = 0 ∧ y.stack = [] ∧
      y.sends = [] ∧ t.rdMem 0x00500000 4 = io.di.toNat ∧ BlocksKept [bSCAN] s t) ∧
    (s.latchTime = false → ∃ t, exec (.taskStart io) s = .next t ∧ t.scan.cyc = none ∧
      t.scan.latch = some (n, ((s.sys.refTick : Int) - w).toNat) ∧ RegsKept [] s t ∧ MemKept s t)) ∧
  (∀ (io : IoPins) (n due : Nat) (s : State), s.scan.latch = some (n, due) → n < 16 → s.scanMode = mRun →
      (s.sfRun = false ∨ (60000 ≤ s.tb2Ns % 10000000 ∧ s.latchTime = true)) →
    ∃ t y, exec (.nodeLatchWaitEnd io) s = .next t ∧ t.scan.latch = none ∧ t.scan.cyc = some y ∧ y.task = n ∧
      y.pc = s.rd (F.SCAN_TASK_CFG_ENTRY n) ∧ y.acc = 0 ∧ y.c = false ∧ y.ov = false ∧ y.p = 0 ∧ y.stack = [] ∧
      BlocksKept [bSCAN] s t) ∧
  (∀ (n : Fin 16) (r : TaskPace) (s : State), s.scanMode = mRun → s.skipDue n = some r →
    (s.isSet (F.SCAN_TASK_CFG_GUARDED n) = false → ∃ t, exec (.taskOverrun n) s = .next t ∧
      t.rd (F.SCAN_TASK_STAT_OVERRUNS n) = (s.rd (F.SCAN_TASK_STAT_OVERRUNS n) + 1) % 2 ^ 16 ∧
      t.rd (F.SCAN_TASK_STAT_OVR n) = 1 ∧ t.scan.paces.find n = some r ∧ t.scanMode = mRun) ∧
    (s.isSet (F.SCAN_TASK_CFG_GUARDED n) = true → ∃ t, exec (.scanWatchdogTrip n) s = .next t ∧ t.scanMode = mFault ∧
      t.rd F.SCAN_FAULT_CAUSE = 1 ∧ t.rd F.SCAN_FAULT_TASK = n.val ∧ t.scan.cyc = none ∧
      t.rd F.SCAN_FAULT_TRIPS = satInc 255 (s.rd F.SCAN_FAULT_TRIPS) % 2 ^ 8)) ∧
  (∀ (n : Nat) (s : State), s.scanMode = mHold → s.rd F.SCAN_HOLD_LIMIT_S ≤ n →
    ∃ t, exec (.holdLimitExpiry n) s = .next t ∧ t.scanMode = mFault ∧ t.rd F.SCAN_FAULT_CAUSE = 2 ∧ t.scan.cyc = none)

/-- R288 to R293: the commands of SCAN_CMD in the modes that take them, with the key, and the answer each leaves. -/
def Obligations.ScanCommands : Prop :=
  ∀ (req : Fin 36) (s : State), s.blockOn bSCAN = true →
    (s.scanMode = mStop → s.isSet F.SCAN_CMD_STAT_PROG_OK = true →
      ∃ t, exec (.scanRun req 0x3C96) s = .next t ∧ t.scanMode = mRun ∧ t.scan.cyc = none ∧ t.rd F.SCAN_CMD_STAT_OP = 1 ∧
        t.rd F.SCAN_CMD_STAT_STATUS = stOK ∧ BlocksKept [bSCAN] s t) ∧
    (s.scanMode ≠ mStop → ∃ t, exec (.scanRun req 0x3C96) s = .next t ∧ t.rd F.SCAN_CMD_STAT_OP = 1 ∧
      t.rd F.SCAN_CMD_STAT_STATUS = stBAD ∧ t.scan = s.scan ∧
      RegsKept [F.SCAN_CMD_STAT_OP, F.SCAN_CMD_STAT_STATUS] s t ∧ MemKept s t) ∧
    ((s.scanMode = mHold ∨ (s.scanMode = mRun ∧ s.scan.cyc = none)) →
      ∃ t, exec (.scanStop req 0x3C96) s = .next t ∧ t.scanMode = mStop ∧ t.scan.cyc = none ∧
        t.rd F.SCAN_CMD_STAT_OP = 2 ∧ t.rd F.SCAN_CMD_STAT_STATUS = stOK) ∧
    (∀ y, s.scanMode = mRun → s.scan.cyc = some y →
      ∃ t, exec (.scanStop req 0x3C96) s = .next t ∧ t.scan = { s.scan with stopReq := true } ∧
        t.rd F.SCAN_CMD_STAT_STATUS = stOK ∧ RegsKept [F.SCAN_CMD_STAT_OP, F.SCAN_CMD_STAT_STATUS] s t ∧ MemKept s t) ∧
    (s.scanMode = mRun → s.isSet F.SCAN_CTRL_HOLD_EN = true →
      ∃ t, exec (.scanHold req 0x3C96) s = .next t ∧ t.scanMode = mHold ∧ t.scan.cyc = s.scan.cyc ∧
        t.rd F.SCAN_CMD_STAT_OP = 3 ∧ t.rd F.SCAN_CMD_STAT_STATUS = stOK ∧ BlocksKept [bSCAN] s t ∧ MemKept s t) ∧
    (s.scanMode = mHold → s.scan.cyc = none →
      ∃ t, exec (.scanResume req 0x3C96) s = .next t ∧ t.scanMode = mRun ∧ t.rd F.SCAN_CMD_STAT_OP = 4 ∧
        t.rd F.SCAN_CMD_STAT_STATUS = stOK ∧ BlocksKept [bSCAN] s t ∧ MemKept s t) ∧
    (∀ y, s.scanMode = mHold → s.scan.cyc = some y → y.ended = false →
      ∃ t, exec (.scanResume req 0x3C96) s = .next t ∧ t.scanMode = mRun ∧
        t.scan.cyc = some { y with skipBp := decide (s.rd F.SCAN_HOLD_STAT_BP ≠ 0xF) } ∧
        t.rd F.SCAN_CMD_STAT_STATUS = stOK ∧ BlocksKept [bSCAN] s t ∧ MemKept s t) ∧
    (∀ y f y' u, s.scanMode = mHold → s.scan.cyc = some y → y.ended = false → y.pc < s.rd F.SCAN_PROG_LEN_LEN →
        tabOp (s.tabWordAt y.pc / 2 ^ 24) = some f →
        f (s.tabWordAt y.pc % 2 ^ 24) { y with pc := (y.pc + 1) % 2 ^ 18, skipBp := false } s = .ok (y', u) →
      ∃ t, exec (.scanStep req 0x3C96) s = .next t ∧ t.scan.cyc = some y' ∧ t.scanMode = mHold ∧
        t.rd F.SCAN_HOLD_ACC_ACC = y'.acc.toNat ∧ t.rd F.SCAN_CMD_STAT_OP = 5 ∧ t.rd F.SCAN_CMD_STAT_STATUS = stOK ∧
        BlocksKept [bSCAN] s t ∧ MemKept u t) ∧
    (s.scanMode = mFault →
      ∃ t, exec (.clearFault req 0x3C96) s = .next t ∧ t.scanMode = mStop ∧ t.rd F.SCAN_CMD_STAT_OP = 6 ∧
        t.rd F.SCAN_CMD_STAT_STATUS = stOK ∧ BlocksKept [bSCAN] s t ∧ MemKept s t) ∧
    ((s.scanMode = mStop ∨ s.scanMode = mFault) →
      ∃ t, exec (.checkProgram req 0x3C96) s = .next t ∧ t.rd F.SCAN_CMD_STAT_OP = 7 ∧
        t.rd F.SCAN_CMD_STAT_STATUS = stOK ∧
        t.rd F.SCAN_CMD_STAT_PROG_OK = b2n (decide (1 ≤ s.rd F.SCAN_PROG_LEN_LEN ∧ s.rd F.SCAN_PROG_LEN_LEN ≤ 262144) &&
          crc32 (s.mem.readN 0x00400000 (4 * s.rd F.SCAN_PROG_LEN_LEN)) == s.rd F.SCAN_PROG_CRC_CRC) ∧
        RegsKept [F.SCAN_CMD_STAT_OP, F.SCAN_CMD_STAT_STATUS, F.SCAN_CMD_STAT_PROG_OK] s t ∧ MemKept s t)

/-! ## Tablature -/

/-- The running task stands at the word (OP, `w`), with no breakpoint before it. -/
def AtInstr (op w : Nat) (y : Cycle) (s : State) : Prop :=
  s.running = some y ∧ y.ended = false ∧ y.pc < s.rd F.SCAN_PROG_LEN_LEN ∧ s.tabWordAt y.pc = op * 2 ^ 24 + w ∧
    (y.skipBp = true ∨ s.breakpoint y.task y.pc = none)

/-- The cycle with PC at the following instruction (R308). -/
def nextPc (y : Cycle) : Cycle := { y with pc := (y.pc + 1) % 2 ^ 18, skipBp := false }

/-- `y'` is the running cycle in `t`, and nothing else changed. -/
def CycleIs (s t : State) (y' : Cycle) : Prop :=
  t.scan = { s.scan with cyc := some y' } ∧ RegsKept [] s t ∧ MemKept s t

/-- `y'` is the running cycle in `t`, `n` octets at `a` read as `v`, and nothing else changed. -/
def CycleStored (s t : State) (y' : Cycle) (a n v : Nat) : Prop :=
  t.scan = { s.scan with cyc := some y' } ∧ RegsKept [] s t ∧ t.rdMem a n = v % 2 ^ (8 * n) ∧
    ∀ x, x < a ∨ a + n ≤ x → t.rd8 x = s.rd8 x

/-- In `t` the cycle has ended with execution error `code` at the instruction of `y`. -/
def CycleFailed (t : State) (y : Cycle) (code : Nat) : Prop :=
  t.scan.cyc = none ∧ t.rd F.SCAN_EXEC_ERR_CODE = code ∧
    t.rd F.SCAN_EXEC_ERR_TASK = y.task % 16 ∧ t.rd F.SCAN_EXEC_ERR_ADDR = y.pc % 2 ^ 18

/-- R304: the bit instructions. An operand of one octet `a` and bit number `w[2:0]`; the eight loads and gates change C
alone, the stores and edges the bit, BSET and BCLR it only where C is 1. -/
def Obligations.TabBits : Prop :=
  ∀ (w : BitVec 24) (y : Cycle) (a : Nat) (s : State),
    (tabAddr y (bits w.toNat 21 3) (bits w.toNat 3 18) 1 1 0 0 = .ok a →
      (AtInstr 0x10 w.toNat y s →
        ∃ t, exec (.tabBld w) s = .next t ∧ CycleIs s t { nextPc y with c := bitAt (s.rd8 a) (bits w.toNat 0 3) }) ∧
      (AtInstr 0x11 w.toNat y s →
        ∃ t, exec (.tabBldn w) s = .next t ∧ CycleIs s t { nextPc y with c := !bitAt (s.rd8 a) (bits w.toNat 0 3) }) ∧
      (AtInstr 0x12 w.toNat y s →
        ∃ t, exec (.tabBand w) s = .next t ∧
          CycleIs s t { nextPc y with c := y.c && bitAt (s.rd8 a) (bits w.toNat 0 3) }) ∧
      (AtInstr 0x13 w.toNat y s →
        ∃ t, exec (.tabBandn w) s = .next t ∧
          CycleIs s t { nextPc y with c := y.c && !bitAt (s.rd8 a) (bits w.toNat 0 3) }) ∧
      (AtInstr 0x14 w.toNat y s →
        ∃ t, exec (.tabBor w) s = .next t ∧
          CycleIs s t { nextPc y with c := y.c || bitAt (s.rd8 a) (bits w.toNat 0 3) }) ∧
      (AtInstr 0x15 w.toNat y s →
        ∃ t, exec (.tabBorn w) s = .next t ∧
          CycleIs s t { nextPc y with c := y.c || !bitAt (s.rd8 a) (bits w.toNat 0 3) }) ∧
      (AtInstr 0x16 w.toNat y s →
        ∃ t, exec (.tabBxor w) s = .next t ∧
          CycleIs s t { nextPc y with c := xor y.c (bitAt (s.rd8 a) (bits w.toNat 0 3)) }) ∧
      (AtInstr 0x17 w.toNat y s →
        ∃ t, exec (.tabBxorn w) s = .next t ∧
          CycleIs s t { nextPc y with c := xor y.c (!bitAt (s.rd8 a) (bits w.toNat 0 3)) })) ∧
    (tabAddr y (bits w.toNat 21 3) (bits w.toNat 3 18) 1 1 0 1 = .ok a →
      (AtInstr 0x18 w.toNat y s →
        ∃ t, exec (.tabBst w) s = .next t ∧ CycleStored s t (nextPc y) a 1 (setBit (s.rd8 a) (bits w.toNat 0 3) y.c)) ∧
      (AtInstr 0x19 w.toNat y s →
        ∃ t, exec (.tabBstn w) s = .next t ∧
          CycleStored s t (nextPc y) a 1 (setBit (s.rd8 a) (bits w.toNat 0 3) (!y.c))) ∧
      (AtInstr 0x1A w.toNat y s →
        (y.c = true →
          ∃ t, exec (.tabBset w) s = .next t ∧
            CycleStored s t (nextPc y) a 1 (setBit (s.rd8 a) (bits w.toNat 0 3) true)) ∧
        (y.c = false → ∃ t, exec (.tabBset w) s = .next t ∧ CycleIs s t (nextPc y))) ∧
      (AtInstr 0x1B w.toNat y s →
        (y.c = true →
          ∃ t, exec (.tabBclr w) s = .next t ∧
            CycleStored s t (nextPc y) a 1 (setBit (s.rd8 a) (bits w.toNat 0 3) false)) ∧
        (y.c = false → ∃ t, exec (.tabBclr w) s = .next t ∧ CycleIs s t (nextPc y))) ∧
      (AtInstr 0x1C w.toNat y s →
        ∃ t, exec (.tabBrise w) s = .next t ∧
          CycleStored s t { nextPc y with c := y.c && !bitAt (s.rd8 a) (bits w.toNat 0 3) } a 1 (setBit (s.rd8 a) (bits w.toNat 0 3) y.c)) ∧
      (AtInstr 0x1D w.toNat y s →
        ∃ t, exec (.tabBfall w) s = .next t ∧
          CycleStored s t { nextPc y with c := !y.c && bitAt (s.rd8 a) (bits w.toNat 0 3) } a 1 (setBit (s.rd8 a) (bits w.toNat 0 3) y.c)))

/-- R302, R303, R305, R306, R308: the instructions without an operand, with operand bits 0; the branch stack of eight, its
overflow and underflow; other operand bits are ILLEGAL. -/
def Obligations.TabPlain : Prop :=
  ∀ (y : Cycle) (s : State),
    (AtInstr 0x00 0 y s → ∃ t, exec (.tabNop 0) s = .next t ∧ CycleIs s t (nextPc y)) ∧
    (AtInstr 0x20 0 y s → (y.stack.length < 8 →
      ∃ t, exec (.tabBpush 0) s = .next t ∧ CycleIs s t { nextPc y with stack := y.c :: y.stack }) ∧
      (8 ≤ y.stack.length → s.pendingIn bSCAN = false →
        ∃ t, exec (.tabBpush 0) s = .next t ∧ CycleFailed t y xSTACK_OVF)) ∧
    (∀ b l, y.stack = b :: l →
      (AtInstr 0x21 0 y s →
        ∃ t, exec (.tabBpopa 0) s = .next t ∧ CycleIs s t { nextPc y with c := b && y.c, stack := l }) ∧
      (AtInstr 0x22 0 y s →
        ∃ t, exec (.tabBpopo 0) s = .next t ∧ CycleIs s t { nextPc y with c := b || y.c, stack := l }) ∧
      (AtInstr 0x23 0 y s →
        ∃ t, exec (.tabBpopx 0) s = .next t ∧ CycleIs s t { nextPc y with c := xor b y.c, stack := l })) ∧
    (y.stack = [] → s.pendingIn bSCAN = false →
      (AtInstr 0x21 0 y s → ∃ t, exec (.tabBpopa 0) s = .next t ∧ CycleFailed t y xSTACK_UNF) ∧
      (AtInstr 0x22 0 y s → ∃ t, exec (.tabBpopo 0) s = .next t ∧ CycleFailed t y xSTACK_UNF) ∧
      (AtInstr 0x23 0 y s → ∃ t, exec (.tabBpopx 0) s = .next t ∧ CycleFailed t y xSTACK_UNF)) ∧
    (AtInstr 0x24 0 y s → ∃ t, exec (.tabBnot 0) s = .next t ∧ CycleIs s t { nextPc y with c := !y.c }) ∧
    (AtInstr 0x25 0 y s → ∃ t, exec (.tabBone 0) s = .next t ∧ CycleIs s t { nextPc y with c := true }) ∧
    (AtInstr 0x26 0 y s → ∃ t, exec (.tabBzero 0) s = .next t ∧ CycleIs s t { nextPc y with c := false }) ∧
    (AtInstr 0x27 0 y s → ∃ t, exec (.tabBldov 0) s = .next t ∧ CycleIs s t { nextPc y with c := y.ov }) ∧
    (AtInstr 0x28 0 y s → ∃ t, exec (.tabOvclr 0) s = .next t ∧ CycleIs s t { nextPc y with ov := false }) ∧
    (AtInstr 0x56 0 y s → ∃ t, exec (.tabWinv 0) s = .next t ∧ CycleIs s t { nextPc y with acc := ~~~ y.acc }) ∧
    (AtInstr 0x57 0 y s → ∃ t, exec (.tabPset 0) s = .next t ∧ CycleIs s t { nextPc y with p := y.acc }) ∧
    (AtInstr 0x58 0 y s → ∃ t, exec (.tabPget 0) s = .next t ∧ CycleIs s t { nextPc y with acc := y.p }) ∧
    (∀ w : BitVec 24, w ≠ 0 → AtInstr 0x24 w.toNat y s → s.pendingIn bSCAN = false →
      ∃ t, exec (.tabBnot w) s = .next t ∧ CycleFailed t y xILLEGAL) ∧
    (AtInstr 0xFF 0 y s → s.pendingIn bSCAN = false →
      (y.stack ≠ [] → ∃ t, exec (.tabEnd 0) s = .next t ∧ CycleFailed t y xSTACK_OPEN) ∧
      (y.stack = [] → s.scan.stopReq = false → y.task < 16 →
        ∃ t, exec (.tabEnd 0) s = .next t ∧ t.scan.cyc = none ∧ t.scanMode = mRun ∧
          t.rd (F.SCAN_TASK_CNT_CYCLES y.task) = (s.rd (F.SCAN_TASK_CNT_CYCLES y.task) + 1) % 2 ^ 32))

/-- What R306 says of a signed result `x`: ACC holds it modulo 2³², OV is set where it lies outside 32 bits and is never
cleared. -/
def signedResult (y : Cycle) (x : Int) : Cycle :=
  { nextPc y with acc := BitVec.ofInt 32 x, ov := y.ov || decide (x < -2147483648 ∨ 2147483647 < x) }

/-- The value of a word operand of WIDTH code `k` at `a` (R301). -/
def operandAt (s : State) (a k : Nat) : Int :=
  match k with
  | 0 => (s.rdMem a 1 : Int)
  | 1 => toSigned 8 (s.rdMem a 1)
  | 2 => (s.rdMem a 2 : Int)
  | 3 => toSigned 16 (s.rdMem a 2)
  | _ => toSigned 32 (s.rdMem a 4)

/-- R301, R306, R307: the word instructions and the compares, by the value of their operand; a division by 0 is DIV0. -/
def Obligations.TabWords : Prop :=
  ∀ (w : BitVec 24) (y : Cycle) (a : Nat) (x : Int) (s : State), bits w.toNat 0 3 ≤ 4 →
      tabAddr y (bits w.toNat 21 3) (bits w.toNat 3 18) (tabWidth (bits w.toNat 0 3)).1 (tabWidth (bits w.toNat 0 3)).1 0 0 =
        .ok a → operandAt s a (bits w.toNat 0 3) = x →
    (AtInstr 0x30 w.toNat y s →
      ∃ t, exec (.tabWld w) s = .next t ∧ CycleIs s t { nextPc y with acc := BitVec.ofInt 32 x }) ∧
    (AtInstr 0x32 w.toNat y s → ∃ t, exec (.tabWadd w) s = .next t ∧ CycleIs s t (signedResult y (y.acc.toInt + x))) ∧
    (AtInstr 0x33 w.toNat y s → ∃ t, exec (.tabWsub w) s = .next t ∧ CycleIs s t (signedResult y (y.acc.toInt - x))) ∧
    (AtInstr 0x34 w.toNat y s → ∃ t, exec (.tabWmul w) s = .next t ∧ CycleIs s t (signedResult y (y.acc.toInt * x))) ∧
    (AtInstr 0x35 w.toNat y s → (x ≠ 0 →
      ∃ t, exec (.tabWdiv w) s = .next t ∧ CycleIs s t (signedResult y (y.acc.toInt.tdiv x))) ∧
      (x = 0 → s.pendingIn bSCAN = false → ∃ t, exec (.tabWdiv w) s = .next t ∧ CycleFailed t y xDIV0)) ∧
    (AtInstr 0x36 w.toNat y s →
      (x ≠ 0 →
        ∃ t, exec (.tabWmod w) s = .next t ∧ CycleIs s t { nextPc y with acc := BitVec.ofInt 32 (y.acc.toInt.tmod x) }) ∧
      (x = 0 → s.pendingIn bSCAN = false → ∃ t, exec (.tabWmod w) s = .next t ∧ CycleFailed t y xDIV0)) ∧
    (AtInstr 0x37 w.toNat y s →
      ∃ t, exec (.tabWand w) s = .next t ∧ CycleIs s t { nextPc y with acc := y.acc &&& BitVec.ofInt 32 x }) ∧
    (AtInstr 0x38 w.toNat y s →
      ∃ t, exec (.tabWor w) s = .next t ∧ CycleIs s t { nextPc y with acc := y.acc ||| BitVec.ofInt 32 x }) ∧
    (AtInstr 0x39 w.toNat y s →
      ∃ t, exec (.tabWxor w) s = .next t ∧ CycleIs s t { nextPc y with acc := y.acc ^^^ BitVec.ofInt 32 x }) ∧
    (AtInstr 0x3A w.toNat y s →
      ∃ t, exec (.tabWmin w) s = .next t ∧ CycleIs s t { nextPc y with acc := BitVec.ofInt 32 (min y.acc.toInt x) }) ∧
    (AtInstr 0x3B w.toNat y s →
      ∃ t, exec (.tabWmax w) s = .next t ∧ CycleIs s t { nextPc y with acc := BitVec.ofInt 32 (max y.acc.toInt x) }) ∧
    (AtInstr 0x40 w.toNat y s →
      ∃ t, exec (.tabWeq w) s = .next t ∧ CycleIs s t { nextPc y with c := decide (y.acc.toInt = x) }) ∧
    (AtInstr 0x41 w.toNat y s →
      ∃ t, exec (.tabWne w) s = .next t ∧ CycleIs s t { nextPc y with c := decide (y.acc.toInt ≠ x) }) ∧
    (AtInstr 0x42 w.toNat y s →
      ∃ t, exec (.tabWgt w) s = .next t ∧ CycleIs s t { nextPc y with c := decide (x < y.acc.toInt) }) ∧
    (AtInstr 0x43 w.toNat y s →
      ∃ t, exec (.tabWge w) s = .next t ∧ CycleIs s t { nextPc y with c := decide (x ≤ y.acc.toInt) }) ∧
    (AtInstr 0x44 w.toNat y s →
      ∃ t, exec (.tabWlt w) s = .next t ∧ CycleIs s t { nextPc y with c := decide (y.acc.toInt < x) }) ∧
    (AtInstr 0x45 w.toNat y s →
      ∃ t, exec (.tabWle w) s = .next t ∧ CycleIs s t { nextPc y with c := decide (y.acc.toInt ≤ x) })

/-- R301, R306 to R308: WST stores the low octets of ACC; a word outside its area or its Writes column is ADDR, a WIDTH above 4
ILLEGAL; immediates, shifts and jumps. -/
def Obligations.TabStoresAndImmediates : Prop :=
  (∀ (w : BitVec 24) (y : Cycle) (s : State), AtInstr 0x31 w.toNat y s →
      (∀ a, bits w.toNat 0 3 ≤ 4 →
          tabAddr y (bits w.toNat 21 3) (bits w.toNat 3 18) (tabWidth (bits w.toNat 0 3)).1 (tabWidth (bits w.toNat 0 3)).1 0
            (tabWidth (bits w.toNat 0 3)).1 = .ok a →
        ∃ t, exec (.tabWst w) s = .next t ∧ CycleStored s t (nextPc y) a (tabWidth (bits w.toNat 0 3)).1 y.acc.toNat) ∧
      (bits w.toNat 0 3 ≤ 4 → bits w.toNat 21 3 = 0 → s.pendingIn bSCAN = false →
        ∃ t, exec (.tabWst w) s = .next t ∧ CycleFailed t y xADDR) ∧
      (4 < bits w.toNat 0 3 → s.pendingIn bSCAN = false → ∃ t, exec (.tabWst w) s = .next t ∧ CycleFailed t y xILLEGAL)) ∧
  (∀ (w : BitVec 24) (y : Cycle) (s : State),
      (AtInstr 0x48 w.toNat y s →
        ∃ t, exec (.tabKeq w) s = .next t ∧ CycleIs s t { nextPc y with c := decide (y.acc.toInt = w.toInt) }) ∧
      (AtInstr 0x49 w.toNat y s →
        ∃ t, exec (.tabKne w) s = .next t ∧ CycleIs s t { nextPc y with c := decide (y.acc.toInt ≠ w.toInt) }) ∧
      (AtInstr 0x4A w.toNat y s →
        ∃ t, exec (.tabKgt w) s = .next t ∧ CycleIs s t { nextPc y with c := decide (w.toInt < y.acc.toInt) }) ∧
      (AtInstr 0x4B w.toNat y s →
        ∃ t, exec (.tabKge w) s = .next t ∧ CycleIs s t { nextPc y with c := decide (w.toInt ≤ y.acc.toInt) }) ∧
      (AtInstr 0x4C w.toNat y s →
        ∃ t, exec (.tabKlt w) s = .next t ∧ CycleIs s t { nextPc y with c := decide (y.acc.toInt < w.toInt) }) ∧
      (AtInstr 0x4D w.toNat y s →
        ∃ t, exec (.tabKle w) s = .next t ∧ CycleIs s t { nextPc y with c := decide (y.acc.toInt ≤ w.toInt) }) ∧
      (AtInstr 0x50 w.toNat y s →
        ∃ t, exec (.tabKld w) s = .next t ∧ CycleIs s t { nextPc y with acc := BitVec.ofInt 32 w.toInt }) ∧
      (AtInstr 0x51 w.toNat y s → w.toNat < 65536 →
        ∃ t, exec (.tabKldh w) s = .next t ∧
          CycleIs s t { nextPc y with acc := BitVec.ofNat 32 (w.toNat * 65536 + y.acc.toNat % 65536) }) ∧
      (AtInstr 0x52 w.toNat y s →
        ∃ t, exec (.tabKadd w) s = .next t ∧ CycleIs s t (signedResult y (y.acc.toInt + w.toInt))) ∧
      (w.toNat < 32 →
        (AtInstr 0x53 w.toNat y s →
          ∃ t, exec (.tabWshl w) s = .next t ∧ CycleIs s t { nextPc y with acc := y.acc <<< w.toNat }) ∧
        (AtInstr 0x54 w.toNat y s →
          ∃ t, exec (.tabWshr w) s = .next t ∧ CycleIs s t { nextPc y with acc := y.acc >>> w.toNat }) ∧
        (AtInstr 0x55 w.toNat y s →
          ∃ t, exec (.tabWsar w) s = .next t ∧ CycleIs s t { nextPc y with acc := y.acc.sshiftRight w.toNat })) ∧
      (w.toNat < 2 ^ 18 →
        (AtInstr 0x60 w.toNat y s → ∃ t, exec (.tabJmp w) s = .next t ∧ CycleIs s t { nextPc y with pc := w.toNat }) ∧
        (AtInstr 0x61 w.toNat y s →
          ∃ t, exec (.tabJmpt w) s = .next t ∧ CycleIs s t (if y.c then { nextPc y with pc := w.toNat } else nextPc y)) ∧
        (AtInstr 0x62 w.toNat y s →
          ∃ t, exec (.tabJmpf w) s = .next t ∧ CycleIs s t (if y.c then nextPc y else { nextPc y with pc := w.toNat })) ∧
        (AtInstr 0x63 w.toNat y s →
          ∃ t, exec (.tabJmpz w) s = .next t ∧
            CycleIs s t (if y.acc = 0 then { nextPc y with pc := w.toNat } else nextPc y)) ∧
        (AtInstr 0x64 w.toNat y s →
          ∃ t, exec (.tabJmpnz w) s = .next t ∧
            CycleIs s t (if y.acc = 0 then nextPc y else { nextPc y with pc := w.toNat }))) ∧
      (2 ^ 18 ≤ w.toNat → AtInstr 0x60 w.toNat y s → s.pendingIn bSCAN = false →
        ∃ t, exec (.tabJmp w) s = .next t ∧ CycleFailed t y xILLEGAL))

/-- `t` has C as `q` in the cycle after `y`, and nothing but octets 4 to `n - 1` of the record at `a` changed. -/
def RecordIs (s t : State) (y : Cycle) (a n : Nat) (q : Bool) : Prop :=
  t.scan = { s.scan with cyc := some { nextPc y with c := q } } ∧ RegsKept [] s t ∧
    ∀ x, x < a + 4 ∨ a + n ≤ x → t.rd8 x = s.rd8 x

/-- R309, R310: TON, TOF and TP, from the record's PT, START and flags, C and the cycle's time in ms; CTU, CTD, CLOAD and CRESET,
from the record's PV and CV, C and its last-input flag. -/
def Obligations.TabTimersAndCounters : Prop :=
  (∀ (w : BitVec 24) (y : Cycle) (a pt now start : Nat) (s : State), 4 ≤ bits w.toNat 21 3 → bits w.toNat 0 7 = 0 →
        tabAddr y (bits w.toNat 21 3) (bits w.toNat 3 18) 16 4 4 13 = .ok a → s.rdMem a 4 = pt → pt < 2 ^ 31 →
        y.tStart / 1000 % 2 ^ 32 = now → s.rdMem (a + 8) 4 = start →
      (AtInstr 0x70 w.toNat y s →
        (y.c = false → ∃ t, exec (.tabTon w) s = .next t ∧ RecordIs s t y a 13 false ∧ t.rdMem (a + 4) 4 = 0) ∧
        (y.c = true → bitAt (s.rd8 (a + 12)) 1 = true →
          ∃ t, exec (.tabTon w) s = .next t ∧
            RecordIs s t y a 13 (decide (pt ≤ (now + 2 ^ 32 - start) % 2 ^ 32)) ∧ t.rdMem (a + 4) 4 = min ((now + 2 ^ 32 - start) % 2 ^ 32) pt) ∧
        (y.c = true → bitAt (s.rd8 (a + 12)) 1 = false →
          ∃ t, exec (.tabTon w) s = .next t ∧
            RecordIs s t y a 13 (decide (pt = 0)) ∧ t.rdMem (a + 4) 4 = 0 ∧ t.rdMem (a + 8) 4 = now ∧ bitAt (t.rd8 (a + 12)) 1 = true)) ∧
      (AtInstr 0x71 w.toNat y s →
        (y.c = true →
          ∃ t, exec (.tabTof w) s = .next t ∧
            RecordIs s t y a 13 true ∧ t.rdMem (a + 4) 4 = 0 ∧ bitAt (t.rd8 (a + 12)) 1 = false) ∧
        (y.c = false → bitAt (s.rd8 (a + 12)) 2 = true → 0 < pt →
          ∃ t, exec (.tabTof w) s = .next t ∧
            RecordIs s t y a 13 (bitAt (s.rd8 (a + 12)) 0) ∧ t.rdMem (a + 4) 4 = 0 ∧ t.rdMem (a + 8) 4 = now ∧ bitAt (t.rd8 (a + 12)) 1 = true) ∧
        (y.c = false → bitAt (s.rd8 (a + 12)) 2 = false → bitAt (s.rd8 (a + 12)) 1 = true →
          ∃ t, exec (.tabTof w) s = .next t ∧
            RecordIs s t y a 13 (bitAt (s.rd8 (a + 12)) 0 && decide ((now + 2 ^ 32 - start) % 2 ^ 32 < pt)) ∧ t.rdMem (a + 4) 4 = min ((now + 2 ^ 32 - start) % 2 ^ 32) pt)) ∧
      (AtInstr 0x72 w.toNat y s →
        (y.c = true → bitAt (s.rd8 (a + 12)) 2 = false → bitAt (s.rd8 (a + 12)) 1 = false → 0 < pt →
          ∃ t, exec (.tabTp w) s = .next t ∧
            RecordIs s t y a 13 true ∧ t.rdMem (a + 4) 4 = 0 ∧ t.rdMem (a + 8) 4 = now ∧ bitAt (t.rd8 (a + 12)) 1 = true) ∧
        (bitAt (s.rd8 (a + 12)) 1 = true → (now + 2 ^ 32 - start) % 2 ^ 32 < pt →
          ∃ t, exec (.tabTp w) s = .next t ∧
            RecordIs s t y a 13 (bitAt (s.rd8 (a + 12)) 0) ∧ t.rdMem (a + 4) 4 = (now + 2 ^ 32 - start) % 2 ^ 32) ∧
        (bitAt (s.rd8 (a + 12)) 1 = true → pt ≤ (now + 2 ^ 32 - start) % 2 ^ 32 →
          ∃ t, exec (.tabTp w) s = .next t ∧ RecordIs s t y a 13 false ∧ bitAt (t.rd8 (a + 12)) 1 = false))) ∧
  (∀ (w : BitVec 24) (y : Cycle) (a : Nat) (pv cv : Int) (s : State), 4 ≤ bits w.toNat 21 3 → bits w.toNat 0 7 = 0 →
        tabAddr y (bits w.toNat 21 3) (bits w.toNat 3 18) 16 4 4 9 = .ok a → toSigned 32 (s.rdMem a 4) = pv →
        toSigned 32 (s.rdMem (a + 4) 4) = cv →
      (AtInstr 0x73 w.toNat y s →
        (y.c = true → bitAt (s.rd8 (a + 8)) 1 = false →
          ∃ t, exec (.tabCtu w) s = .next t ∧
            RecordIs s t y a 9 (decide (pv ≤ min (cv + 1) 2147483647)) ∧ toSigned 32 (t.rdMem (a + 4) 4) = min (cv + 1) 2147483647) ∧
        ((y.c = false ∨ bitAt (s.rd8 (a + 8)) 1 = true) →
          ∃ t, exec (.tabCtu w) s = .next t ∧
            RecordIs s t y a 9 (decide (pv ≤ cv)) ∧ toSigned 32 (t.rdMem (a + 4) 4) = cv)) ∧
      (AtInstr 0x74 w.toNat y s →
        (y.c = true → bitAt (s.rd8 (a + 8)) 1 = false →
          ∃ t, exec (.tabCtd w) s = .next t ∧
            RecordIs s t y a 9 (decide (max (cv - 1) (-2147483648) ≤ 0)) ∧ toSigned 32 (t.rdMem (a + 4) 4) = max (cv - 1) (-2147483648)) ∧
        ((y.c = false ∨ bitAt (s.rd8 (a + 8)) 1 = true) →
          ∃ t, exec (.tabCtd w) s = .next t ∧
            RecordIs s t y a 9 (decide (cv ≤ 0)) ∧ toSigned 32 (t.rdMem (a + 4) 4) = cv)) ∧
      (AtInstr 0x75 w.toNat y s →
        ∃ t, exec (.tabCload w) s = .next t ∧
          RecordIs s t y a 9 y.c ∧ toSigned 32 (t.rdMem (a + 4) 4) = (if y.c then pv else cv)) ∧
      (AtInstr 0x76 w.toNat y s →
        ∃ t, exec (.tabCreset w) s = .next t ∧
          RecordIs s t y a 9 y.c ∧ toSigned 32 (t.rdMem (a + 4) 4) = (if y.c then 0 else cv)))

/-- R302, R308, R311, R312: SND stages its record with STATUS 0xFF, refuses with C 0, or does nothing with C 0; NST reads a
field of the node table; a reserved OP is ILLEGAL, a PC at or above PROG_LEN is FETCH. -/
def Obligations.TabNodeAndErrors : Prop :=
  (∀ (w : BitVec 24) (y : Cycle) (a : Nat) (s : State), AtInstr 0x78 w.toNat y s → 4 ≤ bits w.toNat 21 3 →
      bits w.toNat 0 7 = 0 → tabAddr y (bits w.toNat 21 3) (bits w.toNat 3 18) 16 4 14 15 = .ok a →
    (y.c = false → ∃ t, exec (.tabSnd w) s = .next t ∧ CycleIs s t (nextPc y)) ∧
    (y.c = true → (s.rd8 a = 1 ∨ s.rd8 a = 2 ∨ s.rd8 a = 16) →
        (s.rdMem (a + 2) 2 % 2 ^ 14 < 16352 ∨ s.rdMem (a + 2) 2 % 2 ^ 14 = 16383) → y.sends.length < 32 →
      ∃ t, exec (.tabSnd w) s = .next t ∧
        CycleStored s t { nextPc y with sends := (a, s.mem.readN a 16) :: y.sends } (a + 14) 1 0xFF) ∧
    (y.c = true → s.rd8 a ≠ 1 → s.rd8 a ≠ 2 → s.rd8 a ≠ 16 →
      ∃ t, exec (.tabSnd w) s = .next t ∧ CycleStored s t { nextPc y with c := false } (a + 14) 1 stBAD)) ∧
  (∀ (w : BitVec 24) (y : Cycle) (s : State), AtInstr 0x79 w.toNat y s → w.toNat < 8 → y.acc.toNat < 16320 →
    ∃ t, exec (.tabNst w) s = .next t ∧ CycleIs s t { nextPc y with
      acc := BitVec.ofNat 32 (s.nd y.acc.toNat (nstField w.toNat).1 (nstField w.toNat).2) }) ∧
  (∀ (w : BitVec 32) (y : Cycle) (s : State), s.running = some y → y.pc < s.rd F.SCAN_PROG_LEN_LEN →
      s.tabWordAt y.pc = w.toNat → tabOp (w.toNat / 2 ^ 24) = none →
      (y.skipBp = true ∨ s.breakpoint y.task y.pc = none) → s.pendingIn bSCAN = false →
    ∃ t, exec (.reservedOpcode w) s = .next t ∧ CycleFailed t y xILLEGAL) ∧
  (∀ (y : Cycle) (s : State), s.running = some y → s.rd F.SCAN_PROG_LEN_LEN ≤ y.pc →
      (y.skipBp = true ∨ s.breakpoint y.task y.pc = none) → s.pendingIn bSCAN = false →
    ∃ t, exec .fetchBeyondProgLen s = .next t ∧ CycleFailed t y xFETCH)

/-! ## The lamp drive -/

/-- R316, R319, R320, R324 to R326, R332: a frame start counts the frame, shows the supply readings, moves the flash clock and
the fade of a function a frame further, and shows as OUT what is not dark; nothing is lit while the supply is low or an eject
is active. A frame end counts an on-frame of every lit lamp; a reading inside the window clears DEGRADED; the third reading
below 1.0 V is SHORT and routes the lamp; the third frame in which an element's sink does not hold is OPEN; a lamp found open
is routed, and with none left the string is open. -/
def Obligations.LampFramesAndMeasurements : Prop :=
  (∀ (loss led : BitVec 16) (s : State), s.run bLAMP = true → s.pendingIn bLAMP = false →
      ∃ t, exec (.lampFrameStart loss led) s = .next t ∧
        t.rd F.LAMP_SUPPLY_LOSS = loss.toNat ∧ t.rd F.LAMP_SUPPLY_LED_IN = led.toNat ∧ t.lamp.frame = s.lamp.frame + 1 ∧
        t.lamp.flashOn = (if s.lamp.frame = 0 ∨ 1 < s.lamp.flashLeft then s.lamp.flashOn else !s.lamp.flashOn) ∧
        (∀ f, f < 32 → s.lamp.off = false → s.lamp.sect = none → s.lamp.restarts = [] →
          (s.lampFunc f).t < (s.lampFunc f).len → (t.lampFunc f).t = (s.lampFunc f).t + 1 ∧
            (t.lampFunc f).out = fadeOut (s.isSet (F.LAMP_FUNC_CFG_CURVE f)) (s.lampFunc f).base (s.lampFunc f).target
              ((s.lampFunc f).t + 1) (s.lampFunc f).len) ∧
        (∀ f, f < 32 → t.rd (F.LAMP_FUNC_STAT_OUT f) =
          if bitAt (t.rd F.LAMP_STATUS_AON_TRIP) (t.aonGroup f) = true ∨
              (t.rd (F.LAMP_FUNC_CFG_FLASH f) = 1 ∧ t.lamp.flashOn = false) ∨
              (t.rd (F.LAMP_FUNC_CFG_FLASH f) = 2 ∧ t.lamp.flashOn = true) then 0
          else (t.lampFunc f).out % 2 ^ 16) ∧
        (t.lampSupply = false → t.lamp.lit = [])) ∧
  (∀ (m : LampMeas) (s : State), s.run bLAMP = true →
    ∃ t, exec (.lampFrameEnd m) s = .next t ∧ t.lamp.total = s.lamp.total + s.lamp.shone.length ∧
      t.rd F.LAMP_MTX_STAT_ROW_MA = m.rowMa.toNat ∧
      (∀ id, (t.lampRec id).onFrames = (s.lampRec id).onFrames + s.lamp.shone.count id) ∧ t.lamp.shone = [] ∧
      (∀ k, k < 6 → s.isSet (F.LAMP_STR_STAT_RUNNING k) = true →
        t.rd (F.LAMP_CNT_COUNT k 0) = (s.rd (F.LAMP_CNT_COUNT k 0) + 1) % 2 ^ 32) ∧
      BlocksKept [bLAMP] s t ∧ MemKept s t) ∧
  (∀ (id : BitVec 10) (volt : BitVec 16) (h r : Bool) (s : State), s.run bLAMP = true → (s.lamp.lit.find id.toNat).isSome →
      s.lamp.measured.contains id.toNat = false →
    (∀ l a n rest, id.toNat < 96 → s.lamp.lit.find id.toNat = some l →
        spreadTicks l (s.rd (F.LAMP_STR_CFG_SPREAD (id.toNat / 16))) = (a, n) :: rest → 256 ≤ n →
        s.isSet (F.LAMP_STR_STAT_RUNNING (id.toNat / 16)) = true →
      (100 ≤ volt.toNat → s.rd (F.LAMP_STR_VWIN_V_MIN (id.toNat / 16)) ≤ volt.toNat →
          volt.toNat ≤ s.rd (F.LAMP_STR_VWIN_V_MAX (id.toNat / 16)) →
        ∃ t, exec (.lampMeasure id volt h r) s = .next t ∧
          t.lampRec id.toNat = { s.lampRec id.toNat with
            volt := volt.toNat, lastMeas := s.lamp.frame, shortRun := 0, degRun := 0, degraded := false } ∧
          RegsKept [] s t ∧ MemKept s t) ∧
      (volt.toNat < 100 → (s.lampRec id.toNat).shortRun = 2 → (s.lampRec id.toNat).short = false →
        ∃ t, exec (.lampMeasure id volt h r) s = .next t ∧ (t.lampRec id.toNat).short = true ∧
          (t.lampRec id.toNat).routed = true ∧ t.lamp.lit.find id.toNat = none ∧
          bitAt (t.rd (F.LAMP_STR_STAT_ROUTED (id.toNat / 16))) (id.toNat % 16) = true ∧
          t.rd (F.LAMP_CNT_COUNT (id.toNat / 16) 2) = (s.rd (F.LAMP_CNT_COUNT (id.toNat / 16) 2) + 1) % 2 ^ 32 ∧
          BlocksKept [bLAMP] s t ∧ MemKept s t)) ∧
    (256 ≤ id.toNat → h = false → 2 ≤ (s.lampRec id.toNat).openRun → (s.lampRec id.toNat).opn = false →
      ∃ t, exec (.lampMeasure id volt h r) s = .next t ∧ (t.lampRec id.toNat).opn = true ∧
        t.rd (F.LAMP_CNT_COUNT 6 1) = (s.rd (F.LAMP_CNT_COUNT 6 1) + 1) % 2 ^ 32 ∧ BlocksKept [bLAMP] s t ∧ MemKept s t)) ∧
  (∀ (k : Fin 6) (vs : List (BitVec 16)) (clamp : Bool) (s : State), s.run bLAMP = true →
      s.isSet (F.LAMP_STR_STAT_RUNNING k) = true →
    (∀ i, i < 16 → s.highestLamp k (vs.map (·.toNat)) = some i →
        (clamp = true ∨ ∃ j, j < 16 ∧ (s.lamp.lit.find (16 * k.val + j)).isSome ∧
          s.rd (F.LAMP_STR_VWIN_V_MAX k) + 400 < (vs.map (·.toNat)).getD j 0) →
      ∃ t, exec (.lampOpenDetect k vs clamp) s = .next t ∧ (t.lampRec (16 * k.val + i)).opn = true ∧
        (t.lampRec (16 * k.val + i)).routed = true ∧ t.lamp.lit.find (16 * k.val + i) = none ∧
        bitAt (t.rd (F.LAMP_STR_STAT_ROUTED k)) i = true ∧
        t.rd (F.LAMP_CNT_COUNT k 1) = (s.rd (F.LAMP_CNT_COUNT k 1) + 1) % 2 ^ 32 ∧
        RegsKept [F.LAMP_STR_STAT_ROUTED k, F.LAMP_CNT_COUNT k 1, F.LAMP_MTX_STAT_FAULTED] s t ∧ MemKept s t) ∧
    (s.highestLamp k (vs.map (·.toNat)) = none → clamp = true →
      ∃ t, exec (.lampOpenDetect k vs clamp) s = .next t ∧ t.rd (F.LAMP_STR_STAT_STRING_OPEN k) = 1 ∧
        t.rd (F.LAMP_STR_STAT_RUNNING k) = 0 ∧
        RegsKept [F.LAMP_STR_STAT_STRING_OPEN k, F.LAMP_STR_STAT_RUNNING k] s t ∧ MemKept s t)) ∧
  (∀ (k : Fin 6) (vs : List (BitVec 16)) (us : Nat) (s : State), s.run bLAMP = true →
      s.isSet (F.LAMP_STR_STAT_RUNNING k) = true → s.rd (F.LAMP_STR_STAT_ROUTED k) ≠ 0 → 100 ≤ us →
    (∀ i, i < 16 → s.highestLamp k (vs.map (·.toNat)) = some i →
      ∃ t, exec (.clampPersist k vs us) s = .next t ∧ (t.lampRec (16 * k.val + i)).opn = true ∧
        (t.lampRec (16 * k.val + i)).routed = true ∧ bitAt (t.rd (F.LAMP_STR_STAT_ROUTED k)) i = true ∧
        t.rd (F.LAMP_CNT_COUNT k 1) = (s.rd (F.LAMP_CNT_COUNT k 1) + 1) % 2 ^ 32) ∧
    (s.highestLamp k (vs.map (·.toNat)) = none →
      ∃ t, exec (.clampPersist k vs us) s = .next t ∧ t.rd (F.LAMP_STR_STAT_STRING_OPEN k) = 1 ∧
        t.rd (F.LAMP_STR_STAT_RUNNING k) = 0 ∧
        RegsKept [F.LAMP_STR_STAT_STRING_OPEN k, F.LAMP_STR_STAT_RUNNING k] s t ∧ MemKept s t))

/-- R325 to R328: an overcurrent switches the string off and counts, to be restarted after 1 s, three times and then not
again; a row overcurrent and a low supply darken what they feed; the supply comes back; an NTC is read. -/
def Obligations.LampProtection : Prop :=
  (∀ (k : Fin 6) (mA us : Nat) (s : State), s.run bLAMP = true → s.isSet (F.LAMP_STR_STAT_RUNNING k) = true →
      120 * s.strCurrent k < 100 * mA → 10 ≤ us →
    ∃ t, exec (.stringOvercurrent k mA us) s = .next t ∧ t.rd (F.LAMP_STR_STAT_RUNNING k) = 0 ∧
      t.rd (F.LAMP_CNT_COUNT k 4) = (s.rd (F.LAMP_CNT_COUNT k 4) + 1) % 2 ^ 32 ∧
      (s.rd (F.LAMP_STR_STAT_RESTARTS k) < 3 → (t.lampStr k).restart = true ∧
        t.rd (F.LAMP_STR_STAT_OVERCURRENT k) = s.rd (F.LAMP_STR_STAT_OVERCURRENT k)) ∧
      (3 ≤ s.rd (F.LAMP_STR_STAT_RESTARTS k) → t.rd (F.LAMP_STR_STAT_OVERCURRENT k) = 1) ∧
      RegsKept [F.LAMP_STR_STAT_RUNNING k, F.LAMP_CNT_COUNT k 4, F.LAMP_STR_STAT_OVERCURRENT k] s t ∧ MemKept s t) ∧
  (∀ (k : Fin 6) (ms : Nat) (s : State), (s.lampStr k).restart = true → 1000 ≤ ms →
    ∃ t, exec (.overcurrentRestart k ms) s = .next t ∧ (t.lampStr k).restart = false ∧
      t.rd (F.LAMP_STR_STAT_RESTARTS k) = (s.rd (F.LAMP_STR_STAT_RESTARTS k) + 1) % 4 ∧
      RegsKept [F.LAMP_STR_STAT_RESTARTS k] s t ∧ MemKept s t) ∧
  (∀ (mA us : Nat) (s : State), s.run bLAMP = true → s.isSet F.LAMP_CTRL_MTX_EN = true →
      s.isSet F.LAMP_STATUS_MATRIX_FAULT = false → 2200 < mA → 10 ≤ us →
    ∃ t, exec (.rowOvercurrent mA us) s = .next t ∧ t.rd F.LAMP_STATUS_MATRIX_FAULT = 1 ∧
      t.rd (F.LAMP_CNT_COUNT 6 4) = (s.rd (F.LAMP_CNT_COUNT 6 4) + 1) % 2 ^ 32 ∧
      (∀ id, 256 ≤ id → t.lamp.lit.find id = none) ∧
      RegsKept [F.LAMP_STATUS_MATRIX_FAULT, F.LAMP_CNT_COUNT 6 4] s t ∧ MemKept s t) ∧
  (∀ (volt : BitVec 16) (s : State), s.isOn 42 = true →
    (volt.toNat < 2200 → ∃ t, exec (.ledSupplyLow volt) s = .next t ∧ t.rd F.LAMP_STATUS_SUPPLY_LOW = 1 ∧
      t.rd F.LAMP_SUPPLY_LED_IN = volt.toNat ∧ (∀ k, k < 6 → t.rd (F.LAMP_STR_STAT_RUNNING k) = 0) ∧
      (∀ id, id < 96 ∨ 256 ≤ id → t.lamp.lit.find id = none) ∧ BlocksKept [bLAMP] s t ∧ MemKept s t) ∧
    (2200 ≤ volt.toNat → ∃ t, exec (.ledSupplyLow volt) s = .next t ∧ t.rd F.LAMP_SUPPLY_LED_IN = volt.toNat ∧
      t.lamp = s.lamp ∧ RegsKept [F.LAMP_SUPPLY_LED_IN] s t ∧ MemKept s t)) ∧
  (∀ (volt : BitVec 16) (ms : Nat) (s : State), s.isOn 42 = true → s.isSet F.LAMP_STATUS_SUPPLY_LOW = true →
      2300 < volt.toNat → 100 ≤ ms →
    ∃ t, exec (.ledSupplyResume volt ms) s = .next t ∧ t.lamp = { s.lamp with resume := true } ∧
      t.rd F.LAMP_SUPPLY_LED_IN = volt.toNat ∧ RegsKept [F.LAMP_SUPPLY_LED_IN] s t ∧ MemKept s t) ∧
  (∀ (n : Fin 6) (s : State), s.run bLAMP = true →
    (∃ t, exec (.ntcRead n none) s = .next t ∧ t.rd (F.LAMP_NTC_STAT_NTC_FAULT n) = 1 ∧
      t.rd (F.LAMP_NTC_STAT_SCALE n) = s.rd (F.LAMP_NTC_B_MIN_PCT n) % 2 ^ 8 ∧
      RegsKept [F.LAMP_NTC_STAT_NTC_FAULT n, F.LAMP_NTC_STAT_SCALE n] s t ∧ MemKept s t) ∧
    (∀ (r : Nat) (x : Int), Config.ntcTemp (s.rd (F.LAMP_NTC_A_RES_25 n)) (s.rd (F.LAMP_NTC_A_B n)) r = x →
      ∃ t, exec (.ntcRead n (some r)) s = .next t ∧ t.rd (F.LAMP_NTC_STAT_NTC_FAULT n) = 0 ∧
        t.rd (F.LAMP_NTC_STAT_TEMP n) = ofSigned 16 x ∧ t.rd (F.LAMP_NTC_STAT_SCALE n) = s.scaleAt n x % 2 ^ 8 ∧
        (10 * toSigned 8 (s.rd (F.LAMP_NTC_B_T_SHUT n)) ≤ x → t.rd (F.LAMP_NTC_STAT_THERMAL n) = 1) ∧
        (x ≤ 10 * toSigned 8 (s.rd (F.LAMP_NTC_B_T_SHUT n)) - 50 → t.rd (F.LAMP_NTC_STAT_THERMAL n) = 0) ∧
        t.lamp = s.lamp ∧ BlocksKept [bLAMP] s t ∧ MemKept s t))

/-- R331, R332: what each command of LAMP_CMD clears, with its answer; the counters stored every 15 minutes; the audit. -/
def Obligations.LampCommands : Prop :=
  (∀ (req : Fin 36) (s : State), s.blockOn bLAMP = true →
    (lampId (s.rdReq req F.LAMP_LSEL_ID) = true → ∃ t, exec (.clearLamp req) s = .next t ∧
      t.rd F.LAMP_CMD_STAT_OP = 1 ∧ t.rd F.LAMP_CMD_STAT_STATUS = stOK ∧
      (∀ r, t.lampRec (s.rdReq req F.LAMP_LSEL_ID) = r →
        r.opn = false ∧ r.short = false ∧ r.degraded = false ∧ r.routed = false) ∧
      (s.rdReq req F.LAMP_LSEL_ID < 96 →
        bitAt (t.rd (F.LAMP_STR_STAT_ROUTED (s.rdReq req F.LAMP_LSEL_ID / 16))) (s.rdReq req F.LAMP_LSEL_ID % 16) = false) ∧
      BlocksKept [bLAMP] s t ∧ MemKept s t) ∧
    (lampId (s.rdReq req F.LAMP_LSEL_ID) = false → ∃ t, exec (.clearLamp req) s = .next t ∧
      t.rd F.LAMP_CMD_STAT_OP = 1 ∧ t.rd F.LAMP_CMD_STAT_STATUS = stBAD ∧ t.lamp = s.lamp ∧
      RegsKept [F.LAMP_CMD_STAT_OP, F.LAMP_CMD_STAT_STATUS] s t ∧ MemKept s t) ∧
    (∀ k : Fin 8, k.val ≤ 5 → ∃ t, exec (.clearString req k) s = .next t ∧ t.rd (F.LAMP_STR_STAT_OVERCURRENT k) = 0 ∧
      t.rd (F.LAMP_STR_STAT_STRING_OPEN k) = 0 ∧ t.rd (F.LAMP_STR_STAT_RESTARTS k) = 0 ∧
      t.rd F.LAMP_CMD_STAT_OP = 2 ∧ t.rd F.LAMP_CMD_STAT_STATUS = stOK ∧
      RegsKept [F.LAMP_STR_STAT_OVERCURRENT k, F.LAMP_STR_STAT_STRING_OPEN k, F.LAMP_STR_STAT_RESTARTS k,
        F.LAMP_STR_STAT_UNDERCURRENT k, F.LAMP_CMD_STAT_OP, F.LAMP_CMD_STAT_STATUS] s t ∧ MemKept s t) ∧
    (∃ t, exec (.clearMatrix req) s = .next t ∧ t.rd F.LAMP_STATUS_MATRIX_FAULT = 0 ∧ t.rd F.LAMP_CMD_STAT_OP = 3 ∧
      t.rd F.LAMP_CMD_STAT_STATUS = stOK ∧ t.lamp = s.lamp ∧
      RegsKept [F.LAMP_STATUS_MATRIX_FAULT, F.LAMP_CMD_STAT_OP, F.LAMP_CMD_STAT_STATUS] s t ∧ MemKept s t) ∧
    (∀ g : Fin 8, g.val ≠ 0 → s.groupFault g = none → ∃ t, exec (.clearAon req g) s = .next t ∧
      bitAt (t.rd F.LAMP_STATUS_AON_TRIP) g = false ∧ t.lamp.restarts = g.val :: s.lamp.restarts ∧
      t.rd F.LAMP_CMD_STAT_OP = 4 ∧ t.rd F.LAMP_CMD_STAT_STATUS = stOK ∧
      RegsKept [F.LAMP_STATUS_AON_TRIP, F.LAMP_CMD_STAT_OP, F.LAMP_CMD_STAT_STATUS] s t ∧ MemKept s t) ∧
    (∀ g : Fin 8, g.val ≠ 0 → (s.groupFault g).isSome → ∃ t, exec (.clearAon req g) s = .next t ∧
      t.rd F.LAMP_CMD_STAT_OP = 4 ∧ t.rd F.LAMP_CMD_STAT_STATUS = stBAD ∧ t.lamp = s.lamp ∧
      RegsKept [F.LAMP_CMD_STAT_OP, F.LAMP_CMD_STAT_STATUS] s t ∧ MemKept s t) ∧
    (∃ t, exec (.lampAuditSnap req) s = .next t ∧ t.rd (F.LAMP_AUDIT_WORD 0) = s.lampSum % 2 ^ 32 ∧
      t.rd (F.LAMP_AUDIT_WORD 2) = s.lamp.total % 2 ^ 32 ∧ t.rd (F.LAMP_AUDIT_WORD 4) = 0 ∧
      t.rd F.LAMP_AUDIT_CTRL_SNAP_CNT = (s.rd F.LAMP_AUDIT_CTRL_SNAP_CNT + 1) % 2 ^ 16 ∧ t.lamp = s.lamp ∧
      BlocksKept [bLAMP] s t ∧ MemKept s t)) ∧
  (∀ (n : Nat) (s : State), 15 ≤ n → s.allOn [0, 42, 44] = true → s.slot.noFlashWrite = false →
    ∃ t, exec (.lampCounterStore n) s = .next t ∧ RegsKept [] s t ∧ MemKept s t ∧
      t.lamp = { s.lamp with stored := s.lamp.recs.filterMap (fun e =>
        if e.2.onFrames = 0 then none else some (e.1, e.2.onFrames)) })

/-! ## Rings and path redundancy -/

/-- Frame `f` under the AN and packet number that port `p` sends next (R338). -/
def Sys2Proof.Machine.State.tagged (s : State) (p : Nat) (f : RingFrame) : RingFrame :=
  { f with an := .ofNat 2 (s.txTag p).1, pn := .ofNat 64 (s.txTag p).2 }

/-- PTP message `m` as it goes out at port `p`: on a ring port under its next AN and packet number, at the head-end port plain. -/
def Sys2Proof.Machine.State.ptpTagged (s : State) (p : Nat) (m : PtpMsg) : PtpMsg :=
  if p < 4 then { m with an := .ofNat 2 (s.txTag p).1, pn := .ofNat 64 (s.txTag p).2 } else m

/-- R341, R349, R356, R505: a ring cycle sends CONTINUITY on every port that is ON, serves a due audit, and copies the active
engine's state to the standby engine, which is then ready. -/
def Obligations.RingCycles : Prop :=
  ∀ s : State, s.ring.cycle ≠ some s.cycleNo → s.pendingIn bRINGA = false → s.pendingIn bRINGB = false →
      s.pendingIn bCAPO = false →
    ∃ t, exec .ringCycleBoundary s = .next t ∧
      (∀ p : Fin 4, s.isOn (engDom (p.val / 2)) = true → s.isOn (portDom p) = true → s.saOk p = true →
        ∃ l f, t.out = l ++ s.out ∧ Output.ring p (s.secSci p) (s.secSsci p) f false ∈ l ∧ f.typ = 2 ∧ f.ethType = ringType) ∧
      (∀ x : Fin 2, s.isOn (engDom x) = true → (s.path x).auditDue = true →
        s.rd64 F.LEDGER_RING_AT_LO_CYCLE F.LEDGER_RING_AT_HI_CYCLE = 0 → (t.path x).auditDue = false ∧
          t.rd (F.RING_AUDIT_CTRL_SNAP_CNT x) = (s.rd (F.RING_AUDIT_CTRL_SNAP_CNT x) + 1) % 2 ^ 16) ∧
      (∀ x : Fin 2, s.activePath = some x.val → s.allOn [25, 26] = true → s.isSet (F.RING_CTRL_EN 0) = true →
        s.isSet (F.RING_CTRL_EN 1) = true → (t.path (1 - x.val)).seqs = (s.path x).seqs ∧
          t.rd F.CAPO_STAT_STANDBY_READY = 1 ∧ t.ring.copyAge = 0) ∧
      (s.activePath = none → t.rd F.CAPO_STAT_STANDBY_READY = 0)

/-- R350, R351, R357, R360: a CONTINUITY clears the misses and, the eighth in a row, brings the link up; a miss counts; the third
declares the link's fault, and on the active path moves the ring to a whole other path or leaves it SEGMENTED. -/
def Obligations.RingContinuity : Prop :=
  (∀ (p : Fin 4) (f : RingFrame) (rx : BitVec 64) (s : State), s.ctlOk p 2 f = true → s.ring.ports.length = 4 →
    (∃ t, exec (.continuityReceived p f rx) s = .next t ∧ (t.portSt p).good = min 8 ((s.portSt p).good + 1) ∧
      t.rd (F.RING_PORT_STAT_MISSES (p.val / 2) (p.val % 2)) = 0 ∧
      t.rd (F.RING_PORT_STAT_NEIGHBOUR (p.val / 2) (p.val % 2)) = f.src.toNat % 64 ∧
      t.rd (F.RING_PORT_STAT_BLOCK_LOCK (p.val / 2) (p.val % 2)) = 1 ∧ MemKept s t ∧
      (7 ≤ (s.portSt p).good → s.isSet (F.RING_PORT_STAT_UP (p.val / 2) (p.val % 2)) = false →
        t.rd (F.RING_PORT_STAT_UP (p.val / 2) (p.val % 2)) = 1 ∧ t.rd (F.RING_PORT_STAT_FAULT (p.val / 2) (p.val % 2)) = 0 ∧
        t.rd (F.RING_PORT_STAT_LINK_EPOCH (p.val / 2) (p.val % 2)) =
          (s.rd (F.RING_PORT_STAT_LINK_EPOCH (p.val / 2) (p.val % 2)) + 1) % 2 ^ 16) ∧
      ((s.portSt p).good < 7 ∨ s.isSet (F.RING_PORT_STAT_UP (p.val / 2) (p.val % 2)) = true →
        RegsKept [F.RING_PORT_STAT_MISSES (p.val / 2) (p.val % 2), F.RING_PORT_STAT_NEIGHBOUR (p.val / 2) (p.val % 2),
          F.RING_PORT_STAT_BLOCK_LOCK (p.val / 2) (p.val % 2), F.RING_PORT_DELAY_NS (p.val / 2) (p.val % 2)] s t))) ∧
  (∀ (p : Fin 4) (us take : BitVec 16) (s : State), s.isOn (portDom p) = true →
      125 * (s.rd (F.RING_PORT_STAT_MISSES (p.val / 2) (p.val % 2)) + 1) ≤ us.toNat →
    (s.rd (F.RING_PORT_STAT_MISSES (p.val / 2) (p.val % 2)) < 2 → s.ring.ports.length = 4 →
      ∃ t, exec (.continuityMiss p us take) s = .next t ∧ (t.portSt p).good = 0 ∧
        t.rd (F.RING_PORT_STAT_MISSES (p.val / 2) (p.val % 2)) =
          s.rd (F.RING_PORT_STAT_MISSES (p.val / 2) (p.val % 2)) + 1 ∧
        t.rd (F.RING_CNT_COUNT (p.val / 2) 10) = (s.rd (F.RING_CNT_COUNT (p.val / 2) 10) + 1) % 2 ^ 32 ∧
        RegsKept [F.RING_PORT_STAT_MISSES (p.val / 2) (p.val % 2), F.RING_CNT_COUNT (p.val / 2) 10] s t ∧ MemKept s t) ∧
    (s.rd (F.RING_PORT_STAT_MISSES (p.val / 2) (p.val % 2)) = 2 →
      ∃ t, exec (.continuityMiss p us take) s = .next t ∧
        t.rd (F.RING_PORT_STAT_FAULT (p.val / 2) (p.val % 2)) = 1 ∧ t.rd (F.RING_PORT_STAT_UP (p.val / 2) (p.val % 2)) = 0 ∧
        t.rd (F.RING_PORT_STAT_LINK_EPOCH (p.val / 2) (p.val % 2)) =
          (s.rd (F.RING_PORT_STAT_LINK_EPOCH (p.val / 2) (p.val % 2)) + 1) % 2 ^ 16 ∧
        t.rd (F.RING_CNT_COUNT (p.val / 2) 11) = (s.rd (F.RING_CNT_COUNT (p.val / 2) 11) + 1) % 2 ^ 32 ∧
        t.rd (F.RING_PATH_STAT_WHOLE (p.val / 2)) = 0 ∧
        (s.activePath = some (p.val / 2) → s.isSet F.CAPO_STAT_CAPO_STUCK = false → s.whole (1 - p.val / 2) = true →
          t.rd F.CAPO_STAT_GRANT = 2 - p.val / 2 ∧ t.rd F.CAPO_STAT_STATE = 2 - p.val / 2 ∧ t.rd F.CAPO_SWITCH_CAUSE = 0 ∧
          t.rd F.CAPO_SWITCH_DETECT_US = us.toNat ∧ t.rd F.CAPO_TAKEOVER_TIME = take.toNat ∧
          t.rd F.CAPO_STAT_SWITCH_EPOCH = (s.rd F.CAPO_STAT_SWITCH_EPOCH + 1) % 2 ^ 16) ∧
        (s.activePath = some (p.val / 2) → s.isSet F.CAPO_STAT_CAPO_STUCK = false → s.whole (1 - p.val / 2) = false →
          t.rd F.CAPO_STAT_STATE = 3)))

/-- R342 to R350: a frame that arrives is delivered, forwarded, buffered or dropped by the first condition that applies, each
with its count; the active path sends a buffered frame or one of a producer as credit covers it; a CREDIT sets or adds
to the credit. -/
def Obligations.RingData : Prop :=
  (∀ (x : Fin 2) (f : RingFrame) (ok : Bool) (s : State), s.engRuns x = true → s.isOn (portDom (rxPort x)) = true →
    (ok = false ∨ s.secOk (rxPort x) f.an.toNat f.pn.toNat = false → f.ethType ≠ macCtlType →
      ∃ t, exec (.ringDataReceived x f ok) s = .next t ∧
      t.rd (F.RING_CNT_COUNT x 5) = (s.rd (F.RING_CNT_COUNT x 5) + 1) % 2 ^ 32 ∧ MemKept s t) ∧
    (f.ethType = macCtlType → ∃ t, exec (.ringDataReceived x f ok) s = .next t ∧
      t.rd (F.RING_CNT_COUNT x 14) = (s.rd (F.RING_CNT_COUNT x 14) + 1) % 2 ^ 32 ∧ RegsKept [F.RING_CNT_COUNT x 14] s t ∧
      MemKept s t) ∧
    (ok = true → s.secOk (rxPort x) f.an.toNat f.pn.toNat = true → f.ethType = ringType → f.typ = 1 → ringLen f ≤ 9216 →
        f.dst.toNat / 64 ≠ s.rd F.CAPO_RING_ID_RING → f.bcast = false →
      ∃ t, exec (.ringDataReceived x f ok) s = .next t ∧
        t.rd (F.RING_CNT_COUNT x 4) = (s.rd (F.RING_CNT_COUNT x 4) + 1) % 2 ^ 32 ∧
        RegsKept [F.RING_CNT_COUNT x 4, F.RING_CREDIT_HELD x f.tc.toNat] s t ∧ MemKept s t) ∧
    (ok = true → s.secOk (rxPort x) f.an.toNat f.pn.toNat = true → f.ethType = ringType → f.typ = 1 → ringLen f ≤ 9216 →
        (f.dst.toNat / 64 = s.rd F.CAPO_RING_ID_RING ∨ f.bcast = true) →
      (f.src.toNat = s.ringId → ∃ t, exec (.ringDataReceived x f ok) s = .next t ∧
        t.rd (F.RING_CNT_COUNT x 3) = (s.rd (F.RING_CNT_COUNT x 3) + 1) % 2 ^ 32 ∧
        RegsKept [F.RING_CNT_COUNT x 3, F.RING_CREDIT_HELD x f.tc.toNat] s t ∧ MemKept s t) ∧
      (f.src.toNat ≠ s.ringId → f.dst.toNat = s.ringId → f.bcast = false →
        ((s.path x).seqs.accept f = none → ∃ t, exec (.ringDataReceived x f ok) s = .next t ∧
          t.rd (F.RING_CNT_COUNT x 8) = (s.rd (F.RING_CNT_COUNT x 8) + 1) % 2 ^ 32 ∧
          RegsKept [F.RING_CNT_COUNT x 8, F.RING_CREDIT_HELD x f.tc.toNat] s t ∧ MemKept s t) ∧
        (∀ n q, (s.path x).seqs.accept f = some (n, q) → ∃ t, exec (.ringDataReceived x f ok) s = .next t ∧
          (t.path x).seqs = q ∧ t.rd (F.RING_CNT_COUNT x 7) = (s.rd (F.RING_CNT_COUNT x 7) + n) % 2 ^ 32 ∧
          (t.rd (F.RING_CNT_COUNT x 2) = (s.rd (F.RING_CNT_COUNT x 2) + 1) % 2 ^ 32 ∨
            t.rd (F.RING_CNT_COUNT x 9) = (s.rd (F.RING_CNT_COUNT x 9) + 1) % 2 ^ 32))) ∧
      (f.src.toNat ≠ s.ringId → f.dst.toNat ≠ s.ringId → f.bcast = false → f.hops = 0 →
        ∃ t, exec (.ringDataReceived x f ok) s = .next t ∧
          t.rd (F.RING_CNT_COUNT x 4) = (s.rd (F.RING_CNT_COUNT x 4) + 1) % 2 ^ 32 ∧ MemKept s t) ∧
      (f.src.toNat ≠ s.ringId → f.dst.toNat ≠ s.ringId → f.bcast = false → f.hops ≠ 0 → s.fwdData x = true →
          (s.path x).transit.any (fun g => g.tc == f.tc) = false → s.ownReady x f.tc.toNat = false →
          s.covers x f.tc.toNat (ringCells f) = true → s.isOn (portDom (txPort x)) = true → s.saOk (txPort x) = true →
        ∃ t l, exec (.ringDataReceived x f ok) s = .next t ∧ t.out = l ++ s.out ∧
          Output.ring (txPort x) (s.secSci (txPort x)) (s.secSsci (txPort x)) (s.tagged (txPort x) { f with hops := f.hops - 1 }) false ∈ l ∧
          t.rd (F.RING_CNT_COUNT x 1) = (s.rd (F.RING_CNT_COUNT x 1) + 1) % 2 ^ 32 ∧ MemKept s t) ∧
      (f.src.toNat ≠ s.ringId → f.dst.toNat ≠ s.ringId → f.bcast = false → f.hops ≠ 0 → s.fwdData x = false →
        ∃ t, exec (.ringDataReceived x f ok) s = .next t ∧
          (t.path x).transit = (s.path x).transit ++ [{ f with hops := f.hops - 1 }] ∧
          t.rd (F.RING_CNT_COUNT x 13) = (s.rd (F.RING_CNT_COUNT x 13) + 1) % 2 ^ 32 ∧
          RegsKept [F.RING_CNT_COUNT x 13, F.RING_CREDIT_HELD x f.tc.toNat] s t ∧ MemKept s t))) ∧
  (∀ (c : Fin 4) (x : Nat) (s : State), s.activePath = some x → s.mayData x = true → s.isOn (portDom (txPort x)) = true →
      s.saOk (txPort x) = true →
    (∀ f, (s.path x).transit.find? (fun g => g.tc.toNat == c.val) = some f → s.transitReady x c = true →
        s.ringTurn x c true = true →
      ∃ t l, exec (.ringTransmit c true) s = .next t ∧ t.out = l ++ s.out ∧ Output.ring (txPort x) (s.secSci (txPort x)) (s.secSsci (txPort x)) (s.tagged (txPort x) f) false ∈ l ∧
        (t.path x).transit = (s.path x).transit.erase f ∧
        t.rd (F.RING_CNT_COUNT x 1) = (s.rd (F.RING_CNT_COUNT x 1) + 1) % 2 ^ 32 ∧ MemKept s t) ∧
    (∀ cl, s.heldClaim (engPort x) (1046528 + c.val) = some cl → 16 ≤ cl.len →
        beAt (s.claimOctets cl) 6 2 = cl.len → (bitAt (beAt (s.claimOctets cl) 1 1) 4 = true ∨
          beAt (s.claimOctets cl) 2 2 % 2 ^ 14 / 64 = s.rd F.CAPO_RING_ID_RING) →
        s.covers x c (ringCells (s.ringOwn x c ((s.path x).seqs.tx.get (4 * (beAt (s.claimOctets cl) 2 2 % 2 ^ 14) + c) 0)
          (s.claimOctets cl))) = true → s.ringTurn x c false = true →
      ∃ t, exec (.ringTransmit c false) s = .next t ∧
        t.out = .ring (txPort x) (s.secSci (txPort x)) (s.secSsci (txPort x))
          (s.tagged (txPort x)
            (s.ringOwn x c ((s.path x).seqs.tx.get (4 * (beAt (s.claimOctets cl) 2 2 % 2 ^ 14) + c) 0) (s.claimOctets cl))) false :: s.out ∧
        (t.path x).seqs.tx.get (4 * (beAt (s.claimOctets cl) 2 2 % 2 ^ 14) + c) 0 =
          ((s.path x).seqs.tx.get (4 * (beAt (s.claimOctets cl) 2 2 % 2 ^ 14) + c) 0 + 1) % 2 ^ 32 ∧
        t.rd (F.RING_CNT_COUNT x 0) = (s.rd (F.RING_CNT_COUNT x 0) + 1) % 2 ^ 32)) ∧
  (∀ (x : Fin 2) (f : RingFrame) (s : State), s.engRuns x = true → s.ctlOk (txPort x) 3 f = true →
    (bitAt (beAt f.payload 0 1) 0 = true → ∃ t, exec (.creditReceived x f) s = .next t ∧
      (∀ c, c < 4 → t.rd (F.RING_CREDIT_AVAILABLE x c) = s.rd (F.RING_CLASS_CELLS_ALLOT x c) % 2 ^ 16) ∧
      (t.path x).sent = [0, 0, 0, 0] ∧
      t.rd (F.RING_CNT_COUNT x 12) = (s.rd (F.RING_CNT_COUNT x 12) + 1) % 2 ^ 32 ∧ MemKept s t) ∧
    (bitAt (beAt f.payload 0 1) 0 = false → ∃ t, exec (.creditReceived x f) s = .next t ∧
      (∀ c, c < 4 → t.rd (F.RING_CREDIT_AVAILABLE x c) = (s.rd (F.RING_CREDIT_AVAILABLE x c) +
        (beAt f.payload (3 + 4 * c) 4 + 2 ^ 32 - (s.path x).retRcvd.getD c 0) % 2 ^ 32) % 2 ^ 16) ∧
      (t.path x).retRcvd = (List.range 4).map (fun c => beAt f.payload (3 + 4 * c) 4) ∧
      RegsKept ((List.range 4).map (F.RING_CREDIT_AVAILABLE x)) s t ∧ MemKept s t))

/-- R352 to R354, R357: the probes go out and the path is whole when the last two came back in time; another module's probe is
noted and passed on, the module's own measured; an ANNOUNCE with a newer SWITCH_EPOCH is followed, an old one counted. -/
def Obligations.RingProbes : Prop :=
  (∀ s : State, s.probeDue = true → ∃ t, exec .probeSend s = .next t ∧
    (∀ x : Fin 2, t.rd (F.RING_PATH_STAT_WHOLE x) = b2n ((s.path x).returned && (s.path x).prevOk && s.engRuns x) ∧
      (t.path x).probeSeq = ((s.path x).probeSeq + 1) % 2 ^ 32 ∧ (t.path x).returned = false ∧
      (t.path x).prevOk = (s.path x).returned ∧
      ((s.path x).join = 2 → s.engRuns x = true → s.isOn (portDom (txPort x)) = true → s.saOk (txPort x) = true →
        ∃ l f, t.out = l ++ s.out ∧ Output.ring (txPort x) (s.secSci (txPort x)) (s.secSsci (txPort x)) f false ∈ l ∧ f.typ = 4)) ∧
    BlocksKept [bRINGA, bRINGB, bCAPO] s t ∧ MemKept s t) ∧
  (∀ (x : Fin 2) (f : RingFrame) (rtt : BitVec 16) (s : State), s.ctlOk (rxPort x) 4 f = true →
    (f.src.toNat ≠ s.ringId → f.src.toNat / 64 = s.rd F.CAPO_RING_ID_RING →
      ∃ t, exec (.probeReceived x f rtt) s = .next t ∧
        (t.path x).seen.find (f.src.toNat % 64) = some (s.sys.refTick, beAt f.payload 4 1) ∧
        ((s.path x).join = 2 → s.isOn (portDom (txPort x)) = true → s.saOk (txPort x) = true →
          t.out = .ring (txPort x) (s.secSci (txPort x)) (s.secSsci (txPort x)) (s.tagged (txPort x) f) false :: s.out) ∧
        BlocksKept [bCAPO] s t ∧ MemKept s t) ∧
    (f.src.toNat = s.ringId → beAt f.payload 0 4 = (s.path x).probeSeq →
      ∃ t, exec (.probeReceived x f rtt) s = .next t ∧ t.rd (F.RING_PATH_STAT_RTT x) = rtt.toNat ∧
        (t.path x).returned = decide (rtt.toNat ≤ 100 * s.rd F.CAPO_CFG_PROBE_10US) ∧
        t.rd (F.RING_PATH_STAT_LONG_PATH x) = b2n (decide (5450 < rtt.toNat)) ∧
        t.rd (F.RING_PATH_STAT_WHOLE x) =
          b2n (decide (rtt.toNat ≤ 100 * s.rd F.CAPO_CFG_PROBE_10US) && (s.path x).prevOk && s.engRuns x))) ∧
  (∀ (p : Fin 4) (f : RingFrame) (take : BitVec 16) (s : State), s.ctlOk p 5 f = true →
    (newer 16 (beAt f.payload 1 2) (s.rd F.CAPO_STAT_SWITCH_EPOCH) = true →
      ∃ t, exec (.announceReceived p f take) s = .next t ∧
        t.rd F.CAPO_STAT_SWITCH_EPOCH = beAt f.payload 1 2 ∧ t.rd F.CAPO_ANNOUNCE_LAST_EPOCH = beAt f.payload 1 2 ∧
        t.rd F.CAPO_ANNOUNCE_LAST_TARGET = bits (beAt f.payload 0 1) 0 1 ∧
        (s.isSet F.CAPO_STAT_CAPO_STUCK = false → s.whole (bits (beAt f.payload 0 1) 0 1) = true →
          t.rd F.CAPO_STAT_GRANT = bits (beAt f.payload 0 1) 0 1 + 1 ∧ t.rd F.CAPO_SWITCH_BY_ANNOUNCE = 1 ∧
          t.rd (F.CAPO_CNT_COUNT 0) = (s.rd (F.CAPO_CNT_COUNT 0) + 1) % 2 ^ 32)) ∧
    (newer 16 (beAt f.payload 1 2) (s.rd F.CAPO_STAT_SWITCH_EPOCH) = false →
      ∃ t, exec (.announceReceived p f take) s = .next t ∧
        t.rd (F.CAPO_CNT_COUNT 2) = (s.rd (F.CAPO_CNT_COUNT 2) + 1) % 2 ^ 32 ∧
        RegsKept [F.CAPO_CNT_COUNT 2] s t ∧ MemKept s t))

/-- R355, R361, R362: joining a path after its loop test, the duplicate, the confirmation and the search for the active
path; the return to the preferred path; the commands of CAPO_CMD with their key; the stuck grant and its return. -/
def Obligations.RingPaths : Prop :=
  (∀ (x : Fin 2) (s : State), s.hasRing = true → s.allOn (ringDoms x) = true → s.rd (fResult x) = 2 →
      s.isSet (fHoldEn x) = true → s.isSet F.KEY_LC_ROOT_PRESENT = true → (s.path x).join = 0 →
      s.isSet F.SLOT_STATUS_EJECT_ACTIVE = false → s.saOk (ringPort x 0) = true → s.saOk (ringPort x 1) = true →
    ∃ t l f g, exec (.pathJoin x) s = .next t ∧ (t.path x).join = 1 ∧ t.rd (fHold x) = 1 ∧ t.out = l ++ s.out ∧
      Output.ring (ringPort x 0) (s.secSci (ringPort x 0)) (s.secSsci (ringPort x 0)) f false ∈ l ∧
      Output.ring (ringPort x 1) (s.secSci (ringPort x 1)) (s.secSsci (ringPort x 1)) g false ∈ l ∧ f.typ = 6 ∧ g.typ = 6 ∧
      f.payload = g.payload ∧ bitAt (beAt f.payload 8 1) 0 = false ∧
      RegsKept [fHold x, fBypass x] s t ∧ MemKept s t) ∧
  (∀ (p : Fin 4) (f : RingFrame) (s : State), s.ctlOk p 6 f = true → s.isOn (portDom (otherPort p)) = true →
      s.saOk (otherPort p) = true →
    (f.src.toNat ≠ s.ringId → ∃ t, exec (.joinReceived p f) s = .next t ∧
      t.out = .ring (otherPort p) (s.secSci (otherPort p)) (s.secSsci (otherPort p)) (s.tagged (otherPort p) f) false :: s.out ∧
      RegsKept [] s t ∧ MemKept s t) ∧
    (f.src.toNat = s.ringId → (s.path (p.val / 2)).join = 2 → bitAt (beAt f.payload 8 1) 0 = false →
      ∃ t l g, exec (.joinReceived p f) s = .next t ∧
      t.out = l ++ s.out ∧ Output.ring p (s.secSci p) (s.secSsci p) g false ∈ l ∧ g.typ = 6 ∧ bitAt (beAt g.payload 8 1) 0 = true ∧
      RegsKept [] s t ∧ MemKept s t)) ∧
  (∀ (x : Fin 2) (s : State), (s.path x).join = 1 →
    (∃ t, exec (.joinDupReceived x) s = .next t ∧ (t.path x).join = 0 ∧ t.rd (fHold x) = 0 ∧ t.rd (fResult x) = 3 ∧
      t.rd (F.CAPO_CNT_COUNT 7) = (s.rd (F.CAPO_CNT_COUNT 7) + 1) % 2 ^ 32 ∧ MemKept s t) ∧
    (∀ ms, 10 ≤ ms → ∃ t, exec (.joinConfirm x ms) s = .next t ∧ (t.path x).join = 2 ∧ BlocksKept [bCAPO] s t ∧
      MemKept s t)) ∧
  (∀ (x : Fin 2) (ms : Nat) (s : State), s.activePath = none → 0 < (s.path x).join → s.engRuns x = true →
      s.isSet F.CAPO_STAT_CAPO_STUCK = false →
    (∀ y e, s.saidActive x = some (y, e) → y < 2 → ∃ t, exec (.activePathSearchEnd x ms) s = .next t ∧
      t.rd F.CAPO_STAT_SWITCH_EPOCH = e % 2 ^ 16 ∧ t.rd F.CAPO_STAT_GRANT = y + 1 ∧ t.rd F.CAPO_STAT_STATE = y + 1 ∧
      BlocksKept [bCAPO] s t ∧ MemKept s t) ∧
    (s.saidActive x = none → 20 ≤ ms → ∃ t, exec (.activePathSearchEnd x ms) s = .next t ∧
      t.rd F.CAPO_STAT_GRANT = x + 1 ∧ t.rd F.CAPO_STAT_STATE = x + 1 ∧ BlocksKept [bCAPO] s t ∧ MemKept s t)) ∧
  (∀ (n : Nat) (take : BitVec 16) (x : Fin 2) (s : State), s.rd F.CAPO_CFG_PREFER = x → s.isSet F.CAPO_CFG_REVERT = true →
      s.activePath = some (1 - x.val) → s.isLowest (s.memberBits (1 - x.val)) = true → s.maySwitch x = true →
      s.rd F.CAPO_CFG_REVERT_S ≤ n →
    ∃ t, exec (.revert n take) s = .next t ∧ t.rd F.CAPO_STAT_GRANT = x + 1 ∧ t.rd F.CAPO_STAT_STATE = x + 1 ∧
      t.rd F.CAPO_SWITCH_CAUSE = 2 ∧ t.rd F.CAPO_TAKEOVER_TIME = take.toNat ∧
      t.rd F.CAPO_STAT_SWITCH_EPOCH = (s.rd F.CAPO_STAT_SWITCH_EPOCH + 1) % 2 ^ 16) ∧
  (∀ (req : Fin 36) (take : BitVec 16) (s : State), s.blockOn bCAPO = true →
    (s.maySwitch 0 = true → ¬ (s.activePath = some 0 ∧ s.rd F.CAPO_STAT_STATE = 1) →
      ∃ t, exec (.switchToA req 23235 take) s = .next t ∧ t.rd F.CAPO_STAT_GRANT = 1 ∧ t.rd F.CAPO_STAT_STATE = 1 ∧
        t.rd F.CAPO_SWITCH_CAUSE = 3 ∧ t.rd F.CAPO_TAKEOVER_CMD_STATUS = stOK ∧
        t.rd F.CAPO_STAT_SWITCH_EPOCH = (s.rd F.CAPO_STAT_SWITCH_EPOCH + 1) % 2 ^ 16) ∧
    (s.maySwitch 0 = false → ¬ (s.activePath = some 0 ∧ s.rd F.CAPO_STAT_STATE = 1) →
      ∃ t, exec (.switchToA req 23235 take) s = .next t ∧ t.rd F.CAPO_TAKEOVER_CMD_STATUS = stBAD ∧ t.ring = s.ring ∧
        RegsKept [F.CAPO_TAKEOVER_CMD_STATUS] s t ∧ MemKept s t) ∧
    (s.maySwitch 1 = true → ¬ (s.activePath = some 1 ∧ s.rd F.CAPO_STAT_STATE = 2) →
      ∃ t, exec (.switchToB req 23235 take) s = .next t ∧ t.rd F.CAPO_STAT_GRANT = 2 ∧ t.rd F.CAPO_STAT_STATE = 2 ∧
        t.rd F.CAPO_SWITCH_CAUSE = 3 ∧ t.rd F.CAPO_TAKEOVER_CMD_STATUS = stOK ∧
        t.rd F.CAPO_STAT_SWITCH_EPOCH = (s.rd F.CAPO_STAT_SWITCH_EPOCH + 1) % 2 ^ 16) ∧
    (∀ x, x < 2 → s.isSet F.CAPO_STAT_CAPO_STUCK = true → s.ring.want = some x →
      ∃ t, exec (.retryGrant req 23235 true) s = .next t ∧ t.rd F.CAPO_STAT_CAPO_STUCK = 0 ∧
        t.rd F.CAPO_STAT_GRANT = x + 1 ∧ t.rd F.CAPO_STAT_STATE = x + 1 ∧ t.rd F.CAPO_TAKEOVER_CMD_STATUS = stOK ∧
        RegsKept [F.CAPO_STAT_CAPO_STUCK, F.CAPO_STAT_GRANT, F.CAPO_STAT_STATE, F.CAPO_TAKEOVER_CMD_STATUS] s t ∧
        MemKept s t)) ∧
  (∀ (n e x : Nat) (s : State), s.isOn 49 = true → s.ring.want = some x → s.isSet F.CAPO_STAT_CAPO_STUCK = false →
      (20 ≤ n ∨ 10 ≤ e) →
    ∃ t v, exec (.capoStuck n e) s = .next t ∧ t.rd F.CAPO_STAT_CAPO_STUCK = 1 ∧ t.rd F.CAPO_STAT_STATE = 4 ∧
      t.rd (F.CAPO_CNT_COUNT 5) = (s.rd (F.CAPO_CNT_COUNT 5) + 1) % 2 ^ 32 ∧ t.evts.getLast? = some v ∧ v.cls = 0x0010 ∧
      MemKept s t) ∧
  (∀ (ms x : Nat) (s : State), s.isOn 49 = true → s.isSet F.CAPO_STAT_CAPO_STUCK = true → 1000 ≤ ms → x < 2 →
      s.ring.want = some x →
    ∃ t, exec (.capoRegrant ms true) s = .next t ∧ t.rd F.CAPO_STAT_CAPO_STUCK = 0 ∧ t.rd F.CAPO_STAT_GRANT = x + 1 ∧
      t.rd F.CAPO_STAT_STATE = x + 1 ∧
      RegsKept [F.CAPO_STAT_CAPO_STUCK, F.CAPO_STAT_GRANT, F.CAPO_STAT_STATE] s t ∧ MemKept s t) ∧
  (∀ (req : Fin 36) (x : Fin 2) (s : State), s.blockOn (ringBlk x) = true →
    (s.run (ringBlk x) = false → ∃ t, exec (.ringCtrlEn req x 1) s = .next t ∧
      t.rd (F.RING_CTRL_EN x) = 1 ∧ t.run (ringBlk x) = true ∧ BlocksKept [ringBlk x] s t ∧ MemKept s t) ∧
    (s.run (ringBlk x) = true → s.rd (F.RING_CTRL_FEC x) = 0 → s.activePath ≠ some x.val →
      ∃ t, exec (.ringCtrlEn req x 0) s = .next t ∧ t.shadow.find (F.RING_CTRL_EN x).key = some 0 ∧
        RegsKept [F.RING_CTRL_FEC x] s t ∧
        MemKept s t) ∧
    (∃ t, exec (.ringAuditSnap req x) s = .next t ∧ (t.path x).auditDue = true ∧ RegsKept [] s t ∧ MemKept s t))

/-! ## The Head-end Control Protocol -/

/-- A request of TYPE `typ` on an association of this module's own port is served and executed: HCP runs, HELLO has come, the
module has its root, and the TID is new to the window or executes again (R365, R369, R370, R452). -/
def Served (h : HcpHdr) (typ : Nat) (s : State) : Prop :=
  s.run bHCP = true ∧ h.ring = false ∧ s.hcp.assoc.find h.session.val = some true ∧ s.rootPresent = true ∧
  s.tidJudge h.session.val typ h.tid.toNat = .run ∧ s.pendingIn bHCP = false

/-- The state in which a request of `h` executes: its TID accepted, and the request counted. -/
def served (h : HcpHdr) (s : State) : State := (s.tidAccept h.session.val h.tid.toNat).hcpCnt 0

/-- R369, R370, R372: HELLO binds its session and answers who the module is; a register read or write answers value and
status; a block read answers the octets; a block write stores them; a TID seen before is answered by its recorded status. -/
def Obligations.HcpAccess : Prop :=
  (∀ (h : HcpHdr) (clr b : Bool) (s : State), s.run bHCP = true → h.ring = false →
      s.hcp.assoc.find h.session.val = some b → s.pendingIn bHCP = false →
    ∃ t, exec (.hcpHello h clr) s = .next t ∧ t.hcp.assoc.find h.session.val = some true ∧
      t.rd (F.HCP_SESSION_STAT_BOUND h.session.val) = 1 ∧ (clr = true → t.hcp.wins = s.hcp.wins.erase h.session.val) ∧
      (clr = false → t.hcp.wins = s.hcp.wins) ∧
      t.out = .hcp h.session.val h.tid.toNat 1 stOK false (octetsBE 2 (s.rd F.SYS_ID_PART) ++ octetsBE 2 (s.rd F.SYS_ID_STEP) ++
        octetsBE 2 s.moduleId ++ octetsBE 2 (s.rd (F.HCP_SESSION_STAT_LAST_TID h.session.val))) :: s.out ∧
      t.rd (F.HCP_CNT_COUNT 0) = (s.rd (F.HCP_CNT_COUNT 0) + 1) % 2 ^ 32 ∧
      RegsKept [F.HCP_SESSION_STAT_BOUND h.session.val, F.HCP_CNT_COUNT 0] s t ∧ MemKept s t) ∧
  (∀ (h : HcpHdr) (a : BitVec 32) (s : State), Served h 3 s →
    ∃ t, exec (.hcpRegRead h [a]) s = .next t ∧
      t.out = .hcp h.session.val h.tid.toNat 3 (worst [((served h s).regRead (32 + h.session.val) a.toNat).1]) false
        (octetsBE 4 ((served h s).regRead (32 + h.session.val) a.toNat).2.1 ++
          octetsBE 1 ((served h s).regRead (32 + h.session.val) a.toNat).1 ++ octetsBE 3 0) :: s.out ∧
      t.rd (F.HCP_CNT_COUNT 0) = (s.rd (F.HCP_CNT_COUNT 0) + 1) % 2 ^ 32 ∧
      RegsKept [F.HCP_SESSION_STAT_LAST_TID h.session.val, F.HCP_CNT_COUNT 0] s t ∧ MemKept s t) ∧
  (∀ (h : HcpHdr) (a v : BitVec 32) (st : Nat) (w s : State), Served h 4 s →
      (served h s).regWrite (32 + h.session.val) a.toNat v.toNat WriteMore.none = (st, w) → w.hcpOpen h = true →
    ∃ t, exec (.hcpRegWrite h [(a, v)]) s = .next t ∧
      t.out = .hcp h.session.val h.tid.toNat 4 (worst [st]) false (octetsBE 1 st) :: w.out) ∧
  (∀ (h : HcpHdr) (a : BitVec 64) (n : BitVec 16) (s : State), Served h 5 s → 1 ≤ n.toNat → n.toNat ≤ 1024 →
    ∃ t, exec (.hcpBlockRead h a n) s = .next t ∧
      t.out = (if blockReadable (a.toNat % 2 ^ 40) n.toNat ∧ s.reached (a.toNat % 2 ^ 40) n.toNat then
          .hcp h.session.val h.tid.toNat 5 stOK false (s.busOctets (a.toNat % 2 ^ 40) n.toNat)
        else .hcp h.session.val h.tid.toNat 5 stBAD false []) :: s.out ∧
      RegsKept [F.HCP_SESSION_STAT_LAST_TID h.session.val, F.HCP_CNT_COUNT 0] s t ∧ MemKept s t) ∧
  (∀ (h : HcpHdr) (a : BitVec 64) (d : List Byte) (s : State), Served h 6 s → 1 ≤ d.length → d.length ≤ 1024 →
      0x400000 ≤ a.toNat % 2 ^ 40 → a.toNat % 2 ^ 40 + d.length ≤ 0x600000 →
    (s.reached (a.toNat % 2 ^ 40) d.length = true → s.run bSCAN = false →
      ∃ t, exec (.hcpBlockWrite h a d) s = .next t ∧ t.out = .hcp h.session.val h.tid.toNat 6 stOK false [] :: s.out ∧
        (∀ i, i < d.length → t.rd8 (a.toNat % 2 ^ 40 + i) = (d.getD i 0).toNat) ∧
        (∀ x, x < a.toNat % 2 ^ 40 ∨ a.toNat % 2 ^ 40 + d.length ≤ x → t.rd8 x = s.rd8 x) ∧
        (a.toNat % 2 ^ 40 < 0x500000 → t.rd F.SCAN_CMD_STAT_PROG_OK = 0) ∧
        RegsKept [F.HCP_SESSION_STAT_LAST_TID h.session.val, F.HCP_CNT_COUNT 0, F.SCAN_CMD_STAT_PROG_OK] s t) ∧
    (s.run bSCAN = true →
      ∃ t, exec (.hcpBlockWrite h a d) s = .next t ∧ t.out = .hcp h.session.val h.tid.toNat 6 stBAD false [] :: s.out ∧
        RegsKept [F.HCP_SESSION_STAT_LAST_TID h.session.val, F.HCP_CNT_COUNT 0] s t ∧ MemKept s t)) ∧
  (∀ (h : HcpHdr) (a : BitVec 64) (d : List Byte) (st : Nat) (s : State), s.run bHCP = true → h.ring = false →
      s.hcp.assoc.find h.session.val = some true → s.rootPresent = true → s.pendingIn bHCP = false →
      1 ≤ d.length → d.length ≤ 1024 → s.tidJudge h.session.val 6 h.tid.toNat = .dup st →
    ∃ t, exec (.hcpBlockWrite h a d) s = .next t ∧ t.out = .hcp h.session.val h.tid.toNat 6 st true [] :: s.out ∧
      t.rd (F.HCP_CNT_COUNT 1) = (s.rd (F.HCP_CNT_COUNT 1) + 1) % 2 ^ 32 ∧
      RegsKept [F.HCP_CNT_COUNT 1] s t ∧ MemKept s t)

/-- R373 to R378: a segment is staged; the last one of a transfer that is complete commits it, and the commit is recorded
before it is answered; a CRC that disagrees is BAD; an open transfer is aborted by its own CT_ID. -/
def Obligations.HcpTransfers : Prop :=
  (∀ (h : HcpHdr) (g : CtSeg) (s : State), Served h 7 s → g.data.length ≤ 1024 → 1 ≤ g.kind.toNat → g.kind.toNat ≤ 5 →
      1 ≤ g.total.toNat → g.total.toNat ≤ 65536 → g.ofs.toNat + g.data.length ≤ g.total.toNat →
      s.hcp.xfers.find h.session.val = none →
    (bitAt g.flags.toNat 0 = false →
      ∃ t, exec (.ctSegment h g) s = .next t ∧ t.out = .hcp h.session.val h.tid.toNat 7 stOK false [] :: s.out ∧
        t.hcp.xfers.find h.session.val = some ⟨g.ctId.toNat, g.kind.toNat, bits g.flags.toNat 1 4, g.total.toNat,
          g.crc.toNat, stage [] g.ofs.toNat g.data⟩ ∧
        BlocksKept [bHCP] s t ∧ MemKept s t) ∧
    (bitAt g.flags.toNat 0 = true → g.data.length < g.total.toNat →
      ∃ t, exec (.ctSegment h g) s = .next t ∧ t.out = .hcp h.session.val h.tid.toNat 7 stBAD false [] :: s.out ∧
        BlocksKept [bHCP] s t ∧ MemKept s t) ∧
    (bitAt g.flags.toNat 0 = true → g.ofs.toNat = 0 → g.data.length = g.total.toNat → crc32 g.data ≠ g.crc.toNat →
      ∃ t c, exec (.ctSegment h g) s = .next t ∧
        t.out = .hcp h.session.val h.tid.toNat 7 stBAD false (octetsBE 2 c ++ octetsBE 2 0xFFFF) :: s.out ∧
        t.hcp.xfers.find h.session.val = none ∧
        t.rd (F.HCP_LAST_COMMIT_CT_ID h.session.val) = g.ctId.toNat ∧
        t.rd (F.HCP_LAST_COMMIT_TID h.session.val) = h.tid.toNat ∧
        t.rd (F.HCP_LAST_COMMIT_STAT_STATUS h.session.val) = stBAD ∧
        t.rd (F.HCP_LAST_COMMIT_STAT_KIND h.session.val) = g.kind.toNat ∧
        t.rd (F.HCP_LAST_COMMIT_STAT_COMMITS h.session.val) = s.rd (F.HCP_LAST_COMMIT_STAT_COMMITS h.session.val) ∧
        BlocksKept [bHCP] s t ∧ MemKept s t)) ∧
  (∀ (h : HcpHdr) (id : BitVec 16) (x : Transfer) (s : State), Served h 8 s → s.hcp.xfers.find h.session.val = some x →
    (x.ctId = id.toNat → ∃ t, exec (.ctAbort h id) s = .next t ∧ t.hcp.xfers.find h.session.val = none ∧
      t.rd (F.HCP_SESSION_STAT_STAGED_PCT h.session.val) = 0 ∧
      t.out = .hcp h.session.val h.tid.toNat 8 stOK false [] :: s.out ∧ BlocksKept [bHCP] s t ∧ MemKept s t) ∧
    (x.ctId ≠ id.toNat → ∃ t, exec (.ctAbort h id) s = .next t ∧ t.hcp.xfers.find h.session.val = some x ∧
      t.out = .hcp h.session.val h.tid.toNat 8 stBAD false [] :: s.out ∧ BlocksKept [bHCP] s t ∧ MemKept s t)) ∧
  (∀ (h : HcpHdr) (s : State), Served h 11 s →
    ∃ t, exec (.primerDigest h) s = .next t ∧
      t.out = .hcp h.session.val h.tid.toNat 11 stOK false
        (octetsBE 4 s.digest.1 ++ octetsBE 4 s.digest.2.1 ++ octetsBE 48 s.digest.2.2) :: s.out ∧
      BlocksKept [bHCP] s t ∧ MemKept s t) ∧
  (∀ (h : HcpHdr) (p : PrimerHdr) (s : State), Served h 12 s →
    ∃ t, exec (.primerWb h p) s = .next t ∧
      t.out = .hcp h.session.val h.tid.toNat 12 (s.wbJudge p).1 false [] :: s.out ∧ MemKept s t ∧
      ((s.wbJudge p).2.isSome → t.slot.writeBack.isSome ∧ t.rd F.SLOT_PRIMER_WB_STATE = 1 ∧
        t.rd F.SLOT_PRIMER_WB_PAGES = 0) ∧
      ((s.wbJudge p).2 = none → t.slot = s.slot ∧ BlocksKept [bHCP] s t))

/-- R366, R368, R377, R381, R382: a session slot taken or refused and closed by an alert; a message R368 does not give is BAD;
RESET, a link loss and the flooded reset end what is staged; the oldest event sent, and the events acknowledged leave. -/
def Obligations.HcpSessions : Prop :=
  (∀ s : State, s.run bHCP = true → s.rd F.HCP_PORT_STAT_RATE ≠ 0 →
    (∀ i c k, s.dtlsOk i c = true → (List.range 4).find? (fun k => (s.hcp.assoc.find k).isNone) = some k →
      ∃ t, exec (.dtlsHandshake i c) s = .next t ∧ t.hcp = { s.hcp with assoc := s.hcp.assoc.set k false } ∧ RegsKept [] s t ∧
        MemKept s t) ∧
    (∀ i c, s.dtlsOk i c = false → ∃ t, exec (.dtlsHandshake i c) s = .next t ∧ t.hcp = s.hcp ∧ RegsKept [] s t ∧ MemKept s t) ∧
    (∀ i c, s.dtlsOk i c = true → (List.range 4).find? (fun k => (s.hcp.assoc.find k).isNone) = none →
      ∃ t, exec (.dtlsHandshake i c) s = .next t ∧ t.hcp = s.hcp ∧
        t.rd (F.HCP_CNT_COUNT 7) = (s.rd (F.HCP_CNT_COUNT 7) + 1) % 2 ^ 32 ∧ RegsKept [F.HCP_CNT_COUNT 7] s t ∧
        MemKept s t)) ∧
  (∀ (k : Fin 4) (b : Bool) (s : State), s.hcp.assoc.find k.val = some b →
    ∃ t, exec (.dtlsAlert k) s = .next t ∧ t.hcp.assoc.find k.val = none ∧ t.rd (F.HCP_SESSION_STAT_BOUND k) = 0 ∧
      t.hcp.xfers.find k.val = none ∧ BlocksKept [bHCP] s t ∧ MemKept s t) ∧
  (∀ (h : HcpHdr) (typ : Byte) (r l : Bool) (b : Bool) (s : State), s.run bHCP = true → h.ring = false →
      s.hcp.assoc.find h.session.val = some b → s.pendingIn bHCP = false →
      (r = true ∨ l = false ∨ typ.toNat = 0 ∨ typ.toNat = 9 ∨ 12 < typ.toNat) →
    ∃ t, exec (.hcpBadMessage h typ r l) s = .next t ∧
      t.out = .hcp h.session.val h.tid.toNat typ.toNat stBAD false [] :: s.out ∧ RegsKept [] s t ∧ MemKept s t) ∧
  (∀ (h : HcpHdr) (s : State), Served h 2 s → ∃ t, exec (.hcpReset h) s = .next t ∧
    (∀ k, k < 4 → t.hcp.xfers.find k = none) ∧
    t.rd (F.HCP_CNT_COUNT 6) = (s.rd (F.HCP_CNT_COUNT 6) + 1) % 2 ^ 32 ∧
    t.out = .hcp h.session.val h.tid.toNat 2 stOK false [] :: s.out) ∧
  (∀ (d n : Nat) (s : State), s.isOn 43 = true → 10 < d → ∃ t, exec (.headEndLinkLoss d n) s = .next t ∧
    (∀ k, k < 4 → t.hcp.xfers.find k = none) ∧
    t.rd (F.HCP_CNT_COUNT 6) = (s.rd (F.HCP_CNT_COUNT 6) + 1) % 2 ^ 32 ∧ t.rd F.HCP_PORT_STAT_RATE = 0 ∧
    t.ring.heUp = false ∧ t.hcp.assoc = s.hcp.assoc) ∧
  (∀ (r : Fin 5) (s : State), s.isOn 43 = true → ∃ t, exec (.headEndLinkUp r) s = .next t ∧
    t.rd F.HCP_PORT_STAT_RATE = r ∧ t.ring.heUp = decide (r.val ≠ 0) ∧ t.hcp = s.hcp ∧ BlocksKept [bHCP, bCAPO] s t ∧
    MemKept s t) ∧
  (∀ s : State, s.run bHCP = true → s.pendingIn bHCP = false → ∃ t, exec .stagingResetFrame s = .next t ∧
    (∀ k, k < 4 → t.hcp.xfers.find k = none) ∧
    t.rd (F.HCP_CNT_COUNT 6) = (s.rd (F.HCP_CNT_COUNT 6) + 1) % 2 ^ 32) ∧
  (∀ (e : Evt) (rest : List Evt) (n : Nat) (s : State), s.evts = e :: rest → s.run bHCP = true →
      (s.hcp.sent ≠ e.seq ∨ s.rd F.HCP_EVT_CFG_RESEND_MS ≤ n) → s.isGateway = true →
      s.hcp.assoc.get (s.rd F.HCP_EVT_CFG_SESSION) false = true →
    ∃ t, exec (.eventResend n) s = .next t ∧ t.hcp = { s.hcp with sent := e.seq } ∧ t.evtLost = false ∧ t.evts = s.evts ∧
      t.out = .hcpEvent (s.rd F.HCP_EVT_CFG_SESSION) s.moduleId s.evtLost (evtOctets e) :: s.out ∧ RegsKept [] s t ∧
      MemKept s t) ∧
  (∀ (h : HcpHdr) (a : BitVec 32) (s : State), Served h 10 s → ∃ t, exec (.eventAck h a) s = .next t ∧
    t.evts = s.evts.filter (fun e => newer 32 e.seq a.toNat) ∧ t.rd F.HCP_EVT_STAT_PENDING = t.evts.length % 2 ^ 11 ∧
    t.out = .hcp h.session.val h.tid.toNat 10 stOK false [] :: s.out ∧ BlocksKept [bHCP] s t ∧ MemKept s t) ∧
  (∀ (s : State), s.blockOn bHCP = true → s.run bHCP = false → s.pendingIn bHCP = false →
    ∃ t, exec (.hcpCtrlEn 0 1) s = .next t ∧ t.rd F.HCP_CTRL_EN = 1 ∧ t.run bHCP = true ∧
      RegsKept [F.HCP_CTRL_EN, F.HCP_CTRL_IPV4] s t ∧ MemKept s t)

/-- R383: the gateway forwards a request to another module's queue and its response back, answers TIMEOUT for one that waits
too long, and passes an event on. -/
def Obligations.HcpForwarding : Prop :=
  (∀ (h : HcpHdr) (g : BitVec 14) (typ : Byte) (d : List Byte) (s : State), s.run bHCP = true → h.ring = false →
      g.toNat ≠ s.moduleId → s.hcp.assoc.find h.session.val = some true → s.pendingIn bHCP = false →
    (s.isGateway = false → ∃ t, exec (.requestForward h g typ d) s = .next t ∧ t.hcp = s.hcp ∧
      t.out = .hcp h.session.val h.tid.toNat typ.toNat stBAD false [] :: s.out ∧ RegsKept [] s t ∧ MemKept s t) ∧
    (s.isGateway = true → g.toNat / 64 = s.moduleId / 64 →
        (s.hcp.fwd.filter (fun f => f.1 == h.session.val)).length < 64 →
      ∃ t, exec (.requestForward h g typ d) s = .next t ∧
        t.hcp.fwd = s.hcp.fwd ++ [(h.session.val, h.tid.toNat, g.toNat, typ.toNat)] ∧
        t.rd (F.HCP_CNT_COUNT 3) = (s.rd (F.HCP_CNT_COUNT 3) + 1) % 2 ^ 32 ∧ t.out = s.out)) ∧
  (∀ (k : Fin 4) (tid : BitVec 16) (g : BitVec 14) (typ st : Byte) (dup : Bool) (d : List Byte) (s : State),
      s.run bHCP = true →
    (s.hcp.fwd.contains (k.val, tid.toNat, g.toNat, typ.toNat) = true →
      ∃ t, exec (.forwardedResponse k tid g typ st dup d) s = .next t ∧
        t.hcp.fwd = s.hcp.fwd.erase (k.val, tid.toNat, g.toNat, typ.toNat) ∧
        t.out = .hcp k tid.toNat typ.toNat st.toNat dup d :: s.out) ∧
    (s.hcp.fwd.contains (k.val, tid.toNat, g.toNat, typ.toNat) = false →
      ∃ t, exec (.forwardedResponse k tid g typ st dup d) s = .next t ∧ t.hcp = s.hcp ∧ t.out = s.out)) ∧
  (∀ (k : Fin 4) (tid : BitVec 16) (n : Nat) (f : Nat × Nat × Nat × Nat) (s : State), s.run bHCP = true →
      s.hcp.fwd.find? (fun f => f.1 == k.val && f.2.1 == tid.toNat) = some f → s.rd F.HCP_FWD_CFG_FWD_MS ≤ n →
    ∃ t, exec (.forwardTimeout k tid n) s = .next t ∧ t.hcp = { s.hcp with fwd := s.hcp.fwd.erase f } ∧
      t.out = .hcp k tid.toNat f.2.2.2 stTIMEOUT false [] :: s.out ∧
      t.rd (F.HCP_CNT_COUNT 4) = (s.rd (F.HCP_CNT_COUNT 4) + 1) % 2 ^ 32 ∧ RegsKept [F.HCP_CNT_COUNT 4] s t ∧
      MemKept s t) ∧
  (∀ (src : BitVec 14) (lost : Bool) (d : List Byte) (s : State), s.run bHCP = true → s.isGateway = true →
      s.hcp.assoc.get (s.rd F.HCP_EVT_CFG_SESSION) false = true →
    ∃ t, exec (.forwardedEvent src lost d) s = .next t ∧
      t.out = .hcpEvent (s.rd F.HCP_EVT_CFG_SESSION) src.toNat lost d :: s.out ∧ t.hcp = s.hcp)

/-! ## Time -/

/-- A PTP message `m` that arrives at port `p` is taken up and accepted (R338, R396, R398, R410). -/
def PtpTaken (p : Nat) (m : PtpMsg) (s : State) : Prop :=
  s.ptpOn = true ∧ s.ptpArrives p = true ∧ s.ptpSecOk p m = true ∧ s.ptpFits m = true

/-- R391 to R403: PTP as a transparent clock, a slave and a master: what is discarded and counted, what is forwarded with its
correction, the measurement of a Sync and of a delay, the update of TB0, the master taken and lost, and what is sent. -/
def Obligations.PtpCommands : Prop :=
  (∀ (p : Fin 5) (m : PtpMsg) (icv : Bool) (t2 : Int) (res : Nat) (s : State), s.pendingIn bTIME = false →
      s.ptpOn = true → s.ptpArrives p = true →
    (icv = false ∨ s.ptpSecOk p m = false → ∃ t, exec (.ptpSyncReceived p m icv t2 res) s = .next t ∧ t.time = s.time ∧
        t.rd (F.TIME_PTP_CNT_COUNT 4) = (s.rd (F.TIME_PTP_CNT_COUNT 4) + 1) % 2 ^ 32 ∧
        (p.val < 4 → t.rd (F.RING_CNT_COUNT (p.val / 2) 5) = (s.rd (F.RING_CNT_COUNT (p.val / 2) 5) + 1) % 2 ^ 32 ∧
          t.out = (if s.isGateway then s.out else .ptpBad (otherPort p) :: s.out)) ∧
        RegsKept [F.TIME_PTP_CNT_COUNT 4, F.RING_CNT_COUNT (p.val / 2) 5, F.RING_CNT_COUNT (p.val / 2) 6] s t ∧ MemKept s t) ∧
    (icv = true → s.ptpSecOk p m = true → s.ptpFits m = false ∨ (m.twoStep = true ∧ p.val < 4) →
      ∃ t, exec (.ptpSyncReceived p m icv t2 res) s = .next t ∧ t.time = s.time ∧ t.out = s.out ∧
        t.rd (F.TIME_PTP_CNT_COUNT 4) = (s.rd (F.TIME_PTP_CNT_COUNT 4) + 1) % 2 ^ 32 ∧
        RegsKept [F.TIME_PTP_CNT_COUNT 4] s t ∧ MemKept s t) ∧
    (icv = true → s.ptpSecOk p m = true → s.ptpFits m = true → m.twoStep = false → p.val < 4 → s.isGateway = false →
        p.val ≠ s.ptpPort → s.saOk (otherPort p) = true →
      ∃ t, exec (.ptpSyncReceived p m icv t2 res) s = .next t ∧
        t.out = .ptp (otherPort p) 0 (s.ptpTagged (otherPort p) { m with corr := m.corr + (s.asym p + res) }) none :: s.out ∧
        t.rd (F.TIME_PTP_CNT_COUNT 1) = (s.rd (F.TIME_PTP_CNT_COUNT 1) + 1) % 2 ^ 32 ∧ t.time = s.time ∧
        RegsKept [F.TIME_PTP_CNT_COUNT 1] s t ∧ MemKept s t) ∧
    (∀ ms, icv = true → s.ptpSecOk p m = true → s.ptpFits m = true → (m.twoStep = true → 4 ≤ p.val) → p.val = s.ptpPort → s.time.master = some ms →
        ms.gm = m.gm.toNat → ms.port = p.val →
      (m.twoStep = true → ∃ t, exec (.ptpSyncReceived p m icv t2 res) s = .next t ∧
        t.time = { s.time with twoStep := some ⟨m.seq.toNat, m.gm.toNat, t2, m.corr + s.asym p, p⟩ } ∧
        RegsKept [F.TIME_PTP_CNT_COUNT 1] s t ∧ MemKept s t) ∧
      (m.twoStep = false → s.time.dCount < 8 → ∃ t, exec (.ptpSyncReceived p m icv t2 res) s = .next t ∧
        t.time = { s.time with lastSync := some (t2 - m.time - (m.corr + s.asym p)) } ∧
        t.rd (F.TIME_PTP_CNT_COUNT 0) = (s.rd (F.TIME_PTP_CNT_COUNT 0) + 1) % 2 ^ 32 ∧
        RegsKept [F.TIME_PTP_CNT_COUNT 0, F.TIME_PTP_CNT_COUNT 1] s t ∧ MemKept s t) ∧
      (∀ o, m.twoStep = false → 8 ≤ s.time.dCount →
          (t2 - m.time - (m.corr + s.asym p) - meanDelay s.time.filter) / 65536 = o →
        ∃ t, exec (.ptpSyncReceived p m icv t2 res) s = .next t ∧
          t.rd F.TIME_TB0_OFFSET_NS = ofSigned 32 (clampSigned 32 o) ∧ t.rd F.TIME_TB0_STAT_HOLDOVER = 0 ∧
          (s.rd F.TIME_STEP_CFG_STEP_US * 1000 < o.natAbs → s.isSet F.TIME_TB0_STAT_VALID = false →
            t.rd F.TIME_TB0_STAT_SOURCE = 3 ∧ t.rd F.TIME_TB0_STAT_VALID = 1 ∧ t.time.slewLeft =
              (if s.rd F.TIME_TB0_STAT_SOURCE = 3 then s.time.slewLeft else 0) ∧
            t.rd F.TIME_TB0_NS_NS = ((s.tb0 : Int) - o * 65536).toNat % secFrac / 65536)))) ∧
  (∀ (p : Fin 5) (m : PtpMsg) (s : State), PtpTaken p m s →
    (∀ w, s.time.twoStep = some w → w.seq = m.seq.toNat → w.port = p.val → s.time.dCount < 8 →
      ∃ t, exec (.followUpReceived p m) s = .next t ∧
        t.time = { s.time with twoStep := none, lastSync := some (w.t2 - m.time - (w.corr + m.corr)) } ∧
        t.rd (F.TIME_PTP_CNT_COUNT 0) = (s.rd (F.TIME_PTP_CNT_COUNT 0) + 1) % 2 ^ 32 ∧
        RegsKept [F.TIME_PTP_CNT_COUNT 0] s t ∧ MemKept s t) ∧
    (∀ (rx : Int) (res : Nat), p.val < 4 →
      (s.isGateway = true → s.ptpMaster = true → ∃ t, exec (.delayReqReceived p m true rx res) s = .next t ∧
        t.out = .ptp p 9 (s.ptpTagged p { m with time := rx, source := s.portId p, asker := m.source }) none :: s.out ∧ RegsKept [] s t ∧ MemKept s t) ∧
      (s.isGateway = false → s.saOk (otherPort p) = true → ∃ t, exec (.delayReqReceived p m true rx res) s = .next t ∧
        t.out = .ptp (otherPort p) 1
          (s.ptpTagged (otherPort p) { m with corr := m.corr + ((res : Int) - s.asym (otherPort p)) }) none :: s.out ∧
        t.rd (F.TIME_PTP_CNT_COUNT 2) = (s.rd (F.TIME_PTP_CNT_COUNT 2) + 1) % 2 ^ 32 ∧
        RegsKept [F.TIME_PTP_CNT_COUNT 2] s t ∧ MemKept s t)) ∧
    (∀ t3 x, p.val = s.ptpPort → m.asker = s.portId p → s.time.dreq = some (m.seq.toNat, t3) → s.time.lastSync = some x →
      ∃ t, exec (.delayRespReceived p m true) s = .next t ∧
        t.time = { s.time with filter := ((x + (m.time - t3 - m.corr)) / 2 :: s.time.filter).take 16,
                               dCount := min 16 (s.time.dCount + 1), dreq := none } ∧
        t.rd F.TIME_PTP_DELAY_NS = ofSigned 32 (meanDelay t.time.filter / 65536) ∧
        t.rd (F.TIME_PTP_CNT_COUNT 3) = (s.rd (F.TIME_PTP_CNT_COUNT 3) + 1) % 2 ^ 32 ∧
        RegsKept [F.TIME_PTP_CNT_COUNT 3, F.TIME_PTP_DELAY_NS] s t ∧ MemKept s t) ∧
    (∀ a : PtpAnnounce, p.val = s.ptpPort → a.ptpTimescale = true → s.time.master = none →
      ∃ t, exec (.ptpAnnounceReceived p m a true) s = .next t ∧ t.time.master = some ⟨m.gm.toNat, a, p⟩ ∧
        t.time.filter = [] ∧ t.time.dCount = 0 ∧ t.rd F.TIME_PTP_STAT_GM_CLASS = a.clockClass.toNat ∧
        t.rd F.TIME_PTP_STAT_SLAVE_PORT = p ∧ t.rd F.TIME_PTP_STAT_STATE = 9 ∧
        t.rd64 F.TIME_PTP_GM_LO_ID F.TIME_PTP_GM_HI_ID = m.gm.toNat ∧
        t.rd F.TIME_PTP_UTC_OFFSET_S = a.utcOffset.toNat ∧ BlocksKept [bTIME] s t ∧ MemKept s t)) ∧
  (∀ (ms : Nat) (w : PendingSync) (s : State), s.time.twoStep = some w → s.isOn 45 = true → 100 ≤ ms →
    ∃ t, exec (.followUpMissing ms) s = .next t ∧ t.time = { s.time with twoStep := none } ∧
      t.rd (F.TIME_PTP_CNT_COUNT 5) = (s.rd (F.TIME_PTP_CNT_COUNT 5) + 1) % 2 ^ 32 ∧
      RegsKept [F.TIME_PTP_CNT_COUNT 5] s t ∧ MemKept s t) ∧
  (∀ (us : Nat) (t3 : Int) (s : State), s.ptpOn = true → s.time.master ≠ none → s.ptpPort ≠ 7 →
      1000000 / 2 ^ s.rd F.TIME_PTP_CFG_LOG_DREQ ≤ us → (s.ptpPort < 4 → s.saOk s.ptpPort = true) →
    ∃ t, exec (.delayReqSend us t3) s = .next t ∧ t.out = .ptp s.ptpPort 1
        (s.ptpTagged s.ptpPort (s.ownPtp s.ptpPort s.time.dreqSeq 0 (-(s.asym s.ptpPort)) 0)) none :: s.out ∧
      t.time = { s.time with dreq := some (s.time.dreqSeq, t3), dreqSeq := (s.time.dreqSeq + 1) % 65536 } ∧
      RegsKept [] s t ∧ MemKept s t) ∧
  (∀ (a y : Nat) (ms : PtpMaster) (s : State), s.time.master = some ms → s.ptpOn = true → (3000 ≤ a ∨ 1000 ≤ y) →
    ∃ t, exec (.masterLost a y) s = .next t ∧ t.time.master = none ∧ t.time.filter = [] ∧
      t.rd F.TIME_TB0_STAT_HOLDOVER = 1 ∧ t.rd F.TIME_PTP_STAT_SLAVE_PORT = 7 ∧ t.rd F.TIME_PTP_STAT_STATE = 4 ∧
      t.rd (F.TIME_PTP_CNT_COUNT 6) = (s.rd (F.TIME_PTP_CNT_COUNT 6) + 1) % 2 ^ 32 ∧ BlocksKept [bTIME] s t ∧ MemKept s t) ∧
  (∀ (x us : Nat) (s : State), s.activePath = some x → s.ptpMaster = true → s.pendingIn bTIME = false →
      s.saOk (ringPort x 0) = true → s.saOk (ringPort x 1) = true →
    (1000000 / 128 ≤ us → ∃ t, exec (.ptpSyncSend us) s = .next t ∧
      t.out =
        .ptp (ringPort x 1) 0 (s.ptpTagged (ringPort x 1) (s.ownPtp (ringPort x 1) s.time.syncSeq (s.tb0 : Int) 0 s.ownGm)) none ::
        .ptp (ringPort x 0) 0 (s.ptpTagged (ringPort x 0) (s.ownPtp (ringPort x 0) s.time.syncSeq (s.tb0 : Int) 0 s.ownGm)) none ::
        s.out ∧
      t.time = { s.time with syncSeq := (s.time.syncSeq + 1) % 65536 } ∧ RegsKept [F.TIME_PTP_CNT_COUNT 7] s t ∧
      MemKept s t) ∧
    (1000 ≤ us → ∃ t, exec (.ptpAnnounceSend us) s = .next t ∧
      t.out =
        .ptp (ringPort x 1) 11 (s.ptpTagged (ringPort x 1) (s.ownPtp (ringPort x 1) s.time.annSeq 0 0 s.ownGm)) (some s.ownAnn) ::
        .ptp (ringPort x 0) 11 (s.ptpTagged (ringPort x 0) (s.ownPtp (ringPort x 0) s.time.annSeq 0 0 s.ownGm)) (some s.ownAnn) ::
        s.out ∧
      t.time = { s.time with annSeq := (s.time.annSeq + 1) % 65536 } ∧ RegsKept [] s t ∧ MemKept s t)) ∧
  (∀ (ms : Nat) (s : State), s.ptpOn = true → s.isGateway = true → s.isSet F.TIME_PTP_CFG_LOCAL_GM = true →
      s.time.master = none → 3000 ≤ ms →
    ∃ t, exec (.localGmTakeover ms) s = .next t ∧ t.time = { s.time with localGm := true } ∧ t.rd F.TIME_PTP_STAT_BC = 1 ∧
      RegsKept [F.TIME_PTP_STAT_BC] s t ∧ MemKept s t) ∧
  (∀ (n : Nat) (s : State), s.isOn 45 = true → s.isSet F.TIME_TB0_STAT_HOLDOVER = true →
      s.rd F.TIME_LOCK_CFG_HOLDOVER_S ≤ n →
    ∃ t, exec (.holdoverExpiry n) s = .next t ∧ t.rd F.TIME_TB0_STAT_LOCKED = 0 ∧ t.time = { s.time with lockCnt := 0 } ∧
      RegsKept [F.TIME_TB0_STAT_LOCKED] s t ∧ MemKept s t)

/-- R385 to R395, R404 to R410, R531: TB1 follows its crossings or goes into holdover; TB2 is pulled to TB0's seconds; SET and
ADJUST with their key; the read of TIME_TB0_SUB latches the time; EN of PTP waits for the commit point; the RTC is halted,
released, disciplined and set; a reference tick moves TB0. -/
def Obligations.TimeCommands : Prop :=
  (∀ (u1 u2 u3 : BitVec 16) (o : Int) (f : BitVec 24) (s : State), s.isOn 45 = true → s.pendingIn bTIME = false →
    (s.tb1Source u1.toNat u2.toNat u3.toNat = 0 ∨ s.isOn 36 = false ∨ f.toNat < 45000 ∨ 65000 < f.toNat →
      ∃ t, exec (.zeroCrossing u1 u2 u3 o f) s = .next t ∧ t.rd F.TIME_TB1_STAT_HOLDOVER = 1 ∧
        t.rd F.TIME_TB1_STAT_LOCKED = 0 ∧ t.time = { s.time with tb1Good := 0 } ∧
        RegsKept [F.TIME_TB1_STAT_HOLDOVER, F.TIME_TB1_STAT_LOCKED, F.TIME_TB1_FREQ_MHZ, F.TIME_TB1_STAT_SOURCE] s t ∧
        MemKept s t) ∧
    (s.tb1Source u1.toNat u2.toNat u3.toNat ≠ 0 → s.isOn 36 = true → 45000 ≤ f.toNat → f.toNat ≤ 65000 →
      ∃ t, exec (.zeroCrossing u1 u2 u3 o f) s = .next t ∧ t.rd F.TIME_TB1_STAT_HOLDOVER = 0 ∧
        t.rd F.TIME_TB1_STAT_SOURCE = s.tb1Source u1.toNat u2.toNat u3.toNat ∧ t.rd F.TIME_TB1_FREQ_MHZ = f.toNat ∧
        RegsKept [F.TIME_TB1_STAT_HOLDOVER, F.TIME_TB1_STAT_LOCKED, F.TIME_TB1_FREQ_MHZ, F.TIME_TB1_STAT_SOURCE] s t ∧
        MemKept s t)) ∧
  (∀ s : State, s.isOn 45 = true → s.pendingIn bTIME = false → s.time.integ.length = 3 → s.time.adj.length = 3 →
    ∃ t, exec .tb2Update s = .next t ∧
      t.time.integ.getD 2 0 = clampTo (50000 * 65536) (s.time.integ.getD 2 0 +
        (s.rd (F.TIME_SERVO_CFG_KI 2) : Int) * (s.alignOf / 65536)) ∧
      t.time.adj.getD 2 0 = clampTo (50000 * 65536)
        (-((s.rd (F.TIME_SERVO_CFG_KP 2) : Int) * 16 * (s.alignOf / 65536) + t.time.integ.getD 2 0)) ∧
      t.rd F.TIME_TB2_STAT_ALIGN_US = ofSigned 20 (s.alignOf / 65536 / 1000) ∧
      t.rd F.TIME_TB2_STAT_SLEW = b2n (decide (10000 < (s.alignOf / 65536).natAbs)) ∧
      RegsKept [F.TIME_TB2_STAT_ALIGN_US, F.TIME_TB2_STAT_SLEW] s t ∧ MemKept s t) ∧
  (∀ (req : Fin 36) (s : State), s.blockOn bTIME = true →
    (s.rd F.TIME_TB0_STAT_SOURCE ≠ 3 →
      (∃ t, exec (.tb0Set req 0x7A51) s = .next t ∧ t.rd F.TIME_TB0_STAT_SOURCE = 2 ∧ t.rd F.TIME_TB0_STAT_VALID = 1 ∧
        t.rd F.TIME_TB0_STAT_LOCKED = 0 ∧ t.time.slewLeft = 0 ∧
        t.rd F.TIME_TB0_NS_NS = s.rdReq req F.TIME_TB0_SET_NS_VALUE % 1000000000) ∧
      (∃ t, exec (.tb0Adjust req 0x7A51) s = .next t ∧ RegsKept [] s t ∧ MemKept s t ∧
        t.time = { s.time with
          slewLeft := s.time.slewLeft + toSigned 32 (s.rdReq req F.TIME_TB0_SET_NS_VALUE) * 65536 })) ∧
    (s.rd F.TIME_TB0_STAT_SOURCE = 3 →
      (∃ t, exec (.tb0Set req 0x7A51) s = .next t ∧ t.out = .access req 0x40120044 stBAD 0 :: s.out ∧ t.time = s.time ∧
        RegsKept [] s t ∧ MemKept s t) ∧
      (∃ t, exec (.tb0Adjust req 0x7A51) s = .next t ∧ t.out = .access req 0x40120044 stBAD 0 :: s.out ∧ t.time = s.time ∧
        RegsKept [] s t ∧ MemKept s t)) ∧
    (∃ t v, exec (.tb0SubRead req) s = .next t ∧ t.out = .access req 0x40120000 stOK v :: s.out ∧
      t.latches.find (reqKey req 0x40120004) = some (s.word 0x40120004) ∧
      t.latches.find (reqKey req 0x40120008) = some (s.word 0x40120008) ∧
      t.latches.find (reqKey req 0x4012000C) = some (s.word 0x4012000C) ∧ RegsKept [] s t ∧ MemKept s t) ∧
    (∀ v : BitVec 32, s.run bTIME = true → s.isSet F.TIME_PTP_CFG_EN = false → bits v.toNat 8 8 ≤ 127 →
      ∃ t, exec (.timePtpCfgEn req v) s = .next t ∧ t.shadow.find F.TIME_PTP_CFG_EN.key = some (bits v.toNat 31 1) ∧
        t.rd F.TIME_PTP_CFG_DOMAIN = bits v.toNat 8 8 ∧ RegsKept [F.TIME_PTP_CFG_DOMAIN] s t ∧ MemKept s t)) ∧
  (∀ (req : Fin 36) (s : State), s.blockOn bRTC = true →
    (s.isSet F.RTC_CTRL_HALT = false → ∃ t, exec (.rtcHaltWrite req true) s = .next t ∧ t.rd F.RTC_CTRL_HALT = 1 ∧
      t.time = { s.time with rtcLoSet := false, rtcHiSet := false } ∧ RegsKept [F.RTC_CTRL_HALT] s t ∧ MemKept s t) ∧
    (s.isSet F.RTC_CTRL_HALT = true → ∃ t, exec (.rtcHaltWrite req false) s = .next t ∧ t.rd F.RTC_CTRL_HALT = 0 ∧
      t.rtc = (s.rtc + 2 * s.rd F.RTC_STAT_PENDING) % 2 ^ 64 ∧ t.rd F.RTC_STAT_PENDING = 0 ∧
      t.rd F.RTC_CNT_SETS = (s.rd F.RTC_CNT_SETS + 1) % 2 ^ 16 ∧
      (s.time.rtcLoSet = true → s.time.rtcHiSet = true → t.rd F.RTC_STAT_OSF = 0) ∧ BlocksKept [bRTC] s t ∧ MemKept s t)) ∧
  (∀ (n : Nat) (s : State), s.rtcUp = true → s.isSet F.RTC_CTRL_HALT = true →
    (s.rd F.RTC_STAT_PENDING + n < 65535 → ∃ t, exec (.haltTimeout n) s = .next t ∧
      t.rd F.RTC_STAT_PENDING = s.rd F.RTC_STAT_PENDING + n ∧ RegsKept [F.RTC_STAT_PENDING] s t ∧ MemKept s t) ∧
    (65535 ≤ s.rd F.RTC_STAT_PENDING + n → ∃ t, exec (.haltTimeout n) s = .next t ∧ t.rd F.RTC_CTRL_HALT = 0 ∧
      t.rd F.RTC_STAT_HALT_TIMEOUT = 1 ∧ t.rd F.RTC_STAT_PENDING = 0 ∧
      t.rtc = (s.rtc + 2 * (s.rd F.RTC_STAT_PENDING + n)) % 2 ^ 64 ∧ BlocksKept [bRTC] s t ∧ MemKept s t)) ∧
  (∀ (n : Nat) (low : Bool) (s : State), s.rtcUp = true → (4 ≤ n ∨ low = true) →
    ∃ t, exec (.oscillatorStop n low) s = .next t ∧ t.rd F.RTC_STAT_OSF = 1 ∧
      t.rd F.RTC_CNT_STOPS = satInc 65535 (s.rd F.RTC_CNT_STOPS) % 2 ^ 16 ∧ RegsKept [F.RTC_STAT_OSF, F.RTC_CNT_STOPS] s t ∧
      MemKept s t) ∧
  (∀ (n : Nat) (d : Int) (s : State), s.rtcKept = true → 1024 ≤ n → s.time.rtcDiff = some d →
    (10 * ((s.rtc : Int) - (s.tb0Units : Int)).natAbs ≤ 65536 → ∃ t, exec (.rtcDiscipline n) s = .next t ∧
      t.rd F.RTC_TRIM_TRIM = ofSigned 14 (clampTo 8191 (s.rdS F.RTC_TRIM_TRIM - ((s.rtc : Int) - (s.tb0Units : Int) - d))) ∧
      t.time = { s.time with rtcDiff := some ((s.rtc : Int) - (s.tb0Units : Int)) } ∧ RegsKept [F.RTC_TRIM_TRIM] s t ∧
      MemKept s t) ∧
    (65536 < 10 * ((s.rtc : Int) - (s.tb0Units : Int)).natAbs → ∃ t, exec (.rtcDiscipline n) s = .next t ∧
      t.rtc = s.tb0Units % 2 ^ 64 ∧ t.rd F.RTC_CTRL_HALT = 0 ∧ BlocksKept [bRTC] s t ∧ MemKept s t)) ∧
  (∀ s : State, s.rtcKept = true → s.time.rtcDue = true → ∃ t, exec .rtcSetAfterStep s = .next t ∧
    t.rtc = s.tb0Units % 2 ^ 64 ∧ t.time.rtcDue = false ∧ t.rd F.RTC_CTRL_HALT = 0 ∧ t.rd F.RTC_STAT_OSF = 0 ∧
    t.rd F.RTC_CNT_SETS = (s.rd F.RTC_CNT_SETS + 1) % 2 ^ 16 ∧ BlocksKept [bRTC] s t ∧ MemKept s t) ∧
  (∀ (n : Nat) (s : State), s.pendingIn bIO = false →
    ∃ t, exec (.referenceTick n) s = .next t ∧ t.sys.refTick = (s.sys.refTick + n) % 2 ^ 64 ∧ MemKept s t ∧
      BlocksKept [bTIME] s t ∧ (s.isOn 45 = false → RegsKept [] s t) ∧
      (s.isOn 45 = true → s.time.adj.getD 0 0 = 0 → s.time.rems.getD 0 0 = 0 → s.time.slewLeft = 0 →
        s.tb0 + n * 65536000 < 2 ^ 64 * secFrac → t.tb0 = s.tb0 + n * 65536000))

/-! ## The bulk mover -/

/-- What the write-back of channel `c` stores at octet 40 of its descriptor (R412). -/
def writtenBack (s : State) (c st reason : Nat) : Nat :=
  st + reason * 2 ^ 8 + (s.rd (F.MOVER_CH_STAT_SEQ c) + 1) % 65536 * 2 ^ 16 + (s.chan c).moved * 2 ^ 32

/-- The descriptor of channel `c` can be written back. -/
def CanWriteBack (s : State) (c : Nat) : Prop :=
  s.addrUp (s.moverCur c) = true ∧ inRegBlocks (s.moverCur c) 64 = false ∧ readOnlyWindow (s.moverCur c) = false

/-- R411 to R423: START and CONTINUE fetch from HEAD or CUR, or halt; a fetched descriptor starts moving, ends by its checks or
halts the channel; an access moves a unit, or ends the descriptor; its write-back stores the status and goes on; ABORT; a
request counts; EN stops every channel. -/
def Obligations.MoverCommands : Prop :=
  (∀ (req : Fin 36) (c : Fin 32) (s : State), s.isOn 40 = true → s.isSet F.MOVER_CTRL_EN = true →
      s.pendingIn bMOVER = false → s.rd (F.MOVER_CH_LIMIT_LIMIT c) ≠ 0 →
    (∀ h, (s.chan c).phase = .idle ∨ (s.chan c).phase = .halted →
        s.rd64 (F.MOVER_CH_HEAD_LO_ADDR c) (F.MOVER_CH_HEAD_HI_ADDR c) = h →
      (h % 64 = 0 → ∃ t, exec (.moverStart req c) s = .next t ∧ (t.chan c).phase = .fetch ∧
        t.moverCur c = h % 2 ^ 64 ∧ t.rd (F.MOVER_CH_COUNT_FETCHED c) = 0 ∧ t.rd (F.MOVER_CH_STAT_STATE c) = 1 ∧
        BlocksKept [bMOVER] s t ∧ MemKept s t) ∧
      (h % 64 ≠ 0 → ∃ t, exec (.moverStart req c) s = .next t ∧ (t.chan c).phase = .halted ∧
        t.rd (F.MOVER_CH_STAT_HALT_STATUS c) = stFETCH ∧ t.rd F.MOVER_ERR_FETCH = 1 ∧
        t.rd (F.MOVER_CH_STAT_STATE c) = 3 ∧ BlocksKept [bMOVER] s t ∧ MemKept s t)) ∧
    ((s.chan c).phase = .halted → s.moverCur c % 64 = 0 →
      ∃ t, exec (.moverContinue req c) s = .next t ∧ (t.chan c).phase = .fetch ∧ t.moverCur c = s.moverCur c ∧
        t.rd (F.MOVER_CH_COUNT_FETCHED c) = 0 ∧ t.rd (F.MOVER_CH_STAT_STATE c) = 1 ∧
        BlocksKept [bMOVER] s t ∧ MemKept s t)) ∧
  (∀ (req : Fin 36) (c : Fin 32) (s : State), s.isOn 40 = true →
    ((s.chan c).phase = .fetch ∨ (s.chan c).phase = .halted →
      ∃ t, exec (.moverAbort req c) s = .next t ∧ (t.chan c).phase = .idle ∧ t.rd (F.MOVER_CH_STAT_STATE c) = 0 ∧
        t.rd (F.MOVER_CH_LIMIT_PENDING c) = 0 ∧ BlocksKept [bMOVER] s t ∧ MemKept s t) ∧
    ((s.chan c).phase = .run ∨ (s.chan c).phase = .wait → CanWriteBack s c →
      ∃ t, exec (.moverAbort req c) s = .next t ∧ (t.chan c).phase = .idle ∧
        t.rdMem (s.moverCur c + 40) 8 = writtenBack s c stBAD 0x9 % 2 ^ 64 ∧
        (∀ a, a < s.moverCur c + 40 ∨ s.moverCur c + 48 ≤ a → t.rd8 a = s.rd8 a) ∧
        t.rd (F.MOVER_CH_STAT_BAD_SEEN c) = 1 ∧ BlocksKept [bMOVER] s t)) ∧
  (∀ (c : Fin 32) (p : Bool) (d : Nat) (s : State), s.moverRuns = true → (s.chan c).phase = .fetch →
      ofOctetsLE (s.busOctets (s.moverCur c) 64) = d →
    (p = true ∨ s.addrUp (s.moverCur c) = false ∨ inRegBlocks (s.moverCur c) 64 = true →
      ∃ t, exec (.descriptorFetched c p) s = .next t ∧ (t.chan c).phase = .halted ∧
        t.rd (F.MOVER_CH_STAT_HALT_STATUS c) = stFETCH ∧ t.rd F.MOVER_ERR_FETCH = 1 ∧
        t.rd (F.MOVER_CH_COUNT_FETCHED c) = s.rd (F.MOVER_CH_COUNT_FETCHED c) ∧ BlocksKept [bMOVER] s t ∧ MemKept s t) ∧
    (p = false → s.addrUp (s.moverCur c) = true → inRegBlocks (s.moverCur c) 64 = false → MvDesc.legal d = false →
      ∃ t, exec (.descriptorFetched c p) s = .next t ∧ (t.chan c).phase = .halted ∧
        t.rd (F.MOVER_CH_COUNT_FETCHED c) = (s.rd (F.MOVER_CH_COUNT_FETCHED c) + 1) % 2 ^ 16 ∧
        BlocksKept [bMOVER] s t ∧ MemKept s t) ∧
    (∀ st r, p = false → s.addrUp (s.moverCur c) = true → inRegBlocks (s.moverCur c) 64 = false → MvDesc.legal d = true →
        moverCheck d = some (st, r) →
      ∃ t, exec (.descriptorFetched c p) s = .next t ∧ (t.chan c).phase = .wb st r ∧ (t.chan c).moved = 0 ∧ MemKept s t) ∧
    (p = false → s.addrUp (s.moverCur c) = true → inRegBlocks (s.moverCur c) 64 = false → MvDesc.legal d = true →
        moverCheck d = none → MvDesc.req d = 0xFF →
      ∃ t, exec (.descriptorFetched c p) s = .next t ∧
        t.chan c = ⟨.run, d, 0, if 2 ≤ MvDesc.typ d then MvDesc.len d else 64 * MvDesc.burst d, (s.chan c).line⟩ ∧
        t.rd (F.MOVER_CH_COUNT_FETCHED c) = (s.rd (F.MOVER_CH_COUNT_FETCHED c) + 1) % 2 ^ 16 ∧
        BlocksKept [bMOVER] s t ∧ MemKept s t)) ∧
  (∀ (c : Fin 32) (d n : Nat) (l : List Byte) (u s w : State), s.moverRuns = true → (s.chan c).phase = .run →
      s.moverNext = some c.val → w = { s with mvTurn := ⟨c, none⟩ } → (s.chan c).desc = d → MvDesc.typ d = MvDesc.tCopy → MvDesc.funnel d = false →
      unitSize d (MvDesc.dst d + (s.chan c).moved) (min (MvDesc.len d - (s.chan c).moved) (s.chan c).burst) = n →
      w.busGet (MvDesc.src d + (s.chan c).moved) n = (0, l, w) →
    (w.busPut (MvDesc.dst d + (s.chan c).moved) l = (0, u) → MvDesc.len d ≤ (s.chan c).moved + n →
      ∃ t, exec (.moverAccessResponse c false) s = .next t ∧ (t.chan c).phase = .wb stOK 0 ∧
        (t.chan c).moved = (s.chan c).moved + n ∧ MemKept u t) ∧
    (∃ t, exec (.moverAccessResponse c true) s = .next t ∧ (t.chan c).phase = .wb stPOISON 0x5 ∧
      t.rd F.MOVER_ERR_BUS = 1 ∧ BlocksKept [bMOVER] s t ∧ MemKept s t)) ∧
  (∀ (c : Fin 32) (p : Bool) (s : State), s.moverNext ≠ some c.val →
    ∃ t, exec (.moverAccessResponse c p) s = .next t ∧ t.mover = s.mover ∧ RegsKept [] s t ∧ MemKept s t) ∧
  (∀ (c : Fin 32) (n : Nat) (s : State), s.moverRuns = true → 11 ≤ n →
    ((s.chan c).phase = .run → ∃ t, exec (.moverAccessTimeout c n) s = .next t ∧ (t.chan c).phase = .wb stTIMEOUT 0x4 ∧
      t.rd F.MOVER_ERR_BUS = 1 ∧ BlocksKept [bMOVER] s t ∧ MemKept s t) ∧
    ((s.chan c).phase = .fetch → ∃ t, exec (.moverAccessTimeout c n) s = .next t ∧ (t.chan c).phase = .halted ∧
      t.rd (F.MOVER_CH_STAT_HALT_STATUS c) = stFETCH ∧ t.rd F.MOVER_ERR_FETCH = 1 ∧ BlocksKept [bMOVER] s t ∧
      MemKept s t)) ∧
  (∀ (c : Fin 32) (st r : Nat) (s : State), s.moverRuns = true → (s.chan c).phase = .wb st r →
    (CanWriteBack s c → MvDesc.next (s.chan c).desc = 0 →
      ∃ t, exec (.descriptorWriteBack c) s = .next t ∧ (t.chan c).phase = .idle ∧
        t.rdMem (s.moverCur c + 40) 8 = writtenBack s c st r % 2 ^ 64 ∧
        (∀ a, a < s.moverCur c + 40 ∨ s.moverCur c + 48 ≤ a → t.rd8 a = s.rd8 a) ∧
        t.rd (F.MOVER_CH_STAT_SEQ c) = (s.rd (F.MOVER_CH_STAT_SEQ c) + 1) % 65536 ∧ BlocksKept [bMOVER] s t) ∧
    (s.addrUp (s.moverCur c) = false → ∃ t, exec (.descriptorWriteBack c) s = .next t ∧ (t.chan c).phase = .halted ∧
      t.rd (F.MOVER_CH_STAT_HALT_STATUS c) = stFETCH ∧ BlocksKept [bMOVER] s t ∧ MemKept s t)) ∧
  (∀ (line : Fin 32) (q : BitVec 20) (s : State), s.moverRuns = true → line.val < 16 →
    ∃ t, exec (.requestLine line q) s = .next t ∧ BlocksKept [bMOVER] s t ∧ MemKept s t ∧
      ∀ c, c < 32 → (s.chan c).line = some line.val → (s.chan c).phase ≠ .wait →
        s.rd (F.MOVER_CH_LIMIT_PENDING c) < 255 →
          t.rd (F.MOVER_CH_LIMIT_PENDING c) = s.rd (F.MOVER_CH_LIMIT_PENDING c) + 1) ∧
  (∀ (req : Fin 36) (s : State), s.isOn 40 = true →
    (∃ t, exec (.moverCtrlEn req true) s = .next t ∧ t.rd F.MOVER_CTRL_EN = 1 ∧ t.run bMOVER = true ∧
      RegsKept [F.MOVER_CTRL_EN] s t ∧ MemKept s t) ∧
    (∃ t, exec (.moverCtrlEn req false) s = .next t ∧ t.rd F.MOVER_CTRL_EN = 0 ∧ t.run bMOVER = false ∧
      ((∀ c, c < 32 → (s.chan c).phase = .idle) → RegsKept [F.MOVER_CTRL_EN] s t ∧ MemKept s t)))

/-! ## The keystore -/

/-- R450 to R462: what each command of KEY_CMD does in the life-cycle states that allow it, and its answer; the staging; the
key checks of a replacement and its end; a tamper event, which zeroises a module in service. What a signature or a
wrapping says is a function of its octets that stays open (log entry 4). -/
def Obligations.KeyCommands : Prop :=
  (∀ (req : Fin 36) (s : State), s.blockOn bKEY = true →
    (s.lc = lcProvisioned → ∃ t, exec (.keyField req 0x4B45) s = .next t ∧ t.lc = lcFielded ∧ t.key.replaces = [] ∧
      t.rd F.KEY_CMD_STAT_OP = 2 ∧ t.rd F.KEY_CMD_STAT_STATUS = stOK ∧ BlocksKept [bKEY] s t ∧ MemKept s t) ∧
    (s.lc ≠ lcProvisioned → ∃ t, exec (.keyField req 0x4B45) s = .next t ∧ t.key = s.key ∧
      t.rd F.KEY_CMD_STAT_OP = 2 ∧ t.rd F.KEY_CMD_STAT_STATUS = stBAD ∧
      RegsKept [F.KEY_CMD_STAT_OP, F.KEY_CMD_STAT_STATUS] s t ∧ MemKept s t) ∧
    (s.lc = lcProvisioned ∨ s.lc = lcFielded → ∃ t, exec (.keyReturn req 0x4B45) s = .next t ∧ t.lc = lcReturned ∧
      t.key.root = none ∧ t.rootPresent = false ∧ t.rd F.SLOT_STATUS_HOLD_A = 0 ∧ t.rd F.SLOT_STATUS_HOLD_B = 0 ∧
      t.rd F.KEY_CMD_STAT_STATUS = stOK ∧ MemKept s t) ∧
    (s.lc ≠ lcScrapped → ∃ t, exec (.keyScrap req 0x4B45) s = .next t ∧ t.lc = lcScrapped ∧ t.key.root = none ∧
      t.key.derived = [] ∧ t.rootPresent = false ∧ (∀ k, k < 64 → t.rd (F.KEY_SLOT_STAT_STATE k) = 0) ∧
      t.rd F.KEY_CMD_STAT_OP = 4 ∧ t.rd F.KEY_CMD_STAT_STATUS = stOK ∧ MemKept s t) ∧
    (s.lc = lcBlank → ∃ t, exec (.keyProvision req 0x4B45) s = .next t ∧ t.key.stage = [] ∧ t.rd F.KEY_CMD_STAT_OP = 1 ∧
      MemKept s t ∧
      (match (if ofOctetsLE (((s.staged 948).drop 97).take 1) ≤ 8 then
          s.unwrapRoot ((s.staged 948).take (148 + 100 * ofOctetsLE (((s.staged 948).drop 97).take 1)))
          else none) with
        | some r => t.key.root = some r ∧ t.rootPresent = true ∧ t.lc = lcProvisioned ∧ t.rd F.KEY_CMD_STAT_STATUS = stOK
        | none => t.key.root = s.key.root ∧ t.lc = lcBlank ∧ t.rd F.KEY_CMD_STAT_STATUS = stBAD)) ∧
    (s.lc = lcBlank → s.isSet F.KEY_LC_DEBUG_OPEN = false →
      ∃ t, exec (.debugOpen req 0x4B45) s = .next t ∧ t.key.stage = [] ∧ t.rd F.KEY_CMD_STAT_OP = 5 ∧ MemKept s t ∧
        (match s.token.2.2 with
          | true => t.rd F.KEY_LC_DEBUG_OPEN = 1 ∧ t.rd F.KEY_LC_TEST_ROOT = 1 ∧ t.key.root = some Config.testRoot ∧
            t.key.debugEnd = some (s.opSec + s.token.2.1) ∧ t.rd F.KEY_CMD_STAT_STATUS = stOK
          | false => t.rd F.KEY_LC_DEBUG_OPEN = 0 ∧ t.key.root = s.key.root ∧ t.rd F.KEY_CMD_STAT_STATUS = stBAD)) ∧
    (s.isSet F.KEY_LC_DEBUG_OPEN = true → s.isSet F.KEY_LC_TEST_ROOT = true →
      ∃ t, exec (.debugClose req 0x4B45) s = .next t ∧ t.rd F.KEY_LC_DEBUG_OPEN = 0 ∧
      t.rd F.KEY_LC_TEST_ROOT = 0 ∧ t.key.root = none ∧ t.key.debugEnd = none ∧ t.rd F.KEY_CMD_STAT_STATUS = stOK ∧
      BlocksKept [bKEY] s t ∧ MemKept s t) ∧
    (s.lc = lcReturned → s.rd F.KEY_LC_REFURB < 3 → ∃ t, exec (.keyRefurbish req 0x4B45) s = .next t ∧ t.key.stage = [] ∧
      t.rd F.KEY_CMD_STAT_OP = 9 ∧ MemKept s t ∧
      (match decide (s.token.2.2 = true ∧ s.token.1 = 2) with
        | true => t.lc = lcBlank ∧ t.rd F.KEY_LC_REFURB = s.rd F.KEY_LC_REFURB + 1 ∧ t.rd F.KEY_CMD_STAT_STATUS = stOK
        | false => t.lc = lcReturned ∧ t.rd F.KEY_CMD_STAT_STATUS = stBAD)) ∧
    (∀ k : Fin 64, s.slotKind k = 2 → s.rd (F.KEY_SLOT_STAT_STATE k) = 1 →
      ∃ t, exec (.keyReplace req 0x4B45 k) s = .next t ∧ t.rd (F.KEY_SLOT_STAT_STATE k) = 2 ∧
        t.key.replaces.find k.val = some ⟨bits (s.rd (F.KEY_SLOT_CFG_CTX k)) 0 1, false, false⟩ ∧
        t.rd (F.KEY_CNT_COUNT 0) = (s.rd (F.KEY_CNT_COUNT 0) + 1) % 2 ^ 32 ∧ t.rd F.KEY_CMD_STAT_OP = 7 ∧
        t.rd F.KEY_CMD_STAT_STATUS = stOK) ∧
    (∀ k : Fin 64, s.slotKind k ≠ 2 ∨ s.rd (F.KEY_SLOT_STAT_STATE k) ≠ 1 →
      ∃ t, exec (.keyReplace req 0x4B45 k) s = .next t ∧ t.rd F.KEY_CMD_STAT_OP = 7 ∧ t.rd F.KEY_CMD_STAT_STATUS = stBAD ∧
        t.key = s.key ∧ RegsKept [F.KEY_CMD_STAT_OP, F.KEY_CMD_STAT_STATUS] s t ∧ MemKept s t) ∧
    (∀ (k : Fin 64) (n : Nat), s.nextSlot k = some n → ∃ t, exec (.keyMove req 0x4B45 k) s = .next t ∧
      t.rd F.KEY_CMD_STAT_OP = 8 ∧ t.rd F.KEY_CMD_STAT_STATUS = stOK ∧
      (∀ e, e ∈ s.nodeSlots → s.ndLive e = true → s.keyData e = k → (t.key.moves.find e).isSome) ∧
      RegsKept [F.KEY_CMD_STAT_OP, F.KEY_CMD_STAT_STATUS] s t ∧ MemKept s t) ∧
    (∀ d : BitVec 32, ∃ t, exec (.keyStageData req d) s = .next t ∧
      t.key.stage.find (s.rd F.KEY_STAGE_PTR_OFFSET) = some d.toNat ∧
      t.rd F.KEY_STAGE_PTR_OFFSET = (s.rd F.KEY_STAGE_PTR_OFFSET + 4) % 2 ^ 10 ∧ RegsKept [F.KEY_STAGE_PTR_OFFSET] s t ∧
      MemKept s t)) ∧
  (∀ (end_ : Nat) (s : State), s.key.debugEnd = some end_ → s.isSet F.KEY_LC_DEBUG_OPEN = true →
      s.isSet F.KEY_LC_TEST_ROOT = true → end_ ≤ s.opSec →
    ∃ t, exec .debugExpiry s = .next t ∧ t.rd F.KEY_LC_DEBUG_OPEN = 0 ∧ t.rd F.KEY_LC_TEST_ROOT = 0 ∧ t.key.root = none ∧
      BlocksKept [bKEY] s t ∧ MemKept s t) ∧
  (∀ (x : Fin 2) (pos : Fin 64) (gen : BitVec 16) (kcv : BitVec 64) (k : Nat) (r : KeyReplace) (s : State),
      s.key.replaces.find? (fun e => e.2.path == x.val) = some (k, r) →
      gen.toNat = (s.rd (F.KEY_SLOT_STAT_GEN k) + 1) % 65536 →
      kcv.toNat = s.kcvOf k gen.toNat →
    ∃ t, exec (.keyCheckReceived x pos gen kcv) s = .next t ∧
      t.key.replaces.find k = some { r with
        east := r.east || s.rd (F.RING_PORT_STAT_NEIGHBOUR x 0) == pos,
        west := r.west || s.rd (F.RING_PORT_STAT_NEIGHBOUR x 1) == pos } ∧
      RegsKept [F.KEY_CNT_COUNT 1] s t ∧ MemKept s t) ∧
  (∀ (k : Fin 64) (n : Nat) (r : KeyReplace) (s : State), s.key.replaces.find k.val = some r →
    (1000 ≤ n → ∃ t, exec (.keyCheckResend k n) s = .next t ∧ t.key = s.key ∧ t.peg = (s.sendChecks k r).peg ∧
      MemKept (s.sendChecks k r) t) ∧
    (r.east = true → r.west = true → s.nextProven r.path = true → ∃ t, exec (.replaceComplete k) s = .next t ∧
      t.rd (F.KEY_SLOT_STAT_GEN k) = (s.rd (F.KEY_SLOT_STAT_GEN k) + 1) % 2 ^ 16 ∧ t.rd (F.KEY_SLOT_STAT_STATE k) = 1 ∧
      t.key.replaces.find k.val = none ∧ RegsKept [F.KEY_SLOT_STAT_GEN k, F.KEY_SLOT_STAT_STATE k] s t ∧ MemKept s t) ∧
    (r.east = false ∨ r.west = false → 60 ≤ n → ∃ t v, exec (.replaceTimeout k n) s = .next t ∧
      t.rd (F.KEY_SLOT_STAT_STATE k) = 1 ∧ t.key.replaces.find k.val = none ∧
      t.rd (F.KEY_CNT_COUNT 2) = (s.rd (F.KEY_CNT_COUNT 2) + 1) % 2 ^ 32 ∧ t.evts.getLast? = some v ∧ v.cls = 0x00F0 ∧
      BlocksKept [bKEY, bHCP] s t ∧ MemKept s t)) ∧
  (∀ s : State, s.islandOn = true →
    (s.lc ≠ lcProvisioned → s.lc ≠ lcFielded → ∃ t, exec (.tamperEvent .lid) s = .next t ∧ t.rd F.KEY_TAMPER_LID = 1 ∧
      t.rd F.KEY_TAMPER_CNT_LID = satInc 255 (s.rd F.KEY_TAMPER_CNT_LID) % 2 ^ 8 ∧ t.key = s.key) ∧
    (s.lc = lcProvisioned ∨ s.lc = lcFielded → ∃ t, exec (.tamperEvent .mesh) s = .next t ∧ t.rd F.KEY_TAMPER_MESH = 1 ∧
      t.rd F.KEY_TAMPER_ZEROISED = 1 ∧ t.key.root = none ∧ t.key.derived = [] ∧ t.rootPresent = false ∧
      ∀ k, k < 64 → t.rd (F.KEY_SLOT_CFG_KIND k) = 0 ∧ t.rd (F.KEY_SLOT_STAT_STATE k) = 0))

/-! ## Restringing -/

/-- R465, R466, R469, R474, R479: ARM, DISARM, CONFIRM, VERIFY and ERASE of the inactive slot, each with its answer; the
activation that fires and the confirm window that closes are a module reset with cause 6. Whether a manifest verifies is a
function of its octets that stays open (log entry 4). -/
def Obligations.TrialCommands : Prop :=
  (∀ (req : Fin 36) (s : State), s.blockOn bRESTR = true → s.flashOn = true → s.restr.hdrs.length = 2 →
      s.restr.running ≤ 1 →
    ((s.hdr s.inactive).state = 2 ∨ (s.hdr s.inactive).state = 7 ∨ (s.hdr s.inactive).state = 8 →
      ∃ t, exec (.restrArm req 0x5253) s = .next t ∧ (t.hdr s.inactive).state = 3 ∧
        (t.hdr s.inactive).actSec = s.rd64 F.RESTR_ACT_TIME_LO_SEC F.RESTR_ACT_TIME_HI_SEC ∧
        t.rd (F.RESTR_SLOT_STAT_STATE s.inactive) = 3 ∧ t.rd F.RESTR_CMD_STAT_OP = 1 ∧
        t.rd F.RESTR_CMD_STAT_STATUS = stOK ∧ BlocksKept [bRESTR] s t ∧
        ∀ a, a < slotBase s.inactive ∨ slotBase s.inactive + 0x2000 ≤ a → t.rd8 a = s.rd8 a) ∧
    ((s.hdr s.inactive).state ≠ 2 → (s.hdr s.inactive).state ≠ 7 → (s.hdr s.inactive).state ≠ 8 →
      ∃ t, exec (.restrArm req 0x5253) s = .next t ∧ t.restr = s.restr ∧ t.rd F.RESTR_CMD_STAT_OP = 1 ∧
        t.rd F.RESTR_CMD_STAT_STATUS = stBAD ∧ RegsKept [F.RESTR_CMD_STAT_OP, F.RESTR_CMD_STAT_STATUS] s t ∧
        MemKept s t) ∧
    ((s.hdr s.inactive).state = 3 → ∃ t, exec (.restrDisarm req 0x5253) s = .next t ∧ (t.hdr s.inactive).state = 2 ∧
      t.rd F.RESTR_CMD_STAT_OP = 2 ∧ t.rd F.RESTR_CMD_STAT_STATUS = stOK ∧ BlocksKept [bRESTR] s t ∧
      ∀ a, a < slotBase s.inactive ∨ slotBase s.inactive + 0x2000 ≤ a → t.rd8 a = s.rd8 a) ∧
    (∀ c, (s.hdr s.restr.running).state = 4 → s.confirmedSlot = some c →
      ∃ t, exec (.restrConfirm req 0x5253) s = .next t ∧ (t.hdr s.restr.running).state = 5 ∧
        (t.hdr s.restr.running).gen = (s.hdr c).gen + 1 ∧ (t.hdr c).state = 6 ∧ t.restr.window = none ∧
        t.rd F.RESTR_CONFIRM_LEFT_MIN = 0 ∧ t.rd F.RESTR_CMD_STAT_OP = 3 ∧ t.rd F.RESTR_CMD_STAT_STATUS = stOK ∧
        BlocksKept [bRESTR] s t) ∧
    ((s.hdr s.restr.running).state ≠ 4 → ∃ t, exec (.restrConfirm req 0x5253) s = .next t ∧ t.restr = s.restr ∧
      t.rd F.RESTR_CMD_STAT_OP = 3 ∧ t.rd F.RESTR_CMD_STAT_STATUS = stBAD ∧ BlocksKept [bRESTR] s t ∧ MemKept s t) ∧
    (s.tgtState 0 = 1 ∨ s.tgtState 0 = 2 →
      ∃ t, exec (.restrVerify req 0x5253) s = .next t ∧ t.rd F.RESTR_CMD_STAT_OP = 4 ∧
        (match manifestOk (s.manifest 0) && s.allBlocksOk with
          | true => t.rd F.RESTR_CMD_STAT_STATUS = stOK ∧ (t.tgt 0).ok = true ∧ (t.tgt 0).imageId = mf (s.manifest 0) 8 4 ∧
            (t.tgt 0).blocks = 2 ^ mf (s.manifest 0) 6 2 - 1
          | false => t.rd F.RESTR_CMD_STAT_STATUS = stBAD ∧ t.restr.targets = s.restr.targets ∧ t.tgtState 0 = 1) ∧
        BlocksKept [bRESTR] s t) ∧
    ((s.hdr s.inactive).state ≠ 5 → ∃ t, exec (.restrErase req 0x5253) s = .next t ∧ (t.hdr s.inactive).state = 0 ∧
      t.tgt 0 = { FeedTarget.empty with forwarded := (s.tgt 0).forwarded } ∧
      (∀ a, slotBase s.inactive + 0x2000 ≤ a → a < slotBase s.inactive + 0x08000000 → t.rd8 a = 0xFF) ∧
      (∀ a, a < slotBase s.inactive ∨ slotBase s.inactive + 0x08000000 ≤ a → t.rd8 a = s.rd8 a) ∧
      t.rd F.RESTR_CMD_STAT_OP = 5 ∧ t.rd F.RESTR_CMD_STAT_STATUS = stOK ∧ BlocksKept [bRESTR] s t) ∧
    ((s.hdr s.inactive).state = 5 → ∃ t, exec (.restrErase req 0x5253) s = .next t ∧ t.restr = s.restr ∧
      t.rd F.RESTR_CMD_STAT_OP = 5 ∧ t.rd F.RESTR_CMD_STAT_STATUS = stBAD ∧ BlocksKept [bRESTR] s t ∧ MemKept s t)) ∧
  (∀ s : State, s.activationDue = true → ∃ t, exec .activation s = .next t ∧ t.mode = 0 ∧ t.slot.released = true ∧
    t.rd F.SYS_RESET_CAUSE_CAUSE = 6 ∧ ∀ d, d < 50 → t.isOn d = false) ∧
  (∀ (n o m : Nat) (s : State), s.restr.window = some (o, m) → (s.hdr s.restr.running).state = 4 →
    (m ≤ n → ∃ t, exec (.confirmWindowClose n) s = .next t ∧ t.mode = 0 ∧
      t.rd F.SYS_RESET_CAUSE_CAUSE = 6 ∧ ∀ d, d < 50 → t.isOn d = false) ∧
    (n < m → ∃ t, exec (.confirmWindowClose n) s = .next t ∧ t.restr = s.restr ∧
      RegsKept [] s t ∧ MemKept s t))

/-- R469 to R472: a feed begins or is refused; its words gather until the block ends, a node image's manifest block is
stored as it verifies, and a flash that fails three times ends the block BAD; a fragment is sent on or assembled; a WANT is
served, and sent; a partial block is discarded after 10 s. -/
def Obligations.FeedCommands : Prop :=
  (∀ (req : Fin 36) (k : Fin 32) (b : BitVec 16) (s : State), s.blockOn bRESTR = true → k.val ≤ 16 →
    (s.feedAllowed k = true → ∃ t, exec (.restrFeedCtrl req k b) s = .next t ∧
      t.restr = { s.restr with feed := some ⟨k, b.toNat, []⟩ } ∧ t.rd F.RESTR_FEED_STAT_OCTETS = 0 ∧
      t.rd F.RESTR_FEED_STAT_STATUS = stOK ∧ RegsKept [F.RESTR_FEED_STAT_OCTETS, F.RESTR_FEED_STAT_STATUS] s t ∧
      MemKept s t) ∧
    (s.feedAllowed k = false → ∃ t, exec (.restrFeedCtrl req k b) s = .next t ∧
      t.restr = { s.restr with feed := none } ∧ t.rd F.RESTR_FEED_STAT_OCTETS = 0 ∧
      t.rd F.RESTR_FEED_STAT_STATUS = stBAD ∧ RegsKept [F.RESTR_FEED_STAT_OCTETS, F.RESTR_FEED_STAT_STATUS] s t ∧
      MemKept s t)) ∧
  (∀ (req : Fin 36) (d : BitVec 32) (f : Nat) (fd : Feed) (s : State), s.blockOn bRESTR = true → s.restr.feed = some fd →
    (fd.octets.length + 4 < s.blockLen fd.target fd.block →
      ∃ t, exec (.restrFeedData req d f) s = .next t ∧
        t.restr = { s.restr with feed := some { fd with octets := (octetsLE 4 d.toNat).reverse ++ fd.octets } } ∧
        t.rd F.RESTR_FEED_STAT_OCTETS = (fd.octets.length + 4) % 2 ^ 17 ∧ RegsKept [F.RESTR_FEED_STAT_OCTETS] s t ∧
        MemKept s t) ∧
    (s.blockLen fd.target fd.block ≤ fd.octets.length + 4 → s.flashOn = true → 3 ≤ f →
      ∃ t v, exec (.restrFeedData req d f) s = .next t ∧ t.restr = { s.restr with feed := none } ∧
        t.rd F.RESTR_FEED_STAT_STATUS = stBAD ∧ t.evts.getLast? = some v ∧ v.cls = 0x00F0 ∧
        BlocksKept [bRESTR, bHCP] s t ∧ MemKept s t) ∧
    (∀ (k : Nat) (l : List Byte), fd.target = k + 1 → fd.block = 0xFFFF → 65536 ≤ fd.octets.length + 4 →
        s.flashOn = true → f < 3 → (fd.octets.reverse ++ octetsLE 4 d.toNat).take 65536 = l →
      ∃ t, exec (.restrFeedData req d f) s = .next t ∧ t.restr.feed = none ∧
        (match s.nimgVerifies l with
          | true => t.rd F.RESTR_FEED_STAT_STATUS = stOK ∧ (t.tgt (k + 1)).ok = true ∧
            (t.tgt (k + 1)).imageId = Config.nimgId l
          | false => t.rd F.RESTR_FEED_STAT_STATUS = stBAD ∧ t.restr.targets = s.restr.targets))) ∧
  (∀ (src : BitVec 14) (k : Fin 17) (b : BitVec 16) (id : BitVec 32) (i : Fin 8) (l : List Byte) (f : Nat) (s : State),
      s.isOn 44 = true →
    (∀ d, s.fragWanted k id.toNat = false → s.nextMember = some d → d ≠ src.toNat →
      ∃ t, exec (.restrFragment src k b id i l f) s = .next t ∧ t.restr = s.restr ∧
        t.peg = (s.sendFragment d k b.toNat id.toNat i l).peg ∧ MemKept (s.sendFragment d k b.toNat id.toNat i l) t) ∧
    (s.tgtState k = 1 → (s.tgt k).imageId = id.toNat → (s.tgt k).ok = true → b.toNat < 0xFFFE →
        s.hasBlock k b.toNat = false → (s.tgt k).partials.any (fun p => p.block == b.toNat) = false →
        (s.tgt k).partials.length < 4 → l.length < s.blockLen k b.toNat →
      ∃ t, exec (.restrFragment src k b id i l f) s = .next t ∧
        t.tgt k = { s.tgt k with partials := (s.tgt k).partials ++ [⟨b.toNat, [(i.val, l)]⟩] } ∧ t.peg = s.peg ∧
        RegsKept [] s t ∧ MemKept s t)) ∧
  (∀ (src : BitVec 14) (k : Fin 17) (b : BitVec 16) (id : BitVec 32) (s : State), s.isOn 44 = true → k.val ≠ 0 →
      (s.tgt k).state = 2 → (s.tgt k).imageId = id.toNat → s.hasBlock k b.toNat = true →
    ∃ t, exec (.restrWant src k id [b]) s = .next t ∧ t.restr = s.restr ∧
      t.peg = (s.sendBlock src.toNat k b.toNat id.toNat
        (s.mem.readN (s.blockAddr k b.toNat) (s.blockLen k b.toNat))).peg) ∧
  (∀ (k : Fin 17) (n d : Nat) (s : State), s.isOn 44 = true → s.prevMember = some d → s.tgtState k = 1 → 2000 ≤ n →
      s.missing k ≠ [] →
    ∃ t f, exec (.restrWantSend k n) s = .next t ∧ t.restr = s.restr ∧
      t.peg = (s.pegPut 31 1046531 false (ringOctets f)).2.peg ∧ f.dst = .ofNat 14 d ∧
      f.payload.take 12 = o1 0x71 ++ o1 k ++ octetsBE 2 0 ++ octetsBE 4 (s.tgt k).imageId ++ o1 (s.missing k).length ++
        octetsBE 3 0) ∧
  (∀ (k : Fin 17) (b : BitVec 16) (n : Nat) (s : State),
    (10 ≤ n → ∃ t, exec (.partialBlockDiscard k b n) s = .next t ∧
      t.tgt k = { s.tgt k with partials := (s.tgt k).partials.filter (fun p => p.block != b.toNat) } ∧
      RegsKept [] s t ∧ MemKept s t) ∧
    (n < 10 → ∃ t, exec (.partialBlockDiscard k b n) s = .next t ∧ t.restr = s.restr ∧ RegsKept [] s t ∧ MemKept s t))

/-- R480 to R483: one distribution of a complete entry starts, is aborted, and goes through its rounds; a node's status
takes it off the missing; an entry that does not distribute is erased. -/
def Obligations.NodeImageCommands : Prop :=
  (∀ (req : Fin 36) (e : Fin 16) (n : BitVec 14) (s : State), s.blockOn bRESTR = true →
    (s.restr.dist = none → (s.tgt (e.val + 1)).state = 2 →
      ∃ t d, exec (.nimgStart req e n) s = .next t ∧ t.restr.dist = some d ∧ d.entry = e ∧ d.target = n.toNat ∧
        d.round = 0 ∧ t.nimgState e = 3) ∧
    (∀ d, s.restr.dist = some d → ∃ t, exec (.nimgStart req e n) s = .next t ∧ t.restr = s.restr ∧ RegsKept [] s t ∧
      MemKept s t) ∧
    (∀ d, s.restr.dist = some d → d.entry = e → ∃ t, exec (.nimgAbort req e) s = .next t ∧ t.restr.dist = none ∧
      t.nimgState e = 5 ∧ t.restr.distLast.find e = some (d.round, d.done.length) ∧ RegsKept [] s t ∧ MemKept s t) ∧
    (s.restr.dist = none → s.flashOn = true → ∃ t, exec (.nimgErase req e) s = .next t ∧ t.nimgState e = 0 ∧
      (∀ a, 0x90000000 + 0x04000000 * e.val ≤ a → a < 0x90000000 + 0x04000000 * (e.val + 1) → t.rd8 a = 0xFF) ∧
      (∀ a, a < 0x90000000 + 0x04000000 * e.val ∨ 0x90000000 + 0x04000000 * (e.val + 1) ≤ a → t.rd8 a = s.rd8 a) ∧
      RegsKept [] s t)) ∧
  (∀ (n : Nat) (d : Dist) (s : State), s.restr.dist = some d → d.toSend = [] → d.poll = false → 120 ≤ n →
    (d.missing.flatMap (fun e => e.2) = [] → ∃ t, exec (.distributionRoundEnd n) s = .next t ∧ t.restr.dist = none ∧
      t.nimgState d.entry = 4 ∧ t.restr.distLast.find d.entry = some (d.round + 1, d.done.length) ∧ RegsKept [] s t ∧
      MemKept s t) ∧
    (d.missing.flatMap (fun e => e.2) ≠ [] → d.round + 1 < 4 →
      ∃ t d', exec (.distributionRoundEnd n) s = .next t ∧ t.restr.dist = some d' ∧ d'.round = d.round + 1 ∧
        d'.missing = [])) ∧
  (∀ (node : BitVec 14) (id : BitVec 32) (h x : BitVec 16) (m : BitVec 256) (d : Dist) (s : State),
      s.restr.dist = some d → (s.tgt (d.entry + 1)).imageId = id.toNat →
    ∃ t, exec (.imgStatus node 2 id h x m) s = .next t ∧ t.restr = { s.restr with dist := some { d with
        missing := d.missing.erase node.toNat
        done := if d.done.contains node.toNat then d.done else d.done ++ [node.toNat] } } ∧
      RegsKept [] s t ∧ MemKept s t)

/-! ## The event recorder and the ledgers -/

/-- The recorder may write flash: PD44 is ON, the front is found, no stop forbids it, and it stands above the reserve. -/
def RecWrites (s : State) : Prop :=
  s.blockOn bREC = true ∧ s.isSet F.REC_STAT_READY = true ∧ s.slot.noFlashWrite = false ∧
  s.isSet F.REC_STAT_LOW = false ∧ s.isSet F.REC_STAT_FULL = false

/-- What sealing the live page of binding `k` without a failure leaves (R487, R493): the record in the block at the front,
its counts, and the page one sealed more. -/
def Sealed (k : Nat) (s t : State) : Prop :=
  t.rdMem (unitAddr (8 * s.recFront)) 2 = recMagic ∧
  t.rdMem (unitAddr (8 * s.recFront) + 4) 4 = s.rd F.REC_SEQ_NEXT % 2 ^ 32 ∧
  t.rdMem (unitAddr (8 * s.recFront) + 4092) 4 = recValid ∧
  t.rd F.REC_FREE_BLOCKS = (s.rd F.REC_FREE_BLOCKS - 1) % 2 ^ 17 ∧
  t.rd F.REC_SEQ_NEXT = (s.rd F.REC_SEQ_NEXT + 1) % 2 ^ 32 ∧
  t.rd (F.REC_CNT_COUNT 0) = (s.rd (F.REC_CNT_COUNT 0) + 1) % 2 ^ 32 ∧
  t.rd (F.REC_CNT_COUNT 1) = (s.rd (F.REC_CNT_COUNT 1) + 1) % 2 ^ 32 ∧
  t.rd (F.REC_BIND_STAT_PAGES k) = (s.rd (F.REC_BIND_STAT_PAGES k) + 1) % 2 ^ 16 ∧
  BlocksKept [bREC, bHCP] s t ∧
  ∀ a, (a < pageAddr k ∨ pageAddr k + 4096 ≤ a) →
    (a < unitAddr (8 * s.recFront) ∨ unitAddr (8 * s.recFront) + 4096 ≤ a) → t.rd8 a = s.rd8 a

/-- R489 to R496: a sample counts into its bin, or is missed; a snapshot trigger waits in the queue, or is dropped when 16
wait; a snapshot is written with VALID; a page is sealed at its period's end or by command. -/
def Obligations.RecorderWriting : Prop :=
  (∀ (k : Fin 16) (n : Nat) (s : State), s.isOn 44 = true → s.isSet (F.REC_BIND_STAT_LIVE k) = true →
      s.rd (F.REC_BIND_ARG_SAMPLE k) ≠ 0 → 100 * s.rd (F.REC_BIND_ARG_SAMPLE k) ≤ n → s.rd (F.REC_BIND_CFG_MODE k) = 0 →
    (s.quantity (s.rd (F.REC_BIND_CFG_CODE k)) (s.rd (F.REC_BIND_ARG_ARG k)) = none →
      ∃ t, exec (.recSample k n) s = .next t ∧
        t.rd (F.REC_CNT_COUNT 14) = (s.rd (F.REC_CNT_COUNT 14) + 1) % 2 ^ 32 ∧ RegsKept [F.REC_CNT_COUNT 14] s t ∧
        MemKept s t) ∧
    (∀ (v : Int) (i : Nat), s.quantity (s.rd (F.REC_BIND_CFG_CODE k)) (s.rd (F.REC_BIND_ARG_ARG k)) = some v →
        binOf v (toSigned 32 (s.rdMem (pageAddr k + 40) 4)) (s.rdMem (pageAddr k + 44) 2) (s.rdMem (pageAddr k + 46) 2) = i →
        s.rdMem (pageAddr k + 128 + 4 * i) 4 ≠ 0xFFFFFFFF →
      ∃ t, exec (.recSample k n) s = .next t ∧
        t.rdMem (pageAddr k + 128 + 4 * i) 4 = s.rdMem (pageAddr k + 128 + 4 * i) 4 + 1 ∧
        t.rdMem (pageAddr k + 64) 8 = (s.rdMem (pageAddr k + 64) 8 + 1) % 2 ^ 64 ∧
        t.rdMem (pageAddr k + 32) 4 = (s.rdMem (pageAddr k + 32) 4 + 2) % 2 ^ 32 ∧ RegsKept [] s t ∧
        ∀ a, (a < pageAddr k + 128 + 4 * i ∨ pageAddr k + 132 + 4 * i ≤ a) →
          (a < pageAddr k + 64 ∨ pageAddr k + 72 ≤ a) → (a < pageAddr k + 32 ∨ pageAddr k + 36 ≤ a) →
            t.rd8 a = s.rd8 a)) ∧
  (∀ (c : BitVec 16) (v : BitVec 32) (l : List Byte) (s : State), s.isOn 44 = true →
      s.isSet F.REC_STAT_READY = true → s.isSet F.REC_STAT_FULL = false → 2 ≤ c.toNat → c.toNat ≤ 6 →
    (s.recd.queue.length < 16 → ∃ t, exec (.recTrigger c v l) s = .next t ∧
      t.recd.queue = s.recd.queue ++
        [⟨c.toNat, toSigned 32 v.toNat, l.take 24, s.opSec, s.rd F.PWR_CYCLES_COUNT, s.snapRegs⟩] ∧
      RegsKept [] s t ∧ MemKept s t) ∧
    (16 ≤ s.recd.queue.length → ∃ t, exec (.recTrigger c v l) s = .next t ∧ t.recd = s.recd ∧
      t.rd (F.REC_CNT_COUNT 5) = (s.rd (F.REC_CNT_COUNT 5) + 1) % 2 ^ 32 ∧ RegsKept [F.REC_CNT_COUNT 5] s t ∧
      MemKept s t)) ∧
  (∀ (n : Snap) (rest : List Snap) (u : Nat) (s : State), RecWrites s → s.recd.queue = n :: rest →
      s.isSet F.REC_SNAP_POS_OPEN = true → 8 * s.rd F.REC_SNAP_POS_BLOCK + s.rd F.REC_SNAP_POS_SLOTS = u →
    ∃ t, exec (.snapshotWrite 0) s = .next t ∧ t.recd.queue = rest ∧
      t.mem.readN (unitAddr u) 512 =
        recOctets 3 (s.rd F.REC_SEQ_NEXT) n.opSec n.cycles 512 n.code n.body ++ octetsLE 4 recValid ∧
      (∀ a, a < unitAddr u ∨ unitAddr u + 512 ≤ a → t.rd8 a = s.rd8 a) ∧
      t.rd F.REC_SEQ_NEXT = (s.rd F.REC_SEQ_NEXT + 1) % 2 ^ 32 ∧
      t.rd (F.REC_CNT_COUNT 0) = (s.rd (F.REC_CNT_COUNT 0) + 1) % 2 ^ 32 ∧
      t.rd (F.REC_CNT_COUNT 2) = (s.rd (F.REC_CNT_COUNT 2) + 1) % 2 ^ 32 ∧
      (s.rd F.REC_SNAP_POS_SLOTS = 7 → t.rd F.REC_SNAP_POS_OPEN = 0 ∧ t.rd F.REC_SNAP_POS_SLOTS = 0) ∧
      (s.rd F.REC_SNAP_POS_SLOTS < 7 → t.rd F.REC_SNAP_POS_OPEN = s.rd F.REC_SNAP_POS_OPEN ∧
        t.rd F.REC_SNAP_POS_SLOTS = s.rd F.REC_SNAP_POS_SLOTS + 1) ∧
      BlocksKept [bREC, bHCP] s t) ∧
  (∀ (k : Fin 16) (s : State), RecWrites s → s.pendingIn bREC = false → s.isSet (F.REC_BIND_STAT_LIVE k) = true →
    (s.rd (F.REC_BIND_CFG_PERIOD_H k) ≠ 0 →
        s.rdMem (pageAddr k + 52) 8 + 3600 * s.rd (F.REC_BIND_CFG_PERIOD_H k) ≤ s.opSec →
      ∃ t, exec (.pageSeal k 0) s = .next t ∧ Sealed k s t) ∧
    (s.opSec < s.rdMem (pageAddr k + 52) 8 + 3600 * s.rd (F.REC_BIND_CFG_PERIOD_H k) →
      ∃ t, exec (.pageSeal k 0) s = .next t ∧ RegsKept [] s t ∧ MemKept s t) ∧
    (∀ req : Fin 36, ∃ t, exec (.recSeal req k) s = .next t ∧ Sealed k s t) ∧
    (∀ req : Fin 36, (∀ j : Fin 16, j ≠ k → s.isSet (F.REC_BIND_STAT_LIVE j) = false) →
      ∃ t, exec (.recSealAll req) s = .next t ∧ Sealed k s t))

/-- R500, R504, R506: a fetch of a live page or of a good record fills the session's buffer; one that finds none is BAD; from a
Fretboard source it has no effect. A snapshot of a ledger is started and clears DONE; once its block has counted it, its
words are copied for the requester; a check sets each ledger's BAL to whether its equation holds. -/
def Obligations.FetchAndLedgerCommands : Prop :=
  (∀ (req : Fin 36) (k : Fin 16) (u : BitVec 19) (s : State), s.allOn [44, 47, 49] = true →
      (req.val < 32 → ∀ live, ∃ t, exec (.recFetch req live k u) s = .next t ∧ t.reqRegs = s.reqRegs ∧ RegsKept [] s t ∧
        MemKept s t) ∧
      (32 ≤ req.val →
        (s.isSet (F.REC_BIND_STAT_LIVE k) = true → ∃ t, exec (.recFetch req true k u) s = .next t ∧
          t.mem.readN (0x00790000 + 0x1000 * (req.val - 32)) 4096 = s.mem.readN (pageAddr k) 4096 ∧
          (∀ a, a < 0x00790000 + 0x1000 * (req.val - 32) ∨ 0x00791000 + 0x1000 * (req.val - 32) ≤ a →
            t.rd8 a = s.rd8 a) ∧
          t.rdReq req F.REC_FETCH_STAT_STATUS = stOK ∧
          t.rd (F.REC_CNT_COUNT 11) = (s.rd (F.REC_CNT_COUNT 11) + 1) % 2 ^ 32 ∧ RegsKept [F.REC_CNT_COUNT 11] s t) ∧
        (s.isSet (F.REC_BIND_STAT_LIVE k) = false → ∃ t, exec (.recFetch req true k u) s = .next t ∧
          t.rdReq req F.REC_FETCH_STAT_STATUS = stBAD ∧ RegsKept [F.REC_CNT_COUNT 11] s t ∧ MemKept s t) ∧
        (8 * s.recFront ≤ u.toNat → ∃ t, exec (.recFetch req false k u) s = .next t ∧
          t.rdReq req F.REC_FETCH_STAT_STATUS = stBAD ∧
          t.rdReq req F.REC_FETCH_STAT_NEXT_UNIT = 8 * (u.toNat / 8 + 1) % 2 ^ 19 ∧ RegsKept [F.REC_CNT_COUNT 11] s t ∧
          MemKept s t) ∧
        (∀ len, u.toNat < 8 * s.recFront → s.unitErased u.toNat = false → s.recLen u.toNat = some len →
            s.recMarked u.toNat len = true → s.recCrcOk u.toNat len = true →
          ∃ t, exec (.recFetch req false k u) s = .next t ∧
            t.mem.readN (0x00790000 + 0x1000 * (req.val - 32)) len = s.mem.readN (unitAddr u.toNat) len ∧
            (∀ a, a < 0x00790000 + 0x1000 * (req.val - 32) ∨ 0x00791000 + 0x1000 * (req.val - 32) ≤ a →
              t.rd8 a = s.rd8 a) ∧
            t.rdReq req F.REC_FETCH_STAT_STATUS = stOK ∧
            t.rdReq req F.REC_FETCH_STAT_KIND = s.rdMem (unitAddr u.toNat + 2) 1 % 4 ∧
            RegsKept [F.REC_CNT_COUNT 11] s t))) ∧
  (∀ (req : Fin 36) (i : Fin 7) (m : BitVec 7) (s : State), s.isOn 49 = true → s.blockOn (ledgerBlock i) = true →
      m.toNat = 2 ^ i.val →
    ∃ t, exec (.ledgerSnap req m) s = .next t ∧ t.ledgerDue.find (8 * req.val + i.val) = some (s.rd (ledgerCnt i)) ∧
      t.rdReq req F.LEDGER_STAT_DONE = 0 ∧ MemKept s t) ∧
  (∀ (req : Fin 36) (i : Fin 7) (n : Nat) (s : State), s.isOn 49 = true → s.blockOn (ledgerBlock i) = true →
      s.ledgerDue.find (8 * req.val + i.val) = some n → s.rd (ledgerCnt i) ≠ n →
    ∃ t, exec (.ledgerCopy req i) s = .next t ∧
      (∀ j, j < (s.ledgerWords req i).2.length →
        t.rdReq req (F.LEDGER_TERM_WORD ((s.ledgerWords req i).1 + j)) = (s.ledgerWords req i).2.getD j 0 % 2 ^ 32) ∧
      bitAt (t.rdReq req F.LEDGER_STAT_DONE) i = true ∧ t.ledgerDue.find (8 * req.val + i.val) = none ∧
      RegsKept [] s t ∧ MemKept s t) ∧
  (∀ (req : Fin 36) (i : Fin 7) (s : State), s.ledgerDue.find (8 * req.val + i.val) = some (s.rd (ledgerCnt i)) →
    ∃ t, exec (.ledgerCopy req i) s = .next t ∧ t.reqRegs = s.reqRegs ∧ t.ledgerDue = s.ledgerDue ∧ RegsKept [] s t ∧
      MemKept s t) ∧
  (∀ (n : Nat) (s : State), s.allOn [0, 49] = true → s.rd F.LEDGER_CHECK_CFG_CHECK_S ≠ 0 →
    (s.rd F.LEDGER_CHECK_CFG_CHECK_S ≤ n → ∃ t, exec (.ledgerCheck n) s = .next t ∧
      (∀ i, i < 7 → s.blockOn (ledgerBlock i) = true → bitAt (t.rd F.LEDGER_STAT_BAL) i = s.ledgerOk i) ∧
      BlocksKept [bLEDGER, bHCP] s t ∧ MemKept s t) ∧
    (n < s.rd F.LEDGER_CHECK_CFG_CHECK_S → ∃ t, exec (.ledgerCheck n) s = .next t ∧ RegsKept [] s t ∧ MemKept s t))
end

