-- ==== Sys2Proof/Laws/State.lean ====
section
/-!
SUPPORT. Laws/State.lean: what each named update of State leaves as it was, field by field, and what it sets.
-/
namespace Sys2Proof.Machine

@[simp] theorem State.wr_pending (s : State) (f : Fld) (v : Nat) : (s.wr f v).pending = s.pending := rfl
@[simp] theorem State.wr_shadow (s : State) (f : Fld) (v : Nat) : (s.wr f v).shadow = s.shadow := rfl
@[simp] theorem State.wr_reqRegs (s : State) (f : Fld) (v : Nat) : (s.wr f v).reqRegs = s.reqRegs := rfl
@[simp] theorem State.wr_latches (s : State) (f : Fld) (v : Nat) : (s.wr f v).latches = s.latches := rfl
@[simp] theorem State.wr_pRec (s : State) (f : Fld) (v : Nat) : (s.wr f v).pRec = s.pRec := rfl
@[simp] theorem State.wr_mem (s : State) (f : Fld) (v : Nat) : (s.wr f v).mem = s.mem := rfl
@[simp] theorem State.wr_lanes (s : State) (f : Fld) (v : Nat) : (s.wr f v).lanes = s.lanes := rfl
@[simp] theorem State.wr_out (s : State) (f : Fld) (v : Nat) : (s.wr f v).out = s.out := rfl
@[simp] theorem State.wr_freeCtr (s : State) (f : Fld) (v : Nat) : (s.wr f v).freeCtr = s.freeCtr := rfl
@[simp] theorem State.wr_evts (s : State) (f : Fld) (v : Nat) : (s.wr f v).evts = s.evts := rfl
@[simp] theorem State.wr_evtSeq (s : State) (f : Fld) (v : Nat) : (s.wr f v).evtSeq = s.evtSeq := rfl
@[simp] theorem State.wr_evtLost (s : State) (f : Fld) (v : Nat) : (s.wr f v).evtLost = s.evtLost := rfl
@[simp] theorem State.wr_io (s : State) (f : Fld) (v : Nat) : (s.wr f v).io = s.io := rfl
@[simp] theorem State.wr_peg (s : State) (f : Fld) (v : Nat) : (s.wr f v).peg = s.peg := rfl
@[simp] theorem State.wr_recd (s : State) (f : Fld) (v : Nat) : (s.wr f v).recd = s.recd := rfl
@[simp] theorem State.wr_slot (s : State) (f : Fld) (v : Nat) : (s.wr f v).slot = s.slot := rfl
@[simp] theorem State.wr_sys (s : State) (f : Fld) (v : Nat) : (s.wr f v).sys = s.sys := rfl
@[simp] theorem State.wr_time (s : State) (f : Fld) (v : Nat) : (s.wr f v).time = s.time := rfl
@[simp] theorem State.wr_ring (s : State) (f : Fld) (v : Nat) : (s.wr f v).ring = s.ring := rfl
@[simp] theorem State.wr_key (s : State) (f : Fld) (v : Nat) : (s.wr f v).key = s.key := rfl
@[simp] theorem State.wr_restr (s : State) (f : Fld) (v : Nat) : (s.wr f v).restr = s.restr := rfl
@[simp] theorem State.wr_field (s : State) (f : Fld) (v : Nat) : (s.wr f v).field = s.field := rfl
@[simp] theorem State.wr_jrn (s : State) (f : Fld) (v : Nat) : (s.wr f v).jrn = s.jrn := rfl
@[simp] theorem State.wr_cal (s : State) (f : Fld) (v : Nat) : (s.wr f v).cal = s.cal := rfl
@[simp] theorem State.wr_sym (s : State) (f : Fld) (v : Nat) : (s.wr f v).sym = s.sym := rfl
@[simp] theorem State.wr_gauge (s : State) (f : Fld) (v : Nat) : (s.wr f v).gauge = s.gauge := rfl
@[simp] theorem State.wr_sound (s : State) (f : Fld) (v : Nat) : (s.wr f v).sound = s.sound := rfl
@[simp] theorem State.wr_scan (s : State) (f : Fld) (v : Nat) : (s.wr f v).scan = s.scan := rfl
@[simp] theorem State.wr_lamp (s : State) (f : Fld) (v : Nat) : (s.wr f v).lamp = s.lamp := rfl
@[simp] theorem State.wr_hcp (s : State) (f : Fld) (v : Nat) : (s.wr f v).hcp = s.hcp := rfl
@[simp] theorem State.wr_mover (s : State) (f : Fld) (v : Nat) : (s.wr f v).mover = s.mover := rfl
@[simp] theorem State.wr_mvTurn (s : State) (f : Fld) (v : Nat) : (s.wr f v).mvTurn = s.mvTurn := rfl
@[simp] theorem State.wr_ledgerDue (s : State) (f : Fld) (v : Nat) : (s.wr f v).ledgerDue = s.ledgerDue := rfl

@[simp] theorem State.wrReq_pending (s : State) (r : Nat) (f : Fld) (v : Nat) : (s.wrReq r f v).pending = s.pending := rfl
@[simp] theorem State.wrReq_regs (s : State) (r : Nat) (f : Fld) (v : Nat) : (s.wrReq r f v).regs = s.regs := rfl
@[simp] theorem State.wrReq_shadow (s : State) (r : Nat) (f : Fld) (v : Nat) : (s.wrReq r f v).shadow = s.shadow := rfl
@[simp] theorem State.wrReq_latches (s : State) (r : Nat) (f : Fld) (v : Nat) : (s.wrReq r f v).latches = s.latches := rfl
@[simp] theorem State.wrReq_pRec (s : State) (r : Nat) (f : Fld) (v : Nat) : (s.wrReq r f v).pRec = s.pRec := rfl
@[simp] theorem State.wrReq_mem (s : State) (r : Nat) (f : Fld) (v : Nat) : (s.wrReq r f v).mem = s.mem := rfl
@[simp] theorem State.wrReq_lanes (s : State) (r : Nat) (f : Fld) (v : Nat) : (s.wrReq r f v).lanes = s.lanes := rfl
@[simp] theorem State.wrReq_out (s : State) (r : Nat) (f : Fld) (v : Nat) : (s.wrReq r f v).out = s.out := rfl
@[simp] theorem State.wrReq_freeCtr (s : State) (r : Nat) (f : Fld) (v : Nat) : (s.wrReq r f v).freeCtr = s.freeCtr := rfl
@[simp] theorem State.wrReq_evts (s : State) (r : Nat) (f : Fld) (v : Nat) : (s.wrReq r f v).evts = s.evts := rfl
@[simp] theorem State.wrReq_evtSeq (s : State) (r : Nat) (f : Fld) (v : Nat) : (s.wrReq r f v).evtSeq = s.evtSeq := rfl
@[simp] theorem State.wrReq_evtLost (s : State) (r : Nat) (f : Fld) (v : Nat) : (s.wrReq r f v).evtLost = s.evtLost := rfl
@[simp] theorem State.wrReq_io (s : State) (r : Nat) (f : Fld) (v : Nat) : (s.wrReq r f v).io = s.io := rfl
@[simp] theorem State.wrReq_peg (s : State) (r : Nat) (f : Fld) (v : Nat) : (s.wrReq r f v).peg = s.peg := rfl
@[simp] theorem State.wrReq_recd (s : State) (r : Nat) (f : Fld) (v : Nat) : (s.wrReq r f v).recd = s.recd := rfl
@[simp] theorem State.wrReq_slot (s : State) (r : Nat) (f : Fld) (v : Nat) : (s.wrReq r f v).slot = s.slot := rfl
@[simp] theorem State.wrReq_sys (s : State) (r : Nat) (f : Fld) (v : Nat) : (s.wrReq r f v).sys = s.sys := rfl
@[simp] theorem State.wrReq_time (s : State) (r : Nat) (f : Fld) (v : Nat) : (s.wrReq r f v).time = s.time := rfl
@[simp] theorem State.wrReq_ring (s : State) (r : Nat) (f : Fld) (v : Nat) : (s.wrReq r f v).ring = s.ring := rfl
@[simp] theorem State.wrReq_key (s : State) (r : Nat) (f : Fld) (v : Nat) : (s.wrReq r f v).key = s.key := rfl
@[simp] theorem State.wrReq_restr (s : State) (r : Nat) (f : Fld) (v : Nat) : (s.wrReq r f v).restr = s.restr := rfl
@[simp] theorem State.wrReq_field (s : State) (r : Nat) (f : Fld) (v : Nat) : (s.wrReq r f v).field = s.field := rfl
@[simp] theorem State.wrReq_jrn (s : State) (r : Nat) (f : Fld) (v : Nat) : (s.wrReq r f v).jrn = s.jrn := rfl
@[simp] theorem State.wrReq_cal (s : State) (r : Nat) (f : Fld) (v : Nat) : (s.wrReq r f v).cal = s.cal := rfl
@[simp] theorem State.wrReq_sym (s : State) (r : Nat) (f : Fld) (v : Nat) : (s.wrReq r f v).sym = s.sym := rfl
@[simp] theorem State.wrReq_gauge (s : State) (r : Nat) (f : Fld) (v : Nat) : (s.wrReq r f v).gauge = s.gauge := rfl
@[simp] theorem State.wrReq_sound (s : State) (r : Nat) (f : Fld) (v : Nat) : (s.wrReq r f v).sound = s.sound := rfl
@[simp] theorem State.wrReq_scan (s : State) (r : Nat) (f : Fld) (v : Nat) : (s.wrReq r f v).scan = s.scan := rfl
@[simp] theorem State.wrReq_lamp (s : State) (r : Nat) (f : Fld) (v : Nat) : (s.wrReq r f v).lamp = s.lamp := rfl
@[simp] theorem State.wrReq_hcp (s : State) (r : Nat) (f : Fld) (v : Nat) : (s.wrReq r f v).hcp = s.hcp := rfl
@[simp] theorem State.wrReq_mover (s : State) (r : Nat) (f : Fld) (v : Nat) : (s.wrReq r f v).mover = s.mover := rfl
@[simp] theorem State.wrReq_mvTurn (s : State) (r : Nat) (f : Fld) (v : Nat) : (s.wrReq r f v).mvTurn = s.mvTurn := rfl
@[simp] theorem State.wrReq_ledgerDue (s : State) (r : Nat) (f : Fld) (v : Nat) : (s.wrReq r f v).ledgerDue = s.ledgerDue := rfl

@[simp] theorem State.emit_pending (s : State) (o : Output) : (s.emit o).pending = s.pending := rfl
@[simp] theorem State.emit_regs (s : State) (o : Output) : (s.emit o).regs = s.regs := rfl
@[simp] theorem State.emit_shadow (s : State) (o : Output) : (s.emit o).shadow = s.shadow := rfl
@[simp] theorem State.emit_reqRegs (s : State) (o : Output) : (s.emit o).reqRegs = s.reqRegs := rfl
@[simp] theorem State.emit_latches (s : State) (o : Output) : (s.emit o).latches = s.latches := rfl
@[simp] theorem State.emit_pRec (s : State) (o : Output) : (s.emit o).pRec = s.pRec := rfl
@[simp] theorem State.emit_mem (s : State) (o : Output) : (s.emit o).mem = s.mem := rfl
@[simp] theorem State.emit_lanes (s : State) (o : Output) : (s.emit o).lanes = s.lanes := rfl
@[simp] theorem State.emit_freeCtr (s : State) (o : Output) : (s.emit o).freeCtr = s.freeCtr := rfl
@[simp] theorem State.emit_evts (s : State) (o : Output) : (s.emit o).evts = s.evts := rfl
@[simp] theorem State.emit_evtSeq (s : State) (o : Output) : (s.emit o).evtSeq = s.evtSeq := rfl
@[simp] theorem State.emit_evtLost (s : State) (o : Output) : (s.emit o).evtLost = s.evtLost := rfl
@[simp] theorem State.emit_io (s : State) (o : Output) : (s.emit o).io = s.io := rfl
@[simp] theorem State.emit_peg (s : State) (o : Output) : (s.emit o).peg = s.peg := rfl
@[simp] theorem State.emit_recd (s : State) (o : Output) : (s.emit o).recd = s.recd := rfl
@[simp] theorem State.emit_slot (s : State) (o : Output) : (s.emit o).slot = s.slot := rfl
@[simp] theorem State.emit_sys (s : State) (o : Output) : (s.emit o).sys = s.sys := rfl
@[simp] theorem State.emit_time (s : State) (o : Output) : (s.emit o).time = s.time := rfl
@[simp] theorem State.emit_ring (s : State) (o : Output) : (s.emit o).ring = s.ring := rfl
@[simp] theorem State.emit_key (s : State) (o : Output) : (s.emit o).key = s.key := rfl
@[simp] theorem State.emit_restr (s : State) (o : Output) : (s.emit o).restr = s.restr := rfl
@[simp] theorem State.emit_field (s : State) (o : Output) : (s.emit o).field = s.field := rfl
@[simp] theorem State.emit_jrn (s : State) (o : Output) : (s.emit o).jrn = s.jrn := rfl
@[simp] theorem State.emit_cal (s : State) (o : Output) : (s.emit o).cal = s.cal := rfl
@[simp] theorem State.emit_sym (s : State) (o : Output) : (s.emit o).sym = s.sym := rfl
@[simp] theorem State.emit_gauge (s : State) (o : Output) : (s.emit o).gauge = s.gauge := rfl
@[simp] theorem State.emit_sound (s : State) (o : Output) : (s.emit o).sound = s.sound := rfl
@[simp] theorem State.emit_scan (s : State) (o : Output) : (s.emit o).scan = s.scan := rfl
@[simp] theorem State.emit_lamp (s : State) (o : Output) : (s.emit o).lamp = s.lamp := rfl
@[simp] theorem State.emit_hcp (s : State) (o : Output) : (s.emit o).hcp = s.hcp := rfl
@[simp] theorem State.emit_mover (s : State) (o : Output) : (s.emit o).mover = s.mover := rfl
@[simp] theorem State.emit_mvTurn (s : State) (o : Output) : (s.emit o).mvTurn = s.mvTurn := rfl
@[simp] theorem State.emit_ledgerDue (s : State) (o : Output) : (s.emit o).ledgerDue = s.ledgerDue := rfl

@[simp] theorem State.wrMem_pending (s : State) (a n v : Nat) : (s.wrMem a n v).pending = s.pending := rfl
@[simp] theorem State.wrMem_regs (s : State) (a n v : Nat) : (s.wrMem a n v).regs = s.regs := rfl
@[simp] theorem State.wrMem_shadow (s : State) (a n v : Nat) : (s.wrMem a n v).shadow = s.shadow := rfl
@[simp] theorem State.wrMem_reqRegs (s : State) (a n v : Nat) : (s.wrMem a n v).reqRegs = s.reqRegs := rfl
@[simp] theorem State.wrMem_latches (s : State) (a n v : Nat) : (s.wrMem a n v).latches = s.latches := rfl
@[simp] theorem State.wrMem_pRec (s : State) (a n v : Nat) : (s.wrMem a n v).pRec = s.pRec := rfl
@[simp] theorem State.wrMem_lanes (s : State) (a n v : Nat) : (s.wrMem a n v).lanes = s.lanes := rfl
@[simp] theorem State.wrMem_out (s : State) (a n v : Nat) : (s.wrMem a n v).out = s.out := rfl
@[simp] theorem State.wrMem_freeCtr (s : State) (a n v : Nat) : (s.wrMem a n v).freeCtr = s.freeCtr := rfl
@[simp] theorem State.wrMem_evts (s : State) (a n v : Nat) : (s.wrMem a n v).evts = s.evts := rfl
@[simp] theorem State.wrMem_evtSeq (s : State) (a n v : Nat) : (s.wrMem a n v).evtSeq = s.evtSeq := rfl
@[simp] theorem State.wrMem_evtLost (s : State) (a n v : Nat) : (s.wrMem a n v).evtLost = s.evtLost := rfl
@[simp] theorem State.wrMem_io (s : State) (a n v : Nat) : (s.wrMem a n v).io = s.io := rfl
@[simp] theorem State.wrMem_peg (s : State) (a n v : Nat) : (s.wrMem a n v).peg = s.peg := rfl
@[simp] theorem State.wrMem_recd (s : State) (a n v : Nat) : (s.wrMem a n v).recd = s.recd := rfl
@[simp] theorem State.wrMem_slot (s : State) (a n v : Nat) : (s.wrMem a n v).slot = s.slot := rfl
@[simp] theorem State.wrMem_sys (s : State) (a n v : Nat) : (s.wrMem a n v).sys = s.sys := rfl
@[simp] theorem State.wrMem_time (s : State) (a n v : Nat) : (s.wrMem a n v).time = s.time := rfl
@[simp] theorem State.wrMem_ring (s : State) (a n v : Nat) : (s.wrMem a n v).ring = s.ring := rfl
@[simp] theorem State.wrMem_key (s : State) (a n v : Nat) : (s.wrMem a n v).key = s.key := rfl
@[simp] theorem State.wrMem_restr (s : State) (a n v : Nat) : (s.wrMem a n v).restr = s.restr := rfl
@[simp] theorem State.wrMem_field (s : State) (a n v : Nat) : (s.wrMem a n v).field = s.field := rfl
@[simp] theorem State.wrMem_jrn (s : State) (a n v : Nat) : (s.wrMem a n v).jrn = s.jrn := rfl
@[simp] theorem State.wrMem_cal (s : State) (a n v : Nat) : (s.wrMem a n v).cal = s.cal := rfl
@[simp] theorem State.wrMem_sym (s : State) (a n v : Nat) : (s.wrMem a n v).sym = s.sym := rfl
@[simp] theorem State.wrMem_gauge (s : State) (a n v : Nat) : (s.wrMem a n v).gauge = s.gauge := rfl
@[simp] theorem State.wrMem_sound (s : State) (a n v : Nat) : (s.wrMem a n v).sound = s.sound := rfl
@[simp] theorem State.wrMem_scan (s : State) (a n v : Nat) : (s.wrMem a n v).scan = s.scan := rfl
@[simp] theorem State.wrMem_lamp (s : State) (a n v : Nat) : (s.wrMem a n v).lamp = s.lamp := rfl
@[simp] theorem State.wrMem_hcp (s : State) (a n v : Nat) : (s.wrMem a n v).hcp = s.hcp := rfl
@[simp] theorem State.wrMem_mover (s : State) (a n v : Nat) : (s.wrMem a n v).mover = s.mover := rfl
@[simp] theorem State.wrMem_mvTurn (s : State) (a n v : Nat) : (s.wrMem a n v).mvTurn = s.mvTurn := rfl
@[simp] theorem State.wrMem_ledgerDue (s : State) (a n v : Nat) : (s.wrMem a n v).ledgerDue = s.ledgerDue := rfl

@[simp] theorem State.wrOctets_pending (s : State) (a : Nat) (l : List Byte) : (s.wrOctets a l).pending = s.pending := rfl
@[simp] theorem State.wrOctets_regs (s : State) (a : Nat) (l : List Byte) : (s.wrOctets a l).regs = s.regs := rfl
@[simp] theorem State.wrOctets_shadow (s : State) (a : Nat) (l : List Byte) : (s.wrOctets a l).shadow = s.shadow := rfl
@[simp] theorem State.wrOctets_reqRegs (s : State) (a : Nat) (l : List Byte) : (s.wrOctets a l).reqRegs = s.reqRegs := rfl
@[simp] theorem State.wrOctets_latches (s : State) (a : Nat) (l : List Byte) : (s.wrOctets a l).latches = s.latches := rfl
@[simp] theorem State.wrOctets_pRec (s : State) (a : Nat) (l : List Byte) : (s.wrOctets a l).pRec = s.pRec := rfl
@[simp] theorem State.wrOctets_lanes (s : State) (a : Nat) (l : List Byte) : (s.wrOctets a l).lanes = s.lanes := rfl
@[simp] theorem State.wrOctets_out (s : State) (a : Nat) (l : List Byte) : (s.wrOctets a l).out = s.out := rfl
@[simp] theorem State.wrOctets_freeCtr (s : State) (a : Nat) (l : List Byte) : (s.wrOctets a l).freeCtr = s.freeCtr := rfl
@[simp] theorem State.wrOctets_evts (s : State) (a : Nat) (l : List Byte) : (s.wrOctets a l).evts = s.evts := rfl
@[simp] theorem State.wrOctets_evtSeq (s : State) (a : Nat) (l : List Byte) : (s.wrOctets a l).evtSeq = s.evtSeq := rfl
@[simp] theorem State.wrOctets_evtLost (s : State) (a : Nat) (l : List Byte) : (s.wrOctets a l).evtLost = s.evtLost := rfl
@[simp] theorem State.wrOctets_io (s : State) (a : Nat) (l : List Byte) : (s.wrOctets a l).io = s.io := rfl
@[simp] theorem State.wrOctets_peg (s : State) (a : Nat) (l : List Byte) : (s.wrOctets a l).peg = s.peg := rfl
@[simp] theorem State.wrOctets_recd (s : State) (a : Nat) (l : List Byte) : (s.wrOctets a l).recd = s.recd := rfl
@[simp] theorem State.wrOctets_slot (s : State) (a : Nat) (l : List Byte) : (s.wrOctets a l).slot = s.slot := rfl
@[simp] theorem State.wrOctets_sys (s : State) (a : Nat) (l : List Byte) : (s.wrOctets a l).sys = s.sys := rfl
@[simp] theorem State.wrOctets_time (s : State) (a : Nat) (l : List Byte) : (s.wrOctets a l).time = s.time := rfl
@[simp] theorem State.wrOctets_ring (s : State) (a : Nat) (l : List Byte) : (s.wrOctets a l).ring = s.ring := rfl
@[simp] theorem State.wrOctets_key (s : State) (a : Nat) (l : List Byte) : (s.wrOctets a l).key = s.key := rfl
@[simp] theorem State.wrOctets_restr (s : State) (a : Nat) (l : List Byte) : (s.wrOctets a l).restr = s.restr := rfl
@[simp] theorem State.wrOctets_field (s : State) (a : Nat) (l : List Byte) : (s.wrOctets a l).field = s.field := rfl
@[simp] theorem State.wrOctets_jrn (s : State) (a : Nat) (l : List Byte) : (s.wrOctets a l).jrn = s.jrn := rfl
@[simp] theorem State.wrOctets_cal (s : State) (a : Nat) (l : List Byte) : (s.wrOctets a l).cal = s.cal := rfl
@[simp] theorem State.wrOctets_sym (s : State) (a : Nat) (l : List Byte) : (s.wrOctets a l).sym = s.sym := rfl
@[simp] theorem State.wrOctets_gauge (s : State) (a : Nat) (l : List Byte) : (s.wrOctets a l).gauge = s.gauge := rfl
@[simp] theorem State.wrOctets_sound (s : State) (a : Nat) (l : List Byte) : (s.wrOctets a l).sound = s.sound := rfl
@[simp] theorem State.wrOctets_scan (s : State) (a : Nat) (l : List Byte) : (s.wrOctets a l).scan = s.scan := rfl
@[simp] theorem State.wrOctets_lamp (s : State) (a : Nat) (l : List Byte) : (s.wrOctets a l).lamp = s.lamp := rfl
@[simp] theorem State.wrOctets_hcp (s : State) (a : Nat) (l : List Byte) : (s.wrOctets a l).hcp = s.hcp := rfl
@[simp] theorem State.wrOctets_mover (s : State) (a : Nat) (l : List Byte) : (s.wrOctets a l).mover = s.mover := rfl
@[simp] theorem State.wrOctets_mvTurn (s : State) (a : Nat) (l : List Byte) : (s.wrOctets a l).mvTurn = s.mvTurn := rfl
@[simp] theorem State.wrOctets_ledgerDue (s : State) (a : Nat) (l : List Byte) : (s.wrOctets a l).ledgerDue = s.ledgerDue := rfl

@[simp] theorem State.setSlot_pending (s : State) (x : SlotState) : (s.setSlot x).pending = s.pending := rfl
@[simp] theorem State.setSlot_regs (s : State) (x : SlotState) : (s.setSlot x).regs = s.regs := rfl
@[simp] theorem State.setSlot_shadow (s : State) (x : SlotState) : (s.setSlot x).shadow = s.shadow := rfl
@[simp] theorem State.setSlot_reqRegs (s : State) (x : SlotState) : (s.setSlot x).reqRegs = s.reqRegs := rfl
@[simp] theorem State.setSlot_latches (s : State) (x : SlotState) : (s.setSlot x).latches = s.latches := rfl
@[simp] theorem State.setSlot_pRec (s : State) (x : SlotState) : (s.setSlot x).pRec = s.pRec := rfl
@[simp] theorem State.setSlot_mem (s : State) (x : SlotState) : (s.setSlot x).mem = s.mem := rfl
@[simp] theorem State.setSlot_lanes (s : State) (x : SlotState) : (s.setSlot x).lanes = s.lanes := rfl
@[simp] theorem State.setSlot_out (s : State) (x : SlotState) : (s.setSlot x).out = s.out := rfl
@[simp] theorem State.setSlot_freeCtr (s : State) (x : SlotState) : (s.setSlot x).freeCtr = s.freeCtr := rfl
@[simp] theorem State.setSlot_evts (s : State) (x : SlotState) : (s.setSlot x).evts = s.evts := rfl
@[simp] theorem State.setSlot_evtSeq (s : State) (x : SlotState) : (s.setSlot x).evtSeq = s.evtSeq := rfl
@[simp] theorem State.setSlot_evtLost (s : State) (x : SlotState) : (s.setSlot x).evtLost = s.evtLost := rfl
@[simp] theorem State.setSlot_io (s : State) (x : SlotState) : (s.setSlot x).io = s.io := rfl
@[simp] theorem State.setSlot_peg (s : State) (x : SlotState) : (s.setSlot x).peg = s.peg := rfl
@[simp] theorem State.setSlot_recd (s : State) (x : SlotState) : (s.setSlot x).recd = s.recd := rfl
@[simp] theorem State.setSlot_slot (s : State) (x : SlotState) : (s.setSlot x).slot = x := rfl
@[simp] theorem State.setSlot_sys (s : State) (x : SlotState) : (s.setSlot x).sys = s.sys := rfl
@[simp] theorem State.setSlot_time (s : State) (x : SlotState) : (s.setSlot x).time = s.time := rfl
@[simp] theorem State.setSlot_ring (s : State) (x : SlotState) : (s.setSlot x).ring = s.ring := rfl
@[simp] theorem State.setSlot_key (s : State) (x : SlotState) : (s.setSlot x).key = s.key := rfl
@[simp] theorem State.setSlot_restr (s : State) (x : SlotState) : (s.setSlot x).restr = s.restr := rfl
@[simp] theorem State.setSlot_field (s : State) (x : SlotState) : (s.setSlot x).field = s.field := rfl
@[simp] theorem State.setSlot_jrn (s : State) (x : SlotState) : (s.setSlot x).jrn = s.jrn := rfl
@[simp] theorem State.setSlot_cal (s : State) (x : SlotState) : (s.setSlot x).cal = s.cal := rfl
@[simp] theorem State.setSlot_sym (s : State) (x : SlotState) : (s.setSlot x).sym = s.sym := rfl
@[simp] theorem State.setSlot_gauge (s : State) (x : SlotState) : (s.setSlot x).gauge = s.gauge := rfl
@[simp] theorem State.setSlot_sound (s : State) (x : SlotState) : (s.setSlot x).sound = s.sound := rfl
@[simp] theorem State.setSlot_scan (s : State) (x : SlotState) : (s.setSlot x).scan = s.scan := rfl
@[simp] theorem State.setSlot_lamp (s : State) (x : SlotState) : (s.setSlot x).lamp = s.lamp := rfl
@[simp] theorem State.setSlot_hcp (s : State) (x : SlotState) : (s.setSlot x).hcp = s.hcp := rfl
@[simp] theorem State.setSlot_mover (s : State) (x : SlotState) : (s.setSlot x).mover = s.mover := rfl
@[simp] theorem State.setSlot_mvTurn (s : State) (x : SlotState) : (s.setSlot x).mvTurn = s.mvTurn := rfl
@[simp] theorem State.setSlot_ledgerDue (s : State) (x : SlotState) : (s.setSlot x).ledgerDue = s.ledgerDue := rfl

@[simp] theorem State.setSys_pending (s : State) (x : SysState) : (s.setSys x).pending = s.pending := rfl
@[simp] theorem State.setSys_regs (s : State) (x : SysState) : (s.setSys x).regs = s.regs := rfl
@[simp] theorem State.setSys_shadow (s : State) (x : SysState) : (s.setSys x).shadow = s.shadow := rfl
@[simp] theorem State.setSys_reqRegs (s : State) (x : SysState) : (s.setSys x).reqRegs = s.reqRegs := rfl
@[simp] theorem State.setSys_latches (s : State) (x : SysState) : (s.setSys x).latches = s.latches := rfl
@[simp] theorem State.setSys_pRec (s : State) (x : SysState) : (s.setSys x).pRec = s.pRec := rfl
@[simp] theorem State.setSys_mem (s : State) (x : SysState) : (s.setSys x).mem = s.mem := rfl
@[simp] theorem State.setSys_lanes (s : State) (x : SysState) : (s.setSys x).lanes = s.lanes := rfl
@[simp] theorem State.setSys_out (s : State) (x : SysState) : (s.setSys x).out = s.out := rfl
@[simp] theorem State.setSys_freeCtr (s : State) (x : SysState) : (s.setSys x).freeCtr = s.freeCtr := rfl
@[simp] theorem State.setSys_evts (s : State) (x : SysState) : (s.setSys x).evts = s.evts := rfl
@[simp] theorem State.setSys_evtSeq (s : State) (x : SysState) : (s.setSys x).evtSeq = s.evtSeq := rfl
@[simp] theorem State.setSys_evtLost (s : State) (x : SysState) : (s.setSys x).evtLost = s.evtLost := rfl
@[simp] theorem State.setSys_io (s : State) (x : SysState) : (s.setSys x).io = s.io := rfl
@[simp] theorem State.setSys_peg (s : State) (x : SysState) : (s.setSys x).peg = s.peg := rfl
@[simp] theorem State.setSys_recd (s : State) (x : SysState) : (s.setSys x).recd = s.recd := rfl
@[simp] theorem State.setSys_slot (s : State) (x : SysState) : (s.setSys x).slot = s.slot := rfl
@[simp] theorem State.setSys_sys (s : State) (x : SysState) : (s.setSys x).sys = x := rfl
@[simp] theorem State.setSys_time (s : State) (x : SysState) : (s.setSys x).time = s.time := rfl
@[simp] theorem State.setSys_ring (s : State) (x : SysState) : (s.setSys x).ring = s.ring := rfl
@[simp] theorem State.setSys_key (s : State) (x : SysState) : (s.setSys x).key = s.key := rfl
@[simp] theorem State.setSys_restr (s : State) (x : SysState) : (s.setSys x).restr = s.restr := rfl
@[simp] theorem State.setSys_field (s : State) (x : SysState) : (s.setSys x).field = s.field := rfl
@[simp] theorem State.setSys_jrn (s : State) (x : SysState) : (s.setSys x).jrn = s.jrn := rfl
@[simp] theorem State.setSys_cal (s : State) (x : SysState) : (s.setSys x).cal = s.cal := rfl
@[simp] theorem State.setSys_sym (s : State) (x : SysState) : (s.setSys x).sym = s.sym := rfl
@[simp] theorem State.setSys_gauge (s : State) (x : SysState) : (s.setSys x).gauge = s.gauge := rfl
@[simp] theorem State.setSys_sound (s : State) (x : SysState) : (s.setSys x).sound = s.sound := rfl
@[simp] theorem State.setSys_scan (s : State) (x : SysState) : (s.setSys x).scan = s.scan := rfl
@[simp] theorem State.setSys_lamp (s : State) (x : SysState) : (s.setSys x).lamp = s.lamp := rfl
@[simp] theorem State.setSys_hcp (s : State) (x : SysState) : (s.setSys x).hcp = s.hcp := rfl
@[simp] theorem State.setSys_mover (s : State) (x : SysState) : (s.setSys x).mover = s.mover := rfl
@[simp] theorem State.setSys_mvTurn (s : State) (x : SysState) : (s.setSys x).mvTurn = s.mvTurn := rfl
@[simp] theorem State.setSys_ledgerDue (s : State) (x : SysState) : (s.setSys x).ledgerDue = s.ledgerDue := rfl

@[simp] theorem State.setKey_pending (s : State) (x : KeyState) : (s.setKey x).pending = s.pending := rfl
@[simp] theorem State.setKey_regs (s : State) (x : KeyState) : (s.setKey x).regs = s.regs := rfl
@[simp] theorem State.setKey_shadow (s : State) (x : KeyState) : (s.setKey x).shadow = s.shadow := rfl
@[simp] theorem State.setKey_reqRegs (s : State) (x : KeyState) : (s.setKey x).reqRegs = s.reqRegs := rfl
@[simp] theorem State.setKey_latches (s : State) (x : KeyState) : (s.setKey x).latches = s.latches := rfl
@[simp] theorem State.setKey_pRec (s : State) (x : KeyState) : (s.setKey x).pRec = s.pRec := rfl
@[simp] theorem State.setKey_mem (s : State) (x : KeyState) : (s.setKey x).mem = s.mem := rfl
@[simp] theorem State.setKey_lanes (s : State) (x : KeyState) : (s.setKey x).lanes = s.lanes := rfl
@[simp] theorem State.setKey_out (s : State) (x : KeyState) : (s.setKey x).out = s.out := rfl
@[simp] theorem State.setKey_freeCtr (s : State) (x : KeyState) : (s.setKey x).freeCtr = s.freeCtr := rfl
@[simp] theorem State.setKey_evts (s : State) (x : KeyState) : (s.setKey x).evts = s.evts := rfl
@[simp] theorem State.setKey_evtSeq (s : State) (x : KeyState) : (s.setKey x).evtSeq = s.evtSeq := rfl
@[simp] theorem State.setKey_evtLost (s : State) (x : KeyState) : (s.setKey x).evtLost = s.evtLost := rfl
@[simp] theorem State.setKey_io (s : State) (x : KeyState) : (s.setKey x).io = s.io := rfl
@[simp] theorem State.setKey_peg (s : State) (x : KeyState) : (s.setKey x).peg = s.peg := rfl
@[simp] theorem State.setKey_recd (s : State) (x : KeyState) : (s.setKey x).recd = s.recd := rfl
@[simp] theorem State.setKey_slot (s : State) (x : KeyState) : (s.setKey x).slot = s.slot := rfl
@[simp] theorem State.setKey_sys (s : State) (x : KeyState) : (s.setKey x).sys = s.sys := rfl
@[simp] theorem State.setKey_time (s : State) (x : KeyState) : (s.setKey x).time = s.time := rfl
@[simp] theorem State.setKey_ring (s : State) (x : KeyState) : (s.setKey x).ring = s.ring := rfl
@[simp] theorem State.setKey_key (s : State) (x : KeyState) : (s.setKey x).key = x := rfl
@[simp] theorem State.setKey_restr (s : State) (x : KeyState) : (s.setKey x).restr = s.restr := rfl
@[simp] theorem State.setKey_field (s : State) (x : KeyState) : (s.setKey x).field = s.field := rfl
@[simp] theorem State.setKey_jrn (s : State) (x : KeyState) : (s.setKey x).jrn = s.jrn := rfl
@[simp] theorem State.setKey_cal (s : State) (x : KeyState) : (s.setKey x).cal = s.cal := rfl
@[simp] theorem State.setKey_sym (s : State) (x : KeyState) : (s.setKey x).sym = s.sym := rfl
@[simp] theorem State.setKey_gauge (s : State) (x : KeyState) : (s.setKey x).gauge = s.gauge := rfl
@[simp] theorem State.setKey_sound (s : State) (x : KeyState) : (s.setKey x).sound = s.sound := rfl
@[simp] theorem State.setKey_scan (s : State) (x : KeyState) : (s.setKey x).scan = s.scan := rfl
@[simp] theorem State.setKey_lamp (s : State) (x : KeyState) : (s.setKey x).lamp = s.lamp := rfl
@[simp] theorem State.setKey_hcp (s : State) (x : KeyState) : (s.setKey x).hcp = s.hcp := rfl
@[simp] theorem State.setKey_mover (s : State) (x : KeyState) : (s.setKey x).mover = s.mover := rfl
@[simp] theorem State.setKey_mvTurn (s : State) (x : KeyState) : (s.setKey x).mvTurn = s.mvTurn := rfl
@[simp] theorem State.setKey_ledgerDue (s : State) (x : KeyState) : (s.setKey x).ledgerDue = s.ledgerDue := rfl

@[simp] theorem State.setRestr_pending (s : State) (x : RestrState) : (s.setRestr x).pending = s.pending := rfl
@[simp] theorem State.setRestr_regs (s : State) (x : RestrState) : (s.setRestr x).regs = s.regs := rfl
@[simp] theorem State.setRestr_shadow (s : State) (x : RestrState) : (s.setRestr x).shadow = s.shadow := rfl
@[simp] theorem State.setRestr_reqRegs (s : State) (x : RestrState) : (s.setRestr x).reqRegs = s.reqRegs := rfl
@[simp] theorem State.setRestr_latches (s : State) (x : RestrState) : (s.setRestr x).latches = s.latches := rfl
@[simp] theorem State.setRestr_pRec (s : State) (x : RestrState) : (s.setRestr x).pRec = s.pRec := rfl
@[simp] theorem State.setRestr_mem (s : State) (x : RestrState) : (s.setRestr x).mem = s.mem := rfl
@[simp] theorem State.setRestr_lanes (s : State) (x : RestrState) : (s.setRestr x).lanes = s.lanes := rfl
@[simp] theorem State.setRestr_out (s : State) (x : RestrState) : (s.setRestr x).out = s.out := rfl
@[simp] theorem State.setRestr_freeCtr (s : State) (x : RestrState) : (s.setRestr x).freeCtr = s.freeCtr := rfl
@[simp] theorem State.setRestr_evts (s : State) (x : RestrState) : (s.setRestr x).evts = s.evts := rfl
@[simp] theorem State.setRestr_evtSeq (s : State) (x : RestrState) : (s.setRestr x).evtSeq = s.evtSeq := rfl
@[simp] theorem State.setRestr_evtLost (s : State) (x : RestrState) : (s.setRestr x).evtLost = s.evtLost := rfl
@[simp] theorem State.setRestr_io (s : State) (x : RestrState) : (s.setRestr x).io = s.io := rfl
@[simp] theorem State.setRestr_peg (s : State) (x : RestrState) : (s.setRestr x).peg = s.peg := rfl
@[simp] theorem State.setRestr_recd (s : State) (x : RestrState) : (s.setRestr x).recd = s.recd := rfl
@[simp] theorem State.setRestr_slot (s : State) (x : RestrState) : (s.setRestr x).slot = s.slot := rfl
@[simp] theorem State.setRestr_sys (s : State) (x : RestrState) : (s.setRestr x).sys = s.sys := rfl
@[simp] theorem State.setRestr_time (s : State) (x : RestrState) : (s.setRestr x).time = s.time := rfl
@[simp] theorem State.setRestr_ring (s : State) (x : RestrState) : (s.setRestr x).ring = s.ring := rfl
@[simp] theorem State.setRestr_key (s : State) (x : RestrState) : (s.setRestr x).key = s.key := rfl
@[simp] theorem State.setRestr_restr (s : State) (x : RestrState) : (s.setRestr x).restr = x := rfl
@[simp] theorem State.setRestr_field (s : State) (x : RestrState) : (s.setRestr x).field = s.field := rfl
@[simp] theorem State.setRestr_jrn (s : State) (x : RestrState) : (s.setRestr x).jrn = s.jrn := rfl
@[simp] theorem State.setRestr_cal (s : State) (x : RestrState) : (s.setRestr x).cal = s.cal := rfl
@[simp] theorem State.setRestr_sym (s : State) (x : RestrState) : (s.setRestr x).sym = s.sym := rfl
@[simp] theorem State.setRestr_gauge (s : State) (x : RestrState) : (s.setRestr x).gauge = s.gauge := rfl
@[simp] theorem State.setRestr_sound (s : State) (x : RestrState) : (s.setRestr x).sound = s.sound := rfl
@[simp] theorem State.setRestr_scan (s : State) (x : RestrState) : (s.setRestr x).scan = s.scan := rfl
@[simp] theorem State.setRestr_lamp (s : State) (x : RestrState) : (s.setRestr x).lamp = s.lamp := rfl
@[simp] theorem State.setRestr_hcp (s : State) (x : RestrState) : (s.setRestr x).hcp = s.hcp := rfl
@[simp] theorem State.setRestr_mover (s : State) (x : RestrState) : (s.setRestr x).mover = s.mover := rfl
@[simp] theorem State.setRestr_mvTurn (s : State) (x : RestrState) : (s.setRestr x).mvTurn = s.mvTurn := rfl
@[simp] theorem State.setRestr_ledgerDue (s : State) (x : RestrState) : (s.setRestr x).ledgerDue = s.ledgerDue := rfl

@[simp] theorem State.setScan_pending (s : State) (x : ScanState) : (s.setScan x).pending = s.pending := rfl
@[simp] theorem State.setScan_regs (s : State) (x : ScanState) : (s.setScan x).regs = s.regs := rfl
@[simp] theorem State.setScan_shadow (s : State) (x : ScanState) : (s.setScan x).shadow = s.shadow := rfl
@[simp] theorem State.setScan_reqRegs (s : State) (x : ScanState) : (s.setScan x).reqRegs = s.reqRegs := rfl
@[simp] theorem State.setScan_latches (s : State) (x : ScanState) : (s.setScan x).latches = s.latches := rfl
@[simp] theorem State.setScan_pRec (s : State) (x : ScanState) : (s.setScan x).pRec = s.pRec := rfl
@[simp] theorem State.setScan_mem (s : State) (x : ScanState) : (s.setScan x).mem = s.mem := rfl
@[simp] theorem State.setScan_lanes (s : State) (x : ScanState) : (s.setScan x).lanes = s.lanes := rfl
@[simp] theorem State.setScan_out (s : State) (x : ScanState) : (s.setScan x).out = s.out := rfl
@[simp] theorem State.setScan_freeCtr (s : State) (x : ScanState) : (s.setScan x).freeCtr = s.freeCtr := rfl
@[simp] theorem State.setScan_evts (s : State) (x : ScanState) : (s.setScan x).evts = s.evts := rfl
@[simp] theorem State.setScan_evtSeq (s : State) (x : ScanState) : (s.setScan x).evtSeq = s.evtSeq := rfl
@[simp] theorem State.setScan_evtLost (s : State) (x : ScanState) : (s.setScan x).evtLost = s.evtLost := rfl
@[simp] theorem State.setScan_io (s : State) (x : ScanState) : (s.setScan x).io = s.io := rfl
@[simp] theorem State.setScan_peg (s : State) (x : ScanState) : (s.setScan x).peg = s.peg := rfl
@[simp] theorem State.setScan_recd (s : State) (x : ScanState) : (s.setScan x).recd = s.recd := rfl
@[simp] theorem State.setScan_slot (s : State) (x : ScanState) : (s.setScan x).slot = s.slot := rfl
@[simp] theorem State.setScan_sys (s : State) (x : ScanState) : (s.setScan x).sys = s.sys := rfl
@[simp] theorem State.setScan_time (s : State) (x : ScanState) : (s.setScan x).time = s.time := rfl
@[simp] theorem State.setScan_ring (s : State) (x : ScanState) : (s.setScan x).ring = s.ring := rfl
@[simp] theorem State.setScan_key (s : State) (x : ScanState) : (s.setScan x).key = s.key := rfl
@[simp] theorem State.setScan_restr (s : State) (x : ScanState) : (s.setScan x).restr = s.restr := rfl
@[simp] theorem State.setScan_field (s : State) (x : ScanState) : (s.setScan x).field = s.field := rfl
@[simp] theorem State.setScan_jrn (s : State) (x : ScanState) : (s.setScan x).jrn = s.jrn := rfl
@[simp] theorem State.setScan_cal (s : State) (x : ScanState) : (s.setScan x).cal = s.cal := rfl
@[simp] theorem State.setScan_sym (s : State) (x : ScanState) : (s.setScan x).sym = s.sym := rfl
@[simp] theorem State.setScan_gauge (s : State) (x : ScanState) : (s.setScan x).gauge = s.gauge := rfl
@[simp] theorem State.setScan_sound (s : State) (x : ScanState) : (s.setScan x).sound = s.sound := rfl
@[simp] theorem State.setScan_scan (s : State) (x : ScanState) : (s.setScan x).scan = x := rfl
@[simp] theorem State.setScan_lamp (s : State) (x : ScanState) : (s.setScan x).lamp = s.lamp := rfl
@[simp] theorem State.setScan_hcp (s : State) (x : ScanState) : (s.setScan x).hcp = s.hcp := rfl
@[simp] theorem State.setScan_mover (s : State) (x : ScanState) : (s.setScan x).mover = s.mover := rfl
@[simp] theorem State.setScan_mvTurn (s : State) (x : ScanState) : (s.setScan x).mvTurn = s.mvTurn := rfl
@[simp] theorem State.setScan_ledgerDue (s : State) (x : ScanState) : (s.setScan x).ledgerDue = s.ledgerDue := rfl

@[simp] theorem State.setHcp_pending (s : State) (x : HcpState) : (s.setHcp x).pending = s.pending := rfl
@[simp] theorem State.setHcp_regs (s : State) (x : HcpState) : (s.setHcp x).regs = s.regs := rfl
@[simp] theorem State.setHcp_shadow (s : State) (x : HcpState) : (s.setHcp x).shadow = s.shadow := rfl
@[simp] theorem State.setHcp_reqRegs (s : State) (x : HcpState) : (s.setHcp x).reqRegs = s.reqRegs := rfl
@[simp] theorem State.setHcp_latches (s : State) (x : HcpState) : (s.setHcp x).latches = s.latches := rfl
@[simp] theorem State.setHcp_pRec (s : State) (x : HcpState) : (s.setHcp x).pRec = s.pRec := rfl
@[simp] theorem State.setHcp_mem (s : State) (x : HcpState) : (s.setHcp x).mem = s.mem := rfl
@[simp] theorem State.setHcp_lanes (s : State) (x : HcpState) : (s.setHcp x).lanes = s.lanes := rfl
@[simp] theorem State.setHcp_out (s : State) (x : HcpState) : (s.setHcp x).out = s.out := rfl
@[simp] theorem State.setHcp_freeCtr (s : State) (x : HcpState) : (s.setHcp x).freeCtr = s.freeCtr := rfl
@[simp] theorem State.setHcp_evts (s : State) (x : HcpState) : (s.setHcp x).evts = s.evts := rfl
@[simp] theorem State.setHcp_evtSeq (s : State) (x : HcpState) : (s.setHcp x).evtSeq = s.evtSeq := rfl
@[simp] theorem State.setHcp_evtLost (s : State) (x : HcpState) : (s.setHcp x).evtLost = s.evtLost := rfl
@[simp] theorem State.setHcp_io (s : State) (x : HcpState) : (s.setHcp x).io = s.io := rfl
@[simp] theorem State.setHcp_peg (s : State) (x : HcpState) : (s.setHcp x).peg = s.peg := rfl
@[simp] theorem State.setHcp_recd (s : State) (x : HcpState) : (s.setHcp x).recd = s.recd := rfl
@[simp] theorem State.setHcp_slot (s : State) (x : HcpState) : (s.setHcp x).slot = s.slot := rfl
@[simp] theorem State.setHcp_sys (s : State) (x : HcpState) : (s.setHcp x).sys = s.sys := rfl
@[simp] theorem State.setHcp_time (s : State) (x : HcpState) : (s.setHcp x).time = s.time := rfl
@[simp] theorem State.setHcp_ring (s : State) (x : HcpState) : (s.setHcp x).ring = s.ring := rfl
@[simp] theorem State.setHcp_key (s : State) (x : HcpState) : (s.setHcp x).key = s.key := rfl
@[simp] theorem State.setHcp_restr (s : State) (x : HcpState) : (s.setHcp x).restr = s.restr := rfl
@[simp] theorem State.setHcp_field (s : State) (x : HcpState) : (s.setHcp x).field = s.field := rfl
@[simp] theorem State.setHcp_jrn (s : State) (x : HcpState) : (s.setHcp x).jrn = s.jrn := rfl
@[simp] theorem State.setHcp_cal (s : State) (x : HcpState) : (s.setHcp x).cal = s.cal := rfl
@[simp] theorem State.setHcp_sym (s : State) (x : HcpState) : (s.setHcp x).sym = s.sym := rfl
@[simp] theorem State.setHcp_gauge (s : State) (x : HcpState) : (s.setHcp x).gauge = s.gauge := rfl
@[simp] theorem State.setHcp_sound (s : State) (x : HcpState) : (s.setHcp x).sound = s.sound := rfl
@[simp] theorem State.setHcp_scan (s : State) (x : HcpState) : (s.setHcp x).scan = s.scan := rfl
@[simp] theorem State.setHcp_lamp (s : State) (x : HcpState) : (s.setHcp x).lamp = s.lamp := rfl
@[simp] theorem State.setHcp_hcp (s : State) (x : HcpState) : (s.setHcp x).hcp = x := rfl
@[simp] theorem State.setHcp_mover (s : State) (x : HcpState) : (s.setHcp x).mover = s.mover := rfl
@[simp] theorem State.setHcp_mvTurn (s : State) (x : HcpState) : (s.setHcp x).mvTurn = s.mvTurn := rfl
@[simp] theorem State.setHcp_ledgerDue (s : State) (x : HcpState) : (s.setHcp x).ledgerDue = s.ledgerDue := rfl

@[simp] theorem State.setSym_pending (s : State) (x : SymState) : (s.setSym x).pending = s.pending := rfl
@[simp] theorem State.setSym_regs (s : State) (x : SymState) : (s.setSym x).regs = s.regs := rfl
@[simp] theorem State.setSym_shadow (s : State) (x : SymState) : (s.setSym x).shadow = s.shadow := rfl
@[simp] theorem State.setSym_reqRegs (s : State) (x : SymState) : (s.setSym x).reqRegs = s.reqRegs := rfl
@[simp] theorem State.setSym_latches (s : State) (x : SymState) : (s.setSym x).latches = s.latches := rfl
@[simp] theorem State.setSym_pRec (s : State) (x : SymState) : (s.setSym x).pRec = s.pRec := rfl
@[simp] theorem State.setSym_mem (s : State) (x : SymState) : (s.setSym x).mem = s.mem := rfl
@[simp] theorem State.setSym_lanes (s : State) (x : SymState) : (s.setSym x).lanes = s.lanes := rfl
@[simp] theorem State.setSym_out (s : State) (x : SymState) : (s.setSym x).out = s.out := rfl
@[simp] theorem State.setSym_freeCtr (s : State) (x : SymState) : (s.setSym x).freeCtr = s.freeCtr := rfl
@[simp] theorem State.setSym_evts (s : State) (x : SymState) : (s.setSym x).evts = s.evts := rfl
@[simp] theorem State.setSym_evtSeq (s : State) (x : SymState) : (s.setSym x).evtSeq = s.evtSeq := rfl
@[simp] theorem State.setSym_evtLost (s : State) (x : SymState) : (s.setSym x).evtLost = s.evtLost := rfl
@[simp] theorem State.setSym_io (s : State) (x : SymState) : (s.setSym x).io = s.io := rfl
@[simp] theorem State.setSym_peg (s : State) (x : SymState) : (s.setSym x).peg = s.peg := rfl
@[simp] theorem State.setSym_recd (s : State) (x : SymState) : (s.setSym x).recd = s.recd := rfl
@[simp] theorem State.setSym_slot (s : State) (x : SymState) : (s.setSym x).slot = s.slot := rfl
@[simp] theorem State.setSym_sys (s : State) (x : SymState) : (s.setSym x).sys = s.sys := rfl
@[simp] theorem State.setSym_time (s : State) (x : SymState) : (s.setSym x).time = s.time := rfl
@[simp] theorem State.setSym_ring (s : State) (x : SymState) : (s.setSym x).ring = s.ring := rfl
@[simp] theorem State.setSym_key (s : State) (x : SymState) : (s.setSym x).key = s.key := rfl
@[simp] theorem State.setSym_restr (s : State) (x : SymState) : (s.setSym x).restr = s.restr := rfl
@[simp] theorem State.setSym_field (s : State) (x : SymState) : (s.setSym x).field = s.field := rfl
@[simp] theorem State.setSym_jrn (s : State) (x : SymState) : (s.setSym x).jrn = s.jrn := rfl
@[simp] theorem State.setSym_cal (s : State) (x : SymState) : (s.setSym x).cal = s.cal := rfl
@[simp] theorem State.setSym_sym (s : State) (x : SymState) : (s.setSym x).sym = x := rfl
@[simp] theorem State.setSym_gauge (s : State) (x : SymState) : (s.setSym x).gauge = s.gauge := rfl
@[simp] theorem State.setSym_sound (s : State) (x : SymState) : (s.setSym x).sound = s.sound := rfl
@[simp] theorem State.setSym_scan (s : State) (x : SymState) : (s.setSym x).scan = s.scan := rfl
@[simp] theorem State.setSym_lamp (s : State) (x : SymState) : (s.setSym x).lamp = s.lamp := rfl
@[simp] theorem State.setSym_hcp (s : State) (x : SymState) : (s.setSym x).hcp = s.hcp := rfl
@[simp] theorem State.setSym_mover (s : State) (x : SymState) : (s.setSym x).mover = s.mover := rfl
@[simp] theorem State.setSym_mvTurn (s : State) (x : SymState) : (s.setSym x).mvTurn = s.mvTurn := rfl
@[simp] theorem State.setSym_ledgerDue (s : State) (x : SymState) : (s.setSym x).ledgerDue = s.ledgerDue := rfl

@[simp] theorem State.setGauge_pending (s : State) (x : GaugeState) : (s.setGauge x).pending = s.pending := rfl
@[simp] theorem State.setGauge_regs (s : State) (x : GaugeState) : (s.setGauge x).regs = s.regs := rfl
@[simp] theorem State.setGauge_shadow (s : State) (x : GaugeState) : (s.setGauge x).shadow = s.shadow := rfl
@[simp] theorem State.setGauge_reqRegs (s : State) (x : GaugeState) : (s.setGauge x).reqRegs = s.reqRegs := rfl
@[simp] theorem State.setGauge_latches (s : State) (x : GaugeState) : (s.setGauge x).latches = s.latches := rfl
@[simp] theorem State.setGauge_pRec (s : State) (x : GaugeState) : (s.setGauge x).pRec = s.pRec := rfl
@[simp] theorem State.setGauge_mem (s : State) (x : GaugeState) : (s.setGauge x).mem = s.mem := rfl
@[simp] theorem State.setGauge_lanes (s : State) (x : GaugeState) : (s.setGauge x).lanes = s.lanes := rfl
@[simp] theorem State.setGauge_out (s : State) (x : GaugeState) : (s.setGauge x).out = s.out := rfl
@[simp] theorem State.setGauge_freeCtr (s : State) (x : GaugeState) : (s.setGauge x).freeCtr = s.freeCtr := rfl
@[simp] theorem State.setGauge_evts (s : State) (x : GaugeState) : (s.setGauge x).evts = s.evts := rfl
@[simp] theorem State.setGauge_evtSeq (s : State) (x : GaugeState) : (s.setGauge x).evtSeq = s.evtSeq := rfl
@[simp] theorem State.setGauge_evtLost (s : State) (x : GaugeState) : (s.setGauge x).evtLost = s.evtLost := rfl
@[simp] theorem State.setGauge_io (s : State) (x : GaugeState) : (s.setGauge x).io = s.io := rfl
@[simp] theorem State.setGauge_peg (s : State) (x : GaugeState) : (s.setGauge x).peg = s.peg := rfl
@[simp] theorem State.setGauge_recd (s : State) (x : GaugeState) : (s.setGauge x).recd = s.recd := rfl
@[simp] theorem State.setGauge_slot (s : State) (x : GaugeState) : (s.setGauge x).slot = s.slot := rfl
@[simp] theorem State.setGauge_sys (s : State) (x : GaugeState) : (s.setGauge x).sys = s.sys := rfl
@[simp] theorem State.setGauge_time (s : State) (x : GaugeState) : (s.setGauge x).time = s.time := rfl
@[simp] theorem State.setGauge_ring (s : State) (x : GaugeState) : (s.setGauge x).ring = s.ring := rfl
@[simp] theorem State.setGauge_key (s : State) (x : GaugeState) : (s.setGauge x).key = s.key := rfl
@[simp] theorem State.setGauge_restr (s : State) (x : GaugeState) : (s.setGauge x).restr = s.restr := rfl
@[simp] theorem State.setGauge_field (s : State) (x : GaugeState) : (s.setGauge x).field = s.field := rfl
@[simp] theorem State.setGauge_jrn (s : State) (x : GaugeState) : (s.setGauge x).jrn = s.jrn := rfl
@[simp] theorem State.setGauge_cal (s : State) (x : GaugeState) : (s.setGauge x).cal = s.cal := rfl
@[simp] theorem State.setGauge_sym (s : State) (x : GaugeState) : (s.setGauge x).sym = s.sym := rfl
@[simp] theorem State.setGauge_gauge (s : State) (x : GaugeState) : (s.setGauge x).gauge = x := rfl
@[simp] theorem State.setGauge_sound (s : State) (x : GaugeState) : (s.setGauge x).sound = s.sound := rfl
@[simp] theorem State.setGauge_scan (s : State) (x : GaugeState) : (s.setGauge x).scan = s.scan := rfl
@[simp] theorem State.setGauge_lamp (s : State) (x : GaugeState) : (s.setGauge x).lamp = s.lamp := rfl
@[simp] theorem State.setGauge_hcp (s : State) (x : GaugeState) : (s.setGauge x).hcp = s.hcp := rfl
@[simp] theorem State.setGauge_mover (s : State) (x : GaugeState) : (s.setGauge x).mover = s.mover := rfl
@[simp] theorem State.setGauge_mvTurn (s : State) (x : GaugeState) : (s.setGauge x).mvTurn = s.mvTurn := rfl
@[simp] theorem State.setGauge_ledgerDue (s : State) (x : GaugeState) : (s.setGauge x).ledgerDue = s.ledgerDue := rfl

@[simp] theorem State.setSound_pending (s : State) (x : SoundState) : (s.setSound x).pending = s.pending := rfl
@[simp] theorem State.setSound_regs (s : State) (x : SoundState) : (s.setSound x).regs = s.regs := rfl
@[simp] theorem State.setSound_shadow (s : State) (x : SoundState) : (s.setSound x).shadow = s.shadow := rfl
@[simp] theorem State.setSound_reqRegs (s : State) (x : SoundState) : (s.setSound x).reqRegs = s.reqRegs := rfl
@[simp] theorem State.setSound_latches (s : State) (x : SoundState) : (s.setSound x).latches = s.latches := rfl
@[simp] theorem State.setSound_pRec (s : State) (x : SoundState) : (s.setSound x).pRec = s.pRec := rfl
@[simp] theorem State.setSound_mem (s : State) (x : SoundState) : (s.setSound x).mem = s.mem := rfl
@[simp] theorem State.setSound_lanes (s : State) (x : SoundState) : (s.setSound x).lanes = s.lanes := rfl
@[simp] theorem State.setSound_out (s : State) (x : SoundState) : (s.setSound x).out = s.out := rfl
@[simp] theorem State.setSound_freeCtr (s : State) (x : SoundState) : (s.setSound x).freeCtr = s.freeCtr := rfl
@[simp] theorem State.setSound_evts (s : State) (x : SoundState) : (s.setSound x).evts = s.evts := rfl
@[simp] theorem State.setSound_evtSeq (s : State) (x : SoundState) : (s.setSound x).evtSeq = s.evtSeq := rfl
@[simp] theorem State.setSound_evtLost (s : State) (x : SoundState) : (s.setSound x).evtLost = s.evtLost := rfl
@[simp] theorem State.setSound_io (s : State) (x : SoundState) : (s.setSound x).io = s.io := rfl
@[simp] theorem State.setSound_peg (s : State) (x : SoundState) : (s.setSound x).peg = s.peg := rfl
@[simp] theorem State.setSound_recd (s : State) (x : SoundState) : (s.setSound x).recd = s.recd := rfl
@[simp] theorem State.setSound_slot (s : State) (x : SoundState) : (s.setSound x).slot = s.slot := rfl
@[simp] theorem State.setSound_sys (s : State) (x : SoundState) : (s.setSound x).sys = s.sys := rfl
@[simp] theorem State.setSound_time (s : State) (x : SoundState) : (s.setSound x).time = s.time := rfl
@[simp] theorem State.setSound_ring (s : State) (x : SoundState) : (s.setSound x).ring = s.ring := rfl
@[simp] theorem State.setSound_key (s : State) (x : SoundState) : (s.setSound x).key = s.key := rfl
@[simp] theorem State.setSound_restr (s : State) (x : SoundState) : (s.setSound x).restr = s.restr := rfl
@[simp] theorem State.setSound_field (s : State) (x : SoundState) : (s.setSound x).field = s.field := rfl
@[simp] theorem State.setSound_jrn (s : State) (x : SoundState) : (s.setSound x).jrn = s.jrn := rfl
@[simp] theorem State.setSound_cal (s : State) (x : SoundState) : (s.setSound x).cal = s.cal := rfl
@[simp] theorem State.setSound_sym (s : State) (x : SoundState) : (s.setSound x).sym = s.sym := rfl
@[simp] theorem State.setSound_gauge (s : State) (x : SoundState) : (s.setSound x).gauge = s.gauge := rfl
@[simp] theorem State.setSound_sound (s : State) (x : SoundState) : (s.setSound x).sound = x := rfl
@[simp] theorem State.setSound_scan (s : State) (x : SoundState) : (s.setSound x).scan = s.scan := rfl
@[simp] theorem State.setSound_lamp (s : State) (x : SoundState) : (s.setSound x).lamp = s.lamp := rfl
@[simp] theorem State.setSound_hcp (s : State) (x : SoundState) : (s.setSound x).hcp = s.hcp := rfl
@[simp] theorem State.setSound_mover (s : State) (x : SoundState) : (s.setSound x).mover = s.mover := rfl
@[simp] theorem State.setSound_mvTurn (s : State) (x : SoundState) : (s.setSound x).mvTurn = s.mvTurn := rfl
@[simp] theorem State.setSound_ledgerDue (s : State) (x : SoundState) : (s.setSound x).ledgerDue = s.ledgerDue := rfl

@[simp] theorem State.setLamp_pending (s : State) (x : LampState) : (s.setLamp x).pending = s.pending := rfl
@[simp] theorem State.setLamp_regs (s : State) (x : LampState) : (s.setLamp x).regs = s.regs := rfl
@[simp] theorem State.setLamp_shadow (s : State) (x : LampState) : (s.setLamp x).shadow = s.shadow := rfl
@[simp] theorem State.setLamp_reqRegs (s : State) (x : LampState) : (s.setLamp x).reqRegs = s.reqRegs := rfl
@[simp] theorem State.setLamp_latches (s : State) (x : LampState) : (s.setLamp x).latches = s.latches := rfl
@[simp] theorem State.setLamp_pRec (s : State) (x : LampState) : (s.setLamp x).pRec = s.pRec := rfl
@[simp] theorem State.setLamp_mem (s : State) (x : LampState) : (s.setLamp x).mem = s.mem := rfl
@[simp] theorem State.setLamp_lanes (s : State) (x : LampState) : (s.setLamp x).lanes = s.lanes := rfl
@[simp] theorem State.setLamp_out (s : State) (x : LampState) : (s.setLamp x).out = s.out := rfl
@[simp] theorem State.setLamp_freeCtr (s : State) (x : LampState) : (s.setLamp x).freeCtr = s.freeCtr := rfl
@[simp] theorem State.setLamp_evts (s : State) (x : LampState) : (s.setLamp x).evts = s.evts := rfl
@[simp] theorem State.setLamp_evtSeq (s : State) (x : LampState) : (s.setLamp x).evtSeq = s.evtSeq := rfl
@[simp] theorem State.setLamp_evtLost (s : State) (x : LampState) : (s.setLamp x).evtLost = s.evtLost := rfl
@[simp] theorem State.setLamp_io (s : State) (x : LampState) : (s.setLamp x).io = s.io := rfl
@[simp] theorem State.setLamp_peg (s : State) (x : LampState) : (s.setLamp x).peg = s.peg := rfl
@[simp] theorem State.setLamp_recd (s : State) (x : LampState) : (s.setLamp x).recd = s.recd := rfl
@[simp] theorem State.setLamp_slot (s : State) (x : LampState) : (s.setLamp x).slot = s.slot := rfl
@[simp] theorem State.setLamp_sys (s : State) (x : LampState) : (s.setLamp x).sys = s.sys := rfl
@[simp] theorem State.setLamp_time (s : State) (x : LampState) : (s.setLamp x).time = s.time := rfl
@[simp] theorem State.setLamp_ring (s : State) (x : LampState) : (s.setLamp x).ring = s.ring := rfl
@[simp] theorem State.setLamp_key (s : State) (x : LampState) : (s.setLamp x).key = s.key := rfl
@[simp] theorem State.setLamp_restr (s : State) (x : LampState) : (s.setLamp x).restr = s.restr := rfl
@[simp] theorem State.setLamp_field (s : State) (x : LampState) : (s.setLamp x).field = s.field := rfl
@[simp] theorem State.setLamp_jrn (s : State) (x : LampState) : (s.setLamp x).jrn = s.jrn := rfl
@[simp] theorem State.setLamp_cal (s : State) (x : LampState) : (s.setLamp x).cal = s.cal := rfl
@[simp] theorem State.setLamp_sym (s : State) (x : LampState) : (s.setLamp x).sym = s.sym := rfl
@[simp] theorem State.setLamp_gauge (s : State) (x : LampState) : (s.setLamp x).gauge = s.gauge := rfl
@[simp] theorem State.setLamp_sound (s : State) (x : LampState) : (s.setLamp x).sound = s.sound := rfl
@[simp] theorem State.setLamp_scan (s : State) (x : LampState) : (s.setLamp x).scan = s.scan := rfl
@[simp] theorem State.setLamp_lamp (s : State) (x : LampState) : (s.setLamp x).lamp = x := rfl
@[simp] theorem State.setLamp_hcp (s : State) (x : LampState) : (s.setLamp x).hcp = s.hcp := rfl
@[simp] theorem State.setLamp_mover (s : State) (x : LampState) : (s.setLamp x).mover = s.mover := rfl
@[simp] theorem State.setLamp_mvTurn (s : State) (x : LampState) : (s.setLamp x).mvTurn = s.mvTurn := rfl
@[simp] theorem State.setLamp_ledgerDue (s : State) (x : LampState) : (s.setLamp x).ledgerDue = s.ledgerDue := rfl

@[simp] theorem State.setField_pending (s : State) (x : FieldState) : (s.setField x).pending = s.pending := rfl
@[simp] theorem State.setField_regs (s : State) (x : FieldState) : (s.setField x).regs = s.regs := rfl
@[simp] theorem State.setField_shadow (s : State) (x : FieldState) : (s.setField x).shadow = s.shadow := rfl
@[simp] theorem State.setField_reqRegs (s : State) (x : FieldState) : (s.setField x).reqRegs = s.reqRegs := rfl
@[simp] theorem State.setField_latches (s : State) (x : FieldState) : (s.setField x).latches = s.latches := rfl
@[simp] theorem State.setField_pRec (s : State) (x : FieldState) : (s.setField x).pRec = s.pRec := rfl
@[simp] theorem State.setField_mem (s : State) (x : FieldState) : (s.setField x).mem = s.mem := rfl
@[simp] theorem State.setField_lanes (s : State) (x : FieldState) : (s.setField x).lanes = s.lanes := rfl
@[simp] theorem State.setField_out (s : State) (x : FieldState) : (s.setField x).out = s.out := rfl
@[simp] theorem State.setField_freeCtr (s : State) (x : FieldState) : (s.setField x).freeCtr = s.freeCtr := rfl
@[simp] theorem State.setField_evts (s : State) (x : FieldState) : (s.setField x).evts = s.evts := rfl
@[simp] theorem State.setField_evtSeq (s : State) (x : FieldState) : (s.setField x).evtSeq = s.evtSeq := rfl
@[simp] theorem State.setField_evtLost (s : State) (x : FieldState) : (s.setField x).evtLost = s.evtLost := rfl
@[simp] theorem State.setField_io (s : State) (x : FieldState) : (s.setField x).io = s.io := rfl
@[simp] theorem State.setField_peg (s : State) (x : FieldState) : (s.setField x).peg = s.peg := rfl
@[simp] theorem State.setField_recd (s : State) (x : FieldState) : (s.setField x).recd = s.recd := rfl
@[simp] theorem State.setField_slot (s : State) (x : FieldState) : (s.setField x).slot = s.slot := rfl
@[simp] theorem State.setField_sys (s : State) (x : FieldState) : (s.setField x).sys = s.sys := rfl
@[simp] theorem State.setField_time (s : State) (x : FieldState) : (s.setField x).time = s.time := rfl
@[simp] theorem State.setField_ring (s : State) (x : FieldState) : (s.setField x).ring = s.ring := rfl
@[simp] theorem State.setField_key (s : State) (x : FieldState) : (s.setField x).key = s.key := rfl
@[simp] theorem State.setField_restr (s : State) (x : FieldState) : (s.setField x).restr = s.restr := rfl
@[simp] theorem State.setField_field (s : State) (x : FieldState) : (s.setField x).field = x := rfl
@[simp] theorem State.setField_jrn (s : State) (x : FieldState) : (s.setField x).jrn = s.jrn := rfl
@[simp] theorem State.setField_cal (s : State) (x : FieldState) : (s.setField x).cal = s.cal := rfl
@[simp] theorem State.setField_sym (s : State) (x : FieldState) : (s.setField x).sym = s.sym := rfl
@[simp] theorem State.setField_gauge (s : State) (x : FieldState) : (s.setField x).gauge = s.gauge := rfl
@[simp] theorem State.setField_sound (s : State) (x : FieldState) : (s.setField x).sound = s.sound := rfl
@[simp] theorem State.setField_scan (s : State) (x : FieldState) : (s.setField x).scan = s.scan := rfl
@[simp] theorem State.setField_lamp (s : State) (x : FieldState) : (s.setField x).lamp = s.lamp := rfl
@[simp] theorem State.setField_hcp (s : State) (x : FieldState) : (s.setField x).hcp = s.hcp := rfl
@[simp] theorem State.setField_mover (s : State) (x : FieldState) : (s.setField x).mover = s.mover := rfl
@[simp] theorem State.setField_mvTurn (s : State) (x : FieldState) : (s.setField x).mvTurn = s.mvTurn := rfl
@[simp] theorem State.setField_ledgerDue (s : State) (x : FieldState) : (s.setField x).ledgerDue = s.ledgerDue := rfl

@[simp] theorem State.setTime_pending (s : State) (x : TimeState) : (s.setTime x).pending = s.pending := rfl
@[simp] theorem State.setTime_regs (s : State) (x : TimeState) : (s.setTime x).regs = s.regs := rfl
@[simp] theorem State.setTime_shadow (s : State) (x : TimeState) : (s.setTime x).shadow = s.shadow := rfl
@[simp] theorem State.setTime_reqRegs (s : State) (x : TimeState) : (s.setTime x).reqRegs = s.reqRegs := rfl
@[simp] theorem State.setTime_latches (s : State) (x : TimeState) : (s.setTime x).latches = s.latches := rfl
@[simp] theorem State.setTime_pRec (s : State) (x : TimeState) : (s.setTime x).pRec = s.pRec := rfl
@[simp] theorem State.setTime_mem (s : State) (x : TimeState) : (s.setTime x).mem = s.mem := rfl
@[simp] theorem State.setTime_lanes (s : State) (x : TimeState) : (s.setTime x).lanes = s.lanes := rfl
@[simp] theorem State.setTime_out (s : State) (x : TimeState) : (s.setTime x).out = s.out := rfl
@[simp] theorem State.setTime_freeCtr (s : State) (x : TimeState) : (s.setTime x).freeCtr = s.freeCtr := rfl
@[simp] theorem State.setTime_evts (s : State) (x : TimeState) : (s.setTime x).evts = s.evts := rfl
@[simp] theorem State.setTime_evtSeq (s : State) (x : TimeState) : (s.setTime x).evtSeq = s.evtSeq := rfl
@[simp] theorem State.setTime_evtLost (s : State) (x : TimeState) : (s.setTime x).evtLost = s.evtLost := rfl
@[simp] theorem State.setTime_io (s : State) (x : TimeState) : (s.setTime x).io = s.io := rfl
@[simp] theorem State.setTime_peg (s : State) (x : TimeState) : (s.setTime x).peg = s.peg := rfl
@[simp] theorem State.setTime_recd (s : State) (x : TimeState) : (s.setTime x).recd = s.recd := rfl
@[simp] theorem State.setTime_slot (s : State) (x : TimeState) : (s.setTime x).slot = s.slot := rfl
@[simp] theorem State.setTime_sys (s : State) (x : TimeState) : (s.setTime x).sys = s.sys := rfl
@[simp] theorem State.setTime_time (s : State) (x : TimeState) : (s.setTime x).time = x := rfl
@[simp] theorem State.setTime_ring (s : State) (x : TimeState) : (s.setTime x).ring = s.ring := rfl
@[simp] theorem State.setTime_key (s : State) (x : TimeState) : (s.setTime x).key = s.key := rfl
@[simp] theorem State.setTime_restr (s : State) (x : TimeState) : (s.setTime x).restr = s.restr := rfl
@[simp] theorem State.setTime_field (s : State) (x : TimeState) : (s.setTime x).field = s.field := rfl
@[simp] theorem State.setTime_jrn (s : State) (x : TimeState) : (s.setTime x).jrn = s.jrn := rfl
@[simp] theorem State.setTime_cal (s : State) (x : TimeState) : (s.setTime x).cal = s.cal := rfl
@[simp] theorem State.setTime_sym (s : State) (x : TimeState) : (s.setTime x).sym = s.sym := rfl
@[simp] theorem State.setTime_gauge (s : State) (x : TimeState) : (s.setTime x).gauge = s.gauge := rfl
@[simp] theorem State.setTime_sound (s : State) (x : TimeState) : (s.setTime x).sound = s.sound := rfl
@[simp] theorem State.setTime_scan (s : State) (x : TimeState) : (s.setTime x).scan = s.scan := rfl
@[simp] theorem State.setTime_lamp (s : State) (x : TimeState) : (s.setTime x).lamp = s.lamp := rfl
@[simp] theorem State.setTime_hcp (s : State) (x : TimeState) : (s.setTime x).hcp = s.hcp := rfl
@[simp] theorem State.setTime_mover (s : State) (x : TimeState) : (s.setTime x).mover = s.mover := rfl
@[simp] theorem State.setTime_mvTurn (s : State) (x : TimeState) : (s.setTime x).mvTurn = s.mvTurn := rfl
@[simp] theorem State.setTime_ledgerDue (s : State) (x : TimeState) : (s.setTime x).ledgerDue = s.ledgerDue := rfl

@[simp] theorem State.setCal_pending (s : State) (x : CalState) : (s.setCal x).pending = s.pending := rfl
@[simp] theorem State.setCal_regs (s : State) (x : CalState) : (s.setCal x).regs = s.regs := rfl
@[simp] theorem State.setCal_shadow (s : State) (x : CalState) : (s.setCal x).shadow = s.shadow := rfl
@[simp] theorem State.setCal_reqRegs (s : State) (x : CalState) : (s.setCal x).reqRegs = s.reqRegs := rfl
@[simp] theorem State.setCal_latches (s : State) (x : CalState) : (s.setCal x).latches = s.latches := rfl
@[simp] theorem State.setCal_pRec (s : State) (x : CalState) : (s.setCal x).pRec = s.pRec := rfl
@[simp] theorem State.setCal_mem (s : State) (x : CalState) : (s.setCal x).mem = s.mem := rfl
@[simp] theorem State.setCal_lanes (s : State) (x : CalState) : (s.setCal x).lanes = s.lanes := rfl
@[simp] theorem State.setCal_out (s : State) (x : CalState) : (s.setCal x).out = s.out := rfl
@[simp] theorem State.setCal_freeCtr (s : State) (x : CalState) : (s.setCal x).freeCtr = s.freeCtr := rfl
@[simp] theorem State.setCal_evts (s : State) (x : CalState) : (s.setCal x).evts = s.evts := rfl
@[simp] theorem State.setCal_evtSeq (s : State) (x : CalState) : (s.setCal x).evtSeq = s.evtSeq := rfl
@[simp] theorem State.setCal_evtLost (s : State) (x : CalState) : (s.setCal x).evtLost = s.evtLost := rfl
@[simp] theorem State.setCal_io (s : State) (x : CalState) : (s.setCal x).io = s.io := rfl
@[simp] theorem State.setCal_peg (s : State) (x : CalState) : (s.setCal x).peg = s.peg := rfl
@[simp] theorem State.setCal_recd (s : State) (x : CalState) : (s.setCal x).recd = s.recd := rfl
@[simp] theorem State.setCal_slot (s : State) (x : CalState) : (s.setCal x).slot = s.slot := rfl
@[simp] theorem State.setCal_sys (s : State) (x : CalState) : (s.setCal x).sys = s.sys := rfl
@[simp] theorem State.setCal_time (s : State) (x : CalState) : (s.setCal x).time = s.time := rfl
@[simp] theorem State.setCal_ring (s : State) (x : CalState) : (s.setCal x).ring = s.ring := rfl
@[simp] theorem State.setCal_key (s : State) (x : CalState) : (s.setCal x).key = s.key := rfl
@[simp] theorem State.setCal_restr (s : State) (x : CalState) : (s.setCal x).restr = s.restr := rfl
@[simp] theorem State.setCal_field (s : State) (x : CalState) : (s.setCal x).field = s.field := rfl
@[simp] theorem State.setCal_jrn (s : State) (x : CalState) : (s.setCal x).jrn = s.jrn := rfl
@[simp] theorem State.setCal_cal (s : State) (x : CalState) : (s.setCal x).cal = x := rfl
@[simp] theorem State.setCal_sym (s : State) (x : CalState) : (s.setCal x).sym = s.sym := rfl
@[simp] theorem State.setCal_gauge (s : State) (x : CalState) : (s.setCal x).gauge = s.gauge := rfl
@[simp] theorem State.setCal_sound (s : State) (x : CalState) : (s.setCal x).sound = s.sound := rfl
@[simp] theorem State.setCal_scan (s : State) (x : CalState) : (s.setCal x).scan = s.scan := rfl
@[simp] theorem State.setCal_lamp (s : State) (x : CalState) : (s.setCal x).lamp = s.lamp := rfl
@[simp] theorem State.setCal_hcp (s : State) (x : CalState) : (s.setCal x).hcp = s.hcp := rfl
@[simp] theorem State.setCal_mover (s : State) (x : CalState) : (s.setCal x).mover = s.mover := rfl
@[simp] theorem State.setCal_mvTurn (s : State) (x : CalState) : (s.setCal x).mvTurn = s.mvTurn := rfl
@[simp] theorem State.setCal_ledgerDue (s : State) (x : CalState) : (s.setCal x).ledgerDue = s.ledgerDue := rfl

/-! ## Updates that are a `wr` -/

@[simp] theorem State.wrB_eq (s : State) (f : Fld) (b : Bool) : s.wrB f b = s.wr f (b2n b) := rfl
@[simp] theorem State.inc_eq (s : State) (f : Fld) : s.inc f = s.wr f (s.rd f + 1) := rfl
@[simp] theorem State.incSat_eq (s : State) (f : Fld) : s.incSat f = s.wr f (satInc (2 ^ f.width - 1) (s.rd f)) := rfl
@[simp] theorem State.add_eq (s : State) (f : Fld) (n : Nat) : s.add f n = s.wr f (s.rd f + n) := rfl
@[simp] theorem State.wr64_eq (s : State) (lo hi : Fld) (v : Nat) : s.wr64 lo hi v = (s.wr lo v).wr hi (v / 2 ^ 32) := rfl

/-! ## Registers are read from `regs` alone -/


@[simp] theorem State.wrReq_rd (s : State) (r : Nat) (f : Fld) (v : Nat) (g : Fld) : (s.wrReq r f v).rd g = s.rd g := rfl
@[simp] theorem State.emit_rd (s : State) (o : Output) (g : Fld) : (s.emit o).rd g = s.rd g := rfl
@[simp] theorem State.wrMem_rd (s : State) (a n v : Nat) (g : Fld) : (s.wrMem a n v).rd g = s.rd g := rfl
@[simp] theorem State.wrOctets_rd (s : State) (a : Nat) (l : List Byte) (g : Fld) : (s.wrOctets a l).rd g = s.rd g := rfl
@[simp] theorem State.setSlot_rd (s : State) (x : SlotState) (g : Fld) : (s.setSlot x).rd g = s.rd g := rfl
@[simp] theorem State.setSys_rd (s : State) (x : SysState) (g : Fld) : (s.setSys x).rd g = s.rd g := rfl
@[simp] theorem State.setKey_rd (s : State) (x : KeyState) (g : Fld) : (s.setKey x).rd g = s.rd g := rfl
@[simp] theorem State.setRestr_rd (s : State) (x : RestrState) (g : Fld) : (s.setRestr x).rd g = s.rd g := rfl
@[simp] theorem State.setScan_rd (s : State) (x : ScanState) (g : Fld) : (s.setScan x).rd g = s.rd g := rfl
@[simp] theorem State.setHcp_rd (s : State) (x : HcpState) (g : Fld) : (s.setHcp x).rd g = s.rd g := rfl
@[simp] theorem State.setSym_rd (s : State) (x : SymState) (g : Fld) : (s.setSym x).rd g = s.rd g := rfl
@[simp] theorem State.setGauge_rd (s : State) (x : GaugeState) (g : Fld) : (s.setGauge x).rd g = s.rd g := rfl
@[simp] theorem State.setSound_rd (s : State) (x : SoundState) (g : Fld) : (s.setSound x).rd g = s.rd g := rfl
@[simp] theorem State.setLamp_rd (s : State) (x : LampState) (g : Fld) : (s.setLamp x).rd g = s.rd g := rfl
@[simp] theorem State.setField_rd (s : State) (x : FieldState) (g : Fld) : (s.setField x).rd g = s.rd g := rfl
@[simp] theorem State.setTime_rd (s : State) (x : TimeState) (g : Fld) : (s.setTime x).rd g = s.rd g := rfl
@[simp] theorem State.setCal_rd (s : State) (x : CalState) (g : Fld) : (s.setCal x).rd g = s.rd g := rfl

end Sys2Proof.Machine
end

