-- ==== Sys2Proof/Laws/Store.lean ====
section
/-!
SUPPORT. Laws/Store.lean: the sparse maps and the memory: a read after a write, and that every memory operation keeps the
canonical form.
-/
namespace Sys2Proof.Machine

/-! ## Maps -/

theorem AMap.find_set_same {α : Type} (m : AMap α) (k : Nat) (v : α) : (m.set k v).find k = some v := by
  induction m with
  | nil => simp [AMap.set, AMap.find]
  | cons e m ih =>
    obtain ⟨k', v'⟩ := e
    simp only [AMap.set]
    split
    · simp [AMap.find]
    · split
      · simp [AMap.find]
      · rename_i h _
        simp [AMap.find, h, ih]

theorem AMap.find_set_other {α : Type} (m : AMap α) {k a : Nat} (v : α) (h : a ≠ k) : (m.set k v).find a = m.find a := by
  induction m with
  | nil => simp [AMap.set, AMap.find, h]
  | cons e m ih =>
    obtain ⟨k', v'⟩ := e
    simp only [AMap.set]
    split
    · rename_i hk
      subst hk
      simp [AMap.find, h]
    · split
      · simp [AMap.find, h]
      · simp only [AMap.find]
        split
        · rfl
        · exact ih

@[simp] theorem AMap.get_set_same {α : Type} (m : AMap α) (k : Nat) (v d : α) : (m.set k v).get k d = v := by
  simp [AMap.get, AMap.find_set_same]

theorem AMap.get_set_other {α : Type} (m : AMap α) {k a : Nat} (v d : α) (h : a ≠ k) : (m.set k v).get a d = m.get a d := by
  simp [AMap.get, AMap.find_set_other m v h]

theorem AMap.find_filter_none {α : Type} (m : AMap α) (p : Nat × α → Bool) (a : Nat) (h : ∀ v, p (a, v) = false) :
    AMap.find (m.filter p) a = none := by
  induction m with
  | nil => rfl
  | cons e m ih =>
    obtain ⟨k, v⟩ := e
    by_cases hp : p (k, v) = true
    · rw [List.filter_cons_of_pos hp]
      simp only [AMap.find]
      split
      · rename_i hk
        subst hk
        simp [h v] at hp
      · exact ih
    · rw [List.filter_cons_of_neg hp]
      exact ih

theorem AMap.find_filter_keep {α : Type} (m : AMap α) (p : Nat × α → Bool) (a : Nat) (h : ∀ v, p (a, v) = true) :
    AMap.find (m.filter p) a = AMap.find m a := by
  induction m with
  | nil => rfl
  | cons e m ih =>
    obtain ⟨k, v⟩ := e
    by_cases hp : p (k, v) = true
    · rw [List.filter_cons_of_pos hp]
      simp only [AMap.find]
      split
      · rfl
      · exact ih
    · rw [List.filter_cons_of_neg hp]
      simp only [AMap.find]
      split
      · rename_i hk
        subst hk
        exact absurd (h v) hp
      · exact ih

@[simp] theorem AMap.find_erase_same {α : Type} (m : AMap α) (k : Nat) : (m.erase k).find k = none := by
  exact AMap.find_filter_none m _ k (by simp)

theorem AMap.find_erase_other {α : Type} (m : AMap α) {k a : Nat} (h : a ≠ k) : (m.erase k).find a = m.find a := by
  exact AMap.find_filter_keep m _ a (by simp [h])

/-- A rising map's keys lie above its bound. -/
theorem AMap.rising_mono {α : Type} {m : AMap α} {a b : Nat} (h : AMap.rising (some b) m = true) (hab : a ≤ b) :
    AMap.rising (some a) m = true := by
  cases m with
  | nil => rfl
  | cons e m =>
    obtain ⟨k, v⟩ := e
    simp only [AMap.rising, Bool.and_eq_true, decide_eq_true_eq] at h ⊢
    exact ⟨by omega, h.2⟩

theorem AMap.rising_none {α : Type} {m : AMap α} {b : Nat} (h : AMap.rising (some b) m = true) :
    AMap.rising none m = true := by
  cases m with
  | nil => rfl
  | cons e m =>
    simp only [AMap.rising, Bool.and_eq_true] at h ⊢
    exact h.2

theorem AMap.rising_filter_some {α : Type} (p : Nat × α → Bool) (m : AMap α) :
    ∀ b, AMap.rising (some b) m = true → AMap.rising (some b) (m.filter p) = true := by
  induction m with
  | nil => intro b h; exact h
  | cons e m ih =>
    intro b h
    obtain ⟨k, v⟩ := e
    simp only [AMap.rising, Bool.and_eq_true, decide_eq_true_eq] at h
    by_cases hp : p (k, v) = true
    · rw [List.filter_cons_of_pos hp]
      simp only [AMap.rising, Bool.and_eq_true, decide_eq_true_eq]
      exact ⟨h.1, ih k h.2⟩
    · rw [List.filter_cons_of_neg hp]
      exact ih b (AMap.rising_mono h.2 (by omega))

theorem AMap.rising_filter {α : Type} (p : Nat × α → Bool) (m : AMap α) (h : AMap.rising none m = true) :
    AMap.rising none (m.filter p) = true := by
  cases m with
  | nil => rfl
  | cons e m =>
    obtain ⟨k, v⟩ := e
    simp only [AMap.rising] at h
    by_cases hp : p (k, v) = true
    · rw [List.filter_cons_of_pos hp]
      simpa [AMap.rising] using AMap.rising_filter_some p m k h
    · rw [List.filter_cons_of_neg hp]
      exact AMap.rising_none (AMap.rising_filter_some p m k h)

theorem AMap.rising_set_some {α : Type} (m : AMap α) (k : Nat) (v : α) :
    ∀ b, b < k → AMap.rising (some b) m = true → AMap.rising (some b) (m.set k v) = true := by
  induction m with
  | nil => intro b hb _; simp [AMap.set, AMap.rising, hb]
  | cons e m ih =>
    intro b hb h
    obtain ⟨k', v'⟩ := e
    simp only [AMap.rising, Bool.and_eq_true, decide_eq_true_eq] at h
    simp only [AMap.set]
    split
    · rename_i hk
      subst hk
      simp [AMap.rising, hb, h.2]
    · split
      · rename_i _ hlt
        simp [AMap.rising, hb, hlt, h.2]
      · simp only [AMap.rising, Bool.and_eq_true, decide_eq_true_eq]
        exact ⟨h.1, ih k' (by omega) h.2⟩

theorem AMap.rising_set {α : Type} (m : AMap α) (k : Nat) (v : α) (h : AMap.rising none m = true) :
    AMap.rising none (m.set k v) = true := by
  cases m with
  | nil => rfl
  | cons e m =>
    obtain ⟨k', v'⟩ := e
    simp only [AMap.rising] at h
    simp only [AMap.set]
    split
    · rename_i hk
      subst hk
      simpa [AMap.rising] using h
    · split
      · rename_i _ hlt
        simp [AMap.rising, hlt, h]
      · simp only [AMap.rising]
        exact AMap.rising_set_some m k v k' (by omega) h

theorem AMap.all_set {α : Type} (p : Nat × α → Bool) (m : AMap α) (k : Nat) (v : α) (h : m.all p = true)
    (hv : p (k, v) = true) : (m.set k v).all p = true := by
  induction m with
  | nil => simp [AMap.set, hv]
  | cons e m ih =>
    obtain ⟨k', v'⟩ := e
    simp only [List.all_cons, Bool.and_eq_true] at h
    simp only [AMap.set]
    split
    · simp only [List.all_cons, Bool.and_eq_true]; exact ⟨hv, h.2⟩
    · split
      · simp only [List.all_cons, Bool.and_eq_true]; exact ⟨hv, h.1, h.2⟩
      · simp only [List.all_cons, Bool.and_eq_true]; exact ⟨h.1, ih h.2⟩

/-! ## The memory -/

theorem Memory.wf_iff (m : Memory) :
    m.wf = true ↔ AMap.rising none m = true ∧ m.all (fun e => decide (e.2 ≠ memDefault e.1)) = true := by
  simp only [Memory.wf, Bool.and_eq_true]

/-- A part of a canonical memory is canonical. -/
theorem Memory.wf_filter (m : Memory) (p : Host.Cell → Bool) (h : m.wf = true) : Memory.wf (m.filter p) = true := by
  rw [Memory.wf_iff] at h ⊢
  refine ⟨AMap.rising_filter p m h.1, ?_⟩
  rw [List.all_eq_true] at h ⊢
  intro x hx
  exact h.2 x (List.mem_filter.mp hx).1

theorem Memory.wf_clear (m : Memory) (a n : Nat) (h : m.wf = true) : (m.clear a n).wf = true :=
  Memory.wf_filter m _ h

/-- A write keeps the canonical form. -/
theorem Memory.wf_write (m : Memory) (a : Nat) (b : Byte) (h : m.wf = true) : (m.write a b).wf = true := by
  unfold Memory.write
  split
  · exact Memory.wf_filter m _ h
  · rename_i hb
    rw [Memory.wf_iff] at h ⊢
    exact ⟨AMap.rising_set m a b h.1, AMap.all_set _ m a b h.2 (by simpa using hb)⟩

theorem Memory.wf_writeL (l : List Byte) : ∀ (m : Memory) (a : Nat), m.wf = true → (m.writeL a l).wf = true := by
  induction l with
  | nil => intro m a h; exact h
  | cons b l ih => intro m a h; exact ih _ _ (Memory.wf_write m a b h)

theorem Memory.wf_writeLE (m : Memory) (a n v : Nat) (h : m.wf = true) : (m.writeLE a n v).wf = true :=
  Memory.wf_writeL _ m a h

/-- A fold of writes keeps the canonical form. -/
theorem Memory.wf_foldl_write {β : Type} (l : List β) (f : β → Nat) (g : β → Byte) :
    ∀ m : Memory, m.wf = true → (l.foldl (fun m e => Memory.write m (f e) (g e)) m).wf = true := by
  induction l with
  | nil => intro m h; exact h
  | cons e l ih => intro m h; exact ih _ (Memory.wf_write m _ _ h)

/-- An octet written is the octet read. -/
theorem Memory.read_write_same (m : Memory) (a : Nat) (b : Byte) : (m.write a b).read a = b := by
  unfold Memory.write Memory.read
  split
  · rename_i h
    simp [h]
  · simp [AMap.find_set_same]

/-- A write leaves every other octet alone. -/
theorem Memory.read_write_other (m : Memory) {a c : Nat} (b : Byte) (h : c ≠ a) : (m.write a b).read c = m.read c := by
  unfold Memory.write Memory.read
  split
  · rw [AMap.find_erase_other m h]
  · rw [AMap.find_set_other m b h]

/-- Octets written from `a` up leave every octet outside them alone. -/
theorem Memory.read_writeL_other (l : List Byte) :
    ∀ (m : Memory) (a c : Nat), (c < a ∨ a + l.length ≤ c) → (m.writeL a l).read c = m.read c := by
  induction l with
  | nil => intro m a c _; rfl
  | cons b l ih =>
    intro m a c h
    simp only [List.length_cons] at h
    simp only [Memory.writeL]
    rw [ih _ _ _ (by omega), Memory.read_write_other m b (by omega)]

/-- The octets written from `a` up are the octets read. -/
theorem Memory.read_writeL_at (l : List Byte) :
    ∀ (m : Memory) (a i : Nat) (h : i < l.length), (m.writeL a l).read (a + i) = l[i] := by
  induction l with
  | nil => intro m a i h; simp at h
  | cons b l ih =>
    intro m a i h
    cases i with
    | zero =>
      simp only [Memory.writeL, Nat.add_zero, List.getElem_cons_zero]
      rw [Memory.read_writeL_other l _ _ _ (by omega), Memory.read_write_same]
    | succ i =>
      simp only [Memory.writeL, List.getElem_cons_succ]
      rw [show a + (i + 1) = a + 1 + i by omega]
      exact ih _ _ i (by simpa using h)

/-! ## Register fields -/

/-- A field written reads back cut to its width. -/
@[simp] theorem State.rd_wr_same (s : State) (f : Fld) (v : Nat) : (s.wr f v).rd f = v % 2 ^ f.width := by
  simp [State.rd, State.wr]

/-- A field written under another key is left alone. -/
theorem State.rd_wr_other (s : State) {f g : Fld} (v : Nat) (h : g.key ≠ f.key) : (s.wr f v).rd g = s.rd g := by
  simp [State.rd, State.wr, AMap.get_set_other _ _ _ h]

end Sys2Proof.Machine
end

