-- ==== Sys2Proof/Laws/Settle.lean ====
section
/-!
SUPPORT. Laws/Settle.lean: what ending a command changes: RUN of a block, and nothing else.
-/
namespace Sys2Proof.Machine

theorem notRun_iff (k : Nat) : notRun k ↔ ∀ b ∈ List.range 26, k ≠ (F.STATE_RUN b).key := by
  simp [notRun]

/-- A property kept by every single settling is kept by `settle`. -/
theorem State.settle_ind (P : State → Prop) (s : State) (h0 : P s)
    (h : ∀ t b, b < 26 → P t → P (t.settleRun b)) : P s.settle := by
  have gen : ∀ (l : List Nat), (∀ b ∈ l, b < 26) → ∀ t, P t → P (l.foldl State.settleRun t) := by
    intro l
    induction l with
    | nil => intro _ t ht; exact ht
    | cons b l ih =>
      intro hl t ht
      exact ih (fun c hc => hl c (List.mem_cons_of_mem b hc)) _ (h t b (hl b List.mem_cons_self) ht)
  exact gen (List.range 26) (by simp) s h0

/-- Settling writes RUN of its block or nothing. -/
theorem State.settleRun_cases (s : State) (b : Nat) :
    s.settleRun b = s ∨ s.settleRun b = s.wr (F.STATE_RUN b) (b2n (s.runsAs b)) := by
  unfold State.settleRun
  split
  · exact .inl rfl
  · exact .inr rfl

/-- What `settle` leaves alone: every field that is no RUN bit. -/
theorem State.settle_rd (s : State) (g : Fld) (h : notRun g.key) : s.settle.rd g = s.rd g := by
  refine State.settle_ind (fun t => t.rd g = s.rd g) s rfl ?_
  intro t b hb ht
  rcases State.settleRun_cases t b with e | e
  · rw [e]; exact ht
  · rw [e, State.rd_wr_other t _ (h b hb)]; exact ht

/-! ## Every part of State but the registers is as it was -/

@[simp] theorem State.settle_pending (s : State) : s.settle.pending = s.pending :=
  State.settle_ind (fun t => t.pending = s.pending) s rfl (fun t b _ ht => by
    rcases State.settleRun_cases t b with e | e <;> rw [e] <;> exact ht)

@[simp] theorem State.settle_shadow (s : State) : s.settle.shadow = s.shadow :=
  State.settle_ind (fun t => t.shadow = s.shadow) s rfl (fun t b _ ht => by
    rcases State.settleRun_cases t b with e | e <;> rw [e] <;> exact ht)

@[simp] theorem State.settle_reqRegs (s : State) : s.settle.reqRegs = s.reqRegs :=
  State.settle_ind (fun t => t.reqRegs = s.reqRegs) s rfl (fun t b _ ht => by
    rcases State.settleRun_cases t b with e | e <;> rw [e] <;> exact ht)

@[simp] theorem State.settle_latches (s : State) : s.settle.latches = s.latches :=
  State.settle_ind (fun t => t.latches = s.latches) s rfl (fun t b _ ht => by
    rcases State.settleRun_cases t b with e | e <;> rw [e] <;> exact ht)

@[simp] theorem State.settle_pRec (s : State) : s.settle.pRec = s.pRec :=
  State.settle_ind (fun t => t.pRec = s.pRec) s rfl (fun t b _ ht => by
    rcases State.settleRun_cases t b with e | e <;> rw [e] <;> exact ht)

@[simp] theorem State.settle_mem (s : State) : s.settle.mem = s.mem :=
  State.settle_ind (fun t => t.mem = s.mem) s rfl (fun t b _ ht => by
    rcases State.settleRun_cases t b with e | e <;> rw [e] <;> exact ht)

@[simp] theorem State.settle_lanes (s : State) : s.settle.lanes = s.lanes :=
  State.settle_ind (fun t => t.lanes = s.lanes) s rfl (fun t b _ ht => by
    rcases State.settleRun_cases t b with e | e <;> rw [e] <;> exact ht)

@[simp] theorem State.settle_out (s : State) : s.settle.out = s.out :=
  State.settle_ind (fun t => t.out = s.out) s rfl (fun t b _ ht => by
    rcases State.settleRun_cases t b with e | e <;> rw [e] <;> exact ht)

@[simp] theorem State.settle_freeCtr (s : State) : s.settle.freeCtr = s.freeCtr :=
  State.settle_ind (fun t => t.freeCtr = s.freeCtr) s rfl (fun t b _ ht => by
    rcases State.settleRun_cases t b with e | e <;> rw [e] <;> exact ht)

@[simp] theorem State.settle_evts (s : State) : s.settle.evts = s.evts :=
  State.settle_ind (fun t => t.evts = s.evts) s rfl (fun t b _ ht => by
    rcases State.settleRun_cases t b with e | e <;> rw [e] <;> exact ht)

@[simp] theorem State.settle_evtSeq (s : State) : s.settle.evtSeq = s.evtSeq :=
  State.settle_ind (fun t => t.evtSeq = s.evtSeq) s rfl (fun t b _ ht => by
    rcases State.settleRun_cases t b with e | e <;> rw [e] <;> exact ht)

@[simp] theorem State.settle_evtLost (s : State) : s.settle.evtLost = s.evtLost :=
  State.settle_ind (fun t => t.evtLost = s.evtLost) s rfl (fun t b _ ht => by
    rcases State.settleRun_cases t b with e | e <;> rw [e] <;> exact ht)

@[simp] theorem State.settle_io (s : State) : s.settle.io = s.io :=
  State.settle_ind (fun t => t.io = s.io) s rfl (fun t b _ ht => by
    rcases State.settleRun_cases t b with e | e <;> rw [e] <;> exact ht)

@[simp] theorem State.settle_peg (s : State) : s.settle.peg = s.peg :=
  State.settle_ind (fun t => t.peg = s.peg) s rfl (fun t b _ ht => by
    rcases State.settleRun_cases t b with e | e <;> rw [e] <;> exact ht)

@[simp] theorem State.settle_recd (s : State) : s.settle.recd = s.recd :=
  State.settle_ind (fun t => t.recd = s.recd) s rfl (fun t b _ ht => by
    rcases State.settleRun_cases t b with e | e <;> rw [e] <;> exact ht)

@[simp] theorem State.settle_slot (s : State) : s.settle.slot = s.slot :=
  State.settle_ind (fun t => t.slot = s.slot) s rfl (fun t b _ ht => by
    rcases State.settleRun_cases t b with e | e <;> rw [e] <;> exact ht)

@[simp] theorem State.settle_sys (s : State) : s.settle.sys = s.sys :=
  State.settle_ind (fun t => t.sys = s.sys) s rfl (fun t b _ ht => by
    rcases State.settleRun_cases t b with e | e <;> rw [e] <;> exact ht)

@[simp] theorem State.settle_time (s : State) : s.settle.time = s.time :=
  State.settle_ind (fun t => t.time = s.time) s rfl (fun t b _ ht => by
    rcases State.settleRun_cases t b with e | e <;> rw [e] <;> exact ht)

@[simp] theorem State.settle_ring (s : State) : s.settle.ring = s.ring :=
  State.settle_ind (fun t => t.ring = s.ring) s rfl (fun t b _ ht => by
    rcases State.settleRun_cases t b with e | e <;> rw [e] <;> exact ht)

@[simp] theorem State.settle_key (s : State) : s.settle.key = s.key :=
  State.settle_ind (fun t => t.key = s.key) s rfl (fun t b _ ht => by
    rcases State.settleRun_cases t b with e | e <;> rw [e] <;> exact ht)

@[simp] theorem State.settle_restr (s : State) : s.settle.restr = s.restr :=
  State.settle_ind (fun t => t.restr = s.restr) s rfl (fun t b _ ht => by
    rcases State.settleRun_cases t b with e | e <;> rw [e] <;> exact ht)

@[simp] theorem State.settle_field (s : State) : s.settle.field = s.field :=
  State.settle_ind (fun t => t.field = s.field) s rfl (fun t b _ ht => by
    rcases State.settleRun_cases t b with e | e <;> rw [e] <;> exact ht)

@[simp] theorem State.settle_jrn (s : State) : s.settle.jrn = s.jrn :=
  State.settle_ind (fun t => t.jrn = s.jrn) s rfl (fun t b _ ht => by
    rcases State.settleRun_cases t b with e | e <;> rw [e] <;> exact ht)

@[simp] theorem State.settle_cal (s : State) : s.settle.cal = s.cal :=
  State.settle_ind (fun t => t.cal = s.cal) s rfl (fun t b _ ht => by
    rcases State.settleRun_cases t b with e | e <;> rw [e] <;> exact ht)

@[simp] theorem State.settle_sym (s : State) : s.settle.sym = s.sym :=
  State.settle_ind (fun t => t.sym = s.sym) s rfl (fun t b _ ht => by
    rcases State.settleRun_cases t b with e | e <;> rw [e] <;> exact ht)

@[simp] theorem State.settle_gauge (s : State) : s.settle.gauge = s.gauge :=
  State.settle_ind (fun t => t.gauge = s.gauge) s rfl (fun t b _ ht => by
    rcases State.settleRun_cases t b with e | e <;> rw [e] <;> exact ht)

@[simp] theorem State.settle_sound (s : State) : s.settle.sound = s.sound :=
  State.settle_ind (fun t => t.sound = s.sound) s rfl (fun t b _ ht => by
    rcases State.settleRun_cases t b with e | e <;> rw [e] <;> exact ht)

@[simp] theorem State.settle_scan (s : State) : s.settle.scan = s.scan :=
  State.settle_ind (fun t => t.scan = s.scan) s rfl (fun t b _ ht => by
    rcases State.settleRun_cases t b with e | e <;> rw [e] <;> exact ht)

@[simp] theorem State.settle_lamp (s : State) : s.settle.lamp = s.lamp :=
  State.settle_ind (fun t => t.lamp = s.lamp) s rfl (fun t b _ ht => by
    rcases State.settleRun_cases t b with e | e <;> rw [e] <;> exact ht)

@[simp] theorem State.settle_hcp (s : State) : s.settle.hcp = s.hcp :=
  State.settle_ind (fun t => t.hcp = s.hcp) s rfl (fun t b _ ht => by
    rcases State.settleRun_cases t b with e | e <;> rw [e] <;> exact ht)

@[simp] theorem State.settle_mover (s : State) : s.settle.mover = s.mover :=
  State.settle_ind (fun t => t.mover = s.mover) s rfl (fun t b _ ht => by
    rcases State.settleRun_cases t b with e | e <;> rw [e] <;> exact ht)

@[simp] theorem State.settle_ledgerDue (s : State) : s.settle.ledgerDue = s.ledgerDue :=
  State.settle_ind (fun t => t.ledgerDue = s.ledgerDue) s rfl (fun t b _ ht => by
    rcases State.settleRun_cases t b with e | e <;> rw [e] <;> exact ht)

/-! ## The end of a command -/

/-- A state whose RUN bits read as they should is settled. -/
theorem State.settle_fixed (s : State) (h : ∀ b, b < 26 → s.run b = s.runsAs b) : s.settle = s :=
  State.settle_ind (fun t => t = s) s rfl (fun t b hb ht => by
    subst ht
    simp [State.settleRun, h b hb])

/-- `finish` answers a next state: the effect settled, with the queue as it was. -/
theorem finish_next (s t : State) : finish s t = .next { t.settle with pending := s.pending } := rfl

/-- The queue is no register. -/
@[simp] theorem State.pending_rd (s : State) (p : List Instr) (g : Fld) : State.rd { s with pending := p } g = s.rd g := rfl

/-- A field read after a command's end. -/
theorem finish_rd (s t : State) (g : Fld) (h : notRun g.key) :
    State.rd { t.settle with pending := s.pending } g = t.rd g :=
  (State.pending_rd t.settle s.pending g).trans (State.settle_rd t g h)

end Sys2Proof.Machine
end

