-- ==== Sys2Proof/Laws/Rules.lean ====
section
/-!
SUPPORT. Laws/Rules.lean: what the shared operations that most commands end in can do: the end of a command, a register
write of a command row that is accepted or rejected, addresses of register blocks.
-/
namespace Sys2Proof.Machine

/-- A command answers a next state with a property when its effect, settled, has it. -/
theorem finish_has {s u : State} {P : State → Prop} (h : P { u.settle with pending := s.pending }) :
    ∃ t, finish s u = .next t ∧ P t := ⟨_, rfl, h⟩

/-- The state a command answers is its effect, settled, with the queue as it was. -/
theorem finish_inv {s u t : State} (h : finish s u = .next t) : t = { u.settle with pending := s.pending } := by
  simp only [finish, Host.Outcome.next.injEq] at h
  exact h.symm

/-- The range of the register blocks is the one that answers an address of a register block. -/
theorem regionOf_regs {a : Nat} (h1 : 0x40000000 ≤ a) (h2 : a < 0x401A0000) : regionOf a = some .regs := by
  have same : ∀ r ∈ regionMap, decide (r.1 ≤ a ∧ a < r.2.1) = (r.2.2 == Region.regs) := by
    intro r hr
    simp only [regionMap, List.mem_cons, List.not_mem_nil, or_false] at hr
    rcases hr with e | e | e | e | e | e | e | e | e | e | e | e | e | e | e <;>
      (subst e; first
        | exact (decide_eq_false (by dsimp only; omega)).trans rfl
        | exact (decide_eq_true ⟨h1, h2⟩).trans rfl)
  have found : ∀ l : List (Nat × Nat × Region), (∀ r ∈ l, decide (r.1 ≤ a ∧ a < r.2.1) = (r.2.2 == Region.regs)) →
      l.find? (fun r => decide (r.1 ≤ a ∧ a < r.2.1)) = l.find? (fun r => r.2.2 == Region.regs) := by
    intro l
    induction l with
    | nil => intro _; rfl
    | cons r l ih =>
      intro hl
      simp only [List.find?, hl r List.mem_cons_self, ih (fun q hq => hl q (List.mem_cons_of_mem _ hq))]
  unfold regionOf
  rw [found regionMap same]
  rfl

/-- An address inside register block `b` is up when the block's domain is ON. -/
theorem State.addrUp_block (s : State) (b a : Nat) (hb : b < 26) (h1 : blockBase b ≤ a) (h2 : a < blockBase b + 0x10000) :
    s.addrUp a = s.blockOn b := by
  unfold blockBase at h1 h2
  have e : (a - 0x40000000) / 0x10000 = b := by omega
  simp only [State.addrUp, regionOf_regs (by omega : 0x40000000 ≤ a) (by omega), State.regionUp, e]

/-- A write that is checked and accepted is applied (R41). -/
theorem State.regWrite_accept (s : State) {req a v : Nat} {x : WriteMore} {b off : Nat} {r : RegDef} {ix : List Nat}
    (hup : s.addrUp a = true) (hal : a % 4 = 0) (hb : regBlock a = some (b, off)) (hl : lookupReg a = some (r, ix))
    (hq : ¬ (b = bPEG ∧ off = 8)) (hw : s.writeReason req a b r ix v = 0) :
    s.regWrite req a v x = s.applyWrite req a b r ix v x := by
  unfold State.regWrite
  rw [if_neg (by simp [hup]), if_neg (by simp [hal]), hb, hl]
  simp only [if_neg hq, hw]

/-- A write that is checked and rejected changes the reject registers alone (R41). -/
theorem State.regWrite_reject (s : State) {req a v : Nat} {x : WriteMore} {b off : Nat} {r : RegDef} {ix : List Nat}
    (hup : s.addrUp a = true) (hal : a % 4 = 0) (hb : regBlock a = some (b, off)) (hl : lookupReg a = some (r, ix))
    (hq : ¬ (b = bPEG ∧ off = 8)) (hw : s.writeReason req a b r ix v ≠ 0) :
    s.regWrite req a v x = (stCFG, s.reject b off (s.writeReason req a b r ix v)) := by
  unfold State.regWrite
  rw [if_neg (by simp [hup]), if_neg (by simp [hal]), hb, hl]
  simp only [if_neg hq]

/-- Writing a register that stores nothing itself changes no field. -/
theorem State.putFields_none (s : State) (req a b : Nat) (r : RegDef) (ix : List Nat) (v : Nat)
    (h : r.flds.all (fun f => f.acc == .wo || f.acc == .ro || f.acc == .rov) = true) :
    s.putFields req a b r ix v = s := by
  unfold State.putFields
  generalize r.flds = l at h
  induction l generalizing s with
  | nil => rfl
  | cons f l ih =>
    simp only [List.all_cons, Bool.and_eq_true, Bool.or_eq_true, beq_iff_eq] at h
    simp only [List.foldl_cons]
    have e : s.putField req b (s.fieldFor req a ix f) f (bits v f.lo f.width) = s := by
      unfold State.putField
      rcases h.1 with (h1 | h1) | h1 <;> simp [h1]
    rw [e]
    exact ih s h.2

/-- The check of a word for a register that stores nothing looks at the state as it will stand, and at no field of it. -/
theorem State.writeReason_none (s : State) (req a b : Nat) (r : RegDef) (ix : List Nat) (v : Nat)
    (h : r.flds.all (fun f => f.acc == .wo || f.acc == .ro || f.acc == .rov) = true)
    (htag : r.written.all (fun f => f.tag != .s) = true)
    (hchk : r.written.all (fun f => chkField f.chk f.width (bits v f.lo f.width) == (true, true)) = true)
    (hrec : ¬ (b = bREC ∧ r.off = 0x0100))
    (hlim : State.limits s (s.ahead b) b r.off (ix.headD 0) = true)
    (hown : s.ownLimit req b r.off v = true) : s.writeReason req a b r ix v = 0 := by
  have hf : ∀ (l : List FieldDef) (t : State), l.all (fun f => f.acc == .wo || f.acc == .ro || f.acc == .rov) = true →
      l.foldl (fun (t : State) f =>
        if f.acc = .rw ∧ ¬ f.perReq then t.wr (s.fieldFor req a ix f) (bits v f.lo f.width) else t) t = t := by
    intro l
    induction l with
    | nil => intro t _; rfl
    | cons f l ih =>
      intro t hl
      simp only [List.all_cons, Bool.and_eq_true, Bool.or_eq_true, beq_iff_eq] at hl
      simp only [List.foldl_cons]
      rw [if_neg (by rcases hl.1 with (h1 | h1) | h1 <;> simp [h1])]
      exact ih t hl.2
  have hf1 := hf r.flds (s.ahead b) h
  have h1 : r.written.any (fun f => f.tag == .s && s.staticNow b r.off (ix.headD 0) &&
      bits v f.lo f.width != s.rd (s.fieldFor req a ix f)) = false := by
    rw [List.any_eq_false]
    intro f hf
    have := List.all_eq_true.mp htag f hf
    simp only [bne_iff_ne, ne_eq] at this
    simp [this]
  have h2 : r.written.any (fun f => !(chkField f.chk f.width (bits v f.lo f.width)).1) = false := by
    rw [List.any_eq_false]
    intro f hf
    have := List.all_eq_true.mp hchk f hf
    simp only [beq_iff_eq] at this
    simp [this]
  have h3 : r.written.any (fun f => !(chkField f.chk f.width (bits v f.lo f.width)).2) = false := by
    rw [List.any_eq_false]
    intro f hf
    have := List.all_eq_true.mp hchk f hf
    simp only [beq_iff_eq] at this
    simp [this]
  have h4 : (b == bREC && r.off == 0x0100) = false := by
    simpa using hrec
  simp only [State.writeReason, hf1, h1, h2, h3, h4, hlim, hown]
  simp

/-- A command row's write of a register that stores nothing: what the word orders, and its answer. -/
theorem State.rowWrite_act (s : State) {req a v : Nat} {x : WriteMore} {b off : Nat} {r : RegDef} {ix : List Nat}
    (hup : s.addrUp a = true) (hal : a % 4 = 0) (hb : regBlock a = some (b, off)) (hl : lookupReg a = some (r, ix))
    (h : r.flds.all (fun f => f.acc == .wo || f.acc == .ro || f.acc == .rov) = true)
    (htag : r.written.all (fun f => f.tag != .s) = true)
    (hchk : r.written.all (fun f => chkField f.chk f.width (bits v f.lo f.width) == (true, true)) = true)
    (hlim : State.limits s (s.ahead b) b r.off (ix.headD 0) = true)
    (hown : s.ownLimit req b r.off v = true)
    (hb' : b ∈ [bSYS, bFRET, bPEG, bMOVER, bNODE, bLAMP, bCAPO, bTIME, bKEY, bRESTR, bREC, bLEDGER])
    (ho : ¬ (b = bPEG ∧ off = 8) ∧ ¬ (b = bMOVER ∧ r.off = 0) ∧ ¬ (b = bLAMP ∧ r.off = 0) ∧
      ¬ (b = bKEY ∧ r.off = 0x0100) ∧ ¬ (b = bREC ∧ r.off = 0x0100)) :
    s.rowWrite req a v x =
      (s.regAct req b r.off (ix.headD 0) v x).2.answer req a (s.regAct req b r.off (ix.headD 0) v x).1 0 := by
  unfold State.rowWrite
  rw [State.regWrite_accept s hup hal hb hl ho.1 (State.writeReason_none s req a b r ix v h htag hchk ho.2.2.2.2 hlim hown)]
  have haft : ∀ u : State, u.afterWrite s req b r.off (ix.headD 0) = u := by
    intro u
    unfold State.afterWrite
    obtain ⟨_, h2, h3, h4, _⟩ := ho
    simp only [List.mem_cons, List.not_mem_nil, or_false] at hb'
    rcases hb' with e | e | e | e | e | e | e | e | e | e | e | e <;>
      (subst e; simp_all [blockNo, bSYS, bFRET, bPEG, bMOVER, bNODE, bLAMP, bCAPO, bTIME, bKEY, bRESTR, bREC, bLEDGER,
        bPWR, bFPLC, bFRAD, bSYM, bGAUGE, bSOUND, bSCAN, bRINGA, bRINGB, bHCP, bRTC, bSLOT])
  have hring : ¬ ((b = bRINGA ∨ b = bRINGB) ∧ r.off = 0 ∧ ¬ bitAt v 0 = true) := by
    simp only [List.mem_cons, List.not_mem_nil, or_false] at hb'
    rcases hb' with e | e | e | e | e | e | e | e | e | e | e | e <;>
      (subst e; simp [blockNo, bSYS, bFRET, bPEG, bMOVER, bNODE, bLAMP, bCAPO, bTIME, bKEY, bRESTR, bREC, bLEDGER, bRINGA, bRINGB])
  have hrtc : ¬ (b = bRTC ∧ r.off = 0x0008) := by
    simp only [List.mem_cons, List.not_mem_nil, or_false] at hb'
    rcases hb' with e | e | e | e | e | e | e | e | e | e | e | e <;>
      (subst e; simp [blockNo, bSYS, bFRET, bPEG, bMOVER, bNODE, bLAMP, bCAPO, bTIME, bKEY, bRESTR, bREC, bLEDGER, bRTC])
  unfold State.applyWrite
  simp only [if_neg hrtc, if_neg hring, State.putFields_none s req a b r ix _ h, haft]

end Sys2Proof.Machine
end

