-- ==== Sys2Proof/Tests/Slice0.lean ====
section
/-!
SUPPORT. Tests/Slice0.lean: a smoke test of the well-formedness checks, values of the spec worked by hand, and for every
statement of Certificates/Slice0/Obligations.lean that has hypotheses a concrete state and operands that meet them, clause by
clause.
-/
open Sys2Proof Sys2Proof.Machine
namespace Sys2Proof.Tests
set_option Elab.async false
set_option linter.unusedVariables false

/-! ## Small states -/

/-- Every domain ON. -/
def domsOn : AMap Nat := (List.range 50).map (fun d => ((F.PWR_DOM_STATE_STATE d).key, 2))

/-- RUN of the blocks that run with every domain ON and every enable at its Reset value. -/
def runsOn : AMap Nat :=
  [0, 1, 2, 3, 4, 5, 18, 19, 20, 21, 22, 23, 24, 25].map (fun b => ((F.STATE_RUN b).key, 1))

/-- The machine out of reset with every domain ON and the fields of `l` as given. The readers of a map take the first entry
of a key. -/
def up (l : List (Fld × Nat)) : State :=
  { State.reset with
    regs := l.map (fun p => (p.1.key, p.2)) ++ domsOn ++ runsOn
    slot := { State.reset.slot with logicOn := true, released := true } }

/-- The register at `a`, with its indices. -/
def regAt (a : Nat) : RegDef × List Nat := (lookupReg a).getD (⟨"", 0, [], []⟩, [])

/-- The first low word of block `b`'s 64-bit values. -/
def pairOff (b : Nat) : Nat := ((pairs64.find? (fun p => p.1 == b)).map (fun p => p.2.1)).getD 0

/-- Both pins of the slot low. -/
def seated : List (Fld × Nat) := [(F.SLOT_STATUS_PRESENT, 1), (F.SLOT_STATUS_LEVER, 1)]

/-- The machine with the Pegbox `p`. -/
def peg (l : List (Fld × Nat)) (p : PegState) : State := { up l with peg := p }
/-- An enabled queue of profile 1. -/
def enabled : Desc := { Desc.zero with enable := true, profile := 1 }
/-- Room for packets of profile 1. -/
def pool : List (Fld × Nat) :=
  [(F.PEG_CELL_FREE_FREE, 524288), (F.PEG_CREDIT_CAP 4, 100), (F.PEG_PROFILE_A_MAX_PKT_CELLS 1, 144),
   (F.PEG_PROFILE_A_MAX_CELLS 1, 400), (F.PEG_PROFILE_B_MAX_PKTS 1, 10)]
/-- A long time after. -/
def later (s : State) : State := { s with sys := { s.sys with refTick := 10 ^ 12 } }
/-- Cabinet 3 is configured. -/
def headed (s : State) : State := { s with sys := { s.sys with cfgHdr := some ⟨0, 1, 0, 0, 0, 3, 0, 0, 0⟩ } }
/-- Octets of node table entry `e`. -/
def nodeAt (e : Nat) (l : List (Nat × Nat)) : Memory := l.map (fun p => (256 * e + p.1, BitVec.ofNat 8 p.2))
/-- A field network in which carrier feeders and key slot 5 are up. -/
def net (l : List (Fld × Nat)) (p : PegState) (f : FieldState) (m : Memory) : State :=
  headed { up ((F.SLOT_STATUS_ADDR, 0) :: (F.KEY_SLOT_STAT_STATE 5, 1) :: (F.FPLC_FEEDER_EN_EN, 0xFFF) :: l) with
    peg := p, field := { f with started := true }, mem := m, jrn := { State.reset.jrn with sfn := [(192, 0)] }
    key := { State.reset.key with derived := [5] } }
/-- A claim of `port` on the packet of queue `q`. -/
def claimed (q port len : Nat) : Claim := ⟨q, 3, port, false, 0, 0, 1, len, 0, false⟩
/-- A Pegbox that holds that packet alone. -/
def holding (q port len : Nat) : PegState :=
  { PegState.start with
    freeHead := 1
    descs := [(q, { enabled with claimed := true })]
    tags := [(0, ⟨1, true, len, true, port, .none⟩)]
    claims := [(q, claimed q port len)] }
/-- The four ring ports hold their associations. -/
def secured : List (Fld × Nat) := [0, 1].flatMap (fun x => [0, 1].map (fun i => (F.RING_PORT_STAT_SA_OK x i, 1)))
/-- A configured module at position 5 of ring 3, both paths running. -/
def ringed (l : List (Fld × Nat)) (r : RingState) : State :=
  { up (secured ++ (F.STATE_RUN bRINGA, 1) :: (F.STATE_RUN bRINGB, 1) :: (F.CAPO_RING_ID_RING, 3) :: (F.CAPO_RING_ID_POSITION, 5) :: l) with
    ring := r, sys := { State.reset.sys with cfg := some ⟨[], [], [], 0, [], [], [], []⟩ } }
/-- Path A alone has a history. -/
def pathA (p : RingPathState) : RingState := { RingState.start with a := p }
/-- The active path is A. -/
def onA : List (Fld × Nat) := [(F.CAPO_STAT_GRANT, 1), (F.CAPO_STAT_STATE, 1)]
/-- A data frame of class 2. -/
def rf (bc : Bool) (dst src : BitVec 14) (hops : Byte) (l : List Byte) : RingFrame := ⟨0, 5, ringType, 1, 2, false, bc, dst, src, 9, hops, 1, 0, l⟩
/-- A control frame of type `typ` from `src`. -/
def ctl (typ : BitVec 4) (src : BitVec 14) (l : List Byte) : RingFrame := ⟨0, 5, ringType, typ, 0, true, true, 0x3FFF, src, 0, 9, 0, 0, l⟩

/-! ## Ill-formed commands are refused -/

def zeroFrame (n : Nat) : RingFrame := ⟨0, 1, ringType, 1, 0, false, false, 0, 0, 0, 0, 0, 0, List.replicate n 0⟩
/-- What came on a field medium: `n` octets. -/
def zeroRx (n : Nat) : FieldRx := ⟨0, List.replicate n 0, none, ⟨0, 0, 0⟩, none⟩
def zeroHcp : HcpHdr := ⟨0, 0, false⟩
def goodSample : GaugeSample := ⟨List.replicate 32 0, List.replicate 16 0, []⟩

theorem test_wf_word_kind : Instr.wf (.wordCrossing 4 0 (some (mkWord 9 4 6 1 true 0 0 5)) .none 0 0) = false := by decide +kernel
theorem test_wf_word_source : Instr.wf (.wordCrossing 5 0 (some (mkWord 9 4 0 1 true 0 0 5)) .none 0 0) = false := by decide +kernel
theorem test_wf_slot_payload : Instr.wf (.slotBadRequest 0 0 (List.replicate 33 0) 250) = false := by decide +kernel
theorem test_wf_peg_kind : Instr.wf (.pegOpen 0 (mkWord 17 4 1 9 false 0 0 0) []) = false ∧
    Instr.wf (.dequeue 0 (mkWord 17 4 0 9 false 0 0 0)) = false := by decide +kernel
theorem test_wf_field_frame : Instr.wf (.ackReceived 0 (zeroRx 2053)) = false ∧
    Instr.wf (.joinReq 0 { zeroRx 40 with tone := some (true, 1, [2, 2]) } 0 true true) = false ∧
    Instr.wf (.imageEntryReceived 0 5 0 (List.replicate 33 0) none ⟨0, 0, 0⟩) = false := by decide +kernel
theorem test_wf_gauge : Instr.wf (.gaugeSample { goodSample with lo := [] }) = false ∧
    Instr.wf (.gaugeSample { goodSample with hi := List.replicate 16 8388608 }) = false ∧
    Instr.wf (.gaugeSample { goodSample with half := [3] }) = false ∧
    Instr.wf (.lineCycleBoundary goodSample ⟨0, 0, []⟩) = false := by decide +kernel
theorem test_wf_capture : Instr.wf (.captureComplete 0 true (List.replicate 32769 0) [] 0 0 false false false) = false := by
  decide +kernel
theorem test_wf_lamp : Instr.wf (.lampFrameEnd ⟨[], 0⟩) = false := by decide +kernel
theorem test_wf_ring_frame : Instr.wf (.ringDataReceived 0 (zeroFrame 9201) true) = false := by decide +kernel
theorem test_wf_hcp : Instr.wf (.hcpRegRead zeroHcp (List.replicate 286 0)) = false ∧
    Instr.wf (.hcpBlockWrite zeroHcp 0 (List.replicate 1133 0)) = false ∧
    Instr.wf (.ctSegment zeroHcp ⟨0, 1, 0, 0, 0, 0, List.replicate 1125 0⟩) = false := by decide +kernel
theorem test_wf_feed : Instr.wf (.restrFragment 0 0 0 0 0 (List.replicate 8193 0) 0) = false ∧
    Instr.wf (.restrWant 0 0 0 (List.replicate 33 0)) = false := by decide +kernel
theorem test_wf_trigger : Instr.wf (.recTrigger 2 0 (List.replicate 65 0)) = false := by decide +kernel
theorem test_wf_frames_of_full_length : Instr.wf (.ringDataReceived 0 (zeroFrame 9200) true) = true ∧
    Instr.wf (.ackReceived 0 (zeroRx 2052)) = true ∧ Instr.wf (.lineCycleBoundary goodSample ⟨0, 0, List.replicate 12 0⟩) = true := by
  decide +kernel

def deadDev : PrimerDev :=
  ⟨0, false, [], [], [], false, 2 ^ 40, false, false, ⟨none, ⟨[], [], [], 0, [], [], [], []⟩⟩,
    ⟨none, ⟨[], [], [], 0, [], [], [], []⟩⟩⟩
/-- A word of kind `k`, LAST or not. -/
def wordOf (k : Nat) (last : Bool) : FWord := mkWord 17 4 k 9 last 0 0 0

theorem test_wf_primer : Instr.wf (.presentMate ⟨5, true, some deadDev⟩) = false := by decide +kernel
theorem test_wf_peg_words : Instr.wf (.pegDataWord (wordOf 1 false) []) = false ∧ Instr.wf (.pegAbort 0 (wordOf 2 true)) = false ∧
    Instr.wf (.pegFlushCmd 0 (wordOf 3 false)) = false ∧ Instr.wf (.chainRead 0 (wordOf 1 true) 1 [] []) = false ∧
    Instr.wf (.pegRelease 0 (wordOf 1 true)) = false ∧ Instr.wf (.pegRelease 0 (wordOf 3 true)) = true := by decide +kernel
theorem test_wf_node_frames : Instr.wf (.dataFrameReceived 0 (zeroRx 2053) false 0 0) = false ∧
    Instr.wf (.nodeSleep 0 (zeroRx 2053) 0 0) = false := by decide +kernel
theorem test_wf_ring_messages : Instr.wf (.continuityReceived 0 (zeroFrame 9201) 0) = false ∧
    Instr.wf (.creditReceived 0 (zeroFrame 9201)) = false ∧ Instr.wf (.probeReceived 0 (zeroFrame 9201) 0) = false ∧
    Instr.wf (.announceReceived 0 (zeroFrame 9201) 0) = false ∧ Instr.wf (.joinReceived 0 (zeroFrame 9201)) = false := by
  decide +kernel
theorem test_wf_hcp_items : Instr.wf (.hcpRegWrite zeroHcp (List.replicate 143 (0, 0))) = false ∧
    Instr.wf (.requestForward zeroHcp 0 0 (List.replicate 1141 0)) = false ∧
    Instr.wf (.forwardedResponse 0 0 0 0 0 false (List.replicate 1141 0)) = false ∧
    Instr.wf (.forwardedEvent 0 false (List.replicate 1141 0)) = false := by decide +kernel

/-! ## The spec's worked examples -/

/-- The Sympath event queue of node slot 1,205 lies on Pegbox port 17 (the example after R20). -/
theorem test_queue_port : 1205 * 64 + 34 = 77154 ∧ 16 + qPort 77154 = 17 := by decide +kernel

/-- The lamp at level 40,020 (the example of the lamp chapter): segment 13 starts at 203.125 µs and gets 625 ticks, segments
0, 2 and 4 of the first eight get 626. -/
theorem test_lamp_spreading : (spreadTicks 40020 6).length = 64 ∧ (spreadTicks 40020 6)[13]? = some (13312, 625) ∧
    ((spreadTicks 40020 6).take 8).map (·.2) = [626, 625, 626, 625, 626, 625, 625, 625] := by decide +kernel

/-- The board at 72 °C (the same example): 64 %. -/
theorem test_lamp_derating :
    (up [(F.LAMP_NTC_B_T_START 2, 60), (F.LAMP_NTC_B_T_STOP 2, 80), (F.LAMP_NTC_B_T_SHUT 2, 90),
      (F.LAMP_NTC_B_MIN_PCT 2, 40)]).scaleAt 2 720 = 64 := by decide +kernel

/-- Node 7 an hour after its last frame, with PSI 14,200 and NUPD 12. -/
def hourly : State :=
  let s := net [] PegState.start FieldState.start (nodeAt 7 [(36, 0x78), (37, 0x37), (44, 12), (45, 1)])
  { s with time := { s.time with tb2 := 3600000 * 1000000 * 65536 } }

/-- The example of the field network chapter: prediction and half-width of the window, in ns. -/
theorem test_drift_window : hourly.window 7 = (51120000, 7700000) := by decide +kernel

/-- The same example: the record after a frame 50,668,000 ns from its nominal start. -/
theorem test_drift_record : (hourly.drift 7 50668000 true).nd 7 36 4 = 14169 ∧
    (hourly.drift 7 50668000 true).nd 7 32 4 = 50668000 ∧ (hourly.drift 7 50668000 true).nd 7 44 1 = 13 := by decide +kernel

/-- A KCV has 64 bits (R455). -/
theorem kcv_lt (s : State) (k gen : Nat) : s.kcvOf k gen < 2 ^ 64 := by
  unfold State.kcvOf
  exact Nat.div_lt_of_lt_mul (by rw [← Nat.pow_add]; exact BitVec.isLt _)

/-! ## A recorder record with a good CRC -/

def recs (l : List (Fld × Nat)) (m : Memory) (x : RecState) : State :=
  { up ((F.REC_STAT_READY, 1) :: (F.REC_FREE_BLOCKS, 65535) :: (F.REC_BIND_STAT_LIVE 3, 1) :: l) with mem := m, recd := x }
def record0 : Memory :=
  [(0xD0000000, 0x5A), (0xD0000001, 0xEC), (0xD0000002, 3), (0xD0000014, 0), (0xD0000015, 2), (0xD0000018, 107),
   (0xD0000019, 134), (0xD000001A, 1), (0xD000001B, 231), (0xD00001FC, 0x3C), (0xD00001FD, 0xC3), (0xD00001FE, 0xA5),
   (0xD00001FF, 0x5A)]
/-- Sixty erased octets. -/
def pad60 : List Byte := List.replicate 60 255
/-- The CRC of an octet string so far. -/
def crcFrom (l : List Byte) (c : Nat) : Nat := l.foldl (fun c b => crc32Bits 8 (c ^^^ b.toNat)) c
theorem crc_head : crcFrom (record0.readN 0xD0000000 24) 0xFFFFFFFF = 768167900 := by decide +kernel
theorem crc_1 : crcFrom pad60 768167900 = 4103595444 := by decide +kernel
theorem crc_2 : crcFrom pad60 4103595444 = 809117228 := by decide +kernel
theorem crc_3 : crcFrom pad60 809117228 = 2530550745 := by decide +kernel
theorem crc_4 : crcFrom pad60 2530550745 = 2906374992 := by decide +kernel
theorem crc_5 : crcFrom pad60 2906374992 = 4285329941 := by decide +kernel
theorem crc_6 : crcFrom pad60 4285329941 = 1772076509 := by decide +kernel
theorem crc_7 : crcFrom pad60 1772076509 = 561517898 := by decide +kernel
theorem crc_8 : crcFrom pad60 561517898 = 419330452 := by decide +kernel
theorem record0_rest : record0.readN 0xD000001C 480 =
    pad60 ++ (pad60 ++ (pad60 ++ (pad60 ++ (pad60 ++ (pad60 ++ (pad60 ++ pad60)))))) := by decide +kernel
theorem record0_crc : crc32 (record0.readN 0xD0000000 24 ++ record0.readN 0xD000001C 480) = 3875636843 := by
  have h : ∀ l, crc32 l = crcFrom l 0xFFFFFFFF ^^^ 0xFFFFFFFF := fun _ => rfl
  have g : ∀ l m c, crcFrom (l ++ m) c = crcFrom m (crcFrom l c) := fun l m c => List.foldl_append
  rw [h, g, crc_head, record0_rest, g, crc_1, g, crc_2, g, crc_3, g, crc_4, g, crc_5, g, crc_6, g, crc_7, crc_8]
  decide
theorem record0_ok : State.recCrcOk (recs [] record0 ⟨[], []⟩) 0 512 = true := by
  have e : State.recCrcOk (recs [] record0 ⟨[], []⟩) 0 512 =
      (record0.readLE (0xD0000000 + 24) 4 == crc32 (record0.readN 0xD0000000 24 ++ record0.readN 0xD000001C 480)) := rfl
  rw [e, record0_crc]
  decide +kernel

/-! ## Witnesses -/

theorem witness_StepRunsFront :
    ∃ (c : Instr) (rest : List Instr) (s : State), s.pending = c :: rest :=
  ⟨.supplyMate, [], { up [] with pending := [.supplyMate] }, by decide +kernel⟩

theorem witness_QueueIsKept :
    (∃ (s : State), s.pending = []) ∧
    (∃ (s : State), s.pending = []) ∧
    (∃ (s : State), s.pending = [] ∧ s.peg.reads = []) :=
  ⟨⟨up [], by decide +kernel⟩,
   ⟨up [], by decide +kernel⟩,
   ⟨up [], by decide +kernel⟩⟩

theorem witness_ResetLeaves :
    (∃ (g : Fld), notRun g.key) ∧
    (∃ (d : Nat), d < 50) ∧
    (∃ (b : Nat), b < 26) :=
  ⟨⟨F.MOVER_CTRL_EN, by unfold notRun; decide +kernel⟩,
   ⟨49, by decide +kernel⟩,
   ⟨25, by decide +kernel⟩⟩

theorem witness_StepKeepsRuns :
    (∃ (s : State) (t : State), RunsAsSaid s ∧ step s = Host.Outcome.next t) ∧
    (∃ (s : State) (t : State) (b : Nat), RunsAsSaid s ∧ step s = Host.Outcome.next t ∧ b < 26 ∧ t.run b = true ∧ b ≠ bPWR ∧ b ≠ bRTC ∧ b ≠ bKEY ∧ b ≠ bSLOT) :=
  ⟨⟨up [], up [], ⟨by unfold RunsAsSaid; decide +kernel, rfl⟩⟩,
   ⟨up [], up [], 18, ⟨by unfold RunsAsSaid; decide +kernel, rfl, by decide +kernel⟩⟩⟩

theorem witness_UnnamedAddress :
    (∃ (req : Fin 36) (addr : BitVec 40) (v : BitVec 32) (s : State), s.addrUp addr.toNat = true ∧ addr.toNat % 4 = 0 ∧ (regBlock addr.toNat).isSome = true ∧ lookupReg addr.toNat = none) ∧
    (∃ (req : Fin 36) (addr : BitVec 40) (v : BitVec 32) (s : State), s.addrUp addr.toNat = true ∧ addr.toNat % 4 = 0 ∧ (regBlock addr.toNat).isSome = true ∧ lookupReg addr.toNat = none) :=
  ⟨⟨35, 0x40180000, 1, up [], by decide +kernel⟩,
   ⟨0, 0x40180000, 1, up [], by decide +kernel⟩⟩

theorem witness_OddAccessIsBad :
    (∃ (req : Fin 36) (addr : BitVec 40) (size : Fin 65) (v : BitVec 32) (s : State), (↑size ≠ 4 ∨ addr.toNat % 4 ≠ 0)) ∧
    (∃ (req : Fin 36) (addr : BitVec 40) (size : Fin 65) (v : BitVec 32) (s : State), addr.toNat % 4 ≠ 0) ∧
    (∃ (req : Fin 36) (addr : BitVec 40) (size : Fin 65) (v : BitVec 32) (s : State) (a : Nat) (n : Nat), inRegBlocks a n = true ∧ (n ≠ 4 ∨ a % 4 ≠ 0)) ∧
    (∃ (req : Fin 36) (addr : BitVec 40) (size : Fin 65) (v : BitVec 32) (s : State) (a : Nat) (l : List Byte), inRegBlocks a l.length = true ∧ (l.length ≠ 4 ∨ a % 4 ≠ 0)) :=
  ⟨⟨0, 0x40150010, 8, 1, up [], by decide +kernel⟩,
   ⟨0, 0x40150012, 8, 1, up [], by decide +kernel⟩,
   ⟨0, 0x40150012, 8, 1, up [], 0x40150010, 8, by decide +kernel⟩,
   ⟨0, 0x40150012, 8, 1, up [], 0x40150010, [0, 0], by decide +kernel⟩⟩

theorem witness_RejectedWriteDoesNothing :
    (∃ (req : Fin 36) (addr : BitVec 40) (v : BitVec 32) (s : State) (b : Nat) (off : Nat) (r : RegDef) (ix : List Nat), s.addrUp addr.toNat = true ∧ addr.toNat % 4 = 0 ∧ regBlock addr.toNat = some (b, off) ∧ lookupReg addr.toNat = some (r, ix) ∧ (¬(b = bPEG ∧ off = 8)) ∧ s.writeReason (↑req) addr.toNat b r ix v.toNat ≠ 0) ∧
    (∃ (req : Fin 36) (addr : BitVec 40) (v : BitVec 32) (s : State) (b : Nat) (off : Nat) (r : RegDef) (ix : List Nat), s.addrUp addr.toNat = true ∧ addr.toNat % 4 = 0 ∧ regBlock addr.toNat = some (b, off) ∧ lookupReg addr.toNat = some (r, ix) ∧ (¬(b = bPEG ∧ off = 8)) ∧ s.writeReason (↑req) addr.toNat b r ix v.toNat ≠ 0 ∧ (∃ f ∈ r.written, f.tag = Tag.s ∧ s.staticNow b r.off (ix.headD 0) = true ∧ bits v.toNat f.lo f.width ≠ s.rd (s.fieldFor (↑req) addr.toNat ix f))) :=
  ⟨⟨0, 0x40150010, 1, up [], 21, 0x10, (regAt 0x40150010).1, (regAt 0x40150010).2, by decide +kernel⟩,
   ⟨0, 0x400A0004, 50 * 65536 + 2300, up [((F.STATE_RUN bGAUGE), 1)], 10, 4, (regAt 0x400A0004).1, (regAt 0x400A0004).2, by decide +kernel⟩⟩

theorem witness_AcceptedWriteTakesEffect :
    ∃ (req : Fin 36) (addr : BitVec 40) (v : BitVec 32) (s : State) (b : Nat) (off : Nat) (r : RegDef) (ix : List Nat), b ∈ [bSYS, bTUNE, bPEG, bNODE, bCAPO, bTIME, bRESTR, bREC, bLEDGER, bIO] ∧ s.addrUp addr.toNat = true ∧ addr.toNat % 4 = 0 ∧ regBlock addr.toNat = some (b, off) ∧ lookupReg addr.toNat = some (r, ix) ∧ (¬(b = bPEG ∧ off = 8)) ∧ (r.flds.all fun f => f.acc != Acc.wo) = true ∧ s.writeReason (↑req) addr.toNat b r ix v.toNat = 0 :=
  ⟨0, 0x40150018, 7, up [], 21, 0x18, (regAt 0x40150018).1, (regAt 0x40150018).2, by decide +kernel⟩

theorem witness_HighWordIsLatched :
    (∃ (req : Fin 36) (b : Nat) (off : Nat) (s : State), b < 26 ∧ pairLow b off = true ∧ s.blockOn b = true) ∧
    (∃ (req : Fin 36) (b : Nat) (off : Nat) (s : State) (v : Nat), b < 26 ∧ pairLow b off = true ∧ s.blockOn b = true ∧ s.latches.find (reqKey (↑req) (blockBase b + off + 4)) = some v) ∧
    (∃ (req : Fin 36) (b : Nat) (off : Nat) (s : State), b < 26 ∧ pairLow b off = true ∧ s.blockOn b = true ∧ s.latches.find (reqKey (↑req) (blockBase b + off + 4)) = none) ∧
    (∃ (req : Fin 36) (addr : BitVec 40) (s : State) (b : Nat) (off : Nat) (r : RegDef) (ix : List Nat), b ∈ [bSYS, bPWR, bTUNE, bMOVER, bFPLC, bNODE, bSCAN, bRINGA, bRINGB, bCAPO, bRTC, bKEY, bSLOT, bLEDGER, bIO] ∧ s.addrUp addr.toNat = true ∧ addr.toNat % 4 = 0 ∧ regBlock addr.toNat = some (b, off) ∧ lookupReg addr.toNat = some (r, ix) ∧ off ≠ 65284 ∧ pairLow b off = false ∧ pairHigh b off = false) :=
  ⟨⟨35, 1, pairOff 1, up [], by decide +kernel⟩,
   ⟨35, 1, pairOff 1, { up [] with latches := [(reqKey 35 (blockBase 1 + pairOff 1 + 4), 7)] }, 7, by decide +kernel⟩,
   ⟨35, 1, pairOff 1, up [], by decide +kernel⟩,
   ⟨35, 0x40010000, up [], bPWR, 0, (regAt 0x40010000).1, (regAt 0x40010000).2, by decide +kernel⟩⟩

def word (dest src kind data : Nat) : FWord := mkWord dest src kind 1 true 0 0 data
theorem witness_FretboardCommands :
    (∃ (src : Fin 32) (dst : Fin 32) (o : Option FWord) (a : WordTarget) (ps : BitVec 16) (ld : BitVec 8) (s : State) (w : FWord) (rest : List FWord), s.lane ↑src ↑dst ++ o.toList = w :: rest) ∧
    (∃ (req : Fin 36) (p : Fin 32) (s : State), s.blockOn bFRET = true) ∧
    (∃ (m : BitVec 16) (s : State), s.allOn [0, 49] = true ∧ 6150 ≤ m.toNat) ∧
    (∃ (m : BitVec 16) (ms : Nat) (s : State), s.allOn [0, 49] = true ∧ m.toNat < 6000 ∧ 100 ≤ ms) :=
  ⟨⟨4, 9, some (word 9 4 0 5), .none, 200, 1, up [], word 9 4 0 5, [], by decide +kernel⟩,
   ⟨35, 31, up [(F.FRET_PORT_STAT_PEAK 31, 9)], by decide +kernel⟩,
   ⟨6150, up [], by decide +kernel⟩,
   ⟨5999, 100, up [], by decide +kernel⟩⟩

def held : State := { State.reset with
  regs := (seated.map (fun p => (p.1.key, p.2))), slot := { State.reset.slot with logicOn := true } }
theorem witness_InsertionCommands :
    (∃ (ms : Nat) (s : State), s.slot.logicOn = true ∧ s.present = true ∧ s.sys.parkLatch = false ∧ s.slot.released = false ∧ 100 ≤ ms) ∧
    (∃ (s : State), s.slot.logicOn = true ∧ s.present = true ∧ s.sys.parkLatch = false ∧ s.slot.released = false) ∧
    (∃ (us : Nat) (prep : Nat) (s : State), 1000 ≤ us ∧ s.ejecting = false ∧ s.slot.released = true ∧ s.slot.logicOn = true) ∧
    (∃ (us : Nat) (prep : Nat) (s : State), 200 ≤ us ∧ s.leverShut = true ∧ s.ejecting = false ∧ s.slot.released = true ∧ s.slot.logicOn = true) ∧
    (∃ (s : State), s.slot.presenceLost = true) ∧
    (∃ (ms : Nat) (s : State), 100 ≤ ms ∧ s.isSet F.SLOT_STATUS_EJECT_PREP = true ∧ s.slot.logicOn = true ∧ s.mode ≠ 4 ∧ s.mode ≠ 5) :=
  ⟨⟨100, held, by decide +kernel⟩,
   ⟨held, by decide +kernel⟩,
   ⟨1000, 12, up seated, by decide +kernel⟩,
   ⟨200, 12, up seated, by decide +kernel⟩,
   ⟨{ up seated with slot := { (up seated).slot with presenceLost := true } }, by decide +kernel⟩,
   ⟨100, up ((F.SLOT_STATUS_EJECT_PREP, 1) :: seated), by decide +kernel⟩⟩

def kicked (n : Option Nat) : State :=
  { up [(F.PWR_MODE_MODE, 2)] with sys := { State.reset.sys with kicked := true, lastFwRestart := n, refTick := 599999999 } }
theorem witness_ResetCommands :
    (∃ (c : ResetCause) (s : State), s.slot.released = true ∧ s.slot.logicOn = true ∧ s.mode ≠ 4 ∧ s.mode ≠ 5) ∧
    (∃ (w : Bool) (s : State), s.isOn 0 = true ∧ (s.hdr s.restr.running).state ≠ 4 ∧ s.sys.levelWait = none) ∧
    (∃ (req : Fin 36) (s : State), s.isOn 49 = true ∧ s.mode ≠ 0 ∧ s.isOn 0 = true ∧ (s.hdr s.restr.running).state ≠ 4 ∧ s.sys.levelWait = none) ∧
    (∃ (req : Fin 36) (s : State), s.isOn 49 = true ∧ s.mode ≠ 0 ∧ s.mode ≠ 4 ∧ s.mode ≠ 5 ∧ s.slot.released = true ∧ s.slot.logicOn = true) ∧
    (∃ (req : Fin 36) (s : State), s.isOn 49 = true) ∧
    (∃ (ms : Nat) (s : State), 1000 ≤ ms ∧ s.sys.kicked = true ∧ s.isOn 0 = true ∧ s.sys.lastFwRestart = none ∧ (s.hdr s.restr.running).state ≠ 4) ∧
    (∃ (ms : Nat) (s : State) (tk : Nat), 1000 ≤ ms ∧ s.sys.kicked = true ∧ s.isOn 0 = true ∧ s.sys.lastFwRestart = some tk ∧ s.sys.refTick - tk < 600000000 ∧ s.slot.released = true ∧ s.slot.logicOn = true ∧ s.mode ≠ 4 ∧ s.mode ≠ 5) ∧
    (∃ (ms : Nat) (s : State), 2000 ≤ ms ∧ s.sys.kicked = false ∧ s.slot.released = true ∧ s.mode ≠ 4 ∧ s.mode ≠ 5 ∧ s.sys.bootFails < 2) ∧
    (∃ (ms : Nat) (s : State), 2000 ≤ ms ∧ s.sys.kicked = false ∧ s.slot.released = true ∧ s.mode ≠ 4 ∧ s.mode ≠ 5 ∧ 2 ≤ s.sys.bootFails) :=
  ⟨⟨.watchdog, up [(F.PWR_MODE_MODE, 2)], by decide +kernel⟩,
   ⟨true, up [(F.PWR_MODE_MODE, 2)], by decide +kernel⟩,
   ⟨0, up [(F.PWR_MODE_MODE, 2)], by decide +kernel⟩,
   ⟨0, up [(F.PWR_MODE_MODE, 2)], by decide +kernel⟩,
   ⟨0, up [(F.PWR_MODE_MODE, 2)], by decide +kernel⟩,
   ⟨1000, kicked none, by decide +kernel⟩,
   ⟨1000, kicked (some 0), 0, by decide +kernel⟩,
   ⟨2000, up [(F.PWR_MODE_MODE, 1)], by decide +kernel⟩,
   ⟨2000, { up [(F.PWR_MODE_MODE, 1)] with sys := { State.reset.sys with bootFails := 2 } }, by decide +kernel⟩⟩

def noBody : CfgBody := ⟨[], [], [], 0, [], [], [], []⟩
def header (format : BitVec 16) : PrimerHdr := ⟨0, format, 0, 0, 0, 0, 0, 0, 0⟩
def device (format : BitVec 16) : PrimerDev :=
  ⟨0, true, [], [], [], false, 33554432, true, true, ⟨some (header format), noBody⟩, ⟨none, noBody⟩⟩
def bringing (l : List (Fld × Nat)) : State :=
  { up (l ++ [(F.PWR_MODE_MODE, 1), (F.SYS_START_STAT_PHASE, 3)]) with sys := { State.reset.sys with levelTo := some 2 } }
def onTrial : State :=
  { bringing [(fBank 0, 4)] with
    restr := { State.reset.restr with hdrs := [⟨1, 4, 1, 1, 1, 0, 0, 0, 0⟩, ⟨0, 5, 0, 0, 0, 0, 0, 0, 0⟩] }
    slot := { (up []).slot with primer := some (device 1) } }
def writing (total pages : Nat) : State :=
  { up [(F.SLOT_STATUS_LEVER, 1)] with slot := { (up []).slot with writeBack := some ⟨header 1, noBody, pages, total⟩ } }
theorem witness_StartUpCommands :
    (∃ (o : Nat) (n : Nat) (us : BitVec 32) (a : Bool) (b : Bool) (dn : Bool) (s : State), s.slot.released = true ∧ s.slot.logicOn = true ∧ s.mode = 0 ∧ s.phase = 0) ∧
    (∃ (ms : BitVec 16) (s : State), s.mode = 0 ∧ s.phase = 2 ∧ s.sys.readDue = false) ∧
    (∃ (l : List (Fin 50)) (s : State), s.sys.levelTo = some 2 ∧ s.mode = 1 ∧ s.phase = 3 ∧ (s.hdr s.restr.running).state = 4 ∧ s.migrationFails = true) ∧
    (∃ (l : List (Fin 50)) (s : State) (d : Nat), s.sys.levelTo = some 2 ∧ s.mode = 1 ∧ s.phase = 3 ∧ (s.hdr s.restr.running).state ≠ 4 ∧ List.filter (fun d => s.dom d == domOff) riseOrder = [d] ∧ l = [] ∧ s.planned 2 d = domOn ∧ s.idleSpare d = false ∧ (∀ p ∈ domParents d, s.isOn p = true)) ∧
    (∃ (ms : BitVec 16) (s : State), s.fullUp = true ∧ s.sys.levelTo = some 2 ∧ s.mode = 1 ∧ s.phase = 3 ∧ s.rd F.SYS_START_TIME_FULL_MS = 0) ∧
    (∃ (us : BitVec 32) (dn : Bool) (s : State), s.isOn 49 = true ∧ s.ejecting = false ∧ s.sys.readDue = false ∧ s.rd F.SLOT_PRIMER_STAT_STATE ≠ 1) ∧
    (∃ (h : PrimerHdr) (d : PrimerDev) (s : State), s.phase = 4 ∧ s.allOn [0, 44] = true ∧ s.slot.noFlashWrite = false ∧ (s.rd F.SYS_CONFIG_SRC_SOURCE = 1 ∨ s.rd F.SYS_CONFIG_SRC_SOURCE = 2) ∧ s.sys.cfgHdr = some h ∧ s.slot.primer = some d ∧ s.sys.copy = none) ∧
    (∃ (n : Nat) (w : WriteBack) (s : State), s.slot.writeBack = some w ∧ s.slot.noFlashWrite = false ∧ s.leverShut = true) ∧
    (∃ (ok : Bool) (w : WriteBack) (s : State), s.slot.writeBack = some w ∧ w.total ≤ w.pages ∧ s.slot.noFlashWrite = false) :=
  ⟨⟨4, 3, 1, true, true, true, up [(F.PWR_MODE_MODE, 0)], by decide +kernel⟩,
   ⟨20, up [(F.PWR_MODE_MODE, 0), (F.SYS_START_STAT_PHASE, 2)], by decide +kernel⟩,
   ⟨[], onTrial, by decide +kernel⟩,
   ⟨[], bringing [(F.PWR_DOM_STATE_STATE 38, 0), (F.PWR_DOM_CFG_PLAN_FULL 38, 2)], 38, by decide +kernel⟩,
   ⟨900, bringing [], by decide +kernel⟩,
   ⟨7, true, up [], by decide +kernel⟩,
   ⟨header 1, device 1, { up [(F.SYS_START_STAT_PHASE, 4), (F.SYS_CONFIG_SRC_SOURCE, 1)] with sys := { State.reset.sys with cfgHdr := some (header 1) }, slot := { (up []).slot with primer := some (device 1) } }, by decide +kernel⟩,
   ⟨3, ⟨header 1, noBody, 4, 6⟩, writing 6 4, by decide +kernel⟩,
   ⟨true, ⟨header 1, noBody, 6, 6⟩, writing 6 6, by decide +kernel⟩⟩

def waiting : State := { up [(F.SLOT_STATUS_ADDR, 12)] with slot := { (up []).slot with quietWait := true } }
def answering (r : SlotResp) : State := { up [] with slot := { (up []).slot with respDue := some r } }
theorem witness_SlotBusCommands :
    (∃ (w : Bool × Bool) (l : List Byte) (i : Nat) (x : Bool × Bool) (y : Bool × Bool), i < 8 * l.length ∧ (w :: sbLevels w (sbBits l))[i]? = some x ∧ (w :: sbLevels w (sbBits l))[i + 1]? = some y) ∧
    (∃ (a : BitVec 6) (q : Nat) (s : State), s.frameBegins q = false) ∧
    (∃ (a : BitVec 6) (q : Nat) (s : State), s.frameBegins q = false) ∧
    (∃ (a : BitVec 6) (q : Nat) (s : State), s.busUp = true ∧ s.frameBegins q = true ∧ s.isSet F.SLOT_BUS_CFG_ENABLE = true ∧ a.toNat = s.rd F.SLOT_STATUS_ADDR ∧ a ≠ 63 ∧ s.slot.respDue = none ∧ s.pendingIn bSLOT = false) ∧
    (∃ (a : BitVec 6) (q : Nat) (s : State), s.busUp = true ∧ s.frameBegins q = true ∧ s.isSet F.SLOT_BUS_CFG_ENABLE = true ∧ a.toNat = s.rd F.SLOT_STATUS_ADDR ∧ a ≠ 63 ∧ s.slot.respDue = none ∧ s.pendingIn bSLOT = false) ∧
    (∃ (a : BitVec 6) (q : Nat) (s : State) (cmd : Byte) (payload : List Byte), s.busUp = true ∧ s.frameBegins q = true ∧ s.isSet F.SLOT_BUS_CFG_ENABLE = true ∧ a.toNat = s.rd F.SLOT_STATUS_ADDR ∧ a ≠ 63 ∧ s.slot.respDue = none ∧ s.pendingIn bSLOT = false ∧ payload.length ≤ 32 ∧ (cmd ≠ 1 ∧ cmd ≠ 3 ∨ payload ≠ []) ∧ (cmd ≠ 2 ∨ ∀ (l : Byte), payload = [l] → 1 < BitVec.toNat l)) ∧
    (∃ (a : BitVec 6) (q : Nat) (s : State) (l : Byte), s.busUp = true ∧ s.frameBegins q = true ∧ s.isSet F.SLOT_BUS_CFG_ENABLE = true ∧ a.toNat = s.rd F.SLOT_STATUS_ADDR ∧ a ≠ 63 ∧ s.slot.respDue = none ∧ s.pendingIn bSLOT = false ∧ BitVec.toNat l ≤ 1 ∧ s.slot.wakeRun = [] ∧ s.mode = 4 ∧ s.ejecting = false ∧ s.slot.logicOn = true ∧ s.sys.levelTo = none) ∧
    (∃ (why : FrameError) (q : Nat) (s : State), s.busUp = true ∧ s.frameBegins q = true ∧ s.pendingIn bSLOT = false) ∧
    (∃ (r : SlotResp) (s : State), s.slot.respDue = some r) ∧
    (∃ (r : SlotResp) (s : State), s.slot.respDue = some r) ∧
    (∃ (n : Nat) (q : Nat) (s : State), s.busUp = true ∧ s.frameBegins q = true ∧ 66 ≤ n) ∧
    (∃ (n : Nat) (us : Nat) (s : State), s.islandOn = true ∧ 16 ≤ n ∧ 250 ≤ us) ∧
    (∃ (a : BitVec 6) (q : Nat) (s : State), s.busUp = true ∧ s.frameBegins q = true ∧ a ≠ 63 ∧ a.toNat ≠ s.rd F.SLOT_STATUS_ADDR ∧ s.pendingIn bSLOT = false) :=
  ⟨⟨(true, true), [0xA5, 3], 0, (true, true), (sbLevels (true, true) (sbBits [0xA5, 3])).headD (true, true), by decide +kernel⟩,
   ⟨12, 249, waiting, by decide +kernel⟩,
   ⟨12, 249, waiting, by decide +kernel⟩,
   ⟨12, 250, up [(F.SLOT_STATUS_ADDR, 12)], by decide +kernel⟩,
   ⟨12, 250, up [(F.SLOT_STATUS_ADDR, 12)], by decide +kernel⟩,
   ⟨12, 250, up [(F.SLOT_STATUS_ADDR, 12)], 0x55, [1], by decide +kernel⟩,
   ⟨12, 250, up [(F.SLOT_STATUS_ADDR, 12), (F.PWR_MODE_MODE, 4)], 1, by decide +kernel⟩,
   ⟨.len, 250, up [], by decide +kernel⟩,
   ⟨⟨12, 0x81, []⟩, answering ⟨12, 0x81, []⟩, by decide +kernel⟩,
   ⟨⟨12, 0x81, []⟩, answering ⟨12, 0x81, []⟩, by decide +kernel⟩,
   ⟨66, 250, up [], by decide +kernel⟩,
   ⟨16, 250, up [], by decide +kernel⟩,
   ⟨0, 250, up [(F.SLOT_STATUS_ADDR, 62)], by decide +kernel⟩⟩

def driving (l : List (Fld × Nat)) (i : IoState) : State := { up l with io := i }
theorem witness_BypassAndConnectorCommands :
    (∃ (r : Fin 2) (s : State), s.loopReady ↑r = true) ∧
    (∃ (r : Fin 2) (ms : Nat) (s : State), s.rd (fResult ↑r) = 1 ∧ 10 ≤ ms) ∧
    (∃ (r : Fin 2) (ms : Nat) (s : State) (e : Bool) (w : Bool), s.rd (fResult ↑r) = 1 ∧ 10 ≤ ms ∧ (e && w) = false) ∧
    (∃ (r : Fin 2) (ms : Nat) (s : State), s.rd (fResult ↑r) = 3 ∧ s.loopReady ↑r = true ∧ 10000 ≤ ms) ∧
    (∃ (req : Fin 36) (a : Bool) (b : Bool) (s : State), s.isOn 49 = true ∧ s.pendingIn bSLOT = false) ∧
    (∃ (r : Fin 2) (l : Bool) (ms : Nat) (s : State), b2n l ≠ s.rd (fHold ↑r) ∧ s.rd (fHold ↑r) ≤ 1 ∧ 20 < ms) ∧
    (∃ (n : Fin 16) (s : State), s.isOn 49 = true ∧ bitAt s.io.doOut ↑n = true ∧ bitAt s.io.doOff ↑n = false) ∧
    (∃ (n : Fin 16) (ms : Nat) (s : State), s.isOn 49 = true ∧ bitAt s.io.doOff ↑n = true ∧ 1000 ≤ ms) ∧
    (∃ (n : Fin 16) (ms : Nat) (s : State), s.isOn 49 = true ∧ bitAt s.io.doOff ↑n = true ∧ 1000 ≤ ms) ∧
    (∃ (f : Fin 12) (mA : Nat) (s : State), s.isOn 49 = true ∧ bitAt s.io.coilOut ↑f = true ∧ 3000 < mA) :=
  ⟨⟨1, up [], by decide +kernel⟩,
   ⟨1, 10, up [(F.SLOT_LOOPBACK_RESULT_B, 1), (F.KEY_LC_ROOT_PRESENT, 1)], by decide +kernel⟩,
   ⟨1, 10, up [(F.SLOT_LOOPBACK_RESULT_B, 1), (F.KEY_LC_ROOT_PRESENT, 1)], false, true, by decide +kernel⟩,
   ⟨1, 10000, up [(F.SLOT_LOOPBACK_RESULT_B, 3)], by decide +kernel⟩,
   ⟨35, false, true, up [], by decide +kernel⟩,
   ⟨1, true, 21, up [], by decide +kernel⟩,
   ⟨15, driving [] { State.reset.io with doOut := 0x8000 }, by decide +kernel⟩,
   ⟨15, 1000, driving [] { State.reset.io with doOut := 0x8000, doOff := 0x8000 }, by decide +kernel⟩,
   ⟨15, 1000, driving [] { State.reset.io with doOut := 0x8000, doOff := 0x8000 }, by decide +kernel⟩,
   ⟨11, 3001, driving [] { State.reset.io with coilOut := 0x800 }, by decide +kernel⟩⟩

def changing (d t : Nat) : State :=
  { up [(F.PWR_DOM_STATE_STATE d, 3), (F.PWR_DOM_STATE_TARGET d, t)] with sys := { State.reset.sys with domFrom := [(d, 2)] } }
theorem witness_DomainCommands :
    (∃ (req : Fin 36) (d : Fin 50) (x : BitVec 2) (s : State), s.isOn 49 = true ∧ x.toNat ≤ 2 ∧ s.pendingIn bPWR = false ∧ s.dom ↑d ≠ domChanging ∧ x.toNat ≠ s.dom ↑d ∧ s.reqBad (↑d) x.toNat true = false) ∧
    (∃ (req : Fin 36) (d : Fin 50) (x : BitVec 2) (s : State), s.isOn 49 = true ∧ x.toNat ≤ 2 ∧ s.pendingIn bPWR = false ∧ s.dom ↑d ≠ domChanging ∧ x.toNat ≠ s.dom ↑d ∧ s.reqBad (↑d) x.toNat true = true) ∧
    (∃ (req : Fin 36) (d : Fin 50) (x : BitVec 2) (s : State), s.isOn 49 = true ∧ x.toNat ≤ 2 ∧ s.pendingIn bPWR = false ∧ s.dom ↑d = domChanging) ∧
    (∃ (d : Fin 50) (s : State), s.dom ↑d = domChanging ∧ s.rd (F.PWR_DOM_STATE_TARGET ↑d) ≤ 2 ∧ s.isSet (F.PWR_DOM_STATE_PEND_VALID ↑d) = false ∧ s.sys.levelWait ≠ some ↑d ∧ s.pendingIn bPWR = false) ∧
    (∃ (d : Fin 50) (c : FaultCause) (s : State), s.dom ↑d ≠ domOff ∧ survivalSet.contains ↑d = true) ∧
    (∃ (d : Fin 50) (c : FaultCause) (s : State), s.dom ↑d ≠ domOff ∧ survivalSet.contains ↑d = false ∧ (∀ e ∈ below ↑d, survivalSet.contains e = false) ∧ s.sys.levelWait = none ∧ s.pendingIn bPWR = false) :=
  ⟨⟨0, 39, 0, up [], by decide +kernel⟩,
   ⟨0, 0, 0, up [], by decide +kernel⟩,
   ⟨0, 39, 0, changing 39 0, by decide +kernel⟩,
   ⟨39, changing 39 2, by decide +kernel⟩,
   ⟨49, .timing, up [], by decide +kernel⟩,
   ⟨39, .timing, up [], by decide +kernel⟩⟩

def mode (m : Nat) (l : List (Fld × Nat)) : State := up ((F.PWR_MODE_MODE, m) :: l)
def celled (s : State) : State := { s with slot := { s.slot with cellFitted := true } }
theorem witness_PowerCommands :
    (∃ (req : Fin 36) (s : State), s.isOn 49 = true ∧ (s.mode = 1 ∨ s.mode = 2 ∨ s.mode = 3) ∧ s.pendingIn bPWR = false) ∧
    (∃ (req : Fin 36) (s : State), s.isOn 49 = true ∧ (s.mode = 1 ∨ s.mode = 2 ∨ s.mode = 3) ∧ s.pendingIn bPWR = false) ∧
    (∃ (req : Fin 36) (s : State), s.isOn 49 = true ∧ (s.mode = 1 ∨ s.mode = 2 ∨ s.mode = 3) ∧ s.pendingIn bPWR = false ∧ s.slot.wakeRun = []) ∧
    (∃ (n : Nat) (s : State), s.isSet F.PWR_AUTO_EN = true ∧ s.isOn 49 = true ∧ s.sys.levelTo = none ∧ s.mode = 2 ∧ s.rd F.PWR_AUTO_ENTER_S ≤ n) ∧
    (∃ (n : Nat) (s : State), s.isSet F.PWR_AUTO_EN = true ∧ s.isOn 49 = true ∧ s.sys.levelTo = none ∧ s.mode = 3 ∧ s.rd F.PWR_AUTO_LEAVE_S ≤ n) ∧
    (∃ (s : State), s.mode = 4 ∧ s.alarmReached = true ∧ s.slot.logicOn = true) ∧
    (∃ (s : State), s.sys.parkLatch = true) ∧
    (∃ (s : State), s.rtcUp = true ∧ s.slot.logicOn = true) ∧
    (∃ (mV : Nat) (us : Nat) (s : State), s.slot.logicOn = true ∧ s.slot.cellFitted = true ∧ mV < 33000 ∧ 10000 ≤ us) ∧
    (∃ (mV : Nat) (us : Nat) (s : State), s.slot.logicOn = true ∧ s.slot.cellFitted = true ∧ 66000 < mV ∧ 1000 ≤ us) ∧
    (∃ (mV : Nat) (us : Nat) (s : State), s.slot.logicOn = false ∧ 35000 < mV ∧ 20000 ≤ us ∧ s.sys.parkLatch = false ∧ s.present = true ∧ s.leverShut = true ∧ s.slot.released = false) :=
  ⟨⟨31, mode 2 [], by decide +kernel⟩,
   ⟨31, mode 3 [], by decide +kernel⟩,
   ⟨31, mode 1 [], by decide +kernel⟩,
   ⟨600, mode 2 [(F.PWR_AUTO_EN, 1)], by decide +kernel⟩,
   ⟨600, mode 3 [(F.PWR_AUTO_EN, 1)], by decide +kernel⟩,
   ⟨mode 4 [(F.PWR_ALARM_LO_ALARM, 1), (F.RTC_TIME_LO_SEC, 1)], by decide +kernel⟩,
   ⟨{ mode 4 [] with sys := { State.reset.sys with parkLatch := true } }, by decide +kernel⟩,
   ⟨up [], by decide +kernel⟩,
   ⟨32999, 10000, celled (mode 2 []), by decide +kernel⟩,
   ⟨66001, 1000, celled (mode 2 []), by decide +kernel⟩,
   ⟨35001, 20000, { State.reset with regs := seated.map (fun p => (p.1.key, p.2)), slot := { State.reset.slot with logicOn := false } }, by decide +kernel⟩⟩

theorem witness_TuningCommands :
    (∃ (d : Fin 50) (fl : BitVec 16) (ti : BitVec 16) (s : State), s.blockOn bTUNE = true ∧ s.isOn ↑d = true ∧ s.isSet F.TUNE_CTRL_EN = false) ∧
    (∃ (d : Fin 50) (fl : BitVec 16) (ti : BitVec 16) (s : State), s.blockOn bTUNE = true ∧ s.isOn ↑d = true ∧ s.isSet (F.TUNE_DOM_STAT_REPLANNING ↑d) = true ∧ s.floored ↑d = true ∧ toSigned 16 fl.toNat - ↑(s.rd (F.TUNE_DOM_STAT_AGE_PS ↑d)) < ↑(s.rd F.TUNE_CFG_GUARD_LO_PS) ∧ s.rd (F.TUNE_DOM_PLAN_SUPPLY ↑d) < supplyMax) ∧
    (∃ (d : Fin 50) (a : BitVec 8) (f : BitVec 16) (s : State), s.blockOn bTUNE = true ∧ s.isOn ↑d = true ∧ s.isSet F.TUNE_CTRL_EN = false) ∧
    (∃ (s : State), s.blockOn bTUNE = true ∧ s.allOn [0, 44] = true ∧ s.slot.noFlashWrite = false) :=
  ⟨⟨0, 20, 30, up [(F.TUNE_CTRL_EN, 0)], by decide +kernel⟩,
   ⟨5, 0, 30, up [(F.TUNE_DOM_STAT_REPLANNING 5, 1), (F.TUNE_DOM_STAT_HAS_FLOOR 5, 1)], by decide +kernel⟩,
   ⟨5, 3, 365, up [(F.TUNE_CTRL_EN, 0)], by decide +kernel⟩,
   ⟨up [], by decide +kernel⟩⟩

def ctxs (m : CtxMode) (n : Nat) : PegState :=
  { PegState.start with freeHead := n, descs := [(1 * 64, enabled)], ctxs := [(256 * 4 + 9, ⟨m, 1, 64, false, 0, n - 1, n, 0, false, none, 0⟩)] }
def open1 (last : Bool) : FWord := mkWord 17 4 0 9 last 0 0 (1 + 64 * 2 ^ 8)
theorem witness_PegboxWriting :
    (∃ (k : Fin 4) (w : FWord) (u : List (BitVec 19 × TagError)) (s : State), s.ctx w.src.toNat w.tag.toNat = none ∧ w.poison = 0 ∧ bits (BitVec.toNat w.data) 0 8 = 1 ∧ w.last = false ∧ s.openReason (↑k) (bits (BitVec.toNat w.data) 8 20) (bitAt (BitVec.toNat w.data) 28) w = none) ∧
    (∃ (k : Fin 4) (w : FWord) (u : List (BitVec 19 × TagError)) (r : Nat) (s : State), s.ctx w.src.toNat w.tag.toNat = none ∧ (w.poison ≠ 0 ∨ bits (BitVec.toNat w.data) 0 8 = 1) ∧ w.last = true ∧ s.openReason (↑k) (bits (BitVec.toNat w.data) 8 20) (bitAt (BitVec.toNat w.data) 28) w = some r) ∧
    (∃ (w : FWord) (c : Ctx) (s : State), s.ctx w.src.toNat w.tag.toNat = some c ∧ c.mode = CtxMode.open ∧ w.poison = 0 ∧ (s.tag s.peg.freeHead).err ≠ TagError.double ∧ c.cells + 1 ≤ s.maxPktCells c.queue ∧ s.popGranted w.src.toNat = true ∧ (¬(s.rd F.PEG_CELL_FREE_FREE - 1 < s.rd F.PEG_FREE_WARN_LEVEL ∧ s.rd F.PEG_FREE_WARN_LEVEL ≤ s.rd F.PEG_CELL_FREE_FREE)) ∧ s.rd F.PEG_CELL_FREE_FREE ≤ nCells) ∧
    (∃ (p : Fin 32) (tg : Byte) (c : Ctx) (s : State), s.ctx (↑p) (BitVec.toNat tg) = some c ∧ c.mode = CtxMode.closing ∧ c.k < 4 ∧ s.commitReason c = none) ∧
    (∃ (p : Fin 32) (tg : Byte) (c : Ctx) (s : State), s.ctx (↑p) (BitVec.toNat tg) = some c ∧ s.ctxExpired c.stamp = true ∧ c.k < 4 ∧ c.mode = CtxMode.open) ∧
    (∃ (p : Fin 32) (tg : Byte) (c : Ctx) (s : State), s.ctx (↑p) (BitVec.toNat tg) = some c ∧ s.ctxExpired c.stamp = true ∧ c.k < 4 ∧ c.mode = CtxMode.discard) ∧
    (∃ (k : Fin 4) (w : FWord) (c : Ctx) (s : State), s.ctx w.src.toNat w.tag.toNat = some c ∧ c.mode = CtxMode.open ∧ c.k < 4 ∧ w.poison = 0 ∧ bits (BitVec.toNat w.data) 0 8 = 2) :=
  ⟨⟨1, open1 false, [], peg pool { ctxs .open 0 with ctxs := [] }, by decide +kernel⟩,
   ⟨0, open1 true, [], 0xA, peg pool { ctxs .open 0 with ctxs := [] }, by decide +kernel⟩,
   ⟨mkWord 17 4 0 9 false 0 0 77, ⟨.open, 1, 64, false, 0, 0, 1, 0, false, none, 0⟩, peg pool (ctxs .open 1), by decide +kernel⟩,
   ⟨4, 9, ⟨.closing, 1, 64, false, 0, 0, 1, 0, false, none, 0⟩, peg pool (ctxs .closing 1), by decide +kernel⟩,
   ⟨4, 9, ⟨.open, 1, 64, false, 0, 0, 1, 0, false, none, 0⟩, later (peg pool (ctxs .open 1)), by decide +kernel⟩,
   ⟨4, 9, ⟨.discard, 1, 64, false, 0, 0, 1, 0, false, none, 0⟩, later (peg pool (ctxs .discard 1)), by decide +kernel⟩,
   ⟨1, mkWord 17 4 0 9 true 0 0 2, ⟨.open, 1, 64, false, 0, 0, 1, 0, false, none, 0⟩, peg pool (ctxs .open 1), by decide +kernel⟩⟩

def onePacket : PegState :=
  { PegState.start with
    freeHead := 1
    descs := [(64, { enabled with ordNE := true, ordHead := 0, ordTail := 0, pktCnt := 1, cellCnt := 1, notifyEn := true, consumer := 7 })]
    tags := [(0, ⟨1, true, 5, false, 0, .none⟩)] }
def claimOf (p : Nat) : Claim := ⟨64, 3, p, false, 0, 0, 1, 5, 0, false⟩
def claimed1 : PegState :=
  { PegState.start with
    freeHead := 1
    descs := [(64, { enabled with claimed := true })]
    tags := [(0, ⟨1, true, 5, true, 7, .none⟩)]
    claims := [(64, claimOf 7)] }
def reading : PegState := { claimed1 with reads := [⟨1, claimOf 7, 0, 0, [], none⟩] }
def claimRoom7 : List (Fld × Nat) := [(F.PEG_CLAIM_MAX_MAX 7, 4), (F.PEG_CELL_FREE_FREE, 524287)]
theorem witness_PegboxClaims :
    (∃ (q : BitVec 20) (s : State), s.pushDue q.toNat = true) ∧
    (∃ (k : Fin 4) (w : FWord) (s : State), qPort (bits (BitVec.toNat w.data) 8 20) = ↑k ∧ (s.desc (bits (BitVec.toNat w.data) 8 20)).claimed = false ∧ s.claimRoom w.src.toNat = true ∧ w.poison = 0 ∧ s.hasPacket (bits (BitVec.toNat w.data) 8 20) = true) ∧
    (∃ (k : Fin 4) (w : FWord) (s : State), qPort (bits (BitVec.toNat w.data) 8 20) = ↑k ∧ (s.desc (bits (BitVec.toNat w.data) 8 20)).claimed = false ∧ s.claimRoom w.src.toNat = true ∧ w.poison = 0 ∧ s.hasPacket (bits (BitVec.toNat w.data) 8 20) = false) ∧
    (∃ (g : Fin 4) (w : FWord) (n : Nat) (q : Nat) (cl : Claim) (s : State), s.peg.revoked = [] ∧ List.find? (fun e => e.2.first == bits (BitVec.toNat w.data) 8 19) s.peg.claims = some (q, cl) ∧ bits (bits (BitVec.toNat w.data) 8 19) 17 2 = ↑g ∧ (s.tag (bits (BitVec.toNat w.data) 8 19)).claimed = true ∧ (s.tag (bits (BitVec.toNat w.data) 8 19)).port = w.src.toNat ∧ (s.tag (bits (BitVec.toNat w.data) 8 19)).eop = true ∧ (s.tag (bits (BitVec.toNat w.data) 8 19)).err = TagError.none ∧ w.poison = 0 ∧ 1 ≤ n) ∧
    (∃ (k : Fin 4) (w : FWord) (cl : Claim) (s : State), qPort (bits (BitVec.toNat w.data) 8 20) = ↑k ∧ s.peg.claims.find (bits (BitVec.toNat w.data) 8 20) = some cl ∧ cl.queue = bits (BitVec.toNat w.data) 8 20 ∧ cl.id = bits (BitVec.toNat w.data) 32 16 ∧ cl.port = w.src.toNat ∧ 0 < cl.cells ∧ s.pendingIn bPEG = false ∧ s.peg.reads = [] ∧ w.poison = 0 ∧ bits (BitVec.toNat w.data) 0 8 = 4) ∧
    (∃ (q : BitVec 20) (cl : Claim) (s : State), s.peg.claims.find q.toNat = some cl ∧ cl.queue = q.toNat ∧ s.claimExpired cl.stamp = true ∧ s.peg.revoked = [] ∧ s.peg.reads = []) ∧
    (∃ (k : Fin 4) (w : FWord) (s : State), qPort (bits (BitVec.toNat w.data) 8 20) = ↑k ∧ w.poison = 0 ∧ bits (BitVec.toNat w.data) 0 8 = 3 ∧ s.peg.reads = []) ∧
    (∃ (req : Fin 36) (q : BitVec 20) (s : State), s.blockOn bPEG = true) ∧
    (∃ (k : Fin 4) (w : FWord) (cl : Claim) (s : State), qPort (bits (BitVec.toNat w.data) 8 20) = ↑k ∧ s.peg.claims.find (bits (BitVec.toNat w.data) 8 20) = some cl ∧ cl.id = bits (BitVec.toNat w.data) 32 16 ∧ cl.port = w.src.toNat ∧ s.readsOf cl ≠ [] ∧ w.poison = 0 ∧ bits (BitVec.toNat w.data) 0 8 = 4) ∧
    (∃ (k : Fin 4) (w : FWord) (s : State), w.poison ≠ 0) ∧
    (∃ (k : Fin 4) (w : FWord) (s : State), w.poison ≠ 0) ∧
    (∃ (k : Fin 4) (w : FWord) (s : State), w.poison ≠ 0) ∧
    (∃ (k : Fin 4) (w : FWord) (s : State), w.poison = 0 ∧ (bits (BitVec.toNat w.data) 0 8 < 2 ∨ 4 < bits (BitVec.toNat w.data) 0 8)) :=
  ⟨⟨64, peg claimRoom7 onePacket, by decide +kernel⟩,
   ⟨1, mkWord 17 7 1 2 true 0 0 (0x10 + 64 * 2 ^ 8), peg claimRoom7 onePacket, by decide +kernel⟩,
   ⟨1, mkWord 17 7 1 2 true 0 0 (0x10 + 64 * 2 ^ 8), peg claimRoom7 { onePacket with descs := [] }, by decide +kernel⟩,
   ⟨0, mkWord 20 7 1 2 true 0 0 0x11, 1, 64, claimOf 7, peg claimRoom7 claimed1, by decide +kernel⟩,
   ⟨1, mkWord 17 7 3 2 true 0 0 (4 + 64 * 2 ^ 8 + 3 * 2 ^ 32), claimOf 7, peg claimRoom7 claimed1, by decide +kernel⟩,
   ⟨64, claimOf 7, later (peg claimRoom7 claimed1), by decide +kernel⟩,
   ⟨1, mkWord 17 7 3 2 true 0 0 (3 + 64 * 2 ^ 8), peg claimRoom7 onePacket, by decide +kernel⟩,
   ⟨31, 64, peg claimRoom7 onePacket, by decide +kernel⟩,
   ⟨1, mkWord 17 7 3 2 true 0 0 (4 + 64 * 2 ^ 8 + 3 * 2 ^ 32), claimOf 7, peg claimRoom7 reading, by decide +kernel⟩,
   ⟨1, mkWord 17 7 3 2 true 0 1 (3 + 64 * 2 ^ 8), peg claimRoom7 onePacket, by decide +kernel⟩,
   ⟨1, mkWord 17 7 3 2 true 0 1 (3 + 64 * 2 ^ 8), peg claimRoom7 onePacket, by decide +kernel⟩,
   ⟨1, mkWord 17 7 3 2 true 0 1 (3 + 64 * 2 ^ 8), peg claimRoom7 onePacket, by decide +kernel⟩,
   ⟨1, mkWord 17 7 3 2 true 0 0 (5 + 64 * 2 ^ 8), peg claimRoom7 onePacket, by decide +kernel⟩⟩

theorem witness_PegboxRegisters :
    (∃ (req : Fin 36) (v : BitVec 32) (s : State), s.blockOn bPEG = true ∧ s.run bPEG = false) ∧
    (∃ (req : Fin 36) (v : BitVec 32) (s : State), s.blockOn bPEG = true ∧ s.run bPEG = true ∧ s.queueQuiet (s.rdReq (↑req) F.PEG_QSEL_QUEUE) = true ∧ s.isSet (F.SHADOW_HOLD bPEG) = false) ∧
    (∃ (req : Fin 36) (v : BitVec 32) (s : State), s.blockOn bPEG = true ∧ s.run bPEG = true ∧ s.queueQuiet (s.rdReq (↑req) F.PEG_QSEL_QUEUE) = false ∧ List.length s.peg.qshadow < 64) ∧
    (∃ (req : Fin 36) (n : Fin 16) (v : BitVec 32) (s : State), s.blockOn bPEG = true ∧ 1 ≤ bits v.toNat 19 8 ∧ bits v.toNat 19 8 ≤ 144 ∧ s.run bPEG = false) ∧
    (∃ (req : Fin 36) (n : Fin 16) (v : BitVec 32) (s : State), s.blockOn bPEG = true ∧ 1 ≤ bits v.toNat 19 8 ∧ bits v.toNat 19 8 ≤ 144 ∧ s.run bPEG = true) ∧
    (∃ (req : Fin 36) (s : State), s.blockOn bPEG = true) ∧
    (∃ (req : Fin 36) (s : State), s.blockOn bPEG = true) ∧
    (∃ (req : Fin 36) (s : State), s.blockOn bPEG = true) :=
  ⟨⟨31, 0x01000007, up [(F.STATE_RUN bPEG, 0)], by decide +kernel⟩,
   ⟨31, 0x01000007, up [], by decide +kernel⟩,
   ⟨31, 0x01000007, { peg [] (ctxs .open 1) with reqRegs := [(reqKey 31 F.PEG_QSEL_QUEUE.key, 64)] }, by decide +kernel⟩,
   ⟨31, 15, 5 * 2 ^ 19 + 9, up [(F.STATE_RUN bPEG, 0)], by decide +kernel⟩,
   ⟨31, 15, 5 * 2 ^ 19 + 9, up [], by decide +kernel⟩,
   ⟨31, up [], by decide +kernel⟩,
   ⟨31, up [], by decide +kernel⟩,
   ⟨31, up [], by decide +kernel⟩⟩

def atTb2 (ms cAt : Nat) : State :=
  { up [] with
    field := { FieldState.start with started := true, cAt := cAt }, time := { State.reset.time with tb2 := ms * 1000000 * 65536 } }
theorem witness_SuperframeAndAirtimeCommands :
    (∃ (l : List (Fin 12 × Alloc)) (ps : List (BitVec 14)) (s : State), s.field.started = true ∧ s.isOn 45 = true ∧ s.field.cAt < s.tb2Ns / 10000000 ∧ s.field.cAt < 100 * s.field.rAt + 99 ∧ s.pendingIn bFPLC = false ∧ s.pendingIn bNODE = false) ∧
    (∃ (l : List (Fin 4 × Alloc)) (m : List (Fin 12 × Byte)) (ps : List (BitVec 14)) (s : State), s.field.started = true ∧ s.isOn 45 = true ∧ s.field.rAt < s.tb2Ns / 1000000000 ∧ s.field.cAt = 100 * s.field.rAt + 99 ∧ s.pendingIn bFRAD = false) ∧
    (∃ (n : Nat) (v : Nat) (r : Nat) (s : State), s.field.started = false ∧ s.allOn [31, 45] = true ∧ n ≠ 0 ∧ s.pendingIn bFPLC = false ∧ s.pendingIn bNODE = false ∧ s.pendingIn bFRAD = false ∧ (s.tb0Valid = true ∧ s.tb0Ns % 1000000000 < 1000 ∧ s.journalSfn = none ∧ v ≠ 0 ∧ r = s.tb0Sec ∨ (s.tb0Valid = true ∧ s.tb0Ns % 1000000000 < 1000 ∧ ∃ b, s.journalSfn = some b ∧ r = max s.tb0Sec b) ∨ s.tb0Valid = false ∧ s.journalSfn = some r)) ∧
    (∃ (n : Nat) (j : Nat) (s : State), s.field.started = false ∧ 60 ≤ n ∧ s.jid = some j ∧ s.jrnUp = true) ∧
    (∃ (r : Fin 4) (us : BitVec 32) (x : Resv) (s : State), List.find? (fun y => y.radio == ↑r) s.field.resv = some x) ∧
    (∃ (s : State), s.isOn 31 = true) ∧
    (∃ (req : Fin 36) (b : Fin 5) (p : Byte) (d : BitVec 16) (s : State), s.blockOn bFRAD = true ∧ BitVec.toNat p ≤ 50 ∧ d.toNat ≤ dutyOf ↑b) ∧
    (∃ (req : Fin 36) (s : State), s.blockOn bFRAD = true) :=
  ⟨⟨[], [], atTb2 10 0, by decide +kernel⟩,
   ⟨[], [], [], atTb2 1000 99, by decide +kernel⟩,
   ⟨60, 1, 0, up [(F.TIME_TB0_STAT_VALID, 1)], ⟨by decide +kernel, by decide +kernel, by decide +kernel, by decide +kernel, by decide +kernel, by decide +kernel, Or.inl (by decide +kernel)⟩⟩,
   ⟨60, 192, headed (up [(F.SLOT_STATUS_ADDR, 0)]), by decide +kernel⟩,
   ⟨1, 100, ⟨1, 2, 500⟩, { up [] with field := { FieldState.start with resv := [⟨0, 2, 9⟩, ⟨1, 2, 500⟩], books := [(2, ⟨3600000, 3000000, 509, 0, []⟩)] } }, by decide +kernel⟩,
   ⟨{ up [] with field := { FieldState.start with resv := [⟨0, 2, 9⟩, ⟨1, 2, 500⟩], books := [(2, ⟨3600000, 3000000, 509, 0, []⟩)] } }, by decide +kernel⟩,
   ⟨35, 2, 50, 1, up [], by decide +kernel⟩,
   ⟨31, up [], by decide +kernel⟩⟩

def node7 : List (Nat × Nat) := [(0, 0x11), (8, 1), (9, 2), (16, 3), (18, 5), (19, 5), (60, 41), (64, 9)]
def frame7 (typ : BitVec 3) (seq : Byte) (flow : BitVec 6) (fcnt : Word) (l : List Byte) : FieldFrame :=
  ⟨typ, true, false, false, false, true, 1, seq, 0x3FFF, 7, flow, fcnt, 5, l⟩
def heard (f : FieldFrame) : FieldRx :=
  let l := macHeader f ++ octetsLE 4 f.fcnt.toNat ++ [f.keyIdx] ++ f.payload ++ List.replicate 8 0
  ⟨.ofNat 64 (phyHeader (l.length + 4) 0 true 0 1), psdu l, some f.payload, ⟨0, 200, 60⟩, none⟩
def sent (tries : Nat) : Tx := ⟨64 * 7 + 2, 3, 0, frame7 0 1 2 42 [1], 1, tries, false⟩
def scheduled (txs : AMap Tx) : FieldState := { FieldState.start with allocs := [(1, ⟨5, 7, false, false, 7⟩)], txs := txs }
theorem witness_DownlinkCommands :
    (∃ (e : BitVec 14) (fl : Fin 32) (us : BitVec 32) (i : Fin 80) (p : Bool) (cl : Claim) (s : State), s.heldClaim 27 (downQueue e.toNat ↑fl) = some cl ∧ cl.queue = downQueue e.toNat ↑fl ∧ (p = true ∨ 2027 < cl.len)) ∧
    (∃ (e : BitVec 14) (fl : Fin 32) (us : BitVec 32) (i : Fin 80) (p : Bool) (cl : Claim) (s : State) (a : Alloc), s.heldClaim 27 (downQueue e.toNat ↑fl) = some cl ∧ cl.queue = downQueue e.toNat ↑fl ∧ p = false ∧ cl.len ≤ 2027 ∧ s.mayTransmit = true ∧ e.toNat < 16320 ∧ s.ndState e.toNat = 2 ∧ s.ndMedium e.toNat < 12 ∧ s.mediumUp (s.ndMedium e.toNat) = true ∧ s.keyUp (s.keyData e.toNat) = true ∧ s.field.acked.contains (cl.queue, cl.first) = false ∧ s.servedFirst e.toNat ↑fl = false ∧ (↑fl = 4 → bitAt (s.nd e.toNat 17 1) 2 = false) ∧ s.allocOf (s.ndMedium e.toNat) e.toNat ↑i = some a ∧ allocHolds a (s.ndMedium e.toNat) (↑i) us.toNat = true ∧ s.asleep e.toNat (s.slotStart (s.ndMedium e.toNat) a.first.toNat) = false ∧ s.key.moves.find e.toNat = none ∧ s.field.txs.find e.toNat = none ∧ s.nd e.toNat 60 4 < 4294967280 ∧ (s.nd e.toNat 60 4 + 1) / 65536 * 65536 ≤ s.floor e.toNat false 0 ∧ 2 ≤ ↑fl) ∧
    (∃ (m : Byte) (rx : FieldRx) (f : FieldFrame) (x : Tx) (cl : Claim) (s : State), FrameFrom s m 2 rx f ∧ s.nd f.slot.toNat 64 4 < BitVec.toNat f.fcnt ∧ s.field.txs.find f.slot.toNat = some x ∧ x.frame.seq = f.seq ∧ x.moving = false ∧ s.txClaim x = some cl ∧ cl.queue = x.queue) ∧
    (∃ (e : BitVec 14) (us : BitVec 32) (i : Fin 80) (x : Tx) (s : State) (cl : Claim) (a : Alloc), s.field.txs.find e.toNat = some x ∧ x.medium < 12 ∧ s.txClaim x = some cl ∧ x.tries < s.rd F.FPLC_RETRY_LIMIT ∧ s.mediumUp x.medium = true ∧ s.mayTransmit = true ∧ bitAt (s.nd e.toNat 17 1) 0 = false ∧ s.allocOf x.medium e.toNat ↑i = some a ∧ allocHolds a x.medium (↑i) us.toNat = true) ∧
    (∃ (e : BitVec 14) (us : BitVec 32) (i : Fin 80) (x : Tx) (s : State) (cl : Claim), s.field.txs.find e.toNat = some x ∧ x.medium < 12 ∧ s.txClaim x = some cl ∧ s.rd F.FPLC_RETRY_LIMIT ≤ x.tries ∧ x.moving = false) ∧
    (∃ (e : BitVec 14) (us : BitVec 32) (i : Fin 80) (x : Tx) (s : State), s.field.txs.find e.toNat = some x ∧ x.medium < 12 ∧ s.txClaim x = none) ∧
    (∃ (e : BitVec 14) (up : Bool) (r : Fin 4) (m : Nat) (j : Nat) (s : State), s.field.floorDue.find (floorKey e.toNat up ↑r) = some m ∧ s.jid = some j ∧ s.jrnUp = true) ∧
    (∃ (e : BitVec 14) (n : Nat) (s : State), s.key.moves.find e.toNat = some 1 ∧ 3600 ≤ n) :=
  ⟨⟨7, 2, 0, 0, true, claimed 450 27 5, net [] (holding 450 27 5) FieldState.start (nodeAt 7 node7), by decide +kernel⟩,
   ⟨7, 2, 100, 5, false, claimed 450 27 5, net [] (holding 450 27 5) (scheduled []) (nodeAt 7 node7), ⟨5, 7, false, false, 7⟩, by decide +kernel⟩,
   ⟨1, heard (frame7 2 1 0 10 []), frame7 2 1 0 10 [], sent 0, claimed 450 27 5, net [] (holding 450 27 5) { FieldState.start with txs := [(7, sent 0)] } (nodeAt 7 node7), by unfold FrameFrom; decide +kernel⟩,
   ⟨7, 100, 5, sent 0, net [] (holding 450 27 5) (scheduled [(7, sent 0)]) (nodeAt 7 node7), claimed 450 27 5, ⟨5, 7, false, false, 7⟩, by decide +kernel⟩,
   ⟨7, 100, 5, sent 5, net [] (holding 450 27 5) { FieldState.start with txs := [(7, sent 5)] } (nodeAt 7 node7), claimed 450 27 5, by decide +kernel⟩,
   ⟨7, 100, 5, sent 5, net [] PegState.start { FieldState.start with txs := [(7, sent 5)] } (nodeAt 7 node7), by decide +kernel⟩,
   ⟨7, true, 1, 65536, 192, net [] (holding 450 27 5) { FieldState.start with floorDue := [(floorKey 7 true 1, 65536)] } [], by decide +kernel⟩,
   ⟨7, 3600, { net [] (holding 450 27 5) FieldState.start [] with key := { State.reset.key with moves := [(7, 1)] } }, by decide +kernel⟩⟩

def burst0 : List Byte := List.replicate 16 0 ++ octetsLE 2 (crc16 (List.replicate 16 0))
def img12 : List Byte := [1, 2, 3, 4, 5, 6, 7, 8, 9, 10, 11, 12]
theorem witness_UplinkCommands :
    (∃ (m : Byte) (rx : FieldRx) (f : FieldFrame) (us : BitVec 32) (i : Fin 80) (s : State), s.nd f.slot.toNat 64 4 < BitVec.toNat f.fcnt ∧ FrameFrom s m 1 rx f ∧ f.flow = 35 ∧ f.payload.length = 12) ∧
    (∃ (m : Byte) (rx : FieldRx) (f : FieldFrame) (us : BitVec 32) (i : Fin 80) (s : State), s.nd f.slot.toNat 64 4 < BitVec.toNat f.fcnt ∧ FrameFrom s m 3 rx f ∧ f.payload.length = 11 ∧ List.take 1 f.payload = o1 3) ∧
    (∃ (e : BitVec 14) (s : State), s.ndLive e.toNat = true ∧ s.field.missed.contains e.toNat = false) ∧
    (∃ (m : Byte) (i : Fin 80) (c : Fin 8) (l : List Byte) (img : BitVec 96) (rx : RxInfo) (e : Nat) (s : State), s.mediumUp (BitVec.toNat m) = true ∧ (BitVec.toNat m < 12 ∧ burstOk l = true ∧ 5 ≤ ↑i ∧ s.imageAt (BitVec.toNat m) (8 * (↑i - 5) + ↑c) = some e ∨ 12 ≤ BitVec.toNat m ∧ 4 ≤ l.length ∧ ofOctetsLE (List.drop (l.length - 4) l) = crc32 (List.take (l.length - 4) l) ∧ s.imageFrame l = some e ∧ s.imageAt (BitVec.toNat m) ↑i = some e) ∧ s.ndState e = 2 ∧ s.keyUp (bits (s.nd e 19 1) 0 6) = true ∧ (s.nd e 68 4 = 0 ∨ newer 32 (s.sfnOf (BitVec.toNat m) % 2 ^ 32) (s.nd e 68 4) = true)) :=
  ⟨⟨1, heard (frame7 1 4 35 10 img12), frame7 1 4 35 10 img12, 0, 0, net [(F.STATE_RUN bNODE, 1)] PegState.start FieldState.start (nodeAt 7 node7), by unfold FrameFrom; decide +kernel⟩,
   ⟨1, heard (frame7 3 4 32 10 [3, 9, 0, 0, 0, 0, 0, 0, 0, 0, 0]), frame7 3 4 32 10 [3, 9, 0, 0, 0, 0, 0, 0, 0, 0, 0], 0, 0, net [(F.STATE_RUN bNODE, 1)] PegState.start FieldState.start (nodeAt 7 node7), by unfold FrameFrom; decide +kernel⟩,
   ⟨7, net [(F.STATE_RUN bNODE, 1)] PegState.start FieldState.start (nodeAt 7 node7), by decide +kernel⟩,
   ⟨1, 5, 0, burst0, 7, ⟨0, 200, 60⟩, 7, net [(F.STATE_RUN bNODE, 1)] PegState.start FieldState.start (nodeAt 7 ((17, 2) :: node7)), by decide +kernel⟩⟩

def joinFrame (eui : Byte) : FieldFrame :=
  ⟨3, true, false, false, false, true, 1, 0, 0x3FFF, 16383, 0, 10, 0xC5, [1, eui, 0, 0, 0, 0, 0, 0, 0, 1, 0, 2, 0, 0, 0]⟩
def selects (slot eui : Nat) (m : Memory) : State :=
  { net [] PegState.start FieldState.start m with
    reqRegs := [(reqKey 35 F.NODE_SEL_SLOT.key, slot), (reqKey 35 F.NODE_EUI_LO_EUI.key, eui)] }
theorem witness_NodeCommands :
    (∃ (m : Byte) (rx : FieldRx) (f : FieldFrame) (k : BitVec 4) (a : Bool) (b : Bool) (s : State), JoinFrom s m rx f ∧ List.find? (fun n => s.nd n 0 8 == ofOctetsLE (List.take 8 (List.drop 1 f.payload))) s.nodeSlots = none) ∧
    (∃ (m : Byte) (rx : FieldRx) (f : FieldFrame) (k : BitVec 4) (a : Bool) (b : Bool) (s : State) (e : Nat), JoinFrom s m rx f ∧ List.find? (fun n => s.nd n 0 8 == ofOctetsLE (List.take 8 (List.drop 1 f.payload))) s.nodeSlots = some e ∧ bits (BitVec.toNat f.keyIdx) 0 6 = s.keyData e ∧ s.keyUp (s.keyData e) = true ∧ s.field.joinUp.get e (s.floor e true 3) < BitVec.toNat f.fcnt) ∧
    (∃ (m : Byte) (rx : FieldRx) (f : FieldFrame) (k : BitVec 4) (a : Bool) (b : Bool) (s : State) (e : Nat), JoinFrom s m rx f ∧ List.find? (fun n => s.nd n 0 8 == ofOctetsLE (List.take 8 (List.drop 1 f.payload))) s.nodeSlots = some e ∧ bits (BitVec.toNat f.keyIdx) 0 6 = s.keyData e ∧ s.keyUp (s.keyData e) = true ∧ BitVec.toNat f.fcnt < s.field.joinUp.get e (s.floor e true 3)) ∧
    (∃ (e : BitVec 14) (s : State), e.toNat < 16320 ∧ s.ndState e.toNat = 2 ∧ 1000 * s.rd F.NODE_ORPHAN_CFG_LOST_S ≤ (s.tb2Ms + 2 ^ 32 - s.nd e.toNat 72 4) % 2 ^ 32) ∧
    (∃ (req : Fin 36) (g : Fin 32) (e : Nat) (s : State) (eui : Nat), s.blockOn bNODE = true ∧ s.rdReq (↑req) F.NODE_SEL_SLOT = e ∧ e < 16320 ∧ s.rdReq (↑req) F.NODE_EUI_LO_EUI + s.rdReq (↑req) F.NODE_EUI_HI_EUI * 2 ^ 32 = eui ∧ s.ndState e = 0 ∧ (s.nodeSlots.any fun n => s.nd n 0 8 == eui) = false) ∧
    (∃ (req : Fin 36) (g : Fin 32) (e : Nat) (s : State), s.blockOn bNODE = true ∧ s.rdReq (↑req) F.NODE_SEL_SLOT = e ∧ e < 16320 ∧ s.ndState e ≠ 0) ∧
    (∃ (req : Fin 36) (g : Fin 32) (e : Nat) (s : State), s.blockOn bNODE = true ∧ s.rdReq (↑req) F.NODE_SEL_SLOT = e ∧ e < 16320 ∧ s.ndState e ≠ 0) ∧
    (∃ (req : Fin 36) (g : Fin 32) (e : Nat) (s : State), s.blockOn bNODE = true ∧ s.rdReq (↑req) F.NODE_SEL_SLOT = e ∧ e < 16320 ∧ s.ndState e ≠ 0) ∧
    (∃ (req : Fin 36) (g : Fin 32) (e : Nat) (s : State), s.blockOn bNODE = true ∧ s.rdReq (↑req) F.NODE_SEL_SLOT = e ∧ e < 16320 ∧ s.ndState e = 0) :=
  ⟨⟨1, heard (joinFrame 0x22), joinFrame 0x22, 0, true, false, net [] PegState.start FieldState.start (nodeAt 7 node7), by unfold JoinFrom; decide +kernel⟩,
   ⟨1, heard (joinFrame 0x11), joinFrame 0x11, 0, true, false, net [] PegState.start FieldState.start (nodeAt 7 node7), 7, by unfold JoinFrom; decide +kernel⟩,
   ⟨1, heard (joinFrame 0x11), joinFrame 0x11, 0, true, false, net [] PegState.start { FieldState.start with joinUp := [(7, 11)] } (nodeAt 7 node7), 7, by unfold JoinFrom; decide +kernel⟩,
   ⟨7, net [(F.NODE_ORPHAN_CFG_LOST_S, 0)] PegState.start FieldState.start (nodeAt 7 node7), by decide +kernel⟩,
   ⟨35, 3, 16319, selects 16319 0x22 (nodeAt 7 node7), 0x22, by decide +kernel⟩,
   ⟨35, 3, 7, selects 7 0x22 (nodeAt 7 node7), by decide +kernel⟩,
   ⟨35, 31, 7, selects 7 0x22 (nodeAt 7 node7), by decide +kernel⟩,
   ⟨35, 31, 7, selects 7 0x22 (nodeAt 7 node7), by decide +kernel⟩,
   ⟨35, 31, 8, selects 8 0x22 (nodeAt 7 node7), by decide +kernel⟩⟩

def calendar1 : List Byte :=
  [0, 0, 1, 1, 1, 0] ++ List.replicate 1554 0 ++ [1, 0, 0, 0, 100, 0, 0, 0, 0, 0] ++ List.replicate 382 0 ++
  [0, 0, 0, 0, 200, 0, 0, 0, 1, 0, 0, 0, 127, 0, 0, 0]
def civil (l : List (Fld × Nat)) (p : PegState) (m : Memory) : State :=
  { net ((F.RTC_STAT_OSF, 0) :: (F.RTC_TIME_LO_SEC, 946684800 + 100 * 86400 + 43200) :: (F.SYS_COURSE_ROLE_ROLE 5, 3) ::
      (F.SYS_COURSE_ROLE_ROLE 6, 3) :: l) p FieldState.start m with
    cal := { State.reset.cal with octets := calendar1 } }
theorem witness_CalendarCommands :
    (∃ (s : State), s.allOn [0, 47, 49] = true ∧ s.wallValid = false) ∧
    (∃ (s : State) (g : Nat) (key : Nat) (tm : Int) (x : CalStep) (rest : List (Nat × Int × CalStep)), s.allOn [0, 47, 49] = true ∧ s.wallValid = true ∧ s.hasCal = true ∧ g < s.calB 2 1 ∧ s.calB 2 1 ≤ 32 ∧ s.dueNow g (s.calLead g) = (key, tm, x) :: rest ∧ s.rd (F.NODE_CAL_LAST_KEY g) < key ∧ key < 2 ^ 32) ∧
    (∃ (e : BitVec 14) (p : Nat) (d : Nat) (s : State), e.toNat < 16320 ∧ s.ndState e.toNat = 2 ∧ s.wallValid = true ∧ s.hasCal = true ∧ s.localSec / 86400 = ↑d ∧ 43200 ≤ s.localSec % 86400 ∧ s.localSec % 86400 < 46800 ∧ s.cal.profDay.find e.toNat ≠ some d ∧ s.servant 3 e.toNat = some p ∧ s.steps (s.nd e.toNat 16 1) d ≠ [] ∧ ((s.profile (s.nd e.toNat 16 1) d).2.pegPut p (64 * e.toNat + 2) false (s.profile (s.nd e.toNat 16 1) d).1).1.1 = stOK) ∧
    (∃ (e : BitVec 14) (cl : Claim) (s : State), s.peg.claims.find (64 * e.toNat + 36) = some cl ∧ cl.queue = 64 * e.toNat + 36 ∧ (s.courses 3).contains cl.port = true ∧ s.isOn cl.port = true ∧ (s.claimOctets cl).length = 20 ∧ List.take 1 (s.claimOctets cl) = o1 131) ∧
    (∃ (e : BitVec 14) (cl : Claim) (s : State), s.peg.claims.find (64 * e.toNat + 32) = some cl ∧ cl.queue = 64 * e.toNat + 32 ∧ (s.courses 3).contains cl.port = true ∧ s.isOn cl.port = true ∧ (s.claimOctets cl).length = 12 ∧ List.take 1 (s.claimOctets cl) = o1 128) :=
  ⟨⟨up [(F.RTC_STAT_OSF, 1)], by decide +kernel⟩,
   ⟨civil [] PegState.start [], 0, 6400, 8640000, ⟨0, 100, 0, 0⟩, [(6336, 8553600, ⟨0, 100, 0, 0⟩)], by decide +kernel⟩,
   ⟨7, 6, 100, civil pool { PegState.start with descs := [(450, enabled)] } (nodeAt 7 [(8, 1), (9, 2), (16, 0)]), by decide +kernel⟩,
   ⟨7, claimed 484 5 20, civil pool (holding 484 5 20) (nodeAt 7 [(8, 1), (9, 2)] ++ [(0x60000000, 131)]), by decide +kernel⟩,
   ⟨7, claimed 480 5 12, civil pool (holding 480 5 12) (nodeAt 7 [(8, 1), (9, 2)] ++ [(0x60000000, 128)]), by decide +kernel⟩⟩

def symPacket : Memory := [(0x60000000, 0x82), (0x60000004, 7), (0x6000000E, 9)]
def boost (st : Nat) : BoostCmd := ⟨3, 77, 1000, 40, st⟩
theorem witness_SympathCommands :
    (∃ (e : BitVec 14) (p : Bool) (ns : BitVec 16) (cl : Claim) (s : State), s.isOn 39 = true ∧ s.isSet F.SYM_CTRL_LOADING = false ∧ s.symIdle = true ∧ s.heldClaim 29 (64 * e.toNat + 34) = some cl ∧ cl.queue = 64 * e.toNat + 34 ∧ s.pendingIn bSYM = false ∧ s.run bSYM = false) ∧
    (∃ (e : BitVec 14) (p : Bool) (ns : BitVec 16) (cl : Claim) (s : State) (i : Nat), s.isOn 39 = true ∧ s.isSet F.SYM_CTRL_LOADING = false ∧ s.symIdle = true ∧ s.heldClaim 29 (64 * e.toNat + 34) = some cl ∧ cl.queue = 64 * e.toNat + 34 ∧ s.pendingIn bSYM = false ∧ s.run bSYM = true ∧ s.symCheck e.toNat (s.claimOctets cl) p = some i) ∧
    (∃ (e : BitVec 14) (p : Bool) (ns : BitVec 16) (cl : Claim) (s : State), s.isOn 39 = true ∧ s.isSet F.SYM_CTRL_LOADING = false ∧ s.symIdle = true ∧ s.heldClaim 29 (64 * e.toNat + 34) = some cl ∧ cl.queue = 64 * e.toNat + 34 ∧ s.pendingIn bSYM = false ∧ s.run bSYM = true ∧ s.symCheck e.toNat (s.claimOctets cl) p = none) ∧
    (∃ (k : Fin 32) (c : BoostCmd) (s : State), List.find? (fun c => c.k == ↑k) s.sym.cmds = some c ∧ s.pendingIn bSYM = false ∧ c.status = stOK) ∧
    (∃ (k : Fin 32) (c : BoostCmd) (s : State), List.find? (fun c => c.k == ↑k) s.sym.cmds = some c ∧ s.pendingIn bSYM = false ∧ c.status ≠ stOK) ∧
    (∃ (a : BitVec 40) (s : State), s.isOn 39 = true ∧ s.isSet F.SYM_CTRL_LOADING = false) ∧
    (∃ (us : BitVec 32) (id : Nat) (n : Nat) (a : Nat) (s : State), s.sym.loading = some (id, n, a) ∧ s.symIdle = true ∧ MemCanonical s) ∧
    (∃ (s : State), s.isOn 39 = true ∧ s.symIdle = true) :=
  ⟨⟨7, false, 0, claimed 482 29 16, net [(F.STATE_RUN bSYM, 0)] (holding 482 29 16) FieldState.start symPacket, by decide +kernel⟩,
   ⟨7, true, 0, claimed 482 29 16, net [(F.STATE_RUN bSYM, 1)] (holding 482 29 16) FieldState.start symPacket, 3, by decide +kernel⟩,
   ⟨7, false, 0, claimed 482 29 16, net [(F.STATE_RUN bSYM, 1), (F.SYM_KIND_CFG_EN 0, 1), (F.SYM_KIND_CFG_CONF_MIN 0, 0)] (holding 482 29 16) FieldState.start ([(detAt 7, 0), (detAt 7 + 1, 0x80)] ++ symPacket), by decide +kernel⟩,
   ⟨3, boost stOK, { up [] with sym := { State.reset.sym with cmds := [boost stOK] } }, by decide +kernel⟩,
   ⟨3, boost stBAD, { up [] with sym := { State.reset.sym with cmds := [boost stBAD] } }, by decide +kernel⟩,
   ⟨0x60000000, up [], by decide +kernel⟩,
   ⟨500, 5, 1, 0x70000000, { up [] with sym := { State.reset.sym with loading := some (5, 1, 0x70000000) } }, by unfold MemCanonical; decide +kernel⟩,
   ⟨up [], by decide +kernel⟩⟩

def sample : GaugeSample := ⟨List.replicate 32 1000, List.replicate 16 16000, [0]⟩
def lineCycle : LineCycle := ⟨12000, 24000, List.replicate 12 0⟩
def metering (l : List (Fld × Nat)) : State := up ((F.GAUGE_CTRL_ENABLE, 1) :: (F.STATE_RUN bGAUGE, 1) :: l)
theorem witness_GaugeIntegratesAndLatches :
    (∃ (x : GaugeSample) (s : State), s.gaugeRuns = true) ∧
    (∃ (x : GaugeSample) (c : LineCycle) (s : State), s.isOn 45 = true ∧ s.gaugeRuns = true ∧ s.pendingIn bGAUGE = false) ∧
    (∃ (req : Fin 36) (s : State), s.blockOn bGAUGE = true ∧ s.rd F.GAUGE_CTRL_ENABLE = 1 ∧ s.run bGAUGE = true) ∧
    (∃ (n : Nat) (s : State), s.rd F.GAUGE_LATCH_CFG_STORE_MIN ≤ n ∧ s.isOn 36 = true ∧ s.jrnUp = true) ∧
    (∃ (req : Fin 36) (s : State), s.blockOn bGAUGE = true ∧ s.run bGAUGE = true) :=
  ⟨⟨sample, metering [], by decide +kernel⟩,
   ⟨sample, lineCycle, { metering [] with gauge := { GaugeState.start with force := true, q := [(8, ⟨1, 2, 3, 4, 5⟩)] } }, by decide +kernel⟩,
   ⟨31, metering [], by decide +kernel⟩,
   ⟨1440, metering [], by decide +kernel⟩,
   ⟨0, metering [], by decide +kernel⟩⟩

theorem witness_GaugeCommands :
    (∃ (k : Fin 4) (ms : Nat) (s : State), s.isOn 36 = true ∧ s.isSet (F.GAUGE_S0OUT_CFG_EN ↑k) = true ∧ 0 < s.rd (F.GAUGE_S0OUT_BACKLOG_PENDING ↑k) ∧ s.rd (F.GAUGE_S0OUT_BACKLOG_PENDING ↑k) < 2 ^ 16 ∧ s.rd (F.GAUGE_S0OUT_CFG_ON_MS ↑k) + s.rd (F.GAUGE_S0OUT_CFG_OFF_MS ↑k) ≤ ms) ∧
    (∃ (k : Fin 4) (ms : Nat) (s : State), s.isOn 36 = true ∧ 10 ≤ ms ∧ s.isSet (F.GAUGE_S0IN_STAT_LEVEL_LOW ↑k) = false) ∧
    (∃ (k : Fin 4) (ms : Nat) (s : State), s.isOn 36 = true ∧ 10 ≤ ms ∧ s.isSet (F.GAUGE_S0IN_STAT_LEVEL_LOW ↑k) = true ∧ s.gauge.s0Ready.contains ↑k = true ∧ s.isSet (F.GAUGE_S0IN_CFG_EN ↑k) = true) ∧
    (∃ (k : Fin 4) (ms : Nat) (s : State), s.isOn 36 = true ∧ s.isSet (F.GAUGE_S0IN_STAT_LEVEL_LOW ↑k) = true ∧ 2000 < ms ∧ s.gauge.stuck.contains ↑k = false) ∧
    (∃ (s : State), s.run bGAUGE = true ∧ s.courses 4 ≠ [] ∧ s.gauge.winAt + 60000000 * s.rd F.GAUGE_EVT_CFG_B_DEV_WIN ≤ s.sys.refTick) ∧
    (∃ (e : BitVec 14) (cl : Claim) (s : State), s.peg.claims.find (64 * e.toNat + 33) = some cl ∧ cl.queue = 64 * e.toNat + 33 ∧ (s.courses 4).contains cl.port = true ∧ s.isOn cl.port = true ∧ (s.claimOctets cl).length = 24 ∧ List.take 1 (s.claimOctets cl) = o1 129) ∧
    (∃ (req : Fin 36) (s : State), s.blockOn bGAUGE = true ∧ s.rdReq (↑req) F.GAUGE_AUDIT_CTRL_Q < 128) ∧
    (∃ (req : Fin 36) (q : Fin 128) (s : State), s.blockOn bGAUGE = true) :=
  ⟨⟨3, 120, up [(F.GAUGE_S0OUT_CFG_EN 3, 1), (F.GAUGE_S0OUT_BACKLOG_PENDING 3, 2), (F.GAUGE_S0OUT_CFG_ON_MS 3, 60), (F.GAUGE_S0OUT_CFG_OFF_MS 3, 60)], by decide +kernel⟩,
   ⟨3, 10, up [(F.GAUGE_S0IN_STAT_LEVEL_LOW 3, 0)], by decide +kernel⟩,
   ⟨3, 10, { up [(F.GAUGE_S0IN_STAT_LEVEL_LOW 3, 1), (F.GAUGE_S0IN_CFG_EN 3, 1)] with gauge := { GaugeState.start with s0Ready := [3] } }, by decide +kernel⟩,
   ⟨3, 2001, up [(F.GAUGE_S0IN_STAT_LEVEL_LOW 3, 1)], by decide +kernel⟩,
   ⟨{ metering [(F.SYS_COURSE_ROLE_ROLE 8, 4)] with sys := { State.reset.sys with refTick := 3600000000 } }, by decide +kernel⟩,
   ⟨7, claimed 481 8 24, net [(F.SYS_COURSE_ROLE_ROLE 8, 4), (F.STATE_RUN bGAUGE, 1)] (holding 481 8 24) FieldState.start [(0x60000000, 129)], by decide +kernel⟩,
   ⟨31, up [], by decide +kernel⟩,
   ⟨31, 127, up [], by decide +kernel⟩⟩

def sounding (l : List (Fld × Nat)) (x : SoundState) : State :=
  { net ((F.STATE_RUN bSOUND, 1) :: (F.SOUND_FDR_CFG_EN 3, 1) :: (F.SYS_COURSE_ROLE_ROLE 2, 2) :: l) PegState.start FieldState.start [] with
    io := { State.reset.io with coilOut := 8 }, sound := x }
def change1 : Change := ⟨3, 1, 0, 9, true, 2, 3, 0, 10, 20, 30, 40, -5, 6, false, 0⟩
theorem witness_SoundingCommands :
    (∃ (f : Fin 12) (ch : Bool) (x : List Int) (y : List Int) (coil : Nat) (mis : Nat) (s : State), s.run bSOUND = true ∧ s.frontOn ↑f = true ∧ s.pendingIn bSOUND = false ∧ s.capturingOf (↑f) (b2n ch) = true ∧ s.feederState (↑f) coil mis < 2 ∧ (s.soundCourse ↑f).isSome = true ∧ s.isOn 24 = true ∧ (s.sound.rings.get ↑f []).length < 64) ∧
    (∃ (f : Fin 12) (ch : Bool) (x : List Int) (y : List Int) (coil : Nat) (mis : Nat) (s : State), s.run bSOUND = true ∧ s.frontOn ↑f = true ∧ s.pendingIn bSOUND = false ∧ s.capturingOf (↑f) (b2n ch) = true ∧ 2 ≤ s.feederState (↑f) coil mis) ∧
    (∃ (f : Fin 12) (s : State), s.quietIn (↑f) s.sfnC = true ∧ s.windowFits = true ∧ s.frontOn ↑f = true ∧ s.mediumUp ↑f = true ∧ s.sound.capturing.contains ↑f = false ∧ s.sound.chirped ≠ some s.sfnC) ∧
    (∃ (f : Fin 12) (c : Capture) (rest : List Capture) (s : State), s.sound.rings.get ↑f [] = c :: rest ∧ (s.soundCourse ↑f).isSome = true) ∧
    (∃ (f : Fin 12) (ch : Bool) (d : Bool) (n : Nat) (since : Nat) (s : State), (s.probesOf (baseKey (↑f) (b2n ch) (b2n d))).n = n ∧ 0 < n ∧ s.rd F.SOUND_PERIOD_REFL_S ≤ since ∧ (s.soundCourse ↑f).isSome = true ∧ s.isOn 24 = true ∧ s.sound.retry = [] ∧ s.sound.learned.contains (baseKey (↑f) (b2n ch) (b2n d)) = false) ∧
    (∃ (req : Fin 36) (f : Fin 12) (ch : Bool) (d : Bool) (s : State), s.blockOn bSOUND = true) ∧
    (∃ (req : Fin 36) (f : Fin 12) (ch : Bool) (d : Bool) (s : State), s.blockOn bSOUND = true) ∧
    (∃ (req : Fin 36) (n : Fin 32) (s : State), s.blockOn bSOUND = true ∧ s.sound.chg.find ↑n = none) ∧
    (∃ (req : Fin 36) (n : Fin 32) (s : State) (c : Change), s.blockOn bSOUND = true ∧ s.sound.chg.find ↑n = some c) ∧
    (∃ (f : Fin 12) (ch : Bool) (d : Bool) (s : State), s.sound.unsaved.contains (4 * ↑f + 2 * b2n ch + b2n d) = true ∧ s.jrnUp = true ∧ s.isOn 24 = true) :=
  ⟨⟨3, false, [1, -2], [3, 4], 200, 0, sounding [] { SoundState.start with carrying := [3] }, by decide +kernel⟩,
   ⟨3, false, [1, -2], [3, 4], 199, 10, sounding [] { SoundState.start with carrying := [3] }, by decide +kernel⟩,
   ⟨3, sounding [(F.SOUND_FDR_CFG_CHIRP_EN 3, 1), (F.SOUND_QUIET_FIRST_SLOT, 40), (F.SOUND_QUIET_LEN, 4), (F.FPLC_SF_CFG_CIP_LEN, 4), (F.FPLC_SF_CFG_CONT_LEN, 4), (F.SOUND_FDR_CFG_PHASE 3, 0)] SoundState.start, by decide +kernel⟩,
   ⟨3, ⟨0, 1, 5, [1, 2], [3]⟩, [⟨1, 0, 6, [], []⟩], sounding [] { SoundState.start with rings := [(3, [⟨0, 1, 5, [1, 2], [3]⟩, ⟨1, 0, 6, [], []⟩])] }, by decide +kernel⟩,
   ⟨3, true, true, 16, 86400, sounding [] { SoundState.start with probes := [(baseKey 3 1 1, ⟨16, 4, [1, 2, 3]⟩)] }, by decide +kernel⟩,
   ⟨35, 3, true, true, sounding [] SoundState.start, by decide +kernel⟩,
   ⟨35, 3, true, true, sounding [] SoundState.start, by decide +kernel⟩,
   ⟨35, 31, sounding [] SoundState.start, by decide +kernel⟩,
   ⟨35, 9, sounding [] { SoundState.start with chg := [(9, change1)] }, change1, by decide +kernel⟩,
   ⟨3, true, true, sounding [] { SoundState.start with unsaved := [15] }, by decide +kernel⟩⟩

def paced (seen : Int) (l : List (Fld × Nat)) : State :=
  { up ((F.SCAN_MODE_MODE, 1) :: (F.STATE_RUN bSCAN, 1) :: (F.SCAN_TASK_CFG_EN 2, 1) :: (F.SCAN_TASK_CFG_ALIGN 2, 0) ::
      (F.SCAN_TASK_TIME_PERIOD_MS 2, 10) :: (F.SCAN_TASK_TIME_PHASE 2, 0) :: (F.TIME_TB3_LO_US, 25000) :: l) with
    scan := { ScanState.start with paces := [(2, ⟨1, seen, none, 0, true⟩)] } }
theorem witness_ScanCyclesAndTrips :
    (∃ (io : IoPins) (n : Nat) (k : Int) (w : Int) (d : Due) (r : TaskPace) (s : State), s.scanMode = mRun ∧ s.scan.cyc = none ∧ s.scan.latch = none ∧ List.findSome? (fun n => Option.map (fun x => (n, x)) (s.firstDue n)) (List.range 16) = some (n, k, w) ∧ s.dueOf n = some d ∧ s.scan.paces.find n = some r ∧ s.latchTime = true) ∧
    (∃ (io : IoPins) (n : Nat) (k : Int) (w : Int) (d : Due) (r : TaskPace) (s : State), s.scanMode = mRun ∧ s.scan.cyc = none ∧ s.scan.latch = none ∧ List.findSome? (fun n => Option.map (fun x => (n, x)) (s.firstDue n)) (List.range 16) = some (n, k, w) ∧ s.dueOf n = some d ∧ s.scan.paces.find n = some r ∧ s.latchTime = false) ∧
    (∃ (io : IoPins) (n : Nat) (due : Nat) (s : State), s.scan.latch = some (n, due) ∧ n < 16 ∧ s.scanMode = mRun ∧ (s.sfRun = false ∨ 60000 ≤ s.tb2Ns % 10000000 ∧ s.latchTime = true)) ∧
    (∃ (n : Fin 16) (r : TaskPace) (s : State), s.scanMode = mRun ∧ s.skipDue ↑n = some r ∧ s.isSet (F.SCAN_TASK_CFG_GUARDED ↑n) = false) ∧
    (∃ (n : Fin 16) (r : TaskPace) (s : State), s.scanMode = mRun ∧ s.skipDue ↑n = some r ∧ s.isSet (F.SCAN_TASK_CFG_GUARDED ↑n) = true) ∧
    (∃ (n : Nat) (s : State), s.scanMode = mHold ∧ s.rd F.SCAN_HOLD_LIMIT_S ≤ n) :=
  ⟨⟨⟨5, 900, 20000, false⟩, 2, 20, 5000, ⟨1, 20, 10, 1000, 5000⟩, ⟨1, 10, none, 0, true⟩, paced 10 [], by decide +kernel⟩,
   ⟨⟨5, 900, 20000, false⟩, 2, 20, 5000, ⟨1, 20, 10, 1000, 5000⟩, ⟨1, 10, none, 0, true⟩, { paced 10 [] with field := { FieldState.start with started := true }, time := { State.reset.time with tb2 := 9600000 * 65536 } }, by decide +kernel⟩,
   ⟨⟨5, 900, 20000, false⟩, 2, 7, { paced 10 [] with scan := { ScanState.start with paces := [(2, ⟨1, 10, none, 0, true⟩)], latch := some (2, 7) } }, by decide +kernel⟩,
   ⟨2, ⟨1, 20, some 10, 0, false⟩, paced 0 [(F.SCAN_TASK_CFG_GUARDED 2, 0)], by decide +kernel⟩,
   ⟨2, ⟨1, 20, some 10, 0, false⟩, paced 0 [(F.SCAN_TASK_CFG_GUARDED 2, 1)], by decide +kernel⟩,
   ⟨600, up [(F.SCAN_MODE_MODE, 2), (F.STATE_RUN bSCAN, 1)], by decide +kernel⟩⟩

def cycle (c : Bool) (acc : Word) (stack : List Bool) : Cycle := ⟨2, c, acc, false, 0, stack, 5, 1000000, 0, [], false, false⟩
def scanning (m : Nat) (y : Option Cycle) (l : List (Fld × Nat)) (mem : Memory) : State :=
  { up ((F.SCAN_MODE_MODE, m) :: (F.STATE_RUN bSCAN, 1) :: (F.SCAN_PROG_LEN_LEN, 100) :: l) with
    mem := mem, scan := { ScanState.start with cyc := y } }
theorem witness_ScanCommands :
    (∃ (req : Fin 36) (s : State), s.blockOn bSCAN = true ∧ s.scanMode = mStop ∧ s.isSet F.SCAN_CMD_STAT_PROG_OK = true) ∧
    (∃ (req : Fin 36) (s : State), s.blockOn bSCAN = true ∧ s.scanMode ≠ mStop) ∧
    (∃ (req : Fin 36) (s : State), s.blockOn bSCAN = true ∧ (s.scanMode = mHold ∨ s.scanMode = mRun ∧ s.scan.cyc = none)) ∧
    (∃ (req : Fin 36) (s : State) (y : Cycle), s.blockOn bSCAN = true ∧ s.scanMode = mRun ∧ s.scan.cyc = some y) ∧
    (∃ (req : Fin 36) (s : State), s.blockOn bSCAN = true ∧ s.scanMode = mRun ∧ s.isSet F.SCAN_CTRL_HOLD_EN = true) ∧
    (∃ (req : Fin 36) (s : State), s.blockOn bSCAN = true ∧ s.scanMode = mHold ∧ s.scan.cyc = none) ∧
    (∃ (req : Fin 36) (s : State) (y : Cycle), s.blockOn bSCAN = true ∧ s.scanMode = mHold ∧ s.scan.cyc = some y ∧ y.ended = false) ∧
    (∃ (req : Fin 36) (s : State) (y : Cycle) (f : TabFn) (y' : Cycle) (u : State), s.blockOn bSCAN = true ∧ s.scanMode = mHold ∧ s.scan.cyc = some y ∧ y.ended = false ∧ y.pc < s.rd F.SCAN_PROG_LEN_LEN ∧ tabOp (s.tabWordAt y.pc / 2 ^ 24) = some f ∧ f (s.tabWordAt y.pc % 2 ^ 24) { task := y.task, c := y.c, acc := y.acc, ov := y.ov, p := y.p, stack := y.stack, pc := (y.pc + 1) % 2 ^ 18, tStart := y.tStart, begun := y.begun, sends := y.sends, skipBp := false, ended := y.ended } s = Except.ok (y', u)) ∧
    (∃ (req : Fin 36) (s : State), s.blockOn bSCAN = true ∧ s.scanMode = mFault) ∧
    (∃ (req : Fin 36) (s : State), s.blockOn bSCAN = true ∧ (s.scanMode = mStop ∨ s.scanMode = mFault)) :=
  ⟨⟨31, scanning 0 none [(F.SCAN_CMD_STAT_PROG_OK, 1)] [], by decide +kernel⟩,
   ⟨31, scanning 3 none [] [], by decide +kernel⟩,
   ⟨31, scanning 1 none [] [], by decide +kernel⟩,
   ⟨31, scanning 1 (some (cycle true 5 [])) [] [], cycle true 5 [], by decide +kernel⟩,
   ⟨31, scanning 1 (some (cycle true 5 [])) [(F.SCAN_CTRL_HOLD_EN, 1)] [], by decide +kernel⟩,
   ⟨31, scanning 2 none [] [], by decide +kernel⟩,
   ⟨31, scanning 2 (some (cycle true 5 [])) [] [], cycle true 5 [], by decide +kernel⟩,
   ⟨31, scanning 2 (some (cycle true 5 [])) [] [], cycle true 5 [], tNop, nextPc (cycle true 5 []), scanning 2 (some (cycle true 5 [])) [] [], ⟨by decide +kernel, by decide +kernel, by decide +kernel, by decide +kernel, by decide +kernel, rfl, rfl⟩⟩,
   ⟨31, scanning 3 none [] [], by decide +kernel⟩,
   ⟨31, scanning 0 none [] [], by decide +kernel⟩⟩

def programmed (op w : Nat) (y : Cycle) (m : List (Nat × Nat)) : State :=
  scanning 1 (some y) [] (([(0x00400014, w % 256), (0x00400015, w / 256 % 256), (0x00400016, w / 65536), (0x00400017, op)] ++ m).filterMap
    (fun (p : Nat × Nat) => if p.2 = 0 then none else some (p.1, BitVec.ofNat 8 p.2)))
def bitW : Nat := 5 * 2 ^ 21 + 8 * 8 + 3
def atBit : List (Nat × Nat) := [(0x005C1008, 0xA8)]
theorem witness_TabBits :
    (∃ (w : BitVec 24) (y : Cycle) (a : Nat) (s : State), tabAddr y (bits w.toNat 21 3) (bits w.toNat 3 18) 1 1 0 0 = Except.ok a ∧ AtInstr 16 w.toNat y s) ∧
    (∃ (w : BitVec 24) (y : Cycle) (a : Nat) (s : State), tabAddr y (bits w.toNat 21 3) (bits w.toNat 3 18) 1 1 0 0 = Except.ok a ∧ AtInstr 17 w.toNat y s) ∧
    (∃ (w : BitVec 24) (y : Cycle) (a : Nat) (s : State), tabAddr y (bits w.toNat 21 3) (bits w.toNat 3 18) 1 1 0 0 = Except.ok a ∧ AtInstr 18 w.toNat y s) ∧
    (∃ (w : BitVec 24) (y : Cycle) (a : Nat) (s : State), tabAddr y (bits w.toNat 21 3) (bits w.toNat 3 18) 1 1 0 0 = Except.ok a ∧ AtInstr 19 w.toNat y s) ∧
    (∃ (w : BitVec 24) (y : Cycle) (a : Nat) (s : State), tabAddr y (bits w.toNat 21 3) (bits w.toNat 3 18) 1 1 0 0 = Except.ok a ∧ AtInstr 20 w.toNat y s) ∧
    (∃ (w : BitVec 24) (y : Cycle) (a : Nat) (s : State), tabAddr y (bits w.toNat 21 3) (bits w.toNat 3 18) 1 1 0 0 = Except.ok a ∧ AtInstr 21 w.toNat y s) ∧
    (∃ (w : BitVec 24) (y : Cycle) (a : Nat) (s : State), tabAddr y (bits w.toNat 21 3) (bits w.toNat 3 18) 1 1 0 0 = Except.ok a ∧ AtInstr 22 w.toNat y s) ∧
    (∃ (w : BitVec 24) (y : Cycle) (a : Nat) (s : State), tabAddr y (bits w.toNat 21 3) (bits w.toNat 3 18) 1 1 0 0 = Except.ok a ∧ AtInstr 23 w.toNat y s) ∧
    (∃ (w : BitVec 24) (y : Cycle) (a : Nat) (s : State), tabAddr y (bits w.toNat 21 3) (bits w.toNat 3 18) 1 1 0 1 = Except.ok a ∧ AtInstr 24 w.toNat y s) ∧
    (∃ (w : BitVec 24) (y : Cycle) (a : Nat) (s : State), tabAddr y (bits w.toNat 21 3) (bits w.toNat 3 18) 1 1 0 1 = Except.ok a ∧ AtInstr 25 w.toNat y s) ∧
    (∃ (w : BitVec 24) (y : Cycle) (a : Nat) (s : State), tabAddr y (bits w.toNat 21 3) (bits w.toNat 3 18) 1 1 0 1 = Except.ok a ∧ AtInstr 26 w.toNat y s ∧ y.c = true) ∧
    (∃ (w : BitVec 24) (y : Cycle) (a : Nat) (s : State), tabAddr y (bits w.toNat 21 3) (bits w.toNat 3 18) 1 1 0 1 = Except.ok a ∧ AtInstr 26 w.toNat y s ∧ y.c = false) ∧
    (∃ (w : BitVec 24) (y : Cycle) (a : Nat) (s : State), tabAddr y (bits w.toNat 21 3) (bits w.toNat 3 18) 1 1 0 1 = Except.ok a ∧ AtInstr 27 w.toNat y s ∧ y.c = true) ∧
    (∃ (w : BitVec 24) (y : Cycle) (a : Nat) (s : State), tabAddr y (bits w.toNat 21 3) (bits w.toNat 3 18) 1 1 0 1 = Except.ok a ∧ AtInstr 27 w.toNat y s ∧ y.c = false) ∧
    (∃ (w : BitVec 24) (y : Cycle) (a : Nat) (s : State), tabAddr y (bits w.toNat 21 3) (bits w.toNat 3 18) 1 1 0 1 = Except.ok a ∧ AtInstr 28 w.toNat y s) ∧
    (∃ (w : BitVec 24) (y : Cycle) (a : Nat) (s : State), tabAddr y (bits w.toNat 21 3) (bits w.toNat 3 18) 1 1 0 1 = Except.ok a ∧ AtInstr 29 w.toNat y s) :=
  ⟨⟨10485827, cycle true 5 [], 0x005C1008, programmed 16 bitW (cycle true 5 []) atBit, by unfold AtInstr; decide +kernel⟩,
   ⟨10485827, cycle true 5 [], 0x005C1008, programmed 17 bitW (cycle true 5 []) atBit, by unfold AtInstr; decide +kernel⟩,
   ⟨10485827, cycle true 5 [], 0x005C1008, programmed 18 bitW (cycle true 5 []) atBit, by unfold AtInstr; decide +kernel⟩,
   ⟨10485827, cycle true 5 [], 0x005C1008, programmed 19 bitW (cycle true 5 []) atBit, by unfold AtInstr; decide +kernel⟩,
   ⟨10485827, cycle true 5 [], 0x005C1008, programmed 20 bitW (cycle true 5 []) atBit, by unfold AtInstr; decide +kernel⟩,
   ⟨10485827, cycle true 5 [], 0x005C1008, programmed 21 bitW (cycle true 5 []) atBit, by unfold AtInstr; decide +kernel⟩,
   ⟨10485827, cycle true 5 [], 0x005C1008, programmed 22 bitW (cycle true 5 []) atBit, by unfold AtInstr; decide +kernel⟩,
   ⟨10485827, cycle true 5 [], 0x005C1008, programmed 23 bitW (cycle true 5 []) atBit, by unfold AtInstr; decide +kernel⟩,
   ⟨10485827, cycle true 5 [], 0x005C1008, programmed 24 bitW (cycle true 5 []) atBit, by unfold AtInstr; decide +kernel⟩,
   ⟨10485827, cycle true 5 [], 0x005C1008, programmed 25 bitW (cycle true 5 []) atBit, by unfold AtInstr; decide +kernel⟩,
   ⟨10485827, cycle true 5 [], 0x005C1008, programmed 26 bitW (cycle true 5 []) atBit, by unfold AtInstr; decide +kernel⟩,
   ⟨10485827, cycle false 5 [], 0x005C1008, programmed 26 bitW (cycle false 5 []) atBit, by unfold AtInstr; decide +kernel⟩,
   ⟨10485827, cycle true 5 [], 0x005C1008, programmed 27 bitW (cycle true 5 []) atBit, by unfold AtInstr; decide +kernel⟩,
   ⟨10485827, cycle false 5 [], 0x005C1008, programmed 27 bitW (cycle false 5 []) atBit, by unfold AtInstr; decide +kernel⟩,
   ⟨10485827, cycle true 5 [], 0x005C1008, programmed 28 bitW (cycle true 5 []) atBit, by unfold AtInstr; decide +kernel⟩,
   ⟨10485827, cycle true 5 [], 0x005C1008, programmed 29 bitW (cycle true 5 []) atBit, by unfold AtInstr; decide +kernel⟩⟩

theorem witness_TabPlain :
    (∃ (y : Cycle) (s : State), AtInstr 0 0 y s) ∧
    (∃ (y : Cycle) (s : State), AtInstr 32 0 y s ∧ y.stack.length < 8) ∧
    (∃ (y : Cycle) (s : State), AtInstr 32 0 y s ∧ 8 ≤ y.stack.length ∧ s.pendingIn bSCAN = false) ∧
    (∃ (y : Cycle) (s : State) (b : Bool) (l : List Bool), y.stack = b :: l ∧ AtInstr 33 0 y s) ∧
    (∃ (y : Cycle) (s : State) (b : Bool) (l : List Bool), y.stack = b :: l ∧ AtInstr 34 0 y s) ∧
    (∃ (y : Cycle) (s : State) (b : Bool) (l : List Bool), y.stack = b :: l ∧ AtInstr 35 0 y s) ∧
    (∃ (y : Cycle) (s : State), y.stack = [] ∧ s.pendingIn bSCAN = false ∧ AtInstr 33 0 y s) ∧
    (∃ (y : Cycle) (s : State), y.stack = [] ∧ s.pendingIn bSCAN = false ∧ AtInstr 34 0 y s) ∧
    (∃ (y : Cycle) (s : State), y.stack = [] ∧ s.pendingIn bSCAN = false ∧ AtInstr 35 0 y s) ∧
    (∃ (y : Cycle) (s : State), AtInstr 36 0 y s) ∧
    (∃ (y : Cycle) (s : State), AtInstr 37 0 y s) ∧
    (∃ (y : Cycle) (s : State), AtInstr 38 0 y s) ∧
    (∃ (y : Cycle) (s : State), AtInstr 39 0 y s) ∧
    (∃ (y : Cycle) (s : State), AtInstr 40 0 y s) ∧
    (∃ (y : Cycle) (s : State), AtInstr 86 0 y s) ∧
    (∃ (y : Cycle) (s : State), AtInstr 87 0 y s) ∧
    (∃ (y : Cycle) (s : State), AtInstr 88 0 y s) ∧
    (∃ (y : Cycle) (s : State) (w : BitVec 24), w ≠ 0 ∧ AtInstr 36 w.toNat y s ∧ s.pendingIn bSCAN = false) ∧
    (∃ (y : Cycle) (s : State), AtInstr 255 0 y s ∧ s.pendingIn bSCAN = false ∧ y.stack ≠ []) ∧
    (∃ (y : Cycle) (s : State), AtInstr 255 0 y s ∧ s.pendingIn bSCAN = false ∧ y.stack = [] ∧ s.scan.stopReq = false ∧ y.task < 16) :=
  ⟨⟨cycle true 5 [], programmed 0 0 (cycle true 5 []) [], by unfold AtInstr; decide +kernel⟩,
   ⟨cycle true 5 [], programmed 32 0 (cycle true 5 []) [], by unfold AtInstr; decide +kernel⟩,
   ⟨cycle true 5 (List.replicate 8 true), programmed 32 0 (cycle true 5 (List.replicate 8 true)) [], by unfold AtInstr; decide +kernel⟩,
   ⟨cycle true 5 [true, false], programmed 33 0 (cycle true 5 [true, false]) [], true, [false], by unfold AtInstr; decide +kernel⟩,
   ⟨cycle true 5 [true, false], programmed 34 0 (cycle true 5 [true, false]) [], true, [false], by unfold AtInstr; decide +kernel⟩,
   ⟨cycle true 5 [true, false], programmed 35 0 (cycle true 5 [true, false]) [], true, [false], by unfold AtInstr; decide +kernel⟩,
   ⟨cycle true 5 [], programmed 33 0 (cycle true 5 []) [], by unfold AtInstr; decide +kernel⟩,
   ⟨cycle true 5 [], programmed 34 0 (cycle true 5 []) [], by unfold AtInstr; decide +kernel⟩,
   ⟨cycle true 5 [], programmed 35 0 (cycle true 5 []) [], by unfold AtInstr; decide +kernel⟩,
   ⟨cycle true 5 [], programmed 36 0 (cycle true 5 []) [], by unfold AtInstr; decide +kernel⟩,
   ⟨cycle true 5 [], programmed 37 0 (cycle true 5 []) [], by unfold AtInstr; decide +kernel⟩,
   ⟨cycle true 5 [], programmed 38 0 (cycle true 5 []) [], by unfold AtInstr; decide +kernel⟩,
   ⟨cycle true 5 [], programmed 39 0 (cycle true 5 []) [], by unfold AtInstr; decide +kernel⟩,
   ⟨cycle true 5 [], programmed 40 0 (cycle true 5 []) [], by unfold AtInstr; decide +kernel⟩,
   ⟨cycle true 5 [], programmed 86 0 (cycle true 5 []) [], by unfold AtInstr; decide +kernel⟩,
   ⟨cycle true 5 [], programmed 87 0 (cycle true 5 []) [], by unfold AtInstr; decide +kernel⟩,
   ⟨cycle true 5 [], programmed 88 0 (cycle true 5 []) [], by unfold AtInstr; decide +kernel⟩,
   ⟨cycle true 5 [], programmed 36 1 (cycle true 5 []) [], 1, by unfold AtInstr; decide +kernel⟩,
   ⟨cycle true 5 [true, false], programmed 255 0 (cycle true 5 [true, false]) [], by unfold AtInstr; decide +kernel⟩,
   ⟨cycle true 5 [], programmed 255 0 (cycle true 5 []) [], by unfold AtInstr; decide +kernel⟩⟩

def wordW : Nat := 5 * 2 ^ 21 + 8 * 8 + 4
theorem witness_TabWords :
    (∃ (w : BitVec 24) (y : Cycle) (a : Nat) (x : Int) (s : State), bits w.toNat 0 3 ≤ 4 ∧ tabAddr y (bits w.toNat 21 3) (bits w.toNat 3 18) (tabWidth (bits w.toNat 0 3)).1 (tabWidth (bits w.toNat 0 3)).1 0 0 = Except.ok a ∧ operandAt s a (bits w.toNat 0 3) = x ∧ AtInstr 48 w.toNat y s) ∧
    (∃ (w : BitVec 24) (y : Cycle) (a : Nat) (x : Int) (s : State), bits w.toNat 0 3 ≤ 4 ∧ tabAddr y (bits w.toNat 21 3) (bits w.toNat 3 18) (tabWidth (bits w.toNat 0 3)).1 (tabWidth (bits w.toNat 0 3)).1 0 0 = Except.ok a ∧ operandAt s a (bits w.toNat 0 3) = x ∧ AtInstr 50 w.toNat y s) ∧
    (∃ (w : BitVec 24) (y : Cycle) (a : Nat) (x : Int) (s : State), bits w.toNat 0 3 ≤ 4 ∧ tabAddr y (bits w.toNat 21 3) (bits w.toNat 3 18) (tabWidth (bits w.toNat 0 3)).1 (tabWidth (bits w.toNat 0 3)).1 0 0 = Except.ok a ∧ operandAt s a (bits w.toNat 0 3) = x ∧ AtInstr 51 w.toNat y s) ∧
    (∃ (w : BitVec 24) (y : Cycle) (a : Nat) (x : Int) (s : State), bits w.toNat 0 3 ≤ 4 ∧ tabAddr y (bits w.toNat 21 3) (bits w.toNat 3 18) (tabWidth (bits w.toNat 0 3)).1 (tabWidth (bits w.toNat 0 3)).1 0 0 = Except.ok a ∧ operandAt s a (bits w.toNat 0 3) = x ∧ AtInstr 52 w.toNat y s) ∧
    (∃ (w : BitVec 24) (y : Cycle) (a : Nat) (x : Int) (s : State), bits w.toNat 0 3 ≤ 4 ∧ tabAddr y (bits w.toNat 21 3) (bits w.toNat 3 18) (tabWidth (bits w.toNat 0 3)).1 (tabWidth (bits w.toNat 0 3)).1 0 0 = Except.ok a ∧ operandAt s a (bits w.toNat 0 3) = x ∧ AtInstr 53 w.toNat y s ∧ x ≠ 0) ∧
    (∃ (w : BitVec 24) (y : Cycle) (a : Nat) (x : Int) (s : State), bits w.toNat 0 3 ≤ 4 ∧ tabAddr y (bits w.toNat 21 3) (bits w.toNat 3 18) (tabWidth (bits w.toNat 0 3)).1 (tabWidth (bits w.toNat 0 3)).1 0 0 = Except.ok a ∧ operandAt s a (bits w.toNat 0 3) = x ∧ AtInstr 53 w.toNat y s ∧ x = 0 ∧ s.pendingIn bSCAN = false) ∧
    (∃ (w : BitVec 24) (y : Cycle) (a : Nat) (x : Int) (s : State), bits w.toNat 0 3 ≤ 4 ∧ tabAddr y (bits w.toNat 21 3) (bits w.toNat 3 18) (tabWidth (bits w.toNat 0 3)).1 (tabWidth (bits w.toNat 0 3)).1 0 0 = Except.ok a ∧ operandAt s a (bits w.toNat 0 3) = x ∧ AtInstr 54 w.toNat y s ∧ x ≠ 0) ∧
    (∃ (w : BitVec 24) (y : Cycle) (a : Nat) (x : Int) (s : State), bits w.toNat 0 3 ≤ 4 ∧ tabAddr y (bits w.toNat 21 3) (bits w.toNat 3 18) (tabWidth (bits w.toNat 0 3)).1 (tabWidth (bits w.toNat 0 3)).1 0 0 = Except.ok a ∧ operandAt s a (bits w.toNat 0 3) = x ∧ AtInstr 54 w.toNat y s ∧ x = 0 ∧ s.pendingIn bSCAN = false) ∧
    (∃ (w : BitVec 24) (y : Cycle) (a : Nat) (x : Int) (s : State), bits w.toNat 0 3 ≤ 4 ∧ tabAddr y (bits w.toNat 21 3) (bits w.toNat 3 18) (tabWidth (bits w.toNat 0 3)).1 (tabWidth (bits w.toNat 0 3)).1 0 0 = Except.ok a ∧ operandAt s a (bits w.toNat 0 3) = x ∧ AtInstr 55 w.toNat y s) ∧
    (∃ (w : BitVec 24) (y : Cycle) (a : Nat) (x : Int) (s : State), bits w.toNat 0 3 ≤ 4 ∧ tabAddr y (bits w.toNat 21 3) (bits w.toNat 3 18) (tabWidth (bits w.toNat 0 3)).1 (tabWidth (bits w.toNat 0 3)).1 0 0 = Except.ok a ∧ operandAt s a (bits w.toNat 0 3) = x ∧ AtInstr 56 w.toNat y s) ∧
    (∃ (w : BitVec 24) (y : Cycle) (a : Nat) (x : Int) (s : State), bits w.toNat 0 3 ≤ 4 ∧ tabAddr y (bits w.toNat 21 3) (bits w.toNat 3 18) (tabWidth (bits w.toNat 0 3)).1 (tabWidth (bits w.toNat 0 3)).1 0 0 = Except.ok a ∧ operandAt s a (bits w.toNat 0 3) = x ∧ AtInstr 57 w.toNat y s) ∧
    (∃ (w : BitVec 24) (y : Cycle) (a : Nat) (x : Int) (s : State), bits w.toNat 0 3 ≤ 4 ∧ tabAddr y (bits w.toNat 21 3) (bits w.toNat 3 18) (tabWidth (bits w.toNat 0 3)).1 (tabWidth (bits w.toNat 0 3)).1 0 0 = Except.ok a ∧ operandAt s a (bits w.toNat 0 3) = x ∧ AtInstr 58 w.toNat y s) ∧
    (∃ (w : BitVec 24) (y : Cycle) (a : Nat) (x : Int) (s : State), bits w.toNat 0 3 ≤ 4 ∧ tabAddr y (bits w.toNat 21 3) (bits w.toNat 3 18) (tabWidth (bits w.toNat 0 3)).1 (tabWidth (bits w.toNat 0 3)).1 0 0 = Except.ok a ∧ operandAt s a (bits w.toNat 0 3) = x ∧ AtInstr 59 w.toNat y s) ∧
    (∃ (w : BitVec 24) (y : Cycle) (a : Nat) (x : Int) (s : State), bits w.toNat 0 3 ≤ 4 ∧ tabAddr y (bits w.toNat 21 3) (bits w.toNat 3 18) (tabWidth (bits w.toNat 0 3)).1 (tabWidth (bits w.toNat 0 3)).1 0 0 = Except.ok a ∧ operandAt s a (bits w.toNat 0 3) = x ∧ AtInstr 64 w.toNat y s) ∧
    (∃ (w : BitVec 24) (y : Cycle) (a : Nat) (x : Int) (s : State), bits w.toNat 0 3 ≤ 4 ∧ tabAddr y (bits w.toNat 21 3) (bits w.toNat 3 18) (tabWidth (bits w.toNat 0 3)).1 (tabWidth (bits w.toNat 0 3)).1 0 0 = Except.ok a ∧ operandAt s a (bits w.toNat 0 3) = x ∧ AtInstr 65 w.toNat y s) ∧
    (∃ (w : BitVec 24) (y : Cycle) (a : Nat) (x : Int) (s : State), bits w.toNat 0 3 ≤ 4 ∧ tabAddr y (bits w.toNat 21 3) (bits w.toNat 3 18) (tabWidth (bits w.toNat 0 3)).1 (tabWidth (bits w.toNat 0 3)).1 0 0 = Except.ok a ∧ operandAt s a (bits w.toNat 0 3) = x ∧ AtInstr 66 w.toNat y s) ∧
    (∃ (w : BitVec 24) (y : Cycle) (a : Nat) (x : Int) (s : State), bits w.toNat 0 3 ≤ 4 ∧ tabAddr y (bits w.toNat 21 3) (bits w.toNat 3 18) (tabWidth (bits w.toNat 0 3)).1 (tabWidth (bits w.toNat 0 3)).1 0 0 = Except.ok a ∧ operandAt s a (bits w.toNat 0 3) = x ∧ AtInstr 67 w.toNat y s) ∧
    (∃ (w : BitVec 24) (y : Cycle) (a : Nat) (x : Int) (s : State), bits w.toNat 0 3 ≤ 4 ∧ tabAddr y (bits w.toNat 21 3) (bits w.toNat 3 18) (tabWidth (bits w.toNat 0 3)).1 (tabWidth (bits w.toNat 0 3)).1 0 0 = Except.ok a ∧ operandAt s a (bits w.toNat 0 3) = x ∧ AtInstr 68 w.toNat y s) ∧
    (∃ (w : BitVec 24) (y : Cycle) (a : Nat) (x : Int) (s : State), bits w.toNat 0 3 ≤ 4 ∧ tabAddr y (bits w.toNat 21 3) (bits w.toNat 3 18) (tabWidth (bits w.toNat 0 3)).1 (tabWidth (bits w.toNat 0 3)).1 0 0 = Except.ok a ∧ operandAt s a (bits w.toNat 0 3) = x ∧ AtInstr 69 w.toNat y s) :=
  ⟨⟨10485828, cycle true 0x80000000 [], 0x005C1008, -2, programmed 48 wordW (cycle true 0x80000000 []) [(0x005C1008, 254), (0x005C1009, 255), (0x005C100A, 255), (0x005C100B, 255)], by unfold AtInstr; decide +kernel⟩,
   ⟨10485828, cycle true 0x80000000 [], 0x005C1008, -2, programmed 50 wordW (cycle true 0x80000000 []) [(0x005C1008, 254), (0x005C1009, 255), (0x005C100A, 255), (0x005C100B, 255)], by unfold AtInstr; decide +kernel⟩,
   ⟨10485828, cycle true 0x80000000 [], 0x005C1008, -2, programmed 51 wordW (cycle true 0x80000000 []) [(0x005C1008, 254), (0x005C1009, 255), (0x005C100A, 255), (0x005C100B, 255)], by unfold AtInstr; decide +kernel⟩,
   ⟨10485828, cycle true 0x80000000 [], 0x005C1008, -2, programmed 52 wordW (cycle true 0x80000000 []) [(0x005C1008, 254), (0x005C1009, 255), (0x005C100A, 255), (0x005C100B, 255)], by unfold AtInstr; decide +kernel⟩,
   ⟨10485828, cycle true 0x80000000 [], 0x005C1008, -2, programmed 53 wordW (cycle true 0x80000000 []) [(0x005C1008, 254), (0x005C1009, 255), (0x005C100A, 255), (0x005C100B, 255)], by unfold AtInstr; decide +kernel⟩,
   ⟨10485828, cycle true 0x80000000 [], 0x005C1008, 0, programmed 53 wordW (cycle true 0x80000000 []) [], by unfold AtInstr; decide +kernel⟩,
   ⟨10485828, cycle true 0x80000000 [], 0x005C1008, -2, programmed 54 wordW (cycle true 0x80000000 []) [(0x005C1008, 254), (0x005C1009, 255), (0x005C100A, 255), (0x005C100B, 255)], by unfold AtInstr; decide +kernel⟩,
   ⟨10485828, cycle true 0x80000000 [], 0x005C1008, 0, programmed 54 wordW (cycle true 0x80000000 []) [], by unfold AtInstr; decide +kernel⟩,
   ⟨10485828, cycle true 0x80000000 [], 0x005C1008, -2, programmed 55 wordW (cycle true 0x80000000 []) [(0x005C1008, 254), (0x005C1009, 255), (0x005C100A, 255), (0x005C100B, 255)], by unfold AtInstr; decide +kernel⟩,
   ⟨10485828, cycle true 0x80000000 [], 0x005C1008, -2, programmed 56 wordW (cycle true 0x80000000 []) [(0x005C1008, 254), (0x005C1009, 255), (0x005C100A, 255), (0x005C100B, 255)], by unfold AtInstr; decide +kernel⟩,
   ⟨10485828, cycle true 0x80000000 [], 0x005C1008, -2, programmed 57 wordW (cycle true 0x80000000 []) [(0x005C1008, 254), (0x005C1009, 255), (0x005C100A, 255), (0x005C100B, 255)], by unfold AtInstr; decide +kernel⟩,
   ⟨10485828, cycle true 0x80000000 [], 0x005C1008, -2, programmed 58 wordW (cycle true 0x80000000 []) [(0x005C1008, 254), (0x005C1009, 255), (0x005C100A, 255), (0x005C100B, 255)], by unfold AtInstr; decide +kernel⟩,
   ⟨10485828, cycle true 0x80000000 [], 0x005C1008, -2, programmed 59 wordW (cycle true 0x80000000 []) [(0x005C1008, 254), (0x005C1009, 255), (0x005C100A, 255), (0x005C100B, 255)], by unfold AtInstr; decide +kernel⟩,
   ⟨10485828, cycle true 0x80000000 [], 0x005C1008, -2, programmed 64 wordW (cycle true 0x80000000 []) [(0x005C1008, 254), (0x005C1009, 255), (0x005C100A, 255), (0x005C100B, 255)], by unfold AtInstr; decide +kernel⟩,
   ⟨10485828, cycle true 0x80000000 [], 0x005C1008, -2, programmed 65 wordW (cycle true 0x80000000 []) [(0x005C1008, 254), (0x005C1009, 255), (0x005C100A, 255), (0x005C100B, 255)], by unfold AtInstr; decide +kernel⟩,
   ⟨10485828, cycle true 0x80000000 [], 0x005C1008, -2, programmed 66 wordW (cycle true 0x80000000 []) [(0x005C1008, 254), (0x005C1009, 255), (0x005C100A, 255), (0x005C100B, 255)], by unfold AtInstr; decide +kernel⟩,
   ⟨10485828, cycle true 0x80000000 [], 0x005C1008, -2, programmed 67 wordW (cycle true 0x80000000 []) [(0x005C1008, 254), (0x005C1009, 255), (0x005C100A, 255), (0x005C100B, 255)], by unfold AtInstr; decide +kernel⟩,
   ⟨10485828, cycle true 0x80000000 [], 0x005C1008, -2, programmed 68 wordW (cycle true 0x80000000 []) [(0x005C1008, 254), (0x005C1009, 255), (0x005C100A, 255), (0x005C100B, 255)], by unfold AtInstr; decide +kernel⟩,
   ⟨10485828, cycle true 0x80000000 [], 0x005C1008, -2, programmed 69 wordW (cycle true 0x80000000 []) [(0x005C1008, 254), (0x005C1009, 255), (0x005C100A, 255), (0x005C100B, 255)], by unfold AtInstr; decide +kernel⟩⟩

theorem witness_TabStoresAndImmediates :
    (∃ (w : BitVec 24) (y : Cycle) (s : State) (a : Nat), AtInstr 49 w.toNat y s ∧ bits w.toNat 0 3 ≤ 4 ∧ tabAddr y (bits w.toNat 21 3) (bits w.toNat 3 18) (tabWidth (bits w.toNat 0 3)).1 (tabWidth (bits w.toNat 0 3)).1 0 (tabWidth (bits w.toNat 0 3)).1 = Except.ok a) ∧
    (∃ (w : BitVec 24) (y : Cycle) (s : State), AtInstr 49 w.toNat y s ∧ bits w.toNat 0 3 ≤ 4 ∧ bits w.toNat 21 3 = 0 ∧ s.pendingIn bSCAN = false) ∧
    (∃ (w : BitVec 24) (y : Cycle) (s : State), AtInstr 49 w.toNat y s ∧ 4 < bits w.toNat 0 3 ∧ s.pendingIn bSCAN = false) ∧
    (∃ (w : BitVec 24) (y : Cycle) (s : State), AtInstr 72 w.toNat y s) ∧
    (∃ (w : BitVec 24) (y : Cycle) (s : State), AtInstr 73 w.toNat y s) ∧
    (∃ (w : BitVec 24) (y : Cycle) (s : State), AtInstr 74 w.toNat y s) ∧
    (∃ (w : BitVec 24) (y : Cycle) (s : State), AtInstr 75 w.toNat y s) ∧
    (∃ (w : BitVec 24) (y : Cycle) (s : State), AtInstr 76 w.toNat y s) ∧
    (∃ (w : BitVec 24) (y : Cycle) (s : State), AtInstr 77 w.toNat y s) ∧
    (∃ (w : BitVec 24) (y : Cycle) (s : State), AtInstr 80 w.toNat y s) ∧
    (∃ (w : BitVec 24) (y : Cycle) (s : State), AtInstr 81 w.toNat y s ∧ w.toNat < 65536) ∧
    (∃ (w : BitVec 24) (y : Cycle) (s : State), AtInstr 82 w.toNat y s) ∧
    (∃ (w : BitVec 24) (y : Cycle) (s : State), w.toNat < 32 ∧ AtInstr 83 w.toNat y s) ∧
    (∃ (w : BitVec 24) (y : Cycle) (s : State), w.toNat < 32 ∧ AtInstr 84 w.toNat y s) ∧
    (∃ (w : BitVec 24) (y : Cycle) (s : State), w.toNat < 32 ∧ AtInstr 85 w.toNat y s) ∧
    (∃ (w : BitVec 24) (y : Cycle) (s : State), w.toNat < 2 ^ 18 ∧ AtInstr 96 w.toNat y s) ∧
    (∃ (w : BitVec 24) (y : Cycle) (s : State), w.toNat < 2 ^ 18 ∧ AtInstr 97 w.toNat y s) ∧
    (∃ (w : BitVec 24) (y : Cycle) (s : State), w.toNat < 2 ^ 18 ∧ AtInstr 98 w.toNat y s) ∧
    (∃ (w : BitVec 24) (y : Cycle) (s : State), w.toNat < 2 ^ 18 ∧ AtInstr 99 w.toNat y s) ∧
    (∃ (w : BitVec 24) (y : Cycle) (s : State), w.toNat < 2 ^ 18 ∧ AtInstr 100 w.toNat y s) ∧
    (∃ (w : BitVec 24) (y : Cycle) (s : State), 2 ^ 18 ≤ w.toNat ∧ AtInstr 96 w.toNat y s ∧ s.pendingIn bSCAN = false) :=
  ⟨⟨10485828, cycle true 0x12345678 [], programmed 49 wordW (cycle true 0x12345678 []) [], 0x005C1008, by unfold AtInstr; decide +kernel⟩,
   ⟨4, cycle true 0x12345678 [], programmed 49 4 (cycle true 0x12345678 []) [], by unfold AtInstr; decide +kernel⟩,
   ⟨10485829, cycle true 0x12345678 [], programmed 49 (wordW + 1) (cycle true 0x12345678 []) [], by unfold AtInstr; decide +kernel⟩,
   ⟨16777215, cycle true 0x12345678 [], programmed 72 16777215 (cycle true 0x12345678 []) [], by unfold AtInstr; decide +kernel⟩,
   ⟨16777215, cycle true 0x12345678 [], programmed 73 16777215 (cycle true 0x12345678 []) [], by unfold AtInstr; decide +kernel⟩,
   ⟨16777215, cycle true 0x12345678 [], programmed 74 16777215 (cycle true 0x12345678 []) [], by unfold AtInstr; decide +kernel⟩,
   ⟨16777215, cycle true 0x12345678 [], programmed 75 16777215 (cycle true 0x12345678 []) [], by unfold AtInstr; decide +kernel⟩,
   ⟨16777215, cycle true 0x12345678 [], programmed 76 16777215 (cycle true 0x12345678 []) [], by unfold AtInstr; decide +kernel⟩,
   ⟨16777215, cycle true 0x12345678 [], programmed 77 16777215 (cycle true 0x12345678 []) [], by unfold AtInstr; decide +kernel⟩,
   ⟨16777215, cycle true 0x12345678 [], programmed 80 16777215 (cycle true 0x12345678 []) [], by unfold AtInstr; decide +kernel⟩,
   ⟨65535, cycle true 0x12345678 [], programmed 81 65535 (cycle true 0x12345678 []) [], by unfold AtInstr; decide +kernel⟩,
   ⟨16777215, cycle true 0x12345678 [], programmed 82 16777215 (cycle true 0x12345678 []) [], by unfold AtInstr; decide +kernel⟩,
   ⟨31, cycle true 0x12345678 [], programmed 83 31 (cycle true 0x12345678 []) [], by unfold AtInstr; decide +kernel⟩,
   ⟨31, cycle true 0x12345678 [], programmed 84 31 (cycle true 0x12345678 []) [], by unfold AtInstr; decide +kernel⟩,
   ⟨31, cycle true 0x12345678 [], programmed 85 31 (cycle true 0x12345678 []) [], by unfold AtInstr; decide +kernel⟩,
   ⟨262143, cycle true 0x12345678 [], programmed 96 262143 (cycle true 0x12345678 []) [], by unfold AtInstr; decide +kernel⟩,
   ⟨262143, cycle true 0x12345678 [], programmed 97 262143 (cycle true 0x12345678 []) [], by unfold AtInstr; decide +kernel⟩,
   ⟨262143, cycle true 0x12345678 [], programmed 98 262143 (cycle true 0x12345678 []) [], by unfold AtInstr; decide +kernel⟩,
   ⟨262143, cycle true 0x12345678 [], programmed 99 262143 (cycle true 0x12345678 []) [], by unfold AtInstr; decide +kernel⟩,
   ⟨262143, cycle true 0x12345678 [], programmed 100 262143 (cycle true 0x12345678 []) [], by unfold AtInstr; decide +kernel⟩,
   ⟨262144, cycle true 0x12345678 [], programmed 96 262144 (cycle true 0x12345678 []) [], by unfold AtInstr; decide +kernel⟩⟩

def recW : Nat := 5 * 2 ^ 21 + 128
def timer (pt start st : Nat) : List (Nat × Nat) :=
  [(0x005C1010, pt), (0x005C1018, start % 256), (0x005C1019, start / 256), (0x005C101C, st)]
def counter (pv cv st : Nat) : List (Nat × Nat) := [(0x005C1010, pv), (0x005C1014, cv), (0x005C1018, st)]
theorem witness_TabTimersAndCounters :
    (∃ (w : BitVec 24) (y : Cycle) (a : Nat) (pt : Nat) (now : Nat) (start : Nat) (s : State), 4 ≤ bits w.toNat 21 3 ∧ bits w.toNat 0 7 = 0 ∧ tabAddr y (bits w.toNat 21 3) (bits w.toNat 3 18) 16 4 4 13 = Except.ok a ∧ s.rdMem a 4 = pt ∧ pt < 2 ^ 31 ∧ y.tStart / 1000 % 2 ^ 32 = now ∧ s.rdMem (a + 8) 4 = start ∧ AtInstr 112 w.toNat y s ∧ y.c = false) ∧
    (∃ (w : BitVec 24) (y : Cycle) (a : Nat) (pt : Nat) (now : Nat) (start : Nat) (s : State), 4 ≤ bits w.toNat 21 3 ∧ bits w.toNat 0 7 = 0 ∧ tabAddr y (bits w.toNat 21 3) (bits w.toNat 3 18) 16 4 4 13 = Except.ok a ∧ s.rdMem a 4 = pt ∧ pt < 2 ^ 31 ∧ y.tStart / 1000 % 2 ^ 32 = now ∧ s.rdMem (a + 8) 4 = start ∧ AtInstr 112 w.toNat y s ∧ y.c = true ∧ bitAt (s.rd8 (a + 12)) 1 = true) ∧
    (∃ (w : BitVec 24) (y : Cycle) (a : Nat) (pt : Nat) (now : Nat) (start : Nat) (s : State), 4 ≤ bits w.toNat 21 3 ∧ bits w.toNat 0 7 = 0 ∧ tabAddr y (bits w.toNat 21 3) (bits w.toNat 3 18) 16 4 4 13 = Except.ok a ∧ s.rdMem a 4 = pt ∧ pt < 2 ^ 31 ∧ y.tStart / 1000 % 2 ^ 32 = now ∧ s.rdMem (a + 8) 4 = start ∧ AtInstr 112 w.toNat y s ∧ y.c = true ∧ bitAt (s.rd8 (a + 12)) 1 = false) ∧
    (∃ (w : BitVec 24) (y : Cycle) (a : Nat) (pt : Nat) (now : Nat) (start : Nat) (s : State), 4 ≤ bits w.toNat 21 3 ∧ bits w.toNat 0 7 = 0 ∧ tabAddr y (bits w.toNat 21 3) (bits w.toNat 3 18) 16 4 4 13 = Except.ok a ∧ s.rdMem a 4 = pt ∧ pt < 2 ^ 31 ∧ y.tStart / 1000 % 2 ^ 32 = now ∧ s.rdMem (a + 8) 4 = start ∧ AtInstr 113 w.toNat y s ∧ y.c = true) ∧
    (∃ (w : BitVec 24) (y : Cycle) (a : Nat) (pt : Nat) (now : Nat) (start : Nat) (s : State), 4 ≤ bits w.toNat 21 3 ∧ bits w.toNat 0 7 = 0 ∧ tabAddr y (bits w.toNat 21 3) (bits w.toNat 3 18) 16 4 4 13 = Except.ok a ∧ s.rdMem a 4 = pt ∧ pt < 2 ^ 31 ∧ y.tStart / 1000 % 2 ^ 32 = now ∧ s.rdMem (a + 8) 4 = start ∧ AtInstr 113 w.toNat y s ∧ y.c = false ∧ bitAt (s.rd8 (a + 12)) 2 = true ∧ 0 < pt) ∧
    (∃ (w : BitVec 24) (y : Cycle) (a : Nat) (pt : Nat) (now : Nat) (start : Nat) (s : State), 4 ≤ bits w.toNat 21 3 ∧ bits w.toNat 0 7 = 0 ∧ tabAddr y (bits w.toNat 21 3) (bits w.toNat 3 18) 16 4 4 13 = Except.ok a ∧ s.rdMem a 4 = pt ∧ pt < 2 ^ 31 ∧ y.tStart / 1000 % 2 ^ 32 = now ∧ s.rdMem (a + 8) 4 = start ∧ AtInstr 113 w.toNat y s ∧ y.c = false ∧ bitAt (s.rd8 (a + 12)) 2 = false ∧ bitAt (s.rd8 (a + 12)) 1 = true) ∧
    (∃ (w : BitVec 24) (y : Cycle) (a : Nat) (pt : Nat) (now : Nat) (start : Nat) (s : State), 4 ≤ bits w.toNat 21 3 ∧ bits w.toNat 0 7 = 0 ∧ tabAddr y (bits w.toNat 21 3) (bits w.toNat 3 18) 16 4 4 13 = Except.ok a ∧ s.rdMem a 4 = pt ∧ pt < 2 ^ 31 ∧ y.tStart / 1000 % 2 ^ 32 = now ∧ s.rdMem (a + 8) 4 = start ∧ AtInstr 114 w.toNat y s ∧ y.c = true ∧ bitAt (s.rd8 (a + 12)) 2 = false ∧ bitAt (s.rd8 (a + 12)) 1 = false ∧ 0 < pt) ∧
    (∃ (w : BitVec 24) (y : Cycle) (a : Nat) (pt : Nat) (now : Nat) (start : Nat) (s : State), 4 ≤ bits w.toNat 21 3 ∧ bits w.toNat 0 7 = 0 ∧ tabAddr y (bits w.toNat 21 3) (bits w.toNat 3 18) 16 4 4 13 = Except.ok a ∧ s.rdMem a 4 = pt ∧ pt < 2 ^ 31 ∧ y.tStart / 1000 % 2 ^ 32 = now ∧ s.rdMem (a + 8) 4 = start ∧ AtInstr 114 w.toNat y s ∧ bitAt (s.rd8 (a + 12)) 1 = true ∧ (now + 2 ^ 32 - start) % 2 ^ 32 < pt) ∧
    (∃ (w : BitVec 24) (y : Cycle) (a : Nat) (pt : Nat) (now : Nat) (start : Nat) (s : State), 4 ≤ bits w.toNat 21 3 ∧ bits w.toNat 0 7 = 0 ∧ tabAddr y (bits w.toNat 21 3) (bits w.toNat 3 18) 16 4 4 13 = Except.ok a ∧ s.rdMem a 4 = pt ∧ pt < 2 ^ 31 ∧ y.tStart / 1000 % 2 ^ 32 = now ∧ s.rdMem (a + 8) 4 = start ∧ AtInstr 114 w.toNat y s ∧ bitAt (s.rd8 (a + 12)) 1 = true ∧ pt ≤ (now + 2 ^ 32 - start) % 2 ^ 32) ∧
    (∃ (w : BitVec 24) (y : Cycle) (a : Nat) (pv : Int) (cv : Int) (s : State), 4 ≤ bits w.toNat 21 3 ∧ bits w.toNat 0 7 = 0 ∧ tabAddr y (bits w.toNat 21 3) (bits w.toNat 3 18) 16 4 4 9 = Except.ok a ∧ toSigned 32 (s.rdMem a 4) = pv ∧ toSigned 32 (s.rdMem (a + 4) 4) = cv ∧ AtInstr 115 w.toNat y s ∧ y.c = true ∧ bitAt (s.rd8 (a + 8)) 1 = false) ∧
    (∃ (w : BitVec 24) (y : Cycle) (a : Nat) (pv : Int) (cv : Int) (s : State), 4 ≤ bits w.toNat 21 3 ∧ bits w.toNat 0 7 = 0 ∧ tabAddr y (bits w.toNat 21 3) (bits w.toNat 3 18) 16 4 4 9 = Except.ok a ∧ toSigned 32 (s.rdMem a 4) = pv ∧ toSigned 32 (s.rdMem (a + 4) 4) = cv ∧ AtInstr 115 w.toNat y s ∧ (y.c = false ∨ bitAt (s.rd8 (a + 8)) 1 = true)) ∧
    (∃ (w : BitVec 24) (y : Cycle) (a : Nat) (pv : Int) (cv : Int) (s : State), 4 ≤ bits w.toNat 21 3 ∧ bits w.toNat 0 7 = 0 ∧ tabAddr y (bits w.toNat 21 3) (bits w.toNat 3 18) 16 4 4 9 = Except.ok a ∧ toSigned 32 (s.rdMem a 4) = pv ∧ toSigned 32 (s.rdMem (a + 4) 4) = cv ∧ AtInstr 116 w.toNat y s ∧ y.c = true ∧ bitAt (s.rd8 (a + 8)) 1 = false) ∧
    (∃ (w : BitVec 24) (y : Cycle) (a : Nat) (pv : Int) (cv : Int) (s : State), 4 ≤ bits w.toNat 21 3 ∧ bits w.toNat 0 7 = 0 ∧ tabAddr y (bits w.toNat 21 3) (bits w.toNat 3 18) 16 4 4 9 = Except.ok a ∧ toSigned 32 (s.rdMem a 4) = pv ∧ toSigned 32 (s.rdMem (a + 4) 4) = cv ∧ AtInstr 116 w.toNat y s ∧ (y.c = false ∨ bitAt (s.rd8 (a + 8)) 1 = true)) ∧
    (∃ (w : BitVec 24) (y : Cycle) (a : Nat) (pv : Int) (cv : Int) (s : State), 4 ≤ bits w.toNat 21 3 ∧ bits w.toNat 0 7 = 0 ∧ tabAddr y (bits w.toNat 21 3) (bits w.toNat 3 18) 16 4 4 9 = Except.ok a ∧ toSigned 32 (s.rdMem a 4) = pv ∧ toSigned 32 (s.rdMem (a + 4) 4) = cv ∧ AtInstr 117 w.toNat y s) ∧
    (∃ (w : BitVec 24) (y : Cycle) (a : Nat) (pv : Int) (cv : Int) (s : State), 4 ≤ bits w.toNat 21 3 ∧ bits w.toNat 0 7 = 0 ∧ tabAddr y (bits w.toNat 21 3) (bits w.toNat 3 18) 16 4 4 9 = Except.ok a ∧ toSigned 32 (s.rdMem a 4) = pv ∧ toSigned 32 (s.rdMem (a + 4) 4) = cv ∧ AtInstr 118 w.toNat y s) :=
  ⟨⟨10485888, cycle false 5 [], 0x005C1010, 50, 1000, 990, programmed 112 recW (cycle false 5 []) (timer 50 990 0), by unfold AtInstr; decide +kernel⟩,
   ⟨10485888, cycle true 5 [], 0x005C1010, 50, 1000, 990, programmed 112 recW (cycle true 5 []) (timer 50 990 2), by unfold AtInstr; decide +kernel⟩,
   ⟨10485888, cycle true 5 [], 0x005C1010, 50, 1000, 990, programmed 112 recW (cycle true 5 []) (timer 50 990 0), by unfold AtInstr; decide +kernel⟩,
   ⟨10485888, cycle true 5 [], 0x005C1010, 50, 1000, 990, programmed 113 recW (cycle true 5 []) (timer 50 990 0), by unfold AtInstr; decide +kernel⟩,
   ⟨10485888, cycle false 5 [], 0x005C1010, 50, 1000, 990, programmed 113 recW (cycle false 5 []) (timer 50 990 4), by unfold AtInstr; decide +kernel⟩,
   ⟨10485888, cycle false 5 [], 0x005C1010, 50, 1000, 990, programmed 113 recW (cycle false 5 []) (timer 50 990 2), by unfold AtInstr; decide +kernel⟩,
   ⟨10485888, cycle true 5 [], 0x005C1010, 50, 1000, 990, programmed 114 recW (cycle true 5 []) (timer 50 990 0), by unfold AtInstr; decide +kernel⟩,
   ⟨10485888, cycle true 5 [], 0x005C1010, 50, 1000, 990, programmed 114 recW (cycle true 5 []) (timer 50 990 2), by unfold AtInstr; decide +kernel⟩,
   ⟨10485888, cycle true 5 [], 0x005C1010, 50, 1000, 900, programmed 114 recW (cycle true 5 []) (timer 50 900 2), by unfold AtInstr; decide +kernel⟩,
   ⟨10485888, cycle true 5 [], 0x005C1010, 3, 1, programmed 115 recW (cycle true 5 []) (counter 3 1 0), by unfold AtInstr; decide +kernel⟩,
   ⟨10485888, cycle true 5 [], 0x005C1010, 3, 1, programmed 115 recW (cycle true 5 []) (counter 3 1 2), by unfold AtInstr; decide +kernel⟩,
   ⟨10485888, cycle true 5 [], 0x005C1010, 3, 1, programmed 116 recW (cycle true 5 []) (counter 3 1 0), by unfold AtInstr; decide +kernel⟩,
   ⟨10485888, cycle false 5 [], 0x005C1010, 3, 1, programmed 116 recW (cycle false 5 []) (counter 3 1 0), by unfold AtInstr; decide +kernel⟩,
   ⟨10485888, cycle true 5 [], 0x005C1010, 3, 1, programmed 117 recW (cycle true 5 []) (counter 3 1 0), by unfold AtInstr; decide +kernel⟩,
   ⟨10485888, cycle true 5 [], 0x005C1010, 3, 1, programmed 118 recW (cycle true 5 []) (counter 3 1 0), by unfold AtInstr; decide +kernel⟩⟩

theorem witness_TabNodeAndErrors :
    (∃ (w : BitVec 24) (y : Cycle) (a : Nat) (s : State), AtInstr 120 w.toNat y s ∧ 4 ≤ bits w.toNat 21 3 ∧ bits w.toNat 0 7 = 0 ∧ tabAddr y (bits w.toNat 21 3) (bits w.toNat 3 18) 16 4 14 15 = Except.ok a ∧ y.c = false) ∧
    (∃ (w : BitVec 24) (y : Cycle) (a : Nat) (s : State), AtInstr 120 w.toNat y s ∧ 4 ≤ bits w.toNat 21 3 ∧ bits w.toNat 0 7 = 0 ∧ tabAddr y (bits w.toNat 21 3) (bits w.toNat 3 18) 16 4 14 15 = Except.ok a ∧ y.c = true ∧ (s.rd8 a = 1 ∨ s.rd8 a = 2 ∨ s.rd8 a = 16) ∧ (s.rdMem (a + 2) 2 % 2 ^ 14 < 16352 ∨ s.rdMem (a + 2) 2 % 2 ^ 14 = 16383) ∧ y.sends.length < 32) ∧
    (∃ (w : BitVec 24) (y : Cycle) (a : Nat) (s : State), AtInstr 120 w.toNat y s ∧ 4 ≤ bits w.toNat 21 3 ∧ bits w.toNat 0 7 = 0 ∧ tabAddr y (bits w.toNat 21 3) (bits w.toNat 3 18) 16 4 14 15 = Except.ok a ∧ y.c = true ∧ s.rd8 a ≠ 1 ∧ s.rd8 a ≠ 2 ∧ s.rd8 a ≠ 16) ∧
    (∃ (w : BitVec 24) (y : Cycle) (s : State), AtInstr 121 w.toNat y s ∧ w.toNat < 8 ∧ BitVec.toNat y.acc < 16320) ∧
    (∃ (w : BitVec 32) (y : Cycle) (s : State), s.running = some y ∧ y.pc < s.rd F.SCAN_PROG_LEN_LEN ∧ s.tabWordAt y.pc = w.toNat ∧ tabOp (w.toNat / 2 ^ 24) = none ∧ (y.skipBp = true ∨ s.breakpoint y.task y.pc = none) ∧ s.pendingIn bSCAN = false) ∧
    (∃ (y : Cycle) (s : State), s.running = some y ∧ s.rd F.SCAN_PROG_LEN_LEN ≤ y.pc ∧ (y.skipBp = true ∨ s.breakpoint y.task y.pc = none) ∧ s.pendingIn bSCAN = false) :=
  ⟨⟨10485888, cycle false 5 [], 0x005C1010, programmed 120 recW (cycle false 5 []) [], by unfold AtInstr; decide +kernel⟩,
   ⟨10485888, cycle true 5 [], 0x005C1010, programmed 120 recW (cycle true 5 []) [(0x005C1010, 16), (0x005C1012, 7)], by unfold AtInstr; decide +kernel⟩,
   ⟨10485888, cycle true 5 [], 0x005C1010, programmed 120 recW (cycle true 5 []) [(0x005C1010, 3), (0x005C1012, 7)], by unfold AtInstr; decide +kernel⟩,
   ⟨7, cycle true 5 [], programmed 121 7 (cycle true 5 []) [], by unfold AtInstr; decide +kernel⟩,
   ⟨0x01000000, cycle true 5 [], programmed 1 0 (cycle true 5 []) [], by decide +kernel⟩,
   ⟨cycle true 5 [], { programmed 1 0 (cycle true 5 []) [] with regs := (F.SCAN_PROG_LEN_LEN.key, 5) :: (programmed 1 0 (cycle true 5 []) []).regs }, by decide +kernel⟩⟩

def lamps (l : List (Fld × Nat)) (x : LampState) : State := { up ((F.STATE_RUN bLAMP, 1) :: l) with lamp := x }
def window0 : List (Fld × Nat) :=
  [(F.LAMP_STR_STAT_RUNNING 0, 1), (F.LAMP_STR_CFG_SPREAD 0, 0), (F.LAMP_STR_VWIN_V_MIN 0, 250), (F.LAMP_STR_VWIN_V_MAX 0, 350)]
def lit5 (r : LampRec) : LampState := { LampState.start with lit := [(5, 500), (7, 600)], recs := [(5, r)] }
theorem witness_LampFramesAndMeasurements :
    (∃ (loss : BitVec 16) (led : BitVec 16) (s : State), s.run bLAMP = true ∧ s.pendingIn bLAMP = false) ∧
    (∃ (m : LampMeas) (s : State), s.run bLAMP = true) ∧
    (∃ (id : BitVec 10) (volt : BitVec 16) (h : Bool) (r : Bool) (s : State) (l : Nat) (a : Nat) (n : Nat) (rest : List (Nat × Nat)), s.run bLAMP = true ∧ (s.lamp.lit.find id.toNat).isSome = true ∧ s.lamp.measured.contains id.toNat = false ∧ id.toNat < 96 ∧ s.lamp.lit.find id.toNat = some l ∧ spreadTicks l (s.rd (F.LAMP_STR_CFG_SPREAD (id.toNat / 16))) = (a, n) :: rest ∧ 256 ≤ n ∧ s.isSet (F.LAMP_STR_STAT_RUNNING (id.toNat / 16)) = true ∧ 100 ≤ volt.toNat ∧ s.rd (F.LAMP_STR_VWIN_V_MIN (id.toNat / 16)) ≤ volt.toNat ∧ volt.toNat ≤ s.rd (F.LAMP_STR_VWIN_V_MAX (id.toNat / 16))) ∧
    (∃ (id : BitVec 10) (volt : BitVec 16) (h : Bool) (r : Bool) (s : State) (l : Nat) (a : Nat) (n : Nat) (rest : List (Nat × Nat)), s.run bLAMP = true ∧ (s.lamp.lit.find id.toNat).isSome = true ∧ s.lamp.measured.contains id.toNat = false ∧ id.toNat < 96 ∧ s.lamp.lit.find id.toNat = some l ∧ spreadTicks l (s.rd (F.LAMP_STR_CFG_SPREAD (id.toNat / 16))) = (a, n) :: rest ∧ 256 ≤ n ∧ s.isSet (F.LAMP_STR_STAT_RUNNING (id.toNat / 16)) = true ∧ volt.toNat < 100 ∧ (s.lampRec id.toNat).shortRun = 2 ∧ (s.lampRec id.toNat).short = false) ∧
    (∃ (id : BitVec 10) (volt : BitVec 16) (h : Bool) (r : Bool) (s : State), s.run bLAMP = true ∧ (s.lamp.lit.find id.toNat).isSome = true ∧ s.lamp.measured.contains id.toNat = false ∧ 256 ≤ id.toNat ∧ h = false ∧ 2 ≤ (s.lampRec id.toNat).openRun ∧ (s.lampRec id.toNat).opn = false) ∧
    (∃ (k : Fin 6) (vs : List (BitVec 16)) (clamp : Bool) (s : State) (i : Nat), s.run bLAMP = true ∧ s.isSet (F.LAMP_STR_STAT_RUNNING ↑k) = true ∧ i < 16 ∧ s.highestLamp (↑k) (List.map (fun x => x.toNat) vs) = some i ∧ (clamp = true ∨ ∃ j < 16, (s.lamp.lit.find (16 * ↑k + j)).isSome = true ∧ s.rd (F.LAMP_STR_VWIN_V_MAX ↑k) + 400 < (List.map (fun x => x.toNat) vs).getD j 0)) ∧
    (∃ (k : Fin 6) (vs : List (BitVec 16)) (clamp : Bool) (s : State), s.run bLAMP = true ∧ s.isSet (F.LAMP_STR_STAT_RUNNING ↑k) = true ∧ s.highestLamp (↑k) (List.map (fun x => x.toNat) vs) = none ∧ clamp = true) ∧
    (∃ (k : Fin 6) (vs : List (BitVec 16)) (us : Nat) (s : State) (i : Nat), s.run bLAMP = true ∧ s.isSet (F.LAMP_STR_STAT_RUNNING ↑k) = true ∧ s.rd (F.LAMP_STR_STAT_ROUTED ↑k) ≠ 0 ∧ 100 ≤ us ∧ i < 16 ∧ s.highestLamp (↑k) (List.map (fun x => x.toNat) vs) = some i) ∧
    (∃ (k : Fin 6) (vs : List (BitVec 16)) (us : Nat) (s : State), s.run bLAMP = true ∧ s.isSet (F.LAMP_STR_STAT_RUNNING ↑k) = true ∧ s.rd (F.LAMP_STR_STAT_ROUTED ↑k) ≠ 0 ∧ 100 ≤ us ∧ s.highestLamp (↑k) (List.map (fun x => x.toNat) vs) = none) :=
  ⟨⟨2300, 2400, lamps window0 { lit5 LampRec.none with funcs := [(3, ⟨60000, 100, 0, 0, 4, 10⟩)] }, by decide +kernel⟩,
   ⟨⟨List.replicate 6 (300, 350), 30⟩, lamps window0 { lit5 LampRec.none with funcs := [(3, ⟨60000, 100, 0, 0, 4, 10⟩)] }, by decide +kernel⟩,
   ⟨5, 300, true, true, lamps window0 (lit5 { LampRec.none with degRun := 1, degraded := true }), 500, 0, 500, [], by decide +kernel⟩,
   ⟨5, 99, true, true, lamps window0 (lit5 { LampRec.none with shortRun := 2 }), 500, 0, 500, [], by decide +kernel⟩,
   ⟨256, 99, false, true, lamps window0 { LampState.start with lit := [(256, 40)], recs := [(256, { LampRec.none with openRun := 2 })] }, by decide +kernel⟩,
   ⟨0, [], true, lamps window0 (lit5 LampRec.none), 5, by decide +kernel⟩,
   ⟨0, [], true, lamps window0 LampState.start, by decide +kernel⟩,
   ⟨0, [], 100, lamps ((F.LAMP_STR_STAT_ROUTED 0, 2) :: window0) (lit5 LampRec.none), 5, by decide +kernel⟩,
   ⟨0, [], 100, lamps ((F.LAMP_STR_STAT_ROUTED 0, 2) :: window0) LampState.start, by decide +kernel⟩⟩

theorem witness_LampProtection :
    (∃ (k : Fin 6) (mA : Nat) (us : Nat) (s : State), s.run bLAMP = true ∧ s.isSet (F.LAMP_STR_STAT_RUNNING ↑k) = true ∧ 120 * s.strCurrent ↑k < 100 * mA ∧ 10 ≤ us) ∧
    (∃ (k : Fin 6) (ms : Nat) (s : State), (s.lampStr ↑k).restart = true ∧ 1000 ≤ ms) ∧
    (∃ (mA : Nat) (us : Nat) (s : State), s.run bLAMP = true ∧ s.isSet F.LAMP_CTRL_MTX_EN = true ∧ s.isSet F.LAMP_STATUS_MATRIX_FAULT = false ∧ 2200 < mA ∧ 10 ≤ us) ∧
    (∃ (volt : BitVec 16) (s : State), s.isOn 42 = true ∧ volt.toNat < 2200) ∧
    (∃ (volt : BitVec 16) (s : State), s.isOn 42 = true ∧ 2200 ≤ volt.toNat) ∧
    (∃ (volt : BitVec 16) (ms : Nat) (s : State), s.isOn 42 = true ∧ s.isSet F.LAMP_STATUS_SUPPLY_LOW = true ∧ 2300 < volt.toNat ∧ 100 ≤ ms) ∧
    (∃ (n : Fin 6) (s : State), s.run bLAMP = true) ∧
    (∃ (n : Fin 6) (s : State) (r : Nat) (x : Int), s.run bLAMP = true ∧ Config.ntcTemp (s.rd (F.LAMP_NTC_A_RES_25 ↑n)) (s.rd (F.LAMP_NTC_A_B ↑n)) r = x) :=
  ⟨⟨0, 4000, 10, lamps window0 (lit5 LampRec.none), by decide +kernel⟩,
   ⟨5, 1000, lamps [] { LampState.start with strs := [(5, ⟨0, 0, 0, true⟩)] }, by decide +kernel⟩,
   ⟨2201, 10, lamps [(F.LAMP_CTRL_MTX_EN, 1)] { LampState.start with lit := [(256, 40)] }, by decide +kernel⟩,
   ⟨2199, lamps window0 (lit5 LampRec.none), by decide +kernel⟩,
   ⟨2200, lamps window0 (lit5 LampRec.none), by decide +kernel⟩,
   ⟨2301, 100, lamps [(F.LAMP_STATUS_SUPPLY_LOW, 1)] LampState.start, by decide +kernel⟩,
   ⟨5, lamps [] LampState.start, by decide +kernel⟩,
   ⟨5, lamps [] LampState.start, 10000, Config.ntcTemp ((lamps [] LampState.start).rd (F.LAMP_NTC_A_RES_25 5)) ((lamps [] LampState.start).rd (F.LAMP_NTC_A_B 5)) 10000, ⟨by decide +kernel, rfl⟩⟩⟩

def selLamp (id : Nat) (l : List (Fld × Nat)) (x : LampState) : State :=
  { lamps l x with reqRegs := [(reqKey 31 F.LAMP_LSEL_ID.key, id)] }
theorem witness_LampCommands :
    (∃ (req : Fin 36) (s : State), s.blockOn bLAMP = true ∧ lampId (s.rdReq (↑req) F.LAMP_LSEL_ID) = true) ∧
    (∃ (req : Fin 36) (s : State), s.blockOn bLAMP = true ∧ lampId (s.rdReq (↑req) F.LAMP_LSEL_ID) = false) ∧
    (∃ (req : Fin 36) (s : State) (k : Fin 8), s.blockOn bLAMP = true ∧ ↑k ≤ 5) ∧
    (∃ (req : Fin 36) (s : State), s.blockOn bLAMP = true) ∧
    (∃ (req : Fin 36) (s : State) (g : Fin 8), s.blockOn bLAMP = true ∧ ↑g ≠ 0 ∧ s.groupFault ↑g = none) ∧
    (∃ (req : Fin 36) (s : State) (g : Fin 8), s.blockOn bLAMP = true ∧ ↑g ≠ 0 ∧ (s.groupFault ↑g).isSome = true) ∧
    (∃ (req : Fin 36) (s : State), s.blockOn bLAMP = true) ∧
    (∃ (n : Nat) (s : State), 15 ≤ n ∧ s.allOn [0, 42, 44] = true ∧ s.slot.noFlashWrite = false) :=
  ⟨⟨31, selLamp 5 [(F.LAMP_STR_STAT_ROUTED 0, 32)] (lit5 { LampRec.none with opn := true, routed := true }), by decide +kernel⟩,
   ⟨31, selLamp 96 [] LampState.start, by decide +kernel⟩,
   ⟨31, selLamp 96 [] LampState.start, 5, by decide +kernel⟩,
   ⟨31, selLamp 96 [] LampState.start, by decide +kernel⟩,
   ⟨31, selLamp 96 [] LampState.start, 7, by decide +kernel⟩,
   ⟨31, selLamp 5 [(F.LAMP_SL_CFG_EN 0 5, 1), (F.LAMP_SL_CFG_FUNC 0 5, 3), (F.LAMP_FUNC_CFG_AON_GROUP 3, 7)] (lit5 { LampRec.none with opn := true }), 7, by decide +kernel⟩,
   ⟨31, selLamp 5 [(F.LAMP_SL_CFG_EN 0 5, 1), (F.LAMP_SL_CFG_FUNC 0 5, 3), (F.LAMP_FUNC_CFG_AON_GROUP 3, 7)] (lit5 { LampRec.none with opn := true }), by decide +kernel⟩,
   ⟨15, lamps [] (lit5 { LampRec.none with onFrames := 9 }), by decide +kernel⟩⟩

theorem witness_RingCycles :
    ∃ (s : State), s.ring.cycle ≠ some s.cycleNo ∧ s.pendingIn bRINGA = false ∧ s.pendingIn bRINGB = false ∧ s.pendingIn bCAPO = false :=
  ⟨ringed onA (pathA { RingPathState.start with auditDue := true, seqs := ⟨[(3, 4)], []⟩ }), by decide +kernel⟩

def goods (n : Nat) : RingState := { RingState.start with ports := List.replicate 4 { RingPortState.start with good := n } }
theorem witness_RingContinuity :
    (∃ (p : Fin 4) (f : RingFrame) (rx : BitVec 64) (s : State), s.ctlOk (↑p) 2 f = true ∧ s.ring.ports.length = 4) ∧
    (∃ (p : Fin 4) (us : BitVec 16) (take : BitVec 16) (s : State), s.isOn (portDom ↑p) = true ∧ 125 * (s.rd (F.RING_PORT_STAT_MISSES (↑p / 2) (↑p % 2)) + 1) ≤ us.toNat ∧ s.rd (F.RING_PORT_STAT_MISSES (↑p / 2) (↑p % 2)) < 2 ∧ s.ring.ports.length = 4) ∧
    (∃ (p : Fin 4) (us : BitVec 16) (take : BitVec 16) (s : State), s.isOn (portDom ↑p) = true ∧ 125 * (s.rd (F.RING_PORT_STAT_MISSES (↑p / 2) (↑p % 2)) + 1) ≤ us.toNat ∧ s.rd (F.RING_PORT_STAT_MISSES (↑p / 2) (↑p % 2)) = 2) :=
  ⟨⟨3, ctl 2 198 (List.replicate 24 0), 5, ringed onA (goods 7), by decide +kernel⟩,
   ⟨3, 250, 30, ringed ((F.RING_PORT_STAT_MISSES 1 1, 1) :: onA) (goods 7), by decide +kernel⟩,
   ⟨0, 375, 30, ringed ((F.RING_PORT_STAT_MISSES 0 0, 2) :: (F.RING_PATH_STAT_WHOLE 1, 1) :: onA) (goods 7), by decide +kernel⟩⟩

def credited : List (Fld × Nat) := [(F.RING_CREDIT_AVAILABLE 0 2, 10), (F.RING_PORT_STAT_UP 0 0, 1)] ++ onA
theorem witness_RingData :
    (∃ (x : Fin 2) (f : RingFrame) (ok : Bool) (s : State), s.engRuns ↑x = true ∧ s.isOn (portDom (rxPort ↑x)) = true ∧ (ok = false ∨ s.secOk (rxPort ↑x) f.an.toNat f.pn.toNat = false) ∧ f.ethType ≠ macCtlType) ∧
    (∃ (x : Fin 2) (f : RingFrame) (ok : Bool) (s : State), s.engRuns ↑x = true ∧ s.isOn (portDom (rxPort ↑x)) = true ∧ f.ethType = macCtlType) ∧
    (∃ (x : Fin 2) (f : RingFrame) (ok : Bool) (s : State), s.engRuns ↑x = true ∧ s.isOn (portDom (rxPort ↑x)) = true ∧ ok = true ∧ s.secOk (rxPort ↑x) f.an.toNat f.pn.toNat = true ∧ f.ethType = ringType ∧ f.typ = 1 ∧ ringLen f ≤ 9216 ∧ f.dst.toNat / 64 ≠ s.rd F.CAPO_RING_ID_RING ∧ f.bcast = false) ∧
    (∃ (x : Fin 2) (f : RingFrame) (ok : Bool) (s : State), s.engRuns ↑x = true ∧ s.isOn (portDom (rxPort ↑x)) = true ∧ ok = true ∧ s.secOk (rxPort ↑x) f.an.toNat f.pn.toNat = true ∧ f.ethType = ringType ∧ f.typ = 1 ∧ ringLen f ≤ 9216 ∧ (f.dst.toNat / 64 = s.rd F.CAPO_RING_ID_RING ∨ f.bcast = true) ∧ f.src.toNat = s.ringId) ∧
    (∃ (x : Fin 2) (f : RingFrame) (ok : Bool) (s : State), s.engRuns ↑x = true ∧ s.isOn (portDom (rxPort ↑x)) = true ∧ ok = true ∧ s.secOk (rxPort ↑x) f.an.toNat f.pn.toNat = true ∧ f.ethType = ringType ∧ f.typ = 1 ∧ ringLen f ≤ 9216 ∧ (f.dst.toNat / 64 = s.rd F.CAPO_RING_ID_RING ∨ f.bcast = true) ∧ f.src.toNat ≠ s.ringId ∧ f.dst.toNat = s.ringId ∧ f.bcast = false ∧ (s.path ↑x).seqs.accept f = none) ∧
    (∃ (x : Fin 2) (f : RingFrame) (ok : Bool) (s : State) (n : Nat) (q : RingSeqs), s.engRuns ↑x = true ∧ s.isOn (portDom (rxPort ↑x)) = true ∧ ok = true ∧ s.secOk (rxPort ↑x) f.an.toNat f.pn.toNat = true ∧ f.ethType = ringType ∧ f.typ = 1 ∧ ringLen f ≤ 9216 ∧ (f.dst.toNat / 64 = s.rd F.CAPO_RING_ID_RING ∨ f.bcast = true) ∧ f.src.toNat ≠ s.ringId ∧ f.dst.toNat = s.ringId ∧ f.bcast = false ∧ (s.path ↑x).seqs.accept f = some (n, q)) ∧
    (∃ (x : Fin 2) (f : RingFrame) (ok : Bool) (s : State), s.engRuns ↑x = true ∧ s.isOn (portDom (rxPort ↑x)) = true ∧ ok = true ∧ s.secOk (rxPort ↑x) f.an.toNat f.pn.toNat = true ∧ f.ethType = ringType ∧ f.typ = 1 ∧ ringLen f ≤ 9216 ∧ (f.dst.toNat / 64 = s.rd F.CAPO_RING_ID_RING ∨ f.bcast = true) ∧ f.src.toNat ≠ s.ringId ∧ f.dst.toNat ≠ s.ringId ∧ f.bcast = false ∧ f.hops = 0) ∧
    (∃ (x : Fin 2) (f : RingFrame) (ok : Bool) (s : State), s.engRuns ↑x = true ∧ s.isOn (portDom (rxPort ↑x)) = true ∧ ok = true ∧ s.secOk (rxPort ↑x) f.an.toNat f.pn.toNat = true ∧ f.ethType = ringType ∧ f.typ = 1 ∧ ringLen f ≤ 9216 ∧ (f.dst.toNat / 64 = s.rd F.CAPO_RING_ID_RING ∨ f.bcast = true) ∧ f.src.toNat ≠ s.ringId ∧ f.dst.toNat ≠ s.ringId ∧ f.bcast = false ∧ f.hops ≠ 0 ∧ s.fwdData ↑x = true ∧ ((s.path ↑x).transit.any fun g => g.tc == f.tc) = false ∧ s.ownReady (↑x) f.tc.toNat = false ∧ s.covers (↑x) f.tc.toNat (ringCells f) = true ∧ s.isOn (portDom (txPort ↑x)) = true ∧ s.saOk (txPort ↑x) = true) ∧
    (∃ (x : Fin 2) (f : RingFrame) (ok : Bool) (s : State), s.engRuns ↑x = true ∧ s.isOn (portDom (rxPort ↑x)) = true ∧ ok = true ∧ s.secOk (rxPort ↑x) f.an.toNat f.pn.toNat = true ∧ f.ethType = ringType ∧ f.typ = 1 ∧ ringLen f ≤ 9216 ∧ (f.dst.toNat / 64 = s.rd F.CAPO_RING_ID_RING ∨ f.bcast = true) ∧ f.src.toNat ≠ s.ringId ∧ f.dst.toNat ≠ s.ringId ∧ f.bcast = false ∧ f.hops ≠ 0 ∧ s.fwdData ↑x = false) ∧
    (∃ (c : Fin 4) (x : Nat) (s : State) (f : RingFrame), s.activePath = some x ∧ s.mayData x = true ∧ s.isOn (portDom (txPort x)) = true ∧ s.saOk (txPort x) = true ∧ List.find? (fun g => g.tc.toNat == ↑c) (s.path x).transit = some f ∧ s.transitReady x ↑c = true ∧ s.ringTurn x (↑c) true = true) ∧
    (∃ (c : Fin 4) (x : Nat) (s : State) (cl : Claim), s.activePath = some x ∧ s.mayData x = true ∧ s.isOn (portDom (txPort x)) = true ∧ s.saOk (txPort x) = true ∧ s.heldClaim (engPort x) (1046528 + ↑c) = some cl ∧ 16 ≤ cl.len ∧ beAt (s.claimOctets cl) 6 2 = cl.len ∧ (bitAt (beAt (s.claimOctets cl) 1 1) 4 = true ∨ beAt (s.claimOctets cl) 2 2 % 2 ^ 14 / 64 = s.rd F.CAPO_RING_ID_RING) ∧ s.covers x (↑c) (ringCells (s.ringOwn x (↑c) ((s.path x).seqs.tx.get (4 * (beAt (s.claimOctets cl) 2 2 % 2 ^ 14) + ↑c) 0) (s.claimOctets cl))) = true ∧ s.ringTurn x (↑c) false = true) ∧
    (∃ (x : Fin 2) (f : RingFrame) (s : State), s.engRuns ↑x = true ∧ s.ctlOk (txPort ↑x) 3 f = true ∧ bitAt (beAt f.payload 0 1) 0 = true) ∧
    (∃ (x : Fin 2) (f : RingFrame) (s : State), s.engRuns ↑x = true ∧ s.ctlOk (txPort ↑x) 3 f = true ∧ bitAt (beAt f.payload 0 1) 0 = false) :=
  ⟨⟨0, rf false 198 199 5 [], false, ringed credited RingState.start, by decide +kernel⟩,
   ⟨0, { rf false 198 199 5 [] with ethType := macCtlType }, true, ringed credited RingState.start, by decide +kernel⟩,
   ⟨0, rf false 300 199 5 [], true, ringed credited RingState.start, by decide +kernel⟩,
   ⟨0, rf true 0x3FFF 197 5 [], true, ringed credited RingState.start, by decide +kernel⟩,
   ⟨0, rf false 197 199 5 [], true, ringed credited (pathA { RingPathState.start with seqs := ⟨[], [(4 * 199 + 2, (1, 9))]⟩ }), by decide +kernel⟩,
   ⟨0, rf false 197 199 5 [], true, ringed credited (pathA { RingPathState.start with seqs := ⟨[], [(4 * 199 + 2, (1, 5))]⟩ }), 3, ⟨[], [(4 * 199 + 2, (1, 9))]⟩, by decide +kernel⟩,
   ⟨0, rf false 198 199 0 [], true, ringed credited (pathA { RingPathState.start with seqs := ⟨[], [(4 * 199 + 2, (1, 5))]⟩ }), by decide +kernel⟩,
   ⟨0, rf false 198 199 1 [], true, ringed credited (pathA { RingPathState.start with join := 2 }), by decide +kernel⟩,
   ⟨0, rf false 198 199 1 [], true, ringed [(F.CAPO_STAT_GRANT, 2)] RingState.start, by decide +kernel⟩,
   ⟨2, 0, ringed credited (pathA { RingPathState.start with transit := [rf false 198 199 1 []], join := 2 }), rf false 198 199 1 [], by decide +kernel⟩,
   ⟨2, 0, { ringed credited RingState.start with peg := holding 1046530 25 16, mem := [(0x60000001, 0x10), (0x60000007, 16)] }, claimed 1046530 25 16, by decide +kernel⟩,
   ⟨1, ctl 3 198 (1 :: List.replicate 18 0), ringed onA RingState.start, by decide +kernel⟩,
   ⟨1, ctl 3 198 ([0, 0, 0, 0, 0, 0, 7]), ringed onA RingState.start, by decide +kernel⟩⟩

def joinedB : RingState := { RingState.start with b := { RingPathState.start with join := 2 } }
theorem witness_RingProbes :
    (∃ (s : State), s.probeDue = true) ∧
    (∃ (x : Fin 2) (f : RingFrame) (rtt : BitVec 16) (s : State), s.ctlOk (rxPort ↑x) 4 f = true ∧ f.src.toNat ≠ s.ringId ∧ f.src.toNat / 64 = s.rd F.CAPO_RING_ID_RING) ∧
    (∃ (x : Fin 2) (f : RingFrame) (rtt : BitVec 16) (s : State), s.ctlOk (rxPort ↑x) 4 f = true ∧ f.src.toNat = s.ringId ∧ beAt f.payload 0 4 = (s.path ↑x).probeSeq) ∧
    (∃ (p : Fin 4) (f : RingFrame) (take : BitVec 16) (s : State), s.ctlOk (↑p) 5 f = true ∧ newer 16 (beAt f.payload 1 2) (s.rd F.CAPO_STAT_SWITCH_EPOCH) = true) ∧
    (∃ (p : Fin 4) (f : RingFrame) (take : BitVec 16) (s : State), s.ctlOk (↑p) 5 f = true ∧ newer 16 (beAt f.payload 1 2) (s.rd F.CAPO_STAT_SWITCH_EPOCH) = false) :=
  ⟨⟨ringed onA RingState.start, by decide +kernel⟩,
   ⟨1, ctl 4 198 (List.replicate 16 0), 30, ringed onA joinedB, by decide +kernel⟩,
   ⟨1, ctl 4 197 (List.replicate 16 0), 30, ringed onA joinedB, by decide +kernel⟩,
   ⟨3, ctl 5 198 ([1, 0, 1]), 30, ringed onA joinedB, by decide +kernel⟩,
   ⟨3, ctl 5 198 ([1, 0, 0]), 30, ringed onA joinedB, by decide +kernel⟩⟩

def joinable : List (Fld × Nat) :=
  [(F.SLOT_LOOPBACK_RESULT_B, 2), (F.SLOT_BYPASS_CTRL_HOLD_EN_B, 1), (F.KEY_LC_ROOT_PRESENT, 1)]
def joined (j : Nat) : RingState := { RingState.start with b := { RingPathState.start with join := j } }
def wants (x : Nat) : RingState := { RingState.start with want := some x }
theorem witness_RingPaths :
    (∃ (x : Fin 2) (s : State), s.hasRing = true ∧ s.allOn (ringDoms ↑x) = true ∧ s.rd (fResult ↑x) = 2 ∧ s.isSet (fHoldEn ↑x) = true ∧ s.isSet F.KEY_LC_ROOT_PRESENT = true ∧ (s.path ↑x).join = 0 ∧ s.isSet F.SLOT_STATUS_EJECT_ACTIVE = false ∧ s.saOk (ringPort (↑x) 0) = true ∧ s.saOk (ringPort (↑x) 1) = true) ∧
    (∃ (p : Fin 4) (f : RingFrame) (s : State), s.ctlOk (↑p) 6 f = true ∧ s.isOn (portDom (otherPort ↑p)) = true ∧ s.saOk (otherPort ↑p) = true ∧ f.src.toNat ≠ s.ringId) ∧
    (∃ (p : Fin 4) (f : RingFrame) (s : State), s.ctlOk (↑p) 6 f = true ∧ s.isOn (portDom (otherPort ↑p)) = true ∧ s.saOk (otherPort ↑p) = true ∧ f.src.toNat = s.ringId ∧ (s.path (↑p / 2)).join = 2 ∧ bitAt (beAt f.payload 8 1) 0 = false) ∧
    (∃ (x : Fin 2) (s : State), (s.path ↑x).join = 1) ∧
    (∃ (x : Fin 2) (s : State) (ms : Nat), (s.path ↑x).join = 1 ∧ 10 ≤ ms) ∧
    (∃ (x : Fin 2) (ms : Nat) (s : State) (y : Nat) (e : Nat), s.activePath = none ∧ 0 < (s.path ↑x).join ∧ s.engRuns ↑x = true ∧ s.isSet F.CAPO_STAT_CAPO_STUCK = false ∧ s.saidActive ↑x = some (y, e) ∧ y < 2) ∧
    (∃ (x : Fin 2) (ms : Nat) (s : State), s.activePath = none ∧ 0 < (s.path ↑x).join ∧ s.engRuns ↑x = true ∧ s.isSet F.CAPO_STAT_CAPO_STUCK = false ∧ s.saidActive ↑x = none ∧ 20 ≤ ms) ∧
    (∃ (n : Nat) (take : BitVec 16) (x : Fin 2) (s : State), s.rd F.CAPO_CFG_PREFER = ↑x ∧ s.isSet F.CAPO_CFG_REVERT = true ∧ s.activePath = some (1 - x.val) ∧ s.isLowest (s.memberBits (1 - x.val)) = true ∧ s.maySwitch ↑x = true ∧ s.rd F.CAPO_CFG_REVERT_S ≤ n) ∧
    (∃ (req : Fin 36) (take : BitVec 16) (s : State), s.blockOn bCAPO = true ∧ s.maySwitch 0 = true ∧ (¬(s.activePath = some 0 ∧ s.rd F.CAPO_STAT_STATE = 1))) ∧
    (∃ (req : Fin 36) (take : BitVec 16) (s : State), s.blockOn bCAPO = true ∧ s.maySwitch 0 = false ∧ (¬(s.activePath = some 0 ∧ s.rd F.CAPO_STAT_STATE = 1))) ∧
    (∃ (req : Fin 36) (take : BitVec 16) (s : State), s.blockOn bCAPO = true ∧ s.maySwitch 1 = true ∧ (¬(s.activePath = some 1 ∧ s.rd F.CAPO_STAT_STATE = 2))) ∧
    (∃ (req : Fin 36) (take : BitVec 16) (s : State) (x : Nat), s.blockOn bCAPO = true ∧ x < 2 ∧ s.isSet F.CAPO_STAT_CAPO_STUCK = true ∧ s.ring.want = some x) ∧
    (∃ (n : Nat) (e : Nat) (x : Nat) (s : State), s.isOn 49 = true ∧ s.ring.want = some x ∧ s.isSet F.CAPO_STAT_CAPO_STUCK = false ∧ (20 ≤ n ∨ 10 ≤ e)) ∧
    (∃ (ms : Nat) (x : Nat) (s : State), s.isOn 49 = true ∧ s.isSet F.CAPO_STAT_CAPO_STUCK = true ∧ 1000 ≤ ms ∧ x < 2 ∧ s.ring.want = some x) ∧
    (∃ (req : Fin 36) (x : Fin 2) (s : State), s.blockOn (ringBlk ↑x) = true ∧ s.run (ringBlk ↑x) = false) ∧
    (∃ (req : Fin 36) (x : Fin 2) (s : State), s.blockOn (ringBlk ↑x) = true ∧ s.run (ringBlk ↑x) = true ∧ s.rd (F.RING_CTRL_FEC ↑x) = 0 ∧ s.activePath ≠ some ↑x) ∧
    (∃ (req : Fin 36) (x : Fin 2) (s : State), s.blockOn (ringBlk ↑x) = true) :=
  ⟨⟨1, ringed joinable RingState.start, by decide +kernel⟩,
   ⟨2, ctl 6 198 (List.replicate 16 0), ringed joinable RingState.start, by decide +kernel⟩,
   ⟨2, ctl 6 197 (List.replicate 16 0), ringed joinable (joined 2), by decide +kernel⟩,
   ⟨1, ringed joinable (joined 1), by decide +kernel⟩,
   ⟨1, ringed joinable (joined 1), 10, by decide +kernel⟩,
   ⟨1, 0, ringed joinable { joined 1 with ports := RingState.start.ports.set 2 { RingPortState.start with said := some (1, 9) } }, 1, 9, by decide +kernel⟩,
   ⟨1, 20, ringed joinable (joined 1), by decide +kernel⟩,
   ⟨65535, 30, 0, ringed [(F.CAPO_CFG_PREFER, 0), (F.CAPO_CFG_REVERT, 1), (F.CAPO_STAT_GRANT, 2), (F.RING_PATH_STAT_WHOLE 0, 1)] { joined 2 with a := { RingPathState.start with join := 2 } }, by decide +kernel⟩,
   ⟨31, 30, ringed [(F.CAPO_STAT_GRANT, 2), (F.CAPO_STAT_STATE, 2), (F.RING_PATH_STAT_WHOLE 0, 1)] RingState.start, by decide +kernel⟩,
   ⟨31, 30, ringed [(F.CAPO_STAT_GRANT, 2), (F.CAPO_STAT_STATE, 2)] RingState.start, by decide +kernel⟩,
   ⟨31, 30, ringed ((F.RING_PATH_STAT_WHOLE 1, 1) :: onA) RingState.start, by decide +kernel⟩,
   ⟨31, 30, ringed ((F.CAPO_STAT_CAPO_STUCK, 1) :: onA) (wants 1), 1, by decide +kernel⟩,
   ⟨20, 0, 1, ringed onA (wants 1), by decide +kernel⟩,
   ⟨1000, 1, ringed ((F.CAPO_STAT_CAPO_STUCK, 1) :: onA) (wants 1), by decide +kernel⟩,
   ⟨31, 1, { ringed [] RingState.start with regs := ((F.STATE_RUN bRINGB).key, 0) :: (ringed [] RingState.start).regs }, by decide +kernel⟩,
   ⟨31, 1, ringed onA RingState.start, by decide +kernel⟩,
   ⟨31, 1, ringed onA RingState.start, by decide +kernel⟩⟩

def hcps (l : List (Fld × Nat)) (x : HcpState) : State :=
  { ringed ((F.STATE_RUN bHCP, 1) :: (F.KEY_LC_ROOT_PRESENT, 1) :: l) RingState.start with
    hcp := x, pRec := [(F.CAPO_RING_ID_RING.key, 3), (F.CAPO_RING_ID_POSITION.key, 5)] }
def bound2 : HcpState := { State.reset.hcp with assoc := [(2, true)] }
def head77 : HcpHdr := ⟨2, 77, false⟩
theorem witness_HcpAccess :
    (∃ (h : HcpHdr) (clr : Bool) (b : Bool) (s : State), s.run bHCP = true ∧ h.ring = false ∧ s.hcp.assoc.find ↑h.session = some b ∧ s.pendingIn bHCP = false) ∧
    (∃ (h : HcpHdr) (a : BitVec 32) (s : State), Served h 3 s) ∧
    (∃ (h : HcpHdr) (a : BitVec 32) (v : BitVec 32) (st : Nat) (w : State) (s : State), Served h 4 s ∧ (served h s).regWrite (32 + ↑h.session) a.toNat v.toNat WriteMore.none = (st, w) ∧ w.hcpOpen h = true) ∧
    (∃ (h : HcpHdr) (a : BitVec 64) (n : BitVec 16) (s : State), Served h 5 s ∧ 1 ≤ n.toNat ∧ n.toNat ≤ 1024) ∧
    (∃ (h : HcpHdr) (a : BitVec 64) (d : List Byte) (s : State), Served h 6 s ∧ 1 ≤ d.length ∧ d.length ≤ 1024 ∧ 4194304 ≤ a.toNat % 2 ^ 40 ∧ a.toNat % 2 ^ 40 + d.length ≤ 6291456 ∧ s.reached (a.toNat % 2 ^ 40) d.length = true ∧ s.run bSCAN = false) ∧
    (∃ (h : HcpHdr) (a : BitVec 64) (d : List Byte) (s : State), Served h 6 s ∧ 1 ≤ d.length ∧ d.length ≤ 1024 ∧ 4194304 ≤ a.toNat % 2 ^ 40 ∧ a.toNat % 2 ^ 40 + d.length ≤ 6291456 ∧ s.run bSCAN = true) ∧
    (∃ (h : HcpHdr) (a : BitVec 64) (d : List Byte) (st : Nat) (s : State), s.run bHCP = true ∧ h.ring = false ∧ s.hcp.assoc.find ↑h.session = some true ∧ s.rootPresent = true ∧ s.pendingIn bHCP = false ∧ 1 ≤ d.length ∧ d.length ≤ 1024 ∧ s.tidJudge (↑h.session) 6 h.tid.toNat = TidVerdict.dup st) :=
  ⟨⟨head77, true, true, hcps [] { bound2 with wins := [(2, ⟨70, []⟩)] }, by decide +kernel⟩,
   ⟨head77, 0x40150010, hcps [] bound2, by unfold Served; decide +kernel⟩,
   ⟨head77, 0x40150018, 7, stOK, ((served head77 (hcps [] bound2)).regWrite 34 0x40150018 7 WriteMore.none).2, hcps [] bound2, by unfold Served; decide +kernel⟩,
   ⟨head77, 0x400000, 1024, hcps [] bound2, by unfold Served; decide +kernel⟩,
   ⟨head77, 0x4FFFFF, [1, 2], hcps [(F.STATE_RUN bSCAN, 0), (F.SCAN_CMD_STAT_PROG_OK, 1)] bound2, by unfold Served; decide +kernel⟩,
   ⟨head77, 0x4FFFFF, [1, 2], hcps [(F.STATE_RUN bSCAN, 1)] bound2, by unfold Served; decide +kernel⟩,
   ⟨head77, 0x4FFFFF, [1, 2], 3, hcps [] { bound2 with wins := [(2, ⟨77, [(77, 3)]⟩)] }, by decide +kernel⟩⟩

def seg (flags : Byte) (ofs total crc : BitVec 32) : CtSeg := ⟨5, 1, flags, ofs, total, crc, [1, 2, 3]⟩
def opened : HcpState := { bound2 with xfers := [(2, ⟨5, 1, 0, 8, 9, []⟩)] }
theorem witness_HcpTransfers :
    (∃ (h : HcpHdr) (g : CtSeg) (s : State), Served h 7 s ∧ g.data.length ≤ 1024 ∧ 1 ≤ BitVec.toNat g.kind ∧ BitVec.toNat g.kind ≤ 5 ∧ 1 ≤ g.total.toNat ∧ g.total.toNat ≤ 65536 ∧ g.ofs.toNat + g.data.length ≤ g.total.toNat ∧ s.hcp.xfers.find ↑h.session = none ∧ bitAt (BitVec.toNat g.flags) 0 = false) ∧
    (∃ (h : HcpHdr) (g : CtSeg) (s : State), Served h 7 s ∧ g.data.length ≤ 1024 ∧ 1 ≤ BitVec.toNat g.kind ∧ BitVec.toNat g.kind ≤ 5 ∧ 1 ≤ g.total.toNat ∧ g.total.toNat ≤ 65536 ∧ g.ofs.toNat + g.data.length ≤ g.total.toNat ∧ s.hcp.xfers.find ↑h.session = none ∧ bitAt (BitVec.toNat g.flags) 0 = true ∧ g.data.length < g.total.toNat) ∧
    (∃ (h : HcpHdr) (g : CtSeg) (s : State), Served h 7 s ∧ g.data.length ≤ 1024 ∧ 1 ≤ BitVec.toNat g.kind ∧ BitVec.toNat g.kind ≤ 5 ∧ 1 ≤ g.total.toNat ∧ g.total.toNat ≤ 65536 ∧ g.ofs.toNat + g.data.length ≤ g.total.toNat ∧ s.hcp.xfers.find ↑h.session = none ∧ bitAt (BitVec.toNat g.flags) 0 = true ∧ g.ofs.toNat = 0 ∧ g.data.length = g.total.toNat ∧ crc32 g.data ≠ g.crc.toNat) ∧
    (∃ (h : HcpHdr) (id : BitVec 16) (x : Transfer) (s : State), Served h 8 s ∧ s.hcp.xfers.find ↑h.session = some x ∧ x.ctId = id.toNat) ∧
    (∃ (h : HcpHdr) (id : BitVec 16) (x : Transfer) (s : State), Served h 8 s ∧ s.hcp.xfers.find ↑h.session = some x ∧ x.ctId ≠ id.toNat) ∧
    (∃ (h : HcpHdr) (s : State), Served h 11 s) ∧
    (∃ (h : HcpHdr) (p : PrimerHdr) (s : State), Served h 12 s) :=
  ⟨⟨head77, seg 6 5 8 9, hcps [] bound2, by unfold Served; decide +kernel⟩,
   ⟨head77, seg 1 0 4 9, hcps [] bound2, by unfold Served; decide +kernel⟩,
   ⟨head77, seg 1 0 3 9, hcps [] bound2, by unfold Served; decide +kernel⟩,
   ⟨head77, 5, ⟨5, 1, 0, 8, 9, []⟩, hcps [] opened, by unfold Served; decide +kernel⟩,
   ⟨head77, 6, ⟨5, 1, 0, 8, 9, []⟩, hcps [] opened, by unfold Served; decide +kernel⟩,
   ⟨head77, hcps [] bound2, by unfold Served; decide +kernel⟩,
   ⟨head77, ⟨0, 3, 0, 0, 0, 3, 0, 0, 0⟩, hcps [] bound2, by unfold Served; decide +kernel⟩⟩

def event1 : Evt := ⟨9, 0x0010, 14, 77, [1, 2]⟩
def rootless (x : HcpState) : State :=
  { ringed [(F.STATE_RUN bHCP, 1), (F.HCP_PORT_STAT_RATE, 3)] RingState.start with hcp := x }
def gate : List (Fld × Nat) := [(F.CAPO_GATEWAY_VALID, 1), (F.CAPO_GATEWAY_POSITION, 5), (F.HCP_EVT_CFG_SESSION, 2)]
theorem witness_HcpSessions :
    (∃ (s : State) (i : Bool) (c : Nat) (k : Nat), s.run bHCP = true ∧ s.rd F.HCP_PORT_STAT_RATE ≠ 0 ∧ s.dtlsOk i c = true ∧ List.find? (fun k => (s.hcp.assoc.find k).isNone) (List.range 4) = some k) ∧
    (∃ (s : State) (i : Bool) (c : Nat), s.run bHCP = true ∧ s.rd F.HCP_PORT_STAT_RATE ≠ 0 ∧ s.dtlsOk i c = false) ∧
    (∃ (s : State) (i : Bool) (c : Nat), s.run bHCP = true ∧ s.rd F.HCP_PORT_STAT_RATE ≠ 0 ∧ s.dtlsOk i c = true ∧ List.find? (fun k => (s.hcp.assoc.find k).isNone) (List.range 4) = none) ∧
    (∃ (k : Fin 4) (b : Bool) (s : State), s.hcp.assoc.find ↑k = some b) ∧
    (∃ (h : HcpHdr) (typ : Byte) (r : Bool) (l : Bool) (b : Bool) (s : State), s.run bHCP = true ∧ h.ring = false ∧ s.hcp.assoc.find ↑h.session = some b ∧ s.pendingIn bHCP = false ∧ (r = true ∨ l = false ∨ BitVec.toNat typ = 0 ∨ BitVec.toNat typ = 9 ∨ 12 < BitVec.toNat typ)) ∧
    (∃ (h : HcpHdr) (s : State), Served h 2 s) ∧
    (∃ (d : Nat) (n : Nat) (s : State), s.isOn 43 = true ∧ 10 < d) ∧
    (∃ (r : Fin 5) (s : State), s.isOn 43 = true) ∧
    (∃ (s : State), s.run bHCP = true ∧ s.pendingIn bHCP = false) ∧
    (∃ (e : Evt) (rest : List Evt) (n : Nat) (s : State), s.evts = e :: rest ∧ s.run bHCP = true ∧ (s.hcp.sent ≠ e.seq ∨ s.rd F.HCP_EVT_CFG_RESEND_MS ≤ n) ∧ s.isGateway = true ∧ s.hcp.assoc.get (s.rd F.HCP_EVT_CFG_SESSION) false = true) ∧
    (∃ (h : HcpHdr) (a : BitVec 32) (s : State), Served h 10 s) ∧
    (∃ (s : State), s.blockOn bHCP = true ∧ s.run bHCP = false ∧ s.pendingIn bHCP = false) :=
  ⟨⟨rootless { bound2 with assoc := [(0, true), (2, true)] }, false, 0, 1, by decide +kernel⟩,
   ⟨rootless { bound2 with assoc := [(0, true), (2, true)] }, true, 0, by decide +kernel⟩,
   ⟨rootless { bound2 with assoc := [(0, true), (1, false), (2, true), (3, false)] }, false, 0, by decide +kernel⟩,
   ⟨2, true, hcps [] opened, by decide +kernel⟩,
   ⟨head77, 9, false, true, true, hcps [] bound2, by decide +kernel⟩,
   ⟨head77, hcps [] opened, by unfold Served; decide +kernel⟩,
   ⟨11, 9, hcps [] opened, by decide +kernel⟩,
   ⟨4, hcps [] opened, by decide +kernel⟩,
   ⟨hcps [] opened, by decide +kernel⟩,
   ⟨event1, [], 0, { hcps gate bound2 with evts := [event1], evtLost := true }, by decide +kernel⟩,
   ⟨head77, 9, { hcps gate bound2 with evts := [event1], evtLost := true }, by unfold Served; decide +kernel⟩,
   ⟨up [], by decide +kernel⟩⟩

theorem witness_HcpForwarding :
    (∃ (h : HcpHdr) (g : BitVec 14) (typ : Byte) (d : List Byte) (s : State), s.run bHCP = true ∧ h.ring = false ∧ g.toNat ≠ s.moduleId ∧ s.hcp.assoc.find ↑h.session = some true ∧ s.pendingIn bHCP = false ∧ s.isGateway = false) ∧
    (∃ (h : HcpHdr) (g : BitVec 14) (typ : Byte) (d : List Byte) (s : State), s.run bHCP = true ∧ h.ring = false ∧ g.toNat ≠ s.moduleId ∧ s.hcp.assoc.find ↑h.session = some true ∧ s.pendingIn bHCP = false ∧ s.isGateway = true ∧ g.toNat / 64 = s.moduleId / 64 ∧ (List.filter (fun f => f.1 == ↑h.session) s.hcp.fwd).length < 64) ∧
    (∃ (k : Fin 4) (tid : BitVec 16) (g : BitVec 14) (typ : Byte) (st : Byte) (dup : Bool) (d : List Byte) (s : State), s.run bHCP = true ∧ s.hcp.fwd.contains (↑k, tid.toNat, g.toNat, BitVec.toNat typ) = true) ∧
    (∃ (k : Fin 4) (tid : BitVec 16) (g : BitVec 14) (typ : Byte) (st : Byte) (dup : Bool) (d : List Byte) (s : State), s.run bHCP = true ∧ s.hcp.fwd.contains (↑k, tid.toNat, g.toNat, BitVec.toNat typ) = false) ∧
    (∃ (k : Fin 4) (tid : BitVec 16) (n : Nat) (f : Nat × Nat × Nat × Nat) (s : State), s.run bHCP = true ∧ List.find? (fun f => f.1 == ↑k && f.2.1 == tid.toNat) s.hcp.fwd = some f ∧ s.rd F.HCP_FWD_CFG_FWD_MS ≤ n) ∧
    (∃ (src : BitVec 14) (lost : Bool) (d : List Byte) (s : State), s.run bHCP = true ∧ s.isGateway = true ∧ s.hcp.assoc.get (s.rd F.HCP_EVT_CFG_SESSION) false = true) :=
  ⟨⟨head77, 198, 3, [1], hcps [] bound2, by decide +kernel⟩,
   ⟨head77, 198, 3, [1], hcps gate bound2, by decide +kernel⟩,
   ⟨2, 77, 198, 3, 0, false, [1], hcps gate { bound2 with fwd := [(2, 77, 198, 3)] }, by decide +kernel⟩,
   ⟨2, 77, 199, 3, 0, false, [1], hcps gate { bound2 with fwd := [(2, 77, 198, 3)] }, by decide +kernel⟩,
   ⟨2, 77, 60000, (2, 77, 198, 3), hcps gate { bound2 with fwd := [(2, 77, 198, 3)] }, by decide +kernel⟩,
   ⟨198, false, [1], hcps gate { bound2 with fwd := [(2, 77, 198, 3)] }, by decide +kernel⟩⟩

def ptps (l : List (Fld × Nat)) (f : TimeState → TimeState) : State :=
  { ringed ((F.TIME_PTP_CFG_EN, 1) :: (F.TIME_PTP_CFG_DOMAIN, 0) :: onA ++ l) RingState.start with time := f State.reset.time }
def gateway : List (Fld × Nat) := [(F.CAPO_GATEWAY_VALID, 1), (F.CAPO_GATEWAY_POSITION, 5)]
def ptp (two : Bool) : PtpMsg := ⟨2, 1, 0, 0, 0, 9, two, 4, 0, 0, 0, 0, 0, 5⟩
def announce : PtpAnnounce := ⟨128, 6, 0x21, 0x4E5D, 128, true, 37, true, false, false⟩
def master4 : PtpMaster := ⟨4, announce, 4⟩
theorem witness_PtpCommands :
    (∃ (p : Fin 5) (m : PtpMsg) (icv : Bool) (t2 : Int) (res : Nat) (s : State), s.pendingIn bTIME = false ∧ s.ptpOn = true ∧ s.ptpArrives ↑p = true ∧ (icv = false ∨ s.ptpSecOk (↑p) m = false)) ∧
    (∃ (p : Fin 5) (m : PtpMsg) (icv : Bool) (t2 : Int) (res : Nat) (s : State), s.pendingIn bTIME = false ∧ s.ptpOn = true ∧ s.ptpArrives ↑p = true ∧ icv = true ∧ s.ptpSecOk (↑p) m = true ∧ (s.ptpFits m = false ∨ m.twoStep = true ∧ ↑p < 4)) ∧
    (∃ (p : Fin 5) (m : PtpMsg) (icv : Bool) (t2 : Int) (res : Nat) (s : State), s.pendingIn bTIME = false ∧ s.ptpOn = true ∧ s.ptpArrives ↑p = true ∧ icv = true ∧ s.ptpSecOk (↑p) m = true ∧ s.ptpFits m = true ∧ m.twoStep = false ∧ ↑p < 4 ∧ s.isGateway = false ∧ ↑p ≠ s.ptpPort ∧ s.saOk (otherPort ↑p) = true) ∧
    (∃ (p : Fin 5) (m : PtpMsg) (icv : Bool) (t2 : Int) (res : Nat) (s : State) (ms : PtpMaster), s.pendingIn bTIME = false ∧ s.ptpOn = true ∧ s.ptpArrives ↑p = true ∧ icv = true ∧ s.ptpSecOk (↑p) m = true ∧ s.ptpFits m = true ∧ (m.twoStep = true → 4 ≤ ↑p) ∧ ↑p = s.ptpPort ∧ s.time.master = some ms ∧ ms.gm = m.gm.toNat ∧ ms.port = ↑p ∧ m.twoStep = true) ∧
    (∃ (p : Fin 5) (m : PtpMsg) (icv : Bool) (t2 : Int) (res : Nat) (s : State) (ms : PtpMaster), s.pendingIn bTIME = false ∧ s.ptpOn = true ∧ s.ptpArrives ↑p = true ∧ icv = true ∧ s.ptpSecOk (↑p) m = true ∧ s.ptpFits m = true ∧ (m.twoStep = true → 4 ≤ ↑p) ∧ ↑p = s.ptpPort ∧ s.time.master = some ms ∧ ms.gm = m.gm.toNat ∧ ms.port = ↑p ∧ m.twoStep = false ∧ s.time.dCount < 8) ∧
    (∃ (p : Fin 5) (m : PtpMsg) (icv : Bool) (t2 : Int) (res : Nat) (s : State) (ms : PtpMaster) (o : Int), s.pendingIn bTIME = false ∧ s.ptpOn = true ∧ s.ptpArrives ↑p = true ∧ icv = true ∧ s.ptpSecOk (↑p) m = true ∧ s.ptpFits m = true ∧ (m.twoStep = true → 4 ≤ ↑p) ∧ ↑p = s.ptpPort ∧ s.time.master = some ms ∧ ms.gm = m.gm.toNat ∧ ms.port = ↑p ∧ m.twoStep = false ∧ 8 ≤ s.time.dCount ∧ (t2 - m.time - (m.corr + s.asym ↑p) - meanDelay s.time.filter) / 65536 = o) ∧
    (∃ (p : Fin 5) (m : PtpMsg) (s : State) (w : PendingSync), PtpTaken (↑p) m s ∧ s.time.twoStep = some w ∧ w.seq = m.seq.toNat ∧ w.port = ↑p ∧ s.time.dCount < 8) ∧
    (∃ (p : Fin 5) (m : PtpMsg) (s : State) (rx : Int) (res : Nat), PtpTaken (↑p) m s ∧ ↑p < 4 ∧ s.isGateway = true ∧ s.ptpMaster = true) ∧
    (∃ (p : Fin 5) (m : PtpMsg) (s : State) (rx : Int) (res : Nat), PtpTaken (↑p) m s ∧ ↑p < 4 ∧ s.isGateway = false ∧ s.saOk (otherPort ↑p) = true) ∧
    (∃ (p : Fin 5) (m : PtpMsg) (s : State) (t3 : Int) (x : Int), PtpTaken (↑p) m s ∧ ↑p = s.ptpPort ∧ m.asker = s.portId ↑p ∧ s.time.dreq = some (m.seq.toNat, t3) ∧ s.time.lastSync = some x) ∧
    (∃ (p : Fin 5) (m : PtpMsg) (s : State) (a : PtpAnnounce), PtpTaken (↑p) m s ∧ ↑p = s.ptpPort ∧ a.ptpTimescale = true ∧ s.time.master = none) ∧
    (∃ (ms : Nat) (w : PendingSync) (s : State), s.time.twoStep = some w ∧ s.isOn 45 = true ∧ 100 ≤ ms) ∧
    (∃ (us : Nat) (t3 : Int) (s : State), s.ptpOn = true ∧ s.time.master ≠ none ∧ s.ptpPort ≠ 7 ∧ 1000000 / 2 ^ s.rd F.TIME_PTP_CFG_LOG_DREQ ≤ us ∧ (s.ptpPort < 4 → s.saOk s.ptpPort = true)) ∧
    (∃ (a : Nat) (y : Nat) (ms : PtpMaster) (s : State), s.time.master = some ms ∧ s.ptpOn = true ∧ (3000 ≤ a ∨ 1000 ≤ y)) ∧
    (∃ (x : Nat) (us : Nat) (s : State), s.activePath = some x ∧ s.ptpMaster = true ∧ s.pendingIn bTIME = false ∧ s.saOk (ringPort x 0) = true ∧ s.saOk (ringPort x 1) = true ∧ 1000000 / 128 ≤ us) ∧
    (∃ (x : Nat) (us : Nat) (s : State), s.activePath = some x ∧ s.ptpMaster = true ∧ s.pendingIn bTIME = false ∧ s.saOk (ringPort x 0) = true ∧ s.saOk (ringPort x 1) = true ∧ 1000 ≤ us) ∧
    (∃ (ms : Nat) (s : State), s.ptpOn = true ∧ s.isGateway = true ∧ s.isSet F.TIME_PTP_CFG_LOCAL_GM = true ∧ s.time.master = none ∧ 3000 ≤ ms) ∧
    (∃ (n : Nat) (s : State), s.isOn 45 = true ∧ s.isSet F.TIME_TB0_STAT_HOLDOVER = true ∧ s.rd F.TIME_LOCK_CFG_HOLDOVER_S ≤ n) :=
  ⟨⟨0, ptp false, false, 5 * 65536, 0, ptps [] id, by decide +kernel⟩,
   ⟨0, { ptp false with domain := 9 }, true, 5 * 65536, 0, ptps [] id, by decide +kernel⟩,
   ⟨0, ptp false, true, 5 * 65536, 100, ptps [] id, by decide +kernel⟩,
   ⟨4, ptp true, true, 5 * 65536, 100, ptps gateway (fun x => { x with master := some master4 }), master4, by decide +kernel⟩,
   ⟨4, ptp false, true, 5 * 65536, 100, ptps gateway (fun x => { x with master := some master4 }), master4, by decide +kernel⟩,
   ⟨4, ptp false, true, 5 * 65536, 100, ptps gateway (fun x => { x with master := some master4, dCount := 8 }), master4, 5, by decide +kernel⟩,
   ⟨4, ptp false, ptps gateway (fun x => { x with master := some master4, twoStep := some ⟨9, 4, 700, 20, 4⟩ }), ⟨9, 4, 700, 20, 4⟩, by unfold PtpTaken; decide +kernel⟩,
   ⟨0, ptp false, ptps gateway (fun x => { x with master := some master4, twoStep := some ⟨9, 4, 700, 20, 4⟩ }), 77, 100, by unfold PtpTaken; decide +kernel⟩,
   ⟨0, ptp false, ptps [] id, 77, 100, by unfold PtpTaken; decide +kernel⟩,
   ⟨4, { ptp false with asker := (ptps gateway id).portId 4 }, ptps gateway (fun x => { x with master := some master4, dreq := some (9, 10), lastSync := some 20 }), 10, 20, ⟨by unfold PtpTaken; decide +kernel, by decide +kernel, rfl, by decide +kernel, by decide +kernel⟩⟩,
   ⟨4, ptp false, ptps gateway id, announce, by unfold PtpTaken; decide +kernel⟩,
   ⟨100, ⟨9, 4, 700, 20, 4⟩, ptps gateway (fun x => { x with master := some master4, twoStep := some ⟨9, 4, 700, 20, 4⟩ }), by decide +kernel⟩,
   ⟨1000000, 10, ptps gateway (fun x => { x with master := some master4, twoStep := some ⟨9, 4, 700, 20, 4⟩ }), by decide +kernel⟩,
   ⟨3000, 0, master4, ptps gateway (fun x => { x with master := some master4, twoStep := some ⟨9, 4, 700, 20, 4⟩ }), by decide +kernel⟩,
   ⟨0, 1000000, ptps gateway (fun x => { x with master := some master4, twoStep := some ⟨9, 4, 700, 20, 4⟩ }), by decide +kernel⟩,
   ⟨0, 1000000, ptps gateway (fun x => { x with master := some master4, twoStep := some ⟨9, 4, 700, 20, 4⟩ }), by decide +kernel⟩,
   ⟨3000, ptps ((F.TIME_PTP_CFG_LOCAL_GM, 1) :: gateway) id, by decide +kernel⟩,
   ⟨65535, ptps [(F.TIME_TB0_STAT_HOLDOVER, 1)] id, by decide +kernel⟩⟩

def clocks (l : List (Fld × Nat)) (f : TimeState → TimeState) : State := { up l with time := f State.reset.time }
theorem witness_TimeCommands :
    (∃ (u1 : BitVec 16) (u2 : BitVec 16) (u3 : BitVec 16) (o : Int) (f : BitVec 24) (s : State), s.isOn 45 = true ∧ s.pendingIn bTIME = false ∧ (s.tb1Source u1.toNat u2.toNat u3.toNat = 0 ∨ s.isOn 36 = false ∨ f.toNat < 45000 ∨ 65000 < f.toNat)) ∧
    (∃ (u1 : BitVec 16) (u2 : BitVec 16) (u3 : BitVec 16) (o : Int) (f : BitVec 24) (s : State), s.isOn 45 = true ∧ s.pendingIn bTIME = false ∧ s.tb1Source u1.toNat u2.toNat u3.toNat ≠ 0 ∧ s.isOn 36 = true ∧ 45000 ≤ f.toNat ∧ f.toNat ≤ 65000) ∧
    (∃ (s : State), s.isOn 45 = true ∧ s.pendingIn bTIME = false ∧ s.time.integ.length = 3 ∧ s.time.adj.length = 3) ∧
    (∃ (req : Fin 36) (s : State), s.blockOn bTIME = true ∧ s.rd F.TIME_TB0_STAT_SOURCE ≠ 3) ∧
    (∃ (req : Fin 36) (s : State), s.blockOn bTIME = true ∧ s.rd F.TIME_TB0_STAT_SOURCE ≠ 3) ∧
    (∃ (req : Fin 36) (s : State), s.blockOn bTIME = true ∧ s.rd F.TIME_TB0_STAT_SOURCE = 3) ∧
    (∃ (req : Fin 36) (s : State), s.blockOn bTIME = true ∧ s.rd F.TIME_TB0_STAT_SOURCE = 3) ∧
    (∃ (req : Fin 36) (s : State), s.blockOn bTIME = true) ∧
    (∃ (req : Fin 36) (s : State) (v : BitVec 32), s.blockOn bTIME = true ∧ s.run bTIME = true ∧ s.isSet F.TIME_PTP_CFG_EN = false ∧ bits v.toNat 8 8 ≤ 127) ∧
    (∃ (req : Fin 36) (s : State), s.blockOn bRTC = true ∧ s.isSet F.RTC_CTRL_HALT = false) ∧
    (∃ (req : Fin 36) (s : State), s.blockOn bRTC = true ∧ s.isSet F.RTC_CTRL_HALT = true) ∧
    (∃ (n : Nat) (s : State), s.rtcUp = true ∧ s.isSet F.RTC_CTRL_HALT = true ∧ s.rd F.RTC_STAT_PENDING + n < 65535) ∧
    (∃ (n : Nat) (s : State), s.rtcUp = true ∧ s.isSet F.RTC_CTRL_HALT = true ∧ 65535 ≤ s.rd F.RTC_STAT_PENDING + n) ∧
    (∃ (n : Nat) (low : Bool) (s : State), s.rtcUp = true ∧ (4 ≤ n ∨ low = true)) ∧
    (∃ (n : Nat) (d : Int) (s : State), s.rtcKept = true ∧ 1024 ≤ n ∧ s.time.rtcDiff = some d ∧ 10 * ((s.rtc : Int) - (s.tb0Units : Int)).natAbs ≤ 65536) ∧
    (∃ (n : Nat) (d : Int) (s : State), s.rtcKept = true ∧ 1024 ≤ n ∧ s.time.rtcDiff = some d ∧ 65536 < 10 * ((s.rtc : Int) - (s.tb0Units : Int)).natAbs) ∧
    (∃ (s : State), s.rtcKept = true ∧ s.time.rtcDue = true) ∧
    (∃ (n : Nat) (s : State), s.pendingIn bIO = false) :=
  ⟨⟨0, 0, 0, 0, 50000, clocks [(F.GAUGE_NOMINAL_UN_DV, 2300)] id, by decide +kernel⟩,
   ⟨0, 2300, 0, 0, 50000, clocks [(F.GAUGE_NOMINAL_UN_DV, 2300)] id, by decide +kernel⟩,
   ⟨clocks [] (fun x => { x with tb2 := 65536 * 5000 }), by decide +kernel⟩,
   ⟨35, clocks [(F.TIME_TB0_STAT_SOURCE, 1)] id, by decide +kernel⟩,
   ⟨35, clocks [(F.TIME_TB0_STAT_SOURCE, 1)] id, by decide +kernel⟩,
   ⟨35, clocks [(F.TIME_TB0_STAT_SOURCE, 3)] id, by decide +kernel⟩,
   ⟨35, clocks [(F.TIME_TB0_STAT_SOURCE, 3)] id, by decide +kernel⟩,
   ⟨35, clocks [(F.TIME_TB0_STAT_SOURCE, 3)] id, by decide +kernel⟩,
   ⟨35, clocks [(F.TIME_PTP_CFG_EN, 0)] id, 0x80001800, by decide +kernel⟩,
   ⟨35, clocks [(F.RTC_CTRL_HALT, 0)] (fun x => { x with rtcLoSet := true }), by decide +kernel⟩,
   ⟨35, clocks [(F.RTC_CTRL_HALT, 1), (F.RTC_STAT_PENDING, 6)] (fun x => { x with rtcLoSet := true, rtcHiSet := true }), by decide +kernel⟩,
   ⟨65528, clocks [(F.RTC_CTRL_HALT, 1), (F.RTC_STAT_PENDING, 6)] (fun x => { x with rtcLoSet := true, rtcHiSet := true }), by decide +kernel⟩,
   ⟨65529, clocks [(F.RTC_CTRL_HALT, 1), (F.RTC_STAT_PENDING, 6)] (fun x => { x with rtcLoSet := true, rtcHiSet := true }), by decide +kernel⟩,
   ⟨4, false, clocks [] id, by decide +kernel⟩,
   ⟨1024, 3, clocks [(F.TIME_TB0_STAT_LOCKED, 1), (F.TIME_TB0_STAT_VALID, 1)] (fun x => { x with rtcDiff := some 3 }), by decide +kernel⟩,
   ⟨1024, 3, clocks [(F.TIME_TB0_STAT_LOCKED, 1), (F.TIME_TB0_STAT_VALID, 1), (F.RTC_TIME_LO_SEC, 10)] (fun x => { x with rtcDiff := some 3 }), by decide +kernel⟩,
   ⟨clocks [(F.TIME_TB0_STAT_LOCKED, 1), (F.TIME_TB0_STAT_VALID, 1), (F.RTC_TIME_LO_SEC, 10), (F.RTC_STAT_OSF, 1)] (fun x => { x with rtcDue := true }), by decide +kernel⟩,
   ⟨7, clocks [(F.TIME_TB0_STAT_LOCKED, 1), (F.TIME_TB0_STAT_VALID, 1), (F.RTC_TIME_LO_SEC, 10), (F.RTC_STAT_OSF, 1)] (fun x => { x with rtcDue := true }), by decide +kernel⟩⟩

def mv (l : List (Fld × Nat)) (x : MoverChan) (m : Memory) : State :=
  { up ((F.MOVER_CTRL_EN, 1) :: (F.MOVER_CH_CUR_LO_ADDR 3, 0x600040) :: l) with mover := [(3, x)], mem := m }
def phased (p : MoverPhase) (d : Nat) : MoverChan := ⟨p, d, 0, 4, none⟩
def copy4 (len : Nat) : Nat := 0x0001FF20 + len * 2 ^ 32 + 0x610000 * 2 ^ 64 + 0x620000 * 2 ^ 128
def turning : State := { mv [] (phased .run (copy4 4)) [(0x600040, 0x20), (0x600041, 0xFF), (0x600042, 1), (0x600044, 4), (0x60004A, 0x61), (0x600052, 0x62), (0x610000, 7)] with mvTurn := ⟨3, none⟩ }
def desc4 (len : Byte) : Memory :=
  [(0x600040, 0x20), (0x600041, 0xFF), (0x600042, 1)] ++ (if len = 0 then [] else [(0x600044, len)]) ++
  [(0x60004A, 0x61), (0x600052, 0x62), (0x610000, 7)]
theorem witness_MoverCommands :
    (∃ (req : Fin 36) (c : Fin 32) (s : State) (h : Nat), s.isOn 40 = true ∧ s.isSet F.MOVER_CTRL_EN = true ∧ s.pendingIn bMOVER = false ∧ s.rd (F.MOVER_CH_LIMIT_LIMIT ↑c) ≠ 0 ∧ ((s.chan ↑c).phase = MoverPhase.idle ∨ (s.chan ↑c).phase = MoverPhase.halted) ∧ s.rd64 (F.MOVER_CH_HEAD_LO_ADDR ↑c) (F.MOVER_CH_HEAD_HI_ADDR ↑c) = h ∧ h % 64 = 0) ∧
    (∃ (req : Fin 36) (c : Fin 32) (s : State) (h : Nat), s.isOn 40 = true ∧ s.isSet F.MOVER_CTRL_EN = true ∧ s.pendingIn bMOVER = false ∧ s.rd (F.MOVER_CH_LIMIT_LIMIT ↑c) ≠ 0 ∧ ((s.chan ↑c).phase = MoverPhase.idle ∨ (s.chan ↑c).phase = MoverPhase.halted) ∧ s.rd64 (F.MOVER_CH_HEAD_LO_ADDR ↑c) (F.MOVER_CH_HEAD_HI_ADDR ↑c) = h ∧ h % 64 ≠ 0) ∧
    (∃ (req : Fin 36) (c : Fin 32) (s : State), s.isOn 40 = true ∧ s.isSet F.MOVER_CTRL_EN = true ∧ s.pendingIn bMOVER = false ∧ s.rd (F.MOVER_CH_LIMIT_LIMIT ↑c) ≠ 0 ∧ (s.chan ↑c).phase = MoverPhase.halted ∧ s.moverCur ↑c % 64 = 0) ∧
    (∃ (req : Fin 36) (c : Fin 32) (s : State), s.isOn 40 = true ∧ ((s.chan ↑c).phase = MoverPhase.fetch ∨ (s.chan ↑c).phase = MoverPhase.halted)) ∧
    (∃ (req : Fin 36) (c : Fin 32) (s : State), s.isOn 40 = true ∧ ((s.chan ↑c).phase = MoverPhase.run ∨ (s.chan ↑c).phase = MoverPhase.wait) ∧ CanWriteBack s ↑c) ∧
    (∃ (c : Fin 32) (p : Bool) (d : Nat) (s : State), s.moverRuns = true ∧ (s.chan ↑c).phase = MoverPhase.fetch ∧ ofOctetsLE (s.busOctets (s.moverCur ↑c) 64) = d ∧ (p = true ∨ s.addrUp (s.moverCur ↑c) = false ∨ inRegBlocks (s.moverCur ↑c) 64 = true)) ∧
    (∃ (c : Fin 32) (p : Bool) (d : Nat) (s : State), s.moverRuns = true ∧ (s.chan ↑c).phase = MoverPhase.fetch ∧ ofOctetsLE (s.busOctets (s.moverCur ↑c) 64) = d ∧ p = false ∧ s.addrUp (s.moverCur ↑c) = true ∧ inRegBlocks (s.moverCur ↑c) 64 = false ∧ MvDesc.legal d = false) ∧
    (∃ (c : Fin 32) (p : Bool) (d : Nat) (s : State) (st : Nat) (r : Nat), s.moverRuns = true ∧ (s.chan ↑c).phase = MoverPhase.fetch ∧ ofOctetsLE (s.busOctets (s.moverCur ↑c) 64) = d ∧ p = false ∧ s.addrUp (s.moverCur ↑c) = true ∧ inRegBlocks (s.moverCur ↑c) 64 = false ∧ MvDesc.legal d = true ∧ moverCheck d = some (st, r)) ∧
    (∃ (c : Fin 32) (p : Bool) (d : Nat) (s : State), s.moverRuns = true ∧ (s.chan ↑c).phase = MoverPhase.fetch ∧ ofOctetsLE (s.busOctets (s.moverCur ↑c) 64) = d ∧ p = false ∧ s.addrUp (s.moverCur ↑c) = true ∧ inRegBlocks (s.moverCur ↑c) 64 = false ∧ MvDesc.legal d = true ∧ moverCheck d = none ∧ MvDesc.req d = 255) ∧
    (∃ (c : Fin 32) (d : Nat) (n : Nat) (l : List Byte) (u : State) (s : State) (w : State), s.moverRuns = true ∧ (s.chan ↑c).phase = MoverPhase.run ∧ s.moverNext = some ↑c ∧ w = { pending := s.pending, regs := s.regs, shadow := s.shadow, reqRegs := s.reqRegs, latches := s.latches, pRec := s.pRec, mem := s.mem, lanes := s.lanes, out := s.out, freeCtr := s.freeCtr, evts := s.evts, evtSeq := s.evtSeq, evtLost := s.evtLost, io := s.io, peg := s.peg, recd := s.recd, slot := s.slot, sys := s.sys, time := s.time, ring := s.ring, key := s.key, restr := s.restr, field := s.field, jrn := s.jrn, cal := s.cal, sym := s.sym, gauge := s.gauge, sound := s.sound, scan := s.scan, lamp := s.lamp, hcp := s.hcp, mover := s.mover, mvTurn := { last := ↑c, held := none }, ledgerDue := s.ledgerDue } ∧ (s.chan ↑c).desc = d ∧ MvDesc.typ d = MvDesc.tCopy ∧ MvDesc.funnel d = false ∧ unitSize d (MvDesc.dst d + (s.chan ↑c).moved) (min (MvDesc.len d - (s.chan ↑c).moved) (s.chan ↑c).burst) = n ∧ w.busGet (MvDesc.src d + (s.chan ↑c).moved) n = (0, l, w) ∧ w.busPut (MvDesc.dst d + (s.chan ↑c).moved) l = (0, u) ∧ MvDesc.len d ≤ (s.chan ↑c).moved + n) ∧
    (∃ (c : Fin 32) (d : Nat) (n : Nat) (l : List Byte) (u : State) (s : State) (w : State), s.moverRuns = true ∧ (s.chan ↑c).phase = MoverPhase.run ∧ s.moverNext = some ↑c ∧ w = { pending := s.pending, regs := s.regs, shadow := s.shadow, reqRegs := s.reqRegs, latches := s.latches, pRec := s.pRec, mem := s.mem, lanes := s.lanes, out := s.out, freeCtr := s.freeCtr, evts := s.evts, evtSeq := s.evtSeq, evtLost := s.evtLost, io := s.io, peg := s.peg, recd := s.recd, slot := s.slot, sys := s.sys, time := s.time, ring := s.ring, key := s.key, restr := s.restr, field := s.field, jrn := s.jrn, cal := s.cal, sym := s.sym, gauge := s.gauge, sound := s.sound, scan := s.scan, lamp := s.lamp, hcp := s.hcp, mover := s.mover, mvTurn := { last := ↑c, held := none }, ledgerDue := s.ledgerDue } ∧ (s.chan ↑c).desc = d ∧ MvDesc.typ d = MvDesc.tCopy ∧ MvDesc.funnel d = false ∧ unitSize d (MvDesc.dst d + (s.chan ↑c).moved) (min (MvDesc.len d - (s.chan ↑c).moved) (s.chan ↑c).burst) = n ∧ w.busGet (MvDesc.src d + (s.chan ↑c).moved) n = (0, l, w)) ∧
    (∃ (c : Fin 32) (p : Bool) (s : State), s.moverNext ≠ some ↑c) ∧
    (∃ (c : Fin 32) (n : Nat) (s : State), s.moverRuns = true ∧ 11 ≤ n ∧ (s.chan ↑c).phase = MoverPhase.run) ∧
    (∃ (c : Fin 32) (n : Nat) (s : State), s.moverRuns = true ∧ 11 ≤ n ∧ (s.chan ↑c).phase = MoverPhase.fetch) ∧
    (∃ (c : Fin 32) (st : Nat) (r : Nat) (s : State), s.moverRuns = true ∧ (s.chan ↑c).phase = MoverPhase.wb st r ∧ CanWriteBack s ↑c ∧ MvDesc.next (s.chan ↑c).desc = 0) ∧
    (∃ (c : Fin 32) (st : Nat) (r : Nat) (s : State), s.moverRuns = true ∧ (s.chan ↑c).phase = MoverPhase.wb st r ∧ s.addrUp (s.moverCur ↑c) = false) ∧
    (∃ (line : Fin 32) (q : BitVec 20) (s : State), s.moverRuns = true ∧ ↑line < 16) ∧
    (∃ (req : Fin 36) (s : State), s.isOn 40 = true) ∧
    (∃ (req : Fin 36) (s : State), s.isOn 40 = true) :=
  ⟨⟨31, 3, mv [(F.MOVER_CH_HEAD_LO_ADDR 3, 0x600040)] (phased .idle 0) [], 0x600040, by decide +kernel⟩,
   ⟨31, 3, mv [(F.MOVER_CH_HEAD_LO_ADDR 3, 0x600041)] (phased .idle 0) [], 0x600041, by decide +kernel⟩,
   ⟨31, 3, mv [] (phased .halted 0) [], by decide +kernel⟩,
   ⟨31, 3, mv [] (phased .fetch 0) [], by decide +kernel⟩,
   ⟨31, 3, mv [] (phased .wait (copy4 4)) (desc4 4), by unfold CanWriteBack; decide +kernel⟩,
   ⟨3, true, copy4 4, mv [] (phased .fetch 0) (desc4 4), by decide +kernel⟩,
   ⟨3, false, 0, mv [] (phased .fetch 0) [], by decide +kernel⟩,
   ⟨3, false, copy4 0, mv [] (phased .fetch 0) (desc4 0), stBAD, 8, by decide +kernel⟩,
   ⟨3, false, copy4 4, mv [] (phased .fetch 0) (desc4 4), by decide +kernel⟩,
   ⟨3, copy4 4, 4, [7, 0, 0, 0], (turning.busPut 0x620000 [7, 0, 0, 0]).2, mv [] (phased .run (copy4 4)) (desc4 4), turning, by decide +kernel⟩,
   ⟨3, copy4 4, 4, [7, 0, 0, 0], (turning.busPut 0x620000 [7, 0, 0, 0]).2, mv [] (phased .run (copy4 4)) (desc4 4), turning, by decide +kernel⟩,
   ⟨4, true, mv [] (phased .run (copy4 4)) (desc4 4), by decide +kernel⟩,
   ⟨3, 11, mv [] (phased .run (copy4 4)) (desc4 4), by decide +kernel⟩,
   ⟨3, 11, mv [] (phased .fetch 0) (desc4 4), by decide +kernel⟩,
   ⟨3, stOK, 0, mv [] (phased (.wb stOK 0) (copy4 4)) (desc4 4), by unfold CanWriteBack; decide +kernel⟩,
   ⟨3, stOK, 0, mv [(F.MOVER_CH_CUR_HI_ADDR 3, 0xFF)] (phased (.wb stOK 0) (copy4 4)) (desc4 4), by decide +kernel⟩,
   ⟨15, 1, mv [] { phased .run (copy4 4) with line := some 15 } (desc4 4), by decide +kernel⟩,
   ⟨31, up [], by decide +kernel⟩,
   ⟨31, up [], by decide +kernel⟩⟩

def keyed (l : List (Fld × Nat)) (x : KeyState) : State := { ringed l RingState.start with key := x }
def rooted : KeyState := { State.reset.key with root := some 5, derived := [5] }
def proven : State :=
  { keyed [] { rooted with replaces := [(5, ⟨1, true, true⟩)] } with
    sys := { State.reset.sys with refTick := 1000000 }
    ring := { RingState.start with ports := List.replicate 4 { RingPortState.start with next := some ⟨some 0, 1, 1, some 0⟩ } } }
def replacing (e w : Bool) : KeyState := { rooted with replaces := [(5, ⟨1, e, w⟩)] }
theorem witness_KeyCommands :
    (∃ (req : Fin 36) (s : State), s.blockOn bKEY = true ∧ s.lc = lcProvisioned) ∧
    (∃ (req : Fin 36) (s : State), s.blockOn bKEY = true ∧ s.lc ≠ lcProvisioned) ∧
    (∃ (req : Fin 36) (s : State), s.blockOn bKEY = true ∧ (s.lc = lcProvisioned ∨ s.lc = lcFielded)) ∧
    (∃ (req : Fin 36) (s : State), s.blockOn bKEY = true ∧ s.lc ≠ lcScrapped) ∧
    (∃ (req : Fin 36) (s : State), s.blockOn bKEY = true ∧ s.lc = lcBlank) ∧
    (∃ (req : Fin 36) (s : State), s.blockOn bKEY = true ∧ s.lc = lcBlank ∧ s.isSet F.KEY_LC_DEBUG_OPEN = false) ∧
    (∃ (req : Fin 36) (s : State), s.blockOn bKEY = true ∧ s.isSet F.KEY_LC_DEBUG_OPEN = true ∧ s.isSet F.KEY_LC_TEST_ROOT = true) ∧
    (∃ (req : Fin 36) (s : State), s.blockOn bKEY = true ∧ s.lc = lcReturned ∧ s.rd F.KEY_LC_REFURB < 3) ∧
    (∃ (req : Fin 36) (s : State) (k : Fin 64), s.blockOn bKEY = true ∧ s.slotKind ↑k = 2 ∧ s.rd (F.KEY_SLOT_STAT_STATE ↑k) = 1) ∧
    (∃ (req : Fin 36) (s : State) (k : Fin 64), s.blockOn bKEY = true ∧ (s.slotKind ↑k ≠ 2 ∨ s.rd (F.KEY_SLOT_STAT_STATE ↑k) ≠ 1)) ∧
    (∃ (req : Fin 36) (s : State) (k : Fin 64) (n : Nat), s.blockOn bKEY = true ∧ s.nextSlot ↑k = some n) ∧
    (∃ (req : Fin 36) (s : State) (d : BitVec 32), s.blockOn bKEY = true) ∧
    (∃ (end_ : Nat) (s : State), s.key.debugEnd = some end_ ∧ s.isSet F.KEY_LC_DEBUG_OPEN = true ∧ s.isSet F.KEY_LC_TEST_ROOT = true ∧ end_ ≤ s.opSec) ∧
    (∃ (x : Fin 2) (pos : Fin 64) (gen : BitVec 16) (kcv : BitVec 64) (k : Nat) (r : KeyReplace) (s : State), List.find? (fun e => e.2.path == ↑x) s.key.replaces = some (k, r) ∧ gen.toNat = (s.rd (F.KEY_SLOT_STAT_GEN k) + 1) % 65536 ∧ kcv.toNat = s.kcvOf k gen.toNat) ∧
    (∃ (k : Fin 64) (n : Nat) (r : KeyReplace) (s : State), s.key.replaces.find ↑k = some r ∧ 1000 ≤ n) ∧
    (∃ (k : Fin 64) (n : Nat) (r : KeyReplace) (s : State), s.key.replaces.find ↑k = some r ∧ r.east = true ∧ r.west = true ∧ s.nextProven r.path = true) ∧
    (∃ (k : Fin 64) (n : Nat) (r : KeyReplace) (s : State), s.key.replaces.find ↑k = some r ∧ (r.east = false ∨ r.west = false) ∧ 60 ≤ n) ∧
    (∃ (s : State), s.islandOn = true ∧ s.lc ≠ lcProvisioned ∧ s.lc ≠ lcFielded) ∧
    (∃ (s : State), s.islandOn = true ∧ (s.lc = lcProvisioned ∨ s.lc = lcFielded)) :=
  ⟨⟨31, keyed [(F.KEY_LC_STATE, 1)] rooted, by decide +kernel⟩,
   ⟨31, keyed [(F.KEY_LC_STATE, 2)] rooted, by decide +kernel⟩,
   ⟨31, keyed [(F.KEY_LC_STATE, 2), (F.KEY_LC_ROOT_PRESENT, 1)] rooted, by decide +kernel⟩,
   ⟨31, keyed [(F.KEY_LC_STATE, 3)] rooted, by decide +kernel⟩,
   ⟨31, keyed [(F.KEY_LC_STATE, 0)] State.reset.key, by decide +kernel⟩,
   ⟨31, keyed [(F.KEY_LC_STATE, 0), (F.KEY_LC_DEBUG_OPEN, 0)] State.reset.key, by decide +kernel⟩,
   ⟨31, keyed [(F.KEY_LC_STATE, 0), (F.KEY_LC_DEBUG_OPEN, 1), (F.KEY_LC_TEST_ROOT, 1)] rooted, by decide +kernel⟩,
   ⟨31, keyed [(F.KEY_LC_STATE, 3), (F.KEY_LC_REFURB, 2)] State.reset.key, by decide +kernel⟩,
   ⟨31, keyed [(F.KEY_SLOT_CFG_KIND 5, 2), (F.KEY_SLOT_STAT_STATE 5, 1), (F.KEY_SLOT_CFG_CTX 5, 1)] rooted, 5, by decide +kernel⟩,
   ⟨31, keyed [(F.KEY_SLOT_CFG_KIND 5, 2), (F.KEY_SLOT_STAT_STATE 5, 1), (F.KEY_SLOT_CFG_CTX 5, 1)] rooted, 6, by decide +kernel⟩,
   ⟨31, keyed [(F.KEY_SLOT_CFG_NEXT 6, 7), (F.KEY_SLOT_STAT_STATE 7, 1)] rooted, 6, 7, by decide +kernel⟩,
   ⟨31, keyed [] rooted, 9, by decide +kernel⟩,
   ⟨50, keyed [(F.KEY_LC_DEBUG_OPEN, 1), (F.KEY_LC_TEST_ROOT, 1), (F.PWR_OPSEC_LO_SEC, 50)] { rooted with debugEnd := some 50 }, by decide +kernel⟩,
   ⟨1, 6, 1, .ofNat 64 ((keyed [(F.RING_PORT_STAT_NEIGHBOUR 1 0, 6)] (replacing false true)).kcvOf 5 1), 5, ⟨1, false, true⟩, keyed [(F.RING_PORT_STAT_NEIGHBOUR 1 0, 6)] (replacing false true), ⟨by decide +kernel, by decide +kernel, by rw [BitVec.toNat_ofNat]; exact Nat.mod_eq_of_lt (kcv_lt _ 5 1)⟩⟩,
   ⟨5, 1000, ⟨1, false, true⟩, keyed [(F.RING_PORT_STAT_NEIGHBOUR 1 0, 6)] (replacing false true), by decide +kernel⟩,
   ⟨5, 1000, ⟨1, true, true⟩, proven, by decide +kernel⟩,
   ⟨5, 60, ⟨1, false, true⟩, keyed [] (replacing false true), by decide +kernel⟩,
   ⟨keyed [(F.KEY_LC_STATE, 0)] rooted, by decide +kernel⟩,
   ⟨keyed [(F.KEY_LC_STATE, 2)] rooted, by decide +kernel⟩⟩

def slotHdr (st : Nat) : SlotHdr := ⟨1, st, 0, 1, 7, 0, 0, 50, 0⟩
def restring (l : List (Fld × Nat)) (a b run : Nat) : State :=
  { ringed l RingState.start with restr := { RestrState.start with hdrs := [slotHdr a, slotHdr b], running := run } }
theorem witness_TrialCommands :
    (∃ (req : Fin 36) (s : State), s.blockOn bRESTR = true ∧ s.flashOn = true ∧ s.restr.hdrs.length = 2 ∧ s.restr.running ≤ 1 ∧ ((s.hdr s.inactive).state = 2 ∨ (s.hdr s.inactive).state = 7 ∨ (s.hdr s.inactive).state = 8)) ∧
    (∃ (req : Fin 36) (s : State), s.blockOn bRESTR = true ∧ s.flashOn = true ∧ s.restr.hdrs.length = 2 ∧ s.restr.running ≤ 1 ∧ (s.hdr s.inactive).state ≠ 2 ∧ (s.hdr s.inactive).state ≠ 7 ∧ (s.hdr s.inactive).state ≠ 8) ∧
    (∃ (req : Fin 36) (s : State), s.blockOn bRESTR = true ∧ s.flashOn = true ∧ s.restr.hdrs.length = 2 ∧ s.restr.running ≤ 1 ∧ (s.hdr s.inactive).state = 3) ∧
    (∃ (req : Fin 36) (s : State) (c : Nat), s.blockOn bRESTR = true ∧ s.flashOn = true ∧ s.restr.hdrs.length = 2 ∧ s.restr.running ≤ 1 ∧ (s.hdr s.restr.running).state = 4 ∧ s.confirmedSlot = some c) ∧
    (∃ (req : Fin 36) (s : State), s.blockOn bRESTR = true ∧ s.flashOn = true ∧ s.restr.hdrs.length = 2 ∧ s.restr.running ≤ 1 ∧ (s.hdr s.restr.running).state ≠ 4) ∧
    (∃ (req : Fin 36) (s : State), s.blockOn bRESTR = true ∧ s.flashOn = true ∧ s.restr.hdrs.length = 2 ∧ s.restr.running ≤ 1 ∧ (s.tgtState 0 = 1 ∨ s.tgtState 0 = 2)) ∧
    (∃ (req : Fin 36) (s : State), s.blockOn bRESTR = true ∧ s.flashOn = true ∧ s.restr.hdrs.length = 2 ∧ s.restr.running ≤ 1 ∧ (s.hdr s.inactive).state ≠ 5) ∧
    (∃ (req : Fin 36) (s : State), s.blockOn bRESTR = true ∧ s.flashOn = true ∧ s.restr.hdrs.length = 2 ∧ s.restr.running ≤ 1 ∧ (s.hdr s.inactive).state = 5) ∧
    (∃ (s : State), s.activationDue = true) ∧
    (∃ (n : Nat) (o : Nat) (m : Nat) (s : State), s.restr.window = some (o, m) ∧ (s.hdr s.restr.running).state = 4 ∧ m ≤ n) ∧
    (∃ (n : Nat) (o : Nat) (m : Nat) (s : State), s.restr.window = some (o, m) ∧ (s.hdr s.restr.running).state = 4 ∧ n < m) :=
  ⟨⟨31, restring [] 5 8 0, by decide +kernel⟩,
   ⟨31, restring [] 5 3 0, by decide +kernel⟩,
   ⟨31, restring [] 5 3 0, by decide +kernel⟩,
   ⟨31, restring [] 5 4 1, 0, by decide +kernel⟩,
   ⟨31, restring [] 5 2 0, by decide +kernel⟩,
   ⟨31, restring [] 5 2 0, by decide +kernel⟩,
   ⟨31, restring [] 4 5 1, by decide +kernel⟩,
   ⟨31, restring [] 4 5 0, by decide +kernel⟩,
   ⟨restring [(F.SYS_START_STAT_PHASE, 4), (F.TIME_TB0_STAT_VALID, 1), (F.TIME_TB0_S_LO_SEC, 50)] 5 3 0, by decide +kernel⟩,
   ⟨1440, 0, 1440, { restring [] 5 4 1 with restr := { (restring [] 5 4 1).restr with window := some (0, 1440) } }, by decide +kernel⟩,
   ⟨0, 0, 1440, { restring [] 5 4 1 with restr := { (restring [] 5 4 1).restr with window := some (0, 1440) } }, by decide +kernel⟩⟩

def fed (x : Feed) : State := { restring [] 5 1 0 with restr := { (restring [] 5 1 0).restr with feed := some x } }
def bigFeed (t b : Nat) : Feed := ⟨t, b, List.replicate 65532 0⟩
def targeted (l : List (Fld × Nat)) (k : Nat) (x : FeedTarget) : State :=
  { restring l 5 1 0 with restr := { (restring l 5 1 0).restr with targets := [(k, x)] } }
theorem witness_FeedCommands :
    (∃ (req : Fin 36) (k : Fin 32) (b : BitVec 16) (s : State), s.blockOn bRESTR = true ∧ ↑k ≤ 16 ∧ s.feedAllowed ↑k = true) ∧
    (∃ (req : Fin 36) (k : Fin 32) (b : BitVec 16) (s : State), s.blockOn bRESTR = true ∧ ↑k ≤ 16 ∧ s.feedAllowed ↑k = false) ∧
    (∃ (req : Fin 36) (d : BitVec 32) (f : Nat) (fd : Feed) (s : State), s.blockOn bRESTR = true ∧ s.restr.feed = some fd ∧ fd.octets.length + 4 < s.blockLen fd.target fd.block) ∧
    (∃ (req : Fin 36) (d : BitVec 32) (f : Nat) (fd : Feed) (s : State), s.blockOn bRESTR = true ∧ s.restr.feed = some fd ∧ s.blockLen fd.target fd.block ≤ fd.octets.length + 4 ∧ s.flashOn = true ∧ 3 ≤ f) ∧
    (∃ (req : Fin 36) (d : BitVec 32) (f : Nat) (fd : Feed) (s : State) (k : Nat) (l : List Byte), s.blockOn bRESTR = true ∧ s.restr.feed = some fd ∧ fd.target = k + 1 ∧ fd.block = 65535 ∧ 65536 ≤ fd.octets.length + 4 ∧ s.flashOn = true ∧ f < 3 ∧ List.take 65536 (fd.octets.reverse ++ octetsLE 4 d.toNat) = l) ∧
    (∃ (src : BitVec 14) (k : Fin 17) (b : BitVec 16) (id : BitVec 32) (i : Fin 8) (l : List Byte) (f : Nat) (s : State) (d : Nat), s.isOn 44 = true ∧ s.fragWanted (↑k) id.toNat = false ∧ s.nextMember = some d ∧ d ≠ src.toNat) ∧
    (∃ (src : BitVec 14) (k : Fin 17) (b : BitVec 16) (id : BitVec 32) (i : Fin 8) (l : List Byte) (f : Nat) (s : State), s.isOn 44 = true ∧ s.tgtState ↑k = 1 ∧ (s.tgt ↑k).imageId = id.toNat ∧ (s.tgt ↑k).ok = true ∧ b.toNat < 65534 ∧ s.hasBlock (↑k) b.toNat = false ∧ ((s.tgt ↑k).partials.any fun p => p.block == b.toNat) = false ∧ (s.tgt ↑k).partials.length < 4 ∧ l.length < s.blockLen (↑k) b.toNat) ∧
    (∃ (src : BitVec 14) (k : Fin 17) (b : BitVec 16) (id : BitVec 32) (s : State), s.isOn 44 = true ∧ ↑k ≠ 0 ∧ (s.tgt ↑k).state = 2 ∧ (s.tgt ↑k).imageId = id.toNat ∧ s.hasBlock (↑k) b.toNat = true) ∧
    (∃ (k : Fin 17) (n : Nat) (d : Nat) (s : State), s.isOn 44 = true ∧ s.prevMember = some d ∧ s.tgtState ↑k = 1 ∧ 2000 ≤ n ∧ s.missing ↑k ≠ []) ∧
    (∃ (k : Fin 17) (b : BitVec 16) (n : Nat) (s : State), 10 ≤ n) ∧
    (∃ (k : Fin 17) (b : BitVec 16) (n : Nat) (s : State), n < 10) :=
  ⟨⟨31, 16, 0xFFFF, restring [] 5 2 0, by decide +kernel⟩,
   ⟨31, 0, 0xFFFF, restring [] 5 3 0, by decide +kernel⟩,
   ⟨31, 7, 0, ⟨0, 0xFFFE, [1, 2]⟩, fed ⟨0, 0xFFFE, [1, 2]⟩, by decide +kernel⟩,
   ⟨31, 7, 3, bigFeed 0 0xFFFE, fed (bigFeed 0 0xFFFE), ⟨by decide +kernel, rfl, by show 65536 ≤ (List.replicate 65532 (0 : Byte)).length + 4; rw [List.length_replicate], by decide +kernel, by decide⟩⟩,
   ⟨31, 7, 0, bigFeed 4 0xFFFF, fed (bigFeed 4 0xFFFF), 3, ((bigFeed 4 0xFFFF).octets.reverse ++ octetsLE 4 7).take 65536, ⟨by decide +kernel, rfl, rfl, rfl, by show 65536 ≤ (List.replicate 65532 (0 : Byte)).length + 4; rw [List.length_replicate], by decide +kernel, by decide, rfl⟩⟩,
   ⟨198, 1, 5, 7, 3, [1], 0, targeted ((F.RING_PORT_STAT_NEIGHBOUR 0 0, 7) :: onA) 1 ⟨2, 7, 0, true, 0, [], 0⟩, 199, by decide +kernel⟩,
   ⟨198, 0, 5, 7, 3, [1], 0, targeted onA 0 ⟨1, 7, 3, true, 0, [], 0⟩, by decide +kernel⟩,
   ⟨198, 1, 5, 7, targeted onA 1 ⟨2, 7, 3, true, 32, [], 0⟩, by decide +kernel⟩,
   ⟨0, 2000, 199, targeted ((F.RING_PORT_STAT_NEIGHBOUR 0 1, 7) :: onA) 0 ⟨1, 7, 2, false, 0, [], 0⟩, by decide +kernel⟩,
   ⟨0, 5, 10, targeted onA 0 ⟨1, 7, 3, true, 0, [⟨5, [(1, [2])]⟩, ⟨6, []⟩], 0⟩, by decide +kernel⟩,
   ⟨0, 5, 9, targeted onA 0 ⟨1, 7, 3, true, 0, [⟨5, [(1, [2])]⟩, ⟨6, []⟩], 0⟩, by decide +kernel⟩⟩

def dist1 (miss : AMap (List Nat)) : Dist := ⟨2, 9, 1, [], false, miss, [4], 0⟩
def distributing (x : Dist) : State :=
  { restring [] 5 0 0 with restr := { (restring [] 5 0 0).restr with dist := some x, nimg := [(2, 3)] } }
theorem witness_NodeImageCommands :
    (∃ (req : Fin 36) (e : Fin 16) (n : BitVec 14) (s : State), s.blockOn bRESTR = true ∧ s.restr.dist = none ∧ (s.tgt (↑e + 1)).state = 2) ∧
    (∃ (req : Fin 36) (e : Fin 16) (n : BitVec 14) (s : State) (d : Dist), s.blockOn bRESTR = true ∧ s.restr.dist = some d) ∧
    (∃ (req : Fin 36) (e : Fin 16) (n : BitVec 14) (s : State) (d : Dist), s.blockOn bRESTR = true ∧ s.restr.dist = some d ∧ d.entry = ↑e) ∧
    (∃ (req : Fin 36) (e : Fin 16) (n : BitVec 14) (s : State), s.blockOn bRESTR = true ∧ s.restr.dist = none ∧ s.flashOn = true) ∧
    (∃ (n : Nat) (d : Dist) (s : State), s.restr.dist = some d ∧ d.toSend = [] ∧ d.poll = false ∧ 120 ≤ n ∧ List.flatMap (fun e => e.2) d.missing = []) ∧
    (∃ (n : Nat) (d : Dist) (s : State), s.restr.dist = some d ∧ d.toSend = [] ∧ d.poll = false ∧ 120 ≤ n ∧ List.flatMap (fun e => e.2) d.missing ≠ [] ∧ d.round + 1 < 4) ∧
    (∃ (node : BitVec 14) (id : BitVec 32) (h : BitVec 16) (x : BitVec 16) (m : BitVec 256) (d : Dist) (s : State), s.restr.dist = some d ∧ (s.tgt (d.entry + 1)).imageId = id.toNat) :=
  ⟨⟨31, 2, 9, targeted [] 3 ⟨2, 7, 3, true, 32, [], 0⟩, by decide +kernel⟩,
   ⟨31, 2, 9, distributing (dist1 [(9, [3])]), dist1 [(9, [3])], by decide +kernel⟩,
   ⟨31, 2, 9, distributing (dist1 [(9, [3])]), dist1 [(9, [3])], by decide +kernel⟩,
   ⟨31, 2, 9, targeted [] 3 ⟨2, 7, 3, true, 32, [], 0⟩, by decide +kernel⟩,
   ⟨120, dist1 [], distributing (dist1 []), by decide +kernel⟩,
   ⟨120, dist1 [(9, [3])], distributing (dist1 [(9, [3])]), by decide +kernel⟩,
   ⟨9, 0, 0, 0, 0, dist1 [(9, [3])], distributing (dist1 [(9, [3])]), by decide +kernel⟩⟩

def snap1 : Snap := ⟨2, -5, [1, 2], 77, 9, [(0x40000010, 8)]⟩
def sampling (code : Nat) : List (Fld × Nat) :=
  [(F.REC_BIND_ARG_SAMPLE 3, 10), (F.REC_BIND_CFG_MODE 3, 0), (F.REC_BIND_CFG_CODE 3, code)]
theorem witness_RecorderWriting :
    (∃ (k : Fin 16) (n : Nat) (s : State), s.isOn 44 = true ∧ s.isSet (F.REC_BIND_STAT_LIVE ↑k) = true ∧ s.rd (F.REC_BIND_ARG_SAMPLE ↑k) ≠ 0 ∧ 100 * s.rd (F.REC_BIND_ARG_SAMPLE ↑k) ≤ n ∧ s.rd (F.REC_BIND_CFG_MODE ↑k) = 0 ∧ s.quantity (s.rd (F.REC_BIND_CFG_CODE ↑k)) (s.rd (F.REC_BIND_ARG_ARG ↑k)) = none) ∧
    (∃ (k : Fin 16) (n : Nat) (s : State) (v : Int) (i : Nat), s.isOn 44 = true ∧ s.isSet (F.REC_BIND_STAT_LIVE ↑k) = true ∧ s.rd (F.REC_BIND_ARG_SAMPLE ↑k) ≠ 0 ∧ 100 * s.rd (F.REC_BIND_ARG_SAMPLE ↑k) ≤ n ∧ s.rd (F.REC_BIND_CFG_MODE ↑k) = 0 ∧ s.quantity (s.rd (F.REC_BIND_CFG_CODE ↑k)) (s.rd (F.REC_BIND_ARG_ARG ↑k)) = some v ∧ binOf v (toSigned 32 (s.rdMem (pageAddr ↑k + 40) 4)) (s.rdMem (pageAddr ↑k + 44) 2) (s.rdMem (pageAddr ↑k + 46) 2) = i ∧ s.rdMem (pageAddr ↑k + 128 + 4 * i) 4 ≠ 4294967295) ∧
    (∃ (c : BitVec 16) (v : BitVec 32) (l : List Byte) (s : State), s.isOn 44 = true ∧ s.isSet F.REC_STAT_READY = true ∧ s.isSet F.REC_STAT_FULL = false ∧ 2 ≤ c.toNat ∧ c.toNat ≤ 6 ∧ s.recd.queue.length < 16) ∧
    (∃ (c : BitVec 16) (v : BitVec 32) (l : List Byte) (s : State), s.isOn 44 = true ∧ s.isSet F.REC_STAT_READY = true ∧ s.isSet F.REC_STAT_FULL = false ∧ 2 ≤ c.toNat ∧ c.toNat ≤ 6 ∧ 16 ≤ s.recd.queue.length) ∧
    (∃ (n : Snap) (rest : List Snap) (u : Nat) (s : State), RecWrites s ∧ s.recd.queue = n :: rest ∧ s.isSet F.REC_SNAP_POS_OPEN = true ∧ 8 * s.rd F.REC_SNAP_POS_BLOCK + s.rd F.REC_SNAP_POS_SLOTS = u) ∧
    (∃ (k : Fin 16) (s : State), RecWrites s ∧ s.pendingIn bREC = false ∧ s.isSet (F.REC_BIND_STAT_LIVE ↑k) = true ∧ s.rd (F.REC_BIND_CFG_PERIOD_H ↑k) ≠ 0 ∧ s.rdMem (pageAddr ↑k + 52) 8 + 3600 * s.rd (F.REC_BIND_CFG_PERIOD_H ↑k) ≤ s.opSec) ∧
    (∃ (k : Fin 16) (s : State), RecWrites s ∧ s.pendingIn bREC = false ∧ s.isSet (F.REC_BIND_STAT_LIVE ↑k) = true ∧ s.opSec < s.rdMem (pageAddr ↑k + 52) 8 + 3600 * s.rd (F.REC_BIND_CFG_PERIOD_H ↑k)) ∧
    (∃ (k : Fin 16) (s : State) (req : Fin 36), RecWrites s ∧ s.pendingIn bREC = false ∧ s.isSet (F.REC_BIND_STAT_LIVE ↑k) = true) ∧
    (∃ (k : Fin 16) (s : State) (req : Fin 36), RecWrites s ∧ s.pendingIn bREC = false ∧ s.isSet (F.REC_BIND_STAT_LIVE ↑k) = true ∧ (∀ (j : Fin 16), j ≠ k → s.isSet (F.REC_BIND_STAT_LIVE ↑j) = false)) :=
  ⟨⟨3, 1000, recs (sampling 0xFFF) [] ⟨[], []⟩, by decide +kernel⟩,
   ⟨3, 1000, recs (sampling 0x0500) [(0x0078302C, 10), (0x0078302E, 20), (0x00783084, 5)] ⟨[], []⟩, 0, 1, by decide +kernel⟩,
   ⟨2, 7, [1, 2], recs [] [] ⟨[snap1], []⟩, by decide +kernel⟩,
   ⟨2, 7, [1, 2], recs [] [] ⟨List.replicate 16 snap1, []⟩, by decide +kernel⟩,
   ⟨snap1, [], 47, recs [(F.REC_SNAP_POS_OPEN, 1), (F.REC_SNAP_POS_BLOCK, 5), (F.REC_SNAP_POS_SLOTS, 7)] [] ⟨[snap1], []⟩, by unfold RecWrites; decide +kernel⟩,
   ⟨3, recs [(F.REC_BIND_CFG_PERIOD_H 3, 1), (F.PWR_OPSEC_LO_SEC, 3600)] [] ⟨[], []⟩, by unfold RecWrites; decide +kernel⟩,
   ⟨3, recs [(F.REC_BIND_CFG_PERIOD_H 3, 1), (F.PWR_OPSEC_LO_SEC, 3599)] [] ⟨[], []⟩, by unfold RecWrites; decide +kernel⟩,
   ⟨3, recs [(F.REC_BIND_CFG_PERIOD_H 3, 1), (F.PWR_OPSEC_LO_SEC, 3599)] [] ⟨[], []⟩, 31, by unfold RecWrites; decide +kernel⟩,
   ⟨3, recs [(F.REC_BIND_CFG_PERIOD_H 3, 1), (F.PWR_OPSEC_LO_SEC, 3599)] [] ⟨[], []⟩, 31, by unfold RecWrites; decide +kernel⟩⟩

theorem witness_FetchAndLedgerCommands :
    (∃ (req : Fin 36) (k : Fin 16) (u : BitVec 19) (s : State) (live : Bool), s.allOn [44, 47, 49] = true ∧ ↑req < 32) ∧
    (∃ (req : Fin 36) (k : Fin 16) (u : BitVec 19) (s : State), s.allOn [44, 47, 49] = true ∧ 32 ≤ ↑req ∧ s.isSet (F.REC_BIND_STAT_LIVE ↑k) = true) ∧
    (∃ (req : Fin 36) (k : Fin 16) (u : BitVec 19) (s : State), s.allOn [44, 47, 49] = true ∧ 32 ≤ ↑req ∧ s.isSet (F.REC_BIND_STAT_LIVE ↑k) = false) ∧
    (∃ (req : Fin 36) (k : Fin 16) (u : BitVec 19) (s : State), s.allOn [44, 47, 49] = true ∧ 32 ≤ ↑req ∧ 8 * s.recFront ≤ u.toNat) ∧
    (∃ (req : Fin 36) (k : Fin 16) (u : BitVec 19) (s : State) (len : Nat), s.allOn [44, 47, 49] = true ∧ 32 ≤ ↑req ∧ u.toNat < 8 * s.recFront ∧ s.unitErased u.toNat = false ∧ s.recLen u.toNat = some len ∧ s.recMarked u.toNat len = true ∧ s.recCrcOk u.toNat len = true) ∧
    (∃ (req : Fin 36) (i : Fin 7) (m : BitVec 7) (s : State), s.isOn 49 = true ∧ s.blockOn (ledgerBlock ↑i) = true ∧ m.toNat = 2 ^ i.val) ∧
    (∃ (req : Fin 36) (i : Fin 7) (n : Nat) (s : State), s.isOn 49 = true ∧ s.blockOn (ledgerBlock ↑i) = true ∧ s.ledgerDue.find (8 * ↑req + ↑i) = some n ∧ s.rd (ledgerCnt ↑i) ≠ n) ∧
    (∃ (req : Fin 36) (i : Fin 7) (s : State), s.ledgerDue.find (8 * ↑req + ↑i) = some (s.rd (ledgerCnt ↑i))) ∧
    (∃ (n : Nat) (s : State), s.allOn [0, 49] = true ∧ s.rd F.LEDGER_CHECK_CFG_CHECK_S ≠ 0 ∧ s.rd F.LEDGER_CHECK_CFG_CHECK_S ≤ n) ∧
    (∃ (n : Nat) (s : State), s.allOn [0, 49] = true ∧ s.rd F.LEDGER_CHECK_CFG_CHECK_S ≠ 0 ∧ n < s.rd F.LEDGER_CHECK_CFG_CHECK_S) :=
  ⟨⟨31, 3, 0, recs [] [] ⟨[], []⟩, true, by decide +kernel⟩,
   ⟨33, 3, 0, recs [] [] ⟨[], []⟩, by decide +kernel⟩,
   ⟨33, 4, 0, recs [] [] ⟨[], []⟩, by decide +kernel⟩,
   ⟨33, 4, 8, recs [] [] ⟨[], []⟩, by decide +kernel⟩,
   ⟨33, 4, 0, recs [] record0 ⟨[], []⟩, 512, by decide +kernel, by decide +kernel, by decide +kernel, by decide +kernel, by decide +kernel, by decide +kernel, record0_ok⟩,
   ⟨31, 6, 64, up [(F.STATE_RUN bRINGB, 1)], by decide +kernel⟩,
   ⟨31, 6, 3, { up [(F.STATE_RUN bRINGB, 1), (F.RING_AUDIT_CTRL_SNAP_CNT 1, 4)] with ledgerDue := [(8 * 31 + 6, 3)] }, by decide +kernel⟩,
   ⟨31, 6, { up [(F.STATE_RUN bRINGB, 1), (F.RING_AUDIT_CTRL_SNAP_CNT 1, 3)] with ledgerDue := [(8 * 31 + 6, 3)] }, by decide +kernel⟩,
   ⟨60, up [(F.LEDGER_CHECK_CFG_CHECK_S, 60)], by decide +kernel⟩,
   ⟨59, up [(F.LEDGER_CHECK_CFG_CHECK_S, 60)], by decide +kernel⟩⟩

end Sys2Proof.Tests
end

section
/-!
PROOFS. Unnamed addresses of the register blocks (R13): the answer that a register access leaves when it does nothing
else, and the accesses to an address that names no register.
-/
namespace Sys2Proof.Machine

/-! ## An access that leaves its answer alone -/

/-- What a command leaves that records the answer to a register access and has no other effect. -/
def State.answered (s : State) (req a st v : Nat) : State :=
  { (s.answer req a st v).settle with pending := s.pending }

theorem finish_answer (s : State) (req a st v : Nat) :
    finish s (s.answer req a st v) = .next (s.answered req a st v) :=
  finish_next s _

@[simp] theorem State.answered_out (s : State) (req a st v : Nat) :
    (s.answered req a st v).out = .access req a st v :: s.out := by
  simp [State.answered, State.answer, State.emit]

@[simp] theorem State.answered_latches (s : State) (req a st v : Nat) : (s.answered req a st v).latches = s.latches := by
  simp [State.answered, State.answer]

@[simp] theorem State.answered_shadow (s : State) (req a st v : Nat) : (s.answered req a st v).shadow = s.shadow := by
  simp [State.answered, State.answer]

@[simp] theorem State.answered_reqRegs (s : State) (req a st v : Nat) : (s.answered req a st v).reqRegs = s.reqRegs := by
  simp [State.answered, State.answer]

@[simp] theorem State.answered_peg (s : State) (req a st v : Nat) : (s.answered req a st v).peg = s.peg := by
  simp [State.answered, State.answer]

@[simp] theorem State.answered_mem (s : State) (req a st v : Nat) : (s.answered req a st v).mem = s.mem := by
  simp [State.answered, State.answer]

/-- An answer changes no register: only RUN of a block may follow at the command's end. -/
theorem State.answered_regsKept (s : State) (req a st v : Nat) : RegsKept [] s (s.answered req a st v) := by
  intro g hg _
  exact (finish_rd s (s.answer req a st v) g hg).trans (State.emit_rd s _ g)

theorem State.answered_memKept (s : State) (req a st v : Nat) : MemKept s (s.answered req a st v) := by
  intro x
  simp only [State.rd8, State.answered_mem]

/-! ## An address inside a register block that names no register -/

/-- The answer to an access of an address inside a register block that names no register (R13, log entry 15): OK from a
Fretboard port, BAD over HCP. -/
def unnamedStatus (req : Nat) : Nat := if req < 32 then stOK else stBAD

section
variable (s : State) {req a : Nat} (hup : s.addrUp a = true) (hal : a % 4 = 0)
  (hblk : (regBlock a).isSome = true) (hreg : lookupReg a = none)
include hup hal hblk hreg

theorem State.regRead_unnamed : s.regRead req a = (unnamedStatus req, 0, s) := by
  obtain ⟨p, hp⟩ := Option.isSome_iff_exists.mp hblk
  simp [State.regRead, hup, hal, hp, hreg, unnamedStatus]

theorem State.regWrite_unnamed (v : Nat) (x : WriteMore) : s.regWrite req a v x = (unnamedStatus req, s) := by
  obtain ⟨p, hp⟩ := Option.isSome_iff_exists.mp hblk
  simp [State.regWrite, hup, hal, hp, hreg, unnamedStatus]

theorem State.rowRead_unnamed : s.rowRead req a = s.answer req a (unnamedStatus req) 0 := by
  simp only [State.rowRead, s.regRead_unnamed hup hal hblk hreg]

theorem State.sizedWrite_unnamed (v : Nat) : s.sizedWrite req a 4 v = s.answer req a (unnamedStatus req) 0 := by
  simp [State.sizedWrite, State.regWriteSized, hup, s.regWrite_unnamed hup hal hblk hreg]

end

/-! ## The two commands -/

theorem exec_lowWordRead_unnamed (req : Fin 36) (addr : BitVec 40) (s : State) (hup : s.addrUp addr.toNat = true)
    (hal : addr.toNat % 4 = 0) (hblk : (regBlock addr.toNat).isSome = true) (hreg : lookupReg addr.toNat = none) :
    exec (.lowWordRead req addr) s = .next (s.answered req addr.toNat (unnamedStatus req) 0) := by
  change finish s (s.rowRead req addr.toNat) = _
  rw [s.rowRead_unnamed hup hal hblk hreg, finish_answer]

theorem exec_registerWrite_unnamed (req : Fin 36) (addr : BitVec 40) (v : BitVec 32) (s : State)
    (hup : s.addrUp addr.toNat = true) (hal : addr.toNat % 4 = 0) (hblk : (regBlock addr.toNat).isSome = true)
    (hreg : lookupReg addr.toNat = none) :
    exec (.registerWrite req addr 4 v) s = .next (s.answered req addr.toNat (unnamedStatus req) 0) := by
  change finish s (s.sizedWrite req addr.toNat 4 v.toNat) = _
  rw [s.sizedWrite_unnamed hup hal hblk hreg, finish_answer]

/-- Settles O6: either access ends in the state that records its answer and has no other effect. -/
theorem unnamedAddress : Obligations.UnnamedAddress := by
  intro req addr v s hup hal hblk hreg
  exact
    ⟨⟨_, exec_lowWordRead_unnamed req addr s hup hal hblk hreg, s.answered_out .., s.answered_latches ..,
        s.answered_regsKept _ _ _ _, s.answered_memKept _ _ _ _⟩,
      ⟨_, exec_registerWrite_unnamed req addr v s hup hal hblk hreg, s.answered_out .., s.answered_shadow ..,
        s.answered_reqRegs .., s.answered_peg .., s.answered_regsKept _ _ _ _, s.answered_memKept _ _ _ _⟩⟩

end Sys2Proof.Machine
end

section
/-!
PROOFS. Odd accesses of the register blocks (R37): how an access of a command row ends, and the accesses not 32 bits wide
or misaligned, the mover's among them.
-/
namespace Sys2Proof.Machine

/-! ## How an access of a command row ends -/

/-- The status of an access that R37 refuses: BAD where the address is reached, else what R34 answers. -/
def State.oddStatus (s : State) (req a : Nat) : Nat := if s.addrUp a then stBAD else refusedAs req

/-- An effect that leaves the queue alone ends, with its answer recorded, in that effect's own answered state. -/
theorem finish_answer_of_pending {s t : State} (h : t.pending = s.pending) (req a st v : Nat) :
    finish s (t.answer req a st v) = .next (t.answered req a st v) := by
  rw [State.answered, h]
  exact finish_next s _

theorem exec_lowWordRead_of_regRead {req : Fin 36} {addr : BitVec 40} {s t : State} {st v : Nat}
    (h : s.regRead req addr.toNat = (st, v, t)) (hp : t.pending = s.pending) :
    exec (.lowWordRead req addr) s = .next (t.answered req addr.toNat st v) := by
  change finish s (s.rowRead req addr.toNat) = _
  rw [State.rowRead, h]
  exact finish_answer_of_pending hp ..

theorem exec_registerWrite_of_regWriteSized {req : Fin 36} {addr : BitVec 40} {size : Fin 65} {v : BitVec 32}
    {s t : State} {st : Nat} (h : s.regWriteSized req addr.toNat size v.toNat WriteMore.none = (st, t))
    (hp : t.pending = s.pending) :
    exec (.registerWrite req addr size v) s = .next (t.answered req addr.toNat st 0) := by
  change finish s (s.sizedWrite req addr.toNat size v.toNat) = _
  rw [State.sizedWrite, h]
  exact finish_answer_of_pending hp ..

/-! ## Odd accesses (R37) -/

theorem State.regRead_misaligned (s : State) (req : Nat) {a : Nat} (ha : a % 4 ≠ 0) :
    s.regRead req a = (s.oddStatus req a, 0, s) := by
  by_cases hup : s.addrUp a = true <;> simp [State.regRead, State.oddStatus, hup, ha]

theorem State.regWrite_misaligned (s : State) (req v : Nat) (x : WriteMore) {a : Nat} (ha : a % 4 ≠ 0) :
    s.regWrite req a v x = (s.oddStatus req a, s) := by
  by_cases hup : s.addrUp a = true <;> simp [State.regWrite, State.oddStatus, hup, ha]

theorem State.regWriteSized_odd (s : State) (req v : Nat) (x : WriteMore) {a size : Nat} (h : size ≠ 4 ∨ a % 4 ≠ 0) :
    s.regWriteSized req a size v x = (s.oddStatus req a, s) := by
  by_cases hsize : size = 4
  · have ha : a % 4 ≠ 0 := h.resolve_left (not_not_intro hsize)
    by_cases hup : s.addrUp a = true <;>
      simp [State.regWriteSized, s.regWrite_misaligned req v x ha, State.oddStatus, hup, hsize]
  · by_cases hup : s.addrUp a = true <;> simp [State.regWriteSized, State.oddStatus, hup, hsize]

/-! ### The mover's accesses -/

theorem State.addrUp_of_reached {s : State} {a n : Nat} (h : s.reached a n = true) : s.addrUp a = true := by
  simp only [State.reached, Bool.and_eq_true] at h
  exact h.1

/-- An odd read of the mover inside the register blocks ends with a REASON of R418: 0x2 where an end is not reached, else
0x3. -/
theorem State.busGet_odd (s : State) {a n : Nat} (hin : inRegBlocks a n = true) (h : n ≠ 4 ∨ a % 4 ≠ 0) :
    ∃ l, s.busGet a n = (if s.reached a n then 0x3 else 0x2, l, s) := by
  by_cases hr : s.reached a n = true
  · by_cases hn : n = 4
    · subst hn
      have ha : a % 4 ≠ 0 := h.resolve_left (not_not_intro rfl)
      simp [State.busGet, hr, hin, s.regRead_misaligned 30 ha, State.oddStatus, State.addrUp_of_reached hr]
    · simp [State.busGet, hr, hin, hn]
  · simp [State.busGet, hr]

/-- An odd write of the mover inside the register blocks ends with a REASON of R418: 0x2 where an end of a mapped range is
not reached, else 0x3. -/
theorem State.busPut_odd (s : State) {a : Nat} {l : List Byte} (hin : inRegBlocks a l.length = true)
    (h : l.length ≠ 4 ∨ a % 4 ≠ 0) :
    s.busPut a l = (if inMap a && !s.reached a l.length then 0x2 else 0x3, s) := by
  by_cases hm : inMap a = true
  · by_cases hr : s.reached a l.length = true
    · by_cases hn : l.length = 4
      · have ha : a % 4 ≠ 0 := h.resolve_left (not_not_intro hn)
        rw [hn] at hr hin
        simp [State.busPut, hm, hr, hin, hn, s.regWrite_misaligned 30 _ _ ha, State.oddStatus,
          State.addrUp_of_reached hr]
      · simp [State.busPut, hm, hr, hin, hn]
    · simp [State.busPut, hm, hr]
  · simp [State.busPut, hm]

/-- Settles O7: a row's odd access only records its answer, and an odd access of the mover draws a bad answer from an
unchanged state. R34 and log entry 74 give the answer where the address is not reached. -/
theorem oddAccessIsBad : Obligations.OddAccessIsBad := by
  intro req addr size v s
  refine ⟨fun h => ?_, fun ha => ?_, fun a n hin h => ?_, fun a l hin h => ?_⟩
  · exact ⟨_, exec_registerWrite_of_regWriteSized (s.regWriteSized_odd req v.toNat _ h) rfl, s.answered_out ..,
      s.answered_regsKept _ _ _ _, s.answered_memKept _ _ _ _, s.answered_shadow .., s.answered_reqRegs ..,
      s.answered_peg ..⟩
  · exact ⟨_, exec_lowWordRead_of_regRead (s.regRead_misaligned req ha) rfl, s.answered_out ..,
      s.answered_regsKept _ _ _ _, s.answered_memKept _ _ _ _, s.answered_latches ..⟩
  · obtain ⟨l, hl⟩ := s.busGet_odd hin h
    exact ⟨_, l, by split <;> decide, hl⟩
  · exact ⟨_, by split <;> decide, s.busPut_odd hin h⟩

end Sys2Proof.Machine
end

section
/-!
PROOFS. 64-bit values (R38): the read of a low word and its latch, of a high word, and of a word that belongs to no such
value.
-/
namespace Sys2Proof.Machine

/-! ## What a read of a named register answers -/

theorem State.regRead_named (s : State) {req a b off : Nat} {r : RegDef} {ix : List Nat} (hup : s.addrUp a = true)
    (hal : a % 4 = 0) (hb : regBlock a = some (b, off)) (hl : lookupReg a = some (r, ix)) :
    s.regRead req a = (stOK, (s.readWord req a b off r ix).1, (s.readWord req a b off r ix).2) := by
  simp [State.regRead, hup, hal, hb, hl]

/-- The registers, by block and offset of their definition, whose words a unit keeps elsewhere or latches by a rule of its
own: R38 alone says nothing of their reads. -/
def ownWords : List (Nat × Nat) :=
  [(bFRET, 0xFF0C), (bPEG, 0x0008), (bPEG, 0x0010), (bPEG, 0x0064), (bFRAD, 0x0040), (bSYM, 0x0030), (bGAUGE, 0x0024),
   (bGAUGE, 0x1000), (bSOUND, 0x0800), (bLAMP, 0x0028), (bTIME, 0x0000), (bTIME, 0x0004), (bTIME, 0x0008),
   (bTIME, 0x000C), (bHCP, 0x0004), (bRESTR, 0x003C), (bRESTR, 0x0100), (bREC, 0x001C)]

section
variable (s : State) (req a : Nat) {b off : Nat} {r : RegDef} (ix : List Nat) (hoff : off ≠ 0xFF04)
  (hown : (b, r.off) ∉ ownWords)
include hoff hown

/-- Every other word but a SHADOW register's reads by R38: a low word latches, a high word is latched, any other is plain. -/
theorem State.readWord_shared :
    s.readWord req a b off r ix =
      if pairLow b off then (s.plainWord req a b r ix, s.latch req [(a + 4, s.word (a + 4))])
      else if pairHigh b off then (s.latched req a (s.plainWord req a b r ix), s)
      else (s.plainWord req a b r ix, s) := by
  simp only [ownWords, List.mem_cons, Prod.mk.injEq, List.not_mem_nil, or_false, not_or] at hown
  simp [State.readWord, hoff, hown]

theorem State.readWord_low (hlow : pairLow b off = true) :
    s.readWord req a b off r ix = (s.plainWord req a b r ix, s.latch req [(a + 4, s.word (a + 4))]) := by
  simp [s.readWord_shared req a ix hoff hown, hlow]

theorem State.readWord_high (hlow : pairLow b off = false) (hhigh : pairHigh b off = true) :
    s.readWord req a b off r ix = (s.latched req a (s.plainWord req a b r ix), s) := by
  simp [s.readWord_shared req a ix hoff hown, hlow, hhigh]

theorem State.readWord_plain (hlow : pairLow b off = false) (hhigh : pairHigh b off = false) :
    s.readWord req a b off r ix = (s.plainWord req a b r ix, s) := by
  simp [s.readWord_shared req a ix hoff hown, hlow, hhigh]

end

/-! ## The latch -/

@[simp] theorem State.latch_mem (s : State) (req : Nat) (l : List (Nat × Nat)) : (s.latch req l).mem = s.mem := rfl
@[simp] theorem State.latch_rd (s : State) (req : Nat) (l : List (Nat × Nat)) (g : Fld) :
    (s.latch req l).rd g = s.rd g := rfl

theorem State.latch_latches_one (s : State) (req a v : Nat) :
    (s.latch req [(a, v)]).latches = s.latches.set (reqKey req a) v := rfl

/-- A latch is no register: a read that sets one leaves every register as it was. -/
theorem State.latch_answered_regsKept (s : State) (req a st v : Nat) (l : List (Nat × Nat)) :
    RegsKept [] s ((s.latch req l).answered req a st v) := fun g hg hn =>
  ((s.latch req l).answered_regsKept req a st v g hg hn).trans (s.latch_rd req l g)

theorem State.latch_answered_memKept (s : State) (req a st v : Nat) (l : List (Nat × Nat)) :
    MemKept s ((s.latch req l).answered req a st v) := fun x =>
  ((s.latch req l).answered_memKept req a st v x).trans (by rw [State.rd8, State.latch_mem, State.rd8])

/-! ## The words of 64-bit values -/

theorem pairLow_iff (b off : Nat) :
    pairLow b off = true ↔ ∃ p ∈ pairs64, ∃ k < p.2.2.2, b = p.1 ∧ off = p.2.1 + k * p.2.2.1 := by
  have stride_pos : ∀ p ∈ pairs64, 0 < p.2.2.1 := by decide
  simp only [pairLow, List.any_eq_true, Bool.and_eq_true, beq_iff_eq, decide_eq_true_eq]
  refine exists_congr fun p => and_congr_right fun hp => ⟨?_, ?_⟩
  · rintro ⟨⟨⟨hb, hle⟩, hmod⟩, hlt⟩
    refine ⟨_, hlt, hb.symm, ?_⟩
    have := Nat.div_add_mod' (off - p.2.1) p.2.2.1
    omega
  · rintro ⟨k, hk, rfl, rfl⟩
    simp [Nat.mul_div_cancel k (stride_pos p hp), hk]

/-- Offset `off` of block `b` names a register whose read R38 alone gives. -/
def sharedWord (b off : Nat) : Bool :=
  decide (off < 0xFF04) && off % 4 == 0 &&
    (lookupReg (blockBase b + off)).any (fun e => !ownWords.contains (b, e.1.off))

/-- Both words of every 64-bit value are such registers, and no high word is itself a low word. -/
theorem pairs64_shared : ∀ p ∈ pairs64, ∀ k < p.2.2.2, sharedWord p.1 (p.2.1 + k * p.2.2.1) = true ∧
    sharedWord p.1 (p.2.1 + k * p.2.2.1 + 4) = true ∧ pairLow p.1 (p.2.1 + k * p.2.2.1 + 4) = false := by
  decide

theorem pairLow_shared {b off : Nat} (h : pairLow b off = true) :
    sharedWord b off = true ∧ sharedWord b (off + 4) = true ∧ pairLow b (off + 4) = false := by
  obtain ⟨p, hp, k, hk, rfl, rfl⟩ := (pairLow_iff b off).mp h
  exact pairs64_shared p hp k hk

theorem pairHigh_add_four {b off : Nat} (h : pairLow b off = true) : pairHigh b (off + 4) = true := by
  simp [pairHigh, h]

theorem sharedWord_iff (b off : Nat) :
    sharedWord b off = true ↔ off < 0xFF04 ∧ off % 4 = 0 ∧
      ∃ r ix, lookupReg (blockBase b + off) = some (r, ix) ∧ (b, r.off) ∉ ownWords := by
  simp [sharedWord, Option.any_eq_true, and_assoc]

theorem regBlock_blockBase {b off : Nat} (hb : b < 26) (ho : off < 0x10000) :
    regBlock (blockBase b + off) = some (b, off) := by
  unfold regBlock blockBase
  rw [if_pos (by omega), show (0x40000000 + 0x10000 * b + off - 0x40000000) / 0x10000 = b by omega,
    show (0x40000000 + 0x10000 * b + off) % 0x10000 = off by omega]

theorem toNat_blockBase {b off : Nat} (hb : b < 26) (ho : off < 0x10000) :
    (BitVec.ofNat 40 (blockBase b + off)).toNat = blockBase b + off := by
  unfold blockBase
  rw [BitVec.toNat_ofNat, Nat.mod_eq_of_lt (by omega)]

theorem blockBase_add_aligned (b : Nat) {off : Nat} (h : off % 4 = 0) : (blockBase b + off) % 4 = 0 := by
  unfold blockBase
  omega

/-! ## The command -/

theorem exec_lowWordRead_named {req : Fin 36} {addr : BitVec 40} {s t : State} {a b off v : Nat} {r : RegDef} {ix : List Nat}
    (ha : addr.toNat = a) (hup : s.addrUp a = true) (hal : a % 4 = 0) (hb : regBlock a = some (b, off))
    (hl : lookupReg a = some (r, ix)) (hr : s.readWord req a b off r ix = (v, t)) (hp : t.pending = s.pending) :
    exec (.lowWordRead req addr) s = .next (t.answered req a stOK v) := by
  subst ha
  exact exec_lowWordRead_of_regRead (by rw [s.regRead_named hup hal hb hl, hr]) hp

section
variable (req : Fin 36) {b off : Nat} {s : State} (hb : b < 26) (hon : s.blockOn b = true)
include hb hon

/-- A read of a register that R38 alone governs, in a block that is ON, answers what the register's word gives. -/
theorem exec_lowWordRead_shared (hw : sharedWord b off = true) :
    ∃ r ix, lookupReg (blockBase b + off) = some (r, ix) ∧ off ≠ 0xFF04 ∧ (b, r.off) ∉ ownWords ∧
      ∀ v t, s.readWord req (blockBase b + off) b off r ix = (v, t) → t.pending = s.pending →
        exec (.lowWordRead req (.ofNat 40 (blockBase b + off))) s = .next (t.answered req (blockBase b + off) stOK v) := by
  obtain ⟨hlt, hal, r, ix, hl, hown⟩ := (sharedWord_iff b off).mp hw
  refine ⟨r, ix, hl, by omega, hown, fun v t hr hp => ?_⟩
  have hup : s.addrUp (blockBase b + off) = true :=
    (s.addrUp_block b _ hb (by omega) (by omega)).trans hon
  exact exec_lowWordRead_named (toNat_blockBase hb (by omega)) hup (blockBase_add_aligned b hal)
    (regBlock_blockBase hb (by omega)) hl hr hp

/-- R38: the read of a low word latches the present high word for the requester. -/
theorem exec_lowWordRead_low (hlow : pairLow b off = true) :
    ∃ r ix, lookupReg (blockBase b + off) = some (r, ix) ∧
      exec (.lowWordRead req (.ofNat 40 (blockBase b + off))) s =
        .next ((s.latch req [(blockBase b + off + 4, s.word (blockBase b + off + 4))]).answered req (blockBase b + off)
          stOK (s.plainWord req (blockBase b + off) b r ix)) := by
  obtain ⟨r, ix, hl, hoff, hown, hexec⟩ := exec_lowWordRead_shared req hb hon (pairLow_shared hlow).1
  exact ⟨r, ix, hl, hexec _ _ (s.readWord_low req _ ix hoff hown hlow) rfl⟩

/-- R38: the read of a high word returns the requester's latch, or the present word where there is none. -/
theorem exec_lowWordRead_high (hlow : pairLow b off = true) :
    ∃ r ix, lookupReg (blockBase b + off + 4) = some (r, ix) ∧
      exec (.lowWordRead req (.ofNat 40 (blockBase b + off + 4))) s =
        .next (s.answered req (blockBase b + off + 4) stOK
          (s.latched req (blockBase b + off + 4) (s.plainWord req (blockBase b + off + 4) b r ix))) := by
  obtain ⟨-, hw, hlow'⟩ := pairLow_shared hlow
  obtain ⟨r, ix, hl, hoff, hown, hexec⟩ := exec_lowWordRead_shared req hb hon hw
  exact ⟨r, ix, hl, hexec _ _ (s.readWord_high req _ ix hoff hown hlow' (pairHigh_add_four hlow)) rfl⟩

end

/-- The blocks none of whose registers has a read rule of its own. -/
def sharedBlocks : List Nat :=
  [bSYS, bPWR, bTUNE, bMOVER, bFPLC, bNODE, bSCAN, bRINGA, bRINGB, bCAPO, bRTC, bKEY, bSLOT, bLEDGER, bIO]

theorem not_mem_ownWords {b : Nat} (o : Nat) (hb : b ∈ sharedBlocks) : (b, o) ∉ ownWords := by
  have h : ∀ c ∈ sharedBlocks, c ∉ ownWords.map Prod.fst := by decide
  exact fun hm => h b hb (List.mem_map_of_mem (f := Prod.fst) hm)

/-- Settles O10: each clause is one of the three ways in which R38 answers a read. Log entry 16 keeps a latch for each
64-bit value. -/
theorem highWordIsLatched : Obligations.HighWordIsLatched := by
  refine ⟨fun req b off s hb hlow hon => ⟨?_, fun v hv => ?_, fun hnone => ?_⟩, ?_⟩
  · obtain ⟨r, ix, hl, hexec⟩ := exec_lowWordRead_low req hb hon hlow
    refine ⟨_, r, ix, hexec, hl, State.answered_out .., ?_, fun k hk => ?_, State.latch_answered_regsKept _ _ _ _ _ _,
      State.latch_answered_memKept _ _ _ _ _ _⟩
    · rw [State.answered_latches, State.latch_latches_one, AMap.find_set_same]
    · rw [State.answered_latches, State.latch_latches_one, AMap.find_set_other _ _ hk]
  · obtain ⟨r, ix, -, hexec⟩ := exec_lowWordRead_high req hb hon hlow
    rw [State.latched, AMap.get, hv] at hexec
    exact ⟨_, hexec, s.answered_out .., s.answered_regsKept _ _ _ _⟩
  · obtain ⟨r, ix, hl, hexec⟩ := exec_lowWordRead_high req hb hon hlow
    rw [State.latched, AMap.get, hnone] at hexec
    exact ⟨_, r, ix, hexec, hl, s.answered_out ..⟩
  · intro req addr s b off r ix hb hup hal hblk hl hoff hlow hhigh
    have hr := s.readWord_plain req addr.toNat ix hoff (not_mem_ownWords r.off hb) hlow hhigh
    exact ⟨_, exec_lowWordRead_named rfl hup hal hblk hl hr rfl, s.answered_out .., s.answered_latches ..,
      s.answered_regsKept _ _ _ _, s.answered_memKept _ _ _ _⟩

end Sys2Proof.Machine
end

section
/-!
PROOFS. The bit instructions (R304): how one instruction of the running task that completes changes the machine, the
number that little-endian octets hold (R6), and the two outcomes of format B, which reads one bit and writes it or not.
-/
namespace Sys2Proof.Machine

/-! ## Little-endian numbers in memory (R6) -/

@[simp] theorem length_octetsLE (n v : Nat) : (octetsLE n v).length = n := by
  induction n generalizing v with
  | zero => rfl
  | succ n ih => rw [octetsLE, List.length_cons, ih]

theorem ofOctetsLE_octetsLE (n v : Nat) : ofOctetsLE (octetsLE n v) = v % 2 ^ (8 * n) := by
  induction n generalizing v with
  | zero => rw [Nat.mul_zero, Nat.pow_zero, Nat.mod_one]; rfl
  | succ n ih =>
    rw [octetsLE, ofOctetsLE, ih, BitVec.toNat_ofNat, show 8 * (n + 1) = 8 + 8 * n by omega, Nat.pow_add, Nat.mod_mul]

theorem Memory.readN_writeL (l : List Byte) (m : Memory) (a : Nat) : (m.writeL a l).readN a l.length = l := by
  induction l generalizing m a with
  | nil => rfl
  | cons b l ih =>
    have hhead : (m.writeL a (b :: l)).read a = b := Memory.read_writeL_at (b :: l) m a 0 (Nat.zero_lt_succ _)
    rw [List.length_cons, Memory.readN, hhead, Memory.writeL, ih]

theorem Memory.readLE_writeLE (m : Memory) (a n v : Nat) : (m.writeLE a n v).readLE a n = v % 2 ^ (8 * n) := by
  have h := Memory.readN_writeL (octetsLE n v) m a
  rw [length_octetsLE] at h
  rw [Memory.readLE, Memory.writeLE, h, ofOctetsLE_octetsLE]

theorem Memory.read_writeLE_other (m : Memory) {a n c : Nat} (v : Nat) (h : c < a ∨ a + n ≤ c) :
    (m.writeLE a n v).read c = m.read c :=
  Memory.read_writeL_other _ m a c (by rwa [length_octetsLE])

/-! ## One instruction that completes (R293, R308) -/

section
variable {op w : Nat} {y y' : Cycle} {s u : State} {f : TabFn}

/-- The running task's instruction is executed where it is the word it stands at and no breakpoint holds it. -/
theorem State.tabRun_atInstr (h : AtInstr op w y s) : s.tabRun op f w = s.tabExec y f w := by
  obtain ⟨hrun, -, hlen, hword, hbp⟩ := h
  have hheld : (if y.skipBp then none else s.breakpoint y.task y.pc) = none := by
    rcases hbp with hskip | hnone
    · rw [if_pos hskip]
    · rw [hnone, ite_self]
  simp only [State.tabRun, hrun, hword, hheld, Nat.not_le.mpr hlen, ne_eq, not_true_eq_false, or_self, if_false]

theorem State.tabExec_ok (hf : f w (nextPc y) s = .ok (y', u)) (he : y'.ended = false) :
    s.tabExec y f w = u.setScan { u.scan with cyc := some y' } := by
  have hf' : f w { y with pc := (y.pc + 1) % 2 ^ 18, skipBp := false } s = .ok (y', u) := hf
  simp only [State.tabExec, hf', he, Bool.false_eq_true, false_and, if_false]

/-- An instruction that completes short of the cycle's end: its effect on the machine, with the cycle it leaves. -/
theorem State.tabRun_ok (h : AtInstr op w y s) (hf : f w (nextPc y) s = .ok (y', u)) (he : y'.ended = y.ended) :
    s.tabRun op f w = u.setScan { u.scan with cyc := some y' } :=
  (State.tabRun_atInstr h).trans (State.tabExec_ok hf (he.trans h.2.1))

end

/-- A command that only replaces the running cycle leaves every register field and octet as it was. -/
theorem finish_setScan_cycleIs (s : State) (y' : Cycle) :
    ∃ t, finish s (s.setScan { s.scan with cyc := some y' }) = .next t ∧ CycleIs s t y' := by
  refine finish_has ⟨?_, fun g hg _ => finish_rd _ _ g hg, fun x => ?_⟩
  · simp
  · simp only [State.rd8, State.settle_mem, State.setScan_mem]

/-- A command that replaces the running cycle and stores a number leaves everything else as it was. -/
theorem finish_wrMem_setScan_cycleStored (s : State) (y' : Cycle) (a n v : Nat) :
    ∃ t, finish s ((s.wrMem a n v).setScan { s.scan with cyc := some y' }) = .next t ∧ CycleStored s t y' a n v := by
  refine finish_has ⟨?_, fun g hg _ => finish_rd _ _ g hg, ?_, fun x hx => ?_⟩
  · simp
  · simp only [State.rdMem, State.settle_mem, State.setScan_mem]
    exact s.mem.readLE_writeLE a n v
  · simp only [State.rd8, State.settle_mem, State.setScan_mem]
    exact congrArg BitVec.toNat (s.mem.read_writeLE_other v hx)

/-! ## Format B (R304) -/

section
variable {op w a : Nat} {y : Cycle} {s : State} {wr c b : Bool} {f : Bool → Bool → Bool × Option Bool}
  (ha : tabAddr y (bits w 21 3) (bits w 3 18) 1 1 0 (b2n wr) = .ok a)
include ha

theorem tabBit_keeps (hf : f y.c (bitAt (s.rd8 a) (bits w 0 3)) = (c, none)) :
    tabBit wr f w (nextPc y) s = .ok ({ nextPc y with c := c }, s) := by
  have ha' : tabAddr (nextPc y) (bits w 21 3) (bits w 3 18) 1 1 0 (b2n wr) = .ok a := ha
  have hf' : f (nextPc y).c (bitAt (s.rd8 a) (bits w 0 3)) = (c, none) := hf
  simp only [tabBit, ha', hf']

theorem tabBit_writes (hf : f y.c (bitAt (s.rd8 a) (bits w 0 3)) = (c, some b)) :
    tabBit wr f w (nextPc y) s =
      .ok ({ nextPc y with c := c }, s.wrMem a 1 (setBit (s.rd8 a) (bits w 0 3) b)) := by
  have ha' : tabAddr (nextPc y) (bits w 21 3) (bits w 3 18) 1 1 0 (b2n wr) = .ok a := ha
  have hf' : f (nextPc y).c (bitAt (s.rd8 a) (bits w 0 3)) = (c, some b) := hf
  simp only [tabBit, ha', hf']

variable (h : AtInstr op w y s)
include h

/-- A bit instruction that writes no bit changes C alone. -/
theorem finish_tabBit_cycleIs (hf : f y.c (bitAt (s.rd8 a) (bits w 0 3)) = (c, none)) :
    ∃ t, finish s (s.tabRun op (tabBit wr f) w) = .next t ∧ CycleIs s t { nextPc y with c := c } := by
  rw [State.tabRun_ok h (tabBit_keeps ha hf) rfl]
  exact finish_setScan_cycleIs s _

/-- A bit instruction that writes `b` changes C and that bit of its octet. -/
theorem finish_tabBit_cycleStored (hf : f y.c (bitAt (s.rd8 a) (bits w 0 3)) = (c, some b)) :
    ∃ t, finish s (s.tabRun op (tabBit wr f) w) = .next t ∧
      CycleStored s t { nextPc y with c := c } a 1 (setBit (s.rd8 a) (bits w 0 3) b) := by
  rw [State.tabRun_ok h (tabBit_writes ha hf) rfl]
  exact finish_wrMem_setScan_cycleStored s _ a 1 _

end

/-- Settles O34: the meaning of each instruction is format B with its function of C and the bit, and that function says
whether the bit is written; for BSET and BCLR, whether it is depends on C. -/
theorem tabBits : Obligations.TabBits := by
  refine fun w y a s => ⟨fun hread => ⟨?bld, ?bldn, ?band, ?bandn, ?bor, ?born, ?bxor, ?bxorn⟩,
    fun hwrite => ⟨?bst, ?bstn, ?bset, ?bclr, ?brise, ?bfall⟩⟩
  case bld | bldn | band | bandn | bor | born | bxor | bxorn =>
    exact fun h => finish_tabBit_cycleIs (wr := false) hread h rfl
  case bst | bstn | brise | bfall =>
    exact fun h => finish_tabBit_cycleStored (wr := true) hwrite h rfl
  case bset | bclr =>
    refine fun h => ⟨fun hc => ?_, fun hc => ?_⟩
    · exact finish_tabBit_cycleStored (wr := true) hwrite h (by rw [hc]; rfl)
    · exact finish_tabBit_cycleIs (wr := true) hwrite h (by rw [hc]; rfl)

end Sys2Proof.Machine
end

section
/-!
PROOFS. The queue of commands and the machine after reset: the step's two cases, that every command ends by settling, and
what the parts of an idle step leave in the queue.
-/
namespace Sys2Proof.Machine

/-! ## The step -/

theorem step_of_cons {c : Instr} {rest : List Instr} {s : State} (h : s.pending = c :: rest) :
    step s = exec c { s with pending := rest } := by
  rw [step, h]

theorem step_of_nil {s : State} (h : s.pending = []) : step s = .next s.chainsRun := by
  rw [step, h]

/-- Settles O1: it is the step's case of a queue that is not empty. -/
theorem stepRunsFront : Obligations.StepRunsFront := fun _ _ _ h => step_of_cons h

/-- Every command is one act of its unit, ended by `finish`. -/
theorem exec_eq_finish (c : Instr) (s : State) : ∃ u, exec c s = finish s u := by
  cases c <;> exact ⟨_, rfl⟩

theorem exec_next (c : Instr) (s : State) : ∃ t, exec c s = .next t ∧ t.pending = s.pending := by
  obtain ⟨u, hu⟩ := exec_eq_finish c s
  exact ⟨_, hu.trans (finish_next s u), rfl⟩

end Sys2Proof.Machine
namespace Sys2Proof.Machine
/-! ## The parts of a chain read leave the queue of commands alone -/

@[simp] theorem State.send_pending (s : State) (w : FWord) : (s.send w).pending = s.pending := rfl
@[simp] theorem State.setReads_pending (s : State) (l : List ChainRead) : (s.setReads l).pending = s.pending := rfl
@[simp] theorem State.setTag_pending (s : State) (c : Nat) (t : CellTag) : (s.setTag c t).pending = s.pending := rfl
@[simp] theorem State.setDesc_pending (s : State) (q : Nat) (d : Desc) : (s.setDesc q d).pending = s.pending := rfl
@[simp] theorem State.pcnt_pending (s : State) (k i : Nat) : (s.pcnt k i).pending = s.pending := rfl
@[simp] theorem State.endClaim_pending (s : State) (cl : Claim) : (s.endClaim cl).pending = s.pending := rfl
@[simp] theorem State.tagErrorAt_pending (s : State) (q c : Nat) : (s.tagErrorAt q c).pending = s.pending := rfl
@[simp] theorem State.result_pending (s : State) (k p t st r q n : Nat) : (s.result k p t st r q n).pending = s.pending :=
  rfl

@[simp] theorem State.tagRead_pending (s : State) (k q c : Nat) : (s.tagRead k q c).pending = s.pending := by
  unfold State.tagRead
  split <;> rfl

@[simp] theorem State.quarantineCells_pending (s : State) (n : Nat) : (s.quarantineCells n).pending = s.pending := by
  unfold State.quarantineCells
  split <;> rfl

@[simp] theorem State.pushChain_pending (s : State) (a b n : Nat) : (s.pushChain a b n).pending = s.pending := by
  unfold State.pushChain
  split <;> rfl

/-- A fold whose every step leaves the queue alone leaves it alone. -/
theorem foldl_pending {α : Type} {f : State → α → State} (h : ∀ s a, (f s a).pending = s.pending) (l : List α) (s : State) :
    (l.foldl f s).pending = s.pending := by
  induction l generalizing s with
  | nil => rfl
  | cons a l ih => exact (ih (f s a)).trans (h s a)

@[simp] theorem State.stopReads_pending (s : State) (cl : Claim) (st : Nat) : (s.stopReads cl st).pending = s.pending :=
  foldl_pending (fun t _ => t.send_pending _) _ _

@[simp] theorem State.commit_pending (s : State) (b : Nat) : (s.commit b).pending = s.pending := by
  simp only [State.commit, State.commitSel]
  split
  · rfl
  · exact (State.wr_pending ..).trans (foldl_pending (f := State.applyShadow) (fun _ _ => rfl) _ s)

@[simp] theorem State.boundary_pending (s : State) (q : Nat) : (s.boundary q).pending = s.pending := by
  unfold State.boundary
  split
  · rfl
  · rw [State.commit_pending]
    split <;> rfl

@[simp] theorem State.releaseFor_pending (s : State) (cl : Claim) (t : Nat) : (s.releaseFor cl t).pending = s.pending := by
  simp [State.releaseFor, State.releaseClaim]

@[simp] theorem State.readEnded_pending (s : State) (r : ChainRead) : (s.readEnded r).pending = s.pending := by
  unfold State.readEnded
  split
  · split
    · exact s.releaseFor_pending ..
    · rfl
  · rfl

theorem State.readCell_pending (s : State) (r : ChainRead) : (s.readCell r).2.pending = s.pending := by
  unfold State.readCell
  extract_lets cl c k src tg d1 d2 d3 _ d4 d5 t1 lanes _ t2 t3
  split
  · have h : d5.pending = s.pending := by simp [d5, d4, d3, d2, d1]
    cases r.release with
    | none => exact h
    | some t => exact (d5.result_pending ..).trans h
  · have h : t3.pending = s.pending := by
      simp only [t3, t2, State.send_pending]
      split <;> simp [t1]
    split
    · exact (t3.readEnded_pending r).trans h
    · exact h

theorem State.readRun_pending (n : Nat) (s : State) (r : ChainRead) : (s.readRun r n).pending = s.pending := by
  induction n generalizing s r with
  | zero => rfl
  | succ n ih =>
    have hcell := s.readCell_pending r
    rw [State.readRun]
    split
    · rename_i h
      rw [h] at hcell
      exact (ih _ _).trans hcell
    · rename_i h
      rwa [h] at hcell

theorem State.chainsRun_pending (s : State) : s.chainsRun.pending = s.pending := by
  unfold State.chainsRun
  split
  · rfl
  · exact State.readRun_pending _ _ _

theorem State.chainsRun_of_no_reads {s : State} (h : s.peg.reads = []) : s.chainsRun = s := by
  rw [State.chainsRun, h]

/-- Settles O2: an empty queue stays empty through the chain read that log entry 81 lets go on. -/
theorem queueIsKept : Obligations.QueueIsKept :=
  ⟨fun s h => ⟨step_of_nil h, s.chainsRun_pending.trans h,
      fun hr => (step_of_nil h).trans (congrArg _ (State.chainsRun_of_no_reads hr))⟩,
    exec_next⟩

/-! ## The machine after reset -/

/-- After reset every register field that is no RUN bit reads its Reset value: `regs` holds the RUN bits of the island's
blocks alone. -/
theorem State.reset_rd {g : Fld} (h : notRun g.key) : State.reset.rd g = g.reset := by
  have hpwr : g.key ≠ 0x4001FF00 * 32 := h bPWR (by decide)
  have hrtc : g.key ≠ 0x4013FF00 * 32 := h bRTC (by decide)
  have hkey : g.key ≠ 0x4014FF00 * 32 := h bKEY (by decide)
  simp only [State.rd, State.reset, AMap.get, AMap.find, if_neg hpwr, if_neg hrtc, if_neg hkey, Option.getD_none]

theorem State.reset_runsAsSaid : RunsAsSaid State.reset := by
  unfold RunsAsSaid
  decide

/-- Settles O3. -/
theorem resetLeaves : Obligations.ResetLeaves :=
  ⟨fun _ h => State.reset_rd h, by decide, rfl, rfl, rfl, rfl, rfl, rfl, by decide⟩

/-- Settles O4. -/
theorem resetInvariants : Obligations.ResetInvariants := ⟨State.reset_runsAsSaid, rfl⟩

end Sys2Proof.Machine
end

section
/-!
PROOFS. The step's outcome (R39): how every command ends, what settling makes of RUN, and a state at which an idle step
breaks it.
-/
namespace Sys2Proof.Machine

/-- The number that names, in the array PEG_CLAIM_USE, the address of RTC's STATE register: no port has it. -/
def strayPort : Nat := 261856

theorem strayPort_claimUse : (F.PEG_CLAIM_USE_USE strayPort).key = (F.STATE_RUN bRTC).key := by decide

/-- The machine after reset, but for one chain read in progress at the last cell of its packet, with a RELEASE waiting for
its end; the claim's port is `strayPort`. -/
def strayReadState : State :=
  { State.reset with
    peg := { PegState.start with
      tags := [(0, ⟨1, true, 0, true, 0, .none⟩)]
      reads := [⟨0, ⟨0, 0, strayPort, false, 0, 0, 1, 64, 0, false⟩, 0, 0, [], some 0⟩] } }

theorem strayReadState_runsAsSaid : RunsAsSaid strayReadState := by
  unfold RunsAsSaid
  decide

/-- The island is powered, and the end of the read's claim has lowered what stands at RUN of RTC. -/
theorem strayReadState_chainsRun_rtc :
    strayReadState.chainsRun.run bRTC = false ∧ strayReadState.chainsRun.runsAs bRTC = true := by
  decide

/-- Refutes O5: the state is any state that meets RunsAsSaid, and one with a claim of a port beyond 31 may have the count
of that port's claims at the place of another block's RUN. The idle step that ends such a claim writes RUN and does not
settle. -/
theorem not_stepKeepsRuns : ¬ Obligations.StepKeepsRuns := by
  intro h
  obtain ⟨hruns, -⟩ := h strayReadState strayReadState.chainsRun strayReadState_runsAsSaid rfl
  obtain ⟨hrun, hshould⟩ := strayReadState_chainsRun_rtc
  have hrtc := hruns bRTC (by decide)
  rw [hrun, hshould] at hrtc
  exact Bool.noConfusion hrtc

end Sys2Proof.Machine
end

section
/-!
PROOFS. Register writes (R41 to R43): which keys are no RUN bit, what a rejected write leaves, and how an accepted one
takes its fields.
-/
namespace Sys2Proof.Machine

/-! ## Keys of fields -/

/-- Only the STATE register, at offset 0xFF00 of each block, holds a RUN bit. -/
theorem notRun_of_offset {a lo : Nat} (ha : a % 0x10000 ≠ 0xFF00) (hlo : lo < 32) : notRun (a * 32 + lo) := by
  intro b _ h
  simp only [Fld.key, F.STATE_RUN] at h
  omega

theorem Fld.key_ne_of_addr {f g : Fld} (hf : f.lo < 32) (hg : g.lo < 32) (h : f.addr ≠ g.addr) : f.key ≠ g.key := by
  simp only [Fld.key]
  omega

/-- A field that is no RUN bit reads after an answered access as it did before. -/
theorem State.answered_rd (t : State) (req a st v : Nat) {g : Fld} (h : notRun g.key) :
    (t.answered req a st v).rd g = t.rd g :=
  t.answered_regsKept req a st v g h (by simp)

theorem State.answered_rdReq (t : State) (req a st v r : Nat) (g : Fld) :
    (t.answered req a st v).rdReq r g = t.rdReq r g := by
  simp only [State.rdReq, State.answered_reqRegs]

theorem exec_registerWrite_of_regWrite {req : Fin 36} {addr : BitVec 40} {v : BitVec 32} {s t : State} {st : Nat}
    (hup : s.addrUp addr.toNat = true) (h : s.regWrite req addr.toNat v.toNat WriteMore.none = (st, t))
    (hp : t.pending = s.pending) :
    exec (.registerWrite req addr 4 v) s = .next (t.answered req addr.toNat st 0) := by
  refine exec_registerWrite_of_regWriteSized ?_ hp
  simp [State.regWriteSized, hup, h]

theorem regBlock_lt {a b off : Nat} (h : regBlock a = some (b, off)) : b < 26 ∧ off < 0x10000 ∧ a = blockBase b + off := by
  unfold regBlock at h
  split at h
  · simp only [Option.some.injEq, Prod.mk.injEq] at h
    unfold blockBase
    omega
  · cases h

/-! ## A rejected write (R41) -/

section
variable (s : State) (b off n : Nat)

@[simp] theorem State.reject_pending : (s.reject b off n).pending = s.pending := by
  unfold State.reject
  split <;> rfl

@[simp] theorem State.reject_mem : (s.reject b off n).mem = s.mem := by
  unfold State.reject
  split <;> rfl

@[simp] theorem State.reject_out : (s.reject b off n).out = s.out := by
  unfold State.reject
  split <;> rfl

@[simp] theorem State.reject_shadow : (s.reject b off n).shadow = s.shadow := by
  unfold State.reject
  split <;> rfl

@[simp] theorem State.reject_reqRegs : (s.reject b off n).reqRegs = s.reqRegs := by
  unfold State.reject
  split <;> rfl

theorem State.reject_regsKept :
    RegsKept [F.FRET_CFG_REJECT_COUNT, F.CFG_REJECT_COUNT b, F.REJECT_LAST_REASON b, F.REJECT_LAST_OFFSET b] s
      (s.reject b off n) := by
  intro g _ hne
  simp only [List.mem_cons, List.not_mem_nil, or_false, forall_eq_or_imp, forall_eq] at hne
  obtain ⟨hfret, hcnt, hreason, hoffset⟩ := hne
  unfold State.reject
  split <;> simp [State.rd_wr_other, hfret, hcnt, hreason, hoffset]

theorem State.reject_offset (h : off < 0x10000) : (s.reject b off n).rd (F.REJECT_LAST_OFFSET b) = off := by
  simp only [State.reject, State.rd_wr_same]
  exact Nat.mod_eq_of_lt h

theorem State.reject_reason (h : n < 16) : (s.reject b off n).rd (F.REJECT_LAST_REASON b) = n := by
  rw [State.reject, State.rd_wr_other _ _ (by simp [Fld.key, F.REJECT_LAST_REASON, F.REJECT_LAST_OFFSET]),
    State.rd_wr_same]
  exact Nat.mod_eq_of_lt h

end

theorem satInc_le (m v : Nat) : satInc m v ≤ m := by
  unfold satInc
  split <;> omega

/-- The REJECT_LAST register is not the register that counts the rejected write. -/
theorem State.reject_count (s : State) {b off n : Nat} {g : Fld}
    (hg : s.reject b off n = (((s.incSat g).wr (F.REJECT_LAST_REASON b) n).wr (F.REJECT_LAST_OFFSET b) off))
    (hlo : g.lo < 32) (ha : g.addr ≠ 0x40000000 + 0x10000 * b + 0xFF08) :
    (s.reject b off n).rd g = satInc (2 ^ g.width - 1) (s.rd g) := by
  rw [hg, State.rd_wr_other _ _ (Fld.key_ne_of_addr hlo (by simp [F.REJECT_LAST_OFFSET]) ha),
    State.rd_wr_other _ _ (Fld.key_ne_of_addr hlo (by simp [F.REJECT_LAST_REASON]) ha), State.incSat_eq, State.rd_wr_same]
  exact Nat.mod_eq_of_lt ((satInc_le _ _).trans_lt (by have := Nat.two_pow_pos g.width; omega))

theorem State.reject_fretCount (s : State) (off n : Nat) :
    (s.reject bFRET off n).rd F.FRET_CFG_REJECT_COUNT = satInc (2 ^ 32 - 1) (s.rd F.FRET_CFG_REJECT_COUNT) :=
  s.reject_count rfl (by decide) (by decide)

theorem State.reject_blockCount (s : State) {b : Nat} (off n : Nat) (hb : b ≠ bFRET) :
    (s.reject b off n).rd (F.CFG_REJECT_COUNT b) = satInc (2 ^ 32 - 1) (s.rd (F.CFG_REJECT_COUNT b)) :=
  s.reject_count (by rw [State.reject, if_neg hb]) (by simp [F.CFG_REJECT_COUNT]) (by simp [F.CFG_REJECT_COUNT])

theorem State.writeReason_le (s : State) (req a b : Nat) (r : RegDef) (ix : List Nat) (v : Nat) :
    s.writeReason req a b r ix v ≤ 3 := by
  unfold State.writeReason
  extract_lets
  repeat' split
  all_goals omega

/-- A static field that cannot change now is looked for first. -/
theorem State.writeReason_static (s : State) {req a b : Nat} {r : RegDef} {ix : List Nat} {v : Nat}
    (h : ∃ f ∈ r.written, f.tag = .s ∧ s.staticNow b r.off (ix.headD 0) = true ∧
      bits v f.lo f.width ≠ s.rd (s.fieldFor req a ix f)) : s.writeReason req a b r ix v = 1 := by
  unfold State.writeReason
  extract_lets
  refine if_pos (List.any_eq_true.mpr ?_)
  obtain ⟨f, hf, htag, hnow, hne⟩ := h
  exact ⟨f, hf, by simpa [htag] using ⟨hnow, hne⟩⟩

/-- Settles O8: the write leaves the reject registers of its block written, and its answer. -/
theorem rejectedWriteDoesNothing : Obligations.RejectedWriteDoesNothing := by
  intro req addr v s b off r ix hup hal hblk hreg hq hreason
  obtain ⟨hb, hoff, -⟩ := regBlock_lt hblk
  have hw := s.regWrite_reject (x := WriteMore.none) hup hal hblk hreg hq hreason
  have hle := s.writeReason_le req addr.toNat b r ix v.toNat
  refine ⟨⟨_, exec_registerWrite_of_regWrite hup hw (State.reject_pending ..), ?_, ?_, ?_, ?_, ?_, ?_, ?_, ?_, ?_⟩,
    s.writeReason_static⟩
  · simp
  · exact (State.answered_rd _ _ _ _ _ (notRun_of_offset (by simp [F.REJECT_LAST_REASON]; omega) (by simp [F.REJECT_LAST_REASON]))).trans
      (s.reject_reason b off _ (by omega))
  · exact (State.answered_rd _ _ _ _ _ (notRun_of_offset (by simp [F.REJECT_LAST_OFFSET]; omega) (by simp [F.REJECT_LAST_OFFSET]))).trans
      (s.reject_offset b off _ hoff)
  · rintro rfl
    exact (State.answered_rd _ _ _ _ _ (notRun_of_offset (by decide) (by decide))).trans (s.reject_fretCount off _)
  · intro hfret
    exact (State.answered_rd _ _ _ _ _ (notRun_of_offset (by simp [F.CFG_REJECT_COUNT]; omega) (by simp [F.CFG_REJECT_COUNT]))).trans
      (s.reject_blockCount off _ hfret)
  · exact fun g hg hne => (State.answered_rd _ _ _ _ _ hg).trans (s.reject_regsKept b off _ g hg hne)
  · intro x
    simp only [State.rd8, State.answered_mem, State.reject_mem]
  · simp
  · simp

end Sys2Proof.Machine
end

section
/-!
PROOFS. Accepted register writes (R42, R43): the fields of a register take their parts of the word one after another, each
as its Access and Commit columns say, and a register without WO fields orders nothing.
-/
namespace Sys2Proof.Machine

/-! ## One field -/

theorem State.withShadow_rd (s : State) (m : AMap Nat) (g : Fld) : State.rd { s with shadow := m } g = s.rd g := rfl

section
variable (s : State) (req b : Nat) (g : Fld) (f : FieldDef) (x : Nat)

@[simp] theorem State.recordP_rd (k : Nat) (h : Fld) : (s.recordP f k x).rd h = s.rd h := by
  unfold State.recordP
  split <;> rfl

/-- What writing one field leaves as it was, whatever the field's columns say. -/
theorem State.putField_frame :
    (s.putField req b g f x).mem = s.mem ∧ (s.putField req b g f x).pending = s.pending ∧
      (s.putField req b g f x).out = s.out := by
  unfold State.putField State.recordP
  repeat' split
  all_goals exact ⟨rfl, rfl, rfl⟩

theorem State.putField_rd_other {h : Fld} (hne : h.key ≠ g.key) : (s.putField req b g f x).rd h = s.rd h := by
  unfold State.putField
  repeat' split
  all_goals simp [State.rd_wr_other _ _ hne, State.withShadow_rd]

theorem State.putField_shadow_other {k : Nat} (hne : k ≠ g.key) :
    (s.putField req b g f x).shadow.find k = s.shadow.find k := by
  unfold State.putField State.recordP
  repeat' split
  all_goals simp [AMap.find_set_other _ _ hne, AMap.find_erase_other _ hne]

theorem State.putField_rdReq_other {h : Fld} (hne : h.key ≠ g.key) :
    (s.putField req b g f x).rdReq req h = s.rdReq req h := by
  have hk : reqKey req h.key ≠ reqKey req g.key := fun e => hne (Nat.add_left_cancel e)
  unfold State.putField State.recordP
  repeat' split
  all_goals simp [State.rdReq, State.wrReq, AMap.get_set_other _ _ _ hk]

end

/-- What a field of Access RW holds of the word's part `x` after the write, `was` being the state before: the requester's
own value, the shadow copy, or the active value. -/
def FieldTook (req b : Nat) (g : Fld) (f : FieldDef) (x : Nat) (was t : State) : Prop :=
  (f.perReq = true → t.rdReq req g = x) ∧
  (f.perReq = false → f.tag = .h → was.run b = true → t.shadow.find g.key = some x ∧ t.rd g = was.rd g) ∧
  (f.perReq = false → f.tag ≠ .h ∨ was.run b = false → t.rd g = x ∧ t.shadow.find g.key = none)

theorem State.putField_took (s : State) (req b : Nat) (g : Fld) {f : FieldDef} {x : Nat} (hacc : f.acc = .rw)
    (hx : x % 2 ^ g.width = x) : FieldTook req b g f x s (s.putField req b g f x) := by
  refine ⟨fun hper => ?_, fun hper htag hrun => ?_, fun hper hnow => ?_⟩
  · simp [State.putField, hacc, hper, State.rdReq, State.wrReq, hx]
  · simp [State.putField, hacc, hper, htag, hrun, AMap.find_set_same, State.withShadow_rd]
  · have hnot : ¬ (f.tag = .h ∧ s.run b = true) := by
      rintro ⟨htag, hrun⟩
      rcases hnow with h | h
      · exact h htag
      · rw [hrun] at h
        exact Bool.noConfusion h
    simp only [State.putField, hacc, hper, hnot, Bool.false_eq_true, if_false, State.recordP_rd, State.rd_wr_same, hx,
      true_and]
    unfold State.recordP
    split <;> simp

/-- What a field took stays where no later write names its key. -/
theorem FieldTook.mono {req b x : Nat} {g : Fld} {f : FieldDef} {was t u : State} (h : FieldTook req b g f x was t)
    (hrd : u.rd g = t.rd g) (hsh : u.shadow.find g.key = t.shadow.find g.key) (hreq : u.rdReq req g = t.rdReq req g) :
    FieldTook req b g f x was u := by
  unfold FieldTook
  rw [hrd, hsh, hreq]
  exact h

/-- A field that reads before the write as it did in the state `was` took its part from `was`. -/
theorem FieldTook.from {req b x : Nat} {g : Fld} {f : FieldDef} {was s t : State} (h : FieldTook req b g f x s t)
    (hrun : s.run b = was.run b) (hrd : s.rd g = was.rd g) : FieldTook req b g f x was t := by
  unfold FieldTook
  rw [← hrun, ← hrd]
  exact h

/-! ## The fields of a register -/

/-- The fields of `l` at address `a` take their parts of `v`, in turn. -/
def State.putList (s : State) (req a b : Nat) (ix : List Nat) (v : Nat) (l : List FieldDef) : State :=
  l.foldl (fun t f => t.putField req b (f.at a ix) f (bits v f.lo f.width)) s

theorem State.putFields_eq_putList (s : State) (req b v : Nat) (r : RegDef) (ix : List Nat) {a : Nat} (ha : a ≠ 0x400D0024) :
    s.putFields req a b r ix v = s.putList req a b ix v r.flds := by
  simp only [State.putFields, State.putList, State.fieldFor, if_neg ha]

section
variable (req a b : Nat) (ix : List Nat) (v : Nat)

theorem State.putList_frame (l : List FieldDef) (s : State) :
    (s.putList req a b ix v l).mem = s.mem ∧ (s.putList req a b ix v l).pending = s.pending ∧
      (s.putList req a b ix v l).out = s.out := by
  induction l generalizing s with
  | nil => exact ⟨rfl, rfl, rfl⟩
  | cons f l ih =>
    obtain ⟨hm, hp, ho⟩ := ih (s.putField req b (f.at a ix) f (bits v f.lo f.width))
    obtain ⟨hm', hp', ho'⟩ := s.putField_frame req b (f.at a ix) f (bits v f.lo f.width)
    exact ⟨hm.trans hm', hp.trans hp', ho.trans ho'⟩

/-- A field whose key no field of `l` has is left alone. -/
theorem State.putList_other {g : Fld} (l : List FieldDef) (s : State) (h : ∀ f ∈ l, g.key ≠ (f.at a ix).key) :
    (s.putList req a b ix v l).rd g = s.rd g ∧
      (s.putList req a b ix v l).shadow.find g.key = s.shadow.find g.key ∧
      (s.putList req a b ix v l).rdReq req g = s.rdReq req g := by
  induction l generalizing s with
  | nil => exact ⟨rfl, rfl, rfl⟩
  | cons f l ih =>
    have hf := h f List.mem_cons_self
    obtain ⟨hrd, hsh, hreq⟩ := ih (s.putField req b (f.at a ix) f (bits v f.lo f.width))
      (fun e he => h e (List.mem_cons_of_mem f he))
    exact ⟨hrd.trans (s.putField_rd_other _ _ _ _ _ hf), hsh.trans (s.putField_shadow_other _ _ _ _ _ hf),
      hreq.trans (s.putField_rdReq_other _ _ _ _ _ hf)⟩

theorem FieldDef.at_key_ne {f e : FieldDef} (h : f.lo ≠ e.lo) : (f.at a ix).key ≠ (e.at a ix).key := by
  simp only [FieldDef.at, Fld.key]
  omega

theorem bits_mod_two_pow (f : FieldDef) : bits v f.lo f.width % 2 ^ (f.at a ix).width = bits v f.lo f.width := by
  simp [bits, FieldDef.at]

/-- Every RW field of a register whose fields start at different bits, none of them a RUN bit, takes its part. -/
theorem State.putList_took (l : List FieldDef) (s : State) (hlo : (l.map FieldDef.lo).Nodup)
    (hrun : ∀ f ∈ l, (F.STATE_RUN b).key ≠ (f.at a ix).key) {f : FieldDef} (hf : f ∈ l) (hacc : f.acc = .rw) :
    FieldTook req b (f.at a ix) f (bits v f.lo f.width) s (s.putList req a b ix v l) := by
  induction l generalizing s with
  | nil => cases hf
  | cons e l ih =>
    simp only [List.map_cons, List.nodup_cons, List.mem_map, not_exists, not_and] at hlo
    obtain ⟨hnew, hlo⟩ := hlo
    have hstep : s.putList req a b ix v (e :: l) =
        (s.putField req b (e.at a ix) e (bits v e.lo e.width)).putList req a b ix v l := rfl
    rw [hstep]
    rcases List.mem_cons.mp hf with rfl | hmem
    · obtain ⟨hrd, hsh, hreq⟩ := State.putList_other req a b ix v l (s.putField req b (f.at a ix) f (bits v f.lo f.width))
        (g := f.at a ix) (fun e he => FieldDef.at_key_ne a ix (fun h => hnew e he h.symm))
      exact (s.putField_took req b _ hacc (bits_mod_two_pow a ix v f)).mono hrd hsh hreq
    · have hne : f.lo ≠ e.lo := hnew f hmem
      refine (ih (s.putField req b (e.at a ix) e (bits v e.lo e.width)) hlo
        (fun d hd => hrun d (List.mem_cons_of_mem e hd)) hmem).from ?_ ?_
      · simp only [State.run, State.isSet]
        rw [s.putField_rd_other _ _ _ _ _ (hrun e List.mem_cons_self)]
      · exact s.putField_rd_other _ _ _ _ _ (FieldDef.at_key_ne a ix hne)

end

/-! ## The tables -/

theorem findReg_mem {l : List RegDef} {off : Nat} {r : RegDef} {ix : List Nat} (h : findReg l off = some (r, ix)) : r ∈ l := by
  induction l with
  | nil => cases h
  | cons e l ih =>
    unfold findReg at h
    split at h
    · split at h
      · cases h
        exact List.mem_cons_self
      · exact List.mem_cons_of_mem _ (ih h)
    · exact List.mem_cons_of_mem _ (ih h)

/-- A register that an address names stands in its block's table, or in the one that every block has. -/
theorem lookupReg_mem {a b off : Nat} {r : RegDef} {ix : List Nat} (hb : regBlock a = some (b, off))
    (h : lookupReg a = some (r, ix)) : r ∈ blockRegs b ++ regsCommon := by
  simp only [lookupReg, hb] at h
  split at h
  · exact List.mem_append_right _ (findReg_mem h)
  · exact List.mem_append_left _ (findReg_mem h)

/-- The blocks whose chapters add nothing to a write of a register without WO fields. -/
def plainBlocks : List Nat := [bSYS, bTUNE, bPEG, bNODE, bCAPO, bTIME, bRESTR, bREC, bLEDGER, bIO]

/-- The fields of a register start at different bits, all below 32. -/
theorem plainBlocks_fields : ∀ b ∈ plainBlocks, ∀ r ∈ blockRegs b ++ regsCommon,
    (r.flds.map FieldDef.lo).Nodup ∧ ∀ f ∈ r.flds, f.lo < 32 := by
  decide

/-- The registers, by block and offset, that a written word makes act. -/
def actRegs : List (Nat × Nat) :=
  [(bSYS, 0x00D4), (bSYS, 0x00D8), (bPWR, 0x0100), (bPWR, 0x0404), (bFRET, 0x0100), (bPEG, 0x0000), (bPEG, 0x003C),
   (bPEG, 0x0044), (bMOVER, 0x0108), (bFRAD, 0x00C0), (bNODE, 0x001C), (bGAUGE, 0x0000), (bGAUGE, 0x0020),
   (bSOUND, 0x0018), (bSCAN, 0x0008), (bLAMP, 0x0010), (bLAMP, 0x0038), (bRINGA, 0x0050), (bRINGB, 0x0050),
   (bCAPO, 0x000C), (bTIME, 0x0044), (bKEY, 0x0004), (bKEY, 0x001C), (bRESTR, 0x0010), (bRESTR, 0x0028),
   (bRESTR, 0x002C), (bRESTR, 0x0034), (bRESTR, 0x0040), (bREC, 0x0000), (bREC, 0x0020), (bLEDGER, 0x0000)]

theorem State.regAct_none (s : State) (req i v : Nat) (x : WriteMore) {b off : Nat} (h : (b, off) ∉ actRegs) :
    s.regAct req b off i v x = (stOK, s) := by
  simp only [actRegs, List.mem_cons, Prod.mk.injEq, List.not_mem_nil, or_false, not_or] at h
  simp [State.regAct, acted, h]

/-- A register that acts has a WO field. -/
theorem plainBlocks_act : ∀ b ∈ plainBlocks, ∀ r ∈ blockRegs b ++ regsCommon,
    (b, r.off) ∈ actRegs → r.flds.any (fun f => f.acc == .wo) = true := by
  decide

theorem State.afterWrite_plain (s was : State) (req off i : Nat) {b : Nat} (hb : b ∈ plainBlocks) :
    s.afterWrite was req b off i = s := by
  have hne : ∀ c ∈ plainBlocks, c ∉ [bPWR, bMOVER, bFPLC, bFRAD, bSYM, bGAUGE, bSOUND, bSCAN, bLAMP, bRINGA, bRINGB,
      bHCP, bRTC, bKEY, bSLOT] := by decide
  have h := hne b hb
  simp only [List.mem_cons, List.not_mem_nil, or_false, not_or] at h
  simp [State.afterWrite, h]

/-- An accepted write of a register of these blocks without WO fields sets its fields and no more. -/
theorem State.applyWrite_plain (s : State) (req v : Nat) {a b off : Nat} {r : RegDef} (ix : List Nat) (hb : b ∈ plainBlocks)
    (hblk : regBlock a = some (b, off)) (hr : r ∈ blockRegs b ++ regsCommon)
    (hwo : r.flds.all (fun f => f.acc != .wo) = true) :
    s.applyWrite req a b r ix v WriteMore.none = (stOK, s.putList req a b ix v r.flds) := by
  have hact : (b, r.off) ∉ actRegs := by
    intro hmem
    obtain ⟨f, hf, hacc⟩ := List.any_eq_true.mp (plainBlocks_act b hb r hr hmem)
    have := List.all_eq_true.mp hwo f hf
    simp_all
  have hne : ∀ c ∈ plainBlocks, c ≠ bRTC ∧ c ≠ bRINGA ∧ c ≠ bRINGB ∧ c ≠ bLAMP ∧ c ≠ bHCP := by decide
  obtain ⟨hrtc, hringA, hringB, hlamp, hhcp⟩ := hne b hb
  obtain ⟨-, hoff, ha⟩ := regBlock_lt hblk
  have hlampA : a ≠ 0x400D0024 := by
    rintro rfl
    exact hlamp (by cases hblk; rfl)
  have hhcpA : a ≠ 0x40110000 := by
    rintro rfl
    exact hhcp (by cases hblk; rfl)
  simp only [State.applyWrite, hrtc, hringA, hringB, false_and, or_self, if_false, State.hcpEnWord, hhcpA,
    State.putFields_eq_putList _ _ _ _ _ _ hlampA, State.afterWrite_plain _ _ _ _ _ hb,
    State.regAct_none _ _ _ _ _ hact]

/-- A register with an RW field is not the STATE register, which alone holds a RUN bit. -/
theorem lookupReg_notRun {a b off : Nat} {r : RegDef} {ix : List Nat} (hblk : regBlock a = some (b, off))
    (hreg : lookupReg a = some (r, ix)) {f : FieldDef} (hf : f ∈ r.flds) (hacc : f.acc = .rw) {lo : Nat} (hlo : lo < 32) :
    notRun (a * 32 + lo) := by
  obtain ⟨-, hoff, ha⟩ := regBlock_lt hblk
  refine notRun_of_offset (fun h => ?_) hlo
  have hstate : off = 0xFF00 := by
    unfold blockBase at ha
    omega
  subst hstate
  simp only [lookupReg, hblk] at hreg
  have hsome : findReg regsCommon 0xFF00 = some (r, ix) := hreg
  cases hsome
  simp only [List.mem_cons, List.not_mem_nil, or_false] at hf
  subst hf
  cases hacc

/-- Settles O9: the register's fields take their parts of the word, and the answer is recorded. -/
theorem acceptedWriteTakesEffect : Obligations.AcceptedWriteTakesEffect := by
  intro req addr v s b off r ix hb hup hal hblk hreg hq hwo hreason
  have hr := lookupReg_mem hblk hreg
  obtain ⟨hnodup, hlo⟩ := plainBlocks_fields b hb r hr
  obtain ⟨hmem, hpending, hout⟩ := State.putList_frame req addr.toNat b ix v.toNat r.flds s
  have hw := (s.regWrite_accept (x := WriteMore.none) hup hal hblk hreg hq hreason).trans
    (s.applyWrite_plain req v.toNat ix hb hblk hr hwo)
  refine ⟨_, exec_registerWrite_of_regWrite hup hw hpending, ?_, fun f hf hacc => ?_, fun g hg hne => ?_, fun x => ?_⟩
  · rw [State.answered_out, hout]
  · have hnr : ∀ e ∈ r.flds, notRun (e.at addr.toNat ix).key := fun e he => lookupReg_notRun hblk hreg hf hacc (hlo e he)
    have hb26 := (regBlock_lt hblk).1
    exact (State.putList_took req addr.toNat b ix v.toNat r.flds s hnodup (fun e he => (hnr e he b hb26).symm) hf hacc).mono
      (State.answered_rd _ _ _ _ _ (hnr f hf)) (by rw [State.answered_shadow]) (State.answered_rdReq ..)
  · refine (State.answered_rd _ _ _ _ _ hg).trans (State.putList_other req addr.toNat b ix v.toNat r.flds s ?_).1
    exact fun f hf => hne _ (List.mem_map_of_mem hf)
  · simp only [State.rd8, State.answered_mem, hmem]

end Sys2Proof.Machine
end

section
/-!
PROOFS. The state a command leaves: its effect, settled, with the queue as it was; what is read of it, and the frames of
the statements (Safety.lean) at it.
-/
namespace Sys2Proof.Machine

/-- The state that a command leaves at `s` whose effect is `u`. -/
def State.ended (s u : State) : State := { u.settle with pending := s.pending }

theorem finish_ended (s u : State) : finish s u = .next (s.ended u) := rfl

/-! ## Its parts are the effect's -/

section
variable (s u : State)

@[simp] theorem State.ended_pending : (s.ended u).pending = s.pending := by rw [State.ended]
@[simp] theorem State.ended_shadow : (s.ended u).shadow = u.shadow := by simp [State.ended]
@[simp] theorem State.ended_reqRegs : (s.ended u).reqRegs = u.reqRegs := by simp [State.ended]
@[simp] theorem State.ended_latches : (s.ended u).latches = u.latches := by simp [State.ended]
@[simp] theorem State.ended_pRec : (s.ended u).pRec = u.pRec := by simp [State.ended]
@[simp] theorem State.ended_mem : (s.ended u).mem = u.mem := by simp [State.ended]
@[simp] theorem State.ended_lanes : (s.ended u).lanes = u.lanes := by simp [State.ended]
@[simp] theorem State.ended_out : (s.ended u).out = u.out := by simp [State.ended]
@[simp] theorem State.ended_freeCtr : (s.ended u).freeCtr = u.freeCtr := by simp [State.ended]
@[simp] theorem State.ended_evts : (s.ended u).evts = u.evts := by simp [State.ended]
@[simp] theorem State.ended_evtSeq : (s.ended u).evtSeq = u.evtSeq := by simp [State.ended]
@[simp] theorem State.ended_evtLost : (s.ended u).evtLost = u.evtLost := by simp [State.ended]
@[simp] theorem State.ended_io : (s.ended u).io = u.io := by simp [State.ended]
@[simp] theorem State.ended_peg : (s.ended u).peg = u.peg := by simp [State.ended]
@[simp] theorem State.ended_recd : (s.ended u).recd = u.recd := by simp [State.ended]
@[simp] theorem State.ended_slot : (s.ended u).slot = u.slot := by simp [State.ended]
@[simp] theorem State.ended_sys : (s.ended u).sys = u.sys := by simp [State.ended]
@[simp] theorem State.ended_time : (s.ended u).time = u.time := by simp [State.ended]
@[simp] theorem State.ended_ring : (s.ended u).ring = u.ring := by simp [State.ended]
@[simp] theorem State.ended_key : (s.ended u).key = u.key := by simp [State.ended]
@[simp] theorem State.ended_restr : (s.ended u).restr = u.restr := by simp [State.ended]
@[simp] theorem State.ended_field : (s.ended u).field = u.field := by simp [State.ended]
@[simp] theorem State.ended_jrn : (s.ended u).jrn = u.jrn := by simp [State.ended]
@[simp] theorem State.ended_cal : (s.ended u).cal = u.cal := by simp [State.ended]
@[simp] theorem State.ended_sym : (s.ended u).sym = u.sym := by simp [State.ended]
@[simp] theorem State.ended_gauge : (s.ended u).gauge = u.gauge := by simp [State.ended]
@[simp] theorem State.ended_sound : (s.ended u).sound = u.sound := by simp [State.ended]
@[simp] theorem State.ended_scan : (s.ended u).scan = u.scan := by simp [State.ended]
@[simp] theorem State.ended_lamp : (s.ended u).lamp = u.lamp := by simp [State.ended]
@[simp] theorem State.ended_hcp : (s.ended u).hcp = u.hcp := by simp [State.ended]
@[simp] theorem State.ended_mover : (s.ended u).mover = u.mover := by simp [State.ended]
@[simp] theorem State.ended_ledgerDue : (s.ended u).ledgerDue = u.ledgerDue := by simp [State.ended]

end

/-! ## Its registers -/

section
variable (s u : State)

theorem State.ended_rd {g : Fld} (h : notRun g.key) : (s.ended u).rd g = u.rd g := finish_rd s u g h

/-- The field stands in a register other than STATE. -/
theorem Fld.notRun {g : Fld} (h : g.addr % 0x10000 ≠ 0xFF00 ∧ g.lo < 32) : Machine.notRun g.key :=
  notRun_of_offset h.1 h.2

theorem State.ended_isSet {g : Fld} (h : notRun g.key) : (s.ended u).isSet g = u.isSet g := by
  rw [State.isSet, State.ended_rd s u h, State.isSet]

@[simp] theorem State.ended_rd8 (a : Nat) : (s.ended u).rd8 a = u.rd8 a := by
  rw [State.rd8, State.ended_mem, State.rd8]

@[simp] theorem State.ended_rdMem (a n : Nat) : (s.ended u).rdMem a n = u.rdMem a n := by
  rw [State.rdMem, State.ended_mem, State.rdMem]

@[simp] theorem State.ended_nd (e o n : Nat) : (s.ended u).nd e o n = u.nd e o n := State.ended_rdMem s u _ n

@[simp] theorem State.ended_lane (a b : Nat) : (s.ended u).lane a b = u.lane a b := by
  rw [State.lane, State.ended_lanes, State.lane]

@[simp] theorem State.ended_rdReq (r : Nat) (g : Fld) : (s.ended u).rdReq r g = u.rdReq r g := by
  rw [State.rdReq, State.ended_reqRegs, State.rdReq]

@[simp] theorem State.ended_desc (q : Nat) : (s.ended u).desc q = u.desc q := by
  rw [State.desc, State.ended_peg, State.desc]

@[simp] theorem State.ended_tag (c : Nat) : (s.ended u).tag c = u.tag c := by
  rw [State.tag, State.ended_peg, State.tag]

@[simp] theorem State.ended_ctx (p t : Nat) : (s.ended u).ctx p t = u.ctx p t := by
  rw [State.ctx, State.ended_peg, State.ctx]

theorem State.ended_dom {d : Nat} (h : d < 50) : (s.ended u).dom d = u.dom d :=
  s.ended_rd u (Fld.notRun (by simp only [F.PWR_DOM_STATE_STATE]; omega))

theorem State.ended_isOn {d : Nat} (h : d < 50) : (s.ended u).isOn d = u.isOn d := by
  rw [State.isOn, s.ended_dom u h, State.isOn]

end

/-! ## The frames -/

/-- A command whose effect writes no field outside `l` keeps the registers outside `l`. -/
theorem State.ended_regsKept {l : List Fld} {s u : State} (h : ∀ g : Fld, (∀ f ∈ l, g.key ≠ f.key) → u.rd g = s.rd g) :
    RegsKept l s (s.ended u) := fun g hg hne => (s.ended_rd u hg).trans (h g hne)

theorem State.ended_blocksKept {bs : List Nat} {s u : State}
    (h : ∀ g : Fld, (∀ b ∈ bs, inBlock b g.key = false) → u.rd g = s.rd g) : BlocksKept bs s (s.ended u) :=
  fun g hg hne => (s.ended_rd u hg).trans (h g hne)

theorem State.ended_memKept {s u : State} (h : u.mem = s.mem) : MemKept s (s.ended u) := fun a => by
  rw [State.ended_rd8, State.rd8, h, State.rd8]

/-! ## One write among others -/

/-- A value that fits is read back as it was written. -/
theorem State.rd_wr_fits (s : State) (f : Fld) {v : Nat} (h : v < 2 ^ f.width) : (s.wr f v).rd f = v := by
  rw [State.rd_wr_same, Nat.mod_eq_of_lt h]

/-! ## An event raised (R382) -/

section
variable (s : State) (cls unit : Nat) (data : List Byte)

theorem State.raiseEvent_rd {g : Fld} (hdropped : g.key ≠ F.HCP_EVT_STAT_DROPPED.key)
    (hpending : g.key ≠ F.HCP_EVT_STAT_PENDING.key) : (s.raiseEvent cls unit data).rd g = s.rd g := by
  have hpend : ∀ (t : State) (n : Nat), (t.wr F.HCP_EVT_STAT_PENDING n).rd g = t.rd g :=
    fun t n => t.rd_wr_other n hpending
  unfold State.raiseEvent
  extract_lets e full s1 l s2
  change s2.rd g = s.rd g
  rw [hpend]
  simp only [s1]
  split
  · exact State.rd_wr_other _ _ hdropped
  · rfl

@[simp] theorem State.raiseEvent_mem : (s.raiseEvent cls unit data).mem = s.mem := by
  simp only [State.raiseEvent]
  split <;> rfl

@[simp] theorem State.raiseEvent_sys : (s.raiseEvent cls unit data).sys = s.sys := by
  simp only [State.raiseEvent]
  split <;> rfl

@[simp] theorem State.raiseEvent_slot : (s.raiseEvent cls unit data).slot = s.slot := by
  simp only [State.raiseEvent]
  split <;> rfl

@[simp] theorem State.raiseEvent_out : (s.raiseEvent cls unit data).out = s.out := by
  simp only [State.raiseEvent]
  split <;> rfl

end

end Sys2Proof.Machine
end

section
/-!
PROOFS. The Fretboard (R16, R17, R29, R34): a word's crossing, the clearing of a port's statistics and the trim of the
logic power.
-/
namespace Sys2Proof.Machine

/-! ## Lanes -/

theorem State.setLane_lane_same (s : State) (a b : Nat) (l : List FWord) : (s.setLane a b l).lane a b = l := by
  unfold State.setLane State.lane AMap.get
  split
  · rename_i h
    simp [h]
  · simp [AMap.find_set_same]

@[simp] theorem State.setLane_rd (s : State) (a b : Nat) (l : List FWord) (g : Fld) : (s.setLane a b l).rd g = s.rd g := rfl
@[simp] theorem State.setLane_out (s : State) (a b : Nat) (l : List FWord) : (s.setLane a b l).out = s.out := rfl
@[simp] theorem State.setLane_mem (s : State) (a b : Nat) (l : List FWord) : (s.setLane a b l).mem = s.mem := rfl

/-! ## The measured means -/

section
variable (s : State) (src ps ld : Nat)

@[simp] theorem State.portMeans_lanes : (s.portMeans src ps ld).lanes = s.lanes := by
  unfold State.portMeans
  split <;> rfl

@[simp] theorem State.portMeans_out : (s.portMeans src ps ld).out = s.out := by
  unfold State.portMeans
  split <;> rfl

@[simp] theorem State.portMeans_mem : (s.portMeans src ps ld).mem = s.mem := by
  unfold State.portMeans
  split <;> rfl

theorem State.portMeans_rd {g : Fld} (hcycle : g.key ≠ F.FRET_CYCLE_CYCLE_PS.key)
    (hload : g.key ≠ (F.FRET_PORT_STAT_LOAD src).key) (hpeak : g.key ≠ (F.FRET_PORT_STAT_PEAK src).key) :
    (s.portMeans src ps ld).rd g = s.rd g := by
  unfold State.portMeans
  split <;> simp [State.rd_wr_other, hcycle, hload, hpeak]

end

/-! ## Whether a port is ON rests on the domains alone -/

/-- The same domains are ON. -/
def SameOn (s t : State) : Prop := ∀ d, d < 50 → s.isOn d = t.isOn d

section
variable {s t : State} (h : SameOn s t)
include h

theorem SameOn.allOn {l : List Nat} (hl : ∀ d ∈ l, d < 50) : s.allOn l = t.allOn l := by
  unfold State.allOn
  induction l with
  | nil => rfl
  | cons d l ih =>
    rw [List.all_cons, List.all_cons, h d (hl d List.mem_cons_self), ih fun e he => hl e (List.mem_cons_of_mem d he)]

theorem SameOn.blockOn (b : Nat) : s.blockOn b = t.blockOn b := by
  unfold State.blockOn
  split <;> simp [h.allOn, h _]

theorem SameOn.addrUp (a : Nat) : s.addrUp a = t.addrUp a := by
  unfold State.addrUp
  cases hr : regionOf a with
  | none => rfl
  | some r =>
    have hmem : ∃ e ∈ regionMap, e.1 ≤ a ∧ a < e.2.1 ∧ e.2.2 = r := by
      unfold regionOf at hr
      obtain ⟨e, he, rfl⟩ := Option.map_eq_some_iff.mp hr
      have := List.find?_some he
      simp only [decide_eq_true_eq] at this
      exact ⟨e, List.mem_of_find?_eq_some he, this.1, this.2, rfl⟩
    obtain ⟨e, he, hlo, hhi, rfl⟩ := hmem
    have hbit : bits ((a - 0x50000000) / 16) 19 1 < 2 := Nat.mod_lt _ (by decide)
    simp only [regionMap, List.mem_cons, List.not_mem_nil, or_false] at he
    rcases he with rfl | rfl | rfl | rfl | rfl | rfl | rfl | rfl | rfl | rfl | rfl | rfl | rfl | rfl | rfl <;>
      simp only at hlo hhi
    case' inr.inr.inr.inr.inr.inr.inr.inr.inr.inl => exact h.blockOn _
    case' inr.inr.inr.inr.inr.inr.inr.inr.inr.inr.inr.inr.inr.inl => exact h.allOn (by decide)
    all_goals exact h _ (by omega)

theorem SameOn.portUp {p : Nat} (hp : p < 32) (a : WordTarget) : s.portUp p a = t.portUp p a := by
  have hdoms : ∀ q < 32, ∀ d ∈ portDoms q, d < 50 := by decide
  have hnamed : s.namedUp p a = t.namedUp p a := by
    cases a with
    | none => simp only [State.namedUp, h 36 (by decide)]
    | addr a => exact h.addrUp a.toNat
    | unit d => exact h d d.isLt
  have hhalf : halfDom p < 50 := by
    unfold halfDom
    split <;> decide
  simp only [State.portUp, h _ hhalf, h.allOn (hdoms p hp), hnamed]

end

/-- The STATE of a domain stands below every field of the FRET block. -/
theorem dom_key_ne_fret {d : Nat} {f : Fld} (hd : d < 50) (h : 0x40030000 ≤ f.addr ∧ f.lo < 32) :
    (F.PWR_DOM_STATE_STATE d).key ≠ f.key := by
  simp only [Fld.key, F.PWR_DOM_STATE_STATE]
  omega

/-- A crossing's first acts leave every domain as it was. -/
theorem State.portMeans_sameOn (s : State) (a b src ps ld : Nat) (l : List FWord) :
    SameOn ((s.setLane a b l).portMeans src ps ld) s := by
  intro d hd
  have hrd := (s.setLane a b l).portMeans_rd src ps ld (g := F.PWR_DOM_STATE_STATE d)
    (dom_key_ne_fret hd (by decide))
    (dom_key_ne_fret hd (by simp only [F.FRET_PORT_STAT_LOAD]; omega))
    (dom_key_ne_fret hd (by simp only [F.FRET_PORT_STAT_PEAK]; omega))
  simp only [State.isOn, State.dom, hrd, State.setLane_rd]

/-! ## WORD_CROSSING (R16, R17) -/

section
variable {s : State} {src dst : Fin 32} {o : Option FWord} {a : WordTarget} {ps : BitVec 16} {ld : BitVec 8} {w : FWord}
  {rest : List FWord}

/-- The machine as the first word of a lane leaves it, before it is delivered. -/
def State.crossed (s : State) (src dst : Fin 32) (rest : List FWord) (ps : BitVec 16) (ld : BitVec 8) : State :=
  (s.setLane src dst rest).portMeans src ps.toNat ld.toNat

theorem State.wordCrossing_cons (h : s.lane src dst ++ o.toList = w :: rest) :
    s.wordCrossing src dst o a ps.toNat ld.toNat = (s.crossed src dst rest ps ld).deliver w a := by
  simp only [State.wordCrossing, h, State.crossed]

theorem State.crossed_portUp (hw : State.portUp s w.dest.toNat a = b) :
    (s.crossed src dst rest ps ld).portUp w.dest.toNat a = b :=
  (SameOn.portUp (s.portMeans_sameOn src dst src ps.toNat ld.toNat rest) w.dest.isLt a).trans hw

theorem State.deliver_up {t : State} (h : t.portUp w.dest.toNat a = true) :
    t.deliver w a = (if w.poison ≠ 0 then t.incSat F.FRET_POISON_CNT_COUNT else t).emit (.word w) := by
  simp only [State.deliver, h, if_true]

theorem State.deliver_down {t : State} (h : t.portUp w.dest.toNat a = false) :
    t.deliver w a = (if unmappedTarget a then t else t.incSat (F.FRET_PORT_STAT_NACK_CNT w.dest.toNat)).emit
      (.word (nackOf w)) := by
  simp only [State.deliver, h, Bool.false_eq_true, if_false]

theorem State.deliver_frame (t : State) : (t.deliver w a).lanes = t.lanes ∧ (t.deliver w a).mem = t.mem := by
  unfold State.deliver
  repeat' split
  all_goals exact ⟨rfl, rfl⟩

/-- Whatever its delivery, the word leaves its lane and no memory changes. -/
theorem exec_wordCrossing (h : s.lane src dst ++ o.toList = w :: rest) :
    exec (.wordCrossing src dst o a ps ld) s = .next (s.ended ((s.crossed src dst rest ps ld).deliver w a)) ∧
      (s.ended ((s.crossed src dst rest ps ld).deliver w a)).lane src dst = rest ∧
      MemKept s (s.ended ((s.crossed src dst rest ps ld).deliver w a)) := by
  obtain ⟨hlanes, hmem⟩ := State.deliver_frame (w := w) (a := a) (s.crossed src dst rest ps ld)
  refine ⟨?_, ?_, State.ended_memKept (hmem.trans ?_)⟩
  · rw [← State.wordCrossing_cons h]
    rfl
  · rw [State.ended_lane, State.lane, hlanes, State.crossed, State.portMeans_lanes]
    exact s.setLane_lane_same src dst rest
  · rw [State.crossed, State.portMeans_mem, State.setLane_mem]

theorem State.crossed_rd {g : Fld} (hcycle : g.key ≠ F.FRET_CYCLE_CYCLE_PS.key)
    (hload : g.key ≠ (F.FRET_PORT_STAT_LOAD src).key) (hpeak : g.key ≠ (F.FRET_PORT_STAT_PEAK src).key) :
    (s.crossed src dst rest ps ld).rd g = s.rd g :=
  (State.portMeans_rd _ _ _ _ hcycle hload hpeak).trans (s.setLane_rd ..)

theorem State.crossed_out : (s.crossed src dst rest ps ld).out = s.out := by
  rw [State.crossed, State.portMeans_out, State.setLane_out]

theorem State.crossed_nackCnt (p : Nat) :
    (s.crossed src dst rest ps ld).rd (F.FRET_PORT_STAT_NACK_CNT p) = s.rd (F.FRET_PORT_STAT_NACK_CNT p) :=
  State.crossed_rd (by simp only [Fld.key, F.FRET_PORT_STAT_NACK_CNT, F.FRET_CYCLE_CYCLE_PS]; omega)
    (by simp only [Fld.key, F.FRET_PORT_STAT_NACK_CNT, F.FRET_PORT_STAT_LOAD]; omega)
    (by simp only [Fld.key, F.FRET_PORT_STAT_NACK_CNT, F.FRET_PORT_STAT_PEAK]; omega)

end

theorem State.crossed_delivered (s : State) (src dst : Fin 32) (a : WordTarget) (ps : BitVec 16) (ld : BitVec 8) (w : FWord)
    (rest : List FWord) (hup : s.portUp w.dest.toNat a = true) :
    (s.ended ((s.crossed src dst rest ps ld).deliver w a)).out = .word w :: s.out ∧
      RegsKept [F.FRET_CYCLE_CYCLE_PS, F.FRET_PORT_STAT_LOAD src, F.FRET_PORT_STAT_PEAK src, F.FRET_POISON_CNT_COUNT] s
        (s.ended ((s.crossed src dst rest ps ld).deliver w a)) := by
  rw [State.deliver_up (State.crossed_portUp hup)]
  refine ⟨?_, State.ended_regsKept fun g hne => ?_⟩
  · rw [State.ended_out]
    split <;> simp [State.emit, State.crossed_out]
  · simp only [List.mem_cons, List.not_mem_nil, or_false, forall_eq_or_imp, forall_eq] at hne
    obtain ⟨hcycle, hload, hpeak, hpoison⟩ := hne
    rw [State.emit_rd]
    split
    · rw [State.incSat_eq, State.rd_wr_other _ _ hpoison]
      exact State.crossed_rd hcycle hload hpeak
    · exact State.crossed_rd hcycle hload hpeak

theorem State.crossed_refused (s : State) (src dst : Fin 32) (a : WordTarget) (ps : BitVec 16) (ld : BitVec 8) (w : FWord)
    (rest : List FWord) (hdown : s.portUp w.dest.toNat a = false) :
    (s.ended ((s.crossed src dst rest ps ld).deliver w a)).out = .word (nackOf w) :: s.out ∧
      (s.ended ((s.crossed src dst rest ps ld).deliver w a)).rd (F.FRET_PORT_STAT_NACK_CNT w.dest.toNat) =
        (if unmappedTarget a then s.rd (F.FRET_PORT_STAT_NACK_CNT w.dest.toNat)
          else satInc 255 (s.rd (F.FRET_PORT_STAT_NACK_CNT w.dest.toNat))) ∧
      RegsKept [F.FRET_CYCLE_CYCLE_PS, F.FRET_PORT_STAT_LOAD src, F.FRET_PORT_STAT_PEAK src,
        F.FRET_PORT_STAT_NACK_CNT w.dest.toNat] s (s.ended ((s.crossed src dst rest ps ld).deliver w a)) := by
  rw [State.deliver_down (State.crossed_portUp hdown)]
  refine ⟨?_, ?_, State.ended_regsKept fun g hne => ?_⟩
  · rw [State.ended_out]
    split <;> simp [State.emit, State.crossed_out]
  · have hrun : notRun (F.FRET_PORT_STAT_NACK_CNT w.dest.toNat).key :=
      Fld.notRun (by have := w.dest.isLt; simp only [F.FRET_PORT_STAT_NACK_CNT]; omega)
    rw [State.ended_rd _ _ hrun, State.emit_rd]
    split
    · exact State.crossed_nackCnt _
    · rw [State.incSat_eq, State.rd_wr_fits _ _ ((satInc_le _ _).trans_lt (by simp [F.FRET_PORT_STAT_NACK_CNT])), State.crossed_nackCnt]
      rfl
  · simp only [List.mem_cons, List.not_mem_nil, or_false, forall_eq_or_imp, forall_eq] at hne
    obtain ⟨hcycle, hload, hpeak, hnack⟩ := hne
    rw [State.emit_rd]
    split
    · exact State.crossed_rd hcycle hload hpeak
    · rw [State.incSat_eq, State.rd_wr_other _ _ hnack]
      exact State.crossed_rd hcycle hload hpeak

/-! ## FRET_PORT_CLEAR (R17) -/

theorem State.answer_rd (s : State) (req a st v : Nat) (g : Fld) : (s.answer req a st v).rd g = s.rd g := rfl

theorem exec_fretPortClear (req : Fin 36) (p : Fin 32) (s : State) (hon : s.blockOn bFRET = true) :
    exec (.fretPortClear req p) s =
      .next (s.ended (((s.wr (F.FRET_PORT_STAT_PEAK p) 0).wr (F.FRET_PORT_STAT_NACK_CNT p) 0).answer req
        (0x40030100 + 4 * p) stOK 0)) := by
  have hp := p.isLt
  have hup : s.addrUp (0x40030100 + 4 * p.val) = true :=
    (s.addrUp_block bFRET _ (by decide) (by simp only [blockBase, bFRET, blockNo]; omega)
      (by simp only [blockBase, bFRET, blockNo]; omega)).trans hon
  have hblk : ∀ q : Fin 32, regBlock (0x40030100 + 4 * q.val) = some (bFRET, 0x0100 + 4 * q.val) := by decide
  have hreg : ∀ q : Fin 32, lookupReg (0x40030100 + 4 * q.val) = some (regsFret[3], [q.val]) := by decide
  have hrow := s.rowWrite_act (req := req) (v := 2 ^ 31) (x := WriteMore.none) hup (by omega) (hblk p) (hreg p) (by decide)
    (by decide) (by decide) rfl rfl (by decide) ⟨fun h => by omega, by decide⟩
  exact (congrArg (finish s) hrow).trans rfl

/-- Clearing a port zeroes its PEAK and NACK count and answers OK. -/
theorem fretPortClear_clears (req : Fin 36) (p : Fin 32) (s : State) (hon : s.blockOn bFRET = true) :
    ∃ t, exec (.fretPortClear req p) s = .next t ∧ t.rd (F.FRET_PORT_STAT_PEAK p) = 0 ∧
      t.rd (F.FRET_PORT_STAT_NACK_CNT p) = 0 ∧ RegsKept [F.FRET_PORT_STAT_PEAK p, F.FRET_PORT_STAT_NACK_CNT p] s t ∧
      MemKept s t := by
  refine ⟨_, exec_fretPortClear req p s hon, ?_, ?_, State.ended_regsKept fun g hne => ?_, State.ended_memKept rfl⟩
  · rw [State.ended_rd _ _ (Fld.notRun (by simp only [F.FRET_PORT_STAT_PEAK]; omega)), State.answer_rd,
      State.rd_wr_other _ _ (by simp only [Fld.key, F.FRET_PORT_STAT_PEAK, F.FRET_PORT_STAT_NACK_CNT]; omega),
      State.rd_wr_same, Nat.zero_mod]
  · rw [State.ended_rd _ _ (Fld.notRun (by simp only [F.FRET_PORT_STAT_NACK_CNT]; omega)), State.answer_rd,
      State.rd_wr_same, Nat.zero_mod]
  · simp only [List.mem_cons, List.not_mem_nil, or_false, forall_eq_or_imp, forall_eq] at hne
    simp [State.answer_rd, State.rd_wr_other, hne]

/-! ## The trim of the logic power (R29) -/

/-- The supervisor's registers of the logic power, with the mean and whether a trim is active. -/
def State.withTrim (s : State) (mean trim : Nat) (active : Bool) : State :=
  ({ s.wr F.SYS_PWR_LOGIC_POWER mean with sys := { s.sys with trim := trim } }).wr F.SYS_PWR_LOGIC_TRIM_ACTIVE (b2n active)

theorem State.withTrim_ended (s : State) (mean : BitVec 16) (trim : Nat) (active : Bool) :
    (s.ended (s.withTrim mean.toNat trim active)).rd F.SYS_PWR_LOGIC_POWER = mean.toNat ∧
      (s.ended (s.withTrim mean.toNat trim active)).rd F.SYS_PWR_LOGIC_TRIM_ACTIVE = b2n active ∧
      (s.ended (s.withTrim mean.toNat trim active)).sys.trim = trim ∧
      RegsKept [F.SYS_PWR_LOGIC_POWER, F.SYS_PWR_LOGIC_TRIM_ACTIVE] s (s.ended (s.withTrim mean.toNat trim active)) ∧
      MemKept s (s.ended (s.withTrim mean.toNat trim active)) := by
  refine ⟨?_, ?_, ?_, State.ended_regsKept fun g hne => ?_, State.ended_memKept rfl⟩
  · rw [State.ended_rd _ _ (Fld.notRun (by decide)), State.withTrim, State.rd_wr_other _ _ (by decide)]
    exact State.rd_wr_fits s _ mean.isLt
  · rw [State.ended_rd _ _ (Fld.notRun (by decide)), State.withTrim]
    exact State.rd_wr_fits _ _ (by cases active <;> decide)
  · rw [State.ended_sys]
    rfl
  · simp only [List.mem_cons, List.not_mem_nil, or_false, forall_eq_or_imp, forall_eq] at hne
    rw [State.withTrim, State.rd_wr_other _ _ hne.2]
    exact State.rd_wr_other s _ hne.1

theorem exec_logicPowerTrim_begins {m : BitVec 16} {s : State} (hon : s.allOn [0, 49] = true) (hm : 6150 ≤ m.toNat) :
    exec (.logicPowerTrim m) s = .next (s.ended (s.withTrim m.toNat (min 2 (s.sys.trim + 1)) true)) := by
  change finish s (s.powerTrim m.toNat) = _
  simp only [State.powerTrim, hon, if_true, if_pos hm]
  rfl

theorem exec_trimEnd_ends {m : BitVec 16} {ms : Nat} {s : State} (hon : s.allOn [0, 49] = true) (hm : m.toNat < 6000)
    (hms : 100 ≤ ms) : exec (.trimEnd m ms) s = .next (s.ended (s.withTrim m.toNat 0 false)) := by
  change finish s (s.trimEnd m.toNat ms) = _
  simp only [State.trimEnd, hon, if_true, hm, hms, and_self]
  rfl

/-- Settles O11. Log entry 74 says which unit a word names, and that the NACK of an unmapped one is not counted. -/
theorem fretboardCommands : Obligations.FretboardCommands := by
  refine ⟨fun src dst o a ps ld s w rest h => ?_, fretPortClear_clears, fun m s hon hm => ?_, fun m ms s hon hm hms => ?_⟩
  · obtain ⟨hexec, hlane, hmem⟩ := exec_wordCrossing (a := a) (ps := ps) (ld := ld) h
    exact ⟨_, hexec, hlane, hmem, s.crossed_delivered src dst a ps ld w rest, s.crossed_refused src dst a ps ld w rest⟩
  · obtain ⟨hpower, hactive, htrim, hregs, hmem⟩ := s.withTrim_ended m (min 2 (s.sys.trim + 1)) true
    exact ⟨_, exec_logicPowerTrim_begins hon hm, hpower, hactive, by omega, hregs, hmem⟩
  · obtain ⟨hpower, hactive, htrim, hregs, hmem⟩ := s.withTrim_ended m 0 false
    exact ⟨_, exec_trimEnd_ends hon hm hms, hpower, hactive, htrim, hregs, hmem⟩

end Sys2Proof.Machine
end

section
/-!
PROOFS. Connector commands (R76, R96): concrete states for refutations, and the loop test of a module that holds its outputs.
-/
namespace Sys2Proof.Machine

/-- The machine after reset with the fields of `l` as given; the readers of a map take the first entry of a key. -/
def resetWith (l : List (Fld × Nat)) : State :=
  { State.reset with regs := l.map (fun p => (p.1.key, p.2)) ++ State.reset.regs }

/-- A module that has found no configuration, START_STAT.PHASE 5, while the loop test of ring A runs; the root key is there
and HOLD_EN is 1. -/
def heldLoopTest : State :=
  resetWith [(F.SYS_START_STAT_PHASE, 5), (F.SLOT_LOOPBACK_RESULT_A, 1), (F.SLOT_BYPASS_CTRL_HOLD_EN_A, 1),
    (F.KEY_LC_ROOT_PRESENT, 1)]

theorem heldLoopTest_passes :
    heldLoopTest.rd (fResult 0) = 1 ∧ heldLoopTest.isSet (fHoldEn 0) = true ∧ heldLoopTest.joinable = true ∧
      heldLoopTest.ejecting = false := by
  decide +kernel

/-- R96: until a configuration has arrived and a reset has followed, the module switches no output. -/
theorem heldLoopTest_holdStaysLow : (heldLoopTest.loopEnd 0 true true 10 heldLoopTest.joinable).rd (fHold 0) = 0 := by
  decide +kernel

/-- Refutes O16: a loop test that passes where HOLD_EN, the root key and the lever allow it raises BYPASS_HOLD only where the
module does not hold its outputs (R96), which the clause does not ask for. -/
theorem not_bypassAndConnectorCommands : ¬ Obligations.BypassAndConnectorCommands := by
  rintro ⟨-, htest, -⟩
  obtain ⟨hresult, hen, hjoin, heject⟩ := heldLoopTest_passes
  obtain ⟨⟨t, hexec, -, hhold, -⟩, -⟩ := htest 0 10 heldLoopTest hresult le_rfl
  obtain rfl := finish_inv hexec
  have hlow : (heldLoopTest.ended (heldLoopTest.loopEnd 0 true true 10 heldLoopTest.joinable)).rd (fHold 0) = 0 :=
    (State.ended_rd _ _ (Fld.notRun (by decide))).trans heldLoopTest_holdStaysLow
  exact absurd (hlow.symm.trans (hhold hen hjoin heject)) (by decide)

end Sys2Proof.Machine
end

section
/-!
PROOFS. Domain changes (R428, R432): a change that ends where the sequencer holds a request for the same domain.
-/
namespace Sys2Proof.Machine

/-- Course 14 is on its way to ON, while a level change has a request to take it OFF left, and waits for Course 0, which
is not changing. -/
def staleLevelChange : State :=
  { resetWith [(F.PWR_DOM_STATE_STATE 14, 3), (F.PWR_DOM_STATE_TARGET 14, 2)] with
    sys := { State.reset.sys with levelWait := some 0, levelQ := [(14, 0)] } }

theorem staleLevelChange_changing :
    staleLevelChange.dom 14 = domChanging ∧ staleLevelChange.rd (F.PWR_DOM_STATE_TARGET 14) = 2 ∧
      staleLevelChange.isSet (F.PWR_DOM_STATE_PEND_VALID 14) = false ∧ staleLevelChange.pendingIn bPWR = false := by
  decide +kernel

/-- The change ends, and the level change that goes on takes the domain OFF again. -/
theorem staleLevelChange_changeComplete : (staleLevelChange.changeComplete 14).dom 14 = domChanging := by
  decide +kernel

/-- Refutes O17: a change need not end in its target where the level change, held up by a domain that is not changing, goes
on with it and has a request for the same domain. -/
theorem not_domainCommands : ¬ Obligations.DomainCommands := by
  rintro ⟨-, hcomplete, -⟩
  obtain ⟨hchanging, htarget, hpend, hshadow⟩ := staleLevelChange_changing
  obtain ⟨t, hexec, hdom⟩ :=
    hcomplete 14 staleLevelChange hchanging (by rw [show ((14 : Fin 50) : Nat) = 14 from rfl, htarget]) hpend (by decide) hshadow
  obtain rfl := finish_inv hexec
  have hstill : (staleLevelChange.ended (staleLevelChange.changeComplete 14)).dom 14 = domChanging :=
    (State.ended_dom _ _ (by decide)).trans staleLevelChange_changeComplete
  exact absurd (hstill.symm.trans (hdom.trans htarget)) (by decide)

end Sys2Proof.Machine
end

section
/-!
PROOFS. The Tuning engine (R439 to R442): measurements with the engine off, the supply step of a re-plan, the ageing
measurement and the plans stored.
-/
namespace Sys2Proof.Machine

/-! ## What a measurement stores (R439) -/

section
variable (s : State) (d : Nat)

@[simp] theorem State.noteSlack_rd (g : Fld) : (s.noteSlack d).rd g = s.rd g := rfl
@[simp] theorem State.noteSlack_mem : (s.noteSlack d).mem = s.mem := rfl

theorem State.floored_congr {t : State} (h : t.rd (F.TUNE_DOM_STAT_HAS_FLOOR d) = s.rd (F.TUNE_DOM_STAT_HAS_FLOOR d)) :
    t.floored d = s.floored d := by
  simp only [State.floored, State.isSet, h]

variable (fl ti : Nat)

theorem State.storeSlack_rd {g : Fld} (hf : g.key ≠ (F.TUNE_DOM_SLACK_FLOOR d).key)
    (ht : g.key ≠ (F.TUNE_DOM_SLACK_TIMING d).key) : (s.storeSlack d fl ti).rd g = s.rd g := by
  simp [State.storeSlack, State.rd_wr_other, hf, ht]

theorem State.storeSlack_timing (h : ti < 2 ^ 16) : (s.storeSlack d fl ti).rd (F.TUNE_DOM_SLACK_TIMING d) = ti := by
  rw [State.storeSlack, State.noteSlack_rd]
  exact State.rd_wr_fits _ _ h

theorem State.storeSlack_floor (h : fl < 2 ^ 16) :
    (s.storeSlack d fl ti).rd (F.TUNE_DOM_SLACK_FLOOR d) = (if s.floored d then fl else 0x8000) := by
  rw [State.storeSlack, State.noteSlack_rd,
    State.rd_wr_other _ _ (by simp only [Fld.key, F.TUNE_DOM_SLACK_FLOOR, F.TUNE_DOM_SLACK_TIMING]; omega)]
  exact State.rd_wr_fits _ _ (by split <;> [exact h; exact (by decide : 0x8000 < 2 ^ 16)])

end

/-! ## The supply step (R440) -/

/-- The supply of domain `d` one step higher, its re-plan still going on. -/
def State.supplyRaised (s : State) (d taps : Nat) : State :=
  let s := s.wr (F.TUNE_DOM_PLAN_TAPS d) taps
  let s := (s.wr (F.TUNE_DOM_PLAN_SUPPLY d) (s.rd (F.TUNE_DOM_PLAN_SUPPLY d) + 1)).wr (F.TUNE_DOM_STAT_REPLANNING d) 1
  { s with sys := { s.sys with planDirty := true } }

/-- The number of taps a re-plan has lengthened to. -/
def State.replanTaps (s : State) (d : Nat) : Nat :=
  (lengthen 63 (s.rd (F.TUNE_DOM_PLAN_TAPS d)) (s.rdS (F.TUNE_DOM_SLACK_TIMING d)) (s.rd F.TUNE_TAP_CFG_TAP_LO_PS : Int)).1

theorem State.floorMargin_wrTaps (s : State) (d taps : Nat) :
    (s.wr (F.TUNE_DOM_PLAN_TAPS d) taps).floorMargin d = s.floorMargin d := by
  simp only [State.floorMargin, State.rdS]
  rw [State.rd_wr_other _ _ (by simp only [Fld.key, F.TUNE_DOM_SLACK_FLOOR, F.TUNE_DOM_PLAN_TAPS]; omega),
    State.rd_wr_other _ _ (by simp only [Fld.key, F.TUNE_DOM_STAT_AGE_PS, F.TUNE_DOM_PLAN_TAPS]; omega)]

theorem State.rd_supply_wrTaps (s : State) (d taps : Nat) :
    (s.wr (F.TUNE_DOM_PLAN_TAPS d) taps).rd (F.TUNE_DOM_PLAN_SUPPLY d) = s.rd (F.TUNE_DOM_PLAN_SUPPLY d) :=
  State.rd_wr_other _ _ (by simp only [Fld.key, F.TUNE_DOM_PLAN_SUPPLY, F.TUNE_DOM_PLAN_TAPS]; omega)

theorem State.floored_wrTaps (s : State) (d taps : Nat) :
    (s.wr (F.TUNE_DOM_PLAN_TAPS d) taps).floored d = s.floored d :=
  s.floored_congr d
    (State.rd_wr_other _ _ (by simp only [Fld.key, F.TUNE_DOM_STAT_HAS_FLOOR, F.TUNE_DOM_PLAN_TAPS]; omega))

/-- A FLOOR slack below the guard band raises the supply while a step is left. -/
theorem State.replan_raises {s : State} {d : Nat} (hfl : s.floored d = true)
    (hlow : s.floorMargin d < (s.rd F.TUNE_CFG_GUARD_LO_PS : Int)) (hmax : s.rd (F.TUNE_DOM_PLAN_SUPPLY d) < supplyMax) :
    s.replan d = (.settling, s.supplyRaised d (s.replanTaps d)) := by
  have hcond : (s.wr (F.TUNE_DOM_PLAN_TAPS d) (s.replanTaps d)).floored d = true ∧
      (s.wr (F.TUNE_DOM_PLAN_TAPS d) (s.replanTaps d)).floorMargin d < (s.rd F.TUNE_CFG_GUARD_LO_PS : Int) ∧
      (s.wr (F.TUNE_DOM_PLAN_TAPS d) (s.replanTaps d)).rd (F.TUNE_DOM_PLAN_SUPPLY d) < supplyMax := by
    rw [s.floored_wrTaps, s.floorMargin_wrTaps, s.rd_supply_wrTaps]
    exact ⟨hfl, hlow, hmax⟩
  exact if_pos hcond

theorem State.supplyRaised_supply {s : State} {d : Nat} (taps : Nat) (hmax : s.rd (F.TUNE_DOM_PLAN_SUPPLY d) < supplyMax) :
    (s.supplyRaised d taps).rd (F.TUNE_DOM_PLAN_SUPPLY d) = s.rd (F.TUNE_DOM_PLAN_SUPPLY d) + 1 := by
  have hfit : s.rd (F.TUNE_DOM_PLAN_SUPPLY d) + 1 < 2 ^ 8 := by
    unfold supplyMax at hmax
    omega
  unfold State.supplyRaised
  extract_lets s1 s2
  change s2.rd _ = _
  rw [State.rd_wr_other _ _ (by simp only [Fld.key, F.TUNE_DOM_PLAN_SUPPLY, F.TUNE_DOM_STAT_REPLANNING]; omega),
    s.rd_supply_wrTaps]
  exact State.rd_wr_fits _ _ hfit

theorem State.supplyRaised_replanning (s : State) (d taps : Nat) :
    (s.supplyRaised d taps).rd (F.TUNE_DOM_STAT_REPLANNING d) = 1 := State.rd_wr_fits _ _ (by decide : 1 < 2 ^ 1)

theorem State.supplyRaised_rd (s : State) {d : Nat} (taps : Nat) {g : Fld} (htaps : g.key ≠ (F.TUNE_DOM_PLAN_TAPS d).key)
    (hsupply : g.key ≠ (F.TUNE_DOM_PLAN_SUPPLY d).key) (hre : g.key ≠ (F.TUNE_DOM_STAT_REPLANNING d).key) :
    (s.supplyRaised d taps).rd g = s.rd g := by
  unfold State.supplyRaised
  extract_lets s1 s2
  change s2.rd g = _
  rw [State.rd_wr_other _ _ hre, State.rd_wr_other _ _ hsupply, State.rd_wr_other _ _ htaps]

/-! ## The commands -/

theorem exec_tuneMeasure_off {d : Fin 50} {fl ti : BitVec 16} {s : State} (hon : s.blockOn bTUNE = true)
    (hd : s.isOn d = true) (hen : s.isSet F.TUNE_CTRL_EN = false) :
    exec (.tuneMeasure d fl ti) s = .next (s.ended (s.storeSlack d fl.toNat ti.toNat)) := by
  have hen' : (s.storeSlack d fl.toNat ti.toNat).isSet F.TUNE_CTRL_EN = false := by
    rw [State.isSet, s.storeSlack_rd _ _ _ (by simp only [Fld.key, F.TUNE_CTRL_EN, F.TUNE_DOM_SLACK_FLOOR]; omega)
      (by simp only [Fld.key, F.TUNE_CTRL_EN, F.TUNE_DOM_SLACK_TIMING]; omega)]
    exact hen
  change finish s (State.replanEnd (s.tuneMeasure d fl.toNat ti.toNat) d) = _
  simp only [State.tuneMeasure, hon, hd, hen', and_self, if_true, Bool.false_eq_true, false_and, if_false]
  rfl

theorem tuneMeasure_stores (d : Fin 50) (fl ti : BitVec 16) (s : State) (hon : s.blockOn bTUNE = true)
    (hd : s.isOn d = true) (hen : s.isSet F.TUNE_CTRL_EN = false) :
    ∃ t, exec (.tuneMeasure d fl ti) s = .next t ∧ t.rd (F.TUNE_DOM_SLACK_TIMING d) = ti.toNat ∧
      t.rd (F.TUNE_DOM_SLACK_FLOOR d) = (if s.floored d then fl.toNat else 0x8000) ∧
      RegsKept [F.TUNE_DOM_SLACK_FLOOR d, F.TUNE_DOM_SLACK_TIMING d] s t ∧ MemKept s t := by
  refine ⟨_, exec_tuneMeasure_off hon hd hen, ?_, ?_, State.ended_regsKept fun g hne => ?_, State.ended_memKept rfl⟩
  · rw [State.ended_rd _ _ (Fld.notRun (by simp only [F.TUNE_DOM_SLACK_TIMING]; omega))]
    exact s.storeSlack_timing d _ _ ti.isLt
  · rw [State.ended_rd _ _ (Fld.notRun (by simp only [F.TUNE_DOM_SLACK_FLOOR]; omega))]
    exact s.storeSlack_floor d _ _ fl.isLt
  · simp only [List.mem_cons, List.not_mem_nil, or_false, forall_eq_or_imp, forall_eq] at hne
    exact s.storeSlack_rd d _ _ hne.1 hne.2

section
variable {d : Fin 50} {fl ti : BitVec 16} {s : State} (hfl : s.floored d = true)
include hfl

/-- What the re-plan reads of the slack just stored. -/
theorem State.storeSlack_floorMargin :
    (s.storeSlack d fl.toNat ti.toNat).floorMargin d =
      toSigned 16 fl.toNat - (s.rd (F.TUNE_DOM_STAT_AGE_PS d) : Int) := by
  rw [State.floorMargin, State.rdS, s.storeSlack_floor d _ _ fl.isLt, if_pos hfl,
    s.storeSlack_rd d _ _ (by simp only [Fld.key, F.TUNE_DOM_STAT_AGE_PS, F.TUNE_DOM_SLACK_FLOOR]; omega)
      (by simp only [Fld.key, F.TUNE_DOM_STAT_AGE_PS, F.TUNE_DOM_SLACK_TIMING]; omega)]
  rfl

variable (hon : s.blockOn bTUNE = true) (hd : s.isOn d = true) (hre : s.isSet (F.TUNE_DOM_STAT_REPLANNING d) = true)
  (hlow : toSigned 16 fl.toNat - (s.rd (F.TUNE_DOM_STAT_AGE_PS d) : Int) < (s.rd F.TUNE_CFG_GUARD_LO_PS : Int))
  (hmax : s.rd (F.TUNE_DOM_PLAN_SUPPLY d) < supplyMax)
include hon hd hre hlow hmax

theorem exec_replanSettled_raises :
    exec (.replanSettled d fl ti) s = .next (s.ended ((s.storeSlack d fl.toNat ti.toNat).supplyRaised d
      ((s.storeSlack d fl.toNat ti.toNat).replanTaps d))) := by
  have hfl' : (s.storeSlack d fl.toNat ti.toNat).floored d = true :=
    (s.floored_congr d (s.storeSlack_rd d _ _
      (by simp only [Fld.key, F.TUNE_DOM_STAT_HAS_FLOOR, F.TUNE_DOM_SLACK_FLOOR]; omega)
      (by simp only [Fld.key, F.TUNE_DOM_STAT_HAS_FLOOR, F.TUNE_DOM_SLACK_TIMING]; omega))).trans hfl
  have hlow' : (s.storeSlack d fl.toNat ti.toNat).floorMargin d <
      ((s.storeSlack d fl.toNat ti.toNat).rd F.TUNE_CFG_GUARD_LO_PS : Int) := by
    rw [State.storeSlack_floorMargin hfl,
      s.storeSlack_rd d _ _ (by simp only [Fld.key, F.TUNE_CFG_GUARD_LO_PS, F.TUNE_DOM_SLACK_FLOOR]; omega)
        (by simp only [Fld.key, F.TUNE_CFG_GUARD_LO_PS, F.TUNE_DOM_SLACK_TIMING]; omega)]
    exact hlow
  have hmax' : (s.storeSlack d fl.toNat ti.toNat).rd (F.TUNE_DOM_PLAN_SUPPLY d) < supplyMax := by
    rwa [s.storeSlack_rd d _ _ (by simp only [Fld.key, F.TUNE_DOM_PLAN_SUPPLY, F.TUNE_DOM_SLACK_FLOOR]; omega)
      (by simp only [Fld.key, F.TUNE_DOM_PLAN_SUPPLY, F.TUNE_DOM_SLACK_TIMING]; omega)]
  change finish s (State.replanEnd (s.replanSettled d fl.toNat ti.toNat) d) = _
  simp only [State.replanSettled, hon, hd, hre, and_self, if_true, State.replan_raises hfl' hlow' hmax']
  rfl

theorem replanSettled_raises :
    ∃ t, exec (.replanSettled d fl ti) s = .next t ∧
      t.rd (F.TUNE_DOM_PLAN_SUPPLY d) = s.rd (F.TUNE_DOM_PLAN_SUPPLY d) + 1 ∧
      t.rd (F.TUNE_DOM_STAT_REPLANNING d) = 1 ∧ t.sys.planDirty = true ∧
      RegsKept [F.TUNE_DOM_SLACK_FLOOR d, F.TUNE_DOM_SLACK_TIMING d, F.TUNE_DOM_PLAN_TAPS d, F.TUNE_DOM_PLAN_SUPPLY d,
        F.TUNE_DOM_STAT_REPLANNING d] s t ∧ MemKept s t := by
  have hsupply : (s.storeSlack d fl.toNat ti.toNat).rd (F.TUNE_DOM_PLAN_SUPPLY d) = s.rd (F.TUNE_DOM_PLAN_SUPPLY d) :=
    s.storeSlack_rd d _ _ (by simp only [Fld.key, F.TUNE_DOM_PLAN_SUPPLY, F.TUNE_DOM_SLACK_FLOOR]; omega)
      (by simp only [Fld.key, F.TUNE_DOM_PLAN_SUPPLY, F.TUNE_DOM_SLACK_TIMING]; omega)
  refine ⟨_, exec_replanSettled_raises hfl hon hd hre hlow hmax, ?_, ?_, ?_, State.ended_regsKept fun g hne => ?_,
    State.ended_memKept rfl⟩
  · rw [State.ended_rd _ _ (Fld.notRun (by simp only [F.TUNE_DOM_PLAN_SUPPLY]; omega)),
      State.supplyRaised_supply _ (by rwa [hsupply]), hsupply]
  · rw [State.ended_rd _ _ (Fld.notRun (by simp only [F.TUNE_DOM_STAT_REPLANNING]; omega)), State.supplyRaised_replanning]
  · rw [State.ended_sys]
    rfl
  · simp only [List.mem_cons, List.not_mem_nil, or_false, forall_eq_or_imp, forall_eq] at hne
    obtain ⟨hfloor, htiming, htaps, hsup, hre⟩ := hne
    rw [State.supplyRaised_rd _ _ htaps hsup hre, s.storeSlack_rd d _ _ hfloor htiming]

end

/-! ## The ageing measurement (R442) -/

/-- What an ageing measurement leaves where no re-plan follows. -/
def State.aged (s : State) (d a f : Nat) : State :=
  let s := ((s.wr (F.TUNE_DOM_STAT_AGE_PS d) a).wr (F.TUNE_DOM_STAT_FORECAST_D d) f).noteSlack d
  let warn := s.floored d && decide (f ≤ 365)
  let s := if warn ∧ ¬ s.isSet (F.TUNE_DOM_STAT_WARN d) then
      s.raiseEvent 0x0002 (unitOf bTUNE) (evtData [(1, d), (1, alarmForecast)]) else s
  s.wrB (F.TUNE_DOM_STAT_WARN d) warn

section
variable (s : State) (d a f : Nat)

theorem State.aged_rd {g : Fld} (hage : g.key ≠ (F.TUNE_DOM_STAT_AGE_PS d).key)
    (hfore : g.key ≠ (F.TUNE_DOM_STAT_FORECAST_D d).key) (hwarn : g.key ≠ (F.TUNE_DOM_STAT_WARN d).key)
    (hdropped : g.key ≠ F.HCP_EVT_STAT_DROPPED.key) (hpending : g.key ≠ F.HCP_EVT_STAT_PENDING.key) :
    (s.aged d a f).rd g = s.rd g := by
  unfold State.aged
  extract_lets s1 warn s2
  have h1 : s1.rd g = s.rd g := by simp [s1, State.rd_wr_other, hage, hfore]
  rw [State.wrB_eq, State.rd_wr_other _ _ hwarn, ← h1]
  simp only [s2]
  split
  · exact s1.raiseEvent_rd _ _ _ hdropped hpending
  · rfl

theorem State.aged_mem : (s.aged d a f).mem = s.mem := by
  simp only [State.aged]
  split <;> simp

/-- A field of the register TUNE_DOM_STAT but WARN, as the measurement's two writes leave it. -/
theorem State.aged_stat {g : Fld} (hd : d < 50) (hg : g.addr = 0x40020300 + 4 * d) (hlo : g.lo < 32) (hwarn : g.lo ≠ 4) :
    (s.aged d a f).rd g = ((s.wr (F.TUNE_DOM_STAT_AGE_PS d) a).wr (F.TUNE_DOM_STAT_FORECAST_D d) f).rd g := by
  unfold State.aged
  extract_lets s1 warn s2
  rw [State.wrB_eq, State.rd_wr_other _ _ (by simp only [Fld.key, F.TUNE_DOM_STAT_WARN, hg]; omega)]
  simp only [s2]
  split
  · exact s1.raiseEvent_rd _ _ _ (by simp only [Fld.key, F.HCP_EVT_STAT_DROPPED, hg]; omega)
      (by simp only [Fld.key, F.HCP_EVT_STAT_PENDING, hg]; omega)
  · rfl

theorem State.aged_age (hd : d < 50) (ha : a < 2 ^ 8) : (s.aged d a f).rd (F.TUNE_DOM_STAT_AGE_PS d) = a := by
  rw [s.aged_stat d a f hd rfl (by simp [F.TUNE_DOM_STAT_AGE_PS]) (by simp [F.TUNE_DOM_STAT_AGE_PS]),
    State.rd_wr_other _ _ (by simp only [Fld.key, F.TUNE_DOM_STAT_AGE_PS, F.TUNE_DOM_STAT_FORECAST_D]; omega)]
  exact State.rd_wr_fits _ _ ha

theorem State.aged_forecast (hd : d < 50) (hf : f < 2 ^ 16) : (s.aged d a f).rd (F.TUNE_DOM_STAT_FORECAST_D d) = f := by
  rw [s.aged_stat d a f hd rfl (by simp [F.TUNE_DOM_STAT_FORECAST_D]) (by simp [F.TUNE_DOM_STAT_FORECAST_D])]
  exact State.rd_wr_fits _ _ hf

theorem State.aged_warn : (s.aged d a f).isSet (F.TUNE_DOM_STAT_WARN d) = (s.floored d && decide (f ≤ 365)) := by
  have hfl : ((s.wr (F.TUNE_DOM_STAT_AGE_PS d) a).wr (F.TUNE_DOM_STAT_FORECAST_D d) f).floored d = s.floored d :=
    s.floored_congr d (by
      rw [State.rd_wr_other _ _ (by simp only [Fld.key, F.TUNE_DOM_STAT_HAS_FLOOR, F.TUNE_DOM_STAT_FORECAST_D]; omega),
        State.rd_wr_other _ _ (by simp only [Fld.key, F.TUNE_DOM_STAT_HAS_FLOOR, F.TUNE_DOM_STAT_AGE_PS]; omega)])
  have hbit : ∀ b : Bool, (b2n b % 2 ^ 1 != 0) = b := by decide
  have hwr : (s.aged d a f).rd (F.TUNE_DOM_STAT_WARN d) = b2n (s.floored d && decide (f ≤ 365)) % 2 ^ 1 := by
    rw [← hfl]
    exact State.rd_wr_same ..
  rw [State.isSet, hwr]
  exact hbit _

end

theorem exec_ageingMeasure_off {d : Fin 50} {a : BitVec 8} {f : BitVec 16} {s : State} (hon : s.blockOn bTUNE = true)
    (hd : s.isOn d = true) (hen : s.isSet F.TUNE_CTRL_EN = false) :
    exec (.ageingMeasure d a f) s = .next (s.ended (s.aged d a.toNat f.toNat)) := by
  have hen' : (s.aged d a.toNat f.toNat).isSet F.TUNE_CTRL_EN = false := by
    rw [State.isSet, s.aged_rd _ _ _ (by simp only [Fld.key, F.TUNE_CTRL_EN, F.TUNE_DOM_STAT_AGE_PS]; omega)
      (by simp only [Fld.key, F.TUNE_CTRL_EN, F.TUNE_DOM_STAT_FORECAST_D]; omega)
      (by simp only [Fld.key, F.TUNE_CTRL_EN, F.TUNE_DOM_STAT_WARN]; omega) (by decide) (by decide)]
    exact hen
  have hout : s.ageing d a.toNat f.toNat = (.done, s.aged d a.toNat f.toNat) := by
    unfold State.ageing
    rw [if_pos ⟨hon, hd⟩]
    exact if_neg fun h => Bool.noConfusion (hen'.symm.trans h.1)
  change finish s (State.replanEnd (s.ageing d a.toNat f.toNat) d) = _
  rw [hout]
  rfl

theorem exec_planStore {s : State} (hon : s.blockOn bTUNE = true) (hflash : s.allOn [0, 44] = true)
    (hw : s.slot.noFlashWrite = false) :
    exec .planStore s = .next (s.ended { s with sys := { s.sys with
      plans := (List.range 50).map (fun d => (d, s.rd (F.TUNE_DOM_PLAN_TAPS d), s.rd (F.TUNE_DOM_PLAN_SUPPLY d)))
      planDirty := false } }) := by
  change finish s s.planStore = _
  rw [State.planStore, if_pos ⟨hon, hflash, by simp [hw]⟩]
  rfl

/-- Settles O19. -/
theorem tuningCommands : Obligations.TuningCommands := by
  refine ⟨tuneMeasure_stores, fun d fl ti s hon hd hre hfl hlow hmax => replanSettled_raises hfl hon hd hre hlow hmax,
    fun d a f s hon hd hen => ?_, fun s hon hflash hw => ?_⟩
  · refine ⟨_, exec_ageingMeasure_off hon hd hen, ?_, ?_, ?_, State.ended_regsKept fun g hne => ?_,
      State.ended_memKept (s.aged_mem ..)⟩
    · rw [State.ended_rd _ _ (Fld.notRun (by simp only [F.TUNE_DOM_STAT_AGE_PS]; omega)), s.aged_age _ _ _ d.isLt a.isLt]
    · rw [State.ended_rd _ _ (Fld.notRun (by simp only [F.TUNE_DOM_STAT_FORECAST_D]; omega)),
        s.aged_forecast _ _ _ d.isLt f.isLt]
    · rw [State.ended_isSet _ _ (Fld.notRun (by simp only [F.TUNE_DOM_STAT_WARN]; omega)), s.aged_warn]
    · simp only [List.mem_cons, List.not_mem_nil, or_false, forall_eq_or_imp, forall_eq] at hne
      obtain ⟨hage, hfore, hwarn, hdropped, hpending⟩ := hne
      exact s.aged_rd _ _ _ hage hfore hwarn hdropped hpending
  · refine ⟨_, exec_planStore hon hflash hw, ?_, ?_, State.ended_regsKept fun g _ => rfl, State.ended_memKept rfl⟩
    · rw [State.ended_sys]
    · rw [State.ended_sys]

end Sys2Proof.Machine
end

section
/-!
PROOFS. The Pegbox (R113, R116, R128): an open packet and a claim that no Pegbox port and no Fretboard port can have.
-/
namespace Sys2Proof.Machine

/-! ## A data word of a packet at Pegbox port 1024 -/

/-- The first word of a packet of port 0 under TAG 0. -/
def firstWord : FWord := mkWord 16 0 kWrite 0 false 0 0 0

/-- The context of that packet, opened at "Pegbox port 1024". -/
def strayCtx : Ctx := ⟨.open, 1024, 0, false, 0, 0, 0, 0, false, none, 0⟩

/-- The machine with that context, ten free cells, of which the first has a single-bit tag error, and the credit to take
one. -/
def strayPegbox : State :=
  { resetWith [(F.PEG_CELL_FREE_FREE, 10), (F.PEG_FREE_WARN_LEVEL, 0)] with
    peg := { PegState.start with
      tags := [(0, ⟨1, false, 0, false, 0, .single⟩)]
      ctxs := [(0, strayCtx)] } }

/-- The counter that "Pegbox port 1024" would have for corrected tags lies in the MOVER block. -/
theorem strayPegbox_counter : ∀ b ∈ [bPEG], inBlock b (F.PEG_PCNT_COUNT 1024 15).key = false := by decide

theorem strayPegbox_takes :
    strayPegbox.ctx firstWord.src.toNat firstWord.tag.toNat = some strayCtx ∧ firstWord.poison = 0 ∧
      (strayPegbox.tag strayPegbox.peg.freeHead).err ≠ .double ∧
      strayCtx.cells + 1 ≤ strayPegbox.maxPktCells strayCtx.queue ∧
      strayPegbox.popGranted firstWord.src.toNat = true ∧
      ¬ (strayPegbox.rd F.PEG_CELL_FREE_FREE - 1 < strayPegbox.rd F.PEG_FREE_WARN_LEVEL ∧
        strayPegbox.rd F.PEG_FREE_WARN_LEVEL ≤ strayPegbox.rd F.PEG_CELL_FREE_FREE) ∧
      strayPegbox.rd F.PEG_CELL_FREE_FREE ≤ nCells := by
  decide +kernel

theorem strayPegbox_counts :
    (strayPegbox.pegData firstWord).rd (F.PEG_PCNT_COUNT 1024 15) ≠ strayPegbox.rd (F.PEG_PCNT_COUNT 1024 15) := by
  decide +kernel

/-- Refutes O20: the clause of a data word asks nothing of the context's Pegbox port; the corrected tag error of the popped
cell is counted by that port's counter, which for a port above 3 may lie outside the PEG block. -/
theorem not_pegboxWriting : ¬ Obligations.PegboxWriting := by
  rintro ⟨-, -, hword, -⟩
  obtain ⟨hctx, hpoison, htag, hcells, hpop, hlow, hfree⟩ := strayPegbox_takes
  obtain ⟨t, -, hexec, -, -, -, -, -, hkept, -⟩ :=
    hword firstWord strayCtx strayPegbox hctx rfl hpoison htag hcells hpop hlow hfree
  obtain rfl := finish_inv hexec
  have hrun : notRun (F.PEG_PCNT_COUNT 1024 15).key := Fld.notRun (by decide)
  exact strayPegbox_counts ((State.ended_rd _ _ hrun).symm.trans (hkept _ hrun strayPegbox_counter))

/-! ## A claim of "port 16,384" -/

/-- The claim of queue 0's one-cell packet. -/
def strayClaim : Claim := ⟨0, 0, 16384, false, 0, 0, 1, 64, 0, false⟩

/-- The machine with that claim alone, its limit of 0 ms passed, and the claim counted where the port's count would lie. -/
def strayClaimed : State :=
  { resetWith [(F.PEG_CLAIM_TIMEOUT_MS, 0), (F.PEG_CLAIM_USE_USE 16384, 1)] with
    peg := { PegState.start with claims := [(0, strayClaim)] } }

theorem strayClaimed_expires :
    strayClaimed.peg.claims.find (0 : BitVec 20).toNat = some strayClaim ∧ strayClaimed.claimExpired strayClaim.stamp = true := by
  decide +kernel

/-- The count of "port 16,384" lies in the MOVER block. -/
theorem strayClaimed_use : ∀ b ∈ [bPEG], inBlock b (F.PEG_CLAIM_USE_USE 16384).key = false := by decide

theorem strayClaimed_falls :
    (strayClaimed.claimTimeout 0).rd (F.PEG_CLAIM_USE_USE 16384) ≠ strayClaimed.rd (F.PEG_CLAIM_USE_USE 16384) := by
  decide +kernel

/-- Refutes O21: the clause of a claim's time-out asks nothing of the claim's port; the count of open claims that falls may,
for a port above 31, lie outside the PEG block. -/
theorem not_pegboxClaims : ¬ Obligations.PegboxClaims := by
  rintro ⟨-, -, -, -, htimeout, -⟩
  obtain ⟨hclaim, hexpired⟩ := strayClaimed_expires
  obtain ⟨t, hexec, -, -, -, -, -, hkept, -⟩ := htimeout 0 strayClaim strayClaimed hclaim rfl hexpired rfl rfl
  obtain rfl := finish_inv hexec
  have hrun : notRun (F.PEG_CLAIM_USE_USE 16384).key := Fld.notRun (by decide)
  exact strayClaimed_falls ((State.ended_rd _ _ hrun).symm.trans (hkept _ hrun strayClaimed_use))

end Sys2Proof.Machine
end

section
/-!
PROOFS. Sympath (R212, R217): a graph image without a vertex in progress.
-/
namespace Sys2Proof.Machine

/-- The machine while the bulk mover copies the image at 0x50000000, whose header names no vertex; the first octet of its
vertex table is 5. -/
def emptyGraph : State :=
  { State.reset with
    mem := [⟨0x50001000, 5⟩]
    sym := { State.reset.sym with loading := some (0, 0, 0x50000000) } }

theorem emptyGraph_loads :
    emptyGraph.sym.loading = some (0, 0, 0x50000000) ∧ emptyGraph.symIdle = true ∧ emptyGraph.mem.wf = true := by
  decide +kernel

/-- Vertices from N_VERTICES up are zero: here the first. -/
theorem emptyGraph_vertex :
    (emptyGraph.graphLoaded 0).rd8 (0x02000000 + 0) ≠ emptyGraph.rd8 (0x50000000 + 4096 + 0) := by
  decide +kernel

/-- Refutes O28: the clause of a loaded graph has every octet of the first three tables be the image's, but the vertices from
N_VERTICES up are zeroed whatever the image holds there (R212). -/
theorem not_sympathCommands : ¬ Obligations.SympathCommands := by
  rintro ⟨-, -, -, hloaded, -⟩
  obtain ⟨hloading, hidle, hcanonical⟩ := emptyGraph_loads
  obtain ⟨t, hexec, -, -, -, -, -, -, -, hcopied, -⟩ := hloaded 0 0 0 0x50000000 emptyGraph hloading hidle hcanonical
  obtain rfl := finish_inv hexec
  have hsettled : (emptyGraph.ended (emptyGraph.graphLoaded 0)).rd8 (0x02000000 + 0) =
      (emptyGraph.graphLoaded 0).rd8 (0x02000000 + 0) := State.ended_rd8 _ _ _
  exact emptyGraph_vertex (hsettled.symm.trans (hcopied 0 (by decide)))

end Sys2Proof.Machine
end

section
/-!
PROOFS. The Gauge (R96, R251): an S0 output of a module that holds its outputs.
-/
namespace Sys2Proof.Machine

/-- A module that has found no configuration, START_STAT.PHASE 5, with PD36 ON and one pulse in the backlog of S0 output 0. -/
def heldPulse : State :=
  resetWith [(F.SYS_START_STAT_PHASE, 5), (F.PWR_DOM_STATE_STATE 36, domOn), (F.GAUGE_S0OUT_CFG_EN 0, 1), (F.GAUGE_S0OUT_BACKLOG_PENDING 0, 1)]

theorem heldPulse_due :
    heldPulse.isOn 36 = true ∧ heldPulse.isSet (F.GAUGE_S0OUT_CFG_EN (0 : Fin 4)) = true ∧
      0 < heldPulse.rd (F.GAUGE_S0OUT_BACKLOG_PENDING (0 : Fin 4)) ∧
      heldPulse.rd (F.GAUGE_S0OUT_BACKLOG_PENDING (0 : Fin 4)) < 2 ^ 16 ∧
      heldPulse.rd (F.GAUGE_S0OUT_CFG_ON_MS (0 : Fin 4)) + heldPulse.rd (F.GAUGE_S0OUT_CFG_OFF_MS (0 : Fin 4)) ≤ 1000000 := by
  decide +kernel

/-- R96: the output stays as it is. -/
theorem heldPulse_waits : (heldPulse.s0Pulse 0 1000000).out = heldPulse.out := by decide +kernel

/-- Refutes O30: the clause of an S0 output pulse does not ask that the module drive its outputs; one that holds them (R96)
sends no pulse. -/
theorem not_gaugeCommands : ¬ Obligations.GaugeCommands := by
  rintro ⟨hpulse, -⟩
  obtain ⟨hon, hen, hpos, hlt, hms⟩ := heldPulse_due
  obtain ⟨t, hexec, hout, -⟩ := hpulse 0 1000000 heldPulse hon hen hpos hlt hms
  obtain rfl := finish_inv hexec
  have hsame : (heldPulse.ended (heldPulse.s0Pulse 0 1000000)).out = heldPulse.out := by
    simp only [State.ended_out, heldPulse_waits]
  exact List.cons_ne_self _ _ (hout.symm.trans hsame)

end Sys2Proof.Machine
end

section
/-!
PROOFS. Rings (R96, R342): the join of a path on a module that holds its outputs.
-/
namespace Sys2Proof.Machine

/-- A module in position 5 of ring 3 that has found no configuration since its reset, START_STAT.PHASE 5: the domains of path A
are ON, its loop test has passed, HOLD_EN is 1, and both of its ports hold a security association. -/
def heldPath : State :=
  let s := resetWith
    [(F.SYS_START_STAT_PHASE, 5), (F.CAPO_RING_ID_RING, 3), (F.CAPO_RING_ID_POSITION, 5), (F.KEY_LC_ROOT_PRESENT, 1),
      (F.PWR_DOM_STATE_STATE 25, domOn), (F.PWR_DOM_STATE_STATE 27, domOn), (F.PWR_DOM_STATE_STATE 28, domOn),
      (F.SLOT_LOOPBACK_RESULT_A, 2), (F.SLOT_BYPASS_CTRL_HOLD_EN_A, 1),
      (F.RING_PORT_STAT_SA_OK 0 0, 1), (F.RING_PORT_STAT_SA_OK 0 1, 1)]
  { s with sys := { s.sys with cfg := some ⟨[], [], [], 0, [], [], [], []⟩ } }

theorem heldPath_mayJoin :
    heldPath.hasRing = true ∧ heldPath.allOn (ringDoms (0 : Fin 2)) = true ∧ heldPath.rd (fResult (0 : Fin 2)) = 2 ∧
      heldPath.isSet (fHoldEn (0 : Fin 2)) = true ∧ heldPath.isSet F.KEY_LC_ROOT_PRESENT = true ∧
      (heldPath.path (0 : Fin 2)).join = 0 ∧ heldPath.isSet F.SLOT_STATUS_EJECT_ACTIVE = false ∧
      heldPath.saOk (ringPort (0 : Fin 2) 0) = true ∧ heldPath.saOk (ringPort (0 : Fin 2) 1) = true := by
  decide +kernel

/-- R96: a module that holds its outputs leaves BYPASS_HOLD low. -/
theorem heldPath_holdStaysLow : (heldPath.pathJoin 0).rd (fHold 0) = 0 := by decide +kernel

/-- Refutes O47: the clause of joining a path does not ask that the module drive its outputs; one that holds them (R96) does
not raise BYPASS_HOLD. -/
theorem not_ringPaths : ¬ Obligations.RingPaths := by
  rintro ⟨hjoin, -⟩
  obtain ⟨hring, hon, hres, hen, hroot, hout, hej, hsa, hsb⟩ := heldPath_mayJoin
  obtain ⟨t, l, f, g, hexec, -, hhold, -⟩ := hjoin 0 heldPath hring hon hres hen hroot hout hej hsa hsb
  obtain rfl := finish_inv hexec
  have hlow : (heldPath.ended (heldPath.pathJoin 0)).rd (fHold 0) = 0 :=
    (State.ended_rd _ _ (Fld.notRun (by decide))).trans heldPath_holdStaysLow
  exact absurd (hlow.symm.trans hhold) (by decide)

end Sys2Proof.Machine
end

section
/-!
PROOFS. The keystore (R454, R458, R459): a state in which the pending replacements name a slot the table does not have.
-/
namespace Sys2Proof.Machine

/-- The state a command leaves is its effect, ended. -/
theorem eq_ended_of_finish {s u t : State} (h : finish s u = .next t) : t = s.ended u := finish_inv h

/-- A module in debug with the test root whose one pending replacement names slot 81,920. -/
def strayReplacement : State :=
  let s := resetWith [(F.KEY_LC_DEBUG_OPEN, 1), (F.KEY_LC_TEST_ROOT, 1)]
  { s with key := { s.key with debugEnd := some 0, replaces := [(81920, ⟨0, false, false⟩)] } }

theorem strayReplacement_expires :
    strayReplacement.isSet F.KEY_LC_DEBUG_OPEN = true ∧ strayReplacement.isSet F.KEY_LC_TEST_ROOT = true ∧
      0 ≤ strayReplacement.opSec := by
  decide +kernel

/-- Erasing the replacement writes the STATE of its slot, which for slot 81,920 is an address of the SLOT block. -/
theorem strayReplacement_writesSlotBlock :
    strayReplacement.debugExpiry.rd (F.KEY_SLOT_STAT_STATE 81920) = 1 ∧
      strayReplacement.rd (F.KEY_SLOT_STAT_STATE 81920) = 0 ∧
      inBlock bKEY (F.KEY_SLOT_STAT_STATE 81920).key = false := by
  decide +kernel

/-- Refutes O55: the clause of the debug window's end claims that no field outside KEY changes, of every state; the
replacements it erases may name a slot above 63, whose STATE the model writes at an address of another block. -/
theorem not_keyCommands : ¬ Obligations.KeyCommands := by
  rintro ⟨-, hexpiry, -⟩
  obtain ⟨hopen, htest, hend⟩ := strayReplacement_expires
  obtain ⟨t, hexec, -, -, -, hkept, -⟩ := hexpiry 0 strayReplacement rfl hopen htest hend
  obtain rfl := eq_ended_of_finish hexec
  obtain ⟨hwritten, hbefore, houtside⟩ := strayReplacement_writesSlotBlock
  have hnotRun : notRun (F.KEY_SLOT_STAT_STATE 81920).key := Fld.notRun (by decide)
  have hsame := hkept (F.KEY_SLOT_STAT_STATE 81920) hnotRun (by simpa using houtside)
  rw [State.ended_rd _ _ hnotRun, hwritten, hbefore] at hsame
  exact absurd hsame (by decide)

end Sys2Proof.Machine
end

section
/-!
PROOFS. Node images (R481, R483): the status of a node that a distribution does not aim at.
-/
namespace Sys2Proof.Machine

/-- A distribution of entry 0 to node slot 5, with nothing left to send. -/
def toNodeFive : State :=
  { State.reset with restr := { State.reset.restr with dist := some ⟨0, 5, 0, [], false, [], [], 0⟩ } }

theorem toNodeFive_dist : toNodeFive.restr.dist = some ⟨0, 5, 0, [], false, [], [], 0⟩ := rfl

/-- Node 6 is no target: its DONE is not taken. -/
theorem toNodeFive_ignoresSix : (toNodeFive.imgStatus 6 2 0 0 0).restr.dist.map (·.done) = some [] := by decide +kernel

/-- Refutes O58: the clause of IMG_STATUS takes the DONE of any node; the model, as R483, takes that of a target alone. -/
theorem not_nodeImageCommands : ¬ Obligations.NodeImageCommands := by
  rintro ⟨-, -, hstatus⟩
  obtain ⟨t, hexec, hrestr, -⟩ := hstatus 6 0 0 0 0 _ toNodeFive toNodeFive_dist (by decide +kernel)
  obtain rfl := eq_ended_of_finish hexec
  have hdone := congrArg (fun r => r.dist.map (·.done)) hrestr
  simp only [State.ended_restr] at hdone
  exact absurd (toNodeFive_ignoresSix.symm.trans hdone) (by decide)

end Sys2Proof.Machine
end

section
/-!
PROOFS. What the Pegbox leaves of the machine: putting a packet, claiming one and releasing a claim change the Pegbox's own
registers and state, its shadow copies, and, where the free cells run low (R135), the event store and the recorder.
-/
namespace Sys2Proof.Machine

/-! ## The frame -/

/-- The registers that the Pegbox may write: its own, the recorder's, and the two of the event store. -/
def pegKey (key : Nat) : Bool :=
  inBlock bPEG key || inBlock bREC key || key == F.HCP_EVT_STAT_DROPPED.key || key == F.HCP_EVT_STAT_PENDING.key

theorem pegKey_of_inBlock {key : Nat} (h : inBlock bPEG key = true) : pegKey key = true := by simp [pegKey, h]

/-- The part of the state that the Pegbox never writes. -/
def State.offPeg (s : State) : State :=
  { s with
    regs := [], shadow := [], pRec := [], mem := [], lanes := [], evts := [], evtSeq := 0, evtLost := false,
    recd := State.reset.recd, peg := State.reset.peg, sys := { s.sys with resetDue := false } }

/-- `t` differs from `s` at most in what the Pegbox may write. -/
structure PegFrame (s t : State) : Prop where
  offPeg : t.offPeg = s.offPeg
  rd : ∀ g : Fld, pegKey g.key = false → t.rd g = s.rd g
  shadow : t.shadow.filter (fun e => !inBlock bPEG e.1) = s.shadow.filter (fun e => !inBlock bPEG e.1)
  pRec : ∀ k, inBlock bPEG k = false → t.pRec.find k = s.pRec.find k
  low : ∀ a < 0x00780000, t.mem.read a = s.mem.read a

namespace PegFrame

theorem refl (s : State) : PegFrame s s := ⟨rfl, fun _ _ => rfl, rfl, fun _ _ => rfl, fun _ _ => rfl⟩

theorem trans {s t u : State} (h : PegFrame s t) (k : PegFrame t u) : PegFrame s u :=
  ⟨k.offPeg.trans h.offPeg, fun g hg => (k.rd g hg).trans (h.rd g hg), k.shadow.trans h.shadow,
    fun a ha => (k.pRec a ha).trans (h.pRec a ha), fun a ha => (k.low a ha).trans (h.low a ha)⟩

/-! ## What it keeps -/

section
variable {s t : State} (h : PegFrame s t)
include h

theorem kept {α : Type} (f : State → α) (hf : ∀ s : State, f s.offPeg = f s) : f t = f s := by
  rw [← hf t, h.offPeg, hf]

theorem pending : t.pending = s.pending := h.kept State.pending fun _ => rfl
theorem reqRegs : t.reqRegs = s.reqRegs := h.kept State.reqRegs fun _ => rfl
theorem latches : t.latches = s.latches := h.kept State.latches fun _ => rfl
theorem out : t.out = s.out := h.kept State.out fun _ => rfl
theorem io : t.io = s.io := h.kept State.io fun _ => rfl
theorem slot : t.slot = s.slot := h.kept State.slot fun _ => rfl
theorem time : t.time = s.time := h.kept State.time fun _ => rfl
theorem ring : t.ring = s.ring := h.kept State.ring fun _ => rfl
theorem key : t.key = s.key := h.kept State.key fun _ => rfl
theorem restr : t.restr = s.restr := h.kept State.restr fun _ => rfl
theorem field : t.field = s.field := h.kept State.field fun _ => rfl
theorem jrn : t.jrn = s.jrn := h.kept State.jrn fun _ => rfl
theorem cal : t.cal = s.cal := h.kept State.cal fun _ => rfl
theorem sym : t.sym = s.sym := h.kept State.sym fun _ => rfl
theorem gauge : t.gauge = s.gauge := h.kept State.gauge fun _ => rfl
theorem sound : t.sound = s.sound := h.kept State.sound fun _ => rfl
theorem scan : t.scan = s.scan := h.kept State.scan fun _ => rfl
theorem lamp : t.lamp = s.lamp := h.kept State.lamp fun _ => rfl
theorem hcp : t.hcp = s.hcp := h.kept State.hcp fun _ => rfl
theorem mover : t.mover = s.mover := h.kept State.mover fun _ => rfl
theorem ledgerDue : t.ledgerDue = s.ledgerDue := h.kept State.ledgerDue fun _ => rfl
theorem cfg : t.sys.cfg = s.sys.cfg := h.kept (fun x => x.sys.cfg) fun _ => rfl
theorem refTick : t.sys.refTick = s.sys.refTick := h.kept (fun x => x.sys.refTick) fun _ => rfl

theorem isSet {g : Fld} (hg : pegKey g.key = false) : t.isSet g = s.isSet g := by
  rw [State.isSet, h.rd g hg, State.isSet]

theorem isOn {d : Nat} (hd : d < 50) : t.isOn d = s.isOn d := by
  rw [State.isOn, State.dom, h.rd _ (by
    simp [pegKey, inBlock, blockBase, bPEG, bREC, blockNo, Fld.key, F.PWR_DOM_STATE_STATE, F.HCP_EVT_STAT_DROPPED,
      F.HCP_EVT_STAT_PENDING]
    omega), State.isOn, State.dom]

/-- Shadowed writes of another block stay. -/
theorem due {b : Nat} (hb : ∀ k, inBlock b k = true → inBlock bPEG k = false) :
    t.shadow.filter (fun e => inBlock b e.1) = s.shadow.filter (fun e => inBlock b e.1) := by
  have hsub : ∀ l : AMap Nat, l.filter (fun e => inBlock b e.1) =
      (l.filter (fun e => !inBlock bPEG e.1)).filter (fun e => inBlock b e.1) := fun l => by
    rw [List.filter_filter]
    refine List.filter_congr fun e _ => ?_
    cases hk : inBlock b e.1 with
    | false => rfl
    | true => simp [hb e.1 hk]
  rw [hsub t.shadow, h.shadow, ← hsub]

end

/-! ## The steps the Pegbox takes -/

section
variable (s : State)

theorem wr {f : Fld} (hf : pegKey f.key = true) (v : Nat) : PegFrame s (s.wr f v) :=
  ⟨rfl, fun g hg => s.rd_wr_other v fun he => by rw [he, hf] at hg; exact absurd hg (by decide), rfl, fun _ _ => rfl,
    fun _ _ => rfl⟩

theorem setPeg (x : PegState) : PegFrame s { s with peg := x } := ⟨rfl, fun _ _ => rfl, rfl, fun _ _ => rfl, fun _ _ => rfl⟩

theorem setDesc (q : Nat) (d : Desc) : PegFrame s (s.setDesc q d) := setPeg s _
theorem setTag (c : Nat) (t : CellTag) : PegFrame s (s.setTag c t) := setPeg s _
theorem link (c n : Nat) : PegFrame s (s.link c n) := setTag s _ _

theorem send (w : FWord) : PegFrame s (s.send w) := ⟨rfl, fun _ _ => rfl, rfl, fun _ _ => rfl, fun _ _ => rfl⟩

theorem wrMem {a : Nat} (ha : 0x00780000 ≤ a) (n v : Nat) : PegFrame s (s.wrMem a n v) :=
  ⟨rfl, fun _ _ => rfl, rfl, fun _ _ => rfl, fun c hc => Memory.read_writeLE_other _ v (Or.inl (by omega))⟩

/-- A Pegbox port's counter. -/
theorem pcnt {k i : Nat} (hk : k < 4) (hi : i < 16) : PegFrame s (s.pcnt k i) :=
  wr s (pegKey_of_inBlock (decide_eq_true (by
    simp only [blockBase, bPEG, blockNo, Fld.key, F.PEG_PCNT_COUNT]
    omega))) _

theorem applyShadow {e : Nat × Nat} (he : inBlock bPEG e.1 = true) : PegFrame s (s.applyShadow e) := by
  refine ⟨rfl, fun g hg => ?_, ?_, fun k hk => ?_, fun _ _ => rfl⟩
  · have hne : g.key ≠ e.1 := fun heq => by
      rw [heq, pegKey_of_inBlock he] at hg
      exact absurd hg (by decide)
    exact AMap.get_set_other _ _ _ hne
  · change (s.shadow.filter _).filter _ = _
    rw [List.filter_filter]
    refine List.filter_congr fun x _ => ?_
    by_cases hx : x.1 = e.1
    · simp [hx, he]
    · simp [hx]
  · have hne : k ≠ e.1 := fun heq => by
      rw [heq, he] at hk
      exact absurd hk (by decide)
    change (if isPField e.1 then s.pRec.set e.1 e.2 else s.pRec).find k = _
    split
    · exact AMap.find_set_other _ _ hne
    · rfl

end

/-- A run of steps that each stay in the frame. -/
theorem foldl {β : Type} {f : State → β → State} (l : List β) (hf : ∀ s, ∀ x ∈ l, PegFrame s (f s x)) :
    ∀ s, PegFrame s (l.foldl f s) := by
  induction l with
  | nil => exact refl
  | cons x l ih =>
    intro s
    exact (hf s x (List.mem_cons_self ..)).trans (ih (fun s y hy => hf s y (List.mem_cons_of_mem _ hy)) _)

theorem commit (s : State) : PegFrame s (s.commit bPEG) := by
  unfold State.commit State.commitSel
  extract_lets due
  split
  · exact refl s
  · refine (foldl due (fun t e he => applyShadow t ?_) s).trans (wr _ (by decide) _)
    have := (List.mem_filter.mp he).2
    simpa using this

theorem boundary (s : State) (q : Nat) : PegFrame s (s.boundary q) := by
  unfold State.boundary
  split
  · exact refl s
  · extract_lets u
    refine trans ?_ (commit u)
    simp only [u]
    split
    · exact ((setDesc s _ _).trans (setPeg _ _)).trans (wr _ (by decide) _)
    · exact refl s

theorem qPort_lt (q : Nat) : qPort q < 4 := by
  unfold qPort bits
  omega

theorem pushChain (s : State) (first lastC n : Nat) : PegFrame s (s.pushChain first lastC n) := by
  unfold State.pushChain
  split
  · exact refl s
  · exact ((link s _ _).trans (setPeg _ _)).trans (wr _ (by decide) _)

/-! ## The recorder and the event store (R135) -/

theorem raiseEvent (s : State) (cls unit : Nat) (data : List Byte) : PegFrame s (s.raiseEvent cls unit data) := by
  have hreg : PegFrame s (s.wr F.HCP_EVT_STAT_PENDING 0) := wr s (by decide) _
  refine ⟨?_, fun g hg => ?_, ?_, fun k _ => ?_, fun a _ => ?_⟩
  · simp only [State.raiseEvent]
    split <;> rfl
  · refine State.raiseEvent_rd s cls unit data (fun he => ?_) (fun he => ?_) <;>
      · rw [he] at hg
        exact absurd hg (by decide)
  · simp only [State.raiseEvent]
    split <;> rfl
  · simp only [State.raiseEvent]
    split <;> rfl
  · rw [State.raiseEvent_mem]

theorem recReg {f : Fld} (hf : inBlock bREC f.key = true) : pegKey f.key = true := by simp [pegKey, hf]

theorem recCnt (s : State) {i : Nat} (hi : i < 16) : PegFrame s (s.recCnt i) :=
  wr s (recReg (decide_eq_true (by
    simp only [blockBase, bREC, blockNo, Fld.key, F.REC_CNT_COUNT]
    omega))) _

theorem binInc (s : State) {k : Nat} (hk : k < 16) (i : Nat) : PegFrame s (s.binInc k i) := by
  unfold State.binInc
  extract_lets a n fl
  have ha : 0x00780000 ≤ pageAddr k := by unfold pageAddr; omega
  split
  · refine ((wrMem s (by omega) _ _).trans (wr _ (recReg (decide_eq_true ?_)) _)).trans (recCnt _ (by decide))
    simp only [blockBase, bREC, blockNo, Fld.key, F.REC_BIND_STAT_SATURATED]
    omega
  · exact wrMem s (by omega) _ _

theorem pageCount (s : State) {k : Nat} (hk : k < 16) (v : Int) : PegFrame s (s.pageCount k v) := by
  have ha : 0x00780000 ≤ pageAddr k := by unfold pageAddr; omega
  unfold State.pageCount State.pageUpdate
  exact (((wrMem s (by omega) _ _).trans (binInc _ hk _)).trans (wrMem _ (by omega) _ _)).trans (wrMem _ (by omega) _ _)

theorem queueSnap (s : State) (code : Nat) (val : Int) (data : List Byte) : PegFrame s (s.queueSnap code val data) := by
  unfold State.queueSnap
  split
  · exact recCnt s (by decide)
  · exact ⟨rfl, fun _ _ => rfl, rfl, fun _ _ => rfl, fun _ _ => rfl⟩

theorem recTrigger (s : State) (code : Nat) (val : Int) (data : List Byte) : PegFrame s (s.recTrigger code val data) := by
  unfold State.recTrigger
  split
  · exact refl s
  · split
    · split
      · exact recCnt s (by decide)
      · exact queueSnap s _ _ _
    · split
      case h_1 k hk =>
        have hk : k < 16 := List.mem_range.mp (List.mem_of_find?_eq_some hk)
        exact (pageCount s hk val).trans (recCnt _ (by decide))
      case h_2 =>
        extract_lets held r u
        have hu : PegFrame s u := ⟨rfl, fun _ _ => rfl, rfl, fun _ _ => rfl, fun _ _ => rfl⟩
        split
        · exact recCnt s (by decide)
        · split
          · exact recCnt s (by decide)
          · split
            · exact recCnt s (by decide)
            · exact hu.trans (queueSnap _ _ _ _)

theorem freeFell (s : State) (before : Nat) : PegFrame s (s.freeFell before) := by
  unfold State.freeFell
  extract_lets free u lvl
  have hu : PegFrame s u := by
    simp only [u]
    split
    · exact wr s (by decide) _
    · exact refl s
  split
  · exact ((hu.trans (wr _ (by decide) _)).trans (raiseEvent _ _ _ _)).trans (recTrigger _ _ _ _)
  · exact hu

/-! ## Cells, packets and claims -/

theorem tagErrorAt (s : State) (q c : Nat) : PegFrame s (s.tagErrorAt q c) :=
  (wr s (by decide) _).trans (wr _ (by decide) _)

theorem tagCorrected (s : State) {k : Nat} (hk : k < 4) (q c : Nat) : PegFrame s (s.tagCorrected k q c) :=
  (((setTag s _ _).trans (tagErrorAt _ _ _)).trans (wr _ (by decide) _)).trans (pcnt _ hk (by decide))

theorem tagsRead {k : Nat} (hk : k < 4) (q n : Nat) : ∀ (s : State) (c : Nat), PegFrame s (s.tagsRead k q n c) := by
  induction n with
  | zero => exact fun s _ => refl s
  | succ n ih =>
    intro s c
    have hone : PegFrame s (s.tagRead k q c) := by
      unfold State.tagRead
      split
      · exact tagCorrected s hk q c
      · exact refl s
    exact hone.trans (ih _ _)

theorem quarantineCells (s : State) (n : Nat) : PegFrame s (s.quarantineCells n) := by
  unfold State.quarantineCells
  split
  · exact refl s
  · exact (setPeg s _).trans (wr _ (by decide) _)

/-- USE of a port, of its cells or its claims. -/
theorem wrUse (s : State) {p : Nat} (hp : p < 32) (v : Nat) :
    PegFrame s (s.wr (F.PEG_CREDIT_USE_USE p) v) ∧ PegFrame s (s.wr (F.PEG_CLAIM_USE_USE p) v) := by
  constructor <;> refine wr s (pegKey_of_inBlock (decide_eq_true ?_)) v
  · simp only [blockBase, bPEG, blockNo, Fld.key, F.PEG_CREDIT_USE_USE]
    omega
  · simp only [blockBase, bPEG, blockNo, Fld.key, F.PEG_CLAIM_USE_USE]
    omega

theorem freeKey : pegKey F.PEG_CELL_FREE_FREE.key = true := by decide

theorem resetDue (s : State) (b : Bool) : PegFrame s { s with sys := { s.sys with resetDue := b } } :=
  ⟨rfl, fun _ _ => rfl, rfl, fun _ _ => rfl, fun _ _ => rfl⟩

theorem pop (s : State) {k p : Nat} (hk : k < 4) (hp : p < 32) : PegFrame s (s.pop k p).2 := by
  unfold State.pop
  extract_lets c before peg s1 s2 s3 sys s4 s5
  have h2 : PegFrame s s2 := ((setPeg s _).trans (wr _ freeKey _)).trans (wrUse _ hp _).1
  have h5 : PegFrame s2 s5 := by
    simp only [s5]
    split
    · exact refl s2
    · exact tagCorrected s2 hk _ _
    · have h3 : PegFrame s2 s3 := (tagErrorAt s2 _ _).trans (wr _ (by decide) _)
      have h4 : PegFrame s3 s4 := ⟨rfl, fun _ _ => rfl, rfl, fun _ _ => rfl, fun _ _ => rfl⟩
      exact ((h3.trans h4).trans (quarantineCells _ _)).trans (wr _ (by decide) _)
  exact (h2.trans h5).trans (freeFell _ _)

theorem takeCell (s : State) {p : Nat} (hp : p < 32) {c : Ctx} (hc : c.k < 4) (data : Nat) :
    PegFrame s (s.takeCell p c data).2 ∧ (s.takeCell p c data).1.k = c.k := by
  refine ⟨?_, rfl⟩
  have hpop := pop s hc hp
  unfold State.takeCell
  generalize s.pop c.k p = r at hpop ⊢
  obtain ⟨cell, u⟩ := r
  dsimp only at hpop ⊢
  have hstore : PegFrame u (u.storeCell cell data) := wrMem u (by omega) _ _
  split
  · exact (hpop.trans hstore).trans (setTag _ _ _)
  · exact ((hpop.trans hstore).trans (setTag _ _ _)).trans (link _ _ _)

theorem takeLines {p : Nat} (hp : p < 32) (l : List (Nat × Nat)) :
    ∀ (s : State) (c : Ctx), c.k < 4 → PegFrame s (s.takeLines p c l).2.2 ∧ (s.takeLines p c l).2.1.k = c.k := by
  induction l with
  | nil => exact fun s c _ => ⟨refl s, rfl⟩
  | cons e l ih =>
    intro s c hc
    obtain ⟨v, vb⟩ := e
    unfold State.takeLines
    split
    · obtain ⟨hcell, hk⟩ := takeCell s hp hc v
      obtain ⟨hrest, hk'⟩ := ih (s.takeCell p c v).2 { (s.takeCell p c v).1 with vb := vb } (by rw [← hk] at hc; exact hc)
      exact ⟨hcell.trans hrest, hk'.trans hk⟩
    · exact ⟨refl s, rfl⟩

theorem markDesc (s : State) (q r : Nat) : PegFrame s (s.markDesc q r) := by
  unfold State.markDesc
  extract_lets d
  split
  · exact setDesc s _ _
  · split
    · exact setDesc s _ _
    · exact refl s

theorem reasonCnt_lt (r : Nat) : reasonCnt r < 16 := by
  unfold reasonCnt
  split <;> decide

theorem rewindCells (s : State) {p : Nat} (hp : p < 32) (r : Nat) {c : Ctx} (hc : c.k < 4) :
    PegFrame s (s.rewindCells p r c) :=
  (((pushChain s _ _ _).trans (wrUse _ hp _).1).trans (markDesc _ _ _)).trans (pcnt _ hc (reasonCnt_lt r))

theorem linkTail (s : State) (q : Nat) (exp : Bool) (first lastC cells : Nat) :
    PegFrame s (s.linkTail q exp first lastC cells) := by
  unfold State.linkTail
  extract_lets d u d'
  refine trans ?_ (setDesc u _ _)
  simp only [u]
  split <;> split <;> first | exact link s _ _ | exact refl s

theorem commitAct (s : State) {p : Nat} (hp : p < 32) {c : Ctx} (hc : c.k < 4) : PegFrame s (s.commitAct p c).2 := by
  unfold State.commitAct
  split
  · exact (rewindCells s hp _ hc).trans (boundary _ _)
  · exact ((((setTag s _ _).trans (linkTail _ _ _ _ _ _)).trans (wrUse _ hp _).1).trans
      (pcnt _ hc (by decide))).trans (boundary _ _)

/-- A packet put by one of the 32 Fretboard ports. -/
theorem pegPut (s : State) {p : Nat} (hp : p < 32) (q : Nat) (exp : Bool) (pkt : List Byte) :
    PegFrame s (s.pegPut p q exp pkt).2 := by
  have hk := qPort_lt q
  unfold State.pegPut
  extract_lets k c
  split
  · exact refl s
  · split
    · exact pcnt s hk (by decide)
    · split
      · exact pcnt s hk (by decide)
      · split
        · exact (markDesc s _ _).trans (pcnt _ hk (by decide))
        · obtain ⟨hlines, hck⟩ := takeLines hp (lines 144 pkt) s c hk
          generalize s.takeLines p c (lines 144 pkt) = r at hlines hck ⊢
          obtain ⟨ok, c', u⟩ := r
          have hc' : c'.k < 4 := hck ▸ hk
          cases ok with
          | false => exact hlines.trans (rewindCells u hp _ hc')
          | true => exact hlines.trans (commitAct u hp hc')

theorem endClaim (s : State) {cl : Claim} (hp : cl.port < 32) : PegFrame s (s.endClaim cl) :=
  (((setDesc s _ _).trans (setTag _ _ _)).trans (setPeg _ _)).trans (wrUse _ hp _).2

/-- A claim of one of the 32 Fretboard ports released. -/
theorem releaseClaim (s : State) {cl : Claim} (hp : cl.port < 32) : PegFrame s (s.releaseClaim cl) :=
  (((endClaim s hp).trans (pushChain _ _ _ _)).trans (pcnt _ (qPort_lt _) (by decide))).trans (boundary _ _)

/-- A packet claimed by one of the 32 Fretboard ports. -/
theorem claim (s : State) (q : Nat) {p : Nat} (hp : p < 32) : PegFrame s (s.claim q p).2 := by
  have hk := qPort_lt q
  unfold State.claim
  extract_lets d k first
  generalize s.walk 143 first 1 = w
  obtain ⟨lastC, n⟩ := w
  dsimp only
  exact ((((((tagsRead hk q n s first).trans (setDesc _ _ _)).trans (setTag _ _ _)).trans (setPeg _ _)).trans
    (wrUse _ hp _).2).trans (pcnt _ hk (by decide))).trans (boundary _ _)

/-- The claim that a unit holds on a queue is its own. -/
theorem port_of_heldClaim {s : State} {p q : Nat} {cl : Claim} (h : s.heldClaim p q = some cl) : cl.port = p := by
  unfold State.heldClaim at h
  split at h
  · split at h
    case isTrue hport =>
      cases h
      exact hport
    case isFalse => cases h
  · cases h

theorem port_claim (s : State) (q p : Nat) : (s.claim q p).1.port = p := rfl

/-- HCP takes the head packet of a queue. -/
theorem takeQueued (s : State) (q : Nat) : PegFrame s (s.takeQueued q) := by
  unfold State.takeQueued
  split
  case h_1 cl hcl => exact releaseClaim s (by rw [port_of_heldClaim hcl]; decide)
  case h_2 =>
    split
    · exact (claim s q (by decide)).trans (releaseClaim _ ((port_claim s q 31).trans_lt (by decide)))
    · exact refl s

theorem hcpRing (s : State) (dst : Nat) (bcast : Bool) (ofs : Nat) (m : List Byte) :
    PegFrame s (s.hcpRing dst bcast ofs m) := pegPut s (by decide) _ _ _

end PegFrame

end Sys2Proof.Machine
end

section
/-!
PROOFS. The gateway's forwarding (R383).
-/
namespace Sys2Proof.Machine

@[simp] theorem State.emit_out (s : State) (o : Output) : (s.emit o).out = o :: s.out := rfl

/-- A register stands in one block. -/
theorem inBlock_of_ne {b c k : Nat} (hbc : b ≠ c) (h : inBlock b k = true) : inBlock c k = false := by
  have hb := of_decide_eq_true h
  refine decide_eq_false fun hc => ?_
  unfold blockBase at hb hc
  omega

/-- With no shadowed write of HCP, an HCP command's end applies none. -/
theorem State.commit_of_no_due {s : State} {b : Nat} (h : s.shadow.filter (fun e => inBlock b e.1) = []) :
    s.commit b = s := by
  unfold State.commit State.commitSel
  rw [if_pos (Or.inr (by simpa using h))]

theorem State.due_of_pendingIn {s : State} {b : Nat} (h : s.pendingIn b = false) :
    s.shadow.filter (fun e => inBlock b e.1) = [] := by
  rw [List.filter_eq_nil_iff]
  intro e he
  have := List.any_eq_false.mp h e he
  simpa using this

/-- What an HCP command's end leaves where HCP has no shadowed write: RUN alone is written. -/
theorem State.hcpEnd_of_no_due {s : State} (h : s.shadow.filter (fun e => inBlock bHCP e.1) = []) :
    s.hcpEnd = s ∨ s.hcpEnd = s.wr (F.STATE_RUN bHCP) (b2n (s.isSet F.HCP_CTRL_EN)) := by
  unfold State.hcpEnd
  split
  · rw [State.commit_of_no_due h]
    exact Or.inr rfl
  · exact Or.inl rfl

section
variable {s : State} (h : s.shadow.filter (fun e => inBlock bHCP e.1) = [])
include h

theorem State.hcpEnd_hcp : s.hcpEnd.hcp = s.hcp := by
  rcases State.hcpEnd_of_no_due h with he | he <;> simp [he]

theorem State.hcpEnd_out : s.hcpEnd.out = s.out := by
  rcases State.hcpEnd_of_no_due h with he | he <;> simp [he]

theorem State.hcpEnd_mem : s.hcpEnd.mem = s.mem := by
  rcases State.hcpEnd_of_no_due h with he | he <;> simp [he]

theorem State.hcpEnd_rd {g : Fld} (hg : notRun g.key) : s.hcpEnd.rd g = s.rd g := by
  rcases State.hcpEnd_of_no_due h with he | he
  · rw [he]
  · rw [he, State.rd_wr_other _ _ (hg bHCP (by decide))]

end

/-! ## Requests -/

section
variable (h : HcpHdr) (g : BitVec 14) (typ : Byte) (d : List Byte) {s : State} (hrun : s.run bHCP = true)
  (hring : h.ring = false) (hother : g.toNat ≠ s.moduleId) (hassoc : s.hcp.assoc.find h.session.val = some true)
  (hpend : s.pendingIn bHCP = false)
include hrun hring hother hassoc

/-- A module that is no gateway answers BAD. -/
theorem State.requestForward_notGateway (hgate : s.isGateway = false) :
    s.requestForward h g.toNat typ.toNat d = (s.emit (.hcp h.session.val h.tid.toNat typ.toNat stBAD false [])).hcpEnd := by
  simp [State.requestForward, State.hcpAnswer, hrun, hring, hother, hassoc, hgate]

include hpend

theorem requestForward_refuses (hgate : s.isGateway = false) :
    ∃ t, exec (.requestForward h g typ d) s = .next t ∧ t.hcp = s.hcp ∧
      t.out = .hcp h.session.val h.tid.toNat typ.toNat stBAD false [] :: s.out ∧ RegsKept [] s t ∧ MemKept s t := by
  have hdue : (s.emit (.hcp h.session.val h.tid.toNat typ.toNat stBAD false [])).shadow.filter
      (fun e => inBlock bHCP e.1) = [] := State.due_of_pendingIn hpend
  refine ⟨_, finish_ended s (s.requestForward h g.toNat typ.toNat d), ?_⟩
  rw [State.requestForward_notGateway h g typ d hrun hring hother hassoc hgate]
  refine ⟨?_, ?_, fun g hg _ => ?_, State.ended_memKept ?_⟩
  · rw [State.ended_hcp, State.hcpEnd_hcp hdue, State.emit_hcp]
  · rw [State.ended_out, State.hcpEnd_out hdue]
    rfl
  · rw [State.ended_rd _ _ hg, State.hcpEnd_rd hdue hg, State.emit_rd]
  · rw [State.hcpEnd_mem hdue, State.emit_mem]

end

/-- A forwarded HELLO binds its association. -/
def State.boundBy (s : State) (k typ : Nat) : State :=
  if typ = tHELLO then
    (s.setHcp { s.hcp with assoc := s.hcp.assoc.set k true }).wr (F.HCP_SESSION_STAT_BOUND k) 1
  else s

section
variable (s : State) (k typ : Nat)

theorem State.boundBy_fwd : (s.boundBy k typ).hcp.fwd = s.hcp.fwd := by
  unfold State.boundBy
  split <;> rfl

theorem State.boundBy_out : (s.boundBy k typ).out = s.out := by
  unfold State.boundBy
  split <;> rfl

theorem State.boundBy_shadow : (s.boundBy k typ).shadow = s.shadow := by
  unfold State.boundBy
  split <;> rfl

theorem State.boundBy_cnt (i : Nat) (hk : k < 4) : (s.boundBy k typ).rd (F.HCP_CNT_COUNT i) = s.rd (F.HCP_CNT_COUNT i) := by
  unfold State.boundBy
  split
  · rw [State.rd_wr_other _ _ (by simp only [Fld.key, F.HCP_CNT_COUNT, F.HCP_SESSION_STAT_BOUND]; omega), State.setHcp_rd]
  · rfl

end

/-- A request sent on to the ring and noted. -/
def State.forwarded (s : State) (k tid target typ : Nat) (payload : List Byte) : State :=
  let s := s.hcpRing target false 2112 (hcpOctets false false false typ tid target k 0 payload)
  (s.setHcp { s.hcp with fwd := s.hcp.fwd ++ [(k, tid, target, typ)] }).hcpCnt 3

theorem requestForward_forwards (h : HcpHdr) (g : BitVec 14) (typ : Byte) (d : List Byte) {s : State}
    (hrun : s.run bHCP = true) (hring : h.ring = false) (hother : g.toNat ≠ s.moduleId)
    (hassoc : s.hcp.assoc.find h.session.val = some true) (hpend : s.pendingIn bHCP = false)
    (hgate : s.isGateway = true) (hsame : g.toNat / 64 = s.moduleId / 64)
    (hroom : (s.hcp.fwd.filter (fun f => f.1 == h.session.val)).length < 64) :
    ∃ t, exec (.requestForward h g typ d) s = .next t ∧
      t.hcp.fwd = s.hcp.fwd ++ [(h.session.val, h.tid.toNat, g.toNat, typ.toNat)] ∧
      t.rd (F.HCP_CNT_COUNT 3) = (s.rd (F.HCP_CNT_COUNT 3) + 1) % 2 ^ 32 ∧ t.out = s.out := by
  have hbound := State.boundBy_cnt s h.session.val typ.toNat 3 h.session.isLt
  have hfwd := State.boundBy_fwd s h.session.val typ.toNat
  have hout := State.boundBy_out s h.session.val typ.toNat
  have hshadow := State.boundBy_shadow s h.session.val typ.toNat
  have heffect : s.requestForward h g.toNat typ.toNat d =
      ((s.boundBy h.session.val typ.toNat).forwarded h.session.val h.tid.toNat g.toNat typ.toNat d).hcpEnd := by
    have hroom' : ¬ 64 ≤ (s.hcp.fwd.filter (fun f => f.1 == h.session.val)).length := by omega
    unfold State.requestForward
    simp only [hrun, hring, hother, hassoc, hgate, hsame, hroom', not_true_eq_false, false_and, ne_eq, or_self, if_false,
      Bool.false_eq_true]
    rfl
  generalize s.boundBy h.session.val typ.toNat = u at hbound hfwd hout hshadow heffect
  have hf := PegFrame.hcpRing u g.toNat false 2112 (hcpOctets false false false typ.toNat h.tid.toNat g.toNat h.session.val 0 d)
  have hdue : (u.forwarded h.session.val h.tid.toNat g.toNat typ.toNat d).shadow.filter (fun e => inBlock bHCP e.1) = [] :=
    (hf.due fun k => inBlock_of_ne (by decide)).trans (hshadow ▸ State.due_of_pendingIn hpend)
  have hnotRun : notRun (F.HCP_CNT_COUNT 3).key := Fld.notRun (by decide)
  refine ⟨_, finish_ended s (s.requestForward h g.toNat typ.toNat d), ?_⟩
  rw [heffect, State.ended_hcp, State.ended_out, State.ended_rd _ _ hnotRun, State.hcpEnd_hcp hdue, State.hcpEnd_out hdue,
    State.hcpEnd_rd hdue hnotRun]
  refine ⟨?_, ?_, hf.out.trans hout⟩
  · exact congrArg (· ++ _) ((congrArg HcpState.fwd hf.hcp).trans hfwd)
  · have hcnt := (hf.rd (F.HCP_CNT_COUNT 3) (by decide)).trans hbound
    rw [State.forwarded, State.hcpCnt, State.inc_eq, State.rd_wr_same, State.setHcp_rd, hcnt]
    rfl

/-! ## Responses, time-outs, events -/

section
variable (k : Fin 4) (tid : BitVec 16) (g : BitVec 14) (typ st : Byte) (dup : Bool) (d : List Byte) {s : State}
  (hrun : s.run bHCP = true)
include hrun

theorem forwardedResponse_passes (hfwd : s.hcp.fwd.contains (k.val, tid.toNat, g.toNat, typ.toNat) = true) :
    ∃ t, exec (.forwardedResponse k tid g typ st dup d) s = .next t ∧
      t.hcp.fwd = s.hcp.fwd.erase (k.val, tid.toNat, g.toNat, typ.toNat) ∧
      t.out = .hcp k tid.toNat typ.toNat st.toNat dup d :: s.out := by
  have hf := PegFrame.takeQueued s 1046593
  refine ⟨_, finish_ended s (s.forwardedResponse k.val tid.toNat g.toNat typ.toNat st.toNat dup d), ?_⟩
  rw [State.forwardedResponse, if_neg (by simp [hrun])]
  simp only [hf.hcp, hfwd, if_true, State.ended_hcp, State.ended_out, State.emit_hcp, State.setHcp_hcp, State.emit_out,
    State.setHcp_out, hf.out, and_self]

theorem forwardedResponse_unknown (hfwd : s.hcp.fwd.contains (k.val, tid.toNat, g.toNat, typ.toNat) = false) :
    ∃ t, exec (.forwardedResponse k tid g typ st dup d) s = .next t ∧ t.hcp = s.hcp ∧ t.out = s.out := by
  have hf := PegFrame.takeQueued s 1046593
  refine ⟨_, finish_ended s (s.forwardedResponse k.val tid.toNat g.toNat typ.toNat st.toNat dup d), ?_⟩
  rw [State.forwardedResponse, if_neg (by simp [hrun])]
  simp only [hf.hcp, hfwd, Bool.false_eq_true, if_false, State.ended_hcp, State.ended_out, hf.out, and_self]

end

theorem forwardTimeout_answers (k : Fin 4) (tid : BitVec 16) (n : Nat) (f : Nat × Nat × Nat × Nat) (s : State)
    (hrun : s.run bHCP = true) (hf : s.hcp.fwd.find? (fun f => f.1 == k.val && f.2.1 == tid.toNat) = some f)
    (hms : s.rd F.HCP_FWD_CFG_FWD_MS ≤ n) :
    ∃ t, exec (.forwardTimeout k tid n) s = .next t ∧ t.hcp = { s.hcp with fwd := s.hcp.fwd.erase f } ∧
      t.out = .hcp k tid.toNat f.2.2.2 stTIMEOUT false [] :: s.out ∧
      t.rd (F.HCP_CNT_COUNT 4) = (s.rd (F.HCP_CNT_COUNT 4) + 1) % 2 ^ 32 ∧ RegsKept [F.HCP_CNT_COUNT 4] s t ∧
      MemKept s t := by
  refine ⟨_, finish_ended s (s.forwardTimeout k.val tid.toNat n), ?_⟩
  rw [State.forwardTimeout, hf]
  simp only [hrun, hms, and_self, if_true]
  refine ⟨by simp [State.hcpCnt], by simp [State.hcpCnt], ?_, State.ended_regsKept fun g hne => ?_, State.ended_memKept rfl⟩
  · rw [State.ended_rd _ _ (Fld.notRun (by decide))]
    exact State.rd_wr_same _ _ _
  · exact State.rd_wr_other _ _ (hne _ (List.mem_singleton_self _))

theorem forwardedEvent_passes (src : BitVec 14) (lost : Bool) (d : List Byte) (s : State) (hrun : s.run bHCP = true)
    (hgate : s.isGateway = true) (hassoc : s.hcp.assoc.get (s.rd F.HCP_EVT_CFG_SESSION) false = true) :
    ∃ t, exec (.forwardedEvent src lost d) s = .next t ∧
      t.out = .hcpEvent (s.rd F.HCP_EVT_CFG_SESSION) src.toNat lost d :: s.out ∧ t.hcp = s.hcp := by
  have hf := PegFrame.takeQueued s 1046593
  have hsession := hf.rd F.HCP_EVT_CFG_SESSION (by decide)
  refine ⟨_, finish_ended s (s.forwardedEvent src.toNat lost d), ?_⟩
  rw [State.forwardedEvent, if_pos ⟨hrun, hgate⟩]
  simp only [State.hcpEventOut, hsession, hf.hcp, hassoc, if_true, State.ended_out, State.emit_out, hf.out, State.ended_hcp,
    State.emit_hcp, and_self]

/-- Settles O51, clause by clause. -/
theorem hcpForwarding : Obligations.HcpForwarding :=
  ⟨fun h g typ d _ hrun hring hother hassoc hpend =>
    ⟨requestForward_refuses h g typ d hrun hring hother hassoc hpend,
      requestForward_forwards h g typ d hrun hring hother hassoc hpend⟩,
   fun k tid g typ st dup d _ hrun =>
    ⟨forwardedResponse_passes k tid g typ st dup d hrun, forwardedResponse_unknown k tid g typ st dup d hrun⟩,
   forwardTimeout_answers, forwardedEvent_passes⟩

end Sys2Proof.Machine
end

section
/-!
PROOFS. The lamp drive's protection (R325 to R328).
-/
namespace Sys2Proof.Machine

/-- A field outside a block is none of its fields. -/
theorem key_ne_of_inBlock {b : Nat} {g f : Fld} (hg : inBlock b g.key = false) (hf : inBlock b f.key = true) :
    g.key ≠ f.key := fun he => by
  rw [← he, hg] at hf
  exact absurd hf (by decide)

/-! ## Strings and the matrix switched off -/

theorem AMap.find_drop {α : Type} (m : AMap α) {p : Nat → Bool} {a : Nat} (h : p a = true) : (m.drop p).find a = none :=
  AMap.find_filter_none m _ a fun _ => by simp [h]

theorem AMap.find_drop_of_none {α : Type} (m : AMap α) (p : Nat → Bool) {a : Nat} (h : m.find a = none) :
    (m.drop p).find a = none := by
  cases hp : p a with
  | true => exact AMap.find_drop m hp
  | false => exact (AMap.find_filter_keep m _ a fun _ => by simp [hp]).trans h

section
variable (s : State) (k : Nat)

theorem State.stringOff_rd {g : Fld} (h : g.key ≠ (F.LAMP_STR_STAT_RUNNING k).key) : (s.stringOff k).rd g = s.rd g :=
  s.rd_wr_other 0 h

theorem State.stringOff_running : (s.stringOff k).rd (F.LAMP_STR_STAT_RUNNING k) = 0 := s.rd_wr_same _ 0

theorem State.stringOff_lit {id : Nat} (h : id / 16 = k ∨ s.lamp.lit.find id = none) :
    (s.stringOff k).lamp.lit.find id = none := by
  change (s.lamp.lit.drop fun id => id / 16 == k).find id = none
  rcases h with h | h
  · exact AMap.find_drop _ (beq_iff_eq.mpr h)
  · exact AMap.find_drop_of_none _ _ h

theorem State.matrixOff_lit {id : Nat} (h : 256 ≤ id ∨ s.lamp.lit.find id = none) :
    s.matrixOff.lamp.lit.find id = none := by
  change (s.lamp.lit.drop fun id => decide (256 ≤ id)).find id = none
  rcases h with h | h
  · exact AMap.find_drop _ (decide_eq_true h)
  · exact AMap.find_drop_of_none _ _ h

@[simp] theorem State.matrixOff_rd (g : Fld) : s.matrixOff.rd g = s.rd g := rfl
@[simp] theorem State.matrixOff_mem : s.matrixOff.mem = s.mem := rfl

end

/-- Each string has its own RUNNING. -/
theorem running_key_ne {j k : Nat} (h : j ≠ k) : (F.LAMP_STR_STAT_RUNNING j).key ≠ (F.LAMP_STR_STAT_RUNNING k).key := by
  simp only [Fld.key, F.LAMP_STR_STAT_RUNNING]
  omega

/-- Every string below `n` switched off. -/
theorem State.stringsOff_spec (s : State) (n : Nat) :
    (∀ k < n, ((List.range n).foldl State.stringOff s).rd (F.LAMP_STR_STAT_RUNNING k) = 0) ∧
      (∀ g : Fld, (∀ k < n, g.key ≠ (F.LAMP_STR_STAT_RUNNING k).key) →
        ((List.range n).foldl State.stringOff s).rd g = s.rd g) ∧
      (∀ id < 16 * n, ((List.range n).foldl State.stringOff s).lamp.lit.find id = none) ∧
      ((List.range n).foldl State.stringOff s).mem = s.mem := by
  induction n with
  | zero => exact ⟨fun k h => absurd h (by omega), fun _ _ => rfl, fun id h => absurd h (by omega), rfl⟩
  | succ n ih =>
    obtain ⟨hrun, hrd, hlit, hmem⟩ := ih
    rw [List.range_succ, List.foldl_append]
    refine ⟨fun k hk => ?_, fun g hg => ?_, fun id hid => ?_, hmem⟩
    · by_cases hkn : k = n
      · rw [hkn]
        exact State.stringOff_running _ n
      · exact (State.stringOff_rd _ n (running_key_ne hkn)).trans (hrun k (by omega))
    · exact (State.stringOff_rd _ n (hg n (by omega))).trans (hrd g fun k hk => hg k (by omega))
    · refine State.stringOff_lit _ n ?_
      by_cases hid' : id < 16 * n
      · exact Or.inr (hlit id hid')
      · exact Or.inl (by omega)

/-! ## The commands -/

theorem State.lampReg_notRun {g : Fld} (h : 0x400D0000 ≤ g.addr ∧ g.addr < 0x400DFF00 ∧ g.lo < 32) : notRun g.key :=
  Fld.notRun ⟨by omega, h.2.2⟩

section
variable (k : Fin 6) {s : State}

/-- What an overcurrent leaves: with restarts left, the string waits for one. -/
theorem State.stringOver_eq {mA us : Nat} (hrun : s.run bLAMP = true)
    (hon : s.isSet (F.LAMP_STR_STAT_RUNNING k) = true) (hover : 120 * s.strCurrent k < 100 * mA) (hus : 10 ≤ us) :
    s.stringOver k mA us = if s.rd (F.LAMP_STR_STAT_RESTARTS k) < 3 then
        ((s.lampCnt k 4).stringOff k).setLampStr k { ((s.lampCnt k 4).stringOff k).lampStr k with restart := true }
      else ((s.lampCnt k 4).stringOff k).wr (F.LAMP_STR_STAT_OVERCURRENT k) 1 := by
  have hrestarts : ((s.lampCnt k 4).stringOff k).rd (F.LAMP_STR_STAT_RESTARTS k) = s.rd (F.LAMP_STR_STAT_RESTARTS k) := by
    rw [State.stringOff_rd _ _ (by simp only [Fld.key, F.LAMP_STR_STAT_RESTARTS, F.LAMP_STR_STAT_RUNNING]; omega),
      State.lampCnt, State.inc_eq,
      State.rd_wr_other _ _ (by simp only [Fld.key, F.LAMP_STR_STAT_RESTARTS, F.LAMP_CNT_COUNT]; omega)]
  unfold State.stringOver
  rw [if_pos ⟨hrun, hon, hover, hus⟩]
  simp only [hrestarts]

theorem stringOvercurrent_switchesOff (mA us : Nat) (hrun : s.run bLAMP = true)
    (hon : s.isSet (F.LAMP_STR_STAT_RUNNING k) = true) (hover : 120 * s.strCurrent k < 100 * mA) (hus : 10 ≤ us) :
    ∃ t, exec (.stringOvercurrent k mA us) s = .next t ∧ t.rd (F.LAMP_STR_STAT_RUNNING k) = 0 ∧
      t.rd (F.LAMP_CNT_COUNT k 4) = (s.rd (F.LAMP_CNT_COUNT k 4) + 1) % 2 ^ 32 ∧
      (s.rd (F.LAMP_STR_STAT_RESTARTS k) < 3 → (t.lampStr k).restart = true ∧
        t.rd (F.LAMP_STR_STAT_OVERCURRENT k) = s.rd (F.LAMP_STR_STAT_OVERCURRENT k)) ∧
      (3 ≤ s.rd (F.LAMP_STR_STAT_RESTARTS k) → t.rd (F.LAMP_STR_STAT_OVERCURRENT k) = 1) ∧
      RegsKept [F.LAMP_STR_STAT_RUNNING k, F.LAMP_CNT_COUNT k 4, F.LAMP_STR_STAT_OVERCURRENT k] s t ∧ MemKept s t := by
  have hcntKey : (F.LAMP_CNT_COUNT k 4).key ≠ (F.LAMP_STR_STAT_RUNNING k).key := by
    simp only [Fld.key, F.LAMP_CNT_COUNT, F.LAMP_STR_STAT_RUNNING]; omega
  have hcntOver : (F.LAMP_CNT_COUNT k 4).key ≠ (F.LAMP_STR_STAT_OVERCURRENT k).key := by
    simp only [Fld.key, F.LAMP_CNT_COUNT, F.LAMP_STR_STAT_OVERCURRENT]; omega
  have hrunOver : (F.LAMP_STR_STAT_RUNNING k).key ≠ (F.LAMP_STR_STAT_OVERCURRENT k).key := by
    simp only [Fld.key, F.LAMP_STR_STAT_RUNNING, F.LAMP_STR_STAT_OVERCURRENT]; omega
  have hnr := State.ended_rd s (s.stringOver k mA us) (g := F.LAMP_STR_STAT_RUNNING k)
    (State.lampReg_notRun (by simp only [F.LAMP_STR_STAT_RUNNING]; omega))
  have hnc := State.ended_rd s (s.stringOver k mA us) (g := F.LAMP_CNT_COUNT k 4)
    (State.lampReg_notRun (by simp only [F.LAMP_CNT_COUNT]; omega))
  have hno := State.ended_rd s (s.stringOver k mA us) (g := F.LAMP_STR_STAT_OVERCURRENT k)
    (State.lampReg_notRun (by simp only [F.LAMP_STR_STAT_OVERCURRENT]; omega))
  refine ⟨_, finish_ended s (s.stringOver k mA us), ?_⟩
  rw [hnr, hnc, hno]
  simp only [State.lampStr, State.ended_lamp]
  have hcnt : ((s.lampCnt k 4).stringOff k).rd (F.LAMP_CNT_COUNT k 4) = (s.rd (F.LAMP_CNT_COUNT k 4) + 1) % 2 ^ 32 :=
    (State.stringOff_rd _ _ hcntKey).trans (s.rd_wr_same _ _)
  have hrunning := State.stringOff_running (s.lampCnt k 4) k
  have hkept : ∀ g : Fld, g.key ≠ (F.LAMP_STR_STAT_RUNNING k).key → g.key ≠ (F.LAMP_CNT_COUNT k 4).key →
      ((s.lampCnt k 4).stringOff k).rd g = s.rd g := fun g h1 h2 =>
    (State.stringOff_rd _ _ h1).trans (s.rd_wr_other _ h2)
  have hmem : ((s.lampCnt k 4).stringOff k).mem = s.mem := rfl
  have heq := State.stringOver_eq k hrun hon hover hus
  by_cases hleft : s.rd (F.LAMP_STR_STAT_RESTARTS k) < 3
  · rw [if_pos hleft] at heq
    rw [heq]
    refine ⟨hrunning, hcnt, fun _ => ⟨?_, hkept _ hrunOver.symm hcntOver.symm⟩, fun h => absurd hleft (by omega),
      State.ended_regsKept fun g hne => ?_, State.ended_memKept hmem⟩
    · simp [State.setLampStr]
    · simp only [List.mem_cons, List.not_mem_nil, or_false, forall_eq_or_imp, forall_eq] at hne
      obtain ⟨h1, h2, -⟩ := hne
      exact hkept g h1 h2
  · rw [if_neg hleft] at heq
    rw [heq]
    refine ⟨(State.rd_wr_other _ _ hrunOver).trans hrunning, (State.rd_wr_other _ _ hcntOver).trans hcnt,
      fun h => absurd h hleft, fun _ => State.rd_wr_same _ _ _, State.ended_regsKept fun g hne => ?_,
      State.ended_memKept hmem⟩
    simp only [List.mem_cons, List.not_mem_nil, or_false, forall_eq_or_imp, forall_eq] at hne
    obtain ⟨h1, h2, h3⟩ := hne
    exact (State.rd_wr_other _ _ h3).trans (hkept g h1 h2)

theorem overcurrentRestart_restarts (ms : Nat) (hre : (s.lampStr k).restart = true) (hms : 1000 ≤ ms) :
    ∃ t, exec (.overcurrentRestart k ms) s = .next t ∧ (t.lampStr k).restart = false ∧
      t.rd (F.LAMP_STR_STAT_RESTARTS k) = (s.rd (F.LAMP_STR_STAT_RESTARTS k) + 1) % 4 ∧
      RegsKept [F.LAMP_STR_STAT_RESTARTS k] s t ∧ MemKept s t := by
  refine ⟨_, finish_ended s (s.overRestart k ms), ?_⟩
  rw [State.overRestart, if_pos ⟨hre, hms⟩,
    State.ended_rd _ _ (State.lampReg_notRun (by simp only [F.LAMP_STR_STAT_RESTARTS]; omega))]
  refine ⟨by simp [State.lampStr, State.setLampStr], State.rd_wr_same _ _ _, State.ended_regsKept fun g hne => ?_,
    State.ended_memKept rfl⟩
  exact State.rd_wr_other _ _ (hne _ (List.mem_singleton_self _))

end

theorem rowOvercurrent_darkens (mA us : Nat) (s : State) (hrun : s.run bLAMP = true)
    (hen : s.isSet F.LAMP_CTRL_MTX_EN = true) (hfault : s.isSet F.LAMP_STATUS_MATRIX_FAULT = false) (hmA : 2200 < mA)
    (hus : 10 ≤ us) :
    ∃ t, exec (.rowOvercurrent mA us) s = .next t ∧ t.rd F.LAMP_STATUS_MATRIX_FAULT = 1 ∧
      t.rd (F.LAMP_CNT_COUNT 6 4) = (s.rd (F.LAMP_CNT_COUNT 6 4) + 1) % 2 ^ 32 ∧
      (∀ id, 256 ≤ id → t.lamp.lit.find id = none) ∧
      RegsKept [F.LAMP_STATUS_MATRIX_FAULT, F.LAMP_CNT_COUNT 6 4] s t ∧ MemKept s t := by
  refine ⟨_, finish_ended s (s.rowOver mA us), ?_⟩
  rw [State.rowOver, if_pos ⟨hrun, hen, by simp [hfault], hmA, hus⟩, State.ended_rd _ _ (Fld.notRun (by decide)),
    State.ended_rd _ _ (Fld.notRun (by decide)), State.ended_lamp, State.matrixOff_rd, State.matrixOff_rd, State.lampCnt,
    State.inc_eq]
  refine ⟨?_, ?_, fun id hid => State.matrixOff_lit _ (Or.inl hid), State.ended_regsKept fun g hne => ?_,
    State.ended_memKept rfl⟩
  · rw [State.rd_wr_other _ _ (by decide)]
    exact State.rd_wr_same _ _ _
  · rw [State.rd_wr_same, State.rd_wr_other _ _ (by decide)]
    rfl
  · simp only [List.mem_cons, List.not_mem_nil, or_false, forall_eq_or_imp, forall_eq] at hne
    rw [State.matrixOff_rd, State.rd_wr_other _ _ hne.2, State.rd_wr_other _ _ hne.1]

section
variable (volt : BitVec 16) {s : State} (hon : s.isOn 42 = true)
include hon

theorem ledSupplyLow_darkens (hlow : volt.toNat < 2200) :
    ∃ t, exec (.ledSupplyLow volt) s = .next t ∧ t.rd F.LAMP_STATUS_SUPPLY_LOW = 1 ∧
      t.rd F.LAMP_SUPPLY_LED_IN = volt.toNat ∧ (∀ k, k < 6 → t.rd (F.LAMP_STR_STAT_RUNNING k) = 0) ∧
      (∀ id, id < 96 ∨ 256 ≤ id → t.lamp.lit.find id = none) ∧ BlocksKept [bLAMP] s t ∧ MemKept s t := by
  refine ⟨_, finish_ended s (s.ledLow volt.toNat), ?_⟩
  obtain ⟨hrun, hrd, hlit, hmem⟩ := State.stringsOff_spec (s.wr F.LAMP_SUPPLY_LED_IN volt.toNat) 6
  unfold State.ledLow
  rw [if_neg (by simp [hon])]
  simp only [if_pos hlow]
  generalize (List.range 6).foldl State.stringOff (s.wr F.LAMP_SUPPLY_LED_IN volt.toNat) = u at hrun hrd hlit hmem
  have hread : ∀ g : Fld, g.key ≠ F.LAMP_STATUS_SUPPLY_LOW.key →
      (((u.wr F.LAMP_STATUS_SUPPLY_LOW 1).matrixOff).setLamp { u.matrixOff.lamp with resume := false }).rd g = u.rd g :=
    fun g hg => u.rd_wr_other 1 hg
  rw [State.ended_rd _ _ (Fld.notRun (by decide)), State.ended_rd _ _ (Fld.notRun (by decide)), State.ended_lamp]
  refine ⟨u.rd_wr_same _ 1, ?_, fun k hk => ?_, fun id hid => ?_, State.ended_blocksKept fun g hg => ?_,
    State.ended_memKept hmem⟩
  · rw [hread _ (by decide), hrd _ (by decide), State.rd_wr_fits _ _ volt.isLt]
  · rw [State.ended_rd _ _ (State.lampReg_notRun (by simp only [F.LAMP_STR_STAT_RUNNING]; omega)),
      hread _ (by simp only [Fld.key, F.LAMP_STR_STAT_RUNNING, F.LAMP_STATUS_SUPPLY_LOW]; omega), hrun k hk]
  · exact u.matrixOff_lit (hid.symm.imp (fun h => h) (fun h => hlit _ (by omega)))
  · have hout : ∀ f : Fld, inBlock bLAMP f.key = true → g.key ≠ f.key := fun f =>
      key_ne_of_inBlock (hg bLAMP (List.mem_singleton_self _))
    rw [hread _ (hout _ (by decide)), hrd _ (fun k hk => hout _ (by interval_cases k <;> decide)),
      State.rd_wr_other _ _ (hout _ (by decide))]

theorem ledSupplyLow_reads (hok : 2200 ≤ volt.toNat) :
    ∃ t, exec (.ledSupplyLow volt) s = .next t ∧ t.rd F.LAMP_SUPPLY_LED_IN = volt.toNat ∧
      t.lamp = s.lamp ∧ RegsKept [F.LAMP_SUPPLY_LED_IN] s t ∧ MemKept s t := by
  refine ⟨_, finish_ended s (s.ledLow volt.toNat), ?_⟩
  unfold State.ledLow
  rw [if_neg (by simp [hon])]
  simp only [if_neg (Nat.not_lt.mpr hok)]
  rw [State.ended_rd _ _ (Fld.notRun (by decide)), State.ended_lamp]
  refine ⟨State.rd_wr_fits _ _ volt.isLt, rfl, State.ended_regsKept fun g hne => ?_, State.ended_memKept rfl⟩
  exact State.rd_wr_other _ _ (hne _ (List.mem_singleton_self _))

end

theorem ledSupplyResume_resumes (volt : BitVec 16) (ms : Nat) (s : State) (hon : s.isOn 42 = true)
    (hlow : s.isSet F.LAMP_STATUS_SUPPLY_LOW = true) (hvolt : 2300 < volt.toNat) (hms : 100 ≤ ms) :
    ∃ t, exec (.ledSupplyResume volt ms) s = .next t ∧ t.lamp = { s.lamp with resume := true } ∧
      t.rd F.LAMP_SUPPLY_LED_IN = volt.toNat ∧ RegsKept [F.LAMP_SUPPLY_LED_IN] s t ∧ MemKept s t := by
  refine ⟨_, finish_ended s (s.ledResume volt.toNat ms), ?_⟩
  rw [State.ledResume, if_pos ⟨hon, hlow, hvolt, hms⟩, State.ended_rd _ _ (Fld.notRun (by decide)), State.ended_lamp]
  refine ⟨rfl, State.rd_wr_fits _ _ volt.isLt, State.ended_regsKept fun g hne => ?_, State.ended_memKept rfl⟩
  exact State.rd_wr_other _ _ (hne _ (List.mem_singleton_self _))

/-! ## The NTCs (R328) -/

theorem ofSigned_lt (w : Nat) (x : Int) : ofSigned w x < 2 ^ w := by
  have hpos : (0 : Int) < ((2 ^ w : Nat) : Int) := by positivity
  have h1 := Int.emod_nonneg x hpos.ne'
  have h2 := Int.emod_lt_of_pos x hpos
  unfold ofSigned
  omega

section
variable (n : Fin 6) {s : State} (hrun : s.run bLAMP = true)
include hrun

theorem ntcRead_fault :
    ∃ t, exec (.ntcRead n none) s = .next t ∧ t.rd (F.LAMP_NTC_STAT_NTC_FAULT n) = 1 ∧
      t.rd (F.LAMP_NTC_STAT_SCALE n) = s.rd (F.LAMP_NTC_B_MIN_PCT n) % 2 ^ 8 ∧
      RegsKept [F.LAMP_NTC_STAT_NTC_FAULT n, F.LAMP_NTC_STAT_SCALE n] s t ∧ MemKept s t := by
  refine ⟨_, finish_ended s (s.ntcRead n none), ?_⟩
  rw [State.ntcRead, if_neg (by simp [hrun]),
    State.ended_rd _ _ (State.lampReg_notRun (by simp only [F.LAMP_NTC_STAT_NTC_FAULT]; omega)),
    State.ended_rd _ _ (State.lampReg_notRun (by simp only [F.LAMP_NTC_STAT_SCALE]; omega))]
  refine ⟨?_, State.rd_wr_same _ _ _, State.ended_regsKept fun g hne => ?_, State.ended_memKept rfl⟩
  · rw [State.rd_wr_other _ _ (by simp only [Fld.key, F.LAMP_NTC_STAT_NTC_FAULT, F.LAMP_NTC_STAT_SCALE]; omega)]
    exact State.rd_wr_same _ _ _
  · simp only [List.mem_cons, List.not_mem_nil, or_false, forall_eq_or_imp, forall_eq] at hne
    rw [State.rd_wr_other _ _ hne.2, State.rd_wr_other _ _ hne.1]

end

/-- THERMAL of NTC `n` at temperature `x` (R328). -/
def State.thermalAt (s : State) (n : Nat) (x : Int) : Bool :=
  let shut := 10 * toSigned 8 (s.rd (F.LAMP_NTC_B_T_SHUT n))
  decide (shut ≤ x) || (s.isSet (F.LAMP_NTC_STAT_THERMAL n) && decide (shut - 50 < x))

/-- What a good reading of NTC `n` stores. -/
def State.ntcStored (s : State) (n : Nat) (x : Int) : State :=
  (((s.wr (F.LAMP_NTC_STAT_NTC_FAULT n) 0).wr (F.LAMP_NTC_STAT_TEMP n) (ofSigned 16 x)).wr
    (F.LAMP_NTC_STAT_SCALE n) (s.scaleAt n x)).wrB (F.LAMP_NTC_STAT_THERMAL n) (s.thermalAt n x)

/-- The counts of units whose NTC has shut them off. -/
theorem State.ntcCounts_spec (n : Nat) (l : List Nat) (hl : ∀ u ∈ l, u < 7) :
    ∀ s : State, let t := l.foldl (fun s u => if s.unitNtc u = n then s.lampCnt u 6 else s) s
      (∀ g : Fld, inBlock bLAMP g.key = false ∨ g.key < 0x400D0800 * 32 → t.rd g = s.rd g) ∧
        t.lamp = s.lamp ∧ t.mem = s.mem := by
  induction l with
  | nil => exact fun s => ⟨fun _ _ => rfl, rfl, rfl⟩
  | cons u l ih =>
    intro s
    have hu := hl u (List.mem_cons_self ..)
    obtain ⟨hrd, hlamp, hmem⟩ := ih (fun v hv => hl v (List.mem_cons_of_mem _ hv))
      (if s.unitNtc u = n then s.lampCnt u 6 else s)
    refine ⟨fun g hg => (hrd g hg).trans ?_, hlamp.trans ?_, hmem.trans ?_⟩
    · split
      · refine s.rd_wr_other _ ?_
        rcases hg with hg | hg
        · refine key_ne_of_inBlock hg (decide_eq_true ?_)
          simp only [blockBase, bLAMP, blockNo, Fld.key, F.LAMP_CNT_COUNT]
          omega
        · have hkey : 0x400D0800 * 32 ≤ (F.LAMP_CNT_COUNT u 6).key := by
            simp only [Fld.key, F.LAMP_CNT_COUNT]
            omega
          omega
      · rfl
    · split <;> rfl
    · split <;> rfl

section
variable (s : State) (n : Nat) (x : Int)

theorem State.ntcStored_fault : (s.ntcStored n x).rd (F.LAMP_NTC_STAT_NTC_FAULT n) = 0 := by
  unfold State.ntcStored
  rw [State.wrB_eq, State.rd_wr_other _ _ (by simp only [Fld.key, F.LAMP_NTC_STAT_NTC_FAULT, F.LAMP_NTC_STAT_THERMAL]; omega),
    State.rd_wr_other _ _ (by simp only [Fld.key, F.LAMP_NTC_STAT_NTC_FAULT, F.LAMP_NTC_STAT_SCALE]; omega),
    State.rd_wr_other _ _ (by simp only [Fld.key, F.LAMP_NTC_STAT_NTC_FAULT, F.LAMP_NTC_STAT_TEMP]; omega), State.rd_wr_same]
  rfl

theorem State.ntcStored_temp : (s.ntcStored n x).rd (F.LAMP_NTC_STAT_TEMP n) = ofSigned 16 x := by
  unfold State.ntcStored
  rw [State.wrB_eq, State.rd_wr_other _ _ (by simp only [Fld.key, F.LAMP_NTC_STAT_TEMP, F.LAMP_NTC_STAT_THERMAL]; omega),
    State.rd_wr_other _ _ (by simp only [Fld.key, F.LAMP_NTC_STAT_TEMP, F.LAMP_NTC_STAT_SCALE]; omega)]
  exact State.rd_wr_fits _ _ (ofSigned_lt 16 x)

theorem State.ntcStored_scale : (s.ntcStored n x).rd (F.LAMP_NTC_STAT_SCALE n) = s.scaleAt n x % 2 ^ 8 := by
  unfold State.ntcStored
  rw [State.wrB_eq, State.rd_wr_other _ _ (by simp only [Fld.key, F.LAMP_NTC_STAT_SCALE, F.LAMP_NTC_STAT_THERMAL]; omega)]
  exact State.rd_wr_same _ _ _

theorem State.ntcStored_thermal : (s.ntcStored n x).rd (F.LAMP_NTC_STAT_THERMAL n) = b2n (s.thermalAt n x) := by
  refine State.rd_wr_fits _ _ ?_
  cases s.thermalAt n x
  · exact (by decide : b2n false < 2 ^ 1)
  · exact (by decide : b2n true < 2 ^ 1)

theorem ntcReg_inBlock {f : Fld} (hn : n < 6) (haddr : f.addr = 0x400D0240 + 4 * n) (hlo : f.lo < 32) :
    inBlock bLAMP f.key = true := decide_eq_true (by
  simp only [blockBase, bLAMP, blockNo, Fld.key]
  omega)

theorem State.ntcStored_rd (hn : n < 6) {g : Fld} (hg : inBlock bLAMP g.key = false) : (s.ntcStored n x).rd g = s.rd g := by
  have hout : ∀ f : Fld, f.addr = 0x400D0240 + 4 * n → f.lo < 32 → g.key ≠ f.key := fun f haddr hlo =>
    key_ne_of_inBlock hg (ntcReg_inBlock n hn haddr hlo)
  unfold State.ntcStored
  rw [State.wrB_eq, State.rd_wr_other _ _ (hout (F.LAMP_NTC_STAT_THERMAL n) rfl (by decide : 25 < 32)),
    State.rd_wr_other _ _ (hout (F.LAMP_NTC_STAT_SCALE n) rfl (by decide : 16 < 32)),
    State.rd_wr_other _ _ (hout (F.LAMP_NTC_STAT_TEMP n) rfl (by decide : 0 < 32)),
    State.rd_wr_other _ _ (hout (F.LAMP_NTC_STAT_NTC_FAULT n) rfl (by decide : 24 < 32))]

end

theorem ntcRead_good (n : Fin 6) {s : State} (hrun : s.run bLAMP = true) (r : Nat) (x : Int)
    (hx : Config.ntcTemp (s.rd (F.LAMP_NTC_A_RES_25 n)) (s.rd (F.LAMP_NTC_A_B n)) r = x) :
    ∃ t, exec (.ntcRead n (some r)) s = .next t ∧ t.rd (F.LAMP_NTC_STAT_NTC_FAULT n) = 0 ∧
      t.rd (F.LAMP_NTC_STAT_TEMP n) = ofSigned 16 x ∧ t.rd (F.LAMP_NTC_STAT_SCALE n) = s.scaleAt n x % 2 ^ 8 ∧
      (10 * toSigned 8 (s.rd (F.LAMP_NTC_B_T_SHUT n)) ≤ x → t.rd (F.LAMP_NTC_STAT_THERMAL n) = 1) ∧
      (x ≤ 10 * toSigned 8 (s.rd (F.LAMP_NTC_B_T_SHUT n)) - 50 → t.rd (F.LAMP_NTC_STAT_THERMAL n) = 0) ∧
      t.lamp = s.lamp ∧ BlocksKept [bLAMP] s t ∧ MemKept s t := by
  have hspec := State.ntcCounts_spec n (List.range 7) (fun u hu => List.mem_range.mp hu) (s.ntcStored n x)
  have heffect : s.ntcRead n (some r) = s.ntcStored n x ∨
      s.ntcRead n (some r) =
        (List.range 7).foldl (fun s u => if s.unitNtc u = n.val then s.lampCnt u 6 else s) (s.ntcStored n x) := by
    unfold State.ntcRead
    rw [if_neg (by simp [hrun])]
    simp only [hx]
    split
    · exact Or.inr rfl
    · exact Or.inl rfl
  obtain ⟨hrd, hlamp, hmem⟩ : (∀ g : Fld, inBlock bLAMP g.key = false ∨ g.key < 0x400D0800 * 32 →
      (s.ntcRead n (some r)).rd g = (s.ntcStored n x).rd g) ∧ (s.ntcRead n (some r)).lamp = s.lamp ∧
      (s.ntcRead n (some r)).mem = s.mem := by
    rcases heffect with he | he <;> rw [he]
    · exact ⟨fun _ _ => rfl, rfl, rfl⟩
    · exact hspec
  have hkey : ∀ lo, lo < 32 → (0x400D0240 + 4 * n.val) * 32 + lo < 0x400D0800 * 32 := fun lo hlo => by omega
  refine ⟨_, finish_ended s (s.ntcRead n (some r)), ?_⟩
  rw [State.ended_rd _ _ (State.lampReg_notRun (by simp only [F.LAMP_NTC_STAT_NTC_FAULT]; omega)),
    State.ended_rd _ _ (State.lampReg_notRun (by simp only [F.LAMP_NTC_STAT_TEMP]; omega)),
    State.ended_rd _ _ (State.lampReg_notRun (by simp only [F.LAMP_NTC_STAT_SCALE]; omega)),
    State.ended_rd _ _ (State.lampReg_notRun (by simp only [F.LAMP_NTC_STAT_THERMAL]; omega)),
    hrd (F.LAMP_NTC_STAT_NTC_FAULT n) (Or.inr (hkey 24 (by decide))), hrd (F.LAMP_NTC_STAT_TEMP n) (Or.inr (hkey 0 (by decide))),
    hrd (F.LAMP_NTC_STAT_SCALE n) (Or.inr (hkey 16 (by decide))),
    hrd (F.LAMP_NTC_STAT_THERMAL n) (Or.inr (hkey 25 (by decide))), State.ntcStored_thermal, State.ended_lamp]
  refine ⟨State.ntcStored_fault s n x, State.ntcStored_temp s n x, State.ntcStored_scale s n x, fun hhot => ?_, fun hcold => ?_,
    hlamp, State.ended_blocksKept fun g hg => ?_, State.ended_memKept hmem⟩
  · simp [State.thermalAt, hhot, b2n]
  · have h1 : ¬ 10 * toSigned 8 (s.rd (F.LAMP_NTC_B_T_SHUT n)) ≤ x := by omega
    have h2 : ¬ 10 * toSigned 8 (s.rd (F.LAMP_NTC_B_T_SHUT n)) - 50 < x := by omega
    simp [State.thermalAt, h1, h2, b2n]
  · have hlampOut := hg bLAMP (List.mem_singleton_self _)
    rw [hrd g (Or.inl hlampOut), State.ntcStored_rd s n x n.isLt hlampOut]

/-- Settles O41, command by command. -/
theorem lampProtection : Obligations.LampProtection :=
  ⟨fun k mA us _ => stringOvercurrent_switchesOff k mA us, fun k ms _ => overcurrentRestart_restarts k ms,
   rowOvercurrent_darkens, fun volt _ hon => ⟨ledSupplyLow_darkens volt hon, ledSupplyLow_reads volt hon⟩,
   ledSupplyResume_resumes, fun n _ hrun => ⟨ntcRead_fault n hrun, ntcRead_good n hrun⟩⟩

end Sys2Proof.Machine
end

section
/-!
PROOFS. The commands of LAMP_CMD, the lamp audit and the stored counters (R331, R332).
-/
namespace Sys2Proof.Machine

/-! ## One bit of a number set -/

theorem b2n_lt_two (b : Bool) : b2n b < 2 := by cases b <;> decide

/-- The quotient of a number whose bit `i` was set: the old one with its lowest bit replaced. -/
theorem setBit_div (v i : Nat) (b : Bool) : setBit v i b / 2 ^ i = v / 2 ^ i - v / 2 ^ i % 2 + b2n b := by
  have hpos : 0 < 2 ^ i := by positivity
  have hb : b2n b % 2 ^ 1 = b2n b := Nat.mod_eq_of_lt (b2n_lt_two b)
  have hsplit := Nat.div_add_mod v (2 ^ i)
  have hle : v / 2 ^ i % 2 ≤ v / 2 ^ i := Nat.mod_le _ _
  have hmul : v / 2 ^ i % 2 * 2 ^ i ≤ 2 ^ i * (v / 2 ^ i) := by
    rw [Nat.mul_comm]
    exact Nat.mul_le_mul_left _ hle
  have hsub : 2 ^ i * (v / 2 ^ i - v / 2 ^ i % 2) = 2 ^ i * (v / 2 ^ i) - v / 2 ^ i % 2 * 2 ^ i := by
    rw [Nat.mul_sub, Nat.mul_comm (2 ^ i) (v / 2 ^ i % 2)]
  have heq : setBit v i b = v % 2 ^ i + 2 ^ i * (v / 2 ^ i - v / 2 ^ i % 2 + b2n b) := by
    rw [setBit, setBits, bits, hb, Nat.pow_one, Nat.mul_add, hsub, Nat.mul_comm (2 ^ i) (b2n b)]
    omega
  rw [heq, Nat.add_mul_div_left _ _ hpos, Nat.div_eq_of_lt (Nat.mod_lt _ hpos), Nat.zero_add]

theorem setBit_div_mod (v i : Nat) (b : Bool) : setBit v i b / 2 ^ i % 2 = b2n b := by
  have hb := b2n_lt_two b
  rw [setBit_div]
  omega

/-- A bit just set reads as it was set, also once the number is cut to more bits. -/
theorem bitAt_setBit_mod (v : Nat) {i w : Nat} (b : Bool) (h : i < w) : bitAt (setBit v i b % 2 ^ w) i = b := by
  obtain ⟨d, rfl⟩ := Nat.exists_eq_add_of_lt h
  have hcut : setBit v i b % 2 ^ (i + d + 1) / 2 ^ i % 2 = b2n b := by
    rw [Nat.add_assoc, pow_add, Nat.mod_mul_right_div_self, pow_succ, Nat.mul_comm (2 ^ d) 2, Nat.mod_mul_right_mod,
      setBit_div_mod]
  rw [bitAt, hcut]
  cases b <;> rfl

/-! ## What a write of the two command registers does -/

/-- The written word of OP and ARG at LAMP_CMD. -/
theorem lampCmd_word : ∀ arg : Fin 8, ∀ op : Fin 5, op.val ≠ 0 →
    (regsLamp1[4].written.all fun f => chkField f.chk f.width (bits (op.val * 2 ^ 28 + arg.val) f.lo f.width) == (true, true)) = true ∧
      bits (op.val * 2 ^ 28 + arg.val) 28 4 = op.val ∧ bits (op.val * 2 ^ 28 + arg.val) 0 3 = arg.val := by
  decide

section
variable (req : Fin 36) {s : State} (hon : s.blockOn bLAMP = true)
include hon

theorem State.addrUp_lamp {a : Nat} (h : 0x400D0000 ≤ a ∧ a < 0x400DFF00) : s.addrUp a = true :=
  (s.addrUp_block bLAMP a (by decide) (by simp only [blockBase, bLAMP, blockNo]; omega)
    (by simp only [blockBase, bLAMP, blockNo]; omega)).trans hon

/-- A word at LAMP_CMD whose OP is `op` and whose ARG is `arg`. -/
theorem State.rowWrite_lampCmd {v op arg : Nat}
    (hchk : (regsLamp1[4].written.all fun f => chkField f.chk f.width (bits v f.lo f.width) == (true, true)) = true)
    (hop : bits v 28 4 = op) (harg : bits v 0 3 = arg) (hstring : op = 2 → arg ≤ 5) (haon : op = 4 → arg ≠ 0) :
    s.rowWrite req 0x400D0010 v WriteMore.none =
      (match op with
        | 1 => s.clearLamp req | 2 => s.clearString arg | 3 => s.clearMatrix
        | _ => s.clearAon arg).answer req 0x400D0010 stOK 0 := by
  have hown : s.ownLimit req bLAMP 0x10 v = true := by
    have hlimit : s.ownLimit req bLAMP 0x10 v =
        ((bits v 28 4 != 2 || decide (bits v 0 3 ≤ 5)) && (bits v 28 4 != 4 || bits v 0 3 != 0)) := rfl
    rw [hlimit, hop, harg, Bool.and_eq_true, Bool.or_eq_true, Bool.or_eq_true, bne_iff_ne, bne_iff_ne, bne_iff_ne,
      decide_eq_true_eq]
    exact ⟨or_iff_not_imp_left.mpr fun h => hstring (not_not.mp h), or_iff_not_imp_left.mpr fun h => haon (not_not.mp h)⟩
  subst hop harg
  exact s.rowWrite_act (req := req) (v := v) (x := WriteMore.none)
    (State.addrUp_lamp hon (by decide)) (by decide) (b := bLAMP) (off := 0x10) (r := regsLamp1[4]) (ix := []) (by decide)
    (by decide) (by decide) (by decide) hchk rfl hown (by decide) (by decide)

theorem exec_clearLamp :
    exec (.clearLamp req) s = .next (s.ended ((s.clearLamp req).answer req 0x400D0010 stOK 0)) := by
  obtain ⟨hchk, hop, harg⟩ := lampCmd_word 0 1 (by decide)
  exact congrArg (finish s) (State.rowWrite_lampCmd req hon hchk hop harg (by decide) (by decide))

theorem exec_clearMatrix :
    exec (.clearMatrix req) s = .next (s.ended (s.clearMatrix.answer req 0x400D0010 stOK 0)) := by
  obtain ⟨hchk, hop, harg⟩ := lampCmd_word 0 3 (by decide)
  exact congrArg (finish s) (State.rowWrite_lampCmd req hon hchk hop harg (by decide) (by decide))

theorem exec_clearString (k : Fin 8) (hk : k.val ≤ 5) :
    exec (.clearString req k) s = .next (s.ended ((s.clearString k).answer req 0x400D0010 stOK 0)) := by
  obtain ⟨hchk, hop, harg⟩ := lampCmd_word k 2 (by decide)
  exact congrArg (finish s) (State.rowWrite_lampCmd req hon hchk hop harg (fun _ => hk) (fun h => absurd h (by decide)))

theorem exec_clearAon (g : Fin 8) (hg : g.val ≠ 0) :
    exec (.clearAon req g) s = .next (s.ended ((s.clearAon g).answer req 0x400D0010 stOK 0)) := by
  obtain ⟨hchk, hop, harg⟩ := lampCmd_word g 4 (by decide)
  exact congrArg (finish s) (State.rowWrite_lampCmd req hon hchk hop harg (fun h => absurd h (by decide)) (fun _ => hg))

theorem exec_lampAuditSnap :
    exec (.lampAuditSnap req) s = .next (s.ended (s.lampSnap.answer req 0x400D0038 stOK 0)) :=
  congrArg (finish s) (s.rowWrite_act (req := req) (a := 0x400D0038) (v := 1) (x := WriteMore.none)
    (State.addrUp_lamp hon (by decide)) (by decide) (b := bLAMP) (off := 0x38) (r := regsLamp1[11]) (ix := []) (by decide)
    (by decide) (by decide) (by decide) (by decide) rfl rfl (by decide) (by decide))

end

/-! ## What the commands leave -/

section
variable (s : State) (op st : Nat)

theorem State.lampDone_rd {g : Fld} (hop : g.key ≠ F.LAMP_CMD_STAT_OP.key) (hst : g.key ≠ F.LAMP_CMD_STAT_STATUS.key) :
    (s.lampDone op st).rd g = s.rd g := (State.rd_wr_other _ _ hst).trans (s.rd_wr_other _ hop)

@[simp] theorem State.lampDone_lamp : (s.lampDone op st).lamp = s.lamp := rfl
@[simp] theorem State.lampDone_mem : (s.lampDone op st).mem = s.mem := rfl

theorem State.lampDone_op (h : op < 16) : (s.lampDone op st).rd F.LAMP_CMD_STAT_OP = op :=
  (State.rd_wr_other _ _ (by decide)).trans (s.rd_wr_fits _ h)

theorem State.lampDone_status (h : st < 256) : (s.lampDone op st).rd F.LAMP_CMD_STAT_STATUS = st := State.rd_wr_fits _ _ h

end

/-- The state after a command of LAMP_CMD whose effect is `u`. -/
theorem State.lampAnswered_rd (s u : State) (req a : Nat) {g : Fld} (hg : notRun g.key) :
    (s.ended (u.answer req a stOK 0)).rd g = u.rd g := s.ended_rd _ hg

/-- The audit's words, then its count. -/
theorem State.lampSnap_eq (s : State) : s.lampSnap =
    (((((s.wr (F.LAMP_AUDIT_WORD 0) (s.lampSum % 2 ^ 32)).wr (F.LAMP_AUDIT_WORD 1) (s.lampSum / 2 ^ 32)).wr
      (F.LAMP_AUDIT_WORD 2) (s.lamp.total % 2 ^ 32)).wr (F.LAMP_AUDIT_WORD 3) (s.lamp.total / 2 ^ 32)).wr
      (F.LAMP_AUDIT_WORD 4) 0).wr F.LAMP_AUDIT_CTRL_SNAP_CNT (s.rd F.LAMP_AUDIT_CTRL_SNAP_CNT + 1) := by
  have hkept : ∀ (u : State) (i : Fin 5) (v : Nat),
      (u.wr (F.LAMP_AUDIT_WORD i) v).rd F.LAMP_AUDIT_CTRL_SNAP_CNT = u.rd F.LAMP_AUDIT_CTRL_SNAP_CNT := fun u i v =>
    u.rd_wr_other v (by simp only [Fld.key, F.LAMP_AUDIT_CTRL_SNAP_CNT, F.LAMP_AUDIT_WORD]; omega)
  have hcnt := (hkept _ 4 0).trans ((hkept _ 3 (s.lamp.total / 2 ^ 32)).trans ((hkept _ 2 (s.lamp.total % 2 ^ 32)).trans
    ((hkept _ 1 (s.lampSum / 2 ^ 32)).trans (hkept s 0 (s.lampSum % 2 ^ 32)))))
  unfold State.lampSnap
  exact congrArg (fun n => State.wr _ _ (n + 1)) hcnt

/-- A command that answers BAD shows it and does nothing else. -/
theorem lampCmd_bad (req : Fin 36) {s : State} {i : Instr} {op : Nat} (hop : op < 16)
    (hexec : exec i s = .next (s.ended ((s.lampDone op stBAD).answer req 0x400D0010 stOK 0))) :
    ∃ t, exec i s = .next t ∧ t.rd F.LAMP_CMD_STAT_OP = op ∧ t.rd F.LAMP_CMD_STAT_STATUS = stBAD ∧ t.lamp = s.lamp ∧
      RegsKept [F.LAMP_CMD_STAT_OP, F.LAMP_CMD_STAT_STATUS] s t ∧ MemKept s t := by
  refine ⟨_, hexec, ?_, ?_, State.ended_lamp _ _, State.ended_regsKept fun g hne => ?_, State.ended_memKept rfl⟩
  · rw [State.lampAnswered_rd _ _ _ _ (Fld.notRun (by decide)), State.lampDone_op _ _ _ hop]
  · rw [State.lampAnswered_rd _ _ _ _ (Fld.notRun (by decide)), State.lampDone_status _ _ _ (by decide)]
  · exact State.lampDone_rd _ _ _ (hne _ (by simp)) (hne _ (by simp))

/-- The clear lamp's record and, on a string, its ROUTED bit. -/
def State.lampCleared (s : State) (id : Nat) : State :=
  let t := s.setLampRec id { s.lampRec id with
    opn := false, short := false, degraded := false, routed := false, shortRun := 0, degRun := 0, openRun := 0 }
  if id < 256 then t.wr (F.LAMP_STR_STAT_ROUTED (id / 16)) (setBit (t.rd (F.LAMP_STR_STAT_ROUTED (id / 16))) (id % 16) false)
  else t.showFaulted

section
variable (req : Fin 36) {s : State} (hon : s.blockOn bLAMP = true)
include hon

theorem clearLamp_clears (hid : lampId (s.rdReq req F.LAMP_LSEL_ID) = true) :
    ∃ t, exec (.clearLamp req) s = .next t ∧ t.rd F.LAMP_CMD_STAT_OP = 1 ∧ t.rd F.LAMP_CMD_STAT_STATUS = stOK ∧
      (∀ r, t.lampRec (s.rdReq req F.LAMP_LSEL_ID) = r →
        r.opn = false ∧ r.short = false ∧ r.degraded = false ∧ r.routed = false) ∧
      (s.rdReq req F.LAMP_LSEL_ID < 96 →
        bitAt (t.rd (F.LAMP_STR_STAT_ROUTED (s.rdReq req F.LAMP_LSEL_ID / 16))) (s.rdReq req F.LAMP_LSEL_ID % 16) = false) ∧
      BlocksKept [bLAMP] s t ∧ MemKept s t := by
  have heffect : s.clearLamp req = (s.lampCleared (s.rdReq req F.LAMP_LSEL_ID)).lampDone 1 stOK := by
    unfold State.clearLamp
    rw [if_neg (by simp [hid])]
    rfl
  refine ⟨_, exec_clearLamp req hon, ?_⟩
  rw [heffect]
  generalize s.rdReq req F.LAMP_LSEL_ID = id at hid
  have hlamp : (s.lampCleared id).lampRec id = { s.lampRec id with
      opn := false, short := false, degraded := false, routed := false, shortRun := 0, degRun := 0, openRun := 0 } := by
    unfold State.lampCleared
    extract_lets r t
    have ht : t.lampRec id = _ := AMap.get_set_same _ _ _ _
    split
    · exact ht
    · exact ht
  have hmem : (s.lampCleared id).mem = s.mem := by
    unfold State.lampCleared
    extract_lets r t
    split <;> rfl
  refine ⟨?_, ?_, fun r hr => ?_, fun hstr => ?_, State.ended_blocksKept fun g hg => ?_, State.ended_memKept hmem⟩
  · rw [State.lampAnswered_rd _ _ _ _ (Fld.notRun (by decide)), State.lampDone_op _ _ _ (by decide)]
  · rw [State.lampAnswered_rd _ _ _ _ (Fld.notRun (by decide)), State.lampDone_status _ _ _ (by decide)]
  · have hrec : (s.lampCleared id).lampRec id = r := by
      rw [← hr, State.lampRec, State.lampRec, State.ended_lamp]
      rfl
    rw [← hrec, hlamp]
    exact ⟨rfl, rfl, rfl, rfl⟩
  · rw [State.lampAnswered_rd _ _ _ _ (State.lampReg_notRun (by simp only [F.LAMP_STR_STAT_ROUTED]; omega)),
      State.lampDone_rd _ _ _ (by simp only [Fld.key, F.LAMP_STR_STAT_ROUTED, F.LAMP_CMD_STAT_OP]; omega)
        (by simp only [Fld.key, F.LAMP_STR_STAT_ROUTED, F.LAMP_CMD_STAT_STATUS]; omega), State.lampCleared,
      if_pos (by omega), State.rd_wr_same]
    exact bitAt_setBit_mod _ false (Nat.mod_lt _ (by decide))
  · have hout : ∀ f : Fld, inBlock bLAMP f.key = true → g.key ≠ f.key := fun f =>
      key_ne_of_inBlock (hg bLAMP (List.mem_singleton_self _))
    rw [State.answer_rd, State.lampDone_rd _ _ _ (hout _ (by decide)) (hout _ (by decide)), State.lampCleared]
    split
    case isTrue h =>
      refine State.rd_wr_other _ _ (hout _ (decide_eq_true ?_))
      simp only [blockBase, bLAMP, blockNo, Fld.key, F.LAMP_STR_STAT_ROUTED]
      omega
    case isFalse => exact State.rd_wr_other _ _ (hout _ (by decide))

theorem clearLamp_unnamed (hid : lampId (s.rdReq req F.LAMP_LSEL_ID) = false) :
    ∃ t, exec (.clearLamp req) s = .next t ∧ t.rd F.LAMP_CMD_STAT_OP = 1 ∧ t.rd F.LAMP_CMD_STAT_STATUS = stBAD ∧
      t.lamp = s.lamp ∧ RegsKept [F.LAMP_CMD_STAT_OP, F.LAMP_CMD_STAT_STATUS] s t ∧ MemKept s t := by
  have heffect : s.clearLamp req = s.lampDone 1 stBAD := by
    unfold State.clearLamp
    exact if_pos (by simp [hid])
  exact lampCmd_bad req (by decide) ((exec_clearLamp req hon).trans (by rw [heffect]))

theorem clearString_clears (k : Fin 8) (hk : k.val ≤ 5) :
    ∃ t, exec (.clearString req k) s = .next t ∧ t.rd (F.LAMP_STR_STAT_OVERCURRENT k) = 0 ∧
      t.rd (F.LAMP_STR_STAT_STRING_OPEN k) = 0 ∧ t.rd (F.LAMP_STR_STAT_RESTARTS k) = 0 ∧
      t.rd F.LAMP_CMD_STAT_OP = 2 ∧ t.rd F.LAMP_CMD_STAT_STATUS = stOK ∧
      RegsKept [F.LAMP_STR_STAT_OVERCURRENT k, F.LAMP_STR_STAT_STRING_OPEN k, F.LAMP_STR_STAT_RESTARTS k,
        F.LAMP_STR_STAT_UNDERCURRENT k, F.LAMP_CMD_STAT_OP, F.LAMP_CMD_STAT_STATUS] s t ∧ MemKept s t := by
  have heffect : s.clearString k = (((((s.wr (F.LAMP_STR_STAT_OVERCURRENT k) 0).wr (F.LAMP_STR_STAT_STRING_OPEN k) 0).wr
      (F.LAMP_STR_STAT_RESTARTS k) 0).wr (F.LAMP_STR_STAT_UNDERCURRENT k) 0).setLampStr k ⟨0, 0, 0, false⟩).lampDone 2 stOK := by
    unfold State.clearString
    exact if_neg (by omega)
  have hdone : ∀ (u : State) (lo w z : Nat), lo < 32 → (u.lampDone 2 stOK).rd ⟨0x400D0160 + 4 * k, lo, w, z⟩ =
      u.rd ⟨0x400D0160 + 4 * k, lo, w, z⟩ := fun u lo w z hlo =>
    State.lampDone_rd _ _ _ (by simp only [Fld.key, F.LAMP_CMD_STAT_OP]; omega)
      (by simp only [Fld.key, F.LAMP_CMD_STAT_STATUS]; omega)
  have hother : ∀ (u : State) (v lo lo' w w' z z' : Nat), lo < 32 → lo' < 32 → lo ≠ lo' →
      (u.wr ⟨0x400D0160 + 4 * k, lo', w', z'⟩ v).rd ⟨0x400D0160 + 4 * k, lo, w, z⟩ =
        u.rd ⟨0x400D0160 + 4 * k, lo, w, z⟩ := fun u v lo lo' w w' z z' h1 h2 h3 =>
    State.rd_wr_other _ _ (by simp only [Fld.key]; omega)
  have hnr : ∀ lo w z : Nat, lo < 32 → notRun (⟨0x400D0160 + 4 * k, lo, w, z⟩ : Fld).key := fun lo w z hlo =>
    State.lampReg_notRun (by dsimp only; omega)
  refine ⟨_, exec_clearString req hon k hk, ?_⟩
  rw [heffect]
  refine ⟨?_, ?_, ?_, ?_, ?_, State.ended_regsKept fun g hne => ?_, State.ended_memKept rfl⟩
  · refine (State.lampAnswered_rd _ _ _ _ (hnr 1 1 0 (by decide))).trans ?_
    refine (hdone _ 1 1 0 (by decide)).trans ((hother _ 0 1 3 1 1 0 0 (by decide) (by decide) (by decide)).trans
      ((hother _ 0 1 4 1 2 0 0 (by decide) (by decide) (by decide)).trans
        ((hother _ 0 1 2 1 1 0 0 (by decide) (by decide) (by decide)).trans (State.rd_wr_same _ _ _))))
  · refine (State.lampAnswered_rd _ _ _ _ (hnr 2 1 0 (by decide))).trans ?_
    refine (hdone _ 2 1 0 (by decide)).trans ((hother _ 0 2 3 1 1 0 0 (by decide) (by decide) (by decide)).trans
      ((hother _ 0 2 4 1 2 0 0 (by decide) (by decide) (by decide)).trans (State.rd_wr_same _ _ _)))
  · refine (State.lampAnswered_rd _ _ _ _ (hnr 4 2 0 (by decide))).trans ?_
    exact (hdone _ 4 2 0 (by decide)).trans ((hother _ 0 4 3 2 1 0 0 (by decide) (by decide) (by decide)).trans
      (State.rd_wr_same _ _ _))
  · rw [State.lampAnswered_rd _ _ _ _ (Fld.notRun (by decide)), State.lampDone_op _ _ _ (by decide)]
  · rw [State.lampAnswered_rd _ _ _ _ (Fld.notRun (by decide)), State.lampDone_status _ _ _ (by decide)]
  · simp only [List.mem_cons, List.not_mem_nil, or_false, forall_eq_or_imp, forall_eq] at hne
    obtain ⟨h1, h2, h3, h4, h5, h6⟩ := hne
    rw [State.answer_rd, State.lampDone_rd _ _ _ h5 h6, State.setLampStr, State.setLamp_rd, State.rd_wr_other _ _ h4,
      State.rd_wr_other _ _ h3, State.rd_wr_other _ _ h2, State.rd_wr_other _ _ h1]

theorem clearMatrix_clears :
    ∃ t, exec (.clearMatrix req) s = .next t ∧ t.rd F.LAMP_STATUS_MATRIX_FAULT = 0 ∧ t.rd F.LAMP_CMD_STAT_OP = 3 ∧
      t.rd F.LAMP_CMD_STAT_STATUS = stOK ∧ t.lamp = s.lamp ∧
      RegsKept [F.LAMP_STATUS_MATRIX_FAULT, F.LAMP_CMD_STAT_OP, F.LAMP_CMD_STAT_STATUS] s t ∧ MemKept s t := by
  refine ⟨_, exec_clearMatrix req hon, ?_, ?_, ?_, State.ended_lamp _ _, State.ended_regsKept fun g hne => ?_,
    State.ended_memKept rfl⟩
  · rw [State.lampAnswered_rd _ _ _ _ (Fld.notRun (by decide)), State.clearMatrix,
      State.lampDone_rd _ _ _ (by decide) (by decide)]
    exact State.rd_wr_same _ _ _
  · rw [State.lampAnswered_rd _ _ _ _ (Fld.notRun (by decide)), State.clearMatrix, State.lampDone_op _ _ _ (by decide)]
  · rw [State.lampAnswered_rd _ _ _ _ (Fld.notRun (by decide)), State.clearMatrix, State.lampDone_status _ _ _ (by decide)]
  · simp only [List.mem_cons, List.not_mem_nil, or_false, forall_eq_or_imp, forall_eq] at hne
    rw [State.answer_rd, State.clearMatrix, State.lampDone_rd _ _ _ hne.2.1 hne.2.2, State.rd_wr_other _ _ hne.1]

theorem clearAon_clears (g : Fin 8) (hg : g.val ≠ 0) (hfault : s.groupFault g = none) :
    ∃ t, exec (.clearAon req g) s = .next t ∧ bitAt (t.rd F.LAMP_STATUS_AON_TRIP) g = false ∧
      t.lamp.restarts = g.val :: s.lamp.restarts ∧ t.rd F.LAMP_CMD_STAT_OP = 4 ∧ t.rd F.LAMP_CMD_STAT_STATUS = stOK ∧
      RegsKept [F.LAMP_STATUS_AON_TRIP, F.LAMP_CMD_STAT_OP, F.LAMP_CMD_STAT_STATUS] s t ∧ MemKept s t := by
  have heffect : s.clearAon g = ((s.wr F.LAMP_STATUS_AON_TRIP (setBit (s.rd F.LAMP_STATUS_AON_TRIP) g false)).setLamp
      { s.lamp with restarts := g.val :: s.lamp.restarts }).lampDone 4 stOK := by
    have hlt := g.isLt
    unfold State.clearAon
    rw [if_neg (by simp [hg, hfault]; omega)]
    rfl
  refine ⟨_, exec_clearAon req hon g hg, ?_⟩
  rw [heffect]
  refine ⟨?_, ?_, ?_, ?_, State.ended_regsKept fun f hne => ?_, State.ended_memKept rfl⟩
  · rw [State.lampAnswered_rd _ _ _ _ (Fld.notRun (by decide)), State.lampDone_rd _ _ _ (by decide) (by decide),
      State.setLamp_rd, State.rd_wr_same]
    exact bitAt_setBit_mod _ false g.isLt
  · rw [State.ended_lamp]
    rfl
  · rw [State.lampAnswered_rd _ _ _ _ (Fld.notRun (by decide)), State.lampDone_op _ _ _ (by decide)]
  · rw [State.lampAnswered_rd _ _ _ _ (Fld.notRun (by decide)), State.lampDone_status _ _ _ (by decide)]
  · simp only [List.mem_cons, List.not_mem_nil, or_false, forall_eq_or_imp, forall_eq] at hne
    rw [State.answer_rd, State.lampDone_rd _ _ _ hne.2.1 hne.2.2, State.setLamp_rd, State.rd_wr_other _ _ hne.1]

theorem clearAon_faulted (g : Fin 8) (hg : g.val ≠ 0) (hfault : (s.groupFault g).isSome) :
    ∃ t, exec (.clearAon req g) s = .next t ∧ t.rd F.LAMP_CMD_STAT_OP = 4 ∧ t.rd F.LAMP_CMD_STAT_STATUS = stBAD ∧
      t.lamp = s.lamp ∧ RegsKept [F.LAMP_CMD_STAT_OP, F.LAMP_CMD_STAT_STATUS] s t ∧ MemKept s t := by
  have heffect : s.clearAon g = s.lampDone 4 stBAD := by
    unfold State.clearAon
    exact if_pos (Or.inr (Or.inr hfault))
  exact lampCmd_bad req (by decide) ((exec_clearAon req hon g hg).trans (by rw [heffect]))

theorem lampAuditSnap_snaps :
    ∃ t, exec (.lampAuditSnap req) s = .next t ∧ t.rd (F.LAMP_AUDIT_WORD 0) = s.lampSum % 2 ^ 32 ∧
      t.rd (F.LAMP_AUDIT_WORD 2) = s.lamp.total % 2 ^ 32 ∧ t.rd (F.LAMP_AUDIT_WORD 4) = 0 ∧
      t.rd F.LAMP_AUDIT_CTRL_SNAP_CNT = (s.rd F.LAMP_AUDIT_CTRL_SNAP_CNT + 1) % 2 ^ 16 ∧ t.lamp = s.lamp ∧
      BlocksKept [bLAMP] s t ∧ MemKept s t := by
  refine ⟨_, exec_lampAuditSnap req hon, ?_⟩
  rw [State.lampSnap_eq]
  refine ⟨?_, ?_, ?_, ?_, State.ended_lamp _ _, State.ended_blocksKept fun g hg => ?_, State.ended_memKept rfl⟩
  · rw [State.lampAnswered_rd _ _ _ _ (Fld.notRun (by decide)), State.rd_wr_other _ _ (by decide),
      State.rd_wr_other _ _ (by decide), State.rd_wr_other _ _ (by decide), State.rd_wr_other _ _ (by decide),
      State.rd_wr_other _ _ (by decide), State.rd_wr_same]
    exact Nat.mod_mod _ _
  · rw [State.lampAnswered_rd _ _ _ _ (Fld.notRun (by decide)), State.rd_wr_other _ _ (by decide),
      State.rd_wr_other _ _ (by decide), State.rd_wr_other _ _ (by decide), State.rd_wr_same]
    exact Nat.mod_mod _ _
  · rw [State.lampAnswered_rd _ _ _ _ (Fld.notRun (by decide)), State.rd_wr_other _ _ (by decide), State.rd_wr_same]
    rfl
  · rw [State.lampAnswered_rd _ _ _ _ (Fld.notRun (by decide)), State.rd_wr_same]
    rfl
  · have hout : ∀ f : Fld, inBlock bLAMP f.key = true → g.key ≠ f.key := fun f =>
      key_ne_of_inBlock (hg bLAMP (List.mem_singleton_self _))
    rw [State.answer_rd]
    simp only [State.rd_wr_other _ _ (hout F.LAMP_AUDIT_CTRL_SNAP_CNT (by decide)),
      State.rd_wr_other _ _ (hout (F.LAMP_AUDIT_WORD 0) (by decide)), State.rd_wr_other _ _ (hout (F.LAMP_AUDIT_WORD 1) (by decide)),
      State.rd_wr_other _ _ (hout (F.LAMP_AUDIT_WORD 2) (by decide)), State.rd_wr_other _ _ (hout (F.LAMP_AUDIT_WORD 3) (by decide)),
      State.rd_wr_other _ _ (hout (F.LAMP_AUDIT_WORD 4) (by decide))]

end

theorem lampCounterStore_stores (n : Nat) (s : State) (hn : 15 ≤ n) (hon : s.allOn [0, 42, 44] = true)
    (hflash : s.slot.noFlashWrite = false) :
    ∃ t, exec (.lampCounterStore n) s = .next t ∧ RegsKept [] s t ∧ MemKept s t ∧
      t.lamp = { s.lamp with stored := s.lamp.recs.filterMap (fun e =>
        if e.2.onFrames = 0 then none else some (e.1, e.2.onFrames)) } := by
  refine ⟨_, finish_ended s (s.lampCounterStore n), ?_⟩
  rw [State.lampCounterStore, if_pos ⟨hn, hon, by simp [hflash]⟩]
  exact ⟨State.ended_regsKept fun _ _ => rfl, State.ended_memKept rfl, State.ended_lamp _ _⟩

/-- Settles O42, command by command. -/
theorem lampCommands : Obligations.LampCommands :=
  ⟨fun req _ hon => ⟨clearLamp_clears req hon, clearLamp_unnamed req hon, clearString_clears req hon, clearMatrix_clears req hon,
    clearAon_clears req hon, clearAon_faulted req hon, lampAuditSnap_snaps req hon⟩, lampCounterStore_stores⟩

end Sys2Proof.Machine
end

section
/-!
PROOFS. The end of a cycle: what the output write and the safe outputs leave of the scan engine, and what an instruction that
fails leaves (R279, R286, R287, R294, R295, R314).
-/
namespace Sys2Proof.Machine

/-! ## The output write keeps the engine -/

/-- `t` has the registers, the shadowed writes, the running cycle and the waiting stop of `s`'s scan engine. -/
structure ScanKept (s t : State) : Prop where
  cyc : t.scan.cyc = s.scan.cyc
  stopReq : t.scan.stopReq = s.scan.stopReq
  rd : ∀ g : Fld, inBlock bSCAN g.key = true → t.rd g = s.rd g
  due : t.shadow.filter (fun e => inBlock bSCAN e.1) = s.shadow.filter (fun e => inBlock bSCAN e.1)

theorem pegKey_of_scan {k : Nat} (h : inBlock bSCAN k = true) : pegKey k = false := by
  have hne : ∀ f : Fld, inBlock bSCAN f.key = false → (k == f.key) = false := fun f hf => by
    refine beq_eq_false_iff_ne.mpr fun he => ?_
    rw [he, hf] at h
    exact absurd h (by decide)
  rw [pegKey, inBlock_of_ne (by decide) h, inBlock_of_ne (by decide) h, hne _ (by decide), hne _ (by decide)]
  rfl

namespace ScanKept
variable {s t u : State}

theorem refl (s : State) : ScanKept s s := ⟨rfl, rfl, fun _ _ => rfl, rfl⟩

theorem trans (h : ScanKept s t) (k : ScanKept t u) : ScanKept s u :=
  ⟨k.cyc.trans h.cyc, k.stopReq.trans h.stopReq, fun g hg => (k.rd g hg).trans (h.rd g hg), k.due.trans h.due⟩

theorem of_pegFrame (h : PegFrame s t) : ScanKept s t :=
  ⟨congrArg _ h.scan, congrArg _ h.scan, fun g hg => h.rd g (pegKey_of_scan hg),
    h.due fun _ hk => inBlock_of_ne (by decide) hk⟩

theorem foldl {α : Type} (f : State → α → State) (l : List α) (hf : ∀ s, ∀ x ∈ l, ScanKept s (f s x)) (s : State) :
    ScanKept s (l.foldl f s) := by
  induction l generalizing s with
  | nil => exact refl s
  | cons x l ih =>
    exact (hf s x List.mem_cons_self).trans (ih (fun s y hy => hf s y (List.mem_cons_of_mem _ hy)) (f s x))

theorem ite {p : Prop} [Decidable p] (h : ScanKept s t) (k : ScanKept s u) : ScanKept s (if p then t else u) := by
  split
  · exact h
  · exact k

theorem wr (s : State) {f : Fld} (v : Nat) (hf : inBlock bSCAN f.key = false) : ScanKept s (s.wr f v) :=
  ⟨rfl, rfl, fun _ hg => s.rd_wr_other v (key_ne_of_inBlock hf hg).symm, rfl⟩

theorem setDo (s : State) (i : Nat) (b : Bool) : ScanKept s (s.setDo i b) :=
  ite (refl s) ⟨rfl, rfl, fun _ _ => rfl, rfl⟩

theorem setCoil (s : State) (i : Nat) (b : Bool) : ScanKept s (s.setCoil i b) :=
  ite (refl s) ⟨rfl, rfl, fun _ _ => rfl, rfl⟩

theorem writeArm (s : State) (w : Nat) : ScanKept s (s.writeArm w) := by
  refine ite (foldl _ _ (fun s g hg => ?_) s) (refl s)
  have hg : g < 32 := List.mem_range.mp hg
  refine (wr s _ ?_).trans (wr _ _ ?_)
  all_goals
    refine decide_eq_false fun hc => ?_
    simp only [blockBase, bSCAN, blockNo, Fld.key, F.SYM_GROUP_ARM_SCAN, F.SYM_GROUP_ARMED] at hc
    omega

theorem setLast (s : State) (m : AMap Nat) : ScanKept s (s.setScan { s.scan with lastImg := m }) :=
  ⟨rfl, rfl, fun _ _ => rfl, rfl⟩

theorem setOvId (s : State) (n : Nat) : ScanKept s (s.setScan { s.scan with ovId := n }) := ⟨rfl, rfl, fun _ _ => rfl, rfl⟩

theorem wrMem (s : State) (a n v : Nat) : ScanKept s (s.wrMem a n v) := ⟨rfl, rfl, fun _ _ => rfl, rfl⟩

theorem putImage (s : State) (e img : Nat) : ScanKept s (s.putImage e img) :=
  (of_pegFrame (PegFrame.pegPut s (by decide) _ _ _)).trans ((wrMem _ _ _ _).trans (setLast _ _))

theorem sendStatus (s : State) (a st : Nat) : ScanKept s (s.sendStatus a st) := ite (wrMem s _ _ _) (refl s)

theorem sendPacket (s : State) (n : Nat) (r : List Byte) : ScanKept s (s.sendPacket n r).2 := by
  unfold State.sendPacket
  extract_lets
  split
  · exact refl s
  · exact setOvId s _

theorem commitSend (s : State) (n : Nat) (x : Nat × List Byte) : ScanKept s (s.commitSend n x) := by
  unfold State.commitSend
  extract_lets
  split
  · exact sendStatus s _ _
  · exact (sendPacket s n _).trans ((of_pegFrame (PegFrame.pegPut _ (by decide) _ _ _)).trans (sendStatus _ _ _))

theorem nodeOutputs (s : State) (n : Nat) : ScanKept s (s.nodeOutputs n) :=
  foldl _ _ (fun s _ _ => ite (putImage s _ _) (refl s)) s

theorem writeOutputs (s : State) (n : Nat) (sends : List (Nat × List Byte)) : ScanKept s (s.writeOutputs n sends) := by
  unfold State.writeOutputs
  extract_lets dw cw s1 s2 __src s3 s4 s5
  have h1 : ScanKept s s1 := foldl _ _ (fun s _ _ => ite (setDo s _ _) (refl s)) s
  have h2 : ScanKept s1 s2 := foldl _ _ (fun s _ _ => ite (setCoil s _ _) (refl s)) s1
  have h3 : ScanKept s2 s3 := ite ⟨rfl, rfl, fun _ _ => rfl, rfl⟩ (refl s2)
  have h4 : ScanKept s3 s4 := ite (writeArm s3 _) (refl s3)
  exact h1.trans (h2.trans (h3.trans (h4.trans ((nodeOutputs s4 n).trans
    (foldl _ _ (fun s x _ => commitSend s n x) s5)))))

theorem safePins (s : State) : ScanKept s s.safePins :=
  (foldl _ _ (fun s _ _ => ite (setDo s _ _) (refl s)) s).trans
    (foldl _ _ (fun s _ _ => ite (setCoil s _ _) (refl s)) _)

theorem driveSafe (s : State) : ScanKept s s.driveSafe := by
  unfold State.driveSafe
  extract_lets s1 __src s2 s3
  have h2 : ScanKept s1 s2 := ite ⟨rfl, rfl, fun _ _ => rfl, rfl⟩ (refl s1)
  have h3 : ScanKept s2 s3 := ite (writeArm s2 _) (refl s2)
  exact (safePins s).trans (h2.trans (h3.trans (ite (foldl _ _ (fun s _ _ => putImage s _ _) s3) (refl s3))))

end ScanKept

/-! ## What a stop, a trip and an execution error leave (R295) -/

/-- `t` has the three fields of SCAN_EXEC_ERR as `s` has them. -/
def ErrKept (s t : State) : Prop :=
  ∀ g ∈ [F.SCAN_EXEC_ERR_CODE, F.SCAN_EXEC_ERR_TASK, F.SCAN_EXEC_ERR_ADDR], t.rd g = s.rd g

namespace ErrKept
variable {s t u : State}

theorem refl (s : State) : ErrKept s s := fun _ _ => rfl

theorem trans (h : ErrKept s t) (k : ErrKept t u) : ErrKept s u := fun g hg => (k g hg).trans (h g hg)

theorem of_scanKept (h : ScanKept s t) : ErrKept s t := fun g hg => h.rd g (by
  simp only [List.mem_cons, List.not_mem_nil, or_false] at hg
  rcases hg with rfl | rfl | rfl <;> decide)

theorem of_pegFrame (h : PegFrame s t) : ErrKept s t := of_scanKept (ScanKept.of_pegFrame h)

/-- SCAN_EXEC_ERR stands at offset 0x48, so a field at another address leaves it. -/
theorem wr (s : State) {f : Fld} (v : Nat) (hf : f.addr ≠ 0x400C0048) (hlo : f.lo < 32) : ErrKept s (s.wr f v) := fun g hg => by
  refine s.rd_wr_other v fun he => hf ?_
  simp only [List.mem_cons, List.not_mem_nil, or_false] at hg
  rcases hg with rfl | rfl | rfl <;>
    simp only [Fld.key, F.SCAN_EXEC_ERR_CODE, F.SCAN_EXEC_ERR_TASK, F.SCAN_EXEC_ERR_ADDR] at he <;> omega

theorem showHold (s : State) : ErrKept s s.showHold :=
  (wr s _ (by decide) (by decide)).trans ((wr _ _ (by decide) (by decide)).trans ((wr _ _ (by decide) (by decide)).trans
    ((wr _ _ (by decide) (by decide)).trans ((wr _ _ (by decide) (by decide)).trans (wr _ _ (by decide) (by decide))))))

theorem setScanMode (s : State) (m : Nat) : ErrKept s (s.setScanMode m) :=
  (wr s _ (by decide) (by decide)).trans ((wr _ _ (by decide) (by decide)).trans (showHold _))

theorem setScan (s : State) (x : ScanState) : ErrKept s (s.setScan x) := fun _ _ => rfl

theorem stopNow (s : State) : ErrKept s s.stopNow := by
  have h : ErrKept s (s.dropCycle.setScanMode mStop) := (setScan s _).trans (setScanMode _ _)
  unfold State.stopNow
  extract_lets s1
  split
  · exact h.trans (of_scanKept (ScanKept.driveSafe s1))
  · exact h

theorem scanTrip (s : State) (n cause : Nat) : ErrKept s (s.scanTrip n cause) :=
  ((setScan s _).trans (setScanMode _ _)).trans ((wr _ _ (by decide) (by decide)).trans
    ((wr _ _ (by decide) (by decide)).trans ((wr _ _ (by decide) (by decide)).trans
      ((of_scanKept (ScanKept.driveSafe _)).trans
        (of_pegFrame ((PegFrame.recTrigger _ _ _ _).trans (PegFrame.raiseEvent _ _ _ _)))))))

end ErrKept

theorem State.setScanMode_scan (s : State) (m : Nat) : (s.setScanMode m).scan = s.scan := rfl

theorem State.stopNow_cyc (s : State) : s.stopNow.scan.cyc = none := by
  unfold State.stopNow
  extract_lets s1
  split
  · exact (ScanKept.driveSafe s1).cyc
  · rfl

theorem State.scanTrip_cyc (s : State) (n cause : Nat) : (s.scanTrip n cause).scan.cyc = none :=
  (congrArg ScanState.cyc ((PegFrame.recTrigger _ _ _ _).trans (PegFrame.raiseEvent _ _ _ _)).scan).trans
    (ScanKept.driveSafe _).cyc

/-- An execution error outside HOLD drops the cycle and shows its code, task and index. -/
theorem State.execError_failed {s : State} {y : Cycle} (code : Nat) (hcyc : s.scan.cyc = some y) (hmode : s.scanMode = mRun)
    (hdue : s.pendingIn bSCAN = false) (hcode : code < 16) : CycleFailed (s.execError code y.pc) y code := by
  unfold State.execError
  split
  next hnone => exact absurd (hnone.symm.trans hcyc) (by simp)
  next y' hsome =>
  obtain rfl : y = y' := Option.some.inj (hcyc.symm.trans hsome)
  extract_lets n s1 s2 stop __src s3 s4
  have hmode3 : s3.scanMode ≠ mHold := fun hh => by
    have h3 : s3.scanMode = mRun := by
      refine .trans ?_ hmode
      simp only [State.scanMode, s3, State.setScan_rd, s2, s1, State.incSat]
      repeat rw [State.rd_wr_other _ _ (by simp only [Fld.key, F.SCAN_MODE_MODE, F.SCAN_TASK_STAT_ERRORS,
        F.SCAN_TASK_STAT_ERR, F.SCAN_EXEC_ERR_CODE, F.SCAN_EXEC_ERR_TASK, F.SCAN_EXEC_ERR_ADDR]; omega)]
    rw [h3] at hh
    exact absurd hh (by decide)
  have hs4 : s4 = s3 := s3.commit_of_no_due (State.due_of_pendingIn (s := s) hdue)
  have h1 : s1.rd F.SCAN_EXEC_ERR_CODE = code ∧ s1.rd F.SCAN_EXEC_ERR_TASK = y.task % 16 ∧
      s1.rd F.SCAN_EXEC_ERR_ADDR = y.pc % 2 ^ 18 := by
    refine ⟨?_, ?_, State.rd_wr_same _ _ _⟩
    · rw [State.rd_wr_other _ _ (by decide), State.rd_wr_other _ _ (by decide), State.rd_wr_same]
      exact Nat.mod_eq_of_lt hcode
    · rw [State.rd_wr_other _ _ (by decide), State.rd_wr_same]
      rfl
  have hdone : ∀ t, t.scan.cyc = none → ErrKept s1 t → CycleFailed t y code := fun t hc ht => by
    refine ⟨hc, ?_, ?_, ?_⟩
    · exact (ht _ (by simp)).trans h1.1
    · exact (ht _ (by simp)).trans h1.2.1
    · exact (ht _ (by simp)).trans h1.2.2
  have h3 : ErrKept s1 s3 :=
    (ErrKept.wr s1 _ (by simp only [F.SCAN_TASK_STAT_ERRORS]; omega) (by decide : 8 < 32)).trans
      ((ErrKept.wr _ _ (by simp only [F.SCAN_TASK_STAT_ERR]; omega) (by decide : 1 < 32)).trans (ErrKept.setScan _ _))
  rw [if_neg hmode3]
  split
  · exact hdone _ (State.scanTrip_cyc _ _ _) (ErrKept.scanTrip _ _ _)
  · split
    · exact hdone _ (State.stopNow_cyc _) (h3.trans (hs4 ▸ ErrKept.stopNow s4))
    · exact hdone _ (by rw [hs4]; rfl) (hs4 ▸ h3)

/-! ## An instruction that fails -/

section
variable {op w : Nat} {y : Cycle} {s : State} {f : TabFn}

theorem State.running_iff {s : State} {y : Cycle} : s.running = some y ↔ s.scanMode = mRun ∧ s.scan.cyc = some y := by
  unfold State.running
  split <;> simp_all

theorem finish_cycleFailed {u : State} {code : Nat} (h : CycleFailed u y code) :
    ∃ t, finish s u = .next t ∧ CycleFailed t y code := by
  obtain ⟨hcyc, hcode, htask, haddr⟩ := h
  refine ⟨_, finish_ended s u, ?_, ?_, ?_, ?_⟩
  · rw [State.ended_scan]; exact hcyc
  all_goals rw [State.ended_rd _ _ (Fld.notRun (by decide))]; assumption

theorem finish_execError_failed {code : Nat} (hrun : s.running = some y) (hdue : s.pendingIn bSCAN = false) (hcode : code < 16) :
    ∃ t, finish s (s.execError code y.pc) = .next t ∧ CycleFailed t y code :=
  finish_cycleFailed (State.execError_failed code (State.running_iff.mp hrun).2 (State.running_iff.mp hrun).1 hdue hcode)

/-- An instruction whose meaning is an error ends its cycle with that error. -/
theorem finish_tabRun_failed {code : Nat} (h : AtInstr op w y s) (hf : f w (nextPc y) s = .error code)
    (hdue : s.pendingIn bSCAN = false) (hcode : code < 16) :
    ∃ t, finish s (s.tabRun op f w) = .next t ∧ CycleFailed t y code := by
  have hexec : s.tabExec y f w = s.execError code y.pc := by
    have hf' : f w { y with pc := (y.pc + 1) % 2 ^ 18, skipBp := false } s = .error code := hf
    rw [State.tabExec, hf']
  rw [State.tabRun_atInstr h, hexec]
  exact finish_execError_failed h.1 hdue hcode

/-- An instruction that changes the cycle alone. -/
theorem finish_tabRun_cycleIs {y' : Cycle} (h : AtInstr op w y s) (hf : f w (nextPc y) s = .ok (y', s))
    (he : y'.ended = y.ended) : ∃ t, finish s (s.tabRun op f w) = .next t ∧ CycleIs s t y' := by
  rw [State.tabRun_ok h hf he]
  exact finish_setScan_cycleIs s _

end

end Sys2Proof.Machine
end

section
/-!
PROOFS. Format W (R301, R306, R307): a word instruction is a function of its operand's value, which either changes the cycle or
is an error.
-/
namespace Sys2Proof.Machine

section
variable {w : BitVec 24} {op a : Nat} {x : Int} {y y' : Cycle} {s : State} {f : Int → Cycle → Except Nat Cycle}
  (hwidth : bits w.toNat 0 3 ≤ 4)
  (ha : tabAddr y (bits w.toNat 21 3) (bits w.toNat 3 18) (tabWidth (bits w.toNat 0 3)).1 (tabWidth (bits w.toNat 0 3)).1 0 0 =
    .ok a)
  (hx : operandAt s a (bits w.toNat 0 3) = x)

/-- The operand's value, signed where its WIDTH is. -/
theorem operandAt_eq (s : State) (a k : Nat) :
    (if (tabWidth k).2 then toSigned (8 * (tabWidth k).1) (s.rdMem a (tabWidth k).1) else (s.rdMem a (tabWidth k).1 : Int)) =
      operandAt s a k := by
  match k with
  | 0 | 1 | 2 | 3 | _ + 4 => rfl

include hwidth ha hx

theorem tabWord_eq : tabWord f w.toNat (nextPc y) s = (f x (nextPc y)).map (·, s) := by
  have ha' : tabAddr (nextPc y) (bits w.toNat 21 3) (bits w.toNat 3 18) (tabWidth (bits w.toNat 0 3)).1
    (tabWidth (bits w.toNat 0 3)).1 0 0 = .ok a := ha
  simp only [tabWord, Nat.not_lt.mpr hwidth, if_false, ha', operandAt_eq, hx]
  cases f x (nextPc y) <;> rfl

variable (h : AtInstr op w.toNat y s)
include h

/-- A word instruction that gives its cycle. -/
theorem finish_tabWord_cycleIs (hf : f x (nextPc y) = .ok y') (he : y'.ended = y.ended) :
    ∃ t, finish s (s.tabRun op (tabWord f) w.toNat) = .next t ∧ CycleIs s t y' :=
  finish_tabRun_cycleIs h (by rw [tabWord_eq hwidth ha hx, hf]; rfl) he

/-- A word instruction that fails. -/
theorem finish_tabWord_failed {code : Nat} (hf : f x (nextPc y) = .error code) (hdue : s.pendingIn bSCAN = false)
    (hcode : code < 16) : ∃ t, finish s (s.tabRun op (tabWord f) w.toNat) = .next t ∧ CycleFailed t y code :=
  finish_tabRun_failed h (by rw [tabWord_eq hwidth ha hx, hf]; rfl) hdue hcode

omit h in
/-- A compare loads C with its relation between ACC and the operand. -/
theorem finish_tabCmpW_cycleIs (r : Int → Int → Bool) (h : AtInstr op w.toNat y s) :
    ∃ t, finish s (s.tabRun op (tabCmpW r) w.toNat) = .next t ∧ CycleIs s t { nextPc y with c := r y.acc.toInt x } :=
  finish_tabWord_cycleIs hwidth ha hx h rfl rfl

end

/-- Settles O36: each instruction is format W with its function of the operand's value; only the divisions have an operand that
they refuse. -/
theorem tabWords : Obligations.TabWords := by
  refine fun w y a x s hwidth ha hx => ⟨?wld, ?wadd, ?wsub, ?wmul, ?wdiv, ?wmod, ?wand, ?wor, ?wxor, ?wmin, ?wmax, ?weq, ?wne,
    ?wgt, ?wge, ?wlt, ?wle⟩
  case wld | wand | wor | wxor =>
    exact fun h => finish_tabWord_cycleIs hwidth ha hx h rfl rfl
  case wadd | wsub | wmul | wmin | wmax =>
    exact fun h => finish_tabWord_cycleIs hwidth ha hx h rfl rfl
  case weq => exact finish_tabCmpW_cycleIs hwidth ha hx fun c v => decide (c = v)
  case wne => exact finish_tabCmpW_cycleIs hwidth ha hx fun c v => decide (c ≠ v)
  case wgt => exact finish_tabCmpW_cycleIs hwidth ha hx fun c v => decide (v < c)
  case wge => exact finish_tabCmpW_cycleIs hwidth ha hx fun c v => decide (v ≤ c)
  case wlt => exact finish_tabCmpW_cycleIs hwidth ha hx fun c v => decide (c < v)
  case wle => exact finish_tabCmpW_cycleIs hwidth ha hx fun c v => decide (c ≤ v)
  case wdiv | wmod =>
    refine fun h => ⟨fun hne => ?_, fun hzero hdue => ?_⟩
    · exact finish_tabWord_cycleIs hwidth ha hx h (if_neg hne) rfl
    · exact finish_tabWord_failed hwidth ha hx h (if_pos hzero) hdue (by decide)

end Sys2Proof.Machine
end

section
/-!
PROOFS. Word stores, immediates, shifts and jumps (R300, R301, R306 to R308): one lemma for each format.
-/
namespace Sys2Proof.Machine

theorem toSigned_toNat (w : BitVec 24) : toSigned 24 w.toNat = w.toInt := by
  have hw := w.isLt
  rw [toSigned, BitVec.toInt_eq_toNat_cond, Nat.mod_eq_of_lt hw]
  split <;> split <;> omega

/-- Area 0 is never written (R300). -/
theorem tabAddr_area_zero (y : Cycle) (off al : Nat) {n : Nat} (hn : 0 < n) : tabAddr y 0 off n al 0 n = .error xADDR := by
  have hwrites : ∀ o, (List.range n).any (fun i => decide (0 ≤ i) && !tabWritable 0 (o + i)) = true := fun o =>
    List.any_eq_true.mpr ⟨0, List.mem_range.mpr hn, rfl⟩
  unfold tabAddr
  split
  · rfl
  next b o hplace =>
    have hb : b = 0 := by
      unfold tabPlace at hplace
      rw [if_pos (by decide : 0 < 7)] at hplace
      split at hplace
      · exact (congrArg Prod.fst (Option.some.inj hplace)).symm
      · exact absurd hplace (by simp)
    rw [hb, if_pos (hwrites o)]

theorem tabWidth_pos (k : Nat) : 0 < (tabWidth k).1 := by
  match k with
  | 0 | 1 | 2 | 3 => decide
  | _ + 4 => exact Nat.zero_lt_succ 3

section
variable {w : BitVec 24} {op : Nat} {y : Cycle} {s : State}

/-! ## WST -/

theorem tWst_ok {a : Nat} (hwidth : bits w.toNat 0 3 ≤ 4)
    (ha : tabAddr y (bits w.toNat 21 3) (bits w.toNat 3 18) (tabWidth (bits w.toNat 0 3)).1 (tabWidth (bits w.toNat 0 3)).1 0
      (tabWidth (bits w.toNat 0 3)).1 = .ok a) :
    tWst w.toNat (nextPc y) s = .ok (nextPc y, s.wrMem a (tabWidth (bits w.toNat 0 3)).1 y.acc.toNat) := by
  have ha' : tabAddr (nextPc y) (bits w.toNat 21 3) (bits w.toNat 3 18) (tabWidth (bits w.toNat 0 3)).1
    (tabWidth (bits w.toNat 0 3)).1 0 (tabWidth (bits w.toNat 0 3)).1 = .ok a := ha
  simp only [tWst, Nat.not_lt.mpr hwidth, if_false, ha']
  rfl

theorem tWst_area_zero (hwidth : bits w.toNat 0 3 ≤ 4) (harea : bits w.toNat 21 3 = 0) :
    tWst w.toNat (nextPc y) s = .error xADDR := by
  simp only [tWst, Nat.not_lt.mpr hwidth, if_false, harea, tabAddr_area_zero _ _ _ (tabWidth_pos _)]

variable (h : AtInstr op w.toNat y s)
include h

/-- An instruction that stores a number. -/
theorem finish_tabRun_cycleStored {f : TabFn} {y' : Cycle} {a n v : Nat}
    (hf : f w.toNat (nextPc y) s = .ok (y', s.wrMem a n v)) (he : y'.ended = y.ended) :
    ∃ t, finish s (s.tabRun op f w.toNat) = .next t ∧ CycleStored s t y' a n v := by
  rw [State.tabRun_ok h hf he]
  exact finish_wrMem_setScan_cycleStored s y' a n v

/-! ## Formats K, J and the shifts -/

theorem finish_tabImm_cycleIs {f : Int → Cycle → Cycle} (he : (f w.toInt (nextPc y)).ended = y.ended) :
    ∃ t, finish s (s.tabRun op (tabImm f) w.toNat) = .next t ∧ CycleIs s t (f w.toInt (nextPc y)) :=
  finish_tabRun_cycleIs h (by rw [tabImm, toSigned_toNat]) he

/-- A compare with an immediate loads C with its relation between ACC and the immediate. -/
theorem finish_tabCmpK_cycleIs (r : Int → Int → Bool) :
    ∃ t, finish s (s.tabRun op (tabCmpK r) w.toNat) = .next t ∧ CycleIs s t { nextPc y with c := r y.acc.toInt w.toInt } :=
  finish_tabImm_cycleIs h rfl

theorem finish_tabShift_cycleIs {f : Word → Nat → Word} (hw : w.toNat < 32) :
    ∃ t, finish s (s.tabRun op (tabShift f) w.toNat) = .next t ∧ CycleIs s t { nextPc y with acc := f y.acc w.toNat } :=
  finish_tabRun_cycleIs h (if_pos hw) rfl

/-- A jump is taken where its condition holds. -/
theorem finish_tabJump_cycleIs {p : Cycle → Bool} {y' : Cycle} (hw : w.toNat < 2 ^ 18)
    (hy : (if p (nextPc y) then { nextPc y with pc := w.toNat } else nextPc y) = y') :
    ∃ t, finish s (s.tabRun op (tabJump p) w.toNat) = .next t ∧ CycleIs s t y' := by
  subst hy
  have hhigh : bits w.toNat 18 6 = 0 := by rw [bits, Nat.div_eq_of_lt hw, Nat.zero_mod]
  have hlow : bits w.toNat 0 18 = w.toNat := by rw [bits, Nat.pow_zero, Nat.div_one, Nat.mod_eq_of_lt hw]
  refine finish_tabRun_cycleIs h (by rw [tabJump, hhigh, hlow, if_neg (by decide)]) ?_
  cases p (nextPc y) <;> rfl

theorem finish_tabJump_failed {p : Cycle → Bool} (hw : 2 ^ 18 ≤ w.toNat) (hdue : s.pendingIn bSCAN = false) :
    ∃ t, finish s (s.tabRun op (tabJump p) w.toNat) = .next t ∧ CycleFailed t y xILLEGAL := by
  refine finish_tabRun_failed h (if_pos ?_) hdue (by decide)
  have hlt := w.isLt
  rw [bits]
  omega

end

/-- Settles O37: a store by its address, an immediate by its sign-extended value, a shift by its count, a jump by its
condition. -/
theorem tabStoresAndImmediates : Obligations.TabStoresAndImmediates := by
  refine ⟨fun w y s h => ⟨fun a hwidth ha => ?_, fun hwidth harea hdue => ?_, fun hwidth hdue => ?_⟩, fun w y s => ⟨?keq, ?kne,
    ?kgt, ?kge, ?klt, ?kle, ?kld, ?kldh, ?kadd, fun hw => ⟨?wshl, ?wshr, ?wsar⟩, fun hw => ⟨?jmp, ?jmpt, ?jmpf, ?jmpz, ?jmpnz⟩,
    fun hw h hdue => finish_tabJump_failed h hw hdue⟩⟩
  · exact finish_tabRun_cycleStored h (tWst_ok hwidth ha) rfl
  · exact finish_tabRun_failed h (tWst_area_zero hwidth harea) hdue (by decide)
  · exact finish_tabRun_failed h (if_pos hwidth) hdue (by decide)
  case keq => exact fun h => finish_tabCmpK_cycleIs h fun c v => decide (c = v)
  case kne => exact fun h => finish_tabCmpK_cycleIs h fun c v => decide (c ≠ v)
  case kgt => exact fun h => finish_tabCmpK_cycleIs h fun c v => decide (v < c)
  case kge => exact fun h => finish_tabCmpK_cycleIs h fun c v => decide (v ≤ c)
  case klt => exact fun h => finish_tabCmpK_cycleIs h fun c v => decide (c < v)
  case kle => exact fun h => finish_tabCmpK_cycleIs h fun c v => decide (c ≤ v)
  case kld | kadd => exact fun h => finish_tabImm_cycleIs h rfl
  case kldh => exact fun h hw => finish_tabRun_cycleIs h (if_neg (Nat.not_le.mpr hw)) rfl
  case wshl | wshr | wsar => exact fun h => finish_tabShift_cycleIs h hw
  case jmp | jmpt => exact fun h => finish_tabJump_cycleIs h hw rfl
  case jmpf =>
    refine fun h => finish_tabJump_cycleIs h hw ?_
    change (if (!y.c) = true then _ else _) = _
    cases y.c <;> rfl
  case jmpz =>
    refine fun h => finish_tabJump_cycleIs h hw ?_
    change (if (y.acc == 0) = true then _ else _) = _
    simp only [beq_iff_eq]
  case jmpnz =>
    refine fun h => finish_tabJump_cycleIs h hw ?_
    change (if (y.acc != 0) = true then _ else _) = _
    simp only [bne_iff_ne, ne_eq, ite_not]

end Sys2Proof.Machine
end

section
/-!
PROOFS. Format T, the node operations, and the words that are no instruction (R302, R308, R311, R312).
-/
namespace Sys2Proof.Machine

section
variable {w : BitVec 24} {op a lo hi : Nat} {y : Cycle} {s : State}

/-- Format T gives its function the address of the record. -/
theorem tabRec_eq (f : Nat → Cycle → State → TabRes) (harea : 4 ≤ bits w.toNat 21 3) (hlow : bits w.toNat 0 7 = 0)
    (ha : tabAddr y (bits w.toNat 21 3) (bits w.toNat 3 18) 16 4 lo hi = .ok a) :
    tabRec lo hi f w.toNat (nextPc y) s = f a (nextPc y) s := by
  have ha' : tabAddr (nextPc y) (bits w.toNat 21 3) (bits w.toNat 3 18) 16 4 lo hi = .ok a := ha
  have hformat : ¬ (bits w.toNat 21 3 < 4 ∨ bits w.toNat 3 18 % 16 ≠ 0 ∨ bits w.toNat 0 3 ≠ 0) := by
    simp only [bits] at harea hlow ⊢
    omega
  simp only [tabRec, hformat, if_false, ha']

end

/-- The two forms of a cycle that no breakpoint holds. -/
theorem State.breakpoint_free {s : State} {y : Cycle} (h : y.skipBp = true ∨ s.breakpoint y.task y.pc = none) :
    (if y.skipBp then none else s.breakpoint y.task y.pc) = none := by
  rcases h with hskip | hnone
  · exact if_pos hskip
  · rw [hnone, ite_self]

/-- Settles O39: SND by C and what its record says, NST by its selector; a word that is no instruction is an error where no
breakpoint holds the cycle. -/
theorem tabNodeAndErrors : Obligations.TabNodeAndErrors := by
  refine ⟨fun w y a s h harea hlow ha => ?_, fun w y s h hw hacc => ?_, fun w y s hrun hlen hword hop hbp hdue => ?_,
    fun y s hrun hlen hbp hdue => ?_⟩
  · have hrec := fun f => tabRec_eq (lo := 14) (hi := 15) (s := s) f harea hlow ha
    refine ⟨fun hc => ?_, fun hc hkind htarget hroom => ?_, fun hc h1 h2 h16 => ?_⟩
    · exact finish_tabRun_cycleIs h ((hrec _).trans (if_pos (by simp [nextPc, hc]))) rfl
    · refine finish_tabRun_cycleStored h ((hrec _).trans ?_) rfl
      have hstaged : (s.rd8 a = 0x01 ∨ s.rd8 a = 0x02 ∨ s.rd8 a = 0x10) ∧
        (s.rdMem (a + 2) 2 % 2 ^ 14 < 16352 ∨ s.rdMem (a + 2) 2 % 2 ^ 14 = 16383) ∧ y.sends.length < 32 :=
        ⟨hkind, htarget, hroom⟩
      exact (if_neg (by simp [nextPc, hc])).trans (if_pos hstaged)
    · refine finish_tabRun_cycleStored h ((hrec _).trans ?_) rfl
      exact (if_neg (by simp [nextPc, hc])).trans (if_neg fun hstaged => by
        rcases hstaged.1 with he | he | he
        · exact h1 he
        · exact h2 he
        · exact h16 he)
  · have hsel : bits w.toNat 0 4 = w.toNat := by
      rw [bits, Nat.pow_zero, Nat.div_one, Nat.mod_eq_of_lt (by omega)]
    refine finish_tabRun_cycleIs h ?_ rfl
    have hacc' : ¬ (16 ≤ w.toNat ∨ 16320 ≤ (nextPc y).acc.toNat) := by
      rw [show (nextPc y).acc = y.acc from rfl]
      omega
    simp only [tNst, hsel, Nat.not_le.mpr hw, hacc', if_false]
    rfl
  · have hexec : s.reservedOpcode w.toNat = s.execError xILLEGAL y.pc := by
      simp only [State.reservedOpcode, hrun, hword, hop, State.breakpoint_free hbp, Nat.not_le.mpr hlen, ne_eq,
        not_true_eq_false, Option.isSome_none, Bool.false_eq_true, or_self, if_false]
    exact Exists.imp (fun t ht => ⟨congrArg (finish s) hexec |>.trans ht.1, ht.2⟩)
      (finish_execError_failed hrun hdue (by decide))
  · have hexec : s.fetchBeyond = s.execError xFETCH y.pc := by
      simp only [State.fetchBeyond, hrun, State.breakpoint_free hbp, Nat.not_lt.mpr hlen, if_false]
    exact Exists.imp (fun t ht => ⟨congrArg (finish s) hexec |>.trans ht.1, ht.2⟩)
      (finish_execError_failed hrun hdue (by decide))

end Sys2Proof.Machine
end

section
/-!
PROOFS. The instructions without an operand (R302, R305, R308), and END, which ends the cycle.
-/
namespace Sys2Proof.Machine

section
variable {op : Nat} {y y' : Cycle} {s : State}

/-- An instruction without an operand that changes the cycle alone. -/
theorem finish_tabN_cycleIs {f : Cycle → State → TabRes} (h : AtInstr op 0 y s) (hf : f (nextPc y) s = .ok (y', s))
    (he : y'.ended = y.ended) : ∃ t, finish s (s.tabRun op (tabN f) 0) = .next t ∧ CycleIs s t y' :=
  finish_tabRun_cycleIs h ((if_pos rfl).trans hf) he

/-- An instruction without an operand that fails. -/
theorem finish_tabN_failed {f : Cycle → State → TabRes} {code : Nat} (h : AtInstr op 0 y s)
    (hf : f (nextPc y) s = .error code) (hdue : s.pendingIn bSCAN = false) (hcode : code < 16) :
    ∃ t, finish s (s.tabRun op (tabN f) 0) = .next t ∧ CycleFailed t y code :=
  finish_tabRun_failed h ((if_pos rfl).trans hf) hdue hcode

theorem finish_tabPop_cycleIs {b : Bool} {l : List Bool} (g : Bool → Bool → Bool) (h : AtInstr op 0 y s)
    (hstack : y.stack = b :: l) :
    ∃ t, finish s (s.tabRun op (tabPop g) 0) = .next t ∧ CycleIs s t { nextPc y with c := g b y.c, stack := l } := by
  have hstack' : (nextPc y).stack = b :: l := hstack
  exact finish_tabN_cycleIs h (by rw [hstack']; rfl) rfl

theorem finish_tabPop_failed (g : Bool → Bool → Bool) (h : AtInstr op 0 y s) (hstack : y.stack = [])
    (hdue : s.pendingIn bSCAN = false) :
    ∃ t, finish s (s.tabRun op (tabPop g) 0) = .next t ∧ CycleFailed t y xSTACK_UNF := by
  have hstack' : (nextPc y).stack = [] := hstack
  exact finish_tabN_failed h (by rw [hstack']) hdue (by decide)

/-! ## END (R279, R308) -/

/-- A cycle that ends in RUN without a waiting stop is counted, and the engine stays in RUN. -/
theorem State.endCycle_spec (hcyc : s.scan.cyc = some y) (hstop : s.scan.stopReq = false) (hdue : s.pendingIn bSCAN = false)
    (htask : y.task < 16) :
    s.endCycle.scan.cyc = none ∧ s.endCycle.scanMode = s.scanMode ∧
      s.endCycle.rd (F.SCAN_TASK_CNT_CYCLES y.task) = (s.rd (F.SCAN_TASK_CNT_CYCLES y.task) + 1) % 2 ^ 32 := by
  unfold State.endCycle
  split
  next hnone => exact absurd (hnone.symm.trans hcyc) (by simp)
  next y' hsome =>
  obtain rfl : y = y' := Option.some.inj (hcyc.symm.trans hsome)
  extract_lets n s1 s2 s3 stop __src s4
  have hout : ScanKept s s1 := ScanKept.writeOutputs s n y.sends
  have hs3 : s3 = s2.inc (F.SCAN_TASK_CNT_CYCLES n) := by
    have hcommit : s2.commit bSCAN = s2 := s2.commit_of_no_due (hout.due.trans (State.due_of_pendingIn hdue))
    rw [show s3 = (s2.commit bSCAN).inc (F.SCAN_TASK_CNT_CYCLES n) from rfl, hcommit]
  have hstop3 : stop = false := by
    rw [show stop = s3.scan.stopReq from rfl, hs3]
    exact hout.stopReq.trans hstop
  have hmode : s2.scanMode = s.scanMode := by
    have hkept : s1.scanMode = s.scanMode := hout.rd _ (by decide)
    rw [← hkept]
    exact (State.rd_wr_other _ _ (by simp only [Fld.key, F.SCAN_MODE_MODE, F.SCAN_TASK_EXEC_MAX]; omega)).trans
      (State.rd_wr_other _ _ (by simp only [Fld.key, F.SCAN_MODE_MODE, F.SCAN_TASK_EXEC_LAST]; omega))
  have hcount : s2.rd (F.SCAN_TASK_CNT_CYCLES n) = s.rd (F.SCAN_TASK_CNT_CYCLES n) := by
    have hn : n < 16 := htask
    have hkept : s1.rd (F.SCAN_TASK_CNT_CYCLES n) = s.rd (F.SCAN_TASK_CNT_CYCLES n) := hout.rd _ (by
      refine decide_eq_true ?_
      simp only [blockBase, bSCAN, blockNo, Fld.key, F.SCAN_TASK_CNT_CYCLES]
      omega)
    rw [← hkept]
    exact (State.rd_wr_other _ _ (by simp only [Fld.key, F.SCAN_TASK_CNT_CYCLES, F.SCAN_TASK_EXEC_MAX]; omega)).trans
      (State.rd_wr_other _ _ (by simp only [Fld.key, F.SCAN_TASK_CNT_CYCLES, F.SCAN_TASK_EXEC_LAST]; omega))
  rw [hstop3, if_neg (by decide)]
  refine ⟨rfl, ?_, ?_⟩
  · refine .trans ?_ hmode
    rw [State.scanMode, show s4.rd F.SCAN_MODE_MODE = s3.rd F.SCAN_MODE_MODE from rfl, hs3]
    exact s2.rd_wr_other _ (by simp only [Fld.key, F.SCAN_MODE_MODE, F.SCAN_TASK_CNT_CYCLES]; omega)
  · rw [show s4.rd (F.SCAN_TASK_CNT_CYCLES n) = s3.rd (F.SCAN_TASK_CNT_CYCLES n) from rfl, hs3, State.inc, State.rd_wr_same, hcount]
    rfl

/-- END with an empty stack ends the cycle. -/
theorem State.tabRun_end (h : AtInstr op 0 y s) (hstack : y.stack = []) :
    s.tabRun op tEnd 0 = (s.setScan { s.scan with cyc := some { nextPc y with ended := true } }).endCycle := by
  have hf : tEnd 0 { y with pc := (y.pc + 1) % 2 ^ 18, skipBp := false } s = .ok ({ nextPc y with ended := true }, s) := by
    rw [tEnd, tabN, if_pos rfl, if_pos hstack]
    rfl
  have hmode : s.scanMode = mRun := (State.running_iff.mp h.1).1
  rw [State.tabRun_atInstr h]
  simp only [State.tabExec, hf]
  exact if_pos ⟨trivial, hmode⟩

theorem finish_tEnd (h : AtInstr op 0 y s) (hdue : s.pendingIn bSCAN = false) (hstack : y.stack = [])
    (hstop : s.scan.stopReq = false) (htask : y.task < 16) :
    ∃ t, finish s (s.tabRun op tEnd 0) = .next t ∧ t.scan.cyc = none ∧ t.scanMode = mRun ∧
      t.rd (F.SCAN_TASK_CNT_CYCLES y.task) = (s.rd (F.SCAN_TASK_CNT_CYCLES y.task) + 1) % 2 ^ 32 := by
  rw [State.tabRun_end h hstack]
  obtain ⟨hcyc, hmode, hcount⟩ := State.endCycle_spec (y := { nextPc y with ended := true })
    (s := s.setScan { s.scan with cyc := some { nextPc y with ended := true } }) rfl hstop hdue htask
  refine ⟨_, finish_ended s _, ?_, ?_, ?_⟩
  · rw [State.ended_scan]; exact hcyc
  · exact (State.ended_rd _ _ (Fld.notRun (by decide))).trans (hmode.trans (State.running_iff.mp h.1).1)
  · exact (State.ended_rd _ _ (Fld.notRun (by simp only [F.SCAN_TASK_CNT_CYCLES]; omega))).trans hcount

end

/-- Settles O35: each instruction is a function of the cycle, which the branch stack alone can make fail; END goes to the output
write and counts the cycle. -/
theorem tabPlain : Obligations.TabPlain := by
  refine fun y s => ⟨?nop, fun h => ⟨fun hroom => ?_, fun hfull hdue => ?_⟩, fun b l hstack => ⟨?_, ?_, ?_⟩,
    fun hstack hdue => ⟨?_, ?_, ?_⟩, ?bnot, ?bone, ?bzero, ?bldov, ?ovclr, ?winv, ?pset, ?pget, fun w hw h hdue => ?_,
    fun h hdue => ⟨fun hstack => ?_, fun hstack hstop htask => ?_⟩⟩
  case nop | bnot | bone | bzero | bldov | ovclr | winv | pset | pget => exact fun h => finish_tabN_cycleIs h rfl rfl
  · exact finish_tabN_cycleIs h (if_neg (Nat.not_le.mpr hroom)) rfl
  · exact finish_tabN_failed h (if_pos hfull) hdue (by decide)
  · exact fun h => finish_tabPop_cycleIs _ h hstack
  · exact fun h => finish_tabPop_cycleIs _ h hstack
  · exact fun h => finish_tabPop_cycleIs _ h hstack
  · exact fun h => finish_tabPop_failed _ h hstack hdue
  · exact fun h => finish_tabPop_failed _ h hstack hdue
  · exact fun h => finish_tabPop_failed _ h hstack hdue
  · exact finish_tabRun_failed h (if_neg fun hzero => hw (BitVec.eq_of_toNat_eq hzero)) hdue (by decide)
  · exact finish_tabN_failed h (if_neg hstack) hdue (by decide)
  · exact finish_tEnd h hdue hstack hstop htask

end Sys2Proof.Machine
end

section
/-!
PROOFS. Timers and counters (R309, R310): what an instruction leaves of its record, and the values of each rule.
-/
namespace Sys2Proof.Machine

/-! ## Numbers in memory -/

theorem Memory.readN_congr {m m' : Memory} {a n : Nat} (h : ∀ x, a ≤ x → x < a + n → m'.read x = m.read x) :
    m'.readN a n = m.readN a n := by
  induction n generalizing a with
  | zero => rfl
  | succ n ih =>
    rw [Memory.readN, Memory.readN, h a (Nat.le_refl _) (by omega), ih fun x hx hlt => h x (by omega) (by omega)]

/-- A number apart from the one stored reads as before. -/
theorem State.rdMem_wrMem_other (s : State) {a n b k : Nat} (v : Nat) (h : b + k ≤ a ∨ a + n ≤ b) :
    (s.wrMem a n v).rdMem b k = s.rdMem b k :=
  congrArg ofOctetsLE (Memory.readN_congr fun _ hx hlt => s.mem.read_writeLE_other v (by omega))

theorem State.rdMem_wrMem_same (s : State) (a n v : Nat) : (s.wrMem a n v).rdMem a n = v % 2 ^ (8 * n) :=
  s.mem.readLE_writeLE a n v

theorem State.rd8_wrMem_same (s : State) (a v : Nat) : (s.wrMem a 1 v).rd8 a = v % 256 := by
  have h := s.rdMem_wrMem_same a 1 v
  simpa [State.rdMem, State.rd8, Memory.readLE, Memory.readN, ofOctetsLE] using h

theorem State.rd8_wrMem_other (s : State) {a n x : Nat} (v : Nat) (h : x < a ∨ a + n ≤ x) :
    (s.wrMem a n v).rd8 x = s.rd8 x :=
  congrArg BitVec.toNat (s.mem.read_writeLE_other v h)

theorem State.setScan_rd8 (s : State) (x : ScanState) (a : Nat) : (s.setScan x).rd8 a = s.rd8 a := rfl

theorem State.setScan_rdMem (s : State) (x : ScanState) (a n : Nat) : (s.setScan x).rdMem a n = s.rdMem a n := rfl

theorem State.rdMem_lt (s : State) (a n : Nat) : s.rdMem a n < 2 ^ (8 * n) := by
  unfold State.rdMem Memory.readLE
  induction n generalizing a with
  | zero => simp [Memory.readN, ofOctetsLE]
  | succ n ih =>
    have hb : (s.mem.read a).toNat < 256 := (s.mem.read a).isLt
    have hl := ih (a + 1)
    rw [Memory.readN, ofOctetsLE, Nat.mul_add, Nat.mul_one, Nat.pow_add]
    omega

/-- A signed number of 32 bits reads back from its octets. -/
theorem toSigned_ofSigned {x : Int} (hlo : -2147483648 ≤ x) (hhi : x ≤ 2147483647) :
    toSigned 32 (ofSigned 32 x % 2 ^ (8 * 4)) = x := by
  simp only [toSigned, ofSigned]
  norm_num
  split <;> omega

theorem toSigned_bounds (v : Nat) : -2147483648 ≤ toSigned 32 v ∧ toSigned 32 v ≤ 2147483647 := by
  simp only [toSigned]
  norm_num
  split <;> omega

/-- The middle one of three low bits just set. -/
theorem bitAt_setBits_three (v : Nat) (q r l : Bool) :
    bitAt (setBits v 0 3 (b2n q + 2 * b2n r + 4 * b2n l) % 256) 1 = r := by
  have hbit : setBits v 0 3 (b2n q + 2 * b2n r + 4 * b2n l) % 256 / 2 ^ 1 % 2 = b2n r := by
    have hq := b2n_lt_two q
    have hr := b2n_lt_two r
    have hl := b2n_lt_two l
    simp only [setBits, bits]
    omega
  rw [bitAt, hbit]
  cases r <;> rfl

/-! ## What a timer leaves (R309) -/

section
variable {w : BitVec 24} {op a pt now : Nat} {y : Cycle} {s : State} {f : Nat → Nat → Bool → Bool → Timer → Timer}

/-- The record at `a` as a timer's working values. -/
def State.timerAt (s : State) (a : Nat) : Timer :=
  ⟨s.rdMem (a + 4) 4, s.rdMem (a + 8) 4, bitAt (s.rd8 (a + 12)) 0, bitAt (s.rd8 (a + 12)) 1⟩

/-- The machine with the timer's working values and the flags `fl` stored. -/
def State.timerStored (s : State) (a : Nat) (t : Timer) (fl : Nat) : State :=
  ((s.wrMem (a + 4) 4 t.et).wrMem (a + 8) 4 t.start).wrMem (a + 12) 1 fl

theorem State.timerStored_spec (s : State) (a : Nat) (t : Timer) (fl : Nat) :
    (s.timerStored a t fl).rdMem (a + 4) 4 = t.et % 2 ^ 32 ∧ (s.timerStored a t fl).rdMem (a + 8) 4 = t.start % 2 ^ 32 ∧
      (s.timerStored a t fl).rd8 (a + 12) = fl % 256 ∧
      ∀ x, x < a + 4 ∨ a + 13 ≤ x → (s.timerStored a t fl).rd8 x = s.rd8 x := by
  refine ⟨?_, ?_, State.rd8_wrMem_same _ _ _, fun x hx => ?_⟩
  · rw [State.timerStored, State.rdMem_wrMem_other _ _ (by omega), State.rdMem_wrMem_other _ _ (by omega),
      State.rdMem_wrMem_same]
  · rw [State.timerStored, State.rdMem_wrMem_other _ _ (by omega), State.rdMem_wrMem_same]
  · rw [State.timerStored, State.rd8_wrMem_other _ _ (by omega), State.rd8_wrMem_other _ _ (by omega),
      State.rd8_wrMem_other _ _ (by omega)]

/-- A timer instruction applies its rule to the record, with `hpt` as PT and the cycle's time as NOW. -/
theorem finish_tabTimer (harea : 4 ≤ bits w.toNat 21 3) (hlow : bits w.toNat 0 7 = 0)
    (ha : tabAddr y (bits w.toNat 21 3) (bits w.toNat 3 18) 16 4 4 13 = .ok a) (hpt : s.rdMem a 4 = pt) (hlt : pt < 2 ^ 31)
    (hnow : y.tStart / 1000 % 2 ^ 32 = now) (h : AtInstr op w.toNat y s) {t' : Timer}
    (hrule : f now pt y.c (bitAt (s.rd8 (a + 12)) 2) (s.timerAt a) = t') :
    ∃ t, finish s (s.tabRun op (tabTimer f) w.toNat) = .next t ∧ RecordIs s t y a 13 t'.q ∧
      t.rdMem (a + 4) 4 = t'.et % 2 ^ 32 ∧ t.rdMem (a + 8) 4 = t'.start % 2 ^ 32 ∧ bitAt (t.rd8 (a + 12)) 1 = t'.run := by
  have hsigned : toSigned 32 (s.rdMem a 4) = pt := by
    rw [hpt, toSigned, Nat.mod_eq_of_lt (by omega), if_pos (by omega)]
  have hf : tabTimer f w.toNat (nextPc y) s = .ok ({ nextPc y with c := t'.q }, s.timerStored a t'
      (setBits (s.rd8 (a + 12)) 0 3 (b2n t'.q + 2 * b2n t'.run + 4 * b2n y.c))) := by
    subst hrule hnow
    refine (tabRec_eq _ harea hlow ha).trans ?_
    simp only [hsigned, Int.toNat_natCast, if_neg (Int.not_lt.mpr (Int.natCast_nonneg pt))]
    rfl
  obtain ⟨het, hstart, hflags, hout⟩ := s.timerStored_spec a t'
    (setBits (s.rd8 (a + 12)) 0 3 (b2n t'.q + 2 * b2n t'.run + 4 * b2n y.c))
  rw [State.tabRun_ok h hf rfl]
  refine ⟨_, finish_ended s _, ⟨?_, ?_, fun x hx => ?_⟩, ?_, ?_, ?_⟩
  · rw [State.ended_scan]
    rfl
  · exact State.ended_regsKept fun g _ => rfl
  · rw [State.ended_rd8]
    exact hout x hx
  · rw [State.ended_rdMem]
    exact het
  · rw [State.ended_rdMem]
    exact hstart
  · rw [State.ended_rd8, State.setScan_rd8, hflags, bitAt_setBits_three]

end

/-! ## The rules of the timers -/

theorem timerElapsed_start {now pt : Nat} : timerElapsed now now pt = 0 := by
  simp only [timerElapsed]
  omega

/-- ET stands at PT once the elapsed time has come to PT. -/
theorem timerElapsed_eq_iff (now start pt : Nat) :
    timerElapsed now start pt = pt ↔ pt ≤ (now + 2 ^ 32 - start) % 2 ^ 32 := by
  simp only [timerElapsed]
  omega

theorem timerElapsed_lt {now start pt : Nat} : timerElapsed now start pt < 2 ^ 32 :=
  lt_of_le_of_lt (Nat.min_le_left _ _) (Nat.mod_lt _ (by decide))

section
variable {now pt : Nat} {i last : Bool} {t : Timer}

theorem timerOn_off (hi : i = false) : timerOn now pt i last t = { t with run := false, et := 0, q := false } := by
  subst hi
  rfl

theorem timerOn_run (hi : i = true) (hrun : t.run = true) : timerOn now pt i last t =
    { t with et := timerElapsed now t.start pt, q := decide (pt ≤ (now + 2 ^ 32 - t.start) % 2 ^ 32) } := by
  simp only [timerOn, hi, hrun, if_true, Timer.tick, timerElapsed_eq_iff]
  split <;> rename_i hc
  · rw [decide_eq_true hc]
  · rw [decide_eq_false hc]

theorem timerOn_start (hi : i = true) (hrun : t.run = false) : timerOn now pt i last t =
    { t with et := 0, start := now, run := true, q := decide (pt = 0) } := by
  simp only [timerOn, hi, hrun, if_true, Timer.tick, timerElapsed_start, Bool.false_eq_true, if_false]
  split <;> rename_i hc
  · rw [decide_eq_true hc.symm]
  · rw [decide_eq_false (Ne.symm hc)]

theorem timerOff_on (hi : i = true) : timerOff now pt i last t = { t with q := true, run := false, et := 0 } := by
  subst hi
  rfl

theorem timerOff_start (hi : i = false) (hlast : last = true) (hpt : 0 < pt) :
    timerOff now pt i last t = { t with et := 0, start := now, run := true } := by
  simp only [timerOff, hi, hlast, if_true, Timer.tick, timerElapsed_start, Bool.false_eq_true, if_false]
  exact if_neg (Nat.ne_of_lt hpt)

theorem timerOff_run (hi : i = false) (hlast : last = false) (hrun : t.run = true) : timerOff now pt i last t =
    { t with et := timerElapsed now t.start pt, q := t.q && decide ((now + 2 ^ 32 - t.start) % 2 ^ 32 < pt),
             run := decide ((now + 2 ^ 32 - t.start) % 2 ^ 32 < pt) } := by
  simp only [timerOff, hi, hlast, hrun, if_true, Timer.tick, timerElapsed_eq_iff, Bool.false_eq_true, if_false]
  split <;> rename_i hc
  · rw [decide_eq_false (Nat.not_lt.mpr hc), Bool.and_false]
  · rw [decide_eq_true (Nat.not_le.mp hc), Bool.and_true]

theorem timerPulse_start (hi : i = true) (hlast : last = false) (hpt : 0 < pt) (hrun : t.run = false) :
    timerPulse now pt i last t = { t with et := 0, start := now, run := true, q := true } := by
  have hne : ¬ 0 = pt := Nat.ne_of_lt hpt
  simp [timerPulse, hi, hlast, hrun, Timer.tick, timerElapsed_start, hne]

theorem timerPulse_run (hrun : t.run = true) (hlt : (now + 2 ^ 32 - t.start) % 2 ^ 32 < pt) :
    timerPulse now pt i last t = { t with et := (now + 2 ^ 32 - t.start) % 2 ^ 32 } := by
  have hne : ¬ (now + 2 ^ 32 - t.start) % 2 ^ 32 = pt := Nat.ne_of_lt hlt
  have helapsed : timerElapsed now t.start pt = (now + 2 ^ 32 - t.start) % 2 ^ 32 := Nat.min_eq_left (Nat.le_of_lt hlt)
  simp only [timerPulse, hrun, not_true_eq_false, and_false, if_false, if_true, Timer.tick, helapsed, if_neg hne, true_or]

theorem timerPulse_end (hrun : t.run = true) (hle : pt ≤ (now + 2 ^ 32 - t.start) % 2 ^ 32) :
    (timerPulse now pt i last t).q = false ∧ (timerPulse now pt i last t).run = false := by
  have he : timerElapsed now t.start pt = pt := (timerElapsed_eq_iff _ _ _).mpr hle
  simp only [timerPulse, hrun, not_true_eq_false, and_false, if_false, if_true, Timer.tick, if_pos he]
  split <;> exact ⟨rfl, rfl⟩

end

/-! ## What a counter leaves (R310) -/

section
variable {w : BitVec 24} {op a : Nat} {y : Cycle} {s : State} {f : Int → Int → Bool → Bool → Int × Bool} {follow : Bool}

/-- A counter instruction applies its rule to PV and CV; C follows Q where `follow` says so. -/
theorem finish_tabCounter (harea : 4 ≤ bits w.toNat 21 3) (hlow : bits w.toNat 0 7 = 0)
    (ha : tabAddr y (bits w.toNat 21 3) (bits w.toNat 3 18) 16 4 4 9 = .ok a) {pv cv cv' : Int} {q : Bool}
    (hpv : toSigned 32 (s.rdMem a 4) = pv) (hcv : toSigned 32 (s.rdMem (a + 4) 4) = cv) (h : AtInstr op w.toNat y s)
    (hrule : f pv cv y.c (bitAt (s.rd8 (a + 8)) 1) = (cv', q)) (hlo : -2147483648 ≤ cv') (hhi : cv' ≤ 2147483647) :
    ∃ t, finish s (s.tabRun op (tabCounter f follow) w.toNat) = .next t ∧
      RecordIs s t y a 9 (if follow then q else y.c) ∧ toSigned 32 (t.rdMem (a + 4) 4) = cv' := by
  have hf : ∃ fl, tabCounter f follow w.toNat (nextPc y) s =
      .ok ({ nextPc y with c := if follow then q else y.c }, (s.wrMem (a + 4) 4 (ofSigned 32 cv')).wrMem (a + 8) 1 fl) := by
    refine ⟨if follow then setBits (s.rd8 (a + 8)) 0 2 (b2n q + 2 * b2n y.c) else setBit (s.rd8 (a + 8)) 0 q, ?_⟩
    refine (tabRec_eq _ harea hlow ha).trans ?_
    have hrule' : f pv cv (nextPc y).c (bitAt (s.rd8 (a + 8)) 1) = (cv', q) := hrule
    simp only [hpv, hcv, hrule']
    cases follow <;> rfl
  obtain ⟨fl, hf⟩ := hf
  rw [State.tabRun_ok h hf rfl]
  refine ⟨_, finish_ended s _, ⟨?_, ?_, fun x hx => ?_⟩, ?_⟩
  · rw [State.ended_scan]
    rfl
  · exact State.ended_regsKept fun g _ => rfl
  · rw [State.ended_rd8, State.setScan_rd8, State.rd8_wrMem_other _ _ (by omega), State.rd8_wrMem_other _ _ (by omega)]
  · rw [State.ended_rdMem, State.setScan_rdMem, State.rdMem_wrMem_other _ _ (by omega), State.rdMem_wrMem_same,
      toSigned_ofSigned hlo hhi]

end

/-- A counter's new value stays in 32 bits. -/
theorem counter_bounds {cv : Int} (h : -2147483648 ≤ cv ∧ cv ≤ 2147483647) :
    (-2147483648 ≤ min (cv + 1) 2147483647 ∧ min (cv + 1) 2147483647 ≤ 2147483647) ∧
      -2147483648 ≤ max (cv - 1) (-2147483648) ∧ max (cv - 1) (-2147483648) ≤ 2147483647 := by
  omega

/-- A counter does not step without a rise of C. -/
theorem not_step {c l : Bool} (h : c = false ∨ l = true) : ¬ (c = true ∧ ¬ l = true) := by
  rcases h with rfl | rfl <;> simp

/-- Settles O38: each instruction is format T with its rule; each clause reads the rule at its values of C and the flags. -/
theorem tabTimersAndCounters : Obligations.TabTimersAndCounters := by
  refine ⟨fun w y a pt now start s harea hlow ha hpt hlt hnow hstart => ?_,
    fun w y a pv cv s harea hlow ha hpv hcv => ?_⟩
  · have hnowlt : now < 2 ^ 32 := by omega
    have htimer : (s.timerAt a).start = start := hstart
    have hrun : (s.timerAt a).run = bitAt (s.rd8 (a + 12)) 1 := rfl
    have helapsed : (now + 2 ^ 32 - start) % 2 ^ 32 < 2 ^ 32 := Nat.mod_lt _ (by decide)
    refine ⟨fun h => ⟨fun hc => ?_, fun hc hr => ?_, fun hc hr => ?_⟩, fun h => ⟨fun hc => ?_, fun hc hl hpos => ?_,
      fun hc hl hr => ?_⟩, fun h => ⟨fun hc hl hr hpos => ?_, fun hr hless => ?_, fun hr hle => ?_⟩⟩
    · obtain ⟨t, hnext, hrec, het, -⟩ := finish_tabTimer harea hlow ha hpt hlt hnow h (timerOn_off hc)
      exact ⟨t, hnext, hrec, het⟩
    · obtain ⟨t, hnext, hrec, het, -⟩ := finish_tabTimer harea hlow ha hpt hlt hnow h
        (timerOn_run hc (hrun.trans hr))
      rw [htimer] at hrec het
      exact ⟨t, hnext, hrec, het.trans (Nat.mod_eq_of_lt timerElapsed_lt)⟩
    · obtain ⟨t, hnext, hrec, het, hst, hrun⟩ := finish_tabTimer harea hlow ha hpt hlt hnow h
        (timerOn_start hc (hrun.trans hr))
      exact ⟨t, hnext, hrec, het, hst.trans (Nat.mod_eq_of_lt hnowlt), hrun⟩
    · obtain ⟨t, hnext, hrec, het, -, hrun⟩ := finish_tabTimer harea hlow ha hpt hlt hnow h (timerOff_on hc)
      exact ⟨t, hnext, hrec, het, hrun⟩
    · obtain ⟨t, hnext, hrec, het, hst, hrun⟩ := finish_tabTimer harea hlow ha hpt hlt hnow h
        (timerOff_start hc hl hpos)
      exact ⟨t, hnext, hrec, het, hst.trans (Nat.mod_eq_of_lt hnowlt), hrun⟩
    · obtain ⟨t, hnext, hrec, het, -⟩ := finish_tabTimer harea hlow ha hpt hlt hnow h
        (timerOff_run hc hl (hrun.trans hr))
      rw [htimer] at hrec het
      exact ⟨t, hnext, hrec, het.trans (Nat.mod_eq_of_lt timerElapsed_lt)⟩
    · obtain ⟨t, hnext, hrec, het, hst, hrun⟩ := finish_tabTimer harea hlow ha hpt hlt hnow h
        (timerPulse_start hc hl hpos (hrun.trans hr))
      exact ⟨t, hnext, hrec, het, hst.trans (Nat.mod_eq_of_lt hnowlt), hrun⟩
    · obtain ⟨t, hnext, hrec, het, -⟩ := finish_tabTimer harea hlow ha hpt hlt hnow h
        (timerPulse_run (hrun.trans hr) (htimer.symm ▸ hless))
      rw [htimer] at het
      exact ⟨t, hnext, hrec, het.trans (Nat.mod_eq_of_lt helapsed)⟩
    · obtain ⟨t, hnext, hrec, -, -, hr'⟩ := finish_tabTimer harea hlow ha hpt hlt hnow h (f := timerPulse) rfl
      obtain ⟨hq, hoff⟩ := timerPulse_end (i := y.c) (last := bitAt (s.rd8 (a + 12)) 2) (hrun.trans hr) (htimer.symm ▸ hle)
      rw [hq] at hrec
      exact ⟨t, hnext, hrec, hr'.trans hoff⟩
  · have hbounds := toSigned_bounds (s.rdMem (a + 4) 4)
    rw [hcv] at hbounds
    obtain ⟨⟨hlo1, hhi1⟩, hlo2, hhi2⟩ := counter_bounds hbounds
    have hpvb := toSigned_bounds (s.rdMem a 4)
    rw [hpv] at hpvb
    refine ⟨fun h => ⟨fun hc hl => ?_, fun hnot => ?_⟩, fun h => ⟨fun hc hl => ?_, fun hnot => ?_⟩, fun h => ?_, fun h => ?_⟩
    · exact finish_tabCounter (q := decide (pv ≤ min (cv + 1) 2147483647)) harea hlow ha hpv hcv h
        (by simp only [hc, hl, Bool.false_eq_true, not_false_eq_true, and_self, if_true]) hlo1 hhi1
    · exact finish_tabCounter (q := decide (pv ≤ cv)) harea hlow ha hpv hcv h
        (by simp only [if_neg (not_step hnot)]) hbounds.1 hbounds.2
    · exact finish_tabCounter (q := decide (max (cv - 1) (-2147483648) ≤ 0)) harea hlow ha hpv hcv h
        (by simp only [hc, hl, Bool.false_eq_true, not_false_eq_true, and_self, if_true]) hlo2 hhi2
    · exact finish_tabCounter (q := decide (cv ≤ 0)) harea hlow ha hpv hcv h
        (by simp only [if_neg (not_step hnot)]) hbounds.1 hbounds.2
    · exact finish_tabCounter (cv' := if y.c then pv else cv) harea hlow ha hpv hcv h rfl (by split <;> omega)
        (by split <;> omega)
    · exact finish_tabCounter (cv' := if y.c then 0 else cv) harea hlow ha hpv hcv h rfl (by split <;> omega)
        (by split <;> omega)

end Sys2Proof.Machine
end

section
/-!
PROOFS. The check of the ledgers (R506): one ledger's imbalance, counted before the next one's equation is read.
-/
namespace Sys2Proof.Machine

/-- Cells are missing, and a quantity of a point far beyond the sixteen (R242) stands in the books: that point's constant would
lie at LEDGER_IMBAL_CNT[0]. -/
def farPoint : State :=
  let s := resetWith [(F.PWR_DOM_STATE_STATE 0, domOn), (F.PWR_DOM_STATE_STATE 49, domOn), (F.PWR_DOM_STATE_STATE 18, domOn),
    (F.PWR_DOM_STATE_STATE 19, domOn), (F.PWR_DOM_STATE_STATE 36, domOn), (F.PEG_CELL_FREE_FREE, 0)]
  { s with gauge := { s.gauge with q := [(8 * 0x19F7C, { GQty.zero with pulses := 1 })] } }

theorem farPoint_on : farPoint.allOn [0, 49] = true := by decide +kernel

/-- The energy book balances before the check, and after the cells' imbalance is counted it does not. -/
theorem farPoint_bal : farPoint.ledgerOk 2 = true ∧ bitAt ((farPoint.ledgerCheck 60).rd F.LEDGER_STAT_BAL) 2 = false := by
  decide +kernel

theorem farPoint_due : farPoint.rd F.LEDGER_CHECK_CFG_CHECK_S ≠ 0 ∧ farPoint.rd F.LEDGER_CHECK_CFG_CHECK_S ≤ 60 ∧
    farPoint.blockOn (ledgerBlock (2 : Fin 7)) = true := by
  decide +kernel

/-- Refutes O60: the clause of the check wants BAL as the equations stand at its start, and of every state; the model reads each
equation in its turn, after the imbalances of the ledgers before it are counted. -/
theorem not_fetchAndLedgerCommands : ¬ Obligations.FetchAndLedgerCommands := by
  rintro ⟨-, -, -, -, hcheck⟩
  obtain ⟨hset, hle, hblock⟩ := farPoint_due
  obtain ⟨t, hexec, hbal, -, -⟩ := (hcheck 60 farPoint farPoint_on hset).1 hle
  obtain rfl := eq_ended_of_finish hexec
  have hbit := hbal 2 (by decide) hblock
  rw [State.ended_rd _ _ (Fld.notRun (by decide)), farPoint_bal.1, farPoint_bal.2] at hbit
  exact absurd hbit (by decide)

end Sys2Proof.Machine
end

section
/-!
PROOFS. The Gauge's integration (R236, R243): a sample's powers are read point by point, after the points before have spilled.
-/
namespace Sys2Proof.Machine

/-- A module whose register of feeder 11's PHASE holds 356, far beyond its two bits: the voltage it names has its PEAK where the
backlog of S0 output 0 stands. Point 0 has one pulse to spill on that output, and point 15 lacks one unit to its next increment. -/
def farPhase : State :=
  let s := resetWith [(F.PWR_DOM_STATE_STATE 36, domOn), (F.GAUGE_CTRL_ENABLE, 1), (F.GAUGE_NOMINAL_FN, 50),
    (F.GAUGE_CH_CFG_EN 19, 1), (F.GAUGE_CH_CFG_VSRC 19, 1), (F.GAUGE_CH_CFG_PHASE 19, 356), (F.GAUGE_CH_SCALE_PEAK 19, 1), (F.GAUGE_CH_MATCH_FORCE 15, 1),
    (F.GAUGE_S0OUT_CFG_EN 0, 1), (F.GAUGE_S0OUT_CFG_Q 0, 0), (F.GAUGE_S0OUT_BACKLOG_PENDING 0, 0),
    (F.GAUGE_PT_CFG_SPILL_EN 0, 1), (F.GAUGE_PT_PC_LO_PC 0, 1), (F.GAUGE_PT_PC_HI_PC 0, 0)]
  { s with gauge := { s.gauge with
      q := [(0, { GQty.zero with acc := 2 ^ 24 }), (120, { GQty.zero with frac := incDen 0 - 3125 * 2 ^ 24 })]
      chan := [(19, { ChanState.start with v := [1] }), (356, { ChanState.start with v := [0, 640 * 2 ^ 78 * 16000000] })] } }

/-- A sample without a code. -/
def noCodes : GaugeSample := ⟨[], [], []⟩

/-- What `integrate` does for one kind of a point's power. -/
def State.integrateKind (p : Nat) (s : State) (kp : Nat × Nat) : State :=
  let (spilt, s) := s.accumulate p (8 * p + kp.1) kp.2
  if spilt then
    let s := (s.wr (F.GAUGE_PT_FLAGS_GUARD_OVF p) 1).setGauge { s.gauge with govfQ := (8 * p + kp.1) :: s.gauge.govfQ }
    s.gaugeReport 9 p true ⟨1, 0, false, s.lineCycle, 1, 0⟩
  else s

/-- What `integrate` does for one point. -/
def State.integratePoint (s : State) (p : Nat) : State := ((s.kinds p).foldl (State.integrateKind p) s).showGuard p

/-- The sample taken, and the points 0 to 14 integrated. -/
def farPhase15 : State := (List.range 15).foldl State.integratePoint (farPhase.channels noCodes)

theorem farPhase_runs : farPhase.gaugeRuns = true := by decide +kernel

/-- The voltage that feeder 11 names, and its PEAK's rest: what the power of point 15 is read from. -/
structure FarVoltage (s : State) : Prop where
  chans : s.ptChans 15 = (356, 19)
  voltage : (s.gchan 356).v = [0, 640 * 2 ^ 78 * 16000000]
  shifted : (s.gchan 356).perp = []
  current : (s.gchan 19).v.drop 1 = [1]
  peak : s.peak 19 = 1
  window : s.window1 = 640 * 65536
  start : s.rd (F.GAUGE_PT_CFG_START_MA 15) = 0

theorem farPhase_sampled : FarVoltage (farPhase.channels noCodes) := by
  constructor <;> decide +kernel

theorem farPhase15_voltage : FarVoltage farPhase15 := by
  constructor <;> decide +kernel

/-- The newest voltage is 0, so the power is that of the sample before, whatever the newest current. -/
theorem FarVoltage.power {s : State} (h : FarVoltage s) (hk : s.peak 356 ≤ 1) :
    (s.power 15).p = s.peak 356 ∧ (s.power 15).q = 0 := by
  obtain ⟨z, hz⟩ : ∃ z, (s.gchan 19).v = [z, 1] := by
    have hdrop := h.current
    match hl : (s.gchan 19).v with
    | [] => rw [hl] at hdrop; exact absurd hdrop (by decide)
    | z :: l => rw [hl] at hdrop; exact ⟨z, congrArg (z :: ·) hdrop⟩
  have hp : s.power 15 = s.pairPwr 356 19 := by rw [State.power, if_neg (by decide), h.chans]
  rw [hp]
  simp only [State.pairPwr, h.window, h.voltage, h.shifted, hz, h.peak, products, windowSum, voltParts, ampParts]
  constructor
  · interval_cases s.peak 356 <;> norm_num
  · simp

theorem FarVoltage.kinds {s : State} (h : FarVoltage s) (hk : s.peak 356 ≤ 1) :
    ∃ n, s.kinds 15 = [(0, s.peak 356), (2, 0), (6, n)] := by
  obtain ⟨hp, hq⟩ := h.power hk
  refine ⟨(s.power 15).s, ?_⟩
  unfold State.kinds
  rw [h.start, if_neg (by omega)]
  simp [hp, hq]

theorem farPhase_peaks : (farPhase.channels noCodes).peak 356 = 0 ∧ farPhase15.peak 356 = 1 := by decide +kernel

/-! ## What a kind changes of the books -/

section
variable (s : State) (p q n : Nat)

theorem State.backlog_gauge : (s.backlog q n).gauge = s.gauge := by
  unfold State.backlog
  generalize List.range 4 = l
  induction l generalizing s with
  | nil => rfl
  | cons k l ih =>
    rw [List.foldl_cons, ih]
    split
    · simp only
      split <;> rfl
    · rfl

theorem State.gaugeReport_gauge (i subj : Nat) (declared : Bool) (e : GEvt) :
    (s.gaugeReport i subj declared e).gauge = s.gauge := by
  unfold State.gaugeReport
  extract_lets s1
  have h1 : s1.gauge = s.gauge := by
    simp only [s1]
    split <;> rfl
  split
  · exact h1
  · exact ((PegFrame.raiseEvent s1 _ _ _).trans (PegFrame.recTrigger _ _ _ _)).gauge.trans h1

/-- An act of R243 sets its own quantity. -/
theorem State.accumulate_gauge (w : Nat) : ∃ x : GQty, (s.accumulate p q w).2.gauge = { s.gauge with q := s.gauge.q.set q x } ∧
    x.total = ((s.gq q).total + (w * 3125 * 2 ^ 24 + (s.gq q).frac) / incDen (s.rd (F.GAUGE_PT_CFG_EQ_EXP p))) % 2 ^ 96 := by
  unfold State.accumulate
  extract_lets x num den inc unit a n a' spilt x' s1
  refine ⟨x', ?_, rfl⟩
  change State.gauge (if n = 0 then s1 else s1.backlog q n) = _
  split
  · rfl
  · exact s1.backlog_gauge q n

theorem State.integrateKind_gq (kp : Nat × Nat) (q : Nat) :
    (State.integrateKind p s kp).gq q = (s.accumulate p (8 * p + kp.1) kp.2).2.gq q := by
  unfold State.integrateKind
  split
  next spilt u hacc =>
    have hu : (s.accumulate p (8 * p + kp.1) kp.2).2 = u := by rw [hacc]
    rw [hu]
    split
    · exact (congrArg (fun g : GaugeState => g.q.get q GQty.zero) (State.gaugeReport_gauge _ _ _ _ _)).trans rfl
    · rfl

theorem State.integrateKind_gq_other {kp : Nat × Nat} {q : Nat} (h : q ≠ 8 * p + kp.1) :
    (State.integrateKind p s kp).gq q = s.gq q := by
  obtain ⟨x, hx, -⟩ := s.accumulate_gauge p (8 * p + kp.1) kp.2
  rw [s.integrateKind_gq, State.gq, hx]
  exact AMap.get_set_other _ _ _ h

theorem State.integrateKind_total {kp : Nat × Nat} {q : Nat} (h : q = 8 * p + kp.1) :
    ((State.integrateKind p s kp).gq q).total =
      ((s.gq q).total + (kp.2 * 3125 * 2 ^ 24 + (s.gq q).frac) / incDen (s.rd (F.GAUGE_PT_CFG_EQ_EXP p))) % 2 ^ 96 := by
  obtain ⟨x, hx, htotal⟩ := s.accumulate_gauge p (8 * p + kp.1) kp.2
  rw [h, s.integrateKind_gq, State.gq, hx, ← htotal, AMap.get_set_same]

end

theorem State.setWindow_gq (s : State) (m : AMap (Nat × Int)) (q : Nat) :
    (s.setGauge { s.gauge with winP := m }).gq q = s.gq q := rfl

/-- Without a half cycle's end, a sample changes the books by its points alone. -/
theorem State.integrate_gq (s : State) (q : Nat) : (s.integrate noCodes).gq q =
    ((List.range 16).foldl State.integratePoint (s.channels noCodes)).gq q := by
  rw [State.integrate, show noCodes.half = [] from rfl]
  dsimp only
  rw [List.foldl_nil, State.setWindow_gq, List.foldl_ext _ State.integratePoint]
  intro u p _
  refine congrArg (fun f => ((u.kinds p).foldl f u).showGuard p) (funext fun v => funext fun kp => ?_)
  unfold State.integrateKind
  generalize v.accumulate p (8 * p + kp.1) kp.2 = r
  obtain ⟨spilt, w⟩ := r
  rfl

/-! ## The quantity of feeder 11 -/

theorem farPhase_books : (farPhase.gq 120).total = 0 ∧ (farPhase.gq 120).frac = incDen 0 - 3125 * 2 ^ 24 ∧
    farPhase.rd (F.GAUGE_PT_CFG_EQ_EXP 15) = 0 := by decide +kernel

theorem farPhase15_books : (farPhase15.gq 120).total = 0 ∧ (farPhase15.gq 120).frac = incDen 0 - 3125 * 2 ^ 24 ∧
    farPhase15.rd (F.GAUGE_PT_CFG_EQ_EXP 15) = 0 := by decide +kernel

theorem farPhase_fold : (farPhase.gaugeSample noCodes).gq 120 = (farPhase15.integratePoint 15).gq 120 := by
  rw [State.gaugeSample, if_pos farPhase_runs, State.integrate_gq, List.range_succ, List.foldl_append, List.foldl_cons,
    List.foldl_nil, farPhase15]

/-- A point whose quantity lacks one unit to its next increment, with a power of 1. -/
theorem State.integratePoint_one {u : State} {n : Nat} (hkinds : u.kinds 15 = [(0, 1), (2, 0), (6, n)])
    (hbooks : (u.gq 120).total = 0 ∧ (u.gq 120).frac = incDen 0 - 3125 * 2 ^ 24 ∧ u.rd (F.GAUGE_PT_CFG_EQ_EXP 15) = 0) :
    ((u.integratePoint 15).gq 120).total = 1 := by
  obtain ⟨htotal, hfrac, hexp⟩ := hbooks
  have hguard : ∀ v : State, (v.showGuard 15).gq 120 = v.gq 120 := fun _ => rfl
  rw [State.integratePoint, hkinds, hguard]
  rw [List.foldl_cons, List.foldl_cons, List.foldl_cons, List.foldl_nil, State.integrateKind_gq_other _ _ (show 120 ≠ 8 * 15 + 6 by decide),
    State.integrateKind_gq_other _ _ (show 120 ≠ 8 * 15 + 2 by decide),
    State.integrateKind_total _ _ (show 120 = 8 * 15 + 0 by decide), htotal, hfrac, hexp]
  decide

/-- The sample adds an increment: by its turn, the PEAK of the voltage has come to 1. -/
theorem farPhase_total : ((farPhase.gaugeSample noCodes).gq 120).total = 1 := by
  obtain ⟨n, hkinds⟩ := farPhase15_voltage.kinds (le_of_eq farPhase_peaks.2)
  rw [farPhase_peaks.2] at hkinds
  rw [farPhase_fold]
  exact State.integratePoint_one hkinds farPhase15_books

/-- Refutes O29: the clause of a sample takes every power as it stands before the first quantity grows; the model reads the power
of a point after the points before it have spilled pulses to the S0 outputs, and in a state whose PHASE names a voltage beyond the
converter's, that changes it. -/
theorem not_gaugeIntegratesAndLatches : ¬ Obligations.GaugeIntegratesAndLatches := by
  rintro ⟨hsample, -⟩
  obtain ⟨t, hexec, hgrow, -⟩ := hsample noCodes farPhase farPhase_runs
  obtain rfl := eq_ended_of_finish hexec
  obtain ⟨n, hkinds⟩ := farPhase_sampled.kinds (by rw [farPhase_peaks.1]; decide)
  rw [farPhase_peaks.1] at hkinds
  obtain ⟨htotal, -⟩ := hgrow 15 0 0 (by decide) (by rw [hkinds]; exact List.mem_cons_self)
  obtain ⟨hzero, hfrac, hexp⟩ := farPhase_books
  rw [State.gq, State.ended_gauge, ← State.gq, show 8 * 15 + 0 = 120 from rfl, farPhase_total, hzero, hfrac, hexp] at htotal
  exact absurd htotal (by decide)

end Sys2Proof.Machine
end

section
/-!
PROOFS. Insertion, ejection and the resets of the slot (spec/03, spec/04): what a reset of the module leaves, and the pins.
-/
namespace Sys2Proof.Machine

/-! ## The blocks of the island -/

theorem runKey_inj {b c : Nat} (h : (F.STATE_RUN b).key = (F.STATE_RUN c).key) : b = c := by
  simp only [Fld.key, F.STATE_RUN] at h
  omega

/-- A block of the island runs on once it runs and the island is on. -/
theorem State.ended_run_island (s : State) {u : State} {b : Nat} (hb : ∀ v : State, v.runsAs b = v.islandOn)
    (hrun : u.run b = true) (hon : u.islandOn = true) : (s.ended u).run b = true := by
  have hsettle : u.settle.run b = true ∧ u.settle.islandOn = true := by
    refine State.settle_ind (fun v => v.run b = true ∧ v.islandOn = true) u ⟨hrun, hon⟩ fun v c _ ⟨hv, hi⟩ => ?_
    rcases v.settleRun_cases c with he | he <;> rw [he]
    · exact ⟨hv, hi⟩
    · refine ⟨?_, hi⟩
      by_cases hc : b = c
      · subst hc
        rw [hb, hi, State.run, State.isSet, State.rd_wr_same]
        rfl
      · rw [State.run, State.isSet, State.rd_wr_other _ _ fun he => hc (runKey_inj he)]
        exact hv
  rw [State.run, State.isSet, State.ended, State.pending_rd]
  exact hsettle.1

/-! ## What a reset leaves (R84, R86) -/

/-- A field below the keystore's registers. -/
def belowKey (g : Fld) : Prop := g.addr < 0x40140000 ∧ g.lo < 32

theorem belowKey.ne {g f : Fld} (h : belowKey g) (hf : 0x40140000 ≤ f.addr) : g.key ≠ f.key := by
  obtain ⟨haddr, hlo⟩ := h
  simp only [Fld.key]
  omega

/-- A run of steps that each keep a field keeps it. -/
theorem State.foldl_rd {α : Type} {f : State → α → State} {g : Fld} (hf : ∀ s x, (f s x).rd g = s.rd g) (l : List α) (s : State) :
    (l.foldl f s).rd g = s.rd g := by
  induction l generalizing s with
  | nil => rfl
  | cons x l ih => rw [List.foldl_cons, ih, hf]

theorem State.setNext_rd (s : State) (x : Nat) (n : Option NextSa) (g : Fld) : (s.setNext x n).rd g = s.rd g := rfl

section
variable (s : State) {g : Fld} (h : belowKey g)
include h

theorem State.eraseDerived_rd : s.eraseDerived.rd g = s.rd g :=
  State.foldl_rd (fun s e => (State.setNext_rd _ _ _ g).trans
    (s.rd_wr_other _ (h.ne (by simp only [F.KEY_SLOT_STAT_STATE]; omega)))) _ s

theorem State.destroyRoot_rd : s.destroyRoot.rd g = s.rd g := by
  refine (State.foldl_rd (fun s k => s.rd_wr_other _ (h.ne (by simp only [F.KEY_SLOT_STAT_STATE]; omega))) _ _).trans ?_
  exact (State.rd_wr_other _ _ (h.ne (by decide))).trans (s.eraseDerived_rd h)

theorem State.closeDebug_rd : s.closeDebug.rd g = s.rd g := by
  unfold State.closeDebug
  extract_lets s1
  have h1 : s1.rd g = s.rd g := by
    simp only [s1]
    split
    · exact s.destroyRoot_rd h
    · exact s.eraseDerived_rd h
  exact (State.rd_wr_other _ _ (h.ne (by decide))).trans ((State.rd_wr_other _ _ (h.ne (by decide))).trans h1)

theorem State.keyReset_rd : s.keyReset.rd g = s.rd g := by
  unfold State.keyReset
  extract_lets s1
  have h1 : s1.rd g = s.rd g := by
    simp only [s1]
    split
    · exact s.closeDebug_rd h
    · rfl
  refine (State.foldl_rd (fun s i => ?_) _ _).trans h1
  exact State.rd_wr_other _ _ (h.ne (by simp only [F.KEY_CHAL_NONCE]; omega))

end

/-- The fields of one domain as `allOff` leaves them. -/
def State.domOffAt (t : State) (d : Nat) : State :=
  (((t.wr (F.PWR_DOM_STATE_STATE d) domOff).wr (F.PWR_DOM_STATE_TARGET d) domOff).wr
    (F.PWR_DOM_STATE_PEND_VALID d) 0).wr (F.PWR_DOM_STATE_PENDING d) 0

theorem State.domOffAt_isOn (t : State) (d : Nat) : (t.domOffAt d).isOn d = false := by
  have hne : (t.domOffAt d).rd (F.PWR_DOM_STATE_STATE d) = domOff := by
    unfold State.domOffAt
    repeat rw [State.rd_wr_other _ _ (by simp only [Fld.key, F.PWR_DOM_STATE_STATE, F.PWR_DOM_STATE_TARGET,
      F.PWR_DOM_STATE_PEND_VALID, F.PWR_DOM_STATE_PENDING]; omega)]
    exact State.rd_wr_same _ _ _
  rw [State.isOn, State.dom, hne]
  decide

theorem State.domOffAt_rd (t : State) (d : Nat) {g : Fld} (hd : d < 50) (h : 0x400100C8 ≤ g.addr ∧ g.lo < 32) :
    (t.domOffAt d).rd g = t.rd g := by
  unfold State.domOffAt
  repeat rw [State.rd_wr_other _ _ (by simp only [Fld.key, F.PWR_DOM_STATE_STATE, F.PWR_DOM_STATE_TARGET,
    F.PWR_DOM_STATE_PEND_VALID, F.PWR_DOM_STATE_PENDING]; omega)]

theorem State.domOffAt_isOn_kept (t : State) {d : Nat} (e : Nat) (h : t.isOn d = false) : (t.domOffAt e).isOn d = false := by
  by_cases he : d = e
  · subst he
    exact t.domOffAt_isOn d
  · have hkept : (t.domOffAt e).rd (F.PWR_DOM_STATE_STATE d) = t.rd (F.PWR_DOM_STATE_STATE d) := by
      unfold State.domOffAt
      repeat rw [State.rd_wr_other _ _ (by simp only [Fld.key, F.PWR_DOM_STATE_STATE, F.PWR_DOM_STATE_TARGET,
        F.PWR_DOM_STATE_PEND_VALID, F.PWR_DOM_STATE_PENDING]; omega)]
    rw [State.isOn, State.dom, hkept]
    exact h

theorem State.foldl_domOffAt_isOn (l : List Nat) (t : State) {d : Nat} (h : d ∈ l ∨ t.isOn d = false) :
    (l.foldl State.domOffAt t).isOn d = false := by
  induction l generalizing t with
  | nil => exact h.resolve_left (by simp)
  | cons e l ih =>
    refine ih (t.domOffAt e) ?_
    rcases h with hmem | hoff
    · rcases List.mem_cons.mp hmem with rfl | hl
      · exact .inr (t.domOffAt_isOn d)
      · exact .inl hl
    · exact .inr (t.domOffAt_isOn_kept e hoff)

theorem State.allOff_isOn (s : State) {d : Nat} (hd : d < 50) : s.allOff.isOn d = false := by
  unfold State.allOff
  extract_lets s1 _ _ _ _ _ _ _ _ _ t t2
  have ht2 : t2 = (List.range 50).foldl State.domOffAt t := rfl
  have hoff := State.foldl_domOffAt_isOn (List.range 50) t (.inl (List.mem_range.mpr hd))
  rw [← ht2] at hoff
  rw [State.isOn, State.dom, State.setKey_rd]
  exact hoff

theorem State.foldl_domOffAt_rd {l : List Nat} (hl : ∀ d ∈ l, d < 50) (t : State) {g : Fld}
    (h : 0x400100C8 ≤ g.addr ∧ g.lo < 32) : (l.foldl State.domOffAt t).rd g = t.rd g := by
  induction l generalizing t with
  | nil => rfl
  | cons d l ih =>
    rw [List.foldl_cons, ih fun e he => hl e (List.mem_cons_of_mem d he)]
    exact t.domOffAt_rd d (hl d List.mem_cons_self) h

/-- A register of the island outside the domains' keeps its value. -/
theorem State.allOff_rd (s : State) {g : Fld} (h : 0x400100C8 ≤ g.addr ∧ g.lo < 32) (hisland : islandKey g.key = true) :
    s.allOff.rd g = s.rd g := by
  unfold State.allOff
  extract_lets s1 _ _ _ _ _ _ _ _ _ t t2
  have hregs : s1.regs = s.regs := by
    simp only [s1]
    split <;> rfl
  have ht2 : t2 = (List.range 50).foldl State.domOffAt t := rfl
  have hfold := State.foldl_domOffAt_rd (l := List.range 50) (fun d hd => List.mem_range.mp hd) t h
  rw [← ht2] at hfold
  rw [State.setKey_rd, hfold, State.rd, State.rd, AMap.get, AMap.get, ← hregs]
  exact congrArg (fun o : Option Nat => o.getD g.reset)
    (AMap.find_filter_keep s1.regs (fun e => islandKey e.1) g.key fun _ => hisland)

section
variable (s : State) (c : Nat) {g : Fld}

theorem State.resetEntry_eq_rd : (s.resetEntry c).rd g = (((((s.allOff.keyReset.wr F.SLOT_STATUS_ADDR 63).wr F.PWR_MODE_MODE 0).wr
    F.SYS_RESET_CAUSE_PREV (((s.allOff.keyReset.wr F.SLOT_STATUS_ADDR 63).wr F.PWR_MODE_MODE 0).rd F.SYS_RESET_CAUSE_CAUSE)).wr
    F.SYS_RESET_CAUSE_CAUSE c).wr F.SYS_RESET_CAUSE_FW_RESTARTS 0).rd g := by
  unfold State.resetEntry
  extract_lets s1 s2 s3 _ s4 _
  rw [State.setSys_rd, State.setSlot_rd]
  rfl

theorem State.resetEntry_rd (h : belowKey g)
    (hne : g.key ∉ [F.PWR_MODE_MODE.key, F.SYS_RESET_CAUSE_PREV.key, F.SYS_RESET_CAUSE_CAUSE.key, F.SYS_RESET_CAUSE_FW_RESTARTS.key]) :
    (s.resetEntry c).rd g = s.allOff.rd g := by
  simp only [List.mem_cons, List.not_mem_nil, or_false, not_or] at hne
  obtain ⟨hmode, hprev, hcause, hfw⟩ := hne
  rw [State.resetEntry_eq_rd, State.rd_wr_other _ _ hfw, State.rd_wr_other _ _ hcause, State.rd_wr_other _ _ hprev,
    State.rd_wr_other _ _ hmode, State.rd_wr_other _ _ (h.ne (by decide)), s.allOff.keyReset_rd h]

theorem State.resetEntry_isOn {d : Nat} (hd : d < 50) : (s.resetEntry c).isOn d = false := by
  have hkept : (s.resetEntry c).rd (F.PWR_DOM_STATE_STATE d) = s.allOff.rd (F.PWR_DOM_STATE_STATE d) :=
    s.resetEntry_rd c ⟨by simp only [F.PWR_DOM_STATE_STATE]; omega, by simp only [F.PWR_DOM_STATE_STATE]; omega⟩ (by
      simp only [List.mem_cons, List.not_mem_nil, or_false, Fld.key, F.PWR_DOM_STATE_STATE, F.PWR_MODE_MODE,
        F.SYS_RESET_CAUSE_PREV, F.SYS_RESET_CAUSE_CAUSE, F.SYS_RESET_CAUSE_FW_RESTARTS]
      omega)
  rw [State.isOn, State.dom, hkept]
  exact s.allOff_isOn hd

theorem State.resetEntry_mode : (s.resetEntry c).rd F.PWR_MODE_MODE = 0 := by
  rw [State.resetEntry_eq_rd, State.rd_wr_other _ _ (by decide), State.rd_wr_other _ _ (by decide),
    State.rd_wr_other _ _ (by decide), State.rd_wr_same]
  rfl

theorem State.resetEntry_addr : (s.resetEntry c).rd F.SLOT_STATUS_ADDR = 63 := by
  rw [State.resetEntry_eq_rd, State.rd_wr_other _ _ (by decide), State.rd_wr_other _ _ (by decide),
    State.rd_wr_other _ _ (by decide), State.rd_wr_other _ _ (by decide), State.rd_wr_same]
  rfl

theorem State.resetEntry_cause (hc : c < 16) : (s.resetEntry c).rd F.SYS_RESET_CAUSE_CAUSE = c := by
  rw [State.resetEntry_eq_rd, State.rd_wr_other _ _ (by decide), State.rd_wr_fits _ _ hc]

theorem State.resetEntry_restarts : (s.resetEntry c).rd F.SYS_RESET_CAUSE_FW_RESTARTS = 0 := by
  rw [State.resetEntry_eq_rd, State.rd_wr_same]
  rfl

theorem State.resetEntry_cycles : (s.resetEntry c).rd F.PWR_CYCLES_COUNT = s.rd F.PWR_CYCLES_COUNT :=
  (s.resetEntry_rd c ⟨by decide, by decide⟩ (by decide)).trans (s.allOff_rd (by decide) (by decide))

/-- The release writes the slot address and RUN of four blocks. -/
theorem State.release_rd (hrun : notRun g.key) (hne : g.key ≠ F.SLOT_STATUS_ADDR.key) : s.release.rd g = s.rd g :=
  (State.rd_wr_other _ _ (hrun bKEY (by decide))).trans ((State.rd_wr_other _ _ (hrun bRTC (by decide))).trans
    ((State.rd_wr_other _ _ (hrun bPWR (by decide))).trans ((State.rd_wr_other _ _ (hrun bSLOT (by decide))).trans
      (State.rd_wr_other _ _ hne))))

theorem State.release_addr : s.release.rd F.SLOT_STATUS_ADDR = s.slot.straps % 64 :=
  (State.rd_wr_other _ _ (by decide)).trans ((State.rd_wr_other _ _ (by decide)).trans
    ((State.rd_wr_other _ _ (by decide)).trans ((State.rd_wr_other _ _ (by decide)).trans (State.rd_wr_same _ _ _))))

/-- A reset of the module: its cause, MODE 0, every domain OFF, and the release. -/
theorem State.moduleReset_spec (hc : c < 16) : (s.moduleReset c).slot.released = true ∧ (s.moduleReset c).sys.levelTo = some 2 ∧
    (s.moduleReset c).rd F.SYS_RESET_CAUSE_CAUSE = c ∧ (s.moduleReset c).rd F.PWR_MODE_MODE = 0 ∧
    ∀ d, d < 50 → (s.moduleReset c).isOn d = false := by
  refine ⟨rfl, rfl, ?_, ?_, fun d hd => ?_⟩
  · exact (State.release_rd _ (Fld.notRun (by decide)) (by decide)).trans (s.resetEntry_cause c hc)
  · exact (State.release_rd _ (Fld.notRun (by decide)) (by decide)).trans (s.resetEntry_mode c)
  · have hkept : (s.moduleReset c).rd (F.PWR_DOM_STATE_STATE d) = (s.resetEntry c).rd (F.PWR_DOM_STATE_STATE d) :=
      State.release_rd _ (Fld.notRun (by simp only [F.PWR_DOM_STATE_STATE]; omega))
        (by simp only [Fld.key, F.PWR_DOM_STATE_STATE, F.SLOT_STATUS_ADDR]; omega)
    rw [State.isOn, State.dom, hkept]
    exact s.resetEntry_isOn c hd

end

/-! ## The clauses -/

theorem exec_supplyMate_spec (s : State) : ∃ t, exec .supplyMate s = .next t ∧ t.slot.logicOn = true ∧
    t.rd F.PWR_ISLAND_STAT_ON_CELL = 0 ∧ t.run bPWR = true ∧ t.run bRTC = true ∧ t.run bKEY = true ∧
    RegsKept [F.PWR_ISLAND_STAT_ON_CELL] s t ∧ MemKept s t := by
  have hrun : s.supplyMate.run bPWR = true ∧ s.supplyMate.run bRTC = true ∧ s.supplyMate.run bKEY = true := by
    have hset : ∀ (v : State) (b : Nat), (v.wr (F.STATE_RUN b) 1).run b = true := fun v b => by
      rw [State.run, State.isSet, State.rd_wr_same]
      rfl
    have hkept : ∀ (v : State) (b c : Nat), b ≠ c → v.run b = true → (v.wr (F.STATE_RUN c) 1).run b = true :=
      fun v b c hbc hv => by
        rw [State.run, State.isSet, State.rd_wr_other _ _ fun he => hbc (runKey_inj he)]
        exact hv
    exact ⟨hkept _ _ _ (by decide) (hkept _ _ _ (by decide) (hset _ _)), hkept _ _ _ (by decide) (hset _ _), hset _ _⟩
  refine ⟨_, finish_ended s s.supplyMate, ?_, ?_, ?_, ?_, ?_, ?_, State.ended_memKept rfl⟩
  · rw [State.ended_slot]; rfl
  · exact (State.ended_rd _ _ (Fld.notRun (by decide))).trans ((State.rd_wr_other _ _ (by decide)).trans
      ((State.rd_wr_other _ _ (by decide)).trans ((State.rd_wr_other _ _ (by decide)).trans (State.rd_wr_same _ _ _))))
  · exact s.ended_run_island (fun _ => rfl) hrun.1 rfl
  · exact s.ended_run_island (fun _ => rfl) hrun.2.1 rfl
  · exact s.ended_run_island (fun _ => rfl) hrun.2.2 rfl
  · exact fun g hg hne => (State.ended_rd _ _ hg).trans ((State.rd_wr_other _ _ (hg bKEY (by decide))).trans
      ((State.rd_wr_other _ _ (hg bRTC (by decide))).trans ((State.rd_wr_other _ _ (hg bPWR (by decide))).trans
        (State.rd_wr_other _ _ (hne _ List.mem_cons_self)))))

theorem exec_presentMate_spec (x : SlotSide) (s : State) : ∃ t, exec (.presentMate x) s = .next t ∧
    t.slot.straps = x.straps.toNat ∧ t.slot.primer = x.primer ∧ t.rd F.SLOT_STATUS_PRESENT = 1 ∧
    t.rd F.SLOT_STATUS_LEVER = b2n x.leverClosed ∧ RegsKept [F.SLOT_STATUS_PRESENT, F.SLOT_STATUS_LEVER] s t ∧
    MemKept s t := by
  refine ⟨_, finish_ended s (s.presentMate x), ?_, ?_, ?_, ?_, State.ended_regsKept fun g hne => ?_, State.ended_memKept rfl⟩
  · rw [State.ended_slot]; rfl
  · rw [State.ended_slot]; rfl
  · exact (State.ended_rd _ _ (Fld.notRun (by decide))).trans ((State.rd_wr_other _ _ (by decide)).trans (State.rd_wr_same _ _ _))
  · exact (State.ended_rd _ _ (Fld.notRun (by decide))).trans (State.rd_wr_fits _ _ (b2n_lt_two _))
  · exact (State.rd_wr_other _ _ (hne _ (by simp))).trans (State.rd_wr_other _ _ (hne _ (by simp)))

theorem exec_resetRelease_spec (ms : Nat) (s : State) (hlogic : s.slot.logicOn = true) (hpresent : s.present = true)
    (hpark : s.sys.parkLatch = false) (hheld : s.slot.released = false) (hms : 100 ≤ ms) :
    ∃ t, exec (.resetRelease ms) s = .next t ∧ t.slot.released = true ∧
      t.rd F.SLOT_STATUS_ADDR = s.slot.straps % 64 ∧ t.rd F.SLOT_STATUS_LEVER = 1 ∧ t.sys.levelTo = some 2 ∧
      RegsKept [F.SLOT_STATUS_ADDR, F.SLOT_STATUS_LEVER] s t ∧ MemKept s t := by
  have heff : s.resetRelease ms = (s.wr F.SLOT_STATUS_LEVER 1).release :=
    if_pos ⟨hlogic, hpresent, by simp [hpark], by simp [hheld], hms⟩
  refine ⟨_, congrArg (finish s) heff, ?_, ?_, ?_, ?_, fun g hg hne => ?_, State.ended_memKept rfl⟩
  · exact (s.ended_slot _).symm ▸ rfl
  · exact (State.ended_rd _ _ (Fld.notRun (by decide))).trans (State.release_addr _)
  · exact (State.ended_rd _ _ (Fld.notRun (by decide))).trans ((State.release_rd _ (Fld.notRun (by decide)) (by decide)).trans
      (State.rd_wr_same _ _ _))
  · exact (s.ended_sys _).symm ▸ rfl
  · exact (State.ended_rd _ _ hg).trans ((State.release_rd _ hg (hne _ (by simp))).trans (State.rd_wr_other _ _ (hne _ (by simp))))

theorem exec_powerOnReset_spec (s : State) (hlogic : s.slot.logicOn = true) (hpresent : s.present = true)
    (hpark : s.sys.parkLatch = false) (hheld : s.slot.released = false) :
    ∃ t, exec .powerOnReset s = .next t ∧ (∀ d, d < 50 → t.isOn d = false) ∧ t.mode = 0 ∧
      t.rd F.SLOT_STATUS_ADDR = 63 ∧ t.rd F.SYS_RESET_CAUSE_CAUSE = (if s.sys.islandLost then 2 else 1) ∧
      t.rd F.SYS_RESET_CAUSE_FW_RESTARTS = 0 ∧ t.rd F.PWR_CYCLES_COUNT = (s.rd F.PWR_CYCLES_COUNT + 1) % 2 ^ 32 := by
  have heff : s.powerOnReset = ((s.wr F.SLOT_STATUS_LEVER 1).resetEntry (if s.sys.islandLost then 2 else 1)).inc
      F.PWR_CYCLES_COUNT := if_pos ⟨hlogic, hpresent, by simp [hpark], by simp [hheld]⟩
  have hcause : (if s.sys.islandLost then 2 else 1) < 16 := by split <;> decide
  refine ⟨_, congrArg (finish s) heff, fun d hd => ?_, ?_, ?_, ?_, ?_, ?_⟩
  · refine (State.ended_isOn s _ hd).trans ?_
    rw [State.isOn, State.dom, State.inc, State.rd_wr_other _ _ (by
      simp only [Fld.key, F.PWR_DOM_STATE_STATE, F.PWR_CYCLES_COUNT]; omega)]
    exact State.resetEntry_isOn _ _ hd
  · exact (State.ended_rd _ _ (Fld.notRun (by decide))).trans ((State.rd_wr_other _ _ (by decide)).trans
      (State.resetEntry_mode _ _))
  · exact (State.ended_rd _ _ (Fld.notRun (by decide))).trans ((State.rd_wr_other _ _ (by decide)).trans
      (State.resetEntry_addr _ _))
  · exact (State.ended_rd _ _ (Fld.notRun (by decide))).trans ((State.rd_wr_other _ _ (by decide)).trans
      (State.resetEntry_cause _ _ hcause))
  · exact (State.ended_rd _ _ (Fld.notRun (by decide))).trans ((State.rd_wr_other _ _ (by decide)).trans
      (State.resetEntry_restarts _ _))
  · refine (State.ended_rd _ _ (Fld.notRun (by decide))).trans ?_
    rw [State.inc, State.rd_wr_same, State.resetEntry_cycles, State.rd_wr_other _ _ (by decide)]
    rfl

theorem exec_presentNBreak_spec (s : State) : ∃ t, exec .presentNBreak s = .next t ∧ t.rd F.SLOT_STATUS_PRESENT = 0 ∧
    t.rd F.SYS_CONFIG_SRC_SEATED = 0 ∧ RegsKept [F.SLOT_STATUS_PRESENT, F.SYS_CONFIG_SRC_SEATED] s t ∧ MemKept s t := by
  refine ⟨_, finish_ended s s.presentBreak, ?_, ?_, State.ended_regsKept fun g hne => ?_, State.ended_memKept rfl⟩
  · exact (State.ended_rd _ _ (Fld.notRun (by decide))).trans ((State.rd_wr_other _ _ (by decide)).trans (State.rd_wr_same _ _ _))
  · exact (State.ended_rd _ _ (Fld.notRun (by decide))).trans (State.rd_wr_same _ _ _)
  · exact (State.rd_wr_other _ _ (hne _ (by simp))).trans (State.rd_wr_other _ _ (hne _ (by simp)))

/-- The actions of an eject end in their marks. -/
theorem State.ejectActions_marks {s : State} (prep : Nat) (hfree : s.ejecting = false) (hreleased : s.slot.released = true)
    (hlogic : s.slot.logicOn = true) : (s.ejectActions prep).rd F.SLOT_STATUS_EJECT_PREP = 1 ∧
      (s.ejectActions prep).rd F.SLOT_EJECT_TIME_PREP_US = min prep 65535 ∧
      (s.ejectActions prep).slot.noFlashWrite = true := by
  unfold State.ejectActions
  rw [if_neg (by simp [hfree, hreleased, hlogic])]
  extract_lets s1 s2 s3 s4 s5 s6 s7 s8
  refine ⟨?_, State.rd_wr_fits _ _ (Nat.lt_succ_of_le (Nat.min_le_right _ _)), rfl⟩
  rw [State.rd_wr_other _ _ (by decide), State.rd_wr_same]
  rfl

theorem exec_ejectPreparation_spec (us prep : Nat) (s : State) (hus : 1000 ≤ us) (hfree : s.ejecting = false)
    (hreleased : s.slot.released = true) (hlogic : s.slot.logicOn = true) :
    ∃ t, exec (.ejectPreparation us prep) s = .next t ∧ t.rd F.SLOT_STATUS_EJECT_PREP = 1 ∧
      t.rd F.SLOT_EJECT_TIME_PREP_US = min prep 65535 ∧ t.slot.noFlashWrite = true := by
  have hfree' : (s.wr F.SLOT_STATUS_LEVER 0).ejecting = false := by
    rw [State.ejecting, State.isSet, State.rd_wr_other _ _ (by decide)]
    exact hfree
  obtain ⟨hprep, htime, hflash⟩ := State.ejectActions_marks (s := s.wr F.SLOT_STATUS_LEVER 0) prep hfree' hreleased hlogic
  have hmarks : (s.ejectPrep us prep).rd F.SLOT_STATUS_EJECT_PREP = 1 ∧
      (s.ejectPrep us prep).rd F.SLOT_EJECT_TIME_PREP_US = min prep 65535 ∧ (s.ejectPrep us prep).slot.noFlashWrite = true := by
    unfold State.ejectPrep
    extract_lets s1 first s2
    rw [if_pos hus]
    split
    · rw [State.setSlot_rd, State.setSlot_rd]
      exact ⟨hprep, htime, hflash⟩
    · exact ⟨hprep, htime, hflash⟩
  refine ⟨_, finish_ended s (s.ejectPrep us prep), ?_, ?_, ?_⟩
  · exact (State.ended_rd _ _ (Fld.notRun (by decide))).trans hmarks.1
  · exact (State.ended_rd _ _ (Fld.notRun (by decide))).trans hmarks.2.1
  · rw [State.ended_slot]; exact hmarks.2.2

theorem exec_presenceLoss_spec (us prep : Nat) (s : State) (hus : 200 ≤ us) (hlever : s.leverShut = true)
    (hfree : s.ejecting = false) (hreleased : s.slot.released = true) (hlogic : s.slot.logicOn = true) :
    ∃ t, exec (.presenceLoss us prep) s = .next t ∧ t.rd F.SLOT_STATUS_EJECT_PREP = 1 ∧
      t.rd F.SLOT_EJECT_TIME_PREP_US = min prep 65535 ∧ t.slot.noFlashWrite = true ∧ t.slot.presenceLost = true := by
  have hkept : ∀ g ∈ [F.SLOT_STATUS_EJECT_ACTIVE, F.SLOT_STATUS_LEVER], s.presentBreak.rd g = s.rd g := by
    intro g hg
    refine (State.rd_wr_other _ _ ?_).trans (State.rd_wr_other _ _ ?_) <;>
      (simp only [List.mem_cons, List.not_mem_nil, or_false] at hg; rcases hg with rfl | rfl <;> decide)
  have hlever' : s.presentBreak.leverShut = true := by
    rw [State.leverShut, State.isSet, hkept _ (by simp)]
    exact hlever
  have hfree' : s.presentBreak.ejecting = false := by
    rw [State.ejecting, State.isSet, hkept _ (by simp)]
    exact hfree
  obtain ⟨hprep, htime, hflash⟩ := State.ejectActions_marks (s := s.presentBreak) prep hfree' hreleased hlogic
  have heff : s.presenceLoss us prep = (s.presentBreak.ejectActions prep).setSlot
      { (s.presentBreak.ejectActions prep).slot with presenceLost := true } := if_pos ⟨hus, hlever', hlogic⟩
  refine ⟨_, congrArg (finish s) heff, ?_, ?_, ?_, ?_⟩
  · exact (State.ended_rd _ _ (Fld.notRun (by decide))).trans ((State.setSlot_rd _ _ _).trans hprep)
  · exact (State.ended_rd _ _ (Fld.notRun (by decide))).trans ((State.setSlot_rd _ _ _).trans htime)
  · exact (congrArg SlotState.noFlashWrite (s.ended_slot _)).trans hflash
  · exact congrArg SlotState.presenceLost (s.ended_slot _)

theorem exec_presenceReturn_spec (s : State) (hlost : s.slot.presenceLost = true) :
    ∃ t, exec .presenceReturn s = .next t ∧ t.rd F.SLOT_STATUS_PRESENT = 1 ∧
      t.rd F.SLOT_EJECT_CNT_GLITCHES = satInc 65535 (s.rd F.SLOT_EJECT_CNT_GLITCHES) ∧ t.slot.presenceLost = false ∧
      RegsKept [F.SLOT_STATUS_PRESENT, F.SLOT_EJECT_CNT_GLITCHES] s t ∧ MemKept s t := by
  have heff : s.presenceReturn = ((s.wr F.SLOT_STATUS_PRESENT 1).setSlot
      { (s.wr F.SLOT_STATUS_PRESENT 1).slot with presenceLost := false }).incSat F.SLOT_EJECT_CNT_GLITCHES := if_pos hlost
  refine ⟨_, congrArg (finish s) heff, ?_, ?_, ?_, State.ended_regsKept fun g hne => ?_, State.ended_memKept rfl⟩
  · refine (State.ended_rd _ _ (Fld.notRun (by decide))).trans ((State.rd_wr_other _ _ (by decide)).trans ?_)
    exact (State.setSlot_rd _ _ _).trans (State.rd_wr_same _ _ _)
  · refine (State.ended_rd _ _ (Fld.notRun (by decide))).trans ?_
    rw [State.incSat, State.rd_wr_fits _ _ ((satInc_le _ _).trans_lt (by decide)), State.setSlot_rd]
    exact congrArg (satInc 65535) (s.rd_wr_other _ (by decide))
  · exact (congrArg SlotState.presenceLost (s.ended_slot _)).trans rfl
  · exact (State.rd_wr_other _ _ (hne _ (by simp))).trans ((State.setSlot_rd _ _ _).trans (State.rd_wr_other _ _ (hne _ (by simp))))

theorem exec_ejectRestart_spec (ms : Nat) (s : State) (hms : 100 ≤ ms) (hprep : s.isSet F.SLOT_STATUS_EJECT_PREP = true)
    (hlogic : s.slot.logicOn = true) (hparked : s.mode ≠ 4) (hhalted : s.mode ≠ 5) :
    ∃ t, exec (.ejectRestart ms) s = .next t ∧ t.rd F.SYS_RESET_CAUSE_CAUSE = 4 ∧ t.slot.released = true ∧ t.mode = 0 ∧
      t.sys.levelTo = some 2 ∧ ∀ d, d < 50 → t.isOn d = false := by
  have hkept : ∀ g ∈ [F.SLOT_STATUS_EJECT_PREP, F.PWR_MODE_MODE],
      ((s.wr F.SLOT_STATUS_LEVER 1).wr F.SLOT_STATUS_PRESENT 1).rd g = s.rd g := by
    intro g hg
    refine (State.rd_wr_other _ _ ?_).trans (State.rd_wr_other _ _ ?_) <;>
      (simp only [List.mem_cons, List.not_mem_nil, or_false] at hg; rcases hg with rfl | rfl <;> decide)
  have heff : ∃ u : State, s.ejectRestart ms = u.moduleReset 4 := by
    unfold State.ejectRestart
    extract_lets s1 parked s2 s3
    have hmode : s1.mode = s.mode := hkept _ (by simp)
    have hprep' : s1.isSet F.SLOT_STATUS_EJECT_PREP = true := by
      rw [State.isSet, hkept _ (by simp)]
      exact hprep
    rw [if_pos ⟨hms, hprep', hlogic, by rw [hmode]; exact hhalted⟩]
    have hpark : parked = false := by
      simp only [parked, hmode]
      exact beq_eq_false_iff_ne.mpr hparked
    rw [hpark, if_neg (by decide)]
    exact ⟨s2, rfl⟩
  obtain ⟨u, heff⟩ := heff
  obtain ⟨hreleased, hlevel, hcause, hmode, hoff⟩ := u.moduleReset_spec 4 (by decide)
  refine ⟨_, congrArg (finish s) heff, ?_, ?_, ?_, ?_, fun d hd => ?_⟩
  · exact (State.ended_rd _ _ (Fld.notRun (by decide))).trans hcause
  · exact (congrArg SlotState.released (s.ended_slot _)).trans hreleased
  · exact (State.ended_rd _ _ (Fld.notRun (by decide))).trans hmode
  · exact (congrArg SysState.levelTo (s.ended_sys _)).trans hlevel
  · exact (State.ended_isOn s _ hd).trans (hoff d hd)

/-- Settles O12: each clause is what its command writes last, or a reset of the module. -/
theorem insertionCommands : Obligations.InsertionCommands :=
  ⟨exec_supplyMate_spec, exec_presentMate_spec, exec_resetRelease_spec, exec_powerOnReset_spec, exec_presentNBreak_spec,
    exec_ejectPreparation_spec, exec_presenceLoss_spec, exec_presenceReturn_spec, exec_ejectRestart_spec⟩

end Sys2Proof.Machine
end

section
/-!
PROOFS. Restring feeds (R469 to R472, R480).
-/
namespace Sys2Proof.Machine

/-! ## What a write of the two feed registers does -/

/-- The written word of BLOCK and TARGET at RESTR_FEED_CTRL. -/
theorem feedCtrl_word (k : Fin 32) (b : BitVec 16) (hk : k.val ≤ 16) :
    (regsRestr[8].written.all fun f =>
      chkField f.chk f.width (bits (b.toNat * 2 ^ 16 + k.val) f.lo f.width) == (true, true)) = true ∧
      bits (b.toNat * 2 ^ 16 + k.val) 0 5 = k.val ∧ bits (b.toNat * 2 ^ 16 + k.val) 16 16 = b.toNat := by
  have hb := b.isLt
  have htarget : bits (b.toNat * 2 ^ 16 + k.val) 0 5 = k.val := by unfold bits; omega
  have hblock : bits (b.toNat * 2 ^ 16 + k.val) 16 16 = b.toNat := by unfold bits; omega
  refine ⟨?_, htarget, hblock⟩
  have hwritten : regsRestr[8].written = [⟨"BLOCK", 16, 16, .zero, .wo, .l, .num, false, .any⟩,
    ⟨"TARGET", 0, 5, .zero, .wo, .l, .num, false, .encMax 16⟩] := by decide
  generalize b.toNat * 2 ^ 16 + k.val = v at htarget
  simp [hwritten, chkField, htarget, hk]

theorem feedData_word (d : BitVec 32) :
    (regsRestr[9].written.all fun f => chkField f.chk f.width (bits d.toNat f.lo f.width) == (true, true)) = true := by
  have hwritten : regsRestr[9].written = [⟨"DATA", 0, 32, .zero, .wo, .l, .num, false, .any⟩] := by decide
  simp [hwritten, chkField]

section
variable (req : Fin 36) {s : State} (hon : s.blockOn bRESTR = true)
include hon

theorem State.addrUp_restr {a : Nat} (h : 0x40150000 ≤ a ∧ a < 0x4015FF00) : s.addrUp a = true :=
  (s.addrUp_block bRESTR a (by decide) (by simp only [blockBase, bRESTR, blockNo]; omega)
    (by simp only [blockBase, bRESTR, blockNo]; omega)).trans hon

theorem exec_restrFeedCtrl (k : Fin 32) (b : BitVec 16) (hk : k.val ≤ 16) :
    exec (.restrFeedCtrl req k b) s =
      .next (s.ended ((s.feedCtrl k b.toNat).2.answer req 0x40150028 (s.feedCtrl k b.toNat).1 0)) := by
  obtain ⟨hchk, htarget, hblock⟩ := feedCtrl_word k b hk
  have hact : s.regAct req bRESTR 0x28 0 (b.toNat * 2 ^ 16 + k.val) WriteMore.none =
      s.feedCtrl (bits (b.toNat * 2 ^ 16 + k.val) 0 5) (bits (b.toNat * 2 ^ 16 + k.val) 16 16) := rfl
  rw [htarget, hblock] at hact
  rw [← hact]
  exact congrArg (finish s) (s.rowWrite_act (req := req) (a := 0x40150028) (State.addrUp_restr hon (by decide)) (by decide)
    (b := bRESTR) (off := 0x28) (r := regsRestr[8]) (ix := []) (by decide) (by decide) (by decide) (by decide) hchk rfl rfl
    (by decide) (by decide))

theorem exec_restrFeedData (d : BitVec 32) (f : Nat) :
    exec (.restrFeedData req d f) s = .next (s.ended ((s.feedData d.toNat f).answer req 0x4015002C stOK 0)) :=
  congrArg (finish s) (s.rowWrite_act (req := req) (a := 0x4015002C) (x := ⟨f, true⟩) (State.addrUp_restr hon (by decide))
    (by decide) (b := bRESTR) (off := 0x2C) (r := regsRestr[9]) (ix := []) (by decide) (by decide) (by decide) (by decide)
    (feedData_word d) rfl rfl (by decide) (by decide))

end

/-! ## RESTR_FEED_CTRL (R469) -/

section
variable (s : State) (k b : Nat)

theorem State.feedCtrl_allowed (h : s.feedAllowed k = true) : s.feedCtrl k b =
    (stOK, ((s.wr F.RESTR_FEED_STAT_OCTETS 0).setRestr { s.restr with feed := some ⟨k, b, []⟩ }).wr
      F.RESTR_FEED_STAT_STATUS stOK) := if_pos h

theorem State.feedCtrl_refused (h : s.feedAllowed k = false) : s.feedCtrl k b =
    (stBAD, ((s.wr F.RESTR_FEED_STAT_OCTETS 0).setRestr { s.restr with feed := none }).wr F.RESTR_FEED_STAT_STATUS stBAD) :=
  if_neg (h ▸ Bool.false_ne_true)

/-- The two fields of RESTR_FEED_STAT written, and what is fed. -/
theorem State.feedStat_written (req a st n : Nat) (r : RestrState) (hst : st < 256) (hn : n < 2 ^ 17) :
    let t := s.ended ((((s.wr F.RESTR_FEED_STAT_OCTETS n).setRestr r).wr F.RESTR_FEED_STAT_STATUS st).answer req a st 0)
    t.restr = r ∧ t.rd F.RESTR_FEED_STAT_OCTETS = n ∧ t.rd F.RESTR_FEED_STAT_STATUS = st ∧
      RegsKept [F.RESTR_FEED_STAT_OCTETS, F.RESTR_FEED_STAT_STATUS] s t ∧ MemKept s t := by
  refine ⟨by simp [State.answer], ?_, ?_, State.ended_regsKept fun g hne => ?_, State.ended_memKept rfl⟩
  · rw [State.ended_rd _ _ (Fld.notRun (by decide)), State.answer_rd, State.rd_wr_other _ _ (by decide), State.setRestr_rd]
    exact State.rd_wr_fits _ _ hn
  · rw [State.ended_rd _ _ (Fld.notRun (by decide)), State.answer_rd]
    exact State.rd_wr_fits _ _ hst
  · rw [State.answer_rd, State.rd_wr_other _ _ (hne _ (by simp)), State.setRestr_rd, State.rd_wr_other _ _ (hne _ (by simp))]

end

/-! ## Blocks -/

/-- The length of a block depends on what is stored and on the target's manifest alone. -/
theorem State.blockLen_congr {s t : State} {k : Nat} (b : Nat) (hmem : t.mem = s.mem)
    (hrunning : t.restr.running = s.restr.running) (hok : (t.tgt k).ok = (s.tgt k).ok) :
    t.blockLen k b = s.blockLen k b := by
  have haddr : ∀ i j, t.blockAddr i j = s.blockAddr i j := fun i j => by
    unfold State.blockAddr State.targetBase State.inactive
    rw [hrunning]
  have hmanifest : ∀ i, t.manifest i = s.manifest i := fun i => by
    unfold State.manifest
    rw [haddr, haddr, hmem]
  have hblocks : t.nBlocks k = s.nBlocks k := by
    unfold State.nBlocks
    rw [hok, hmanifest, hmanifest]
  unfold State.blockLen State.imageLen
  rw [hblocks, hmanifest, hmanifest]

theorem State.blockLen_manifest (s : State) (k b : Nat) (h : 0xFFFE ≤ b) : s.blockLen k b = 65536 := if_pos h

@[simp] theorem State.setTgt_tgt (s : State) (k : Nat) (x : FeedTarget) : (s.setTgt k x).tgt k = x := by
  simp [State.setTgt, State.tgt]

theorem PegFrame.sendFragment (s : State) (dst t b id frag : Nat) (data : List Byte) :
    PegFrame s (s.sendFragment dst t b id frag data) := PegFrame.pegPut s (by decide) _ _ _

theorem PegFrame.sendBlock (s : State) (dst t b id : Nat) (data : List Byte) :
    PegFrame s (s.sendBlock dst t b id data) :=
  PegFrame.foldl (f := fun s i => s.sendFragment dst t b id i ((data.drop (8192 * i)).take 8192)) (List.range 8)
    (fun u i _ => PegFrame.sendFragment u dst t b id i _) s

@[simp] theorem State.setTgt_feed (s : State) (k : Nat) (x : FeedTarget) : (s.setTgt k x).restr.feed = s.restr.feed := rfl

/-- Forwarding a block keeps all of its target but the count of forwarded blocks. -/
theorem State.forwardBlock_tgt (s : State) (src k b id : Nat) (data : List Byte) :
    ∃ n, (s.forwardBlock src k b id data).tgt k = { s.tgt k with forwarded := n } := by
  unfold State.forwardBlock
  split
  · split
    · exact ⟨_, rfl⟩
    · refine ⟨((s.tgt k).forwarded + 1) % 2 ^ 32, ?_⟩
      rw [State.setTgt_tgt]
  · exact ⟨_, rfl⟩

/-- Forwarding a block keeps what is fed. -/
theorem State.forwardBlock_feed (s : State) (src k b id : Nat) (data : List Byte) :
    (s.forwardBlock src k b id data).restr.feed = s.restr.feed := by
  unfold State.forwardBlock
  split
  · split
    · rfl
    · rw [State.setTgt_feed, (PegFrame.sendBlock s _ k b id data).restr]
  · rfl

/-! ## RESTR_FEED_DATA (R469, R480) -/

section
variable (s : State) (k id : Nat)

/-- A node image's entry begins to load. -/
theorem State.beginLoad_entry : ∃ u : State, u.restr.feed = s.restr.feed ∧
    s.beginLoad (k + 1) id = u.setTgt (k + 1) { u.tgt (k + 1) with state := 1, imageId := id } := by
  have hk : k + 1 ≠ 0 := Nat.succ_ne_zero k
  unfold State.beginLoad
  rw [if_neg (fun h => hk h.1)]
  split
  · refine ⟨s.eraseTgt (k + 1), ?_, rfl⟩
    rw [State.eraseTgt, if_neg hk, if_neg hk]
    rfl
  · exact ⟨s, rfl, rfl⟩

theorem State.beginLoad_imageId : ((s.beginLoad (k + 1) id).tgt (k + 1)).imageId = id := by
  obtain ⟨u, -, he⟩ := s.beginLoad_entry k id
  rw [he, State.setTgt_tgt]

theorem State.beginLoad_feed : (s.beginLoad (k + 1) id).restr.feed = s.restr.feed := by
  obtain ⟨u, hfeed, he⟩ := s.beginLoad_entry k id
  rw [he, State.setTgt_feed, hfeed]

/-- A verified manifest of node image entry `k + 1` stored. -/
def State.manifestStored (l : List Byte) : State :=
  let s := s.beginLoad (k + 1) (Config.nimgId l)
  (s.wrOctets (s.blockAddr (k + 1) 0xFFFF) l).setTgt (k + 1) { s.tgt (k + 1) with manifest := 3, ok := true }

theorem State.storeBlock_manifest (src : Nat) (l : List Byte) {f : Nat} (hon : s.flashOn = true) (hf : f < 3) :
    s.storeBlock src (k + 1) 0xFFFF l f =
      if s.nimgVerifies l then
        (stOK, (s.manifestStored k l).forwardBlock src (k + 1) 0xFFFF ((s.manifestStored k l).tgt (k + 1)).imageId l)
      else (stBAD, s) := by
  rw [State.storeBlock, if_neg (by simp [hon]), if_neg (by omega), if_neg (by omega), if_pos (by omega)]
  rfl

/-- What the manifest's store leaves of its entry, and of the feed. -/
theorem State.manifestStored_entry (src : Nat) (l : List Byte) {u : State}
    (hu : u = (s.manifestStored k l).forwardBlock src (k + 1) 0xFFFF ((s.manifestStored k l).tgt (k + 1)).imageId l) :
    (u.tgt (k + 1)).ok = true ∧ (u.tgt (k + 1)).imageId = Config.nimgId l ∧ u.restr.feed = s.restr.feed := by
  obtain ⟨n, hn⟩ := (s.manifestStored k l).forwardBlock_tgt src (k + 1) 0xFFFF
    ((s.manifestStored k l).tgt (k + 1)).imageId l
  rw [hu, hn, State.forwardBlock_feed]
  unfold State.manifestStored
  rw [State.setTgt_tgt, State.setTgt_feed, State.wrOctets_restr, State.beginLoad_feed]
  exact ⟨rfl, s.beginLoad_imageId k _, rfl⟩

end

section
variable (d f : Nat) (fd : Feed) {s : State} (hfeed : s.restr.feed = some fd)
include hfeed

/-- A word that does not end its block. -/
theorem State.feedData_gathers (h : fd.octets.length + 4 < s.blockLen fd.target fd.block) :
    s.feedData d f = (s.wr F.RESTR_FEED_STAT_OCTETS (fd.octets.length + 4)).setRestr
      { s.restr with feed := some { fd with octets := (octetsLE 4 d).reverse ++ fd.octets } } := by
  have hlen : ((octetsLE 4 d).reverse ++ fd.octets).length = fd.octets.length + 4 := by
    rw [List.length_append, List.length_reverse, length_octetsLE]
    omega
  rw [State.feedData, hfeed]
  simp only [hlen]
  exact if_neg (by omega)

/-- The state in which the block that a word ends is stored. -/
def State.blockEnded (s : State) (n : Nat) : State :=
  (s.wr F.RESTR_FEED_STAT_OCTETS n).setRestr { s.restr with feed := none }

omit hfeed in
theorem State.blockEnded_flashOn (n : Nat) : (s.blockEnded n).flashOn = s.flashOn := by
  have hread : (s.blockEnded n).dom 44 = s.dom 44 := State.rd_wr_other _ _ (by decide)
  unfold State.flashOn State.isOn
  rw [hread]
  rfl

/-- A word that ends its block. -/
theorem State.feedData_stores (h : s.blockLen fd.target fd.block ≤ fd.octets.length + 4) :
    s.feedData d f =
      let e := (s.blockEnded (fd.octets.length + 4)).storeBlock s.ringId fd.target fd.block
        ((fd.octets.reverse ++ octetsLE 4 d).take (s.blockLen fd.target fd.block)) f
      e.2.wr F.RESTR_FEED_STAT_STATUS e.1 := by
  have hlen : ((octetsLE 4 d).reverse ++ fd.octets).length = fd.octets.length + 4 := by
    rw [List.length_append, List.length_reverse, length_octetsLE]
    omega
  have hring : (s.blockEnded (fd.octets.length + 4)).ringId = s.ringId := by
    unfold State.ringId State.blockEnded
    simp only [State.setRestr_rd]
    rw [State.rd_wr_other _ _ (by decide), State.rd_wr_other _ _ (by decide)]
  rw [State.feedData, hfeed]
  simp only [hlen, List.reverse_append, List.reverse_reverse, if_pos h]
  rw [← hring]
  rfl

end

/-- The event of a flash that fails is the newest of the recorder of events. -/
theorem State.flashEvent_last (u : State) : ∃ v, u.flashEvent.evts.getLast? = some v ∧ v.cls = 0x00F0 := by
  refine ⟨⟨u.evtSeq % 2 ^ 32, 0x00F0, unitOf bRESTR, u.opSec, (o1 (unitOf bRESTR)).take 64⟩, ?_, rfl⟩
  simp [State.flashEvent, State.raiseEvent]

section
variable (req : Fin 36) (d : BitVec 32) (f : Nat) (fd : Feed) {s : State} (hon : s.blockOn bRESTR = true)
  (hfeed : s.restr.feed = some fd)
include hon hfeed

theorem restrFeedData_gathers (h : fd.octets.length + 4 < s.blockLen fd.target fd.block) :
    ∃ t, exec (.restrFeedData req d f) s = .next t ∧
      t.restr = { s.restr with feed := some { fd with octets := (octetsLE 4 d.toNat).reverse ++ fd.octets } } ∧
      t.rd F.RESTR_FEED_STAT_OCTETS = (fd.octets.length + 4) % 2 ^ 17 ∧ RegsKept [F.RESTR_FEED_STAT_OCTETS] s t ∧
      MemKept s t := by
  refine ⟨_, exec_restrFeedData req hon d f, ?_⟩
  rw [State.feedData_gathers d.toNat f fd hfeed h]
  refine ⟨by simp [State.answer], ?_, State.ended_regsKept fun g hne => ?_, State.ended_memKept rfl⟩
  · rw [State.ended_rd _ _ (Fld.notRun (by decide)), State.answer_rd, State.setRestr_rd]
    exact State.rd_wr_same _ _ _
  · rw [State.answer_rd, State.setRestr_rd, State.rd_wr_other _ _ (hne _ (List.mem_singleton_self _))]

theorem restrFeedData_flashFails (hend : s.blockLen fd.target fd.block ≤ fd.octets.length + 4) (hflash : s.flashOn = true)
    (hf : 3 ≤ f) : ∃ t v, exec (.restrFeedData req d f) s = .next t ∧ t.restr = { s.restr with feed := none } ∧
      t.rd F.RESTR_FEED_STAT_STATUS = stBAD ∧ t.evts.getLast? = some v ∧ v.cls = 0x00F0 ∧
      BlocksKept [bRESTR, bHCP] s t ∧ MemKept s t := by
  obtain ⟨v, hv, hcls⟩ := (s.blockEnded (fd.octets.length + 4)).flashEvent_last
  have hstore : ∀ b n l, (s.blockEnded (fd.octets.length + 4)).storeBlock n fd.target b l f =
      (stBAD, (s.blockEnded (fd.octets.length + 4)).flashEvent) := fun b n l => by
    rw [State.storeBlock, if_neg (by simp [State.blockEnded_flashOn, hflash]), if_pos hf]
  refine ⟨_, v, exec_restrFeedData req hon d f, ?_⟩
  rw [State.feedData_stores d.toNat f fd hfeed hend]
  simp only [hstore]
  refine ⟨?_, ?_, ?_, hcls, State.ended_blocksKept fun g hg => ?_, State.ended_memKept ?_⟩
  · rw [State.ended_restr, State.answer, State.emit_restr, State.wr_restr, State.flashEvent,
      (PegFrame.raiseEvent _ _ _ _).restr]
    rfl
  · rw [State.ended_rd _ _ (Fld.notRun (by decide)), State.answer_rd]
    exact State.rd_wr_fits _ _ (by decide)
  · rw [State.ended_evts, State.answer, State.emit_evts, State.wr_evts, hv]
  · have hne : ∀ c : Fld, inBlock bRESTR c.key = true ∨ inBlock bHCP c.key = true → g.key ≠ c.key := fun c hc he => by
      have hgR := hg bRESTR (by simp)
      have hgH := hg bHCP (by simp)
      rw [he] at hgR hgH
      rcases hc with hc | hc
      · exact Bool.false_ne_true (hgR.symm.trans hc)
      · exact Bool.false_ne_true (hgH.symm.trans hc)
    rw [State.answer_rd, State.rd_wr_other _ _ (hne _ (Or.inl (by decide))), State.flashEvent,
      State.raiseEvent_rd _ _ _ _ (hne _ (Or.inr (by decide))) (hne _ (Or.inr (by decide))), State.blockEnded,
      State.setRestr_rd, State.rd_wr_other _ _ (hne _ (Or.inl (by decide)))]
  · simp [State.answer, State.flashEvent, State.blockEnded]

theorem restrFeedData_manifest (k : Nat) (l : List Byte) (htarget : fd.target = k + 1) (hblock : fd.block = 0xFFFF)
    (hend : 65536 ≤ fd.octets.length + 4) (hflash : s.flashOn = true) (hf : f < 3)
    (hl : (fd.octets.reverse ++ octetsLE 4 d.toNat).take 65536 = l) :
    ∃ t, exec (.restrFeedData req d f) s = .next t ∧ t.restr.feed = none ∧
      (match s.nimgVerifies l with
        | true => t.rd F.RESTR_FEED_STAT_STATUS = stOK ∧ (t.tgt (k + 1)).ok = true ∧
          (t.tgt (k + 1)).imageId = Config.nimgId l
        | false => t.rd F.RESTR_FEED_STAT_STATUS = stBAD ∧ t.restr.targets = s.restr.targets) := by
  have hlen : s.blockLen fd.target fd.block = 65536 := State.blockLen_manifest _ _ _ (by omega)
  have hverifies : (s.blockEnded (fd.octets.length + 4)).nimgVerifies l = s.nimgVerifies l := by
    have hread : ∀ a, (s.blockEnded (fd.octets.length + 4)).rd (F.KEY_ANCHOR_STAT_USE a) = s.rd (F.KEY_ANCHOR_STAT_USE a) :=
      fun a => State.rd_wr_other _ _ (by simp only [Fld.key, F.KEY_ANCHOR_STAT_USE, F.RESTR_FEED_STAT_OCTETS]; omega)
    unfold State.nimgVerifies State.anchorsOf
    simp only [hread]
    rfl
  have hstatus : ∀ (u : State) (st : Nat), st < 256 →
      (s.ended ((u.wr F.RESTR_FEED_STAT_STATUS st).answer req 0x4015002C stOK 0)).rd F.RESTR_FEED_STAT_STATUS = st :=
    fun u st hst => by
      rw [State.ended_rd _ _ (Fld.notRun (by decide)), State.answer_rd]
      exact State.rd_wr_fits _ _ hst
  have hrestr : ∀ (u : State) (st : Nat),
      (s.ended ((u.wr F.RESTR_FEED_STAT_STATUS st).answer req 0x4015002C stOK 0)).restr = u.restr := fun u st => by
    rw [State.ended_restr, State.answer, State.emit_restr, State.wr_restr]
  have hstore := State.storeBlock_manifest (s.blockEnded (fd.octets.length + 4)) k s.ringId l
    ((State.blockEnded_flashOn _).trans hflash) hf
  rw [hverifies] at hstore
  refine ⟨_, exec_restrFeedData req hon d f, ?_⟩
  rw [State.feedData_stores d.toNat f fd hfeed (by omega), hlen, hl, htarget, hblock]
  simp only [hstore]
  cases s.nimgVerifies l with
  | true =>
    simp only [if_true]
    obtain ⟨hok, hid, hkept⟩ := (s.blockEnded (fd.octets.length + 4)).manifestStored_entry k s.ringId l rfl
    exact ⟨(congrArg RestrState.feed (hrestr _ _)).trans hkept, hstatus _ _ (by decide),
      (congrArg (fun r => (r.targets.get (k + 1) FeedTarget.empty).ok) (hrestr _ _)).trans hok,
      (congrArg (fun r => (r.targets.get (k + 1) FeedTarget.empty).imageId) (hrestr _ _)).trans hid⟩
  | false =>
    simp only [Bool.false_eq_true, if_false]
    exact ⟨congrArg RestrState.feed (hrestr _ _), hstatus _ _ (by decide), (congrArg RestrState.targets (hrestr _ _)).trans rfl⟩

end

/-! ## FRAGMENT, WANT and the discard of a partial block (R470 to R472) -/

section
variable (src : BitVec 14) (k : Fin 17) (b : BitVec 16) (id : BitVec 32) (i : Fin 8) (l : List Byte) (f : Nat) {s : State}
  (hon : s.isOn 44 = true)
include hon

theorem restrFragment_forwards (d : Nat) (hwant : s.fragWanted k id.toNat = false) (hnext : s.nextMember = some d)
    (hd : d ≠ src.toNat) :
    ∃ t, exec (.restrFragment src k b id i l f) s = .next t ∧ t.restr = s.restr ∧
      t.peg = (s.sendFragment d k b.toNat id.toNat i l).peg ∧ MemKept (s.sendFragment d k b.toNat id.toNat i l) t := by
  have heffect : s.fragment src.toNat k b.toNat id.toNat i l f = s.sendFragment d k b.toNat id.toNat i l := by
    simp [State.fragment, hon, hwant, hnext, hd]
  refine ⟨_, finish_ended s (s.fragment src.toNat k b.toNat id.toNat i l f), ?_⟩
  rw [heffect, State.ended_restr, State.ended_peg]
  exact ⟨(PegFrame.sendFragment s d k b.toNat id.toNat i l).restr, rfl, fun a => State.ended_rd8 s _ a⟩

theorem restrFragment_gathers (hstate : s.tgtState k = 1) (hid : (s.tgt k).imageId = id.toNat) (hok : (s.tgt k).ok = true)
    (hhas : s.hasBlock k b.toNat = false)
    (hnew : (s.tgt k).partials.any (fun p => p.block == b.toNat) = false) (hroom : (s.tgt k).partials.length < 4)
    (hl : l.length < s.blockLen k b.toNat) :
    ∃ t, exec (.restrFragment src k b id i l f) s = .next t ∧
      t.tgt k = { s.tgt k with partials := (s.tgt k).partials ++ [⟨b.toNat, [(i.val, l)]⟩] } ∧ t.peg = s.peg ∧
      RegsKept [] s t ∧ MemKept s t := by
  have hwant : (s.fragWanted k id.toNat && (decide (0xFFFE ≤ b.toNat) || ((s.tgt k).ok && (s.tgt k).imageId == id.toNat))) = true := by
    simp [State.fragWanted, hstate, hid, hok]
  have hadd : addFrag (s.tgt k).partials b.toNat i l = (s.tgt k).partials ++ [⟨b.toNat, [(i.val, l)]⟩] := by
    simp [addFrag, hnew, hroom]
  have hfind : ((s.tgt k).partials ++ [(⟨b.toNat, [(i.val, l)]⟩ : Partial)]).find? (fun p => p.block == b.toNat) =
      some ⟨b.toNat, [(i.val, l)]⟩ := by
    have hnone : (s.tgt k).partials.find? (fun p => p.block == b.toNat) = none := by
      rw [List.find?_eq_none]
      exact fun p hp => List.any_eq_false.mp hnew p hp
    simp [List.find?_append, hnone]
  have hlen : (s.setTgt k { s.tgt k with partials := (s.tgt k).partials ++ [⟨b.toNat, [(i.val, l)]⟩] }).blockLen k b.toNat =
      s.blockLen k b.toNat := State.blockLen_congr _ rfl rfl (by rw [State.setTgt_tgt])
  have heffect : s.fragment src.toNat k b.toNat id.toNat i l f =
      s.setTgt k { s.tgt k with partials := (s.tgt k).partials ++ [⟨b.toNat, [(i.val, l)]⟩] } := by
    rw [State.fragment, if_neg (not_not.mpr hon)]
    extract_lets want s1 s2 _ s3 s4
    have hwant' : want = true := hwant
    have hs1 : s1 = s := by
      unfold s1
      split
      · exact if_pos (Or.inr hwant')
      · rfl
    have hs3 : s3 = s.setTgt k { s.tgt k with partials := (s.tgt k).partials ++ [⟨b.toNat, [(i.val, l)]⟩] } := by
      have hs2 : s2 = s := by
        unfold s2
        rw [hs1, if_pos hstate]
      rw [← hadd, ← hs2]
    rw [hs1, if_neg (by simp [hwant', hhas]), hs3]
    simp only [State.setTgt_tgt, hfind, hlen]
    exact if_neg (by simp; omega)
  refine ⟨_, finish_ended s (s.fragment src.toNat k b.toNat id.toNat i l f), ?_⟩
  rw [heffect]
  refine ⟨?_, ?_, State.ended_regsKept fun g _ => rfl, State.ended_memKept rfl⟩
  · rw [State.tgt, State.ended_restr]
    exact State.setTgt_tgt _ _ _
  · rw [State.ended_peg]
    rfl

theorem restrWant_served (hk : k.val ≠ 0) (hstate : (s.tgt k).state = 2) (hid : (s.tgt k).imageId = id.toNat)
    (hhas : s.hasBlock k b.toNat = true) :
    ∃ t, exec (.restrWant src k id [b]) s = .next t ∧ t.restr = s.restr ∧
      t.peg = (s.sendBlock src.toNat k b.toNat id.toNat
        (s.mem.readN (s.blockAddr k b.toNat) (s.blockLen k b.toNat))).peg := by
  have hwanted : s.wanted k id.toNat b.toNat = some (s.mem.readN (s.blockAddr k b.toNat) (s.blockLen k b.toNat)) := by
    rw [State.wanted, if_neg hk, if_pos ⟨hstate, hid, hhas⟩]
  have heffect : s.want src.toNat k id.toNat [b.toNat] = s.sendBlock src.toNat k b.toNat id.toNat
      (s.mem.readN (s.blockAddr k b.toNat) (s.blockLen k b.toNat)) := by
    rw [State.want, if_pos hon, List.take_of_length_le (by simp), List.foldl_cons, hwanted, List.foldl_nil]
  refine ⟨_, finish_ended s (s.want src.toNat k id.toNat [b.toNat]), ?_⟩
  rw [heffect, State.ended_restr, State.ended_peg]
  exact ⟨(PegFrame.sendBlock s src.toNat k b.toNat id.toNat _).restr, rfl⟩

/-- A WANT frame of the module. -/
def State.wantFrame (s : State) (k d : Nat) : RingFrame :=
  ⟨0, 0, ringType, 1, 3, false, false, .ofNat 14 d, 0, 0, 0, 0, 2624,
    o1 0x71 ++ o1 k ++ octetsBE 2 0 ++ octetsBE 4 (s.tgt k).imageId ++ o1 (s.missing k).length ++ octetsBE 3 0 ++
      octetsBE 4 0 ++ (s.missing k).flatMap (octetsBE 2)⟩

theorem restrWantSend_sends (n d : Nat) (hprev : s.prevMember = some d) (hstate : s.tgtState k = 1) (hn : 2000 ≤ n)
    (hmissing : s.missing k ≠ []) :
    ∃ t f, exec (.restrWantSend k n) s = .next t ∧ t.restr = s.restr ∧
      t.peg = (s.pegPut 31 1046531 false (ringOctets f)).2.peg ∧ f.dst = .ofNat 14 d ∧
      f.payload.take 12 = o1 0x71 ++ o1 k ++ octetsBE 2 0 ++ octetsBE 4 (s.tgt k).imageId ++ o1 (s.missing k).length ++
        octetsBE 3 0 := by
  have heffect : s.wantSend k n = (s.pegPut 31 1046531 false (ringOctets (s.wantFrame k d))).2 := by
    rw [State.wantSend, hprev]
    exact if_pos ⟨hon, hstate, hn, hmissing⟩
  refine ⟨_, s.wantFrame k d, finish_ended s (s.wantSend k n), ?_⟩
  rw [heffect, State.ended_restr, State.ended_peg]
  refine ⟨(PegFrame.pegPut s (by decide) _ _ _).restr, rfl, rfl, ?_⟩
  rw [State.wantFrame, List.append_assoc]
  exact List.take_left' (by simp [o1, octetsBE])

end

theorem partialBlockDiscard_clauses (k : Fin 17) (b : BitVec 16) (n : Nat) (s : State) :
    (10 ≤ n → ∃ t, exec (.partialBlockDiscard k b n) s = .next t ∧
      t.tgt k = { s.tgt k with partials := (s.tgt k).partials.filter (fun p => p.block != b.toNat) } ∧
      RegsKept [] s t ∧ MemKept s t) ∧
    (n < 10 → ∃ t, exec (.partialBlockDiscard k b n) s = .next t ∧ t.restr = s.restr ∧ RegsKept [] s t ∧ MemKept s t) := by
  have hended := finish_ended s (s.partialDiscard k b.toNat n)
  constructor
  · intro hn
    rw [State.partialDiscard, if_pos hn] at hended
    refine ⟨_, (congrArg (finish s) (if_pos hn)).trans hended, ?_, State.ended_regsKept fun g _ => rfl, State.ended_memKept rfl⟩
    rw [State.tgt, State.ended_restr]
    exact State.setTgt_tgt _ _ _
  · intro hn
    have hn' : ¬ 10 ≤ n := by omega
    rw [State.partialDiscard, if_neg hn'] at hended
    exact ⟨_, (congrArg (finish s) (if_neg hn')).trans hended, State.ended_restr _ _, State.ended_regsKept fun g _ => rfl,
      State.ended_memKept rfl⟩

/-- Settles O57, clause by clause. -/
theorem feedCommands : Obligations.FeedCommands := by
  refine ⟨fun req k b s hon hk => ⟨fun h => ?_, fun h => ?_⟩, fun req d f fd s hon hfeed =>
    ⟨restrFeedData_gathers req d f fd hon hfeed, restrFeedData_flashFails req d f fd hon hfeed,
      restrFeedData_manifest req d f fd hon hfeed⟩,
    fun src k b id i l f s hon => ⟨restrFragment_forwards src k b id i l f hon, fun hstate hid hok _ =>
      restrFragment_gathers src k b id i l f hon hstate hid hok⟩,
    fun src k b id s hon => restrWant_served src k b id hon,
    fun k n d s hon => restrWantSend_sends k hon n d, partialBlockDiscard_clauses⟩
  · refine ⟨_, exec_restrFeedCtrl req hon k b hk, ?_⟩
    rw [s.feedCtrl_allowed k b.toNat h]
    exact s.feedStat_written req 0x40150028 stOK 0 _ (by decide) (by decide)
  · refine ⟨_, exec_restrFeedCtrl req hon k b hk, ?_⟩
    rw [s.feedCtrl_refused k b.toNat h]
    exact s.feedStat_written req 0x40150028 stBAD 0 _ (by decide) (by decide)

end Sys2Proof.Machine
end

section
/-!
PROOFS. The bulk mover (R411 to R423).
-/
namespace Sys2Proof.Machine

/-! ## What the mover's own steps keep -/

theorem moverReg {f : Fld} (h : 0x40050000 ≤ f.addr ∧ f.addr < 0x40060000) (hlo : f.lo < 32) :
    inBlock bMOVER f.key = true := by
  obtain ⟨hlow, hhigh⟩ := h
  refine decide_eq_true ?_
  simp only [Fld.key, blockBase, bMOVER, blockNo]
  omega

/-- Nothing but the mover's registers and channels changes from `s` to `t`. -/
structure MoverFrame (s t : State) : Prop where
  rd : ∀ g : Fld, inBlock bMOVER g.key = false → t.rd g = s.rd g
  mem : t.mem = s.mem

namespace MoverFrame

theorem refl (s : State) : MoverFrame s s := ⟨fun _ _ => rfl, rfl⟩

theorem trans {s t u : State} (h : MoverFrame s t) (k : MoverFrame t u) : MoverFrame s u :=
  ⟨fun g hg => (k.rd g hg).trans (h.rd g hg), k.mem.trans h.mem⟩

/-- What a command leaves that changes the mover alone. -/
theorem kept {s u : State} (h : MoverFrame s u) : BlocksKept [bMOVER] s (s.ended u) ∧ MemKept s (s.ended u) :=
  ⟨State.ended_blocksKept fun g hg => h.rd g (hg bMOVER (List.mem_singleton_self _)), State.ended_memKept h.mem⟩

variable (s : State)

theorem wr {f : Fld} (h : inBlock bMOVER f.key = true) (v : Nat) : MoverFrame s (s.wr f v) :=
  ⟨fun _ hg => s.rd_wr_other v (key_ne_of_inBlock hg h), rfl⟩

theorem answer (req a st v : Nat) : MoverFrame s (s.answer req a st v) := ⟨fun _ _ => rfl, rfl⟩

theorem setChan {c : Nat} (hc : c < 32) (x : MoverChan) : MoverFrame s (s.setChan c x) :=
  ⟨fun _ hg => State.rd_wr_other _ _ (key_ne_of_inBlock hg (moverReg (by simp only [F.MOVER_CH_STAT_STATE]; omega) (by simp [F.MOVER_CH_STAT_STATE]))), rfl⟩

theorem setPhase {c : Nat} (hc : c < 32) (p : MoverPhase) : MoverFrame s (s.setPhase c p) := setChan s hc _

end MoverFrame

/-! ## Channels -/

section
variable (s : State) (c : Nat)

@[simp] theorem State.setChan_chan (x : MoverChan) : (s.setChan c x).chan c = x := by
  simp [State.setChan, State.chan]

theorem State.setChan_chan_other {b : Nat} (x : MoverChan) (h : b ≠ c) : (s.setChan c x).chan b = s.chan b :=
  AMap.get_set_other _ _ _ h

@[simp] theorem State.setPhase_chan (p : MoverPhase) : (s.setPhase c p).chan c = { s.chan c with phase := p } :=
  s.setChan_chan c _

/-- STATE of a channel is the code of its phase. -/
theorem State.setChan_state (x : MoverChan) : (s.setChan c x).rd (F.MOVER_CH_STAT_STATE c) = x.phase.code :=
  State.rd_wr_fits _ _ (by cases x.phase <;> simp [MoverPhase.code, F.MOVER_CH_STAT_STATE])

theorem State.setChan_rd (x : MoverChan) {g : Fld} (h : g.key ≠ (F.MOVER_CH_STAT_STATE c).key) :
    (s.setChan c x).rd g = s.rd g := State.rd_wr_other _ _ h

@[simp] theorem State.wr_chan (f : Fld) (v : Nat) : (s.wr f v).chan c = s.chan c := rfl

/-- A halt on a bad fetch. -/
theorem State.moverHalt_fetch : s.moverHalt c stFETCH =
    ((s.wr F.MOVER_ERR_FETCH 1).wr (F.MOVER_CH_STAT_HALT_STATUS c) stFETCH).setPhase c .halted := by
  rw [State.moverHalt, if_neg (by decide)]

theorem State.moverHalt_chan : (s.moverHalt c stFETCH).chan c = { s.chan c with phase := .halted } := by
  rw [State.moverHalt_fetch, State.setPhase_chan]
  rfl

theorem State.moverHalt_status : (s.moverHalt c stFETCH).rd (F.MOVER_CH_STAT_HALT_STATUS c) = stFETCH := by
  rw [State.moverHalt_fetch, State.setPhase, State.setChan_rd _ _ _ (by simp only [Fld.key, F.MOVER_CH_STAT_HALT_STATUS, F.MOVER_CH_STAT_STATE]; omega)]
  exact State.rd_wr_fits _ _ (by simp [F.MOVER_CH_STAT_HALT_STATUS, stFETCH])

theorem State.moverHalt_err : (s.moverHalt c stFETCH).rd F.MOVER_ERR_FETCH = 1 := by
  rw [State.moverHalt_fetch, State.setPhase, State.setChan_rd _ _ _ (by simp only [Fld.key, F.MOVER_ERR_FETCH, F.MOVER_CH_STAT_STATE]; omega),
    State.rd_wr_other _ _ (by simp only [Fld.key, F.MOVER_ERR_FETCH, F.MOVER_CH_STAT_HALT_STATUS]; omega)]
  exact State.rd_wr_fits _ _ (by decide)

theorem State.moverHalt_state : (s.moverHalt c stFETCH).rd (F.MOVER_CH_STAT_STATE c) = 3 := by
  rw [State.moverHalt_fetch, State.setPhase, State.setChan_state]
  rfl

theorem State.moverHalt_fetched : (s.moverHalt c stFETCH).rd (F.MOVER_CH_COUNT_FETCHED c) = s.rd (F.MOVER_CH_COUNT_FETCHED c) := by
  rw [State.moverHalt_fetch, State.setPhase, State.setChan_rd _ _ _ (by simp only [Fld.key, F.MOVER_CH_COUNT_FETCHED, F.MOVER_CH_STAT_STATE]; omega),
    State.rd_wr_other _ _ (by simp only [Fld.key, F.MOVER_CH_COUNT_FETCHED, F.MOVER_CH_STAT_HALT_STATUS]; omega),
    State.rd_wr_other _ _ (by simp only [Fld.key, F.MOVER_CH_COUNT_FETCHED, F.MOVER_ERR_FETCH]; omega)]

variable {c} (hc : c < 32)
include hc

theorem MoverFrame.moverHalt : MoverFrame s (s.moverHalt c stFETCH) := by
  rw [State.moverHalt_fetch]
  exact (MoverFrame.wr _ (by decide) _).trans ((MoverFrame.wr _ (moverReg (by simp only [F.MOVER_CH_STAT_HALT_STATUS]; omega)
    (by simp [F.MOVER_CH_STAT_HALT_STATUS])) _).trans (MoverFrame.setPhase _ hc _))

end

/-! ## Channels once a command has ended -/

section
variable (c : Nat)

theorem chanNotRun_fetched : notRun (F.MOVER_CH_COUNT_FETCHED c).key :=
  Fld.notRun (by simp only [F.MOVER_CH_COUNT_FETCHED]; omega)

theorem chanNotRun_state : notRun (F.MOVER_CH_STAT_STATE c).key :=
  Fld.notRun (by simp only [F.MOVER_CH_STAT_STATE]; omega)

theorem chanNotRun_status : notRun (F.MOVER_CH_STAT_HALT_STATUS c).key :=
  Fld.notRun (by simp only [F.MOVER_CH_STAT_HALT_STATUS]; omega)

theorem State.ended_cur (s u : State) : (s.ended u).moverCur c = u.moverCur c := by
  rw [State.moverCur, State.rd64, State.ended_rd _ _ (Fld.notRun (by simp only [F.MOVER_CH_CUR_LO_ADDR]; omega)),
    State.ended_rd _ _ (Fld.notRun (by simp only [F.MOVER_CH_CUR_HI_ADDR]; omega))]
  rfl

end

theorem State.ended_chan (s u : State) (c : Nat) : (s.ended u).chan c = u.chan c := by
  rw [State.chan, State.ended_mover]
  rfl

section
variable (s u : State) (req a : Nat)

theorem ended_answer_chan (c : Nat) : (s.ended (u.answer req a stOK 0)).chan c = u.chan c := State.ended_chan _ _ c

theorem ended_answer_rd {g : Fld} (hg : notRun g.key) : (s.ended (u.answer req a stOK 0)).rd g = u.rd g :=
  State.ended_rd _ _ hg

theorem ended_answer_cur (c : Nat) : (s.ended (u.answer req a stOK 0)).moverCur c = u.moverCur c :=
  State.ended_cur _ _ _

variable {s u} in
/-- What `u`, reached from `s` by steps of the mover, leaves once its command is answered. -/
theorem MoverFrame.answered (h : MoverFrame s u) :
    BlocksKept [bMOVER] s (s.ended (u.answer req a stOK 0)) ∧ MemKept s (s.ended (u.answer req a stOK 0)) :=
  (h.trans (MoverFrame.answer u req a stOK 0)).kept

end

/-! ## START and CONTINUE (R412, R413) -/

section
variable (req : Fin 36) (c : Fin 32) {s : State} (hon : s.isOn 40 = true)
include hon

theorem State.addrUp_mover {a : Nat} (h : 0x40050000 ≤ a ∧ a < 0x4005FF00) : s.addrUp a = true :=
  (s.addrUp_block bMOVER a (by decide) (by simp only [blockBase, bMOVER, blockNo]; omega)
    (by simp only [blockBase, bMOVER, blockNo]; omega)).trans hon

/-- A word at MOVER_CH_CTRL whose OP is `op`. -/
theorem State.rowWrite_chanCtrl (op : Nat) (hop : op ∈ [1, 2, 3]) :
    s.rowWrite req (0x40050108 + 32 * c.val) (op * 2 ^ 28) WriteMore.none =
      (s.regAct req bMOVER 0x108 c (op * 2 ^ 28) WriteMore.none).2.answer req (0x40050108 + 32 * c.val)
        (s.regAct req bMOVER 0x108 c (op * 2 ^ 28) WriteMore.none).1 0 := by
  have hblock : ∀ d : Fin 32, regBlock (0x40050108 + 32 * d.val) = some (bMOVER, 0x108 + 32 * d.val) := by decide
  have hreg : ∀ d : Fin 32, lookupReg (0x40050108 + 32 * d.val) = some (regsMover[5], [d.val]) := by decide
  have hchk : ∀ o ∈ [1, 2, 3], (regsMover[5].written.all fun f =>
      chkField f.chk f.width (bits (o * 2 ^ 28) f.lo f.width) == (true, true)) = true := by decide
  have hlim : ∀ d : Nat, State.limits s (s.ahead bMOVER) bMOVER 0x108 d = true := fun d => rfl
  exact s.rowWrite_act (req := req) (a := 0x40050108 + 32 * c.val) (State.addrUp_mover hon (by omega)) (by omega)
    (b := bMOVER) (r := regsMover[5]) (ix := [c.val]) (hblock c) (hreg c) (by decide) (by decide) (hchk op hop) (hlim c) rfl
    (by decide) (by simp [bMOVER, bPEG, bLAMP, bKEY, bREC, blockNo, regsMover])

theorem exec_moverStart : exec (.moverStart req c) s =
    .next (s.ended ((s.moverStart c).answer req (0x40050108 + 32 * c.val) stOK 0)) :=
  congrArg (finish s) (State.rowWrite_chanCtrl req c hon 1 (by decide))

theorem exec_moverAbort : exec (.moverAbort req c) s =
    .next (s.ended ((s.moverAbort c).answer req (0x40050108 + 32 * c.val) stOK 0)) :=
  congrArg (finish s) (State.rowWrite_chanCtrl req c hon 2 (by decide))

theorem exec_moverContinue : exec (.moverContinue req c) s =
    .next (s.ended ((s.moverContinue c).answer req (0x40050108 + 32 * c.val) stOK 0)) :=
  congrArg (finish s) (State.rowWrite_chanCtrl req c hon 3 (by decide))

end

section
variable (s : State) (c : Nat)

/-- A fetch with no shadowed write of the mover, below the channel's limit. -/
theorem State.moverFetch_cases (hdue : s.pendingIn bMOVER = false)
    (hlimit : s.rd (F.MOVER_CH_COUNT_FETCHED c) < s.rd (F.MOVER_CH_LIMIT_LIMIT c)) :
    s.moverFetch c = if s.moverCur c % 64 ≠ 0 then s.moverHalt c stFETCH else s.setPhase c .fetch := by
  have hnone : s.commitSel bMOVER (moverFields c) = s := by
    rw [State.commitSel, if_pos (Or.inr ?_)]
    rw [List.filter_eq_nil_iff]
    intro e he
    have := List.any_eq_false.mp hdue e he
    simp_all
  rw [State.moverFetch]
  simp only [hnone]
  rw [if_neg (by omega)]

/-- CUR and FETCHED of a channel that starts at `h`. -/
def State.startedAt (s : State) (c h : Nat) : State :=
  (s.wr64 (F.MOVER_CH_CUR_LO_ADDR c) (F.MOVER_CH_CUR_HI_ADDR c) h).wr (F.MOVER_CH_COUNT_FETCHED c) 0

theorem State.startedAt_cur (h : Nat) : (s.startedAt c h).moverCur c = h % 2 ^ 64 := by
  have hhi : (s.startedAt c h).rd (F.MOVER_CH_CUR_HI_ADDR c) = h / 2 ^ 32 % 2 ^ 32 :=
    (State.rd_wr_other _ _ (by simp only [Fld.key, F.MOVER_CH_CUR_HI_ADDR, F.MOVER_CH_COUNT_FETCHED]; omega)).trans
      (State.rd_wr_same _ _ _)
  have hlo : (s.startedAt c h).rd (F.MOVER_CH_CUR_LO_ADDR c) = h % 2 ^ 32 :=
    (State.rd_wr_other _ _ (by simp only [Fld.key, F.MOVER_CH_CUR_LO_ADDR, F.MOVER_CH_COUNT_FETCHED]; omega)).trans
      ((State.rd_wr_other _ _ (by simp only [Fld.key, F.MOVER_CH_CUR_LO_ADDR, F.MOVER_CH_CUR_HI_ADDR]; omega)).trans
        (State.rd_wr_same _ _ _))
  rw [State.moverCur, State.rd64, hhi, hlo]
  omega

theorem State.setPhase_cur (p : MoverPhase) : (s.setPhase c p).moverCur c = s.moverCur c := by
  rw [State.moverCur, State.rd64, State.setPhase,
    State.setChan_rd _ _ _ (by simp only [Fld.key, F.MOVER_CH_CUR_LO_ADDR, F.MOVER_CH_STAT_STATE]; omega),
    State.setChan_rd _ _ _ (by simp only [Fld.key, F.MOVER_CH_CUR_HI_ADDR, F.MOVER_CH_STAT_STATE]; omega)]
  rfl

theorem State.setPhase_fetched (p : MoverPhase) :
    (s.setPhase c p).rd (F.MOVER_CH_COUNT_FETCHED c) = s.rd (F.MOVER_CH_COUNT_FETCHED c) :=
  State.setChan_rd _ _ _ (by simp only [Fld.key, F.MOVER_CH_COUNT_FETCHED, F.MOVER_CH_STAT_STATE]; omega)

variable {c} (hc : c < 32)
include hc

theorem MoverFrame.wrFetched (v : Nat) : MoverFrame s (s.wr (F.MOVER_CH_COUNT_FETCHED c) v) :=
  MoverFrame.wr _ (moverReg (by simp only [F.MOVER_CH_COUNT_FETCHED]; omega) (by simp [F.MOVER_CH_COUNT_FETCHED])) _

theorem MoverFrame.startedAt (h : Nat) : MoverFrame s (s.startedAt c h) :=
  (MoverFrame.wr _ (moverReg (by simp only [F.MOVER_CH_CUR_LO_ADDR]; omega) (by simp [F.MOVER_CH_CUR_LO_ADDR])) _).trans
    ((MoverFrame.wr _ (moverReg (by simp only [F.MOVER_CH_CUR_HI_ADDR]; omega) (by simp [F.MOVER_CH_CUR_HI_ADDR])) _).trans
      (MoverFrame.wrFetched _ hc _))

end

section
variable (req : Fin 36) (c : Fin 32) {s : State} (hon : s.isOn 40 = true) (hen : s.isSet F.MOVER_CTRL_EN = true)
  (hdue : s.pendingIn bMOVER = false) (hlimit : s.rd (F.MOVER_CH_LIMIT_LIMIT c) ≠ 0)
include hon hen hdue hlimit

theorem State.moverStart_eq (hphase : (s.chan c).phase = .idle ∨ (s.chan c).phase = .halted) {h : Nat}
    (hhead : s.rd64 (F.MOVER_CH_HEAD_LO_ADDR c) (F.MOVER_CH_HEAD_HI_ADDR c) = h) :
    s.moverStart c =
      if h % 64 ≠ 0 then (s.startedAt c h).moverHalt c stFETCH else (s.startedAt c h).setPhase c .fetch := by
  have hfetched : (s.startedAt c h).rd (F.MOVER_CH_COUNT_FETCHED c) = 0 := State.rd_wr_fits _ _ (by simp [F.MOVER_CH_COUNT_FETCHED])
  have hkept : (s.startedAt c h).rd (F.MOVER_CH_LIMIT_LIMIT c) = s.rd (F.MOVER_CH_LIMIT_LIMIT c) :=
    (State.rd_wr_other _ _ (by simp only [Fld.key, F.MOVER_CH_LIMIT_LIMIT, F.MOVER_CH_COUNT_FETCHED]; omega)).trans
      ((State.rd_wr_other _ _ (by simp only [Fld.key, F.MOVER_CH_LIMIT_LIMIT, F.MOVER_CH_CUR_HI_ADDR]; omega)).trans
        (State.rd_wr_other _ _ (by simp only [Fld.key, F.MOVER_CH_LIMIT_LIMIT, F.MOVER_CH_CUR_LO_ADDR]; omega)))
  have hmod : h % 2 ^ 64 % 64 = h % 64 := by omega
  have hruns : s.moverRuns = true := by rw [State.moverRuns, hon, hen]; rfl
  rw [State.moverStart, if_pos ⟨hruns, hphase⟩, hhead]
  change (s.startedAt c h).moverFetch c = _
  rw [State.moverFetch_cases (s.startedAt c h) c hdue (by rw [hfetched, hkept]; omega), State.startedAt_cur, hmod]

theorem moverStart_fetches {h : Nat} (hphase : (s.chan c).phase = .idle ∨ (s.chan c).phase = .halted)
    (hhead : s.rd64 (F.MOVER_CH_HEAD_LO_ADDR c) (F.MOVER_CH_HEAD_HI_ADDR c) = h) (hal : h % 64 = 0) :
    ∃ t, exec (.moverStart req c) s = .next t ∧ (t.chan c).phase = .fetch ∧
      t.moverCur c = h % 2 ^ 64 ∧ t.rd (F.MOVER_CH_COUNT_FETCHED c) = 0 ∧ t.rd (F.MOVER_CH_STAT_STATE c) = 1 ∧
      BlocksKept [bMOVER] s t ∧ MemKept s t := by
  refine ⟨_, exec_moverStart req c hon, ?_⟩
  rw [State.moverStart_eq c hon hen hdue hlimit hphase hhead, if_neg (not_not.mpr hal), ended_answer_chan,
    ended_answer_cur, ended_answer_rd _ _ _ _ (chanNotRun_fetched c), ended_answer_rd _ _ _ _ (chanNotRun_state c), State.setPhase_cur,
    State.setPhase_fetched, State.startedAt_cur, State.setPhase_chan, State.setPhase, State.setChan_state]
  exact ⟨rfl, rfl, State.rd_wr_fits _ _ (by simp [F.MOVER_CH_COUNT_FETCHED]), rfl,
    MoverFrame.answered _ _ ((MoverFrame.startedAt s c.isLt h).trans (MoverFrame.setPhase _ c.isLt _))⟩

theorem moverStart_halts {h : Nat} (hphase : (s.chan c).phase = .idle ∨ (s.chan c).phase = .halted)
    (hhead : s.rd64 (F.MOVER_CH_HEAD_LO_ADDR c) (F.MOVER_CH_HEAD_HI_ADDR c) = h) (hal : h % 64 ≠ 0) :
    ∃ t, exec (.moverStart req c) s = .next t ∧ (t.chan c).phase = .halted ∧
      t.rd (F.MOVER_CH_STAT_HALT_STATUS c) = stFETCH ∧ t.rd F.MOVER_ERR_FETCH = 1 ∧
      t.rd (F.MOVER_CH_STAT_STATE c) = 3 ∧ BlocksKept [bMOVER] s t ∧ MemKept s t := by
  refine ⟨_, exec_moverStart req c hon, ?_⟩
  rw [State.moverStart_eq c hon hen hdue hlimit hphase hhead, if_pos hal, ended_answer_chan,
    ended_answer_rd _ _ _ _ (chanNotRun_status c), ended_answer_rd _ _ _ _ (Fld.notRun (by decide)),
    ended_answer_rd _ _ _ _ (chanNotRun_state c), State.moverHalt_chan]
  exact ⟨rfl, State.moverHalt_status _ _, State.moverHalt_err _ _, State.moverHalt_state _ _,
    MoverFrame.answered _ _ ((MoverFrame.startedAt s c.isLt h).trans (MoverFrame.moverHalt _ c.isLt))⟩

theorem moverContinue_fetches (hphase : (s.chan c).phase = .halted) (hal : s.moverCur c % 64 = 0) :
    ∃ t, exec (.moverContinue req c) s = .next t ∧ (t.chan c).phase = .fetch ∧ t.moverCur c = s.moverCur c ∧
      t.rd (F.MOVER_CH_COUNT_FETCHED c) = 0 ∧ t.rd (F.MOVER_CH_STAT_STATE c) = 1 ∧
      BlocksKept [bMOVER] s t ∧ MemKept s t := by
  have hfetched : (s.wr (F.MOVER_CH_COUNT_FETCHED c) 0).rd (F.MOVER_CH_COUNT_FETCHED c) = 0 :=
    State.rd_wr_fits _ _ (by simp [F.MOVER_CH_COUNT_FETCHED])
  have hkept : (s.wr (F.MOVER_CH_COUNT_FETCHED c) 0).rd (F.MOVER_CH_LIMIT_LIMIT c) = s.rd (F.MOVER_CH_LIMIT_LIMIT c) :=
    State.rd_wr_other _ _ (by simp only [Fld.key, F.MOVER_CH_LIMIT_LIMIT, F.MOVER_CH_COUNT_FETCHED]; omega)
  have hcur : (s.wr (F.MOVER_CH_COUNT_FETCHED c) 0).moverCur c = s.moverCur c := by
    rw [State.moverCur, State.rd64,
      State.rd_wr_other _ _ (by simp only [Fld.key, F.MOVER_CH_CUR_LO_ADDR, F.MOVER_CH_COUNT_FETCHED]; omega),
      State.rd_wr_other _ _ (by simp only [Fld.key, F.MOVER_CH_CUR_HI_ADDR, F.MOVER_CH_COUNT_FETCHED]; omega)]
    rfl
  have hruns : s.moverRuns = true := by rw [State.moverRuns, hon, hen]; rfl
  have heffect : s.moverContinue c = (s.wr (F.MOVER_CH_COUNT_FETCHED c) 0).setPhase c .fetch := by
    rw [State.moverContinue, if_pos ⟨hruns, hphase⟩,
      State.moverFetch_cases (s.wr (F.MOVER_CH_COUNT_FETCHED c) 0) c hdue (by rw [hfetched, hkept]; omega), hcur,
      if_neg (not_not.mpr hal)]
  refine ⟨_, exec_moverContinue req c hon, ?_⟩
  rw [heffect, ended_answer_chan, ended_answer_cur, ended_answer_rd _ _ _ _ (chanNotRun_fetched c),
    ended_answer_rd _ _ _ _ (chanNotRun_state c), State.setPhase_cur, State.setPhase_fetched, hcur, State.setPhase_chan,
    State.setPhase, State.setChan_state]
  exact ⟨rfl, rfl, hfetched, rfl,
    MoverFrame.answered _ _ ((MoverFrame.wrFetched s c.isLt 0).trans (MoverFrame.setPhase _ c.isLt _))⟩

end

/-! ## The write-back of a descriptor (R412, R418) -/

/-- `u` is `s` with the descriptor of channel `c` written back. -/
structure WroteBack (s u : State) (c st r : Nat) : Prop where
  rd : ∀ g : Fld, inBlock bMOVER g.key = false → u.rd g = s.rd g
  mem : u.mem = (s.wrMem (s.moverCur c + 40) 8 (writtenBack s c st r)).mem
  mover : u.mover = s.mover
  seq : u.rd (F.MOVER_CH_STAT_SEQ c) = (s.rd (F.MOVER_CH_STAT_SEQ c) + 1) % 65536
  bad : st ≠ stOK → u.rd (F.MOVER_CH_STAT_BAD_SEEN c) = 1

/-- STAT of a channel after the write: SEQ is `n`, EVT shown where the descriptor asks for it. -/
def State.seqShown (s : State) (c n : Nat) (evt : Bool) : State :=
  if evt then (s.wr (F.MOVER_CH_STAT_SEQ c) n).wr (F.MOVER_CH_STAT_EVT c) 1 else s.wr (F.MOVER_CH_STAT_SEQ c) n

/-- A bad end shown. -/
def State.badShown (s : State) (c st : Nat) : State :=
  if st = stOK then s else (s.wr (F.MOVER_CH_STAT_BAD_SEEN c) 1).incSat (F.MOVER_CH_COUNT_BAD c)

section
variable (s : State) (c st r : Nat)

theorem State.seqShown_seq (n : Nat) (evt : Bool) (hn : n < 65536) :
    (s.seqShown c n evt).rd (F.MOVER_CH_STAT_SEQ c) = n := by
  have hseq : (s.wr (F.MOVER_CH_STAT_SEQ c) n).rd (F.MOVER_CH_STAT_SEQ c) = n := State.rd_wr_fits _ _ hn
  unfold State.seqShown
  split
  · exact (State.rd_wr_other _ _ (by simp only [Fld.key, F.MOVER_CH_STAT_SEQ, F.MOVER_CH_STAT_EVT]; omega)).trans hseq
  · exact hseq

theorem State.seqShown_mover (n : Nat) (evt : Bool) : (s.seqShown c n evt).mover = s.mover := by
  unfold State.seqShown
  split <;> rfl

theorem State.badShown_mover : (s.badShown c st).mover = s.mover := by
  unfold State.badShown
  split <;> rfl

theorem State.badShown_seq : (s.badShown c st).rd (F.MOVER_CH_STAT_SEQ c) = s.rd (F.MOVER_CH_STAT_SEQ c) := by
  unfold State.badShown
  split
  · rfl
  · exact (State.rd_wr_other _ _ (by simp only [Fld.key, F.MOVER_CH_STAT_SEQ, F.MOVER_CH_COUNT_BAD]; omega)).trans
      (State.rd_wr_other _ _ (by simp only [Fld.key, F.MOVER_CH_STAT_SEQ, F.MOVER_CH_STAT_BAD_SEEN]; omega))

theorem State.badShown_bad (h : st ≠ stOK) : (s.badShown c st).rd (F.MOVER_CH_STAT_BAD_SEEN c) = 1 := by
  rw [State.badShown, if_neg h]
  exact (State.rd_wr_other _ _ (by simp only [Fld.key, F.MOVER_CH_STAT_BAD_SEEN, F.MOVER_CH_COUNT_BAD]; omega)).trans
    (State.rd_wr_fits _ _ (by simp [F.MOVER_CH_STAT_BAD_SEEN]))

variable {c} (hc : c < 32)
include hc

theorem MoverFrame.seqShown (n : Nat) (evt : Bool) : MoverFrame s (s.seqShown c n evt) := by
  have hseq := MoverFrame.wr s (f := F.MOVER_CH_STAT_SEQ c)
    (moverReg (by simp only [F.MOVER_CH_STAT_SEQ]; omega) (by simp [F.MOVER_CH_STAT_SEQ])) n
  unfold State.seqShown
  split
  · exact hseq.trans (MoverFrame.wr _ (moverReg (by simp only [F.MOVER_CH_STAT_EVT]; omega) (by simp [F.MOVER_CH_STAT_EVT])) _)
  · exact hseq

theorem MoverFrame.badShown : MoverFrame s (s.badShown c st) := by
  unfold State.badShown
  split
  · exact MoverFrame.refl s
  · exact (MoverFrame.wr _ (moverReg (by simp only [F.MOVER_CH_STAT_BAD_SEEN]; omega) (by simp [F.MOVER_CH_STAT_BAD_SEEN])) _).trans
      (MoverFrame.wr _ (moverReg (by simp only [F.MOVER_CH_COUNT_BAD]; omega) (by simp [F.MOVER_CH_COUNT_BAD])) _)

theorem State.moverWriteBack_spec (h : CanWriteBack s c) :
    ∃ u, s.moverWriteBack c st r = (true, u) ∧ WroteBack s u c st r := by
  obtain ⟨hup, hreg, hwin⟩ := h
  have hresult : s.moverWriteBack c st r = (true, ((s.wrMem (s.moverCur c + 40) 8 (writtenBack s c st r)).seqShown c
      ((s.rd (F.MOVER_CH_STAT_SEQ c) + 1) % 65536) (MvDesc.evt (s.chan c).desc)).badShown c st) := by
    rw [State.moverWriteBack, if_neg (by simp [hup, hreg, hwin])]
    rfl
  generalize hw : s.wrMem (s.moverCur c + 40) 8 (writtenBack s c st r) = w at hresult
  have hn : (s.rd (F.MOVER_CH_STAT_SEQ c) + 1) % 65536 < 65536 := Nat.mod_lt _ (by decide)
  have hregs : ∀ g, w.rd g = s.rd g := fun g => by rw [← hw, State.wrMem_rd]
  have hmover : w.mover = s.mover := by rw [← hw, State.wrMem_mover]
  generalize hseq : (s.rd (F.MOVER_CH_STAT_SEQ c) + 1) % 65536 = n at hresult hn
  have hframe := (MoverFrame.seqShown w hc n (MvDesc.evt (s.chan c).desc)).trans (MoverFrame.badShown _ st hc)
  refine ⟨_, hresult, fun g hg => (hframe.rd g hg).trans (hregs g), hframe.mem.trans (by rw [hw]), ?_, ?_, fun hst =>
    State.badShown_bad _ c st hst⟩
  · rw [State.badShown_mover, State.seqShown_mover, hmover]
  · rw [State.badShown_seq, State.seqShown_seq _ _ _ _ hn, hseq]

end

section
variable {s u v : State} {c st r : Nat} (h : WroteBack s u c st r)
include h

theorem WroteBack.chan (b : Nat) : u.chan b = s.chan b := by
  rw [State.chan, h.mover]
  rfl

/-- The octets written, once steps of the mover have followed and the command has ended. -/
theorem WroteBack.octets (hv : MoverFrame u v) :
    (s.ended v).rdMem (s.moverCur c + 40) 8 = writtenBack s c st r % 2 ^ 64 ∧
      (∀ a, a < s.moverCur c + 40 ∨ s.moverCur c + 48 ≤ a → (s.ended v).rd8 a = s.rd8 a) ∧
      BlocksKept [bMOVER] s (s.ended v) := by
  have hmem := hv.mem.trans h.mem
  refine ⟨?_, fun a ha => ?_, State.ended_blocksKept fun g hg => ?_⟩
  · rw [State.ended_rdMem]
    exact (congrArg (fun m => m.readLE (s.moverCur c + 40) 8) hmem).trans (s.rdMem_wrMem_same _ 8 _)
  · rw [State.ended_rd8]
    exact (congrArg (fun m => (m.read a).toNat) hmem).trans (s.rd8_wrMem_other _ ha)
  · exact (hv.rd g (hg bMOVER (List.mem_singleton_self _))).trans (h.rd g (hg bMOVER (List.mem_singleton_self _)))

end

/-! ## ABORT (R422) -/

/-- A channel let go. -/
def State.letGo (s : State) (c : Nat) : State := (s.wr (F.MOVER_CH_LIMIT_PENDING c) 0).setPhase c .idle

section
variable (s : State) (c : Nat)

theorem State.letGo_chan : (s.letGo c).chan c = { s.chan c with phase := .idle } := State.setPhase_chan _ _ _

theorem State.letGo_pending : (s.letGo c).rd (F.MOVER_CH_LIMIT_PENDING c) = 0 :=
  (State.setChan_rd _ _ _ (by simp only [Fld.key, F.MOVER_CH_LIMIT_PENDING, F.MOVER_CH_STAT_STATE]; omega)).trans
    (State.rd_wr_fits _ _ (by simp [F.MOVER_CH_LIMIT_PENDING]))

theorem State.letGo_bad : (s.letGo c).rd (F.MOVER_CH_STAT_BAD_SEEN c) = s.rd (F.MOVER_CH_STAT_BAD_SEEN c) :=
  (State.setChan_rd _ _ _ (by simp only [Fld.key, F.MOVER_CH_STAT_BAD_SEEN, F.MOVER_CH_STAT_STATE]; omega)).trans
    (State.rd_wr_other _ _ (by simp only [Fld.key, F.MOVER_CH_STAT_BAD_SEEN, F.MOVER_CH_LIMIT_PENDING]; omega))

theorem MoverFrame.letGo {c : Nat} (hc : c < 32) : MoverFrame s (s.letGo c) :=
  (MoverFrame.wr _ (moverReg (by simp only [F.MOVER_CH_LIMIT_PENDING]; omega) (by simp [F.MOVER_CH_LIMIT_PENDING])) _).trans
    (MoverFrame.setPhase _ hc _)

end

/-- How an ABORT goes on after the write-back. -/
def State.abortEnded (c : Nat) : Bool × State → State
  | (false, s) => (s.wr (F.MOVER_CH_LIMIT_PENDING c) 0).moverHalt c stFETCH
  | (true, s) => s.letGo c

/-- What ABORT does by the channel's phase. -/
def State.abortIn (s : State) (done : State → State) (back : State → Nat → Nat → State) : MoverPhase → State
  | .idle => s
  | .fetch => done s
  | .run => back s stBAD 0x9
  | .wait => back s stBAD 0x9
  | .wb st r => back s st r
  | .halted => done s

theorem State.moverAbort_eq (s : State) (c : Nat) (hon : s.isOn 40 = true) :
    s.moverAbort c = s.abortIn (fun u => u.letGo c) (fun u st r => State.abortEnded c (u.moverWriteBack c st r))
      (s.chan c).phase := by
  unfold State.moverAbort
  extract_lets done back
  have hback : back = fun u st r => State.abortEnded c (u.moverWriteBack c st r) := by
    funext u st r
    unfold back
    generalize u.moverWriteBack c st r = e
    rcases e with ⟨_ | _, w⟩ <;> rfl
  rw [← hback]
  clear_value back
  exact if_neg (by simp [hon])

section
variable (req : Fin 36) (c : Fin 32) {s : State} (hon : s.isOn 40 = true)
include hon

theorem moverAbort_letsGo (hphase : (s.chan c).phase = .fetch ∨ (s.chan c).phase = .halted) :
    ∃ t, exec (.moverAbort req c) s = .next t ∧ (t.chan c).phase = .idle ∧ t.rd (F.MOVER_CH_STAT_STATE c) = 0 ∧
      t.rd (F.MOVER_CH_LIMIT_PENDING c) = 0 ∧ BlocksKept [bMOVER] s t ∧ MemKept s t := by
  have heffect : s.moverAbort c = s.letGo c := by
    rw [State.moverAbort_eq s c hon]
    rcases hphase with h | h <;> rw [h] <;> rfl
  refine ⟨_, exec_moverAbort req c hon, ?_⟩
  rw [heffect, ended_answer_chan, ended_answer_rd _ _ _ _ (chanNotRun_state c),
    ended_answer_rd _ _ _ _ (Fld.notRun (by simp only [F.MOVER_CH_LIMIT_PENDING]; omega)), State.letGo_chan, State.letGo_pending]
  exact ⟨rfl, State.setChan_state _ _ _, rfl, MoverFrame.answered _ _ (MoverFrame.letGo s c.isLt)⟩

theorem moverAbort_writesBack (hphase : (s.chan c).phase = .run ∨ (s.chan c).phase = .wait) (hback : CanWriteBack s c) :
    ∃ t, exec (.moverAbort req c) s = .next t ∧ (t.chan c).phase = .idle ∧
      t.rdMem (s.moverCur c + 40) 8 = writtenBack s c stBAD 0x9 % 2 ^ 64 ∧
      (∀ a, a < s.moverCur c + 40 ∨ s.moverCur c + 48 ≤ a → t.rd8 a = s.rd8 a) ∧
      t.rd (F.MOVER_CH_STAT_BAD_SEEN c) = 1 ∧ BlocksKept [bMOVER] s t := by
  obtain ⟨u, hu, hwrote⟩ := s.moverWriteBack_spec stBAD 0x9 c.isLt hback
  have heffect : s.moverAbort c = u.letGo c := by
    have hback : s.moverAbort c = State.abortEnded c (s.moverWriteBack c stBAD 0x9) := by
      rw [State.moverAbort_eq s c hon]
      rcases hphase with h | h <;> rw [h, State.abortIn]
    rw [hback, hu, State.abortEnded]
  obtain ⟨hwritten, hother, hregs⟩ :=
    hwrote.octets ((MoverFrame.letGo u c.isLt).trans (MoverFrame.answer _ req (0x40050108 + 32 * c.val) stOK 0))
  refine ⟨_, exec_moverAbort req c hon, ?_⟩
  rw [heffect]
  refine ⟨?_, hwritten, hother, ?_, hregs⟩
  · rw [ended_answer_chan, State.letGo_chan]
  · rw [ended_answer_rd _ _ _ _ (Fld.notRun (by simp only [F.MOVER_CH_STAT_BAD_SEEN]; omega)), State.letGo_bad]
    exact hwrote.bad (by decide)

end

/-! ## The end of a descriptor (R415, R418) -/

/-- An alignment error shown. -/
def State.alignShown (s : State) (c r : Nat) : State :=
  if r = 0x1 then (s.wr F.MOVER_ERR_ALIGN 1).raiseEvent 0x00F0 (unitOf bMOVER) (o1 c) else s

section
variable (s : State) (c st r : Nat)

theorem State.moverEnd_chan : (s.moverEnd c st r).chan c = { s.chan c with phase := .wb st r } := by
  have hraise : (s.alignShown c r).chan c = s.chan c := by
    unfold State.alignShown
    split
    · rw [State.chan, (PegFrame.raiseEvent (s.wr F.MOVER_ERR_ALIGN 1) _ _ _).mover]
      rfl
    · rfl
  have hkeep : ∀ u : State, u.chan c = s.chan c →
      ((if 0x2 ≤ r ∧ r ≤ 0x5 then u.wr F.MOVER_ERR_BUS 1 else u).setPhase c (.wb st r)).chan c =
        { s.chan c with phase := .wb st r } := fun u hu => by
    rw [State.setPhase_chan]
    split
    · rw [State.wr_chan, hu]
    · rw [hu]
  exact hkeep _ hraise

theorem State.moverEnd_mem : (s.moverEnd c st r).mem = s.mem := by
  have hkeep : ∀ u : State, u.mem = s.mem →
      ((if 0x2 ≤ r ∧ r ≤ 0x5 then u.wr F.MOVER_ERR_BUS 1 else u).setPhase c (.wb st r)).mem = s.mem := fun u hu => by
    split
    · exact hu
    · exact hu
  have hraise : (s.alignShown c r).mem = s.mem := by
    unfold State.alignShown
    split
    · exact State.raiseEvent_mem _ _ _ _
    · rfl
  exact hkeep _ hraise

/-- A bus error of REASON 4 or 5. -/
theorem State.moverEnd_bus (h1 : r ≠ 0x1) (h : 0x2 ≤ r ∧ r ≤ 0x5) :
    s.moverEnd c st r = (s.wr F.MOVER_ERR_BUS 1).setPhase c (.wb st r) := by
  rw [State.moverEnd, if_neg h1]
  simp only [h, and_self, if_true]

theorem State.setPhase_busErr (p : MoverPhase) : ((s.wr F.MOVER_ERR_BUS 1).setPhase c p).rd F.MOVER_ERR_BUS = 1 :=
  (State.setChan_rd _ _ _ (by simp only [Fld.key, F.MOVER_ERR_BUS, F.MOVER_CH_STAT_STATE]; omega)).trans
    (State.rd_wr_fits _ _ (by decide))

/-- What a bus error leaves once its command has ended. -/
theorem moverEnd_busError {s u : State} {c : Nat} (hc : c < 32) (hframe : MoverFrame s u) (st r : Nat) (h1 : r ≠ 0x1)
    (h : 0x2 ≤ r ∧ r ≤ 0x5) : ((s.ended (u.moverEnd c st r)).chan c).phase = .wb st r ∧
      (s.ended (u.moverEnd c st r)).rd F.MOVER_ERR_BUS = 1 ∧ BlocksKept [bMOVER] s (s.ended (u.moverEnd c st r)) ∧
      MemKept s (s.ended (u.moverEnd c st r)) := by
  rw [State.ended_chan, State.ended_rd _ _ (Fld.notRun (by decide)), State.moverEnd_chan, State.moverEnd_bus _ _ _ _ h1 h]
  exact ⟨rfl, State.setPhase_busErr _ _ _,
    (hframe.trans ((MoverFrame.wr _ (by decide) _).trans (MoverFrame.setPhase _ hc _))).kept⟩

/-- What a halt leaves once its command has ended. -/
theorem moverHalt_ended {s u : State} {c : Nat} (hc : c < 32) (hframe : MoverFrame s u) :
    ((s.ended (u.moverHalt c stFETCH)).chan c).phase = .halted ∧
      (s.ended (u.moverHalt c stFETCH)).rd (F.MOVER_CH_STAT_HALT_STATUS c) = stFETCH ∧
      (s.ended (u.moverHalt c stFETCH)).rd F.MOVER_ERR_FETCH = 1 ∧
      (s.ended (u.moverHalt c stFETCH)).rd (F.MOVER_CH_COUNT_FETCHED c) = u.rd (F.MOVER_CH_COUNT_FETCHED c) ∧
      BlocksKept [bMOVER] s (s.ended (u.moverHalt c stFETCH)) ∧ MemKept s (s.ended (u.moverHalt c stFETCH)) := by
  rw [State.ended_chan, State.ended_rd _ _ (chanNotRun_status c), State.ended_rd _ _ (Fld.notRun (by decide)),
    State.ended_rd _ _ (chanNotRun_fetched c), State.moverHalt_chan, State.moverHalt_status, State.moverHalt_err,
    State.moverHalt_fetched]
  exact ⟨rfl, rfl, rfl, rfl, (hframe.trans (MoverFrame.moverHalt u hc)).kept⟩

end

/-! ## A fetched descriptor (R411 to R414) -/

/-- Descriptor `d` taken by channel `c`: it counts, and its request line is the channel's. -/
def State.descTaken (s : State) (c d : Nat) : State :=
  let s := s.inc (F.MOVER_CH_COUNT_FETCHED c)
  let r := MvDesc.req d
  let x := s.chan c
  let s := if r ≠ 0xFF ∧ x.line ≠ some r then s.wr (F.MOVER_CH_LIMIT_PENDING c) 0 else s
  s.setChan c { x with desc := d, moved := 0, burst := 0, line := if r = 0xFF then x.line else some r }

section
variable (c : Fin 32) (p : Bool) (d : Nat) {s : State} (hruns : s.moverRuns = true) (hphase : (s.chan c).phase = .fetch)
  (hd : ofOctetsLE (s.busOctets (s.moverCur c) 64) = d)
include hruns hphase hd

theorem State.moverFetched_bad (h : p = true ∨ s.addrUp (s.moverCur c) = false ∨ inRegBlocks (s.moverCur c) 64 = true) :
    s.moverFetched c p = s.moverHalt c stFETCH := by
  rw [State.moverFetched, hd, State.descriptorFetched, if_neg (by simp [hruns, hphase])]
  exact if_pos (by simpa using h)

theorem descriptorFetched_bad (h : p = true ∨ s.addrUp (s.moverCur c) = false ∨ inRegBlocks (s.moverCur c) 64 = true) :
    ∃ t, exec (.descriptorFetched c p) s = .next t ∧ (t.chan c).phase = .halted ∧
      t.rd (F.MOVER_CH_STAT_HALT_STATUS c) = stFETCH ∧ t.rd F.MOVER_ERR_FETCH = 1 ∧
      t.rd (F.MOVER_CH_COUNT_FETCHED c) = s.rd (F.MOVER_CH_COUNT_FETCHED c) ∧ BlocksKept [bMOVER] s t ∧ MemKept s t := by
  refine ⟨_, finish_ended s (s.moverFetched c p), ?_⟩
  rw [State.moverFetched_bad c p d hruns hphase hd h]
  exact moverHalt_ended c.isLt (MoverFrame.refl s)

variable (hp : p = false) (hup : s.addrUp (s.moverCur c) = true) (hreg : inRegBlocks (s.moverCur c) 64 = false)
include hp hup hreg

theorem descriptorFetched_illegal (hlegal : MvDesc.legal d = false) :
    ∃ t, exec (.descriptorFetched c p) s = .next t ∧ (t.chan c).phase = .halted ∧
      t.rd (F.MOVER_CH_COUNT_FETCHED c) = (s.rd (F.MOVER_CH_COUNT_FETCHED c) + 1) % 2 ^ 16 ∧
      BlocksKept [bMOVER] s t ∧ MemKept s t := by
  have heffect : s.moverFetched c p = (s.inc (F.MOVER_CH_COUNT_FETCHED c)).moverHalt c stFETCH := by
    rw [State.moverFetched, hd, State.descriptorFetched, if_neg (by simp [hruns, hphase])]
    exact (if_neg (by simp [hp, hup, hreg])).trans (if_pos (by simp [hlegal]))
  obtain ⟨hhalted, -, -, hfetched, hregs, hmem⟩ :=
    moverHalt_ended (u := s.inc (F.MOVER_CH_COUNT_FETCHED c)) c.isLt (MoverFrame.wrFetched s c.isLt _)
  refine ⟨_, finish_ended s (s.moverFetched c p), ?_⟩
  rw [heffect]
  exact ⟨hhalted, hfetched.trans (State.rd_wr_same _ _ _), hregs, hmem⟩

variable (hlegal : MvDesc.legal d = true)
include hlegal

/-- A legal descriptor is checked once it is taken. -/
theorem State.moverFetched_legal : s.moverFetched c p =
    match moverCheck d with
    | some (st, reason) => (s.descTaken c d).moverEnd c st reason
    | none => (s.descTaken c d).moverBurst c := by
  rw [State.moverFetched, hd, State.descriptorFetched, if_neg (by simp [hruns, hphase])]
  exact (if_neg (by simp [hp, hup, hreg])).trans (if_neg (by simp [hlegal]))

omit hruns hphase hd hp hup hreg hlegal in
theorem State.descTaken_chan : (s.descTaken c d).chan c = { s.chan c with
    desc := d, moved := 0, burst := 0, line := if MvDesc.req d = 0xFF then (s.chan c).line else some (MvDesc.req d) } :=
  State.setChan_chan _ _ _

theorem descriptorFetched_checked (st r : Nat) (hcheck : moverCheck d = some (st, r)) :
    ∃ t, exec (.descriptorFetched c p) s = .next t ∧ (t.chan c).phase = .wb st r ∧ (t.chan c).moved = 0 ∧ MemKept s t := by
  have htaken : (s.descTaken c d).mem = s.mem := by
    unfold State.descTaken
    extract_lets s1 r x s2
    have hline : s2.mem = s.mem := by
      unfold s2
      split <;> rfl
    exact hline
  refine ⟨_, finish_ended s (s.moverFetched c p), ?_⟩
  rw [State.moverFetched_legal c p d hruns hphase hd hp hup hreg hlegal, hcheck, State.ended_chan]
  change (((s.descTaken c d).moverEnd c st r).chan c).phase = _ ∧ (((s.descTaken c d).moverEnd c st r).chan c).moved = _ ∧ _
  rw [State.moverEnd_chan, State.descTaken_chan]
  exact ⟨rfl, rfl, State.ended_memKept ((State.moverEnd_mem _ _ _ _).trans htaken)⟩

theorem descriptorFetched_moves (hcheck : moverCheck d = none) (hreq : MvDesc.req d = 0xFF) :
    ∃ t, exec (.descriptorFetched c p) s = .next t ∧
      t.chan c = ⟨.run, d, 0, if 2 ≤ MvDesc.typ d then MvDesc.len d else 64 * MvDesc.burst d, (s.chan c).line⟩ ∧
      t.rd (F.MOVER_CH_COUNT_FETCHED c) = (s.rd (F.MOVER_CH_COUNT_FETCHED c) + 1) % 2 ^ 16 ∧
      BlocksKept [bMOVER] s t ∧ MemKept s t := by
  have htyp : MvDesc.typ d ≤ 3 := (of_decide_eq_true hlegal).1
  have hqueue : (MvDesc.typ d = MvDesc.tToQueue ∨ MvDesc.typ d = MvDesc.tFromQueue) ↔ 2 ≤ MvDesc.typ d := by
    simp only [MvDesc.tToQueue, MvDesc.tFromQueue]
    omega
  have htaken : s.descTaken c d = (s.inc (F.MOVER_CH_COUNT_FETCHED c)).setChan c
      { s.chan c with desc := d, moved := 0, burst := 0, line := (s.chan c).line } := by
    simp only [State.descTaken, hreq, ne_eq, not_true_eq_false, false_and, if_false, if_true]
    rfl
  have hchan := State.descTaken_chan (s := s) c d
  have hburst : (s.descTaken c d).moverBurst c = (s.descTaken c d).setChan c
      ⟨.run, d, 0, if 2 ≤ MvDesc.typ d then MvDesc.len d else 64 * MvDesc.burst d, (s.chan c).line⟩ := by
    simp only [State.moverBurst, hchan, hreq, if_true, hqueue]
  refine ⟨_, finish_ended s (s.moverFetched c p), ?_⟩
  rw [State.moverFetched_legal c p d hruns hphase hd hp hup hreg hlegal, hcheck]
  change (s.ended ((s.descTaken c d).moverBurst c)).chan c = _ ∧
    (s.ended ((s.descTaken c d).moverBurst c)).rd (F.MOVER_CH_COUNT_FETCHED c) = _ ∧ _
  rw [hburst, htaken, State.ended_chan, State.setChan_chan, State.ended_rd _ _ (chanNotRun_fetched _),
    State.setChan_rd _ _ _ (by simp only [Fld.key, F.MOVER_CH_COUNT_FETCHED, F.MOVER_CH_STAT_STATE]; omega),
    State.setChan_rd _ _ _ (by simp only [Fld.key, F.MOVER_CH_COUNT_FETCHED, F.MOVER_CH_STAT_STATE]; omega)]
  exact ⟨rfl, State.rd_wr_same _ _ _, ((MoverFrame.wrFetched s c.isLt _).trans
    ((MoverFrame.setChan _ c.isLt _).trans (MoverFrame.setChan _ c.isLt _))).kept⟩

end

/-! ## Accesses (R415 to R418) -/

theorem moverAccess_ends (c : Fin 32) (d n : Nat) (l : List Byte) (u s w : State) (hruns : s.moverRuns = true)
    (hphase : (s.chan c).phase = .run) (hnext : s.moverNext = some c.val) (hw : w = { s with mvTurn := ⟨c, none⟩ })
    (hd : (s.chan c).desc = d) (htyp : MvDesc.typ d = MvDesc.tCopy) (hfunnel : MvDesc.funnel d = false)
    (hn : unitSize d (MvDesc.dst d + (s.chan c).moved) (min (MvDesc.len d - (s.chan c).moved) (s.chan c).burst) = n)
    (hget : w.busGet (MvDesc.src d + (s.chan c).moved) n = (0, l, w)) :
    (w.busPut (MvDesc.dst d + (s.chan c).moved) l = (0, u) → MvDesc.len d ≤ (s.chan c).moved + n →
      ∃ t, exec (.moverAccessResponse c false) s = .next t ∧ (t.chan c).phase = .wb stOK 0 ∧
        (t.chan c).moved = (s.chan c).moved + n ∧ MemKept u t) ∧
    (∃ t, exec (.moverAccessResponse c true) s = .next t ∧ (t.chan c).phase = .wb stPOISON 0x5 ∧
      t.rd F.MOVER_ERR_BUS = 1 ∧ BlocksKept [bMOVER] s t ∧ MemKept s t) := by
  have hchan : w.chan c = s.chan c := by rw [hw]; rfl
  have hcopy : ∀ k, MvDesc.typ d ≠ k + 1 := by simp [htyp, MvDesc.tCopy]
  have hunit : ∀ p, s.moverAccess c p = w.moveUnit c d p := fun p => by
    rw [State.moverAccess, if_neg (by simp [hruns, hphase, hnext]), ← hw]
    simp only [hchan, hd, if_neg (hcopy 1), if_neg (hcopy 2), MvDesc.tToQueue, MvDesc.tFromQueue]
  have hfrom : w.moverFrom d (s.chan c).moved = (0, MvDesc.src d + (s.chan c).moved, w) := if_neg (hcopy 0)
  have hgather : ¬ (MvDesc.typ d = MvDesc.tGather ∧ ¬ MvDesc.funnel d ∧ (MvDesc.src d + (s.chan c).moved) % n ≠ 0) :=
    fun h => hcopy 0 h.1
  have hregs : ¬ ((MvDesc.funnel d : Prop) ∧ inRegBlocks (MvDesc.src d + (s.chan c).moved) n) := by simp [hfunnel]
  constructor
  · intro hput hlen
    let x : MoverChan := { u.chan c with moved := (s.chan c).moved + n, burst := (s.chan c).burst - n }
    have heffect : s.moverAccess c false = (u.setChan c x).moverEnd c stOK 0 := by
      rw [hunit, State.moveUnit]
      simp only [hchan, hn, hfrom, if_neg hgather, if_neg hregs, hget, hput, Bool.false_eq_true, if_false, if_pos hlen]
      rfl
    refine ⟨_, finish_ended s (s.moverAccess c false), ?_⟩
    rw [heffect, State.ended_chan, State.moverEnd_chan, State.setChan_chan]
    exact ⟨rfl, rfl, fun a => (State.ended_rd8 s _ a).trans
      (congrArg (fun m => (m.read a).toNat) (State.moverEnd_mem _ _ _ _))⟩
  · have heffect : s.moverAccess c true = w.moverEnd c stPOISON 0x5 := by
      rw [hunit, State.moveUnit]
      simp only [hchan, hn, hfrom, if_neg hgather, if_neg hregs, hget, if_true]
      rfl
    have hframe : MoverFrame s w := by
      rw [hw]
      exact ⟨fun _ _ => rfl, rfl⟩
    refine ⟨_, finish_ended s (s.moverAccess c true), ?_⟩
    rw [heffect]
    exact moverEnd_busError c.isLt hframe stPOISON 0x5 (by decide) (by decide)

theorem moverAccess_outOfTurn (c : Fin 32) (p : Bool) (s : State) (hnext : s.moverNext ≠ some c.val) :
    ∃ t, exec (.moverAccessResponse c p) s = .next t ∧ t.mover = s.mover ∧ RegsKept [] s t ∧ MemKept s t := by
  have heffect : s.moverAccess c p = s := if_pos (Or.inr (Or.inr hnext))
  refine ⟨_, finish_ended s (s.moverAccess c p), ?_⟩
  rw [heffect]
  exact ⟨State.ended_mover _ _, State.ended_regsKept fun _ _ => rfl, State.ended_memKept rfl⟩

theorem moverAccessTimeout_clauses (c : Fin 32) (n : Nat) (s : State) (hruns : s.moverRuns = true) (hn : 11 ≤ n) :
    ((s.chan c).phase = .run → ∃ t, exec (.moverAccessTimeout c n) s = .next t ∧ (t.chan c).phase = .wb stTIMEOUT 0x4 ∧
      t.rd F.MOVER_ERR_BUS = 1 ∧ BlocksKept [bMOVER] s t ∧ MemKept s t) ∧
    ((s.chan c).phase = .fetch → ∃ t, exec (.moverAccessTimeout c n) s = .next t ∧ (t.chan c).phase = .halted ∧
      t.rd (F.MOVER_CH_STAT_HALT_STATUS c) = stFETCH ∧ t.rd F.MOVER_ERR_FETCH = 1 ∧ BlocksKept [bMOVER] s t ∧
      MemKept s t) := by
  have hlate : ¬ (¬ s.moverRuns ∨ n < 11) := by simp [hruns, hn]
  constructor
  · intro hphase
    have heffect : s.moverTimeout c n = s.moverEnd c stTIMEOUT 0x4 := by
      rw [State.moverTimeout, if_neg hlate, hphase]
    refine ⟨_, finish_ended s (s.moverTimeout c n), ?_⟩
    rw [heffect]
    exact moverEnd_busError c.isLt (MoverFrame.refl s) stTIMEOUT 0x4 (by decide) (by decide)
  · intro hphase
    have heffect : s.moverTimeout c n = s.moverHalt c stFETCH := by
      rw [State.moverTimeout, if_neg hlate, hphase]
    obtain ⟨hhalted, hstatus, herr, -, hkept⟩ := moverHalt_ended c.isLt (MoverFrame.refl s)
    refine ⟨_, finish_ended s (s.moverTimeout c n), ?_⟩
    rw [heffect]
    exact ⟨hhalted, hstatus, herr, hkept⟩

/-! ## DESCRIPTOR_WRITE_BACK (R412) -/

/-- How the chain goes on after the write-back, with NEXT at `next`. -/
def State.chainOn (c next : Nat) : Bool × State → State
  | (false, s) => s.moverHalt c stFETCH
  | (true, s) =>
    if next = 0 then s.setPhase c .idle
    else (s.wr64 (F.MOVER_CH_CUR_LO_ADDR c) (F.MOVER_CH_CUR_HI_ADDR c) next).moverFetch c

section
variable (c : Fin 32) (st r : Nat) (s : State) (hruns : s.moverRuns = true) (hphase : (s.chan c).phase = .wb st r)
include hruns hphase

theorem State.descriptorWriteBack_eq : s.descriptorWriteBack c =
    State.chainOn c (MvDesc.next (s.chan c).desc) (s.moverWriteBack c st r) := by
  rw [State.descriptorWriteBack, hphase]
  refine (if_neg (by simp [hruns])).trans ?_
  extract_lets next
  generalize s.moverWriteBack c st r = e
  rcases e with ⟨_ | _, u⟩ <;> rfl

theorem descriptorWriteBack_ends (hback : CanWriteBack s c) (hnext : MvDesc.next (s.chan c).desc = 0) :
    ∃ t, exec (.descriptorWriteBack c) s = .next t ∧ (t.chan c).phase = .idle ∧
      t.rdMem (s.moverCur c + 40) 8 = writtenBack s c st r % 2 ^ 64 ∧
      (∀ a, a < s.moverCur c + 40 ∨ s.moverCur c + 48 ≤ a → t.rd8 a = s.rd8 a) ∧
      t.rd (F.MOVER_CH_STAT_SEQ c) = (s.rd (F.MOVER_CH_STAT_SEQ c) + 1) % 65536 ∧ BlocksKept [bMOVER] s t := by
  obtain ⟨u, hu, hwrote⟩ := s.moverWriteBack_spec st r c.isLt hback
  have heffect : s.descriptorWriteBack c = u.setPhase c .idle := by
    rw [State.descriptorWriteBack_eq c st r s hruns hphase, hu, hnext, State.chainOn, if_pos rfl]
  obtain ⟨hwritten, hother, hregs⟩ := hwrote.octets (MoverFrame.setPhase u c.isLt .idle)
  refine ⟨_, finish_ended s (s.descriptorWriteBack c), ?_⟩
  rw [heffect]
  refine ⟨?_, hwritten, hother, ?_, hregs⟩
  · rw [State.ended_chan, State.setPhase_chan]
  · rw [State.ended_rd _ _ (Fld.notRun (by simp only [F.MOVER_CH_STAT_SEQ]; omega)), State.setPhase,
      State.setChan_rd _ _ _ (by simp only [Fld.key, F.MOVER_CH_STAT_SEQ, F.MOVER_CH_STAT_STATE]; omega)]
    exact hwrote.seq

theorem descriptorWriteBack_halts (hup : s.addrUp (s.moverCur c) = false) :
    ∃ t, exec (.descriptorWriteBack c) s = .next t ∧ (t.chan c).phase = .halted ∧
      t.rd (F.MOVER_CH_STAT_HALT_STATUS c) = stFETCH ∧ BlocksKept [bMOVER] s t ∧ MemKept s t := by
  have heffect : s.descriptorWriteBack c = s.moverHalt c stFETCH := by
    have hbad : s.moverWriteBack c st r = (false, s) := if_pos (Or.inl (by simp [hup]))
    rw [State.descriptorWriteBack_eq c st r s hruns hphase, hbad, State.chainOn]
  obtain ⟨hhalted, hstatus, -, -, hkept⟩ := moverHalt_ended c.isLt (MoverFrame.refl s)
  refine ⟨_, finish_ended s (s.descriptorWriteBack c), ?_⟩
  rw [heffect]
  exact ⟨hhalted, hstatus, hkept⟩

end

/-! ## REQUEST_LINE (R421) -/

/-- A step from `s` to `t` that concerns channel `b` alone: the other channels and their PENDING are kept. -/
structure ChanStep (b : Nat) (s t : State) : Prop extends MoverFrame s t where
  chan : ∀ c, c ≠ b → t.chan c = s.chan c
  pending : ∀ c, c ≠ b → t.rd (F.MOVER_CH_LIMIT_PENDING c) = s.rd (F.MOVER_CH_LIMIT_PENDING c)

namespace ChanStep

theorem refl (b : Nat) (s : State) : ChanStep b s s := ⟨MoverFrame.refl s, fun _ _ => rfl, fun _ _ => rfl⟩

theorem trans {b : Nat} {s t u : State} (h : ChanStep b s t) (k : ChanStep b t u) : ChanStep b s u :=
  ⟨h.toMoverFrame.trans k.toMoverFrame, fun c hc => (k.chan c hc).trans (h.chan c hc),
    fun c hc => (k.pending c hc).trans (h.pending c hc)⟩

variable {b : Nat} (s : State) (hb : b < 32)
include hb

theorem wrPending (v : Nat) : ChanStep b s (s.wr (F.MOVER_CH_LIMIT_PENDING b) v) :=
  ⟨MoverFrame.wr _ (moverReg (by simp only [F.MOVER_CH_LIMIT_PENDING]; omega) (by simp [F.MOVER_CH_LIMIT_PENDING])) _,
    fun _ _ => rfl, fun c hc => State.rd_wr_other _ _ (by simp only [Fld.key, F.MOVER_CH_LIMIT_PENDING]; omega)⟩

theorem wrOverflow (v : Nat) : ChanStep b s (s.wr (F.MOVER_CH_STAT_REQ_OVF b) v) :=
  ⟨MoverFrame.wr _ (moverReg (by simp only [F.MOVER_CH_STAT_REQ_OVF]; omega) (by simp [F.MOVER_CH_STAT_REQ_OVF])) _,
    fun _ _ => rfl, fun c _ => State.rd_wr_other _ _ (by simp only [Fld.key, F.MOVER_CH_LIMIT_PENDING, F.MOVER_CH_STAT_REQ_OVF]; omega)⟩

theorem setChan (x : MoverChan) : ChanStep b s (s.setChan b x) :=
  ⟨MoverFrame.setChan s hb x, fun _ hc => State.setChan_chan_other s b x hc,
    fun c _ => State.setChan_rd _ _ _ (by simp only [Fld.key, F.MOVER_CH_LIMIT_PENDING, F.MOVER_CH_STAT_STATE]; omega)⟩

theorem moverBurst : ChanStep b s (s.moverBurst b) := by
  unfold State.moverBurst
  extract_lets x t whole n p
  split
  · exact setChan s hb _
  · split
    · exact setChan s hb _
    · exact (wrPending s hb _).trans (setChan _ hb _)

/-- The count of a request. -/
theorem counted : ChanStep b s (s.moverRequest b) := by
  unfold State.moverRequest
  extract_lets p u
  have hcount : ChanStep b s u := by
    unfold u
    split
    · exact wrPending s hb _
    · exact wrOverflow s hb _
  split
  · exact hcount.trans (moverBurst u hb)
  · exact hcount

end ChanStep

/-- A request counted by a channel that does not wait. -/
theorem State.moverRequest_pending (s : State) (c : Nat) (hphase : (s.chan c).phase ≠ .wait)
    (hroom : s.rd (F.MOVER_CH_LIMIT_PENDING c) < 255) :
    (s.moverRequest c).rd (F.MOVER_CH_LIMIT_PENDING c) = s.rd (F.MOVER_CH_LIMIT_PENDING c) + 1 := by
  have hcount : s.moverRequest c = s.wr (F.MOVER_CH_LIMIT_PENDING c) (s.rd (F.MOVER_CH_LIMIT_PENDING c) + 1) := by
    rw [State.moverRequest]
    simp only [hroom, if_true]
    exact if_neg hphase
  rw [hcount]
  exact State.rd_wr_fits _ _ (show _ < 65536 by omega)

/-- A request of line `n` as channel `c` meets it. -/
def State.lineTo (n : Nat) (s : State) (c : Nat) : State := if (s.chan c).line = some n then s.moverRequest c else s

theorem ChanStep.lineTo (n : Nat) (s : State) {b : Nat} (hb : b < 32) : ChanStep b s (s.lineTo n b) := by
  unfold State.lineTo
  split
  · exact ChanStep.counted s hb
  · exact ChanStep.refl b s

section
variable (n : Nat) (l : List Nat) (hl : ∀ b ∈ l, b < 32)
include hl

theorem MoverFrame.lines (s : State) : MoverFrame s (l.foldl (State.lineTo n) s) := by
  induction l generalizing s with
  | nil => exact MoverFrame.refl s
  | cons b l ih =>
    exact (ChanStep.lineTo n s (hl b (List.mem_cons_self ..))).toMoverFrame.trans
      (ih (fun x hx => hl x (List.mem_cons_of_mem _ hx)) _)

/-- The other channels' requests leave a channel as it is. -/
theorem State.lines_other (s : State) {c : Nat} (hc : c ∉ l) : (l.foldl (State.lineTo n) s).chan c = s.chan c ∧
    (l.foldl (State.lineTo n) s).rd (F.MOVER_CH_LIMIT_PENDING c) = s.rd (F.MOVER_CH_LIMIT_PENDING c) := by
  induction l generalizing s with
  | nil => exact ⟨rfl, rfl⟩
  | cons b l ih =>
    have hstep := ChanStep.lineTo n s (hl b (List.mem_cons_self ..))
    have hne : c ≠ b := fun he => hc (he ▸ List.mem_cons_self ..)
    obtain ⟨hchan, hpending⟩ :=
      ih (fun x hx => hl x (List.mem_cons_of_mem _ hx)) (s.lineTo n b) (fun h => hc (List.mem_cons_of_mem _ h))
    exact ⟨hchan.trans (hstep.chan c hne), hpending.trans (hstep.pending c hne)⟩

end

/-- A request counts once for each channel of its line. -/
theorem State.lines_pending (n : Nat) (s : State) {c : Nat} (hc : c < 32) (hline : (s.chan c).line = some n)
    (hphase : (s.chan c).phase ≠ .wait) (hroom : s.rd (F.MOVER_CH_LIMIT_PENDING c) < 255) :
    ((List.range 32).foldl (State.lineTo n) s).rd (F.MOVER_CH_LIMIT_PENDING c) = s.rd (F.MOVER_CH_LIMIT_PENDING c) + 1 := by
  obtain ⟨l, m, hlm⟩ := List.append_of_mem (List.mem_range.mpr hc)
  have hnodup := List.nodup_range (n := 32)
  have hlt : ∀ b ∈ l ++ c :: m, b < 32 := fun b hb => List.mem_range.mp (hlm ▸ hb)
  rw [hlm] at hnodup ⊢
  obtain ⟨-, hcm, hdisjoint⟩ := List.nodup_append.mp hnodup
  have hcl : c ∉ l := fun h => hdisjoint c h c (List.mem_cons_self ..) rfl
  rw [List.foldl_append, List.foldl_cons]
  obtain ⟨hchan, hpending⟩ :=
    State.lines_other n l (fun b hb => hlt b (List.mem_append_left _ hb)) s hcl
  generalize l.foldl (State.lineTo n) s = u at hchan hpending
  have hcount : u.lineTo n c = u.moverRequest c := if_pos (hchan ▸ hline)
  rw [(State.lines_other n m (fun b hb => hlt b (List.mem_append_right _ (List.mem_cons_of_mem _ hb))) _
    (List.nodup_cons.mp hcm).1).2, hcount, State.moverRequest_pending u c (hchan ▸ hphase) (hpending ▸ hroom), hpending]

theorem requestLine_counts (line : Fin 32) (q : BitVec 20) (s : State) (hruns : s.moverRuns = true) (hline : line.val < 16) :
    ∃ t, exec (.requestLine line q) s = .next t ∧ BlocksKept [bMOVER] s t ∧ MemKept s t ∧
      ∀ c, c < 32 → (s.chan c).line = some line.val → (s.chan c).phase ≠ .wait →
        s.rd (F.MOVER_CH_LIMIT_PENDING c) < 255 →
          t.rd (F.MOVER_CH_LIMIT_PENDING c) = s.rd (F.MOVER_CH_LIMIT_PENDING c) + 1 := by
  have heffect : s.requestLine line q.toNat = (List.range 32).foldl (State.lineTo line) s := by
    rw [State.requestLine, if_neg (by simp [hruns, hline])]
    rfl
  obtain ⟨hregs, hmem⟩ := (MoverFrame.lines line (List.range 32) (fun b hb => List.mem_range.mp hb) s).kept
  refine ⟨_, finish_ended s (s.requestLine line q.toNat), ?_⟩
  rw [heffect]
  refine ⟨hregs, hmem, fun c hc hchan hphase hroom => ?_⟩
  rw [State.ended_rd _ _ (Fld.notRun (by simp only [F.MOVER_CH_LIMIT_PENDING]; omega))]
  exact State.lines_pending line s hc hchan hphase hroom

/-! ## MOVER_CTRL.EN (R422, R423) -/

/-- RUN of a block stays as its chapter says, where that rests on no other RUN. -/
theorem State.ended_run_of (s : State) {u : State} {b : Nat}
    (hrest : ∀ v : State, (∀ g : Fld, notRun g.key → v.rd g = u.rd g) → v.runsAs b = u.runsAs b)
    (h : u.run b = u.runsAs b) : (s.ended u).run b = u.runsAs b := by
  have hsettle : u.settle.run b = u.runsAs b ∧ ∀ g : Fld, notRun g.key → u.settle.rd g = u.rd g := by
    refine State.settle_ind (fun v => v.run b = u.runsAs b ∧ ∀ g : Fld, notRun g.key → v.rd g = u.rd g) u
      ⟨h, fun _ _ => rfl⟩ fun v c hc ⟨hv, hkept⟩ => ?_
    rcases v.settleRun_cases c with he | he
    · rw [he]
      exact ⟨hv, hkept⟩
    · refine ⟨?_, fun g hg => ?_⟩
      · by_cases hcb : b = c
        · subst hcb
          rw [he, State.run, State.isSet, State.rd_wr_same, hrest v hkept]
          cases u.runsAs b <;> rfl
        · rw [he, State.run, State.isSet, State.rd_wr_other _ _ fun hk => hcb (runKey_inj hk)]
          exact hv
      · rw [he]
        exact (State.rd_wr_other _ _ (hg c hc)).trans (hkept g hg)
  rw [State.run, State.isSet, State.ended, State.pending_rd]
  exact hsettle.1

/-- RUN of the mover stays what PD40 and EN make it. -/
theorem State.ended_run_mover (s : State) {u : State} (h : u.run bMOVER = (u.isOn 40 && u.isSet F.MOVER_CTRL_EN)) :
    (s.ended u).run bMOVER = (u.isOn 40 && u.isSet F.MOVER_CTRL_EN) := by
  refine State.ended_run_of s (b := bMOVER) (fun v hv => ?_) h
  change (v.isOn 40 && v.isSet F.MOVER_CTRL_EN) = (u.isOn 40 && u.isSet F.MOVER_CTRL_EN)
  rw [State.isOn, State.dom, hv _ (Fld.notRun (by decide)), State.isSet, hv _ (Fld.notRun (by decide)), State.isOn,
    State.dom, State.isSet]

/-- ABORT changes no register outside the mover. -/
theorem State.moverAbort_rd (s : State) {c : Nat} (hc : c < 32) {g : Fld} (hg : inBlock bMOVER g.key = false) :
    (s.moverAbort c).rd g = s.rd g := by
  have hback : ∀ st r, (State.abortEnded c (s.moverWriteBack c st r)).rd g = s.rd g := fun st r => by
    by_cases h : CanWriteBack s c
    · obtain ⟨u, hu, hwrote⟩ := s.moverWriteBack_spec st r hc h
      rw [hu]
      exact ((MoverFrame.letGo u hc).rd g hg).trans (hwrote.rd g hg)
    · have hbad : s.moverWriteBack c st r = (false, s) := if_pos (by
        simp only [CanWriteBack, not_and, Bool.not_eq_false] at h
        by_cases hup : s.addrUp (s.moverCur c) = true
        · by_cases hreg : inRegBlocks (s.moverCur c) 64 = true
          · exact Or.inr (Or.inl hreg)
          · exact Or.inr (Or.inr (h hup (by simpa using hreg)))
        · exact Or.inl hup)
      rw [hbad]
      exact ((ChanStep.wrPending s hc 0).toMoverFrame.trans (MoverFrame.moverHalt _ hc)).rd g hg
  by_cases hon : s.isOn 40 = true
  · rw [State.moverAbort_eq s c hon]
    cases (s.chan c).phase with
    | idle => rfl
    | fetch => exact (MoverFrame.letGo s hc).rd g hg
    | run => rw [State.abortIn, hback]
    | wait => rw [State.abortIn, hback]
    | wb st r => rw [State.abortIn, hback]
    | halted => exact (MoverFrame.letGo s hc).rd g hg
  · have hoff : s.moverAbort c = s := by
      unfold State.moverAbort
      extract_lets done back
      clear_value done back
      exact if_pos hon
    rw [hoff]

/-- Every channel aborted. -/
def State.allAborted (s : State) : State := (List.range 32).foldl State.moverAbort s

theorem State.allAborted_rd (s : State) {g : Fld} (hg : inBlock bMOVER g.key = false) : s.allAborted.rd g = s.rd g := by
  have hall : ∀ (l : List Nat), (∀ c ∈ l, c < 32) → ∀ u : State, (l.foldl State.moverAbort u).rd g = u.rd g := by
    intro l
    induction l with
    | nil => exact fun _ _ => rfl
    | cons c l ih =>
      intro hl u
      exact (ih (fun x hx => hl x (List.mem_cons_of_mem _ hx)) _).trans (u.moverAbort_rd (hl c (List.mem_cons_self ..)) hg)
  exact hall _ (fun c hc => List.mem_range.mp hc) s

theorem State.allAborted_idle (s : State) (hon : s.isOn 40 = true) (hidle : ∀ c, c < 32 → (s.chan c).phase = .idle) :
    s.allAborted = s := by
  have hstep : ∀ c < 32, s.moverAbort c = s := fun c hc => by
    rw [State.moverAbort_eq s c hon, hidle c hc]
    rfl
  have hall : ∀ (l : List Nat), (∀ c ∈ l, c < 32) → l.foldl State.moverAbort s = s := by
    intro l
    induction l with
    | nil => exact fun _ => rfl
    | cons c l ih =>
      intro hl
      rw [List.foldl_cons, hstep c (hl c (List.mem_cons_self ..)), ih fun x hx => hl x (List.mem_cons_of_mem _ hx)]
  exact hall _ fun c hc => List.mem_range.mp hc

/-- EN stored as a write stores it. -/
def State.enStored (s : State) (en : Bool) : State :=
  ({ s with shadow := s.shadow.erase F.MOVER_CTRL_EN.key }).wr F.MOVER_CTRL_EN (b2n en)

/-- EN and RUN as the command leaves them. -/
def State.enShown (s : State) (en : Bool) : State := (s.wrB F.MOVER_CTRL_EN en).wrB (F.STATE_RUN bMOVER) en

section
variable (req : Fin 36) {s : State} (hon : s.isOn 40 = true)
include hon

theorem State.enStored_isOn (en : Bool) : (s.enStored en).isOn 40 = true := by
  rw [State.isOn, State.dom, State.enStored, State.rd_wr_other _ _ (by decide)]
  exact hon

theorem exec_moverCtrlEn (en : Bool) : exec (.moverCtrlEn req en) s =
    .next (s.ended (((if en then s.enStored en else (s.enStored en).allAborted).enShown en).answer req 0x40050000 stOK 0)) := by
  have hreason : s.writeReason req 0x40050000 bMOVER regsMover[0] [] (b2n en) = 0 := by cases en <;> rfl
  have hset : (s.enStored en).isSet F.MOVER_CTRL_EN = en := by
    rw [State.isSet, State.enStored, State.rd_wr_same]
    cases en <;> rfl
  have hput : s.putFields req 0x40050000 bMOVER regsMover[0] [] (s.hcpEnWord req 0x40050000 (b2n en)) = s.enStored en := by
    rw [State.hcpEnWord, if_neg (by simp)]
    cases en <;> rfl
  have henable : (s.enStored en).moverEnable en =
      (if en then s.enStored en else (s.enStored en).allAborted).enShown en :=
    if_neg (by rw [State.enStored_isOn hon]; simp)
  have hrow : s.regWrite req 0x40050000 (b2n en) WriteMore.none = (stOK, (s.enStored en).moverEnable en) := by
    rw [State.regWrite_accept s (State.addrUp_mover hon (by decide)) (by decide) (b := bMOVER) (off := 0) (r := regsMover[0])
      (ix := []) (by decide) (by decide) (by decide) hreason]
    have hafter : (s.enStored en).afterWrite s req bMOVER 0 0 =
        (s.enStored en).moverEnable ((s.enStored en).isSet F.MOVER_CTRL_EN) := rfl
    rw [hset] at hafter
    exact congrArg (fun u => (u : State).afterWrite s req bMOVER 0 0 |> acted) hput |>.trans (congrArg acted hafter)
  exact congrArg (finish s) (by rw [State.rowWrite, hrow, henable])

omit hon in
/-- EN and RUN once the command has ended. -/
theorem State.enShown_run (u : State) (en : Bool) (hu : u.isOn 40 = true) :
    (s.ended ((u.enShown en).answer req 0x40050000 stOK 0)).rd F.MOVER_CTRL_EN = b2n en ∧
      (s.ended ((u.enShown en).answer req 0x40050000 stOK 0)).run bMOVER = en := by
  have hen : (u.enShown en).rd F.MOVER_CTRL_EN = b2n en :=
    (State.rd_wr_other _ _ (by decide)).trans (State.rd_wr_fits _ _ (b2n_lt_two en))
  have hset : (u.enShown en).isSet F.MOVER_CTRL_EN = en := by
    rw [State.isSet, hen]
    cases en <;> rfl
  have hon : (u.enShown en).isOn 40 = true := by
    rw [State.isOn, State.dom, State.enShown, State.wrB, State.rd_wr_other _ _ (by decide), State.wrB,
      State.rd_wr_other _ _ (by decide)]
    exact hu
  have hrun : (u.enShown en).run bMOVER = en := by
    rw [State.run, State.isSet, State.enShown, State.wrB, State.rd_wr_same]
    cases en <;> rfl
  have hend := State.ended_run_mover s (u := (u.enShown en).answer req 0x40050000 stOK 0)
    (hrun.trans (show en = ((u.enShown en).isOn 40 && (u.enShown en).isSet F.MOVER_CTRL_EN) by rw [hon, hset, Bool.true_and]))
  refine ⟨(State.ended_rd _ _ (Fld.notRun (by decide))).trans hen, hend.trans ?_⟩
  change ((u.enShown en).isOn 40 && (u.enShown en).isSet F.MOVER_CTRL_EN) = en
  rw [hon, hset, Bool.true_and]

omit hon in
/-- A command that only writes EN and RUN keeps everything else. -/
theorem State.enShown_kept (en : Bool) :
    RegsKept [F.MOVER_CTRL_EN] s (s.ended (((s.enStored en).enShown en).answer req 0x40050000 stOK 0)) ∧
      MemKept s (s.ended (((s.enStored en).enShown en).answer req 0x40050000 stOK 0)) := by
  refine ⟨fun g hg hne => ?_, State.ended_memKept rfl⟩
  have hkey := hne _ (List.mem_singleton_self _)
  rw [State.ended_rd _ _ hg, State.answer_rd, State.enShown, State.wrB, State.rd_wr_other _ _ (hg bMOVER (by decide)),
    State.wrB, State.rd_wr_other _ _ hkey, State.enStored, State.rd_wr_other _ _ hkey]
  rfl

end

theorem moverCtrlEn_clauses (req : Fin 36) (s : State) (hon : s.isOn 40 = true) :
    (∃ t, exec (.moverCtrlEn req true) s = .next t ∧ t.rd F.MOVER_CTRL_EN = 1 ∧ t.run bMOVER = true ∧
      RegsKept [F.MOVER_CTRL_EN] s t ∧ MemKept s t) ∧
    (∃ t, exec (.moverCtrlEn req false) s = .next t ∧ t.rd F.MOVER_CTRL_EN = 0 ∧ t.run bMOVER = false ∧
      ((∀ c, c < 32 → (s.chan c).phase = .idle) → RegsKept [F.MOVER_CTRL_EN] s t ∧ MemKept s t)) := by
  have hoff : (s.enStored false).allAborted.isOn 40 = true := by
    rw [State.isOn, State.dom, State.allAborted_rd _ (by decide)]
    exact State.enStored_isOn hon false
  obtain ⟨hen, hrun⟩ := State.enShown_run req (s := s) (s.enStored true) true (State.enStored_isOn hon true)
  obtain ⟨hdis, hstop⟩ := State.enShown_run req (s := s) (s.enStored false).allAborted false hoff
  refine ⟨⟨_, exec_moverCtrlEn req hon true, hen, hrun, State.enShown_kept req true⟩,
    ⟨_, exec_moverCtrlEn req hon false, hdis, hstop, fun hidle => ?_⟩⟩
  have hnone : (s.enStored false).allAborted = s.enStored false :=
    State.allAborted_idle _ (State.enStored_isOn hon false) hidle
  simp only [Bool.false_eq_true, if_false, hnone]
  exact State.enShown_kept req false

/-- Settles O54, clause by clause. -/
theorem moverCommands : Obligations.MoverCommands :=
  ⟨fun req c _ hon hen hdue hlimit =>
    ⟨fun _ hphase hhead => ⟨moverStart_fetches req c hon hen hdue hlimit hphase hhead,
      moverStart_halts req c hon hen hdue hlimit hphase hhead⟩, moverContinue_fetches req c hon hen hdue hlimit⟩,
   fun req c _ hon => ⟨moverAbort_letsGo req c hon, moverAbort_writesBack req c hon⟩,
   fun c p d _ hruns hphase hd => ⟨descriptorFetched_bad c p d hruns hphase hd,
     descriptorFetched_illegal c p d hruns hphase hd,
     fun st r hp hup hreg hlegal => descriptorFetched_checked c p d hruns hphase hd hp hup hreg hlegal st r,
     descriptorFetched_moves c p d hruns hphase hd⟩,
   moverAccess_ends, moverAccess_outOfTurn, moverAccessTimeout_clauses,
   fun c st r s hruns hphase => ⟨descriptorWriteBack_ends c st r s hruns hphase, descriptorWriteBack_halts c st r s hruns hphase⟩,
   requestLine_counts, moverCtrlEn_clauses⟩

end Sys2Proof.Machine
end

section
/-!
PROOFS. The trial of a firmware image (R465 to R479): slot headers, the commands of RESTR_CMD, activation, the confirm window.
-/
namespace Sys2Proof.Machine

/-! ## Slot headers (R465) -/

/-- Nothing but registers of RESTR changes from `s` to `t`, as far as registers go. -/
def RestrRegs (s t : State) : Prop := ∀ g : Fld, inBlock bRESTR g.key = false → t.rd g = s.rd g

theorem RestrRegs.refl (s : State) : RestrRegs s s := fun _ _ => rfl

theorem RestrRegs.trans {s t u : State} (h : RestrRegs s t) (k : RestrRegs t u) : RestrRegs s u :=
  fun g hg => (k g hg).trans (h g hg)

theorem RestrRegs.wr (s : State) {f : Fld} (h : inBlock bRESTR f.key = true) (v : Nat) : RestrRegs s (s.wr f v) :=
  fun _ hg => s.rd_wr_other v (key_ne_of_inBlock hg h)

/-- The registers of slot `k` brought up to date. -/
def State.showSlot (s : State) (k : Nat) : State :=
  let h := s.hdr k
  let s := (s.wr (F.RESTR_SLOT_STAT_GEN k) h.gen).wr (F.RESTR_SLOT_STAT_TRIED k) h.tried
  let s := (s.wrB (F.RESTR_SLOT_STAT_RUNNING k) (s.restr.running == k)).wr (F.RESTR_SLOT_STAT_STATE k) h.state
  s.wr (F.RESTR_SLOT_ID_IMAGE_ID k) (if h.state = 0 then 0 else h.imageId)

section
variable (s : State)

theorem State.showSlots_eq : s.showSlots = (s.showSlot 0).showSlot 1 := rfl

theorem State.showSlots_restr : s.showSlots.restr = s.restr := rfl

theorem State.showSlots_mem : s.showSlots.mem = s.mem := rfl

theorem RestrRegs.showSlot {k : Nat} (hk : k < 2) : RestrRegs s (s.showSlot k) := by
  have hkeys : ∀ j : Fin 2, inBlock bRESTR (F.RESTR_SLOT_STAT_GEN j).key = true ∧
      inBlock bRESTR (F.RESTR_SLOT_STAT_TRIED j).key = true ∧ inBlock bRESTR (F.RESTR_SLOT_STAT_RUNNING j).key = true ∧
      inBlock bRESTR (F.RESTR_SLOT_STAT_STATE j).key = true ∧ inBlock bRESTR (F.RESTR_SLOT_ID_IMAGE_ID j).key = true := by
    decide
  obtain ⟨hgen, htried, hrunning, hstate, hid⟩ := hkeys ⟨k, hk⟩
  exact (RestrRegs.wr s hgen _).trans ((RestrRegs.wr _ htried _).trans ((RestrRegs.wr _ hrunning _).trans
    ((RestrRegs.wr _ hstate _).trans (RestrRegs.wr _ hid _))))

theorem RestrRegs.showSlots : RestrRegs s s.showSlots :=
  (RestrRegs.showSlot s (by decide)).trans (RestrRegs.showSlot _ (by decide))

theorem State.showSlot_state (k : Nat) (h : (s.hdr k).state < 16) :
    (s.showSlot k).rd (F.RESTR_SLOT_STAT_STATE k) = (s.hdr k).state :=
  (State.rd_wr_other _ _ (by simp only [Fld.key, F.RESTR_SLOT_STAT_STATE, F.RESTR_SLOT_ID_IMAGE_ID]; omega)).trans
    (State.rd_wr_fits _ _ h)

theorem State.showSlots_state {k : Nat} (hk : k < 2) (h : (s.hdr k).state < 16) :
    s.showSlots.rd (F.RESTR_SLOT_STAT_STATE k) = (s.hdr k).state := by
  have hother : ∀ u : State, (u.showSlot 1).rd (F.RESTR_SLOT_STAT_STATE 0) = u.rd (F.RESTR_SLOT_STAT_STATE 0) := fun u =>
    (State.rd_wr_other _ _ (by decide)).trans ((State.rd_wr_other _ _ (by decide)).trans
      ((State.rd_wr_other _ _ (by decide)).trans ((State.rd_wr_other _ _ (by decide)).trans (State.rd_wr_other _ _ (by decide)))))
  rw [State.showSlots_eq]
  obtain rfl | rfl : k = 0 ∨ k = 1 := by omega
  · rw [hother]
    exact s.showSlot_state 0 h
  · exact (s.showSlot 0).showSlot_state 1 h

end

section
variable (s : State) (k : Nat) (h : SlotHdr)

/-- A header as it is written: with the next COPY_SEQ. -/
def State.nextHdr : SlotHdr := { h with copySeq := (s.hdr k).copySeq + 1 }

theorem State.wrHdr_restr : (s.wrHdr k h).restr = { s.restr with hdrs := s.restr.hdrs.set k (s.nextHdr k h) } := rfl

theorem State.wrHdr_hdr (hk : k < s.restr.hdrs.length) : (s.wrHdr k h).hdr k = s.nextHdr k h := by
  rw [State.hdr, State.wrHdr_restr]
  simp [hk]

theorem State.wrHdr_hdr_other {j : Nat} (hj : j ≠ k) : (s.wrHdr k h).hdr j = s.hdr j := by
  rw [State.hdr, State.wrHdr_restr, State.hdr]
  simp [List.getElem?_set_ne hj.symm]

theorem RestrRegs.wrHdr : RestrRegs s (s.wrHdr k h) := fun g hg =>
  (RestrRegs.showSlots _ g hg).trans ((State.setRestr_rd _ _ g).trans (State.wrOctets_rd _ _ _ g))

/-- The header written, before the registers follow. -/
def State.hdrStored : State :=
  (s.wrOctets (slotBase k + 0x1000 * (((s.hdr k).copySeq + 1) % 2)) (hdrOctets (s.nextHdr k h))).setRestr
    { s.restr with hdrs := s.restr.hdrs.set k (s.nextHdr k h) }

theorem State.wrHdr_eq : s.wrHdr k h = (s.hdrStored k h).showSlots := rfl

theorem State.wrHdr_state (hk : k < 2) (hlen : s.restr.hdrs.length = 2) (hst : h.state < 16) :
    (s.wrHdr k h).rd (F.RESTR_SLOT_STAT_STATE k) = h.state := by
  have hhdr : (s.hdrStored k h).hdr k = s.nextHdr k h := by
    have hwritten := s.wrHdr_hdr k h (hlen ▸ hk)
    rw [State.hdr, State.wrHdr_eq, State.showSlots_restr] at hwritten
    exact hwritten
  have hstate : ((s.hdrStored k h).hdr k).state = h.state := by
    rw [hhdr]
    rfl
  rw [State.wrHdr_eq, State.showSlots_state _ hk (hstate ▸ hst), hstate]

theorem length_hdrOctets : (hdrOctets h).length = 88 := by simp [hdrOctets, o1, octetsBE]

/-- A header lies in the first 8,192 octets of its slot. -/
theorem State.wrHdr_rd8 {a : Nat} (ha : a < slotBase k ∨ slotBase k + 0x2000 ≤ a) : (s.wrHdr k h).rd8 a = s.rd8 a := by
  have hlen := length_hdrOctets (s.nextHdr k h)
  have hread : (s.hdrStored k h).mem.read a = s.mem.read a := by
    refine Memory.read_writeL_other _ _ _ _ ?_
    rw [hlen]
    omega
  rw [State.rd8, State.wrHdr_eq, State.showSlots_mem, hread]
  rfl

end

/-! ## RESTR_CMD -/

section
variable (req : Fin 36) {s : State} (hon : s.blockOn bRESTR = true)
include hon

/-- A word at RESTR_CMD whose KEY is right and whose OP is `op`. -/
theorem State.rowWrite_restrCmd {op : Nat} (hop : op ∈ [1, 2, 3, 4, 5]) :
    s.rowWrite req 0x40150010 (0x5253 * 2 ^ 16 + op) WriteMore.none =
      (s.restrCmd op).2.answer req 0x40150010 (s.restrCmd op).1 0 := by
  have hword : ∀ o ∈ [1, 2, 3, 4, 5], (regsRestr[2].written.all fun f =>
      chkField f.chk f.width (bits (0x5253 * 2 ^ 16 + o) f.lo f.width) == (true, true)) = true ∧
        bits (0x5253 * 2 ^ 16 + o) 0 4 = o := by decide
  obtain ⟨hchk, hbits⟩ := hword op hop
  have hact : s.regAct req bRESTR 0x10 0 (0x5253 * 2 ^ 16 + op) WriteMore.none =
      s.restrCmd (bits (0x5253 * 2 ^ 16 + op) 0 4) := rfl
  rw [hbits] at hact
  rw [← hact]
  exact s.rowWrite_act (req := req) (a := 0x40150010) (State.addrUp_restr hon (by decide)) (by decide)
    (b := bRESTR) (off := 0x10) (r := regsRestr[2]) (ix := []) (by decide) (by decide) (by decide) (by decide) hchk rfl rfl
    (by decide) (by decide)

theorem exec_restrArm : exec (.restrArm req 0x5253) s =
    .next (s.ended (s.restrArm.2.answer req 0x40150010 s.restrArm.1 0)) :=
  congrArg (finish s) (State.rowWrite_restrCmd req hon (op := 1) (by decide))

theorem exec_restrDisarm : exec (.restrDisarm req 0x5253) s =
    .next (s.ended (s.restrDisarm.2.answer req 0x40150010 s.restrDisarm.1 0)) :=
  congrArg (finish s) (State.rowWrite_restrCmd req hon (op := 2) (by decide))

theorem exec_restrConfirm : exec (.restrConfirm req 0x5253) s =
    .next (s.ended (s.restrConfirm.2.answer req 0x40150010 s.restrConfirm.1 0)) :=
  congrArg (finish s) (State.rowWrite_restrCmd req hon (op := 3) (by decide))

theorem exec_restrVerify : exec (.restrVerify req 0x5253) s =
    .next (s.ended (s.restrVerify.2.answer req 0x40150010 s.restrVerify.1 0)) :=
  congrArg (finish s) (State.rowWrite_restrCmd req hon (op := 4) (by decide))

theorem exec_restrErase : exec (.restrErase req 0x5253) s =
    .next (s.ended (s.restrErase.2.answer req 0x40150010 s.restrErase.1 0)) :=
  congrArg (finish s) (State.rowWrite_restrCmd req hon (op := 5) (by decide))

end

/-- The state after a command of RESTR_CMD whose effect is `u`. -/
def State.restrEnded (s u : State) (req op st : Nat) : State :=
  s.ended ((u.restrDone op st).2.answer req 0x40150010 (u.restrDone op st).1 0)

section
variable (s u : State) (req op st : Nat)

theorem State.restrEnded_restr : (s.restrEnded u req op st).restr = u.restr := by
  rw [State.restrEnded, State.ended_restr, State.answer, State.emit_restr]
  rfl

theorem State.restrEnded_hdr (k : Nat) : (s.restrEnded u req op st).hdr k = u.hdr k := by
  rw [State.hdr, State.restrEnded_restr, State.hdr]

theorem State.restrEnded_tgt (k : Nat) : (s.restrEnded u req op st).tgt k = u.tgt k := by
  rw [State.tgt, State.restrEnded_restr, State.tgt]

theorem State.restrEnded_rd8 (a : Nat) : (s.restrEnded u req op st).rd8 a = u.rd8 a := State.ended_rd8 _ _ a

theorem State.restrEnded_rd {g : Fld} (hg : notRun g.key) (hop : g.key ≠ F.RESTR_CMD_STAT_OP.key)
    (hst : g.key ≠ F.RESTR_CMD_STAT_STATUS.key) : (s.restrEnded u req op st).rd g = u.rd g := by
  rw [State.restrEnded, State.ended_rd _ _ hg, State.answer_rd, State.restrDone, State.rd_wr_other _ _ hst,
    State.rd_wr_other _ _ hop]

theorem State.restrEnded_stat (hop : op < 16) (hst : st < 256) :
    (s.restrEnded u req op st).rd F.RESTR_CMD_STAT_OP = op ∧ (s.restrEnded u req op st).rd F.RESTR_CMD_STAT_STATUS = st := by
  constructor
  · rw [State.restrEnded, State.ended_rd _ _ (Fld.notRun (by decide)), State.answer_rd, State.restrDone,
      State.rd_wr_other _ _ (by decide)]
    exact State.rd_wr_fits _ _ hop
  · rw [State.restrEnded, State.ended_rd _ _ (Fld.notRun (by decide)), State.answer_rd, State.restrDone]
    exact State.rd_wr_fits _ _ hst

variable {s u}

theorem State.restrEnded_blocks (h : RestrRegs s u) : BlocksKept [bRESTR] s (s.restrEnded u req op st) := fun g hg hb => by
  have hout := hb bRESTR (List.mem_singleton_self _)
  rw [State.restrEnded_rd _ _ _ _ _ hg (key_ne_of_inBlock hout (by decide)) (key_ne_of_inBlock hout (by decide)), h g hout]

theorem State.restrEnded_regs (h : ∀ g, u.rd g = s.rd g) :
    RegsKept [F.RESTR_CMD_STAT_OP, F.RESTR_CMD_STAT_STATUS] s (s.restrEnded u req op st) := fun g hg hne => by
  rw [State.restrEnded_rd _ _ _ _ _ hg (hne _ (by simp)) (hne _ (by simp)), h g]

theorem State.restrEnded_mem (h : u.mem = s.mem) : MemKept s (s.restrEnded u req op st) := fun a => by
  rw [State.restrEnded_rd8, State.rd8, h, State.rd8]

end

/-- What a refused command leaves. -/
theorem restrRefused (s : State) (req op : Nat) (hop : op < 16) :
    (s.restrEnded s req op stBAD).restr = s.restr ∧ (s.restrEnded s req op stBAD).rd F.RESTR_CMD_STAT_OP = op ∧
      (s.restrEnded s req op stBAD).rd F.RESTR_CMD_STAT_STATUS = stBAD ∧
      RegsKept [F.RESTR_CMD_STAT_OP, F.RESTR_CMD_STAT_STATUS] s (s.restrEnded s req op stBAD) ∧
      BlocksKept [bRESTR] s (s.restrEnded s req op stBAD) ∧ MemKept s (s.restrEnded s req op stBAD) := by
  obtain ⟨hshown, hstatus⟩ := State.restrEnded_stat s s req op stBAD hop (by decide)
  exact ⟨State.restrEnded_restr .., hshown, hstatus, State.restrEnded_regs req op stBAD fun _ => rfl,
    State.restrEnded_blocks req op stBAD (RestrRegs.refl s), State.restrEnded_mem req op stBAD rfl⟩

/-! ## ARM, DISARM (R474) -/

theorem State.inactive_lt (s : State) : s.inactive < 2 := by
  unfold State.inactive
  omega

/-- The header an ARM writes. -/
def State.armedHdr (s : State) : SlotHdr :=
  { s.hdr s.inactive with
    state := 3
    area := match s.confirmedSlot with
      | some c => 1 - (s.hdr c).area
      | none => 0
    actSec := s.rd64 F.RESTR_ACT_TIME_LO_SEC F.RESTR_ACT_TIME_HI_SEC }

section
variable (req : Fin 36) {s : State} (hon : s.blockOn bRESTR = true) (hflash : s.flashOn = true)
include hon

/-- A refused ARM, with the answer BAD. -/
theorem restrArm_refused (h2 : (s.hdr s.inactive).state ≠ 2) (h7 : (s.hdr s.inactive).state ≠ 7)
    (h8 : (s.hdr s.inactive).state ≠ 8) :
    ∃ t, exec (.restrArm req 0x5253) s = .next t ∧ t.restr = s.restr ∧ t.rd F.RESTR_CMD_STAT_OP = 1 ∧
      t.rd F.RESTR_CMD_STAT_STATUS = stBAD ∧ RegsKept [F.RESTR_CMD_STAT_OP, F.RESTR_CMD_STAT_STATUS] s t ∧
      MemKept s t := by
  have heffect : s.restrArm = s.restrDone 0x1 stBAD := if_neg (by simp [h2, h7, h8])
  obtain ⟨hrestr, hop, hst, hregs, -, hmem⟩ := restrRefused s req 1 (by decide)
  refine ⟨_, exec_restrArm req hon, ?_⟩
  rw [heffect]
  exact ⟨hrestr, hop, hst, hregs, hmem⟩

variable (hlen : s.restr.hdrs.length = 2)
include hflash hlen

theorem restrArm_arms (h : (s.hdr s.inactive).state = 2 ∨ (s.hdr s.inactive).state = 7 ∨ (s.hdr s.inactive).state = 8) :
    ∃ t, exec (.restrArm req 0x5253) s = .next t ∧ (t.hdr s.inactive).state = 3 ∧
      (t.hdr s.inactive).actSec = s.rd64 F.RESTR_ACT_TIME_LO_SEC F.RESTR_ACT_TIME_HI_SEC ∧
      t.rd (F.RESTR_SLOT_STAT_STATE s.inactive) = 3 ∧ t.rd F.RESTR_CMD_STAT_OP = 1 ∧
      t.rd F.RESTR_CMD_STAT_STATUS = stOK ∧ BlocksKept [bRESTR] s t ∧
      ∀ a, a < slotBase s.inactive ∨ slotBase s.inactive + 0x2000 ≤ a → t.rd8 a = s.rd8 a := by
  have hk := s.inactive_lt
  have hstate : [2, 7, 8].contains (s.hdr s.inactive).state = true := by
    rcases h with h | h | h <;> rw [h] <;> rfl
  have heffect : s.restrArm = (s.wrHdr s.inactive s.armedHdr).restrDone 0x1 stOK := if_pos ⟨hflash, hstate⟩
  obtain ⟨hop, hst⟩ := State.restrEnded_stat s (s.wrHdr s.inactive s.armedHdr) req 1 stOK (by decide) (by decide)
  have hhdr := s.wrHdr_hdr s.inactive s.armedHdr (hlen ▸ hk)
  refine ⟨_, exec_restrArm req hon, ?_⟩
  rw [heffect]
  change ((s.restrEnded (s.wrHdr s.inactive s.armedHdr) req 1 stOK).hdr s.inactive).state = 3 ∧ _
  refine ⟨?_, ?_, ?_, hop, hst, State.restrEnded_blocks req 1 stOK (RestrRegs.wrHdr s _ _), fun a ha => ?_⟩
  · rw [State.restrEnded_hdr, hhdr]
    rfl
  · exact (congrArg SlotHdr.actSec ((State.restrEnded_hdr ..).trans hhdr)).trans rfl
  · refine (State.restrEnded_rd s _ req 1 stOK (Fld.notRun ?_) ?_ ?_).trans
      (s.wrHdr_state _ _ hk hlen (show 3 < 16 by decide))
    · simp only [F.RESTR_SLOT_STAT_STATE]; omega
    · simp only [Fld.key, F.RESTR_SLOT_STAT_STATE, F.RESTR_CMD_STAT_OP]; omega
    · simp only [Fld.key, F.RESTR_SLOT_STAT_STATE, F.RESTR_CMD_STAT_STATUS]; omega
  · exact (State.restrEnded_rd8 ..).trans (s.wrHdr_rd8 _ _ ha)

theorem restrDisarm_disarms (h : (s.hdr s.inactive).state = 3) :
    ∃ t, exec (.restrDisarm req 0x5253) s = .next t ∧ (t.hdr s.inactive).state = 2 ∧
      t.rd F.RESTR_CMD_STAT_OP = 2 ∧ t.rd F.RESTR_CMD_STAT_STATUS = stOK ∧ BlocksKept [bRESTR] s t ∧
      ∀ a, a < slotBase s.inactive ∨ slotBase s.inactive + 0x2000 ≤ a → t.rd8 a = s.rd8 a := by
  have heffect : s.restrDisarm = (s.wrSlotState s.inactive 2).restrDone 0x2 stOK := if_pos ⟨hflash, h⟩
  obtain ⟨hop, hst⟩ := State.restrEnded_stat s (s.wrSlotState s.inactive 2) req 2 stOK (by decide) (by decide)
  refine ⟨_, exec_restrDisarm req hon, ?_⟩
  rw [heffect]
  change ((s.restrEnded (s.wrSlotState s.inactive 2) req 2 stOK).hdr s.inactive).state = 2 ∧ _
  refine ⟨?_, hop, hst, State.restrEnded_blocks req 2 stOK (RestrRegs.wrHdr s _ _), fun a ha => ?_⟩
  · rw [State.restrEnded_hdr, State.wrSlotState, State.wrHdr_hdr _ _ _ (hlen ▸ s.inactive_lt)]
    rfl
  · exact (State.restrEnded_rd8 ..).trans (s.wrHdr_rd8 _ _ ha)

end

/-! ## CONFIRM (R479) -/

section
variable (req : Fin 36) {s : State} (hon : s.blockOn bRESTR = true) (hflash : s.flashOn = true)
include hon

theorem restrConfirm_refused (h : (s.hdr s.restr.running).state ≠ 4) :
    ∃ t, exec (.restrConfirm req 0x5253) s = .next t ∧ t.restr = s.restr ∧ t.rd F.RESTR_CMD_STAT_OP = 3 ∧
      t.rd F.RESTR_CMD_STAT_STATUS = stBAD ∧ BlocksKept [bRESTR] s t ∧ MemKept s t := by
  have heffect : s.restrConfirm = s.restrDone 0x3 stBAD := if_neg fun hc => h hc.2
  obtain ⟨hrestr, hop, hst, -, hkept⟩ := restrRefused s req 3 (by decide)
  refine ⟨_, exec_restrConfirm req hon, ?_⟩
  rw [heffect]
  exact ⟨hrestr, hop, hst, hkept⟩

/-- The version pointer switched from slot `c` to the running slot. -/
def State.switched (s : State) (c : Nat) : State :=
  (s.wrHdr s.restr.running { s.hdr s.restr.running with state := 5, gen := (s.hdr c).gen + 1 }).wrSlotState c 6

/-- The confirm window closed. -/
def State.windowClosed (s : State) : State :=
  (s.setRestr { s.restr with window := none }).wr F.RESTR_CONFIRM_LEFT_MIN 0

omit hon
theorem State.windowClosed_hdr (u : State) (k : Nat) : u.windowClosed.hdr k = u.hdr k := rfl

theorem State.windowClosed_window (u : State) : u.windowClosed.restr.window = none := rfl

theorem State.windowClosed_left (u : State) : u.windowClosed.rd F.RESTR_CONFIRM_LEFT_MIN = 0 := State.rd_wr_fits _ _ (by decide)

theorem RestrRegs.windowClosed (u : State) : RestrRegs u u.windowClosed := fun g hg =>
  (State.rd_wr_other _ _ (key_ne_of_inBlock hg (by decide))).trans (State.setRestr_rd _ _ g)

theorem RestrRegs.switched (u : State) (c : Nat) : RestrRegs u (u.switched c) := by
  unfold State.switched State.wrSlotState
  exact (RestrRegs.wrHdr u _ _).trans (RestrRegs.wrHdr _ _ _)

/-- The headers after the switch. -/
theorem State.switched_hdrs (hlen : s.restr.hdrs.length = 2) (hrunning : s.restr.running ≤ 1) {c : Nat} (hc : c < 2)
    (hne : s.restr.running ≠ c) : ((s.switched c).hdr s.restr.running).state = 5 ∧
      ((s.switched c).hdr s.restr.running).gen = (s.hdr c).gen + 1 ∧ ((s.switched c).hdr c).state = 6 := by
  have hrun := s.wrHdr_hdr s.restr.running { s.hdr s.restr.running with state := 5, gen := (s.hdr c).gen + 1 } (by omega)
  have hwlen : (s.wrHdr s.restr.running { s.hdr s.restr.running with state := 5, gen := (s.hdr c).gen + 1 }).restr.hdrs.length =
      2 := by
    rw [State.wrHdr_restr, ← hlen]
    exact List.length_set ..
  rw [State.switched, State.wrSlotState]
  generalize s.wrHdr s.restr.running { s.hdr s.restr.running with state := 5, gen := (s.hdr c).gen + 1 } = w at hrun hwlen ⊢
  rw [State.wrHdr_hdr_other _ _ _ hne, hrun, State.wrHdr_hdr _ _ _ (by omega)]
  exact ⟨rfl, rfl, rfl⟩

include hon hflash

theorem restrConfirm_confirms (hlen : s.restr.hdrs.length = 2) (hrunning : s.restr.running ≤ 1) (c : Nat)
    (h : (s.hdr s.restr.running).state = 4) (hc : s.confirmedSlot = some c) :
    ∃ t, exec (.restrConfirm req 0x5253) s = .next t ∧ (t.hdr s.restr.running).state = 5 ∧
      (t.hdr s.restr.running).gen = (s.hdr c).gen + 1 ∧ (t.hdr c).state = 6 ∧ t.restr.window = none ∧
      t.rd F.RESTR_CONFIRM_LEFT_MIN = 0 ∧ t.rd F.RESTR_CMD_STAT_OP = 3 ∧ t.rd F.RESTR_CMD_STAT_STATUS = stOK ∧
      BlocksKept [bRESTR] s t := by
  have hfound := List.find?_some hc
  have hc2 : c < 2 := List.mem_range.mp (List.mem_of_find?_eq_some hc)
  have hne : s.restr.running ≠ c := fun he => by
    subst he
    simp [h] at hfound
  have heffect : s.restrConfirm = (s.switched c).windowClosed.restrDone 0x3 stOK := by
    rw [State.restrConfirm, if_pos ⟨hflash, h⟩, hc]
    rfl
  obtain ⟨hstate, hgen, hold⟩ := State.switched_hdrs hlen hrunning hc2 hne
  have hregs : RestrRegs s (s.switched c).windowClosed :=
    (RestrRegs.switched s c).trans (RestrRegs.windowClosed _)
  obtain ⟨hop, hst⟩ := State.restrEnded_stat s (s.switched c).windowClosed req 3 stOK (by decide) (by decide)
  refine ⟨_, exec_restrConfirm req hon, ?_⟩
  rw [heffect]
  change ((s.restrEnded (s.switched c).windowClosed req 3 stOK).hdr s.restr.running).state = 5 ∧
    ((s.restrEnded (s.switched c).windowClosed req 3 stOK).hdr s.restr.running).gen = _ ∧
    ((s.restrEnded (s.switched c).windowClosed req 3 stOK).hdr c).state = 6 ∧
    (s.restrEnded (s.switched c).windowClosed req 3 stOK).restr.window = none ∧
    (s.restrEnded (s.switched c).windowClosed req 3 stOK).rd F.RESTR_CONFIRM_LEFT_MIN = 0 ∧ _
  rw [State.restrEnded_hdr, State.restrEnded_hdr, State.restrEnded_restr, State.windowClosed_hdr, State.windowClosed_hdr,
    State.restrEnded_rd _ _ _ _ _ (Fld.notRun (by decide)) (by decide) (by decide)]
  exact ⟨hstate, hgen, hold, State.windowClosed_window _, State.windowClosed_left _, hop, hst,
    State.restrEnded_blocks req 3 stOK hregs⟩

end

/-! ## VERIFY (R469) -/

theorem RestrRegs.setTgt (s : State) (k : Nat) (x : FeedTarget) : RestrRegs s (s.setTgt k x) := fun _ _ => rfl

/-- A slot target is left as it is, or shown COMPLETE in its header. -/
theorem State.completeTgt_cases (s : State) : s.completeTgt 0 = s ∨
    ∃ h, s.completeTgt 0 = (s.setTgt 0 { s.tgt 0 with state := 2 }).wrHdr s.inactive h := by
  by_cases hwhole : 0 < s.nBlocks 0 ∧ (s.tgt 0).blocks % 2 ^ s.nBlocks 0 = 2 ^ s.nBlocks 0 - 1
  · exact Or.inr ⟨_, (if_pos hwhole).trans (if_pos rfl)⟩
  · exact Or.inl (if_neg hwhole)

theorem State.completeTgt_tgt (s : State) : ∃ st, (s.completeTgt 0).tgt 0 = { s.tgt 0 with state := st } := by
  rcases s.completeTgt_cases with he | ⟨h, he⟩
  · exact ⟨(s.tgt 0).state, by rw [he]⟩
  · refine ⟨2, ?_⟩
    rw [he, State.tgt, State.wrHdr_restr]
    exact State.setTgt_tgt _ _ _

theorem RestrRegs.completeTgt (s : State) : RestrRegs s (s.completeTgt 0) := by
  rcases s.completeTgt_cases with he | ⟨h, he⟩
  · rw [he]
    exact RestrRegs.refl s
  · rw [he]
    exact (RestrRegs.setTgt s 0 _).trans (RestrRegs.wrHdr _ _ _)

/-- The slot with every block of its image found good. -/
def State.blocksFound (s : State) : State :=
  s.setTgt 0 { s.tgt 0 with
    state := 1
    imageId := mf (s.manifest 0) 8 4
    manifest := 3
    ok := true
    blocks := 2 ^ mf (s.manifest 0) 6 2 - 1 }

/-- A good image shown. -/
def State.imageFound (s : State) : State :=
  if s.blocksFound.tgtState 0 = 1 then s.blocksFound.completeTgt 0
  else s.blocksFound.setTgt 0 { s.blocksFound.tgt 0 with state := 2 }

theorem State.imageFound_tgt (s : State) : (s.imageFound.tgt 0).ok = true ∧
    (s.imageFound.tgt 0).imageId = mf (s.manifest 0) 8 4 ∧
    (s.imageFound.tgt 0).blocks = 2 ^ mf (s.manifest 0) 6 2 - 1 := by
  have hfound : s.blocksFound.tgt 0 = { s.tgt 0 with
      state := 1
      imageId := mf (s.manifest 0) 8 4
      manifest := 3
      ok := true
      blocks := 2 ^ mf (s.manifest 0) 6 2 - 1 } := State.setTgt_tgt _ _ _
  have hstate : ∃ st, s.imageFound.tgt 0 = { s.blocksFound.tgt 0 with state := st } := by
    unfold State.imageFound
    split
    · exact State.completeTgt_tgt _
    · exact ⟨2, State.setTgt_tgt _ _ _⟩
  obtain ⟨st, hst⟩ := hstate
  rw [hst, hfound]
  exact ⟨rfl, rfl, rfl⟩

theorem RestrRegs.imageFound (s : State) : RestrRegs s s.imageFound := by
  have hfound := RestrRegs.setTgt s 0 (s.blocksFound.tgt 0)
  unfold State.imageFound
  split
  · exact fun g hg => RestrRegs.completeTgt s.blocksFound g hg
  · exact fun _ _ => rfl

/-- A bad image: the slot is LOADING again. -/
def State.imageBad (s : State) : State := if s.tgtState 0 = 1 then s else s.wrSlotState s.inactive 1

theorem State.imageBad_spec (s : State) (hlen : s.restr.hdrs.length = 2) : s.imageBad.restr.targets = s.restr.targets ∧
    s.imageBad.tgtState 0 = 1 ∧ RestrRegs s s.imageBad := by
  unfold State.imageBad
  split
  next h => exact ⟨rfl, h, RestrRegs.refl s⟩
  next h =>
    have hhdr := s.wrHdr_hdr s.inactive { s.hdr s.inactive with state := 1 } (hlen ▸ s.inactive_lt)
    have hinactive : (s.wrSlotState s.inactive 1).inactive = s.inactive := by
      rw [State.inactive, State.wrSlotState, State.wrHdr_restr, State.inactive]
    refine ⟨?_, ?_, RestrRegs.wrHdr s _ _⟩
    · rw [State.wrSlotState, State.wrHdr_restr]
    · rw [State.tgtState, if_pos rfl, hinactive, State.wrSlotState, hhdr]
      rfl

theorem restrVerify_clause (req : Fin 36) {s : State} (hon : s.blockOn bRESTR = true) (hflash : s.flashOn = true)
    (hlen : s.restr.hdrs.length = 2) (h : s.tgtState 0 = 1 ∨ s.tgtState 0 = 2) :
    ∃ t, exec (.restrVerify req 0x5253) s = .next t ∧ t.rd F.RESTR_CMD_STAT_OP = 4 ∧
      (match manifestOk (s.manifest 0) && s.allBlocksOk with
        | true => t.rd F.RESTR_CMD_STAT_STATUS = stOK ∧ (t.tgt 0).ok = true ∧ (t.tgt 0).imageId = mf (s.manifest 0) 8 4 ∧
          (t.tgt 0).blocks = 2 ^ mf (s.manifest 0) 6 2 - 1
        | false => t.rd F.RESTR_CMD_STAT_STATUS = stBAD ∧ t.restr.targets = s.restr.targets ∧ t.tgtState 0 = 1) ∧
      BlocksKept [bRESTR] s t := by
  have hstate : [1, 2, 6, 7, 8].contains (s.tgtState 0) = true := by
    rcases h with h | h <;> rw [h] <;> rfl
  have heffect : s.restrVerify = if manifestOk (s.manifest 0) && s.allBlocksOk then s.imageFound.restrDone 0x4 stOK
      else s.imageBad.restrDone 0x4 stBAD := by
    rw [State.restrVerify, if_pos ⟨hflash, hstate⟩]
    simp only [Bool.and_eq_true]
    rfl
  cases hgood : manifestOk (s.manifest 0) && s.allBlocksOk with
  | true =>
    have hexec : exec (.restrVerify req 0x5253) s = .next (s.restrEnded s.imageFound req 4 stOK) := by
      rw [exec_restrVerify req hon, heffect, hgood]
      rfl
    obtain ⟨hop, hst⟩ := State.restrEnded_stat s s.imageFound req 4 stOK (by decide) (by decide)
    have htgt := State.restrEnded_tgt s s.imageFound req 4 stOK 0
    obtain ⟨hok, hid, hblocks⟩ := s.imageFound_tgt
    exact ⟨_, hexec, hop, ⟨hst, (congrArg FeedTarget.ok htgt).trans hok, (congrArg FeedTarget.imageId htgt).trans hid,
      (congrArg FeedTarget.blocks htgt).trans hblocks⟩, State.restrEnded_blocks req 4 stOK (RestrRegs.imageFound s)⟩
  | false =>
    have hexec : exec (.restrVerify req 0x5253) s = .next (s.restrEnded s.imageBad req 4 stBAD) := by
      rw [exec_restrVerify req hon, heffect, hgood]
      rfl
    obtain ⟨hop, hst⟩ := State.restrEnded_stat s s.imageBad req 4 stBAD (by decide) (by decide)
    have hrestr := State.restrEnded_restr s s.imageBad req 4 stBAD
    obtain ⟨htargets, hloading, hregs⟩ := s.imageBad_spec hlen
    have htgt : (s.restrEnded s.imageBad req 4 stBAD).tgtState 0 = s.imageBad.tgtState 0 := by
      rw [State.tgtState, if_pos rfl, State.restrEnded_hdr, State.inactive, hrestr, State.tgtState, if_pos rfl, State.inactive]
    exact ⟨_, hexec, hop, ⟨hst, (congrArg RestrState.targets hrestr).trans htargets, htgt.trans hloading⟩,
      State.restrEnded_blocks req 4 stBAD hregs⟩

/-! ## ERASE (R466, R469) -/

theorem Memory.read_clear_in (m : Memory) {a n c : Nat} (h : a ≤ c ∧ c < a + n) : (m.clear a n).read c = memDefault c := by
  unfold Memory.read Memory.clear
  rw [AMap.find_drop m (p := fun k => decide (a ≤ k ∧ k < a + n)) (decide_eq_true h)]
  rfl

theorem Memory.read_clear_out (m : Memory) {a n c : Nat} (h : ¬ (a ≤ c ∧ c < a + n)) : (m.clear a n).read c = m.read c := by
  unfold Memory.read Memory.clear AMap.drop
  rw [AMap.find_filter_keep m _ c fun _ => by simp only [h, decide_false, Bool.not_false]]

section
variable (s : State)

/-- The slot's flash erased, before its header follows. -/
def State.slotCleared : State :=
  ({ s with mem := s.mem.clear (slotBase s.inactive) 0x08000000 }).setTgt 0
    { FeedTarget.empty with forwarded := (s.tgt 0).forwarded }

theorem State.eraseTgt_slot : s.eraseTgt 0 =
    s.slotCleared.wrHdr s.inactive { SlotHdr.zero with copySeq := (s.hdr s.inactive).copySeq } := rfl

theorem State.slotCleared_restr : s.slotCleared.restr =
    { s.restr with targets := s.restr.targets.set 0 { FeedTarget.empty with forwarded := (s.tgt 0).forwarded } } := rfl

theorem State.eraseTgt_tgt : (s.eraseTgt 0).tgt 0 = { FeedTarget.empty with forwarded := (s.tgt 0).forwarded } := by
  rw [State.eraseTgt_slot, State.tgt, State.wrHdr_restr]
  exact State.setTgt_tgt _ _ _

theorem RestrRegs.eraseTgt : RestrRegs s (s.eraseTgt 0) := by
  rw [State.eraseTgt_slot]
  exact fun g hg => (RestrRegs.wrHdr s.slotCleared _ _ g hg).trans rfl

theorem State.eraseTgt_hdr (hlen : s.restr.hdrs.length = 2) : ((s.eraseTgt 0).hdr s.inactive).state = 0 := by
  rw [State.eraseTgt_slot, State.wrHdr_hdr _ _ _ (by rw [State.slotCleared_restr]; exact hlen ▸ s.inactive_lt)]
  rfl

theorem State.eraseTgt_rd8 {a : Nat} (h : a < slotBase s.inactive ∨ slotBase s.inactive + 0x2000 ≤ a) :
    (s.eraseTgt 0).rd8 a = ((s.mem.clear (slotBase s.inactive) 0x08000000).read a).toNat := by
  rw [State.eraseTgt_slot, State.wrHdr_rd8 _ _ _ h]
  rfl

variable (req : Fin 36) {s} (hon : s.blockOn bRESTR = true)
include hon

theorem restrErase_refused (h : (s.hdr s.inactive).state = 5) :
    ∃ t, exec (.restrErase req 0x5253) s = .next t ∧ t.restr = s.restr ∧
      t.rd F.RESTR_CMD_STAT_OP = 5 ∧ t.rd F.RESTR_CMD_STAT_STATUS = stBAD ∧ BlocksKept [bRESTR] s t ∧ MemKept s t := by
  have heffect : s.restrErase = s.restrDone 0x5 stBAD := if_neg fun hc => hc.2 h
  obtain ⟨hrestr, hop, hst, -, hkept⟩ := restrRefused s req 5 (by decide)
  refine ⟨_, exec_restrErase req hon, ?_⟩
  rw [heffect]
  exact ⟨hrestr, hop, hst, hkept⟩

theorem restrErase_erases (hflash : s.flashOn = true) (hlen : s.restr.hdrs.length = 2) (h : (s.hdr s.inactive).state ≠ 5) :
    ∃ t, exec (.restrErase req 0x5253) s = .next t ∧ (t.hdr s.inactive).state = 0 ∧
      t.tgt 0 = { FeedTarget.empty with forwarded := (s.tgt 0).forwarded } ∧
      (∀ a, slotBase s.inactive + 0x2000 ≤ a → a < slotBase s.inactive + 0x08000000 → t.rd8 a = 0xFF) ∧
      (∀ a, a < slotBase s.inactive ∨ slotBase s.inactive + 0x08000000 ≤ a → t.rd8 a = s.rd8 a) ∧
      t.rd F.RESTR_CMD_STAT_OP = 5 ∧ t.rd F.RESTR_CMD_STAT_STATUS = stOK ∧ BlocksKept [bRESTR] s t := by
  have hk := s.inactive_lt
  have heffect : s.restrErase = (s.eraseTgt 0).restrDone 0x5 stOK := if_pos ⟨hflash, h⟩
  obtain ⟨hop, hst⟩ := State.restrEnded_stat s (s.eraseTgt 0) req 5 stOK (by decide) (by decide)
  refine ⟨s.restrEnded (s.eraseTgt 0) req 5 stOK, ?_, ?_, ?_, fun a hlo hhi => ?_, fun a ha => ?_, hop, hst,
    State.restrEnded_blocks req 5 stOK (RestrRegs.eraseTgt s)⟩
  · rw [exec_restrErase req hon, heffect]
    rfl
  · rw [State.restrEnded_hdr, State.eraseTgt_hdr s hlen]
  · rw [State.restrEnded_tgt, State.eraseTgt_tgt]
  · rw [State.restrEnded_rd8, State.eraseTgt_rd8 s (Or.inr hlo), Memory.read_clear_in _ (by omega), memDefault,
      if_pos (by simp only [slotBase] at hlo hhi; omega)]
    rfl
  · rw [State.restrEnded_rd8, State.eraseTgt_rd8 s (by omega), Memory.read_clear_out _ (by omega)]
    rfl

end

/-! ## Activation and the confirm window (R475, R479) -/

theorem moduleReset_ended (s u : State) : let t := s.ended (u.moduleReset 6)
    t.mode = 0 ∧ t.slot.released = true ∧ t.rd F.SYS_RESET_CAUSE_CAUSE = 6 ∧ ∀ d, d < 50 → t.isOn d = false := by
  obtain ⟨hreleased, -, hcause, hmode, hoff⟩ := u.moduleReset_spec 6 (by decide)
  refine ⟨?_, ?_, ?_, fun d hd => ?_⟩
  · rw [State.mode, State.ended_rd _ _ (Fld.notRun (by decide)), hmode]
  · rw [State.ended_slot, hreleased]
  · rw [State.ended_rd _ _ (Fld.notRun (by decide)), hcause]
  · rw [State.ended_isOn s _ hd, hoff d hd]

theorem activation_resets (s : State) (h : s.activationDue = true) : ∃ t, exec .activation s = .next t ∧ t.mode = 0 ∧
    t.slot.released = true ∧ t.rd F.SYS_RESET_CAUSE_CAUSE = 6 ∧ ∀ d, d < 50 → t.isOn d = false := by
  obtain ⟨u, hu⟩ : ∃ u : State, s.activation = u.moduleReset 6 := ⟨_, if_pos h⟩
  refine ⟨_, finish_ended s s.activation, ?_⟩
  rw [hu]
  exact moduleReset_ended s u

theorem confirmWindowClose_clauses (n o m : Nat) (s : State) (hwindow : s.restr.window = some (o, m))
    (hstate : (s.hdr s.restr.running).state = 4) :
    (m ≤ n → ∃ t, exec (.confirmWindowClose n) s = .next t ∧ t.mode = 0 ∧
      t.rd F.SYS_RESET_CAUSE_CAUSE = 6 ∧ ∀ d, d < 50 → t.isOn d = false) ∧
    (n < m → ∃ t, exec (.confirmWindowClose n) s = .next t ∧ t.restr = s.restr ∧
      RegsKept [] s t ∧ MemKept s t) := by
  constructor
  · intro hn
    have heffect : s.confirmClose n = ((s.wrSlotState s.restr.running 8).trialEnded 2).moduleReset 6 := by
      rw [State.confirmClose, hwindow]
      exact if_pos ⟨hstate, hn⟩
    obtain ⟨hmode, -, hrest⟩ := moduleReset_ended s ((s.wrSlotState s.restr.running 8).trialEnded 2)
    refine ⟨_, finish_ended s (s.confirmClose n), ?_⟩
    rw [heffect]
    exact ⟨hmode, hrest⟩
  · intro hn
    have heffect : s.confirmClose n = s := by
      rw [State.confirmClose, hwindow]
      exact if_neg fun h => absurd h.2 (by omega)
    refine ⟨_, finish_ended s (s.confirmClose n), ?_⟩
    rw [heffect]
    exact ⟨State.ended_restr _ _, State.ended_regsKept fun _ _ => rfl, State.ended_memKept rfl⟩

/-- Settles O56, command by command. -/
theorem trialCommands : Obligations.TrialCommands :=
  ⟨fun req _ hon hflash hlen hrunning =>
    ⟨restrArm_arms req hon hflash hlen, restrArm_refused req hon, restrDisarm_disarms req hon hflash hlen,
      restrConfirm_confirms req hon hflash hlen hrunning, restrConfirm_refused req hon,
      restrVerify_clause req hon hflash hlen, restrErase_erases req hon hflash hlen, restrErase_refused req hon⟩,
   activation_resets, confirmWindowClose_clauses⟩

end Sys2Proof.Machine
end

section
/-!
PROOFS. What the ring engines leave of the machine: frames sent and taken, cells freed and counted (R338 to R350).
-/
namespace Sys2Proof.Machine

/-! ## The frame -/

/-- What a path keeps beside its counts of cells: sequence numbers, transit buffer, probes, joining, the audit. -/
def RingPathState.core (r : RingPathState) : RingPathState :=
  { r with sent := [], rcvd := [], retSent := [], freed := [], lastTransit := [] }

/-- The state outside the registers, the ring paths and ports, and what was put out. -/
def State.offRing (s : State) : State :=
  { s with
    regs := [], out := [],
    ring := { s.ring with a := RingPathState.start, b := RingPathState.start, ports := [] } }

/-- From `s` to `t` the registers of `l`, the counts of cells and the associations of the ring ports may change, and frames
may be sent. -/
structure RingStep (l : List Fld) (s t : State) : Prop where
  rd : ∀ g : Fld, (∀ f ∈ l, g.key ≠ f.key) → t.rd g = s.rd g
  rest : t.offRing = s.offRing
  core : ∀ y, (t.path y).core = (s.path y).core
  good : ∀ p, (t.portSt p).good = (s.portSt p).good
  out : ∃ o, t.out = o ++ s.out

theorem State.setPath_path (s : State) (x y : Nat) (r : RingPathState) :
    (s.setPath x r).path y = if (x = 0 ↔ y = 0) then r else s.path y := by
  unfold State.setPath State.path
  by_cases hx : x = 0 <;> by_cases hy : y = 0 <;> simp [hx, hy]

@[simp] theorem State.setPath_path_same (s : State) (x : Nat) (r : RingPathState) : (s.setPath x r).path x = r := by
  rw [State.setPath_path, if_pos Iff.rfl]

theorem State.setPath_rd (s : State) (x : Nat) (r : RingPathState) (g : Fld) : (s.setPath x r).rd g = s.rd g := by
  unfold State.setPath
  split <;> rfl

theorem State.setPath_out (s : State) (x : Nat) (r : RingPathState) : (s.setPath x r).out = s.out := by
  unfold State.setPath
  split <;> rfl

theorem State.setPath_offRing (s : State) (x : Nat) (r : RingPathState) : (s.setPath x r).offRing = s.offRing := by
  unfold State.setPath
  split <;> rfl

theorem State.mem_of_offRing {s t : State} (h : t.offRing = s.offRing) : t.mem = s.mem := by
  change t.offRing.mem = s.offRing.mem
  rw [h]

theorem State.setPath_mem (s : State) (x : Nat) (r : RingPathState) : (s.setPath x r).mem = s.mem :=
  State.mem_of_offRing (s.setPath_offRing x r)

theorem State.setPath_ports (s : State) (x : Nat) (r : RingPathState) : (s.setPath x r).ring.ports = s.ring.ports := by
  unfold State.setPath
  split <;> rfl

theorem State.setPath_portSt (s : State) (x p : Nat) (r : RingPathState) : (s.setPath x r).portSt p = s.portSt p := by
  rw [State.portSt, State.setPath_ports, State.portSt]

theorem State.setPortSt_portSt_other (s : State) {p q : Nat} (r : RingPortState) (h : q ≠ p) :
    (s.setPortSt p r).portSt q = s.portSt q := by
  simp [State.portSt, State.setPortSt, List.getElem?_set_ne h.symm]

theorem State.setPortSt_portSt (s : State) {p : Nat} (r : RingPortState) (h : p < s.ring.ports.length) :
    (s.setPortSt p r).portSt p = r := by
  simp [State.portSt, State.setPortSt, h]

/-- A port's record replaced by one that agrees in `f` agrees in `f`, whether the port exists or not. -/
theorem State.setPortSt_kept {α : Type} (f : RingPortState → α) (s : State) (p q : Nat) {r : RingPortState}
    (h : f r = f (s.portSt p)) : f ((s.setPortSt p r).portSt q) = f (s.portSt q) := by
  by_cases hq : q = p
  · subst hq
    by_cases hlen : q < s.ring.ports.length
    · rw [s.setPortSt_portSt r hlen, h]
    · have hset : s.ring.ports.set q r = s.ring.ports := List.set_eq_of_length_le (by omega)
      simp only [State.portSt, State.setPortSt, hset]
  · rw [s.setPortSt_portSt_other r hq]

@[simp] theorem State.ended_path (s u : State) (x : Nat) : (s.ended u).path x = u.path x := by
  rw [State.path, State.ended_ring, State.path]

@[simp] theorem State.ended_portSt (s u : State) (p : Nat) : (s.ended u).portSt p = u.portSt p := by
  rw [State.portSt, State.ended_ring, State.portSt]

namespace RingStep

theorem refl (l : List Fld) (s : State) : RingStep l s s := ⟨fun _ _ => rfl, rfl, fun _ => rfl, fun _ => rfl, ⟨[], rfl⟩⟩

theorem trans {l : List Fld} {s t u : State} (h : RingStep l s t) (k : RingStep l t u) : RingStep l s u := by
  obtain ⟨o, ho⟩ := h.out
  obtain ⟨o', ho'⟩ := k.out
  exact ⟨fun g hg => (k.rd g hg).trans (h.rd g hg), k.rest.trans h.rest, fun y => (k.core y).trans (h.core y),
    fun p => (k.good p).trans (h.good p), ⟨o' ++ o, by rw [ho', ho, List.append_assoc]⟩⟩

theorem mono {l m : List Fld} {s t : State} (h : RingStep l s t) (hlm : ∀ f ∈ l, f ∈ m) : RingStep m s t :=
  ⟨fun g hg => h.rd g fun f hf => hg f (hlm f hf), h.rest, h.core, h.good, h.out⟩

section
variable {l : List Fld} {s t : State} (h : RingStep l s t)
include h

theorem kept {α : Type} (f : State → α) (hf : ∀ s : State, f s.offRing = f s) : f t = f s := by
  rw [← hf t, h.rest, hf]

theorem mem : t.mem = s.mem := h.kept State.mem fun _ => rfl
theorem peg : t.peg = s.peg := h.kept State.peg fun _ => rfl
theorem shadow : t.shadow = s.shadow := h.kept State.shadow fun _ => rfl
theorem sys : t.sys = s.sys := h.kept State.sys fun _ => rfl

theorem ofCore {α : Type} (y : Nat) (f : RingPathState → α) (hf : ∀ r : RingPathState, f r.core = f r) :
    f (t.path y) = f (s.path y) := by
  rw [← hf (t.path y), h.core y, hf]

theorem seqs (y : Nat) : (t.path y).seqs = (s.path y).seqs :=
  h.ofCore y RingPathState.seqs fun _ => rfl
theorem transit (y : Nat) : (t.path y).transit = (s.path y).transit :=
  h.ofCore y RingPathState.transit fun _ => rfl
theorem returned (y : Nat) : (t.path y).returned = (s.path y).returned :=
  h.ofCore y RingPathState.returned fun _ => rfl
theorem auditDue (y : Nat) : (t.path y).auditDue = (s.path y).auditDue :=
  h.ofCore y RingPathState.auditDue fun _ => rfl

theorem isSet {g : Fld} (hg : ∀ f ∈ l, g.key ≠ f.key) : t.isSet g = s.isSet g := by
  rw [State.isSet, h.rd g hg, State.isSet]

/-- What a command whose effect is such a step leaves of the registers and of memory. -/
theorem ended : RegsKept l s (s.ended t) ∧ MemKept s (s.ended t) :=
  ⟨State.ended_regsKept h.rd, State.ended_memKept h.mem⟩

theorem ended_mem : MemKept s (s.ended t) := State.ended_memKept h.mem

end

/-! ## The steps -/

section
variable (s : State)

theorem wr (f : Fld) (v : Nat) : RingStep [f] s (s.wr f v) :=
  ⟨fun _ hg => s.rd_wr_other v (hg f (List.mem_singleton_self f)), rfl, fun _ => rfl, fun _ => rfl, ⟨[], rfl⟩⟩

theorem ringCnt (x i : Nat) : RingStep [F.RING_CNT_COUNT x i] s (s.ringCnt x i) := wr s _ _

theorem setPath (x : Nat) {r : RingPathState} (hr : r.core = (s.path x).core) : RingStep [] s (s.setPath x r) := by
  refine ⟨fun g _ => s.setPath_rd x r g, s.setPath_offRing x r, fun y => ?_,
    fun p => congrArg RingPortState.good (s.setPath_portSt x p r), ⟨[], s.setPath_out x r⟩⟩
  rw [State.setPath_path]
  split
  next hxy =>
    rw [hr, State.path, State.path]
    simp only [hxy]
  next => rfl

theorem setPortSt (p : Nat) {r : RingPortState} (hr : r.good = (s.portSt p).good) : RingStep [] s (s.setPortSt p r) :=
  ⟨fun _ _ => rfl, rfl, fun _ => rfl, fun q => s.setPortSt_kept RingPortState.good p q hr, ⟨[], rfl⟩⟩

theorem emit (o : Output) : RingStep [] s (s.emit o) :=
  ⟨fun _ _ => rfl, rfl, fun _ => rfl, fun _ => rfl, ⟨[o], rfl⟩⟩

theorem drawPn (p : Nat) : RingStep [] s (s.drawPn p) := by
  unfold State.drawPn
  extract_lets r
  split
  · split
    · exact setPortSt s p rfl
    · exact setPortSt s p rfl
  · exact setPortSt s p rfl

theorem secTook (p an pn : Nat) : RingStep [] s (s.secTook p an pn) := by
  unfold State.secTook
  extract_lets r
  split
  · exact setPortSt s p rfl
  · split
    · exact setPortSt s p rfl
    · exact refl [] s

theorem ctlTook (p : Nat) (f : RingFrame) : RingStep [] s (s.ctlTook p f) := secTook s p _ _

theorem ringSend (p : Nat) (f : RingFrame) (bad : Bool) : RingStep [] s (s.ringSend p f bad) := by
  unfold State.ringSend
  split
  · exact (drawPn s p).trans (emit _ _)
  · exact refl [] s

theorem flood (x typ : Nat) (payload : List Byte) : RingStep [] s (s.flood x typ payload) :=
  (ringSend s _ _ _).trans (ringSend _ _ _ _)

theorem sendCredit (x : Nat) (reset : Bool) : RingStep [] s (s.sendCredit x reset) := by
  unfold State.sendCredit
  extract_lets r pl
  have hfreed : RingStep [] s (s.setPath x { r with freed := [0, 0, 0, 0] }) := setPath s x rfl
  exact hfreed.trans (ringSend _ _ _ _)

theorem freeCells (x c n : Nat) : RingStep [F.RING_CREDIT_HELD x c] s (s.freeCells x c n) := by
  unfold State.freeCells
  extract_lets r u v
  have hv : RingStep [F.RING_CREDIT_HELD x c] s v := by
    refine (wr s _ _).trans ((setPath u x ?_).mono (by simp))
    rfl
  split
  · exact hv.trans ((sendCredit v x false).mono (by simp))
  · exact hv

theorem sendData (x : Nat) (f : RingFrame) (bad : Bool) :
    RingStep [F.RING_CREDIT_AVAILABLE x f.tc.toNat] s (s.sendData x f bad) := by
  unfold State.sendData
  extract_lets c u _ v
  have hsent : RingStep [] u v := setPath u x rfl
  exact (wr s _ _).trans ((hsent.trans (ringSend v _ _ _)).mono (by simp))

theorem ringServed (x c : Nat) (transit : Bool) : RingStep [] s (s.ringServed x c transit) := setPath s x rfl

end
end RingStep

/-! ## What is sent -/

/-- A frame sent at a port that is ON and holds its association. -/
theorem State.ringSend_out (s : State) {p : Nat} (f : RingFrame) (bad : Bool) (hon : s.isOn (portDom p) = true)
    (hsa : s.saOk p = true) :
    (s.ringSend p f bad).out = .ring p (s.secSci p) (s.secSsci p) (s.tagged p f) bad :: s.out := by
  rw [State.ringSend, if_pos ⟨hon, hsa⟩]
  have hdrawn : (s.drawPn p).out = s.out := by
    unfold State.drawPn
    extract_lets r
    split
    · split <;> rfl
    · rfl
  have hsci : (s.drawPn p).secSci p = s.secSci p ∧ (s.drawPn p).secSsci p = s.secSsci p := by
    unfold State.secSci State.secSsci State.ringMac
    simp only [(RingStep.drawPn s p).rd _ (by simp), and_self]
  rw [State.tagged]
  generalize s.txTag p = e
  rw [State.emit_out, hdrawn]

/-- The association of one port is not touched by a frame taken at another. -/
theorem State.ctlTook_portSt_other (s : State) {p q : Nat} (f : RingFrame) (h : q ≠ p) :
    (s.ctlTook p f).portSt q = s.portSt q := by
  unfold State.ctlTook State.secTook
  extract_lets r
  split
  · exact s.setPortSt_portSt_other _ h
  · split
    · exact s.setPortSt_portSt_other _ h
    · rfl

end Sys2Proof.Machine
end

section
/-!
PROOFS. The ring cycle (R341, R348, R349, R356): what each path sends and audits, and the copy to the standby engine.
-/
namespace Sys2Proof.Machine

/-! ## What the module shows of the members -/

/-- The registers in which the module shows the members of its paths and the gateway. -/
def memberFlds : List Fld :=
  [F.CAPO_MEMBERS_LO_BITS, F.CAPO_MEMBERS_HI_BITS, F.CAPO_SMEMBERS_LO_BITS, F.CAPO_SMEMBERS_HI_BITS,
    F.CAPO_GATEWAY_POSITION, F.CAPO_GATEWAY_VALID]

namespace RingStep

theorem wrOf {l : List Fld} (s : State) {f : Fld} (hf : f ∈ l) (v : Nat) : RingStep l s (s.wr f v) :=
  (wr s f v).mono fun g hg => by rwa [List.mem_singleton.mp hg]

theorem showMembers (s : State) : RingStep memberFlds s s.showMembers := by
  unfold State.showMembers
  extract_lets x u
  have hu : RingStep memberFlds s u :=
    (((wrOf s (by decide) _).trans (wrOf _ (by decide) _)).trans (wrOf _ (by decide) _)).trans (wrOf _ (by decide) _)
  split
  · exact (hu.trans (wrOf _ (by decide) _)).trans (wrOf _ (by decide) _)
  · exact hu.trans (wrOf _ (by decide) _)

/-! ## Run and what is sent -/

theorem ringRunSet (s : State) (x : Nat) :
    RingStep [F.STATE_RUN (ringBlk x), F.RING_PATH_STAT_WHOLE x, F.STATE_RUN bCAPO] s (s.ringRunSet x) := by
  unfold State.ringRunSet
  extract_lets on u v
  have hu : RingStep [F.STATE_RUN (ringBlk x), F.RING_PATH_STAT_WHOLE x, F.STATE_RUN bCAPO] s u := wrOf s (by simp) _
  have hv : RingStep [F.STATE_RUN (ringBlk x), F.RING_PATH_STAT_WHOLE x, F.STATE_RUN bCAPO] u v := by
    unfold v
    split
    · exact refl _ u
    · exact wrOf u (by simp) _
  exact (hu.trans hv).trans (wrOf v (by simp) _)

theorem sendContinuity (s : State) (p : Nat) : RingStep [] s (s.sendContinuity p) := ringSend s p _ false

end RingStep

theorem State.ringRunSet_run (s : State) {x : Nat} (hx : x < 2) (hon : s.isOn (engDom x) = true)
    (hen : s.isSet (F.RING_CTRL_EN x) = true) : (s.ringRunSet x).isSet (F.STATE_RUN (ringBlk x)) = true := by
  have hne : (F.STATE_RUN (ringBlk x)).key ≠ (F.STATE_RUN bCAPO).key := by
    interval_cases x <;> decide
  unfold State.ringRunSet
  extract_lets on u v
  have hv : v = s.wr (F.STATE_RUN (ringBlk x)) 1 := by simp [v, u, on, hon, hen, b2n]
  rw [State.isSet, State.wrB, State.rd_wr_other _ _ hne, hv, State.rd_wr_same]
  rfl

/-- CONTINUITY at a port that is ON and holds its association. -/
theorem State.sendContinuity_out (s : State) {p : Nat} (hon : s.isOn (portDom p) = true) (hsa : s.saOk p = true) :
    ∃ f, (s.sendContinuity p).out = .ring p (s.secSci p) (s.secSsci p) f false :: s.out ∧ f.typ = 2 ∧
      f.ethType = ringType :=
  ⟨_, s.ringSend_out _ false hon hsa, rfl, rfl⟩

/-! ## One path's cycle -/

/-- The registers that show RUN in the cycle of path `x`, those that its audit writes, and both together. -/
def runFlds (x : Nat) : List Fld := [F.STATE_RUN (ringBlk x), F.RING_PATH_STAT_WHOLE x, F.STATE_RUN bCAPO]
def auditFlds (x : Nat) : List Fld :=
  [F.LEDGER_STAT_UNSYNC, F.RING_AUDIT_CTRL_SNAP_CNT x] ++ (List.range 24).map (F.RING_AUDIT_VALUE x)
def cycleFlds (x : Nat) : List Fld := runFlds x ++ auditFlds x

/-- What a step of the cycle of path `x` that writes registers of `l` leaves: the other path's record but for its counts of
cells, and what was sent before. -/
structure CycleStep (l : List Fld) (x : Nat) (s t : State) : Prop where
  rd : ∀ g : Fld, (∀ f ∈ l, g.key ≠ f.key) → t.rd g = s.rd g
  rest : t.offRing = s.offRing
  seqs : ∀ y, (t.path y).seqs = (s.path y).seqs
  other : ∀ y, ¬ (x = 0 ↔ y = 0) → (t.path y).auditDue = (s.path y).auditDue
  out : ∃ o, t.out = o ++ s.out

namespace CycleStep

theorem ofRingStep {l : List Fld} {s t : State} (h : RingStep l s t) (x : Nat) : CycleStep l x s t :=
  ⟨h.rd, h.rest, h.seqs, fun y _ => h.auditDue y, h.out⟩

theorem mono {l m : List Fld} {x : Nat} {s t : State} (h : CycleStep l x s t) (hlm : ∀ f ∈ l, f ∈ m) :
    CycleStep m x s t :=
  ⟨fun g hg => h.rd g fun f hf => hg f (hlm f hf), h.rest, h.seqs, h.other, h.out⟩

theorem trans {l : List Fld} {x : Nat} {s t u : State} (h : CycleStep l x s t) (k : CycleStep l x t u) :
    CycleStep l x s u := by
  obtain ⟨o, ho⟩ := h.out
  obtain ⟨o', ho'⟩ := k.out
  exact ⟨fun g hg => (k.rd g hg).trans (h.rd g hg), k.rest.trans h.rest, fun y => (k.seqs y).trans (h.seqs y),
    fun y hy => (k.other y hy).trans (h.other y hy), ⟨o' ++ o, by rw [ho', ho, List.append_assoc]⟩⟩

theorem shadow {l : List Fld} {x : Nat} {s t : State} (h : CycleStep l x s t) : t.shadow = s.shadow := by
  change t.offRing.shadow = s.offRing.shadow
  rw [h.rest]

/-- The record of path `x` replaced by one with the same sequence numbers. -/
theorem setPath (s : State) (x : Nat) {r : RingPathState} (hr : r.seqs = (s.path x).seqs) :
    CycleStep [] x s (s.setPath x r) := by
  refine ⟨fun g _ => s.setPath_rd x r g, s.setPath_offRing x r, fun y => ?_, fun y hy => ?_, ⟨[], s.setPath_out x r⟩⟩
  · rw [State.setPath_path]
    split
    next hxy =>
      rw [hr, State.path, State.path]
      simp only [hxy]
    next => rfl
  · rw [State.setPath_path, if_neg hy]

end CycleStep

/-- The six audit terms of class `c` on path `x` latched (R349). -/
def State.auditClass (s : State) (x : Nat) (r : RingPathState) (c : Nat) : State :=
  let w (s : State) (i v : Nat) : State := s.wr (F.RING_AUDIT_VALUE x (6 * c + i)) v
  w (w (w (w (w (w s 0 (s.rd (F.RING_CREDIT_AVAILABLE x c))) 1 (r.sent.getD c 0)) 2 (r.retRcvd.getD c 0)) 3
    (s.rd (F.RING_CREDIT_HELD x c))) 4 (r.rcvd.getD c 0)) 5 (r.retSent.getD c 0)

theorem RingStep.auditClass (s : State) (x : Nat) (r : RingPathState) {c : Nat} (hc : c < 4) :
    RingStep ((List.range 24).map (F.RING_AUDIT_VALUE x)) s (s.auditClass x r c) := by
  have hin : ∀ i, i < 6 → F.RING_AUDIT_VALUE x (6 * c + i) ∈ (List.range 24).map (F.RING_AUDIT_VALUE x) := fun i hi =>
    List.mem_map_of_mem (List.mem_range.mpr (by omega))
  unfold State.auditClass
  exact (((((wrOf s (hin 0 (by decide)) _).trans (wrOf _ (hin 1 (by decide)) _)).trans
    (wrOf _ (hin 2 (by decide)) _)).trans (wrOf _ (hin 3 (by decide)) _)).trans (wrOf _ (hin 4 (by decide)) _)).trans
    (wrOf _ (hin 5 (by decide)) _)

/-- Steps of one kind in a row. -/
theorem RingStep.foldl {α : Type} {l : List Fld} (f : State → α → State) (xs : List α) (s : State)
    (hf : ∀ s, ∀ a ∈ xs, RingStep l s (f s a)) : RingStep l s (xs.foldl f s) := by
  induction xs generalizing s with
  | nil => exact refl l s
  | cons a xs ih =>
    exact (hf s a List.mem_cons_self).trans (ih (f s a) fun s b hb => hf s b (List.mem_cons_of_mem a hb))

/-- The terms of path `x` latched: what an audit does before it counts. -/
def State.auditLatched (s : State) (x : Nat) : State :=
  (List.range 4).foldl (fun u c => u.auditClass x (s.path x) c) s

theorem State.ringAudit_eq (s : State) (x : Nat) :
    s.ringAudit x = ((s.auditLatched x).setPath x { s.path x with auditDue := false }).inc (F.RING_AUDIT_CTRL_SNAP_CNT x) :=
  rfl

theorem RingStep.auditLatched (s : State) (x : Nat) :
    RingStep ((List.range 24).map (F.RING_AUDIT_VALUE x)) s (s.auditLatched x) :=
  RingStep.foldl _ _ s fun s _ hc => RingStep.auditClass s x _ (List.mem_range.mp hc)

theorem CycleStep.ringAudit (s : State) (x : Nat) : CycleStep (auditFlds x) x s (s.ringAudit x) := by
  have hl := RingStep.auditLatched s x
  have hdone : CycleStep [] x (s.auditLatched x) ((s.auditLatched x).setPath x { s.path x with auditDue := false }) :=
    CycleStep.setPath _ x (hl.seqs x).symm
  rw [State.ringAudit_eq]
  exact ((ofRingStep (hl.mono fun f hf => List.mem_append_right _ hf) x).trans (hdone.mono (by simp))).trans
    (ofRingStep (RingStep.wrOf _ (List.mem_cons_of_mem _ List.mem_cons_self) _) x)

theorem State.ringAudit_auditDue (s : State) (x : Nat) : ((s.ringAudit x).path x).auditDue = false := by
  rw [State.ringAudit_eq]
  show ((State.setPath _ x _).path x).auditDue = false
  rw [State.setPath_path_same]

theorem State.ringAudit_count (s : State) {x : Nat} (hx : x < 2) :
    (s.ringAudit x).rd (F.RING_AUDIT_CTRL_SNAP_CNT x) = (s.rd (F.RING_AUDIT_CTRL_SNAP_CNT x) + 1) % 2 ^ 16 := by
  have hne : ∀ f ∈ (List.range 24).map (F.RING_AUDIT_VALUE x), (F.RING_AUDIT_CTRL_SNAP_CNT x).key ≠ f.key := by
    interval_cases x <;> decide
  rw [State.ringAudit_eq, State.inc_eq, State.rd_wr_same, State.setPath_rd, (RingStep.auditLatched s x).rd _ hne]
  rfl

/-- With LEDGER_RING_AT 0 a due audit is served here. -/
theorem State.ringAuditAt_now (s : State) (x : Nat)
    (h : s.rd64 F.LEDGER_RING_AT_LO_CYCLE F.LEDGER_RING_AT_HI_CYCLE = 0) :
    s.ringAuditAt x = (s.wr F.LEDGER_STAT_UNSYNC 0).ringAudit x := by
  unfold State.ringAuditAt
  extract_lets n now
  exact if_pos (Or.inl h)

theorem CycleStep.ringAuditAt (s : State) (x : Nat) : CycleStep (auditFlds x) x s (s.ringAuditAt x) := by
  have hunsync : ∀ v, CycleStep (auditFlds x) x s (s.wr F.LEDGER_STAT_UNSYNC v) := fun v =>
    ofRingStep (RingStep.wrOf s List.mem_cons_self v) x
  unfold State.ringAuditAt
  extract_lets n now
  split
  · exact (hunsync 0).trans (CycleStep.ringAudit _ x)
  · split
    · exact ofRingStep (RingStep.refl _ s) x
    · exact (hunsync 1).trans (CycleStep.ringAudit _ x)

/-- What path `x` sends in its cycle, before a due audit. -/
def State.cycleSent (s : State) (x : Nat) : State :=
  let s := ((s.ringRunSet x).sendContinuity (2 * x)).sendContinuity (2 * x + 1)
  if s.run (ringBlk x) then s.sendCredit x false else s

/-- What path `x` audits in its cycle. -/
def State.cycleAudited (s : State) (x : Nat) : State := if (s.path x).auditDue then s.ringAuditAt x else s

theorem State.cyclePath_on {s : State} {x : Nat} (hon : s.isOn (engDom x) = true)
    (hdue : s.shadow.filter (fun e => inBlock (ringBlk x) e.1) = []) :
    s.cyclePath x = (s.cycleSent x).cycleAudited x := by
  unfold State.cyclePath
  rw [if_neg (not_not.mpr hon), State.commit_of_no_due hdue]
  rfl

theorem RingStep.sent (s : State) (x : Nat) : RingStep [] (s.ringRunSet x) (s.cycleSent x) := by
  unfold State.cycleSent
  extract_lets u
  have hu : RingStep [] (s.ringRunSet x) u := (sendContinuity _ _).trans (sendContinuity _ _)
  split
  · exact hu.trans (sendCredit u x false)
  · exact hu

theorem RingStep.cycleSent (s : State) (x : Nat) : RingStep (runFlds x) s (s.cycleSent x) :=
  (ringRunSet s x).trans ((sent s x).mono (by simp))

theorem CycleStep.cycleAudited (s : State) (x : Nat) : CycleStep (auditFlds x) x s (s.cycleAudited x) := by
  unfold State.cycleAudited
  split
  · exact CycleStep.ringAuditAt s x
  · exact ofRingStep (RingStep.refl _ s) x

theorem CycleStep.cyclePath {s : State} (x : Nat) (hdue : s.shadow.filter (fun e => inBlock (ringBlk x) e.1) = []) :
    CycleStep (cycleFlds x) x s (s.cyclePath x) := by
  by_cases hon : s.isOn (engDom x) = true
  · rw [State.cyclePath_on hon hdue]
    exact ((ofRingStep (RingStep.cycleSent s x) x).mono fun f hf => List.mem_append_left _ hf).trans
      ((CycleStep.cycleAudited _ x).mono fun f hf => List.mem_append_right _ hf)
  · rw [State.cyclePath, if_pos hon]
    exact ofRingStep (RingStep.refl _ s) x

/-! ## CONTINUITY on every port -/

/-- Between `s` and `t` a frame with `P` left at port `p`. -/
def SentAt (p : Nat) (P : RingFrame → Prop) (s t : State) : Prop :=
  ∃ l f, t.out = l ++ s.out ∧ Output.ring p (s.secSci p) (s.secSsci p) f false ∈ l ∧ P f

/-- A CONTINUITY frame (R341). -/
def IsContinuity (f : RingFrame) : Prop := f.typ = 2 ∧ f.ethType = ringType

theorem SentAt.after {p : Nat} {P : RingFrame → Prop} {s t u : State} (h : SentAt p P s t) (k : ∃ o, u.out = o ++ t.out) :
    SentAt p P s u := by
  obtain ⟨l, f, hout, hmem, hf⟩ := h
  obtain ⟨o, ho⟩ := k
  exact ⟨o ++ l, f, by rw [ho, hout, List.append_assoc], List.mem_append_right o hmem, hf⟩

/-- What a port needs to send, and the name of its channel. -/
def portFlds (p : Nat) : List Fld :=
  [F.PWR_DOM_STATE_STATE (portDom p), F.RING_PORT_STAT_SA_OK (p / 2) (p % 2), F.CAPO_RING_ID_RING, F.CAPO_RING_ID_POSITION]

theorem SentAt.before {p : Nat} {P : RingFrame → Prop} {s t u : State} (h : SentAt p P t u)
    (hrd : ∀ g ∈ portFlds p, t.rd g = s.rd g) (hout : ∃ o, t.out = o ++ s.out) :
    SentAt p P s u := by
  obtain ⟨l, f, hl, hmem, hf⟩ := h
  obtain ⟨o, ho⟩ := hout
  have hring := hrd F.CAPO_RING_ID_RING (by simp [portFlds])
  have hpos := hrd F.CAPO_RING_ID_POSITION (by simp [portFlds])
  refine ⟨l ++ o, f, by rw [hl, ho, List.append_assoc], List.mem_append_left o ?_, hf⟩
  simpa only [State.secSci, State.secSsci, State.ringMac, hring, hpos] using hmem

theorem State.ready_of_portFlds {p : Nat} {s t : State} (hrd : ∀ g ∈ portFlds p, t.rd g = s.rd g) :
    t.isOn (portDom p) = s.isOn (portDom p) ∧ t.saOk p = s.saOk p := by
  constructor
  · rw [State.isOn, State.dom, hrd _ (by simp [portFlds]), State.isOn, State.dom]
  · rw [State.saOk, State.isSet, hrd _ (by simp [portFlds]), State.saOk, State.isSet]

theorem State.sendContinuity_sent {s : State} {p : Nat} (hon : s.isOn (portDom p) = true) (hsa : s.saOk p = true) :
    SentAt p IsContinuity s (s.sendContinuity p) := by
  obtain ⟨f, hout, hf⟩ := s.sendContinuity_out hon hsa
  exact ⟨[_], f, hout, List.mem_singleton_self _, hf⟩

/-- The cycle of path `p / 2` sends CONTINUITY at port `p`. -/
theorem State.cycleSent_sent {s : State} (p : Fin 4) (hon : s.isOn (portDom p) = true) (hsa : s.saOk p = true) :
    SentAt p IsContinuity s (s.cycleSent (p.val / 2)) := by
  have hport : ∀ t, RingStep (runFlds (p.val / 2)) s t →
      SentAt p IsContinuity s (t.sendContinuity p) := fun t h => by
    have hrd : ∀ g ∈ portFlds p, t.rd g = s.rd g := fun g hg => h.rd g fun f hf =>
      (by decide : ∀ p : Fin 4, ∀ g ∈ portFlds p, ∀ f ∈ runFlds (p.val / 2), g.key ≠ f.key) p g hg f hf
    obtain ⟨hon', hsa'⟩ := State.ready_of_portFlds hrd
    exact (State.sendContinuity_sent (hon'.trans hon) (hsa'.trans hsa)).before hrd h.out
  have hrun := RingStep.ringRunSet s (p.val / 2)
  have hboth : SentAt p IsContinuity s
      (((s.ringRunSet (p.val / 2)).sendContinuity (2 * (p.val / 2))).sendContinuity (2 * (p.val / 2) + 1)) := by
    rcases Nat.mod_two_eq_zero_or_one p.val with hw | hw
    · have hp : 2 * (p.val / 2) = p.val := by omega
      rw [hp]
      exact (hport _ hrun).after (RingStep.sendContinuity _ _).out
    · have hp : 2 * (p.val / 2) + 1 = p.val := by omega
      rw [hp]
      exact hport _ (hrun.trans ((RingStep.sendContinuity _ _).mono (by simp)))
  unfold State.cycleSent
  extract_lets u
  split
  · exact hboth.after (RingStep.sendCredit u _ false).out
  · exact hboth

/-- So does that path's cycle as a whole. -/
theorem State.cyclePath_sent {s : State} (p : Fin 4) (heng : s.isOn (engDom (p.val / 2)) = true)
    (hdue : s.shadow.filter (fun e => inBlock (ringBlk (p.val / 2)) e.1) = []) (hon : s.isOn (portDom p) = true)
    (hsa : s.saOk p = true) : SentAt p IsContinuity s (s.cyclePath (p.val / 2)) := by
  rw [State.cyclePath_on heng hdue]
  exact (State.cycleSent_sent p hon hsa).after (CycleStep.cycleAudited _ _).out

/-! ## Both paths -/

/-- The ring cycle begun. -/
def State.cycleBegun (s : State) : State := { s with ring := { s.ring with cycle := some s.cycleNo } }

/-- Both paths have had their cycle. -/
def State.cycled (s : State) : State := (s.cycleBegun.cyclePath 0).cyclePath 1

theorem State.ringCycle_eq {s : State} (hnew : s.ring.cycle ≠ some s.cycleNo) (hC : s.pendingIn bCAPO = false) :
    s.ringCycle = s.cycled.stateCopy.showMembers := by
  unfold State.ringCycle
  rw [if_neg hnew]
  extract_lets _ u v
  have hv : v = u := by
    unfold v
    split
    · exact State.commit_of_no_due (State.due_of_pendingIn (s := s) hC)
    · rfl
  rw [hv]
  rfl

/-- Both engines run as the engine of path `x` gives its state to the other (R356). -/
theorem State.stateCopy_both {s : State} {x : Nat} (hact : s.activePath = some x) (hx : s.engRuns x = true)
    (hy : s.engRuns (1 - x) = true) :
    s.stateCopy = (({ s.setPath (1 - x) { s.path (1 - x) with seqs := (s.path x).seqs } with
      ring := { (s.setPath (1 - x) { s.path (1 - x) with seqs := (s.path x).seqs }).ring with copyAge := 0 } } :
        State)).wr F.CAPO_STAT_STANDBY_READY 1 := by
  unfold State.stateCopy
  simp only [hact, hx, hy, and_self, if_true]

theorem State.stateCopy_none {s : State} (hact : s.activePath = none) :
    s.stateCopy = s.wr F.CAPO_STAT_STANDBY_READY 0 := by
  unfold State.stateCopy
  simp only [hact]

/-- The state copy leaves every register but STANDBY_READY, what was sent, and the audits that are due. -/
theorem State.stateCopy_kept (s : State) :
    (∀ g : Fld, g.key ≠ F.CAPO_STAT_STANDBY_READY.key → s.stateCopy.rd g = s.rd g) ∧ s.stateCopy.out = s.out ∧
      ∀ y, (s.stateCopy.path y).auditDue = (s.path y).auditDue := by
  unfold State.stateCopy
  split
  · exact ⟨fun g hg => s.rd_wr_other 0 hg, rfl, fun _ => rfl⟩
  · extract_lets y _ u n
    split
    · refine ⟨fun g hg => (State.rd_wr_other _ 1 hg).trans (s.setPath_rd y _ g), s.setPath_out y _, fun z => ?_⟩
      show (u.path z).auditDue = _
      unfold u
      rw [State.setPath_path]
      split
      next hyz =>
        show (s.path y).auditDue = _
        rw [State.path, State.path]
        simp only [hyz]
      next => rfl
    · exact ⟨fun g hg => State.rd_wr_other _ _ hg, rfl, fun _ => rfl⟩

/-- The active path is what the grant names. -/
theorem State.activePath_congr {s t : State} (h : t.rd F.CAPO_STAT_GRANT = s.rd F.CAPO_STAT_GRANT) :
    t.activePath = s.activePath := by
  rw [State.activePath, h, State.activePath]

section
variable {s : State} (hA : s.pendingIn bRINGA = false) (hB : s.pendingIn bRINGB = false)
include hA

theorem CycleStep.cycledA : CycleStep (cycleFlds 0) 0 s.cycleBegun (s.cycleBegun.cyclePath 0) :=
  CycleStep.cyclePath 0 (State.due_of_pendingIn (s := s) hA)

/-- What path B needs to send is as it was before path A's cycle. -/
theorem State.cycledA_rd {g : Fld} (hg : ∀ f ∈ cycleFlds 0, g.key ≠ f.key) :
    (s.cycleBegun.cyclePath 0).rd g = s.rd g :=
  (CycleStep.cycledA hA).rd g hg

theorem State.cycledA_isOn {d : Nat} (hd : d < 50) : (s.cycleBegun.cyclePath 0).isOn d = s.isOn d := by
  have hkeys : ∀ d : Fin 50, ∀ f ∈ cycleFlds 0, (F.PWR_DOM_STATE_STATE d).key ≠ f.key := by decide
  rw [State.isOn, State.dom, State.cycledA_rd hA (hkeys ⟨d, hd⟩), State.isOn, State.dom]

include hB

theorem State.cycled_dueB : (s.cycleBegun.cyclePath 0).shadow.filter (fun e => inBlock (ringBlk 1) e.1) = [] := by
  rw [(CycleStep.cycledA hA).shadow]
  exact State.due_of_pendingIn (s := s) hB

theorem CycleStep.cycledB : CycleStep (cycleFlds 1) 1 (s.cycleBegun.cyclePath 0) s.cycled :=
  CycleStep.cyclePath 1 (State.cycled_dueB hA hB)

/-- A register that neither path's cycle writes. -/
theorem State.cycled_rd {g : Fld} (hg : ∀ x : Fin 2, ∀ f ∈ cycleFlds x, g.key ≠ f.key) : s.cycled.rd g = s.rd g :=
  ((CycleStep.cycledB hA hB).rd g (hg 1)).trans ((CycleStep.cycledA hA).rd g (hg 0))

theorem State.cycled_seqs (y : Nat) : (s.cycled.path y).seqs = (s.path y).seqs :=
  ((CycleStep.cycledB hA hB).seqs y).trans ((CycleStep.cycledA hA).seqs y)

theorem State.cycled_sent (p : Fin 4) (heng : s.isOn (engDom (p.val / 2)) = true) (hon : s.isOn (portDom p) = true)
    (hsa : s.saOk p = true) : SentAt p IsContinuity s s.cycled := by
  have hA' := CycleStep.cycledA hA
  have hx : p.val / 2 = 0 ∨ p.val / 2 = 1 := by omega
  rcases hx with hx | hx
  · have hsent : SentAt p IsContinuity s.cycleBegun (s.cycleBegun.cyclePath (p.val / 2)) :=
      State.cyclePath_sent p heng (hx ▸ State.due_of_pendingIn (s := s) hA) hon hsa
    rw [hx] at hsent
    exact hsent.after (CycleStep.cycledB hA hB).out
  · have hport : ∀ g ∈ portFlds p, (s.cycleBegun.cyclePath 0).rd g = s.rd g := fun g hg =>
      State.cycledA_rd hA fun f hf => (by decide : ∀ p : Fin 4, p.val / 2 = 1 →
        ∀ g ∈ portFlds p, ∀ f ∈ cycleFlds 0, g.key ≠ f.key) p hx g hg f hf
    obtain ⟨hon', hsa'⟩ := State.ready_of_portFlds hport
    have hdue := State.cycled_dueB hA hB
    have heng' : (s.cycleBegun.cyclePath 0).isOn (engDom (p.val / 2)) = true :=
      (State.cycledA_isOn hA (by unfold engDom; omega)).trans heng
    rw [← hx] at hdue
    have hsent := State.cyclePath_sent p heng' hdue (hon'.trans hon) (hsa'.trans hsa)
    rw [hx] at hsent
    exact hsent.before hport hA'.out

end

/-- A path's cycle serves its due audit where LEDGER_RING_AT is 0. -/
theorem State.cyclePath_audit {s : State} {x : Nat} (hx : x < 2) (heng : s.isOn (engDom x) = true)
    (hdue : s.shadow.filter (fun e => inBlock (ringBlk x) e.1) = []) (haudit : (s.path x).auditDue = true)
    (hat : s.rd64 F.LEDGER_RING_AT_LO_CYCLE F.LEDGER_RING_AT_HI_CYCLE = 0) :
    ((s.cyclePath x).path x).auditDue = false ∧
      (s.cyclePath x).rd (F.RING_AUDIT_CTRL_SNAP_CNT x) = (s.rd (F.RING_AUDIT_CTRL_SNAP_CNT x) + 1) % 2 ^ 16 := by
  have hsent := RingStep.cycleSent s x
  have hkept : ∀ g ∈ [F.LEDGER_RING_AT_LO_CYCLE, F.LEDGER_RING_AT_HI_CYCLE, F.RING_AUDIT_CTRL_SNAP_CNT x],
      (s.cycleSent x).rd g = s.rd g := fun g hg => hsent.rd g fun f hf => by
    revert g f
    interval_cases x <;> decide
  have hat' : (s.cycleSent x).rd64 F.LEDGER_RING_AT_LO_CYCLE F.LEDGER_RING_AT_HI_CYCLE = 0 := by
    rw [State.rd64, hkept _ (by simp), hkept _ (by simp)]
    exact hat
  have hne : (F.RING_AUDIT_CTRL_SNAP_CNT x).key ≠ F.LEDGER_STAT_UNSYNC.key := by
    interval_cases x <;> decide
  rw [State.cyclePath_on heng hdue, State.cycleAudited, if_pos ((hsent.auditDue x).trans haudit),
    State.ringAuditAt_now _ x hat']
  refine ⟨State.ringAudit_auditDue _ x, ?_⟩
  rw [State.ringAudit_count _ hx, State.rd_wr_other _ _ hne, hkept _ (by simp)]

/-- An engine that is ON and enabled runs after its path's cycle. -/
theorem State.cyclePath_run {s : State} {x : Nat} (hx : x < 2) (heng : s.isOn (engDom x) = true)
    (hen : s.isSet (F.RING_CTRL_EN x) = true) (hdue : s.shadow.filter (fun e => inBlock (ringBlk x) e.1) = []) :
    (s.cyclePath x).isSet (F.STATE_RUN (ringBlk x)) = true := by
  have hkept : ∀ f ∈ auditFlds x, (F.STATE_RUN (ringBlk x)).key ≠ f.key := by
    interval_cases x <;> decide
  rw [State.isSet, State.cyclePath_on heng hdue, (CycleStep.cycleAudited _ x).rd _ hkept,
    (RingStep.sent s x).rd _ (by simp)]
  exact State.ringRunSet_run s hx heng hen

/-- What the copy and the members leave of what both paths' cycles did. -/
theorem State.cycled_shown (s : State) : (∃ o, s.cycled.stateCopy.showMembers.out = o ++ s.cycled.out) ∧
    (∀ y, (s.cycled.stateCopy.showMembers.path y).auditDue = (s.cycled.path y).auditDue) ∧
    ∀ x : Fin 2, s.cycled.stateCopy.showMembers.rd (F.RING_AUDIT_CTRL_SNAP_CNT x) =
      s.cycled.rd (F.RING_AUDIT_CTRL_SNAP_CNT x) := by
  obtain ⟨hrd, hout, haudit⟩ := s.cycled.stateCopy_kept
  have hm := RingStep.showMembers s.cycled.stateCopy
  refine ⟨hout ▸ hm.out, fun y => (hm.auditDue y).trans (haudit y), fun x => ?_⟩
  rw [hm.rd _ ((by decide : ∀ x : Fin 2, ∀ f ∈ memberFlds, (F.RING_AUDIT_CTRL_SNAP_CNT x).key ≠ f.key) x),
    hrd _ ((by decide : ∀ x : Fin 2, (F.RING_AUDIT_CTRL_SNAP_CNT x).key ≠ F.CAPO_STAT_STANDBY_READY.key) x)]

section
variable {s : State} (hA : s.pendingIn bRINGA = false) (hB : s.pendingIn bRINGB = false)
include hA hB

/-- Both engines run after the cycles of both paths, where both are ON and enabled. -/
theorem State.cycled_engRuns (hon : s.allOn [25, 26] = true) (hen0 : s.isSet (F.RING_CTRL_EN 0) = true)
    (hen1 : s.isSet (F.RING_CTRL_EN 1) = true) : s.cycled.engRuns 0 = true ∧ s.cycled.engRuns 1 = true := by
  obtain ⟨hon0, hon1⟩ : s.isOn 25 = true ∧ s.isOn 26 = true := by simpa [State.allOn] using hon
  have hisOn : ∀ d ∈ [25, 26], s.cycled.isOn d = s.isOn d := fun d hd => by
    have hkeys : ∀ d ∈ [25, 26], ∀ x : Fin 2, ∀ f ∈ cycleFlds x, (F.PWR_DOM_STATE_STATE d).key ≠ f.key := by decide
    rw [State.isOn, State.dom, State.cycled_rd hA hB (hkeys d hd), State.isOn, State.dom]
  have hrun0 : s.cycled.run (ringBlk 0) = true := by
    have h := State.cyclePath_run (s := s.cycleBegun) (x := 0) (by decide) hon0 hen0 (State.due_of_pendingIn (s := s) hA)
    rw [State.run, State.isSet, (CycleStep.cycledB hA hB).rd _ (by decide)]
    exact h
  have hrun1 : s.cycled.run (ringBlk 1) = true := by
    refine State.cyclePath_run (by decide) ((State.cycledA_isOn hA (by decide)).trans hon1) ?_ (State.cycled_dueB hA hB)
    rw [State.isSet, State.cycledA_rd hA (by decide)]
    exact hen1
  refine ⟨?_, ?_⟩
  · rw [State.engRuns, hrun0, Bool.and_true]
    exact (hisOn 25 (by decide)).trans hon0
  · rw [State.engRuns, hrun1, Bool.and_true]
    exact (hisOn 26 (by decide)).trans hon1

/-- A due audit of either path is served in the ring cycle. -/
theorem State.cycled_audit (x : Fin 2) (heng : s.isOn (engDom x) = true) (haudit : (s.path x).auditDue = true)
    (hat : s.rd64 F.LEDGER_RING_AT_LO_CYCLE F.LEDGER_RING_AT_HI_CYCLE = 0) :
    (s.cycled.path x).auditDue = false ∧
      s.cycled.rd (F.RING_AUDIT_CTRL_SNAP_CNT x) = (s.rd (F.RING_AUDIT_CTRL_SNAP_CNT x) + 1) % 2 ^ 16 := by
  have hA' := CycleStep.cycledA hA
  have hB' := CycleStep.cycledB hA hB
  match x with
  | 0 =>
    obtain ⟨hdone, hcnt⟩ := State.cyclePath_audit (s := s.cycleBegun) (x := 0) (by decide) heng
      (State.due_of_pendingIn (s := s) hA) haudit hat
    exact ⟨(hB'.other 0 (by decide)).trans hdone, (hB'.rd _ (by decide)).trans hcnt⟩
  | 1 =>
    have hat' : (s.cycleBegun.cyclePath 0).rd64 F.LEDGER_RING_AT_LO_CYCLE F.LEDGER_RING_AT_HI_CYCLE = 0 := by
      rw [State.rd64, State.cycledA_rd hA (by decide), State.cycledA_rd hA (by decide)]
      exact hat
    have h := State.cyclePath_audit (x := 1) (by decide) ((State.cycledA_isOn hA (by decide)).trans heng)
      (State.cycled_dueB hA hB) ((hA'.other 1 (by decide)).trans haudit) hat'
    rw [State.cycledA_rd hA (by decide)] at h
    exact h

/-- The standby engine holds the active engine's state. -/
theorem State.cycled_copied (x : Fin 2) (hact : s.activePath = some x.val) (hon : s.allOn [25, 26] = true)
    (hen0 : s.isSet (F.RING_CTRL_EN 0) = true) (hen1 : s.isSet (F.RING_CTRL_EN 1) = true) :
    (s.cycled.stateCopy.showMembers.path (1 - x.val)).seqs = (s.path x).seqs ∧
      s.cycled.stateCopy.showMembers.rd F.CAPO_STAT_STANDBY_READY = 1 ∧ s.cycled.stateCopy.showMembers.ring.copyAge = 0 := by
  have hm := RingStep.showMembers s.cycled.stateCopy
  have hact' : s.cycled.activePath = some x.val :=
    (State.activePath_congr (State.cycled_rd hA hB (by decide))).trans hact
  obtain ⟨hrun0, hrun1⟩ := State.cycled_engRuns hA hB hon hen0 hen1
  have hruns : s.cycled.engRuns x.val = true ∧ s.cycled.engRuns (1 - x.val) = true := by
    match x with
    | 0 => exact ⟨hrun0, hrun1⟩
    | 1 => exact ⟨hrun1, hrun0⟩
  have hcopy := State.stateCopy_both hact' hruns.1 hruns.2
  refine ⟨(hm.seqs _).trans ?_, (hm.rd _ (by decide)).trans ?_,
    (hm.kept (fun u => u.ring.copyAge) fun _ => rfl).trans ?_⟩
  · rw [hcopy]
    show ((State.setPath s.cycled _ _).path _).seqs = _
    rw [State.setPath_path_same]
    exact State.cycled_seqs hA hB x
  · rw [hcopy, State.rd_wr_same]
    rfl
  · rw [hcopy]
    rfl

/-- Without an active path the standby engine is not ready. -/
theorem State.cycled_notReady (hact : s.activePath = none) :
    s.cycled.stateCopy.showMembers.rd F.CAPO_STAT_STANDBY_READY = 0 := by
  have hact' : s.cycled.activePath = none := (State.activePath_congr (State.cycled_rd hA hB (by decide))).trans hact
  rw [(RingStep.showMembers _).rd _ (by decide), State.stateCopy_none hact', State.rd_wr_same]
  rfl

end

/-- Settles O43, by the steps of one cycle: path A, path B, the copy of R356 and the members shown. -/
theorem ringCycles : Obligations.RingCycles := by
  intro s hnew hA hB hC
  refine ⟨_, finish_ended s s.ringCycle, ?_⟩
  have hrd : ∀ f ∈ [F.RING_AUDIT_CTRL_SNAP_CNT 0, F.RING_AUDIT_CTRL_SNAP_CNT 1, F.CAPO_STAT_STANDBY_READY],
      ∀ u, (s.ended u).rd f = u.rd f := fun f hf u => State.ended_rd _ _ (Fld.notRun (by
    revert f
    decide))
  rw [State.ringCycle_eq hnew hC]
  obtain ⟨hout, haudit, hcnt⟩ := State.cycled_shown s
  refine ⟨fun p heng hon hsa => ?_, fun x heng hdue hat => ?_, fun x hact hon hen0 hen1 => ?_, fun hact => ?_⟩
  · have hsent := (State.cycled_sent hA hB p heng hon hsa).after hout
    rw [State.ended_out]
    unfold SentAt IsContinuity at hsent
    exact hsent
  · obtain ⟨hdone, hcount⟩ := State.cycled_audit hA hB x heng hdue hat
    rw [State.ended_path, haudit, hdone, hrd _ (by match x with | 0 => simp | 1 => simp), hcnt x, hcount]
    exact ⟨rfl, rfl⟩
  · rw [State.ended_path, hrd _ (by simp), State.ended_ring]
    exact State.cycled_copied hA hB x hact hon hen0 hen1
  · rw [hrd _ (by simp)]
    exact State.cycled_notReady hA hB hact

end Sys2Proof.Machine
end

section
/-!
PROOFS. Moving the ring (R357, R358, R360): what an announcement, the release of the old path and the takeover write.
-/
namespace Sys2Proof.Machine

/-! ## The frame -/

/-- From `s` to `t` the registers of `l` may change, those the Pegbox may write, and the ring paths and ports but for the
probe that is back. -/
structure RegStep (l : List Fld) (s t : State) : Prop where
  rd : ∀ g : Fld, pegKey g.key = false → (∀ f ∈ l, g.key ≠ f.key) → t.rd g = s.rd g
  returned : ∀ y, (t.path y).returned = (s.path y).returned

namespace RegStep

theorem refl (l : List Fld) (s : State) : RegStep l s s := ⟨fun _ _ _ => rfl, fun _ => rfl⟩

theorem trans {l : List Fld} {s t u : State} (h : RegStep l s t) (k : RegStep l t u) : RegStep l s u :=
  ⟨fun g hp hg => (k.rd g hp hg).trans (h.rd g hp hg), fun y => (k.returned y).trans (h.returned y)⟩

theorem mono {l m : List Fld} {s t : State} (h : RegStep l s t) (hlm : ∀ f ∈ l, f ∈ m) : RegStep m s t :=
  ⟨fun g hp hg => h.rd g hp fun f hf => hg f (hlm f hf), h.returned⟩

theorem ofRing {l : List Fld} {s t : State} (h : RingStep l s t) : RegStep l s t :=
  ⟨fun g _ hg => h.rd g hg, h.returned⟩

theorem ofPeg (l : List Fld) {s t : State} (h : PegFrame s t) : RegStep l s t :=
  ⟨fun g hp _ => h.rd g hp, fun y => by rw [State.path, h.ring, State.path]⟩

theorem wrOf {l : List Fld} (s : State) {f : Fld} (hf : f ∈ l) (v : Nat) : RegStep l s (s.wr f v) :=
  ofRing (RingStep.wrOf s hf v)

theorem foldl {α : Type} {l : List Fld} (f : State → α → State) (xs : List α) (s : State)
    (hf : ∀ s, ∀ a ∈ xs, RegStep l s (f s a)) : RegStep l s (xs.foldl f s) := by
  induction xs generalizing s with
  | nil => exact refl l s
  | cons a xs ih =>
    exact (hf s a List.mem_cons_self).trans (ih (f s a) fun s b hb => hf s b (List.mem_cons_of_mem a hb))

/-- A path's record replaced by one in which the same probe is back. -/
theorem setPath (l : List Fld) (s : State) (x : Nat) {r : RingPathState} (hr : r.returned = (s.path x).returned) :
    RegStep l s (s.setPath x r) := by
  refine ⟨fun g _ _ => s.setPath_rd x r g, fun y => ?_⟩
  rw [State.setPath_path]
  split
  next hxy =>
    rw [hr, State.path, State.path]
    simp only [hxy]
  next => rfl

theorem ringEvent (l : List Fld) (s : State) (x kind : Nat) : RegStep l s (s.ringEvent x kind) :=
  ofPeg l (PegFrame.raiseEvent s _ _ _)

end RegStep

/-! ## The old path left -/

/-- The registers written as the engine of the old path lets go: its counts, its cells held, and the HCP sessions. -/
def leaveFlds : List Fld :=
  [F.RING_CNT_COUNT 0 15, F.RING_CNT_COUNT 1 15, F.CAPO_CNT_COUNT 6] ++ (List.range 4).map (F.RING_CREDIT_HELD 0) ++
    (List.range 4).map (F.RING_CREDIT_HELD 1) ++ (List.range 4).map F.HCP_SESSION_STAT_BOUND

namespace RegStep

theorem releaseUnsent (s : State) {x : Nat} (hx : x < 2) : RegStep leaveFlds s (s.releaseUnsent x) := by
  refine foldl _ _ s fun s c _ => ?_
  split
  next cl hcl =>
    have hport : cl.port < 32 := by
      rw [PegFrame.port_of_heldClaim hcl, engPort]
      omega
    have hcnt : F.RING_CNT_COUNT x 15 ∈ leaveFlds := by
      interval_cases x <;> simp [leaveFlds]
    exact ((ofPeg _ (PegFrame.releaseClaim s hport)).trans (wrOf _ hcnt _)).trans (wrOf _ (by simp [leaveFlds]) _)
  next => exact refl _ s

theorem dropTransit (s : State) {x : Nat} (hx : x < 2) : RegStep leaveFlds s (s.dropTransit x) := by
  unfold State.dropTransit
  extract_lets r
  refine (setPath _ s x (by rfl)).trans (foldl _ _ _ fun s f _ => ?_)
  have hheld : F.RING_CREDIT_HELD x f.tc.toNat ∈ leaveFlds := by
    have hc : F.RING_CREDIT_HELD x f.tc.toNat ∈ (List.range 4).map (F.RING_CREDIT_HELD x) :=
      List.mem_map_of_mem (List.mem_range.mpr f.tc.isLt)
    interval_cases x
    · simp only [leaveFlds, List.mem_append, hc, or_true, true_or]
    · simp only [leaveFlds, List.mem_append, hc, or_true, true_or]
  exact (ofRing (RingStep.freeCells s x f.tc.toNat _)).mono fun g hg => by rwa [List.mem_singleton.mp hg]

theorem forgetSessions (s : State) : RegStep leaveFlds s s.forgetSessions := by
  unfold State.forgetSessions
  extract_lets _ u
  have hu : RegStep leaveFlds s u := ⟨fun _ _ _ => rfl, fun _ => rfl⟩
  exact hu.trans (foldl _ _ u fun s k hk => wrOf s (List.mem_append_right _ (List.mem_map_of_mem hk)) 0)

end RegStep

/-- The old path left on the way to path `x`, with the state that the standby engine does not hold forgotten. -/
def State.leftFor (s : State) (x : Nat) : State :=
  let s := match s.activePath with
    | some old => if old = x then s else (s.releaseUnsent old).dropTransit old
    | none => s
  let r := s.path x
  let moved := s.activePath != some x
  if moved ∧ ¬ s.isSet F.CAPO_STAT_STANDBY_READY then (s.setPath x { r with seqs := ⟨[], []⟩ }).forgetSessions else s

theorem State.activePath_lt {s : State} {x : Nat} (h : s.activePath = some x) : x < 2 := by
  unfold State.activePath at h
  split at h
  · cases h; decide
  · cases h; decide
  · cases h

theorem RegStep.leftFor (s : State) (x : Nat) : RegStep leaveFlds s (s.leftFor x) := by
  unfold State.leftFor
  extract_lets u r moved
  have hu : RegStep leaveFlds s u := by
    unfold u
    split
    next old hold =>
      have hlt := State.activePath_lt hold
      split
      · exact refl _ s
      · exact (releaseUnsent s hlt).trans (dropTransit _ hlt)
    next => exact refl _ s
  split
  · exact (hu.trans (setPath _ u x (by rfl))).trans (forgetSessions _)
  · exact hu

/-! ## The takeover -/

/-- The grant line asked for path `x`. -/
def State.wants (s : State) (x : Nat) : State := { s with ring := { s.ring with want := some x } }

theorem State.wants_rd (s : State) (x : Nat) (g : Fld) : (s.wants x).rd g = s.rd g := rfl

/-- The grant commanded to path `x`, and its record. -/
def State.granted (s : State) (x cause : Nat) (byAnnounce : Bool) (detectUs takeTenthUs : Nat) : State :=
  let s := s.wants x
  let s := (s.wr F.CAPO_STAT_GRANT (x + 1)).wr F.CAPO_STAT_STATE (x + 1)
  let s := ((s.wr F.CAPO_SWITCH_CAUSE cause).wrB F.CAPO_SWITCH_BY_ANNOUNCE byAnnounce).wr F.CAPO_SWITCH_DETECT_US
    (if byAnnounce then 0 else detectUs)
  (s.wr F.CAPO_TAKEOVER_TIME takeTenthUs).capoCnt 0

/-- The switchover recorded, the time filter begun anew, and the members of the new path shown. -/
def State.settled (s : State) (takeTenthUs : Nat) : State :=
  ((s.recTrigger 0x0060 (takeTenthUs : Int) []).filterReset).showMembers

theorem State.takeover_eq (s : State) (x cause : Nat) (byAnnounce : Bool) (detectUs takeTenthUs : Nat) :
    s.takeover x cause byAnnounce detectUs takeTenthUs =
      ((s.leftFor x).granted x cause byAnnounce detectUs takeTenthUs).settled takeTenthUs := rfl

/-- The registers of the grant and of its record. -/
def grantFlds : List Fld :=
  [F.CAPO_STAT_GRANT, F.CAPO_STAT_STATE, F.CAPO_SWITCH_CAUSE, F.CAPO_SWITCH_BY_ANNOUNCE, F.CAPO_SWITCH_DETECT_US,
    F.CAPO_TAKEOVER_TIME, F.CAPO_CNT_COUNT 0]

/-- What a takeover writes. -/
def takeFlds : List Fld := leaveFlds ++ grantFlds ++ memberFlds

theorem RegStep.granted (s : State) (x cause : Nat) (byAnnounce : Bool) (detectUs takeTenthUs : Nat) :
    RegStep grantFlds s (s.granted x cause byAnnounce detectUs takeTenthUs) := by
  unfold State.granted
  extract_lets u v w
  have hu : RegStep grantFlds s u := ⟨fun _ _ _ => rfl, fun _ => rfl⟩
  have hv : RegStep grantFlds u v := (wrOf u (by decide) _).trans (wrOf _ (by decide) _)
  have hw : RegStep grantFlds v w := ((wrOf v (by decide) _).trans (wrOf _ (by decide) _)).trans (wrOf _ (by decide) _)
  exact ((hu.trans hv).trans hw).trans ((wrOf w (by decide) _).trans (wrOf _ (by decide) _))

theorem RegStep.settled (s : State) (takeTenthUs : Nat) : RegStep memberFlds s (s.settled takeTenthUs) := by
  unfold State.settled
  have hfilter : ∀ u : State, RegStep memberFlds u u.filterReset := fun u => ⟨fun _ _ _ => rfl, fun _ => rfl⟩
  exact ((ofPeg _ (PegFrame.recTrigger s _ _ _)).trans (hfilter _)).trans (ofRing (RingStep.showMembers _))

theorem RegStep.takeover (s : State) (x cause : Nat) (byAnnounce : Bool) (detectUs takeTenthUs : Nat) :
    RegStep takeFlds s (s.takeover x cause byAnnounce detectUs takeTenthUs) := by
  rw [State.takeover_eq]
  refine (((leftFor s x).mono fun f hf => ?_).trans ((granted _ x cause byAnnounce detectUs takeTenthUs).mono
    fun f hf => ?_)).trans ((settled _ takeTenthUs).mono fun f hf => ?_)
  · exact List.mem_append_left _ (List.mem_append_left _ hf)
  · exact List.mem_append_left _ (List.mem_append_right _ hf)
  · exact List.mem_append_right _ hf

/-- What the takeover shows of itself. -/
theorem State.granted_rd (s : State) (x cause : Nat) (byAnnounce : Bool) (detectUs takeTenthUs : Nat) :
    let t := s.granted x cause byAnnounce detectUs takeTenthUs
    t.rd F.CAPO_STAT_GRANT = (x + 1) % 4 ∧ t.rd F.CAPO_STAT_STATE = (x + 1) % 8 ∧
      t.rd F.CAPO_SWITCH_CAUSE = cause % 16 ∧ t.rd F.CAPO_SWITCH_BY_ANNOUNCE = b2n byAnnounce % 2 ∧
      t.rd F.CAPO_SWITCH_DETECT_US = (if byAnnounce then 0 else detectUs) % 2 ^ 16 ∧
      t.rd F.CAPO_TAKEOVER_TIME = takeTenthUs % 2 ^ 16 ∧
      t.rd (F.CAPO_CNT_COUNT 0) = (s.rd (F.CAPO_CNT_COUNT 0) + 1) % 2 ^ 32 := by
  intro t
  simp (disch := decide) only [t, State.granted, State.capoCnt, State.inc_eq, State.wrB, State.rd_wr_same,
    State.rd_wr_other, State.wants_rd]
  exact ⟨rfl, rfl, rfl, rfl, rfl, rfl, rfl⟩

/-- So does the takeover as a whole. -/
theorem State.takeover_rd (s : State) (x cause : Nat) (byAnnounce : Bool) (detectUs takeTenthUs : Nat) :
    let t := s.takeover x cause byAnnounce detectUs takeTenthUs
    t.rd F.CAPO_STAT_GRANT = (x + 1) % 4 ∧ t.rd F.CAPO_STAT_STATE = (x + 1) % 8 ∧
      t.rd F.CAPO_SWITCH_CAUSE = cause % 16 ∧ t.rd F.CAPO_SWITCH_BY_ANNOUNCE = b2n byAnnounce % 2 ∧
      t.rd F.CAPO_SWITCH_DETECT_US = (if byAnnounce then 0 else detectUs) % 2 ^ 16 ∧
      t.rd F.CAPO_TAKEOVER_TIME = takeTenthUs % 2 ^ 16 ∧
      t.rd (F.CAPO_CNT_COUNT 0) = (s.rd (F.CAPO_CNT_COUNT 0) + 1) % 2 ^ 32 := by
  intro t
  have hshown : ∀ f ∈ grantFlds, t.rd f = ((s.leftFor x).granted x cause byAnnounce detectUs takeTenthUs).rd f :=
    fun f hf => (RegStep.settled _ takeTenthUs).rd f ((by decide : ∀ f ∈ grantFlds, pegKey f.key = false) f hf)
      ((by decide : ∀ f ∈ grantFlds, ∀ g ∈ memberFlds, f.key ≠ g.key) f hf)
  have hcount : (s.leftFor x).rd (F.CAPO_CNT_COUNT 0) = s.rd (F.CAPO_CNT_COUNT 0) :=
    (RegStep.leftFor s x).rd _ (by decide) (by decide)
  have h := (s.leftFor x).granted_rd x cause byAnnounce detectUs takeTenthUs
  rw [hcount] at h
  simp only [hshown _ (by decide : F.CAPO_STAT_GRANT ∈ grantFlds), hshown _ (by decide : F.CAPO_STAT_STATE ∈ grantFlds),
    hshown _ (by decide : F.CAPO_SWITCH_CAUSE ∈ grantFlds), hshown _ (by decide : F.CAPO_SWITCH_BY_ANNOUNCE ∈ grantFlds),
    hshown _ (by decide : F.CAPO_SWITCH_DETECT_US ∈ grantFlds), hshown _ (by decide : F.CAPO_TAKEOVER_TIME ∈ grantFlds),
    hshown _ (by decide : F.CAPO_CNT_COUNT 0 ∈ grantFlds)]
  exact h

/-! ## Announcing, switching and SEGMENTED -/

def announceFlds : List Fld := [F.CAPO_STAT_SWITCH_EPOCH, F.CAPO_CNT_COUNT 1]
def segmentedFlds : List Fld := [F.CAPO_STAT_STATE, F.CAPO_CNT_COUNT 4]

theorem RingStep.announce (s : State) (x cause : Nat) : RingStep announceFlds s (s.announce x cause) := by
  unfold State.announce
  extract_lets u
  have hu : RingStep announceFlds s u := (wrOf s (by decide) _).trans (wrOf _ (by decide) _)
  exact hu.trans ((flood u x 5 _).mono (by simp))

theorem State.announce_epoch (s : State) (x cause : Nat) :
    (s.announce x cause).rd F.CAPO_STAT_SWITCH_EPOCH = (s.rd F.CAPO_STAT_SWITCH_EPOCH + 1) % 2 ^ 16 := by
  unfold State.announce
  extract_lets u
  rw [(RingStep.flood u x 5 _).rd _ (by simp)]
  simp (disch := decide) only [u, State.capoCnt, State.inc_eq, State.rd_wr_same, State.rd_wr_other]
  rfl

theorem RegStep.switchTo (s : State) (x cause detectUs takeTenthUs : Nat) :
    RegStep (announceFlds ++ takeFlds) s (s.switchTo x cause detectUs takeTenthUs) :=
  ((ofRing (RingStep.announce s x cause)).mono fun _ hf => List.mem_append_left _ hf).trans
    ((takeover _ x cause false detectUs takeTenthUs).mono fun _ hf => List.mem_append_right _ hf)

/-- What a switchover of this module's own shows. -/
theorem State.switchTo_rd (s : State) (x cause detectUs takeTenthUs : Nat) :
    let t := s.switchTo x cause detectUs takeTenthUs
    t.rd F.CAPO_STAT_GRANT = (x + 1) % 4 ∧ t.rd F.CAPO_STAT_STATE = (x + 1) % 8 ∧
      t.rd F.CAPO_SWITCH_CAUSE = cause % 16 ∧ t.rd F.CAPO_SWITCH_DETECT_US = detectUs % 2 ^ 16 ∧
      t.rd F.CAPO_TAKEOVER_TIME = takeTenthUs % 2 ^ 16 ∧
      t.rd F.CAPO_STAT_SWITCH_EPOCH = (s.rd F.CAPO_STAT_SWITCH_EPOCH + 1) % 2 ^ 16 := by
  intro t
  obtain ⟨hgrant, hstate, hcause, _, hdetect, htake, _⟩ :=
    (s.announce x cause).takeover_rd x cause false detectUs takeTenthUs
  have hepoch : t.rd F.CAPO_STAT_SWITCH_EPOCH = (s.announce x cause).rd F.CAPO_STAT_SWITCH_EPOCH :=
    (RegStep.takeover _ x cause false detectUs takeTenthUs).rd _ (by decide) (by decide)
  exact ⟨hgrant, hstate, hcause, hdetect, htake, hepoch.trans (s.announce_epoch x cause)⟩

theorem RegStep.segmented (s : State) (x : Nat) : RegStep segmentedFlds s (s.segmented x) := by
  unfold State.segmented
  split
  · exact refl _ s
  · exact ((wrOf s (by decide) _).trans (wrOf _ (by decide) _)).trans (ringEvent _ _ x 2)

theorem State.segmented_state (s : State) (x : Nat) : (s.segmented x).rd F.CAPO_STAT_STATE = 3 := by
  unfold State.segmented
  split
  next h => exact h
  next =>
    rw [(RegStep.ringEvent [] _ x 2).rd _ (by decide) (by simp)]
    simp (disch := decide) only [State.capoCnt, State.inc_eq, State.rd_wr_same, State.rd_wr_other]
    rfl

end Sys2Proof.Machine
end

section
/-!
PROOFS. Continuity of a link (R350, R351, R357, R360): a CONTINUITY taken, a miss, the link's fault and its restoration.
-/
namespace Sys2Proof.Machine

/-! ## A CONTINUITY taken -/

/-- What a CONTINUITY leaves in the port's record. -/
def State.contHeard (s : State) (p : Nat) (f : RingFrame) (rxNs : Nat) : State :=
  let s := s.ctlTook p f
  let pl := f.payload
  let said := bits (beAt pl 22 1) 0 2
  let heard := if said = 1 ∨ said = 2 then some (said - 1, beAt pl 23 2) else none
  s.setPortSt p { s.portSt p with good := min 8 ((s.portSt p).good + 1), echo := some (beAt pl 2 8, rxNs), said := heard }

/-- What it shows of the link. -/
def State.contShown (s : State) (p : Nat) (f : RingFrame) (rxNs : Nat) : State :=
  let x := p / 2
  let w := p % 2
  let echo := beAt f.payload 10 8
  let s := (s.wr (F.RING_PORT_STAT_MISSES x w) 0).wr (F.RING_PORT_STAT_NEIGHBOUR x w) (bits f.src.toNat 0 6)
  let s := s.wr (F.RING_PORT_STAT_BLOCK_LOCK x w) 1
  if echo = 0 then s else s.wr (F.RING_PORT_DELAY_NS x w) ((rxNs - echo - beAt f.payload 18 4) / 2)

theorem State.contReceived_eq {s : State} {p : Nat} {f : RingFrame} (rxNs : Nat) (hok : s.ctlOk p 2 f = true) :
    s.contReceived p f rxNs =
      if min 8 (((s.ctlTook p f).portSt p).good + 1) = 8 ∧
          ¬ ((s.contHeard p f rxNs).contShown p f rxNs).isSet (F.RING_PORT_STAT_UP (p / 2) (p % 2)) then
        ((s.contHeard p f rxNs).contShown p f rxNs).linkUp p
      else (s.contHeard p f rxNs).contShown p f rxNs := by
  unfold State.contReceived
  rw [if_neg (not_not.mpr hok)]
  rfl

/-- The registers that a CONTINUITY shows. -/
def contFlds (p : Nat) : List Fld :=
  [F.RING_PORT_STAT_MISSES (p / 2) (p % 2), F.RING_PORT_STAT_NEIGHBOUR (p / 2) (p % 2),
    F.RING_PORT_STAT_BLOCK_LOCK (p / 2) (p % 2), F.RING_PORT_DELAY_NS (p / 2) (p % 2)]

/-- The registers that a link's restoration writes. -/
def upFlds (p : Nat) : List Fld :=
  [F.RING_PORT_STAT_UP (p / 2) (p % 2), F.RING_PORT_STAT_FAULT (p / 2) (p % 2), F.RING_PORT_STAT_LINK_EPOCH (p / 2) (p % 2)]

theorem RingStep.contShown (s : State) (p : Nat) (f : RingFrame) (rxNs : Nat) :
    RingStep (contFlds p) s (s.contShown p f rxNs) := by
  unfold State.contShown
  extract_lets x w echo u v
  have hv : RingStep (contFlds p) s v :=
    ((wrOf s (by simp [contFlds, x, w]) _).trans (wrOf _ (by simp [contFlds, x, w]) _)).trans
      (wrOf _ (by simp [contFlds, x, w]) _)
  split
  · exact hv
  · exact hv.trans (wrOf v (by simp [contFlds, x, w]) _)

theorem State.contShown_rd (s : State) (p : Fin 4) (f : RingFrame) (rxNs : Nat) :
    let t := s.contShown p f rxNs
    t.rd (F.RING_PORT_STAT_MISSES (p.val / 2) (p.val % 2)) = 0 ∧
      t.rd (F.RING_PORT_STAT_NEIGHBOUR (p.val / 2) (p.val % 2)) = f.src.toNat % 64 ∧
      t.rd (F.RING_PORT_STAT_BLOCK_LOCK (p.val / 2) (p.val % 2)) = 1 := by
  have hne : ((contFlds p).map Fld.key).Nodup := by
    revert p
    decide
  simp only [contFlds, List.map_cons, List.map_nil, List.nodup_cons, List.mem_cons, List.not_mem_nil, or_false,
    not_or] at hne
  obtain ⟨⟨hMN, hML, hMD⟩, ⟨hNL, hND⟩, hLD, -⟩ := hne
  intro t
  unfold t State.contShown
  extract_lets x w echo u v
  have hv : v.rd (F.RING_PORT_STAT_MISSES x w) = 0 ∧ v.rd (F.RING_PORT_STAT_NEIGHBOUR x w) = f.src.toNat % 64 ∧
      v.rd (F.RING_PORT_STAT_BLOCK_LOCK x w) = 1 := by
    refine ⟨?_, ?_, ?_⟩
    · rw [State.rd_wr_other _ _ hML, State.rd_wr_other _ _ hMN, State.rd_wr_same]
      rfl
    · rw [State.rd_wr_other _ _ hNL, State.rd_wr_same]
      simp [bits, F.RING_PORT_STAT_NEIGHBOUR]
    · rw [State.rd_wr_same]
      rfl
  split
  · exact hv
  · rw [State.rd_wr_other _ _ hMD, State.rd_wr_other _ _ hND, State.rd_wr_other _ _ hLD]
    exact hv

theorem State.secTook_length (s : State) (p an pn : Nat) : (s.secTook p an pn).ring.ports.length = s.ring.ports.length := by
  unfold State.secTook
  extract_lets r
  split
  · simp [State.setPortSt]
  · split
    · simp [State.setPortSt]
    · rfl

theorem State.contHeard_good (s : State) {p : Nat} (f : RingFrame) (rxNs : Nat) (hp : p < s.ring.ports.length) :
    ((s.contHeard p f rxNs).portSt p).good = min 8 ((s.portSt p).good + 1) := by
  unfold State.contHeard
  extract_lets u pl said heard
  have hlen : p < u.ring.ports.length := by
    exact hp.trans_eq (s.secTook_length p _ _).symm
  rw [State.setPortSt_portSt u _ hlen, (RingStep.ctlTook s p f).good p]

theorem State.contHeard_rd (s : State) (p : Nat) (f : RingFrame) (rxNs : Nat) (g : Fld) :
    (s.contHeard p f rxNs).rd g = s.rd g := (RingStep.ctlTook s p f).rd g (by simp)

theorem State.contHeard_mem (s : State) (p : Nat) (f : RingFrame) (rxNs : Nat) :
    (s.contHeard p f rxNs).mem = s.mem := (RingStep.ctlTook s p f).mem

/-! ## A link restored -/

theorem RingStep.linkUp (s : State) (p : Nat) : RingStep (upFlds p) s (s.linkUp p) := by
  unfold State.linkUp
  extract_lets x w u r v
  have hu : RingStep (upFlds p) s u :=
    ((wrOf s (by simp [upFlds, x, w]) _).trans (wrOf _ (by simp [upFlds, x, w]) _)).trans
      (wrOf _ (by simp [upFlds, x, w]) _)
  have hv : RingStep (upFlds p) s v := hu.trans ((setPortSt u p (by rfl)).mono (by simp))
  split
  · exact hv.trans (((setPath v x (by rfl)).trans (sendCredit _ x true)).mono (by simp))
  · exact hv

theorem State.linkUp_rd (s : State) (p : Fin 4) :
    (s.linkUp p).rd (F.RING_PORT_STAT_UP (p.val / 2) (p.val % 2)) = 1 ∧
      (s.linkUp p).rd (F.RING_PORT_STAT_FAULT (p.val / 2) (p.val % 2)) = 0 ∧
      (s.linkUp p).rd (F.RING_PORT_STAT_LINK_EPOCH (p.val / 2) (p.val % 2)) =
        (s.rd (F.RING_PORT_STAT_LINK_EPOCH (p.val / 2) (p.val % 2)) + 1) % 2 ^ 16 := by
  have hne : ((upFlds p).map Fld.key).Nodup := by
    revert p
    decide
  simp only [upFlds, List.map_cons, List.map_nil, List.nodup_cons, List.mem_cons, List.not_mem_nil, or_false,
    not_or] at hne
  obtain ⟨⟨hUF, hUE⟩, hFE, -⟩ := hne
  unfold State.linkUp
  extract_lets x w u r v _ y
  have hu : u.rd (F.RING_PORT_STAT_UP x w) = 1 ∧ u.rd (F.RING_PORT_STAT_FAULT x w) = 0 ∧
      u.rd (F.RING_PORT_STAT_LINK_EPOCH x w) = (s.rd (F.RING_PORT_STAT_LINK_EPOCH x w) + 1) % 2 ^ 16 := by
    refine ⟨?_, ?_, ?_⟩
    · show (State.wr _ (F.RING_PORT_STAT_LINK_EPOCH x w) _).rd _ = _
      rw [State.rd_wr_other _ _ hUE, State.rd_wr_other _ _ hUF, State.rd_wr_same]
      rfl
    · show (State.wr _ (F.RING_PORT_STAT_LINK_EPOCH x w) _).rd _ = _
      rw [State.rd_wr_other _ _ hFE, State.rd_wr_same]
      rfl
    · show (State.wr _ (F.RING_PORT_STAT_LINK_EPOCH x w) _).rd _ = _
      rw [State.rd_wr_same, State.rd_wr_other _ _ (Ne.symm hFE), State.rd_wr_other _ _ (Ne.symm hUE)]
      rfl
  split
  · obtain ⟨hup, hfault, hepoch⟩ := hu
    have hsent : RingStep [] v (y.sendCredit x true) :=
      (RingStep.setPath v x (by rfl)).trans (RingStep.sendCredit y x true)
    exact ⟨(hsent.rd _ (by simp)).trans hup, (hsent.rd _ (by simp)).trans hfault, (hsent.rd _ (by simp)).trans hepoch⟩
  · exact hu

/-! ## A link's fault -/

/-- A miss at the third in a row: FAULT, UP and LINK_EPOCH of the port, and the count. -/
def State.faultMarked (s : State) (x w : Nat) : State :=
  let s := (s.wr (F.RING_PORT_STAT_FAULT x w) 1).wr (F.RING_PORT_STAT_UP x w) 0
  (s.inc (F.RING_PORT_STAT_LINK_EPOCH x w)).ringCnt x 11

/-- The block lock as it then is, the credit of the link lost, and its path not whole. -/
def State.faultCleared (s : State) (p x w : Nat) : State :=
  let s := s.fresh.2.wr (F.RING_PORT_STAT_BLOCK_LOCK x w) s.fresh.1
  let s := if p = txPort x then
      (List.range 4).foldl (fun s c => s.wr (F.RING_CREDIT_AVAILABLE x c) 0) s
    else
      let s := s.setPath x { s.path x with transit := [] }
      (List.range 4).foldl (fun s c => s.wr (F.RING_CREDIT_HELD x c) 0) s
  let s := s.wr (F.RING_PATH_STAT_WHOLE x) 0
  s.setPath x { s.path x with returned := false, prevOk := false }

/-- What the module does about a link fault on path `x`. -/
def State.faultActed (s : State) (x detectUs takeTenthUs : Nat) : State :=
  if s.activePath = some x then
    let s := s.capoCnt 3
    if s.isSet F.CAPO_STAT_CAPO_STUCK then s
    else if s.whole (1 - x) then s.switchTo (1 - x) 0 detectUs takeTenthUs
    else s.segmented x
  else s.raiseEvent 0x00F0 (unitOf (ringBlk x)) (o1 (unitOf (ringBlk x)))

theorem State.linkFault_eq (s : State) (p detectUs takeTenthUs : Nat) :
    s.linkFault p detectUs takeTenthUs =
      ((s.faultMarked (p / 2) (p % 2)).faultCleared p (p / 2) (p % 2)).faultActed (p / 2) detectUs takeTenthUs := rfl

/-- The registers that a fault marks, and those that it clears. -/
def markFlds (x w : Nat) : List Fld :=
  [F.RING_PORT_STAT_FAULT x w, F.RING_PORT_STAT_UP x w, F.RING_PORT_STAT_LINK_EPOCH x w, F.RING_CNT_COUNT x 11]
def clearFlds (x w : Nat) : List Fld :=
  [F.RING_PORT_STAT_BLOCK_LOCK x w, F.RING_PATH_STAT_WHOLE x] ++ (List.range 4).map (F.RING_CREDIT_AVAILABLE x) ++
    (List.range 4).map (F.RING_CREDIT_HELD x)

theorem State.faultMarked_rd (s : State) (x w : Fin 2) :
    let t := s.faultMarked x w
    t.rd (F.RING_PORT_STAT_FAULT x w) = 1 ∧ t.rd (F.RING_PORT_STAT_UP x w) = 0 ∧
      t.rd (F.RING_PORT_STAT_LINK_EPOCH x w) = (s.rd (F.RING_PORT_STAT_LINK_EPOCH x w) + 1) % 2 ^ 16 ∧
      t.rd (F.RING_CNT_COUNT x 11) = (s.rd (F.RING_CNT_COUNT x 11) + 1) % 2 ^ 32 := by
  have hne : ((markFlds x w).map Fld.key).Nodup := by
    revert x w
    decide
  simp only [markFlds, List.map_cons, List.map_nil, List.nodup_cons, List.mem_cons, List.not_mem_nil, or_false,
    not_or] at hne
  obtain ⟨⟨hFU, hFE, hFC⟩, ⟨hUE, hUC⟩, hEC, -⟩ := hne
  intro t
  simp only [t, State.faultMarked, State.ringCnt, State.inc_eq, State.rd_wr_same, State.rd_wr_other _ _ hFU,
    State.rd_wr_other _ _ hFE, State.rd_wr_other _ _ hFC, State.rd_wr_other _ _ hUE, State.rd_wr_other _ _ hUC,
    State.rd_wr_other _ _ hEC, State.rd_wr_other _ _ (Ne.symm hFE), State.rd_wr_other _ _ (Ne.symm hFC),
    State.rd_wr_other _ _ (Ne.symm hUE), State.rd_wr_other _ _ (Ne.symm hUC), State.rd_wr_other _ _ (Ne.symm hEC)]
  exact ⟨rfl, rfl, rfl, rfl⟩

theorem State.faultMarked_other (s : State) (x w : Nat) {g : Fld} (hg : ∀ f ∈ markFlds x w, g.key ≠ f.key) :
    (s.faultMarked x w).rd g = s.rd g :=
  ((((RingStep.wrOf s (l := markFlds x w) (by simp [markFlds]) _).trans (RingStep.wrOf _ (by simp [markFlds]) _)).trans
    (RingStep.wrOf _ (by simp [markFlds]) _)).trans (RingStep.wrOf _ (by simp [markFlds]) _)).rd g hg

/-- A clearing of one register for each of the four classes. -/
theorem RingStep.clearClasses {l : List Fld} (F : Nat → Fld) (hF : ∀ c ∈ List.range 4, F c ∈ l) (s : State) :
    RingStep l s ((List.range 4).foldl (fun s c => s.wr (F c) 0) s) :=
  foldl _ _ s fun s c hc => wrOf s (hF c hc) 0

theorem State.faultCleared_rd (s : State) (p x w : Nat) :
    (∀ g : Fld, (∀ f ∈ clearFlds x w, g.key ≠ f.key) → (s.faultCleared p x w).rd g = s.rd g) ∧
      (s.faultCleared p x w).rd (F.RING_PATH_STAT_WHOLE x) = 0 := by
  unfold State.faultCleared
  extract_lets u _ _ v y
  have hu : RingStep (clearFlds x w) s.fresh.2 u := RingStep.wrOf _ (by simp [clearFlds]) _
  have hv : ∀ g : Fld, (∀ f ∈ clearFlds x w, g.key ≠ f.key) → v.rd g = u.rd g := fun g hg => by
    unfold v
    split
    · exact (RingStep.clearClasses (l := clearFlds x w) (F.RING_CREDIT_AVAILABLE x) (fun c hc =>
        List.mem_append_left _ (List.mem_append_right _ (List.mem_map_of_mem hc))) u).rd g hg
    · exact ((RingStep.clearClasses (l := clearFlds x w) (F.RING_CREDIT_HELD x) (fun c hc =>
        List.mem_append_right _ (List.mem_map_of_mem hc)) _).rd g hg).trans (State.setPath_rd _ _ _ g)
  refine ⟨fun g hg => ?_, ?_⟩
  · rw [State.setPath_rd]
    exact ((State.rd_wr_other _ 0 (hg _ (by simp [clearFlds]))).trans (hv g hg)).trans (hu.rd g hg)
  · rw [State.setPath_rd, State.rd_wr_same]
    rfl

/-- The registers that may change as the module acts on a link fault. -/
def actFlds : List Fld := F.CAPO_CNT_COUNT 3 :: (announceFlds ++ takeFlds ++ segmentedFlds)

theorem RegStep.faultActed (s : State) (x detectUs takeTenthUs : Nat) :
    RegStep actFlds s (s.faultActed x detectUs takeTenthUs) := by
  unfold State.faultActed
  split
  · extract_lets u
    have hu : RegStep actFlds s u := wrOf s List.mem_cons_self _
    split
    · exact hu
    · split
      · exact hu.trans ((switchTo u (1 - x) 0 detectUs takeTenthUs).mono fun f hf =>
          List.mem_cons_of_mem _ (List.mem_append_left _ hf))
      · exact hu.trans ((segmented u x).mono fun f hf => List.mem_cons_of_mem _ (List.mem_append_right _ hf))
  · exact ofPeg _ (PegFrame.raiseEvent s _ _ _)

/-- On the active path the ring goes to the other path, or is SEGMENTED. -/
theorem State.faultActed_active {s : State} {x : Nat} (detectUs takeTenthUs : Nat) (hact : s.activePath = some x)
    (hstuck : s.isSet F.CAPO_STAT_CAPO_STUCK = false) :
    s.faultActed x detectUs takeTenthUs =
      if s.whole (1 - x) then (s.capoCnt 3).switchTo (1 - x) 0 detectUs takeTenthUs else (s.capoCnt 3).segmented x := by
  have hx := State.activePath_lt hact
  have hcnt : ∀ f ∈ [F.CAPO_STAT_CAPO_STUCK, F.RING_PATH_STAT_WHOLE (1 - x)],
      (s.capoCnt 3).rd f = s.rd f := fun f hf => State.rd_wr_other _ _ (by
    revert f
    interval_cases x <;> decide)
  unfold State.faultActed
  rw [if_pos hact]
  extract_lets u
  have hstuck' : u.isSet F.CAPO_STAT_CAPO_STUCK = false := by
    rw [State.isSet, hcnt _ (by simp)]
    exact hstuck
  have hwhole : u.whole (1 - x) = s.whole (1 - x) := by
    rw [State.whole, State.isSet, hcnt _ (by simp), State.whole, State.isSet]
  rw [hstuck', hwhole]
  rfl

/-! ## A miss -/

/-- A miss counted. -/
def State.missed (s : State) (p : Nat) : State :=
  let s' := (s.setPortSt p { s.portSt p with good := 0 }).ringCnt (p / 2) 10
  s'.wr (F.RING_PORT_STAT_MISSES (p / 2) (p % 2)) (min 3 (s.rd (F.RING_PORT_STAT_MISSES (p / 2) (p % 2)) + 1))

theorem State.contMiss_eq {s : State} {p us : Nat} (take : Nat) (hon : s.isOn (portDom p) = true)
    (hus : 125 * (s.rd (F.RING_PORT_STAT_MISSES (p / 2) (p % 2)) + 1) ≤ us) :
    s.contMiss p us take =
      if s.rd (F.RING_PORT_STAT_MISSES (p / 2) (p % 2)) = 2 then (s.missed p).linkFault p us take else s.missed p := by
  unfold State.contMiss
  extract_lets x w n
  rw [if_pos ⟨hon, hus⟩]
  rfl

def missFlds (p : Nat) : List Fld := [F.RING_PORT_STAT_MISSES (p / 2) (p % 2), F.RING_CNT_COUNT (p / 2) 10]

theorem State.missed_other (s : State) (p : Nat) {g : Fld} (hg : ∀ f ∈ missFlds p, g.key ≠ f.key) :
    (s.missed p).rd g = s.rd g :=
  (State.rd_wr_other _ _ (hg _ (by simp [missFlds]))).trans (State.rd_wr_other _ _ (hg _ (by simp [missFlds])))

theorem State.missed_rd (s : State) (p : Fin 4) :
    (s.missed p).rd (F.RING_PORT_STAT_MISSES (p.val / 2) (p.val % 2)) =
        min 3 (s.rd (F.RING_PORT_STAT_MISSES (p.val / 2) (p.val % 2)) + 1) ∧
      (s.missed p).rd (F.RING_CNT_COUNT (p.val / 2) 10) = (s.rd (F.RING_CNT_COUNT (p.val / 2) 10) + 1) % 2 ^ 32 := by
  have hne : (F.RING_CNT_COUNT (p.val / 2) 10).key ≠ (F.RING_PORT_STAT_MISSES (p.val / 2) (p.val % 2)).key := by
    revert p
    decide
  refine ⟨?_, ?_⟩
  · rw [State.missed, State.rd_wr_same]
    exact Nat.mod_eq_of_lt (by simp only [F.RING_PORT_STAT_MISSES]; omega)
  · rw [State.missed, State.rd_wr_other _ _ hne, State.ringCnt, State.inc_eq, State.rd_wr_same]
    rfl

theorem State.missed_good (s : State) {p : Nat} (hp : p < s.ring.ports.length) : ((s.missed p).portSt p).good = 0 := by
  show ((s.setPortSt p _).portSt p).good = 0
  rw [State.setPortSt_portSt s _ hp]

/-! ## The third miss -/

/-- The fault marked and the link's credit cleared: what the module then acts on. -/
def State.faulted (s : State) (p : Nat) : State := (s.faultMarked (p / 2) (p % 2)).faultCleared p (p / 2) (p % 2)

theorem State.faulted_other (s : State) (p : Nat) {g : Fld}
    (hg : ∀ f ∈ markFlds (p / 2) (p % 2) ++ clearFlds (p / 2) (p % 2), g.key ≠ f.key) :
    (s.faulted p).rd g = s.rd g :=
  ((State.faultCleared_rd _ p _ _).1 g fun f hf => hg f (List.mem_append_right _ hf)).trans
    (State.faultMarked_other s _ _ fun f hf => hg f (List.mem_append_left _ hf))

/-- What a link fault shows of the link, whatever is done about it. -/
theorem State.linkFault_rd (s : State) (p : Fin 4) (detectUs takeTenthUs : Nat) :
    let t := s.linkFault p detectUs takeTenthUs
    t.rd (F.RING_PORT_STAT_FAULT (p.val / 2) (p.val % 2)) = 1 ∧ t.rd (F.RING_PORT_STAT_UP (p.val / 2) (p.val % 2)) = 0 ∧
      t.rd (F.RING_PORT_STAT_LINK_EPOCH (p.val / 2) (p.val % 2)) =
        (s.rd (F.RING_PORT_STAT_LINK_EPOCH (p.val / 2) (p.val % 2)) + 1) % 2 ^ 16 ∧
      t.rd (F.RING_CNT_COUNT (p.val / 2) 11) = (s.rd (F.RING_CNT_COUNT (p.val / 2) 11) + 1) % 2 ^ 32 ∧
      t.rd (F.RING_PATH_STAT_WHOLE (p.val / 2)) = 0 := by
  intro t
  have hacted : ∀ g ∈ F.RING_PATH_STAT_WHOLE (p.val / 2) :: markFlds (p.val / 2) (p.val % 2),
      t.rd g = (s.faulted p).rd g := fun g hg =>
    (RegStep.faultActed (s.faulted p) (p.val / 2) detectUs takeTenthUs).rd g
      ((by decide : ∀ p : Fin 4, ∀ g ∈ F.RING_PATH_STAT_WHOLE (p.val / 2) :: markFlds (p.val / 2) (p.val % 2),
        pegKey g.key = false) p g hg)
      ((by decide : ∀ p : Fin 4, ∀ g ∈ F.RING_PATH_STAT_WHOLE (p.val / 2) :: markFlds (p.val / 2) (p.val % 2),
        ∀ f ∈ actFlds, g.key ≠ f.key) p g hg)
  have hcleared : ∀ g ∈ markFlds (p.val / 2) (p.val % 2),
      (s.faulted p).rd g = (s.faultMarked (p.val / 2) (p.val % 2)).rd g := fun g hg =>
    (State.faultCleared_rd _ p _ _).1 g ((by decide : ∀ p : Fin 4, ∀ g ∈ markFlds (p.val / 2) (p.val % 2),
      ∀ f ∈ clearFlds (p.val / 2) (p.val % 2), g.key ≠ f.key) p g hg)
  have hmark : ∀ g ∈ markFlds (p.val / 2) (p.val % 2), t.rd g = (s.faultMarked (p.val / 2) (p.val % 2)).rd g :=
    fun g hg => (hacted g (List.mem_cons_of_mem _ hg)).trans (hcleared g hg)
  obtain ⟨hfault, hup, hepoch, hcnt⟩ := s.faultMarked_rd ⟨p.val / 2, by omega⟩ ⟨p.val % 2, by omega⟩
  exact ⟨(hmark _ (by simp [markFlds])).trans hfault, (hmark _ (by simp [markFlds])).trans hup,
    (hmark _ (by simp [markFlds])).trans hepoch, (hmark _ (by simp [markFlds])).trans hcnt,
    (hacted _ List.mem_cons_self).trans (State.faultCleared_rd _ p _ _).2⟩

section
variable {s : State} {p : Fin 4} (detectUs takeTenthUs : Nat) (hact : s.activePath = some (p.val / 2))
  (hstuck : s.isSet F.CAPO_STAT_CAPO_STUCK = false)
include hact hstuck

/-- The registers the module's answer to a fault turns on are as they were. -/
theorem State.faulted_reads : (s.faulted p).activePath = some (p.val / 2) ∧
    (s.faulted p).isSet F.CAPO_STAT_CAPO_STUCK = false ∧ (s.faulted p).whole (1 - p.val / 2) = s.whole (1 - p.val / 2) ∧
    (s.faulted p).rd F.CAPO_STAT_SWITCH_EPOCH = s.rd F.CAPO_STAT_SWITCH_EPOCH := by
  have hkept : ∀ g ∈ [F.CAPO_STAT_GRANT, F.CAPO_STAT_CAPO_STUCK, F.CAPO_STAT_SWITCH_EPOCH,
      F.RING_PATH_STAT_WHOLE (1 - p.val / 2)], (s.faulted p).rd g = s.rd g := fun g hg =>
    State.faulted_other s p ((by decide : ∀ p : Fin 4, ∀ g ∈ [F.CAPO_STAT_GRANT, F.CAPO_STAT_CAPO_STUCK,
      F.CAPO_STAT_SWITCH_EPOCH, F.RING_PATH_STAT_WHOLE (1 - p.val / 2)],
      ∀ f ∈ markFlds (p.val / 2) (p.val % 2) ++ clearFlds (p.val / 2) (p.val % 2), g.key ≠ f.key) p g hg)
  refine ⟨(State.activePath_congr (hkept _ (by simp))).trans hact, ?_, ?_, hkept _ (by simp)⟩
  · rw [State.isSet, hkept _ (by simp)]
    exact hstuck
  · rw [State.whole, State.isSet, hkept _ (by simp), State.whole, State.isSet]

/-- The fault of the active path's link moves the ring to the other path where that is whole. -/
theorem State.linkFault_switches (hwhole : s.whole (1 - p.val / 2) = true) :
    s.linkFault p detectUs takeTenthUs = ((s.faulted p).capoCnt 3).switchTo (1 - p.val / 2) 0 detectUs takeTenthUs ∧
      ((s.faulted p).capoCnt 3).rd F.CAPO_STAT_SWITCH_EPOCH = s.rd F.CAPO_STAT_SWITCH_EPOCH := by
  obtain ⟨hact', hstuck', hwhole', hepoch⟩ := State.faulted_reads hact hstuck
  refine ⟨?_, (State.rd_wr_other _ _ (by decide)).trans hepoch⟩
  have h := State.faultActed_active detectUs takeTenthUs hact' hstuck'
  rw [hwhole', if_pos hwhole] at h
  exact (State.linkFault_eq s p _ _).trans h

/-- Where it is not whole the ring is SEGMENTED. -/
theorem State.linkFault_segments (hwhole : s.whole (1 - p.val / 2) = false) :
    s.linkFault p detectUs takeTenthUs = ((s.faulted p).capoCnt 3).segmented (p.val / 2) := by
  obtain ⟨hact', hstuck', hwhole', _⟩ := State.faulted_reads hact hstuck
  have h := State.faultActed_active detectUs takeTenthUs hact' hstuck'
  rw [hwhole', if_neg (by rw [hwhole]; decide)] at h
  exact (State.linkFault_eq s p _ _).trans h

end

/-- The registers that the third miss on a link leaves to its fault. -/
theorem State.missed_reads (s : State) (p : Fin 4) :
    (s.missed p).activePath = s.activePath ∧ (s.missed p).isSet F.CAPO_STAT_CAPO_STUCK = s.isSet F.CAPO_STAT_CAPO_STUCK ∧
      (s.missed p).whole (1 - p.val / 2) = s.whole (1 - p.val / 2) ∧
      (s.missed p).rd F.CAPO_STAT_SWITCH_EPOCH = s.rd F.CAPO_STAT_SWITCH_EPOCH := by
  have hkept : ∀ g ∈ [F.CAPO_STAT_GRANT, F.CAPO_STAT_CAPO_STUCK, F.CAPO_STAT_SWITCH_EPOCH,
      F.RING_PATH_STAT_WHOLE (1 - p.val / 2)], (s.missed p).rd g = s.rd g := fun g hg =>
    State.missed_other s p ((by decide : ∀ p : Fin 4, ∀ g ∈ [F.CAPO_STAT_GRANT, F.CAPO_STAT_CAPO_STUCK,
      F.CAPO_STAT_SWITCH_EPOCH, F.RING_PATH_STAT_WHOLE (1 - p.val / 2)], ∀ f ∈ missFlds p, g.key ≠ f.key) p g hg)
  refine ⟨State.activePath_congr (hkept _ (by simp)), ?_, ?_, hkept _ (by simp)⟩
  · rw [State.isSet, hkept _ (by simp), State.isSet]
  · rw [State.whole, State.isSet, hkept _ (by simp), State.whole, State.isSet]

/-! ## The commands -/

/-- A CONTINUITY taken, before it brings the link up. -/
def State.contSeen (s : State) (p : Nat) (f : RingFrame) (rxNs : Nat) : State :=
  (s.contHeard p f rxNs).contShown p f rxNs

section
variable (s : State) (p : Fin 4) (f : RingFrame) (rxNs : Nat)

theorem State.contSeen_other {g : Fld} (hg : ∀ f ∈ contFlds p, g.key ≠ f.key) : (s.contSeen p f rxNs).rd g = s.rd g :=
  ((RingStep.contShown _ p f rxNs).rd g hg).trans (s.contHeard_rd p f rxNs g)

/-- UP and LINK_EPOCH of the port are as they were. -/
theorem State.contSeen_link : ∀ g ∈ upFlds p, (s.contSeen p f rxNs).rd g = s.rd g := fun g hg =>
  s.contSeen_other p f rxNs ((by decide : ∀ p : Fin 4, ∀ g ∈ upFlds p, ∀ f ∈ contFlds p, g.key ≠ f.key) p g hg)

/-- The eighth CONTINUITY in a row brings a link up that is not up; any other leaves it. -/
theorem State.contReceived_cases (hok : s.ctlOk p 2 f = true) :
    (s.contReceived p f rxNs = (s.contSeen p f rxNs).linkUp p ∧
      ¬ ((s.portSt p).good < 7 ∨ s.isSet (F.RING_PORT_STAT_UP (p.val / 2) (p.val % 2)) = true)) ∨
    (s.contReceived p f rxNs = s.contSeen p f rxNs ∧
      ¬ (7 ≤ (s.portSt p).good ∧ s.isSet (F.RING_PORT_STAT_UP (p.val / 2) (p.val % 2)) = false)) := by
  have hup : (s.contSeen p f rxNs).isSet (F.RING_PORT_STAT_UP (p.val / 2) (p.val % 2)) =
      s.isSet (F.RING_PORT_STAT_UP (p.val / 2) (p.val % 2)) := by
    rw [State.isSet, s.contSeen_link p f rxNs _ (by simp [upFlds]), State.isSet]
  have heq := State.contReceived_eq rxNs hok
  rw [← State.contSeen, hup, (RingStep.ctlTook s p f).good p] at heq
  rw [heq]
  split
  next h =>
    obtain ⟨hgood, hdown⟩ := h
    refine Or.inl ⟨rfl, fun hor => hor.elim (fun hlt => ?_) hdown⟩
    omega
  next h =>
    refine Or.inr ⟨rfl, fun hand => h ⟨?_, by rw [hand.2]; decide⟩⟩
    omega

end

theorem contFlds_notRun : ∀ p : Fin 4, ∀ g ∈ contFlds p ++ upFlds p, g.addr % 0x10000 ≠ 0xFF00 ∧ g.lo < 32 := by decide

/-- What the port and its link show once a CONTINUITY is taken. -/
theorem State.contReceived_shown {s : State} {p : Fin 4} {f : RingFrame} (rxNs : Nat) (hok : s.ctlOk p 2 f = true)
    (hlen : s.ring.ports.length = 4) :
    let t := s.contReceived p f rxNs
    (t.portSt p).good = min 8 ((s.portSt p).good + 1) ∧
      t.rd (F.RING_PORT_STAT_MISSES (p.val / 2) (p.val % 2)) = 0 ∧
      t.rd (F.RING_PORT_STAT_NEIGHBOUR (p.val / 2) (p.val % 2)) = f.src.toNat % 64 ∧
      t.rd (F.RING_PORT_STAT_BLOCK_LOCK (p.val / 2) (p.val % 2)) = 1 ∧ t.mem = s.mem := by
  have hgood := s.contHeard_good f rxNs (by rw [hlen]; exact p.isLt)
  have hshown := RingStep.contShown (s.contHeard p f rxNs) p f rxNs
  have hlink := RingStep.linkUp (s.contSeen p f rxNs) p
  obtain ⟨hmiss, hneigh, hlock⟩ := (s.contHeard p f rxNs).contShown_rd p f rxNs
  have hgood' : ((s.contSeen p f rxNs).portSt p).good = min 8 ((s.portSt p).good + 1) := (hshown.good p).trans hgood
  have hmem : (s.contSeen p f rxNs).mem = s.mem := hshown.mem.trans (s.contHeard_mem p f rxNs)
  intro t
  rcases s.contReceived_cases p f rxNs hok with ⟨heq, -⟩ | ⟨heq, -⟩
  · have hkept : ∀ g ∈ contFlds p, t.rd g = (s.contSeen p f rxNs).rd g := fun g hg => by
      rw [show t = _ from heq]
      exact hlink.rd g ((by decide : ∀ p : Fin 4, ∀ g ∈ contFlds p, ∀ f ∈ upFlds p, g.key ≠ f.key) p g hg)
    refine ⟨?_, (hkept _ (by simp [contFlds])).trans hmiss, (hkept _ (by simp [contFlds])).trans hneigh,
      (hkept _ (by simp [contFlds])).trans hlock, ?_⟩
    · rw [show t = _ from heq, hlink.good p, hgood']
    · rw [show t = _ from heq, hlink.mem, hmem]
  · rw [show t = _ from heq]
    exact ⟨hgood', hmiss, hneigh, hlock, hmem⟩

/-- A miss, and the third in a row. -/
theorem exec_continuityMiss (p : Fin 4) (us take : BitVec 16) (s : State) (hon : s.isOn (portDom p) = true)
    (hus : 125 * (s.rd (F.RING_PORT_STAT_MISSES (p.val / 2) (p.val % 2)) + 1) ≤ us.toNat) :
    exec (.continuityMiss p us take) s = .next (s.ended
      (if s.rd (F.RING_PORT_STAT_MISSES (p.val / 2) (p.val % 2)) = 2 then (s.missed p).linkFault p us.toNat take.toNat
        else s.missed p)) := by
  rw [← State.contMiss_eq take.toNat hon hus]
  exact finish_ended s _

/-- Settles O44, by what a CONTINUITY, a miss and a link's fault write, and by the takeover of the other path. -/
theorem ringContinuity : Obligations.RingContinuity := by
  refine ⟨fun p f rx s hok hlen => ?_, fun p us take s hon hus => ⟨fun hfew hlen => ?_, fun hthird => ?_⟩⟩
  · have hrun : ∀ g ∈ contFlds p ++ upFlds p, ∀ u, (s.ended u).rd g = u.rd g := fun g hg u =>
      State.ended_rd _ _ (Fld.notRun (contFlds_notRun p g hg))
    obtain ⟨hgood, hmiss, hneigh, hlock, hmem⟩ := State.contReceived_shown rx.toNat hok hlen
    refine ⟨_, finish_ended s (s.contReceived p f rx.toNat), ?_⟩
    rw [State.ended_portSt, hrun _ (by simp [contFlds]), hrun _ (by simp [contFlds]), hrun _ (by simp [contFlds]),
      hrun (F.RING_PORT_STAT_UP (p.val / 2) (p.val % 2)) (by simp [upFlds]), hrun _ (by simp [upFlds]),
      hrun _ (by simp [upFlds])]
    refine ⟨hgood, hmiss, hneigh, hlock, State.ended_memKept hmem, fun hseven hdown => ?_, fun hor => ?_⟩
    · rcases s.contReceived_cases p f rx.toNat hok with ⟨heq, -⟩ | ⟨-, hno⟩
      · obtain ⟨hup, hfault, hepoch⟩ := (s.contSeen p f rx.toNat).linkUp_rd p
        rw [s.contSeen_link p f rx.toNat _ (by simp [upFlds])] at hepoch
        rw [heq]
        exact ⟨hup, hfault, hepoch⟩
      · exact absurd ⟨hseven, hdown⟩ hno
    · rcases s.contReceived_cases p f rx.toNat hok with ⟨-, hno⟩ | ⟨heq, -⟩
      · exact absurd hor hno
      · rw [heq]
        exact State.ended_regsKept fun g hg => s.contSeen_other p f rx.toNat hg
  · refine ⟨_, exec_continuityMiss p us take s hon hus, ?_⟩
    have hrun : ∀ g ∈ missFlds p, ∀ u, (s.ended u).rd g = u.rd g := fun g hg u =>
      State.ended_rd _ _ (Fld.notRun ((by decide : ∀ p : Fin 4, ∀ g ∈ missFlds p,
        g.addr % 0x10000 ≠ 0xFF00 ∧ g.lo < 32) p g hg))
    obtain ⟨hmiss, hcnt⟩ := s.missed_rd p
    rw [if_neg (by omega), State.ended_portSt, hrun _ (by simp [missFlds]), hrun _ (by simp [missFlds])]
    refine ⟨s.missed_good (by rw [hlen]; exact p.isLt), by rw [hmiss]; omega, hcnt,
      State.ended_regsKept fun g hg => s.missed_other p hg, State.ended_memKept rfl⟩
  · refine ⟨_, exec_continuityMiss p us take s hon hus, ?_⟩
    have hrun : ∀ g ∈ F.RING_PATH_STAT_WHOLE (p.val / 2) :: markFlds (p.val / 2) (p.val % 2), ∀ u,
        (s.ended u).rd g = u.rd g := fun g hg u =>
      State.ended_rd _ _ (Fld.notRun ((by decide : ∀ p : Fin 4,
        ∀ g ∈ F.RING_PATH_STAT_WHOLE (p.val / 2) :: markFlds (p.val / 2) (p.val % 2),
          g.addr % 0x10000 ≠ 0xFF00 ∧ g.lo < 32) p g hg))
    have hcapo : ∀ g ∈ announceFlds ++ grantFlds, ∀ u, (s.ended u).rd g = u.rd g := fun g hg u =>
      State.ended_rd _ _ (Fld.notRun ((by decide : ∀ g ∈ announceFlds ++ grantFlds,
        g.addr % 0x10000 ≠ 0xFF00 ∧ g.lo < 32) g hg))
    have hmissed : ∀ g ∈ markFlds (p.val / 2) (p.val % 2), (s.missed p).rd g = s.rd g := fun g hg =>
      s.missed_other p ((by decide : ∀ p : Fin 4, ∀ g ∈ markFlds (p.val / 2) (p.val % 2),
        ∀ f ∈ missFlds p, g.key ≠ f.key) p g hg)
    obtain ⟨hfault, hup, hepoch, hcnt, hwhole⟩ := (s.missed p).linkFault_rd p us.toNat take.toNat
    obtain ⟨hactM, hstuckM, hwholeM, hepochM⟩ := s.missed_reads p
    rw [if_pos hthird, hrun _ (by simp [markFlds]), hrun _ (by simp [markFlds]), hrun _ (by simp [markFlds]),
      hrun _ (by simp [markFlds]), hrun _ List.mem_cons_self, hepoch, hcnt, hmissed _ (by simp [markFlds]),
      hmissed _ (by simp [markFlds])]
    refine ⟨hfault, hup, rfl, rfl, hwhole, fun hact hstuck hother => ?_, fun hact hstuck hother => ?_⟩
    · obtain ⟨heq, hepoch'⟩ := State.linkFault_switches us.toNat take.toNat (hactM.trans hact) (hstuckM.trans hstuck)
        (hwholeM.trans hother)
      obtain ⟨hgrant, hstate, hcause, hdetect, htake, hsw⟩ :=
        (((s.missed p).faulted p).capoCnt 3).switchTo_rd (1 - p.val / 2) 0 us.toNat take.toNat
      simp only [hcapo F.CAPO_STAT_GRANT (by decide), hcapo F.CAPO_STAT_STATE (by decide),
        hcapo F.CAPO_SWITCH_CAUSE (by decide), hcapo F.CAPO_SWITCH_DETECT_US (by decide),
        hcapo F.CAPO_TAKEOVER_TIME (by decide), hcapo F.CAPO_STAT_SWITCH_EPOCH (by decide), heq]
      exact ⟨hgrant.trans (by omega), hstate.trans (by omega), hcause, hdetect.trans (Nat.mod_eq_of_lt us.isLt),
        htake.trans (Nat.mod_eq_of_lt take.isLt), hsw.trans (by rw [hepoch', hepochM])⟩
    · rw [hcapo F.CAPO_STAT_STATE (by decide), State.linkFault_segments us.toNat take.toNat (hactM.trans hact)
        (hstuckM.trans hstuck) (hwholeM.trans hother)]
      exact State.segmented_state _ _

end Sys2Proof.Machine
end

section
/-!
PROOFS. Probes and announcements (R352 to R354, R357): a probe sent, passed on and come back, and an ANNOUNCE followed.
-/
namespace Sys2Proof.Machine

/-! ## Probes sent -/

/-- The outcome of the probe before on path `x` judged, and the next one counted. -/
def State.probeJudged (s : State) (x : Nat) : State :=
  let r := s.path x
  (s.wrB (F.RING_PATH_STAT_WHOLE x) (r.returned && r.prevOk && s.engRuns x)).setPath x
    { r with prevOk := r.returned, returned := false, probeSeq := (r.probeSeq + 1) % 2 ^ 32 }

/-- A probe of this module on path `x`. -/
def State.probeFrame (s : State) (x : Nat) : RingFrame :=
  s.ctlFrame x 4 (octetsBE 4 (s.path x).probeSeq ++
    octetsBE 1 (b2n s.ring.heUp + 2 * b2n ((s.path (1 - x)).join == 2)))

/-- The probes of path `x`. -/
def State.probeOne (s : State) (x : Nat) : State :=
  if (s.path x).join = 2 ∧ (s.probeJudged x).engRuns x then
    (s.probeJudged x).ringSend (txPort x) ((s.probeJudged x).probeFrame x) false
  else s.probeJudged x

/-- The time of the probes taken. -/
def State.probeTimed (s : State) : State := { s with ring := { s.ring with probeAt := some s.sys.refTick } }

theorem State.probeSend_eq {s : State} (h : s.probeDue = true) :
    s.probeSend = ((s.probeTimed.probeOne 0).probeOne 1).showMembers := by
  unfold State.probeSend
  rw [if_neg (not_not.mpr h)]
  rfl

theorem State.engRuns_congr {s t : State} {x : Nat} (hdom : t.rd (F.PWR_DOM_STATE_STATE (engDom x)) =
    s.rd (F.PWR_DOM_STATE_STATE (engDom x))) (hrun : t.rd (F.STATE_RUN (ringBlk x)) = s.rd (F.STATE_RUN (ringBlk x))) :
    t.engRuns x = s.engRuns x := by
  rw [State.engRuns, State.isOn, State.dom, hdom, State.run, State.isSet, hrun, State.engRuns, State.isOn, State.dom,
    State.run, State.isSet]

/-- What path `x`'s probes leave: one register, the other path, and what was sent. -/
structure ProbeStep (x : Nat) (s t : State) : Prop where
  rd : ∀ g : Fld, g.key ≠ (F.RING_PATH_STAT_WHOLE x).key → t.rd g = s.rd g
  whole : t.rd (F.RING_PATH_STAT_WHOLE x) = b2n ((s.path x).returned && (s.path x).prevOk && s.engRuns x)
  rest : t.offRing = s.offRing
  probeSeq : (t.path x).probeSeq = ((s.path x).probeSeq + 1) % 2 ^ 32
  returned : (t.path x).returned = false
  prevOk : (t.path x).prevOk = (s.path x).returned
  other : ∀ y, ¬ (x = 0 ↔ y = 0) → (t.path y).core = (s.path y).core
  out : ∃ o, t.out = o ++ s.out
  sent : (s.path x).join = 2 → s.engRuns x = true → s.isOn (portDom (txPort x)) = true → s.saOk (txPort x) = true →
    SentAt (txPort x) (fun f => f.typ = 4) s t

theorem State.probeJudged_rd (s : State) (x : Nat) {g : Fld} (hg : g.key ≠ (F.RING_PATH_STAT_WHOLE x).key) :
    (s.probeJudged x).rd g = s.rd g := by
  rw [State.probeJudged, State.setPath_rd]
  exact s.rd_wr_other _ hg

theorem State.probeJudged_whole (s : State) (x : Nat) :
    (s.probeJudged x).rd (F.RING_PATH_STAT_WHOLE x) = b2n ((s.path x).returned && (s.path x).prevOk && s.engRuns x) := by
  rw [State.probeJudged, State.setPath_rd, State.wrB, State.rd_wr_same]
  exact Nat.mod_eq_of_lt (b2n_lt_two _)

/-- What names and opens a path's outgoing port is not written by its probes. -/
theorem probe_keys (x : Fin 2) : ∀ g ∈ F.PWR_DOM_STATE_STATE (engDom x) :: F.STATE_RUN (ringBlk x) :: portFlds (txPort x),
    ∀ y : Fin 2, g.key ≠ (F.RING_PATH_STAT_WHOLE y).key := by
  revert x
  decide

theorem RingStep.probeSent (s : State) (x : Nat) : RingStep [] (s.probeJudged x) (s.probeOne x) := by
  unfold State.probeOne
  split
  · exact ringSend _ _ _ false
  · exact refl [] _

/-- One path's probes. -/
theorem ProbeStep.probeOne (s : State) (x : Fin 2) : ProbeStep x s (s.probeOne x) := by
  have hsent := RingStep.probeSent s x
  have hpath : (s.probeJudged x).path x =
      { s.path x with prevOk := (s.path x).returned, returned := false, probeSeq := ((s.path x).probeSeq + 1) % 2 ^ 32 } :=
    State.setPath_path_same _ _ _
  have hkeys : ∀ g ∈ F.PWR_DOM_STATE_STATE (engDom x) :: F.STATE_RUN (ringBlk x) :: portFlds (txPort x),
      (s.probeJudged x).rd g = s.rd g := fun g hg => s.probeJudged_rd x (probe_keys x g hg x)
  refine ⟨fun g hg => ?_, ?_, ?_, ?_, ?_, ?_, fun y hy => ?_, ?_, fun hjoin hrun hon hsa => ?_⟩
  · exact (hsent.rd g (by simp)).trans (s.probeJudged_rd x hg)
  · exact (hsent.rd _ (by simp)).trans (s.probeJudged_whole x)
  · exact hsent.rest.trans (State.setPath_offRing _ _ _)
  · rw [hsent.ofCore x RingPathState.probeSeq fun _ => rfl, hpath]
  · rw [hsent.returned x, hpath]
  · rw [hsent.ofCore x RingPathState.prevOk fun _ => rfl, hpath]
  · rw [hsent.core y, State.probeJudged, State.setPath_path, if_neg hy]
    rfl
  · obtain ⟨o, ho⟩ := hsent.out
    exact ⟨o, ho.trans (congrArg (o ++ ·) (State.setPath_out _ _ _))⟩
  · have hport : ∀ g ∈ portFlds (txPort x), (s.probeJudged x).rd g = s.rd g := fun g hg =>
      hkeys g (List.mem_cons_of_mem _ (List.mem_cons_of_mem _ hg))
    obtain ⟨hon', hsa'⟩ := State.ready_of_portFlds hport
    have hrun' : (s.probeJudged x).engRuns x = true :=
      (State.engRuns_congr (hkeys _ (by simp)) (hkeys _ (by simp))).trans hrun
    have hframe : SentAt (txPort x) (fun f => f.typ = 4) (s.probeJudged x) (s.probeOne x) := by
      rw [State.probeOne, if_pos ⟨hjoin, hrun'⟩]
      exact ⟨[_], _, State.ringSend_out _ _ false (hon'.trans hon) (hsa'.trans hsa), List.mem_singleton_self _, rfl⟩
    exact hframe.before hport ⟨[], State.setPath_out _ _ _⟩

/-- The probes of both paths. -/
theorem State.probeSend_both (s : State) (x : Fin 2) :
    let t := (s.probeTimed.probeOne 0).probeOne 1
    t.rd (F.RING_PATH_STAT_WHOLE x) = b2n ((s.path x).returned && (s.path x).prevOk && s.engRuns x) ∧
      (t.path x).probeSeq = ((s.path x).probeSeq + 1) % 2 ^ 32 ∧ (t.path x).returned = false ∧
      (t.path x).prevOk = (s.path x).returned ∧
      ((s.path x).join = 2 → s.engRuns x = true → s.isOn (portDom (txPort x)) = true → s.saOk (txPort x) = true →
        SentAt (txPort x) (fun f => f.typ = 4) s t) := by
  have hA : ProbeStep 0 s.probeTimed (s.probeTimed.probeOne 0) := ProbeStep.probeOne s.probeTimed 0
  have hB : ProbeStep 1 (s.probeTimed.probeOne 0) _ := ProbeStep.probeOne (s.probeTimed.probeOne 0) 1
  intro t
  match x with
  | 0 =>
    have hcore : (t.path 0).core = ((s.probeTimed.probeOne 0).path 0).core := hB.other 0 (by decide)
    have hof : ∀ {α : Type} (f : RingPathState → α), (∀ r : RingPathState, f r.core = f r) →
        f (t.path 0) = f ((s.probeTimed.probeOne 0).path 0) := fun f hf => by rw [← hf, hcore, hf]
    exact ⟨(hB.rd _ (by decide)).trans hA.whole, (hof RingPathState.probeSeq fun _ => rfl).trans hA.probeSeq,
      (hof RingPathState.returned fun _ => rfl).trans hA.returned, (hof RingPathState.prevOk fun _ => rfl).trans hA.prevOk,
      fun hjoin hrun hon hsa => (hA.sent hjoin hrun hon hsa).after hB.out⟩
  | 1 =>
    have hcore : ((s.probeTimed.probeOne 0).path 1).core = (s.path 1).core := hA.other 1 (by decide)
    have hof : ∀ {α : Type} (f : RingPathState → α), (∀ r : RingPathState, f r.core = f r) →
        f ((s.probeTimed.probeOne 0).path 1) = f (s.path 1) := fun f hf => by rw [← hf, hcore, hf]
    have hkept : ∀ g ∈ F.PWR_DOM_STATE_STATE (engDom 1) :: F.STATE_RUN (ringBlk 1) :: portFlds (txPort 1),
        (s.probeTimed.probeOne 0).rd g = s.rd g := fun g hg => hA.rd g (probe_keys 1 g hg 0)
    have hport : ∀ g ∈ portFlds (txPort 1), (s.probeTimed.probeOne 0).rd g = s.rd g := fun g hg =>
      hkept g (List.mem_cons_of_mem _ (List.mem_cons_of_mem _ hg))
    have hruns : (s.probeTimed.probeOne 0).engRuns 1 = s.engRuns 1 :=
      State.engRuns_congr (hkept _ (by simp)) (hkept _ (by simp))
    obtain ⟨honEq, hsaEq⟩ := State.ready_of_portFlds hport
    have hret := hof RingPathState.returned fun _ => rfl
    refine ⟨hB.whole.trans ?_, hB.probeSeq.trans ?_, hB.returned, hB.prevOk.trans hret, fun hjoin hrun hon hsa => ?_⟩
    · rw [hret, hof RingPathState.prevOk fun _ => rfl, hruns]
      rfl
    · rw [hof RingPathState.probeSeq fun _ => rfl]
      rfl
    · exact (hB.sent ((hof RingPathState.join fun _ => rfl).trans hjoin) (hruns.trans hrun) (honEq.trans hon)
        (hsaEq.trans hsa)).before hport hA.out

/-- A register outside some blocks is none of the registers within them. -/
theorem ne_of_blocks {l : List Fld} {bs : List Nat} {g : Fld} (hl : ∀ f ∈ l, ∃ b ∈ bs, inBlock b f.key = true)
    (hg : ∀ b ∈ bs, inBlock b g.key = false) : ∀ f ∈ l, g.key ≠ f.key := fun f hf heq => by
  obtain ⟨b, hb, hin⟩ := hl f hf
  rw [← heq, hg b hb] at hin
  exact absurd hin (by decide)

/-- The probes of both paths, as the members are then shown. -/
theorem State.probeSend_shown {s : State} (hdue : s.probeDue = true) :
    (∀ g : Fld, (∀ b ∈ [bRINGA, bRINGB, bCAPO], inBlock b g.key = false) → s.probeSend.rd g = s.rd g) ∧
      s.probeSend.mem = s.mem := by
  have hA : ProbeStep 0 s.probeTimed (s.probeTimed.probeOne 0) := ProbeStep.probeOne s.probeTimed 0
  have hB : ProbeStep 1 (s.probeTimed.probeOne 0) _ := ProbeStep.probeOne (s.probeTimed.probeOne 0) 1
  have hM := RingStep.showMembers ((s.probeTimed.probeOne 0).probeOne 1)
  rw [State.probeSend_eq hdue]
  refine ⟨fun g hg => ?_, hM.mem.trans ?_⟩
  · have hwhole : ∀ f ∈ [F.RING_PATH_STAT_WHOLE 0, F.RING_PATH_STAT_WHOLE 1], g.key ≠ f.key :=
      ne_of_blocks (by decide) hg
    exact ((hM.rd g (ne_of_blocks (by decide) hg)).trans (hB.rd g (hwhole _ (by simp)))).trans
      (hA.rd g (hwhole _ (by simp)))
  · have htimed : (s.probeTimed.probeOne 0).mem = s.probeTimed.mem := State.mem_of_offRing hA.rest
    exact (State.mem_of_offRing hB.rest).trans htimed

/-! ## A probe taken -/

/-- The state in which the members of the paths are shown is otherwise as it was. -/
theorem State.showMembers_out (s : State) : s.showMembers.out = s.out := by
  unfold State.showMembers
  extract_lets x u
  split
  · rfl
  · rfl

theorem State.ctlTook_out (s : State) (p : Nat) (f : RingFrame) : (s.ctlTook p f).out = s.out := by
  unfold State.ctlTook State.secTook
  extract_lets r
  split
  · rfl
  · split
    · rfl
    · rfl

/-- What port `p` sends a frame by is as it was. -/
structure PortKept (p : Nat) (s t : State) : Prop where
  rd : ∀ g ∈ portFlds p, t.rd g = s.rd g
  portSt : t.portSt p = s.portSt p

namespace PortKept

theorem trans {p : Nat} {s t u : State} (h : PortKept p s t) (k : PortKept p t u) : PortKept p s u :=
  ⟨fun g hg => (k.rd g hg).trans (h.rd g hg), k.portSt.trans h.portSt⟩

theorem setPath (p : Nat) (s : State) (x : Nat) (r : RingPathState) : PortKept p s (s.setPath x r) :=
  ⟨fun g _ => s.setPath_rd x r g, s.setPath_portSt x p r⟩

theorem wr {p : Nat} (s : State) {f : Fld} (hf : ∀ g ∈ portFlds p, g.key ≠ f.key) (v : Nat) : PortKept p s (s.wr f v) :=
  ⟨fun g hg => s.rd_wr_other v (hf g hg), rfl⟩

theorem ctlTook {p q : Nat} (s : State) (f : RingFrame) (h : p ≠ q) : PortKept p s (s.ctlTook q f) :=
  ⟨fun g _ => (RingStep.ctlTook s q f).rd g (by simp), s.ctlTook_portSt_other f h⟩

section
variable {p : Nat} {s t : State} (h : PortKept p s t)
include h

theorem isOn : t.isOn (portDom p) = s.isOn (portDom p) := (State.ready_of_portFlds h.rd).1
theorem saOk : t.saOk p = s.saOk p := (State.ready_of_portFlds h.rd).2

theorem secSci : t.secSci p = s.secSci p := by
  rw [State.secSci, State.ringMac, h.rd _ (by simp [portFlds]), h.rd _ (by simp [portFlds]), State.secSci, State.ringMac]

theorem secSsci : t.secSsci p = s.secSsci p := by
  rw [State.secSsci, h.rd _ (by simp [portFlds]), State.secSsci]

theorem tagged (f : RingFrame) : t.tagged p f = s.tagged p f := by
  have hpn : t.txTag p = s.txTag p := by rw [State.txTag, h.portSt, State.txTag]
  rw [State.tagged, hpn, State.tagged]

/-- A frame sent at the port is named as it would have been before. -/
theorem send (f : RingFrame) (bad : Bool) (hon : s.isOn (portDom p) = true) (hsa : s.saOk p = true) :
    (t.ringSend p f bad).out = .ring p (s.secSci p) (s.secSsci p) (s.tagged p f) bad :: t.out := by
  rw [State.ringSend_out t f bad (h.isOn.trans hon) (h.saOk.trans hsa), h.secSci, h.secSsci, h.tagged]

end
end PortKept

/-- Another module's probe noted. -/
def State.probeNoted (s : State) (x : Nat) (f : RingFrame) : State :=
  (s.ctlTook (rxPort x) f).setPath x
    { (s.ctlTook (rxPort x) f).path x with
      seen := ((s.ctlTook (rxPort x) f).path x).seen.set (f.src.toNat % 64)
        ((s.ctlTook (rxPort x) f).sys.refTick, beAt f.payload 4 1) }

theorem State.probeReceived_other {s : State} {x : Nat} {f : RingFrame} (rtt : Nat) (hok : s.ctlOk (rxPort x) 4 f = true)
    (hsrc : f.src.toNat ≠ s.ringId) (hring : f.src.toNat / 64 = s.rd F.CAPO_RING_ID_RING) :
    s.probeReceived x f rtt =
      (if (s.path x).join = 2 then (s.probeNoted x f).ringSend (txPort x) f false else s.probeNoted x f).showMembers := by
  have hrd : ∀ k, (s.ctlTook (rxPort x) f).rd k = s.rd k := fun k => (RingStep.ctlTook s _ f).rd k (by simp)
  have hid : (s.ctlTook (rxPort x) f).ringId = s.ringId := by
    rw [State.ringId, hrd, hrd, State.ringId]
  have hjoin : ((s.ctlTook (rxPort x) f).path x).join = (s.path x).join :=
    (RingStep.ctlTook s (rxPort x) f).ofCore x RingPathState.join fun _ => rfl
  unfold State.probeReceived
  rw [if_neg (not_not.mpr hok)]
  extract_lets u r good v long w y z
  rw [if_neg (by rw [hid]; exact hsrc), if_pos (by rw [hrd]; exact hring), ← hjoin]
  rfl

theorem State.probeNoted_rd (s : State) (x : Nat) (f : RingFrame) (g : Fld) : (s.probeNoted x f).rd g = s.rd g :=
  (State.setPath_rd _ _ _ g).trans ((RingStep.ctlTook s _ f).rd g (by simp))

/-- A probe passed on. -/
theorem State.probeNoted_send (s : State) (x : Fin 2) (f : RingFrame) (hon : s.isOn (portDom (txPort x)) = true)
    (hsa : s.saOk (txPort x) = true) :
    ((s.probeNoted x f).ringSend (txPort x) f false).out =
      .ring (txPort x) (s.secSci (txPort x)) (s.secSsci (txPort x)) (s.tagged (txPort x) f) false :: s.out := by
  have hne : txPort x ≠ rxPort x := (by decide : ∀ x : Fin 2, txPort x ≠ rxPort x) x
  have hport : PortKept (txPort x) s (s.probeNoted x f) := (PortKept.ctlTook s f hne).trans (PortKept.setPath _ _ _ _)
  have hout : (s.probeNoted x f).out = s.out := (State.setPath_out _ _ _).trans (s.ctlTook_out _ f)
  rw [hport.send f false hon hsa, hout]

/-- What another module's probe leaves. -/
theorem State.probeReceived_noted {s : State} {x : Fin 2} {f : RingFrame} (rtt : Nat)
    (hok : s.ctlOk (rxPort x) 4 f = true) (hsrc : f.src.toNat ≠ s.ringId)
    (hring : f.src.toNat / 64 = s.rd F.CAPO_RING_ID_RING) :
    let t := s.probeReceived x f rtt
    (t.path x).seen.find (f.src.toNat % 64) = some (s.sys.refTick, beAt f.payload 4 1) ∧
      ((s.path x).join = 2 → s.isOn (portDom (txPort x)) = true → s.saOk (txPort x) = true →
        t.out = .ring (txPort x) (s.secSci (txPort x)) (s.secSsci (txPort x)) (s.tagged (txPort x) f) false :: s.out) ∧
      (∀ g : Fld, (∀ f ∈ memberFlds, g.key ≠ f.key) → t.rd g = s.rd g) ∧ t.mem = s.mem := by
  have hsend : RingStep [] (s.probeNoted x f)
      (if (s.path x).join = 2 then (s.probeNoted x f).ringSend (txPort x) f false else s.probeNoted x f) := by
    split
    · exact RingStep.ringSend _ _ f false
    · exact RingStep.refl [] _
  have hstep := (hsend.mono (m := memberFlds) (by simp)).trans (RingStep.showMembers _)
  have hpath : (s.probeNoted x f).path x = _ := State.setPath_path_same _ x _
  have htick : (s.ctlTook (rxPort x) f).sys.refTick = s.sys.refTick :=
    congrArg SysState.refTick (RingStep.ctlTook s (rxPort x) f).sys
  have hmem : (s.probeNoted x f).mem = s.mem :=
    (State.setPath_mem _ _ _).trans (RingStep.ctlTook s (rxPort x) f).mem
  intro t
  rw [show t = _ from State.probeReceived_other rtt hok hsrc hring]
  refine ⟨?_, fun hjoin hon hsa => ?_, fun g hg => ?_, hstep.mem.trans hmem⟩
  · rw [hstep.ofCore x RingPathState.seen fun _ => rfl, hpath]
    simp only [AMap.find_set_same, htick]
  · rw [State.showMembers_out, if_pos hjoin]
    exact s.probeNoted_send x f hon hsa
  · exact (hstep.rd g hg).trans (s.probeNoted_rd x f g)

/-! ## The module's own probe come back -/

theorem RegStep.wholeNow (s : State) (x : Nat) : RegStep (announceFlds ++ takeFlds) s (s.wholeNow x) := by
  unfold State.wholeNow
  split
  · exact refl _ s
  · split
    · exact switchTo s x 4 0 0
    · split
      · exact (setPath _ s x (by rfl)).trans (switchTo _ x 1 0 0)
      · exact refl _ s

/-- The probe measured: its round trip, and whether it was in time. -/
def State.probeMeasured (s : State) (x : Nat) (rtt : Nat) : State :=
  (s.wr (F.RING_PATH_STAT_RTT x) rtt).setPath x
    { s.path x with returned := decide (rtt ≤ 100 * s.rd F.CAPO_CFG_PROBE_10US) }

/-- What the measurement shows of the path. -/
def State.probeJudgedBack (s : State) (x : Nat) (rtt : Nat) (prevOk : Bool) (tenths : Nat) : State :=
  let long := decide (5450 < rtt)
  let s := if long ∧ ¬ s.isSet (F.RING_PATH_STAT_LONG_PATH x) then s.ringEvent x 4 else s
  let s := s.wrB (F.RING_PATH_STAT_LONG_PATH x) long
  s.wrB (F.RING_PATH_STAT_WHOLE x) (decide (rtt ≤ 100 * tenths) && prevOk && s.engRuns x)

/-- The module's own probe taken, measured and judged. -/
def State.probeBack (s : State) (x : Nat) (f : RingFrame) (rtt : Nat) : State :=
  ((s.ctlTook (rxPort x) f).probeMeasured x rtt).probeJudgedBack x rtt (s.path x).prevOk (s.rd F.CAPO_CFG_PROBE_10US)

theorem State.probeReceived_own {s : State} {x : Nat} {f : RingFrame} (rtt : Nat) (hok : s.ctlOk (rxPort x) 4 f = true)
    (hsrc : f.src.toNat = s.ringId) (hseq : beAt f.payload 0 4 = (s.path x).probeSeq) :
    s.probeReceived x f rtt = ((s.probeBack x f rtt).showMembers).wholeNow x := by
  have hrd : ∀ k, (s.ctlTook (rxPort x) f).rd k = s.rd k := fun k => (RingStep.ctlTook s _ f).rd k (by simp)
  have hid : (s.ctlTook (rxPort x) f).ringId = s.ringId := by
    rw [State.ringId, hrd, hrd, State.ringId]
  have hseqT : ((s.ctlTook (rxPort x) f).path x).probeSeq = (s.path x).probeSeq :=
    (RingStep.ctlTook s (rxPort x) f).ofCore x RingPathState.probeSeq fun _ => rfl
  have hprev : ((s.ctlTook (rxPort x) f).path x).prevOk = (s.path x).prevOk :=
    (RingStep.ctlTook s (rxPort x) f).ofCore x RingPathState.prevOk fun _ => rfl
  unfold State.probeReceived
  rw [if_neg (not_not.mpr hok)]
  extract_lets u r good v long w y z
  rw [if_pos (by rw [hid]; exact hsrc), if_pos (hseq.trans hseqT.symm), State.probeBack, ← hprev,
    ← hrd F.CAPO_CFG_PROBE_10US]
  rfl

theorem State.probeJudgedBack_rd (s : State) (x : Fin 2) (rtt : Nat) (prevOk : Bool) (tenths : Nat) :
    let t := s.probeJudgedBack x rtt prevOk tenths
    t.rd (F.RING_PATH_STAT_LONG_PATH x) = b2n (decide (5450 < rtt)) ∧
      t.rd (F.RING_PATH_STAT_WHOLE x) = b2n (decide (rtt ≤ 100 * tenths) && prevOk && s.engRuns x) ∧
      t.rd (F.RING_PATH_STAT_RTT x) = s.rd (F.RING_PATH_STAT_RTT x) ∧ (t.path x).returned = (s.path x).returned := by
  intro t
  unfold t State.probeJudgedBack
  extract_lets long u v
  have hu : RegStep [] s u := by
    unfold u
    split
    · exact RegStep.ringEvent [] s x 4
    · exact RegStep.refl [] s
  have hkeys : ∀ x : Fin 2, ∀ g ∈ [F.PWR_DOM_STATE_STATE (engDom x), F.STATE_RUN (ringBlk x), F.RING_PATH_STAT_RTT x],
      pegKey g.key = false ∧ g.key ≠ (F.RING_PATH_STAT_LONG_PATH x).key ∧ g.key ≠ (F.RING_PATH_STAT_WHOLE x).key := by
    decide
  have hv : ∀ g ∈ [F.PWR_DOM_STATE_STATE (engDom x), F.STATE_RUN (ringBlk x), F.RING_PATH_STAT_RTT x],
      v.rd g = s.rd g := fun g hg => by
    obtain ⟨hpeg, hlong, -⟩ := hkeys x g hg
    exact (State.rd_wr_other _ _ hlong).trans (hu.rd g hpeg (by simp))
  have hrun : v.engRuns x = s.engRuns x := State.engRuns_congr (hv _ (by simp)) (hv _ (by simp))
  have hne : (F.RING_PATH_STAT_LONG_PATH x).key ≠ (F.RING_PATH_STAT_WHOLE x).key :=
    (by decide : ∀ x : Fin 2, (F.RING_PATH_STAT_LONG_PATH x).key ≠ (F.RING_PATH_STAT_WHOLE x).key) x
  refine ⟨?_, ?_, ?_, hu.returned x⟩
  · rw [State.wrB, State.rd_wr_other _ _ hne]
    exact (State.rd_wr_same _ _ _).trans (Nat.mod_eq_of_lt (b2n_lt_two _))
  · rw [State.wrB, State.rd_wr_same, hrun]
    exact Nat.mod_eq_of_lt (b2n_lt_two _)
  · rw [State.wrB, State.rd_wr_other _ _ (hkeys x _ (by simp)).2.2]
    exact hv _ (by simp)

/-- What the module's own probe shows once it is back. -/
theorem State.probeReceived_back {s : State} {x : Fin 2} {f : RingFrame} {rtt : Nat} (hrtt : rtt < 2 ^ 16)
    (hok : s.ctlOk (rxPort x) 4 f = true) (hsrc : f.src.toNat = s.ringId)
    (hseq : beAt f.payload 0 4 = (s.path x).probeSeq) :
    let t := s.probeReceived x f rtt
    let intime := decide (rtt ≤ 100 * s.rd F.CAPO_CFG_PROBE_10US)
    t.rd (F.RING_PATH_STAT_RTT x) = rtt ∧ (t.path x).returned = intime ∧
      t.rd (F.RING_PATH_STAT_LONG_PATH x) = b2n (decide (5450 < rtt)) ∧
      t.rd (F.RING_PATH_STAT_WHOLE x) = b2n (intime && (s.path x).prevOk && s.engRuns x) := by
  intro t intime
  have htook : ∀ k, (s.ctlTook (rxPort x) f).rd k = s.rd k := fun k => (RingStep.ctlTook s _ f).rd k (by simp)
  have hmeasured : ∀ k, k.key ≠ (F.RING_PATH_STAT_RTT x).key →
      ((s.ctlTook (rxPort x) f).probeMeasured x rtt).rd k = s.rd k := fun k hk =>
    ((State.setPath_rd _ _ _ k).trans (State.rd_wr_other _ _ hk)).trans (htook k)
  have hrtt' : ((s.ctlTook (rxPort x) f).probeMeasured x rtt).rd (F.RING_PATH_STAT_RTT x) = rtt := by
    rw [State.probeMeasured, State.setPath_rd, State.rd_wr_same]
    exact Nat.mod_eq_of_lt hrtt
  have hret : (((s.ctlTook (rxPort x) f).probeMeasured x rtt).path x).returned = intime := by
    rw [State.probeMeasured, State.setPath_path_same, htook]
  have hrun : ((s.ctlTook (rxPort x) f).probeMeasured x rtt).engRuns x = s.engRuns x := by
    have hkeys := (by decide : ∀ x : Fin 2, (F.PWR_DOM_STATE_STATE (engDom x)).key ≠ (F.RING_PATH_STAT_RTT x).key ∧
      (F.STATE_RUN (ringBlk x)).key ≠ (F.RING_PATH_STAT_RTT x).key) x
    exact State.engRuns_congr (hmeasured _ hkeys.1) (hmeasured _ hkeys.2)
  have hback : (s.probeBack x f rtt).rd (F.RING_PATH_STAT_LONG_PATH x) = b2n (decide (5450 < rtt)) ∧
      (s.probeBack x f rtt).rd (F.RING_PATH_STAT_WHOLE x) = b2n (intime && (s.path x).prevOk && s.engRuns x) ∧
      (s.probeBack x f rtt).rd (F.RING_PATH_STAT_RTT x) = rtt ∧ ((s.probeBack x f rtt).path x).returned = intime := by
    obtain ⟨hlong, hwhole, hrttB, hretB⟩ := ((s.ctlTook (rxPort x) f).probeMeasured x rtt).probeJudgedBack_rd x rtt
      (s.path x).prevOk (s.rd F.CAPO_CFG_PROBE_10US)
    rw [hrun] at hwhole
    exact ⟨hlong, hwhole, hrttB.trans hrtt', hretB.trans hret⟩
  obtain ⟨hlong, hwhole, hrttB, hretB⟩ := hback
  have hafter : RegStep (announceFlds ++ takeFlds) (s.probeBack x f rtt) t := by
    rw [show t = _ from State.probeReceived_own rtt hok hsrc hseq]
    exact ((RegStep.ofRing (RingStep.showMembers _)).mono fun g hg =>
      List.mem_append_right _ (List.mem_append_right _ hg)).trans (RegStep.wholeNow _ x)
  have hkept : ∀ g ∈ [F.RING_PATH_STAT_RTT x, F.RING_PATH_STAT_LONG_PATH x, F.RING_PATH_STAT_WHOLE x],
      t.rd g = (s.probeBack x f rtt).rd g := fun g hg =>
    hafter.rd g ((by decide : ∀ x : Fin 2, ∀ g ∈ [F.RING_PATH_STAT_RTT x, F.RING_PATH_STAT_LONG_PATH x,
        F.RING_PATH_STAT_WHOLE x], pegKey g.key = false) x g hg)
      ((by decide : ∀ x : Fin 2, ∀ g ∈ [F.RING_PATH_STAT_RTT x, F.RING_PATH_STAT_LONG_PATH x,
        F.RING_PATH_STAT_WHOLE x], ∀ f ∈ announceFlds ++ takeFlds, g.key ≠ f.key) x g hg)
  exact ⟨(hkept _ (by simp)).trans hrttB, (hafter.returned x).trans hretB, (hkept _ (by simp)).trans hlong,
    (hkept _ (by simp)).trans hwhole⟩

/-! ## An ANNOUNCE taken -/

/-- The number of `n` octets is below 256 to the power of `n`. -/
theorem ofOctetsBE_lt (l : List Byte) : ofOctetsBE l < 256 ^ l.length := by
  have hfold : ∀ (l : List Byte) (a n : Nat), a < 256 ^ n → l.foldl (fun a b => a * 256 + b.toNat) a < 256 ^ (n + l.length) := by
    intro l
    induction l with
    | nil => exact fun a n ha => ha
    | cons b l ih =>
      intro a n ha
      have hb := b.isLt
      have hstep : a * 256 + b.toNat < 256 ^ (n + 1) := by
        rw [Nat.pow_succ]
        omega
      rw [List.foldl_cons, List.length_cons, show n + (l.length + 1) = n + 1 + l.length by omega]
      exact ih _ (n + 1) hstep
  simpa [ofOctetsBE] using hfold l 0 0 (by decide)

theorem beAt_lt (l : List Byte) (o n : Nat) : beAt l o n < 256 ^ n :=
  (ofOctetsBE_lt _).trans_le (Nat.pow_le_pow_right (by decide) (by simp))

/-- What a newer ANNOUNCE writes before the ring moves. -/
def State.announced (s : State) (p : Nat) (f : RingFrame) : State :=
  let s := (s.ctlTook p f).wr F.CAPO_STAT_SWITCH_EPOCH (beAt f.payload 1 2)
  let s := ((s.wr F.CAPO_ANNOUNCE_LAST_EPOCH (beAt f.payload 1 2)).wr F.CAPO_ANNOUNCE_LAST_TARGET
    (bits (beAt f.payload 0 1) 0 1)).wr F.CAPO_ANNOUNCE_LAST_REPORTER (beAt f.payload 4 2)
  s.ringSend (otherPort p) f false

/-- How the ring follows an ANNOUNCE that names path `x`. -/
def State.announceFollowed (s : State) (x cause take : Nat) : State :=
  if s.isSet F.CAPO_STAT_CAPO_STUCK then s
  else if s.whole x then s.takeover x cause true 0 take
  else s.segmented x

theorem State.announceReceived_newer {s : State} {p : Nat} {f : RingFrame} (take : Nat) (hok : s.ctlOk p 5 f = true)
    (hnew : newer 16 (beAt f.payload 1 2) (s.rd F.CAPO_STAT_SWITCH_EPOCH) = true) :
    s.announceReceived p f take =
      (s.announced p f).announceFollowed (bits (beAt f.payload 0 1) 0 1) (beAt f.payload 3 1) take := by
  unfold State.announceReceived
  rw [if_neg (not_not.mpr hok)]
  extract_lets u x e cause v w y
  rw [if_pos (by rw [(RingStep.ctlTook s p f).rd _ (by simp)]; exact hnew)]
  rfl

theorem State.announceReceived_old {s : State} {p : Nat} {f : RingFrame} (take : Nat) (hok : s.ctlOk p 5 f = true)
    (hold : newer 16 (beAt f.payload 1 2) (s.rd F.CAPO_STAT_SWITCH_EPOCH) = false) :
    s.announceReceived p f take = (s.ctlTook p f).capoCnt 2 := by
  unfold State.announceReceived
  rw [if_neg (not_not.mpr hok)]
  extract_lets u x e cause v w y
  rw [if_neg (by rw [(RingStep.ctlTook s p f).rd _ (by simp), hold]; decide)]

/-- The registers that show an ANNOUNCE. -/
def announcedFlds : List Fld :=
  [F.CAPO_STAT_SWITCH_EPOCH, F.CAPO_ANNOUNCE_LAST_EPOCH, F.CAPO_ANNOUNCE_LAST_TARGET, F.CAPO_ANNOUNCE_LAST_REPORTER]

theorem RingStep.announced (s : State) (p : Nat) (f : RingFrame) : RingStep announcedFlds s (s.announced p f) := by
  unfold State.announced
  extract_lets u v
  have hu : RingStep announcedFlds s u := ((ctlTook s p f).mono (by simp)).trans (wrOf _ (by decide) _)
  have hv : RingStep announcedFlds u v :=
    ((wrOf u (by decide) _).trans (wrOf _ (by decide) _)).trans (wrOf _ (by decide) _)
  exact (hu.trans hv).trans ((ringSend v _ f false).mono (by simp))

theorem State.announced_rd (s : State) (p : Nat) (f : RingFrame) :
    (s.announced p f).rd F.CAPO_STAT_SWITCH_EPOCH = beAt f.payload 1 2 ∧
      (s.announced p f).rd F.CAPO_ANNOUNCE_LAST_EPOCH = beAt f.payload 1 2 ∧
      (s.announced p f).rd F.CAPO_ANNOUNCE_LAST_TARGET = bits (beAt f.payload 0 1) 0 1 := by
  have hepoch : beAt f.payload 1 2 % 2 ^ 16 = beAt f.payload 1 2 := Nat.mod_eq_of_lt (beAt_lt f.payload 1 2)
  have htarget : bits (beAt f.payload 0 1) 0 1 % 2 ^ 1 = bits (beAt f.payload 0 1) 0 1 := by
    rw [bits, Nat.mod_mod]
  unfold State.announced
  extract_lets u v
  rw [(RingStep.ringSend v _ f false).rd _ (by simp), (RingStep.ringSend v _ f false).rd _ (by simp),
    (RingStep.ringSend v _ f false).rd _ (by simp)]
  simp (disch := decide) only [v, u, State.rd_wr_same, State.rd_wr_other]
  exact ⟨hepoch, hepoch, htarget⟩

def followedFlds : List Fld := takeFlds ++ segmentedFlds

theorem RegStep.announceFollowed (s : State) (x cause take : Nat) :
    RegStep followedFlds s (s.announceFollowed x cause take) := by
  unfold State.announceFollowed
  split
  · exact refl _ s
  · split
    · exact (takeover s x cause true 0 take).mono fun f hf => List.mem_append_left _ hf
    · exact (segmented s x).mono fun f hf => List.mem_append_right _ hf

/-- Settles O46, by what the probes of each path write and by the frame of each step that follows. -/
theorem ringProbes : Obligations.RingProbes := by
  have hnotRun : ∀ x : Fin 2, ∀ g ∈ [F.RING_PATH_STAT_WHOLE x, F.RING_PATH_STAT_RTT x, F.RING_PATH_STAT_LONG_PATH x],
      ∀ s u : State, (s.ended u).rd g = u.rd g := fun x g hg s u =>
    State.ended_rd _ _ (Fld.notRun ((by decide : ∀ x : Fin 2, ∀ g ∈ [F.RING_PATH_STAT_WHOLE x, F.RING_PATH_STAT_RTT x,
      F.RING_PATH_STAT_LONG_PATH x], g.addr % 0x10000 ≠ 0xFF00 ∧ g.lo < 32) x g hg))
  have hcapo : ∀ g ∈ F.CAPO_CNT_COUNT 2 :: announcedFlds ++ grantFlds, ∀ s u : State, (s.ended u).rd g = u.rd g :=
    fun g hg s u => State.ended_rd _ _ (Fld.notRun ((by decide : ∀ g ∈ F.CAPO_CNT_COUNT 2 :: announcedFlds ++ grantFlds,
      g.addr % 0x10000 ≠ 0xFF00 ∧ g.lo < 32) g hg))
  refine ⟨fun s hdue => ?_, fun x f rtt s hok => ⟨fun hsrc hring => ?_, fun hsrc hseq => ?_⟩,
    fun p f take s hok => ⟨fun hnew => ?_, fun hold => ?_⟩⟩
  · obtain ⟨hkept, hmem⟩ := State.probeSend_shown hdue
    refine ⟨_, finish_ended s s.probeSend, fun x => ?_, State.ended_blocksKept hkept, State.ended_memKept hmem⟩
    obtain ⟨hwhole, hseq, hret, hprev, hsent⟩ := s.probeSend_both x
    have hM := RingStep.showMembers ((s.probeTimed.probeOne 0).probeOne 1)
    have hne : ∀ f ∈ memberFlds, (F.RING_PATH_STAT_WHOLE x).key ≠ f.key :=
      (by decide : ∀ x : Fin 2, ∀ f ∈ memberFlds, (F.RING_PATH_STAT_WHOLE x).key ≠ f.key) x
    rw [hnotRun x _ (by simp), State.ended_path, State.ended_out, State.probeSend_eq hdue]
    refine ⟨(hM.rd _ hne).trans hwhole, (hM.ofCore x RingPathState.probeSeq fun _ => rfl).trans hseq,
      (hM.returned x).trans hret, (hM.ofCore x RingPathState.prevOk fun _ => rfl).trans hprev,
      fun hjoin hrun hon hsa => ?_⟩
    have hafter := (hsent hjoin hrun hon hsa).after hM.out
    unfold SentAt at hafter
    exact hafter
  · obtain ⟨hseen, hout, hrd, hmem⟩ := State.probeReceived_noted rtt.toNat hok hsrc hring
    refine ⟨_, finish_ended s (s.probeReceived x f rtt.toNat), ?_, ?_,
      State.ended_blocksKept fun g hg => hrd g (ne_of_blocks (by decide) hg), State.ended_memKept hmem⟩
    · rw [State.ended_path, hseen]
    · rw [State.ended_out]
      exact hout
  · obtain ⟨hrtt, hret, hlong, hwhole⟩ := State.probeReceived_back rtt.isLt hok hsrc hseq
    refine ⟨_, finish_ended s (s.probeReceived x f rtt.toNat), ?_⟩
    rw [hnotRun x _ (by simp), hnotRun x _ (by simp), hnotRun x _ (by simp), State.ended_path]
    exact ⟨hrtt, hret, hlong, hwhole⟩
  · have hfollow := RegStep.announceFollowed (s.announced p f) (bits (beAt f.payload 0 1) 0 1) (beAt f.payload 3 1)
      take.toNat
    have hshown := RingStep.announced s p f
    obtain ⟨hepoch, hlast, htarget⟩ := s.announced_rd p f
    have hkept : ∀ g ∈ announcedFlds, (s.announceReceived p f take.toNat).rd g = (s.announced p f).rd g := fun g hg => by
      rw [State.announceReceived_newer take.toNat hok hnew]
      exact hfollow.rd g ((by decide : ∀ g ∈ announcedFlds, pegKey g.key = false) g hg)
        ((by decide : ∀ g ∈ announcedFlds, ∀ f ∈ followedFlds, g.key ≠ f.key) g hg)
    refine ⟨_, finish_ended s (s.announceReceived p f take.toNat), ?_⟩
    rw [hcapo F.CAPO_STAT_SWITCH_EPOCH (by decide), hcapo F.CAPO_ANNOUNCE_LAST_EPOCH (by decide),
      hcapo F.CAPO_ANNOUNCE_LAST_TARGET (by decide), hcapo F.CAPO_STAT_GRANT (by decide),
      hcapo F.CAPO_SWITCH_BY_ANNOUNCE (by decide), hcapo (F.CAPO_CNT_COUNT 0) (by decide)]
    refine ⟨(hkept _ (by decide)).trans hepoch, (hkept _ (by decide)).trans hlast, (hkept _ (by decide)).trans htarget,
      fun hstuck hwhole => ?_⟩
    have hx : bits (beAt f.payload 0 1) 0 1 < 2 := Nat.mod_lt _ (by decide)
    have hstuck' : (s.announced p f).isSet F.CAPO_STAT_CAPO_STUCK = false := by
      rw [hshown.isSet (by decide)]
      exact hstuck
    have hwhole' : (s.announced p f).whole (bits (beAt f.payload 0 1) 0 1) = true := by
      rw [State.whole, hshown.isSet fun f hf => ?_]
      · exact hwhole
      · exact (by decide : ∀ x : Fin 2, ∀ f ∈ announcedFlds, (F.RING_PATH_STAT_WHOLE x).key ≠ f.key) ⟨_, hx⟩ f hf
    obtain ⟨hgrant, _, _, hby, _, _, hcnt⟩ := (s.announced p f).takeover_rd (bits (beAt f.payload 0 1) 0 1)
      (beAt f.payload 3 1) true 0 take.toNat
    rw [hshown.rd _ (by decide)] at hcnt
    rw [State.announceReceived_newer take.toNat hok hnew, State.announceFollowed, if_neg (by rw [hstuck']; decide),
      if_pos hwhole']
    exact ⟨hgrant.trans (Nat.mod_eq_of_lt (by omega)), hby, hcnt⟩
  · have htook := RingStep.ctlTook s p f
    refine ⟨_, finish_ended s (s.announceReceived p f take.toNat), ?_⟩
    rw [hcapo (F.CAPO_CNT_COUNT 2) (by decide), State.announceReceived_old take.toNat hok hold]
    refine ⟨?_, State.ended_regsKept fun g hg => ?_, State.ended_memKept htook.mem⟩
    · rw [State.capoCnt, State.inc_eq, State.rd_wr_same, htook.rd _ (by simp)]
      rfl
    · exact (State.rd_wr_other _ _ (hg _ (by simp))).trans (htook.rd g (by simp))

end Sys2Proof.Machine
end

section
/-!
PROOFS. Ring data and credit (R342 to R350): a frame taken, delivered, forwarded or dropped; a frame sent; credit.
-/
namespace Sys2Proof.Machine

/-! ## A data frame taken -/

/-- The cells of a frame taken: counted, and held until they are freed. -/
def State.dataTaken (s : State) (x : Nat) (f : RingFrame) : State :=
  (s.setPath x { s.path x with rcvd := bump (s.path x).rcvd f.tc.toNat (ringCells f) }).wr (F.RING_CREDIT_HELD x f.tc.toNat)
    (s.rd (F.RING_CREDIT_HELD x f.tc.toNat) + ringCells f)

/-- The frame names a module of this ring, or all. -/
def State.ringOurs (s : State) (f : RingFrame) : Bool :=
  decide (f.dst.toNat / 64 = s.rd F.CAPO_RING_ID_RING) || f.bcast

/-- Where a good frame goes (R343): the first condition that applies. -/
def State.dataRouted (s : State) (x : Nat) (f : RingFrame) : State :=
  if ¬ s.ringOurs f ∨ 9216 < ringLen f then (s.ringCnt x 4).freeCells x f.tc.toNat (ringCells f)
  else if f.src.toNat = s.ringId then (s.ringCnt x 3).freeCells x f.tc.toNat (ringCells f)
  else if f.dst.toNat = s.ringId ∧ ¬ f.bcast then (s.ringDeliver x f).freeCells x f.tc.toNat (ringCells f)
  else if f.bcast then (s.ringDeliver x f).ringForward x f
  else if f.hops = 0 then (s.ringCnt x 4).freeCells x f.tc.toNat (ringCells f)
  else s.ringForward x f

/-- A good frame as it is routed: taken at the port, and its cells held. -/
def State.dataIn (s : State) (x : Nat) (f : RingFrame) : State := (s.ctlTook (rxPort x) f).dataTaken x f

section
variable {s : State} {x : Nat} {f : RingFrame} (hrun : s.engRuns x = true) (hon : s.isOn (portDom (rxPort x)) = true)
include hrun hon

theorem State.ringData_good (hsec : s.secOk (rxPort x) f.an.toNat f.pn.toNat = true) (heth : f.ethType = ringType)
    (htyp : f.typ = 1) : s.ringData x f true = (s.dataIn x f).dataRouted x f := by
  have hmac : ringType ≠ macCtlType := by decide
  have hptp : ringType ≠ ptpType := by decide
  unfold State.ringData
  simp only [Bool.true_and, hsec, hrun, hon, heth, htyp, hmac, hptp, and_self, and_false, ne_eq, not_true_eq_false, if_true,
    if_false]
  rfl

theorem State.ringData_bad {icvOk : Bool} (hbad : icvOk = false ∨ s.secOk (rxPort x) f.an.toNat f.pn.toNat = false)
    (hmac : f.ethType ≠ macCtlType) : ∃ fwd, s.ringData x f icvOk = (s.dataTaken x f).ringBad x f fwd := by
  have hok : (icvOk && s.secOk (rxPort x) f.an.toNat f.pn.toNat) = false := by
    rcases hbad with h | h
    · rw [h, Bool.false_and]
    · rw [h, Bool.and_false]
  refine ⟨(s.dataTaken x f).ringOurs f && f.src.toNat != (s.dataTaken x f).ringId &&
    f.dst.toNat != (s.dataTaken x f).ringId && (f.bcast || f.hops != 0), ?_⟩
  unfold State.ringData
  simp only [hok, hrun, hon, hmac, and_self, false_and, not_true_eq_false, if_false, Bool.false_eq_true,
    not_false_eq_true, if_true]
  rfl

theorem State.ringData_mac (icvOk : Bool) (hmac : f.ethType = macCtlType) : s.ringData x f icvOk = s.ringCnt x 14 := by
  unfold State.ringData
  extract_lets p ok
  rw [if_neg (not_not.mpr ⟨hrun, hon⟩), if_pos hmac]

end

theorem RingStep.dataTaken (s : State) (x : Nat) (f : RingFrame) :
    RingStep [F.RING_CREDIT_HELD x f.tc.toNat] s (s.dataTaken x f) :=
  ((setPath s x (by rfl)).mono (by simp)).trans (wr _ _ _)

theorem RingStep.dataIn (s : State) (x : Nat) (f : RingFrame) :
    RingStep [F.RING_CREDIT_HELD x f.tc.toNat] s (s.dataIn x f) :=
  ((ctlTook s _ f).mono (by simp)).trans (dataTaken _ x f)

/-- A count, and then the cells of the frame freed. -/
theorem State.counted_freed (s : State) {x i : Nat} (f : RingFrame) :
    ((s.ringCnt x i).freeCells x f.tc.toNat (ringCells f)).rd (F.RING_CNT_COUNT x i) =
        (s.rd (F.RING_CNT_COUNT x i) + 1) % 2 ^ 32 ∧
      RingStep [F.RING_CNT_COUNT x i, F.RING_CREDIT_HELD x f.tc.toNat] s
        ((s.ringCnt x i).freeCells x f.tc.toNat (ringCells f)) := by
  have hfree := RingStep.freeCells (s.ringCnt x i) x f.tc.toNat (ringCells f)
  have hne : ∀ g ∈ [F.RING_CREDIT_HELD x f.tc.toNat], (F.RING_CNT_COUNT x i).key ≠ g.key := fun g hg => by
    have hc := f.tc.isLt
    rw [List.mem_singleton.mp hg]
    simp only [Fld.key, F.RING_CNT_COUNT, F.RING_CREDIT_HELD]
    omega
  refine ⟨?_, ((RingStep.ringCnt s x i).mono (by simp)).trans (hfree.mono (by simp))⟩
  rw [hfree.rd _ hne, State.ringCnt, State.inc_eq, State.rd_wr_same]
  rfl

/-! ## What routing reads -/

/-- The registers that routing and sending read. -/
def routeFlds (x : Nat) : List Fld :=
  [F.CAPO_RING_ID_RING, F.CAPO_RING_ID_POSITION, F.CAPO_STAT_GRANT, F.CAPO_STAT_CAPO_STUCK, F.STATE_RUN (ringBlk x),
    F.RING_PORT_STAT_UP x (txPort x % 2), F.STATE_RUN bPEG, F.PEG_CLAIM_USE_USE (engPort x), F.PEG_CLAIM_MAX_MAX (engPort x),
    F.RING_PORT_STAT_SA_OK (txPort x / 2) (txPort x % 2), F.PWR_DOM_STATE_STATE (portDom (txPort x)),
    F.PWR_DOM_STATE_STATE (engDom x)] ++ [18, 19, 20, 21, 22, 23].map F.PWR_DOM_STATE_STATE ++
    (List.range 4).map (F.RING_CREDIT_AVAILABLE x)

theorem routeFlds_held : ∀ x : Fin 2, ∀ c : Fin 4, ∀ g ∈ routeFlds x, g.key ≠ (F.RING_CREDIT_HELD x c).key := by decide

/-- The claim that DEQUEUE would make of queue `q` for port `p`. -/
def State.claimMade (s : State) (q p : Nat) : Claim :=
  let d := s.desc q
  let first := if d.expNE then d.expHead else d.ordHead
  let w := s.walk 143 first 1
  ⟨q, s.peg.claimIds.getD (qPort q) 0, p, d.expNE, first, w.1, w.2, pktLen w.2 (s.tag w.1).vb, s.sys.refTick, false⟩

theorem State.claim_fst (s : State) (q p : Nat) : (s.claim q p).1 = s.claimMade q p := by
  rcases hw : s.walk 143 (if (s.desc q).expNE then (s.desc q).expHead else (s.desc q).ordHead) 1 with ⟨c, n⟩
  simp only [State.claim, State.claimMade, hw, Claim.mk.injEq, true_and, and_true]
  exact (PegFrame.tagsRead (PegFrame.qPort_lt q) q n s _).refTick

theorem State.walk_congr {s t : State} (h : t.peg = s.peg) (n : Nat) : ∀ c k, t.walk n c k = s.walk n c k := by
  have htag : ∀ c, t.tag c = s.tag c := fun c => by rw [State.tag, h, State.tag]
  induction n with
  | zero => exact fun _ _ => rfl
  | succ n ih =>
    intro c k
    rw [State.walk, State.walk, htag]
    split
    · rfl
    · exact ih _ _

theorem State.claimMade_congr {s t : State} (hpeg : t.peg = s.peg) (htick : t.sys.refTick = s.sys.refTick) (q p : Nat) :
    t.claimMade q p = s.claimMade q p := by
  have htag : ∀ c, t.tag c = s.tag c := fun c => by rw [State.tag, hpeg, State.tag]
  unfold State.claimMade
  simp only [State.desc, hpeg, State.walk_congr hpeg, htag, htick]
  rfl

/-- The claim an engine works on, whether it holds it or makes it. -/
theorem State.ringClaim_fst (s : State) (x c : Nat) : (s.ringClaim x c).1 =
    match s.heldClaim (engPort x) (1046528 + c) with
    | some cl => some cl
    | none =>
      if s.pegRuns ∧ ¬ (s.desc (1046528 + c)).claimed ∧ s.hasPacket (1046528 + c) ∧ s.claimRoom (engPort x) ∧
          s.rd (F.PEG_CLAIM_USE_USE (engPort x)) < 8 then some (s.claimMade (1046528 + c) (engPort x))
      else none := by
  unfold State.ringClaim
  extract_lets q
  split
  next h => rw [h]
  next h =>
    rw [h]
    split
    next hc => exact congrArg some (s.claim_fst q (engPort x))
    next hc => rfl

/-- What an engine may send is as it was where the registers, the Pegbox and the path's record are. -/
structure RouteKept (x : Nat) (s t : State) : Prop where
  rd : ∀ g ∈ routeFlds x, t.rd g = s.rd g
  peg : t.peg = s.peg
  refTick : t.sys.refTick = s.sys.refTick
  join : (t.path x).join = (s.path x).join
  transit : (t.path x).transit = (s.path x).transit

namespace RouteKept

section
variable {x : Nat} {s t : State} (h : RouteKept x s t)
include h

theorem isOn {d : Nat} (hd : F.PWR_DOM_STATE_STATE d ∈ routeFlds x) : t.isOn d = s.isOn d := by
  rw [State.isOn, State.dom, h.rd _ hd, State.isOn, State.dom]

theorem isSet {g : Fld} (hg : g ∈ routeFlds x) : t.isSet g = s.isSet g := by
  rw [State.isSet, h.rd g hg, State.isSet]

theorem ringId : t.ringId = s.ringId := by
  rw [State.ringId, h.rd _ (by simp [routeFlds]), h.rd _ (by simp [routeFlds]), State.ringId]

theorem ringOurs (f : RingFrame) : t.ringOurs f = s.ringOurs f := by
  rw [State.ringOurs, h.rd _ (by simp [routeFlds]), State.ringOurs]

theorem covers {c : Nat} (hc : c < 4) (n : Nat) : t.covers x c n = s.covers x c n := by
  have hav : F.RING_CREDIT_AVAILABLE x c ∈ routeFlds x :=
    List.mem_append_right _ (List.mem_map_of_mem (List.mem_range.mpr hc))
  rw [State.covers, h.rd _ hav, h.isSet (by simp [routeFlds]), State.covers]

theorem engRuns : t.engRuns x = s.engRuns x :=
  State.engRuns_congr (h.rd _ (by simp [routeFlds])) (h.rd _ (by simp [routeFlds]))

theorem fwdData : t.fwdData x = s.fwdData x := by
  rw [State.fwdData, State.mayData, h.engRuns, State.activePath_congr (h.rd _ (by simp [routeFlds])),
    h.isSet (g := F.CAPO_STAT_CAPO_STUCK) (by simp [routeFlds]), h.join, State.fwdData, State.mayData]

theorem pegRuns : t.pegRuns = s.pegRuns := by
  have hon : ∀ d ∈ [18, 19, 20, 21, 22, 23], t.isOn d = s.isOn d := fun d hd =>
    h.isOn (List.mem_append_left _ (List.mem_append_right _ (List.mem_map_of_mem hd)))
  have hall : t.allOn [18, 19, 20, 21, 22, 23] = s.allOn [18, 19, 20, 21, 22, 23] := by
    rw [State.allOn, State.allOn, List.all_eq, List.all_eq]
    simp +contextual only [hon]
  rw [State.pegRuns, hall, State.run, h.isSet (by simp [routeFlds]), State.pegRuns, State.run]

theorem ringClaim (c : Nat) : (t.ringClaim x c).1 = (s.ringClaim x c).1 := by
  have hmax := h.rd (F.PEG_CLAIM_MAX_MAX (engPort x)) (by simp [routeFlds])
  have huse := h.rd (F.PEG_CLAIM_USE_USE (engPort x)) (by simp [routeFlds])
  have hheld : ∀ p q, t.heldClaim p q = s.heldClaim p q := fun p q => by
    rw [State.heldClaim, h.peg, State.heldClaim]
  have hdesc : ∀ q, t.desc q = s.desc q := fun q => by rw [State.desc, h.peg, State.desc]
  have hpkt : ∀ q, t.hasPacket q = s.hasPacket q := fun q => by rw [State.hasPacket, hdesc, State.hasPacket]
  have hroom : t.claimRoom (engPort x) = s.claimRoom (engPort x) := by
    rw [State.claimRoom, huse, hmax, State.claimRoom]
  rw [State.ringClaim_fst, State.ringClaim_fst, hheld, h.pegRuns, hdesc, hpkt, hroom, huse,
    State.claimMade_congr h.peg h.refTick]

theorem ownReady {c : Nat} (hc : c < 4) : t.ownReady x c = s.ownReady x c := by
  rw [State.ownReady, h.ringClaim, State.ownReady]
  split
  · exact h.covers hc _
  · rfl

end
end RouteKept

theorem RouteKept.dataIn (s : State) (x : Fin 2) (f : RingFrame) : RouteKept x s (s.dataIn x f) where
  rd g hg := (RingStep.dataIn s x f).rd g fun k hk => by
    rw [List.mem_singleton.mp hk]
    exact routeFlds_held x f.tc.toFin g hg
  peg := (RingStep.dataIn s x f).peg
  refTick := congrArg SysState.refTick (RingStep.dataIn s x f).sys
  join := (RingStep.dataIn s x f).ofCore x RingPathState.join fun _ => rfl
  transit := (RingStep.dataIn s x f).transit x

/-! ## The routes -/

section
variable {s : State} {x : Fin 2} {f : RingFrame}

theorem State.dataRouted_alien (hours : s.ringOurs f = false) :
    s.dataRouted x f = (s.ringCnt x 4).freeCells x f.tc.toNat (ringCells f) := by
  rw [State.dataRouted, if_pos (Or.inl (by rw [hours]; decide))]

variable (hours : s.ringOurs f = true) (hlen : ringLen f ≤ 9216)
include hours hlen

theorem State.dataRouted_own (hsrc : f.src.toNat = s.ringId) :
    s.dataRouted x f = (s.ringCnt x 3).freeCells x f.tc.toNat (ringCells f) := by
  rw [State.dataRouted, if_neg (by rw [hours]; simp; omega), if_pos hsrc]

variable (hsrc : f.src.toNat ≠ s.ringId) (hcast : f.bcast = false)
include hsrc hcast

theorem State.dataRouted_here (hdst : f.dst.toNat = s.ringId) :
    s.dataRouted x f = (s.ringDeliver x f).freeCells x f.tc.toNat (ringCells f) := by
  rw [State.dataRouted, if_neg (by rw [hours]; simp; omega), if_neg hsrc, if_pos ⟨hdst, by rw [hcast]; decide⟩]

variable (hdst : f.dst.toNat ≠ s.ringId)
include hdst

theorem State.dataRouted_spent (hhops : f.hops = 0) :
    s.dataRouted x f = (s.ringCnt x 4).freeCells x f.tc.toNat (ringCells f) := by
  rw [State.dataRouted, if_neg (by rw [hours]; simp; omega), if_neg hsrc, if_neg fun h => hdst h.1,
    if_neg (by rw [hcast]; decide), if_pos hhops]

theorem State.dataRouted_on (hhops : f.hops ≠ 0) : s.dataRouted x f = s.ringForward x f := by
  rw [State.dataRouted, if_neg (by rw [hours]; simp; omega), if_neg hsrc, if_neg fun h => hdst h.1,
    if_neg (by rw [hcast]; decide), if_neg hhops]

end

/-! ## Forwarding -/

/-- A frame sent on at once, and the cells it held freed. -/
def State.sentOn (s : State) (x : Nat) (f : RingFrame) : State :=
  (((s.sendData x f false).ringServed x f.tc.toNat true).ringCnt x 1).freeCells x f.tc.toNat (ringCells f)

/-- A frame that waits in the transit buffer. -/
def State.buffered (s : State) (x : Nat) (f : RingFrame) : State :=
  (s.setPath x { s.path x with transit := (s.path x).transit ++ [f] }).ringCnt x 13

theorem State.ringForward_now {s : State} {x : Nat} {f : RingFrame} (hfwd : s.fwdData x = true)
    (hnone : (s.path x).transit.any (fun g => g.tc == f.tc) = false) (hown : s.ownReady x f.tc.toNat = false)
    (hcov : s.covers x f.tc.toNat (ringCells f) = true) : s.ringForward x f = s.sentOn x { f with hops := f.hops - 1 } := by
  unfold State.ringForward
  extract_lets g r c
  exact if_pos ⟨hfwd, by rw [show r.transit.any _ = _ from hnone]; decide, by rw [show s.ownReady x c = _ from hown]; decide,
    hcov⟩

theorem State.ringForward_wait {s : State} {x : Nat} {f : RingFrame} (hfwd : s.fwdData x = false) :
    s.ringForward x f = s.buffered x { f with hops := f.hops - 1 } := by
  unfold State.ringForward
  extract_lets g r c
  exact if_neg fun h => by
    rw [hfwd] at h
    exact absurd h.1 (by decide)

/-- What names and opens the outgoing port of a path is no register of its credit. -/
theorem portFlds_credit : ∀ x : Fin 2, ∀ c : Fin 4, ∀ g ∈ portFlds (txPort x),
    g.key ≠ (F.RING_CREDIT_AVAILABLE x c).key ∧ g.key ≠ (F.RING_CREDIT_HELD x c).key := by decide

theorem State.sendData_out (s : State) (x : Fin 2) (f : RingFrame) (bad : Bool)
    (hon : s.isOn (portDom (txPort x)) = true) (hsa : s.saOk (txPort x) = true) :
    (s.sendData x f bad).out =
      .ring (txPort x) (s.secSci (txPort x)) (s.secSsci (txPort x)) (s.tagged (txPort x) f) bad :: s.out := by
  unfold State.sendData
  extract_lets c u _ v
  have hport : PortKept (txPort x) s v :=
    (PortKept.wr s (fun g hg => (portFlds_credit x f.tc.toFin g hg).1) _).trans (PortKept.setPath _ u x _)
  rw [hport.send f bad hon hsa, State.setPath_out]
  rfl

/-- The registers that a frame sent on writes. -/
def sentFlds (x : Nat) (f : RingFrame) : List Fld :=
  [F.RING_CREDIT_AVAILABLE x f.tc.toNat, F.RING_CNT_COUNT x 1, F.RING_CREDIT_HELD x f.tc.toNat]

theorem RingStep.sentOn (s : State) (x : Nat) (f : RingFrame) : RingStep (sentFlds x f) s (s.sentOn x f) :=
  ((((sendData s x f false).mono (by simp [sentFlds])).trans ((ringServed _ x f.tc.toNat true).mono (by simp))).trans
    ((ringCnt _ x 1).mono (by simp [sentFlds]))).trans ((freeCells _ x f.tc.toNat (ringCells f)).mono (by simp [sentFlds]))

/-- What a frame sent on counts and puts out. -/
theorem State.sentOn_count (s : State) (x : Fin 2) (f : RingFrame) :
    (s.sentOn x f).rd (F.RING_CNT_COUNT x 1) = (s.rd (F.RING_CNT_COUNT x 1) + 1) % 2 ^ 32 := by
  have hne : (F.RING_CNT_COUNT x 1).key ≠ (F.RING_CREDIT_AVAILABLE x f.tc.toNat).key :=
    (by decide : ∀ x : Fin 2, ∀ c : Fin 4, (F.RING_CNT_COUNT x 1).key ≠ (F.RING_CREDIT_AVAILABLE x c).key) x f.tc.toFin
  rw [State.sentOn, (State.counted_freed _ f).1, (RingStep.ringServed _ x _ true).rd _ (by simp),
    (RingStep.sendData s x f false).rd _ (by simpa using hne)]

theorem State.sentOn_out (s : State) (x : Fin 2) (f : RingFrame) (hon : s.isOn (portDom (txPort x)) = true)
    (hsa : s.saOk (txPort x) = true) : ∃ o, (s.sentOn x f).out =
      o ++ .ring (txPort x) (s.secSci (txPort x)) (s.secSsci (txPort x)) (s.tagged (txPort x) f) false :: s.out := by
  obtain ⟨o, ho⟩ := (((RingStep.ringServed (s.sendData x f false) x f.tc.toNat true).mono (m := sentFlds x f)
    (by simp)).trans ((RingStep.ringCnt _ x 1).mono (by simp [sentFlds]))).trans
      ((RingStep.freeCells _ x f.tc.toNat (ringCells f)).mono (by simp [sentFlds])) |>.out
  refine ⟨o, ?_⟩
  rw [← s.sendData_out x f false hon hsa]
  exact ho

/-! ## Delivery -/

theorem State.ringDeliver_old {s : State} {x : Nat} {f : RingFrame} (h : (s.path x).seqs.accept f = none) :
    s.ringDeliver x f = s.ringCnt x 8 := by
  unfold State.ringDeliver
  simp only [h]

/-- A new frame as it goes to its queue: its sequence recorded, and what it shows missed counted. -/
def State.seqTaken (s : State) (x n : Nat) (q : RingSeqs) : State :=
  (s.setPath x { s.path x with seqs := q }).add (F.RING_CNT_COUNT x 7) n

/-- The packet put on its queue. -/
def State.ringPut (s : State) (x : Nat) (f : RingFrame) : (Nat × Nat) × State :=
  s.pegPut (engPort x) (1044480 + f.queueOfs.toNat) false (ringOctets f)

theorem State.ringDeliver_new {s : State} {x n : Nat} {f : RingFrame} {q : RingSeqs}
    (h : (s.path x).seqs.accept f = some (n, q)) : ∃ i, (i = 2 ∨ i = 9) ∧
      s.ringDeliver x f = ((s.seqTaken x n q).ringPut x f).2.ringCnt x i := by
  unfold State.ringDeliver
  simp only [h]
  change ∃ i, _ ∧ (if ((s.seqTaken x n q).ringPut x f).1.1 = stOK then ((s.seqTaken x n q).ringPut x f).2.ringCnt x 2
    else ((s.seqTaken x n q).ringPut x f).2.ringCnt x 9) = _
  split
  · exact ⟨2, Or.inl rfl, rfl⟩
  · exact ⟨9, Or.inr rfl, rfl⟩

/-- What a new frame leaves: the record of its source, what was missed, and that it was delivered or refused. -/
theorem State.ringDeliver_shown {s : State} {x : Fin 2} {n : Nat} {f : RingFrame} {q : RingSeqs}
    (h : (s.path x).seqs.accept f = some (n, q)) :
    let t := (s.ringDeliver x f).freeCells x f.tc.toNat (ringCells f)
    (t.path x).seqs = q ∧ t.rd (F.RING_CNT_COUNT x 7) = (s.rd (F.RING_CNT_COUNT x 7) + n) % 2 ^ 32 ∧
      (t.rd (F.RING_CNT_COUNT x 2) = (s.rd (F.RING_CNT_COUNT x 2) + 1) % 2 ^ 32 ∨
        t.rd (F.RING_CNT_COUNT x 9) = (s.rd (F.RING_CNT_COUNT x 9) + 1) % 2 ^ 32) := by
  obtain ⟨i, hi, heq⟩ := State.ringDeliver_new h
  have hput : PegFrame (s.seqTaken x n q) ((s.seqTaken x n q).ringPut x f).2 :=
    PegFrame.pegPut _ (by unfold engPort; omega) _ _ _
  have hkeys : ∀ x : Fin 2, ∀ i ∈ [2, 9], pegKey (F.RING_CNT_COUNT x i).key = false ∧
      (F.RING_CNT_COUNT x i).key ≠ (F.RING_CNT_COUNT x 7).key := by decide
  have hpeg7 : pegKey (F.RING_CNT_COUNT x 7).key = false :=
    (by decide : ∀ x : Fin 2, pegKey (F.RING_CNT_COUNT x 7).key = false) x
  have hne7 : ∀ g ∈ [F.RING_CNT_COUNT x i, F.RING_CREDIT_HELD x f.tc.toNat], (F.RING_CNT_COUNT x 7).key ≠ g.key := by
    have hkeys7 : ∀ x : Fin 2, ∀ i ∈ [2, 9], ∀ c : Fin 4, ∀ g ∈ [F.RING_CNT_COUNT x i, F.RING_CREDIT_HELD x c],
      (F.RING_CNT_COUNT x 7).key ≠ g.key := by decide
    exact hkeys7 x i (by simpa using hi) f.tc.toFin
  obtain ⟨hpegI, hneI⟩ := hkeys x i (by simpa using hi)
  obtain ⟨hcnt, hstep⟩ := State.counted_freed ((s.seqTaken x n q).ringPut x f).2 (x := x) (i := i) f
  intro t
  unfold t
  rw [heq]
  refine ⟨?_, ?_, ?_⟩
  · rw [hstep.seqs x, State.path, hput.ring, ← State.path]
    show ((s.setPath x _).path x).seqs = q
    rw [State.setPath_path_same]
  · rw [hstep.rd _ hne7, hput.rd _ hpeg7, State.seqTaken, State.add, State.rd_wr_same, State.setPath_rd]
    rfl
  · have hseq : (s.seqTaken x n q).rd (F.RING_CNT_COUNT x i) = s.rd (F.RING_CNT_COUNT x i) :=
      (State.rd_wr_other _ _ hneI).trans (State.setPath_rd _ _ _ _)
    rw [hput.rd _ hpegI, hseq] at hcnt
    rcases hi with rfl | rfl
    · exact Or.inl hcnt
    · exact Or.inr hcnt

/-! ## A frame whose check fails -/

theorem RingStep.ringBad (s : State) (x : Nat) (f : RingFrame) (fwd : Bool) :
    RingStep [F.RING_CREDIT_AVAILABLE x f.tc.toNat, F.RING_CNT_COUNT x 6, F.RING_CREDIT_HELD x f.tc.toNat] (s.ringCnt x 5)
      (s.ringBad x f fwd) := by
  unfold State.ringBad
  extract_lets u v
  have hv : RingStep [F.RING_CREDIT_AVAILABLE x f.tc.toNat, F.RING_CNT_COUNT x 6, F.RING_CREDIT_HELD x f.tc.toNat] u v := by
    unfold v
    split
    · exact ((sendData u x _ true).mono (by simp)).trans ((ringCnt _ x 6).mono (by simp))
    · exact refl _ u
  exact hv.trans ((freeCells v x f.tc.toNat (ringCells f)).mono (by simp))

theorem State.ringBad_count (s : State) (x : Fin 2) (f : RingFrame) (fwd : Bool) :
    (s.ringBad x f fwd).rd (F.RING_CNT_COUNT x 5) = (s.rd (F.RING_CNT_COUNT x 5) + 1) % 2 ^ 32 := by
  rw [(RingStep.ringBad s x f fwd).rd _ ((by decide : ∀ x : Fin 2, ∀ c : Fin 4,
    ∀ g ∈ [F.RING_CREDIT_AVAILABLE x c, F.RING_CNT_COUNT x 6, F.RING_CREDIT_HELD x c],
      (F.RING_CNT_COUNT x 5).key ≠ g.key) x f.tc.toFin), State.ringCnt, State.inc_eq, State.rd_wr_same]
  rfl

end Sys2Proof.Machine
end

section
/-!
PROOFS. Ring data and credit (R342 to R350): the commands.
-/
namespace Sys2Proof.Machine

theorem State.ended_ringCnt (s u : State) (x : Nat) {i : Nat} (hi : i < 16) :
    (s.ended u).rd (F.RING_CNT_COUNT x i) = u.rd (F.RING_CNT_COUNT x i) :=
  State.ended_rd _ _ (Fld.notRun (by simp only [F.RING_CNT_COUNT]; omega))

/-! ## RING_DATA_RECEIVED -/

section
variable {s : State} {x : Fin 2} {f : RingFrame}

/-- A good frame that is counted once and its cells freed. -/
theorem State.routed_counted {i : Nat}
    (heq : (s.dataIn x f).dataRouted x f = ((s.dataIn x f).ringCnt x i).freeCells x f.tc.toNat (ringCells f)) :
    ((s.dataIn x f).dataRouted x f).rd (F.RING_CNT_COUNT x i) = (s.rd (F.RING_CNT_COUNT x i) + 1) % 2 ^ 32 ∧
      RingStep [F.RING_CNT_COUNT x i, F.RING_CREDIT_HELD x f.tc.toNat] s ((s.dataIn x f).dataRouted x f) := by
  have hin := RingStep.dataIn s x f
  have hne : ∀ g ∈ [F.RING_CREDIT_HELD x f.tc.toNat], (F.RING_CNT_COUNT x i).key ≠ g.key := fun g hg => by
    rw [List.mem_singleton.mp hg]
    simp only [Fld.key, F.RING_CNT_COUNT, F.RING_CREDIT_HELD]
    omega
  obtain ⟨hcnt, hstep⟩ := State.counted_freed (s.dataIn x f) (x := x) (i := i) f
  rw [heq, hcnt, hin.rd _ hne]
  exact ⟨rfl, (hin.mono (by simp)).trans hstep⟩

/-- A frame sent on at once: put out, and counted. -/
theorem State.routed_on (hon : s.isOn (portDom (txPort x)) = true) (hsa : s.saOk (txPort x) = true) (g : RingFrame) :
    (∃ l, ((s.dataIn x f).sentOn x g).out = l ++ s.out ∧
      Output.ring (txPort x) (s.secSci (txPort x)) (s.secSsci (txPort x)) (s.tagged (txPort x) g) false ∈ l) ∧
      ((s.dataIn x f).sentOn x g).rd (F.RING_CNT_COUNT x 1) = (s.rd (F.RING_CNT_COUNT x 1) + 1) % 2 ^ 32 ∧
      ((s.dataIn x f).sentOn x g).mem = s.mem := by
  have hin := RingStep.dataIn s x f
  have hne : txPort x ≠ rxPort x := (by decide : ∀ x : Fin 2, txPort x ≠ rxPort x) x
  have hport : PortKept (txPort x) s (s.dataIn x f) :=
    ((PortKept.ctlTook s f hne).trans (PortKept.setPath _ _ _ _)).trans
      (PortKept.wr _ (fun k hk => (portFlds_credit x f.tc.toFin k hk).2) _)
  have hcnt : ∀ k ∈ [F.RING_CREDIT_HELD x f.tc.toNat], (F.RING_CNT_COUNT x 1).key ≠ k.key := fun k hk => by
    rw [List.mem_singleton.mp hk]
    simp only [Fld.key, F.RING_CNT_COUNT, F.RING_CREDIT_HELD]
    omega
  obtain ⟨o, ho⟩ := (s.dataIn x f).sentOn_out x g (hport.isOn.trans hon) (hport.saOk.trans hsa)
  have hout : (s.dataIn x f).out = s.out := (State.setPath_out _ _ _).trans (s.ctlTook_out _ f)
  rw [hport.secSci, hport.secSsci, hport.tagged, hout] at ho
  refine ⟨⟨o ++ [_], ?_, List.mem_append_right o (List.mem_singleton_self _)⟩, ?_, ?_⟩
  · rw [ho, List.append_assoc, List.singleton_append]
  · rw [State.sentOn_count, hin.rd _ hcnt]
  · exact (RingStep.sentOn _ x g).mem.trans hin.mem

/-- A frame that waits. -/
theorem State.routed_wait (g : RingFrame) :
    (((s.dataIn x f).buffered x g).path x).transit = (s.path x).transit ++ [g] ∧
      ((s.dataIn x f).buffered x g).rd (F.RING_CNT_COUNT x 13) = (s.rd (F.RING_CNT_COUNT x 13) + 1) % 2 ^ 32 ∧
      (∀ k : Fld, (∀ j ∈ [F.RING_CNT_COUNT x 13, F.RING_CREDIT_HELD x f.tc.toNat], k.key ≠ j.key) →
        ((s.dataIn x f).buffered x g).rd k = s.rd k) ∧ ((s.dataIn x f).buffered x g).mem = s.mem := by
  have hin := RingStep.dataIn s x f
  have hcnt : ∀ k ∈ [F.RING_CREDIT_HELD x f.tc.toNat], (F.RING_CNT_COUNT x 13).key ≠ k.key := fun k hk => by
    rw [List.mem_singleton.mp hk]
    simp only [Fld.key, F.RING_CNT_COUNT, F.RING_CREDIT_HELD]
    omega
  refine ⟨?_, ?_, fun k hk => ?_, ?_⟩
  · show ((State.setPath _ x _).path x).transit = _
    rw [State.setPath_path_same, hin.transit x]
  · rw [State.buffered, State.ringCnt, State.inc_eq, State.rd_wr_same, State.setPath_rd, hin.rd _ hcnt]
    rfl
  · exact ((State.rd_wr_other _ _ (hk _ (by simp))).trans (State.setPath_rd _ _ _ _)).trans
      (hin.rd k fun j hj => hk j (List.mem_cons_of_mem _ hj))
  · exact (State.setPath_mem _ _ _).trans hin.mem

end

/-! ## RING_TRANSMIT -/

/-- A transit frame sent. -/
theorem State.ringTransmit_transit {s : State} {x c : Nat} {f : RingFrame} (hact : s.activePath = some x)
    (hmay : s.mayData x = true) (hf : (s.path x).transit.find? (fun g => g.tc.toNat == c) = some f)
    (hready : s.transitReady x c = true) (hturn : s.ringTurn x c true = true) :
    s.ringTransmit c true =
      (((((s.setPath x { s.path x with transit := (s.path x).transit.erase f }).ringServed x c true).sendData x f
        false).ringCnt x 1).freeCells x c (ringCells f)) := by
  unfold State.ringTransmit
  simp only [hact, hmay, hf, hready, hturn, not_true_eq_false, if_false, if_true, and_self]

/-- The next sequence number of a destination and class drawn. -/
def State.seqDrawn (s : State) (x key : Nat) : State :=
  let q := (s.path x).seqs
  s.setPath x { s.path x with seqs := { q with tx := q.tx.set key ((q.tx.get key 0 + 1) % 2 ^ 32) } }

/-- A frame of a producer sent. -/
theorem State.ringTransmit_own {s : State} {x c : Nat} {cl : Claim} (hact : s.activePath = some x)
    (hmay : s.mayData x = true) (hcl : s.heldClaim (engPort x) (1046528 + c) = some cl) :
    let o := s.claimOctets cl
    let key := 4 * (beAt o 2 2 % 2 ^ 14) + c
    let f := s.ringOwn x c ((s.path x).seqs.tx.get key 0) o
    16 ≤ cl.len → beAt o 6 2 = cl.len → (f.bcast = true ∨ beAt o 2 2 % 2 ^ 14 / 64 = s.rd F.CAPO_RING_ID_RING) →
    s.covers x c (ringCells f) = true → s.ringTurn x c false = true →
    s.ringTransmit c false =
      ((((s.seqDrawn x key).ringServed x c false).sendData x f false).releaseClaim cl).ringCnt x 0 := by
  intro o key f hlen hsize hring hcov hturn
  have hclaim : s.ringClaim x c = (some cl, s) := by
    unfold State.ringClaim
    simp only [hcl]
  unfold State.ringTransmit
  simp only [hact, hmay, hclaim, not_true_eq_false, if_false, Bool.false_eq_true]
  rw [if_neg, if_pos ⟨hcov, hturn⟩]
  · rfl
  rintro (h | h | ⟨hb, hd⟩)
  · omega
  · exact h hsize
  · exact hring.elim hb hd

section
variable {s : State} {x : Fin 2} (hon : s.isOn (portDom (txPort x)) = true) (hsa : s.saOk (txPort x) = true)
include hon hsa

/-- A frame of the path's own record sent, whatever of that record changes before it. -/
theorem State.setPath_sendData_out (r r' : RingPathState) (f : RingFrame) :
    (((s.setPath x r).setPath x r').sendData x f false).out =
      .ring (txPort x) (s.secSci (txPort x)) (s.secSsci (txPort x)) (s.tagged (txPort x) f) false :: s.out := by
  have hport : PortKept (txPort x) s ((s.setPath x r).setPath x r') :=
    (PortKept.setPath _ s x r).trans (PortKept.setPath _ _ x r')
  rw [State.sendData_out _ x f false (hport.isOn.trans hon) (hport.saOk.trans hsa), hport.secSci, hport.secSsci,
    hport.tagged, State.setPath_out, State.setPath_out]

/-- What a transit frame sent leaves. -/
theorem State.ringTransmit_transit_shown {c : Fin 4} {f : RingFrame} (hact : s.activePath = some x.val)
    (hmay : s.mayData x = true) (hf : (s.path x).transit.find? (fun g => g.tc.toNat == c.val) = some f)
    (hready : s.transitReady x c = true) (hturn : s.ringTurn x c true = true) :
    let t := s.ringTransmit c true
    (∃ l, t.out = l ++ s.out ∧
      Output.ring (txPort x) (s.secSci (txPort x)) (s.secSsci (txPort x)) (s.tagged (txPort x) f) false ∈ l) ∧
      (t.path x).transit = (s.path x).transit.erase f ∧
      t.rd (F.RING_CNT_COUNT x 1) = (s.rd (F.RING_CNT_COUNT x 1) + 1) % 2 ^ 32 ∧ t.mem = s.mem := by
  have htc : f.tc.toNat = c.val := by simpa using List.find?_some hf
  have hne : ∀ k ∈ [F.RING_CREDIT_AVAILABLE x f.tc.toNat], (F.RING_CNT_COUNT x 1).key ≠ k.key := by
    simpa using (by decide : ∀ x : Fin 2, ∀ c : Fin 4, (F.RING_CNT_COUNT x 1).key ≠ (F.RING_CREDIT_AVAILABLE x c).key) x
      f.tc.toFin
  intro t
  rw [show t = _ from State.ringTransmit_transit hact hmay hf hready hturn, ← htc]
  set u := (s.setPath x { s.path x with transit := (s.path x).transit.erase f }).ringServed x f.tc.toNat true with hu
  have hsend := RingStep.sendData u x f false
  have huOut : (u.sendData x f false).out = _ := State.setPath_sendData_out hon hsa _ _ f
  have huRd : ∀ g, u.rd g = s.rd g := fun g => (State.setPath_rd _ _ _ g).trans (State.setPath_rd _ _ _ g)
  have huMem : u.mem = s.mem :=
    (State.setPath_mem _ _ _).trans (State.setPath_mem _ _ _)
  have huTransit : (u.path x).transit = (s.path x).transit.erase f := by
    rw [hu, (RingStep.ringServed _ x _ true).transit x, State.setPath_path_same]
  obtain ⟨hcnt, hstep⟩ := State.counted_freed (u.sendData x f false) (x := x) (i := 1) f
  obtain ⟨o, ho⟩ := hstep.out
  refine ⟨⟨o ++ [_], ?_, List.mem_append_right o (List.mem_singleton_self _)⟩, ?_, ?_, ?_⟩
  · rw [ho, huOut, List.append_assoc, List.singleton_append]
  · rw [hstep.transit x, hsend.transit x, huTransit]
  · rw [hcnt, hsend.rd _ hne, huRd]
  · rw [hstep.mem, hsend.mem, huMem]

/-- What a frame of a producer leaves. -/
theorem State.ringTransmit_own_shown {c : Fin 4} {cl : Claim} (hact : s.activePath = some x.val)
    (hmay : s.mayData x = true) (hcl : s.heldClaim (engPort x) (1046528 + c.val) = some cl) :
    let o := s.claimOctets cl
    let key := 4 * (beAt o 2 2 % 2 ^ 14) + c.val
    let f := s.ringOwn x c ((s.path x).seqs.tx.get key 0) o
    let t := s.ringTransmit c false
    16 ≤ cl.len → beAt o 6 2 = cl.len → (f.bcast = true ∨ beAt o 2 2 % 2 ^ 14 / 64 = s.rd F.CAPO_RING_ID_RING) →
    s.covers x c (ringCells f) = true → s.ringTurn x c false = true →
    t.out = .ring (txPort x) (s.secSci (txPort x)) (s.secSsci (txPort x)) (s.tagged (txPort x) f) false :: s.out ∧
      (t.path x).seqs.tx.get key 0 = ((s.path x).seqs.tx.get key 0 + 1) % 2 ^ 32 ∧
      t.rd (F.RING_CNT_COUNT x 0) = (s.rd (F.RING_CNT_COUNT x 0) + 1) % 2 ^ 32 := by
  intro o key f t hlen hsize hring hcov hturn
  have hne : ∀ k ∈ [F.RING_CREDIT_AVAILABLE x f.tc.toNat], (F.RING_CNT_COUNT x 0).key ≠ k.key := by
    simpa using (by decide : ∀ x : Fin 2, ∀ c : Fin 4, (F.RING_CNT_COUNT x 0).key ≠ (F.RING_CREDIT_AVAILABLE x c).key) x
      f.tc.toFin
  have hpegKey : pegKey (F.RING_CNT_COUNT x 0).key = false :=
    (by decide : ∀ x : Fin 2, pegKey (F.RING_CNT_COUNT x 0).key = false) x
  rw [show t = _ from State.ringTransmit_own hact hmay hcl hlen hsize hring hcov hturn]
  set u := (s.seqDrawn x key).ringServed x c.val false with hu
  have hsend := RingStep.sendData u x f false
  have huOut : (u.sendData x f false).out = _ := State.setPath_sendData_out hon hsa _ _ f
  have huRd : ∀ g, u.rd g = s.rd g := fun g => (State.setPath_rd _ _ _ g).trans (State.setPath_rd _ _ _ g)
  have huSeqs : (u.path x).seqs.tx.get key 0 = ((s.path x).seqs.tx.get key 0 + 1) % 2 ^ 32 := by
    rw [hu, (RingStep.ringServed _ x _ false).seqs x, State.seqDrawn, State.setPath_path_same]
    exact AMap.get_set_same _ _ _ _
  have hrel : PegFrame (u.sendData x f false) ((u.sendData x f false).releaseClaim cl) :=
    PegFrame.releaseClaim _ (by rw [PegFrame.port_of_heldClaim hcl, engPort]; omega)
  refine ⟨?_, ?_, ?_⟩
  · exact hrel.out.trans huOut
  · show (State.path ((u.sendData x f false).releaseClaim cl) x).seqs.tx.get key 0 = _
    rw [State.path, hrel.ring, ← State.path, hsend.seqs x, huSeqs]
  · rw [State.ringCnt, State.inc_eq, State.rd_wr_same, hrel.rd _ hpegKey, hsend.rd _ hne, huRd]
    rfl

end

/-! ## CREDIT_RECEIVED -/

/-- Registers written in turn: each holds what it was given, where that rests on no other of them. -/
theorem State.foldl_wr_rd (F : Nat → Fld) (v : State → Nat → Nat) (l : List Nat) (hl : l.Nodup)
    (hF : ∀ c ∈ l, ∀ d ∈ l, c ≠ d → (F c).key ≠ (F d).key)
    (hv : ∀ s n, ∀ c ∈ l, ∀ d ∈ l, c ≠ d → v (s.wr (F d) n) c = v s c) (s : State) :
    ∀ c ∈ l, (l.foldl (fun s c => s.wr (F c) (v s c)) s).rd (F c) = v s c % 2 ^ (F c).width := by
  induction l generalizing s with
  | nil => exact fun c hc => absurd hc List.not_mem_nil
  | cons d l ih =>
    obtain ⟨hd, hl'⟩ := List.nodup_cons.mp hl
    intro c hc
    rw [List.foldl_cons]
    by_cases hcd : c = d
    · subst hcd
      have hrest : RingStep (l.map F) (s.wr (F c) (v s c)) (l.foldl (fun s c => s.wr (F c) (v s c)) (s.wr (F c) (v s c))) :=
        RingStep.foldl _ _ _ fun s e he => RingStep.wrOf s (List.mem_map_of_mem he) _
      rw [hrest.rd _ fun k hk => ?_, State.rd_wr_same]
      obtain ⟨e, he, rfl⟩ := List.mem_map.mp hk
      exact hF c hc e (List.mem_cons_of_mem _ he) fun heq => hd (heq ▸ he)
    · have hcl : c ∈ l := (List.mem_cons.mp hc).resolve_left hcd
      rw [ih hl' (fun a ha b hb => hF a (List.mem_cons_of_mem _ ha) b (List.mem_cons_of_mem _ hb))
        (fun u n a ha b hb => hv u n a (List.mem_cons_of_mem _ ha) b (List.mem_cons_of_mem _ hb)) _ c hcl,
        hv s _ c hc d List.mem_cons_self hcd]

/-- The credit of the four classes written in turn. -/
def State.creditWritten (s : State) (x : Nat) (v : State → Nat → Nat) : State :=
  (List.range 4).foldl (fun s c => s.wr (F.RING_CREDIT_AVAILABLE x c) (v s c)) s

theorem RingStep.creditWritten (s : State) (x : Nat) (v : State → Nat → Nat) :
    RingStep ((List.range 4).map (F.RING_CREDIT_AVAILABLE x)) s (s.creditWritten x v) :=
  foldl _ _ s fun s _ hc => wrOf s (List.mem_map_of_mem hc) _

theorem State.creditWritten_rd (s : State) (x : Nat) (v : State → Nat → Nat)
    (hv : ∀ (s : State) (n c d : Nat), c < 4 → d < 4 → c ≠ d → v (s.wr (F.RING_CREDIT_AVAILABLE x d) n) c = v s c) {c : Nat} (hc : c < 4) :
    (s.creditWritten x v).rd (F.RING_CREDIT_AVAILABLE x c) = v s c % 2 ^ 16 := by
  refine State.foldl_wr_rd (F.RING_CREDIT_AVAILABLE x) v (List.range 4) List.nodup_range (fun c _ d _ hcd => ?_)
    (fun s n c hc d hd hcd => hv s n c d (List.mem_range.mp hc) (List.mem_range.mp hd) hcd) s c (List.mem_range.mpr hc)
  simp only [Fld.key, F.RING_CREDIT_AVAILABLE]
  omega

/-- The cumulative count a CREDIT gives for class `c`. -/
def creditCum (f : RingFrame) (c : Nat) : Nat := beAt f.payload (3 + 4 * c) 4

/-- What a CREDIT that resets gives each class, and what one that adds does. -/
def creditReset (x : Nat) (s : State) (c : Nat) : Nat := s.rd (F.RING_CLASS_CELLS_ALLOT x c)
def creditAdded (x : Nat) (f : RingFrame) (last : List Nat) (s : State) (c : Nat) : Nat :=
  s.rd (F.RING_CREDIT_AVAILABLE x c) + (creditCum f c + 2 ^ 32 - last.getD c 0) % 2 ^ 32

section
variable {s : State} {x : Nat} {f : RingFrame} (hrun : s.engRuns x = true) (hok : s.ctlOk (txPort x) 3 f = true)
include hrun hok

theorem State.creditReceived_reset (hreset : bitAt (beAt f.payload 0 1) 0 = true) :
    s.creditReceived x f =
      (((s.ctlTook (txPort x) f).creditWritten x (creditReset x)).setPath x
        { (s.ctlTook (txPort x) f).path x with
          sent := [0, 0, 0, 0], retRcvd := (List.range 4).map (creditCum f) }).ringCnt x 12 := by
  unfold State.creditReceived
  rw [if_neg (not_not.mpr ⟨hrun, hok⟩)]
  simp only [hreset, if_true]
  rfl

theorem State.creditReceived_add (hadd : bitAt (beAt f.payload 0 1) 0 = false) :
    s.creditReceived x f =
      ((s.ctlTook (txPort x) f).creditWritten x
        (creditAdded x f ((s.ctlTook (txPort x) f).path x).retRcvd)).setPath x
        { (s.ctlTook (txPort x) f).path x with retRcvd := (List.range 4).map (creditCum f) } := by
  unfold State.creditReceived
  rw [if_neg (not_not.mpr ⟨hrun, hok⟩)]
  simp only [hadd, Bool.false_eq_true, if_false]
  rfl

end

theorem State.ctlTook_path (s : State) (p x : Nat) (f : RingFrame) : (s.ctlTook p f).path x = s.path x := by
  unfold State.ctlTook State.secTook
  extract_lets r
  split
  · rfl
  · split
    · rfl
    · rfl

section
variable {s : State} {x : Fin 2} {f : RingFrame} (hrun : s.engRuns x = true) (hok : s.ctlOk (txPort x) 3 f = true)
include hrun hok

/-- What a CREDIT that resets leaves. -/
theorem State.creditReceived_reset_shown (hreset : bitAt (beAt f.payload 0 1) 0 = true) :
    let t := s.creditReceived x f
    (∀ c, c < 4 → t.rd (F.RING_CREDIT_AVAILABLE x c) = s.rd (F.RING_CLASS_CELLS_ALLOT x c) % 2 ^ 16) ∧
      (t.path x).sent = [0, 0, 0, 0] ∧
      t.rd (F.RING_CNT_COUNT x 12) = (s.rd (F.RING_CNT_COUNT x 12) + 1) % 2 ^ 32 ∧ t.mem = s.mem := by
  have htook := RingStep.ctlTook s (txPort x) f
  have hwritten := RingStep.creditWritten (s.ctlTook (txPort x) f) x (creditReset x)
  have hne : ∀ k ∈ (List.range 4).map (F.RING_CREDIT_AVAILABLE x), (F.RING_CNT_COUNT x 12).key ≠ k.key :=
    (by decide : ∀ x : Fin 2, ∀ k ∈ (List.range 4).map (F.RING_CREDIT_AVAILABLE x), (F.RING_CNT_COUNT x 12).key ≠ k.key) x
  intro t
  rw [show t = _ from State.creditReceived_reset hrun hok hreset]
  refine ⟨fun c hc => ?_, ?_, ?_, ?_⟩
  · have hkey : (F.RING_CREDIT_AVAILABLE x c).key ≠ (F.RING_CNT_COUNT x 12).key :=
      Ne.symm (hne _ (List.mem_map_of_mem (List.mem_range.mpr hc)))
    rw [State.ringCnt, State.inc_eq, State.rd_wr_other _ _ hkey, State.setPath_rd,
      State.creditWritten_rd _ x _ (fun s n c d hc hd _ => State.rd_wr_other s n (by
        simp only [Fld.key, F.RING_CLASS_CELLS_ALLOT, F.RING_CREDIT_AVAILABLE]
        omega)) hc, creditReset, htook.rd _ (by simp)]
  · show ((State.setPath _ x _).path x).sent = _
    rw [State.setPath_path_same]
  · rw [State.ringCnt, State.inc_eq, State.rd_wr_same, State.setPath_rd, hwritten.rd _ hne, htook.rd _ (by simp)]
    rfl
  · exact (State.setPath_mem _ _ _).trans (hwritten.mem.trans htook.mem)

/-- What a CREDIT that adds leaves. -/
theorem State.creditReceived_add_shown (hadd : bitAt (beAt f.payload 0 1) 0 = false) :
    let t := s.creditReceived x f
    (∀ c, c < 4 → t.rd (F.RING_CREDIT_AVAILABLE x c) = (s.rd (F.RING_CREDIT_AVAILABLE x c) +
      (beAt f.payload (3 + 4 * c) 4 + 2 ^ 32 - (s.path x).retRcvd.getD c 0) % 2 ^ 32) % 2 ^ 16) ∧
      (t.path x).retRcvd = (List.range 4).map (fun c => beAt f.payload (3 + 4 * c) 4) ∧
      (∀ g : Fld, (∀ k ∈ (List.range 4).map (F.RING_CREDIT_AVAILABLE x), g.key ≠ k.key) → t.rd g = s.rd g) ∧
      t.mem = s.mem := by
  have htook := RingStep.ctlTook s (txPort x) f
  have hwritten := RingStep.creditWritten (s.ctlTook (txPort x) f) x
    (creditAdded x f ((s.ctlTook (txPort x) f).path x).retRcvd)
  intro t
  rw [show t = _ from State.creditReceived_add hrun hok hadd]
  refine ⟨fun c hc => ?_, ?_, fun g hg => ?_, ?_⟩
  · rw [State.setPath_rd, State.creditWritten_rd _ x _ (fun s n c d _ _ hcd => ?_) hc, creditAdded, htook.rd _ (by simp),
      State.ctlTook_path, creditCum]
    rw [creditAdded, creditAdded, State.rd_wr_other s n (by
      simp only [Fld.key, F.RING_CREDIT_AVAILABLE]
      omega)]
  · rw [State.setPath_path_same]
    exact List.map_congr_left fun c _ => creditCum.eq_1 f c
  · exact ((State.setPath_rd _ _ _ g).trans (hwritten.rd g hg)).trans (htook.rd g (by simp))
  · exact (State.setPath_mem _ _ _).trans (hwritten.mem.trans htook.mem)

end

/-! ## The statement -/

theorem State.ringOurs_iff (s : State) (f : RingFrame) :
    s.ringOurs f = true ↔ f.dst.toNat / 64 = s.rd F.CAPO_RING_ID_RING ∨ f.bcast = true := by
  simp [State.ringOurs]

/-- A frame named for this ring is still so once it is taken, and the module is who it was. -/
theorem State.dataIn_reads {s : State} (x : Fin 2) {f : RingFrame}
    (hours : f.dst.toNat / 64 = s.rd F.CAPO_RING_ID_RING ∨ f.bcast = true) :
    (s.dataIn x f).ringOurs f = true ∧ (s.dataIn x f).ringId = s.ringId := by
  have hkept := RouteKept.dataIn s x f
  exact ⟨(hkept.ringOurs f).trans ((s.ringOurs_iff f).mpr hours), hkept.ringId⟩

/-- A good frame executes as its route. -/
theorem exec_ringData {s : State} {x : Fin 2} {f : RingFrame} {ok : Bool} (hrun : s.engRuns x = true)
    (hon : s.isOn (portDom (rxPort x)) = true) (hok : ok = true) (hsec : s.secOk (rxPort x) f.an.toNat f.pn.toNat = true)
    (heth : f.ethType = ringType) (htyp : f.typ = 1) :
    exec (.ringDataReceived x f ok) s = .next (s.ended ((s.dataIn x f).dataRouted x f)) := by
  rw [hok, ← State.ringData_good hrun hon hsec heth htyp]
  exact finish_ended s _

/-- Settles O45, by the route of a frame that arrives, the frame sent, and the credit given. -/
theorem ringData : Obligations.RingData := by
  have hav : ∀ (s u : State) (x : Fin 2) (c : Nat), c < 4 →
      (s.ended u).rd (F.RING_CREDIT_AVAILABLE x c) = u.rd (F.RING_CREDIT_AVAILABLE x c) := fun s u x c hc =>
    State.ended_rd _ _ (Fld.notRun (by simp only [F.RING_CREDIT_AVAILABLE]; omega))
  refine ⟨fun x f ok s hrun hon => ⟨fun hbad hmac => ?_, fun hmac => ?_, fun hok hsec heth htyp hlen hdst hcast => ?_,
    fun hok hsec heth htyp hlen hours => ⟨fun hsrc => ?_, fun hsrc hdst hcast => ⟨fun hold => ?_, fun n q hnew => ?_⟩,
      fun hsrc hdst hcast hhops => ?_, fun hsrc hdst hcast hhops hfwd hnone hown hcov hon' hsa => ?_,
      fun hsrc hdst hcast hhops hfwd => ?_⟩⟩,
    fun c x s hact hmay hon hsa => ⟨fun f hf hready hturn => ?_, fun cl hcl hlen hsize hring hcov hturn => ?_⟩,
    fun x f s hrun hok => ⟨fun hreset => ?_, fun hadd => ?_⟩⟩
  · obtain ⟨fwd, heq⟩ := State.ringData_bad hrun hon hbad hmac
    have htaken := RingStep.dataTaken s x f
    have hbadStep := RingStep.ringBad (s.dataTaken x f) x f fwd
    refine ⟨_, finish_ended s (s.ringData x f ok), ?_⟩
    rw [State.ended_ringCnt _ _ _ (by decide), heq, State.ringBad_count, htaken.rd _ ((by decide : ∀ x : Fin 2,
      ∀ c : Fin 4, ∀ g ∈ [F.RING_CREDIT_HELD x c], (F.RING_CNT_COUNT x 5).key ≠ g.key) x f.tc.toFin)]
    exact ⟨rfl, State.ended_memKept (hbadStep.mem.trans htaken.mem)⟩
  · refine ⟨_, finish_ended s (s.ringData x f ok), ?_⟩
    rw [State.ended_ringCnt _ _ _ (by decide), State.ringData_mac hrun hon ok hmac, State.ringCnt, State.inc_eq,
      State.rd_wr_same]
    exact ⟨rfl, State.ended_regsKept fun g hg => State.rd_wr_other _ _ (hg _ (by simp)), State.ended_memKept rfl⟩
  · have hkept := RouteKept.dataIn s x f
    have halien : (s.dataIn x f).ringOurs f = false := by
      rw [hkept.ringOurs, State.ringOurs, hcast, Bool.or_false]
      exact decide_eq_false hdst
    obtain ⟨hcnt, hstep⟩ := State.routed_counted (State.dataRouted_alien halien)
    refine ⟨_, exec_ringData hrun hon hok hsec heth htyp, ?_⟩
    rw [State.ended_ringCnt _ _ _ (by decide)]
    exact ⟨hcnt, hstep.ended⟩
  · obtain ⟨hours', hid⟩ := State.dataIn_reads x hours
    obtain ⟨hcnt, hstep⟩ := State.routed_counted (State.dataRouted_own hours' hlen (hsrc.trans hid.symm))
    refine ⟨_, exec_ringData hrun hon hok hsec heth htyp, ?_⟩
    rw [State.ended_ringCnt _ _ _ (by decide)]
    exact ⟨hcnt, hstep.ended⟩
  · obtain ⟨hours', hid⟩ := State.dataIn_reads x hours
    have hold' : ((s.dataIn x f).path x).seqs.accept f = none := by rw [(RingStep.dataIn s x f).seqs x]; exact hold
    have heq := State.dataRouted_here (x := x) hours' hlen (hid ▸ hsrc) hcast (hdst.trans hid.symm)
    rw [State.ringDeliver_old hold'] at heq
    obtain ⟨hcnt, hstep⟩ := State.routed_counted heq
    refine ⟨_, exec_ringData hrun hon hok hsec heth htyp, ?_⟩
    rw [State.ended_ringCnt _ _ _ (by decide)]
    exact ⟨hcnt, hstep.ended⟩
  · obtain ⟨hours', hid⟩ := State.dataIn_reads x hours
    have hnew' : ((s.dataIn x f).path x).seqs.accept f = some (n, q) := by
      rw [(RingStep.dataIn s x f).seqs x]
      exact hnew
    have hin : ∀ i ∈ [2, 7, 9], (s.dataIn x f).rd (F.RING_CNT_COUNT x i) = s.rd (F.RING_CNT_COUNT x i) := fun i hi =>
      (RingStep.dataIn s x f).rd _ ((by decide : ∀ x : Fin 2, ∀ c : Fin 4, ∀ i ∈ [2, 7, 9],
        ∀ g ∈ [F.RING_CREDIT_HELD x c], (F.RING_CNT_COUNT x i).key ≠ g.key) x f.tc.toFin i hi)
    obtain ⟨hseqs, hmissed, hput⟩ := State.ringDeliver_shown hnew'
    rw [← State.dataRouted_here hours' hlen (hid ▸ hsrc) hcast (hdst.trans hid.symm)] at hseqs hmissed hput
    rw [hin _ (by simp)] at hmissed
    rw [hin _ (by simp), hin _ (by simp)] at hput
    refine ⟨_, exec_ringData hrun hon hok hsec heth htyp, ?_⟩
    rw [State.ended_path, State.ended_ringCnt _ _ _ (by decide), State.ended_ringCnt _ _ _ (by decide),
      State.ended_ringCnt _ _ _ (by decide)]
    exact ⟨hseqs, hmissed, hput⟩
  · obtain ⟨hours', hid⟩ := State.dataIn_reads x hours
    obtain ⟨hcnt, hstep⟩ := State.routed_counted (State.dataRouted_spent hours' hlen (hid ▸ hsrc) hcast (hid ▸ hdst) hhops)
    refine ⟨_, exec_ringData hrun hon hok hsec heth htyp, ?_⟩
    rw [State.ended_ringCnt _ _ _ (by decide)]
    exact ⟨hcnt, hstep.ended_mem⟩
  · obtain ⟨hours', hid⟩ := State.dataIn_reads x hours
    have hkept := RouteKept.dataIn s x f
    have heq := (State.dataRouted_on (x := x) hours' hlen (hid ▸ hsrc) hcast (hid ▸ hdst) hhops).trans
      (State.ringForward_now (hkept.fwdData.trans hfwd) (by rw [hkept.transit]; exact hnone)
        ((hkept.ownReady f.tc.isLt).trans hown) ((hkept.covers f.tc.isLt _).trans hcov))
    obtain ⟨⟨l, hl, hmem⟩, hcnt, hkeptMem⟩ := State.routed_on (f := f) hon' hsa { f with hops := f.hops - 1 }
    refine ⟨_, l, exec_ringData hrun hon hok hsec heth htyp, ?_⟩
    rw [State.ended_ringCnt _ _ _ (by decide), State.ended_out, heq]
    exact ⟨hl, hmem, hcnt, State.ended_memKept hkeptMem⟩
  · obtain ⟨hours', hid⟩ := State.dataIn_reads x hours
    have heq := (State.dataRouted_on (x := x) hours' hlen (hid ▸ hsrc) hcast (hid ▸ hdst) hhops).trans
      (State.ringForward_wait ((RouteKept.dataIn s x f).fwdData.trans hfwd))
    obtain ⟨htransit, hcnt, hrd, hmem⟩ := State.routed_wait (s := s) (x := x) (f := f) { f with hops := f.hops - 1 }
    refine ⟨_, exec_ringData hrun hon hok hsec heth htyp, ?_⟩
    rw [State.ended_ringCnt _ _ _ (by decide), State.ended_path, heq]
    exact ⟨htransit, hcnt, State.ended_regsKept hrd, State.ended_memKept hmem⟩
  · obtain ⟨y, rfl⟩ : ∃ y : Fin 2, x = y.val := ⟨⟨x, State.activePath_lt hact⟩, rfl⟩
    obtain ⟨⟨l, hl, hmem⟩, htransit, hcnt, hkeptMem⟩ :=
      State.ringTransmit_transit_shown hon hsa hact hmay hf hready hturn
    refine ⟨_, l, finish_ended s (s.ringTransmit c true), ?_⟩
    rw [State.ended_ringCnt _ _ _ (by decide), State.ended_path, State.ended_out]
    exact ⟨hl, hmem, htransit, hcnt, State.ended_memKept hkeptMem⟩
  · obtain ⟨y, rfl⟩ : ∃ y : Fin 2, x = y.val := ⟨⟨x, State.activePath_lt hact⟩, rfl⟩
    obtain ⟨hout, hseq, hcnt⟩ := State.ringTransmit_own_shown hon hsa hact hmay hcl hlen hsize hring hcov hturn
    refine ⟨_, finish_ended s (s.ringTransmit c false), ?_⟩
    rw [State.ended_ringCnt _ _ _ (by decide), State.ended_path, State.ended_out]
    exact ⟨hout, hseq, hcnt⟩
  · obtain ⟨hcredit, hsent, hcnt, hmem⟩ := State.creditReceived_reset_shown hrun hok hreset
    refine ⟨_, finish_ended s (s.creditReceived x f), fun c hc => ?_, ?_, ?_, State.ended_memKept hmem⟩
    · rw [hav s _ x c hc]
      exact hcredit c hc
    · rw [State.ended_path, hsent]
    · rw [State.ended_ringCnt _ _ _ (by decide), hcnt]
  · obtain ⟨hcredit, hret, hrd, hmem⟩ := State.creditReceived_add_shown hrun hok hadd
    refine ⟨_, finish_ended s (s.creditReceived x f), fun c hc => ?_, ?_, State.ended_regsKept hrd,
      State.ended_memKept hmem⟩
    · rw [hav s _ x c hc]
      exact hcredit c hc
    · rw [State.ended_path, hret]

end Sys2Proof.Machine
end

section
/-!
PROOFS. Serving HCP requests (R369 to R371): what a request leaves around what it executes.
-/
namespace Sys2Proof.Machine

/-! ## The frame -/

/-- The state outside the registers, HCP and what was put out. -/
def State.offHcp (s : State) : State := { s with regs := [], out := [], hcp := State.reset.hcp }

/-- From `s` to `t` the registers of `l`, what HCP keeps and what was put out may change. -/
structure HcpStep (l : List Fld) (s t : State) : Prop where
  rd : ∀ g : Fld, (∀ f ∈ l, g.key ≠ f.key) → t.rd g = s.rd g
  rest : t.offHcp = s.offHcp

namespace HcpStep

theorem refl (l : List Fld) (s : State) : HcpStep l s s := ⟨fun _ _ => rfl, rfl⟩

theorem trans {l : List Fld} {s t u : State} (h : HcpStep l s t) (k : HcpStep l t u) : HcpStep l s u :=
  ⟨fun g hg => (k.rd g hg).trans (h.rd g hg), k.rest.trans h.rest⟩

theorem mono {l m : List Fld} {s t : State} (h : HcpStep l s t) (hlm : ∀ f ∈ l, f ∈ m) : HcpStep m s t :=
  ⟨fun g hg => h.rd g fun f hf => hg f (hlm f hf), h.rest⟩

section
variable {l : List Fld} {s t : State} (h : HcpStep l s t)
include h

theorem kept {α : Type} (f : State → α) (hf : ∀ s : State, f s.offHcp = f s) : f t = f s := by
  rw [← hf t, h.rest, hf]

theorem mem : t.mem = s.mem := h.kept State.mem fun _ => rfl
theorem shadow : t.shadow = s.shadow := h.kept State.shadow fun _ => rfl
theorem slot : t.slot = s.slot := h.kept State.slot fun _ => rfl
theorem peg : t.peg = s.peg := h.kept State.peg fun _ => rfl
theorem evts : t.evts = s.evts := h.kept State.evts fun _ => rfl

theorem isSet {g : Fld} (hg : ∀ f ∈ l, g.key ≠ f.key) : t.isSet g = s.isSet g := by
  rw [State.isSet, h.rd g hg, State.isSet]

end

section
variable (s : State)

theorem wr (f : Fld) (v : Nat) : HcpStep [f] s (s.wr f v) :=
  ⟨fun _ hg => s.rd_wr_other v (hg f (List.mem_singleton_self f)), rfl⟩

theorem wrOf {l : List Fld} {f : Fld} (hf : f ∈ l) (v : Nat) : HcpStep l s (s.wr f v) :=
  (wr s f v).mono fun g hg => by rwa [List.mem_singleton.mp hg]

theorem setHcp (x : HcpState) : HcpStep [] s (s.setHcp x) := ⟨fun _ _ => rfl, rfl⟩

theorem emit (o : Output) : HcpStep [] s (s.emit o) := ⟨fun _ _ => rfl, rfl⟩

theorem hcpCnt (i : Nat) : HcpStep [F.HCP_CNT_COUNT i] s (s.hcpCnt i) := wr s _ _

theorem tidRecord (k t status : Nat) : HcpStep [] s (s.tidRecord k t status) := by
  unfold State.tidRecord
  split
  · exact setHcp s _
  · exact refl [] s

theorem tidAccept (k t : Nat) : HcpStep [F.HCP_SESSION_STAT_LAST_TID k] s (s.tidAccept k t) := by
  unfold State.tidAccept
  extract_lets isNew
  split
  · exact ((setHcp s _).mono (by simp)).trans (wr _ _ _)
  · exact refl _ s

/-- The registers that a request writes before it executes. -/
theorem ofServed (h : HcpHdr) :
    HcpStep [F.HCP_SESSION_STAT_LAST_TID h.session.val, F.HCP_CNT_COUNT 0] s (served h s) :=
  ((tidAccept s _ _).mono (by simp)).trans ((hcpCnt _ 0).mono (by simp))

theorem setXfer (k : Nat) (x : Option Transfer) : HcpStep [F.HCP_SESSION_STAT_STAGED_PCT k] s (s.setXfer k x) := by
  unfold State.setXfer
  split
  · exact ((setHcp s _).mono (by simp)).trans (wr _ _ _)
  · exact ((setHcp s _).mono (by simp)).trans (wr _ _ _)

end

/-- With no shadowed write of HCP due, the end of a command writes RUN alone. -/
theorem hcpEnd {s : State} (h : s.shadow.filter (fun e => inBlock bHCP e.1) = []) :
    HcpStep [F.STATE_RUN bHCP] s s.hcpEnd := by
  rcases State.hcpEnd_of_no_due h with he | he
  · rw [he]
    exact refl _ s
  · rw [he]
    exact wr s _ _

end HcpStep

/-! ## What HCP keeps -/

/-- The windows of request numbers alone differ. -/
def State.SameButWins (s t : State) : Prop := ∃ w, t.hcp = { s.hcp with wins := w }

theorem State.tidRecord_hcp (s : State) (k t status : Nat) : s.SameButWins (s.tidRecord k t status) := by
  unfold State.tidRecord
  split
  · exact ⟨_, rfl⟩
  · exact ⟨s.hcp.wins, rfl⟩

theorem State.tidRecord_out (s : State) (k t status : Nat) : (s.tidRecord k t status).out = s.out := by
  unfold State.tidRecord
  split
  · rfl
  · rfl

theorem served_hcp (h : HcpHdr) (s : State) : s.SameButWins (served h s) := by
  unfold served State.tidAccept
  extract_lets isNew
  split
  · exact ⟨_, rfl⟩
  · exact ⟨s.hcp.wins, rfl⟩

theorem served_out (h : HcpHdr) (s : State) : (served h s).out = s.out := by
  unfold served State.tidAccept
  extract_lets isNew
  split
  · rfl
  · rfl

/-! ## Answers -/

theorem State.hcpOpen_of_assoc {s : State} {h : HcpHdr} {b : Bool} (hrun : s.run bHCP = true)
    (hassoc : s.hcp.assoc.find h.session.val = some b) : s.hcpOpen h = true := by
  rw [State.hcpOpen, hrun, hassoc]
  simp

theorem State.hcpAnswer_port {s : State} {h : HcpHdr} (hring : h.ring = false) (typ status : Nat) (dup : Bool)
    (payload : List Byte) :
    s.hcpAnswer h typ status dup payload = s.emit (.hcp h.session.val h.tid.toNat typ status dup payload) := by
  rw [State.hcpAnswer, if_neg (by rw [hring]; decide)]

/-- A request with a TID that executes: its effect between the acceptance of the TID and the end of the command. -/
theorem State.hcpServe_run {h : HcpHdr} {typ : Nat} {s : State} (hs : Served h typ s) (htyp : typ ≠ tHELLO)
    (act : State → Nat × List Byte × State) :
    s.hcpServe h typ true act = ((s.tidAccept h.session.val h.tid.toNat).hcpRun h typ act).hcpEnd := by
  obtain ⟨hrun, hring, hassoc, hroot, htid, -⟩ := hs
  have hget : s.hcp.assoc.get h.session.val false = true := by rw [AMap.get, hassoc]; rfl
  unfold State.hcpServe
  rw [if_neg (not_not.mpr (State.hcpOpen_of_assoc hrun hassoc))]
  simp only [hring, hget, hroot, htid, Bool.false_eq_true, if_false, not_true_eq_false, Bool.not_true, Bool.and_false,
    Bool.false_and, or_false, htyp]

/-- What executes is answered while HCP runs on and the association stands. -/
theorem State.hcpRun_answered {h : HcpHdr} {typ st : Nat} {pl : List Byte} {s t : State} (hring : h.ring = false)
    (htyp : typ ≠ tHELLO) {act : State → Nat × List Byte × State} (hact : act (s.hcpCnt 0) = (st, pl, t))
    (hopen : t.hcpOpen h = true) :
    s.hcpRun h typ act =
      (t.tidRecord h.session.val h.tid.toNat st).emit (.hcp h.session.val h.tid.toNat typ st false pl) := by
  unfold State.hcpRun
  simp only [hact, hopen, if_true, htyp, if_false]
  exact State.hcpAnswer_port hring _ _ _ _

/-- What a request leaves where `t` is what it leaves before its answer. -/
structure Answered (h : HcpHdr) (typ st : Nat) (pl : List Byte) (t u : State) : Prop where
  out : u.out = .hcp h.session.val h.tid.toNat typ st false pl :: t.out
  rd : ∀ g : Fld, notRun g.key → u.rd g = t.rd g
  rest : u.offHcp = t.offHcp
  hcp : t.SameButWins u

theorem Answered.kept {h : HcpHdr} {typ st : Nat} {pl : List Byte} {t u : State} (k : Answered h typ st pl t u) {α : Type}
    (f : State → α) (hf : ∀ s : State, f s.offHcp = f s) : f u = f t := by
  rw [← hf u, k.rest, hf]

theorem State.hcpEnd_answered {h : HcpHdr} {typ st : Nat} {pl : List Byte} {t : State}
    (hdue : t.shadow.filter (fun e => inBlock bHCP e.1) = []) :
    Answered h typ st pl t ((t.tidRecord h.session.val h.tid.toNat st).emit
      (.hcp h.session.val h.tid.toNat typ st false pl)).hcpEnd := by
  have hrec := HcpStep.tidRecord t h.session.val h.tid.toNat st
  have hdue' : ((t.tidRecord h.session.val h.tid.toNat st).emit
      (.hcp h.session.val h.tid.toNat typ st false pl)).shadow.filter (fun e => inBlock bHCP e.1) = [] := by
    rw [show State.shadow (State.emit _ _) = _ from hrec.shadow]
    exact hdue
  refine ⟨?_, fun g hg => ?_, ?_, ?_⟩
  · rw [State.hcpEnd_out hdue', State.emit_out, State.tidRecord_out]
  · rw [State.hcpEnd_rd hdue' hg]
    exact hrec.rd g (by simp)
  · exact (HcpStep.hcpEnd hdue').rest.trans hrec.rest
  · rw [State.SameButWins, State.hcpEnd_hcp hdue']
    exact t.tidRecord_hcp _ _ _

/-- A request served: what it leaves after its answer, from what `act` leaves. -/
theorem State.hcpServe_answered {h : HcpHdr} {typ st : Nat} {pl : List Byte} {s t : State} (hs : Served h typ s)
    (htyp : typ ≠ tHELLO) {act : State → Nat × List Byte × State} (hact : act (served h s) = (st, pl, t))
    (hopen : t.hcpOpen h = true) (hdue : t.shadow.filter (fun e => inBlock bHCP e.1) = []) :
    Answered h typ st pl t (s.hcpServe h typ true act) := by
  rw [State.hcpServe_run hs htyp act, State.hcpRun_answered hs.2.1 htyp hact hopen]
  exact State.hcpEnd_answered hdue

end Sys2Proof.Machine
end

section
/-!
PROOFS. HCP associations, errors, resets and events (R366, R368, R377, R381, R382).
-/
namespace Sys2Proof.Machine

/-! ## What is staged discarded -/

/-- The registers that show what is staged. -/
def stagingFlds : List Fld := F.HCP_CNT_COUNT 6 :: (List.range 4).map F.HCP_SESSION_STAT_STAGED_PCT

/-- No transfer stands open, and beside the transfers and the requests under way HCP keeps what it had. -/
structure Discarded (s t : State) : Prop where
  step : HcpStep stagingFlds s t
  xfers : ∀ k, k < 4 → t.hcp.xfers.find k = none
  assoc : t.hcp.assoc = s.hcp.assoc
  out : t.out = s.out
  count : t.rd (F.HCP_CNT_COUNT 6) = (s.rd (F.HCP_CNT_COUNT 6) + 1) % 2 ^ 32

/-- The transfers of the sessions of `l` closed. -/
def State.closeXfers (s : State) (l : List Nat) : State := l.foldl (fun s k => s.setXfer k none) s

theorem State.closeXfers_hcp (l : List Nat) (s : State) :
    (s.closeXfers l).hcp.assoc = s.hcp.assoc ∧ (s.closeXfers l).out = s.out ∧
      ∀ k, (k ∈ l ∨ s.hcp.xfers.find k = none) → (s.closeXfers l).hcp.xfers.find k = none := by
  induction l generalizing s with
  | nil => exact ⟨rfl, rfl, fun k hk => hk.resolve_left List.not_mem_nil⟩
  | cons j l ih =>
    obtain ⟨hassoc, hout, hxfers⟩ := ih (s.setXfer j none)
    refine ⟨hassoc, hout, fun k hk => hxfers k ?_⟩
    by_cases hkj : k = j
    · subst hkj
      exact Or.inr (AMap.find_erase_same _ _)
    · refine (hk.imp_left fun h => (List.mem_cons.mp h).resolve_left hkj).imp_right fun h => ?_
      exact (AMap.find_erase_other _ hkj).trans h

theorem HcpStep.closeXfers (l : List Nat) (s : State) :
    HcpStep (l.map F.HCP_SESSION_STAT_STAGED_PCT) s (s.closeXfers l) := by
  induction l generalizing s with
  | nil => exact refl _ s
  | cons j l ih =>
    exact ((setXfer s j none).mono (by simp)).trans ((ih _).mono fun f hf => List.mem_cons_of_mem _ hf)

theorem State.discardStaging_discarded (s : State) : Discarded s s.discardStaging := by
  have hclose := HcpStep.closeXfers (List.range 4) s
  obtain ⟨hassoc, hout, hxfers⟩ := State.closeXfers_hcp (List.range 4) s
  refine ⟨?_, fun k hk => hxfers k (Or.inl (List.mem_range.mpr hk)), hassoc, hout, ?_⟩
  · exact ((hclose.mono fun f hf => List.mem_cons_of_mem _ hf).trans ((HcpStep.setHcp _ _).mono (by simp))).trans
      (HcpStep.wrOf _ List.mem_cons_self _)
  · have hkept : (s.closeXfers (List.range 4)).rd (F.HCP_CNT_COUNT 6) = s.rd (F.HCP_CNT_COUNT 6) :=
      hclose.rd _ (by decide)
    refine (State.rd_wr_same _ _ _).trans ?_
    show ((s.closeXfers (List.range 4)).rd (F.HCP_CNT_COUNT 6) + 1) % 2 ^ 32 = _
    rw [hkept]

/-- The gateway's flood leaves HCP and the machine outside the Pegbox as they were. -/
theorem State.floodReset_peg (s : State) : PegFrame s s.floodReset := by
  unfold State.floodReset
  split
  · exact PegFrame.hcpRing s _ _ _ _
  · exact PegFrame.refl s

/-! ## Associations -/

section
variable {s : State} (hrun : s.run bHCP = true) (hrate : s.rd F.HCP_PORT_STAT_RATE ≠ 0) (i : Bool) (c : Nat)
include hrun hrate

theorem dtlsHandshake_takes {k : Nat} (hok : s.dtlsOk i c = true)
    (hk : (List.range 4).find? (fun k => (s.hcp.assoc.find k).isNone) = some k) :
    ∃ t, exec (.dtlsHandshake i c) s = .next t ∧ t.hcp = { s.hcp with assoc := s.hcp.assoc.set k false } ∧ RegsKept [] s t ∧
      MemKept s t := by
  have htaken : s.dtlsHandshake i c = s.setHcp { s.hcp with assoc := s.hcp.assoc.set k false } := by
    unfold State.dtlsHandshake
    rw [if_neg (by simp [hrun, hrate, hok]), hk]
  refine ⟨_, finish_ended s (s.dtlsHandshake i c), ?_⟩
  rw [htaken]
  exact ⟨State.ended_hcp _ _, State.ended_regsKept fun _ _ => rfl, State.ended_memKept rfl⟩

theorem dtlsHandshake_full (hok : s.dtlsOk i c = true)
    (hk : (List.range 4).find? (fun k => (s.hcp.assoc.find k).isNone) = none) :
    ∃ t, exec (.dtlsHandshake i c) s = .next t ∧ t.hcp = s.hcp ∧
      t.rd (F.HCP_CNT_COUNT 7) = (s.rd (F.HCP_CNT_COUNT 7) + 1) % 2 ^ 32 ∧ RegsKept [F.HCP_CNT_COUNT 7] s t ∧
      MemKept s t := by
  have hfull : s.dtlsHandshake i c = s.hcpCnt 7 := by
    unfold State.dtlsHandshake
    rw [if_neg (by simp [hrun, hrate, hok]), hk]
  refine ⟨_, finish_ended s (s.dtlsHandshake i c), ?_⟩
  rw [hfull]
  refine ⟨State.ended_hcp _ _, ?_, State.ended_regsKept (HcpStep.hcpCnt s 7).rd, State.ended_memKept rfl⟩
  rw [State.ended_rd _ _ (Fld.notRun (by decide)), State.hcpCnt, State.inc_eq, State.rd_wr_same]
  rfl

omit hrun hrate in
theorem dtlsHandshake_refused (hok : s.dtlsOk i c = false) :
    ∃ t, exec (.dtlsHandshake i c) s = .next t ∧ t.hcp = s.hcp ∧ RegsKept [] s t ∧ MemKept s t := by
  have hsame : s.dtlsHandshake i c = s := if_pos (Or.inr (Or.inr (by rw [hok]; decide)))
  refine ⟨_, finish_ended s (s.dtlsHandshake i c), ?_⟩
  rw [hsame]
  exact ⟨State.ended_hcp _ _, State.ended_regsKept fun _ _ => rfl, State.ended_memKept rfl⟩

end

/-- The staging of one session discarded. -/
def State.stagingClosed (s : State) (k : Nat) : State :=
  if (s.hcp.xfers.find k).isSome then (s.setXfer k none).hcpCnt 6 else s

/-- One association closed. -/
def State.assocClosed (s : State) (k : Nat) : State :=
  (s.setHcp { s.hcp with assoc := s.hcp.assoc.erase k, fwd := s.hcp.fwd.filter (fun f => f.1 != k) }).wr
    (F.HCP_SESSION_STAT_BOUND k) 0

theorem State.dtlsAlert_eq {s : State} {k : Nat} {b : Bool} (h : s.hcp.assoc.find k = some b) :
    s.dtlsAlert k = (s.stagingClosed k).assocClosed k := by
  unfold State.dtlsAlert
  rw [h]
  rfl

/-- The registers of one session. -/
def sessionFlds (k : Nat) : List Fld :=
  [F.HCP_CNT_COUNT 6, F.HCP_SESSION_STAT_STAGED_PCT k, F.HCP_SESSION_STAT_BOUND k]

theorem HcpStep.stagingClosed (s : State) (k : Nat) : HcpStep (sessionFlds k) s (s.stagingClosed k) := by
  unfold State.stagingClosed
  split
  · exact ((setXfer s k none).mono (by simp [sessionFlds])).trans ((hcpCnt _ 6).mono (by simp [sessionFlds]))
  · exact refl _ s

theorem State.stagingClosed_xfers (s : State) (k : Nat) : (s.stagingClosed k).hcp.xfers.find k = none := by
  unfold State.stagingClosed
  split
  · exact AMap.find_erase_same _ _
  next h => simpa using h

theorem HcpStep.assocClosed (s : State) (k : Nat) : HcpStep (sessionFlds k) s (s.assocClosed k) :=
  ((setHcp s _).mono (by simp)).trans (wrOf _ (by simp [sessionFlds]) _)

theorem dtlsAlert_closes (k : Fin 4) (b : Bool) (s : State) (h : s.hcp.assoc.find k.val = some b) :
    ∃ t, exec (.dtlsAlert k) s = .next t ∧ t.hcp.assoc.find k.val = none ∧ t.rd (F.HCP_SESSION_STAT_BOUND k) = 0 ∧
      t.hcp.xfers.find k.val = none ∧ BlocksKept [bHCP] s t ∧ MemKept s t := by
  have hstep := (HcpStep.stagingClosed s k).trans (HcpStep.assocClosed (s.stagingClosed k) k)
  refine ⟨_, finish_ended s (s.dtlsAlert k), ?_⟩
  rw [State.dtlsAlert_eq h, State.ended_hcp, State.ended_rd _ _ (Fld.notRun (by
    simp only [F.HCP_SESSION_STAT_BOUND]
    omega)), State.assocClosed, State.rd_wr_same]
  refine ⟨AMap.find_erase_same _ _, rfl, s.stagingClosed_xfers k, State.ended_blocksKept fun g hg => ?_,
    State.ended_memKept hstep.mem⟩
  exact hstep.rd g (ne_of_blocks ((by decide : ∀ k : Fin 4, ∀ f ∈ sessionFlds k, ∃ b ∈ [bHCP], inBlock b f.key = true) k) hg)

/-! ## A message that R368 does not give -/

theorem State.hcpServe_bad {s : State} {h : HcpHdr} (typ : Nat) (hopen : s.hcpOpen h = true) (hring : h.ring = false)
    (act : State → Nat × List Byte × State) :
    s.hcpServe h typ false act = (s.emit (.hcp h.session.val h.tid.toNat typ stBAD false [])).hcpEnd := by
  unfold State.hcpServe
  rw [if_neg (not_not.mpr hopen)]
  simp only [hring, Bool.false_eq_true, if_false, not_false_eq_true, true_or, if_true]
  rw [State.hcpAnswer_port hring]

theorem hcpBadMessage_refused (h : HcpHdr) (typ : Byte) (r l : Bool) (b : Bool) (s : State) (hrun : s.run bHCP = true)
    (hring : h.ring = false) (hassoc : s.hcp.assoc.find h.session.val = some b) (hpend : s.pendingIn bHCP = false)
    (hbad : r = true ∨ l = false ∨ typ.toNat = 0 ∨ typ.toNat = 9 ∨ 12 < typ.toNat) :
    ∃ t, exec (.hcpBadMessage h typ r l) s = .next t ∧
      t.out = .hcp h.session.val h.tid.toNat typ.toNat stBAD false [] :: s.out ∧ RegsKept [] s t ∧ MemKept s t := by
  have hdue : (s.emit (.hcp h.session.val h.tid.toNat typ.toNat stBAD false [])).shadow.filter
      (fun e => inBlock bHCP e.1) = [] := State.due_of_pendingIn (s := s) hpend
  have heq : s.hcpBad h typ.toNat r l = (s.emit (.hcp h.session.val h.tid.toNat typ.toNat stBAD false [])).hcpEnd := by
    rw [State.hcpBad, if_pos (by simpa [tEVENT, tPRIMER_WB] using hbad),
      State.hcpServe_bad _ (State.hcpOpen_of_assoc hrun hassoc) hring]
  refine ⟨_, finish_ended s (s.hcpBad h typ.toNat r l), ?_⟩
  rw [heq, State.ended_out, State.hcpEnd_out hdue]
  refine ⟨rfl, fun g hg _ => ?_, State.ended_memKept (State.hcpEnd_mem hdue)⟩
  rw [State.ended_rd _ _ hg, State.hcpEnd_rd hdue hg]
  rfl

/-! ## RESET, and the loss and return of the link -/

theorem servedFlds (h : HcpHdr) : ∀ f ∈ [F.HCP_SESSION_STAT_LAST_TID h.session.val, F.HCP_CNT_COUNT 0],
    ∃ b ∈ [bHCP], inBlock b f.key = true :=
  (by decide : ∀ k : Fin 4, ∀ f ∈ [F.HCP_SESSION_STAT_LAST_TID k, F.HCP_CNT_COUNT 0],
    ∃ b ∈ [bHCP], inBlock b f.key = true) h.session

/-- Within HCP a request writes, before it executes, the session's last TID and the count of requests alone. -/
theorem served_rd (h : HcpHdr) (s : State) {g : Fld}
    (hg : ∀ k : Fin 4, g.key ≠ (F.HCP_SESSION_STAT_LAST_TID k).key ∧ g.key ≠ (F.HCP_CNT_COUNT 0).key) :
    (served h s).rd g = s.rd g :=
  (HcpStep.ofServed s h).rd g (by simpa using hg h.session)

theorem served_due {h : HcpHdr} {typ : Nat} {s : State} (hs : Served h typ s) :
    (served h s).shadow.filter (fun e => inBlock bHCP e.1) = [] := by
  rw [(HcpStep.ofServed s h).shadow]
  exact State.due_of_pendingIn hs.2.2.2.2.2

/-- A request that leaves RUN and the associations can be answered. -/
theorem State.hcpOpen_served {h : HcpHdr} {typ : Nat} {s t : State} (hs : Served h typ s)
    (hrun : t.rd (F.STATE_RUN bHCP) = (served h s).rd (F.STATE_RUN bHCP)) (hassoc : t.hcp.assoc = (served h s).hcp.assoc) :
    t.hcpOpen h = true := by
  obtain ⟨w, hw⟩ := served_hcp h s
  refine State.hcpOpen_of_assoc (b := true) ?_ ?_
  · rw [State.run, State.isSet, hrun, served_rd h s (by decide)]
    exact hs.1
  · rw [hassoc, hw]
    exact hs.2.2.1

theorem hcpReset_discards (h : HcpHdr) (s : State) (hs : Served h 2 s) : ∃ t, exec (.hcpReset h) s = .next t ∧
    (∀ k, k < 4 → t.hcp.xfers.find k = none) ∧
    t.rd (F.HCP_CNT_COUNT 6) = (s.rd (F.HCP_CNT_COUNT 6) + 1) % 2 ^ 32 ∧
    t.out = .hcp h.session.val h.tid.toNat 2 stOK false [] :: s.out := by
  have hflood := (served h s).floodReset_peg
  have hdisc := (served h s).floodReset.discardStaging_discarded
  have hrun : (served h s).floodReset.discardStaging.rd (F.STATE_RUN bHCP) = (served h s).rd (F.STATE_RUN bHCP) :=
    (hdisc.step.rd _ (by decide)).trans (hflood.rd _ (by decide))
  have hassoc : (served h s).floodReset.discardStaging.hcp.assoc = (served h s).hcp.assoc :=
    hdisc.assoc.trans (congrArg HcpState.assoc hflood.hcp)
  have hdue : (served h s).floodReset.discardStaging.shadow.filter (fun e => inBlock bHCP e.1) = [] := by
    rw [hdisc.step.shadow, hflood.due fun k => inBlock_of_ne (by decide)]
    exact served_due hs
  have hans := State.hcpServe_answered hs (by decide) (act := fun s => (stOK, [], s.floodReset.discardStaging)) rfl
    (State.hcpOpen_served hs hrun hassoc) hdue
  obtain ⟨w, hw⟩ := hans.hcp
  refine ⟨_, finish_ended s (s.hcpReset h), fun k hk => ?_, ?_, ?_⟩
  · rw [State.ended_hcp]
    exact (congrArg (fun x : HcpState => x.xfers.find k) hw).trans (hdisc.xfers k hk)
  · rw [State.ended_rd _ _ (Fld.notRun (by decide))]
    refine (hans.rd _ (Fld.notRun (by decide))).trans (hdisc.count.trans ?_)
    rw [hflood.rd _ (by decide), served_rd h s (by decide)]
  · rw [State.ended_out]
    exact hans.out.trans (congrArg _ (hdisc.out.trans (hflood.out.trans (served_out h s))))

/-- The link to the head end shown down. -/
def State.linkDown (s : State) : State :=
  { s.wr F.HCP_PORT_STAT_RATE 0 with ring := { (s.wr F.HCP_PORT_STAT_RATE 0).ring with heUp := false } }

theorem State.linkDown_shown (s : State) : s.linkDown.ring.heUp = false ∧ s.linkDown.rd F.HCP_PORT_STAT_RATE = 0 ∧
    s.linkDown.rd (F.HCP_CNT_COUNT 6) = s.rd (F.HCP_CNT_COUNT 6) ∧ s.linkDown.hcp = s.hcp :=
  ⟨rfl, State.rd_wr_same _ _ 0, State.rd_wr_other _ 0 (by decide), rfl⟩

/-- The members shown where the ring's control block is on. -/
def State.membersShown (s : State) : State := if s.blockOn bCAPO then s.showMembers else s

theorem RingStep.membersShown (s : State) : RingStep memberFlds s s.membersShown := by
  unfold State.membersShown
  split
  · exact showMembers s
  · exact refl _ s

theorem State.headEndLoss_eq {s : State} {d : Nat} (n : Nat) (hon : s.isOn 43 = true) (hd : 10 < d) :
    s.headEndLoss d n = s.floodReset.discardStaging.linkDown.membersShown := by
  have hkept : s.floodReset.discardStaging.isOn 43 = true := by
    rw [State.isOn, State.dom, s.floodReset.discardStaging_discarded.step.rd _ (by decide), ← State.dom, ← State.isOn,
      s.floodReset_peg.isOn (by decide), hon]
  unfold State.headEndLoss
  simp only [hd, decide_true, Bool.true_or, hon, and_self, if_true, hkept]
  rw [if_neg (by omega)]
  rfl

theorem headEndLinkLoss_discards (d n : Nat) (s : State) (hon : s.isOn 43 = true) (hd : 10 < d) :
    ∃ t, exec (.headEndLinkLoss d n) s = .next t ∧ (∀ k, k < 4 → t.hcp.xfers.find k = none) ∧
      t.rd (F.HCP_CNT_COUNT 6) = (s.rd (F.HCP_CNT_COUNT 6) + 1) % 2 ^ 32 ∧ t.rd F.HCP_PORT_STAT_RATE = 0 ∧
      t.ring.heUp = false ∧ t.hcp.assoc = s.hcp.assoc := by
  have hflood := s.floodReset_peg
  have hdisc := s.floodReset.discardStaging_discarded
  have hshow := RingStep.membersShown s.floodReset.discardStaging.linkDown
  obtain ⟨hdown, hrate, hcount, hhcp⟩ := s.floodReset.discardStaging.linkDown_shown
  refine ⟨_, finish_ended s (s.headEndLoss d n), ?_⟩
  rw [State.headEndLoss_eq n hon hd, State.ended_hcp, State.ended_ring, hshow.kept State.hcp fun _ => rfl,
    hshow.kept (fun u => u.ring.heUp) fun _ => rfl, State.ended_rd _ _ (Fld.notRun (by decide)),
    State.ended_rd _ _ (Fld.notRun (by decide)), hshow.rd _ (by decide), hshow.rd _ (by decide), hhcp, hdown, hrate, hcount,
    hdisc.count, hflood.rd _ (by decide)]
  exact ⟨hdisc.xfers, rfl, rfl, rfl, hdisc.assoc.trans (congrArg HcpState.assoc hflood.hcp)⟩

theorem headEndLinkUp_shown (r : Fin 5) (s : State) (hon : s.isOn 43 = true) :
    ∃ t, exec (.headEndLinkUp r) s = .next t ∧ t.rd F.HCP_PORT_STAT_RATE = r ∧ t.ring.heUp = decide (r.val ≠ 0) ∧
      t.hcp = s.hcp ∧ BlocksKept [bHCP, bCAPO] s t ∧ MemKept s t := by
  set u : State := { s.wr F.HCP_PORT_STAT_RATE r.val with
    ring := { (s.wr F.HCP_PORT_STAT_RATE r.val).ring with heUp := decide (r.val ≠ 0) } } with hu
  have heq : s.headEndUp r.val = u.membersShown := by
    unfold State.headEndUp
    rw [if_neg (not_not.mpr hon)]
    rfl
  have hshow := RingStep.membersShown u
  have hrate : u.rd F.HCP_PORT_STAT_RATE = r.val := by
    refine (State.rd_wr_same _ _ _).trans (Nat.mod_eq_of_lt ?_)
    exact r.isLt.trans (by decide)
  refine ⟨_, finish_ended s (s.headEndUp r.val), ?_⟩
  rw [heq, State.ended_hcp, State.ended_ring, State.ended_rd _ _ (Fld.notRun (by decide)), hshow.rd _ (by decide)]
  refine ⟨hrate, hshow.kept (fun u => u.ring.heUp) fun _ => rfl, hshow.kept State.hcp fun _ => rfl,
    State.ended_blocksKept fun g hg => ?_, State.ended_memKept hshow.mem⟩
  have hne := ne_of_blocks (l := F.HCP_PORT_STAT_RATE :: memberFlds) (by decide) hg
  exact (hshow.rd g fun f hf => hne f (List.mem_cons_of_mem _ hf)).trans (State.rd_wr_other _ _ (hne _ List.mem_cons_self))

theorem stagingResetFrame_discards (s : State) (hrun : s.run bHCP = true) (hpend : s.pendingIn bHCP = false) :
    ∃ t, exec .stagingResetFrame s = .next t ∧ (∀ k, k < 4 → t.hcp.xfers.find k = none) ∧
      t.rd (F.HCP_CNT_COUNT 6) = (s.rd (F.HCP_CNT_COUNT 6) + 1) % 2 ^ 32 := by
  have htake := PegFrame.takeQueued s 1046592
  have hdisc := (s.takeQueued 1046592).discardStaging_discarded
  have hdue : (s.takeQueued 1046592).discardStaging.shadow.filter (fun e => inBlock bHCP e.1) = [] := by
    rw [hdisc.step.shadow, htake.due fun k => inBlock_of_ne (by decide)]
    exact State.due_of_pendingIn hpend
  refine ⟨_, finish_ended s s.stagingReset, ?_⟩
  rw [State.stagingReset, if_pos hrun, State.ended_hcp, State.ended_rd _ _ (Fld.notRun (by decide)),
    State.hcpEnd_hcp hdue, State.hcpEnd_rd hdue (Fld.notRun (by decide)), hdisc.count, htake.rd _ (by decide)]
  exact ⟨hdisc.xfers, rfl⟩

/-! ## Events -/

/-- The oldest event sent to the session named. -/
def State.eventSent (s : State) (e : Evt) : State :=
  { (s.emit (.hcpEvent (s.rd F.HCP_EVT_CFG_SESSION) s.moduleId s.evtLost (evtOctets e))).setHcp { s.hcp with sent := e.seq } with
    evtLost := false }

theorem State.eventResend_sent {s : State} {e : Evt} {rest : List Evt} {n : Nat} (hevts : s.evts = e :: rest)
    (hrun : s.run bHCP = true) (hdue : s.hcp.sent ≠ e.seq ∨ s.rd F.HCP_EVT_CFG_RESEND_MS ≤ n)
    (hgate : s.isGateway = true) (hassoc : s.hcp.assoc.get (s.rd F.HCP_EVT_CFG_SESSION) false = true) :
    s.eventResend n = s.eventSent e := by
  have hnow : ¬ (¬ s.run bHCP = true ∨ (s.hcp.sent = e.seq ∧ n < s.rd F.HCP_EVT_CFG_RESEND_MS)) := by
    rintro (h | ⟨hsent, hwait⟩)
    · exact h hrun
    · exact hdue.elim (fun h => h hsent) (by omega)
  unfold State.eventResend
  simp only [hevts, List.head?_cons, hnow, if_false, hgate, true_or, if_true, hassoc, State.hcpEventOut]
  rfl

theorem eventResend_sends (e : Evt) (rest : List Evt) (n : Nat) (s : State) (hevts : s.evts = e :: rest)
    (hrun : s.run bHCP = true) (hdue : s.hcp.sent ≠ e.seq ∨ s.rd F.HCP_EVT_CFG_RESEND_MS ≤ n)
    (hgate : s.isGateway = true) (hassoc : s.hcp.assoc.get (s.rd F.HCP_EVT_CFG_SESSION) false = true) :
    ∃ t, exec (.eventResend n) s = .next t ∧ t.hcp = { s.hcp with sent := e.seq } ∧ t.evtLost = false ∧ t.evts = s.evts ∧
      t.out = .hcpEvent (s.rd F.HCP_EVT_CFG_SESSION) s.moduleId s.evtLost (evtOctets e) :: s.out ∧ RegsKept [] s t ∧
      MemKept s t := by
  refine ⟨_, finish_ended s (s.eventResend n), ?_⟩
  rw [State.eventResend_sent hevts hrun hdue hgate hassoc]
  exact ⟨State.ended_hcp _ _, State.ended_evtLost _ _, State.ended_evts _ _, State.ended_out _ _,
    State.ended_regsKept fun _ _ => rfl, State.ended_memKept rfl⟩

/-- The events that `ack` does not cover. -/
def State.acked (s : State) (ack : Nat) : State :=
  ({ s with evts := s.evts.filter (fun e => newer 32 e.seq ack) } : State).wr F.HCP_EVT_STAT_PENDING
    (s.evts.filter (fun e => newer 32 e.seq ack)).length

theorem eventAck_drops (h : HcpHdr) (a : BitVec 32) (s : State) (hs : Served h 10 s) :
    ∃ t, exec (.eventAck h a) s = .next t ∧ t.evts = s.evts.filter (fun e => newer 32 e.seq a.toNat) ∧
      t.rd F.HCP_EVT_STAT_PENDING = t.evts.length % 2 ^ 11 ∧
      t.out = .hcp h.session.val h.tid.toNat 10 stOK false [] :: s.out ∧ BlocksKept [bHCP] s t ∧ MemKept s t := by
  have hserved := HcpStep.ofServed s h
  have hrun : ((served h s).acked a.toNat).rd (F.STATE_RUN bHCP) = (served h s).rd (F.STATE_RUN bHCP) :=
    State.rd_wr_other _ _ (by decide)
  have hans := State.hcpServe_answered hs (by decide) (act := fun s => (stOK, [], s.acked a.toNat)) rfl
    (State.hcpOpen_served hs hrun rfl) (served_due hs)
  have hevts : (s.hcpServe h 10 true fun s => (stOK, [], s.acked a.toNat)).evts =
      s.evts.filter (fun e => newer 32 e.seq a.toNat) := by
    rw [hans.kept State.evts fun _ => rfl]
    exact congrArg (List.filter fun e => newer 32 e.seq a.toNat) hserved.evts
  refine ⟨_, finish_ended s (s.eventAck h a.toNat), ?_⟩
  have heq : s.eventAck h a.toNat = s.hcpServe h 10 true fun s => (stOK, [], s.acked a.toNat) := rfl
  rw [heq, State.ended_evts, State.ended_out, State.ended_rd _ _ (Fld.notRun (by decide))]
  refine ⟨hevts, ?_, ?_, fun g hg hne => ?_, State.ended_memKept ?_⟩
  · rw [hevts, hans.rd _ (Fld.notRun (by decide)), State.acked, State.rd_wr_same, hserved.evts]
    rfl
  · exact hans.out.trans (congrArg _ (served_out h s))
  · rw [State.ended_rd _ _ hg, hans.rd g hg]
    have hpend : g.key ≠ F.HCP_EVT_STAT_PENDING.key := ne_of_blocks (l := [_]) (by decide) hne _ (List.mem_singleton_self _)
    exact (State.rd_wr_other _ _ hpend).trans (hserved.rd g (ne_of_blocks (servedFlds h) hne))
  · exact (hans.kept State.mem fun _ => rfl).trans hserved.mem

/-! ## EN of HCP -/

/-- A field of Access RW written while its block does not run is written at once. -/
theorem State.putField_now (s : State) {b : Nat} (g : Fld) {f : FieldDef} (hacc : f.acc = .rw) (hreq : f.perReq = false)
    (hrun : s.run b = false) (req x : Nat) :
    s.putField req b g f x = ({ s with shadow := s.shadow.erase g.key }.wr g x).recordP f g.key x := by
  unfold State.putField
  rw [hacc]
  simp [hreq, hrun]

/-- IPV4 and EN of HCP_CTRL. -/
def ipv4Def : FieldDef := ⟨"IPV4", 1, 1, .zero, .rw, .s, .p, false, .any⟩
def hcpEnDef : FieldDef := ⟨"EN", 0, 1, .zero, .rw, .h, .p, false, .any⟩

/-- The word of HCP_CTRL with EN 1 and IPV4 0 stored. -/
def State.hcpStored (s : State) : State :=
  (s.putField 0 bHCP F.HCP_CTRL_IPV4 ipv4Def 0).putField 0 bHCP F.HCP_CTRL_EN hcpEnDef 1

theorem State.hcpStored_eq (s : State) :
    s.putFields 0 0x40110000 bHCP regsHcp[0] [] (s.hcpEnWord 0 0x40110000 1) = s.hcpStored := by
  rw [State.hcpEnWord, if_neg (by simp)]
  rfl

theorem AMap.filter_erase {α : Type} (p : Nat × α → Bool) (m : AMap α) (k : Nat) (h : m.filter p = []) :
    (m.erase k).filter p = [] := by
  rw [List.filter_eq_nil_iff] at h ⊢
  exact fun e he => h e (List.mem_of_mem_filter he)

section
variable {s : State} (hrun : s.run bHCP = false)
include hrun

theorem State.hcpStored_shown : s.hcpStored.rd F.HCP_CTRL_EN = 1 ∧
    (∀ g : Fld, (∀ f ∈ [F.HCP_CTRL_EN, F.HCP_CTRL_IPV4], g.key ≠ f.key) → s.hcpStored.rd g = s.rd g) ∧
    s.hcpStored.mem = s.mem := by
  have hrun' : (s.putField 0 bHCP F.HCP_CTRL_IPV4 ipv4Def 0).run bHCP = false := by
    rw [State.run, State.isSet, State.putField_rd_other s 0 bHCP _ _ _ (by decide)]
    exact hrun
  have htook := State.putField_took (s.putField 0 bHCP F.HCP_CTRL_IPV4 ipv4Def 0) 0 bHCP F.HCP_CTRL_EN (f := hcpEnDef)
    (x := 1) rfl rfl
  refine ⟨(htook.2.2 rfl (Or.inr hrun')).1, fun g hg => ?_, ?_⟩
  · exact (State.putField_rd_other _ 0 bHCP _ _ _ (hg _ (by simp))).trans
      (State.putField_rd_other s 0 bHCP _ _ _ (hg _ (by simp)))
  · exact (State.putField_frame _ 0 bHCP _ _ _).1.trans (State.putField_frame s 0 bHCP _ _ _).1

theorem State.hcpStored_due (hpend : s.pendingIn bHCP = false) :
    s.hcpStored.shadow.filter (fun e => inBlock bHCP e.1) = [] := by
  have hrun' : (s.putField 0 bHCP F.HCP_CTRL_IPV4 ipv4Def 0).run bHCP = false := by
    rw [State.run, State.isSet, State.putField_rd_other s 0 bHCP _ _ _ (by decide)]
    exact hrun
  have hshadow : s.hcpStored.shadow = (s.shadow.erase F.HCP_CTRL_IPV4.key).erase F.HCP_CTRL_EN.key := by
    rw [State.hcpStored, State.putField_now _ _ rfl rfl hrun', State.putField_now s _ rfl rfl hrun]
    rfl
  rw [hshadow]
  exact AMap.filter_erase _ _ _ (AMap.filter_erase _ _ _ (State.due_of_pendingIn hpend))

theorem State.writeReason_hcpCtrl : s.writeReason 0 0x40110000 bHCP regsHcp[0] [] 1 = 0 := by
  have hstatic : ∀ i, s.staticNow bHCP 0 i = false := fun i => by
    rw [State.staticNow, if_neg (by decide), if_neg (by decide)]
    exact hrun
  unfold State.writeReason
  extract_lets i x chk t
  clear_value t
  rw [if_neg, if_neg, if_neg]
  · show ¬ (false = true)
    decide
  · show ¬ (false = true)
    decide
  · simp [hstatic, show regsHcp[0].off = 0 from rfl]

theorem State.hcpStored_isOn {d : Nat} (hd : d < 50) : s.hcpStored.isOn d = s.isOn d := by
  have hkeys : ∀ d : Fin 50, ∀ f ∈ [F.HCP_CTRL_EN, F.HCP_CTRL_IPV4], (F.PWR_DOM_STATE_STATE d).key ≠ f.key := by decide
  rw [State.isOn, State.dom, (State.hcpStored_shown hrun).2.1 _ (hkeys ⟨d, hd⟩), State.isOn, State.dom]

variable (hon : s.blockOn bHCP = true) (hpend : s.pendingIn bHCP = false)
include hon hpend

theorem exec_hcpCtrlEn : exec (.hcpCtrlEn 0 1) s =
    .next (s.ended ((s.hcpStored.wrB (F.STATE_RUN bHCP) true).answer 0 0x40110000 stOK 0)) := by
  have hon43 : s.isOn 43 = true := by
    have hall : (s.isOn 49 && (s.isOn 43 && true)) = true := hon
    simp only [Bool.and_true, Bool.and_eq_true] at hall
    exact hall.2
  have hup : s.addrUp 0x40110000 = true := (s.addrUp_block bHCP 0x40110000 (by decide) (by decide) (by decide)).trans hon
  have hset : s.hcpStored.isSet F.HCP_CTRL_EN = true := by
    rw [State.isSet, (State.hcpStored_shown hrun).1]
    rfl
  have hafter : s.hcpStored.afterWrite s 0 bHCP 0 0 = s.hcpStored.wrB (F.STATE_RUN bHCP) true := by
    have hcase : s.hcpStored.afterWrite s 0 bHCP 0 0 =
        (s.hcpStored.commit bHCP).wrB (F.STATE_RUN bHCP)
          ((s.hcpStored.commit bHCP).isOn 43 && (s.hcpStored.commit bHCP).isSet F.HCP_CTRL_EN) := rfl
    rw [hcase, State.commit_of_no_due (State.hcpStored_due hrun hpend), State.hcpStored_isOn hrun (by decide), hon43, hset,
      Bool.true_and]
  have hrow : s.regWrite 0 0x40110000 1 WriteMore.none = (stOK, s.hcpStored.wrB (F.STATE_RUN bHCP) true) := by
    rw [State.regWrite_accept s hup (by decide) (b := bHCP) (off := 0) (r := regsHcp[0]) (ix := []) (by decide) (by decide)
      (by decide) (State.writeReason_hcpCtrl hrun)]
    exact congrArg (fun u => (u : State).afterWrite s 0 bHCP 0 0 |> acted) s.hcpStored_eq |>.trans (congrArg acted hafter)
  exact congrArg (finish s) (by
    rw [State.rowWrite]
    exact congrArg (fun r : Nat × State => r.2.answer 0 0x40110000 r.1 0) hrow)

theorem hcpCtrlEn_starts : ∃ t, exec (.hcpCtrlEn 0 1) s = .next t ∧ t.rd F.HCP_CTRL_EN = 1 ∧ t.run bHCP = true ∧
    RegsKept [F.HCP_CTRL_EN, F.HCP_CTRL_IPV4] s t ∧ MemKept s t := by
  obtain ⟨hen, hkept, hmem⟩ := State.hcpStored_shown hrun
  set u := (s.hcpStored.wrB (F.STATE_RUN bHCP) true).answer 0 0x40110000 stOK 0 with hu
  have hrd : ∀ g : Fld, g.key ≠ (F.STATE_RUN bHCP).key → u.rd g = s.hcpStored.rd g := fun g hg =>
    (State.answer_rd ..).trans (State.rd_wr_other _ _ hg)
  have huRun : u.run bHCP = true := by
    rw [State.run, State.isSet, hu, State.answer_rd, State.wrB, State.rd_wr_same]
    rfl
  have huAs : u.runsAs bHCP = true := by
    have hall : (s.isOn 49 && (s.isOn 43 && true)) = true := hon
    simp only [Bool.and_true, Bool.and_eq_true] at hall
    change (u.isOn 43 && u.isSet F.HCP_CTRL_EN) = true
    rw [State.isOn, State.dom, hrd _ (by decide), ← State.dom, ← State.isOn, State.hcpStored_isOn hrun (by decide), hall.2,
      State.isSet, hrd _ (by decide), hen]
    rfl
  have hend : (s.ended u).run bHCP = u.runsAs bHCP := State.ended_run_of s (b := bHCP) (fun v hv => by
    change (v.isOn 43 && v.isSet F.HCP_CTRL_EN) = (u.isOn 43 && u.isSet F.HCP_CTRL_EN)
    rw [State.isOn, State.dom, hv _ (Fld.notRun (by decide)), State.isSet, hv _ (Fld.notRun (by decide)), State.isOn,
      State.dom, State.isSet]) (huRun.trans huAs.symm)
  refine ⟨_, exec_hcpCtrlEn hrun hon hpend, ?_, hend.trans huAs, fun g hg hne => ?_, State.ended_memKept hmem⟩
  · rw [State.ended_rd _ _ (Fld.notRun (by decide)), hrd _ (by decide), hen]
  · rw [State.ended_rd _ _ hg, hrd _ (hg bHCP (by decide)), hkept g hne]

end

/-- Settles O50, clause by clause: associations, a bad message, RESET and the link, events, EN. -/
theorem hcpSessions : Obligations.HcpSessions :=
  ⟨fun _ hrun hrate => ⟨fun i c _ hok hk => dtlsHandshake_takes hrun hrate i c hok hk,
      fun i c hok => dtlsHandshake_refused i c hok, fun i c hok hk => dtlsHandshake_full hrun hrate i c hok hk⟩,
    dtlsAlert_closes, hcpBadMessage_refused, hcpReset_discards, headEndLinkLoss_discards, headEndLinkUp_shown,
    stagingResetFrame_discards, eventResend_sends, eventAck_drops,
    fun _ hon hrun hpend => hcpCtrlEn_starts hrun hon hpend⟩

end Sys2Proof.Machine
end

section
/-!
PROOFS. Control transfers over HCP (R373 to R378), the digest and the write-back of the configuration (R380).
-/
namespace Sys2Proof.Machine

/-! ## Octets staged -/

/-- A key above all others goes to the end. -/
theorem AMap.set_append {α : Type} (m : AMap α) (k : Nat) (v : α) (h : ∀ e ∈ m, e.1 < k) : m.set k v = m ++ [(k, v)] := by
  induction m with
  | nil => rfl
  | cons e m ih =>
    have he := h e List.mem_cons_self
    rw [AMap.set, if_neg (by omega), if_neg (by omega), ih fun x hx => h x (List.mem_cons_of_mem e hx)]
    rfl

theorem stage_octets (l : List Byte) : ∀ (m : AMap Byte) (o : Nat), (∀ e ∈ m, e.1 < o) →
    (stage m o l).map (·.2) = m.map (·.2) ++ l := by
  induction l with
  | nil => exact fun m o _ => by simp [stage]
  | cons b l ih =>
    intro m o hm
    have hset := AMap.set_append m o b hm
    rw [stage, ih (m.set o b) (o + 1) fun e he => ?_, hset]
    · simp
    · rw [hset] at he
      rcases List.mem_append.mp he with he | he
      · exact (hm e he).trans (Nat.lt_succ_self o)
      · rw [List.mem_singleton.mp he]
        exact Nat.lt_succ_self o

/-- The octets staged in a transfer that has none are its data, wherever they stand in it. -/
theorem stage_first (l : List Byte) (o : Nat) : (stage [] o l).map (·.2) = l := by
  simpa using stage_octets l [] o fun e he => absurd he List.not_mem_nil

theorem stage_length (l : List Byte) (o : Nat) : (stage [] o l).length = l.length := by
  rw [← List.length_map (f := fun e : Nat × Byte => e.2), stage_first]

/-! ## CT_SEGMENT -/

/-- What a segment does to session `k`. -/
def State.segAct (tid k : Nat) (g : CtSeg) (s : State) : Nat × List Byte × State :=
  let x := s.segXfer k g
  let n := g.total.toNat
  if g.kind.toNat = 0 ∨ 5 < g.kind.toNat ∨ n = 0 ∨ 4194304 < n then (stBAD, [], s.setXfer k none)
  else if x.kind ≠ g.kind.toNat ∨ x.total ≠ n ∨ x.crc ≠ g.crc.toNat ∨ n < g.ofs.toNat + g.data.length then
    (stBAD, [], s.setXfer k none)
  else if 65536 < n ∧ ¬ s.isOn 24 then (stBAD, [], s)
  else
    let x := { x with data := stage x.data g.ofs.toNat g.data }
    let s := s.setXfer k (some x)
    let s := if 65536 < n then s.wrOctets (sessionArea k + g.ofs.toNat) g.data else s
    if ¬ bitAt g.flags.toNat 0 then (stOK, [], s)
    else if x.data.length < n then (stBAD, [], s)
    else s.commitTransfer k tid { x with feeder := bits g.flags.toNat 1 4 }

theorem State.ctSegment_eq (s : State) (h : HcpHdr) {g : CtSeg} (hlen : g.data.length ≤ 1024) :
    s.ctSegment h g = s.hcpServe h 7 true (State.segAct h.tid.toNat h.session.val g) := by
  rw [← decide_eq_true hlen]
  rfl

/-- The transfer that a first segment opens. -/
def segOpened (g : CtSeg) : Transfer :=
  ⟨g.ctId.toNat, g.kind.toNat, bits g.flags.toNat 1 4, g.total.toNat, g.crc.toNat, stage [] g.ofs.toNat g.data⟩

/-- A first segment within its bounds that stages its octets below the bulk area. -/
theorem State.segAct_first {s : State} {tid k : Nat} {g : CtSeg} (hkind : 1 ≤ g.kind.toNat) (hkind' : g.kind.toNat ≤ 5)
    (htotal : 1 ≤ g.total.toNat) (htotal' : g.total.toNat ≤ 65536) (hofs : g.ofs.toNat + g.data.length ≤ g.total.toNat)
    (hnone : s.hcp.xfers.find k = none) :
    State.segAct tid k g s =
      if ¬ bitAt g.flags.toNat 0 then (stOK, [], s.setXfer k (some (segOpened g)))
      else if g.data.length < g.total.toNat then (stBAD, [], s.setXfer k (some (segOpened g)))
      else (s.setXfer k (some (segOpened g))).commitTransfer k tid (segOpened g) := by
  have hx : s.segXfer k g = ⟨g.ctId.toNat, g.kind.toNat, bits g.flags.toNat 1 4, g.total.toNat, g.crc.toNat, []⟩ := by
    rw [State.segXfer, hnone]
  unfold State.segAct
  rw [hx]
  extract_lets x n y u v
  rw [if_neg (by omega), if_neg (by simp only [x, n]; omega), if_neg (by omega)]
  have hv : v = u := if_neg (by omega)
  rw [hv, ← stage_length g.data g.ofs.toNat]
  rfl

/-! ## A commit refused by its CRC -/

/-- The registers of a session's last commit and of its staging. -/
def commitFlds (k : Nat) : List Fld :=
  [F.HCP_SESSION_STAT_STAGED_PCT k, F.HCP_LAST_COMMIT_CT_ID k, F.HCP_LAST_COMMIT_TID k, F.HCP_LAST_COMMIT_STAT_STATUS k,
    F.HCP_LAST_COMMIT_STAT_KIND k]

/-- The record of a commit that is refused. -/
def State.commitRefused (s : State) (k tid : Nat) (x : Transfer) : State :=
  ((((s.setXfer k none).wr (F.HCP_LAST_COMMIT_CT_ID k) x.ctId).wr (F.HCP_LAST_COMMIT_TID k) tid).wr
    (F.HCP_LAST_COMMIT_STAT_STATUS k) stBAD).wr (F.HCP_LAST_COMMIT_STAT_KIND k) x.kind

theorem State.commitTransfer_badCrc {s : State} {k tid : Nat} {x : Transfer} (hcrc : crc32 (x.data.map (·.2)) ≠ x.crc) :
    s.commitTransfer k tid x = (stBAD, octetsBE 2 (s.commitRefused k tid x).fresh.1 ++ octetsBE 2 0xFFFF,
      (s.commitRefused k tid x).fresh.2) := by
  have happly : (s.setXfer k none).applyTransfer k x = ((stBAD, 0xFFFF, false), s.setXfer k none) := if_pos hcrc
  unfold State.commitTransfer
  rw [happly]
  rfl

/-! ## What a request leaves outside HCP -/

theorem served_block (h : HcpHdr) (s : State) {g : Fld} (hg : ∀ b ∈ [bHCP], inBlock b g.key = false) :
    (served h s).rd g = s.rd g := (HcpStep.ofServed s h).rd g (ne_of_blocks (servedFlds h) hg)

/-- A request whose effect stays within HCP keeps the other blocks and memory. -/
theorem Answered.kept_blocks {h : HcpHdr} {typ st : Nat} {pl : List Byte} {s t u : State} (k : Answered h typ st pl t u)
    (hrd : ∀ g : Fld, (∀ b ∈ [bHCP], inBlock b g.key = false) → t.rd g = (served h s).rd g)
    (hmem : t.mem = (served h s).mem) : BlocksKept [bHCP] s (s.ended u) ∧ MemKept s (s.ended u) := by
  refine ⟨fun g hg hne => ?_, State.ended_memKept ?_⟩
  · rw [State.ended_rd _ _ hg, k.rd g hg, hrd g hne, served_block h s hne]
  · exact (k.kept State.mem fun _ => rfl).trans (hmem.trans (HcpStep.ofServed s h).mem)

theorem Answered.ended_out {h : HcpHdr} {typ st : Nat} {pl : List Byte} {s t u : State} (k : Answered h typ st pl t u)
    (hout : t.out = (served h s).out) : (s.ended u).out = .hcp h.session.val h.tid.toNat typ st false pl :: s.out := by
  rw [State.ended_out, k.out, hout, served_out]

theorem Answered.ended_xfers {h : HcpHdr} {typ st : Nat} {pl : List Byte} {s t u : State} (k : Answered h typ st pl t u) :
    (s.ended u).hcp.xfers = t.hcp.xfers := by
  obtain ⟨w, hw⟩ := k.hcp
  rw [State.ended_hcp, hw]

theorem served_xfers (h : HcpHdr) (s : State) : (served h s).hcp.xfers = s.hcp.xfers := by
  obtain ⟨w, hw⟩ := served_hcp h s
  rw [hw]

theorem State.setXfer_hcp (s : State) (k : Nat) (x : Option Transfer) :
    (s.setXfer k x).hcp.xfers.find k = x ∧ (s.setXfer k x).hcp.assoc = s.hcp.assoc ∧ (s.setXfer k x).out = s.out := by
  unfold State.setXfer
  split
  · exact ⟨AMap.find_set_same _ _ _, rfl, rfl⟩
  · exact ⟨AMap.find_erase_same _ _, rfl, rfl⟩

theorem commitFlds_hcp : ∀ k : Fin 4, ∀ f ∈ F.STATE_RUN bHCP :: commitFlds k, ∃ b ∈ [bHCP], inBlock b f.key = true := by
  decide

/-- The transfer set by a request, and nothing else. -/
theorem State.setXfer_answered {h : HcpHdr} {typ st : Nat} {s : State} (hs : Served h typ s) (htyp : typ ≠ tHELLO)
    (x : Option Transfer) {act : State → Nat × List Byte × State}
    (hact : act (served h s) = (st, [], (served h s).setXfer h.session.val x)) :
    ∃ u, s.hcpServe h typ true act = u ∧ (s.ended u).hcp.xfers.find h.session.val = x ∧
      (x = none → (s.ended u).rd (F.HCP_SESSION_STAT_STAGED_PCT h.session.val) = 0) ∧
      (s.ended u).out = .hcp h.session.val h.tid.toNat typ st false [] :: s.out ∧
      BlocksKept [bHCP] s (s.ended u) ∧ MemKept s (s.ended u) := by
  have hset := HcpStep.setXfer (served h s) h.session.val x
  obtain ⟨hfind, hassoc, hout⟩ := (served h s).setXfer_hcp h.session.val x
  have hrun : (F.STATE_RUN bHCP).key ≠ (F.HCP_SESSION_STAT_STAGED_PCT h.session.val).key :=
    (by decide : ∀ k : Fin 4, (F.STATE_RUN bHCP).key ≠ (F.HCP_SESSION_STAT_STAGED_PCT k).key) h.session
  have hans := State.hcpServe_answered hs htyp hact
    (State.hcpOpen_served hs (hset.rd _ (by simpa using hrun)) hassoc) (by rw [hset.shadow]; exact served_due hs)
  refine ⟨_, rfl, ?_, fun hx => ?_, hans.ended_out hout, hans.kept_blocks (fun g hg => hset.rd g fun f hf => ?_) hset.mem⟩
  · rw [hans.ended_xfers, hfind]
  · have hrun : notRun (F.HCP_SESSION_STAT_STAGED_PCT h.session.val).key := Fld.notRun ((by decide : ∀ k : Fin 4,
      (F.HCP_SESSION_STAT_STAGED_PCT k).addr % 0x10000 ≠ 0xFF00 ∧ (F.HCP_SESSION_STAT_STAGED_PCT k).lo < 32) h.session)
    rw [State.ended_rd _ _ hrun, hans.rd _ hrun, hx]
    exact State.rd_wr_same _ _ _
  · have hk := commitFlds_hcp h.session f (by simp only [commitFlds, List.mem_singleton.mp hf]; simp)
    exact ne_of_blocks (l := [f]) (by simpa using hk) hg f (List.mem_singleton_self f)

/-! ## Segments -/

section
variable {h : HcpHdr} {g : CtSeg} {s : State} (hs : Served h 7 s) (hlen : g.data.length ≤ 1024) (hkind : 1 ≤ g.kind.toNat)
  (hkind' : g.kind.toNat ≤ 5) (htotal : 1 ≤ g.total.toNat) (htotal' : g.total.toNat ≤ 65536)
  (hofs : g.ofs.toNat + g.data.length ≤ g.total.toNat) (hnone : s.hcp.xfers.find h.session.val = none)
include hs hlen hkind hkind' htotal htotal' hofs hnone

omit hs hlen in
theorem State.segAct_served : State.segAct h.tid.toNat h.session.val g (served h s) =
    if ¬ bitAt g.flags.toNat 0 then (stOK, [], (served h s).setXfer h.session.val (some (segOpened g)))
    else if g.data.length < g.total.toNat then (stBAD, [], (served h s).setXfer h.session.val (some (segOpened g)))
    else ((served h s).setXfer h.session.val (some (segOpened g))).commitTransfer h.session.val h.tid.toNat (segOpened g) :=
  State.segAct_first hkind hkind' htotal htotal' hofs (by rw [served_xfers]; exact hnone)

theorem ctSegment_stages (hmore : bitAt g.flags.toNat 0 = false) :
    ∃ t, exec (.ctSegment h g) s = .next t ∧ t.out = .hcp h.session.val h.tid.toNat 7 stOK false [] :: s.out ∧
      t.hcp.xfers.find h.session.val = some (segOpened g) ∧ BlocksKept [bHCP] s t ∧ MemKept s t := by
  have hact := State.segAct_served (h := h) hkind hkind' htotal htotal' hofs hnone
  rw [if_pos (by rw [hmore]; decide)] at hact
  obtain ⟨u, hu, hfind, -, hout, hkept⟩ := State.setXfer_answered hs (by decide) _ hact
  refine ⟨_, finish_ended s (s.ctSegment h g), ?_⟩
  rw [State.ctSegment_eq s h hlen, hu]
  exact ⟨hout, hfind, hkept⟩

theorem ctSegment_short (hlast : bitAt g.flags.toNat 0 = true) (hshort : g.data.length < g.total.toNat) :
    ∃ t, exec (.ctSegment h g) s = .next t ∧ t.out = .hcp h.session.val h.tid.toNat 7 stBAD false [] :: s.out ∧
      BlocksKept [bHCP] s t ∧ MemKept s t := by
  have hact := State.segAct_served (h := h) hkind hkind' htotal htotal' hofs hnone
  rw [if_neg (by rw [hlast]; decide), if_pos hshort] at hact
  obtain ⟨u, hu, -, -, hout, hkept⟩ := State.setXfer_answered hs (by decide) _ hact
  refine ⟨_, finish_ended s (s.ctSegment h g), ?_⟩
  rw [State.ctSegment_eq s h hlen, hu]
  exact ⟨hout, hkept⟩

end

/-- The record of a refused commit, as it reads. -/
theorem State.commitRefused_rd (s : State) (k : Fin 4) {tid : Nat} {x : Transfer} (htid : tid < 2 ^ 16)
    (hid : x.ctId < 2 ^ 16) (hkind : x.kind < 2 ^ 8) :
    let t := s.commitRefused k tid x
    t.rd (F.HCP_LAST_COMMIT_CT_ID k) = x.ctId ∧ t.rd (F.HCP_LAST_COMMIT_TID k) = tid ∧
      t.rd (F.HCP_LAST_COMMIT_STAT_STATUS k) = stBAD ∧ t.rd (F.HCP_LAST_COMMIT_STAT_KIND k) = x.kind := by
  have hne : ((commitFlds k).map Fld.key).Nodup := by
    revert k
    decide
  simp only [commitFlds, List.map_cons, List.map_nil, List.nodup_cons, List.mem_cons, List.not_mem_nil, or_false,
    not_or] at hne
  obtain ⟨-, ⟨hCT, hCS, hCK⟩, ⟨hTS, hTK⟩, hSK, -⟩ := hne
  intro t
  simp only [t, State.commitRefused, State.rd_wr_same, State.rd_wr_other _ _ hCT, State.rd_wr_other _ _ hCS,
    State.rd_wr_other _ _ hCK, State.rd_wr_other _ _ hTS, State.rd_wr_other _ _ hTK, State.rd_wr_other _ _ hSK]
  exact ⟨Nat.mod_eq_of_lt hid, Nat.mod_eq_of_lt htid, rfl, Nat.mod_eq_of_lt hkind⟩

theorem HcpStep.commitRefused (s : State) (k tid : Nat) (x : Transfer) : HcpStep (commitFlds k) s (s.commitRefused k tid x) :=
  (((((setXfer s k none).mono (by simp [commitFlds])).trans (wrOf _ (by simp [commitFlds]) _)).trans
    (wrOf _ (by simp [commitFlds]) _)).trans (wrOf _ (by simp [commitFlds]) _)).trans (wrOf _ (by simp [commitFlds]) _)

theorem ctSegment_badCrc {h : HcpHdr} {g : CtSeg} {s : State} (hs : Served h 7 s) (hlen : g.data.length ≤ 1024)
    (hkind : 1 ≤ g.kind.toNat) (hkind' : g.kind.toNat ≤ 5) (htotal : 1 ≤ g.total.toNat) (htotal' : g.total.toNat ≤ 65536)
    (hofs : g.ofs.toNat + g.data.length ≤ g.total.toNat) (hnone : s.hcp.xfers.find h.session.val = none)
    (hlast : bitAt g.flags.toNat 0 = true) (hfull : g.data.length = g.total.toNat) (hcrc : crc32 g.data ≠ g.crc.toNat) :
    ∃ t c, exec (.ctSegment h g) s = .next t ∧
      t.out = .hcp h.session.val h.tid.toNat 7 stBAD false (octetsBE 2 c ++ octetsBE 2 0xFFFF) :: s.out ∧
      t.hcp.xfers.find h.session.val = none ∧ t.rd (F.HCP_LAST_COMMIT_CT_ID h.session.val) = g.ctId.toNat ∧
      t.rd (F.HCP_LAST_COMMIT_TID h.session.val) = h.tid.toNat ∧
      t.rd (F.HCP_LAST_COMMIT_STAT_STATUS h.session.val) = stBAD ∧
      t.rd (F.HCP_LAST_COMMIT_STAT_KIND h.session.val) = g.kind.toNat ∧
      t.rd (F.HCP_LAST_COMMIT_STAT_COMMITS h.session.val) = s.rd (F.HCP_LAST_COMMIT_STAT_COMMITS h.session.val) ∧
      BlocksKept [bHCP] s t ∧ MemKept s t := by
  set v := (served h s).setXfer h.session.val (some (segOpened g)) with hv
  set w := v.commitRefused h.session.val h.tid.toNat (segOpened g) with hw
  have hcrc' : crc32 ((segOpened g).data.map (·.2)) ≠ (segOpened g).crc := by
    rw [segOpened, stage_first]
    exact hcrc
  have hact := State.segAct_served (h := h) hkind hkind' htotal htotal' hofs hnone
  rw [if_neg (by rw [hlast]; decide), if_neg (by omega), ← hv, State.commitTransfer_badCrc hcrc', ← hw] at hact
  have hstep : HcpStep (commitFlds h.session.val) (served h s) w :=
    ((HcpStep.setXfer _ _ _).mono (by simp [commitFlds])).trans (HcpStep.commitRefused v _ _ _)
  have hassoc : w.hcp.assoc = (served h s).hcp.assoc :=
    (State.setXfer_hcp v h.session.val none).2.1.trans ((served h s).setXfer_hcp h.session.val (some (segOpened g))).2.1
  have hout : w.out = (served h s).out :=
    (State.setXfer_hcp v h.session.val none).2.2.trans ((served h s).setXfer_hcp h.session.val (some (segOpened g))).2.2
  have hrunKey : ∀ f ∈ commitFlds h.session.val, (F.STATE_RUN bHCP).key ≠ f.key :=
    (by decide : ∀ k : Fin 4, ∀ f ∈ commitFlds k, (F.STATE_RUN bHCP).key ≠ f.key) h.session
  have hans := State.hcpServe_answered hs (by decide) hact
    (State.hcpOpen_served (t := w.fresh.2) hs (hstep.rd _ hrunKey) hassoc) (by
      show w.shadow.filter _ = []
      rw [hstep.shadow]
      exact served_due hs)
  have hrd : ∀ f ∈ F.HCP_LAST_COMMIT_STAT_COMMITS h.session.val :: commitFlds h.session.val, ∀ u,
      Answered h 7 stBAD (octetsBE 2 w.fresh.1 ++ octetsBE 2 0xFFFF) w.fresh.2 u → (s.ended u).rd f = w.rd f :=
    fun f hf u hu => by
      have hrun : notRun f.key := Fld.notRun ((by decide : ∀ k : Fin 4,
        ∀ f ∈ F.HCP_LAST_COMMIT_STAT_COMMITS k :: commitFlds k, f.addr % 0x10000 ≠ 0xFF00 ∧ f.lo < 32) h.session f hf)
      exact (State.ended_rd _ _ hrun).trans (hu.rd f hrun)
  obtain ⟨hid, htid, hst, hk⟩ := v.commitRefused_rd h.session (tid := h.tid.toNat) (x := segOpened g) h.tid.isLt
    g.ctId.isLt g.kind.isLt
  have hcommits : (F.HCP_LAST_COMMIT_STAT_COMMITS h.session.val).key ∉
      (F.HCP_SESSION_STAT_LAST_TID h.session.val :: F.HCP_CNT_COUNT 0 :: commitFlds h.session.val).map Fld.key :=
    (by decide : ∀ k : Fin 4, (F.HCP_LAST_COMMIT_STAT_COMMITS k).key ∉
      (F.HCP_SESSION_STAT_LAST_TID k :: F.HCP_CNT_COUNT 0 :: commitFlds k).map Fld.key) h.session
  have hcommitsKept : w.rd (F.HCP_LAST_COMMIT_STAT_COMMITS h.session.val) =
      s.rd (F.HCP_LAST_COMMIT_STAT_COMMITS h.session.val) := by
    refine (hstep.rd _ fun f hf heq => hcommits ?_).trans ((HcpStep.ofServed s h).rd _ fun f hf heq => hcommits ?_)
    · exact heq ▸ List.mem_map_of_mem (List.mem_cons_of_mem _ (List.mem_cons_of_mem _ hf))
    · refine heq ▸ List.mem_map_of_mem (List.mem_append_left (as := [_, _]) _ hf)
  refine ⟨_, w.fresh.1, finish_ended s (s.ctSegment h g), ?_⟩
  rw [State.ctSegment_eq s h hlen]
  refine ⟨hans.ended_out hout, ?_, ?_, ?_, ?_, ?_, ?_, hans.kept_blocks (fun g' hg => ?_) hstep.mem⟩
  · rw [hans.ended_xfers]
    exact (State.setXfer_hcp v h.session.val none).1
  · rw [hrd _ (by simp [commitFlds]) _ hans, hid]
    rfl
  · rw [hrd _ (by simp [commitFlds]) _ hans, htid]
  · rw [hrd _ (by simp [commitFlds]) _ hans, hst]
  · rw [hrd _ (by simp [commitFlds]) _ hans, hk]
    rfl
  · rw [hrd _ List.mem_cons_self _ hans, hcommitsKept]
  · exact hstep.rd g' (ne_of_blocks (fun f hf => commitFlds_hcp h.session f (List.mem_cons_of_mem _ hf)) hg)

/-! ## CT_ABORT -/

theorem ctAbort_ends {h : HcpHdr} {id : BitVec 16} {x : Transfer} {s : State} (hs : Served h 8 s)
    (hx : s.hcp.xfers.find h.session.val = some x) (hid : x.ctId = id.toNat) :
    ∃ t, exec (.ctAbort h id) s = .next t ∧ t.hcp.xfers.find h.session.val = none ∧
      t.rd (F.HCP_SESSION_STAT_STAGED_PCT h.session.val) = 0 ∧
      t.out = .hcp h.session.val h.tid.toNat 8 stOK false [] :: s.out ∧ BlocksKept [bHCP] s t ∧ MemKept s t := by
  obtain ⟨u, hu, hfind, hstaged, hout, hkept⟩ := State.setXfer_answered (st := stOK) hs (by decide) none
    (act := fun s => match s.hcp.xfers.find h.session.val with
      | some x => if x.ctId = id.toNat then (stOK, [], s.setXfer h.session.val none) else (stBAD, [], s)
      | none => (stBAD, [], s)) (by
    simp only [served_xfers, hx, if_pos hid])
  refine ⟨_, finish_ended s (s.ctAbort h id.toNat), ?_⟩
  rw [show s.ctAbort h id.toNat = u from hu]
  exact ⟨hfind, hstaged rfl, hout, hkept⟩

/-- A request that leaves everything as it is but for what serving it writes. -/
theorem State.unchanged_answered {h : HcpHdr} {typ st : Nat} {pl : List Byte} {s : State} (hs : Served h typ s)
    (htyp : typ ≠ tHELLO) {act : State → Nat × List Byte × State} (hact : act (served h s) = (st, pl, served h s)) :
    ∃ u, s.hcpServe h typ true act = u ∧ Answered h typ st pl (served h s) u ∧
      (s.ended u).out = .hcp h.session.val h.tid.toNat typ st false pl :: s.out ∧
      BlocksKept [bHCP] s (s.ended u) ∧ MemKept s (s.ended u) := by
  have hans := State.hcpServe_answered hs htyp hact (State.hcpOpen_served hs rfl rfl) (served_due hs)
  exact ⟨_, rfl, hans, hans.ended_out rfl, hans.kept_blocks (fun _ _ => rfl) rfl⟩

theorem ctAbort_other {h : HcpHdr} {id : BitVec 16} {x : Transfer} {s : State} (hs : Served h 8 s)
    (hx : s.hcp.xfers.find h.session.val = some x) (hid : x.ctId ≠ id.toNat) :
    ∃ t, exec (.ctAbort h id) s = .next t ∧ t.hcp.xfers.find h.session.val = some x ∧
      t.out = .hcp h.session.val h.tid.toNat 8 stBAD false [] :: s.out ∧ BlocksKept [bHCP] s t ∧ MemKept s t := by
  obtain ⟨u, hu, hans, hout, hkept⟩ := State.unchanged_answered (st := stBAD) (pl := []) hs (by decide)
    (act := fun s => match s.hcp.xfers.find h.session.val with
      | some x => if x.ctId = id.toNat then (stOK, [], s.setXfer h.session.val none) else (stBAD, [], s)
      | none => (stBAD, [], s)) (by
    simp only [served_xfers, hx, if_neg hid])
  refine ⟨_, finish_ended s (s.ctAbort h id.toNat), ?_⟩
  rw [show s.ctAbort h id.toNat = u from hu]
  refine ⟨?_, hout, hkept⟩
  rw [hans.ended_xfers, served_xfers, hx]

/-! ## The digest and the write-back -/

theorem digest_served (h : HcpHdr) (s : State) : (served h s).digest = s.digest := by
  have hbody : (served h s).bodyNow = s.bodyNow := (HcpStep.ofServed s h).kept State.bodyNow fun _ => rfl
  rw [State.digest, hbody, served_block h s (by decide)]
  rfl

theorem wbJudge_served (h : HcpHdr) (s : State) (p : PrimerHdr) : (served h s).wbJudge p = s.wbJudge p := by
  have hrd : ∀ g : Fld, (∀ b ∈ [bHCP], inBlock b g.key = false) → (served h s).rd g = s.rd g := fun _ => served_block h s
  have hslot := (HcpStep.ofServed s h).slot
  have hhdr : (served h s).hdr = s.hdr := (HcpStep.ofServed s h).kept State.hdr fun _ => rfl
  have hkey : (served h s).cfgKey = s.cfgKey := by
    funext id
    have hfind : ∀ a ∈ List.range 8, ((served h s).rd (F.KEY_ANCHOR_STAT_USE a) == 1 &&
        (served h s).rd (F.KEY_ANCHOR_STAT_ID a) == id) =
        (s.rd (F.KEY_ANCHOR_STAT_USE a) == 1 && s.rd (F.KEY_ANCHOR_STAT_ID a) == id) := fun a ha => by
      have hin := (by decide : ∀ a ∈ List.range 8, ∀ b ∈ [bHCP], inBlock b (F.KEY_ANCHOR_STAT_USE a).key = false ∧
        inBlock b (F.KEY_ANCHOR_STAT_ID a).key = false) a ha
      rw [hrd _ fun b hb => (hin b hb).1, hrd _ fun b hb => (hin b hb).2]
    rw [State.cfgKey, List.find?_congr hfind, (HcpStep.ofServed s h).kept State.key fun _ => rfl]
    rfl
  have hbank : (served h s).bankHead = s.bankHead := by
    funext p
    simp only [State.bankHead, hkey]
  have htarget : (served h s).wbTarget = s.wbTarget := by
    rw [State.wbTarget, hslot, hrd _ (by decide), hrd _ (by decide), State.wbTarget]
  have hlever : (served h s).leverShut = s.leverShut := by
    rw [State.leverShut, State.isSet, hrd _ (by decide), State.leverShut, State.isSet]
  simp only [State.wbJudge, digest_served, hbank, htarget, hlever, hhdr, hslot]

theorem primerDigest_answers (h : HcpHdr) (s : State) (hs : Served h 11 s) :
    ∃ t, exec (.primerDigest h) s = .next t ∧
      t.out = .hcp h.session.val h.tid.toNat 11 stOK false
        (octetsBE 4 s.digest.1 ++ octetsBE 4 s.digest.2.1 ++ octetsBE 48 s.digest.2.2) :: s.out ∧
      BlocksKept [bHCP] s t ∧ MemKept s t := by
  obtain ⟨u, hu, -, hout, hkept⟩ := State.unchanged_answered hs (by decide) (act := fun s => (stOK,
    octetsBE 4 s.digest.1 ++ octetsBE 4 s.digest.2.1 ++ octetsBE 48 s.digest.2.2, s)) rfl
  refine ⟨_, finish_ended s (s.hcpDigest h), ?_⟩
  rw [show s.hcpDigest h = u from hu]
  rw [digest_served] at hout
  exact ⟨hout, hkept⟩

theorem State.setBank_slot (s : State) (k : Nat) (b : PrimerBank) : ∃ x, s.setBank k b = s.setSlot x := by
  unfold State.setBank
  split
  · exact ⟨_, rfl⟩
  · exact ⟨s.slot, rfl⟩

/-- What a write-back changes from its start. -/
theorem State.beginWriteBack_shown (s : State) (bank : Nat) (p : PrimerHdr) (b : CfgBody) :
    let t := s.beginWriteBack bank p b
    t.slot.writeBack.isSome = true ∧ t.rd F.SLOT_PRIMER_WB_STATE = 1 ∧ t.rd F.SLOT_PRIMER_WB_PAGES = 0 ∧ t.mem = s.mem ∧
      t.shadow = s.shadow ∧ t.hcp = s.hcp ∧ t.out = s.out ∧ t.rd (F.STATE_RUN bHCP) = s.rd (F.STATE_RUN bHCP) := by
  intro t
  obtain ⟨x, hx⟩ := s.setBank_slot bank ⟨none, b⟩
  have ht : t = ((((s.setSlot x).setSlot { x with writeBack := some ⟨p, b, 0, (p.bodyLen.toNat + 255) / 256⟩ }).wr
      F.SLOT_PRIMER_WB_STATE 1).wr F.SLOT_PRIMER_WB_BANK bank).wr F.SLOT_PRIMER_WB_PAGES 0 := by
    simp only [t, State.beginWriteBack, hx]
    rfl
  rw [ht]
  exact ⟨rfl, by simp (disch := decide) only [State.rd_wr_same, State.rd_wr_other]; rfl, State.rd_wr_same _ _ _, rfl, rfl,
    rfl, rfl, by simp (disch := decide) only [State.rd_wr_other]; rfl⟩

theorem primerWb_judged (h : HcpHdr) (p : PrimerHdr) (s : State) (hs : Served h 12 s) :
    ∃ t, exec (.primerWb h p) s = .next t ∧
      t.out = .hcp h.session.val h.tid.toNat 12 (s.wbJudge p).1 false [] :: s.out ∧ MemKept s t ∧
      ((s.wbJudge p).2.isSome → t.slot.writeBack.isSome ∧ t.rd F.SLOT_PRIMER_WB_STATE = 1 ∧
        t.rd F.SLOT_PRIMER_WB_PAGES = 0) ∧
      ((s.wbJudge p).2 = none → t.slot = s.slot ∧ BlocksKept [bHCP] s t) := by
  refine ⟨_, finish_ended s (s.hcpPrimerWb h p), ?_⟩
  rcases hj : s.wbJudge p with ⟨st, _ | b⟩
  · obtain ⟨u, hu, hans, hout, hkept⟩ := State.unchanged_answered (st := st) (pl := []) hs (by decide)
      (act := fun s => match s.wbJudge p with
        | (st, some b) => (st, [], s.beginWriteBack b p s.bodyNow)
        | (st, none) => (st, [], s)) (by simp only [wbJudge_served, hj])
    rw [show s.hcpPrimerWb h p = u from hu]
    refine ⟨hout, hkept.2, fun hsome => absurd hsome (by simp), fun _ => ⟨?_, hkept.1⟩⟩
    rw [State.ended_slot, hans.kept State.slot fun _ => rfl, (HcpStep.ofServed s h).slot]
  · obtain ⟨hwb, hstate, hpages, hmem, hsh, hhcp, ho, hrun⟩ :=
      (served h s).beginWriteBack_shown b p (served h s).bodyNow
    have hans := State.hcpServe_answered (act := fun s => match s.wbJudge p with
        | (st, some b) => (st, [], s.beginWriteBack b p s.bodyNow)
        | (st, none) => (st, [], s)) (st := st) (pl := []) hs (by decide) (by simp only [wbJudge_served, hj])
      (State.hcpOpen_served hs hrun (congrArg HcpState.assoc hhcp)) (by rw [hsh]; exact served_due hs)
    refine ⟨hans.ended_out ho, ?_, fun _ => ⟨?_, ?_, ?_⟩, fun hnone => absurd hnone (by simp)⟩
    · exact State.ended_memKept ((hans.kept State.mem fun _ => rfl).trans (hmem.trans (HcpStep.ofServed s h).mem))
    · rw [State.ended_slot]
      exact (congrArg (fun x : SlotState => x.writeBack.isSome) (hans.kept State.slot fun _ => rfl)).trans hwb
    · exact (State.ended_rd _ _ (Fld.notRun (by decide))).trans ((hans.rd _ (Fld.notRun (by decide))).trans hstate)
    · exact (State.ended_rd _ _ (Fld.notRun (by decide))).trans ((hans.rd _ (Fld.notRun (by decide))).trans hpages)

/-- Settles O49: each transfer by what its segment or its abort does to the session's staging, the digest and the write-back
by the registers outside HCP, which serving a request leaves. -/
theorem hcpTransfers : Obligations.HcpTransfers := by
  refine ⟨fun h g s hs hlen hkind hkind' htotal htotal' hofs hnone => ⟨fun hmore => ?_, fun hlast hshort => ?_,
    fun hlast _ hfull hcrc => ?_⟩, fun h id x s hs hx => ⟨fun hid => ?_, fun hid => ?_⟩, primerDigest_answers,
    primerWb_judged⟩
  · exact ctSegment_stages hs hlen hkind hkind' htotal htotal' hofs hnone hmore
  · exact ctSegment_short hs hlen hkind hkind' htotal htotal' hofs hnone hlast hshort
  · exact ctSegment_badCrc hs hlen hkind hkind' htotal htotal' hofs hnone hlast hfull hcrc
  · exact ctAbort_ends hs hx hid
  · exact ctAbort_other hs hx hid

end Sys2Proof.Machine
end

section
/-!
PROOFS. HCP sessions, and access to registers and blocks of memory (R369, R370, R372).
-/
namespace Sys2Proof.Machine

/-! ## HELLO -/

/-- What HELLO does to the session of its association. -/
def State.helloed (s : State) (k : Nat) (clr : Bool) : State :=
  let s := if clr then s.setHcp { s.hcp with wins := s.hcp.wins.erase k } else s
  (s.setHcp { s.hcp with assoc := s.hcp.assoc.set k true }).wr (F.HCP_SESSION_STAT_BOUND k) 1

/-- Who the module is, as HELLO answers it. -/
def State.whoIs (s : State) (k : Nat) : List Byte :=
  octetsBE 2 (s.rd F.SYS_ID_PART) ++ octetsBE 2 (s.rd F.SYS_ID_STEP) ++ octetsBE 2 s.moduleId ++
    octetsBE 2 (s.rd (F.HCP_SESSION_STAT_LAST_TID k))

theorem HcpStep.helloed (s : State) (k : Nat) (clr : Bool) : HcpStep [F.HCP_SESSION_STAT_BOUND k] s (s.helloed k clr) := by
  unfold State.helloed
  split
  · exact ((setHcp s _).mono (by simp)).trans (((setHcp _ _).mono (by simp)).trans (wr _ _ _))
  · exact ((setHcp s _).mono (by simp)).trans (wr _ _ _)

theorem State.helloed_hcp (s : State) (k : Nat) (clr : Bool) :
    (s.helloed k clr).hcp.assoc.find k = some true ∧ (s.helloed k clr).out = s.out ∧
      (clr = true → (s.helloed k clr).hcp.wins = s.hcp.wins.erase k) ∧ (clr = false → (s.helloed k clr).hcp.wins = s.hcp.wins) := by
  cases clr with
  | true => exact ⟨AMap.find_set_same _ _ _, rfl, fun _ => rfl, fun h => absurd h (by decide)⟩
  | false => exact ⟨AMap.find_set_same _ _ _, rfl, fun h => absurd h (by decide), fun _ => rfl⟩

theorem State.helloed_rd (s : State) (k : Fin 4) (clr : Bool) {g : Fld}
    (hg : ∀ k : Fin 4, g.key ≠ (F.HCP_SESSION_STAT_BOUND k).key) : (s.helloed k clr).rd g = s.rd g :=
  (HcpStep.helloed s k clr).rd g (by simpa using hg k)

/-- HELLO executes whatever its TID. -/
theorem State.hcpServe_hello {s : State} {h : HcpHdr} (hopen : s.hcpOpen h = true) (hring : h.ring = false)
    (act : State → Nat × List Byte × State) : s.hcpServe h tHELLO true act = (s.hcpRun h tHELLO act).hcpEnd := by
  unfold State.hcpServe
  rw [if_neg (not_not.mpr hopen)]
  simp [hring]

theorem State.hcpRun_hello {s t : State} {h : HcpHdr} {st : Nat} {pl : List Byte} (hring : h.ring = false)
    {act : State → Nat × List Byte × State} (hact : act (s.hcpCnt 0) = (st, pl, t)) (hopen : t.hcpOpen h = true) :
    s.hcpRun h tHELLO act = t.emit (.hcp h.session.val h.tid.toNat tHELLO st false pl) := by
  unfold State.hcpRun
  simp only [hact, hopen, if_true]
  exact State.hcpAnswer_port hring _ _ _ _

theorem State.hcpHello_eq {s : State} {h : HcpHdr} {b : Bool} (clr : Bool) (hrun : s.run bHCP = true)
    (hring : h.ring = false) (hassoc : s.hcp.assoc.find h.session.val = some b) :
    s.hcpHello h clr = (((s.hcpCnt 0).helloed h.session.val clr).emit
      (.hcp h.session.val h.tid.toNat 1 stOK false (((s.hcpCnt 0).helloed h.session.val clr).whoIs h.session.val))).hcpEnd := by
  have hopen : ((s.hcpCnt 0).helloed h.session.val clr).hcpOpen h = true := by
    refine State.hcpOpen_of_assoc ?_ (State.helloed_hcp _ _ _).1
    rw [State.run, State.isSet, State.helloed_rd _ h.session _ (by decide)]
    refine Eq.trans ?_ hrun
    rw [State.run, State.isSet, State.hcpCnt, State.inc_eq, State.rd_wr_other _ _ (by decide)]
  have hact : ∀ u : State, (if h.ring then u
      else (u.setHcp { u.hcp with assoc := u.hcp.assoc.set h.session.val true }).wr (F.HCP_SESSION_STAT_BOUND h.session.val) 1) =
      (u.setHcp { u.hcp with assoc := u.hcp.assoc.set h.session.val true }).wr (F.HCP_SESSION_STAT_BOUND h.session.val) 1 :=
    fun u => if_neg (by rw [hring]; decide)
  rw [State.hcpHello, State.hcpServe_hello (State.hcpOpen_of_assoc hrun hassoc) hring]
  refine congrArg State.hcpEnd (State.hcpRun_hello hring ?_ hopen)
  simp only [hact]
  rfl

theorem hcpHello_binds (h : HcpHdr) (clr b : Bool) (s : State) (hrun : s.run bHCP = true) (hring : h.ring = false)
    (hassoc : s.hcp.assoc.find h.session.val = some b) (hpend : s.pendingIn bHCP = false) :
    ∃ t, exec (.hcpHello h clr) s = .next t ∧ t.hcp.assoc.find h.session.val = some true ∧
      t.rd (F.HCP_SESSION_STAT_BOUND h.session.val) = 1 ∧ (clr = true → t.hcp.wins = s.hcp.wins.erase h.session.val) ∧
      (clr = false → t.hcp.wins = s.hcp.wins) ∧
      t.out = .hcp h.session.val h.tid.toNat 1 stOK false (octetsBE 2 (s.rd F.SYS_ID_PART) ++ octetsBE 2 (s.rd F.SYS_ID_STEP) ++
        octetsBE 2 s.moduleId ++ octetsBE 2 (s.rd (F.HCP_SESSION_STAT_LAST_TID h.session.val))) :: s.out ∧
      t.rd (F.HCP_CNT_COUNT 0) = (s.rd (F.HCP_CNT_COUNT 0) + 1) % 2 ^ 32 ∧
      RegsKept [F.HCP_SESSION_STAT_BOUND h.session.val, F.HCP_CNT_COUNT 0] s t ∧ MemKept s t := by
  set v := (s.hcpCnt 0).helloed h.session.val clr with hv
  have hstep : HcpStep [F.HCP_SESSION_STAT_BOUND h.session.val, F.HCP_CNT_COUNT 0] s v :=
    ((HcpStep.hcpCnt s 0).mono (by simp)).trans ((HcpStep.helloed _ _ _).mono (by simp))
  obtain ⟨hbound, hout, hclr, hkeep⟩ := (s.hcpCnt 0).helloed_hcp h.session.val clr
  set o := Output.hcp h.session.val h.tid.toNat 1 stOK false (v.whoIs h.session.val) with ho
  have hdue : (v.emit o).shadow.filter (fun e => inBlock bHCP e.1) = [] := by
    rw [show (v.emit o).shadow = v.shadow from rfl, hstep.shadow]
    exact State.due_of_pendingIn hpend
  have hend : ∀ g : Fld, notRun g.key → (s.ended (v.emit o).hcpEnd).rd g = v.rd g := fun g hg => by
    rw [State.ended_rd _ _ hg, State.hcpEnd_rd hdue hg, State.emit_rd]
  have hwho : v.whoIs h.session.val = s.whoIs h.session.val := by
    have hlast : v.rd (F.HCP_SESSION_STAT_LAST_TID h.session.val) = s.rd (F.HCP_SESSION_STAT_LAST_TID h.session.val) :=
      hstep.rd _ ((by decide : ∀ k : Fin 4, ∀ f ∈ [F.HCP_SESSION_STAT_BOUND k, F.HCP_CNT_COUNT 0],
        (F.HCP_SESSION_STAT_LAST_TID k).key ≠ f.key) h.session)
    have hblock : ∀ g : Fld, (∀ b ∈ [bHCP], inBlock b g.key = false) → v.rd g = s.rd g := fun g hg =>
      hstep.rd g (ne_of_blocks ((by decide : ∀ k : Fin 4, ∀ f ∈ [F.HCP_SESSION_STAT_BOUND k, F.HCP_CNT_COUNT 0],
        ∃ b ∈ [bHCP], inBlock b f.key = true) h.session) hg)
    rw [State.whoIs, hlast, hblock _ (by decide), hblock _ (by decide), hstep.kept State.moduleId fun _ => rfl]
    rfl
  have hboundRun : notRun (F.HCP_SESSION_STAT_BOUND h.session.val).key := Fld.notRun ((by decide : ∀ k : Fin 4,
    (F.HCP_SESSION_STAT_BOUND k).addr % 0x10000 ≠ 0xFF00 ∧ (F.HCP_SESSION_STAT_BOUND k).lo < 32) h.session)
  refine ⟨_, finish_ended s (s.hcpHello h clr), ?_⟩
  rw [State.hcpHello_eq clr hrun hring hassoc, ← hv, ← ho, State.ended_hcp, State.hcpEnd_hcp hdue, State.ended_out,
    State.hcpEnd_out hdue, hend _ hboundRun, hend (F.HCP_CNT_COUNT 0) (Fld.notRun (by decide))]
  refine ⟨hbound, ?_, hclr, hkeep, ?_, ?_, fun g hg hne => (hend g hg).trans (hstep.rd g hne), State.ended_memKept ?_⟩
  · exact State.rd_wr_same _ _ _
  · rw [ho, hwho]
    exact congrArg _ hout
  · rw [hv, State.helloed_rd _ h.session _ (by decide), State.hcpCnt, State.inc_eq, State.rd_wr_same]
    rfl
  · rw [State.hcpEnd_mem hdue]
    exact hstep.mem

/-! ## Register reads -/

/-- Nothing but the latches of words read differs. -/
def State.SameButLatches (s t : State) : Prop := ∃ l, t = { s with latches := l }

theorem State.SameButLatches.refl (s : State) : s.SameButLatches s := ⟨s.latches, rfl⟩

theorem State.SameButLatches.ite {s : State} {c : Prop} [Decidable c] {x y : Nat × State} (hx : s.SameButLatches x.2)
    (hy : s.SameButLatches y.2) : s.SameButLatches (if c then x else y).2 := by
  split
  · exact hx
  · exact hy

theorem State.latch_same (s : State) (req : Nat) (l : List (Nat × Nat)) : s.SameButLatches (s.latch req l) := ⟨_, rfl⟩

theorem State.symVstat_same (s : State) (req i : Nat) : s.SameButLatches (s.symVstat req i).2 := by
  unfold State.symVstat
  split
  · exact ⟨_, rfl⟩
  · exact .refl s

theorem State.gaugeQRead_same (s : State) (req q w : Nat) : s.SameButLatches (s.gaugeQRead req q w).2 := by
  unfold State.gaugeQRead
  split
  · exact ⟨_, rfl⟩
  · exact .refl s

theorem State.readWord_same (s : State) (req a b off : Nat) (r : RegDef) (ix : List Nat) :
    s.SameButLatches (s.readWord req a b off r ix).2 := by
  have refl := State.SameButLatches.refl s
  have latch := s.latch_same req
  unfold State.readWord
  extract_lets i j w at1 d id
  refine .ite refl <| .ite refl <| .ite refl <| .ite (.ite (latch _) refl) <| .ite refl <| .ite refl <|
    .ite (s.symVstat_same _ _) <| .ite refl <| .ite (s.gaugeQRead_same _ _ _) <| .ite (.ite (latch _) refl) <|
    .ite (.ite (latch _) refl) <| .ite (latch _) <| .ite refl <| .ite ?_ <| .ite refl <| .ite refl <| .ite refl <|
    .ite refl <| .ite refl <| .ite (latch _) <| .ite refl refl
  split
  · exact refl
  · exact latch _

theorem State.regRead_same (s : State) (req a : Nat) : s.SameButLatches (s.regRead req a).2.2 := by
  unfold State.regRead
  split
  · exact .refl s
  · split
    · exact .refl s
    · split
      · exact s.readWord_same _ _ _ _ _ _
      · exact .refl s
      · exact .refl s

/-- The registers a request writes while it is served are kept outside HCP's own two. -/
theorem Answered.ended_served {h : HcpHdr} {typ st : Nat} {pl : List Byte} {s t u : State} (k : Answered h typ st pl t u)
    (hrd : ∀ g, t.rd g = (served h s).rd g) (hmem : t.mem = (served h s).mem) :
    (s.ended u).rd (F.HCP_CNT_COUNT 0) = (s.rd (F.HCP_CNT_COUNT 0) + 1) % 2 ^ 32 ∧
      RegsKept [F.HCP_SESSION_STAT_LAST_TID h.session.val, F.HCP_CNT_COUNT 0] s (s.ended u) ∧ MemKept s (s.ended u) := by
  refine ⟨?_, fun g hg hne => ?_, State.ended_memKept ?_⟩
  · rw [State.ended_rd _ _ (Fld.notRun (by decide)), k.rd _ (Fld.notRun (by decide)), hrd, served, State.hcpCnt, State.inc_eq,
      State.rd_wr_same, (HcpStep.tidAccept s _ _).rd _ (by
        simpa using (by decide : ∀ k : Fin 4, (F.HCP_CNT_COUNT 0).key ≠ (F.HCP_SESSION_STAT_LAST_TID k).key) h.session)]
    rfl
  · rw [State.ended_rd _ _ hg, k.rd g hg, hrd, (HcpStep.ofServed s h).rd g hne]
  · exact (k.kept State.mem fun _ => rfl).trans (hmem.trans (HcpStep.ofServed s h).mem)

theorem hcpRegRead_answers (h : HcpHdr) (a : BitVec 32) (s : State) (hs : Served h 3 s) :
    ∃ t, exec (.hcpRegRead h [a]) s = .next t ∧
      t.out = .hcp h.session.val h.tid.toNat 3 (worst [((served h s).regRead (32 + h.session.val) a.toNat).1]) false
        (octetsBE 4 ((served h s).regRead (32 + h.session.val) a.toNat).2.1 ++
          octetsBE 1 ((served h s).regRead (32 + h.session.val) a.toNat).1 ++ octetsBE 3 0) :: s.out ∧
      t.rd (F.HCP_CNT_COUNT 0) = (s.rd (F.HCP_CNT_COUNT 0) + 1) % 2 ^ 32 ∧
      RegsKept [F.HCP_SESSION_STAT_LAST_TID h.session.val, F.HCP_CNT_COUNT 0] s t ∧ MemKept s t := by
  obtain ⟨l, hl⟩ := (served h s).regRead_same (32 + h.session.val) a.toNat
  generalize hr : (served h s).regRead (32 + h.session.val) a.toNat = r at hl
  obtain ⟨st, v, w⟩ := r
  replace hl : w = { served h s with latches := l } := hl
  have hans := State.hcpServe_answered (st := worst [st]) (pl := octetsBE 4 v ++ octetsBE 1 st ++ octetsBE 3 0) (t := w) hs
    (by decide) (act := fun s => match ([a.toNat].foldl (fun (r : List Nat × List Byte × State) (a : Nat) =>
      match r with
      | (sts, pl, s) =>
        match s.regRead (32 + h.session.val) a with
        | (st, v, s) => (sts ++ [st], pl ++ octetsBE 4 v ++ octetsBE 1 st ++ octetsBE 3 0, s)) ([], [], s)) with
    | (sts, pl, s) => (worst sts, pl, s)) (by simp [hr]) (State.hcpOpen_served hs (by rw [hl]; rfl) (by rw [hl]))
    (by rw [hl]; exact served_due hs)
  exact ⟨_, finish_ended s (s.hcpRegRead h [a.toNat]), hans.ended_out (by rw [hl]),
    hans.ended_served (fun g => by rw [hl]; rfl) (by rw [hl])⟩

/-! ## Register writes -/

theorem State.foldl_applyShadow_out (l : List (Nat × Nat)) (s : State) : (l.foldl State.applyShadow s).out = s.out := by
  induction l generalizing s with
  | nil => rfl
  | cons e l ih => exact ih _

theorem State.commit_out (s : State) (b : Nat) : (s.commit b).out = s.out := by
  unfold State.commit State.commitSel
  extract_lets due
  split
  · rfl
  · exact State.foldl_applyShadow_out _ _

/-- The end of an HCP command puts nothing out, whatever is due. -/
theorem State.hcpEnd_puts_nothing (s : State) : s.hcpEnd.out = s.out := by
  unfold State.hcpEnd
  split
  · exact s.commit_out bHCP
  · rfl

theorem hcpRegWrite_answers (h : HcpHdr) (a v : BitVec 32) (st : Nat) (w s : State) (hs : Served h 4 s)
    (hw : (served h s).regWrite (32 + h.session.val) a.toNat v.toNat WriteMore.none = (st, w)) (hopen : w.hcpOpen h = true) :
    ∃ t, exec (.hcpRegWrite h [(a, v)]) s = .next t ∧
      t.out = .hcp h.session.val h.tid.toNat 4 (worst [st]) false (octetsBE 1 st) :: w.out := by
  have hroot : (served h s).rootPresent = true := by
    rw [State.rootPresent, State.isSet, served_block h s (by decide)]
    exact hs.2.2.2.1
  have hrun := State.hcpServe_run hs (by decide) (act := fun s => match [(a.toNat, v.toNat)].foldl
      (fun (r : List Nat × State) (i : Nat × Nat) =>
        match r with
        | (sts, s) =>
          if ¬ s.rootPresent ∧ ¬ keyAddr i.1 then (sts ++ [stBAD], s)
          else match s.regWrite (32 + h.session.val) i.1 i.2 WriteMore.none with
            | (st, s) => (sts ++ [st], s)) ([], s) with
    | (sts, s) => (worst sts, sts.flatMap (octetsBE 1), s))
  rw [State.hcpRun_answered (t := w) (st := worst [st]) (pl := octetsBE 1 st) hs.2.1 (by decide) (by
    rw [show (s.tidAccept h.session.val h.tid.toNat).hcpCnt 0 = served h s from rfl]
    simp [hroot, hw]) hopen] at hrun
  refine ⟨_, finish_ended s (s.hcpRegWrite h [(a.toNat, v.toNat)]), ?_⟩
  rw [State.ended_out, show s.hcpRegWrite h [(a.toNat, v.toNat)] = _ from hrun, State.hcpEnd_puts_nothing, State.emit_out, State.tidRecord_out]

/-! ## Blocks of memory -/

theorem served_sameOn (h : HcpHdr) (s : State) : SameOn (served h s) s := fun d hd => by
  rw [State.isOn, State.dom, served_block h s ((by decide : ∀ d : Fin 50, ∀ b ∈ [bHCP],
    inBlock b (F.PWR_DOM_STATE_STATE d).key = false) ⟨d, hd⟩), State.isOn, State.dom]

theorem served_reached (h : HcpHdr) (s : State) (a n : Nat) : (served h s).reached a n = s.reached a n := by
  rw [State.reached, (served_sameOn h s).addrUp, (served_sameOn h s).addrUp, State.reached]

/-- What a block read does. -/
def State.readAct (a n : Nat) (s : State) : Nat × List Byte × State :=
  if blockReadable (a % 2 ^ 40) n ∧ s.reached (a % 2 ^ 40) n then (stOK, s.busOctets (a % 2 ^ 40) n, s) else (stBAD, [], s)

theorem hcpBlockRead_answers (h : HcpHdr) (a : BitVec 64) (n : BitVec 16) (s : State) (hs : Served h 5 s)
    (hn : 1 ≤ n.toNat) (hn' : n.toNat ≤ 1024) :
    ∃ t, exec (.hcpBlockRead h a n) s = .next t ∧
      t.out = (if blockReadable (a.toNat % 2 ^ 40) n.toNat ∧ s.reached (a.toNat % 2 ^ 40) n.toNat then
          .hcp h.session.val h.tid.toNat 5 stOK false (s.busOctets (a.toNat % 2 ^ 40) n.toNat)
        else .hcp h.session.val h.tid.toNat 5 stBAD false []) :: s.out ∧
      RegsKept [F.HCP_SESSION_STAT_LAST_TID h.session.val, F.HCP_CNT_COUNT 0] s t ∧ MemKept s t := by
  have heq : s.hcpBlockRead h a.toNat n.toNat = s.hcpServe h 5 true (State.readAct a.toNat n.toNat) := by
    rw [State.hcpBlockRead, decide_eq_true (And.intro hn hn')]
    rfl
  have hbus : (served h s).busOctets (a.toNat % 2 ^ 40) n.toNat = s.busOctets (a.toNat % 2 ^ 40) n.toNat :=
    (HcpStep.ofServed s h).kept (fun s => s.busOctets (a.toNat % 2 ^ 40) n.toNat) fun _ => rfl
  refine ⟨_, finish_ended s (s.hcpBlockRead h a.toNat n.toNat), ?_⟩
  rw [heq]
  by_cases hok : blockReadable (a.toNat % 2 ^ 40) n.toNat ∧ s.reached (a.toNat % 2 ^ 40) n.toNat
  · have hans := State.hcpServe_answered hs (by decide) (act := State.readAct a.toNat n.toNat)
      (by rw [State.readAct, served_reached, if_pos hok, hbus]) (State.hcpOpen_served hs rfl rfl) (served_due hs)
    rw [if_pos hok]
    exact ⟨hans.ended_out rfl, (hans.ended_served (fun _ => rfl) rfl).2⟩
  · have hans := State.hcpServe_answered hs (by decide) (act := State.readAct a.toNat n.toNat)
      (by rw [State.readAct, served_reached, if_neg hok]) (State.hcpOpen_served hs rfl rfl) (served_due hs)
    rw [if_neg hok]
    exact ⟨hans.ended_out rfl, (hans.ended_served (fun _ => rfl) rfl).2⟩

/-- What a block write does. -/
def State.writeAct (a : Nat) (d : List Byte) (s : State) : Nat × List Byte × State :=
  if 0x400000 ≤ a % 2 ^ 40 ∧ a % 2 ^ 40 + d.length ≤ 0x600000 ∧ s.reached (a % 2 ^ 40) d.length ∧ ¬ s.run bSCAN then
    (stOK, [], (s.wrOctets (a % 2 ^ 40) d).progTouched (a % 2 ^ 40) d.length)
  else (stBAD, [], s)

theorem State.hcpBlockWrite_eq (s : State) (h : HcpHdr) (a : Nat) {d : List Byte} (hd : 1 ≤ d.length)
    (hd' : d.length ≤ 1024) : s.hcpBlockWrite h a d = s.hcpServe h 6 true (State.writeAct a d) := by
  rw [State.hcpBlockWrite, decide_eq_true (And.intro hd hd')]
  rfl

/-- A write to the program area clears PROG_OK, and no other register changes. -/
theorem State.progTouched_shown (s : State) (a n : Nat) :
    (∀ g : Fld, g.key ≠ F.SCAN_CMD_STAT_PROG_OK.key → (s.progTouched a n).rd g = s.rd g) ∧
      (s.progTouched a n).mem = s.mem ∧ (s.progTouched a n).shadow = s.shadow ∧ (s.progTouched a n).hcp = s.hcp ∧
      (s.progTouched a n).out = s.out ∧
      (a < 0x500000 → 0x400000 < a + n → (s.progTouched a n).rd F.SCAN_CMD_STAT_PROG_OK = 0) := by
  unfold State.progTouched
  split
  · exact ⟨fun g hg => s.rd_wr_other _ hg, rfl, rfl, rfl, rfl, fun _ _ => s.rd_wr_same _ _⟩
  next hno => exact ⟨fun _ _ => rfl, rfl, rfl, rfl, rfl, fun ha hn => absurd (Or.inl ⟨ha, hn⟩) hno⟩

section
variable {h : HcpHdr} {a : BitVec 64} {d : List Byte} {s : State} (hs : Served h 6 s) (hd : 1 ≤ d.length)
  (hd' : d.length ≤ 1024)
include hs hd hd'

theorem hcpBlockWrite_stores (hlo : 0x400000 ≤ a.toNat % 2 ^ 40) (hhi : a.toNat % 2 ^ 40 + d.length ≤ 0x600000)
    (hreach : s.reached (a.toNat % 2 ^ 40) d.length = true) (hscan : s.run bSCAN = false) :
    ∃ t, exec (.hcpBlockWrite h a d) s = .next t ∧ t.out = .hcp h.session.val h.tid.toNat 6 stOK false [] :: s.out ∧
      (∀ i, i < d.length → t.rd8 (a.toNat % 2 ^ 40 + i) = (d.getD i 0).toNat) ∧
      (∀ x, x < a.toNat % 2 ^ 40 ∨ a.toNat % 2 ^ 40 + d.length ≤ x → t.rd8 x = s.rd8 x) ∧
      (a.toNat % 2 ^ 40 < 0x500000 → t.rd F.SCAN_CMD_STAT_PROG_OK = 0) ∧
      RegsKept [F.HCP_SESSION_STAT_LAST_TID h.session.val, F.HCP_CNT_COUNT 0, F.SCAN_CMD_STAT_PROG_OK] s t := by
  set o := a.toNat % 2 ^ 40
  have hserved := HcpStep.ofServed s h
  have hidle : (served h s).run bSCAN = false := by
    rw [State.run, State.isSet, served_block h s (by decide)]
    exact hscan
  obtain ⟨hrd, hmem, hsh, hhcp, hout, hprog⟩ := ((served h s).wrOctets o d).progTouched_shown o d.length
  generalize hw : ((served h s).wrOctets o d).progTouched o d.length = w at hrd hmem hsh hhcp hout hprog
  have hans := State.hcpServe_answered hs (by decide) (act := State.writeAct a.toNat d) (st := stOK) (pl := []) (t := w) (by
    rw [State.writeAct, if_pos ⟨hlo, hhi, by rw [served_reached]; exact hreach, by rw [hidle]; decide⟩, hw])
    (State.hcpOpen_served hs (hrd _ (by decide)) (congrArg HcpState.assoc hhcp)) (by rw [hsh]; exact served_due hs)
  have hmem' : (State.ended s (s.hcpServe h 6 true (State.writeAct a.toNat d))).mem = s.mem.writeL o d := by
    rw [State.ended_mem, hans.kept State.mem fun _ => rfl, hmem]
    exact congrArg (fun m : Memory => m.writeL o d) hserved.mem
  refine ⟨_, finish_ended s (s.hcpBlockWrite h a.toNat d), ?_⟩
  rw [s.hcpBlockWrite_eq h a.toNat hd hd']
  refine ⟨hans.ended_out hout, fun i hi => ?_, fun x hx => ?_, fun ho => ?_, fun g hg hne => ?_⟩
  · rw [State.rd8, hmem', Memory.read_writeL_at d s.mem o i hi, List.getD_eq_getElem _ _ hi]
  · rw [State.rd8, hmem', Memory.read_writeL_other d s.mem o x hx, State.rd8]
  · rw [State.ended_rd _ _ (Fld.notRun (by decide)), hans.rd _ (Fld.notRun (by decide))]
    exact hprog ho (by omega)
  · rw [State.ended_rd _ _ hg, hans.rd g hg, hrd g (hne _ (by simp))]
    exact hserved.rd g fun f hf => hne f (by
      rcases List.mem_pair.mp hf with rfl | rfl
      · simp
      · simp)

theorem hcpBlockWrite_refused (hscan : s.run bSCAN = true) :
    ∃ t, exec (.hcpBlockWrite h a d) s = .next t ∧ t.out = .hcp h.session.val h.tid.toNat 6 stBAD false [] :: s.out ∧
      RegsKept [F.HCP_SESSION_STAT_LAST_TID h.session.val, F.HCP_CNT_COUNT 0] s t ∧ MemKept s t := by
  have hbusy : (served h s).run bSCAN = true := by
    rw [State.run, State.isSet, served_block h s (by decide)]
    exact hscan
  have hans := State.hcpServe_answered hs (by decide) (act := State.writeAct a.toNat d)
    (if_neg fun hc => hc.2.2.2 hbusy) (State.hcpOpen_served hs rfl rfl) (served_due hs)
  refine ⟨_, finish_ended s (s.hcpBlockWrite h a.toNat d), ?_⟩
  rw [s.hcpBlockWrite_eq h a.toNat hd hd']
  exact ⟨hans.ended_out rfl, (hans.ended_served (fun _ => rfl) rfl).2⟩

end

/-! ## A request seen before -/

theorem State.hcpServe_dup {h : HcpHdr} {typ st : Nat} {s : State} (hopen : s.hcpOpen h = true) (hring : h.ring = false)
    (hassoc : s.hcp.assoc.find h.session.val = some true) (hroot : s.rootPresent = true) (htyp : typ ≠ tHELLO)
    (hdup : s.tidJudge h.session.val typ h.tid.toNat = .dup st) (act : State → Nat × List Byte × State) :
    s.hcpServe h typ true act = ((s.hcpCnt 1).emit (.hcp h.session.val h.tid.toNat typ st true [])).hcpEnd := by
  have hget : s.hcp.assoc.get h.session.val false = true := by rw [AMap.get, hassoc]; rfl
  unfold State.hcpServe
  rw [if_neg (not_not.mpr hopen)]
  simp only [hring, hget, hroot, hdup, Bool.false_eq_true, if_false, not_true_eq_false, Bool.not_true, Bool.and_false,
    Bool.false_and, or_false, htyp]
  rw [State.hcpAnswer_port hring]

theorem hcpBlockWrite_repeated (h : HcpHdr) (a : BitVec 64) (d : List Byte) (st : Nat) (s : State) (hrun : s.run bHCP = true)
    (hring : h.ring = false) (hassoc : s.hcp.assoc.find h.session.val = some true) (hroot : s.rootPresent = true)
    (hpend : s.pendingIn bHCP = false) (hd : 1 ≤ d.length) (hd' : d.length ≤ 1024)
    (hdup : s.tidJudge h.session.val 6 h.tid.toNat = .dup st) :
    ∃ t, exec (.hcpBlockWrite h a d) s = .next t ∧ t.out = .hcp h.session.val h.tid.toNat 6 st true [] :: s.out ∧
      t.rd (F.HCP_CNT_COUNT 1) = (s.rd (F.HCP_CNT_COUNT 1) + 1) % 2 ^ 32 ∧
      RegsKept [F.HCP_CNT_COUNT 1] s t ∧ MemKept s t := by
  set w := (s.hcpCnt 1).emit (.hcp h.session.val h.tid.toNat 6 st true []) with hw
  have hdue : w.shadow.filter (fun e => inBlock bHCP e.1) = [] := State.due_of_pendingIn (s := s) hpend
  have hend : ∀ g : Fld, notRun g.key → (s.ended w.hcpEnd).rd g = (s.hcpCnt 1).rd g := fun g hg => by
    rw [State.ended_rd _ _ hg, State.hcpEnd_rd hdue hg, hw, State.emit_rd]
  refine ⟨_, finish_ended s (s.hcpBlockWrite h a.toNat d), ?_⟩
  rw [s.hcpBlockWrite_eq h a.toNat hd hd', State.hcpServe_dup (State.hcpOpen_of_assoc hrun hassoc) hring hassoc hroot (by decide)
    hdup, ← hw, State.ended_out, State.hcpEnd_out hdue]
  refine ⟨rfl, ?_, fun g hg hne => ?_, State.ended_memKept (State.hcpEnd_mem hdue)⟩
  · rw [hend _ (Fld.notRun (by decide)), State.hcpCnt, State.inc_eq, State.rd_wr_same]
    rfl
  · rw [hend g hg]
    exact (HcpStep.hcpCnt s 1).rd g hne

/-- Settles O48: HELLO, the register and block accesses and a repeated request, each by what its effect changes between the
acceptance of its TID and its answer. -/
theorem hcpAccess : Obligations.HcpAccess := by
  refine ⟨hcpHello_binds, hcpRegRead_answers, hcpRegWrite_answers, hcpBlockRead_answers,
    fun h a d s hs hd hd' hlo hhi => ⟨fun hreach hscan => ?_, fun hscan => ?_⟩, hcpBlockWrite_repeated⟩
  · exact hcpBlockWrite_stores hs hd hd' hlo hhi hreach hscan
  · exact hcpBlockWrite_refused hs hd hd' hscan

end Sys2Proof.Machine
end

section
/-!
PROOFS. Lamp frames, and what is measured in them (R316 to R332).
-/
namespace Sys2Proof.Machine

/-! ## The frame -/

/-- From `s` to `t` the registers of `l` and what the drive keeps may change. -/
structure LampStep (l : List Fld) (s t : State) : Prop where
  rd : ∀ g : Fld, (∀ f ∈ l, g.key ≠ f.key) → t.rd g = s.rd g
  mem : t.mem = s.mem

namespace LampStep

theorem refl (l : List Fld) (s : State) : LampStep l s s := ⟨fun _ _ => rfl, rfl⟩

theorem trans {l : List Fld} {s t u : State} (h : LampStep l s t) (k : LampStep l t u) : LampStep l s u :=
  ⟨fun g hg => (k.rd g hg).trans (h.rd g hg), k.mem.trans h.mem⟩

theorem mono {l m : List Fld} {s t : State} (h : LampStep l s t) (hlm : ∀ f ∈ l, f ∈ m) : LampStep m s t :=
  ⟨fun g hg => h.rd g fun f hf => hg f (hlm f hf), h.mem⟩

theorem wrOf {l : List Fld} (s : State) {f : Fld} (hf : f ∈ l) (v : Nat) : LampStep l s (s.wr f v) :=
  ⟨fun _ hg => s.rd_wr_other v (hg f hf), rfl⟩

theorem setLamp {l : List Fld} (s : State) (x : LampState) : LampStep l s (s.setLamp x) := ⟨fun _ _ => rfl, rfl⟩

theorem setLampRec {l : List Fld} (s : State) (id : Nat) (r : LampRec) : LampStep l s (s.setLampRec id r) := setLamp s _

theorem kept {l : List Fld} {s u : State} (h : LampStep l s u) : RegsKept l s (s.ended u) ∧ MemKept s (s.ended u) :=
  ⟨State.ended_regsKept h.rd, State.ended_memKept h.mem⟩

theorem keptBlock {l : List Fld} {s u : State} (h : LampStep l s u) (hl : ∀ f ∈ l, inBlock bLAMP f.key = true) :
    BlocksKept [bLAMP] s (s.ended u) ∧ MemKept s (s.ended u) :=
  ⟨State.ended_blocksKept fun g hg => h.rd g fun f hf =>
    key_ne_of_inBlock (hg bLAMP (List.mem_singleton_self _)) (hl f hf), State.ended_memKept h.mem⟩

theorem foldl {α : Type} {L : α → List Fld} {f : State → α → State} (hf : ∀ s a, LampStep (L a) s (f s a)) (l : List α)
    (s : State) : LampStep (l.flatMap L) s (l.foldl f s) := by
  induction l generalizing s with
  | nil => exact refl _ s
  | cons a l ih => exact ((hf s a).mono (by simp +contextual)).trans ((ih (f s a)).mono (by
      intro g hg
      rw [List.flatMap_cons]
      exact List.mem_append_right _ hg))

end LampStep

/-! ## The records of lamps -/

theorem State.setLampRec_rec (s : State) (id j : Nat) (r : LampRec) :
    (s.setLampRec id r).lampRec j = if j = id then r else s.lampRec j := by
  unfold State.lampRec State.setLampRec
  split
  next h => exact h ▸ AMap.get_set_same _ _ _ _
  next h => exact AMap.get_set_other _ _ _ h

@[simp] theorem State.setLampRec_rec_same (s : State) (id : Nat) (r : LampRec) : (s.setLampRec id r).lampRec id = r := by
  rw [State.setLampRec_rec, if_pos rfl]

/-- The registers of a declared fault. -/
def declaredFlds (u i : Nat) : List Fld := [F.LAMP_CNT_COUNT u i, F.LAMP_MTX_STAT_FAULTED]

theorem LampStep.lampDeclared (s : State) (id i : Nat) (r : LampRec) :
    LampStep (declaredFlds (lampUnit id) i) s (s.lampDeclared id i r) :=
  (setLampRec s _ _).trans ((wrOf _ (by simp [declaredFlds]) _).trans (wrOf _ (by simp [declaredFlds]) _))

section
variable (s : State) (id i : Nat) (r : LampRec)

theorem State.lampDeclared_rec :
    (s.lampDeclared id i r).lampRec id = { r with declared := satInc (2 ^ 32 - 1) r.declared } := AMap.get_set_same _ _ _ _

theorem State.lampDeclared_cnt (u : Nat) (hu : lampUnit id = u) :
    (s.lampDeclared id i r).rd (F.LAMP_CNT_COUNT u i) = (s.rd (F.LAMP_CNT_COUNT u i) + 1) % 2 ^ 32 := by
  subst hu
  have hne : (F.LAMP_CNT_COUNT (lampUnit id) i).key ≠ F.LAMP_MTX_STAT_FAULTED.key := by
    simp only [Fld.key, F.LAMP_CNT_COUNT, F.LAMP_MTX_STAT_FAULTED]
    omega
  rw [State.lampDeclared, State.showFaulted, State.rd_wr_other _ _ hne, State.lampCnt, State.inc_eq, State.rd_wr_same]
  rfl

theorem LampStep.routeLamp : LampStep [F.LAMP_STR_STAT_ROUTED (id / 16)] s (s.routeLamp id) :=
  (wrOf s (by simp) _).trans (setLamp _ _)

theorem State.routeLamp_rec (j : Nat) : (s.routeLamp id).lampRec j = s.lampRec j := rfl

theorem State.routeLamp_lit : (s.routeLamp id).lamp.lit.find id = none := AMap.find_erase_same _ _

theorem State.routeLamp_routed : bitAt ((s.routeLamp id).rd (F.LAMP_STR_STAT_ROUTED (id / 16))) (id % 16) = true :=
  (congrArg (fun v => bitAt v (id % 16)) (State.rd_wr_same _ _ _)).trans (bitAt_setBit_mod _ true (Nat.mod_lt _ (by decide)))

end

/-! ## A lamp found open -/

theorem lampUnit_of_string {k i : Nat} (hk : k < 6) (hi : i < 16) : lampUnit (16 * k + i) = k := by
  rw [lampUnit, if_pos (by omega)]
  omega

/-- The registers of a lamp found open. -/
def openFlds (k : Nat) : List Fld := [F.LAMP_STR_STAT_ROUTED k, F.LAMP_CNT_COUNT k 1, F.LAMP_MTX_STAT_FAULTED]

section
variable (s : State) {k i : Nat} (hk : k < 6) (hi : i < 16)
include hk hi

theorem LampStep.lampOpen : LampStep (openFlds k) s (s.lampOpen k i) := by
  have hunit := lampUnit_of_string hk hi
  have hstr : (16 * k + i) / 16 = k := by omega
  refine ((lampDeclared s (16 * k + i) 1 _).mono ?_).trans ((routeLamp _ (16 * k + i)).mono ?_)
  · rw [hunit]
    simp [declaredFlds, openFlds]
  · rw [hstr]
    simp [openFlds]

theorem State.lampOpen_shown : ((s.lampOpen k i).lampRec (16 * k + i)).opn = true ∧
    ((s.lampOpen k i).lampRec (16 * k + i)).routed = true ∧ (s.lampOpen k i).lamp.lit.find (16 * k + i) = none ∧
    bitAt ((s.lampOpen k i).rd (F.LAMP_STR_STAT_ROUTED k)) i = true ∧
    (s.lampOpen k i).rd (F.LAMP_CNT_COUNT k 1) = (s.rd (F.LAMP_CNT_COUNT k 1) + 1) % 2 ^ 32 := by
  have hstr : (16 * k + i) / 16 = k := by omega
  have hbit : (16 * k + i) % 16 = i := by omega
  have hrec := s.lampDeclared_rec (16 * k + i) 1 { s.lampRec (16 * k + i) with opn := true, routed := true }
  have hcnt := s.lampDeclared_cnt (16 * k + i) 1 { s.lampRec (16 * k + i) with opn := true, routed := true } k
    (lampUnit_of_string hk hi)
  have hrouted := State.routeLamp_routed
    (s.lampDeclared (16 * k + i) 1 { s.lampRec (16 * k + i) with opn := true, routed := true }) (16 * k + i)
  rw [hstr, hbit] at hrouted
  have hne : (F.LAMP_CNT_COUNT k 1).key ≠ (F.LAMP_STR_STAT_ROUTED k).key := by
    simp only [Fld.key, F.LAMP_CNT_COUNT, F.LAMP_STR_STAT_ROUTED]
    omega
  refine ⟨?_, ?_, State.routeLamp_lit _ _, hrouted, ?_⟩
  · rw [State.lampOpen, State.routeLamp_rec, hrec]
  · rw [State.lampOpen, State.routeLamp_rec, hrec]
  · rw [State.lampOpen, (LampStep.routeLamp _ _).rd _ (by rw [hstr]; simpa using hne), hcnt]

end

theorem LampStep.stringOpen (s : State) (k : Nat) :
    LampStep [F.LAMP_STR_STAT_STRING_OPEN k, F.LAMP_STR_STAT_RUNNING k] s (s.stringOpen k) :=
  (wrOf s (by simp) _).trans ((wrOf _ (by simp) _).trans (setLamp _ _))

theorem State.stringOpen_shown (s : State) (k : Nat) : (s.stringOpen k).rd (F.LAMP_STR_STAT_STRING_OPEN k) = 1 ∧
    (s.stringOpen k).rd (F.LAMP_STR_STAT_RUNNING k) = 0 := by
  refine ⟨?_, State.stringOff_running _ _⟩
  have hne : (F.LAMP_STR_STAT_STRING_OPEN k).key ≠ (F.LAMP_STR_STAT_RUNNING k).key := by
    simp only [Fld.key, F.LAMP_STR_STAT_STRING_OPEN, F.LAMP_STR_STAT_RUNNING]
    omega
  exact (State.stringOff_rd _ k hne).trans (State.rd_wr_same _ _ _)

/-- A string's register is none of those that show RUN. -/
theorem strStat_notRun {g : Fld} {k : Nat} (hk : k < 6) (haddr : g.addr = 0x400D0160 + 4 * k) (hlo : g.lo < 32) : notRun g.key :=
  State.lampReg_notRun (by omega)

theorem lampCnt_notRun {u i : Nat} (hu : u < 7) (hi : i < 8) : notRun (F.LAMP_CNT_COUNT u i).key :=
  State.lampReg_notRun (by simp only [F.LAMP_CNT_COUNT]; omega)

/-- What a command that finds lamp `i` of string `k` open leaves. -/
theorem State.ended_lampOpen (s : State) {k i : Nat} (hk : k < 6) (hi : i < 16) :
    let t := s.ended (s.lampOpen k i)
    (t.lampRec (16 * k + i)).opn = true ∧ (t.lampRec (16 * k + i)).routed = true ∧
      t.lamp.lit.find (16 * k + i) = none ∧ bitAt (t.rd (F.LAMP_STR_STAT_ROUTED k)) i = true ∧
      t.rd (F.LAMP_CNT_COUNT k 1) = (s.rd (F.LAMP_CNT_COUNT k 1) + 1) % 2 ^ 32 ∧
      RegsKept [F.LAMP_STR_STAT_ROUTED k, F.LAMP_CNT_COUNT k 1, F.LAMP_MTX_STAT_FAULTED] s t ∧ MemKept s t := by
  intro t
  obtain ⟨hopn, hrouted, hlit, hbit, hcnt⟩ := s.lampOpen_shown hk hi
  have hlamp : t.lamp = (s.lampOpen k i).lamp := State.ended_lamp _ _
  have hrec : t.lampRec (16 * k + i) = (s.lampOpen k i).lampRec (16 * k + i) := by
    rw [State.lampRec, hlamp, State.lampRec]
  refine ⟨?_, ?_, ?_, ?_, ?_, (LampStep.lampOpen s hk hi).kept⟩
  · rw [hrec, hopn]
  · rw [hrec, hrouted]
  · rw [hlamp, hlit]
  · rw [State.ended_rd _ _ (strStat_notRun (g := F.LAMP_STR_STAT_ROUTED k) hk rfl (by simp only [F.LAMP_STR_STAT_ROUTED]; decide))]
    exact hbit
  · rw [State.ended_rd _ _ (lampCnt_notRun (by omega) (by omega))]
    exact hcnt

theorem State.ended_stringOpen (s : State) {k : Nat} (hk : k < 6) :
    let t := s.ended (s.stringOpen k)
    t.rd (F.LAMP_STR_STAT_STRING_OPEN k) = 1 ∧ t.rd (F.LAMP_STR_STAT_RUNNING k) = 0 ∧
      RegsKept [F.LAMP_STR_STAT_STRING_OPEN k, F.LAMP_STR_STAT_RUNNING k] s t ∧ MemKept s t := by
  obtain ⟨hopen, hrunning⟩ := s.stringOpen_shown k
  refine ⟨?_, ?_, (LampStep.stringOpen s k).kept⟩
  · rw [State.ended_rd _ _ (strStat_notRun (g := F.LAMP_STR_STAT_STRING_OPEN k) hk rfl (by simp only [F.LAMP_STR_STAT_STRING_OPEN]; decide)), hopen]
  · rw [State.ended_rd _ _ (strStat_notRun (g := F.LAMP_STR_STAT_RUNNING k) hk rfl (by simp only [F.LAMP_STR_STAT_RUNNING]; decide)), hrunning]

section
variable (k : Fin 6) (vs : List (BitVec 16)) {s : State} (hrun : s.run bLAMP = true)
  (hrunning : s.isSet (F.LAMP_STR_STAT_RUNNING k) = true)
include hrun hrunning

theorem State.lampOpenDetect_eq {clamp : Bool} (hcrit : clamp = true ∨ ∃ j, j < 16 ∧
      (s.lamp.lit.find (16 * k.val + j)).isSome ∧ s.rd (F.LAMP_STR_VWIN_V_MAX k) + 400 < (vs.map (·.toNat)).getD j 0) :
    s.lampOpenDetect k (vs.map (·.toNat)) clamp =
      (s.highestLamp k (vs.map (·.toNat))).elim (if clamp then s.stringOpen k else s) (s.lampOpen k) := by
  unfold State.lampOpenDetect
  extract_lets lim crit
  have hcrit' : crit = true := by
    rcases hcrit with h | ⟨j, hj, hlit, hhigh⟩
    · simp [crit, h]
    · refine Bool.or_eq_true_iff.mpr (Or.inr (List.any_eq_true.mpr ⟨j, List.mem_range.mpr hj, ?_⟩))
      rw [hlit, decide_eq_true hhigh]
      rfl
  rw [if_neg (by simp [hrun, hrunning]), if_neg (by simp [hcrit'])]
  cases s.highestLamp k (vs.map (·.toNat)) <;> rfl

theorem State.clampPersist_eq {us : Nat} (hrouted : s.rd (F.LAMP_STR_STAT_ROUTED k) ≠ 0) (hus : 100 ≤ us) :
    s.clampPersist k (vs.map (·.toNat)) us =
      (s.highestLamp k (vs.map (·.toNat))).elim (s.stringOpen k) (s.lampOpen k) := by
  rw [State.clampPersist, if_neg (by simp [hrun, hrunning, hrouted, hus])]
  cases s.highestLamp k (vs.map (·.toNat)) <;> rfl

end

theorem exec_lampOpenDetect (k : Fin 6) (vs : List (BitVec 16)) (clamp : Bool) (s : State) :
    exec (.lampOpenDetect k vs clamp) s = .next (s.ended (s.lampOpenDetect k (vs.map (·.toNat)) clamp)) := by
  rw [show exec (.lampOpenDetect k vs clamp) s = finish s (s.lampOpenDetect k (vs.map (·.toNat)) clamp) from rfl, finish_ended]

theorem exec_clampPersist (k : Fin 6) (vs : List (BitVec 16)) (us : Nat) (s : State) :
    exec (.clampPersist k vs us) s = .next (s.ended (s.clampPersist k (vs.map (·.toNat)) us)) := by
  rw [show exec (.clampPersist k vs us) s = finish s (s.clampPersist k (vs.map (·.toNat)) us) from rfl, finish_ended]

section
variable (k : Fin 6) (vs : List (BitVec 16)) {s : State} (hrun : s.run bLAMP = true)
  (hrunning : s.isSet (F.LAMP_STR_STAT_RUNNING k) = true)
include hrun hrunning

theorem lampOpenDetect_opens (clamp : Bool) {i : Nat} (hi : i < 16) (hmax : s.highestLamp k (vs.map (·.toNat)) = some i)
    (hcrit : clamp = true ∨ ∃ j, j < 16 ∧ (s.lamp.lit.find (16 * k.val + j)).isSome ∧
      s.rd (F.LAMP_STR_VWIN_V_MAX k) + 400 < (vs.map (·.toNat)).getD j 0) :
    ∃ t, exec (.lampOpenDetect k vs clamp) s = .next t ∧ (t.lampRec (16 * k.val + i)).opn = true ∧
      (t.lampRec (16 * k.val + i)).routed = true ∧ t.lamp.lit.find (16 * k.val + i) = none ∧
      bitAt (t.rd (F.LAMP_STR_STAT_ROUTED k)) i = true ∧
      t.rd (F.LAMP_CNT_COUNT k 1) = (s.rd (F.LAMP_CNT_COUNT k 1) + 1) % 2 ^ 32 ∧
      RegsKept [F.LAMP_STR_STAT_ROUTED k, F.LAMP_CNT_COUNT k 1, F.LAMP_MTX_STAT_FAULTED] s t ∧ MemKept s t := by
  refine ⟨_, exec_lampOpenDetect k vs clamp s, ?_⟩
  rw [State.lampOpenDetect_eq k vs hrun hrunning hcrit, hmax, Option.elim_some]
  exact s.ended_lampOpen k.isLt hi

theorem lampOpenDetect_lastOpens (hmax : s.highestLamp k (vs.map (·.toNat)) = none) :
    ∃ t, exec (.lampOpenDetect k vs true) s = .next t ∧ t.rd (F.LAMP_STR_STAT_STRING_OPEN k) = 1 ∧
      t.rd (F.LAMP_STR_STAT_RUNNING k) = 0 ∧
      RegsKept [F.LAMP_STR_STAT_STRING_OPEN k, F.LAMP_STR_STAT_RUNNING k] s t ∧ MemKept s t := by
  refine ⟨_, exec_lampOpenDetect k vs true s, ?_⟩
  rw [State.lampOpenDetect_eq k vs hrun hrunning (Or.inl rfl), hmax, Option.elim_none, if_pos rfl]
  exact s.ended_stringOpen k.isLt

variable {us : Nat} (hrouted : s.rd (F.LAMP_STR_STAT_ROUTED k) ≠ 0) (hus : 100 ≤ us)
include hrouted hus

theorem clampPersist_opens {i : Nat} (hi : i < 16) (hmax : s.highestLamp k (vs.map (·.toNat)) = some i) :
    ∃ t, exec (.clampPersist k vs us) s = .next t ∧ (t.lampRec (16 * k.val + i)).opn = true ∧
      (t.lampRec (16 * k.val + i)).routed = true ∧ bitAt (t.rd (F.LAMP_STR_STAT_ROUTED k)) i = true ∧
      t.rd (F.LAMP_CNT_COUNT k 1) = (s.rd (F.LAMP_CNT_COUNT k 1) + 1) % 2 ^ 32 := by
  refine ⟨_, exec_clampPersist k vs us s, ?_⟩
  rw [State.clampPersist_eq k vs hrun hrunning hrouted hus, hmax, Option.elim_some]
  obtain ⟨hopn, hroute, -, hbit, hcnt, -⟩ := s.ended_lampOpen k.isLt hi
  exact ⟨hopn, hroute, hbit, hcnt⟩

theorem clampPersist_lastOpens (hmax : s.highestLamp k (vs.map (·.toNat)) = none) :
    ∃ t, exec (.clampPersist k vs us) s = .next t ∧ t.rd (F.LAMP_STR_STAT_STRING_OPEN k) = 1 ∧
      t.rd (F.LAMP_STR_STAT_RUNNING k) = 0 ∧
      RegsKept [F.LAMP_STR_STAT_STRING_OPEN k, F.LAMP_STR_STAT_RUNNING k] s t ∧ MemKept s t := by
  refine ⟨_, exec_clampPersist k vs us s, ?_⟩
  rw [State.clampPersist_eq k vs hrun hrunning hrouted hus, hmax, Option.elim_none]
  exact s.ended_stringOpen k.isLt

end

/-! ## Readings -/

/-- The state in which a reading of lamp `id` is judged. -/
def State.lampReading (s : State) (id volt : Nat) : State :=
  let s := s.setLamp { s.lamp with measured := id :: s.lamp.measured }
  s.setLampRec id { s.lampRec id with volt := volt, lastMeas := s.lamp.frame }

section
variable {s : State} {id volt : Nat} {l a n : Nat} {rest : List (Nat × Nat)} (hrun : s.run bLAMP = true)
  (hlit : s.lamp.lit.find id = some l) (hmeas : s.lamp.measured.contains id = false)
include hrun hlit hmeas

theorem State.lampMeasure_reads (hid : id < 96)
    (hticks : spreadTicks l (s.rd (F.LAMP_STR_CFG_SPREAD (id / 16))) = (a, n) :: rest) (hn : 256 ≤ n)
    (hrunning : s.isSet (F.LAMP_STR_STAT_RUNNING (id / 16)) = true) (h r : Bool) :
    s.lampMeasure id volt h r = ((s.lampReading id volt).judgeShort id volt).judgeDegraded id volt := by
  unfold State.lampMeasure
  rw [hlit]
  simp only [hrun, hmeas, not_true_eq_false, Bool.false_eq_true, or_self, if_false, if_neg (show ¬ 256 ≤ id by omega)]
  rw [State.setLamp_rd, hticks]
  exact if_neg fun hc => hc.elim (fun h => by omega) fun h => h hrunning

theorem State.lampMeasure_element (hid : 256 ≤ id) (h r : Bool) : s.lampMeasure id volt h r =
    (s.setLamp { s.lamp with measured := id :: s.lamp.measured }).judgeElement id h r := by
  unfold State.lampMeasure
  rw [hlit]
  simp only [hrun, hmeas, not_true_eq_false, Bool.false_eq_true, or_self, if_false, if_pos hid]

end

theorem LampStep.lampReading (s : State) (id volt : Nat) : LampStep [] s (s.lampReading id volt) :=
  (setLamp s _).trans (setLampRec _ _ _)

theorem State.lampReading_rec (s : State) (id volt : Nat) :
    (s.lampReading id volt).lampRec id = { s.lampRec id with volt := volt, lastMeas := s.lamp.frame } := AMap.get_set_same _ _ _ _

/-- The registers of a reading judged. -/
def judgedFlds (u : Nat) : List Fld :=
  [F.LAMP_STR_STAT_ROUTED u, F.LAMP_CNT_COUNT u 1, F.LAMP_CNT_COUNT u 2, F.LAMP_CNT_COUNT u 3, F.LAMP_MTX_STAT_FAULTED]

theorem judgedFlds_inBlock {u : Nat} (hu : u < 7) : ∀ f ∈ judgedFlds u, inBlock bLAMP f.key = true :=
  (by decide : ∀ u : Fin 7, ∀ f ∈ judgedFlds u, inBlock bLAMP f.key = true) ⟨u, hu⟩

theorem LampStep.judgeDegraded (s : State) {id u : Nat} (hu : lampUnit id = u) (volt : Nat) :
    LampStep [F.LAMP_CNT_COUNT u 3, F.LAMP_MTX_STAT_FAULTED] s (s.judgeDegraded id volt) := by
  subst hu
  unfold State.judgeDegraded
  extract_lets r k
  split
  · exact setLampRec s _ _
  · split
    · exact setLampRec s _ _
    · exact lampDeclared s id 3 _

theorem State.judgeDegraded_shown (s : State) (id volt : Nat) :
    ((s.judgeDegraded id volt).lampRec id).short = (s.lampRec id).short ∧
      ((s.judgeDegraded id volt).lampRec id).routed = (s.lampRec id).routed ∧
      (s.judgeDegraded id volt).lamp.lit = s.lamp.lit := by
  unfold State.judgeDegraded
  extract_lets r k
  split
  · exact ⟨by rw [State.setLampRec_rec_same], by rw [State.setLampRec_rec_same], rfl⟩
  · split
    · exact ⟨by rw [State.setLampRec_rec_same], by rw [State.setLampRec_rec_same], rfl⟩
    · exact ⟨by rw [State.lampDeclared_rec], by rw [State.lampDeclared_rec], rfl⟩

section
variable (id : BitVec 10) (volt : BitVec 16) (h r : Bool) {s : State} (hrun : s.run bLAMP = true)
  (hmeas : s.lamp.measured.contains id.toNat = false)
include hrun hmeas

section
variable {l a n : Nat} {rest : List (Nat × Nat)} (hid : id.toNat < 96) (hlit : s.lamp.lit.find id.toNat = some l)
  (hticks : spreadTicks l (s.rd (F.LAMP_STR_CFG_SPREAD (id.toNat / 16))) = (a, n) :: rest) (hn : 256 ≤ n)
  (hrunning : s.isSet (F.LAMP_STR_STAT_RUNNING (id.toNat / 16)) = true)
include hid hlit hticks hn hrunning

theorem lampMeasure_good (hvolt : 100 ≤ volt.toNat) (hmin : s.rd (F.LAMP_STR_VWIN_V_MIN (id.toNat / 16)) ≤ volt.toNat)
    (hmax : volt.toNat ≤ s.rd (F.LAMP_STR_VWIN_V_MAX (id.toNat / 16))) :
    ∃ t, exec (.lampMeasure id volt h r) s = .next t ∧
      t.lampRec id.toNat = { s.lampRec id.toNat with
        volt := volt.toNat, lastMeas := s.lamp.frame, shortRun := 0, degRun := 0, degraded := false } ∧
      RegsKept [] s t ∧ MemKept s t := by
  set v := s.lampReading id.toNat volt.toNat
  set w := v.setLampRec id.toNat { v.lampRec id.toNat with shortRun := 0 } with hw
  have hshort : v.judgeShort id.toNat volt.toNat = w := if_pos hvolt
  have hdeg : w.judgeDegraded id.toNat volt.toNat =
      w.setLampRec id.toNat { w.lampRec id.toNat with degRun := 0, degraded := false } := if_pos ⟨hmin, hmax⟩
  refine ⟨_, finish_ended s (s.lampMeasure id.toNat volt.toNat h r), ?_⟩
  rw [State.lampMeasure_reads hrun hlit hmeas hid hticks hn hrunning, hshort, hdeg]
  refine ⟨?_, (((LampStep.lampReading s _ _).trans (LampStep.setLampRec _ _ _)).trans (LampStep.setLampRec _ _ _)).kept⟩
  rw [State.lampRec, State.ended_lamp]
  refine (State.setLampRec_rec_same _ _ _).trans ?_
  rw [hw, State.setLampRec_rec_same, State.lampReading_rec]

theorem lampMeasure_short (hvolt : volt.toNat < 100) (hrunOf : (s.lampRec id.toNat).shortRun = 2)
    (hnot : (s.lampRec id.toNat).short = false) :
    ∃ t, exec (.lampMeasure id volt h r) s = .next t ∧ (t.lampRec id.toNat).short = true ∧
      (t.lampRec id.toNat).routed = true ∧ t.lamp.lit.find id.toNat = none ∧
      bitAt (t.rd (F.LAMP_STR_STAT_ROUTED (id.toNat / 16))) (id.toNat % 16) = true ∧
      t.rd (F.LAMP_CNT_COUNT (id.toNat / 16) 2) = (s.rd (F.LAMP_CNT_COUNT (id.toNat / 16) 2) + 1) % 2 ^ 32 ∧
      BlocksKept [bLAMP] s t ∧ MemKept s t := by
  have hk : id.toNat / 16 < 6 := by omega
  have hunit : lampUnit id.toNat = id.toNat / 16 := if_pos (by omega)
  set k := id.toNat / 16 with hkdef
  set v := s.lampReading id.toNat volt.toNat
  have hvrec : v.lampRec id.toNat = { s.lampRec id.toNat with volt := volt.toNat, lastMeas := s.lamp.frame } :=
    s.lampReading_rec _ _
  set x := v.lampDeclared id.toNat 2 { v.lampRec id.toNat with shortRun := 3, short := true, routed := true } with hx
  have hshort : v.judgeShort id.toNat volt.toNat = x.routeLamp id.toNat := by
    unfold State.judgeShort
    extract_lets r
    rw [if_neg (by omega), if_neg (by simp only [r, hvrec, hrunOf, hnot]; decide)]
  set w := (x.routeLamp id.toNat).judgeDegraded id.toNat volt.toNat with hw
  obtain ⟨hs, hr, hl⟩ := (x.routeLamp id.toNat).judgeDegraded_shown id.toNat volt.toNat
  have hdeg := LampStep.judgeDegraded (x.routeLamp id.toNat) hunit volt.toNat
  have hxrec := v.lampDeclared_rec id.toNat 2 { v.lampRec id.toNat with shortRun := 3, short := true, routed := true }
  have hcnt := v.lampDeclared_cnt id.toNat 2 { v.lampRec id.toNat with shortRun := 3, short := true, routed := true } k hunit
  have hnew := (by decide : ∀ k : Fin 6,
    (∀ f ∈ [F.LAMP_CNT_COUNT k 3, F.LAMP_MTX_STAT_FAULTED], (F.LAMP_STR_STAT_ROUTED k).key ≠ f.key) ∧
    (∀ f ∈ [F.LAMP_CNT_COUNT k 3, F.LAMP_MTX_STAT_FAULTED], (F.LAMP_CNT_COUNT k 2).key ≠ f.key) ∧
    (F.LAMP_CNT_COUNT k 2).key ≠ (F.LAMP_STR_STAT_ROUTED k).key) ⟨k, hk⟩
  obtain ⟨hroutedNew, hcntNew, hcntRouted⟩ := hnew
  have hstep : LampStep (judgedFlds k) s w := by
    refine ((LampStep.lampReading s _ _).mono (by simp)).trans
      (((LampStep.lampDeclared v id.toNat 2 _).mono ?_).trans (((LampStep.routeLamp x id.toNat).mono ?_).trans (hdeg.mono ?_)))
    · rw [hunit]
      simp [declaredFlds, judgedFlds]
    · rw [← hkdef]
      simp [judgedFlds]
    · simp [judgedFlds]
  refine ⟨_, finish_ended s (s.lampMeasure id.toNat volt.toNat h r), ?_⟩
  rw [State.lampMeasure_reads hrun hlit hmeas hid hticks hn hrunning, hshort, ← hw, State.lampRec, State.ended_lamp,
    State.ended_rd _ _ (strStat_notRun (g := F.LAMP_STR_STAT_ROUTED k) hk rfl (by simp only [F.LAMP_STR_STAT_ROUTED]; decide)),
    State.ended_rd _ _ (lampCnt_notRun (by omega) (by omega))]
  refine ⟨hs.trans ?_, hr.trans ?_, ?_, ?_, ?_, hstep.keptBlock (judgedFlds_inBlock (by omega))⟩
  · rw [State.routeLamp_rec, hxrec]
  · rw [State.routeLamp_rec, hxrec]
  · rw [hl]
    exact x.routeLamp_lit id.toNat
  · rw [hdeg.rd _ hroutedNew]
    exact x.routeLamp_routed id.toNat
  · rw [hdeg.rd _ hcntNew, (LampStep.routeLamp x id.toNat).rd _ (by simpa using hcntRouted), hcnt,
      (LampStep.lampReading s _ _).rd _ (by simp)]

end

theorem lampMeasure_elementOpen (hlit : (s.lamp.lit.find id.toNat).isSome) (hid : 256 ≤ id.toNat)
    (hopenRun : 2 ≤ (s.lampRec id.toNat).openRun) (hnot : (s.lampRec id.toNat).opn = false) :
    ∃ t, exec (.lampMeasure id volt false r) s = .next t ∧ (t.lampRec id.toNat).opn = true ∧
      t.rd (F.LAMP_CNT_COUNT 6 1) = (s.rd (F.LAMP_CNT_COUNT 6 1) + 1) % 2 ^ 32 ∧ BlocksKept [bLAMP] s t ∧ MemKept s t := by
  obtain ⟨l, hl⟩ := Option.isSome_iff_exists.mp hlit
  have hunit : lampUnit id.toNat = 6 := if_neg (by omega)
  set v := s.setLamp { s.lamp with measured := id.toNat :: s.lamp.measured } with hv
  set q : LampRec := { v.lampRec id.toNat with
    openRun := (v.lampRec id.toNat).openRun + 1, shortRun := if r then (v.lampRec id.toNat).shortRun + 1 else 0 } with hq
  set x := (v.setLampRec id.toNat q).lampDeclared id.toNat 1 { q with opn := true } with hx
  have hjudge : v.judgeElement id.toNat false r =
      if 3 ≤ (x.lampRec id.toNat).shortRun ∧ ¬ (x.lampRec id.toNat).short then
        x.lampDeclared id.toNat 2 { x.lampRec id.toNat with short := true } else x := by
    have hopen : 3 ≤ q.openRun ∧ ¬ q.opn := ⟨Nat.succ_le_succ hopenRun, fun hc => by
      rw [show q.opn = (s.lampRec id.toNat).opn from rfl, hnot] at hc
      exact absurd hc (by decide)⟩
    unfold State.judgeElement
    simp only [Bool.false_eq_true, if_false]
    rw [if_pos hopen]
  have hxrec := (v.setLampRec id.toNat q).lampDeclared_rec id.toNat 1 { q with opn := true }
  have hcnt := (v.setLampRec id.toNat q).lampDeclared_cnt id.toNat 1 { q with opn := true } 6 hunit
  have hfirst : LampStep (judgedFlds 6) s x := by
    refine (LampStep.setLamp s _).trans ((LampStep.setLampRec _ _ _).trans ((LampStep.lampDeclared _ id.toNat 1 _).mono ?_))
    rw [hunit]
    simp [declaredFlds, judgedFlds]
  have hsecond : ∀ y, LampStep (declaredFlds 6 2) x (x.lampDeclared id.toNat 2 y) := fun y => by
    have h := LampStep.lampDeclared x id.toNat 2 y
    rwa [hunit] at h
  refine ⟨_, finish_ended s (s.lampMeasure id.toNat volt.toNat false r), ?_⟩
  rw [State.lampMeasure_element hrun hl hmeas hid, ← hv, hjudge, State.lampRec, State.ended_lamp,
    State.ended_rd _ _ (lampCnt_notRun (by decide) (by decide))]
  split
  · refine ⟨?_, ?_, (hfirst.trans ((hsecond _).mono (by simp [declaredFlds, judgedFlds]))).keptBlock
      (judgedFlds_inBlock (by decide))⟩
    · refine (congrArg LampRec.opn (x.lampDeclared_rec id.toNat 2 _)).trans ?_
      rw [hxrec]
    · rw [(hsecond _).rd _ (by decide), hcnt]
      rfl
  · refine ⟨congrArg LampRec.opn hxrec, ?_, hfirst.keptBlock (judgedFlds_inBlock (by decide))⟩
    rw [hcnt]
    rfl

end

/-! ## The end of a frame -/

/-- One on-frame of lamp `id` counted. -/
def State.onFrame (s : State) (id : Nat) : State :=
  s.setLampRec id { s.lampRec id with onFrames := (s.lampRec id).onFrames + 1 }

/-- Every lamp that shone counted. -/
def State.onFrames (s : State) (l : List Nat) : State := l.foldl State.onFrame s

theorem State.onFrames_rec (l : List Nat) (id : Nat) (s : State) :
    ((s.onFrames l).lampRec id).onFrames = (s.lampRec id).onFrames + l.count id := by
  induction l generalizing s with
  | nil => rfl
  | cons j l ih =>
    have hj : ((s.onFrame j).lampRec id).onFrames = (s.lampRec id).onFrames + if j = id then 1 else 0 := by
      rw [State.onFrame, State.setLampRec_rec]
      by_cases h : id = j
      · rw [if_pos h, if_pos h.symm, h]
      · rw [if_neg h, if_neg fun hc => h hc.symm, Nat.add_zero]
    rw [State.onFrames, List.foldl_cons, ← State.onFrames, ih, hj, List.count_cons, Nat.add_assoc, Nat.add_comm (List.count _ _)]
    simp

theorem State.onFrames_kept (l : List Nat) (s : State) : LampStep [] s (s.onFrames l) ∧
    (s.onFrames l).lamp.total = s.lamp.total := by
  induction l generalizing s with
  | nil => exact ⟨.refl _ s, rfl⟩
  | cons j l ih => exact ⟨(LampStep.setLampRec s _ _).trans (ih (s.onFrame j)).1, (ih (s.onFrame j)).2⟩

/-- What a frame measured on string `k`. -/
def State.stringFrame (strings : List (Nat × Nat)) (s : State) (k : Nat) : State :=
  let s := (s.wr (F.LAMP_STR_MEAS_V_OUT k) (strings.getD k (0, 0)).1).wr (F.LAMP_STR_MEAS_I_MA k) (strings.getD k (0, 0)).2
  if s.isSet (F.LAMP_STR_STAT_RUNNING k) then (s.lampCnt k 0).underStep k (strings.getD k (0, 0)).2 else s

/-- The matrix's reading, and its on-frame. -/
def State.matrixFrame (s : State) (rowMa : Nat) : State :=
  let s := s.wr F.LAMP_MTX_STAT_ROW_MA rowMa
  if s.isSet F.LAMP_CTRL_MTX_EN ∧ ¬ s.isSet F.LAMP_STATUS_MATRIX_FAULT then s.lampCnt 6 0 else s

/-- The lamps that shone counted, and none any more. -/
def State.shoneCounted (s : State) : State :=
  let t := s.onFrames s.lamp.shone
  t.setLamp { t.lamp with total := t.lamp.total + t.lamp.shone.length, shone := [] }

theorem State.onFrames_shone (l : List Nat) (s : State) : (s.onFrames l).lamp.shone = s.lamp.shone := by
  induction l generalizing s with
  | nil => rfl
  | cons j l ih => exact ih (s.onFrame j)

theorem State.lampFrameEnd_eq {s : State} (hrun : s.run bLAMP = true) (strings : List (Nat × Nat)) (rowMa : Nat) :
    s.lampFrameEnd strings rowMa =
      ((List.range 6).foldl (State.stringFrame strings) s.shoneCounted).matrixFrame rowMa := by
  unfold State.lampFrameEnd
  rw [if_neg (not_not.mpr hrun)]
  rfl

/-- The registers of a string's frame. -/
def stringFlds (k : Nat) : List Fld :=
  [F.LAMP_STR_MEAS_V_OUT k, F.LAMP_STR_MEAS_I_MA k, F.LAMP_CNT_COUNT k 0, F.LAMP_STR_STAT_UNDERCURRENT k, F.LAMP_CNT_COUNT k 5]

/-- What the frame's steps keep of the drive: its records, and what it counts of the frame. -/
def State.frameKept (s t : State) : Prop :=
  t.lamp.recs = s.lamp.recs ∧ t.lamp.total = s.lamp.total ∧ t.lamp.shone = s.lamp.shone

theorem State.underStep_shown (s : State) (k mA : Nat) :
    LampStep [F.LAMP_STR_STAT_UNDERCURRENT k, F.LAMP_CNT_COUNT k 5] s (s.underStep k mA) ∧ s.frameKept (s.underStep k mA) := by
  unfold State.underStep
  extract_lets x low y u
  have hu : LampStep [F.LAMP_STR_STAT_UNDERCURRENT k, F.LAMP_CNT_COUNT k 5] s u := LampStep.setLamp s _
  split
  · exact ⟨hu.trans ((LampStep.wrOf _ (by simp) _).trans (LampStep.wrOf _ (by simp) _)), rfl, rfl, rfl⟩
  · split
    · exact ⟨hu.trans (LampStep.wrOf _ (by simp) _), rfl, rfl, rfl⟩
    · exact ⟨hu, rfl, rfl, rfl⟩

theorem State.stringFrame_shown (strings : List (Nat × Nat)) (s : State) (k : Nat) :
    LampStep (stringFlds k) s (s.stringFrame strings k) ∧ s.frameKept (s.stringFrame strings k) := by
  unfold State.stringFrame
  extract_lets u
  have hu : LampStep (stringFlds k) s u :=
    (LampStep.wrOf s (by simp [stringFlds]) _).trans (LampStep.wrOf _ (by simp [stringFlds]) _)
  split
  · obtain ⟨hstep, hkept⟩ := (u.lampCnt k 0).underStep_shown k (strings.getD k (0, 0)).2
    exact ⟨hu.trans ((LampStep.wrOf u (by simp [stringFlds]) _).trans (hstep.mono (by simp [stringFlds]))), hkept⟩
  · exact ⟨hu, rfl, rfl, rfl⟩

theorem State.stringFrames_kept (strings : List (Nat × Nat)) (l : List Nat) (s : State) :
    s.frameKept (l.foldl (State.stringFrame strings) s) := by
  induction l generalizing s with
  | nil => exact ⟨rfl, rfl, rfl⟩
  | cons k l ih =>
    obtain ⟨hr, ht, hs⟩ := (s.stringFrame_shown strings k).2
    obtain ⟨hr', ht', hs'⟩ := ih (s.stringFrame strings k)
    exact ⟨hr'.trans hr, ht'.trans ht, hs'.trans hs⟩

/-- A running string's on-frame is counted. -/
theorem State.stringFrame_counts (strings : List (Nat × Nat)) (s : State) (k : Fin 6)
    (hrunning : s.isSet (F.LAMP_STR_STAT_RUNNING k) = true) :
    (s.stringFrame strings k).rd (F.LAMP_CNT_COUNT k 0) = (s.rd (F.LAMP_CNT_COUNT k 0) + 1) % 2 ^ 32 := by
  obtain ⟨hrun, hcnt, hunder⟩ := (by decide : ∀ k : Fin 6,
    ((F.LAMP_STR_STAT_RUNNING k).key ≠ (F.LAMP_STR_MEAS_V_OUT k).key ∧
      (F.LAMP_STR_STAT_RUNNING k).key ≠ (F.LAMP_STR_MEAS_I_MA k).key) ∧
    ((F.LAMP_CNT_COUNT k 0).key ≠ (F.LAMP_STR_MEAS_V_OUT k).key ∧
      (F.LAMP_CNT_COUNT k 0).key ≠ (F.LAMP_STR_MEAS_I_MA k).key) ∧
    ∀ f ∈ [F.LAMP_STR_STAT_UNDERCURRENT k, F.LAMP_CNT_COUNT k 5], (F.LAMP_CNT_COUNT k 0).key ≠ f.key) k
  unfold State.stringFrame
  extract_lets u
  have hu : u.isSet (F.LAMP_STR_STAT_RUNNING k) = true := by
    rw [State.isSet, State.rd_wr_other _ _ hrun.2, State.rd_wr_other _ _ hrun.1]
    exact hrunning
  rw [if_pos hu, (State.underStep_shown _ _ _).1.rd _ hunder, State.lampCnt, State.inc_eq, State.rd_wr_same,
    State.rd_wr_other _ _ hcnt.2, State.rd_wr_other _ _ hcnt.1]
  rfl

theorem State.stringFrames_count (strings : List (Nat × Nat)) (s : State) {k : Nat} (hk : k < 6)
    (hrunning : s.isSet (F.LAMP_STR_STAT_RUNNING k) = true) :
    ((List.range 6).foldl (State.stringFrame strings) s).rd (F.LAMP_CNT_COUNT k 0) =
      (s.rd (F.LAMP_CNT_COUNT k 0) + 1) % 2 ^ 32 := by
  have hfold := LampStep.foldl fun s k => (State.stringFrame_shown strings s k).1
  have hsplit : List.range 6 = List.range k ++ k :: (List.range (5 - k)).map (k + 1 + ·) :=
    (by decide : ∀ k : Fin 6, List.range 6 = List.range k ++ k.val :: (List.range (5 - k)).map (k.val + 1 + ·)) ⟨k, hk⟩
  obtain ⟨hbefore, hrun, hafter⟩ := (by decide : ∀ k : Fin 6,
    (∀ f ∈ (List.range k).flatMap stringFlds, (F.LAMP_CNT_COUNT k 0).key ≠ f.key) ∧
    (∀ f ∈ (List.range k).flatMap stringFlds, (F.LAMP_STR_STAT_RUNNING k).key ≠ f.key) ∧
    ∀ f ∈ ((List.range (5 - k)).map (k.val + 1 + ·)).flatMap stringFlds, (F.LAMP_CNT_COUNT k 0).key ≠ f.key) ⟨k, hk⟩
  rw [hsplit, List.foldl_append, List.foldl_cons, (hfold _ _).rd _ hafter,
    State.stringFrame_counts strings _ ⟨k, hk⟩ (by rw [State.isSet, (hfold _ s).rd _ hrun]; exact hrunning),
    (hfold _ s).rd _ hbefore]

theorem State.matrixFrame_shown (s : State) {rowMa : Nat} (hrow : rowMa < 2 ^ 16) :
    LampStep [F.LAMP_MTX_STAT_ROW_MA, F.LAMP_CNT_COUNT 6 0] s (s.matrixFrame rowMa) ∧ s.frameKept (s.matrixFrame rowMa) ∧
      (s.matrixFrame rowMa).rd F.LAMP_MTX_STAT_ROW_MA = rowMa := by
  unfold State.matrixFrame
  extract_lets u
  have hu : LampStep [F.LAMP_MTX_STAT_ROW_MA, F.LAMP_CNT_COUNT 6 0] s u := LampStep.wrOf s (by simp) _
  have hrd : u.rd F.LAMP_MTX_STAT_ROW_MA = rowMa := State.rd_wr_fits s F.LAMP_MTX_STAT_ROW_MA hrow
  split
  · refine ⟨hu.trans (LampStep.wrOf _ (by simp) _), ⟨rfl, rfl, rfl⟩, ?_⟩
    rw [State.lampCnt, State.inc_eq, State.rd_wr_other _ _ (by decide), hrd]
  · exact ⟨hu, ⟨rfl, rfl, rfl⟩, hrd⟩

theorem exec_lampFrameEnd (m : LampMeas) (s : State) : exec (.lampFrameEnd m) s =
    .next (s.ended (s.lampFrameEnd (m.strings.map (fun x => (x.1.toNat, x.2.toNat))) m.rowMa.toNat)) := by
  rw [show exec (.lampFrameEnd m) s =
    finish s (s.lampFrameEnd (m.strings.map (fun x => (x.1.toNat, x.2.toNat))) m.rowMa.toNat) from rfl, finish_ended]

/-- The registers of a frame's end. -/
def frameEndFlds : List Fld := (List.range 6).flatMap stringFlds ++ [F.LAMP_MTX_STAT_ROW_MA, F.LAMP_CNT_COUNT 6 0]

/-- What the end of a frame shows, before the command ends. -/
theorem State.lampFrameEnd_shown {s : State} (hrun : s.run bLAMP = true) (strings : List (Nat × Nat)) {rowMa : Nat}
    (hrow : rowMa < 2 ^ 16) :
    let t := s.lampFrameEnd strings rowMa
    t.lamp.total = s.lamp.total + s.lamp.shone.length ∧ t.rd F.LAMP_MTX_STAT_ROW_MA = rowMa ∧
      (∀ id, (t.lampRec id).onFrames = (s.lampRec id).onFrames + s.lamp.shone.count id) ∧ t.lamp.shone = [] ∧
      (∀ k, k < 6 → s.isSet (F.LAMP_STR_STAT_RUNNING k) = true →
        t.rd (F.LAMP_CNT_COUNT k 0) = (s.rd (F.LAMP_CNT_COUNT k 0) + 1) % 2 ^ 32) ∧ LampStep frameEndFlds s t := by
  intro t
  have ht : t = ((List.range 6).foldl (State.stringFrame strings) s.shoneCounted).matrixFrame rowMa :=
    State.lampFrameEnd_eq hrun strings rowMa
  obtain ⟨hshone, htotal⟩ := State.onFrames_kept s.lamp.shone s
  have hcounted : LampStep [] s s.shoneCounted := hshone.trans (LampStep.setLamp _ _)
  have hsum : s.shoneCounted.lamp.total = s.lamp.total + s.lamp.shone.length :=
    congrArg₂ (fun a (b : List Nat) => a + b.length) htotal (State.onFrames_shone _ _)
  have hrec : ∀ id, (s.shoneCounted.lampRec id).onFrames = (s.lampRec id).onFrames + s.lamp.shone.count id := fun id =>
    State.onFrames_rec s.lamp.shone id s
  have hdark : s.shoneCounted.lamp.shone = [] := rfl
  clear_value t
  generalize s.shoneCounted = v at ht hcounted hsum hrec hdark
  have hstrings := LampStep.foldl (fun s k => (State.stringFrame_shown strings s k).1) (List.range 6) v
  have hkept := State.stringFrames_kept strings (List.range 6) v
  have hcnt := fun k hk => State.stringFrames_count strings v (k := k) hk
  generalize (List.range 6).foldl (State.stringFrame strings) v = w at ht hstrings hkept hcnt
  obtain ⟨hrecs, htot, hsh⟩ := hkept
  obtain ⟨hmatrix, ⟨hrecs', htot', hsh'⟩, hma⟩ := w.matrixFrame_shown hrow
  rw [← ht] at hmatrix hrecs' htot' hsh' hma
  refine ⟨by rw [htot', htot, hsum], hma, fun id => ?_, by rw [hsh', hsh, hdark], fun k hk hrunning => ?_,
    (hcounted.mono (by simp)).trans ((hstrings.mono fun f hf => List.mem_append_left _ hf).trans
      (hmatrix.mono fun f hf => List.mem_append_right _ hf))⟩
  · rw [State.lampRec, hrecs', hrecs]
    exact hrec id
  · rw [hmatrix.rd _ ((by decide : ∀ k : Fin 6, ∀ f ∈ [F.LAMP_MTX_STAT_ROW_MA, F.LAMP_CNT_COUNT 6 0],
      (F.LAMP_CNT_COUNT k 0).key ≠ f.key) ⟨k, hk⟩), hcnt k hk (by rw [State.isSet, hcounted.rd _ (by simp)]; exact hrunning),
      hcounted.rd _ (by simp)]

theorem lampFrameEnd_counts (m : LampMeas) (s : State) (hrun : s.run bLAMP = true) :
    ∃ t, exec (.lampFrameEnd m) s = .next t ∧ t.lamp.total = s.lamp.total + s.lamp.shone.length ∧
      t.rd F.LAMP_MTX_STAT_ROW_MA = m.rowMa.toNat ∧
      (∀ id, (t.lampRec id).onFrames = (s.lampRec id).onFrames + s.lamp.shone.count id) ∧ t.lamp.shone = [] ∧
      (∀ k, k < 6 → s.isSet (F.LAMP_STR_STAT_RUNNING k) = true →
        t.rd (F.LAMP_CNT_COUNT k 0) = (s.rd (F.LAMP_CNT_COUNT k 0) + 1) % 2 ^ 32) ∧
      BlocksKept [bLAMP] s t ∧ MemKept s t := by
  obtain ⟨htotal, hrow, hrec, hdark, hcnt, hstep⟩ :=
    State.lampFrameEnd_shown hrun (m.strings.map (fun x => (x.1.toNat, x.2.toNat))) m.rowMa.isLt
  refine ⟨_, exec_lampFrameEnd m s, ?_⟩
  generalize s.lampFrameEnd (m.strings.map (fun x => (x.1.toNat, x.2.toNat))) m.rowMa.toNat = u at htotal hrow hrec hdark hcnt hstep
  refine ⟨?_, ?_, fun id => ?_, ?_, fun k hk hk' => ?_, hstep.keptBlock (by decide)⟩
  · rw [State.ended_lamp, htotal]
  · rw [State.ended_rd _ _ (Fld.notRun (by decide)), hrow]
  · rw [State.lampRec, State.ended_lamp]
    exact hrec id
  · rw [State.ended_lamp, hdark]
  · rw [State.ended_rd _ _ (lampCnt_notRun (by omega) (by omega)), hcnt k hk hk']

/-! ## The start of a frame: supplies, flash clock and fades -/

/-- What each step of a fold keeps, the fold keeps. -/
theorem foldl_kept {α β γ : Type} (p : β → γ) {f : β → α → β} (hf : ∀ b a, p (f b a) = p b) (l : List α) (b : β) :
    p (l.foldl f b) = p b := by
  induction l generalizing b with
  | nil => rfl
  | cons a l ih => exact (ih (f b a)).trans (hf b a)

/-- The supply readings shown, and a supply that has come back (R327). -/
def State.frameSupplies (s : State) (loss led : Nat) : State :=
  let s := (s.wr F.LAMP_SUPPLY_LOSS loss).wr F.LAMP_SUPPLY_LED_IN led
  if s.lamp.resume then (s.wr F.LAMP_STATUS_SUPPLY_LOW 0).setLamp { s.lamp with resume := false } else s

/-- The flash clock of the frame after this one. -/
def State.nextFlash (s : State) : Bool :=
  if s.lamp.frame = 0 ∨ 1 < s.lamp.flashLeft then s.lamp.flashOn else !s.lamp.flashOn

theorem State.frameSupplies_shown (s : State) {loss led : Nat} (hloss : loss < 2 ^ 16) (hled : led < 2 ^ 16) :
    (s.frameSupplies loss led).rd F.LAMP_SUPPLY_LOSS = loss ∧ (s.frameSupplies loss led).rd F.LAMP_SUPPLY_LED_IN = led ∧
      (∃ b, (s.frameSupplies loss led).lamp = { s.lamp with resume := b }) ∧
      (s.frameSupplies loss led).shadow = s.shadow ∧
      LampStep [F.LAMP_SUPPLY_LOSS, F.LAMP_SUPPLY_LED_IN, F.LAMP_STATUS_SUPPLY_LOW] s (s.frameSupplies loss led) := by
  unfold State.frameSupplies
  extract_lets u
  have hu : LampStep [F.LAMP_SUPPLY_LOSS, F.LAMP_SUPPLY_LED_IN, F.LAMP_STATUS_SUPPLY_LOW] s u :=
    (LampStep.wrOf s (by simp) _).trans (LampStep.wrOf _ (by simp) _)
  have huloss : u.rd F.LAMP_SUPPLY_LOSS = loss := (State.rd_wr_other _ _ (by decide)).trans (State.rd_wr_fits s _ hloss)
  have huled : u.rd F.LAMP_SUPPLY_LED_IN = led := State.rd_wr_fits _ F.LAMP_SUPPLY_LED_IN hled
  split
  · exact ⟨(State.rd_wr_other u _ (by decide)).trans huloss, (State.rd_wr_other u _ (by decide)).trans huled, ⟨false, rfl⟩, rfl,
      hu.trans ((LampStep.wrOf u (by simp) _).trans (LampStep.setLamp _ _))⟩
  · exact ⟨huloss, huled, ⟨s.lamp.resume, rfl⟩, rfl, hu⟩

theorem State.flashStep_shown (s : State) :
    (∃ n, s.flashStep.lamp = { s.lamp with flashOn := s.nextFlash, flashLeft := n }) ∧ LampStep [] s s.flashStep := by
  unfold State.flashStep State.nextFlash
  extract_lets l n
  split
  next h => exact ⟨⟨s.lamp.flashLeft, by rw [if_pos (Or.inl h)]⟩, .refl _ s⟩
  next h =>
    split
    next hleft => exact ⟨⟨_, by rw [if_pos (Or.inr hleft)]; rfl⟩, .setLamp s _⟩
    next hleft => exact ⟨⟨_, by rw [if_neg (not_or.mpr ⟨h, hleft⟩)]; rfl⟩, .setLamp s _⟩

/-- Function `f` a frame further in its fade. -/
def State.fadedFunc (s : State) (f : Nat) : LampFunc :=
  let x := s.lampFunc f
  if x.t < x.len then
    { x with t := x.t + 1, out := fadeOut (s.isSet (F.LAMP_FUNC_CFG_CURVE f)) x.base x.target (x.t + 1) x.len }
  else x

/-- Function `f` set. -/
def State.setFunc (s : State) (f : Nat) (x : LampFunc) : State :=
  s.setLamp { s.lamp with funcs := s.lamp.funcs.set f x }

theorem State.setFunc_func (s : State) (f g : Nat) (x : LampFunc) :
    (s.setFunc f x).lampFunc g = if g = f then x else s.lampFunc g := by
  unfold State.setFunc State.lampFunc
  split
  next h => exact h ▸ AMap.get_set_same _ _ _ _
  next h => exact AMap.get_set_other _ _ _ h

theorem State.fadeStep_eq (s : State) (f : Nat) : s.fadeStep f = s ∧ s.fadedFunc f = s.lampFunc f ∨
    s.fadeStep f = s.setFunc f (s.fadedFunc f) := by
  unfold State.fadeStep State.fadedFunc
  extract_lets x t o
  by_cases h : x.t < x.len
  · rw [if_pos h, if_pos h]
    exact Or.inr rfl
  · rw [if_neg h, if_neg h]
    exact Or.inl ⟨rfl, rfl⟩

theorem State.fadeStep_shown (s : State) (f : Nat) :
    (∃ m, (s.fadeStep f).lamp = { s.lamp with funcs := m }) ∧ LampStep [] s (s.fadeStep f) ∧
      ∀ g, (s.fadeStep f).lampFunc g = if g = f then s.fadedFunc f else s.lampFunc g := by
  rcases s.fadeStep_eq f with ⟨he, hsame⟩ | he
  · rw [he, hsame]
    refine ⟨⟨s.lamp.funcs, rfl⟩, .refl _ s, fun g => ?_⟩
    split
    next h => rw [h]
    · rfl
  · rw [he]
    exact ⟨⟨_, rfl⟩, .setLamp s _, fun g => s.setFunc_func f g _⟩

theorem State.fades_shown (s : State) (n : Nat) :
    let t := (List.range n).foldl State.fadeStep s
    (∃ m, t.lamp = { s.lamp with funcs := m }) ∧ LampStep [] s t ∧
      ∀ g, t.lampFunc g = if g < n then s.fadedFunc g else s.lampFunc g := by
  induction n with
  | zero => exact ⟨⟨s.lamp.funcs, rfl⟩, .refl _ s, fun g => rfl⟩
  | succ n ih =>
    simp only [List.range_succ, List.foldl_append, List.foldl_cons, List.foldl_nil]
    generalize (List.range n).foldl State.fadeStep s = u at ih
    obtain ⟨⟨m, hm⟩, hstep, hfunc⟩ := ih
    obtain ⟨⟨m', hm'⟩, hstep', hfunc'⟩ := u.fadeStep_shown n
    refine ⟨⟨m', by rw [hm', hm]⟩, hstep.trans hstep', fun g => ?_⟩
    have hsame : u.fadedFunc n = s.fadedFunc n := by
      rw [State.fadedFunc, hfunc n, if_neg (Nat.lt_irrefl n), State.isSet, hstep.rd _ (by simp), State.fadedFunc, State.isSet]
    rw [hfunc', hfunc, hsame]
    by_cases hg : g = n
    · rw [if_pos hg, if_pos (by omega), hg]
    · rw [if_neg hg]
      exact if_congr (by omega) rfl rfl

/-- The flash clock and the frame. -/
def State.lampClock (s : State) : Bool × Nat := (s.lamp.flashOn, s.lamp.frame)

/-- Functions set one after another leave the clock. -/
theorem State.setFuncs_shown (y : State → Nat → LampFunc) (l : List Nat) (s : State) :
    (l.foldl (fun s f => s.setFunc f (y s f)) s).lampClock = s.lampClock ∧
      LampStep [] s (l.foldl (fun s f => s.setFunc f (y s f)) s) := by
  refine ⟨foldl_kept State.lampClock (f := fun s f => s.setFunc f (y s f)) (fun _ _ => rfl) l s, ?_⟩
  have h := LampStep.foldl (L := fun _ => []) (fun s f => LampStep.setLamp s _) l s (f := fun s f => s.setFunc f (y s f))
  exact h.mono (by simp)

/-- What the lamp section `l` sets function `f` to. -/
def State.sectFunc (s : State) (l : List Byte) (f : Nat) : LampFunc :=
  let lev := ofOctetsLE ((l.drop (2 * f)).take 2)
  let fd := ofOctetsLE ((l.drop (64 + 2 * f)).take 2)
  let x := s.lampFunc f
  if lev = x.target then { x with fade := fd } else fadeFrom x.out lev fd

/-- The lamp section `l` taken by every function. -/
def State.sectTaken (s : State) (l : List Byte) : State :=
  (List.range 32).foldl (fun s f => s.setFunc f (s.sectFunc l f)) s

theorem foldl_fun {α β : Type} {f g : β → α → β} (h : f = g) (l : List α) (b : β) : l.foldl f b = l.foldl g b := by rw [h]

theorem State.takeSection_eq (s : State) : s.takeSection =
    if s.lamp.off then s.setLamp { s.lamp with off := false, sect := none, funcs := [] }
    else s.lamp.sect.elim s (fun l => (s.sectTaken l).setLamp { (s.sectTaken l).lamp with sect := none }) := by
  unfold State.takeSection
  split
  · rfl
  · cases s.lamp.sect with
    | none => rfl
    | some l =>
      exact congrArg (fun t : State => t.setLamp { t.lamp with sect := none })
        (foldl_fun (g := fun s f => State.setFunc s f (s.sectFunc l f)) rfl (List.range 32) s)

theorem State.takeSection_shown (s : State) : s.takeSection.lampClock = s.lampClock ∧ LampStep [] s s.takeSection := by
  rw [State.takeSection_eq]
  split
  · exact ⟨rfl, .setLamp s _⟩
  · cases s.lamp.sect with
    | none => exact ⟨rfl, .refl _ s⟩
    | some l =>
      obtain ⟨hclock, hstep⟩ := State.setFuncs_shown (fun s f => s.sectFunc l f) (List.range 32) s
      rw [← State.sectTaken] at hclock hstep
      rw [Option.elim_some]
      generalize s.sectTaken l = v at hclock hstep
      exact ⟨hclock, hstep.trans (.setLamp _ _)⟩

theorem State.takeSection_none {s : State} (hoff : s.lamp.off = false) (hsect : s.lamp.sect = none) : s.takeSection = s := by
  rw [State.takeSection_eq, hoff, hsect]
  rfl

/-- Function `f` begun anew where its group restarts (R331). -/
def State.restartFunc (s : State) (f : Nat) : State :=
  if s.lamp.restarts.contains (s.aonGroup f) then
    s.setFunc f (fadeFrom 0 (s.lampFunc f).target (s.lampFunc f).fade)
  else s

theorem State.restartFunc_shown (s : State) (f : Nat) : (s.restartFunc f).lampClock = s.lampClock ∧
    LampStep [] s (s.restartFunc f) ∧ (s.lamp.restarts = [] → s.restartFunc f = s) := by
  unfold State.restartFunc
  split
  next h => exact ⟨rfl, .setLamp s _, fun hnone => by rw [hnone] at h; exact absurd h (by simp)⟩
  next => exact ⟨rfl, .refl _ s, fun _ => rfl⟩

/-- Every function of a restarted group begun anew. -/
def State.restarted (s : State) : State := (List.range 32).foldl State.restartFunc s

theorem State.restartGroups_eq (s : State) : s.restartGroups = s.restarted.setLamp { s.restarted.lamp with restarts := [] } :=
  congrArg (fun t : State => t.setLamp { t.lamp with restarts := [] })
    (foldl_fun (g := State.restartFunc) rfl (List.range 32) s)

theorem State.restarted_shown (s : State) : s.restarted.lampClock = s.lampClock ∧ LampStep [] s s.restarted ∧
    (s.lamp.restarts = [] → s.restarted = s) := by
  have hstep := LampStep.foldl (L := fun _ => []) (fun s f => (State.restartFunc_shown s f).2.1) (List.range 32) s
  refine ⟨foldl_kept State.lampClock (f := State.restartFunc) (fun s f => (s.restartFunc_shown f).1) _ s,
    hstep.mono (by simp), fun hnone => ?_⟩
  unfold State.restarted
  generalize List.range 32 = l
  induction l with
  | nil => rfl
  | cons a l ih => rw [List.foldl_cons, (s.restartFunc_shown a).2.2 hnone, ih]

theorem State.restartGroups_shown (s : State) : s.restartGroups.lampClock = s.lampClock ∧ LampStep [] s s.restartGroups ∧
    (s.lamp.restarts = [] → ∀ f, s.restartGroups.lampFunc f = s.lampFunc f) := by
  obtain ⟨hclock, hstep, hnone⟩ := s.restarted_shown
  rw [State.restartGroups_eq]
  generalize s.restarted = v at hclock hstep hnone
  refine ⟨hclock, hstep.trans (.setLamp _ _), fun h f => ?_⟩
  rw [hnone h]
  rfl

/-! ## The groups forced off, and what the functions show -/

/-- A register of the drive below its counters. -/
def LampFld (g : Fld) : Prop := 0x400D0000 ≤ g.addr ∧ g.addr < 0x400D0800 ∧ g.lo < 32

theorem LampFld.inBlock {g : Fld} (h : LampFld g) : inBlock bLAMP g.key = true := by
  obtain ⟨hlo, hhi, hbit⟩ := h
  refine decide_eq_true ?_
  simp only [blockBase, bLAMP, blockNo, Fld.key]
  omega

theorem LampFld.pegKey {g : Fld} (h : LampFld g) : pegKey g.key = false := by
  have hevt : g.key ≠ F.HCP_EVT_STAT_DROPPED.key ∧ g.key ≠ F.HCP_EVT_STAT_PENDING.key := by
    obtain ⟨hlo, hhi, hbit⟩ := h
    simp only [Fld.key, F.HCP_EVT_STAT_DROPPED, F.HCP_EVT_STAT_PENDING]
    omega
  simp [Machine.pegKey, inBlock_of_ne (b := bLAMP) (c := bPEG) (by decide) h.inBlock,
    inBlock_of_ne (b := bLAMP) (c := bREC) (by decide) h.inBlock, hevt]

theorem LampFld.notRun {g : Fld} (h : LampFld g) : Machine.notRun g.key := by
  obtain ⟨hlo, hhi, hbit⟩ := h
  exact State.lampReg_notRun ⟨hlo, by omega, hbit⟩

theorem LampFld.ne_cnt {g : Fld} (h : LampFld g) (u i : Nat) : g.key ≠ (F.LAMP_CNT_COUNT u i).key := by
  obtain ⟨hlo, hhi, hbit⟩ := h
  simp only [Fld.key, F.LAMP_CNT_COUNT]
  omega

theorem State.aonDecide_shown (s : State) (n : Nat) : (s.aonDecide n).lamp = s.lamp ∧
    ∀ g : Fld, LampFld g → g.key ≠ F.LAMP_STATUS_AON_TRIP.key → (s.aonDecide n).rd g = s.rd g := by
  unfold State.aonDecide
  split
  · exact ⟨rfl, fun _ _ _ => rfl⟩
  · split
    · exact ⟨rfl, fun _ _ _ => rfl⟩
    next id _ =>
      extract_lets u
      have hpeg := (PegFrame.recTrigger u 0x0003 n (o1 n)).trans (PegFrame.raiseEvent _ 0x0070 (unitOf bLAMP) (o1 n))
      refine ⟨hpeg.lamp, fun g hg hne => (hpeg.rd g hg.pegKey).trans ?_⟩
      exact (State.rd_wr_other _ _ (hg.ne_cnt _ _)).trans (State.rd_wr_other _ _ hne)

theorem State.aonDecides_shown (s : State) (l : List Nat) : (l.foldl State.aonDecide s).lamp = s.lamp ∧
    ∀ g : Fld, LampFld g → g.key ≠ F.LAMP_STATUS_AON_TRIP.key → (l.foldl State.aonDecide s).rd g = s.rd g :=
  ⟨foldl_kept State.lamp (fun s n => (s.aonDecide_shown n).1) l s,
    fun g hg hne => foldl_kept (State.rd · g) (fun s n => (s.aonDecide_shown n).2 g hg hne) l s⟩

/-- OUT of function `f` as it shows. -/
def State.shownOut (s : State) (f : Nat) : Nat :=
  if bitAt (s.rd F.LAMP_STATUS_AON_TRIP) (s.aonGroup f) || (s.rd (F.LAMP_FUNC_CFG_FLASH f) == 1 && !s.lamp.flashOn) ||
      (s.rd (F.LAMP_FUNC_CFG_FLASH f) == 2 && s.lamp.flashOn) then 0
  else (s.lampFunc f).out % 2 ^ 16

/-- The registers of function `f`'s state. -/
def funcFlds (f : Nat) : List Fld :=
  [F.LAMP_FUNC_STAT_OUT f, F.LAMP_FUNC_STAT_AON_TRIP f, F.LAMP_FUNC_STAT_FADING f, F.LAMP_FUNC_STAT_MEMBER_FAULT f]

theorem State.showFunc_shown (s : State) (f : Nat) : (s.showFunc f).lamp = s.lamp ∧ LampStep (funcFlds f) s (s.showFunc f) ∧
    (s.showFunc f).rd (F.LAMP_FUNC_STAT_OUT f) = s.shownOut f := by
  unfold State.showFunc
  extract_lets x trip fl dark u v
  refine ⟨rfl, ?_, ?_⟩
  · exact (LampStep.wrOf s (by simp [funcFlds]) _).trans ((LampStep.wrOf _ (by simp [funcFlds]) _).trans
      ((LampStep.wrOf _ (by simp [funcFlds]) _).trans (LampStep.wrOf _ (by simp [funcFlds]) _)))
  · have hne : (F.LAMP_FUNC_STAT_OUT f).key ≠ (F.LAMP_FUNC_STAT_AON_TRIP f).key ∧
        (F.LAMP_FUNC_STAT_OUT f).key ≠ (F.LAMP_FUNC_STAT_FADING f).key ∧
        (F.LAMP_FUNC_STAT_OUT f).key ≠ (F.LAMP_FUNC_STAT_MEMBER_FAULT f).key := by
      simp only [Fld.key, F.LAMP_FUNC_STAT_OUT, F.LAMP_FUNC_STAT_AON_TRIP, F.LAMP_FUNC_STAT_FADING, F.LAMP_FUNC_STAT_MEMBER_FAULT]
      omega
    refine (State.rd_wr_other _ _ hne.2.2).trans ((State.rd_wr_other _ _ hne.2.1).trans ((State.rd_wr_other _ _ hne.1).trans
      ((State.rd_wr_same _ _ _).trans ?_)))
    exact apply_ite (· % 2 ^ 16) _ _ _

/-- What a function shows rests on the drive, its configuration and the groups forced off. -/
theorem State.shownOut_congr {s t : State} {f : Nat} (hlamp : t.lamp.flashOn = s.lamp.flashOn)
    (hfunc : t.lampFunc f = s.lampFunc f) (hrd : ∀ g ∈ [F.LAMP_STATUS_AON_TRIP, F.LAMP_FUNC_CFG_AON_GROUP f, F.LAMP_FUNC_CFG_FLASH f],
      t.rd g = s.rd g) : t.shownOut f = s.shownOut f := by
  rw [State.shownOut, State.aonGroup, hlamp, hfunc, hrd _ (by simp), hrd _ (by simp), hrd _ (by simp), State.shownOut,
    State.aonGroup]

/-- The registers of every function's state. -/
def allFuncFlds : List Fld := (List.range 32).flatMap funcFlds

theorem State.shownOut_of_step {l : List Fld} {s t : State} {f : Nat} (hstep : LampStep l s t) (hlamp : t.lamp.flashOn = s.lamp.flashOn)
    (hfunc : t.lampFunc f = s.lampFunc f) (hl : ∀ g ∈ [F.LAMP_STATUS_AON_TRIP, F.LAMP_FUNC_CFG_AON_GROUP f, F.LAMP_FUNC_CFG_FLASH f],
      ∀ x ∈ l, g.key ≠ x.key) : t.shownOut f = s.shownOut f :=
  State.shownOut_congr hlamp hfunc fun g hg => hstep.rd g (hl g hg)

theorem funcFlds_distinct {f n : Nat} (_hf : f < 32) :
    (∀ g ∈ [F.LAMP_STATUS_AON_TRIP, F.LAMP_FUNC_CFG_AON_GROUP f, F.LAMP_FUNC_CFG_FLASH f], ∀ x ∈ funcFlds n, g.key ≠ x.key) ∧
      (f ≠ n → ∀ x ∈ funcFlds n, (F.LAMP_FUNC_STAT_OUT f).key ≠ x.key) := by
  refine ⟨?_, fun hne => ?_⟩
  · simp only [funcFlds, List.forall_mem_cons, Fld.key, F.LAMP_STATUS_AON_TRIP, F.LAMP_FUNC_CFG_AON_GROUP,
      F.LAMP_FUNC_CFG_FLASH, F.LAMP_FUNC_STAT_OUT, F.LAMP_FUNC_STAT_AON_TRIP, F.LAMP_FUNC_STAT_FADING,
      F.LAMP_FUNC_STAT_MEMBER_FAULT, List.not_mem_nil, false_imp_iff, implies_true, and_true]
    omega
  · simp only [funcFlds, List.forall_mem_cons, Fld.key, F.LAMP_FUNC_STAT_OUT, F.LAMP_FUNC_STAT_AON_TRIP,
      F.LAMP_FUNC_STAT_FADING, F.LAMP_FUNC_STAT_MEMBER_FAULT, List.not_mem_nil, false_imp_iff, implies_true, and_true]
    omega

/-- A register below the functions' states is none of them. -/
theorem ne_allFuncFlds {g : Fld} (h : g.addr < 0x400D0480 ∧ g.lo < 32) : ∀ x ∈ allFuncFlds, g.key ≠ x.key := fun x hx => by
  obtain ⟨k, -, hx⟩ := List.mem_flatMap.mp hx
  have hall : ∀ x ∈ funcFlds k, g.key ≠ x.key := by
    simp only [funcFlds, List.forall_mem_cons, Fld.key, F.LAMP_FUNC_STAT_OUT, F.LAMP_FUNC_STAT_AON_TRIP,
      F.LAMP_FUNC_STAT_FADING, F.LAMP_FUNC_STAT_MEMBER_FAULT, List.not_mem_nil, false_imp_iff, implies_true, and_true]
    omega
  exact hall x hx

theorem State.showFuncs_shown (s : State) {n : Nat} (hn : n ≤ 32) :
    let t := (List.range n).foldl State.showFunc s
    t.lamp = s.lamp ∧ LampStep ((List.range n).flatMap funcFlds) s t ∧
      ∀ f, f < n → t.rd (F.LAMP_FUNC_STAT_OUT f) = s.shownOut f := by
  have hfold := fun n => LampStep.foldl (fun s f => (State.showFunc_shown s f).2.1) (List.range n) s
  have hlamp : ∀ n, ((List.range n).foldl State.showFunc s).lamp = s.lamp := fun n =>
    foldl_kept State.lamp (fun s f => (State.showFunc_shown s f).1) (List.range n) s
  refine ⟨hlamp n, hfold n, ?_⟩
  induction n with
  | zero => exact fun f hf => absurd hf (Nat.not_lt_zero f)
  | succ n ih =>
    intro f hf
    have hstep := hfold n
    have hl := hlamp n
    rw [List.range_succ, List.foldl_append, List.foldl_cons, List.foldl_nil]
    generalize (List.range n).foldl State.showFunc s = u at ih hstep hl
    obtain ⟨-, hlast, hout⟩ := u.showFunc_shown n
    by_cases hfn : f = n
    · rw [hfn, hout]
      refine State.shownOut_of_step hstep (by rw [hl]) (by rw [State.lampFunc, hl, State.lampFunc]) fun g hg x hx => ?_
      obtain ⟨k, -, hx⟩ := List.mem_flatMap.mp hx
      exact (funcFlds_distinct (by omega)).1 g hg x hx
    · rw [hlast.rd _ ((funcFlds_distinct (by omega)).2 hfn), ih (by omega) f (by omega)]

/-! ## What lights up -/

theorem State.lossStep_shown (s : State) (loss : Nat) : LampStep [F.LAMP_STATUS_LOSS_LIMIT] s (s.lossStep loss) ∧
    (s.lossStep loss).lampClock = s.lampClock ∧ (s.lossStep loss).lamp.funcs = s.lamp.funcs := by
  unfold State.lossStep
  extract_lets l u v
  split
  · exact ⟨(LampStep.setLamp s _).trans (LampStep.wrOf _ (by simp) _), rfl, rfl⟩
  · split
    · split
      · exact ⟨(LampStep.setLamp s _).trans ((LampStep.setLamp _ _).trans (LampStep.wrOf _ (by simp) _)), rfl, rfl⟩
      · exact ⟨LampStep.setLamp s _, rfl, rfl⟩
    · exact ⟨LampStep.setLamp s _, rfl, rfl⟩

theorem State.lightUp_shown (s : State) : LampStep [] s s.lightUp ∧ s.lightUp.lampClock = s.lampClock ∧
    s.lightUp.lamp.funcs = s.lamp.funcs ∧ (s.lampSupply = false → s.lightUp.lamp.lit = []) := by
  refine ⟨LampStep.setLamp s _, rfl, rfl, fun hdark => ?_⟩
  have hnone : ∀ l : List (Nat × Nat × Nat), l.filterMap (fun (id, f, w) =>
      let lev := s.rd (F.LAMP_FUNC_STAT_OUT f) * w / 255
      if ¬ s.lampSupply ∨ s.outputsHeld then none
      else if id < 256 then
        if s.stringUsable (id / 16) ∧ ¬ (s.lampRec id).routed ∧ 0 < lev then some (id, lev) else none
      else
        let t := s.elementTicks lev
        if s.isSet F.LAMP_CTRL_MTX_EN ∧ ¬ s.isSet F.LAMP_STATUS_MATRIX_FAULT ∧ 0 < t then some (id, t) else none) = [] := fun l =>
    List.filterMap_eq_nil_iff.mpr fun e _ => if_pos (Or.inl (by rw [hdark]; decide))
  exact congrArg (fun l : List (Nat × Nat) => l.foldl (fun (m : AMap Nat) x => m.set x.1 x.2) []) (hnone s.lampMembers)

theorem State.buckStep_shown (s : State) (k : Nat) : LampStep [F.LAMP_STR_STAT_RUNNING k] s (s.buckStep k) ∧
    (s.buckStep k).lampClock = s.lampClock ∧ (s.buckStep k).lamp.funcs = s.lamp.funcs ∧ (s.buckStep k).lamp.lit = s.lamp.lit := by
  unfold State.buckStep
  extract_lets x
  split
  · exact ⟨LampStep.wrOf s (by simp) _, rfl, rfl, rfl⟩
  · split
    · exact ⟨(LampStep.setLamp s _).trans (LampStep.wrOf _ (by simp) _), rfl, rfl, rfl⟩
    · split
      · exact ⟨LampStep.setLamp s _, rfl, rfl, rfl⟩
      · exact ⟨LampStep.wrOf s (by simp) _, rfl, rfl, rfl⟩

/-- The frame as it lights up: the loss limit, the levels, the bucks, and the frame counted. -/
def State.frameLit (s : State) (loss : Nat) : State :=
  let s := (List.range 6).foldl State.buckStep (s.lossStep loss).lightUp
  (s.setLamp { s.lamp with frame := s.lamp.frame + 1 }).emit s.lightOut

/-- The registers written as the frame lights up. -/
def litFlds : List Fld := F.LAMP_STATUS_LOSS_LIMIT :: (List.range 6).map F.LAMP_STR_STAT_RUNNING

theorem State.bucks_shown (s : State) :
    let t := (List.range 6).foldl State.buckStep s
    LampStep ((List.range 6).map F.LAMP_STR_STAT_RUNNING) s t ∧ t.lampClock = s.lampClock ∧ t.lamp.funcs = s.lamp.funcs ∧
      t.lamp.lit = s.lamp.lit :=
  ⟨(LampStep.foldl (fun s k => (State.buckStep_shown s k).1) (List.range 6) s).mono fun f hf => by
      obtain ⟨k, hk, hf⟩ := List.mem_flatMap.mp hf
      exact List.mem_map.mpr ⟨k, hk, (List.mem_singleton.mp hf).symm⟩,
    foldl_kept State.lampClock (fun s k => (State.buckStep_shown s k).2.1) _ s,
    foldl_kept (fun s => s.lamp.funcs) (fun s k => (State.buckStep_shown s k).2.2.1) _ s,
    foldl_kept (fun s => s.lamp.lit) (fun s k => (State.buckStep_shown s k).2.2.2) _ s⟩

theorem State.frameLit_shown (s : State) (loss : Nat) :
    let t := s.frameLit loss
    LampStep litFlds s t ∧ t.lamp.frame = s.lamp.frame + 1 ∧ t.lamp.flashOn = s.lamp.flashOn ∧
      (∀ f, t.lampFunc f = s.lampFunc f) ∧ (t.lampSupply = false → t.lamp.lit = []) := by
  obtain ⟨hloss, hlossClock, hlossFuncs⟩ := s.lossStep_shown loss
  obtain ⟨hup, hupClock, hupFuncs, hdark⟩ := (s.lossStep loss).lightUp_shown
  obtain ⟨hbuck, hbuckClock, hbuckFuncs, hlit⟩ := (s.lossStep loss).lightUp.bucks_shown
  unfold State.frameLit
  generalize (s.lossStep loss).lightUp = v at hup hupClock hupFuncs hdark hbuck hbuckClock hbuckFuncs hlit
  generalize s.lossStep loss = u at hloss hlossClock hlossFuncs hup hupClock hupFuncs hdark
  generalize (List.range 6).foldl State.buckStep v = w at hbuck hbuckClock hbuckFuncs hlit
  have hclock : w.lampClock = s.lampClock := hbuckClock.trans (hupClock.trans hlossClock)
  have hfuncs : w.lamp.funcs = s.lamp.funcs := hbuckFuncs.trans (hupFuncs.trans hlossFuncs)
  have hstep : LampStep litFlds s w := (hloss.mono (by simp [litFlds])).trans ((hup.mono (by simp)).trans
    (hbuck.mono fun f hf => List.mem_cons_of_mem _ hf))
  refine ⟨hstep.trans ⟨fun _ _ => rfl, rfl⟩, congrArg (fun c : Bool × Nat => c.2 + 1) hclock,
    congrArg Prod.fst hclock, fun f => congrArg (fun m : AMap LampFunc => m.get f ⟨0, 0, 0, 0, 0, 0⟩) hfuncs, fun hsupply => ?_⟩
  refine hlit.trans (hdark ?_)
  have hkeep : w.lampSupply = u.lampSupply := by
    simp only [State.lampSupply, State.isSet]
    rw [hbuck.rd _ (by decide), hbuck.rd _ (by decide), hup.rd _ (by simp), hup.rd _ (by simp)]
  exact hkeep.symm.trans hsupply

/-! ## The start of a frame -/

/-- The frame's functions: fades, the section, and the groups that restart. -/
def State.frameFuncs (s : State) : State := ((List.range 32).foldl State.fadeStep s.flashStep).takeSection.restartGroups

/-- The frame's show: the groups forced off, and what each function shows. -/
def State.frameShown (s : State) : State :=
  (List.range 32).foldl State.showFunc ([1, 2, 3, 4, 5, 6, 7].foldl State.aonDecide s)

theorem State.lampFrameStart_eq {s : State} (hrun : s.run bLAMP = true) (loss led : Nat) : s.lampFrameStart loss led =
    ((((s.frameSupplies loss led).commit bLAMP).frameFuncs).frameShown).frameLit loss := by
  unfold State.lampFrameStart
  rw [if_neg (not_not.mpr hrun)]
  rfl

theorem State.frameFuncs_shown (s : State) :
    s.frameFuncs.lamp.flashOn = s.nextFlash ∧ s.frameFuncs.lamp.frame = s.lamp.frame ∧ LampStep [] s s.frameFuncs ∧
      (s.lamp.off = false → s.lamp.sect = none → s.lamp.restarts = [] → ∀ f, f < 32 →
        s.frameFuncs.lampFunc f = s.fadedFunc f) := by
  obtain ⟨⟨n, hflash⟩, hstep⟩ := s.flashStep_shown
  unfold State.frameFuncs
  generalize s.flashStep = u at hflash hstep
  obtain ⟨⟨m, hfades⟩, hfadeStep, hfaded⟩ := u.fades_shown 32
  generalize (List.range 32).foldl State.fadeStep u = v at hfades hfadeStep hfaded
  obtain ⟨hsectClock, hsectStep⟩ := v.takeSection_shown
  have htake : v.lamp.off = false → v.lamp.sect = none → v.takeSection = v := State.takeSection_none
  generalize v.takeSection = w at hsectClock hsectStep htake
  obtain ⟨hclock, hrestart, hfuncs⟩ := w.restartGroups_shown
  generalize w.restartGroups = x at hclock hrestart hfuncs
  have hall := hclock.trans hsectClock
  refine ⟨?_, ?_, hstep.trans (hfadeStep.trans (hsectStep.trans hrestart)), fun hoff hsect hnone f hf => ?_⟩
  · refine (congrArg Prod.fst hall).trans ?_
    rw [State.lampClock, hfades, hflash]
  · refine (congrArg Prod.snd hall).trans ?_
    rw [State.lampClock, hfades, hflash]
  · have hsame : w = v := htake (by rw [hfades, hflash]; exact hoff) (by rw [hfades, hflash]; exact hsect)
    rw [hfuncs (by rw [hsame, hfades, hflash]; exact hnone), hsame, hfaded, if_pos hf, State.fadedFunc, State.lampFunc, hflash,
      State.isSet, hstep.rd _ (by simp)]
    rfl

theorem State.frameShown_shown (s : State) : s.frameShown.lamp = s.lamp ∧
    (∀ g : Fld, LampFld g → g.key ≠ F.LAMP_STATUS_AON_TRIP.key → (∀ x ∈ allFuncFlds, g.key ≠ x.key) →
      s.frameShown.rd g = s.rd g) ∧
    ∀ f, f < 32 → s.frameShown.rd (F.LAMP_FUNC_STAT_OUT f) = s.frameShown.shownOut f := by
  obtain ⟨hlamp, hrd⟩ := s.aonDecides_shown [1, 2, 3, 4, 5, 6, 7]
  unfold State.frameShown
  generalize [1, 2, 3, 4, 5, 6, 7].foldl State.aonDecide s = u at hlamp hrd
  obtain ⟨hlamp', hstep, hout⟩ := u.showFuncs_shown (Nat.le_refl 32)
  generalize (List.range 32).foldl State.showFunc u = v at hlamp' hstep hout
  refine ⟨hlamp'.trans hlamp, fun g hg hne hfuncs => (hstep.rd g hfuncs).trans (hrd g hg hne), fun f hf => ?_⟩
  rw [hout f hf]
  refine (State.shownOut_of_step hstep (by rw [hlamp']) (by rw [State.lampFunc, hlamp', State.lampFunc]) fun g hg x hx => ?_).symm
  obtain ⟨k, -, hx⟩ := List.mem_flatMap.mp hx
  exact (funcFlds_distinct hf).1 g hg x hx

theorem exec_lampFrameStart (loss led : BitVec 16) (s : State) :
    exec (.lampFrameStart loss led) s = .next (s.ended (s.lampFrameStart loss.toNat led.toNat)) := by
  rw [show exec (.lampFrameStart loss led) s = finish s (s.lampFrameStart loss.toNat led.toNat) from rfl, finish_ended]

/-- What the start of a frame shows, before the command ends. -/
theorem State.lampFrameStart_shown {s : State} (hrun : s.run bLAMP = true) (hpend : s.pendingIn bLAMP = false) {loss led : Nat}
    (hloss : loss < 2 ^ 16) (hled : led < 2 ^ 16) :
    let t := s.lampFrameStart loss led
    t.rd F.LAMP_SUPPLY_LOSS = loss ∧ t.rd F.LAMP_SUPPLY_LED_IN = led ∧ t.lamp.frame = s.lamp.frame + 1 ∧
      t.lamp.flashOn = s.nextFlash ∧
      (∀ f, f < 32 → s.lamp.off = false → s.lamp.sect = none → s.lamp.restarts = [] → t.lampFunc f = s.fadedFunc f) ∧
      (∀ f, f < 32 → t.rd (F.LAMP_FUNC_STAT_OUT f) = t.shownOut f) ∧ (t.lampSupply = false → t.lamp.lit = []) := by
  obtain ⟨hl, hi, ⟨b, hlamp⟩, hsh, hsup⟩ := s.frameSupplies_shown hloss hled
  rw [State.lampFrameStart_eq hrun]
  generalize s.frameSupplies loss led = u at hl hi hlamp hsh hsup
  have hcommit : u.commit bLAMP = u := State.commit_of_no_due (by rw [hsh]; exact State.due_of_pendingIn hpend)
  rw [hcommit]
  obtain ⟨hflash, hframe, hfuncStep, hfaded⟩ := u.frameFuncs_shown
  generalize u.frameFuncs = v at hflash hframe hfuncStep hfaded
  obtain ⟨hshownLamp, hshownRd, hout⟩ := v.frameShown_shown
  generalize v.frameShown = w at hshownLamp hshownRd hout
  obtain ⟨hlit, hcount, hclock, hfunc, hdark⟩ := w.frameLit_shown loss
  generalize w.frameLit loss = t at hlit hcount hclock hfunc hdark
  have hsupply : ∀ g ∈ [F.LAMP_SUPPLY_LOSS, F.LAMP_SUPPLY_LED_IN], t.rd g = u.rd g := fun g hg => by
    have hne := (by decide : ∀ g ∈ [F.LAMP_SUPPLY_LOSS, F.LAMP_SUPPLY_LED_IN],
      (∀ x ∈ litFlds, g.key ≠ x.key) ∧ (0x400D0000 ≤ g.addr ∧ g.addr < 0x400D0800 ∧ g.lo < 32) ∧
        g.key ≠ F.LAMP_STATUS_AON_TRIP.key ∧ g.addr < 0x400D0480) g hg
    obtain ⟨hnelit, hfld, htrip, hbelow⟩ := hne
    rw [hlit.rd g hnelit, hshownRd g hfld htrip (ne_allFuncFlds ⟨hbelow, hfld.2.2⟩), hfuncStep.rd g (by simp)]
  refine ⟨?_, ?_, ?_, ?_, fun f hf hoff hsect hnone => ?_, fun f hf => ?_, hdark⟩
  · rw [hsupply _ (by simp), hl]
  · rw [hsupply _ (by simp), hi]
  · rw [hcount, hshownLamp, hframe, hlamp]
  · rw [hclock, hshownLamp, hflash, State.nextFlash, hlamp, State.nextFlash]
  · have hcurve : u.rd (F.LAMP_FUNC_CFG_CURVE f) = s.rd (F.LAMP_FUNC_CFG_CURVE f) := hsup.rd _ ((by decide : ∀ f : Fin 32,
      ∀ x ∈ [F.LAMP_SUPPLY_LOSS, F.LAMP_SUPPLY_LED_IN, F.LAMP_STATUS_SUPPLY_LOW], (F.LAMP_FUNC_CFG_CURVE f).key ≠ x.key) ⟨f, hf⟩)
    have hsame : u.lampFunc f = s.lampFunc f := by rw [State.lampFunc, hlamp, State.lampFunc]
    rw [hfunc f, State.lampFunc, hshownLamp, ← State.lampFunc, hfaded (by rw [hlamp]; exact hoff) (by rw [hlamp]; exact hsect)
      (by rw [hlamp]; exact hnone) f hf, State.fadedFunc, State.fadedFunc, hsame, State.isSet, hcurve, State.isSet]
  · have hne : ∀ g ∈ [F.LAMP_FUNC_STAT_OUT f, F.LAMP_STATUS_AON_TRIP, F.LAMP_FUNC_CFG_AON_GROUP f, F.LAMP_FUNC_CFG_FLASH f],
        ∀ x ∈ litFlds, g.key ≠ x.key :=
      (by decide : ∀ f : Fin 32, ∀ g ∈ [F.LAMP_FUNC_STAT_OUT f, F.LAMP_STATUS_AON_TRIP, F.LAMP_FUNC_CFG_AON_GROUP f,
        F.LAMP_FUNC_CFG_FLASH f], ∀ x ∈ litFlds, g.key ≠ x.key) ⟨f, hf⟩
    rw [hlit.rd _ (hne _ List.mem_cons_self), hout f hf]
    exact (State.shownOut_of_step hlit hclock (hfunc f) fun g hg => hne g (List.mem_cons_of_mem _ hg)).symm

theorem lampFrameStart_starts (loss led : BitVec 16) (s : State) (hrun : s.run bLAMP = true)
    (hpend : s.pendingIn bLAMP = false) :
    ∃ t, exec (.lampFrameStart loss led) s = .next t ∧
      t.rd F.LAMP_SUPPLY_LOSS = loss.toNat ∧ t.rd F.LAMP_SUPPLY_LED_IN = led.toNat ∧ t.lamp.frame = s.lamp.frame + 1 ∧
      t.lamp.flashOn = (if s.lamp.frame = 0 ∨ 1 < s.lamp.flashLeft then s.lamp.flashOn else !s.lamp.flashOn) ∧
      (∀ f, f < 32 → s.lamp.off = false → s.lamp.sect = none → s.lamp.restarts = [] →
        (s.lampFunc f).t < (s.lampFunc f).len → (t.lampFunc f).t = (s.lampFunc f).t + 1 ∧
          (t.lampFunc f).out = fadeOut (s.isSet (F.LAMP_FUNC_CFG_CURVE f)) (s.lampFunc f).base (s.lampFunc f).target
            ((s.lampFunc f).t + 1) (s.lampFunc f).len) ∧
      (∀ f, f < 32 → t.rd (F.LAMP_FUNC_STAT_OUT f) =
        if bitAt (t.rd F.LAMP_STATUS_AON_TRIP) (t.aonGroup f) = true ∨
            (t.rd (F.LAMP_FUNC_CFG_FLASH f) = 1 ∧ t.lamp.flashOn = false) ∨
            (t.rd (F.LAMP_FUNC_CFG_FLASH f) = 2 ∧ t.lamp.flashOn = true) then 0
        else (t.lampFunc f).out % 2 ^ 16) ∧
      (t.lampSupply = false → t.lamp.lit = []) := by
  obtain ⟨hl, hi, hframe, hflash, hfaded, hout, hdark⟩ := State.lampFrameStart_shown hrun hpend loss.isLt led.isLt
  refine ⟨_, exec_lampFrameStart loss led s, ?_⟩
  generalize s.lampFrameStart loss.toNat led.toNat = u at hl hi hframe hflash hfaded hout hdark
  have hlamp : (s.ended u).lamp = u.lamp := State.ended_lamp _ _
  have hfunc : ∀ f, (s.ended u).lampFunc f = u.lampFunc f := fun f => by rw [State.lampFunc, hlamp, State.lampFunc]
  have hrd : ∀ g : Fld, notRun g.key → (s.ended u).rd g = u.rd g := fun g hg => State.ended_rd _ _ hg
  refine ⟨?_, ?_, ?_, ?_, fun f hf hoff hsect hnone hlt => ?_, fun f hf => ?_, fun hsupply => ?_⟩
  · rw [hrd _ (Fld.notRun (by decide)), hl]
  · rw [hrd _ (Fld.notRun (by decide)), hi]
  · rw [hlamp, hframe]
  · rw [hlamp, hflash, State.nextFlash]
  · rw [hfunc, hfaded f hf hoff hsect hnone, State.fadedFunc, if_pos hlt]
    exact ⟨rfl, rfl⟩
  · have hflds := (by decide : ∀ f : Fin 32, ∀ g ∈ [F.LAMP_FUNC_STAT_OUT f, F.LAMP_STATUS_AON_TRIP, F.LAMP_FUNC_CFG_AON_GROUP f,
      F.LAMP_FUNC_CFG_FLASH f], g.addr % 0x10000 ≠ 0xFF00 ∧ g.lo < 32) ⟨f, hf⟩
    have hkeep : (s.ended u).shownOut f = u.shownOut f := State.shownOut_congr (by rw [hlamp]) (hfunc f)
      fun g hg => hrd g (Fld.notRun (hflds g (List.mem_cons_of_mem _ hg)))
    rw [hrd _ (Fld.notRun (hflds _ List.mem_cons_self)), hout f hf, ← hkeep, State.shownOut]
    refine if_congr ?_ rfl rfl
    simp only [Bool.or_eq_true, Bool.and_eq_true, beq_iff_eq, Bool.not_eq_true', or_assoc]
  · rw [hlamp]
    refine hdark ?_
    rw [State.lampSupply, State.isSet, State.isSet, hrd _ (Fld.notRun (by decide)), hrd _ (Fld.notRun (by decide))] at hsupply
    exact hsupply

/-- Settles O40: the frame's start by its stages in order, its end by the fold over the lamps that shone, a reading by how it
is judged, and an open lamp by the one with the highest voltage. -/
theorem lampFramesAndMeasurements : Obligations.LampFramesAndMeasurements := by
  refine ⟨lampFrameStart_starts, lampFrameEnd_counts, fun id volt h r s hrun hlit hmeas =>
    ⟨fun l a n rest hid hl hticks hn hrunning => ⟨fun hvolt hmin hmax => ?_, fun hvolt hshort hnot => ?_⟩,
      fun hid hholds hopenRun hnot => ?_⟩,
    fun k vs clamp s hrun hrunning => ⟨fun i hi hmax hcrit => ?_, fun hmax hclamp => ?_⟩,
    fun k vs us s hrun hrunning hrouted hus => ⟨fun i hi hmax => ?_, fun hmax => ?_⟩⟩
  · exact lampMeasure_good id volt h r hrun hmeas hid hl hticks hn hrunning hvolt hmin hmax
  · exact lampMeasure_short id volt h r hrun hmeas hid hl hticks hn hrunning hvolt hshort hnot
  · rw [hholds]
    exact lampMeasure_elementOpen id volt r hrun hmeas hlit hid hopenRun hnot
  · exact lampOpenDetect_opens k vs hrun hrunning clamp hi hmax hcrit
  · rw [hclamp]
    exact lampOpenDetect_lastOpens k vs hrun hrunning hmax
  · exact clampPersist_opens k vs hrun hrunning hrouted hus hi hmax
  · exact clampPersist_lastOpens k vs hrun hrunning hrouted hus hmax

end Sys2Proof.Machine
end

section
/-!
PROOFS. Steps that write within one block, commit points, and what a packet put by any port leaves.
-/
namespace Sys2Proof.Machine

/-! ## Within one block -/

/-- From `s` to `t` no register outside block `b` changes. -/
def State.OnlyBlock (b : Nat) (s t : State) : Prop := ∀ g : Fld, inBlock b g.key = false → t.rd g = s.rd g

namespace State.OnlyBlock

section
variable {b : Nat} {s t u : State}

theorem refl (b : Nat) (s : State) : s.OnlyBlock b s := fun _ _ => rfl

theorem trans (h : s.OnlyBlock b t) (k : t.OnlyBlock b u) : s.OnlyBlock b u := fun g hg => (k g hg).trans (h g hg)

theorem wr (s : State) {f : Fld} (hf : inBlock b f.key = true) (v : Nat) : s.OnlyBlock b (s.wr f v) := fun _ hg =>
  s.rd_wr_other v (key_ne_of_inBlock hg hf)

theorem foldl {α : Type} {f : State → α → State} (l : List α) (hf : ∀ s : State, ∀ a ∈ l, s.OnlyBlock b (f s a)) (s : State) :
    s.OnlyBlock b (l.foldl f s) := by
  induction l generalizing s with
  | nil => exact refl b s
  | cons a l ih => exact (hf s a List.mem_cons_self).trans (ih (fun s a ha => hf s a (List.mem_cons_of_mem _ ha)) _)

theorem kept (h : s.OnlyBlock b t) : BlocksKept [b] s (s.ended t) :=
  State.ended_blocksKept fun g hg => h g (hg b (List.mem_singleton_self b))

end

theorem applyShadow {b : Nat} (s : State) {e : Nat × Nat} (he : inBlock b e.1 = true) : s.OnlyBlock b (s.applyShadow e) :=
  fun g hg => AMap.get_set_other _ _ _ fun heq => by
    rw [heq, he] at hg
    exact absurd hg (by decide)

/-- A commit point applies what the block's own shadow holds. -/
theorem commitSel {b : Nat} (s : State) (sel : Nat → Bool) (hcnt : inBlock b (F.SHADOW_COMMIT_CNT b).key = true) :
    s.OnlyBlock b (s.commitSel b sel) := by
  unfold State.commitSel
  extract_lets due
  split
  · exact refl b s
  · refine (foldl due (fun s e he => applyShadow s ?_) s).trans (wr _ hcnt _)
    exact (Bool.and_eq_true_iff.mp (List.mem_filter.mp he).2).1

end State.OnlyBlock

/-- What neither a field applied nor a count of commits changes, a commit point keeps. -/
theorem State.commitSel_kept {α : Type} (p : State → α) (happly : ∀ (s : State) (e : Nat × Nat), p (s.applyShadow e) = p s)
    (hwr : ∀ (s : State) (f : Fld) (v : Nat), p (s.wr f v) = p s) (s : State) (b : Nat) (sel : Nat → Bool) :
    p (s.commitSel b sel) = p s := by
  unfold State.commitSel
  extract_lets due
  split
  · rfl
  · exact (hwr _ _ _).trans (foldl_kept p happly due s)

/-- With nothing pending, a commit point applies nothing. -/
theorem State.commitSel_of_pendingIn {s : State} {b : Nat} (h : s.pendingIn b = false) (sel : Nat → Bool) :
    s.commitSel b sel = s := by
  unfold State.commitSel
  rw [if_pos (Or.inr ?_)]
  rw [List.filter_eq_nil_iff]
  intro e he
  rw [Bool.and_eq_true, not_and]
  exact fun hin => absurd hin (by simpa using List.any_eq_false.mp h e he)

/-! ## A command row's write -/

/-- A command row's write of a register that stores nothing, in a block where a write is a commit point: what the word orders
is done after it. -/
theorem State.rowWrite_after (s : State) {req a v : Nat} {x : WriteMore} {b off : Nat} {r : RegDef} {ix : List Nat}
    (hup : s.addrUp a = true) (hal : a % 4 = 0) (hb : regBlock a = some (b, off)) (hl : lookupReg a = some (r, ix))
    (h : r.flds.all (fun f => f.acc == .wo || f.acc == .ro || f.acc == .rov) = true)
    (htag : r.written.all (fun f => f.tag != .s) = true)
    (hchk : r.written.all (fun f => chkField f.chk f.width (bits v f.lo f.width) == (true, true)) = true)
    (hlim : State.limits s (s.ahead b) b r.off (ix.headD 0) = true) (hown : s.ownLimit req b r.off v = true)
    (hb' : b ∉ [bPEG, bREC, bRTC, bRINGA, bRINGB]) :
    s.rowWrite req a v x =
      (State.regAct (s.afterWrite s req b r.off (ix.headD 0)) req b r.off (ix.headD 0) v x).2.answer req a
        (State.regAct (s.afterWrite s req b r.off (ix.headD 0)) req b r.off (ix.headD 0) v x).1 0 := by
  simp only [List.mem_cons, List.not_mem_nil, or_false, not_or] at hb'
  obtain ⟨hpeg, hrec, hrtc, hA, hB⟩ := hb'
  unfold State.rowWrite
  rw [State.regWrite_accept s hup hal hb hl (fun hc => hpeg hc.1)
    (State.writeReason_none s req a b r ix v h htag hchk (fun hc => hrec hc.1) hlim hown)]
  unfold State.applyWrite
  simp only [if_neg (fun hc : b = bRTC ∧ _ => hrtc hc.1),
    if_neg (fun hc : (b = bRINGA ∨ b = bRINGB) ∧ _ => hc.1.elim hA hB), State.putFields_none s req a b r ix _ h]

end Sys2Proof.Machine
end

section
/-!
PROOFS. A capture whose feeder's Course is named by a number beyond the Courses (R264, R20).
-/
namespace Sys2Proof.Machine

/-- A carrier frame is being captured on feeder 0, whose Course 1 is replaced by one of number 0x2C040: what would be its ROLE is
the STATE of feeder 0, and what would be its domain's STATE a register of the scan engine. -/
def farCourse : State :=
  let s := resetWith [(F.STATE_RUN bSOUND, 1), (F.PWR_DOM_STATE_STATE 37, domOn), (F.PWR_DOM_STATE_STATE 24, domOn),
    (F.SOUND_FDR_STAT_STATE 0, 2), (F.PWR_DOM_STATE_STATE 0x2C040, domOn)]
  { s with sys := { s.sys with subst := [(1, 0x2C040)] }, sound := { s.sound with carrying := [0] } }

theorem farCourse_captures : farCourse.run bSOUND = true ∧ farCourse.frontOn (0 : Fin 12) = true ∧
    farCourse.pendingIn bSOUND = false ∧ farCourse.capturingOf (0 : Fin 12) (b2n false) = true ∧
    farCourse.feederState (0 : Fin 12) 200 0 < 2 ∧ (farCourse.soundCourse (0 : Fin 12)).isSome = true ∧
    farCourse.isOn 24 = true ∧ (farCourse.sound.rings.get (0 : Fin 12) []).length < 64 := by
  decide +kernel

/-- STATE is written before the Course is asked for, and the capture finds none. -/
theorem farCourse_unserved :
    (farCourse.captureComplete (0 : Fin 12) (b2n false) [] [] 200 0 false false false).sound.rings.get (0 : Fin 12) [] = [] := by
  decide +kernel

/-- Refutes O31: the first clause lets a capture join its ring wherever the feeder has a Course before it, for every map of
substitutions; in `farCourse` the write of the feeder's own STATE takes that Course away. -/
theorem not_soundingCommands : ¬ Obligations.SoundingCommands := by
  rintro ⟨hcapture, -⟩
  obtain ⟨hrun, hfront, hpend, hcap, hst, hcourse, hon, hroom⟩ := farCourse_captures
  obtain ⟨t, hexec, hring, -⟩ :=
    (hcapture 0 false [] [] 200 0 farCourse hrun hfront hpend hcap).1 hst hcourse hon hroom
  obtain rfl := eq_ended_of_finish hexec
  rw [State.ended_sound, farCourse_unserved] at hring
  exact absurd hring.symm (by simp)

end Sys2Proof.Machine
end

section
/-!
PROOFS. Cycles that begin, starts that are skipped, and trips to FAULT (R278, R279, R282, R293, R294).
-/
namespace Sys2Proof.Machine

/-! ## The input latch (R282 to R285) -/

/-- From `s` to `t` registers stay, and of the memory nothing below the node input entries changes. -/
structure NodeEntriesWritten (s t : State) : Prop where
  regs : t.regs = s.regs
  below : ∀ x, x < 0x00501000 → t.mem.read x = s.mem.read x

namespace NodeEntriesWritten
variable {s t u : State}

theorem refl (s : State) : NodeEntriesWritten s s := ⟨rfl, fun _ _ => rfl⟩

theorem trans (h : NodeEntriesWritten s t) (k : NodeEntriesWritten t u) : NodeEntriesWritten s u :=
  ⟨k.regs.trans h.regs, fun x hx => (k.below x hx).trans (h.below x hx)⟩

theorem wrOctets (s : State) {a : Nat} (ha : 0x00501000 ≤ a) (l : List Byte) : NodeEntriesWritten s (s.wrOctets a l) :=
  ⟨rfl, fun x hx => Memory.read_writeL_other l s.mem a x (Or.inl (by omega))⟩

theorem wrMem (s : State) {a : Nat} (ha : 0x00501000 ≤ a) (n v : Nat) : NodeEntriesWritten s (s.wrMem a n v) :=
  ⟨rfl, fun _ hx => s.mem.read_writeLE_other v (Or.inl (by omega))⟩

theorem latchNode (s : State) (never : Bool) (e : Nat) : NodeEntriesWritten s (s.latchNode never e) := by
  unfold State.latchNode
  extract_lets a radio p
  have ha : 0x00501000 ≤ a := Nat.le_add_right _ _
  have hflags (t : State) (l : List Byte) : NodeEntriesWritten t (t.wrOctets (a + 12) l) := wrOctets t (by omega) l
  split
  · exact wrOctets s ha _
  · split
    · exact hflags s _
    · split
      · exact hflags s _
      · exact (wrMem s ha _ _).trans (hflags _ _)

theorem foldl {α : Type} {f : State → α → State} (hf : ∀ s a, NodeEntriesWritten s (f s a)) (l : List α) (s : State) :
    NodeEntriesWritten s (l.foldl f s) := by
  induction l generalizing s with
  | nil => exact refl s
  | cons a l ih => exact (hf s a).trans (ih _)

end NodeEntriesWritten

theorem Memory.length_readN (m : Memory) (a n : Nat) : (m.readN a n).length = n := by
  induction n generalizing a with
  | zero => rfl
  | succ n ih => rw [Memory.readN, List.length_cons, ih]

theorem Memory.readN_append (m : Memory) (a n k : Nat) : m.readN a (n + k) = m.readN a n ++ m.readN (a + n) k := by
  induction n generalizing a with
  | zero => rw [Nat.zero_add, Nat.add_zero, Memory.readN, List.nil_append]
  | succ n ih =>
    rw [Nat.add_right_comm, Memory.readN, Memory.readN, ih, List.cons_append, Nat.add_assoc a 1 n, Nat.add_comm 1 n]

/-- Octets of which the first `n` are `v`'s, stored at `a`, read there as `v`. -/
theorem Memory.readLE_writeL_octetsLE (m : Memory) (a n v : Nat) (l : List Byte) :
    (m.writeL a (octetsLE n v ++ l)).readLE a n = v % 2 ^ (8 * n) := by
  have hall := Memory.readN_writeL (octetsLE n v ++ l) m a
  have hlen : (octetsLE n v).length = n := length_octetsLE n v
  rw [List.length_append, hlen, Memory.readN_append] at hall
  have hhead := List.append_inj_left hall (by rw [Memory.length_readN, hlen])
  rw [Memory.readLE, hhead, ofOctetsLE_octetsLE]

theorem State.sampleIo_regs (s : State) (io : IoPins) : (s.sampleIo io).regs = s.regs := rfl

theorem State.rd_of_regs {s t : State} (h : t.regs = s.regs) (g : Fld) : t.rd g = s.rd g := by rw [State.rd, State.rd, h]

/-- The latch writes memory and the count of latched nodes; the image begins with the inputs. -/
theorem State.latchInputs_eq (s : State) (n t : Nat) :
    ∃ (u : State) (v : Nat), s.latchInputs n t = u.wr F.SCAN_NODE_CFG_LATCHED v ∧ u.regs = s.regs ∧
      u.rdMem 0x00500000 4 = s.io.di % 2 ^ 32 := by
  unfold State.latchInputs
  extract_lets fl l loc img s1 never nodes s2
  have h : NodeEntriesWritten s1 s2 := NodeEntriesWritten.foldl (fun s e => NodeEntriesWritten.latchNode s never e) _ s1
  refine ⟨s2, _, rfl, h.regs.trans (s.wrOctets_regs _ _), ?_⟩
  have hread : s2.rdMem 0x00500000 4 = s1.rdMem 0x00500000 4 :=
    congrArg ofOctetsLE (Memory.readN_congr fun x _ hx => h.below x (by omega))
  rw [hread]
  simp only [s1, State.wrOctets, State.rdMem, img, List.append_assoc]
  exact Memory.readLE_writeL_octetsLE _ _ 4 _ _

/-! ## A cycle begins (R279) -/

theorem State.OnlyBlock.setScan (b : Nat) (s : State) (x : ScanState) : s.OnlyBlock b (s.setScan x) := fun _ _ => rfl

/-- In `t` a cycle of task `n` stands at its entry with cleared execution state, nothing waits, and the inputs are `di`. -/
def CycleBegun (s : State) (n di : Nat) (t : State) : Prop :=
  t.scan.latch = none ∧ t.rdMem 0x00500000 4 = di % 2 ^ 32 ∧ s.OnlyBlock bSCAN t ∧
    ∃ y, t.scan.cyc = some y ∧ y.task = n ∧ y.pc = s.rd (F.SCAN_TASK_CFG_ENTRY n) ∧ y.acc = 0 ∧ y.c = false ∧ y.ov = false ∧
      y.p = 0 ∧ y.stack = [] ∧ y.sends = []

/-- The delay register of task `n` is the scan engine's, and is not its configuration. -/
theorem taskDelay_key {n : Nat} (hn : n < 16) {f : Fld} (haddr : f.addr = 0x400C02C0 + 4 * n) (hlo : f.lo < 32) :
    inBlock bSCAN f.key = true ∧ (F.SCAN_TASK_CFG_ENTRY n).key ≠ f.key := by
  refine ⟨decide_eq_true ?_, ?_⟩
  · simp only [blockBase, bSCAN, blockNo, Fld.key, haddr]
    omega
  · simp only [F.SCAN_TASK_CFG_ENTRY, Fld.key, haddr]
    omega

theorem State.beginCycle_begun (s : State) {n : Nat} (hn : n < 16) (due : Nat) (io : IoPins) :
    CycleBegun s n io.di.toNat (s.beginCycle n due io) := by
  unfold State.beginCycle
  extract_lets s1 t s2 y
  obtain ⟨hlastIn, hlastNe⟩ := taskDelay_key hn (f := F.SCAN_TASK_DELAY_LAST n) rfl (by decide : 0 < 32)
  obtain ⟨hmaxIn, hmaxNe⟩ := taskDelay_key hn (f := F.SCAN_TASK_DELAY_MAX n) rfl (by decide : 16 < 32)
  have hdelay : s.OnlyBlock bSCAN s1 := (State.OnlyBlock.wr s hlastIn _).trans (State.OnlyBlock.wr _ hmaxIn _)
  have hentry : s1.rd (F.SCAN_TASK_CFG_ENTRY n) = s.rd (F.SCAN_TASK_CFG_ENTRY n) :=
    (State.rd_wr_other _ _ hmaxNe).trans (s.rd_wr_other _ hlastNe)
  obtain ⟨u, v, heq, hsame, hdi⟩ := (s1.sampleIo io).latchInputs_eq n t
  have hsame (g : Fld) : u.rd g = s1.rd g := State.rd_of_regs (hsame.trans (s1.sampleIo_regs io)) g
  have hregs : s1.OnlyBlock bSCAN s2 := by
    rw [show s2 = _ from heq]
    exact State.OnlyBlock.trans (fun g _ => hsame g) (State.OnlyBlock.wr u (by decide) v)
  have hentry2 : s2.rd (F.SCAN_TASK_CFG_ENTRY n) = s1.rd (F.SCAN_TASK_CFG_ENTRY n) := by
    rw [show s2 = _ from heq]
    refine (State.rd_wr_other u v ?_).trans (hsame _)
    simp only [F.SCAN_TASK_CFG_ENTRY, F.SCAN_NODE_CFG_LATCHED, Fld.key]
    omega
  have hmem : s2.rdMem 0x00500000 4 = io.di.toNat % 2 ^ 32 := by
    rw [show s2 = _ from heq]
    exact hdi
  clear_value s2
  refine ⟨rfl, ?_, (hdelay.trans hregs).trans (State.OnlyBlock.setScan _ s2 _), y, rfl, rfl, hentry2.trans hentry, rfl, rfl, rfl, rfl, rfl, rfl⟩
  rw [State.setScan_rdMem, hmem]

/-- The task found due is one of those asked. -/
theorem State.firstDue_task {s : State} {l : List Nat} {n : Nat} {x : Int × Int}
    (h : l.findSome? (fun n => (s.firstDue n).map (fun x => (n, x))) = some (n, x)) : n ∈ l := by
  obtain ⟨m, hm, hx⟩ := List.exists_of_findSome?_eq_some h
  obtain ⟨z, -, hz⟩ := Option.map_eq_some_iff.mp hx
  cases hz
  exact hm

/-- The start of `n` as it is recorded before the cycle begins or waits. -/
def State.startNoted (s : State) (n : Nat) (k w : Int) (d : Due) (r : TaskPace) : State :=
  let due := ((s.sys.refTick : Int) - w).toNat
  let seen := if r.pace = d.pace then max r.seen k else k
  s.setScan { s.scan with paces := s.scan.paces.set n ⟨d.pace, seen, none, due, false⟩ }

theorem State.taskStart_eq {s : State} (io : IoPins) {n : Nat} {k w : Int} {d : Due} {r : TaskPace} (hmode : s.scanMode = mRun)
    (hcyc : s.scan.cyc = none) (hlatch : s.scan.latch = none)
    (hfirst : (List.range 16).findSome? (fun n => (s.firstDue n).map (fun x => (n, x))) = some (n, (k, w)))
    (hdue : s.dueOf n = some d) (hpace : s.scan.paces.find n = some r) :
    s.taskStart io =
      if s.latchTime then (s.startNoted n k w d r).beginCycle n ((s.sys.refTick : Int) - w).toNat io
      else (s.startNoted n k w d r).setScan
        { (s.startNoted n k w d r).scan with latch := some (n, ((s.sys.refTick : Int) - w).toNat) } := by
  unfold State.taskStart
  rw [if_neg (by simp [hmode, hcyc, hlatch])]
  simp only [hfirst, hdue, hpace]
  rfl

theorem State.latchWaitEnd_eq {s : State} (io : IoPins) {n due : Nat} (hlatch : s.scan.latch = some (n, due))
    (hmode : s.scanMode = mRun) (hwait : s.sfRun = false ∨ (60000 ≤ s.tb2Ns % 10000000 ∧ s.latchTime = true)) :
    s.latchWaitEnd io = s.beginCycle n due io := by
  unfold State.latchWaitEnd
  simp only [hlatch]
  exact if_pos ⟨hmode, hwait.imp (fun h => by simp [h]) id⟩

/-! ## Trips to FAULT (R294) -/

/-- The engine as a trip records it, before outputs go to their safe values. -/
def State.tripped (s : State) (n cause : Nat) : State :=
  (((s.dropCycle.setScanMode mFault).incSat F.SCAN_FAULT_TRIPS).wr F.SCAN_FAULT_CAUSE cause).wr F.SCAN_FAULT_TASK n

theorem ScanKept.scanTrip (s : State) (n cause : Nat) : ScanKept (s.tripped n cause) (s.scanTrip n cause) :=
  (ScanKept.driveSafe _).trans
    (ScanKept.of_pegFrame ((PegFrame.recTrigger _ _ _ _).trans (PegFrame.raiseEvent _ _ _ _)))

theorem State.setScanMode_rd (s : State) (m : Nat) {g : Fld} (h : ∀ f ∈ [F.SCAN_MODE_MODE, F.STATE_RUN bSCAN, F.SCAN_HOLD_ACC_ACC,
    F.SCAN_HOLD_P_P, F.SCAN_HOLD_LOGIC_STACK, F.SCAN_HOLD_LOGIC_DEPTH, F.SCAN_HOLD_LOGIC_OV, F.SCAN_HOLD_LOGIC_C], g.key ≠ f.key) :
    (s.setScanMode m).rd g = s.rd g := by
  simp only [List.forall_mem_cons, List.not_mem_nil, false_imp_iff, implies_true, and_true] at h
  obtain ⟨h0, h1, h2, h3, h4, h5, h6, h7⟩ := h
  simp only [State.setScanMode, State.showHold, State.wrB, State.rd_wr_other, h0, h1, h2, h3, h4, h5, h6, h7, ne_eq,
    not_false_eq_true]

theorem State.setScanMode_mode (s : State) {m : Nat} (hm : m < 8) : (s.setScanMode m).scanMode = m := by
  simp (disch := decide) only [State.scanMode, State.setScanMode, State.showHold, State.wrB, State.rd_wr_other,
    State.rd_wr_same]
  exact Nat.mod_eq_of_lt hm

/-- What a trip shows (R294). -/
theorem State.scanTrip_shown (s : State) {n cause : Nat} (hcause : cause < 16) :
    (s.scanTrip n cause).scanMode = mFault ∧ (s.scanTrip n cause).rd F.SCAN_FAULT_CAUSE = cause ∧
      (s.scanTrip n cause).rd F.SCAN_FAULT_TASK = n % 16 ∧
      (s.scanTrip n cause).rd F.SCAN_FAULT_TRIPS = satInc 255 (s.rd F.SCAN_FAULT_TRIPS) % 2 ^ 8 := by
  have hkept (g : Fld) (hg : inBlock bSCAN g.key = true) := (ScanKept.scanTrip s n cause).rd g hg
  have htrips : (s.dropCycle.setScanMode mFault).rd F.SCAN_FAULT_TRIPS = s.rd F.SCAN_FAULT_TRIPS :=
    State.setScanMode_rd _ _ (by decide)
  refine ⟨?_, ?_, ?_, ?_⟩
  · refine (hkept F.SCAN_MODE_MODE (by decide)).trans ?_
    simp (disch := decide) only [State.tripped, State.incSat, State.rd_wr_other]
    exact State.setScanMode_mode _ (by decide)
  · refine (hkept _ (by decide)).trans ?_
    simp (disch := decide) only [State.tripped, State.incSat, State.rd_wr_other]
    exact State.rd_wr_fits _ _ hcause
  · exact (hkept _ (by decide)).trans (State.rd_wr_same _ _ _)
  · refine (hkept _ (by decide)).trans ?_
    simp (disch := decide) only [State.tripped, State.incSat, State.rd_wr_other, State.rd_wr_same, htrips]
    rfl

/-! ## A start is skipped (R294) -/

/-- The engine once the skipped start of task `n` is counted. -/
def State.skipCounted (s : State) (n : Nat) (r : TaskPace) : State :=
  ((s.setScan { s.scan with paces := s.scan.paces.set n r }).inc (F.SCAN_TASK_STAT_OVERRUNS n)).wr (F.SCAN_TASK_STAT_OVR n) 1

/-- What an overrun records and reports beyond its count leaves the engine's registers and paces. -/
theorem State.taskOverrun_kept {s : State} {n : Nat} {r : TaskPace} (hmode : s.scanMode = mRun)
    (hord : s.isSet (F.SCAN_TASK_CFG_GUARDED n) = false) (hskip : s.skipDue n = some r) :
    (∀ g : Fld, inBlock bSCAN g.key = true → (s.taskOverrun n).rd g = (s.skipCounted n r).rd g) ∧
      (s.taskOverrun n).scan.paces = (s.skipCounted n r).scan.paces := by
  unfold State.taskOverrun
  rw [if_neg (by simp [hmode, hord])]
  split
  case h_1 hnone => exact absurd (hskip.symm.trans hnone) (by simp)
  case h_2 r' hsome =>
  obtain rfl : r' = r := Option.some.inj (hsome.symm.trans hskip)
  extract_lets _ s1 s2 d s3 due
  have h3 : PegFrame s2 s3 := PegFrame.recTrigger s2 _ _ _
  have h3rd (g : Fld) (hg : inBlock bSCAN g.key = true) : s3.rd g = s2.rd g := (ScanKept.of_pegFrame h3).rd g hg
  have h3sc : s3.scan = s2.scan := h3.scan
  split
  · have h4 := PegFrame.raiseEvent (s3.setScan { s3.scan with evtAt := s3.scan.evtAt.set n s3.opSec }) 0x0060 (unitOf bSCAN) d
    refine ⟨fun g hg => ((ScanKept.of_pegFrame h4).rd g hg).trans (h3rd g hg), ?_⟩
    exact (congrArg ScanState.paces h4.scan).trans (show s3.scan.paces = _ from congrArg ScanState.paces h3sc)
  · exact ⟨h3rd, congrArg ScanState.paces h3sc⟩

/-- The status register of a task: its keys, apart from each other and from the mode. -/
theorem taskStat_keys (n : Fin 16) : inBlock bSCAN (F.SCAN_TASK_STAT_OVERRUNS n).key = true ∧
    inBlock bSCAN (F.SCAN_TASK_STAT_OVR n).key = true ∧
    (F.SCAN_TASK_STAT_OVERRUNS n).key ≠ (F.SCAN_TASK_STAT_OVR n).key ∧
    F.SCAN_MODE_MODE.key ≠ (F.SCAN_TASK_STAT_OVR n).key ∧ F.SCAN_MODE_MODE.key ≠ (F.SCAN_TASK_STAT_OVERRUNS n).key ∧
    (F.SCAN_TASK_STAT_OVERRUNS n).addr % 0x10000 ≠ 0xFF00 ∧ (F.SCAN_TASK_STAT_OVR n).addr % 0x10000 ≠ 0xFF00 :=
  (by decide : ∀ n : Fin 16, inBlock bSCAN (F.SCAN_TASK_STAT_OVERRUNS n).key = true ∧
    inBlock bSCAN (F.SCAN_TASK_STAT_OVR n).key = true ∧
    (F.SCAN_TASK_STAT_OVERRUNS n).key ≠ (F.SCAN_TASK_STAT_OVR n).key ∧
    F.SCAN_MODE_MODE.key ≠ (F.SCAN_TASK_STAT_OVR n).key ∧ F.SCAN_MODE_MODE.key ≠ (F.SCAN_TASK_STAT_OVERRUNS n).key ∧
    (F.SCAN_TASK_STAT_OVERRUNS n).addr % 0x10000 ≠ 0xFF00 ∧ (F.SCAN_TASK_STAT_OVR n).addr % 0x10000 ≠ 0xFF00) n

theorem State.taskOverrun_shown {s : State} (n : Fin 16) {r : TaskPace} (hmode : s.scanMode = mRun)
    (hord : s.isSet (F.SCAN_TASK_CFG_GUARDED n) = false) (hskip : s.skipDue n = some r) :
    (s.taskOverrun n).rd (F.SCAN_TASK_STAT_OVERRUNS n) = (s.rd (F.SCAN_TASK_STAT_OVERRUNS n) + 1) % 2 ^ 16 ∧
      (s.taskOverrun n).rd (F.SCAN_TASK_STAT_OVR n) = 1 ∧ (s.taskOverrun n).scan.paces.find n = some r ∧
      (s.taskOverrun n).scanMode = mRun := by
  obtain ⟨hrd, hpaces⟩ := State.taskOverrun_kept hmode hord hskip
  obtain ⟨hin, hin', hne, hne', hne'', -, -⟩ := taskStat_keys n
  refine ⟨(hrd _ hin).trans ?_, (hrd _ hin').trans ?_, ?_, (hrd F.SCAN_MODE_MODE (by decide)).trans ?_⟩
  · exact (State.rd_wr_other _ _ hne).trans (State.rd_wr_same _ _ _)
  · exact State.rd_wr_same _ _ _
  · rw [hpaces]
    exact AMap.find_set_same _ _ _
  · exact ((State.rd_wr_other _ _ hne').trans (State.rd_wr_other _ _ hne'')).trans hmode

/-! ## The statement -/

theorem taskStart_spec (io : IoPins) (n : Nat) (k w : Int) (d : Due) (r : TaskPace) (s : State) (hmode : s.scanMode = mRun)
    (hcyc : s.scan.cyc = none) (hlatch : s.scan.latch = none)
    (hfirst : (List.range 16).findSome? (fun n => (s.firstDue n).map (fun x => (n, x))) = some (n, (k, w)))
    (hdue : s.dueOf n = some d) (hpace : s.scan.paces.find n = some r) :
    (s.latchTime = true → ∃ t y, exec (.taskStart io) s = .next t ∧ t.scan.cyc = some y ∧ y.task = n ∧
      y.pc = s.rd (F.SCAN_TASK_CFG_ENTRY n) ∧ y.acc = 0 ∧ y.c = false ∧ y.ov = false ∧ y.p = 0 ∧ y.stack = [] ∧
      y.sends = [] ∧ t.rdMem 0x00500000 4 = io.di.toNat ∧ BlocksKept [bSCAN] s t) ∧
    (s.latchTime = false → ∃ t, exec (.taskStart io) s = .next t ∧ t.scan.cyc = none ∧
      t.scan.latch = some (n, ((s.sys.refTick : Int) - w).toNat) ∧ RegsKept [] s t ∧ MemKept s t) := by
  have heq := State.taskStart_eq io hmode hcyc hlatch hfirst hdue hpace
  have hexec : exec (.taskStart io) s = .next (s.ended (s.taskStart io)) := finish_ended s _
  constructor
  · intro htime
    rw [if_pos htime] at heq
    obtain ⟨-, hmem, honly, y, hy, htask, hpc, hacc, hc, hov, hp, hstack, hsends⟩ :=
      (s.startNoted n k w d r).beginCycle_begun (List.mem_range.mp (State.firstDue_task hfirst)) ((s.sys.refTick : Int) - w).toNat io
    rw [← heq] at hmem honly hy
    refine ⟨_, y, hexec, ?_, htask, hpc, hacc, hc, hov, hp, hstack, hsends, ?_,
      State.OnlyBlock.kept fun g hg => honly g hg⟩
    · rw [State.ended_scan, hy]
    · rw [State.ended_rdMem, hmem, Nat.mod_eq_of_lt io.di.isLt]
  · intro htime
    rw [if_neg (by simp [htime])] at heq
    refine ⟨_, hexec, ?_, ?_, State.ended_regsKept fun g _ => ?_, State.ended_memKept ?_⟩
    · rw [State.ended_scan, heq]
      exact hcyc
    · rw [State.ended_scan, heq]
      rfl
    · rw [heq]
      rfl
    · rw [heq]
      rfl

theorem nodeLatchWaitEnd_spec (io : IoPins) (n due : Nat) (s : State) (hlatch : s.scan.latch = some (n, due)) (hn : n < 16)
    (hmode : s.scanMode = mRun) (hwait : s.sfRun = false ∨ (60000 ≤ s.tb2Ns % 10000000 ∧ s.latchTime = true)) :
    ∃ t y, exec (.nodeLatchWaitEnd io) s = .next t ∧ t.scan.latch = none ∧ t.scan.cyc = some y ∧ y.task = n ∧
      y.pc = s.rd (F.SCAN_TASK_CFG_ENTRY n) ∧ y.acc = 0 ∧ y.c = false ∧ y.ov = false ∧ y.p = 0 ∧ y.stack = [] ∧
      BlocksKept [bSCAN] s t := by
  obtain ⟨hnone, -, honly, y, hy, htask, hpc, hacc, hc, hov, hp, hstack, -⟩ := s.beginCycle_begun hn due io
  rw [← State.latchWaitEnd_eq io hlatch hmode hwait] at hnone honly hy
  refine ⟨_, y, finish_ended s _, ?_, ?_, htask, hpc, hacc, hc, hov, hp, hstack, honly.kept⟩
  · rw [State.ended_scan, hnone]
  · rw [State.ended_scan, hy]

theorem taskOverrun_spec (n : Fin 16) (r : TaskPace) (s : State) (hmode : s.scanMode = mRun)
    (hskip : s.skipDue n = some r) (hord : s.isSet (F.SCAN_TASK_CFG_GUARDED n) = false) :
    ∃ t, exec (.taskOverrun n) s = .next t ∧
      t.rd (F.SCAN_TASK_STAT_OVERRUNS n) = (s.rd (F.SCAN_TASK_STAT_OVERRUNS n) + 1) % 2 ^ 16 ∧
      t.rd (F.SCAN_TASK_STAT_OVR n) = 1 ∧ t.scan.paces.find n = some r ∧ t.scanMode = mRun := by
  obtain ⟨hcnt, hovr, hpace, hmode'⟩ := State.taskOverrun_shown n hmode hord hskip
  obtain ⟨-, -, -, -, -, haddr, haddr'⟩ := taskStat_keys n
  refine ⟨_, finish_ended s _, (State.ended_rd _ _ (Fld.notRun ⟨haddr, (by decide : 16 < 32)⟩)).trans hcnt,
    (State.ended_rd _ _ (Fld.notRun ⟨haddr', (by decide : 0 < 32)⟩)).trans hovr, ?_,
    (State.ended_rd _ _ (Fld.notRun (by decide))).trans hmode'⟩
  rw [State.ended_scan, hpace]

/-- The outcome of a trip as a command leaves it. -/
theorem ended_scanTrip (s : State) {n cause : Nat} (hcause : cause < 16) :
    (s.ended (s.scanTrip n cause)).scanMode = mFault ∧ (s.ended (s.scanTrip n cause)).rd F.SCAN_FAULT_CAUSE = cause ∧
      (s.ended (s.scanTrip n cause)).rd F.SCAN_FAULT_TASK = n % 16 ∧ (s.ended (s.scanTrip n cause)).scan.cyc = none ∧
      (s.ended (s.scanTrip n cause)).rd F.SCAN_FAULT_TRIPS = satInc 255 (s.rd F.SCAN_FAULT_TRIPS) % 2 ^ 8 := by
  obtain ⟨hmode, hcaus, htask, htrips⟩ := s.scanTrip_shown (n := n) hcause
  refine ⟨(State.ended_rd _ _ (Fld.notRun (by decide))).trans hmode, (State.ended_rd _ _ (Fld.notRun (by decide))).trans hcaus,
    (State.ended_rd _ _ (Fld.notRun (by decide))).trans htask, ?_, (State.ended_rd _ _ (Fld.notRun (by decide))).trans htrips⟩
  rw [State.ended_scan, State.scanTrip_cyc]

theorem scanWatchdogTrip_spec (n : Fin 16) (r : TaskPace) (s : State) (hmode : s.scanMode = mRun)
    (hskip : s.skipDue n = some r) (hguard : s.isSet (F.SCAN_TASK_CFG_GUARDED n) = true) :
    ∃ t, exec (.scanWatchdogTrip n) s = .next t ∧ t.scanMode = mFault ∧
      t.rd F.SCAN_FAULT_CAUSE = 1 ∧ t.rd F.SCAN_FAULT_TASK = n.val ∧ t.scan.cyc = none ∧
      t.rd F.SCAN_FAULT_TRIPS = satInc 255 (s.rd F.SCAN_FAULT_TRIPS) % 2 ^ 8 := by
  have htrip : s.watchdogTrip n = s.scanTrip n 1 := if_pos ⟨hmode, hguard, by simp [hskip]⟩
  have h := ended_scanTrip s (n := n) (cause := 1) (by decide)
  rw [← htrip, Nat.mod_eq_of_lt n.isLt] at h
  exact ⟨_, finish_ended s _, h⟩

theorem State.holdLimit_trips {s : State} {n : Nat} (hmode : s.scanMode = mHold) (hlim : s.rd F.SCAN_HOLD_LIMIT_S ≤ n) :
    ∃ m, s.holdLimit n = s.scanTrip m 2 := by
  unfold State.holdLimit
  rw [if_pos ⟨hmode, hlim⟩]
  exact ⟨_, rfl⟩

theorem holdLimitExpiry_spec (n : Nat) (s : State) (hmode : s.scanMode = mHold) (hlim : s.rd F.SCAN_HOLD_LIMIT_S ≤ n) :
    ∃ t, exec (.holdLimitExpiry n) s = .next t ∧ t.scanMode = mFault ∧ t.rd F.SCAN_FAULT_CAUSE = 2 ∧ t.scan.cyc = none := by
  obtain ⟨m, htrip⟩ := State.holdLimit_trips hmode hlim
  obtain ⟨hmode', hcause, -, hcyc, -⟩ := ended_scanTrip s (n := m) (cause := 2) (by decide)
  refine ⟨s.ended (s.scanTrip m 2), ?_, hmode', hcause, hcyc⟩
  rw [show exec (.holdLimitExpiry n) s = finish s (s.holdLimit n) from rfl, finish_ended, htrip]

/-- Settles O32: the beginning of a cycle is one state with the latched inputs, and a trip is recorded before the outputs go to
their safe values, which leaves the engine's registers. -/
theorem scanCyclesAndTrips : Obligations.ScanCyclesAndTrips := by
  unfold Obligations.ScanCyclesAndTrips
  exact ⟨fun io n k w d r s h1 h2 h3 h4 h5 h6 => taskStart_spec io n k w d r s h1 h2 h3 h4 h5 h6,
    fun io n due s h1 h2 h3 h4 => nodeLatchWaitEnd_spec io n due s h1 h2 h3 h4,
    fun n r s hmode hskip => ⟨taskOverrun_spec n r s hmode hskip, scanWatchdogTrip_spec n r s hmode hskip⟩,
    fun n s hmode hlim => holdLimitExpiry_spec n s hmode hlim⟩

end Sys2Proof.Machine
end

section
/-!
PROOFS. The commands of SCAN_CMD (R288 to R293), and what an instruction leaves of the machine beside its memory (R303).
-/
namespace Sys2Proof.Machine

/-! ## An instruction writes memory alone -/

/-- Whatever instruction `f` does to the cycle, of the machine it changes the memory and nothing that a register or the
engine's state shows. -/
def TabFn.WritesMemory (f : TabFn) : Prop :=
  ∀ w y s y' u, f w y s = .ok (y', u) → u.regs = s.regs ∧ u.scan = s.scan

namespace TabFn.WritesMemory

/-- A result that leaves the machine as it was. -/
theorem same {y y' : Cycle} {s u : State} (h : (Except.ok (y, s) : TabRes) = .ok (y', u)) : u.regs = s.regs ∧ u.scan = s.scan := by
  obtain ⟨-, rfl⟩ := Prod.mk.inj (Except.ok.inj h)
  exact ⟨rfl, rfl⟩

/-- A result whose machine is `s` with other octets in memory. -/
theorem stored {y y' : Cycle} {s t u : State} (hregs : t.regs = s.regs) (hscan : t.scan = s.scan)
    (h : (Except.ok (y, t) : TabRes) = .ok (y', u)) : u.regs = s.regs ∧ u.scan = s.scan := by
  obtain ⟨-, rfl⟩ := Prod.mk.inj (Except.ok.inj h)
  exact ⟨hregs, hscan⟩

theorem ofN {f : Cycle → State → TabRes}
    (hf : ∀ y s y' u, f y s = .ok (y', u) → u.regs = s.regs ∧ u.scan = s.scan) : WritesMemory (tabN f) := by
  intro w y s y' u h
  unfold tabN at h
  split at h
  · exact hf y s y' u h
  · cases h

theorem ofCyc (f : Cycle → Cycle) : WritesMemory (tabCyc f) := ofN fun _ _ _ _ h => same h

theorem ofBit (wr : Bool) (f : Bool → Bool → Bool × Option Bool) : WritesMemory (tabBit wr f) := by
  intro w y s y' u h
  unfold tabBit at h
  split at h
  · cases h
  · dsimp only at h
    generalize f y.c _ = r at h
    obtain ⟨c, b⟩ := r
    cases b with
    | none => exact same h
    | some b => exact stored (by rfl) (by rfl) h

theorem ofWord (f : Int → Cycle → Except Nat Cycle) : WritesMemory (tabWord f) := by
  intro w y s y' u h
  unfold tabWord at h
  split at h
  · cases h
  · generalize tabWidth _ = r at h
    obtain ⟨n, sg⟩ := r
    dsimp only at h
    split at h
    · cases h
    · split at h
      · cases h
      · exact same h

theorem ofCmpW (r : Int → Int → Bool) : WritesMemory (tabCmpW r) := ofWord _

theorem ofImm (f : Int → Cycle → Cycle) : WritesMemory (tabImm f) := fun _ _ _ _ _ h => same h

theorem ofCmpK (r : Int → Int → Bool) : WritesMemory (tabCmpK r) := ofImm _

theorem ofShift (f : Word → Nat → Word) : WritesMemory (tabShift f) := by
  intro w y s y' u h
  unfold tabShift at h
  split at h
  · exact same h
  · cases h

theorem ofJump (p : Cycle → Bool) : WritesMemory (tabJump p) := by
  intro w y s y' u h
  unfold tabJump at h
  split at h
  · cases h
  · exact same h

theorem ofRec (lo hi : Nat) {f : Nat → Cycle → State → TabRes}
    (hf : ∀ a y s y' u, f a y s = .ok (y', u) → u.regs = s.regs ∧ u.scan = s.scan) : WritesMemory (tabRec lo hi f) := by
  intro w y s y' u h
  unfold tabRec at h
  split at h
  · cases h
  · split at h
    · cases h
    · exact hf _ y s y' u h

theorem ofTimer (f : Nat → Nat → Bool → Bool → Timer → Timer) : WritesMemory (tabTimer f) := ofRec _ _ fun a y s y' u h => by
  dsimp only at h
  split at h
  · cases h
  · exact stored (by rfl) (by rfl) h

theorem ofCounter (f : Int → Int → Bool → Bool → Int × Bool) (follow : Bool) : WritesMemory (tabCounter f follow) :=
  ofRec _ _ fun _ _ _ _ _ h => stored (by rfl) (by rfl) h

theorem ofPop (f : Bool → Bool → Bool) : WritesMemory (tabPop f) := ofN fun y s y' u h => by
  split at h
  · cases h
  · exact same h

theorem bpush : WritesMemory tBpush := ofN fun y s y' u h => by
  split at h
  · cases h
  · exact same h

theorem tEnd : WritesMemory Machine.tEnd := ofN fun y s y' u h => by
  split at h
  · exact same h
  · cases h

theorem wst : WritesMemory tWst := by
  intro w y s y' u h
  unfold tWst at h
  split at h
  · cases h
  · dsimp only at h
    split at h
    · cases h
    · exact stored (by rfl) (by rfl) h

theorem kldh : WritesMemory tKldh := by
  intro w y s y' u h
  unfold tKldh at h
  split at h
  · cases h
  · exact same h

theorem nst : WritesMemory tNst := by
  intro w y s y' u h
  unfold tNst at h
  split at h
  · cases h
  · split at h
    · cases h
    · exact same h

theorem snd : WritesMemory tSnd := ofRec _ _ fun a y s y' u h => by
  dsimp only at h
  split at h
  · exact same h
  · split at h
    · exact stored (by rfl) (by rfl) h
    · exact stored (by rfl) (by rfl) h

/-- Every instruction of the opcode map, in its order (R303). -/
theorem ofTabOp {op : Nat} {f : TabFn} (h : tabOp op = some f) : WritesMemory f := by
  unfold tabOp at h
  split at h <;> cases h
  exacts [ofCyc _, ofBit _ _, ofBit _ _, ofBit _ _, ofBit _ _, ofBit _ _, ofBit _ _, ofBit _ _, ofBit _ _, ofBit _ _,
    ofBit _ _, ofBit _ _, ofBit _ _, ofBit _ _, ofBit _ _, bpush, ofPop _, ofPop _, ofPop _, ofCyc _, ofCyc _, ofCyc _,
    ofCyc _, ofCyc _, ofWord _, wst, ofWord _, ofWord _, ofWord _, ofWord _, ofWord _, ofWord _, ofWord _, ofWord _,
    ofWord _, ofWord _, ofCmpW _, ofCmpW _, ofCmpW _, ofCmpW _, ofCmpW _, ofCmpW _, ofCmpK _, ofCmpK _, ofCmpK _, ofCmpK _,
    ofCmpK _, ofCmpK _, ofImm _, kldh, ofImm _, ofShift _, ofShift _, ofShift _, ofCyc _, ofCyc _, ofCyc _, ofJump _,
    ofJump _, ofJump _, ofJump _, ofJump _, ofTimer _, ofTimer _, ofTimer _, ofCounter _ _, ofCounter _ _,
    ofCounter _ _, ofCounter _ _, snd, nst, tEnd]

end TabFn.WritesMemory

/-! ## The row of each command -/

section
variable (req : Fin 36) {s : State} (hon : s.blockOn bSCAN = true)
include hon

theorem State.addrUp_scanCmd : s.addrUp 0x400C0008 = true :=
  (s.addrUp_block bSCAN 0x400C0008 (by decide) (by decide) (by decide)).trans hon

/-- A word at SCAN_CMD whose KEY is right and whose OP is `op`. -/
theorem State.rowWrite_scanCmd {op : Nat} (hop : op ∈ [1, 2, 3, 4, 5, 6, 7]) :
    s.rowWrite req 0x400C0008 (0x3C96 * 2 ^ 16 + op) WriteMore.none = (s.scanCmd op).answer req 0x400C0008 stOK 0 := by
  have hword : ∀ o ∈ [1, 2, 3, 4, 5, 6, 7], (regsScan1[2].written.all fun f =>
      chkField f.chk f.width (bits (0x3C96 * 2 ^ 16 + o) f.lo f.width) == (true, true)) = true ∧
        bits (0x3C96 * 2 ^ 16 + o) 0 4 = o := by decide
  obtain ⟨hchk, hbits⟩ := hword op hop
  have hafter : s.afterWrite s req bSCAN 8 0 = s := rfl
  have hact : s.regAct req bSCAN 8 0 (0x3C96 * 2 ^ 16 + op) WriteMore.none =
      (stOK, s.scanCmd (bits (0x3C96 * 2 ^ 16 + op) 0 4)) := rfl
  have hrow := s.rowWrite_after (req := req) (a := 0x400C0008) (x := WriteMore.none) (State.addrUp_scanCmd hon) (by decide)
    (b := bSCAN) (off := 8) (r := regsScan1[2]) (ix := []) (by decide) (by decide) (by decide) (by decide) hchk rfl rfl
    (by decide)
  rw [hrow, show regsScan1[2].off = 8 from rfl, List.headD_nil]
  rw [hafter, hact, hbits]

theorem exec_scanRun : exec (.scanRun req 0x3C96) s = .next (s.ended (s.cmdRun.answer req 0x400C0008 stOK 0)) :=
  congrArg (finish s) (State.rowWrite_scanCmd req hon (op := 1) (by decide))

theorem exec_scanStop : exec (.scanStop req 0x3C96) s = .next (s.ended (s.cmdStop.answer req 0x400C0008 stOK 0)) :=
  congrArg (finish s) (State.rowWrite_scanCmd req hon (op := 2) (by decide))

theorem exec_scanHold : exec (.scanHold req 0x3C96) s = .next (s.ended (s.cmdHold.answer req 0x400C0008 stOK 0)) :=
  congrArg (finish s) (State.rowWrite_scanCmd req hon (op := 3) (by decide))

theorem exec_scanResume : exec (.scanResume req 0x3C96) s = .next (s.ended (s.cmdResume.answer req 0x400C0008 stOK 0)) :=
  congrArg (finish s) (State.rowWrite_scanCmd req hon (op := 4) (by decide))

theorem exec_scanStep : exec (.scanStep req 0x3C96) s = .next (s.ended (s.cmdStep.answer req 0x400C0008 stOK 0)) :=
  congrArg (finish s) (State.rowWrite_scanCmd req hon (op := 5) (by decide))

theorem exec_clearFault : exec (.clearFault req 0x3C96) s = .next (s.ended (s.cmdClearFault.answer req 0x400C0008 stOK 0)) :=
  congrArg (finish s) (State.rowWrite_scanCmd req hon (op := 6) (by decide))

theorem exec_checkProgram : exec (.checkProgram req 0x3C96) s = .next (s.ended (s.cmdCheck.answer req 0x400C0008 stOK 0)) :=
  congrArg (finish s) (State.rowWrite_scanCmd req hon (op := 7) (by decide))

end

/-! ## What a command leaves -/

/-- The state after a command of SCAN_CMD whose effect is `u` and whose result is `op` and `st`. -/
def State.scanEnded (s u : State) (req op st : Nat) : State := s.ended ((u.scanDone op st).answer req 0x400C0008 stOK 0)

section
variable (s u : State) (req op st : Nat)

theorem State.scanDone_rd {g : Fld} (hop : g.key ≠ F.SCAN_CMD_STAT_OP.key) (hst : g.key ≠ F.SCAN_CMD_STAT_STATUS.key) :
    (s.scanDone op st).rd g = s.rd g := (State.rd_wr_other _ _ hst).trans (s.rd_wr_other _ hop)

theorem State.scanEnded_rd {g : Fld} (hrun : g.addr % 0x10000 ≠ 0xFF00 ∧ g.lo < 32) (hop : g.key ≠ F.SCAN_CMD_STAT_OP.key)
    (hst : g.key ≠ F.SCAN_CMD_STAT_STATUS.key) : (s.scanEnded u req op st).rd g = u.rd g :=
  (State.ended_rd _ _ (Fld.notRun hrun)).trans (State.scanDone_rd u op st hop hst)

@[simp] theorem State.scanEnded_scan : (s.scanEnded u req op st).scan = u.scan := State.ended_scan _ _

theorem State.scanEnded_mode : (s.scanEnded u req op st).scanMode = u.scanMode :=
  State.scanEnded_rd s u req op st (by decide) (by decide) (by decide)

variable {op st}

theorem State.scanEnded_op (h : op < 16) : (s.scanEnded u req op st).rd F.SCAN_CMD_STAT_OP = op :=
  (State.ended_rd _ _ (Fld.notRun (by decide))).trans ((State.rd_wr_other _ _ (by decide)).trans (u.rd_wr_fits _ h))

theorem State.scanEnded_status (h : st < 256) : (s.scanEnded u req op st).rd F.SCAN_CMD_STAT_STATUS = st :=
  (State.ended_rd _ _ (Fld.notRun (by decide))).trans (State.rd_wr_fits _ _ h)

variable {s u req}

theorem State.scanEnded_blocks (h : s.OnlyBlock bSCAN u) : BlocksKept [bSCAN] s (s.scanEnded u req op st) :=
  State.ended_blocksKept fun g hg =>
    have hg := hg bSCAN (List.mem_singleton_self _)
    (State.scanDone_rd u op st (key_ne_of_inBlock hg (by decide)) (key_ne_of_inBlock hg (by decide))).trans (h g hg)

theorem State.scanEnded_mem (h : u.mem = s.mem) : MemKept s (s.scanEnded u req op st) := State.ended_memKept h

/-- What the effect changes beside the result. -/
theorem State.scanEnded_regs {l : List Fld} (h : ∀ g : Fld, (∀ f ∈ l, g.key ≠ f.key) → u.rd g = s.rd g) :
    RegsKept (F.SCAN_CMD_STAT_OP :: F.SCAN_CMD_STAT_STATUS :: l) s (s.scanEnded u req op st) :=
  State.ended_regsKept fun g hne => by
    simp only [List.forall_mem_cons] at hne
    obtain ⟨hop, hst, hl⟩ := hne
    exact (State.scanDone_rd u op st hop hst).trans (h g hl)

end

/-! ## Modes and views -/

theorem State.OnlyBlock.setScanMode (s : State) (m : Nat) : s.OnlyBlock bSCAN (s.setScanMode m) := fun g hg =>
  State.setScanMode_rd s m fun f hf => key_ne_of_inBlock hg ((by decide : ∀ f ∈ [F.SCAN_MODE_MODE, F.STATE_RUN bSCAN,
    F.SCAN_HOLD_ACC_ACC, F.SCAN_HOLD_P_P, F.SCAN_HOLD_LOGIC_STACK, F.SCAN_HOLD_LOGIC_DEPTH, F.SCAN_HOLD_LOGIC_OV,
    F.SCAN_HOLD_LOGIC_C], inBlock bSCAN f.key = true) f hf)

theorem State.setScanMode_mem (s : State) (m : Nat) : (s.setScanMode m).mem = s.mem := rfl

theorem State.rephase_scanMode (s : State) (b : Bool) : (s.rephase b).scanMode = s.scanMode := rfl

theorem State.rephase_cyc (s : State) (b : Bool) : (s.rephase b).scan.cyc = s.scan.cyc := rfl

theorem State.OnlyBlock.rephase (s : State) (b : Bool) : s.OnlyBlock bSCAN (s.rephase b) := fun _ _ => rfl

/-- In HOLD the view shows the frozen task's accumulator. -/
theorem State.setScanMode_acc {s : State} {y : Cycle} (h : s.scan.cyc = some y) :
    (s.setScanMode mHold).rd F.SCAN_HOLD_ACC_ACC = y.acc.toNat := by
  have hmode : ((s.wr F.SCAN_MODE_MODE mHold).wrB (F.STATE_RUN bSCAN) (mHold == mRun || mHold == mHold)).scanMode = mHold :=
    (State.rd_wr_other _ _ (by decide)).trans (s.rd_wr_fits _ (by decide))
  have hcyc : ((s.wr F.SCAN_MODE_MODE mHold).wrB (F.STATE_RUN bSCAN) (mHold == mRun || mHold == mHold)).scan.cyc = some y := h
  unfold State.setScanMode State.showHold
  simp only [hcyc, hmode, if_true]
  simp (disch := decide) only [State.wrB, State.rd_wr_other]
  exact State.rd_wr_fits _ _ y.acc.isLt

theorem State.stopNow_mode (s : State) : s.stopNow.scanMode = mStop := by
  have h : (s.dropCycle.setScanMode mStop).scanMode = mStop := State.setScanMode_mode _ (by decide)
  unfold State.stopNow
  extract_lets u
  split
  · exact ((ScanKept.driveSafe u).rd F.SCAN_MODE_MODE (by decide)).trans h
  · exact h

/-- The fields HOLD_STAT shows on entry. -/
def State.holdShown (s : State) (bp t a : Nat) : State :=
  ((s.wr F.SCAN_HOLD_STAT_BP bp).wr F.SCAN_HOLD_STAT_TASK t).wr F.SCAN_HOLD_STAT_ADDR a

theorem State.enterHold_eq (s : State) (bp : Nat) : ∃ t a, s.enterHold bp =
    (((s.holdShown bp t a).setScan { s.scan with latch := none }).setScanMode mHold) := by
  unfold State.enterHold
  split
  exact ⟨_, _, rfl⟩

theorem State.OnlyBlock.enterHold (s : State) (bp : Nat) : s.OnlyBlock bSCAN (s.enterHold bp) := by
  obtain ⟨t, a, h⟩ := s.enterHold_eq bp
  rw [h]
  have hshown : s.OnlyBlock bSCAN (s.holdShown bp t a) :=
    ((State.OnlyBlock.wr s (by decide) _).trans (State.OnlyBlock.wr _ (by decide) _)).trans (State.OnlyBlock.wr _ (by decide) _)
  exact (hshown.trans (State.OnlyBlock.setScan _ _ _)).trans (State.OnlyBlock.setScanMode _ _)

theorem State.enterHold_held (s : State) (bp : Nat) : (s.enterHold bp).scanMode = mHold ∧
    (s.enterHold bp).scan.cyc = s.scan.cyc ∧ (s.enterHold bp).mem = s.mem ∧
    ∀ y, s.scan.cyc = some y → (s.enterHold bp).rd F.SCAN_HOLD_ACC_ACC = y.acc.toNat := by
  obtain ⟨t, a, h⟩ := s.enterHold_eq bp
  rw [h]
  exact ⟨State.setScanMode_mode _ (by decide), rfl, rfl, fun y hy => State.setScanMode_acc hy⟩

/-! ## RUN entered from STOP (R291) -/

theorem State.retainCheck_kept (s : State) : s.retainCheck.regs = s.regs := by
  unfold State.retainCheck
  extract_lets a cab id cnt
  split
  · rfl
  · refine (State.wrOctets_regs _ _ _).trans ((foldl_kept State.regs (fun u v => ?_) _ _).trans (by rfl))
    split
    · exact State.wrOctets_regs _ _ _
    · rfl

/-- The time registers of the tasks `l` at 0. -/
def State.taskMaxCleared (s : State) (l : List Nat) : State :=
  l.foldl (fun s n => (s.wr (F.SCAN_TASK_EXEC_MAX n) 0).wr (F.SCAN_TASK_DELAY_MAX n) 0) s

theorem State.OnlyBlock.taskMaxCleared (s : State) {l : List Nat} (hl : ∀ n ∈ l, n < 16) :
    s.OnlyBlock bSCAN (s.taskMaxCleared l) :=
  State.OnlyBlock.foldl l (fun u n hn => by
    have hn : n < 16 := hl n hn
    refine (State.OnlyBlock.wr u ?_ _).trans (State.OnlyBlock.wr _ ?_ _)
    · refine decide_eq_true ?_
      simp only [blockBase, bSCAN, blockNo, Fld.key, F.SCAN_TASK_EXEC_MAX]
      omega
    · exact (taskDelay_key hn (f := F.SCAN_TASK_DELAY_MAX n) rfl (by decide : 16 < 32)).1) s

theorem State.taskMaxCleared_scan (s : State) (l : List Nat) : (s.taskMaxCleared l).scan = s.scan :=
  foldl_kept State.scan (by intros; rfl) l s

theorem State.enterScanRun_ran (s : State) :
    s.OnlyBlock bSCAN s.enterScanRun ∧ s.enterScanRun.scanMode = mRun ∧ s.enterScanRun.scan.cyc = none := by
  unfold State.enterScanRun
  extract_lets u1 _ u2 u3 u4
  have h3 : u3.regs = s.regs := s.retainCheck_kept
  have h4 : u4.scan.cyc = none := congrArg ScanState.cyc (u3.taskMaxCleared_scan (List.range 16))
  have hkept : u3.OnlyBlock bSCAN u4 := State.OnlyBlock.taskMaxCleared u3 (fun _ => List.mem_range.mp)
  clear_value u4
  have hmode : u4.OnlyBlock bSCAN (u4.setScanMode mRun) := State.OnlyBlock.setScanMode u4 mRun
  exact ⟨(State.OnlyBlock.trans (fun g _ => State.rd_of_regs h3 g) hkept).trans (hmode.trans (State.OnlyBlock.rephase _ _)),
    (State.rephase_scanMode _ _).trans (State.setScanMode_mode _ (by decide)), h4⟩

/-! ## Each command -/

section
variable (req : Fin 36) {s : State} (hon : s.blockOn bSCAN = true)
include hon

theorem scanRun_runs (hmode : s.scanMode = mStop) (hok : s.isSet F.SCAN_CMD_STAT_PROG_OK = true) :
    ∃ t, exec (.scanRun req 0x3C96) s = .next t ∧ t.scanMode = mRun ∧ t.scan.cyc = none ∧ t.rd F.SCAN_CMD_STAT_OP = 1 ∧
      t.rd F.SCAN_CMD_STAT_STATUS = stOK ∧ BlocksKept [bSCAN] s t := by
  obtain ⟨honly, hrun, hcyc⟩ := s.enterScanRun_ran
  have hexec := exec_scanRun req hon
  rw [State.cmdRun, if_pos ⟨hmode, hok⟩] at hexec
  exact ⟨s.scanEnded s.enterScanRun req 1 stOK, hexec, (State.scanEnded_mode _ _ _ _ _).trans hrun,
    (congrArg ScanState.cyc (State.scanEnded_scan _ _ _ _ _)).trans hcyc, State.scanEnded_op _ _ _ (by decide),
    State.scanEnded_status _ _ _ (by decide), State.scanEnded_blocks honly⟩

theorem scanRun_refused (hmode : s.scanMode ≠ mStop) :
    ∃ t, exec (.scanRun req 0x3C96) s = .next t ∧ t.rd F.SCAN_CMD_STAT_OP = 1 ∧
      t.rd F.SCAN_CMD_STAT_STATUS = stBAD ∧ t.scan = s.scan ∧
      RegsKept [F.SCAN_CMD_STAT_OP, F.SCAN_CMD_STAT_STATUS] s t ∧ MemKept s t := by
  have hexec := exec_scanRun req hon
  rw [State.cmdRun, if_neg (fun h => hmode h.1)] at hexec
  exact ⟨s.scanEnded s req 1 stBAD, hexec, State.scanEnded_op _ _ _ (by decide), State.scanEnded_status _ _ _ (by decide),
    State.scanEnded_scan _ _ _ _ _, State.scanEnded_regs fun _ _ => rfl, State.scanEnded_mem rfl⟩

theorem scanStop_stops (hmode : s.scanMode = mHold ∨ (s.scanMode = mRun ∧ s.scan.cyc = none)) :
    ∃ t, exec (.scanStop req 0x3C96) s = .next t ∧ t.scanMode = mStop ∧ t.scan.cyc = none ∧
      t.rd F.SCAN_CMD_STAT_OP = 2 ∧ t.rd F.SCAN_CMD_STAT_STATUS = stOK := by
  have heffect : s.cmdStop = s.stopNow.scanDone 2 stOK := by
    unfold State.cmdStop
    rcases hmode with hhold | ⟨hrun, hnone⟩
    · rw [if_neg (by rw [hhold]; decide), if_pos hhold]
    · rw [if_pos hrun, if_pos hnone]
  have hexec := exec_scanStop req hon
  rw [heffect] at hexec
  exact ⟨s.scanEnded s.stopNow req 2 stOK, hexec, (State.scanEnded_mode _ _ _ _ _).trans s.stopNow_mode,
    (congrArg ScanState.cyc (State.scanEnded_scan _ _ _ _ _)).trans s.stopNow_cyc, State.scanEnded_op _ _ _ (by decide),
    State.scanEnded_status _ _ _ (by decide)⟩

theorem scanStop_waits (y : Cycle) (hmode : s.scanMode = mRun) (hcyc : s.scan.cyc = some y) :
    ∃ t, exec (.scanStop req 0x3C96) s = .next t ∧ t.scan = { s.scan with stopReq := true } ∧
      t.rd F.SCAN_CMD_STAT_STATUS = stOK ∧ RegsKept [F.SCAN_CMD_STAT_OP, F.SCAN_CMD_STAT_STATUS] s t ∧ MemKept s t := by
  have hexec := exec_scanStop req hon
  rw [State.cmdStop, if_pos hmode, if_neg (by simp [hcyc])] at hexec
  exact ⟨s.scanEnded (s.setScan { s.scan with stopReq := true }) req 2 stOK, hexec, State.scanEnded_scan _ _ _ _ _,
    State.scanEnded_status _ _ _ (by decide), State.scanEnded_regs fun _ _ => rfl, State.scanEnded_mem rfl⟩

theorem scanHold_holds (hmode : s.scanMode = mRun) (hen : s.isSet F.SCAN_CTRL_HOLD_EN = true) :
    ∃ t, exec (.scanHold req 0x3C96) s = .next t ∧ t.scanMode = mHold ∧ t.scan.cyc = s.scan.cyc ∧
      t.rd F.SCAN_CMD_STAT_OP = 3 ∧ t.rd F.SCAN_CMD_STAT_STATUS = stOK ∧ BlocksKept [bSCAN] s t ∧ MemKept s t := by
  obtain ⟨hhold, hcyc, hmem, -⟩ := s.enterHold_held 0xF
  have hexec := exec_scanHold req hon
  rw [State.cmdHold, if_pos ⟨hmode, hen⟩] at hexec
  exact ⟨s.scanEnded (s.enterHold 0xF) req 3 stOK, hexec, (State.scanEnded_mode _ _ _ _ _).trans hhold,
    (congrArg ScanState.cyc (State.scanEnded_scan _ _ _ _ _)).trans hcyc, State.scanEnded_op _ _ _ (by decide),
    State.scanEnded_status _ _ _ (by decide), State.scanEnded_blocks (State.OnlyBlock.enterHold s 0xF),
    State.scanEnded_mem hmem⟩

theorem scanResume_idle (hmode : s.scanMode = mHold) (hnone : s.scan.cyc = none) :
    ∃ t, exec (.scanResume req 0x3C96) s = .next t ∧ t.scanMode = mRun ∧ t.rd F.SCAN_CMD_STAT_OP = 4 ∧
      t.rd F.SCAN_CMD_STAT_STATUS = stOK ∧ BlocksKept [bSCAN] s t ∧ MemKept s t := by
  have heffect : s.cmdResume = ((s.setScanMode mRun).rephase true).scanDone 4 stOK := by
    unfold State.cmdResume
    rw [if_neg (not_not.mpr hmode)]
    simp only [State.rephase_cyc, State.setScanMode_scan, hnone]
  have hexec := exec_scanResume req hon
  rw [heffect] at hexec
  refine ⟨s.scanEnded ((s.setScanMode mRun).rephase true) req 4 stOK, hexec, ?_, State.scanEnded_op _ _ _ (by decide),
    State.scanEnded_status _ _ _ (by decide), State.scanEnded_blocks ?_, State.scanEnded_mem (s.setScanMode_mem mRun)⟩
  · exact (State.scanEnded_mode _ _ _ _ _).trans ((State.rephase_scanMode _ _).trans (State.setScanMode_mode _ (by decide)))
  · exact (State.OnlyBlock.setScanMode s mRun).trans (State.OnlyBlock.rephase _ _)

theorem scanResume_goesOn (y : Cycle) (hmode : s.scanMode = mHold) (hcyc : s.scan.cyc = some y) (hend : y.ended = false) :
    ∃ t, exec (.scanResume req 0x3C96) s = .next t ∧ t.scanMode = mRun ∧
      t.scan.cyc = some { y with skipBp := decide (s.rd F.SCAN_HOLD_STAT_BP ≠ 0xF) } ∧
      t.rd F.SCAN_CMD_STAT_STATUS = stOK ∧ BlocksKept [bSCAN] s t ∧ MemKept s t := by
  have hbp : ((s.setScanMode mRun).rephase true).rd F.SCAN_HOLD_STAT_BP = s.rd F.SCAN_HOLD_STAT_BP :=
    State.setScanMode_rd s mRun (by decide)
  have heffect : s.cmdResume = (((s.setScanMode mRun).rephase true).setScan { ((s.setScanMode mRun).rephase true).scan with
      cyc := some { y with skipBp := decide (s.rd F.SCAN_HOLD_STAT_BP ≠ 0xF) } }).scanDone 4 stOK := by
    unfold State.cmdResume
    rw [if_neg (not_not.mpr hmode)]
    simp only [State.rephase_cyc, State.setScanMode_scan, hcyc, hend, hbp]
    rfl
  have hexec := exec_scanResume req hon
  rw [heffect] at hexec
  refine ⟨s.scanEnded _ req 4 stOK, hexec, ?_, congrArg ScanState.cyc (State.scanEnded_scan _ _ _ _ _),
    State.scanEnded_status _ _ _ (by decide), State.scanEnded_blocks ?_, State.scanEnded_mem (s.setScanMode_mem mRun)⟩
  · exact (State.scanEnded_mode _ _ _ _ _).trans (State.setScanMode_mode s (m := mRun) (by decide))
  · exact (State.OnlyBlock.setScanMode s mRun).trans
      ((State.OnlyBlock.rephase _ true).trans (State.OnlyBlock.setScan _ _ _))

theorem scanStep_steps (y : Cycle) (f : TabFn) (y' : Cycle) (u : State) (hmode : s.scanMode = mHold)
    (hcyc : s.scan.cyc = some y) (hend : y.ended = false) (hpc : y.pc < s.rd F.SCAN_PROG_LEN_LEN)
    (hop : tabOp (s.tabWordAt y.pc / 2 ^ 24) = some f)
    (hf : f (s.tabWordAt y.pc % 2 ^ 24) { y with pc := (y.pc + 1) % 2 ^ 18, skipBp := false } s = .ok (y', u)) :
    ∃ t, exec (.scanStep req 0x3C96) s = .next t ∧ t.scan.cyc = some y' ∧ t.scanMode = mHold ∧
      t.rd F.SCAN_HOLD_ACC_ACC = y'.acc.toNat ∧ t.rd F.SCAN_CMD_STAT_OP = 5 ∧ t.rd F.SCAN_CMD_STAT_STATUS = stOK ∧
      BlocksKept [bSCAN] s t ∧ MemKept u t := by
  obtain ⟨hregs, hscan⟩ := TabFn.WritesMemory.ofTabOp hop _ _ _ _ _ hf
  have humode : (u.setScan { u.scan with cyc := some y' }).scanMode = mHold := (State.rd_of_regs hregs _).trans hmode
  have hne : ¬ mHold = mRun := by decide
  have hnext : s.tabNext y = u.setScan { u.scan with cyc := some y' } := by
    unfold State.tabNext State.tabExec
    rw [if_neg (by omega)]
    simp only [hop, hf, humode, hne, and_false, if_false]
  have heffect : s.cmdStep = ((u.setScan { u.scan with cyc := some y' }).enterHold 0xF).scanDone 5 stOK := by
    unfold State.cmdStep
    rw [if_neg (not_not.mpr hmode)]
    simp only [hcyc, hend, hnext, humode, if_true, Bool.false_eq_true, if_false]
  obtain ⟨hhold, hcyc', hmem, hacc⟩ := (u.setScan { u.scan with cyc := some y' }).enterHold_held 0xF
  have honly : s.OnlyBlock bSCAN ((u.setScan { u.scan with cyc := some y' }).enterHold 0xF) :=
    (State.OnlyBlock.trans (fun g _ => State.rd_of_regs hregs g) (State.OnlyBlock.setScan bSCAN u _)).trans
      (State.OnlyBlock.enterHold _ 0xF)
  have hexec := exec_scanStep req hon
  rw [heffect] at hexec
  have hacc := hacc y' rfl
  generalize (u.setScan { u.scan with cyc := some y' }).enterHold 0xF = v at hhold hcyc' hmem hacc honly hexec
  refine ⟨s.scanEnded v req 5 stOK, hexec, ?_, (State.scanEnded_mode _ _ _ _ _).trans hhold, ?_,
    State.scanEnded_op _ _ _ (by decide), State.scanEnded_status _ _ _ (by decide), State.scanEnded_blocks honly, fun a => ?_⟩
  · rw [State.scanEnded_scan, hcyc']
    rfl
  · rw [State.scanEnded_rd _ _ _ _ _ (by decide) (by decide) (by decide), hacc]
  · rw [State.scanEnded, State.ended_rd8]
    exact congrArg (fun m : Memory => (m.read a).toNat) hmem

theorem clearFault_clears (hmode : s.scanMode = mFault) :
    ∃ t, exec (.clearFault req 0x3C96) s = .next t ∧ t.scanMode = mStop ∧ t.rd F.SCAN_CMD_STAT_OP = 6 ∧
      t.rd F.SCAN_CMD_STAT_STATUS = stOK ∧ BlocksKept [bSCAN] s t ∧ MemKept s t := by
  have hexec := exec_clearFault req hon
  rw [State.cmdClearFault, if_pos hmode] at hexec
  exact ⟨s.scanEnded (s.setScanMode mStop) req 6 stOK, hexec,
    (State.scanEnded_mode _ _ _ _ _).trans (State.setScanMode_mode s (by decide)), State.scanEnded_op _ _ _ (by decide),
    State.scanEnded_status _ _ _ (by decide), State.scanEnded_blocks (State.OnlyBlock.setScanMode s mStop),
    State.scanEnded_mem (s.setScanMode_mem mStop)⟩

theorem checkProgram_checks (hmode : s.scanMode = mStop ∨ s.scanMode = mFault) :
    ∃ t, exec (.checkProgram req 0x3C96) s = .next t ∧ t.rd F.SCAN_CMD_STAT_OP = 7 ∧
      t.rd F.SCAN_CMD_STAT_STATUS = stOK ∧
      t.rd F.SCAN_CMD_STAT_PROG_OK = b2n (decide (1 ≤ s.rd F.SCAN_PROG_LEN_LEN ∧ s.rd F.SCAN_PROG_LEN_LEN ≤ 262144) &&
        crc32 (s.mem.readN 0x00400000 (4 * s.rd F.SCAN_PROG_LEN_LEN)) == s.rd F.SCAN_PROG_CRC_CRC) ∧
      RegsKept [F.SCAN_CMD_STAT_OP, F.SCAN_CMD_STAT_STATUS, F.SCAN_CMD_STAT_PROG_OK] s t ∧ MemKept s t := by
  have hexec := exec_checkProgram req hon
  rw [State.cmdCheck, if_pos hmode] at hexec
  refine ⟨s.scanEnded s.checkProgram req 7 stOK, hexec, State.scanEnded_op _ _ _ (by decide),
    State.scanEnded_status _ _ _ (by decide), ?_, State.scanEnded_regs fun g hg => ?_, State.scanEnded_mem rfl⟩
  · exact (State.scanEnded_rd _ _ _ _ _ (by decide) (by decide) (by decide)).trans (State.rd_wr_fits _ _ (b2n_lt_two _))
  · exact s.rd_wr_other _ (hg _ (List.mem_singleton_self _))

end

/-- Settles O33: each command is its effect followed by the result's fields, and an instruction stepped writes memory alone. -/
theorem scanCommands : Obligations.ScanCommands := by
  unfold Obligations.ScanCommands
  intro req s hon
  exact ⟨scanRun_runs req hon, scanRun_refused req hon, scanStop_stops req hon, scanStop_waits req hon,
    scanHold_holds req hon, scanResume_idle req hon, scanResume_goesOn req hon, scanStep_steps req hon,
    clearFault_clears req hon, checkProgram_checks req hon⟩

end Sys2Proof.Machine
end

section
/-!
PROOFS. The slot bus: its coding, and what frames, responses and faults leave (R66 to R74, R534).
-/
namespace Sys2Proof.Machine

/-! ## What the wires carry (R66) -/

/-- The decoder reads the bits that were sent. -/
theorem sbRead_sbLevels (w : Bool × Bool) (l : List Bool) : sbRead (sbLevels w l) = l := by
  induction l generalizing w with
  | nil => rfl
  | cons b l ih =>
    have hb : (sbNext w b).1 = b := by
      unfold sbNext
      split
      · next h => exact h.symm
      · rfl
    have hl := ih (sbNext w b)
    rw [sbRead] at hl ⊢
    rw [sbLevels, List.map_cons, hb, hl]

/-- Each bit sent toggles one wire. -/
theorem sbNext_toggles (w : Bool × Bool) (b : Bool) : w.1 ≠ (sbNext w b).1 ↔ w.2 = (sbNext w b).2 := by
  unfold sbNext
  split
  · simp
  · next h => simp [Ne.symm h]

theorem sbLevels_toggle (l : List Bool) : ∀ (w : Bool × Bool) (i : Nat), i < l.length → ∀ x y, (w :: sbLevels w l)[i]? = some x →
    (w :: sbLevels w l)[i + 1]? = some y → (x.1 ≠ y.1 ↔ x.2 = y.2) := by
  induction l with
  | nil => exact fun w i hi => absurd hi (Nat.not_lt_zero i)
  | cons b l ih =>
    intro w i hi x y hx hy
    rw [sbLevels] at hx hy
    cases i with
    | zero =>
      obtain rfl : w = x := Option.some.inj hx
      obtain rfl : sbNext w b = y := Option.some.inj hy
      exact sbNext_toggles w b
    | succ i => exact ih (sbNext w b) i (Nat.lt_of_succ_lt_succ hi) x y hx hy

/-- The bits of an octet, least significant first. -/
def byteBits (b : Byte) : List Bool := (List.range 8).map (bitAt b.toNat)

theorem byteBits_read (b : Byte) (l : List Bool) :
    BitVec.ofNat 8 (((List.range 8).map (fun i => b2n ((byteBits b ++ l).getD i false) * 2 ^ i)).sum) = b := by
  have hbit (i : Nat) : b2n (bitAt b.toNat i) = b.toNat / 2 ^ i % 2 := by
    unfold bitAt
    rcases Nat.mod_two_eq_zero_or_one (b.toNat / 2 ^ i) with h | h <;> rw [h] <;> rfl
  have hsum : ((List.range 8).map (fun i => b2n ((byteBits b ++ l).getD i false) * 2 ^ i)).sum =
      ((List.range 8).map (fun i => b.toNat / 2 ^ i % 2 * 2 ^ i)).sum := by
    congr 1
    refine List.map_congr_left fun i hi => ?_
    have hi : i < 8 := List.mem_range.mp hi
    rw [List.getD_append _ _ _ _ (by simpa [byteBits] using hi), byteBits,
      List.getD_eq_getElem _ _ (by simpa using hi), List.getElem_map, List.getElem_range, hbit]
  have hlt := b.isLt
  rw [hsum]
  refine BitVec.eq_of_toNat_eq ?_
  rw [BitVec.toNat_ofNat]
  simp only [List.range, List.range.loop, List.map_cons, List.map_nil, List.sum_cons, List.sum_nil]
  omega

theorem sbOctets_sbBits (l : List Byte) : sbOctets l.length (sbBits l) = l := by
  induction l with
  | nil => rfl
  | cons b l ih =>
    have hcons : sbBits (b :: l) = byteBits b ++ sbBits l := rfl
    rw [List.length_cons, sbOctets, hcons, byteBits_read, List.drop_left' (by simp [byteBits]), ih]

theorem length_sbBits (l : List Byte) : (sbBits l).length = 8 * l.length := by
  induction l with
  | nil => rfl
  | cons b l ih =>
    have hcons : sbBits (b :: l) = byteBits b ++ sbBits l := rfl
    rw [hcons, List.length_append, ih, List.length_cons]
    simp only [byteBits, List.length_map, List.length_range]
    omega

/-! ## Steps of the bus -/

/-- From `s` to `t` the registers of `l` may change and of the slot what the decoder keeps; nothing else does. -/
structure BusStep (l : List Fld) (s t : State) : Prop where
  rd : ∀ g : Fld, (∀ f ∈ l, g.key ≠ f.key) → t.rd g = s.rd g
  mem : t.mem = s.mem
  shadow : t.shadow = s.shadow
  out : t.out = s.out
  sys : t.sys = s.sys
  due : t.slot.respDue = s.slot.respDue
  held : t.slot.respHeld = s.slot.respHeld
  wakes : t.slot.wakeRun = s.slot.wakeRun
  power : t.slot.logicOn = s.slot.logicOn
  quiet : t.slot.quietWait = s.slot.quietWait

namespace BusStep
variable {l m : List Fld} {s t u : State}

theorem refl (l : List Fld) (s : State) : BusStep l s s := ⟨fun _ _ => rfl, rfl, rfl, rfl, rfl, rfl, rfl, rfl, rfl, rfl⟩

theorem trans (h : BusStep l s t) (k : BusStep l t u) : BusStep l s u :=
  ⟨fun g hg => (k.rd g hg).trans (h.rd g hg), k.mem.trans h.mem, k.shadow.trans h.shadow, k.out.trans h.out, k.sys.trans h.sys,
    k.due.trans h.due, k.held.trans h.held, k.wakes.trans h.wakes, k.power.trans h.power, k.quiet.trans h.quiet⟩

theorem mono (h : BusStep l s t) (hlm : ∀ f ∈ l, f ∈ m) : BusStep m s t :=
  { h with rd := fun g hg => h.rd g fun f hf => hg f (hlm f hf) }

theorem wrOf (s : State) {f : Fld} (hf : f ∈ l) (v : Nat) : BusStep l s (s.wr f v) :=
  ⟨fun _ hg => s.rd_wr_other v (hg f hf), rfl, rfl, rfl, rfl, rfl, rfl, rfl, rfl, rfl⟩

theorem foldl {α : Type} {f : State → α → State} (is : List α) (hf : ∀ s, ∀ i ∈ is, BusStep l s (f s i)) (s : State) :
    BusStep l s (is.foldl f s) := by
  induction is generalizing s with
  | nil => exact refl l s
  | cons i is ih => exact (hf s i List.mem_cons_self).trans (ih (fun s i hi => hf s i (List.mem_cons_of_mem _ hi)) _)

theorem sbCarry (s : State) (o : List Byte) : BusStep l s (s.sbCarry o) :=
  ⟨fun _ _ => rfl, rfl, rfl, rfl, rfl, rfl, rfl, rfl, rfl, rfl⟩

theorem sbFree (s : State) : BusStep l s s.sbFree := ⟨fun _ _ => rfl, rfl, rfl, rfl, rfl, rfl, rfl, rfl, rfl, rfl⟩

end BusStep

/-- The fields of SLOT_SB_LAST. -/
def sbLastFlds : List Fld := (List.range 10).map F.SLOT_SB_LAST_OCTETS

/-- Octets of `o` in the registers `is` of SLOT_SB_LAST. -/
def State.sbLastOn (s : State) (o : List Byte) (is : List Nat) : State :=
  is.foldl (fun s i => s.wr (F.SLOT_SB_LAST_OCTETS i) (ofOctetsLE ((o.drop (4 * i)).take 4))) s

theorem BusStep.sbLast (s : State) (o : List Byte) : BusStep sbLastFlds s (s.sbLast o) := by
  have h : ∀ is : List Nat, (∀ i ∈ is, i ∈ List.range 10) → BusStep sbLastFlds s (s.sbLastOn o is) := fun is his =>
    BusStep.foldl is (fun u i hi => BusStep.wrOf u (List.mem_map_of_mem (his i hi)) _) s
  exact h _ fun _ => id

theorem ofOctetsLE_lt (l : List Byte) : ofOctetsLE l < 256 ^ l.length := by
  induction l with
  | nil => exact Nat.one_pos
  | cons b l ih =>
    have hb := b.isLt
    rw [ofOctetsLE, List.length_cons, Nat.pow_succ]
    omega

theorem State.sbLast_first (s : State) (o : List Byte) :
    (s.sbLast o).rd (F.SLOT_SB_LAST_OCTETS 0) = ofOctetsLE (o.take 4) := by
  have h : ∀ is : List Nat, is.Nodup → 0 ∈ is → (s.sbLastOn o is).rd (F.SLOT_SB_LAST_OCTETS 0) =
      ofOctetsLE ((o.drop (4 * 0)).take 4) % 2 ^ 32 := fun is hnodup hmem =>
    State.foldl_wr_rd F.SLOT_SB_LAST_OCTETS (fun _ i => ofOctetsLE ((o.drop (4 * i)).take 4)) is hnodup
      (fun c _ d _ hcd => by
        simp only [Fld.key, F.SLOT_SB_LAST_OCTETS]
        omega)
      (fun _ _ _ _ _ _ _ => rfl) s 0 hmem
  have hlt := ofOctetsLE_lt (o.take 4)
  have hlen : (o.take 4).length ≤ 4 := List.length_take_le 4 o
  have hpow : 256 ^ (o.take 4).length ≤ 256 ^ 4 := Nat.pow_le_pow_right (by decide) hlen
  exact (h _ List.nodup_range (by decide)).trans (Nat.mod_eq_of_lt (by rw [Nat.mul_zero, List.drop_zero]; omega))

/-! ## Frames (R67 to R72) -/

/-- The frame of octets `o` carried and counted. -/
def State.frameCounted (s : State) (o : List Byte) : State :=
  ({ s with slot := { s.slot with quietWait := false } }.sbCarry o).inc F.SLOT_BUS_CNT_GOOD

theorem BusStep.unquiet {l : List Fld} {s t : State} (h : BusStep l { s with slot := { s.slot with quietWait := false } } t) :
    (∀ g : Fld, (∀ f ∈ l, g.key ≠ f.key) → t.rd g = s.rd g) ∧ t.mem = s.mem ∧ t.shadow = s.shadow ∧ t.out = s.out ∧
      t.sys = s.sys ∧ t.slot.respDue = s.slot.respDue ∧ t.slot.respHeld = s.slot.respHeld ∧
      t.slot.wakeRun = s.slot.wakeRun ∧ t.slot.logicOn = s.slot.logicOn ∧ t.slot.quietWait = false :=
  ⟨h.rd, h.mem, h.shadow, h.out, h.sys, h.due, h.held, h.wakes, h.power, h.quiet⟩

/-- The frame's octets counted and kept, as the module acts on it. -/
def State.frameTaken (s : State) (o : List Byte) : State := (s.frameCounted o).sbLast o

/-- The registers a frame that is acted on changes by itself. -/
def frameFlds : List Fld := F.SLOT_BUS_CNT_GOOD :: sbLastFlds

theorem frameTaken_step (s : State) (o : List Byte) :
    BusStep frameFlds { s with slot := { s.slot with quietWait := false } } (s.frameTaken o) :=
  ((BusStep.sbCarry _ o).trans (BusStep.wrOf _ List.mem_cons_self _)).trans
    ((BusStep.sbLast _ o).mono fun _ hf => List.mem_cons_of_mem _ hf)

/-- SLOT_SB_LAST is none of the slot's other fields. -/
theorem sbLast_ne {g : Fld} (haddr : g.addr < 0x40190040) (hlo : g.lo < 32) : ∀ f ∈ sbLastFlds, g.key ≠ f.key := by
  intro f hf
  obtain ⟨i, hi, rfl⟩ := List.mem_map.mp hf
  simp only [Fld.key, F.SLOT_SB_LAST_OCTETS]
  omega

theorem State.frameTaken_good (s : State) (o : List Byte) :
    (s.frameTaken o).rd F.SLOT_BUS_CNT_GOOD = (s.rd F.SLOT_BUS_CNT_GOOD + 1) % 2 ^ 16 :=
  ((BusStep.sbLast _ o).rd _ (sbLast_ne (by decide) (by decide))).trans (State.rd_wr_same _ _ _)

/-- A field of the slot below SLOT_SB_LAST that is not GOOD stands through a frame. -/
theorem State.frameTaken_rd (s : State) (o : List Byte) {g : Fld} (haddr : g.addr < 0x40190040) (hlo : g.lo < 32)
    (hgood : g.key ≠ F.SLOT_BUS_CNT_GOOD.key) : (s.frameTaken o).rd g = s.rd g :=
  (frameTaken_step s o).unquiet.1 g fun f hf => by
    rcases List.mem_cons.mp hf with rfl | hf
    · exact hgood
    · exact sbLast_ne haddr hlo f hf

/-- A request to the module's own address that begins a frame is counted, kept, acted on and committed. -/
theorem State.slotFrame_eq {s : State} {addr quietUs : Nat} (cmd : Nat) (payload : List Byte) (act : State → State)
    (hup : s.busUp = true) (hbegins : s.frameBegins quietUs = true) (hen : s.isSet F.SLOT_BUS_CFG_ENABLE = true)
    (haddr : addr = s.rd F.SLOT_STATUS_ADDR) :
    s.slotFrame addr cmd payload quietUs act =
      (act (s.frameTaken (slotFrameOctets addr cmd false payload))).commit bSLOT := by
  have hacts : s.actsOn addr = true := by simp [State.actsOn, hen, haddr]
  unfold State.slotFrame State.validFrame
  rw [if_pos ⟨hup, hbegins⟩, hacts]
  rfl

/-- A response held for sending where none is due. -/
def State.responseDue (s : State) (addr cmd : Nat) (payload : List Byte) : State :=
  { s with slot := { s.slot with respDue := some ⟨addr, cmd, payload⟩ } }

theorem State.responseDue_rd (s : State) (addr cmd : Nat) (payload : List Byte) (g : Fld) :
    (s.responseDue addr cmd payload).rd g = s.rd g := rfl

theorem State.respond_eq {s : State} {addr : Nat} (cmd : Nat) (payload : List Byte) (haddr : addr ≠ 63)
    (hdue : s.slot.respDue = none) :
    s.respond addr cmd payload = s.responseDue (s.rd F.SLOT_STATUS_ADDR) cmd payload := by
  unfold State.respond
  rw [if_neg haddr]
  simp only [hdue]
  rfl

section
variable {s : State} {a : BitVec 6} {q : Nat} (hup : s.busUp = true) (hbegins : s.frameBegins q = true)
  (hen : s.isSet F.SLOT_BUS_CFG_ENABLE = true) (haddr : a.toNat = s.rd F.SLOT_STATUS_ADDR) (ha : a ≠ 63)
  (hdue : s.slot.respDue = none) (hpend : s.pendingIn bSLOT = false)
include hup hbegins hen haddr ha hdue hpend

/-- A frame that asks and is answered leaves the frame kept and its response due. -/
theorem State.slotFrame_answered (cmd rcmd : Nat) (payload : List Byte) (answer : State → List Byte) :
    s.slotFrame a.toNat cmd payload q (fun s => s.respond a.toNat rcmd (answer s)) =
      (s.frameTaken (slotFrameOctets a.toNat cmd false payload)).responseDue a.toNat rcmd
        (answer (s.frameTaken (slotFrameOctets a.toNat cmd false payload))) := by
  have ha : a.toNat ≠ 63 := fun h => ha (BitVec.eq_of_toNat_eq h)
  rw [State.slotFrame_eq cmd payload _ hup hbegins hen haddr]
  obtain ⟨-, -, hshadow, -, -, hd, -, -, -, -⟩ := (frameTaken_step s (slotFrameOctets a.toNat cmd false payload)).unquiet
  have hown := s.frameTaken_rd (slotFrameOctets a.toNat cmd false payload) (g := F.SLOT_STATUS_ADDR) (by decide) (by decide)
    (by decide)
  generalize s.frameTaken (slotFrameOctets a.toNat cmd false payload) = u at hshadow hd hown ⊢
  rw [State.respond_eq rcmd _ ha (hd.trans hdue), hown, ← haddr]
  refine State.commitSel_of_pendingIn ?_ _
  rw [← hpend]
  exact congrArg (fun l : List (Nat × Nat) => l.any fun e => inBlock bSLOT e.1) hshadow

theorem ping_answered : ∃ t, exec (.ping a q) s = .next t ∧ t.slot.respDue = some ⟨a.toNat, 0x81, []⟩ ∧
    t.rd F.SLOT_BUS_CNT_GOOD = (s.rd F.SLOT_BUS_CNT_GOOD + 1) % 2 ^ 16 ∧
    t.rd (F.SLOT_SB_LAST_OCTETS 0) = ofOctetsLE ((slotFrameOctets a.toNat 1 false []).take 4) ∧
    RegsKept (F.SLOT_BUS_CNT_GOOD :: (List.range 10).map F.SLOT_SB_LAST_OCTETS) s t ∧ MemKept s t := by
  have hexec : exec (.ping a q) s = .next (s.ended (s.slotPing a.toNat q)) := finish_ended s _
  have heq : s.slotPing a.toNat q = _ :=
    State.slotFrame_answered hup hbegins hen haddr ha hdue hpend 1 0x81 [] fun _ => []
  rw [heq] at hexec
  obtain ⟨hrd, hmem, -⟩ := (frameTaken_step s (slotFrameOctets a.toNat 1 false [])).unquiet
  have hgood := s.frameTaken_good (slotFrameOctets a.toNat 1 false [])
  have hfirst : (s.frameTaken (slotFrameOctets a.toNat 1 false [])).rd (F.SLOT_SB_LAST_OCTETS 0) = _ := State.sbLast_first _ _
  generalize s.frameTaken (slotFrameOctets a.toNat 1 false []) = u at hrd hmem hgood hfirst hexec
  refine ⟨_, hexec, ?_, (State.ended_rd _ _ (Fld.notRun (by decide))).trans hgood,
    (State.ended_rd _ _ (Fld.notRun (by decide))).trans hfirst, State.ended_regsKept fun g hg => hrd g hg,
    State.ended_memKept hmem⟩
  rw [State.ended_slot]
  rfl

/-- The payload of a STATUS response (R71). -/
def State.statusOctets (s : State) : List Byte :=
  octetsLE 4 0x74160002 ++ octetsLE 1 s.powerState ++ octetsLE 2 s.moduleId ++
    octetsLE 1 (b2n (s.rd F.SLOT_PRIMER_STAT_STATE == 0x02) + 2 * b2n (s.isSet F.SLOT_STATUS_EJECT_PREP) + 4 * b2n s.marginStands)

omit hup hbegins hen haddr ha hdue hpend in
theorem State.length_statusOctets (s : State) : s.statusOctets.length = 8 := by
  simp only [State.statusOctets, List.length_append, length_octetsLE]

theorem status_answered : ∃ t p, exec (.status a q) s = .next t ∧ t.slot.respDue = some ⟨a.toNat, 0x83, p⟩ ∧ p.length = 8 := by
  have hexec : exec (.status a q) s = .next (s.ended (s.slotStatus a.toNat q)) := finish_ended s _
  have heq : s.slotStatus a.toNat q = _ :=
    State.slotFrame_answered hup hbegins hen haddr ha hdue hpend 3 0x83 [] State.statusOctets
  rw [heq] at hexec
  refine ⟨_, _, hexec, ?_, State.length_statusOctets (s.frameTaken (slotFrameOctets a.toNat 3 false []))⟩
  rw [State.ended_slot]
  rfl

omit hup hbegins hen haddr ha hdue hpend in
/-- A request that is none of the table is refused. -/
theorem State.slotBad_eq (addr : Nat) {cmd : Byte} {payload : List Byte} (hlen : payload.length ≤ 32)
    (hempty : cmd ≠ 1 ∧ cmd ≠ 3 ∨ payload ≠ []) (hwake : cmd ≠ 2 ∨ ∀ l, payload = [l] → 1 < l.toNat) :
    s.slotBad addr cmd.toNat payload q = s.slotRefuse addr cmd.toNat payload q := by
  have hcmd (c : Byte) (h : cmd.toNat = c.toNat) : cmd = c := BitVec.eq_of_toNat_eq h
  unfold State.slotBad State.slotRequest
  rw [if_neg (by omega)]
  split
  · next h => exact absurd (hempty.resolve_right (not_not.mpr rfl)).1 (not_not.mpr (hcmd 1 h))
  · next l h => rw [if_neg (Nat.not_le.mpr ((hwake.resolve_left (not_not.mpr (hcmd 2 h))) l rfl))]
  · next h => exact absurd (hempty.resolve_right (not_not.mpr rfl)).2 (not_not.mpr (hcmd 3 h))
  · rfl

theorem slotBadRequest_answered (cmd : Byte) (payload : List Byte) (hlen : payload.length ≤ 32)
    (hempty : cmd ≠ 1 ∧ cmd ≠ 3 ∨ payload ≠ []) (hwake : cmd ≠ 2 ∨ ∀ l, payload = [l] → 1 < l.toNat) :
    ∃ t, exec (.slotBadRequest a cmd payload q) s = .next t ∧ t.slot.respDue = some ⟨a.toNat, 0xFF, o1 stBAD⟩ := by
  have hexec : exec (.slotBadRequest a cmd payload q) s = .next (s.ended (s.slotBad a.toNat cmd.toNat payload q)) :=
    finish_ended s _
  have heq : s.slotRefuse a.toNat cmd.toNat payload q = _ :=
    State.slotFrame_answered hup hbegins hen haddr ha hdue hpend cmd.toNat 0xFF payload fun _ => o1 stBAD
  rw [State.slotBad_eq a.toNat hlen hempty hwake, heq] at hexec
  refine ⟨_, hexec, ?_⟩
  rw [State.ended_slot]
  rfl

end

/-! ## A WAKE of a parked module (R71, R434, R435) -/

section
variable {s : State} {a : BitVec 6} {q : Nat} (hup : s.busUp = true) (hbegins : s.frameBegins q = true)
  (hen : s.isSet F.SLOT_BUS_CFG_ENABLE = true) (haddr : a.toNat = s.rd F.SLOT_STATUS_ADDR) (ha : a ≠ 63)
  (hdue : s.slot.respDue = none) (hwakes : s.slot.wakeRun = []) (hmode : s.mode = 4) (hej : s.ejecting = false)
  (hpow : s.slot.logicOn = true) (hlevel : s.sys.levelTo = none)
include hwakes hmode hej hpow hlevel

/-- The counts of a WAKE that is taken. -/
def State.wakeCounted (s : State) : State := (s.inc F.PWR_WAKE_CNT_EDGE_TAKEN).inc F.SLOT_WAKE_CNT_WAKES

theorem State.wakeTaken_parked (l : Nat) : s.wakeTaken l = (stOK, s.wakeCounted.wakeParked l) := by
  unfold State.wakeTaken
  extract_lets u v _
  have hmode1 : u.mode = 4 := (s.rd_wr_other _ (by decide)).trans hmode
  have hej1 : u.ejecting = false := (congrArg (· != 0) (s.rd_wr_other _ (by decide))).trans hej
  have hpow1 : u.slot.logicOn = true := hpow
  have hwakes1 : u.slot.wakeRun = [] := hwakes
  rw [if_neg (by rw [hmode1, hej1, hpow1]; decide), if_neg (by rw [hwakes1]; exact Bool.false_ne_true)]
  have hmode2 : v.mode = 4 := (u.rd_wr_other _ (by decide)).trans hmode1
  have hlevel2 : v.sys.levelTo = none := hlevel
  rw [if_neg (by rw [hlevel2]; decide)]
  simp only [hmode2]
  rfl

omit hwakes hmode hej hpow hlevel in
/-- A WAKE frame of level `l` outside the window. -/
theorem State.slotWake_eq (addr : Nat) {l : Byte} (hl : l.toNat ≤ 1) : s.slotWake addr l.toNat false q =
    s.slotFrame addr 2 (o1 l.toNat) q (fun s =>
      ((s.inc F.PWR_WAKE_CNT_EDGE_IN).wakeTaken l.toNat).2.respond addr 0x82
        (o1 ((s.inc F.PWR_WAKE_CNT_EDGE_IN).wakeTaken l.toNat).1)) := by
  have hone : o1 l.toNat = [l] := by
    rw [o1, octetsLE, octetsLE, BitVec.ofNat_toNat, BitVec.setWidth_eq]
  unfold State.slotWake State.slotRequest
  rw [if_neg (by simp [hone])]
  simp only [hone, hl, if_true]
  rw [State.wakeRequest, hone]
  rfl

omit hwakes hmode hej hpow hlevel in
/-- What a parked module's WAKE leaves (R434). -/
theorem State.wakeParked_spec (s : State) (l : Nat) :
    (s.wakeCounted.wakeParked l).rd F.SLOT_STATUS_ADDR = s.rd F.SLOT_STATUS_ADDR ∧
      (s.wakeCounted.wakeParked l).slot.respDue = s.slot.respDue ∧ (s.wakeCounted.wakeParked l).slot.wakeRun = [l] ∧
      (s.wakeCounted.wakeParked l).sys.parkLatch = false ∧
      (s.wakeCounted.wakeParked l).sys.levelTo = some (if l = 0 then 1 else 2) ∧
      (s.wakeCounted.wakeParked l).rd F.PWR_MODE_MODE = 0 := by
  have hcounted : s.wakeCounted.slot = s.slot := by simp only [State.wakeCounted, State.inc_eq, State.wr_slot]
  have hadr : s.wakeCounted.rd F.SLOT_STATUS_ADDR = s.rd F.SLOT_STATUS_ADDR :=
    (State.rd_wr_other _ _ (by decide)).trans (State.rd_wr_other _ _ (by decide))
  generalize s.wakeCounted = u at hcounted hadr ⊢
  refine ⟨(u.rd_wr_other 0 (by decide)).trans hadr, ?_, rfl, rfl, rfl, u.rd_wr_fits _ (by decide)⟩
  rw [← hcounted]
  rfl

include hup hbegins hen haddr ha hdue

theorem wake_answered (l : Byte) (hl : l.toNat ≤ 1) :
    ∃ t, exec (.wake a l false q) s = .next t ∧ t.slot.respDue = some ⟨a.toNat, 0x82, o1 stOK⟩ ∧
      t.slot.wakeRun = [l.toNat] ∧ t.sys.parkLatch = false ∧ t.mode = 0 ∧
      t.sys.levelTo = some (if l = 0 then 1 else 2) := by
  have hexec : exec (.wake a l false q) s = .next (s.ended (s.slotWake a.toNat l.toNat false q)) := finish_ended s _
  rw [State.slotWake_eq a.toNat hl, State.slotFrame_eq 2 _ _ hup hbegins hen haddr] at hexec
  have hkept := (frameTaken_step s (slotFrameOctets a.toNat 2 false (o1 l.toNat))).unquiet
  obtain ⟨hrd, -, -, -, hsys, hd, -, hw, hp, -⟩ := hkept
  have hown := s.frameTaken_rd (slotFrameOctets a.toNat 2 false (o1 l.toNat)) (g := F.SLOT_STATUS_ADDR) (by decide) (by decide)
    (by decide)
  have hej' := s.frameTaken_rd (slotFrameOctets a.toNat 2 false (o1 l.toNat)) (g := F.SLOT_STATUS_EJECT_ACTIVE) (by decide)
    (by decide) (by decide)
  have hframe : ∀ f ∈ frameFlds, F.PWR_MODE_MODE.key ≠ f.key := by decide
  have hmode' := hrd F.PWR_MODE_MODE hframe
  generalize s.frameTaken (slotFrameOctets a.toNat 2 false (o1 l.toNat)) = u at hexec hsys hd hw hp hown hej' hmode'
  have hmode1 : (u.inc F.PWR_WAKE_CNT_EDGE_IN).mode = 4 := (u.rd_wr_other _ (by decide)).trans (hmode'.trans hmode)
  have hej1 : (u.inc F.PWR_WAKE_CNT_EDGE_IN).ejecting = false :=
    (congrArg (· != 0) ((u.rd_wr_other _ (by decide)).trans hej')).trans hej
  have hslot1 : (u.inc F.PWR_WAKE_CNT_EDGE_IN).slot = u.slot := by rw [State.inc_eq, State.wr_slot]
  have hsys1 : (u.inc F.PWR_WAKE_CNT_EDGE_IN).sys = u.sys := by rw [State.inc_eq, State.wr_sys]
  have hin : (u.inc F.PWR_WAKE_CNT_EDGE_IN).rd F.SLOT_STATUS_ADDR = u.rd F.SLOT_STATUS_ADDR := u.rd_wr_other _ (by decide)
  generalize u.inc F.PWR_WAKE_CNT_EDGE_IN = v at hexec hmode1 hej1 hslot1 hsys1 hin
  have hpark : v.wakeTaken l.toNat = (stOK, v.wakeCounted.wakeParked l.toNat) :=
    State.wakeTaken_parked (by rw [hslot1, hw, hwakes]) hmode1 hej1 (by rw [hslot1, hp, hpow]) (by rw [hsys1, hsys, hlevel]) _
  obtain ⟨hadr, hrespDue, hrun, hlatch, hto, hmode0⟩ := v.wakeParked_spec l.toNat
  have haddr' : (v.wakeCounted.wakeParked l.toNat).rd F.SLOT_STATUS_ADDR = a.toNat := by rw [hadr, haddr, ← hown, ← hin]
  have hdue' : (v.wakeCounted.wakeParked l.toNat).slot.respDue = none := by rw [hrespDue, hslot1, hd, hdue]
  generalize v.wakeCounted.wakeParked l.toNat = w at hexec hpark hrun hlatch hto hmode0 haddr' hdue'
  rw [hpark, State.respond_eq (s := w) _ _ (fun h => ha (BitVec.eq_of_toNat_eq h)) hdue', haddr'] at hexec
  have hzero : l.toNat = 0 ↔ l = 0 := ⟨fun h => BitVec.eq_of_toNat_eq h, fun h => by rw [h]; rfl⟩
  generalize hr : w.responseDue a.toNat 0x82 (o1 stOK) = r at hexec
  have hslot : (r.commit bSLOT).slot = r.slot := State.commitSel_kept State.slot (fun _ _ => rfl) (fun _ _ _ => rfl) r _ _
  have hcsys : (r.commit bSLOT).sys = r.sys := State.commitSel_kept State.sys (fun _ _ => rfl) (fun _ _ _ => rfl) r _ _
  have hcmode : (r.commit bSLOT).rd F.PWR_MODE_MODE = r.rd F.PWR_MODE_MODE :=
    State.OnlyBlock.commitSel (b := bSLOT) r _ (by decide) _ (by decide)
  refine ⟨_, hexec, ?_, ?_, ?_, ?_, ?_⟩
  · rw [State.ended_slot, hslot, ← hr]
    rfl
  · rw [State.ended_slot, hslot, ← hr]
    exact hrun
  · rw [State.ended_sys, hcsys, ← hr]
    exact hlatch
  · rw [State.mode, State.ended_rd _ _ (Fld.notRun (by decide)), hcmode, ← hr, State.responseDue_rd, hmode0]
  · rw [State.ended_sys, hcsys, ← hr]
    exact hto.trans (congrArg some (if_congr hzero rfl rfl))

end

/-! ## What is no frame, and faults (R67, R69, R72, R74, R534) -/

/-- A frame that comes too soon is none. -/
theorem State.slotFrame_soon {s : State} {q : Nat} (h : s.frameBegins q = false) (addr cmd : Nat) (payload : List Byte)
    (act : State → State) : s.slotFrame addr cmd payload q act = s := by
  unfold State.slotFrame State.validFrame
  rw [if_neg (by simp [h])]

theorem frame_soon (a : BitVec 6) (q : Nat) (s : State) (h : s.frameBegins q = false) :
    (∃ t, exec (.ping a q) s = .next t ∧ t.slot = s.slot ∧ RegsKept [] s t ∧ MemKept s t) ∧
      (∃ t, exec (.status a q) s = .next t ∧ t.slot = s.slot ∧ RegsKept [] s t ∧ MemKept s t) := by
  have hping : exec (.ping a q) s = .next (s.ended (s.slotPing a.toNat q)) := finish_ended s _
  have hstatus : exec (.status a q) s = .next (s.ended (s.slotStatus a.toNat q)) := finish_ended s _
  rw [State.slotPing, State.slotFrame_soon h] at hping
  rw [State.slotStatus, State.slotFrame_soon h] at hstatus
  exact ⟨⟨_, hping, State.ended_slot _ _, State.ended_regsKept fun _ _ => rfl, State.ended_memKept rfl⟩,
    ⟨_, hstatus, State.ended_slot _ _, State.ended_regsKept fun _ _ => rfl, State.ended_memKept rfl⟩⟩

/-- A frame's end with nothing shadowed is no more than the frame. -/
theorem State.slotCommit_idle {s t : State} (hshadow : t.shadow = s.shadow) (hpend : s.pendingIn bSLOT = false) :
    t.commit bSLOT = t := by
  refine State.commitSel_of_pendingIn ?_ _
  rw [← hpend]
  exact congrArg (fun l : List (Nat × Nat) => l.any fun e => inBlock bSLOT e.1) hshadow

theorem satInc_lt {m : Nat} (v : Nat) : satInc m v < m + 1 := by
  unfold satInc
  split <;> omega

/-- The wait for quiet that follows a frame that is none. -/
def State.waitsQuiet (s : State) (b : Bool) : State := { s with slot := { s.slot with quietWait := b } }

theorem State.waitsQuiet_rd (s : State) (b : Bool) (g : Fld) : (s.waitsQuiet b).rd g = s.rd g := rfl

/-- A frame ended by its SOF or its LEN waits for 250 µs of quiet (R69). -/
def frameErrorWaits : FrameError → Bool
  | .crc => false
  | .sof => true
  | .len => true

theorem slotFrameDiscard_counts (why : FrameError) (q : Nat) (s : State) (hup : s.busUp = true)
    (hbegins : s.frameBegins q = true) (hpend : s.pendingIn bSLOT = false) :
    ∃ t, exec (.slotFrameDiscard why q) s = .next t ∧
      t.rd F.SLOT_BUS_CNT_CRC_ERR = satInc 255 (s.rd F.SLOT_BUS_CNT_CRC_ERR) ∧ RegsKept [F.SLOT_BUS_CNT_CRC_ERR] s t ∧
      t.slot.quietWait = (match why with | .crc => false | _ => true) ∧ t.slot.respDue = s.slot.respDue ∧ MemKept s t := by
  have hexec : exec (.slotFrameDiscard why q) s = .next (s.ended (s.slotDiscard why q)) := finish_ended s _
  have hstep : BusStep [F.SLOT_BUS_CNT_CRC_ERR] s (s.sbFree.incSat F.SLOT_BUS_CNT_CRC_ERR) :=
    (BusStep.sbFree s).trans (BusStep.wrOf _ List.mem_cons_self _)
  have hcnt : (s.sbFree.incSat F.SLOT_BUS_CNT_CRC_ERR).rd F.SLOT_BUS_CNT_CRC_ERR = satInc 255 (s.rd F.SLOT_BUS_CNT_CRC_ERR) :=
    State.rd_wr_fits _ _ (satInc_lt _)
  have heq : s.slotDiscard why q = (s.sbFree.incSat F.SLOT_BUS_CNT_CRC_ERR).waitsQuiet (frameErrorWaits why) := by
    unfold State.slotDiscard
    rw [if_pos ⟨hup, hbegins⟩]
    generalize s.sbFree.incSat F.SLOT_BUS_CNT_CRC_ERR = u at hstep
    have hidle : (u.waitsQuiet (frameErrorWaits why)).commit bSLOT = u.waitsQuiet (frameErrorWaits why) :=
      State.slotCommit_idle (s := s) hstep.shadow hpend
    refine Eq.trans ?_ hidle
    cases why <;> rfl
  rw [heq] at hexec
  generalize s.sbFree.incSat F.SLOT_BUS_CNT_CRC_ERR = u at hstep hcnt hexec
  refine ⟨_, hexec, ?_, State.ended_regsKept fun g hg => hstep.rd g hg, ?_, ?_, State.ended_memKept hstep.mem⟩
  · rw [State.ended_rd _ _ (Fld.notRun (by decide)), State.waitsQuiet_rd, hcnt]
  · rw [State.ended_slot]
    cases why <;> rfl
  · rw [State.ended_slot, ← hstep.due]
    rfl

/-- The response held becomes due. -/
def State.heldDue (s : State) : State := { s with slot := { s.slot with respDue := s.slot.respHeld, respHeld := none } }

theorem State.heldDue_rd (s : State) (g : Fld) : s.heldDue.rd g = s.rd g := rfl

section
variable {s : State} {r : SlotResp} (hdue : s.slot.respDue = some r)
include hdue

theorem slotResponseSend_sends : ∃ t, exec .slotResponseSend s = .next t ∧
    t.out = .slotFrame (slotFrameOctets r.addr r.cmd true r.payload)
      (sbLevels (s.slot.sbD, s.slot.sbS) (sbBits (slotFrameOctets r.addr r.cmd true r.payload))) :: s.out ∧
    t.slot.respDue = s.slot.respHeld ∧ t.slot.respHeld = none ∧ RegsKept [] s t ∧ MemKept s t := by
  have hexec : exec .slotResponseSend s = .next (s.ended s.slotSend) := finish_ended s _
  have heq : s.slotSend = (s.sbCarry (slotFrameOctets r.addr r.cmd true r.payload)).heldDue.emit
      (.slotFrame (slotFrameOctets r.addr r.cmd true r.payload)
        (sbLevels (s.slot.sbD, s.slot.sbS) (sbBits (slotFrameOctets r.addr r.cmd true r.payload)))) := by
    unfold State.slotSend
    split
    · next r' h =>
      obtain rfl : r' = r := Option.some.inj (h.symm.trans hdue)
      rfl
    · next h => exact absurd (h.symm.trans hdue) (by simp)
  rw [heq] at hexec
  have hstep : BusStep [] s (s.sbCarry (slotFrameOctets r.addr r.cmd true r.payload)) := BusStep.sbCarry s _
  generalize slotFrameOctets r.addr r.cmd true r.payload = o at hexec hstep ⊢
  generalize sbLevels (s.slot.sbD, s.slot.sbS) (sbBits o) = v at hexec ⊢
  generalize s.sbCarry o = u at hexec hstep
  refine ⟨_, hexec, ?_, ?_, ?_, State.ended_regsKept fun g hg => hstep.rd g hg, State.ended_memKept hstep.mem⟩
  · rw [State.ended_out, ← hstep.out]
    rfl
  · rw [State.ended_slot, ← hstep.held]
    rfl
  · rw [State.ended_slot]
    rfl

theorem slotBusCollision_abandons : ∃ t, exec .slotBusCollision s = .next t ∧ t.out = s.out ∧
    t.slot.respDue = s.slot.respHeld ∧ t.slot.respHeld = none ∧ t.slot.quietWait = true ∧
    t.rd F.SLOT_BUS_STAT_COLLISIONS = satInc 255 (s.rd F.SLOT_BUS_STAT_COLLISIONS) ∧
    RegsKept [F.SLOT_BUS_STAT_COLLISIONS] s t ∧ MemKept s t := by
  have hexec : exec .slotBusCollision s = .next (s.ended s.slotCollision) := finish_ended s _
  have heq : s.slotCollision = (s.sbFree.heldDue.waitsQuiet true).incSat F.SLOT_BUS_STAT_COLLISIONS := by
    unfold State.slotCollision
    split
    · rfl
    · next h => exact absurd (h.symm.trans hdue) (by simp)
  rw [heq] at hexec
  have hstep : BusStep [] s s.sbFree := BusStep.sbFree s
  generalize s.sbFree = u at hexec hstep
  have hcnt : (u.heldDue.waitsQuiet true).rd F.SLOT_BUS_STAT_COLLISIONS = s.rd F.SLOT_BUS_STAT_COLLISIONS := by
    rw [State.waitsQuiet_rd, State.heldDue_rd]
    exact hstep.rd _ fun f hf => absurd hf List.not_mem_nil
  refine ⟨_, hexec, ?_, ?_, ?_, ?_, ?_, State.ended_regsKept fun g hg => ?_, State.ended_memKept hstep.mem⟩
  · rw [State.ended_out, ← hstep.out]
    rfl
  · rw [State.ended_slot, ← hstep.held]
    rfl
  · rw [State.ended_slot]
    rfl
  · rw [State.ended_slot]
    rfl
  · rw [State.ended_rd _ _ (Fld.notRun (by decide)), State.incSat, hcnt]
    exact State.rd_wr_fits _ _ (satInc_lt _)
  · rw [State.incSat, State.rd_wr_other _ _ (hg _ List.mem_cons_self), State.waitsQuiet_rd, State.heldDue_rd]
    exact hstep.rd g fun f hf => absurd hf List.not_mem_nil

end

theorem slotFrameTimeout_faults (n q : Nat) (s : State) (hup : s.busUp = true) (hbegins : s.frameBegins q = true) (hn : 66 ≤ n) :
    ∃ t, exec (.slotFrameTimeout n q) s = .next t ∧ t.rd F.SLOT_BUS_STAT_SB_FAULT = 1 ∧ t.rd F.SLOT_BUS_STAT_IGNORING = 1 ∧
      RegsKept [F.SLOT_BUS_STAT_SB_FAULT, F.SLOT_BUS_STAT_IGNORING, F.SLOT_BUS_CNT_TIMEOUT] s t ∧ MemKept s t := by
  have hexec : exec (.slotFrameTimeout n q) s = .next (s.ended (s.slotTimeout n q)) := finish_ended s _
  have heq : s.slotTimeout n q = (((s.sbFree.waitsQuiet false).wr F.SLOT_BUS_STAT_SB_FAULT 1).wr
      F.SLOT_BUS_STAT_IGNORING 1).incSat F.SLOT_BUS_CNT_TIMEOUT := by
    unfold State.slotTimeout
    rw [if_pos ⟨hup, hbegins, hn⟩]
    rfl
  rw [heq] at hexec
  have hstep : BusStep [] s s.sbFree := BusStep.sbFree s
  generalize s.sbFree = u at hexec hstep
  refine ⟨_, hexec, ?_, ?_, State.ended_regsKept fun g hg => ?_, State.ended_memKept hstep.mem⟩
  · rw [State.ended_rd _ _ (Fld.notRun (by decide)), State.incSat, State.rd_wr_other _ _ (by decide),
      State.rd_wr_other _ _ (by decide)]
    exact State.rd_wr_fits _ _ (by decide)
  · rw [State.ended_rd _ _ (Fld.notRun (by decide)), State.incSat, State.rd_wr_other _ _ (by decide)]
    exact State.rd_wr_fits _ _ (by decide)
  · rw [State.incSat, State.rd_wr_other _ _ (hg _ (by simp)), State.rd_wr_other _ _ (hg _ (by simp)),
      State.rd_wr_other _ _ (hg _ (by simp)), State.waitsQuiet_rd]
    exact hstep.rd g fun f hf => absurd hf List.not_mem_nil

theorem idlePattern_heard (n us : Nat) (s : State) (hisland : s.islandOn = true) (hn : 16 ≤ n) (hus : 250 ≤ us) :
    ∃ t, exec (.idlePattern n us) s = .next t ∧ t.rd F.SLOT_BUS_STAT_IGNORING = 0 ∧ t.slot.quietWait = false ∧
      RegsKept [F.SLOT_BUS_STAT_IGNORING] s t ∧ MemKept s t := by
  have hexec : exec (.idlePattern n us) s = .next (s.ended (s.slotIdle n us)) := finish_ended s _
  have heq : s.slotIdle n us = ((if n % 4 = 0 then s else s.sbFree).waitsQuiet false).wr F.SLOT_BUS_STAT_IGNORING 0 := by
    unfold State.slotIdle
    rw [if_pos ⟨hisland, hn, hus⟩]
    rfl
  rw [heq] at hexec
  have hstep : BusStep [] s (if n % 4 = 0 then s else s.sbFree) := by
    split
    · exact BusStep.refl [] s
    · exact BusStep.sbFree s
  generalize (if n % 4 = 0 then s else s.sbFree) = u at hexec hstep
  refine ⟨_, hexec, ?_, ?_, State.ended_regsKept fun g hg => ?_, State.ended_memKept hstep.mem⟩
  · rw [State.ended_rd _ _ (Fld.notRun (by decide))]
    exact State.rd_wr_fits _ _ (by decide)
  · rw [State.ended_slot]
    rfl
  · rw [State.rd_wr_other _ _ (hg _ List.mem_cons_self), State.waitsQuiet_rd]
    exact hstep.rd g fun f hf => absurd hf List.not_mem_nil

theorem frameForOtherSlot_counts (a : BitVec 6) (q : Nat) (s : State) (hup : s.busUp = true) (hbegins : s.frameBegins q = true)
    (ha : a ≠ 63) (hother : a.toNat ≠ s.rd F.SLOT_STATUS_ADDR) (hpend : s.pendingIn bSLOT = false) :
    ∃ t, exec (.frameForOtherSlot a false q) s = .next t ∧
      t.rd F.SLOT_BUS_CNT_GOOD = (s.rd F.SLOT_BUS_CNT_GOOD + 1) % 2 ^ 16 ∧ RegsKept [F.SLOT_BUS_CNT_GOOD] s t ∧
      t.slot.quietWait = false ∧ t.slot.respDue = s.slot.respDue ∧ t.out = s.out ∧ MemKept s t := by
  have hexec : exec (.frameForOtherSlot a false q) s = .next (s.ended (s.slotOther a.toNat false q)) := finish_ended s _
  have ha : a.toNat ≠ 63 := fun h => ha (BitVec.eq_of_toNat_eq h)
  have hstep : BusStep [F.SLOT_BUS_CNT_GOOD] (s.waitsQuiet false) ((s.waitsQuiet false).sbFree.inc F.SLOT_BUS_CNT_GOOD) :=
    (BusStep.sbFree _).trans (BusStep.wrOf _ List.mem_cons_self _)
  have hcnt : ((s.waitsQuiet false).sbFree.inc F.SLOT_BUS_CNT_GOOD).rd F.SLOT_BUS_CNT_GOOD =
      (s.rd F.SLOT_BUS_CNT_GOOD + 1) % 2 ^ 16 := State.rd_wr_same _ _ _
  have heq : s.slotOther a.toNat false q = (s.waitsQuiet false).sbFree.inc F.SLOT_BUS_CNT_GOOD := by
    unfold State.slotOther
    rw [if_pos ⟨Or.inr fun h => h.elim ha hother, hup, hbegins⟩]
    exact State.slotCommit_idle (s := s) hstep.shadow hpend
  rw [heq] at hexec
  obtain ⟨hrd, hmem, -, hout, -, hd, -, -, -, hq⟩ := BusStep.unquiet hstep
  generalize (s.waitsQuiet false).sbFree.inc F.SLOT_BUS_CNT_GOOD = u at hexec hcnt hrd hmem hout hd hq
  refine ⟨_, hexec, (State.ended_rd _ _ (Fld.notRun (by decide))).trans hcnt, State.ended_regsKept hrd, ?_, ?_, ?_,
    State.ended_memKept hmem⟩
  · rw [State.ended_slot, hq]
  · rw [State.ended_slot, hd]
  · rw [State.ended_out, hout]

/-- Settles O15: a frame to the module's own address is kept, acted on and committed, in that order, and each fault of the bus
changes its own count and the decoder alone. -/
theorem slotBusCommands : Obligations.SlotBusCommands := by
  unfold Obligations.SlotBusCommands
  refine ⟨fun w l => ⟨?_, fun i hi => ?_⟩, frame_soon, fun a q s hup hbegins hen haddr ha hdue hpend =>
    ⟨ping_answered hup hbegins hen haddr ha hdue hpend, status_answered hup hbegins hen haddr ha hdue hpend,
      slotBadRequest_answered hup hbegins hen haddr ha hdue hpend, fun l hl hwakes hmode hej hpow hlevel =>
        wake_answered hup hbegins hen haddr ha hdue hwakes hmode hej hpow hlevel l hl⟩,
    slotFrameDiscard_counts, fun r s hdue => ⟨slotResponseSend_sends hdue, slotBusCollision_abandons hdue⟩,
    slotFrameTimeout_faults, idlePattern_heard, frameForOtherSlot_counts⟩
  · rw [sbRead_sbLevels, sbOctets_sbBits]
  · exact sbLevels_toggle (sbBits l) w i (by rw [length_sbBits]; exact hi)

end Sys2Proof.Machine
end

section
/-!
PROOFS. The Pegbox's registers: queue configuration, profiles, descriptor reads, the low-water mark and the ledger of cells
(R109, R135, R136, R532).
-/
namespace Sys2Proof.Machine

/-! ## A word that passes the checks -/

/-- The state in which the limits judge a word: every value in question taken as applied (R41). -/
def State.taken (s : State) (req a b : Nat) (r : RegDef) (ix : List Nat) (v : Nat) : State :=
  r.flds.foldl (fun (t : State) f =>
    if f.acc = .rw ∧ ¬ f.perReq then t.wr (s.fieldFor req a ix f) (bits v f.lo f.width) else t) (s.ahead b)

/-- A word of which no field is static and each passes its own check is accepted where the limits hold. -/
theorem State.writeReason_zero (s : State) (req a b : Nat) (r : RegDef) (ix : List Nat) (v : Nat)
    (htag : r.written.all (fun f => f.tag != .s) = true)
    (hchk : r.written.all (fun f => chkField f.chk f.width (bits v f.lo f.width) == (true, true)) = true)
    (hrec : b ≠ bREC) (hlim : State.limits s (s.taken req a b r ix v) b r.off (ix.headD 0) = true)
    (hown : s.ownLimit req b r.off v = true) : s.writeReason req a b r ix v = 0 := by
  have hstatic : r.written.any (fun f => f.tag == .s && s.staticNow b r.off (ix.headD 0) &&
      bits v f.lo f.width != s.rd (s.fieldFor req a ix f)) = false := by
    refine List.any_eq_false.mpr fun f hf => ?_
    have htag := List.all_eq_true.mp htag f hf
    simp only [bne_iff_ne, ne_eq] at htag
    simp [htag]
  have hfield : ∀ p : Bool × Bool → Bool, p (true, true) = true →
      r.written.any (fun f => !p (chkField f.chk f.width (bits v f.lo f.width))) = false := fun p hp => by
    refine List.any_eq_false.mpr fun f hf => ?_
    have hchk := List.all_eq_true.mp hchk f hf
    simp only [beq_iff_eq] at hchk
    simp [hchk, hp]
  have hfirst := hfield Prod.fst rfl
  have hsecond := hfield Prod.snd rfl
  unfold State.taken at hlim
  simp only [State.writeReason, hstatic, hfirst, hsecond, hlim, hown, beq_eq_false_iff_ne.mpr hrec]
  rfl

/-! ## The rows -/

section
variable (req : Fin 36) {s : State} (hon : s.blockOn bPEG = true)
include hon

theorem State.addrUp_peg {a : Nat} (h : 0x40040000 ≤ a ∧ a < 0x4004FF00) : s.addrUp a = true :=
  (s.addrUp_block bPEG a (by decide) (by simp only [blockBase, bPEG, blockNo]; omega)
    (by simp only [blockBase, bPEG, blockNo]; omega)).trans hon

theorem exec_pegQcfg {v : BitVec 32} {t : State} (h : s.qcfgWrite (s.rdReq req F.PEG_QSEL_QUEUE) v.toNat = (true, t)) :
    exec (.pegQcfg req v) s = .next (s.ended (t.answer req 0x40040008 stOK 0)) := by
  have hwrite : s.regWrite req 0x40040008 v.toNat WriteMore.none = (stOK, t) := by
    unfold State.regWrite
    rw [if_neg (by simp [State.addrUp_peg hon (a := 0x40040008) (by decide)]), if_neg (by decide),
      show regBlock 0x40040008 = some (bPEG, 8) by decide, show lookupReg 0x40040008 = some (regsPeg1[2], []) by decide]
    simp only [and_self, if_true, h]
  have hrow : s.rowWrite req 0x40040008 v.toNat WriteMore.none = t.answer req 0x40040008 stOK 0 := by
    rw [State.rowWrite, hwrite]
  exact congrArg (finish s) hrow

/-- A register with fields alone, written by a row. -/
theorem State.rowWrite_pegFields {a v : Nat} {r : RegDef} {ix : List Nat} {off : Nat} (ha : 0x40040000 ≤ a ∧ a < 0x4004FF00)
    (hal : a % 4 = 0) (hb : regBlock a = some (bPEG, off)) (hl : lookupReg a = some (r, ix)) (hoff : off ≠ 8)
    (hwo : r.flds.all (fun f => f.acc != .wo) = true) (htag : r.written.all (fun f => f.tag != .s) = true)
    (hchk : r.written.all (fun f => chkField f.chk f.width (bits v f.lo f.width) == (true, true)) = true)
    (hlim : ∀ t : State, State.limits s t bPEG r.off (ix.headD 0) = true) :
    s.rowWrite req a v WriteMore.none = (s.putList req a bPEG ix v r.flds).answer req a stOK 0 := by
  have hreason := s.writeReason_zero req a bPEG r ix v htag hchk (by decide) (hlim _) rfl
  have hwrite := (s.regWrite_accept (req := req) (x := WriteMore.none) (State.addrUp_peg hon ha) hal hb hl
    (fun h => hoff h.2) hreason).trans (s.applyWrite_plain req v ix (by decide) hb (lookupReg_mem hb hl) hwo)
  rw [State.rowWrite, hwrite]

theorem exec_pegFreeMinClear : exec (.pegFreeMinClear req) s =
    .next (s.ended ((s.wr F.PEG_FREE_MIN_MIN (s.rd F.PEG_CELL_FREE_FREE)).answer req 0x4004003C stOK 0)) :=
  congrArg (finish s) (s.rowWrite_act (req := req) (a := 0x4004003C) (v := 2 ^ 31) (x := WriteMore.none)
    (State.addrUp_peg hon (by decide)) (by decide) (b := bPEG) (off := 0x3C) (r := regsPeg1[11]) (ix := []) (by decide)
    (by decide) (by decide) (by decide) (by decide) rfl rfl (by decide) (by decide))

theorem exec_pegAuditSnap : exec (.pegAuditSnap req) s = .next (s.ended (s.pegAudit.answer req 0x40040044 stOK 0)) :=
  congrArg (finish s) (s.rowWrite_act (req := req) (a := 0x40040044) (v := 1) (x := WriteMore.none)
    (State.addrUp_peg hon (by decide)) (by decide) (b := bPEG) (off := 0x44) (r := regsPeg1[13]) (ix := []) (by decide)
    (by decide) (by decide) (by decide) (by decide) rfl rfl (by decide) (by decide))

/-- A read of PEG_QSTAT's first word latches the others (R109). -/
theorem exec_pegQstatRead {d : Nat} (hd : (s.desc (s.rdReq req F.PEG_QSEL_QUEUE)).word128 = d) :
    exec (.pegQstatRead req) s = .next (s.ended ((s.latch req ([1, 2, 3].map fun k => (0x40040010 + 4 * k,
      bits d (32 * k) 32))).answer req 0x40040010 stOK (bits d 0 32))) := by
  have hread : s.readWord req 0x40040010 bPEG 0x10 regsPeg1[3] [0] =
      (bits d 0 32, s.latch req ([1, 2, 3].map fun k => (0x40040010 + 4 * k, bits d (32 * k) 32))) := by
    rw [← hd]
    rfl
  have hrow : s.rowRead req 0x40040010 = (s.latch req ([1, 2, 3].map fun k => (0x40040010 + 4 * k,
      bits d (32 * k) 32))).answer req 0x40040010 stOK (bits d 0 32) := by
    rw [State.rowRead, s.regRead_named (State.addrUp_peg hon (by decide)) (by decide)
      (show regBlock 0x40040010 = some (bPEG, 0x10) by decide) (show lookupReg 0x40040010 = some (regsPeg1[3], [0]) by decide),
      hread]
  exact congrArg (finish s) hrow

end

/-! ## PEG_QCFG (R532) -/

/-- The descriptor with what a word of PEG_QCFG changes at once: the W1C bits and ENABLE. -/
def Desc.enabledBy (d : Desc) (v : Nat) : Desc :=
  { d with poisonSeen := d.poisonSeen && !bitAt v 12, dropSeen := d.dropSeen && !bitAt v 11, enable := bitAt v 0 }

/-- The H fields of a word of PEG_QCFG. -/
def qcfgEntry (v : Nat) : QShadow := ⟨bits v 7 4, bits v 2 5, bitAt v 1⟩

/-- The descriptor with the H fields of an entry. -/
def Desc.configured (d : Desc) (e : QShadow) : Desc := { d with profile := e.profile, consumer := e.consumer, notifyEn := e.notifyEn }

@[simp] theorem State.setDesc_desc_same (s : State) (q : Nat) (d : Desc) : (s.setDesc q d).desc q = d := AMap.get_set_same _ _ _ _

theorem State.setDesc_desc_other (s : State) {q p : Nat} (d : Desc) (h : p ≠ q) : (s.setDesc q d).desc p = s.desc p :=
  AMap.get_set_other _ _ _ h

/-- A queue entry put into the queue shadow. -/
def State.qshadowSet (s : State) (q : Nat) (e : QShadow) : State :=
  { s with peg := { s.peg with qshadow := s.peg.qshadow.set q e } }

section
variable {s : State} {q v : Nat}

theorem State.qcfgWrite_idle (hrun : s.run bPEG = false) :
    s.qcfgWrite q v = (true, s.setDesc q (((s.desc q).enabledBy v).configured (qcfgEntry v))) := by
  unfold State.qcfgWrite
  rw [if_pos (by simp [hrun])]
  rfl

/-- A word of PEG_QCFG taken while the Pegbox runs. -/
theorem State.qcfgWrite_runs (hrun : s.run bPEG = true)
    (hroom : s.peg.qshadow.length < 64 ∨ (s.queueQuiet q = true ∧ s.isSet (F.SHADOW_HOLD bPEG) = false)) :
    s.qcfgWrite q v = (true,
      if s.queueQuiet q then ((s.setDesc q ((s.desc q).enabledBy v)).qshadowSet q (qcfgEntry v)).boundary q
      else (s.setDesc q ((s.desc q).enabledBy v)).qshadowSet q (qcfgEntry v)) := by
  have hquiet : ((s.setDesc q ((s.desc q).enabledBy v)).qshadowSet q (qcfgEntry v)).queueQuiet q = s.queueQuiet q := by
    have hdesc : ((s.setDesc q ((s.desc q).enabledBy v)).qshadowSet q (qcfgEntry v)).desc q = (s.desc q).enabledBy v :=
      State.setDesc_desc_same s q _
    unfold State.queueQuiet State.hasPacket
    rw [hdesc]
    rfl
  unfold State.qcfgWrite
  rw [if_neg (by simp [hrun]), if_neg ?_]
  · show (true, _) = (true, _)
    rw [← hquiet]
    rfl
  · rintro ⟨-, hfull, hnot⟩
    rcases hroom with hroom | ⟨hq, hhold⟩
    · omega
    · exact hnot ⟨hq, by simp [hhold]⟩

/-- A boundary with HOLD 0 takes the queue's entry out of the shadow and into its descriptor. -/
theorem State.boundary_takes {e : QShadow} (hhold : s.isSet (F.SHADOW_HOLD bPEG) = false) (he : s.peg.qshadow.find q = some e) :
    (s.boundary q).desc q = (s.desc q).configured e ∧ (s.boundary q).peg.qshadow.find q = none ∧
      s.OnlyBlock bPEG (s.boundary q) ∧ (s.boundary q).mem = s.mem := by
  have heq : s.boundary q = (s.applyQ q e).commit bPEG := by
    unfold State.boundary
    rw [if_neg (by simp [hhold])]
    simp only [he]
  have hpeg : ((s.applyQ q e).commit bPEG).peg = (s.applyQ q e).peg :=
    State.commitSel_kept State.peg (fun _ _ => rfl) (fun _ _ _ => rfl) _ _ _
  have hmem : ((s.applyQ q e).commit bPEG).mem = (s.applyQ q e).mem :=
    State.commitSel_kept State.mem (fun _ _ => rfl) (fun _ _ _ => rfl) _ _ _
  have honly : s.OnlyBlock bPEG (s.applyQ q e) :=
    State.OnlyBlock.wr { s.setDesc q ((s.desc q).configured e) with
      peg := { (s.setDesc q ((s.desc q).configured e)).peg with qshadow := s.peg.qshadow.erase q } } (by decide) _
  rw [heq]
  refine ⟨?_, ?_, honly.trans (State.OnlyBlock.commitSel _ _ (by decide)), hmem⟩
  · rw [State.desc, hpeg]
    exact AMap.get_set_same _ _ _ _
  · rw [hpeg]
    exact AMap.find_erase_same _ _

end

section
variable (req : Fin 36) (v : BitVec 32) {s : State} (hon : s.blockOn bPEG = true)
include hon

theorem pegQcfg_idle (hrun : s.run bPEG = false) : ∃ t, exec (.pegQcfg req v) s = .next t ∧
    (t.desc (s.rdReq req F.PEG_QSEL_QUEUE)).enable = bitAt v.toNat 0 ∧
    (t.desc (s.rdReq req F.PEG_QSEL_QUEUE)).notifyEn = bitAt v.toNat 1 ∧
    (t.desc (s.rdReq req F.PEG_QSEL_QUEUE)).consumer = bits v.toNat 2 5 ∧
    (t.desc (s.rdReq req F.PEG_QSEL_QUEUE)).profile = bits v.toNat 7 4 ∧
    (∀ q, q ≠ s.rdReq req F.PEG_QSEL_QUEUE → t.desc q = s.desc q) ∧ RegsKept [] s t ∧ MemKept s t := by
  have hexec := exec_pegQcfg req hon (State.qcfgWrite_idle (q := s.rdReq req F.PEG_QSEL_QUEUE) (v := v.toNat) hrun)
  generalize s.rdReq req F.PEG_QSEL_QUEUE = q at hexec ⊢
  have hdesc (p : Nat) : (s.ended ((s.setDesc q (((s.desc q).enabledBy v.toNat).configured (qcfgEntry v.toNat))).answer req
      0x40040008 stOK 0)).desc p = (s.setDesc q (((s.desc q).enabledBy v.toNat).configured (qcfgEntry v.toNat))).desc p :=
    State.ended_desc _ _ _
  refine ⟨_, hexec, ?_, ?_, ?_, ?_, fun p hp => ?_, State.ended_regsKept fun _ _ => rfl, State.ended_memKept rfl⟩
  · rw [hdesc, State.setDesc_desc_same]
    rfl
  · rw [hdesc, State.setDesc_desc_same]
    rfl
  · rw [hdesc, State.setDesc_desc_same]
    rfl
  · rw [hdesc, State.setDesc_desc_same]
    rfl
  · rw [hdesc, State.setDesc_desc_other s _ hp]

theorem pegQcfg_quiet (hrun : s.run bPEG = true) (hquiet : s.queueQuiet (s.rdReq req F.PEG_QSEL_QUEUE) = true)
    (hhold : s.isSet (F.SHADOW_HOLD bPEG) = false) : ∃ t, exec (.pegQcfg req v) s = .next t ∧
      (t.desc (s.rdReq req F.PEG_QSEL_QUEUE)).enable = bitAt v.toNat 0 ∧
      (t.desc (s.rdReq req F.PEG_QSEL_QUEUE)).profile = bits v.toNat 7 4 ∧
      t.peg.qshadow.find (s.rdReq req F.PEG_QSEL_QUEUE) = none ∧ BlocksKept [bPEG] s t ∧ MemKept s t := by
  have hexec := exec_pegQcfg req hon (State.qcfgWrite_runs (q := s.rdReq req F.PEG_QSEL_QUEUE) (v := v.toNat) hrun
    (Or.inr ⟨hquiet, hhold⟩))
  rw [if_pos hquiet] at hexec
  generalize s.rdReq req F.PEG_QSEL_QUEUE = q at hexec hquiet ⊢
  have hsame (g : Fld) : ((s.setDesc q ((s.desc q).enabledBy v.toNat)).qshadowSet q (qcfgEntry v.toNat)).rd g = s.rd g := rfl
  have hfind : ((s.setDesc q ((s.desc q).enabledBy v.toNat)).qshadowSet q (qcfgEntry v.toNat)).peg.qshadow.find q =
      some (qcfgEntry v.toNat) := AMap.find_set_same _ _ _
  have hdesc : ((s.setDesc q ((s.desc q).enabledBy v.toNat)).qshadowSet q (qcfgEntry v.toNat)).desc q =
      (s.desc q).enabledBy v.toNat := State.setDesc_desc_same s q _
  have hmem : ((s.setDesc q ((s.desc q).enabledBy v.toNat)).qshadowSet q (qcfgEntry v.toNat)).mem = s.mem := rfl
  generalize (s.setDesc q ((s.desc q).enabledBy v.toNat)).qshadowSet q (qcfgEntry v.toNat) = u at hexec hsame hfind hdesc hmem
  obtain ⟨hd, hf, honly, hm⟩ := State.boundary_takes (s := u) (q := q)
    (by rw [← hhold, State.isSet, State.isSet, hsame]) hfind
  generalize u.boundary q = w at hexec hd hf honly hm
  refine ⟨_, hexec, ?_, ?_, ?_, State.OnlyBlock.kept fun g hg => (honly g hg).trans (hsame g),
    State.ended_memKept (hm.trans hmem)⟩
  · rw [State.ended_desc]
    exact (congrArg Desc.enable hd).trans (congrArg Desc.enable hdesc)
  · rw [State.ended_desc]
    exact congrArg Desc.profile hd
  · rw [State.ended_peg]
    exact hf

theorem pegQcfg_waits (hrun : s.run bPEG = true) (hquiet : s.queueQuiet (s.rdReq req F.PEG_QSEL_QUEUE) = false)
    (hroom : s.peg.qshadow.length < 64) : ∃ t, exec (.pegQcfg req v) s = .next t ∧
      (t.desc (s.rdReq req F.PEG_QSEL_QUEUE)).enable = bitAt v.toNat 0 ∧
      (t.desc (s.rdReq req F.PEG_QSEL_QUEUE)).profile = (s.desc (s.rdReq req F.PEG_QSEL_QUEUE)).profile ∧
      t.peg.qshadow.find (s.rdReq req F.PEG_QSEL_QUEUE) =
        some ⟨bits v.toNat 7 4, bits v.toNat 2 5, bitAt v.toNat 1⟩ ∧ RegsKept [] s t ∧ MemKept s t := by
  have hexec := exec_pegQcfg req hon (State.qcfgWrite_runs (q := s.rdReq req F.PEG_QSEL_QUEUE) (v := v.toNat) hrun
    (Or.inl hroom))
  rw [if_neg (by simp [hquiet])] at hexec
  generalize s.rdReq req F.PEG_QSEL_QUEUE = q at hexec hquiet ⊢
  have hdesc : ((s.setDesc q ((s.desc q).enabledBy v.toNat)).qshadowSet q (qcfgEntry v.toNat)).desc q =
      (s.desc q).enabledBy v.toNat := State.setDesc_desc_same s q _
  refine ⟨_, hexec, ?_, ?_, ?_, State.ended_regsKept fun _ _ => rfl, State.ended_memKept rfl⟩
  · rw [State.ended_desc]
    exact congrArg Desc.enable hdesc
  · rw [State.ended_desc]
    show _ = ((s.desc q).enabledBy v.toNat).profile
    exact congrArg Desc.profile hdesc
  · rw [State.ended_peg]
    exact AMap.find_set_same _ _ _

/-! ## Profiles -/

omit hon in
/-- The registers of the profiles. -/
theorem profile_rows (n : Fin 16) :
    regBlock (0x40040100 + 4 * n.val) = some (bPEG, 0x100 + 4 * n.val) ∧
      lookupReg (0x40040100 + 4 * n.val) = some (regsPeg1[17], [n.val]) ∧
      regBlock (0x40040140 + 4 * n.val) = some (bPEG, 0x140 + 4 * n.val) ∧
      lookupReg (0x40040140 + 4 * n.val) = some (regsPeg1[18], [n.val]) :=
  (by decide : ∀ n : Fin 16, regBlock (0x40040100 + 4 * n.val) = some (bPEG, 0x100 + 4 * n.val) ∧
      lookupReg (0x40040100 + 4 * n.val) = some (regsPeg1[17], [n.val]) ∧
      regBlock (0x40040140 + 4 * n.val) = some (bPEG, 0x140 + 4 * n.val) ∧
      lookupReg (0x40040140 + 4 * n.val) = some (regsPeg1[18], [n.val])) n

theorem exec_pegProfileA (n : Fin 16) (h : 1 ≤ bits v.toNat 19 8 ∧ bits v.toNat 19 8 ≤ 144) :
    exec (.pegProfile req false n v) s = .next (s.ended ((s.putList req (0x40040100 + 4 * n.val) bPEG [n.val] v.toNat
      regsPeg1[17].flds).answer req (0x40040100 + 4 * n.val) stOK 0)) := by
  obtain ⟨hb, hl, -, -⟩ := profile_rows n
  have hchk : (regsPeg1[17].written.all fun f =>
      chkField f.chk f.width (bits v.toNat f.lo f.width) == (true, true)) = true := by
    have hrange : chkField (.range 1 144) 8 (bits v.toNat 19 8) = (true, true) := by simp [chkField, h]
    have hall : (regsPeg1[17].written.all fun f => chkField f.chk f.width (bits v.toNat f.lo f.width) == (true, true)) =
        ((chkField (.range 1 144) 8 (bits v.toNat 19 8) == (true, true)) && true) := rfl
    rw [hall, hrange]
    rfl
  exact congrArg (finish s) (State.rowWrite_pegFields req hon (a := 0x40040100 + 4 * n.val) (by omega) (by omega) hb hl
    (by omega) (by decide) (by decide) hchk fun _ => rfl)

theorem exec_pegProfileB (n : Fin 16) :
    exec (.pegProfile req true n v) s = .next (s.ended ((s.putList req (0x40040140 + 4 * n.val) bPEG [n.val] v.toNat
      regsPeg1[18].flds).answer req (0x40040140 + 4 * n.val) stOK 0)) := by
  obtain ⟨-, -, hb, hl⟩ := profile_rows n
  have hchk : (regsPeg1[18].written.all fun f =>
      chkField f.chk f.width (bits v.toNat f.lo f.width) == (true, true)) = true := rfl
  exact congrArg (finish s) (State.rowWrite_pegFields req hon (a := 0x40040140 + 4 * n.val) (by omega) (by omega) hb hl
    (by omega) (by decide) (by decide) hchk fun _ => rfl)

theorem pegProfile_idle (n : Fin 16) (h : 1 ≤ bits v.toNat 19 8 ∧ bits v.toNat 19 8 ≤ 144) (hrun : s.run bPEG = false) :
    ∃ t, exec (.pegProfile req false n v) s = .next t ∧
      t.rd (F.PEG_PROFILE_A_MAX_CELLS n) = bits v.toNat 0 19 ∧ t.rd (F.PEG_PROFILE_A_MAX_PKT_CELLS n) = bits v.toNat 19 8 ∧
      RegsKept [F.PEG_PROFILE_A_MAX_CELLS n, F.PEG_PROFILE_A_MAX_PKT_CELLS n, F.PEG_PROFILE_A_EXP_ALLOW n] s t ∧
      MemKept s t := by
  have hrunKey : ∀ f ∈ regsPeg1[17].flds, (F.STATE_RUN bPEG).key ≠ (f.at (0x40040100 + 4 * n.val) [n.val]).key := fun f hf => by
    have hlo : f.lo < 32 := (by decide : ∀ f ∈ regsPeg1[17].flds, f.lo < 32) f hf
    simp only [Fld.key, FieldDef.at, F.STATE_RUN, bPEG, blockNo]
    omega
  have htook (f : FieldDef) (hf : f ∈ regsPeg1[17].flds) (hcols : f.acc = .rw ∧ f.perReq = false) :
      (s.putList req (0x40040100 + 4 * n.val) bPEG [n.val] v.toNat regsPeg1[17].flds).rd (f.at (0x40040100 + 4 * n.val) [n.val]) =
        bits v.toNat f.lo f.width :=
    ((State.putList_took req _ bPEG [n.val] v.toNat regsPeg1[17].flds s (by decide) hrunKey hf hcols.1).2.2 hcols.2
      (Or.inr hrun)).1
  have hcells := htook regsPeg1[17].flds[2] (by decide) (by decide)
  have hpkt := htook regsPeg1[17].flds[1] (by decide) (by decide)
  obtain ⟨hmem, -, -⟩ := State.putList_frame req (0x40040100 + 4 * n.val) bPEG [n.val] v.toNat regsPeg1[17].flds s
  have hother (g : Fld) (hg : ∀ f ∈ [F.PEG_PROFILE_A_MAX_CELLS n, F.PEG_PROFILE_A_MAX_PKT_CELLS n, F.PEG_PROFILE_A_EXP_ALLOW n],
      g.key ≠ f.key) : (s.putList req (0x40040100 + 4 * n.val) bPEG [n.val] v.toNat regsPeg1[17].flds).rd g = s.rd g := by
    simp only [List.forall_mem_cons, List.not_mem_nil, false_imp_iff, implies_true, and_true] at hg
    obtain ⟨h0, h1, h2⟩ := hg
    have hkeys : ∀ f ∈ regsPeg1[17].flds, g.key ≠ (f.at (0x40040100 + 4 * n.val) [n.val]).key := by
      have hcons : regsPeg1[17].flds = [regsPeg1[17].flds[0], regsPeg1[17].flds[1], regsPeg1[17].flds[2]] := by decide
      rw [hcons]
      simp only [List.forall_mem_cons, List.not_mem_nil, false_imp_iff, implies_true, and_true]
      exact ⟨h2, h1, h0⟩
    exact (State.putList_other req _ bPEG [n.val] v.toNat regsPeg1[17].flds s hkeys).1
  have hexec := exec_pegProfileA req v hon n h
  generalize s.putList req (0x40040100 + 4 * n.val) bPEG [n.val] v.toNat regsPeg1[17].flds = u
    at hexec hcells hpkt hmem hother
  have hnot {g : Fld} (haddr : g.addr = 0x40040100 + 4 * n.val) (hlo : g.lo < 32) : notRun g.key :=
    Fld.notRun ⟨by omega, hlo⟩
  exact ⟨_, hexec, (State.ended_rd _ _ (hnot rfl (by decide : 0 < 32))).trans hcells,
    (State.ended_rd _ _ (hnot rfl (by decide : 19 < 32))).trans hpkt, State.ended_regsKept hother, State.ended_memKept hmem⟩

theorem pegProfile_runs (n : Fin 16) (hrun : s.run bPEG = true) : ∃ t, exec (.pegProfile req true n v) s = .next t ∧
    RegsKept [] s t ∧ MemKept s t ∧ t.shadow.find (F.PEG_PROFILE_B_MAX_PKTS n).key = some (bits v.toNat 0 16) := by
  have hput : s.putList req (0x40040140 + 4 * n.val) bPEG [n.val] v.toNat regsPeg1[18].flds =
      { s with shadow := s.shadow.set (F.PEG_PROFILE_B_MAX_PKTS n).key (bits v.toNat 0 16) } :=
    if_pos (c := Tag.h = Tag.h ∧ s.run bPEG = true) ⟨rfl, hrun⟩
  have hexec := exec_pegProfileB req v hon n
  rw [hput] at hexec
  refine ⟨_, hexec, State.ended_regsKept fun _ _ => rfl, State.ended_memKept rfl, ?_⟩
  rw [State.ended_shadow]
  exact AMap.find_set_same _ _ _

/-! ## Reads, the low-water mark and the ledger (R109, R135, R136) -/

theorem pegQstatRead_reads : ∃ t, exec (.pegQstatRead req) s = .next t ∧ RegsKept [] s t ∧ MemKept s t ∧
    t.out = .access req 0x40040010 stOK (bits (s.desc (s.rdReq req F.PEG_QSEL_QUEUE)).word128 0 32) :: s.out ∧
    ∀ i, 1 ≤ i → i ≤ 3 → t.latches.find (reqKey req (0x40040010 + 4 * i)) =
      some (bits (s.desc (s.rdReq req F.PEG_QSEL_QUEUE)).word128 (32 * i) 32) := by
  have hexec := exec_pegQstatRead req hon rfl
  generalize (s.desc (s.rdReq req F.PEG_QSEL_QUEUE)).word128 = d at hexec ⊢
  refine ⟨_, hexec, State.ended_regsKept fun _ _ => rfl, State.ended_memKept rfl, ?_, fun i hi hi' => ?_⟩
  · rw [State.ended_out]
    rfl
  · rw [State.ended_latches]
    have hlatch : ((s.latch req ([1, 2, 3].map fun k => (0x40040010 + 4 * k, bits d (32 * k) 32))).answer req 0x40040010 stOK
        (bits d 0 32)).latches = (((s.latches.set (reqKey req (0x40040010 + 4 * 1)) (bits d (32 * 1) 32)).set
          (reqKey req (0x40040010 + 4 * 2)) (bits d (32 * 2) 32)).set (reqKey req (0x40040010 + 4 * 3)) (bits d (32 * 3) 32)) := rfl
    rw [hlatch]
    have hkey {j k : Nat} (h : j ≠ k) : reqKey req (0x40040010 + 4 * j) ≠ reqKey req (0x40040010 + 4 * k) := by
      unfold reqKey
      omega
    obtain rfl | rfl | rfl : i = 1 ∨ i = 2 ∨ i = 3 := by omega
    · rw [AMap.find_set_other _ _ (hkey (by decide)), AMap.find_set_other _ _ (hkey (by decide)), AMap.find_set_same]
    · rw [AMap.find_set_other _ _ (hkey (by decide)), AMap.find_set_same]
    · rw [AMap.find_set_same]

theorem pegFreeMinClear_clears : ∃ t, exec (.pegFreeMinClear req) s = .next t ∧
    t.rd F.PEG_FREE_MIN_MIN = s.rd F.PEG_CELL_FREE_FREE % 2 ^ 20 ∧ RegsKept [F.PEG_FREE_MIN_MIN] s t ∧ MemKept s t :=
  ⟨_, exec_pegFreeMinClear req hon, (State.ended_rd _ _ (Fld.notRun (by decide))).trans (State.rd_wr_same _ _ _),
    State.ended_regsKept fun _ hg => s.rd_wr_other _ (hg _ List.mem_cons_self), State.ended_memKept rfl⟩

omit hon in
/-- The terms of the ledger written to the registers `l`. -/
def State.termsShown (s : State) (t l : List Nat) : State := l.foldl (fun s i => s.wr (F.PEG_AUDIT_VALUE i) (t.getD i 0)) s

omit hon in
theorem State.termsShown_mem (s : State) (t l : List Nat) : (s.termsShown t l).mem = s.mem :=
  foldl_kept State.mem (by intros; rfl) l s

omit hon in
theorem State.termsShown_rd (s : State) (t : List Nat) {l : List Nat} (hl : l.Nodup) :
    ∀ i ∈ l, (s.termsShown t l).rd (F.PEG_AUDIT_VALUE i) = t.getD i 0 % 2 ^ 20 :=
  State.foldl_wr_rd F.PEG_AUDIT_VALUE (fun _ i => t.getD i 0) l hl
    (fun c _ d _ hcd => by
      simp only [Fld.key, F.PEG_AUDIT_VALUE]
      omega)
    (fun _ _ _ _ _ _ _ => rfl) s

omit hon in
theorem State.termsShown_other (s : State) (t : List Nat) {l : List Nat} {g : Fld}
    (h : ∀ i ∈ l, g.key ≠ (F.PEG_AUDIT_VALUE i).key) : (s.termsShown t l).rd g = s.rd g := by
  unfold State.termsShown
  induction l generalizing s with
  | nil => rfl
  | cons i l ih =>
    exact (ih _ fun j hj => h j (List.mem_cons_of_mem _ hj)).trans (s.rd_wr_other _ (h i List.mem_cons_self))

theorem pegAuditSnap_shows : ∃ t, exec (.pegAuditSnap req) s = .next t ∧ t.rd F.PEG_AUDIT_CTRL_VALID = 1 ∧
    (∀ i, i < 6 → t.rd (F.PEG_AUDIT_VALUE i) = s.cellTerms.getD i 0 % 2 ^ 20) ∧
    t.rd F.PEG_AUDIT_CTRL_SNAP_CNT = (s.rd F.PEG_AUDIT_CTRL_SNAP_CNT + 1) % 2 ^ 16 ∧
    RegsKept (F.PEG_AUDIT_CTRL_VALID :: F.PEG_AUDIT_CTRL_SNAP_CNT :: (List.range 6).map F.PEG_AUDIT_VALUE) s t ∧
    MemKept s t := by
  have hexec := exec_pegAuditSnap req hon
  have heq : s.pegAudit =
      ((s.termsShown s.cellTerms (List.range 6)).wr F.PEG_AUDIT_CTRL_VALID 1).inc F.PEG_AUDIT_CTRL_SNAP_CNT := rfl
  rw [heq] at hexec
  have hmem := s.termsShown_mem s.cellTerms (List.range 6)
  have hshown := s.termsShown_rd s.cellTerms (l := List.range 6) List.nodup_range
  have hother (g : Fld) (hg : ∀ i ∈ List.range 6, g.key ≠ (F.PEG_AUDIT_VALUE i).key) := s.termsShown_other s.cellTerms hg
  have hcnt := hother F.PEG_AUDIT_CTRL_SNAP_CNT (by decide)
  generalize s.termsShown s.cellTerms (List.range 6) = u at hexec hmem hshown hother hcnt
  refine ⟨_, hexec, ?_, fun i hi => ?_, ?_, State.ended_regsKept fun g hg => ?_, State.ended_memKept hmem⟩
  · rw [State.ended_rd _ _ (Fld.notRun (by decide)), State.answer_rd, State.inc, State.rd_wr_other _ _ (by decide)]
    exact State.rd_wr_fits _ _ (by decide)
  · have hne {f : Fld} (haddr : f.addr = 0x40040044) (hlo : f.lo < 32) : (F.PEG_AUDIT_VALUE i).key ≠ f.key := by
      simp only [Fld.key, F.PEG_AUDIT_VALUE, haddr]
      omega
    rw [State.ended_rd _ _ (Fld.notRun (by simp only [F.PEG_AUDIT_VALUE]; omega)), State.answer_rd, State.inc,
      State.rd_wr_other _ _ (hne rfl (by decide)), State.rd_wr_other _ _ (hne rfl (by decide))]
    exact hshown i (List.mem_range.mpr hi)
  · rw [State.ended_rd _ _ (Fld.notRun (by decide)), State.answer_rd, State.inc, State.rd_wr_same,
      State.rd_wr_other _ _ (by decide), hcnt]
    rfl
  · simp only [List.forall_mem_cons] at hg
    obtain ⟨hvalid, hsnap, hvalues⟩ := hg
    rw [State.answer_rd, State.inc, State.rd_wr_other _ _ hsnap, State.rd_wr_other _ _ hvalid]
    exact hother g fun i hi => hvalues _ (List.mem_map_of_mem hi)

end

/-- Settles O22: a word of PEG_QCFG changes the descriptor and the queue shadow, a boundary moves the entry between them, and the
other rows write their own fields. -/
theorem pegboxRegisters : Obligations.PegboxRegisters := by
  unfold Obligations.PegboxRegisters
  exact ⟨fun req v s hon => ⟨pegQcfg_idle req v hon, pegQcfg_quiet req v hon, pegQcfg_waits req v hon⟩,
    fun req n v s hon hlo hhi => ⟨pegProfile_idle req v hon n ⟨hlo, hhi⟩, pegProfile_runs req v hon n⟩,
    fun req s hon => ⟨pegQstatRead_reads req hon, pegFreeMinClear_clears req hon, pegAuditSnap_shows req hon⟩⟩

end Sys2Proof.Machine
end

section
/-!
PROOFS. An evaluation of the calendar whose first step stops the Pegbox before the second (R199, R532).
-/
namespace Sys2Proof.Machine

/-- A calendar of two groups and one rule for both, from day 1 on, whose profile has one step, at 00:00. -/
def twoGroups : List Byte :=
  [0, 0, 2, 0, 1, 0] ++ List.replicate 1554 0 ++ [1, 0, 0, 0, 0xFF, 0xFF, 0, 0, 3, 0, 0, 0, 0x7F, 0, 0, 0]

/-- The module that serves it at 00:00 of day 1, with room for the packets of group 0. In the shadow of the Pegbox stands a 0 for
its RUN bit. -/
def stoppedBetween : State :=
  let s := resetWith ([(F.STATE_RUN bPEG, 1), (F.PEG_CELL_FREE_FREE, 10), (F.RTC_STAT_OSF, 0), (F.RTC_TIME_HI_SEC, 14446),
    (F.RTC_TIME_LO_SEC, 38144)] ++ [0, 18, 19, 20, 21, 22, 23, 31, 47, 49].map fun d => (F.PWR_DOM_STATE_STATE d, domOn))
  { s with
    shadow := [((F.STATE_RUN bPEG).key, 0)]
    cal := { s.cal with octets := twoGroups }
    peg := { PegState.start with descs := [(1044481, { Desc.zero with enable := true })] } }

/-- Both groups are due their step, which neither has been issued. -/
theorem stoppedBetween_due : stoppedBetween.allOn [0, 47, 49] = true ∧ stoppedBetween.wallValid = true ∧
    stoppedBetween.hasCal = true ∧ stoppedBetween.calB 2 1 = 2 ∧
    stoppedBetween.dueNow 1 (stoppedBetween.calLead 1) = [(64, 86400, ⟨0, 0xFFFF, 0, 1⟩)] ∧
    stoppedBetween.rd (F.NODE_CAL_LAST_KEY 1) = 0 ∧ stoppedBetween.calServed = true := by
  decide +kernel

/-- The boundary of group 0's packet applies the shadow; group 1 finds no Pegbox. -/
theorem stoppedBetween_unserved : stoppedBetween.calendarEval.rd (F.NODE_CAL_LAST_KEY 1) = 0 := by
  decide +kernel

/-- Refutes O27: the clause of a step issued asks that the field is served before the evaluation, of every state; in
`stoppedBetween` the packet of group 0 is a boundary at which the Pegbox stops, and group 1's step is not issued. -/
theorem not_calendarCommands : ¬ Obligations.CalendarCommands := by
  rintro ⟨heval, -⟩
  obtain ⟨hon, hwall, hcal, hgroups, hdue, hlast, hserved⟩ := stoppedBetween_due
  obtain ⟨t, hexec, -, hkey⟩ := (heval stoppedBetween hon).2 1 64 86400 ⟨0, 0xFFFF, 0, 1⟩ [] hwall hcal
    (by rw [hgroups]; decide) (by rw [hgroups]; decide) hdue (by rw [hlast]; decide) (by decide)
  obtain rfl := eq_ended_of_finish hexec
  rw [if_pos hserved, State.ended_rd _ _ (Fld.notRun (by decide)), stoppedBetween_unserved] at hkey
  exact absurd hkey (by decide)

end Sys2Proof.Machine
end

section
/-!
PROOFS. What PTP reads and leaves of the machine: messages judged, sent, forwarded and counted (R396 to R399).
-/
namespace Sys2Proof.Machine

/-! ## Steps that write registers of a list -/

/-- From `s` to `t` the registers outside `l` and memory stay. -/
structure PtpStep (l : List Fld) (s t : State) : Prop where
  rd : ∀ g : Fld, (∀ f ∈ l, g.key ≠ f.key) → t.rd g = s.rd g
  mem : t.mem = s.mem

namespace PtpStep

section
variable {l : List Fld} {s t u : State}

theorem refl (l : List Fld) (s : State) : PtpStep l s s := ⟨fun _ _ => rfl, rfl⟩

theorem trans (h : PtpStep l s t) (k : PtpStep l t u) : PtpStep l s u :=
  ⟨fun g hg => (k.rd g hg).trans (h.rd g hg), k.mem.trans h.mem⟩

theorem wr (s : State) {f : Fld} (hf : f ∈ l) (v : Nat) : PtpStep l s (s.wr f v) :=
  ⟨fun _ hg => s.rd_wr_other v (hg f hf), rfl⟩

theorem cnt (s : State) {i : Nat} (hf : F.TIME_PTP_CNT_COUNT i ∈ l) : PtpStep l s (s.ptpCnt i) := wr s hf _

theorem setTime (s : State) (x : TimeState) : PtpStep l s (s.setTime x) := ⟨fun _ _ => rfl, rfl⟩

/-- What a command whose effect is such a step leaves of the registers and of memory. -/
theorem ended (h : PtpStep l s t) : RegsKept l s (s.ended t) ∧ MemKept s (s.ended t) :=
  ⟨State.ended_regsKept h.rd, State.ended_memKept h.mem⟩

/-- A list of fields of one block leaves the others. -/
theorem ended_block {b : Nat} (h : PtpStep l s t) (hl : ∀ f ∈ l, inBlock b f.key = true) :
    BlocksKept [b] s (s.ended t) ∧ MemKept s (s.ended t) :=
  ⟨State.ended_blocksKept fun g hg => h.rd g fun f hf => key_ne_of_inBlock (hg b (List.mem_singleton_self b)) (hl f hf),
    State.ended_memKept h.mem⟩

theorem onlyBlock {b : Nat} (h : PtpStep l s t) (hl : ∀ f ∈ l, inBlock b f.key = true) : s.OnlyBlock b t :=
  fun g hg => h.rd g fun f hf => key_ne_of_inBlock hg (hl f hf)

end

end PtpStep

/-- The field a counter of PTP stands in is no STATE register. -/
theorem notRun_ptpCnt (i : Nat) (hi : i < 8) : notRun (F.TIME_PTP_CNT_COUNT i).key :=
  Fld.notRun (by simp only [F.TIME_PTP_CNT_COUNT]; omega)

theorem State.rd_ptpCnt (s : State) (i : Nat) :
    (s.ptpCnt i).rd (F.TIME_PTP_CNT_COUNT i) = (s.rd (F.TIME_PTP_CNT_COUNT i) + 1) % 2 ^ 32 := by
  rw [State.ptpCnt, State.inc_eq, State.rd_wr_same]
  rfl

/-! ## A frame taken or a packet number drawn: only the port's association moves (R338) -/

/-- The AN and the packet number with which a port sends. -/
def RingPortState.tag (r : RingPortState) : Nat × Nat :=
  match r.next with
  | some n => if n.txSince.isSome then ((r.an + 1) % 4, n.txPn) else (r.an, r.txPn)
  | none => (r.an, r.txPn)

/-- Registers, memory, PTP's own state, what was put out, and the tags of the ports that satisfy `P` stay. -/
structure PtpSame (P : Nat → Prop) (s u : State) : Prop where
  regs : u.regs = s.regs
  mem : u.mem = s.mem
  time : u.time = s.time
  out : u.out = s.out
  tag : ∀ q, P q → u.txTag q = s.txTag q

namespace PtpSame

section
variable {P : Nat → Prop} {s u : State} (h : PtpSame P s u)
include h

theorem rd (g : Fld) : u.rd g = s.rd g := State.rd_of_regs h.regs g
theorem isSet (g : Fld) : u.isSet g = s.isSet g := by rw [State.isSet, h.rd, State.isSet]
theorem step (l : List Fld) : PtpStep l s u := ⟨fun g _ => h.rd g, h.mem⟩
theorem isGateway : u.isGateway = s.isGateway := by simp only [State.isGateway, State.isSet, h.rd]
theorem isOn (d : Nat) : u.isOn d = s.isOn d := by simp only [State.isOn, State.dom, h.rd]
theorem ptpOn : u.ptpOn = s.ptpOn := by simp only [State.ptpOn, h.isOn, h.isSet]
theorem ptpMaster : u.ptpMaster = s.ptpMaster := by simp only [State.ptpMaster, h.ptpOn, h.isGateway, h.time]
theorem saOk (p : Nat) : u.saOk p = s.saOk p := h.isSet _
theorem asym (p : Nat) : u.asym p = s.asym p := by simp only [State.asym, h.rd]
theorem portId (p : Nat) : u.portId p = s.portId p := by simp only [State.portId, State.clockId, h.rd]
theorem tb0 : u.tb0 = s.tb0 := by simp only [State.tb0, State.rd64, h.rd]
theorem ptpTagged {p : Nat} (hp : P p) (m : PtpMsg) : u.ptpTagged p m = s.ptpTagged p m := by
  simp only [State.ptpTagged, h.tag p hp]

end

theorem refl (P : Nat → Prop) (s : State) : PtpSame P s s := ⟨rfl, rfl, rfl, rfl, fun _ _ => rfl⟩

theorem setPortSt (s : State) (p : Nat) {r : RingPortState} (h : r.tag = (s.portSt p).tag) :
    PtpSame (fun _ => True) s (s.setPortSt p r) :=
  ⟨rfl, rfl, rfl, rfl, fun _ _ => State.setPortSt_kept RingPortState.tag s p _ h⟩

theorem setPortSt_other (s : State) (p : Nat) (r : RingPortState) : PtpSame (fun q => q ≠ p) s (s.setPortSt p r) :=
  ⟨rfl, rfl, rfl, rfl, fun _ hq => congrArg RingPortState.tag (s.setPortSt_portSt_other r hq)⟩

theorem secTook (s : State) (p an pn : Nat) : PtpSame (fun _ => True) s (s.secTook p an pn) := by
  unfold State.secTook
  extract_lets r
  split
  · exact setPortSt s p rfl
  · split
    case h_1 n hn =>
      refine setPortSt s p ?_
      simp only [RingPortState.tag, show (s.portSt p).next = some n from hn]
      rfl
    case h_2 => exact refl _ s

theorem ptpTook (s : State) (p : Nat) (m : PtpMsg) : PtpSame (fun _ => True) s (s.ptpTook p m) := by
  unfold State.ptpTook
  split
  · exact refl _ s
  · exact secTook s p _ _

theorem drawPn (s : State) (p : Nat) : PtpSame (fun q => q ≠ p) s (s.drawPn p) := by
  unfold State.drawPn
  extract_lets r
  split
  · split
    · exact setPortSt_other s p _
    · exact setPortSt_other s p _
  · exact setPortSt_other s p _

end PtpSame

/-! ## Sending -/

/-- The machine with the packet number that a PTP message at port `p` takes. -/
def State.ptpDrawn (s : State) (p : Nat) : State := if 4 ≤ p then s else s.drawPn p

theorem PtpSame.ptpDrawn (s : State) (p : Nat) : PtpSame (fun q => q ≠ p) s (s.ptpDrawn p) := by
  unfold State.ptpDrawn
  split
  · exact refl _ s
  · exact drawPn s p

section
variable (s : State) (p typ : Nat) (m : PtpMsg) (a : Option PtpAnnounce)

theorem State.ptpSend_eq (hsa : p < 4 → s.saOk p = true) :
    s.ptpSend p typ m a = (s.ptpDrawn p).emit (.ptp p typ (s.ptpTagged p m) a) := by
  unfold State.ptpSend State.ptpDrawn State.ptpTagged
  by_cases hp : 4 ≤ p
  · rw [if_pos hp, if_pos hp, if_neg (by omega)]
  · rw [if_neg hp, if_neg hp, if_pos (hsa (by omega)), if_pos (by omega)]

theorem State.ptpSend_regs : (s.ptpSend p typ m a).regs = s.regs := by
  unfold State.ptpSend
  split
  · rfl
  · split
    · exact (PtpSame.drawPn s p).regs
    · rfl

theorem State.ptpSend_mem : (s.ptpSend p typ m a).mem = s.mem := by
  unfold State.ptpSend
  split
  · rfl
  · split
    · exact (PtpSame.drawPn s p).mem
    · rfl

theorem State.ptpSend_time : (s.ptpSend p typ m a).time = s.time := by
  unfold State.ptpSend
  split
  · rfl
  · split
    · exact (PtpSame.drawPn s p).time
    · rfl

theorem State.ptpSend_rd (g : Fld) : (s.ptpSend p typ m a).rd g = s.rd g := State.rd_of_regs (s.ptpSend_regs p typ m a) g

theorem PtpStep.send (l : List Fld) : PtpStep l s (s.ptpSend p typ m a) :=
  ⟨fun g _ => s.ptpSend_rd p typ m a g, s.ptpSend_mem p typ m a⟩

/-! ## Forwarding (R398, R399) -/

variable (add : Int)

theorem State.ptpForward_of_transparent (hp : p < 4) (hg : s.isGateway = false) (i : Nat) :
    s.ptpForward p typ m a add (some i) =
      (s.ptpSend (otherPort p) typ { m with corr := m.corr + add } a).ptpCnt i := by
  unfold State.ptpForward
  rw [if_pos ⟨hp, by rw [hg]; decide⟩]

theorem PtpStep.forward {l : List Fld} {i : Nat} (hf : F.TIME_PTP_CNT_COUNT i ∈ l) :
    PtpStep l s (s.ptpForward p typ m a add (some i)) := by
  unfold State.ptpForward
  split
  · exact (send s _ typ _ a l).trans (cnt _ hf)
  · exact refl l s

theorem PtpStep.forward_uncounted (l : List Fld) : PtpStep l s (s.ptpForward p typ m a add none) := by
  unfold State.ptpForward
  split
  · exact send s _ typ _ a l
  · exact refl l s

theorem State.ptpForward_time (c : Option Nat) : (s.ptpForward p typ m a add c).time = s.time := by
  unfold State.ptpForward
  split
  · cases c with
    | none => exact s.ptpSend_time _ typ _ a
    | some i => exact s.ptpSend_time _ typ _ a
  · rfl

end

/-- The port PTP is listened to depends on no register of TIME. -/
theorem State.OnlyBlock.ptpPort {s t : State} (h : s.OnlyBlock bTIME t) : t.ptpPort = s.ptpPort := by
  have hpath : t.activePath = s.activePath := by rw [State.activePath, h F.CAPO_STAT_GRANT (by decide), State.activePath]
  have hslave : t.slavePort = s.slavePort := by
    unfold State.slavePort
    rw [hpath, State.rd64, h F.CAPO_GATEWAY_POSITION (by decide), h F.CAPO_RING_ID_POSITION (by decide),
      h F.CAPO_MEMBERS_LO_BITS (by decide), h F.CAPO_MEMBERS_HI_BITS (by decide), State.rd64]
  rw [State.ptpPort, State.isGateway, State.isSet, hslave, h F.CAPO_GATEWAY_VALID (by decide),
    h F.CAPO_GATEWAY_POSITION (by decide), h F.CAPO_RING_ID_POSITION (by decide), State.ptpPort, State.isGateway, State.isSet]

theorem PtpSame.ptpPort {P : Nat → Prop} {s u : State} (h : PtpSame P s u) : u.ptpPort = s.ptpPort :=
  State.OnlyBlock.ptpPort fun g _ => h.rd g

/-! ## Judging -/

section
variable {s : State} {p : Nat} {m : PtpMsg} {icv : Bool} (act : State → State)

theorem State.ptpJudge_bad (hon : s.ptpOn = true) (harr : s.ptpArrives p = true)
    (hbad : icv = false ∨ s.ptpSecOk p m = false) : s.ptpJudge p m icv act = s.ptpBadIcv p := by
  unfold State.ptpJudge
  rw [if_neg (not_not_intro ⟨hon, harr⟩), if_pos (by rcases hbad with h | h <;> simp [h])]

theorem State.ptpJudge_took (hon : s.ptpOn = true) (harr : s.ptpArrives p = true) (hicv : icv = true)
    (hsec : s.ptpSecOk p m = true) :
    s.ptpJudge p m icv act = if s.ptpFits m then act (s.ptpTook p m) else (s.ptpTook p m).ptpCnt 4 := by
  have hfits : (s.ptpTook p m).ptpFits m = s.ptpFits m := by
    simp only [State.ptpFits, (PtpSame.ptpTook s p m).rd]
  unfold State.ptpJudge
  rw [if_neg (not_not_intro ⟨hon, harr⟩), if_neg (not_not_intro ⟨hicv, hsec⟩)]
  dsimp only
  rw [hfits]
  by_cases h : s.ptpFits m <;> simp [h]

theorem State.ptpJudge_taken (h : PtpTaken p m s) : s.ptpJudge p m true act = act (s.ptpTook p m) := by
  obtain ⟨hon, harr, hsec, hfits⟩ := h
  rw [State.ptpJudge_took act hon harr rfl hsec, if_pos hfits]

end

theorem State.isOn_of_ptpOn {s : State} (h : s.ptpOn = true) : s.isOn 45 = true := by
  rw [State.ptpOn, Bool.and_eq_true] at h
  exact h.1

/-- A message accepted on a ring port came under the port's association. -/
theorem PtpTaken.saOk {p : Nat} {m : PtpMsg} {s : State} (h : PtpTaken p m s) (hp : p < 4) : s.saOk p = true := by
  obtain ⟨-, -, hsec, -⟩ := h
  have hsec : s.secOk p m.an.toNat m.pn.toNat = true := by
    simpa [State.ptpSecOk, Nat.not_le.mpr hp] using hsec
  rw [State.secOk, Bool.and_eq_true] at hsec
  exact hsec.1

/-- Nothing waits in TIME's shadow: its commit point changes nothing (R410). -/
theorem State.ptpCommit_of_pendingIn {s : State} (h : s.pendingIn bTIME = false) : s.ptpCommit = s := by
  unfold State.ptpCommit State.timeCommit
  rw [State.commitSel_of_pendingIn h]
  cases hen : s.isSet F.TIME_PTP_CFG_EN <;> simp [hen]

end Sys2Proof.Machine
end

section
/-!
PROOFS. PTP as a transparent clock, a slave and a master: what each message and each time-out leaves (R391 to R403).
-/
namespace Sys2Proof.Machine

/-! ## A frame whose ICV fails (R346, R399) -/

section
variable (s : State) (p : Nat)

theorem ringCnt_ne_ptpCnt {x : Nat} (hx : x < 3) {i j : Nat} (hi : i < 8) (hj : j < 8) :
    (F.TIME_PTP_CNT_COUNT i).key ≠ (F.RING_CNT_COUNT x j).key := by
  simp only [Fld.key, F.TIME_PTP_CNT_COUNT, F.RING_CNT_COUNT]
  omega

theorem State.ptpBadIcv_time : (s.ptpBadIcv p).time = s.time := by
  simp only [State.ptpBadIcv]
  split
  · split <;> rfl
  · rfl

theorem PtpStep.badIcv : PtpStep [F.TIME_PTP_CNT_COUNT 4, F.RING_CNT_COUNT (p / 2) 5, F.RING_CNT_COUNT (p / 2) 6] s
    (s.ptpBadIcv p) := by
  have hcnt : PtpStep [F.TIME_PTP_CNT_COUNT 4, F.RING_CNT_COUNT (p / 2) 5, F.RING_CNT_COUNT (p / 2) 6] s (s.ptpCnt 4) :=
    cnt s (by simp)
  have hemit (t : State) (o : Output) :
      PtpStep [F.TIME_PTP_CNT_COUNT 4, F.RING_CNT_COUNT (p / 2) 5, F.RING_CNT_COUNT (p / 2) 6] t (t.emit o) :=
    ⟨fun _ _ => rfl, rfl⟩
  unfold State.ptpBadIcv
  extract_lets u v
  split
  · have hv : PtpStep [F.TIME_PTP_CNT_COUNT 4, F.RING_CNT_COUNT (p / 2) 5, F.RING_CNT_COUNT (p / 2) 6] s v :=
      hcnt.trans (wr (s.ptpCnt 4) (by simp) _)
    split
    · exact hv
    · exact (hv.trans (hemit _ _)).trans (wr _ (by simp) _)
  · exact hcnt

theorem State.ptpBadIcv_cnt (hp : p < 5) :
    (s.ptpBadIcv p).rd (F.TIME_PTP_CNT_COUNT 4) = (s.rd (F.TIME_PTP_CNT_COUNT 4) + 1) % 2 ^ 32 := by
  have hne (j : Nat) (hj : j < 8) := ringCnt_ne_ptpCnt (x := p / 2) (by omega) (i := 4) (by decide) hj
  rw [← s.rd_ptpCnt 4]
  unfold State.ptpBadIcv
  extract_lets u v
  split
  · have hv : v.rd (F.TIME_PTP_CNT_COUNT 4) = u.rd (F.TIME_PTP_CNT_COUNT 4) := u.rd_wr_other _ (hne 5 (by decide))
    split
    · exact hv
    · exact ((v.emit _).rd_wr_other _ (hne 6 (by decide))).trans hv
  · rfl

theorem State.ptpBadIcv_ring (hp : p < 4) :
    (s.ptpBadIcv p).rd (F.RING_CNT_COUNT (p / 2) 5) = (s.rd (F.RING_CNT_COUNT (p / 2) 5) + 1) % 2 ^ 32 ∧
      (s.ptpBadIcv p).out = if s.isGateway then s.out else .ptpBad (otherPort p) :: s.out := by
  have hne : (F.RING_CNT_COUNT (p / 2) 5).key ≠ (F.RING_CNT_COUNT (p / 2) 6).key := by
    simp only [Fld.key, F.RING_CNT_COUNT]
    omega
  have hu : (s.ptpCnt 4).rd (F.RING_CNT_COUNT (p / 2) 5) = s.rd (F.RING_CNT_COUNT (p / 2) 5) :=
    s.rd_wr_other _ (ringCnt_ne_ptpCnt (by omega) (by decide) (by decide)).symm
  unfold State.ptpBadIcv
  extract_lets u v
  have hv : v.rd (F.RING_CNT_COUNT (p / 2) 5) = (s.rd (F.RING_CNT_COUNT (p / 2) 5) + 1) % 2 ^ 32 := by
    rw [← hu]
    exact u.rd_wr_same _ _
  have hgate : v.isGateway = s.isGateway := by
    have hrd (g : Fld) (hg : inBlock bCAPO g.key = true) : v.rd g = s.rd g := by
      have hother (f : Fld) (hf : inBlock bCAPO f.key = false) : g.key ≠ f.key := fun he => by
        rw [he, hf] at hg
        exact absurd hg (by decide)
      refine (u.rd_wr_other _ (hother _ ?_)).trans (s.rd_wr_other _ (hother _ (by decide)))
      refine decide_eq_false fun he => ?_
      simp only [blockBase, bCAPO, blockNo, Fld.key, F.RING_CNT_COUNT] at he
      omega
    simp only [State.isGateway, State.isSet, hrd F.CAPO_GATEWAY_VALID (by decide), hrd F.CAPO_GATEWAY_POSITION (by decide),
      hrd F.CAPO_RING_ID_POSITION (by decide)]
  rw [if_pos hp, hgate]
  cases s.isGateway with
  | true => exact ⟨hv, rfl⟩
  | false => exact ⟨((v.emit _).rd_wr_other _ hne).trans hv, rfl⟩

end

/-! ## A Sync taken (R398 to R400) -/

/-- What a Sync that is for this module's own clock leaves: a two-step one waits for its Follow_Up, another is measured. -/
def State.syncConsumed (s : State) (p : Nat) (m : PtpMsg) (t2 : Int) : State :=
  if m.twoStep then s.setTime { s.time with twoStep := some ⟨m.seq.toNat, m.gm.toNat, t2, m.corr + s.asym p, p⟩ }
  else s.syncMeasured (t2 - m.time - (m.corr + s.asym p)) m.gm.toNat

/-- What a Sync that is accepted leaves: forwarded, and consumed at the port that the slave listens on. -/
def State.syncTaken (s : State) (p : Nat) (m : PtpMsg) (t2 : Int) (residence : Nat) : State :=
  if m.twoStep ∧ p < 4 then s.ptpCnt 4
  else
    let s := s.ptpForward p 0 m none (s.asym p + residence) (some 1)
    if p ≠ s.ptpPort then s
    else
      match s.time.master with
      | none => s
      | some ms => if ms.gm ≠ m.gm.toNat then s.slaveMoved ms p else (s.slaveMoved ms p).syncConsumed p m t2

section
variable {s : State} {p : Nat} {m : PtpMsg} {icv : Bool} {t2 : Int} {res : Nat}

theorem State.ptpSync_eq (hon : s.ptpOn = true) (hpend : s.pendingIn bTIME = false) :
    s.ptpSync p m icv t2 res = s.ptpJudge p m icv fun u => u.syncTaken p m t2 res := by
  unfold State.ptpSync
  rw [if_neg (not_not_intro (State.isOn_of_ptpOn hon)), State.ptpCommit_of_pendingIn hpend]
  rfl

theorem State.syncTaken_of_ne_port (htwo : m.twoStep = false) (hport : p ≠ s.ptpPort) :
    s.syncTaken p m t2 res = s.ptpForward p 0 m none (s.asym p + res) (some 1) := by
  have hstep : PtpStep [F.TIME_PTP_CNT_COUNT 1] s (s.ptpForward p 0 m none (s.asym p + res) (some 1)) :=
    .forward s p 0 m none _ (by simp)
  have hp := (hstep.onlyBlock (b := bTIME) (by decide)).ptpPort
  unfold State.syncTaken
  rw [if_neg (by simp [htwo])]
  dsimp only
  rw [hp, if_pos hport]

theorem State.syncTaken_of_port {ms : PtpMaster} (htwo : m.twoStep = true → 4 ≤ p) (hport : p = s.ptpPort)
    (hms : s.time.master = some ms) (hgm : ms.gm = m.gm.toNat) (hmp : ms.port = p) :
    s.syncTaken p m t2 res = (s.ptpForward p 0 m none (s.asym p + res) (some 1)).syncConsumed p m t2 := by
  have hstep : PtpStep [F.TIME_PTP_CNT_COUNT 1] s (s.ptpForward p 0 m none (s.asym p + res) (some 1)) :=
    .forward s p 0 m none _ (by simp)
  have hp := (hstep.onlyBlock (b := bTIME) (by decide)).ptpPort
  have htime := s.ptpForward_time p 0 m none (s.asym p + res) (some 1)
  unfold State.syncTaken
  rw [if_neg fun h => absurd (htwo h.1) (by omega)]
  dsimp only
  rw [hp, if_neg (not_not_intro hport), htime, hms]
  dsimp only
  rw [if_neg (not_not_intro hgm), State.slaveMoved, if_pos hmp]

end

/-- The asymmetry of a port is no counter. -/
theorem PtpStep.asym {s t : State} {i : Nat} (h : PtpStep [F.TIME_PTP_CNT_COUNT i] s t) {p : Nat} (hp : p < 5) :
    t.asym p = s.asym p := by
  rw [State.asym, h.rd _ (by simp only [List.mem_singleton, forall_eq, Fld.key, F.TIME_PORT_ASYM_PS, F.TIME_PTP_CNT_COUNT]; omega),
    State.asym]

/-! ## A measurement taken (R393, R400) -/

/-- The machine with the measurement of a Sync counted. -/
def State.syncCounted (s : State) (x : Int) : State := (s.setTime { s.time with lastSync := some x }).ptpCnt 0

theorem State.syncMeasured_of_few {s : State} {x : Int} {gm : Nat} (h : s.time.dCount < 8) :
    s.syncMeasured x gm = s.syncCounted x := by
  unfold State.syncMeasured
  extract_lets u
  exact if_pos h

theorem State.syncMeasured_of_enough {s : State} {x : Int} {gm : Nat} (h : 8 ≤ s.time.dCount) :
    s.syncMeasured x gm = (s.syncCounted x).tb0Update ((x - meanDelay s.time.filter) / 65536) gm := by
  unfold State.syncMeasured
  extract_lets u
  exact if_neg (Nat.not_lt.mpr h)

section
variable (s : State) (x : Int)

theorem PtpStep.counted : PtpStep [F.TIME_PTP_CNT_COUNT 0] s (s.syncCounted x) :=
  (setTime s _).trans (cnt _ (by simp))

theorem State.syncCounted_cnt :
    (s.syncCounted x).rd (F.TIME_PTP_CNT_COUNT 0) = (s.rd (F.TIME_PTP_CNT_COUNT 0) + 1) % 2 ^ 32 :=
  (s.setTime _).rd_ptpCnt 0

theorem State.syncCounted_time : (s.syncCounted x).time = { s.time with lastSync := some x } := rfl

end

/-! ## The update of TB0 (R391 to R395) -/

/-- A field of TIME is none that the recorder or the event store writes. -/
theorem pegKey_of_time {key : Nat} (h : inBlock bTIME key = true) : pegKey key = false := by
  have hne (b : Nat) (hb : bTIME ≠ b) : inBlock b key = false := inBlock_of_ne hb h
  have hevt (f : Fld) (hf : inBlock bTIME f.key = false) : key ≠ f.key := fun he => by
    rw [he, hf] at h
    exact absurd h (by decide)
  simp [pegKey, hne bPEG (by decide), hne bREC (by decide), hevt F.HCP_EVT_STAT_DROPPED (by decide),
    hevt F.HCP_EVT_STAT_PENDING (by decide)]

/-- The fields that a step of TB0 writes. -/
def tb0StepFields : List Fld :=
  [F.TIME_TB0_SUB_EPOCH, F.TIME_STEP_CNT_BACKWARD, F.TIME_STEP_CNT_FORWARD, F.TIME_STEP_LAST_MS, F.TIME_TB0_S_LO_SEC,
    F.TIME_TB0_S_HI_SEC, F.TIME_TB0_NS_NS, F.TIME_TB0_SUB_FRAC]

section
variable (s : State)

theorem State.stepRecord_rd (old v : Nat) {g : Fld} (hg : inBlock bTIME g.key = true)
    (h : ∀ f ∈ tb0StepFields, g.key ≠ f.key) : (s.stepRecord old v).rd g = s.rd g := by
  have hne (f : Fld) (hf : f ∈ tb0StepFields) (t : State) (x : Nat) : (t.wr f x).rd g = t.rd g := t.rd_wr_other x (h f hf)
  unfold State.stepRecord
  split
  · rfl
  · extract_lets ms u w _ _ x
    refine ((PegFrame.recTrigger x _ _ _).rd g (pegKey_of_time hg)).trans ?_
    refine (hne F.TIME_STEP_LAST_MS (by simp [tb0StepFields]) u _).trans ?_
    simp only [u]
    split
    · exact (hne F.TIME_STEP_CNT_BACKWARD (by simp [tb0StepFields]) _ _).trans
        (hne F.TIME_TB0_SUB_EPOCH (by simp [tb0StepFields]) s _)
    · exact hne F.TIME_STEP_CNT_FORWARD (by simp [tb0StepFields]) s _

theorem State.stepRecord_slewLeft (old v : Nat) : (s.stepRecord old v).time.slewLeft = s.time.slewLeft := by
  unfold State.stepRecord
  split
  · rfl
  · extract_lets ms u w _ _ x
    refine (congrArg TimeState.slewLeft (PegFrame.recTrigger x _ _ _).time).trans ?_
    change w.time.slewLeft = s.time.slewLeft
    simp only [w, u]
    split <;> rfl

theorem State.tb0Step_rd (v : Nat) {g : Fld} (hg : inBlock bTIME g.key = true) (h : ∀ f ∈ tb0StepFields, g.key ≠ f.key) :
    (s.tb0Step v).rd g = s.rd g := by
  have hne (f : Fld) (hf : f ∈ tb0StepFields) (t : State) (x : Nat) : (t.wr f x).rd g = t.rd g := t.rd_wr_other x (h f hf)
  unfold State.tb0Step State.setTb0
  rw [hne F.TIME_TB0_SUB_FRAC (by simp [tb0StepFields]), hne F.TIME_TB0_NS_NS (by simp [tb0StepFields]), State.wr64_eq,
    hne F.TIME_TB0_S_HI_SEC (by simp [tb0StepFields]), hne F.TIME_TB0_S_LO_SEC (by simp [tb0StepFields]),
    s.stepRecord_rd _ _ hg h]

theorem State.tb0Step_ns (v : Nat) : (s.tb0Step v).rd F.TIME_TB0_NS_NS = v % secFrac / 65536 := by
  unfold State.tb0Step State.setTb0
  rw [State.rd_wr_other _ _ (by decide), State.rd_wr_fits]
  have hsec : secFrac = 65536000000000 := by decide
  rw [hsec, show F.TIME_TB0_NS_NS.width = 32 from rfl]
  omega

theorem State.tb0Step_slewLeft (v : Nat) : (s.tb0Step v).time.slewLeft = s.time.slewLeft := by
  unfold State.tb0Step State.setTb0
  rw [State.wr64_eq, State.wr_time, State.wr_time, State.wr_time, State.wr_time, State.stepRecord_slewLeft]

theorem State.sourcePtp_rd {g : Fld} (h : g.key ≠ F.TIME_TB0_STAT_SOURCE.key) : s.sourcePtp.rd g = s.rd g := by
  unfold State.sourcePtp
  split
  · rfl
  · exact State.rd_wr_other _ _ h

theorem State.sourcePtp_source : s.sourcePtp.rd F.TIME_TB0_STAT_SOURCE = 3 := by
  unfold State.sourcePtp
  split
  · assumption
  · exact State.rd_wr_fits _ _ (by decide)

theorem State.sourcePtp_slewLeft :
    s.sourcePtp.time.slewLeft = if s.rd F.TIME_TB0_STAT_SOURCE = 3 then s.time.slewLeft else 0 := by
  unfold State.sourcePtp
  split <;> rfl

/-- The machine with its count of updates beyond the threshold cleared. -/
def State.overCleared : State := s.setTime { s.time with overCnt := 0 }

theorem State.overCleared_slewLeft : s.overCleared.time.slewLeft = s.time.slewLeft := rfl
theorem State.overCleared_rd (g : Fld) : s.overCleared.rd g = s.rd g := rfl

theorem State.ptpStep_eq (o : Int) :
    s.ptpStep o = (s.tb0Step ((s.tb0 : Int) - o * 65536).toNat).overCleared.sourcePtp.wr F.TIME_TB0_STAT_VALID 1 := rfl

/-- The machine stepped to its master's time, with PTP as its source. -/
theorem State.ptpStep_spec (o : Int) :
    (s.ptpStep o).rd F.TIME_TB0_STAT_SOURCE = 3 ∧ (s.ptpStep o).rd F.TIME_TB0_STAT_VALID = 1 ∧
      (s.ptpStep o).time.slewLeft = (if s.rd F.TIME_TB0_STAT_SOURCE = 3 then s.time.slewLeft else 0) ∧
      (s.ptpStep o).rd F.TIME_TB0_NS_NS = ((s.tb0 : Int) - o * 65536).toNat % secFrac / 65536 := by
  rw [State.ptpStep_eq]
  generalize ((s.tb0 : Int) - o * 65536).toNat = v
  have hsource := s.tb0Step_rd v (g := F.TIME_TB0_STAT_SOURCE) (by decide) (by decide)
  have hslew := s.tb0Step_slewLeft v
  have hns := s.tb0Step_ns v
  generalize s.tb0Step v = u at hsource hslew hns
  refine ⟨?_, State.rd_wr_fits _ _ (by decide), ?_, ?_⟩
  · rw [State.rd_wr_other _ _ (by decide), State.sourcePtp_source]
  · rw [State.wr_time, State.sourcePtp_slewLeft, State.overCleared_rd, hsource, State.overCleared_slewLeft, hslew]
  · rw [State.rd_wr_other _ _ (by decide), State.sourcePtp_rd _ (by decide), State.overCleared_rd, hns]

end

/-! ### The offset shown, and holdover -/

/-- A field that an update of TB0 shows and then leaves. -/
def Tb0Shown (g : Fld) : Prop := g = F.TIME_TB0_OFFSET_NS ∨ g = F.TIME_TB0_STAT_HOLDOVER

section
variable (s : State) {g : Fld} (hg : Tb0Shown g)
include hg

theorem Tb0Shown.block : inBlock bTIME g.key = true := by rcases hg with rfl | rfl <;> decide

theorem Tb0Shown.ne (l : List Fld) (hl : ∀ f ∈ l, F.TIME_TB0_OFFSET_NS.key ≠ f.key ∧ F.TIME_TB0_STAT_HOLDOVER.key ≠ f.key) :
    ∀ f ∈ l, g.key ≠ f.key := by
  rcases hg with rfl | rfl
  · exact fun f hf => (hl f hf).1
  · exact fun f hf => (hl f hf).2

theorem Tb0Shown.wr {f : Fld} (hf : F.TIME_TB0_OFFSET_NS.key ≠ f.key ∧ F.TIME_TB0_STAT_HOLDOVER.key ≠ f.key) (v : Nat) :
    (s.wr f v).rd g = s.rd g :=
  s.rd_wr_other v (hg.ne [f] (by simpa using hf) f (List.mem_singleton_self f))

theorem Tb0Shown.sourcePtp : s.sourcePtp.rd g = s.rd g := by
  refine s.sourcePtp_rd (hg.ne [F.TIME_TB0_STAT_SOURCE] (by decide) _ (List.mem_singleton_self _))

theorem Tb0Shown.servo (o : Int) : (s.servo 0 o).rd g = s.rd g := by
  unfold State.servo
  exact hg.wr _ (by decide) _

theorem Tb0Shown.lockCount (o : Int) : (s.lockCount o).rd g = s.rd g := by
  unfold State.lockCount
  extract_lets lock a n m _ u
  have hu : u.rd g = s.rd g := rfl
  split
  · rw [hg.wr _ (by decide), hg.wr _ (by decide), hg.sourcePtp, hu]
  · split
    · rw [hg.wr _ (by decide), hu]
    · exact hu

theorem Tb0Shown.stepHeld (o : Int) : (s.stepHeld o).rd g = s.rd g := by
  have hpeg := pegKey_of_time hg.block
  unfold State.stepHeld
  split
  · rfl
  · rw [(PegFrame.recTrigger _ _ _ _).rd g hpeg, (PegFrame.raiseEvent _ _ _ _).rd g hpeg, hg.wr _ (by decide)]

theorem Tb0Shown.ptpStep (o : Int) : (s.ptpStep o).rd g = s.rd g := by
  rw [State.ptpStep_eq, hg.wr _ (by decide), hg.sourcePtp, State.overCleared_rd,
    s.tb0Step_rd _ hg.block (hg.ne _ (by decide))]

/-- What an update does once the offset is shown leaves the fields that show it. -/
theorem Tb0Shown.update (o : Int) (gm : Nat) :
    (s.tb0Update o gm).rd g =
      ((s.wr F.TIME_TB0_OFFSET_NS (ofSigned 32 (clampSigned 32 o))).wr F.TIME_TB0_STAT_HOLDOVER 0).rd g := by
  unfold State.tb0Update
  extract_lets u thr beyond neg v n _ x
  have hv : v.rd g = u.rd g := by
    simp only [v]
    split
    · exact hg.wr _ (by decide) _
    · rfl
  have hx : x.rd g = u.rd g := hv
  split
  · split
    · exact (hg.ptpStep _ o).trans hv
    · split
      · split
        · exact (hg.ptpStep _ o).trans hx
        · rw [hg.lockCount, hg.servo, hg.stepHeld, hx]
      · rw [hg.lockCount, hg.servo, hx]
  · rw [hg.lockCount, hg.servo]
    exact hv

end

theorem State.tb0Update_shown (s : State) (o : Int) (gm : Nat) :
    (s.tb0Update o gm).rd F.TIME_TB0_OFFSET_NS = ofSigned 32 (clampSigned 32 o) ∧
      (s.tb0Update o gm).rd F.TIME_TB0_STAT_HOLDOVER = 0 := by
  rw [Tb0Shown.update s (.inl rfl), Tb0Shown.update s (.inr rfl)]
  exact ⟨(State.rd_wr_other _ _ (by decide)).trans (State.rd_wr_fits _ _ (ofSigned_lt 32 _)), State.rd_wr_fits _ _ (by decide)⟩

/-- TB0 that was not valid steps to a master's time beyond the threshold. -/
theorem State.tb0Update_step {s : State} {o : Int} {gm : Nat} (hthr : s.rd F.TIME_STEP_CFG_STEP_US * 1000 < o.natAbs)
    (hvalid : s.isSet F.TIME_TB0_STAT_VALID = false) :
    (s.tb0Update o gm).rd F.TIME_TB0_STAT_SOURCE = 3 ∧ (s.tb0Update o gm).rd F.TIME_TB0_STAT_VALID = 1 ∧
      (s.tb0Update o gm).time.slewLeft = (if s.rd F.TIME_TB0_STAT_SOURCE = 3 then s.time.slewLeft else 0) ∧
      (s.tb0Update o gm).rd F.TIME_TB0_NS_NS = ((s.tb0 : Int) - o * 65536).toNat % secFrac / 65536 := by
  unfold State.tb0Update
  extract_lets u thr beyond neg v n _ x
  have hrd (g : Fld) (hg : ∀ f ∈ [F.TIME_TB0_OFFSET_NS, F.TIME_TB0_STAT_HOLDOVER], g.key ≠ f.key) : u.rd g = s.rd g := by
    simp only [u]
    rw [State.rd_wr_other _ _ (hg _ (by simp)), State.rd_wr_other _ _ (hg _ (by simp))]
  have hthr' : thr = s.rd F.TIME_STEP_CFG_STEP_US * 1000 := by
    simp only [thr, hrd F.TIME_STEP_CFG_STEP_US (by decide)]
  have hv : v = u := by
    simp only [v]
    rw [if_neg (by omega)]
  have hbeyond : beyond = true := decide_eq_true (hthr' ▸ hthr)
  rw [if_pos hbeyond, hv,
    if_pos (by rw [State.isSet, hrd _ (by decide), ← State.isSet, hvalid]; decide)]
  have htb0 : u.tb0 = s.tb0 := by
    simp only [State.tb0, State.rd64, hrd F.TIME_TB0_S_LO_SEC (by decide), hrd F.TIME_TB0_S_HI_SEC (by decide),
      hrd F.TIME_TB0_NS_NS (by decide), hrd F.TIME_TB0_SUB_FRAC (by decide)]
  have hstep := u.ptpStep_spec o
  rwa [hrd F.TIME_TB0_STAT_SOURCE (by decide), htb0] at hstep

end Sys2Proof.Machine
end

section
/-!
PROOFS. PTP: a Sync received, in each of its cases (R398 to R400).
-/
namespace Sys2Proof.Machine

theorem notRun_ringCnt {x i : Nat} (hi : i < 8) : notRun (F.RING_CNT_COUNT x i).key :=
  Fld.notRun (by simp only [F.RING_CNT_COUNT]; omega)

section
variable {p : Fin 5} {m : PtpMsg} {icv : Bool} {t2 : Int} {res : Nat} {s : State}

theorem exec_ptpSync (hon : s.ptpOn = true) (hpend : s.pendingIn bTIME = false) :
    exec (.ptpSyncReceived p m icv t2 res) s =
      .next (s.ended (s.ptpJudge p.val m icv fun u => u.syncTaken p.val m t2 res)) := by
  rw [← State.ptpSync_eq hon hpend]
  rfl

/-- A Sync whose ICV fails, or that replay protection refuses. -/
theorem ptpSync_bad (hpend : s.pendingIn bTIME = false) (hon : s.ptpOn = true) (harr : s.ptpArrives p.val = true)
    (hbad : icv = false ∨ s.ptpSecOk p.val m = false) :
    ∃ t, exec (.ptpSyncReceived p m icv t2 res) s = .next t ∧ t.time = s.time ∧
      t.rd (F.TIME_PTP_CNT_COUNT 4) = (s.rd (F.TIME_PTP_CNT_COUNT 4) + 1) % 2 ^ 32 ∧
      (p.val < 4 → t.rd (F.RING_CNT_COUNT (p.val / 2) 5) = (s.rd (F.RING_CNT_COUNT (p.val / 2) 5) + 1) % 2 ^ 32 ∧
        t.out = (if s.isGateway then s.out else .ptpBad (otherPort p.val) :: s.out)) ∧
      RegsKept [F.TIME_PTP_CNT_COUNT 4, F.RING_CNT_COUNT (p.val / 2) 5, F.RING_CNT_COUNT (p.val / 2) 6] s t ∧
      MemKept s t := by
  refine ⟨_, exec_ptpSync hon hpend, ?_⟩
  rw [State.ptpJudge_bad _ hon harr hbad, State.ended_time, State.ended_rd _ _ (notRun_ptpCnt 4 (by decide)),
    State.ended_out, State.ended_rd _ _ (notRun_ringCnt (by decide))]
  exact ⟨s.ptpBadIcv_time _, s.ptpBadIcv_cnt _ p.isLt, fun hp => s.ptpBadIcv_ring _ hp, (PtpStep.badIcv s _).ended⟩

/-- A Sync that does not fit, or a two-step one on a ring port. -/
theorem ptpSync_misfit (hpend : s.pendingIn bTIME = false) (hon : s.ptpOn = true) (harr : s.ptpArrives p.val = true)
    (hicv : icv = true) (hsec : s.ptpSecOk p.val m = true)
    (hfit : s.ptpFits m = false ∨ (m.twoStep = true ∧ p.val < 4)) :
    ∃ t, exec (.ptpSyncReceived p m icv t2 res) s = .next t ∧ t.time = s.time ∧ t.out = s.out ∧
      t.rd (F.TIME_PTP_CNT_COUNT 4) = (s.rd (F.TIME_PTP_CNT_COUNT 4) + 1) % 2 ^ 32 ∧
      RegsKept [F.TIME_PTP_CNT_COUNT 4] s t ∧ MemKept s t := by
  have htook := PtpSame.ptpTook s p.val m
  have heffect : s.ptpJudge p.val m icv (fun u => u.syncTaken p.val m t2 res) = (s.ptpTook p.val m).ptpCnt 4 := by
    rw [State.ptpJudge_took _ hon harr hicv hsec]
    rcases hfit with h | h
    · rw [h, if_neg (by decide)]
    · split
      · exact if_pos h
      · rfl
  refine ⟨_, exec_ptpSync hon hpend, ?_⟩
  rw [heffect, State.ended_time, State.ended_out, State.ended_rd _ _ (notRun_ptpCnt 4 (by decide)), State.rd_ptpCnt, htook.rd]
  exact ⟨htook.time, htook.out, rfl, ((htook.step _).trans (.cnt _ (by simp))).ended⟩

/-- A Sync that this module passes on alone. -/
theorem ptpSync_forwarded (hpend : s.pendingIn bTIME = false) (hon : s.ptpOn = true) (harr : s.ptpArrives p.val = true)
    (hicv : icv = true) (hsec : s.ptpSecOk p.val m = true) (hfits : s.ptpFits m = true) (htwo : m.twoStep = false)
    (hp : p.val < 4) (hgate : s.isGateway = false) (hport : p.val ≠ s.ptpPort) (hsa : s.saOk (otherPort p.val) = true) :
    ∃ t, exec (.ptpSyncReceived p m icv t2 res) s = .next t ∧
      t.out = .ptp (otherPort p.val) 0
        (s.ptpTagged (otherPort p.val) { m with corr := m.corr + (s.asym p.val + res) }) none :: s.out ∧
      t.rd (F.TIME_PTP_CNT_COUNT 1) = (s.rd (F.TIME_PTP_CNT_COUNT 1) + 1) % 2 ^ 32 ∧ t.time = s.time ∧
      RegsKept [F.TIME_PTP_CNT_COUNT 1] s t ∧ MemKept s t := by
  have htook := PtpSame.ptpTook s p.val m
  have hstep : PtpStep [F.TIME_PTP_CNT_COUNT 1] s
      ((s.ptpTook p.val m).ptpForward p.val 0 m none ((s.ptpTook p.val m).asym p.val + res) (some 1)) :=
    (htook.step _).trans (.forward _ _ _ _ _ _ (by simp))
  have htime := (s.ptpTook p.val m).ptpForward_time p.val 0 m none ((s.ptpTook p.val m).asym p.val + res) (some 1)
  refine ⟨_, exec_ptpSync hon hpend, ?_⟩
  rw [State.ptpJudge_took _ hon harr hicv hsec, if_pos hfits,
    State.syncTaken_of_ne_port htwo (htook.ptpPort.symm ▸ hport)]
  refine ⟨?_, ?_, by rw [State.ended_time, htime, htook.time], hstep.ended⟩
  all_goals
    rw [State.ptpForward_of_transparent _ _ _ _ _ _ hp (htook.isGateway.trans hgate)]
  · rw [State.ended_out, State.ptpCnt, State.inc_eq, State.wr_out,
      State.ptpSend_eq _ _ _ _ _ fun _ => (htook.saOk _).trans hsa, State.emit_out, (PtpSame.ptpDrawn _ _).out, htook.out,
      htook.ptpTagged trivial, htook.asym]
  · rw [State.ended_rd _ _ (notRun_ptpCnt 1 (by decide)), State.rd_ptpCnt, State.ptpSend_rd, htook.rd]

/-- What the Sync of the master at the port listened to leaves (R400), and from what machine it is consumed. -/
theorem ptpSync_consumed {ms : PtpMaster} (hpend : s.pendingIn bTIME = false) (hon : s.ptpOn = true)
    (harr : s.ptpArrives p.val = true) (hicv : icv = true) (hsec : s.ptpSecOk p.val m = true) (hfits : s.ptpFits m = true)
    (htwo : m.twoStep = true → 4 ≤ p.val) (hport : p.val = s.ptpPort) (hms : s.time.master = some ms)
    (hgm : ms.gm = m.gm.toNat) (hmp : ms.port = p.val) :
    ∃ u, exec (.ptpSyncReceived p m icv t2 res) s = .next (s.ended (u.syncConsumed p.val m t2)) ∧
      PtpStep [F.TIME_PTP_CNT_COUNT 1] s u ∧ u.time = s.time := by
  have htook := PtpSame.ptpTook s p.val m
  refine ⟨(s.ptpTook p.val m).ptpForward p.val 0 m none ((s.ptpTook p.val m).asym p.val + res) (some 1), ?_,
    (htook.step _).trans (.forward _ _ _ _ _ _ (by simp)), (State.ptpForward_time ..).trans htook.time⟩
  rw [exec_ptpSync hon hpend, State.ptpJudge_took _ hon harr hicv hsec, if_pos hfits,
    State.syncTaken_of_port htwo (hport.trans htook.ptpPort.symm) (by rw [htook.time, hms]) hgm hmp]

end

section
variable {s u : State} {p : Fin 5} {m : PtpMsg} {t2 : Int} (hu : PtpStep [F.TIME_PTP_CNT_COUNT 1] s u)
  (htime : u.time = s.time)
include hu htime

/-- A two-step Sync waits for its Follow_Up. -/
theorem syncConsumed_twoStep (h : m.twoStep = true) :
    (s.ended (u.syncConsumed p.val m t2)).time =
        { s.time with twoStep := some ⟨m.seq.toNat, m.gm.toNat, t2, m.corr + s.asym p.val, p.val⟩ } ∧
      RegsKept [F.TIME_PTP_CNT_COUNT 1] s (s.ended (u.syncConsumed p.val m t2)) ∧
      MemKept s (s.ended (u.syncConsumed p.val m t2)) := by
  have heq : u.syncConsumed p.val m t2 =
      u.setTime { s.time with twoStep := some ⟨m.seq.toNat, m.gm.toNat, t2, m.corr + s.asym p.val, p.val⟩ } := by
    rw [State.syncConsumed, if_pos h, hu.asym p.isLt, htime]
  rw [heq, State.ended_time, State.setTime_time]
  exact ⟨rfl, (hu.trans (.setTime u _)).ended⟩

/-- The first Syncs are kept for the delay filter alone. -/
theorem syncConsumed_few (h : m.twoStep = false) (hfew : s.time.dCount < 8) :
    (s.ended (u.syncConsumed p.val m t2)).time =
        { s.time with lastSync := some (t2 - m.time - (m.corr + s.asym p.val)) } ∧
      (s.ended (u.syncConsumed p.val m t2)).rd (F.TIME_PTP_CNT_COUNT 0) =
        (s.rd (F.TIME_PTP_CNT_COUNT 0) + 1) % 2 ^ 32 ∧
      RegsKept [F.TIME_PTP_CNT_COUNT 0, F.TIME_PTP_CNT_COUNT 1] s (s.ended (u.syncConsumed p.val m t2)) ∧
      MemKept s (s.ended (u.syncConsumed p.val m t2)) := by
  have heq : u.syncConsumed p.val m t2 = u.syncCounted (t2 - m.time - (m.corr + s.asym p.val)) := by
    rw [State.syncConsumed, if_neg (by simp [h]), hu.asym p.isLt, State.syncMeasured_of_few (by rwa [htime])]
  have hu' : PtpStep [F.TIME_PTP_CNT_COUNT 0, F.TIME_PTP_CNT_COUNT 1] s u :=
    ⟨fun g hg => hu.rd g fun f hf => hg f (List.mem_cons_of_mem _ hf), hu.mem⟩
  rw [heq, State.ended_time, State.syncCounted_time, htime, State.ended_rd _ _ (notRun_ptpCnt 0 (by decide)),
    State.syncCounted_cnt, hu.rd _ (by decide)]
  exact ⟨rfl, rfl, (hu'.trans ((PtpStep.setTime u _).trans (.cnt _ (by simp)))).ended⟩

/-- Once 8 delays are in, a Sync updates TB0. -/
theorem syncConsumed_enough {o : Int} (h : m.twoStep = false) (henough : 8 ≤ s.time.dCount)
    (ho : (t2 - m.time - (m.corr + s.asym p.val) - meanDelay s.time.filter) / 65536 = o) :
    (s.ended (u.syncConsumed p.val m t2)).rd F.TIME_TB0_OFFSET_NS = ofSigned 32 (clampSigned 32 o) ∧
      (s.ended (u.syncConsumed p.val m t2)).rd F.TIME_TB0_STAT_HOLDOVER = 0 ∧
      (s.rd F.TIME_STEP_CFG_STEP_US * 1000 < o.natAbs → s.isSet F.TIME_TB0_STAT_VALID = false →
        (s.ended (u.syncConsumed p.val m t2)).rd F.TIME_TB0_STAT_SOURCE = 3 ∧
        (s.ended (u.syncConsumed p.val m t2)).rd F.TIME_TB0_STAT_VALID = 1 ∧
        (s.ended (u.syncConsumed p.val m t2)).time.slewLeft =
          (if s.rd F.TIME_TB0_STAT_SOURCE = 3 then s.time.slewLeft else 0) ∧
        (s.ended (u.syncConsumed p.val m t2)).rd F.TIME_TB0_NS_NS =
          ((s.tb0 : Int) - o * 65536).toNat % secFrac / 65536) := by
  have heq : u.syncConsumed p.val m t2 =
      (u.syncCounted (t2 - m.time - (m.corr + s.asym p.val))).tb0Update o m.gm.toNat := by
    rw [State.syncConsumed, if_neg (by simp [h]), hu.asym p.isLt, State.syncMeasured_of_enough (by rwa [htime]), htime, ho]
  have hcounted := PtpStep.counted u (t2 - m.time - (m.corr + s.asym p.val))
  have hslew : (u.syncCounted (t2 - m.time - (m.corr + s.asym p.val))).time.slewLeft = s.time.slewLeft := by
    rw [State.syncCounted_time, htime]
  rw [heq]
  generalize u.syncCounted (t2 - m.time - (m.corr + s.asym p.val)) = v at hcounted hslew
  have hv (g : Fld) (hg : ∀ i < 2, g.key ≠ (F.TIME_PTP_CNT_COUNT i).key) : v.rd g = s.rd g :=
    (hcounted.rd g (by simpa using hg 0 (by decide))).trans (hu.rd g (by simpa using hg 1 (by decide)))
  have htb0 : v.tb0 = s.tb0 := by
    simp only [State.tb0, State.rd64, hv F.TIME_TB0_S_LO_SEC (by decide), hv F.TIME_TB0_S_HI_SEC (by decide),
      hv F.TIME_TB0_NS_NS (by decide), hv F.TIME_TB0_SUB_FRAC (by decide)]
  obtain ⟨hoffset, hhold⟩ := v.tb0Update_shown o m.gm.toNat
  refine ⟨?_, ?_, fun hthr hvalid => ?_⟩
  · rw [State.ended_rd _ _ (Fld.notRun (by decide)), hoffset]
  · rw [State.ended_rd _ _ (Fld.notRun (by decide)), hhold]
  · have hthr' : v.rd F.TIME_STEP_CFG_STEP_US * 1000 < o.natAbs := by rwa [hv F.TIME_STEP_CFG_STEP_US (by decide)]
    have hvalid' : v.isSet F.TIME_TB0_STAT_VALID = false := by
      rwa [State.isSet, hv F.TIME_TB0_STAT_VALID (by decide), ← State.isSet]
    have hstep := State.tb0Update_step (gm := m.gm.toNat) hthr' hvalid'
    rw [hv F.TIME_TB0_STAT_SOURCE (by decide), hslew, htb0] at hstep
    rwa [State.ended_rd _ _ (Fld.notRun (by decide)), State.ended_rd _ _ (Fld.notRun (by decide)), State.ended_time,
      State.ended_rd _ _ (Fld.notRun (by decide))]

end

end Sys2Proof.Machine
end

section
/-!
PROOFS. PTP: the delay exchange, the master, the module as a master, and the statement (R391 to R403).
-/
namespace Sys2Proof.Machine

/-! ## The delay exchange (R400) -/

section
variable {p : Fin 5} {m : PtpMsg} {s : State}

/-- What the Follow_Up of the Sync that waits leaves. -/
theorem followUp_measured {w : PendingSync} (h : PtpTaken p.val m s) (hw : s.time.twoStep = some w)
    (hseq : w.seq = m.seq.toNat) (hport : w.port = p.val) (hfew : s.time.dCount < 8) :
    ∃ t, exec (.followUpReceived p m) s = .next t ∧
      t.time = { s.time with twoStep := none, lastSync := some (w.t2 - m.time - (w.corr + m.corr)) } ∧
      t.rd (F.TIME_PTP_CNT_COUNT 0) = (s.rd (F.TIME_PTP_CNT_COUNT 0) + 1) % 2 ^ 32 ∧
      RegsKept [F.TIME_PTP_CNT_COUNT 0] s t ∧ MemKept s t := by
  have htook := PtpSame.ptpTook s p.val m
  have heq : s.followUp p.val m =
      ((s.ptpTook p.val m).setTime { s.time with twoStep := none }).syncCounted (w.t2 - m.time - (w.corr + m.corr)) := by
    unfold State.followUp
    rw [State.ptpJudge_taken _ h, htook.time, hw]
    dsimp only
    rw [if_pos ⟨hseq, hport⟩]
    exact State.syncMeasured_of_few hfew
  refine ⟨_, finish_ended s (s.followUp p.val m), ?_⟩
  rw [heq, State.ended_time, State.syncCounted_time, State.ended_rd _ _ (notRun_ptpCnt 0 (by decide)),
    State.syncCounted_cnt, State.setTime_rd, htook.rd]
  exact ⟨rfl, rfl, (((htook.step _).trans (.setTime _ _)).trans (.counted _ _)).ended⟩

/-- The gateway answers a Delay_Req from its own clock (R397). -/
theorem delayReq_answered {rx : Int} {res : Nat} (h : PtpTaken p.val m s) (hp : p.val < 4) (hgate : s.isGateway = true)
    (hmaster : s.ptpMaster = true) :
    ∃ t, exec (.delayReqReceived p m true rx res) s = .next t ∧
      t.out = .ptp p.val 9 (s.ptpTagged p.val { m with time := rx, source := s.portId p.val, asker := m.source }) none ::
        s.out ∧
      RegsKept [] s t ∧ MemKept s t := by
  have htook := PtpSame.ptpTook s p.val m
  have hsa : (s.ptpTook p.val m).saOk p.val = true := (htook.saOk _).trans (PtpTaken.saOk h hp)
  have heq : s.delayReq p.val m true rx res = (s.ptpTook p.val m).ptpSend p.val 9
      { m with time := rx, source := s.portId p.val, asker := m.source } none := by
    unfold State.delayReq
    rw [State.ptpJudge_taken _ h]
    rw [if_pos ⟨hp, htook.isGateway.trans hgate⟩, if_pos (htook.ptpMaster.trans hmaster), htook.portId]
  refine ⟨_, finish_ended s (s.delayReq p.val m true rx res), ?_⟩
  rw [heq]
  refine ⟨?_, ((htook.step _).trans (.send ..)).ended⟩
  rw [State.ended_out, State.ptpSend_eq _ _ _ _ _ fun _ => hsa, State.emit_out, (PtpSame.ptpDrawn _ _).out, htook.out,
    htook.ptpTagged trivial]

/-- A Delay_Req passed on toward the gateway (R399). -/
theorem delayReq_forwarded {rx : Int} {res : Nat} (h : PtpTaken p.val m s) (hp : p.val < 4) (hgate : s.isGateway = false)
    (hsa : s.saOk (otherPort p.val) = true) :
    ∃ t, exec (.delayReqReceived p m true rx res) s = .next t ∧
      t.out = .ptp (otherPort p.val) 1
        (s.ptpTagged (otherPort p.val) { m with corr := m.corr + ((res : Int) - s.asym (otherPort p.val)) }) none :: s.out ∧
      t.rd (F.TIME_PTP_CNT_COUNT 2) = (s.rd (F.TIME_PTP_CNT_COUNT 2) + 1) % 2 ^ 32 ∧
      RegsKept [F.TIME_PTP_CNT_COUNT 2] s t ∧ MemKept s t := by
  have htook := PtpSame.ptpTook s p.val m
  have hgate' : (s.ptpTook p.val m).isGateway = false := htook.isGateway.trans hgate
  have heq : s.delayReq p.val m true rx res = ((s.ptpTook p.val m).ptpSend (otherPort p.val) 1
      { m with corr := m.corr + ((res : Int) - s.asym (otherPort p.val)) } none).ptpCnt 2 := by
    unfold State.delayReq
    rw [State.ptpJudge_taken _ h]
    rw [if_neg (by simp [hgate']), State.ptpForward_of_transparent _ _ _ _ _ _ hp hgate', htook.asym]
  refine ⟨_, finish_ended s (s.delayReq p.val m true rx res), ?_⟩
  rw [heq]
  refine ⟨?_, ?_, (((htook.step _).trans (.send ..)).trans (.cnt _ (by simp))).ended⟩
  · rw [State.ended_out, State.ptpCnt, State.inc_eq, State.wr_out,
      State.ptpSend_eq _ _ _ _ _ fun _ => (htook.saOk _).trans hsa, State.emit_out, (PtpSame.ptpDrawn _ _).out, htook.out,
      htook.ptpTagged trivial]
  · rw [State.ended_rd _ _ (notRun_ptpCnt 2 (by decide)), State.rd_ptpCnt, State.ptpSend_rd, htook.rd]

/-- The answer to this module's own Delay_Req: the delay joins the filter, and its mean is shown. -/
theorem delayResp_measured {t3 x : Int} (h : PtpTaken p.val m s) (hport : p.val = s.ptpPort) (hasker : m.asker = s.portId p.val)
    (hdreq : s.time.dreq = some (m.seq.toNat, t3)) (hsync : s.time.lastSync = some x) :
    ∃ t, exec (.delayRespReceived p m true) s = .next t ∧
      t.time = { s.time with filter := ((x + (m.time - t3 - m.corr)) / 2 :: s.time.filter).take 16,
                             dCount := min 16 (s.time.dCount + 1), dreq := none } ∧
      t.rd F.TIME_PTP_DELAY_NS = ofSigned 32 (meanDelay t.time.filter / 65536) ∧
      t.rd (F.TIME_PTP_CNT_COUNT 3) = (s.rd (F.TIME_PTP_CNT_COUNT 3) + 1) % 2 ^ 32 ∧
      RegsKept [F.TIME_PTP_CNT_COUNT 3, F.TIME_PTP_DELAY_NS] s t ∧ MemKept s t := by
  have htook := PtpSame.ptpTook s p.val m
  have hstep : PtpStep [F.TIME_PTP_CNT_COUNT 3, F.TIME_PTP_DELAY_NS] s
      ((s.ptpTook p.val m).ptpForward p.val 9 m none 0 none) := (htook.step _).trans (.forward_uncounted ..)
  have htime : ((s.ptpTook p.val m).ptpForward p.val 9 m none 0 none).time = s.time :=
    (State.ptpForward_time ..).trans htook.time
  have hport' : p.val = ((s.ptpTook p.val m).ptpForward p.val 9 m none 0 none).ptpPort :=
    hport.trans (hstep.onlyBlock (b := bTIME) (by decide)).ptpPort.symm
  have hid : ((s.ptpTook p.val m).ptpForward p.val 9 m none 0 none).portId p.val = s.portId p.val := by
    simp only [State.portId, State.clockId, hstep.rd F.CAPO_RING_ID_RING (by decide),
      hstep.rd F.CAPO_RING_ID_POSITION (by decide)]
  have heq : ∃ u : State, PtpStep [F.TIME_PTP_CNT_COUNT 3, F.TIME_PTP_DELAY_NS] s u ∧
      u.rd (F.TIME_PTP_CNT_COUNT 3) = s.rd (F.TIME_PTP_CNT_COUNT 3) ∧
      s.delayResp p.val m true =
        ((u.setTime { s.time with filter := ((x + (m.time - t3 - m.corr)) / 2 :: s.time.filter).take 16,
                                  dCount := min 16 (s.time.dCount + 1), dreq := none }).ptpCnt 3).wr F.TIME_PTP_DELAY_NS
          (ofSigned 32 (meanDelay (((x + (m.time - t3 - m.corr)) / 2 :: s.time.filter).take 16) / 65536)) := by
    refine ⟨_, hstep, ((htook.step []).trans (.forward_uncounted ..)).rd _ (by simp), ?_⟩
    unfold State.delayResp
    rw [State.ptpJudge_taken _ h]
    dsimp only
    generalize (s.ptpTook p.val m).ptpForward p.val 9 m none 0 none = u at htime hport' hid
    rw [hid, if_neg (by simp [hasker, ← hport']), htime, hdreq, hsync]
    exact if_pos rfl
  obtain ⟨u, hu, hcnt, heq⟩ := heq
  refine ⟨_, finish_ended s (s.delayResp p.val m true), ?_⟩
  rw [heq, State.ended_time, State.wr_time]
  refine ⟨rfl, ?_, ?_, ((hu.trans (.setTime _ _)).trans ((PtpStep.cnt _ (by simp)).trans (.wr _ (by simp) _))).ended⟩
  · rw [State.ended_rd _ _ (Fld.notRun (by decide)), State.rd_wr_fits _ _ (ofSigned_lt 32 _)]
    rfl
  · rw [State.ended_rd _ _ (notRun_ptpCnt 3 (by decide)), State.rd_wr_other _ _ (by decide), State.rd_ptpCnt,
      State.setTime_rd, hcnt]

end

/-! ## The master (R397, R401, R403) -/

/-- The fields that show the master. -/
def masterFields : List Fld :=
  [F.TIME_PTP_STAT_GM_CLASS, F.TIME_PTP_STAT_SLAVE_PORT, F.TIME_PTP_GM_LO_ID, F.TIME_PTP_GM_HI_ID, F.TIME_PTP_UTC_OFFSET_S,
    F.TIME_PTP_UTC_VALID, F.TIME_PTP_UTC_LEAP61, F.TIME_PTP_UTC_LEAP59, F.TIME_PTP_STAT_BC, F.TIME_PTP_STAT_STATE]

section
variable (s : State) (n : PtpMaster)

theorem PtpStep.showMaster : PtpStep masterFields s (s.showMaster n) := by
  have hwr (t : State) (f : Fld) (hf : f ∈ masterFields) (v : Nat) : PtpStep masterFields t (t.wr f v) := .wr t hf v
  unfold State.showMaster
  extract_lets u v w x
  have hu : PtpStep masterFields s u :=
    (hwr s F.TIME_PTP_STAT_GM_CLASS (by simp [masterFields]) _).trans
      (hwr _ F.TIME_PTP_STAT_SLAVE_PORT (by simp [masterFields]) _)
  have hv : PtpStep masterFields u v :=
    (hwr u F.TIME_PTP_GM_LO_ID (by simp [masterFields]) _).trans (hwr _ F.TIME_PTP_GM_HI_ID (by simp [masterFields]) _)
  have hw : PtpStep masterFields v w :=
    (hwr v F.TIME_PTP_UTC_OFFSET_S (by simp [masterFields]) _).trans (hwr _ F.TIME_PTP_UTC_VALID (by simp [masterFields]) _)
  have hx : PtpStep masterFields w x :=
    (hwr w F.TIME_PTP_UTC_LEAP61 (by simp [masterFields]) _).trans (hwr _ F.TIME_PTP_UTC_LEAP59 (by simp [masterFields]) _)
  exact (((hu.trans hv).trans hw).trans hx).trans
    ((hwr x F.TIME_PTP_STAT_BC (by simp [masterFields]) _).trans (hwr _ F.TIME_PTP_STAT_STATE (by simp [masterFields]) _))

theorem State.showMaster_time : (s.showMaster n).time = s.time := rfl

theorem State.showMaster_shown (hport : n.port < 8) (hgm : n.gm < 2 ^ 64) :
    (s.showMaster n).rd F.TIME_PTP_STAT_GM_CLASS = n.ann.clockClass.toNat ∧
      (s.showMaster n).rd F.TIME_PTP_STAT_SLAVE_PORT = n.port ∧ (s.showMaster n).rd F.TIME_PTP_STAT_STATE = 9 ∧
      (s.showMaster n).rd64 F.TIME_PTP_GM_LO_ID F.TIME_PTP_GM_HI_ID = n.gm ∧
      (s.showMaster n).rd F.TIME_PTP_UTC_OFFSET_S = n.ann.utcOffset.toNat := by
  unfold State.showMaster State.wrB State.wr64 State.rd64
  refine ⟨?_, ?_, ?_, ?_, ?_⟩
  · iterate 9 rw [State.rd_wr_other _ _ (by decide)]
    exact State.rd_wr_fits _ _ n.ann.clockClass.isLt
  · iterate 8 rw [State.rd_wr_other _ _ (by decide)]
    exact State.rd_wr_fits _ _ hport
  · exact State.rd_wr_fits _ _ (by decide)
  · iterate 7 rw [State.rd_wr_other (g := F.TIME_PTP_GM_LO_ID) _ _ (by decide)]
    iterate 6 rw [State.rd_wr_other (g := F.TIME_PTP_GM_HI_ID) _ _ (by decide)]
    rw [State.rd_wr_same, State.rd_wr_same, show F.TIME_PTP_GM_LO_ID.width = 32 from rfl,
      show F.TIME_PTP_GM_HI_ID.width = 32 from rfl]
    omega
  · iterate 5 rw [State.rd_wr_other _ _ (by decide)]
    exact State.rd_wr_fits _ _ n.ann.utcOffset.isLt

end

/-- A master announced where there was none: taken, its fields shown, the delay filter empty. -/
theorem ptpAnnounce_first {p : Fin 5} {m : PtpMsg} {a : PtpAnnounce} (h : PtpTaken p.val m s) (hport : p.val = s.ptpPort)
    (hscale : a.ptpTimescale = true) (hnone : s.time.master = none) :
    ∃ t, exec (.ptpAnnounceReceived p m a true) s = .next t ∧ t.time.master = some ⟨m.gm.toNat, a, p.val⟩ ∧
      t.time.filter = [] ∧ t.time.dCount = 0 ∧ t.rd F.TIME_PTP_STAT_GM_CLASS = a.clockClass.toNat ∧
      t.rd F.TIME_PTP_STAT_SLAVE_PORT = p.val ∧ t.rd F.TIME_PTP_STAT_STATE = 9 ∧
      t.rd64 F.TIME_PTP_GM_LO_ID F.TIME_PTP_GM_HI_ID = m.gm.toNat ∧
      t.rd F.TIME_PTP_UTC_OFFSET_S = a.utcOffset.toNat ∧ BlocksKept [bTIME] s t ∧ MemKept s t := by
  have htook := PtpSame.ptpTook s p.val m
  have hstep : PtpStep masterFields s ((s.ptpTook p.val m).ptpForward p.val 11 m (some a) 0 none) :=
    (htook.step _).trans (.forward_uncounted ..)
  have htime : ((s.ptpTook p.val m).ptpForward p.val 11 m (some a) 0 none).time = s.time :=
    (State.ptpForward_time ..).trans htook.time
  have hport' : p.val = ((s.ptpTook p.val m).ptpForward p.val 11 m (some a) 0 none).ptpPort :=
    hport.trans (hstep.onlyBlock (b := bTIME) (by decide)).ptpPort.symm
  have heq : ∃ u : State, PtpStep masterFields s u ∧ u.time.master = some ⟨m.gm.toNat, a, p.val⟩ ∧ u.time.filter = [] ∧
      u.time.dCount = 0 ∧ s.ptpAnnounce p.val m a true = u.showMaster ⟨m.gm.toNat, a, p.val⟩ := by
    unfold State.ptpAnnounce
    rw [State.ptpJudge_taken _ h]
    generalize (s.ptpTook p.val m).ptpForward p.val 11 m (some a) 0 none = u at hstep htime hport'
    have hnone' : u.time.master = none := (congrArg TimeState.master htime).trans hnone
    refine ⟨(u.setTime { u.time with master := some ⟨m.gm.toNat, a, p.val⟩, localGm := false }).filterReset,
      hstep.trans ((PtpStep.setTime _ _).trans (.setTime _ _)), rfl, rfl, rfl, ?_⟩
    rw [if_neg (by simp [← hport', hscale]), hnone']
    rfl
  obtain ⟨u, hu, hmaster, hfilter, hcount, heq⟩ := heq
  obtain ⟨hclass, hslave, hstate, hid, hutc⟩ := u.showMaster_shown ⟨m.gm.toNat, a, p.val⟩ (Nat.lt_of_lt_of_le p.isLt (by decide)) m.gm.isLt
  refine ⟨_, finish_ended s (s.ptpAnnounce p.val m a true), ?_⟩
  rw [heq, State.ended_time, State.showMaster_time, State.ended_rd _ _ (Fld.notRun (by decide)),
    State.ended_rd _ _ (Fld.notRun (by decide)), State.ended_rd _ _ (Fld.notRun (by decide)), State.rd64,
    State.ended_rd _ _ (Fld.notRun (by decide)), State.ended_rd _ _ (Fld.notRun (by decide)),
    State.ended_rd _ _ (Fld.notRun (by decide))]
  exact ⟨hmaster, hfilter, hcount, hclass, hslave, hstate, hid, hutc,
    (hu.trans (.showMaster u _)).ended_block (b := bTIME) (by decide)⟩

end Sys2Proof.Machine
end

section
/-!
PROOFS. PTP: time-outs, the master lost, the module as a master, and the statement (R391 to R403).
-/
namespace Sys2Proof.Machine

section
variable {s : State}

/-- A Sync whose Follow_Up does not come is given up (R400). -/
theorem followUp_missed {ms : Nat} {w : PendingSync} (hw : s.time.twoStep = some w) (hon : s.isOn 45 = true)
    (hms : 100 ≤ ms) :
    ∃ t, exec (.followUpMissing ms) s = .next t ∧ t.time = { s.time with twoStep := none } ∧
      t.rd (F.TIME_PTP_CNT_COUNT 5) = (s.rd (F.TIME_PTP_CNT_COUNT 5) + 1) % 2 ^ 32 ∧
      RegsKept [F.TIME_PTP_CNT_COUNT 5] s t ∧ MemKept s t := by
  have heq : s.followUpMissing ms = (s.setTime { s.time with twoStep := none }).ptpCnt 5 := by
    unfold State.followUpMissing
    rw [hw]
    exact if_pos ⟨hon, hms⟩
  refine ⟨_, finish_ended s (s.followUpMissing ms), ?_⟩
  rw [heq, State.ended_time, State.ended_rd _ _ (notRun_ptpCnt 5 (by decide)), State.rd_ptpCnt, State.setTime_rd]
  exact ⟨rfl, rfl, ((PtpStep.setTime s _).trans (.cnt _ (by simp))).ended⟩

/-- The machine with the next sequence number of its Delay_Reqs, and one in flight. -/
def State.nextDreq (s : State) (t3 : Int) : State :=
  s.setTime { s.time with dreq := some (s.time.dreqSeq, t3), dreqSeq := (s.time.dreqSeq + 1) % 65536 }

/-- The clock of the module asks its master for the delay (R400). -/
theorem delayReq_sent {us : Nat} {t3 : Int} (hon : s.ptpOn = true) (hmaster : s.time.master ≠ none) (hport : s.ptpPort ≠ 7)
    (hus : 1000000 / 2 ^ s.rd F.TIME_PTP_CFG_LOG_DREQ ≤ us) (hsa : s.ptpPort < 4 → s.saOk s.ptpPort = true) :
    ∃ t, exec (.delayReqSend us t3) s = .next t ∧ t.out = .ptp s.ptpPort 1
        (s.ptpTagged s.ptpPort (s.ownPtp s.ptpPort s.time.dreqSeq 0 (-(s.asym s.ptpPort)) 0)) none :: s.out ∧
      t.time = { s.time with dreq := some (s.time.dreqSeq, t3), dreqSeq := (s.time.dreqSeq + 1) % 65536 } ∧
      RegsKept [] s t ∧ MemKept s t := by
  have heq : s.delayReqSend us t3 =
      (s.nextDreq t3).ptpSend s.ptpPort 1 (s.ownPtp s.ptpPort s.time.dreqSeq 0 (-(s.asym s.ptpPort)) 0) none := by
    unfold State.delayReqSend
    exact if_pos ⟨hon, hmaster, hport, hus⟩
  refine ⟨_, finish_ended s (s.delayReqSend us t3), ?_⟩
  rw [heq]
  refine ⟨?_, by rw [State.ended_time, State.ptpSend_time]; rfl, ((PtpStep.setTime s _).trans (.send ..)).ended⟩
  rw [State.ended_out, (s.nextDreq t3).ptpSend_eq _ _ _ _ hsa, State.emit_out, (PtpSame.ptpDrawn _ _).out]
  rfl

/-! ## The master lost (R401) -/

/-- The fields that the loss of the master writes. -/
def lossFields : List Fld :=
  [F.TIME_PTP_CNT_COUNT 6, F.TIME_TB0_STAT_HOLDOVER, F.TIME_TB0_ADJ_ADJ, F.TIME_TB0_STAT_SOURCE, F.TIME_PTP_STAT_SLAVE_PORT,
    F.TIME_PTP_STAT_GM_CLASS, F.TIME_PTP_STAT_STATE]

/-- The machine without a master, in holdover. -/
def State.masterDropped (s : State) : State :=
  ((s.setTime { s.time with master := none, twoStep := none }).ptpCnt 6).filterReset.tb0Holdover

/-- The machine with its source PTP ended (R386). -/
def State.sourceEnded (s : State) : State :=
  if s.rd F.TIME_TB0_STAT_SOURCE = 3 then s.wr F.TIME_TB0_STAT_SOURCE 0 else s

theorem State.masterLost_eq {a y : Nat} {ms : PtpMaster} (hms : s.time.master = some ms) (hon : s.ptpOn = true)
    (hlate : 3000 ≤ a ∨ 1000 ≤ y) :
    s.masterLost a y = ((s.masterDropped.sourceEnded.wr F.TIME_PTP_STAT_SLAVE_PORT 7).wr F.TIME_PTP_STAT_GM_CLASS 0).wr
      F.TIME_PTP_STAT_STATE 4 := by
  unfold State.masterLost
  rw [hms]
  exact if_pos ⟨hon, hlate⟩

theorem State.tb0Holdover_holds (s : State) :
    PtpStep lossFields s s.tb0Holdover ∧ s.tb0Holdover.rd F.TIME_TB0_STAT_HOLDOVER = 1 ∧
      s.tb0Holdover.rd (F.TIME_PTP_CNT_COUNT 6) = s.rd (F.TIME_PTP_CNT_COUNT 6) := by
  unfold State.tb0Holdover
  refine ⟨((PtpStep.wr s (f := F.TIME_TB0_STAT_HOLDOVER) (by simp [lossFields]) 1).trans (.setTime _ _)).trans
    (.wr _ (f := F.TIME_TB0_ADJ_ADJ) (by simp [lossFields]) _), ?_, ?_⟩
  · rw [State.rd_wr_other _ _ (by decide), State.setTime_rd, State.rd_wr_fits _ _ (by decide)]
  · rw [State.rd_wr_other _ _ (by decide), State.setTime_rd, State.rd_wr_other _ _ (by decide)]

theorem State.masterDropped_spec (s : State) :
    PtpStep lossFields s s.masterDropped ∧ s.masterDropped.rd F.TIME_TB0_STAT_HOLDOVER = 1 ∧
      s.masterDropped.rd (F.TIME_PTP_CNT_COUNT 6) = (s.rd (F.TIME_PTP_CNT_COUNT 6) + 1) % 2 ^ 32 := by
  obtain ⟨hstep, hhold, hcnt⟩ :=
    ((s.setTime { s.time with master := none, twoStep := none }).ptpCnt 6).filterReset.tb0Holdover_holds
  refine ⟨?_, hhold, hcnt.trans ((s.setTime _).rd_ptpCnt 6)⟩
  exact (((PtpStep.setTime s _).trans (.cnt _ (by simp [lossFields]))).trans (.setTime _ _)).trans hstep

theorem State.masterDropped_time (s : State) : s.masterDropped.time.master = none ∧ s.masterDropped.time.filter = [] :=
  ⟨rfl, rfl⟩

theorem State.sourceEnded_time (s : State) : s.sourceEnded.time = s.time := by
  unfold State.sourceEnded
  split <;> rfl

theorem State.sourceEnded_rd (s : State) {g : Fld} (h : g.key ≠ F.TIME_TB0_STAT_SOURCE.key) :
    s.sourceEnded.rd g = s.rd g := by
  unfold State.sourceEnded
  split
  · exact State.rd_wr_other _ _ h
  · rfl

theorem PtpStep.sourceEnded (s : State) : PtpStep lossFields s s.sourceEnded := by
  refine ⟨fun g hg => s.sourceEnded_rd (hg _ (by simp [lossFields])), ?_⟩
  unfold State.sourceEnded
  split <;> rfl

theorem masterLost_shown {a y : Nat} {ms : PtpMaster} (hms : s.time.master = some ms) (hon : s.ptpOn = true)
    (hlate : 3000 ≤ a ∨ 1000 ≤ y) :
    ∃ t, exec (.masterLost a y) s = .next t ∧ t.time.master = none ∧ t.time.filter = [] ∧
      t.rd F.TIME_TB0_STAT_HOLDOVER = 1 ∧ t.rd F.TIME_PTP_STAT_SLAVE_PORT = 7 ∧ t.rd F.TIME_PTP_STAT_STATE = 4 ∧
      t.rd (F.TIME_PTP_CNT_COUNT 6) = (s.rd (F.TIME_PTP_CNT_COUNT 6) + 1) % 2 ^ 32 ∧ BlocksKept [bTIME] s t ∧
      MemKept s t := by
  obtain ⟨hdropped, hhold, hcnt⟩ := s.masterDropped_spec
  obtain ⟨hmaster, hfilter⟩ := s.masterDropped_time
  refine ⟨_, finish_ended s (s.masterLost a y), ?_⟩
  rw [State.masterLost_eq hms hon hlate]
  generalize s.masterDropped = u at hdropped hhold hcnt hmaster hfilter
  rw [State.ended_time, State.wr_time, State.wr_time, State.wr_time, u.sourceEnded_time,
    State.ended_rd _ _ (Fld.notRun (by decide)), State.ended_rd _ _ (Fld.notRun (by decide)),
    State.ended_rd _ _ (Fld.notRun (by decide)), State.ended_rd _ _ (notRun_ptpCnt 6 (by decide))]
  refine ⟨hmaster, hfilter, ?_, ?_, State.rd_wr_fits _ _ (by decide), ?_, ?_⟩
  · iterate 3 rw [State.rd_wr_other _ _ (by decide)]
    rw [u.sourceEnded_rd (by decide), hhold]
  · iterate 2 rw [State.rd_wr_other _ _ (by decide)]
    exact State.rd_wr_fits _ _ (by decide)
  · iterate 3 rw [State.rd_wr_other _ _ (by decide)]
    rw [u.sourceEnded_rd (by decide), hcnt]
  · have hall : PtpStep lossFields s
        (((u.sourceEnded.wr F.TIME_PTP_STAT_SLAVE_PORT 7).wr F.TIME_PTP_STAT_GM_CLASS 0).wr F.TIME_PTP_STAT_STATE 4) :=
      (((hdropped.trans (.sourceEnded u)).trans (.wr _ (by simp [lossFields]) _)).trans
        (.wr _ (by simp [lossFields]) _)).trans (.wr _ (by simp [lossFields]) _)
    exact hall.ended_block (b := bTIME) (by decide)

/-! ## The module as a master (R396, R397) -/

theorem ringPort_ne (x : Nat) : ringPort x 1 ≠ ringPort x 0 := by
  unfold ringPort
  omega

/-- A message out of each of the two ports of a path: the tag of the second does not depend on the first. -/
theorem State.ptpSend_both {x typ : Nat} {m n : PtpMsg} {a : Option PtpAnnounce} {t u : State}
    (h0 : t.saOk (ringPort x 0) = true) (h1 : u.saOk (ringPort x 1) = true)
    (hout : u.out = (t.ptpSend (ringPort x 0) typ m a).out)
    (htag : u.txTag (ringPort x 1) = (t.ptpSend (ringPort x 0) typ m a).txTag (ringPort x 1)) :
    (u.ptpSend (ringPort x 1) typ n a).out =
      .ptp (ringPort x 1) typ (t.ptpTagged (ringPort x 1) n) a ::
        .ptp (ringPort x 0) typ (t.ptpTagged (ringPort x 0) m) a :: t.out := by
  have hdrawn := PtpSame.ptpDrawn t (ringPort x 0)
  rw [t.ptpSend_eq (ringPort x 0) typ m a fun _ => h0] at hout htag
  have htag' : u.txTag (ringPort x 1) = t.txTag (ringPort x 1) := htag.trans (hdrawn.tag _ (ringPort_ne x))
  rw [State.ptpSend_eq _ _ _ _ _ fun _ => h1, State.emit_out, (PtpSame.ptpDrawn u _).out, hout, State.emit_out, hdrawn.out]
  simp only [State.ptpTagged, htag']

/-- The machine with the next sequence number of its Syncs. -/
def State.nextSync (s : State) : State := s.setTime { s.time with syncSeq := (s.time.syncSeq + 1) % 65536 }

/-- The machine with the next sequence number of its Announces. -/
def State.nextAnn (s : State) : State := s.setTime { s.time with annSeq := (s.time.annSeq + 1) % 65536 }

/-- A Sync out of both ports of the active path (R396). -/
theorem ptpSync_sent {x us : Nat} (hpath : s.activePath = some x) (hmaster : s.ptpMaster = true)
    (hpend : s.pendingIn bTIME = false) (h0 : s.saOk (ringPort x 0) = true) (h1 : s.saOk (ringPort x 1) = true)
    (hus : 1000000 / 128 ≤ us) :
    ∃ t, exec (.ptpSyncSend us) s = .next t ∧
      t.out =
        .ptp (ringPort x 1) 0 (s.ptpTagged (ringPort x 1) (s.ownPtp (ringPort x 1) s.time.syncSeq (s.tb0 : Int) 0 s.ownGm)) none ::
        .ptp (ringPort x 0) 0 (s.ptpTagged (ringPort x 0) (s.ownPtp (ringPort x 0) s.time.syncSeq (s.tb0 : Int) 0 s.ownGm)) none ::
        s.out ∧
      t.time = { s.time with syncSeq := (s.time.syncSeq + 1) % 65536 } ∧ RegsKept [F.TIME_PTP_CNT_COUNT 7] s t ∧
      MemKept s t := by
  have heq : s.ptpSyncSend us =
      (((s.nextSync.ptpSend (ringPort x 0) 0 (s.ownPtp (ringPort x 0) s.time.syncSeq (s.tb0 : Int) 0 s.ownGm) none).ptpCnt
        7).ptpSend (ringPort x 1) 0 (s.ownPtp (ringPort x 1) s.time.syncSeq (s.tb0 : Int) 0 s.ownGm) none).ptpCnt 7 := by
    unfold State.ptpSyncSend
    rw [hpath]
    dsimp -zeta only
    rw [if_neg (not_not_intro ⟨hmaster, hus⟩), State.ptpCommit_of_pendingIn hpend]
    exact if_neg (not_not_intro hmaster)
  refine ⟨_, finish_ended s (s.ptpSyncSend us), ?_⟩
  rw [heq]
  refine ⟨?_, ?_, ?_⟩
  · rw [State.ended_out, State.ptpCnt, State.inc_eq, State.wr_out]
    refine State.ptpSend_both (t := s.nextSync) h0 ?_ rfl rfl
    rw [State.saOk, State.isSet, State.ptpCnt, State.inc_eq, State.rd_wr_other _ _ ?_, State.ptpSend_rd]
    · exact h1
    · simp only [Fld.key, F.RING_PORT_STAT_SA_OK, F.TIME_PTP_CNT_COUNT, ringPort]
      omega
  · rw [State.ended_time, State.ptpCnt, State.inc_eq, State.wr_time, State.ptpSend_time, State.ptpCnt, State.inc_eq,
      State.wr_time, State.ptpSend_time]
    rfl
  · exact ((((PtpStep.setTime s _).trans (.send ..)).trans (.cnt _ (by simp))).trans
      ((PtpStep.send ..).trans (.cnt _ (by simp)))).ended

/-- An Announce out of both ports of the active path (R396). -/
theorem ptpAnnounce_sent {x us : Nat} (hpath : s.activePath = some x) (hmaster : s.ptpMaster = true)
    (h0 : s.saOk (ringPort x 0) = true) (h1 : s.saOk (ringPort x 1) = true) (hus : 1000 ≤ us) :
    ∃ t, exec (.ptpAnnounceSend us) s = .next t ∧
      t.out =
        .ptp (ringPort x 1) 11 (s.ptpTagged (ringPort x 1) (s.ownPtp (ringPort x 1) s.time.annSeq 0 0 s.ownGm)) (some s.ownAnn) ::
        .ptp (ringPort x 0) 11 (s.ptpTagged (ringPort x 0) (s.ownPtp (ringPort x 0) s.time.annSeq 0 0 s.ownGm)) (some s.ownAnn) ::
        s.out ∧
      t.time = { s.time with annSeq := (s.time.annSeq + 1) % 65536 } ∧ RegsKept [] s t ∧ MemKept s t := by
  have heq : s.ptpAnnounceSend us =
      (s.nextAnn.ptpSend (ringPort x 0) 11 (s.ownPtp (ringPort x 0) s.time.annSeq 0 0 s.ownGm) (some s.ownAnn)).ptpSend
        (ringPort x 1) 11 (s.ownPtp (ringPort x 1) s.time.annSeq 0 0 s.ownGm) (some s.ownAnn) := by
    unfold State.ptpAnnounceSend
    rw [hpath]
    exact if_pos ⟨hmaster, hus⟩
  refine ⟨_, finish_ended s (s.ptpAnnounceSend us), ?_⟩
  rw [heq]
  refine ⟨?_, ?_, ((PtpStep.setTime s _).trans ((PtpStep.send ..).trans (.send ..))).ended⟩
  · rw [State.ended_out]
    refine State.ptpSend_both (t := s.nextAnn) h0 ?_ rfl rfl
    rw [State.saOk, State.isSet, State.ptpSend_rd]
    exact h1
  · rw [State.ended_time, State.ptpSend_time, State.ptpSend_time]
    rfl

/-- The gateway serves the ring from its own TB0 (R397). -/
theorem localGm_taken {ms : Nat} (hon : s.ptpOn = true) (hgate : s.isGateway = true)
    (hlocal : s.isSet F.TIME_PTP_CFG_LOCAL_GM = true) (hnone : s.time.master = none) (hms : 3000 ≤ ms) :
    ∃ t, exec (.localGmTakeover ms) s = .next t ∧ t.time = { s.time with localGm := true } ∧
      t.rd F.TIME_PTP_STAT_BC = 1 ∧ RegsKept [F.TIME_PTP_STAT_BC] s t ∧ MemKept s t := by
  have heq : s.localGmTakeover ms = (s.setTime { s.time with localGm := true }).wr F.TIME_PTP_STAT_BC 1 :=
    if_pos ⟨hon, hgate, hlocal, hnone, hms⟩
  refine ⟨_, finish_ended s (s.localGmTakeover ms), ?_⟩
  rw [heq, State.ended_time, State.ended_rd _ _ (Fld.notRun (by decide)), State.rd_wr_fits _ _ (by decide)]
  exact ⟨rfl, rfl, ((PtpStep.setTime s _).trans (.wr _ (by simp) _)).ended⟩

/-- Holdover lasts no longer than TIME_LOCK_CFG allows (R392). -/
theorem holdover_expired {n : Nat} (hon : s.isOn 45 = true) (hhold : s.isSet F.TIME_TB0_STAT_HOLDOVER = true)
    (hn : s.rd F.TIME_LOCK_CFG_HOLDOVER_S ≤ n) :
    ∃ t, exec (.holdoverExpiry n) s = .next t ∧ t.rd F.TIME_TB0_STAT_LOCKED = 0 ∧
      t.time = { s.time with lockCnt := 0 } ∧ RegsKept [F.TIME_TB0_STAT_LOCKED] s t ∧ MemKept s t := by
  have heq : s.holdoverExpiry n = (s.wr F.TIME_TB0_STAT_LOCKED 0).setTime { s.time with lockCnt := 0 } :=
    if_pos ⟨hon, hhold, hn⟩
  refine ⟨_, finish_ended s (s.holdoverExpiry n), ?_⟩
  rw [heq, State.ended_time, State.ended_rd _ _ (Fld.notRun (by decide)), State.setTime_rd, State.rd_wr_fits _ _ (by decide)]
  exact ⟨rfl, rfl, ((PtpStep.wr s (by simp) _).trans (.setTime _ _)).ended⟩

end

/-- Settles O52: messages judged, passed on and measured; TB0 updated; the master taken and lost; what is sent. -/
theorem ptpCommands : Obligations.PtpCommands := by
  unfold Obligations.PtpCommands
  refine ⟨fun p m icv t2 res s hpend hon harr => ⟨ptpSync_bad hpend hon harr, ptpSync_misfit hpend hon harr,
    ptpSync_forwarded hpend hon harr, fun ms hicv hsec hfits htwo hport hms hgm hmp => ?_⟩, fun p m s h => ⟨?_, ?_, ?_, ?_⟩,
    fun _ _ _ => followUp_missed, fun _ _ _ => delayReq_sent, fun _ _ _ _ => masterLost_shown,
    fun x us s hpath hmaster hpend h0 h1 => ⟨ptpSync_sent hpath hmaster hpend h0 h1, ptpAnnounce_sent hpath hmaster h0 h1⟩,
    fun _ _ => localGm_taken, fun _ _ => holdover_expired⟩
  · obtain ⟨u, hexec, hu, htime⟩ := ptpSync_consumed (t2 := t2) (res := res) hpend hon harr hicv hsec hfits htwo hport hms hgm hmp
    exact ⟨fun h => ⟨_, hexec, syncConsumed_twoStep hu htime h⟩, fun h hfew => ⟨_, hexec, syncConsumed_few hu htime h hfew⟩,
      fun o h henough ho => ⟨_, hexec, syncConsumed_enough hu htime h henough ho⟩⟩
  · exact fun w hw hseq hport hfew => followUp_measured h hw hseq hport hfew
  · exact fun rx res hp => ⟨delayReq_answered h hp, delayReq_forwarded h hp⟩
  · exact fun t3 x hport hasker hdreq hsync => delayResp_measured h hport hasker hdreq hsync
  · exact fun a hport hscale hnone => ptpAnnounce_first (s := s) h hport hscale hnone

end Sys2Proof.Machine
end

section
/-!
PROOFS. The recorder: what opening a page, programming a record and sealing a page leave (R486 to R493).
-/
namespace Sys2Proof.Machine

/-! ## Octets of memory -/

/-- A part of the octets read is read at its own place. -/
theorem Memory.readN_part {m : Memory} {a n : Nat} {x y z : List Byte} (h : m.readN a n = x ++ (y ++ z)) :
    m.readN (a + x.length) y.length = y := by
  have hlen : n = x.length + (y.length + z.length) := by
    rw [← m.length_readN a n, h, List.length_append, List.length_append]
  rw [hlen, Memory.readN_append, Memory.readN_append] at h
  obtain ⟨-, hrest⟩ := List.append_inj h (m.length_readN _ _)
  exact (List.append_inj hrest (m.length_readN _ _)).1

/-- A number among the octets read. -/
theorem State.rdMem_of_readN {s : State} {a n k v : Nat} {x z : List Byte}
    (h : s.mem.readN a n = x ++ (octetsLE k v ++ z)) : s.rdMem (a + x.length) k = v % 2 ^ (8 * k) := by
  have hpart := Memory.readN_part h
  rw [length_octetsLE] at hpart
  rw [State.rdMem, Memory.readLE, hpart, ofOctetsLE_octetsLE]

/-! ## Records (R486) -/

theorem length_padTo (n : Nat) (l : List Byte) : (padTo n l).length = n := by
  simp only [padTo, List.length_take, List.length_append, List.length_replicate]
  omega

/-- A record: the magic, its kind, SEQ, and the rest. -/
theorem recOctets_eq (kind seq op cyc len src : Nat) (body : List Byte) :
    ∃ rest, recOctets kind seq op cyc len src body =
      octetsLE 2 recMagic ++ (octetsLE 1 kind ++ (octetsLE 1 1 ++ (octetsLE 4 seq ++ rest))) ∧
      rest.length = 24 + (len - 36) := by
  refine ⟨octetsLE 8 (op % 2 ^ 40) ++ (octetsLE 4 cyc ++ (octetsLE 2 len ++ (octetsLE 2 src ++ (octetsLE 4
    (crc32 (memFields [(2, recMagic), (1, kind), (1, 1), (4, seq), (8, op % 2 ^ 40), (4, cyc), (2, len), (2, src)] ++
      (octetsLE 4 0 ++ padTo (len - 36) body))) ++ (octetsLE 4 0 ++ padTo (len - 36) body))))), ?_, ?_⟩
  · unfold recOctets
    extract_lets h b
    simp only [h, b, memFields, List.flatMap_cons, List.flatMap_nil, List.append_assoc, List.nil_append]
  · simp only [List.length_append, length_octetsLE, length_padTo]
    omega

theorem length_recOctets {len : Nat} (h : 36 ≤ len) (kind seq op cyc src : Nat) (body : List Byte) :
    (recOctets kind seq op cyc len src body).length = len - 4 := by
  obtain ⟨rest, heq, hlen⟩ := recOctets_eq kind seq op cyc len src body
  rw [heq]
  simp only [List.length_append, length_octetsLE, hlen]
  omega

/-! ## The frame -/

/-- From `s` to `t` the registers outside `l` stay, and so do the octets at the addresses that satisfy `P`, the shadow copies
and the snapshots that wait. -/
structure RecStep (l : List Fld) (P : Nat → Prop) (s t : State) : Prop where
  rd : ∀ g : Fld, (∀ f ∈ l, g.key ≠ f.key) → t.rd g = s.rd g
  octets : ∀ a, P a → t.mem.read a = s.mem.read a
  shadow : t.shadow = s.shadow
  recd : t.recd = s.recd

namespace RecStep

section
variable {l m : List Fld} {P Q : Nat → Prop} {s t u : State}

theorem refl (l : List Fld) (P : Nat → Prop) (s : State) : RecStep l P s s := ⟨fun _ _ => rfl, fun _ _ => rfl, rfl, rfl⟩

theorem trans (h : RecStep l P s t) (k : RecStep l P t u) : RecStep l P s u :=
  ⟨fun g hg => (k.rd g hg).trans (h.rd g hg), fun a ha => (k.octets a ha).trans (h.octets a ha),
    k.shadow.trans h.shadow, k.recd.trans h.recd⟩

theorem mono (h : RecStep l P s t) (hl : ∀ f ∈ l, f ∈ m) (hP : ∀ a, Q a → P a) : RecStep m Q s t :=
  ⟨fun g hg => h.rd g fun f hf => hg f (hl f hf), fun a ha => h.octets a (hP a ha), h.shadow, h.recd⟩

theorem isSet (h : RecStep l P s t) {g : Fld} (hg : ∀ f ∈ l, g.key ≠ f.key) : t.isSet g = s.isSet g := by
  rw [State.isSet, h.rd g hg, State.isSet]

theorem wr (s : State) {f : Fld} (hf : f ∈ l) (v : Nat) : RecStep l P s (s.wr f v) :=
  ⟨fun _ hg => s.rd_wr_other v (hg f hf), fun _ _ => rfl, rfl, rfl⟩

theorem wrMem (s : State) {a n : Nat} (h : ∀ c, P c → c < a ∨ a + n ≤ c) (v : Nat) : RecStep l P s (s.wrMem a n v) :=
  ⟨fun _ _ => rfl, fun c hc => s.mem.read_writeLE_other v (h c hc), rfl, rfl⟩

theorem wrOctets (s : State) {a : Nat} {o : List Byte} (h : ∀ c, P c → c < a ∨ a + o.length ≤ c) :
    RecStep l P s (s.wrOctets a o) :=
  ⟨fun _ _ => rfl, fun c hc => Memory.read_writeL_other o s.mem a c (h c hc), rfl, rfl⟩

theorem foldl {α : Type} {f : State → α → State} (o : List α) (hf : ∀ s : State, ∀ x ∈ o, RecStep l P s (f s x)) :
    ∀ s, RecStep l P s (o.foldl f s) := by
  induction o with
  | nil => exact refl l P
  | cons x o ih =>
    exact fun s => (hf s x (List.mem_cons_self ..)).trans (ih (fun s y hy => hf s y (List.mem_cons_of_mem _ hy)) _)

theorem raiseEvent (s : State) (hd : F.HCP_EVT_STAT_DROPPED ∈ l) (hp : F.HCP_EVT_STAT_PENDING ∈ l) (cls unit : Nat)
    (data : List Byte) : RecStep l P s (s.raiseEvent cls unit data) := by
  refine ⟨fun g hg => s.raiseEvent_rd cls unit data (hg _ hd) (hg _ hp), fun a _ => by rw [State.raiseEvent_mem], ?_, ?_⟩ <;>
    simp only [State.raiseEvent] <;> split <;> rfl

/-- What a command whose effect is such a step leaves outside the recorder and the event store. -/
theorem ended_blocks (h : RecStep l P s t) (hl : ∀ f ∈ l, inBlock bREC f.key = true ∨ inBlock bHCP f.key = true) :
    BlocksKept [bREC, bHCP] s (s.ended t) :=
  State.ended_blocksKept fun g hg => h.rd g fun f hf => by
    rcases hl f hf with hb | hb
    · exact key_ne_of_inBlock (hg bREC (by simp)) hb
    · exact key_ne_of_inBlock (hg bHCP (by simp)) hb

end

end RecStep

/-! ## Levels and pages -/

/-- The fields that show how the recorder and binding `k` stand, and those of the event store. -/
def recShown (k : Nat) : List Fld :=
  [F.REC_BIND_STAT_LIVE k, F.REC_BIND_STAT_SATURATED k, F.REC_BIND_STAT_FALLBACK k, F.REC_STAT_LOW, F.REC_STAT_FULL,
    F.HCP_EVT_STAT_DROPPED, F.HCP_EVT_STAT_PENDING]

/-- The address stands outside the live page of binding `k`. -/
def OffPage (k a : Nat) : Prop := a < pageAddr k ∨ pageAddr k + 4096 ≤ a

theorem RecStep.levels (s : State) (k : Nat) (P : Nat → Prop) : RecStep (recShown k) P s s.recLevels := by
  unfold State.recLevels
  extract_lets free u
  have hu : RecStep (recShown k) P s u := by
    simp only [u]
    split
    · exact (RecStep.wr s (by simp [recShown]) 1).trans (.raiseEvent _ (by simp [recShown]) (by simp [recShown]) _ _ _)
    · exact .refl _ _ s
  split
  · exact hu.trans (.wr u (by simp [recShown]) 1)
  · exact hu

theorem RecStep.openPage (s : State) (k : Nat) : RecStep (recShown k) (OffPage k) s (s.openPage k) := by
  unfold State.openPage
  extract_lets a g mode ext u head flds v w
  have hu : RecStep (recShown k) (OffPage k) s u :=
    ⟨fun _ _ => rfl, fun c hc => Memory.read_clear_out _ (by unfold OffPage at hc; omega), rfl, rfl⟩
  have hv : RecStep (recShown k) (OffPage k) u v := by
    refine .wrOctets u fun c hc => ?_
    simp only [head, flds, memFields, List.flatMap_cons, List.flatMap_nil, List.length_append, length_octetsLE, List.length_nil]
    unfold OffPage at hc
    omega
  have hw : RecStep (recShown k) (OffPage k) v w := by
    simp only [w]
    split
    · refine .foldl _ (fun t j hj => .wrMem t (fun c hc => ?_) _) v
      have hj' := List.mem_range.mp hj
      unfold OffPage at hc
      omega
    · exact .refl _ _ v
  exact (((hu.trans hv).trans hw).trans (.wr w (by simp [recShown]) _)).trans
    ((RecStep.wr _ (by simp [recShown]) _).trans (.wr _ (by simp [recShown]) _))

/-! ## A record programmed without a failure (R487) -/

section
variable (s : State) (u kind op cyc len src : Nat) (body : List Byte)

theorem State.recProgram_ok :
    s.recProgram u kind op cyc len src body false =
      ((s.inc F.REC_SEQ_NEXT).wrOctets (unitAddr u)
        (recOctets kind (s.rd F.REC_SEQ_NEXT) op cyc len src body ++ octetsLE 4 recValid)).recCnt 0 := rfl

theorem State.programmed_mem (a : Nat) (o : List Byte) :
    (((s.inc F.REC_SEQ_NEXT).wrOctets a o).recCnt 0).mem = s.mem.writeL a o := rfl

/-- The record as it stands in flash. -/
theorem State.recProgram_octets (hlen : 36 ≤ len) :
    (s.recProgram u kind op cyc len src body false).mem.readN (unitAddr u) len =
      recOctets kind (s.rd F.REC_SEQ_NEXT) op cyc len src body ++ octetsLE 4 recValid := by
  have hl : (recOctets kind (s.rd F.REC_SEQ_NEXT) op cyc len src body ++ octetsLE 4 recValid).length = len := by
    rw [List.length_append, length_recOctets hlen, length_octetsLE]
    omega
  rw [State.recProgram_ok, State.programmed_mem]
  generalize recOctets kind (s.rd F.REC_SEQ_NEXT) op cyc len src body ++ octetsLE 4 recValid = o at hl
  rw [← hl, Memory.readN_writeL]

theorem State.recProgram_counted :
    (s.recProgram u kind op cyc len src body false).rd F.REC_SEQ_NEXT = (s.rd F.REC_SEQ_NEXT + 1) % 2 ^ 32 ∧
      (s.recProgram u kind op cyc len src body false).rd (F.REC_CNT_COUNT 0) =
        (s.rd (F.REC_CNT_COUNT 0) + 1) % 2 ^ 32 := by
  have hkeep (t : State) (o : List Byte) (a : Nat) (g : Fld) : (t.wrOctets a o).rd g = t.rd g := rfl
  rw [State.recProgram_ok, State.recCnt, State.inc_eq, State.rd_wr_other _ _ (by decide), State.rd_wr_same, hkeep, hkeep,
    State.inc_eq, State.rd_wr_same, State.rd_wr_other _ _ (by decide)]
  exact ⟨rfl, rfl⟩

theorem RecStep.program (hlen : 36 ≤ len) :
    RecStep [F.REC_SEQ_NEXT, F.REC_CNT_COUNT 0] (fun a => a < unitAddr u ∨ unitAddr u + len ≤ a) s
      (s.recProgram u kind op cyc len src body false) := by
  rw [State.recProgram_ok]
  refine ((RecStep.wr s (by simp) _).trans (.wrOctets _ fun c hc => ?_)).trans (.wr _ (by simp) _)
  rw [List.length_append, length_recOctets hlen, length_octetsLE]
  omega

end

end Sys2Proof.Machine
end

section
/-!
PROOFS. The recorder: samples, snapshots and pages sealed (R489 to R497).
-/
namespace Sys2Proof.Machine

/-! ## A page programmed (R493, R496) -/

/-- The fields that a record programmed from a page writes. -/
def pageFields (k : Nat) : List Fld := [F.REC_FREE_BLOCKS, F.REC_SEQ_NEXT, F.REC_CNT_COUNT 0] ++ recShown k

/-- What a record of binding `k` in the block at the front of `s` says of `t`. -/
structure PageStored (k : Nat) (s t : State) : Prop where
  octets : ∃ kind op cyc body, t.mem.readN (unitAddr (8 * s.recFront)) 4096 =
    recOctets kind (s.rd F.REC_SEQ_NEXT) op cyc 4096 k body ++ octetsLE 4 recValid
  free : t.rd F.REC_FREE_BLOCKS = (s.rd F.REC_FREE_BLOCKS - 1) % 2 ^ 17
  seq : t.rd F.REC_SEQ_NEXT = (s.rd F.REC_SEQ_NEXT + 1) % 2 ^ 32
  cnt : t.rd (F.REC_CNT_COUNT 0) = (s.rd (F.REC_CNT_COUNT 0) + 1) % 2 ^ 32

theorem State.programPage_once (s : State) (k : Nat) :
    ∃ kind op cyc body, s.programPage k 0 =
      ((s.wr F.REC_FREE_BLOCKS (s.rd F.REC_FREE_BLOCKS - 1)).recProgram (8 * s.recFront) kind op cyc 4096 k body false).recLevels := by
  unfold State.programPage
  extract_lets kind body put u
  have hu : u = put s false := rfl
  have htake : s.recTake = (s.recFront, s.wr F.REC_FREE_BLOCKS (s.rd F.REC_FREE_BLOCKS - 1)) := rfl
  refine ⟨kind, (s.wr F.REC_FREE_BLOCKS (s.rd F.REC_FREE_BLOCKS - 1)).opSec,
    (s.wr F.REC_FREE_BLOCKS (s.rd F.REC_FREE_BLOCKS - 1)).rd F.PWR_CYCLES_COUNT, body, ?_⟩
  rw [if_pos (.inl rfl), hu]
  simp only [put, htake]

/-- The fields of one binding are none of the recorder's own. -/
theorem recShown_ne (k : Nat) {g : Fld} (hg : g = F.REC_FREE_BLOCKS ∨ g = F.REC_SEQ_NEXT ∨ g = F.REC_CNT_COUNT 0) :
    ∀ f ∈ recShown k, g.key ≠ f.key := by
  simp only [recShown, List.mem_cons, List.not_mem_nil, or_false]
  rintro f (rfl | rfl | rfl | rfl | rfl | rfl | rfl) <;> rcases hg with rfl | rfl | rfl <;>
    simp only [Fld.key, F.REC_FREE_BLOCKS, F.REC_SEQ_NEXT, F.REC_CNT_COUNT, F.REC_BIND_STAT_LIVE, F.REC_BIND_STAT_SATURATED,
      F.REC_BIND_STAT_FALLBACK, F.REC_STAT_LOW, F.REC_STAT_FULL, F.HCP_EVT_STAT_DROPPED, F.HCP_EVT_STAT_PENDING] <;> omega

theorem State.programPage_stored (s : State) (k : Nat) :
    PageStored k s (s.programPage k 0) ∧
      RecStep (pageFields k) (fun a => a < unitAddr (8 * s.recFront) ∨ unitAddr (8 * s.recFront) + 4096 ≤ a) s
        (s.programPage k 0) := by
  obtain ⟨kind, op, cyc, body, heq⟩ := s.programPage_once k
  rw [heq]
  have htake := State.rd_wr_same s F.REC_FREE_BLOCKS (s.rd F.REC_FREE_BLOCKS - 1)
  have hseq := State.rd_wr_other s (f := F.REC_FREE_BLOCKS) (g := F.REC_SEQ_NEXT) (s.rd F.REC_FREE_BLOCKS - 1) (by decide)
  have hcnt := State.rd_wr_other s (f := F.REC_FREE_BLOCKS) (g := F.REC_CNT_COUNT 0) (s.rd F.REC_FREE_BLOCKS - 1) (by decide)
  have hwr : RecStep (pageFields k) (fun a => a < unitAddr (8 * s.recFront) ∨ unitAddr (8 * s.recFront) + 4096 ≤ a) s
      (s.wr F.REC_FREE_BLOCKS (s.rd F.REC_FREE_BLOCKS - 1)) := .wr s (by simp [pageFields]) _
  generalize s.wr F.REC_FREE_BLOCKS (s.rd F.REC_FREE_BLOCKS - 1) = t at htake hseq hcnt hwr
  have hoct := t.recProgram_octets (8 * s.recFront) kind op cyc 4096 k body (by decide)
  obtain ⟨hseq', hcnt'⟩ := t.recProgram_counted (8 * s.recFront) kind op cyc 4096 k body
  have hprog := RecStep.program t (8 * s.recFront) kind op cyc 4096 k body (by decide)
  generalize t.recProgram (8 * s.recFront) kind op cyc 4096 k body false = u at hoct hseq' hcnt' hprog
  have hlev := RecStep.levels u k fun _ => True
  refine ⟨⟨⟨kind, op, cyc, body, ?_⟩, ?_, ?_, ?_⟩, ?_⟩
  · rw [Memory.readN_congr fun a _ _ => hlev.octets a trivial, hoct, hseq]
  · rw [hlev.rd _ (recShown_ne k (.inl rfl)), hprog.rd _ (by decide), htake]
    rfl
  · rw [hlev.rd _ (recShown_ne k (.inr (.inl rfl))), hseq', hseq]
  · rw [hlev.rd _ (recShown_ne k (.inr (.inr rfl))), hcnt', hcnt]
  · refine (hwr.trans (hprog.mono (fun f hf => ?_) fun a ha => ha)).trans (hlev.mono (fun f hf => ?_) fun a _ => trivial)
    · simp only [List.mem_cons, List.not_mem_nil, or_false] at hf
      rcases hf with rfl | rfl <;> simp [pageFields]
    · exact List.mem_append_right _ hf

/-! ## A page sealed (R493) -/

/-- The machine with the live page of binding `k` written and counted. -/
def State.pageWritten (s : State) (k : Nat) : State :=
  (((s.wrMem (pageAddr k + 48) 2 (setBit (s.rdMem (pageAddr k + 48) 2) 0 true)).programPage k 0).recCnt 1).inc
    (F.REC_BIND_STAT_PAGES k)

/-- The machine after a seal: the binding falls back at the reserve, opens the page's successor, or has none. -/
def State.pageEnded (s : State) (k : Nat) : State :=
  if (s.wr (F.REC_BIND_STAT_LIVE k) 0).isSet F.REC_STAT_LOW then
    (s.wr (F.REC_BIND_STAT_LIVE k) 0).wr (F.REC_BIND_STAT_FALLBACK k) 1
  else if (s.wr (F.REC_BIND_STAT_LIVE k) 0).isSet (F.REC_BIND_CFG_EN k) ∧ ¬ (s.rd (F.REC_BIND_CFG_PERIOD_H k) == 0) then
    (s.wr (F.REC_BIND_STAT_LIVE k) 0).openPage k
  else s.wr (F.REC_BIND_STAT_LIVE k) 0

theorem RecStep.pageEnded (s : State) (k : Nat) : RecStep (recShown k) (OffPage k) s (s.pageEnded k) := by
  have hlive : RecStep (recShown k) (OffPage k) s (s.wr (F.REC_BIND_STAT_LIVE k) 0) := .wr s (by simp [recShown]) 0
  unfold State.pageEnded
  split
  · exact hlive.trans (.wr _ (by simp [recShown]) 1)
  · split
    · exact hlive.trans (.openPage _ k)
    · exact hlive

theorem RecStep.pendingIn {l : List Fld} {P : Nat → Prop} {s t : State} (h : RecStep l P s t) (b : Nat) :
    t.pendingIn b = s.pendingIn b := by
  rw [State.pendingIn, h.shadow, State.pendingIn]

/-- The fields that the seal of the page of binding `k` writes. -/
def sealFields (k : Nat) : List Fld := [F.REC_CNT_COUNT 1, F.REC_BIND_STAT_PAGES k] ++ pageFields k

/-- The address stands outside the page of binding `k` and outside the block at the front of `s`. -/
def OffSeal (s : State) (k a : Nat) : Prop :=
  OffPage k a ∧ (a < unitAddr (8 * s.recFront) ∨ unitAddr (8 * s.recFront) + 4096 ≤ a)

theorem State.pageWritten_spec (s : State) (k : Nat) :
    PageStored k s (s.pageWritten k) ∧
      (s.pageWritten k).rd (F.REC_CNT_COUNT 1) = (s.rd (F.REC_CNT_COUNT 1) + 1) % 2 ^ 32 ∧
      (s.pageWritten k).rd (F.REC_BIND_STAT_PAGES k) = (s.rd (F.REC_BIND_STAT_PAGES k) + 1) % 2 ^ 16 ∧
      RecStep (sealFields k) (OffSeal s k) s (s.pageWritten k) := by
  have hflag : RecStep (sealFields k) (OffSeal s k) s
      (s.wrMem (pageAddr k + 48) 2 (setBit (s.rdMem (pageAddr k + 48) 2) 0 true)) :=
    .wrMem s (fun c hc => by have := hc.1; unfold OffPage at this; omega) _
  have hfront : (s.wrMem (pageAddr k + 48) 2 (setBit (s.rdMem (pageAddr k + 48) 2) 0 true)).recFront = s.recFront := rfl
  have hregs (g : Fld) : (s.wrMem (pageAddr k + 48) 2 (setBit (s.rdMem (pageAddr k + 48) 2) 0 true)).rd g = s.rd g := rfl
  unfold State.pageWritten
  generalize s.wrMem (pageAddr k + 48) 2 (setBit (s.rdMem (pageAddr k + 48) 2) 0 true) = t at hflag hfront hregs
  obtain ⟨⟨⟨kind, op, cyc, body, hoct⟩, hfree, hseq, hcnt⟩, hstep⟩ := t.programPage_stored k
  rw [hfront] at hoct hstep
  rw [hregs] at hoct hfree hseq hcnt
  have hne (g : Fld) (hg : g = F.REC_CNT_COUNT 1 ∨ g = F.REC_BIND_STAT_PAGES k) : ∀ f ∈ pageFields k, g.key ≠ f.key := by
    simp only [pageFields, recShown, List.mem_cons, List.not_mem_nil, or_false, List.cons_append, List.nil_append]
    rintro f (rfl | rfl | rfl | rfl | rfl | rfl | rfl | rfl | rfl | rfl) <;> rcases hg with rfl | rfl <;>
      simp only [Fld.key, F.REC_FREE_BLOCKS, F.REC_SEQ_NEXT, F.REC_CNT_COUNT, F.REC_BIND_STAT_LIVE, F.REC_BIND_STAT_SATURATED,
        F.REC_BIND_STAT_FALLBACK, F.REC_BIND_STAT_PAGES, F.REC_STAT_LOW, F.REC_STAT_FULL, F.HCP_EVT_STAT_DROPPED,
        F.HCP_EVT_STAT_PENDING] <;> omega
  have hone := (hstep.rd _ (hne _ (.inl rfl))).trans (hregs _)
  have hpages := (hstep.rd _ (hne _ (.inr rfl))).trans (hregs _)
  have hall : RecStep (sealFields k) (OffSeal s k) s (t.programPage k 0) :=
    hflag.trans (hstep.mono (fun f hf => List.mem_append_right _ hf) fun a ha => ha.2)
  generalize t.programPage k 0 = u at hoct hfree hseq hcnt hone hpages hall
  have hkey (g : Fld) (hg : g = F.REC_FREE_BLOCKS ∨ g = F.REC_SEQ_NEXT ∨ g = F.REC_CNT_COUNT 0) :
      ((u.recCnt 1).inc (F.REC_BIND_STAT_PAGES k)).rd g = u.rd g := by
    rw [State.inc_eq, State.rd_wr_other _ _ ?_, State.recCnt, State.inc_eq, State.rd_wr_other _ _ ?_] <;>
      rcases hg with rfl | rfl | rfl <;>
      simp only [Fld.key, F.REC_FREE_BLOCKS, F.REC_SEQ_NEXT, F.REC_CNT_COUNT, F.REC_BIND_STAT_PAGES] <;> omega
  refine ⟨⟨⟨kind, op, cyc, body, hoct⟩, ?_, ?_, ?_⟩, ?_, ?_, ?_⟩
  · rw [hkey _ (.inl rfl), hfree]
  · rw [hkey _ (.inr (.inl rfl)), hseq]
  · rw [hkey _ (.inr (.inr rfl)), hcnt]
  · rw [State.inc_eq, State.rd_wr_other _ _ (by simp only [Fld.key, F.REC_CNT_COUNT, F.REC_BIND_STAT_PAGES]; omega),
      State.recCnt, State.inc_eq, State.rd_wr_same, hone]
    rfl
  · rw [State.inc_eq, State.rd_wr_same, State.recCnt, State.inc_eq,
      State.rd_wr_other _ _ (by simp only [Fld.key, F.REC_CNT_COUNT, F.REC_BIND_STAT_PAGES]; omega), hpages]
    rfl
  · exact (hall.trans (.wr u (by simp [sealFields]) _)).trans (.wr _ (by simp [sealFields]) _)

/-- A recorder that may write seals a live page whose binding has no shadowed write. -/
theorem State.sealPage_eq {s : State} {k : Nat} (hw : RecWrites s) (hpend : s.pendingIn bREC = false)
    (hlive : s.isSet (F.REC_BIND_STAT_LIVE k) = true) : s.sealPage k false 0 = (s.pageWritten k).pageEnded k := by
  obtain ⟨hon, hready, hflash, hlow, hfull⟩ := hw
  have hon44 : s.isOn 44 = true := by
    have h : s.allOn [49, 44] = true := hon
    simp only [State.allOn, List.all_cons, List.all_nil, Bool.and_true, Bool.and_eq_true] at h
    exact h.2
  have hstep := s.pageWritten_spec k
  obtain ⟨-, -, -, hstep⟩ := hstep
  have hidle : ((s.pageWritten k).wr (F.REC_BIND_STAT_LIVE k) 0).commitSel bREC (inBinding k) =
      (s.pageWritten k).wr (F.REC_BIND_STAT_LIVE k) 0 := by
    refine State.commitSel_of_pendingIn ?_ _
    rw [← hpend, ← hstep.pendingIn bREC]
    rfl
  unfold State.sealPage
  rw [if_neg (by simp [hon44, hready, hflash]), if_neg (not_not_intro hlive), if_neg (by simp [hlow, hfull])]
  extract_lets a fl u v w x once y
  have hy : y = (s.pageWritten k).wr (F.REC_BIND_STAT_LIVE k) 0 := hidle
  rw [hy]
  rfl

end Sys2Proof.Machine
end

section
/-!
PROOFS. The recorder: what a seal, a sample, a trigger and a snapshot leave, and the statement (R489 to R496).
-/
namespace Sys2Proof.Machine

/-! ## Seals -/

theorem recCount_ne (k : Nat) {g : Fld} (hg : g = F.REC_CNT_COUNT 1 ∨ g = F.REC_BIND_STAT_PAGES k) :
    ∀ f ∈ recShown k, g.key ≠ f.key := by
  simp only [recShown, List.mem_cons, List.not_mem_nil, or_false]
  rintro f (rfl | rfl | rfl | rfl | rfl | rfl | rfl) <;> rcases hg with rfl | rfl <;>
    simp only [Fld.key, F.REC_CNT_COUNT, F.REC_BIND_STAT_LIVE, F.REC_BIND_STAT_SATURATED, F.REC_BIND_STAT_PAGES,
      F.REC_BIND_STAT_FALLBACK, F.REC_STAT_LOW, F.REC_STAT_FULL, F.HCP_EVT_STAT_DROPPED, F.HCP_EVT_STAT_PENDING] <;> omega

theorem sealFields_block {k : Nat} (hk : k < 16) :
    ∀ f ∈ sealFields k, inBlock bREC f.key = true ∨ inBlock bHCP f.key = true := by
  simp only [sealFields, pageFields, recShown, List.mem_cons, List.not_mem_nil, or_false, List.cons_append, List.nil_append]
  rintro f (rfl | rfl | rfl | rfl | rfl | rfl | rfl | rfl | rfl | rfl | rfl | rfl)
  case inr.inr.inr.inr.inr.inr.inr.inr.inr.inr.inl => exact .inr (by decide)
  case inr.inr.inr.inr.inr.inr.inr.inr.inr.inr.inr => exact .inr (by decide)
  all_goals
    refine .inl (decide_eq_true ?_)
    simp only [blockBase, bREC, blockNo, Fld.key, F.REC_FREE_BLOCKS, F.REC_SEQ_NEXT, F.REC_CNT_COUNT, F.REC_BIND_STAT_LIVE,
      F.REC_BIND_STAT_SATURATED, F.REC_BIND_STAT_FALLBACK, F.REC_BIND_STAT_PAGES, F.REC_STAT_LOW, F.REC_STAT_FULL]
    omega

/-- A command whose effect leaves the registers and the octets that the seal of a live page leaves has sealed it. -/
theorem sealed_ended {s u : State} {k : Nat} (hk : k < 16) (hw : RecWrites s) (hpend : s.pendingIn bREC = false)
    (hlive : s.isSet (F.REC_BIND_STAT_LIVE k) = true) (hregs : u.regs = (s.sealPage k false 0).regs)
    (hmem : u.mem = (s.sealPage k false 0).mem) : Sealed k s (s.ended u) := by
  obtain ⟨⟨⟨kind, op, cyc, body, hoct⟩, hfree, hseq, hcnt⟩, hone, hpages, hstep⟩ := s.pageWritten_spec k
  rw [State.sealPage_eq hw hpend hlive] at hregs hmem
  have hend := RecStep.pageEnded (s.pageWritten k) k
  generalize s.pageWritten k = w at hoct hfree hseq hcnt hone hpages hstep hend hregs hmem
  have hu (g : Fld) : u.rd g = (w.pageEnded k).rd g := State.rd_of_regs hregs g
  have hall : RecStep (sealFields k) (OffSeal s k) s (w.pageEnded k) :=
    hstep.trans (hend.mono (fun f hf => List.mem_append_right _ (List.mem_append_right _ hf)) fun a ha => ha.1)
  have hblock : u.mem.readN (unitAddr (8 * s.recFront)) 4096 =
      recOctets kind (s.rd F.REC_SEQ_NEXT) op cyc 4096 k body ++ octetsLE 4 recValid := by
    rw [hmem, Memory.readN_congr fun a ha _ => hend.octets a (.inr ?_), hoct]
    unfold unitAddr at ha
    unfold pageAddr
    omega
  have hlen := length_recOctets (len := 4096) (by decide) kind (s.rd F.REC_SEQ_NEXT) op cyc k body
  have hmagic : u.rdMem (unitAddr (8 * s.recFront)) 2 = recMagic ∧
      u.rdMem (unitAddr (8 * s.recFront) + 4) 4 = s.rd F.REC_SEQ_NEXT % 2 ^ 32 := by
    obtain ⟨rest, heq, -⟩ := recOctets_eq kind (s.rd F.REC_SEQ_NEXT) op cyc 4096 k body
    rw [heq] at hblock
    refine ⟨?_, ?_⟩
    · have h := State.rdMem_of_readN (s := u) (x := []) (k := 2) (v := recMagic) (by
        rw [hblock, List.append_assoc, List.nil_append])
      exact h
    · have h := State.rdMem_of_readN (s := u) (x := octetsLE 2 recMagic ++ (octetsLE 1 kind ++ octetsLE 1 1)) (k := 4)
        (v := s.rd F.REC_SEQ_NEXT) (z := rest ++ octetsLE 4 recValid) (by
          rw [hblock]
          simp only [List.append_assoc])
      simpa only [List.length_append, length_octetsLE] using h
  have hvalid : u.rdMem (unitAddr (8 * s.recFront) + 4092) 4 = recValid := by
    have h := State.rdMem_of_readN (s := u) (x := recOctets kind (s.rd F.REC_SEQ_NEXT) op cyc 4096 k body) (k := 4)
      (v := recValid) (z := []) (by rw [hblock, List.append_nil])
    rw [hlen] at h
    exact h
  unfold Sealed
  rw [State.ended_rdMem, State.ended_rdMem, State.ended_rdMem, State.ended_rd _ _ (Fld.notRun (by decide)),
    State.ended_rd _ _ (Fld.notRun (by decide)), State.ended_rd _ _ (Fld.notRun (by decide)),
    State.ended_rd _ _ (Fld.notRun (by decide)),
    State.ended_rd _ _ (Fld.notRun (by simp only [F.REC_BIND_STAT_PAGES]; omega)), hu, hu, hu, hu, hu,
    hend.rd _ (recShown_ne k (.inl rfl)), hend.rd _ (recShown_ne k (.inr (.inl rfl))),
    hend.rd _ (recShown_ne k (.inr (.inr rfl))), hend.rd _ (recCount_ne k (.inl rfl)), hend.rd _ (recCount_ne k (.inr rfl))]
  refine ⟨hmagic.1, hmagic.2, hvalid, hfree, hseq, hcnt, hone, hpages, ?_, fun a hpage hunit => ?_⟩
  · have hkept := hall.ended_blocks (sealFields_block hk)
    exact fun g hg hne => (s.ended_rd u hg).trans ((hu g).trans ((s.ended_rd _ hg).symm.trans (hkept g hg hne)))
  · rw [State.ended_rd8, State.rd8, hmem, hall.octets a ⟨hpage, hunit⟩, State.rd8]

theorem recCtrl_written : regsRec[0].written =
    [⟨"OP", 28, 4, .zero, .wo, .l, .num, false, .enc [1, 2]⟩, ⟨"BIND", 0, 4, .zero, .wo, .l, .num, false, .any⟩] := by decide

theorem regAct_recCtrl (s : State) (req v : Nat) : s.regAct req bREC 0x0 0 v WriteMore.none =
    acted (if bits v 28 4 = 1 then s.sealPage (bits v 0 4) false 0 else s.sealAll) := rfl

/-- Steps that leave every machine satisfying `Q` as it is, taken from such a machine. -/
theorem foldl_id {α β : Type} {f : α → β → α} {Q : α → Prop} (l : List β) (h : ∀ x ∈ l, ∀ s, Q s → f s x = s) {s : α} (hs : Q s) :
    l.foldl f s = s := by
  induction l with
  | nil => rfl
  | cons x l ih =>
    rw [List.foldl_cons, h x (List.mem_cons_self ..) s hs, ih fun y hy => h y (List.mem_cons_of_mem _ hy)]

theorem liveOther_ne {j k : Nat} (h : j ≠ k) (hj : j < 16) :
    ∀ f ∈ sealFields k, (F.REC_BIND_STAT_LIVE j).key ≠ f.key := by
  simp only [sealFields, pageFields, recShown, List.mem_cons, List.not_mem_nil, or_false, List.cons_append, List.nil_append]
  rintro f (rfl | rfl | rfl | rfl | rfl | rfl | rfl | rfl | rfl | rfl | rfl | rfl) <;>
    simp only [Fld.key, F.REC_FREE_BLOCKS, F.REC_SEQ_NEXT, F.REC_CNT_COUNT, F.REC_BIND_STAT_LIVE, F.REC_BIND_STAT_SATURATED,
      F.REC_BIND_STAT_FALLBACK, F.REC_BIND_STAT_PAGES, F.REC_STAT_LOW, F.REC_STAT_FULL, F.HCP_EVT_STAT_DROPPED,
      F.HCP_EVT_STAT_PENDING] <;> omega

section
variable {s : State} {k : Fin 16} (hw : RecWrites s) (hpend : s.pendingIn bREC = false)
  (hlive : s.isSet (F.REC_BIND_STAT_LIVE k.val) = true)
include hw hpend hlive

/-- A page whose period has passed is sealed (R493). -/
theorem pageSeal_due (hper : s.rd (F.REC_BIND_CFG_PERIOD_H k.val) ≠ 0)
    (hdue : s.rdMem (pageAddr k.val + 52) 8 + 3600 * s.rd (F.REC_BIND_CFG_PERIOD_H k.val) ≤ s.opSec) :
    ∃ t, exec (.pageSeal k 0) s = .next t ∧ Sealed k.val s t := by
  have heq : s.pageSeal k.val 0 = s.sealPage k.val false 0 := if_pos ⟨hlive, hper, hdue⟩
  refine ⟨_, finish_ended s (s.pageSeal k.val 0), ?_⟩
  rw [heq]
  exact sealed_ended k.isLt hw hpend hlive rfl rfl

/-! ### SEAL and SEAL_ALL -/

omit hpend hlive in
theorem State.addrUp_recCtrl : s.addrUp 0x40160000 = true :=
  (s.addrUp_block bREC 0x40160000 (by decide) (by decide) (by decide)).trans hw.1

omit hpend hlive in
theorem State.rowWrite_recCtrl (req : Fin 36) {v : Nat} (hop : bits v 28 4 = 1 ∨ bits v 28 4 = 2) :
    s.rowWrite req 0x40160000 v WriteMore.none =
      (if bits v 28 4 = 1 then s.sealPage (bits v 0 4) false 0 else s.sealAll).answer req 0x40160000 stOK 0 := by
  have hact := regAct_recCtrl s req v
  have hchk : (regsRec[0].written.all fun f => chkField f.chk f.width (bits v f.lo f.width) == (true, true)) = true := by
    rw [recCtrl_written]
    rcases hop with h | h <;> simp [chkField, h]
  have hrow := s.rowWrite_act (req := req) (a := 0x40160000) (v := v) (x := WriteMore.none)
    (State.addrUp_recCtrl hw) (by decide) (b := bREC) (off := 0x0) (r := regsRec[0]) (ix := []) (by decide) (by decide)
    (by decide) (by decide) hchk rfl rfl (by decide) (by decide)
  exact hrow.trans (congrArg (fun r => r.2.answer req 0x40160000 r.1 0) hact)

omit hpend hlive in
theorem exec_recSeal (req : Fin 36) :
    exec (.recSeal req k) s = .next (s.ended ((s.sealPage k.val false 0).answer req 0x40160000 stOK 0)) := by
  have hop : bits (1 * 2 ^ 28 + k.val) 28 4 = 1 := by simp only [bits]; omega
  have hbind : bits (1 * 2 ^ 28 + k.val) 0 4 = k.val := by simp only [bits]; omega
  have hrow := State.rowWrite_recCtrl hw req (.inl hop)
  rw [if_pos hop, hbind] at hrow
  exact congrArg (finish s) hrow

omit hpend hlive in
theorem exec_recSealAll (req : Fin 36) :
    exec (.recSealAll req) s = .next (s.ended (s.sealAll.answer req 0x40160000 stOK 0)) := by
  have hrow := State.rowWrite_recCtrl hw req (v := 2 * 2 ^ 28) (.inr (by decide))
  rw [if_neg (by decide)] at hrow
  exact congrArg (finish s) hrow

theorem recSeal_sealed (req : Fin 36) : ∃ t, exec (.recSeal req k) s = .next t ∧ Sealed k.val s t :=
  ⟨_, exec_recSeal hw req, sealed_ended k.isLt hw hpend hlive rfl rfl⟩

/-- No page but the one of binding `k` is live, before and after its seal. -/
theorem State.sealAll_eq (hothers : ∀ j : Fin 16, j ≠ k → s.isSet (F.REC_BIND_STAT_LIVE j.val) = false) :
    s.sealAll = s.sealPage k.val false 0 := by
  have hsplit := (by decide : ∀ k : Fin 16, List.range 16 = (List.range 16).take k ++ k.val :: (List.range 16).drop (k + 1) ∧
    (∀ j ∈ (List.range 16).take k, j < 16 ∧ j ≠ k.val) ∧ ∀ j ∈ (List.range 16).drop (k + 1), j < 16 ∧ j ≠ k.val) k
  obtain ⟨hrange, hbefore, hafter⟩ := hsplit
  have hstep : RecStep (sealFields k.val) (OffSeal s k.val) s (s.sealPage k.val false 0) := by
    rw [State.sealPage_eq hw hpend hlive]
    obtain ⟨-, -, -, hwritten⟩ := s.pageWritten_spec k.val
    exact hwritten.trans ((RecStep.pageEnded _ _).mono
      (fun f hf => List.mem_append_right _ (List.mem_append_right _ hf)) fun a ha => ha.1)
  have hidle (l : List Nat) (hl : ∀ j ∈ l, j < 16 ∧ j ≠ k.val) (u : State)
      (hu : ∀ j : Fin 16, j ≠ k → u.isSet (F.REC_BIND_STAT_LIVE j.val) = false) :
      l.foldl (fun s k => if s.isSet (F.REC_BIND_STAT_LIVE k) then s.sealPage k false 0 else s) u = u := by
    refine foldl_id (Q := fun u => ∀ j : Fin 16, j ≠ k → u.isSet (F.REC_BIND_STAT_LIVE j.val) = false) l
      (fun j hj t ht => if_neg ?_) hu
    obtain ⟨hlt, hne⟩ := hl j hj
    rw [ht ⟨j, hlt⟩ fun he => hne (congrArg Fin.val he)]
    decide
  unfold State.sealAll
  rw [hrange, List.foldl_append, hidle _ hbefore s hothers, List.foldl_cons, if_pos hlive]
  refine hidle _ hafter _ fun j hj => ?_
  rw [hstep.isSet (liveOther_ne (fun he => hj (Fin.ext he)) j.isLt)]
  exact hothers j hj

theorem recSealAll_sealed (req : Fin 36)
    (hothers : ∀ j : Fin 16, j ≠ k → s.isSet (F.REC_BIND_STAT_LIVE j.val) = false) :
    ∃ t, exec (.recSealAll req) s = .next t ∧ Sealed k.val s t := by
  refine ⟨_, exec_recSealAll hw req, ?_⟩
  rw [State.sealAll_eq hw hpend hlive hothers]
  exact sealed_ended k.isLt hw hpend hlive rfl rfl

end

end Sys2Proof.Machine
end

section
/-!
PROOFS. The recorder: what a sample, a trigger and a snapshot leave, and the statement (R489 to R496).
-/
namespace Sys2Proof.Machine

theorem notRun_recCnt {i : Nat} (hi : i < 16) : notRun (F.REC_CNT_COUNT i).key :=
  Fld.notRun (by simp only [F.REC_CNT_COUNT]; omega)

theorem State.rd_recCnt (s : State) (i : Nat) :
    (s.recCnt i).rd (F.REC_CNT_COUNT i) = (s.rd (F.REC_CNT_COUNT i) + 1) % 2 ^ 32 := by
  rw [State.recCnt, State.inc_eq, State.rd_wr_same]
  rfl

theorem recCnt_kept (s : State) (i : Nat) :
    RegsKept [F.REC_CNT_COUNT i] s (s.ended (s.recCnt i)) ∧ MemKept s (s.ended (s.recCnt i)) :=
  ⟨State.ended_regsKept fun _ hg => s.rd_wr_other _ (hg _ (List.mem_singleton_self _)), State.ended_memKept rfl⟩

/-! ## Samples (R489, R491) -/

/-- A bin that is not full counts one more. -/
theorem State.binInc_of_ne {s : State} {k i c : Nat} (hc : s.rdMem (pageAddr k + 128 + 4 * i) 4 = c) (hne : c ≠ 0xFFFFFFFF) :
    s.binInc k i = s.wrMem (pageAddr k + 128 + 4 * i) 4 (c + 1) := by
  unfold State.binInc
  extract_lets a n
  have hn : n = c := hc
  rw [hn, if_neg hne]

/-- A value counted: GEN odd, its bin, SAMPLES, GEN even. -/
theorem State.pageCount_eq {s : State} {k i c : Nat} {v : Int} 
    (hbin : binOf v (toSigned 32 (s.rdMem (pageAddr k + 40) 4)) (s.rdMem (pageAddr k + 44) 2) (s.rdMem (pageAddr k + 46) 2) = i)
    (hc : s.rdMem (pageAddr k + 128 + 4 * i) 4 = c) (hne : c ≠ 0xFFFFFFFF) :
    s.pageCount k v =
      (((s.wrMem (pageAddr k + 32) 4 (s.rdMem (pageAddr k + 32) 4 + 1)).wrMem (pageAddr k + 128 + 4 * i) 4 (c + 1)).wrMem
        (pageAddr k + 64) 8 (s.rdMem (pageAddr k + 64) 8 + 1)).wrMem (pageAddr k + 32) 4
          (s.rdMem (pageAddr k + 32) 4 + 2) := by
  have hodd (b m : Nat) (h : b + m ≤ pageAddr k + 32 ∨ pageAddr k + 32 + 4 ≤ b) :
      (s.wrMem (pageAddr k + 32) 4 (s.rdMem (pageAddr k + 32) 4 + 1)).rdMem b m = s.rdMem b m := s.rdMem_wrMem_other _ h
  unfold State.pageCount State.pageUpdate
  dsimp only
  rw [hodd _ _ (by omega), hodd _ _ (by omega), hodd _ _ (by omega), hbin,
    State.binInc_of_ne ((hodd _ _ (by omega)).trans hc) hne, State.rdMem_wrMem_other _ _ (by omega), hodd _ _ (by omega)]

section
variable {k : Fin 16} {n : Nat} {s : State} (hon : s.isOn 44 = true) (hlive : s.isSet (F.REC_BIND_STAT_LIVE k.val) = true)
  (hper : s.rd (F.REC_BIND_ARG_SAMPLE k.val) ≠ 0) (hdue : 100 * s.rd (F.REC_BIND_ARG_SAMPLE k.val) ≤ n)
  (hmode : s.rd (F.REC_BIND_CFG_MODE k.val) = 0)
include hon hlive hper hdue hmode

/-- A quantity without a value is a missed sample. -/
theorem recSample_missed (hq : s.quantity (s.rd (F.REC_BIND_CFG_CODE k.val)) (s.rd (F.REC_BIND_ARG_ARG k.val)) = none) :
    ∃ t, exec (.recSample k n) s = .next t ∧
      t.rd (F.REC_CNT_COUNT 14) = (s.rd (F.REC_CNT_COUNT 14) + 1) % 2 ^ 32 ∧ RegsKept [F.REC_CNT_COUNT 14] s t ∧
      MemKept s t := by
  have heq : s.recSample k.val n = s.recCnt 14 := by
    unfold State.recSample
    extract_lets per code arg
    rw [if_neg (by simp [hon, hlive, per, hper, hdue]), if_pos hmode, hq]
  refine ⟨_, finish_ended s (s.recSample k.val n), ?_⟩
  rw [heq, State.ended_rd _ _ (notRun_recCnt (by decide)), State.rd_recCnt]
  exact ⟨rfl, recCnt_kept s 14⟩

/-- A value counts into its bin, as one update of the page. -/
theorem recSample_counted {v : Int} {i : Nat}
    (hq : s.quantity (s.rd (F.REC_BIND_CFG_CODE k.val)) (s.rd (F.REC_BIND_ARG_ARG k.val)) = some v)
    (hbin : binOf v (toSigned 32 (s.rdMem (pageAddr k.val + 40) 4)) (s.rdMem (pageAddr k.val + 44) 2)
      (s.rdMem (pageAddr k.val + 46) 2) = i)
    (hfull : s.rdMem (pageAddr k.val + 128 + 4 * i) 4 ≠ 0xFFFFFFFF) :
    ∃ t, exec (.recSample k n) s = .next t ∧
      t.rdMem (pageAddr k.val + 128 + 4 * i) 4 = s.rdMem (pageAddr k.val + 128 + 4 * i) 4 + 1 ∧
      t.rdMem (pageAddr k.val + 64) 8 = (s.rdMem (pageAddr k.val + 64) 8 + 1) % 2 ^ 64 ∧
      t.rdMem (pageAddr k.val + 32) 4 = (s.rdMem (pageAddr k.val + 32) 4 + 2) % 2 ^ 32 ∧ RegsKept [] s t ∧
      ∀ a, (a < pageAddr k.val + 128 + 4 * i ∨ pageAddr k.val + 132 + 4 * i ≤ a) →
        (a < pageAddr k.val + 64 ∨ pageAddr k.val + 72 ≤ a) → (a < pageAddr k.val + 32 ∨ pageAddr k.val + 36 ≤ a) →
          t.rd8 a = s.rd8 a := by
  have heq : s.recSample k.val n = s.pageCount k.val v := by
    unfold State.recSample
    extract_lets per code arg
    rw [if_neg (by simp [hon, hlive, per, hper, hdue]), if_pos hmode, hq]
  have hcount := State.pageCount_eq hbin rfl hfull
  refine ⟨_, finish_ended s (s.recSample k.val n), ?_⟩
  rw [heq, hcount, State.ended_rdMem, State.ended_rdMem, State.ended_rdMem]
  have hlt := s.rdMem_lt (pageAddr k.val + 128 + 4 * i) 4
  generalize pageAddr k.val = a at hlt hfull ⊢
  refine ⟨?_, ?_, ?_, State.ended_regsKept fun g _ => ?_, fun a ha hb hc => ?_⟩
  · rw [State.rdMem_wrMem_other _ _ (by omega), State.rdMem_wrMem_other _ _ (by omega), State.rdMem_wrMem_same]
    omega
  · rw [State.rdMem_wrMem_other _ _ (by omega), State.rdMem_wrMem_same]
  · rw [State.rdMem_wrMem_same]
  · iterate 4 rw [State.wrMem_rd]
  · rw [State.ended_rd8, State.rd8_wrMem_other _ _ (by omega), State.rd8_wrMem_other _ _ (by omega),
      State.rd8_wrMem_other _ _ (by omega), State.rd8_wrMem_other _ _ (by omega)]

end

/-! ## Triggers (R494, R496) -/

section
variable {c : BitVec 16} {v : BitVec 32} {l : List Byte} {s : State} (hon : s.isOn 44 = true)
  (hready : s.isSet F.REC_STAT_READY = true) (hfull : s.isSet F.REC_STAT_FULL = false) (hlo : 2 ≤ c.toNat) (hhi : c.toNat ≤ 6)
include hon hready hfull hlo hhi

theorem exec_recTrigger :
    exec (.recTrigger c v l) s = .next (s.ended (s.queueSnap c.toNat (toSigned 32 v.toNat) l)) := by
  have heq : s.recTrigger c.toNat (toSigned 32 v.toNat) l = s.queueSnap c.toNat (toSigned 32 v.toNat) l := by
    unfold State.recTrigger
    have honly : snapshotOnly c.toNat = true := decide_eq_true ⟨by omega, hhi⟩
    rw [if_neg (not_not_intro ⟨hon, hready⟩), if_pos honly, if_neg (by simp [hfull])]
  rw [← heq]
  rfl

theorem recTrigger_queued (h : s.recd.queue.length < 16) :
    ∃ t, exec (.recTrigger c v l) s = .next t ∧
      t.recd.queue = s.recd.queue ++
        [⟨c.toNat, toSigned 32 v.toNat, l.take 24, s.opSec, s.rd F.PWR_CYCLES_COUNT, s.snapRegs⟩] ∧
      RegsKept [] s t ∧ MemKept s t := by
  have heq : s.queueSnap c.toNat (toSigned 32 v.toNat) l = { s with recd := { s.recd with queue := s.recd.queue ++
      [⟨c.toNat, toSigned 32 v.toNat, l.take 24, s.opSec, s.rd F.PWR_CYCLES_COUNT, s.snapRegs⟩] } } := by
    unfold State.queueSnap
    rw [if_neg (by omega)]
    dsimp only
    rw [if_neg (by omega)]
  refine ⟨_, exec_recTrigger hon hready hfull hlo hhi, ?_⟩
  rw [heq]
  exact ⟨by rw [State.ended_recd], State.ended_regsKept fun _ _ => rfl, State.ended_memKept rfl⟩

theorem recTrigger_dropped (h : 16 ≤ s.recd.queue.length) :
    ∃ t, exec (.recTrigger c v l) s = .next t ∧ t.recd = s.recd ∧
      t.rd (F.REC_CNT_COUNT 5) = (s.rd (F.REC_CNT_COUNT 5) + 1) % 2 ^ 32 ∧ RegsKept [F.REC_CNT_COUNT 5] s t ∧
      MemKept s t := by
  have heq : s.queueSnap c.toNat (toSigned 32 v.toNat) l = s.recCnt 5 := if_pos h
  refine ⟨_, exec_recTrigger hon hready hfull hlo hhi, ?_⟩
  rw [heq, State.ended_recd, State.ended_rd _ _ (notRun_recCnt (by decide)), State.rd_recCnt]
  exact ⟨rfl, rfl, recCnt_kept s 5⟩

end

/-! ## Snapshots (R495, R496) -/

/-- The slot after `slot` of the open snapshot block, which is closed with its last slot. -/
def State.snapNext (s : State) (slot : Nat) : State :=
  if slot = 7 then (s.wr F.REC_SNAP_POS_OPEN 0).wr F.REC_SNAP_POS_SLOTS 0 else s.wr F.REC_SNAP_POS_SLOTS (slot + 1)

theorem RecStep.snapNext (s : State) (slot : Nat) (P : Nat → Prop) :
    RecStep [F.REC_SNAP_POS_OPEN, F.REC_SNAP_POS_SLOTS] P s (s.snapNext slot) := by
  unfold State.snapNext
  split
  · exact (RecStep.wr s (by simp) 0).trans (.wr _ (by simp) 0)
  · exact .wr s (by simp) _

theorem State.snapNext_pos (s : State) (slot : Nat) :
    (slot = 7 → (s.snapNext slot).rd F.REC_SNAP_POS_OPEN = 0 ∧ (s.snapNext slot).rd F.REC_SNAP_POS_SLOTS = 0) ∧
      (slot < 7 → (s.snapNext slot).rd F.REC_SNAP_POS_OPEN = s.rd F.REC_SNAP_POS_OPEN ∧
        (s.snapNext slot).rd F.REC_SNAP_POS_SLOTS = slot + 1) := by
  unfold State.snapNext
  refine ⟨fun h => ?_, fun h => ?_⟩
  · rw [if_pos h, State.rd_wr_other _ _ (by decide)]
    exact ⟨State.rd_wr_fits _ _ (by decide), State.rd_wr_fits _ _ (by decide)⟩
  · rw [if_neg (by omega)]
    exact ⟨State.rd_wr_other _ _ (by decide), State.rd_wr_fits _ _ (by rw [show F.REC_SNAP_POS_SLOTS.width = 3 from rfl]; omega)⟩

/-- The machine with its queue of snapshots `rest`. -/
def State.snapTaken (s : State) (rest : List Snap) : State := { s with recd := { s.recd with queue := rest } }

theorem State.snapTaken_rd (s : State) (rest : List Snap) (g : Fld) : (s.snapTaken rest).rd g = s.rd g := rfl

section
variable {n : Snap} {rest : List Snap} {u : Nat} {s : State}

theorem State.isOn_of_recWrites (hw : RecWrites s) : s.isOn 44 = true := by
  have h : s.allOn [49, 44] = true := hw.1
  simp only [State.allOn, List.all_cons, List.all_nil, Bool.and_true, Bool.and_eq_true] at h
  exact h.2

theorem State.programSnap_open (fails : Bool) (hopen : s.isSet F.REC_SNAP_POS_OPEN = true) :
    s.programSnap n fails = ((s.recProgram (8 * s.rd F.REC_SNAP_POS_BLOCK + s.rd F.REC_SNAP_POS_SLOTS) 3 n.opSec n.cycles 512
      n.code n.body fails).snapNext (s.rd F.REC_SNAP_POS_SLOTS)).recLevels := by
  unfold State.programSnap
  rw [if_pos hopen]
  rfl

theorem State.snapshotWrite_eq (hw : RecWrites s) (hq : s.recd.queue = n :: rest)
    (hopen : s.isSet F.REC_SNAP_POS_OPEN = true)
    (hu : 8 * s.rd F.REC_SNAP_POS_BLOCK + s.rd F.REC_SNAP_POS_SLOTS = u) :
    s.snapshotWrite 0 = ((((s.snapTaken rest).recProgram u 3 n.opSec n.cycles 512 n.code n.body false).snapNext
      (s.rd F.REC_SNAP_POS_SLOTS)).recLevels).recCnt 2 := by
  have hprog := State.programSnap_open (s := s.snapTaken rest) (n := n) false hopen
  rw [State.snapTaken_rd, State.snapTaken_rd, hu] at hprog
  rw [← hprog]
  obtain ⟨-, hready, hflash, hlow, hfull⟩ := id hw
  unfold State.snapshotWrite
  rw [if_neg (by simp [State.isOn_of_recWrites hw, hready, hflash]), hq]
  dsimp only
  have hfull' : (s.snapTaken rest).isSet F.REC_STAT_FULL = false := hfull
  have hlow' : (s.snapTaken rest).isSet F.REC_STAT_LOW = false := hlow
  change (if (s.snapTaken rest).isSet F.REC_STAT_FULL = true then _ else if 0 ≤ 1 then
    (if ((s.snapTaken rest).isSet F.REC_STAT_LOW && snapshotOnly n.code) = true then
      (((s.snapTaken rest).programSnap n false).recCnt 2).recCnt 15
    else ((s.snapTaken rest).programSnap n false).recCnt 2) else _) = _
  rw [hfull', if_neg (by decide), if_pos (by decide), hlow', if_neg (by simp)]

/-- A snapshot written into the open block (R496). -/
theorem snapshot_written (hw : RecWrites s) (hq : s.recd.queue = n :: rest) (hopen : s.isSet F.REC_SNAP_POS_OPEN = true)
    (hu : 8 * s.rd F.REC_SNAP_POS_BLOCK + s.rd F.REC_SNAP_POS_SLOTS = u) :
    ∃ t, exec (.snapshotWrite 0) s = .next t ∧ t.recd.queue = rest ∧
      t.mem.readN (unitAddr u) 512 =
        recOctets 3 (s.rd F.REC_SEQ_NEXT) n.opSec n.cycles 512 n.code n.body ++ octetsLE 4 recValid ∧
      (∀ a, a < unitAddr u ∨ unitAddr u + 512 ≤ a → t.rd8 a = s.rd8 a) ∧
      t.rd F.REC_SEQ_NEXT = (s.rd F.REC_SEQ_NEXT + 1) % 2 ^ 32 ∧
      t.rd (F.REC_CNT_COUNT 0) = (s.rd (F.REC_CNT_COUNT 0) + 1) % 2 ^ 32 ∧
      t.rd (F.REC_CNT_COUNT 2) = (s.rd (F.REC_CNT_COUNT 2) + 1) % 2 ^ 32 ∧
      (s.rd F.REC_SNAP_POS_SLOTS = 7 → t.rd F.REC_SNAP_POS_OPEN = 0 ∧ t.rd F.REC_SNAP_POS_SLOTS = 0) ∧
      (s.rd F.REC_SNAP_POS_SLOTS < 7 → t.rd F.REC_SNAP_POS_OPEN = s.rd F.REC_SNAP_POS_OPEN ∧
        t.rd F.REC_SNAP_POS_SLOTS = s.rd F.REC_SNAP_POS_SLOTS + 1) ∧
      BlocksKept [bREC, bHCP] s t := by
  have hoct := (s.snapTaken rest).recProgram_octets u 3 n.opSec n.cycles 512 n.code n.body (by decide)
  obtain ⟨hseq, hcnt⟩ := (s.snapTaken rest).recProgram_counted u 3 n.opSec n.cycles 512 n.code n.body
  have hprog := RecStep.program (s.snapTaken rest) u 3 n.opSec n.cycles 512 n.code n.body (by decide)
  refine ⟨_, finish_ended s (s.snapshotWrite 0), ?_⟩
  rw [State.snapshotWrite_eq hw hq hopen hu]
  generalize (s.snapTaken rest).recProgram u 3 n.opSec n.cycles 512 n.code n.body false = w at hoct hseq hcnt hprog
  rw [State.snapTaken_rd] at hoct hseq hcnt
  have hopen' : w.rd F.REC_SNAP_POS_OPEN = s.rd F.REC_SNAP_POS_OPEN := hprog.rd _ (by decide)
  have hnext := RecStep.snapNext w (s.rd F.REC_SNAP_POS_SLOTS) fun _ => True
  obtain ⟨hlast, hmore⟩ := w.snapNext_pos (s.rd F.REC_SNAP_POS_SLOTS)
  generalize w.snapNext (s.rd F.REC_SNAP_POS_SLOTS) = x at hnext hlast hmore
  have hlev := RecStep.levels x 0 fun _ => True
  have htwo : x.recLevels.rd (F.REC_CNT_COUNT 2) = s.rd (F.REC_CNT_COUNT 2) :=
    (hlev.rd _ (by decide)).trans ((hnext.rd _ (by decide)).trans (hprog.rd _ (by decide)))
  have hpos (g : Fld) (hg : g = F.REC_SEQ_NEXT ∨ g = F.REC_CNT_COUNT 0 ∨ g = F.REC_SNAP_POS_OPEN ∨ g = F.REC_SNAP_POS_SLOTS) :
      (x.recLevels.recCnt 2).rd g = x.rd g := by
    have hkey : g.key ≠ (F.REC_CNT_COUNT 2).key ∧ ∀ f ∈ recShown 0, g.key ≠ f.key := by
      rcases hg with rfl | rfl | rfl | rfl <;> decide
    exact (x.recLevels.rd_wr_other _ hkey.1).trans (hlev.rd g hkey.2)
  have hall : RecStep ([F.REC_CNT_COUNT 2] ++ ([F.REC_SEQ_NEXT, F.REC_CNT_COUNT 0] ++ ([F.REC_SNAP_POS_OPEN,
      F.REC_SNAP_POS_SLOTS] ++ recShown 0))) (fun a => a < unitAddr u ∨ unitAddr u + 512 ≤ a) (s.snapTaken rest) (x.recLevels.recCnt 2) :=
    (((hprog.mono (fun f hf => List.mem_append_right _ (List.mem_append_left _ hf)) fun a ha => ha).trans
      (hnext.mono (fun f hf => List.mem_append_right _ (List.mem_append_right _ (List.mem_append_left _ hf)))
        fun a _ => trivial)).trans
      (hlev.mono (fun f hf => List.mem_append_right _ (List.mem_append_right _ (List.mem_append_right _ hf)))
        fun a _ => trivial)).trans (.wr _ (by simp) _)
  rw [State.ended_recd, State.ended_mem, hall.recd, State.ended_rd _ _ (Fld.notRun (by decide)),
    State.ended_rd _ _ (notRun_recCnt (by decide)), State.ended_rd _ _ (notRun_recCnt (by decide)),
    State.ended_rd _ _ (Fld.notRun (by decide)), State.ended_rd _ _ (Fld.notRun (by decide)), State.rd_recCnt, htwo,
    hpos _ (.inl rfl), hpos _ (.inr (.inl rfl)), hpos _ (.inr (.inr (.inl rfl))), hpos _ (.inr (.inr (.inr rfl)))]
  refine ⟨rfl, ?_, fun a ha => ?_, (hnext.rd _ (by decide)).trans hseq, (hnext.rd _ (by decide)).trans hcnt, rfl, hlast,
    fun h => ⟨(hmore h).1.trans hopen', (hmore h).2⟩, hall.ended_blocks ?_⟩
  · rw [← hoct]
    exact Memory.readN_congr fun a _ _ => (hlev.octets a trivial).trans (hnext.octets a trivial)
  · rw [State.ended_rd8]
    exact congrArg BitVec.toNat (hall.octets a ha)
  · decide

end

/-- Settles O59: samples, triggers, snapshots and seals, each by what its octets and counts come to. -/
theorem recorderWriting : Obligations.RecorderWriting := by
  unfold Obligations.RecorderWriting
  refine ⟨fun k n s hon hlive hper hdue hmode => ⟨recSample_missed hon hlive hper hdue hmode,
    fun v i hq hbin hfull => recSample_counted hon hlive hper hdue hmode hq hbin hfull⟩,
    fun c v l s hon hready hfull hlo hhi => ⟨recTrigger_queued hon hready hfull hlo hhi,
      recTrigger_dropped hon hready hfull hlo hhi⟩,
    fun n rest u s hw hq hopen hu => snapshot_written hw hq hopen hu,
    fun k s hw hpend hlive => ⟨pageSeal_due hw hpend hlive, fun h => ?_, recSeal_sealed hw hpend hlive,
      recSealAll_sealed hw hpend hlive⟩⟩
  have heq : s.pageSeal k.val 0 = s := if_neg (by omega)
  refine ⟨_, finish_ended s (s.pageSeal k.val 0), ?_⟩
  rw [heq]
  exact ⟨State.ended_regsKept fun _ _ => rfl, State.ended_memKept rfl⟩

end Sys2Proof.Machine
end

section
/-!
PROOFS. What the units do as their domains leave ON neither ends the level change under way nor carries out a WAKE (R432, R436).
-/
namespace Sys2Proof.Machine

/-- The level that is being reached, and the WAKEs that wait for it. -/
def State.levelView (s : State) : Option Nat × List Nat := (s.sys.levelTo, s.slot.wakeRun)

theorem foldl_levelView {α : Type} {f : State → α → State} (hf : ∀ s a, (f s a).levelView = s.levelView) (l : List α) (s : State) :
    (l.foldl f s).levelView = s.levelView := foldl_kept State.levelView hf l s

theorem PegFrame.levelView {s t : State} (h : PegFrame s t) : t.levelView = s.levelView := h.kept State.levelView fun _ => rfl

theorem RingStep.levelView {l : List Fld} {s t : State} (h : RingStep l s t) : t.levelView = s.levelView := h.kept State.levelView fun _ => rfl

section
variable (s : State)

theorem State.wr_levelView (f : Fld) (v : Nat) : (s.wr f v).levelView = s.levelView := rfl

theorem State.raiseEvent_levelView (cls unit : Nat) (data : List Byte) : (s.raiseEvent cls unit data).levelView = s.levelView :=
  (PegFrame.raiseEvent s cls unit data).levelView

theorem State.recTrigger_levelView (code : Nat) (v : Int) (data : List Byte) : (s.recTrigger code v data).levelView = s.levelView :=
  (PegFrame.recTrigger s code v data).levelView

theorem State.commitSel_levelView (b : Nat) (sel : Nat → Bool) : (s.commitSel b sel).levelView = s.levelView := by
  unfold State.commitSel
  extract_lets due
  split
  · rfl
  · exact (State.wr_levelView _ _ _).trans (foldl_levelView (f := State.applyShadow) (by intros; rfl) due s)

/-! ## The Pegbox (R121, R128) -/

theorem State.pushChain_levelView (a b n : Nat) : (s.pushChain a b n).levelView = s.levelView := (PegFrame.pushChain s a b n).levelView
theorem State.boundary_levelView (q : Nat) : (s.boundary q).levelView = s.levelView := (PegFrame.boundary s q).levelView
theorem State.markDesc_levelView (q r : Nat) : (s.markDesc q r).levelView = s.levelView := (PegFrame.markDesc s q r).levelView
theorem State.send_levelView (w : FWord) : (s.send w).levelView = s.levelView := rfl
theorem State.pcnt_levelView (k i : Nat) : (s.pcnt k i).levelView = s.levelView := rfl

theorem State.rewindCells_levelView (p r : Nat) (c : Ctx) : (s.rewindCells p r c).levelView = s.levelView := by
  unfold State.rewindCells
  rw [State.pcnt_levelView, State.markDesc_levelView, State.wr_levelView, State.pushChain_levelView]

theorem State.endClaim_levelView (cl : Claim) : (s.endClaim cl).levelView = s.levelView := rfl

theorem State.releaseClaim_levelView (cl : Claim) : (s.releaseClaim cl).levelView = s.levelView := by
  unfold State.releaseClaim
  rw [State.boundary_levelView, State.pcnt_levelView, State.pushChain_levelView, State.endClaim_levelView]

theorem State.stopReads_levelView (cl : Claim) (status : Nat) : (s.stopReads cl status).levelView = s.levelView := by
  unfold State.stopReads
  exact foldl_levelView (fun _ _ => State.send_levelView _ _) _ _

theorem State.requeue_levelView (cl : Claim) : (s.requeue cl).levelView = s.levelView := by
  unfold State.requeue
  generalize s.waitingRelease cl = waiting
  extract_lets _ u v d w d' x
  have hu : u.levelView = s.levelView := s.stopReads_levelView cl stTIMEOUT
  cases waiting with
  | some t => exact (State.releaseClaim_levelView _ _).trans hu
  | none =>
    refine (State.boundary_levelView _ _).trans ?_
    have hv : v.levelView = s.levelView := (State.endClaim_levelView u cl).trans hu
    have hw : w.levelView = v.levelView := by
      simp only [w]
      split <;> split <;> rfl
    exact hw.trans hv

theorem State.pushRevoked_levelView (cl : Claim) : (s.pushRevoked cl).levelView = s.levelView := by
  unfold State.pushRevoked
  split
  · rfl
  · exact (State.pushChain_levelView _ _ _ _).trans rfl

theorem State.rewindPort_levelView (p : Nat) : (s.rewindPort p).levelView = s.levelView := by
  unfold State.rewindPort
  refine foldl_levelView (fun t e => ?_) _ _
  extract_lets u
  have hu : u.levelView = t.levelView := by
    simp only [u]
    split
    · rfl
    · exact t.rewindCells_levelView _ _ _
  exact hu

theorem State.portLost_levelView (p : Nat) : (s.portLost p).levelView = s.levelView := by
  unfold State.portLost State.portClaimsLost
  exact (foldl_levelView State.pushRevoked_levelView _ _).trans
    ((foldl_levelView (f := fun s (e : Nat × Claim) => s.requeue e.2) (fun t e => t.requeue_levelView e.2) _ _).trans (s.rewindPort_levelView p))

theorem State.pegLost_levelView : s.pegLost.levelView = s.levelView := by
  unfold State.pegLost
  extract_lets u v
  refine (foldl_levelView (by intros; rfl) _ _).trans ?_
  rfl

/-! ## The rings and the loops -/

theorem State.showMembers_levelView : s.showMembers.levelView = s.levelView := by
  unfold State.showMembers
  extract_lets x u
  split <;> rfl

theorem State.ringRunSet_levelView (x : Nat) : (s.ringRunSet x).levelView = s.levelView := by
  unfold State.ringRunSet
  extract_lets on u v
  have hv : v.levelView = u.levelView := by
    simp only [v]
    split <;> rfl
  exact hv

theorem State.loopAbandon_levelView (r : Nat) : (s.loopAbandon r).levelView = s.levelView := by
  unfold State.loopAbandon
  split <;> rfl

theorem State.segmented_levelView (x : Nat) : (s.segmented x).levelView = s.levelView := by
  unfold State.segmented
  split
  · rfl
  · exact State.raiseEvent_levelView _ _ _ _

theorem State.releaseUnsent_levelView (x : Nat) : (s.releaseUnsent x).levelView = s.levelView := by
  unfold State.releaseUnsent
  refine foldl_levelView (fun t c => ?_) _ _
  split
  · exact t.releaseClaim_levelView _
  · rfl

theorem State.forgetSessions_levelView : s.forgetSessions.levelView = s.levelView := by
  unfold State.forgetSessions
  extract_lets _ u
  refine (foldl_levelView (by intros; rfl) _ _).trans ?_
  rfl

theorem State.setPath_levelView (x : Nat) (r : RingPathState) : (s.setPath x r).levelView = s.levelView := by
  unfold State.setPath
  split <;> rfl

theorem State.dropTransit_levelView (x : Nat) : (s.dropTransit x).levelView = s.levelView := by
  unfold State.dropTransit
  extract_lets r
  exact (foldl_levelView (f := fun s (f : RingFrame) => s.freeCells x f.tc.toNat (ringCells f))
    (fun t f => (RingStep.freeCells t x f.tc.toNat (ringCells f)).levelView) _ _).trans (s.setPath_levelView _ _)

theorem State.leftFor_levelView (x : Nat) : (s.leftFor x).levelView = s.levelView := by
  unfold State.leftFor
  extract_lets u r moved
  have hu : u.levelView = s.levelView := by
    simp only [u]
    split
    case h_1 old _ =>
      split
      · rfl
      · exact (State.dropTransit_levelView _ old).trans (s.releaseUnsent_levelView old)
    case h_2 => rfl
  split
  · exact (State.forgetSessions_levelView _).trans ((State.setPath_levelView _ _ _).trans hu)
  · exact hu

theorem State.takeover_levelView (x cause : Nat) (byAnnounce : Bool) (detectUs takeTenthUs : Nat) :
    (s.takeover x cause byAnnounce detectUs takeTenthUs).levelView = s.levelView := by
  have hsettled (t : State) : (t.settled takeTenthUs).levelView = t.levelView :=
    (State.showMembers_levelView _).trans (t.recTrigger_levelView _ _ _)
  have hgranted (t : State) : (t.granted x cause byAnnounce detectUs takeTenthUs).levelView = t.levelView := rfl
  rw [State.takeover_eq, hsettled, hgranted, State.leftFor_levelView]

theorem State.switchTo_levelView (x cause detectUs takeTenthUs : Nat) :
    (s.switchTo x cause detectUs takeTenthUs).levelView = s.levelView :=
  (State.takeover_levelView _ _ _ _ _ _).trans (RingStep.announce s x cause).levelView

theorem State.faultCleared_levelView (p x w : Nat) : (s.faultCleared p x w).levelView = s.levelView := by
  unfold State.faultCleared
  extract_lets u _ _ v t
  have hv : v.levelView = u.levelView := by
    simp only [v]
    split
    · exact foldl_levelView (by intros; rfl) _ _
    · exact (foldl_levelView (by intros; rfl) _ _).trans (State.setPath_levelView _ _ _)
  exact (State.setPath_levelView _ _ _).trans hv

theorem State.faultActed_levelView (x detectUs takeTenthUs : Nat) :
    (s.faultActed x detectUs takeTenthUs).levelView = s.levelView := by
  unfold State.faultActed
  extract_lets u
  split
  · split
    · rfl
    · split
      · exact State.switchTo_levelView _ _ _ _ _
      · exact State.segmented_levelView _ _
  · exact s.raiseEvent_levelView _ _ _

theorem State.linkFault_levelView (p detectUs takeTenthUs : Nat) :
    (s.linkFault p detectUs takeTenthUs).levelView = s.levelView := by
  have hmarked : (s.faultMarked (p / 2) (p % 2)).levelView = s.levelView := rfl
  rw [State.linkFault_eq, State.faultActed_levelView, State.faultCleared_levelView, hmarked]

theorem State.showSa_levelView : s.showSa.levelView = s.levelView := by
  unfold State.showSa
  exact foldl_levelView (by intros; rfl) _ _

theorem State.ringLost_levelView (x : Nat) : (s.ringLost x).levelView = s.levelView := by
  unfold State.ringLost
  extract_lets u v w
  have hu : u.levelView = s.levelView := by
    simp only [u, State.setPath]
    split <;> rfl
  have hv : v.levelView = s.levelView := (State.showSa_levelView _).trans hu
  have hw : w.levelView = v.levelView := by
    simp only [w]
    split
    · split
      · exact State.switchTo_levelView _ _ _ _ _
      · exact State.segmented_levelView _ _
    · rfl
  exact (State.showMembers_levelView _).trans (hw.trans hv)

/-! ## The field network, the meter, sounding -/

theorem State.showFieldRun_levelView : s.showFieldRun.levelView = s.levelView := rfl

theorem State.endTx_levelView (r actual : Nat) : (s.endTx r actual).levelView = s.levelView := by
  unfold State.endTx
  split
  · rfl
  · extract_lets k now k' _ u v
    have hv : v.levelView = s.levelView := rfl
    split
    · exact hv
    · exact hv

theorem State.radioCut_levelView (r : Nat) : (s.radioCut r).levelView = s.levelView := by
  unfold State.radioCut
  exact foldl_levelView (fun t (x : Resv) => t.endTx_levelView r x.tokens) _ _

theorem State.framesLost_levelView (p : Tx → Bool) : (s.framesLost p).levelView = s.levelView := by
  unfold State.framesLost
  extract_lets l u
  have hu : u.levelView = s.levelView := by
    refine foldl_levelView (fun t e => ?_) _ _
    split
    · exact t.requeue_levelView _
    · rfl
  exact hu

theorem State.soundMemLost_levelView : s.soundMemLost.levelView = s.levelView := by
  unfold State.soundMemLost
  extract_lets _ u v
  have hv : v.levelView = u.levelView := by
    refine foldl_levelView (fun t k => ?_) _ _
    unfold State.showBase
    split
    · rfl
    · split <;> rfl
  refine (foldl_levelView (by intros; rfl) _ _).trans ?_
  exact hv

theorem State.safePins_levelView : s.safePins.levelView = s.levelView := by
  unfold State.safePins
  extract_lets u
  have hu : u.levelView = s.levelView := by
    refine foldl_levelView (fun t i => ?_) _ _
    unfold State.setDo
    split
    · split <;> rfl
    · rfl
  refine (foldl_levelView (fun t i => ?_) _ _).trans hu
  unfold State.setCoil
  split
  · split <;> rfl
  · rfl

theorem State.setScanMode_levelView (m : Nat) : (s.setScanMode m).levelView = s.levelView := by
  unfold State.setScanMode State.showHold
  split
  rfl

theorem State.scanLost_levelView : s.scanLost.levelView = s.levelView := by
  unfold State.scanLost
  extract_lets u
  have hu : u.levelView = s.levelView := by
    simp only [u]
    split
    · exact s.safePins_levelView
    · rfl
  exact (State.setScanMode_levelView _ _).trans hu

theorem State.hcpLost_levelView : s.hcpLost.levelView = s.levelView := by
  unfold State.hcpLost
  extract_lets _ _ u v w
  have hv : v.levelView = u.levelView := foldl_levelView (by intros; rfl) _ _
  have hw : w.levelView = v.levelView := by
    simp only [w]
    split
    · exact State.showMembers_levelView _
    · rfl
  exact hw.trans hv

theorem State.recLost_levelView : s.recLost.levelView = s.levelView := by
  unfold State.recLost State.pagesLost
  extract_lets u
  refine (foldl_levelView (by intros; rfl) _ _).trans ?_
  rfl

end

end Sys2Proof.Machine
end

section
/-!
PROOFS. Power levels, the supply, the cell and the alarm (R431 to R438, R514, R527).
-/
namespace Sys2Proof.Machine

/-! ## A request for a domain (R425 to R428) -/

section
variable (s : State)

theorem State.timeKeep_levelView : s.timeKeep.levelView = s.levelView := rfl
theorem State.symLost_levelView : s.symLost.levelView = s.levelView := rfl
theorem State.moverLost_levelView : s.moverLost.levelView = s.levelView := rfl
theorem State.lampLost_levelView : s.lampLost.levelView = s.levelView := rfl
theorem State.restrLost_levelView : s.restrLost.levelView = s.levelView := rfl
theorem State.gaugeLost_levelView : s.gaugeLost.levelView = s.levelView := rfl
theorem State.tb1Holdover_levelView : s.tb1Holdover.levelView = s.levelView := rfl
theorem State.frontLost_levelView (half : Nat) : (s.frontLost half).levelView = s.levelView := rfl
theorem State.cryptoLost_levelView : s.cryptoLost.levelView = s.levelView := rfl
theorem State.noSlackHigh_levelView : ({ s with sys := { s.sys with slackHigh := [] } } : State).levelView = s.levelView := rfl
theorem State.withMem_levelView (m : Memory) : ({ s with mem := m } : State).levelView = s.levelView := rfl

theorem State.leaveOn_levelView (d : Nat) : (s.leaveOn d).levelView = s.levelView := by
  unfold State.leaveOn
  split
  · exact s.portLost_levelView d
  · split
    · exact s.pegLost_levelView
    · split
      · exact (State.withMem_levelView _ _).trans ((State.portLost_levelView _ _).trans s.soundMemLost_levelView)
      · exact (State.loopAbandon_levelView _ _).trans ((State.portLost_levelView _ _).trans
          ((State.ringRunSet_levelView _ _).trans (s.ringLost_levelView _)))
      · exact (State.loopAbandon_levelView _ _).trans ((State.portLost_levelView _ _).trans
          ((State.ringRunSet_levelView _ _).trans (s.ringLost_levelView _)))
      · exact (State.loopAbandon_levelView _ _).trans (s.linkFault_levelView _ _ _)
      · exact (State.loopAbandon_levelView _ _).trans (s.linkFault_levelView _ _ _)
      · exact (State.loopAbandon_levelView _ _).trans (s.linkFault_levelView _ _ _)
      · exact (State.loopAbandon_levelView _ _).trans (s.linkFault_levelView _ _ _)
      · exact (State.showFieldRun_levelView _).trans ((State.portLost_levelView _ _).trans
          ((State.framesLost_levelView _ _).trans (foldl_levelView State.radioCut_levelView _ _)))
      · exact (State.showFieldRun_levelView _).trans ((State.framesLost_levelView _ _).trans (s.radioCut_levelView _))
      · exact (State.showFieldRun_levelView _).trans ((State.framesLost_levelView _ _).trans (s.radioCut_levelView _))
      · exact (State.showFieldRun_levelView _).trans ((State.framesLost_levelView _ _).trans (s.radioCut_levelView _))
      · exact (State.showFieldRun_levelView _).trans ((State.framesLost_levelView _ _).trans (s.radioCut_levelView _))
      · refine (State.portLost_levelView _ _).trans ?_
        split
        · exact (State.tb1Holdover_levelView _).trans s.gaugeLost_levelView
        · exact s.gaugeLost_levelView
      · exact (State.rewindPort_levelView _ _).trans (s.frontLost_levelView 0)
      · exact (State.rewindPort_levelView _ _).trans (s.frontLost_levelView 1)
      · exact (State.portLost_levelView _ _).trans s.symLost_levelView
      · exact (State.portLost_levelView _ _).trans s.moverLost_levelView
      · exact (State.portLost_levelView _ _).trans s.scanLost_levelView
      · exact (State.wr_levelView _ _ _).trans s.lampLost_levelView
      · exact (State.portLost_levelView _ _).trans s.hcpLost_levelView
      · exact (State.portLost_levelView _ _).trans ((State.wr_levelView _ _ _).trans
          ((State.restrLost_levelView _).trans s.recLost_levelView))
      · exact (State.wr_levelView _ _ _).trans s.timeKeep_levelView
      · exact (State.noSlackHigh_levelView _).trans ((State.wr_levelView _ _ _).trans
          (foldl_levelView (fun _ _ => State.wr_levelView _ _ _) _ _))
      · exact s.cryptoLost_levelView
      · rfl

theorem State.beginChange_levelView (d t : Nat) : (s.beginChange d t).levelView = s.levelView := by
  unfold State.beginChange
  extract_lets was _ u v w
  have hw : w.levelView = s.levelView := by
    simp only [w]
    split <;> rfl
  split
  · exact (State.leaveOn_levelView _ _).trans hw
  · exact hw

theorem State.domStatus_levelView (d st : Nat) : (s.domStatus d st).levelView = s.levelView := by
  unfold State.domStatus
  extract_lets u
  split <;> rfl

theorem State.domRequest_levelView (d t : Nat) (byReg : Bool) : (s.domRequest d t byReg).levelView = s.levelView := by
  unfold State.domRequest
  split
  · extract_lets u
    have hu : u.levelView = s.levelView := by
      simp only [u]
      split <;> rfl
    exact hu
  · split
    · exact s.domStatus_levelView _ _
    · split
      · exact s.domStatus_levelView _ _
      · exact (State.beginChange_levelView _ _ _).trans (s.domStatus_levelView _ _)

end

/-! ## A change of level (R432, R434) -/

/-- A level is reached, or the change to it goes on. -/
def LevelGoesOn (m : Nat) (t : State) : Prop :=
  t.sys.levelTo = some m ∨
    (t.mode = m ∧ (m = 4 → t.sys.parkLatch = true ∧ ∀ d, d < 50 → t.isOn d = false))

theorem State.domOffAt_slot (t : State) (d : Nat) : (t.domOffAt d).slot = t.slot := rfl

theorem State.allOff_slot_kept (s : State) : s.allOff.slot.wakeRun = s.slot.wakeRun ∧
    s.allOff.slot.cellFitted = s.slot.cellFitted ∧ s.allOff.slot.logicOn = s.slot.logicOn := by
  unfold State.allOff
  extract_lets s1 _ _ _ _ _ _ _ _ _ t t2
  have hs1 : s1.slot = s.slot := by
    simp only [s1]
    split <;> rfl
  have ht2 : t2.slot = t.slot := foldl_kept State.slot State.domOffAt_slot (List.range 50) t
  have hwake : t.slot.wakeRun = s1.slot.wakeRun := rfl
  have hcell : t.slot.cellFitted = s1.slot.cellFitted := rfl
  have hlogic : t.slot.logicOn = s1.slot.logicOn := rfl
  rw [State.setKey_slot, ht2, hwake, hcell, hlogic, hs1]
  exact ⟨rfl, rfl, rfl⟩

/-- The mode and the latch as PARK is reached. -/
def State.latchPark (v : State) : State :=
  { v.wr F.PWR_MODE_MODE 4 with sys := { v.sys with parkLatch := true, levelTo := none, levelWait := none } }

theorem State.latchPark_isOn (v : State) {d : Nat} (hd : d < 50) : v.latchPark.isOn d = v.isOn d :=
  congrArg (fun x => x == domOn) (v.rd_wr_other 4 (by simp only [Fld.key, F.PWR_DOM_STATE_STATE, F.PWR_MODE_MODE]; omega))

theorem State.latchPark_mode (v : State) : v.latchPark.mode = 4 := v.rd_wr_fits F.PWR_MODE_MODE (by decide)

theorem State.latchPark_slot (v : State) : v.latchPark.slot = v.slot := rfl

/-- PARK reached with no WAKE waiting. -/
theorem State.levelReached_park {s : State} (hto : s.sys.levelTo = some 4) (hwake : s.slot.wakeRun = []) :
    LevelGoesOn 4 s.levelReached := by
  have hoff : ∀ d, d < 50 → s.allOff.isOn d = false := fun d => s.allOff_isOn
  have hkept : s.allOff.latchPark.slot.wakeRun = [] := by rw [State.latchPark_slot, s.allOff_slot_kept.1, hwake]
  have hreached : s.levelReached = s.allOff.latchPark := by
    unfold State.levelReached
    rw [hto]
    generalize s.allOff = v at hkept
    change (match v.latchPark.slot.wakeRun with
      | [] => v.latchPark
      | l => v.latchPark.wakeParked (if l.contains 1 then 1 else 0)) = _
    rw [hkept]
  rw [hreached]
  generalize s.allOff = v at hoff
  exact .inr ⟨v.latchPark_mode, fun _ => ⟨rfl, fun d hd => (v.latchPark_isOn hd).trans (hoff d hd)⟩⟩

/-- A level that is not PARK reached. -/
theorem State.levelReached_level {s : State} {m : Nat} (hm : m < 8) (hpark : m ≠ 4) (hto : s.sys.levelTo = some m) :
    LevelGoesOn m s.levelReached := by
  have hreached : s.levelReached =
      { s.wr F.PWR_MODE_MODE m with sys := { s.sys with levelTo := none, levelWait := none } }.wakesReached m := by
    unfold State.levelReached
    rw [hto]
    split
    case h_1 h => cases h
    case h_2 h => exact absurd (Option.some.inj h) hpark
    case h_3 h => rw [← Option.some.inj h]; rfl
  rw [hreached]
  exact .inr ⟨s.rd_wr_fits F.PWR_MODE_MODE hm, fun h => absurd h hpark⟩

theorem State.levelReached_goesOn {s : State} {m : Nat} (hm : m < 8) (hto : s.sys.levelTo = some m)
    (hwake : m = 4 → s.slot.wakeRun = []) : LevelGoesOn m s.levelReached := by
  by_cases hpark : m = 4
  · subst hpark
    exact State.levelReached_park hto (hwake rfl)
  · exact State.levelReached_level hm hpark hto

theorem State.levelIssue_goesOn {m : Nat} (hm : m < 8) (fuel : Nat) :
    ∀ s : State, s.sys.levelTo = some m → (m = 4 → s.slot.wakeRun = []) → LevelGoesOn m (State.levelIssue s fuel) := by
  induction fuel with
  | zero => exact fun s hto _ => .inl hto
  | succ fuel ih =>
    intro s hto hwake
    unfold State.levelIssue
    split
    · exact State.levelReached_goesOn hm hto hwake
    case h_2 d t rest _ =>
      extract_lets _ u v
      have hv : v.levelView = s.levelView := State.domRequest_levelView u d t false
      have hto' : v.sys.levelTo = some m := (congrArg Prod.fst hv).trans hto
      split
      · exact .inl hto'
      · exact ih v hto' fun h => (congrArg Prod.snd hv).trans (hwake h)

theorem State.enterLevel_goesOn {s : State} {m : Nat} (hm : m < 8) (hwake : m = 4 → s.slot.wakeRun = []) :
    LevelGoesOn m (s.enterLevel m) := State.levelIssue_goesOn hm _ _ rfl hwake

end Sys2Proof.Machine
end

section
/-!
PROOFS. Power levels commanded and automatic, PARK with what it stores and darkens first (R433, R434).
-/
namespace Sys2Proof.Machine

/-! ## What PARK does first leaves the level -/

section
variable (s : State)

theorem State.wrMem_levelView (a n v : Nat) : (s.wrMem a n v).levelView = s.levelView := rfl
theorem State.wrOctets_levelView (a : Nat) (o : List Byte) : (s.wrOctets a o).levelView = s.levelView := rfl
theorem State.recCnt_levelView (i : Nat) : (s.recCnt i).levelView = s.levelView := rfl
theorem State.inc_levelView (f : Fld) : (s.inc f).levelView = s.levelView := rfl

theorem State.recLevels_levelView : s.recLevels.levelView = s.levelView := by
  unfold State.recLevels
  extract_lets free u
  have hu : u.levelView = s.levelView := by
    simp only [u]
    split
    · exact State.raiseEvent_levelView _ _ _ _
    · rfl
  split
  · exact hu
  · exact hu

theorem State.recProgram_levelView (u kind op cyc len src : Nat) (body : List Byte) (fails : Bool) :
    (s.recProgram u kind op cyc len src body fails).levelView = s.levelView := by
  unfold State.recProgram
  extract_lets l v
  split <;> rfl

theorem State.recTake_levelView : s.recTake.2.levelView = s.levelView := by
  unfold State.recTake
  rfl

theorem State.programPage_levelView (k failures : Nat) : (s.programPage k failures).levelView = s.levelView := by
  unfold State.programPage
  extract_lets kind body put u
  have hput : ∀ (t : State) (fails : Bool), (put t fails).levelView = t.levelView := fun t fails =>
    (State.recLevels_levelView _).trans ((State.recProgram_levelView _ _ _ _ _ _ _ _ _).trans t.recTake_levelView)
  split
  · exact hput _ _
  · exact (hput _ _).trans (hput _ _)

theorem State.openPage_levelView (k : Nat) : (s.openPage k).levelView = s.levelView := by
  unfold State.openPage
  extract_lets a g mode ext v head flds w x
  have hw : w.levelView = s.levelView := (State.wrOctets_levelView _ _ _).trans (State.withMem_levelView _ _)
  have hx : x.levelView = w.levelView := by
    simp only [x]
    split
    · exact foldl_levelView (fun _ _ => State.wrMem_levelView _ _ _ _) _ _
    · rfl
  exact (State.wr_levelView _ _ _).trans ((State.wr_levelView _ _ _).trans ((State.wr_levelView _ _ _).trans (hx.trans hw)))

theorem State.sealPage_levelView (k : Nat) (early : Bool) (failures : Nat) : (s.sealPage k early failures).levelView = s.levelView := by
  unfold State.sealPage
  split
  · rfl
  · split
    · split
      · rfl
      · extract_lets once u
        have hu : u.levelView = s.levelView := State.commitSel_levelView _ _ _
        split
        · exact hu
        · split
          · exact (State.openPage_levelView _ _).trans hu
          · exact hu
    · split
      · exact (State.recCnt_levelView _ _).trans ((State.wr_levelView _ _ _).trans (State.wr_levelView _ _ _))
      · extract_lets a fl u v w x once y
        have hv : v.levelView = s.levelView := (State.programPage_levelView _ _ _).trans (State.wrMem_levelView _ _ _ _)
        have hw : w.levelView = s.levelView := (State.inc_levelView _ _).trans ((State.recCnt_levelView _ _).trans hv)
        have hx : x.levelView = s.levelView := by
          simp only [x]
          split
          · exact (State.recCnt_levelView _ _).trans hw
          · exact hw
        have hy : y.levelView = s.levelView := (State.commitSel_levelView _ _ _).trans ((State.wr_levelView _ _ _).trans hx)
        split
        · exact (State.wr_levelView _ _ _).trans hy
        · split
          · exact (State.openPage_levelView _ _).trans hy
          · exact hy

theorem State.sealEarly_levelView : s.sealEarly.levelView = s.levelView := foldl_levelView (fun t k => t.sealPage_levelView k true 0) _ _

theorem State.setHold_levelView (r : Nat) (b : Bool) : (s.setHold r b).levelView = s.levelView := rfl

theorem State.holdsLow_levelView : s.holdsLow.levelView = s.levelView :=
  (State.setHold_levelView _ _ _).trans (s.setHold_levelView _ _)

theorem State.setScan_levelView (x : ScanState) : (s.setScan x).levelView = s.levelView := rfl

end

theorem State.park_goesOn {s : State} (hwake : s.slot.wakeRun = []) : LevelGoesOn 4 s.park := by
  unfold State.park
  extract_lets u _ v _ w x
  have hv : v.levelView = s.levelView := (State.setScanMode_levelView _ _).trans
    ((State.setScan_levelView _ _).trans ((State.holdsLow_levelView _).trans s.sealEarly_levelView))
  clear_value v
  exact State.enterLevel_goesOn (by decide) fun _ => (congrArg Prod.snd hv).trans hwake

/-! ## What the end of a command keeps of a level -/

theorem LevelGoesOn.answer {m : Nat} {t : State} (h : LevelGoesOn m t) (req a st v : Nat) : LevelGoesOn m (t.answer req a st v) := h

theorem LevelGoesOn.ended {m : Nat} {t : State} (h : LevelGoesOn m t) (s : State) : LevelGoesOn m (s.ended t) := by
  rcases h with hto | ⟨hmode, hpark⟩
  · exact .inl ((congrArg SysState.levelTo (s.ended_sys t)).trans hto)
  · refine .inr ⟨(State.ended_rd _ _ (Fld.notRun (by decide))).trans hmode, fun h4 => ?_⟩
    obtain ⟨hlatch, hoff⟩ := hpark h4
    exact ⟨(congrArg SysState.parkLatch (s.ended_sys t)).trans hlatch, fun d hd => (State.ended_isOn s _ hd).trans (hoff d hd)⟩

/-- A word at PWR_CMD whose KEY is right and whose OP is `op`. -/
theorem State.rowWrite_pwrCmd {s : State} (req : Fin 36) {op : Nat} (hop : op ∈ [1, 2, 3]) (hon : s.isOn 49 = true)
    (hmode : s.mode = 1 ∨ s.mode = 2 ∨ s.mode = 3) (hpend : s.pendingIn bPWR = false) :
    s.rowWrite req 0x40010404 (0x6D2E * 2 ^ 16 + op) WriteMore.none = (s.pwrCmd op).answer req 0x40010404 stOK 0 := by
  have hword : ∀ o ∈ [1, 2, 3], (regsPwr[4].written.all fun f =>
      chkField f.chk f.width (bits (0x6D2E * 2 ^ 16 + o) f.lo f.width) == (true, true)) = true ∧
        bits (0x6D2E * 2 ^ 16 + o) 0 2 = o := by decide
  obtain ⟨hchk, hbits⟩ := hword op hop
  have hafter : s.afterWrite s req bPWR 0x404 0 = s := by
    unfold State.afterWrite
    rw [if_pos rfl]
    exact State.commitSel_of_pendingIn hpend _
  have hact : s.regAct req bPWR 0x404 0 (0x6D2E * 2 ^ 16 + op) WriteMore.none =
      (stOK, s.pwrCmd (bits (0x6D2E * 2 ^ 16 + op) 0 2)) := rfl
  have hlim : State.limits s (s.ahead bPWR) bPWR 0x404 0 = true := by
    change [1, 2, 3].contains s.mode = true
    rcases hmode with h | h | h <;> rw [h] <;> rfl
  have hrow := s.rowWrite_after (req := req) (a := 0x40010404) (x := WriteMore.none)
    ((s.addrUp_block bPWR 0x40010404 (by decide) (by decide) (by decide)).trans hon) (by decide)
    (b := bPWR) (off := 0x404) (r := regsPwr[4]) (ix := []) (by decide) (by decide) (by decide) (by decide) hchk hlim rfl
    (by decide)
  rw [hrow, show regsPwr[4].off = 0x404 from rfl, List.headD_nil]
  rw [hafter, hact, hbits]

section
variable (req : Fin 36) (s : State) (hon : s.isOn 49 = true) (hmode : s.mode = 1 ∨ s.mode = 2 ∨ s.mode = 3)
  (hpend : s.pendingIn bPWR = false)
include hon hmode hpend

theorem exec_reduced_spec : ∃ t, exec (.reduced req 0x6D2E) s = .next t ∧ LevelGoesOn 3 t :=
  ⟨_, congrArg (finish s) (State.rowWrite_pwrCmd req (op := 1) (by decide) hon hmode hpend),
    ((State.enterLevel_goesOn (by decide) fun h => absurd h (by decide)).answer req.val 0x40010404 stOK 0).ended s⟩

theorem exec_full_spec : ∃ t, exec (.full req 0x6D2E) s = .next t ∧ LevelGoesOn 2 t :=
  ⟨_, congrArg (finish s) (State.rowWrite_pwrCmd req (op := 2) (by decide) hon hmode hpend),
    ((State.enterLevel_goesOn (by decide) fun h => absurd h (by decide)).answer req.val 0x40010404 stOK 0).ended s⟩

theorem exec_park_spec (hwake : s.slot.wakeRun = []) : ∃ t, exec (.park req 0x6D2E) s = .next t ∧ LevelGoesOn 4 t :=
  ⟨_, congrArg (finish s) (State.rowWrite_pwrCmd req (op := 3) (by decide) hon hmode hpend),
    ((State.park_goesOn hwake).answer req.val 0x40010404 stOK 0).ended s⟩

end

theorem exec_autoEnter_spec {n : Nat} {s : State} (hen : s.isSet F.PWR_AUTO_EN = true) (hon : s.isOn 49 = true)
    (hlevel : s.sys.levelTo = none) (hmode : s.mode = 2) (hn : s.rd F.PWR_AUTO_ENTER_S ≤ n) :
    ∃ t, exec (.autoEnter true n) s = .next t ∧ LevelGoesOn 3 t :=
  ⟨_, congrArg (finish s) (if_pos ⟨hen, hmode, hon, rfl, hn, hlevel⟩),
    (State.enterLevel_goesOn (by decide) fun h => absurd h (by decide)).ended s⟩

theorem exec_autoLeave_spec {n : Nat} {s : State} (hen : s.isSet F.PWR_AUTO_EN = true) (hon : s.isOn 49 = true)
    (hlevel : s.sys.levelTo = none) (hmode : s.mode = 3) (hn : s.rd F.PWR_AUTO_LEAVE_S ≤ n) :
    ∃ t, exec (.autoLeave false n) s = .next t ∧ LevelGoesOn 2 t :=
  ⟨_, congrArg (finish s) (if_pos ⟨hen, hmode, hon, by simp, hn, hlevel⟩),
    (State.enterLevel_goesOn (by decide) fun h => absurd h (by decide)).ended s⟩

end Sys2Proof.Machine
end

section
/-!
PROOFS. The alarm, the supply, the operating seconds and the cell (R434 to R438, R514, R527).
-/
namespace Sys2Proof.Machine

theorem exec_alarmMatch_spec (s : State) (hmode : s.mode = 4) (hdue : s.alarmReached = true) (hon : s.slot.logicOn = true) :
    ∃ t, exec .pwrAlarmMatch s = .next t ∧ t.mode = 0 ∧ t.sys.parkLatch = false ∧ t.slot.wakeRun = [1] ∧
      t.sys.levelTo = some 2 ∧ RegsKept [F.PWR_MODE_MODE, F.PWR_ALARM_LO_ALARM, F.PWR_ALARM_HI_ALARM] s t ∧ MemKept s t := by
  have heff : s.alarmMatch = ((s.wakeParked 1).wr F.PWR_ALARM_LO_ALARM 0).wr F.PWR_ALARM_HI_ALARM 0 := if_pos ⟨hmode, hdue, hon⟩
  have hwake : ∀ g : Fld, g.key ≠ F.PWR_MODE_MODE.key → (s.wakeParked 1).rd g = s.rd g := fun g hg => s.rd_wr_other 0 hg
  refine ⟨_, congrArg (finish s) heff, ?_, ?_, ?_, ?_, State.ended_regsKept fun g hne => ?_, State.ended_memKept rfl⟩
  · refine (State.ended_rd _ _ (Fld.notRun (by decide))).trans ?_
    rw [State.rd_wr_other _ _ (by decide), State.rd_wr_other _ _ (by decide)]
    exact s.rd_wr_fits F.PWR_MODE_MODE (by decide)
  · exact congrArg SysState.parkLatch (s.ended_sys _)
  · exact congrArg SlotState.wakeRun (s.ended_slot _)
  · exact congrArg SysState.levelTo (s.ended_sys _)
  · rw [State.rd_wr_other _ _ (hne _ (by simp)), State.rd_wr_other _ _ (hne _ (by simp)), hwake _ (hne _ (by simp))]

/-! ## The supply -/

/-- The supply's mating writes the cell's bit and RUN of the island's blocks. -/
theorem State.supplyMate_rd (s : State) {g : Fld} (hrun : notRun g.key) (hne : g.key ≠ F.PWR_ISLAND_STAT_ON_CELL.key) :
    s.supplyMate.rd g = s.rd g :=
  (State.rd_wr_other _ _ (hrun bKEY (by decide))).trans ((State.rd_wr_other _ _ (hrun bRTC (by decide))).trans
    ((State.rd_wr_other _ _ (hrun bPWR (by decide))).trans (State.rd_wr_other _ _ hne)))

theorem exec_parkedReturn_spec (s : State) (hlatch : s.sys.parkLatch = true) :
    ∃ t, exec .parkedSupplyReturn s = .next t ∧ t.mode = 4 ∧ t.slot.logicOn = true ∧ t.sys.parkLatch = true ∧
      t.rd F.SYS_RESET_CAUSE_CAUSE = 1 ∧ t.rd F.PWR_CYCLES_COUNT = (s.rd F.PWR_CYCLES_COUNT + 1) % 2 ^ 32 ∧ MemKept s t := by
  have hcycles : s.supplyMate.rd F.PWR_CYCLES_COUNT = s.rd F.PWR_CYCLES_COUNT :=
    s.supplyMate_rd (Fld.notRun (by decide)) (by decide)
  have hsys : s.supplyMate.sys = s.sys := rfl
  have hmem : s.supplyMate.mem = s.mem := rfl
  have hon : s.supplyMate.slot.logicOn = true := rfl
  have heff : s.parkedReturn = ((((((s.supplyMate.inc F.PWR_CYCLES_COUNT).setCause 1).wr F.SYS_RESET_CAUSE_FW_RESTARTS 0).wr
      F.PWR_MODE_MODE 4).setSlot { s.supplyMate.slot with released := true }).wr (F.STATE_RUN bSLOT) 1) := if_pos hlatch
  refine ⟨_, congrArg (finish s) heff, ?_, ?_, ?_, ?_, ?_, State.ended_memKept hmem⟩
  · refine (State.ended_rd _ _ (Fld.notRun (by decide))).trans ?_
    rw [State.rd_wr_other _ _ (by decide), State.setSlot_rd, State.rd_wr_same]
    rfl
  · exact (congrArg SlotState.logicOn (s.ended_slot _)).trans hon
  · exact (congrArg SysState.parkLatch (s.ended_sys _)).trans ((congrArg SysState.parkLatch hsys).trans hlatch)
  · refine (State.ended_rd _ _ (Fld.notRun (by decide))).trans ?_
    rw [State.rd_wr_other _ _ (by decide), State.setSlot_rd, State.rd_wr_other _ _ (by decide), State.rd_wr_other _ _ (by decide),
      State.setCause, State.rd_wr_same]
    rfl
  · refine (State.ended_rd _ _ (Fld.notRun (by decide))).trans ?_
    rw [State.rd_wr_other _ _ (by decide), State.setSlot_rd, State.rd_wr_other _ _ (by decide), State.rd_wr_other _ _ (by decide),
      State.setCause, State.rd_wr_other _ _ (by decide), State.rd_wr_other _ _ (by decide), State.inc, State.rd_wr_same, hcycles]
    rfl

/-- The supply stopping: what the island's cell then shows. -/
theorem State.supplyStop_spec (s : State) (hcell : s.slot.cellFitted = true) : s.supplyStop.slot.logicOn = false ∧
    s.supplyStop.slot.released = false ∧ s.supplyStop.rd F.PWR_ISLAND_STAT_ON_CELL = 1 ∧
    ∀ d, d < 50 → s.supplyStop.isOn d = false := by
  have hoff : ∀ d, d < 50 → s.allOff.isOn d = false := fun d => s.allOff_isOn
  have hfitted : s.allOff.slot.cellFitted = true := s.allOff_slot_kept.2.1.trans hcell
  unfold State.supplyStop
  generalize s.allOff = v at hoff hfitted
  extract_lets _ _ _ _ w
  have hw : w.slot.cellFitted = true := hfitted
  rw [if_pos hw]
  refine ⟨rfl, rfl, ?_, fun d hd => ?_⟩
  · rw [State.rd_wr_other _ _ (by decide), State.rd_wr_other _ _ (by decide), State.rd_wr_same]
    rfl
  · refine Eq.trans ?_ (hoff d hd)
    have hrd : w.rd (F.PWR_DOM_STATE_STATE d) = v.rd (F.PWR_DOM_STATE_STATE d) := rfl
    rw [State.isOn, State.dom, State.rd_wr_other _ _ (by simp only [Fld.key, F.PWR_DOM_STATE_STATE, F.PWR_MODE_MODE]; omega),
      State.rd_wr_other _ _ (Fld.notRun (by simp only [F.PWR_DOM_STATE_STATE]; omega) bSLOT (by decide)),
      State.rd_wr_other _ _ (by simp only [Fld.key, F.PWR_DOM_STATE_STATE, F.PWR_ISLAND_STAT_ON_CELL]; omega), hrd]
    rfl

theorem supplyStop_ended (s : State) (hcell : s.slot.cellFitted = true) : (s.ended s.supplyStop).slot.logicOn = false ∧
    (s.ended s.supplyStop).slot.released = false ∧ (s.ended s.supplyStop).rd F.PWR_ISLAND_STAT_ON_CELL = 1 ∧
    ∀ d, d < 50 → (s.ended s.supplyStop).isOn d = false := by
  obtain ⟨hon, hreleased, hshown, hoff⟩ := s.supplyStop_spec hcell
  refine ⟨?_, ?_, (State.ended_rd _ _ (Fld.notRun (by decide))).trans hshown, fun d hd => (State.ended_isOn s _ hd).trans (hoff d hd)⟩
  · rw [State.ended_slot, hon]
  · rw [State.ended_slot, hreleased]

section
variable (s : State)

theorem State.setNext_slot (x : Nat) (n : Option NextSa) : (s.setNext x n).slot = s.slot := rfl

theorem State.eraseDerived_slot : s.eraseDerived.slot = s.slot :=
  (State.setKey_slot _ _).trans (foldl_kept State.slot (fun _ _ => (State.setNext_slot _ _ _).trans (State.wr_slot _ _ _)) _ _)

theorem State.destroyRoot_slot : s.destroyRoot.slot = s.slot :=
  (foldl_kept State.slot (fun _ _ => State.wr_slot _ _ _) _ _).trans s.eraseDerived_slot

theorem State.closeDebug_slot : s.closeDebug.slot = s.slot := by
  unfold State.closeDebug
  extract_lets u
  have hu : u.slot = s.slot := by
    simp only [u]
    split
    · exact s.destroyRoot_slot
    · exact s.eraseDerived_slot
  exact hu

theorem State.refreshChal_slot : s.refreshChal.slot = s.slot := by
  unfold State.refreshChal
  exact foldl_kept State.slot (by intros; rfl) _ _

theorem State.keyReset_slot : s.keyReset.slot = s.slot := by
  unfold State.keyReset
  extract_lets u
  have hu : u.slot = s.slot := by
    simp only [u]
    split
    · exact s.closeDebug_slot
    · rfl
  exact (State.refreshChal_slot _).trans hu

theorem State.resetEntry_logicOn (c : Nat) : (s.resetEntry c).slot.logicOn = s.slot.logicOn := by
  have hkept : s.allOff.keyReset.slot.logicOn = s.slot.logicOn := by rw [State.keyReset_slot, s.allOff_slot_kept.2.2]
  rw [← hkept, State.resetEntry]
  generalize s.allOff.keyReset = v
  rfl

end

theorem exec_supplyReturn_spec (mV us : Nat) (s : State) (hoff : s.slot.logicOn = false) (hmV : 35000 < mV) (hus : 20000 ≤ us)
    (hlatch : s.sys.parkLatch = false) (hpresent : s.present = true) (hlever : s.leverShut = true)
    (hreleased : s.slot.released = false) : ∃ t, exec (.logicSupplyReturn mV us) s = .next t ∧ t.slot.logicOn = true ∧
      t.slot.released = true ∧ t.rd F.PWR_CYCLES_COUNT = (s.rd F.PWR_CYCLES_COUNT + 1) % 2 ^ 32 ∧ t.mode = 0 ∧
      t.sys.levelTo = some 2 := by
  have hguard : ¬ (s.slot.logicOn = true ∨ mV ≤ 35000 ∨ us < 20000) := by simp [hoff]; omega
  have hlatch' : ¬ s.sys.parkLatch = true := by simp [hlatch]
  have hpins : s.supplyMate.present = true ∧ s.supplyMate.leverShut = true := by
    rw [State.present, State.isSet, State.leverShut, State.isSet, s.supplyMate_rd (Fld.notRun (by decide)) (by decide),
      s.supplyMate_rd (Fld.notRun (by decide)) (by decide)]
    exact ⟨hpresent, hlever⟩
  have hheld : ¬ s.supplyMate.slot.released = true := fun h => Bool.false_ne_true (hreleased.symm.trans h)
  have heff : s.supplyReturn mV us = s.supplyMate.powerOnReset.release :=
    (if_neg hguard).trans ((if_neg hlatch').trans (if_pos hpins))
  have hpower : s.supplyMate.powerOnReset =
      ((s.supplyMate.wr F.SLOT_STATUS_LEVER 1).resetEntry (if s.supplyMate.sys.islandLost then 2 else 1)).inc
        F.PWR_CYCLES_COUNT := if_pos ⟨rfl, hpins.1, hlatch', hheld⟩
  generalize (if s.supplyMate.sys.islandLost then 2 else 1) = c at hpower
  have hcycles : ((s.supplyMate.wr F.SLOT_STATUS_LEVER 1).resetEntry c).rd F.PWR_CYCLES_COUNT = s.rd F.PWR_CYCLES_COUNT := by
    rw [State.resetEntry_cycles, State.rd_wr_other _ _ (by decide), s.supplyMate_rd (Fld.notRun (by decide)) (by decide)]
  have hlogic : ((s.supplyMate.wr F.SLOT_STATUS_LEVER 1).resetEntry c).slot.logicOn = true := by
    rw [State.resetEntry_logicOn]
    rfl
  have hmode := (s.supplyMate.wr F.SLOT_STATUS_LEVER 1).resetEntry_mode c
  generalize (s.supplyMate.wr F.SLOT_STATUS_LEVER 1).resetEntry c = v at hpower hcycles hlogic hmode
  rw [hpower] at heff
  refine ⟨_, congrArg (finish s) heff, ?_, ?_, ?_, ?_, ?_⟩
  · exact (congrArg SlotState.logicOn (s.ended_slot _)).trans hlogic
  · exact congrArg SlotState.released (s.ended_slot _)
  · refine (State.ended_rd _ _ (Fld.notRun (by decide))).trans ?_
    rw [State.release_rd _ (Fld.notRun (by decide)) (by decide), State.inc, State.rd_wr_same, hcycles]
    rfl
  · refine (State.ended_rd _ _ (Fld.notRun (by decide))).trans ?_
    rw [State.release_rd _ (Fld.notRun (by decide)) (by decide), State.inc, State.rd_wr_other _ _ (by decide), hmode]
  · exact congrArg SysState.levelTo (s.ended_sys _)

/-! ## The operating seconds and the cell -/

/-- The RTC's ticks write its own registers. -/
theorem State.rtcTicks_rd (s : State) (n : Nat) {g : Fld} (hg : g.addr < 0x40130000 ∧ g.lo < 32) : (s.rtcTicks n).rd g = s.rd g := by
  have hne : ∀ f : Fld, 0x40130000 ≤ f.addr → g.key ≠ f.key := fun f hf => by simp only [Fld.key]; omega
  have hset : ∀ (t : State) (v : Nat), (t.setRtc v).rd g = t.rd g := fun t v => by
    rw [State.setRtc, State.rd_wr_other _ _ (hne _ (by decide)), State.rd_wr_other _ _ (hne _ (by decide)),
      State.rd_wr_other _ _ (hne _ (by decide))]
  unfold State.rtcTicks
  split
  · extract_lets p
    split
    · rw [State.rd_wr_other _ _ (hne _ (by decide)), State.rtcRelease, State.rd_wr_other _ _ (hne _ (by decide)),
        State.rd_wr_other _ _ (hne _ (by decide)), hset]
    · exact State.rd_wr_other _ _ (hne _ (by decide))
  · exact hset _ _

theorem State.rtcTicks_mem_slot (s : State) (n : Nat) : (s.rtcTicks n).mem = s.mem ∧ (s.rtcTicks n).slot = s.slot := by
  unfold State.rtcTicks
  split
  · extract_lets p
    split
    · exact ⟨rfl, rfl⟩
    · exact ⟨rfl, rfl⟩
  · exact ⟨rfl, rfl⟩

theorem State.windowTick_rd (s : State) {g : Fld} (hne : g.key ≠ F.RESTR_CONFIRM_LEFT_MIN.key) : s.windowTick.rd g = s.rd g := by
  unfold State.windowTick
  split
  · exact State.rd_wr_other _ _ hne
  · rfl

theorem State.windowTick_mem (s : State) : s.windowTick.mem = s.mem := by
  unfold State.windowTick
  split <;> rfl

/-- A count of 40 bits in two words reads back. -/
theorem State.wr64_opSec (s : State) {v : Nat} (hv : v < 2 ^ 40) :
    (s.wr64 F.PWR_OPSEC_LO_SEC F.PWR_OPSEC_HI_SEC v).opSec = v := by
  rw [State.opSec, State.rd64, State.wr64, State.rd_wr_other _ _ (by decide), State.rd_wr_same, State.rd_wr_same]
  simp only [F.PWR_OPSEC_LO_SEC, F.PWR_OPSEC_HI_SEC]
  omega

theorem exec_operatingSecond_spec (s : State) (hup : s.rtcUp = true) (hon : s.slot.logicOn = true) :
    ∃ t, exec .operatingSecond s = .next t ∧ t.opSec = (s.opSec + 1) % 2 ^ 40 ∧ MemKept s t := by
  have hticked : (s.rtcTicks 32768).opSec = s.opSec := by
    rw [State.opSec, State.rd64, s.rtcTicks_rd _ (by decide), s.rtcTicks_rd _ (by decide)]
    rfl
  obtain ⟨hmem, hslot⟩ := s.rtcTicks_mem_slot 32768
  have hon' : (s.rtcTicks 32768).slot.logicOn = true := by rw [hslot, hon]
  have heff : s.operatingSecond = ((s.rtcTicks 32768).wr64 F.PWR_OPSEC_LO_SEC F.PWR_OPSEC_HI_SEC
      (((s.rtcTicks 32768).opSec + 1) % 2 ^ 40)).windowTick := (if_neg (by simp [hup])).trans (if_pos hon')
  generalize s.rtcTicks 32768 = v at hticked hmem heff
  rw [hticked] at heff
  refine ⟨s.ended _, congrArg (finish s) heff, ?_, State.ended_memKept ((State.windowTick_mem _).trans hmem)⟩
  have hcount := v.wr64_opSec (Nat.mod_lt (s.opSec + 1) (by decide : 0 < 2 ^ 40))
  generalize v.wr64 F.PWR_OPSEC_LO_SEC F.PWR_OPSEC_HI_SEC ((s.opSec + 1) % 2 ^ 40) = w at hcount
  rw [← hcount, State.opSec, State.opSec, State.rd64, State.rd64, State.ended_rd _ _ (Fld.notRun (by decide)),
    State.ended_rd _ _ (Fld.notRun (by decide)), State.windowTick_rd _ (by decide), State.windowTick_rd _ (by decide)]

theorem exec_vbatMeasure_spec (mV : BitVec 16) (s : State) :
    ∃ t, exec (.vbatMeasure mV) s = .next t ∧ t.rd F.RTC_VBAT_MV = mV.toNat ∧
      t.isSet F.PWR_ISLAND_STAT_VBAT_LOW = decide (mV.toNat < 2600) ∧
      RegsKept [F.RTC_VBAT_MV, F.PWR_ISLAND_STAT_VBAT_LOW, F.HCP_EVT_STAT_DROPPED, F.HCP_EVT_STAT_PENDING] s t ∧ MemKept s t := by
  have hraised : ∀ g : Fld, g.key ≠ F.HCP_EVT_STAT_DROPPED.key → g.key ≠ F.HCP_EVT_STAT_PENDING.key →
      (s.vbat mV.toNat).rd g =
        ((s.wr F.RTC_VBAT_MV mV.toNat).wrB F.PWR_ISLAND_STAT_VBAT_LOW (decide (mV.toNat < 2600))).rd g := fun g hd hp => by
    unfold State.vbat
    extract_lets low was u
    split
    · exact State.raiseEvent_rd _ _ _ _ hd hp
    · rfl
  have hmem : (s.vbat mV.toNat).mem = s.mem := by
    unfold State.vbat
    extract_lets low was u
    split
    · exact State.raiseEvent_mem _ _ _ _
    · rfl
  refine ⟨_, finish_ended s (s.vbat mV.toNat), ?_, ?_, State.ended_regsKept fun g hne => ?_, State.ended_memKept hmem⟩
  · refine (State.ended_rd _ _ (Fld.notRun (by decide))).trans ?_
    rw [hraised _ (by decide) (by decide), State.wrB, State.rd_wr_other _ _ (by decide), State.rd_wr_fits _ _ mV.isLt]
  · rw [State.isSet, State.ended_rd _ _ (Fld.notRun (by decide)), hraised _ (by decide) (by decide), State.wrB,
      State.rd_wr_fits _ _ (b2n_lt_two _)]
    cases decide (mV.toNat < 2600) <;> rfl
  · rw [hraised _ (hne _ (by simp)) (hne _ (by simp)), State.wrB, State.rd_wr_other _ _ (hne _ (by simp)),
      State.rd_wr_other _ _ (hne _ (by simp))]

/-- Settles O18: a level is entered, or the change to it waits; the supply, the alarm and the cell by what each writes last. -/
theorem powerCommands : Obligations.PowerCommands := by
  refine ⟨fun req s hon hmode hpend => ⟨?_, ?_, fun hwake => ?_⟩, fun n s hen hon hlevel => ⟨fun hmode hn => ?_, fun hmode hn => ?_⟩,
    exec_alarmMatch_spec, exec_parkedReturn_spec, exec_operatingSecond_spec, exec_vbatMeasure_spec,
    fun mV us s hon hcell => ⟨fun hmV hus => ?_, fun hmV hus => ?_⟩, exec_supplyReturn_spec⟩
  · obtain ⟨t, hexec, hgoes⟩ := exec_reduced_spec req s hon hmode hpend
    exact ⟨t, hexec, hgoes.imp_right And.left⟩
  · obtain ⟨t, hexec, hgoes⟩ := exec_full_spec req s hon hmode hpend
    exact ⟨t, hexec, hgoes.imp_right And.left⟩
  · obtain ⟨t, hexec, hgoes⟩ := exec_park_spec req s hon hmode hpend hwake
    exact ⟨t, hexec, hgoes.imp_right fun ⟨hm, hpark⟩ => ⟨hm, hpark rfl⟩⟩
  · obtain ⟨t, hexec, hgoes⟩ := exec_autoEnter_spec hen hon hlevel hmode hn
    exact ⟨t, hexec, hgoes.imp_right And.left⟩
  · obtain ⟨t, hexec, hgoes⟩ := exec_autoLeave_spec hen hon hlevel hmode hn
    exact ⟨t, hexec, hgoes.imp_right And.left⟩
  · exact ⟨_, congrArg (finish s) (if_pos ⟨hon, hmV, hus⟩), supplyStop_ended s hcell⟩
  · exact ⟨_, congrArg (finish s) (if_pos ⟨hon, hmV, hus⟩), supplyStop_ended s hcell⟩

end Sys2Proof.Machine
end

section
/-!
PROOFS. The field network: what sending a frame, counting and a node's table entry leave of the machine (R139, R145, R156 to R175).
-/
namespace Sys2Proof.Machine

/-! ## The frame -/

/-- Where the superframes stand, and the frames in flight. -/
def State.fieldClock (s : State) : Bool × Nat × Nat × Nat × Nat × AMap Tx :=
  (s.field.started, s.field.cAt, s.field.rAt, s.field.sfnR, s.time.tb2, s.field.txs)

/-- From `s` to `t` the registers outside `K` stay, the octets at the addresses that satisfy `W`, where the superframes stand, the
frames in flight, and the shadow copies outside the Pegbox. -/
structure FieldStep (K : Nat → Bool) (W : Nat → Prop) (s t : State) : Prop where
  rd : ∀ g : Fld, K g.key = false → t.rd g = s.rd g
  octets : ∀ a, W a → t.mem.read a = s.mem.read a
  clock : t.fieldClock = s.fieldClock
  due : ∀ b, b ≠ bPEG → t.shadow.filter (fun e => inBlock b e.1) = s.shadow.filter (fun e => inBlock b e.1)

/-- The octets of entry `e` of the node table outside the fields `l`, each an offset with its length, and all memory besides. -/
def OffNd (e : Nat) (l : List (Nat × Nat)) (a : Nat) : Prop := ∀ x ∈ l, a < 256 * e + x.1 ∨ 256 * e + x.1 + x.2 ≤ a

theorem OffNd.mono {e a : Nat} {l m : List (Nat × Nat)} (h : OffNd e m a) (hl : ∀ x ∈ l, x ∈ m) : OffNd e l a :=
  fun x hx => h x (hl x hx)

/-- A field apart from those of `l`. -/
theorem OffNd.apart (e : Nat) {o n i : Nat} {l : List (Nat × Nat)} (h : l.all (fun x => o + n ≤ x.1 || x.1 + x.2 ≤ o) = true)
    (hi : i < n) : OffNd e l (256 * e + o + i) := fun x hx => by
  have hx := List.all_eq_true.mp h x hx
  simp only [Bool.or_eq_true, decide_eq_true_eq] at hx
  omega

/-- An octet outside the entry. -/
theorem OffNd.outside {e a : Nat} {l : List (Nat × Nat)} (h : l.all (fun x => x.1 + x.2 ≤ 256) = true)
    (ha : a < 256 * e ∨ 256 * e + 256 ≤ a) : OffNd e l a := fun x hx => by
  have hx := of_decide_eq_true (List.all_eq_true.mp h x hx)
  omega

namespace FieldStep

section
variable {K L : Nat → Bool} {W V : Nat → Prop} {s t u : State}

theorem refl (s : State) : FieldStep K W s s := ⟨fun _ _ => rfl, fun _ _ => rfl, rfl, fun _ _ => rfl⟩

theorem trans (h : FieldStep K W s t) (k : FieldStep K W t u) : FieldStep K W s u :=
  ⟨fun g hg => (k.rd g hg).trans (h.rd g hg), fun a ha => (k.octets a ha).trans (h.octets a ha), k.clock.trans h.clock,
    fun b hb => (k.due b hb).trans (h.due b hb)⟩

theorem mono (h : FieldStep K W s t) (hK : ∀ k, K k = true → L k = true) (hW : ∀ a, V a → W a) : FieldStep L V s t :=
  ⟨fun g hg => h.rd g (by cases hk : K g.key with
      | false => rfl
      | true => rw [hK _ hk] at hg; exact absurd hg (by decide)), fun a ha => h.octets a (hW a ha), h.clock, h.due⟩

/-- A step that writes more fields of the entry. -/
theorem widen {e : Nat} {l m : List (Nat × Nat)} (h : FieldStep K (OffNd e l) s t) (hl : ∀ x ∈ l, x ∈ m) :
    FieldStep K (OffNd e m) s t := h.mono (fun _ hk => hk) fun _ ha => ha.mono hl

theorem isSet (h : FieldStep K W s t) {g : Fld} (hg : K g.key = false) : t.isSet g = s.isSet g := by
  rw [State.isSet, h.rd g hg, State.isSet]

/-- A number in memory whose octets stay. -/
theorem rdMem (h : FieldStep K W s t) {a n : Nat} (hW : ∀ i, i < n → W (a + i)) : t.rdMem a n = s.rdMem a n := by
  refine congrArg ofOctetsLE (Memory.readN_congr fun x hx hlt => h.octets x ?_)
  have := hW (x - a) (by omega)
  rwa [show a + (x - a) = x by omega] at this

/-- A field of the entry apart from those written. -/
theorem nd {e : Nat} {l : List (Nat × Nat)} (h : FieldStep K (OffNd e l) s t) {o n : Nat}
    (hl : l.all (fun x => o + n ≤ x.1 || x.1 + x.2 ≤ o) = true) : t.nd e o n = s.nd e o n :=
  h.rdMem fun _ => OffNd.apart e hl

theorem entryAlone {e : Nat} {l : List (Nat × Nat)} (h : FieldStep K (OffNd e l) s t)
    (hl : l.all (fun x => x.1 + x.2 ≤ 256) = true) : EntryAlone e s t :=
  fun a ha => congrArg BitVec.toNat (h.octets a (OffNd.outside hl ha))

theorem started (h : FieldStep K W s t) : t.field.started = s.field.started := congrArg Prod.fst h.clock
theorem cAt (h : FieldStep K W s t) : t.field.cAt = s.field.cAt := congrArg (fun x => x.2.1) h.clock
theorem rAt (h : FieldStep K W s t) : t.field.rAt = s.field.rAt := congrArg (fun x => x.2.2.1) h.clock
theorem sfnR (h : FieldStep K W s t) : t.field.sfnR = s.field.sfnR := congrArg (fun x => x.2.2.2.1) h.clock
theorem tb2 (h : FieldStep K W s t) : t.time.tb2 = s.time.tb2 := congrArg (fun x => x.2.2.2.2.1) h.clock
theorem txs (h : FieldStep K W s t) : t.field.txs = s.field.txs := congrArg (fun x => x.2.2.2.2.2) h.clock

theorem tb2Ms (h : FieldStep K W s t) : t.tb2Ms = s.tb2Ms := by rw [State.tb2Ms, State.tb2Ns, h.tb2]; rfl

theorem pendingIn (h : FieldStep K W s t) {b : Nat} (hb : b ≠ bPEG) (hs : s.pendingIn b = false) :
    t.shadow.filter (fun e => inBlock b e.1) = [] := (h.due b hb).trans (State.due_of_pendingIn hs)

theorem foldl {α : Type} {f : State → α → State} (o : List α) (hf : ∀ s : State, ∀ x ∈ o, FieldStep K W s (f s x)) :
    ∀ s, FieldStep K W s (o.foldl f s) := by
  induction o with
  | nil => exact refl
  | cons x o ih =>
    exact fun s => (hf s x (List.mem_cons_self ..)).trans (ih (fun s y hy => hf s y (List.mem_cons_of_mem _ hy)) _)

/-- A step that keeps registers, memory and shadow copies. -/
theorem ofSame (hregs : t.regs = s.regs) (hmem : t.mem = s.mem) (hclock : t.fieldClock = s.fieldClock) (hshadow : t.shadow = s.shadow) :
    FieldStep K W s t := ⟨fun _ _ => State.rd_of_regs hregs _, fun _ _ => by rw [hmem], hclock, fun _ _ => by rw [hshadow]⟩

theorem wr (s : State) {f : Fld} (hf : K f.key = true) (v : Nat) : FieldStep K W s (s.wr f v) :=
  ⟨fun g hg => s.rd_wr_other v fun he => by rw [he, hf] at hg; exact absurd hg (by decide), fun _ _ => rfl, rfl, fun _ _ => rfl⟩

theorem setNd (s : State) {e o n : Nat} (h : ∀ a, W a → a < 256 * e + o ∨ 256 * e + o + n ≤ a) (v : Nat) :
    FieldStep K W s (s.setNd e o n v) :=
  ⟨fun _ _ => rfl, fun a ha => s.mem.read_writeLE_other v (h a ha), rfl, fun _ _ => rfl⟩

/-- What the Pegbox may write, with the node table kept. -/
theorem ofPeg (h : PegFrame s t) (hK : ∀ k, pegKey k = true → K k = true) (hW : ∀ a, W a → a < 0x00780000) : FieldStep K W s t :=
  ⟨fun g hg => h.rd g (by cases hk : pegKey g.key with
      | false => rfl
      | true => rw [hK _ hk] at hg; exact absurd hg (by decide)),
    fun a ha => h.low a (hW a ha), h.kept State.fieldClock fun _ => rfl,
    fun b hb => h.due fun k hk => inBlock_of_ne hb hk⟩

end

end FieldStep

end Sys2Proof.Machine
end

section
/-!
PROOFS. The field network: counters, airtime, frames and command frames as steps of the field network (R139, R145, R156 to R175).
-/
namespace Sys2Proof.Machine

/-! ## Registers -/

/-- The registers that sending may write: those of the radio block and the media's counters. -/
def airKey (key : Nat) : Bool := inBlock bFRAD key || decide (0x40060100 * 32 ≤ key ∧ key < 0x40060280 * 32)

theorem airKey_frad {key : Nat} (h : inBlock bFRAD key = true) : airKey key = true := by simp [airKey, h]

theorem airKey_fplcCnt {m i : Nat} (hm : m < 12) (hi : i < 8) : airKey (F.FPLC_CNT_COUNT m i).key = true := by
  have h : 0x40060100 * 32 ≤ (F.FPLC_CNT_COUNT m i).key ∧ (F.FPLC_CNT_COUNT m i).key < 0x40060280 * 32 := by
    simp only [Fld.key, F.FPLC_CNT_COUNT]
    omega
  rw [airKey, decide_eq_true h, Bool.or_true]

theorem airKey_fradCnt {r i : Nat} (hr : r < 4) (hi : i < 8) : airKey (F.FRAD_CNT_COUNT r i).key = true :=
  airKey_frad (decide_eq_true (by simp only [blockBase, bFRAD, blockNo, Fld.key, F.FRAD_CNT_COUNT]; omega))

theorem airKey_token {r i : Nat} (hr : r < 7) (hi : i < 4) : airKey (F.FRAD_TOKEN_VALUE r i).key = true :=
  airKey_frad (decide_eq_true (by simp only [blockBase, bFRAD, blockNo, Fld.key, F.FRAD_TOKEN_VALUE]; omega))

theorem mediumRadio_lt {m r : Nat} (h : mediumRadio m = some r) : r < 4 := by
  unfold mediumRadio at h
  split at h
  · cases h
    omega
  · cases h

theorem mediumRadio_carrier {m : Nat} (h : m < 12) : mediumRadio m = none := if_neg (by omega)

namespace FieldStep

section
variable {K : Nat → Bool} {W : Nat → Prop} (hK : ∀ k, airKey k = true → K k = true)

theorem setField (s : State) (x : FieldState) (h : (x.started, x.cAt, x.rAt, x.sfnR, x.txs) =
    (s.field.started, s.field.cAt, s.field.rAt, s.field.sfnR, s.field.txs)) : FieldStep K W s (s.setField x) := by
  obtain ⟨hstarted, hcAt, hrAt, hsfnR, htxs⟩ : x.started = s.field.started ∧ x.cAt = s.field.cAt ∧ x.rAt = s.field.rAt ∧
    x.sfnR = s.field.sfnR ∧ x.txs = s.field.txs := by simpa using h
  refine ofSame rfl rfl ?_ rfl
  simp only [State.fieldClock, State.setField, hstarted, hcAt, hrAt, hsfnR, htxs]

theorem setKey (s : State) (x : KeyState) : FieldStep K W s (s.setKey x) := ofSame rfl rfl rfl rfl
theorem emit (s : State) (o : Output) : FieldStep K W s (s.emit o) := ofSame rfl rfl rfl rfl

theorem couple (s : State) (m : Nat) : FieldStep K W s (s.couple m) := by
  unfold State.couple
  split
  · exact ofSame rfl rfl rfl rfl
  · exact refl s

theorem probeStart (s : State) (m : Nat) : FieldStep K W s (s.probeStart m) := by
  unfold State.probeStart
  generalize (if m < 6 then 37 else 38) = d
  split
  · exact ofSame rfl rfl rfl rfl
  · exact refl s

include hK

theorem medCnt (s : State) (m : Nat) {i : Nat} (hi : i < 8) : FieldStep K W s (s.medCnt m i) := by
  unfold State.medCnt
  split
  case isTrue hm => exact wr s (hK _ (airKey_fplcCnt hm hi)) _
  case isFalse =>
    split
    case h_1 r hr => exact wr s (hK _ (airKey_fradCnt (mediumRadio_lt hr) hi)) _
    case h_2 => exact refl s

theorem defer (s : State) (m : Nat) : FieldStep K W s (s.defer m) := by
  unfold State.defer
  split
  case h_1 r hr => exact wr s (hK _ (airKey_fradCnt (mediumRadio_lt hr) (by decide))) _
  case h_2 => exact refl s

theorem putFrame (s : State) (m i : Nat) (f : FieldFrame) : FieldStep K W s (s.putFrame m i f) :=
  (((medCnt hK s m (by decide)).trans (couple _ m)).trans (probeStart _ m)).trans (emit _ _)

theorem showBook (s : State) (b : Nat) : FieldStep K W s (s.showBook b) := by
  unfold State.showBook
  extract_lets row l
  have hrow : row < 7 := by
    simp only [row]
    split
    · omega
    · split <;> omega
  exact (((wr s (hK _ (airKey_token hrow (by decide))) _).trans (wr _ (hK _ (airKey_token hrow (by decide))) _)).trans
    (wr _ (hK _ (airKey_token hrow (by decide))) _)).trans (wr _ (hK _ (airKey_token hrow (by decide))) _)

theorem setBook (s : State) (b : Nat) (k : Book) : FieldStep K W s (s.setBook b k) :=
  (setField s { s.field with books := s.field.books.set b k } rfl).trans (showBook hK _ b)

theorem reserve (s : State) (r b t : Nat) : FieldStep K W s (s.reserve r b t) :=
  (setBook hK s b _).trans (setField _ _ rfl)

theorem reserveAll {r : Nat} {flow0 : Bool} {l : List (Nat × Nat)} {s t : State} (h : s.reserveAll r flow0 l = some t) :
    FieldStep K W s t := by
  induction l generalizing s with
  | nil => cases h; exact refl _
  | cons x l ih =>
    unfold State.reserveAll at h
    split at h
    · exact (reserve hK s r x.1 x.2).trans (ih h)
    · cases h

theorem airtime {m i us : Nat} {wake flow0 : Bool} {n : Nat} {s t : State} (h : s.airtime m i us wake flow0 n = some t) :
    FieldStep K W s t := by
  unfold State.airtime at h
  split at h
  · cases h; exact refl s
  · split at h
    · cases h
    · split at h
      · cases h
      · exact reserveAll hK h

omit hK

/-! ## Counters of a node -/

theorem ndCnt (s : State) {e i : Nat} (h : ∀ a, W a → OffNd e [(128 + 4 * i, 4)] a) : FieldStep K W s (s.ndCnt e i) :=
  setNd s (fun a ha => h a ha _ List.mem_cons_self) _

theorem dueFloor (s : State) (e : Nat) (up : Bool) (role m : Nat) : FieldStep K W s (s.dueFloor e up role m) := setField s _ rfl

theorem fcntOk (s : State) (e role f : Nat) : FieldStep K W s (s.fcntOk e role f).2 := by
  unfold State.fcntOk
  extract_lets m
  split
  · exact refl s
  · split
    · exact dueFloor s _ _ _ _
    · exact refl s

theorem startMove (s : State) (e : Nat) : FieldStep K W s (s.startMove e) := by
  unfold State.startMove
  split
  · exact refl s
  · split
    · exact setKey s _
    · exact refl s

theorem nextFcnt (s : State) {e : Nat} (h : ∀ a, W a → OffNd e [(60, 4)] a) : FieldStep K W s (s.nextFcnt e).2 := by
  unfold State.nextFcnt
  extract_lets f
  have hok : FieldStep K W s (s.fcntOk e 0 f).2 := fcntOk s e 0 f
  generalize s.fcntOk e 0 f = r at hok
  obtain ⟨fc, u⟩ := r
  cases fc with
  | none => exact hok
  | some fc =>
    have hset : FieldStep K W u (u.setNd e 60 4 f) := setNd u (fun a ha => h a ha _ List.mem_cons_self) f
    dsimp only
    split
    · exact (hok.trans hset).trans (startMove _ e)
    · exact hok.trans hset

theorem nextGroupFcnt (s : State) {e : Nat} (h : ∀ a, W a → OffNd e [(8, 4)] a) : FieldStep K W s (s.nextGroupFcnt e).2 := by
  unfold State.nextGroupFcnt
  extract_lets f
  have hok : FieldStep K W s (s.fcntOk e 0 f).2 := fcntOk s e 0 f
  generalize s.fcntOk e 0 f = r at hok
  obtain ⟨fc, u⟩ := r
  cases fc with
  | none => exact hok
  | some fc => exact hok.trans (setNd u (fun a ha => h a ha _ List.mem_cons_self) f)

theorem nextJoinFcnt (s : State) (e : Nat) : FieldStep K W s (s.nextJoinFcnt e).2 := by
  unfold State.nextJoinFcnt
  extract_lets f
  have hok : FieldStep K W s (s.fcntOk e 3 f).2 := fcntOk s e 3 f
  generalize s.fcntOk e 3 f = r at hok
  obtain ⟨fc, u⟩ := r
  cases fc with
  | none => exact hok
  | some fc => exact hok.trans (setField u _ rfl)

end

end FieldStep

/-! ## Command frames -/

/-- The fields of a node's entry that a command frame to it writes. -/
def ndSent : List (Nat × Nat) := [(60, 4), (56, 1), (128, 4), (162, 1)]

section
variable {K : Nat → Bool} {W : Nat → Prop} (hK : ∀ k, airKey k = true → K k = true)
include hK

theorem FieldStep.cmdSend (s : State) {c : CmdDue} (hW : ∀ a, W a → OffNd c.node ndSent a) : FieldStep K W s (s.cmdSend c).2 := by
  have hone : ∀ x ∈ ndSent, ∀ a, W a → OffNd c.node [x] a := fun x hx a ha =>
    (hW a ha).mono fun y hy => by rw [List.mem_singleton.mp hy]; exact hx
  have hset : ∀ (t : State) (x : Nat × Nat), x ∈ ndSent → ∀ v, FieldStep K W t (t.setNd c.node x.1 x.2 v) :=
    fun t x hx v => .setNd t (fun a ha => hW a ha x hx) v
  unfold State.cmdSend
  extract_lets e m
  split
  · exact .refl s
  · split
    case h_1 => exact .defer hK s m
    case h_2 s' hair =>
      have hs' : FieldStep K W s s' := .airtime hK hair
      have hnext : FieldStep K W s' (if c.role = 3 then s'.nextJoinFcnt e else s'.nextFcnt e).2 := by
        split
        · exact .nextJoinFcnt s' e
        · exact .nextFcnt s' (hone (60, 4) (by decide))
      generalize (if c.role = 3 then s'.nextJoinFcnt e else s'.nextFcnt e) = r at hnext
      obtain ⟨fc, u⟩ := r
      cases fc with
      | none => exact .setField s _ rfl
      | some fc =>
        dsimp -zeta only
        extract_lets seq f v _ w
        have hv : FieldStep K W u v :=
          ((hset u (56, 1) (by decide) (seq + 1)).trans (.putFrame hK _ m 14 f)).trans (.ndCnt _ (hone (128, 4) (by decide)))
        have hw : FieldStep K W v w := by
          simp only [w]
          split
          · exact .setField v _ rfl
          · exact .refl v
        have hsent := ((hs'.trans hnext).trans hv).trans hw
        cases c.tone with
        | none => exact hsent
        | some t => exact (hsent.trans (hset w (162, 1) (by decide) _)).trans (.setField _ _ rfl)

theorem FieldStep.cmdPost (s : State) {c : CmdDue} (hW : ∀ a, W a → OffNd c.node ndSent a) : FieldStep K W s (s.cmdPost c) := by
  have hsend : FieldStep K W s (s.cmdSend c).2 := .cmdSend hK s hW
  unfold State.cmdPost
  generalize s.cmdSend c = r at hsend
  obtain ⟨sent, u⟩ := r
  cases sent with
  | true => exact hsend
  | false => exact hsend.trans (.setField u _ rfl)

end

end Sys2Proof.Machine
end

section
/-!
PROOFS. Frames and images from nodes (R142, R154, R155, R164, R171 to R174, R201, R204).
-/
namespace Sys2Proof.Machine

/-! ## Reception -/

/-- A good frame of a joined node whose counter is new is judged fresh, and nothing is counted. -/
theorem State.received_fresh {s : State} {m : Byte} {ty : BitVec 3} {n : Nat} (hty : ty.toNat = n) {rx : FieldRx} {f : FieldFrame}
    (h : FrameFrom s m ty rx f) (hfc : s.nd f.slot.toNat 64 4 < f.fcnt.toNat) (act : FieldFrame → RxKind → State → State) :
    s.received m.toNat n rx act = act f .fresh s := by
  obtain ⟨hup, hgood, hframe, hclear, hdir, hver, hmod, htyp, hsec, hrole, hslot, hstate, hkey, hkeyUp⟩ := h
  have hlive : s.ndLive f.slot.toNat = true := by simp [State.ndLive, hstate]
  have hrxKey : s.rxKey f.slot.toNat (s.keyData f.slot.toNat) = true := by simp [State.rxKey]
  have hjudge : s.rxJudge m.toNat f rx = (.fresh, s) := by
    unfold State.rxJudge
    extract_lets e k fc bad
    have hk : k = s.keyData e := hkey
    rw [if_neg (by simp [e, hslot, hlive]), if_neg (by rw [hk]; simp [e, hsec, hclear, hrole, hrxKey, hkeyUp])]
    split
    · rfl
    · rw [State.rxLast, if_pos hk]
      dsimp only
      rw [if_neg (by simp only [e, fc]; omega), if_neg (by simp only [e, fc]; omega)]
  unfold State.received
  rw [if_neg (by simp [hup]), if_neg (by simp [hgood]), hframe]
  dsimp only
  rw [if_pos ⟨hdir, hver, hmod, by rw [htyp, hty]⟩, hjudge]

/-! ## A field of an entry written -/

theorem State.nd_setNd_same (s : State) (e o n v : Nat) : (s.setNd e o n v).nd e o n = v % 2 ^ (8 * n) :=
  s.rdMem_wrMem_same _ _ _

theorem State.nd_setNd_other (s : State) (e : Nat) {o n p k : Nat} (v : Nat) (h : p + k ≤ o ∨ o + n ≤ p) :
    (s.setNd e o n v).nd e p k = s.nd e p k := s.rdMem_wrMem_other v (by omega)

theorem State.medCnt_peg (s : State) (m i : Nat) : (s.medCnt m i).peg = s.peg := by
  unfold State.medCnt
  split
  · rfl
  · split <;> rfl

theorem State.startMove_peg (s : State) (e : Nat) : (s.startMove e).peg = s.peg := by
  unfold State.startMove
  split
  · rfl
  · split <;> rfl

/-! ## The drift record and an accepted frame -/

/-- The fields of an entry that hold the drift record. -/
def ndDrift : List (Nat × Nat) := [(32, 4), (36, 4), (40, 4), (44, 1), (45, 1)]

/-- The fields of an entry that an accepted frame writes. -/
def ndAccept : List (Nat × Nat) := [(132, 4), (64, 4), (72, 4), (160, 1), (161, 1), (57, 1)]

section
variable {K : Nat → Bool} {W : Nat → Prop}

theorem FieldStep.drift (s : State) {e : Nat} (hW : ∀ a, W a → OffNd e ndDrift a) (measured : Int) (ackSync : Bool) :
    FieldStep K W s (s.drift e measured ackSync) := by
  have hset : ∀ (t : State) (x : Nat × Nat), x ∈ ndDrift → ∀ v, FieldStep K W t (t.setNd e x.1 x.2 v) :=
    fun t x hx v => .setNd t (fun a ha => hW a ha x hx) v
  unfold State.drift
  extract_lets dt reset theta psi nupd base psi' s1 s2 s3 s4 s5
  exact ((((hset s (32, 4) (by decide) _).trans (hset s1 (36, 4) (by decide) _)).trans (hset s2 (40, 4) (by decide) _)).trans
    ((hset s3 (44, 1) (by decide) _).trans (hset s4 (45, 1) (by decide) _))).trans (.setField s5 _ rfl)

variable (hK : ∀ k, airKey k = true → K k = true)
include hK

/-- What an accepted frame of a joined node under its present key writes, its counter and the time it was heard among it. -/
theorem State.rxAccept_spec (s : State) (m : Nat) {f : FieldFrame} (rx : FieldRx) (hstate : s.ndState f.slot.toNat = 2)
    (hkey : bits f.keyIdx.toNat 0 6 = s.keyData f.slot.toNat) :
    FieldStep K (OffNd f.slot.toNat ndAccept) s (s.rxAccept m f rx) ∧
      (s.rxAccept m f rx).nd f.slot.toNat 64 4 = f.fcnt.toNat ∧ (s.rxAccept m f rx).nd f.slot.toNat 72 4 = s.tb2Ms ∧
      (s.rxAccept m f rx).peg = s.peg := by
  have hset : ∀ (t : State) (x : Nat × Nat), x ∈ ndAccept → ∀ v,
      FieldStep K (OffNd f.slot.toNat ndAccept) t (t.setNd f.slot.toNat x.1 x.2 v) :=
    fun t x hx v => .setNd t (fun a ha => ha x hx) v
  unfold State.rxAccept
  extract_lets e fc old u v w _ p _ c1 c2 c3
  have hu : FieldStep K (OffNd e ndAccept) s u := (FieldStep.medCnt hK s m (by decide)).trans (hset _ (132, 4) (by decide) _)
  have hukey : bits f.keyIdx.toNat 0 6 = u.keyData e := by
    rw [hkey, State.keyData, State.keyData, hu.nd (by decide)]
  have hp : FieldStep K (fun _ => True) v p := by
    refine .trans ?_ (.setField w _ rfl)
    simp only [w]
    split
    · exact .dueFloor v e true 0 _
    · exact .refl v
  have hc1 : FieldStep K (fun _ => True) v c1 := by
    simp only [c1]
    rw [if_pos hukey]
    split
    · exact hp.trans (.startMove p e)
    · exact hp
  have hc3 : FieldStep K (OffNd e ndAccept) c1 c3 := (((hset c1 (72, 4) (by decide) _).trans (hset _ (160, 1) (by decide) _)).trans
    (hset _ (161, 1) (by decide) _)).trans (hset c2 (57, 1) (by decide) _)
  have hall : FieldStep K (OffNd e ndAccept) s c3 :=
    ((hu.trans (hset u (64, 4) (by decide) fc)).trans (hc1.mono (fun _ h => h) fun _ _ => trivial)).trans hc3
  have hjoined : c3.ndState e = 2 := (hall.nd (by decide)).trans hstate
  rw [if_neg (by rw [hjoined]; decide)]
  refine ⟨hall, ?_, ?_, ?_⟩
  · have hkept : c3.nd e 64 4 = c1.nd e 64 4 := by
      simp only [c3, c2]
      iterate 4 rw [State.nd_setNd_other _ _ _ (by decide)]
    rw [show f.slot.toNat = e from rfl, hkept, State.nd, hc1.rdMem fun _ _ => trivial]
    exact (State.nd_setNd_same u e 64 4 fc).trans (Nat.mod_eq_of_lt f.fcnt.isLt)
  · have hkept : c3.nd e 72 4 = c1.tb2Ms % 2 ^ 32 := by
      simp only [c3, c2]
      iterate 3 rw [State.nd_setNd_other _ _ _ (by decide)]
      exact State.nd_setNd_same c1 e 72 4 c1.tb2Ms
    rw [show f.slot.toNat = e from rfl, hkept, ← hc3.tb2Ms, hall.tb2Ms, State.tb2Ms, Nat.mod_mod]
  · have hp : p.peg = u.peg := by
      simp only [p, w]
      split <;> rfl
    have hc1peg : c1.peg = u.peg := by
      simp only [c1]
      rw [if_pos hukey]
      split
      · exact (p.startMove_peg e).trans hp
      · exact hp
    have hupeg : u.peg = s.peg := s.medCnt_peg m 1
    simp only [c3, c2, State.setNd, State.wrMem_peg]
    exact hc1peg.trans hupeg

/-- The ACK of a node's frame. -/
theorem FieldStep.sendAck (s : State) (m : Nat) {f : FieldFrame} (st lqi ackUs i : Nat)
    (hW : ∀ a, W a → OffNd f.slot.toNat [(60, 4)] a) : FieldStep K W s (s.sendAck m f st lqi ackUs i).2 := by
  unfold State.sendAck
  extract_lets e
  split
  · exact .refl s
  · split
    case h_1 => exact .defer hK s m
    case h_2 s' hair =>
      have hs' : FieldStep K W s s' := .airtime hK hair
      have hnext : FieldStep K W s' (s'.nextFcnt e).2 := .nextFcnt s' hW
      generalize s'.nextFcnt e = r at hnext
      obtain ⟨fc, u⟩ := r
      cases fc with
      | none => exact .setField s _ rfl
      | some fc => exact (hs'.trans hnext).trans (.putFrame hK u m i _)

theorem FieldStep.sendTone (s : State) {e : Nat} (m : Nat) (t : Bool × BitVec 3 × List (BitVec 4))
    (hW : ∀ a, W a → OffNd e ndSent a) : FieldStep K W s (s.sendTone e m t) := by
  unfold State.sendTone
  extract_lets codes octets
  split
  · exact .cmdPost hK s hW
  · exact .refl s

end

/-! ## Input images (R204) -/

/-- An input image takes one of the two copies with its SFN, and writes nothing else. -/
theorem State.writeImage_spec {K : Nat → Bool} (s : State) (e x img : Nat) : ∃ b, (b = 88 ∨ b = 104) ∧
    FieldStep K (OffNd e [(88, 32)]) s (s.writeImage e x img) ∧ (s.writeImage e x img).nd e b 12 = img % 2 ^ 96 ∧
    (s.writeImage e x img).nd e (b + 12) 4 = x % 2 ^ 32 := by
  unfold State.writeImage
  extract_lets s0 s1 b
  have hb : b = 88 ∨ b = 104 := by
    simp only [b]
    split
    · exact .inl rfl
    · split
      · exact .inr rfl
      · split
        · exact .inr rfl
        · exact .inl rfl
  have hset : ∀ (t : State) (o n v : Nat), 88 ≤ o → o + n ≤ 120 → FieldStep K (OffNd e [(88, 32)]) t (t.setNd e o n v) :=
    fun t o n v ho hn => .setNd t (fun a ha => by have := ha (88, 32) List.mem_cons_self; simp only at this; omega) v
  refine ⟨b, hb, (hset s b 12 img (by omega) (by omega)).trans (hset _ (b + 12) 4 x (by omega) (by omega)), ?_, ?_⟩
  · rw [State.nd_setNd_other _ _ _ (Or.inl (by omega)), State.nd_setNd_same]
  · exact State.nd_setNd_same _ e (b + 12) 4 x

end Sys2Proof.Machine
end

section
/-!
PROOFS. What nodes send: data frames, SLEEP, missed frames and images (R142, R154, R155, R164, R171 to R174, R201, R204).
-/
namespace Sys2Proof.Machine

/-- The fields of an entry that the drift record, the ACK and a tone map write. -/
def ndTail : List (Nat × Nat) := ndDrift ++ ndSent

/-- The fields of an entry that any of a node's frames writes beside its image. -/
def ndHeard : List (Nat × Nat) := ndAccept ++ ndTail

theorem State.ended_entryAlone {s u : State} {e : Nat} (h : EntryAlone e s u) : EntryAlone e s (s.ended u) :=
  fun a ha => (s.ended_rd8 u a).trans (h a ha)

/-! ## An input image by itself (R142, R204) -/

section
variable {s : State} {m : Byte} {rx : FieldRx} {f : FieldFrame}

theorem state_of_frameFrom {ty : BitVec 3} (h : FrameFrom s m ty rx f) : s.ndState f.slot.toNat = 2 := by
  obtain ⟨-, -, -, -, -, -, -, -, -, -, -, hstate, -⟩ := h
  exact hstate

theorem key_of_frameFrom {ty : BitVec 3} (h : FrameFrom s m ty rx f) : bits f.keyIdx.toNat 0 6 = s.keyData f.slot.toNat := by
  obtain ⟨-, -, -, -, -, -, -, -, -, -, -, -, hkey, -⟩ := h
  exact hkey

/-- What follows a frame accepted: the drift record, the ACK and the tone map. -/
theorem State.dataFrame_tail {u : State} (us i : Nat) (h : FrameFrom s m 1 rx f) (hfc : s.nd f.slot.toNat 64 4 < f.fcnt.toNat)
    (htake : s.takeData m.toNat f = (true, u)) : FieldStep airKey (OffNd f.slot.toNat ndTail) (u.rxAccept m.toNat f rx)
      (s.dataFrame m.toNat rx false us i) := by
  have hK : ∀ k, airKey k = true → airKey k = true := fun _ hk => hk
  unfold State.dataFrame
  extract_lets t
  rw [State.received_fresh (n := 1) rfl h hfc]
  dsimp -zeta only
  extract_lets e win
  rw [if_neg (by simp), htake]
  dsimp -zeta only
  extract_lets v w x
  have hdrift : FieldStep airKey (OffNd e ndDrift) v w := .drift _ (fun _ ha => ha) _ _
  have hack : FieldStep airKey (OffNd e ndSent) w (w.sendAck m.toNat f stOK rx.info.lqi.toNat us i).2 :=
    .sendAck hK w m.toNat stOK rx.info.lqi.toNat us i fun a ha => ha.mono (by decide)
  have hx : FieldStep airKey (OffNd e ndTail) v x :=
    ((hdrift.widen (by decide)).trans (hack.widen (by decide))).trans (.setNd _ (fun a ha => ha (45, 1) (by decide)) _)
  split
  case h_1 tone _ => exact hx.trans (.sendTone hK x m.toNat tone fun a ha => ha.mono (by decide))
  case h_2 => exact hx

/-- A fresh input image takes a copy, its counter and the time it was heard. -/
theorem State.dataFrame_image_spec (us i : Nat) (h : FrameFrom s m 1 rx f) (hfc : s.nd f.slot.toNat 64 4 < f.fcnt.toNat)
    (hflow : f.flow = 35) (hlen : f.payload.length = 12) :
    ∃ b, (b = 88 ∨ b = 104) ∧ (s.dataFrame m.toNat rx false us i).nd f.slot.toNat b 12 = ofOctetsLE f.payload ∧
      (s.dataFrame m.toNat rx false us i).nd f.slot.toNat (b + 12) 4 = s.sfnOf m.toNat % 2 ^ 32 ∧
      (s.dataFrame m.toNat rx false us i).nd f.slot.toNat 64 4 = f.fcnt.toNat ∧
      (s.dataFrame m.toNat rx false us i).nd f.slot.toNat 72 4 = s.tb2Ms ∧
      EntryAlone f.slot.toNat s (s.dataFrame m.toNat rx false us i) := by
  obtain ⟨b, hb, himg, hbits, hsfn⟩ := s.writeImage_spec (K := airKey) f.slot.toNat (s.sfnOf m.toNat % 2 ^ 32) (ofOctetsLE f.payload)
  have htake : s.takeData m.toNat f = (true, s.writeImage f.slot.toNat (s.sfnOf m.toNat % 2 ^ 32) (ofOctetsLE f.payload)) := by
    unfold State.takeData
    rw [hflow]
    exact (if_pos rfl).trans (if_pos hlen)
  have htail := State.dataFrame_tail us i h hfc htake
  generalize s.writeImage f.slot.toNat (s.sfnOf m.toNat % 2 ^ 32) (ofOctetsLE f.payload) = u at himg hbits hsfn htail
  generalize s.dataFrame m.toNat rx false us i = t at htail ⊢
  have hstate : u.ndState f.slot.toNat = 2 := (himg.nd (by decide)).trans (state_of_frameFrom h)
  have hkey : bits f.keyIdx.toNat 0 6 = u.keyData f.slot.toNat := by
    rw [State.keyData, himg.nd (by decide)]
    exact key_of_frameFrom h
  obtain ⟨haccept, hcount, hheard, -⟩ := u.rxAccept_spec (K := airKey) (fun _ hk => hk) m.toNat rx hstate hkey
  have hrest : FieldStep airKey (OffNd f.slot.toNat ndHeard) u t := (haccept.widen (by decide)).trans (htail.widen (by decide))
  have hall : FieldStep airKey (OffNd f.slot.toNat ((88, 32) :: ndHeard)) s t :=
    (himg.widen (by decide)).trans (hrest.widen (by decide))
  have hcopy : ∀ o n, 88 ≤ o → o + n ≤ 120 → t.nd f.slot.toNat o n = u.nd f.slot.toNat o n := fun o n ho hn =>
    hrest.rdMem fun j hj x hx => by
      have hout : ∀ y ∈ ndHeard, y.1 + y.2 ≤ 88 ∨ 120 ≤ y.1 := by decide
      have := hout x hx
      omega
  have himage : ofOctetsLE f.payload < 2 ^ 96 := by
    have := ofOctetsLE_lt f.payload
    rw [hlen] at this
    exact this
  refine ⟨b, hb, ?_, ?_, ?_, ?_, hall.entryAlone (by decide)⟩
  · rw [hcopy b 12 (by omega) (by omega), hbits, Nat.mod_eq_of_lt himage]
  · rw [hcopy (b + 12) 4 (by omega) (by omega), hsfn, Nat.mod_mod]
  · exact (htail.nd (by decide)).trans hcount
  · exact (htail.nd (by decide)).trans (hheard.trans himg.tb2Ms)

/-! ## SLEEP (R163, R171) -/

theorem FieldStep.sfnOf {W : Nat → Prop} {s t : State} (h : FieldStep airKey W s t) (m : Nat) : t.sfnOf m = s.sfnOf m := by
  simp only [State.sfnOf, State.sfnC, State.rd64, h.sfnR, h.rd F.FPLC_SFN_LO_SFN (by decide), h.rd F.FPLC_SFN_HI_SFN (by decide)]

theorem FieldStep.sfnStart {W : Nat → Prop} {s t : State} (h : FieldStep airKey W s t) (m x : Nat) :
    t.sfnStart m x = s.sfnStart m x := by
  simp only [State.sfnStart, State.sfStart, h.cAt, h.rAt, h.sfnOf]

theorem State.nodeSleep_spec (us i : Nat) (h : FrameFrom s m 3 rx f) (hfc : s.nd f.slot.toNat 64 4 < f.fcnt.toNat)
    (hlen : f.payload.length = 11) (hcmd : f.payload.take 1 = o1 3) :
    bitAt ((s.nodeSleep m.toNat rx us i).nd f.slot.toNat 17 1) 0 = true ∧
      (s.nodeSleep m.toNat rx us i).nd f.slot.toNat 48 8 =
        s.sfnStart m.toNat (ofOctetsLE ((f.payload.drop 1).take 6)) % 2 ^ 64 ∧
      (s.nodeSleep m.toNat rx us i).nd f.slot.toNat 64 4 = f.fcnt.toNat ∧
      EntryAlone f.slot.toNat s (s.nodeSleep m.toNat rx us i) := by
  have hK : ∀ k, airKey k = true → airKey k = true := fun _ hk => hk
  obtain ⟨haccept, hcount, -, -⟩ := s.rxAccept_spec hK m.toNat rx (state_of_frameFrom h) (key_of_frameFrom h)
  unfold State.nodeSleep
  rw [State.received_fresh (n := 3) rfl h hfc]
  dsimp -zeta only
  extract_lets e sleep st u v x _ y
  have hsleep : sleep = true := by simp [sleep, hlen, hcmd]
  have hdrift : FieldStep airKey (OffNd e ndDrift) u v := .drift _ (fun _ ha => ha) _ _
  have hx : FieldStep airKey (OffNd e [(48, 8), (17, 1)]) v x :=
    (FieldStep.setNd v (fun a ha => ha (48, 8) (by decide)) _).trans (.setNd _ (fun a ha => ha (17, 1) (by decide)) _)
  have hy : FieldStep airKey (fun _ => True) x y := by
    simp only [y]
    rw [if_pos hsleep]
    clear_value x
    exact .setField x _ rfl
  have hack : FieldStep airKey (OffNd e [(60, 4)]) y (y.sendAck m.toNat f st rx.info.lqi.toNat us i).2 :=
    .sendAck hK y m.toNat st rx.info.lqi.toNat us i fun a ha => ha
  have hz := (hack.widen (m := [(60, 4), (45, 1)]) (by decide)).trans
    (.setNd _ (fun a ha => ha (45, 1) (by decide)) (b2n (y.sendAck m.toNat f st rx.info.lqi.toNat us i).1))
  generalize (y.sendAck m.toNat f st rx.info.lqi.toNat us i).2.setNd e 45 1
    (b2n (y.sendAck m.toNat f st rx.info.lqi.toNat us i).1) = z at hz
  have hxz : FieldStep airKey (OffNd e [(60, 4), (45, 1)]) x z := (hy.mono (fun _ hk => hk) fun _ _ => trivial).trans hz
  have hvz : FieldStep airKey (OffNd e [(48, 8), (17, 1), (60, 4), (45, 1)]) v z :=
    (hx.widen (by decide)).trans (hxz.widen (by decide))
  have hall : FieldStep airKey (OffNd e (ndAccept ++ (ndDrift ++ [(48, 8), (17, 1), (60, 4), (45, 1)]))) s z :=
    (haccept.widen (by decide)).trans ((hdrift.widen (by decide)).trans (hvz.widen (by decide)))
  refine ⟨?_, ?_, ?_, hall.entryAlone (by decide)⟩
  · have hflag : z.nd e 17 1 = setBit ((v.setNd e 48 8 (v.sfnStart m.toNat (ofOctetsLE ((f.payload.drop 1).take 6)))).nd e 17 1) 0 true
        % 2 ^ 8 := (hxz.nd (by decide)).trans (State.nd_setNd_same _ e 17 1 _)
    rw [show f.slot.toNat = e from rfl, hflag]
    exact bitAt_setBit_mod (w := 8) _ true (by decide)
  · have huntil : x.nd e 48 8 = v.sfnStart m.toNat (ofOctetsLE ((f.payload.drop 1).take 6)) % 2 ^ 64 :=
      (State.nd_setNd_other _ e _ (by decide)).trans (State.nd_setNd_same v e 48 8 _)
    rw [show f.slot.toNat = e from rfl, hxz.nd (by decide), huntil, hdrift.sfnStart, haccept.sfnStart]
  · rw [show f.slot.toNat = e from rfl, hvz.nd (by decide), hdrift.nd (by decide)]
    exact hcount

end

/-! ## Images in their node's position (R164, R201) -/

theorem FieldStep.isOn {W : Nat → Prop} {s t : State} (h : FieldStep airKey W s t) {d : Nat} (hd : d < 50) : t.isOn d = s.isOn d := by
  rw [State.isOn, State.dom, h.rd _ (by
    simp [airKey, inBlock, blockBase, bFRAD, blockNo, Fld.key, F.PWR_DOM_STATE_STATE]
    omega), State.isOn, State.dom]

theorem State.isOn_of_mediumUp {s : State} {m : Nat} (h : s.mediumUp m = true) : s.isOn 31 = true := by
  simp only [State.mediumUp, Bool.and_eq_true] at h
  obtain ⟨⟨⟨hon, -⟩, -⟩, -⟩ := h
  exact hon

/-- The fields of an entry that an image taken writes beside the image and the drift record. -/
def ndImage : List (Nat × Nat) := [(68, 4), (72, 4), (160, 1), (161, 1)]

/-- The counts of an image taken. -/
def State.imageCounted (s : State) (m e : Nat) (rx : RxInfo) : State :=
  (((s.drift e rx.measured false).medCnt m 1).ndCnt e 1).nodeCnt 2

/-- The entry as an image of superframe `x` leaves it. -/
def State.imageStored (s : State) (e x img : Nat) (rx : RxInfo) : State :=
  ((((s.setNd e 68 4 x).setNd e 72 4 s.tb2Ms).setNd e 160 1 rx.lqi.toNat).setNd e 161 1 rx.rssi.toNat).writeImage e x img

/-- The counts write the drift record, the entry's count of frames and NODE_CNT. -/
theorem State.imageCounted_spec (s : State) (m e : Nat) (rx : RxInfo) (hon : s.isOn 31 = true) :
    (s.imageCounted m e rx).rd (F.NODE_CNT_COUNT 2) = (s.rd (F.NODE_CNT_COUNT 2) + 1) % 2 ^ 32 ∧
      FieldStep (fun k => airKey k || k == (F.NODE_CNT_COUNT 2).key) (OffNd e (ndDrift ++ [(132, 4)])) s (s.imageCounted m e rx) := by
  have hdrift : FieldStep airKey (OffNd e ndDrift) s (s.drift e rx.measured false) := .drift _ (fun _ ha => ha) _ _
  unfold State.imageCounted
  generalize s.drift e rx.measured false = u at hdrift
  have hcnt : FieldStep airKey (OffNd e [(132, 4)]) u ((u.medCnt m 1).ndCnt e 1) :=
    (FieldStep.medCnt (fun _ hk => hk) u m (by decide)).trans (.ndCnt _ fun a ha => ha)
  have hv := (hdrift.widen (m := ndDrift ++ [(132, 4)]) (by decide)).trans (hcnt.widen (by decide))
  generalize (u.medCnt m 1).ndCnt e 1 = v at hv
  have hinc : v.nodeCnt 2 = v.inc (F.NODE_CNT_COUNT 2) := if_pos ((hv.isOn (by decide)).trans hon)
  rw [hinc, State.inc_eq]
  refine ⟨?_, (hv.mono (fun k hk => by simp [hk]) fun _ ha => ha).trans (.wr v (by simp) _)⟩
  rw [State.rd_wr_same, hv.rd _ (by decide)]
  rfl

/-- What the entry then holds. -/
theorem State.imageStored_spec (s : State) (e x : Nat) (img : BitVec 96) (rx : RxInfo) :
    ∃ b, (b = 88 ∨ b = 104) ∧ (s.imageStored e x img.toNat rx).nd e b 12 = img.toNat ∧
      (s.imageStored e x img.toNat rx).nd e (b + 12) 4 = x % 2 ^ 32 ∧ (s.imageStored e x img.toNat rx).nd e 68 4 = x % 2 ^ 32 ∧
      (s.imageStored e x img.toNat rx).nd e 72 4 = s.tb2Ms ∧
      FieldStep airKey (OffNd e ((88, 32) :: ndImage)) s (s.imageStored e x img.toNat rx) := by
  have hset : ∀ (t : State) (x : Nat × Nat), x ∈ ndImage → ∀ v, FieldStep airKey (OffNd e ndImage) t (t.setNd e x.1 x.2 v) :=
    fun t x hx v => .setNd t (fun a ha => ha x hx) v
  have hheld := (((hset s (68, 4) (by decide) x).trans (hset _ (72, 4) (by decide) s.tb2Ms)).trans
    (hset _ (160, 1) (by decide) rx.lqi.toNat)).trans (hset _ (161, 1) (by decide) rx.rssi.toNat)
  unfold State.imageStored
  have hsfn : ((((s.setNd e 68 4 x).setNd e 72 4 s.tb2Ms).setNd e 160 1 rx.lqi.toNat).setNd e 161 1 rx.rssi.toNat).nd e 68 4 =
      x % 2 ^ 32 := by
    iterate 3 rw [State.nd_setNd_other _ _ _ (by decide)]
    exact State.nd_setNd_same s e 68 4 x
  have hms : ((((s.setNd e 68 4 x).setNd e 72 4 s.tb2Ms).setNd e 160 1 rx.lqi.toNat).setNd e 161 1 rx.rssi.toNat).nd e 72 4 =
      s.tb2Ms := by
    iterate 2 rw [State.nd_setNd_other _ _ _ (by decide)]
    rw [State.nd_setNd_same, State.tb2Ms]
    exact Nat.mod_mod _ _
  generalize (((s.setNd e 68 4 x).setNd e 72 4 s.tb2Ms).setNd e 160 1 rx.lqi.toNat).setNd e 161 1 rx.rssi.toNat = u at hheld hsfn hms
  obtain ⟨b, hb, himg, hbits, hx⟩ := u.writeImage_spec (K := airKey) e x img.toNat
  refine ⟨b, hb, hbits.trans (Nat.mod_eq_of_lt img.isLt), hx, (himg.nd (by decide)).trans hsfn, (himg.nd (by decide)).trans hms,
    (hheld.widen (by decide)).trans (himg.widen (by decide))⟩

/-- An image whose MIC passes, from a joined node, newer than the last one. -/
theorem State.imageTaken_spec {s : State} (m e : Nat) (img : BitVec 96) (rx : RxInfo) (hon : s.isOn 31 = true)
    (hstate : s.ndState e = 2) (hkey : s.keyUp (bits (s.nd e 19 1) 0 6) = true)
    (hnew : s.nd e 68 4 = 0 ∨ newer 32 (s.sfnOf m % 2 ^ 32) (s.nd e 68 4) = true) :
    ∃ b, (b = 88 ∨ b = 104) ∧ (s.imageTaken m e (some img) rx).nd e b 12 = img.toNat ∧
      (s.imageTaken m e (some img) rx).nd e (b + 12) 4 = s.sfnOf m % 2 ^ 32 ∧
      (s.imageTaken m e (some img) rx).nd e 68 4 = s.sfnOf m % 2 ^ 32 ∧ (s.imageTaken m e (some img) rx).nd e 72 4 = s.tb2Ms ∧
      (s.imageTaken m e (some img) rx).rd (F.NODE_CNT_COUNT 2) = (s.rd (F.NODE_CNT_COUNT 2) + 1) % 2 ^ 32 ∧
      EntryAlone e s (s.imageTaken m e (some img) rx) := by
  obtain ⟨hcount, hcounted⟩ := s.imageCounted_spec m e rx hon
  obtain ⟨b, hb, hbits, hx, hsfn, hms, hstored⟩ := (s.imageCounted m e rx).imageStored_spec e (s.sfnOf m % 2 ^ 32) img rx
  have htaken : s.imageTaken m e (some img) rx =
      if ((s.imageCounted m e rx).imageStored e (s.sfnOf m % 2 ^ 32) img.toNat rx).ndState e = 3 then
        (((s.imageCounted m e rx).imageStored e (s.sfnOf m % 2 ^ 32) img.toNat rx).setNd e 9 1 2).showGroups
      else (s.imageCounted m e rx).imageStored e (s.sfnOf m % 2 ^ 32) img.toNat rx := if_pos ⟨hkey, hnew⟩
  generalize s.imageCounted m e rx = u at hcount hcounted hbits hx hsfn hms hstored htaken
  generalize u.imageStored e (s.sfnOf m % 2 ^ 32) img.toNat rx = t at hbits hx hsfn hms hstored htaken
  have hjoined : t.ndState e = 2 := (hstored.nd (by decide)).trans ((hcounted.nd (by decide)).trans hstate)
  rw [htaken, if_neg (by rw [hjoined]; decide)]
  have hall := (hcounted.widen (m := ndDrift ++ (132, 4) :: (88, 32) :: ndImage) (by decide)).trans
    ((hstored.widen (by decide)).mono (fun k hk => by simp [hk]) fun _ ha => ha)
  refine ⟨b, hb, hbits, hx.trans (Nat.mod_mod _ _), hsfn.trans (Nat.mod_mod _ _), hms.trans hcounted.tb2Ms,
    (hstored.rd _ (by decide)).trans hcount, hall.entryAlone (by decide)⟩

/-- The image of a node due in its position is taken: on carrier by slot and comb, on radio by the frame's own entry. -/
theorem State.imageEntry_taken {s : State} {m i c e : Nat} {l : List Byte} (clear : Option (BitVec 96)) (rx : RxInfo)
    (hup : s.mediumUp m = true)
    (hentry : (m < 12 ∧ burstOk l = true ∧ 5 ≤ i ∧ s.imageAt m (8 * (i - 5) + c) = some e) ∨
      (12 ≤ m ∧ 4 ≤ l.length ∧ ofOctetsLE (l.drop (l.length - 4)) = crc32 (l.take (l.length - 4)) ∧
        s.imageFrame l = some e ∧ s.imageAt m i = some e)) :
    s.imageEntry m i c l clear rx = s.imageTaken m e clear rx := by
  unfold State.imageEntry
  rw [if_neg (by simp [hup])]
  rcases hentry with ⟨hm, hburst, hi, hat⟩ | ⟨hm, hlen, hcrc, hframe, hat⟩
  · rw [if_pos hm, if_neg (by simp [hburst]), if_pos hi, hat]
  · rw [if_neg (by omega), if_neg (by simp [hlen, hcrc]), hframe]
    exact if_pos hat

/-- Settles O25: a fresh frame or image is accepted, and each field of its node's entry holds what was last written there. -/
theorem uplinkCommands : Obligations.UplinkCommands := by
  refine ⟨fun m rx f us i s hfc => ⟨fun h hflow hlen => ?_, fun h hlen hcmd => ?_⟩, fun e s hlive hmissed => ?_,
    fun m i c l img rx e s hup hentry hstate hkey hnew => ?_⟩
  · obtain ⟨b, hb, himg, hsfn, hcount, hheard, halone⟩ := State.dataFrame_image_spec us.toNat i.val h hfc hflow hlen
    refine ⟨_, b, finish_ended s (s.dataFrame m.toNat rx false us.toNat i.val), hb, ?_⟩
    simp only [State.ended_nd]
    exact ⟨himg, hsfn, hcount, hheard, State.ended_entryAlone halone⟩
  · obtain ⟨hflag, huntil, hcount, halone⟩ := State.nodeSleep_spec us.toNat i.val h hfc hlen hcmd
    refine ⟨_, finish_ended s (s.nodeSleep m.toNat rx us.toNat i.val), ?_⟩
    simp only [State.ended_nd]
    exact ⟨hflag, huntil, hcount, State.ended_entryAlone halone⟩
  · have heff : s.frameMissed e.toNat = s.setField { s.field with missed := s.field.missed ++ [e.toNat] } :=
      if_pos ⟨hlive, fun h => Bool.false_ne_true (hmissed.symm.trans h)⟩
    refine ⟨_, congrArg (finish s) heff, ?_, State.ended_regsKept fun _ _ => rfl, State.ended_memKept rfl⟩
    exact congrArg FieldState.missed (s.ended_field _)
  · obtain ⟨b, hb, himg, hx, hsfn, hheard, hcount, halone⟩ :=
      State.imageTaken_spec m.toNat e img rx (State.isOn_of_mediumUp hup) hstate hkey hnew
    have heff := State.imageEntry_taken (c := c.val) (some img) rx hup hentry
    refine ⟨s.ended (s.imageTaken m.toNat e (some img) rx), b, congrArg (finish s) heff, hb, ?_⟩
    simp only [State.ended_nd]
    exact ⟨himg, hx, hsfn, hheard, (State.ended_rd _ _ (Fld.notRun (by decide))).trans hcount, State.ended_entryAlone halone⟩

end Sys2Proof.Machine
end

section
/-!
PROOFS. Frames to nodes: what a carrier frame leaves on its medium, and the claim that is released (R139 to R141, R156, R158).
-/
namespace Sys2Proof.Machine

/-! ## A claim released -/

section
variable (s : State)

theorem State.pushChain_memClaims (a b n : Nat) : (s.pushChain a b n).mem = s.mem ∧ (s.pushChain a b n).peg.claims = s.peg.claims := by
  unfold State.pushChain
  split <;> exact ⟨rfl, rfl⟩

theorem State.commit_memPeg (b : Nat) : (s.commit b).mem = s.mem ∧ (s.commit b).peg = s.peg := by
  unfold State.commit State.commitSel
  extract_lets due
  split
  · exact ⟨rfl, rfl⟩
  · exact ⟨foldl_kept (f := State.applyShadow) State.mem (by intros; rfl) due s,
      foldl_kept (f := State.applyShadow) State.peg (by intros; rfl) due s⟩

theorem State.boundary_memClaims (q : Nat) : (s.boundary q).mem = s.mem ∧ (s.boundary q).peg.claims = s.peg.claims := by
  unfold State.boundary
  split
  · exact ⟨rfl, rfl⟩
  · extract_lets u
    have hu : u.mem = s.mem ∧ u.peg.claims = s.peg.claims := by
      simp only [u]
      split <;> exact ⟨rfl, rfl⟩
    obtain ⟨hmem, hpeg⟩ := u.commit_memPeg bPEG
    exact ⟨hmem.trans hu.1, (congrArg PegState.claims hpeg).trans hu.2⟩

/-- A claim released is gone, and no octet of memory has changed. -/
theorem State.releaseClaim_memClaims (cl : Claim) : (s.releaseClaim cl).mem = s.mem ∧
    (s.releaseClaim cl).peg.claims = s.peg.claims.erase cl.queue := by
  have hended : (s.endClaim cl).mem = s.mem ∧ (s.endClaim cl).peg.claims = s.peg.claims.erase cl.queue := ⟨rfl, rfl⟩
  unfold State.releaseClaim
  generalize s.endClaim cl = u at hended
  obtain ⟨hmem, hclaims⟩ := u.pushChain_memClaims cl.first cl.lastC cl.cells
  generalize u.pushChain cl.first cl.lastC cl.cells = v at hmem hclaims
  obtain ⟨hmem', hclaims'⟩ := (v.pcnt (qPort cl.queue) 2).boundary_memClaims cl.queue
  exact ⟨hmem'.trans (hmem.trans hended.1), hclaims'.trans (hclaims.trans hended.2)⟩

theorem State.heldClaim_none {s : State} {p q : Nat} (h : s.peg.claims.find q = none) : s.heldClaim p q = none := by
  rw [State.heldClaim, h]

end

/-! ## A frame on carrier -/

namespace FieldStep

section
variable {K : Nat → Bool} {W : Nat → Prop}

theorem medCnt_carrier (s : State) {m i : Nat} (hm : m < 12) (hK : K (F.FPLC_CNT_COUNT m i).key = true) :
    FieldStep K W s (s.medCnt m i) := by
  rw [State.medCnt, if_pos hm]
  exact wr s hK _

theorem putFrame_carrier (s : State) {m : Nat} (i : Nat) (f : FieldFrame) (hm : m < 12)
    (hK : K (F.FPLC_CNT_COUNT m 0).key = true) : FieldStep K W s (s.putFrame m i f) :=
  (((medCnt_carrier s hm hK).trans (couple _ m)).trans (probeStart _ m)).trans (emit _ _)

/-- A frame sent without a wake pattern. -/
theorem sendToNode_awake (s : State) {e m : Nat} (a : Alloc) (i us : Nat) (f : FieldFrame) (hm : m < 12)
    (hK : K (F.FPLC_CNT_COUNT m 0).key = true) (hW : ∀ a, W a → OffNd e [(128, 4), (48, 8)] a) :
    FieldStep K W s (s.sendToNode e m a i us false f) := by
  unfold State.sendToNode
  extract_lets u v
  have hu : u = s := if_neg (by simp)
  have hu : FieldStep K W s v := hu ▸
    (putFrame_carrier u a.first.toNat f hm hK).trans (.ndCnt _ fun a ha => (hW a ha).mono (by decide))
  rw [if_neg (by simp)]
  split
  · exact hu.trans (.setNd v (fun a ha => hW a ha (48, 8) (by decide)) _)
  · exact hu

end

end FieldStep

/-- The frame that stands on carrier medium `m` as `f` leaves there. -/
def State.carrierOut (s : State) (m : Nat) (f : FieldFrame) : Output :=
  .field m 0 (-(s.rd (F.FPLC_TX_ATTEN_DB m) : Int)) f (frameOctets (s.frameKey f) f)
    (.carrier (s.carrierTx m f.slot.toNat (s.toneOf f) (frameOctets (s.frameKey f) f)))

theorem State.medCnt_out (s : State) (m i : Nat) : (s.medCnt m i).out = s.out := by
  unfold State.medCnt
  split
  · rfl
  · split <;> rfl

theorem State.couple_out (s : State) (m : Nat) : (s.couple m).out = s.out := by
  unfold State.couple
  split <;> rfl

theorem State.probeStart_out (s : State) (m : Nat) : (s.probeStart m).out = s.out := by
  unfold State.probeStart
  generalize (if m < 6 then 37 else 38) = d
  split <;> rfl

theorem State.putFrame_out {m : Nat} (hm : m < 12) (s : State) (i : Nat) (f : FieldFrame) :
    (s.putFrame m i f).out = s.carrierOut m f :: s.out := by
  unfold State.putFrame
  extract_lets l tx
  have hchan : s.chanOf m i = 0 := by rw [State.chanOf, mediumRadio_carrier hm]
  have hpwr : s.outPwr m = -(s.rd (F.FPLC_TX_ATTEN_DB m) : Int) := by rw [State.outPwr, mediumRadio_carrier hm]
  have htx : tx = .carrier (s.carrierTx m f.slot.toNat (s.toneOf f) l) := by
    simp only [tx]
    rw [mediumRadio_carrier hm]
  rw [State.emit_out, State.probeStart_out, State.couple_out, State.medCnt_out, hchan, hpwr, htx]
  rfl

theorem State.sendToNode_awake_out {m : Nat} (hm : m < 12) (s : State) (e : Nat) (a : Alloc) (i us : Nat) (f : FieldFrame) :
    (s.sendToNode e m a i us false f).out = s.carrierOut m f :: s.out := by
  unfold State.sendToNode
  extract_lets u v
  have hu : u = s := if_neg (by simp)
  have hv : v.out = s.carrierOut m f :: s.out := hu ▸ State.putFrame_out hm u a.first.toNat f
  rw [if_neg (by simp)]
  split
  · exact hv
  · exact hv

/-- What leaves depends on the registers, the root key, the ring's place, the tone maps and two fields of the node's entry. -/
theorem State.carrierOut_congr {s t : State} (m : Nat) (f : FieldFrame) (hregs : t.regs = s.regs) (hroot : t.key.root = s.key.root)
    (hmod : t.moduleId = s.moduleId) (htones : t.field.tones = s.field.tones)
    (heui : t.rdMem (256 * f.slot.toNat) 8 = s.rdMem (256 * f.slot.toNat) 8)
    (hmap : t.rdMem (256 * f.slot.toNat + 162) 1 = s.rdMem (256 * f.slot.toNat + 162) 1) :
    t.carrierOut m f = s.carrierOut m f := by
  have hrd : ∀ g, t.rd g = s.rd g := State.rd_of_regs hregs
  have hfamily : ∀ k, t.familyKey k = s.familyKey k := fun k => by
    simp only [State.familyKey, State.slotKey, State.slotKind, hrd, hroot]
  have hkey : t.frameKey f = s.frameKey f := by
    simp only [State.frameKey, State.beaconKey, State.groupKey, State.nodeKey, hfamily, hmod, heui]
  have hnotch : ∀ c, t.extraNotch c = s.extraNotch c := fun c => by
    simp only [State.extraNotch, State.isSet, hrd]
  have hloads : ∀ c, t.loads c = s.loads c := fun c => by simp only [State.loads, hnotch]
  have htone : t.toneOf f = s.toneOf f := by simp only [State.toneOf, hmap]
  simp only [State.carrierOut, State.carrierTx, htone, hkey, htones, hloads, hrd]

end Sys2Proof.Machine
end

section
/-!
PROOFS. Frames to nodes, their ACKs and time-outs, floors and moves (R139 to R141, R156 to R160, R171, R456).
-/
namespace Sys2Proof.Machine

/-! ## A packet that goes no further (R141) -/

theorem State.medCnt_field (s : State) (m i : Nat) : (s.medCnt m i).field = s.field ∧ (s.medCnt m i).mem = s.mem ∧
    (s.medCnt m i).peg = s.peg := by
  unfold State.medCnt
  split
  · exact ⟨rfl, rfl, rfl⟩
  · split <;> exact ⟨rfl, rfl, rfl⟩

theorem State.dropClaim_spec (s : State) {cl : Claim} (m st : Nat) (hport : cl.port < 32) :
    (s.dropClaim cl m st).field = { s.field with lastDrop := (cl.queue, st) } ∧ (s.dropClaim cl m st).mem = s.mem ∧
      (s.dropClaim cl m st).peg.claims.find cl.queue = none := by
  unfold State.dropClaim
  extract_lets u v
  have hu : u.field = s.field ∧ u.mem = s.mem := by
    simp only [u]
    split <;> exact ⟨rfl, rfl⟩
  obtain ⟨hfield, hmem, -⟩ := u.medCnt_field m 7
  obtain ⟨hkept, hclaims⟩ := (u.medCnt m 7).releaseClaim_memClaims cl
  have hvfield : v.field = s.field := (PegFrame.releaseClaim (u.medCnt m 7) hport).field.trans (hfield.trans hu.1)
  refine ⟨?_, hkept.trans (hmem.trans hu.2), ?_⟩
  · exact congrArg (fun x : FieldState => { x with lastDrop := (cl.queue, st) }) hvfield
  · have hv : v.peg.claims.find cl.queue = none := by
      rw [show v.peg.claims = _ from hclaims, AMap.find_erase_same]
    exact hv

theorem exec_frameTransmit_drop {e : BitVec 14} {fl : Fin 32} (us : BitVec 32) (i : Fin 80) {p : Bool} {cl : Claim} {s : State}
    (hheld : s.heldClaim 27 (downQueue e.toNat fl) = some cl) (hqueue : cl.queue = downQueue e.toNat fl)
    (hdrop : p = true ∨ 2027 < cl.len) : ∃ t, exec (.frameTransmit e fl us i p) s = .next t ∧
      t.heldClaim 27 (downQueue e.toNat fl) = none ∧
      t.field = { s.field with lastDrop := (cl.queue, if p then stPOISON else stBAD) } ∧ MemKept s t := by
  have hport : cl.port < 32 := by rw [PegFrame.port_of_heldClaim hheld]; decide
  obtain ⟨m, heff⟩ : ∃ m, s.frameTransmit e.toNat fl us.toNat i p = s.dropClaim cl m (if p then stPOISON else stBAD) := by
    unfold State.frameTransmit
    rw [hheld]
    dsimp -zeta only
    extract_lets m
    refine ⟨m, ?_⟩
    cases p with
    | true => rfl
    | false => exact if_pos (hdrop.resolve_left (by simp))
  obtain ⟨hfield, hmem, hclaims⟩ := s.dropClaim_spec (cl := cl) m (if p then stPOISON else stBAD) hport
  refine ⟨_, congrArg (finish s) heff, State.heldClaim_none ?_, (s.ended_field _).trans hfield, State.ended_memKept hmem⟩
  rw [← hqueue, ← hclaims]
  exact congrArg (fun x : PegState => x.claims.find cl.queue) (s.ended_peg _)

/-! ## A packet for a node on carrier (R156, R159) -/

/-- The machine once the next downlink counter of `e` is taken. -/
def State.countedDown (s : State) (e : Nat) : State :=
  if 2 ^ 31 ≤ s.nd e 60 4 + 1 then (s.setNd e 60 4 (s.nd e 60 4 + 1)).startMove e else s.setNd e 60 4 (s.nd e 60 4 + 1)

theorem State.nextFcnt_some {s : State} {e : Nat} (hlast : s.nd e 60 4 < 0xFFFFFFF0)
    (hfloor : (s.nd e 60 4 + 1) / 65536 * 65536 ≤ s.floor e false 0) :
    s.nextFcnt e = (some (s.nd e 60 4 + 1), s.countedDown e) := by
  have hok : s.fcntOk e 0 (s.nd e 60 4 + 1) = (some (s.nd e 60 4 + 1), s) :=
    (if_neg (by omega)).trans (if_neg (by omega))
  unfold State.nextFcnt
  extract_lets f
  rw [hok]
  rfl

theorem State.startMove_same (s : State) (e : Nat) : (s.startMove e).regs = s.regs ∧ (s.startMove e).mem = s.mem ∧
    (s.startMove e).key.root = s.key.root ∧ (s.startMove e).moduleId = s.moduleId ∧ (s.startMove e).field = s.field ∧
      (s.startMove e).out = s.out := by
  unfold State.startMove
  split
  · exact ⟨rfl, rfl, rfl, rfl, rfl, rfl⟩
  · split <;> exact ⟨rfl, rfl, rfl, rfl, rfl, rfl⟩

/-- The counter taken is the only change that a frame shows. -/
theorem State.countedDown_same (s : State) (e : Nat) : (s.countedDown e).regs = s.regs ∧
    (s.countedDown e).mem = (s.setNd e 60 4 (s.nd e 60 4 + 1)).mem ∧ (s.countedDown e).key.root = s.key.root ∧
      (s.countedDown e).moduleId = s.moduleId ∧ (s.countedDown e).field = s.field ∧ (s.countedDown e).out = s.out := by
  unfold State.countedDown
  split
  · exact (s.setNd e 60 4 (s.nd e 60 4 + 1)).startMove_same e
  · exact ⟨rfl, rfl, rfl, rfl, rfl, rfl⟩

/-- The frame that carries the packet under claim `cl` to a joined node under its present key. -/
def State.dataFrameTo (s : State) (cl : Claim) (e flow : Nat) : FieldFrame :=
  (s.countedDown e).frameTo 1 e flow true ((s.countedDown e).moreFor e flow) cl.exp ((s.countedDown e).nd e 56 1) (s.nd e 60 4 + 1)
    (s.keyData e) (s.claimOctets cl)

/-- The machine once the frame of a packet has left in allocation `a`. -/
def State.dataSent (s : State) (cl : Claim) (e flow m : Nat) (a : Alloc) (i us : Nat) : State :=
  ((s.countedDown e).setNd e 56 1 ((s.countedDown e).nd e 56 1 + 1)).sendToNode e m a i us false (s.dataFrameTo cl e flow)

theorem State.transmitNode_carrier {s : State} {cl : Claim} {e flow us i : Nat} {a : Alloc} (hmedium : s.ndMedium e < 12)
    (hkey : s.keyUp (s.keyData e) = true) (halloc : s.allocOf (s.ndMedium e) e i = some a)
    (hholds : allocHolds a (s.ndMedium e) i us = true) (hawake : s.asleep e (s.slotStart (s.ndMedium e) a.first.toNat) = false)
    (hmoves : s.key.moves.find e = none) (htxs : s.field.txs.find e = none) (hlast : s.nd e 60 4 < 0xFFFFFFF0)
    (hfloor : (s.nd e 60 4 + 1) / 65536 * 65536 ≤ s.floor e false 0) (hflow : 2 ≤ flow) :
    s.transmitNode cl e flow us i =
      (s.dataSent cl e flow (s.ndMedium e) a i us).setField { (s.dataSent cl e flow (s.ndMedium e) a i us).field with
        txs := (s.dataSent cl e flow (s.ndMedium e) a i us).field.txs.set e
          ⟨cl.queue, cl.id, cl.first, s.dataFrameTo cl e flow, s.ndMedium e, 0, false⟩ } := by
  unfold State.transmitNode
  extract_lets m moving k
  have hmoving : moving = false := by simp [moving, hmoves]
  have hk : k = s.keyData e := by simp only [k, hmoving]; rfl
  rw [show s.allocOf m e i = some a from halloc]
  dsimp -zeta only
  extract_lets wake
  have hwake : wake = false := hawake
  rw [if_neg (by simp [hk, hkey, htxs, hwake, show allocHolds a m i us = true from hholds])]
  have hair : s.airtime m a.first.toNat us wake (flow == 0) 1 = some s := by rw [State.airtime, mediumRadio_carrier hmedium]
  have hstamp : (s.countedDown e).stampCmd e flow (s.claimOctets cl) = (s.claimOctets cl, s.countedDown e) :=
    if_neg (by omega)
  rw [hair]
  dsimp -zeta only
  rw [hmoving, if_neg (by simp), State.nextFcnt_some hlast hfloor]
  dsimp -zeta only
  rw [hstamp, hwake, hk]
  rfl

/-- The fields of a node's entry that a data frame to it writes. -/
def ndDown : List (Nat × Nat) := [(60, 4), (56, 1), (128, 4), (48, 8)]

theorem fplcCnt_inBlock {m i : Nat} (hm : m < 12) (hi : i < 8) : inBlock bFPLC (F.FPLC_CNT_COUNT m i).key = true :=
  decide_eq_true (by simp only [blockBase, bFPLC, blockNo, Fld.key, F.FPLC_CNT_COUNT]; omega)

theorem FieldStep.countedDown {K : Nat → Bool} {W : Nat → Prop} (s : State) {e : Nat} (hW : ∀ a, W a → OffNd e [(60, 4)] a) :
    FieldStep K W s (s.countedDown e) := by
  have hset : FieldStep K W s (s.setNd e 60 4 (s.nd e 60 4 + 1)) := .setNd s (fun a ha => hW a ha (60, 4) (by decide)) _
  unfold State.countedDown
  split
  · exact hset.trans (.startMove _ e)
  · exact hset

section
variable {s : State} (cl : Claim) {e flow m : Nat} (a : Alloc) (i us : Nat) (hm : m < 12)
include hm

theorem State.dataSent_step : FieldStep (inBlock bFPLC) (OffNd e ndDown) s (s.dataSent cl e flow m a i us) :=
  ((FieldStep.countedDown s fun _ ha => ha.mono (by decide)).trans (.setNd _ (fun _ ha => ha (56, 1) (by decide)) _)).trans
    (.sendToNode_awake _ a i us _ hm (fplcCnt_inBlock hm (by decide)) fun _ ha => ha.mono (by decide))

theorem State.dataSent_count (hlast : s.nd e 60 4 < 0xFFFFFFF0) : (s.dataSent cl e flow m a i us).nd e 60 4 = s.nd e 60 4 + 1 := by
  have hcount : (s.countedDown e).nd e 60 4 = (s.nd e 60 4 + 1) % 2 ^ 32 := by
    rw [State.nd, State.rdMem, (s.countedDown_same e).2.1]
    exact State.nd_setNd_same s e 60 4 _
  have hsend : FieldStep (inBlock bFPLC) (OffNd e [(128, 4), (48, 8)])
      ((s.countedDown e).setNd e 56 1 ((s.countedDown e).nd e 56 1 + 1)) (s.dataSent cl e flow m a i us) :=
    .sendToNode_awake _ a i us _ hm (fplcCnt_inBlock hm (by decide)) fun _ ha => ha
  rw [hsend.nd (by decide), State.nd_setNd_other _ _ _ (by decide), hcount, Nat.mod_eq_of_lt (by omega)]

theorem State.dataSent_out (he : e < 16384) : (s.dataSent cl e flow m a i us).out = s.carrierOut m (s.dataFrameTo cl e flow) :: s.out := by
  obtain ⟨hregs, hmem, hroot, hmod, hfield, hout⟩ := s.countedDown_same e
  have hcounted : FieldStep (inBlock bFPLC) (OffNd e [(60, 4)]) s (s.countedDown e) := .countedDown s fun _ ha => ha
  have hslot : (s.dataFrameTo cl e flow).slot.toNat = e := (BitVec.toNat_ofNat ..).trans (Nat.mod_eq_of_lt he)
  unfold State.dataSent
  generalize s.dataFrameTo cl e flow = f at hslot
  generalize s.countedDown e = u at hregs hroot hmod hfield hout hcounted
  have hset : FieldStep (inBlock bFPLC) (OffNd e [(56, 1)]) u (u.setNd e 56 1 (u.nd e 56 1 + 1)) :=
    .setNd u (fun _ ha => ha (56, 1) (by decide)) _
  have hstep := (hcounted.widen (m := [(60, 4), (56, 1)]) (by decide)).trans (hset.widen (by decide))
  rw [State.sendToNode_awake_out hm, State.carrierOut_congr (s := s) (t := u.setNd e 56 1 (u.nd e 56 1 + 1)) m f hregs hroot hmod (congrArg FieldState.tones hfield)
    (by rw [hslot]; exact hstep.nd (o := 0) (by decide)) (by rw [hslot]; exact hstep.nd (by decide))]
  exact congrArg _ hout

end

/-- A packet that may go to its node is handed to the transmitter. -/
theorem State.frameTransmit_node {s : State} {e flow us i : Nat} {cl : Claim} (hheld : s.heldClaim 27 (downQueue e flow) = some cl)
    (hlen : cl.len ≤ 2027) (hmay : s.mayTransmit = true) (he : e < 16320) (hstate : s.ndState e = 2)
    (hup : s.mediumUp (s.ndMedium e) = true) (hacked : s.field.acked.contains (cl.queue, cl.first) = false)
    (hfirst : s.servedFirst e flow = false) (himage : flow = 4 → bitAt (s.nd e 17 1) 2 = false) :
    s.frameTransmit e flow us i false = s.transmitNode cl e flow us i := by
  unfold State.frameTransmit
  rw [hheld]
  dsimp -zeta only
  extract_lets m
  have hm : m = s.ndMedium e := if_pos he
  have himg : ¬ (flow = 4 ∧ e < 16320 ∧ bitAt (s.nd e 17 1) 2 = true) := fun ⟨h4, _, hbit⟩ =>
    Bool.false_ne_true ((himage h4).symm.trans hbit)
  rw [if_neg (by simp), if_neg (by omega), if_neg (fun h => Bool.false_ne_true (hacked.symm.trans h)),
    if_neg (by simp only [hmay, hfirst, not_true_eq_false, Bool.false_eq_true, false_or]; exact himg), if_pos he,
    if_pos ⟨hstate, by rw [hm]; exact hup⟩]

theorem exec_frameTransmit_node {e : BitVec 14} {fl : Fin 32} {us : BitVec 32} {i : Fin 80} {cl : Claim} {a : Alloc} {s : State}
    (hheld : s.heldClaim 27 (downQueue e.toNat fl) = some cl) (hlen : cl.len ≤ 2027) (hmay : s.mayTransmit = true)
    (he : e.toNat < 16320) (hstate : s.ndState e.toNat = 2) (hm : s.ndMedium e.toNat < 12)
    (hup : s.mediumUp (s.ndMedium e.toNat) = true) (hkey : s.keyUp (s.keyData e.toNat) = true)
    (hacked : s.field.acked.contains (cl.queue, cl.first) = false) (hfirst : s.servedFirst e.toNat fl = false)
    (himage : fl.val = 4 → bitAt (s.nd e.toNat 17 1) 2 = false) (halloc : s.allocOf (s.ndMedium e.toNat) e.toNat i = some a)
    (hholds : allocHolds a (s.ndMedium e.toNat) i us.toNat = true)
    (hawake : s.asleep e.toNat (s.slotStart (s.ndMedium e.toNat) a.first.toNat) = false)
    (hmoves : s.key.moves.find e.toNat = none) (htxs : s.field.txs.find e.toNat = none) (hlast : s.nd e.toNat 60 4 < 0xFFFFFFF0)
    (hfloor : (s.nd e.toNat 60 4 + 1) / 65536 * 65536 ≤ s.floor e.toNat false 0) (hflow : 2 ≤ fl.val) :
    ∃ t f l x, exec (.frameTransmit e fl us i false) s = .next t ∧
        t.out = .field (s.ndMedium e.toNat) 0 (-(s.rd (F.FPLC_TX_ATTEN_DB (s.ndMedium e.toNat)) : Int)) f l
          (.carrier (s.carrierTx (s.ndMedium e.toNat) e.toNat (s.toneOf f) l)) :: s.out ∧
        l = frameOctets (s.frameKey f) f ∧ f.modId.toNat = s.moduleId % 2 ^ 14 ∧ f.ver = 1 ∧ f.up = false ∧ f.sec = true ∧
        f.keyIdx.toNat = s.keyData e.toNat ∧ f.slot.toNat = e.toNat ∧ f.flow.toNat = fl.val ∧
        f.fcnt.toNat = s.nd e.toNat 60 4 + 1 ∧ f.ackReq = true ∧
        f.payload = s.claimOctets cl ∧ t.nd e.toNat 60 4 = s.nd e.toNat 60 4 + 1 ∧
        t.field.txs.find e.toNat = some x ∧ x.queue = cl.queue ∧ x.claim = cl.id ∧ x.frame = f ∧ x.tries = 0 ∧
        BlocksKept [bFPLC] s t ∧ EntryAlone e.toNat s t := by
  have heff := (State.frameTransmit_node (us := us.toNat) (i := i.val) hheld hlen hmay he hstate hup hacked hfirst himage).trans
    (State.transmitNode_carrier hm hkey halloc hholds hawake hmoves htxs hlast hfloor hflow)
  have hstep := State.dataSent_step (s := s) cl (e := e.toNat) (flow := fl.val) a i.val us.toNat hm
  have hcount := State.dataSent_count (s := s) cl (flow := fl.val) a i.val us.toNat hm hlast
  have hout := State.dataSent_out (s := s) cl (flow := fl.val) a i.val us.toNat hm (he.trans (by decide))
  have hslot : (s.dataFrameTo cl e.toNat fl).slot.toNat = e.toNat := (BitVec.toNat_ofNat ..).trans (Nat.mod_eq_of_lt (by omega))
  have hmod : (s.dataFrameTo cl e.toNat fl).modId.toNat = s.moduleId % 2 ^ 14 :=
    (BitVec.toNat_ofNat ..).trans (congrArg (· % 2 ^ 14) (s.countedDown_same e.toNat).2.2.2.1)
  have hkeyIdx : (s.dataFrameTo cl e.toNat fl).keyIdx.toNat = s.keyData e.toNat :=
    (BitVec.toNat_ofNat ..).trans (Nat.mod_eq_of_lt ((Nat.mod_lt _ (by decide)).trans (by decide)))
  have hflowNo : (s.dataFrameTo cl e.toNat fl).flow.toNat = fl.val :=
    (BitVec.toNat_ofNat ..).trans (Nat.mod_eq_of_lt (fl.isLt.trans (by decide)))
  have hfcnt : (s.dataFrameTo cl e.toNat fl).fcnt.toNat = s.nd e.toNat 60 4 + 1 :=
    (BitVec.toNat_ofNat ..).trans (Nat.mod_eq_of_lt (by omega))
  have hfixed : (s.dataFrameTo cl e.toNat fl).ver = 1 ∧ (s.dataFrameTo cl e.toNat fl).up = false ∧
    (s.dataFrameTo cl e.toNat fl).sec = true ∧ (s.dataFrameTo cl e.toNat fl).ackReq = true ∧
      (s.dataFrameTo cl e.toNat fl).payload = s.claimOctets cl := ⟨rfl, rfl, rfl, rfl, rfl⟩
  obtain ⟨hver, hup', hsec, hack, hpayload⟩ := hfixed
  rw [State.carrierOut, hslot] at hout
  generalize s.dataFrameTo cl e.toNat fl = f at *
  generalize s.dataSent cl e.toNat fl (s.ndMedium e.toNat) a i us.toNat = u at *
  refine ⟨s.ended _, f, frameOctets (s.frameKey f) f, ⟨cl.queue, cl.id, cl.first, f, s.ndMedium e.toNat, 0, false⟩, congrArg (finish s) heff, (s.ended_out _).trans hout, rfl, hmod, hver,
    hup', hsec, hkeyIdx, hslot, hflowNo, hfcnt, hack, hpayload, (State.ended_nd ..).trans hcount, ?_, rfl, rfl, rfl, rfl,
    State.ended_blocksKept fun g hg => hstep.rd g (hg _ List.mem_cons_self), State.ended_entryAlone (hstep.entryAlone (by decide))⟩
  exact (congrArg (fun x : FieldState => x.txs.find e.toNat) (s.ended_field _)).trans (AMap.find_set_same _ _ _)

end Sys2Proof.Machine
end

section
/-!
PROOFS. ACKs and time-outs of frames to nodes, floors and moves (R140, R156, R160, R171, R456).
-/
namespace Sys2Proof.Machine

/-! ## The packet of an ACKed frame (R140) -/

section
variable (s : State)

theorem State.drift_peg (e : Nat) (measured : Int) (b : Bool) : (s.drift e measured b).peg = s.peg := by
  have hset : ∀ (t : State) (o n v : Nat), (t.setNd e o n v).peg = t.peg := fun _ _ _ _ => rfl
  unfold State.drift
  extract_lets dt reset theta psi nupd base psi' s1 s2 s3 s4 s5
  exact (State.setField_peg s5 _).trans ((hset s4 _ _ _).trans ((hset s3 _ _ _).trans ((hset s2 _ _ _).trans
    ((hset s1 _ _ _).trans (hset s _ _ _)))))

end

theorem State.txClaim_congr {s t : State} (h : t.peg = s.peg) (x : Tx) : t.txClaim x = s.txClaim x := by
  simp only [State.txClaim, State.heldClaim, h]

theorem State.heldClaim_of_txClaim {s : State} {x : Tx} {cl : Claim} (h : s.txClaim x = some cl) :
    s.heldClaim 27 x.queue = some cl := by
  unfold State.txClaim at h
  split at h
  case h_1 c hc =>
    split at h
    · rw [hc, Option.some.inj h]
    · cases h
  case h_2 => cases h

/-- A frame whose packet port 27 still holds is over: the packet is released. -/
theorem State.txDone_spec {s : State} {e : Nat} {x : Tx} {cl : Claim} (hclaim : s.txClaim x = some cl) :
    (s.txDone e x).field.txs = s.field.txs.erase e ∧ (s.txDone e x).mem = s.mem ∧
      (s.txDone e x).peg.claims = s.peg.claims.erase cl.queue ∧
      ∀ g : Fld, pegKey g.key = false → (s.txDone e x).rd g = s.rd g := by
  have hport : cl.port < 32 := by rw [PegFrame.port_of_heldClaim (State.heldClaim_of_txClaim hclaim)]; decide
  unfold State.txDone
  extract_lets _ u
  have hu : u.txClaim x = some cl := hclaim
  rw [hu]
  dsimp -zeta only
  obtain ⟨hmem, hclaims⟩ := u.releaseClaim_memClaims cl
  have hframe := PegFrame.releaseClaim u hport
  exact ⟨congrArg FieldState.txs hframe.field, hmem, hclaims, fun g hg => hframe.rd g hg⟩

/-- What a fresh ACK leaves: the frame accepted and measured, and its packet released. -/
theorem State.ackReceived_spec {s : State} {m : Byte} {rx : FieldRx} {f : FieldFrame} {x : Tx} {cl : Claim}
    (h : FrameFrom s m 2 rx f) (hfc : s.nd f.slot.toNat 64 4 < f.fcnt.toNat) (htx : s.field.txs.find f.slot.toNat = some x)
    (hseq : x.frame.seq = f.seq) (hmoving : x.moving = false) (hclaim : s.txClaim x = some cl) (hqueue : cl.queue = x.queue) :
    (s.ackReceived m.toNat rx).field.txs.find f.slot.toNat = none ∧ (s.ackReceived m.toNat rx).heldClaim 27 x.queue = none ∧
      (s.ackReceived m.toNat rx).nd f.slot.toNat 64 4 = f.fcnt.toNat ∧ EntryAlone f.slot.toNat s (s.ackReceived m.toNat rx) := by
  obtain ⟨haccept, hcount, -, hpeg⟩ := s.rxAccept_spec (K := airKey) (fun _ hk => hk) m.toNat rx (state_of_frameFrom h) (key_of_frameFrom h)
  unfold State.ackReceived
  rw [State.received_fresh (n := 2) rfl h hfc]
  dsimp -zeta only
  extract_lets e old u v _ w
  have hdrift : FieldStep airKey (OffNd e ndDrift) u v := .drift _ (fun _ ha => ha) _ _
  have hw : FieldStep airKey (fun _ => True) v w ∧ w.peg = v.peg := by
    clear_value v
    simp only [w]
    split
    · split
      · exact ⟨.setField v _ rfl, State.setField_peg v _⟩
      · exact ⟨.refl v, Eq.refl v.peg⟩
    · exact ⟨.refl v, Eq.refl v.peg⟩
  obtain ⟨hw, hwpeg⟩ := hw
  have htxs : w.field.txs = s.field.txs := hw.txs.trans (hdrift.txs.trans haccept.txs)
  have hvpeg : v.peg = u.peg := u.drift_peg e rx.info.measured false
  have hwclaim : w.txClaim x = some cl := (State.txClaim_congr (hwpeg.trans (hvpeg.trans hpeg)) x).trans hclaim
  obtain ⟨hdone, hmem, hclaims, -⟩ := State.txDone_spec (e := e) hwclaim
  have hheld : (w.txDone e x).heldClaim 27 x.queue = none :=
    State.heldClaim_none (by rw [hclaims, hqueue, AMap.find_erase_same])
  rw [htxs, show s.field.txs.find e = some x from htx]
  dsimp -zeta only
  rw [if_pos hseq]
  extract_lets y
  rw [if_neg (by simp [hmoving])]
  have hall : FieldStep airKey (OffNd e (ndAccept ++ ndDrift)) s w :=
    ((haccept.widen (by decide)).trans (hdrift.widen (by decide))).trans (hw.mono (fun _ hk => hk) fun _ _ => trivial)
  refine ⟨?_, hheld, ?_, fun a ha => ?_⟩
  · rw [hdone, AMap.find_erase_same]
  · have hkept : w.nd e 64 4 = f.fcnt.toNat := (hw.rdMem fun _ _ => trivial).trans ((hdrift.nd (by decide)).trans hcount)
    rw [← hkept, State.nd, State.rdMem, hmem, State.nd, State.rdMem]
  · rw [State.rd8, hmem]
    exact hall.entryAlone (by decide) a ha

/-! ## Time-outs (R140, R156, R171) -/

/-- The machine once the frame of `x` has left again. -/
def State.repeated (s : State) (e : Nat) (x : Tx) (a : Alloc) (i us : Nat) : State :=
  ((s.sendToNode e x.medium a i us false x.frame).medCnt x.medium 5).ndCnt e 2

theorem State.repeated_spec (s : State) (e : Nat) {x : Tx} (a : Alloc) (i us : Nat) (hm : x.medium < 12) :
    (s.repeated e x a i us).out = s.carrierOut x.medium x.frame :: s.out ∧
      (s.repeated e x a i us).nd e 136 4 = (s.nd e 136 4 + 1) % 2 ^ 32 ∧
      FieldStep (inBlock bFPLC) (OffNd e [(128, 4), (48, 8), (136, 4)]) s (s.repeated e x a i us) := by
  have hsent : FieldStep (inBlock bFPLC) (OffNd e [(128, 4), (48, 8)]) s (s.sendToNode e x.medium a i us false x.frame) :=
    .sendToNode_awake s a i us x.frame hm (fplcCnt_inBlock hm (by decide)) fun _ ha => ha
  have hout := State.sendToNode_awake_out hm s e a i us x.frame
  unfold State.repeated
  generalize s.sendToNode e x.medium a i us false x.frame = u at hsent hout
  have hcnt : FieldStep (inBlock bFPLC) (fun _ => True) u (u.medCnt x.medium 5) :=
    .medCnt_carrier u hm (fplcCnt_inBlock hm (by decide))
  have hcntOut := u.medCnt_out x.medium 5
  generalize u.medCnt x.medium 5 = v at hcnt hcntOut
  have hv : FieldStep (inBlock bFPLC) (OffNd e [(128, 4), (48, 8)]) s v := hsent.trans (hcnt.mono (fun _ hk => hk) fun _ _ => trivial)
  refine ⟨hcntOut.trans hout, ?_, (hv.widen (by decide)).trans (.ndCnt v fun _ ha => ha.mono (by decide))⟩
  rw [State.ndCnt, State.nd_setNd_same, hv.nd (by decide)]

section
variable {e : BitVec 14} {us : BitVec 32} {i : Fin 80} {x : Tx} {s : State} (htx : s.field.txs.find e.toNat = some x)
include htx

theorem exec_ackTimeout_repeat {cl : Claim} {a : Alloc} (hm : x.medium < 12) (hclaim : s.txClaim x = some cl)
    (htries : x.tries < s.rd F.FPLC_RETRY_LIMIT) (hup : s.mediumUp x.medium = true) (hmay : s.mayTransmit = true)
    (hawake : bitAt (s.nd e.toNat 17 1) 0 = false) (halloc : s.allocOf x.medium e.toNat i = some a)
    (hholds : allocHolds a x.medium i us.toNat = true) : ∃ t l, exec (.ackTimeout e us i) s = .next t ∧
        t.out = .field x.medium 0 (-(s.rd (F.FPLC_TX_ATTEN_DB x.medium) : Int)) x.frame l
          (.carrier (s.carrierTx x.medium x.frame.slot.toNat (s.toneOf x.frame) l)) :: s.out ∧
        l = frameOctets (s.frameKey x.frame) x.frame ∧ t.field.txs.find e.toNat = some { x with tries := x.tries + 1 } ∧
        t.nd e.toNat 136 4 = (s.nd e.toNat 136 4 + 1) % 2 ^ 32 ∧ BlocksKept [bFPLC] s t ∧ EntryAlone e.toNat s t := by
  have hlimit : s.retryLimit x.medium = s.rd F.FPLC_RETRY_LIMIT := by rw [State.retryLimit, mediumRadio_carrier hm]
  have heff : s.ackTimeout e.toNat us.toNat i = (s.repeated e.toNat x a i us.toNat).setField
      { (s.repeated e.toNat x a i us.toNat).field with
        txs := (s.repeated e.toNat x a i us.toNat).field.txs.set e.toNat { x with tries := x.tries + 1 } } := by
    unfold State.ackTimeout
    rw [htx]
    dsimp -zeta only
    rw [hclaim]
    dsimp -zeta only
    rw [if_pos (by rw [hlimit]; exact htries)]
    unfold State.repeatFrame
    extract_lets wake
    have hwake : wake = false := hawake
    rw [halloc]
    dsimp -zeta only
    rw [if_neg (by simp [hup, hmay, hholds, hwake]), hwake,
      show s.airtime x.medium a.first.toNat us.toNat false (x.frame.flow == 0) 1 = some s by
        rw [State.airtime, mediumRadio_carrier hm]]
    rfl
  obtain ⟨hout, hcount, hstep⟩ := s.repeated_spec e.toNat a i us.toNat hm
  generalize s.repeated e.toNat x a i us.toNat = u at *
  refine ⟨s.ended _, frameOctets (s.frameKey x.frame) x.frame, congrArg (finish s) heff, (s.ended_out _).trans hout, rfl, ?_,
    (State.ended_nd ..).trans hcount, State.ended_blocksKept fun g hg => hstep.rd g (hg _ List.mem_cons_self),
    State.ended_entryAlone (hstep.entryAlone (by decide))⟩
  exact (congrArg (fun y : FieldState => y.txs.find e.toNat) (s.ended_field _)).trans (AMap.find_set_same _ _ _)

theorem exec_ackTimeout_dropped {cl : Claim} (hm : x.medium < 12) (hclaim : s.txClaim x = some cl)
    (htries : s.rd F.FPLC_RETRY_LIMIT ≤ x.tries) (hmoving : x.moving = false) :
    ∃ t, exec (.ackTimeout e us i) s = .next t ∧ t.field.txs.find e.toNat = none ∧
        t.rd (F.FPLC_CNT_COUNT x.medium 6) = (s.rd (F.FPLC_CNT_COUNT x.medium 6) + 1) % 2 ^ 32 ∧
        t.nd e.toNat 140 4 = (s.nd e.toNat 140 4 + 1) % 2 ^ 32 ∧ EntryAlone e.toNat s t := by
  have hlimit : s.retryLimit x.medium = s.rd F.FPLC_RETRY_LIMIT := by rw [State.retryLimit, mediumRadio_carrier hm]
  have heff : s.ackTimeout e.toNat us.toNat i = ((s.medCnt x.medium 6).ndCnt e.toNat 3).txDone e.toNat x := by
    unfold State.ackTimeout
    rw [htx]
    dsimp -zeta only
    rw [hclaim]
    dsimp -zeta only
    rw [if_neg (by rw [hlimit]; omega), if_neg (by simp [hmoving])]
  have hcnt : FieldStep (inBlock bFPLC) (fun _ => True) s (s.medCnt x.medium 6) :=
    .medCnt_carrier s hm (fplcCnt_inBlock hm (by decide))
  have hshown : (s.medCnt x.medium 6).rd (F.FPLC_CNT_COUNT x.medium 6) = (s.rd (F.FPLC_CNT_COUNT x.medium 6) + 1) % 2 ^ 32 := by
    rw [State.medCnt, if_pos hm, State.inc, State.rd_wr_same]
    rfl
  have hpeg := s.medCnt_peg x.medium 6
  generalize s.medCnt x.medium 6 = u at hcnt hshown hpeg heff
  have hnd : FieldStep (inBlock bFPLC) (OffNd e.toNat [(140, 4)]) u (u.ndCnt e.toNat 3) := .ndCnt u fun _ ha => ha
  have hcount : (u.ndCnt e.toNat 3).nd e.toNat 140 4 = (s.nd e.toNat 140 4 + 1) % 2 ^ 32 := by
    rw [State.ndCnt, State.nd_setNd_same, State.nd, hcnt.rdMem fun _ _ => trivial]
    rfl
  have hrd : (u.ndCnt e.toNat 3).rd (F.FPLC_CNT_COUNT x.medium 6) = u.rd (F.FPLC_CNT_COUNT x.medium 6) := State.wrMem_rd ..
  have hvpeg : (u.ndCnt e.toNat 3).peg = u.peg := State.wrMem_peg ..
  generalize u.ndCnt e.toNat 3 = v at hnd hcount hrd hvpeg heff
  obtain ⟨hdone, hmem, -, hkept⟩ := State.txDone_spec (e := e.toNat) ((State.txClaim_congr (hvpeg.trans hpeg) x).trans hclaim)
  have hoff : pegKey (F.FPLC_CNT_COUNT x.medium 6).key = false := by
    simp [pegKey, inBlock, blockBase, bPEG, bREC, blockNo, Fld.key, F.FPLC_CNT_COUNT, F.HCP_EVT_STAT_DROPPED,
      F.HCP_EVT_STAT_PENDING]
    omega
  have hstep := (hcnt.mono (V := OffNd e.toNat [(140, 4)]) (fun _ hk => hk) fun _ _ => trivial).trans hnd
  refine ⟨s.ended _, congrArg (finish s) heff, ?_, ?_, ?_, State.ended_entryAlone fun a ha => ?_⟩
  · refine (congrArg (fun y : FieldState => y.txs.find e.toNat) (s.ended_field _)).trans ?_
    rw [hdone, AMap.find_erase_same]
  · refine (State.ended_rd _ _ (Fld.notRun (by simp only [F.FPLC_CNT_COUNT]; omega))).trans ?_
    rw [hkept _ hoff, hrd, hshown]
  · rw [State.ended_nd, ← hcount, State.nd, State.rdMem, hmem, State.nd, State.rdMem]
  · rw [State.rd8, hmem]
    exact hstep.entryAlone (by decide) a ha

theorem exec_ackTimeout_requeued (hclaim : s.txClaim x = none) : ∃ t, exec (.ackTimeout e us i) s = .next t ∧
    t.field.txs.find e.toNat = none ∧ t.out = s.out ∧ RegsKept [] s t ∧ MemKept s t := by
  have heff : s.ackTimeout e.toNat us.toNat i = s.setField { s.field with txs := s.field.txs.erase e.toNat } := by
    unfold State.ackTimeout
    rw [htx]
    dsimp -zeta only
    rw [hclaim]
  refine ⟨_, congrArg (finish s) heff, ?_, s.ended_out _, State.ended_regsKept fun _ _ => rfl, State.ended_memKept rfl⟩
  exact (congrArg (fun y : FieldState => y.txs.find e.toNat) (s.ended_field _)).trans (AMap.find_erase_same _ _)

end

theorem exec_ackReceived {m : Byte} {rx : FieldRx} {f : FieldFrame} {x : Tx} {cl : Claim} {s : State}
    (h : FrameFrom s m 2 rx f) (hfc : s.nd f.slot.toNat 64 4 < f.fcnt.toNat) (htx : s.field.txs.find f.slot.toNat = some x)
    (hseq : x.frame.seq = f.seq) (hmoving : x.moving = false) (hclaim : s.txClaim x = some cl) (hqueue : cl.queue = x.queue) :
    ∃ t, exec (.ackReceived m rx) s = .next t ∧ t.field.txs.find f.slot.toNat = none ∧
      t.heldClaim 27 x.queue = none ∧ t.nd f.slot.toNat 64 4 = f.fcnt.toNat ∧ EntryAlone f.slot.toNat s t := by
  obtain ⟨htxs, hheld, hcount, halone⟩ := State.ackReceived_spec h hfc htx hseq hmoving hclaim hqueue
  refine ⟨s.ended (s.ackReceived m.toNat rx), rfl, ?_, ?_, (State.ended_nd ..).trans hcount, State.ended_entryAlone halone⟩
  · exact (congrArg (fun y : FieldState => y.txs.find f.slot.toNat) (s.ended_field _)).trans htxs
  · rw [← hheld, State.heldClaim, State.heldClaim, State.ended_peg]

/-! ## Floors and moves (R160, R456) -/

theorem State.floor_of_jid {s : State} {e r j : Nat} {up : Bool} (h : s.jid = some j) :
    s.floor e up r = s.jrn.floors.get (j * 2 ^ 20 + floorKey e up r) 0 := by
  rw [State.floor, h]

theorem exec_floorRecordWritten {e : BitVec 14} {up : Bool} {r : Fin 4} {m j : Nat} {s : State}
    (hdue : s.field.floorDue.find (floorKey e.toNat up r) = some m) (hjid : s.jid = some j) (hup : s.jrnUp = true) :
    ∃ t, exec (.floorRecordWritten e up r) s = .next t ∧ t.floor e.toNat up r = m ∧
      t.field.floorDue.find (floorKey e.toNat up r) = none ∧ RegsKept [] s t ∧ MemKept s t := by
  let w (k : Nat) : State := { s with
    jrn := { s.jrn with floors := s.jrn.floors.set k m }
    field := { s.field with floorDue := s.field.floorDue.erase (floorKey e.toNat up r) } }
  have heff : s.floorWritten e.toNat up r = w (j * 2 ^ 20 + floorKey e.toNat up r) := by
    unfold State.floorWritten
    rw [hdue, hjid]
    exact if_pos hup
  have hfloor : ∀ k, (s.ended (w k)).jrn.floors.get k 0 = m := fun k => by
    rw [State.ended_jrn]
    exact AMap.get_set_same ..
  have hj : ∀ k, (s.ended (w k)).jid = some j := fun k => by
    rw [← hjid, State.jid, State.ended_sys, State.ended_rd _ _ (Fld.notRun (by decide))]
    rfl
  refine ⟨s.ended (w _), congrArg (finish s) heff, ?_, ?_, State.ended_regsKept fun _ _ => rfl, State.ended_memKept rfl⟩
  · exact (State.floor_of_jid (hj _)).trans (hfloor _)
  · exact (congrArg (fun y : FieldState => y.floorDue.find (floorKey e.toNat up r)) (s.ended_field _)).trans (AMap.find_erase_same _ _)

theorem exec_moveRetry {e : BitVec 14} {n : Nat} {s : State} (hmove : s.key.moves.find e.toNat = some 1) (hsince : 3600 ≤ n) :
    ∃ t, exec (.moveRetry e n) s = .next t ∧ t.key.moves.find e.toNat = some 0 ∧ RegsKept [] s t ∧ MemKept s t := by
  let u := s.setKey { s.key with moves := s.key.moves.set e.toNat 0 }
  have heff : s.moveRetry e.toNat n = u := if_pos ⟨hmove, hsince⟩
  exact ⟨s.ended u, congrArg (finish s) heff,
    (congrArg (fun y : KeyState => y.moves.find e.toNat) (s.ended_key u)).trans (AMap.find_set_same _ _ _), State.ended_regsKept fun _ _ => rfl, State.ended_memKept rfl⟩

/-- Settles O24: each clause is the rule of its command, for the states and operands the clause names. -/
theorem downlinkCommands : Obligations.DownlinkCommands := by
  unfold Obligations.DownlinkCommands
  refine ⟨fun e fl us i p cl s hheld hqueue => ⟨exec_frameTransmit_drop us i hheld hqueue, ?_⟩, ?_, ?_, ?_, ?_⟩
  · rintro a rfl hlen hmay he hstate hm hup hkey hacked hfirst himage halloc hholds hawake hmoves htxs hlast hfloor hflow
    exact exec_frameTransmit_node hheld hlen hmay he hstate hm hup hkey hacked hfirst himage halloc hholds hawake hmoves htxs
      hlast hfloor hflow
  · exact fun _ _ _ _ _ _ h hfc htx hseq hmoving hclaim hqueue => exec_ackReceived h hfc htx hseq hmoving hclaim hqueue
  · exact fun _ _ _ _ _ htx hm => ⟨fun _ _ hclaim htries hup hmay hawake halloc hholds =>
      exec_ackTimeout_repeat htx hm hclaim htries hup hmay hawake halloc hholds,
      fun _ hclaim htries hmoving => exec_ackTimeout_dropped htx hm hclaim htries hmoving,
      fun hclaim => exec_ackTimeout_requeued htx hclaim⟩
  · exact fun _ _ _ _ _ _ hdue hjid hup => exec_floorRecordWritten hdue hjid hup
  · exact fun _ _ _ hmove hsince => exec_moveRetry hmove hsince

end Sys2Proof.Machine
end

section
/-!
PROOFS. Nodes: queues, group sums, packets of configuration and profiles as steps of the field network (R181, R182, R192, R193).
-/
namespace Sys2Proof.Machine

/-! ## Queues -/

namespace PegFrame

variable (s : State)

theorem result (k p t status reason q cells : Nat) : PegFrame s (s.result k p t status reason q cells) := send s _

theorem qcfgWrite (q v : Nat) : PegFrame s (s.qcfgWrite q v).2 := by
  unfold State.qcfgWrite
  extract_lets e d d'
  split
  · exact setDesc s q _
  · split
    · exact refl s
    · rename_i u _ v _ _
      have hv : PegFrame s v := (setDesc s q d').trans (setPeg u _)
      dsimp only
      split
      · exact hv.trans (boundary v q)
      · exact hv

theorem setQueue (q consumer : Nat) (notifyOn enable : Bool) : PegFrame s (s.setQueue q consumer notifyOn enable) := qcfgWrite s q _

theorem setNodeQueues (e : Nat) : PegFrame s (s.setNodeQueues e) := by
  unfold State.setNodeQueues
  extract_lets u
  have hu : PegFrame s u := foldl _ (fun s _ _ => setQueue s _ _ _ _) s
  unfold State.setUpQueues
  extract_lets put v w x y
  have hput : ∀ (t : State) (f : Nat) (p : Option Nat), PegFrame t (put t f p) := fun t f p => by
    cases p <;> exact setQueue t _ _ _ _
  clear_value put
  have hv : PegFrame u v := hput u 32 (u.servant 3 e)
  have hw : PegFrame v w := hput v 36 (v.servant 3 e)
  have hx : PegFrame w x := hput w 33 (w.servant 4 e)
  have hy : PegFrame x y := hput x 34 (some 29)
  exact ((((hu.trans hv).trans hw).trans hx).trans hy).trans (setQueue y _ _ _ _)

theorem stopReads (cl : Claim) (status : Nat) : PegFrame s (s.stopReads cl status) := by
  unfold State.stopReads
  extract_lets l u
  exact (setPeg s _).trans (foldl l (fun s _ _ => send s _) u)

theorem requeue {cl : Claim} (hp : cl.port < 32) : PegFrame s (s.requeue cl) := by
  unfold State.requeue
  extract_lets waiting u v d w d' x
  have hu : PegFrame s u := stopReads s cl _
  clear_value waiting
  cases waiting with
  | some t => exact (hu.trans (releaseClaim u hp)).trans (result _ _ _ _ _ _ _ _)
  | none =>
    have hw : PegFrame v w := by
      simp only [w]
      split <;> split
      · exact link v _ _
      · exact refl v
      · exact link v _ _
      · exact refl v
    clear_value w d'
    exact ((((hu.trans (endClaim u hp)).trans hw).trans (setDesc w _ _)).trans (pcnt x (qPort_lt _) (by decide))).trans (boundary _ _)

end PegFrame

section
variable (s : State)

theorem State.revoke_field (cl : Claim) : (s.revoke cl).field = s.field := by
  have hpush : ∀ t : State, (t.pushRevoked cl).field = t.field := fun t => by
    unfold State.pushRevoked
    split
    · rfl
    · extract_lets _ u v w
      exact (PegFrame.pushChain u _ _ _).field
  unfold State.revoke
  extract_lets waiting ran u _ v w x
  clear_value waiting
  have hx : x.field = s.field := by
    have hw : w.field = s.field := (PegFrame.stopReads s cl stFLUSHED).field
    simp only [x]
    split
    · exact (hpush w).trans hw
    · exact hw
  cases waiting <;> exact hx

/-- A flush leaves the frames in flight alone. -/
theorem State.flushQueue_txs (q : Nat) : (s.flushQueue q).field.txs = s.field.txs := by
  unfold State.flushQueue
  extract_lets d lk u v w _ x _ y
  have hu : u.field = s.field := by
    simp only [u]
    split
    · exact (PegFrame.pushChain lk _ _ _).field
    · split
      · exact (PegFrame.pushChain s _ _ _).field
      · split
        · exact (PegFrame.pushChain s _ _ _).field
        · rfl
  have hw : w.field = s.field := by
    simp only [w]
    split
    · exact (State.revoke_field v _).trans hu
    · exact hu
  exact (congrArg FieldState.txs (((PegFrame.pcnt y (i := 11) (PegFrame.qPort_lt q) (by decide)).trans (PegFrame.boundary _ q)).field)).trans
    (show y.field.txs = s.field.txs from by exact (rfl : _ = w.field.txs).trans (congrArg FieldState.txs hw))

end

/-! ## Group sums, packets of configuration and profiles -/

/-- The registers that joining, losing and admitting nodes may write, but for NODE_CNT and NODE_ADMIN_STAT. -/
def nodeRegs (key : Nat) : Bool :=
  airKey key || pegKey key || key == F.NODE_COUNT_JOINED.key || key == F.NODE_COUNT_LOST.key

theorem nodeRegs_air {key : Nat} (h : airKey key = true) : nodeRegs key = true := by simp [nodeRegs, h]
theorem nodeRegs_peg {key : Nat} (h : pegKey key = true) : nodeRegs key = true := by simp [nodeRegs, h]

theorem State.servant_lt {s : State} {r e p : Nat} (h : s.servant r e = some p) : p < 16 := by
  unfold State.servant at h
  dsimp only at h
  split at h
  · cases h
  · have hmem := List.mem_of_getElem? h
    exact List.mem_range.mp (List.mem_filter.mp hmem).1

theorem State.nodeSlots_lt {s : State} {e : Nat} (h : e ∈ s.nodeSlots) : e < 16320 := by
  obtain ⟨c, -, hc⟩ := List.mem_filterMap.mp h
  split at hc
  case isTrue hlt => cases hc; omega
  case isFalse => cases hc

namespace FieldStep

section
variable {K : Nat → Bool} {W : Nat → Prop}

theorem showGroups (s : State) (hJ : K F.NODE_COUNT_JOINED.key = true) (hL : K F.NODE_COUNT_LOST.key = true)
    (hW : ∀ a, W a → a < 256 * 16320) : FieldStep K W s s.showGroups := by
  have hput : ∀ (t : State) (e n d : Nat), 16320 ≤ e → FieldStep K W t ((t.setNd e 0 4 n).setNd e 4 2 d) := fun t e n d he =>
    (setNd t (fun a ha => by have := hW a ha; omega) n).trans (setNd _ (fun a ha => by have := hW a ha; omega) d)
  unfold State.showGroups
  extract_lets live put u v
  have hu : FieldStep K W s u := foldl _ (fun t g _ => hput t (groupEntry g) _ _ (Nat.le_add_right ..)) s
  exact ((hu.trans (hput u 16383 _ _ (by decide))).trans (wr v hJ _)).trans (wr _ hL _)

theorem nodeCnt (s : State) {i : Nat} (hK : K (F.NODE_CNT_COUNT i).key = true) : FieldStep K W s (s.nodeCnt i) := by
  unfold State.nodeCnt
  split
  · exact wr s hK _
  · exact refl s

theorem startCounters (s : State) {e : Nat} (he : e < 16320) (h : ∀ a, W a → OffNd e [(60, 4), (64, 4)] a) :
    FieldStep K W s (s.startCounters e) := by
  unfold State.startCounters
  rw [if_pos he]
  extract_lets u
  have hu : FieldStep K W s u := by
    simp only [u]
    split
    · exact setNd s (fun a ha => h a ha (60, 4) (by decide)) _
    · exact refl s
  clear_value u
  split
  · exact (hu.trans (setNd u (fun a ha => h a ha (64, 4) (by decide)) _)).trans (setField _ _ rfl)
  · exact hu

variable (hK : ∀ k, pegKey k = true → K k = true) (hlow : ∀ a, W a → a < 0x00780000)
include hK hlow

theorem cfgSet (s : State) {e : Nat} (hW : ∀ a, W a → OffNd e [(124, 2)] a) : FieldStep K W s (s.cfgSet e) := by
  unfold State.cfgSet
  split
  · exact refl s
  case h_2 p hp =>
    have := State.servant_lt hp
    extract_lets id u pl
    exact (setNd s (fun a ha => hW a ha (124, 2) (by decide)) _).trans (.ofPeg (PegFrame.pegPut u (by omega) _ _ _) hK hlow)

theorem sendProfile (s : State) (e : Nat) : FieldStep K W s (s.sendProfile e) := by
  unfold State.sendProfile
  extract_lets d
  split
  · exact refl s
  case h_2 p hp =>
    have := State.servant_lt hp
    split
    · exact refl s
    · have hprofile : FieldStep K W s (s.profile (s.nd e 16 1) d).2 := by
        unfold State.profile
        exact ofSame rfl rfl rfl rfl
      generalize s.profile (s.nd e 16 1) d = x at hprofile
      obtain ⟨pkt, u⟩ := x
      dsimp only
      have hput : FieldStep K W u (u.pegPut p (64 * e + 2) false pkt).2 := .ofPeg (PegFrame.pegPut u (by omega) _ _ _) hK hlow
      generalize u.pegPut p (64 * e + 2) false pkt = y at hput
      obtain ⟨r, v⟩ := y
      dsimp only
      split
      · exact (hprofile.trans hput).trans (ofSame rfl rfl rfl rfl)
      · exact hprofile.trans hput

end

end FieldStep

end Sys2Proof.Machine
end

section
/-!
PROOFS. Nodes that join, are lost and are admitted (R159, R160, R181 to R183).
-/
namespace Sys2Proof.Machine

/-! ## Losing a node (R183) -/

theorem exec_nodeLost {e : BitVec 14} {s : State} (he : e.toNat < 16320) (hstate : s.ndState e.toNat = 2)
    (hlost : 1000 * s.rd F.NODE_ORPHAN_CFG_LOST_S ≤ (s.tb2Ms + 2 ^ 32 - s.nd e.toNat 72 4) % 2 ^ 32) :
    ∃ t, exec (.nodeLost e) s = .next t ∧ t.ndState e.toNat = 3 ∧ BlocksKept [bNODE] s t := by
  let u := s.setNd e.toNat 9 1 3
  have heff : s.nodeLost e.toNat = u.showGroups := if_pos ⟨he, hstate, hlost⟩
  have hshow : FieldStep (inBlock bNODE) (fun a => a < 256 * 16320) u u.showGroups :=
    .showGroups u (by decide) (by decide) fun _ ha => ha
  refine ⟨_, congrArg (finish s) heff, ?_, State.ended_blocksKept fun g hg => hshow.rd g (hg _ List.mem_cons_self)⟩
  refine (State.ended_nd ..).trans ((hshow.rdMem fun i hi => ?_).trans (State.nd_setNd_same s _ 9 1 3))
  omega

/-! ## The commands of NODE_ADMIN (R181) -/

/-- What OP `op` of NODE_ADMIN does for requester `req`. -/
def State.nodeCmd (s : State) (req op g : Nat) : State :=
  match op with
  | 1 => s.nodeAdmit req g
  | 2 => s.evict req
  | 3 => s.setGroup req g
  | _ => s.resendProfile req

/-- A word at NODE_ADMIN with OP `op` and GROUP `g`. -/
theorem State.rowWrite_nodeAdmin {s : State} (hon : s.blockOn bNODE = true) (req : Fin 36) (g : Fin 32) {op : Nat}
    (hop : op ∈ [1, 2, 3, 4]) : s.rowWrite req 0x4008001C (op * 2 ^ 28 + g.val * 2 ^ 16) WriteMore.none =
      (s.nodeCmd req op g).answer req 0x4008001C stOK 0 := by
  have hword : ∀ o ∈ [1, 2, 3, 4], ∀ g : Fin 32, (regsNode[5].written.all fun f =>
      chkField f.chk f.width (bits (o * 2 ^ 28 + g.val * 2 ^ 16) f.lo f.width) == (true, true)) = true ∧
        bits (o * 2 ^ 28 + g.val * 2 ^ 16) 28 4 = o ∧ bits (o * 2 ^ 28 + g.val * 2 ^ 16) 16 5 = g.val := by decide
  obtain ⟨hchk, hbits, hgroup⟩ := hword op hop g
  have hafter : s.afterWrite s req bNODE 0x1C 0 = s := rfl
  have hact : s.regAct req bNODE 0x1C 0 (op * 2 ^ 28 + g.val * 2 ^ 16) WriteMore.none =
      (stOK, s.nodeCmd req (bits (op * 2 ^ 28 + g.val * 2 ^ 16) 28 4) (bits (op * 2 ^ 28 + g.val * 2 ^ 16) 16 5)) := rfl
  have hrow := s.rowWrite_after (req := req) (a := 0x4008001C) (x := WriteMore.none)
    ((s.addrUp_block bNODE 0x4008001C (by decide) (by decide) (by decide)).trans hon) (by decide)
    (b := bNODE) (off := 0x1C) (r := regsNode[5]) (ix := []) (by decide) (by decide) (by decide) (by decide) hchk rfl rfl
    (by decide)
  rw [hrow, show regsNode[5].off = 0x1C from rfl, List.headD_nil]
  rw [hafter, hact, hbits, hgroup]

/-- The state after a command of NODE_ADMIN whose effect is `u` and whose result is `op` and `st`. -/
def State.adminEnded (s u : State) (req op st : Nat) : State := s.ended ((u.adminDone op st).answer req 0x4008001C stOK 0)

section
variable (s u : State) (req : Nat) {op st : Nat}

theorem State.adminEnded_op (h : op < 16) : (s.adminEnded u req op st).rd F.NODE_ADMIN_STAT_OP = op :=
  (State.ended_rd _ _ (Fld.notRun (by decide))).trans ((State.answer_rd ..).trans
    ((State.rd_wr_other _ _ (by decide)).trans (u.rd_wr_fits _ h)))

theorem State.adminEnded_status (h : st < 256) : (s.adminEnded u req op st).rd F.NODE_ADMIN_STAT_STATUS = st :=
  (State.ended_rd _ _ (Fld.notRun (by decide))).trans ((State.answer_rd ..).trans (State.rd_wr_fits _ _ h))

theorem State.adminEnded_mem : (s.adminEnded u req op st).mem = u.mem := s.ended_mem _

theorem State.adminEnded_nd (e o n : Nat) : (s.adminEnded u req op st).nd e o n = u.nd e o n := by
  rw [State.nd, State.rdMem, State.adminEnded_mem, State.nd, State.rdMem]

theorem State.adminEnded_field : (s.adminEnded u req op st).field = u.field := s.ended_field _

theorem State.adminEnded_regsKept {s u : State} (h : ∀ g, u.rd g = s.rd g) :
    RegsKept [F.NODE_ADMIN_STAT_OP, F.NODE_ADMIN_STAT_STATUS] s (s.adminEnded u req op st) :=
  State.ended_regsKept fun g hg => (State.answer_rd ..).trans
    ((State.rd_wr_other _ _ (hg _ (by simp))).trans ((u.rd_wr_other _ (hg _ (by simp))).trans (h g)))

end

section
variable {s : State} (hon : s.blockOn bNODE = true) (req : Fin 36) {e : Nat} (hsel : s.rdReq req F.NODE_SEL_SLOT = e) (he : e < 16320)
include hon hsel he

/-! ### ADMIT -/

/-- The fields of an entry that admitting its node writes. -/
def ndAdmitted : List (Nat × Nat) := [(0, 8), (16, 1), (20, 4), (8, 1), (9, 1), (60, 4), (64, 4)]

omit hon hsel in
theorem State.admitSlot_spec (eui g mcast : Nat) : FieldStep (fun _ => false) (OffNd e ndAdmitted) s (s.admitSlot e eui g mcast) ∧
    (s.admitSlot e eui g mcast).ndState e = 1 ∧ (s.admitSlot e eui g mcast).nd e 0 8 = eui % 2 ^ 64 ∧
    (s.admitSlot e eui g mcast).nd e 16 1 = g % 2 ^ 8 := by
  have hset : ∀ (t : State) (x : Nat × Nat), x ∈ ndAdmitted → ∀ v, FieldStep (fun _ => false) (OffNd e ndAdmitted) t (t.setNd e x.1 x.2 v) :=
    fun t x hx v => .setNd t (fun _ ha => ha x hx) v
  unfold State.admitSlot
  extract_lets u v
  have hu : FieldStep (fun _ => false) (OffNd e ndAdmitted) s u :=
    ((hset s (0, 8) (by decide) _).trans (hset _ (16, 1) (by decide) _)).trans (hset _ (20, 4) (by decide) _)
  have hueui : u.nd e 0 8 = eui % 2 ^ 64 := (State.nd_setNd_other _ e _ (by decide)).trans
    ((State.nd_setNd_other _ e _ (by decide)).trans (State.nd_setNd_same ..))
  have hugroup : u.nd e 16 1 = g % 2 ^ 8 := (State.nd_setNd_other _ e _ (by decide)).trans (State.nd_setNd_same ..)
  clear_value u
  have hv : FieldStep (fun _ => false) (OffNd e [(8, 1)]) u v := by
    simp only [v]
    split
    · exact .setNd u (fun a ha => ha (8, 1) (by decide)) _
    · exact .refl u
  clear_value v
  have hw := hset v (9, 1) (by decide) 1
  have hstate : (v.setNd e 9 1 1).nd e 9 1 = 1 := State.nd_setNd_same ..
  have heui : (v.setNd e 9 1 1).nd e 0 8 = u.nd e 0 8 := (State.nd_setNd_other v e 1 (by decide)).trans (hv.nd (by decide))
  have hgroup : (v.setNd e 9 1 1).nd e 16 1 = u.nd e 16 1 := (State.nd_setNd_other v e 1 (by decide)).trans (hv.nd (by decide))
  generalize v.setNd e 9 1 1 = w at *
  have hx : FieldStep (fun _ => false) (OffNd e [(60, 4), (64, 4)]) w (w.startCounters e) := .startCounters w he fun _ ha => ha
  exact ⟨((hu.trans (hv.widen (by decide))).trans hw).trans (hx.widen (by decide)), (hx.nd (by decide)).trans hstate,
    (hx.nd (by decide)).trans (heui.trans hueui), (hx.nd (by decide)).trans (hgroup.trans hugroup)⟩

theorem exec_nodeAdmit (g : Fin 32) {eui : Nat} (heui : s.rdReq req F.NODE_EUI_LO_EUI + s.rdReq req F.NODE_EUI_HI_EUI * 2 ^ 32 = eui)
    (hfree : s.ndState e = 0) (hnew : s.nodeSlots.any (fun n => s.nd n 0 8 == eui) = false) :
    ∃ t, exec (.nodeAdmit req g) s = .next t ∧ t.rd F.NODE_ADMIN_STAT_OP = 1 ∧ t.rd F.NODE_ADMIN_STAT_STATUS = stOK ∧
        t.ndState e = 1 ∧ t.nd e 0 8 = eui % 2 ^ 64 ∧ t.nd e 16 1 = g.val ∧
        RegsKept [F.NODE_ADMIN_STAT_OP, F.NODE_ADMIN_STAT_STATUS] s t ∧ EntryAlone e s t := by
  have heff : s.nodeAdmit req g = (s.admitSlot e eui g 0).adminDone 1 stOK := by
    unfold State.nodeAdmit
    rw [hsel, heui]
    rw [if_neg (by omega), if_neg (by simp [hfree]), if_neg (by simp [hfree]), hnew, if_neg (by decide)]
  obtain ⟨hstep, hstate, hname, hgroup⟩ := State.admitSlot_spec (s := s) he eui g 0
  refine ⟨s.adminEnded (s.admitSlot e eui g 0) req 1 stOK, ?_, State.adminEnded_op _ _ _ (by decide),
    State.adminEnded_status _ _ _ (by decide), (State.adminEnded_nd ..).trans hstate, (State.adminEnded_nd ..).trans hname,
    (State.adminEnded_nd ..).trans (hgroup.trans (Nat.mod_eq_of_lt (by omega))), State.adminEnded_regsKept _ fun g => hstep.rd g rfl,
    fun a ha => ?_⟩
  · rw [State.adminEnded, ← heff]
    exact congrArg (finish s) (State.rowWrite_nodeAdmin hon req g (op := 1) (by decide))
  · rw [State.rd8, State.adminEnded_mem]
    exact hstep.entryAlone (by decide) a ha

/-! ### EVICT -/

theorem exec_evict (hstate : s.ndState e ≠ 0) : ∃ t, exec (.evict req) s = .next t ∧ t.rd F.NODE_ADMIN_STAT_OP = 2 ∧
    t.rd F.NODE_ADMIN_STAT_STATUS = stOK ∧ t.ndState e = 0 ∧ t.field.txs.find e = none := by
  obtain ⟨v, htxs, heff⟩ : ∃ v : State, v.field.txs = s.field.txs.erase e ∧
      s.evict req = ((v.setNd e 9 1 0).showGroups).adminDone 2 stOK := by
    unfold State.evict
    rw [hsel, if_neg (by omega), if_neg hstate]
    extract_lets _ u v w _ x
    have hu : u.field.txs = s.field.txs.erase e := rfl
    have hv : v.field.txs = u.field.txs := by
      simp only [v, State.sendLeave]
      split
      · exact FieldStep.txs (K := airKey) (W := fun _ => False) (.cmdPost (fun _ hk => hk) u fun _ ha => ha.elim)
      · rfl
    have hw : w.field.txs = v.field.txs := by
      simp only [w]
      split
      · exact foldl_kept (fun t : State => t.field.txs) (fun t f => State.flushQueue_txs t _) _ _
      · rfl
    exact ⟨x, (hw.trans hv).trans hu, rfl⟩
  have hshow : FieldStep nodeRegs (fun a => a < 256 * 16320) (v.setNd e 9 1 0) (v.setNd e 9 1 0).showGroups :=
    .showGroups _ (by decide) (by decide) fun _ ha => ha
  refine ⟨s.adminEnded (v.setNd e 9 1 0).showGroups req 2 stOK, ?_, State.adminEnded_op _ _ _ (by decide),
    State.adminEnded_status _ _ _ (by decide), ?_, ?_⟩
  · rw [State.adminEnded, ← heff]
    exact congrArg (finish s) (State.rowWrite_nodeAdmin hon req 0 (op := 2) (by decide))
  · refine (State.adminEnded_nd ..).trans ((hshow.rdMem fun i hi => ?_).trans (State.nd_setNd_same v e 9 1 0))
    omega
  · rw [State.adminEnded_field, hshow.txs]
    exact (congrArg (fun m => AMap.find m e) htxs).trans (AMap.find_erase_same _ _)

/-! ### SET_GROUP -/

omit hon hsel in
theorem State.regroup_spec (g : Nat) : FieldStep nodeRegs (fun a => a < 256 * 16320 ∧ OffNd e [(20, 4), (16, 1)] a) s (s.regroup e g) ∧
    (s.regroup e g).nd e 16 1 = g % 2 ^ 8 ∧ (g < 32 → bitAt ((s.regroup e g).nd e 20 4) g = true) := by
  unfold State.regroup
  extract_lets old mc u _ v
  have hu : FieldStep nodeRegs (fun a => a < 256 * 16320 ∧ OffNd e [(20, 4), (16, 1)] a) s u :=
    (FieldStep.setNd s (fun a ha => ha.2 (20, 4) (by decide)) mc).trans (.setNd _ (fun a ha => ha.2 (16, 1) (by decide)) g)
  have hgroup : u.nd e 16 1 = g % 2 ^ 8 := State.nd_setNd_same ..
  have hmcast : u.nd e 20 4 = mc % 2 ^ 32 := (State.nd_setNd_other _ e g (by decide)).trans (State.nd_setNd_same ..)
  have hmc : g < 32 → bitAt (mc % 2 ^ 32) g = true := fun hg => bitAt_setBit_mod _ true hg
  clear_value u mc
  have hv : FieldStep nodeRegs (fun _ => True) u v := by
    simp only [v]
    split
    · exact .setField u _ rfl
    · exact .refl u
  clear_value v
  have hshow : FieldStep nodeRegs (fun a => a < 256 * 16320) v v.showGroups := .showGroups v (by decide) (by decide) fun _ ha => ha
  have hkept : ∀ o n, o + n ≤ 256 → v.showGroups.nd e o n = u.nd e o n := fun o n h =>
    (hshow.rdMem fun i hi => by omega).trans (hv.rdMem fun _ _ => trivial)
  refine ⟨(hu.trans (hv.mono (fun _ hk => hk) fun _ _ => trivial)).trans (hshow.mono (fun _ hk => hk) fun _ ha => ha.1), ?_, fun hg => ?_⟩
  · rw [hkept 16 1 (by decide), hgroup]
  · rw [hkept 20 4 (by decide), hmcast]
    exact hmc hg

omit hon hsel he in
/-- The CFG_SET packet writes CFG_ID of its node's entry alone. -/
theorem State.cfgSet_step : FieldStep nodeRegs (fun a => a < 256 * 16320 ∧ OffNd e [(124, 2)] a) s (s.cfgSet e) :=
  .cfgSet (fun _ hk => nodeRegs_peg hk) (fun _ ha => by omega) s fun _ ha => ha.2

theorem exec_setGroup (g : Fin 32) (hstate : s.ndState e ≠ 0) : ∃ t, exec (.setGroup req g) s = .next t ∧
    t.rd F.NODE_ADMIN_STAT_OP = 3 ∧ t.rd F.NODE_ADMIN_STAT_STATUS = stOK ∧ t.nd e 16 1 = g.val ∧ bitAt (t.nd e 20 4) g = true := by
  obtain ⟨-, hgroup, hmcast⟩ := State.regroup_spec (s := s) he g.val
  obtain ⟨u, hu, heff⟩ : ∃ u, FieldStep nodeRegs (fun a => a < 256 * 16320 ∧ OffNd e [(124, 2)] a) (s.regroup e g) u ∧
      s.setGroup req g = u.adminDone 3 stOK := by
    unfold State.setGroup
    rw [hsel, if_neg (by omega)]
    refine ⟨_, ?_, rfl⟩
    split
    · exact State.cfgSet_step
    · exact .refl _
  have hkept : ∀ o n, o + n ≤ 256 → [(124, 2)].all (fun x : Nat × Nat => o + n ≤ x.1 || x.1 + x.2 ≤ o) = true →
      u.nd e o n = (s.regroup e g).nd e o n := fun o n hle h =>
    hu.rdMem fun i hi => ⟨by omega, OffNd.apart e h hi⟩
  refine ⟨s.adminEnded u req 3 stOK, ?_, State.adminEnded_op _ _ _ (by decide), State.adminEnded_status _ _ _ (by decide), ?_, ?_⟩
  · rw [State.adminEnded, ← heff]
    exact congrArg (finish s) (State.rowWrite_nodeAdmin hon req g (op := 3) (by decide))
  · rw [State.adminEnded_nd, hkept 16 1 (by decide) (by decide), hgroup, Nat.mod_eq_of_lt (by omega)]
  · rw [State.adminEnded_nd, hkept 20 4 (by decide) (by decide)]
    exact hmcast g.isLt

omit he in
theorem exec_setGroup_free (g : Fin 32) (hstate : s.ndState e = 0) : ∃ t, exec (.setGroup req g) s = .next t ∧
    t.rd F.NODE_ADMIN_STAT_STATUS = stBAD ∧ RegsKept [F.NODE_ADMIN_STAT_OP, F.NODE_ADMIN_STAT_STATUS] s t ∧ MemKept s t := by
  have heff : s.setGroup req g = s.adminDone 3 stBAD := by
    unfold State.setGroup
    rw [hsel]
    exact if_pos (.inr hstate)
  refine ⟨s.adminEnded s req 3 stBAD, ?_, State.adminEnded_status _ _ _ (by decide), State.adminEnded_regsKept _ fun _ => rfl,
    State.ended_memKept rfl⟩
  rw [State.adminEnded, ← heff]
  exact congrArg (finish s) (State.rowWrite_nodeAdmin hon req g (op := 3) (by decide))

/-! ### RESEND_PROFILE -/

theorem exec_resendProfile (hstate : s.ndState e ≠ 0) : ∃ t, exec (.resendProfile req) s = .next t ∧
    t.rd F.NODE_ADMIN_STAT_OP = 4 ∧ t.rd F.NODE_ADMIN_STAT_STATUS = stOK ∧
    (∀ p, s.servant 3 e = some p → t.nd e 124 2 = (s.nd e 124 2 + 1) % 65536) := by
  have hprofile : FieldStep pegKey (fun a => a < 0x00780000) s (s.sendProfile e) := .sendProfile (fun _ hk => hk) (fun _ ha => ha) s e
  have heff : s.resendProfile req = ((s.sendProfile e).cfgSet e).adminDone 4 stOK := by
    unfold State.resendProfile
    rw [hsel]
    exact if_neg (by omega)
  have hid : (s.sendProfile e).nd e 124 2 = s.nd e 124 2 := hprofile.rdMem fun i hi => by omega
  have hserved : (s.sendProfile e).servant 3 e = s.servant 3 e := by
    have hcourse : ∀ n ∈ List.range 16, pegKey (F.SYS_COURSE_ROLE_ROLE n).key = false := by decide
    have hcourses : (s.sendProfile e).courses 3 = s.courses 3 :=
      List.filter_congr fun n hn => by rw [hprofile.rd _ (hcourse n hn)]
    rw [State.servant, State.servant, hcourses]
  generalize s.sendProfile e = u at *
  refine ⟨s.adminEnded (u.cfgSet e) req 4 stOK, ?_, State.adminEnded_op _ _ _ (by decide), State.adminEnded_status _ _ _ (by decide),
    fun p hp => ?_⟩
  · rw [State.adminEnded, ← heff]
    exact congrArg (finish s) (State.rowWrite_nodeAdmin hon req 0 (op := 4) (by decide))
  · have hport := State.servant_lt hp
    rw [State.adminEnded_nd, State.cfgSet, hserved, hp]
    dsimp -zeta only
    extract_lets id v pl
    have hput : FieldStep pegKey (fun a => a < 0x00780000) v (v.pegPut p (64 * e + 3) false pl).2 :=
      .ofPeg (PegFrame.pegPut v (by omega) _ _ _) (fun _ hk => hk) fun _ ha => ha
    refine (hput.rdMem fun i hi => by omega).trans ((State.nd_setNd_same u e 124 2 id).trans ?_)
    simp only [id, hid]
    omega

end

end Sys2Proof.Machine
end

section
/-!
PROOFS. A JOIN_REQ: unknown, replayed, fresh (R159, R160, R173, R182, R202).
-/
namespace Sys2Proof.Machine

/-! ## The entry of a node that joins -/

/-- The entry of `e` once its node has joined, with image parameters `k` and `pos`. -/
def State.joinEntry (s : State) (e m typ fw k pos : Nat) (imgIn imgOut : Bool) : State :=
  let s := ((s.setNd e 8 1 m).setNd e 9 1 2).setNd e 10 2 typ
  let s := (((s.setNd e 12 4 fw).setNd e 24 1 k).setNd e 26 2 pos).setNd e 162 1 0
  ((s.ndFlag e 0 false).ndFlag e 1 imgIn).ndFlag e 2 imgOut

theorem State.joinEntry_rd (s : State) (e m typ fw k pos : Nat) (imgIn imgOut : Bool) (g : Fld) :
    (s.joinEntry e m typ fw k pos imgIn imgOut).rd g = s.rd g := by
  have hset : ∀ (t : State) (o n v : Nat), (t.setNd e o n v).rd g = t.rd g := fun _ _ _ _ => rfl
  simp only [State.joinEntry, State.ndFlag, hset]

/-- The fields that a JOIN_REQ gives, as the entry holds them. -/
theorem State.joinEntry_nd (s : State) (e m typ fw k pos : Nat) (imgIn imgOut : Bool) :
    (s.joinEntry e m typ fw k pos imgIn imgOut).nd e 9 1 = 2 ∧
    (s.joinEntry e m typ fw k pos imgIn imgOut).nd e 8 1 = m % 2 ^ 8 ∧
    (s.joinEntry e m typ fw k pos imgIn imgOut).nd e 10 2 = typ % 2 ^ 16 ∧
    (s.joinEntry e m typ fw k pos imgIn imgOut).nd e 12 4 = fw % 2 ^ 32 ∧
    (s.joinEntry e m typ fw k pos imgIn imgOut).nd e 24 1 = k % 2 ^ 8 := by
  have hoff : ∀ (t : State) (p n o l v : Nat), (p + n ≤ o ∨ o + l ≤ p) → (t.setNd e o l v).nd e p n = t.nd e p n :=
    fun t p n o l v h => State.nd_setNd_other t e v h
  unfold State.joinEntry State.ndFlag
  extract_lets u v
  refine ⟨?_, ?_, ?_, ?_, ?_⟩ <;> iterate 3 rw [hoff _ _ _ _ _ _ (by decide)]
  · exact ((hoff _ 9 1 162 1 _ (by decide)).trans ((hoff _ 9 1 26 2 _ (by decide)).trans ((hoff _ 9 1 24 1 _ (by decide)).trans
      ((hoff _ 9 1 12 4 _ (by decide)).trans ((hoff _ 9 1 10 2 _ (by decide)).trans (State.nd_setNd_same ..))))))
  · exact ((hoff _ 8 1 162 1 _ (by decide)).trans ((hoff _ 8 1 26 2 _ (by decide)).trans ((hoff _ 8 1 24 1 _ (by decide)).trans
      ((hoff _ 8 1 12 4 _ (by decide)).trans ((hoff _ 8 1 10 2 _ (by decide)).trans ((hoff _ 8 1 9 1 _ (by decide)).trans
        (State.nd_setNd_same ..)))))))
  · exact ((hoff _ 10 2 162 1 _ (by decide)).trans ((hoff _ 10 2 26 2 _ (by decide)).trans ((hoff _ 10 2 24 1 _ (by decide)).trans
      ((hoff _ 10 2 12 4 _ (by decide)).trans (State.nd_setNd_same ..)))))
  · exact ((hoff _ 12 4 162 1 _ (by decide)).trans ((hoff _ 12 4 26 2 _ (by decide)).trans ((hoff _ 12 4 24 1 _ (by decide)).trans
      (State.nd_setNd_same ..))))
  · exact ((hoff _ 24 1 162 1 _ (by decide)).trans ((hoff _ 24 1 26 2 _ (by decide)).trans (State.nd_setNd_same ..)))

theorem State.requeueNode_rd (s : State) (e : Nat) {g : Fld} (hg : pegKey g.key = false) : (s.requeueNode e).rd g = s.rd g := by
  unfold State.requeueNode
  extract_lets _ u
  refine (PegFrame.foldl _ (fun t f _ => ?_) u).rd g hg
  split
  case h_1 cl hcl => exact .requeue t (by rw [PegFrame.port_of_heldClaim hcl]; decide)
  case h_2 => exact .refl t

/-- What an answered join leaves apart from the entry's own fields. -/
theorem State.join_tail (s : State) {e : Nat} (k pos : Nat) : FieldStep nodeRegs (fun a => a < 256 * 16320 ∧ OffNd e ndSent a) s
    (((s.joinRsp e k pos none).setNodeQueues e).showGroups) := by
  have hrsp : FieldStep nodeRegs (fun a => a < 256 * 16320 ∧ OffNd e ndSent a) s (s.joinRsp e k pos none) :=
    .cmdPost (fun _ hk => nodeRegs_air hk) s fun _ ha => ha.2
  have hqueues : FieldStep nodeRegs (fun a => a < 256 * 16320 ∧ OffNd e ndSent a) (s.joinRsp e k pos none)
      ((s.joinRsp e k pos none).setNodeQueues e) :=
    .ofPeg (.setNodeQueues _ e) (fun _ hk => nodeRegs_peg hk) fun _ ha => by omega
  exact (hrsp.trans hqueues).trans (.showGroups _ (by decide) (by decide) fun _ ha => ha.1)

theorem State.join_spec (s : State) {e : Nat} (he : e < 16320) {m typ fw : Nat} (k : Nat) (a b : Bool) (hon : s.isOn 31 = true)
    (hm : m < 2 ^ 8) (htyp : typ < 2 ^ 16) (hfw : fw < 2 ^ 32) :
    (s.join e m typ fw k a b).ndState e = 2 ∧ (s.join e m typ fw k a b).ndMedium e = m ∧ (s.join e m typ fw k a b).nd e 10 2 = typ ∧
      (s.join e m typ fw k a b).nd e 12 4 = fw ∧ (a = false → b = false → (s.join e m typ fw k a b).nd e 24 1 = 15) ∧
      (s.join e m typ fw k a b).rd (F.NODE_CNT_COUNT 0) = (s.rd (F.NODE_CNT_COUNT 0) + 1) % 2 ^ 32 := by
  obtain ⟨u, k', pos, i, o, g, hrd, hk, heff⟩ : ∃ (u : State) (k' pos : Nat) (i o : Bool) (g : GaugeState),
      (∀ f : Fld, nodeRegs f.key = false → u.rd f = s.rd f) ∧ (a = false → b = false → k' = 15) ∧
      s.join e m typ fw k a b = (((({ (u.joinEntry e m typ fw k' pos i o) with gauge := g } : State).nodeCnt 0).joinRsp e k' pos none).setNodeQueues e).showGroups := by
    unfold State.join
    extract_lets u v fit w k' pos x y z _ g
    have hu : ∀ f : Fld, nodeRegs f.key = false → u.rd f = s.rd f := fun f hf => by
      have hpeg : pegKey f.key = false := by
        cases hp : pegKey f.key with
        | false => rfl
        | true => rw [nodeRegs_peg hp] at hf; exact absurd hf (by decide)
      simp only [u]
      split
      · exact State.requeueNode_rd s e hpeg
      · rfl
    have hw : FieldStep nodeRegs (fun _ => False) v w := by
      simp only [w]
      split
      · exact .ofPeg (PegFrame.raiseEvent v _ _ _) (fun _ hk => nodeRegs_peg hk) fun _ ha => ha.elim
      · exact .refl v
    refine ⟨w, k', pos, _, _, _, fun f hf => (hw.rd f hf).trans (hu f hf), fun ha hb => ?_, rfl⟩
    have hfit : fit = none := if_neg (by simp [ha, hb])
    exact if_pos hfit
  obtain ⟨hstate, hmedium, hntyp, hnfw, hnk⟩ := u.joinEntry_nd e m typ fw k' pos i o
  have hentry := u.joinEntry_rd e m typ fw k' pos i o
  generalize u.joinEntry e m typ fw k' pos i o = v at *
  have hwrd : ∀ f, (({ v with gauge := g } : State)).rd f = u.rd f := hentry
  have hwnd : ∀ p n, (({ v with gauge := g } : State)).nd e p n = v.nd e p n := fun _ _ => rfl
  generalize ({ v with gauge := g } : State) = w at *
  have hwon : w.isOn 31 = true := by
    rw [← hon, State.isOn, State.dom, hwrd, hrd _ (by decide)]
    rfl
  have hcnt : w.nodeCnt 0 = w.inc (F.NODE_CNT_COUNT 0) := if_pos hwon
  have hshown : (w.nodeCnt 0).rd (F.NODE_CNT_COUNT 0) = (s.rd (F.NODE_CNT_COUNT 0) + 1) % 2 ^ 32 := by
    rw [hcnt, State.inc, State.rd_wr_same, hwrd, hrd _ (by decide)]
    rfl
  have hcntnd : ∀ p n, (w.nodeCnt 0).nd e p n = w.nd e p n := fun p n => by rw [hcnt]; rfl
  have htail := State.join_tail (w.nodeCnt 0) (e := e) k' pos
  have hkept : ∀ p n, p + n ≤ 256 → ndSent.all (fun x => p + n ≤ x.1 || x.1 + x.2 ≤ p) = true →
      (((w.nodeCnt 0).joinRsp e k' pos none).setNodeQueues e).showGroups.nd e p n = v.nd e p n := fun p n hle h =>
    (htail.rdMem fun i hi => ⟨by omega, OffNd.apart e h hi⟩).trans ((hcntnd p n).trans (hwnd p n))
  rw [heff]
  refine ⟨(hkept 9 1 (by decide) (by decide)).trans hstate, ?_, ?_, ?_, fun ha hb => ?_, ?_⟩
  · exact (hkept 8 1 (by decide) (by decide)).trans (hmedium.trans (Nat.mod_eq_of_lt hm))
  · rw [hkept 10 2 (by decide) (by decide), hntyp, Nat.mod_eq_of_lt htyp]
  · rw [hkept 12 4 (by decide) (by decide), hnfw, Nat.mod_eq_of_lt hfw]
  · rw [hkept 24 1 (by decide) (by decide), hnk, hk ha hb]
    rfl
  · rw [htail.rd _ (by decide), hshown]

/-! ## JOIN_REQ -/

/-- The machine once a fresh JOIN_REQ of entry `e` is counted. -/
def State.joinCounted (s : State) (m e : Nat) (rx : FieldRx) (f : FieldFrame) : State :=
  let s' := s.drift e rx.info.measured false
  let t := s'.setField { s'.field with joinUp := s'.field.joinUp.set e f.fcnt.toNat }
  let last := s.field.joinUp.get e (s.floor e true 3)
  let t := if last / 65536 < f.fcnt.toNat / 65536 then t.dueFloor e true 3 (f.fcnt.toNat / 65536 * 65536) else t
  let t := ((t.medCnt m 1).ndCnt e 1).setNd e 57 1 f.seq.toNat
  ((t.setNd e 72 4 t.tb2Ms).setNd e 160 1 rx.info.lqi.toNat).setNd e 161 1 rx.info.rssi.toNat

theorem State.joinCounted_step (s : State) (m e : Nat) (rx : FieldRx) (f : FieldFrame) :
    FieldStep airKey (fun _ => False) s (s.joinCounted m e rx f) := by
  have hset : ∀ (t : State) (o n v : Nat), FieldStep airKey (fun _ => False) t (t.setNd e o n v) :=
    fun t o n v => .setNd t (fun _ ha => ha.elim) v
  unfold State.joinCounted
  extract_lets u _ v last w x
  have hu : FieldStep airKey (fun _ => False) s u := .drift s (fun _ ha => ha.elim) _ _
  have hv : FieldStep airKey (fun _ => False) u v := .setField u _ rfl
  have hw : FieldStep airKey (fun _ => False) v w := by
    simp only [w]
    split
    · exact .dueFloor v e true 3 _
    · exact .refl v
  have hx : FieldStep airKey (fun _ => False) w x :=
    ((FieldStep.medCnt (fun _ hk => hk) w m (by decide)).trans (.ndCnt _ fun _ ha => ha.elim)).trans (hset _ 57 1 _)
  exact ((hu.trans hv).trans (hw.trans hx)).trans (((hset x 72 4 _).trans (hset _ 160 1 _)).trans (hset _ 161 1 _))

section
variable {m : Byte} {rx : FieldRx} {f : FieldFrame} (k : BitVec 4) (a b : Bool) {s : State} (h : JoinFrom s m rx f)
include h

theorem exec_joinReq_unknown (hnone : s.nodeSlots.find? (fun n => s.nd n 0 8 == ofOctetsLE ((f.payload.drop 1).take 8)) = none) :
    ∃ t, exec (.joinReq m rx k a b) s = .next t ∧
        t.rd (F.NODE_CNT_COUNT 1) = (s.rd (F.NODE_CNT_COUNT 1) + 1) % 2 ^ 32 ∧ RegsKept [F.NODE_CNT_COUNT 1] s t ∧
        MemKept s t := by
  obtain ⟨hup, hgood, hframe, hclear, hdir, hver, hmod, htyp, hsec, hslot, hkey, hlen, hfirst⟩ := h
  have hclear' : rx.clear ≠ none := fun hc => by rw [hc] at hclear; exact absurd hclear (by decide)
  have heff : s.joinReq m.toNat rx k.toNat a b = s.inc (F.NODE_CNT_COUNT 1) := by
    unfold State.joinReq
    rw [if_neg (by simp [hup]), if_neg (by simp [hgood]), hframe]
    dsimp -zeta only
    extract_lets oct fc
    have hone : oct 0 1 = 1 := congrArg ofOctetsLE hfirst
    rw [if_neg (by simp [hdir, hver, hmod, htyp, hslot, hsec, hkey]), if_neg hclear', if_neg (by simp [hlen, hone]),
      show s.nodeSlots.find? (fun n => s.nd n 0 8 == oct 1 8) = none from hnone]
    exact if_pos (State.isOn_of_mediumUp hup)
  refine ⟨s.ended (s.inc (F.NODE_CNT_COUNT 1)), congrArg (finish s) heff, ?_,
    State.ended_regsKept fun g hg => s.rd_wr_other _ (hg _ (List.mem_singleton.mpr rfl)), State.ended_memKept rfl⟩
  exact (State.ended_rd _ _ (Fld.notRun (by decide))).trans (State.rd_wr_same ..)

variable {e : Nat} (he : s.nodeSlots.find? (fun n => s.nd n 0 8 == ofOctetsLE ((f.payload.drop 1).take 8)) = some e)
  (hidx : bits f.keyIdx.toNat 0 6 = s.keyData e) (hkeyUp : s.keyUp (s.keyData e) = true)
include he hidx hkeyUp

theorem State.joinReq_known (hne : f.fcnt.toNat ≠ s.field.joinUp.get e (s.floor e true 3)) : s.joinReq m.toNat rx k.toNat a b =
    if f.fcnt.toNat ≤ s.field.joinUp.get e (s.floor e true 3) then s.medCnt m.toNat 3
    else (s.joinCounted m.toNat e rx f).join e m.toNat (ofOctetsLE ((f.payload.drop 9).take 2))
      (ofOctetsLE ((f.payload.drop 11).take 4)) k.toNat a b := by
  obtain ⟨hup, hgood, hframe, hclear, hdir, hver, hmod, htyp, hsec, hslot, hkey, hlen, hfirst⟩ := h
  have hclear' : rx.clear ≠ none := fun hc => by rw [hc] at hclear; exact absurd hclear (by decide)
  unfold State.joinReq
  rw [if_neg (by simp [hup]), if_neg (by simp [hgood]), hframe]
  dsimp -zeta only
  extract_lets oct fc
  have hone : oct 0 1 = 1 := congrArg ofOctetsLE hfirst
  rw [if_neg (by simp [hdir, hver, hmod, htyp, hslot, hsec, hkey]), if_neg hclear', if_neg (by simp [hlen, hone]),
    show s.nodeSlots.find? (fun n => s.nd n 0 8 == oct 1 8) = some e from he]
  dsimp -zeta only
  rw [if_neg (by simp [hidx, hkeyUp])]
  extract_lets last s'
  rw [if_neg (fun hc => hne hc.1)]
  rfl

theorem exec_joinReq_replay (hold : f.fcnt.toNat < s.field.joinUp.get e (s.floor e true 3)) :
    ∃ t, exec (.joinReq m rx k a b) s = .next t ∧ t.field = s.field ∧ t.out = s.out ∧ MemKept s t := by
  have heff := (State.joinReq_known k a b h he hidx hkeyUp (by omega)).trans (if_pos (by omega))
  obtain ⟨hfield, hmem, -⟩ := State.medCnt_field s m.toNat 3
  exact ⟨_, congrArg (finish s) heff, (State.ended_field ..).trans hfield,
    (State.ended_out ..).trans (State.medCnt_out ..), State.ended_memKept hmem⟩

theorem exec_joinReq_fresh (hnew : s.field.joinUp.get e (s.floor e true 3) < f.fcnt.toNat) :
    ∃ t, exec (.joinReq m rx k a b) s = .next t ∧ t.ndState e = 2 ∧ t.ndMedium e = m.toNat ∧
          t.nd e 10 2 = ofOctetsLE ((f.payload.drop 9).take 2) ∧ t.nd e 12 4 = ofOctetsLE ((f.payload.drop 11).take 4) ∧
          (a = false → b = false → t.nd e 24 1 = 15) ∧
          t.rd (F.NODE_CNT_COUNT 0) = (s.rd (F.NODE_CNT_COUNT 0) + 1) % 2 ^ 32 := by
  have heff := (State.joinReq_known k a b h he hidx hkeyUp (by omega)).trans (if_neg (by omega))
  have hcounted := s.joinCounted_step m.toNat e rx f
  have hon : (s.joinCounted m.toNat e rx f).isOn 31 = true := by
    rw [hcounted.isOn (by decide)]
    exact State.isOn_of_mediumUp h.1
  have hoct : ∀ o n, ofOctetsLE ((f.payload.drop o).take n) < 256 ^ n := fun o n =>
    (ofOctetsLE_lt _).trans_le (Nat.pow_le_pow_right (n := 256) (by decide) (List.length_take_le n _))
  obtain ⟨hstate, hmedium, htyp, hfw, hk, hcnt⟩ := (s.joinCounted m.toNat e rx f).join_spec (e := e)
    (State.nodeSlots_lt (List.mem_of_find?_eq_some he)) k.toNat a b hon m.isLt (hoct 9 2) (hoct 11 4)
  refine ⟨_, congrArg (finish s) heff, (State.ended_nd ..).trans hstate, (State.ended_nd ..).trans hmedium,
    (State.ended_nd ..).trans htyp, (State.ended_nd ..).trans hfw, fun ha hb => (State.ended_nd ..).trans (hk ha hb), ?_⟩
  refine (State.ended_rd _ _ (Fld.notRun (by decide))).trans ?_
  rw [hcnt, hcounted.rd _ (by decide)]

end

/-- Settles O26: each clause is the rule of its command, for the states and operands the clause names. -/
theorem nodeCommands : Obligations.NodeCommands := by
  unfold Obligations.NodeCommands
  refine ⟨fun _ _ _ k a b _ h => ⟨exec_joinReq_unknown k a b h, fun _ he hidx hkeyUp =>
      ⟨exec_joinReq_fresh k a b h he hidx hkeyUp, exec_joinReq_replay k a b h he hidx hkeyUp⟩⟩,
    fun _ _ he hstate hlost => exec_nodeLost he hstate hlost, fun req g _ _ hon hsel he => ⟨?_, ?_, ?_, ?_, ?_⟩⟩
  · exact fun _ heui hfree hnew => exec_nodeAdmit hon req hsel he g heui hfree hnew
  · exact exec_evict hon req hsel he
  · exact exec_setGroup hon req hsel he g
  · exact exec_resendProfile hon req hsel he
  · exact exec_setGroup_free hon req hsel g

end Sys2Proof.Machine
end

section
/-!
PROOFS. What a superframe boundary does beside its counts, as steps of the field network (R151 to R157, R164, R201 to R205).
-/
namespace Sys2Proof.Machine

/-- The registers that a superframe boundary may write, beside the SFN and the SFN it publishes. -/
def fieldRegs (key : Nat) : Bool :=
  airKey key || pegKey key || inBlock bSOUND key || decide (0x400600A0 * 32 ≤ key ∧ key < 0x400600D0 * 32) ||
    decide (0x40080200 * 32 ≤ key ∧ key < 0x40080400 * 32) || key == (F.STATE_RUN bFPLC).key || key == (F.STATE_RUN bNODE).key

theorem fieldRegs_air {key : Nat} (h : airKey key = true) : fieldRegs key = true := by simp [fieldRegs, h]
theorem fieldRegs_peg {key : Nat} (h : pegKey key = true) : fieldRegs key = true := by simp [fieldRegs, h]

/-- What a boundary does beside its counts: memory may change, and the registers of `fieldRegs`. -/
abbrev BoundaryStep : State → State → Prop := FieldStep fieldRegs fun _ => False

namespace FieldStep

section
variable (s : State)

theorem ofPegFrame {s t : State} (h : PegFrame s t) : BoundaryStep s t := ofPeg h (fun _ hk => fieldRegs_peg hk) fun _ ha => ha.elim

theorem nodeCounter {i : Nat} (hi : i < 8) : BoundaryStep s (s.nodeCnt i) := nodeCnt s (by
  have h : 0x40080200 * 32 ≤ (F.NODE_CNT_COUNT i).key ∧ (F.NODE_CNT_COUNT i).key < 0x40080400 * 32 := by
    simp only [Fld.key, F.NODE_CNT_COUNT]
    omega
  simp only [fieldRegs, decide_eq_true h, Bool.or_true, Bool.true_or])

theorem entry (e o n v : Nat) : BoundaryStep s (s.setNd e o n v) := setNd s (fun _ ha => ha.elim) v

theorem soundReg {f : Fld} (hf : inBlock bSOUND f.key = true) (v : Nat) : BoundaryStep s (s.wr f v) :=
  wr s (by simp only [fieldRegs, hf, Bool.or_true, Bool.true_or]) v

/-! ### Images not come, moves of counters -/

theorem missedImages (m x : Nat) : BoundaryStep s (s.missedImages m x) :=
  foldl _ (fun t e _ => (ndCnt (i := 7) t fun _ ha => ha.elim).trans (nodeCounter (t.ndCnt e 7) (by decide))) s

theorem recordMoves (e k : Nat) : BoundaryStep s (s.recordMoves e k) := by
  have hzero : ∀ t : State, BoundaryStep t (t.zeroFloors e) := fun t => by
    unfold State.zeroFloors
    split
    · exact ofSame rfl rfl rfl rfl
    · exact refl t
  exact ((entry s e 6 1 k).trans (entry _ e 8 4 0)).trans (hzero _)

theorem sfnMoves : BoundaryStep s s.sfnMoves := by
  unfold State.sfnMoves
  split
  · extract_lets l
    refine trans ?_ (foldl l (fun t e _ => startMove t e) _)
    split
    · exact recordMoves s _ _
    · exact refl s
  · exact refl s

theorem cipChanged : BoundaryStep s s.cipChanged := by
  refine foldl _ (fun t e _ => ?_) s
  extract_lets u fit v k
  have hu : BoundaryStep t u := setField t _ rfl
  have hv : BoundaryStep u v := by
    simp only [v]
    split
    · exact ofPegFrame (PegFrame.raiseEvent u _ _ _)
    · exact refl u
  exact (hu.trans hv).trans (cmdPost (fun _ hk => fieldRegs_air hk) v fun _ ha => ha.elim)

theorem applyImgNew : BoundaryStep s s.applyImgNew := by
  refine foldl _ (fun t e _ => ?_) s
  dsimp only
  split
  · exact ((entry t _ 24 1 _).trans (entry _ _ 26 2 _)).trans (setField _ _ rfl)
  · exact refl t

/-! ### Windows, RUN, counters of the sounding -/

theorem showWindows : BoundaryStep s s.showWindows :=
  foldl _ (fun t f hf => soundReg t (decide_eq_true (by
    have := List.mem_range.mp hf
    simp only [blockBase, bSOUND, blockNo, Fld.key, F.SOUND_FDR_STAT_WINDOW_SUSPENDED]
    omega)) _) s

theorem showFieldRun : BoundaryStep s s.showFieldRun := by
  unfold State.showFieldRun
  extract_lets c r
  exact ((wr s (by decide) _).trans (wr _ (by decide) _)).trans (wr _ (by decide) _)

theorem countSuspended (x : Nat) : BoundaryStep s (s.countSuspended x) := by
  unfold State.countSuspended
  split
  · exact refl s
  · refine foldl _ (fun t f hf => ?_) s
    split
    · exact soundReg t (decide_eq_true (by
        have := List.mem_range.mp hf
        simp only [blockBase, bSOUND, blockNo, Fld.key, F.SOUND_CNT_COUNT]
        omega)) _
    · exact refl t

theorem symTimeSet : BoundaryStep s s.symTimeSet := by
  have hset : ∀ x, BoundaryStep s (s.setSym x) := fun _ => ofSame rfl rfl rfl rfl
  unfold State.symTimeSet
  split
  · exact hset _
  · exact refl s

theorem fieldRegs_feeder {key : Nat} (h : 0x400600A0 * 32 ≤ key ∧ key < 0x400600D0 * 32) : fieldRegs key = true := by
  simp only [fieldRegs, decide_eq_true h, Bool.or_true, Bool.true_or]

theorem showHeard {f : Nat} (hf : f < 12) (mbps : Nat) : BoundaryStep s (s.showHeard f mbps) := by
  have hshow : ∀ n, BoundaryStep s ((s.wr (F.FPLC_FEEDER_STAT_NODES f) n).wr (F.FPLC_FEEDER_STAT_PHY_MBPS f) mbps) := fun n =>
    (wr s (fieldRegs_feeder (by simp only [Fld.key, F.FPLC_FEEDER_STAT_NODES]; omega)) n).trans
      (wr _ (fieldRegs_feeder (by simp only [Fld.key, F.FPLC_FEEDER_STAT_PHY_MBPS]; omega)) mbps)
  exact hshow _

theorem driftLook (e : Nat) : BoundaryStep s (s.driftLook e) := by
  have hlook : BoundaryStep s (((s.setNd e 32 4 0).setNd e 36 4 0).setNd e 44 1 0) :=
    ((entry s e 32 4 0).trans (entry _ e 36 4 0)).trans (entry _ e 44 1 0)
  unfold State.driftLook
  split
  · exact hlook
  · exact refl s

/-! ### Beacons, aggregates, command frames -/

theorem setAllocs (m : Nat) (l : List Alloc) : BoundaryStep s (s.setAllocs m l) := setField s _ rfl

theorem wakeSlots (m : Nat) (a : Alloc) : BoundaryStep s (s.wakeSlots m a) := by
  unfold State.wakeSlots
  extract_lets e
  split
  · rename_i n u _ _
    have hu : BoundaryStep s u := ((couple s m).trans (emit _ _)).trans (entry _ e 148 4 _)
    exact hu.trans (setField u _ rfl)
  · exact refl s

theorem beacon (m : Nat) (l : List Alloc) : BoundaryStep s (s.beacon m l) := by
  have hair : ∀ k, airKey k = true → fieldRegs k = true := fun _ hk => fieldRegs_air hk
  unfold State.beacon
  extract_lets k l
  split
  · exact setAllocs s m []
  · split
    case h_1 => exact (defer hair s m).trans (setAllocs _ m [])
    case h_2 t ht =>
      extract_lets sfn fl pl u v
      have hv : BoundaryStep s v := ((airtime hair ht).trans (putFrame hair t m _ _)).trans (setAllocs u m l)
      split
      · exact hv.trans (foldl l (fun t a _ => wakeSlots t m a) v)
      · exact hv

theorem dropClaim {cl : Claim} (hp : cl.port < 32) (m st : Nat) : BoundaryStep s (s.dropClaim cl m st) := by
  unfold State.dropClaim
  extract_lets u v
  have hu : BoundaryStep s u := by
    simp only [u]
    split
    · exact ofPegFrame ((PegFrame.setDesc s _ _).trans (PegFrame.pcnt _ (i := 14) (PegFrame.qPort_lt _) (by decide)))
    · exact refl s
  have hv : BoundaryStep u v := (medCnt (fun _ hk => fieldRegs_air hk) u m (by decide)).trans
    (ofPegFrame (PegFrame.releaseClaim _ hp))
  exact (hu.trans hv).trans (setField v _ rfl)

theorem takeOutputs (e m : Nat) (poison : Bool) : ∀ (n : Nat) (had : Bool) (s : State), BoundaryStep s (s.takeOutputs e m poison n had) := by
  intro n
  induction n with
  | zero => exact fun had s => refl s
  | succ n ih =>
    intro had s
    unfold State.takeOutputs
    extract_lets q next
    have hnext : ∀ cl t, next = some (cl, t) → cl.port < 32 ∧ BoundaryStep s t := by
      intro cl t h
      simp only [next] at h
      split at h
      case h_1 c hc =>
        cases h
        exact ⟨by rw [PegFrame.port_of_heldClaim hc]; decide, refl s⟩
      case h_2 =>
        split at h
        · have hcl : s.claim q 27 = (cl, t) := Option.some.inj h
          have hport : cl.port = 27 := (congrArg (fun x => x.1.port) hcl).symm.trans (PegFrame.port_claim s q 27)
          have ht : (s.claim q 27).2 = t := congrArg Prod.snd hcl
          exact ⟨by omega, ht ▸ ofPegFrame (PegFrame.claim s q (by decide))⟩
        · cases h
    clear_value next
    cases next with
    | none => exact refl s
    | some x =>
      obtain ⟨cl, t⟩ := x
      obtain ⟨hport, ht⟩ := hnext cl t rfl
      dsimp -zeta only
      split
      · exact (ht.trans (dropClaim t hport m stPOISON)).trans (ih had _)
      · extract_lets p u v
        have hu : BoundaryStep s u := ht.trans (ofPegFrame (PegFrame.releaseClaim t hport))
        have hv : BoundaryStep u v := by
          simp only [v]
          split
          · exact nodeCounter u (by decide)
          · exact refl u
        split
        · exact ((hu.trans hv).trans (entry v e 76 12 _)).trans (ih true _)
        · exact (hu.trans (nodeCounter u (by decide))).trans (ih had _)

theorem aggregate (l : List Nat) (m : Nat) : BoundaryStep s (s.aggregate l m) := by
  have hair : ∀ k, airKey k = true → fieldRegs k = true := fun _ hk => fieldRegs_air hk
  unfold State.aggregate
  extract_lets x due
  split
  · exact refl s
  · split
    case h_1 => exact defer hair s m
    case h_2 t ht =>
      extract_lets u h b air
      have hu : BoundaryStep t u := foldl due (fun v e _ => takeOutputs e m _ _ false v) t
      exact (((((airtime hair ht).trans hu).trans (medCnt hair u m (by decide))).trans (couple _ m)).trans (probeStart _ m)).trans (emit _ _)

theorem sendCmds (m : Nat) : BoundaryStep s (s.sendCmds m) := by
  refine foldl _ (fun t c _ => ?_) s
  dsimp only
  split
  · exact setField t _ rfl
  · have hsend : BoundaryStep t (t.cmdSend c).2 := cmdSend (fun _ hk => fieldRegs_air hk) t fun _ ha => ha.elim
    generalize t.cmdSend c = r at hsend
    obtain ⟨sent, u⟩ := r
    cases sent with
    | true => exact hsend.trans (setField u _ rfl)
    | false => exact hsend

end

end FieldStep

end Sys2Proof.Machine
end

section
/-!
PROOFS. The superframe boundaries and the start of the superframes (R151 to R155, R160, R161, R457).
-/
namespace Sys2Proof.Machine

/-! ## The SFN -/

theorem State.sfnC_wr64 (s : State) (v : Nat) (hv : v < 2 ^ 48) : (s.wr64 F.FPLC_SFN_LO_SFN F.FPLC_SFN_HI_SFN v).sfnC = v := by
  have hhi : (s.wr64 F.FPLC_SFN_LO_SFN F.FPLC_SFN_HI_SFN v).rd F.FPLC_SFN_HI_SFN = v / 2 ^ 32 % 2 ^ 16 := State.rd_wr_same ..
  have hlo : (s.wr64 F.FPLC_SFN_LO_SFN F.FPLC_SFN_HI_SFN v).rd F.FPLC_SFN_LO_SFN = v % 2 ^ 32 :=
    (State.rd_wr_other _ _ (by decide)).trans (State.rd_wr_same ..)
  rw [State.sfnC, State.rd64, hhi, hlo]
  omega

/-- The two words of the carrier SFN kept. -/
theorem State.sfnC_congr {s t : State} (hlo : t.rd F.FPLC_SFN_LO_SFN = s.rd F.FPLC_SFN_LO_SFN)
    (hhi : t.rd F.FPLC_SFN_HI_SFN = s.rd F.FPLC_SFN_HI_SFN) : t.sfnC = s.sfnC := by
  rw [State.sfnC, State.rd64, hlo, hhi, State.sfnC, State.rd64]

theorem FieldStep.sfnC {K : Nat → Bool} {W : Nat → Prop} {s t : State} (h : FieldStep K W s t)
    (hlo : K F.FPLC_SFN_LO_SFN.key = false) (hhi : K F.FPLC_SFN_HI_SFN.key = false) : t.sfnC = s.sfnC :=
  State.sfnC_congr (h.rd _ hlo) (h.rd _ hhi)

theorem State.ended_sfnC (s u : State) : (s.ended u).sfnC = u.sfnC :=
  State.sfnC_congr (State.ended_rd _ _ (Fld.notRun (by decide))) (State.ended_rd _ _ (Fld.notRun (by decide)))

/-- An SFN as NODE_IMG_PUB_C and NODE_IMG_PUB_R publish it. -/
theorem State.rd_imgPub (s : State) {f : Fld} (hf : f = F.NODE_IMG_PUB_C_P ∨ f = F.NODE_IMG_PUB_R_P) (n : Nat) :
    (s.wr f (n % 2 ^ 32)).rd f = n % 2 ^ 32 := by
  have hw : f.width = 32 := by rcases hf with rfl | rfl <;> rfl
  rw [State.rd_wr_same, hw, Nat.mod_mod]

theorem State.wr_imgPubC (s : State) (n : Nat) :
    (s.wr F.NODE_IMG_PUB_C_P n).field = s.field ∧ (s.wr F.NODE_IMG_PUB_C_P n).sfnC = s.sfnC :=
  ⟨rfl, State.sfnC_congr (State.rd_wr_other _ _ (by decide)) (State.rd_wr_other _ _ (by decide))⟩

theorem State.pendingIn_of_due {s : State} {b : Nat} (h : s.shadow.filter (fun e => inBlock b e.1) = []) : s.pendingIn b = false := by
  rw [State.pendingIn, ← Bool.not_eq_true, List.any_eq_true]
  rintro ⟨e, he, hb⟩
  exact List.not_mem_nil (h ▸ List.mem_filter.mpr ⟨he, hb⟩)

/-- A commit point of a block other than the Pegbox, none of whose fields waits. -/
theorem FieldStep.commit_eq {K : Nat → Bool} {W : Nat → Prop} {s t : State} (h : FieldStep K W s t) {b : Nat} (hb : b ≠ bPEG)
    (hs : s.pendingIn b = false) : t.commit b = t := State.commit_of_no_due (h.pendingIn hb hs)

/-- Beacons, image aggregates and the command frames that wait, of the media `l`. -/
theorem FieldStep.sendAll (s : State) (l : List Nat) (f : State → Nat → List Alloc) (ps : List Nat) : BoundaryStep s
    (l.foldl State.sendCmds (l.foldl (State.aggregate · ps) (l.foldl (fun s m => s.beacon m (f s m)) s))) :=
  ((FieldStep.foldl l (fun t m _ => .beacon t m (f t m)) s).trans (.foldl l (fun t m _ => .aggregate t ps m) _)).trans
    (.foldl l (fun t m _ => .sendCmds t m) _)

/-! ## The carrier boundary (R151, R153) -/

/-- The machine once the carrier SFN is `v`, a boundary later. -/
def State.carrierAt (s : State) (v : Nat) : State :=
  let t := s.wr64 F.FPLC_SFN_LO_SFN F.FPLC_SFN_HI_SFN v
  t.setField { t.field with cAt := t.field.cAt + 1 }

theorem State.carrierAt_spec (s : State) {v : Nat} (hv : v < 2 ^ 48) : (s.carrierAt v).field.cAt = s.field.cAt + 1 ∧
    (s.carrierAt v).sfnC = v ∧ (s.carrierAt v).shadow = s.shadow ∧ (s.carrierAt v).isOn 31 = s.isOn 31 := by
  have hon : (s.wr64 F.FPLC_SFN_LO_SFN F.FPLC_SFN_HI_SFN v).rd (F.PWR_DOM_STATE_STATE 31) = s.rd (F.PWR_DOM_STATE_STATE 31) :=
    (State.rd_wr_other _ _ (by decide)).trans (State.rd_wr_other _ _ (by decide))
  refine ⟨rfl, s.sfnC_wr64 v hv, rfl, ?_⟩
  rw [State.isOn, State.isOn, State.dom, State.dom, ← hon]
  rfl

/-- The commit points of a carrier boundary at SFN `x`, with what comes before and what follows them. -/
def State.carrierCommit (s : State) (x : Nat) : State :=
  let s := (List.range 12).foldl (fun s f => s.missedImages f x) s
  let cip := s.rd F.FPLC_SF_CFG_CIP_LEN
  let s := ((s.sfnMoves).commit bFPLC).commit bNODE
  let s := if s.rd F.FPLC_SF_CFG_CIP_LEN ≠ cip then s.cipChanged else s
  (s.applyImgNew.showWindows).showFieldRun

/-- What a carrier boundary sends. -/
def State.carrierSend (s : State) (allocs : List (Nat × Alloc)) (poisoned : List Nat) : State :=
  (List.range 12).foldl State.sendCmds ((List.range 12).foldl (State.aggregate · poisoned) ((List.range 12).foldl
    (fun s f => s.beacon f (s.keepQuiet f ((allocs.filter (fun a => a.1 == f)).map (·.2)))) s))

theorem FieldStep.carrierSend (s : State) (l : List (Nat × Alloc)) (ps : List Nat) : BoundaryStep s (s.carrierSend l ps) :=
  sendAll s _ _ ps

/-- The windows of the sounding suspended in this superframe counted. -/
def State.countSuspension (s : State) : State := s.countSuspended s.sfnC

theorem FieldStep.countSuspension (s : State) : BoundaryStep s s.countSuspension := countSuspended s s.sfnC

/-- What a carrier boundary at SFN `x` does once its SFN has gone on. -/
def State.carrierRest (s : State) (x : Nat) (allocs : List (Nat × Alloc)) (poisoned : List Nat) : State :=
  (((s.carrierCommit x).wr F.NODE_IMG_PUB_C_P ((s.carrierCommit x).sfnC % 2 ^ 32)).carrierSend allocs poisoned).countSuspension

theorem State.carrierFrame_eq (s : State) (l : List (Nat × Alloc)) (ps : List Nat) : s.carrierFrame l ps =
    if ¬ (s.carrierAt ((s.sfnC + 1) % 2 ^ 48)).isOn 31 then s.carrierAt ((s.sfnC + 1) % 2 ^ 48)
    else (s.carrierAt ((s.sfnC + 1) % 2 ^ 48)).carrierRest s.sfnC l ps := rfl

theorem State.carrierCommit_step (u : State) (x : Nat) (hfplc : u.pendingIn bFPLC = false) (hnode : u.pendingIn bNODE = false) :
    BoundaryStep u (u.carrierCommit x) := by
  unfold State.carrierCommit
  extract_lets a0 cip a1 a2
  have hmissed : BoundaryStep u a0 := .foldl _ (fun t m _ => .missedImages t m x) _
  have hmoves : BoundaryStep u a0.sfnMoves := hmissed.trans (.sfnMoves a0)
  have hcommits : a1 = a0.sfnMoves := by
    simp only [a1]
    rw [hmoves.commit_eq (by decide) hfplc, hmoves.commit_eq (by decide) hnode]
  have hcip : BoundaryStep a1 a2 := by
    simp only [a2]
    split
    · exact .cipChanged a1
    · exact .refl a1
  exact ((hmoves.trans (hcommits ▸ hcip)).trans (.applyImgNew a2)).trans ((FieldStep.showWindows _).trans (.showFieldRun _))

theorem State.carrierRest_spec (u : State) (x : Nat) (l : List (Nat × Alloc)) (ps : List Nat) (hfplc : u.pendingIn bFPLC = false)
    (hnode : u.pendingIn bNODE = false) : (u.carrierRest x l ps).field.cAt = u.field.cAt ∧ (u.carrierRest x l ps).sfnC = u.sfnC ∧
      (u.carrierRest x l ps).rd F.NODE_IMG_PUB_C_P = u.sfnC % 2 ^ 32 := by
  have hv := u.carrierCommit_step x hfplc hnode
  unfold State.carrierRest
  generalize u.carrierCommit x = v at hv
  have hvsfn : v.sfnC = u.sfnC := hv.sfnC (by decide) (by decide)
  have hpub := v.rd_imgPub (f := F.NODE_IMG_PUB_C_P) (.inl rfl) v.sfnC
  obtain ⟨hwfield, hwsfn⟩ := v.wr_imgPubC (v.sfnC % 2 ^ 32)
  generalize v.wr F.NODE_IMG_PUB_C_P (v.sfnC % 2 ^ 32) = w at *
  have hend := (FieldStep.carrierSend w l ps).trans (.countSuspension _)
  refine ⟨?_, ?_, ?_⟩
  · rw [hend.cAt, hwfield, hv.cAt]
  · rw [hend.sfnC (by decide) (by decide), hwsfn, hvsfn]
  · rw [hend.rd _ (by decide), hpub, hvsfn]

theorem State.carrierFrame_spec (s : State) (l : List (Nat × Alloc)) (ps : List Nat) (hfplc : s.pendingIn bFPLC = false)
    (hnode : s.pendingIn bNODE = false) : (s.carrierFrame l ps).field.cAt = s.field.cAt + 1 ∧
      (s.carrierFrame l ps).sfnC = (s.sfnC + 1) % 2 ^ 48 ∧
      (s.isOn 31 = true → (s.carrierFrame l ps).rd F.NODE_IMG_PUB_C_P = (s.sfnC + 1) % 2 ^ 32) := by
  obtain ⟨hcAt, hsfn, hshadow, hon⟩ := s.carrierAt_spec (v := (s.sfnC + 1) % 2 ^ 48) (Nat.mod_lt _ (by decide))
  rw [State.carrierFrame_eq]
  generalize s.carrierAt ((s.sfnC + 1) % 2 ^ 48) = u at *
  have hpend : ∀ b, u.pendingIn b = s.pendingIn b := fun b => by rw [State.pendingIn, hshadow, State.pendingIn]
  obtain ⟨hrest, hrestSfn, hpub⟩ := u.carrierRest_spec s.sfnC l ps ((hpend _).trans hfplc) ((hpend _).trans hnode)
  by_cases h31 : u.isOn 31 = true
  · rw [if_neg (by simp [h31])]
    refine ⟨hrest.trans hcAt, hrestSfn.trans hsfn, fun _ => ?_⟩
    rw [hpub, hsfn]
    omega
  · rw [if_pos h31]
    exact ⟨hcAt, hsfn, fun h => absurd (hon.trans h) h31⟩

theorem exec_carrierBoundary {l : List (Fin 12 × Alloc)} {ps : List (BitVec 14)} {s : State} (hstarted : s.field.started = true)
    (hon : s.isOn 45 = true) (hdue : s.field.cAt < s.tb2Ns / 10000000) (hfirst : s.field.cAt < 100 * s.field.rAt + 99)
    (hfplc : s.pendingIn bFPLC = false) (hnode : s.pendingIn bNODE = false) :
    ∃ t, exec (.carrierBoundary l ps) s = .next t ∧ t.field.cAt = s.field.cAt + 1 ∧ t.sfnC = (s.sfnC + 1) % 2 ^ 48 ∧
      (s.isOn 31 = true → t.rd F.NODE_IMG_PUB_C_P = (s.sfnC + 1) % 2 ^ 32) := by
  have heff : ∀ l ps, s.carrierBoundary l ps = (s.carrierFrame l ps).symTimeSet := fun _ _ =>
    if_pos ⟨hstarted, hon, hdue, hfirst⟩
  obtain ⟨hcAt, hsfn, hpub⟩ := s.carrierFrame_spec (l.map fun x => (x.1.val, x.2)) (ps.map (·.toNat)) hfplc hnode
  have hset := FieldStep.symTimeSet (s.carrierFrame (l.map fun x => (x.1.val, x.2)) (ps.map (·.toNat)))
  refine ⟨_, congrArg (finish s) (heff _ _), ?_, ?_, fun h => ?_⟩
  · exact (congrArg FieldState.cAt (s.ended_field _)).trans (hset.cAt.trans hcAt)
  · exact (s.ended_sfnC _).trans ((hset.sfnC (by decide) (by decide)).trans hsfn)
  · exact (State.ended_rd _ _ (Fld.notRun (by decide))).trans ((hset.rd _ (by decide)).trans (hpub h))

/-! ## The radio boundary (R151, R155, R161) -/

theorem State.journal_step (s : State) {K : Nat → Bool} {W : Nat → Prop} : FieldStep K W s s.jrnSfn.jrnAir := by
  have hair : ∀ t : State, FieldStep K W t t.jrnAir := fun t => by
    unfold State.jrnAir
    split
    · split
      · exact .ofSame rfl rfl rfl rfl
      · exact .refl t
    · exact .refl t
  refine FieldStep.trans ?_ (hair _)
  unfold State.jrnSfn
  split
  · split
    · exact .ofSame rfl rfl rfl rfl
    · exact .refl s
  · exact .refl s

/-- The commit point of a radio boundary at SFN `x`, with what comes before and what follows it. -/
def State.radioCommit (s : State) (x : Nat) : State :=
  let s := ((List.range 4).map (16 + ·)).foldl (fun s m => s.missedImages m x) s
  let s := (if s.blockOn bFRAD then s.commit bFRAD else s).showFieldRun
  s.nodeSlots.foldl State.driftLook s

/-- What a radio boundary sends. -/
def State.radioSend (s : State) (allocs : List (Nat × Alloc)) (poisoned : List Nat) : State :=
  let media := (List.range 4).map (16 + ·)
  media.foldl State.sendCmds (media.foldl (State.aggregate · poisoned) (media.foldl
    (fun s m => s.beacon m ((allocs.filter (fun a => 16 + a.1 == m)).map (·.2))) s))

theorem FieldStep.radioSend (s : State) (l : List (Nat × Alloc)) (ps : List Nat) : BoundaryStep s (s.radioSend l ps) :=
  sendAll s _ _ ps

/-- The nodes heard on each feeder counted, with the PHY rates `mbps`. -/
def State.showAllHeard (s : State) (mbps : List (Nat × Nat)) : State :=
  (List.range 12).foldl (fun s f => s.showHeard f (((mbps.find? (fun p => p.1 == f)).map (·.2)).getD 0)) s

theorem FieldStep.showAllHeard (s : State) (mbps : List (Nat × Nat)) : BoundaryStep s (s.showAllHeard mbps) :=
  foldl _ (fun t _ hf => showHeard t (List.mem_range.mp hf) _) s

/-- What a radio boundary at SFN `x` does once its SFN has gone on and is recorded. -/
def State.radioRest (s : State) (x : Nat) (allocs : List (Nat × Alloc)) (mbps : List (Nat × Nat)) (poisoned : List Nat) : State :=
  (((s.radioCommit x).wr F.NODE_IMG_PUB_R_P ((s.radioCommit x).field.sfnR % 2 ^ 32)).radioSend allocs poisoned).showAllHeard mbps

/-- The machine once the radio SFN is `v`, a boundary later, and recorded where it is due. -/
def State.radioAt (s : State) (v : Nat) : State :=
  let s := s.setField { s.field with sfnR := v, rAt := s.field.rAt + 1 }
  if s.field.sfnR % 60 = 0 then s.jrnSfn.jrnAir else s

theorem State.radioAt_spec (s : State) (v : Nat) : (s.radioAt v).field.rAt = s.field.rAt + 1 ∧ (s.radioAt v).field.sfnR = v ∧
    (s.radioAt v).isOn 31 = s.isOn 31 ∧
    ((s.radioAt v).shadow.filter (fun e => inBlock bFRAD e.1) = s.shadow.filter (fun e => inBlock bFRAD e.1)) := by
  unfold State.radioAt
  extract_lets _ u
  have hu : BoundaryStep u (if u.field.sfnR % 60 = 0 then u.jrnSfn.jrnAir else u) := by
    split
    · exact u.journal_step
    · exact .refl u
  refine ⟨hu.rAt, hu.sfnR, ?_, hu.due bFRAD (by decide)⟩
  rw [State.isOn, State.dom, hu.rd _ (by decide)]
  rfl

theorem State.radioBoundary_eq {s : State} (l : List (Nat × Alloc)) (m : List (Nat × Nat)) (ps : List Nat)
    (hdue : s.field.started ∧ s.isOn 45 ∧ s.field.rAt < s.tb2Ns / 1000000000 ∧ s.field.cAt = 100 * s.field.rAt + 99) :
    s.radioBoundary l m ps = if ¬ (s.radioAt ((s.field.sfnR + 1) % 2 ^ 48)).isOn 31 then s.radioAt ((s.field.sfnR + 1) % 2 ^ 48)
      else (s.radioAt ((s.field.sfnR + 1) % 2 ^ 48)).radioRest s.field.sfnR l m ps := by
  unfold State.radioBoundary State.radioRest State.radioCommit State.radioSend State.showAllHeard State.radioAt
  rw [if_neg (not_not.mpr hdue)]

theorem State.radioCommit_step (u : State) (x : Nat) (hfrad : u.pendingIn bFRAD = false) : BoundaryStep u (u.radioCommit x) := by
  unfold State.radioCommit
  extract_lets a0 a1
  have ha0 : BoundaryStep u a0 := .foldl _ (fun t m _ => .missedImages t m x) _
  have hcommit : (if a0.blockOn bFRAD then a0.commit bFRAD else a0) = a0 := by
    rw [ha0.commit_eq (by decide) hfrad, ite_self]
  refine FieldStep.trans ?_ (.foldl _ (fun t e _ => .driftLook t e) _)
  simp only [a1]
  rw [hcommit]
  exact ha0.trans (.showFieldRun a0)

theorem State.radioRest_spec (u : State) (x : Nat) (l : List (Nat × Alloc)) (m : List (Nat × Nat)) (ps : List Nat)
    (hfrad : u.pendingIn bFRAD = false) : (u.radioRest x l m ps).field.rAt = u.field.rAt ∧
      (u.radioRest x l m ps).field.sfnR = u.field.sfnR ∧ (u.radioRest x l m ps).rd F.NODE_IMG_PUB_R_P = u.field.sfnR % 2 ^ 32 := by
  have hv := u.radioCommit_step x hfrad
  unfold State.radioRest
  generalize u.radioCommit x = v at hv
  have hpub := v.rd_imgPub (f := F.NODE_IMG_PUB_R_P) (.inr rfl) v.field.sfnR
  have hkept : ∀ n, (v.wr F.NODE_IMG_PUB_R_P n).field = v.field := fun _ => rfl
  have hwfield := hkept (v.field.sfnR % 2 ^ 32)
  generalize v.wr F.NODE_IMG_PUB_R_P (v.field.sfnR % 2 ^ 32) = w at *
  have hend := (FieldStep.radioSend w l ps).trans (.showAllHeard _ m)
  refine ⟨?_, ?_, ?_⟩
  · rw [hend.rAt, hwfield, hv.rAt]
  · rw [hend.sfnR, hwfield, hv.sfnR]
  · rw [hend.rd _ (by decide), hpub, hv.sfnR]

theorem State.radioBoundary_spec {s : State} (l : List (Nat × Alloc)) (m : List (Nat × Nat)) (ps : List Nat)
    (hdue : s.field.started ∧ s.isOn 45 ∧ s.field.rAt < s.tb2Ns / 1000000000 ∧ s.field.cAt = 100 * s.field.rAt + 99)
    (hfrad : s.pendingIn bFRAD = false) : (s.radioBoundary l m ps).field.rAt = s.field.rAt + 1 ∧
      (s.radioBoundary l m ps).field.sfnR = (s.field.sfnR + 1) % 2 ^ 48 ∧
      (s.isOn 31 = true → (s.radioBoundary l m ps).rd F.NODE_IMG_PUB_R_P = (s.field.sfnR + 1) % 2 ^ 48 % 2 ^ 32) := by
  rw [State.radioBoundary_eq l m ps hdue]
  obtain ⟨hrAt, hsfnR, hon, hshadow⟩ := s.radioAt_spec ((s.field.sfnR + 1) % 2 ^ 48)
  generalize s.radioAt ((s.field.sfnR + 1) % 2 ^ 48) = u at *
  have hpend : u.pendingIn bFRAD = false := State.pendingIn_of_due (hshadow.trans (State.due_of_pendingIn hfrad))
  obtain ⟨hrest, hrestSfn, hpub⟩ := u.radioRest_spec s.field.sfnR l m ps hpend
  by_cases h31 : u.isOn 31 = true
  · rw [if_neg (by simp [h31])]
    exact ⟨hrest.trans hrAt, hrestSfn.trans hsfnR, fun _ => hpub.trans (by rw [hsfnR])⟩
  · rw [if_pos h31]
    exact ⟨hrAt, hsfnR, fun h => absurd (hon.trans h) h31⟩

theorem exec_radioBoundary {l : List (Fin 4 × Alloc)} {m : List (Fin 12 × Byte)} {ps : List (BitVec 14)} {s : State}
    (hdue : s.field.started ∧ s.isOn 45 ∧ s.field.rAt < s.tb2Ns / 1000000000 ∧ s.field.cAt = 100 * s.field.rAt + 99)
    (hfrad : s.pendingIn bFRAD = false) :
    ∃ t, exec (.radioBoundary l m ps) s = .next t ∧ t.field.rAt = s.field.rAt + 1 ∧ t.field.sfnR = (s.field.sfnR + 1) % 2 ^ 48 ∧
      (s.isOn 31 = true → t.rd F.NODE_IMG_PUB_R_P = (s.field.sfnR + 1) % 2 ^ 48 % 2 ^ 32) := by
  obtain ⟨hrAt, hsfnR, hpub⟩ := State.radioBoundary_spec (l.map fun x => (x.1.val, x.2)) (m.map fun x => (x.1.val, x.2.toNat))
    (ps.map (·.toNat)) hdue hfrad
  refine ⟨_, rfl, ?_, ?_, fun h => ?_⟩
  · exact (congrArg FieldState.rAt (s.ended_field _)).trans hrAt
  · exact (congrArg FieldState.sfnR (s.ended_field _)).trans hsfnR
  · exact (State.ended_rd _ _ (Fld.notRun (by decide))).trans (hpub h)

end Sys2Proof.Machine
end

section
/-!
PROOFS. The start of the superframes (R160, R161, R457).
-/
namespace Sys2Proof.Machine

/-- The registers that the start of the superframes may write beside the SFN. -/
def startRegs (key : Nat) : Bool := fieldRegs key || key == F.NODE_IMG_PUB_C_P.key || key == F.NODE_IMG_PUB_R_P.key

/-- What the start of the superframes does once they have started: memory may change, and the registers of `startRegs`. -/
abbrev StartStep : State → State → Prop := FieldStep startRegs fun _ => False

namespace FieldStep

section
variable (s : State)

theorem start {s t : State} (h : BoundaryStep s t) : StartStep s t := h.mono (fun _ hk => by simp [startRegs, hk]) fun _ ha => ha

theorem anyCounters (e : Nat) : BoundaryStep s (s.startCounters e) := by
  have hset : ∀ (t : State) (o n v : Nat), BoundaryStep t (t.setNd e o n v) := fun t o n v => entry t e o n v
  by_cases he : e < 16320
  · exact startCounters s he fun _ ha => ha.elim
  · unfold State.startCounters
    rw [if_neg he]
    split
    · exact hset s 8 4 _
    · exact refl s

theorem replacementStart : BoundaryStep s s.replacementStart := by
  have hset : ∀ (t : State) (e o n v : Nat), BoundaryStep t (t.setNd e o n v) := entry
  unfold State.replacementStart
  extract_lets bad u l v _ w _ x
  have hu : BoundaryStep s u := by
    refine foldl _ (fun t e _ => ?_) s
    split
    · exact recordMoves t e _
    · exact hset t e 8 4 _
  have hv : BoundaryStep u v := by
    refine foldl _ (fun t e _ => ?_) u
    split
    · exact hset t e 60 4 _
    · exact startMove t e
  have hrepl : ∀ (t : State) (l : List Nat), BoundaryStep t (t.setField { t.field with replUp := l }) := fun t _ => setField t _ rfl
  have hw : BoundaryStep v w := hrepl v l
  have hdue : ∀ t : State, BoundaryStep t { t with time := { t.time with profileDue := true } } := fun _ => ofSame rfl rfl rfl rfl
  have hx : BoundaryStep w x := hdue w
  clear_value u v w x
  have hall := ((hu.trans hv).trans hw).trans hx
  split
  · exact hall.trans (ofPegFrame (PegFrame.raiseEvent x _ _ _))
  · exact hall

end

end FieldStep

/-! ## The start -/

/-- The machine once the superframes have started at radio SFN `x` and carrier SFN `v`, `frac` into a second. -/
def State.startAt (s : State) (frac x v : Nat) : State :=
  let s := { s with time := { s.time with tb2 := frac } }
  let s := if s.tb0Valid then s.wr F.TIME_TB2_STAT_ALIGN_US 0 else s
  let s := s.setField { s.field with started := true, sfnR := x, cAt := 0, rAt := 0 }
  s.wr64 F.FPLC_SFN_LO_SFN F.FPLC_SFN_HI_SFN v

theorem State.startAt_spec (s : State) (frac x : Nat) {v : Nat} (hv : v < 2 ^ 48) : (s.startAt frac x v).field.started = true ∧
    (s.startAt frac x v).field.sfnR = x ∧ (s.startAt frac x v).sfnC = v ∧ (s.startAt frac x v).time.tb2 = frac ∧
    (s.tb0Valid = true → (s.startAt frac x v).rd F.TIME_TB2_STAT_ALIGN_US = 0) ∧ (s.startAt frac x v).shadow = s.shadow := by
  have hvalid : State.tb0Valid { s with time := { s.time with tb2 := frac } } = s.tb0Valid := rfl
  unfold State.startAt
  extract_lets _ u w _ y
  have hu : w.time.tb2 = frac ∧ w.shadow = s.shadow ∧ (s.tb0Valid = true → w.rd F.TIME_TB2_STAT_ALIGN_US = 0) := by
    simp only [w]
    split
    case isTrue => exact ⟨rfl, rfl, fun _ => State.rd_wr_fits _ _ (by decide)⟩
    case isFalse h => exact ⟨rfl, rfl, fun h' => absurd (hvalid.trans h') h⟩
  obtain ⟨htb2, hshadow, halign⟩ := hu
  clear_value w
  refine ⟨rfl, rfl, y.sfnC_wr64 v hv, htb2, fun h => ?_, hshadow⟩
  exact ((State.rd_wr_other _ _ (by decide)).trans (State.rd_wr_other _ _ (by decide))).trans (halign h)

/-- The SFN recorded and published, the counters started, the commit points. -/
def State.startRest (s : State) (r : Nat) : State :=
  let s := if r % 60 = 0 then s.jrnSfn.jrnAir else s
  let s := (s.wr F.NODE_IMG_PUB_C_P s.sfnC).wr F.NODE_IMG_PUB_R_P r
  let s := if s.hasFloors then (s.nodeSlots ++ sharedEntries).foldl State.startCounters s else s.replacementStart
  let s := (s.commit bFPLC).commit bNODE
  (if s.blockOn bFRAD then s.commit bFRAD else s).showFieldRun

theorem State.superframeStart_eq {s : State} {n v r : Nat} (hgo : ¬ (s.field.started ∨ ¬ s.allOn [31, 45] ∨ n = 0))
    (hr : s.startSfn v = some r) : s.superframeStart n v =
      (s.startAt (if s.tb0Valid then s.tb0 % (1000000000 * 65536) else 0) (r % 2 ^ 48) (100 * r % 2 ^ 48)).startRest r := by
  unfold State.superframeStart State.startRest State.startAt
  rw [if_neg hgo, hr]

theorem State.startRest_step (u : State) (r : Nat) (hfplc : u.pendingIn bFPLC = false) (hnode : u.pendingIn bNODE = false)
    (hfrad : u.pendingIn bFRAD = false) : StartStep u (u.startRest r) := by
  unfold State.startRest
  extract_lets a0 a1 a2 a3
  have h0 : StartStep u a0 := by
    simp only [a0]
    split
    · exact u.journal_step
    · exact .refl u
  have hpub : ∀ x y, StartStep a0 ((a0.wr F.NODE_IMG_PUB_C_P x).wr F.NODE_IMG_PUB_R_P y) := fun x y =>
    (FieldStep.wr a0 (by decide) x).trans (.wr _ (by decide) y)
  have h1 : StartStep a0 a1 := hpub _ r
  clear_value a0 a1
  have h2 : StartStep a1 a2 := by
    simp only [a2]
    split
    · exact .start (.foldl _ (fun t e _ => .anyCounters t e) a1)
    · exact .start (.replacementStart a1)
  have hall : StartStep u a2 := (h0.trans h1).trans h2
  have h3 : a3 = a2 := by
    simp only [a3]
    rw [hall.commit_eq (by decide) hfplc, hall.commit_eq (by decide) hnode]
  have hcommit : (if a3.blockOn bFRAD then a3.commit bFRAD else a3) = a2 := by
    rw [h3, hall.commit_eq (by decide) hfrad, ite_self]
  rw [hcommit]
  exact hall.trans (.start (.showFieldRun a2))

/-- The SFN that the start takes, in the three cases of R161. -/
theorem State.startSfn_eq {s : State} {v r : Nat}
    (h : (s.tb0Valid = true ∧ s.tb0Ns % 1000000000 < 1000 ∧ s.journalSfn = none ∧ v ≠ 0 ∧ r = s.tb0Sec) ∨
       (s.tb0Valid = true ∧ s.tb0Ns % 1000000000 < 1000 ∧ ∃ b, s.journalSfn = some b ∧ r = max s.tb0Sec b) ∨
       (s.tb0Valid = false ∧ s.journalSfn = some r)) : s.startSfn v = some r := by
  unfold State.startSfn
  obtain ⟨hvalid, hns, hj, hv, rfl⟩ | ⟨hvalid, hns, b, hj, rfl⟩ | ⟨hvalid, hj⟩ := h
  · rw [if_pos hvalid, if_neg (by omega), hj]
    exact if_neg hv
  · rw [if_pos hvalid, if_neg (by omega), hj]
  · rw [if_neg (by simp [hvalid]), hj]

theorem exec_superframeStart {n v r : Nat} {s : State} (hstopped : s.field.started = false) (hon : s.allOn [31, 45] = true)
    (hn : n ≠ 0) (hfplc : s.pendingIn bFPLC = false) (hnode : s.pendingIn bNODE = false) (hfrad : s.pendingIn bFRAD = false)
    (hr : s.startSfn v = some r) : ∃ t, exec (.superframeStart n v) s = .next t ∧ t.field.started = true ∧
      t.field.sfnR = r % 2 ^ 48 ∧ t.sfnC = 100 * r % 2 ^ 48 ∧
      t.time.tb2 = (if s.tb0Valid then s.tb0 % (1000000000 * 65536) else 0) ∧
      (s.tb0Valid = true → t.rd F.TIME_TB2_STAT_ALIGN_US = 0) := by
  have heff := State.superframeStart_eq (v := v) (n := n) (by simp [hstopped, hon, hn]) hr
  obtain ⟨hstarted, hsfnR, hsfn, htb2, halign, hshadow⟩ := s.startAt_spec (if s.tb0Valid then s.tb0 % (1000000000 * 65536) else 0)
    (r % 2 ^ 48) (v := 100 * r % 2 ^ 48) (Nat.mod_lt _ (by decide))
  generalize s.startAt (if s.tb0Valid then s.tb0 % (1000000000 * 65536) else 0) (r % 2 ^ 48) (100 * r % 2 ^ 48) = u at *
  have hpend : ∀ b, u.pendingIn b = s.pendingIn b := fun b => by rw [State.pendingIn, hshadow, State.pendingIn]
  have hrest := u.startRest_step r ((hpend _).trans hfplc) ((hpend _).trans hnode) ((hpend _).trans hfrad)
  refine ⟨_, congrArg (finish s) heff, ?_, ?_, ?_, ?_, fun h => ?_⟩
  · exact (congrArg FieldState.started (s.ended_field _)).trans (hrest.started.trans hstarted)
  · exact (congrArg FieldState.sfnR (s.ended_field _)).trans (hrest.sfnR.trans hsfnR)
  · exact (s.ended_sfnC _).trans ((hrest.sfnC (by decide) (by decide)).trans hsfn)
  · exact (congrArg TimeState.tb2 (s.ended_time _)).trans (hrest.tb2.trans htb2)
  · exact (State.ended_rd _ _ (Fld.notRun (by decide))).trans ((hrest.rd _ (by decide)).trans (halign h))

end Sys2Proof.Machine
end

section
/-!
PROOFS. The books of airtime (R165 to R168).
-/
namespace Sys2Proof.Machine

/-! ## One book -/

/-- A field outside FRAD_TOKEN. -/
def OffToken (g : Fld) : Prop := ∀ r i, r < 7 → i < 4 → g.key ≠ (F.FRAD_TOKEN_VALUE r i).key

theorem offToken_duty {b : Nat} (hb : b < 5) : OffToken (F.FRAD_SUBBAND_CFG_DUTY_CENT b) := fun r i _ _ => by
  simp only [Fld.key, F.FRAD_SUBBAND_CFG_DUTY_CENT, F.FRAD_TOKEN_VALUE]
  omega

theorem offToken_of_block {g : Fld} (hg : inBlock bFRAD g.key = false) : OffToken g := fun r i hr hi he => by
  have := of_decide_eq_false hg
  rw [he] at this
  simp only [Fld.key, F.FRAD_TOKEN_VALUE, blockBase, bFRAD, blockNo] at this
  omega

section
variable (s : State) (b : Nat) (k : Book)

theorem State.showBook_rd {g : Fld} (hg : OffToken g) : (s.showBook b).rd g = s.rd g := by
  have hwr : ∀ (t : State) (r i v : Nat), r < 7 → i < 4 → (t.wr (F.FRAD_TOKEN_VALUE r i) v).rd g = t.rd g :=
    fun t r i v hr hi => t.rd_wr_other v (hg r i hr hi)
  unfold State.showBook
  extract_lets row l u v w
  have hrow : row < 7 := by
    simp only [row]
    split
    · omega
    · split <;> decide
  clear_value row l
  exact (hwr w row 3 _ hrow (by decide)).trans ((hwr v row 2 _ hrow (by decide)).trans ((hwr u row 1 _ hrow (by decide)).trans
    (hwr s row 0 _ hrow (by decide))))

theorem State.setBook_rd {g : Fld} (hg : OffToken g) : (s.setBook b k).rd g = s.rd g := State.showBook_rd _ b hg

theorem State.setBook_frame : (s.setBook b k).mem = s.mem ∧ (s.setBook b k).bucketSec = s.bucketSec ∧
    (s.setBook b k).field = { s.field with books := s.field.books.set b k } :=
  ⟨rfl, rfl, rfl⟩

end

/-- Books and their budgets kept. -/
theorem State.book_congr {s t : State} {b : Nat} (hbooks : t.field.books = s.field.books)
    (hduty : b < 5 → t.rd (F.FRAD_SUBBAND_CFG_DUTY_CENT b) = s.rd (F.FRAD_SUBBAND_CFG_DUTY_CENT b)) : t.book b = s.book b := by
  have hbudget : t.bookBudget b = s.bookBudget b := by
    unfold State.bookBudget
    split
    case isTrue hb => rw [hduty hb]
    case isFalse => rfl
  rw [State.book, State.book, hbooks, hbudget]

theorem State.ended_book (s u : State) (b : Nat) : (s.ended u).book b = u.book b :=
  State.book_congr (congrArg FieldState.books (s.ended_field u)) fun hb =>
    State.ended_rd _ _ (Fld.notRun (by simp only [F.FRAD_SUBBAND_CFG_DUTY_CENT]; omega))

section
variable (s : State) (b : Nat) (k : Book)

@[simp] theorem State.setBook_book_same : (s.setBook b k).book b = k := by
  obtain ⟨-, -, hfield⟩ := s.setBook_frame b k
  rw [State.book, hfield]
  exact AMap.get_set_same ..

theorem State.setBook_book_other {c : Nat} (h : c ≠ b) : (s.setBook b k).book c = s.book c := by
  obtain ⟨-, -, hfield⟩ := s.setBook_frame b k
  have hbudget : (s.setBook b k).bookBudget c = s.bookBudget c := by
    unfold State.bookBudget
    split
    case isTrue hc => rw [s.setBook_rd b k (offToken_duty hc)]
    case isFalse => rfl
  rw [State.book, hfield, hbudget]
  exact AMap.get_set_other _ _ _ h

end

/-! ## The end of a transmission (R166) -/

theorem exec_endOfTransmission {r : Fin 4} {us : BitVec 32} {x : Resv} {s : State}
    (hx : s.field.resv.find? (fun y => y.radio == r.val) = some x) :
    ∃ t, exec (.endOfTransmission r us) s = .next t ∧ t.field.resv = s.field.resv.erase x ∧
      (t.book x.book).avail = (s.book x.book).avail + (x.tokens : Int) - (us.toNat : Int) ∧
      (t.book x.book).reserved = (s.book x.book).reserved - x.tokens ∧
      (t.book x.book).spent = (s.book x.book).spent + us.toNat ∧
      (∀ b, b ≠ x.book → t.book b = s.book b) ∧ BlocksKept [bFRAD] s t ∧ MemKept s t := by
  have hinner : ∀ b, State.book (s.setField { s.field with resv := s.field.resv.erase x }) b = s.book b := fun b =>
    State.book_congr rfl fun _ => rfl
  obtain ⟨k, u, havail, hres, hspent, hu, heff⟩ : ∃ (k : Book) (u : State),
      k.avail = (s.book x.book).avail + (x.tokens : Int) - (us.toNat : Int) ∧ k.reserved = (s.book x.book).reserved - x.tokens ∧
      k.spent = (s.book x.book).spent + us.toNat ∧ u = (s.setField { s.field with resv := s.field.resv.erase x }).setBook x.book k ∧
      s.endTx r us.toNat = if 5 ≤ x.book then u.wr (F.FRAD_DWELL_MAX_US r) (max (u.rd (F.FRAD_DWELL_MAX_US r)) k.spent) else u := by
    unfold State.endTx
    rw [hx]
    exact ⟨_, _, rfl, rfl, rfl, rfl, rfl⟩
  obtain ⟨hmem, -, hfield⟩ := (s.setField { s.field with resv := s.field.resv.erase x }).setBook_frame x.book k
  obtain ⟨v, hv⟩ : ∃ v, v = if 5 ≤ x.book then u.wr (F.FRAD_DWELL_MAX_US r) (max (u.rd (F.FRAD_DWELL_MAX_US r)) k.spent) else u := ⟨_, rfl⟩
  have hkept : v.mem = u.mem ∧ v.field = u.field ∧ ∀ g : Fld, g.key ≠ (F.FRAD_DWELL_MAX_US r).key → v.rd g = u.rd g := by
    rw [hv]
    split
    · exact ⟨rfl, rfl, fun g hg => u.rd_wr_other _ hg⟩
    · exact ⟨rfl, rfl, fun _ _ => rfl⟩
  obtain ⟨hvmem, hvfield, hvrd⟩ := hkept
  have hbook : ∀ b, v.book b = u.book b := fun b => State.book_congr (congrArg FieldState.books hvfield) fun hb =>
    hvrd _ (by simp only [Fld.key, F.FRAD_SUBBAND_CFG_DUTY_CENT, F.FRAD_DWELL_MAX_US]; omega)
  have hsame : u.book x.book = k := by rw [hu, State.setBook_book_same]
  refine ⟨s.ended v, congrArg (finish s) (heff.trans hv.symm), ?_, ?_, ?_, ?_, fun b hb => ?_, ?_, ?_⟩
  · rw [State.ended_field, hvfield, hu, hfield]
    rfl
  · rw [State.ended_book, hbook, hsame, havail]
  · rw [State.ended_book, hbook, hsame, hres]
  · rw [State.ended_book, hbook, hsame, hspent]
  · rw [State.ended_book, hbook, hu, State.setBook_book_other _ _ _ hb, hinner]
  · refine State.ended_blocksKept fun g hg => ?_
    have hoff := hg _ List.mem_cons_self
    have hne : g.key ≠ (F.FRAD_DWELL_MAX_US r).key := fun he => by
      have := of_decide_eq_false hoff
      rw [he] at this
      simp only [Fld.key, F.FRAD_DWELL_MAX_US, blockBase, bFRAD, blockNo] at this
      omega
    rw [hvrd g hne, hu, State.setBook_rd _ _ _ (offToken_of_block hoff)]
    rfl
  · exact State.ended_memKept (hvmem.trans (by rw [hu, hmem]; rfl))

/-! ## Buckets that age (R166) -/

/-- Book `k` is the book `b` of `s` with the buckets gone that have left its window at `now`. -/
def AgedFrom (s : State) (now b : Nat) (k : Book) : Prop :=
  (∀ e ∈ k.buckets, now < e.1 + bookWindow b) ∧ k.avail = (s.book b).avail +
    ((((s.book b).buckets.filter (fun e => decide (e.1 + bookWindow b ≤ now))).map (·.2)).sum : Nat)

theorem State.ageBook_spec (s : State) (b : Nat) : AgedFrom s s.bucketSec b ((s.ageBook b).book b) ∧
    (∀ c, c ≠ b → (s.ageBook b).book c = s.book c) ∧ (s.ageBook b).mem = s.mem ∧ (s.ageBook b).bucketSec = s.bucketSec ∧
    ∀ g, inBlock bFRAD g.key = false → (s.ageBook b).rd g = s.rd g := by
  unfold State.ageBook
  extract_lets k old t
  have hold : old = (s.book b).buckets.filter (fun e => decide (e.1 + bookWindow b ≤ s.bucketSec)) := rfl
  split
  case isTrue hnone =>
    refine ⟨⟨fun e he => ?_, ?_⟩, fun _ _ => rfl, rfl, rfl, fun _ _ => rfl⟩
    · have := List.filter_eq_nil_iff.mp (hold.symm.trans hnone) e he
      simpa using this
    · rw [← hold, hnone]
      simp
  case isFalse =>
    obtain ⟨hmem, hsec, -⟩ := s.setBook_frame b { k with
      spent := k.spent - t, avail := k.avail + (t : Int), buckets := k.buckets.drop (fun d => decide (d + bookWindow b ≤ s.bucketSec)) }
    refine ⟨⟨fun e he => ?_, ?_⟩, fun c hc => State.setBook_book_other _ _ _ hc, hmem, hsec,
      fun g hg => State.setBook_rd _ _ _ (offToken_of_block hg)⟩
    · rw [State.setBook_book_same] at he
      have := (List.mem_filter.mp he).2
      simpa using this
    · rw [State.setBook_book_same]

theorem AMap.find_eq_none {α : Type} (m : AMap α) (k : Nat) (h : ∀ e ∈ m, e.1 ≠ k) : m.find k = none := by
  induction m with
  | nil => rfl
  | cons e m ih =>
    simp only [AMap.find]
    rw [if_neg (fun he => h e List.mem_cons_self he.symm)]
    exact ih fun e he => h e (List.mem_cons_of_mem _ he)

theorem State.ageBooks_spec (l : List (Nat × Book)) : ∀ s : State,
    (∀ b, b ∈ l.map (·.1) → AgedFrom s s.bucketSec b ((l.foldl (fun s e => s.ageBook e.1) s).book b)) ∧
    (∀ b, b ∉ l.map (·.1) → (l.foldl (fun s e => s.ageBook e.1) s).book b = s.book b) ∧
    (l.foldl (fun s e => s.ageBook e.1) s).mem = s.mem ∧
    ∀ g, inBlock bFRAD g.key = false → (l.foldl (fun s e => s.ageBook e.1) s).rd g = s.rd g := by
  induction l with
  | nil => exact fun s => ⟨fun b hb => absurd hb List.not_mem_nil, fun _ _ => rfl, rfl, fun _ _ => rfl⟩
  | cons e l ih =>
    intro s
    obtain ⟨⟨hin, havail⟩, hother, hmem, hsec, hrd⟩ := s.ageBook_spec e.1
    obtain ⟨haged, hkept, hmem', hrd'⟩ := ih (s.ageBook e.1)
    rw [hsec] at haged
    refine ⟨fun b hb => ?_, fun b hb => ?_, hmem'.trans hmem, fun g hg => (hrd' g hg).trans (hrd g hg)⟩
    · by_cases hmemb : b ∈ l.map (·.1)
      · obtain ⟨hin', havail'⟩ := haged b hmemb
        refine ⟨hin', havail'.trans ?_⟩
        by_cases hbe : b = e.1
        · subst hbe
          have hnone : ((s.ageBook e.1).book e.1).buckets.filter (fun x => decide (x.1 + bookWindow e.1 ≤ s.bucketSec)) = [] :=
            List.filter_eq_nil_iff.mpr fun x hx => by
              have := hin x hx
              simpa using this
          rw [hnone, havail]
          simp
        · rw [hother b hbe]
      · have hbe : b = e.1 := by simpa [hmemb] using hb
        subst hbe
        have : ((e :: l).foldl (fun s e => s.ageBook e.1) s).book e.1 = (s.ageBook e.1).book e.1 := hkept e.1 hmemb
        rw [this]
        exact ⟨hin, havail⟩
    · simp only [List.map_cons, List.mem_cons, not_or] at hb
      obtain ⟨hbe, hbl⟩ := hb
      exact (hkept b hbl).trans (hother b hbe)

theorem exec_bucketAge {s : State} (hon : s.isOn 31 = true) : ∃ t, exec .bucketAge s = .next t ∧ BlocksKept [bFRAD] s t ∧ MemKept s t ∧
      ∀ b, (∀ e ∈ (t.book b).buckets, s.bucketSec < e.1 + bookWindow b) ∧
        (t.book b).avail = (s.book b).avail +
          ((((s.book b).buckets.filter (fun e => decide (e.1 + bookWindow b ≤ s.bucketSec))).map (·.2)).sum : Nat) := by
  obtain ⟨haged, hkept, hmem, hrd⟩ := State.ageBooks_spec s.field.books s
  have heff : s.bucketAge = s.field.books.foldl (fun s e => s.ageBook e.1) s := if_pos hon
  refine ⟨_, congrArg (finish s) heff, State.ended_blocksKept fun g hg => hrd g (hg _ List.mem_cons_self),
    State.ended_memKept hmem, fun b => ?_⟩
  have hbook := State.ended_book s (s.field.books.foldl (fun s e => s.ageBook e.1) s) b
  have hall : AgedFrom s s.bucketSec b ((s.field.books.foldl (fun s e => s.ageBook e.1) s).book b) := by
    by_cases hb : b ∈ s.field.books.map (·.1)
    · exact haged b hb
    · have hfind : s.field.books.find b = none := AMap.find_eq_none _ _ fun e he hne => hb (List.mem_map.mpr ⟨e, he, hne⟩)
      have hempty : (s.book b).buckets = [] := by rw [State.book, AMap.get, hfind]; rfl
      rw [hkept b hb]
      exact ⟨fun e he => absurd (hempty ▸ he) List.not_mem_nil, by rw [hempty]; simp⟩
  rw [← hbook] at hall
  exact hall

/-! ## The airtime record (R168) -/

theorem exec_airtimeRecord {n j : Nat} {s : State} (hstopped : s.field.started = false) (hn : 60 ≤ n) (hj : s.jid = some j)
    (hup : s.jrnUp = true) : ∃ t, exec (.airtimeRecord n) s = .next t ∧ t.jrn.air.find j = some s.airRec ∧ RegsKept [] s t ∧ MemKept s t := by
  let u : State := { s with jrn := { s.jrn with air := s.jrn.air.set j s.airRec } }
  have hair : s.jrnAir = u := by
    unfold State.jrnAir
    rw [hj]
    exact if_pos hup
  have heff : s.airtimeRecord n = u := (if_pos ⟨by simp [hstopped], hn⟩).trans hair
  refine ⟨s.ended u, congrArg (finish s) heff, ?_, State.ended_regsKept fun _ _ => rfl, State.ended_memKept rfl⟩
  exact (congrArg (fun x => x.air.find j) (s.ended_jrn u)).trans (AMap.find_set_same _ _ _)

end Sys2Proof.Machine
end

section
/-!
PROOFS. FRAD_SUBBAND_CFG and FRAD_AUDIT_CTRL (R165, R167).
-/
namespace Sys2Proof.Machine

/-! ## What a write of registers leaves of the books -/

theorem State.putList_field (req a b : Nat) (ix : List Nat) (v : Nat) (l : List FieldDef) (s : State) :
    (s.putList req a b ix v l).field = s.field := by
  have hput : ∀ (t : State) (f : FieldDef), (t.putField req b (f.at a ix) f (bits v f.lo f.width)).field = t.field := fun t f => by
    unfold State.putField State.recordP
    repeat' split
    all_goals rfl
  exact foldl_kept State.field hput l s

theorem State.showFieldRun_rd (s : State) {g : Fld} (hg : notRun g.key) : s.showFieldRun.rd g = s.rd g := by
  unfold State.showFieldRun
  extract_lets c r
  exact (State.rd_wr_other _ _ (hg bNODE (by decide))).trans ((State.rd_wr_other _ _ (hg bFRAD (by decide))).trans
    (State.rd_wr_other _ _ (hg bFPLC (by decide))))

/-! ## FRAD_SUBBAND_CFG (R167) -/

/-- The register and the fields at FRAD_SUBBAND_CFG of a sub-band. -/
theorem regs_subband : ∀ b : Fin 5, regBlock (0x40070020 + 4 * b.val) = some (bFRAD, 0x20 + 4 * b.val) ∧
    lookupReg (0x40070020 + 4 * b.val) = some (regsFrad[2], [b.val]) ∧
    regsFrad[2].flds[0].at (0x40070020 + 4 * b.val) [b.val] = F.FRAD_SUBBAND_CFG_PRIO_PCT b ∧
    regsFrad[2].flds[1].at (0x40070020 + 4 * b.val) [b.val] = F.FRAD_SUBBAND_CFG_DUTY_CENT b := by
  decide

/-- The machine once FRAD_SUBBAND_CFG of sub-band `b` holds PRIO_PCT `p` and DUTY_CENT `d`. -/
def State.subbandPut (s : State) (req : Nat) (b : Fin 5) (p : Byte) (d : BitVec 16) : State :=
  s.putList req (0x40070020 + 4 * b.val) bFRAD [b.val] (p.toNat * 2 ^ 16 + d.toNat) regsFrad[2].flds

section
variable (req : Nat) (b : Fin 5) (p : Byte) (d : BitVec 16) (s : State)

theorem bits_subband : bits (p.toNat * 2 ^ 16 + d.toNat) 16 8 = p.toNat ∧ bits (p.toNat * 2 ^ 16 + d.toNat) 0 16 = d.toNat := by
  unfold bits
  omega

theorem State.subbandPut_spec : (s.subbandPut req b p d).rd (F.FRAD_SUBBAND_CFG_PRIO_PCT b) = p.toNat ∧
    (s.subbandPut req b p d).rd (F.FRAD_SUBBAND_CFG_DUTY_CENT b) = d.toNat ∧ (s.subbandPut req b p d).mem = s.mem ∧
    (s.subbandPut req b p d).field = s.field ∧ ∀ g : Fld, inBlock bFRAD g.key = false → (s.subbandPut req b p d).rd g = s.rd g := by
  obtain ⟨-, -, hprio, hduty⟩ := regs_subband b
  obtain ⟨hp, hd⟩ := bits_subband p d
  have hlo : ∀ f ∈ regsFrad[2].flds, f.lo < 32 := by decide
  have htook : ∀ f ∈ regsFrad[2].flds, f.acc = .rw → f.perReq = false → f.tag ≠ .h →
      (s.subbandPut req b p d).rd (f.at (0x40070020 + 4 * b.val) [b.val]) = bits (p.toNat * 2 ^ 16 + d.toNat) f.lo f.width :=
    fun f hf hacc hper htag => by
      obtain ⟨-, -, hnow⟩ := State.putList_took req (0x40070020 + 4 * b.val) bFRAD [b.val] (p.toNat * 2 ^ 16 + d.toNat)
        regsFrad[2].flds s (by decide) (fun e he => by
          have := hlo e he
          simp only [Fld.key, F.STATE_RUN, FieldDef.at, bFRAD, blockNo]
          omega) hf hacc
      exact (hnow hper (.inl htag)).1
  obtain ⟨hmem, -, -⟩ := State.putList_frame req (0x40070020 + 4 * b.val) bFRAD [b.val] (p.toNat * 2 ^ 16 + d.toNat) regsFrad[2].flds s
  refine ⟨?_, ?_, hmem, State.putList_field .., fun g hg => ?_⟩
  · exact hprio ▸ (htook regsFrad[2].flds[0] (by decide) rfl rfl (by decide)).trans hp
  · exact hduty ▸ (htook regsFrad[2].flds[1] (by decide) rfl rfl (by decide)).trans hd
  · refine (State.putList_other req _ bFRAD _ _ _ s fun f hf he => ?_).1
    have hout := of_decide_eq_false hg
    have := hlo f hf
    rw [he] at hout
    simp only [Fld.key, FieldDef.at, blockBase, bFRAD, blockNo] at hout
    omega

theorem State.subband_applied : s.applyWrite req (0x40070020 + 4 * b.val) bFRAD regsFrad[2] [b.val] (p.toNat * 2 ^ 16 + d.toNat)
    WriteMore.none = (stOK, ((s.subbandPut req b p d).dutyWritten b).showFieldRun) := by
  have hafter : ∀ (t : State) (i : Nat), t.afterWrite s req bFRAD 0x20 i = (t.dutyWritten i).showFieldRun := fun _ _ => rfl
  have hoff : regsFrad[2].off = 0x20 := rfl
  have hact : (bFRAD, 0x20) ∉ actRegs := by decide
  have hword : s.hcpEnWord req (0x40070020 + 4 * b.val) (p.toNat * 2 ^ 16 + d.toNat) = p.toNat * 2 ^ 16 + d.toNat :=
    if_neg fun h => by omega
  simp only [State.applyWrite, show ¬ (bFRAD = bRTC) by decide, show ¬ (bFRAD = bRINGA ∨ bFRAD = bRINGB) by decide, false_and,
    if_false, hword, State.putFields_eq_putList _ _ _ _ _ _ (show 0x40070020 + 4 * b.val ≠ 0x400D0024 by omega), hoff, hafter,
    State.regAct_none _ _ _ _ _ hact]
  rfl

theorem State.subband_accepted (hp : p.toNat ≤ 50) (hd : d.toNat ≤ dutyOf b.val) :
    s.writeReason req (0x40070020 + 4 * b.val) bFRAD regsFrad[2] [b.val] (p.toNat * 2 ^ 16 + d.toNat) = 0 := by
  obtain ⟨-, -, -, hduty⟩ := regs_subband b
  obtain ⟨hbp, hbd⟩ := bits_subband p d
  have htaken : (s.taken req (0x40070020 + 4 * b.val) bFRAD regsFrad[2] [b.val] (p.toNat * 2 ^ 16 + d.toNat)).rd
      (F.FRAD_SUBBAND_CFG_DUTY_CENT b) = d.toNat := by
    have hput : s.taken req (0x40070020 + 4 * b.val) bFRAD regsFrad[2] [b.val] (p.toNat * 2 ^ 16 + d.toNat) =
        ((s.ahead bFRAD).wr (regsFrad[2].flds[0].at (0x40070020 + 4 * b.val) [b.val]) (bits (p.toNat * 2 ^ 16 + d.toNat) 16 8)).wr
          (regsFrad[2].flds[1].at (0x40070020 + 4 * b.val) [b.val]) (bits (p.toNat * 2 ^ 16 + d.toNat) 0 16) := by
      simp only [State.taken, State.fieldFor, if_neg (show ¬ 0x40070020 + 4 * b.val = 0x400D0024 by omega)]
      rfl
    rw [hput, hduty, hbd]
    exact State.rd_wr_fits _ _ d.isLt
  refine s.writeReason_zero req _ bFRAD _ _ _ (by decide) ?_ (by decide) ?_ rfl
  · change (chkField (.range 0 50) 8 (bits _ 16 8) == (true, true) && (chkField .any 16 (bits _ 0 16) == (true, true) && true)) = true
    rw [hbp]
    simp [chkField, hp]
  · change decide (State.rd _ (F.FRAD_SUBBAND_CFG_DUTY_CENT b) ≤ dutyOf b) = true
    rw [htaken]
    exact decide_eq_true hd

theorem State.dutyWritten_spec (hduty : s.rd (F.FRAD_SUBBAND_CFG_DUTY_CENT b) = d.toNat) :
    ((s.dutyWritten b).book b).budget = d.toNat * 360000 ∧ ((s.dutyWritten b).book b).reserved = (s.book b).reserved ∧
    ((s.dutyWritten b).book b).spent = (s.book b).spent ∧
    ((s.dutyWritten b).book b).avail = (d.toNat : Int) * 360000 - ((s.book b).reserved : Int) - ((s.book b).spent : Int) := by
  have hbudget : s.bookBudget b = d.toNat * 360000 := by rw [State.bookBudget, if_pos b.isLt, hduty]
  unfold State.dutyWritten
  rw [hbudget, State.setBook_book_same]
  exact ⟨rfl, rfl, rfl, by push_cast; rfl⟩

/-- What a book's tokens reserved and spent are does not rest on its budget. -/
theorem State.book_used {s t : State} (h : t.field.books = s.field.books) (b : Nat) :
    (t.book b).reserved = (s.book b).reserved ∧ (t.book b).spent = (s.book b).spent := by
  unfold State.book
  rw [h]
  cases hb : s.field.books.find b <;> simp [AMap.get, hb]

end

section
variable (req : Fin 36) {s : State} (hon : s.blockOn bFRAD = true)
include hon

theorem State.addrUp_frad {a : Nat} (h : 0x40070000 ≤ a ∧ a < 0x4007FF00) : s.addrUp a = true :=
  (s.addrUp_block bFRAD a (by decide) (by simp only [blockBase, bFRAD, blockNo]; omega)
    (by simp only [blockBase, bFRAD, blockNo]; omega)).trans hon

theorem exec_fradSubbandCfg (b : Fin 5) {p : Byte} {d : BitVec 16} (hp : p.toNat ≤ 50) (hd : d.toNat ≤ dutyOf b.val) :
    ∃ t, exec (.fradSubbandCfg req b p d) s = .next t ∧ t.rd (F.FRAD_SUBBAND_CFG_PRIO_PCT b) = p.toNat ∧
      t.rd (F.FRAD_SUBBAND_CFG_DUTY_CENT b) = d.toNat ∧ (t.book b).budget = d.toNat * 360000 ∧
      (t.book b).reserved = (s.book b).reserved ∧ (t.book b).spent = (s.book b).spent ∧
      (t.book b).avail = (d.toNat : Int) * 360000 - ((s.book b).reserved : Int) - ((s.book b).spent : Int) ∧
      BlocksKept [bFRAD] s t ∧ MemKept s t := by
  obtain ⟨hblock, hreg, -, -⟩ := regs_subband b
  have hwrite := (s.regWrite_accept (req := req) (x := WriteMore.none) (State.addrUp_frad hon (by omega)) (by omega) hblock hreg
    (fun h => absurd h.1 (by decide)) (State.subband_accepted req b p d s hp hd)).trans (State.subband_applied req b p d s)
  obtain ⟨hprio, hduty, hmem, hfield, hkept⟩ := State.subbandPut_spec req b p d s
  obtain ⟨hres, hspent⟩ := State.book_used (congrArg FieldState.books hfield) b
  have hdutied := State.dutyWritten_spec b d _ hduty
  rw [hres, hspent] at hdutied
  have hrow : s.rowWrite req (0x40070020 + 4 * b.val) (p.toNat * 2 ^ 16 + d.toNat) WriteMore.none =
      (((s.subbandPut req b p d).dutyWritten b).showFieldRun).answer req (0x40070020 + 4 * b.val) stOK 0 := by
    rw [State.rowWrite, hwrite]
  have hset : ∀ g, OffToken g → ((s.subbandPut req b p d).dutyWritten b).rd g = (s.subbandPut req b p d).rd g :=
    fun g hg => State.setBook_rd _ _ _ hg
  have hsetMem : ((s.subbandPut req b p d).dutyWritten b).mem = s.mem := (State.setBook_frame ..).1.trans hmem
  generalize (s.subbandPut req b p d).dutyWritten b = v at *
  have hshown : ∀ g : Fld, notRun g.key → (v.showFieldRun.answer req (0x40070020 + 4 * b.val) stOK 0).rd g = v.rd g :=
    fun g hg => (State.answer_rd ..).trans (v.showFieldRun_rd hg)
  have hbook : (s.ended (v.showFieldRun.answer req (0x40070020 + 4 * b.val) stOK 0)).book b = v.book b :=
    (State.ended_book ..).trans (State.book_congr rfl fun hb => hshown _ (Fld.notRun (by simp only [F.FRAD_SUBBAND_CFG_DUTY_CENT]; omega)))
  have hprioOff : OffToken (F.FRAD_SUBBAND_CFG_PRIO_PCT b) := fun r i _ _ => by
    simp only [Fld.key, F.FRAD_SUBBAND_CFG_PRIO_PCT, F.FRAD_TOKEN_VALUE]
    omega
  have hread : ∀ g : Fld, notRun g.key → OffToken g →
      (s.ended (v.showFieldRun.answer req (0x40070020 + 4 * b.val) stOK 0)).rd g = (s.subbandPut req b p d).rd g := fun g hg hoff =>
    (State.ended_rd _ _ hg).trans ((hshown g hg).trans (hset g hoff))
  refine ⟨_, congrArg (finish s) hrow, (hread _ (Fld.notRun ?_) hprioOff).trans hprio,
    (hread _ (Fld.notRun ?_) (offToken_duty b.isLt)).trans hduty, ?_, ?_, ?_, ?_, ?_, State.ended_memKept hsetMem⟩
  · simp only [F.FRAD_SUBBAND_CFG_PRIO_PCT]
    omega
  · simp only [F.FRAD_SUBBAND_CFG_DUTY_CENT]
    omega
  · exact (congrArg Book.budget hbook).trans hdutied.1
  · exact (congrArg Book.reserved hbook).trans hdutied.2.1
  · exact (congrArg Book.spent hbook).trans hdutied.2.2.1
  · exact (congrArg Book.avail hbook).trans hdutied.2.2.2
  · exact fun g hg hout => (hread g hg (offToken_of_block (hout _ List.mem_cons_self))).trans (hkept g (hout _ List.mem_cons_self))

/-! ## FRAD_AUDIT_CTRL (R165) -/

omit hon in
/-- A map filled from the fields of a list holds each under its key, where fields with one key are one field. -/
theorem AMap.find_foldl_set {α : Type} (key : α → Nat) (v : α → Nat) (l : List α) : ∀ (m : AMap Nat),
    (∀ k, (∀ g ∈ l, key g ≠ k) → (l.foldl (fun m f => m.set (key f) (v f)) m).find k = m.find k) ∧
    ∀ f ∈ l, (∀ g ∈ l, key g = key f → v g = v f) → (l.foldl (fun m f => m.set (key f) (v f)) m).find (key f) = some (v f) := by
  induction l with
  | nil => exact fun m => ⟨fun _ _ => rfl, fun f hf => absurd hf List.not_mem_nil⟩
  | cons a l ih =>
    intro m
    obtain ⟨hother, hin⟩ := ih (m.set (key a) (v a))
    refine ⟨fun k hk => ?_, fun f hf huniq => ?_⟩
    · exact (hother k fun g hg => hk g (List.mem_cons_of_mem _ hg)).trans (AMap.find_set_other _ _ (hk a List.mem_cons_self).symm)
    · by_cases hmem : ∃ g ∈ l, key g = key f
      · obtain ⟨g, hg, hgk⟩ := hmem
        have hfound := hin g hg fun x hx hxk =>
          (huniq x (List.mem_cons_of_mem _ hx) (hxk.trans hgk)).trans (huniq g (List.mem_cons_of_mem _ hg) hgk).symm
        rw [hgk, huniq g (List.mem_cons_of_mem _ hg) hgk] at hfound
        exact hfound
      · have hnot : ∀ g ∈ l, key g ≠ key f := fun g hg hgk => hmem ⟨g, hg, hgk⟩
        have hfa : f = a := by
          rcases List.mem_cons.mp hf with rfl | hfl
          · rfl
          · exact absurd rfl (hnot f hfl)
        subst hfa
        exact (hother (key f) hnot).trans (AMap.find_set_same _ _ _)

/-- The fields of FRAD_TOKEN. -/
def tokenFlds : List Fld := (List.range 7).flatMap (fun b => (List.range 4).map (fun t => F.FRAD_TOKEN_VALUE b t))

omit hon in
theorem tokenFlds_addr : ∀ f ∈ tokenFlds, ∀ g ∈ tokenFlds, f.addr = g.addr → f = g := by decide

/-- The machine with the latches `m` and a snapshot of the airtime books counted. -/
def State.snapped (s : State) (m : AMap Nat) : State := State.inc { s with latches := m } F.FRAD_AUDIT_CTRL_SNAP_CNT

omit hon in
theorem State.snapped_spec (s : State) (m : AMap Nat) :
    (s.snapped m).rd F.FRAD_AUDIT_CTRL_SNAP_CNT = (s.rd F.FRAD_AUDIT_CTRL_SNAP_CNT + 1) % 2 ^ 16 ∧
    (∀ g : Fld, g.key ≠ F.FRAD_AUDIT_CTRL_SNAP_CNT.key → (s.snapped m).rd g = s.rd g) ∧ (s.snapped m).latches = m ∧
    (s.snapped m).mem = s.mem := ⟨State.rd_wr_same .., fun _ hg => State.rd_wr_other _ _ hg, rfl, rfl⟩

omit hon in
theorem State.fradSnap_eq (s : State) : s.fradSnap req =
    s.snapped (tokenFlds.foldl (fun m (f : Fld) => m.set (reqKey req f.addr) (s.rd f)) s.latches) := rfl

omit hon in
theorem State.latched_find (s : State) (req : Nat) (l : List Fld) (huniq : ∀ f ∈ l, ∀ g ∈ l, f.addr = g.addr → f = g) (f : Fld)
    (hf : f ∈ l) : (l.foldl (fun m (f : Fld) => m.set (reqKey req f.addr) (s.rd f)) s.latches).find (reqKey req f.addr) =
      some (s.rd f) :=
  (AMap.find_foldl_set (fun f : Fld => reqKey req f.addr) (fun f => s.rd f) l s.latches).2 f hf fun g hg hk => by
    rw [huniq g hg f hf (Nat.add_left_cancel hk)]

omit hon in
theorem State.fradSnap_spec (s : State) : (s.fradSnap req).rd F.FRAD_AUDIT_CTRL_SNAP_CNT = (s.rd F.FRAD_AUDIT_CTRL_SNAP_CNT + 1) % 2 ^ 16 ∧
    (∀ g : Fld, g.key ≠ F.FRAD_AUDIT_CTRL_SNAP_CNT.key → (s.fradSnap req).rd g = s.rd g) ∧
    (∀ f ∈ tokenFlds, (s.fradSnap req).latches.find (reqKey req f.addr) = some (s.rd f)) ∧ (s.fradSnap req).mem = s.mem := by
  obtain ⟨hcount, hrd, hlatches, hmem⟩ := s.snapped_spec (tokenFlds.foldl (fun m (f : Fld) => m.set (reqKey req f.addr) (s.rd f)) s.latches)
  rw [State.fradSnap_eq]
  refine ⟨hcount, hrd, fun f hf => ?_, hmem⟩
  rw [hlatches]
  exact State.latched_find s req tokenFlds tokenFlds_addr f hf

theorem exec_fradAuditSnap : ∃ t, exec (.fradAuditSnap req) s = .next t ∧
      t.rd F.FRAD_AUDIT_CTRL_SNAP_CNT = (s.rd F.FRAD_AUDIT_CTRL_SNAP_CNT + 1) % 2 ^ 16 ∧
      (∀ b i, b < 7 → i < 4 → t.latches.find (reqKey req (F.FRAD_TOKEN_VALUE b i).addr) = some (s.rd (F.FRAD_TOKEN_VALUE b i))) ∧
      RegsKept [F.FRAD_AUDIT_CTRL_SNAP_CNT] s t ∧ MemKept s t := by
  have hrow := s.rowWrite_after (req := req) (a := 0x400700C0) (v := 1) (x := WriteMore.none) (State.addrUp_frad hon (by decide))
    (by decide) (b := bFRAD) (off := 0xC0) (r := regsFrad[4]) (ix := []) (by decide) (by decide) (by decide) (by decide)
    (by decide) rfl rfl (by decide)
  have hafter : s.afterWrite s req bFRAD 0xC0 0 = s.showFieldRun := rfl
  have hact : ∀ u : State, u.regAct req bFRAD 0xC0 0 1 WriteMore.none = (stOK, u.fradSnap req) := fun _ => rfl
  rw [show regsFrad[4].off = 0xC0 from rfl, List.headD_nil, hafter, hact] at hrow
  have hrd : ∀ g : Fld, notRun g.key → s.showFieldRun.rd g = s.rd g := fun g hg => s.showFieldRun_rd hg
  have hmem : s.showFieldRun.mem = s.mem := rfl
  generalize s.showFieldRun = u at *
  obtain ⟨hcount, hkept, hlatched, hsnapMem⟩ := State.fradSnap_spec req u
  generalize u.fradSnap req = v at *
  refine ⟨s.ended (v.answer req 0x400700C0 stOK 0), congrArg (finish s) hrow, ?_, fun b i hb hi => ?_, fun g hg hne => ?_,
    State.ended_memKept (hsnapMem.trans hmem)⟩
  · refine (State.ended_rd _ _ (Fld.notRun (by decide))).trans ((State.answer_rd ..).trans (hcount.trans ?_))
    exact congrArg (fun x => (x + 1) % 2 ^ 16) (hrd _ (Fld.notRun (by decide)))
  · rw [← hrd _ (Fld.notRun (by simp only [F.FRAD_TOKEN_VALUE]; omega))]
    have hmemb : F.FRAD_TOKEN_VALUE b i ∈ tokenFlds := List.mem_flatMap.mpr
      ⟨b, List.mem_range.mpr hb, List.mem_map.mpr ⟨i, List.mem_range.mpr hi, rfl⟩⟩
    have hkeep : (s.ended (v.answer req 0x400700C0 stOK 0)).latches = v.latches := State.ended_latches ..
    rw [hkeep]
    exact hlatched _ hmemb
  · exact (State.ended_rd _ _ hg).trans ((State.answer_rd ..).trans
      ((hkept g (hne _ (List.mem_singleton.mpr rfl))).trans (hrd g hg)))

end

/-- Settles O23: each clause is the rule of its command, for the states and operands the clause names. -/
theorem superframeAndAirtimeCommands : Obligations.SuperframeAndAirtimeCommands := by
  unfold Obligations.SuperframeAndAirtimeCommands
  refine ⟨?_, ?_, ?_, ?_, ?_, ?_, ?_, ?_⟩
  · exact fun _ _ _ hstarted hon hdue hfirst hfplc hnode => exec_carrierBoundary hstarted hon hdue hfirst hfplc hnode
  · exact fun _ _ _ _ hstarted hon hdue hlast hfrad => exec_radioBoundary ⟨hstarted, hon, hdue, hlast⟩ hfrad
  · exact fun _ _ _ _ hstopped hon hn hfplc hnode hfrad hr =>
      exec_superframeStart hstopped hon hn hfplc hnode hfrad (State.startSfn_eq hr)
  · exact fun _ _ _ hstopped hn hj hup => exec_airtimeRecord hstopped hn hj hup
  · exact fun _ _ _ _ hx => exec_endOfTransmission hx
  · exact fun _ hon => exec_bucketAge hon
  · exact fun req b _ _ _ hon hp hd => exec_fradSubbandCfg req hon b hp hd
  · exact fun req _ hon => exec_fradAuditSnap req hon

end Sys2Proof.Machine
end
